-- ==== Sys2Proof/Word.lean ====
section
/-!
DEFINITION. Sys2Proof/Word.lean: the words of the IV4896. A register is 32 bits wide (R6) and the smallest addressable
unit is the byte.
-/
namespace Sys2Proof

/-- One byte of memory, of the halter port or of a coded stream. -/
abbrev Byte := BitVec 8

/-- One 32-bit register or one 32-bit access (R6). -/
abbrev Word := BitVec 32

end Sys2Proof
end

