-- ==== Sys2Proof/Syntax.lean ====
section
/-!
DEFINITION. Sys2Proof/Syntax.lean: the commands and events of the IV4896, one constructor per row of
spec/opcode_table.json, with the row's operands.
-/
namespace Sys2Proof

/-- The access paths of R16: the host's BAR0, the register mirror as each engine, IDMA ring channel and compatibility
channel sees it, the halter's SMBus port and the USB 2.0 management interface. -/
inductive Path where
  | bar0
  | engine (n : Fin 96)
  | ring (n : Fin 32)
  | compat (n : Fin 8)
  | smbus
  | usb2
  deriving DecidableEq, Repr

/-- Spread of the residual slice corrections of a bank (R149): offset in 10^-6 LSB, gain in 10^-9, skew in femtoseconds. -/
structure Spread where
  ofs : Nat
  gain : Nat
  skew : Nat
  deriving DecidableEq, Repr

/-- What an aux conversion sees, averaged through its filter: the voltages at the AUX pins of AINP, AINN, REFP and REFN, or of
VDDA18 / 4 where a code selects it, or of the excitation output in `rp`, in picovolts; the modulator overloaded; the change of
Vd over the open-wire pulse in microvolts. -/
structure AuxInput where
  vp : Int
  vn : Int
  rp : Int
  rn : Int
  overload : Bool
  dOpen : Nat
  deriving DecidableEq, Repr

/-- A packet as a port receives it (Tables 13-1, 13-3), without its TYPE: the header fields, the payload flits as bytes (padded
with 0), the payload flits that carry the poison pattern, and the trailer flit of an encrypted link: GCM tag and counter. -/
structure Packet where
  dst : BitVec 8
  src : BitVec 8
  ttl : BitVec 4
  plen : BitVec 9
  lseq : BitVec 7
  tag : BitVec 16
  arg : Word
  pcrc : Word
  payload : List Byte
  bad : List Nat
  trailer : Option (List Byte × Word)
  deriving DecidableEq, Repr

/-- A request to the halter port as it arrives: over USB or SMBus, its data bytes, and the check that follows them, if one does:
the PEC byte, or the CRC-32C of a USB transfer (R468, R496). -/
structure HaltRequest where
  usb : Bool
  data : List Byte
  check : Option Word
  deriving DecidableEq, Repr

/-- The commands and events. Each constructor's comment is its row of the opcode table. -/
inductive Instr where
  /-- REGISTER_WRITE: A write to a register field that has no row of its own takes effect under its Takes effect value. (R11) -/
  | registerWrite (path : Path) (off : Nat) (size : Nat) (w : Word)
  /-- SHADOW_LOW_READ: A read of the least significant part of a wide value copies the higher parts into that path's shadow. (R15) -/
  | shadowLowRead (path : Path) (off : Nat) (size : Nat)
  /-- READ_CLEAR_ACCESS: A read of an RC field returns its value and then clears it, or removes the read word from a queue. (R10) -/
  | readClearAccess (path : Path) (off : Nat) (size : Nat)
  /-- UNMAPPED_BAR_ACCESS: An access to a BAR0 range that belongs to no block reads 0 or is discarded, and sets ERR_STAT.ACC. (R517) -/
  | unmappedBarAccess (path : Path) (off : Nat) (write : Bool)
  /-- PLL_LOCK: The root PLL locks, the functional clocks start and SYS.TIME starts counting. (R23) -/
  | pllLock
  /-- PLL_LOSS_OF_LOCK: On loss of lock the AON domain stops the clocks, disables motors and LEDs, counts the loss, alerts and attempts relock. (R24) -/
  | pllLossOfLock
  /-- CLOCK_LOSS_RESET: After relock, the main side restarts under the clock-loss column of the reset table. (R77) -/
  | clockLossReset
  /-- PATROL_SCRUB_READ: The patrol scrubber reads the next SRAM or page-store word of its pass and repairs it. (R37) -/
  | patrolScrubRead (flips : List Nat)
  /-- SW_EVENT: A write of EVM.SW_EV fires the selected software event lines in the following cycle. (R42) -/
  | swEvent (path : Path) (w : Word)
  /-- EVENT_MONITOR_PULSE: A monitor counter counts a pulse on its selected event line. (R42) -/
  | eventMonitorPulse (m : Fin 4)
  /-- ETIM_ENABLE: A write of ETIMn_CTL.EN = 1 claims the timer and, without a start selector, acts as a start. (R44) -/
  | etimEnable (path : Path) (n : Fin 32) (w : Word)
  /-- ETIM_DISABLE: A write of EN = 0 stops the timer and releases its claim. (R43) -/
  | etimDisable (path : Path) (n : Fin 32) (w : Word)
  /-- ETIM_START_EVENT: A selected start event loads and runs the timer, kicks a watchdog or is ignored with START_IGN. (R44) -/
  | etimStartEvent (n : Fin 32)
  /-- ETIM_CANCEL_EVENT: A selected cancel event stops the timer, or reloads it in watchdog mode. (R43) -/
  | etimCancelEvent (n : Fin 32)
  /-- ETIM_EXPIRY: COUNT reaches 0, the timer fires its event line and stops or reloads. (R43) -/
  | etimExpiry (n : Fin 32)
  /-- GPIO_CFG_WRITE: A write of SYS.GPIOn_CFG claims, configures or releases the pin for the writing path. (R62) -/
  | gpioCfgWrite (path : Path) (n : Fin 16) (w : Word)
  /-- GPIO_EVENT_OUTPUT: A pulse of the selected event drives an event-output pin high, or restarts its high time. (R64) -/
  | gpioEventOutput (n : Fin 16)
  /-- GPIO_PULSE_END: The 100 ns high time of an event-output pin ends and the pin goes low. (R64) -/
  | gpioPulseEnd (n : Fin 16)
  /-- GPIO_INPUT_CHANGE: A level change on a GPIO pin reaches SYS.GPIO_IN. (R64) -/
  | gpioInputChange (n : Fin 16) (level : Option Bool)
  /-- MAIN_RAIL_UNDERVOLTAGE: A main rail outside its limits puts the main side into cold reset and sets UV_MAIN. (R69) -/
  | mainRailUndervoltage (rail : Fin 11) (mv : BitVec 16)
  /-- MAIN_RAIL_RECOVERED: After every main rail has been within limits for 2 ms, the main side leaves reset. (R69) -/
  | mainRailRecovered (banks : BitVec 8)
  /-- PD_ON_REQUEST: A write of SYS.PD_SETm requests the named domains on. (R72) -/
  | pdOnRequest (path : Path) (m : Fin 5) (w : Word)
  /-- PD_OFF_REQUEST: A write of SYS.PD_CLRm requests the named domains off. (R72) -/
  | pdOffRequest (path : Path) (m : Fin 5) (w : Word)
  /-- PD_DEFERRED_REQUEST: A request that waited for a transition to complete is applied. (R74) -/
  | pdDeferredRequest
  /-- PD_POWER_ON_COMPLETE: A domain finishes powering on and zero-filling its memories, and its PD_STAT bit reads 1. (R75) -/
  | pdPowerOnComplete (dom : Nat)
  /-- AON_POWER_UP: VAON rising through 1.6 V resets everything and samples the halter address straps. (R76) -/
  | aonPowerUp (addr : BitVec 2)
  /-- PORST_ASSERT: PORST_N low for 10 µs or more starts a cold reset. (R76) -/
  | porstAssert (ns : Nat)
  /-- PORST_DEASSERT: PORST_N rising samples the GPIO boot straps and starts the clock and boot stages. (R80) -/
  | porstDeassert
  /-- WARM_RESET: A write of SYS.RST_CTL.WARM = 1 starts a warm reset that reloads the image. (R79) -/
  | warmReset (path : Path)
  /-- FUNCTION_LEVEL_RESET: A PCIe function-level reset acts as a warm reset. (R76) -/
  | functionLevelReset
  /-- PCIE_HOT_RESET: A PCIe hot reset through the tunnel acts as a warm reset. (R76) -/
  | pcieHotReset
  /-- EXTEST: The JTAG EXTEST instruction drives the pins from the boundary register. (R65) -/
  | extest
  /-- SAMPLE_PRELOAD: The JTAG SAMPLE/PRELOAD instruction captures and loads the boundary register. (R65) -/
  | samplePreload (pins : List Bool) (load : List Bool)
  /-- IDCODE: The JTAG IDCODE instruction selects the IDCODE register. (R65) -/
  | idcode
  /-- CLAMP: The JTAG CLAMP instruction holds the pins and selects bypass. (R65) -/
  | clamp
  /-- HIGHZ: The JTAG HIGHZ instruction places the pins at high impedance. (R65) -/
  | highz
  /-- BYPASS: The JTAG BYPASS instruction, or any unlisted code, selects the bypass register. (R65) -/
  | bypass (code : BitVec 6)
  /-- LP_ENABLE: A write of LPp_CFG.EN = 1 checks the configuration, drives the idle levels and arms the trigger. (R88) -/
  | lpEnable (path : Path) (p : Fin 8) (w : Word)
  /-- LP_DISABLE: A write of EN = 0 lets the line end, stops a flush line and discards a pending line. (R90) -/
  | lpDisable (path : Path) (p : Fin 8) (w : Word)
  /-- LINE_TRIGGER: A position at or beyond NEXT, a fabric tick or a selected event raises a line trigger. (R102) -/
  | lineTrigger (p : Fin 8) (cycle : Nat)
  /-- TSQ_NOP: A NOP microcode instruction waits WAIT cycles and does nothing. (R93) -/
  | tsqNop (p : Fin 8)
  /-- SETG: A SETG instruction drives the masked timing outputs of a group. (R93) -/
  | setg (p : Fin 8)
  /-- PHASE: A PHASE instruction fires the phase event and starts the phase window. (R106) -/
  | phase (p : Fin 8)
  /-- PIX: A PIX instruction runs a pixel pattern burst and strobes and tags samples. (R94) -/
  | pix (p : Fin 8)
  /-- TSQ_LOOP: A LOOP microcode instruction loads, decrements or leaves a loop counter and jumps or falls through. (R93) -/
  | tsqLoop (p : Fin 8)
  /-- WAITEV: A WAITEV instruction starts waiting for a pulse of its selected event. (R93) -/
  | waitev (p : Fin 8)
  /-- WAITEV_PULSE: The awaited pulse arrives and the next microcode instruction starts. (R93) -/
  | waitevPulse (p : Fin 8) (cycle : Nat)
  /-- ENDL: An ENDL instruction ends the line and fires the line-end event. (R93) -/
  | endl (p : Fin 8)
  /-- MICROCODE_FAULT: A faulting microcode word stops the program, idles its outputs and latches the fault. (R96) -/
  | microcodeFault (p : Fin 8)
  /-- PHASE_WINDOW_OPEN: After DELAY the phase window opens, raising its LS outputs and releasing its shutter. (R106) -/
  | phaseWindowOpen (p : Fin 8) (k : Fin 6)
  /-- PHASE_WINDOW_CLOSE: After WIDTH cycles the phase window closes and the exposure of that phase ends. (R106) -/
  | phaseWindowClose (p : Fin 8) (k : Fin 6)
  /-- LINE_TIMEOUT: The line or flush-line timeout expires, ends the line, discards its samples and counts it. (R113) -/
  | lineTimeout (p : Fin 8)
  /-- FLUSH_ENTRY: No trigger for FLUSH.AFTER puts the program in flush state and makes a flush line due. (R114) -/
  | flushEntry (p : Fin 8) (cycle : Nat)
  /-- FLUSH_LINE_DUE: Every FLUSH.PER in flush state a flush line falls due and runs. (R114) -/
  | flushLineDue (p : Fin 8) (cycle : Nat)
  /-- VIDEO_STROBE: A signal strobe on an input is dispatched to the next slice of its bank and converted. (R125) -/
  | videoStrobe (n : Fin 16) (vSig vRst vRef : Int) (tRst tSig : Nat) (ready : Option Nat)
  /-- XBAR_WRITE: A write of VAF.XBAR is accepted in full or discarded in full when it changes a busy input. (R124) -/
  | xbarWrite (path : Path) (w : Word)
  /-- FGCAL_START: A write of VAF.FGCAL.START = 1 starts a foreground self-calibration of the selected banks and inputs. (R136) -/
  | fgcalStart (path : Path) (w : Word)
  /-- FGCAL_COMPLETE: The self-calibration ends, marks bad slices, sets the bank states and writes RESULT. (R138) -/
  | fgcalComplete (ofs gain skew : List Int) (bad : List Nat) (trims : List Word) (spreads : List Spread)
  /-- BANK_VALID_WRITE: A write of BANKk_CAL.VALID moves the bank between UNCAL and FAST. (R134) -/
  | bankValidWrite (path : Path) (k : Fin 4) (w : Word)
  /-- BG_EN_WRITE: A write of VAF.CTL.BG_EN moves banks between RUN and HOLD. (R134) -/
  | bgEnWrite (path : Path) (w : Word)
  /-- BGCAL_STEP_COMPLETE: The spare slice finishes its calibration step, becomes ready and an exit slice is chosen. (R141) -/
  | bgcalStepComplete (k : Fin 4) (ofs gain skew : Int)
  /-- SLICE_HANDOVER: At an SLCLK edge in a gap the ready slice replaces the exit slice in the active set. (R143) -/
  | sliceHandover (k : Fin 4) (spread : Spread)
  /-- HANDOVER_WAIT_EXPIRY: WAIT_MS pass without a gap, so the handover is forced after the next line end. (R144) -/
  | handoverWaitExpiry (k : Fin 4)
  /-- VIDEO_FAULT_DETECT: Four consecutive faulty lines set the stuck or rail flags and list the lines. (R151) -/
  | videoFaultDetect (n : Fin 16)
  /-- GROUP_ENABLE: A write of GRPg_CTL.EN = 1 checks the group, claims its partition and enters RUN. (R156) -/
  | groupEnable (path : Path) (g : Fin 4) (w : Word)
  /-- GROUP_DISABLE: A write of EN = 0 abandons any capture or computation and turns the group OFF. (R180) -/
  | groupDisable (path : Path) (g : Fin 4) (w : Word)
  /-- PLANE_ENABLE_WRITE: A write of PLn_CFG.EN = 1 to a plane of an enabled group is checked and may be discarded. (R156) -/
  | planeEnableWrite (path : Path) (n : Fin 48) (w : Word)
  /-- SHADE_SAMPLE: A converted sample reaches the shading stage and is shaded and trimmed. (R160) -/
  | shadeSample (last : Bool) (poisoned : Bool)
  /-- TEMP_SOURCE_TIMEOUT: No temperature result for 1 s makes T bad for the group. (R166) -/
  | tempSourceTimeout (g : Fin 4)
  /-- STRIP_EVENT: A pulse on the strip event starts a strip capture and marks the document boundary. (R168) -/
  | stripEvent (g : Fin 4)
  /-- FULL_RECAL_REQUEST: A write of GRPg_CTL.FULL_REQ = 1 sets FULL_PEND and clears DRIFT_HOLD. (R174) -/
  | fullRecalRequest (path : Path) (g : Fin 4) (w : Word)
  /-- COMPUTE_COMPLETE: COMPUTE ends, and the capture is rejected or moves to COPY. (R178) -/
  | computeComplete (g : Fin 4)
  /-- COPY_COMPLETE: COPY ends, the target set is validated and the group returns to RUN. (R179) -/
  | copyComplete (g : Fin 4)
  /-- SHADING_WINDOW_WRITE: A host write through the shading-store window is taken or discarded when it hits a valid set in use. (R187) -/
  | shadingWindowWrite (off : BitVec 17) (w : Word)
  /-- CAL_SAVE_REQUEST: A save request starts a calibration save or merges into a pending one. (R189) -/
  | calSaveRequest (path : Path) (w : Word)
  /-- CAL_SAVE_START: When no group is in COMPUTE or COPY the save snapshots the record body and begins its flash work. (R190) -/
  | calSaveStart
  /-- CAL_SAVE_COMPLETE: The save ends with COMMIT programmed or an error, and a pending save starts. (R190) -/
  | calSaveComplete (flashOk : Bool)
  /-- WINDOW_OPEN: An open pulse opens a geometry window and takes a record slot, or is ignored. (R192) -/
  | windowOpen (u : Fin 4)
  /-- WINDOW_CLOSE_EVENT: A close pulse closes the unit's window after the last line that reached GEO. (R193) -/
  | windowCloseEvent (u : Fin 4)
  /-- TRACK_CLOSE_WRITE: A write of TRKt_CLOSE closes the track's windows and may impose a record status. (R210) -/
  | trackCloseWrite (path : Path) (t : Fin 4) (w : Word)
  /-- GEO_LINE_EVALUATE: An aligned line reaches GEO and is classified, and its edge points are stored. (R196) -/
  | geoLineEvaluate (u : Fin 4)
  /-- EDGE_FIT_COMPLETE: The edge fits of a closed window complete, with skew, corners and sizes. (R207) -/
  | edgeFitComplete (u : Fin 4)
  /-- RECORD_HOLD_TIMEOUT: HOLD.TMO_US pass with holds outstanding, so the record completes with LATE. (R208) -/
  | recordHoldTimeout (t : Fin 4)
  /-- RECORD_SLOT_RELEASE: The record slot is freed once HQE has taken the record bytes. (R208) -/
  | recordSlotRelease (t : Fin 4)
  /-- UNIT_ENABLE: A write of Uu_CFG.EN = 1 checks the unit and claims its partition. (R214) -/
  | unitEnable (path : Path) (u : Fin 4) (w : Word)
  /-- UNIT_DISABLE: A write of Uu_CFG.EN = 0 with a window open completes the record as ABORTED. (R210) -/
  | unitDisable (path : Path) (u : Fin 4) (w : Word)
  /-- TRACK_ENABLE: A write of TRKt_CFG.EN = 1 checks the track and claims its partition. (R214) -/
  | trackEnable (path : Path) (t : Fin 4) (w : Word)
  /-- TRACK_DISABLE: A write of TRKt_CFG.EN = 0 completes the open record as ABORTED. (R210) -/
  | trackDisable (path : Path) (t : Fin 4) (w : Word)
  /-- AXIS_CTL_WRITE: The first write of Mn_CTL configures the axis and makes it drive Mn_EN. (R218) -/
  | axisCtlWrite (path : Path) (n : Fin 4) (w : Word)
  /-- AXIS_STEP: A step pulse is emitted and Mn_POS moves by one microstep. (R215) -/
  | axisStep (n : Fin 4)
  /-- RAMP_UPDATE: Every 10 µs the path speed moves toward its target at ACC or DEC. (R228) -/
  | rampUpdate (k : Fin 4)
  /-- ENCODER_ENABLE: An encoder enable takes the pin levels as the start state. (R220) -/
  | encoderEnable (path : Path) (e : Fin 2) (w : Word) (a b : Bool)
  /-- ENCODER_EDGE: An accepted A or B change counts ENCe_POS up or down, or flags an illegal transition. (R220) -/
  | encoderEdge (e : Fin 2) (a b : Bool)
  /-- ENCODER_INDEX: An accepted Z rising edge latches the position in ENCe_ZPOS. (R221) -/
  | encoderIndex (e : Fin 2)
  /-- ENCODER_STALL: The stall timer expires and raises a jam with cause STALL. (R223) -/
  | encoderStall (e : Fin 2)
  /-- DRIVER_FAULT: A held low on Mn_FAULT_N disables the axis and raises a jam with cause FAULT. (R219) -/
  | driverFault (n : Fin 4) (low : Bool)
  /-- PATH_SENSOR_CHANGE: An accepted change of a path sensor updates PS_IN, fires sensor events and updates IN_TRACK and checkpoint counts. (R224) -/
  | pathSensorChange (n : Fin 16) (level : Bool)
  /-- JAM_ARRIVAL_LIMIT: A document does not reach a checkpoint within ARR counts, raising a LATE jam. (R246) -/
  | jamArrivalLimit (k : Fin 4) (m : Fin 8)
  /-- JAM_LENGTH_LIMIT: A checkpoint stays covered beyond LEN counts, raising a LONG jam. (R246) -/
  | jamLengthLimit (k : Fin 4) (m : Fin 8)
  /-- PATH_ENABLE: A write of PATHk_CFG.EN = 1 checks the path, claims its dwell timer and GPIO and enters HALT. (R225) -/
  | pathEnable (path : Path) (k : Fin 4) (w : Word)
  /-- PATH_DISABLE: A write of EN = 0 brings the axes to rest at JDEC and turns the path OFF. (R226) -/
  | pathDisable (path : Path) (k : Fin 4) (w : Word)
  /-- PATH_START: The START command ramps the path from HALT to the given gait. (R226) -/
  | pathStart (path : Path) (k : Fin 4) (g : Fin 8)
  /-- PATH_STOP: The STOP command makes a seam stop, or holds the feed of a flow path. (R226) -/
  | pathStop (path : Path) (k : Fin 4)
  /-- PATH_RESUME: The RESUME command restarts a stopped path and clears FEED_HOLD. (R234) -/
  | pathResume (path : Path) (k : Fin 4)
  /-- PATH_ABANDON: The ABANDON command closes the records, drops the seam and brings the path to HALT. (R226) -/
  | pathAbandon (path : Path) (k : Fin 4)
  /-- PATH_CLEAR_JAM: The CLEAR_JAM command drives the axes again and reverses the path by REV counts. (R248) -/
  | pathClearJam (path : Path) (k : Fin 4)
  /-- PATH_HALT: The HALT command decelerates the path from RUN to HALT without a seam. (R226) -/
  | pathHalt (path : Path) (k : Fin 4)
  /-- PATH_GAIT: The GAIT command ramps to a new gait and starts the dwell. (R226) -/
  | pathGait (path : Path) (k : Fin 4) (g : Fin 8)
  /-- PACING_LOOP_EVAL: Every 1 ms the loop compares OCC with the thresholds and changes gait, stops, resumes or holds the feed. (R229) -/
  | pacingLoopEval (k : Fin 4)
  /-- PATH_AT_REST: A stopping path comes to rest, copies LAST, freezes the seam store and fires its event. (R231) -/
  | pathAtRest (k : Fin 4)
  /-- BACKOFF_COMPLETE: The path reaches its back-off target, comes to rest and starts the approach. (R234) -/
  | backoffComplete (k : Fin 4)
  /-- OVERLAP_COMPARE: In APPROACH a position reaching the next overlap point makes every program run an overlap line. (R235) -/
  | overlapCompare (k : Fin 4) (cycle : Nat)
  /-- SEAM_HANDOFF: GAIT hands the seam store to the seam kernel through the engine's inbox. (R237) -/
  | seamHandoff (g : Fin 4)
  /-- SEAM_RESULT: The kernel's reply arrives, SEAM is corrected and the seam entries go to GEO. (R239) -/
  | seamResult (g : Fin 4)
  /-- SEAM_KERNEL_TIMEOUT: No seam result within TMO_US ends the seam unverified with cause TIMEOUT. (R238) -/
  | seamKernelTimeout (g : Fin 4)
  /-- CLEAR_JAM_REVERSE_DONE: The jam-recovery reverse ends and the path enters HALT or stays in JAM with CLEAR_FAIL. (R248) -/
  | clearJamReverseDone (k : Fin 4)
  /-- HOST_LOSS_EVENT: A pulse on the host-loss selector acts as STOP and sets FEED_HOLD. (R250) -/
  | hostLossEvent (k : Fin 4)
  /-- AUX_REG_ENABLE: A write of REG_CTL.EN = 1 checks the entries and starts or arms the regular sequence. (R260) -/
  | auxRegEnable (path : Path) (w : Word)
  /-- AUX_REG_DISABLE: A write of REG_CTL.EN = 0 abandons the regular conversion or forgets the remembered entry. (R268) -/
  | auxRegDisable (path : Path) (w : Word)
  /-- AUX_INJ_ENABLE: A write of INJ_CTL.EN = 1 checks the injected entries and arms the sequence. (R260) -/
  | auxInjEnable (path : Path) (w : Word)
  /-- AUX_INJ_DISABLE: A write of INJ_CTL.EN = 0 abandons the injected conversion and clears a pending trigger. (R268) -/
  | auxInjDisable (path : Path) (w : Word)
  /-- AUX_REGULAR_TRIGGER: A regular trigger starts a pass, is held, or is ignored and counted. (R263) -/
  | auxRegularTrigger
  /-- AUX_INJECTED_TRIGGER: An injected trigger interrupts the regular sequence and starts INJ0, or becomes pending. (R264) -/
  | auxInjectedTrigger
  /-- AUX_CONVERSION_RESULT: A conversion delivers its result slot and the sequence moves on. (R269) -/
  | auxConversionResult (x : AuxInput)
  /-- AUX_CONVERSION_TIMEOUT: The conversion timeout expires and delivers a result flagged TMO. (R279) -/
  | auxConversionTimeout (x : AuxInput)
  /-- AUX_REF_LOW: A reference below 100 mV for 1 µs stops the modulator and sets REF_LOW. (R253) -/
  | auxRefLow
  /-- AUX_REF_RESTORED: The reference returns above 100 mV and the modulator resumes. (R253) -/
  | auxRefRestored
  /-- EXCITATION_FAULT: A source in limit or out of compliance for 2 µs is marked in fault. (R255) -/
  | excitationFault (k : Fin 4) (on : Bool)
  /-- AUX_CLAMP_CURRENT: A clamp current above 100 µA sets the pin's CLAMP_STAT bit. (R278) -/
  | auxClampCurrent (pin : Fin 24) (on : Bool)
  /-- AUX_ENTRY_WRITE: A write to entry 0 of a streaming sequence restarts the filter and the modulator. (R274) -/
  | auxEntryWrite (path : Path) (inj : Bool) (e : Fin 32) (word : Fin 4) (w : Word)
  /-- AUX_CAL_START: A write of CAL_CTL.START = 1 with both sequences off starts the aux self-calibration. (R285) -/
  | auxCalStart (path : Path) (w : Word)
  /-- AUX_CAL_COMPLETE: The aux self-calibration ends, writes the corrections and fires EV206. (R285) -/
  | auxCalComplete (ofs gain : List Int)
  /-- WF_ENABLE: A write of WFc_CFG.EN = 1 checks the channel and arms it. (R292) -/
  | wfEnable (path : Path) (c : Fin 2) (w : Word)
  /-- WF_DISABLE: A write of EN = 0 ends any capture and turns the channel off. (R291) -/
  | wfDisable (path : Path) (c : Fin 2) (w : Word)
  /-- WF_RAW_SAMPLE: Every DIV TGCLK cycles the channel takes a raw 12-bit code. (R287) -/
  | wfRawSample (c : Fin 2) (vd : Int) (p : Int)
  /-- WF_OUTPUT_SAMPLE: An output sample is formed and written to the ring. (R288) -/
  | wfOutputSample (c : Fin 2)
  /-- WF_CAPTURE_START: A start pulse latches MARK and POS0 and begins a capture. (R291) -/
  | wfCaptureStart (c : Fin 2)
  /-- WF_CAPTURE_STOP: A stop pulse ends the capture and fires the capture-end event. (R291) -/
  | wfCaptureStop (c : Fin 2)
  /-- LANE_BIND: A free lane takes the eligible context whose oldest line group completed earliest. (R317) -/
  | laneBind (n : Fin 16) (spilled : Bool)
  /-- LANE_RELEASE: A lane writes its context back after STRIP line groups or when nothing is pending. (R317) -/
  | laneRelease (n : Fin 16)
  /-- LINE_GROUP_ENCODE: A lane codes one line group of a stream into the bit string. (R308) -/
  | lineGroupEncode (n : Fin 16)
  /-- LINE_GROUP_DECODE: A decode lane reconstructs one line group from the input bytes. (R311) -/
  | lineGroupDecode (n : Fin 16) (input : List (BitVec 8)) (bad : Option Nat)
  /-- ENGINE_START: The START command runs an engine with a valid image from En_START.PC. (R323) -/
  | engineStart (path : Path) (n : Fin 96) (w : Word)
  /-- ENGINE_HALT: The HALT command halts an engine at the next instruction boundary or clears a fault. (R323) -/
  | engineHalt (path : Path) (n : Fin 96) (w : Word)
  /-- ENGINE_STEP: The STEP command runs one instruction and halts. (R323) -/
  | engineStep (path : Path) (n : Fin 96) (w : Word)
  /-- ENGINE_WAIT_COMPLETE: The condition awaited by a waiting instruction holds and the instruction completes. (R353) -/
  | engineWaitComplete (n : Fin 96)
  /-- FAR_ACCESS_TIMEOUT: A far access with no response in 64 µs ends as a bus error. (R330) -/
  | farAccessTimeout (n : Fin 96)
  /-- ENGINE_ALU: An ALU instruction computes rd from ra and rb by its function. (R343) -/
  | engineAlu (n : Fin 96)
  /-- ADDI: ADDI adds a sign-extended immediate. (R343) -/
  | addi (n : Fin 96)
  /-- ENGINE_LOGIC_IMM: ANDI, ORI or XORI combines ra with a zero-extended immediate. (R343) -/
  | engineLogicImm (n : Fin 96)
  /-- LUI: LUI loads an immediate into the upper half. (R343) -/
  | lui (n : Fin 96)
  /-- SLTI: SLTI sets rd to the signed comparison with an immediate. (R343) -/
  | slti (n : Fin 96)
  /-- ENGINE_SHIFT_IMM: SLLI, SRLI or SRAI shifts by an immediate. (R343) -/
  | engineShiftImm (n : Fin 96)
  /-- ENGINE_LOAD: LDW, LDH or LDB loads from local memory. (R343) -/
  | engineLoad (n : Fin 96)
  /-- ENGINE_STORE: STW, STH or STB stores to local memory. (R343) -/
  | engineStore (n : Fin 96)
  /-- FLD: FLD issues a 32-bit far load of the internal address space. (R330) -/
  | fld (n : Fin 96)
  /-- FST: FST issues a 32-bit far store. (R330) -/
  | fst (n : Fin 96)
  /-- ENGINE_BRANCH: A conditional branch compares two registers and jumps. (R343) -/
  | engineBranch (n : Fin 96)
  /-- J: J jumps to a target. (R343) -/
  | j (n : Fin 96)
  /-- JAL: JAL jumps and links. (R343) -/
  | jal (n : Fin 96)
  /-- JR: JR jumps to a register. (R343) -/
  | jr (n : Fin 96)
  /-- ENGINE_LOOP: LOOP repeats a body a counted number of times. (R345) -/
  | engineLoop (n : Fin 96)
  /-- MTX: MTX writes a special register. (R343) -/
  | mtx (n : Fin 96)
  /-- MFX: MFX reads a special register. (R343) -/
  | mfx (n : Fin 96)
  /-- ENGINE_NOP: The SYS NOP does nothing. (R343) -/
  | engineNop (n : Fin 96)
  /-- HALT_INSTRUCTION: The HALT instruction halts the engine and releases its slots and holds. (R325) -/
  | haltInstruction (n : Fin 96)
  /-- FENCE: FENCE waits until every earlier far access has been answered. (R331) -/
  | fence (n : Fin 96)
  /-- EVFIRE: EVFIRE fires a software event line. (R348) -/
  | evfire (n : Fin 96)
  /-- EVSEL: EVSEL selects a catcher's event and clears its count. (R349) -/
  | evsel (n : Fin 96)
  /-- EVWAIT: EVWAIT waits for a catcher count and decrements it. (R349) -/
  | evwait (n : Fin 96)
  /-- SEMP: SEMP waits for a team semaphore and decrements it. (R350) -/
  | semp (n : Fin 96)
  /-- SEMV: SEMV increments a team semaphore. (R350) -/
  | semv (n : Fin 96)
  /-- SEMTRY: SEMTRY decrements a semaphore if possible and reports success. (R350) -/
  | semtry (n : Fin 96)
  /-- ITAKE: ITAKE takes the oldest untaken line of an input window. (R335) -/
  | itake (n : Fin 96)
  /-- IREL: IREL releases a taken input slot. (R335) -/
  | irel (n : Fin 96)
  /-- OALLOC: OALLOC obtains an output slot. (R337) -/
  | oalloc (n : Fin 96)
  /-- OCOMMIT: OCOMMIT commits an output slot or hands a message block to HQE. (R338) -/
  | ocommit (n : Fin 96)
  /-- MBXRD: MBXRD waits for and reads an inbox word. (R351) -/
  | mbxrd (n : Fin 96)
  /-- MBXSEND: MBXSEND sends a word to an engine, the host, GAIT or the halter. (R351) -/
  | mbxsend (n : Fin 96)
  /-- HOLD: HOLD takes a hold on a record. (R354) -/
  | hold (n : Fin 96)
  /-- UNHOLD: UNHOLD releases the engine's hold on a record. (R354) -/
  | unhold (n : Fin 96)
  /-- EXC: EXC posts a kernel exception block to a record. (R355) -/
  | exc (n : Fin 96)
  /-- CLAIM: The CLAIM instruction claims a timer, partition or GPIO. (R356) -/
  | claim (n : Fin 96)
  /-- RELEASE: The RELEASE instruction releases a claimed resource. (R356) -/
  | release (n : Fin 96)
  /-- VOP: A VOP instruction performs a lane-wise vector operation. (R343) -/
  | vop (n : Fin 96)
  /-- VIMM: A VIMM instruction performs a vector operation with an immediate. (R343) -/
  | vimm (n : Fin 96)
  /-- VCMP: VCMP compares vectors into a predicate. (R343) -/
  | vcmp (n : Fin 96)
  /-- VSCL: A VSCL instruction moves data between vectors, scalars and predicates. (R343) -/
  | vscl (n : Fin 96)
  /-- VLD: VLD loads a vector from local memory. (R343) -/
  | vld (n : Fin 96)
  /-- VST: VST stores a vector to local memory. (R343) -/
  | vst (n : Fin 96)
  /-- VGATHER: VGATHER gathers vector lanes from data memory. (R343) -/
  | vgather (n : Fin 96)
  /-- IW_ENABLE: A write of IWi_CFG.EN = 1 checks the ring and enables the input window. (R336) -/
  | iwEnable (path : Path) (m : Fin 32) (w : Word)
  /-- IW_DISABLE: A write of EN = 0 discards the ring, or is refused while a paired output window is enabled. (R336) -/
  | iwDisable (path : Path) (m : Fin 32) (w : Word)
  /-- OW_ENABLE: A write of OWj_CFG.EN = 1 checks the ring and enables the output window. (R339) -/
  | owEnable (path : Path) (j : Fin 32) (w : Word)
  /-- IW_LINE_WRITE: A delivered line of the window's plane is written into the oldest free slot. (R333) -/
  | iwLineWrite (m : Fin 32)
  /-- OW_LINE_DELIVER: The next line of an output window is delivered in order, from its slot or as a repeat. (R337) -/
  | owLineDeliver (j : Fin 32)
  /-- ENGINE_INBOX_WRITE: A host write of En_INBOX appends a word or is discarded when the inbox is full. (R351) -/
  | engineInboxWrite (path : Path) (n : Fin 96) (w : Word)
  /-- CATCHER_PULSE: A pulse on a catcher's selected line increments its count. (R349) -/
  | catcherPulse (n : Fin 96) (c : Fin 4)
  /-- CATCHER_SELECT_WRITE: A write of En_ECSELc selects the line and clears the count. (R349) -/
  | catcherSelectWrite (path : Path) (n : Fin 96) (c : Fin 4) (w : Word)
  /-- SEMAPHORE_HOST_WRITE: A host write of PACK.TSEMt_k replaces the semaphore count. (R350) -/
  | semaphoreHostWrite (path : Path) (t : Fin 12) (k : Fin 16) (w : Word)
  /-- IMAGE_LOAD_COMPLETE: The last image byte arrives, the signature is verified and the targets get IMG = 1 or are zeroed. (R359) -/
  | imageLoadComplete (rest : List Byte)
  /-- SQ_TAIL_DOORBELL: A submission-tail doorbell updates the tail, or sends the queue pair to ERROR. (R370) -/
  | sqTailDoorbell (q : Fin 1024) (w : Word)
  /-- CQ_HEAD_DOORBELL: A completion-head doorbell releases CQ slots. (R370) -/
  | cqHeadDoorbell (q : Fin 1024) (w : Word)
  /-- COMMAND_FETCH: HQE fetches a command from a submission queue when room is reserved. (R374) -/
  | commandFetch (entry : List Byte)
  /-- COALESCE_TIMEOUT: COAL_US after the first unsignalled completion, the vector is signalled. (R380) -/
  | coalesceTimeout (q : Fin 1024)
  /-- MSIX_UNMASK: Unmasking a vector with its pending bit set sends the message. (R380) -/
  | msixUnmask (path : Path) (v : Fin 256) (w : Word)
  /-- HOST_FETCH_TIMEOUT: A host read with no answer in FETCH_TMO fails its queue pair or command. (R381) -/
  | hostFetchTimeout (q : Fin 1024) (tag : Option (BitVec 16)) (addr : BitVec 64)
  /-- HOST_READ_ERROR: A host read that ends with an error completion fails its queue pair or command. (R381) -/
  | hostReadError (q : Fin 1024) (tag : Option (BitVec 16)) (addr : BitVec 64)
  /-- HOST_WATCHDOG_EXPIRY: The host watchdog expires during a SCAN_JOB and fires EV241. (R385) -/
  | hostWatchdogExpiry
  /-- HOST_LINK_DOWN: The USB4 link or PCIe tunnel goes down during a SCAN_JOB and EV241 fires. (R385) -/
  | hostLinkDown
  /-- LINK_UP: A host link comes up and the controller serves the queue model through the tunnel or the ring bridge. (R367) -/
  | linkUp (tunnel : Bool) (usb4 : Bool)
  /-- PCI_D3HOT: Entry to D3hot stops every queue as a warm reset does. (R368) -/
  | pciD3hot
  /-- ADMIN_QUEUE_ENABLE: A write of HQE.AQ_CFG.EN starts or stops the admin queue. (R383) -/
  | adminQueueEnable (path : Path) (w : Word)
  /-- IDENTIFY: IDENTIFY writes the device identification page. (R387) -/
  | identify (q : Fin 1024) (tag : BitVec 16)
  /-- CREATE_QP: CREATE_QP creates a queue pair. (R387) -/
  | createQp (q : Fin 1024) (tag : BitVec 16)
  /-- DELETE_QP: DELETE_QP deletes an idle queue pair. (R387) -/
  | deleteQp (q : Fin 1024) (tag : BitVec 16)
  /-- ABORT: ABORT ends a waiting command with ABORTED. (R388) -/
  | abort (q : Fin 1024) (tag : BitVec 16)
  /-- ASYNC_EVENT: ASYNC_EVENT waits to take the oldest queued asynchronous event. (R399) -/
  | asyncEvent (q : Fin 1024) (tag : BitVec 16)
  /-- ASYNC_EVENT_DELIVER: A queued event completes the oldest pending ASYNC_EVENT. (R399) -/
  | asyncEventDeliver
  /-- OPEN_STREAM: OPEN_STREAM checks the parameters, allocates the quota and opens a stream context. (R389) -/
  | openStream (q : Fin 1024) (tag : BitVec 16) (block : List Byte)
  /-- CLOSE_STREAM: CLOSE_STREAM ends a stream at its next line-group boundary, or discards it. (R393) -/
  | closeStream (q : Fin 1024) (tag : BitVec 16)
  /-- CLOSE_STREAM_COMPLETE: Once every byte is placed and every buffer done, the context enters STATE 3. (R393) -/
  | closeStreamComplete (sc : Fin 3072)
  /-- POST_BUFFER: POST_BUFFER gives a host buffer to a stream and drains spilled bytes into it. (R390) -/
  | postBuffer (q : Fin 1024) (tag : BitVec 16) (sgl : List (Nat × Nat × Nat))
  /-- SAVE_CONTEXT: SAVE_CONTEXT requests a snapshot of a context record. (R314) -/
  | saveContext (q : Fin 1024) (tag : BitVec 16)
  /-- CONTEXT_SNAPSHOT: At the next line-group boundary the record is written to host memory. (R314) -/
  | contextSnapshot (sc : Fin 3072)
  /-- RESTORE_CONTEXT: RESTORE_CONTEXT loads a record image into a free or ended context. (R315) -/
  | restoreContext (q : Fin 1024) (tag : BitVec 16) (image : List Byte)
  /-- SCAN_JOB: SCAN_JOB binds a job slot to a path and starts it. (R394) -/
  | scanJob (q : Fin 1024) (tag : BitVec 16)
  /-- SET_GAIT_POLICY: SET_GAIT_POLICY writes the path's policy and thresholds in one cycle. (R387) -/
  | setGaitPolicy (q : Fin 1024) (tag : BitVec 16)
  /-- CALIBRATE: CALIBRATE starts converter, shading or aux calibration, or a save. (R397) -/
  | calibrate (q : Fin 1024) (tag : BitVec 16)
  /-- READ_AUX: READ_AUX returns an aux result slot, now or at its next delivery. (R387) -/
  | readAux (q : Fin 1024) (tag : BitVec 16)
  /-- TRANSPORT: TRANSPORT issues a path command. (R387) -/
  | transport (q : Fin 1024) (tag : BitVec 16)
  /-- TRANSPORT_COMPLETE: The path reaches the command's target state and TRANSPORT completes. (R387) -/
  | transportComplete (q : Fin 1024) (tag : BitVec 16)
  /-- LOAD_IMAGE: LOAD_IMAGE loads a Sestinen image into the target engines. (R359) -/
  | loadImage (q : Fin 1024) (tag : BitVec 16) (sgl : List (Nat × Nat × Nat)) (header : List Byte)
  /-- SCRUB: SCRUB starts zero-filling a job slot's records, row stores, spill and ranges. (R398) -/
  | scrub (q : Fin 1024) (tag : BitVec 16)
  /-- SCRUB_COMPLETE: The zero fill ends and SCRUB completes. (R398) -/
  | scrubComplete (q : Fin 1024) (tag : BitVec 16)
  /-- FABRIC_STATUS: FABRIC_OP STATUS writes the fabric membership table. (R465) -/
  | fabricStatus (q : Fin 1024) (tag : BitVec 16)
  /-- FABRIC_REFORM: FABRIC_OP REFORM raises the EPOCH and reforms the fabric. (R465) -/
  | fabricReform (q : Fin 1024) (tag : BitVec 16)
  /-- FABRIC_PING: FABRIC_OP PING sends a PING and reports the round trip. (R465) -/
  | fabricPing (q : Fin 1024) (tag : BitVec 16)
  /-- REMOTE_READ: FABRIC_OP REMOTE_READ copies a remote page-store range to the host. (R465) -/
  | remoteRead (q : Fin 1024) (tag : BitVec 16)
  /-- REMOTE_WRITE: FABRIC_OP REMOTE_WRITE copies host data to a remote page store. (R465) -/
  | remoteWrite (q : Fin 1024) (tag : BitVec 16) (data : List Byte)
  /-- FABRIC_QUARANTINE: FABRIC_OP QUARANTINE forces a port into quarantine or releases it. (R465) -/
  | fabricQuarantine (q : Fin 1024) (tag : BitVec 16)
  /-- FABRIC_MAILBOX: FABRIC_OP MAILBOX delivers a word to a remote engine's inbox. (R465) -/
  | fabricMailbox (q : Fin 1024) (tag : BitVec 16) (full : Bool)
  /-- BRIDGE_REG_WR: A ring-bridge REG_WR message performs a BAR write. (R400) -/
  | bridgeRegWr (addr : BitVec 64) (w : Word) (crcOk : Bool)
  /-- BRIDGE_REG_RD: A ring-bridge REG_RD message performs a BAR read and answers with REG_DATA. (R400) -/
  | bridgeRegRd (addr : BitVec 64) (crcOk : Bool)
  /-- MEM_DATA: A MEM_DATA message answers an outstanding MEM_RD. (R400) -/
  | memData (id : Word) (data : List Byte) (crcOk : Bool)
  /-- MEM_ERR: A MEM_ERR message fails an outstanding MEM_RD. (R400) -/
  | memErr (id : Word) (crcOk : Bool)
  /-- CHANNEL_START: A start write or event begins a descriptor fetch of an idle ring channel. (R411) -/
  | channelStart (n : Fin 32) (write : Option (Path × Word))
  /-- CHANNEL_KICK: A kick re-fetches a descriptor in WAIT_OWN, or is remembered. (R407) -/
  | channelKick (n : Fin 32) (write : Option (Path × Word))
  /-- OWN_POLL: Every POLL µs in WAIT_OWN the descriptor is fetched again. (R407) -/
  | ownPoll (n : Fin 32)
  /-- DESCRIPTOR_FETCH: A fetched descriptor is checked and waits, jumps, waits for pace or transfers. (R407) -/
  | descriptorFetch (n : Fin 32)
  /-- PACE_PULSE: A pace event adds a credit, or is lost at 255. (R412) -/
  | pacePulse (n : Fin 32)
  /-- IDMA_COPY: A COPY descriptor moves its bytes in beats, in ascending or descending order. (R413) -/
  | idmaCopy (n : Fin 32)
  /-- IDMA_GATHER: A GATHER descriptor moves indexed elements one at a time. (R416) -/
  | idmaGather (n : Fin 32)
  /-- FENCE_ACKNOWLEDGED: Every write of a fenced descriptor is acknowledged, the event fires and the next fetch begins. (R417) -/
  | fenceAcknowledged (n : Fin 32)
  /-- CHANNEL_PAUSE: A write of PAUSE = 1 stops the issue of new accesses. (R418) -/
  | channelPause (path : Path) (n : Fin 32) (w : Word)
  /-- CHANNEL_PAUSED: With nothing outstanding the channel enters PAUSED and shows its exact position. (R418) -/
  | channelPaused (n : Fin 32)
  /-- CHANNEL_RESUME: A write of PAUSE = 0 resumes the transfer from its position. (R418) -/
  | channelResume (path : Path) (n : Fin 32) (w : Word)
  /-- CHANNEL_ABORT: A write of EN = 0 aborts or clears a halted channel and returns it to IDLE. (R419) -/
  | channelAbort (path : Path) (n : Fin 32) (w : Word)
  /-- IDMA_BUS_TIMEOUT: An access with no response in 64 µs halts the channel. (R420) -/
  | idmaBusTimeout (ch : Fin 40)
  /-- IDMA_BUS_ERROR: An error response halts the channel and latches the address. (R420) -/
  | idmaBusError (ch : Fin 40)
  /-- CC_ENABLE: A write of CCR.EN = 1 checks and starts a compatibility channel. (R423) -/
  | ccEnable (path : Path) (n : Fin 8) (w : Word)
  /-- CC_DISABLE: A write of CCR.EN = 0 stops the channel after the element in progress. (R425) -/
  | ccDisable (path : Path) (n : Fin 8) (w : Word)
  /-- CC_TRIGGER: A trigger event adds a credit to a compatibility channel. (R423) -/
  | ccTrigger (n : Fin 8)
  /-- CC_ELEMENT_MOVE: A compatibility channel moves its next element or burst. (R423) -/
  | ccElementMove (n : Fin 8)
  /-- FABRIC_ENABLE: A write of DLF.CFG.EN = 1 makes the fabric ALONE and lets the ports run. (R438) -/
  | fabricEnable (path : Path) (w : Word)
  /-- FABRIC_DISABLE: A write of DLF.CFG.EN = 0 turns the fabric OFF and disables the ports. (R438) -/
  | fabricDisable (path : Path) (w : Word)
  /-- PORT_ENABLE: A write of DLk_CTL.EN = 1 lets the port run and enter DOWN. (R438) -/
  | portEnable (path : Path) (k : Fin 4) (w : Word)
  /-- PORT_DISABLE: A write of DLk_CTL.EN = 0 sends LEAVE and disables the port. (R438) -/
  | portDisable (path : Path) (k : Fin 4) (w : Word)
  /-- PORT_SIGNAL_DETECT: Signal on both receive lanes moves the port from DOWN to TRAIN. (R438) -/
  | portSignalDetect (k : Fin 4)
  /-- PORT_RETRAIN: A write of DLk_CTL.RETRAIN returns the port to DOWN. (R438) -/
  | portRetrain (path : Path) (k : Fin 4) (w : Word)
  /-- PORT_RELEASE: A write of DLk_CTL.RELEASE ends quarantine. (R438) -/
  | portRelease (path : Path) (k : Fin 4) (w : Word)
  /-- PORT_QUARANTINE_FORCE: A write of DLk_CTL.QUAR quarantines the port with cause FORCED. (R464) -/
  | portQuarantineForce (path : Path) (k : Fin 4) (w : Word)
  /-- QUARANTINE_EXPIRY: The quarantine time passes and the port returns to DOWN. (R464) -/
  | quarantineExpiry (k : Fin 4)
  /-- LINK_WORD_TIMEOUT: No valid link word for 2 µs returns the port to DOWN. (R438) -/
  | linkWordTimeout (k : Fin 4)
  /-- AUTH_TIMEOUT: No proof within 1 ms quarantines the port with cause AUTH. (R438) -/
  | authTimeout (k : Fin 4)
  /-- IDLE: An IDLE link word is received. (R430) -/
  | idle (k : Fin 4)
  /-- TRAIN: A TRAIN link word is received; with the lanes aligned and the peer locked the port enters HELLO. (R438) -/
  | train (k : Fin 4) (count : BitVec 16) (locked : BitVec 8) (aligned : Bool)
  /-- FLOW: A FLOW link word returns credits and carries ACK or NAK. (R434) -/
  | flow (k : Fin 4) (vc0 : BitVec 16) (vc1 : BitVec 16) (ack : BitVec 8) (nak : BitVec 8)
  /-- TS_REQ: A TS_REQ link word is answered with TS_RSP. (R452) -/
  | tsReq (k : Fin 4) (seq : BitVec 8) (t1 : BitVec 56) (t2 : BitVec 56) (t3 : BitVec 56)
  /-- TS_RSP: A TS_RSP link word completes a time exchange and adjusts the rate or steps the counter. (R452) -/
  | tsRsp (k : Fin 4) (seq : BitVec 8) (t2 : BitVec 56) (t3 : BitVec 56) (t4 : BitVec 56)
  /-- LCLK: An LCLK link word is forwarded to the child ports and triggers the SRC 6 programs at its stamp. (R456) -/
  | lclk (k : Fin 4) (tick : BitVec 32) (stamp : BitVec 48)
  /-- LEAVE: A LEAVE link word returns the port to DOWN. (R438) -/
  | leave (k : Fin 4)
  /-- RD_REQ: A received RD_REQ is served through a remote window or refused. (R451) -/
  | rdReq (k : Fin 4) (p : Packet)
  /-- WR_REQ: A received WR_REQ is served through a remote window or refused. (R451) -/
  | wrReq (k : Fin 4) (p : Packet)
  /-- RD_RSP: An RD_RSP completes an outstanding remote read. (R449) -/
  | rdRsp (k : Fin 4) (p : Packet)
  /-- WR_RSP: A WR_RSP completes an outstanding remote write. (R449) -/
  | wrRsp (k : Fin 4) (p : Packet)
  /-- STITCH: A STITCH chunk is merged into the sink's held line, which is delivered once complete. (R460) -/
  | stitch (k : Fin 4) (p : Packet)
  /-- DISC: A DISC message updates the neighbour's advertisement and the lead choice. (R445) -/
  | disc (k : Fin 4) (p : Packet)
  /-- TOPO: A TOPO message records a node's neighbours at the lead or is forwarded. (R446) -/
  | topo (k : Fin 4) (p : Packet)
  /-- ASSIGN: An ASSIGN message gives a node its ID for the epoch. (R446) -/
  | assign (k : Fin 4) (p : Packet)
  /-- ROUTE: A ROUTE message installs a node's route table and port roles. (R447) -/
  | route (k : Fin 4) (p : Packet)
  /-- READY: A READY broadcast makes the node READY for its epoch. (R448) -/
  | ready (k : Fin 4) (p : Packet)
  /-- PING: A PING message is answered with a PONG. (R465) -/
  | ping (k : Fin 4) (p : Packet)
  /-- PONG: A PONG message completes a PING. (R465) -/
  | pong (k : Fin 4) (p : Packet)
  /-- MBOX: An MBOX message places a word in a local engine's inbox. (R465) -/
  | mbox (k : Fin 4) (p : Packet)
  /-- AUTH_HELLO: An AUTH HELLO carries the peer's UID, nonce and capabilities. (R440) -/
  | authHello (k : Fin 4) (p : Packet)
  /-- AUTH_PROOF: An AUTH PROOF is checked, and the port enters ACTIVE or quarantine. (R441) -/
  | authProof (k : Fin 4) (p : Packet)
  /-- AUTH_FAIL: An AUTH FAIL quarantines the port with cause AUTH. (R441) -/
  | authFail (k : Fin 4) (p : Packet)
  /-- PACKET_FORWARD: A packet for another node is forwarded by the route table or discarded as unreachable. (R433) -/
  | packetForward (k : Fin 4) (type : BitVec 8) (p : Packet)
  /-- REPLAY_TIMEOUT: 300 µs without ACK progress replays from the oldest unacknowledged packet. (R435) -/
  | replayTimeout (k : Fin 4)
  /-- PARTIAL_PACKET_TIMEOUT: A partial packet held past HOLD_US is discarded and a NAK sent. (R437) -/
  | partialPacketTimeout (k : Fin 4) (orphans : Nat)
  /-- FABRIC_RESPONSE_TIMEOUT: A remote request unanswered in RSP_US completes with an error response. (R450) -/
  | fabricResponseTimeout (tag : BitVec 16)
  /-- CREDIT_STARVATION: A packet waiting for credits for CRED_MS quarantines the port. (R464) -/
  | creditStarvation (k : Fin 4)
  /-- REMOTE_WINDOW_ACCESS: A local access to the fabric remote window is sent as a request packet. (R449) -/
  | remoteWindowAccess
  /-- DISC_TIMER: Every DISC_MS a node sends DISC on each active port. (R445) -/
  | discTimer
  /-- FORMATION_SETTLE: After SETTLE_MS without change the lead raises EPOCH and assigns IDs and routes. (R446) -/
  | formationSettle
  /-- TIME_SYNC_TIMER: Every SYNC_US a child starts a time exchange with its parent. (R452) -/
  | timeSyncTimer (t1 : BitVec 56)
  /-- SESSION_REKEY: After REKEY.MIN minutes or 2^40 packets the link renews its session through AUTH. (R442) -/
  | sessionRekey (k : Fin 4)
  /-- STITCH_DEADLINE: The sink deadline passes and the line is delivered with missing slices substituted and listed. (R460) -/
  | stitchDeadline (c : Fin 16)
  /-- STITCH_ENABLE: A write of STc_CFG.EN = 1 checks the channel and claims a sink partition. (R461) -/
  | stitchEnable (path : Path) (c : Fin 16) (w : Word)
  /-- IDENT: The halter IDENT command returns SYS.ID, UID and HLT.STAT. (R473) -/
  | ident (r : HaltRequest)
  /-- REG_RD: The halter REG_RD command reads registers on the halter path. (R474) -/
  | regRd (r : HaltRequest)
  /-- REG_WR: The halter REG_WR command writes a register on the halter path. (R474) -/
  | regWr (r : HaltRequest)
  /-- RESET_COLD: RESET KIND 1 holds the main side in cold reset for 100 µs. (R477) -/
  | resetCold (r : HaltRequest)
  /-- RESET_WARM: RESET KIND 2 writes SYS.RST_CTL.WARM = 1 through the halter path. (R477) -/
  | resetWarm (r : HaltRequest)
  /-- RESET_HOLD: RESET KIND 3 starts a held halter cold reset. (R477) -/
  | resetHold (r : HaltRequest)
  /-- RESET_RELEASE: RESET KIND 4 releases a held cold reset. (R477) -/
  | resetRelease (r : HaltRequest)
  /-- WAKE_OFF: WAKE with ON = 0 holds a cold reset and then drops HLT_WAKE. (R478) -/
  | wakeOff (r : HaltRequest)
  /-- WAKE_ON: WAKE with ON = 1 raises HLT_WAKE and releases a held cold reset. (R478) -/
  | wakeOn (r : HaltRequest)
  /-- HALTER_WAKE_TIMER: 1 ms after AON power-up WAKE rises unless OTP selects standby. (R476) -/
  | halterWakeTimer
  /-- FL_RD: The halter FL_RD command reads flash bytes. (R473) -/
  | flRd (r : HaltRequest)
  /-- FL_ERASE: The halter FL_ERASE command starts a flash erase. (R488) -/
  | flErase (r : HaltRequest)
  /-- FL_PROG: The halter FL_PROG command starts a flash page program. (R488) -/
  | flProg (r : HaltRequest)
  /-- FL_STAT: The halter FL_STAT command returns the flash status and JEDEC ID. (R473) -/
  | flStat (r : HaltRequest) (jedec : BitVec 24)
  /-- FLASH_OPERATION_DONE: The flash finishes or times out, and FL_STAT and FL_DONE are set. (R488) -/
  | flashOperationDone (timeout : Bool)
  /-- OTP_RD: The halter OTP_RD command reads OTP bytes. (R473) -/
  | otpRd (r : HaltRequest)
  /-- OTP_PROG: The halter OTP_PROG command programs and verifies OTP bytes. (R490) -/
  | otpProg (r : HaltRequest) (stuck : List Nat)
  /-- FKEY_SET: The halter FKEY_SET command programs a fabric key slot. (R492) -/
  | fkeySet (r : HaltRequest) (stuck : Bool)
  /-- FKEY_REVOKE: The halter FKEY_REVOKE command revokes a fabric key slot. (R492) -/
  | fkeyRevoke (r : HaltRequest)
  /-- FKEY_KCV: The halter FKEY_KCV command returns the active slot and its check value. (R492) -/
  | fkeyKcv (r : HaltRequest)
  /-- MBX_SEND: The halter MBX_SEND command appends a word to E0's inbox. (R495) -/
  | mbxSend (r : HaltRequest)
  /-- MBX_RECV: The halter MBX_RECV command removes words from the halter outbox. (R495) -/
  | mbxRecv (r : HaltRequest)
  /-- RESPONSE_READ: A Block Read of command 0x00 returns the last response. (R472) -/
  | responseRead (usb : Bool) (code : Byte)
  /-- ALERT_RESPONSE: A read at the Alert Response Address returns the port address and releases HLT_ALERT_N. (R470) -/
  | alertResponse
  /-- HALTER_REQUEST_REJECT: A request with a bad or missing PEC is discarded, or one arriving during execution is NACKed. (R471) -/
  | halterRequestReject (code : Byte) (r : HaltRequest)
  /-- HALTER_BUS_TIMEOUT: SCL held low beyond 25 ms resets the bus interface. (R469) -/
  | halterBusTimeout
  /-- USB_MGMT_REQUEST: A USB 2.0 management transfer carries a halter request checked by CRC-32C. (R496) -/
  | usbMgmtRequest (code : Byte) (data : List Byte) (crc : Word) (jedec : BitVec 24)
  /-- HEALTH_SAMPLE: Every millisecond the monitor samples the die sensors and rails against their limits. (R480) -/
  | healthSample (temps : List Int) (rails : List Nat)
  /-- BOOT_IMAGE_LOAD: The boot sequencer loads and verifies the newer valid bundle and starts E0. (R500) -/
  | bootImageLoad
  /-- SERVICE_BOOT: E0 loads the calibration, runs scripts, loads kernels, runs the service list and sets READY. (R502) -/
  | serviceBoot
  /-- SVC_STATUS: The STATUS service returns the boot and reset status. (R506) -/
  | svcStatus
  /-- SVC_SELFTEST: The SELFTEST service marches the SRAM or page store. (R507) -/
  | svcSelftest (bad : List (Nat × Bool))
  /-- SVC_ADC_CAL: The ADC_CAL service runs a foreground converter self-calibration. (R506) -/
  | svcAdcCal
  /-- SVC_AUX_CAL: The AUX_CAL service runs the aux self-calibration. (R506) -/
  | svcAuxCal
  /-- SVC_SHADE_CAL: The SHADE_CAL service runs full recalibrations with motion and saves once. (R508) -/
  | svcShadeCal
  /-- SHADE_CAL_TIMEOUT: SHADE_CAL does not finish within TMO_S, halts the path and completes with TIMEOUT. (R508) -/
  | shadeCalTimeout
  /-- SVC_CAL_LOAD: The CAL_LOAD service applies the calibration record. (R506) -/
  | svcCalLoad
  /-- SVC_CAL_SAVE: The CAL_SAVE service requests a save and waits for it to end. (R506) -/
  | svcCalSave
  /-- SVC_JAM_RECOVER: The JAM_RECOVER service issues CLEAR_JAM. (R506) -/
  | svcJamRecover
  /-- SVC_SAFE_STOP: The SAFE_STOP service issues STOP and waits for STOPPED or HALT. (R506) -/
  | svcSafeStop
  /-- SVC_FABRIC_UP: The FABRIC_UP service enables the fabric and waits for READY. (R511) -/
  | svcFabricUp
  /-- FABRIC_UP_LIMIT: The FABRIC_UP limit expires and the service completes with FABRIC_UNREACHABLE or TIMEOUT. (R511) -/
  | fabricUpLimit
  /-- SVC_LOAD_ENTRY: The LOAD_ENTRY service loads a kernel entry of the booted bundle. (R506) -/
  | svcLoadEntry
  /-- HOST_LOSS_HOLD_EXPIRY: HL_S passes without a doorbell, so stopped paths are abandoned and their motors released. (R510) -/
  | hostLossHoldExpiry
  /-- JAM_AUTO_RECOVER: After JAM_MS, E0 runs JAM_RECOVER once for a jam of cause 1–3. (R512) -/
  | jamAutoRecover (k : Fin 4)
  /-- SERVICE_HEARTBEAT: Every 10 ms E0 increments SEC.SVC_HB. (R513) -/
  | serviceHeartbeat
  /-- HALTER_COLD_RESET_END: 100 µs after RESET KIND 1, the halter cold reset releases the main side, and the GPIO boot straps are sampled. (R477) -/
  | halterColdResetEnd
  /-- WAKE_OFF_DELAY_EXPIRY: 100 µs after a WAKE with ON = 0 starts its held cold reset, WAKE becomes 0, HLT_WAKE falls and the command completes. (R478) -/
  | wakeOffDelayExpiry
  /-- FABRIC_PING_TIMEOUT: A FABRIC_OP PING that has received no PONG within 1 ms completes with TIMEOUT. (R465) -/
  | fabricPingTimeout (q : Fin 1024) (tag : BitVec 16)
  /-- QUARANTINE_RELEASE_TIMEOUT: A FABRIC_OP QUARANTINE release whose port has not reached ACTIVE within 100 ms completes with TIMEOUT. (R465) -/
  | quarantineReleaseTimeout (q : Fin 1024) (tag : BitVec 16)
  /-- CONFIGURATION_REQUEST: A PCIe configuration request is answered with Configuration Request Retry Status while READY = 0, and normally otherwise or once STAGE reaches 2 when the host is the boot source. (R85) -/
  | configurationRequest
  /-- FLIT_TRANSMISSION_ERROR: A received flit or link word with an uncorrectable syndrome, or a sync error, is discarded and counted, inside a packet causes one NAK, and beyond ERR_LIM per second quarantines the port. (R435) -/
  | flitTransmissionError (k : Fin 4) (inPacket : Bool)
  /-- PROTOCOL_VIOLATION: A received packet of reserved TYPE, with PLEN above 256, with a SOP inside a packet, with more than 18 flits or with a poisoned header quarantines the port with cause PROTOCOL. (R464) -/
  | protocolViolation (k : Fin 4)
  deriving DecidableEq, Repr

end Sys2Proof
end

