-- ==== Sys2Proof/Machine/Regs.lean ====
section
/-!
DEFINITION. Sys2Proof/Machine/Regs.lean: the register map of the spec as data. For every register of Tables 16-2 to
16-16: its BAR0 offset, the bit masks of its fields by access code and Takes effect value (the chapters' register
tables), its reset value (R516), and the place of every field.
-/
namespace Sys2Proof.Machine

/-- One register's fields, as masks of its 32 bits (R10, R11): the reset value, then the RW fields that take effect
Immediate, Idle only, Next line and Next document, then the W1C, WO and RC fields. Every other bit is RO or reserved. -/
structure RegRow where
  reset : Nat
  rwNow : Nat
  rwIdle : Nat
  nextLine : Nat
  nextDoc : Nat
  w1c : Nat
  wo : Nat
  rc : Nat
  deriving DecidableEq, Repr

/-- A register or an array of equal registers in the map: base BAR0 offset, stride, number, fields. -/
structure RegSpan where
  base : Nat
  stride : Nat
  count : Nat
  row : RegRow
  deriving DecidableEq, Repr

/-- The place of a field: its least significant bit and its width. -/
structure Fld where
  lo : Nat
  width : Nat
  deriving DecidableEq, Repr

/-! ## Offsets from BAR0 (R516) -/
namespace R

/-- SYS.CLK_STAT, 01_architecture -/
def sysClkStat : Nat := 0x00020
/-- SYS.ERR_STAT, 01_architecture -/
def sysErrStat : Nat := 0x00010
/-- SYS.ERR_ADDR, 01_architecture -/
def sysErrAddr : Nat := 0x00014
/-- SYS.ECC_STAT, 01_architecture -/
def sysEccStat : Nat := 0x00080
/-- SYS.ECC_CE_CNT, 01_architecture -/
def sysEccCeCnt : Nat := 0x00084
/-- SYS.ECC_UE_CNT, 01_architecture -/
def sysEccUeCnt : Nat := 0x00088
/-- SYS.ECC_ADDR_LO, 01_architecture -/
def sysEccAddrLo : Nat := 0x00090
/-- SYS.ECC_ADDR_HI, 01_architecture -/
def sysEccAddrHi : Nat := 0x00094
/-- SYS.SCRUB_CTL, 01_architecture -/
def sysScrubCtl : Nat := 0x000A0
/-- EVM.ETIMn_CTL, 01_architecture -/
def etimCtl (n : Nat) : Nat := 0x04100 + 0x20 * n
/-- EVM.ETIMn_LOAD, 01_architecture -/
def etimLoad (n : Nat) : Nat := 0x04104 + 0x20 * n
/-- EVM.ETIMn_COUNT, 01_architecture -/
def etimCount (n : Nat) : Nat := 0x04108 + 0x20 * n
/-- EVM.ETIMn_START_SEL, 01_architecture -/
def etimStartSel (n : Nat) : Nat := 0x0410C + 0x20 * n
/-- EVM.ETIMn_CANCEL_SEL, 01_architecture -/
def etimCancelSel (n : Nat) : Nat := 0x04110 + 0x20 * n
/-- EVM.ETIMn_STAT, 01_architecture -/
def etimStat (n : Nat) : Nat := 0x04114 + 0x20 * n
/-- SYS.ABPn_CFG, 01_architecture -/
def sysAbpCfg (n : Nat) : Nat := 0x00100 + 0x4 * n
/-- SYS.CLAIM_ERR, 01_architecture -/
def sysClaimErr : Nat := 0x000C0
/-- SYS.CLAIM_ERR_CNT, 01_architecture -/
def sysClaimErrCnt : Nat := 0x000C4
/-- SYS.GPIOn_CFG, 02_pins_power_reset -/
def sysGpioCfg (n : Nat) : Nat := 0x00200 + 0x4 * n
/-- SYS.GPIO_IN, 02_pins_power_reset -/
def sysGpioIn : Nat := 0x00240
/-- SYS.IO_STAT, 02_pins_power_reset -/
def sysIoStat : Nat := 0x00038
/-- SYS.PD_SETm, 02_pins_power_reset -/
def sysPdSet (m : Nat) : Nat := 0x00300 + 0x4 * m
/-- SYS.PD_CLRm, 02_pins_power_reset -/
def sysPdClr (m : Nat) : Nat := 0x00320 + 0x4 * m
/-- SYS.PD_STATm, 02_pins_power_reset -/
def sysPdStat (m : Nat) : Nat := 0x00340 + 0x4 * m
/-- SYS.PD_ERR, 02_pins_power_reset -/
def sysPdErr : Nat := 0x00360
/-- SYS.RST_CAUSE, 02_pins_power_reset -/
def sysRstCause : Nat := 0x00028
/-- SYS.RST_CTL, 02_pins_power_reset -/
def sysRstCtl : Nat := 0x0002C
/-- SYS.STRAP, 02_pins_power_reset -/
def sysStrap : Nat := 0x00030
/-- SYS.BOOT_STAT, 02_pins_power_reset -/
def sysBootStat : Nat := 0x00034
/-- TSQ.STAT, 03_sensor_timing -/
def tsqStat : Nat := 0x08000
/-- TSQ.UF_ADDR, 03_sensor_timing -/
def tsqUfAddr : Nat := 0x08004
/-- TSQ.PXj_CFG, 03_sensor_timing -/
def tsqPxCfg (j : Nat) : Nat := 0x08040 + 0x8 * j
/-- TSQ.PXj_COUNT, 03_sensor_timing -/
def tsqPxCount (j : Nat) : Nat := 0x08044 + 0x8 * j
/-- TSQ.PX_STEPi, 03_sensor_timing -/
def tsqPxStep (i : Nat) : Nat := 0x08080 + 0x4 * i
/-- TSQ.SMPn, 03_sensor_timing -/
def tsqSmp (n : Nat) : Nat := 0x08180 + 0x4 * n
/-- TSQ.UCODEw, 03_sensor_timing -/
def tsqUcode (w : Nat) : Nat := 0x09000 + 0x4 * w
/-- TSQ.LPp_CFG, 03_sensor_timing -/
def lpCfg (p : Nat) : Nat := 0x08200 + 0x80 * p
/-- TSQ.LPp_OUTS, 03_sensor_timing -/
def lpOuts (p : Nat) : Nat := 0x08204 + 0x80 * p
/-- TSQ.LPp_VIN, 03_sensor_timing -/
def lpVin (p : Nat) : Nat := 0x08208 + 0x80 * p
/-- TSQ.LPp_IDLE, 03_sensor_timing -/
def lpIdle (p : Nat) : Nat := 0x0820C + 0x80 * p
/-- TSQ.LPp_PITCH, 03_sensor_timing -/
def lpPitch (p : Nat) : Nat := 0x08210 + 0x80 * p
/-- TSQ.LPp_NEXT_LO, 03_sensor_timing -/
def lpNextLo (p : Nat) : Nat := 0x08214 + 0x80 * p
/-- TSQ.LPp_NEXT_HI, 03_sensor_timing -/
def lpNextHi (p : Nat) : Nat := 0x08218 + 0x80 * p
/-- TSQ.LPp_TRIG_SEL, 03_sensor_timing -/
def lpTrigSel (p : Nat) : Nat := 0x0821C + 0x80 * p
/-- TSQ.LPp_TMO, 03_sensor_timing -/
def lpTmo (p : Nat) : Nat := 0x08220 + 0x80 * p
/-- TSQ.LPp_STALE, 03_sensor_timing -/
def lpStale (p : Nat) : Nat := 0x08224 + 0x80 * p
/-- TSQ.LPp_FLUSH, 03_sensor_timing -/
def lpFlush (p : Nat) : Nat := 0x08228 + 0x80 * p
/-- TSQ.LPp_PHk_CFG, 03_sensor_timing -/
def lpPhCfg (p k : Nat) : Nat := 0x08230 + 0x80 * p + 0x8 * k
/-- TSQ.LPp_PHk_WIN, 03_sensor_timing -/
def lpPhWin (p k : Nat) : Nat := 0x08234 + 0x80 * p + 0x8 * k
/-- TSQ.LPp_STAT, 03_sensor_timing -/
def lpStat (p : Nat) : Nat := 0x08260 + 0x80 * p
/-- TSQ.LPp_LINE_CNT, 03_sensor_timing -/
def lpLineCnt (p : Nat) : Nat := 0x08264 + 0x80 * p
/-- TSQ.LPp_OVR_CNT, 03_sensor_timing -/
def lpOvrCnt (p : Nat) : Nat := 0x08268 + 0x80 * p
/-- TSQ.LPp_STALE_CNT, 03_sensor_timing -/
def lpStaleCnt (p : Nat) : Nat := 0x0826C + 0x80 * p
/-- TSQ.LPp_TMO_CNT, 03_sensor_timing -/
def lpTmoCnt (p : Nat) : Nat := 0x08270 + 0x80 * p
/-- TSQ.LPp_FLUSH_CNT, 03_sensor_timing -/
def lpFlushCnt (p : Nat) : Nat := 0x08274 + 0x80 * p
/-- TSQ.LPp_LAST_LO, 03_sensor_timing -/
def lpLastLo (p : Nat) : Nat := 0x08278 + 0x80 * p
/-- TSQ.LPp_LAST_HI, 03_sensor_timing -/
def lpLastHi (p : Nat) : Nat := 0x0827C + 0x80 * p
/-- VAF.CTL, 04_video_conversion -/
def vafCtl : Nat := 0x0C000
/-- VAF.STAT, 04_video_conversion -/
def vafStat : Nat := 0x0C004
/-- VAF.BGCAL, 04_video_conversion -/
def vafBgcal : Nat := 0x0C008
/-- VAF.BGTOL, 04_video_conversion -/
def vafBgtol : Nat := 0x0C00C
/-- VAF.FGCAL, 04_video_conversion -/
def vafFgcal : Nat := 0x0C010
/-- VAF.TDAC, 04_video_conversion -/
def vafTdac : Nat := 0x0C014
/-- VAF.XBAR, 04_video_conversion -/
def vafXbar : Nat := 0x0C018
/-- VAF.VFM, 04_video_conversion -/
def vafVfm : Nat := 0x0C01C
/-- VAF.VF_STUCK, 04_video_conversion -/
def vafVfStuck : Nat := 0x0C020
/-- VAF.VF_RAIL, 04_video_conversion -/
def vafVfRail : Nat := 0x0C024
/-- VAF.UNMAP_CNT, 04_video_conversion -/
def vafUnmapCnt : Nat := 0x0C028
/-- VAF.VINn_CFG, 04_video_conversion -/
def vafVinCfg (n : Nat) : Nat := 0x0C100 + 0x4 * n
/-- VAF.VINn_LVL, 04_video_conversion -/
def vafVinLvl (n : Nat) : Nat := 0x0C140 + 0x4 * n
/-- VAF.VINn_TRIM, 04_video_conversion -/
def vafVinTrim (n : Nat) : Nat := 0x0C180 + 0x4 * n
/-- VAF.VINn_MINMAX, 04_video_conversion -/
def vafVinMinmax (n : Nat) : Nat := 0x0C1C0 + 0x4 * n
/-- VAF.PMAPn_LO, 04_video_conversion -/
def vafPmapLo (n : Nat) : Nat := 0x0C200 + 0x8 * n
/-- VAF.PMAPn_HI, 04_video_conversion -/
def vafPmapHi (n : Nat) : Nat := 0x0C204 + 0x8 * n
/-- VAF.SEGs_CFG, 04_video_conversion -/
def vafSegCfg (s : Nat) : Nat := 0x0C300 + 0x8 * s
/-- VAF.SEGs_X, 04_video_conversion -/
def vafSegX (s : Nat) : Nat := 0x0C304 + 0x8 * s
/-- VAF.BANKk_STAT, 04_video_conversion -/
def bankStat (k : Nat) : Nat := 0x0C600 + 0x100 * k
/-- VAF.BANKk_SPUR, 04_video_conversion -/
def bankSpur (k : Nat) : Nat := 0x0C604 + 0x100 * k
/-- VAF.BANKk_CAL, 04_video_conversion -/
def bankCal (k : Nat) : Nat := 0x0C608 + 0x100 * k
/-- VAF.BANKk_SWAP_CNT, 04_video_conversion -/
def bankSwapCnt (k : Nat) : Nat := 0x0C60C + 0x100 * k
/-- VAF.BANKk_ABORT_CNT, 04_video_conversion -/
def bankAbortCnt (k : Nat) : Nat := 0x0C610 + 0x100 * k
/-- VAF.BANKk_MISS_CNT, 04_video_conversion -/
def bankMissCnt (k : Nat) : Nat := 0x0C614 + 0x100 * k
/-- VAF.BANKk_UNVER_CNT, 04_video_conversion -/
def bankUnverCnt (k : Nat) : Nat := 0x0C618 + 0x100 * k
/-- VAF.BANKk_SLs_OFS, 04_video_conversion -/
def bankSlOfs (k s : Nat) : Nat := 0x0C640 + 0x100 * k + 0x8 * s
/-- VAF.BANKk_SLs_GSK, 04_video_conversion -/
def bankSlGsk (k s : Nat) : Nat := 0x0C644 + 0x100 * k + 0x8 * s
/-- SHD.CHK0, 05_shading_alignment -/
def shdChk0 : Nat := 0x10000
/-- SHD.CHK1, 05_shading_alignment -/
def shdChk1 : Nat := 0x10004
/-- SHD.CHK2, 05_shading_alignment -/
def shdChk2 : Nat := 0x10008
/-- SHD.CHK3, 05_shading_alignment -/
def shdChk3 : Nat := 0x1000C
/-- SHD.CWIN, 05_shading_alignment -/
def shdCwin : Nat := 0x10010
/-- SHD.STAT, 05_shading_alignment -/
def shdStat : Nat := 0x10014
/-- SHD.REC_CTL, 05_shading_alignment -/
def shdRecCtl : Nat := 0x10018
/-- SHD.REC_STAT, 05_shading_alignment -/
def shdRecStat : Nat := 0x1001C
/-- SHD.REC_SEQ, 05_shading_alignment -/
def shdRecSeq : Nat := 0x10020
/-- SHD.DROP_CNT, 05_shading_alignment -/
def shdDropCnt : Nat := 0x10024
/-- SHD.GRPg_CTL, 05_shading_alignment -/
def grpCtl (g : Nat) : Nat := 0x10040 + 0x40 * g
/-- SHD.GRPg_TSRC, 05_shading_alignment -/
def grpTsrc (g : Nat) : Nat := 0x10044 + 0x40 * g
/-- SHD.GRPg_STRIP_SEL, 05_shading_alignment -/
def grpStripSel (g : Nat) : Nat := 0x10048 + 0x40 * g
/-- SHD.GRPg_ZONE, 05_shading_alignment -/
def grpZone (g : Nat) : Nat := 0x1004C + 0x40 * g
/-- SHD.GRPg_CALZ, 05_shading_alignment -/
def grpCalz (g : Nat) : Nat := 0x10050 + 0x40 * g
/-- SHD.GRPg_FIDX, 05_shading_alignment -/
def grpFidx (g : Nat) : Nat := 0x10054 + 0x40 * g
/-- SHD.GRPg_SEAM, 05_shading_alignment -/
def grpSeam (g : Nat) : Nat := 0x10058 + 0x40 * g
/-- SHD.GRPg_SETT, 05_shading_alignment -/
def grpSett (g : Nat) : Nat := 0x1005C + 0x40 * g
/-- SHD.GRPg_SETV, 05_shading_alignment -/
def grpSetv (g : Nat) : Nat := 0x10060 + 0x40 * g
/-- SHD.GRPg_TEMP, 05_shading_alignment -/
def grpTemp (g : Nat) : Nat := 0x10064 + 0x40 * g
/-- SHD.GRPg_STAT, 05_shading_alignment -/
def grpStat (g : Nat) : Nat := 0x10068 + 0x40 * g
/-- SHD.GRPg_Q0, 05_shading_alignment -/
def grpQ0 (g : Nat) : Nat := 0x1006C + 0x40 * g
/-- SHD.GRPg_Q1, 05_shading_alignment -/
def grpQ1 (g : Nat) : Nat := 0x10070 + 0x40 * g
/-- SHD.GRPg_Q2, 05_shading_alignment -/
def grpQ2 (g : Nat) : Nat := 0x10074 + 0x40 * g
/-- SHD.GRPg_REJ_CNT, 05_shading_alignment -/
def grpRejCnt (g : Nat) : Nat := 0x10078 + 0x40 * g
/-- SHD.PLn_CFG, 05_shading_alignment -/
def plCfg (n : Nat) : Nat := 0x10200 + 0x10 * n
/-- SHD.PLn_BASE, 05_shading_alignment -/
def plBase (n : Nat) : Nat := 0x10204 + 0x10 * n
/-- SHD.PLn_ALIGN, 05_shading_alignment -/
def plAlign (n : Nat) : Nat := 0x10208 + 0x10 * n
/-- SHD.PLn_WHITE, 05_shading_alignment -/
def plWhite (n : Nat) : Nat := 0x1020C + 0x10 * n
/-- SHD.TRIM0, 05_shading_alignment -/
def shdTrim0 (n : Nat) : Nat := 0x11000 + 0x8 * n
/-- SHD.TRIM1, 05_shading_alignment -/
def shdTrim1 (n : Nat) : Nat := 0x11004 + 0x8 * n
/-- GEO.EVMASK, 06_document_geometry -/
def geoEvmask : Nat := 0x14000
/-- GEO.STAT, 06_document_geometry -/
def geoStat : Nat := 0x14004
/-- GEO.UNREC_CNT, 06_document_geometry -/
def geoUnrecCnt : Nat := 0x14008
/-- GEO.Uu_CFG, 06_document_geometry -/
def uCfg (u : Nat) : Nat := 0x14100 + 0x40 * u
/-- GEO.Uu_THR, 06_document_geometry -/
def uThr (u : Nat) : Nat := 0x14104 + 0x40 * u
/-- GEO.Uu_RUN, 06_document_geometry -/
def uRun (u : Nat) : Nat := 0x14108 + 0x40 * u
/-- GEO.Uu_MINPIX, 06_document_geometry -/
def uMinpix (u : Nat) : Nat := 0x1410C + 0x40 * u
/-- GEO.Uu_COL, 06_document_geometry -/
def uCol (u : Nat) : Nat := 0x14110 + 0x40 * u
/-- GEO.Uu_NCOL, 06_document_geometry -/
def uNcol (u : Nat) : Nat := 0x14114 + 0x40 * u
/-- GEO.Uu_FIT, 06_document_geometry -/
def uFit (u : Nat) : Nat := 0x14118 + 0x40 * u
/-- GEO.Uu_ASPECT, 06_document_geometry -/
def uAspect (u : Nat) : Nat := 0x1411C + 0x40 * u
/-- GEO.Uu_WIN, 06_document_geometry -/
def uWin (u : Nat) : Nat := 0x14120 + 0x40 * u
/-- GEO.Uu_OPEN_SEL, 06_document_geometry -/
def uOpenSel (u : Nat) : Nat := 0x14124 + 0x40 * u
/-- GEO.Uu_CLOSE_SEL, 06_document_geometry -/
def uCloseSel (u : Nat) : Nat := 0x14128 + 0x40 * u
/-- GEO.Uu_STAT, 06_document_geometry -/
def uStat (u : Nat) : Nat := 0x1412C + 0x40 * u
/-- GEO.Uu_Y, 06_document_geometry -/
def uY (u : Nat) : Nat := 0x14130 + 0x40 * u
/-- GEO.Uu_FALSE_CNT, 06_document_geometry -/
def uFalseCnt (u : Nat) : Nat := 0x14134 + 0x40 * u
/-- GEO.TRKt_CFG, 06_document_geometry -/
def trkCfg (t : Nat) : Nat := 0x14200 + 0x20 * t
/-- GEO.TRKt_SC, 06_document_geometry -/
def trkSc (t : Nat) : Nat := 0x14204 + 0x20 * t
/-- GEO.TRKt_JOB, 06_document_geometry -/
def trkJob (t : Nat) : Nat := 0x14208 + 0x20 * t
/-- GEO.TRKt_HOLD, 06_document_geometry -/
def trkHold (t : Nat) : Nat := 0x1420C + 0x20 * t
/-- GEO.TRKt_CLOSE, 06_document_geometry -/
def trkClose (t : Nat) : Nat := 0x14210 + 0x20 * t
/-- GEO.TRKt_STAT, 06_document_geometry -/
def trkStat (t : Nat) : Nat := 0x14214 + 0x20 * t
/-- GEO.TRKt_SEQ, 06_document_geometry -/
def trkSeq (t : Nat) : Nat := 0x14218 + 0x20 * t
/-- GEO.TRKt_LATE_CNT, 06_document_geometry -/
def trkLateCnt (t : Nat) : Nat := 0x1421C + 0x20 * t
/-- GAIT.STAT, 07_transport_pacing -/
def gaitStat : Nat := 0x18000
/-- GAIT.PS_IN, 07_transport_pacing -/
def gaitPsIn : Nat := 0x18004
/-- GAIT.PS_POL, 07_transport_pacing -/
def gaitPsPol : Nat := 0x18008
/-- GAIT.PS_FILT, 07_transport_pacing -/
def gaitPsFilt : Nat := 0x1800C
/-- GAIT.PSEi, 07_transport_pacing -/
def gaitPse (i : Nat) : Nat := 0x18020 + 0x4 * i
/-- GAIT.Mn_CTL, 07_transport_pacing -/
def axisCtl (n : Nat) : Nat := 0x18100 + 0x20 * n
/-- GAIT.Mn_RATIO, 07_transport_pacing -/
def axisRatio (n : Nat) : Nat := 0x18104 + 0x20 * n
/-- GAIT.Mn_POS_LO, 07_transport_pacing -/
def axisPosLo (n : Nat) : Nat := 0x18108 + 0x20 * n
/-- GAIT.Mn_POS_HI, 07_transport_pacing -/
def axisPosHi (n : Nat) : Nat := 0x1810C + 0x20 * n
/-- GAIT.Mn_STAT, 07_transport_pacing -/
def axisStat (n : Nat) : Nat := 0x18110 + 0x20 * n
/-- GAIT.Mn_RATE, 07_transport_pacing -/
def axisRate (n : Nat) : Nat := 0x18114 + 0x20 * n
/-- GAIT.ENCe_CFG, 07_transport_pacing -/
def encCfg (e : Nat) : Nat := 0x18180 + 0x20 * e
/-- GAIT.ENCe_POS_LO, 07_transport_pacing -/
def encPosLo (e : Nat) : Nat := 0x18184 + 0x20 * e
/-- GAIT.ENCe_POS_HI, 07_transport_pacing -/
def encPosHi (e : Nat) : Nat := 0x18188 + 0x20 * e
/-- GAIT.ENCe_ZPOS_LO, 07_transport_pacing -/
def encZposLo (e : Nat) : Nat := 0x1818C + 0x20 * e
/-- GAIT.ENCe_ZPOS_HI, 07_transport_pacing -/
def encZposHi (e : Nat) : Nat := 0x18190 + 0x20 * e
/-- GAIT.ENCe_STAT, 07_transport_pacing -/
def encStat (e : Nat) : Nat := 0x18194 + 0x20 * e
/-- GAIT.ENCe_ERR_CNT, 07_transport_pacing -/
def encErrCnt (e : Nat) : Nat := 0x18198 + 0x20 * e
/-- GAIT.PATHk_CFG, 07_transport_pacing -/
def pathCfg (k : Nat) : Nat := 0x18400 + 0x100 * k
/-- GAIT.PATHk_LINKS, 07_transport_pacing -/
def pathLinks (k : Nat) : Nat := 0x18404 + 0x100 * k
/-- GAIT.PATHk_POLICY, 07_transport_pacing -/
def pathPolicy (k : Nat) : Nat := 0x18408 + 0x100 * k
/-- GAIT.PATHk_OCCTHR, 07_transport_pacing -/
def pathOccthr (k : Nat) : Nat := 0x1840C + 0x100 * k
/-- GAIT.PATHk_RAMP, 07_transport_pacing -/
def pathRamp (k : Nat) : Nat := 0x18410 + 0x100 * k
/-- GAIT.PATHk_GUARD, 07_transport_pacing -/
def pathGuard (k : Nat) : Nat := 0x18414 + 0x100 * k
/-- GAIT.PATHk_SEAM, 07_transport_pacing -/
def pathSeam (k : Nat) : Nat := 0x18418 + 0x100 * k
/-- GAIT.PATHk_SEAM2, 07_transport_pacing -/
def pathSeam2 (k : Nat) : Nat := 0x1841C + 0x100 * k
/-- GAIT.PATHk_FEED, 07_transport_pacing -/
def pathFeed (k : Nat) : Nat := 0x18420 + 0x100 * k
/-- GAIT.PATHk_HLOSS_SEL, 07_transport_pacing -/
def pathHlossSel (k : Nat) : Nat := 0x18424 + 0x100 * k
/-- GAIT.PATHk_CMD, 07_transport_pacing -/
def pathCmd (k : Nat) : Nat := 0x18428 + 0x100 * k
/-- GAIT.PATHk_STAT, 07_transport_pacing -/
def pathStat (k : Nat) : Nat := 0x1842C + 0x100 * k
/-- GAIT.PATHk_OCC, 07_transport_pacing -/
def pathOcc (k : Nat) : Nat := 0x18430 + 0x100 * k
/-- GAIT.PATHk_LAST_LO, 07_transport_pacing -/
def pathLastLo (k : Nat) : Nat := 0x18434 + 0x100 * k
/-- GAIT.PATHk_LAST_HI, 07_transport_pacing -/
def pathLastHi (k : Nat) : Nat := 0x18438 + 0x100 * k
/-- GAIT.PATHk_REV, 07_transport_pacing -/
def pathRev (k : Nat) : Nat := 0x1843C + 0x100 * k
/-- GAIT.PATHk_GSPDg, 07_transport_pacing -/
def pathGspd (k g : Nat) : Nat := 0x1843C + 0x100 * k + 0x4 * g
/-- GAIT.PATHk_GTHRg, 07_transport_pacing -/
def pathGthr (k g : Nat) : Nat := 0x1845C + 0x100 * k + 0x4 * g
/-- GAIT.PATHk_CHKi_A, 07_transport_pacing -/
def pathChkA (k i : Nat) : Nat := 0x18480 + 0x100 * k + 0x8 * i
/-- GAIT.PATHk_CHKi_B, 07_transport_pacing -/
def pathChkB (k i : Nat) : Nat := 0x18484 + 0x100 * k + 0x8 * i
/-- GAIT.PATHk_GAIT_CNT, 07_transport_pacing -/
def pathGaitCnt (k : Nat) : Nat := 0x184C0 + 0x100 * k
/-- GAIT.PATHk_SEAM_CNT, 07_transport_pacing -/
def pathSeamCnt (k : Nat) : Nat := 0x184C4 + 0x100 * k
/-- GAIT.PATHk_UNVER_CNT, 07_transport_pacing -/
def pathUnverCnt (k : Nat) : Nat := 0x184C8 + 0x100 * k
/-- GAIT.PATHk_JAM_CNT, 07_transport_pacing -/
def pathJamCnt (k : Nat) : Nat := 0x184CC + 0x100 * k
/-- GAIT.SEAMg_CFG, 07_transport_pacing -/
def seamCfg (g : Nat) : Nat := 0x18800 + 0x20 * g
/-- GAIT.SEAMg_LIM, 07_transport_pacing -/
def seamLim (g : Nat) : Nat := 0x18804 + 0x20 * g
/-- GAIT.SEAMg_RES, 07_transport_pacing -/
def seamRes (g : Nat) : Nat := 0x18808 + 0x20 * g
/-- GAIT.SEAMg_INFO, 07_transport_pacing -/
def seamInfo (g : Nat) : Nat := 0x1880C + 0x20 * g
/-- AUX.STAT, 08_aux_sensing -/
def auxStat : Nat := 0x1C000
/-- AUX.REG_CTL, 08_aux_sensing -/
def auxRegCtl : Nat := 0x1C004
/-- AUX.REG_TRIG_SEL, 08_aux_sensing -/
def auxRegTrigSel : Nat := 0x1C008
/-- AUX.INJ_TRIG_SEL, 08_aux_sensing -/
def auxInjTrigSel : Nat := 0x1C010
/-- AUX.INJ_CTL, 08_aux_sensing -/
def auxInjCtl : Nat := 0x1C00C
/-- AUX.OW, 08_aux_sensing -/
def auxOw : Nat := 0x1C014
/-- AUX.TMO, 08_aux_sensing -/
def auxTmo : Nat := 0x1C018
/-- AUX.CJ_FIX, 08_aux_sensing -/
def auxCjFix : Nat := 0x1C01C
/-- AUX.OPEN_REG, 08_aux_sensing -/
def auxOpenReg : Nat := 0x1C020
/-- AUX.OPEN_INJ, 08_aux_sensing -/
def auxOpenInj : Nat := 0x1C024
/-- AUX.CLAMP_STAT, 08_aux_sensing -/
def auxClampStat : Nat := 0x1C028
/-- AUX.EXC_STAT, 08_aux_sensing -/
def auxExcStat : Nat := 0x1C02C
/-- AUX.OVR_CNT, 08_aux_sensing -/
def auxOvrCnt : Nat := 0x1C030
/-- AUX.SKIP_CNT, 08_aux_sensing -/
def auxSkipCnt : Nat := 0x1C034
/-- AUX.TMO_CNT, 08_aux_sensing -/
def auxTmoCnt : Nat := 0x1C038
/-- AUX.CAL_CTL, 08_aux_sensing -/
def auxCalCtl : Nat := 0x1C03C
/-- AUX.EXCk_CFG, 08_aux_sensing -/
def auxExcCfg (k : Nat) : Nat := 0x1C040 + 0x4 * k
/-- AUX.CALG_OFS, 08_aux_sensing -/
def auxCalOfs (G : Nat) : Nat := 0x1C060 + 0x4 * G
/-- AUX.CALG_GAIN, 08_aux_sensing -/
def auxCalGain (G : Nat) : Nat := 0x1C080 + 0x4 * G
/-- AUX.CAL_STAT, 08_aux_sensing -/
def auxCalStat : Nat := 0x1C0A0
/-- AUX.UTt_N, 08_aux_sensing -/
def auxUtN (t : Nat) : Nat := 0x1C0B0 + 0x4 * t
/-- AUX.REG_CFGe, 08_aux_sensing -/
def auxRegCfg (e : Nat) : Nat := 0x1C200 + 0x10 * e
/-- AUX.REG_TIMEe, 08_aux_sensing -/
def auxRegTime (e : Nat) : Nat := 0x1C204 + 0x10 * e
/-- AUX.REG_LINe, 08_aux_sensing -/
def auxRegLin (e : Nat) : Nat := 0x1C208 + 0x10 * e
/-- AUX.REG_KREFe, 08_aux_sensing -/
def auxRegKref (e : Nat) : Nat := 0x1C20C + 0x10 * e
/-- AUX.REGS_VALUEe, 08_aux_sensing -/
def auxRegSlotValue (e : Nat) : Nat := 0x1C500 + 0x10 * e
/-- AUX.REGS_STATUSe, 08_aux_sensing -/
def auxRegSlotStatus (e : Nat) : Nat := 0x1C504 + 0x10 * e
/-- AUX.REGS_TS_LOe, 08_aux_sensing -/
def auxRegSlotTsLo (e : Nat) : Nat := 0x1C508 + 0x10 * e
/-- AUX.REGS_TS_HIe, 08_aux_sensing -/
def auxRegSlotTsHi (e : Nat) : Nat := 0x1C50C + 0x10 * e
/-- AUX.UTt_Xk, 08_aux_sensing -/
def auxUtX (t k : Nat) : Nat := 0x1C800 + 0x200 * t + 0x8 * k
/-- AUX.UTt_Yk, 08_aux_sensing -/
def auxUtY (t k : Nat) : Nat := 0x1C804 + 0x200 * t + 0x8 * k
/-- AUX.WFc_CFG, 08_aux_sensing -/
def wfCfg (c : Nat) : Nat := 0x1C100 + 0x40 * c
/-- AUX.WFc_PITCH, 08_aux_sensing -/
def wfPitch (c : Nat) : Nat := 0x1C104 + 0x40 * c
/-- AUX.WFc_BASE_LO, 08_aux_sensing -/
def wfBaseLo (c : Nat) : Nat := 0x1C108 + 0x40 * c
/-- AUX.WFc_BASE_HI, 08_aux_sensing -/
def wfBaseHi (c : Nat) : Nat := 0x1C10C + 0x40 * c
/-- AUX.WFc_SIZE, 08_aux_sensing -/
def wfSize (c : Nat) : Nat := 0x1C110 + 0x40 * c
/-- AUX.WFc_BLK, 08_aux_sensing -/
def wfBlk (c : Nat) : Nat := 0x1C114 + 0x40 * c
/-- AUX.WFc_START_SEL, 08_aux_sensing -/
def wfStartSel (c : Nat) : Nat := 0x1C118 + 0x40 * c
/-- AUX.WFc_STOP_SEL, 08_aux_sensing -/
def wfStopSel (c : Nat) : Nat := 0x1C11C + 0x40 * c
/-- AUX.WFc_MAX, 08_aux_sensing -/
def wfMax (c : Nat) : Nat := 0x1C120 + 0x40 * c
/-- AUX.WFc_WR, 08_aux_sensing -/
def wfWr (c : Nat) : Nat := 0x1C124 + 0x40 * c
/-- AUX.WFc_RD, 08_aux_sensing -/
def wfRd (c : Nat) : Nat := 0x1C128 + 0x40 * c
/-- AUX.WFc_STAT, 08_aux_sensing -/
def wfStat (c : Nat) : Nat := 0x1C12C + 0x40 * c
/-- AUX.WFc_POS0_LO, 08_aux_sensing -/
def wfPos0Lo (c : Nat) : Nat := 0x1C130 + 0x40 * c
/-- AUX.WFc_POS0_HI, 08_aux_sensing -/
def wfPos0Hi (c : Nat) : Nat := 0x1C134 + 0x40 * c
/-- AUX.WFc_MARK, 08_aux_sensing -/
def wfMark (c : Nat) : Nat := 0x1C138 + 0x40 * c
/-- AUX.WFc_CAPS, 08_aux_sensing -/
def wfCaps (c : Nat) : Nat := 0x1C13C + 0x40 * c
/-- TCX.CTL, 09_tandem_code -/
def tcxCtl : Nat := 0x20000
/-- TCX.STAT, 09_tandem_code -/
def tcxStat : Nat := 0x20004
/-- TCX.DERR, 09_tandem_code -/
def tcxDerr : Nat := 0x20008
/-- TCX.DERR_OFS_LO, 09_tandem_code -/
def tcxDerrOfsLo : Nat := 0x2000C
/-- TCX.DERR_OFS_HI, 09_tandem_code -/
def tcxDerrOfsHi : Nat := 0x20010
/-- TCX.SWITCH_CNT, 09_tandem_code -/
def tcxSwitchCnt : Nat := 0x20014
/-- TCX.MISS_CNT, 09_tandem_code -/
def tcxMissCnt : Nat := 0x20018
/-- TCX.CLIP_CNT, 09_tandem_code -/
def tcxClipCnt : Nat := 0x2001C
/-- TCX.ESC_CNT, 09_tandem_code -/
def tcxEscCnt : Nat := 0x20020
/-- TCX.LANEn, 09_tandem_code -/
def tcxLane (n : Nat) : Nat := 0x20100 + 0x4 * n
/-- PACK.MWIN, 10_pack_engines -/
def packMwin : Nat := 0x24000
/-- PACK.FAULTm, 10_pack_engines -/
def packFault (m : Nat) : Nat := 0x24010 + 0x4 * m
/-- PACK.TSEMi, 10_pack_engines -/
def packTsem (i : Nat) : Nat := 0x24400 + 0x4 * i
/-- PACK.IWi_CFG, 10_pack_engines -/
def iwCfg (i : Nat) : Nat := 0x24800 + 0x20 * i
/-- PACK.IWi_GEOM, 10_pack_engines -/
def iwGeom (i : Nat) : Nat := 0x24804 + 0x20 * i
/-- PACK.IWi_RING, 10_pack_engines -/
def iwRing (i : Nat) : Nat := 0x24808 + 0x20 * i
/-- PACK.IWi_WR, 10_pack_engines -/
def iwWr (i : Nat) : Nat := 0x2480C + 0x20 * i
/-- PACK.IWi_RD, 10_pack_engines -/
def iwRd (i : Nat) : Nat := 0x24810 + 0x20 * i
/-- PACK.IWi_STAT, 10_pack_engines -/
def iwStat (i : Nat) : Nat := 0x24814 + 0x20 * i
/-- PACK.IWi_DROP_CNT, 10_pack_engines -/
def iwDropCnt (i : Nat) : Nat := 0x24818 + 0x20 * i
/-- PACK.IWi_LAST, 10_pack_engines -/
def iwLast (i : Nat) : Nat := 0x2481C + 0x20 * i
/-- PACK.OWj_CFG, 10_pack_engines -/
def owCfg (j : Nat) : Nat := 0x24C00 + 0x20 * j
/-- PACK.OWj_GEOM, 10_pack_engines -/
def owGeom (j : Nat) : Nat := 0x24C04 + 0x20 * j
/-- PACK.OWj_RING, 10_pack_engines -/
def owRing (j : Nat) : Nat := 0x24C08 + 0x20 * j
/-- PACK.OWj_SC, 10_pack_engines -/
def owSc (j : Nat) : Nat := 0x24C0C + 0x20 * j
/-- PACK.OWj_DLV, 10_pack_engines -/
def owDlv (j : Nat) : Nat := 0x24C10 + 0x20 * j
/-- PACK.OWj_STAT, 10_pack_engines -/
def owStat (j : Nat) : Nat := 0x24C14 + 0x20 * j
/-- PACK.OWj_SKIP_CNT, 10_pack_engines -/
def owSkipCnt (j : Nat) : Nat := 0x24C18 + 0x20 * j
/-- PACK.En_CTL, 10_pack_engines -/
def engCtl (n : Nat) : Nat := 0x26000 + 0x40 * n
/-- PACK.En_START, 10_pack_engines -/
def engStart (n : Nat) : Nat := 0x26004 + 0x40 * n
/-- PACK.En_STAT, 10_pack_engines -/
def engStat (n : Nat) : Nat := 0x26008 + 0x40 * n
/-- PACK.En_FAULT, 10_pack_engines -/
def engFault (n : Nat) : Nat := 0x2600C + 0x40 * n
/-- PACK.En_FADDR_LO, 10_pack_engines -/
def engFaddrLo (n : Nat) : Nat := 0x26010 + 0x40 * n
/-- PACK.En_FADDR_HI, 10_pack_engines -/
def engFaddrHi (n : Nat) : Nat := 0x26014 + 0x40 * n
/-- PACK.En_IMG, 10_pack_engines -/
def engImg (n : Nat) : Nat := 0x26018 + 0x40 * n
/-- PACK.En_VER, 10_pack_engines -/
def engVer (n : Nat) : Nat := 0x2601C + 0x40 * n
/-- PACK.En_INBOX, 10_pack_engines -/
def engInbox (n : Nat) : Nat := 0x26020 + 0x40 * n
/-- PACK.En_OUTBOX, 10_pack_engines -/
def engOutbox (n : Nat) : Nat := 0x26024 + 0x40 * n
/-- PACK.En_MBX, 10_pack_engines -/
def engMbx (n : Nat) : Nat := 0x26028 + 0x40 * n
/-- PACK.En_ECSELc, 10_pack_engines -/
def engEcsel (n c : Nat) : Nat := 0x2602C + 0x40 * n + 0x4 * c
/-- PACK.En_ECCNT, 10_pack_engines -/
def engEccnt (n : Nat) : Nat := 0x2603C + 0x40 * n
/-- HQE.CTL, 11_host_queues_streams -/
def hqeCtl : Nat := 0x28000
/-- HQE.STAT, 11_host_queues_streams -/
def hqeStat : Nat := 0x28004
/-- HQE.AQ_SQ_LO, 11_host_queues_streams -/
def hqeAqSqLo : Nat := 0x28010
/-- HQE.AQ_SQ_HI, 11_host_queues_streams -/
def hqeAqSqHi : Nat := 0x28014
/-- HQE.AQ_CQ_LO, 11_host_queues_streams -/
def hqeAqCqLo : Nat := 0x28018
/-- HQE.AQ_CQ_HI, 11_host_queues_streams -/
def hqeAqCqHi : Nat := 0x2801C
/-- HQE.AQ_CFG, 11_host_queues_streams -/
def hqeAqCfg : Nat := 0x28020
/-- HQE.SPILL_BASE_LO, 11_host_queues_streams -/
def hqeSpillBaseLo : Nat := 0x28030
/-- HQE.SPILL_BASE_HI, 11_host_queues_streams -/
def hqeSpillBaseHi : Nat := 0x28034
/-- HQE.SPILL_SIZE, 11_host_queues_streams -/
def hqeSpillSize : Nat := 0x28038
/-- HQE.SPILL_FREE, 11_host_queues_streams -/
def hqeSpillFree : Nat := 0x2803C
/-- HQE.FETCH_TMO, 11_host_queues_streams -/
def hqeFetchTmo : Nat := 0x28040
/-- HQE.HWD, 11_host_queues_streams -/
def hqeHwd : Nat := 0x28044
/-- HQE.QERR, 11_host_queues_streams -/
def hqeQerr : Nat := 0x28050
/-- HQE.ERR_ADDR_LO, 11_host_queues_streams -/
def hqeErrAddrLo : Nat := 0x28054
/-- HQE.ERR_ADDR_HI, 11_host_queues_streams -/
def hqeErrAddrHi : Nat := 0x28058
/-- HQE.OCCk, 11_host_queues_streams -/
def hqeOcc (k : Nat) : Nat := 0x28060 + 0x4 * k
/-- HQE.JOBj, 11_host_queues_streams -/
def hqeJob (j : Nat) : Nat := 0x28080 + 0x4 * j
/-- HQE.TMO_CNT, 11_host_queues_streams -/
def hqeTmoCnt : Nat := 0x280C0
/-- HQE.BUS_CNT, 11_host_queues_streams -/
def hqeBusCnt : Nat := 0x280C4
/-- HQE.LOOP_CNT, 11_host_queues_streams -/
def hqeLoopCnt : Nat := 0x280C8
/-- HQE.FAIL_CNT, 11_host_queues_streams -/
def hqeFailCnt : Nat := 0x280CC
/-- HQE.DISC_CNT, 11_host_queues_streams -/
def hqeDiscCnt : Nat := 0x280D0
/-- HQE.BRG_ERR_CNT, 11_host_queues_streams -/
def hqeBrgErrCnt : Nat := 0x280D4
/-- IDMA.BUSY, 12_internal_dma -/
def idmaBusy : Nat := 0x2C000
/-- IDMA.HALTED, 12_internal_dma -/
def idmaHalted : Nat := 0x2C004
/-- IDMA.CC_STAT, 12_internal_dma -/
def idmaCcStat : Nat := 0x2C008
/-- IDMA.POLL, 12_internal_dma -/
def idmaPoll : Nat := 0x2C00C
/-- IDMA.ERR, 12_internal_dma -/
def idmaErr : Nat := 0x2C010
/-- IDMA.ERR_ADDR_LO, 12_internal_dma -/
def idmaErrAddrLo : Nat := 0x2C014
/-- IDMA.ERR_ADDR_HI, 12_internal_dma -/
def idmaErrAddrHi : Nat := 0x2C018
/-- IDMA.BUS_CNT, 12_internal_dma -/
def idmaBusCnt : Nat := 0x2C020
/-- IDMA.TMO_CNT, 12_internal_dma -/
def idmaTmoCnt : Nat := 0x2C024
/-- IDMA.LOOP_CNT, 12_internal_dma -/
def idmaLoopCnt : Nat := 0x2C028
/-- IDMA.ECC_CNT, 12_internal_dma -/
def idmaEccCnt : Nat := 0x2C02C
/-- IDMA.CHn_CTL, 12_internal_dma -/
def chCtl (n : Nat) : Nat := 0x2C100 + 0x40 * n
/-- IDMA.CHn_DESC_LO, 12_internal_dma -/
def chDescLo (n : Nat) : Nat := 0x2C104 + 0x40 * n
/-- IDMA.CHn_DESC_HI, 12_internal_dma -/
def chDescHi (n : Nat) : Nat := 0x2C108 + 0x40 * n
/-- IDMA.CHn_START_SEL, 12_internal_dma -/
def chStartSel (n : Nat) : Nat := 0x2C10C + 0x40 * n
/-- IDMA.CHn_PACE_SEL, 12_internal_dma -/
def chPaceSel (n : Nat) : Nat := 0x2C110 + 0x40 * n
/-- IDMA.CHn_KICK_SEL, 12_internal_dma -/
def chKickSel (n : Nat) : Nat := 0x2C114 + 0x40 * n
/-- IDMA.CHn_STAT, 12_internal_dma -/
def chStat (n : Nat) : Nat := 0x2C118 + 0x40 * n
/-- IDMA.CHn_PACE, 12_internal_dma -/
def chPace (n : Nat) : Nat := 0x2C11C + 0x40 * n
/-- IDMA.CHn_SRC_LO, 12_internal_dma -/
def chSrcLo (n : Nat) : Nat := 0x2C120 + 0x40 * n
/-- IDMA.CHn_SRC_HI, 12_internal_dma -/
def chSrcHi (n : Nat) : Nat := 0x2C124 + 0x40 * n
/-- IDMA.CHn_DST_LO, 12_internal_dma -/
def chDstLo (n : Nat) : Nat := 0x2C128 + 0x40 * n
/-- IDMA.CHn_DST_HI, 12_internal_dma -/
def chDstHi (n : Nat) : Nat := 0x2C12C + 0x40 * n
/-- IDMA.CHn_REM, 12_internal_dma -/
def chRem (n : Nat) : Nat := 0x2C130 + 0x40 * n
/-- IDMA.CHn_HOLD, 12_internal_dma -/
def chHold (n : Nat) : Nat := 0x2C134 + 0x40 * n
/-- IDMA.CHn_FADDR_LO, 12_internal_dma -/
def chFaddrLo (n : Nat) : Nat := 0x2C138 + 0x40 * n
/-- IDMA.CHn_FADDR_HI, 12_internal_dma -/
def chFaddrHi (n : Nat) : Nat := 0x2C13C + 0x40 * n
/-- IDMA.CCn_SAR, 12_internal_dma -/
def ccSar (n : Nat) : Nat := 0x2CA00 + 0x20 * n
/-- IDMA.CCn_DAR, 12_internal_dma -/
def ccDar (n : Nat) : Nat := 0x2CA04 + 0x20 * n
/-- IDMA.CCn_TCR, 12_internal_dma -/
def ccTcr (n : Nat) : Nat := 0x2CA08 + 0x20 * n
/-- IDMA.CCn_CCR, 12_internal_dma -/
def ccCcr (n : Nat) : Nat := 0x2CA0C + 0x20 * n
/-- IDMA.CCn_CSR, 12_internal_dma -/
def ccCsr (n : Nat) : Nat := 0x2CA10 + 0x20 * n
/-- IDMA.CCn_XHI, 12_internal_dma -/
def ccXhi (n : Nat) : Nat := 0x2CA14 + 0x20 * n
/-- IDMA.CCn_TRIG_SEL, 12_internal_dma -/
def ccTrigSel (n : Nat) : Nat := 0x2CA18 + 0x20 * n
/-- IDMA.CCn_CRED, 12_internal_dma -/
def ccCred (n : Nat) : Nat := 0x2CA1C + 0x20 * n
/-- DLF.CFG, 13_doldean_fabric -/
def dlfCfg : Nat := 0x30000
/-- DLF.STAT, 13_doldean_fabric -/
def dlfStat : Nat := 0x30004
/-- DLF.UID_LO, 13_doldean_fabric -/
def dlfUidLo : Nat := 0x30008
/-- DLF.UID_HI, 13_doldean_fabric -/
def dlfUidHi : Nat := 0x3000C
/-- DLF.LEAD_UID_LO, 13_doldean_fabric -/
def dlfLeadUidLo : Nat := 0x30010
/-- DLF.LEAD_UID_HI, 13_doldean_fabric -/
def dlfLeadUidHi : Nat := 0x30014
/-- DLF.EPOCH, 13_doldean_fabric -/
def dlfEpoch : Nat := 0x30018
/-- DLF.KEY, 13_doldean_fabric -/
def dlfKey : Nat := 0x3001C
/-- DLF.TMO, 13_doldean_fabric -/
def dlfTmo : Nat := 0x30020
/-- DLF.FORM, 13_doldean_fabric -/
def dlfForm : Nat := 0x30024
/-- DLF.GUARD, 13_doldean_fabric -/
def dlfGuard : Nat := 0x30028
/-- DLF.REKEY, 13_doldean_fabric -/
def dlfRekey : Nat := 0x3002C
/-- DLF.TIME_CFG, 13_doldean_fabric -/
def dlfTimeCfg : Nat := 0x30030
/-- DLF.TIME_STAT, 13_doldean_fabric -/
def dlfTimeStat : Nat := 0x30034
/-- DLF.LC_CFG, 13_doldean_fabric -/
def dlfLcCfg : Nat := 0x30038
/-- DLF.LC_STAT, 13_doldean_fabric -/
def dlfLcStat : Nat := 0x3003C
/-- DLF.LC_TICK, 13_doldean_fabric -/
def dlfLcTick : Nat := 0x30040
/-- DLF.ERR, 13_doldean_fabric -/
def dlfErr : Nat := 0x30044
/-- DLF.CRC_CNT, 13_doldean_fabric -/
def dlfCrcCnt : Nat := 0x30048
/-- DLF.HOLD_CNT, 13_doldean_fabric -/
def dlfHoldCnt : Nat := 0x3004C
/-- DLF.ORPHAN_CNT, 13_doldean_fabric -/
def dlfOrphanCnt : Nat := 0x30050
/-- DLF.RSP_TMO_CNT, 13_doldean_fabric -/
def dlfRspTmoCnt : Nat := 0x30054
/-- DLF.LATE_RSP_CNT, 13_doldean_fabric -/
def dlfLateRspCnt : Nat := 0x30058
/-- DLF.VIOL_CNT, 13_doldean_fabric -/
def dlfViolCnt : Nat := 0x3005C
/-- DLF.UNREACH_CNT, 13_doldean_fabric -/
def dlfUnreachCnt : Nat := 0x30060
/-- DLF.AUTH_FAIL_CNT, 13_doldean_fabric -/
def dlfAuthFailCnt : Nat := 0x30064
/-- DLF.LC_LATE_CNT, 13_doldean_fabric -/
def dlfLcLateCnt : Nat := 0x30068
/-- DLF.RWINw_A, 13_doldean_fabric -/
def dlfRwinA (w : Nat) : Nat := 0x30080 + 0x8 * w
/-- DLF.RWINw_B, 13_doldean_fabric -/
def dlfRwinB (w : Nat) : Nat := 0x30084 + 0x8 * w
/-- DLF.RTi, 13_doldean_fabric -/
def dlfRt (i : Nat) : Nat := 0x300C0 + 0x4 * i
/-- DLF.DLk_CTL, 13_doldean_fabric -/
def dlCtl (k : Nat) : Nat := 0x30200 + 0x40 * k
/-- DLF.DLk_STAT, 13_doldean_fabric -/
def dlStat (k : Nat) : Nat := 0x30204 + 0x40 * k
/-- DLF.DLk_PEER_LO, 13_doldean_fabric -/
def dlPeerLo (k : Nat) : Nat := 0x30208 + 0x40 * k
/-- DLF.DLk_PEER_HI, 13_doldean_fabric -/
def dlPeerHi (k : Nat) : Nat := 0x3020C + 0x40 * k
/-- DLF.DLk_DELAY, 13_doldean_fabric -/
def dlDelay (k : Nat) : Nat := 0x30210 + 0x40 * k
/-- DLF.DLk_ASYM, 13_doldean_fabric -/
def dlAsym (k : Nat) : Nat := 0x30214 + 0x40 * k
/-- DLF.DLk_CRED, 13_doldean_fabric -/
def dlCred (k : Nat) : Nat := 0x30218 + 0x40 * k
/-- DLF.DLk_POL, 13_doldean_fabric -/
def dlPol (k : Nat) : Nat := 0x3021C + 0x40 * k
/-- DLF.DLk_REPLAY_CNT, 13_doldean_fabric -/
def dlReplayCnt (k : Nat) : Nat := 0x30220 + 0x40 * k
/-- DLF.DLk_POL_CNT, 13_doldean_fabric -/
def dlPolCnt (k : Nat) : Nat := 0x30224 + 0x40 * k
/-- DLF.DLk_DOWN_CNT, 13_doldean_fabric -/
def dlDownCnt (k : Nat) : Nat := 0x30228 + 0x40 * k
/-- DLF.DLk_TERR_CNT, 13_doldean_fabric -/
def dlTerrCnt (k : Nat) : Nat := 0x3022C + 0x40 * k
/-- DLF.STc_CFG, 13_doldean_fabric -/
def stCfg (c : Nat) : Nat := 0x30400 + 0x20 * c
/-- DLF.STc_GEOM, 13_doldean_fabric -/
def stGeom (c : Nat) : Nat := 0x30404 + 0x20 * c
/-- DLF.STc_DL, 13_doldean_fabric -/
def stDl (c : Nat) : Nat := 0x30408 + 0x20 * c
/-- DLF.STc_STAT, 13_doldean_fabric -/
def stStat (c : Nat) : Nat := 0x3040C + 0x20 * c
/-- DLF.STc_LINES, 13_doldean_fabric -/
def stLines (c : Nat) : Nat := 0x30410 + 0x20 * c
/-- DLF.STc_MISS_CNT, 13_doldean_fabric -/
def stMissCnt (c : Nat) : Nat := 0x30414 + 0x20 * c
/-- DLF.STc_LATE_CNT, 13_doldean_fabric -/
def stLateCnt (c : Nat) : Nat := 0x30418 + 0x20 * c
/-- HLT.CFG, 14_halter_port -/
def hltCfg : Nat := 0x34000
/-- HLT.STAT, 14_halter_port -/
def hltStat : Nat := 0x34004
/-- HLT.WAKE, 14_halter_port -/
def hltWake : Nat := 0x34008
/-- HLT.ALERT, 14_halter_port -/
def hltAlert : Nat := 0x34010
/-- HLT.ALERT_EN, 14_halter_port -/
def hltAlertEn : Nat := 0x34014
/-- HLT.TSn, 14_halter_port -/
def hltTs (n : Nat) : Nat := 0x34020 + 0x4 * n
/-- HLT.THR, 14_halter_port -/
def hltThr : Nat := 0x34030
/-- HLT.RAILr, 14_halter_port -/
def hltRail (r : Nat) : Nat := 0x34040 + 0x4 * r
/-- HLT.RWARNr, 14_halter_port -/
def hltRwarn (r : Nat) : Nat := 0x34080 + 0x4 * r
/-- HLT.LOG_CNT, 14_halter_port -/
def hltLogCnt : Nat := 0x340C0
/-- HLT.AON_MS, 14_halter_port -/
def hltAonMs : Nat := 0x340C4
/-- HLT.NACK_CNT, 14_halter_port -/
def hltNackCnt : Nat := 0x340C8
/-- HLT.PEC_CNT, 14_halter_port -/
def hltPecCnt : Nat := 0x340CC
/-- HLT.TMO_CNT, 14_halter_port -/
def hltTmoCnt : Nat := 0x340D0
/-- HLT.FL_STAT, 14_halter_port -/
def hltFlStat : Nat := 0x340D4
/-- HLT.LOGi_W0, 14_halter_port -/
def hltLogW0 (i : Nat) : Nat := 0x34100 + 0x8 * i
/-- HLT.LOGi_W1, 14_halter_port -/
def hltLogW1 (i : Nat) : Nat := 0x34104 + 0x8 * i
/-- SEC.BOOT_INFO, 15_services_recovery -/
def secBootInfo : Nat := 0x38000
/-- SEC.BOOT_VER, 15_services_recovery -/
def secBootVer : Nat := 0x38004
/-- SEC.SELFTEST, 15_services_recovery -/
def secSelftest : Nat := 0x38008
/-- SEC.ST_ADDR_LO, 15_services_recovery -/
def secStAddrLo : Nat := 0x3800C
/-- SEC.ST_ADDR_HI, 15_services_recovery -/
def secStAddrHi : Nat := 0x38010
/-- SEC.SVC_STAT, 15_services_recovery -/
def secSvcStat : Nat := 0x38014
/-- SEC.SVC_RESi, 15_services_recovery -/
def secSvcRes (i : Nat) : Nat := 0x38018 + 0x4 * i
/-- SEC.SVC_HB, 15_services_recovery -/
def secSvcHb : Nat := 0x38028
/-- SEC.SVC_CFG, 15_services_recovery -/
def secSvcCfg : Nat := 0x3802C
/-- AUX.INJ_CFGi, 08_aux_sensing -/
def auxInjCfg (i : Nat) : Nat := 0x1C400 + 0x10 * i
/-- AUX.INJ_TIMEi, 08_aux_sensing -/
def auxInjTime (i : Nat) : Nat := 0x1C404 + 0x10 * i
/-- AUX.INJ_LINi, 08_aux_sensing -/
def auxInjLin (i : Nat) : Nat := 0x1C408 + 0x10 * i
/-- AUX.INJ_KREFi, 08_aux_sensing -/
def auxInjKref (i : Nat) : Nat := 0x1C40C + 0x10 * i
/-- AUX.INJS_VALUEi, 08_aux_sensing -/
def auxInjSlotValue (i : Nat) : Nat := 0x1C700 + 0x10 * i
/-- AUX.INJS_STATUSi, 08_aux_sensing -/
def auxInjSlotStatus (i : Nat) : Nat := 0x1C704 + 0x10 * i
/-- AUX.INJS_TS_LOi, 08_aux_sensing -/
def auxInjSlotTsLo (i : Nat) : Nat := 0x1C708 + 0x10 * i
/-- AUX.INJS_TS_HIi, 08_aux_sensing -/
def auxInjSlotTsHi (i : Nat) : Nat := 0x1C70C + 0x10 * i
/-- EVM.SW_EV, 01_architecture -/
def evmSwEv : Nat := 0x04000
/-- EVM.MON_SELi, 01_architecture -/
def evmMonSel (i : Nat) : Nat := 0x04010 + 0x4 * i
/-- EVM.MON_CNTi, 01_architecture -/
def evmMonCnt (i : Nat) : Nat := 0x04020 + 0x4 * i
/-- HQE.MSIX_ADDR_LO, 11_host_queues_streams -/
def hqeMsixAddrLo (v : Nat) : Nat := 0x2A000 + 0x10 * v
/-- HQE.MSIX_ADDR_HI, 11_host_queues_streams -/
def hqeMsixAddrHi (v : Nat) : Nat := 0x2A004 + 0x10 * v
/-- HQE.MSIX_DATA, 11_host_queues_streams -/
def hqeMsixData (v : Nat) : Nat := 0x2A008 + 0x10 * v
/-- HQE.MSIX_CTRL, 11_host_queues_streams -/
def hqeMsixCtrl (v : Nat) : Nat := 0x2A00C + 0x10 * v
/-- SYS.ID, 00_scope -/
def sysId : Nat := 0x00000
/-- SYS.TIME_LO, 01_architecture -/
def sysTimeLo : Nat := 0x00040
/-- SYS.TIME_HI, 01_architecture -/
def sysTimeHi : Nat := 0x00044
/-- HQE.PBAi, 11_host_queues_streams -/
def hqePba (i : Nat) : Nat := 0x2B000 + 0x4 * i

end R

/-! ## Fields -/
namespace F

abbrev sysClkStat.PLL_LOCK : Fld := ⟨0, 1⟩
abbrev sysClkStat.XTAL_OK : Fld := ⟨1, 1⟩
abbrev sysClkStat.AON_OSC_OK : Fld := ⟨2, 1⟩
abbrev sysClkStat.LOSS_CNT : Fld := ⟨8, 8⟩
abbrev sysErrStat.ACC : Fld := ⟨0, 1⟩
abbrev sysErrStat.LOCK_WR : Fld := ⟨1, 1⟩
abbrev sysErrStat.IDLE_WR : Fld := ⟨2, 1⟩
abbrev sysErrStat.CLAIM : Fld := ⟨3, 1⟩
abbrev sysErrAddr.OFFSET : Fld := ⟨0, 20⟩
abbrev sysErrAddr.SRC : Fld := ⟨20, 8⟩
abbrev sysErrAddr.PATH : Fld := ⟨30, 2⟩
abbrev sysEccStat.CE : Fld := ⟨0, 1⟩
abbrev sysEccStat.UE : Fld := ⟨1, 1⟩
abbrev sysEccStat.UE_POOL : Fld := ⟨8, 4⟩
abbrev sysEccCeCnt.COUNT : Fld := ⟨0, 32⟩
abbrev sysEccUeCnt.COUNT : Fld := ⟨0, 32⟩
abbrev sysEccAddrLo.ADDR : Fld := ⟨0, 32⟩
abbrev sysEccAddrHi.ADDR : Fld := ⟨0, 8⟩
abbrev sysScrubCtl.EN : Fld := ⟨0, 1⟩
abbrev sysScrubCtl.PASS_H : Fld := ⟨8, 8⟩
abbrev etimCtl.EN : Fld := ⟨0, 1⟩
abbrev etimCtl.MODE : Fld := ⟨1, 2⟩
abbrev etimCtl.PRESC : Fld := ⟨4, 4⟩
abbrev etimCtl.OWNER : Fld := ⟨16, 8⟩
abbrev etimLoad.LOAD : Fld := ⟨0, 32⟩
abbrev etimCount.COUNT : Fld := ⟨0, 32⟩
abbrev etimStartSel.EV : Fld := ⟨0, 8⟩
abbrev etimStartSel.EN : Fld := ⟨31, 1⟩
abbrev etimCancelSel.EV : Fld := ⟨0, 8⟩
abbrev etimCancelSel.EN : Fld := ⟨31, 1⟩
abbrev etimStat.RUN : Fld := ⟨0, 1⟩
abbrev etimStat.FIRED : Fld := ⟨1, 1⟩
abbrev etimStat.START_IGN : Fld := ⟨2, 1⟩
abbrev sysAbpCfg.BASE : Fld := ⟨0, 7⟩
abbrev sysAbpCfg.SIZE : Fld := ⟨8, 7⟩
abbrev sysAbpCfg.SIZE_MAX : Fld := ⟨15, 1⟩
abbrev sysAbpCfg.OWNER : Fld := ⟨16, 8⟩
abbrev sysClaimErr.VALID : Fld := ⟨0, 1⟩
abbrev sysClaimErr.TYPE : Fld := ⟨1, 3⟩
abbrev sysClaimErr.INDEX : Fld := ⟨8, 8⟩
abbrev sysClaimErr.HOLDER : Fld := ⟨16, 8⟩
abbrev sysClaimErr.REQ : Fld := ⟨24, 8⟩
abbrev sysClaimErrCnt.COUNT : Fld := ⟨0, 32⟩
abbrev sysGpioCfg.EN : Fld := ⟨0, 1⟩
abbrev sysGpioCfg.MODE : Fld := ⟨1, 2⟩
abbrev sysGpioCfg.OUT : Fld := ⟨3, 1⟩
abbrev sysGpioCfg.PULL : Fld := ⟨4, 2⟩
abbrev sysGpioCfg.EV : Fld := ⟨8, 8⟩
abbrev sysGpioCfg.FUNC : Fld := ⟨16, 3⟩
abbrev sysGpioCfg.OWNER : Fld := ⟨24, 8⟩
abbrev sysGpioIn.LEVEL : Fld := ⟨0, 16⟩
abbrev sysIoStat.BANK_3V3 : Fld := ⟨0, 4⟩
abbrev sysIoStat.BANK_OK : Fld := ⟨4, 4⟩
abbrev sysPdSet.DOM : Fld := ⟨0, 32⟩
abbrev sysPdClr.DOM : Fld := ⟨0, 32⟩
abbrev sysPdStat.ON : Fld := ⟨0, 32⟩
abbrev sysPdErr.VALID : Fld := ⟨0, 1⟩
abbrev sysPdErr.CAUSE : Fld := ⟨1, 3⟩
abbrev sysPdErr.DOM : Fld := ⟨8, 8⟩
abbrev sysPdErr.REQ : Fld := ⟨16, 8⟩
abbrev sysRstCause.VAON : Fld := ⟨0, 1⟩
abbrev sysRstCause.PORST : Fld := ⟨1, 1⟩
abbrev sysRstCause.HLT_COLD : Fld := ⟨2, 1⟩
abbrev sysRstCause.UV_MAIN : Fld := ⟨3, 1⟩
abbrev sysRstCause.PLL_LOSS : Fld := ⟨4, 1⟩
abbrev sysRstCause.WARM : Fld := ⟨5, 1⟩
abbrev sysRstCause.FLR : Fld := ⟨6, 1⟩
abbrev sysRstCtl.WARM : Fld := ⟨0, 1⟩
abbrev sysStrap.BOOT_SRC : Fld := ⟨0, 2⟩
abbrev sysStrap.LINK : Fld := ⟨2, 1⟩
abbrev sysStrap.SPI_1BIT : Fld := ⟨3, 1⟩
abbrev sysStrap.HLT_ADDR : Fld := ⟨4, 2⟩
abbrev sysBootStat.READY : Fld := ⟨0, 1⟩
abbrev sysBootStat.FAIL : Fld := ⟨1, 1⟩
abbrev sysBootStat.STAGE : Fld := ⟨4, 4⟩
abbrev sysBootStat.STATUS : Fld := ⟨8, 8⟩
abbrev tsqStat.BUSY : Fld := ⟨0, 8⟩
abbrev tsqStat.FLUSHING : Fld := ⟨8, 8⟩
abbrev tsqUfAddr.VALID : Fld := ⟨0, 1⟩
abbrev tsqUfAddr.LP : Fld := ⟨1, 3⟩
abbrev tsqUfAddr.CAUSE : Fld := ⟨4, 2⟩
abbrev tsqUfAddr.ADDR : Fld := ⟨16, 10⟩
abbrev tsqPxCfg.PERIOD : Fld := ⟨0, 4⟩
abbrev tsqPxCfg.VIN : Fld := ⟨16, 16⟩
abbrev tsqPxCount.COUNT : Fld := ⟨0, 16⟩
abbrev tsqPxStep.TG : Fld := ⟨0, 24⟩
abbrev tsqSmp.SIG_STEP : Fld := ⟨0, 4⟩
abbrev tsqSmp.SIG_FINE : Fld := ⟨4, 6⟩
abbrev tsqSmp.RST_STEP : Fld := ⟨16, 4⟩
abbrev tsqSmp.RST_FINE : Fld := ⟨20, 6⟩
abbrev tsqUcode.WORD : Fld := ⟨0, 32⟩
abbrev lpCfg.EN : Fld := ⟨0, 1⟩
abbrev lpCfg.SRC : Fld := ⟨1, 3⟩
abbrev lpCfg.START : Fld := ⟨4, 10⟩
abbrev lpCfg.FLUSH_EN : Fld := ⟨14, 1⟩
abbrev lpOuts.TG : Fld := ⟨0, 24⟩
abbrev lpVin.VIN : Fld := ⟨0, 16⟩
abbrev lpIdle.TG : Fld := ⟨0, 24⟩
abbrev lpPitch.PITCH : Fld := ⟨0, 32⟩
abbrev lpNextLo.NEXT : Fld := ⟨0, 32⟩
abbrev lpNextHi.NEXT : Fld := ⟨0, 32⟩
abbrev lpTrigSel.EV : Fld := ⟨0, 8⟩
abbrev lpTrigSel.EN : Fld := ⟨31, 1⟩
abbrev lpTmo.US : Fld := ⟨0, 16⟩
abbrev lpStale.US : Fld := ⟨0, 16⟩
abbrev lpFlush.AFTER : Fld := ⟨0, 16⟩
abbrev lpFlush.PER : Fld := ⟨16, 16⟩
abbrev lpPhCfg.LS : Fld := ⟨0, 12⟩
abbrev lpPhCfg.SHUT_EN : Fld := ⟨16, 1⟩
abbrev lpPhCfg.SHUT_TG : Fld := ⟨17, 5⟩
abbrev lpPhCfg.SHUT_DUMP : Fld := ⟨22, 1⟩
abbrev lpPhWin.DELAY : Fld := ⟨0, 16⟩
abbrev lpPhWin.WIDTH : Fld := ⟨16, 16⟩
abbrev lpStat.BUSY : Fld := ⟨0, 1⟩
abbrev lpStat.FLUSHING : Fld := ⟨1, 1⟩
abbrev lpStat.OVR : Fld := ⟨2, 1⟩
abbrev lpStat.STALE : Fld := ⟨3, 1⟩
abbrev lpStat.TMO : Fld := ⟨4, 1⟩
abbrev lpStat.UFAULT : Fld := ⟨5, 1⟩
abbrev lpStat.CFG_ERR : Fld := ⟨6, 1⟩
abbrev lpStat.NEXT_ADJ : Fld := ⟨7, 1⟩
abbrev lpStat.CFG_CAUSE : Fld := ⟨8, 4⟩
abbrev lpStat.PC : Fld := ⟨16, 10⟩
abbrev lpLineCnt.COUNT : Fld := ⟨0, 32⟩
abbrev lpOvrCnt.COUNT : Fld := ⟨0, 32⟩
abbrev lpStaleCnt.COUNT : Fld := ⟨0, 32⟩
abbrev lpTmoCnt.COUNT : Fld := ⟨0, 32⟩
abbrev lpFlushCnt.COUNT : Fld := ⟨0, 32⟩
abbrev lpLastLo.POS : Fld := ⟨0, 32⟩
abbrev lpLastHi.POS : Fld := ⟨0, 32⟩
abbrev vafCtl.BG_EN : Fld := ⟨0, 1⟩
abbrev vafStat.VF : Fld := ⟨0, 1⟩
abbrev vafStat.DEGR : Fld := ⟨4, 4⟩
abbrev vafBgcal.STEP_MS : Fld := ⟨0, 10⟩
abbrev vafBgcal.WAIT_MS : Fld := ⟨16, 10⟩
abbrev vafBgtol.MEAN : Fld := ⟨0, 8⟩
abbrev vafBgtol.RMS : Fld := ⟨8, 8⟩
abbrev vafFgcal.START : Fld := ⟨0, 1⟩
abbrev vafFgcal.BANKS : Fld := ⟨4, 4⟩
abbrev vafFgcal.BUSY : Fld := ⟨8, 1⟩
abbrev vafFgcal.DONE : Fld := ⟨9, 1⟩
abbrev vafFgcal.RESULT : Fld := ⟨16, 8⟩
abbrev vafTdac.CODE : Fld := ⟨0, 10⟩
abbrev vafTdac.EN : Fld := ⟨16, 1⟩
abbrev vafTdac.VIN : Fld := ⟨20, 4⟩
abbrev vafXbar.BANK : Fld := ⟨0, 32⟩
abbrev vafVfm.EN : Fld := ⟨0, 16⟩
abbrev vafVfm.SPAN : Fld := ⟨16, 8⟩
abbrev vafVfStuck.IN : Fld := ⟨0, 16⟩
abbrev vafVfRail.IN : Fld := ⟨0, 16⟩
abbrev vafUnmapCnt.COUNT : Fld := ⟨0, 32⟩
abbrev vafVinCfg.MODE : Fld := ⟨0, 1⟩
abbrev vafVinCfg.INV : Fld := ⟨1, 1⟩
abbrev vafVinCfg.REF : Fld := ⟨2, 2⟩
abbrev vafVinCfg.CLAMP_MODE : Fld := ⟨4, 2⟩
abbrev vafVinCfg.CLAMP_TG : Fld := ⟨6, 5⟩
abbrev vafVinLvl.GAIN : Fld := ⟨0, 7⟩
abbrev vafVinLvl.OFFSET : Fld := ⟨16, 9⟩
abbrev vafVinTrim.GTRIM : Fld := ⟨0, 8⟩
abbrev vafVinTrim.OTRIM : Fld := ⟨16, 8⟩
abbrev vafVinMinmax.MIN : Fld := ⟨0, 12⟩
abbrev vafVinMinmax.MAX : Fld := ⟨16, 12⟩
abbrev vafPmapLo.PLANE0 : Fld := ⟨0, 6⟩
abbrev vafPmapLo.PLANE1 : Fld := ⟨8, 6⟩
abbrev vafPmapLo.PLANE2 : Fld := ⟨16, 6⟩
abbrev vafPmapLo.PLANE3 : Fld := ⟨24, 6⟩
abbrev vafPmapLo.V0 : Fld := ⟨7, 1⟩
abbrev vafPmapLo.V1 : Fld := ⟨15, 1⟩
abbrev vafPmapLo.V2 : Fld := ⟨23, 1⟩
abbrev vafPmapLo.V3 : Fld := ⟨31, 1⟩
abbrev vafPmapHi.PLANE0 : Fld := ⟨0, 6⟩
abbrev vafPmapHi.PLANE1 : Fld := ⟨8, 6⟩
abbrev vafPmapHi.V0 : Fld := ⟨7, 1⟩
abbrev vafPmapHi.V1 : Fld := ⟨15, 1⟩
abbrev vafSegCfg.VIN : Fld := ⟨0, 4⟩
abbrev vafSegCfg.ORD : Fld := ⟨4, 2⟩
abbrev vafSegCfg.DIR : Fld := ⟨6, 1⟩
abbrev vafSegCfg.EN : Fld := ⟨7, 1⟩
abbrev vafSegX.X0 : Fld := ⟨0, 16⟩
abbrev vafSegX.SKIP : Fld := ⟨16, 16⟩
abbrev bankStat.STATE : Fld := ⟨0, 3⟩
abbrev bankStat.CAL_SLICE : Fld := ⟨4, 4⟩
abbrev bankStat.EXIT_SLICE : Fld := ⟨8, 4⟩
abbrev bankStat.READY : Fld := ⟨12, 1⟩
abbrev bankStat.SPUR_HIGH : Fld := ⟨13, 1⟩
abbrev bankStat.ACTIVE : Fld := ⟨16, 9⟩
abbrev bankSpur.EST : Fld := ⟨0, 12⟩
abbrev bankSpur.LIM : Fld := ⟨16, 12⟩
abbrev bankCal.BAD : Fld := ⟨0, 9⟩
abbrev bankCal.VALID : Fld := ⟨16, 1⟩
abbrev bankSwapCnt.COUNT : Fld := ⟨0, 32⟩
abbrev bankAbortCnt.COUNT : Fld := ⟨0, 32⟩
abbrev bankMissCnt.COUNT : Fld := ⟨0, 32⟩
abbrev bankUnverCnt.COUNT : Fld := ⟨0, 32⟩
abbrev bankSlOfs.OFS : Fld := ⟨0, 10⟩
abbrev bankSlGsk.GAIN : Fld := ⟨0, 16⟩
abbrev bankSlGsk.SKEW : Fld := ⟨16, 8⟩
abbrev shdChk0.LVL_MIN : Fld := ⟨0, 12⟩
abbrev shdChk0.DARK_MAX : Fld := ⟨16, 12⟩
abbrev shdChk1.UNIF_PCT : Fld := ⟨0, 8⟩
abbrev shdChk1.LINE_TOL : Fld := ⟨8, 8⟩
abbrev shdChk1.UNIF_MAX : Fld := ⟨16, 16⟩
abbrev shdChk2.TRIM_LIM : Fld := ⟨0, 12⟩
abbrev shdChk2.DARK_LIM : Fld := ⟨16, 12⟩
abbrev shdChk3.DEFECT_MAX : Fld := ⟨0, 16⟩
abbrev shdCwin.PAGE : Fld := ⟨0, 5⟩
abbrev shdStat.COPY : Fld := ⟨0, 4⟩
abbrev shdRecCtl.SAVE : Fld := ⟨0, 1⟩
abbrev shdRecCtl.AUTO : Fld := ⟨1, 1⟩
abbrev shdRecStat.LOADED : Fld := ⟨0, 2⟩
abbrev shdRecStat.BUSY : Fld := ⟨2, 1⟩
abbrev shdRecStat.PEND : Fld := ⟨3, 1⟩
abbrev shdRecStat.DONE : Fld := ⟨4, 1⟩
abbrev shdRecStat.RESULT : Fld := ⟨8, 8⟩
abbrev shdRecSeq.SEQ : Fld := ⟨0, 32⟩
abbrev shdDropCnt.COUNT : Fld := ⟨0, 32⟩
abbrev grpCtl.EN : Fld := ⟨0, 1⟩
abbrev grpCtl.LP : Fld := ⟨1, 3⟩
abbrev grpCtl.SIDE : Fld := ⟨4, 1⟩
abbrev grpCtl.ABP : Fld := ⟨5, 4⟩
abbrev grpCtl.STRIP_EN : Fld := ⟨9, 1⟩
abbrev grpCtl.AUTO_FULL : Fld := ⟨10, 1⟩
abbrev grpCtl.ALIGN_AUTO : Fld := ⟨11, 1⟩
abbrev grpCtl.TARGET : Fld := ⟨12, 2⟩
abbrev grpCtl.FULL_REQ : Fld := ⟨14, 1⟩
abbrev grpTsrc.ENTRY : Fld := ⟨0, 5⟩
abbrev grpTsrc.HOST : Fld := ⟨7, 1⟩
abbrev grpTsrc.THOST : Fld := ⟨16, 16⟩
abbrev grpStripSel.EV : Fld := ⟨0, 8⟩
abbrev grpStripSel.EN : Fld := ⟨31, 1⟩
abbrev grpZone.BLK_Y0 : Fld := ⟨0, 8⟩
abbrev grpZone.BLK_N : Fld := ⟨8, 8⟩
abbrev grpZone.WHT_Y0 : Fld := ⟨16, 8⟩
abbrev grpZone.WHT_N : Fld := ⟨24, 8⟩
abbrev grpCalz.DARK_N : Fld := ⟨0, 8⟩
abbrev grpCalz.FID_TOL : Fld := ⟨8, 8⟩
abbrev grpCalz.FID_EXP : Fld := ⟨16, 16⟩
abbrev grpFidx.X0 : Fld := ⟨0, 16⟩
abbrev grpFidx.X1 : Fld := ⟨16, 16⟩
abbrev grpSeam.SEAM : Fld := ⟨0, 8⟩
abbrev grpSeam.DRIFT : Fld := ⟨16, 16⟩
abbrev grpSett.TA : Fld := ⟨0, 16⟩
abbrev grpSett.TB : Fld := ⟨16, 16⟩
abbrev grpSetv.VA : Fld := ⟨0, 1⟩
abbrev grpSetv.VB : Fld := ⟨1, 1⟩
abbrev grpSetv.TLAST_V : Fld := ⟨2, 1⟩
abbrev grpSetv.TLAST : Fld := ⟨16, 16⟩
abbrev grpTemp.T : Fld := ⟨0, 16⟩
abbrev grpTemp.W : Fld := ⟨16, 9⟩
abbrev grpStat.STATE : Fld := ⟨0, 3⟩
abbrev grpStat.FULL_PEND : Fld := ⟨3, 1⟩
abbrev grpStat.DRIFT_HOLD : Fld := ⟨4, 1⟩
abbrev grpStat.TRIM_REJ : Fld := ⟨5, 1⟩
abbrev grpStat.FULL_REJ : Fld := ⟨6, 1⟩
abbrev grpStat.QLOW : Fld := ⟨7, 1⟩
abbrev grpStat.TEMP_BAD : Fld := ⟨8, 1⟩
abbrev grpStat.CFG_ERR : Fld := ⟨9, 1⟩
abbrev grpStat.ALIGN_CLAMP : Fld := ⟨10, 1⟩
abbrev grpStat.STRIP_IGN : Fld := ⟨11, 1⟩
abbrev grpStat.CFG_CAUSE : Fld := ⟨12, 3⟩
abbrev grpStat.REASON : Fld := ⟨16, 8⟩
abbrev grpStat.RESULT : Fld := ⟨24, 8⟩
abbrev grpQ0.TG_MIN : Fld := ⟨0, 16⟩
abbrev grpQ0.TG_MAX : Fld := ⟨16, 16⟩
abbrev grpQ1.DSHIFT : Fld := ⟨0, 16⟩
abbrev grpQ1.NONUNIF : Fld := ⟨16, 8⟩
abbrev grpQ1.FIDRES : Fld := ⟨24, 8⟩
abbrev grpQ2.DEFECT : Fld := ⟨0, 16⟩
abbrev grpQ2.FULL_CNT : Fld := ⟨16, 16⟩
abbrev grpRejCnt.TRIM : Fld := ⟨0, 16⟩
abbrev grpRejCnt.FULL : Fld := ⟨16, 16⟩
abbrev plCfg.EN : Fld := ⟨0, 1⟩
abbrev plCfg.GRP : Fld := ⟨1, 2⟩
abbrev plCfg.SHADE : Fld := ⟨3, 2⟩
abbrev plCfg.WIDTH : Fld := ⟨16, 16⟩
abbrev plBase.BASE : Fld := ⟨0, 19⟩
abbrev plAlign.DELAY : Fld := ⟨0, 10⟩
abbrev plAlign.MAXD : Fld := ⟨10, 6⟩
abbrev plAlign.MEAS : Fld := ⟨16, 10⟩
abbrev plAlign.MEAS_V : Fld := ⟨26, 1⟩
abbrev plWhite.WHITE : Fld := ⟨0, 16⟩
abbrev shdTrim0.REF_DARK : Fld := ⟨0, 16⟩
abbrev shdTrim0.REF_WHITE : Fld := ⟨16, 16⟩
abbrev shdTrim1.MEAS_DARK : Fld := ⟨0, 16⟩
abbrev shdTrim1.TGAIN : Fld := ⟨16, 16⟩
abbrev geoEvmask.UNITS : Fld := ⟨0, 4⟩
abbrev geoStat.WIN : Fld := ⟨0, 4⟩
abbrev geoStat.TRK_BUSY : Fld := ⟨8, 4⟩
abbrev geoUnrecCnt.COUNT : Fld := ⟨0, 32⟩
abbrev uCfg.EN : Fld := ⟨0, 1⟩
abbrev uCfg.PLANE : Fld := ⟨1, 6⟩
abbrev uCfg.BG_LIGHT : Fld := ⟨7, 1⟩
abbrev uCfg.MIRROR : Fld := ⟨8, 1⟩
abbrev uCfg.ABP : Fld := ⟨9, 4⟩
abbrev uCfg.TRK : Fld := ⟨13, 2⟩
abbrev uThr.LO : Fld := ⟨0, 16⟩
abbrev uThr.HI : Fld := ⟨16, 16⟩
abbrev uRun.MINRUN : Fld := ⟨0, 8⟩
abbrev uRun.LEAD_N : Fld := ⟨8, 8⟩
abbrev uRun.TRAIL_N : Fld := ⟨16, 8⟩
abbrev uRun.EXCL_PCT : Fld := ⟨24, 8⟩
abbrev uMinpix.MINPIX : Fld := ⟨0, 16⟩
abbrev uMinpix.MIN_PTS : Fld := ⟨16, 16⟩
abbrev uCol.COL_X0 : Fld := ⟨0, 16⟩
abbrev uCol.COL_STEP : Fld := ⟨16, 8⟩
abbrev uNcol.NCOL : Fld := ⟨0, 11⟩
abbrev uNcol.PTS_LINES : Fld := ⟨16, 16⟩
abbrev uFit.OUT_TOL : Fld := ⟨0, 8⟩
abbrev uFit.SKEW_MAX : Fld := ⟨16, 16⟩
abbrev uAspect.ASPECT : Fld := ⟨0, 16⟩
abbrev uWin.Y_OFF : Fld := ⟨0, 8⟩
abbrev uWin.MAX_LINES : Fld := ⟨8, 24⟩
abbrev uOpenSel.EV : Fld := ⟨0, 8⟩
abbrev uOpenSel.EN : Fld := ⟨31, 1⟩
abbrev uCloseSel.EV : Fld := ⟨0, 8⟩
abbrev uCloseSel.EN : Fld := ⟨31, 1⟩
abbrev uStat.WIN : Fld := ⟨0, 1⟩
abbrev uStat.LEAD : Fld := ⟨1, 1⟩
abbrev uStat.TRAIL : Fld := ⟨2, 1⟩
abbrev uStat.FALSE : Fld := ⟨3, 1⟩
abbrev uStat.OPEN_IGN : Fld := ⟨4, 1⟩
abbrev uStat.CFG_ERR : Fld := ⟨5, 1⟩
abbrev uStat.CFG_CAUSE : Fld := ⟨8, 3⟩
abbrev uY.Y : Fld := ⟨0, 24⟩
abbrev uFalseCnt.COUNT : Fld := ⟨0, 32⟩
abbrev trkCfg.EN : Fld := ⟨0, 1⟩
abbrev trkCfg.UNITS : Fld := ⟨1, 4⟩
abbrev trkCfg.ABP : Fld := ⟨5, 4⟩
abbrev trkCfg.EXC_MAX : Fld := ⟨16, 11⟩
abbrev trkSc.SC : Fld := ⟨0, 12⟩
abbrev trkJob.JOB : Fld := ⟨0, 32⟩
abbrev trkHold.TMO_US : Fld := ⟨0, 16⟩
abbrev trkHold.OUT : Fld := ⟨16, 8⟩
abbrev trkClose.CLOSE : Fld := ⟨0, 1⟩
abbrev trkClose.STATUS : Fld := ⟨8, 8⟩
abbrev trkStat.SLOT : Fld := ⟨0, 2⟩
abbrev trkStat.LATE : Fld := ⟨2, 1⟩
abbrev trkStat.SLOT_FULL : Fld := ⟨3, 1⟩
abbrev trkStat.CFG_ERR : Fld := ⟨4, 1⟩
abbrev trkStat.CFG_CAUSE : Fld := ⟨5, 3⟩
abbrev trkStat.LAST : Fld := ⟨8, 8⟩
abbrev trkSeq.SEQ : Fld := ⟨0, 32⟩
abbrev trkLateCnt.COUNT : Fld := ⟨0, 32⟩
abbrev gaitStat.MOVING : Fld := ⟨0, 4⟩
abbrev gaitStat.JAM : Fld := ⟨4, 4⟩
abbrev gaitStat.HOLD : Fld := ⟨8, 4⟩
abbrev gaitStat.SEAM : Fld := ⟨12, 4⟩
abbrev gaitPsIn.COVERED : Fld := ⟨0, 16⟩
abbrev gaitPsPol.INV : Fld := ⟨0, 16⟩
abbrev gaitPsFilt.US : Fld := ⟨0, 8⟩
abbrev gaitPse.PS : Fld := ⟨0, 4⟩
abbrev gaitPse.EDGE : Fld := ⟨4, 2⟩
abbrev gaitPse.EN : Fld := ⟨31, 1⟩
abbrev axisCtl.RUN : Fld := ⟨0, 1⟩
abbrev axisCtl.EN_POL : Fld := ⟨1, 1⟩
abbrev axisCtl.DIR_INV : Fld := ⟨2, 1⟩
abbrev axisCtl.FAULT_EN : Fld := ⟨3, 1⟩
abbrev axisCtl.MUSTEP : Fld := ⟨4, 4⟩
abbrev axisCtl.PW : Fld := ⟨8, 8⟩
abbrev axisCtl.DIR_SU : Fld := ⟨16, 8⟩
abbrev axisRatio.RATIO : Fld := ⟨0, 32⟩
abbrev axisPosLo.POS : Fld := ⟨0, 32⟩
abbrev axisPosHi.POS : Fld := ⟨0, 32⟩
abbrev axisStat.EN : Fld := ⟨0, 1⟩
abbrev axisStat.MOVING : Fld := ⟨1, 1⟩
abbrev axisStat.REV : Fld := ⟨2, 1⟩
abbrev axisStat.FAULT : Fld := ⟨3, 1⟩
abbrev axisStat.FAULT_IN : Fld := ⟨4, 1⟩
abbrev axisRate.HZ : Fld := ⟨0, 22⟩
abbrev encCfg.EN : Fld := ⟨0, 1⟩
abbrev encCfg.INV : Fld := ⟨1, 1⟩
abbrev encCfg.Z_EN : Fld := ⟨2, 1⟩
abbrev encCfg.FILT : Fld := ⟨8, 8⟩
abbrev encPosLo.POS : Fld := ⟨0, 32⟩
abbrev encPosHi.POS : Fld := ⟨0, 32⟩
abbrev encZposLo.POS : Fld := ⟨0, 32⟩
abbrev encZposHi.POS : Fld := ⟨0, 32⟩
abbrev encStat.ZSEEN : Fld := ⟨0, 1⟩
abbrev encStat.ERR : Fld := ⟨1, 1⟩
abbrev encStat.STALL : Fld := ⟨2, 1⟩
abbrev encErrCnt.COUNT : Fld := ⟨0, 32⟩
abbrev pathCfg.EN : Fld := ⟨0, 1⟩
abbrev pathCfg.FLOW : Fld := ⟨1, 1⟩
abbrev pathCfg.AXES : Fld := ⟨2, 4⟩
abbrev pathCfg.PSRC : Fld := ⟨6, 3⟩
abbrev pathCfg.LP : Fld := ⟨9, 3⟩
abbrev pathCfg.DWELL_TIM : Fld := ⟨12, 5⟩
abbrev pathCfg.SEAM_EN : Fld := ⟨17, 1⟩
abbrev pathCfg.JAM_DIS : Fld := ⟨18, 1⟩
abbrev pathLinks.LPS : Fld := ⟨0, 8⟩
abbrev pathLinks.TRKS : Fld := ⟨8, 4⟩
abbrev pathPolicy.GMIN : Fld := ⟨0, 3⟩
abbrev pathPolicy.GMAX : Fld := ⟨4, 3⟩
abbrev pathPolicy.DWELL_MS : Fld := ⟨16, 16⟩
abbrev pathOccthr.STOP : Fld := ⟨0, 10⟩
abbrev pathOccthr.RESUME : Fld := ⟨16, 10⟩
abbrev pathRamp.ACC : Fld := ⟨0, 16⟩
abbrev pathRamp.DEC : Fld := ⟨16, 16⟩
abbrev pathGuard.JDEC : Fld := ⟨0, 16⟩
abbrev pathGuard.STALL_US : Fld := ⟨16, 16⟩
abbrev pathSeam.BACKOFF : Fld := ⟨0, 8⟩
abbrev pathSeam.OVERLAP : Fld := ⟨8, 4⟩
abbrev pathSeam.SRCH : Fld := ⟨12, 3⟩
abbrev pathSeam.SEAM_GAIT : Fld := ⟨16, 3⟩
abbrev pathSeam.BIAS : Fld := ⟨24, 8⟩
abbrev pathSeam2.BACKLASH : Fld := ⟨0, 16⟩
abbrev pathSeam2.TMO_US : Fld := ⟨16, 16⟩
abbrev pathFeed.MODE : Fld := ⟨0, 2⟩
abbrev pathFeed.GPIO : Fld := ⟨2, 4⟩
abbrev pathFeed.AXIS : Fld := ⟨6, 2⟩
abbrev pathFeed.HOLD_LVL : Fld := ⟨8, 1⟩
abbrev pathHlossSel.EV : Fld := ⟨0, 8⟩
abbrev pathHlossSel.EN : Fld := ⟨31, 1⟩
abbrev pathCmd.CMD : Fld := ⟨0, 4⟩
abbrev pathCmd.GAIT : Fld := ⟨8, 3⟩
abbrev pathStat.STATE : Fld := ⟨0, 3⟩
abbrev pathStat.GAIT : Fld := ⟨4, 3⟩
abbrev pathStat.TARGET : Fld := ⟨8, 3⟩
abbrev pathStat.FEED_HOLD : Fld := ⟨11, 1⟩
abbrev pathStat.DWELL : Fld := ⟨12, 1⟩
abbrev pathStat.CFG_ERR : Fld := ⟨13, 1⟩
abbrev pathStat.CMD_IGN : Fld := ⟨14, 1⟩
abbrev pathStat.JAM_CAUSE : Fld := ⟨16, 4⟩
abbrev pathStat.JAM_CHK : Fld := ⟨20, 3⟩
abbrev pathStat.CFG_CAUSE : Fld := ⟨24, 3⟩
abbrev pathOcc.OCC : Fld := ⟨0, 10⟩
abbrev pathOcc.IN_TRACK : Fld := ⟨16, 16⟩
abbrev pathLastLo.POS : Fld := ⟨0, 32⟩
abbrev pathLastHi.POS : Fld := ⟨0, 32⟩
abbrev pathRev.REV : Fld := ⟨0, 24⟩
abbrev pathGspd.SPEED : Fld := ⟨0, 32⟩
abbrev pathGthr.DOWN : Fld := ⟨0, 10⟩
abbrev pathGthr.UP : Fld := ⟨16, 10⟩
abbrev pathChkA.PS : Fld := ⟨0, 4⟩
abbrev pathChkA.EN : Fld := ⟨7, 1⟩
abbrev pathChkA.ARR : Fld := ⟨8, 24⟩
abbrev pathChkB.LEN : Fld := ⟨0, 24⟩
abbrev pathGaitCnt.COUNT : Fld := ⟨0, 32⟩
abbrev pathSeamCnt.COUNT : Fld := ⟨0, 32⟩
abbrev pathUnverCnt.COUNT : Fld := ⟨0, 32⟩
abbrev pathJamCnt.COUNT : Fld := ⟨0, 32⟩
abbrev seamCfg.EN : Fld := ⟨0, 1⟩
abbrev seamCfg.PLANE : Fld := ⟨1, 6⟩
abbrev seamCfg.PATH : Fld := ⟨7, 2⟩
abbrev seamCfg.ENG : Fld := ⟨9, 7⟩
abbrev seamCfg.XSTEP : Fld := ⟨16, 8⟩
abbrev seamLim.TEX_MIN : Fld := ⟨0, 16⟩
abbrev seamLim.QUAL_MIN : Fld := ⟨16, 8⟩
abbrev seamRes.RESID : Fld := ⟨0, 16⟩
abbrev seamRes.QUAL : Fld := ⟨16, 8⟩
abbrev seamRes.STATUS : Fld := ⟨24, 8⟩
abbrev seamInfo.CAUSE : Fld := ⟨0, 4⟩
abbrev seamInfo.USED : Fld := ⟨4, 4⟩
abbrev seamInfo.APPLIED : Fld := ⟨8, 8⟩
abbrev seamInfo.D : Fld := ⟨16, 16⟩
abbrev auxStat.STATE : Fld := ⟨0, 2⟩
abbrev auxStat.PEND : Fld := ⟨2, 1⟩
abbrev auxStat.HELD : Fld := ⟨3, 1⟩
abbrev auxStat.ENTRY : Fld := ⟨4, 5⟩
abbrev auxStat.REF_LOW : Fld := ⟨9, 1⟩
abbrev auxStat.CFG_ERR : Fld := ⟨10, 1⟩
abbrev auxStat.OVERRUN : Fld := ⟨11, 1⟩
abbrev auxStat.TMO : Fld := ⟨12, 1⟩
abbrev auxStat.CFG_CAUSE : Fld := ⟨16, 3⟩
abbrev auxRegCtl.EN : Fld := ⟨0, 1⟩
abbrev auxRegCtl.MODE : Fld := ⟨1, 1⟩
abbrev auxRegCtl.LEN : Fld := ⟨2, 5⟩
abbrev auxRegTrigSel.EV : Fld := ⟨0, 8⟩
abbrev auxRegTrigSel.EN : Fld := ⟨31, 1⟩
abbrev auxInjTrigSel.EV : Fld := ⟨0, 8⟩
abbrev auxInjTrigSel.EN : Fld := ⟨31, 1⟩
abbrev auxInjCtl.EN : Fld := ⟨0, 1⟩
abbrev auxInjCtl.LEN : Fld := ⟨1, 3⟩
abbrev auxOw.US : Fld := ⟨0, 8⟩
abbrev auxOw.THR : Fld := ⟨8, 8⟩
abbrev auxTmo.US : Fld := ⟨0, 16⟩
abbrev auxCjFix.T : Fld := ⟨0, 16⟩
abbrev auxOpenReg.ENTRY : Fld := ⟨0, 32⟩
abbrev auxOpenInj.ENTRY : Fld := ⟨0, 8⟩
abbrev auxClampStat.PIN : Fld := ⟨0, 24⟩
abbrev auxExcStat.FAULT : Fld := ⟨0, 4⟩
abbrev auxExcStat.ON : Fld := ⟨4, 4⟩
abbrev auxOvrCnt.COUNT : Fld := ⟨0, 32⟩
abbrev auxSkipCnt.COUNT : Fld := ⟨0, 32⟩
abbrev auxTmoCnt.COUNT : Fld := ⟨0, 32⟩
abbrev auxCalCtl.START : Fld := ⟨0, 1⟩
abbrev auxCalCtl.BUSY : Fld := ⟨8, 1⟩
abbrev auxCalCtl.DONE : Fld := ⟨9, 1⟩
abbrev auxCalCtl.RESULT : Fld := ⟨16, 8⟩
abbrev auxExcCfg.MODE : Fld := ⟨0, 2⟩
abbrev auxExcCfg.PULSED : Fld := ⟨2, 1⟩
abbrev auxExcCfg.LVL : Fld := ⟨4, 12⟩
abbrev auxCalOfs.OFS : Fld := ⟨0, 16⟩
abbrev auxCalGain.GC : Fld := ⟨0, 16⟩
abbrev auxCalStat.VALID : Fld := ⟨0, 1⟩
abbrev auxUtN.N : Fld := ⟨0, 7⟩
abbrev auxRegCfg.AINP : Fld := ⟨0, 5⟩
abbrev auxRegCfg.AINN : Fld := ⟨5, 5⟩
abbrev auxRegCfg.GAIN : Fld := ⟨10, 3⟩
abbrev auxRegCfg.REF : Fld := ⟨13, 2⟩
abbrev auxRegCfg.CHOP : Fld := ⟨15, 1⟩
abbrev auxRegCfg.ORDER : Fld := ⟨16, 2⟩
abbrev auxRegCfg.OW_EN : Fld := ⟨18, 1⟩
abbrev auxRegCfg.IBURN : Fld := ⟨19, 2⟩
abbrev auxRegCfg.OUT : Fld := ⟨21, 2⟩
abbrev auxRegCfg.VBIAS : Fld := ⟨23, 1⟩
abbrev auxRegCfg.EXC : Fld := ⟨24, 4⟩
abbrev auxRegCfg.REXC : Fld := ⟨28, 2⟩
abbrev auxRegTime.OSR : Fld := ⟨0, 16⟩
abbrev auxRegTime.NOTCH : Fld := ⟨16, 6⟩
abbrev auxRegTime.DLY : Fld := ⟨22, 10⟩
abbrev auxRegLin.CURVE : Fld := ⟨0, 8⟩
abbrev auxRegLin.CJ_ENTRY : Fld := ⟨8, 5⟩
abbrev auxRegLin.CJ_MODE : Fld := ⟨13, 2⟩
abbrev auxRegLin.REFP : Fld := ⟨15, 5⟩
abbrev auxRegLin.REFN : Fld := ⟨20, 5⟩
abbrev auxRegKref.KREF : Fld := ⟨0, 32⟩
abbrev auxRegSlotValue.VALUE : Fld := ⟨0, 32⟩
abbrev auxRegSlotStatus.VALID : Fld := ⟨0, 1⟩
abbrev auxRegSlotStatus.FLAGS : Fld := ⟨1, 8⟩
abbrev auxRegSlotStatus.ENTRY : Fld := ⟨16, 5⟩
abbrev auxRegSlotStatus.INJ : Fld := ⟨21, 1⟩
abbrev auxRegSlotStatus.SEQ : Fld := ⟨24, 8⟩
abbrev auxRegSlotTsLo.TIME : Fld := ⟨0, 32⟩
abbrev auxRegSlotTsHi.TIME : Fld := ⟨0, 32⟩
abbrev auxUtX.X_Y : Fld := ⟨0, 32⟩
abbrev auxUtY.X_Y : Fld := ⟨0, 32⟩
abbrev wfCfg.EN : Fld := ⟨0, 1⟩
abbrev wfCfg.MODE : Fld := ⟨1, 1⟩
abbrev wfCfg.GAIN : Fld := ⟨2, 4⟩
abbrev wfCfg.PSRC : Fld := ⟨6, 3⟩
abbrev wfCfg.DIV : Fld := ⟨16, 16⟩
abbrev wfPitch.PITCH : Fld := ⟨0, 32⟩
abbrev wfBaseLo.BASE : Fld := ⟨0, 32⟩
abbrev wfBaseHi.BASE : Fld := ⟨0, 8⟩
abbrev wfSize.SIZE : Fld := ⟨0, 18⟩
abbrev wfBlk.BLK : Fld := ⟨0, 16⟩
abbrev wfStartSel.EV : Fld := ⟨0, 8⟩
abbrev wfStartSel.EN : Fld := ⟨31, 1⟩
abbrev wfStopSel.EV : Fld := ⟨0, 8⟩
abbrev wfStopSel.EN : Fld := ⟨31, 1⟩
abbrev wfMax.MAX : Fld := ⟨0, 32⟩
abbrev wfWr.WR : Fld := ⟨0, 32⟩
abbrev wfRd.RD : Fld := ⟨0, 32⟩
abbrev wfStat.STATE : Fld := ⟨0, 2⟩
abbrev wfStat.OVF : Fld := ⟨2, 1⟩
abbrev wfStat.CLIP : Fld := ⟨3, 1⟩
abbrev wfStat.REV : Fld := ⟨4, 1⟩
abbrev wfStat.CFG_ERR : Fld := ⟨5, 1⟩
abbrev wfPos0Lo.POS : Fld := ⟨0, 32⟩
abbrev wfPos0Hi.POS : Fld := ⟨0, 32⟩
abbrev wfMark.MARK : Fld := ⟨0, 32⟩
abbrev wfCaps.COUNT : Fld := ⟨0, 32⟩
abbrev tcxCtl.LANES : Fld := ⟨0, 16⟩
abbrev tcxCtl.STRIP : Fld := ⟨16, 8⟩
abbrev tcxStat.BUSY : Fld := ⟨0, 16⟩
abbrev tcxStat.CLIP : Fld := ⟨16, 1⟩
abbrev tcxStat.DERR : Fld := ⟨17, 1⟩
abbrev tcxDerr.VALID : Fld := ⟨0, 1⟩
abbrev tcxDerr.CAUSE : Fld := ⟨1, 4⟩
abbrev tcxDerr.SC : Fld := ⟨16, 12⟩
abbrev tcxDerrOfsLo.OFS : Fld := ⟨0, 32⟩
abbrev tcxDerrOfsHi.OFS : Fld := ⟨0, 32⟩
abbrev tcxSwitchCnt.COUNT : Fld := ⟨0, 32⟩
abbrev tcxMissCnt.COUNT : Fld := ⟨0, 32⟩
abbrev tcxClipCnt.COUNT : Fld := ⟨0, 32⟩
abbrev tcxEscCnt.COUNT : Fld := ⟨0, 32⟩
abbrev tcxLane.SC : Fld := ⟨0, 12⟩
abbrev tcxLane.ACT : Fld := ⟨12, 1⟩
abbrev tcxLane.DIR : Fld := ⟨13, 1⟩
abbrev tcxLane.GROUPS : Fld := ⟨16, 16⟩
abbrev packMwin.TEAM : Fld := ⟨0, 4⟩
abbrev packMwin.ENG : Fld := ⟨8, 7⟩
abbrev packFault.ENG : Fld := ⟨0, 32⟩
abbrev packTsem.COUNT : Fld := ⟨0, 16⟩
abbrev packTsem.OVF : Fld := ⟨16, 1⟩
abbrev iwCfg.EN : Fld := ⟨0, 1⟩
abbrev iwCfg.PLANE : Fld := ⟨1, 7⟩
abbrev iwCfg.TEAM : Fld := ⟨8, 4⟩
abbrev iwCfg.TRK : Fld := ⟨12, 2⟩
abbrev iwGeom.X0 : Fld := ⟨0, 16⟩
abbrev iwGeom.WIDTH : Fld := ⟨16, 16⟩
abbrev iwRing.BASE : Fld := ⟨0, 19⟩
abbrev iwRing.SLOTS : Fld := ⟨24, 8⟩
abbrev iwWr.COUNT : Fld := ⟨0, 32⟩
abbrev iwRd.COUNT : Fld := ⟨0, 32⟩
abbrev iwStat.CFG_ERR : Fld := ⟨0, 1⟩
abbrev iwStat.CFG_CAUSE : Fld := ⟨1, 3⟩
abbrev iwStat.TAKEN : Fld := ⟨8, 8⟩
abbrev iwDropCnt.COUNT : Fld := ⟨0, 32⟩
abbrev iwLast.LINE : Fld := ⟨0, 32⟩
abbrev owCfg.EN : Fld := ⟨0, 1⟩
abbrev owCfg.MODE : Fld := ⟨1, 1⟩
abbrev owCfg.TEAM : Fld := ⟨8, 4⟩
abbrev owCfg.SRCW : Fld := ⟨16, 5⟩
abbrev owGeom.LEN : Fld := ⟨0, 16⟩
abbrev owGeom.WIDTH : Fld := ⟨16, 16⟩
abbrev owRing.BASE : Fld := ⟨0, 19⟩
abbrev owRing.SLOTS : Fld := ⟨24, 8⟩
abbrev owSc.SC : Fld := ⟨0, 12⟩
abbrev owDlv.COUNT : Fld := ⟨0, 32⟩
abbrev owStat.CFG_ERR : Fld := ⟨0, 1⟩
abbrev owStat.CFG_CAUSE : Fld := ⟨1, 3⟩
abbrev owStat.TRUNC : Fld := ⟨4, 1⟩
abbrev owStat.REPEAT : Fld := ⟨5, 1⟩
abbrev owSkipCnt.COUNT : Fld := ⟨0, 32⟩
abbrev engCtl.CMD : Fld := ⟨0, 2⟩
abbrev engStart.PC : Fld := ⟨0, 12⟩
abbrev engStat.STATE : Fld := ⟨0, 3⟩
abbrev engStat.IMG : Fld := ⟨3, 1⟩
abbrev engStat.KIND : Fld := ⟨4, 2⟩
abbrev engStat.KEY : Fld := ⟨6, 1⟩
abbrev engStat.IN_OVF : Fld := ⟨7, 1⟩
abbrev engStat.EC_OVF : Fld := ⟨8, 1⟩
abbrev engStat.CMD_IGN : Fld := ⟨9, 1⟩
abbrev engStat.WAIT : Fld := ⟨12, 4⟩
abbrev engStat.PC : Fld := ⟨16, 12⟩
abbrev engFault.CAUSE : Fld := ⟨0, 4⟩
abbrev engFault.PC : Fld := ⟨16, 12⟩
abbrev engFaddrLo.ADDR : Fld := ⟨0, 32⟩
abbrev engFaddrHi.ADDR : Fld := ⟨0, 8⟩
abbrev engImg.VALUE : Fld := ⟨0, 32⟩
abbrev engVer.VALUE : Fld := ⟨0, 32⟩
abbrev engInbox.WORD : Fld := ⟨0, 32⟩
abbrev engOutbox.WORD : Fld := ⟨0, 32⟩
abbrev engMbx.IN_CNT : Fld := ⟨0, 5⟩
abbrev engMbx.OUT_CNT : Fld := ⟨8, 5⟩
abbrev engEcsel.EV : Fld := ⟨0, 8⟩
abbrev engEcsel.EN : Fld := ⟨31, 1⟩
abbrev engEccnt.COUNT : Fld := ⟨0, 32⟩
abbrev hqeCtl.HWD_EN : Fld := ⟨0, 1⟩
abbrev hqeCtl.DB_EV : Fld := ⟨1, 1⟩
abbrev hqeStat.LINK : Fld := ⟨0, 2⟩
abbrev hqeStat.DB_STRAY : Fld := ⟨2, 1⟩
abbrev hqeStat.QERR : Fld := ⟨3, 1⟩
abbrev hqeStat.HLOST : Fld := ⟨4, 1⟩
abbrev hqeStat.EVQ_OVF : Fld := ⟨5, 1⟩
abbrev hqeStat.INFLIGHT : Fld := ⟨16, 13⟩
abbrev hqeAqSqLo.ADDR : Fld := ⟨0, 32⟩
abbrev hqeAqSqHi.ADDR : Fld := ⟨0, 32⟩
abbrev hqeAqCqLo.ADDR : Fld := ⟨0, 32⟩
abbrev hqeAqCqHi.ADDR : Fld := ⟨0, 32⟩
abbrev hqeAqCfg.SQ_SIZE : Fld := ⟨0, 12⟩
abbrev hqeAqCfg.CQ_SIZE : Fld := ⟨16, 12⟩
abbrev hqeAqCfg.EN : Fld := ⟨31, 1⟩
abbrev hqeSpillBaseLo.ADDR : Fld := ⟨0, 32⟩
abbrev hqeSpillBaseHi.ADDR : Fld := ⟨0, 8⟩
abbrev hqeSpillSize.UNITS : Fld := ⟨0, 16⟩
abbrev hqeSpillFree.UNITS : Fld := ⟨0, 16⟩
abbrev hqeFetchTmo.US : Fld := ⟨0, 16⟩
abbrev hqeHwd.MS : Fld := ⟨0, 16⟩
abbrev hqeQerr.VALID : Fld := ⟨0, 1⟩
abbrev hqeQerr.CAUSE : Fld := ⟨1, 3⟩
abbrev hqeQerr.DIR : Fld := ⟨4, 1⟩
abbrev hqeQerr.QP : Fld := ⟨16, 10⟩
abbrev hqeErrAddrLo.ADDR : Fld := ⟨0, 32⟩
abbrev hqeErrAddrHi.ADDR : Fld := ⟨0, 32⟩
abbrev hqeOcc.OCC : Fld := ⟨0, 10⟩
abbrev hqeOcc.SC : Fld := ⟨16, 12⟩
abbrev hqeOcc.V : Fld := ⟨28, 1⟩
abbrev hqeJob.PATH : Fld := ⟨0, 2⟩
abbrev hqeJob.BOUND : Fld := ⟨2, 1⟩
abbrev hqeJob.RUN : Fld := ⟨3, 1⟩
abbrev hqeJob.STREAMS : Fld := ⟨16, 12⟩
abbrev hqeTmoCnt.COUNT : Fld := ⟨0, 32⟩
abbrev hqeBusCnt.COUNT : Fld := ⟨0, 32⟩
abbrev hqeLoopCnt.COUNT : Fld := ⟨0, 32⟩
abbrev hqeFailCnt.COUNT : Fld := ⟨0, 32⟩
abbrev hqeDiscCnt.COUNT : Fld := ⟨0, 32⟩
abbrev hqeBrgErrCnt.COUNT : Fld := ⟨0, 32⟩
abbrev idmaBusy.CH : Fld := ⟨0, 32⟩
abbrev idmaHalted.CH : Fld := ⟨0, 32⟩
abbrev idmaCcStat.BUSY : Fld := ⟨0, 8⟩
abbrev idmaCcStat.ERR : Fld := ⟨8, 8⟩
abbrev idmaPoll.US : Fld := ⟨0, 16⟩
abbrev idmaErr.VALID : Fld := ⟨0, 1⟩
abbrev idmaErr.CH : Fld := ⟨1, 6⟩
abbrev idmaErr.DIR : Fld := ⟨7, 1⟩
abbrev idmaErr.CAUSE : Fld := ⟨8, 3⟩
abbrev idmaErr.KIND : Fld := ⟨12, 3⟩
abbrev idmaErrAddrLo.ADDR : Fld := ⟨0, 32⟩
abbrev idmaErrAddrHi.ADDR : Fld := ⟨0, 8⟩
abbrev idmaBusCnt.COUNT : Fld := ⟨0, 32⟩
abbrev idmaTmoCnt.COUNT : Fld := ⟨0, 32⟩
abbrev idmaLoopCnt.COUNT : Fld := ⟨0, 32⟩
abbrev idmaEccCnt.COUNT : Fld := ⟨0, 32⟩
abbrev chCtl.EN : Fld := ⟨0, 1⟩
abbrev chCtl.START : Fld := ⟨1, 1⟩
abbrev chCtl.PAUSE : Fld := ⟨2, 1⟩
abbrev chCtl.KICK : Fld := ⟨3, 1⟩
abbrev chDescLo.ADDR : Fld := ⟨5, 27⟩
abbrev chDescHi.ADDR : Fld := ⟨0, 8⟩
abbrev chStartSel.EV : Fld := ⟨0, 8⟩
abbrev chStartSel.EN : Fld := ⟨31, 1⟩
abbrev chPaceSel.EV : Fld := ⟨0, 8⟩
abbrev chPaceSel.EN : Fld := ⟨31, 1⟩
abbrev chKickSel.EV : Fld := ⟨0, 8⟩
abbrev chKickSel.EN : Fld := ⟨31, 1⟩
abbrev chStat.STATE : Fld := ⟨0, 3⟩
abbrev chStat.CAUSE : Fld := ⟨4, 3⟩
abbrev chStat.DIR : Fld := ⟨7, 1⟩
abbrev chStat.KIND : Fld := ⟨8, 3⟩
abbrev chStat.START_IGN : Fld := ⟨11, 1⟩
abbrev chStat.PACE_OVF : Fld := ⟨12, 1⟩
abbrev chStat.JCNT : Fld := ⟨16, 11⟩
abbrev chPace.CREDIT : Fld := ⟨0, 8⟩
abbrev chSrcLo.ADDR : Fld := ⟨0, 32⟩
abbrev chSrcHi.ADDR : Fld := ⟨0, 8⟩
abbrev chDstLo.ADDR : Fld := ⟨0, 32⟩
abbrev chDstHi.ADDR : Fld := ⟨0, 8⟩
abbrev chRem.REM : Fld := ⟨0, 31⟩
abbrev chHold.BYTES : Fld := ⟨0, 5⟩
abbrev chFaddrLo.ADDR : Fld := ⟨0, 32⟩
abbrev chFaddrHi.ADDR : Fld := ⟨0, 8⟩
abbrev ccSar.ADDR : Fld := ⟨0, 32⟩
abbrev ccDar.ADDR : Fld := ⟨0, 32⟩
abbrev ccTcr.COUNT : Fld := ⟨0, 24⟩
abbrev ccCcr.EN : Fld := ⟨0, 1⟩
abbrev ccCcr.SINC : Fld := ⟨1, 1⟩
abbrev ccCcr.DINC : Fld := ⟨2, 1⟩
abbrev ccCcr.SIZE : Fld := ⟨3, 2⟩
abbrev ccCcr.TRIG : Fld := ⟨5, 1⟩
abbrev ccCcr.CIRC : Fld := ⟨6, 1⟩
abbrev ccCcr.TCIE : Fld := ⟨7, 1⟩
abbrev ccCcr.BURST : Fld := ⟨8, 8⟩
abbrev ccCcr.FENCE : Fld := ⟨16, 1⟩
abbrev ccCsr.BUSY : Fld := ⟨0, 1⟩
abbrev ccCsr.TC : Fld := ⟨1, 1⟩
abbrev ccCsr.ERR : Fld := ⟨2, 1⟩
abbrev ccCsr.OVF : Fld := ⟨3, 1⟩
abbrev ccXhi.SRC : Fld := ⟨0, 8⟩
abbrev ccXhi.DST : Fld := ⟨8, 8⟩
abbrev ccTrigSel.EV : Fld := ⟨0, 8⟩
abbrev ccTrigSel.EN : Fld := ⟨31, 1⟩
abbrev ccCred.CREDIT : Fld := ⟨0, 8⟩
abbrev dlfCfg.EN : Fld := ⟨0, 1⟩
abbrev dlfCfg.ENC_REQ : Fld := ⟨1, 1⟩
abbrev dlfCfg.PRI : Fld := ⟨8, 8⟩
abbrev dlfCfg.REQ_ID : Fld := ⟨16, 8⟩
abbrev dlfStat.STATE : Fld := ⟨0, 3⟩
abbrev dlfStat.LEAD : Fld := ⟨3, 1⟩
abbrev dlfStat.NODE_ID : Fld := ⟨8, 8⟩
abbrev dlfStat.LEAD_ID : Fld := ⟨16, 8⟩
abbrev dlfStat.DIST : Fld := ⟨24, 4⟩
abbrev dlfUidLo.UID : Fld := ⟨0, 32⟩
abbrev dlfUidHi.UID : Fld := ⟨0, 32⟩
abbrev dlfLeadUidLo.UID : Fld := ⟨0, 32⟩
abbrev dlfLeadUidHi.UID : Fld := ⟨0, 32⟩
abbrev dlfEpoch.EPOCH : Fld := ⟨0, 16⟩
abbrev dlfEpoch.NODES : Fld := ⟨16, 8⟩
abbrev dlfKey.VALID : Fld := ⟨0, 1⟩
abbrev dlfTmo.RSP_US : Fld := ⟨0, 16⟩
abbrev dlfTmo.HOLD_US : Fld := ⟨16, 16⟩
abbrev dlfForm.SETTLE_MS : Fld := ⟨0, 8⟩
abbrev dlfForm.DISC_MS : Fld := ⟨8, 8⟩
abbrev dlfGuard.QTIME_MS : Fld := ⟨0, 16⟩
abbrev dlfGuard.ERR_LIM : Fld := ⟨16, 8⟩
abbrev dlfGuard.CRED_MS : Fld := ⟨24, 8⟩
abbrev dlfRekey.MIN : Fld := ⟨0, 16⟩
abbrev dlfTimeCfg.SYNC_US : Fld := ⟨0, 8⟩
abbrev dlfTimeStat.LOCK : Fld := ⟨0, 1⟩
abbrev dlfTimeStat.STEP : Fld := ⟨1, 1⟩
abbrev dlfTimeStat.UNLOCK : Fld := ⟨2, 1⟩
abbrev dlfTimeStat.OFS : Fld := ⟨16, 16⟩
abbrev dlfLcCfg.EN : Fld := ⟨0, 1⟩
abbrev dlfLcCfg.LP : Fld := ⟨1, 3⟩
abbrev dlfLcCfg.LEAD : Fld := ⟨16, 16⟩
abbrev dlfLcStat.LATE : Fld := ⟨0, 1⟩
abbrev dlfLcStat.NOT_LEAD : Fld := ⟨1, 1⟩
abbrev dlfLcStat.ORDER : Fld := ⟨2, 1⟩
abbrev dlfLcTick.TICK : Fld := ⟨0, 32⟩
abbrev dlfErr.VALID : Fld := ⟨0, 1⟩
abbrev dlfErr.STATUS : Fld := ⟨8, 8⟩
abbrev dlfErr.NODE : Fld := ⟨16, 8⟩
abbrev dlfErr.PORT : Fld := ⟨24, 2⟩
abbrev dlfCrcCnt.COUNT : Fld := ⟨0, 32⟩
abbrev dlfHoldCnt.COUNT : Fld := ⟨0, 32⟩
abbrev dlfOrphanCnt.COUNT : Fld := ⟨0, 32⟩
abbrev dlfRspTmoCnt.COUNT : Fld := ⟨0, 32⟩
abbrev dlfLateRspCnt.COUNT : Fld := ⟨0, 32⟩
abbrev dlfViolCnt.COUNT : Fld := ⟨0, 32⟩
abbrev dlfUnreachCnt.COUNT : Fld := ⟨0, 32⟩
abbrev dlfAuthFailCnt.COUNT : Fld := ⟨0, 32⟩
abbrev dlfLcLateCnt.COUNT : Fld := ⟨0, 32⟩
abbrev dlfRwinA.BASE : Fld := ⟨0, 15⟩
abbrev dlfRwinA.RD : Fld := ⟨16, 1⟩
abbrev dlfRwinA.WR : Fld := ⟨17, 1⟩
abbrev dlfRwinA.EN : Fld := ⟨31, 1⟩
abbrev dlfRwinB.SIZE : Fld := ⟨0, 16⟩
abbrev dlfRwinB.SRC : Fld := ⟨16, 8⟩
abbrev dlfRt.TABLE : Fld := ⟨0, 32⟩
abbrev dlCtl.EN : Fld := ⟨0, 1⟩
abbrev dlCtl.RETRAIN : Fld := ⟨1, 1⟩
abbrev dlCtl.RELEASE : Fld := ⟨2, 1⟩
abbrev dlCtl.QUAR : Fld := ⟨3, 1⟩
abbrev dlStat.STATE : Fld := ⟨0, 3⟩
abbrev dlStat.ENC : Fld := ⟨3, 1⟩
abbrev dlStat.ROLE : Fld := ⟨4, 2⟩
abbrev dlStat.QCAUSE : Fld := ⟨8, 4⟩
abbrev dlStat.PEER_ID : Fld := ⟨16, 8⟩
abbrev dlPeerLo.UID : Fld := ⟨0, 32⟩
abbrev dlPeerHi.UID : Fld := ⟨0, 32⟩
abbrev dlDelay.D : Fld := ⟨0, 24⟩
abbrev dlAsym.A : Fld := ⟨0, 16⟩
abbrev dlCred.VC0 : Fld := ⟨0, 16⟩
abbrev dlCred.VC1 : Fld := ⟨16, 16⟩
abbrev dlPol.MSG : Fld := ⟨0, 16⟩
abbrev dlPol.REQ : Fld := ⟨16, 16⟩
abbrev dlReplayCnt.COUNT : Fld := ⟨0, 32⟩
abbrev dlPolCnt.COUNT : Fld := ⟨0, 32⟩
abbrev dlDownCnt.COUNT : Fld := ⟨0, 32⟩
abbrev dlTerrCnt.COUNT : Fld := ⟨0, 32⟩
abbrev stCfg.EN : Fld := ⟨0, 1⟩
abbrev stCfg.ROLE : Fld := ⟨1, 1⟩
abbrev stCfg.PLANE : Fld := ⟨2, 6⟩
abbrev stCfg.NODE : Fld := ⟨8, 8⟩
abbrev stCfg.ABP : Fld := ⟨16, 4⟩
abbrev stGeom.X0 : Fld := ⟨0, 16⟩
abbrev stGeom.WIDTH : Fld := ⟨16, 16⟩
abbrev stDl.US : Fld := ⟨0, 16⟩
abbrev stStat.MISS : Fld := ⟨0, 1⟩
abbrev stStat.CFG_ERR : Fld := ⟨1, 1⟩
abbrev stStat.CFG_CAUSE : Fld := ⟨2, 3⟩
abbrev stLines.COUNT : Fld := ⟨0, 32⟩
abbrev stMissCnt.COUNT : Fld := ⟨0, 32⟩
abbrev stLateCnt.COUNT : Fld := ⟨0, 32⟩
abbrev hltCfg.PEC_REQ : Fld := ⟨0, 1⟩
abbrev hltCfg.OTP_WE : Fld := ⟨1, 1⟩
abbrev hltCfg.BOOT_WE : Fld := ⟨2, 1⟩
abbrev hltCfg.CAL_WE : Fld := ⟨3, 1⟩
abbrev hltCfg.CRIT_RST : Fld := ⟨4, 1⟩
abbrev hltStat.MAIN_RUN : Fld := ⟨0, 1⟩
abbrev hltStat.HOLD : Fld := ⟨1, 1⟩
abbrev hltStat.READY : Fld := ⟨2, 1⟩
abbrev hltStat.WAKE : Fld := ⟨3, 1⟩
abbrev hltStat.ALERT : Fld := ⟨4, 1⟩
abbrev hltStat.FL_BUSY : Fld := ⟨5, 1⟩
abbrev hltStat.SAVE : Fld := ⟨6, 1⟩
abbrev hltStat.OUT_CNT : Fld := ⟨8, 5⟩
abbrev hltWake.WAKE : Fld := ⟨0, 1⟩
abbrev hltAlert.TEMP_HI : Fld := ⟨0, 1⟩
abbrev hltAlert.TEMP_CRIT : Fld := ⟨1, 1⟩
abbrev hltAlert.RAIL_WARN : Fld := ⟨2, 1⟩
abbrev hltAlert.UV_RESET : Fld := ⟨3, 1⟩
abbrev hltAlert.PLL_LOSS : Fld := ⟨4, 1⟩
abbrev hltAlert.MBX : Fld := ⟨5, 1⟩
abbrev hltAlert.FL_DONE : Fld := ⟨6, 1⟩
abbrev hltAlert.PEC_ERR : Fld := ⟨7, 1⟩
abbrev hltAlert.BUS_TMO : Fld := ⟨8, 1⟩
abbrev hltAlertEn.EN : Fld := ⟨0, 9⟩
abbrev hltTs.T : Fld := ⟨0, 16⟩
abbrev hltThr.HI : Fld := ⟨0, 16⟩
abbrev hltThr.CRIT : Fld := ⟨16, 16⟩
abbrev hltRail.MV : Fld := ⟨0, 16⟩
abbrev hltRail.WARN : Fld := ⟨16, 1⟩
abbrev hltRwarn.LO : Fld := ⟨0, 16⟩
abbrev hltRwarn.HI : Fld := ⟨16, 16⟩
abbrev hltLogCnt.COUNT : Fld := ⟨0, 16⟩
abbrev hltLogCnt.NEXT : Fld := ⟨16, 5⟩
abbrev hltAonMs.MS : Fld := ⟨0, 32⟩
abbrev hltNackCnt.COUNT : Fld := ⟨0, 32⟩
abbrev hltPecCnt.COUNT : Fld := ⟨0, 32⟩
abbrev hltTmoCnt.COUNT : Fld := ⟨0, 32⟩
abbrev hltFlStat.BUSY : Fld := ⟨0, 1⟩
abbrev hltFlStat.RESULT : Fld := ⟨8, 8⟩
abbrev hltFlStat.OP : Fld := ⟨16, 8⟩
abbrev hltLogW0.MS : Fld := ⟨0, 32⟩
abbrev hltLogW1.CAUSE : Fld := ⟨0, 8⟩
abbrev hltLogW1.INDEX : Fld := ⟨8, 8⟩
abbrev hltLogW1.VALUE : Fld := ⟨16, 16⟩
abbrev secBootInfo.SLOT : Fld := ⟨0, 1⟩
abbrev secBootInfo.ALT_FAIL : Fld := ⟨1, 1⟩
abbrev secBootInfo.HOST : Fld := ⟨2, 1⟩
abbrev secBootInfo.ALT_STATUS : Fld := ⟨8, 8⟩
abbrev secBootInfo.LIST_IDX : Fld := ⟨16, 8⟩
abbrev secBootInfo.LIST_STATUS : Fld := ⟨24, 8⟩
abbrev secBootVer.VERSION : Fld := ⟨0, 32⟩
abbrev secSelftest.SRAM_RUN : Fld := ⟨0, 1⟩
abbrev secSelftest.SRAM_FAIL : Fld := ⟨1, 1⟩
abbrev secSelftest.PS_RUN : Fld := ⟨2, 1⟩
abbrev secSelftest.PS_FAIL : Fld := ⟨3, 1⟩
abbrev secSelftest.POOL : Fld := ⟨4, 4⟩
abbrev secSelftest.STATUS : Fld := ⟨8, 8⟩
abbrev secStAddrLo.ADDR : Fld := ⟨0, 32⟩
abbrev secStAddrHi.ADDR : Fld := ⟨0, 8⟩
abbrev secSvcStat.SVC : Fld := ⟨0, 8⟩
abbrev secSvcStat.TAG : Fld := ⟨8, 4⟩
abbrev secSvcStat.LAST_STATUS : Fld := ⟨16, 8⟩
abbrev secSvcStat.LAST_SVC : Fld := ⟨24, 8⟩
abbrev secSvcRes.VALUE : Fld := ⟨0, 32⟩
abbrev secSvcHb.COUNT : Fld := ⟨0, 32⟩
abbrev secSvcCfg.AUTO_HLOSS : Fld := ⟨0, 1⟩
abbrev secSvcCfg.AUTO_JAM : Fld := ⟨1, 1⟩
abbrev secSvcCfg.HL_S : Fld := ⟨8, 8⟩
abbrev secSvcCfg.TMO_S : Fld := ⟨16, 8⟩
abbrev secSvcCfg.JAM_MS : Fld := ⟨24, 8⟩
abbrev auxInjCfg.AINP : Fld := ⟨0, 5⟩
abbrev auxInjCfg.AINN : Fld := ⟨5, 5⟩
abbrev auxInjCfg.GAIN : Fld := ⟨10, 3⟩
abbrev auxInjCfg.REF : Fld := ⟨13, 2⟩
abbrev auxInjCfg.CHOP : Fld := ⟨15, 1⟩
abbrev auxInjCfg.ORDER : Fld := ⟨16, 2⟩
abbrev auxInjCfg.OW_EN : Fld := ⟨18, 1⟩
abbrev auxInjCfg.IBURN : Fld := ⟨19, 2⟩
abbrev auxInjCfg.OUT : Fld := ⟨21, 2⟩
abbrev auxInjCfg.VBIAS : Fld := ⟨23, 1⟩
abbrev auxInjCfg.EXC : Fld := ⟨24, 4⟩
abbrev auxInjCfg.REXC : Fld := ⟨28, 2⟩
abbrev auxInjTime.OSR : Fld := ⟨0, 16⟩
abbrev auxInjTime.NOTCH : Fld := ⟨16, 6⟩
abbrev auxInjTime.DLY : Fld := ⟨22, 10⟩
abbrev auxInjLin.CURVE : Fld := ⟨0, 8⟩
abbrev auxInjLin.CJ_ENTRY : Fld := ⟨8, 5⟩
abbrev auxInjLin.CJ_MODE : Fld := ⟨13, 2⟩
abbrev auxInjLin.REFP : Fld := ⟨15, 5⟩
abbrev auxInjLin.REFN : Fld := ⟨20, 5⟩
abbrev auxInjKref.KREF : Fld := ⟨0, 32⟩
abbrev auxInjSlotValue.VALUE : Fld := ⟨0, 32⟩
abbrev auxInjSlotStatus.VALID : Fld := ⟨0, 1⟩
abbrev auxInjSlotStatus.FLAGS : Fld := ⟨1, 8⟩
abbrev auxInjSlotStatus.ENTRY : Fld := ⟨16, 5⟩
abbrev auxInjSlotStatus.INJ : Fld := ⟨21, 1⟩
abbrev auxInjSlotStatus.SEQ : Fld := ⟨24, 8⟩
abbrev auxInjSlotTsLo.TIME : Fld := ⟨0, 32⟩
abbrev auxInjSlotTsHi.TIME : Fld := ⟨0, 32⟩
abbrev evmSwEv.SW_EV : Fld := ⟨0, 8⟩
abbrev evmMonSel.EV : Fld := ⟨0, 8⟩
abbrev evmMonSel.EN : Fld := ⟨31, 1⟩
abbrev evmMonCnt.COUNT : Fld := ⟨0, 32⟩
abbrev hqeMsixAddrLo.ADDR_LO : Fld := ⟨0, 32⟩
abbrev hqeMsixAddrHi.ADDR_HI : Fld := ⟨0, 32⟩
abbrev hqeMsixData.DATA : Fld := ⟨0, 32⟩
abbrev hqeMsixCtrl.MASK : Fld := ⟨0, 1⟩
abbrev sysId.ID : Fld := ⟨0, 32⟩
abbrev sysTimeLo.TIME_LO : Fld := ⟨0, 32⟩
abbrev sysTimeHi.TIME_HI : Fld := ⟨0, 32⟩
abbrev hqePba.PEND : Fld := ⟨0, 32⟩

end F

/-! ## Field masks of each register (R10, R11) -/
namespace Row

def sysClkStat : RegRow := ⟨0x00000004, 0x00000000, 0x00000000, 0x00000000, 0x00000000, 0x00000000, 0x00000000, 0x00000000⟩
def sysErrStat : RegRow := ⟨0x00000000, 0x00000000, 0x00000000, 0x00000000, 0x00000000, 0x0000000F, 0x00000000, 0x00000000⟩
def sysErrAddr : RegRow := ⟨0x00000000, 0x00000000, 0x00000000, 0x00000000, 0x00000000, 0x00000000, 0x00000000, 0x00000000⟩
def sysEccStat : RegRow := ⟨0x00000000, 0x00000000, 0x00000000, 0x00000000, 0x00000000, 0x00000003, 0x00000000, 0x00000000⟩
def sysEccCeCnt : RegRow := ⟨0x00000000, 0x00000000, 0x00000000, 0x00000000, 0x00000000, 0x00000000, 0x00000000, 0xFFFFFFFF⟩
def sysEccUeCnt : RegRow := ⟨0x00000000, 0x00000000, 0x00000000, 0x00000000, 0x00000000, 0x00000000, 0x00000000, 0xFFFFFFFF⟩
def sysEccAddrLo : RegRow := ⟨0x00000000, 0x00000000, 0x00000000, 0x00000000, 0x00000000, 0x00000000, 0x00000000, 0x00000000⟩
def sysEccAddrHi : RegRow := ⟨0x00000000, 0x00000000, 0x00000000, 0x00000000, 0x00000000, 0x00000000, 0x00000000, 0x00000000⟩
def sysScrubCtl : RegRow := ⟨0x00001801, 0x0000FF01, 0x00000000, 0x00000000, 0x00000000, 0x00000000, 0x00000000, 0x00000000⟩
def etimCtl : RegRow := ⟨0x00000000, 0x00000001, 0x000000F6, 0x00000000, 0x00000000, 0x00000000, 0x00000000, 0x00000000⟩
def etimLoad : RegRow := ⟨0x00000000, 0xFFFFFFFF, 0x00000000, 0x00000000, 0x00000000, 0x00000000, 0x00000000, 0x00000000⟩
def etimCount : RegRow := ⟨0x00000000, 0x00000000, 0x00000000, 0x00000000, 0x00000000, 0x00000000, 0x00000000, 0x00000000⟩
def etimStartSel : RegRow := ⟨0x00000000, 0x800000FF, 0x00000000, 0x00000000, 0x00000000, 0x00000000, 0x00000000, 0x00000000⟩
def etimCancelSel : RegRow := ⟨0x00000000, 0x800000FF, 0x00000000, 0x00000000, 0x00000000, 0x00000000, 0x00000000, 0x00000000⟩
def etimStat : RegRow := ⟨0x00000000, 0x00000000, 0x00000000, 0x00000000, 0x00000000, 0x00000006, 0x00000000, 0x00000000⟩
def sysAbpCfg : RegRow := ⟨0x00000000, 0x00000000, 0x0000FF7F, 0x00000000, 0x00000000, 0x00000000, 0x00000000, 0x00000000⟩
def sysClaimErr : RegRow := ⟨0x00000000, 0x00000000, 0x00000000, 0x00000000, 0x00000000, 0x00000001, 0x00000000, 0x00000000⟩
def sysClaimErrCnt : RegRow := ⟨0x00000000, 0x00000000, 0x00000000, 0x00000000, 0x00000000, 0x00000000, 0x00000000, 0xFFFFFFFF⟩
def sysGpioCfg : RegRow := ⟨0x00000010, 0x0000FF3F, 0x00000000, 0x00000000, 0x00000000, 0x00000000, 0x00000000, 0x00000000⟩
def sysGpioIn : RegRow := ⟨0x00000000, 0x00000000, 0x00000000, 0x00000000, 0x00000000, 0x00000000, 0x00000000, 0x00000000⟩
def sysIoStat : RegRow := ⟨0x00000000, 0x00000000, 0x00000000, 0x00000000, 0x00000000, 0x00000000, 0x00000000, 0x00000000⟩
def sysPdSet : RegRow := ⟨0x00000000, 0x00000000, 0x00000000, 0x00000000, 0x00000000, 0x00000000, 0xFFFFFFFF, 0x00000000⟩
def sysPdClr : RegRow := ⟨0x00000000, 0x00000000, 0x00000000, 0x00000000, 0x00000000, 0x00000000, 0xFFFFFFFF, 0x00000000⟩
def sysPdStat : RegRow := ⟨0x00000000, 0x00000000, 0x00000000, 0x00000000, 0x00000000, 0x00000000, 0x00000000, 0x00000000⟩
def sysPdErr : RegRow := ⟨0x00000000, 0x00000000, 0x00000000, 0x00000000, 0x00000000, 0x00000001, 0x00000000, 0x00000000⟩
def sysRstCause : RegRow := ⟨0x00000001, 0x00000000, 0x00000000, 0x00000000, 0x00000000, 0x0000007F, 0x00000000, 0x00000000⟩
def sysRstCtl : RegRow := ⟨0x00000000, 0x00000000, 0x00000000, 0x00000000, 0x00000000, 0x00000000, 0x00000001, 0x00000000⟩
def sysStrap : RegRow := ⟨0x00000000, 0x00000000, 0x00000000, 0x00000000, 0x00000000, 0x00000000, 0x00000000, 0x00000000⟩
def sysBootStat : RegRow := ⟨0x00000000, 0x00000000, 0x00000000, 0x00000000, 0x00000000, 0x00000000, 0x00000000, 0x00000000⟩
def tsqStat : RegRow := ⟨0x00000000, 0x00000000, 0x00000000, 0x00000000, 0x00000000, 0x00000000, 0x00000000, 0x00000000⟩
def tsqUfAddr : RegRow := ⟨0x00000000, 0x00000000, 0x00000000, 0x00000000, 0x00000000, 0x00000001, 0x00000000, 0x00000000⟩
def tsqPxCfg : RegRow := ⟨0x00000002, 0x00000000, 0xFFFF000F, 0x00000000, 0x00000000, 0x00000000, 0x00000000, 0x00000000⟩
def tsqPxCount : RegRow := ⟨0x00000000, 0x00000000, 0x0000FFFF, 0x00000000, 0x00000000, 0x00000000, 0x00000000, 0x00000000⟩
def tsqPxStep : RegRow := ⟨0x00000000, 0x00000000, 0x00FFFFFF, 0x00000000, 0x00000000, 0x00000000, 0x00000000, 0x00000000⟩
def tsqSmp : RegRow := ⟨0x00000000, 0x00000000, 0x00000000, 0x03FF03FF, 0x00000000, 0x00000000, 0x00000000, 0x00000000⟩
def tsqUcode : RegRow := ⟨0x00000000, 0x00000000, 0xFFFFFFFF, 0x00000000, 0x00000000, 0x00000000, 0x00000000, 0x00000000⟩
def lpCfg : RegRow := ⟨0x00004000, 0x00000001, 0x00007FFE, 0x00000000, 0x00000000, 0x00000000, 0x00000000, 0x00000000⟩
def lpOuts : RegRow := ⟨0x00000000, 0x00000000, 0x00FFFFFF, 0x00000000, 0x00000000, 0x00000000, 0x00000000, 0x00000000⟩
def lpVin : RegRow := ⟨0x00000000, 0x00000000, 0x0000FFFF, 0x00000000, 0x00000000, 0x00000000, 0x00000000, 0x00000000⟩
def lpIdle : RegRow := ⟨0x00000000, 0x00000000, 0x00FFFFFF, 0x00000000, 0x00000000, 0x00000000, 0x00000000, 0x00000000⟩
def lpPitch : RegRow := ⟨0x00010000, 0x00000000, 0x00000000, 0xFFFFFFFF, 0x00000000, 0x00000000, 0x00000000, 0x00000000⟩
def lpNextLo : RegRow := ⟨0x00000000, 0x00000000, 0xFFFFFFFF, 0x00000000, 0x00000000, 0x00000000, 0x00000000, 0x00000000⟩
def lpNextHi : RegRow := ⟨0x00000000, 0x00000000, 0xFFFFFFFF, 0x00000000, 0x00000000, 0x00000000, 0x00000000, 0x00000000⟩
def lpTrigSel : RegRow := ⟨0x00000000, 0x800000FF, 0x00000000, 0x00000000, 0x00000000, 0x00000000, 0x00000000, 0x00000000⟩
def lpTmo : RegRow := ⟨0x00000000, 0x00000000, 0x00000000, 0x0000FFFF, 0x00000000, 0x00000000, 0x00000000, 0x00000000⟩
def lpStale : RegRow := ⟨0x00000000, 0x00000000, 0x00000000, 0x0000FFFF, 0x00000000, 0x00000000, 0x00000000, 0x00000000⟩
def lpFlush : RegRow := ⟨0x03E803E8, 0xFFFFFFFF, 0x00000000, 0x00000000, 0x00000000, 0x00000000, 0x00000000, 0x00000000⟩
def lpPhCfg : RegRow := ⟨0x00000000, 0x00000000, 0x007F0000, 0x00000FFF, 0x00000000, 0x00000000, 0x00000000, 0x00000000⟩
def lpPhWin : RegRow := ⟨0x00000000, 0x00000000, 0x00000000, 0xFFFFFFFF, 0x00000000, 0x00000000, 0x00000000, 0x00000000⟩
def lpStat : RegRow := ⟨0x00000000, 0x00000000, 0x00000000, 0x00000000, 0x00000000, 0x000000FC, 0x00000000, 0x00000000⟩
def lpLineCnt : RegRow := ⟨0x00000000, 0x00000000, 0x00000000, 0x00000000, 0x00000000, 0x00000000, 0x00000000, 0x00000000⟩
def lpOvrCnt : RegRow := ⟨0x00000000, 0x00000000, 0x00000000, 0x00000000, 0x00000000, 0x00000000, 0x00000000, 0xFFFFFFFF⟩
def lpStaleCnt : RegRow := ⟨0x00000000, 0x00000000, 0x00000000, 0x00000000, 0x00000000, 0x00000000, 0x00000000, 0xFFFFFFFF⟩
def lpTmoCnt : RegRow := ⟨0x00000000, 0x00000000, 0x00000000, 0x00000000, 0x00000000, 0x00000000, 0x00000000, 0xFFFFFFFF⟩
def lpFlushCnt : RegRow := ⟨0x00000000, 0x00000000, 0x00000000, 0x00000000, 0x00000000, 0x00000000, 0x00000000, 0xFFFFFFFF⟩
def lpLastLo : RegRow := ⟨0x00000000, 0x00000000, 0x00000000, 0x00000000, 0x00000000, 0x00000000, 0x00000000, 0x00000000⟩
def lpLastHi : RegRow := ⟨0x00000000, 0x00000000, 0x00000000, 0x00000000, 0x00000000, 0x00000000, 0x00000000, 0x00000000⟩
def vafCtl : RegRow := ⟨0x00000001, 0x00000001, 0x00000000, 0x00000000, 0x00000000, 0x00000000, 0x00000000, 0x00000000⟩
def vafStat : RegRow := ⟨0x00000000, 0x00000000, 0x00000000, 0x00000000, 0x00000000, 0x000000F0, 0x00000000, 0x00000000⟩
def vafBgcal : RegRow := ⟨0x003200F4, 0x03FF03FF, 0x00000000, 0x00000000, 0x00000000, 0x00000000, 0x00000000, 0x00000000⟩
def vafBgtol : RegRow := ⟨0x00002010, 0x0000FFFF, 0x00000000, 0x00000000, 0x00000000, 0x00000000, 0x00000000, 0x00000000⟩
def vafFgcal : RegRow := ⟨0x000000F0, 0x000000F0, 0x00000000, 0x00000000, 0x00000000, 0x00000200, 0x00000001, 0x00000000⟩
def vafTdac : RegRow := ⟨0x00000000, 0x000003FF, 0x00000000, 0x00F10000, 0x00000000, 0x00000000, 0x00000000, 0x00000000⟩
def vafXbar : RegRow := ⟨0x00000000, 0x00000000, 0xFFFFFFFF, 0x00000000, 0x00000000, 0x00000000, 0x00000000, 0x00000000⟩
def vafVfm : RegRow := ⟨0x0002FFFF, 0x00FFFFFF, 0x00000000, 0x00000000, 0x00000000, 0x00000000, 0x00000000, 0x00000000⟩
def vafVfStuck : RegRow := ⟨0x00000000, 0x00000000, 0x00000000, 0x00000000, 0x00000000, 0x0000FFFF, 0x00000000, 0x00000000⟩
def vafVfRail : RegRow := ⟨0x00000000, 0x00000000, 0x00000000, 0x00000000, 0x00000000, 0x0000FFFF, 0x00000000, 0x00000000⟩
def vafUnmapCnt : RegRow := ⟨0x00000000, 0x00000000, 0x00000000, 0x00000000, 0x00000000, 0x00000000, 0x00000000, 0xFFFFFFFF⟩
def vafVinCfg : RegRow := ⟨0x00000000, 0x00000000, 0x000007FF, 0x00000000, 0x00000000, 0x00000000, 0x00000000, 0x00000000⟩
def vafVinLvl : RegRow := ⟨0x00000008, 0x00000000, 0x00000000, 0x01FF007F, 0x00000000, 0x00000000, 0x00000000, 0x00000000⟩
def vafVinTrim : RegRow := ⟨0x00000000, 0x00000000, 0x00FF00FF, 0x00000000, 0x00000000, 0x00000000, 0x00000000, 0x00000000⟩
def vafVinMinmax : RegRow := ⟨0x00000000, 0x00000000, 0x00000000, 0x00000000, 0x00000000, 0x00000000, 0x00000000, 0x00000000⟩
def vafPmapLo : RegRow := ⟨0x00000000, 0x00000000, 0xBFBFBFBF, 0x00000000, 0x00000000, 0x00000000, 0x00000000, 0x00000000⟩
def vafPmapHi : RegRow := ⟨0x00000000, 0x00000000, 0x0000BFBF, 0x00000000, 0x00000000, 0x00000000, 0x00000000, 0x00000000⟩
def vafSegCfg : RegRow := ⟨0x00000000, 0x00000000, 0x000000FF, 0x00000000, 0x00000000, 0x00000000, 0x00000000, 0x00000000⟩
def vafSegX : RegRow := ⟨0x00000000, 0x00000000, 0xFFFFFFFF, 0x00000000, 0x00000000, 0x00000000, 0x00000000, 0x00000000⟩
def bankStat : RegRow := ⟨0x00000FF0, 0x00000000, 0x00000000, 0x00000000, 0x00000000, 0x00000000, 0x00000000, 0x00000000⟩
def bankSpur : RegRow := ⟨0x02BC0000, 0x0FFF0000, 0x00000000, 0x00000000, 0x00000000, 0x00000000, 0x00000000, 0x00000000⟩
def bankCal : RegRow := ⟨0x00000000, 0x00000000, 0x000101FF, 0x00000000, 0x00000000, 0x00000000, 0x00000000, 0x00000000⟩
def bankSwapCnt : RegRow := ⟨0x00000000, 0x00000000, 0x00000000, 0x00000000, 0x00000000, 0x00000000, 0x00000000, 0xFFFFFFFF⟩
def bankAbortCnt : RegRow := ⟨0x00000000, 0x00000000, 0x00000000, 0x00000000, 0x00000000, 0x00000000, 0x00000000, 0xFFFFFFFF⟩
def bankMissCnt : RegRow := ⟨0x00000000, 0x00000000, 0x00000000, 0x00000000, 0x00000000, 0x00000000, 0x00000000, 0xFFFFFFFF⟩
def bankUnverCnt : RegRow := ⟨0x00000000, 0x00000000, 0x00000000, 0x00000000, 0x00000000, 0x00000000, 0x00000000, 0xFFFFFFFF⟩
def bankSlOfs : RegRow := ⟨0x00000000, 0x00000000, 0x000003FF, 0x00000000, 0x00000000, 0x00000000, 0x00000000, 0x00000000⟩
def bankSlGsk : RegRow := ⟨0x00000000, 0x00000000, 0x00FFFFFF, 0x00000000, 0x00000000, 0x00000000, 0x00000000, 0x00000000⟩
def shdChk0 : RegRow := ⟨0x01900200, 0x0FFF0FFF, 0x00000000, 0x00000000, 0x00000000, 0x00000000, 0x00000000, 0x00000000⟩
def shdChk1 : RegRow := ⟨0x00400C19, 0xFFFFFFFF, 0x00000000, 0x00000000, 0x00000000, 0x00000000, 0x00000000, 0x00000000⟩
def shdChk2 : RegRow := ⟨0x00400200, 0x0FFF0FFF, 0x00000000, 0x00000000, 0x00000000, 0x00000000, 0x00000000, 0x00000000⟩
def shdChk3 : RegRow := ⟨0x00000010, 0x0000FFFF, 0x00000000, 0x00000000, 0x00000000, 0x00000000, 0x00000000, 0x00000000⟩
def shdCwin : RegRow := ⟨0x00000000, 0x0000001F, 0x00000000, 0x00000000, 0x00000000, 0x00000000, 0x00000000, 0x00000000⟩
def shdStat : RegRow := ⟨0x00000000, 0x00000000, 0x00000000, 0x00000000, 0x00000000, 0x00000000, 0x00000000, 0x00000000⟩
def shdRecCtl : RegRow := ⟨0x00000002, 0x00000002, 0x00000000, 0x00000000, 0x00000000, 0x00000000, 0x00000001, 0x00000000⟩
def shdRecStat : RegRow := ⟨0x00000000, 0x00000000, 0x00000000, 0x00000000, 0x00000000, 0x00000010, 0x00000000, 0x00000000⟩
def shdRecSeq : RegRow := ⟨0x00000000, 0x00000000, 0x00000000, 0x00000000, 0x00000000, 0x00000000, 0x00000000, 0x00000000⟩
def shdDropCnt : RegRow := ⟨0x00000000, 0x00000000, 0x00000000, 0x00000000, 0x00000000, 0x00000000, 0x00000000, 0xFFFFFFFF⟩
def grpCtl : RegRow := ⟨0x00000E00, 0x00003E01, 0x000001FE, 0x00000000, 0x00000000, 0x00000000, 0x00004000, 0x00000000⟩
def grpTsrc : RegRow := ⟨0x01900000, 0xFFFF009F, 0x00000000, 0x00000000, 0x00000000, 0x00000000, 0x00000000, 0x00000000⟩
def grpStripSel : RegRow := ⟨0x00000000, 0x800000FF, 0x00000000, 0x00000000, 0x00000000, 0x00000000, 0x00000000, 0x00000000⟩
def grpZone : RegRow := ⟨0x10200814, 0x00000000, 0x00000000, 0x00000000, 0xFFFFFFFF, 0x00000000, 0x00000000, 0x00000000⟩
def grpCalz : RegRow := ⟨0x01E02008, 0x0000FF00, 0x00000000, 0x00000000, 0xFFFF00FF, 0x00000000, 0x00000000, 0x00000000⟩
def grpFidx : RegRow := ⟨0xFFFF0000, 0x00000000, 0x00000000, 0x00000000, 0xFFFFFFFF, 0x00000000, 0x00000000, 0x00000000⟩
def grpSeam : RegRow := ⟨0x00400000, 0xFFFF0000, 0x00000000, 0x000000FF, 0x00000000, 0x00000000, 0x00000000, 0x00000000⟩
def grpSett : RegRow := ⟨0x00000000, 0xFFFFFFFF, 0x00000000, 0x00000000, 0x00000000, 0x00000000, 0x00000000, 0x00000000⟩
def grpSetv : RegRow := ⟨0x00000000, 0xFFFF0007, 0x00000000, 0x00000000, 0x00000000, 0x00000000, 0x00000000, 0x00000000⟩
def grpTemp : RegRow := ⟨0x00000000, 0x00000000, 0x00000000, 0x00000000, 0x00000000, 0x00000000, 0x00000000, 0x00000000⟩
def grpStat : RegRow := ⟨0x00000000, 0x00000000, 0x00000000, 0x00000000, 0x00000000, 0x00000EE0, 0x00000000, 0x00000000⟩
def grpQ0 : RegRow := ⟨0x00000000, 0x00000000, 0x00000000, 0x00000000, 0x00000000, 0x00000000, 0x00000000, 0x00000000⟩
def grpQ1 : RegRow := ⟨0x00000000, 0x00000000, 0x00000000, 0x00000000, 0x00000000, 0x00000000, 0x00000000, 0x00000000⟩
def grpQ2 : RegRow := ⟨0x00000000, 0x00000000, 0x00000000, 0x00000000, 0x00000000, 0x00000000, 0x00000000, 0x00000000⟩
def grpRejCnt : RegRow := ⟨0x00000000, 0x00000000, 0x00000000, 0x00000000, 0x00000000, 0x00000000, 0x00000000, 0xFFFFFFFF⟩
def plCfg : RegRow := ⟨0x00000000, 0x00000000, 0xFFFF0007, 0x00000000, 0x00000018, 0x00000000, 0x00000000, 0x00000000⟩
def plBase : RegRow := ⟨0x00000000, 0x00000000, 0x0007FFFF, 0x00000000, 0x00000000, 0x00000000, 0x00000000, 0x00000000⟩
def plAlign : RegRow := ⟨0x00000000, 0x00000000, 0x0000FC00, 0x00000000, 0x000003FF, 0x00000000, 0x00000000, 0x00000000⟩
def plWhite : RegRow := ⟨0x0000EA60, 0x0000FFFF, 0x00000000, 0x00000000, 0x00000000, 0x00000000, 0x00000000, 0x00000000⟩
def shdTrim0 : RegRow := ⟨0x00000000, 0x00000000, 0x00000000, 0x00000000, 0xFFFFFFFF, 0x00000000, 0x00000000, 0x00000000⟩
def shdTrim1 : RegRow := ⟨0x00000000, 0x00000000, 0x00000000, 0x00000000, 0xFFFFFFFF, 0x00000000, 0x00000000, 0x00000000⟩
def geoEvmask : RegRow := ⟨0x0000000F, 0x0000000F, 0x00000000, 0x00000000, 0x00000000, 0x00000000, 0x00000000, 0x00000000⟩
def geoStat : RegRow := ⟨0x00000000, 0x00000000, 0x00000000, 0x00000000, 0x00000000, 0x00000000, 0x00000000, 0x00000000⟩
def geoUnrecCnt : RegRow := ⟨0x00000000, 0x00000000, 0x00000000, 0x00000000, 0x00000000, 0x00000000, 0x00000000, 0xFFFFFFFF⟩
def uCfg : RegRow := ⟨0x00000000, 0x00000001, 0x00007FFE, 0x00000000, 0x00000000, 0x00000000, 0x00000000, 0x00000000⟩
def uThr : RegRow := ⟨0x40002000, 0x00000000, 0x00000000, 0x00000000, 0xFFFFFFFF, 0x00000000, 0x00000000, 0x00000000⟩
def uRun : RegRow := ⟨0x0A040408, 0x00000000, 0x00000000, 0x00000000, 0xFFFFFFFF, 0x00000000, 0x00000000, 0x00000000⟩
def uMinpix : RegRow := ⟨0x00100020, 0x00000000, 0x00000000, 0x00000000, 0xFFFFFFFF, 0x00000000, 0x00000000, 0x00000000⟩
def uCol : RegRow := ⟨0x00080000, 0x00000000, 0x00FFFFFF, 0x00000000, 0x00000000, 0x00000000, 0x00000000, 0x00000000⟩
def uNcol : RegRow := ⟨0x00000000, 0x00000000, 0xFFFF07FF, 0x00000000, 0x00000000, 0x00000000, 0x00000000, 0x00000000⟩
def uFit : RegRow := ⟨0x11940020, 0x00000000, 0x00000000, 0x00000000, 0xFFFF00FF, 0x00000000, 0x00000000, 0x00000000⟩
def uAspect : RegRow := ⟨0x00001000, 0x00000000, 0x00000000, 0x00000000, 0x0000FFFF, 0x00000000, 0x00000000, 0x00000000⟩
def uWin : RegRow := ⟨0xFFFFFF00, 0x00000000, 0x00000000, 0x00000000, 0xFFFFFFFF, 0x00000000, 0x00000000, 0x00000000⟩
def uOpenSel : RegRow := ⟨0x00000000, 0x800000FF, 0x00000000, 0x00000000, 0x00000000, 0x00000000, 0x00000000, 0x00000000⟩
def uCloseSel : RegRow := ⟨0x00000000, 0x800000FF, 0x00000000, 0x00000000, 0x00000000, 0x00000000, 0x00000000, 0x00000000⟩
def uStat : RegRow := ⟨0x00000000, 0x00000000, 0x00000000, 0x00000000, 0x00000000, 0x00000038, 0x00000000, 0x00000000⟩
def uY : RegRow := ⟨0x00000000, 0x00000000, 0x00000000, 0x00000000, 0x00000000, 0x00000000, 0x00000000, 0x00000000⟩
def uFalseCnt : RegRow := ⟨0x00000000, 0x00000000, 0x00000000, 0x00000000, 0x00000000, 0x00000000, 0x00000000, 0xFFFFFFFF⟩
def trkCfg : RegRow := ⟨0x07D00000, 0x00000001, 0x07FF01FE, 0x00000000, 0x00000000, 0x00000000, 0x00000000, 0x00000000⟩
def trkSc : RegRow := ⟨0x00000000, 0x00000000, 0x00000FFF, 0x00000000, 0x00000000, 0x00000000, 0x00000000, 0x00000000⟩
def trkJob : RegRow := ⟨0x00000000, 0x00000000, 0x00000000, 0x00000000, 0xFFFFFFFF, 0x00000000, 0x00000000, 0x00000000⟩
def trkHold : RegRow := ⟨0x000003E8, 0x0000FFFF, 0x00000000, 0x00000000, 0x00000000, 0x00000000, 0x00000000, 0x00000000⟩
def trkClose : RegRow := ⟨0x00000000, 0x00000000, 0x00000000, 0x00000000, 0x00000000, 0x00000000, 0x0000FF01, 0x00000000⟩
def trkStat : RegRow := ⟨0x00000000, 0x00000000, 0x00000000, 0x00000000, 0x00000000, 0x0000001C, 0x00000000, 0x00000000⟩
def trkSeq : RegRow := ⟨0x00000000, 0x00000000, 0x00000000, 0x00000000, 0x00000000, 0x00000000, 0x00000000, 0x00000000⟩
def trkLateCnt : RegRow := ⟨0x00000000, 0x00000000, 0x00000000, 0x00000000, 0x00000000, 0x00000000, 0x00000000, 0xFFFFFFFF⟩
def gaitStat : RegRow := ⟨0x00000000, 0x00000000, 0x00000000, 0x00000000, 0x00000000, 0x00000000, 0x00000000, 0x00000000⟩
def gaitPsIn : RegRow := ⟨0x00000000, 0x00000000, 0x00000000, 0x00000000, 0x00000000, 0x00000000, 0x00000000, 0x00000000⟩
def gaitPsPol : RegRow := ⟨0x00000000, 0x0000FFFF, 0x00000000, 0x00000000, 0x00000000, 0x00000000, 0x00000000, 0x00000000⟩
def gaitPsFilt : RegRow := ⟨0x00000014, 0x000000FF, 0x00000000, 0x00000000, 0x00000000, 0x00000000, 0x00000000, 0x00000000⟩
def gaitPse : RegRow := ⟨0x00000000, 0x8000003F, 0x00000000, 0x00000000, 0x00000000, 0x00000000, 0x00000000, 0x00000000⟩
def axisCtl : RegRow := ⟨0x00282800, 0x00000000, 0x00FFFFFF, 0x00000000, 0x00000000, 0x00000000, 0x00000000, 0x00000000⟩
def axisRatio : RegRow := ⟨0x00010000, 0x00000000, 0xFFFFFFFF, 0x00000000, 0x00000000, 0x00000000, 0x00000000, 0x00000000⟩
def axisPosLo : RegRow := ⟨0x00000000, 0x00000000, 0x00000000, 0x00000000, 0x00000000, 0x00000000, 0x00000000, 0x00000000⟩
def axisPosHi : RegRow := ⟨0x00000000, 0x00000000, 0x00000000, 0x00000000, 0x00000000, 0x00000000, 0x00000000, 0x00000000⟩
def axisStat : RegRow := ⟨0x00000010, 0x00000000, 0x00000000, 0x00000000, 0x00000000, 0x00000008, 0x00000000, 0x00000000⟩
def axisRate : RegRow := ⟨0x00000000, 0x00000000, 0x00000000, 0x00000000, 0x00000000, 0x00000000, 0x00000000, 0x00000000⟩
def encCfg : RegRow := ⟨0x00000400, 0x00000000, 0x0000FF07, 0x00000000, 0x00000000, 0x00000000, 0x00000000, 0x00000000⟩
def encPosLo : RegRow := ⟨0x00000000, 0x00000000, 0x00000000, 0x00000000, 0x00000000, 0x00000000, 0x00000000, 0x00000000⟩
def encPosHi : RegRow := ⟨0x00000000, 0x00000000, 0x00000000, 0x00000000, 0x00000000, 0x00000000, 0x00000000, 0x00000000⟩
def encZposLo : RegRow := ⟨0x00000000, 0x00000000, 0x00000000, 0x00000000, 0x00000000, 0x00000000, 0x00000000, 0x00000000⟩
def encZposHi : RegRow := ⟨0x00000000, 0x00000000, 0x00000000, 0x00000000, 0x00000000, 0x00000000, 0x00000000, 0x00000000⟩
def encStat : RegRow := ⟨0x00000000, 0x00000000, 0x00000000, 0x00000000, 0x00000000, 0x00000007, 0x00000000, 0x00000000⟩
def encErrCnt : RegRow := ⟨0x00000000, 0x00000000, 0x00000000, 0x00000000, 0x00000000, 0x00000000, 0x00000000, 0xFFFFFFFF⟩
def pathCfg : RegRow := ⟨0x00060000, 0x00040001, 0x0003FFFE, 0x00000000, 0x00000000, 0x00000000, 0x00000000, 0x00000000⟩
def pathLinks : RegRow := ⟨0x00000000, 0x00000000, 0x00000FFF, 0x00000000, 0x00000000, 0x00000000, 0x00000000, 0x00000000⟩
def pathPolicy : RegRow := ⟨0x00C80071, 0xFFFF0077, 0x00000000, 0x00000000, 0x00000000, 0x00000000, 0x00000000, 0x00000000⟩
def pathOccthr : RegRow := ⟨0x02000380, 0x03FF03FF, 0x00000000, 0x00000000, 0x00000000, 0x00000000, 0x00000000, 0x00000000⟩
def pathRamp : RegRow := ⟨0x03E803E8, 0xFFFFFFFF, 0x00000000, 0x00000000, 0x00000000, 0x00000000, 0x00000000, 0x00000000⟩
def pathGuard : RegRow := ⟨0x4E200FA0, 0xFFFFFFFF, 0x00000000, 0x00000000, 0x00000000, 0x00000000, 0x00000000, 0x00000000⟩
def pathSeam : RegRow := ⟨0x20012830, 0x00070000, 0x00007FFF, 0x00000000, 0xFF000000, 0x00000000, 0x00000000, 0x00000000⟩
def pathSeam2 : RegRow := ⟨0x07D00000, 0xFFFF0000, 0x0000FFFF, 0x00000000, 0x00000000, 0x00000000, 0x00000000, 0x00000000⟩
def pathFeed : RegRow := ⟨0x00000000, 0x00000000, 0x000001FF, 0x00000000, 0x00000000, 0x00000000, 0x00000000, 0x00000000⟩
def pathHlossSel : RegRow := ⟨0x00000000, 0x800000FF, 0x00000000, 0x00000000, 0x00000000, 0x00000000, 0x00000000, 0x00000000⟩
def pathCmd : RegRow := ⟨0x00000000, 0x00000000, 0x00000000, 0x00000000, 0x00000000, 0x00000000, 0x0000070F, 0x00000000⟩
def pathStat : RegRow := ⟨0x00000000, 0x00000000, 0x00000000, 0x00000000, 0x00000000, 0x00006000, 0x00000000, 0x00000000⟩
def pathOcc : RegRow := ⟨0x00000000, 0x00000000, 0x00000000, 0x00000000, 0x00000000, 0x00000000, 0x00000000, 0x00000000⟩
def pathLastLo : RegRow := ⟨0x00000000, 0x00000000, 0x00000000, 0x00000000, 0x00000000, 0x00000000, 0x00000000, 0x00000000⟩
def pathLastHi : RegRow := ⟨0x00000000, 0x00000000, 0x00000000, 0x00000000, 0x00000000, 0x00000000, 0x00000000, 0x00000000⟩
def pathRev : RegRow := ⟨0x00000000, 0x00FFFFFF, 0x00000000, 0x00000000, 0x00000000, 0x00000000, 0x00000000, 0x00000000⟩
def pathGspd : RegRow := ⟨0x00000000, 0xFFFFFFFF, 0x00000000, 0x00000000, 0x00000000, 0x00000000, 0x00000000, 0x00000000⟩
def pathGthr : RegRow := ⟨0x01000300, 0x03FF03FF, 0x00000000, 0x00000000, 0x00000000, 0x00000000, 0x00000000, 0x00000000⟩
def pathChkA : RegRow := ⟨0x00000000, 0x00000000, 0xFFFFFF8F, 0x00000000, 0x00000000, 0x00000000, 0x00000000, 0x00000000⟩
def pathChkB : RegRow := ⟨0x00000000, 0x00000000, 0x00FFFFFF, 0x00000000, 0x00000000, 0x00000000, 0x00000000, 0x00000000⟩
def pathGaitCnt : RegRow := ⟨0x00000000, 0x00000000, 0x00000000, 0x00000000, 0x00000000, 0x00000000, 0x00000000, 0xFFFFFFFF⟩
def pathSeamCnt : RegRow := ⟨0x00000000, 0x00000000, 0x00000000, 0x00000000, 0x00000000, 0x00000000, 0x00000000, 0xFFFFFFFF⟩
def pathUnverCnt : RegRow := ⟨0x00000000, 0x00000000, 0x00000000, 0x00000000, 0x00000000, 0x00000000, 0x00000000, 0xFFFFFFFF⟩
def pathJamCnt : RegRow := ⟨0x00000000, 0x00000000, 0x00000000, 0x00000000, 0x00000000, 0x00000000, 0x00000000, 0xFFFFFFFF⟩
def seamCfg : RegRow := ⟨0x00100000, 0x00000000, 0x00FFFFFF, 0x00000000, 0x00000000, 0x00000000, 0x00000000, 0x00000000⟩
def seamLim : RegRow := ⟨0x00400040, 0x00FFFFFF, 0x00000000, 0x00000000, 0x00000000, 0x00000000, 0x00000000, 0x00000000⟩
def seamRes : RegRow := ⟨0x00000000, 0x00000000, 0x00000000, 0x00000000, 0x00000000, 0x00000000, 0x00000000, 0x00000000⟩
def seamInfo : RegRow := ⟨0x00000000, 0x00000000, 0x00000000, 0x00000000, 0x00000000, 0x00000000, 0x00000000, 0x00000000⟩
def auxStat : RegRow := ⟨0x00000000, 0x00000000, 0x00000000, 0x00000000, 0x00000000, 0x00001C00, 0x00000000, 0x00000000⟩
def auxRegCtl : RegRow := ⟨0x00000000, 0x00000001, 0x0000007E, 0x00000000, 0x00000000, 0x00000000, 0x00000000, 0x00000000⟩
def auxRegTrigSel : RegRow := ⟨0x00000000, 0x800000FF, 0x00000000, 0x00000000, 0x00000000, 0x00000000, 0x00000000, 0x00000000⟩
def auxInjTrigSel : RegRow := ⟨0x00000000, 0x800000FF, 0x00000000, 0x00000000, 0x00000000, 0x00000000, 0x00000000, 0x00000000⟩
def auxInjCtl : RegRow := ⟨0x00000000, 0x00000001, 0x0000000E, 0x00000000, 0x00000000, 0x00000000, 0x00000000, 0x00000000⟩
def auxOw : RegRow := ⟨0x0000080A, 0x0000FFFF, 0x00000000, 0x00000000, 0x00000000, 0x00000000, 0x00000000, 0x00000000⟩
def auxTmo : RegRow := ⟨0x00000064, 0x0000FFFF, 0x00000000, 0x00000000, 0x00000000, 0x00000000, 0x00000000, 0x00000000⟩
def auxCjFix : RegRow := ⟨0x00000190, 0x0000FFFF, 0x00000000, 0x00000000, 0x00000000, 0x00000000, 0x00000000, 0x00000000⟩
def auxOpenReg : RegRow := ⟨0x00000000, 0x00000000, 0x00000000, 0x00000000, 0x00000000, 0xFFFFFFFF, 0x00000000, 0x00000000⟩
def auxOpenInj : RegRow := ⟨0x00000000, 0x00000000, 0x00000000, 0x00000000, 0x00000000, 0x000000FF, 0x00000000, 0x00000000⟩
def auxClampStat : RegRow := ⟨0x00000000, 0x00000000, 0x00000000, 0x00000000, 0x00000000, 0x00FFFFFF, 0x00000000, 0x00000000⟩
def auxExcStat : RegRow := ⟨0x00000000, 0x00000000, 0x00000000, 0x00000000, 0x00000000, 0x0000000F, 0x00000000, 0x00000000⟩
def auxOvrCnt : RegRow := ⟨0x00000000, 0x00000000, 0x00000000, 0x00000000, 0x00000000, 0x00000000, 0x00000000, 0xFFFFFFFF⟩
def auxSkipCnt : RegRow := ⟨0x00000000, 0x00000000, 0x00000000, 0x00000000, 0x00000000, 0x00000000, 0x00000000, 0xFFFFFFFF⟩
def auxTmoCnt : RegRow := ⟨0x00000000, 0x00000000, 0x00000000, 0x00000000, 0x00000000, 0x00000000, 0x00000000, 0xFFFFFFFF⟩
def auxCalCtl : RegRow := ⟨0x00000000, 0x00000000, 0x00000000, 0x00000000, 0x00000000, 0x00000200, 0x00000001, 0x00000000⟩
def auxExcCfg : RegRow := ⟨0x00000004, 0x00000000, 0x0000FFF7, 0x00000000, 0x00000000, 0x00000000, 0x00000000, 0x00000000⟩
def auxCalOfs : RegRow := ⟨0x00000000, 0x00000000, 0x0000FFFF, 0x00000000, 0x00000000, 0x00000000, 0x00000000, 0x00000000⟩
def auxCalGain : RegRow := ⟨0x00000000, 0x00000000, 0x0000FFFF, 0x00000000, 0x00000000, 0x00000000, 0x00000000, 0x00000000⟩
def auxCalStat : RegRow := ⟨0x00000000, 0x00000000, 0x00000001, 0x00000000, 0x00000000, 0x00000000, 0x00000000, 0x00000000⟩
def auxUtN : RegRow := ⟨0x00000000, 0x00000000, 0x0000007F, 0x00000000, 0x00000000, 0x00000000, 0x00000000, 0x00000000⟩
def auxRegCfg : RegRow := ⟨0x00098318, 0x3FFFFFFF, 0x00000000, 0x00000000, 0x00000000, 0x00000000, 0x00000000, 0x00000000⟩
def auxRegTime : RegRow := ⟨0x0C800320, 0xFFFFFFFF, 0x00000000, 0x00000000, 0x00000000, 0x00000000, 0x00000000, 0x00000000⟩
def auxRegLin : RegRow := ⟨0x018C0000, 0x01FFFFFF, 0x00000000, 0x00000000, 0x00000000, 0x00000000, 0x00000000, 0x00000000⟩
def auxRegKref : RegRow := ⟨0x00000000, 0xFFFFFFFF, 0x00000000, 0x00000000, 0x00000000, 0x00000000, 0x00000000, 0x00000000⟩
def auxRegSlotValue : RegRow := ⟨0x00000000, 0x00000000, 0x00000000, 0x00000000, 0x00000000, 0x00000000, 0x00000000, 0x00000000⟩
def auxRegSlotStatus : RegRow := ⟨0x00000000, 0x00000000, 0x00000000, 0x00000000, 0x00000000, 0x00000000, 0x00000000, 0x00000000⟩
def auxRegSlotTsLo : RegRow := ⟨0x00000000, 0x00000000, 0x00000000, 0x00000000, 0x00000000, 0x00000000, 0x00000000, 0x00000000⟩
def auxRegSlotTsHi : RegRow := ⟨0x00000000, 0x00000000, 0x00000000, 0x00000000, 0x00000000, 0x00000000, 0x00000000, 0x00000000⟩
def auxUtX : RegRow := ⟨0x00000000, 0x00000000, 0xFFFFFFFF, 0x00000000, 0x00000000, 0x00000000, 0x00000000, 0x00000000⟩
def auxUtY : RegRow := ⟨0x00000000, 0x00000000, 0xFFFFFFFF, 0x00000000, 0x00000000, 0x00000000, 0x00000000, 0x00000000⟩
def wfCfg : RegRow := ⟨0x00C80010, 0x00000001, 0xFFFF01FE, 0x00000000, 0x00000000, 0x00000000, 0x00000000, 0x00000000⟩
def wfPitch : RegRow := ⟨0x00000000, 0x00000000, 0xFFFFFFFF, 0x00000000, 0x00000000, 0x00000000, 0x00000000, 0x00000000⟩
def wfBaseLo : RegRow := ⟨0x00000000, 0x00000000, 0xFFFFFFFF, 0x00000000, 0x00000000, 0x00000000, 0x00000000, 0x00000000⟩
def wfBaseHi : RegRow := ⟨0x00000000, 0x00000000, 0x000000FF, 0x00000000, 0x00000000, 0x00000000, 0x00000000, 0x00000000⟩
def wfSize : RegRow := ⟨0x00000000, 0x00000000, 0x0003FFFF, 0x00000000, 0x00000000, 0x00000000, 0x00000000, 0x00000000⟩
def wfBlk : RegRow := ⟨0x000003E8, 0x00000000, 0x0000FFFF, 0x00000000, 0x00000000, 0x00000000, 0x00000000, 0x00000000⟩
def wfStartSel : RegRow := ⟨0x00000000, 0x800000FF, 0x00000000, 0x00000000, 0x00000000, 0x00000000, 0x00000000, 0x00000000⟩
def wfStopSel : RegRow := ⟨0x00000000, 0x800000FF, 0x00000000, 0x00000000, 0x00000000, 0x00000000, 0x00000000, 0x00000000⟩
def wfMax : RegRow := ⟨0x00000000, 0x00000000, 0xFFFFFFFF, 0x00000000, 0x00000000, 0x00000000, 0x00000000, 0x00000000⟩
def wfWr : RegRow := ⟨0x00000000, 0x00000000, 0x00000000, 0x00000000, 0x00000000, 0x00000000, 0x00000000, 0x00000000⟩
def wfRd : RegRow := ⟨0x00000000, 0xFFFFFFFF, 0x00000000, 0x00000000, 0x00000000, 0x00000000, 0x00000000, 0x00000000⟩
def wfStat : RegRow := ⟨0x00000000, 0x00000000, 0x00000000, 0x00000000, 0x00000000, 0x0000002C, 0x00000000, 0x00000000⟩
def wfPos0Lo : RegRow := ⟨0x00000000, 0x00000000, 0x00000000, 0x00000000, 0x00000000, 0x00000000, 0x00000000, 0x00000000⟩
def wfPos0Hi : RegRow := ⟨0x00000000, 0x00000000, 0x00000000, 0x00000000, 0x00000000, 0x00000000, 0x00000000, 0x00000000⟩
def wfMark : RegRow := ⟨0x00000000, 0x00000000, 0x00000000, 0x00000000, 0x00000000, 0x00000000, 0x00000000, 0x00000000⟩
def wfCaps : RegRow := ⟨0x00000000, 0x00000000, 0x00000000, 0x00000000, 0x00000000, 0x00000000, 0x00000000, 0xFFFFFFFF⟩
def tcxCtl : RegRow := ⟨0x0010FFFF, 0x00FFFFFF, 0x00000000, 0x00000000, 0x00000000, 0x00000000, 0x00000000, 0x00000000⟩
def tcxStat : RegRow := ⟨0x00000000, 0x00000000, 0x00000000, 0x00000000, 0x00000000, 0x00030000, 0x00000000, 0x00000000⟩
def tcxDerr : RegRow := ⟨0x00000000, 0x00000000, 0x00000000, 0x00000000, 0x00000000, 0x00000001, 0x00000000, 0x00000000⟩
def tcxDerrOfsLo : RegRow := ⟨0x00000000, 0x00000000, 0x00000000, 0x00000000, 0x00000000, 0x00000000, 0x00000000, 0x00000000⟩
def tcxDerrOfsHi : RegRow := ⟨0x00000000, 0x00000000, 0x00000000, 0x00000000, 0x00000000, 0x00000000, 0x00000000, 0x00000000⟩
def tcxSwitchCnt : RegRow := ⟨0x00000000, 0x00000000, 0x00000000, 0x00000000, 0x00000000, 0x00000000, 0x00000000, 0xFFFFFFFF⟩
def tcxMissCnt : RegRow := ⟨0x00000000, 0x00000000, 0x00000000, 0x00000000, 0x00000000, 0x00000000, 0x00000000, 0xFFFFFFFF⟩
def tcxClipCnt : RegRow := ⟨0x00000000, 0x00000000, 0x00000000, 0x00000000, 0x00000000, 0x00000000, 0x00000000, 0xFFFFFFFF⟩
def tcxEscCnt : RegRow := ⟨0x00000000, 0x00000000, 0x00000000, 0x00000000, 0x00000000, 0x00000000, 0x00000000, 0xFFFFFFFF⟩
def tcxLane : RegRow := ⟨0x00000000, 0x00000000, 0x00000000, 0x00000000, 0x00000000, 0x00000000, 0x00000000, 0x00000000⟩
def packMwin : RegRow := ⟨0x00000000, 0x00007F0F, 0x00000000, 0x00000000, 0x00000000, 0x00000000, 0x00000000, 0x00000000⟩
def packFault : RegRow := ⟨0x00000000, 0x00000000, 0x00000000, 0x00000000, 0x00000000, 0xFFFFFFFF, 0x00000000, 0x00000000⟩
def packTsem : RegRow := ⟨0x00000000, 0x0000FFFF, 0x00000000, 0x00000000, 0x00000000, 0x00010000, 0x00000000, 0x00000000⟩
def iwCfg : RegRow := ⟨0x00000000, 0x00000001, 0x00003FFE, 0x00000000, 0x00000000, 0x00000000, 0x00000000, 0x00000000⟩
def iwGeom : RegRow := ⟨0x00000000, 0x00000000, 0xFFFFFFFF, 0x00000000, 0x00000000, 0x00000000, 0x00000000, 0x00000000⟩
def iwRing : RegRow := ⟨0x00000000, 0x00000000, 0xFF07FFFF, 0x00000000, 0x00000000, 0x00000000, 0x00000000, 0x00000000⟩
def iwWr : RegRow := ⟨0x00000000, 0x00000000, 0x00000000, 0x00000000, 0x00000000, 0x00000000, 0x00000000, 0x00000000⟩
def iwRd : RegRow := ⟨0x00000000, 0x00000000, 0x00000000, 0x00000000, 0x00000000, 0x00000000, 0x00000000, 0x00000000⟩
def iwStat : RegRow := ⟨0x00000000, 0x00000000, 0x00000000, 0x00000000, 0x00000000, 0x00000001, 0x00000000, 0x00000000⟩
def iwDropCnt : RegRow := ⟨0x00000000, 0x00000000, 0x00000000, 0x00000000, 0x00000000, 0x00000000, 0x00000000, 0xFFFFFFFF⟩
def iwLast : RegRow := ⟨0x00000000, 0x00000000, 0x00000000, 0x00000000, 0x00000000, 0x00000000, 0x00000000, 0x00000000⟩
def owCfg : RegRow := ⟨0x00000000, 0x00000001, 0x001F0F02, 0x00000000, 0x00000000, 0x00000000, 0x00000000, 0x00000000⟩
def owGeom : RegRow := ⟨0x00000000, 0x00000000, 0xFFFFFFFF, 0x00000000, 0x00000000, 0x00000000, 0x00000000, 0x00000000⟩
def owRing : RegRow := ⟨0x00000000, 0x00000000, 0xFF07FFFF, 0x00000000, 0x00000000, 0x00000000, 0x00000000, 0x00000000⟩
def owSc : RegRow := ⟨0x00000000, 0x00000000, 0x00000FFF, 0x00000000, 0x00000000, 0x00000000, 0x00000000, 0x00000000⟩
def owDlv : RegRow := ⟨0x00000000, 0x00000000, 0x00000000, 0x00000000, 0x00000000, 0x00000000, 0x00000000, 0x00000000⟩
def owStat : RegRow := ⟨0x00000000, 0x00000000, 0x00000000, 0x00000000, 0x00000000, 0x00000031, 0x00000000, 0x00000000⟩
def owSkipCnt : RegRow := ⟨0x00000000, 0x00000000, 0x00000000, 0x00000000, 0x00000000, 0x00000000, 0x00000000, 0xFFFFFFFF⟩
def engCtl : RegRow := ⟨0x00000000, 0x00000000, 0x00000000, 0x00000000, 0x00000000, 0x00000000, 0x00000003, 0x00000000⟩
def engStart : RegRow := ⟨0x00000000, 0x00000000, 0x00000FFF, 0x00000000, 0x00000000, 0x00000000, 0x00000000, 0x00000000⟩
def engStat : RegRow := ⟨0x00000000, 0x00000000, 0x00000000, 0x00000000, 0x00000000, 0x00000380, 0x00000000, 0x00000000⟩
def engFault : RegRow := ⟨0x00000000, 0x00000000, 0x00000000, 0x00000000, 0x00000000, 0x00000000, 0x00000000, 0x00000000⟩
def engFaddrLo : RegRow := ⟨0x00000000, 0x00000000, 0x00000000, 0x00000000, 0x00000000, 0x00000000, 0x00000000, 0x00000000⟩
def engFaddrHi : RegRow := ⟨0x00000000, 0x00000000, 0x00000000, 0x00000000, 0x00000000, 0x00000000, 0x00000000, 0x00000000⟩
def engImg : RegRow := ⟨0x00000000, 0x00000000, 0x00000000, 0x00000000, 0x00000000, 0x00000000, 0x00000000, 0x00000000⟩
def engVer : RegRow := ⟨0x00000000, 0x00000000, 0x00000000, 0x00000000, 0x00000000, 0x00000000, 0x00000000, 0x00000000⟩
def engInbox : RegRow := ⟨0x00000000, 0x00000000, 0x00000000, 0x00000000, 0x00000000, 0x00000000, 0xFFFFFFFF, 0x00000000⟩
def engOutbox : RegRow := ⟨0x00000000, 0x00000000, 0x00000000, 0x00000000, 0x00000000, 0x00000000, 0x00000000, 0xFFFFFFFF⟩
def engMbx : RegRow := ⟨0x00000000, 0x00000000, 0x00000000, 0x00000000, 0x00000000, 0x00000000, 0x00000000, 0x00000000⟩
def engEcsel : RegRow := ⟨0x00000000, 0x800000FF, 0x00000000, 0x00000000, 0x00000000, 0x00000000, 0x00000000, 0x00000000⟩
def engEccnt : RegRow := ⟨0x00000000, 0x00000000, 0x00000000, 0x00000000, 0x00000000, 0x00000000, 0x00000000, 0x00000000⟩
def hqeCtl : RegRow := ⟨0x00000000, 0x00000003, 0x00000000, 0x00000000, 0x00000000, 0x00000000, 0x00000000, 0x00000000⟩
def hqeStat : RegRow := ⟨0x00000000, 0x00000000, 0x00000000, 0x00000000, 0x00000000, 0x00000034, 0x00000000, 0x00000000⟩
def hqeAqSqLo : RegRow := ⟨0x00000000, 0x00000000, 0xFFFFFFFF, 0x00000000, 0x00000000, 0x00000000, 0x00000000, 0x00000000⟩
def hqeAqSqHi : RegRow := ⟨0x00000000, 0x00000000, 0xFFFFFFFF, 0x00000000, 0x00000000, 0x00000000, 0x00000000, 0x00000000⟩
def hqeAqCqLo : RegRow := ⟨0x00000000, 0x00000000, 0xFFFFFFFF, 0x00000000, 0x00000000, 0x00000000, 0x00000000, 0x00000000⟩
def hqeAqCqHi : RegRow := ⟨0x00000000, 0x00000000, 0xFFFFFFFF, 0x00000000, 0x00000000, 0x00000000, 0x00000000, 0x00000000⟩
def hqeAqCfg : RegRow := ⟨0x00000000, 0x80000000, 0x0FFF0FFF, 0x00000000, 0x00000000, 0x00000000, 0x00000000, 0x00000000⟩
def hqeSpillBaseLo : RegRow := ⟨0x00000000, 0x00000000, 0xFFFFFFFF, 0x00000000, 0x00000000, 0x00000000, 0x00000000, 0x00000000⟩
def hqeSpillBaseHi : RegRow := ⟨0x00000001, 0x00000000, 0x000000FF, 0x00000000, 0x00000000, 0x00000000, 0x00000000, 0x00000000⟩
def hqeSpillSize : RegRow := ⟨0x00000000, 0x00000000, 0x0000FFFF, 0x00000000, 0x00000000, 0x00000000, 0x00000000, 0x00000000⟩
def hqeSpillFree : RegRow := ⟨0x00000000, 0x00000000, 0x00000000, 0x00000000, 0x00000000, 0x00000000, 0x00000000, 0x00000000⟩
def hqeFetchTmo : RegRow := ⟨0x00002710, 0x0000FFFF, 0x00000000, 0x00000000, 0x00000000, 0x00000000, 0x00000000, 0x00000000⟩
def hqeHwd : RegRow := ⟨0x000001F4, 0x0000FFFF, 0x00000000, 0x00000000, 0x00000000, 0x00000000, 0x00000000, 0x00000000⟩
def hqeQerr : RegRow := ⟨0x00000000, 0x00000000, 0x00000000, 0x00000000, 0x00000000, 0x00000001, 0x00000000, 0x00000000⟩
def hqeErrAddrLo : RegRow := ⟨0x00000000, 0x00000000, 0x00000000, 0x00000000, 0x00000000, 0x00000000, 0x00000000, 0x00000000⟩
def hqeErrAddrHi : RegRow := ⟨0x00000000, 0x00000000, 0x00000000, 0x00000000, 0x00000000, 0x00000000, 0x00000000, 0x00000000⟩
def hqeOcc : RegRow := ⟨0x00000000, 0x00000000, 0x00000000, 0x00000000, 0x00000000, 0x00000000, 0x00000000, 0x00000000⟩
def hqeJob : RegRow := ⟨0x00000000, 0x00000000, 0x00000000, 0x00000000, 0x00000000, 0x00000000, 0x00000000, 0x00000000⟩
def hqeTmoCnt : RegRow := ⟨0x00000000, 0x00000000, 0x00000000, 0x00000000, 0x00000000, 0x00000000, 0x00000000, 0xFFFFFFFF⟩
def hqeBusCnt : RegRow := ⟨0x00000000, 0x00000000, 0x00000000, 0x00000000, 0x00000000, 0x00000000, 0x00000000, 0xFFFFFFFF⟩
def hqeLoopCnt : RegRow := ⟨0x00000000, 0x00000000, 0x00000000, 0x00000000, 0x00000000, 0x00000000, 0x00000000, 0xFFFFFFFF⟩
def hqeFailCnt : RegRow := ⟨0x00000000, 0x00000000, 0x00000000, 0x00000000, 0x00000000, 0x00000000, 0x00000000, 0xFFFFFFFF⟩
def hqeDiscCnt : RegRow := ⟨0x00000000, 0x00000000, 0x00000000, 0x00000000, 0x00000000, 0x00000000, 0x00000000, 0xFFFFFFFF⟩
def hqeBrgErrCnt : RegRow := ⟨0x00000000, 0x00000000, 0x00000000, 0x00000000, 0x00000000, 0x00000000, 0x00000000, 0xFFFFFFFF⟩
def idmaBusy : RegRow := ⟨0x00000000, 0x00000000, 0x00000000, 0x00000000, 0x00000000, 0x00000000, 0x00000000, 0x00000000⟩
def idmaHalted : RegRow := ⟨0x00000000, 0x00000000, 0x00000000, 0x00000000, 0x00000000, 0x00000000, 0x00000000, 0x00000000⟩
def idmaCcStat : RegRow := ⟨0x00000000, 0x00000000, 0x00000000, 0x00000000, 0x00000000, 0x00000000, 0x00000000, 0x00000000⟩
def idmaPoll : RegRow := ⟨0x0000000A, 0x0000FFFF, 0x00000000, 0x00000000, 0x00000000, 0x00000000, 0x00000000, 0x00000000⟩
def idmaErr : RegRow := ⟨0x00000000, 0x00000000, 0x00000000, 0x00000000, 0x00000000, 0x00000001, 0x00000000, 0x00000000⟩
def idmaErrAddrLo : RegRow := ⟨0x00000000, 0x00000000, 0x00000000, 0x00000000, 0x00000000, 0x00000000, 0x00000000, 0x00000000⟩
def idmaErrAddrHi : RegRow := ⟨0x00000000, 0x00000000, 0x00000000, 0x00000000, 0x00000000, 0x00000000, 0x00000000, 0x00000000⟩
def idmaBusCnt : RegRow := ⟨0x00000000, 0x00000000, 0x00000000, 0x00000000, 0x00000000, 0x00000000, 0x00000000, 0xFFFFFFFF⟩
def idmaTmoCnt : RegRow := ⟨0x00000000, 0x00000000, 0x00000000, 0x00000000, 0x00000000, 0x00000000, 0x00000000, 0xFFFFFFFF⟩
def idmaLoopCnt : RegRow := ⟨0x00000000, 0x00000000, 0x00000000, 0x00000000, 0x00000000, 0x00000000, 0x00000000, 0xFFFFFFFF⟩
def idmaEccCnt : RegRow := ⟨0x00000000, 0x00000000, 0x00000000, 0x00000000, 0x00000000, 0x00000000, 0x00000000, 0xFFFFFFFF⟩
def chCtl : RegRow := ⟨0x00000000, 0x00000005, 0x00000000, 0x00000000, 0x00000000, 0x00000000, 0x0000000A, 0x00000000⟩
def chDescLo : RegRow := ⟨0x00000000, 0x00000000, 0xFFFFFFE0, 0x00000000, 0x00000000, 0x00000000, 0x00000000, 0x00000000⟩
def chDescHi : RegRow := ⟨0x00000000, 0x00000000, 0x000000FF, 0x00000000, 0x00000000, 0x00000000, 0x00000000, 0x00000000⟩
def chStartSel : RegRow := ⟨0x00000000, 0x800000FF, 0x00000000, 0x00000000, 0x00000000, 0x00000000, 0x00000000, 0x00000000⟩
def chPaceSel : RegRow := ⟨0x00000000, 0x800000FF, 0x00000000, 0x00000000, 0x00000000, 0x00000000, 0x00000000, 0x00000000⟩
def chKickSel : RegRow := ⟨0x00000000, 0x800000FF, 0x00000000, 0x00000000, 0x00000000, 0x00000000, 0x00000000, 0x00000000⟩
def chStat : RegRow := ⟨0x00000000, 0x00000000, 0x00000000, 0x00000000, 0x00000000, 0x00001800, 0x00000000, 0x00000000⟩
def chPace : RegRow := ⟨0x00000000, 0x00000000, 0x00000000, 0x00000000, 0x00000000, 0x00000000, 0x00000000, 0x00000000⟩
def chSrcLo : RegRow := ⟨0x00000000, 0x00000000, 0x00000000, 0x00000000, 0x00000000, 0x00000000, 0x00000000, 0x00000000⟩
def chSrcHi : RegRow := ⟨0x00000000, 0x00000000, 0x00000000, 0x00000000, 0x00000000, 0x00000000, 0x00000000, 0x00000000⟩
def chDstLo : RegRow := ⟨0x00000000, 0x00000000, 0x00000000, 0x00000000, 0x00000000, 0x00000000, 0x00000000, 0x00000000⟩
def chDstHi : RegRow := ⟨0x00000000, 0x00000000, 0x00000000, 0x00000000, 0x00000000, 0x00000000, 0x00000000, 0x00000000⟩
def chRem : RegRow := ⟨0x00000000, 0x00000000, 0x00000000, 0x00000000, 0x00000000, 0x00000000, 0x00000000, 0x00000000⟩
def chHold : RegRow := ⟨0x00000000, 0x00000000, 0x00000000, 0x00000000, 0x00000000, 0x00000000, 0x00000000, 0x00000000⟩
def chFaddrLo : RegRow := ⟨0x00000000, 0x00000000, 0x00000000, 0x00000000, 0x00000000, 0x00000000, 0x00000000, 0x00000000⟩
def chFaddrHi : RegRow := ⟨0x00000000, 0x00000000, 0x00000000, 0x00000000, 0x00000000, 0x00000000, 0x00000000, 0x00000000⟩
def ccSar : RegRow := ⟨0x00000000, 0x00000000, 0xFFFFFFFF, 0x00000000, 0x00000000, 0x00000000, 0x00000000, 0x00000000⟩
def ccDar : RegRow := ⟨0x00000000, 0x00000000, 0xFFFFFFFF, 0x00000000, 0x00000000, 0x00000000, 0x00000000, 0x00000000⟩
def ccTcr : RegRow := ⟨0x00000000, 0x00000000, 0x00FFFFFF, 0x00000000, 0x00000000, 0x00000000, 0x00000000, 0x00000000⟩
def ccCcr : RegRow := ⟨0x00000000, 0x00000001, 0x0001FFFE, 0x00000000, 0x00000000, 0x00000000, 0x00000000, 0x00000000⟩
def ccCsr : RegRow := ⟨0x00000000, 0x00000000, 0x00000000, 0x00000000, 0x00000000, 0x0000000E, 0x00000000, 0x00000000⟩
def ccXhi : RegRow := ⟨0x00000000, 0x00000000, 0x0000FFFF, 0x00000000, 0x00000000, 0x00000000, 0x00000000, 0x00000000⟩
def ccTrigSel : RegRow := ⟨0x00000000, 0x800000FF, 0x00000000, 0x00000000, 0x00000000, 0x00000000, 0x00000000, 0x00000000⟩
def ccCred : RegRow := ⟨0x00000000, 0x00000000, 0x00000000, 0x00000000, 0x00000000, 0x00000000, 0x00000000, 0x00000000⟩
def dlfCfg : RegRow := ⟨0x00008002, 0x00000001, 0x00FFFF02, 0x00000000, 0x00000000, 0x00000000, 0x00000000, 0x00000000⟩
def dlfStat : RegRow := ⟨0x00000000, 0x00000000, 0x00000000, 0x00000000, 0x00000000, 0x00000000, 0x00000000, 0x00000000⟩
def dlfUidLo : RegRow := ⟨0x00000000, 0x00000000, 0x00000000, 0x00000000, 0x00000000, 0x00000000, 0x00000000, 0x00000000⟩
def dlfUidHi : RegRow := ⟨0x00000000, 0x00000000, 0x00000000, 0x00000000, 0x00000000, 0x00000000, 0x00000000, 0x00000000⟩
def dlfLeadUidLo : RegRow := ⟨0x00000000, 0x00000000, 0x00000000, 0x00000000, 0x00000000, 0x00000000, 0x00000000, 0x00000000⟩
def dlfLeadUidHi : RegRow := ⟨0x00000000, 0x00000000, 0x00000000, 0x00000000, 0x00000000, 0x00000000, 0x00000000, 0x00000000⟩
def dlfEpoch : RegRow := ⟨0x00000000, 0x00000000, 0x00000000, 0x00000000, 0x00000000, 0x00000000, 0x00000000, 0x00000000⟩
def dlfKey : RegRow := ⟨0x00000000, 0x00000000, 0x00000000, 0x00000000, 0x00000000, 0x00000000, 0x00000000, 0x00000000⟩
def dlfTmo : RegRow := ⟨0x00C80032, 0xFFFFFFFF, 0x00000000, 0x00000000, 0x00000000, 0x00000000, 0x00000000, 0x00000000⟩
def dlfForm : RegRow := ⟨0x0000640A, 0x0000FFFF, 0x00000000, 0x00000000, 0x00000000, 0x00000000, 0x00000000, 0x00000000⟩
def dlfGuard : RegRow := ⟨0x0A1003E8, 0xFFFFFFFF, 0x00000000, 0x00000000, 0x00000000, 0x00000000, 0x00000000, 0x00000000⟩
def dlfRekey : RegRow := ⟨0x0000003C, 0x0000FFFF, 0x00000000, 0x00000000, 0x00000000, 0x00000000, 0x00000000, 0x00000000⟩
def dlfTimeCfg : RegRow := ⟨0x00000001, 0x000000FF, 0x00000000, 0x00000000, 0x00000000, 0x00000000, 0x00000000, 0x00000000⟩
def dlfTimeStat : RegRow := ⟨0x00000000, 0x00000000, 0x00000000, 0x00000000, 0x00000000, 0x00000006, 0x00000000, 0x00000000⟩
def dlfLcCfg : RegRow := ⟨0x0FA00000, 0xFFFF000F, 0x00000000, 0x00000000, 0x00000000, 0x00000000, 0x00000000, 0x00000000⟩
def dlfLcStat : RegRow := ⟨0x00000000, 0x00000000, 0x00000000, 0x00000000, 0x00000000, 0x00000007, 0x00000000, 0x00000000⟩
def dlfLcTick : RegRow := ⟨0x00000000, 0x00000000, 0x00000000, 0x00000000, 0x00000000, 0x00000000, 0x00000000, 0x00000000⟩
def dlfErr : RegRow := ⟨0x00000000, 0x00000000, 0x00000000, 0x00000000, 0x00000000, 0x00000001, 0x00000000, 0x00000000⟩
def dlfCrcCnt : RegRow := ⟨0x00000000, 0x00000000, 0x00000000, 0x00000000, 0x00000000, 0x00000000, 0x00000000, 0xFFFFFFFF⟩
def dlfHoldCnt : RegRow := ⟨0x00000000, 0x00000000, 0x00000000, 0x00000000, 0x00000000, 0x00000000, 0x00000000, 0xFFFFFFFF⟩
def dlfOrphanCnt : RegRow := ⟨0x00000000, 0x00000000, 0x00000000, 0x00000000, 0x00000000, 0x00000000, 0x00000000, 0xFFFFFFFF⟩
def dlfRspTmoCnt : RegRow := ⟨0x00000000, 0x00000000, 0x00000000, 0x00000000, 0x00000000, 0x00000000, 0x00000000, 0xFFFFFFFF⟩
def dlfLateRspCnt : RegRow := ⟨0x00000000, 0x00000000, 0x00000000, 0x00000000, 0x00000000, 0x00000000, 0x00000000, 0xFFFFFFFF⟩
def dlfViolCnt : RegRow := ⟨0x00000000, 0x00000000, 0x00000000, 0x00000000, 0x00000000, 0x00000000, 0x00000000, 0xFFFFFFFF⟩
def dlfUnreachCnt : RegRow := ⟨0x00000000, 0x00000000, 0x00000000, 0x00000000, 0x00000000, 0x00000000, 0x00000000, 0xFFFFFFFF⟩
def dlfAuthFailCnt : RegRow := ⟨0x00000000, 0x00000000, 0x00000000, 0x00000000, 0x00000000, 0x00000000, 0x00000000, 0xFFFFFFFF⟩
def dlfLcLateCnt : RegRow := ⟨0x00000000, 0x00000000, 0x00000000, 0x00000000, 0x00000000, 0x00000000, 0x00000000, 0xFFFFFFFF⟩
def dlfRwinA : RegRow := ⟨0x00000000, 0x80037FFF, 0x00000000, 0x00000000, 0x00000000, 0x00000000, 0x00000000, 0x00000000⟩
def dlfRwinB : RegRow := ⟨0x00000000, 0x00FFFFFF, 0x00000000, 0x00000000, 0x00000000, 0x00000000, 0x00000000, 0x00000000⟩
def dlfRt : RegRow := ⟨0xFFFFFFFF, 0x00000000, 0x00000000, 0x00000000, 0x00000000, 0x00000000, 0x00000000, 0x00000000⟩
def dlCtl : RegRow := ⟨0x00000000, 0x00000001, 0x00000000, 0x00000000, 0x00000000, 0x00000000, 0x0000000E, 0x00000000⟩
def dlStat : RegRow := ⟨0x00000000, 0x00000000, 0x00000000, 0x00000000, 0x00000000, 0x00000000, 0x00000000, 0x00000000⟩
def dlPeerLo : RegRow := ⟨0x00000000, 0x00000000, 0x00000000, 0x00000000, 0x00000000, 0x00000000, 0x00000000, 0x00000000⟩
def dlPeerHi : RegRow := ⟨0x00000000, 0x00000000, 0x00000000, 0x00000000, 0x00000000, 0x00000000, 0x00000000, 0x00000000⟩
def dlDelay : RegRow := ⟨0x00000000, 0x00000000, 0x00000000, 0x00000000, 0x00000000, 0x00000000, 0x00000000, 0x00000000⟩
def dlAsym : RegRow := ⟨0x00000000, 0x0000FFFF, 0x00000000, 0x00000000, 0x00000000, 0x00000000, 0x00000000, 0x00000000⟩
def dlCred : RegRow := ⟨0x00000000, 0x00000000, 0x00000000, 0x00000000, 0x00000000, 0x00000000, 0x00000000, 0x00000000⟩
def dlPol : RegRow := ⟨0x00A00040, 0xFFFFFFFF, 0x00000000, 0x00000000, 0x00000000, 0x00000000, 0x00000000, 0x00000000⟩
def dlReplayCnt : RegRow := ⟨0x00000000, 0x00000000, 0x00000000, 0x00000000, 0x00000000, 0x00000000, 0x00000000, 0xFFFFFFFF⟩
def dlPolCnt : RegRow := ⟨0x00000000, 0x00000000, 0x00000000, 0x00000000, 0x00000000, 0x00000000, 0x00000000, 0xFFFFFFFF⟩
def dlDownCnt : RegRow := ⟨0x00000000, 0x00000000, 0x00000000, 0x00000000, 0x00000000, 0x00000000, 0x00000000, 0xFFFFFFFF⟩
def dlTerrCnt : RegRow := ⟨0x00000000, 0x00000000, 0x00000000, 0x00000000, 0x00000000, 0x00000000, 0x00000000, 0xFFFFFFFF⟩
def stCfg : RegRow := ⟨0x00000000, 0x00000001, 0x000FFFFE, 0x00000000, 0x00000000, 0x00000000, 0x00000000, 0x00000000⟩
def stGeom : RegRow := ⟨0x00000000, 0x00000000, 0xFFFFFFFF, 0x00000000, 0x00000000, 0x00000000, 0x00000000, 0x00000000⟩
def stDl : RegRow := ⟨0x00000064, 0x0000FFFF, 0x00000000, 0x00000000, 0x00000000, 0x00000000, 0x00000000, 0x00000000⟩
def stStat : RegRow := ⟨0x00000000, 0x00000000, 0x00000000, 0x00000000, 0x00000000, 0x00000003, 0x00000000, 0x00000000⟩
def stLines : RegRow := ⟨0x00000000, 0x00000000, 0x00000000, 0x00000000, 0x00000000, 0x00000000, 0x00000000, 0x00000000⟩
def stMissCnt : RegRow := ⟨0x00000000, 0x00000000, 0x00000000, 0x00000000, 0x00000000, 0x00000000, 0x00000000, 0xFFFFFFFF⟩
def stLateCnt : RegRow := ⟨0x00000000, 0x00000000, 0x00000000, 0x00000000, 0x00000000, 0x00000000, 0x00000000, 0xFFFFFFFF⟩
def hltCfg : RegRow := ⟨0x00000010, 0x0000001F, 0x00000000, 0x00000000, 0x00000000, 0x00000000, 0x00000000, 0x00000000⟩
def hltStat : RegRow := ⟨0x00000000, 0x00000000, 0x00000000, 0x00000000, 0x00000000, 0x00000000, 0x00000000, 0x00000000⟩
def hltWake : RegRow := ⟨0x00000000, 0x00000001, 0x00000000, 0x00000000, 0x00000000, 0x00000000, 0x00000000, 0x00000000⟩
def hltAlert : RegRow := ⟨0x00000000, 0x00000000, 0x00000000, 0x00000000, 0x00000000, 0x000001FF, 0x00000000, 0x00000000⟩
def hltAlertEn : RegRow := ⟨0x0000001F, 0x000001FF, 0x00000000, 0x00000000, 0x00000000, 0x00000000, 0x00000000, 0x00000000⟩
def hltTs : RegRow := ⟨0x00000000, 0x00000000, 0x00000000, 0x00000000, 0x00000000, 0x00000000, 0x00000000, 0x00000000⟩
def hltThr : RegRow := ⟨0x07300690, 0xFFFFFFFF, 0x00000000, 0x00000000, 0x00000000, 0x00000000, 0x00000000, 0x00000000⟩
def hltRail : RegRow := ⟨0x00000000, 0x00000000, 0x00000000, 0x00000000, 0x00000000, 0x00000000, 0x00000000, 0x00000000⟩
def hltRwarn : RegRow := ⟨0x00000000, 0xFFFFFFFF, 0x00000000, 0x00000000, 0x00000000, 0x00000000, 0x00000000, 0x00000000⟩
def hltLogCnt : RegRow := ⟨0x00000000, 0x00000000, 0x00000000, 0x00000000, 0x00000000, 0x00000000, 0x00000000, 0x00000000⟩
def hltAonMs : RegRow := ⟨0x00000000, 0x00000000, 0x00000000, 0x00000000, 0x00000000, 0x00000000, 0x00000000, 0x00000000⟩
def hltNackCnt : RegRow := ⟨0x00000000, 0x00000000, 0x00000000, 0x00000000, 0x00000000, 0x00000000, 0x00000000, 0xFFFFFFFF⟩
def hltPecCnt : RegRow := ⟨0x00000000, 0x00000000, 0x00000000, 0x00000000, 0x00000000, 0x00000000, 0x00000000, 0xFFFFFFFF⟩
def hltTmoCnt : RegRow := ⟨0x00000000, 0x00000000, 0x00000000, 0x00000000, 0x00000000, 0x00000000, 0x00000000, 0xFFFFFFFF⟩
def hltFlStat : RegRow := ⟨0x00000000, 0x00000000, 0x00000000, 0x00000000, 0x00000000, 0x00000000, 0x00000000, 0x00000000⟩
def hltLogW0 : RegRow := ⟨0x00000000, 0x00000000, 0x00000000, 0x00000000, 0x00000000, 0x00000000, 0x00000000, 0x00000000⟩
def hltLogW1 : RegRow := ⟨0x00000000, 0x00000000, 0x00000000, 0x00000000, 0x00000000, 0x00000000, 0x00000000, 0x00000000⟩
def secBootInfo : RegRow := ⟨0x00000000, 0x00000000, 0x00000000, 0x00000000, 0x00000000, 0x00000000, 0x00000000, 0x00000000⟩
def secBootVer : RegRow := ⟨0x00000000, 0x00000000, 0x00000000, 0x00000000, 0x00000000, 0x00000000, 0x00000000, 0x00000000⟩
def secSelftest : RegRow := ⟨0x00000000, 0x00000000, 0x00000000, 0x00000000, 0x00000000, 0x00000000, 0x00000000, 0x00000000⟩
def secStAddrLo : RegRow := ⟨0x00000000, 0x00000000, 0x00000000, 0x00000000, 0x00000000, 0x00000000, 0x00000000, 0x00000000⟩
def secStAddrHi : RegRow := ⟨0x00000000, 0x00000000, 0x00000000, 0x00000000, 0x00000000, 0x00000000, 0x00000000, 0x00000000⟩
def secSvcStat : RegRow := ⟨0x00000000, 0x00000000, 0x00000000, 0x00000000, 0x00000000, 0x00000000, 0x00000000, 0x00000000⟩
def secSvcRes : RegRow := ⟨0x00000000, 0x00000000, 0x00000000, 0x00000000, 0x00000000, 0x00000000, 0x00000000, 0x00000000⟩
def secSvcHb : RegRow := ⟨0x00000000, 0x00000000, 0x00000000, 0x00000000, 0x00000000, 0x00000000, 0x00000000, 0x00000000⟩
def secSvcCfg : RegRow := ⟨0x640A3C01, 0xFFFFFF03, 0x00000000, 0x00000000, 0x00000000, 0x00000000, 0x00000000, 0x00000000⟩
def auxInjCfg : RegRow := ⟨0x00098318, 0x3FFFFFFF, 0x00000000, 0x00000000, 0x00000000, 0x00000000, 0x00000000, 0x00000000⟩
def auxInjTime : RegRow := ⟨0x0C800320, 0xFFFFFFFF, 0x00000000, 0x00000000, 0x00000000, 0x00000000, 0x00000000, 0x00000000⟩
def auxInjLin : RegRow := ⟨0x018C0000, 0x01FFFFFF, 0x00000000, 0x00000000, 0x00000000, 0x00000000, 0x00000000, 0x00000000⟩
def auxInjKref : RegRow := ⟨0x00000000, 0xFFFFFFFF, 0x00000000, 0x00000000, 0x00000000, 0x00000000, 0x00000000, 0x00000000⟩
def auxInjSlotValue : RegRow := ⟨0x00000000, 0x00000000, 0x00000000, 0x00000000, 0x00000000, 0x00000000, 0x00000000, 0x00000000⟩
def auxInjSlotStatus : RegRow := ⟨0x00000000, 0x00000000, 0x00000000, 0x00000000, 0x00000000, 0x00000000, 0x00000000, 0x00000000⟩
def auxInjSlotTsLo : RegRow := ⟨0x00000000, 0x00000000, 0x00000000, 0x00000000, 0x00000000, 0x00000000, 0x00000000, 0x00000000⟩
def auxInjSlotTsHi : RegRow := ⟨0x00000000, 0x00000000, 0x00000000, 0x00000000, 0x00000000, 0x00000000, 0x00000000, 0x00000000⟩
def evmSwEv : RegRow := ⟨0x00000000, 0x00000000, 0x00000000, 0x00000000, 0x00000000, 0x00000000, 0x000000FF, 0x00000000⟩
def evmMonSel : RegRow := ⟨0x00000000, 0x800000FF, 0x00000000, 0x00000000, 0x00000000, 0x00000000, 0x00000000, 0x00000000⟩
def evmMonCnt : RegRow := ⟨0x00000000, 0x00000000, 0x00000000, 0x00000000, 0x00000000, 0x00000000, 0x00000000, 0xFFFFFFFF⟩
def hqeMsixAddrLo : RegRow := ⟨0x00000000, 0xFFFFFFFF, 0x00000000, 0x00000000, 0x00000000, 0x00000000, 0x00000000, 0x00000000⟩
def hqeMsixAddrHi : RegRow := ⟨0x00000000, 0xFFFFFFFF, 0x00000000, 0x00000000, 0x00000000, 0x00000000, 0x00000000, 0x00000000⟩
def hqeMsixData : RegRow := ⟨0x00000000, 0xFFFFFFFF, 0x00000000, 0x00000000, 0x00000000, 0x00000000, 0x00000000, 0x00000000⟩
def hqeMsixCtrl : RegRow := ⟨0x00000001, 0x00000001, 0x00000000, 0x00000000, 0x00000000, 0x00000000, 0x00000000, 0x00000000⟩
def sysId : RegRow := ⟨0x489600A1, 0x00000000, 0x00000000, 0x00000000, 0x00000000, 0x00000000, 0x00000000, 0x00000000⟩
def sysTimeLo : RegRow := ⟨0x00000000, 0x00000000, 0x00000000, 0x00000000, 0x00000000, 0x00000000, 0x00000000, 0x00000000⟩
def sysTimeHi : RegRow := ⟨0x00000000, 0x00000000, 0x00000000, 0x00000000, 0x00000000, 0x00000000, 0x00000000, 0x00000000⟩
def hqePba : RegRow := ⟨0x00000000, 0x00000000, 0x00000000, 0x00000000, 0x00000000, 0x00000000, 0x00000000, 0x00000000⟩

end Row

/-! ## The map by block (Table 16-1) -/
namespace Reg

def blockSys0 : List RegSpan := [
  ⟨0x00000, 0x4, 1, Row.sysId⟩,
  ⟨0x00010, 0x4, 1, Row.sysErrStat⟩,
  ⟨0x00014, 0x4, 1, Row.sysErrAddr⟩,
  ⟨0x00020, 0x4, 1, Row.sysClkStat⟩,
  ⟨0x00028, 0x4, 1, Row.sysRstCause⟩,
  ⟨0x0002C, 0x4, 1, Row.sysRstCtl⟩,
  ⟨0x00030, 0x4, 1, Row.sysStrap⟩,
  ⟨0x00034, 0x4, 1, Row.sysBootStat⟩,
  ⟨0x00038, 0x4, 1, Row.sysIoStat⟩,
  ⟨0x00040, 0x4, 1, Row.sysTimeLo⟩,
  ⟨0x00044, 0x4, 1, Row.sysTimeHi⟩,
  ⟨0x00080, 0x4, 1, Row.sysEccStat⟩,
  ⟨0x00084, 0x4, 1, Row.sysEccCeCnt⟩,
  ⟨0x00088, 0x4, 1, Row.sysEccUeCnt⟩,
  ⟨0x00090, 0x4, 1, Row.sysEccAddrLo⟩,
  ⟨0x00094, 0x4, 1, Row.sysEccAddrHi⟩,
  ⟨0x000A0, 0x4, 1, Row.sysScrubCtl⟩,
  ⟨0x000C0, 0x4, 1, Row.sysClaimErr⟩,
  ⟨0x000C4, 0x4, 1, Row.sysClaimErrCnt⟩,
  ⟨0x00100, 0x4, 16, Row.sysAbpCfg⟩,
  ⟨0x00200, 0x4, 16, Row.sysGpioCfg⟩,
  ⟨0x00240, 0x4, 1, Row.sysGpioIn⟩,
  ⟨0x00300, 0x4, 5, Row.sysPdSet⟩,
  ⟨0x00320, 0x4, 5, Row.sysPdClr⟩,
  ⟨0x00360, 0x4, 1, Row.sysPdErr⟩,
  ⟨0x00340, 4, 1, ⟨1, 0, 0, 0, 0, 0, 0, 0⟩⟩,
  ⟨0x0034C, 4, 1, ⟨0xC0000001, 0, 0, 0, 0, 0, 0, 0⟩⟩]

/-- The registers of SYS. -/
def blockSys : List RegSpan := blockSys0

def blockEvm0 : List RegSpan := [
  ⟨0x04000, 0x4, 1, Row.evmSwEv⟩,
  ⟨0x04010, 0x4, 4, Row.evmMonSel⟩,
  ⟨0x04020, 0x4, 4, Row.evmMonCnt⟩,
  ⟨0x04100, 0x20, 32, Row.etimCtl⟩,
  ⟨0x04104, 0x20, 32, Row.etimLoad⟩,
  ⟨0x04108, 0x20, 32, Row.etimCount⟩,
  ⟨0x0410C, 0x20, 32, Row.etimStartSel⟩,
  ⟨0x04110, 0x20, 32, Row.etimCancelSel⟩,
  ⟨0x04114, 0x20, 32, Row.etimStat⟩]

/-- The registers of EVM. -/
def blockEvm : List RegSpan := blockEvm0

def blockTsq0 : List RegSpan := [
  ⟨0x08000, 0x4, 1, Row.tsqStat⟩,
  ⟨0x08004, 0x4, 1, Row.tsqUfAddr⟩,
  ⟨0x08040, 0x8, 4, Row.tsqPxCfg⟩,
  ⟨0x08044, 0x8, 4, Row.tsqPxCount⟩,
  ⟨0x08080, 0x4, 64, Row.tsqPxStep⟩,
  ⟨0x08180, 0x4, 16, Row.tsqSmp⟩,
  ⟨0x08200, 0x80, 8, Row.lpCfg⟩,
  ⟨0x08204, 0x80, 8, Row.lpOuts⟩,
  ⟨0x08208, 0x80, 8, Row.lpVin⟩,
  ⟨0x0820C, 0x80, 8, Row.lpIdle⟩,
  ⟨0x08210, 0x80, 8, Row.lpPitch⟩,
  ⟨0x08214, 0x80, 8, Row.lpNextLo⟩,
  ⟨0x08218, 0x80, 8, Row.lpNextHi⟩,
  ⟨0x0821C, 0x80, 8, Row.lpTrigSel⟩,
  ⟨0x08220, 0x80, 8, Row.lpTmo⟩,
  ⟨0x08224, 0x80, 8, Row.lpStale⟩,
  ⟨0x08228, 0x80, 8, Row.lpFlush⟩,
  ⟨0x08230, 0x80, 8, Row.lpPhCfg⟩,
  ⟨0x08234, 0x80, 8, Row.lpPhWin⟩,
  ⟨0x08238, 0x80, 8, Row.lpPhCfg⟩,
  ⟨0x0823C, 0x80, 8, Row.lpPhWin⟩,
  ⟨0x08240, 0x80, 8, Row.lpPhCfg⟩,
  ⟨0x08244, 0x80, 8, Row.lpPhWin⟩,
  ⟨0x08248, 0x80, 8, Row.lpPhCfg⟩,
  ⟨0x0824C, 0x80, 8, Row.lpPhWin⟩,
  ⟨0x08250, 0x80, 8, Row.lpPhCfg⟩,
  ⟨0x08254, 0x80, 8, Row.lpPhWin⟩,
  ⟨0x08258, 0x80, 8, Row.lpPhCfg⟩,
  ⟨0x0825C, 0x80, 8, Row.lpPhWin⟩,
  ⟨0x08260, 0x80, 8, Row.lpStat⟩,
  ⟨0x08264, 0x80, 8, Row.lpLineCnt⟩,
  ⟨0x08268, 0x80, 8, Row.lpOvrCnt⟩,
  ⟨0x0826C, 0x80, 8, Row.lpStaleCnt⟩,
  ⟨0x08270, 0x80, 8, Row.lpTmoCnt⟩,
  ⟨0x08274, 0x80, 8, Row.lpFlushCnt⟩,
  ⟨0x08278, 0x80, 8, Row.lpLastLo⟩,
  ⟨0x0827C, 0x80, 8, Row.lpLastHi⟩,
  ⟨0x09000, 0x4, 1024, Row.tsqUcode⟩]

/-- The registers of TSQ. -/
def blockTsq : List RegSpan := blockTsq0

def blockVaf0 : List RegSpan := [
  ⟨0x0C000, 0x4, 1, Row.vafCtl⟩,
  ⟨0x0C004, 0x4, 1, Row.vafStat⟩,
  ⟨0x0C008, 0x4, 1, Row.vafBgcal⟩,
  ⟨0x0C00C, 0x4, 1, Row.vafBgtol⟩,
  ⟨0x0C010, 0x4, 1, Row.vafFgcal⟩,
  ⟨0x0C014, 0x4, 1, Row.vafTdac⟩,
  ⟨0x0C018, 0x4, 1, Row.vafXbar⟩,
  ⟨0x0C01C, 0x4, 1, Row.vafVfm⟩,
  ⟨0x0C020, 0x4, 1, Row.vafVfStuck⟩,
  ⟨0x0C024, 0x4, 1, Row.vafVfRail⟩,
  ⟨0x0C028, 0x4, 1, Row.vafUnmapCnt⟩,
  ⟨0x0C100, 0x4, 16, Row.vafVinCfg⟩,
  ⟨0x0C140, 0x4, 16, Row.vafVinLvl⟩,
  ⟨0x0C180, 0x4, 16, Row.vafVinTrim⟩,
  ⟨0x0C1C0, 0x4, 16, Row.vafVinMinmax⟩,
  ⟨0x0C200, 0x8, 16, Row.vafPmapLo⟩,
  ⟨0x0C204, 0x8, 16, Row.vafPmapHi⟩,
  ⟨0x0C300, 0x8, 64, Row.vafSegCfg⟩,
  ⟨0x0C304, 0x8, 64, Row.vafSegX⟩,
  ⟨0x0C600, 0x100, 4, Row.bankStat⟩,
  ⟨0x0C604, 0x100, 4, Row.bankSpur⟩,
  ⟨0x0C608, 0x100, 4, Row.bankCal⟩,
  ⟨0x0C60C, 0x100, 4, Row.bankSwapCnt⟩,
  ⟨0x0C610, 0x100, 4, Row.bankAbortCnt⟩,
  ⟨0x0C614, 0x100, 4, Row.bankMissCnt⟩,
  ⟨0x0C618, 0x100, 4, Row.bankUnverCnt⟩,
  ⟨0x0C640, 0x100, 4, Row.bankSlOfs⟩,
  ⟨0x0C644, 0x100, 4, Row.bankSlGsk⟩,
  ⟨0x0C648, 0x100, 4, Row.bankSlOfs⟩,
  ⟨0x0C64C, 0x100, 4, Row.bankSlGsk⟩,
  ⟨0x0C650, 0x100, 4, Row.bankSlOfs⟩,
  ⟨0x0C654, 0x100, 4, Row.bankSlGsk⟩,
  ⟨0x0C658, 0x100, 4, Row.bankSlOfs⟩,
  ⟨0x0C65C, 0x100, 4, Row.bankSlGsk⟩,
  ⟨0x0C660, 0x100, 4, Row.bankSlOfs⟩,
  ⟨0x0C664, 0x100, 4, Row.bankSlGsk⟩,
  ⟨0x0C668, 0x100, 4, Row.bankSlOfs⟩,
  ⟨0x0C66C, 0x100, 4, Row.bankSlGsk⟩,
  ⟨0x0C670, 0x100, 4, Row.bankSlOfs⟩,
  ⟨0x0C674, 0x100, 4, Row.bankSlGsk⟩]

def blockVaf1 : List RegSpan := [
  ⟨0x0C678, 0x100, 4, Row.bankSlOfs⟩,
  ⟨0x0C67C, 0x100, 4, Row.bankSlGsk⟩,
  ⟨0x0C680, 0x100, 4, Row.bankSlOfs⟩,
  ⟨0x0C684, 0x100, 4, Row.bankSlGsk⟩]

/-- The registers of VAF. -/
def blockVaf : List RegSpan := blockVaf0 ++ blockVaf1

def blockShd0 : List RegSpan := [
  ⟨0x10000, 0x4, 1, Row.shdChk0⟩,
  ⟨0x10004, 0x4, 1, Row.shdChk1⟩,
  ⟨0x10008, 0x4, 1, Row.shdChk2⟩,
  ⟨0x1000C, 0x4, 1, Row.shdChk3⟩,
  ⟨0x10010, 0x4, 1, Row.shdCwin⟩,
  ⟨0x10014, 0x4, 1, Row.shdStat⟩,
  ⟨0x10018, 0x4, 1, Row.shdRecCtl⟩,
  ⟨0x1001C, 0x4, 1, Row.shdRecStat⟩,
  ⟨0x10020, 0x4, 1, Row.shdRecSeq⟩,
  ⟨0x10024, 0x4, 1, Row.shdDropCnt⟩,
  ⟨0x10040, 0x40, 4, Row.grpCtl⟩,
  ⟨0x10044, 0x40, 4, Row.grpTsrc⟩,
  ⟨0x10048, 0x40, 4, Row.grpStripSel⟩,
  ⟨0x1004C, 0x40, 4, Row.grpZone⟩,
  ⟨0x10050, 0x40, 4, Row.grpCalz⟩,
  ⟨0x10054, 0x40, 4, Row.grpFidx⟩,
  ⟨0x10058, 0x40, 4, Row.grpSeam⟩,
  ⟨0x1005C, 0x40, 4, Row.grpSett⟩,
  ⟨0x10060, 0x40, 4, Row.grpSetv⟩,
  ⟨0x10064, 0x40, 4, Row.grpTemp⟩,
  ⟨0x10068, 0x40, 4, Row.grpStat⟩,
  ⟨0x1006C, 0x40, 4, Row.grpQ0⟩,
  ⟨0x10070, 0x40, 4, Row.grpQ1⟩,
  ⟨0x10074, 0x40, 4, Row.grpQ2⟩,
  ⟨0x10078, 0x40, 4, Row.grpRejCnt⟩,
  ⟨0x10200, 0x10, 48, Row.plCfg⟩,
  ⟨0x10204, 0x10, 48, Row.plBase⟩,
  ⟨0x10208, 0x10, 48, Row.plAlign⟩,
  ⟨0x1020C, 0x10, 48, Row.plWhite⟩,
  ⟨0x11000, 0x8, 384, Row.shdTrim0⟩,
  ⟨0x11004, 0x8, 384, Row.shdTrim1⟩]

/-- The registers of SHD. -/
def blockShd : List RegSpan := blockShd0

def blockGeo0 : List RegSpan := [
  ⟨0x14000, 0x4, 1, Row.geoEvmask⟩,
  ⟨0x14004, 0x4, 1, Row.geoStat⟩,
  ⟨0x14008, 0x4, 1, Row.geoUnrecCnt⟩,
  ⟨0x14100, 0x40, 4, Row.uCfg⟩,
  ⟨0x14104, 0x40, 4, Row.uThr⟩,
  ⟨0x14108, 0x40, 4, Row.uRun⟩,
  ⟨0x1410C, 0x40, 4, Row.uMinpix⟩,
  ⟨0x14110, 0x40, 4, Row.uCol⟩,
  ⟨0x14114, 0x40, 4, Row.uNcol⟩,
  ⟨0x14118, 0x40, 4, Row.uFit⟩,
  ⟨0x1411C, 0x40, 4, Row.uAspect⟩,
  ⟨0x14120, 0x40, 4, Row.uWin⟩,
  ⟨0x14124, 0x40, 4, Row.uOpenSel⟩,
  ⟨0x14128, 0x40, 4, Row.uCloseSel⟩,
  ⟨0x1412C, 0x40, 4, Row.uStat⟩,
  ⟨0x14130, 0x40, 4, Row.uY⟩,
  ⟨0x14134, 0x40, 4, Row.uFalseCnt⟩,
  ⟨0x14200, 0x20, 4, Row.trkCfg⟩,
  ⟨0x14204, 0x20, 4, Row.trkSc⟩,
  ⟨0x14208, 0x20, 4, Row.trkJob⟩,
  ⟨0x1420C, 0x20, 4, Row.trkHold⟩,
  ⟨0x14210, 0x20, 4, Row.trkClose⟩,
  ⟨0x14214, 0x20, 4, Row.trkStat⟩,
  ⟨0x14218, 0x20, 4, Row.trkSeq⟩,
  ⟨0x1421C, 0x20, 4, Row.trkLateCnt⟩]

/-- The registers of GEO. -/
def blockGeo : List RegSpan := blockGeo0

def blockGait0 : List RegSpan := [
  ⟨0x18000, 0x4, 1, Row.gaitStat⟩,
  ⟨0x18004, 0x4, 1, Row.gaitPsIn⟩,
  ⟨0x18008, 0x4, 1, Row.gaitPsPol⟩,
  ⟨0x1800C, 0x4, 1, Row.gaitPsFilt⟩,
  ⟨0x18020, 0x4, 8, Row.gaitPse⟩,
  ⟨0x18100, 0x20, 4, Row.axisCtl⟩,
  ⟨0x18104, 0x20, 4, Row.axisRatio⟩,
  ⟨0x18108, 0x20, 4, Row.axisPosLo⟩,
  ⟨0x1810C, 0x20, 4, Row.axisPosHi⟩,
  ⟨0x18110, 0x20, 4, Row.axisStat⟩,
  ⟨0x18114, 0x20, 4, Row.axisRate⟩,
  ⟨0x18180, 0x20, 2, Row.encCfg⟩,
  ⟨0x18184, 0x20, 2, Row.encPosLo⟩,
  ⟨0x18188, 0x20, 2, Row.encPosHi⟩,
  ⟨0x1818C, 0x20, 2, Row.encZposLo⟩,
  ⟨0x18190, 0x20, 2, Row.encZposHi⟩,
  ⟨0x18194, 0x20, 2, Row.encStat⟩,
  ⟨0x18198, 0x20, 2, Row.encErrCnt⟩,
  ⟨0x18400, 0x100, 4, Row.pathCfg⟩,
  ⟨0x18404, 0x100, 4, Row.pathLinks⟩,
  ⟨0x18408, 0x100, 4, Row.pathPolicy⟩,
  ⟨0x1840C, 0x100, 4, Row.pathOccthr⟩,
  ⟨0x18410, 0x100, 4, Row.pathRamp⟩,
  ⟨0x18414, 0x100, 4, Row.pathGuard⟩,
  ⟨0x18418, 0x100, 4, Row.pathSeam⟩,
  ⟨0x1841C, 0x100, 4, Row.pathSeam2⟩,
  ⟨0x18420, 0x100, 4, Row.pathFeed⟩,
  ⟨0x18424, 0x100, 4, Row.pathHlossSel⟩,
  ⟨0x18428, 0x100, 4, Row.pathCmd⟩,
  ⟨0x1842C, 0x100, 4, Row.pathStat⟩,
  ⟨0x18430, 0x100, 4, Row.pathOcc⟩,
  ⟨0x18434, 0x100, 4, Row.pathLastLo⟩,
  ⟨0x18438, 0x100, 4, Row.pathLastHi⟩,
  ⟨0x1843C, 0x100, 4, Row.pathRev⟩,
  ⟨0x18440, 0x100, 4, Row.pathGspd⟩,
  ⟨0x18444, 0x100, 4, Row.pathGspd⟩,
  ⟨0x18448, 0x100, 4, Row.pathGspd⟩,
  ⟨0x1844C, 0x100, 4, Row.pathGspd⟩,
  ⟨0x18450, 0x100, 4, Row.pathGspd⟩,
  ⟨0x18454, 0x100, 4, Row.pathGspd⟩]

def blockGait1 : List RegSpan := [
  ⟨0x18458, 0x100, 4, Row.pathGspd⟩,
  ⟨0x18460, 0x100, 4, Row.pathGthr⟩,
  ⟨0x18464, 0x100, 4, Row.pathGthr⟩,
  ⟨0x18468, 0x100, 4, Row.pathGthr⟩,
  ⟨0x1846C, 0x100, 4, Row.pathGthr⟩,
  ⟨0x18470, 0x100, 4, Row.pathGthr⟩,
  ⟨0x18474, 0x100, 4, Row.pathGthr⟩,
  ⟨0x18478, 0x100, 4, Row.pathGthr⟩,
  ⟨0x18480, 0x100, 4, Row.pathChkA⟩,
  ⟨0x18484, 0x100, 4, Row.pathChkB⟩,
  ⟨0x18488, 0x100, 4, Row.pathChkA⟩,
  ⟨0x1848C, 0x100, 4, Row.pathChkB⟩,
  ⟨0x18490, 0x100, 4, Row.pathChkA⟩,
  ⟨0x18494, 0x100, 4, Row.pathChkB⟩,
  ⟨0x18498, 0x100, 4, Row.pathChkA⟩,
  ⟨0x1849C, 0x100, 4, Row.pathChkB⟩,
  ⟨0x184A0, 0x100, 4, Row.pathChkA⟩,
  ⟨0x184A4, 0x100, 4, Row.pathChkB⟩,
  ⟨0x184A8, 0x100, 4, Row.pathChkA⟩,
  ⟨0x184AC, 0x100, 4, Row.pathChkB⟩,
  ⟨0x184B0, 0x100, 4, Row.pathChkA⟩,
  ⟨0x184B4, 0x100, 4, Row.pathChkB⟩,
  ⟨0x184B8, 0x100, 4, Row.pathChkA⟩,
  ⟨0x184BC, 0x100, 4, Row.pathChkB⟩,
  ⟨0x184C0, 0x100, 4, Row.pathGaitCnt⟩,
  ⟨0x184C4, 0x100, 4, Row.pathSeamCnt⟩,
  ⟨0x184C8, 0x100, 4, Row.pathUnverCnt⟩,
  ⟨0x184CC, 0x100, 4, Row.pathJamCnt⟩,
  ⟨0x18800, 0x20, 4, Row.seamCfg⟩,
  ⟨0x18804, 0x20, 4, Row.seamLim⟩,
  ⟨0x18808, 0x20, 4, Row.seamRes⟩,
  ⟨0x1880C, 0x20, 4, Row.seamInfo⟩]

/-- The registers of GAIT. -/
def blockGait : List RegSpan := blockGait0 ++ blockGait1

def blockAux0 : List RegSpan := [
  ⟨0x1C000, 0x4, 1, Row.auxStat⟩,
  ⟨0x1C004, 0x4, 1, Row.auxRegCtl⟩,
  ⟨0x1C008, 0x4, 1, Row.auxRegTrigSel⟩,
  ⟨0x1C00C, 0x4, 1, Row.auxInjCtl⟩,
  ⟨0x1C010, 0x4, 1, Row.auxInjTrigSel⟩,
  ⟨0x1C014, 0x4, 1, Row.auxOw⟩,
  ⟨0x1C018, 0x4, 1, Row.auxTmo⟩,
  ⟨0x1C01C, 0x4, 1, Row.auxCjFix⟩,
  ⟨0x1C020, 0x4, 1, Row.auxOpenReg⟩,
  ⟨0x1C024, 0x4, 1, Row.auxOpenInj⟩,
  ⟨0x1C028, 0x4, 1, Row.auxClampStat⟩,
  ⟨0x1C02C, 0x4, 1, Row.auxExcStat⟩,
  ⟨0x1C030, 0x4, 1, Row.auxOvrCnt⟩,
  ⟨0x1C034, 0x4, 1, Row.auxSkipCnt⟩,
  ⟨0x1C038, 0x4, 1, Row.auxTmoCnt⟩,
  ⟨0x1C03C, 0x4, 1, Row.auxCalCtl⟩,
  ⟨0x1C040, 0x4, 4, Row.auxExcCfg⟩,
  ⟨0x1C060, 0x4, 8, Row.auxCalOfs⟩,
  ⟨0x1C080, 0x4, 8, Row.auxCalGain⟩,
  ⟨0x1C0A0, 0x4, 1, Row.auxCalStat⟩,
  ⟨0x1C0B0, 0x4, 4, Row.auxUtN⟩,
  ⟨0x1C100, 0x40, 2, Row.wfCfg⟩,
  ⟨0x1C104, 0x40, 2, Row.wfPitch⟩,
  ⟨0x1C108, 0x40, 2, Row.wfBaseLo⟩,
  ⟨0x1C10C, 0x40, 2, Row.wfBaseHi⟩,
  ⟨0x1C110, 0x40, 2, Row.wfSize⟩,
  ⟨0x1C114, 0x40, 2, Row.wfBlk⟩,
  ⟨0x1C118, 0x40, 2, Row.wfStartSel⟩,
  ⟨0x1C11C, 0x40, 2, Row.wfStopSel⟩,
  ⟨0x1C120, 0x40, 2, Row.wfMax⟩,
  ⟨0x1C124, 0x40, 2, Row.wfWr⟩,
  ⟨0x1C128, 0x40, 2, Row.wfRd⟩,
  ⟨0x1C12C, 0x40, 2, Row.wfStat⟩,
  ⟨0x1C130, 0x40, 2, Row.wfPos0Lo⟩,
  ⟨0x1C134, 0x40, 2, Row.wfPos0Hi⟩,
  ⟨0x1C138, 0x40, 2, Row.wfMark⟩,
  ⟨0x1C13C, 0x40, 2, Row.wfCaps⟩,
  ⟨0x1C200, 0x10, 32, Row.auxRegCfg⟩,
  ⟨0x1C204, 0x10, 32, Row.auxRegTime⟩,
  ⟨0x1C208, 0x10, 32, Row.auxRegLin⟩]

def blockAux1 : List RegSpan := [
  ⟨0x1C20C, 0x10, 32, Row.auxRegKref⟩,
  ⟨0x1C400, 0x10, 8, Row.auxInjCfg⟩,
  ⟨0x1C404, 0x10, 8, Row.auxInjTime⟩,
  ⟨0x1C408, 0x10, 8, Row.auxInjLin⟩,
  ⟨0x1C40C, 0x10, 8, Row.auxInjKref⟩,
  ⟨0x1C500, 0x10, 32, Row.auxRegSlotValue⟩,
  ⟨0x1C504, 0x10, 32, Row.auxRegSlotStatus⟩,
  ⟨0x1C508, 0x10, 32, Row.auxRegSlotTsLo⟩,
  ⟨0x1C50C, 0x10, 32, Row.auxRegSlotTsHi⟩,
  ⟨0x1C700, 0x10, 8, Row.auxInjSlotValue⟩,
  ⟨0x1C704, 0x10, 8, Row.auxInjSlotStatus⟩,
  ⟨0x1C708, 0x10, 8, Row.auxInjSlotTsLo⟩,
  ⟨0x1C70C, 0x10, 8, Row.auxInjSlotTsHi⟩,
  ⟨0x1C800, 0x8, 64, Row.auxUtX⟩,
  ⟨0x1C804, 0x8, 64, Row.auxUtY⟩,
  ⟨0x1CA00, 0x8, 64, Row.auxUtX⟩,
  ⟨0x1CA04, 0x8, 64, Row.auxUtY⟩,
  ⟨0x1CC00, 0x8, 64, Row.auxUtX⟩,
  ⟨0x1CC04, 0x8, 64, Row.auxUtY⟩,
  ⟨0x1CE00, 0x8, 64, Row.auxUtX⟩,
  ⟨0x1CE04, 0x8, 64, Row.auxUtY⟩]

/-- The registers of AUX. -/
def blockAux : List RegSpan := blockAux0 ++ blockAux1

def blockTcx0 : List RegSpan := [
  ⟨0x20000, 0x4, 1, Row.tcxCtl⟩,
  ⟨0x20004, 0x4, 1, Row.tcxStat⟩,
  ⟨0x20008, 0x4, 1, Row.tcxDerr⟩,
  ⟨0x2000C, 0x4, 1, Row.tcxDerrOfsLo⟩,
  ⟨0x20010, 0x4, 1, Row.tcxDerrOfsHi⟩,
  ⟨0x20014, 0x4, 1, Row.tcxSwitchCnt⟩,
  ⟨0x20018, 0x4, 1, Row.tcxMissCnt⟩,
  ⟨0x2001C, 0x4, 1, Row.tcxClipCnt⟩,
  ⟨0x20020, 0x4, 1, Row.tcxEscCnt⟩,
  ⟨0x20100, 0x4, 16, Row.tcxLane⟩]

/-- The registers of TCX. -/
def blockTcx : List RegSpan := blockTcx0

def blockPack0 : List RegSpan := [
  ⟨0x24000, 0x4, 1, Row.packMwin⟩,
  ⟨0x24010, 0x4, 3, Row.packFault⟩,
  ⟨0x24400, 0x4, 192, Row.packTsem⟩,
  ⟨0x24800, 0x20, 32, Row.iwCfg⟩,
  ⟨0x24804, 0x20, 32, Row.iwGeom⟩,
  ⟨0x24808, 0x20, 32, Row.iwRing⟩,
  ⟨0x2480C, 0x20, 32, Row.iwWr⟩,
  ⟨0x24810, 0x20, 32, Row.iwRd⟩,
  ⟨0x24814, 0x20, 32, Row.iwStat⟩,
  ⟨0x24818, 0x20, 32, Row.iwDropCnt⟩,
  ⟨0x2481C, 0x20, 32, Row.iwLast⟩,
  ⟨0x24C00, 0x20, 32, Row.owCfg⟩,
  ⟨0x24C04, 0x20, 32, Row.owGeom⟩,
  ⟨0x24C08, 0x20, 32, Row.owRing⟩,
  ⟨0x24C0C, 0x20, 32, Row.owSc⟩,
  ⟨0x24C10, 0x20, 32, Row.owDlv⟩,
  ⟨0x24C14, 0x20, 32, Row.owStat⟩,
  ⟨0x24C18, 0x20, 32, Row.owSkipCnt⟩,
  ⟨0x26000, 0x40, 96, Row.engCtl⟩,
  ⟨0x26004, 0x40, 96, Row.engStart⟩,
  ⟨0x26008, 0x40, 96, Row.engStat⟩,
  ⟨0x2600C, 0x40, 96, Row.engFault⟩,
  ⟨0x26010, 0x40, 96, Row.engFaddrLo⟩,
  ⟨0x26014, 0x40, 96, Row.engFaddrHi⟩,
  ⟨0x26018, 0x40, 96, Row.engImg⟩,
  ⟨0x2601C, 0x40, 96, Row.engVer⟩,
  ⟨0x26020, 0x40, 96, Row.engInbox⟩,
  ⟨0x26024, 0x40, 96, Row.engOutbox⟩,
  ⟨0x26028, 0x40, 96, Row.engMbx⟩,
  ⟨0x2602C, 0x40, 96, Row.engEcsel⟩,
  ⟨0x26030, 0x40, 96, Row.engEcsel⟩,
  ⟨0x26034, 0x40, 96, Row.engEcsel⟩,
  ⟨0x26038, 0x40, 96, Row.engEcsel⟩,
  ⟨0x2603C, 0x40, 96, Row.engEccnt⟩]

/-- The registers of PACK. -/
def blockPack : List RegSpan := blockPack0

def blockHqe0 : List RegSpan := [
  ⟨0x28000, 0x4, 1, Row.hqeCtl⟩,
  ⟨0x28004, 0x4, 1, Row.hqeStat⟩,
  ⟨0x28010, 0x4, 1, Row.hqeAqSqLo⟩,
  ⟨0x28014, 0x4, 1, Row.hqeAqSqHi⟩,
  ⟨0x28018, 0x4, 1, Row.hqeAqCqLo⟩,
  ⟨0x2801C, 0x4, 1, Row.hqeAqCqHi⟩,
  ⟨0x28020, 0x4, 1, Row.hqeAqCfg⟩,
  ⟨0x28030, 0x4, 1, Row.hqeSpillBaseLo⟩,
  ⟨0x28034, 0x4, 1, Row.hqeSpillBaseHi⟩,
  ⟨0x28038, 0x4, 1, Row.hqeSpillSize⟩,
  ⟨0x2803C, 0x4, 1, Row.hqeSpillFree⟩,
  ⟨0x28040, 0x4, 1, Row.hqeFetchTmo⟩,
  ⟨0x28044, 0x4, 1, Row.hqeHwd⟩,
  ⟨0x28050, 0x4, 1, Row.hqeQerr⟩,
  ⟨0x28054, 0x4, 1, Row.hqeErrAddrLo⟩,
  ⟨0x28058, 0x4, 1, Row.hqeErrAddrHi⟩,
  ⟨0x28060, 0x4, 4, Row.hqeOcc⟩,
  ⟨0x28080, 0x4, 16, Row.hqeJob⟩,
  ⟨0x280C0, 0x4, 1, Row.hqeTmoCnt⟩,
  ⟨0x280C4, 0x4, 1, Row.hqeBusCnt⟩,
  ⟨0x280C8, 0x4, 1, Row.hqeLoopCnt⟩,
  ⟨0x280CC, 0x4, 1, Row.hqeFailCnt⟩,
  ⟨0x280D0, 0x4, 1, Row.hqeDiscCnt⟩,
  ⟨0x280D4, 0x4, 1, Row.hqeBrgErrCnt⟩,
  ⟨0x2A000, 0x10, 256, Row.hqeMsixAddrLo⟩,
  ⟨0x2A004, 0x10, 256, Row.hqeMsixAddrHi⟩,
  ⟨0x2A008, 0x10, 256, Row.hqeMsixData⟩,
  ⟨0x2A00C, 0x10, 256, Row.hqeMsixCtrl⟩,
  ⟨0x2B000, 0x4, 8, Row.hqePba⟩]

/-- The registers of HQE. -/
def blockHqe : List RegSpan := blockHqe0

def blockIdma0 : List RegSpan := [
  ⟨0x2C000, 0x4, 1, Row.idmaBusy⟩,
  ⟨0x2C004, 0x4, 1, Row.idmaHalted⟩,
  ⟨0x2C008, 0x4, 1, Row.idmaCcStat⟩,
  ⟨0x2C00C, 0x4, 1, Row.idmaPoll⟩,
  ⟨0x2C010, 0x4, 1, Row.idmaErr⟩,
  ⟨0x2C014, 0x4, 1, Row.idmaErrAddrLo⟩,
  ⟨0x2C018, 0x4, 1, Row.idmaErrAddrHi⟩,
  ⟨0x2C020, 0x4, 1, Row.idmaBusCnt⟩,
  ⟨0x2C024, 0x4, 1, Row.idmaTmoCnt⟩,
  ⟨0x2C028, 0x4, 1, Row.idmaLoopCnt⟩,
  ⟨0x2C02C, 0x4, 1, Row.idmaEccCnt⟩,
  ⟨0x2C100, 0x40, 32, Row.chCtl⟩,
  ⟨0x2C104, 0x40, 32, Row.chDescLo⟩,
  ⟨0x2C108, 0x40, 32, Row.chDescHi⟩,
  ⟨0x2C10C, 0x40, 32, Row.chStartSel⟩,
  ⟨0x2C110, 0x40, 32, Row.chPaceSel⟩,
  ⟨0x2C114, 0x40, 32, Row.chKickSel⟩,
  ⟨0x2C118, 0x40, 32, Row.chStat⟩,
  ⟨0x2C11C, 0x40, 32, Row.chPace⟩,
  ⟨0x2C120, 0x40, 32, Row.chSrcLo⟩,
  ⟨0x2C124, 0x40, 32, Row.chSrcHi⟩,
  ⟨0x2C128, 0x40, 32, Row.chDstLo⟩,
  ⟨0x2C12C, 0x40, 32, Row.chDstHi⟩,
  ⟨0x2C130, 0x40, 32, Row.chRem⟩,
  ⟨0x2C134, 0x40, 32, Row.chHold⟩,
  ⟨0x2C138, 0x40, 32, Row.chFaddrLo⟩,
  ⟨0x2C13C, 0x40, 32, Row.chFaddrHi⟩,
  ⟨0x2CA00, 0x20, 8, Row.ccSar⟩,
  ⟨0x2CA04, 0x20, 8, Row.ccDar⟩,
  ⟨0x2CA08, 0x20, 8, Row.ccTcr⟩,
  ⟨0x2CA0C, 0x20, 8, Row.ccCcr⟩,
  ⟨0x2CA10, 0x20, 8, Row.ccCsr⟩,
  ⟨0x2CA14, 0x20, 8, Row.ccXhi⟩,
  ⟨0x2CA18, 0x20, 8, Row.ccTrigSel⟩,
  ⟨0x2CA1C, 0x20, 8, Row.ccCred⟩]

/-- The registers of IDMA. -/
def blockIdma : List RegSpan := blockIdma0

def blockDlf0 : List RegSpan := [
  ⟨0x30000, 0x4, 1, Row.dlfCfg⟩,
  ⟨0x30004, 0x4, 1, Row.dlfStat⟩,
  ⟨0x30008, 0x4, 1, Row.dlfUidLo⟩,
  ⟨0x3000C, 0x4, 1, Row.dlfUidHi⟩,
  ⟨0x30010, 0x4, 1, Row.dlfLeadUidLo⟩,
  ⟨0x30014, 0x4, 1, Row.dlfLeadUidHi⟩,
  ⟨0x30018, 0x4, 1, Row.dlfEpoch⟩,
  ⟨0x3001C, 0x4, 1, Row.dlfKey⟩,
  ⟨0x30020, 0x4, 1, Row.dlfTmo⟩,
  ⟨0x30024, 0x4, 1, Row.dlfForm⟩,
  ⟨0x30028, 0x4, 1, Row.dlfGuard⟩,
  ⟨0x3002C, 0x4, 1, Row.dlfRekey⟩,
  ⟨0x30030, 0x4, 1, Row.dlfTimeCfg⟩,
  ⟨0x30034, 0x4, 1, Row.dlfTimeStat⟩,
  ⟨0x30038, 0x4, 1, Row.dlfLcCfg⟩,
  ⟨0x3003C, 0x4, 1, Row.dlfLcStat⟩,
  ⟨0x30040, 0x4, 1, Row.dlfLcTick⟩,
  ⟨0x30044, 0x4, 1, Row.dlfErr⟩,
  ⟨0x30048, 0x4, 1, Row.dlfCrcCnt⟩,
  ⟨0x3004C, 0x4, 1, Row.dlfHoldCnt⟩,
  ⟨0x30050, 0x4, 1, Row.dlfOrphanCnt⟩,
  ⟨0x30054, 0x4, 1, Row.dlfRspTmoCnt⟩,
  ⟨0x30058, 0x4, 1, Row.dlfLateRspCnt⟩,
  ⟨0x3005C, 0x4, 1, Row.dlfViolCnt⟩,
  ⟨0x30060, 0x4, 1, Row.dlfUnreachCnt⟩,
  ⟨0x30064, 0x4, 1, Row.dlfAuthFailCnt⟩,
  ⟨0x30068, 0x4, 1, Row.dlfLcLateCnt⟩,
  ⟨0x30080, 0x8, 8, Row.dlfRwinA⟩,
  ⟨0x30084, 0x8, 8, Row.dlfRwinB⟩,
  ⟨0x300C0, 0x4, 32, Row.dlfRt⟩,
  ⟨0x30200, 0x40, 4, Row.dlCtl⟩,
  ⟨0x30204, 0x40, 4, Row.dlStat⟩,
  ⟨0x30208, 0x40, 4, Row.dlPeerLo⟩,
  ⟨0x3020C, 0x40, 4, Row.dlPeerHi⟩,
  ⟨0x30210, 0x40, 4, Row.dlDelay⟩,
  ⟨0x30214, 0x40, 4, Row.dlAsym⟩,
  ⟨0x30218, 0x40, 4, Row.dlCred⟩,
  ⟨0x3021C, 0x40, 4, Row.dlPol⟩,
  ⟨0x30220, 0x40, 4, Row.dlReplayCnt⟩,
  ⟨0x30224, 0x40, 4, Row.dlPolCnt⟩]

def blockDlf1 : List RegSpan := [
  ⟨0x30228, 0x40, 4, Row.dlDownCnt⟩,
  ⟨0x3022C, 0x40, 4, Row.dlTerrCnt⟩,
  ⟨0x30400, 0x20, 16, Row.stCfg⟩,
  ⟨0x30404, 0x20, 16, Row.stGeom⟩,
  ⟨0x30408, 0x20, 16, Row.stDl⟩,
  ⟨0x3040C, 0x20, 16, Row.stStat⟩,
  ⟨0x30410, 0x20, 16, Row.stLines⟩,
  ⟨0x30414, 0x20, 16, Row.stMissCnt⟩,
  ⟨0x30418, 0x20, 16, Row.stLateCnt⟩]

/-- The registers of DLF. -/
def blockDlf : List RegSpan := blockDlf0 ++ blockDlf1

def blockHlt0 : List RegSpan := [
  ⟨0x34000, 0x4, 1, Row.hltCfg⟩,
  ⟨0x34004, 0x4, 1, Row.hltStat⟩,
  ⟨0x34008, 0x4, 1, Row.hltWake⟩,
  ⟨0x34010, 0x4, 1, Row.hltAlert⟩,
  ⟨0x34014, 0x4, 1, Row.hltAlertEn⟩,
  ⟨0x34020, 0x4, 4, Row.hltTs⟩,
  ⟨0x34030, 0x4, 1, Row.hltThr⟩,
  ⟨0x34040, 0x4, 12, Row.hltRail⟩,
  ⟨0x34080, 0x4, 12, Row.hltRwarn⟩,
  ⟨0x340C0, 0x4, 1, Row.hltLogCnt⟩,
  ⟨0x340C4, 0x4, 1, Row.hltAonMs⟩,
  ⟨0x340C8, 0x4, 1, Row.hltNackCnt⟩,
  ⟨0x340CC, 0x4, 1, Row.hltPecCnt⟩,
  ⟨0x340D0, 0x4, 1, Row.hltTmoCnt⟩,
  ⟨0x340D4, 0x4, 1, Row.hltFlStat⟩,
  ⟨0x34100, 0x8, 32, Row.hltLogW0⟩,
  ⟨0x34104, 0x8, 32, Row.hltLogW1⟩]

/-- The registers of HLT. -/
def blockHlt : List RegSpan := blockHlt0

def blockSec0 : List RegSpan := [
  ⟨0x38000, 0x4, 1, Row.secBootInfo⟩,
  ⟨0x38004, 0x4, 1, Row.secBootVer⟩,
  ⟨0x38008, 0x4, 1, Row.secSelftest⟩,
  ⟨0x3800C, 0x4, 1, Row.secStAddrLo⟩,
  ⟨0x38010, 0x4, 1, Row.secStAddrHi⟩,
  ⟨0x38014, 0x4, 1, Row.secSvcStat⟩,
  ⟨0x38018, 0x4, 4, Row.secSvcRes⟩,
  ⟨0x38028, 0x4, 1, Row.secSvcHb⟩,
  ⟨0x3802C, 0x4, 1, Row.secSvcCfg⟩]

/-- The registers of SEC. -/
def blockSec : List RegSpan := blockSec0

/-- The registers of the block that holds a BAR0 offset. -/
def blockOf (off : Nat) : List RegSpan :=
  match off / 0x4000 with
  | 0 => blockSys
  | 1 => blockEvm
  | 2 => blockTsq
  | 3 => blockVaf
  | 4 => blockShd
  | 5 => blockGeo
  | 6 => blockGait
  | 7 => blockAux
  | 8 => blockTcx
  | 9 => blockPack
  | 10 => blockHqe
  | 11 => blockIdma
  | 12 => blockDlf
  | 13 => blockHlt
  | 14 => blockSec
  | _ => []

/-- Whether an offset is one of a span's registers. -/
def RegSpan.has (g : RegSpan) (off : Nat) : Bool :=
  Nat.ble g.base off && ((off - g.base) % g.stride == 0) && Nat.blt ((off - g.base) / g.stride) g.count

/-- The fields of the register at a BAR0 offset; none for an unlisted offset (R8). -/
def rowOf (off : Nat) : Option RegRow :=
  ((blockOf off).find? (fun g => RegSpan.has g off)).map RegSpan.row

/-- The reset value of the register at an offset (R516); an unlisted offset reads 0 (R8). The sampled registers
(strapped, detected, OTP) are set by the power-up operations. -/
def resetOf (off : Nat) : BitVec 32 :=
  match rowOf off with
  | some r => BitVec.ofNat 32 r.reset
  | none => 0

end Reg
end Sys2Proof.Machine
end

