-- ==== Sys2Proof/Machine/Bits.lean ====
section
/-!
DEFINITION. Sys2Proof/Machine/Bits.lean: bit fields, sign extension, saturation and byte order.
-/
namespace Sys2Proof.Machine

/-- The mask of `n` bits at bit `lo`. -/
def fieldMask (lo n : Nat) : Word := (BitVec.allOnes 32 >>> (32 - n)) <<< lo

/-- The value of a field of a word. -/
def Fld.get (f : Fld) (w : Word) : Nat := (w.extractLsb' f.lo f.width).toNat

/-- The word with a field set to `x`, taken modulo the field's width. -/
def Fld.put (f : Fld) (w : Word) (x : Nat) : Word :=
  (w &&& ~~~(fieldMask f.lo f.width)) ||| ((BitVec.ofNat 32 x <<< f.lo) &&& fieldMask f.lo f.width)

/-- The greatest value a field holds. -/
def Fld.max (f : Fld) : Nat := 2 ^ f.width - 1

/-- Bits `lo` to `lo + n - 1` of a number. -/
def bitsOf (v lo n : Nat) : Nat := (v >>> lo) % 2 ^ n

/-- A number of `n` bits read as two's complement. -/
def signed (n v : Nat) : Int :=
  if v % 2 ^ n < 2 ^ (n - 1) then ((v % 2 ^ n : Nat) : Int) else ((v % 2 ^ n : Nat) : Int) - (2 ^ n : Nat)

/-- A signed number as its `n`-bit two's complement pattern. -/
def unsigned (n : Nat) (i : Int) : Nat := (i % ((2 ^ n : Nat) : Int)).toNat

/-- A signed number clipped to a range. -/
def clampInt (lo hi i : Int) : Int := if i < lo then lo else if hi < i then hi else i

/-- Division rounding toward minus infinity. -/
def floorDiv (a b : Int) : Int := Int.fdiv a b

/-- Division rounding to nearest, halves away from zero. -/
def roundDiv (a : Int) (b : Nat) : Int :=
  if 0 ≤ a then ((2 * a.toNat + b) / (2 * b) : Nat) else -(((2 * (-a).toNat + b) / (2 * b) : Nat) : Int)

/-- One more, saturating at all ones (the counters of the register tables). -/
def satInc (w : Word) : Word := if w = BitVec.allOnes 32 then w else w + 1

/-- Bytes of a number, least significant first (little-endian, R6, R14). -/
def bytesLE (n v : Nat) : List Byte := (List.range n).map (fun i => BitVec.ofNat 8 (v >>> (8 * i)))

/-- Bytes of a number, most significant first. -/
def bytesBE (n v : Nat) : List Byte := (bytesLE n v).reverse

/-- The number that bytes spell, least significant first. -/
def natLE : List Byte → Nat
  | [] => 0
  | b :: r => b.toNat + 256 * natLE r

/-- The index of the least set bit below `n`, if there is one. -/
def lowestSet (v n : Nat) : Option Nat := (List.range n).find? (fun i => v.testBit i)

/-- The set bits below `n`, rising. -/
def setBits (v n : Nat) : List Nat := (List.range n).filter (fun i => v.testBit i)

/-- The integer square root, by `n` halving steps of the interval `[lo, hi)`. -/
def isqrtGo (x : Nat) : Nat → Nat → Nat → Nat
  | 0, lo, _ => lo
  | n + 1, lo, hi =>
    let m := (lo + hi) / 2
    if m * m ≤ x then isqrtGo x n m hi else isqrtGo x n lo m

/-- The integer square root of a number below 2 ^ 128. -/
def isqrt (x : Nat) : Nat := isqrtGo x 65 0 (2 ^ 64)

end Sys2Proof.Machine
end

