-- ==== Sys2Proof/Machine/Codes.lean ====
section
/-!
DEFINITION. Sys2Proof/Machine/Codes.lean: the check codes of the spec: CRC-32C (R301), the CRC-8 of SMBus packet error
checking (R468), and the (137,128) SEC-DED code of storage words and flits (R33, R429).
-/
namespace Sys2Proof.Machine

/-- One bit step of the reflected CRC-32C. -/
def crc32cBit (c : BitVec 32) : BitVec 32 := if c.getLsbD 0 then (c >>> 1) ^^^ 0x82F63B78 else c >>> 1

/-- One byte of CRC-32C, before the final XOR. -/
def crc32cByte (c : BitVec 32) (b : Byte) : BitVec 32 :=
  let x := c ^^^ b.zeroExtend 32
  crc32cBit (crc32cBit (crc32cBit (crc32cBit (crc32cBit (crc32cBit (crc32cBit (crc32cBit x)))))))

/-- CRC-32C of bytes (R301). -/
def crc32c (l : List Byte) : BitVec 32 := (l.foldl crc32cByte 0xFFFFFFFF) ^^^ 0xFFFFFFFF

/-- One bit step of the CRC-8 with polynomial x^8 + x^2 + x + 1. -/
def crc8Bit (c : BitVec 8) : BitVec 8 := if c.getLsbD 7 then (c <<< 1) ^^^ 0x07 else c <<< 1

/-- CRC-8 of bytes (R468). -/
def crc8 (l : List Byte) : BitVec 8 :=
  l.foldl (fun c b => crc8Bit (crc8Bit (crc8Bit (crc8Bit (crc8Bit (crc8Bit (crc8Bit (crc8Bit (c ^^^ b))))))))) 0

/-- Number of ones among the 9 low bits. -/
def weight9 (v : Nat) : Nat := ((List.range 9).filter (fun i => v.testBit i)).length

/-- The 9-bit columns of D[0]-D[127]: the values of weight 3 rising, then of weight 5 rising, the first 128 (R429). -/
def eccColumns : List Nat :=
  ((List.range 512).filter (fun v => weight9 v == 3) ++ (List.range 512).filter (fun v => weight9 v == 5)).take 128

/-- What a syndrome says (R429). -/
inductive Syndrome where
  | clean | correct (bit : Nat) | poison | uncorrectable
  deriving DecidableEq, Repr

/-- The contribution of a flipped bit of a 137-bit word to the syndrome: data bits 0-127, check bits 128-136. -/
def eccBit (i : Nat) : Nat := if i < 128 then eccColumns.getD i 0 else 2 ^ (i - 128)

/-- The syndrome of a set of flipped bits, on a word whose stored pattern gives `base`. -/
def eccSyndrome (base : Nat) (flips : List Nat) : Nat := flips.foldl (fun a i => a ^^^ eccBit i) base

/-- Interpretation of a syndrome (R429). -/
def eccDecode (syn : Nat) : Syndrome :=
  if syn = 0 then .clean
  else if syn = 0x1FF then .poison
  else match (List.range 9).find? (fun j => syn == 2 ^ j) with
    | some j => .correct (128 + j)
    | none => match eccColumns.findIdx? (fun c => c == syn) with
      | some i => .correct i
      | none => .uncorrectable

end Sys2Proof.Machine
end

