-- ==== Sys2Proof/Config.lean ====
section
/-!
DEFINITION. Sys2Proof/Config.lean: what the spec leaves open. Each constant has no body, so that nothing proved of the
model depends on a value chosen for it.
-/
namespace Sys2Proof.Config

/-- Free values, by the number of the draw (State.freeCount): the level of an undriven input without a pull (R64),
whether a PORST_N pulse of 1 to 10 µs resets (R534), and the other open choices of the assumption log. -/
opaque freeValue : Nat → Nat

/-- The thermocouple reference functions E(t) of IEC 60584-1, which R281 names and the spec does not give: by curve code
(Table 8-5) and temperature in 1/32 degree Celsius, in picovolts. -/
opaque emf : Nat → Int → Int

end Sys2Proof.Config
end

