-- ==== Sys2Proof/Machine/Table.lean ====
section
/-!
DEFINITION. Sys2Proof/Machine/Table.lean: sparse tables, the one form in which the model holds registers, memory bytes
and per-index block state. A table lists the entries that differ from what an unlisted key holds, by rising key, so that
equal contents are equal data.
-/
namespace Sys2Proof.Machine

/-- Entries of a table, by rising key, none equal to what its key holds when unlisted. -/
abbrev Table (α : Type) := List (Nat × α)

/-- What key `k` holds: its entry, or `d k` when it has none. -/
def Table.get {α : Type} (d : Nat → α) (t : Table α) (k : Nat) : α :=
  match t with
  | [] => d k
  | e :: r => if e.1 = k then e.2 else Table.get d r k

/-- The table without any entry of key `k`. -/
def Table.erase {α : Type} (t : Table α) (k : Nat) : Table α :=
  match t with
  | [] => []
  | e :: r => if e.1 = k then Table.erase r k else e :: Table.erase r k

/-- The table with one more entry, placed before the first entry of a greater key. -/
def Table.insert {α : Type} (t : Table α) (k : Nat) (v : α) : Table α :=
  match t with
  | [] => [(k, v)]
  | e :: r => if k < e.1 then (k, v) :: e :: r else e :: Table.insert r k v

/-- The table after key `k` takes the value `v`. -/
def Table.set {α : Type} [DecidableEq α] (d : Nat → α) (t : Table α) (k : Nat) (v : α) : Table α :=
  if v = d k then t.erase k else (t.erase k).insert k v

/-- Every key of the table is greater than `b`, keys rise strictly, and no entry equals its unlisted value. -/
def Table.canonFrom {α : Type} [DecidableEq α] (d : Nat → α) : Option Nat → Table α → Bool
  | _, [] => true
  | b, e :: r =>
    (match b with | none => true | some n => decide (n < e.1)) && decide (e.2 ≠ d e.1) && canonFrom d (some e.1) r

/-- The canonical form of a table. -/
def Table.canon {α : Type} [DecidableEq α] (d : Nat → α) (t : Table α) : Bool := Table.canonFrom d none t

/-- A sorted list of numbers without repeats, with `k` added. -/
def addSorted (l : List Nat) (k : Nat) : List Nat :=
  match l with
  | [] => [k]
  | x :: r => if k < x then k :: x :: r else if k = x then x :: r else x :: addSorted r k

end Sys2Proof.Machine
end

