-- ==== Sys2Proof/Machine/State.lean ====
section
/-!
DEFINITION. Sys2Proof/Machine/State.lean: the state of the IV4896 as plain data, its reset, and the reasons a command can
stop. Every register lives in one table keyed by its BAR0 offset (R516); what the spec gives the blocks besides registers
stands in one structure per block.
-/
namespace Sys2Proof.Machine

/-- Reasons to stop with a fault: none. The spec gives the block no command that stops it: an access to an address that
does not exist completes with an error response and changes nothing else (R28), and every other error sets a flag. -/
inductive Fault where
  deriving DecidableEq, Repr

/-- Reasons to refuse a command. -/
inductive Refusal where
  /-- Raised by exec's arm of a command that has no meaning yet, named by its mnemonic. Safe: the machine stops. -/
  | notModelled (mnemonic : String)
  deriving DecidableEq, Repr

/-! ## Clocks, memories, pins and power (Architecture, Clocks and the Event Matrix; Package, Pins, Power Domains and
Reset) -/

/-- What the JTAG port makes of the pins (R65). -/
inductive PinDrive where
  | functional | boundary | clamp | highz
  deriving DecidableEq, Repr

/-- A power-domain request that waits for a transition to complete (R74). -/
structure PdRequest where
  dom : Nat
  on : Bool
  path : Path
  deriving DecidableEq, Repr

/-- State of SYS and the AON domain besides registers. -/
structure Sys where
  /-- SYS.TIME, in FABCLK ticks (R26); its two registers are views of it. -/
  time : BitVec 64 := 0
  /-- The counter has started since the last cold reset (R26). -/
  timeStarted : Bool := false
  /-- Strength of the reset in progress, 1 to 4 of Table 2-11; 0 none. -/
  resetting : Nat := 0
  /-- A warm reset runs until READY returns to 1 (R79). -/
  warmActive : Bool := false
  /-- PORST_N is low. -/
  porstLow : Bool := false
  /-- Main rails outside their limits (R69). -/
  railsBad : List Nat := []
  /-- Index of the next word of the patrol scrubber's pass (R37). -/
  scrubPos : Nat := 0
  /-- Word addresses of poisoned words, rising (R34). -/
  poison : List Nat := []
  /-- Storage bit errors not yet read, per 128-bit word address: flipped bit numbers, 0-127 data, 128-136 check. -/
  bitErrs : Table (List Nat) := []
  /-- Levels that the board drives on GPIO pins; none where nothing drives the pin (R64). -/
  gpioExt : Table (Option Bool) := []
  /-- GPIO pins in the 100 ns high time of an event output (R64). -/
  gpioHigh : List Nat := []
  /-- Domains that are coming on and have not completed (R72, R75). -/
  pdRising : List Nat := []
  /-- Requests that wait for a transition (R74), oldest first. -/
  pdDeferred : List PdRequest := []
  /-- JTAG instruction register, 6 bits (R65). -/
  jtagIr : BitVec 6 := 0x02
  /-- Boundary register, in scan order. -/
  boundary : List Bool := []
  /-- What drives the pins. -/
  pins : PinDrive := .functional
  /-- Fields of ETIMn that run below COUNT: the prescaler count since the last load (R43). -/
  etimPresc : Table Nat := []
  /-- Timers whose enable acts as a start event in the following cycle, which then does not count (R43, R44). -/
  etimNew : List Nat := []
  deriving DecidableEq, Repr

/-! ## Timing sequencer (Sensor Timing and Position-Locked Lines) -/

/-- What a line program is doing. -/
inductive LpRun where
  | idle | line | flush
  deriving DecidableEq, Repr

/-- The exposure window of one phase (R106). -/
inductive WinState where
  | closed | delayed | opened
  deriving DecidableEq, Repr

/-- One phase of a line program: its window, the cycles in which it opens and last holds, and whether the line has
started the phase, with its end of exposure (R106-R108). -/
structure Phase where
  win : WinState := .closed
  opens : Nat := 0
  last : Nat := 0
  started : Bool := false
  expEnd : Nat := 0
  deriving DecidableEq, Repr

/-- A PIX burst in progress (R94, R98). -/
structure Burst where
  pattern : Nat
  smp : Bool
  tag : Nat
  /-- Ordinal of the line whose samples the burst carries. -/
  line : Nat
  /-- Samples are sent: the burst is sampling, not stale, and its line exists (R111, R112, R115). -/
  sends : Bool
  deriving DecidableEq, Repr

/-- State of a line program besides its registers. Cycles are TGCLK cycles. -/
structure Lp where
  run : LpRun := .idle
  /-- Word of the next instruction; 1024 after the last word. -/
  pc : Nat := 0
  /-- Cycle in which the next instruction starts. -/
  cycle : Nat := 0
  /-- Cycle of the line's first instruction. -/
  first : Nat := 0
  /-- Loop counters, none while inactive (R95). -/
  loop0 : Option Nat := none
  loop1 : Option Nat := none
  /-- The event line a WAITEV waits for and the first cycle whose pulses count (R93). -/
  waiting : Option (Nat × Nat) := none
  phases : Table Phase := []
  /-- Ordinal of the line in progress: LINE_CNT at its trigger. -/
  line : Nat := 0
  /-- The line's ENDL has acted; it stays in progress until its windows close (R109). -/
  ended : Bool := false
  /-- The line's STALE count has been taken (R111: each stale line is counted once). -/
  staleSeen : Bool := false
  /-- The pending line (R112): its ordinal, its phases' ends of exposure, its first cycle, and whether its readout began. -/
  pending : Option Nat := none
  pendPhases : Table Phase := []
  pendFirst : Nat := 0
  pendRead : Bool := false
  /-- The pending line has been counted stale. -/
  pendStale : Bool := false
  /-- A flush line fell due while another line was in progress (R114). -/
  flushDue : Bool := false
  /-- Lines that planes are still to deliver as repeats (R110, R111, R113): ordinal and plane mask, oldest first. -/
  repeats : List (Nat × Nat) := []
  /-- Fine delay of the line in 78.125 ps steps, for a line-clock tick (R456). -/
  phi : Nat := 0
  burst : Option Burst := none
  /-- Samples taken in the burst, per input. -/
  taken : Table Nat := []
  /-- SMP bursts of the current line, and of the line read with PREV = 1, per input and tag (R129). -/
  bursts : Table Nat := []
  prevBursts : Table Nat := []
  deriving DecidableEq, Repr

/-- A line-clock tick on its way to the programs with SRC 6 (R105, R456, R457): its number, its stamp in fabric time, and the
programs that it has not triggered yet. -/
structure LcTick where
  tick : Nat
  stamp : Nat
  late : Bool
  /-- The tick itself never arrived: a skipped trigger stands for it. -/
  skip : Bool
  left : List Nat
  /-- Some program has taken it. -/
  taken : Bool := false
  deriving DecidableEq, Repr

/-- State of the sequencer besides registers: the output levels. -/
structure Tsq where
  lps : Table Lp := []
  /-- Ticks of the line clock that have arrived, oldest first. -/
  ticks : List LcTick := []
  /-- Levels of TG0-TG23. -/
  tg : BitVec 24 := 0
  /-- Levels of LS0-LS11. -/
  ls : BitVec 12 := 0
  deriving DecidableEq, Repr

/-! ## Video front end (Video Front End and Interleaved Converters) -/

/-- State of a converter bank besides its registers. -/
structure Bank where
  /-- The active slices in their cyclic order (R125). -/
  order : List Nat := []
  /-- Place in the order of the slice that takes the next strobe. -/
  next : Nat := 0
  /-- Per slice, the time in 78.125 ps steps until which it is busy. -/
  busy : Table Nat := []
  /-- Per slice, the number of its last completed calibration; 0 never (R141). -/
  calNo : Table Nat := []
  calCount : Nat := 0
  /-- Completed steps of the fast pass (Table 4-2). -/
  fastStep : Nat := 0
  /-- Differences of the latest compared pairs in 1/16 LSB, newest first, at most 64 (R142). -/
  pairs : List Int := []
  /-- Failed comparisons against the present exit slice (R146). -/
  fails : Nat := 0
  /-- The slice compared in place of the exit slice, once two comparisons against it have failed (R146). -/
  partner : Option Nat := none
  /-- New offset, gain and skew corrections of the ready slice, to be written at the handover (R143). -/
  newCorr : Nat × Nat × Nat := (0, 0, 0)
  /-- Lines with converted samples on the bank, newest first, as program and ordinal; and those that a forced handover cut (R144). -/
  touched : List (Nat × Nat) := []
  swapped : List (Nat × Nat) := []
  /-- The comparison has passed and the handover waits for a gap (R143). -/
  passed : Bool := false
  /-- WAIT_MS have passed: the handover is forced at the next line end (R144). -/
  forced : Bool := false
  /-- The exit slice is to be marked bad at the handover (R146). -/
  markExit : Bool := false
  deriving DecidableEq, Repr

/-- The video monitor of one input (R150, R151): extremes and counts of the line being judged, and the run of faulty lines. -/
structure Monitor where
  line : Nat := 0
  open_ : Bool := false
  min : Nat := 0
  max : Nat := 0
  rails : Nat := 0
  count : Nat := 0
  run : Nat := 0
  /-- Ordinals of the faulty lines of the run, newest first, at most 4. -/
  lines : List Nat := []
  deriving DecidableEq, Repr

/-- A converted sample, or a stand-in (R126), on its way to the shading stage (R127). -/
structure Sample where
  lp : Nat
  line : Nat
  plane : Nat
  x : Nat
  raw : Nat
  /-- Trim entry 6s + k of the sample's segment and tag. -/
  entry : Nat
  deriving DecidableEq, Repr

/-- State of VAF besides registers. -/
structure Vaf where
  banks : Table Bank := []
  monitors : Table Monitor := []
  /-- Samples between the converters and the shading stage, oldest first. -/
  fifo : List Sample := []
  /-- Inputs calibrated by the running self-calibration (R136). -/
  fgInputs : Nat := 0
  /-- Input that the test DAC drives now, none when it drives none (R153). -/
  dacOn : List Nat := []
  deriving DecidableEq, Repr

/-! ## Shading stage (Shading, Reference Strip and Colour-Line Alignment) -/

/-- One line of one plane: raw codes and shaded values by x. -/
structure PlaneLine where
  y : Nat
  raw : Table Nat := []
  /-- Shaded values before the trim, and after it (R160). -/
  v : Table Nat := []
  t : Table Nat := []
  /-- Its last sample has been shaded. -/
  ready : Bool := false
  /-- The line was delivered downstream. -/
  done : Bool := false
  /-- Samples that carry poison, by x. -/
  bad : List Nat := []
  /-- A repeat of an earlier line (R110, R111, R113). -/
  rep : Bool := false
  deriving DecidableEq, Repr

/-- One line of a group: its temperature, weight and strip line. -/
structure GroupLine where
  y : Nat
  temp : Int
  /-- The weight of SHADE = 3, set with the line's first sample (R161). -/
  weight : Option Nat := none
  /-- A sample of the line was shaded during COPY: the set used instead, 0 A, 1 B (R179). -/
  fallback : Option Nat := none
  /-- Strip line number, none outside a capture (R168). -/
  strip : Option Nat := none
  /-- What is listed for the line so far, as cause + 2^8 * index + 2^16 * planes. -/
  causes : List Nat := []
  /-- Trigger position when the program has a position source. -/
  pos : Int := 0
  /-- SYS.TIME at the trigger. -/
  time : Nat := 0
  /-- The line-clock tick that triggered the line (R459). -/
  tick : Nat := 0
  deriving DecidableEq, Repr

/-- A strip capture (R168, R172). Pixel keys are plane * 65536 + x, line keys plane * 65536 + s. -/
structure Capture where
  full : Bool
  /-- Next strip line. -/
  s : Nat := 0
  /-- The request came from FULL_REQ, not from drift (R174). -/
  byRequest : Bool := false
  dark : Table Nat := []
  /-- Black and white zone sums per pixel, of v and of raw codes, aligned. -/
  black : Table Nat := []
  white : Table Nat := []
  rawBlack : Table Nat := []
  rawWhite : Table Nat := []
  /-- Raw 4095 samples of the white zone, per plane. -/
  clipped : Table Nat := []
  /-- Sums of the white-zone lines, of v and of raw codes. -/
  lineSum : Table Nat := []
  rawLineSum : Table Nat := []
  /-- Sums of the fiducial pixels' raw codes per line. -/
  fidSum : Table Nat := []
  /-- Trim entry that placed each pixel, plus 1. -/
  entry : Table Nat := []
  tempSum : Int := 0
  tempNum : Nat := 0
  tempBad : Bool := false
  listed : Bool := false
  deriving DecidableEq, Repr

/-- State of a shading group besides its registers. -/
structure Group where
  /-- Latest temperature result of the source entry since enable, none before one (R166). -/
  temp : Option Int := none
  tempValid : Bool := false
  tempLate : Bool := false
  /-- Last good T since enable (R166). -/
  lastGood : Option Int := none
  /-- Ordinal of the first line triggered since enable (R183). -/
  firstLine : Option Nat := none
  lines : List GroupLine := []
  /-- A strip event was accepted and its strip line 0 is still to come: none, or whether the mode is full. -/
  stripDue : Option Bool := none
  /-- The next trigger is the group's document boundary (R169). -/
  boundary : Bool := false
  capture : Option Capture := none
  /-- Rejected full captures in a row (R174). -/
  rejects : Nat := 0
  byRequest : Bool := false
  /-- Target set of COMPUTE and COPY: 0 A, 1 B (R175). -/
  target : Nat := 0
  /-- EN was cleared during COPY (Table 5-3). -/
  offAfterCopy : Bool := false
  /-- Trim and full status for the record: trim status, full RESULT, each none before a capture. -/
  trimStatus : Option Nat := none
  fullStatus : Option Nat := none
  deriving DecidableEq, Repr

/-- State of SHD besides registers. -/
structure Shd where
  groups : Table Group := []
  /-- Lines of each plane, newest first. -/
  planes : Table (List PlaneLine) := []
  /-- Slot being written by the calibration save, 0 A, 1 B; none before it starts its flash work (R190). -/
  saveSlot : Option Nat := none
  /-- The snapshot of the record body. -/
  saveBody : List Byte := []
  deriving DecidableEq, Repr

/-! ## Geometry (Edges, Skew and the Document Record) -/

/-- A document window of an edge unit (R192-R203). -/
structure Window where
  /-- Triggers still to be skipped before y = 0; none once y = 0 has come. -/
  skip : Nat := 0
  /-- Ordinal of line y = 0 of the group's program. -/
  origin : Option Nat := none
  /-- Lines evaluated: y of the next line to evaluate. -/
  y : Nat := 0
  prevDoc : Bool := false
  leadRun : Nat := 0
  trailRun : Nat := 0
  early : Bool := false
  lead : Option Nat := none
  trail : Option Nat := none
  /-- Side points by y, and column points by column number. -/
  xL : Table Nat := []
  xR : Table Nat := []
  yT : Table Nat := []
  yB : Table Nat := []
  tLead : Int := 0
  wLead : Nat := 0
  posLead : Int := 0
  /-- Closed, with Y_END = y; the fits are outstanding. -/
  closed : Bool := false
  /-- Track slot that holds the record. -/
  slot : Nat := 0
  deriving DecidableEq, Repr

/-- An exception entry of the record (Table 6-4). -/
structure ExcEntry where
  unit : Nat
  y : Nat
  cause : Nat
  run : Nat
  index : Nat
  planes : Nat
  deriving DecidableEq, Repr

/-- A seam entry of the record (Table 6-3). -/
structure SeamEntry where
  unit : Nat
  y : Nat
  status : Nat
  resid : Int
  applied : Int
  qual : Nat
  overlap : Nat
  deriving DecidableEq, Repr

/-- A side section of the record (Table 6-2). -/
structure Side where
  unit : Nat
  group : Nat := 0
  back : Nat := 0
  flags : Nat := 0
  yLead : Nat := 0
  yTrail : Nat := 0
  yEnd : Nat := 0
  skew : Int := 0
  skewSrc : Nat := 0
  confE : List Nat := [0, 0, 0, 0]
  corners : List Int := []
  cornerV : Nat := 0
  width : Nat := 0
  length : Nat := 0
  trim : Nat := 0
  full : Nat := 0
  tLead : Int := 0
  wLead : Nat := 0
  posLead : Int := 0
  deriving DecidableEq, Repr

/-- A document record being assembled in one of a track's two slots (R208). -/
structure DocRecord where
  busy : Bool := false
  /-- Units that opened a window for it, and those whose fit is outstanding. -/
  units : List Nat := []
  open_ : List Nat := []
  sides : List Side := []
  exc : List ExcEntry := []
  excLost : Nat := 0
  causeSeen : Nat := 0
  seams : List SeamEntry := []
  seamOvf : Bool := false
  /-- Holders of the record: engine n as n, stream context c as 4096 + c. -/
  holds : List Nat := []
  status : Nat := 0
  tLead : Nat := 0
  late : Bool := false
  /-- Complete, its bytes wait for HQE. -/
  complete : Bool := false
  bytes : List Byte := []
  /-- Order of the slots: the smaller is older. -/
  seq : Nat := 0
  deriving DecidableEq, Repr

/-- State of GEO besides registers. Windows by unit * 2 + slot of their record; records by track * 2 + slot. -/
structure Geo where
  /-- Origin and end ordinals of the last completed window of each unit, for late exceptions (R209). -/
  past : Table (Option (Nat × Nat)) := []
  windows : Table (Option Window) := []
  records : Table DocRecord := []
  /-- Records opened so far, to tell the older slot. -/
  opened : Nat := 0
  deriving DecidableEq, Repr

/-! ## Shared records -/

/-- An asynchronous event waiting for the host (R399, Table 11-8). -/
structure AsyncEvent where
  kind : Nat
  detail : Nat
  result1 : Nat
  deriving DecidableEq, Repr

/-- One delivered line of a plane (R183). -/
structure OutLine where
  y : Nat
  vals : List Nat
  bad : List Nat := []
  rep : Bool := false
  deriving DecidableEq, Repr

/-! ## Halter port, health monitor and secure store -/

/-- State of the AON domain's halter port besides registers. -/
structure Hlt where
  /-- HLT_ALERT_N is asserted (R470). -/
  alertN : Bool := false
  /-- Words for the halter, oldest first, at most 16 (R495). -/
  outbox : List Word := []
  /-- Requests accepted since AON power-up, modulo 128; STATUS and data of the last one; none before the first (R472). -/
  seq : Nat := 0
  resp : Option (List Byte) := none
  /-- A WAKE with ON = 0 still executes (R478), and the interface that asked, USB or not; none when a write of HLT.WAKE did. -/
  waking : Option (Option Bool) := none
  /-- What the port returned to the last read. -/
  answer : List Byte := []
  /-- Contents of the flash, erased bytes unlisted, and of the OTP array. -/
  flash : Table Byte := []
  otp : Table Byte := []
  /-- The flash operation that runs: command code, address, bytes to program (none erases 4 KiB or 64 KiB as `n`) (R488). -/
  flashOp : Option (Nat × Nat × Nat × List Byte) := none
  /-- TEMP_HI has been raised and not every sensor has read below HI - 80 since (R482). -/
  hot : Bool := false
  /-- Sensors whose last sample was at or above CRIT (R483). -/
  crit : List Nat := []
  /-- The 100 µs of a RESET KIND 1, or those before HLT_WAKE falls, run (R477, R478). -/
  pulse : Bool := false
  /-- The 1 ms after AON power-up runs (R476). -/
  wakeDue : Bool := true
  /-- The hold in force was started by a critical temperature (R483). -/
  critHold : Bool := false
  deriving DecidableEq, Repr

/-! ## Transport (Transport, Gaits and Seam-Free Resume) -/

/-- What a path does when its axes come to rest. -/
inductive AtRest where
  | stay | stop | halt | jam | off | approach | cleared
  deriving DecidableEq, Repr

/-- State of a transport path besides its registers. Speeds in full steps per second, in units of 2^-16 / 100,000. -/
structure PathSt where
  speed : Nat := 0
  target : Nat := 0
  /-- Speed of the feed axis (R244). -/
  feedSpeed : Nat := 0
  /-- Deceleration at JDEC instead of DEC (R247, Table 7-1). -/
  hard : Bool := false
  /-- Moving in reverse (R234, R248). -/
  reverse : Bool := false
  atRest : AtRest := .stay
  /-- FEED_HOLD was set by rule 1 of R229. -/
  holdByLoop : Bool := false
  /-- A flow path goes to HALT once IN_TRACK = 0 (Table 7-1). -/
  haltWhenEmpty : Bool := false
  /-- The rest position of a seam stop and the checkpoints covered there; slip is still to be checked (R233). -/
  restPos : Int := 0
  restLevels : Nat := 0
  slipDue : Bool := false
  /-- Next overlap compare (R235). -/
  overlap : Nat := 0
  /-- Per checkpoint, the positions at which the waiting documents covered the previous checkpoint, oldest first (R246). -/
  waiting : Table (List Int) := []
  /-- Per checkpoint, the position at which it was covered; none while uncovered. -/
  coveredAt : Table (Option Int) := []
  /-- Groups whose seam result is outstanding (R239). -/
  seams : List Nat := []
  /-- The position that ends a reverse move (R234, R248). -/
  goal : Int := 0
  deriving DecidableEq, Repr

/-- State of an encoder besides its registers: the accepted levels of A and B. -/
structure Enc where
  a : Bool := false
  b : Bool := false
  deriving DecidableEq, Repr

/-- State of a group's seam (R231-R240). -/
structure SeamSt where
  /-- Last line before the seam. -/
  yLast : Nat := 0
  /-- Overlap lines fired, and those that are stale, timed out or skipped. -/
  fired : Nat := 0
  bad : List Nat := []
  /-- Overlap lines shaded. -/
  shaded : List Nat := []
  handed : Bool := false
  /-- Lines after the seam delivered before the new SEAM took effect. -/
  after : Nat := 0
  deriving DecidableEq, Repr

/-- State of GAIT besides registers. -/
structure Gait where
  paths : Table PathSt := []
  encs : Table Enc := []
  seams : Table SeamSt := []
  /-- Axes configured since the reset that cleared them (R218), as a mask. -/
  configured : Nat := 0
  /-- Level on Mn_EN as driven, mask; meaningful for configured axes. -/
  enLevel : Nat := 0
  /-- Axes stopped by a driver fault until their path is driven again (R219, R248), mask. -/
  faulted : Nat := 0
  /-- Accepted levels of PS0-PS15 (R224), mask. -/
  psLevel : Nat := 0
  /-- Level on Mn_DIR, mask. -/
  dirLevel : Nat := 0
  /-- Kernel replies (R352): the group whose first reply word has come last, and the second words of complete pairs by group. -/
  replyTo : Option Nat := none
  replies : Table (Option Word) := []
  deriving DecidableEq, Repr

/-! ## Auxiliary sensing (Auxiliary Sensing and Waveform Capture) -/

/-- A conversion in progress, with its copy of the entry's four words (R259). -/
structure Conv where
  inj : Bool
  entry : Nat
  cfg : Word
  time : Word
  lin : Word
  kref : Word
  /-- The sequence streams; results delivered since the last restart (R262, R274). -/
  stream : Bool := false
  since : Nat := 0
  /-- Pins whose clamps carried current, and sources in fault while running, during the conversion (R255, R278). -/
  clamps : Nat := 0
  excFault : Nat := 0
  deriving DecidableEq, Repr

/-- State of the converter path besides registers. -/
structure Aux where
  conv : Option Conv := none
  /-- Entry that a regular pass resumes at (R264). -/
  remembered : Option Nat := none
  /-- Regular entries with a result since the sequence was enabled (R282). -/
  fresh : List Nat := []
  /-- Sources in fault and pins whose clamp conducts, now. -/
  excFault : Nat := 0
  clamping : Nat := 0
  deriving DecidableEq, Repr

/-- State of a waveform channel besides its registers. -/
structure Wf where
  /-- Raw samples taken in the capture and not used up: position and code, oldest first. -/
  raws : List (Int × Int) := []
  /-- Largest position used in the capture (R289). -/
  top : Option Int := none
  /-- Next output sample j, and the position at the capture's start (R288). -/
  j : Nat := 0
  start : Int := 0
  deriving DecidableEq, Repr
/-! ## Tandem code and stream contexts (Tandem Code; Host Link, Queues and Stream Contexts) -/

/-- Statistics of a regular context (R307). -/
structure RegCtx where
  a : Nat
  n : Nat
  b : Int
  c : Int
  deriving DecidableEq, Repr

/-- Statistics of a run-interruption context (R307). -/
structure RunCtx where
  a : Nat
  n : Nat
  nn : Nat
  deriving DecidableEq, Repr

/-- One row of a source plane that waits to be coded: the line's ordinal, its samples of the band, the poisoned ones by x. -/
structure CodeRow where
  y : Nat
  vals : List Nat
  bad : List Nat
  deriving DecidableEq, Repr

/-- A buffer posted to a stream (R390, R392): its command, the host ranges it covers, and what it holds so far. -/
structure Posted where
  qp : Nat
  tag : Nat
  segs : List (Nat × Nat)
  size : Nat
  /-- Bytes placed or read, the stream offset of the first, and their CRC before the final XOR. -/
  used : Nat := 0
  first : Nat := 0
  crc : Word := 0xFFFFFFFF
  /-- Some bytes came from the spill; some of them were poisoned (R35). -/
  spill : Bool := false
  ecc : Bool := false
  /-- The stream's input ends with this buffer. -/
  last : Bool := false
  deriving DecidableEq, Repr

/-- A stream context: the fields of Table 9-6, with what HQE keeps for it. -/
structure Stream where
  /-- STATE: 0 free, 1 encoding, 2 decoding, 3 ended, 4 failed. -/
  state : Nat := 0
  kind : Nat := 0
  resetAtRestart : Bool := false
  runEn : Bool := false
  rstDoc : Bool := false
  hdr : Bool := false
  trkEn : Bool := false
  ffPend : Bool := false
  mode : Nat := 0
  near : Nat := 0
  depth : Nat := 0
  npl : Nat := 0
  width : Nat := 0
  x0 : Nat := 0
  rstInt : Nat := 0
  reset : Nat := 0
  inshift : Nat := 0
  /-- T1-T5. -/
  thr : List Nat := []
  act1 : Nat := 0
  act2 : Nat := 0
  trk : Nat := 0
  rstM : Nat := 0
  /-- Slot descriptors of Table 9-4, byte 0 in the low half. -/
  slots : List Nat := []
  lines : Nat := 0
  sinceRst : Nat := 0
  pendN : Nat := 0
  pend : Nat := 0
  derr : Nat := 0
  crc : Word := 0xFFFFFFFF
  bytes : Nat := 0
  rowBase : Nat := 0
  c0 : List Nat := []
  ri : List Nat := []
  doc : Nat := 0
  reg : Table RegCtx := []
  run : Table RunCtx := []
  /-- Host side: job slot, quota in 64 KiB units, CMPL_ITEM. -/
  job : Nat := 0
  quota : Nat := 0
  cmplItem : Bool := false
  /-- Open: OPEN_STREAM or RESTORE_CONTEXT has completed and the stream has not ended. -/
  opened : Bool := false
  /-- Rows waiting per slot, and the stamps of the complete line groups, oldest first (R317). -/
  rows : Table (List CodeRow) := []
  ready : List Nat := []
  /-- Ordinal of the line last coded, and whether its record's hold is held (R320). -/
  lastY : Option Nat := none
  held : Bool := false
  /-- Buffers the device writes and reads, oldest first. -/
  writes : List Posted := []
  reads : List Posted := []
  /-- The spill units of the quota, the ring position of the oldest spilled byte, and the bytes spilled. -/
  units : List Nat := []
  spillRd : Nat := 0
  spillN : Nat := 0
  /-- Stream offsets at which an item ends or the stream ends, rising, with the INFO bit and the status to report. -/
  ends : List (Nat × Nat × Nat) := []
  /-- Stream offset of the next byte to be placed in a buffer. -/
  placed : Nat := 0
  /-- Input bytes fetched and not consumed; none marks a poisoned byte. -/
  input : List (Option Byte) := []
  /-- The input's last buffer has been read to its end; the end marker has been written or verified. -/
  inputEnd : Bool := false
  finished : Bool := false
  /-- CLOSE_STREAM waits: queue pair and tag, and the stamp at which it came. -/
  closing : Option (Nat × Nat) := none
  closeStamp : Nat := 0
  /-- Status with which the stream failed. -/
  failStatus : Nat := 0
  /-- CRC field of the end marker. -/
  endCrc : Nat := 0
  /-- SAVE_CONTEXT commands waiting for the next boundary: queue pair, tag, host address. -/
  saves : List (Nat × Nat × Nat) := []
  deriving DecidableEq, Repr


/-! ## Host queues (Host Link, Queues and Stream Contexts) -/

/-- A queue pair (R369-R383). Sizes in entries. -/
structure Qp where
  sqBase : Nat
  cqBase : Nat
  sqSize : Nat
  cqSize : Nat
  vector : Nat
  coalN : Nat := 0
  coalUs : Nat := 0
  sqHead : Nat := 0
  sqTail : Nat := 0
  /-- Slot after the last completion the host has consumed, next slot to write, phase of the pass. -/
  cqHead : Nat := 0
  cqTail : Nat := 0
  phase : Bool := true
  /-- Completions not yet signalled (R380). -/
  unsig : Nat := 0
  error : Bool := false
  deriving DecidableEq, Repr

/-- A command in flight (R374-R376): its sixteen dwords and the SQ head after its fetch. -/
structure Cmd where
  qp : Nat
  tag : Nat
  op : Nat
  words : List Word
  sqHead : Nat
  started : Bool := false
  deriving DecidableEq, Repr

/-- A read of host memory that the ring bridge has asked for (R400). -/
structure HostRead where
  /-- ID of the MEM_RD message, host address and length (R400). -/
  id : Nat
  addr : Nat
  len : Nat
  /-- The fetch of a ring entry of queue pair qp, or a read for its command with this tag. -/
  ring : Bool
  qp : Nat
  tag : Nat
  got : List Byte := []
  deriving DecidableEq, Repr

/-- A running SCAN_JOB (R394): its command, path, track counted, documents asked for and completed, DOC_SEQ of the first. -/
structure Job where
  qp : Nat
  tag : Nat
  slot : Nat
  path : Nat
  trk : Nat
  docs : Nat
  done : Nat := 0
  first : Option Nat := none
  deriving DecidableEq, Repr

/-- A CALIBRATE in flight (R397): groups still outstanding, their statuses by group, STORE. -/
structure Calib where
  qp : Nat
  tag : Nat
  target : Nat
  mask : Nat
  store : Bool
  left : List Nat := []
  stat : Table Nat := []
  /-- Status so far; ends of calibration saves that it still waits for, its own being the last (R189). -/
  status : Nat := 0
  saves : Nat := 0
  deriving DecidableEq, Repr

/-- State of HQE besides registers and stream contexts. -/
structure Hqe where
  qps : Table (Option Qp) := []
  /-- Commands in flight, in the order of their fetch. -/
  cmds : List Cmd := []
  /-- Queue pair served last (R375). -/
  last : Nat := 0
  /-- Stamps given to line groups, closes and posted input (R317). -/
  stamp : Nat := 0
  jobs : List Job := []
  calibs : List Calib := []
  /-- READ_AUX commands that wait for the next delivery of a slot (R387): queue pair, tag, slot. -/
  auxWaits : List (Nat × Nat × Nat) := []
  /-- Job slots that a SCRUB is filling. -/
  scrubs : List Nat := []
  /-- Outstanding MEM_RD messages of the ring bridge, oldest first, and the next ID (R400). -/
  reads : List HostRead := []
  nextId : Nat := 0
  /-- The function is in D3hot (R368). -/
  d3hot : Bool := false
  /-- The last PCIe configuration request was answered with Configuration Request Retry Status (R85); none before one. -/
  cfgRetry : Option Bool := none
  deriving DecidableEq, Repr

/-! ## Pack engines and windows (Pack Engines and Their Instruction Set) -/

/-- A line on its way to an input window (R333). -/
structure FeedLine where
  /-- LINE of Table 10-6; the group and the ordinal by which windows and records know the line. -/
  line : Nat
  g : Nat
  y : Nat
  vals : List Nat
  bad : List Nat
  rep : Bool
  exc : Bool
  time : Nat
  deriving DecidableEq, Repr

/-- A written line of an input window: its count (slot is the count modulo SLOTS), LINE, its feed, the engine that took it, and
whether it is released and by a fault. -/
structure InLine where
  idx : Nat
  src : FeedLine
  taken : Option Nat := none
  released : Bool := false
  deriving DecidableEq, Repr

/-- State of an input window besides its registers. -/
structure InWin where
  /-- Lines that wait to be written, oldest first. -/
  feed : List FeedLine := []
  /-- Lines in the ring, oldest first. -/
  ring : List InLine := []
  deriving DecidableEq, Repr

/-- What has become of an output line (R337). -/
inductive OutState where
  | waiting | allocated | committed | skipped | faulted | dropped
  deriving DecidableEq, Repr

/-- A line that an output window owes, or a block of a message window: its output slot, its source line, its state. -/
structure OutLineSt where
  slot : Nat
  src : FeedLine
  idx : Nat
  st : OutState
  /-- Engine that allocated it. -/
  eng : Nat := 0
  deriving DecidableEq, Repr

/-- State of an output window besides its registers. -/
structure OutWin where
  /-- Lines owed, in LINE order; blocks, in allocation order. -/
  queue : List OutLineSt := []
  /-- Output slots delivered and not freed, with the stream contexts that still code them (R340). -/
  held : List (Nat × Nat × List Nat) := []
  /-- The line delivered last: samples and poisoned ones. -/
  prev : List Nat := []
  prevBad : List Nat := []
  /-- Next slot of a message window. -/
  next : Nat := 0
  deriving DecidableEq, Repr

/-- A far access that has not been answered (R330). -/
structure FarAccess where
  addr : Nat
  load : Bool
  reg : Nat
  deriving DecidableEq, Repr

/-- The architectural state of an engine (R341); its PC, STATE and image fields are in En_STAT. -/
structure Engine where
  /-- s1-s31, v0-v15 as eight lanes, p1-p3. -/
  s : Table Word := []
  v : Table (List Nat) := []
  p : Table Nat := []
  /-- Poisoned scalar and vector registers. -/
  badS : List Nat := []
  badV : List Nat := []
  xhi : Nat := 0
  /-- The active loop: first and last address of the body, iterations left. -/
  loop : Option (Nat × Nat × Nat) := none
  result : Nat := 0
  msrc : Nat := 0
  /-- SYS.TIME at the last START, and the latched high words of CYC and TIME. -/
  started : Nat := 0
  cycHi : Word := 0
  timeHi : Word := 0
  /-- STEP: back to HALTED after this instruction. -/
  step : Bool := false
  /-- Inbox: word and sender. -/
  inbox : List (Word × Nat) := []
  outbox : List Word := []
  /-- Far accesses not answered yet, oldest first. -/
  far : List FarAccess := []
  deriving DecidableEq, Repr

/-- An image load under way (R359): the LOAD_IMAGE command as queue pair and tag, none for the boot chain and E0; the targets;
the header, whose bytes have arrived. -/
structure ImageLoad where
  cmd : Option (Nat × Nat)
  targets : List Nat
  header : List Byte
  deriving DecidableEq, Repr

/-- State of PACK besides registers. -/
structure Pack where
  engines : Table Engine := []
  ins : Table InWin := []
  outs : Table OutWin := []
  loads : List ImageLoad := []
  deriving DecidableEq, Repr


/-! ## Internal DMA (Internal DMA and Compatibility Channels) -/

/-- State of a ring channel besides its registers. -/
structure Chan where
  /-- The fetched copy of the descriptor (R407). -/
  words : List Word := []
  /-- Bytes (COPY) read and written, or elements (GATHER) read and written. -/
  rd : Nat := 0
  wr : Nat := 0
  /-- The beats are moved last first (R415). -/
  desc : Bool := false
  /-- The holding register in address order, each byte with its poison (R413). -/
  hold : List (Byte × Bool) := []
  /-- GATHER: the table entry of the element in progress, once read. -/
  idx : Option Nat := none
  /-- The descriptor moved a poisoned byte (R421). -/
  poison : Bool := false
  /-- A kick was sampled while the fetch was in flight (R407). -/
  kicked : Bool := false
  /-- The state that PAUSED was entered from. -/
  from_ : Nat := 0
  /-- EN was cleared while an access was outstanding (R419). -/
  abort : Bool := false
  /-- KIND of the access that has been issued and not answered (R420). -/
  wait : Option Nat := none
  deriving DecidableEq, Repr

/-- State of a compatibility channel besides its registers. -/
structure Cc where
  sar : Nat := 0
  dar : Nat := 0
  tcr : Nat := 0
  /-- Elements left of the present trigger's burst (R423). -/
  burst : Nat := 0
  /-- The element read and not yet written. -/
  hold : List (Byte × Bool) := []
  wait : Option Nat := none
  /-- EN was cleared while the element was in progress (R425). -/
  stop : Bool := false
  deriving DecidableEq, Repr

/-- State of IDMA besides registers. -/
structure Idma where
  chans : Table Chan := []
  ccs : Table Cc := []
  deriving DecidableEq, Repr

/-! ## Doldean Fabric -/

/-- Who made a remote access (R449). -/
inductive Requester where
  | engine (n : Nat)
  | ring (n : Nat)
  | compat (n : Nat)
  | hqe (qp tag : Nat)
  deriving DecidableEq, Repr

/-- A remote access: waiting, or outstanding with the tag of its request packet (R449). -/
structure Remote where
  who : Requester
  node : Nat
  off : Nat
  len : Nat
  write : Bool
  data : List (Byte × Bool) := []
  tag : Nat := 0
  deriving DecidableEq, Repr

/-- A packet that this node sends, before its port numbers and protects it (Table 13-3). -/
structure TxPacket where
  type : Nat
  dst : Nat
  src : Nat
  ttl : Nat
  plen : Nat
  tag : Nat
  arg : Nat
  pcrc : Nat
  payload : List Byte
  bad : List Nat := []
  deriving DecidableEq, Repr

/-- A packet on the wire: number and, on an encrypted link, the ciphertext with tag and counter (R442). -/
structure Sent where
  pkt : TxPacket
  lseq : Nat
  trailer : Option (List Byte × Nat) := none
  deriving DecidableEq, Repr

/-- A link word sent: LTYPE and bytes 1-15 (Table 13-2). -/
structure LinkWord where
  ltype : Nat
  body : List Byte
  deriving DecidableEq, Repr

/-- What a port sends. -/
inductive Out where
  | packet (p : Sent)
  | word (w : LinkWord)
  deriving DecidableEq, Repr

/-- The values that a DISC message advertises (Table 13-7). -/
structure Advert where
  uid : Nat
  pri : Nat
  nodeId : Nat
  reqId : Nat
  leadUid : Nat
  leadPri : Nat
  dist : Nat
  epoch : Nat
  deriving DecidableEq, Repr

/-- State of a port besides its registers. -/
structure Port where
  /-- Own and peer's nonce, peer's capabilities, and whether the peer's HELLO has come (R440). -/
  nonce : List Byte := []
  peerNonce : List Byte := []
  peerCaps : Nat := 0
  helloGot : Bool := false
  /-- Fabric key active when the exchange began (R492). -/
  key : List Byte := []
  /-- The session is being renewed (R442). -/
  rekey : Bool := false
  /-- Session key, counters of the next packet sent and of the last one accepted. -/
  session : List Byte := []
  txCtr : Nat := 0
  rxCtr : Option Nat := none
  /-- Consecutive failures of AUTH, and the present quarantine time in ms (R441, R464). -/
  fails : Nat := 0
  qtime : Nat := 0
  /-- Next LSEQ to send, next expected, packets not acknowledged with their replays, packets that wait (R434, R435). -/
  txSeq : Nat := 0
  rxSeq : Nat := 0
  replay : List (Sent × Nat) := []
  queue : List TxPacket := []
  /-- Cumulative counts of flits freed: as last received, and as this port sends them (R434). -/
  freed0 : Nat := 0
  freed1 : Nat := 0
  own0 : Nat := 0
  own1 : Nat := 0
  /-- ACK and NAK that the next FLOW word carries. -/
  ack : Option Nat := none
  nak : Option Nat := none
  /-- The neighbour's advertisement (R445). -/
  advert : Option Advert := none
  /-- Token buckets in 1/800,000 packet (MSG) and 1/8,000 packet (requests), and the time of their last change (R463). -/
  msgTok : Nat := 0
  reqTok : Nat := 0
  tokTime : Nat := 0
  /-- Times of transmission errors and of policer discards in the last second (Table 13-10). -/
  errs : List Nat := []
  pols : List Nat := []
  /-- What the port has sent, newest first. -/
  out : List Out := []
  deriving DecidableEq, Repr

/-- What the lead knows of a node (R446): UID, held and requested ID, path of ports from the lead, peers by port. -/
structure TopoNode where
  uid : Nat
  nodeId : Nat
  reqId : Nat
  path : List Nat
  peers : List Nat
  deriving DecidableEq, Repr

/-- A FABRIC_OP copy between host and a remote page store (Table 13-12). -/
structure RemoteCopy where
  qp : Nat
  tag : Nat
  node : Nat
  off : Nat
  len : Nat
  host : Nat
  write : Bool
  /-- Bytes answered, and the first status other than SUCCESS. -/
  done : Nat := 0
  status : Nat := 0
  got : List (Nat × List Byte) := []
  deriving DecidableEq, Repr

/-- A line held back by a sink plane (R460): its line, its tick, and whether the plane's own part is complete. -/
structure StitchLine where
  y : Nat
  tick : Nat
  vals : List Nat
  bad : List Nat
  rep : Bool
  deriving DecidableEq, Repr

/-- State of a stitch channel besides its registers: samples by tick and position, poisoned ones, and the slice delivered last. -/
structure Stitch where
  chunks : Table (Table Nat) := []
  bad : Table (List Nat) := []
  prev : List Nat := []
  deriving DecidableEq, Repr

/-- State of DLF besides registers. -/
structure Fabric where
  ports : Table Port := []
  /-- Remote accesses that wait, oldest first; those outstanding; next tag. -/
  waiting : List Remote := []
  remotes : List Remote := []
  nextTag : Nat := 0
  /-- The chosen lead's priority, none without a lead; the parent port; the values advertised last. -/
  leadPri : Option Nat := none
  parent : Option Nat := none
  advert : Option Advert := none
  lastTopo : List Nat := []
  /-- What TOPO messages have told the lead. -/
  topo : List TopoNode := []
  /-- ASSIGN and ROUTE of an epoch received. -/
  assigned : Option Nat := none
  routed : Option Nat := none
  /-- For the membership table: UID and DIST by node ID, as the lead assigned them. -/
  members : Table (Nat × Nat) := []
  /-- Host operations that wait: REFORM; PING with node and time; QUARANTINE release with port; copies (R465). -/
  reforms : List (Nat × Nat) := []
  pings : List (Nat × Nat × Nat × Nat) := []
  releases : List (Nat × Nat × Nat) := []
  copies : List RemoteCopy := []
  /-- Time exchange: SEQ, t1 of the outstanding request; counts of small and large offsets in a row; locked before;
  rate R and hidden fraction of SYS.TIME (R452, R453). -/
  tsSeq : Nat := 0
  tsOut : Option Nat := none
  near : Nat := 0
  far : Nat := 0
  lockedOnce : Bool := false
  rate : Int := 0
  frac : Nat := 0
  /-- Line clock: next tick that the lead issues; last tick arrived (R455-R457). -/
  nextTick : Nat := 0
  seenTick : Option Nat := none
  stitch : Table Stitch := []
  /-- Lines held back, by plane, oldest first, and the last tick delivered per plane. -/
  held : Table (List StitchLine) := []
  lastTick : Table Nat := []
  deriving DecidableEq, Repr

/-! ## Services (Stand-Alone Services and Recovery) -/

/-- A service that runs (R505): SVC, TAG, ARG and MSRC of the sender, 0 for the boot's service list, with the entry's index. -/
structure Service where
  svc : Nat
  tag : Nat
  arg : Nat
  sender : Nat
  idx : Nat := 0
  /-- SHADE_CAL: the remembered AUTO; FABRIC_UP: some port has been ACTIVE. -/
  auto : Bool := false
  /-- Calibration saves whose end it still waits for; its status so far. -/
  saves : Nat := 0
  status : Nat := 0
  /-- JAM_RECOVER: JAM_CAUSE and JAM_CHK at entry. -/
  note : Word := 0
  /-- SHADE_CAL: status of each group that has committed or rejected. -/
  groups : Table Nat := []
  deriving DecidableEq, Repr

/-- State of SEC besides registers. -/
structure Sec where
  /-- E0 runs the service loop (R497). -/
  loop : Bool := false
  /-- The last reset of the main side kept the calibration: a warm reset, or a clock loss (R79, R24). -/
  warm : Bool := false
  /-- Stage 5 runs: records of the scripts that are still to be applied, each with its index, and whether the boot applies them
  (R502, R503). -/
  script : Option (List (Nat × Word × Word)) := none
  /-- E0 runs the service list of the boot (R504). -/
  boot : Bool := false
  running : Option Service := none
  /-- Host-loss action in progress: its path mask, and whether ABANDON has been issued (R510). -/
  hostLoss : Option (Nat × Bool) := none
  /-- Entries of the boot's service list still to run, each with its index. -/
  list : List (Word × Nat) := []
  /-- Paths whose automatic recovery waits for JAM_MS, and those whose recovery waits for E0 (R512). -/
  jams : List Nat := []
  due : List Nat := []
  /-- Words that wait for room in their outbox, oldest first, with their destination, 1 the host or 2 the halter. -/
  reports : List (Word × Nat) := []
  deriving DecidableEq, Repr

/-! ## Consequences across blocks -/

/-- What one block's action makes another block do within the same command, in order: a completed record (slot), a jam
(path), a line delivered by a plane, a line trigger (program, cycle), a calibration that ended. -/
inductive Work where
  | record (slot : Nat)
  | jam (path : Nat)
  | lineOut (plane y : Nat)
  | trigger (p cycle : Nat)
  | fgDone (status : Nat)
  | auxDone (status : Nat)
  | auxResult (slot : Nat)
  /-- A remote access is answered; the fabric is READY; a stitched line goes on; a calibration save ended; the
  host is lost (EV241). -/
  | remoteDone (tag status : Nat) (data : List (Byte × Bool))
  | fabricReady
  | stitched (plane y : Nat)
  | saveDone (status : Nat)
  | hostLost
  deriving DecidableEq, Repr

/-! ## The machine -/

/-- The whole block: the commands that wait, the registers and every block's further state. -/
structure State where
  /-- Commands waiting, first in, first out. -/
  pending : List Instr := []
  /-- Registers by BAR0 offset, as last written or set. -/
  regs : Table Word := []
  /-- Where a Next line or Next document value is pending: the whole register as it still governs the hardware (R12). -/
  eff : Table Word := []
  /-- Shadows of the higher parts of wide values, by access path and offset (R15, R16). -/
  shadows : Table Word := []
  /-- The value that the last register or memory read returned to its requester. -/
  rdata : Word := 0
  /-- Event lines that pulse in this FABCLK cycle (R38). -/
  pulses : List Nat := []
  /-- The internal memories, by 40-bit internal address (R27). -/
  mem : Table Byte := []
  /-- What the device has written into host memory, by 64-bit host address. -/
  hostMem : Table Byte := []
  /-- MSI-X messages sent, newest first, by vector (R380). -/
  messages : List Nat := []
  /-- Consequences still to be worked off within the command in progress; empty between commands. -/
  work : List Work := []
  /-- Number of free values drawn so far (the model's own field). -/
  freeCount : Nat := 0
  sys : Sys := {}
  tsq : Tsq := {}
  vaf : Vaf := {}
  shd : Shd := {}
  geo : Geo := {}
  /-- Asynchronous events queued by HQE, oldest first, at most 64 (R399). -/
  asyncQ : List AsyncEvent := []
  /-- Lines delivered per plane, newest first (R183). -/
  outLines : Table (List OutLine) := []
  hlt : Hlt := {}
  gait : Gait := {}
  aux : Aux := {}
  wfs : Table Wf := []
  /-- Stream contexts by number. -/
  streams : Table Stream := []
  hqe : Hqe := {}
  pack : Pack := {}
  idma : Idma := {}
  fab : Fabric := {}
  sec : Sec := {}
  deriving DecidableEq, Repr

/-- The machine right after reset: every register at the value of Tables 16-2 to 16-16 (R516), the memories zero-filled
(R75), nothing in progress. (DESIGN CHOICE: notes/assumptions/13.) (DESIGN CHOICE: notes/assumptions/14.)
(DEDUCED: notes/assumptions/15.) -/
def State.reset : State := {}

end Sys2Proof.Machine
end

