-- ==== Sys2Proof/Machine/Ops.lean ====
section
/-!
DEFINITION. Sys2Proof/Machine/Ops.lean: the named operations that the meanings share: registers and their fields, error
latches, the register write of Table 0-5, events, claims, asynchronous events, memory.
-/
namespace Sys2Proof.Machine

/-- What exec answers. -/
abbrev Result := Host.Outcome State Fault Refusal

/-! ## Access paths (R16, R51, Table 1-6) -/

/-- Claimant ID of a path (R51, Table 1-12). -/
def claimantOf : Path → Nat
  | .bar0 => 0x01
  | .engine n => 0x40 + n.val
  | .ring _ => 0x18
  | .compat _ => 0x18
  | .smbus => 0x02
  | .usb2 => 0x02

/-- SYS.ERR_ADDR.PATH of a path. -/
def pathCode : Path → Nat
  | .bar0 => 0
  | .engine _ => 1
  | .ring _ => 1
  | .compat _ => 1
  | .smbus => 2
  | .usb2 => 2

/-- SYS.ERR_ADDR.SRC of a path. -/
def srcCode : Path → Nat
  | .bar0 => 0
  | .engine n => n.val
  | .ring n => 0x60 + n.val
  | .compat n => 0x80 + n.val
  | .smbus => 0
  | .usb2 => 1

/-- The path reaches registers through the register mirror (R518). -/
def isMirror : Path → Bool
  | .engine _ => true
  | .ring _ => true
  | .compat _ => true
  | _ => false

/-- Number of the path's shadow (R16). -/
def shadowIndex (p : Path) : Nat :=
  match p with
  | .bar0 => 0
  | .engine n => 1 + n.val
  | .ring n => 97 + n.val
  | .compat n => 129 + n.val
  | .smbus => 137
  | .usb2 => 138

/-! ## Registers -/

/-- The register at an offset as last written or set (R12). (DESIGN CHOICE: notes/assumptions/5.) -/
def State.reg (s : State) (off : Nat) : Word := Table.get Reg.resetOf s.regs off

/-- The state with a register set. -/
def State.setReg (s : State) (off : Nat) (w : Word) : State := { s with regs := Table.set Reg.resetOf s.regs off w }

/-- A field of a register. -/
def State.fld (s : State) (off : Nat) (f : Fld) : Nat := f.get (s.reg off)

/-- A one-bit field is 1. -/
def State.bit (s : State) (off : Nat) (f : Fld) : Bool := s.fld off f != 0

/-- The state with a field of a register set. -/
def State.setFld (s : State) (off : Nat) (f : Fld) (x : Nat) : State := s.setReg off (f.put (s.reg off) x)

/-- The register as it governs the hardware: its value before the write that still waits for its boundary (R12). -/
def State.effReg (s : State) (off : Nat) : Word := Table.get (fun k => s.reg k) s.eff off

/-- A field as it governs the hardware. -/
def State.effFld (s : State) (off : Nat) (f : Fld) : Nat := f.get (s.effReg off)

/-- The pending values of the registers in `offs` take effect (R11). -/
def State.commit (s : State) (offs : List Nat) : State :=
  { s with eff := offs.foldl (fun t off => Table.erase t off) s.eff }

/-- A counter register counts one more, saturating. -/
def State.count (s : State) (off : Nat) : State := s.setReg off (satInc (s.reg off))

/-- A counter field counts one more, saturating at the field's greatest value. -/
def State.countFld (s : State) (off : Nat) (f : Fld) : State :=
  if s.fld off f = f.max then s else s.setFld off f (s.fld off f + 1)

/-- Apply `f` for every number below `n`, rising. -/
def State.forEach (s : State) (n : Nat) (f : Nat → State → State) : State :=
  (List.range n).foldl (fun t i => f i t) s

/-- A 64-bit value held in two registers, low word first (R14). -/
def State.reg64 (s : State) (lo hi : Nat) : Nat := (s.reg lo).toNat + 2 ^ 32 * (s.reg hi).toNat

/-- The state with a 64-bit value in two registers. -/
def State.setReg64 (s : State) (lo hi v : Nat) : State :=
  (s.setReg lo (BitVec.ofNat 32 v)).setReg hi (BitVec.ofNat 32 (v >>> 32))

/-- A free value and the state after it is drawn. (DESIGN CHOICE: notes/assumptions/21.) -/
def State.free (s : State) : Nat × State := (Config.freeValue s.freeCount, { s with freeCount := s.freeCount + 1 })

/-- An access error: its bit in SYS.ERR_STAT, and the offset with its requester while every bit was 0 (Table 1-6). -/
def State.err (s : State) (path : Path) (off : Nat) (bit : Fld) : State :=
  let s1 := if s.reg R.sysErrStat = 0 then
      s.setReg R.sysErrAddr
        (BitVec.ofNat 32 (off % 2 ^ 20 + srcCode path * 2 ^ 20 + pathCode path * 2 ^ 30))
    else s
  s1.setFld R.sysErrStat bit 1

/-- A flag of SYS.ERR_STAT set without an offset. -/
def State.errAcc (s : State) (path : Path) (off : Nat) : State := s.err path off F.sysErrStat.ACC
def State.errIdle (s : State) (path : Path) (off : Nat) : State := s.err path off F.sysErrStat.IDLE_WR
def State.errClaim (s : State) (path : Path) (off : Nat) : State := s.err path off F.sysErrStat.CLAIM

/-- Whether a register write through a path is taken at all: BAR0 writes are discarded during a warm reset but for the
admin-queue registers while the host is the image source (R79), the mirror ends at 0x3_C000 (R518), and HLT is read-only
but from the halter port (Table 16-1). (DESIGN CHOICE: notes/assumptions/4.) -/
def State.accessible (s : State) (path : Path) (off : Nat) : Bool :=
  let aq := decide (0x28004 ≤ off ∧ off ≤ 0x28020) &&
    (s.fld R.sysStrap F.sysStrap.BOOT_SRC == 1 || s.fld R.sysStrap F.sysStrap.BOOT_SRC == 2) &&
    decide (2 ≤ s.fld R.sysBootStat F.sysBootStat.STAGE)
  let warm := s.sys.warmActive && (path == .bar0) && !aq
  let mirror := isMirror path && decide (0x3C000 ≤ off)
  let hlt := decide (0x34000 ≤ off ∧ off < 0x38000) && !(path == .smbus || path == .usb2)
  !(warm || mirror || hlt)

/-- Do `f` if the write is taken, nothing otherwise. -/
def State.onWrite (s : State) (path : Path) (off : Nat) (f : State → State) : State :=
  if s.accessible path off then f s else s

/-- The effect of a 32-bit write on a register's fields (R10, R11, R540): Immediate fields and, while the owning block is
idle, Idle only fields take effect at once; Next line and Next document fields are held; W1C bits clear; a change of an
Idle only field of a busy block is discarded and sets IDLE_WR. (DEDUCED: notes/assumptions/6.) -/
def State.writeRow (s : State) (path : Path) (off : Nat) (row : RegRow) (w : Word) (busy : Bool) : State :=
  let idle := BitVec.ofNat 32 row.rwIdle
  let now := BitVec.ofNat 32 row.rwNow ||| (if busy then 0 else idle)
  let later := BitVec.ofNat 32 row.nextLine ||| BitVec.ofNat 32 row.nextDoc
  let clear := w &&& BitVec.ofNat 32 row.w1c
  let old := s.reg off
  let eff := s.effReg off
  let new := ((old &&& ~~~(now ||| later)) ||| (w &&& (now ||| later))) &&& ~~~clear
  let newEff := ((eff &&& ~~~now) ||| (w &&& now)) &&& ~~~clear
  let s1 := s.setReg off new
  let s2 := { s1 with eff := if newEff = new then Table.erase s1.eff off
                             else Table.insert (Table.erase s1.eff off) off newEff }
  if busy && decide ((old ^^^ w) &&& idle ≠ 0) then s2.errIdle path off else s2

/-- A write of a register in which `own` names the part that owns its Idle only fields: `own` changes only while the part named
before and the part named after it are idle, the other fields follow the part named before (R540, Table 0-5).
(DEDUCED: notes/assumptions/11.) -/
def State.writeOwned (s : State) (path : Path) (off : Nat) (row : RegRow) (w : Word) (own : Fld) (before after : Bool) : State :=
  if own.get w ≠ s.fld off own ∧ (before || after) then
    (s.writeRow path off row (own.put w (s.fld off own)) before).errIdle path off
  else s.writeRow path off row w before

/-! ## Events (R38) -/

/-- Line `ev` fires in this cycle; several firings give one pulse. (DEDUCED: notes/assumptions/25.) -/
def State.fire (s : State) (ev : Nat) : State := { s with pulses := addSorted s.pulses ev }

/-- A selector register is enabled for the line `ev` (Table 1-8). -/
def State.selects (s : State) (sel ev : Nat) : Bool := (s.reg sel).getLsbD 31 && ((s.reg sel).toNat % 256 == ev)

/-- A selector register is enabled. -/
def State.selOn (s : State) (sel : Nat) : Bool := (s.reg sel).getLsbD 31

/-- Asynchronous event of Table 11-8: queued, or discarded with EVQ_OVF when 64 wait (R399). (DEDUCED: notes/assumptions/45.) -/
def State.queueAsync (s : State) (kind detail result1 : Nat) : State :=
  if s.asyncQ.length < 64 then { s with asyncQ := s.asyncQ ++ [⟨kind, detail, result1⟩] }
  else s.setFld R.hqeStat F.hqeStat.EVQ_OVF 1

/-! ## Halter alerts and log (R470, R484) -/

/-- One entry of the halter log (R484): the AON time in milliseconds, then cause, index and value. -/
def State.logEvent (s : State) (cause index value : Nat) : State :=
  let n := s.fld R.hltLogCnt F.hltLogCnt.NEXT
  let s1 := s.setReg (R.hltLogW0 n) (s.reg R.hltAonMs)
  let s2 := s1.setReg (R.hltLogW1 n) (BitVec.ofNat 32 (cause % 256 + index % 256 * 2 ^ 8 + value % 65536 * 2 ^ 16))
  (s2.countFld R.hltLogCnt F.hltLogCnt.COUNT).setFld R.hltLogCnt F.hltLogCnt.NEXT ((n + 1) % 32)

/-- HLT.ALERT bit `b` is raised: an enabled bit that goes from 0 to 1 asserts HLT_ALERT_N (R470) and, while the main side
runs, queues a HEALTH event (R484). -/
def State.alert (s : State) (b : Nat) : State :=
  let was := (s.reg R.hltAlert).getLsbD b
  let en := (s.reg R.hltAlertEn).getLsbD b
  let s1 := s.setFld R.hltAlert ⟨b, 1⟩ 1
  if !was && en then
    let s2 := { s1 with hlt := { s1.hlt with alertN := true } }
    if s2.bit R.hltStat F.hltStat.MAIN_RUN then s2.queueAsync 7 b 0 else s2
  else s1

/-! ## Claims (R49-R54) -/

/-- A claimable resource with its number; a pin also with the function that uses it (Table 2-4). -/
inductive Res where
  | timer (n : Nat)
  | partition (n : Nat)
  | pin (n : Nat) (func : Nat)
  deriving DecidableEq, Repr

/-- What a claim answers. -/
inductive ClaimRes where
  | ok | denied | invalid
  deriving DecidableEq, Repr

/-- TYPE and INDEX of a resource in SYS.CLAIM_ERR. -/
def Res.code : Res → Nat × Nat
  | .timer n => (1, n)
  | .partition n => (2, n)
  | .pin n _ => (3, n)

/-- The holder of a resource; 0 none. -/
def State.owner (s : State) : Res → Nat
  | .timer n => s.fld (R.etimCtl n) F.etimCtl.OWNER
  | .partition n => s.fld (R.sysAbpCfg n) F.sysAbpCfg.OWNER
  | .pin n _ => s.fld (R.sysGpioCfg n) F.sysGpioCfg.OWNER

/-- The state with the holder of a resource set. A pin shows its function while it is held (R62). -/
def State.setOwner (s : State) (r : Res) (who : Nat) : State :=
  match r with
  | .timer n => s.setFld (R.etimCtl n) F.etimCtl.OWNER who
  | .partition n => s.setFld (R.sysAbpCfg n) F.sysAbpCfg.OWNER who
  | .pin n f =>
    (s.setFld (R.sysGpioCfg n) F.sysGpioCfg.OWNER who).setFld (R.sysGpioCfg n) F.sysGpioCfg.FUNC
      (if who = 0 then 0 else f)

/-- The units of a partition as first unit and number (R53). -/
def State.partSpan (s : State) (n : Nat) : Nat × Nat :=
  if s.bit (R.sysAbpCfg n) F.sysAbpCfg.SIZE_MAX then (0, 128)
  else (s.fld (R.sysAbpCfg n) F.sysAbpCfg.BASE, s.fld (R.sysAbpCfg n) F.sysAbpCfg.SIZE)

/-- Bytes of a partition. -/
def State.partBytes (s : State) (n : Nat) : Nat := (s.partSpan n).2 * 65536

/-- The partition's settings are refused with INVALID_FIELD (R53). -/
def State.partInvalid (s : State) (n : Nat) : Bool :=
  if s.bit (R.sysAbpCfg n) F.sysAbpCfg.SIZE_MAX then s.fld (R.sysAbpCfg n) F.sysAbpCfg.BASE != 0
  else decide ((s.partSpan n).2 = 0 ∨ 128 < (s.partSpan n).1 + (s.partSpan n).2)

/-- The lowest-numbered claimed partition that overlaps partition `n` (R53). -/
def State.partClash (s : State) (n : Nat) : Option Nat :=
  (List.range 16).find? (fun m => m != n && s.owner (.partition m) != 0 &&
    decide ((s.partSpan n).1 < (s.partSpan m).1 + (s.partSpan m).2 ∧
            (s.partSpan m).1 < (s.partSpan n).1 + (s.partSpan n).2))

/-- A claim conflict (R54): counted, and recorded as the first one while VALID = 0 when `record`; a recorded conflict
queues the CLAIM event of Table 11-8. -/
def State.conflict (s : State) (r : Res) (holder req : Nat) (record : Bool) : State :=
  let s1 := s.count R.sysClaimErrCnt
  if record && !(s.bit R.sysClaimErr F.sysClaimErr.VALID) then
    let w := 1 + r.code.1 * 2 + r.code.2 * 2 ^ 8 + holder * 2 ^ 16 + req * 2 ^ 24
    (s1.setReg R.sysClaimErr (BitVec.ofNat 32 w)).queueAsync 6 w 0
  else s1

/-- A claim of a resource by a claimant (R49, R53). -/
def State.claim (s : State) (r : Res) (who : Nat) : State × ClaimRes :=
  let h := s.owner r
  let part := match r with | .partition n => (s.partInvalid n, s.partClash n) | _ => (false, none)
  if h = who then (s, .ok)
  else if h ≠ 0 then (s.conflict r h who true, .denied)
  else if part.1 then (s, .invalid)
  else match part.2 with
    | some m => (s.conflict r (s.owner (.partition m)) who true, .denied)
    | none => (s.setOwner r who, .ok)

/-- A release of a resource by a claimant: true when it succeeds (R49). -/
def State.release (s : State) (r : Res) (who : Nat) : State × Bool :=
  let h := s.owner r
  if h = 0 then (s, true)
  else if h = who then (s.setOwner r 0, true)
  else (s.conflict r h who false, false)

/-- A write to a register of a claimed resource through a path that does not hold it: discarded, with SYS.ERR_STAT.CLAIM,
and a conflict that is recorded when it carried EN = 1 (R51, R54, R63). (DEDUCED: notes/assumptions/9.) -/
def State.foreignWrite (s : State) (r : Res) (path : Path) (off : Nat) (en : Bool) : State :=
  (s.errClaim path off).conflict r (s.owner r) (claimantOf path) en

/-! ## Memory -/

/-- One byte of internal memory; memory is zero-filled when it comes on (R75). (DEDUCED: notes/assumptions/60.) -/
def State.byte (s : State) (a : Nat) : Byte := Table.get (fun _ => 0) s.mem a

/-- The state with one byte of internal memory written. -/
def State.setByte (s : State) (a : Nat) (b : Byte) : State := { s with mem := Table.set (fun _ => 0) s.mem a b }

/-- `n` bytes from an address. -/
def State.bytes (s : State) (a n : Nat) : List Byte := (List.range n).map (fun i => s.byte (a + i))

/-- The state with bytes written from an address. -/
def State.setBytes (s : State) (a : Nat) (l : List Byte) : State :=
  match l with
  | [] => s
  | b :: r => (s.setByte a b).setBytes (a + 1) r

/-- A 32-bit word of internal memory, little-endian (R6). -/
def State.word (s : State) (a : Nat) : Word := BitVec.ofNat 32 (natLE (s.bytes a 4))

/-- The state with a 32-bit word of internal memory written. -/
def State.setWord (s : State) (a : Nat) (w : Word) : State := s.setBytes a (bytesLE 4 w.toNat)

/-- A range of internal memory filled with zeros, with valid check bits (R75). -/
def State.zeroFill (s : State) (a n : Nat) : State :=
  { s with
    mem := s.mem.filter (fun e => decide (e.1 < a ∨ a + n ≤ e.1))
    sys := { s.sys with
      poison := s.sys.poison.filter (fun e => decide (e < a ∨ a + n ≤ e))
      bitErrs := s.sys.bitErrs.filter (fun e => decide (e.1 < a ∨ a + n ≤ e.1)) } }

/-- The bytes that the device writes into host memory. (DESIGN CHOICE: notes/assumptions/43.) -/
def State.hostWrite (s : State) (a : Nat) (l : List Byte) : State :=
  match l with
  | [] => s
  | b :: r => { s with hostMem := Table.set (fun _ => 0) s.hostMem a b }.hostWrite (a + 1) r

/-- A power domain is fully on (R72). -/
def State.pdOn (s : State) (dom : Nat) : Bool :=
  (s.reg (R.sysPdStat ((dom - 1) / 32))).getLsbD ((dom - 1) % 32)

/-- The state with a domain's PD_STAT bit set or cleared. -/
def State.setPd (s : State) (dom : Nat) (on : Bool) : State :=
  s.setFld (R.sysPdStat ((dom - 1) / 32)) ⟨(dom - 1) % 32, 1⟩ (if on then 1 else 0)

/-! ## Status codes (Table 11-11) -/
namespace St
def success : Nat := 0x00
def invalidOpcode : Nat := 0x01
def invalidField : Nat := 0x02
def noResource : Nat := 0x03
def contextBusy : Nat := 0x04
def aborted : Nat := 0x05
def notReady : Nat := 0x06
def busError : Nat := 0x10
def eccUncorrectable : Nat := 0x11
def timeout : Nat := 0x12
def calRejected : Nat := 0x20
def calQualityLow : Nat := 0x21
def transportJam : Nat := 0x30
def seamUnverified : Nat := 0x31
def lineOverrun : Nat := 0x32
def fabricUnreachable : Nat := 0x40
def authFailed : Nat := 0x41
def signatureInvalid : Nat := 0x50
def claimDenied : Nat := 0x60
end St

end Sys2Proof.Machine
end

