-- ==== Sys2Proof/Machine/Memory.lean ====
section
/-!
DEFINITION. Sys2Proof/Machine/Memory.lean: the address map (R27-R29) and accesses to the protected memories (R33-R36, R541).
-/
namespace Sys2Proof.Machine

/-- Base of the page store. -/
def pageBase : Nat := 0x0100000000

/-- Base of the page store's system area (R31). -/
def systemArea : Nat := 0x017C000000

/-- Base of engine n's data memory and of its instruction memory (Table 1-5). -/
def engineData (n : Nat) : Nat := n * 0x14000
def engineInstr (n : Nat) : Nat := n * 0x14000 + 0x10000

/-- Base of team t's memory. -/
def teamBase (t : Nat) : Nat := 0x780000 + t * 0x80000

/-- Base of the alignment buffer and of partition units of 64 KiB. -/
def alignBase : Nat := 0xD80000

/-- Base of the shading store. -/
def shadingBase : Nat := 0x1580000

/-- The pool of an address as SYS.ECC_STAT.UE_POOL codes it (Tables 1-5, 1-6); none where nothing is mapped. -/
def poolOf (a : Nat) : Option Nat :=
  if a < 0x780000 then some 0
  else if a < 0xD80000 then some 1
  else if a < 0x1580000 then some 2
  else if a < 0x1880000 then some 3
  else if a < 0x1C80000 then some 4
  else if a < 0x1D80000 then some 5
  else if 0x100000000 ≤ a ∧ a < 0x180000000 then some 6
  else none

/-- The power domain of a memory address; none for the pools that are always on (Table 2-9). -/
def domainOf (a : Nat) : Option Nat :=
  if a < 0x780000 then some (a / 0x14000 + 1)
  else if a < 0xD80000 then some (97 + (a - 0x780000) / 0x80000)
  else if a < 0x1580000 then some 129
  else if a < 0x1880000 then some 130
  else if 0x100000000 ≤ a ∧ a < 0x180000000 then some 127
  else none

/-- A memory access at an address is performed: it is mapped and its domain is fully on (R28, R75). -/
def State.memOk (s : State) (a : Nat) : Bool :=
  (poolOf a).isSome && (match domainOf a with | some d => s.pdOn d | none => true)

/-- Toggle one of the 128 data bits of the word at `a`; check bits hold no data. (DESIGN CHOICE: notes/assumptions/59.) -/
def State.flipBit (s : State) (a i : Nat) : State :=
  if i < 128 then s.setByte (a + i / 8) (s.byte (a + i / 8) ^^^ (BitVec.ofNat 8 (2 ^ (i % 8)))) else s

/-- The word at `a` is poisoned (R34). -/
def State.poisoned (s : State) (a : Nat) : Bool := s.sys.poison.contains (a / 16 * 16)

/-- The state with the word at `a` poisoned or not. -/
def State.setPoison (s : State) (a : Nat) (p : Bool) : State :=
  let w := a / 16 * 16
  let l := if p then addSorted s.sys.poison w else s.sys.poison.filter (fun x => x != w)
  { s with sys := { s.sys with poison := l } }

/-- Latch pool and address of an uncorrectable word when UE was clear, and set UE (R34). -/
def State.latchUe (s : State) (pool a : Nat) : State :=
  let s1 := if s.bit R.sysEccStat F.sysEccStat.UE then s
    else (s.setFld R.sysEccStat F.sysEccStat.UE_POOL pool).setReg64 R.sysEccAddrLo R.sysEccAddrHi a
  s1.setFld R.sysEccStat F.sysEccStat.UE 1

/-- The bit errors of a word are gone from storage. -/
def State.clearErrs (s : State) (w : Nat) : State :=
  { s with sys := { s.sys with bitErrs := Table.erase s.sys.bitErrs w } }

/-- A read of the 128-bit word that holds `a` decodes it (R33, R34, R541): corrects and counts a single-bit error, poisons,
counts, latches and reports a new uncorrectable one, and latches one already poisoned. -/
def State.eccRead (s : State) (a : Nat) : State :=
  let w := a / 16 * 16
  let pool := (poolOf w).getD 0
  let flips := Table.get (fun _ => []) s.sys.bitErrs w
  let s1 := (flips.foldl (fun t i => t.flipBit w i) s).clearErrs w
  match eccDecode (eccSyndrome (if s.poisoned w then 0x1FF else 0) flips) with
  | .clean => s1.setPoison w false
  | .correct i =>
    (((s1.flipBit w i).setPoison w false).count R.sysEccCeCnt).setFld R.sysEccStat F.sysEccStat.CE 1
  | .poison => (s1.setPoison w true).latchUe pool w
  | .uncorrectable =>
    (((s1.setPoison w true).latchUe pool w).count R.sysEccUeCnt).queueAsync 4 pool (w % 2 ^ 32)

/-- The aligned 128-bit words that `n` bytes from `a` touch. -/
def wordsOf (a n : Nat) : List Nat :=
  (List.range ((a % 16 + n + 15) / 16)).map (fun i => a / 16 * 16 + 16 * i)

/-- A read of `n` bytes: the state after decoding every word it touches; the bytes are then `State.bytes`. -/
def State.memRead (s : State) (a n : Nat) : State := (wordsOf a n).foldl (fun t w => t.eccRead w) s

/-- Some word of a range is poisoned. -/
def State.anyPoison (s : State) (a n : Nat) : Bool := (wordsOf a n).any (fun w => s.poisoned w)

/-- A write of bytes (R36): a word written whole loses its poison and errors, a word written in part is decoded first and
keeps its poison. -/
def State.memWrite (s : State) (a : Nat) (l : List Byte) : State :=
  let prep := (wordsOf a l.length).foldl (fun t w =>
    if a ≤ w ∧ w + 16 ≤ a + l.length then (t.clearErrs w).setPoison w false else t.eccRead w) s
  prep.setBytes a l

/-- A write of bytes that carries poison: every word it touches is poisoned (R35). -/
def State.memWritePoison (s : State) (a : Nat) (l : List Byte) : State :=
  (wordsOf a l.length).foldl (fun t w => t.setPoison w true) (s.memWrite a l)

end Sys2Proof.Machine
end

