-- ==== Sys2Proof/Machine/Access.lean ====
section
/-!
DEFINITION. Sys2Proof/Machine/Access.lean: reading and setting the per-index state of the blocks.
-/
namespace Sys2Proof.Machine

/-- The state of a line program. -/
def State.lp (s : State) (i : Nat) : Lp := Table.get (fun _ => {}) s.tsq.lps i

/-- The state with that of a line program replaced. -/
def State.setLp (s : State) (i : Nat) (x : Lp) : State :=
  { s with tsq := { s.tsq with lps := Table.set (fun _ => {}) s.tsq.lps i x } }

/-- The state of a converter bank. -/
def State.bank (s : State) (i : Nat) : Bank := Table.get (fun _ => {}) s.vaf.banks i

/-- The state with that of a converter bank replaced. -/
def State.setBank (s : State) (i : Nat) (x : Bank) : State :=
  { s with vaf := { s.vaf with banks := Table.set (fun _ => {}) s.vaf.banks i x } }

/-- The state of the video monitor of an input. -/
def State.monitor (s : State) (i : Nat) : Monitor := Table.get (fun _ => {}) s.vaf.monitors i

/-- The state with that of the video monitor of an input replaced. -/
def State.setMonitor (s : State) (i : Nat) (x : Monitor) : State :=
  { s with vaf := { s.vaf with monitors := Table.set (fun _ => {}) s.vaf.monitors i x } }

/-- The state of a shading group. -/
def State.group (s : State) (i : Nat) : Group := Table.get (fun _ => {}) s.shd.groups i

/-- The state with that of a shading group replaced. -/
def State.setGroup (s : State) (i : Nat) (x : Group) : State :=
  { s with shd := { s.shd with groups := Table.set (fun _ => {}) s.shd.groups i x } }

/-- The state of a record slot, track * 2 + slot. -/
def State.record (s : State) (i : Nat) : DocRecord := Table.get (fun _ => {}) s.geo.records i

/-- The state with that of a record slot, track * 2 + slot replaced. -/
def State.setRecord (s : State) (i : Nat) (x : DocRecord) : State :=
  { s with geo := { s.geo with records := Table.set (fun _ => {}) s.geo.records i x } }

/-- The state of a transport path. -/
def State.pathSt (s : State) (i : Nat) : PathSt := Table.get (fun _ => {}) s.gait.paths i

/-- The state with that of a transport path replaced. -/
def State.setPathSt (s : State) (i : Nat) (x : PathSt) : State :=
  { s with gait := { s.gait with paths := Table.set (fun _ => {}) s.gait.paths i x } }

/-- The state of an encoder. -/
def State.enc (s : State) (i : Nat) : Enc := Table.get (fun _ => {}) s.gait.encs i

/-- The state with that of an encoder replaced. -/
def State.setEnc (s : State) (i : Nat) (x : Enc) : State :=
  { s with gait := { s.gait with encs := Table.set (fun _ => {}) s.gait.encs i x } }

/-- The state of a group's seam. -/
def State.seamSt (s : State) (i : Nat) : SeamSt := Table.get (fun _ => {}) s.gait.seams i

/-- The state with that of a group's seam replaced. -/
def State.setSeamSt (s : State) (i : Nat) (x : SeamSt) : State :=
  { s with gait := { s.gait with seams := Table.set (fun _ => {}) s.gait.seams i x } }

/-- The window of a unit whose record is in a slot, none when it has none: key unit * 2 + slot. -/
def State.window (s : State) (i : Nat) : Option Window := Table.get (fun _ => none) s.geo.windows i

/-- The state with a window replaced. -/
def State.setWindow (s : State) (i : Nat) (x : Option Window) : State :=
  { s with geo := { s.geo with windows := Table.set (fun _ => none) s.geo.windows i x } }

/-- The lines of a plane, newest first. -/
def State.planeLines (s : State) (n : Nat) : List PlaneLine := Table.get (fun _ => []) s.shd.planes n

/-- The state with a plane's lines replaced. -/
def State.setPlaneLines (s : State) (n : Nat) (l : List PlaneLine) : State :=
  { s with shd := { s.shd with planes := Table.set (fun _ => []) s.shd.planes n l } }

/-- The delivered lines of a plane, newest first. -/
def State.outOf (s : State) (n : Nat) : List OutLine := Table.get (fun _ => []) s.outLines n

end Sys2Proof.Machine
end

