-- ==== Sys2Proof/Machine/Report.lean ====
section
/-!
DEFINITION. Sys2Proof/Machine/Report.lean: how an exception of a line reaches the document record (R209, R213).
-/
namespace Sys2Proof.Machine

/-! Causes of Table 6-5. -/
namespace Cause
def lineOverrun : Nat := 0x01
def stale : Nat := 0x02
def timeout : Nat := 0x03
def sampleMissing : Nat := 0x04
def uncalibrated : Nat := 0x05
def sliceSwap : Nat := 0x06
def videoFault : Nat := 0x07
def unshaded : Nat := 0x08
def shadeTemp : Nat := 0x09
def shadeFallback : Nat := 0x0A
def alignClamp : Nat := 0x0B
def eccUncorrectable : Nat := 0x0C
def seam : Nat := 0x0D
end Cause

/-- Index 0xFF of an exception without an input, bank or seam (Table 6-4). -/
def noIndex : Nat := 0xFF

/-- A plane is enabled and belongs to group g. -/
def State.planeIn (s : State) (n g : Nat) : Bool :=
  s.bit (R.plCfg n) F.plCfg.EN && (s.fld (R.plCfg n) F.plCfg.GRP == g)

/-- The enabled planes of a group, rising. -/
def State.groupPlanes (s : State) (g : Nat) : List Nat := (List.range 48).filter (fun n => s.planeIn n g)

/-- The bit mask of a list of planes. -/
def planeMask (l : List Nat) : Nat := l.foldl (fun m n => m ||| 2 ^ n) 0

/-- The enabled groups that a line program clocks. -/
def State.groupsOf (s : State) (p : Nat) : List Nat :=
  (List.range 4).filter (fun g => s.bit (R.grpCtl g) F.grpCtl.EN && (s.fld (R.grpCtl g) F.grpCtl.LP == p))

/-- The group of the plane that a unit watches. -/
def State.unitGroup (s : State) (u : Nat) : Nat := s.fld (R.plCfg (s.fld (R.uCfg u) F.uCfg.PLANE)) F.plCfg.GRP

/-- EXC_MAX of a track, above 2,000 acting as 2,000. -/
def State.excMax (s : State) (t : Nat) : Nat := min (s.fld (R.trkCfg t) F.trkCfg.EXC_MAX) 2000

/-- The same cause, index and planes on the same side. -/
def ExcEntry.same (e : ExcEntry) (u cause index planes : Nat) : Bool :=
  (e.unit == u) && (e.cause == cause) && (e.index == index) && (e.planes == planes)

/-- Lengthen the entry that ends just before `y`, if one does (R213). -/
def extendExc (l : List ExcEntry) (u y cause index planes : Nat) : Option (List ExcEntry) :=
  match l with
  | [] => none
  | e :: r =>
    if e.same u cause index planes && (e.y + e.run == y) && decide (e.run < 65535) then
      some ({ e with run := e.run + 1 } :: r)
    else (extendExc r u y cause index planes).map (fun r' => e :: r')

/-- Enter an exception for line `y` of unit `u` into a record (R213). -/
def DocRecord.addExc (d : DocRecord) (max u y cause index planes : Nat) : DocRecord :=
  let seen := { d with causeSeen := d.causeSeen ||| 2 ^ cause }
  if d.exc.any (fun e => e.same u cause index planes && decide (e.y ≤ y ∧ y < e.y + e.run)) then seen
  else match extendExc d.exc u y cause index planes with
    | some l => { seen with exc := l }
    | none =>
      if d.exc.length < max then { seen with exc := d.exc ++ [⟨u, y, cause, 1, index, planes⟩] }
      else { seen with excLost := d.excLost + 1 }

/-- Whether line ordinal `y` lies in a window. -/
def Window.holds (w : Window) (y : Nat) : Bool :=
  match w.origin with
  | none => false
  | some o => decide (o ≤ y) && (!w.closed || decide (y < o + w.y))

/-- The windows, as unit and slot, that hold line ordinal `y` of group g. -/
def State.windowsAt (s : State) (g y : Nat) : List (Nat × Nat) :=
  ((List.range 8).filter (fun i => s.unitGroup (i / 2) == g &&
    (match s.window i with | some w => w.holds y | none => false))).map (fun i => (i / 2, i % 2))

/-- Units whose last completed window held line ordinal `y` of group g. -/
def State.pastAt (s : State) (g y : Nat) : List Nat :=
  (List.range 4).filter (fun u => s.unitGroup u == g &&
    (match Table.get (fun _ => none) s.geo.past u with
     | some r => decide (r.1 ≤ y ∧ y < r.2)
     | none => false))

/-- A listed exception as one number. -/
def excKey (cause index planes : Nat) : Nat := cause + index * 2 ^ 8 + planes * 2 ^ 16

/-- The exception is already listed for the line. -/
def Group.listed (x : Group) (y key : Nat) : Bool := x.lines.any (fun l => l.y == y && l.causes.contains key)

/-- Note an exception on the line of the group, and its cause on a strip capture that runs (Table 5-4 bit 7). -/
def Group.noteCause (x : Group) (y cause key : Nat) : Group :=
  let strip := x.lines.any (fun l => l.y == y && l.strip.isSome)
  { x with
    lines := x.lines.map (fun l => if l.y = y then { l with causes := key :: l.causes } else l)
    capture := x.capture.map (fun c => if strip && cause != Cause.shadeTemp then { c with listed := true } else c) }

/-- An exception reported for line ordinal `y` of group g (R209), once for each line, cause, index and plane mask: entered in
the record of every window that holds the line, with that window's unit or with `unit`; late for a completed record; counted in
UNREC_CNT outside every window. -/
def State.listLineAs (s : State) (unit : Option Nat) (g y cause index planes : Nat) : State :=
  let key := excKey cause (unit.getD index) planes
  if (s.group g).listed y key then s
  else
    let s1 := s.setGroup g ((s.group g).noteCause y cause key)
    match s1.windowsAt g y, s1.pastAt g y with
    | [], [] => s1.count R.geoUnrecCnt
    | [], late => late.foldl (fun t u =>
        let k := t.fld (R.uCfg u) F.uCfg.TRK
        (t.count (R.trkLateCnt k)).setFld (R.trkStat k) F.trkStat.LATE 1) s1
    | ws, _ => ws.foldl (fun t us =>
        let k := t.fld (R.uCfg us.1) F.uCfg.TRK
        let o := match t.window (us.1 * 2 + us.2) with | some w => w.origin.getD 0 | none => 0
        t.setRecord (k * 2 + us.2)
          ((t.record (k * 2 + us.2)).addExc (t.excMax k) (unit.getD us.1) (y - o) cause index planes)) s1

/-- An exception reported with the unit of each window that holds the line. -/
def State.listLine (s : State) (g y cause index planes : Nat) : State := s.listLineAs none g y cause index planes

/-- An exception of line ordinal `y` on the planes of a mask, listed for each enabled group that holds some of them. -/
def State.listPlanes (s : State) (y cause index mask : Nat) : State :=
  s.forEach 4 (fun g t =>
    let m := planeMask (t.groupPlanes g) &&& mask
    if t.bit (R.grpCtl g) F.grpCtl.EN && m != 0 then t.listLine g y cause index m else t)

/-- An exception of line ordinal `y` of a line program, on every enabled plane of each of its groups. -/
def State.listProgram (s : State) (p y cause : Nat) : State :=
  (s.groupsOf p).foldl (fun t g => t.listLine g y cause noIndex (planeMask (t.groupPlanes g))) s

end Sys2Proof.Machine
end

