-- ==== Sys2Proof/Machine/Shading.lean ====
section
/-!
DEFINITION. Sys2Proof/Machine/Shading.lean: the shading stage: planes and groups, per-pixel shading, strip captures, full
recalibration, colour-line alignment (R155-R185).
-/
namespace Sys2Proof.Machine

/-! ## Idleness (R87, R155) -/

/-- A line program is idle (R87). -/
def State.lpIdle (s : State) (p : Nat) : Bool := !(s.bit (R.lpCfg p) F.lpCfg.EN) && !(s.bit (R.lpStat p) F.lpStat.BUSY)

/-- STATE of a group (Table 5-3). -/
def State.grpState (s : State) (g : Nat) : Nat := s.fld (R.grpStat g) F.grpStat.STATE

/-- A group is not idle (R155). -/
def State.grpBusy (s : State) (g : Nat) : Bool :=
  s.bit (R.grpCtl g) F.grpCtl.EN &&
    !(s.grpState g == 1 && s.lpIdle (s.fld (R.grpCtl g) F.grpCtl.LP))

/-! ## Temperature and weight (R161-R166) -/

/-- T of a group now: the value used and whether it is bad (R163-R166). -/
def State.grpTemp (s : State) (g : Nat) : Int × Bool :=
  if s.bit (R.grpTsrc g) F.grpTsrc.HOST then (signed 16 (s.fld (R.grpTsrc g) F.grpTsrc.THOST), false)
  else
    let x := s.group g
    match x.temp with
    | some t =>
      if x.tempValid && !x.tempLate then (t, false)
      else (x.lastGood.getD (signed 16 (s.fld (R.grpSett g) F.grpSett.TA)), true)
    | none => (x.lastGood.getD (signed 16 (s.fld (R.grpSett g) F.grpSett.TA)), true)

/-- The weight that SHADE = 3 gives for a temperature (R161). -/
def State.blendWeight (s : State) (g : Nat) (t : Int) : Nat :=
  let va := s.bit (R.grpSetv g) F.grpSetv.VA
  let vb := s.bit (R.grpSetv g) F.grpSetv.VB
  let ta := signed 16 (s.fld (R.grpSett g) F.grpSett.TA)
  let tb := signed 16 (s.fld (R.grpSett g) F.grpSett.TB)
  if va && vb then
    if 16 ≤ (tb - ta).natAbs then (clampInt 0 256 (floorDiv (512 * (t - ta) + (tb - ta)) (2 * (tb - ta)))).toNat
    else if (t - ta).natAbs ≤ (t - tb).natAbs then 0 else 256
  else if vb then 256 else 0

/-! ## Enabling groups and planes (R156, R157) -/

/-- Bytes that the enabled planes of a group need of its partition (R157). -/
def State.grpNeed (s : State) (g : Nat) : Nat :=
  (s.groupPlanes g).foldl (fun n pl =>
    n + (2 * (s.fld (R.plAlign pl) F.plAlign.MAXD + 10) + 12) * s.fld (R.plCfg pl) F.plCfg.WIDTH) 0

/-- Another enabled group names the same partition (R156 cause 1). -/
def State.grpShares (s : State) (g : Nat) : Bool :=
  (List.range 4).any (fun h => h != g && s.bit (R.grpCtl h) F.grpCtl.EN &&
    (s.fld (R.grpCtl h) F.grpCtl.ABP == s.fld (R.grpCtl g) F.grpCtl.ABP))

/-- A plane's width is 0 or its range passes the store (R156 cause 3). -/
def State.planeRangeBad (s : State) (n : Nat) : Bool :=
  let w := s.fld (R.plCfg n) F.plCfg.WIDTH
  w == 0 || decide (393216 < s.fld (R.plBase n) F.plBase.BASE + w)

/-- The coefficient ranges of two planes overlap. -/
def State.planesOverlap (s : State) (m n : Nat) : Bool :=
  let bm := s.fld (R.plBase m) F.plBase.BASE
  let bn := s.fld (R.plBase n) F.plBase.BASE
  decide (bm < bn + s.fld (R.plCfg n) F.plCfg.WIDTH ∧ bn < bm + s.fld (R.plCfg m) F.plCfg.WIDTH)

/-- Enabled planes whose group is enabled or is g. -/
def State.livePlanes (s : State) (g : Nat) : List Nat :=
  (List.range 48).filter (fun n => s.bit (R.plCfg n) F.plCfg.EN &&
    (s.fld (R.plCfg n) F.plCfg.GRP == g || s.bit (R.grpCtl (s.fld (R.plCfg n) F.plCfg.GRP)) F.grpCtl.EN))

/-- R156 cause 4 for group g. -/
def State.rangesClash (s : State) (g : Nat) : Bool :=
  let l := s.livePlanes g
  l.any (fun m => l.any (fun n => decide (m < n) && s.planesOverlap m n))

/-- The cause of R156 that a group meets, by its lowest number; 0 none. -/
def State.grpCause (s : State) (g : Nat) (invalid : Bool) : Nat :=
  if s.grpShares g then 1
  else if invalid || decide (s.partBytes (s.fld (R.grpCtl g) F.grpCtl.ABP) < s.grpNeed g) then 2
  else if (s.groupPlanes g).any (fun n => s.planeRangeBad n) then 3
  else if s.rangesClash g then 4
  else 0

/-- A refused enable leaves EN at 0 and records its cause (R156). -/
def State.grpRefuse (s : State) (g cause : Nat) : State :=
  (s.setFld (R.grpStat g) F.grpStat.CFG_ERR 1).setFld (R.grpStat g) F.grpStat.CFG_CAUSE cause

/-- SHD's claimant ID. -/
def claimantShd : Nat := 0x12

/-- The checks and claim of an enable whose values stand in the registers (R156, R180). -/
def State.grpEnable (s : State) (path : Path) (g : Nat) : State :=
  let abp := s.fld (R.grpCtl g) F.grpCtl.ABP
  let off (t : State) : State := t.setFld (R.grpCtl g) F.grpCtl.EN 0
  match s.claim (.partition abp) claimantShd with
  | (t, .denied) => off (t.errClaim path (R.grpCtl g))
  | (t, r) =>
    let cause := t.grpCause g (r == .invalid)
    if cause = 0 then
      (t.groupPlanes g).foldl (fun u n => u.setPlaneLines n [])
        (((t.setFld (R.grpStat g) F.grpStat.STATE 1).setFld (R.grpQ2 g) F.grpQ2.FULL_CNT 0).setGroup g {})
    else
      -- a partition that this write claimed is released; one that another enabled group holds stays claimed
      let back := if s.owner (.partition abp) = 0 then t.setOwner (.partition abp) 0 else t
      off (back.grpRefuse g cause)

/-- EN := 0: a capture or computation is abandoned and the group turns OFF; in COPY it turns OFF when COPY ends (R180). -/
def State.grpDisable (s : State) (g : Nat) : State :=
  if s.grpState g == 5 then s.setGroup g { s.group g with offAfterCopy := true }
  else
    let s1 := (s.release (.partition (s.fld (R.grpCtl g) F.grpCtl.ABP)) claimantShd).1
    (s1.setFld (R.grpStat g) F.grpStat.STATE 0).setGroup g { s1.group g with capture := none, stripDue := none }

/-- A FULL_REQ write (R174). -/
def State.fullRequest (s : State) (g : Nat) : State :=
  ((s.setFld (R.grpStat g) F.grpStat.FULL_PEND 1).setFld (R.grpStat g) F.grpStat.DRIFT_HOLD 0).setGroup g
    { s.group g with byRequest := true }

/-- A write of GRPg_CTL. -/
def State.grpCtlWrite (s : State) (path : Path) (g : Nat) (w : Word) : State :=
  let was := s.bit (R.grpCtl g) F.grpCtl.EN
  let s1 := s.writeRow path (R.grpCtl g) Row.grpCtl w (s.grpBusy g)
  let s2 := if w.getLsbD 14 then s1.fullRequest g else s1
  if w.getLsbD 0 && !was then s2.grpEnable path g
  else if !(w.getLsbD 0) && was then s2.grpDisable g
  else s2

/-- A write of PLn_CFG (R155, R156): a plane of an enabled group is not enabled against cause 2, 3 or 4. -/
def State.plCfgWrite (s : State) (path : Path) (n : Nat) (w : Word) : State :=
  let s1 := s.writeOwned path (R.plCfg n) Row.plCfg w F.plCfg.GRP (s.grpBusy (s.fld (R.plCfg n) F.plCfg.GRP))
    (s.grpBusy (F.plCfg.GRP.get w))
  let g := s1.fld (R.plCfg n) F.plCfg.GRP
  if w.getLsbD 0 && s1.bit (R.plCfg n) F.plCfg.EN && s1.bit (R.grpCtl g) F.grpCtl.EN then
    let cause :=
      if decide (s1.partBytes (s1.fld (R.grpCtl g) F.grpCtl.ABP) < s1.grpNeed g) then 2
      else if (s1.groupPlanes g).any (fun m => s1.planeRangeBad m) then 3
      else if s1.rangesClash g then 4 else 0
    if cause = 0 then s1 else s.grpRefuse g cause
  else s1

/-! ## Document boundaries and strip captures (R168-R172) -/

/-- The plane that a trim entry maps to under R128, none when its tag maps to no plane. -/
def State.trimPlane (s : State) (entry : Nat) : Option Nat :=
  let vin := s.fld (R.vafSegCfg (entry / 6)) F.vafSegCfg.VIN
  let k := entry % 6
  let w := if k < 4 then s.reg (R.vafPmapLo vin) else s.reg (R.vafPmapHi vin)
  let b := w.toNat >>> (8 * (k % 4))
  if b.testBit 7 && decide (b % 64 ≤ 47) then some (b % 64) else none

/-- The registers whose Next document fields belong to group g: its own, its planes' and its trim entries' (R169). -/
def State.docRegs (s : State) (g : Nat) : List Nat :=
  [R.grpZone g, R.grpCalz g, R.grpFidx g] ++
  ((s.groupPlanes g).flatMap (fun n => [R.plCfg n, R.plAlign n])) ++
  (((List.range 384).filter (fun e => match s.trimPlane e with | some n => s.planeIn n g | none => false)).flatMap
    (fun e => [R.shdTrim0 e, R.shdTrim1 e]))

/-- A pulse of the strip event (R168, R169). -/
def State.stripEvent (s : State) (g : Nat) : State :=
  let x := s.group g
  if s.grpState g != 1 then s.setFld (R.grpStat g) F.grpStat.STRIP_IGN 1
  else if s.bit (R.grpCtl g) F.grpCtl.STRIP_EN then
    let full := s.bit (R.grpStat g) F.grpStat.FULL_PEND
    (s.setFld (R.grpStat g) F.grpStat.STATE (if full then 3 else 2)).setGroup g
      { x with stripDue := some full, boundary := true, trimStatus := none, fullStatus := none }
  else s.setGroup g { x with boundary := true }

/-- Last strip line of a capture: WHT_Y0 + WHT_N - 1. -/
def State.stripEnd (s : State) (g : Nat) : Nat :=
  s.effFld (R.grpZone g) F.grpZone.WHT_Y0 + s.effFld (R.grpZone g) F.grpZone.WHT_N - 1

/-- DARK_N, of which 0 acts as 1. -/
def State.darkN (s : State) (g : Nat) : Nat :=
  let n := s.effFld (R.grpCalz g) F.grpCalz.DARK_N
  if n = 0 then 1 else n

/-- A trigger of the group's program, taken or skipped (R161, R166, R168, R169, R174): the document boundary, the strip
line, the temperature of the line, and the drift request. -/
def State.grpTrigger (s : State) (g y : Nat) (pos : Int) : State :=
  let x0 := s.group g
  let atDoc := x0.boundary || !(s.selOn (R.grpStripSel g))
  let s1 := if atDoc then s.commit (s.docRegs g) else s
  let (t, bad) := s1.grpTemp g
  let cap := match x0.stripDue with
    | some full => some { full := full, byRequest := x0.byRequest : Capture }
    | none => x0.capture
  let strip := match cap with
    | some c => if c.s ≤ s1.stripEnd g then some c.s else none
    | none => none
  let cap' := cap.map (fun c =>
    if strip.isSome then
      { c with s := c.s + 1, tempSum := c.tempSum + t, tempNum := c.tempNum + 1, tempBad := c.tempBad || bad }
    else c)
  let x1 := { x0 with
    boundary := false, stripDue := none, capture := cap'
    lastGood := if bad then x0.lastGood else some t
    firstLine := match x0.firstLine with | none => some y | some f => some f
    lines := ({ y := y, temp := t, strip := strip, pos := pos, time := s1.sys.time.toNat : GroupLine } :: x0.lines).take 96 }
  let s2 := (s1.setGroup g x1).setFld (R.grpTemp g) F.grpTemp.T (unsigned 16 t)
  let s3 := s2.setFld (R.grpStat g) F.grpStat.TEMP_BAD (if bad then 1 else 0)
  let s4 := if bad then s3.listLine g y Cause.shadeTemp noIndex (planeMask (s3.groupPlanes g)) else s3
  let drift := s4.bit (R.grpCtl g) F.grpCtl.AUTO_FULL && s4.bit (R.grpSetv g) F.grpSetv.TLAST_V &&
    !(s4.bit (R.grpStat g) F.grpStat.DRIFT_HOLD) &&
    decide (s4.fld (R.grpSeam g) F.grpSeam.DRIFT < (t - signed 16 (s4.fld (R.grpSetv g) F.grpSetv.TLAST)).natAbs)
  if drift then s4.setFld (R.grpStat g) F.grpStat.FULL_PEND 1 else s4

/-- A result of regular-sequence entry `e` reaches the groups that name it (R163-R166). -/
def State.tempResult (s : State) (e : Nat) (value : Int) (valid : Bool) : State :=
  s.forEach 4 (fun g t =>
    if t.fld (R.grpTsrc g) F.grpTsrc.ENTRY == e then
      t.setGroup g { t.group g with temp := some (clampInt (-32768) 32767 value), tempValid := valid, tempLate := false }
    else t)

/-! ## Per-pixel shading (R158-R162) -/

/-- Address of the coefficient word of set X for pixel x of plane n (R159). -/
def State.coefAddr (s : State) (set n x : Nat) : Nat :=
  shadingBase + set * 0x180000 + 4 * (s.fld (R.plBase n) F.plBase.BASE + x)

/-- The blend of two set values by a weight: a + (((b - a) * w + 128) >> 8). -/
def blend (a b w : Nat) : Int := (a : Int) + floorDiv (((b : Int) - a) * w + 128) 256

/-- The value v of R160 from a raw code in 1/16 counts. -/
def shadeValue (dA gA dB gB w : Nat) (r : Int) : Int :=
  let d := r - blend dA dB w
  floorDiv ((if d < 0 then 0 else d) * blend gA gB w + 4096) 8192

/-- The trimmed value t of R160. -/
def trimValue (rd md tg : Nat) (v : Int) : Nat :=
  let t := if tg = 0 then v else (rd : Int) + floorDiv ((v - md) * tg + 8192) 16384
  (clampInt 0 65535 t).toNat

/-- Replace the line of a plane with ordinal y by `f` of it; a line not yet there starts empty, as the newest. -/
def updateLine (l : List PlaneLine) (y : Nat) (f : PlaneLine → PlaneLine) : List PlaneLine :=
  if l.any (fun e => e.y == y) then l.map (fun e => if e.y = y then f e else e) else (f { y := y } :: l).take 96

/-- What shading makes of one sample: v, t and whether it is unshaded (R160, R162). -/
def State.shadeAt (s : State) (g n x raw entry shade w : Nat) : Nat × Nat × Bool :=
  let va := s.bit (R.grpSetv g) F.grpSetv.VA
  let vb := s.bit (R.grpSetv g) F.grpSetv.VB
  let r := raw * 16
  if shade == 0 || (w == 0 && !va) || (w == 256 && !vb) || (w != 0 && w != 256 && !(va && vb)) then (r, r, true)
  else
    let a := s.word (s.coefAddr 0 n x)
    let b := s.word (s.coefAddr 1 n x)
    let v := shadeValue (a.toNat / 65536) (a.toNat % 65536) (b.toNat / 65536) (b.toNat % 65536) w r
    let t := trimValue (s.effFld (R.shdTrim0 entry) F.shdTrim0.REF_DARK)
      (s.effFld (R.shdTrim1 entry) F.shdTrim1.MEAS_DARK) (s.effFld (R.shdTrim1 entry) F.shdTrim1.TGAIN) v
    ((clampInt 0 65535 v).toNat, t, false)

/-- The line of a group with ordinal y. -/
def Group.line (x : Group) (y : Nat) : Option GroupLine := x.lines.find? (fun l => l.y == y)

/-- Set the weight and the fallback of a line of a group. -/
def Group.setLine (x : Group) (y : Nat) (f : GroupLine → GroupLine) : Group :=
  { x with lines := x.lines.map (fun l => if l.y = y then f l else l) }

/-- A sample of an enabled plane is shaded into its line (R160-R162, R179, R35). -/
def State.shadeInto (s : State) (g : Nat) (sm : Sample) (poisoned : Bool) : State :=
  let x := s.group g
  let mask := 2 ^ sm.plane
  match x.line sm.line with
  | none => s.count R.shdDropCnt
  | some gl =>
    let w3 := gl.weight.getD (s.blendWeight g gl.temp)
    let other := 1 - x.target
    let fb := if gl.fallback.isSome then gl.fallback else if s.grpState g == 5 then some other else none
    let shade := s.effFld (R.plCfg sm.plane) F.plCfg.SHADE
    let w := match fb with
      | some set => if set = 0 then 0 else 256
      | none => if shade = 1 then 0 else if shade = 2 then 256 else w3
    let s0 := if poisoned then s.listLine g sm.line Cause.eccUncorrectable noIndex mask else s
    let s1 := (s0.setGroup g ((s0.group g).setLine sm.line (fun l => { l with weight := some w3, fallback := fb }))).setFld
      (R.grpTemp g) F.grpTemp.W w3
    let s2 := if fb.isSome && gl.fallback.isNone then
      s1.listLine g sm.line Cause.shadeFallback noIndex (planeMask (s1.groupPlanes g)) else s1
    -- the coefficient words in use are read through the protected memory (R33, R35)
    let ca := s2.coefAddr 0 sm.plane sm.x
    let cb := s2.coefAddr 1 sm.plane sm.x
    let plain := (s2.shadeAt g sm.plane sm.x sm.raw sm.entry shade w).2.2
    let s3a := if !plain && decide (w < 256) then s2.memRead ca 4 else s2
    let s3 := if !plain && decide (0 < w) then s3a.memRead cb 4 else s3a
    let badCoef := !plain && ((decide (w < 256) && s3.poisoned ca) || (decide (0 < w) && s3.poisoned cb))
    let s4 := if badCoef then s3.listLine g sm.line Cause.eccUncorrectable noIndex mask else s3
    let (v, t, unshaded) := s4.shadeAt g sm.plane sm.x sm.raw sm.entry shade w
    let s5 := if unshaded && shade != 0 then s4.listLine g sm.line Cause.unshaded noIndex mask else s4
    let s6 := s5.setPlaneLines sm.plane (updateLine (s5.planeLines sm.plane) sm.line (fun l =>
      { l with raw := Table.set (fun _ => 0) l.raw sm.x sm.raw, v := Table.set (fun _ => 0) l.v sm.x v,
               t := Table.set (fun _ => 0) l.t sm.x t,
               bad := if poisoned || badCoef then addSorted l.bad sm.x else l.bad }))
    let x6 := s6.group g
    s6.setGroup g { x6 with capture := x6.capture.map (fun c =>
      if gl.strip.isSome then { c with entry := Table.set (fun _ => 0) c.entry (sm.plane * 65536 + sm.x) (sm.entry + 1) }
      else c) }

/-- A sample is dropped (R158): its plane or group is disabled, the group names another program, or x passes the width. -/
def State.dropsSample (s : State) (sm : Sample) : Bool :=
  let g := s.fld (R.plCfg sm.plane) F.plCfg.GRP
  !(s.bit (R.plCfg sm.plane) F.plCfg.EN) || !(s.bit (R.grpCtl g) F.grpCtl.EN) ||
    s.fld (R.grpCtl g) F.grpCtl.LP != sm.lp || decide (s.fld (R.plCfg sm.plane) F.plCfg.WIDTH ≤ sm.x)

/-! ## Alignment and delivery (R183) -/

/-- Overlap lines carry ordinals from here on (R235). -/
def overlapBase : Nat := 2 ^ 40

/-- The line of a plane with ordinal y, or the first one triggered since the group was enabled (R183). -/
def lineAt (l : List PlaneLine) (first : Nat) (y : Int) : PlaneLine :=
  let k := if y < first then first else y.toNat
  match l.find? (fun e => e.y == k) with
  | some e => e
  | none => { y := k }

/-- The interpolation of R183 at one pixel of one kind of value. -/
def alignPixel (a b f : Nat) : Nat := (a * (16 - f) + b * f + 8) / 16

/-- Pixel and line keys of a capture. -/
def pixKey (n x : Nat) : Nat := n * 65536 + x

/-- Add to an entry of a table of sums. -/
def addTo (t : Table Nat) (k v : Nat) : Table Nat := Table.set (fun _ => 0) t k (Table.get (fun _ => 0) t k + v)

/-- Accumulate one delivered strip line of a plane (Table 5-2). `rawA` and `vA` are its aligned values by x. -/
def State.accumulate (s : State) (g n strip width : Nat) (c : Capture) (line : PlaneLine) (rawA vA : Nat → Nat) : Capture :=
  let z := R.grpZone g
  let by0 := s.effFld z F.grpZone.BLK_Y0
  let bn := s.effFld z F.grpZone.BLK_N
  let wy0 := s.effFld z F.grpZone.WHT_Y0
  let wn := s.effFld z F.grpZone.WHT_N
  let xs := List.range width
  let rawOf (x : Nat) := Table.get (fun _ => 0) line.raw x
  let dark := c.full && decide (strip < s.darkN g)
  let x0 := s.effFld (R.grpFidx g) F.grpFidx.X0
  let x1 := min (s.effFld (R.grpFidx g) F.grpFidx.X1) (width - 1)
  let fid := (xs.filter (fun x => decide (x0 ≤ x ∧ x ≤ x1))).foldl (fun a x => a + rawOf x) 0
  let c1 := if dark then { c with dark := xs.foldl (fun t x => addTo t (pixKey n x) (rawOf x)) c.dark }
    else { c with fidSum := addTo c.fidSum (pixKey n strip) fid }
  let c2 := if by0 ≤ strip ∧ strip < by0 + bn then
      { c1 with black := xs.foldl (fun t x => addTo t (pixKey n x) (vA x)) c1.black,
                rawBlack := if c.full then xs.foldl (fun t x => addTo t (pixKey n x) (rawA x)) c1.rawBlack else c1.rawBlack }
    else c1
  if wy0 ≤ strip ∧ strip < wy0 + wn then
    { c2 with white := xs.foldl (fun t x => addTo t (pixKey n x) (vA x)) c2.white,
              rawWhite := if c.full then xs.foldl (fun t x => addTo t (pixKey n x) (rawA x)) c2.rawWhite else c2.rawWhite,
              lineSum := addTo c2.lineSum (pixKey n strip) (xs.foldl (fun a x => a + vA x) 0),
              rawLineSum := addTo c2.rawLineSum (pixKey n strip) (xs.foldl (fun a x => a + rawA x) 0),
              clipped := addTo c2.clipped n (xs.filter (fun x => rawOf x == 4095)).length }
  else c2

/-- Address of a slot of the seam store of group g: ring slots first, overlap slots after them (R232). -/
def seamSlot (g width k : Nat) : Nat := 0x017E000000 + g * 0x400000 + k * (2 * width)

/-- The path whose seam group g joins, and its ring length K (R232). -/
def State.seamPath (s : State) (g : Nat) : Nat := s.fld (R.seamCfg g) F.seamCfg.PATH
def State.seamK (s : State) (g : Nat) : Nat :=
  s.fld (R.pathSeam (s.seamPath g)) F.pathSeam.OVERLAP + s.fld (R.pathSeam (s.seamPath g)) F.pathSeam.SRCH + 1

/-- STATE of a path (Table 7-1). -/
def State.pathState (s : State) (k : Nat) : Nat := s.fld (R.pathStat k) F.pathStat.STATE

/-- Store the pre-alignment values of a line in the seam store while its path runs or stops, and those of an overlap line
in its slot (R232, R235). -/
def State.seamStore (s : State) (g n : Nat) (line : PlaneLine) (width : Nat) : State :=
  let bytes := (List.range width).flatMap (fun x => bytesLE 2 (Table.get (fun _ => 0) line.t x))
  if !(s.bit (R.seamCfg g) F.seamCfg.EN && s.fld (R.seamCfg g) F.seamCfg.PLANE == n && s.pdOn 127) then s
  else if overlapBase ≤ line.y then
    let i := line.y - overlapBase
    let q := s.seamSt g
    (s.memWrite (seamSlot g width (s.seamK g + i)) bytes).setSeamSt g { q with shaded := addSorted q.shaded i }
  else if s.pathState (s.seamPath g) == 2 || s.pathState (s.seamPath g) == 3 then
    s.memWrite (seamSlot g width (line.y % s.seamK g)) bytes
  else s

/-- Output line y of a plane: aligned across its delay and delivered downstream (R183); strip lines are accumulated. -/
def State.deliverLine (s : State) (n y : Nat) : State :=
  let g := s.fld (R.plCfg n) F.plCfg.GRP
  let x := s.group g
  let width := s.fld (R.plCfg n) F.plCfg.WIDTH
  let ls := s.planeLines n
  let first := x.firstLine.getD y
  let here := lineAt ls first y
  let s0 := s.seamStore g n here width
  if overlapBase ≤ y then s0
  else
    let e := (s0.effFld (R.plAlign n) F.plAlign.DELAY : Int) + signed 8 (s0.effFld (R.grpSeam g) F.grpSeam.SEAM)
    let top : Int := (s0.fld (R.plAlign n) F.plAlign.MAXD + 8) * 16 + 15
    let clamped := decide (e < 0 ∨ top < e)
    let e' := (clampInt 0 top e).toNat
    let la := lineAt ls first ((y : Int) - (e' / 16 : Nat))
    let lb := lineAt ls first ((y : Int) - (e' / 16 : Nat) - 1)
    let f := e' % 16
    let get (t : PlaneLine → Table Nat) (px : Nat) : Nat :=
      alignPixel (Table.get (fun _ => 0) (t la) px) (Table.get (fun _ => 0) (t lb) px) f
    let out : OutLine := {
      y := y, vals := (List.range width).map (get PlaneLine.t), rep := here.rep
      bad := if f = 0 then la.bad else lb.bad.foldl addSorted la.bad }
    let s1 := { s0 with
      outLines := Table.set (fun _ => []) s0.outLines n ((out :: s0.outOf n).take 64), work := s0.work ++ [Work.lineOut n y] }
    let s2 := s1.setPlaneLines n (updateLine (s1.planeLines n) y (fun l => { l with done := true }))
    let s3 := if clamped then
        (s2.setFld (R.grpStat g) F.grpStat.ALIGN_CLAMP 1).listLine g y Cause.alignClamp noIndex (2 ^ n)
      else s2
    let x3 := s3.group g
    match x3.capture, (x3.line y).bind (fun l => l.strip) with
    | some c, some strip =>
      s3.setGroup g { x3 with capture := some (s3.accumulate g n strip width c here (get PlaneLine.raw) (get PlaneLine.v)) }
    | _, _ => s3

/-! ## Strip checks (R173, R182, R184) -/

/-- The sums of the fiducial search of a plane, with the strip lines searched (R184). -/
def State.fidLines (s : State) (g : Nat) (c : Capture) (n : Nat) : List (Nat × Nat) :=
  let from_ := if c.full then s.darkN g else 0
  ((List.range (s.stripEnd g + 1)).filter (fun i => decide (from_ ≤ i))).map
    (fun i => (i, Table.get (fun _ => 0) c.fidSum (pixKey n i)))

/-- Number of fiducial pixels of a plane. -/
def State.fidCount (s : State) (g n : Nat) : Nat :=
  let w := s.fld (R.plCfg n) F.plCfg.WIDTH
  min (s.effFld (R.grpFidx g) F.grpFidx.X1) (w - 1) + 1 - s.effFld (R.grpFidx g) F.grpFidx.X0

/-- The measured edge e_n of a plane, none when the search of R184 fails. -/
def State.fidEdge (s : State) (g : Nat) (c : Capture) (n : Nat) : Option Rat :=
  let l := s.fidLines g c n
  let lo := l.foldl (fun m e => min m e.2) (l.headD (0, 0)).2
  let hi := l.foldl (fun m e => max m e.2) 0
  let cnt := s.fidCount g n
  let above (v : Nat) : Bool := decide (lo + hi ≤ 2 * v)
  let rec go (prev : Option Nat) : List (Nat × Nat) → Option Rat
    | [] => none
    | e :: r =>
      if above e.2 then
        match prev with
        | none => none
        | some m0 =>
          if r.all (fun q => above q.2) then
            some ((e.1 : Rat) - 1 + ((lo + hi : Nat) - (2 * m0 : Nat) : Rat) / (2 * ((e.2 : Rat) - m0)))
          else none
      else go (some e.2) r
  if hi - lo < s.fld R.shdChk0 F.shdChk0.LVL_MIN * cnt || cnt == 0 then none else go none l

/-- Floor of a rational plus one half. -/
def roundHalf (q : Rat) : Int := Rat.floor (q + 1 / 2)

/-- Absolute value of a rational. -/
def ratAbs (q : Rat) : Rat := if q < 0 then -q else q

/-- The fiducial measurement of a capture: per plane its edge; whether the check passes; FIDRES; the largest edge. -/
structure FidResult where
  edges : List (Nat × Option Rat)
  ok : Bool
  res : Nat
  top : Rat
  deriving DecidableEq

/-- R184 over the planes of a group; `full` selects the checks of full mode. -/
def State.fiducial (s : State) (g : Nat) (c : Capture) (full : Bool) : FidResult :=
  let es := (s.groupPlanes g).map (fun n => (n, s.fidEdge g c n))
  let found := es.filterMap (fun e => e.2)
  let top := found.foldl (fun m e => if m < e then e else m) (found.headD 0)
  let fexp := (s.effFld (R.grpCalz g) F.grpCalz.FID_EXP : Rat)
  let tol := (s.fld (R.grpCalz g) F.grpCalz.FID_TOL : Rat)
  let dev (e : Nat × Option Rat) : Rat :=
    ratAbs (16 * e.2.getD 0 + (s.effFld (R.plAlign e.1) F.plAlign.DELAY : Rat) - fexp)
  let ok := es.all (fun e => e.2.isSome) && !es.isEmpty &&
    (if full then
      es.all (fun e => decide (roundHalf (16 * (top - e.2.getD 0)) ≤ s.fld (R.plAlign e.1) F.plAlign.MAXD * 16 + 15)) &&
        decide (ratAbs (16 * top - fexp) ≤ tol)
    else es.all (fun e => decide (dev e ≤ tol)))
  let res := es.foldl (fun m e => if e.2.isSome then max m (min 255 (Rat.floor (dev e)).toNat) else m) 0
  { edges := es, ok := ok, res := res, top := top }

/-- Pixels of a plane whose contrast departs from the mean of their 64-pixel block by more than UNIF_PCT % (Table 5-4). -/
def unifCount (pct width : Nat) (contrast : Nat → Int) : Nat :=
  ((List.range width).filter (fun x =>
    let j := x / 64 * 64
    let m := min 64 (width - j)
    let sum := (List.range m).foldl (fun a i => a + contrast (j + i)) 0
    decide ((pct : Int) * sum < ((contrast x * m - sum).natAbs : Int) * 100))).length

/-- A white-zone line departs from the zone mean by more than LINE_TOL / 400 of it (Table 5-4). -/
def State.lineBad (s : State) (g n : Nat) (sums : Table Nat) : Bool :=
  let wy0 := s.effFld (R.grpZone g) F.grpZone.WHT_Y0
  let wn := s.effFld (R.grpZone g) F.grpZone.WHT_N
  let l := (List.range wn).map (fun i => Table.get (fun _ => 0) sums (pixKey n (wy0 + i)))
  let total := l.foldl (· + ·) 0
  l.any (fun v => decide (s.fld R.shdChk1 F.shdChk1.LINE_TOL * total <
    (((v * wn : Nat) : Int) - (total : Nat)).natAbs * 400))

/-- The pixels that an entry placed in a capture, as keys. -/
def Capture.pixelsOf (c : Capture) (entry : Nat) : List Nat :=
  (c.entry.filter (fun e => e.2 == entry + 1)).map (fun e => e.1)

/-- The trim of one entry: TG', MD', and the checks' shift; none when the entry is not computed (R173). B and W are the
zone means of v over the entry's pixels. -/
structure TrimResult where
  entry : Nat
  tg : Int
  md : Nat
  bad : Bool
  shift : Nat
  deriving DecidableEq, Repr

/-- R173 for one entry. -/
def State.trimOf (s : State) (g : Nat) (c : Capture) (entry : Nat) : Option TrimResult :=
  let px := c.pixelsOf entry
  let rd := s.effFld (R.shdTrim0 entry) F.shdTrim0.REF_DARK
  let rw := s.effFld (R.shdTrim0 entry) F.shdTrim0.REF_WHITE
  if px.isEmpty || decide (rw ≤ rd) then none
  else
    let sum (t : Table Nat) := px.foldl (fun a k => a + Table.get (fun _ => 0) t k) 0
    let b : Rat := (sum c.black : Rat) / (px.length * s.effFld (R.grpZone g) F.grpZone.BLK_N : Nat)
    let w : Rat := (sum c.white : Rat) / (px.length * s.effFld (R.grpZone g) F.grpZone.WHT_N : Nat)
    let shift := ratAbs (b - rd)
    if w ≤ b then some { entry := entry, tg := 0, md := (roundHalf b).toNat, bad := true, shift := (Rat.floor shift).toNat }
    else
      let tg := roundHalf (16384 * ((rw - rd : Nat) : Rat) / (w - b))
      some { entry := entry, tg := tg, md := (roundHalf b).toNat,
             bad := decide (4 * s.fld R.shdChk2 F.shdChk2.TRIM_LIM < (tg - 16384).natAbs) ||
                    decide ((16 * s.fld R.shdChk2 F.shdChk2.DARK_LIM : Rat) < shift),
             shift := (Rat.floor shift).toNat }

/-- Failing checks of Table 5-4 as their bits. -/
def reasonBits (l : List (Nat × Bool)) : Nat := l.foldl (fun m e => if e.2 then m ||| 2 ^ e.1 else m) 0

/-- A capture evaluated as a trim capture (R173, R182): the trims are written, or rejected with TRIM_REJ and REASON. -/
def State.evaluateTrim (s : State) (g : Nat) (c : Capture) : State :=
  let pls := s.groupPlanes g
  let bn := s.effFld (R.grpZone g) F.grpZone.BLK_N
  let wn := s.effFld (R.grpZone g) F.grpZone.WHT_N
  let get (t : Table Nat) (n x : Nat) : Int := (Table.get (fun _ => 0) t (pixKey n x) : Nat)
  let unif (n : Nat) := unifCount (s.fld R.shdChk1 F.shdChk1.UNIF_PCT) (s.fld (R.plCfg n) F.plCfg.WIDTH)
    (fun x => get c.white n x * bn - get c.black n x * wn)
  let counts := pls.map unif
  let trims := (List.range 384).filterMap (fun e =>
    match s.trimPlane e with
    | some n => if s.planeIn n g then s.trimOf g c e else none
    | none => none)
  let fid := s.fiducial g c false
  let reason := reasonBits [
    (2, counts.any (fun k => decide (s.fld R.shdChk1 F.shdChk1.UNIF_MAX < k))),
    (3, pls.any (fun n => s.lineBad g n c.lineSum)),
    (4, !fid.ok), (5, trims.any (fun t => t.bad)), (7, c.listed)]
  let tgs := trims.map (fun t => (clampInt 0 65535 t.tg).toNat)
  let s1 := ((s.setFld (R.grpQ0 g) F.grpQ0.TG_MIN (tgs.foldl min (tgs.headD 0))).setFld
    (R.grpQ0 g) F.grpQ0.TG_MAX (tgs.foldl max 0)).setFld (R.grpQ1 g) F.grpQ1.DSHIFT
      (min 65535 (trims.foldl (fun m t => max m t.shift) 0))
  let s2 := (s1.setFld (R.grpQ1 g) F.grpQ1.NONUNIF (min 255 (counts.foldl max 0))).setFld
    (R.grpQ1 g) F.grpQ1.FIDRES fid.res
  let s3 := fid.edges.foldl (fun t e => match e.2 with
    | some q =>
      (t.setFld (R.plAlign e.1) F.plAlign.MEAS (roundHalf (16 * (fid.top - q))).toNat).setFld
        (R.plAlign e.1) F.plAlign.MEAS_V 1
    | none => t) s2
  if reason = 0 then
    let s4 := trims.foldl (fun t r =>
      let w := BitVec.ofNat 32 (r.md % 65536 + r.tg.toNat % 65536 * 65536)
      (t.setReg (R.shdTrim1 r.entry) w).commit [R.shdTrim1 r.entry]) s3
    s4.setGroup g { s4.group g with trimStatus := some St.success }
  else
    let s4 := ((s3.setFld (R.grpStat g) F.grpStat.TRIM_REJ 1).setFld (R.grpStat g) F.grpStat.REASON reason).countFld
      (R.grpRejCnt g) F.grpRejCnt.TRIM
    s4.setGroup g { s4.group g with trimStatus := some St.calRejected }

/-- A capture is complete: a trim capture is evaluated at once and the group returns to RUN; a full one chooses its target
set and enters COMPUTE (R173, R175, R180). -/
def State.captureComplete (s : State) (g : Nat) : State :=
  let x := s.group g
  match x.capture with
  | none => s
  | some c =>
    if c.full then
      let va := s.bit (R.grpSetv g) F.grpSetv.VA
      let vb := s.bit (R.grpSetv g) F.grpSetv.VB
      let far (t : Nat) : Nat := (signed 16 t * c.tempNum - c.tempSum).natAbs
      let sel := s.fld (R.grpCtl g) F.grpCtl.TARGET
      let target :=
        if !va then 0 else if !vb then 1
        else if sel = 1 then 0 else if sel = 2 then 1
        else if far (s.fld (R.grpSett g) F.grpSett.TA) ≤ far (s.fld (R.grpSett g) F.grpSett.TB) then 0 else 1
      (s.setFld (R.grpStat g) F.grpStat.STATE 4).setGroup g { x with target := target }
    else
      let s1 := s.evaluateTrim g c
      (s1.setFld (R.grpStat g) F.grpStat.STATE 1).setGroup g { s1.group g with capture := none }

/-- Strip line s_end of every enabled plane of the group has been delivered. -/
def State.captureDone (s : State) (g : Nat) : Bool :=
  let x := s.group g
  match x.capture, x.lines.find? (fun l => l.strip == some (s.stripEnd g)) with
  | some _, some l => (s.groupPlanes g).all (fun n => (s.planeLines n).any (fun e => e.y == l.y && e.done))
  | _, _ => false

/-- Deliver line y of a plane, and complete the capture when it was its last (R168, R183). -/
def State.finishLine (s : State) (n y : Nat) : State :=
  let s1 := s.deliverLine n y
  let g := s1.fld (R.plCfg n) F.plCfg.GRP
  if (s1.grpState g == 2 || s1.grpState g == 3) && s1.captureDone g then s1.captureComplete g else s1

/-- Line y of a plane is delivered as a repeat of the plane's previous line (R110, R111, R113). -/
def State.repeatLine (s : State) (n y : Nat) : State :=
  let ls := s.planeLines n
  let prev := (ls.filter (fun l => decide (l.y < y ∧ (y < overlapBase → l.y < overlapBase)))).headD { y := 0 }
  (s.setPlaneLines n (({ prev with y := y, ready := true, done := false, rep := true } :: ls.filter (fun l => l.y != y)).take 96)).finishLine n y

/-- The run of a program is reading line y: its own, or the pending one by a PREV = 1 readout that has begun. -/
def State.readingNow (s : State) (p y : Nat) : Bool :=
  let l := s.lp p
  l.run != .idle && ((l.run == .line && !l.ended && l.line == y) || (l.pending == some y && l.pendRead))

/-- A repeat of plane n's line y waits for an earlier line that the plane may still deliver (R110). -/
def State.repeatBlocked (s : State) (p n y : Nat) : Bool :=
  let l := s.lp p
  let came (y' : Nat) : Bool := (s.planeLines n).any (fun e => e.y == y' && e.done)
  let wait (y' : Nat) : Bool := decide (y' < y) && !(came y')
  (l.run == .line && wait l.line) || (match l.pending with | some y' => wait y' | none => false) ||
    s.vaf.fifo.any (fun sm => sm.lp == p && sm.plane == n && wait sm.line) ||
    (s.planeLines n).any (fun e => e.ready && !e.done && decide (e.y < y))

/-- What plane n of program p delivers next: the least ordinal of its complete lines and of its repeats, with whether it is
a repeat. -/
def State.nextOut (s : State) (p n : Nat) : Option (Nat × Bool) :=
  let ready := (s.planeLines n).filterMap (fun e => if e.ready && !e.done && !(s.readingNow p e.y) then some (e.y, false) else none)
  let reps := (s.lp p).repeats.filterMap (fun r => if r.2.testBit n then some (r.1, true) else none)
  (ready ++ reps).foldl (fun m e => match m with
    | none => some e
    | some b => if e.1 < b.1 then some e else some b) none

/-- Plane n delivers its complete lines and its repeats in the order of the lines, at most `fuel` of them. -/
def State.deliverPlane (p n : Nat) : Nat → State → State
  | 0, s => s
  | fuel + 1, s =>
    match s.nextOut p n with
    | none => s
    | some (y, false) => State.deliverPlane p n fuel (s.finishLine n y)
    | some (y, true) =>
      if s.repeatBlocked p n y then s
      else
        let l := s.lp p
        let s1 := s.setLp p { l with repeats := (l.repeats.map (fun r =>
          if r.1 = y then (r.1, if r.2.testBit n then r.2 - 2 ^ n else r.2) else r)).filter (fun r => r.2 != 0) }
        State.deliverPlane p n fuel (s1.repeatLine n y)

/-- Every plane of a program's groups delivers what it can. -/
def State.deliverReady (s : State) (p : Nat) : State :=
  (s.groupsOf p).foldl (fun t g => (t.groupPlanes g).foldl (fun u n => State.deliverPlane p n 128 u) t) s

/-- Line y of the planes in a mask is to be delivered as a repeat of each plane's previous line. -/
def State.queueRepeat (s : State) (p y mask : Nat) : State :=
  let l := s.lp p
  let fresh := (List.range 48).foldl (fun m n =>
    if mask.testBit n && !((s.planeLines n).any (fun e => e.y == y && e.done)) then m + 2 ^ n else m) 0
  if fresh = 0 then s else s.setLp p { l with repeats := l.repeats ++ [(y, fresh)] }

/-- The planes of a program's groups, as a mask. -/
def State.programPlanes (s : State) (p : Nat) : Nat := planeMask ((s.groupsOf p).flatMap (fun g => s.groupPlanes g))

/-- The samples of line y of a program are discarded, on the way and shaded, where the line is not delivered yet (R113). -/
def State.dropLine (s : State) (p y mask : Nat) : State :=
  let s1 := { s with vaf := { s.vaf with
    fifo := s.vaf.fifo.filter (fun sm => !(sm.lp == p && sm.line == y && mask.testBit sm.plane)) } }
  (setBits mask 48).foldl (fun t n =>
    t.setPlaneLines n ((t.planeLines n).filter (fun e => !(e.y == y && !e.done)))) s1

/-- The sample at the head of the converters' queue reaches the shading stage (R127, R158-R162); with `last`, it is the
last sample of its plane's line, which is delivered once the run that reads it is over (R113, R183).
(DEDUCED: notes/assumptions/28.) -/
def State.shadeNext (s : State) (last poisoned : Bool) : State :=
  match s.vaf.fifo with
  | [] => s
  | sm :: rest =>
    let s0 := { s with vaf := { s.vaf with fifo := rest } }
    if s0.dropsSample sm then s0.count R.shdDropCnt
    else
      let s1 := s0.shadeInto (s0.fld (R.plCfg sm.plane) F.plCfg.GRP) sm poisoned
      if last then
        State.deliverPlane sm.lp sm.plane 128 (s1.setPlaneLines sm.plane
          (updateLine (s1.planeLines sm.plane) sm.line (fun l => { l with ready := true })))
      else s1

/-! ## Full recalibration (R174-R179) -/

/-- floor(a / b + 1/2) of naturals. -/
def halfUp (a b : Nat) : Nat := (2 * a + b) / (2 * b)

/-- Dk and c of a pixel from its dark and white sums (R176). -/
def fullDark (sd nd : Nat) : Nat := halfUp (16 * sd) nd
def fullContrast (sd nd sw nw : Nat) : Int := (halfUp (16 * sw) nw : Nat) - (fullDark sd nd : Int)

/-- GAIN of a pixel and whether it counts as a defect (R176). -/
def fullGain (white : Nat) (c : Int) : Nat × Bool :=
  if c ≤ 0 then (65535, true)
  else
    let g := halfUp (white * 8192) c.toNat
    if 65535 < g then (65535, true) else (g, decide (g < 2048))

/-- The new coefficient word of a pixel, and whether it is a defect. -/
def State.fullCoef (s : State) (g : Nat) (c : Capture) (n x : Nat) : Nat × Nat × Bool :=
  let get (t : Table Nat) : Nat := Table.get (fun _ => 0) t (pixKey n x)
  let nd := s.darkN g
  let con := fullContrast (get c.dark) nd (get c.rawWhite) (s.effFld (R.grpZone g) F.grpZone.WHT_N)
  let gn := fullGain (s.fld (R.plWhite n) F.plWhite.WHITE) con
  (min (fullDark (get c.dark) nd) 65535, gn.1, gn.2)

/-- Defects of a plane in a full capture. -/
def State.planeDefects (s : State) (g : Nat) (c : Capture) (n : Nat) : Nat :=
  ((List.range (s.fld (R.plCfg n) F.plCfg.WIDTH)).filter (fun x => (s.fullCoef g c n x).2.2)).length

/-- REASON of a full capture (Table 5-4). -/
def State.fullReason (s : State) (g : Nat) (c : Capture) : Nat :=
  let pls := s.groupPlanes g
  let nd := s.darkN g
  let nw := s.effFld (R.grpZone g) F.grpZone.WHT_N
  let width (n : Nat) := s.fld (R.plCfg n) F.plCfg.WIDTH
  let get (t : Table Nat) (n x : Nat) : Nat := Table.get (fun _ => 0) t (pixKey n x)
  let con (n x : Nat) : Int := fullContrast (get c.dark n x) nd (get c.rawWhite n x) nw
  let level (n : Nat) : Bool :=
    decide ((List.range (width n)).foldl (fun a x => a + con n x) 0 <
      ((16 * s.fld R.shdChk0 F.shdChk0.LVL_MIN * width n : Nat) : Int)) ||
    decide (width n / 256 < Table.get (fun _ => 0) c.clipped n)
  let dark (n : Nat) : Bool := decide (s.fld R.shdChk0 F.shdChk0.DARK_MAX * nd * width n <
    (List.range (width n)).foldl (fun a x => a + get c.dark n x) 0)
  let unif (n : Nat) : Bool := decide (s.fld R.shdChk1 F.shdChk1.UNIF_MAX <
    unifCount (s.fld R.shdChk1 F.shdChk1.UNIF_PCT) (width n) (con n))
  reasonBits [(0, pls.any level), (1, pls.any dark), (2, pls.any unif), (3, pls.any (fun n => s.lineBad g n c.rawLineSum)),
    (4, !(s.fiducial g c true).ok), (6, c.tempBad), (7, c.listed)]

/-- COMPUTE ends (R177, R178): the capture is rejected and the group returns to RUN, or it moves to COPY with the target's
validity bit cleared (R179). -/
def State.computeComplete (s : State) (g : Nat) : State :=
  let x := s.group g
  match x.capture with
  | none => s
  | some c =>
    let reason := s.fullReason g c
    if reason != 0 then
      let n := x.rejects + 1
      let s1 := (((s.setFld (R.grpStat g) F.grpStat.FULL_REJ 1).setFld (R.grpStat g) F.grpStat.REASON reason).setFld
        (R.grpStat g) F.grpStat.RESULT St.calRejected).countFld (R.grpRejCnt g) F.grpRejCnt.FULL
      let s2 := if 3 ≤ n then
          (s1.setFld (R.grpStat g) F.grpStat.FULL_PEND 0).setFld (R.grpStat g) F.grpStat.DRIFT_HOLD 1
        else if c.byRequest then s1.setFld (R.grpStat g) F.grpStat.FULL_PEND 0 else s1
      let s3 := s2.setGroup g { x with rejects := if 3 ≤ n then 0 else n, byRequest := false,
                                       fullStatus := some St.calRejected }
      let s4 := s3.evaluateTrim g c
      (s4.setFld (R.grpStat g) F.grpStat.STATE 1).setGroup g { s4.group g with capture := none }
    else
      let defects := (s.groupPlanes g).map (fun n => s.planeDefects g c n)
      let low := defects.any (fun d => decide (s.fld R.shdChk3 F.shdChk3.DEFECT_MAX < d))
      let result := if low then St.calQualityLow else St.success
      let s1 := (s.setFld (R.grpStat g) F.grpStat.RESULT result).setFld (R.grpQ2 g) F.grpQ2.DEFECT
        (min 65535 (defects.foldl (· + ·) 0))
      let s2 := if low then s1.setFld (R.grpStat g) F.grpStat.QLOW 1 else s1
      let s3 := s2.setFld (R.grpSetv g) (if x.target = 0 then F.grpSetv.VA else F.grpSetv.VB) 0
      let s4 := (s3.setFld (R.grpStat g) F.grpStat.STATE 5).setFld R.shdStat ⟨g, 1⟩ 1
      s4.setGroup g { x with fullStatus := some result }

/-- REF_DARK and REF_WHITE of an entry after a commit: the means over its pixels of v by R160 from the per-pixel zone mean
raw codes, with the new coefficients alone (R176). -/
def State.fullRefs (s : State) (g : Nat) (c : Capture) (entry : Nat) : Nat × Nat :=
  let px := c.pixelsOf entry
  let v (t : Table Nat) (lines k : Nat) : Int :=
    let n := k / 65536
    let x := k % 65536
    let q := s.fullCoef g c n x
    let r : Rat := 16 * ((Table.get (fun _ => 0) t k : Nat) : Rat) / ((lines : Nat) : Rat)
    let d := r - q.1
    Rat.floor (((if d < 0 then 0 else d) * q.2.1 + 4096) / 8192)
  let mean (t : Table Nat) (lines : Nat) : Nat :=
    (clampInt 0 65535 (roundHalf ((px.foldl (fun a k => a + v t lines k) 0 : Int) / (px.length : Rat)))).toNat
  (mean c.rawBlack (s.effFld (R.grpZone g) F.grpZone.BLK_N), mean c.rawWhite (s.effFld (R.grpZone g) F.grpZone.WHT_N))

/-- COPY ends (R179): coefficient words, trim entries, temperatures and delays are written, the target set is valid, and
the group returns to RUN, or to OFF when it was disabled in COPY. -/
def State.copyComplete (s : State) (g : Nat) : State :=
  let x := s.group g
  match x.capture with
  | none => s
  | some c =>
    let pls := s.groupPlanes g
    let s1 := pls.foldl (fun t n =>
      (List.range (s.fld (R.plCfg n) F.plCfg.WIDTH)).foldl (fun u px =>
        let q := s.fullCoef g c n px
        u.memWrite (s.coefAddr x.target n px) (bytesLE 4 (q.1 * 65536 + q.2.1))) t) s
    let entries := (List.range 384).filter (fun e => !(c.pixelsOf e).isEmpty &&
      (match s.trimPlane e with | some n => s.planeIn n g | none => false))
    let s2 := entries.foldl (fun t e =>
      let r := s.fullRefs g c e
      ((t.setReg (R.shdTrim0 e) (BitVec.ofNat 32 (r.1 + r.2 * 65536))).setReg (R.shdTrim1 e)
        (BitVec.ofNat 32 (r.1 + 16384 * 65536))).commit [R.shdTrim0 e, R.shdTrim1 e]) s1
    let mean := unsigned 16 (roundDiv c.tempSum (max c.tempNum 1))
    let s3 := ((s2.setFld (R.grpSett g) (if x.target = 0 then F.grpSett.TA else F.grpSett.TB) mean).setFld
      (R.grpSetv g) F.grpSetv.TLAST mean).setFld (R.grpSetv g) F.grpSetv.TLAST_V 1
    let fid := s.fiducial g c true
    let s4 := fid.edges.foldl (fun t e => match e.2 with
      | some q =>
        let m := (roundHalf (16 * (fid.top - q))).toNat
        let t1 := (t.setFld (R.plAlign e.1) F.plAlign.MEAS m).setFld (R.plAlign e.1) F.plAlign.MEAS_V 1
        if s.bit (R.grpCtl g) F.grpCtl.ALIGN_AUTO then
          (t1.setFld (R.plAlign e.1) F.plAlign.DELAY m).commit [R.plAlign e.1] else t1
      | none => t) s3
    let s5 := (s4.setFld (R.grpSetv g) (if x.target = 0 then F.grpSetv.VA else F.grpSetv.VB) 1).setFld
      (R.grpQ2 g) F.grpQ2.FULL_CNT (s4.fld (R.grpQ2 g) F.grpQ2.FULL_CNT + 1)
    let s6 := ((s5.setFld (R.grpStat g) F.grpStat.FULL_PEND 0).setFld (R.grpStat g) F.grpStat.DRIFT_HOLD 0).setFld
      R.shdStat ⟨g, 1⟩ 0
    let s7 := s6.setGroup g { x with capture := none, rejects := 0, byRequest := false, offAfterCopy := false }
    if x.offAfterCopy then
      ((s7.release (.partition (s7.fld (R.grpCtl g) F.grpCtl.ABP)) claimantShd).1).setFld (R.grpStat g) F.grpStat.STATE 0
    else s7.setFld (R.grpStat g) F.grpStat.STATE 1

/-! ## The shading-store window (R187) -/

/-- A store word that lies in the range of an enabled plane whose group has that set valid. -/
def State.coefInUse (s : State) (byte : Nat) : Bool :=
  let set := byte / 0x180000
  let w := byte % 0x180000 / 4
  (List.range 48).any (fun n => s.bit (R.plCfg n) F.plCfg.EN &&
    decide (s.fld (R.plBase n) F.plBase.BASE ≤ w ∧ w < s.fld (R.plBase n) F.plBase.BASE + s.fld (R.plCfg n) F.plCfg.WIDTH) &&
    s.bit (R.grpSetv (s.fld (R.plCfg n) F.plCfg.GRP)) (if set = 0 then F.grpSetv.VA else F.grpSetv.VB))

/-- A write through the shading-store window: taken, or discarded under the Idle only rule when it hits a valid set in use; not
performed while PD130 is off (R75, R187). -/
def State.shadeWindow (s : State) (path : Path) (o : Nat) (w : Word) : State :=
  let b := s.fld R.shdCwin F.shdCwin.PAGE * 0x20000 + o
  if !(s.pdOn 130) then s
  else if s.coefInUse b then s.errIdle path (0xE0000 + o)
  else s.memWrite (shadingBase + b) (bytesLE 4 w.toNat)


end Sys2Proof.Machine
end

