-- ==== Sys2Proof/Machine/Geometry.lean ====
section
/-!
DEFINITION. Sys2Proof/Machine/Geometry.lean: edge units, document windows, edge fits and the document record (R192-R214).
-/
namespace Sys2Proof.Machine

/-- GEO's claimant ID. -/
def claimantGeo : Nat := 0x13

/-- 0 acts as 1. -/
def atLeastOne (n : Nat) : Nat := if n = 0 then 1 else n

/-! ## Slots and status views -/

/-- The open window of a unit, as its key; none when the unit has none (R192). -/
def State.openWindow (s : State) (u : Nat) : Option (Nat × Window) :=
  [u * 2, u * 2 + 1].findSome? (fun k => match s.window k with
    | some w => if w.closed then none else some (k, w)
    | none => none)

/-- The slots of a track, older record first. -/
def State.slotsOf (s : State) (t : Nat) : List Nat :=
  if (s.record (t * 2)).seq ≤ (s.record (t * 2 + 1)).seq then [t * 2, t * 2 + 1] else [t * 2 + 1, t * 2]

/-- The oldest busy slot of a track. -/
def State.oldestBusy (s : State) (t : Nat) : Option Nat := (s.slotsOf t).find? (fun k => (s.record k).busy)

/-- The views of a track's slots: TRKt_STAT.SLOT, GEO.STAT.TRK_BUSY and TRKt_HOLD.OUT. -/
def State.refreshTrack (s : State) (t : Nat) : State :=
  let b0 := (s.record (t * 2)).busy
  let b1 := (s.record (t * 2 + 1)).busy
  let out := match s.oldestBusy t with | some k => (s.record k).holds.length | none => 0
  ((s.setFld (R.trkStat t) F.trkStat.SLOT ((if b0 then 1 else 0) + (if b1 then 2 else 0))).setFld R.geoStat ⟨8 + t, 1⟩
    (if b0 || b1 then 1 else 0)).setFld (R.trkHold t) F.trkHold.OUT (min 255 out)

/-- Uu_STAT.WIN and GEO.STAT.WIN. -/
def State.setWinBit (s : State) (u v : Nat) : State := (s.setFld (R.uStat u) F.uStat.WIN v).setFld R.geoStat ⟨u, 1⟩ v

/-- A track is busy for Idle only fields: a unit of it has a window open, or a slot is taken (R195). -/
def State.trkBusy (s : State) (t : Nat) : Bool :=
  (s.record (t * 2)).busy || (s.record (t * 2 + 1)).busy ||
    (List.range 4).any (fun u => (s.fld (R.trkCfg t) F.trkCfg.UNITS).testBit u && (s.openWindow u).isSome)

/-! ## Edge fits (R203-R207) -/

/-- A fitted line: intercept and slope of the fitted coordinate over the other, points kept and candidates. -/
structure EdgeFit where
  found : Bool := false
  icept : Rat := 0
  slope : Rat := 0
  kept : Nat := 0
  cands : Nat := 0
  clip : Bool := false
  deriving DecidableEq

/-- Least squares of v = a + b * t over points (t, v); none when the points do not fix a line. -/
def leastSquares (pts : List (Rat × Rat)) : Option (Rat × Rat) :=
  let n : Rat := pts.length
  let sx := pts.foldl (fun a p => a + p.1) 0
  let sy := pts.foldl (fun a p => a + p.2) 0
  let sxx := pts.foldl (fun a p => a + p.1 * p.1) 0
  let sxy := pts.foldl (fun a p => a + p.1 * p.2) 0
  let den := n * sxx - sx * sx
  if den = 0 then none else
    let b := (n * sxy - sx * sy) / den
    some ((sy - b * sx) / n, b)

/-- The fit of one edge from its points in order (R203): end trim, first fit, drop of outliers, second fit. -/
def fitEdge (pts : List (Rat × Rat)) (excl tol minPts : Nat) (clip : Bool) : EdgeFit :=
  let cut := pts.length * excl / 100
  let c := (pts.drop cut).take (pts.length - 2 * cut)
  match leastSquares c with
  | none => { cands := c.length, clip := clip }
  | some (a, b) =>
    let kept := c.filter (fun p => decide (ratAbs (p.2 - (a + b * p.1)) ≤ (tol : Rat) / 16))
    match leastSquares kept with
    | none => { cands := c.length, kept := kept.length, clip := clip }
    | some (a2, b2) =>
      { found := decide (minPts ≤ kept.length), icept := a2, slope := b2, kept := kept.length, cands := c.length, clip := clip }

/-- Confidence of an edge (R203). -/
def EdgeFit.conf (f : EdgeFit) : Nat := if f.found then 255 * f.kept / f.cands else 0

/-- Rounding of a rational, halves away from zero. -/
def ratRound (q : Rat) : Int := if q < 0 then -(Rat.floor (-q + 1 / 2)) else Rat.floor (q + 1 / 2)

/-- The terms of Euler's series of atan in units of 2 ^ -60, summed. -/
def atanSum : Nat → Nat → Int → Int → Int → Int
  | 0, _, _, _, acc => acc
  | n + 1, k, term, q, acc =>
    atanSum n (k + 1) (term * q * (2 * k + 2) / ((2 * k + 3) * 2 ^ 60)) q (acc + term)

/-- atan of a slope in 0.01 degree, unrounded; beyond slope 2 it lies past the limit of R205 and 9000 stands for it. -/
def atanCentideg (v : Rat) : Rat :=
  if 2 < v then 9000 else if v < -2 then -9000
  else
    let one : Rat := (2 ^ 60 : Nat)
    let q := Rat.floor (one * (v * v / (1 + v * v)))
    let t0 := Rat.floor (one * (v / (1 + v * v)))
    (atanSum 120 0 t0 q 0 : Rat) / one * (5729577951308 / 1000000000)

/-- The skew of R205: SKEW before its limit, and SKEW_SRC. -/
def skewOf (a : Rat) (top bottom left right : EdgeFit) : Int × Nat :=
  let pick (best : Option (EdgeFit × Nat)) (e : EdgeFit × Nat) : Option (EdgeFit × Nat) :=
    if !e.1.found then best
    else match best with
      | none => some e
      | some b => if b.1.kept < e.1.kept then some e else best
  match [(top, 1), (left, 2), (bottom, 3), (right, 4)].foldl pick none with
  | none => (0, 0)
  | some (e, src) =>
    let v := if src = 1 ∨ src = 3 then e.slope * a else if a = 0 then 0 else -e.slope / a
    (ratRound (atanCentideg v), src)

/-- The intersection of y = a + b x and x = c + d y (R206). -/
def corner (h v : EdgeFit) : Option (Rat × Rat) :=
  let den := 1 - h.slope * v.slope
  if h.found && v.found && den != 0 then
    let y := (h.icept + h.slope * v.icept) / den
    some (v.icept + v.slope * y, y)
  else none

/-- The distance of two corners in 1/16 pixel (R206). -/
def dist16 (asp : Rat) (p q : Rat × Rat) : Nat :=
  let dx := p.1 - q.1
  let dy := asp * (p.2 - q.2)
  (isqrt (Rat.floor (1024 * (dx * dx + dy * dy))).toNat + 1) / 2

/-- Every reported fit value lies within one count of its real-arithmetic value (R207): one free count, -1, 0 or 1.
(DESIGN CHOICE: notes/assumptions/20.) -/
def State.jitter (s : State) (v : Int) : Int × State :=
  let (k, t) := s.free
  (v + (k % 3 : Nat) - 1, t)

/-- The list of values with a free count each. -/
def State.jitterAll (s : State) : List Int → List Int × State
  | [] => ([], s)
  | v :: r =>
    let (x, t) := s.jitter v
    let (xs, t2) := t.jitterAll r
    (x :: xs, t2)

/-- The side section of a window without its fits (Table 6-2). -/
def State.sideBase (s : State) (u : Nat) (w : Window) : Side :=
  let g := s.unitGroup u
  let x := s.group g
  let mirror := s.bit (R.uCfg u) F.uCfg.MIRROR
  { unit := u, group := g, back := s.fld (R.grpCtl g) F.grpCtl.SIDE
    flags := (if w.lead.isSome then 1 else 0) + (if w.trail.isSome then 2 else 0) + (if mirror then 32 else 0) +
      (if x.trimStatus.isSome then 64 else 0) + (if x.fullStatus.isSome then 128 else 0)
    yLead := w.lead.getD 0, yTrail := w.trail.getD w.y, yEnd := w.y
    corners := List.replicate 8 (-(2 ^ 31))
    trim := x.trimStatus.getD 0, full := x.fullStatus.getD 0
    tLead := if w.lead.isSome then w.tLead else 0
    wLead := if w.lead.isSome then w.wLead else 0
    posLead := if w.lead.isSome then w.posLead else 0 }

/-- Points of a table as pairs, with x mirrored when asked, ordered by rising x of the result. -/
def colPoints (t : Table Nat) (x0 step width add : Nat) (mirror : Bool) : List (Rat × Rat) :=
  let l := t.map (fun e =>
    let x : Rat := ((x0 + e.1 * step : Nat) : Rat) + 1 / 2
    ((if mirror then (width : Rat) - x else x), ((e.2 + add : Nat) : Rat)))
  if mirror then l.reverse else l

/-- Side points of a table by rising y, as (y + 1/2, x), without those at a limit of the plane. -/
def sidePoints (t : Table Nat) (lead n edge width : Nat) (mirror : Bool) : List (Rat × Rat) × Bool :=
  let l := t.filter (fun e => decide (lead ≤ e.1 ∧ e.1 < lead + n))
  let keep := l.filter (fun e => e.2 != edge)
  (keep.map (fun e => (((e.1 : Nat) : Rat) + 1 / 2, if mirror then (width : Rat) - (e.2 : Nat) else ((e.2 : Nat) : Rat))),
    keep.length != l.length)

/-- The four fits of a closed window: top, bottom, left, right (R203, R204). -/
def State.fitsOf (s : State) (u : Nat) (w : Window) : List EdgeFit :=
  let width := s.fld (R.plCfg (s.fld (R.uCfg u) F.uCfg.PLANE)) F.plCfg.WIDTH
  let mirror := s.bit (R.uCfg u) F.uCfg.MIRROR
  let x0 := s.fld (R.uCol u) F.uCol.COL_X0
  let step := atLeastOne (s.fld (R.uCol u) F.uCol.COL_STEP)
  let n := s.fld (R.uNcol u) F.uNcol.PTS_LINES
  let excl := min 40 (s.effFld (R.uRun u) F.uRun.EXCL_PCT)
  let tol := s.effFld (R.uFit u) F.uFit.OUT_TOL
  let minPts := max 2 (s.effFld (R.uMinpix u) F.uMinpix.MIN_PTS)
  let lead := w.lead.getD 0
  let (l, cl) := sidePoints w.xL lead n 0 width mirror
  let (r, cr) := sidePoints w.xR lead n width width mirror
  let fit (p : List (Rat × Rat)) (c : Bool) := fitEdge p excl tol minPts c
  let fl := fit l cl
  let fr := fit r cr
  [fit (colPoints w.yT x0 step width 0 mirror) false, fit (colPoints w.yB x0 step width 1 mirror) false,
   if mirror then fr else fl, if mirror then fl else fr]

/-- The side section of a closed window with its fits (R203-R207). -/
def State.sideFitted (s : State) (u : Nat) (w : Window) : Side × State :=
  let b := s.sideBase u w
  match s.fitsOf u w with
  | [top, bottom, left, right] =>
    let asp : Rat := (s.effFld (R.uAspect u) F.uAspect.ASPECT : Nat) / 4096
    let (raw, src) := skewOf asp top bottom left right
    let skew := clampInt (-4500) 4500 raw
    let limit := skew != raw || decide (s.effFld (R.uFit u) F.uFit.SKEW_MAX < skew.natAbs)
    let cs := [corner top left, corner top right, corner bottom left, corner bottom right]
    let val : Option (Rat × Rat) → List Int
      | some p => [ratRound (16 * p.1), ratRound (16 * p.2)]
      | none => []
    let size (p q r t : Option (Rat × Rat)) : List Int :=
      match p, q, r, t with
      | some a, some b, _, _ => [(dist16 asp a b : Nat)]
      | _, _, some a, some b => [(dist16 asp a b : Nat)]
      | _, _, _, _ => []
    let g (i : Nat) := (cs[i]?).getD none
    -- within one count each; a value that nothing gives stays as it is
    let (skews, s1) := if src = 0 then ([0], s) else s.jitterAll [skew]
    let step (acc : List Int × State) (c : Option (Rat × Rat)) : List Int × State :=
      match c with
      | some _ => let (l, t) := acc.2.jitterAll (val c); (acc.1 ++ l, t)
      | none => (acc.1 ++ [-(2 ^ 31), -(2 ^ 31)], acc.2)
    let (corners, s2) := cs.foldl step ([], s1)
    let (ws, s3) := s2.jitterAll (size (g 0) (g 1) (g 2) (g 3))
    let (ls, s4) := s3.jitterAll (size (g 0) (g 2) (g 1) (g 3))
    ({ b with
        flags := b.flags + (if left.clip then 4 else 0) + (if right.clip then 8 else 0) + (if limit then 16 else 0)
        skew := clampInt (-4500) 4500 (skews.headD 0), skewSrc := src
        confE := [top.conf, bottom.conf, left.conf, right.conf]
        corners := corners
        cornerV := (List.range 4).foldl (fun m i => if (g i).isSome then m + 2 ^ i else m) 0
        width := (ws.headD 0).toNat, length := (ls.headD 0).toNat }, s4)
  | _ => (b, s)

/-! ## The record (R208-R213) -/

/-- Stable insertion sort by a comparison "comes after". -/
def sortBy {α : Type} (after : α → α → Bool) : List α → List α
  | [] => []
  | x :: r =>
    let rec ins : List α → List α
      | [] => [x]
      | y :: t => if after x y then y :: ins t else x :: y :: t
    ins (sortBy after r)

/-- STATUS of a record that none was imposed on (R211). -/
def DocRecord.verdict (d : DocRecord) : Nat :=
  if d.exc.any (fun e => e.cause == Cause.eccUncorrectable) then St.eccUncorrectable
  else if d.seams.any (fun e => e.status == St.seamUnverified) then St.seamUnverified
  else if d.exc.any (fun e => e.cause == Cause.lineOverrun) then St.lineOverrun
  else if d.sides.any (fun e => (e.flags.testBit 6 && e.trim == St.calRejected) ||
      (e.flags.testBit 7 && e.full == St.calRejected)) then St.calRejected
  else St.success

/-- Bytes of a side section (Table 6-2). -/
def Side.bytes (e : Side) : List Byte :=
  bytesLE 1 e.unit ++ bytesLE 1 e.group ++ bytesLE 1 e.back ++ bytesLE 1 e.flags ++ bytesLE 4 (e.yLead % 2 ^ 24) ++
  bytesLE 4 (e.yTrail % 2 ^ 24) ++ bytesLE 4 (e.yEnd % 2 ^ 24) ++ bytesLE 2 (unsigned 16 e.skew) ++ bytesLE 1 e.skewSrc ++
  bytesLE 1 (e.confE.foldl min 255) ++ e.confE.flatMap (fun c => bytesLE 1 c) ++
  e.corners.flatMap (fun c => bytesLE 4 (unsigned 32 c)) ++ bytesLE 4 e.width ++ bytesLE 4 e.length ++
  bytesLE 1 e.trim ++ bytesLE 1 e.full ++ bytesLE 1 e.cornerV ++ bytesLE 1 0 ++ bytesLE 2 (unsigned 16 e.tLead) ++
  bytesLE 2 e.wLead ++ bytesLE 8 (unsigned 64 e.posLead)

/-- Bytes of a seam entry (Table 6-3). -/
def SeamEntry.bytes (e : SeamEntry) : List Byte :=
  bytesLE 3 e.y ++ bytesLE 1 e.status ++ bytesLE 2 (unsigned 16 e.resid) ++ bytesLE 1 (unsigned 8 e.applied) ++
  bytesLE 1 e.qual ++ bytesLE 1 e.unit ++ bytesLE 1 e.overlap ++ bytesLE 6 0

/-- Bytes of an exception entry (Table 6-4). -/
def ExcEntry.bytes (e : ExcEntry) (side : Nat) : List Byte :=
  bytesLE 3 e.y ++ bytesLE 1 e.cause ++ bytesLE 2 e.run ++ bytesLE 1 e.index ++ bytesLE 1 side ++ bytesLE 8 (e.planes % 2 ^ 48)

/-- The bytes of a record of track t (R212). -/
def State.recordBytes (s : State) (t : Nat) (d : DocRecord) (status : Nat) : List Byte :=
  let sides := sortBy (fun a b => decide (b.unit < a.unit)) d.sides
  let idx (u : Nat) : Nat := (sides.findIdx? (fun e => e.unit == u)).getD 0
  let key (e : ExcEntry) : Nat := (idx e.unit * 2 ^ 32 + e.y) * 256 + e.cause
  let seams := sortBy (fun a b => decide (b.y < a.y)) d.seams
  let exc := sortBy (fun a b => decide (key b < key a)) d.exc
  let body := sides.flatMap Side.bytes ++ seams.flatMap SeamEntry.bytes ++ exc.flatMap (fun e => e.bytes (idx e.unit))
  let flags := (if d.excLost ≠ 0 then 1 else 0) + (if d.seamOvf then 2 else 0) +
    (if sides.all (fun e => !(e.flags.testBit 0)) then 4 else 0) + (if d.late && !d.holds.isEmpty then 8 else 0)
  let head := bytesLE 2 1 ++ bytesLE 1 t ++ bytesLE 1 sides.length ++ bytesLE 4 (64 + body.length + 4) ++
    bytesLE 4 (s.reg (R.trkSeq t)).toNat ++ bytesLE 4 (s.effReg (R.trkJob t)).toNat ++ bytesLE 8 d.tLead ++
    bytesLE 8 s.sys.time.toNat ++ bytesLE 1 status ++ bytesLE 1 flags ++ bytesLE 2 exc.length ++ bytesLE 4 d.causeSeen ++
    bytesLE 2 seams.length ++ bytesLE 2 0 ++ bytesLE 4 d.excLost ++ bytesLE 16 0
  let all := head ++ body
  all ++ bytesLE 4 (crc32c all).toNat

/-- The windows that belong to a slot are over: their ranges stay for late exceptions (R209). -/
def State.dropWindows (s : State) (k : Nat) : State :=
  s.forEach 4 (fun u t =>
    match t.window (u * 2 + k % 2) with
    | some w =>
      if t.fld (R.uCfg u) F.uCfg.TRK = k / 2 then
        let past := w.origin.map (fun o => (o, o + w.y))
        let t1 := { t with geo := { t.geo with past := Table.set (fun _ => none) t.geo.past u past } }
        let t2 := t1.setWindow (u * 2 + k % 2) none
        if w.closed then t2 else t2.setWinBit u 0
      else t
    | none => t)

/-- The record in slot k = track * 2 + slot is complete (R208): its CRC is written, its bytes wait for HQE, EV163 fires,
LAST and SEQ change. -/
def State.recordComplete (s : State) (k : Nat) : State :=
  let t := k / 2
  let d := s.record k
  let status := if d.status ≠ 0 then d.status else d.verdict
  let bytes := s.recordBytes t d status
  let s1 := s.setRecord k { d with complete := true, bytes := bytes, status := status }
  let s2 := ((s1.dropWindows k).fire 163).setFld (R.trkStat t) F.trkStat.LAST status
  let s3 := (s2.setReg (R.trkSeq t) (s2.reg (R.trkSeq t) + 1)).refreshTrack t
  { s3 with work := s3.work ++ [Work.record k] }

/-- The record completes if everything that R208 asks for holds. -/
def State.tryComplete (s : State) (k : Nat) : State :=
  let d := s.record k
  let expired := d.late || s.fld (R.trkHold (k / 2)) F.trkHold.TMO_US == 0
  if d.busy && !d.complete && d.open_.isEmpty && (d.holds.isEmpty || expired) then
    let s1 := s.setRecord k { d with late := expired }
    s1.recordComplete k
  else s.refreshTrack (k / 2)

/-- A unit's section enters its record, and nothing of the unit is outstanding there. -/
def State.addSide (s : State) (k u : Nat) (e : Side) : State :=
  let d := s.record k
  s.setRecord k { d with sides := d.sides.filter (fun x => x.unit != u) ++ [e], open_ := d.open_.filter (fun x => x != u) }

/-- Close the open window of a unit (R192, R200). Without a confirmed leading edge there is nothing to fit. -/
def State.closeWindow (s : State) (u : Nat) : State :=
  match s.openWindow u with
  | none => s
  | some (key, w) =>
    let k := s.fld (R.uCfg u) F.uCfg.TRK * 2 + key % 2
    let s1 := (s.setWindow key (some { w with closed := true })).setWinBit u 0
    if w.lead.isSome then s1 else (s1.addSide k u (s1.sideBase u w)).tryComplete k

/-! ## Lines of a window (R196-R201) -/

/-- Classify the pixels with hysteresis (R196). -/
def classify (lo hi : Nat) : Bool → List Nat → List Bool
  | _, [] => []
  | st, v :: r =>
    let st' := if hi ≤ v then true else if v < lo then false else st
    st' :: classify lo hi st' r

/-- Runs of document pixels as (start, length), by rising start. -/
def runsOf : Nat → Option Nat → List Bool → List (Nat × Nat)
  | x, some a, [] => [(a, x - a)]
  | _, none, [] => []
  | x, some a, true :: r => runsOf (x + 1) (some a) r
  | x, none, true :: r => runsOf (x + 1) (some x) r
  | x, some a, false :: r => (a, x - a) :: runsOf (x + 1) none r
  | x, none, false :: r => runsOf (x + 1) none r

/-- What a line of values is: its qualifying runs when it is a document line, none when it is not (R196). -/
def State.docLine (s : State) (u : Nat) (vals : List Nat) : Option (List (Nat × Nat)) :=
  let light := s.bit (R.uCfg u) F.uCfg.BG_LIGHT
  let v := if light then vals.map (fun x => 65535 - x) else vals
  let doc := classify (s.effFld (R.uThr u) F.uThr.LO) (s.effFld (R.uThr u) F.uThr.HI) false v
  let runs := (runsOf 0 none doc).filter (fun r => decide (atLeastOne (s.effFld (R.uRun u) F.uRun.MINRUN) ≤ r.2))
  if atLeastOne (s.effFld (R.uMinpix u) F.uMinpix.MINPIX) ≤ runs.foldl (fun a r => a + r.2) 0 then some runs else none

/-- The exception list carries line y of unit u with a cause that R198 names, on the unit's plane. -/
def State.heldLine (s : State) (k u y : Nat) : Bool :=
  let n := s.fld (R.uCfg u) F.uCfg.PLANE
  (s.record k).exc.any (fun e => e.unit == u && decide (e.y ≤ y ∧ y < e.y + e.run) && e.planes.testBit n &&
    [Cause.lineOverrun, Cause.stale, Cause.timeout, Cause.videoFault, Cause.eccUncorrectable].contains e.cause)

/-- A track event of a unit: on its line of EV160-EV162 when EVMASK has the unit (R201). -/
def State.fireUnit (s : State) (ev u : Nat) : State := if (s.fld R.geoEvmask F.geoEvmask.UNITS).testBit u then s.fire ev else s

/-- The points that a document line adds (R202). -/
def State.addPoints (s : State) (u y : Nat) (runs : List (Nat × Nat)) (w : Window) : Window :=
  let xl := (runs.headD (0, 0)).1
  let lastRun := runs.getLast?.getD (0, 0)
  let x0 := s.fld (R.uCol u) F.uCol.COL_X0
  let step := atLeastOne (s.fld (R.uCol u) F.uCol.COL_STEP)
  let cols := (List.range (min 1024 (s.fld (R.uNcol u) F.uNcol.NCOL))).filter (fun c =>
    runs.any (fun r => decide (r.1 ≤ x0 + c * step ∧ x0 + c * step < r.1 + r.2)))
  let none_ : Nat → Nat := fun _ => 2 ^ 32
  { w with
    xL := Table.set none_ w.xL y xl
    xR := Table.set none_ w.xR y (lastRun.1 + lastRun.2)
    yT := cols.foldl (fun t c => if t.any (fun e => e.1 == c) then t else Table.set none_ t c y) w.yT
    yB := cols.foldl (fun t c => Table.set none_ t c y) w.yB }

/-- Evaluate the next line of a unit's window, when its aligned values have reached GEO (R196-R200). -/
def State.geoEvaluate (s : State) (u : Nat) : State :=
  match s.openWindow u with
  | none => s
  | some (key, w) =>
    let k := s.fld (R.uCfg u) F.uCfg.TRK * 2 + key % 2
    let g := s.unitGroup u
    match w.origin.bind (fun o => (s.outOf (s.fld (R.uCfg u) F.uCfg.PLANE)).find? (fun l => l.y == o + w.y)) with
    | none => s
    | some line =>
      let y := w.y
      let held := s.heldLine k u y
      let seen := s.docLine u line.vals
      let doc := if held then (if y = 0 then false else w.prevDoc) else seen.isSome
      let w1 := if !held && seen.isSome then s.addPoints u y (seen.getD []) w else w
      let gl := ((s.group g).line line.y).getD { y := line.y, temp := 0 }
      let w2 := { w1 with y := y + 1, prevDoc := doc }
      let s1 := s.setFld (R.uY u) F.uY.Y y
      let leadN := atLeastOne (s.effFld (R.uRun u) F.uRun.LEAD_N)
      let trailN := atLeastOne (s.effFld (R.uRun u) F.uRun.TRAIL_N)
      let (w3, s2) : Window × State :=
        if w2.lead.isSome then
          if doc then ({ w2 with trailRun := 0 }, s1)
          else if w2.trailRun + 1 = trailN then
            ({ w2 with trailRun := w2.trailRun + 1, trail := some (y + 1 - trailN) },
             (s1.setFld (R.uStat u) F.uStat.TRAIL 1).fireUnit 162 u)
          else ({ w2 with trailRun := w2.trailRun + 1 }, s1)
        else if doc then
          let s1' := if w2.early then s1 else (s1.fire (164 + u)).fireUnit 161 u
          let w2' := if w2.leadRun = 0 then
              { w2 with tLead := gl.temp, wLead := gl.weight.getD (s.blendWeight g gl.temp), posLead := gl.pos } else w2
          if w2.leadRun + 1 = leadN then
            ({ w2' with early := true, leadRun := leadN, lead := some (y + 1 - leadN) },
             (s1'.setFld (R.uStat u) F.uStat.LEAD 1).fireUnit 160 u)
          else ({ w2' with early := true, leadRun := w2.leadRun + 1 }, s1')
        else if w2.early then
          ({ w2 with early := false, leadRun := 0 }, (s1.count (R.uFalseCnt u)).setFld (R.uStat u) F.uStat.FALSE 1)
        else (w2, s1)
      let d := s2.record k
      let s3 := if w.lead.isNone && w3.lead.isSome && d.tLead == 0 then
          s2.setRecord k { d with tLead := s2.sys.time.toNat } else s2
      let s4 := s3.setWindow key (some w3)
      if w3.trail.isSome || y + 1 == atLeastOne (s.effFld (R.uWin u) F.uWin.MAX_LINES) then s4.closeWindow u else s4

/-- A close pulse or write: the lines that have reached GEO are evaluated in full, then the window closes (R193). -/
def State.closeAfterLines (s : State) (u : Nat) : State := (s.forEach 64 (fun _ t => t.geoEvaluate u)).closeWindow u

/-- A trigger of a group's program: the windows that wait for line y = 0 come nearer to it (R192). -/
def State.geoTrigger (s : State) (g y : Nat) : State :=
  s.forEach 4 (fun u t =>
    match t.openWindow u with
    | some (key, w) =>
      if t.unitGroup u = g ∧ w.origin.isNone then
        t.setWindow key (some (if w.skip = 0 then { w with origin := some y } else { w with skip := w.skip - 1 }))
      else t
    | none => t)

/-! ## Commands -/

/-- Next document registers of a unit and of its track (R195). -/
def unitDocRegs (u t : Nat) : List Nat :=
  [R.uThr u, R.uRun u, R.uMinpix u, R.uFit u, R.uAspect u, R.uWin u, R.trkJob t]

/-- An open pulse (R192, R194): the unit joins the oldest record of its track that waits for it, or takes a free slot.
(DEDUCED: notes/assumptions/30.) -/
def State.windowOpen (s : State) (u : Nat) : State :=
  let t := s.fld (R.uCfg u) F.uCfg.TRK
  if !(s.bit (R.uCfg u) F.uCfg.EN && s.selOn (R.uOpenSel u)) then s
  else if (s.openWindow u).isSome then s.setFld (R.uStat u) F.uStat.OPEN_IGN 1
  else
    let joins (k : Nat) : Bool :=
      let d := s.record k
      d.busy && !d.complete && !(d.units.contains u)
    let free (k : Nat) : Bool := !(s.record k).busy
    match ((s.slotsOf t).find? joins).orElse (fun _ => (s.slotsOf t).find? free) with
    | none => (s.setFld (R.uStat u) F.uStat.OPEN_IGN 1).setFld (R.trkStat t) F.trkStat.SLOT_FULL 1
    | some k =>
      let s1 := s.commit (unitDocRegs u t)
      let d := s1.record k
      let d1 := if d.busy then d else { busy := true, seq := s1.geo.opened + 1 : DocRecord }
      let s2 := s1.setRecord k { d1 with units := addSorted d1.units u, open_ := addSorted d1.open_ u }
      let s3 := { s2 with geo := { s2.geo with opened := s2.geo.opened + (if d.busy then 0 else 1) } }
      let s4 := s3.setWindow (u * 2 + k % 2) (some { skip := s3.effFld (R.uWin u) F.uWin.Y_OFF, slot := k % 2 })
      (((s4.setWinBit u 1).setFld (R.uStat u) F.uStat.LEAD 0).setFld (R.uStat u) F.uStat.TRAIL 0).refreshTrack t

/-- A close pulse (R193). -/
def State.windowCloseEvent (s : State) (u : Nat) : State := if s.selOn (R.uCloseSel u) then s.closeAfterLines u else s

/-- CLOSE = 1 of a track, with an imposed STATUS (R210). -/
def State.trackClose (s : State) (t status : Nat) : State :=
  s.forEach 4 (fun u r =>
    if (r.fld (R.trkCfg t) F.trkCfg.UNITS).testBit u && r.fld (R.uCfg u) F.uCfg.TRK == t then
      match r.openWindow u with
      | some (key, _) =>
        let k := t * 2 + key % 2
        let r1 := if status = 0 then r else r.setRecord k { r.record k with status := status }
        r1.closeAfterLines u
      | none => r
    else r)

/-- A write of TRKt_CLOSE. -/
def State.trkCloseWrite (s : State) (t : Nat) (w : Word) : State :=
  if w.getLsbD 0 then s.trackClose t (F.trkClose.STATUS.get w) else s

/-- The fits of the unit's oldest closed window complete (R203-R208). -/
def State.edgeFitComplete (s : State) (u : Nat) : State :=
  let t := s.fld (R.uCfg u) F.uCfg.TRK
  let due (k : Nat) : Option Window :=
    match s.window (u * 2 + k % 2) with
    | some w => if w.closed && (s.record k).open_.contains u then some w else none
    | none => none
  match (s.slotsOf t).find? (fun k => (due k).isSome) with
  | none => s
  | some k =>
    let (e, s1) := s.sideFitted u ((due k).getD {})
    (s1.addSide k u e).tryComplete k

/-- HOLD.TMO_US have passed since the last window of the oldest assembled record closed (R208). -/
def State.recordHoldTimeout (s : State) (t : Nat) : State :=
  match (s.slotsOf t).find? (fun k => (s.record k).busy && !(s.record k).complete) with
  | none => s
  | some k =>
    let d := s.record k
    if (List.range 4).any (fun u => match s.window (u * 2 + k % 2) with
        | some w => d.units.contains u && !w.closed | none => false) then s
    else (s.setRecord k { d with late := true }).tryComplete k

/-- A record completes at once with STATUS ABORTED; windows and fits that it waits for are cut off (R210). -/
def State.recordAbort (s : State) (k : Nat) : State :=
  let d := s.record k
  if d.busy && !d.complete then
    let s1 := d.open_.foldl (fun t u =>
      match t.window (u * 2 + k % 2) with
      | some w => t.addSide k u (t.sideBase u w)
      | none => t) s
    (s1.setRecord k { s1.record k with status := St.aborted }).recordComplete k
  else s

/-- The cause of R214 that a unit meets; 0 none. -/
def State.unitCause (s : State) (u : Nat) (invalid : Bool) : Nat :=
  let abp := s.fld (R.uCfg u) F.uCfg.ABP
  let t := s.fld (R.uCfg u) F.uCfg.TRK
  let pts := s.fld (R.uNcol u) F.uNcol.PTS_LINES
  let ncol := min 1024 (s.fld (R.uNcol u) F.uNcol.NCOL)
  let step := atLeastOne (s.fld (R.uCol u) F.uCol.COL_STEP)
  if (List.range 4).any (fun v => (v != u && s.bit (R.uCfg v) F.uCfg.EN && s.fld (R.uCfg v) F.uCfg.ABP == abp) ||
      (s.bit (R.trkCfg v) F.trkCfg.EN && s.fld (R.trkCfg v) F.trkCfg.ABP == abp)) then 1
  else if invalid || decide (s.partBytes abp < 4 * (pts + ncol)) then 2
  else if !(s.bit (R.plCfg (s.fld (R.uCfg u) F.uCfg.PLANE)) F.plCfg.EN) || !((s.fld (R.trkCfg t) F.trkCfg.UNITS).testBit u) then 3
  else if pts = 0 ∨ ncol = 0 ∨ 65535 < s.fld (R.uCol u) F.uCol.COL_X0 + (ncol - 1) * step then 4
  else 0

/-- The cause of R214 that a track meets; 0 none. -/
def State.trkCause (s : State) (t : Nat) (invalid : Bool) : Nat :=
  let abp := s.fld (R.trkCfg t) F.trkCfg.ABP
  if (List.range 4).any (fun v => (v != t && s.bit (R.trkCfg v) F.trkCfg.EN && s.fld (R.trkCfg v) F.trkCfg.ABP == abp) ||
      (s.bit (R.uCfg v) F.uCfg.EN && s.fld (R.uCfg v) F.uCfg.ABP == abp)) then 1
  else if s.fld (R.trkCfg t) F.trkCfg.UNITS = 0 then 2
  else if invalid then 3 else 0

/-- The claim of a partition at an enable, the check of the block's causes, and what a refusal leaves: `en` and `err` say
where EN, and CFG_ERR with CFG_CAUSE, stand (R50, R156, R214). -/
def State.claimAtEnable (s : State) (path : Path) (abp who off : Nat) (en : Fld) (cause : State → Bool → Nat)
    (err : State → Nat → State) (ok : State → State) : State :=
  match s.claim (.partition abp) who with
  | (t, .denied) => (t.errClaim path off).setFld off en 0
  | (t, r) =>
    let c := cause t (r == .invalid)
    if c = 0 then ok t
    else
      let back := if s.owner (.partition abp) = 0 then t.setOwner (.partition abp) 0 else t
      (err back c).setFld off en 0

/-- A write of Uu_CFG (R210, R214). -/
def State.uCfgWrite (s : State) (path : Path) (u : Nat) (w : Word) : State :=
  let was := s.bit (R.uCfg u) F.uCfg.EN
  let s1 := s.writeRow path (R.uCfg u) Row.uCfg w (s.bit (R.uStat u) F.uStat.WIN)
  if w.getLsbD 0 && !was then
    s1.claimAtEnable path (s1.fld (R.uCfg u) F.uCfg.ABP) claimantGeo (R.uCfg u) F.uCfg.EN (fun t i => t.unitCause u i)
      (fun t c => (t.setFld (R.uStat u) F.uStat.CFG_ERR 1).setFld (R.uStat u) F.uStat.CFG_CAUSE c) id
  else if !(w.getLsbD 0) && was then
    let s2 := match s1.openWindow u with
      | some (key, _) => s1.recordAbort (s1.fld (R.uCfg u) F.uCfg.TRK * 2 + key % 2)
      | none => s1
    (s2.release (.partition (s2.fld (R.uCfg u) F.uCfg.ABP)) claimantGeo).1
  else s1

/-- A write of TRKt_CFG (R210, R214); records completed start again at SEQ 0 with an enable. -/
def State.trkCfgWrite (s : State) (path : Path) (t : Nat) (w : Word) : State :=
  let was := s.bit (R.trkCfg t) F.trkCfg.EN
  let s1 := s.writeRow path (R.trkCfg t) Row.trkCfg w (s.trkBusy t)
  if w.getLsbD 0 && !was then
    s1.claimAtEnable path (s1.fld (R.trkCfg t) F.trkCfg.ABP) claimantGeo (R.trkCfg t) F.trkCfg.EN (fun r i => r.trkCause t i)
      (fun r c => (r.setFld (R.trkStat t) F.trkStat.CFG_ERR 1).setFld (R.trkStat t) F.trkStat.CFG_CAUSE c)
      (fun r => r.setReg (R.trkSeq t) 0)
  else if !(w.getLsbD 0) && was then
    let s2 := (s1.slotsOf t).foldl (fun r k => r.recordAbort k) s1
    (s2.release (.partition (s2.fld (R.trkCfg t) F.trkCfg.ABP)) claimantGeo).1
  else s1

end Sys2Proof.Machine
end

