-- ==== Sys2Proof/Machine/Tsq.lean ====
section
/-!
DEFINITION. Sys2Proof/Machine/Tsq.lean: the timing sequencer: line programs, microcode, triggering, exposure windows, line
timeout and flush lines (R87-R117).
-/
namespace Sys2Proof.Machine

/-- TSQ as a claimant (Table 1-12). -/
def claimantTsq : Nat := 0x10

/-! ## Outputs (R89-R91, R98, R106) -/

/-- Phase k of a line program's line in progress. -/
def Lp.phase (l : Lp) (k : Nat) : Phase := Table.get (fun _ => {}) l.phases k

/-- The line program with a phase replaced. -/
def Lp.setPhase (l : Lp) (k : Nat) (x : Phase) : Lp := { l with phases := Table.set (fun _ => {}) l.phases k x }

/-- Some window of the program is open or still to open (R109). -/
def Lp.windowsLeft (l : Lp) : Bool := l.phases.any (fun e => e.2.win != .closed)

/-- Shutter outputs of a program as pairs of phase and output. -/
def State.shutters (s : State) (p : Nat) : List (Nat × Nat) :=
  ((List.range 6).filter (fun k => s.bit (R.lpPhCfg p k) F.lpPhCfg.SHUT_EN)).map
    (fun k => (k, s.fld (R.lpPhCfg p k) F.lpPhCfg.SHUT_TG))

/-- The timing outputs that microcode and patterns of the program drive: those it owns without its shutters. -/
def State.drivenTg (s : State) (p : Nat) : Nat :=
  (List.range 24).foldl (fun m n =>
    if (s.fld (R.lpOuts p) F.lpOuts.TG).testBit n && !((s.shutters p).any (fun e => e.2 == n)) then m + 2 ^ n else m) 0

/-- Drive timing outputs of a mask to levels. -/
def State.driveTg (s : State) (mask levels : Nat) : State :=
  let m : BitVec 24 := BitVec.ofNat 24 mask
  { s with tsq := { s.tsq with tg := (s.tsq.tg &&& ~~~m) ||| (BitVec.ofNat 24 levels &&& m) } }

/-- Shutter outputs follow the open windows of their phases while the program is enabled (R106). -/
def State.driveShutters (s : State) (p : Nat) : State :=
  if !(s.bit (R.lpCfg p) F.lpCfg.EN) then s
  else
    let sh := s.shutters p
    let l := s.lp p
    sh.foldl (fun t e =>
      let dump := t.bit (R.lpPhCfg p e.1) F.lpPhCfg.SHUT_DUMP
      let isOpen := sh.any (fun q => q.2 == e.2 && (l.phase q.1).win == .opened)
      t.driveTg (2 ^ e.2) (if dump != isOpen then 2 ^ e.2 else 0)) s

/-- The program's line belongs to the dark lines of a full capture, for which its LS outputs stay low (R171). -/
def State.darkLine (s : State) (p : Nat) : Bool :=
  (s.groupsOf p).any (fun g =>
    match (s.group g).capture, ((s.group g).line (s.lp p).line).bind (fun l => l.strip) with
    | some c, some i => c.full && decide (i < s.darkN g)
    | _, _ => false)

/-- The LS outputs are the OR of the open windows that name them (R91). -/
def State.driveLs (s : State) : State :=
  let m := (List.range 8).foldl (fun a p =>
    if s.darkLine p then a
    else (List.range 6).foldl (fun b k =>
      if ((s.lp p).phase k).win == .opened then b ||| s.effFld (R.lpPhCfg p k) F.lpPhCfg.LS else b) a) 0
  { s with tsq := { s.tsq with ls := BitVec.ofNat 12 m } }

/-- The program's windows are closed and its outputs at their idle levels. -/
def State.driveIdle (s : State) (p : Nat) : State :=
  let l := s.lp p
  let s1 := s.setLp p { l with phases := l.phases.map (fun e => (e.1, { e.2 with win := .closed })) }
  ((s1.driveTg (s1.fld (R.lpOuts p) F.lpOuts.TG) (s1.fld (R.lpIdle p) F.lpIdle.TG)).driveShutters p).driveLs

/-- BUSY and FLUSHING of LPp_STAT and TSQ.STAT. -/
def State.setBusy (s : State) (p v : Nat) : State := (s.setFld (R.lpStat p) F.lpStat.BUSY v).setFld R.tsqStat ⟨p, 1⟩ v
def State.setFlushing (s : State) (p v : Nat) : State :=
  (s.setFld (R.lpStat p) F.lpStat.FLUSHING v).setFld R.tsqStat ⟨8 + p, 1⟩ v

/-! ## Lines and pending lines (R109-R112) -/

/-- An exception of a program's line: listed; a stale or timed-out overlap line is excluded from its correlation (R235). -/
def State.lineExc (s : State) (p y cause index mask : Nat) : State :=
  if overlapBase ≤ y then
    if cause = Cause.stale ∨ cause = Cause.timeout then
      (s.groupsOf p).foldl (fun t g =>
        t.setSeamSt g { t.seamSt g with bad := addSorted (t.seamSt g).bad (y - overlapBase) }) s
    else s
  else s.listPlanes y cause index mask

/-- Count a line stale (R111). -/
def State.countStale (s : State) (p : Nat) : State := (s.count (R.lpStaleCnt p)).setFld (R.lpStat p) F.lpStat.STALE 1

/-- The pending line is gone without a count (R90, R112). -/
def State.dropPending (s : State) (p : Nat) : State :=
  let l := s.lp p
  s.setLp p { l with pending := none, pendPhases := [], pendRead := false, pendStale := false, prevBursts := [] }

/-- A run that had begun the readout of the pending line is cut short: the line is counted stale and its planes repeat
(R112). -/
def State.cutPending (s : State) (p : Nat) : State :=
  let l := s.lp p
  match l.pending with
  | none => s
  | some y =>
    if !l.pendRead then s
    else
      let mask := s.programPlanes p
      let s1 := (s.lineExc p y Cause.stale noIndex mask).dropLine p y mask
      let s2 := if l.pendStale then s1 else s1.countStale p
      (if overlapBase ≤ y then s2 else s2.queueRepeat p y mask).dropPending p

/-- A flush line starts in a cycle (R114, R115). -/
def State.startFlush (s : State) (p cycle : Nat) : State :=
  let l := s.lp p
  let s1 := s.setLp p { l with
    run := .flush, pc := s.fld (R.lpCfg p) F.lpCfg.START, cycle := cycle + 2, first := cycle + 2, loop0 := none, loop1 := none
    waiting := none, phases := [], ended := false, burst := none, taken := [], bursts := [], flushDue := false
    pendRead := false }
  s1.count (R.lpFlushCnt p)

/-- The run is over normally: the line that it read is no longer pending, a taken line becomes pending, and the planes
deliver (R109, R112); a flush line that waits starts (R114). (DEDUCED: notes/assumptions/27.) -/
def State.finishRun (s : State) (p : Nat) : State :=
  let l := s.lp p
  let en := s.bit (R.lpCfg p) F.lpCfg.EN
  let s1 := (s.dropPending p).setLp p
    (if l.run == .line && en then
      { l with run := .idle, burst := none, waiting := none, pending := some l.line, pendPhases := l.phases, pendFirst := l.first,
               pendRead := false, pendStale := l.staleSeen, prevBursts := l.bursts, bursts := [] }
     else
      { l with run := .idle, burst := none, waiting := none, pending := none, pendPhases := [], pendRead := false
               pendStale := false, prevBursts := [], bursts := [] })
  let s2 := if l.run == .line then s1.setBusy p 0 else s1
  let s3 := (if en then s2 else s2.driveIdle p).deliverReady p
  if en && (s3.lp p).flushDue && s3.bit (R.lpStat p) F.lpStat.FLUSHING then s3.startFlush p l.cycle else s3

/-- The run is over if it has had its ENDL and its windows are closed (R109). -/
def State.finishIfOver (s : State) (p : Nat) : State :=
  let l := s.lp p
  if l.run != .idle && l.ended && !l.windowsLeft then s.finishRun p else s

/-- A run cut short: outputs idle, windows closed; a readout that it had begun is cut (R112, R113, R116). -/
def State.stopRun (s : State) (p : Nat) : State :=
  let s1 := (s.cutPending p).driveIdle p
  let l := s1.lp p
  (s1.setLp p { l with run := .idle, burst := none, waiting := none, bursts := [], ended := false }).setBusy p 0

/-- The line or flush line in progress times out or faults (R96, R113). -/
def State.timeOut (s : State) (p : Nat) : State :=
  let l := s.lp p
  let mask := s.programPlanes p
  let s1 := (s.count (R.lpTmoCnt p)).setFld (R.lpStat p) F.lpStat.TMO 1
  if l.run == .line then
    let overlap := decide (overlapBase ≤ l.line)
    let s2 := if overlap then s1 else s1.fire (8 + p)
    let s3 := ((s2.lineExc p l.line Cause.timeout noIndex mask).dropLine p l.line mask).stopRun p
    let s4 := (s3.dropPending p)
    (if overlap then s4 else s4.queueRepeat p l.line mask).deliverReady p
  else if l.run == .flush then (s1.stopRun p).deliverReady p
  else s

/-! ## Enable and disable (R87-R90, R103) -/

/-- Position of a trigger source, 48.16 signed (Table 3-3). -/
def State.position (s : State) (src : Nat) : Int :=
  if src < 2 then signed 64 (s.reg64 (R.encPosLo src) (R.encPosHi src))
  else signed 64 (s.reg64 (R.axisPosLo (src - 2)) (R.axisPosHi (src - 2)))

/-- NEXT of a program, and the state with it set. -/
def State.next (s : State) (p : Nat) : Int := signed 64 (s.reg64 (R.lpNextLo p) (R.lpNextHi p))
def State.setNext (s : State) (p : Nat) (v : Int) : State := s.setReg64 (R.lpNextLo p) (R.lpNextHi p) (unsigned 64 v)

/-- LAST of a program. -/
def State.last (s : State) (p : Nat) : Int := signed 64 (s.reg64 (R.lpLastLo p) (R.lpLastHi p))

/-- LS outputs that the phases of a program name, in effect or pending (R88). -/
def State.lsUnion (s : State) (p : Nat) : Nat :=
  (List.range 6).foldl (fun m k => m ||| s.fld (R.lpPhCfg p k) F.lpPhCfg.LS ||| s.effFld (R.lpPhCfg p k) F.lpPhCfg.LS) 0

/-- LS outputs that other enabled programs name. -/
def State.lsOthers (s : State) (p : Nat) : Nat :=
  (List.range 8).foldl (fun m q => if q != p && s.bit (R.lpCfg q) F.lpCfg.EN then m ||| s.lsUnion q else m) 0

/-- SRC selects a position source. -/
def State.positionSrc (s : State) (p : Nat) : Bool := decide (s.fld (R.lpCfg p) F.lpCfg.SRC ≤ 5)

/-- The cause of R88 that a program meets; 0 none. -/
def State.lpCause (s : State) (p : Nat) : Nat :=
  let outs (q : Nat) := s.fld (R.lpOuts q) F.lpOuts.TG
  let vin (q : Nat) := s.fld (R.lpVin q) F.lpVin.VIN
  let clash := (List.range 8).any (fun q => q != p && s.bit (R.lpCfg q) F.lpCfg.EN &&
    (outs p &&& outs q != 0 || vin p &&& vin q != 0)) || s.lsUnion p &&& s.lsOthers p != 0
  let sh := s.shutters p
  let dump (k : Nat) := s.fld (R.lpPhCfg p k) F.lpPhCfg.SHUT_DUMP
  if clash then 1
  else if s.positionSrc p && decide ((s.reg (R.lpPitch p)).toNat < 0x10000) then 2
  else if sh.any (fun e => !((outs p).testBit e.2) || sh.any (fun f => e.2 == f.2 && dump e.1 != dump f.1)) then 3
  else 0

/-- A refused write of a program's configuration. -/
def State.lpRefuse (s : State) (p cause : Nat) : State :=
  (s.setFld (R.lpStat p) F.lpStat.CFG_ERR 1).setFld (R.lpStat p) F.lpStat.CFG_CAUSE cause

/-- NEXT is advanced beyond a position already reached (R103). -/
def State.nextAdjust (s : State) (p : Nat) : State :=
  let pos := s.position (s.fld (R.lpCfg p) F.lpCfg.SRC)
  let pitch : Int := ((s.reg (R.lpPitch p)).toNat : Nat)
  if s.positionSrc p && decide (s.next p ≤ pos) && decide (0 < pitch) then
    (s.setNext p (s.next p + ((pos - s.next p) / pitch + 1) * pitch)).setFld (R.lpStat p) F.lpStat.NEXT_ADJ 1
  else s

/-- A write of LPp_CFG (R87-R90). -/
def State.lpCfgWrite (s : State) (path : Path) (p : Nat) (w : Word) : State :=
  let was := s.bit (R.lpCfg p) F.lpCfg.EN
  let s1 := s.writeRow path (R.lpCfg p) Row.lpCfg w (!(s.lpIdle p))
  if w.getLsbD 0 && !was then
    let c := s1.lpCause p
    if c ≠ 0 then (s1.setFld (R.lpCfg p) F.lpCfg.EN 0).lpRefuse p c
    else (((s1.setReg (R.lpLineCnt p) 0).commit [R.lpPitch p]).driveIdle p).nextAdjust p
  else if !(w.getLsbD 0) && was then
    let l := s1.lp p
    let s2 := if l.run == .flush then
        let y := l.pending.getD 0
        let t := if l.pending.isSome && l.pendRead then s1.dropLine p y (s1.programPlanes p) else s1
        t.setLp p { l with run := .idle, burst := none, waiting := none }
      else s1
    let s3 := ((s2.dropPending p).setFlushing p 0)
    let s4 := s3.setLp p { s3.lp p with flushDue := false }
    (if (s4.lp p).run == .idle then s4.driveIdle p else s4).deliverReady p
  else s1

/-- A write of LPp_PHk_CFG: while the program is enabled, a mask that another enabled program uses is discarded (R88). -/
def State.lpPhCfgWrite (s : State) (path : Path) (p k : Nat) (w : Word) : State :=
  let off := R.lpPhCfg p k
  let clash := s.bit (R.lpCfg p) F.lpCfg.EN && F.lpPhCfg.LS.get w &&& s.lsOthers p != 0
  if clash then (s.writeRow path off Row.lpPhCfg (F.lpPhCfg.LS.put w (s.fld off F.lpPhCfg.LS)) (!(s.lpIdle p))).lpRefuse p 1
  else s.writeRow path off Row.lpPhCfg w (!(s.lpIdle p))

/-- A write of LPp_PITCH: below one count it is discarded while a position source triggers the program (R88). -/
def State.lpPitchWrite (s : State) (path : Path) (p : Nat) (w : Word) : State :=
  if s.bit (R.lpCfg p) F.lpCfg.EN && s.positionSrc p && decide (w.toNat < 0x10000) then s.lpRefuse p 2
  else s.writeRow path (R.lpPitch p) Row.lpPitch w (!(s.lpIdle p))

/-! ## Triggers (R101-R105, R110, R116) -/

/-- The Next line registers that a taken line of program p puts into effect (R12, R118, Tables 3-4 and 3-5). -/
def State.lineRegs (s : State) (p : Nat) : List Nat :=
  let ins := setBits (s.fld (R.lpVin p) F.lpVin.VIN) 16
  [R.lpPitch p, R.lpTmo p, R.lpStale p] ++ (List.range 6).flatMap (fun k => [R.lpPhCfg p k, R.lpPhWin p k]) ++
    ins.flatMap (fun n => [R.tsqSmp n, R.vafVinLvl n]) ++ (s.groupsOf p).map (fun g => R.grpSeam g)

/-- The test DAC changes inputs at each input's own next line (R153): the inputs of program p follow TDAC as written; once no
input differs from it, nothing is pending. -/
def State.dacAtLine (s : State) (p : Nat) : State :=
  let want := if s.bit R.vafTdac F.vafTdac.EN then [s.fld R.vafTdac F.vafTdac.VIN] else []
  let vin := s.fld (R.lpVin p) F.lpVin.VIN
  let keep := s.vaf.dacOn.filter (fun n => !(vin.testBit n) || want.contains n)
  let on := (want.filter (fun n => vin.testBit n)).foldl addSorted keep
  let s1 := { s with vaf := { s.vaf with dacOn := on } }
  if on = want then s1.commit [R.vafTdac] else s1

/-- The groups and windows of a program see a trigger (R168, R192). -/
def State.triggerGroups (s : State) (p y : Nat) (pos : Int) : State :=
  (s.groupsOf p).foldl (fun t g => (t.grpTrigger g y pos).geoTrigger g y) s

/-- A line of program p starts: the pending values take effect, a flush line in progress is aborted, the first instruction
follows in 2 cycles (R104, R116). -/
def State.startLine (s : State) (p cycle y : Nat) : State :=
  let s1 := if (s.lp p).run == .flush then s.stopRun p else s
  -- an overlap line is no trigger: nothing pending takes effect with it (R235)
  let s1' := if overlapBase ≤ y then s1 else (s1.commit (s1.lineRegs p)).dacAtLine p
  let s2 := (s1'.setFlushing p 0).setBusy p 1
  let l := s2.lp p
  (s2.setLp p { l with
    run := .line, pc := s2.fld (R.lpCfg p) F.lpCfg.START, cycle := cycle + 2, first := cycle + 2, loop0 := none, loop1 := none
    waiting := none, phases := [], line := y, ended := false, staleSeen := false, burst := none, taken := [], bursts := []
    flushDue := false, phi := 0 }).driveLs

/-- One trigger of program p in a cycle (R104, R110): the line is taken, or skipped while one is in progress. `pos` is the
NEXT value that raised it, none for SRC 6 and 7; `skip` makes it a missing line-clock tick (R457). -/
def State.raiseTrigger (s : State) (p cycle : Nat) (pos : Option Int) (skip : Bool) : State :=
  let y := (s.reg (R.lpLineCnt p)).toNat
  let s1 := s.setReg (R.lpLineCnt p) (s.reg (R.lpLineCnt p) + 1)
  if skip || (s1.lp p).run == .line then
    let s2 := (s1.count (R.lpOvrCnt p)).setFld (R.lpStat p) F.lpStat.OVR 1
    let s3 := s2.triggerGroups p y (pos.getD 0)
    let mask := s3.programPlanes p
    ((s3.listPlanes y Cause.lineOverrun noIndex mask).queueRepeat p y mask).deliverReady p
  else
    let s2 := s1.startLine p cycle y
    let s3 := match pos with
      | some v => s2.setReg64 (R.lpLastLo p) (R.lpLastHi p) (unsigned 64 v)
      | none => s2
    let s4 := ((s3.fire p).triggerGroups p y (pos.getD 0)).driveLs
    { s4 with work := s4.work ++ [Work.trigger p cycle] }

/-- The comparison of R102 is suspended while a path of the program is in STOPPED, BACKOFF or APPROACH (R233). -/
def State.trigSuspended (s : State) (p : Nat) : Bool :=
  (List.range 4).any (fun k => (s.fld (R.pathLinks k) F.pathLinks.LPS).testBit p && s.bit (R.pathCfg k) F.pathCfg.EN &&
    (s.pathState k == 4 || s.pathState k == 5 || s.pathState k == 6))

/-- The triggers that a position raises in one cycle (R102), at most `fuel` of them. -/
def State.compareNext (p cycle : Nat) (pos : Int) : Nat → State → State
  | 0, s => s
  | fuel + 1, s =>
    let nx := s.next p
    if nx ≤ pos ∧ s.bit (R.lpCfg p) F.lpCfg.EN then
      let s1 := s.raiseTrigger p cycle (some nx) false
      State.compareNext p cycle pos fuel (s1.setNext p (nx + (((s1.effReg (R.lpPitch p)).toNat : Nat) : Int)))
    else s

/-- The tick of the line clock that program p takes next (R105, R456, R457): missing numbers are skipped triggers, the tick
itself a trigger; LC_TICK and EV236 follow the first program that takes it. -/
def State.tickTrigger (s : State) (p cycle : Nat) : State :=
  match s.tsq.ticks.find? (fun t => t.left.contains p) with
  | none => s
  | some tk =>
    let s1 := { s with tsq := { s.tsq with
      ticks := (s.tsq.ticks.map (fun (t : LcTick) =>
        if t.tick = tk.tick then { t with left := t.left.filter (fun q => q != p), taken := true } else t)).filter
          (fun t => !t.left.isEmpty) } }
    let s2 := if tk.skip || tk.taken then s1
      else (s1.setReg R.dlfLcTick (BitVec.ofNat 32 tk.tick)).fire 236
    let y := (s2.reg (R.lpLineCnt p)).toNat
    let s3 := (s2.groupsOf p).foldl (fun t g => t.setGroup g ((t.group g).setLine y (fun l => { l with tick := tk.tick })))
      (s2.raiseTrigger p cycle none tk.skip)
    s3.setLp p { s3.lp p with phi := if tk.late then 0 else tk.stamp % 64 }

/-- The trigger condition of program p is judged in a TGCLK cycle (R101, R102). -/
def State.lineTrigger (s : State) (p cycle : Nat) : State :=
  let src := s.fld (R.lpCfg p) F.lpCfg.SRC
  if !(s.bit (R.lpCfg p) F.lpCfg.EN && s.pdOn 131) then s
  else if src ≤ 5 then
    if s.trigSuspended p then s
    else
      let pos := s.position src
      State.compareNext p cycle pos (((pos - s.next p) / 65536 + 1).toNat) s
  else if src = 6 then s.tickTrigger p cycle
  else if s.selOn (R.lpTrigSel p) then s.raiseTrigger p cycle none false
  else s

/-! ## Microcode (R92-R100) -/

/-- The word that program p executes next. -/
def State.nextWord (s : State) (p : Nat) : Nat := (s.reg (R.tsqUcode (s.lp p).pc)).toNat

/-- The fault that the next instruction of a program would take (R96); 0 none. -/
def State.microFault (s : State) (p : Nat) : Nat :=
  let w := s.nextWord p
  let op := w / 2 ^ 28
  let arg := w % 65536
  if 1023 < (s.lp p).pc then 3
  else if 7 ≤ op then 1
  else if (op == 1 && decide (3 < arg / 4096 % 8)) || (op == 2 && decide (5 < arg % 8)) ||
      (op == 3 && decide (5 < arg / 8 % 8)) then 2
  else 0

/-- A program is about to execute an instruction with operation `op`. -/
def State.executes (s : State) (p op : Nat) : Bool :=
  let l := s.lp p
  l.run != .idle && !l.ended && l.waiting.isNone && s.microFault p == 0 && (s.nextWord p / 2 ^ 28 == op)

/-- ARG of the next instruction, and the cycle in which it acts (R93). -/
def State.microArg (s : State) (p : Nat) : Nat := s.nextWord p % 65536
def State.actCycle (s : State) (p : Nat) : Nat := (s.lp p).cycle + s.nextWord p / 65536 % 4096

/-- The instruction is done: the next one starts in a cycle. -/
def State.advance (s : State) (p pc cycle : Nat) : State :=
  let l := s.lp p
  (s.setLp p { l with pc := pc, cycle := cycle, burst := none }).setFld (R.lpStat p) F.lpStat.PC l.pc

/-- NOP. -/
def State.microNop (s : State) (p : Nat) : State := s.advance p ((s.lp p).pc + 1) (s.actCycle p + 1)

/-- SETG: drive the masked outputs of a group to the given levels (Table 3-2). -/
def State.microSetg (s : State) (p : Nat) : State :=
  let a := s.microArg p
  let sh := 6 * (a / 4096 % 8)
  (s.driveTg ((a / 64 % 64 * 2 ^ sh) &&& s.drivenTg p) (a % 64 * 2 ^ sh)).microNop p

/-- The window of phase k opens now. -/
def State.openPhase (s : State) (p k : Nat) : State :=
  let l := s.lp p
  ((s.setLp p (l.setPhase k { l.phase k with win := .opened })).driveShutters p).driveLs

/-- The window of phase k closes. -/
def State.closePhase (s : State) (p k : Nat) : State :=
  let l := s.lp p
  (((s.setLp p (l.setPhase k { l.phase k with win := .closed })).driveShutters p).driveLs).finishIfOver p

/-- PHASE (R106-R108, R115): event, end of exposure, window. -/
def State.microPhase (s : State) (p : Nat) : State :=
  let k := s.microArg p % 8
  let a := s.actCycle p
  let l := s.lp p
  let s1 := s.microNop p
  if l.run == .flush then s1
  else
    let delay := s.effFld (R.lpPhWin p k) F.lpPhWin.DELAY
    let width := s.effFld (R.lpPhWin p k) F.lpPhWin.WIDTH
    let ph : Phase :=
      { win := if width = 0 then .closed else .delayed, opens := a + delay, last := a + delay + width - 1, started := true
        expEnd := if width = 0 then a else a + delay + width - 1 }
    let s2 := if overlapBase ≤ l.line then s1 else s1.fire (16 + 6 * p + k)
    let s3 := ((s2.setLp p ((s2.lp p).setPhase k ph)).driveShutters p).driveLs
    if width ≠ 0 ∧ delay = 0 then s3.openPhase p k else s3

/-- End of exposure of phase k of the line read: its own, or the pending one's (R108). -/
def Lp.exposureEnd (l : Lp) (k : Nat) (prev : Bool) : Nat :=
  let ph := Table.get (fun _ => {}) (if prev then l.pendPhases else l.phases) k
  if ph.started then ph.expEnd else if prev then l.pendFirst else l.first

/-- PERIOD in steps (R100). -/
def State.period (s : State) (j : Nat) : Nat :=
  let q := s.fld (R.tsqPxCfg j) F.tsqPxCfg.PERIOD
  if q = 0 then 16 else if q = 1 then 2 else q

/-- The planes that the inputs of a mask feed with tag k (R128). -/
def State.tagPlanes (s : State) (vin k : Nat) : Nat :=
  (setBits vin 16).foldl (fun m n =>
    let w := if k < 4 then s.reg (R.vafPmapLo n) else s.reg (R.vafPmapHi n)
    let b := w.toNat >>> (8 * (k % 4))
    if b.testBit 7 && decide (b % 64 ≤ 47) then m ||| 2 ^ (b % 64) else m) 0

/-- The burst carries a stale line (R111): it is counted once, listed with the planes of the phase, which repeat. -/
def State.staleBurst (s : State) (p y k : Nat) (prev : Bool) (vin : Nat) : State :=
  let l := s.lp p
  let seen := if prev then l.pendStale else l.staleSeen
  let s1 := if seen then s else s.countStale p
  let l1 := s1.lp p
  let s2 := s1.setLp p (if prev then { l1 with pendStale := true } else { l1 with staleSeen := true })
  let mask := s2.tagPlanes vin k
  let s3 := s2.lineExc p y Cause.stale noIndex mask
  if overlapBase ≤ y then s3 else s3.queueRepeat p y mask

/-- PIX (R94, R98, R99, R111, R112, R115). -/
def State.microPix (s : State) (p : Nat) : State :=
  let a := s.microArg p
  let j := a % 4
  let smp := a.testBit 2
  let k := a / 8 % 8
  let prev := a.testBit 6
  let n := s.fld (R.tsqPxCount j) F.tsqPxCount.COUNT
  let per := s.period j
  if n = 0 then s.microNop p
  else
    let start := s.actCycle p
    let l := s.lp p
    let s1 := s.driveTg (s.drivenTg p) (s.fld (R.tsqPxStep (16 * j + per - 1)) F.tsqPxStep.TG)
    let s2 := (s1.setLp p { l with pc := l.pc + 1, cycle := start + per * n, taken := [] }).setFld (R.lpStat p) F.lpStat.PC l.pc
    let vin := s.fld (R.tsqPxCfg j) F.tsqPxCfg.VIN &&& s.fld (R.lpVin p) F.lpVin.VIN
    let line := if prev then l.pending else if l.run == .flush then none else some l.line
    match smp, line with
    | true, some y =>
      let limit := s.effFld (R.lpStale p) F.lpStale.US * 200
      let stale := limit != 0 && decide (l.exposureEnd k prev + limit < start)
      let placed := (setBits vin 16).filter (fun i => decide (s.effFld (R.tsqSmp i) F.tsqSmp.SIG_STEP < per))
      let absent := (setBits vin 16).filter (fun i => decide (per ≤ s.effFld (R.tsqSmp i) F.tsqSmp.SIG_STEP))
      let s3 := absent.foldl (fun t i => t.lineExc p y Cause.sampleMissing i (t.tagPlanes (2 ^ i) k)) s2
      let s4 := if stale then s3.staleBurst p y k prev vin else s3
      let l4 := s4.lp p
      let counted (t : Table Nat) : Table Nat := placed.foldl (fun t i =>
        Table.set (fun _ => 0) t (8 * i + k) (Table.get (fun _ => 0) t (8 * i + k) + 1)) t
      let l5 := if prev then { l4 with prevBursts := counted l4.prevBursts, pendRead := true }
        else { l4 with bursts := counted l4.bursts }
      s4.setLp p { l5 with burst := some { pattern := j, smp := true, tag := k, line := y, sends := !stale } }
    | _, _ => s2.setLp p { s2.lp p with burst := some { pattern := j, smp := smp, tag := k, line := 0, sends := false } }

/-- LOOP (Table 3-2, R95). -/
def State.microLoop (s : State) (p : Nat) : State :=
  let a := s.microArg p
  let l := s.lp p
  let target := a % 1024
  let count := a / 1024 % 32 + 1
  let c1 := a.testBit 15
  let cur := if c1 then l.loop1 else l.loop0
  let (new, jump) : Option Nat × Bool := match cur with
    | none => if count = 1 then (none, false) else (some (count - 1), true)
    | some v => if 1 < v then (some (v - 1), true) else (none, false)
  let s1 := s.setLp p (if c1 then { l with loop1 := new } else { l with loop0 := new })
  s1.advance p (if jump then target else l.pc + 1) (s.actCycle p + 1)

/-- WAITEV: wait for a pulse of the selected line (R93). -/
def State.microWait (s : State) (p : Nat) : State :=
  let l := s.lp p
  (s.setLp p { l with waiting := some (s.microArg p % 256, s.actCycle p), burst := none }).setFld (R.lpStat p) F.lpStat.PC l.pc

/-- ENDL: the line or flush line ends (R109, Table 3-2). -/
def State.microEndl (s : State) (p : Nat) : State :=
  let l := s.lp p
  let s1 := s.microNop p
  let s2 := if l.run == .line && decide (l.line < overlapBase) then s1.fire (8 + p) else s1
  (s2.setLp p { s2.lp p with ended := true }).finishIfOver p

/-- A microcode fault (R96). -/
def State.microFaultTaken (s : State) (p : Nat) : State :=
  let c := s.microFault p
  let l := s.lp p
  if l.run == .idle || l.ended || l.waiting.isSome || c == 0 then s
  else
    let addr := min 1023 l.pc
    let s1 := (s.setFld (R.lpCfg p) F.lpCfg.EN 0).setFld (R.lpStat p) F.lpStat.UFAULT 1
    let s2 := if s1.bit R.tsqUfAddr F.tsqUfAddr.VALID then s1
      else s1.setReg R.tsqUfAddr (BitVec.ofNat 32 (1 + 2 * p + 16 * c + 65536 * addr))
    (((s2.timeOut p).dropPending p).setFlushing p 0).driveIdle p

/-! ## Commands -/

/-- Do a microcode operation when the program is about to execute it. -/
def State.micro (s : State) (p op : Nat) (f : State → State) : State := if s.executes p op then f s else s

/-- A flush line falls due in flush state (R114). -/
def State.flushLineDue (s : State) (p cycle : Nat) : State :=
  if s.bit (R.lpStat p) F.lpStat.FLUSHING && s.bit (R.lpCfg p) F.lpCfg.EN then
    if (s.lp p).run == .idle then s.startFlush p cycle else s.setLp p { s.lp p with flushDue := true }
  else s

/-- The line timeout expires (R113). -/
def State.lineTimeout (s : State) (p : Nat) : State :=
  let l := s.lp p
  if l.run != .idle && !l.ended && s.effFld (R.lpTmo p) F.lpTmo.US != 0 then s.timeOut p else s

end Sys2Proof.Machine
end

