-- ==== Sys2Proof/Machine/AuxSense.lean ====
section
/-!
DEFINITION. Sys2Proof/Machine/AuxSense.lean: auxiliary sensing: entries, sequences, conversions, linearisation, and the waveform
channels (R252-R293).
-/
namespace Sys2Proof.Machine

/-! ## Entries (R259, R260) -/

/-- Offset of word i (CFG, TIME, LIN, KREF) of an entry. -/
def auxEntryReg (inj : Bool) (e i : Nat) : Nat :=
  match i with
  | 0 => if inj then R.auxInjCfg e else R.auxRegCfg e
  | 1 => if inj then R.auxInjTime e else R.auxRegTime e
  | 2 => if inj then R.auxInjLin e else R.auxRegLin e
  | _ => if inj then R.auxInjKref e else R.auxRegKref e

/-- The register row of word i of an entry. -/
def auxEntryRow (i : Nat) : RegRow :=
  match i with
  | 0 => Row.auxRegCfg
  | 1 => Row.auxRegTime
  | 2 => Row.auxRegLin
  | _ => Row.auxRegKref

def State.auxState (s : State) : Nat := s.fld R.auxStat F.auxStat.STATE

/-- Entries of a sequence: LEN + 1. -/
def State.auxLen (s : State) (inj : Bool) : Nat :=
  if inj then s.fld R.auxInjCtl F.auxInjCtl.LEN else s.fld R.auxRegCtl F.auxRegCtl.LEN

def State.auxEn (s : State) (inj : Bool) : Bool :=
  if inj then s.bit R.auxInjCtl F.auxInjCtl.EN else s.bit R.auxRegCtl F.auxRegCtl.EN

/-- The converter path is idle (R252). -/
def State.auxIdle (s : State) : Bool := s.auxState == 0 && !(s.auxEn false) && !(s.auxEn true)

/-- A curve of Table 8-5 is a thermocouple's. -/
def isThermo (c : Nat) : Bool := decide (0x10 ≤ c ∧ c ≤ 0x17)

/-- Points of user table t (at most 64), and its point k. -/
def State.utN (s : State) (t : Nat) : Nat := min 64 (s.fld (R.auxUtN t) F.auxUtN.N)
def State.utX (s : State) (t k : Nat) : Int := signed 32 (s.reg (R.auxUtX t k)).toNat
def State.utY (s : State) (t k : Nat) : Int := signed 32 (s.reg (R.auxUtY t k)).toNat

/-- A curve code names a curve that can be used (R260 cause 3). -/
def State.curveOk (s : State) (c : Nat) : Bool :=
  (decide (1 ≤ c ∧ c ≤ 3)) || isThermo c ||
    (decide (0x20 ≤ c ∧ c ≤ 0x23) && decide (2 ≤ s.utN (c - 0x20)) &&
      (List.range (s.utN (c - 0x20) - 1)).all (fun k => decide (s.utX (c - 0x20) k < s.utX (c - 0x20) (k + 1))))

/-- MODE of excitation source k. -/
def State.excMode (s : State) (k : Nat) : Nat := s.fld (R.auxExcCfg k) F.auxExcCfg.MODE
def excOff (m : Nat) : Bool := m == 0 || m == 3

/-- The cause of R260 that an entry with words `cfg` and `lin` meets; 0 none. -/
def State.auxCause (s : State) (inj : Bool) (e : Nat) (cfg lin : Word) : Nat :=
  let ref := F.auxRegCfg.REF.get cfg
  let out := F.auxRegCfg.OUT.get cfg
  let curve := F.auxRegLin.CURVE.get lin
  let cj := F.auxRegLin.CJ_MODE.get lin
  let cje := F.auxRegLin.CJ_ENTRY.get lin
  let rexc := F.auxRegCfg.REXC.get cfg
  let bad (c : Nat) : Bool := decide (28 ≤ c)
  if bad (F.auxRegCfg.AINP.get cfg) || bad (F.auxRegCfg.AINN.get cfg) || ref == 3 ||
      (ref == 1 && (bad (F.auxRegLin.REFP.get lin) || bad (F.auxRegLin.REFN.get lin))) then 1
  else if F.auxRegCfg.ORDER.get cfg = 3 ∨ out = 3 ∨ cj = 3 then 2
  else if out == 2 && !(s.curveOk curve) then 3
  else if out == 2 && isThermo curve && (cj == 0 || (cj == 1 && ((!inj && cje == e) || decide (s.auxLen false < cje)))) then 4
  else if (setBits (F.auxRegCfg.EXC.get cfg) 4).any (fun k => excOff (s.excMode k)) ||
      (ref == 2 && (excOff (s.excMode rexc) || s.excMode rexc == 2)) then 5
  else if !(s.pdOn 125) then 6
  else 0

/-- The cause of R260 that a sequence meets: the lowest over its entries; 0 none. -/
def State.auxSeqCause (s : State) (inj : Bool) : Nat :=
  (List.range (s.auxLen inj + 1)).foldl (fun m e =>
    let c := s.auxCause inj e (s.reg (auxEntryReg inj e 0)) (s.reg (auxEntryReg inj e 2))
    if c = 0 then m else if m = 0 then c else min m c) 0

def State.auxRefuse (s : State) (c : Nat) : State :=
  (s.setFld R.auxStat F.auxStat.CFG_ERR 1).setFld R.auxStat F.auxStat.CFG_CAUSE c

/-! ## Conversions and sequences (R261-R268) -/

/-- Source k runs now (R254). -/
def State.excRuns (s : State) (k : Nat) : Bool :=
  !(excOff (s.excMode k)) && (s.fld (R.auxExcCfg k) F.auxExcCfg.PULSED == 0 ||
    (match s.aux.conv with
     | some c => (F.auxRegCfg.EXC.get c.cfg).testBit k || (F.auxRegCfg.REF.get c.cfg == 2 && F.auxRegCfg.REXC.get c.cfg == k)
     | none => false))

/-- EXC_STAT.ON follows the sources. -/
def State.refreshExc (s : State) : State :=
  s.setFld R.auxExcStat F.auxExcStat.ON (planeMask ((List.range 4).filter (fun k => s.excRuns k)))

/-- The streaming sequence of R262. -/
def State.auxStreams (s : State) : Bool :=
  s.auxLen false == 0 && s.fld R.auxRegCtl F.auxRegCtl.MODE == 0 && s.fld (R.auxRegCfg 0) F.auxRegCfg.OW_EN == 0

/-- A conversion of an entry starts with a copy of its words (R259). (DEDUCED: notes/assumptions/34.) -/
def State.convStart (s : State) (inj : Bool) (e : Nat) : State :=
  let c : Conv :=
    { inj := inj, entry := e, cfg := s.reg (auxEntryReg inj e 0), time := s.reg (auxEntryReg inj e 1)
      lin := s.reg (auxEntryReg inj e 2), kref := s.reg (auxEntryReg inj e 3)
      stream := !inj && s.auxStreams, clamps := s.aux.clamping }
  let s1 := ({ s with aux := { s.aux with conv := some c } }).refreshExc
  let s2 := { s1 with aux := { s1.aux with conv := some { c with
    excFault := planeMask ((setBits s1.aux.excFault 4).filter (fun k => s1.excRuns k)) } } }
  (s2.setFld R.auxStat F.auxStat.STATE (if inj then 2 else 1)).setFld R.auxStat F.auxStat.ENTRY e

/-- No conversion, and the given state. -/
def State.convEnd (s : State) (st : Nat) : State :=
  (({ s with aux := { s.aux with conv := none } }).setFld R.auxStat F.auxStat.STATE st).refreshExc

/-- What follows the injected sequence with nothing pending (R266, R268). -/
def State.afterInjected (s : State) : State :=
  match s.aux.remembered with
  | some e => ({ s with aux := { s.aux with remembered := none } }).convStart false e
  | none =>
    if s.bit R.auxStat F.auxStat.HELD then (s.setFld R.auxStat F.auxStat.HELD 0).convStart false 0
    else if s.auxEn false && s.fld R.auxRegCtl F.auxRegCtl.MODE == 0 then s.convStart false 0
    else s.convEnd 0

/-- The sequence moves on after a result (R265-R268). -/
def State.auxAdvance (s : State) (c : Conv) : State :=
  if c.inj then
    if c.entry < s.auxLen true then s.convStart true (c.entry + 1)
    else
      let s1 := s.fire 195
      if s1.bit R.auxStat F.auxStat.PEND then (s1.setFld R.auxStat F.auxStat.PEND 0).convStart true 0
      else s1.afterInjected
  else if c.entry < s.auxLen false then s.convStart false (c.entry + 1)
  else
    let s1 := s.fire 193
    if s1.fld R.auxRegCtl F.auxRegCtl.MODE = 1 then s1.convEnd 0
    else if c.stream then { s1 with aux := { s1.aux with conv := some { c with since := c.since + 1, clamps := s1.aux.clamping } } }
    else s1.convStart false 0

/-- A write of REG_CTL or INJ_CTL (R260, R268). -/
def State.auxCtlWrite (s : State) (path : Path) (inj : Bool) (w : Word) : State :=
  let off := if inj then R.auxInjCtl else R.auxRegCtl
  let was := s.auxEn inj
  let s1 := s.writeRow path off (if inj then Row.auxInjCtl else Row.auxRegCtl) w (!s.auxIdle)
  if w.getLsbD 0 && !was then
    let c := s1.auxSeqCause inj
    if c ≠ 0 then (s1.setFld off ⟨0, 1⟩ 0).auxRefuse c
    else if inj then s1
    else
      let s2 := { s1 with aux := { s1.aux with fresh := [] } }
      if s2.auxState = 0 ∧ s2.fld R.auxRegCtl F.auxRegCtl.MODE = 0 then s2.convStart false 0 else s2
  else if !(w.getLsbD 0) && was then
    if inj then
      let s2 := s1.setFld R.auxStat F.auxStat.PEND 0
      if s2.auxState = 2 then ({ s2 with aux := { s2.aux with conv := none } }).afterInjected else s2
    else if s1.auxState = 1 then s1.convEnd 0
    else (({ s1 with aux := { s1.aux with remembered := none } }).setFld R.auxStat F.auxStat.HELD 0)
  else s1

/-- A regular trigger (R263, R268). -/
def State.auxRegTrigger (s : State) : State :=
  if !(s.auxEn false && s.fld R.auxRegCtl F.auxRegCtl.MODE == 1 && s.selOn R.auxRegTrigSel) then s
  else if s.auxState = 1 ∨ s.aux.remembered.isSome then s.count R.auxSkipCnt
  else if s.auxState = 2 then s.setFld R.auxStat F.auxStat.HELD 1
  else if s.auxState = 0 then s.convStart false 0
  else s

/-- An injected trigger (R264, R265). -/
def State.auxInjTrigger (s : State) : State :=
  if !(s.auxEn true && s.selOn R.auxInjTrigSel) then s
  else if s.auxState = 2 then
    if s.bit R.auxStat F.auxStat.PEND then ((s.count R.auxOvrCnt).setFld R.auxStat F.auxStat.OVERRUN 1).fire 196
    else s.setFld R.auxStat F.auxStat.PEND 1
  else if s.auxState = 1 then
    ({ s with aux := { s.aux with remembered := s.aux.conv.map (fun (c : Conv) => c.entry) } }).convStart true 0
  else if s.auxState = 0 then s.convStart true 0
  else s

/-! ## The value of a conversion (R253, R258, R280-R284) -/

/-- The voltage of an input code in picovolts; `pin` where the code names a pin or VDDA18 / 4 (Table 8-1). -/
def State.nodeVolt (s : State) (code : Nat) (pin : Int) : Int :=
  if code = 24 then 0
  else if code = 25 then ((s.fld R.vafTdac F.vafTdac.CODE * 1000000000000 / 1024 : Nat) : Int)
  else if code = 26 then 900000000000
  else pin

/-- Nominal resistance times 1000 of an RTD at t / 32 degree Celsius, relative to Rnom = 1 ohm (R281). -/
def rtdMilli (t32 : Int) : Rat :=
  let t : Rat := (t32 : Rat) / 32
  let a : Rat := 39083 / 10000000
  let b : Rat := -5775 / 10000000000
  let c : Rat := -4183 / 1000000000000000
  1000 * (1 + a * t + b * t * t + (if t < 0 then c * (t - 100) * t * t * t else 0))

/-- Ranges of the curves in 1/16 degree Celsius (Table 8-5). -/
def curveRange (c : Nat) : Int × Int :=
  match c with
  | 0x10 => (-210 * 16, 1200 * 16)
  | 0x11 => (-270 * 16, 1372 * 16)
  | 0x12 => (-270 * 16, 1300 * 16)
  | 0x13 => (-270 * 16, 400 * 16)
  | 0x14 => (-270 * 16, 1000 * 16)
  | 0x15 => (-50 * 16, 1768 * 16)
  | 0x16 => (-50 * 16, 1768 * 16)
  | 0x17 => (250 * 16, 1820 * 16)
  | _ => (-200 * 16, 850 * 16)

/-- The least t in [lo, hi] with `up t`, by halving; hi when there is none. -/
def searchUp (up : Int → Bool) : Nat → Int → Int → Int
  | 0, lo, _ => lo
  | n + 1, lo, hi => if lo < hi then (let m := (lo + hi) / 2; if up m then searchUp up n lo m else searchUp up n (m + 1) hi) else lo

/-- A rising curve f over 1/32 degrees solved for a target: the nearest 1/16 degree, and whether the target lies outside
(R281, R284). (DESIGN CHOICE: notes/assumptions/23.) -/
def solveCurve (f : Int → Rat) (range : Int × Int) (target : Rat) : Int × Bool :=
  if target < f (2 * range.1) then (range.1, true)
  else if f (2 * range.2) < target then (range.2, true)
  else (searchUp (fun t => decide (target ≤ f (2 * t + 1))) 20 range.1 range.2, false)

/-- The output of a user table (R283, R284). -/
def State.userCurve (s : State) (t : Nat) (v : Int) : Int × Bool :=
  let n := s.utN t
  if v < s.utX t 0 then (s.utY t 0, true)
  else if s.utX t (n - 1) < v then (s.utY t (n - 1), true)
  else
    let k := ((List.range (n - 1)).find? (fun k => decide (v ≤ s.utX t (k + 1)))).getD 0
    let dx := s.utX t (k + 1) - s.utX t k
    (s.utY t k + roundDiv ((s.utY t (k + 1) - s.utY t k) * (v - s.utX t k)) dx.toNat, false)

/-- The cold-junction temperature and whether it is bad (R282). -/
def State.coldJunction (s : State) (c : Conv) : Int × Bool :=
  let e := F.auxRegLin.CJ_ENTRY.get c.lin
  let range := curveRange (F.auxRegLin.CURVE.get c.lin)
  let (t, bad) : Int × Bool :=
    if F.auxRegLin.CJ_MODE.get c.lin = 1 then
      (signed 32 (s.reg (R.auxRegSlotValue e)).toNat,
        !(s.aux.fresh.contains e) || s.fld (R.auxRegSlotStatus e) F.auxRegSlotStatus.VALID == 0)
    else (signed 16 (s.fld R.auxCjFix F.auxCjFix.T), false)
  (t, bad || decide (t < range.1 ∨ range.2 < t))

/-- A conversion's value, its OVR, CRANGE and CJ flags, and the state after the free values of results that the spec leaves
open: a vanishing reference, and a value outside 32 bits. -/
def State.auxValue (s : State) (c : Conv) (x : AuxInput) : Int × Bool × Bool × Bool × State :=
  let g := F.auxRegCfg.GAIN.get c.cfg
  let ref := F.auxRegCfg.REF.get c.cfg
  let out := F.auxRegCfg.OUT.get c.cfg
  let vd := s.nodeVolt (F.auxRegCfg.AINP.get c.cfg) x.vp - s.nodeVolt (F.auxRegCfg.AINN.get c.cfg) x.vn
  let vr : Int := if ref = 0 then 1250000000000
    else if ref = 1 then s.nodeVolt (F.auxRegLin.REFP.get c.lin) x.rp - s.nodeVolt (F.auxRegLin.REFN.get c.lin) x.rn else x.rp
  let (code, s1) : Int × State := if vr = 0 then let (v, t) := s.free; (signed 24 v, t)
    else (ratRound (((2 ^ (23 + g) : Nat) : Rat) * ((vd : Int) : Rat) / ((vr : Int) : Rat)), s)
  let ovr := x.overload || decide (8388607 < code ∨ code < -8388608)
  let code' := clampInt (-8388608) 8388607 code
  let o : Int := if F.auxRegCfg.CHOP.get c.cfg = 1 then 0 else signed 16 (s.fld (R.auxCalOfs g) F.auxCalOfs.OFS)
  let gc := signed 16 (s.fld (R.auxCalGain g) F.auxCalGain.GC)
  let cc := clampInt (-8388608) 8388607 (roundDiv ((code' - o) * (16777216 + gc)) 16777216)
  let k : Int := if ref = 0 then 1250000 else (c.kref.toNat : Nat)
  let sv := roundDiv (cc * k) (2 ^ (23 + g))
  let curve := F.auxRegLin.CURVE.get c.lin
  let (v, cr, cj) : Int × Bool × Bool :=
    if out = 0 then (cc, false, false)
    else if out = 1 then (sv, false, false)
    else if isThermo curve then
      let (tcj, bad) := s.coldJunction c
      let target : Rat := ((sv * 1000000 + Config.emf curve (2 * tcj) : Int) : Rat)
      let r := solveCurve (fun t => ((Config.emf curve t : Int) : Rat)) (curveRange curve) target
      (r.1, r.2, bad)
    else if 0x20 ≤ curve then
      let r := s.userCurve (curve - 0x20) sv
      (r.1, r.2, false)
    else
      let nom : Rat := if curve = 1 then 100 else if curve = 2 then 500 else 1000
      let r := solveCurve (fun t => nom * rtdMilli t) (curveRange curve) ((sv : Int) : Rat)
      (r.1, r.2, false)
  if v < -(2 ^ 31 : Nat) ∨ ((2 ^ 31 : Nat) : Int) ≤ v then
    let (f, t) := s1.free
    (signed 32 f, ovr, cr, cj, t)
  else (v, ovr, cr, cj, s1)

/-- Filter outputs of one settled result (R257). -/
def Conv.outputs (c : Conv) : Nat :=
  let order := F.auxRegCfg.ORDER.get c.cfg
  3 + order + F.auxRegCfg.CHOP.get c.cfg + F.auxRegTime.NOTCH.get c.time

/-- A conversion delivers its result (R269-R271); `tmo` when it timed out. -/
def State.auxDeliver (s : State) (c : Conv) (x : AuxInput) (tmo : Bool) : State :=
  let (v, ovr, cr, cj, s1) := s.auxValue c x
  let thr := atLeastOne (s.fld R.auxOw F.auxOw.THR)
  let isOpen := !tmo && F.auxRegCfg.OW_EN.get c.cfg == 1 && (ovr || decide (thr * 1000 < x.dOpen))
  let pins := [F.auxRegCfg.AINP.get c.cfg, F.auxRegCfg.AINN.get c.cfg] ++
    (if F.auxRegCfg.REF.get c.cfg = 1 then [F.auxRegLin.REFP.get c.lin, F.auxRegLin.REFN.get c.lin] else [])
  let clamp := pins.any (fun p => decide (p < 24) && (c.clamps ||| s.aux.clamping).testBit p)
  let settle := c.stream && decide (c.since + 1 < c.outputs)
  let bits := [settle, isOpen, clamp, ovr, tmo, c.excFault != 0, cr, cj]
  let flags := (List.range 8).foldl (fun m i => if (bits[i]?).getD false then m + 2 ^ i else m) 0
  let vOff := if c.inj then R.auxInjSlotValue c.entry else R.auxRegSlotValue c.entry
  let sOff := if c.inj then R.auxInjSlotStatus c.entry else R.auxRegSlotStatus c.entry
  let tLo := if c.inj then R.auxInjSlotTsLo c.entry else R.auxRegSlotTsLo c.entry
  let tHi := if c.inj then R.auxInjSlotTsHi c.entry else R.auxRegSlotTsHi c.entry
  let seq := (s1.fld sOff F.auxRegSlotStatus.SEQ + 1) % 256
  let status := (if flags = 0 then 1 else 0) + flags * 2 + c.entry * 2 ^ 16 + (if c.inj then 2 ^ 21 else 0) + seq * 2 ^ 24
  let s2 := (s1.setReg vOff (BitVec.ofNat 32 (unsigned 32 v))).setReg sOff (BitVec.ofNat 32 status)
  let s3 := (s2.setReg64 tLo tHi s2.sys.time.toNat).fire (if c.inj then 194 else 192)
  let s4 := if isOpen then (s3.setFld (if c.inj then R.auxOpenInj else R.auxOpenReg) ⟨c.entry, 1⟩ 1).fire 197 else s3
  let s5 := if tmo then ((s4.count R.auxTmoCnt).setFld R.auxStat F.auxStat.TMO 1).fire 199 else s4
  let s6 := if c.inj then s5
    else ({ s5 with aux := { s5.aux with fresh := addSorted s5.aux.fresh c.entry } }).tempResult c.entry v (flags == 0)
  let s7 := { s6 with work := s6.work ++ [Work.auxResult (c.entry + (if c.inj then 32 else 0))] }
  s7.auxAdvance c

/-! ## Commands -/

/-- A write of a word of an entry (R260, R274). -/
def State.auxEntryWrite (s : State) (path : Path) (inj : Bool) (e word : Nat) (w : Word) : State :=
  let off := auxEntryReg inj e word
  let s1 := s.writeRow path off (auxEntryRow word) w false
  let c := s1.auxCause inj e (s1.reg (auxEntryReg inj e 0)) (s1.reg (auxEntryReg inj e 2))
  if s.auxEn inj && decide (e ≤ s.auxLen inj) && c != 0 then s.auxRefuse c
  else match s1.aux.conv with
    | some k => if k.stream && !inj && e == 0 then s1.convStart false 0 else s1
    | none => s1

/-- A write of CAL_CTL: START = 1 starts the self-calibration while both sequences are disabled (R285). -/
def State.auxCalWrite (s : State) (path : Path) (w : Word) : State :=
  let s1 := s.writeRow path R.auxCalCtl Row.auxCalCtl w false
  if !(w.getLsbD 0) then s1
  else if s1.auxIdle then (s1.setFld R.auxCalCtl F.auxCalCtl.BUSY 1).setFld R.auxStat F.auxStat.STATE 3
  else s1.errIdle path R.auxCalCtl

/-- The self-calibration ends with its measured corrections, by gain (R285). -/
def State.auxCalEnd (s : State) (ofs gain : List Int) : State :=
  if s.auxState ≠ 3 then s
  else
    let lim (v : Int) : Int := clampInt (-32768) 32767 v
    let s1 := s.forEach 8 (fun g t =>
      (t.setFld (R.auxCalOfs g) F.auxCalOfs.OFS (unsigned 16 (lim ((ofs[g]?).getD 0)))).setFld (R.auxCalGain g) F.auxCalGain.GC
        (unsigned 16 (lim ((gain[g]?).getD 0))))
    let low := (List.range 8).any (fun g => outside16 ((ofs[g]?).getD 0) || outside16 ((gain[g]?).getD 0))
    let r := if low then St.calQualityLow else St.success
    let s2 := ((s1.setFld R.auxCalCtl F.auxCalCtl.BUSY 0).setFld R.auxCalCtl F.auxCalCtl.DONE 1).setFld R.auxCalCtl F.auxCalCtl.RESULT r
    let s3 := ((s2.setFld R.auxCalStat F.auxCalStat.VALID 1).setFld R.auxStat F.auxStat.STATE 0).fire 206
    { s3 with work := s3.work ++ [Work.auxDone r] }
where
  outside16 (v : Int) : Bool := decide (v < -32768 ∨ 32767 < v)

/-! ## Waveform channels (R287-R292) -/

/-- The state of a waveform channel. -/
def State.wf (s : State) (c : Nat) : Wf := Table.get (fun _ => {}) s.wfs c
def State.setWf (s : State) (c : Nat) (x : Wf) : State := { s with wfs := Table.set (fun _ => {}) s.wfs c x }

def State.wfState (s : State) (c : Nat) : Nat := s.fld (R.wfStat c) F.wfStat.STATE

/-- Base address of a channel's ring, and its samples. -/
def State.wfBase (s : State) (c : Nat) : Nat := s.reg64 (R.wfBaseLo c) (R.wfBaseHi c) % 2 ^ 40
def State.wfRing (s : State) (c : Nat) : Nat := 32 * s.fld (R.wfSize c) F.wfSize.SIZE

/-- The channel may not be enabled (R292). -/
def State.wfRefused (s : State) (c : Nat) : Bool :=
  let base := s.wfBase c
  let bytes := 2 * s.wfRing c
  let inSram := decide (base + bytes ≤ 0x1D80000)
  let inPage := decide (pageBase ≤ base ∧ base + bytes ≤ systemArea)
  !(s.pdOn 126) || (s.bit (R.wfCfg c) F.wfCfg.MODE && s.reg (R.wfPitch c) == 0) || bytes == 0 || base % 64 != 0 || !(inSram || inPage)

/-- The capture ends (R291). -/
def State.wfEnd (s : State) (c : Nat) : State :=
  if s.wfState c ≠ 2 then s
  else ((((s.fire (204 + c)).fire (200 + c)).count (R.wfCaps c)).setFld (R.wfStat c) F.wfStat.STATE 1).setWf c {}

/-- A write of WFc_CFG (R291, R292). -/
def State.wfCfgWrite (s : State) (path : Path) (c : Nat) (w : Word) : State :=
  let was := s.bit (R.wfCfg c) F.wfCfg.EN
  let s1 := s.writeRow path (R.wfCfg c) Row.wfCfg w was
  if w.getLsbD 0 && !was then
    if s1.wfRefused c then (s1.setFld (R.wfCfg c) F.wfCfg.EN 0).setFld (R.wfStat c) F.wfStat.CFG_ERR 1
    else ((s1.setReg (R.wfWr c) 0).setFld (R.wfStat c) F.wfStat.STATE 1).setWf c {}
  else if !(w.getLsbD 0) && was then (s1.wfEnd c).setFld (R.wfStat c) F.wfStat.STATE 0
  else s1

/-- An output sample is written to the ring, or ends the capture when the ring is full (R290, R291). -/
def State.wfWrite (s : State) (c : Nat) (v : Int) : State :=
  let wr := s.reg (R.wfWr c)
  let n := s.wfRing c
  if (wr - s.reg (R.wfRd c)).toNat = n then
    ((s.setFld (R.wfStat c) F.wfStat.OVF 1).fire (202 + c)).wfEnd c
  else
    let a := s.wfBase c + 2 * (wr.toNat % n)
    let s1 := if s.memOk a then s.memWrite a (bytesLE 2 (unsigned 16 v)) else s
    let s2 := s1.setReg (R.wfWr c) (wr + 1)
    let k := (wr + 1 - s.reg (R.wfMark c)).toNat
    let s3 := if k % atLeastOne (s.fld (R.wfBlk c) F.wfBlk.BLK) = 0 then s2.fire (200 + c) else s2
    let max := (s.reg (R.wfMax c)).toNat
    if max ≠ 0 ∧ max ≤ k then s3.wfEnd c else s3

/-- A raw sample of the differential input in picovolts, taken at position p (R287, R289). (DEDUCED: notes/assumptions/35.) -/
def State.wfRaw (s : State) (c : Nat) (vd p : Int) : State :=
  if s.wfState c ≠ 2 then s
  else
    let g := min 10 (s.fld (R.wfCfg c) F.wfCfg.GAIN)
    let code := clampInt (-2048) 2047 (ratRound (((2048 * 2 ^ g : Nat) : Rat) * ((vd : Int) : Rat) / 500000000000))
    let s1 := if code = -2048 ∨ code = 2047 then s.setFld (R.wfStat c) F.wfStat.CLIP 1 else s
    let x := s1.wf c
    if s.bit (R.wfCfg c) F.wfCfg.MODE then
      let used := match x.top with | some t => decide (t < p) | none => decide (x.start < p)
      if used then (s1.setFld (R.wfStat c) F.wfStat.REV 0).setWf c { x with raws := x.raws ++ [(p, code)], top := some p }
      else s1.setFld (R.wfStat c) F.wfStat.REV 1
    else s1.setWf c { x with raws := x.raws ++ [(p, code)] }

/-- P_j of a position-locked capture (R288). -/
def State.wfPoint (s : State) (c j : Nat) : Int :=
  signed 64 (s.reg64 (R.wfPos0Lo c) (R.wfPos0Hi c)) + (j * (s.reg (R.wfPitch c)).toNat : Nat)

/-- The output sample that is due, with the raw samples left after it; none when it cannot be formed yet (R288). -/
def State.wfNext (s : State) (c : Nat) : Option (Int × List (Int × Int)) :=
  let x := s.wf c
  if !(s.bit (R.wfCfg c) F.wfCfg.MODE) then
    match x.raws with
    | [] => none
    | e :: r => some (e.2, r)
  else
    let pj := s.wfPoint c x.j
    let prev := if x.j = 0 then x.start else s.wfPoint c (x.j - 1)
    let inside := x.raws.filter (fun e => decide (prev < e.1 ∧ e.1 ≤ pj))
    let before := (x.raws.filter (fun e => decide (e.1 ≤ pj))).getLast?
    let after := x.raws.find? (fun e => decide (pj < e.1))
    if s.position (s.fld (R.wfCfg c) F.wfCfg.PSRC) ≤ pj then none
    else
      let keep := before.toList ++ x.raws.filter (fun e => decide (pj < e.1))
      if inside.isEmpty then
        match before, after with
        | some a, some b =>
          some (ratRound ((a.2 : Rat) + ((b.2 - a.2 : Int) : Rat) * ((pj - a.1 : Int) : Rat) / ((b.1 - a.1 : Int) : Rat)), keep)
        | _, _ => none
      else some (roundDiv (inside.foldl (fun t e => t + e.2) 0) inside.length, keep)

end Sys2Proof.Machine
end

