-- ==== Sys2Proof/Machine/Tandem.lean ====
section
/-!
DEFINITION. Sys2Proof/Machine/Tandem.lean: Tandem code as functions of a stream context (R294-R313): the parameters, the
bit string and its markers, the coder, the decoder and the context record. How the bytes reach the host is HQE's.
-/
namespace Sys2Proof.Machine

/-! ## Parameters (R296, R297) -/

/-- sigma of Table 9-1. -/
def tandemSigma (depth : Nat) : Nat := 2 ^ (depth - 12)

/-- A threshold of Table 9-1 given as 0 takes its default. -/
def tandemThr (near depth : Nat) (given : List Nat) : List Nat :=
  (List.range 5).map (fun i =>
    let t := given.getD i 0
    if t = 0 then [3, 7, 21, 63, 180].getD i 0 * tandemSigma depth + (i + 1) * near else t)

/-- The defaults of R296 put in place of the fields given as 0. -/
def Stream.withDefaults (t : Stream) : Stream :=
  let d := if t.depth = 0 then 12 else t.depth
  { t with
    depth := d
    reset := if t.reset = 0 then 64 else t.reset
    thr := tandemThr t.near d t.thr
    act1 := if t.act1 = 0 then 16 * tandemSigma d else t.act1
    act2 := if t.act2 = 0 then 96 * tandemSigma d else t.act2 }

/-- PRED, REF, W and the source plane of slot j. -/
def Stream.slot (t : Stream) (j : Nat) : Nat := t.slots.getD j 0
def Stream.pred (t : Stream) (j : Nat) : Nat := bitsOf (t.slot j) 7 1
def Stream.ref (t : Stream) (j : Nat) : Nat := bitsOf (t.slot j) 4 3
def Stream.wgt (t : Stream) (j : Nat) : Nat := bitsOf (t.slot j) 0 3
def Stream.src (t : Stream) (j : Nat) : Nat := bitsOf (t.slot j) 8 8

/-- The ranges and conditions of Table 9-1, on the values in use; ROW_BASE is checked with `row`. -/
def Stream.paramsOk (t : Stream) (row : Bool) : Bool :=
  let thrs := t.near :: t.thr
  decide (t.mode ≤ 2) &&
  (if t.mode = 2 then decide (1 ≤ t.near ∧ t.near ≤ 15) else t.near == 0) &&
  decide (8 ≤ t.depth ∧ t.depth ≤ 16 ∧ t.inshift ≤ 8 ∧ t.depth + t.inshift ≤ 16) &&
  decide (1 ≤ t.npl ∧ t.npl ≤ 8) &&
  decide (1 ≤ t.width ∧ t.width ≤ 65535 ∧ t.x0 + t.width ≤ 65536) &&
  decide (t.rstInt ≤ 65535 ∧ 4 ≤ t.reset ∧ t.reset ≤ 255) &&
  (List.range 5).all (fun i => decide (thrs.getD i 0 < thrs.getD (i + 1) 0)) && decide (t.thr.getD 4 0 ≤ 65535) &&
  decide (t.act1 < t.act2 ∧ t.act2 ≤ 65535) &&
  (!t.trkEn || t.rstDoc) && decide (t.trk ≤ 3) &&
  (List.range t.npl).all (fun j =>
    if t.pred j = 1 then decide (t.ref j < j ∧ t.wgt j ≤ 4) else t.ref j == 0 && t.wgt j == 0) &&
  (List.range 8).all (fun j => decide (j < t.npl) || t.slot j == 0) &&
  (List.range t.npl).all (fun j => bitsOf (t.slot j) 3 1 == 0) &&
  (!row || (decide (0x100000000 ≤ t.rowBase ∧ t.rowBase + t.width * 2 * t.npl ≤ systemArea) && t.rowBase % 64 == 0))

/-- MAXVAL, RANGE, qbpp, LIMIT and A0 of Table 9-2. -/
def Stream.maxval (t : Stream) : Nat := 2 ^ t.depth - 1
def Stream.range (t : Stream) : Nat := (t.maxval + 2 * t.near) / (2 * t.near + 1) + 1
def Stream.qbpp (t : Stream) : Nat := (List.range 18).findIdx (fun n => decide (t.range ≤ 2 ^ n))
def Stream.limit (t : Stream) : Nat := 2 * (t.depth + max 8 t.depth)
def Stream.a0 (t : Stream) : Nat := max 2 ((t.range + 32) / 64)

/-- J of Table 9-2. -/
def tandemJ (i : Nat) : Nat :=
  [0, 0, 0, 1, 1, 1, 2, 2, 2, 3, 3, 3, 4, 4, 5, 5, 6, 6, 7, 7, 8, 8, 9, 9, 10, 10, 11, 11, 12, 13, 14, 15].getD i 0

/-- The statistics at the start (R305, R307). -/
def Stream.initReg (t : Stream) : Nat → RegCtx := fun _ => { a := t.a0, n := 1, b := 0, c := 0 }
def Stream.initRun (t : Stream) : Nat → RunCtx := fun _ => { a := t.a0, n := 1, nn := 0 }

/-- The context with its statistics and run indices as at the start. -/
def Stream.initStats (t : Stream) : Stream := { t with reg := [], run := [], ri := List.replicate 8 0 }

/-! ## The bit string (R298, R303) -/

/-- What the coder of one row carries along: pending bits, bytes handed over (newest first), statistics, run index, escapes. -/
structure Coder where
  pend : Nat
  pendN : Nat
  out : List Byte := []
  reg : Table RegCtx
  run : Table RunCtx
  ri : Nat := 0
  esc : Nat := 0
  deriving DecidableEq, Repr

/-- A byte of the bit string handed over, with its stuffing, onto a list of bytes with the newest first (R298). -/
def stuffOne (out : List Byte) (b : Nat) : List Byte :=
  if b = 0xFF then 0 :: 0xFF :: out else BitVec.ofNat 8 b :: out

/-- The top 32 bits of `v`, `n` bits long, as four stuffed bytes. -/
def stuffWord (out : List Byte) (v n : Nat) : List Byte :=
  [n - 8, n - 16, n - 24, n - 32].foldl (fun o i => stuffOne o (bitsOf v i 8)) out

/-- put(v, n): every complete 32 bits are handed over (R303). -/
def Coder.put (k : Coder) (v n : Nat) : Coder :=
  let all := k.pend * 2 ^ n + v % 2 ^ n
  let cnt := k.pendN + n
  if cnt < 32 then { k with pend := all, pendN := cnt }
  else if cnt < 64 then { k with out := stuffWord k.out all cnt, pend := all % 2 ^ (cnt - 32), pendN := cnt - 32 }
  else
    { k with out := stuffWord (stuffWord k.out all cnt) all (cnt - 32), pend := all % 2 ^ (cnt - 64), pendN := cnt - 64 }

/-- The pending bits padded with zeros to a byte boundary, all of them as stuffed bytes (R299, R303). -/
def flushBits (pend pendN : Nat) : List Byte :=
  let n := (pendN + 7) / 8
  let v := pend * 2 ^ (8 * n - pendN)
  ((List.range n).foldl (fun o i => stuffOne o (bitsOf v (8 * (n - 1 - i)) 8)) []).reverse

/-- Golomb code of R309. -/
def Coder.golomb (k : Coder) (t : Stream) (v kk lim : Nat) : Coder :=
  let u := v >>> kk
  if u < lim - t.qbpp - 1 then ((k.put 0 u).put 1 1).put v kk
  else { ((k.put 0 (lim - t.qbpp - 1)).put 1 1).put (v - 1) t.qbpp with esc := k.esc + 1 }

/-! ## Coding samples (R304, R308-R310) -/

/-- clamp of R308. -/
def Stream.clamp (t : Stream) (v : Int) : Nat := (min (max v 0) (t.maxval : Int)).toNat

/-- med of R308. -/
def med (a b c : Int) : Int :=
  if max a b ≤ c then min a b else if c ≤ min a b then max a b else a + b - c

/-- quant of R308. -/
def Stream.quant (t : Stream) (g : Int) : Int :=
  let T (i : Nat) : Int := (t.thr.getD i 0 : Nat)
  if g ≤ -(T 4) then -6 else if g ≤ -(T 3) then -5 else if g ≤ -(T 2) then -4 else if g ≤ -(T 1) then -3
  else if g ≤ -(T 0) then -2 else if g < -(t.near : Int) then -1 else if g ≤ t.near then 0
  else if g < T 0 then 1 else if g < T 1 then 2 else if g < T 2 then 3 else if g < T 3 then 4
  else if g < T 4 then 5 else 6

/-- The neighbours of a sample (R304), with those of the reference slot when PRED = 1. -/
structure Nb where
  a : Int
  b : Int
  c : Int
  xr : Int := 0
  ar : Int := 0
  br : Int := 0
  cr : Int := 0
  deriving DecidableEq, Repr

/-- A coded row of a slot as the next slots see it: its values, the row above, the c of x = 0, and its slot's descriptor. -/
structure RowView where
  cur : List Nat
  above : List Nat
  c0 : Nat
  deriving DecidableEq, Repr

/-- b, and c, at x of a row above (R304). -/
def aboveAt (above : List Nat) (x : Nat) : Int := (above.getD x 0 : Nat)
def cAt (above : List Nat) (c0 x : Nat) : Int := if x = 0 then (c0 : Int) else aboveAt above (x - 1)

/-- The neighbours at x, with `left` the reconstructed sample at x - 1. -/
def nbAt (above : List Nat) (c0 left x : Nat) (ref : Option RowView) : Nb :=
  let b := aboveAt above x
  let base : Nb := { a := if x = 0 then b else (left : Int), b := b, c := cAt above c0 x }
  match ref with
  | none => base
  | some r =>
    let br := aboveAt r.above x
    { base with
      xr := (r.cur.getD x 0 : Nat), br := br, cr := cAt r.above r.c0 x,
      ar := if x = 0 then br else ((r.cur.getD (x - 1) 0 : Nat) : Int) }

/-- Context of a sample: the quantised gradients and r, or none where run mode applies (R308). -/
def Stream.context (t : Stream) (nb : Nb) (ref : Bool) : Option (Int × Nat) :=
  let q1 := t.quant (nb.b - nb.c)
  let q2 := t.quant (nb.c - nb.a)
  let act := (nb.xr - nb.ar).natAbs + (nb.xr - nb.br).natAbs
  let r := if !ref then 0 else if act ≤ t.act1 then 0 else if act ≤ t.act2 then 1 else 2
  if t.runEn && q1 == 0 && q2 == 0 && r == 0 then none
  else
    let neg := decide (q1 < 0 ∨ (q1 = 0 ∧ q2 < 0))
    let p1 := if neg then -q1 else q1
    let p2 := if neg then -q2 else q2
    let g := if p1 = 0 then p2 else 7 + 13 * (p1 - 1) + (p2 + 6)
    some (if neg then -1 else 1, 85 * r + g.toNat)

/-- The predictor px of R308, with the bias of its context applied. -/
def Stream.predict (t : Stream) (nb : Nb) (ref : Bool) (w : Nat) (sign : Int) (c : Int) : Int :=
  let p0 := med nb.a nb.b nb.c
  let p1 : Int := if ref then (t.clamp (p0 + floorDiv ((nb.xr - med nb.ar nb.br nb.cr) * w + 2) 4) : Nat) else p0
  (t.clamp (p1 + sign * c) : Nat)

/-- Near quantisation of an error (R308). -/
def Stream.quantErr (t : Stream) (e : Int) : Int :=
  let d : Int := (2 * t.near + 1 : Nat)
  if t.near = 0 then e
  else if 0 < e then Int.tdiv (t.near + e) d else -(Int.tdiv (t.near - e) d)

/-- Modulo reduction of an error (R308). -/
def Stream.reduceErr (t : Stream) (e : Int) : Int :=
  let e1 := if e < 0 then e + t.range else e
  if ((t.range + 1) / 2 : Nat) ≤ e1 then e1 - t.range else e1

/-- The least k with a <= n << k, at most 24 (R308, R310). -/
def golombK (n a : Nat) : Nat := (List.range 25).findIdx (fun k => decide (a ≤ n * 2 ^ k))

/-- The update of a regular context with the reduced error (R308). -/
def Stream.updReg (t : Stream) (q : RegCtx) (e : Int) : RegCtx :=
  let a := q.a + e.natAbs
  let b := q.b + e * (2 * t.near + 1 : Nat)
  let h := decide (q.n = t.reset)
  let a1 := if h then a / 2 else a
  let b1 := if h then floorDiv b 2 else b
  let n1 := (if h then q.n / 2 else q.n) + 1
  if b1 ≤ -(n1 : Int) then
    let b2 := b1 + n1
    { a := a1, n := n1, c := if -128 < q.c then q.c - 1 else q.c, b := if b2 ≤ -(n1 : Int) then 1 - (n1 : Int) else b2 }
  else if 0 < b1 then
    let b2 := b1 - n1
    { a := a1, n := n1, c := if q.c < 127 then q.c + 1 else q.c, b := if 0 < b2 then 0 else b2 }
  else { a := a1, n := n1, b := b1, c := q.c }

/-- The special mapping of R308 applies. -/
def Stream.special (t : Stream) (q : RegCtx) (k : Nat) : Bool :=
  t.near == 0 && k == 0 && decide (2 * q.b ≤ -(q.n : Int))

/-- m of R308. -/
def mapErr (special : Bool) (e : Int) : Nat :=
  (if special then (if 0 ≤ e then 2 * e + 1 else -2 * (e + 1)) else (if 0 ≤ e then 2 * e else -2 * e - 1)).toNat

/-- The update of a run-interruption context (R310). -/
def Stream.updRun (t : Stream) (q : RunCtx) (i em : Nat) (e : Int) : RunCtx :=
  let nn := if e < 0 then q.nn + 1 else q.nn
  let a := q.a + (em + 1 - i) / 2
  if q.n = t.reset then { a := a / 2, n := q.n / 2 + 1, nn := nn / 2 } else { a := a, n := q.n + 1, nn := nn }

/-- k of an interruption (R310). -/
def runK (q : RunCtx) (i : Nat) : Nat := golombK q.n (if i = 1 then q.a + q.n / 2 else q.a)

/-- Code the bits of a run of n samples, its full blocks first (R310): the coder, and what is left of n. -/
def Coder.runBlocks : Nat → Coder → Nat → Coder × Nat
  | 0, k, n => (k, n)
  | fuel + 1, k, n =>
    if 2 ^ tandemJ k.ri ≤ n then
      Coder.runBlocks fuel { k.put 1 1 with ri := if k.ri < 31 then k.ri + 1 else k.ri } (n - 2 ^ tandemJ k.ri)
    else (k, n)

/-- Code one sample in regular mode: the coder and the reconstructed value (R308). -/
def Coder.regular (k : Coder) (t : Stream) (nb : Nb) (ref : Bool) (w x : Nat) (sign : Int) (qi : Nat) : Coder × Nat :=
  let q := Table.get t.initReg k.reg qi
  let px := t.predict nb ref w sign q.c
  let e0 := sign * ((x : Int) - px)
  let e1 := t.quantErr e0
  let rec_ := t.clamp (px + sign * e1 * (2 * t.near + 1 : Nat))
  let e := t.reduceErr e1
  let kk := golombK q.n q.a
  let k1 := k.golomb t (mapErr (t.special q kk) e) kk t.limit
  ({ k1 with reg := Table.set t.initReg k1.reg qi (t.updReg q e) }, rec_)

/-- Code the sample that ends a run: the coder and the reconstructed value (R310). -/
def Coder.interrupt (k : Coder) (t : Stream) (a b : Int) (x : Nat) : Coder × Nat :=
  let i := if (a - b).natAbs ≤ t.near then 1 else 0
  let px := if i = 1 then a else b
  let sign : Int := if i = 0 ∧ b < a then -1 else 1
  let e1 := t.quantErr (sign * ((x : Int) - px))
  let rec_ := t.clamp (px + sign * e1 * (2 * t.near + 1 : Nat))
  let e := t.reduceErr e1
  let q := Table.get t.initRun k.run i
  let kk := runK q i
  let map : Nat := if (kk = 0 ∧ 0 < e ∧ 2 * q.nn < q.n) ∨ (e < 0 ∧ q.n ≤ 2 * q.nn) ∨ (e < 0 ∧ kk ≠ 0) then 1 else 0
  let em := 2 * e.natAbs - i - map
  let k1 := k.golomb t em kk (t.limit - tandemJ k.ri - 1)
  ({ k1 with run := Table.set t.initRun k1.run i (t.updRun q i em e), ri := k1.ri - 1 }, rec_)

/-- The samples of a row from x on: the coder and the reconstructed row, newest first (R308, R310). -/
def Coder.samples (t : Stream) (above : List Nat) (c0 w : Nat) (ref : Option RowView) :
    Nat → List Nat → Nat → List Nat → Coder → Coder × List Nat
  | 0, _, _, done, k => (k, done)
  | _, [], _, done, k => (k, done)
  | fuel + 1, v :: rest, x, done, k =>
    let nb := nbAt above c0 (done.headD 0) x ref
    match t.context nb ref.isSome with
    | some (sign, qi) =>
      let r := k.regular t nb ref.isSome w v sign qi
      Coder.samples t above c0 w ref fuel rest (x + 1) (r.2 :: done) r.1
    | none =>
      let near (s : Nat) : Bool := decide (((s : Int) - nb.a).natAbs ≤ t.near)
      let n := ((v :: rest).takeWhile near).length
      let b := k.runBlocks (n + 1) n
      let done1 := List.replicate n nb.a.toNat ++ done
      match (v :: rest).drop n with
      | [] => (if 0 < b.2 then b.1.put 1 1 else b.1, done1)
      | xi :: tail =>
        let k1 := (b.1.put 0 1).put b.2 (tandemJ b.1.ri)
        let r := k1.interrupt t nb.a (aboveAt above (x + n)) xi
        Coder.samples t above c0 w ref fuel tail (x + n + 1) (r.2 :: done1) r.1

/-- One row of slot j: in mode 0 packed raw, else coded. -/
def Coder.row (k : Coder) (t : Stream) (xs above : List Nat) (c0 w : Nat) (ref : Option RowView) : Coder × List Nat :=
  if t.mode = 0 then (xs.foldl (fun kk x => kk.put x t.depth) k, xs)
  else
    let r := Coder.samples t above c0 w ref (xs.length + 1) xs 0 [] k
    (r.1, r.2.reverse)

/-- The bytes whose CRC the end marker holds, for one row (R301). -/
def rowBytes (r : List Nat) : List Byte := r.flatMap (fun v => bytesLE 2 v)

/-- The rows of one line group, slot by slot: the context after it, the bytes handed over, the rows reconstructed, the
escapes written (R294, R308). `above` holds the row above of each slot. -/
def Stream.encodeGroup (t : Stream) (xs above : List (List Nat)) : Stream × List Byte × List (List Nat) × Nat :=
  let c0 (j : Nat) : Nat := if t.sinceRst = 0 then 0 else t.c0.getD j 0
  let view (rows : List (List Nat)) (j : Nat) : RowView :=
    { cur := rows.getD j [], above := above.getD j [], c0 := c0 j }
  let k0 : Coder := { pend := t.pend, pendN := t.pendN, reg := t.reg, run := t.run }
  let r := (List.range t.npl).foldl (fun (a : Coder × List (List Nat) × List Nat) j =>
    let k := { a.1 with ri := t.ri.getD j 0 }
    let o := k.row t (xs.getD j []) (above.getD j []) (c0 j) (t.wgt j)
      (if t.pred j = 1 then some (view a.2.1 (t.ref j)) else none)
    (o.1, a.2.1 ++ [o.2], a.2.2 ++ [o.1.ri])) (k0, [], [])
  let out := r.1.out.reverse
  ({ t with
      pend := r.1.pend, pendN := r.1.pendN, reg := r.1.reg, run := r.1.run
      ri := r.2.2 ++ List.replicate (8 - t.npl) 0
      c0 := (List.range 8).map (fun j => if j < t.npl then (above.getD j []).getD 0 0 else 0)
      lines := t.lines + 1, sinceRst := t.sinceRst + 1
      crc := (r.2.1.flatMap rowBytes).foldl crc32cByte t.crc
      bytes := t.bytes + out.length }, out, r.2.1, r.1.esc)

/-! ## Markers (R299-R306) -/

/-- FLAGS of the segment header. -/
def Stream.hdrFlags (t : Stream) : Nat := t.resetAtRestart.toNat + 2 * t.runEn.toNat + 4 * t.rstDoc.toNat

/-- The segment header of Table 9-4. -/
def Stream.header (t : Stream) : List Byte :=
  [0xFF, 0xE1] ++ bytesBE 2 (30 + 2 * t.npl) ++
  [0x01, BitVec.ofNat 8 t.mode, BitVec.ofNat 8 t.near, BitVec.ofNat 8 t.depth, BitVec.ofNat 8 t.npl,
   BitVec.ofNat 8 t.hdrFlags] ++
  bytesBE 2 t.width ++ bytesBE 2 t.x0 ++ bytesBE 2 t.rstInt ++
  [BitVec.ofNat 8 t.reset, BitVec.ofNat 8 t.inshift] ++
  (List.range 5).flatMap (fun i => bytesBE 2 (t.thr.getD i 0)) ++ bytesBE 2 t.act1 ++ bytesBE 2 t.act2 ++
  (List.range t.npl).flatMap (fun j => bytesLE 2 (t.slot j))

/-- The pending bits padded and handed over before a marker. -/
def Stream.flush (t : Stream) : Stream × List Byte :=
  let b := flushBits t.pend t.pendN
  ({ t with pend := 0, pendN := 0, bytes := t.bytes + b.length }, b)

/-- The segment header written. -/
def Stream.writeHeader (t : Stream) : Stream × List Byte :=
  ({ t with hdr := true, bytes := t.bytes + t.header.length }, t.header)

/-- What a restart does to the context (R305). -/
def Stream.restart (t : Stream) : Stream :=
  let t1 := { t with rstM := (t.rstM + 1) % 8, sinceRst := 0 }
  if t.resetAtRestart then t1.initStats else t1

/-- The next restart marker written. -/
def Stream.writeRestart (t : Stream) : Stream × List Byte :=
  let f := t.flush
  ({ f.1.restart with bytes := f.1.bytes + 2 }, f.2 ++ [0xFF, BitVec.ofNat 8 (0xD0 + t.rstM)])

/-- CRC of the end marker. -/
def Stream.crcOut (t : Stream) : Nat := (t.crc ^^^ 0xFFFFFFFF).toNat

/-- The end marker written. -/
def Stream.writeEnd (t : Stream) : Stream × List Byte :=
  let f := t.flush
  ({ f.1 with bytes := f.1.bytes + 12, finished := true, endCrc := t.crcOut },
   f.2 ++ [0xFF, 0xE9] ++ bytesBE 2 10 ++ bytesBE 4 t.lines ++ bytesBE 4 t.crcOut)

/-- A restart marker is due before the next line group by RST_INT (R305). -/
def Stream.rstDue (t : Stream) : Bool := t.rstInt != 0 && decide (t.rstInt ≤ t.sinceRst)

/-! ## Decoding (R311, R312) -/

/-- Why a decode cannot go on: more input is needed, or an error of Table 9-5 after
`used` more bytes. -/
inductive DecStop where
  | more
  | err (cause : Nat) (used : Nat)
  deriving DecidableEq, Repr

namespace Derr
def header : Nat := 1
def prefix_ : Nat := 2
def marker : Nat := 3
def rstSeq : Nat := 4
def lines : Nat := 5
def crc : Nat := 6
def trunc : Nat := 7
def ecc : Nat := 8
def pad : Nat := 9
end Derr

/-- The input of a decoder: bits read and not consumed, the bytes after them, the bytes consumed. -/
structure Reader where
  pend : Nat
  pendN : Nat
  ff : Bool
  input : List (Option Byte)
  used : Nat := 0
  deriving DecidableEq, Repr

/-- The next byte of the bit string, its stuffing removed (R298, R311). A 0xFF is taken once the byte after it is there. -/
def Reader.load (r : Reader) : Except DecStop Reader :=
  if r.ff then
    match r.input with
    | [] => .error .more
    | none :: _ => .error (.err Derr.ecc r.used)
    | some b :: tl =>
      if b = 0 then
        match tl with
        | [] => .error .more
        | none :: _ => .error (.err Derr.ecc r.used)
        | some 0xFF :: some 0 :: tl' => .ok { r with ff := false, pend := 0xFF, pendN := 8, input := tl', used := r.used + 3 }
        | some 0xFF :: [] => .error .more
        | some 0xFF :: none :: _ => .error (.err Derr.ecc r.used)
        | some 0xFF :: some _ :: _ => .error (.err Derr.marker r.used)
        | some b' :: tl' => .ok { r with ff := false, pend := b'.toNat, pendN := 8, input := tl', used := r.used + 2 }
      else .error (.err Derr.marker r.used)
  else
    match r.input with
    | [] => .error .more
    | none :: _ => .error (.err Derr.ecc r.used)
    | some b :: tl =>
      if b = 0xFF then
        match tl with
        | [] => .error .more
        | none :: _ => .error (.err Derr.ecc r.used)
        | some c :: tl' =>
          if c = 0 then .ok { r with pend := 0xFF, pendN := 8, input := tl', used := r.used + 2 }
          else .error (.err Derr.marker r.used)
      else .ok { r with pend := b.toNat, pendN := 8, input := tl, used := r.used + 1 }

/-- One bit. -/
def Reader.bit (r : Reader) : Except DecStop (Nat × Reader) := do
  let r1 ← if r.pendN = 0 then r.load else .ok r
  .ok (bitsOf r1.pend (r1.pendN - 1) 1, { r1 with pendN := r1.pendN - 1, pend := r1.pend % 2 ^ (r1.pendN - 1) })

/-- n bits, most significant first, onto `acc`. -/
def Reader.bits : Nat → Nat → Reader → Except DecStop (Nat × Reader)
  | 0, acc, r => .ok (acc, r)
  | n + 1, acc, r => do
    let b ← r.bit
    Reader.bits n (2 * acc + b.1) b.2

/-- The zeros before the next 1, at most `max` of them (Table 9-5 cause 2). -/
def Reader.zeros : Nat → Nat → Reader → Except DecStop (Nat × Reader)
  | 0, cnt, r => do
    let b ← r.bit
    if b.1 = 1 then .ok (cnt, b.2) else .error (.err Derr.prefix_ b.2.used)
  | n + 1, cnt, r => do
    let b ← r.bit
    if b.1 = 1 then .ok (cnt, b.2) else Reader.zeros n (cnt + 1) b.2

/-- What the decoder of one row carries along. -/
structure Decoder where
  rd : Reader
  reg : Table RegCtx
  run : Table RunCtx
  ri : Nat := 0
  esc : Nat := 0
  deriving DecidableEq, Repr

/-- A Golomb value (R311). -/
def Decoder.golomb (d : Decoder) (t : Stream) (kk lim : Nat) : Except DecStop (Nat × Decoder) := do
  let z ← Reader.zeros (lim - t.qbpp - 1) 0 d.rd
  if z.1 < lim - t.qbpp - 1 then
    let b ← Reader.bits kk z.1 z.2
    .ok (b.1, { d with rd := b.2 })
  else
    let b ← Reader.bits t.qbpp 0 z.2
    .ok (b.1 + 1, { d with rd := b.2, esc := d.esc + 1 })

/-- The inverse of the regular mapping (R311). -/
def unmapErr (special : Bool) (m : Nat) : Int :=
  if special then (if m % 2 = 1 then ((m - 1) / 2 : Nat) else -((m / 2 : Nat) : Int) - 1)
  else (if m % 2 = 0 then ((m / 2 : Nat) : Int) else -(((m + 1) / 2 : Nat) : Int))

/-- Reconstruction (R311). -/
def Stream.reconstruct (t : Stream) (px sign e : Int) : Nat :=
  let d : Int := (2 * t.near + 1 : Nat)
  let v := px + sign * e * d
  t.clamp (if v < -(t.near : Int) then v + t.range * d
    else if (t.maxval : Int) + t.near < v then v - t.range * d else v)

/-- One sample in regular mode. -/
def Decoder.regular (d : Decoder) (t : Stream) (nb : Nb) (ref : Bool) (w : Nat) (sign : Int) (qi : Nat) :
    Except DecStop (Nat × Decoder) := do
  let q := Table.get t.initReg d.reg qi
  let px := t.predict nb ref w sign q.c
  let kk := golombK q.n q.a
  let g ← d.golomb t kk t.limit
  let e := unmapErr (t.special q kk) g.1
  .ok (t.reconstruct px sign e, { g.2 with reg := Table.set t.initReg g.2.reg qi (t.updReg q e) })

/-- The sample that ends a run. -/
def Decoder.interrupt (d : Decoder) (t : Stream) (a b : Int) : Except DecStop (Nat × Decoder) := do
  let i := if (a - b).natAbs ≤ t.near then 1 else 0
  let px := if i = 1 then a else b
  let sign : Int := if i = 0 ∧ b < a then -1 else 1
  let q := Table.get t.initRun d.run i
  let kk := runK q i
  let g ← d.golomb t kk (t.limit - tandemJ d.ri - 1)
  let tt := g.1 + i
  let map := tt % 2
  let mag : Int := ((tt + map) / 2 : Nat)
  let cond : Nat := if kk = 0 ∧ 2 * q.nn < q.n then 1 else 0
  let e := if map = cond then mag else -mag
  .ok (t.reconstruct px sign e,
    { g.2 with run := Table.set t.initRun g.2.run i (t.updRun q i g.1 e), ri := g.2.ri - 1 })

/-- The blocks of a run with `left` samples left in the line: samples filled, whether the line is complete (R311). -/
def Decoder.runBlocks : Nat → Decoder → Nat → Nat → Except DecStop (Nat × Decoder)
  | 0, d, n, _ => .ok (n, d)
  | fuel + 1, d, n, left => do
    if left = 0 then .ok (n, d)
    else
      let b ← d.rd.bit
      if b.1 = 0 then
        let m ← Reader.bits (tandemJ d.ri) 0 b.2
        .ok (n + min m.1 left, { d with rd := m.2 })
      else
        let full := decide (2 ^ tandemJ d.ri ≤ left)
        let f := if full then 2 ^ tandemJ d.ri else left
        Decoder.runBlocks fuel { d with rd := b.2, ri := if full && decide (d.ri < 31) then d.ri + 1 else d.ri } (n + f) (left - f)

/-- The samples of a row from x on, newest first. -/
def Decoder.samples (t : Stream) (above : List Nat) (c0 w : Nat) (ref : Option RowView) :
    Nat → Nat → List Nat → Decoder → Except DecStop (List Nat × Decoder)
  | 0, _, done, d => .ok (done, d)
  | fuel + 1, x, done, d => do
    if t.width ≤ x then .ok (done, d)
    else
      let nb := nbAt above c0 (done.headD 0) x ref
      match t.context nb ref.isSome with
      | some (sign, qi) =>
        let r ← d.regular t nb ref.isSome w sign qi
        Decoder.samples t above c0 w ref fuel (x + 1) (r.1 :: done) r.2
      | none =>
        let b ← Decoder.runBlocks (t.width + 1) d 0 (t.width - x)
        let done1 := List.replicate b.1 nb.a.toNat ++ done
        if t.width ≤ x + b.1 then .ok (done1, b.2)
        else
          let r ← b.2.interrupt t nb.a (aboveAt above (x + b.1))
          Decoder.samples t above c0 w ref fuel (x + b.1 + 1) (r.1 :: done1) r.2

/-- Raw samples of mode 0. -/
def Decoder.raw (t : Stream) : Nat → List Nat → Decoder → Except DecStop (List Nat × Decoder)
  | 0, done, d => .ok (done, d)
  | n + 1, done, d => do
    let b ← Reader.bits t.depth 0 d.rd
    Decoder.raw t n (b.1 :: done) { d with rd := b.2 }

/-- The context after its reader's progress. -/
def Stream.withReader (t : Stream) (r : Reader) : Stream :=
  { t with pend := r.pend, pendN := r.pendN, ffPend := r.ff, input := r.input, bytes := t.bytes + r.used }

/-- The reader of a context. -/
def Stream.reader (t : Stream) : Reader := { pend := t.pend, pendN := t.pendN, ff := t.ffPend, input := t.input }

/-- The rows of slots j and on of a line group: rows decoded so far, run indices, decoder. -/
def Stream.decodeSlots (t : Stream) (above : List (List Nat)) :
    List Nat → List (List Nat) → List Nat → Decoder → Except DecStop (List (List Nat) × List Nat × Decoder)
  | [], rows, ris, d => .ok (rows, ris, d)
  | j :: js, rows, ris, d => do
    let c0 (i : Nat) : Nat := if t.sinceRst = 0 then 0 else t.c0.getD i 0
    let d0 := { d with ri := t.ri.getD j 0 }
    let ref : Option RowView :=
      if t.pred j = 1 then
        some { cur := rows.getD (t.ref j) [], above := above.getD (t.ref j) [], c0 := c0 (t.ref j) }
      else none
    let o ← (if t.mode = 0 then Decoder.raw t t.width [] d0
      else Decoder.samples t (above.getD j []) (c0 j) (t.wgt j) ref (t.width + 1) 0 [] d0)
    Stream.decodeSlots t above js (rows ++ [o.1.reverse]) (ris ++ [o.2.ri]) o.2

/-- One line group decoded: the context after it, its rows, the escapes read. -/
def Stream.decodeGroup (t : Stream) (above : List (List Nat)) : Except DecStop (Stream × List (List Nat) × Nat) := do
  let r ← t.decodeSlots above (List.range t.npl) [] [] { rd := t.reader, reg := t.reg, run := t.run }
  let t1 := t.withReader r.2.2.rd
  .ok ({ t1 with
      reg := r.2.2.reg, run := r.2.2.run, ri := r.2.1 ++ List.replicate (8 - t.npl) 0
      c0 := (List.range 8).map (fun j => if j < t.npl then (above.getD j []).getD 0 0 else 0)
      lines := t.lines + 1, sinceRst := t.sinceRst + 1
      crc := (r.1.flatMap rowBytes).foldl crc32cByte t.crc }, r.1, r.2.2.esc)

/-- The number that n input bytes spell, most significant first; none while a byte is missing or poisoned. -/
def inputBE : Nat → Nat → List (Option Byte) → Option Nat
  | 0, acc, _ => some acc
  | n + 1, acc, some b :: r => inputBE n (256 * acc + b.toNat) r
  | _, _, _ => none

/-- The segment header at the start of the input, parsed into the context (R311, R312 cause 1). -/
def Stream.parseHeader (t : Stream) : Except DecStop Stream :=
  let i := t.input
  let at_ (o n : Nat) : Nat := (inputBE n 0 (i.drop o)).getD 0
  let first := (i.take 34).takeWhile (fun b => b.isSome)
  let npl := at_ 8 1
  if (i.take (32 + 2 * npl)).any (fun b => b.isNone) then .error (.err Derr.ecc 0)
  else if (1 ≤ first.length ∧ at_ 0 1 ≠ 0xFF) ∨ (2 ≤ first.length ∧ at_ 1 1 ≠ 0xE1) then .error (.err Derr.header 0)
  else if i.length < 32 ∨ i.length < 32 + 2 * npl then
    (if 9 ≤ i.length ∧ (at_ 2 2 ≠ 30 + 2 * npl ∨ at_ 4 1 ≠ 1 ∨ 8 < npl) then .error (.err Derr.header 0) else .error .more)
  else
    let fl := at_ 9 1
    let t1 := { t with
      hdr := true, mode := at_ 5 1, near := at_ 6 1, depth := at_ 7 1, npl := npl
      resetAtRestart := fl.testBit 0, runEn := fl.testBit 1, rstDoc := fl.testBit 2
      width := at_ 10 2, x0 := at_ 12 2, rstInt := at_ 14 2, reset := at_ 16 1, inshift := at_ 17 1
      thr := (List.range 5).map (fun k => at_ (18 + 2 * k) 2), act1 := at_ 28 2, act2 := at_ 30 2
      slots := (List.range npl).map (fun j => at_ (32 + 2 * j) 1 + 256 * at_ (33 + 2 * j) 1) }
    if at_ 4 1 = 1 ∧ at_ 2 2 = 30 + 2 * npl ∧ fl < 8 ∧ t1.paramsOk false then
      .ok ({ t1 with input := i.drop (32 + 2 * npl), bytes := t.bytes + 32 + 2 * npl }.initStats)
    else .error (.err Derr.header 0)

/-- What follows at a line-group boundary of the input. -/
inductive NextMark where
  | none | restart (m : Nat) | last
  deriving DecidableEq, Repr

/-- The marker that comes next, if the next two bytes are one (R311). -/
def Stream.peekMark (t : Stream) : Except DecStop NextMark :=
  if t.ffPend then .ok .none
  else match t.input with
    | [] => .error .more
    | Option.none :: _ => .error (.err Derr.ecc 0)
    | some b :: tl =>
      if b ≠ 0xFF then .ok .none
      else match tl with
        | [] => .error .more
        | Option.none :: _ => .error (.err Derr.ecc 0)
        | some c :: _ =>
          if c.toNat = 0xE9 then .ok .last
          else if 0xD0 ≤ c.toNat ∧ c.toNat ≤ 0xD7 then .ok (.restart (c.toNat - 0xD0))
          else if c = 0 then .ok .none
          else .error (.err Derr.marker 0)

/-- The restart marker m taken: the padding is zero, the code is the next in turn, and R305 sets one here (causes 4, 9). -/
def Stream.takeRestart (t : Stream) (m : Nat) : Except DecStop Stream :=
  if t.pend ≠ 0 then .error (.err Derr.pad 0)
  else if m ≠ t.rstM ∨ t.sinceRst = 0 ∨ !(t.rstDue || t.rstDoc) then .error (.err Derr.rstSeq 0)
  else .ok { t with pend := 0, pendN := 0, input := t.input.drop 2, bytes := t.bytes + 2 }.restart

/-- The end marker taken and verified (causes 5, 6, 9). -/
def Stream.takeEnd (t : Stream) : Except DecStop Stream :=
  if t.pend ≠ 0 then .error (.err Derr.pad 0)
  else if t.input.length < 12 then .error .more
  else match inputBE 2 0 (t.input.drop 2), inputBE 4 0 (t.input.drop 4), inputBE 4 0 (t.input.drop 8) with
    | some len, some lines, some crc =>
      if len ≠ 10 then .error (.err Derr.marker 0)
      else if lines ≠ t.lines then .error (.err Derr.lines 0)
      else if crc ≠ t.crcOut then .error (.err Derr.crc 0)
      else .ok { t with
        pend := 0, pendN := 0, input := t.input.drop 12, bytes := t.bytes + 12, finished := true, endCrc := crc }
    | _, _, _ => .error (.err Derr.ecc 0)

/-! ## The context record (R313) -/

/-- FLAGS of Table 9-6. -/
def Stream.recFlags (t : Stream) : Nat :=
  t.resetAtRestart.toNat + 2 * t.runEn.toNat + 4 * t.rstDoc.toNat + 8 * t.hdr.toNat + 16 * t.trkEn.toNat + 32 * t.ffPend.toNat

/-- Bytes 0x000-0x9FB of the record of context sc. -/
def Stream.recordBody (t : Stream) (sc : Nat) : List Byte :=
  let b (v : Nat) : List Byte := bytesLE 1 v
  [0x54, 0x43, 0x52, 0x44] ++ bytesLE 2 1 ++ bytesLE 2 sc ++ b t.state ++ b t.recFlags ++ b t.mode ++ b t.near ++ b t.depth ++
  b t.npl ++ bytesLE 2 t.width ++ bytesLE 2 t.rstInt ++ b t.reset ++ b t.inshift ++
  (List.range 5).flatMap (fun i => bytesLE 2 (t.thr.getD i 0)) ++ bytesLE 2 t.act1 ++ bytesLE 2 t.act2 ++
  b t.trk ++ b t.rstM ++ (List.range 8).flatMap (fun j => bytesLE 2 (t.slot j)) ++
  bytesLE 4 t.lines ++ bytesLE 2 t.sinceRst ++ b t.pendN ++ b t.derr ++ bytesLE 4 t.pend ++ bytesLE 4 t.crc.toNat ++
  bytesLE 2 t.x0 ++ bytesLE 2 0 ++ bytesLE 8 t.bytes ++ bytesLE 8 t.rowBase ++
  (List.range 8).flatMap (fun j => bytesLE 2 (t.c0.getD j 0)) ++ (List.range 8).flatMap (fun j => b (t.ri.getD j 0)) ++
  bytesLE 4 t.doc ++ List.replicate 380 0 ++
  (List.range 255).flatMap (fun q =>
    let c := Table.get t.initReg t.reg q
    bytesLE 3 c.a ++ b c.n ++ bytesLE 2 (unsigned 16 c.b) ++ b (unsigned 8 c.c) ++ [0]) ++
  (List.range 2).flatMap (fun i =>
    let c := Table.get t.initRun t.run i
    bytesLE 3 c.a ++ b c.n ++ bytesLE 2 c.nn ++ bytesLE 2 0) ++ bytesLE 4 0

/-- The 2,560-byte record of context sc. (DESIGN CHOICE: notes/assumptions/37.) -/
def Stream.record (t : Stream) (sc : Nat) : List Byte :=
  let r := t.recordBody sc
  r ++ bytesLE 4 (crc32c r).toNat

/-- The context that a record image describes, none where R315 refuses it with INVALID_FIELD. Defaults of R296 apply. -/
def Stream.ofRecord (im : List Byte) : Option Stream :=
  let at_ (o n : Nat) : Nat := natLE ((im.drop o).take n)
  let fl := at_ 9 1
  let t0 : Stream := {
    state := at_ 8 1
    resetAtRestart := fl.testBit 0, runEn := fl.testBit 1, rstDoc := fl.testBit 2, hdr := fl.testBit 3
    trkEn := fl.testBit 4, ffPend := fl.testBit 5
    mode := at_ 0xA 1, near := at_ 0xB 1, depth := at_ 0xC 1, npl := at_ 0xD 1, width := at_ 0xE 2
    rstInt := at_ 0x10 2, reset := at_ 0x12 1, inshift := at_ 0x13 1
    thr := (List.range 5).map (fun i => at_ (0x14 + 2 * i) 2), act1 := at_ 0x1E 2, act2 := at_ 0x20 2
    trk := at_ 0x22 1, rstM := at_ 0x23 1, slots := (List.range 8).map (fun j => at_ (0x24 + 2 * j) 2)
    lines := at_ 0x34 4, sinceRst := at_ 0x38 2, pendN := at_ 0x3A 1, derr := at_ 0x3B 1, pend := at_ 0x3C 4
    crc := BitVec.ofNat 32 (at_ 0x40 4), x0 := at_ 0x44 2, bytes := at_ 0x48 8, rowBase := at_ 0x50 8 % 2 ^ 40
    c0 := (List.range 8).map (fun j => at_ (0x58 + 2 * j) 2), ri := (List.range 8).map (fun j => at_ (0x68 + j) 1)
    doc := at_ 0x70 4 }
  let t := t0.withDefaults
  let full := { t with
    reg := (List.range 255).foldl (fun r q =>
      let o := 0x1F0 + 8 * q
      Table.set t.initReg r q { a := at_ o 3, n := at_ (o + 3) 1, b := signed 16 (at_ (o + 4) 2), c := signed 8 (at_ (o + 6) 1) }) []
    run := (List.range 2).foldl (fun r i =>
      let o := 0x9E8 + 8 * i
      Table.set t.initRun r i { a := at_ o 3, n := at_ (o + 3) 1, nn := at_ (o + 4) 2 }) [] }
  if im.length = 2560 ∧ at_ 0 4 = 0x44524354 ∧ at_ 4 2 = 1 ∧ at_ 0x9FC 4 = (crc32c (im.take 0x9FC)).toNat ∧
      full.paramsOk true then some full
  else none

end Sys2Proof.Machine
end

