-- ==== Sys2Proof/Machine/Hqe.lean ====
section
/-!
DEFINITION. Sys2Proof/Machine/Hqe.lean: the host-queue engine's own operations: queue pairs, completions and interrupts
(R369-R385), command checks (R376, Table 11-6), the placement of a stream's bytes in host buffers and spill (R390-R396).
-/
namespace Sys2Proof.Machine

/-! ## State -/

/-- Queue pair q, none when it does not exist. -/
def State.qp (s : State) (q : Nat) : Option Qp := Table.get (fun _ => none) s.hqe.qps q

/-- The state with a queue pair replaced or removed. -/
def State.setQp (s : State) (q : Nat) (x : Option Qp) : State :=
  { s with hqe := { s.hqe with qps := Table.set (fun _ => none) s.hqe.qps q x } }

/-- A stream context. -/
def State.stream (s : State) (sc : Nat) : Stream := Table.get (fun _ => {}) s.streams sc

/-- The state with a stream context replaced. -/
def State.setStream (s : State) (sc : Nat) (t : Stream) : State :=
  { s with streams := Table.set (fun _ => {}) s.streams sc t }

/-- The numbers of the open contexts, rising. -/
def State.openStreams (s : State) : List Nat :=
  (s.streams.filter (fun (e : Nat × Stream) => e.2.opened)).map (fun e => e.1)

/-- A fresh stamp. -/
def State.stamp (s : State) : Nat × State := (s.hqe.stamp, { s with hqe := { s.hqe with stamp := s.hqe.stamp + 1 } })

/-! ## Interrupts and completions -/

/-- A vector is signalled: sent, or left pending while it is masked (R380). -/
def State.signal (s : State) (v : Nat) : State :=
  if s.bit (R.hqeMsixCtrl v) F.hqeMsixCtrl.MASK then s.setFld (R.hqePba (v / 32)) ⟨v % 32, 1⟩ 1
  else { s with messages := v :: s.messages }

/-- HQE.STAT.INFLIGHT follows the commands in flight (R374). -/
def State.setCmds (s : State) (l : List Cmd) : State :=
  { s with hqe := { s.hqe with cmds := l } }.setFld R.hqeStat F.hqeStat.INFLIGHT l.length

/-- The command of a queue pair with a tag. -/
def State.cmdOf (s : State) (q tag : Nat) : Option Cmd := s.hqe.cmds.find? (fun c => c.qp == q && c.tag == tag)

/-- What a completion reports. -/
structure Report where
  r0 : Nat := 0
  r1 : Nat := 0
  r2 : Nat := 0
  status : Nat := 0
  info : Nat := 0
  /-- The TIME field where the command states another than SYS.TIME. -/
  time : Option Nat := none
  deriving DecidableEq, Repr

/-- The completion entry of Table 11-3, without dword 7. -/
def Report.head (r : Report) (now sqHead q : Nat) : List Byte :=
  bytesLE 8 r.r0 ++ bytesLE 4 r.r1 ++ bytesLE 4 r.r2 ++ bytesLE 8 (r.time.getD now) ++
  bytesLE 4 (sqHead % 4096 + q % 1024 * 2 ^ 12)

/-- A completion for a tag of queue pair q: dwords 0-6, then dword 7 with the phase, then the vector (R377, R379, R380). -/
def State.writeCompletion (s : State) (q tag sqHead : Nat) (r : Report) : State :=
  match s.qp q with
  | none => s
  | some x =>
    let a := x.cqBase + 32 * x.cqTail
    let d7 := tag % 65536 + r.status % 256 * 2 ^ 16 + r.info % 128 * 2 ^ 24 + x.phase.toNat * 2 ^ 31
    let s1 := (s.hostWrite a (r.head s.sys.time.toNat sqHead q)).hostWrite (a + 28) (bytesLE 4 d7)
    let wrap := decide (x.cqTail + 1 = x.cqSize)
    let x1 := { x with cqTail := if wrap then 0 else x.cqTail + 1, phase := if wrap then !x.phase else x.phase }
    let due := decide (x1.coalN ≤ x1.unsig + 1)
    let s2 := s1.setQp q (some { x1 with unsig := if due then 0 else x1.unsig + 1 })
    if due then s2.signal x1.vector else s2

/-- A command in flight completes. -/
def State.complete (s : State) (q tag : Nat) (r : Report) : State :=
  match s.cmdOf q tag with
  | none => s
  | some c =>
    (s.setCmds (s.hqe.cmds.filter (fun d => !(d.qp == q && d.tag == tag)))).writeCompletion q tag c.sqHead r

/-- A command completes with a status and no results. -/
def State.completeSt (s : State) (q tag status : Nat) : State := s.complete q tag { status := status }

/-! ## Queue-pair errors (R381-R383) -/

/-- A queue pair enters ERROR: latched while QERR.VALID = 0, EV246, a QP_ERROR event. `addr` is the host address of a failed
read. -/
def State.qpError (s : State) (q cause : Nat) (addr : Option Nat) : State :=
  match s.qp q with
  | none => s
  | some x =>
    if x.error then s
    else
      let s1 := (s.setQp q (some { x with error := true })).setFld R.hqeStat F.hqeStat.QERR 1
      let s2 :=
        if s1.bit R.hqeQerr F.hqeQerr.VALID then s1
        else
          let s3 := (((s1.setFld R.hqeQerr F.hqeQerr.VALID 1).setFld R.hqeQerr F.hqeQerr.CAUSE cause).setFld R.hqeQerr
            F.hqeQerr.QP q).setFld R.hqeQerr F.hqeQerr.DIR (if addr.isSome then 1 else 0)
          match addr with
          | some a => s3.setReg64 R.hqeErrAddrLo R.hqeErrAddrHi a
          | none => s3
      (s2.fire 246).queueAsync 2 (q + cause * 2 ^ 16) (s2.reg R.hqeErrAddrLo).toNat

/-- HQE.STAT.QERR follows the queue pairs. -/
def State.refreshQerr (s : State) : State :=
  s.setFld R.hqeStat F.hqeStat.QERR
    (if s.hqe.qps.any (fun (e : Nat × Option Qp) => match e.2 with | some x => x.error | none => false) then 1 else 0)

/-! ## Occupancy (R395) -/

/-- occ of a context. -/
def Stream.occ (t : Stream) : Nat := min 1023 (1024 * t.spillN / (t.quota * 65536))

/-- HQE.OCCk and HQE.JOBj.STREAMS follow the open contexts. The lowest context wins a tie. -/
def State.refreshOcc (s : State) : State :=
  let op := s.openStreams
  let s1 := s.forEach 16 (fun j t =>
    t.setFld (R.hqeJob j) F.hqeJob.STREAMS (op.filter (fun sc => (t.stream sc).job == j)).length)
  s1.forEach 4 (fun k t =>
    let on := op.filter (fun sc =>
      let j := (t.stream sc).job
      t.bit (R.hqeJob j) F.hqeJob.BOUND && t.fld (R.hqeJob j) F.hqeJob.PATH == k)
    let best := on.foldl (fun (m : Option (Nat × Nat)) sc =>
      let o := (t.stream sc).occ
      match m with
      | none => some (sc, o)
      | some b => if b.2 < o then some (sc, o) else some b) none
    match best with
    | none => t.setReg (R.hqeOcc k) 0
    | some b => t.setReg (R.hqeOcc k) (BitVec.ofNat 32 (b.2 + b.1 * 2 ^ 16 + 2 ^ 28)))

/-! ## The spill (R390, R393-R396) -/

/-- Base of the spill area. -/
def State.spillBase (s : State) : Nat := s.reg64 R.hqeSpillBaseLo R.hqeSpillBaseHi % 2 ^ 40

/-- Units of the spill area. -/
def State.spillUnits (s : State) : Nat := min 31744 (s.fld R.hqeSpillSize F.hqeSpillSize.UNITS)

/-- Units that no open context owns, lowest first. -/
def State.freeUnits (s : State) : List Nat :=
  let used := s.openStreams.flatMap (fun sc => (s.stream sc).units)
  (List.range s.spillUnits).filter (fun u => !used.contains u)

/-- HQE.SPILL_FREE follows the quotas. -/
def State.refreshFree (s : State) : State :=
  let used := s.openStreams.foldl (fun a sc => a + (s.stream sc).quota) 0
  s.setFld R.hqeSpillFree F.hqeSpillFree.UNITS (s.spillUnits - used)

/-- Address of ring position i of a context's spill. -/
def State.spillAddr (s : State) (t : Stream) (i : Nat) : Nat :=
  let p := i % (t.quota * 65536)
  s.spillBase + t.units.getD (p / 65536) 0 * 65536 + p % 65536

/-! ## Buffers (R390) -/

/-- The host address of byte i of a buffer. -/
def segAddr : List (Nat × Nat) → Nat → Nat
  | [], i => i
  | g :: r, i => if i < g.2 then g.1 + i else segAddr r (i - g.2)

/-- INFO bits of a POST_BUFFER completion. -/
def infoEnd : Nat := 1
def infoItem : Nat := 2
def infoSpill : Nat := 4

/-- A posted buffer completes: EV242. -/
def State.bufferDone (s : State) (b : Posted) (info status : Nat) : State :=
  (s.complete b.qp b.tag {
    r0 := b.first, r1 := b.used, r2 := (b.crc ^^^ 0xFFFFFFFF).toNat
    status := if status ≠ 0 then status else if b.ecc then St.eccUncorrectable else 0
    info := info + (if b.spill then infoSpill else 0) }).fire 242

/-- A buffer that holds nothing begins at the offset reached. -/
def Posted.at_ (b : Posted) (placed : Nat) : Posted := if b.used = 0 then { b with first := placed } else b

/-- The oldest buffer of a context that the device writes completes. -/
def State.headDone (s : State) (sc info status : Nat) : State :=
  let t := s.stream sc
  match t.writes with
  | [] => s
  | b :: r => (s.setStream sc { t with writes := r }).bufferDone (b.at_ t.placed) info status

/-- Every buffer still posted for writing completes: with ABORTED where the stream failed or was discarded, else with END. -/
def State.restDone (s : State) (sc status : Nat) : State :=
  let t := s.stream sc
  t.writes.foldl (fun u b => u.bufferDone (b.at_ t.placed) (if status = 0 then infoEnd else 0) status) (s.setStream sc { t with writes := [] })

/-- The marks of a context at the offset reached: their INFO bits, and the first status other than SUCCESS. -/
def Stream.marksHere (t : Stream) : List (Nat × Nat × Nat) := t.ends.filter (fun m => decide (m.1 ≤ t.placed))
def marksInfo (l : List (Nat × Nat × Nat)) : Nat := l.foldl (fun a m => a ||| m.2.1) 0
def marksStatus (l : List (Nat × Nat × Nat)) : Nat := l.foldl (fun a m => if a = 0 then m.2.2 else a) 0

/-- What the offset reached asks for: the oldest buffer completes when it is full or an item or the stream ends in it; at the
end of the stream every other posted buffer completes too. -/
def State.atOffset (s : State) (sc : Nat) : State :=
  let t := s.stream sc
  let hit := t.marksHere
  let info := marksInfo hit
  let st := marksStatus hit
  let s1 := s.setStream sc { t with ends := t.ends.filter (fun m => decide (t.placed < m.1)) }
  let full := match t.writes with | b :: _ => decide (b.size ≤ b.used) | [] => false
  let some_ := match t.writes with | b :: _ => decide (0 < b.used) | [] => false
  let s2 := if full || (info != 0 && (some_ || info % 2 == 1)) then s1.headDone sc info st else s1
  if info % 2 = 1 then s2.restDone sc (if st = 0 then 0 else St.aborted) else s2

/-- One byte goes into the oldest buffer of a context. -/
def State.placeByte (s : State) (sc : Nat) (v : Byte) (spill bad : Bool) : State :=
  let t := s.stream sc
  match t.writes with
  | [] => s
  | b :: r =>
    let b1 := { b with
      used := b.used + 1, crc := crc32cByte b.crc v, first := if b.used = 0 then t.placed else b.first
      spill := b.spill || spill, ecc := b.ecc || bad }
    ((s.setStream sc { t with writes := b1 :: r, placed := t.placed + 1 }).hostWrite (segAddr b.segs b.used) [v]).atOffset sc

/-- Spilled bytes are drained into posted buffers while there is room (R390). (DEDUCED: notes/assumptions/44.) -/
def State.drain (sc : Nat) : Nat → State → State
  | 0, s => s
  | fuel + 1, s =>
    let t := s.stream sc
    if t.spillN = 0 ∨ t.writes.isEmpty then s
    else
      let a := s.spillAddr t t.spillRd
      let s1 := s.eccRead a
      let bad := s1.poisoned a
      let s2 := s1.setStream sc { t with spillRd := (t.spillRd + 1) % (t.quota * 65536), spillN := t.spillN - 1 }
      let s3 := s2.placeByte sc (if bad then 0 else s1.byte a) true bad
      State.drain sc fuel (if (s3.stream sc).spillN = 0 then s3.fire 244 else s3)

/-- Everything that can be placed is placed, and the occupancy follows. -/
def State.drainAll (s : State) (sc : Nat) : State := (State.drain sc ((s.stream sc).spillN + 1) s).refreshOcc

/-- A mark at the present end of the bytes of a context: reported when the bytes before it are placed. -/
def State.addMark (s : State) (sc info status : Nat) : State :=
  let t := s.stream sc
  let s1 := s.setStream sc { t with ends := t.ends ++ [(t.placed + t.spillN, info, status)] }
  if t.spillN = 0 then s1.atOffset sc else s1

/-- A stream fails because its quota is full (R396). -/
def State.streamFail (s : State) (sc : Nat) : State :=
  let t := s.stream sc
  let s1 := s.setStream sc { t with state := 4, failStatus := St.noResource, rows := [], ready := [] }
  (((s1.addMark sc infoEnd St.noResource).count R.hqeFailCnt).fire 245).queueAsync 3 (sc + St.noResource * 2 ^ 16) (t.bytes % 2 ^ 32)

/-- One byte of an open stream: into a buffer, into the spill, or lost with the stream (R390, R396). -/
def State.streamByte (s : State) (sc : Nat) (v : Byte) (bad : Bool) : State :=
  let t := s.stream sc
  if t.state = 4 ∨ !t.opened then s
  else if t.spillN = 0 ∧ !t.writes.isEmpty then s.placeByte sc v false bad
  else if t.spillN < t.quota * 65536 then
    let a := s.spillAddr t (t.spillRd + t.spillN)
    let s1 := if bad then s.memWritePoison a [v] else s.memWrite a [v]
    let s2 := s1.setStream sc { t with spillN := t.spillN + 1 }
    if t.spillN = 0 then s2.fire 243 else s2
  else s.streamFail sc

/-- Bytes of an open stream, in order; the occupancy follows. -/
def State.streamBytes (s : State) (sc : Nat) (l : List Byte) : State :=
  (l.foldl (fun t v => t.streamByte sc v false) s).refreshOcc

/-- An item of a stream ends here (R390); it matters with CMPL_ITEM. -/
def State.itemEnd (s : State) (sc : Nat) : State :=
  let t := s.stream sc
  if t.cmplItem && t.state != 4 && t.opened then s.addMark sc infoItem 0 else s

/-- A record or message block for a context: with its item header into an open message stream, else discarded and counted
(R391); each byte says whether it is poisoned. -/
def State.messageItem (s : State) (sc src : Nat) (l : List (Byte × Bool)) : State :=
  let t := s.stream sc
  if t.opened && t.kind == 2 && t.state != 4 then
    let hdr := bytesLE 4 l.length ++ bytesLE 2 src ++ bytesLE 2 0
    let s1 := s.setStream sc { t with bytes := t.bytes + 8 + l.length }
    ((l.foldl (fun u v => u.streamByte sc v.1 v.2) (s1.streamBytes sc hdr)).itemEnd sc).refreshOcc
  else s.count R.hqeDiscCnt

/-- The context leaves its quota and is no longer open. -/
def State.closeContext (s : State) (sc state : Nat) : State :=
  let t := s.stream sc
  ((s.setStream sc { t with
    opened := false, state := state, closing := none, rows := [], ready := [], spillN := 0, ends := []
    reads := [], input := [] }).refreshFree).refreshOcc

/-- CLOSE_STREAM completes once every byte is placed and every buffer has completed (R393). -/
def State.tryClose (s : State) (sc : Nat) : State :=
  let t := s.stream sc
  match t.closing with
  | none => s
  | some (q, tag) =>
    if t.finished && t.spillN == 0 && t.writes.isEmpty && t.state != 4 then
      (s.closeContext sc 3).complete q tag { r0 := t.bytes, r1 := t.endCrc }
    else s

/-- The stream's last byte has been handed over: the buffer it lies in ends with END. -/
def State.streamEnd (s : State) (sc : Nat) : State :=
  (s.setStream sc { s.stream sc with finished := true }).addMark sc infoEnd 0

/-! ## Command checks (R376, Table 11-6) -/

namespace Op
def identify : Nat := 0x00
def createQp : Nat := 0x01
def deleteQp : Nat := 0x02
def abort : Nat := 0x03
def asyncEvent : Nat := 0x04
def openStream : Nat := 0x10
def closeStream : Nat := 0x11
def postBuffer : Nat := 0x12
def saveContext : Nat := 0x13
def restoreContext : Nat := 0x14
def scanJob : Nat := 0x20
def setGaitPolicy : Nat := 0x21
def calibrate : Nat := 0x22
def readAux : Nat := 0x23
def transport : Nat := 0x24
def loadImage : Nat := 0x30
def fabricOp : Nat := 0x31
def scrub : Nat := 0x32
end Op

/-- An opcode of Table 11-5, and one for the admin queue only. -/
def opKnown (op : Nat) : Bool :=
  [0x00, 0x01, 0x02, 0x03, 0x04, 0x10, 0x11, 0x12, 0x13, 0x14, 0x20, 0x21, 0x22, 0x23, 0x24, 0x30, 0x31, 0x32].contains op
def opAdmin (op : Nat) : Bool := [0x00, 0x01, 0x02, 0x03, 0x04, 0x30].contains op

/-- Bits of dwords 1-15 that a command uses: TARGET, ADDR0, ADDR1, ARGS0-ARGS9 (Tables 11-6, 13-12). -/
def opMask (op target : Nat) : List Nat :=
  let any := 0xFFFFFFFF
  match op with
  | 0x00 => [0, any, any]
  | 0x01 => [0x3FF, any, any, any, any, 0x0FFF0FFF, any]
  | 0x02 => [0x3FF]
  | 0x03 => [0x3FF, 0, 0, 0, 0, 0xFFFF]
  | 0x04 => []
  | 0x10 => [0xFFF, any, any]
  | 0x11 => [0xFFF, 0, 0, 0, 0, 1]
  | 0x12 => [0xFFF, any, any, 0, 0, any, 3]
  | 0x13 => [0xFFF, any, any]
  | 0x14 => [0xFFF, any, any, 0, 0, any, 0xF]
  | 0x20 => [0x3F, 0, 0, 0, 0, any, any, 0x107]
  | 0x21 => [0x3, 0, 0, 0, 0, any, any, any, any, any, any, any, any, any]
  | 0x22 => [0x1F3]
  | 0x23 => [0x13F]
  | 0x24 => [0x3, 0, 0, 0, 0, 0x70F]
  | 0x30 => [0, any, any, 0, 0, any, any, any, any]
  | 0x31 =>
    match target % 256 with
    | 0x01 => [0xFF, any, any]
    | 0x03 => [0xFF, 0, 0, 0, 0, 0xFF]
    | 0x04 => [0xFF, any, any, 0, 0, 0xFF, any, any]
    | 0x05 => [0xFF, any, any, 0, 0, 0xFF, any, any]
    | 0x06 => [0xFF, 0, 0, 0, 0, any, 1]
    | 0x07 => [0xFF, 0, 0, 0, 0, 0xFF, 0xFF, any]
    | _ => [0xFF]
  | 0x32 => [0xF, 0, 0, 0, 0, any, any, any, any, any, any, any, any]
  | _ => []

/-- A dword of a command. -/
def Cmd.dw (c : Cmd) (i : Nat) : Nat := (c.words.getD i 0).toNat
def Cmd.target (c : Cmd) : Nat := c.dw 1
def Cmd.addr0 (c : Cmd) : Nat := c.dw 2 + 2 ^ 32 * c.dw 3
def Cmd.addr1 (c : Cmd) : Nat := c.dw 4 + 2 ^ 32 * c.dw 5
def Cmd.arg (c : Cmd) (i : Nat) : Nat := c.dw (6 + i)
def Cmd.sgl (c : Cmd) : Bool := (c.dw 0).testBit 8
def Cmd.fence (c : Cmd) : Bool := (c.dw 0).testBit 9

/-- No reserved field of the entry is set. -/
def Cmd.fieldsOk (c : Cmd) : Bool :=
  bitsOf (c.dw 0) 10 6 == 0 && (!c.sgl || c.op == Op.postBuffer || c.op == Op.loadImage) &&
  (c.op != Op.fabricOp || (1 ≤ c.target % 256 && c.target % 256 ≤ 7)) &&
  (List.range 15).all (fun i => (c.dw (i + 1)) &&& ((opMask c.op c.target).getD i 0) == c.dw (i + 1))

/-- HQE accepts the command before READY (R386). -/
def State.earlyOk (s : State) (c : Cmd) : Bool :=
  let host := (s.fld R.sysStrap F.sysStrap.BOOT_SRC == 1 || s.fld R.sysStrap F.sysStrap.BOOT_SRC == 2) &&
    decide (2 ≤ s.fld R.sysBootStat F.sysBootStat.STAGE)
  host && (c.op == Op.identify || (c.op == Op.loadImage && c.arg 1 == 1 && c.arg 2 == 0 && c.arg 3 == 0))

/-- The check of an entry at its fetch: none when the command goes on, else status and INFO (R376, R386). -/
def State.checkCmd (s : State) (c : Cmd) : Option (Nat × Nat) :=
  if !(opKnown c.op) || (opAdmin c.op && c.qp != 0) then some (St.invalidOpcode, 0)
  else if (s.cmdOf c.qp c.tag).isSome then some (St.invalidField, 0x7F)
  else if !(s.bit R.sysBootStat F.sysBootStat.READY) && !(s.earlyOk c) then some (St.notReady, 0)
  else if !c.fieldsOk then some (St.invalidField, 0)
  else none

/-- A command may start: it has not, no earlier command of its queue pair waits to start, and with FENCE none is in flight
(R375). -/
def State.mayStart (s : State) (c : Cmd) : Bool :=
  let before := (s.hqe.cmds.takeWhile (fun d => !(d.qp == c.qp && d.tag == c.tag))).filter (fun d => d.qp == c.qp)
  !c.started && before.all (fun d => d.started && !c.fence)

/-- Start the command of a queue pair with a tag and an opcode: `f` runs with the command marked as started. -/
def State.startCmd (s : State) (q tag op : Nat) (f : Cmd → State → State) : State :=
  match s.cmdOf q tag with
  | none => s
  | some c =>
    if c.op == op && s.mayStart c then
      f c (s.setCmds (s.hqe.cmds.map (fun d => if d.qp == q && d.tag == tag then { d with started := true } else d)))
    else s

/-! ## Scatter lists (R384) -/

/-- An element of a scatter list: address, length, TYPE. -/
abbrev SgElem := Nat × Nat × Nat

/-- The DATA elements of a chain of lists given in the order HQE follows it, or the INFO of the refusal; `run` counts the
CHAIN elements since the last DATA element. -/
def sgWalk (acc : List (Nat × Nat)) (run : Nat) : List SgElem → Except Nat (List (Nat × Nat))
  | [] => .ok acc.reverse
  | e :: r =>
    if e.2.2 = 1 then (if 1024 ≤ run + 1 then .error 0x01 else sgWalk acc (run + 1) r)
    else if e.2.2 ≠ 0 then .error 0x04
    else if e.2.1 = 0 ∨ e.2.1 % 64 ≠ 0 ∨ e.1 % 64 ≠ 0 then .error 0x03
    else if 4096 ≤ acc.length then .error 0x02
    else sgWalk ((e.1, e.2.1) :: acc) 0 r

end Sys2Proof.Machine
end

