-- ==== Sys2Proof/Machine/Lanes.lean ====
section
/-!
DEFINITION. Sys2Proof/Machine/Lanes.lean: the Tandem lanes (R303-R305, R312, R314, R317-R321): scheduling, one line group
coded or decoded, record holds and snapshots.
-/
namespace Sys2Proof.Machine

/-! ## Lines of a plane as the codec and the windows see them -/

/-- The plane below 48 that a plane derives from (R333, R337). -/
def State.rootPlane (s : State) : Nat → Nat → Nat
  | 0, n => n
  | fuel + 1, n =>
    if n < 48 then n
    else s.rootPlane fuel (s.fld (R.iwCfg (s.fld (R.owCfg ((n - 64) % 32)) F.owCfg.SRCW)) F.iwCfg.PLANE)

/-- The shading group of a plane, derived or not. -/
def State.planeGroup (s : State) (n : Nat) : Nat := s.fld (R.plCfg (s.rootPlane 33 n % 48)) F.plCfg.GRP

/-- The plane's bit in an exception, that of the plane it derives from (Table 6-4 has 48 of them). -/
def State.planeBit (s : State) (n : Nat) : Nat := 2 ^ (s.rootPlane 33 n % 48)

/-- DOC_SEQ of the record in slot k while it is assembled: TRKt_SEQ once the older record of the track has completed. -/
def State.docSeq (s : State) (k : Nat) : Nat :=
  let o := if k % 2 = 0 then k + 1 else k - 1
  let older := (s.record o).busy && !(s.record o).complete && decide ((s.record o).seq < (s.record k).seq)
  ((s.reg (R.trkSeq (k / 2))).toNat + (if older then 1 else 0)) % 2 ^ 32

/-- The record slot of track t whose window covers line y of group g, with the line's y in it. -/
def State.docAt (s : State) (t g y : Nat) : Option (Nat × Nat) :=
  ((s.windowsAt g y).find? (fun us => s.fld (R.uCfg us.1) F.uCfg.TRK == t)).map (fun us =>
    (t * 2 + us.2, y - (match s.window (us.1 * 2 + us.2) with | some w => w.origin.getD 0 | none => 0)))

/-- Line y of group g was the last line of a document, of track t where one is given (R305). -/
def State.docEnds (s : State) (t : Option Nat) (g y : Nat) : Bool :=
  (List.range 4).any (fun u =>
    s.unitGroup u == g && (match t with | some k => s.fld (R.uCfg u) F.uCfg.TRK == k | none => true) &&
    ((match Table.get (fun _ => none) s.geo.past u with | some r => r.2 == y + 1 | none => false) ||
     [u * 2, u * 2 + 1].any (fun k => match s.window k with
       | some w => w.closed && (match w.origin with | some o => o + w.y == y + 1 | none => false)
       | none => false)))

/-- A line of a plane reaches the open encode streams that name the plane (R317, R389). -/
def State.feedStreams (s : State) (n y : Nat) (vals bad : List Nat) : State :=
  s.openStreams.foldl (fun st sc =>
    let t := st.stream sc
    let slots := (List.range t.npl).filter (fun j => t.src j == n)
    if t.state ≠ 1 ∨ t.closing.isSome ∨ slots.isEmpty then st
    else
      let row : CodeRow := {
        y := y, vals := (List.range t.width).map (fun i => vals.getD (t.x0 + i) 0)
        bad := (bad.filter (fun x => decide (t.x0 ≤ x ∧ x < t.x0 + t.width))).map (fun x => x - t.x0) }
      let rows := slots.foldl (fun r j => Table.set (fun _ => []) r j (Table.get (fun _ => []) r j ++ [row])) t.rows
      let full := (List.range t.npl).foldl (fun m j => min m (Table.get (fun _ => []) rows j).length) 1000000
      let p := st.stamp
      if t.ready.length < full then p.2.setStream sc { t with rows := rows, ready := t.ready ++ [p.1] }
      else st.setStream sc { t with rows := rows }) s

/-- A context no longer codes line y of output plane 64 + j: its slot may become free (R340). -/
def State.owCoded (s : State) (j sc y : Nat) : State :=
  let o := Table.get (fun _ => {}) s.pack.outs j
  let held := (o.held.map (fun h => if h.2.1 = y then (h.1, h.2.1, h.2.2.filter (fun c => c != sc)) else h)).filter
    (fun h => !h.2.2.isEmpty)
  { s with pack := { s.pack with outs := Table.set (fun _ => {}) s.pack.outs j { o with held := held } } }

/-- A context codes no more lines: every output slot that waits for it is let go. -/
def State.owForget (s : State) (sc : Nat) : State :=
  s.forEach 32 (fun j t =>
    let o := Table.get (fun _ => {}) t.pack.outs j
    let held := (o.held.map (fun h => (h.1, h.2.1, h.2.2.filter (fun c => c != sc)))).filter (fun h => !h.2.2.isEmpty)
    { t with pack := { t.pack with outs := Table.set (fun _ => {}) t.pack.outs j { o with held := held } } })

/-! ## Scheduling (R317, R318) -/

/-- Lane n may take contexts: enabled, its codec quad on (R317). -/
def State.laneFree (s : State) (n : Nat) : Bool :=
  (s.fld R.tcxCtl F.tcxCtl.LANES).testBit n && s.pdOn (117 + n / 4) && !(s.bit (R.tcxLane n) F.tcxLane.ACT)

/-- The contexts that a lane holds. -/
def State.boundStreams (s : State) : List Nat :=
  (List.range 16).filterMap (fun n => if s.bit (R.tcxLane n) F.tcxLane.ACT then some (s.fld (R.tcxLane n) F.tcxLane.SC) else none)

/-- A restart marker after the last line of a document is due (R305). -/
def State.docMarkDue (s : State) (t : Stream) : Bool :=
  t.rstDoc && decide (0 < t.sinceRst) && (match t.lastY with
    | some y => s.docEnds (if t.trkEn then some t.trk else none) (s.planeGroup (t.src 0)) y
    | none => false)

/-- Something is pending for a context (R317). -/
def State.eligible (s : State) (sc : Nat) : Bool :=
  let t := s.stream sc
  t.opened && !t.finished &&
    ((t.state == 1 && (!t.ready.isEmpty || t.closing.isSome || s.docMarkDue t)) ||
     (t.state == 2 && t.kind == 1 && (!t.input.isEmpty || t.reads.any (fun b => decide (b.used < b.size)))))

/-- When what is pending for a context came. -/
def Stream.since (t : Stream) : Nat := t.ready.headD t.closeStamp

/-- The context that a free lane takes: the earliest, then the lowest. -/
def State.nextStream (s : State) : Option Nat :=
  let bound := s.boundStreams
  let l := s.openStreams.filter (fun sc => s.eligible sc && !bound.contains sc)
  l.foldl (fun m sc => match m with
    | none => some sc
    | some b => if (s.stream sc).since < (s.stream b).since then some sc else some b) none

/-! ## Rows and bytes -/

/-- The row of slot j in the row store (R296, R313). -/
def State.storedRow (s : State) (t : Stream) (j : Nat) : List Nat :=
  let a := t.rowBase + j * t.width * 2
  (List.range t.width).map (fun x => natLE (s.bytes (a + 2 * x) 2))

/-- The rows above, none where line y - 1 lies outside the restart interval (R304), after the read that decodes them. -/
def State.rowsAbove (s : State) (t : Stream) : State × List (List Nat) :=
  if t.sinceRst = 0 ∨ t.mode = 0 ∨ !(s.pdOn 127) then (s, List.replicate t.npl [])
  else
    let s1 := s.memRead t.rowBase (t.width * 2 * t.npl)
    (s1, (List.range t.npl).map (fun j => s1.storedRow t j))

/-- The reconstructed rows are written to the row store. -/
def State.storeRows (s : State) (t : Stream) (rows : List (List Nat)) : State :=
  if t.mode = 0 ∨ !(s.pdOn 127) then s else s.memWrite t.rowBase (rows.flatMap rowBytes)

/-- Coded bytes of a context are handed to HQE with the context's new state. -/
def State.emit (s : State) (sc : Nat) (o : Stream × List Byte) : State := (s.setStream sc o.1).streamBytes sc o.2

/-- A counter counts n more, saturating. -/
def State.countBy (s : State) (off n : Nat) : State :=
  s.setReg off (BitVec.ofNat 32 (min (2 ^ 32 - 1) ((s.reg off).toNat + n)))

/-- Escapes written or read (R309). -/
def State.escapes (s : State) (n : Nat) : State := if n = 0 then s else (s.countBy R.tcxEscCnt n).fire 126

/-! ## Holds and snapshots -/

/-- The hold of a stream on the record of the document that covers a line is taken (R320). -/
def State.streamHold (s : State) (sc y : Nat) : State :=
  let t := s.stream sc
  if !t.trkEn || t.held then s
  else match s.docAt t.trk (s.planeGroup (t.src 0)) y with
    | none => s
    | some (k, _) =>
      let d := s.record k
      if d.complete then s
      else ((s.setRecord k { d with holds := addSorted d.holds (4096 + sc) }).setStream sc
        { t with held := true, doc := s.docSeq k }).refreshTrack t.trk

/-- The hold of a stream is released (R320). -/
def State.streamUnhold (s : State) (sc : Nat) : State :=
  let t := s.stream sc
  if !t.held then s
  else
    let s1 := s.setStream sc { t with held := false }
    [t.trk * 2, t.trk * 2 + 1].foldl (fun u k =>
      let d := u.record k
      if d.holds.contains (4096 + sc) then
        (u.setRecord k { d with holds := d.holds.filter (fun h => h != 4096 + sc) }).tryComplete k
      else u) s1

/-- The snapshots that wait for a line-group boundary are written to host memory, and their commands complete (R314). -/
def State.takeSnapshots (s : State) (sc : Nat) : State :=
  let t := s.stream sc
  t.saves.foldl (fun u v => (u.hostWrite v.2.2 (t.record sc)).completeSt v.1 v.2.1 St.success)
    (s.setStream sc { t with saves := [] })

/-! ## Coding (R295, R302-R309, R321) -/

/-- The value coded for a sample: shifted, clipped, 0 where poisoned (R295, R321). -/
def Stream.codeValue (t : Stream) (row : CodeRow) (i v : Nat) : Nat :=
  if row.bad.contains i then 0 else min (v >>> t.inshift) t.maxval

/-- Values of a row above MAXVAL. -/
def Stream.clips (t : Stream) (row : CodeRow) : Nat :=
  ((List.range row.vals.length).filter (fun i =>
    !row.bad.contains i && decide (t.maxval < (row.vals.getD i 0) >>> t.inshift))).length

/-- A restart marker is written (R305); under RST_DOC it ends an item and the document's hold. -/
def State.putRestart (s : State) (sc : Nat) (doc : Bool) : State :=
  let s1 := (s.emit sc (s.stream sc).writeRestart).fire 120
  if doc then (s1.itemEnd sc).streamUnhold sc else s1

/-- The oldest complete line group of a context is coded. -/
def State.encodeNext (s : State) (sc : Nat) : State :=
  let t := s.stream sc
  let rows := (List.range t.npl).map (fun j => (Table.get (fun _ => []) t.rows j).headD { y := 0, vals := [], bad := [] })
  let y := (rows.headD { y := 0, vals := [], bad := [] }).y
  let s0 := (s.streamHold sc y).rowsAbove t
  let t0 := s0.1.stream sc
  let t1 := { t0 with
    ready := t0.ready.drop 1, lastY := some y
    rows := (List.range t.npl).foldl (fun r j => Table.set (fun _ => []) r j ((Table.get (fun _ => []) r j).drop 1)) t0.rows }
  let xs := rows.map (fun r => (List.range r.vals.length).map (fun i => t.codeValue r i (r.vals.getD i 0)))
  let o := t1.encodeGroup xs s0.2
  let s1 := (s0.1.storeRows t o.2.2.1).escapes o.2.2.2
  let clip := rows.foldl (fun a r => a + t.clips r) 0
  let s2 := if clip = 0 then s1 else ((s1.countBy R.tcxClipCnt clip).setFld R.tcxStat F.tcxStat.CLIP 1).fire 124
  let s3 := (List.range t.npl).foldl (fun u j =>
    let r := rows.getD j { y := 0, vals := [], bad := [] }
    let n := t.src j
    let u1 := if r.bad.isEmpty then u
      else u.listLine (u.planeGroup n) r.y Cause.eccUncorrectable noIndex (u.planeBit n)
    if 64 ≤ n then u1.owCoded (n - 64) sc r.y else u1) s2
  s3.emit sc (o.1, o.2.1)

/-- One line group of an encode stream, with what is due before and after it (R302-R306). (DEDUCED: notes/assumptions/36.) -/
def State.encodeStep (s : State) (n sc : Nat) : State :=
  let s0 := s.takeSnapshots sc
  if (s0.stream sc).state ≠ 1 ∨ (s0.stream sc).finished then s0
  else
    let s1 := if (s0.stream sc).hdr then s0 else (s0.emit sc (s0.stream sc).writeHeader).fire 122
    let s2 := if s1.docMarkDue (s1.stream sc) then s1.putRestart sc true else s1
    if (s2.stream sc).closing.isSome then
      let s3 := (s2.emit sc (s2.stream sc).writeEnd).fire 121
      if (s3.stream sc).state = 1 then s3.streamEnd sc else s3
    else if (s2.stream sc).ready.isEmpty then s2
    else
      let s3 := if (s2.stream sc).rstDue then s2.putRestart sc false else s2
      let s4 := s3.encodeNext sc
      let s5 := s4.countFld (R.tcxLane n) F.tcxLane.GROUPS
      if s5.docMarkDue (s5.stream sc) then s5.putRestart sc true else s5

/-! ## Decoding (R311, R312, R392) -/

/-- A decode error stops the context (R312). -/
def State.decodeError (s : State) (sc cause used : Nat) : State :=
  let t := s.stream sc
  let st := if cause = Derr.ecc then St.eccUncorrectable else St.invalidField
  let s1 := s.setStream sc { t with state := 4, derr := cause, failStatus := st, reads := [] }
  let s2 := if s1.bit R.tcxDerr F.tcxDerr.VALID then s1
    else (s1.setReg R.tcxDerr (BitVec.ofNat 32 (1 + cause * 2 + sc * 2 ^ 16))).setReg64 R.tcxDerrOfsLo R.tcxDerrOfsHi (t.bytes + used)
  let s3 := (s2.setFld R.tcxStat F.tcxStat.DERR 1).fire 123
  t.reads.foldl (fun u b => u.bufferDone b 0 st) (s3.addMark sc infoEnd st)

/-- Input bytes are taken from the posted buffers, at most what is left in them: the buffers after it, and the bytes. -/
def takeInput : List Posted → List Byte → List Posted × Nat
  | [], _ => ([], 0)
  | b :: r, l =>
    let n := min l.length (b.size - b.used)
    let b1 := { b with used := b.used + n, crc := (l.take n).foldl crc32cByte b.crc }
    let o := takeInput r (l.drop n)
    (b1 :: o.1, n + o.2)

/-- Buffers whose bytes have all been consumed complete (R392). -/
def State.readsDone (sc : Nat) : Nat → State → State
  | 0, s => s
  | fuel + 1, s =>
    let t := s.stream sc
    match t.reads with
    | [] => s
    | b :: r =>
      if b.used = b.size ∧ b.first + b.size ≤ t.bytes then
        State.readsDone sc fuel ((s.setStream sc { t with reads := r, inputEnd := t.inputEnd || b.last }).bufferDone b 0 0)
      else s

/-- Markers at a line-group boundary, at most `fuel` of them. -/
def State.decodeMarks (sc : Nat) : Nat → State → State × Option DecStop
  | 0, s => (s, none)
  | fuel + 1, s =>
    let t := s.stream sc
    match t.peekMark with
    | .error e => (s, some e)
    | .ok .none => (s, none)
    | .ok (.restart m) =>
      match t.takeRestart m with
      | .error e => (s, some e)
      | .ok t' => State.decodeMarks sc fuel ((s.setStream sc t').fire 120)
    | .ok .last =>
      match t.takeEnd with
      | .error e => (s, some e)
      | .ok t' => (((s.setStream sc t').fire 121).streamEnd sc, none)

/-- The segment header, where it is still to come. -/
def State.decodeHeader (s : State) (sc : Nat) : State × Option DecStop :=
  if (s.stream sc).hdr then (s, none)
  else match (s.stream sc).parseHeader with
    | .error e => (s, some e)
    | .ok t => ((s.setStream sc t).fire 122, none)

/-- One line group, its values delivered as U16 (R311, KIND 1). -/
def State.decodeNext (s : State) (n sc : Nat) : State × Option DecStop :=
  let t := s.stream sc
  if t.finished then (s, none)
  else if t.rstDue then (s, some (.err Derr.rstSeq 0))
  else
    let a := s.rowsAbove t
    match t.decodeGroup a.2 with
    | .error e => (s, some e)
    | .ok (t1, rows, esc) =>
      let s1 := ((a.1.storeRows t rows).escapes esc).setStream sc t1
      let out := rows.flatMap (fun r => r.flatMap (fun v => bytesLE 2 (v <<< t.inshift)))
      ((s1.streamBytes sc out).countFld (R.tcxLane n) F.tcxLane.GROUPS, none)

/-- What a decode step comes to. -/
def State.decodeStop (sc : Nat) (r : State × Option DecStop) (k : State → State) : State :=
  match r.2 with
  | none => k r.1
  | some .more => r.1
  | some (.err c u) => r.1.decodeError sc c u

/-- A lane decodes with `input`, the next bytes of the posted buffers. -/
def State.decodeStep (s : State) (n sc : Nat) (input : List Byte) (bad : Option Nat) : State :=
  let s0 := s.takeSnapshots sc
  let t := s0.stream sc
  if t.state ≠ 2 ∨ t.finished then s0
  else
    let o := takeInput t.reads input
    let marked := (List.range o.2).map (fun i => if bad = some i then none else input[i]?)
    let s1 := s0.setStream sc { t with reads := o.1, input := t.input ++ marked }
    let s2 := State.decodeStop sc (s1.decodeHeader sc) (fun a =>
      State.decodeStop sc (State.decodeMarks sc 2 a) (fun b =>
        State.decodeStop sc (b.decodeNext n sc) (fun c =>
          if (c.stream sc).finished then c else State.decodeStop sc (State.decodeMarks sc 2 c) (fun d => d))))
    let s3 := State.readsDone sc (t.reads.length + 1) s2
    s3.refreshOcc

end Sys2Proof.Machine
end

