-- ==== Sys2Proof/Machine/Events.lean ====
section
/-!
DEFINITION. Sys2Proof/Machine/Events.lean: software events, the event monitor and the event timers (R38-R46), and the
patrol scrubber (R37).
-/
namespace Sys2Proof.Machine

/-! ## Event timers -/

/-- MODE of timer n. -/
def State.etimMode (s : State) (n : Nat) : Nat := s.fld (R.etimCtl n) F.etimCtl.MODE

/-- Timer n is counting. -/
def State.etimRun (s : State) (n : Nat) : Bool := s.bit (R.etimStat n) F.etimStat.RUN

/-- COUNT takes LOAD, of which 0 behaves as 1, and the prescaler restarts (R43). -/
def State.etimLoadCount (s : State) (n : Nat) : State :=
  let l := s.reg (R.etimLoad n)
  let s1 := s.setReg (R.etimCount n) (if l = 0 then 1 else l)
  { s1 with sys := { s1.sys with etimPresc := Table.erase s1.sys.etimPresc n } }

/-- RUN of timer n, which shows as DWELL of the enabled paths whose dwell timer it is (R230). -/
def State.etimSetRun (s : State) (n v : Nat) : State :=
  (s.setFld (R.etimStat n) F.etimStat.RUN v).forEach 4 (fun k t =>
    if t.bit (R.pathCfg k) F.pathCfg.EN && t.fld (R.pathCfg k) F.pathCfg.DWELL_TIM == n then
      t.setFld (R.pathStat k) F.pathStat.DWELL v
    else t)

/-- A start event of an enabled timer (Table 1-9). (DEDUCED: notes/assumptions/26.) -/
def State.etimStart (s : State) (n : Nat) : State :=
  if !(s.bit (R.etimCtl n) F.etimCtl.EN) || s.etimMode n == 3 then s
  else if !(s.etimRun n) then (s.etimLoadCount n).etimSetRun n 1
  else if s.etimMode n == 2 then s.etimLoadCount n
  else s.setFld (R.etimStat n) F.etimStat.START_IGN 1

/-- A cancel event: stops a running timer without firing, or reloads a running watchdog (Table 1-9). -/
def State.etimCancel (s : State) (n : Nat) : State :=
  if !(s.etimRun n) then s
  else if s.etimMode n == 2 then s.etimLoadCount n
  else s.etimSetRun n 0

/-- COUNT of a running timer reaches 0: it fires EV(128 + n), and stops or reloads (R43, Table 1-9). -/
def State.etimExpire (s : State) (n : Nat) : State :=
  if !(s.etimRun n) then s
  else
    let s1 := ((s.setReg (R.etimCount n) 0).setFld (R.etimStat n) F.etimStat.FIRED 1).fire (128 + n)
    if s.etimMode n == 1 then s1.etimLoadCount n else s1.etimSetRun n 0

/-- An enable that acts as a start event in the following cycle (R44): the timer is loaded now, and its first cycle does not
count. -/
def State.etimEnabled (s : State) (n : Nat) : State :=
  let s1 := s.etimStart n
  { s1 with sys := { s1.sys with etimNew := addSorted s1.sys.etimNew n } }

/-- A write of ETIMn_CTL (R43, R44, R49-R51): discarded when another claimant holds the timer; EN = 1 claims it and, when
it was 0 and no start selector is enabled, acts as a start; EN = 0 stops it and releases the claim. -/
def State.etimCtlWrite (s : State) (path : Path) (n : Nat) (w : Word) : State :=
  let who := claimantOf path
  let h := s.owner (.timer n)
  if h ≠ 0 ∧ h ≠ who then s.foreignWrite (.timer n) path (R.etimCtl n) (w.getLsbD 0)
  else
    let was := s.bit (R.etimCtl n) F.etimCtl.EN
    let s1 := s.writeRow path (R.etimCtl n) Row.etimCtl w (s.etimRun n)
    if w.getLsbD 0 then
      let s2 := s1.setOwner (.timer n) who
      if !was && !(s2.selOn (R.etimStartSel n)) then s2.etimEnabled n else s2
    else (s1.etimSetRun n 0).setOwner (.timer n) 0

/-- One FABCLK cycle of a timer (R43): cancel, start, then prescaler and counter, which skip the cycle of a load. -/
def State.etimCycle (s : State) (n : Nat) (cancel start : Bool) : State :=
  let dog := s.etimMode n == 2
  let s1 := if cancel then s.etimCancel n else s
  let s2 := if start then s1.etimStart n else s1
  let loaded := (cancel && s.etimRun n && dog) || (start && s1.bit (R.etimCtl n) F.etimCtl.EN && (dog || !(s1.etimRun n))) ||
    s.sys.etimNew.contains n
  if loaded || !(s2.etimRun n) then s2
  else
    let c := Table.get (fun _ => 0) s2.sys.etimPresc n + 1
    if c < 2 ^ s2.fld (R.etimCtl n) F.etimCtl.PRESC then
      { s2 with sys := { s2.sys with etimPresc := Table.set (fun _ => 0) s2.sys.etimPresc n c } }
    else
      let s3 := { s2 with sys := { s2.sys with etimPresc := Table.erase s2.sys.etimPresc n } }
      if s3.reg (R.etimCount n) ≤ 1 then s3.etimExpire n else s3.setReg (R.etimCount n) (s3.reg (R.etimCount n) - 1)

/-! ## Patrol scrubber -/

/-- Words of one pass: the SRAM pools, then the page store, in 128-bit words. -/
def scrubSramWords : Nat := 0x1D80000 / 16
def scrubWords : Nat := scrubSramWords + 0x80000000 / 16

/-- The address of word `i` of the pass. -/
def scrubAddress (i : Nat) : Nat := if i < scrubSramWords then 16 * i else pageBase + 16 * (i - scrubSramWords)

end Sys2Proof.Machine
end

