-- ==== Sys2Proof/Machine/Transport.lean ====
section
/-!
DEFINITION. Sys2Proof/Machine/Transport.lean: axes, encoders, path sensors, paths and their states, the pacing loop, seam-free
stop and restart, jams (R215-R251).
-/
namespace Sys2Proof.Machine

/-- GAIT's claimant ID. -/
def claimantGait : Nat := 0x14

/-- A path is idle for Idle only fields: OFF or HALT. -/
def State.pathIdle (s : State) (k : Nat) : Bool := decide (s.pathState k ≤ 1)

/-- Fields of a path's registers. -/
def State.pcfg (s : State) (k : Nat) (f : Fld) : Nat := s.fld (R.pathCfg k) f
def State.pathOn (s : State) (k : Nat) : Bool := s.bit (R.pathCfg k) F.pathCfg.EN
def State.setPstat (s : State) (k : Nat) (f : Fld) (v : Nat) : State := s.setFld (R.pathStat k) f v

/-- The axes of a path, and its feed axis when it has one (R244). -/
def State.axesOf (s : State) (k : Nat) : List Nat := setBits (s.pcfg k F.pathCfg.AXES) 4
def State.feedAxis (s : State) (k : Nat) : Option Nat :=
  if s.fld (R.pathFeed k) F.pathFeed.MODE = 2 then some (s.fld (R.pathFeed k) F.pathFeed.AXIS) else none

/-- Paths, enabled or configured so, that use an axis. -/
def State.axisPaths (s : State) (n : Nat) : List Nat :=
  (List.range 4).filter (fun k => s.pathOn k && ((s.axesOf k).contains n || s.feedAxis k == some n))

/-- An axis is idle while every path that uses it is idle. -/
def State.axisIdle (s : State) (n : Nat) : Bool := (s.axisPaths n).all (fun k => s.pathIdle k)

/-- An encoder is idle while every path that uses it is idle and no enabled program triggers from it. -/
def State.encIdle (s : State) (e : Nat) : Bool :=
  (List.range 4).all (fun k => !(s.pathOn k) || s.pcfg k F.pathCfg.PSRC != e || s.pathIdle k) &&
    (List.range 8).all (fun p => !(s.bit (R.lpCfg p) F.lpCfg.EN) || s.fld (R.lpCfg p) F.lpCfg.SRC != e)

/-! ## Views (R218, Tables 7-6 to 7-9) -/

/-- The speed of an axis: its path's, or the feed's. -/
def State.axisSpeed (s : State) (n : Nat) : Nat :=
  match s.axisPaths n with
  | k :: _ =>
    if s.gait.faulted.testBit n then 0
    else if (s.axesOf k).contains n then (s.pathSt k).speed else (s.pathSt k).feedSpeed
  | [] => 0

/-- Speeds are held in 2^-16 / 100,000 full steps per second, so that ramps add up exactly (R228). -/
def speedUnit : Nat := 100000

/-- MUSTEP, above 8 acting as 8. -/
def State.mustep (s : State) (n : Nat) : Nat := min 8 (s.fld (R.axisCtl n) F.axisCtl.MUSTEP)

/-- The driver of an axis is enabled: RUN = 1, no driver fault, and the path neither OFF nor in JAM at rest with JAM_DIS = 1
(R218, R219). -/
def State.axisDriven (s : State) (n : Nat) : Bool :=
  s.gait.configured.testBit n && s.bit (R.axisCtl n) F.axisCtl.RUN && !(s.gait.faulted.testBit n) &&
    (match s.axisPaths n with
     | k :: _ => s.pathState k != 0 &&
        !(s.pathState k == 7 && s.pcfg k F.pathCfg.JAM_DIS == 1 && (s.pathSt k).speed == 0 && (s.pathSt k).target == 0)
     | [] => false)

/-- The registers and pins of axis n follow the state. -/
def State.refreshAxis (s : State) (n : Nat) : State :=
  let v := s.axisSpeed n
  let on := s.axisDriven n
  let pol := s.bit (R.axisCtl n) F.axisCtl.EN_POL
  let rev := match s.axisPaths n with | k :: _ => (s.pathSt k).reverse | [] => false
  let inv := s.bit (R.axisCtl n) F.axisCtl.DIR_INV
  let put (m : Nat) (b : Bool) : Nat := if b then m ||| 2 ^ n else if m.testBit n then m - 2 ^ n else m
  let dir := if v = 0 then s.gait.dirLevel.testBit n else (rev == inv)
  let s1 := (s.setFld (R.axisStat n) F.axisStat.EN (if on then 1 else 0)).setFld (R.axisStat n) F.axisStat.MOVING
    (if v = 0 then 0 else 1)
  let s2 := (s1.setFld (R.axisStat n) F.axisStat.REV (if v != 0 && rev then 1 else 0)).setFld (R.axisRate n) F.axisRate.HZ
    (v * (s.reg (R.axisRatio n)).toNat * 2 ^ s.mustep n / (speedUnit * 2 ^ 32))
  { s2 with gait := { s2.gait with enLevel := put s2.gait.enLevel (on == pol), dirLevel := put s2.gait.dirLevel dir } }

/-- The views of path k: GAIT.STAT and its axes. -/
def State.refreshPath (s : State) (k : Nat) : State :=
  let st := s.pathState k
  let one (b : Bool) : Nat := if b then 1 else 0
  let s1 := (s.setFld R.gaitStat ⟨k, 1⟩ (one ((s.pathSt k).speed != 0))).setFld R.gaitStat ⟨4 + k, 1⟩ (one (st == 7))
  let s2 := (s1.setFld R.gaitStat ⟨8 + k, 1⟩ (s.fld (R.pathStat k) F.pathStat.FEED_HOLD)).setFld R.gaitStat ⟨12 + k, 1⟩
    (one (st == 4 || st == 5 || st == 6))
  s2.forEach 4 (fun n t => t.refreshAxis n)

/-- A path enters a state; GAIT reads 0 outside RUN (R228). -/
def State.enterPath (s : State) (k st : Nat) : State :=
  let s1 := s.setPstat k F.pathStat.STATE st
  (if st = 2 then s1 else s1.setPstat k F.pathStat.GAIT 0).refreshPath k

/-- FEED_HOLD of a path (R244). -/
def State.feedHold (s : State) (k v : Nat) : State := (s.setPstat k F.pathStat.FEED_HOLD v).refreshPath k

/-- GSPDg of a path in the units of the ramps; gait 0 is rest. -/
def State.gaitSpeed (s : State) (k g : Nat) : Nat := if g = 0 then 0 else (s.reg (R.pathGspd k g)).toNat * speedUnit

/-- The path ramps to a gait. -/
def State.rampTo (s : State) (k g : Nat) : State :=
  (s.setPathSt k { s.pathSt k with target := s.gaitSpeed k g, hard := false, atRest := .stay }).setPstat k F.pathStat.TARGET g

/-- The path decelerates to rest, at JDEC when `hard`; `what` follows at rest. -/
def State.rampDown (s : State) (k : Nat) (hard : Bool) (what : AtRest) : State :=
  (s.setPathSt k { s.pathSt k with target := 0, hard := hard, atRest := what }).setPstat k F.pathStat.TARGET 0

/-! ## The dwell (R230) -/

/-- GAIT starts the dwell timer as a one-shot timer of DWELL_MS; a prescaler of 256 makes a millisecond 3,125 counts. -/
def State.dwellStart (s : State) (k : Nat) : State :=
  let n := s.pcfg k F.pathCfg.DWELL_TIM
  let ms := max 200 (s.fld (R.pathPolicy k) F.pathPolicy.DWELL_MS)
  let s1 := (s.setFld (R.etimCtl n) F.etimCtl.MODE 0).setFld (R.etimCtl n) F.etimCtl.PRESC 8
  ((s1.setReg (R.etimLoad n) (BitVec.ofNat 32 (ms * 3125))).etimLoadCount n).etimSetRun n 1

/-- The dwell runs. -/
def State.dwelling (s : State) (k : Nat) : Bool := s.etimRun (s.pcfg k F.pathCfg.DWELL_TIM)

/-- A gait decision: the loop's or the GAIT command's (R228-R230, Table 7-5). -/
def State.gaitDecide (s : State) (k g : Nat) : State :=
  ((((s.rampTo k g).setPstat k F.pathStat.GAIT g).count (R.pathGaitCnt k)).fire (168 + k)).dwellStart k

/-- g lies within GMIN to GMAX. -/
def State.gaitOk (s : State) (k g : Nat) : Bool :=
  decide (s.fld (R.pathPolicy k) F.pathPolicy.GMIN ≤ g ∧ g ≤ s.fld (R.pathPolicy k) F.pathPolicy.GMAX)

/-! ## Jams (R246, R247) -/

/-- Position of a path's source. -/
def State.pathPos (s : State) (k : Nat) : Int := s.position (s.pcfg k F.pathCfg.PSRC)

/-- Groups whose seams belong to path k: enabled, and clocked by a program of the path. -/
def State.seamGroups (s : State) (k : Nat) : List Nat :=
  (List.range 4).filter (fun g => s.bit (R.seamCfg g) F.seamCfg.EN && s.seamPath g == k && s.bit (R.grpCtl g) F.grpCtl.EN &&
    (s.fld (R.pathLinks k) F.pathLinks.LPS).testBit (s.fld (R.grpCtl g) F.grpCtl.LP))

/-- A pending seam of path k is abandoned. -/
def State.dropSeam (s : State) (k : Nat) : State :=
  let s1 := s.setPathSt k { s.pathSt k with seams := [], overlap := 0 }
  (List.range 4).foldl (fun t g => if t.seamPath g = k then t.setSeamSt g {} else t) s1

/-- Close the windows of a path's tracks with a status (R210). -/
def State.closeTracks (s : State) (k status : Nat) : State :=
  (setBits (s.fld (R.pathLinks k) F.pathLinks.TRKS) 4).foldl (fun t tr => t.trackClose tr status) s

/-- A jam in path k (R247): counted only while the path is in JAM. -/
def State.jam (s : State) (k cause chk : Nat) : State :=
  if s.pathState k = 0 then s
  else if s.pathState k = 7 then s.count (R.pathJamCnt k)
  else
    let s1 := (s.setPathSt k { s.pathSt k with haltWhenEmpty := false, holdByLoop := false }).rampDown k true .jam
    let s2 := (s1.setPstat k F.pathStat.FEED_HOLD 1).closeTracks k St.transportJam
    let s3 := s2.setPstat k F.pathStat.JAM_CAUSE cause
    let s4 := if cause ≤ 3 then s3.setPstat k F.pathStat.JAM_CHK chk else s3
    let s5 := (((s4.count (R.pathJamCnt k)).fire (176 + k)).dropSeam k).enterPath k 7
    { s5 with work := s5.work ++ [Work.jam k] }

/-- Enabled checkpoints of a path, in order. -/
def State.checkpoints (s : State) (k : Nat) : List Nat :=
  (List.range 8).filter (fun i => s.bit (R.pathChkA k i) F.pathChkA.EN)

/-- Levels of the enabled checkpoints' sensors, as a mask of checkpoints. -/
def State.chkLevels (s : State) (k : Nat) : Nat :=
  planeMask ((s.checkpoints k).filter (fun i => (s.reg R.gaitPsIn).getLsbD (s.fld (R.pathChkA k i) F.pathChkA.PS)))

/-- When the position first exceeds the rest position of a seam stop, the checkpoints are compared (R233). -/
def State.slipCheck (s : State) (k : Nat) : State :=
  let x := s.pathSt k
  if x.slipDue && s.pathOn k && decide (x.restPos < s.pathPos k) then
    let s1 := s.setPathSt k { x with slipDue := false }
    if s1.chkLevels k = x.restLevels then s1 else s1.jam k 6 0
  else s

/-- A position source has moved: the slip checks of the paths that follow it. -/
def State.positionMoved (s : State) (src : Nat) : State :=
  s.forEach 4 (fun k t => if t.pcfg k F.pathCfg.PSRC = src then t.slipCheck k else t)

/-! ## Axes and ramps (R215-R219, R228) -/

/-- A write of Mn_CTL: the axis is configured from the first one on (R218). -/
def State.axisCtlWrite (s : State) (path : Path) (n : Nat) (w : Word) : State :=
  let s1 := s.writeRow path (R.axisCtl n) Row.axisCtl w (!(s.axisIdle n))
  { s1 with gait := { s1.gait with configured := s1.gait.configured ||| 2 ^ n } }.refreshAxis n

/-- A step pulse of axis n (R217). -/
def State.axisStep (s : State) (n : Nat) : State :=
  if s.axisSpeed n = 0 || !(s.axisDriven n) || !(s.pdOn 131) then s
  else
    let pos := signed 64 (s.reg64 (R.axisPosLo n) (R.axisPosHi n))
    let fwd := s.gait.dirLevel.testBit n != s.bit (R.axisCtl n) F.axisCtl.DIR_INV
    let pos' := if fwd then pos + 65536 else pos - 65536
    (s.setReg64 (R.axisPosLo n) (R.axisPosHi n) (unsigned 64 pos')).positionMoved (2 + n)

/-- One step of a linear ramp toward a target. -/
def rampStep (v target up down : Nat) : Nat :=
  if v < target then min target (v + up) else max target (v - down)

/-- The 10 µs update of a path's speed and of its feed (R228, R244). Rates are in 16 full steps/s² per count, so that 10 µs
change the speed by 16 * 65536 of its units per count. (DESIGN CHOICE: notes/assumptions/31.) -/
def State.rampUpdate (s : State) (k : Nat) : State :=
  let x := s.pathSt k
  let unit (c : Nat) : Nat := c * 16 * 65536
  let acc := unit (s.fld (R.pathRamp k) F.pathRamp.ACC)
  let dec := unit (s.fld (R.pathRamp k) F.pathRamp.DEC)
  let down := if x.hard then unit (s.fld (R.pathGuard k) F.pathGuard.JDEC) else dec
  let v := rampStep x.speed x.target acc down
  let hold := s.bit (R.pathStat k) F.pathStat.FEED_HOLD
  let f := if (s.feedAxis k).isSome then rampStep x.feedSpeed (if hold then 0 else v) acc (if x.hard then down else dec) else 0
  if s.pathState k = 0 || !(s.pdOn 131) then s
  else (s.setPathSt k { x with speed := v, feedSpeed := f }).refreshPath k

/-- A driver fault (R219): a low level on Mn_FAULT_N held for 1 µs; `low` is false when the level returns to high. -/
def State.driverFault (s : State) (n : Nat) (low : Bool) : State :=
  let s1 := s.setFld (R.axisStat n) F.axisStat.FAULT_IN (if low then 0 else 1)
  if !(low && s.bit (R.axisCtl n) F.axisCtl.FAULT_EN) then s1
  else
    let s2 := { s1 with gait := { s1.gait with faulted := s1.gait.faulted ||| 2 ^ n } }
    let s3 := (s2.setFld (R.axisStat n) F.axisStat.FAULT 1).refreshAxis n
    (s.axisPaths n).foldl (fun t k => t.jam k 5 0) s3

/-! ## Encoders (R220, R221, R223) -/

/-- A write of ENCe_CFG; at an accepted enable the levels at the pins form the start state. -/
def State.encCfgWrite (s : State) (path : Path) (e : Nat) (w : Word) (a b : Bool) : State :=
  let was := s.bit (R.encCfg e) F.encCfg.EN
  let s1 := s.writeRow path (R.encCfg e) Row.encCfg w (!(s.encIdle e))
  if !was && s1.bit (R.encCfg e) F.encCfg.EN then s1.setEnc e { s1.enc e with a := a, b := b } else s1

/-- Place of a level pair in the forward sequence 00, 10, 11, 01. -/
def quadPlace (a b : Bool) : Nat := match a, b with
  | false, false => 0
  | true, false => 1
  | true, true => 2
  | false, true => 3

/-- New levels of A and B are accepted (R220); while the encoder is off they only form the next start state. -/
def State.encoderEdge (s : State) (e : Nat) (a b : Bool) : State :=
  let x := s.enc e
  if !(s.bit (R.encCfg e) F.encCfg.EN && s.pdOn 131) then s.setEnc e { x with a := a, b := b }
  else if x.a == a && x.b == b then s
  else
    let s1 := s.setEnc e { x with a := a, b := b }
    if x.a != a && x.b != b then (s1.count (R.encErrCnt e)).setFld (R.encStat e) F.encStat.ERR 1
    else
      let fwd := quadPlace a b == (quadPlace x.a x.b + 1) % 4
      let up := fwd != s.bit (R.encCfg e) F.encCfg.INV
      let pos := signed 64 (s.reg64 (R.encPosLo e) (R.encPosHi e))
      (s1.setReg64 (R.encPosLo e) (R.encPosHi e) (unsigned 64 (if up then pos + 65536 else pos - 65536))).positionMoved e

/-- An accepted rising edge of Z (R221). -/
def State.encoderIndex (s : State) (e : Nat) : State :=
  if s.bit (R.encCfg e) F.encCfg.EN && s.bit (R.encCfg e) F.encCfg.Z_EN && s.pdOn 131 then
    (s.setReg64 (R.encZposLo e) (R.encZposHi e) (s.reg64 (R.encPosLo e) (R.encPosHi e))).setFld (R.encStat e) F.encStat.ZSEEN 1
  else s

/-- The stall timer of an encoder expires (R223): it runs while the axes of a path with that source step. -/
def State.encoderStall (s : State) (e : Nat) : State :=
  match (List.range 4).filter (fun k => s.pathOn k && s.pcfg k F.pathCfg.PSRC == e && (s.pathSt k).speed != 0 &&
      s.fld (R.pathGuard k) F.pathGuard.STALL_US != 0) with
  | [] => s
  | ks => ks.foldl (fun t k => t.jam k 4 0) (s.setFld (R.encStat e) F.encStat.STALL 1)

/-! ## Path sensors and checkpoints (R224, R245, R246) -/

/-- The enabled checkpoint before i, and the one after it. -/
def State.chkBefore (s : State) (k i : Nat) : Option Nat := ((s.checkpoints k).filter (fun j => decide (j < i))).getLast?
def State.chkAfter (s : State) (k i : Nat) : Option Nat := (s.checkpoints k).find? (fun j => decide (i < j))

/-- Documents waiting for checkpoint i. -/
def PathSt.waits (x : PathSt) (i : Nat) : List Int := Table.get (fun _ => []) x.waiting i

/-- A flow path that was stopped comes to HALT once its track is empty (Table 7-1). -/
def State.haltIfEmpty (s : State) (k : Nat) : State :=
  let x := s.pathSt k
  if x.haltWhenEmpty && s.pathState k == 2 && s.fld (R.pathOcc k) F.pathOcc.IN_TRACK == 0 then
    (s.setPathSt k { x with haltWhenEmpty := false }).rampDown k false .halt
  else s

/-- Checkpoint i of path k is covered (R245, R246). -/
def State.chkCovered (s : State) (k i : Nat) : State :=
  let pos := s.pathPos k
  let x := s.pathSt k
  let x1 := { x with coveredAt := Table.set (fun _ => none) x.coveredAt i (some pos) }
  let x2 := match s.chkAfter k i with
    | some j => { x1 with waiting := Table.set (fun _ => []) x1.waiting j (x1.waits j ++ [pos]) }
    | none => x1
  let s1 := (s.setPathSt k x2)
  let s2 := if i = 0 then s1.countFld (R.pathOcc k) F.pathOcc.IN_TRACK else s1
  if i = 0 || (s.chkBefore k i).isNone then s2
  else match x2.waits i with
    | [] => s2.jam k 3 i
    | _ :: r => s2.setPathSt k { x2 with waiting := Table.set (fun _ => []) x2.waiting i r }

/-- Checkpoint i of path k is uncovered (R245). -/
def State.chkUncovered (s : State) (k i : Nat) : State :=
  let x := s.pathSt k
  let s1 := s.setPathSt k { x with coveredAt := Table.set (fun _ => none) x.coveredAt i none }
  if (s.checkpoints k).getLast? = some i then
    (s1.setFld (R.pathOcc k) F.pathOcc.IN_TRACK (s1.fld (R.pathOcc k) F.pathOcc.IN_TRACK - 1)).haltIfEmpty k
  else s1

/-- PS_IN from the accepted levels and the polarities (R224). -/
def State.refreshPs (s : State) : State :=
  s.setFld R.gaitPsIn F.gaitPsIn.COVERED (s.gait.psLevel ^^^ s.fld R.gaitPsPol F.gaitPsPol.INV)

/-- A level on PSn is accepted (R224). -/
def State.pathSensorChange (s : State) (n : Nat) (level : Bool) : State :=
  if s.gait.psLevel.testBit n == level then s
  else
    let m := if level then s.gait.psLevel ||| 2 ^ n else s.gait.psLevel - 2 ^ n
    let s1 := ({ s with gait := { s.gait with psLevel := m } }).refreshPs
    let cov := (s1.reg R.gaitPsIn).getLsbD n
    let s2 := s1.forEach 8 (fun i t =>
      let e := t.fld (R.gaitPse i) F.gaitPse.EDGE
      if t.bit (R.gaitPse i) F.gaitPse.EN && t.fld (R.gaitPse i) F.gaitPse.PS == n && (e == 3 || (e == 1 && cov) || (e == 2 && !cov)) then
        t.fire (184 + i)
      else t)
    s2.forEach 4 (fun k t =>
      if t.pathOn k then
        (t.checkpoints k).foldl (fun u i =>
          if u.fld (R.pathChkA k i) F.pathChkA.PS = n then (if cov then u.chkCovered k i else u.chkUncovered k i) else u) t
      else t)

/-- A document has not reached checkpoint i within ARR_i counts (R246). -/
def State.jamArrival (s : State) (k i : Nat) : State :=
  let arr := s.fld (R.pathChkA k i) F.pathChkA.ARR
  let x := s.pathSt k
  match x.waits i with
  | p0 :: _ =>
    if s.pathOn k && s.bit (R.pathChkA k i) F.pathChkA.EN && arr != 0 && !x.slipDue &&
        decide (((arr * 65536 : Nat) : Int) < s.pathPos k - p0) then s.jam k 1 i else s
  | [] => s

/-- Checkpoint i stays covered for more than LEN_i counts (R246). -/
def State.jamLength (s : State) (k i : Nat) : State :=
  let len := s.fld (R.pathChkB k i) F.pathChkB.LEN
  let x := s.pathSt k
  match Table.get (fun _ => none) x.coveredAt i with
  | some p0 =>
    if s.pathOn k && s.bit (R.pathChkA k i) F.pathChkA.EN && len != 0 && !x.slipDue &&
        decide (((len * 65536 : Nat) : Int) < s.pathPos k - p0) then s.jam k 2 i else s
  | none => s

/-! ## Enable and disable (R225) -/

/-- Thresholds of gait g. -/
def State.upThr (s : State) (k g : Nat) : Nat := s.fld (R.pathGthr k g) F.pathGthr.UP
def State.downThr (s : State) (k g : Nat) : Nat := s.fld (R.pathGthr k g) F.pathGthr.DOWN

/-- The gaits from GMIN to GMAX. -/
def State.gaits (s : State) (k : Nat) : List Nat := (List.range 8).filter (fun g => s.gaitOk k g)

/-- Cause 2 of R225. -/
def State.policyBad (s : State) (k : Nat) : Bool :=
  let lo := s.fld (R.pathPolicy k) F.pathPolicy.GMIN
  lo == 0 || decide (s.fld (R.pathPolicy k) F.pathPolicy.GMAX < lo) ||
    (s.gaits k).any (fun g => decide (s.downThr k g ≤ s.upThr k g) || (decide (lo < g) && decide (s.downThr k g ≤ s.upThr k (g - 1)))) ||
    decide (s.fld (R.pathOccthr k) F.pathOccthr.STOP ≤ s.fld (R.pathOccthr k) F.pathOccthr.RESUME)

/-- A step rate above 2 MHz (R216). -/
def State.rateBad (s : State) (k g n : Nat) : Bool :=
  decide (2000000 * 2 ^ 32 < (s.reg (R.pathGspd k g)).toNat * (s.reg (R.axisRatio n)).toNat * 2 ^ s.mustep n)

/-- The cause of R225 that a path meets; 0 none. -/
def State.pathCause (s : State) (k : Nat) : Nat :=
  let mine := s.axesOf k
  let feed := (s.feedAxis k).toList
  let lp := s.pcfg k F.pathCfg.LP
  let lps := s.fld (R.pathLinks k) F.pathLinks.LPS
  let ov := s.fld (R.pathSeam k) F.pathSeam.OVERLAP
  let sr := s.fld (R.pathSeam k) F.pathSeam.SRCH
  let pitch := (s.reg (R.lpPitch lp)).toNat
  let back := (s.fld (R.pathSeam2 k) F.pathSeam2.BACKLASH * 65536 + pitch - 1) / pitch
  let seamEn := s.pcfg k F.pathCfg.SEAM_EN = 1
  if (mine ++ feed).any (fun n => (s.axisPaths n).any (fun j => j != k)) || feed.any (fun n => mine.contains n) then 1
  else if s.policyBad k then 2
  else if (s.gaits k).any (fun g => s.reg (R.pathGspd k g) == 0 || mine.any (fun n => s.rateBad k g n)) then 3
  else if seamEn && decide (ov < 4 ∨ 12 < ov ∨ sr < 1 ∨ 4 < sr ∨ s.fld (R.pathSeam k) F.pathSeam.BACKOFF < ov + sr + 2 + back) then 4
  else if !(lps.testBit lp) || (setBits lps 8).any (fun p => s.fld (R.lpCfg p) F.lpCfg.SRC != s.fld (R.lpCfg lp) F.lpCfg.SRC ||
      s.reg (R.lpPitch p) != s.reg (R.lpPitch lp)) || s.fld (R.lpCfg lp) F.lpCfg.SRC != s.pcfg k F.pathCfg.PSRC ||
      (s.pcfg k F.pathCfg.FLOW == 1 && seamEn) then 5
  else 0

/-- The resources that an enable claims: the dwell timer, and the feed solenoid's pin with function 3. -/
def State.pathRes (s : State) (k : Nat) : List Res :=
  [Res.timer (s.pcfg k F.pathCfg.DWELL_TIM)] ++
    (if s.fld (R.pathFeed k) F.pathFeed.MODE = 1 then [Res.pin (s.fld (R.pathFeed k) F.pathFeed.GPIO) 3] else [])

/-- Claim resources in order; false with those newly claimed released when one is refused. -/
def State.claimAll (s : State) (l : List Res) (who : Nat) : State × Bool :=
  let start := s
  let r := l.foldl (fun (a : State × Bool) r => if a.2 then (let c := a.1.claim r who; (c.1, c.2 == .ok)) else a) (s, true)
  if r.2 then r else (l.foldl (fun t q => if start.owner q = who || t.owner q != who then t else t.setOwner q 0) r.1, false)

/-- The path is OFF: its claims are released. -/
def State.pathOff (s : State) (k : Nat) : State :=
  let s1 := (s.pathRes k).foldl (fun t r => (t.release r claimantGait).1) s
  (s1.setPathSt k { s1.pathSt k with atRest := .stay, haltWhenEmpty := false, holdByLoop := false, reverse := false }).enterPath k 0

/-- A write of PATHk_CFG (R225, Table 7-1). -/
def State.pathCfgWrite (s : State) (path : Path) (k : Nat) (w : Word) : State :=
  let was := s.pathOn k
  let s1 := s.writeRow path (R.pathCfg k) Row.pathCfg w (!(s.pathIdle k))
  if w.getLsbD 0 && !was then
    let off (t : State) : State := t.setFld (R.pathCfg k) F.pathCfg.EN 0
    match s1.claimAll (s1.pathRes k) claimantGait with
    | (t, false) => off (t.errClaim path (R.pathCfg k))
    | (t, true) =>
      let c := t.pathCause k
      if c = 0 then (t.setPathSt k { t.pathSt k with atRest := .stay }).enterPath k 1
      else
        let back := (s1.pathRes k).foldl (fun u r => if s1.owner r = 0 then u.setOwner r 0 else u) t
        off ((back.setPstat k F.pathStat.CFG_ERR 1).setPstat k F.pathStat.CFG_CAUSE c)
  else if !(w.getLsbD 0) && was then
    let s2 := (s1.dropSeam k).rampDown k true .off
    if (s2.pathSt k).speed = 0 then s2.pathOff k else s2.refreshPath k
  else s1.refreshPath k

/-- Writes of PATHk_POLICY, OCCTHR and GTHRg to an enabled path that would fail cause 2 are discarded. -/
def State.pathPolicyWrite (s : State) (path : Path) (k off : Nat) (row : RegRow) (w : Word) : State :=
  let s1 := s.writeRow path off row w false
  if s.pathOn k && s1.policyBad k then (s.setPstat k F.pathStat.CFG_ERR 1).setPstat k F.pathStat.CFG_CAUSE 2 else s1

/-- A write of PATHk_GSPDg: a change to the current gait ramps at once. -/
def State.gspdWrite (s : State) (path : Path) (k g : Nat) (w : Word) : State :=
  let s1 := s.writeRow path (R.pathGspd k g) Row.pathGspd w false
  if s1.pathState k = 2 ∧ s1.fld (R.pathStat k) F.pathStat.TARGET = g then
    s1.setPathSt k { s1.pathSt k with target := s1.gaitSpeed k g } else s1

/-! ## Commands and the pacing loop (R226-R231, R244, R248, R250) -/

/-- A command without effect (R227). -/
def State.cmdIgnored (s : State) (k : Nat) : State := s.setPstat k F.pathStat.CMD_IGN 1

/-- Enter STOPPING (R231, R230, R244). -/
def State.enterStopping (s : State) (k : Nat) : State :=
  (((s.rampDown k false .stop).feedHold k 1).dwellStart k).enterPath k 3

/-- The restart of a stopped path: back-off, or RUN at GMIN without a seam (Table 7-1, R234). (DEDUCED: notes/assumptions/32.) -/
def State.restart (s : State) (k : Nat) : State :=
  if s.pcfg k F.pathCfg.SEAM_EN = 1 then
    let lp := s.pcfg k F.pathCfg.LP
    let last := signed 64 (s.reg64 (R.pathLastLo k) (R.pathLastHi k))
    let goal := last - (s.fld (R.pathSeam k) F.pathSeam.BACKOFF * (s.effReg (R.lpPitch lp)).toNat : Nat) -
      (s.fld (R.pathSeam2 k) F.pathSeam2.BACKLASH * 65536 : Nat)
    let s1 := s.rampTo k (s.fld (R.pathSeam k) F.pathSeam.SEAM_GAIT)
    (s1.setPathSt k { s1.pathSt k with reverse := true, goal := goal }).enterPath k 5
  else
    let g := s.fld (R.pathPolicy k) F.pathPolicy.GMIN
    (((s.dropSeam k).rampTo k g).setPstat k F.pathStat.GAIT g).enterPath k 2

def State.cmdStart (s : State) (k g : Nat) : State :=
  if s.pathState k = 1 && s.pathOn k && s.gaitOk k g then ((s.rampTo k g).setPstat k F.pathStat.GAIT g).enterPath k 2
  else s.cmdIgnored k

/-- A stop of a running path: a seam stop, or a feed hold and HALT once the track is empty. -/
def State.stopPath (s : State) (k : Nat) : State :=
  if s.pcfg k F.pathCfg.FLOW = 0 then s.enterStopping k
  else
    let s1 := s.feedHold k 1
    (s1.setPathSt k { s1.pathSt k with haltWhenEmpty := true, holdByLoop := false }).haltIfEmpty k

def State.cmdStop (s : State) (k : Nat) : State := if s.pathState k = 2 then s.stopPath k else s.cmdIgnored k

def State.cmdResume (s : State) (k : Nat) : State :=
  if s.pathState k = 4 then (s.feedHold k 0).restart k else s.cmdIgnored k

def State.cmdAbandon (s : State) (k : Nat) : State :=
  let st := s.pathState k
  if st = 3 ∨ st = 4 ∨ st = 5 ∨ st = 6 then
    let s1 := ((s.closeTracks k St.aborted).dropSeam k).rampDown k false .halt
    if (s1.pathSt k).speed = 0 then
      ((s1.setPathSt k { s1.pathSt k with atRest := .stay, reverse := false }).fire (172 + k)).enterPath k 1
    else s1
  else s.cmdIgnored k

def State.cmdHalt (s : State) (k : Nat) : State := if s.pathState k = 2 then s.rampDown k false .halt else s.cmdIgnored k

def State.cmdGait (s : State) (k g : Nat) : State :=
  if s.pathState k = 2 && s.gaitOk k g then s.gaitDecide k g else s.cmdIgnored k

/-- The end of CLEAR_JAM (R248). -/
def State.clearJamEnd (s : State) (k : Nat) : State :=
  let x := s.pathSt k
  let s1 := s.setPathSt k { x with speed := 0, target := 0, reverse := false, atRest := .stay }
  if s1.chkLevels k = 0 then
    ((s1.setPathSt k { s1.pathSt k with waiting := [], slipDue := false }).setFld (R.pathOcc k) F.pathOcc.IN_TRACK 0).enterPath k 1
  else (s1.setPstat k F.pathStat.JAM_CAUSE 7).refreshPath k

/-- CLEAR_JAM: the axes are driven again and the path reverses by REV counts, or ends at once with REV = 0 (R248). -/
def State.cmdClearJam (s : State) (k : Nat) : State :=
  if s.pathState k = 7 && (s.pathSt k).speed == 0 then
    let axes := (s.axesOf k) ++ (s.feedAxis k).toList
    let s1 := { s with gait := { s.gait with faulted := (setBits s.gait.faulted 4).foldl (fun m n =>
      if axes.contains n then m else m ||| 2 ^ n) 0 } }
    let rev := s1.fld (R.pathRev k) F.pathRev.REV
    if rev = 0 then s1.clearJamEnd k
    else
      let s2 := s1.rampTo k (s1.fld (R.pathPolicy k) F.pathPolicy.GMIN)
      (s2.setPathSt k { s2.pathSt k with
        reverse := true, atRest := .cleared, goal := s2.pathPos k - (rev * 65536 : Nat) }).refreshPath k
  else s.cmdIgnored k

/-- A write of PATHk_CMD (Table 7-2). -/
def State.pathCmd (s : State) (k cmd g : Nat) : State :=
  if !(s.pathOn k) then s.cmdIgnored k
  else match cmd with
  | 0 => s
  | 1 => s.cmdStart k g
  | 2 => s.cmdStop k
  | 3 => s.cmdResume k
  | 4 => s.cmdAbandon k
  | 5 => s.cmdClearJam k
  | 6 => s.cmdHalt k
  | 7 => s.cmdGait k g
  | _ => s.cmdIgnored k

/-- A pulse of the host-loss selector (R250). -/
def State.hostLoss (s : State) (k : Nat) : State :=
  if !(s.selOn (R.pathHlossSel k) && s.pathOn k) then s
  else (if s.pathState k = 2 then s.stopPath k else s).feedHold k 1

/-- The 1 ms evaluation of the pacing loop (R229). -/
def State.paceEval (s : State) (k : Nat) : State :=
  let occ := s.fld (R.pathOcc k) F.pathOcc.OCC
  let stop := s.fld (R.pathOccthr k) F.pathOccthr.STOP
  let resume := s.fld (R.pathOccthr k) F.pathOccthr.RESUME
  let g := s.fld (R.pathStat k) F.pathStat.GAIT
  let run := s.pathState k == 2 && s.pathOn k && (s.pathSt k).atRest == .stay
  let clear := !(s.dwelling k)
  let hold := s.bit (R.pathStat k) F.pathStat.FEED_HOLD && (s.pathSt k).holdByLoop
  if run && decide (stop ≤ occ) then
    if s.pcfg k F.pathCfg.FLOW = 0 then s.enterStopping k
    else if s.bit (R.pathStat k) F.pathStat.FEED_HOLD then s
    else (s.setPathSt k { s.pathSt k with holdByLoop := true }).feedHold k 1
  else if run && clear && decide (s.downThr k g ≤ occ ∧ s.fld (R.pathPolicy k) F.pathPolicy.GMIN < g) then s.gaitDecide k (g - 1)
  else if run && clear && decide (occ ≤ s.upThr k g ∧ g < s.fld (R.pathPolicy k) F.pathPolicy.GMAX) then s.gaitDecide k (g + 1)
  else if s.pathState k == 4 && clear && decide (occ ≤ resume) then s.restart k
  else if hold && clear && decide (occ ≤ resume) then
    (s.setPathSt k { s.pathSt k with holdByLoop := false }).feedHold k 0
  else s

/-- A window is open on a unit of a track of the path. -/
def State.pathWindow (s : State) (k : Nat) : Bool :=
  (List.range 4).any (fun u => (s.openWindow u).isSome &&
    (s.fld (R.pathLinks k) F.pathLinks.TRKS).testBit (s.fld (R.uCfg u) F.uCfg.TRK))

/-- The axes of a path come to rest: what a stop, a halt, a jam or a disable leaves (R231, Table 7-1). -/
def State.comeToRest (s : State) (k : Nat) : State :=
  let x := s.pathSt k
  if x.target ≠ 0 ∨ x.speed ≠ 0 then s
  else
    let s0 := s.setPathSt k { x with atRest := .stay, reverse := false }
    match x.atRest with
    | .stop =>
      let lp := s.pcfg k F.pathCfg.LP
      let s1 := (s0.setReg64 (R.pathLastLo k) (R.pathLastHi k) (s0.reg64 (R.lpLastLo lp) (R.lpLastHi lp))).fire (172 + k)
      let s2 := (s1.seamGroups k).foldl (fun t g =>
        t.setSeamSt g { yLast := (t.reg (R.lpLineCnt (t.fld (R.grpCtl g) F.grpCtl.LP))).toNat - 1 }) s1
      if s2.pathWindow k then
        (s2.setPathSt k { s2.pathSt k with
          restPos := s2.pathPos k, restLevels := s2.chkLevels k, slipDue := true, overlap := 0 }).enterPath k 4
      else (s2.dropSeam k).enterPath k 1
    | .halt => (s0.fire (172 + k)).enterPath k 1
    | .jam => s0.refreshPath k
    | .off => s0.pathOff k
    | _ => s

/-- The back-off target is reached at rest (R234): the final deceleration of the reverse move is part of this event. -/
def State.backoffDone (s : State) (k : Nat) : State :=
  let x := s.pathSt k
  if s.pathState k = 5 ∧ s.pathPos k ≤ x.goal then
    let s1 := (s.setPathSt k { x with speed := 0, reverse := false, overlap := 0 }).rampTo k (s.fld (R.pathSeam k) F.pathSeam.SEAM_GAIT)
    s1.enterPath k 6
  else s

/-- The reverse move of CLEAR_JAM ends (R248). -/
def State.clearJamReverse (s : State) (k : Nat) : State :=
  let x := s.pathSt k
  if s.pathState k = 7 ∧ x.atRest = .cleared ∧ s.pathPos k ≤ x.goal then s.clearJamEnd k else s

/-! ## Overlap lines and the seam (R235-R241) -/

/-- One program runs overlap line i (R235): the weights of its groups are latched; a line in progress excludes it. -/
def State.overlapLine (s : State) (p i cycle : Nat) : State :=
  let y := overlapBase + i
  if (s.lp p).run == .line then
    (s.groupsOf p).foldl (fun t g => t.setSeamSt g { t.seamSt g with bad := addSorted (t.seamSt g).bad i }) s
  else
    let s1 := (s.groupsOf p).foldl (fun t g =>
      let (temp, _) := t.grpTemp g
      let x := t.group g
      let line : GroupLine := { y := y, temp := temp, weight := some (t.blendWeight g temp) }
      t.setGroup g { x with lines := (line :: x.lines.filter (fun l => l.y != y)).take 96 }) s
    let s2 := (s1.groupsOf p).foldl (fun t g => (t.groupPlanes g).foldl (fun u n =>
      u.setPlaneLines n ((u.planeLines n).filter (fun l => l.y != y))) t) s1
    s2.startLine p cycle y

/-- GAIT's compare in APPROACH (R235, R236). -/
def State.overlapCompare (s : State) (k cycle : Nat) : State :=
  let x := s.pathSt k
  let n := s.fld (R.pathSeam k) F.pathSeam.OVERLAP
  let lp := s.pcfg k F.pathCfg.LP
  let pitch : Int := ((s.effReg (R.lpPitch lp)).toNat : Nat)
  let last := signed 64 (s.reg64 (R.pathLastLo k) (R.pathLastHi k))
  let i := x.overlap
  if s.pathState k ≠ 6 ∨ n ≤ i ∨ s.pathPos k < last - (n - 1 - i : Nat) * pitch then s
  else
    let lps := setBits (s.fld (R.pathLinks k) F.pathLinks.LPS) 8
    let s1 := (lps.filter (fun p => s.bit (R.lpCfg p) F.lpCfg.EN)).foldl (fun t p => t.overlapLine p i cycle) s
    let s2 := (s1.seamGroups k).foldl (fun t g => t.setSeamSt g { t.seamSt g with fired := i + 1 }) s1
    let s3 := s2.setPathSt k { s2.pathSt k with overlap := i + 1 }
    if i + 1 < n then s3
    else
      let lo := s.fld (R.pathPolicy k) F.pathPolicy.GMIN
      let g := min (max lo (s.fld (R.pathSeam k) F.pathSeam.SEAM_GAIT)) (s.fld (R.pathPolicy k) F.pathPolicy.GMAX)
      let s4 := lps.foldl (fun t p => t.setNext p (last + ((t.effReg (R.lpPitch p)).toNat : Nat))) s3
      let s5 := ((s4.setPathSt k { s4.pathSt k with seams := s4.seamGroups k }).rampTo k g).setPstat k F.pathStat.GAIT g
      ((s5.feedHold k 0).dwellStart k).enterPath k 2

/-- Stored line y of group g at pixel x, and overlap line i (R232). -/
def State.storedPx (s : State) (g width y x : Nat) : Nat := natLE (s.bytes (seamSlot g width (y % s.seamK g) + 2 * x) 2)
def State.overlapPx (s : State) (g width i x : Nat) : Nat := natLE (s.bytes (seamSlot g width (s.seamK g + i) + 2 * x) 2)

/-- The mean of a list, none when it is empty. -/
def meanOf (l : List Rat) : Option Rat := if l.isEmpty then none else some (l.foldl (· + ·) 0 / (l.length : Nat))

/-- What the seam kernel returns. -/
structure SeamResult where
  cause : Nat
  d : Int := 0
  qual : Nat := 0
  used : Nat := 0
  deriving DecidableEq

/-- Valid overlap lines of a group. -/
def State.validOverlap (s : State) (g : Nat) : List Nat :=
  (List.range (s.fld (R.pathSeam (s.seamPath g)) F.pathSeam.OVERLAP)).filter (fun i =>
    (s.seamSt g).shaded.contains i && !((s.seamSt g).bad.contains i))

/-- cost(d) of R237, none without a pair of lines. -/
def State.seamCost (s : State) (g width yLast : Nat) (valid cols : List Nat) (d : Int) : Option Rat :=
  let n := s.fld (R.pathSeam (s.seamPath g)) F.pathSeam.OVERLAP
  meanOf (valid.flatMap (fun i =>
    let base : Int := (yLast : Int) - (n : Nat) + 1 + (i : Nat)
    let q : Rat := (base : Rat) + (d : Rat) / 16
    if (yLast : Rat) < q ∨ q < ((yLast : Int) - (s.seamK g : Int) + 1 : Int) then []
    else
      let f := Rat.floor q
      let t : Rat := q - f
      cols.map (fun x =>
        let a : Rat := (s.storedPx g width f.toNat x : Nat)
        let b : Rat := if t = 0 then 0 else (s.storedPx g width (f.toNat + 1) x : Nat)
        ratAbs ((s.overlapPx g width i x : Nat) - (a * (1 - t) + b * t)))))

/-- The vendor seam kernel's computation (R237), with the state after the free values of a division by 0.
(DEDUCED: notes/assumptions/33.) -/
def State.seamKernel (s : State) (g : Nat) : SeamResult × State :=
  let width := s.fld (R.plCfg (s.fld (R.seamCfg g) F.seamCfg.PLANE)) F.plCfg.WIDTH
  let step := atLeastOne (s.fld (R.seamCfg g) F.seamCfg.XSTEP)
  let cols := (List.range ((width + step - 1) / step)).map (fun c => c * step)
  let yLast := (s.seamSt g).yLast
  let kk := s.seamK g
  let n := s.fld (R.pathSeam (s.seamPath g)) F.pathSeam.OVERLAP
  let srch := s.fld (R.pathSeam (s.seamPath g)) F.pathSeam.SRCH
  let valid := s.validOverlap g
  let tex := (meanOf ((List.range (kk - 1)).flatMap (fun j => cols.map (fun x =>
    let y := yLast + 1 - kk + j
    ratAbs ((s.storedPx g width (y + 1) x : Nat) - (s.storedPx g width y x : Nat)))))).getD 0
  if tex < (s.fld (R.seamLim g) F.seamLim.TEX_MIN : Nat) then ({ cause := 1, used := valid.length }, s)
  else if 2 * valid.length < n then ({ cause := 4, used := valid.length }, s)
  else
    let ds : List Int := (List.range (32 * srch + 1)).map (fun (i : Nat) => (i : Int) - ((16 * srch : Nat) : Int))
    let costs := ds.filterMap (fun d => (s.seamCost g width yLast valid cols d).map (fun c => (d, c)))
    let better (a b : Int × Rat) : Bool :=
      decide (a.2 < b.2 ∨ (a.2 = b.2 ∧ (a.1.natAbs < b.1.natAbs ∨ (a.1.natAbs = b.1.natAbs ∧ a.1 < b.1))))
    let best := costs.foldl (fun m c => match m with
      | none => some c
      | some b => if better c b then some c else m) none
    match best with
    | none => ({ cause := 4, used := valid.length }, s)
    | some (d0, c0) =>
      if d0.natAbs = 16 * srch then ({ cause := 2, used := valid.length }, s)
      else
        let at_ (d : Int) : Rat := (s.seamCost g width yLast valid cols d).getD 0
        let cm := at_ (d0 - 1)
        let cp := at_ (d0 + 1)
        let den := cm - 2 * c0 + cp
        let (h, s1) := if den = 0 then let (v, t) := s.free; ((v % 17 : Nat) - (8 : Int), t)
          else (clampInt (-8) 8 (ratRound (16 * (cm - cp) / (2 * den))), s)
        let cmean := (meanOf (costs.map (fun c => c.2))).getD 0
        let (qual, s2) := if cmean = 0 then let (v, t) := s1.free; (v % 256, t)
          else ((Rat.floor (255 * (cmean - c0) / cmean)).toNat, s1)
        if qual < s.fld (R.seamLim g) F.seamLim.QUAL_MIN then ({ cause := 3, qual := qual, used := valid.length }, s2)
        else ({ cause := 0, d := 16 * d0 + h, qual := qual, used := valid.length }, s2)

/-- The seam store of group g is complete and goes to the kernel's engine (R237): every overlap line has fired and every one
that is not excluded has been shaded. -/
def State.seamReady (s : State) (g : Nat) : Bool :=
  let q := s.seamSt g
  let n := s.fld (R.pathSeam (s.seamPath g)) F.pathSeam.OVERLAP
  (s.pathSt (s.seamPath g)).seams.contains g && !q.handed && q.fired == n &&
    (List.range n).all (fun i => q.shaded.contains i || q.bad.contains i)

/-- A Next line field written by the hardware: the pending value changes, the value in effect stays. -/
def State.pendFld (s : State) (off : Nat) (f : Fld) (v : Nat) : State :=
  let e := s.effReg off
  let s1 := s.setFld off f v
  { s1 with eff := if s1.reg off = e then Table.erase s1.eff off else Table.insert (Table.erase s1.eff off) off e }

/-- Lines after the seam that plane SEAMg_CFG.PLANE has delivered (R240). -/
def State.linesAfterSeam (s : State) (g : Nat) : List Nat :=
  sortBy (fun a b => decide (b < a)) (((s.outOf (s.fld (R.seamCfg g) F.seamCfg.PLANE)).map (fun l => l.y)).filter (fun y =>
    decide ((s.seamSt g).yLast < y)))

/-- Enter an exception of cause SEAM for line ordinal y in the records of the open windows of group g. -/
def State.seamExc (s : State) (g y : Nat) (index : Nat → Nat) : State :=
  s.forEach 4 (fun u t =>
    match t.openWindow u with
    | some (key, w) =>
      let k := t.fld (R.uCfg u) F.uCfg.TRK * 2 + key % 2
      match w.origin with
      | some o =>
        if t.unitGroup u = g ∧ o ≤ y then
          t.setRecord k ((t.record k).addExc (t.excMax (k / 2)) u (y - o) Cause.seam (index k) (planeMask (t.groupPlanes g)))
        else t
      | none => t
    | none => t)

/-- The seam entries of group g in the records of its open windows (R240, R213). -/
def State.seamEntries (s : State) (g : Nat) (r : SeamResult) (resid applied : Int) : State :=
  s.forEach 4 (fun u t =>
    match t.openWindow u with
    | some (key, w) =>
      let k := t.fld (R.uCfg u) F.uCfg.TRK * 2 + key % 2
      match w.origin with
      | some o =>
        if t.unitGroup u = g then
          let d := t.record k
          let e : SeamEntry :=
            { unit := u, y := (t.seamSt g).yLast + 1 - o, status := if r.cause = 0 then St.success else St.seamUnverified
              resid := resid, applied := applied, qual := r.qual, overlap := r.used }
          t.setRecord k (if d.seams.length < 8 then { d with seams := d.seams ++ [e] } else { d with seamOvf := true })
        else t
      | none => t
    | none => t)

/-- A seam result (R239, R240). -/
def State.seamDone (s : State) (g : Nat) (r : SeamResult) : State :=
  let k := s.seamPath g
  let q := s.seamSt g
  let seam := signed 8 (s.fld (R.grpSeam g) F.grpSeam.SEAM)
  let ds := if r.cause = 0 then roundDiv r.d 16 else 0
  let applied := clampInt (-128) 127 (seam + ds)
  let resid := if r.cause = 0 then r.d - 16 * ds else 0
  let index (slot : Nat) : Nat := (s.record slot).seams.length
  let n := s.fld (R.pathSeam k) F.pathSeam.OVERLAP
  let s1 := if r.cause = 0 then s.pendFld (R.grpSeam g) F.grpSeam.SEAM (unsigned 8 applied) else s
  let s2 := s1.setReg (R.seamRes g) (BitVec.ofNat 32 (unsigned 16 resid + r.qual % 256 * 2 ^ 16 +
    (if r.cause = 0 then St.success else St.seamUnverified) * 2 ^ 24))
  let s3 := s2.setReg (R.seamInfo g) (BitVec.ofNat 32 (r.cause + min 15 r.used * 16 + unsigned 8 applied * 2 ^ 8 +
    unsigned 16 (if r.cause = 0 then r.d else 0) * 2 ^ 16))
  let s4 := s3.count (R.pathSeamCnt k)
  let s5 := if r.cause = 0 then s4 else s4.count (R.pathUnverCnt k)
  let lines := (List.range n).map (fun i => q.yLast + 1 + i - n) ++ (if r.cause = 0 then s.linesAfterSeam g else [])
  let s6 := lines.foldl (fun t y => t.seamExc g y index) (s5.seamEntries g r resid applied)
  let x := s6.pathSt k
  let left := x.seams.filter (fun h => h != g)
  let s7 := (s6.setPathSt k { x with seams := left }).setSeamSt g
    { yLast := q.yLast, after := if r.cause = 0 then 1 else 0, fired := 0 }
  if left.isEmpty then s7.fire (180 + k) else s7

/-- A line of the seam's plane delivered after the result and before the new SEAM takes effect lengthens the SEAM exception
(R240). -/
def State.seamLineOut (s : State) (n y : Nat) : State :=
  s.forEach 4 (fun g t =>
    if t.fld (R.seamCfg g) F.seamCfg.PLANE = n ∧ (t.seamSt g).after = 1 then
      if t.eff.any (fun e => e.1 == R.grpSeam g) then t.seamExc g y (fun k => (t.record k).seams.length - 1)
      else t.setSeamSt g { t.seamSt g with after := 0 }
    else t)

/-- A word that an engine sends to GAIT (R352): a pair whose first word matches an outstanding hand-off is kept. -/
def State.gaitWord (s : State) (w : Word) : State :=
  match s.gait.replyTo with
  | some g =>
    { s with gait := { s.gait with replyTo := none, replies := Table.set (fun _ => none) s.gait.replies g (some w) } }
  | none =>
    { s with gait := { s.gait with replyTo := (List.range 4).find? (fun g =>
      (s.seamSt g).handed && w.toNat == 0x53450000 + s.seamPath g * 2 ^ 8 + g) } }

/-- The reply word 1 of Table 10-13 as a seam result. -/
def State.seamReply (s : State) (g : Nat) (w : Word) : SeamResult :=
  { d := signed 16 w.toNat, qual := bitsOf w.toNat 16 8, cause := bitsOf w.toNat 24 4, used := (s.validOverlap g).length }

/-- The kernel's reply arrives (R239): the pair that an engine has sent, else what the vendor kernel computes while it runs on the
group's engine (R237, R243). -/
def State.seamResult (s : State) (g : Nat) : State :=
  if !(s.seamSt g).handed then s
  else match Table.get (fun _ => none) s.gait.replies g with
    | some w =>
      ({ s with gait := { s.gait with replies := Table.set (fun _ => none) s.gait.replies g none } }).seamDone g (s.seamReply g w)
    | none =>
      let e := s.fld (R.seamCfg g) F.seamCfg.ENG
      let st := s.fld (R.engStat e) F.engStat.STATE
      if s.reg (R.engImg e) = 0x00010005 ∧ (st = 2 ∨ st = 3) then
        let (r, t) := s.seamKernel g
        t.seamDone g r
      else s

/-- No result within TMO_US of the hand-over (R238). -/
def State.seamTimeout (s : State) (g : Nat) : State :=
  if (s.seamSt g).handed || s.seamReady g then s.seamDone g { cause := 5, used := (s.validOverlap g).length } else s

/-- At a strip event SEAM becomes the BIAS of the group's path (R241). -/
def State.seamBias (s : State) (g : Nat) : State :=
  let k := s.seamPath g
  if s.bit (R.seamCfg g) F.seamCfg.EN && (s.fld (R.pathLinks k) F.pathLinks.LPS).testBit (s.fld (R.grpCtl g) F.grpCtl.LP) then
    let s1 := s.commit [R.pathSeam k]
    s1.pendFld (R.grpSeam g) F.grpSeam.SEAM (s1.fld (R.pathSeam k) F.pathSeam.BIAS)
  else s

end Sys2Proof.Machine
end

