-- ==== Sys2Proof/Machine/Engines.lean ====
section
/-!
DEFINITION. Sys2Proof/Machine/Engines.lean: the Pack engines (R322-R332, R341-R347): states, faults, the issue of an
instruction, and the scalar and memory instructions.
-/
namespace Sys2Proof.Machine

/-! ## State of an engine -/

/-- The registers of engine n. -/
def State.eng (s : State) (n : Nat) : Engine := Table.get (fun _ => {}) s.pack.engines n

/-- The state with the registers of engine n replaced. -/
def State.setEng (s : State) (n : Nat) (e : Engine) : State :=
  { s with pack := { s.pack with engines := Table.set (fun _ => {}) s.pack.engines n e } }

/-- STATE of engine n (Table 10-1). -/
def State.engState (s : State) (n : Nat) : Nat := s.fld (R.engStat n) F.engStat.STATE

/-- PC of engine n. -/
def State.engPc (s : State) (n : Nat) : Nat := s.fld (R.engStat n) F.engStat.PC

/-- An input window, and an output window. -/
def State.inWin (s : State) (i : Nat) : InWin := Table.get (fun _ => {}) s.pack.ins i
def State.setInWin (s : State) (i : Nat) (x : InWin) : State :=
  { s with pack := { s.pack with ins := Table.set (fun _ => {}) s.pack.ins i x } }
def State.outWin (s : State) (j : Nat) : OutWin := Table.get (fun _ => {}) s.pack.outs j
def State.setOutWin (s : State) (j : Nat) (x : OutWin) : State :=
  { s with pack := { s.pack with outs := Table.set (fun _ => {}) s.pack.outs j x } }

/-- Scalar register r; s0 reads 0 (R341). -/
def Engine.sr (e : Engine) (r : Nat) : Word := if r = 0 then 0 else Table.get (fun _ => 0) e.s r
/-- The engine with a scalar register and its poison bit written; writes to s0 are discarded. -/
def Engine.setS (e : Engine) (r : Nat) (w : Word) (bad : Bool) : Engine :=
  if r = 0 then e
  else { e with s := Table.set (fun _ => 0) e.s r w, badS := if bad then addSorted e.badS r else e.badS.filter (fun x => x != r) }
/-- Scalar register r is poisoned. -/
def Engine.pS (e : Engine) (r : Nat) : Bool := e.badS.contains r

/-- Vector register r, lane 0 first. -/
def Engine.vr (e : Engine) (r : Nat) : List Nat := Table.get (fun _ => List.replicate 8 0) e.v r
/-- The engine with a vector register and its poison bit written. -/
def Engine.setV (e : Engine) (r : Nat) (l : List Nat) (bad : Bool) : Engine :=
  { e with v := Table.set (fun _ => List.replicate 8 0) e.v r l, badV := if bad then addSorted e.badV r else e.badV.filter (fun x => x != r) }
/-- Vector register r is poisoned. -/
def Engine.pV (e : Engine) (r : Nat) : Bool := e.badV.contains r

/-- Predicate register r; p0 reads 0xFF (R341). -/
def Engine.pr (e : Engine) (r : Nat) : Nat := if r = 0 then 0xFF else Table.get (fun _ => 0) e.p r
/-- The engine with a predicate register written; writes to p0 are discarded. -/
def Engine.setP (e : Engine) (r m : Nat) : Engine := if r = 0 then e else { e with p := Table.set (fun _ => 0) e.p r (m % 256) }

/-! ## Windows' rings -/

/-- STRIDE of a ring of WIDTH samples, or of blocks of n bytes (R333, R338). -/
def strideOf (width : Nat) : Nat := 16 + 16 * ((2 * width + 15) / 16)

/-- Slots, stride and team-memory base of input window i. -/
def State.iwSlots (s : State) (i : Nat) : Nat := s.fld (R.iwRing i) F.iwRing.SLOTS
def State.iwStride (s : State) (i : Nat) : Nat := strideOf (s.fld (R.iwGeom i) F.iwGeom.WIDTH)
def State.iwOffset (s : State) (i k : Nat) : Nat := s.fld (R.iwRing i) F.iwRing.BASE + k * s.iwStride i
def State.iwTeam (s : State) (i : Nat) : Nat := s.fld (R.iwCfg i) F.iwCfg.TEAM
def State.iwOn (s : State) (i : Nat) : Bool := s.bit (R.iwCfg i) F.iwCfg.EN

/-- The same of output window j (R337, R338). -/
def State.owMsg (s : State) (j : Nat) : Bool := s.bit (R.owCfg j) F.owCfg.MODE
def State.owSrc (s : State) (j : Nat) : Nat := s.fld (R.owCfg j) F.owCfg.SRCW
def State.owSlots (s : State) (j : Nat) : Nat :=
  if s.owMsg j then s.fld (R.owRing j) F.owRing.SLOTS else s.iwSlots (s.owSrc j)
def State.owStride (s : State) (j : Nat) : Nat :=
  if s.owMsg j then 16 + s.fld (R.owGeom j) F.owGeom.LEN else strideOf (s.fld (R.owGeom j) F.owGeom.WIDTH)
def State.owOffset (s : State) (j k : Nat) : Nat := s.fld (R.owRing j) F.owRing.BASE + k * s.owStride j
def State.owTeam (s : State) (j : Nat) : Nat :=
  if s.owMsg j then s.fld (R.owCfg j) F.owCfg.TEAM else s.iwTeam (s.owSrc j)
def State.owOn (s : State) (j : Nat) : Bool := s.bit (R.owCfg j) F.owCfg.EN

/-- The enabled plane-mode output windows paired with input window i. -/
def State.paired (s : State) (i : Nat) : List Nat :=
  (List.range 32).filter (fun j => s.owOn j && !(s.owMsg j) && s.owSrc j == i)

/-- IWi_RD moves over every released line at the oldest end; TAKEN follows (R335). -/
def State.iwAdvance (s : State) (i : Nat) : State :=
  let w := s.inWin i
  let keep := w.ring.dropWhile (fun l => l.released)
  let s1 := s.setInWin i { w with ring := keep }
  let s2 := s1.setReg (R.iwRd i) (s1.reg (R.iwRd i) + BitVec.ofNat 32 (w.ring.length - keep.length))
  s2.setFld (R.iwStat i) F.iwStat.TAKEN (keep.filter (fun l => l.taken.isSome && !l.released)).length

/-- What a released input line does to the lines owed from it (R337): `st` where no slot was allocated; with `all`, also where
one was allocated and not committed. -/
def State.owSourceGone (s : State) (i idx : Nat) (st : OutState) (all : Bool) : State :=
  (s.paired i).foldl (fun t j =>
    let o := t.outWin j
    t.setOutWin j { o with queue := o.queue.map (fun l =>
      if l.idx = idx ∧ (l.st = .waiting ∨ (all ∧ l.st = .allocated)) then { l with st := st } else l) }) s

/-! ## Release, halt and fault (R325, R327) -/

/-- Every window slot and every record hold of engine n is released (R325); `fault` says whether it faulted. -/
def State.engRelease (s : State) (n : Nat) (fault : Bool) : State :=
  let s1 := s.forEach 32 (fun i t =>
    let w := t.inWin i
    let mine := w.ring.filter (fun l => l.taken == some n && !l.released)
    let t1 := mine.foldl (fun u l => u.owSourceGone i l.idx (if fault then .faulted else .skipped) true) t
    if mine.isEmpty then t
    else (t1.setInWin i { w with ring := w.ring.map (fun l =>
      if l.taken = some n then { l with released := true } else l) }).iwAdvance i)
  let s2 := s1.forEach 32 (fun j t =>
    let o := t.outWin j
    if t.owMsg j then t.setOutWin j { o with queue := o.queue.filter (fun l => !(l.eng == n && l.st == .allocated)) } else t)
  s2.forEach 8 (fun k t =>
    let d := t.record k
    if d.holds.contains n then (t.setRecord k { d with holds := d.holds.filter (fun h => h != n) }).tryComplete k else t)

/-- Engine n enters HALTED from RUN or WAIT with `pc` as the next instruction (R323-R325). -/
def State.engHalt (s : State) (n pc : Nat) : State :=
  let s1 := ((s.setFld (R.engStat n) F.engStat.STATE 1).setFld (R.engStat n) F.engStat.WAIT 0).setFld (R.engStat n) F.engStat.PC (pc % 4096)
  (s1.setEng n { s1.eng n with step := false }).engRelease n false

/-- A fault of the instruction at `pc` stops engine n (R327). -/
def State.engFaultAt (s : State) (n pc cause : Nat) (addr : Option Nat) : State :=
  let s1 := (s.setFld (R.engStat n) F.engStat.STATE 4).setFld (R.engStat n) F.engStat.WAIT 0
  let s2 := s1.setReg (R.engFault n) (BitVec.ofNat 32 (cause + pc * 2 ^ 16))
  let s3 := match addr with
    | some a => s2.setReg64 (R.engFaddrLo n) (R.engFaddrHi n) a
    | none => s2
  let s4 := s3.setFld (R.packFault (n / 32)) ⟨n % 32, 1⟩ 1
  let s5 := (s4.setEng n { s4.eng n with step := false, far := [] }).queueAsync 1 (n + cause * 2 ^ 16) (s4.reg (R.engFault n)).toNat
  s5.engRelease n true

/-- A fault of the present instruction. -/
def State.engFault (s : State) (n cause : Nat) (addr : Option Nat) : State := s.engFaultAt n (s.engPc n) cause addr

/-! ## Issue -/

/-- Opcode of an instruction word. -/
def opcodeOf (w : Word) : Nat := bitsOf w.toNat 26 6

/-- What an instruction comes to. -/
inductive EngRes where
  /-- It completes; the next instruction address. -/
  | next (s : State) (pc : Nat)
  /-- It waits, with the WAIT code of En_STAT. -/
  | wait (s : State) (code : Nat)
  | fault (cause : Nat) (addr : Option Nat)
  | halt (s : State)

/-- An instruction that completes and goes on. -/
def engNext (s : State) (pc : Nat) : EngRes := .next s (pc + 1)

/-- ILLEGAL. -/
def engIllegal : EngRes := .fault 1 none

/-- Opcodes of Tables 10-8 and 10-9, and functions of Table 10-12. -/
def opcodeKnown (w : Word) : Bool :=
  let o := opcodeOf w
  if o = 0 then decide (bitsOf w.toNat 20 6 ≤ 0x13)
  else [0x01, 0x02, 0x03, 0x04, 0x05, 0x06, 0x07, 0x08, 0x09, 0x0A, 0x10, 0x11, 0x12, 0x13, 0x14, 0x15, 0x16, 0x17, 0x18, 0x19,
    0x1A, 0x1B, 0x1C, 0x1D, 0x1E, 0x1F, 0x20, 0x21, 0x28, 0x29, 0x30, 0x31, 0x32, 0x33, 0x34, 0x35, 0x36].contains o

/-- The next address after the hardware loop has been looked at (R345): the end of the body returns to its start while
iterations remain; a jump out of the body ends the loop. -/
def loopNext (loop : Option (Nat × Nat × Nat)) (pc next : Nat) : Nat × Option (Nat × Nat × Nat) :=
  match loop with
  | none => (next, none)
  | some (a, e, left) =>
    if pc = e ∧ next = e + 1 then (if 1 < left then (a, some (a, e, left - 1)) else (next, none))
    else if a ≤ next ∧ next ≤ e then (next, loop)
    else (next, none)

/-- An instruction of engine n that has run to `r` at address `pc` takes effect (R323, R327). -/
def State.engSettle (s : State) (n pc : Nat) (r : EngRes) : State :=
  match r with
  | .fault c a => s.engFault n c a
  | .wait t code => (t.setFld (R.engStat n) F.engStat.STATE 3).setFld (R.engStat n) F.engStat.WAIT code
  | .halt t => t.engHalt n (pc + 1)
  | .next t next =>
    let l := loopNext (t.eng n).loop pc next
    if 4095 < l.1 then s.engFault n 6 none
    else
      let t1 := t.setEng n { t.eng n with loop := l.2 }
      if (t1.eng n).step then t1.engHalt n l.1
      else ((t1.setFld (R.engStat n) F.engStat.STATE 2).setFld (R.engStat n) F.engStat.WAIT 0).setFld (R.engStat n) F.engStat.PC l.1

/-- The instruction word at the PC of engine n, after the read that decodes it; none where it is poisoned. -/
def State.engFetch (s : State) (n : Nat) : State × Option Word :=
  let a := engineInstr n + 4 * s.engPc n
  let s1 := s.memRead a 4
  (s1, if s1.anyPoison a 4 then none else some (s1.word a))

/-- Engine n, in RUN, issues the instruction at its PC if `mine` says that it is of the command's kind; a word that is no
instruction at all faults with ILLEGAL. (DEDUCED: notes/assumptions/38.) -/
def State.engIssue (s : State) (n : Nat) (mine : Word → Bool) (f : Word → State → EngRes) : State :=
  if s.engState n ≠ 2 then s
  else match s.engFetch n with
    | (t, none) => t.engFault n 5 none
    | (t, some w) =>
      if mine w then t.engSettle n (s.engPc n) (f w t)
      else if opcodeKnown w then s
      else t.engSettle n (s.engPc n) engIllegal

/-! ## Fields of a word -/

def fRd (w : Word) : Nat := bitsOf w.toNat 21 5
def fRa (w : Word) : Nat := bitsOf w.toNat 16 5
def fRb (w : Word) : Nat := bitsOf w.toNat 11 5
def fImm (w : Word) : Nat := bitsOf w.toNat 0 16
def sext16 (w : Word) : Word := BitVec.ofInt 32 (signed 16 (fImm w))
def zext16 (w : Word) : Word := BitVec.ofNat 32 (fImm w)

/-! ## Scalar instructions (Table 10-8) -/

/-- The functions of ALU; none for a reserved one. -/
def aluFn (fn : Nat) (a b : Word) : Option Word :=
  let sh := b.toNat % 32
  match fn with
  | 0x00 => some (a + b)
  | 0x01 => some (a - b)
  | 0x02 => some (a &&& b)
  | 0x03 => some (a ||| b)
  | 0x04 => some (a ^^^ b)
  | 0x05 => some (a <<< sh)
  | 0x06 => some (a >>> sh)
  | 0x07 => some (a.sshiftRight sh)
  | 0x08 => some (if a.slt b then 1 else 0)
  | 0x09 => some (if a.ult b then 1 else 0)
  | 0x0A => some (if a.slt b then a else b)
  | 0x0B => some (if a.slt b then b else a)
  | 0x0C => some (if a.ult b then a else b)
  | 0x0D => some (if a.ult b then b else a)
  | 0x10 => some (a * b)
  | 0x11 => some (BitVec.ofInt 32 (floorDiv (a.toInt * b.toInt) (2 ^ 32)))
  | 0x12 => some (BitVec.ofNat 32 (a.toNat * b.toNat / 2 ^ 32))
  | _ => none

/-- ALU: rd := ra op rb. -/
def engAlu (n : Nat) (w : Word) (s : State) : EngRes :=
  let e := s.eng n
  match aluFn (bitsOf w.toNat 0 6) (e.sr (fRa w)) (e.sr (fRb w)) with
  | none => engIllegal
  | some v =>
    if bitsOf w.toNat 6 5 ≠ 0 then engIllegal
    else engNext (s.setEng n (e.setS (fRd w) v (e.pS (fRa w) || e.pS (fRb w)))) (s.engPc n)

/-- An instruction of format I that computes rd from ra and the immediate. -/
def engImm (n : Nat) (w : Word) (s : State) (v : Word) : EngRes :=
  let e := s.eng n
  engNext (s.setEng n (e.setS (fRd w) v (e.pS (fRa w)))) (s.engPc n)

/-- ADDI. -/
def engAddi (n : Nat) (w : Word) (s : State) : EngRes := engImm n w s ((s.eng n).sr (fRa w) + sext16 w)

/-- ANDI, ORI, XORI. -/
def engLogicImm (n : Nat) (w : Word) (s : State) : EngRes :=
  let a := (s.eng n).sr (fRa w)
  let b := zext16 w
  engImm n w s (if opcodeOf w = 0x03 then a &&& b else if opcodeOf w = 0x04 then a ||| b else a ^^^ b)

/-- LUI. -/
def engLui (n : Nat) (w : Word) (s : State) : EngRes :=
  if fRa w ≠ 0 then engIllegal else engImm n w s (zext16 w <<< 16)

/-- SLTI. -/
def engSlti (n : Nat) (w : Word) (s : State) : EngRes :=
  engImm n w s (if ((s.eng n).sr (fRa w)).slt (sext16 w) then 1 else 0)

/-- SLLI, SRLI, SRAI. -/
def engShiftImm (n : Nat) (w : Word) (s : State) : EngRes :=
  let a := (s.eng n).sr (fRa w)
  let k := bitsOf w.toNat 0 5
  if bitsOf w.toNat 5 11 ≠ 0 then engIllegal
  else engImm n w s (if opcodeOf w = 0x08 then a <<< k else if opcodeOf w = 0x09 then a >>> k else a.sshiftRight k)

/-! ## Local memory (R328, Table 10-4) -/

/-- The internal address of `bytes` bytes at a local address; none outside Table 10-4. -/
def localAddr (n a bytes : Nat) : Option Nat :=
  if a + bytes ≤ 0x10000 then some (engineData n + a)
  else if 0x100000 ≤ a ∧ a + bytes ≤ 0x180000 then some (teamBase (n / 8) + (a - 0x100000))
  else none

/-- The local address of a load or store of format I. -/
def loadAddr (n : Nat) (w : Word) (s : State) : Nat := ((s.eng n).sr (fRa w) + sext16 w).toNat

/-- Bytes of LDW, LDH, LDB and of STW, STH, STB by opcode. -/
def accessBytes (o : Nat) : Nat := if o = 0x10 ∨ o = 0x13 then 4 else if o = 0x11 ∨ o = 0x14 then 2 else 1

/-- LDW, LDH, LDB. -/
def engLoad (n : Nat) (w : Word) (s : State) : EngRes :=
  let e := s.eng n
  let k := accessBytes (opcodeOf w)
  let a := loadAddr n w s
  if e.pS (fRa w) then .fault 5 none
  else if a % k ≠ 0 then .fault 2 (some a)
  else match localAddr n a k with
    | none => .fault 3 (some a)
    | some p =>
      let s1 := s.memRead p k
      engNext (s1.setEng n (e.setS (fRd w) (BitVec.ofNat 32 (natLE (s1.bytes p k))) (s1.anyPoison p k))) (s.engPc n)

/-- STW, STH, STB; a poisoned register poisons the word (R347). -/
def engStore (n : Nat) (w : Word) (s : State) : EngRes :=
  let e := s.eng n
  let k := accessBytes (opcodeOf w)
  let a := loadAddr n w s
  if e.pS (fRa w) then .fault 5 none
  else if a % k ≠ 0 then .fault 2 (some a)
  else match localAddr n a k with
    | none => .fault 3 (some a)
    | some p =>
      let l := bytesLE k (e.sr (fRd w)).toNat
      engNext (if e.pS (fRd w) then s.memWritePoison p l else s.memWrite p l) (s.engPc n)

/-- The internal address of FLD and FST (R330). -/
def farAddr (n : Nat) (w : Word) (s : State) : Nat :=
  let e := s.eng n
  unsigned 40 (((e.xhi * 2 ^ 32 + (e.sr (fRa w)).toNat : Nat) : Int) + signed 16 (fImm w))

/-! ## Branches, jumps, loops, special registers -/

/-- The comparison of a branch. -/
def branchTaken (o : Nat) (a b : Word) : Bool :=
  if o = 0x18 then a == b
  else if o = 0x19 then a != b
  else if o = 0x1A then a.slt b
  else if o = 0x1B then !(a.slt b)
  else if o = 0x1C then a.ult b
  else !(a.ult b)

/-- BEQ, BNE, BLT, BGE, BLTU, BGEU: format B has ra in bits 25-21 and rb in bits 20-16. A target below 0 lies outside. -/
def engBranch (n : Nat) (w : Word) (s : State) : EngRes :=
  let e := s.eng n
  let pc := s.engPc n
  let t : Int := (pc : Int) + 1 + signed 16 (fImm w)
  if e.pS (fRd w) || e.pS (fRa w) then .fault 5 none
  else if branchTaken (opcodeOf w) (e.sr (fRd w)) (e.sr (fRa w)) then
    (if t < 0 then .fault 6 none else .next s t.toNat)
  else engNext s pc

/-- J. -/
def engJ (w : Word) (s : State) : EngRes :=
  if bitsOf w.toNat 12 14 ≠ 0 then engIllegal else .next s (bitsOf w.toNat 0 12)

/-- JAL: rd := PC + 1. -/
def engJal (n : Nat) (w : Word) (s : State) : EngRes :=
  if bitsOf w.toNat 12 9 ≠ 0 then engIllegal
  else .next (s.setEng n ((s.eng n).setS (fRd w) (BitVec.ofNat 32 (s.engPc n + 1)) false)) (bitsOf w.toNat 0 12)

/-- JR: PC := ra. -/
def engJr (n : Nat) (w : Word) (s : State) : EngRes :=
  if fRd w ≠ 0 ∨ fImm w ≠ 0 then engIllegal
  else if (s.eng n).pS (fRa w) then .fault 5 none
  else .next s ((s.eng n).sr (fRa w)).toNat

/-- A branch, jump, LOOP or HALT may not end a loop body (R345). -/
def endsBody (w : Word) : Bool :=
  let o := opcodeOf w
  decide (0x18 ≤ o ∧ o ≤ 0x21) || (o == 0 && bitsOf w.toNat 20 6 == 1)

/-- LOOP (R345). The instruction at E is looked at in instruction memory. -/
def engLoop (n : Nat) (w : Word) (s : State) : EngRes :=
  let e := s.eng n
  let pc := s.engPc n
  let last := bitsOf w.toNat 0 12
  let c := (e.sr (fRa w)).toNat
  if fRd w ≠ 0 ∨ bitsOf w.toNat 12 4 ≠ 0 ∨ last ≤ pc ∨ e.loop.isSome ∨ endsBody (s.word (engineInstr n + 4 * last)) then engIllegal
  else if e.pS (fRa w) then .fault 5 none
  else if c = 0 then .next s (last + 1)
  else .next (s.setEng n { e with loop := some (pc + 1, last, c) }) (pc + 1)

/-- MTX: only XHI is writable; a write to a read-only index is discarded (Table 10-11). -/
def engMtx (n : Nat) (w : Word) (s : State) : EngRes :=
  let e := s.eng n
  let i := bitsOf w.toNat 0 4
  if fRd w ≠ 0 ∨ bitsOf w.toNat 4 12 ≠ 0 ∨ 8 < i then engIllegal
  else if i = 0 then
    (if e.pS (fRa w) then .fault 5 none else engNext (s.setEng n { e with xhi := (e.sr (fRa w)).toNat % 256 }) (s.engPc n))
  else engNext s (s.engPc n)

/-- PKCLK cycles since the last START: three for every four FABCLK ticks (R21, R26). -/
def State.engCycles (s : State) (n : Nat) : Nat := (s.sys.time.toNat - (s.eng n).started) * 3 / 4

/-- MFX (Table 10-11). -/
def engMfx (n : Nat) (w : Word) (s : State) : EngRes :=
  let e := s.eng n
  let i := bitsOf w.toNat 0 4
  let cyc := s.engCycles n
  let time := s.sys.time.toNat
  let put (e' : Engine) (v : Word) : EngRes := engNext (s.setEng n (e'.setS (fRd w) v false)) (s.engPc n)
  if fRa w ≠ 0 ∨ bitsOf w.toNat 4 12 ≠ 0 then engIllegal
  else match i with
    | 0 => put e (BitVec.ofNat 32 e.xhi)
    | 1 => put e (BitVec.ofNat 32 (match e.loop with | some l => l.2.2 | none => 0))
    | 2 => put e (BitVec.ofNat 32 n)
    | 3 => put { e with cycHi := BitVec.ofNat 32 (cyc / 2 ^ 32) } (BitVec.ofNat 32 cyc)
    | 4 => put e e.cycHi
    | 5 => put { e with timeHi := BitVec.ofNat 32 (time / 2 ^ 32) } (BitVec.ofNat 32 time)
    | 6 => put e e.timeHi
    | 7 => put e (BitVec.ofNat 32 e.result)
    | 8 => put e (BitVec.ofNat 32 e.msrc)
    | _ => engIllegal

/-! ## Commands of En_CTL (R323, R324, R361) -/

/-- A command that has no effect (R324). -/
def State.engIgnored (s : State) (n : Nat) : State := s.setFld (R.engStat n) F.engStat.CMD_IGN 1

/-- What START clears (R341): every register, XHI, the poison bits, the catcher counts. -/
def State.engClear (s : State) (n : Nat) : State :=
  let e := s.eng n
  (s.setEng n { inbox := e.inbox, outbox := e.outbox, started := s.sys.time.toNat }).setReg (R.engEccnt n) 0

/-- START (R323, R324). -/
def State.engStart (s : State) (n : Nat) : State :=
  if s.engState n = 1 ∧ s.bit (R.engStat n) F.engStat.IMG then
    ((s.engClear n).setFld (R.engStat n) F.engStat.STATE 2).setFld (R.engStat n) F.engStat.PC (s.fld (R.engStart n) F.engStart.PC)
  else s.engIgnored n

/-- HALT: at the next instruction boundary, or out of FAULT; a waiting instruction is abandoned (R324). -/
def State.engHaltCmd (s : State) (n : Nat) : State :=
  if s.engState n = 2 ∨ s.engState n = 3 then
    let s1 := s.engHalt n (s.engPc n)
    s1.setEng n { s1.eng n with far := (s1.eng n).far.filter (fun f => !f.load) }
  else if s.engState n = 4 then s.setFld (R.engStat n) F.engStat.STATE 1
  else s.engIgnored n

end Sys2Proof.Machine
end

