-- ==== Sys2Proof/Machine/EngineSys.lean ====
section
/-!
DEFINITION. Sys2Proof/Machine/EngineSys.lean: the SYS instructions (Table 10-12): events, semaphores, windows, mailboxes,
holds, exceptions and claims (R333-R340, R348-R356), and the commands of the windows.
-/
namespace Sys2Proof.Machine

/-! ## Fields of format S -/

def fFn (w : Word) : Nat := bitsOf w.toNat 20 6
def fR (w : Word) : Nat := bitsOf w.toNat 15 5
def fI15 (w : Word) : Nat := bitsOf w.toNat 0 15

/-- The instruction's fields are allowed: r is 0 unless `useR`, and the immediate has no bit outside `mask`. -/
def sysOk (w : Word) (useR : Bool) (mask : Nat) : Bool := (useR || fR w == 0) && (fI15 w &&& mask) == fI15 w

/-- A SYS instruction with its field check and, where it has one, its operand check (R342, R347). -/
def engSys (n : Nat) (w : Word) (s : State) (useR operand : Bool) (mask : Nat) (f : State → EngRes) : EngRes :=
  if !(sysOk w useR mask) then engIllegal
  else if operand && (s.eng n).pS (fR w) then .fault 5 none
  else f s

/-- The value of s[r]. -/
def sysArg (n : Nat) (w : Word) (s : State) : Nat := ((s.eng n).sr (fR w)).toNat

/-- Write s[r] and go on. -/
def engPutR (n : Nat) (w : Word) (s : State) (v : Nat) : EngRes :=
  engNext (s.setEng n ((s.eng n).setS (fR w) (BitVec.ofNat 32 v) false)) (s.engPc n)

/-- RESULT written. -/
def State.engResult (s : State) (n st : Nat) : State := s.setEng n { s.eng n with result := st }

/-! ## Events and semaphores -/

/-- NOP. -/
def engNop (n : Nat) (w : Word) (s : State) : EngRes := engSys n w s false false 0 (fun s => engNext s (s.engPc n))

/-- HALT. -/
def engHaltInstr (n : Nat) (w : Word) (s : State) : EngRes := engSys n w s false false 0 (fun s => .halt s)

/-- FENCE: waits while a far access is unanswered (R331). -/
def engFence (n : Nat) (w : Word) (s : State) : EngRes :=
  engSys n w s false false 0 (fun s => if (s.eng n).far.isEmpty then engNext s (s.engPc n) else .wait s 7)

/-- EVFIRE (R348). -/
def engEvfire (n : Nat) (w : Word) (s : State) : EngRes :=
  engSys n w s false false 7 (fun s => engNext (s.fire (248 + fI15 w)) (s.engPc n))

/-- The count of catcher c. -/
def State.catcher (s : State) (n c : Nat) : Nat := s.fld (R.engEccnt n) ⟨8 * c, 8⟩
def State.setCatcher (s : State) (n c v : Nat) : State := s.setFld (R.engEccnt n) ⟨8 * c, 8⟩ v

/-- A selector of a catcher takes a value, and its count is cleared (R349). -/
def State.catcherSelect (s : State) (n c : Nat) (w : Word) : State :=
  (s.setReg (R.engEcsel n c) (w &&& 0x800000FF)).setCatcher n c 0

/-- EVSEL. -/
def engEvsel (n : Nat) (w : Word) (s : State) : EngRes :=
  engSys n w s false false 0x3FF (fun s =>
    engNext (s.catcherSelect n (bitsOf (fI15 w) 8 2) (BitVec.ofNat 32 (2 ^ 31 + fI15 w % 256))) (s.engPc n))

/-- EVWAIT. -/
def engEvwait (n : Nat) (w : Word) (s : State) : EngRes :=
  engSys n w s false false 3 (fun s =>
    let c := fI15 w
    if s.catcher n c = 0 then .wait s 1 else engNext (s.setCatcher n c (s.catcher n c - 1)) (s.engPc n))

/-- A pulse of a catcher's selected line (R349). -/
def State.catcherPulse (s : State) (n c : Nat) : State :=
  if !(s.selOn (R.engEcsel n c)) then s
  else
    let v := min 255 (s.catcher n c + 1)
    let s1 := s.setCatcher n c v
    if v = 255 then s1.setFld (R.engStat n) F.engStat.EC_OVF 1 else s1

/-- Semaphore k of engine n's team. -/
def semReg (n k : Nat) : Nat := R.packTsem (16 * (n / 8) + k)
def State.sem (s : State) (n k : Nat) : Nat := s.fld (semReg n k) F.packTsem.COUNT

/-- SEMP. -/
def engSemp (n : Nat) (w : Word) (s : State) : EngRes :=
  engSys n w s false false 15 (fun s =>
    let k := fI15 w
    if s.sem n k = 0 then .wait s 2 else engNext (s.setFld (semReg n k) F.packTsem.COUNT (s.sem n k - 1)) (s.engPc n))

/-- SEMV, saturating with OVF (R350). -/
def engSemv (n : Nat) (w : Word) (s : State) : EngRes :=
  engSys n w s false false 15 (fun s =>
    let k := fI15 w
    engNext (if s.sem n k = 65535 then s.setFld (semReg n k) F.packTsem.OVF 1
      else s.setFld (semReg n k) F.packTsem.COUNT (s.sem n k + 1)) (s.engPc n))

/-- SEMTRY. -/
def engSemtry (n : Nat) (w : Word) (s : State) : EngRes :=
  engSys n w s true false 15 (fun s =>
    let k := fI15 w
    if s.sem n k = 0 then engPutR n w s 0
    else engPutR n w (s.setFld (semReg n k) F.packTsem.COUNT (s.sem n k - 1)) 1)

/-! ## Windows -/

/-- ITAKE: the oldest line that no engine has taken (R335). -/
def engItake (n : Nat) (w : Word) (s : State) : EngRes :=
  engSys n w s true false 31 (fun s =>
    let i := fI15 w
    if !(s.iwOn i) then .fault 7 none
    else match (s.inWin i).ring.find? (fun l => l.taken.isNone) with
      | none => .wait s 3
      | some l =>
        let x := s.inWin i
        let s1 := (s.setInWin i { x with ring := x.ring.map (fun m => if m.idx = l.idx then { m with taken := some n } else m) }).iwAdvance i
        engPutR n w s1 (0x100000 + s.iwOffset i (l.idx % s.iwSlots i)))

/-- The line of input window i that engine n holds in the slot at a local address. -/
def State.engHeldLine (s : State) (n i a : Nat) : Option InLine :=
  (s.inWin i).ring.find? (fun l => l.taken == some n && !l.released && a == 0x100000 + s.iwOffset i (l.idx % s.iwSlots i))

/-- IREL (R335, R337). -/
def engIrel (n : Nat) (w : Word) (s : State) : EngRes :=
  engSys n w s true true 31 (fun s =>
    let i := fI15 w
    let a := sysArg n w s
    if !(s.iwOn i) then .fault 7 (some a)
    else match s.engHeldLine n i a with
      | none => .fault 7 (some a)
      | some l =>
        let s1 := s.owSourceGone i l.idx .skipped false
        let x := s1.inWin i
        engNext ((s1.setInWin i { x with ring := x.ring.map (fun m => if m.idx = l.idx then { m with released := true } else m) }).iwAdvance i)
          (s.engPc n))

/-- Slot k of output window j is in use by a line other than `idx`. -/
def State.owInUse (s : State) (j k idx : Nat) : Bool :=
  let o := s.outWin j
  o.queue.any (fun l => l.slot == k && l.idx != idx && (l.st == .allocated || l.st == .committed)) ||
    o.held.any (fun h => h.1 == k)

/-- The local address of output slot k of window j. -/
def State.owAddr (s : State) (j k : Nat) : Nat := 0x100000 + s.owOffset j k

/-- OALLOC (R337, R338). A line from before the window's enable gets its slot and is not delivered. -/
def engOalloc (n : Nat) (w : Word) (s : State) : EngRes :=
  engSys n w s true (!(s.owMsg (fI15 w))) 31 (fun s =>
    let j := fI15 w
    let a := sysArg n w s
    let o := s.outWin j
    if !(s.owOn j) then .fault 7 none
    else if s.owMsg j then
      (if s.owInUse j o.next (2 ^ 40) then .wait s 4
       else
         let l : OutLineSt := {
           slot := o.next, idx := s.fld (R.owDlv j) F.owDlv.COUNT + o.queue.length, st := .allocated, eng := n
           src := { line := 0, g := 0, y := 0, vals := [], bad := [], rep := false, exc := false, time := 0 } }
         engPutR n w (s.setOutWin j { o with queue := o.queue ++ [l], next := (o.next + 1) % s.owSlots j }) (s.owAddr j o.next))
    else match s.engHeldLine n (s.owSrc j) a with
      | none => .fault 7 (some a)
      | some l =>
        let k := l.idx % s.iwSlots (s.owSrc j)
        if s.owInUse j k l.idx then .wait s 4
        else
          engPutR n w (s.setOutWin j { o with queue := o.queue.map (fun m =>
            if m.idx = l.idx ∧ m.st = .waiting then { m with st := .allocated, eng := n } else m) }) (s.owAddr j k))

/-- Bytes of internal memory, each with its poison. -/
def State.markedBytes (s : State) (a n : Nat) : List (Byte × Bool) :=
  (List.range n).map (fun i => (s.byte (a + i), s.poisoned (a + i)))

/-- The committed blocks at the head of a message window are handed to HQE in allocation order (R338, R391). -/
def State.owHandOver (j : Nat) : Nat → State → State
  | 0, s => s
  | fuel + 1, s =>
    match (s.outWin j).queue with
    | [] => s
    | l :: r =>
      if l.st ≠ .committed then s
      else
        let a := teamBase (s.owTeam j) + s.owOffset j l.slot
        let max := s.fld (R.owGeom j) F.owGeom.LEN
        let s1 := s.memRead a 4
        let len := (s1.word a).toNat
        let n := min len max
        let s2 := s1.memRead (a + 16) n
        let s3 := if max < len then s2.setFld (R.owStat j) F.owStat.TRUNC 1 else s2
        let s4 := s3.setOutWin j { s3.outWin j with queue := r }
        let sc := s4.fld (R.owSc j) F.owSc.SC
        let t := s4.stream sc
        let open_ := t.opened && t.kind == 2 && t.state != 4
        let s5 := if open_ then s4.setReg (R.owDlv j) (s4.reg (R.owDlv j) + 1) else s4.count (R.owSkipCnt j)
        State.owHandOver j fuel (s5.messageItem sc (0x100 + j) (s5.markedBytes (a + 16) n))

/-- OCOMMIT (R337, R338). -/
def engOcommit (n : Nat) (w : Word) (s : State) : EngRes :=
  engSys n w s true true 31 (fun s =>
    let j := fI15 w
    let a := sysArg n w s
    let o := s.outWin j
    let mine (l : OutLineSt) : Bool := l.st == .allocated && l.eng == n && a == s.owAddr j l.slot
    let early := !(s.owMsg j) && (s.inWin (s.owSrc j)).ring.any (fun l =>
      l.taken == some n && !l.released && a == s.owAddr j (l.idx % s.iwSlots (s.owSrc j)) && !(o.queue.any (fun m => m.idx == l.idx)))
    if !(s.owOn j) then .fault 7 (some a)
    else match o.queue.find? mine with
      | none => if early then engNext s (s.engPc n) else .fault 7 (some a)
      | some l =>
        let s1 := s.setOutWin j { o with queue := o.queue.map (fun m => if m.idx = l.idx ∧ mine m then { m with st := .committed } else m) }
        engNext (if s.owMsg j then State.owHandOver j (o.queue.length + 1) s1 else s1) (s.engPc n))

/-- A line of plane n reaches every enabled input window of the plane (R333, R340). -/
def State.feedWindows (s : State) (n : Nat) (l : FeedLine) : State :=
  s.forEach 32 (fun i t =>
    if t.iwOn i && t.fld (R.iwCfg i) F.iwCfg.PLANE == n then
      t.setInWin i { t.inWin i with feed := (t.inWin i).feed ++ [l] }
    else t)

/-- A line of a plane goes to the codec and to the windows. -/
def State.planeDelivered (s : State) (n : Nat) (l : FeedLine) : State :=
  (s.feedStreams n l.y l.vals l.bad).feedWindows n l

/-- A line of the shading stage as a window sees it (Table 10-6). -/
def State.feedOf (s : State) (n : Nat) (o : OutLine) : FeedLine :=
  let g := s.fld (R.plCfg n) F.plCfg.GRP
  let x := s.group g
  let gl := x.line o.y
  { line := o.y - x.firstLine.getD o.y, g := g, y := o.y, vals := o.vals, bad := o.bad, rep := o.rep
    exc := (match gl with | some l => l.causes.any (fun c => (c >>> 16).testBit n) | none => false)
    time := (match gl with | some l => l.time | none => 0) % 2 ^ 32 }

/-- What a paired output window owes for a line of input window i (R337). -/
def State.owOwe (s : State) (i idx : Nat) (src : FeedLine) (st : OutState) : State :=
  (s.paired i).foldl (fun t j =>
    let o := t.outWin j
    t.setOutWin j { o with queue := o.queue ++ [{ slot := idx % t.iwSlots i, src := src, idx := idx, st := st }] }) s

/-- The oldest line that waits for input window i is written into the oldest free slot, or dropped (R333, R334). -/
def State.iwLineWrite (s : State) (i : Nat) : State :=
  let x := s.inWin i
  match x.feed with
  | [] => s
  | l :: rest =>
    let s0 := s.setInWin i { x with feed := rest }
    if !(s.iwOn i) then s0
    else if s.iwSlots i ≤ x.ring.length then
      let s1 := (s0.count (R.iwDropCnt i)).listLine l.g l.y 0x10 i (s0.planeBit (s0.fld (R.iwCfg i) F.iwCfg.PLANE))
      s1.owOwe i (2 ^ 40 + l.line) l .dropped
    else
      let idx := (s0.reg (R.iwWr i)).toNat
      let a := teamBase (s0.iwTeam i) + s0.iwOffset i (idx % s0.iwSlots i)
      let x0 := s0.fld (R.iwGeom i) F.iwGeom.X0
      let width := s0.fld (R.iwGeom i) F.iwGeom.WIDTH
      let bad := l.bad.filter (fun p => decide (x0 ≤ p ∧ p < x0 + width))
      let doc := s0.docAt (s0.fld (R.iwCfg i) F.iwCfg.TRK) l.g l.y
      let flags := (match doc with | some d => d.2 % 2 ^ 24 + 2 ^ 24 | none => 0) + (if bad.isEmpty then 0 else 2 ^ 25) +
        (if l.rep then 2 ^ 26 else 0) + (if l.exc then 2 ^ 27 else 0)
      let seq := match doc with | some d => s0.docSeq d.1 | none => 0
      let bytes := bytesLE 4 l.line ++ bytesLE 4 seq ++ bytesLE 4 flags ++ bytesLE 4 l.time ++
        (List.range width).flatMap (fun p => bytesLE 2 (l.vals.getD (x0 + p) 0))
      let s1 := bad.foldl (fun t p => t.setPoison (a + 16 + 2 * (p - x0)) true) (s0.memWrite a bytes)
      let s2 := s1.setInWin i { s1.inWin i with ring := (s1.inWin i).ring ++ [{ idx := idx, src := l }] }
      let s3 := (s2.setReg (R.iwWr i) (s2.reg (R.iwWr i) + 1)).setReg (R.iwLast i) (BitVec.ofNat 32 l.line)
      s3.owOwe i idx l .waiting

/-- The next line of an output window is delivered, in LINE order (R337, R340). -/
def State.owLineDeliver (s : State) (j : Nat) : State :=
  let o := s.outWin j
  if !(s.owOn j) || s.owMsg j then s
  else match o.queue with
    | [] => s
    | l :: r =>
      if l.st = .waiting ∨ l.st = .allocated then s
      else
        let own := decide (l.st = .committed)
        let width := s.fld (R.owGeom j) F.owGeom.WIDTH
        let a := teamBase (s.owTeam j) + s.owOffset j l.slot + 16
        let s0 := if own then s.memRead a (2 * width) else s
        let vals := if own then (List.range width).map (fun p => natLE (s0.bytes (a + 2 * p) 2))
          else if o.prev.isEmpty then List.replicate width 0 else o.prev
        let bad := if own then (List.range width).filter (fun p => s0.poisoned (a + 2 * p)) else o.prevBad
        let out : FeedLine := { l.src with vals := vals, bad := bad, rep := !own || l.src.rep }
        let users := s0.openStreams.filter (fun sc =>
          let t := s0.stream sc
          t.state == 1 && (List.range t.npl).any (fun k => t.src k == 64 + j))
        let held := if own && !users.isEmpty then o.held ++ [(l.slot, l.src.y, users)] else o.held
        let s1 := s0.setOutWin j { o with queue := r, held := held, prev := vals, prevBad := bad }
        let s2 := s1.setReg (R.owDlv j) (s1.reg (R.owDlv j) + 1)
        let s3 := if own then s2
          else (s2.setFld (R.owStat j) F.owStat.REPEAT 1).count (R.owSkipCnt j)
        let cause := if l.st = .faulted then 0x11 else 0x12
        let s4 := if l.st = .skipped ∨ l.st = .faulted then s3.listLine l.src.g l.src.y cause j (s3.planeBit (64 + j)) else s3
        s4.planeDelivered (64 + j) out

/-! ## Enabling the windows (R336, R339) -/

/-- A ring, given by window kind (output), number, team, base and end: it overlaps the ring of another enabled window of the
team. -/
def State.ringClash (s : State) (out : Bool) (me team base last : Nat) : Bool :=
  let hit (t b n : Nat) : Bool := t == team && decide (base < b + n ∧ b < last)
  (List.range 32).any (fun i => s.iwOn i && (out || i != me) &&
      hit (s.iwTeam i) (s.iwOffset i 0) (s.iwSlots i * s.iwStride i)) ||
  (List.range 32).any (fun j => s.owOn j && (!out || j != me) &&
      hit (s.owTeam j) (s.owOffset j 0) (s.owSlots j * s.owStride j))

/-- Causes 1, 2 and 4 of R336 for a ring; 0 none. Cause 3 stands between them (`c3`). -/
def State.ringCause (s : State) (out : Bool) (me team base bytes : Nat) (c3 : Bool) : Nat :=
  let limit := if team = 0 then 0x70000 else 0x80000
  if base % 16 ≠ 0 ∨ limit < base + bytes then 1
  else if s.ringClash out me team base (base + bytes) then 2
  else if c3 then 3
  else if !(s.pdOn (97 + team)) ∨ 11 < team then 4
  else 0

/-- The cause of R336 for input window i. -/
def State.iwCause (s : State) (i : Nat) : Nat :=
  let width := s.fld (R.iwGeom i) F.iwGeom.WIDTH
  let plane := s.fld (R.iwCfg i) F.iwCfg.PLANE
  s.ringCause false i (s.iwTeam i) (s.iwOffset i 0) (s.iwSlots i * s.iwStride i)
    (decide (width = 0 ∨ s.iwSlots i = 0 ∨ 65536 < s.fld (R.iwGeom i) F.iwGeom.X0 + width ∨ (48 ≤ plane ∧ plane ≤ 63) ∨ 95 < plane))

/-- The cause of R339 for output window j. -/
def State.owCause (s : State) (j : Nat) : Nat :=
  let len := s.fld (R.owGeom j) F.owGeom.LEN
  let c3 := if s.owMsg j then decide (len = 0 ∨ len % 16 ≠ 0 ∨ s.owSlots j = 0)
    else decide (s.fld (R.owGeom j) F.owGeom.WIDTH = 0) || !(s.iwOn (s.owSrc j))
  s.ringCause true j (s.owTeam j) (s.owOffset j 0) (s.owSlots j * s.owStride j) c3

/-- CFG_ERR and CFG_CAUSE of a window. -/
def State.winErr (s : State) (stat c : Nat) : State :=
  (s.setFld stat F.iwStat.CFG_ERR 1).setFld stat F.iwStat.CFG_CAUSE c

/-- A write of IWi_CFG (R333, R336). -/
def State.iwCfgWrite (s : State) (path : Path) (i : Nat) (w : Word) : State :=
  let was := s.iwOn i
  let s1 := s.writeRow path (R.iwCfg i) Row.iwCfg w was
  if w.getLsbD 0 then
    if was then s1
    else
      let c := s1.iwCause i
      if c ≠ 0 then (s1.winErr (R.iwStat i) c).setFld (R.iwCfg i) F.iwCfg.EN 0
      else (((s1.setInWin i {}).setReg (R.iwWr i) 0).setReg (R.iwRd i) 0).setFld (R.iwStat i) F.iwStat.TAKEN 0
  else if was && !(s.paired i).isEmpty then (s1.winErr (R.iwStat i) 5).setFld (R.iwCfg i) F.iwCfg.EN 1
  else (s1.setInWin i {}).setFld (R.iwStat i) F.iwStat.TAKEN 0

/-- A write of OWj_CFG (R337-R339). -/
def State.owCfgWrite (s : State) (path : Path) (j : Nat) (w : Word) : State :=
  let was := s.owOn j
  let s1 := s.writeRow path (R.owCfg j) Row.owCfg w was
  if w.getLsbD 0 then
    if was then s1
    else
      let c := s1.owCause j
      if c ≠ 0 then (s1.winErr (R.owStat j) c).setFld (R.owCfg j) F.owCfg.EN 0
      else (s1.setOutWin j {}).setReg (R.owDlv j) 0
  else s1.setOutWin j {}

/-! ## Mailboxes (R351, R352) -/

/-- En_MBX shows the queues. -/
def State.mbxRefresh (s : State) (n : Nat) : State :=
  (s.setFld (R.engMbx n) F.engMbx.IN_CNT (s.eng n).inbox.length).setFld (R.engMbx n) F.engMbx.OUT_CNT (s.eng n).outbox.length

/-- Engine m's inbox has room for k words. -/
def State.inboxRoom (s : State) (m k : Nat) : Bool := decide ((s.eng m).inbox.length + k ≤ 16)

/-- A word enters engine m's inbox. -/
def State.inboxPut (s : State) (m : Nat) (w : Word) (src : Nat) : State :=
  (s.setEng m { s.eng m with inbox := (s.eng m).inbox ++ [(w, src)] }).mbxRefresh m

/-- A host write of En_INBOX. -/
def State.inboxWrite (s : State) (path : Path) (m : Nat) (w : Word) : State :=
  if s.inboxRoom m 1 then s.inboxPut m w (claimantOf path) else s.setFld (R.engStat m) F.engStat.IN_OVF 1

/-- MBXRD. -/
def engMbxrd (n : Nat) (w : Word) (s : State) : EngRes :=
  engSys n w s true false 0 (fun s =>
    match (s.eng n).inbox with
    | [] => .wait s 5
    | x :: r => engPutR n w ((s.setEng n { s.eng n with inbox := r, msrc := x.2 }).mbxRefresh n) x.1.toNat)

/-- A word for the halter (R495). -/
def State.halterWord (s : State) (w : Word) : State :=
  let s0 := { s with hlt := { s.hlt with outbox := s.hlt.outbox ++ [w] } }
  let s1 := s0.setFld R.hltStat F.hltStat.OUT_CNT s0.hlt.outbox.length
  if s.hlt.outbox.isEmpty then s1.alert 5 else s1

/-- MBXSEND (R351). -/
def engMbxsend (n : Nat) (w : Word) (s : State) : EngRes :=
  engSys n w s true true 0xFF (fun s =>
    let dst := fI15 w
    let x := (s.eng n).sr (fR w)
    let sent (t : State) : EngRes := engNext (t.engResult n St.success) (s.engPc n)
    if 0x40 ≤ dst ∧ dst < 0x40 + 96 then
      (if s.inboxRoom (dst - 0x40) 1 then sent (s.inboxPut (dst - 0x40) x (0x40 + n)) else .wait s 6)
    else if dst = 0x01 then
      (if (s.eng n).outbox.length < 16 then
        sent ((s.setEng n { s.eng n with outbox := (s.eng n).outbox ++ [x] }).mbxRefresh n) else .wait s 6)
    else if dst = 0x14 then sent (s.gaitWord x)
    else if dst = 0x02 ∧ n = 0 then (if s.hlt.outbox.length < 16 then sent (s.halterWord x) else .wait s 6)
    else engNext (s.engResult n St.invalidField) (s.engPc n))

/-! ## Holds, exceptions and claims (R354-R356) -/

/-- The slot of the record with a DOC_SEQ in track t. -/
def State.slotOfDoc (s : State) (t doc : Nat) : Option Nat :=
  [t * 2, t * 2 + 1].find? (fun k => (s.record k).busy && !(s.record k).complete && s.docSeq k == doc)

/-- HOLD. -/
def engHold (n : Nat) (w : Word) (s : State) : EngRes :=
  engSys n w s true true 3 (fun s =>
    match s.slotOfDoc (fI15 w) (sysArg n w s) with
    | none => engNext (s.engResult n St.noResource) (s.engPc n)
    | some k =>
      let d := s.record k
      engNext (((s.setRecord k { d with holds := addSorted d.holds n }).refreshTrack (fI15 w)).engResult n St.success) (s.engPc n))

/-- UNHOLD. -/
def engUnhold (n : Nat) (w : Word) (s : State) : EngRes :=
  engSys n w s true true 3 (fun s =>
    match (s.slotOfDoc (fI15 w) (sysArg n w s)).filter (fun k => (s.record k).holds.contains n) with
    | none => engNext (s.engResult n St.noResource) (s.engPc n)
    | some k =>
      let d := s.record k
      engNext (((s.setRecord k { d with holds := d.holds.filter (fun h => h != n) }).tryComplete k).engResult n St.success) (s.engPc n))

/-- The unit whose side section takes an exception on some planes (R355). -/
def State.excUnit (s : State) (d : DocRecord) (planes : Nat) : Nat :=
  let g := match lowestSet planes 48 with | some p => s.fld (R.plCfg p) F.plCfg.GRP | none => 0
  let us := (List.range 4).filter (fun u => d.units.contains u)
  (us.find? (fun u => s.unitGroup u == g)).getD (us.headD 0)

/-- An exception of RUN lines from y on entered line by line (R213). -/
def DocRecord.addRun (d : DocRecord) (max u y cause run index planes : Nat) : DocRecord :=
  (List.range run).foldl (fun e i => e.addExc max u (y + i) cause index planes) d

/-- EXC. -/
def engExc (n : Nat) (w : Word) (s : State) : EngRes :=
  engSys n w s true true 0 (fun s =>
    let a := sysArg n w s
    if a % 4 ≠ 0 then .fault 2 (some a)
    else match localAddr n a 20 with
      | none => .fault 3 (some a)
      | some p =>
        let s1 := s.memRead p 20
        let d (i : Nat) : Nat := (s1.word (p + 4 * i)).toNat
        let cause := bitsOf (d 0) 24 8
        let run := bitsOf (d 1) 0 16
        let t := bitsOf (d 1) 24 2
        let planes := d 2 + 2 ^ 32 * bitsOf (d 3) 0 16
        let ok := decide (0x13 ≤ cause ∧ cause ≤ 0x1F ∧ run ≠ 0 ∧ planes ≠ 0) && bitsOf (d 1) 26 6 == 0 && bitsOf (d 3) 16 16 == 0
        if s1.anyPoison p 20 then .fault 5 (some a)
        else if !ok then engNext (s1.engResult n St.invalidField) (s.engPc n)
        else match s1.slotOfDoc t (d 4) with
          | none => engNext (((s1.count (R.trkLateCnt t)).setFld (R.trkStat t) F.trkStat.LATE 1).engResult n St.success) (s.engPc n)
          | some k =>
            let r := s1.record k
            engNext ((s1.setRecord k (r.addRun (s1.excMax t) (s1.excUnit r planes) (bitsOf (d 0) 0 24) cause run
              (bitsOf (d 1) 16 8) planes)).engResult n St.success) (s.engPc n))

/-- The resource that CLAIM and RELEASE name; none for another type or index (R356). -/
def State.resOf (s : State) (i15 : Nat) : Option Res :=
  let ty := bitsOf i15 12 3
  let ix := bitsOf i15 0 8
  if ty = 1 ∧ ix < 32 then some (.timer ix)
  else if ty = 2 ∧ ix < 16 then some (.partition ix)
  else if ty = 3 ∧ ix < 16 then some (.pin ix (s.fld (R.sysGpioCfg ix) F.sysGpioCfg.FUNC))
  else none

/-- The EN bit of a claimed timer or pin (R44, R63, R356). -/
def State.resEnable (s : State) (r : Res) (v : Nat) : State :=
  match r with
  | .timer n =>
    let s1 := s.setFld (R.etimCtl n) F.etimCtl.EN v
    if v = 0 then s1.etimSetRun n 0
    else if s.bit (R.etimCtl n) F.etimCtl.EN || s1.selOn (R.etimStartSel n) then s1 else s1.etimEnabled n
  | .pin n _ => s.setFld (R.sysGpioCfg n) F.sysGpioCfg.EN v
  | .partition _ => s

/-- CLAIM. -/
def engClaim (n : Nat) (w : Word) (s : State) : EngRes :=
  engSys n w s true false 0x70FF (fun s =>
    let done (t : State) (st : Nat) : EngRes := engPutR n w (t.engResult n st) st
    match s.resOf (fI15 w) with
    | none => done s St.invalidField
    | some r =>
      match s.claim r (0x40 + n) with
      | (t, .ok) => done (t.resEnable r 1) St.success
      | (t, .denied) => done t St.claimDenied
      | (t, .invalid) => done t St.invalidField)

/-- RELEASE. -/
def engReleaseInstr (n : Nat) (w : Word) (s : State) : EngRes :=
  engSys n w s true false 0x70FF (fun s =>
    let done (t : State) (st : Nat) : EngRes := engPutR n w (t.engResult n st) st
    match s.resOf (fI15 w) with
    | none => done s St.invalidField
    | some r =>
      match s.release r (0x40 + n) with
      | (t, true) => done (if s.owner r = 0 then t else t.resEnable r 0) St.success
      | (t, false) => done t St.claimDenied)

end Sys2Proof.Machine
end

