-- ==== Sys2Proof/Machine/Video.lean ====
section
/-!
DEFINITION. Sys2Proof/Machine/Video.lean: the video front end: inputs, crosspoint and slices, planes and segments, bank states,
self-calibration, background calibration, spur estimate, video monitor (R118-R154).
-/
namespace Sys2Proof.Machine

/-! ## Idleness (R118, R134) -/

/-- Some enabled line program holds input n. -/
def State.inputHeld (s : State) (n : Nat) : Bool :=
  (List.range 8).any (fun p => s.bit (R.lpCfg p) F.lpCfg.EN && (s.fld (R.lpVin p) F.lpVin.VIN).testBit n)

/-- The bank that input n is routed to (R124). -/
def State.bankOf (s : State) (n : Nat) : Nat := (s.reg R.vafXbar).toNat / 4 ^ n % 4

/-- STATE of bank k (Table 4-1). -/
def State.bankState (s : State) (k : Nat) : Nat := s.fld (R.bankStat k) F.bankStat.STATE

/-- Enabled programs that hold an input routed to bank k, rising. -/
def State.bankPrograms (s : State) (k : Nat) : List Nat :=
  (List.range 8).filter (fun p => s.bit (R.lpCfg p) F.lpCfg.EN &&
    (setBits (s.fld (R.lpVin p) F.lpVin.VIN) 16).any (fun n => s.bankOf n == k))

/-- A bank is idle (R134). -/
def State.bankIdle (s : State) (k : Nat) : Bool := s.bankState k != 2 && (s.bankPrograms k).isEmpty

/-- An input quad domain PD(113 + q) is idle (R134). -/
def State.quadIdle (s : State) (q : Nat) : Bool :=
  (List.range 4).all (fun i => !(s.inputHeld (4 * q + i)) && !(s.vaf.dacOn.contains (4 * q + i))) &&
    !(s.bit R.vafFgcal F.vafFgcal.BUSY)

/-- The quad domain of an input is on. -/
def State.quadOn (s : State) (n : Nat) : Bool := s.pdOn (113 + n / 4)

/-! ## Bank states (R133, Table 4-2) -/

/-- A bank's state, active set in cyclic order and slice outside the set (15 none), as BANKk_STAT shows them. -/
def State.setBankStat (s : State) (k st : Nat) (order : List Nat) (cal : Nat) : State :=
  let s1 := (s.setFld (R.bankStat k) F.bankStat.STATE st).setFld (R.bankStat k) F.bankStat.CAL_SLICE cal
  let s2 := (s1.setFld (R.bankStat k) F.bankStat.EXIT_SLICE 15).setFld (R.bankStat k) F.bankStat.READY 0
  let s3 := s2.setFld (R.bankStat k) F.bankStat.ACTIVE (planeMask order)
  s3.setBank k { s3.bank k with
    order := order, next := if order = (s3.bank k).order then (s3.bank k).next else 0
    pairs := [], fails := 0, passed := false, forced := false, markExit := false, partner := none }

/-- Only the state of the bank changes; its active set stays. -/
def State.setBankState (s : State) (k st : Nat) : State := s.setFld (R.bankStat k) F.bankStat.STATE st

/-- Slices 0-7. -/
def firstEight : List Nat := List.range 8

/-- The calibration in progress is abandoned. -/
def State.dropStep (s : State) (k : Nat) : State :=
  let s1 := (s.setFld (R.bankStat k) F.bankStat.EXIT_SLICE 15).setFld (R.bankStat k) F.bankStat.READY 0
  s1.setBank k { s1.bank k with pairs := [], fails := 0, passed := false, forced := false, markExit := false, partner := none }

/-- PD(109 + k) comes on: the bank leaves OFF (R133, Table 4-2). -/
def State.bankOn (s : State) (k : Nat) : State :=
  if s.bankState k ≠ 0 then s
  else
    let s1 := s.setBankStat k (if s.bit (R.bankCal k) F.bankCal.VALID then 3 else 1) firstEight 8
    ((s1.setFld (R.bankSpur k) F.bankSpur.EST 0).setFld (R.bankStat k) F.bankStat.SPUR_HIGH 0).setBank k
      { s1.bank k with fastStep := 0 }

/-- PD(109 + k) goes off. -/
def State.bankOff (s : State) (k : Nat) : State :=
  let s1 := s.setBankStat k 0 [] 15
  s1.setBank k { s1.bank k with busy := [], fastStep := 0, touched := [], swapped := [] }

/-- Number of slices marked bad. -/
def State.badSlices (s : State) (k : Nat) : List Nat := setBits (s.fld (R.bankCal k) F.bankCal.BAD) 9

/-- A clock-loss reset ends (`clockLoss`), or a warm reset, for bank k (Table 4-2 and the paragraph below it). -/
def State.bankAfterReset (s : State) (k : Nat) (clockLoss : Bool) : State :=
  let st := s.bankState k
  if st = 2 then
    (s.setBankStat k 1 firstEight 8).setFld (R.bankCal k) F.bankCal.VALID 0
  else if clockLoss && (st == 3 || st == 4 || st == 5 || st == 6) then
    let s1 := (s.dropStep k).setBankState k (if (s.badSlices k).isEmpty then 3 else 6)
    s1.setBank k { s1.bank k with fastStep := 0 }
  else if st = 3 then
    let s1 := s.dropStep k
    s1.setBank k { s1.bank k with fastStep := 0 }
  else s

/-- A write of VAF.CTL (Table 4-2). -/
def State.bgEnWrite (s : State) (path : Path) (w : Word) : State :=
  let s1 := s.writeRow path R.vafCtl Row.vafCtl w false
  let on := s1.bit R.vafCtl F.vafCtl.BG_EN
  s1.forEach 4 (fun k t =>
    if on && t.bankState k == 5 then t.setBankState k 4
    else if !on && t.bankState k == 4 then (t.dropStep k).setBankState k 5
    else t)

/-- A write of BANKk_CAL (Table 4-2). -/
def State.bankCalWrite (s : State) (path : Path) (k : Nat) (w : Word) : State :=
  let s1 := s.writeRow path (R.bankCal k) Row.bankCal w (!(s.bankIdle k))
  let v := s1.bit (R.bankCal k) F.bankCal.VALID
  let st := s1.bankState k
  if v && st == 1 then
    let s2 := s1.setBankState k 3
    s2.setBank k { s2.bank k with fastStep := 0 }
  else if !v && (st == 3 || st == 4 || st == 5 || st == 6) then
    s1.setBankStat k 1 firstEight 8
  else s1

/-- A write of VAF.XBAR (R124): discarded in full when it changes the part of an input that is not idle. -/
def State.xbarWrite (s : State) (path : Path) (w : Word) : State :=
  let busy := (List.range 16).any (fun n => s.inputHeld n && decide (w.toNat / 4 ^ n % 4 ≠ s.bankOf n))
  s.writeRow path R.vafXbar Row.vafXbar w busy

/-! ## Strobes (R119, R125-R131) -/

/-- The raw code of R119: voltages in nV; `g` is GAIN, `ofs` OFFSET in mV, `ot` and `gt` the trims. -/
def rawCode (d : Int) (g ofs ot gt : Int) : Nat :=
  let a : Rat := ((d + ofs * 1000000 + ot * 100000 : Int) : Rat) * ((g + 8 : Int) : Rat) / 16 * (1 + ((gt : Int) : Rat) / 5000)
  (clampInt 0 4095 (Rat.floor (a * 4096 / 1000000000 + 1 / 2))).toNat

/-- A slice's output code (R131). -/
def sliceCode (raw : Nat) (ofs gain : Int) : Nat :=
  let c : Rat := ((raw : Nat) - ((ofs : Int) : Rat) / 16) * (1 + ((gain : Int) : Rat) / 262144)
  (clampInt 0 4095 (Rat.floor (c + 1 / 2))).toNat

/-- The clamp of an input is on in step `step` of a burst that program p runs (R120). -/
def State.clampOn (s : State) (n p j step : Nat) : Bool :=
  let tg := s.fld (R.vafVinCfg n) F.vafVinCfg.CLAMP_TG
  s.fld (R.vafVinCfg n) F.vafVinCfg.CLAMP_MODE == 1 && !(s.vaf.dacOn.contains n) &&
    (if (s.drivenTg p).testBit tg then (s.fld (R.tsqPxStep (16 * j + step)) F.tsqPxStep.TG).testBit tg
     else s.tsq.tg.toNat.testBit tg)

/-- The raw code of input n from the voltages at its ball, in nV (R119, R120, R153). -/
def State.inputCode (s : State) (n p j : Nat) (vSig vRst vRef : Int) : Nat :=
  let dac := s.vaf.dacOn.contains n
  let level : Int := vRef + ((s.fld R.vafTdac F.vafTdac.CODE * 1000000000 / 1024 : Nat) : Int)
  let sig := if dac then level
    else if s.clampOn n p j (s.effFld (R.tsqSmp n) F.tsqSmp.SIG_STEP) then vRef else vSig
  let rst := if dac then vRef
    else if s.clampOn n p j (s.effFld (R.tsqSmp n) F.tsqSmp.RST_STEP) then vRef else vRst
  let d := if s.bit (R.vafVinCfg n) F.vafVinCfg.MODE then sig - rst else sig - vRef
  let d' := if s.bit (R.vafVinCfg n) F.vafVinCfg.INV then -d else d
  rawCode d' (min 120 (s.effFld (R.vafVinLvl n) F.vafVinLvl.GAIN) : Nat) (signed 9 (s.effFld (R.vafVinLvl n) F.vafVinLvl.OFFSET))
    (signed 8 (s.fld (R.vafVinTrim n) F.vafVinTrim.OTRIM)) (signed 8 (s.fld (R.vafVinTrim n) F.vafVinTrim.GTRIM))

/-- Where sample i of burst m of an input with tag k goes: its plane, x and trim entry; none when it has no place (R128,
R129). `skipped` tells the first SKIP samples from the dropped ones. -/
inductive Place where
  | at (plane x entry : Nat)
  | skipped
  | unmapped
  deriving DecidableEq

def State.place (s : State) (n k m i : Nat) : Place :=
  match setBits (s.tagPlanes (2 ^ n) k) 48,
    (List.range 64).find? (fun sg => s.bit (R.vafSegCfg sg) F.vafSegCfg.EN && s.fld (R.vafSegCfg sg) F.vafSegCfg.VIN == n &&
      s.fld (R.vafSegCfg sg) F.vafSegCfg.ORD == m) with
  | plane :: _, some sg =>
    let skip := s.fld (R.vafSegX sg) F.vafSegX.SKIP
    let x0 : Int := (s.fld (R.vafSegX sg) F.vafSegX.X0 : Nat)
    if i < skip then .skipped
    else
      let x := if s.bit (R.vafSegCfg sg) F.vafSegCfg.DIR then x0 - (i - skip : Nat) else x0 + (i - skip : Nat)
      if x < 0 ∨ 65535 < x then .unmapped else .at plane x.toNat (6 * sg + k)
  | _, _ => .unmapped

/-- Corrections of slice sl of bank k: offset and gain. -/
def State.sliceCorr (s : State) (k sl : Nat) : Int × Int :=
  (signed 10 (s.fld (R.bankSlOfs k sl) F.bankSlOfs.OFS), signed 16 (s.fld (R.bankSlGsk k sl) F.bankSlGsk.GAIN))

/-- 20 ns in 78.125 ps steps (R125). -/
def sliceTime : Nat := 256

/-- The comparison over 64 pairs passes (R142): mean and root mean square in 1/16 LSB. -/
def State.pairsPass (s : State) (l : List Int) : Bool :=
  let sum := l.foldl (· + ·) 0
  let sq := l.foldl (fun a d => a + d * d) 0
  decide (sum.natAbs ≤ 64 * s.fld R.vafBgtol F.vafBgtol.MEAN ∧
    sq ≤ ((64 * s.fld R.vafBgtol F.vafBgtol.RMS * s.fld R.vafBgtol F.vafBgtol.RMS : Nat) : Int))

/-- The active slice of bank k whose last completed calibration is oldest, passing over some slices (R141). -/
def State.oldestSlice (s : State) (k : Nat) (skip : List Nat) : Option Nat :=
  let b := s.bank k
  let age (sl : Nat) : Nat := Table.get (fun _ => 0) b.calNo sl
  ((sortBy (fun a c => decide (c < a)) b.order).filter (fun sl => !(skip.contains sl))).foldl (fun m sl => match m with
    | none => some sl
    | some o => if age sl < age o then some sl else m) none

/-- The bank enters DEGRADED with a slice marked bad, and VAF.STAT.DEGR bit k is set (R146). -/
def State.markBad (s : State) (k sl : Nat) : State :=
  ((s.setFld (R.bankCal k) ⟨sl, 1⟩ 1).setFld R.vafStat ⟨4 + k, 1⟩ 1).setBankState k 6

/-- The comparison of the ready slice has 64 pairs (R142, R146). -/
def State.judgePairs (s : State) (k : Nat) : State :=
  let b := s.bank k
  if b.passed || decide (b.pairs.length < 64) then s
  else if s.pairsPass b.pairs then s.setBank k { b with passed := true, markExit := b.partner.isSome }
  else
    let s1 := s.count (R.bankAbortCnt k)
    if b.partner.isSome then
      let ready := s1.fld (R.bankStat k) F.bankStat.CAL_SLICE
      (s1.dropStep k).markBad k ready
    else if b.fails = 0 then
      -- the ready slice repeats its step
      let s2 := s1.dropStep k
      s2.setBank k { s2.bank k with fails := 1 }
    else
      let exit := s1.fld (R.bankStat k) F.bankStat.EXIT_SLICE
      s1.setBank k { b with fails := 2, pairs := [], partner := s1.oldestSlice k [exit] }

/-- A converted strobe of slice `sl` of bank k is compared with the ready slice's code, if that slice follows it (R142). -/
def State.comparePair (s : State) (k sl raw out : Nat) (ready : Option Nat) : State :=
  let b := s.bank k
  let target := b.partner.getD (s.fld (R.bankStat k) F.bankStat.EXIT_SLICE)
  match ready with
  | some r =>
    if s.bit (R.bankStat k) F.bankStat.READY && sl == target && raw != 0 && raw != 4095 && r != 0 && r != 4095 then
      let out2 := sliceCode r (signed 10 b.newCorr.1) (signed 16 b.newCorr.2.1)
      (s.setBank k { b with pairs := ((16 * ((out2 : Int) - (out : Int))) :: b.pairs).take 64 }).judgePairs k
    else s
  | none => s

/-- The monitor takes a raw code of a line on input n (R150, R152); overlap lines are not taken lines. -/
def State.monitorSample (s : State) (n line raw : Nat) : State :=
  if overlapBase ≤ line then s
  else
    let m := s.monitor n
    let rail := if raw = 0 ∨ raw = 4095 then 1 else 0
    s.setMonitor n (if m.open_ && m.line == line then
        { m with min := min m.min raw, max := max m.max raw, rails := m.rails + rail, count := m.count + 1 }
      else { m with line := line, open_ := true, min := raw, max := raw, rails := rail, count := 1 })

/-- The line that the monitor of input n has taken is judged (R150-R152). -/
def State.judgeVideo (s : State) (n : Nat) : State :=
  let m := s.monitor n
  if !m.open_ then s
  else
    let s1 := (s.setFld (R.vafVinMinmax n) F.vafVinMinmax.MIN m.min).setFld (R.vafVinMinmax n) F.vafVinMinmax.MAX m.max
    let stuck := decide (m.max - m.min ≤ s.fld R.vafVfm F.vafVfm.SPAN)
    let rail := decide (15 * m.count ≤ 16 * m.rails)
    if !((s.fld R.vafVfm F.vafVfm.EN).testBit n) then s1.setMonitor n { m with open_ := false, run := 0, lines := [] }
    else if !(stuck || rail) then s1.setMonitor n { m with open_ := false, run := 0, lines := [] }
    else
      let lines := (m.line :: m.lines).take 4
      let s2 := s1.setMonitor n { m with open_ := false, run := min 4 (m.run + 1), lines := lines }
      if m.run + 1 < 4 then s2
      else
        let s3 := if stuck then s2.setFld R.vafVfStuck ⟨n, 1⟩ 1 else s2
        let s4 := if rail then s3.setFld R.vafVfRail ⟨n, 1⟩ 1 else s3
        let s5 := s4.setFld R.vafStat F.vafStat.VF 1
        let mask := (List.range 6).foldl (fun a k => a ||| s5.tagPlanes (2 ^ n) k) 0
        (if m.run = 3 then lines.reverse else [m.line]).foldl (fun t y => t.listPlanes y Cause.videoFault n mask) s5

/-- A sample that is not converted (R126): counted, listed, and replaced by the raw code of the previous line at its x. -/
def State.missSample (s : State) (n p k line m i : Nat) (bank : Nat) : State :=
  let s1 := s.count (R.bankMissCnt bank)
  match s1.place n k m i with
  | .at plane x entry =>
    let prev := ((s1.planeLines plane).filter (fun l => decide (l.y < line ∧ (line < overlapBase → l.y < overlapBase)))).headD { y := 0 }
    let s2 := s1.lineExc p line Cause.sampleMissing n (2 ^ plane)
    { s2 with vaf := { s2.vaf with fifo := s2.vaf.fifo ++
      [{ lp := p, line := line, plane := plane, x := x, raw := Table.get (fun _ => 0) prev.raw x, entry := entry }] } }
  | _ => s1

/-- The next strobe of input n in the burst that its program runs (R125-R131). Voltages are those at the ball in nV; tRst and
tSig are the times of the reset and signal strobes in 78.125 ps steps; `ready` is the raw code of the bank's ready slice when
it samples the strobe too (R142). (DESIGN CHOICE: notes/assumptions/19.) -/
def State.videoStrobe (s : State) (n : Nat) (vSig vRst vRef : Int) (tRst tSig : Nat) (ready : Option Nat) : State :=
  match (List.range 8).find? (fun p => (s.fld (R.lpVin p) F.lpVin.VIN).testBit n && (s.lp p).run != .idle &&
      (s.lp p).burst.isSome) with
  | none => s
  | some p =>
    let l := s.lp p
    match l.burst with
    | none => s
    | some b =>
      let i := Table.get (fun _ => 0) l.taken n
      let placed := decide (s.effFld (R.tsqSmp n) F.tsqSmp.SIG_STEP < s.period b.pattern) &&
        (s.fld (R.tsqPxCfg b.pattern) F.tsqPxCfg.VIN).testBit n && decide (i < s.fld (R.tsqPxCount b.pattern) F.tsqPxCount.COUNT)
      if !(b.smp && b.sends && placed) then s
      else
        let t := if l.pending == some b.line && l.pendRead then l.prevBursts else l.bursts
        let m := Table.get (fun _ => 0) t (8 * n + b.tag) - 1
        let s1 := s.setLp p { l with taken := Table.set (fun _ => 0) l.taken n (i + 1) }
        let k := s1.bankOf n
        if !(s1.quadOn n) then s1.missSample n p b.tag b.line m i k
        else
          let bk := s1.bank k
          let st := s1.bankState k
          if st = 0 ∨ st = 2 ∨ st = 7 then s1.missSample n p b.tag b.line m i k
          else
            let sl := (bk.order[bk.next]?).getD 0
            let from_ := if s1.bit (R.vafVinCfg n) F.vafVinCfg.MODE then tRst else tSig
            let bk1 := { bk with next := (bk.next + 1) % (max 1 bk.order.length) }
            if from_ < Table.get (fun _ => 0) bk.busy sl then (s1.setBank k bk1).missSample n p b.tag b.line m i k
            else
              let here := (p, b.line)
              let bk2 := { bk1 with busy := Table.set (fun _ => 0) bk1.busy sl (tSig + sliceTime)
                                    touched := if bk1.touched.contains here then bk1.touched else (here :: bk1.touched).take 8 }
              let s2 := s1.setBank k bk2
              let raw := s2.inputCode n p b.pattern vSig vRst vRef
              let (ofs, gain) := s2.sliceCorr k sl
              let out := sliceCode raw ofs gain
              let s2' := if (s2.monitor n).open_ && (s2.monitor n).line != b.line then s2.judgeVideo n else s2
              let s3 := (s2'.comparePair k sl raw out ready).monitorSample n b.line raw
              match s3.place n b.tag m i with
              | .skipped => s3
              | .unmapped => s3.count R.vafUnmapCnt
              | .at plane x entry =>
                let s4 := if st = 1 then s3.lineExc p b.line Cause.uncalibrated k (2 ^ plane) else s3
                let s5 := if bk.swapped.contains here then s4.lineExc p b.line Cause.sliceSwap k (2 ^ plane) else s4
                { s5 with vaf := { s5.vaf with fifo := s5.vaf.fifo ++
                  [{ lp := p, line := b.line, plane := plane, x := x, raw := out, entry := entry }] } }

/-! ## Spur estimate (R149) -/

/-- The argument e of R149 from the residual spreads. -/
def spurArg (sp : Spread) : Rat :=
  let o : Rat := ((sp.ofs : Nat) : Rat) / 1000000 / 2048
  let g : Rat := ((sp.gain : Nat) : Rat) / 1000000000 / 2
  let t : Rat := (314159265358979 : Rat) / 100000000000000 * 25000000 * (((sp.skew : Nat) : Rat) / 1000000000000000)
  o * o + g * g + t * t

/-- -100 log10 e is at most m + 1/2. -/
def spurAtMost (e : Rat) (m : Nat) : Bool := decide (1 ≤ e ^ 200 * (10 : Rat) ^ (2 * m + 1))

/-- The least m below 4096 with that, by halving. -/
def spurSearch (e : Rat) : Nat → Nat → Nat → Nat
  | 0, lo, _ => lo
  | n + 1, lo, hi =>
    let m := (lo + hi) / 2
    if lo < hi then if spurAtMost e m then spurSearch e n lo m else spurSearch e n (m + 1) hi else lo

/-- EST and SPUR_HIGH of bank k from new residuals (R149). The logarithm of 0 is a free value. -/
def State.spurEstimate (s : State) (k : Nat) (sp : Spread) : State :=
  let e := spurArg sp
  let (est, s1) := if e = 0 then let (v, t) := s.free; (v % 4096, t) else (spurSearch e 13 0 4095, s)
  let s2 := s1.setFld (R.bankSpur k) F.bankSpur.EST est
  s2.setFld (R.bankStat k) F.bankStat.SPUR_HIGH (if est < s2.fld (R.bankSpur k) F.bankSpur.LIM then 1 else 0)

/-! ## Self-calibration (R136-R140) -/

/-- A write of VAF.FGCAL; with START = 1 a self-calibration starts, or the start is discarded (R136). -/
def State.fgcalWrite (s : State) (path : Path) (w : Word) : State :=
  let s1 := s.writeRow path R.vafFgcal Row.vafFgcal w false
  if !(w.getLsbD 0) then s1
  else
    let banks := setBits (s1.fld R.vafFgcal F.vafFgcal.BANKS) 4
    let ins := (List.range 16).filter (fun n => s1.quadOn n)
    if s1.bit R.vafFgcal F.vafFgcal.BUSY || banks.any (fun k => s1.bankState k == 0 || !(s1.bankIdle k)) ||
        ins.any (fun n => s1.inputHeld n) then s1.errIdle path R.vafFgcal
    else
      let s2 := banks.foldl (fun t k => t.setBankStat k 2 [] 15) s1
      { (s2.setFld R.vafFgcal F.vafFgcal.BUSY 1) with vaf := { s2.vaf with fgInputs := planeMask ins } }

/-- One measured correction lies outside its field. -/
def outside (bits : Nat) (v : Int) : Bool := decide (v < -(2 ^ (bits - 1) : Nat) ∨ ((2 ^ (bits - 1) : Nat) : Int) ≤ v)

/-- The measured corrections and bad slices of one bank are written, and the bank leaves FGCAL (R133, R138, Table 4-2).
Index 9 k + s of the lists is slice s of bank k; `bad` holds the slices whose residual exceeds Table 4-5. -/
def State.fgcalBank (s : State) (k : Nat) (ofs gain skew : List Int) (bad : List Nat) (sp : Spread) : State :=
  let at_ (l : List Int) (sl : Nat) : Int := (l[9 * k + sl]?).getD 0
  let isBad (sl : Nat) : Bool := bad.contains (9 * k + sl) || outside 10 (at_ ofs sl) || outside 16 (at_ gain sl) ||
    outside 8 (at_ skew sl)
  let bads := (List.range 9).filter isBad
  let s1 := s.forEach 9 (fun sl t =>
    let t1 := t.setFld (R.bankSlOfs k sl) F.bankSlOfs.OFS (unsigned 10 (at_ ofs sl))
    (t1.setFld (R.bankSlGsk k sl) F.bankSlGsk.GAIN (unsigned 16 (at_ gain sl))).setFld (R.bankSlGsk k sl) F.bankSlGsk.SKEW
      (unsigned 8 (at_ skew sl)))
  let s2 := s1.setFld (R.bankCal k) F.bankCal.BAD (planeMask bads)
  let s3 := match bads with
    | [] => (s2.setBankStat k (if s2.bit R.vafCtl F.vafCtl.BG_EN then 4 else 5) firstEight 8).setFld (R.bankCal k) F.bankCal.VALID 1
    | [b] => ((s2.setBankStat k 6 ((List.range 9).filter (fun x => x != b)) b).setFld (R.bankCal k) F.bankCal.VALID 1).setFld
        R.vafStat ⟨4 + k, 1⟩ 1
    | _ => s2.setBankStat k 7 [] 15
  let b3 := s3.bank k
  (s3.setBank k { b3 with
    calCount := b3.calCount + 1
    calNo := (List.range 9).foldl (fun t sl => Table.set (fun _ => 0) t sl (b3.calCount + 1)) b3.calNo }).spurEstimate k sp

/-- The self-calibration completes (R137, R138) with its RESULT. -/
def State.fgcalEnd (s : State) (ofs gain skew : List Int) (bad : List Nat) (trims : List Word) (spreads : List Spread) : State :=
  if !(s.bit R.vafFgcal F.vafFgcal.BUSY) then s
  else
    let banks := (setBits (s.fld R.vafFgcal F.vafFgcal.BANKS) 4).filter (fun k => s.bankState k == 2)
    let s1 := banks.foldl (fun t k => t.fgcalBank k ofs gain skew bad ((spreads[k]?).getD ⟨0, 0, 0⟩)) s
    let s2 := (setBits s1.vaf.fgInputs 16).foldl (fun t n =>
      t.setReg (R.vafVinTrim n) (((trims[n]?).getD 0) &&& 0x00FF00FF)) s1
    let low := banks.any (fun k => s2.bankState k == 6 || s2.bankState k == 7 || s2.bit (R.bankStat k) F.bankStat.SPUR_HIGH)
    let r := if low then St.calQualityLow else St.success
    let s3 := ((s2.setFld R.vafFgcal F.vafFgcal.BUSY 0).setFld R.vafFgcal F.vafFgcal.DONE 1).setFld R.vafFgcal F.vafFgcal.RESULT r
    { s3 with work := s3.work ++ [Work.fgDone r] }

/-! ## Background calibration (R141-R146) -/

/-- The slice outside the active set has finished its step with new corrections (R141): it is ready, and the exit slice is
chosen; in FAST the step writes its corrections and the ninth step ends the pass (Table 4-2). -/
def State.bgcalStep (s : State) (k : Nat) (ofs gain skew : Int) : State :=
  let st := s.bankState k
  let b := s.bank k
  let sl := s.fld (R.bankStat k) F.bankStat.CAL_SLICE
  if !(st == 3 || st == 4) || s.bit (R.bankStat k) F.bankStat.READY || decide (8 < sl) then s
  else
    let exit := (s.oldestSlice k []).getD 15
    let corr := (unsigned 10 ofs, unsigned 16 gain, unsigned 8 skew)
    let s1 := (s.setFld (R.bankStat k) F.bankStat.READY 1).setFld (R.bankStat k) F.bankStat.EXIT_SLICE exit
    let s2 := s1.setBank k { b with
      calCount := b.calCount + 1, calNo := Table.set (fun _ => 0) b.calNo sl (b.calCount + 1)
      fastStep := if st = 3 then b.fastStep + 1 else b.fastStep, newCorr := corr
      pairs := [], passed := false, forced := false, partner := none, markExit := false }
    if st = 3 then
      let s3 := (s2.setFld (R.bankSlOfs k sl) F.bankSlOfs.OFS corr.1).setFld (R.bankSlGsk k sl) F.bankSlGsk.GAIN corr.2.1
      let s4 := s3.setFld (R.bankSlGsk k sl) F.bankSlGsk.SKEW corr.2.2
      if b.fastStep + 1 < 9 then s4
      else if s4.bit R.vafCtl F.vafCtl.BG_EN then s4.setBankState k 4 else (s4.dropStep k).setBankState k 5
    else s2

/-- Lines of the bank's programs that are in progress. -/
def State.bankBusy (s : State) (k : Nat) : Bool := (s.bankPrograms k).any (fun p => (s.lp p).run != .idle)

/-- A handover may take effect at this SLCLK edge (R143-R145). -/
def State.handoverOk (s : State) (k : Nat) : Bool :=
  let b := s.bank k
  let ps := s.bankPrograms k
  s.bit (R.bankStat k) F.bankStat.READY &&
    (ps.isEmpty || (b.passed && (!(s.bankBusy k) ||
      (b.forced && (match ps with | p :: _ => (s.lp p).run == .idle | [] => true)))))

/-- A handover (R143): the ready slice takes the exit slice's place. -/
def State.handover (s : State) (k : Nat) (sp : Spread) : State :=
  if !(s.handoverOk k) then s
  else
    let b := s.bank k
    let sl := s.fld (R.bankStat k) F.bankStat.CAL_SLICE
    let exit := s.fld (R.bankStat k) F.bankStat.EXIT_SLICE
    let order := b.order.map (fun x => if x = exit then sl else x)
    let s1 := (s.setFld (R.bankSlOfs k sl) F.bankSlOfs.OFS b.newCorr.1).setFld (R.bankSlGsk k sl) F.bankSlGsk.GAIN b.newCorr.2.1
    let s2 := s1.setFld (R.bankSlGsk k sl) F.bankSlGsk.SKEW b.newCorr.2.2
    let s3 := (s2.setFld (R.bankStat k) F.bankStat.CAL_SLICE exit).setFld (R.bankStat k) F.bankStat.ACTIVE (planeMask order)
    let s4 := (s3.setFld (R.bankStat k) F.bankStat.EXIT_SLICE 15).setFld (R.bankStat k) F.bankStat.READY 0
    let cut := if s.bankBusy k then b.touched.filter (fun e => (s.lp e.1).run != .idle && (s.lp e.1).line == e.2) else []
    let s5 := (s4.count (R.bankSwapCnt k)).setBank k { b with
      order := order, pairs := [], fails := 0, passed := false, forced := false, markExit := false, partner := none
      swapped := cut }
    (if b.markExit then s5.markBad k exit else s5).spurEstimate k sp

/-- BGCAL.WAIT_MS have passed since READY (R144, R145). -/
def State.handoverWait (s : State) (k : Nat) : State :=
  let b := s.bank k
  if !(s.bit (R.bankStat k) F.bankStat.READY) then s
  else if b.passed then s.setBank k { b with forced := true }
  else if b.pairs.length < 64 ∧ !(s.bankPrograms k).isEmpty then
    (s.setBank k { b with passed := true, forced := true }).count (R.bankUnverCnt k)
  else s

/-! ## Commands -/

end Sys2Proof.Machine
end

