-- ==== Sys2Proof/Machine/CalRecord.lean ====
section
/-!
DEFINITION. Sys2Proof/Machine/CalRecord.lean: the flash as storage (R485-R489) and the calibration record: its save and its
load (R188-R191, R286).
-/
namespace Sys2Proof.Machine

/-! ## Flash -/

/-- One byte of the flash; an erased byte reads 0xFF. -/
def State.flashByte (s : State) (a : Nat) : Byte := Table.get (fun _ => 0xFF) s.hlt.flash a

/-- Bytes of the flash. -/
def State.flashBytes (s : State) (a n : Nat) : List Byte := (List.range n).map (fun i => s.flashByte (a + i))

/-- The flash after an erase of `n` bytes. -/
def State.flashErase (s : State) (a n : Nat) : State :=
  { s with hlt := { s.hlt with flash := s.hlt.flash.filter (fun e => decide (e.1 < a ∨ a + n ≤ e.1)) } }

/-- The flash after a program operation: bits go from 1 to 0 only. -/
def State.flashProgram (s : State) (a : Nat) : List Byte → State
  | [] => s
  | b :: r =>
    State.flashProgram { s with hlt := { s.hlt with
      flash := Table.set (fun _ => 0xFF) s.hlt.flash a (s.flashByte a &&& b) } } (a + 1) r

/-! ## Slots (R188, R191, Table 5-6) -/

/-- Base of slot A (0) or B (1) and the bytes of a slot (Table 14-4). -/
def calSlot (k : Nat) : Nat := 0x800000 + k * 0x400000
def calSlotBytes : Nat := 0x400000

/-- The sections of a record body as TYPE and payload; none when one does not lie wholly in it. -/
def calSections : Nat → List Byte → Option (List (Nat × List Byte))
  | 0, _ => none
  | fuel + 1, l =>
    if l.isEmpty then some []
    else
      let n := natLE ((l.drop 4).take 4)
      if l.length < 8 + n then none
      else (calSections fuel (l.drop (8 + n))).map (fun r => (natLE (l.take 2), (l.drop 8).take n) :: r)

/-- SEQ, and the sections of the record in a slot when the slot is valid. -/
def State.calRecord (s : State) (k : Nat) : Option (Nat × List (Nat × List Byte)) :=
  let h := s.flashBytes (calSlot k) 64
  let f (o n : Nat) : Nat := natLE ((h.drop o).take n)
  if h.take 4 == [0x47, 0x43, 0x41, 0x4C] && f 4 2 == 1 && f 0x38 4 == (crc32c (h.take 0x38)).toNat && f 0x3C 4 == 0xA55A &&
      decide (4096 + f 0xC 4 ≤ calSlotBytes) && f 0x14 4 / 65536 == (s.reg R.sysId).toNat / 65536 then
    let body := s.flashBytes (calSlot k + 4096) (f 0xC 4)
    if f 0x10 4 == (crc32c body).toNat then (calSections (f 0xC 4 + 1) body).map (fun l => (f 8 4, l)) else none
  else none

/-- The slot that the loader applies: the newer valid one (R191). -/
def State.calChosen (s : State) : Option (Nat × Nat × List (Nat × List Byte)) :=
  match s.calRecord 0, s.calRecord 1 with
  | none, none => none
  | some a, none => some (0, a)
  | none, some b => some (1, b)
  | some a, some b =>
    let d := (b.1 + 2 ^ 32 - a.1) % 2 ^ 32
    if 1 ≤ d ∧ d ≤ 2 ^ 31 - 1 then some (1, b) else some (0, a)

/-! ## The body (Table 5-7) -/

/-- A section with its header. -/
def calSection (type : Nat) (payload : List Byte) : List Byte :=
  bytesLE 2 type ++ [0, 0] ++ bytesLE 4 payload.length ++ payload

/-- Registers as bytes. -/
def State.regBytes (s : State) (offs : List Nat) : List Byte := offs.flatMap (fun o => bytesLE 4 (s.reg o).toNat)

/-- The registers of the fixed sections, in the order of their payload. -/
def calRegs (type : Nat) : List Nat :=
  if type = 0x0001 then (List.range 4).flatMap (fun k =>
    R.bankCal k :: (List.range 9).flatMap (fun i => [R.bankSlOfs k i, R.bankSlGsk k i]))
  else if type = 0x0002 then (List.range 16).map R.vafVinTrim
  else if type = 0x0003 then R.auxCalStat :: ((List.range 8).map R.auxCalOfs ++ (List.range 8).map R.auxCalGain)
  else if type = 0x0010 then (List.range 4).flatMap (fun g => [R.grpSett g, R.grpSetv g]) ++ (List.range 48).map R.plAlign
  else if type = 0x0013 then (List.range 384).flatMap (fun e => [R.shdTrim0 e, R.shdTrim1 e])
  else []

/-- The coefficient range of a group's enabled planes, as first pixel-plane index and number. -/
def State.calRange (s : State) (g : Nat) : Nat × Nat :=
  let pls := s.groupPlanes g
  let lo := pls.foldl (fun m n => min m (s.fld (R.plBase n) F.plBase.BASE)) 393216
  let hi := pls.foldl (fun m n => max m (s.fld (R.plBase n) F.plBase.BASE + s.fld (R.plCfg n) F.plCfg.WIDTH)) 0
  (lo, hi - lo)

/-- The range sections of one set, 0 A or 1 B: one for each enabled group whose set is valid (R190). -/
def State.rangeSections (s : State) (set : Nat) : List Byte :=
  (List.range 4).flatMap (fun g =>
    let valid := s.bit (R.grpSetv g) (if set = 0 then F.grpSetv.VA else F.grpSetv.VB)
    if s.bit (R.grpCtl g) F.grpCtl.EN && valid && !(s.groupPlanes g).isEmpty then
      let r := s.calRange g
      calSection (0x0011 + set) (bytesLE 4 r.1 ++ s.bytes (shadingBase + set * 0x180000 + 4 * r.1) (4 * r.2))
    else [])

/-- The record body. (DEDUCED: notes/assumptions/55.) -/
def State.calBody (s : State) : List Byte :=
  let fixed (t : Nat) : List Byte := calSection t (s.regBytes (calRegs t))
  fixed 0x0001 ++ fixed 0x0002 ++ fixed 0x0003 ++ fixed 0x0010 ++ s.rangeSections 0 ++ s.rangeSections 1 ++ fixed 0x0013

/-! ## Save (R189, R190, R489) -/

/-- A save is requested: it starts, or waits behind the running one (R189). -/
def State.saveRequest (s : State) : State :=
  if s.bit R.shdRecStat F.shdRecStat.BUSY then s.setFld R.shdRecStat F.shdRecStat.PEND 1
  else s.setFld R.shdRecStat F.shdRecStat.BUSY 1

/-- A write of SHD.REC_CTL. -/
def State.recCtlWrite (s : State) (path : Path) (w : Word) : State :=
  let s1 := s.writeRow path R.shdRecCtl Row.shdRecCtl w false
  if w.getLsbD 0 then s1.saveRequest else s1

/-- The running save ends with a status, and a pending one starts. -/
def State.saveEnd (s : State) (status : Nat) : State :=
  let s1 := (s.setFld R.shdRecStat F.shdRecStat.RESULT status).setFld R.shdRecStat F.shdRecStat.DONE 1
  let again := s1.fld R.shdRecStat F.shdRecStat.PEND
  let s2 := (s1.setFld R.shdRecStat F.shdRecStat.BUSY again).setFld R.shdRecStat F.shdRecStat.PEND 0
  let s3 := s2.setFld R.hltStat F.hltStat.SAVE 0
  { s3 with shd := { s3.shd with saveSlot := none, saveBody := [] }, work := s3.work ++ [Work.saveDone status] }

/-- SEQ of the record that a save writes, and its slot (R190). -/
def State.saveTarget (s : State) : Nat × Nat :=
  match s.calChosen with
  | none => (1, 0)
  | some (k, seq, _) => ((seq + 1) % 2 ^ 32, 1 - k)

/-- Header bytes 0x00-0x3B of a record (Table 5-6). -/
def State.calHeader (s : State) (seq : Nat) (body : List Byte) : List Byte :=
  let h := [0x47, 0x43, 0x41, 0x4C] ++ bytesLE 2 1 ++ bytesLE 2 64 ++ bytesLE 4 seq ++ bytesLE 4 body.length ++
    bytesLE 4 (crc32c body).toNat ++ bytesLE 4 (s.reg R.sysId).toNat ++ bytesLE 8 s.sys.time.toNat ++ List.replicate 24 0xFF
  h ++ bytesLE 4 (crc32c h).toNat

/-- The save takes its snapshot, once no group computes or copies and no halter flash operation runs, and erases the inactive
slot; a record longer than the slot ends it (R190, R489). -/
def State.saveStart (s : State) : State :=
  let waits := (List.range 4).any (fun g => s.grpState g == 4 || s.grpState g == 5) || s.bit R.hltFlStat F.hltFlStat.BUSY
  if !(s.bit R.shdRecStat F.shdRecStat.BUSY) || s.shd.saveSlot.isSome || waits then s
  else
    let body := s.calBody
    if calSlotBytes < 4096 + body.length then s.saveEnd St.noResource
    else
      let t := s.saveTarget
      let s1 := s.flashErase (calSlot t.2) ((4096 + body.length + 65535) / 65536 * 65536)
      let s2 := s1.setFld R.hltStat F.hltStat.SAVE 1
      { s2 with shd := { s2.shd with saveSlot := some t.2, saveBody := s.calHeader t.1 body ++ body } }

/-- The save's flash work ends (R190): on success the record stands in its slot with COMMIT. -/
def State.saveComplete (s : State) (flashOk : Bool) : State :=
  match s.shd.saveSlot with
  | none => s
  | some k =>
    if !flashOk then s.saveEnd St.busError
    else
      let h := s.shd.saveBody.take 60
      let s1 := s.flashProgram (calSlot k + 4096) (s.shd.saveBody.drop 60)
      let s2 := (s1.flashProgram (calSlot k) h).flashProgram (calSlot k + 0x3C) (bytesLE 4 0xA55A)
      (s2.setReg R.shdRecSeq (BitVec.ofNat 32 (natLE ((h.drop 8).take 4)))).saveEnd St.success

/-! ## Load (R191) -/

/-- Bits of the calibration registers that the loader writes. -/
def calMask (off : Nat) : Word :=
  if 0x0C600 ≤ off ∧ off < 0x0CA00 then
    (if off % 0x100 = 0x08 then 0x000101FF else if off % 8 = 0 then 0x000003FF else 0x00FFFFFF)
  else if (List.range 16).any (fun n => off == R.vafVinTrim n) then 0x00FF00FF
  else if off = R.auxCalStat then 0x00000001
  else if R.auxCalOfs 0 ≤ off ∧ off < R.auxCalStat then 0x0000FFFF
  else if (List.range 4).any (fun g => off == R.grpSetv g) then 0xFFFF0007
  else if (List.range 48).any (fun n => off == R.plAlign n) then 0x07FFFFFF
  else 0xFFFFFFFF

/-- One register takes its recorded value, at once. -/
def State.calPut (s : State) (off : Nat) (w : Word) : State :=
  match (List.range 4).find? (fun k => off == R.bankCal k) with
  | some k => s.bankCalWrite .bar0 k (w &&& calMask off)
  | none => (s.setReg off (w &&& calMask off)).commit [off]

/-- The registers of a list take the words of a payload. -/
def State.calPutAll (s : State) : List Nat → List Byte → State
  | [], _ => s
  | o :: r, l => if l.length < 4 then s else State.calPutAll (s.calPut o (BitVec.ofNat 32 (natLE (l.take 4)))) r (l.drop 4)

/-- One section is applied; a section of unknown TYPE is skipped. -/
def State.calApply (s : State) (e : Nat × List Byte) : State :=
  if e.1 = 0x0011 ∨ e.1 = 0x0012 then
    let base := shadingBase + (e.1 - 0x0011) * 0x180000
    let from_ := natLE (e.2.take 4)
    let words := (e.2.drop 4).take (4 * (393216 - from_))
    s.memWrite (base + 4 * from_) words
  else s.calPutAll (calRegs e.1) e.2

/-- The loader applies the newer valid slot (R191): the alignment and shading domains come on first where the record holds
range sections. -/
def State.calLoad (s : State) : State :=
  match s.calChosen with
  | none => s.setFld R.shdRecStat F.shdRecStat.LOADED 3
  | some (k, seq, l) =>
    let ranges := l.any (fun e => e.1 == 0x0011 || e.1 == 0x0012)
    let s1 := if ranges then (s.setPd 129 true).setPd 130 true else s
    let s2 := l.foldl (fun t e => t.calApply e) s1
    (s2.setFld R.shdRecStat F.shdRecStat.LOADED (1 + k)).setReg R.shdRecSeq (BitVec.ofNat 32 seq)

end Sys2Proof.Machine
end

