-- ==== Sys2Proof/Machine/Ecdsa.lean ====
section
/-!
DEFINITION. Sys2Proof/Machine/Ecdsa.lean: verification of an ECDSA P-256 signature, which R358 and R498 name and which
FIPS 186-5 defines (PRESUMED: the spec does not repeat the standard).
-/
namespace Sys2Proof.Machine

/-- The prime, the order of the base point, the coefficient b and the base point of P-256. -/
def ecP : Nat := 2 ^ 256 - 2 ^ 224 + 2 ^ 192 + 2 ^ 96 - 1
def ecN : Nat := 0xffffffff00000000ffffffffffffffffbce6faada7179e84f3b9cac2fc632551
def ecB : Nat := 0x5ac635d8aa3a93e7b3ebbd55769886bc651d06b0cc53b0f63bce3c3e27d2604b
def ecG : Nat × Nat :=
  (0x6b17d1f2e12c4247f8bce6e563a440f277037d812deb33a0f4a13945d898c296,
   0x4fe342e2fe1a7f9b8ee7eb4a7c0f9e162bce33576b315ececbb6406837bf51f5)

/-- The bits of a number below 2 ^ 256, most significant first. -/
def bits256 (k : Nat) : List Bool := ((List.range 256).map (fun i => k.testBit i)).reverse

/-- Power modulo m, exponent below 2 ^ 256. -/
def powMod (a k m : Nat) : Nat := (bits256 k).foldl (fun r b => if b then r * r % m * a % m else r * r % m) (1 % m)

/-- Inverse modulo a prime. -/
def invMod (a m : Nat) : Nat := powMod (a % m) (m - 2) m

/-- A point of the curve in Jacobian coordinates: (X / Z^2, Y / Z^3), the point at infinity with Z = 0. -/
abbrev EcPoint := Nat × Nat × Nat

/-- Difference modulo the prime, of numbers below it. -/
def ecSub (a b : Nat) : Nat := (a + ecP - b) % ecP

/-- Double of a point. -/
def ecDouble (p : EcPoint) : EcPoint :=
  let (x, y, z) := p
  let zz := z * z % ecP
  let yy := y * y % ecP
  let m := 3 * ecSub x zz * (x + zz) % ecP
  let v := 4 * x * yy % ecP
  let x3 := ecSub (m * m % ecP) (2 * v % ecP)
  (x3, ecSub (m * ecSub v x3 % ecP) (8 * yy * yy % ecP), 2 * y * z % ecP)

/-- Sum of two points. -/
def ecAdd (p q : EcPoint) : EcPoint :=
  if p.2.2 = 0 then q
  else if q.2.2 = 0 then p
  else
    let (x1, y1, z1) := p
    let (x2, y2, z2) := q
    let u := x1 * z2 * z2 % ecP
    let v := y1 * z2 * z2 * z2 % ecP
    let h := ecSub (x2 * z1 * z1 % ecP) u
    let r := ecSub (y2 * z1 * z1 * z1 % ecP) v
    if h = 0 then (if r = 0 then ecDouble p else (1, 1, 0))
    else
      let hh := h * h % ecP
      let x3 := ecSub (r * r % ecP) ((h * hh + 2 * u * hh) % ecP)
      (x3, ecSub (r * ecSub (u * hh % ecP) x3 % ecP) (v * h * hh % ecP), h * z1 * z2 % ecP)

/-- A multiple of a point. -/
def ecMul (k : Nat) (p : Nat × Nat) : EcPoint :=
  (bits256 k).foldl (fun r b => if b then ecAdd (ecDouble r) (p.1, p.2, 1) else ecDouble r) (1, 1, 0)

/-- The affine X coordinate of a point other than that at infinity. -/
def ecX (p : EcPoint) : Nat :=
  let w := invMod p.2.2 ecP
  p.1 * w * w % ecP

/-- A point lies on the curve. -/
def ecOn (p : Nat × Nat) : Bool :=
  decide (p.1 < ecP ∧ p.2 < ecP ∧ p.2 * p.2 % ecP = (p.1 * p.1 * p.1 + (ecP - 3) * p.1 + ecB) % ecP)

/-- A signature (r then s, big-endian) of a message verifies under a public key (X then Y, big-endian). -/
def ecVerify (key msg sig : List Byte) : Bool :=
  let q := (natBE (key.take 32), natBE ((key.drop 32).take 32))
  let r := natBE (sig.take 32)
  let s := natBE ((sig.drop 32).take 32)
  if !(ecOn q) || decide (r = 0 ∨ ecN ≤ r ∨ s = 0 ∨ ecN ≤ s) then false
  else
    let w := invMod s ecN
    let z := natBE (sha256 msg)
    let x := ecAdd (ecMul (z * w % ecN) ecG) (ecMul (r * w % ecN) q)
    x.2.2 != 0 && ecX x % ecN == r

end Sys2Proof.Machine
end

