-- ==== Sys2Proof/Machine/Keys.lean ====
section
/-!
DEFINITION. Sys2Proof/Machine/Keys.lean: the OTP array, its key slots and key hashes (Table 14-5, R490-R493).
-/
namespace Sys2Proof.Machine

/-- A byte of the OTP array; every bit reads 0 until it is programmed. -/
def State.otpByte (s : State) (a : Nat) : Byte := Table.get (fun _ => 0) s.hlt.otp a

/-- Bytes of the OTP array. -/
def State.otpBytes (s : State) (a n : Nat) : List Byte := (List.range n).map (fun i => s.otpByte (a + i))

/-- Bits of a byte programmed to 1. -/
def State.otpProgram (s : State) (a : Nat) (b : Byte) : State :=
  { s with hlt := { s.hlt with otp := Table.set (fun _ => 0) s.hlt.otp a (s.otpByte a ||| b) } }

/-- Fabric key slot k as programmed, and whether it is revoked. -/
def State.fkeySlot (s : State) (k : Nat) : List Byte := s.otpBytes (0x80 + 32 * k) 32
def State.fkeyRevoked (s : State) (k : Nat) : Bool := (s.otpByte 0x4A).getLsbD k
def State.fkeyEmpty (s : State) (k : Nat) : Bool := (s.fkeySlot k).all (fun b => b == 0)

/-- The active fabric key slot: the highest programmed and unrevoked one (R492). -/
def State.fkeyActive (s : State) : Option Nat :=
  [3, 2, 1, 0].find? (fun k => !(s.fkeyEmpty k) && !(s.fkeyRevoked k))

/-- DLF.KEY.VALID follows the slots. -/
def State.refreshKey (s : State) : State := s.setFld R.dlfKey F.dlfKey.VALID (if s.fkeyActive.isSome then 1 else 0)

/-- The hash that a signer's public key must have (R358, R491); none while the product key hash is empty. -/
def State.keyHash (s : State) (slot : Nat) : Option (List Byte) :=
  let h := s.otpBytes (if slot = 0 then 8 else 0x28) 32
  if slot = 1 && h.all (fun b => b == 0) then none else some h

end Sys2Proof.Machine
end

