-- ==== Sys2Proof/Machine/Images.lean ====
section
/-!
DEFINITION. Sys2Proof/Machine/Images.lean: Sestinen images: their header, their validity, and the load of an image into its
target engines (R357-R361).
-/
namespace Sys2Proof.Machine

/-- A little-endian field of a byte list. -/
def fieldAt (l : List Byte) (o n : Nat) : Nat := natLE ((l.drop o).take n)

/-- Fields of an image header (Table 10-14). -/
def imgId (h : List Byte) : Nat := fieldAt h 0x08 4
def imgVersion (h : List Byte) : Nat := fieldAt h 0x0C 4
def imgKind (h : List Byte) : Nat := fieldAt h 0x10 1
def imgKeySlot (h : List Byte) : Nat := fieldAt h 0x11 1
def imgEntry (h : List Byte) : Nat := fieldAt h 0x12 2
def imgWords (h : List Byte) : Nat := fieldAt h 0x14 2
def imgDataOfs (h : List Byte) : Nat := fieldAt h 0x18 4
def imgDataLen (h : List Byte) : Nat := fieldAt h 0x1C 4
def imgTotal (h : List Byte) : Nat := fieldAt h 0x20 4

/-- Every header field meets Table 10-14, and ENTRY lies in the code (R358). -/
def imgHeaderOk (h : List Byte) : Bool :=
  decide (h.length = 128) && (h.take 4 == [0x53, 0x45, 0x53, 0x54]) &&
  decide (fieldAt h 4 2 = 1 ∧ fieldAt h 6 2 = 128) &&
  (decide (imgId h / 65536 = 1) || decide (0x80000000 ≤ imgId h)) &&
  decide ((imgKind h = 1 ∨ imgKind h = 2) ∧ imgKeySlot h ≤ 1 ∧ imgEntry h < 4096) &&
  decide (1 ≤ imgWords h ∧ imgWords h ≤ 4096 ∧ imgEntry h < imgWords h ∧ fieldAt h 0x16 2 = 0) &&
  decide (imgDataOfs h % 16 = 0 ∧ imgDataLen h % 16 = 0 ∧ imgDataOfs h + imgDataLen h ≤ 65536) &&
  decide (imgTotal h = 128 + 4 * imgWords h + imgDataLen h + 64) && ((h.drop 0x24).take 28).all (fun b => b == 0)

/-- The key hash and the signature of a signed byte string hold: its last 64 bytes sign the rest under `key` (R358, R499). -/
def State.signedOk (s : State) (slot : Nat) (key l : List Byte) : Bool :=
  s.keyHash slot == some (sha256 key) && ecVerify key (l.take (l.length - 64)) (l.drop (l.length - 64))

/-- An image is valid (R358). -/
def State.imageValid (s : State) (im : List Byte) : Bool :=
  imgHeaderOk (im.take 128) && decide (im.length = imgTotal (im.take 128)) &&
  s.signedOk (imgKeySlot (im.take 128)) ((im.drop 0x40).take 64) im

/-- Instruction and data memory of an engine zero-filled, IMG := 0 (R359). -/
def State.engWipe (s : State) (n : Nat) : State :=
  (s.zeroFill (engineData n) 0x14000).setFld (R.engStat n) F.engStat.IMG 0

/-- The first status that refuses a load (R359, R361); 0 none. -/
def State.loadRefused (s : State) (targets : List Nat) (h : List Byte) (total : Nat) : Nat :=
  if targets.any (fun n => s.engState n == 2 || s.engState n == 3) then St.contextBusy
  else if targets.any (fun n => s.engState n == 0) then St.noResource
  else if !(imgHeaderOk h) || total != imgTotal h then St.invalidField
  else if targets.any (fun n => if n = 0 then imgKind h != 2 || imgKeySlot h != 0 else imgKind h == 2) then St.invalidField
  else 0

/-- An image is written into one target (R359). -/
def State.engPlace (s : State) (n : Nat) (im : List Byte) : State :=
  let h := im.take 128
  let code := (im.drop 128).take (4 * imgWords h)
  let data := (im.drop (128 + 4 * imgWords h)).take (imgDataLen h)
  (s.setBytes (engineInstr n) code).setBytes (engineData n + imgDataOfs h) data

/-- A verified target may start (R359). -/
def State.engArm (s : State) (n : Nat) (h : List Byte) : State :=
  let s1 := s.setFld (R.engStart n) F.engStart.PC (imgEntry h)
  let s2 := (s1.setReg (R.engImg n) (BitVec.ofNat 32 (imgId h))).setReg (R.engVer n) (BitVec.ofNat 32 (imgVersion h))
  ((s2.setFld (R.engStat n) F.engStat.IMG 1).setFld (R.engStat n) F.engStat.KIND (imgKind h)).setFld (R.engStat n)
    F.engStat.KEY (imgKeySlot h)

/-- Steps 1 to 4 of R359 on a whole image: the state and the status. (DESIGN CHOICE: notes/assumptions/40.) -/
def State.loadImage (s : State) (targets : List Nat) (im : List Byte) : State × Nat :=
  let c := s.loadRefused targets (im.take 128) im.length
  if c ≠ 0 then (s, c)
  else
    let s1 := targets.foldl (fun t n => (t.engWipe n).engPlace n im) s
    if s.imageValid im then (targets.foldl (fun t n => t.engArm n (im.take 128)) s1, 0)
    else (targets.foldl (fun t n => t.engWipe n) s1, St.signatureInvalid)

end Sys2Proof.Machine
end

