-- ==== Sys2Proof/Machine/Gcm.lean ====
section
/-!
DEFINITION. Sys2Proof/Machine/Gcm.lean: AES-256-GCM, which R442 names and which FIPS 197 and SP 800-38D define (PRESUMED: the
spec does not repeat the standards).
-/
namespace Sys2Proof.Machine

/-- Multiplication by x in the field of AES. -/
def aesX (a : Byte) : Byte := if a.getLsbD 7 then (a <<< 1) ^^^ 0x1b else a <<< 1

/-- Product in the field of AES. -/
def aesMul (a b : Byte) : Byte :=
  ((List.range 8).foldl (fun (p : Byte × Byte) i => (aesX p.1, if b.getLsbD i then p.2 ^^^ p.1 else p.2)) (a, 0)).2

/-- The inverse a^254 in the field of AES, 0 of 0. -/
def aesInv (a : Byte) : Byte :=
  ((List.range 7).foldl (fun (p : Byte × Byte) _ => let q := aesMul p.1 p.1; (q, aesMul p.2 q)) (a, 1)).2

/-- The S-box of AES. -/
def aesSub (a : Byte) : Byte :=
  let b := aesInv a
  b ^^^ b.rotateLeft 1 ^^^ b.rotateLeft 2 ^^^ b.rotateLeft 3 ^^^ b.rotateLeft 4 ^^^ 0x63

/-- The words of the expanded key, newest first; `i` counts words, `rc` is the next round constant. -/
def aesExpand : Nat → Nat → Byte → List (List Byte) → List (List Byte)
  | 0, _, _, w => w
  | n + 1, i, rc, w =>
    let t := w.getD 0 []
    let old := w.getD 7 []
    let u := if i % 8 = 0 then
        match (t.drop 1 ++ t.take 1).map aesSub with
        | b :: r => (b ^^^ rc) :: r
        | [] => []
      else if i % 8 = 4 then t.map aesSub else t
    aesExpand n (i + 1) (if i % 8 = 0 then aesX rc else rc) (List.zipWith (fun a b => a ^^^ b) old u :: w)

/-- The fifteen round keys of a 32-byte key. -/
def aesKeys (key : List Byte) : List (List Byte) :=
  let w0 := ((List.range 8).map (fun i => (key.drop (4 * i)).take 4)).reverse
  let w := (aesExpand 52 8 1 w0).reverse
  (List.range 15).map (fun r => ((w.drop (4 * r)).take 4).flatten)

/-- XOR of two byte lists. -/
def xorBytes (a b : List Byte) : List Byte := List.zipWith (fun x y => x ^^^ y) a b

/-- Byte substitution and row shift of a block. -/
def aesSubShift (s : List Byte) : List Byte :=
  (List.range 16).map (fun i => aesSub (s.getD ((i + 4 * (i % 4)) % 16) 0))

/-- Column mix of a block. -/
def aesMix (s : List Byte) : List Byte :=
  (List.range 16).map (fun i =>
    let c := i / 4 * 4
    let g := fun (j : Nat) => s.getD (c + (i + j) % 4) 0
    aesMul 2 (g 0) ^^^ aesMul 3 (g 1) ^^^ g 2 ^^^ g 3)

/-- AES-256 of one block. -/
def aesBlock (keys : List (List Byte)) (blk : List Byte) : List Byte :=
  let s := (List.range 13).foldl (fun s r => xorBytes (aesMix (aesSubShift s)) (keys.getD (r + 1) []))
    (xorBytes blk (keys.getD 0 []))
  xorBytes (aesSubShift s) (keys.getD 14 [])

/-- Product in the field of GCM, blocks as 128-bit numbers, first bit most significant. -/
def gcmMul (x y : BitVec 128) : BitVec 128 :=
  ((List.range 128).foldl (fun (p : BitVec 128 × BitVec 128) i =>
    let z := if x.getMsbD i then p.1 ^^^ p.2 else p.1
    let v := if p.2.getLsbD 0 then (p.2 >>> 1) ^^^ (0xE1#128 <<< 120) else p.2 >>> 1
    (z, v)) (0, y)).1

/-- GHASH of a byte string that is padded block by block. -/
def ghash (h : BitVec 128) (m : List Byte) : BitVec 128 :=
  (List.range ((m.length + 15) / 16)).foldl (fun y i =>
    let blk := (m.drop (16 * i)).take 16
    gcmMul (y ^^^ BitVec.ofNat 128 (natBE (blk ++ List.replicate (16 - blk.length) 0))) h) 0

/-- Bytes padded with 0 to whole blocks. -/
def padBlock (m : List Byte) : List Byte := m ++ List.replicate ((16 - m.length % 16) % 16) 0

/-- The key stream applied to bytes, from counter 2. -/
def gcmCrypt (keys : List (List Byte)) (iv m : List Byte) : List Byte :=
  let ks := (List.range ((m.length + 15) / 16)).flatMap (fun i => aesBlock keys (iv ++ bytesBE 4 (i + 2)))
  xorBytes m ks

/-- The 128-bit tag of a ciphertext with additional data. -/
def gcmTag (keys : List (List Byte)) (iv aad c : List Byte) : List Byte :=
  let h := BitVec.ofNat 128 (natBE (aesBlock keys (List.replicate 16 0)))
  let s := ghash h (padBlock aad ++ padBlock c ++ bytesBE 8 (8 * aad.length) ++ bytesBE 8 (8 * c.length))
  xorBytes (bytesBE 16 s.toNat) (aesBlock keys (iv ++ bytesBE 4 1))

end Sys2Proof.Machine
end

