-- ==== Sys2Proof/Machine/Fabric.lean ====
section
/-!
DEFINITION. Sys2Proof/Machine/Fabric.lean: the ports of Doldean Fabric: link words, packets, credits, acknowledgement and
replay, authentication and encryption, policing and quarantine (R427-R443, R463, R464).
-/
namespace Sys2Proof.Machine

/-! ## State -/

/-- State of a port. -/
def State.port (s : State) (k : Nat) : Port := Table.get (fun _ => {}) s.fab.ports k

/-- The state with that of a port replaced. -/
def State.setPort (s : State) (k : Nat) (x : Port) : State :=
  { s with fab := { s.fab with ports := Table.set (fun _ => {}) s.fab.ports k x } }

/-! States of Table 13-6, of Table 13-9, causes of Table 13-10 and packet types of Table 13-4. -/
namespace Dl
def disabled : Nat := 0
def down : Nat := 1
def train : Nat := 2
def hello : Nat := 3
def auth : Nat := 4
def active : Nat := 5
def quarantine : Nat := 6
def fOff : Nat := 0
def fAlone : Nat := 1
def fElect : Nat := 2
def fAssign : Nat := 3
def fReady : Nat := 4
def qAuth : Nat := 1
def qReplay : Nat := 2
def qErrors : Nat := 3
def qPolice : Nat := 4
def qCredit : Nat := 5
def qProtocol : Nat := 6
def qForced : Nat := 7
def rdReq : Nat := 1
def wrReq : Nat := 2
def rdRsp : Nat := 3
def wrRsp : Nat := 4
def stitch : Nat := 5
def msg : Nat := 6
def auth_ : Nat := 7
end Dl

/-- STATE of a port. -/
def State.portState (s : State) (k : Nat) : Nat := s.fld (R.dlStat k) F.dlStat.STATE

/-- The state with STATE of a port set. -/
def State.setPortState (s : State) (k st : Nat) : State := s.setFld (R.dlStat k) F.dlStat.STATE st

/-- The ports that are ACTIVE, rising. -/
def State.activePorts (s : State) : List Nat := (List.range 4).filter (fun k => s.portState k == Dl.active)

/-- Own node ID and UID; STATE of the fabric. -/
def State.nodeId (s : State) : Nat := s.fld R.dlfStat F.dlfStat.NODE_ID
def State.uid (s : State) : Nat := s.reg64 R.dlfUidLo R.dlfUidHi
def State.fabState (s : State) : Nat := s.fld R.dlfStat F.dlfStat.STATE

/-- ROLE of a port: 0 none, 1 parent, 2 child, 3 cross. -/
def State.portRole (s : State) (k : Nat) : Nat := s.fld (R.dlStat k) F.dlStat.ROLE

/-- UID of a port's peer. -/
def State.peerUid (s : State) (k : Nat) : Nat := s.reg64 (R.dlPeerLo k) (R.dlPeerHi k)

/-- A port sends. -/
def State.portOut (s : State) (k : Nat) (o : Out) : State :=
  let x := s.port k
  s.setPort k { x with out := o :: x.out }

/-- A port sends a link word (Table 13-2). -/
def State.sendWord (s : State) (k ltype : Nat) (body : List Byte) : State := s.portOut k (.word ⟨ltype, body⟩)

/-! ## Packets (R431, R432, R434, R442) -/

/-- Header bytes 6-11. -/
def tagArg (tag arg : Nat) : List Byte := bytesLE 2 tag ++ bytesLE 4 arg

/-- PCRC of a packet (R432). -/
def packetCrc (type dst src tag arg : Nat) (payload : List Byte) : Nat :=
  (crc32c (bytesLE 1 type ++ bytesLE 1 dst ++ bytesLE 1 src ++ tagArg tag arg ++ payload)).toNat

/-- A packet of this node. -/
def State.packet (s : State) (type dst tag arg plen : Nat) (payload : List Byte) (bad : List Nat) : TxPacket :=
  let src := if type = Dl.auth_ then 0 else s.nodeId
  { type := type, dst := dst, src := src, ttl := 15, plen := plen, tag := tag, arg := arg
    pcrc := packetCrc type dst src tag arg payload, payload := payload, bad := bad }

/-- The virtual channel of a packet (Table 13-4). -/
def vcOf (type : Nat) : Nat := if type = Dl.rdRsp ∨ type = Dl.wrRsp then 1 else 0

/-- Flits of a packet on a link (R431). -/
def flitsOf (payload : Nat) (enc : Bool) : Nat := 1 + (payload + 15) / 16 + (if enc then 1 else 0)

/-- The sixteen header bytes as sent on the link (Table 13-3). -/
def headerBytes (type dst src ttl plen lseq tag arg pcrc : Nat) : List Byte :=
  bytesLE 1 type ++ bytesLE 1 dst ++ bytesLE 1 src ++ bytesLE 1 ttl ++ bytesLE 2 (plen + lseq * 512) ++ tagArg tag arg ++
  bytesLE 4 pcrc

/-- The side with the lower UID sends in direction 0 (R442). -/
def State.lowSide (s : State) (k : Nat) : Bool := decide (s.uid < s.peerUid k)

/-- The IV of a direction and counter. -/
def gcmIv (fromLow : Bool) (ctr : Nat) : List Byte := bytesBE 4 (if fromLow then 0 else 1) ++ bytesBE 8 ctr

/-- The packet as it goes on the wire, protected on an encrypted link with the next counter (R442). -/
def State.transmit (s : State) (k : Nat) (p : Sent) : State :=
  let x := s.port k
  if s.bit (R.dlStat k) F.dlStat.ENC && p.pkt.type != Dl.auth_ then
    let t := p.pkt
    let keys := aesKeys x.session
    let iv := gcmIv (s.lowSide k) x.txCtr
    let aad := headerBytes t.type t.dst t.src t.ttl t.plen p.lseq t.tag t.arg t.pcrc
    let c := gcmCrypt keys iv (padBlock t.payload)
    let q := { p with pkt := { t with payload := c }, trailer := some ((gcmTag keys iv aad c).take 12, x.txCtr % 2 ^ 32) }
    (s.setPort k { x with txCtr := x.txCtr + 1 }).portOut k (.packet q)
  else s.portOut k (.packet p)

/-- Credits held for a virtual channel. -/
def State.credits (s : State) (k vc : Nat) : Nat :=
  if vc = 0 then s.fld (R.dlCred k) F.dlCred.VC0 else s.fld (R.dlCred k) F.dlCred.VC1

/-- The state with credits of a virtual channel set. -/
def State.setCredits (s : State) (k vc n : Nat) : State :=
  if vc = 0 then s.setFld (R.dlCred k) F.dlCred.VC0 n else s.setFld (R.dlCred k) F.dlCred.VC1 n

/-- A port sends the packets that wait, in order, while it holds credits and fewer than 64 are unacknowledged (R434, R435);
during a renewal only AUTH (R442). -/
def State.pump (k : Nat) : Nat → State → State
  | 0, s => s
  | fuel + 1, s =>
    let x := s.port k
    match x.queue with
    | [] => s
    | p :: r =>
      let st := s.portState k
      let enc := s.bit (R.dlStat k) F.dlStat.ENC && p.type != Dl.auth_
      let n := flitsOf p.payload.length enc
      let vc := vcOf p.type
      let may := (st == Dl.active && (!x.rekey || p.type == Dl.auth_)) ||
        ((st == Dl.hello || st == Dl.auth) && p.type == Dl.auth_)
      if may && decide (n ≤ s.credits k vc) && decide (x.replay.length < 64) then
        let q : Sent := { pkt := p, lseq := x.txSeq }
        let s1 := s.setPort k { x with queue := r, txSeq := (x.txSeq + 1) % 128, replay := x.replay ++ [(q, 0)] }
        State.pump k fuel ((s1.setCredits k vc (s.credits k vc - n)).transmit k q)
      else s

/-- A packet is queued for a port. -/
def State.enqueue (s : State) (k : Nat) (p : TxPacket) : State :=
  let x := s.port k
  State.pump k (x.queue.length + 1) (s.setPort k { x with queue := x.queue ++ [p] })

/-- The route nibble of a node ID (Table 13-8). -/
def State.routeTo (s : State) (dst : Nat) : Nat := bitsOf (s.reg (R.dlfRt (dst / 8))).toNat (4 * (dst % 8)) 4

/-- A packet that cannot reach its destination: counted; a request is answered with FABRIC_UNREACHABLE (R433, R439). The answer
to a request of this node completes the access here. -/
def State.unreachable (s : State) (p : TxPacket) : State :=
  let s1 := s.count R.dlfUnreachCnt
  if p.type ≠ Dl.rdReq ∧ p.type ≠ Dl.wrReq then s1
  else if p.src = s.nodeId then { s1 with work := s1.work ++ [Work.remoteDone p.tag St.fabricUnreachable []] }
  else
    let n := s1.routeTo p.src
    if n < 4 ∧ s1.portState n = Dl.active then
      s1.enqueue n (s1.packet (p.type + 2) p.src p.tag St.fabricUnreachable 0 [] [])
    else s1

/-- A packet goes toward its destination by the route table (R433). -/
def State.routePacket (s : State) (p : TxPacket) : State :=
  let n := s.routeTo p.dst
  if n < 4 ∧ s.portState n = Dl.active then s.enqueue n p else s.unreachable p

/-- A forwarded packet: TTL decremented, discarded at 0 (R433). -/
def State.forwardPacket (s : State) (p : TxPacket) : State :=
  if p.ttl ≤ 1 then s.unreachable p else s.routePacket { p with ttl := p.ttl - 1 }

/-- The ports that carry a broadcast: the parent and the children but the one it came by (R447). -/
def State.treePorts (s : State) (from_ : Option Nat) : List Nat :=
  s.activePorts.filter (fun k => some k != from_ && (s.portRole k == 1 || s.portRole k == 2))

/-- A response to a request. -/
def State.respond (s : State) (reqType dst tag status : Nat) (data : List (Byte × Bool)) : State :=
  let bytes := data.map (fun b => b.1)
  let bad := (List.range ((data.length + 15) / 16)).filter (fun i => ((data.drop (16 * i)).take 16).any (fun b => b.2))
  s.routePacket (s.packet (reqType + 2) dst tag status bytes.length bytes bad)

/-! ## Acknowledgement and replay (R434, R435) -/

/-- The packets numbered before `l` are acknowledged. -/
def ackUpTo (l : Nat) (r : List (Sent × Nat)) : List (Sent × Nat) :=
  match r.findIdx? (fun e => e.1.lseq == l) with
  | some i => r.drop (i + 1)
  | none => r

/-! ## Leaving ACTIVE and quarantine (R438, R439, R464) -/

/-- A port's link is gone: what it had queued is answered or discarded, its session ends (R439). -/
def State.portClear (s : State) (k : Nat) : State :=
  let x := s.port k
  let lost := x.replay.map (fun e => e.1.pkt) ++ x.queue
  let s1 := s.setPort k { fails := x.fails, qtime := x.qtime, out := x.out }
  let s2 := ((s1.setFld (R.dlStat k) F.dlStat.ENC 0).setFld (R.dlStat k) F.dlStat.ROLE 0)
  lost.foldl (fun t p => if p.type = Dl.auth_ then t else t.unreachable p) s2

/-- A port goes to another state; from ACTIVE with EV(228 + k) and its exit counted (R439). -/
def State.portLeave (s : State) (k st : Nat) : State :=
  let was := s.portState k
  let s1 := s.setPortState k st
  if was = Dl.active then ((s1.portClear k).count (R.dlDownCnt k)).fire (228 + k)
  else s1.setPort k { fails := (s1.port k).fails, qtime := (s1.port k).qtime, out := (s1.port k).out }

/-- A port enters QUARANTINE with a cause: it sends LEAVE (R464). A failed authentication lengthens the stay (R441). -/
def State.portQuarantine (s : State) (k cause : Nat) : State :=
  let st := s.portState k
  if st = Dl.active ∨ (st = Dl.auth ∧ cause = Dl.qAuth) then
    let s0 := s.sendWord k 6 []
    let x := s0.port k
    let fails := if cause = Dl.qAuth then x.fails + 1 else x.fails
    let base := s0.fld R.dlfGuard F.dlfGuard.QTIME_MS
    let q := base * 2 ^ (min 6 ((if cause = Dl.qAuth then fails else 1) - 1))
    let s1 := (s0.setPort k { x with fails := fails, qtime := q }).portLeave k Dl.quarantine
    let s2 := (s1.setFld (R.dlStat k) F.dlStat.QCAUSE cause).fire 239
    if cause = Dl.qAuth then s2.count R.dlfAuthFailCnt else s2
  else s

/-- ERR_LIM. -/
def State.errLim (s : State) : Nat := s.fld R.dlfGuard F.dlfGuard.ERR_LIM

/-- FABCLK ticks of a second. -/
def tickHz : Nat := 800000000

/-- The times of the last second with one more. -/
def recent (now : Nat) (l : List Nat) : List Nat := now :: l.filter (fun t => decide (now < t + tickHz))

/-- A transmission error on a port: counted; beyond ERR_LIM in a second the port is quarantined; inside a packet one NAK goes
out (R430, R435, Table 13-10). -/
def State.transmissionError (s : State) (k : Nat) (inPacket : Bool) : State :=
  let x := s.port k
  let l := recent s.sys.time.toNat x.errs
  let x1 := { x with errs := l, nak := if inPacket && x.nak.isNone then some x.rxSeq else x.nak }
  let s1 := (s.setPort k x1).count (R.dlTerrCnt k)
  if s.errLim < l.length then s1.portQuarantine k Dl.qErrors else s1

/-- Replay from a packet onward in order; the fourth replay of one packet quarantines the port (R435). -/
def State.replayFrom (s : State) (k : Nat) (lseq : Nat) : State :=
  let x := s.port k
  match x.replay.findIdx? (fun e => e.1.lseq == lseq) with
  | none => s
  | some i =>
    let again := (x.replay.drop i).map (fun e => (e.1, e.2 + 1))
    let s1 := s.setPort k { x with replay := x.replay.take i ++ again }
    if again.any (fun e => decide (4 ≤ e.2)) then s1.portQuarantine k Dl.qReplay
    else again.foldl (fun t e => (t.count (R.dlReplayCnt k)).transmit k e.1) s1

/-- A FLOW word (R434, R435): freed counts return credits, ACK removes packets, NAK replays. -/
def State.flowWord (s : State) (k vc0 vc1 ack nak : Nat) : State :=
  let x := s.port k
  let s1 := (s.setCredits k 0 (s.credits k 0 + (vc0 + 65536 - x.freed0) % 65536)).setCredits k 1
    (s.credits k 1 + (vc1 + 65536 - x.freed1) % 65536)
  let s2 := s1.setPort k { s1.port k with
    freed0 := vc0, freed1 := vc1
    replay := if 128 ≤ ack then ackUpTo (ack % 128) x.replay else x.replay }
  let s3 := if 128 ≤ nak then
      let y := s2.port k
      let keep := match y.replay.findIdx? (fun e => e.1.lseq == nak % 128) with | some i => y.replay.drop i | none => y.replay
      (s2.setPort k { y with replay := keep }).replayFrom k (nak % 128)
    else s2
  State.pump k (s3.port k).queue.length s3

/-! ## Authentication (R440, R441) -/

/-- The two sides of a link in order of UID, as UIDs and nonces. -/
def State.linkSides (s : State) (k : Nat) : List Byte :=
  let x := s.port k
  let me := bytesLE 8 s.uid
  let pe := bytesLE 8 (s.peerUid k)
  if s.lowSide k then me ++ pe ++ x.nonce ++ x.peerNonce else pe ++ me ++ x.peerNonce ++ x.nonce

/-- P(X) for a role byte, and the session key S for 0x4B. -/
def State.linkMac (s : State) (k : Nat) (role : Byte) : List Byte :=
  hmac (s.port k).key ([0x44, 0x4C, 0x46, 0x31] ++ [role] ++ s.linkSides k)

/-- The role byte of this side and of the peer. -/
def State.ownRole (s : State) (k : Nat) : Byte := if s.lowSide k then 0x4C else 0x48
def State.peerRole (s : State) (k : Nat) : Byte := if s.lowSide k then 0x48 else 0x4C

/-- An AUTH packet. -/
def State.sendAuth (s : State) (k : Nat) (payload : List Byte) : State :=
  s.enqueue k (s.packet Dl.auth_ 0 0 0 payload.length payload [])

/-- HELLO is sent with a fresh nonce, a free value; the fabric key is the one active now (R440, R492). -/
def State.sendHello (s : State) (k : Nat) : State :=
  let r := s.free
  let key := match r.2.fkeyActive with | some i => r.2.fkeySlot i | none => []
  let nonce := bytesLE 16 r.1
  let s1 := r.2.setPort k { r.2.port k with nonce := nonce, key := key, helloGot := false, peerNonce := [] }
  let caps := s1.fld R.dlfCfg F.dlfCfg.ENC_REQ + (if key.isEmpty then 0 else 2)
  s1.sendAuth k ([1, 0, 0, 0] ++ bytesLE 8 s1.uid ++ nonce ++ bytesLE 1 caps)

/-- The port enters HELLO with fresh numbering and credits (Table 13-6, R434, R435). (DESIGN CHOICE: notes/assumptions/22.) -/
def State.enterHello (s : State) (k : Nat) : State :=
  let x := s.port k
  let s1 := s.setPort k { fails := x.fails, qtime := x.qtime, out := x.out }
  (((s1.setPortState k Dl.hello).setCredits k 0 384).setCredits k 1 128).sendHello k

/-- The peer's HELLO: in HELLO the port goes on to AUTH; in ACTIVE it opens or joins a renewal of the session (R442). Without a
key on both sides, or with equal UIDs, the proof counts as failed (R441). -/
def State.authHello (s : State) (k uid : Nat) (nonce : List Byte) (caps : Nat) : State :=
  let st := s.portState k
  let s0 := if st = Dl.active ∧ !(s.port k).rekey then (s.setPort k { s.port k with rekey := true }).sendHello k else s
  let s1 := s0.setPort k { s0.port k with peerNonce := nonce, peerCaps := caps, helloGot := true }
  let s2 := s1.setReg64 (R.dlPeerLo k) (R.dlPeerHi k) uid
  let s3 := if st = Dl.hello then s2.setPortState k Dl.auth else s2
  if !(caps.testBit 1) || (s3.port k).key.isEmpty || uid == s3.uid then s3.portQuarantine k Dl.qAuth
  else s3.sendAuth k ([2, 0, 0, 0] ++ s3.linkMac k (s3.ownRole k))

/-- Capacity of the token buckets: twice their rate, in their units (R463). -/
def State.msgRate (s : State) (k : Nat) : Nat := max 1 (s.fld (R.dlPol k) F.dlPol.MSG)
def State.reqRate (s : State) (k : Nat) : Nat := max 1 (s.fld (R.dlPol k) F.dlPol.REQ)

/-- Both proofs are valid: a session begins; the port enters ACTIVE, or its renewal ends (Table 13-6, R441, R442). -/
def State.authDone (s : State) (k : Nat) : State :=
  let enc := s.bit R.dlfCfg F.dlfCfg.ENC_REQ || (s.port k).peerCaps.testBit 0
  let renewal := s.portState k == Dl.active
  let x := { s.port k with
    session := s.linkMac k 0x4B, txCtr := 0, rxCtr := none, rekey := false, fails := 0 }
  let s1 := (s.setPort k x).setFld (R.dlStat k) F.dlStat.ENC (if enc then 1 else 0)
  if renewal then State.pump k x.queue.length s1
  else
    let s2 := s1.setPort k { x with
      freed0 := 0, freed1 := 0, own0 := 0, own1 := 0, tokTime := s.sys.time.toNat
      msgTok := 2 * s.msgRate k * 800000, reqTok := 2 * s.reqRate k * 8000 }
    (((s2.setPortState k Dl.active).setCredits k 0 384).setCredits k 1 128).fire (224 + k)

/-- The peer's proof is checked (R441); a wrong one is answered with FAIL. -/
def State.authProof (s : State) (k : Nat) (proof : List Byte) : State :=
  if proof == s.linkMac k (s.peerRole k) then s.authDone k
  else (s.sendAuth k [3, 0, 0, 0]).portQuarantine k Dl.qAuth

/-! ## Receiving packets -/

/-- A received packet after link-level checks: TYPE and the rest, with the payload in clear. -/
structure RxPacket where
  type : Nat
  dst : Nat
  src : Nat
  ttl : Nat
  plen : Nat
  tag : Nat
  arg : Nat
  pcrc : Nat
  payload : List Byte
  bad : List Nat
  deriving DecidableEq, Repr

/-- The GCM check of a packet on an encrypted link: counter and plaintext, none when it fails (R442). -/
def State.unprotect (s : State) (k type : Nat) (p : Packet) : Option (Nat × List Byte) :=
  match p.trailer with
  | none => none
  | some (tag, low) =>
    let x := s.port k
    let least := match x.rxCtr with | some c => c + 1 | none => 0
    let ctr := least + (low.toNat + 2 ^ 32 - least % 2 ^ 32) % 2 ^ 32
    let keys := aesKeys x.session
    let iv := gcmIv (!(s.lowSide k)) ctr
    let aad := headerBytes type p.dst.toNat p.src.toNat p.ttl.toNat p.plen.toNat p.lseq.toNat p.tag.toNat p.arg.toNat p.pcrc.toNat
    if (gcmTag keys iv aad p.payload).take 12 == tag then some (ctr, gcmCrypt keys iv p.payload) else none

/-- Number of payload bytes of a packet: none for RD_REQ and responses without data. -/
def payloadLen (type plen : Nat) : Nat := if type = Dl.rdReq ∨ type = Dl.wrRsp then 0 else plen

/-- A received packet at the link (R433-R436, R442): violations quarantine the port, a packet out of order is discarded with a NAK
for a gap, an accepted one is acknowledged and its buffers are freed. (DEDUCED: notes/assumptions/49.) -/
def State.linkReceive (s : State) (k type : Nat) (p : Packet) : State × Option RxPacket :=
  let x := s.port k
  let st := s.portState k
  if st ≠ Dl.hello ∧ st ≠ Dl.auth ∧ st ≠ Dl.active then (s, none)
  else if type = 0 ∨ 7 < type ∨ 256 < p.plen.toNat ∨ (type ≠ Dl.auth_ ∧ st ≠ Dl.active) then
    (s.portQuarantine k Dl.qProtocol, none)
  else if p.lseq.toNat ≠ x.rxSeq then
    let gap := decide ((p.lseq.toNat + 128 - x.rxSeq) % 128 < 64)
    (s.setPort k { x with nak := if gap && x.nak.isNone then some x.rxSeq else x.nak }, none)
  else
    let enc := s.bit (R.dlStat k) F.dlStat.ENC && type != Dl.auth_
    let clear := if enc then s.unprotect k type p else some (0, p.payload)
    match clear with
    | none => (s.portQuarantine k Dl.qProtocol, none)
    | some (ctr, body) =>
      let n := flitsOf p.payload.length enc
      let vc := vcOf type
      let s1 := s.setPort k { x with
        rxSeq := (x.rxSeq + 1) % 128, ack := some p.lseq.toNat, nak := none
        rxCtr := if enc then some ctr else x.rxCtr
        own0 := if vc = 0 then (x.own0 + n) % 65536 else x.own0
        own1 := if vc = 1 then (x.own1 + n) % 65536 else x.own1 }
      let len := payloadLen type p.plen.toNat
      (s1, some { type := type, dst := p.dst.toNat, src := p.src.toNat, ttl := p.ttl.toNat, plen := p.plen.toNat
                  tag := p.tag.toNat, arg := p.arg.toNat, pcrc := p.pcrc.toNat, payload := body.take len, bad := p.bad })

/-- Refill of a bucket since the last change. -/
def refill (tok rate cap ticks : Nat) : Nat := min cap (tok + rate * ticks)

/-- The policer of a port for a packet to this node: none when its bucket is empty (R463). -/
def State.police (s : State) (k type : Nat) : State × Bool :=
  let x := s.port k
  let now := s.sys.time.toNat
  let dt := now - x.tokTime
  let m := refill x.msgTok (s.msgRate k) (2 * s.msgRate k * 800000) dt
  let r := refill x.reqTok (s.reqRate k) (2 * s.reqRate k * 8000) dt
  let y := { x with msgTok := m, reqTok := r, tokTime := now }
  if type = Dl.msg then
    if 800000 ≤ m then (s.setPort k { y with msgTok := m - 800000 }, true) else (s.setPort k y, false)
  else if type = Dl.rdReq ∨ type = Dl.wrReq then
    if 8000 ≤ r then (s.setPort k { y with reqTok := r - 8000 }, true) else (s.setPort k y, false)
  else (s.setPort k y, true)

/-- A policer discard: counted; a request is answered with an error response, its status BUS_ERROR being a choice of the
model; beyond ERR_LIM in a second the port is quarantined (R463, Table 13-10). (DESIGN CHOICE: notes/assumptions/50.) -/
def State.policeDiscard (s : State) (k : Nat) (p : RxPacket) : State :=
  let x := s.port k
  let l := recent s.sys.time.toNat x.pols
  let s1 := (s.setPort k { x with pols := l }).count (R.dlPolCnt k)
  let s2 := if p.type = Dl.rdReq ∨ p.type = Dl.wrReq then s1.respond p.type p.src p.tag St.busError [] else s1
  if s.errLim < l.length then s2.portQuarantine k Dl.qPolice else s2

/-- The packet as a node passes it on. -/
def RxPacket.relay (p : RxPacket) : TxPacket :=
  { type := p.type, dst := p.dst, src := p.src, ttl := p.ttl, plen := p.plen, tag := p.tag, arg := p.arg, pcrc := p.pcrc
    payload := p.payload, bad := p.bad }

/-- PCRC is right (R432). -/
def RxPacket.crcOk (p : RxPacket) : Bool := packetCrc p.type p.dst p.src p.tag p.arg p.payload == p.pcrc

/-- A packet reaches its node, or goes on: what is for this node, policed and checked, is answered with the packet (R432, R433,
R447, R463). -/
def State.receive (s : State) (k type : Nat) (p : Packet) : State × Option RxPacket :=
  match s.linkReceive k type p with
  | (s1, none) => (s1, none)
  | (s1, some q) =>
    if q.type = Dl.auth_ then (if q.crcOk then (s1, some q) else (s1.count R.dlfCrcCnt, none))
    else if q.dst ≠ 0 ∧ q.dst ≠ 255 ∧ q.dst ≠ s1.nodeId then (s1.forwardPacket q.relay, none)
    else
      let s2 := if q.dst = 255 then
          (s1.treePorts (some k)).foldl (fun t j => if q.ttl ≤ 1 then t else t.enqueue j { q.relay with ttl := q.ttl - 1 }) s1
        else s1
      match s2.police k type with
      | (s3, false) => (s3.policeDiscard k q, none)
      | (s3, true) => if q.crcOk then (s3, some q) else (s3.count R.dlfCrcCnt, none)

end Sys2Proof.Machine
end

