-- ==== Sys2Proof/Machine/Formation.lean ====
section
/-!
DEFINITION. Sys2Proof/Machine/Formation.lean: lead election, node IDs and routes (R444-R448), the port and fabric state
machines (Tables 13-6, 13-9), remote requests and windows (R449-R451).
-/
namespace Sys2Proof.Machine

/-! ## Messages (Table 13-7) -/

/-- A MSG packet on one port, link-local unless a destination is given. -/
def State.sendMsg (s : State) (k dst : Nat) (payload : List Byte) : State :=
  s.enqueue k (s.packet Dl.msg dst 0 0 payload.length payload [])

/-- The first four bytes of a message. -/
def msgHead (mtype : Nat) : List Byte := bytesLE 1 mtype ++ [0, 0, 0]

/-- What this node advertises (R445). Without a lead the lead's fields are UID 0, PRI 255 and DIST 0. -/
def State.ownAdvert (s : State) : Advert :=
  { uid := s.uid, pri := s.fld R.dlfCfg F.dlfCfg.PRI, nodeId := s.nodeId, reqId := s.fld R.dlfCfg F.dlfCfg.REQ_ID
    leadUid := if s.fab.leadPri.isSome then s.reg64 R.dlfLeadUidLo R.dlfLeadUidHi else 0
    leadPri := s.fab.leadPri.getD 255, dist := s.fld R.dlfStat F.dlfStat.DIST, epoch := s.fld R.dlfEpoch F.dlfEpoch.EPOCH }

/-- The DISC message of an advertisement. -/
def Advert.disc (a : Advert) : List Byte :=
  msgHead 1 ++ bytesLE 8 a.uid ++ bytesLE 1 a.pri ++ bytesLE 1 a.nodeId ++ bytesLE 1 a.reqId ++ [0] ++ bytesLE 8 a.leadUid ++
  bytesLE 1 a.leadPri ++ bytesLE 1 a.dist ++ bytesLE 2 a.epoch

/-- A number in a message. -/
def numAt (l : List Byte) (i n : Nat) : Nat := natLE ((l.drop i).take n)

/-- The advertisement of a DISC message. -/
def advertOf (l : List Byte) : Advert :=
  { uid := numAt l 4 8, pri := numAt l 12 1, nodeId := numAt l 13 1, reqId := numAt l 14 1, leadUid := numAt l 16 8
    leadPri := numAt l 24 1, dist := numAt l 25 1, epoch := numAt l 26 2 }

/-- DISC on every ACTIVE port. -/
def State.sendDiscs (s : State) : State :=
  let d := s.ownAdvert.disc
  s.activePorts.foldl (fun t k => t.sendMsg k 0 d) { s with fab := { s.fab with advert := some s.ownAdvert } }

/-- DISC after a change of the advertised values. -/
def State.discIfChanged (s : State) : State := if s.fab.advert = some s.ownAdvert then s else s.sendDiscs

/-- The peers by port: UID, 0 where the port is not ACTIVE. -/
def State.peerList (s : State) : List Nat :=
  (List.range 4).map (fun k => if s.portState k = Dl.active then s.peerUid k else 0)

/-- TOPO through the parent port when the parent or the neighbours have changed (R446). -/
def State.topoIfChanged (s : State) : State :=
  let cur := (match s.fab.parent with | some k => k + 1 | none => 0) :: s.peerList
  if cur = s.fab.lastTopo then s
  else
    let s1 := { s with fab := { s.fab with lastTopo := cur } }
    match s.fab.parent with
    | none => s1
    | some k =>
      s1.sendMsg k 0 (msgHead 2 ++ bytesLE 8 s.uid ++ bytesLE 1 s.nodeId ++ bytesLE 1 (s.fld R.dlfCfg F.dlfCfg.REQ_ID) ++
        bytesLE 1 0 ++ List.replicate 15 0 ++ s.peerList.flatMap (fun u => bytesLE 8 u))

/-! ## Election (R444, R445, Table 13-9) -/

/-- Order of leads. -/
def leadLess (a b : Nat × Nat) : Bool := decide (a.1 < b.1 ∨ (a.1 = b.1 ∧ a.2 < b.2))

/-- The neighbours' advertisements with their ports. -/
def State.adverts (s : State) : List (Nat × Advert) :=
  s.activePorts.filterMap (fun k => (s.port k).advert.map (fun a => (k, a)))

/-- The lowest (PRI, UID) among this node and the neighbours' leads within 15 hops (R445). -/
def State.bestLead (s : State) : Option (Nat × Nat) :=
  let pri := s.fld R.dlfCfg F.dlfCfg.PRI
  let own := if pri < 255 then [(pri, s.uid)] else []
  let cands := own ++ (s.adverts.filter (fun a => decide (a.2.leadPri < 255 ∧ a.2.dist + 1 ≤ 15))).map
    (fun a => (a.2.leadPri, a.2.leadUid))
  cands.foldl (fun (m : Option (Nat × Nat)) c =>
    match m with | none => some c | some b => if leadLess c b then some c else some b) none

/-- DIST to a lead that is another node, and the parent port. -/
def State.distTo (s : State) (lead : Nat × Nat) : Option (Nat × Nat) :=
  let l := s.adverts.filter (fun a => (a.2.leadPri, a.2.leadUid) == lead && decide (a.2.dist + 1 ≤ 15))
  l.foldl (fun (m : Option (Nat × Nat × Nat)) a =>
    let c := (a.2.dist + 1, a.2.uid, a.1)
    match m with
    | none => some c
    | some b => if c.1 < b.1 ∨ (c.1 = b.1 ∧ c.2.1 < b.2.1) then some c else some b) none |>.map (fun c => (c.1, c.2.2))

/-- The fabric forgets its lead. -/
def State.noLead (s : State) : State :=
  let had := s.fab.leadPri.isSome
  let s1 := { s with fab := { s.fab with leadPri := none, parent := none, topo := [] } }
  let s2 := (((s1.setFld R.dlfStat F.dlfStat.LEAD 0).setFld R.dlfStat F.dlfStat.DIST 0).setFld R.dlfStat F.dlfStat.LEAD_ID 0).setReg64
    R.dlfLeadUidLo R.dlfLeadUidHi 0
  if had then s2.fire 233 else s2

/-- The election is judged again (R444, R445, Table 13-9); `moved` says that a port has entered or left ACTIVE.
(DEDUCED: notes/assumptions/48.) -/
def State.elect (s : State) (moved : Bool) : State :=
  let st := s.fabState
  if st = Dl.fOff then s
  else if s.activePorts.isEmpty then
    if st = Dl.fAlone then s
    else (((s.noLead).setFld R.dlfStat F.dlfStat.NODE_ID 0).setFld R.dlfStat F.dlfStat.STATE Dl.fAlone).topoIfChanged
  else
    let s0 := if st = Dl.fAlone then s.setFld R.dlfStat F.dlfStat.STATE Dl.fElect else s
    match s0.bestLead with
    | none => ((s0.noLead).setFld R.dlfStat F.dlfStat.STATE Dl.fElect).discIfChanged.topoIfChanged
    | some l =>
      let self := l == (s0.fld R.dlfCfg F.dlfCfg.PRI, s0.uid)
      let dp := if self then some (0, 0) else s0.distTo l
      let dist := match dp with | some d => d.1 | none => 0
      let parent := if self then none else dp.map (fun d => d.2)
      let newLead := decide (s0.fab.leadPri ≠ some l.1 ∨ s0.reg64 R.dlfLeadUidLo R.dlfLeadUidHi ≠ l.2)
      let changed := newLead || s0.fld R.dlfStat F.dlfStat.DIST != dist || s0.fab.parent != parent || moved
      let s1 := { s0 with fab := { s0.fab with leadPri := some l.1, parent := parent, topo := if self then s0.fab.topo else [] } }
      let s2 := ((s1.setFld R.dlfStat F.dlfStat.LEAD (if self then 1 else 0)).setFld R.dlfStat F.dlfStat.DIST dist).setReg64
        R.dlfLeadUidLo R.dlfLeadUidHi l.2
      let s3 := if newLead then (s2.setFld R.dlfStat F.dlfStat.LEAD_ID 0).fire 233 else s2
      let s4 := if s3.fabState = Dl.fElect ∨ (s3.fabState = Dl.fReady ∧ changed) then
          s3.setFld R.dlfStat F.dlfStat.STATE Dl.fAssign else s3
      s4.discIfChanged.topoIfChanged

/-- A port leaves ACTIVE or another state, and the election follows (R438, R445). -/
def State.dropPort (s : State) (k st : Nat) : State :=
  let was := s.portState k
  let s1 := s.portLeave k st
  if was = Dl.active then s1.elect true else s1

/-- A quarantine, and the election after it: "the fabric reforms around the port" (R464). -/
def State.quarantineAndElect (s : State) (k cause : Nat) : State :=
  let was := s.portState k
  let s1 := s.portQuarantine k cause
  if was = Dl.active ∧ s1.portState k ≠ Dl.active then s1.elect true else s1

/-- After an operation on a port: a change into or out of ACTIVE is elected on; entering sends DISC (R445). -/
def State.afterPort (before after : State) (k : Nat) : State :=
  let a := before.portState k == Dl.active
  let b := after.portState k == Dl.active
  if a == b then after
  else if b then ((after.setPort k { after.port k with advert := none }).elect true).sendMsg k 0 after.ownAdvert.disc
  else after.elect true

/-! ## Port state machine (R438, Table 13-6) -/

/-- The port runs. -/
def State.portRuns (s : State) (k : Nat) : Bool :=
  s.bit R.dlfCfg F.dlfCfg.EN && s.bit (R.dlCtl k) F.dlCtl.EN && s.pdOn (121 + k)

/-- A port follows its enables: DOWN when it begins to run; LEAVE and DISABLED when it stops. -/
def State.portFollow (s : State) (k : Nat) : State :=
  let st := s.portState k
  if s.portRuns k then (if st = Dl.disabled then s.setPortState k Dl.down else s)
  else if st = Dl.disabled then s
  else (if st = Dl.active then s.sendWord k 6 [] else s).dropPort k Dl.disabled

/-- The link is lost: back to DOWN from TRAIN, HELLO, AUTH or ACTIVE. -/
def State.linkLost (s : State) (k : Nat) : State :=
  let st := s.portState k
  if st = Dl.train ∨ st = Dl.hello ∨ st = Dl.auth ∨ st = Dl.active then s.dropPort k Dl.down else s

/-- The quarantine of a port ends. -/
def State.quarantineEnd (s : State) (k : Nat) : State :=
  if s.portState k = Dl.quarantine then s.setPortState k Dl.down else s

/-- A write of DLF.CFG: EN opens the fabric as ALONE or closes it (Table 13-9). -/
def State.dlfCfgWrite (s : State) (path : Path) (w : Word) : State :=
  s.onWrite path R.dlfCfg (fun s =>
    let busy := (List.range 4).any (fun k => s.portState k != Dl.disabled)
    let s1 := s.writeRow path R.dlfCfg Row.dlfCfg w busy
    let on := s1.bit R.dlfCfg F.dlfCfg.EN
    let s2 := if on && s1.fabState == Dl.fOff then s1.setFld R.dlfStat F.dlfStat.STATE Dl.fAlone else s1
    let s3 := s2.forEach 4 (fun k t => t.portFollow k)
    if on then s3 else (s3.noLead).setFld R.dlfStat F.dlfStat.STATE Dl.fOff)

/-- A write of DLk_CTL: EN, RETRAIN, RELEASE and QUAR (R438, R464). -/
def State.dlCtlWrite (s : State) (path : Path) (k : Nat) (w : Word) : State :=
  s.onWrite path (R.dlCtl k) (fun s =>
    let s1 := (s.writeRow path (R.dlCtl k) Row.dlCtl w false).portFollow k
    let s2 := if F.dlCtl.RETRAIN.get w = 1 then s1.linkLost k else s1
    let s3 := if F.dlCtl.RELEASE.get w = 1 then s2.quarantineEnd k else s2
    if F.dlCtl.QUAR.get w = 1 then s3.quarantineAndElect k Dl.qForced else s3)

/-! ## Topology at the lead (R446, R447) -/

/-- This node as the lead's own entry. -/
def State.selfTopo (s : State) : TopoNode :=
  { uid := s.uid, nodeId := s.nodeId, reqId := s.fld R.dlfCfg F.dlfCfg.REQ_ID, path := [], peers := s.peerList }

/-- The node with a UID. -/
def nodeOf (l : List TopoNode) (u : Nat) : Option TopoNode := l.find? (fun n => n.uid == u)

/-- The links of a node that both ends report: port and peer. -/
def linksOf (l : List TopoNode) (n : TopoNode) : List (Nat × Nat) :=
  (n.peers.zipIdx.map (fun e => (e.2, e.1))).filter (fun e => e.2 != 0 &&
    (match nodeOf l e.2 with | some m => m.peers.contains n.uid | none => false))

/-- Levels by UID: hops from the lead, by `fuel` rounds of relaxation. -/
def levelsGo (l : List TopoNode) : Nat → List (Nat × Nat) → List (Nat × Nat)
  | 0, t => t
  | fuel + 1, t =>
    let new := l.filterMap (fun n =>
      if t.any (fun e => e.1 == n.uid) then none
      else
        let ds := (linksOf l n).filterMap (fun e => (t.find? (fun x => x.1 == e.2)).map (fun x => x.2))
        match ds with | [] => none | d :: r => some (n.uid, r.foldl min d + 1))
    levelsGo l fuel (t ++ new)

/-- Level of a UID. -/
def levelOf (t : List (Nat × Nat)) (u : Nat) : Option Nat := (t.find? (fun e => e.1 == u)).map (fun e => e.2)

/-- The edge from X to Y is up (R447). -/
def edgeUp (t : List (Nat × Nat)) (x y : Nat) : Bool :=
  match levelOf t x, levelOf t y with
  | some a, some b => decide (b < a ∨ (a = b ∧ y < x))
  | _, _ => false

/-- Lesser of two lengths, none being no path. -/
def minLen (a b : Option Nat) : Option Nat :=
  match a, b with | none, _ => b | _, none => a | some x, some y => some (min x y)

/-- Lengths of the shortest legal paths to a destination, by UID: before and after the first down edge. -/
abbrev PathLen := List (Nat × (Option Nat × Option Nat))

/-- One length pair. -/
def lenOf (p : PathLen) (u : Nat) : Option Nat × Option Nat :=
  match p.find? (fun e => e.1 == u) with | some e => e.2 | none => (none, none)

/-- Rounds of relaxation of legal path lengths to `d` (R447). -/
def legalGo (l : List TopoNode) (t : List (Nat × Nat)) (d : Nat) : Nat → PathLen → PathLen
  | 0, p => p
  | fuel + 1, p =>
    legalGo l t d fuel (l.map (fun n =>
      if n.uid = d then (n.uid, (some 0, some 0))
      else
        let ls := linksOf l n
        let a := ls.foldl (fun m e =>
          let y := lenOf p e.2
          minLen m ((if edgeUp t n.uid e.2 then y.1 else y.2).map (fun v => v + 1))) none
        let b := ls.foldl (fun m e =>
          if edgeUp t n.uid e.2 then m else minLen m ((lenOf p e.2).2.map (fun v => v + 1))) none
        (n.uid, (a, b))))

/-- The port of node `n` toward destination `d`: shortest legal path, then lowest next node ID, then lowest port (R447). -/
def nextPort (l : List TopoNode) (t : List (Nat × Nat)) (d : Nat) (n : TopoNode) : Option Nat :=
  let p := legalGo l t d l.length []
  let cs := (linksOf l n).filterMap (fun e =>
    let y := lenOf p e.2
    let id := match nodeOf l e.2 with | some m => m.nodeId | none => 255
    (if edgeUp t n.uid e.2 then y.1 else y.2).map (fun v => (v, id, e.1)))
  (cs.foldl (fun (m : Option (Nat × Nat × Nat)) c =>
    match m with
    | none => some c
    | some b => if c.1 < b.1 ∨ (c.1 = b.1 ∧ (c.2.1 < b.2.1 ∨ (c.2.1 = b.2.1 ∧ c.2.2 < b.2.2))) then some c else some b)
    none).map (fun c => c.2.2)

/-- The 256 route nibbles of a node (Table 13-8). -/
def routeNibbles (l : List TopoNode) (t : List (Nat × Nat)) (n : TopoNode) : List Nat :=
  (List.range 256).map (fun id =>
    match l.find? (fun m => m.nodeId == id && id != 0) with
    | none => 0xF
    | some m => if m.uid = n.uid then 0xE else (nextPort l t m.uid n).getD 0xF)

/-- The parent port of a node: to the neighbour one level nearer the lead with the lowest UID, then the lowest port. -/
def parentPort (l : List TopoNode) (t : List (Nat × Nat)) (n : TopoNode) : Option Nat :=
  let lv := (levelOf t n.uid).getD 0
  ((linksOf l n).filter (fun e => decide ((levelOf t e.2).map (fun v => v + 1) = some lv))).foldl
    (fun (m : Option (Nat × Nat)) e =>
      match m with | none => some e | some b => if e.2 < b.2 ∨ (e.2 = b.2 ∧ e.1 < b.1) then some e else some b) none
    |>.map (fun e => e.1)

/-- The place of a port among a node's ports to one peer. -/
def linkRank (l : List TopoNode) (n : TopoNode) (k u : Nat) : Nat :=
  ((linksOf l n).filter (fun e => e.2 == u && decide (e.1 < k))).length

/-- Role of each port of a node: 0 none, 1 parent, 2 child, 3 cross. Parallel links are matched in the order of their ports. -/
def portRoles (l : List TopoNode) (t : List (Nat × Nat)) (n : TopoNode) : List Nat :=
  (List.range 4).map (fun k =>
    match (linksOf l n).find? (fun e => e.1 == k) with
    | none => 0
    | some e =>
      if parentPort l t n = some k then 1
      else match nodeOf l e.2 with
        | none => 3
        | some m =>
          match parentPort l t m with
          | none => 3
          | some j =>
            if (linksOf l m).any (fun f => f.1 == j && f.2 == n.uid) && linkRank l m j n.uid == linkRank l n k m.uid then 2
            else 3)

/-- Nodes by rising UID. -/
def byUid (l : List TopoNode) : List TopoNode :=
  l.foldl (fun acc n => acc.takeWhile (fun m => decide (m.uid < n.uid)) ++ n :: acc.dropWhile (fun m => decide (m.uid < n.uid))) []

/-- IDs taken so far, by UID; one pass that gives each node in turn the ID it asks for when that is free. -/
def takeIds (ask : TopoNode → Nat) (l : List TopoNode) (got : List (Nat × Nat)) : List (Nat × Nat) :=
  l.foldl (fun g n =>
    if g.any (fun e => e.1 == n.uid) || ask n == 0 || ask n == 255 || g.any (fun e => e.2 == ask n) then g
    else g ++ [(n.uid, ask n)]) got

/-- IDs for every node (R446): held ones, then requested ones, each conflict going to the lower UID, then the lowest free ones
to the lead first and by rising UID. -/
def assignIds (lead : Nat) (l : List TopoNode) : List (Nat × Nat) :=
  let u := byUid l
  let g := takeIds (fun n => n.reqId) u (takeIds (fun n => n.nodeId) u [])
  (u.filter (fun n => n.uid == lead) ++ u.filter (fun n => n.uid != lead)).foldl (fun g n =>
    if g.any (fun e => e.1 == n.uid) then g
    else match (List.range 254).find? (fun i => !(g.any (fun e => e.2 == i + 1))) with
      | some i => g ++ [(n.uid, i + 1)]
      | none => g) g

/-- This node's routes and roles (ROUTE, Table 13-7). -/
def State.installRoutes (s : State) (nibbles roles : List Nat) : State :=
  let s1 := s.forEach 32 (fun i t => t.setReg (R.dlfRt i)
    (BitVec.ofNat 32 ((List.range 8).foldl (fun a j => a + nibbles.getD (8 * i + j) 0xF * 2 ^ (4 * j)) 0)))
  s1.forEach 4 (fun k t => t.setFld (R.dlStat k) F.dlStat.ROLE (roles.getD k 0))

/-- A message along a source route: the first port, then the rest of the path in the message. -/
def State.sendRouted (s : State) (path : List Nat) (build : List Nat → List Byte) : State :=
  match path with
  | [] => s
  | k :: r => s.sendMsg k 0 (build r)

/-- NPATH and PATH of a message. -/
def pathBytes (path : List Nat) : List Byte :=
  bytesLE 1 path.length ++ (path.map (fun k => BitVec.ofNat 8 k)) ++ List.replicate (15 - path.length) 0

/-- Two nibbles a byte, low one first. -/
def nibbleBytes (l : List Nat) : List Byte :=
  (List.range 128).map (fun i => BitVec.ofNat 8 (l.getD (2 * i) 0xF + 16 * l.getD (2 * i + 1) 0xF))

/-- The fabric becomes READY: EV232 when it was not (Table 13-9). -/
def State.becomeReady (s : State) : State :=
  let s1 := if s.fabState = Dl.fReady then s else (s.setFld R.dlfStat F.dlfStat.STATE Dl.fReady).fire 232
  { s1 with work := s1.work ++ [Work.fabricReady] }

/-- The lead's settling time has passed (R446-R448): EPOCH + 1, IDs, routes, READY. -/
def State.settleFormation (s : State) : State :=
  if !(s.bit R.dlfStat F.dlfStat.LEAD) || (s.fabState != Dl.fAssign && s.fabState != Dl.fReady) then s
  else
    let epoch := (s.fld R.dlfEpoch F.dlfEpoch.EPOCH + 1) % 65536
    let all := s.selfTopo :: s.fab.topo
    let t := levelsGo all all.length [(s.uid, 0)]
    let reach := all.filter (fun n => (levelOf t n.uid).isSome)
    let ids := assignIds s.uid reach
    let l := reach.map (fun n => { n with nodeId := match ids.find? (fun e => e.1 == n.uid) with | some e => e.2 | none => 0 })
    let me := match nodeOf l s.uid with | some n => n | none => s.selfTopo
    let s1 := (((s.setFld R.dlfEpoch F.dlfEpoch.EPOCH epoch).setFld R.dlfEpoch F.dlfEpoch.NODES ids.length).setFld R.dlfStat
      F.dlfStat.NODE_ID me.nodeId).setFld R.dlfStat F.dlfStat.LEAD_ID me.nodeId
    let s2 := s1.installRoutes (routeNibbles l t me) (portRoles l t me)
    let s3 := { s2 with fab := { s2.fab with
      members := (l.filter (fun (n : TopoNode) => n.nodeId != 0)).foldl
        (fun m (n : TopoNode) => Table.set (fun _ => (0, 0)) m n.nodeId (n.uid, (levelOf t n.uid).getD 0)) [] } }
    let others := l.filter (fun n => n.uid != s.uid)
    let s4 := others.foldl (fun (u : State) (n : TopoNode) => u.sendRouted n.path (fun r =>
      msgHead 3 ++ bytesLE 2 epoch ++ bytesLE 8 n.uid ++ bytesLE 1 n.nodeId ++ pathBytes r)) s3
    let s5 := others.foldl (fun (u : State) (n : TopoNode) => u.sendRouted n.path (fun r =>
      msgHead 4 ++ bytesLE 2 epoch ++ bytesLE 8 n.uid ++ pathBytes r ++
      bytesLE 1 ((portRoles l t n).zipIdx.foldl (fun (a : Nat) (e : Nat × Nat) => a + e.1 * 4 ^ e.2) 0) ++ nibbleBytes (routeNibbles l t n))) s4
    let s6 := (s5.treePorts none).foldl (fun (u : State) k =>
      u.sendMsg k 255 (msgHead 5 ++ bytesLE 2 epoch ++ bytesLE 1 me.nodeId ++ bytesLE 1 ids.length)) s5
    s6.becomeReady.discIfChanged

/-- An EPOCH that is not older than the one held, as 16-bit serial numbers (R446). -/
def State.epochOk (s : State) (e : Nat) : Bool :=
  decide ((e + 65536 - s.fld R.dlfEpoch F.dlfEpoch.EPOCH) % 65536 < 32768)

/-- A DISC message (R445): the neighbour's values. A newer EPOCH is taken over and advertised on, which carries a REFORM to the
lead (R465). -/
def State.onDisc (s : State) (k : Nat) (m : List Byte) : State :=
  let a := advertOf m
  let s1 := (s.setPort k { s.port k with advert := some a }).setFld (R.dlStat k) F.dlStat.PEER_ID a.nodeId
  let s2 := if s1.epochOk a.epoch && a.epoch != s1.fld R.dlfEpoch F.dlfEpoch.EPOCH then
      s1.setFld R.dlfEpoch F.dlfEpoch.EPOCH a.epoch else s1
  s2.elect false

/-- A TOPO message (R446): recorded at the lead, else passed on through the parent port with the arrival port put before its
path. -/
def State.onTopo (s : State) (k : Nat) (m : List Byte) : State :=
  let n := min 15 (numAt m 14 1)
  let path := k :: (((m.drop 15).take n).map (fun b => b.toNat))
  if s.bit R.dlfStat F.dlfStat.LEAD then
    let node : TopoNode := { uid := numAt m 4 8, nodeId := numAt m 12 1, reqId := numAt m 13 1, path := path
                             peers := (List.range 4).map (fun i => numAt m (30 + 8 * i) 8) }
    { s with fab := { s.fab with topo := s.fab.topo.filter (fun e => e.uid != node.uid) ++ [node] } }
  else match s.fab.parent with
    | none => s
    | some j => if 15 ≤ n then s else s.sendMsg j 0 (m.take 14 ++ pathBytes path ++ m.drop 30)

/-- An ASSIGN message (R446). -/
def State.onAssign (s : State) (m : List Byte) : State :=
  let e := numAt m 4 2
  let n := min 15 (numAt m 15 1)
  let path := ((m.drop 16).take n).map (fun b => b.toNat)
  if !(s.epochOk e) then s
  else if numAt m 6 8 = s.uid ∧ n = 0 then
    let s1 := (s.setFld R.dlfStat F.dlfStat.NODE_ID (numAt m 14 1)).setFld R.dlfEpoch F.dlfEpoch.EPOCH e
    { s1 with fab := { s1.fab with assigned := if numAt m 14 1 = 0 then none else some e } }.discIfChanged
  else s.sendRouted path (fun r => m.take 15 ++ pathBytes r)

/-- A ROUTE message (R447, R448). -/
def State.onRoute (s : State) (m : List Byte) : State :=
  let e := numAt m 4 2
  let n := min 15 (numAt m 14 1)
  let path := ((m.drop 15).take n).map (fun b => b.toNat)
  if !(s.epochOk e) then s
  else if numAt m 6 8 = s.uid ∧ n = 0 then
    let role := numAt m 30 1
    let nibbles := (List.range 256).map (fun i => bitsOf (numAt m (31 + i / 2) 1) (4 * (i % 2)) 4)
    let s1 := s.installRoutes nibbles ((List.range 4).map (fun k => bitsOf role (2 * k) 2))
    { s1 with fab := { s1.fab with routed := some e } }
  else s.sendRouted path (fun r => m.take 14 ++ pathBytes r ++ m.drop 30)

/-- A READY broadcast (R448). -/
def State.onReady (s : State) (m : List Byte) : State :=
  let e := numAt m 4 2
  if !(s.epochOk e) then s
  else if s.fab.assigned = some e ∧ s.fab.routed = some e ∧ (s.fabState = Dl.fAssign ∨ s.fabState = Dl.fReady) then
    let s1 := ((s.setFld R.dlfEpoch F.dlfEpoch.EPOCH e).setFld R.dlfEpoch F.dlfEpoch.NODES (numAt m 7 1)).setFld R.dlfStat
      F.dlfStat.LEAD_ID (numAt m 6 1)
    s1.becomeReady
  else s

/-! ## Remote requests (R449-R451) -/

/-- An access of a local requester to a remote page store waits to be sent as a request (R449). -/
def State.remoteAsk (s : State) (r : Remote) : State := { s with fab := { s.fab with waiting := s.fab.waiting ++ [r] } }

/-- The oldest waiting access is sent while fewer than 64 are outstanding (R449). -/
def State.remoteSend (s : State) : State :=
  match s.fab.waiting with
  | [] => s
  | r :: rest =>
    if 64 ≤ s.fab.remotes.length then s
    else
      let tag := s.fab.nextTag
      let s1 := { s with fab := { s.fab with
        waiting := rest, remotes := s.fab.remotes ++ [{ r with tag := tag }], nextTag := (tag + 1) % 65536 } }
      let bytes := r.data.map (fun b => b.1)
      let bad := (List.range ((r.data.length + 15) / 16)).filter (fun i => ((r.data.drop (16 * i)).take 16).any (fun b => b.2))
      s1.routePacket (s1.packet (if r.write then Dl.wrReq else Dl.rdReq) r.node tag r.off r.len bytes bad)

/-- DLF.ERR records a status while VALID = 0 (R449, R451). -/
def State.dlfError (s : State) (status node port : Nat) : State :=
  if s.bit R.dlfErr F.dlfErr.VALID then s
  else s.setReg R.dlfErr (BitVec.ofNat 32 (1 + status * 2 ^ 8 + node * 2 ^ 16 + port * 2 ^ 24))

/-- A response arrives: the access completes, or it is late (R449, R450). It comes from the node asked, or from
the node that could not reach it (R433). Poisoned flits mark their bytes. -/
def State.onResponse (s : State) (p : RxPacket) : State :=
  if s.fab.remotes.any (fun r => r.tag == p.tag && (r.write == (p.type == Dl.wrRsp))) then
    let data := p.payload.zipIdx.map (fun e => (e.1, p.bad.contains (e.2 / 16)))
    { s with work := s.work ++ [Work.remoteDone p.tag (p.arg % 256) data] }
  else s.count R.dlfLateRspCnt

/-- The window that allows a request, if one does (R451). -/
def State.windowAllows (s : State) (src off len : Nat) (write : Bool) : Bool :=
  (List.range 8).any (fun w =>
    let base := s.fld (R.dlfRwinA w) F.dlfRwinA.BASE * 65536
    let size := s.fld (R.dlfRwinB w) F.dlfRwinB.SIZE * 65536
    let from_ := s.fld (R.dlfRwinB w) F.dlfRwinB.SRC
    s.bit (R.dlfRwinA w) F.dlfRwinA.EN && (if write then s.bit (R.dlfRwinA w) F.dlfRwinA.WR else s.bit (R.dlfRwinA w) F.dlfRwinA.RD) &&
    (from_ == 0 || from_ == src) && decide (base ≤ off ∧ off + len ≤ base + size)) &&
  decide (0 < len ∧ off + len ≤ 0x7C000000)

end Sys2Proof.Machine
end

