-- ==== Sys2Proof/Machine/Stitch.lean ====
section
/-!
DEFINITION. Sys2Proof/Machine/Stitch.lean: fabric time (R452, R453), the line clock (R455-R457), stitched lines (R459-R461), and
what a node does with the packets that reach it (R451, R465).
-/
namespace Sys2Proof.Machine

/-! ## Fabric time (R452, R453) -/

/-- A child starts an exchange: TS_REQ at t1 on its parent port. -/
def State.timeRequest (s : State) (t1 : Nat) : State :=
  match s.fab.parent with
  | none => s
  | some k =>
    let q := (s.fab.tsSeq + 1) % 256
    ({ s with fab := { s.fab with tsSeq := q, tsOut := some t1 } }).sendWord k 3 (bytesLE 1 q ++ bytesLE 7 t1)

/-- A difference of two 56-bit times. -/
def diff56 (a b : Nat) : Int := signed 56 (a + 2 ^ 56 - b % 2 ^ 56)

/-- The lock follows the offset, in 1/256 tick: 0.25 ns is 51.2, 1.25 ns is 256 (R453). -/
def State.timeLock (s : State) (th : Int) : State :=
  let near := if th.natAbs ≤ 51 then min 16 (s.fab.near + 1) else 0
  let far := if 256 < th.natAbs then min 4 (s.fab.far + 1) else 0
  let s1 := { s with fab := { s.fab with near := near, far := far } }
  let lock := s.bit R.dlfTimeStat F.dlfTimeStat.LOCK
  if !lock && near == 16 then
    ({ s1 with fab := { s1.fab with lockedOnce := true } }.setFld R.dlfTimeStat F.dlfTimeStat.LOCK 1).fire 234
  else if lock && far == 4 then
    ((s1.setFld R.dlfTimeStat F.dlfTimeStat.LOCK 0).setFld R.dlfTimeStat F.dlfTimeStat.UNLOCK 1).fire 235
  else s1

/-- TS_RSP on the parent port completes the exchange: delay, offset, a step before the first lock beyond 64 ticks, else a new
rate, which the spec bounds and does not state: a free value (R452, R453). -/
def State.timeResponse (s : State) (k seq t2 t3 t4 : Nat) : State :=
  match s.fab.tsOut with
  | none => s
  | some t1 =>
    if s.fab.parent ≠ some k ∨ seq ≠ s.fab.tsSeq then s
    else
      let a := signed 16 (s.fld (R.dlAsym k) F.dlAsym.A)
      let d := floorDiv (diff56 t4 t1 - diff56 t3 t2) 2
      let th := floorDiv (diff56 t2 t1 - diff56 t4 t3 - a) 2
      let s1 := ({ s with fab := { s.fab with tsOut := none } }).setFld (R.dlDelay k) F.dlDelay.D (unsigned 24 d)
      let s2 := s1.setFld R.dlfTimeStat F.dlfTimeStat.OFS (unsigned 16 (clampInt (-32768) 32767 th))
      let s3 := if !s2.fab.lockedOnce && decide (64 * 256 < th.natAbs) then
          let now := s2.sys.time.toNat * 256 + s2.fab.frac / 2 ^ 16
          let new := unsigned 72 ((now : Int) + th)
          { s2 with
            sys := { s2.sys with time := BitVec.ofNat 64 (new / 256) }
            fab := { s2.fab with frac := new % 256 * 2 ^ 16 + s2.fab.frac % 2 ^ 16 } }.setFld R.dlfTimeStat F.dlfTimeStat.STEP 1
        else
          let f := s2.free
          { f.2 with fab := { f.2.fab with rate := ((f.1 % 6711 : Nat) : Int) - 3355 } }
      s3.timeLock th

/-! ## The line clock (R455-R457) -/

/-- The enabled programs with SRC 6. -/
def State.tickPrograms (s : State) : List Nat :=
  (List.range 8).filter (fun p => s.bit (R.lpCfg p) F.lpCfg.EN && s.fld (R.lpCfg p) F.lpCfg.SRC == 6)

/-- A tick arrives for the programs of this node: missing numbers come as skipped triggers, a stamp that has passed is late. The
stamp is kept in steps of 1/16 tick of the local counter. -/
def State.takeTick (s : State) (tick stamp : Nat) : State :=
  let now := s.sys.time.toNat
  let late := decide (signed 48 stamp < signed 48 now) || decide (2 ^ 47 ≤ (stamp + 2 ^ 48 - now % 2 ^ 48) % 2 ^ 48)
  let missing := match s.fab.seenTick with
    | some q => (List.range (min 65536 (tick - q - 1))).map (fun i => q + 1 + i)
    | none => []
  let progs := s.tickPrograms
  let s1 := { s with fab := { s.fab with seenTick := some tick } }
  let s2 := if missing.isEmpty then s1 else s1.setFld R.dlfLcStat F.dlfLcStat.ORDER 1
  let s3 := if late then (s2.setFld R.dlfLcStat F.dlfLcStat.LATE 1).count R.dlfLcLateCnt else s2
  if progs.isEmpty then s3
  else
    let new : List LcTick := missing.map (fun m => { tick := m, stamp := 0, late := false, skip := true, left := progs }) ++
      [{ tick := tick, stamp := stamp * 16 - s3.fab.frac / 2 ^ 20, late := late, skip := false, left := progs }]
    { s3 with tsq := { s3.tsq with ticks := s3.tsq.ticks ++ new } }

/-- The child ports. -/
def State.childPorts (s : State) : List Nat := s.activePorts.filter (fun k => s.portRole k == 2)

/-- An LCLK word on the parent port goes on to the children and is taken (R455, R456); from any other port it is discarded. -/
def State.onLclk (s : State) (k tick stamp : Nat) : State :=
  if s.fab.parent = some k ∧ s.portState k = Dl.active then
    (s.childPorts.foldl (fun t j => t.sendWord j 5 (bytesLE 4 tick ++ bytesLE 6 stamp)) s).takeTick tick stamp
  else s

/-- A trigger of the driving program at the lead issues a tick (R455). -/
def State.issueTick (s : State) (p : Nat) : State :=
  if !(s.bit R.dlfLcCfg F.dlfLcCfg.EN) || s.fld R.dlfLcCfg F.dlfLcCfg.LP != p || decide (5 < s.fld (R.lpCfg p) F.lpCfg.SRC) then s
  else if !(s.bit R.dlfStat F.dlfStat.LEAD) then s.setFld R.dlfLcStat F.dlfLcStat.NOT_LEAD 1
  else
    let tick := s.fab.nextTick
    let stamp := (s.sys.time.toNat + s.fld R.dlfLcCfg F.dlfLcCfg.LEAD) % 2 ^ 48
    let s1 := { s with fab := { s.fab with nextTick := (tick + 1) % 2 ^ 32 } }
    (s1.childPorts.foldl (fun t j => t.sendWord j 5 (bytesLE 4 tick ++ bytesLE 6 stamp)) s1).takeTick tick stamp

/-- A write of DLF.LC_CFG: numbering starts at 0 with the enable. -/
def State.lcCfgWrite (s : State) (path : Path) (w : Word) : State :=
  s.onWrite path R.dlfLcCfg (fun s =>
    let was := s.bit R.dlfLcCfg F.dlfLcCfg.EN
    let s1 := s.writeRow path R.dlfLcCfg Row.dlfLcCfg w false
    if !was && s1.bit R.dlfLcCfg F.dlfLcCfg.EN then { s1 with fab := { s1.fab with nextTick := 0 } } else s1)

/-! ## Stitching (R459-R461) -/

/-- State of a stitch channel. -/
def State.stitch (s : State) (c : Nat) : Stitch := Table.get (fun _ => {}) s.fab.stitch c
def State.setStitch (s : State) (c : Nat) (x : Stitch) : State :=
  { s with fab := { s.fab with stitch := Table.set (fun _ => {}) s.fab.stitch c x } }

/-- The enabled channels of a plane in a role, rising. -/
def State.stitchOn (s : State) (n role : Nat) : List Nat :=
  (List.range 16).filter (fun c => s.bit (R.stCfg c) F.stCfg.EN && s.fld (R.stCfg c) F.stCfg.PLANE == n &&
    s.fld (R.stCfg c) F.stCfg.ROLE == role)

/-- The tick of a plane's line. -/
def State.tickOf (s : State) (n y : Nat) : Nat :=
  match (s.group (s.fld (R.plCfg n) F.plCfg.GRP)).line y with
  | some l => l.tick
  | none => 0

/-- The chunks of a slice: numbers and samples (R459). -/
def chunksOf (vals : List Nat) (x0 width : Nat) : List (Nat × List (Nat × Nat)) :=
  (List.range ((width + 127) / 128)).map (fun k =>
    (k, (List.range (min 128 (width - 128 * k))).map (fun i => (x0 + 128 * k + i, vals.getD (x0 + 128 * k + i) 0))))

/-- The sources of a plane send a delivered line (R459); a flit that holds a poisoned sample carries poison. -/
def State.stitchSend (s : State) (n y : Nat) (vals bad : List Nat) : State :=
  (s.stitchOn n 0).foldl (fun t c =>
    let x0 := t.fld (R.stGeom c) F.stGeom.X0
    let node := t.fld (R.stCfg c) F.stCfg.NODE
    let tick := t.tickOf n y
    let t1 := (chunksOf vals x0 (t.fld (R.stGeom c) F.stGeom.WIDTH)).foldl (fun u k =>
      let payload := k.2.flatMap (fun v => bytesLE 2 v.2)
      let flags := (List.range ((k.2.length + 7) / 8)).filter (fun i =>
        ((k.2.drop (8 * i)).take 8).any (fun v => bad.contains v.1))
      u.routePacket (u.packet Dl.stitch node (k.1 + c * 2 ^ 12) tick payload.length payload flags)) t
    t1.setReg (R.stLines c) (t1.reg (R.stLines c) + 1)) s

/-- The lines that a plane holds back, oldest first. -/
def State.heldLines (s : State) (n : Nat) : List StitchLine := Table.get (fun _ => []) s.fab.held n
def State.setHeldLines (s : State) (n : Nat) (l : List StitchLine) : State :=
  { s with fab := { s.fab with held := Table.set (fun _ => []) s.fab.held n l } }

/-- A sink channel holds every sample of its slice for a tick. -/
def State.sliceWhole (s : State) (c tick : Nat) : Bool :=
  let got := Table.get (fun _ => []) (s.stitch c).chunks tick
  decide ((got.filter (fun e => decide (e.1 < s.fld (R.stGeom c) F.stGeom.WIDTH))).length = s.fld (R.stGeom c) F.stGeom.WIDTH)

/-- Put a slice into a line from x0 on, as far as the line reaches. -/
def overlay (vals slice : List Nat) (x0 : Nat) : List Nat :=
  vals.zipIdx.map (fun e => if x0 ≤ e.2 ∧ e.2 < x0 + slice.length then slice.getD (e.2 - x0) 0 else e.1)

/-- One sink channel's slice for a line: its samples and the poisoned ones; what is missing comes from the slice delivered last,
is listed and counted (R460). -/
def State.takeSlice (s : State) (n c : Nat) (l : StitchLine) : State × List Nat × List Nat :=
  let x := s.stitch c
  let w := s.fld (R.stGeom c) F.stGeom.WIDTH
  let got := Table.get (fun _ => []) x.chunks l.tick
  let whole := s.sliceWhole c l.tick
  let slice := (List.range w).map (fun i =>
    match got.find? (fun e => e.1 == i) with | some e => e.2 | none => x.prev.getD i 0)
  let bad := (Table.get (fun _ => []) x.bad l.tick).filter (fun i => decide (i < w))
  let s1 := s.setStitch c { x with
    prev := slice, chunks := x.chunks.filter (fun e => decide (l.tick < e.1)), bad := x.bad.filter (fun e => decide (l.tick < e.1)) }
  let s2 := s1.setReg (R.stLines c) (s1.reg (R.stLines c) + 1)
  let s3 := if whole then s2
    else
      let g := s2.fld (R.plCfg n) F.plCfg.GRP
      (((s2.listLineAs (some (0x40 + c)) g l.y Cause.sampleMissing noIndex (2 ^ n)).count (R.stMissCnt c)).setFld (R.stStat c)
        F.stStat.MISS 1).fire 238
  (s3, slice, bad)

/-- The oldest held line of a plane is delivered with its slices in place (R460). -/
def State.stitchDeliver (s : State) (n : Nat) : State :=
  match s.heldLines n with
  | [] => s
  | l :: rest =>
    let sinks := s.stitchOn n 1
    let whole := sinks.all (fun c => s.sliceWhole c l.tick)
    let r := sinks.foldl (fun (a : State × List Nat × List Nat) c =>
      let x0 := a.1.fld (R.stGeom c) F.stGeom.X0
      let t := a.1.takeSlice n c l
      (t.1, overlay a.2.1 t.2.1 x0,
        a.2.2.filter (fun x => !(decide (x0 ≤ x ∧ x < x0 + t.2.1.length))) ++ t.2.2.map (fun i => x0 + i)))
      (s.setHeldLines n rest, l.vals, l.bad)
    let out : OutLine := { y := l.y, vals := r.2.1, bad := r.2.2, rep := l.rep }
    let s1 := if whole then r.1.fire 237 else r.1
    { s1 with
      fab := { s1.fab with lastTick := Table.set (fun _ => 0) s1.fab.lastTick n (l.tick + 1) }
      outLines := Table.set (fun _ => []) s1.outLines n ((out :: s1.outOf n).take 64)
      work := s1.work ++ [Work.stitched n l.y] }

/-- Held lines are delivered while the oldest is whole, at most `fuel` of them. -/
def State.stitchFlush (n : Nat) : Nat → State → State
  | 0, s => s
  | fuel + 1, s =>
    match s.heldLines n with
    | [] => s
    | l :: _ =>
      if (s.stitchOn n 1).all (fun c => s.sliceWhole c l.tick) then State.stitchFlush n fuel (s.stitchDeliver n) else s

/-- A sink holds back its plane's own line (R460). (DEDUCED: notes/assumptions/51.) -/
def State.stitchHold (s : State) (n y : Nat) : State :=
  match (s.outOf n).find? (fun o => o.y == y) with
  | none => s
  | some o =>
    let l : StitchLine := { y := y, tick := s.tickOf n y, vals := o.vals, bad := o.bad, rep := o.rep }
    let s1 := { s with outLines := Table.set (fun _ => []) s.outLines n ((s.outOf n).filter (fun e => e.y != y)) }
    let s2 := s1.setHeldLines n (s1.heldLines n ++ [l])
    State.stitchFlush n (s2.heldLines n).length s2

/-- A STITCH chunk reaches its sink (R459, R460): merged, or late. -/
def State.onStitch (s : State) (p : RxPacket) : State :=
  let c := p.tag / 4096
  let k := p.tag % 4096
  if !(s.bit (R.stCfg c) F.stCfg.EN) || !(s.bit (R.stCfg c) F.stCfg.ROLE) || s.fld (R.stCfg c) F.stCfg.NODE != p.src then s
  else
    let n := s.fld (R.stCfg c) F.stCfg.PLANE
    let done := Table.get (fun _ => 0) s.fab.lastTick n
    let oldest := match s.heldLines n with | l :: _ => some l.tick | [] => if done = 0 then none else some done
    let late := decide (p.arg < done) || (match oldest with | some o => decide (o + 3 < p.arg) | none => false)
    if late then s.count (R.stLateCnt c)
    else
      let w := s.fld (R.stGeom c) F.stGeom.WIDTH
      let x := s.stitch c
      let samples := (List.range (p.payload.length / 2)).map (fun j => (128 * k + j, natLE ((p.payload.drop (2 * j)).take 2), p.bad.contains (j / 8)))
      let keep := samples.filter (fun e => decide (e.1 < w))
      let tbl := keep.foldl (fun (t : Table Nat) e => (t.erase e.1).insert e.1 e.2.1) (Table.get (fun _ => []) x.chunks p.arg)
      let bad := (keep.filter (fun e => e.2.2)).foldl (fun b e => addSorted b e.1) (Table.get (fun _ => []) x.bad p.arg)
      let s1 := s.setStitch c { x with
        chunks := Table.set (fun _ => []) x.chunks p.arg tbl, bad := Table.set (fun _ => []) x.bad p.arg bad }
      State.stitchFlush n (s1.heldLines n).length s1

/-- The deadline of a sink channel passes: the oldest held line of its plane goes out as it is (R460). -/
def State.stitchDeadline (s : State) (c : Nat) : State :=
  if s.bit (R.stCfg c) F.stCfg.EN && s.bit (R.stCfg c) F.stCfg.ROLE then
    let n := s.fld (R.stCfg c) F.stCfg.PLANE
    let s1 := s.stitchDeliver n
    State.stitchFlush n (s1.heldLines n).length s1
  else s

/-- The refusal cause of enabling a stitch channel; 0 none (R461). `invalid`: the claim was refused with INVALID_FIELD. -/
def State.stitchCause (s : State) (c : Nat) (invalid : Bool) : Nat :=
  let n := s.fld (R.stCfg c) F.stCfg.PLANE
  let g := s.fld (R.plCfg n) F.plCfg.GRP
  let p := s.fld (R.grpCtl g) F.grpCtl.LP
  let node := s.fld (R.stCfg c) F.stCfg.NODE
  let x0 := s.fld (R.stGeom c) F.stGeom.X0
  let w := s.fld (R.stGeom c) F.stGeom.WIDTH
  if n ≥ 48 || !(s.bit (R.plCfg n) F.plCfg.EN) || s.fld (R.lpCfg p) F.lpCfg.SRC != 6 then 1
  else if node = 0 ∨ node = 255 ∨ node = s.nodeId then 2
  else if w = 0 ∨ 65536 < x0 + w then 3
  else if s.bit (R.stCfg c) F.stCfg.ROLE ∧ (invalid ∨ s.partBytes (s.fld (R.stCfg c) F.stCfg.ABP) < 8 * w) then 4
  else 0

/-- A partition of this number is used by another enabled sink channel. -/
def claimantDlf : Nat := 0x19

/-- A write of STc_CFG (R461): an enabling is checked and, for a sink, claims its partition; a disabling releases it. -/
def State.stCfgWrite (s : State) (path : Path) (c : Nat) (w : Word) : State :=
  s.onWrite path (R.stCfg c) (fun s =>
    let was := s.bit (R.stCfg c) F.stCfg.EN
    let s1 := s.writeRow path (R.stCfg c) Row.stCfg w was
    let sink := s1.bit (R.stCfg c) F.stCfg.ROLE
    let part := Res.partition (s1.fld (R.stCfg c) F.stCfg.ABP)
    let shared := (List.range 16).any (fun d => d != c && s1.bit (R.stCfg d) F.stCfg.EN && s1.bit (R.stCfg d) F.stCfg.ROLE &&
      s1.fld (R.stCfg d) F.stCfg.ABP == s1.fld (R.stCfg c) F.stCfg.ABP)
    let fail (t : State) (cause : Nat) : State :=
      ((t.setFld (R.stCfg c) F.stCfg.EN 0).setFld (R.stStat c) F.stStat.CFG_ERR 1).setFld (R.stStat c) F.stStat.CFG_CAUSE cause
    if F.stCfg.EN.get w = 1 then
      if was then s1
      else
        let pre := s1.stitchCause c false
        if pre ≠ 0 then fail s1 pre
        else
          let r := if sink then s1.claim part claimantDlf else (s1, .ok)
          match r.2 with
          | .ok => (r.1.setReg (R.stLines c) 0).setStitch c {}
          | .invalid => fail r.1 4
          | .denied => (r.1.setFld (R.stCfg c) F.stCfg.EN 0).errClaim path (R.stCfg c)
    else if !was then s1
    else
      let s2 := if sink && !shared then (s1.release part claimantDlf).1 else s1
      let n := s2.fld (R.stCfg c) F.stCfg.PLANE
      let s3 := s2.setStitch c {}
      State.stitchFlush n (s3.heldLines n).length s3)

/-! ## Packets that reach this node -/

/-- RD_REQ or WR_REQ at this node (R451): served through a window or refused with BUS_ERROR. -/
def State.onRequest (s : State) (k : Nat) (p : RxPacket) : State :=
  let off := p.arg % 2 ^ 31
  let a := pageBase + off
  let write := p.type == Dl.wrReq
  if p.arg < 2 ^ 31 ∧ s.windowAllows p.src off p.plen write then
    if !(s.pdOn 127) then s.respond p.type p.src p.tag St.busError []
    else if write then
      let good := s.memWrite a p.payload
      let s1 := p.bad.foldl (fun t i => t.memWritePoison (a + 16 * i) ((p.payload.drop (16 * i)).take 16)) good
      s1.respond p.type p.src p.tag 0 []
    else
      let s1 := s.memRead a p.plen
      let data := (List.range p.plen).map (fun i => (s1.byte (a + i), s1.poisoned (a + i)))
      s1.respond p.type p.src p.tag (if data.any (fun b => b.2) then St.eccUncorrectable else 0) data
  else ((s.count R.dlfViolCnt).dlfError St.busError p.src k).respond p.type p.src p.tag St.busError []

/-- PING is answered with PONG (R465). -/
def State.onPing (s : State) (p : RxPacket) : State :=
  s.routePacket (s.packet Dl.msg p.src 0 0 12 (msgHead 7 ++ (p.payload.drop 4).take 8) [])

/-- PONG completes a PING: the round trip in ticks (R465). -/
def State.onPong (s : State) (p : RxPacket) : State :=
  let t := numAt p.payload 4 8
  match s.fab.pings.find? (fun e => e.2.2.1 == p.src && e.2.2.2 == t) with
  | none => s
  | some e =>
    ({ s with fab := { s.fab with pings := s.fab.pings.filter (fun f => f != e) } }).complete e.1 e.2.1
      { r0 := s.sys.time.toNat - t }

/-- MBOX places its word in the inbox of engine 1-95 with MSRC 0x19; a full inbox takes nothing (R465). -/
def State.onMbox (s : State) (engine : Nat) (w : Word) : State :=
  if 1 ≤ engine ∧ engine ≤ 95 ∧ s.inboxRoom engine 1 then s.inboxPut engine w 0x19 else s

end Sys2Proof.Machine
end

