-- ==== Sys2Proof/Machine/HqeCmd.lean ====
section
/-!
DEFINITION. Sys2Proof/Machine/HqeCmd.lean: what the host does to the controller: doorbells, the fetch and the execution of its
commands, the host watchdog, the link (R367-R401, R465).
-/
namespace Sys2Proof.Machine

/-! ## The link (R367, R385, R400) -/

/-- The queue model is served through the ring bridge. -/
def State.bridge (s : State) : Bool := decide (2 ≤ s.fld R.hqeStat F.hqeStat.LINK)

/-- Queue pairs that exist at most (R368). -/
def State.qpLimit (s : State) : Nat := if s.bridge then 64 else 1024

/-- In ring-bridge mode a read of host memory goes out as MEM_RD messages of at most 4,096 bytes (R400).
(DEDUCED: notes/assumptions/42.) -/
def State.askHost (s : State) (ring : Bool) (q tag addr len : Nat) : State :=
  if !s.bridge then s
  else
    let n := (len + 4095) / 4096
    let new : List HostRead := (List.range n).map (fun i =>
      { id := (s.hqe.nextId + i) % 2 ^ 32, addr := addr + 4096 * i, len := min 4096 (len - 4096 * i), ring := ring, qp := q, tag := tag })
    { s with hqe := { s.hqe with reads := s.hqe.reads ++ new, nextId := (s.hqe.nextId + n) % 2 ^ 32 } }

/-- The bytes that a command has read from the host: as given, or in ring-bridge mode those of its answered messages, none while
one is unanswered. -/
def State.hostData (s : State) (ring : Bool) (q tag : Nat) (given : List Byte) : Option (List Byte) :=
  if !s.bridge then some given
  else
    let mine := s.hqe.reads.filter (fun r => r.ring == ring && r.qp == q && r.tag == tag)
    if mine.all (fun r => r.got.length == r.len) then some (mine.flatMap (fun r => r.got)) else none

/-- The reads of a command are done with. -/
def State.dropReads (s : State) (ring : Bool) (q tag : Nat) : State :=
  { s with hqe := { s.hqe with reads := s.hqe.reads.filter (fun r => !(r.ring == ring && r.qp == q && r.tag == tag)) } }

/-- A SCAN_JOB runs. -/
def State.jobRuns (s : State) : Bool := !s.hqe.jobs.isEmpty

/-- The host is lost: EV241 and HLOST (R385). -/
def State.hostLostNow (s : State) : State :=
  let s1 := (s.setFld R.hqeStat F.hqeStat.HLOST 1).fire 241
  { s1 with work := s1.work ++ [Work.hostLost] }

/-- The watchdog expires. -/
def State.watchdog (s : State) : State := if s.bit R.hqeCtl F.hqeCtl.HWD_EN && s.jobRuns then s.hostLostNow else s

/-- The link goes down. -/
def State.linkDown (s : State) : State :=
  let s1 := s.setFld R.hqeStat F.hqeStat.LINK 0
  if s.fld R.hqeStat F.hqeStat.LINK != 0 && s.jobRuns then s1.hostLostNow else s1

/-- A link comes up (R367): `tunnel` that the host router has a PCIe tunnel, `usb4` that the connection is USB4. -/
def State.linkUp (s : State) (tunnel usb4 : Bool) : State :=
  if !(s.pdOn 128) then s
  else
    let m := if tunnel && usb4 && s.fld R.sysStrap F.sysStrap.LINK == 0 then 1 else if usb4 then 2 else 3
    let s1 := s.setFld R.hqeStat F.hqeStat.LINK m
    { s1 with hqe := { s1.hqe with d3hot := false } }

/-- Every queue stops (R368): no queue pair, command, wait or posted buffer is left. -/
def State.queuesStop (s : State) : State :=
  let s0 := s.forEach 16 (fun j t => t.setFld (R.hqeJob j) F.hqeJob.RUN 0)
  let s1 := ({ s0 with hqe := { s0.hqe with
    qps := [], jobs := [], calibs := [], auxWaits := [], scrubs := [], reads := [] } }).setCmds []
  let s2 := s1.openStreams.foldl (fun t sc =>
    t.setStream sc { t.stream sc with writes := [], reads := [], saves := [], closing := none }) s1
  ({ s2 with fab := { s2.fab with reforms := [], pings := [], releases := [], copies := [] } }.setFld R.hqeAqCfg F.hqeAqCfg.EN 0).refreshQerr

/-- D3hot. -/
def State.enterD3hot (s : State) : State :=
  let s1 := s.queuesStop
  { s1 with hqe := { s1.hqe with d3hot := true } }

/-! ## Doorbells (R370, R371, R382, R385) -/

/-- A doorbell takes effect: EV240 with DB_EV, the watchdog restarts, a host-loss action ends (R385, R403, R510). -/
def State.doorbell (s : State) : State :=
  let s1 := { s with sec := { s.sec with hostLoss := none } }
  if s1.bit R.hqeCtl F.hqeCtl.DB_EV then s1.fire 240 else s1

/-- The entries from one ring place up to another. -/
def ringSpan (size first last : Nat) : Nat := (last + size - first) % size

/-- In ring-bridge mode the new entries are asked for. -/
def State.askEntries (s : State) (q : Nat) (x : Qp) (n : Nat) : State :=
  (List.range n).foldl (fun t i => t.askHost true q 0 (x.sqBase + 64 * ((x.sqTail + i) % x.sqSize)) 64) s

/-- A submission-tail doorbell. -/
def State.tailDoorbell (s : State) (q : Nat) (w : Word) : State :=
  match s.qp q with
  | none => s.setFld R.hqeStat F.hqeStat.DB_STRAY 1
  | some x =>
    let s1 := s.doorbell
    if x.error then s1
    else if x.sqSize ≤ w.toNat then s1.qpError q 1 none
    else (s1.askEntries q x (ringSpan x.sqSize x.sqTail w.toNat)).setQp q (some { x with sqTail := w.toNat })

/-- A completion-head doorbell. -/
def State.headDoorbell (s : State) (q : Nat) (w : Word) : State :=
  match s.qp q with
  | none => s.setFld R.hqeStat F.hqeStat.DB_STRAY 1
  | some x =>
    let s1 := s.doorbell
    let v := w.toNat
    if x.error then s1
    else if x.cqSize ≤ v ∨ ringSpan x.cqSize x.cqHead x.cqTail < ringSpan x.cqSize x.cqHead v then s1.qpError q 2 none
    else s1.setQp q (some { x with cqHead := v })

/-! ## Fetching (R373-R376) -/

/-- A command may be fetched from a queue pair. -/
def State.fetchable (s : State) (q : Nat) : Bool :=
  match s.qp q with
  | none => false
  | some x =>
    let mine := (s.hqe.cmds.filter (fun c => c.qp == q)).length
    !x.error && x.sqHead != x.sqTail && decide (mine + ringSpan x.cqSize x.cqHead x.cqTail < x.cqSize - 1) &&
    (q == 0 || s.bit R.sysBootStat F.sysBootStat.READY)

/-- The queue pair served next: the first after the last one, in rising order. -/
def State.nextQueue (s : State) : Option Nat :=
  let all := s.hqe.qps.map (fun (e : Nat × Option Qp) => e.1)
  ((all.filter (fun q => decide (s.hqe.last < q))) ++ all.filter (fun q => decide (q ≤ s.hqe.last))).find? (fun q => s.fetchable q)

/-- The dwords of an entry. -/
def dwords (l : List Byte) : List Word := (List.range 16).map (fun i => BitVec.ofNat 32 (fieldAt l (4 * i) 4))

/-- What a command reads from host memory besides scatter lists, as address and length. -/
def Cmd.needs (c : Cmd) : Option (Nat × Nat) :=
  if c.op = Op.openStream then some (c.addr0, 64)
  else if c.op = Op.restoreContext then some (c.addr0, 2560)
  else if c.op = Op.loadImage ∧ !c.sgl then some (c.addr0, c.arg 0)
  else if c.op = Op.fabricOp ∧ c.target % 256 = 5 then some (c.addr0, c.arg 2)
  else none

/-- The next queue's entry is fetched and checked (R374-R376). (DESIGN CHOICE: notes/assumptions/41.) -/
def State.fetchCommand (s : State) (given : List Byte) : State :=
  if s.fld R.hqeStat F.hqeStat.LINK = 0 ∨ s.hqe.d3hot ∨ 4096 ≤ s.hqe.cmds.length then s
  else match s.nextQueue with
    | none => s
    | some q =>
      match s.qp q with
      | none => s
      | some x =>
        let first := s.hqe.reads.find? (fun r => r.ring && r.qp == q)
        let entry := if s.bridge then
            (match first with | some r => if r.got.length = r.len then some r.got else none | none => none)
          else some given
        match entry with
        | none => s
        | some l =>
          let ws := dwords l
          let head := (x.sqHead + 1) % x.sqSize
          let d0 := (ws.headD 0).toNat
          let c : Cmd := { qp := q, tag := d0 / 65536, op := d0 % 256, words := ws, sqHead := head }
          let s1 := { s with hqe := { s.hqe with
            last := q, reads := match first with | some r => s.hqe.reads.filter (fun e => e.id != r.id) | none => s.hqe.reads } }
          let s2 := s1.setQp q (some { x with sqHead := head })
          match s2.checkCmd c with
          | some (st, info) => s2.writeCompletion q c.tag head { status := st, info := info }
          | none =>
            let s3 := s2.setCmds (s2.hqe.cmds ++ [c])
            match c.needs with
            | some (a, n) => s3.askHost false q c.tag a n
            | none => s3

/-- COAL_US after the first unsignalled completion (R380). -/
def State.coalesce (s : State) (q : Nat) : State :=
  match s.qp q with
  | none => s
  | some x => if x.unsig = 0 then s else (s.setQp q (some { x with unsig := 0 })).signal x.vector

/-- A write of an MSI-X vector control: unmasking sends the pending message (R380). -/
def State.msixWrite (s : State) (path : Path) (v : Nat) (w : Word) : State :=
  s.onWrite path (R.hqeMsixCtrl v) (fun s =>
    let s1 := s.writeRow path (R.hqeMsixCtrl v) Row.hqeMsixCtrl w false
    if !(s1.bit (R.hqeMsixCtrl v) F.hqeMsixCtrl.MASK) && (s1.reg (R.hqePba (v / 32))).getLsbD (v % 32) then
      (s1.setFld (R.hqePba (v / 32)) ⟨v % 32, 1⟩ 0).signal v
    else s1)

/-- The targets of a load whose image did not arrive are zero-filled again (R359). -/
def State.loadFail (s : State) (q tag : Nat) : State :=
  let mine := s.pack.loads.filter (fun l => l.cmd == some (q, tag))
  let s1 := mine.foldl (fun t l => l.targets.foldl (fun u n => u.engWipe n) t) s
  { s1 with pack := { s1.pack with loads := s1.pack.loads.filter (fun l => l.cmd != some (q, tag)) } }

/-- A host read fails (R381): by timeout or by an error completion, a ring fetch or a read for a command. -/
def State.hostReadFail (s : State) (q : Nat) (tag : Option Nat) (addr : Nat) (timeout : Bool) : State :=
  let s1 := if timeout then s.count R.hqeTmoCnt else s.count R.hqeBusCnt
  match tag with
  | none => s1.qpError q (if timeout then 3 else 4) (some addr)
  | some t =>
    let s2 := if s1.bit R.hqeQerr F.hqeQerr.VALID then s1
      else (s1.setReg64 R.hqeErrAddrLo R.hqeErrAddrHi addr).setFld R.hqeQerr F.hqeQerr.DIR 1
    let s3 := (s2.loadFail q t).dropReads false q t
    let s4 := s3.openStreams.foldl (fun u sc =>
      let x := u.stream sc
      u.setStream sc { x with reads := x.reads.filter (fun b => !(b.qp == q && b.tag == t)) }) s3
    s4.completeSt q t (if timeout then St.timeout else St.busError)

/-- A write of HQE.AQ_CFG (R383, Table 11-12). -/
def State.aqCfgWrite (s : State) (path : Path) (w : Word) : State :=
  s.onWrite path R.hqeAqCfg (fun s =>
    let was := s.bit R.hqeAqCfg F.hqeAqCfg.EN
    let other := s.hqe.cmds.any (fun c => c.qp == 0 && c.op != Op.asyncEvent)
    if was && F.hqeAqCfg.EN.get w == 0 then
      if other then s.errIdle path R.hqeAqCfg
      else
        let s1 := s.writeRow path R.hqeAqCfg Row.hqeAqCfg w true
        ((s1.setCmds (s1.hqe.cmds.filter (fun c => c.qp != 0))).setQp 0 none).refreshQerr
    else
      let s1 := s.writeRow path R.hqeAqCfg Row.hqeAqCfg w was
      if was || F.hqeAqCfg.EN.get w == 0 then s1
      else s1.setQp 0 (some {
        sqBase := s1.reg64 R.hqeAqSqLo R.hqeAqSqHi, cqBase := s1.reg64 R.hqeAqCqLo R.hqeAqCqHi
        sqSize := max 1 (s1.fld R.hqeAqCfg F.hqeAqCfg.SQ_SIZE) + 1, cqSize := max 1 (s1.fld R.hqeAqCfg F.hqeAqCfg.CQ_SIZE) + 1
        vector := 0 }))

/-! ## Admin commands (Table 11-6) -/

/-- IDENTIFY. -/
def State.doIdentify (s : State) (c : Cmd) : State :=
  if c.addr0 % 64 ≠ 0 then s.completeSt c.qp c.tag St.invalidField
  else
    let page := bytesLE 4 (s.reg R.sysId).toNat ++ bytesLE 2 (s.fld R.hqeStat F.hqeStat.LINK) ++ bytesLE 2 s.qpLimit ++
      bytesLE 4 4096 ++ bytesLE 4 3072 ++ bytesLE 4 (s.reg R.hqeSpillSize).toNat ++ bytesLE 4 (s.reg R.hqeSpillFree).toNat ++
      bytesLE 4 (s.reg (R.engVer 0)).toNat
    (s.hostWrite c.addr0 (page ++ List.replicate (4096 - page.length) 0)).completeSt c.qp c.tag 0

/-- CREATE_QP. -/
def State.doCreateQp (s : State) (c : Cmd) : State :=
  let q := c.target
  let sq := bitsOf (c.arg 0) 0 12 + 1
  let cq := bitsOf (c.arg 0) 16 12 + 1
  if q = 0 ∨ s.qpLimit ≤ q ∨ sq < 2 ∨ cq < 2 ∨ c.addr0 % 4096 ≠ 0 ∨ c.addr1 % 4096 ≠ 0 then s.completeSt c.qp c.tag St.invalidField
  else if (s.qp q).isSome then s.completeSt c.qp c.tag St.contextBusy
  else (s.setQp q (some {
    sqBase := c.addr0, cqBase := c.addr1, sqSize := sq, cqSize := cq, vector := bitsOf (c.arg 1) 0 8
    coalN := bitsOf (c.arg 1) 8 8, coalUs := bitsOf (c.arg 1) 16 16 })).completeSt c.qp c.tag 0

/-- DELETE_QP. -/
def State.doDeleteQp (s : State) (c : Cmd) : State :=
  let q := c.target
  if s.hqe.cmds.any (fun d => d.qp == q) then s.completeSt c.qp c.tag St.contextBusy
  else if q = 0 ∨ (s.qp q).isNone then s.completeSt c.qp c.tag St.invalidField
  else ((s.setQp q none).refreshQerr).completeSt c.qp c.tag 0

/-- A SCAN_JOB ends with a status. -/
def State.jobEnd (s : State) (j : Job) (status : Nat) : State :=
  let s1 := { s with hqe := { s.hqe with jobs := s.hqe.jobs.filter (fun k => k.slot != j.slot) } }
  (s1.setFld (R.hqeJob j.slot) F.hqeJob.RUN 0).complete j.qp j.tag { r0 := j.done, r1 := j.first.getD 0, status := status }

/-- What an aborted SCAN_JOB does to its path (R388). -/
def State.jobAbort (s : State) (j : Job) : State :=
  let st := s.pathState j.path
  let s1 := if st = 2 then s.pathCmd j.path 6 0 else if 3 ≤ st ∧ st ≤ 6 then s.pathCmd j.path 4 0 else s
  (s1.closeTracks j.path St.aborted).jobEnd j St.aborted

/-- The stream that holds a posted buffer of a command. -/
def State.bufferOf (s : State) (q tag : Nat) : Option (Nat × Posted) :=
  s.openStreams.findSome? (fun sc =>
    let x := s.stream sc
    ((x.writes ++ x.reads).find? (fun b => b.qp == q && b.tag == tag)).map (fun b => (sc, b)))

/-- CALIBRATE waits for a strip event: no group of it captures or computes (R388). -/
def State.calWaits (s : State) (c : Calib) : Bool :=
  c.target == 1 && c.saves == 0 && !c.left.isEmpty && c.left.all (fun g => s.grpState g == 1 && (s.group g).capture.isNone)

/-- ABORT (R388). -/
def State.doAbort (s : State) (c : Cmd) : State :=
  let q := c.target
  let tag := c.arg 0
  let done (t : State) : State := t.completeSt c.qp c.tag 0
  match s.cmdOf q tag with
  | none => s.completeSt c.qp c.tag St.invalidField
  | some d =>
    if d.op = Op.asyncEvent then done (s.completeSt q tag St.aborted)
    else if d.op = Op.postBuffer then
      match s.bufferOf q tag with
      | none => done (s.completeSt q tag St.aborted)
      | some (sc, b) =>
        let x := s.stream sc
        let s1 := s.setStream sc { x with
          writes := x.writes.filter (fun e => !(e.qp == q && e.tag == tag)), reads := x.reads.filter (fun e => !(e.qp == q && e.tag == tag)) }
        done (s1.bufferDone (b.at_ x.placed) 0 St.aborted)
    else if d.op = Op.scanJob then
      match s.hqe.jobs.find? (fun j => j.qp == q && j.tag == tag) with
      | some j => done (s.jobAbort j)
      | none => done (s.completeSt q tag St.aborted)
    else if d.op = Op.calibrate then
      match s.hqe.calibs.find? (fun k => k.qp == q && k.tag == tag) with
      | some k =>
        if s.calWaits k then
          done ({ s with hqe := { s.hqe with calibs := s.hqe.calibs.filter (fun e => !(e.qp == q && e.tag == tag)) } }.completeSt q tag St.aborted)
        else s.completeSt c.qp c.tag St.contextBusy
      | none => s.completeSt c.qp c.tag St.contextBusy
    else s.completeSt c.qp c.tag St.contextBusy

/-- ASYNC_EVENT waits; with 8 in flight a further one is refused (Table 11-6). -/
def State.doAsyncEvent (s : State) (c : Cmd) : State :=
  if 8 < (s.hqe.cmds.filter (fun d => d.op == Op.asyncEvent)).length then s.completeSt c.qp c.tag St.noResource else s

/-- The oldest queued event completes the oldest ASYNC_EVENT that has started (R399). -/
def State.deliverAsync (s : State) : State :=
  match s.asyncQ, s.hqe.cmds.find? (fun c => c.op == Op.asyncEvent && c.started) with
  | e :: r, some c =>
    ({ s with asyncQ := r }).complete c.qp c.tag { r0 := e.kind + e.detail % 2 ^ 56 * 256, r1 := e.result1 }
  | _, _ => s

/-! ## Stream commands (R389-R393, R314, R315) -/

/-- The fields of a parameter block that a KIND does not use are 0 (R389). -/
def blockZeros (b : List Byte) : Bool :=
  let z (o n : Nat) : Bool := fieldAt b o n == 0
  let kind := fieldAt b 0 1
  z 0x1E 2 && z 0x3C 4 && bitsOf (fieldAt b 5 1) 5 3 == 0 && decide (fieldAt b 0x30 8 < 2 ^ 40) &&
  (kind == 0 || (z 1 4 && bitsOf (fieldAt b 5 1) 0 4 == 0 && z 6 9 && z 0x10 14 && z 0x20 16)) &&
  (decide (kind ≤ 1) || z 0x30 8)

/-- The context that a parameter block describes (Table 11-7). -/
def blockStream (b : List Byte) : Stream :=
  let kind := fieldAt b 0 1
  let fl := fieldAt b 5 1
  let t : Stream := {
    state := if kind = 0 then 1 else 2, kind := kind
    resetAtRestart := fl.testBit 0, runEn := fl.testBit 1, rstDoc := fl.testBit 2, trkEn := fl.testBit 3, cmplItem := fl.testBit 4
    mode := fieldAt b 1 1, near := fieldAt b 2 1, depth := fieldAt b 3 1, npl := fieldAt b 4 1, width := fieldAt b 6 2
    x0 := fieldAt b 8 2, rstInt := fieldAt b 0xA 2, reset := fieldAt b 0xC 1, inshift := fieldAt b 0xD 1, trk := fieldAt b 0xE 1
    thr := (List.range 5).map (fun i => fieldAt b (0x10 + 2 * i) 2), act1 := fieldAt b 0x1A 2, act2 := fieldAt b 0x1C 2
    slots := (List.range 8).map (fun j => fieldAt b (0x20 + 2 * j) 2), rowBase := fieldAt b 0x30 8 % 2 ^ 40
    job := fieldAt b 0xF 1, quota := fieldAt b 0x38 4, opened := true
    c0 := List.replicate 8 0, ri := List.replicate 8 0 }
  if kind = 0 then t.withDefaults.initStats else t

/-- A parameter block is acceptable (R296, R389, Table 11-7). -/
def blockOk (b : List Byte) : Bool :=
  let t := blockStream b
  decide (b.length = 64 ∧ t.kind ≤ 2 ∧ t.job < 16 ∧ 1 ≤ t.quota ∧ t.quota ≤ 32768) && blockZeros b &&
  (t.kind != 0 || (t.paramsOk true &&
    (List.range t.npl).all (fun j => decide (t.src j < 48 ∨ (64 ≤ t.src j ∧ t.src j < 96)))))

/-- A context with its quota allocated: the lowest free units, an empty spill. -/
def State.allot (s : State) (t : Stream) : Stream := { t with units := s.freeUnits.take t.quota, spillRd := 0, spillN := 0 }

/-- OPEN_STREAM. -/
def State.doOpenStream (s : State) (c : Cmd) (b : List Byte) : State :=
  let sc := c.target
  let t := blockStream b
  let old := s.stream sc
  if sc < 3072 ∧ ((old.state ≠ 0 ∧ old.state ≠ 3) ∨ s.hqe.scrubs.contains t.job) then s.completeSt c.qp c.tag St.contextBusy
  else if 3072 ≤ sc ∨ !(blockOk b) then s.completeSt c.qp c.tag St.invalidField
  else if s.fld R.hqeSpillFree F.hqeSpillFree.UNITS < t.quota then s.completeSt c.qp c.tag St.noResource
  else
    let s1 := ((s.setStream sc (s.allot t)).refreshFree).refreshOcc
    s1.complete c.qp c.tag { r0 := if t.kind = 0 then t.header.length else 0 }

/-- The reads posted to a stream complete with ABORTED. -/
def State.readsAborted (s : State) (sc : Nat) : State :=
  let t := s.stream sc
  t.reads.foldl (fun u b => u.bufferDone b 0 St.aborted) (s.setStream sc { t with reads := [] })

/-- CLOSE_STREAM (R393, R396). -/
def State.doCloseStream (s : State) (c : Cmd) : State :=
  let sc := c.target
  let t := s.stream sc
  if 3072 ≤ sc ∨ !t.opened then s.completeSt c.qp c.tag St.invalidField
  else if t.closing.isSome then s.completeSt c.qp c.tag St.contextBusy
  else
    let p := s.stamp
    let s1 := ((p.2.takeSnapshots sc).setStream sc { t with saves := [], closing := some (c.qp, c.tag), closeStamp := p.1 }).owForget sc
    if c.arg 0 % 2 = 1 then
      let s2 := ((s1.setStream sc { s1.stream sc with ends := [], spillN := 0 }).restDone sc St.aborted).readsAborted sc
      ((s2.streamUnhold sc).closeContext sc (if t.state = 4 then 4 else 3)).complete c.qp c.tag { r0 := t.bytes }
    else if t.state = 4 then
      ((s1.readsAborted sc).closeContext sc 4).complete c.qp c.tag { r0 := t.bytes, status := t.failStatus }
    else if t.kind = 1 then
      if t.finished then s1.readsAborted sc
      else
        let s2 := s1.decodeError sc Derr.trunc 0
        (s2.closeContext sc 4).complete c.qp c.tag { r0 := t.bytes, status := St.invalidField }
    else if t.kind = 2 then s1.streamEnd sc
    else s1

/-- POST_BUFFER (R390, R392); a failed stream with nothing left to drain gives ABORTED. -/
def State.doPostBuffer (s : State) (c : Cmd) (sgl : List SgElem) : State :=
  let sc := c.target
  let t := s.stream sc
  let reads := (c.arg 1).testBit 0
  let list := if c.sgl then sgWalk [] 0 sgl else .ok [(c.addr0, c.arg 0)]
  match list with
  | .error info =>
    (if info = 1 then s.count R.hqeLoopCnt else s).complete c.qp c.tag { status := St.invalidField, info := info }
  | .ok segs =>
    if 3072 ≤ sc ∨ !t.opened ∨ (reads ∧ t.kind ≠ 1) ∨ (!c.sgl ∧ (c.addr0 % 64 ≠ 0 ∨ c.arg 0 % 64 ≠ 0)) ∨ (c.sgl ∧ c.arg 0 ≠ 0) then
      s.completeSt c.qp c.tag St.invalidField
    else
      let size := segs.foldl (fun a g => a + g.2) 0
      let b : Posted := { qp := c.qp, tag := c.tag, segs := segs, size := size, last := (c.arg 1).testBit 1 }
      if reads then
        if t.state = 4 then s.bufferDone b 0 St.aborted
        else
          let ahead := t.reads.foldl (fun a r => a + (r.size - r.used)) 0
          let at_ := t.bytes + t.input.length + ahead
          let p := s.stamp
          p.2.setStream sc { t with reads := t.reads ++ [{ b with first := at_ }], closeStamp := if t.reads.isEmpty then p.1 else t.closeStamp }
      else if t.state = 4 ∧ t.spillN = 0 then s.bufferDone (b.at_ t.placed) 0 St.aborted
      else if t.finished ∧ t.spillN = 0 then s.bufferDone (b.at_ t.placed) infoEnd 0
      else ((s.setStream sc { t with writes := t.writes ++ [b] }).atOffset sc).drainAll sc

/-- SAVE_CONTEXT waits for the next line-group boundary of the context (R314). -/
def State.doSaveContext (s : State) (c : Cmd) : State :=
  let sc := c.target
  let t := s.stream sc
  if 3072 ≤ sc ∨ t.state = 0 ∨ c.addr0 % 64 ≠ 0 then s.completeSt c.qp c.tag St.invalidField
  else s.setStream sc { t with saves := t.saves ++ [(c.qp, c.tag, c.addr0)] }

/-- RESTORE_CONTEXT (R315). -/
def State.doRestoreContext (s : State) (c : Cmd) (im : List Byte) : State :=
  let sc := c.target
  let old := s.stream sc
  let job := bitsOf (c.arg 1) 0 4
  if sc < 3072 ∧ (old.opened ∨ s.boundStreams.contains sc ∨ (old.state ≠ 0 ∧ old.state ≠ 3)) then s.completeSt c.qp c.tag St.contextBusy
  else match Stream.ofRecord im with
    | none => s.completeSt c.qp c.tag St.invalidField
    | some t0 =>
      if 3072 ≤ sc ∨ c.arg 0 = 0 ∨ 32768 < c.arg 0 then s.completeSt c.qp c.tag St.invalidField
      else if s.fld R.hqeSpillFree F.hqeSpillFree.UNITS < c.arg 0 then s.completeSt c.qp c.tag St.noResource
      else
        let live := t0.state == 1 || t0.state == 2
        let t := { t0 with
          kind := if t0.state = 2 then 1 else 0, quota := if live then c.arg 0 else 0, job := job, opened := live, placed := t0.bytes }
        (((s.setStream sc (if live then s.allot t else t)).refreshFree).refreshOcc).completeSt c.qp c.tag 0

/-! ## Transport, calibration and sensing commands (R387, R394, R397) -/

/-- SCAN_JOB (R394). -/
def State.doScanJob (s : State) (c : Cmd) : State :=
  let slot := bitsOf c.target 0 4
  let k := bitsOf c.target 4 2
  let trks := setBits (s.fld (R.pathLinks k) F.pathLinks.TRKS) 4
  if s.hqe.jobs.any (fun j => j.slot == slot || j.path == k) then s.completeSt c.qp c.tag St.contextBusy
  else if !(s.pathOn k) then s.completeSt c.qp c.tag St.invalidField
  else
    let j : Job := { qp := c.qp, tag := c.tag, slot := slot, path := k, trk := trks.headD 4, docs := c.arg 0 }
    let s1 := { s with hqe := { s.hqe with jobs := s.hqe.jobs ++ [j] } }
    let s2 := ((s1.setFld (R.hqeJob slot) F.hqeJob.PATH k).setFld (R.hqeJob slot) F.hqeJob.BOUND 1).setFld (R.hqeJob slot) F.hqeJob.RUN 1
    let s3 := trks.foldl (fun t i => t.setReg (R.trkJob i) (BitVec.ofNat 32 (c.arg 1))) s2.refreshOcc
    if (c.arg 2).testBit 8 then s3 else s3.pathCmd k 1 (bitsOf (c.arg 2) 0 3)

/-- SET_GAIT_POLICY: nine words in one cycle, or nothing when the path would be refused for its policy (R387). -/
def State.doSetGaitPolicy (s : State) (c : Cmd) : State :=
  let k := bitsOf c.target 0 2
  let put (t : State) (off : Nat) (row : RegRow) (v : Nat) : State := t.writeRow .bar0 off row (BitVec.ofNat 32 v) false
  let s1 := put (put s (R.pathPolicy k) Row.pathPolicy (c.arg 0)) (R.pathOccthr k) Row.pathOccthr (c.arg 1)
  let s2 := s1.forEach 7 (fun i t => put t (R.pathGthr k (i + 1)) Row.pathGthr (c.arg (2 + i)))
  if s2.policyBad k then s.completeSt c.qp c.tag St.invalidField else s2.completeSt c.qp c.tag 0

/-- TRANSPORT: the path command is issued (Table 11-6). -/
def State.doTransport (s : State) (c : Cmd) : State :=
  let k := bitsOf c.target 0 2
  let cmd := bitsOf (c.arg 0) 0 4
  let g := bitsOf (c.arg 0) 8 3
  if cmd < 3 ∨ 7 < cmd then s.completeSt c.qp c.tag St.invalidField
  else
    let s0 := s.setPstat k F.pathStat.CMD_IGN 0
    let s1 := s0.pathCmd k cmd g
    let ign := s1.bit (R.pathStat k) F.pathStat.CMD_IGN
    let s2 := if s.bit (R.pathStat k) F.pathStat.CMD_IGN then s1.setPstat k F.pathStat.CMD_IGN 1 else s1
    if cmd = 7 ∧ ign then s2.completeSt c.qp c.tag St.invalidField else s2

/-- The target state of a TRANSPORT command is reached (Table 7-2): its status, none while it is not. -/
def State.transportDone (s : State) (c : Cmd) : Option Nat :=
  let k := bitsOf c.target 0 2
  let x := s.pathSt k
  let st := s.pathState k
  let steady := x.atRest == .stay && x.speed == x.target
  match bitsOf (c.arg 0) 0 4 with
  | 3 => if st = 2 then some 0 else none
  | 4 => if st = 1 then some 0 else none
  | 5 => if st = 1 then some 0 else if st = 7 ∧ steady then some St.transportJam else none
  | 6 => if st = 1 then some 0 else none
  | 7 => if st = 2 ∧ s.fld (R.pathStat k) F.pathStat.GAIT = bitsOf (c.arg 0) 8 3 ∧ steady then some 0 else none
  | _ => none

/-- TRANSPORT completes. -/
def State.transportComplete (s : State) (q tag : Nat) : State :=
  match s.cmdOf q tag with
  | none => s
  | some c =>
    if c.op == Op.transport && c.started then
      match s.transportDone c with | some st => s.completeSt q tag st | none => s
    else s

/-- A save that a CALIBRATE waits for is asked for by REC_CTL (R189): the request itself is CalRecord's. -/
def State.calStatuses (c : Calib) : Nat := (List.range 8).foldl (fun a i => a + Table.get (fun _ => 0) c.stat i * 256 ^ i) 0

/-- READ_AUX answers from a result slot: VALUE, STATUS and TS of one delivery (Table 11-6). -/
def State.auxAnswer (s : State) (q tag slot : Nat) : State :=
  let e := slot % 32
  let base := if slot < 32 then R.auxRegSlotValue e else R.auxInjSlotValue e
  s.complete q tag { r0 := (s.reg base).toNat + 2 ^ 32 * (s.reg (base + 4)).toNat
                     time := some (s.reg64 (base + 8) (base + 12)) }

end Sys2Proof.Machine
end

