-- ==== Sys2Proof/Machine/HqeOps.lean ====
section
/-!
DEFINITION. Sys2Proof/Machine/HqeOps.lean: the commands that reach into other blocks: CALIBRATE, READ_AUX, LOAD_IMAGE, SCRUB
and FABRIC_OP (R387, R397, R398, R465), and the answers of the ring bridge (R400).
-/
namespace Sys2Proof.Machine

/-! ## CALIBRATE (R397) -/

/-- The CALIBRATE commands in flight replaced. -/
def State.setCalibs (s : State) (l : List Calib) : State := { s with hqe := { s.hqe with calibs := l } }

/-- A CALIBRATE is over: it completes, with the status of each group or bank in RESULT0. -/
def State.calibEnd (s : State) (c : Calib) : State :=
  (s.setCalibs (s.hqe.calibs.filter (fun d => !(d.qp == c.qp && d.tag == c.tag)))).complete c.qp c.tag
    { status := c.status, r0 := calStatuses c }

/-- The calibration of a CALIBRATE is over: with STORE, or for target 3, a save follows (R189). -/
def State.calibDone (s : State) (c : Calib) : State :=
  if c.store || c.target == 3 then
    let n := if s.bit R.shdRecStat F.shdRecStat.BUSY then 2 else 1
    let rest := s.hqe.calibs.filter (fun d => !(d.qp == c.qp && d.tag == c.tag))
    (s.setCalibs (rest ++ [{ c with left := [], saves := n }])).saveRequest
  else s.calibEnd c

/-- CALIBRATE starts. (DEDUCED: notes/assumptions/46.) -/
def State.doCalibrate (s : State) (c : Cmd) : State :=
  let k : Calib := { qp := c.qp, tag := c.tag, target := c.target % 4, mask := bitsOf c.target 4 4, store := c.target.testBit 8 }
  if k.target = 0 then
    let s1 := s.fgcalWrite .bar0 (F.vafFgcal.BANKS.put 1 k.mask)
    if s.bit R.vafFgcal F.vafFgcal.BUSY || !(s1.bit R.vafFgcal F.vafFgcal.BUSY) then s1.completeSt c.qp c.tag St.contextBusy
    else s1.setCalibs (s1.hqe.calibs ++ [{ k with left := setBits k.mask 4 }])
  else if k.target = 1 then
    let s1 := (setBits k.mask 4).foldl (fun t g => t.fullRequest g) s
    if k.mask = 0 then s1.calibDone k else s1.setCalibs (s1.hqe.calibs ++ [{ k with left := setBits k.mask 4 }])
  else if k.target = 2 then
    let s1 := s.auxCalWrite .bar0 1
    if s.bit R.auxCalCtl F.auxCalCtl.BUSY || !(s1.bit R.auxCalCtl F.auxCalCtl.BUSY) then s1.completeSt c.qp c.tag St.contextBusy
    else s1.setCalibs (s1.hqe.calibs ++ [k])
  else s.calibDone k

/-- The first of CAL_REJECTED, CAL_QUALITY_LOW and SUCCESS among two statuses (R397). -/
def calWorse (a b : Nat) : Nat :=
  if a = St.calRejected ∨ b = St.calRejected then St.calRejected
  else if a = St.calQualityLow ∨ b = St.calQualityLow then St.calQualityLow else a

/-- A group has committed or rejected a full capture: it counts for every CALIBRATE that waits for it. -/
def State.calibGroup (s : State) (g status : Nat) : State :=
  s.hqe.calibs.foldl (fun t c =>
    if c.target == 1 && c.left.contains g then
      let c1 : Calib := { c with
        left := c.left.filter (fun h => h != g), stat := Table.set (fun _ => 0) c.stat g status, status := calWorse c.status status }
      if c1.left.isEmpty then t.calibDone c1
      else t.setCalibs (t.hqe.calibs.map (fun d => if d.qp = c.qp ∧ d.tag = c.tag then c1 else d))
    else t) s

/-- Status of one bank after a self-calibration: that of RESULT taken over the bank alone (R138). -/
def State.bankStatus (s : State) (k : Nat) : Nat :=
  if s.bankState k == 6 || s.bankState k == 7 || s.bit (R.bankStat k) F.bankStat.SPUR_HIGH then St.calQualityLow else St.success

/-- The converter (target 0) or aux (target 2) calibration has ended with a status. -/
def State.calibUnit (s : State) (target status : Nat) : State :=
  s.hqe.calibs.foldl (fun t c =>
    if c.target == target && c.saves == 0 then
      let stat := if target = 0 then
          c.left.foldl (fun m k => Table.set (fun _ => 0) m k (s.bankStatus k)) c.stat else c.stat
      t.calibDone { c with status := status, stat := stat }
    else t) s

/-- A save has ended: a CALIBRATE that waited for it completes; a failed save's status replaces SUCCESS. -/
def State.calibSaved (s : State) (status : Nat) : State :=
  s.hqe.calibs.foldl (fun t c =>
    if c.saves = 0 then t
    else if c.saves = 1 then t.calibEnd { c with status := if c.status = 0 then status else c.status }
    else t.setCalibs (t.hqe.calibs.map (fun d => if d.qp = c.qp ∧ d.tag = c.tag then { c with saves := c.saves - 1 } else d))) s

/-! ## READ_AUX (R387) -/

/-- READ_AUX answers now, or with NEW at the slot's next delivery. -/
def State.doReadAux (s : State) (c : Cmd) : State :=
  let slot := c.target % 64
  if c.target.testBit 8 then { s with hqe := { s.hqe with auxWaits := s.hqe.auxWaits ++ [(c.qp, c.tag, slot)] } }
  else s.auxAnswer c.qp c.tag slot

/-- A result slot has a new delivery: the commands that wait for it answer. -/
def State.auxDelivered (s : State) (slot : Nat) : State :=
  let mine := s.hqe.auxWaits.filter (fun e => e.2.2 == slot)
  let s1 := { s with hqe := { s.hqe with auxWaits := s.hqe.auxWaits.filter (fun e => e.2.2 != slot) } }
  mine.foldl (fun t e => t.auxAnswer e.1 e.2.1 slot) s1

/-! ## LOAD_IMAGE (R359) -/

/-- The bytes of a command that have arrived so far: as given, or in ring-bridge mode those of its answered messages. -/
def State.hostBytes (s : State) (q tag : Nat) (given : List Byte) : List Byte :=
  if s.bridge then (s.hqe.reads.filter (fun r => !r.ring && r.qp == q && r.tag == tag)).flatMap (fun r => r.got) else given

/-- The engines that a LOAD_IMAGE names. -/
def Cmd.engines (c : Cmd) : List Nat := setBits (c.arg 1 + 2 ^ 32 * c.arg 2 + 2 ^ 64 * c.arg 3) 96

/-- LOAD_IMAGE: its header has arrived; refused, or step 1 of R359. -/
def State.doLoadImage (s : State) (c : Cmd) (sgl : List SgElem) (header : List Byte) : State :=
  let list := if c.sgl then sgWalk [] 0 sgl else .ok []
  match list with
  | .error info =>
    (if info = 1 then s.count R.hqeLoopCnt else s).complete c.qp c.tag { status := St.invalidField, info := info }
  | .ok _ =>
    let h := (if c.sgl then header else s.hostBytes c.qp c.tag header).take 128
    let st := s.loadRefused c.engines h (c.arg 0)
    if st ≠ 0 then (s.dropReads false c.qp c.tag).completeSt c.qp c.tag st
    else
      let s1 := c.engines.foldl (fun t n => t.engWipe n) s
      { s1 with pack := { s1.pack with loads := s1.pack.loads ++ [{ cmd := some (c.qp, c.tag), targets := c.engines, header := h }] } }

/-- The last byte of the oldest image on its way has arrived (R359): verified, or the targets zero-filled again. -/
def State.imageArrived (s : State) (rest : List Byte) : State × Option (ImageLoad × Nat) :=
  match s.pack.loads with
  | [] => (s, none)
  | l :: r =>
    let got := match l.cmd with
      | some (q, tag) => if s.bridge then s.hostBytes q tag [] else l.header ++ rest
      | none => l.header ++ rest
    let s0 := { s with pack := { s.pack with loads := r } }
    let s1 := l.targets.foldl (fun t n => t.engPlace n got) s0
    let ok := s1.imageValid got
    let s2 := l.targets.foldl (fun t n => if ok then t.engArm n l.header else t.engWipe n) s1
    let st := if ok then St.success else St.signatureInvalid
    match l.cmd with
    | some (q, tag) => ((s2.dropReads false q tag).completeSt q tag st, some (l, st))
    | none => (s2, some (l, st))

/-! ## SCRUB (R398) -/

/-- The ranges of a SCRUB as first unit and units. -/
def Cmd.ranges (c : Cmd) : List (Nat × Nat) :=
  ((List.range 4).map (fun i => (c.arg (2 * i), c.arg (2 * i + 1)))).filter (fun r => r.2 != 0)

/-- SCRUB starts. -/
def State.doScrub (s : State) (c : Cmd) : State :=
  let job := c.target % 16
  if s.openStreams.any (fun sc => (s.stream sc).job == job) then s.completeSt c.qp c.tag St.contextBusy
  else if c.ranges.any (fun r => decide (0x7C00 < r.1 + r.2)) then s.completeSt c.qp c.tag St.invalidField
  else { s with hqe := { s.hqe with scrubs := s.hqe.scrubs ++ [job] } }

/-- The zero fill of one ended or failed context of the slot: its row store and the spill it last used, then STATE 0. -/
def State.scrubContext (s : State) (sc : Nat) : State :=
  let t := s.stream sc
  let s1 := s.zeroFill t.rowBase (2 * t.width * t.npl)
  (t.units.foldl (fun u x => u.zeroFill (u.spillBase + x * 65536) 65536) s1).setStream sc {}

/-- SCRUB completes. -/
def State.scrubEnd (s : State) (c : Cmd) : State :=
  let job := c.target % 16
  let mine := (s.streams.filter (fun e => e.2.job == job && (e.2.state == 3 || e.2.state == 4))).map (fun e => e.1)
  let s1 := mine.foldl (fun t sc => t.scrubContext sc) s
  let s2 := c.ranges.foldl (fun t r => t.zeroFill (pageBase + r.1 * 65536) (r.2 * 65536)) s1
  { s2 with hqe := { s2.hqe with scrubs := s2.hqe.scrubs.erase job } }.completeSt c.qp c.tag 0

/-- The zero fill of a SCRUB in flight ends. -/
def State.scrubComplete (s : State) (q tag : Nat) : State :=
  match s.cmdOf q tag with
  | some c => if c.op == Op.scrub && c.started then s.scrubEnd c else s
  | none => s

/-! ## FABRIC_OP (R465, Table 13-12) -/

/-- STATUS: the membership table. -/
def State.fabStatus (s : State) (c : Cmd) : State :=
  if s.fabState ≠ Dl.fReady then s.completeSt c.qp c.tag St.noResource
  else
    let head := bytesLE 2 (s.fld R.dlfEpoch F.dlfEpoch.EPOCH) ++ bytesLE 1 (s.fld R.dlfStat F.dlfStat.LEAD_ID) ++
      bytesLE 1 (s.fld R.dlfEpoch F.dlfEpoch.NODES) ++ bytesLE 1 s.fabState ++ List.replicate 11 0
    let entry (n : Nat) : List Byte :=
      let m := Table.get (fun _ => (0, 0)) s.fab.members n
      bytesLE 8 m.1 ++ bytesLE 1 m.2 ++ List.replicate 7 0
    let page := head ++ (List.range 254).flatMap (fun i => entry (i + 1))
    (s.hostWrite c.addr0 (page ++ List.replicate (4096 - page.length) 0)).completeSt c.qp c.tag 0

/-- REFORM: DISC with a raised EPOCH; completes at READY. -/
def State.fabReform (s : State) (c : Cmd) : State :=
  let e := (s.fld R.dlfEpoch F.dlfEpoch.EPOCH + 1) % 65536
  let s1 := (s.setFld R.dlfEpoch F.dlfEpoch.EPOCH e).sendDiscs
  { s1 with fab := { s1.fab with reforms := s1.fab.reforms ++ [(c.qp, c.tag)] } }

/-- A packet for a node has a way: the node itself, or an ACTIVE port by the route table (R433). -/
def State.reachable (s : State) (node : Nat) : Bool :=
  node == s.nodeId || (decide (s.routeTo node < 4) && s.portState (s.routeTo node) == Dl.active)

/-- PING. -/
def State.fabPing (s : State) (c : Cmd) : State :=
  let node := c.arg 0
  if node = s.nodeId then s.complete c.qp c.tag {}
  else if !(s.reachable node) then (s.count R.dlfUnreachCnt).completeSt c.qp c.tag St.fabricUnreachable
  else
    let t := s.sys.time.toNat
    let s1 := { s with fab := { s.fab with pings := s.fab.pings ++ [(c.qp, c.tag, node, t)] } }
    s1.routePacket (s1.packet Dl.msg node 0 0 12 (msgHead 6 ++ bytesLE 8 t) [])

/-- The PING of a command has had no PONG for 1 ms. -/
def State.pingTimeout (s : State) (q tag : Nat) : State :=
  if s.fab.pings.any (fun e => e.1 == q && e.2.1 == tag) then
    { s with fab := { s.fab with pings := s.fab.pings.filter (fun e => !(e.1 == q && e.2.1 == tag)) } }.completeSt q tag St.timeout
  else s

/-- A copy of FABRIC_OP has had one more chunk answered; complete, it writes what it read to the host and completes. -/
def State.copyAnswer (s : State) (r : RemoteCopy) (off len status : Nat) (data : List Byte) : State :=
  let good := status = 0 ∨ status = St.eccUncorrectable
  let r1 : RemoteCopy := { r with
    done := r.done + len, status := if r.status = 0 then status else r.status
    got := if r.write ∨ ¬ good then r.got else r.got ++ [(off - r.off, data)] }
  let rest := s.fab.copies.filter (fun d => !(d.qp == r.qp && d.tag == r.tag))
  if r1.done < r1.len then { s with fab := { s.fab with copies := rest ++ [r1] } }
  else
    let s1 := { s with fab := { s.fab with copies := rest } }
    (r1.got.foldl (fun t g => t.hostWrite (r.host + g.1) g.2) s1).completeSt r.qp r.tag r1.status

/-- REMOTE_READ and REMOTE_WRITE in chunks of 256 bytes; the node's own page store is reached directly (R29). -/
def State.fabCopy (s : State) (c : Cmd) (write : Bool) (d : List Byte) : State :=
  let node := c.arg 0
  let off := c.arg 1
  let len := c.arg 2
  if len < 64 ∨ 65536 < len ∨ len % 64 ≠ 0 ∨ 2 ^ 31 < off + len then s.completeSt c.qp c.tag St.invalidField
  else if node = s.nodeId then
    if !(s.pdOn 127) then s.completeSt c.qp c.tag St.busError
    else if write then ((s.memWrite (pageBase + off) (d.take len)).dropReads false c.qp c.tag).completeSt c.qp c.tag 0
    else
      let s1 := s.memRead (pageBase + off) len
      let bad := s1.anyPoison (pageBase + off) len
      (s1.hostWrite c.addr0 (s1.bytes (pageBase + off) len)).completeSt c.qp c.tag (if bad then St.eccUncorrectable else 0)
  else
    let r : RemoteCopy := { qp := c.qp, tag := c.tag, node := node, off := off, len := len, host := c.addr0, write := write }
    let s1 := { s with fab := { s.fab with copies := s.fab.copies ++ [r] } }
    (List.range ((len + 255) / 256)).foldl (fun t i =>
      let n := min 256 (len - 256 * i)
      let bytes := if write then ((d.drop (256 * i)).take n).map (fun b => (b, false)) else []
      t.remoteAsk { who := .hqe c.qp c.tag, node := node, off := off + 256 * i, len := n, write := write, data := bytes })
      (s1.dropReads false c.qp c.tag)

/-- QUARANTINE: entered at once; a release completes at ACTIVE. -/
def State.fabQuarantine (s : State) (c : Cmd) : State :=
  let k := c.arg 0
  if 4 ≤ k then s.completeSt c.qp c.tag St.invalidField
  else if (c.arg 1).testBit 0 then (s.quarantineAndElect k Dl.qForced).completeSt c.qp c.tag 0
  else
    let s1 := s.quarantineEnd k
    { s1 with fab := { s1.fab with releases := s1.fab.releases ++ [(c.qp, c.tag, k)] } }

/-- The releases whose port is ACTIVE, or failed authentication again, complete (Table 13-12). -/
def State.releasesCheck (s : State) : State :=
  s.fab.releases.foldl (fun t e =>
    let k := e.2.2
    let drop (u : State) : State := { u with fab := { u.fab with releases := u.fab.releases.filter (fun f => f != e) } }
    if t.portState k = Dl.active then (drop t).completeSt e.1 e.2.1 0
    else if t.portState k = Dl.quarantine ∧ t.fld (R.dlStat k) F.dlStat.QCAUSE = Dl.qAuth then
      (drop t).completeSt e.1 e.2.1 St.authFailed
    else t) s

/-- A release whose port has not reached ACTIVE within 100 ms. -/
def State.releaseTimeout (s : State) (q tag : Nat) : State :=
  if s.fab.releases.any (fun e => e.1 == q && e.2.1 == tag) then
    { s with fab := { s.fab with releases := s.fab.releases.filter (fun e => !(e.1 == q && e.2.1 == tag)) } }.completeSt q tag St.timeout
  else s

/-- MAILBOX: the word goes to an engine of a node; `full` says whether a remote inbox had no room. -/
def State.fabMailbox (s : State) (c : Cmd) (full : Bool) : State :=
  let node := c.arg 0
  let e := c.arg 1
  let w := BitVec.ofNat 32 (c.arg 2)
  if e = 0 ∨ 95 < e then s.completeSt c.qp c.tag St.invalidField
  else if node = s.nodeId then
    if s.inboxRoom e 1 then (s.onMbox e w).completeSt c.qp c.tag 0 else s.completeSt c.qp c.tag St.noResource
  else if !(s.reachable node) then (s.count R.dlfUnreachCnt).completeSt c.qp c.tag St.fabricUnreachable
  else
    let s1 := s.routePacket (s.packet Dl.msg node 0 0 12 (msgHead 8 ++ [BitVec.ofNat 8 e, 0, 0, 0] ++ bytesLE 4 w.toNat) [])
    s1.completeSt c.qp c.tag (if full then St.noResource else 0)

/-- A FABRIC_OP command starts, if its sub-operation is `n`. -/
def State.fabricOp (s : State) (q tag n : Nat) (f : Cmd → State → State) : State :=
  match s.cmdOf q tag with
  | some c => if c.target % 256 = n then s.startCmd q tag Op.fabricOp f else s
  | none => s

/-! ## Ring bridge (R400, R401) -/

/-- A ring-bridge message counts as bad (R401). -/
def State.bridgeBad (s : State) : State := s.count R.hqeBrgErrCnt

/-- MEM_DATA answers a read, in part or in full. -/
def State.memData (s : State) (id : Nat) (data : List Byte) (crcOk : Bool) : State :=
  if !s.bridge then s
  else if !crcOk then s.bridgeBad
  else { s with hqe := { s.hqe with
    reads := s.hqe.reads.map (fun r => if r.id = id then { r with got := (r.got ++ data).take r.len } else r) } }

/-- MEM_ERR fails a read: an error completion under R381. -/
def State.memErr (s : State) (id : Nat) (crcOk : Bool) : State :=
  if !s.bridge then s
  else if !crcOk then s.bridgeBad
  else match s.hqe.reads.find? (fun r => r.id == id) with
    | none => s
    | some r =>
      let s1 := { s with hqe := { s.hqe with reads := s.hqe.reads.filter (fun e => e.id != id) } }
      s1.hostReadFail r.qp (if r.ring then none else some r.tag) r.addr false

end Sys2Proof.Machine
end

