-- ==== Sys2Proof/Machine/Idma.lean ====
section
/-!
DEFINITION. Sys2Proof/Machine/Idma.lean: the channels of the internal DMA: their control writes, events, pace credits, halts
(R405-R425). The accesses they make are in IdmaMove.lean.
-/
namespace Sys2Proof.Machine

/-- State of a ring channel. -/
def State.chan (s : State) (n : Nat) : Chan := Table.get (fun _ => {}) s.idma.chans n

/-- The state with that of a ring channel replaced. -/
def State.setChan (s : State) (n : Nat) (c : Chan) : State :=
  { s with idma := { s.idma with chans := Table.set (fun _ => {}) s.idma.chans n c } }

/-- State of a compatibility channel. -/
def State.cc (s : State) (n : Nat) : Cc := Table.get (fun _ => {}) s.idma.ccs n

/-- The state with that of a compatibility channel replaced. -/
def State.setCc (s : State) (n : Nat) (c : Cc) : State :=
  { s with idma := { s.idma with ccs := Table.set (fun _ => {}) s.idma.ccs n c } }

/-! States of Table 12-3. -/
namespace Ch
def idle : Nat := 0
def fetch : Nat := 1
def waitOwn : Nat := 2
def waitPace : Nat := 3
def xfer : Nat := 4
def fence : Nat := 5
def paused : Nat := 6
def halted : Nat := 7
end Ch

/-- STATE of a channel. -/
def State.chState (s : State) (n : Nat) : Nat := s.fld (R.chStat n) F.chStat.STATE

/-- A channel enters a state; IDMA.BUSY and IDMA.HALTED follow. -/
def State.chEnter (s : State) (n st : Nat) : State :=
  ((s.setFld (R.chStat n) F.chStat.STATE st).setFld R.idmaBusy ⟨n, 1⟩ (if st = Ch.idle ∨ st = Ch.halted then 0 else 1)).setFld
    R.idmaHalted ⟨n, 1⟩ (if st = Ch.halted then 1 else 0)

/-- The descriptor address of a channel. -/
def State.chDesc (s : State) (n : Nat) : Nat := s.reg64 (R.chDescLo n) (R.chDescHi n) % 2 ^ 40

/-- A word of the fetched copy, and 40-bit addresses of it (Table 12-1). -/
def Chan.word (c : Chan) (i : Nat) : Nat := (c.words.getD i 0).toNat
def Chan.len (c : Chan) : Nat := c.word 1
def Chan.src (c : Chan) : Nat := (c.word 2 + 2 ^ 32 * c.word 3) % 2 ^ 40
def Chan.dst (c : Chan) : Nat := (c.word 4 + 2 ^ 32 * c.word 5) % 2 ^ 40
def Chan.tbl (c : Chan) : Nat := (c.word 6 + 2 ^ 32 * c.word 7) % 2 ^ 40

/-! Fields of the control word (Table 12-2). -/
def Chan.own (c : Chan) : Bool := (c.word 0).testBit 0
def Chan.type (c : Chan) : Nat := bitsOf (c.word 0) 1 2
def Chan.fenced (c : Chan) : Bool := (c.word 0).testBit 3
def Chan.evDone (c : Chan) : Bool := (c.word 0).testBit 4
def Chan.paced (c : Chan) : Bool := (c.word 0).testBit 5
def Chan.isLast (c : Chan) : Bool := (c.word 0).testBit 6
def Chan.swCode (c : Chan) : Nat := bitsOf (c.word 0) 7 3
def Chan.dwCode (c : Chan) : Nat := bitsOf (c.word 0) 10 3
def Chan.sw (c : Chan) : Nat := 2 ^ c.swCode
def Chan.dw (c : Chan) : Nat := 2 ^ c.dwCode
def Chan.srcFix (c : Chan) : Bool := (c.word 0).testBit 13
def Chan.dstFix (c : Chan) : Bool := (c.word 0).testBit 14

/-- A range of `n` bytes touches the register mirror (Table 1-4). -/
def touchesMirror (a n : Nat) : Bool := decide (a < 0x40100000 ∧ 0x40000000 < a + n)

/-- The address of the fabric remote window that names node `own` is its local page-store address (R29, R415). -/
def foldWindow (own a : Nat) : Nat :=
  if 0x8000000000 ≤ a ∧ a / 2 ^ 31 % 256 = own then pageBase + a % 2 ^ 31 else a

/-- A field that Tables 12-1 and 12-2 set to 0 is 0. -/
def Chan.zerosOk (c : Chan) : Bool :=
  bitsOf (c.word 0) 15 8 == 0 && decide (c.word 3 < 256 ∧ c.word 5 < 256 ∧ c.word 7 < 256) &&
  (if c.type = 2 then c.len == 0 && c.word 4 == 0 && c.word 5 == 0 && c.word 6 == 0 && c.word 7 == 0
   else if c.type = 0 then c.word 6 == 0 && c.word 7 == 0 else true)

/-- The checks of cause DESC on a fetched copy (R413, R414, R416, R420). -/
def Chan.checks (c : Chan) : Bool :=
  let widths := decide (c.swCode ≤ 4 ∧ c.dwCode ≤ 4)
  c.zerosOk && c.type != 3 && widths &&
  (if c.type = 2 then decide (c.src % 32 = 0)
   else if c.type = 0 then
    decide (0 < c.len ∧ c.len < 2 ^ 31 ∧ c.src % c.sw = 0 ∧ c.dst % c.dw = 0 ∧ c.len % (max c.sw c.dw) = 0) &&
    (c.swCode == 2 || !touchesMirror c.src (if c.srcFix then c.sw else c.len)) &&
    (c.dwCode == 2 || !touchesMirror c.dst (if c.dstFix then c.dw else c.len))
   else
    decide (0 < c.len ∧ c.len < 2 ^ 24 ∧ c.swCode = c.dwCode ∧ c.src % c.sw = 0 ∧ c.dst % c.sw = 0 ∧ c.tbl % 4 = 0) &&
    !c.srcFix && (c.swCode == 2 || !touchesMirror c.dst (if c.dstFix then c.sw else c.len * c.sw)))

/-- The ranges of a COPY overlap so that the beats are moved last first (R415); `own` is the controller's node ID. -/
def Chan.descends (c : Chan) (own : Nat) : Bool :=
  let sa := foldWindow own c.src
  let da := foldWindow own c.dst
  !c.srcFix && !c.dstFix && decide (sa < da ∧ da < sa + c.len)

/-- Next beat addresses: of the source and of the destination (R413, R415, R416). -/
def Chan.srcNow (c : Chan) : Nat :=
  if c.type = 1 then (c.src + (c.idx.getD 0) * c.sw) % 2 ^ 40
  else if c.srcFix then c.src
  else if c.desc then (c.src + c.len + 2 ^ 40 - c.rd - c.sw) % 2 ^ 40 else (c.src + c.rd) % 2 ^ 40
def Chan.dstNow (c : Chan) : Nat :=
  if c.dstFix then c.dst
  else if c.type = 1 then (c.dst + c.wr * c.sw) % 2 ^ 40
  else if c.desc then (c.dst + c.len + 2 ^ 40 - c.wr - c.dw) % 2 ^ 40 else (c.dst + c.wr) % 2 ^ 40

/-- The position registers show a channel's state (R418). -/
def State.chShow (s : State) (n : Nat) : State :=
  let c := s.chan n
  (((s.setReg64 (R.chSrcLo n) (R.chSrcHi n) c.srcNow).setReg64 (R.chDstLo n) (R.chDstHi n) c.dstNow).setFld (R.chRem n)
    F.chRem.REM (c.len - c.wr)).setFld (R.chHold n) F.chHold.BYTES c.hold.length

/-- The error latch of IDMA, while VALID = 0 (R420). -/
def State.idmaErr (s : State) (ch cause dir kind addr : Nat) : State :=
  if s.bit R.idmaErr F.idmaErr.VALID then s
  else
    (s.setReg R.idmaErr (BitVec.ofNat 32 (1 + ch % 64 * 2 + dir * 2 ^ 7 + cause * 2 ^ 8 + kind * 2 ^ 12))).setReg64
      R.idmaErrAddrLo R.idmaErrAddrHi (addr % 2 ^ 40)

/-- The halt counter of a cause; DESC has none. -/
def State.idmaCount (s : State) (cause : Nat) : State :=
  match cause with
  | 1 => s.count R.idmaBusCnt
  | 2 => s.count R.idmaTmoCnt
  | 3 => s.count R.idmaEccCnt
  | 5 => s.count R.idmaLoopCnt
  | _ => s

/-- A ring channel halts (R420). -/
def State.chHalt (s : State) (n cause dir kind addr : Nat) : State :=
  let s1 := (s.setChan n { s.chan n with wait := none }).chEnter n Ch.halted
  let s2 := ((s1.setFld (R.chStat n) F.chStat.CAUSE cause).setFld (R.chStat n) F.chStat.DIR dir).setFld (R.chStat n)
    F.chStat.KIND kind
  ((((s2.setReg64 (R.chFaddrLo n) (R.chFaddrHi n) (addr % 2 ^ 40)).idmaCount cause).idmaErr n cause dir kind addr).fire (64 + n))

/-- A start (R411). -/
def State.chStart (s : State) (n : Nat) : State :=
  if s.chState n = Ch.idle ∧ s.bit (R.chCtl n) F.chCtl.EN then
    ((s.setChan n { s.chan n with kicked := false, abort := false }).chEnter n Ch.fetch).setReg (R.chStat n)
      (F.chStat.JCNT.put (F.chStat.CAUSE.put ((s.chEnter n Ch.fetch).reg (R.chStat n)) 0) 0)
  else s.setFld (R.chStat n) F.chStat.START_IGN 1

/-- A kick: a new fetch from WAIT_OWN, remembered while one is in flight (R407); in PAUSED as in the state that was paused
(R418). -/
def State.chKick (s : State) (n : Nat) : State :=
  let st := s.chState n
  let c := s.chan n
  if st = Ch.waitOwn then (s.setChan n { c with kicked := false }).chEnter n Ch.fetch
  else if st = Ch.fetch ∨ (st = Ch.paused ∧ c.from_ = Ch.fetch) then s.setChan n { c with kicked := true }
  else if st = Ch.paused ∧ c.from_ = Ch.waitOwn then s.setChan n { c with from_ := Ch.fetch, kicked := false }
  else s

/-- The pace credits of a channel. -/
def State.chCredit (s : State) (n : Nat) : Nat := s.fld (R.chPace n) F.chPace.CREDIT

/-- A COPY or GATHER begins: XFER once a credit that it needs is there (R412). -/
def State.chBegin (s : State) (n : Nat) : State :=
  let c := s.chan n
  let go := (s.setFld (R.chStat n) F.chStat.JCNT 0).chEnter n Ch.xfer
  if !c.paced then go
  else if s.chCredit n = 0 then s.chEnter n Ch.waitPace
  else go.setFld (R.chPace n) F.chPace.CREDIT (s.chCredit n - 1)

/-- A pace pulse: one credit, lost at 255 (R412). -/
def State.chPacePulse (s : State) (n : Nat) : State :=
  let s1 := if s.chCredit n = 255 then s.setFld (R.chStat n) F.chStat.PACE_OVF 1
    else s.setFld (R.chPace n) F.chPace.CREDIT (s.chCredit n + 1)
  if s1.chState n = Ch.waitPace ∧ !(s1.bit (R.chCtl n) F.chCtl.PAUSE) then s1.chBegin n else s1

/-- A channel that was aborted is IDLE with CAUSE = ABORT (R419). -/
def State.chAborted (s : State) (n : Nat) : State :=
  let s1 := (s.setChan n { s.chan n with hold := [], wait := none, abort := false, kicked := false }).chEnter n Ch.idle
  (s1.setFld (R.chStat n) F.chStat.CAUSE 6).setFld (R.chHold n) F.chHold.BYTES 0

/-- EN becomes 0: a halted channel leaves HALTED; another one aborts once nothing is outstanding (R419). -/
def State.chDisable (s : State) (n : Nat) : State :=
  let st := s.chState n
  if st = Ch.idle then s
  else if st = Ch.halted then s.chEnter n Ch.idle
  else if (s.chan n).wait.isSome then s.setChan n { s.chan n with abort := true }
  else s.chAborted n

/-- The channel may be PAUSED: PAUSE is set, a state that can be paused, nothing outstanding, no GATHER element between its read
and its write (R418). A fenced descriptor completes first. -/
def State.chCanPause (s : State) (n : Nat) : Bool :=
  let st := s.chState n
  let c := s.chan n
  s.bit (R.chCtl n) F.chCtl.PAUSE && (st == Ch.fetch || st == Ch.waitOwn || st == Ch.waitPace || st == Ch.xfer) &&
  c.wait.isNone && !(st == Ch.xfer && c.type == 1 && (c.idx.isSome || !c.hold.isEmpty))

/-- The channel enters PAUSED and shows its position. -/
def State.chPause (s : State) (n : Nat) : State :=
  if s.chCanPause n then ((s.setChan n { s.chan n with from_ := s.chState n }).chEnter n Ch.paused).chShow n else s

/-- PAUSE becomes 0: back to the state that was paused; a credit that came meanwhile is taken (R418). -/
def State.chResume (s : State) (n : Nat) : State :=
  if s.chState n = Ch.paused then
    let f := (s.chan n).from_
    let s1 := s.chEnter n f
    if f = Ch.waitPace then s1.chBegin n else s1
  else s

/-- A write of CHn_CTL through a path (R411, R418, R419): EN = 0 governs, then PAUSE, START and KICK act. -/
def State.chCtlWrite (s : State) (path : Path) (n : Nat) (w : Word) : State :=
  s.onWrite path (R.chCtl n) (fun s =>
    let s1 := s.writeRow path (R.chCtl n) Row.chCtl w false
    let start := fun (t : State) => if F.chCtl.START.get w = 1 then t.chStart n else t
    let kick := fun (t : State) => if F.chCtl.KICK.get w = 1 then t.chKick n else t
    if F.chCtl.EN.get w = 0 then start (s1.chDisable n)
    else if F.chCtl.PAUSE.get w = 0 then kick (start (s1.chResume n))
    else kick (start s1))

/-- A write of a channel's pace selector clears its credits (R412). -/
def State.chPaceSelWrite (s : State) (path : Path) (n : Nat) (w : Word) : State :=
  s.onWrite path (R.chPaceSel n) (fun s =>
    (s.writeRow path (R.chPaceSel n) Row.chPaceSel w false).setFld (R.chPace n) F.chPace.CREDIT 0)

/-! ## Compatibility channels (R422-R425) -/

/-- The 40-bit addresses of a compatibility channel. -/
def State.ccSrc (s : State) (n : Nat) : Nat := s.fld (R.ccXhi n) F.ccXhi.SRC * 2 ^ 32 + (s.reg (R.ccSar n)).toNat
def State.ccDst (s : State) (n : Nat) : Nat := s.fld (R.ccXhi n) F.ccXhi.DST * 2 ^ 32 + (s.reg (R.ccDar n)).toNat

/-- Bytes of an element. -/
def State.ccSize (s : State) (n : Nat) : Nat := 2 ^ s.fld (R.ccCcr n) F.ccCcr.SIZE

/-- EN, CSR.BUSY and IDMA.CC_STAT.BUSY of a compatibility channel. -/
def State.ccEn (s : State) (n : Nat) (on : Bool) : State :=
  let b := if on then 1 else 0
  ((s.setFld (R.ccCcr n) F.ccCcr.EN b).setFld (R.ccCsr n) F.ccCsr.BUSY b).setFld R.idmaCcStat ⟨n, 1⟩ b

/-- CSR.ERR of a compatibility channel and its bit in IDMA.CC_STAT. -/
def State.ccErr (s : State) (n : Nat) (on : Bool) : State :=
  let b := if on then 1 else 0
  (s.setFld (R.ccCsr n) F.ccCsr.ERR b).setFld R.idmaCcStat ⟨8 + n, 1⟩ b

/-- The enabling is refused (R423). -/
def State.ccRefused (s : State) (n : Nat) : Bool :=
  let size := s.fld (R.ccCcr n) F.ccCcr.SIZE
  size == 3 || s.fld (R.ccTcr n) F.ccTcr.COUNT == 0 || s.ccSrc n % 2 ^ size != 0 || s.ccDst n % 2 ^ size != 0 ||
  (size != 2 && (touchesMirror (s.ccSrc n) 1 || touchesMirror (s.ccDst n) 1))

/-- A compatibility channel halts: EN := 0, CSR.ERR, no event (R425). -/
def State.ccHalt (s : State) (n cause dir kind addr : Nat) : State :=
  (((((s.setCc n { s.cc n with wait := none, hold := [], stop := false }).ccEn n false).ccErr n true).idmaCount cause).idmaErr
    (32 + n) cause dir kind addr)

/-- A write of CCn_CCR through a path: an enabling is checked and latches the reload values, a refused one is recorded with cause
DESC, its address, DIR and KIND not stated by the spec (R423); EN = 0 stops after the element in progress (R425). -/
def State.ccCcrWrite (s : State) (path : Path) (n : Nat) (w : Word) : State :=
  s.onWrite path (R.ccCcr n) (fun s =>
    let was := s.bit (R.ccCcr n) F.ccCcr.EN
    let s1 := s.writeRow path (R.ccCcr n) Row.ccCcr w was
    if F.ccCcr.EN.get w = 1 then
      if was then s1.setCc n { s1.cc n with stop := false }
      else if s1.ccRefused n then
        let a := s1.free
        let b := a.2.free
        ((b.2.setFld (R.ccCcr n) F.ccCcr.EN 0).ccErr n true).idmaErr (32 + n) 4 (b.1 % 2) (b.1 / 2 % 8) a.1
      else (s1.setCc n { sar := (s1.reg (R.ccSar n)).toNat, dar := (s1.reg (R.ccDar n)).toNat
                         tcr := s1.fld (R.ccTcr n) F.ccTcr.COUNT }).ccEn n true
    else if !was then s1
    else if (s1.cc n).wait.isSome then (s1.setFld (R.ccCcr n) F.ccCcr.EN 1).setCc n { s1.cc n with stop := true }
    else s1.ccEn n false)

/-- A write of a compatibility channel's trigger selector clears its credits (R423). -/
def State.ccTrigSelWrite (s : State) (path : Path) (n : Nat) (w : Word) : State :=
  s.onWrite path (R.ccTrigSel n) (fun s =>
    (s.writeRow path (R.ccTrigSel n) Row.ccTrigSel w false).setFld (R.ccCred n) F.ccCred.CREDIT 0)

/-- A write of CCn_CSR: its W1C bits, with the copy of ERR in IDMA.CC_STAT. -/
def State.ccCsrWrite (s : State) (path : Path) (n : Nat) (w : Word) : State :=
  s.onWrite path (R.ccCsr n) (fun s =>
    let s1 := s.writeRow path (R.ccCsr n) Row.ccCsr w false
    s1.setFld R.idmaCcStat ⟨8 + n, 1⟩ (s1.fld (R.ccCsr n) F.ccCsr.ERR))

/-- A trigger credit (R423). -/
def State.ccTrigger (s : State) (n : Nat) : State :=
  let c := s.fld (R.ccCred n) F.ccCred.CREDIT
  if c = 255 then s.setFld (R.ccCsr n) F.ccCsr.OVF 1 else s.setFld (R.ccCred n) F.ccCred.CREDIT (c + 1)

/-- TCR has reached 0 (R424). -/
def State.ccTerminal (s : State) (n : Nat) : State :=
  let s1 := s.setFld (R.ccCsr n) F.ccCsr.TC 1
  let s2 := if s1.bit (R.ccCcr n) F.ccCcr.TCIE then s1.fire (96 + n) else s1
  if s2.bit (R.ccCcr n) F.ccCcr.CIRC then
    let c := s2.cc n
    ((s2.setReg (R.ccSar n) (BitVec.ofNat 32 c.sar)).setReg (R.ccDar n) (BitVec.ofNat 32 c.dar)).setFld (R.ccTcr n)
      F.ccTcr.COUNT c.tcr
  else s2.ccEn n false

/-- An element has been written: addresses and count move on (R423-R425). -/
def State.ccElementDone (s : State) (n : Nat) : State :=
  let sz := s.ccSize n
  let c := s.cc n
  let s0 := s.setCc n { c with hold := [], wait := none, burst := c.burst - 1 }
  let s1 := if s0.bit (R.ccCcr n) F.ccCcr.SINC then s0.setReg (R.ccSar n) (s0.reg (R.ccSar n) + BitVec.ofNat 32 sz) else s0
  let s2 := if s1.bit (R.ccCcr n) F.ccCcr.DINC then s1.setReg (R.ccDar n) (s1.reg (R.ccDar n) + BitVec.ofNat 32 sz) else s1
  let left := s2.fld (R.ccTcr n) F.ccTcr.COUNT - 1
  let s3 := s2.setFld (R.ccTcr n) F.ccTcr.COUNT left
  let s4 := if left = 0 then (s3.setCc n { s3.cc n with burst := 0 }).ccTerminal n else s3
  if (s4.cc n).stop then (s4.setCc n { s4.cc n with stop := false }).ccEn n false else s4

/-- The channel may move an element now: with TRIG a burst is begun with a credit. -/
def State.ccReady (s : State) (n : Nat) : Option State :=
  if !(s.bit (R.ccCcr n) F.ccCcr.EN) || (s.cc n).wait.isSome then none
  else if !(s.bit (R.ccCcr n) F.ccCcr.TRIG) || decide (0 < (s.cc n).burst) then some s
  else
    let c := s.fld (R.ccCred n) F.ccCred.CREDIT
    if c = 0 then none
    else some ((s.setFld (R.ccCred n) F.ccCred.CREDIT (c - 1)).setCc n
      { s.cc n with burst := s.fld (R.ccCcr n) F.ccCcr.BURST + 1 })

end Sys2Proof.Machine
end

