-- ==== Sys2Proof/Machine/Power.lean ====
section
/-!
DEFINITION. Sys2Proof/Machine/Power.lean: pins, boundary scan, power domains, the PLL and the resets (R19-R26, R58-R86, R475,
R516, R519).
-/
namespace Sys2Proof.Machine

/-! ## GPIO pins (R62-R64) -/

/-- The level that an undriven pin takes from its pull; none without a pull (R64). -/
def State.pullLevel (s : State) (n : Nat) : Option Bool :=
  match s.fld (R.sysGpioCfg n) F.sysGpioCfg.PULL with
  | 1 => some false
  | 2 => some true
  | _ => none

/-- The level that the board drives on a pin; none where it drives none. -/
def State.boardLevel (s : State) (n : Nat) : Option Bool := Table.get (fun _ => none) s.sys.gpioExt n

/-- The path whose feed solenoid is on pin n (R244). -/
def State.solenoidPath (s : State) (n : Nat) : Option Nat :=
  (List.range 4).find? (fun k => s.pathOn k && s.fld (R.pathFeed k) F.pathFeed.MODE == 1 && s.fld (R.pathFeed k) F.pathFeed.GPIO == n)

/-- The level that the controller drives on pin n; none where it drives none (Table 2-4, R117, R244). -/
def State.drivenLevel (s : State) (n : Nat) : Option Bool :=
  let c := R.sysGpioCfg n
  match s.fld c F.sysGpioCfg.FUNC with
  | 1 =>
    if !(s.bit c F.sysGpioCfg.EN) then none
    else match s.fld c F.sysGpioCfg.MODE with
      | 1 => some (s.bit c F.sysGpioCfg.OUT)
      | 2 => if s.bit c F.sysGpioCfg.OUT then none else some false
      | 3 => some (s.sys.gpioHigh.contains n)
      | _ => none
  | 2 => some ((List.range 8).any (fun p => (s.lp p).run == .line))
  | 3 => match s.solenoidPath n with
    | some k => some (s.bit (R.pathStat k) F.pathStat.FEED_HOLD == s.bit (R.pathFeed k) F.pathFeed.HOLD_LVL)
    | none => none
  | _ => none

/-- The level on pin n; a pin that nothing drives and nothing pulls has a free level (R64). (DEDUCED: notes/assumptions/18.) -/
def State.pinLevel (s : State) (n : Nat) : Bool × State :=
  match s.drivenLevel n, s.boardLevel n, s.pullLevel n with
  | some v, _, _ => (v, s)
  | none, some v, _ => (v, s)
  | none, none, some v => (v, s)
  | none, none, none => (s.free.1 % 2 == 1, s.free.2)

/-- SYS.GPIO_IN at a read: the level of all 16 pins. -/
def State.gpioIn (s : State) : Nat × State :=
  (List.range 16).foldl (fun a n =>
    let p := a.2.pinLevel n
    (a.1 + (if p.1 then 2 ^ n else 0), p.2)) (0, s)

/-- A write of SYS.GPIOn_CFG (R62, R63). -/
def State.gpioCfgWrite (s : State) (path : Path) (n : Nat) (w : Word) : State :=
  let who := claimantOf path
  let r := Res.pin n 1
  let h := s.owner r
  if h ≠ 0 ∧ h ≠ who then s.foreignWrite r path (R.sysGpioCfg n) (w.getLsbD 0)
  else
    let s1 := s.writeRow path (R.sysGpioCfg n) Row.sysGpioCfg w false
    if w.getLsbD 0 then s1.setOwner r who
    else { s1.setOwner r 0 with sys := { s1.sys with gpioHigh := s1.sys.gpioHigh.filter (fun m => m != n) } }

/-- Pin n is an event output (MODE 3). -/
def State.eventPin (s : State) (n : Nat) : Bool :=
  s.bit (R.sysGpioCfg n) F.sysGpioCfg.EN && s.fld (R.sysGpioCfg n) F.sysGpioCfg.FUNC == 1 && s.fld (R.sysGpioCfg n) F.sysGpioCfg.MODE == 3

/-! ## Boundary scan (R65, Table 2-6) -/

/-- An instruction is in the instruction register. (DEDUCED: notes/assumptions/62.) -/
def State.jtag (s : State) (ir : BitVec 6) (pins : PinDrive) : State := { s with sys := { s.sys with jtagIr := ir, pins := pins } }

/-! ## Power domains (R71-R75, Tables 2-9, 2-10) -/

/-- The domain that a domain requires (Table 2-9). -/
def domRequires (d : Nat) : Option Nat :=
  if 1 ≤ d ∧ d ≤ 96 then some (97 + (d - 1) / 8) else if d = 130 then some 129 else none

/-- The memories of a domain, as base and length. -/
def domMemory (d : Nat) : Option (Nat × Nat) :=
  if 1 ≤ d ∧ d ≤ 96 then some (engineData (d - 1), 0x14000)
  else if 97 ≤ d ∧ d ≤ 108 then some (teamBase (d - 97), 0x80000)
  else if d = 127 then some (pageBase, 0x80000000)
  else if d = 129 then some (alignBase, 0x800000)
  else if d = 130 then some (shadingBase, 0x300000)
  else none

/-- The owning block of a domain is idle as its chapter defines (R73 cause 2). -/
def State.domIdle (s : State) (d : Nat) : Bool :=
  if 1 ≤ d ∧ d ≤ 96 then s.engState (d - 1) != 2 && s.engState (d - 1) != 3
  else if d ≤ 108 then
    !((List.range 32).any (fun i => (s.iwOn i && s.iwTeam i == d - 97) || (s.owOn i && s.owTeam i == d - 97)))
  else if d ≤ 112 then s.bankIdle (d - 109)
  else if d ≤ 116 then s.quadIdle (d - 113)
  else if d ≤ 120 then
    (List.range 4).all (fun i => !(s.bit (R.tcxLane (4 * (d - 117) + i)) F.tcxLane.ACT))
  else if d ≤ 124 then s.portState (d - 121) == Dl.disabled
  else if d = 125 then s.auxIdle
  else if d = 126 then (List.range 2).all (fun c => !(s.bit (R.wfCfg c) F.wfCfg.EN))
  else if d = 129 then (List.range 16).all (fun n => s.owner (.partition n) == 0)
  else if d = 130 then (List.range 4).all (fun g => !(s.grpBusy g))
  else if d = 131 then (List.range 4).all (fun k => s.pathState k == 0) && (List.range 8).all (fun p => s.lpIdle p)
  else if d = 132 then (List.range 4).all (fun u => !(s.bit (R.uStat u) F.uStat.WIN) && !(s.trkBusy u))
  else true

/-- The cause for which a request is refused (R73); 0 none. -/
def State.pdCause (s : State) (path : Path) (d : Nat) (on : Bool) : Nat :=
  let needs := match domRequires d with | some r => !(s.pdOn r) | none => false
  let needed := (List.range 132).any (fun i => domRequires (i + 1) == some d && (s.pdOn (i + 1) || s.sys.pdRising.contains (i + 1)))
  if on && needs then 1
  else if !on && needed then 1
  else if !on && !(s.domIdle d) then 2
  else if (d = 127 ∨ d = 128) ∧ !(path == .smbus || path == .usb2) then 3
  else 0

/-- A refused request is flagged, and the first one recorded (R73). -/
def State.pdRefuse (s : State) (path : Path) (d : Nat) (on : Bool) (cause : Nat) : State :=
  let off := (if on then R.sysPdSet else R.sysPdClr) ((d - 1) / 32)
  let s1 := if cause = 2 then s.errIdle path off else s.errAcc path off
  if s1.bit R.sysPdErr F.sysPdErr.VALID then s1
  else s1.setReg R.sysPdErr (BitVec.ofNat 32 (1 + cause * 2 + d * 2 ^ 8 + claimantOf path * 2 ^ 16))

/-- What a domain loses when it goes off, and the states that follow (Table 2-9, R167). -/
def State.domOff (s : State) (d : Nat) : State :=
  let s1 := s.setPd d false
  let s2 := match domMemory d with | some m => s1.zeroFill m.1 m.2 | none => s1
  if 1 ≤ d ∧ d ≤ 96 then
    let n := d - 1
    (((s2.setEng n {}).setFld (R.engStat n) F.engStat.STATE 0).setFld (R.engStat n) F.engStat.IMG 0).mbxRefresh n
  else if 109 ≤ d ∧ d ≤ 112 then s2.bankOff (d - 109)
  else if 121 ≤ d ∧ d ≤ 124 then s2.portFollow (d - 121)
  else if d = 126 then { s2 with wfs := [] }
  else if d = 128 then s2.linkDown
  else if d = 130 then
    s2.forEach 4 (fun g t => (t.setFld (R.grpSetv g) F.grpSetv.VA 0).setFld (R.grpSetv g) F.grpSetv.VB 0)
  else if d = 132 then { s2 with geo := { s2.geo with past := [] } }
  else s2

/-- One request for one domain (R72-R74). -/
def State.pdRequest (s : State) (path : Path) (d : Nat) (on : Bool) : State :=
  if s.sys.pdRising.contains d then { s with sys := { s.sys with pdDeferred := s.sys.pdDeferred ++ [⟨d, on, path⟩] } }
  else if s.pdOn d == on then s
  else
    let c := s.pdCause path d on
    if c ≠ 0 then s.pdRefuse path d on c
    else if on then { s with sys := { s.sys with pdRising := addSorted s.sys.pdRising d } }
    else s.domOff d

/-- A write of SYS.PD_SETm or SYS.PD_CLRm: every named domain in turn. -/
def State.pdWrite (s : State) (path : Path) (m : Nat) (w : Word) (on : Bool) : State :=
  (setBits w.toNat (if m = 4 then 4 else 32)).foldl (fun t i => t.pdRequest path (32 * m + i + 1) on) s

/-- The oldest request that waits for a transition which has completed is applied (R74). -/
def State.pdDeferredApply (s : State) : State :=
  match s.sys.pdDeferred.find? (fun r => !(s.sys.pdRising.contains r.dom)) with
  | none => s
  | some r => { s with sys := { s.sys with pdDeferred := s.sys.pdDeferred.erase r } }.pdRequest r.path r.dom r.on

/-- A domain is fully on: its memories are zero with valid check bits (R75), and its block starts from there. -/
def State.pdComplete (s : State) (d : Nat) : State :=
  if !(s.sys.pdRising.contains d) then s
  else
    let s1 := { s with sys := { s.sys with pdRising := s.sys.pdRising.filter (fun e => e != d) } }.setPd d true
    let s2 := match domMemory d with | some m => s1.zeroFill m.1 m.2 | none => s1
    if 1 ≤ d ∧ d ≤ 96 then
      ((s2.setEng (d - 1) {}).setFld (R.engStat (d - 1)) F.engStat.STATE 1).setFld (R.engStat (d - 1)) F.engStat.IMG 0
    else if 109 ≤ d ∧ d ≤ 112 then s2.bankOn (d - 109)
    else if 121 ≤ d ∧ d ≤ 124 then s2.portFollow (d - 121)
    else s2

/-! ## The main side (R475) -/

/-- A field that shows a value: set when it shows another one. -/
def State.showFld (s : State) (off : Nat) (f : Fld) (x : Nat) : State := if s.fld off f = x then s else s.setFld off f x

/-- The main side runs (R475): its rails are good, PORST_N is high, nothing holds it in reset and the PLL is locked. -/
def State.mainSideRuns (s : State) : Bool :=
  s.sys.railsBad.isEmpty && !s.sys.porstLow && !(s.bit R.hltStat F.hltStat.HOLD) &&
  (s.sys.resetting == 0 || s.sys.resetting == 4) && s.bit R.sysClkStat F.sysClkStat.PLL_LOCK

/-- HLT.STAT.MAIN_RUN and READY follow the main side (R475, Table 14-6). -/
def State.refreshMain (s : State) : State :=
  (s.showFld R.hltStat F.hltStat.MAIN_RUN (if s.mainSideRuns then 1 else 0)).showFld R.hltStat F.hltStat.READY
    (s.fld R.sysBootStat F.sysBootStat.READY)

/-- The boot straps on GPIO0-GPIO3 are sampled (R80); an open strap reads 0 (R82). -/
def State.sampleStraps (s : State) : State :=
  let v (n : Nat) : Nat := if (s.boardLevel n).getD false then 1 else 0
  ((s.setFld R.sysStrap F.sysStrap.BOOT_SRC (v 0 + 2 * v 1)).setFld R.sysStrap F.sysStrap.LINK (v 2)).setFld
    R.sysStrap F.sysStrap.SPI_1BIT (v 3)

/-- The boot enters STAGE 2, or stops after stage 1 without an image source (Table 2-14). -/
def State.bootEnter (s : State) : State :=
  if s.fld R.sysStrap F.sysStrap.BOOT_SRC = 3 then
    ({ s with sys := { s.sys with pdRising := s.sys.pdRising.filter (fun d => d != 128) } }.setFld R.sysBootStat
      F.sysBootStat.STAGE 1).setPd 128 false
  else
    let s1 := s.setFld R.sysBootStat F.sysBootStat.STAGE 2
    if s.fld R.sysStrap F.sysStrap.BOOT_SRC = 1 then s1.setFld R.secBootInfo F.secBootInfo.HOST 1 else s1

/-- The main side leaves cold reset once nothing holds it. -/
def State.mainRelease (s : State) : State :=
  if s.sys.porstLow || !s.sys.railsBad.isEmpty || s.bit R.hltStat F.hltStat.HOLD || s.hlt.pulse then s
  else (({ s with sys := { s.sys with resetting := 0 } }.setFld R.sysBootStat F.sysBootStat.STAGE 1)).refreshMain

/-! ## Registers and memories across resets (R77, R516, R519, Table 2-12) -/

/-- AON registers and sampled levels: kept by every reset but AON power-up. -/
def keptAon (off : Nat) : Bool :=
  off == R.sysRstCause || off == R.sysStrap || off == R.sysIoStat || decide (0x34000 ≤ off ∧ off < 0x38000)

/-- Registers that a clock-loss reset and a warm reset keep (R519), with the bank states of Table 4-2 and the PLL's status. -/
def keptLoss (off : Nat) : Bool :=
  keptAon off || off == R.sysClkStat || (List.range 5).any (fun m => off == R.sysPdStat m) ||
  decide (0x0C600 ≤ off ∧ off < 0x0CA00 ∧ (off % 0x100 = 0 ∨ off % 0x100 = 8 ∨ 0x40 ≤ off % 0x100)) ||
  (List.range 16).any (fun n => off == R.vafVinTrim n) ||
  (List.range 4).any (fun g => off == R.grpSett g || off == R.grpSetv g) ||
  (List.range 48).any (fun n => off == R.plAlign n) || decide (R.shdTrim0 0 ≤ off ∧ off < R.shdTrim0 384) ||
  (R.auxCalOfs 0 ≤ off && decide (off ≤ R.auxCalStat)) ||
  [R.dlfCfg, R.dlfTmo, R.dlfForm, R.dlfGuard, R.dlfRekey, R.dlfTimeCfg].contains off ||
  decide (R.dlfRwinA 0 ≤ off ∧ off < R.dlfRwinA 8) ||
  (List.range 4).any (fun k => off == R.dlCtl k || off == R.dlAsym k || off == R.dlPol k)

/-- Registers that only a warm reset keeps (R519). (DEDUCED: notes/assumptions/16.) -/
def keptWarm (off : Nat) : Bool :=
  [R.dlfStat, R.dlfEpoch, R.dlfLeadUidLo, R.dlfLeadUidHi, R.dlfTimeStat].contains off ||
  decide (R.dlfRt 0 ≤ off ∧ off < R.dlfRt 32) ||
  (List.range 4).any (fun k => [R.dlStat k, R.dlPeerLo k, R.dlPeerHi k, R.dlDelay k, R.dlCred k].contains off)

/-- Strengths of the resets (Table 2-11). -/
def rstAon : Nat := 1
def rstCold : Nat := 2
def rstLoss : Nat := 3
def rstWarm : Nat := 4

/-- A register survives a reset of a strength. -/
def keptBy (kind off : Nat) : Bool :=
  if kind = rstAon then false
  else if kind = rstCold then keptAon off
  else if kind = rstLoss then keptLoss off
  else keptLoss off || keptWarm off

/-- The registers after a reset: those it keeps, each at the value it had last put into effect (R13). -/
def State.regsKept (s : State) (kind : Nat) : Table Word :=
  (s.eff.filter (fun e => keptBy kind e.1)).foldl (fun t e => Table.set Reg.resetOf t e.1 e.2)
    (s.regs.filter (fun e => keptBy kind e.1))

/-- A memory address survives a reset of a strength (Table 2-12). -/
def State.memKept (s : State) (kind a : Nat) : Bool :=
  (decide (rstLoss ≤ kind) && s.pdOn 130 && decide (shadingBase ≤ a ∧ a < 0x1880000)) || (kind == rstWarm && decide (pageBase ≤ a))

/-- What the fabric keeps: everything but the requests of blocks that were reset and the line clock (warm), or the rate of
SYS.TIME (clock loss). -/
def Fabric.after (f : Fabric) (kind : Nat) : Fabric :=
  if kind = rstWarm then
    { f with waiting := [], remotes := [], reforms := [], pings := [], releases := [], copies := [], nextTick := 0
             seenTick := none, stitch := [], held := [], lastTick := [] }
  else if kind = rstLoss then { rate := f.rate, frac := f.frac, lockedOnce := f.lockedOnce }
  else {}

/-- A bank's registers and its state after a reset that keeps the power domains (Table 4-2). -/
def State.banksAfter (s : State) (kind : Nat) : State :=
  s.forEach 4 (fun k t =>
    let w := t.reg (R.bankStat k)
    let w1 := F.bankStat.SPUR_HIGH.put w 0
    (t.setReg (R.bankStat k) w1).bankAfterReset k (kind == rstLoss))

/-- The fabric runs on, or is rebuilt with the node's own settings (R519). -/
def State.fabricAfter (s : State) (kind : Nat) : State :=
  let s1 := if kind = rstLoss ∧ s.bit R.dlfCfg F.dlfCfg.EN then
      (s.setFld R.dlfStat F.dlfStat.STATE Dl.fAlone).forEach 4 (fun k t => t.portFollow k) else s
  (s1.setReg64 R.dlfUidLo R.dlfUidHi (natLE (s1.otpBytes 0 8))).refreshKey

/-- The main side after a reset of a strength: registers, memories and block states as Table 2-12 and R519 say. -/
def State.mainReset (s : State) (kind : Nat) : State :=
  let kept (a : Nat) : Bool := s.memKept kind a
  let sys0 : Sys := {
    time := if kind ≤ rstCold then 0 else s.sys.time
    timeStarted := decide (rstLoss ≤ kind) && s.sys.timeStarted
    resetting := s.sys.resetting, porstLow := s.sys.porstLow, railsBad := s.sys.railsBad
    poison := s.sys.poison.filter kept, bitErrs := s.sys.bitErrs.filter (fun e => kept e.1)
    gpioExt := s.sys.gpioExt, jtagIr := s.sys.jtagIr, boundary := s.sys.boundary, pins := s.sys.pins
    pdRising := if kind ≤ rstCold then [] else s.sys.pdRising, pdDeferred := if kind ≤ rstCold then [] else s.sys.pdDeferred }
  let s0 : State := {
    pending := s.pending, regs := s.regsKept kind, mem := s.mem.filter (fun e => kept e.1), hostMem := s.hostMem
    messages := s.messages, freeCount := s.freeCount, sys := sys0, hlt := s.hlt, fab := s.fab.after kind
    vaf := { banks := if kind ≤ rstCold then [] else s.vaf.banks }
    hqe := { nextId := s.hqe.nextId }, sec := { warm := decide (rstLoss ≤ kind) } }
  let s1 := if kind ≤ rstCold then s0.forEach 5 (fun m t => t.setReg (R.sysPdStat m) 0)
    else
      let link := if kind = rstWarm then s.fld R.hqeStat F.hqeStat.LINK else 0
      let t1 := (s0.forEach 48 (fun n t => t.setReg (R.plAlign n) (t.reg (R.plAlign n) &&& 0xFFFF))).setFld R.hqeStat F.hqeStat.LINK link
      (t1.forEach 96 (fun n t => if t.pdOn (n + 1) then t.setFld (R.engStat n) F.engStat.STATE 1 else t)).banksAfter kind
  ((s1.fabricAfter kind).setFld R.hltStat F.hltStat.SAVE 0).refreshMain

/-! ## The reset kinds (R76) -/

/-- A cold reset begins or merges; its cause is noted. -/
def State.coldReset (s : State) (cause : Fld) : State :=
  let s1 := s.setFld R.sysRstCause cause 1
  if s.sys.resetting = rstAon then s1
  else { s1.mainReset rstCold with sys := { (s1.mainReset rstCold).sys with resetting := rstCold } }.refreshMain

/-- A warm reset begins, or merges into the reset in progress (R76, R79). -/
def State.warmReset (s : State) (cause : Fld) : State :=
  let s1 := s.setFld R.sysRstCause cause 1
  if s.sys.resetting ≠ 0 then s1
  else
    let s2 := (s1.logEvent 7 0 0).mainReset rstWarm
    ({ s2 with sys := { s2.sys with resetting := rstWarm, warmActive := true } }).bootEnter.refreshMain

/-- A write of SYS.RST_CTL; one through the register mirror is discarded. -/
def State.rstCtlWrite (s : State) (path : Path) (w : Word) : State :=
  if isMirror path || !(w.getLsbD 0) then s else s.warmReset F.sysRstCause.WARM

/-- The default domains begin to come on (Table 2-9). -/
def State.defaultDomains (s : State) : State :=
  let s1 := [1, 97, 127, 128].foldl (fun t d => t.setPd d false) s
  { s1 with sys := { s1.sys with pdRising := [1, 97, 127, 128] } }

/-- The root PLL locks (R23, R26): the functional clocks start, and after a cold reset SYS.TIME and the boot. -/
def State.pllLocks (s : State) : State :=
  if s.bit R.sysClkStat F.sysClkStat.PLL_LOCK ∨ s.sys.resetting = rstAon ∨ s.sys.resetting = rstCold then s
  else
    let s1 := (s.setFld R.sysClkStat F.sysClkStat.PLL_LOCK 1).setFld R.sysClkStat F.sysClkStat.XTAL_OK 1
    if s.sys.resetting = rstLoss then s1
    else ({ s1 with sys := { s1.sys with timeStarted := true } }).defaultDomains.bootEnter.refreshMain

/-- Motors at their disable levels, LED outputs low (R24, R78). -/
def State.motorsOff (s : State) : State :=
  let lev := (setBits s.gait.configured 4).foldl (fun m n =>
    if s.bit (R.axisCtl n) F.axisCtl.EN_POL then m - (if m.testBit n then 2 ^ n else 0) else m ||| 2 ^ n) s.gait.enLevel
  { s with gait := { s.gait with enLevel := lev, paths := s.gait.paths.map (fun e => (e.1, { e.2 with speed := 0, target := 0, feedSpeed := 0 })) }
           tsq := { s.tsq with ls := 0 } }

/-- The root PLL loses lock (R24). -/
def State.pllLost (s : State) : State :=
  if !(s.bit R.sysClkStat F.sysClkStat.PLL_LOCK) then s
  else
    let s1 := ((s.motorsOff.setFld R.sysClkStat F.sysClkStat.PLL_LOCK 0).countFld R.sysClkStat F.sysClkStat.LOSS_CNT).setFld
      R.sysRstCause F.sysRstCause.PLL_LOSS 1
    let s2 := (s1.logEvent 5 0 (s1.fld R.sysClkStat F.sysClkStat.LOSS_CNT)).alert 4
    (if s2.sys.resetting = 0 ∨ s2.sys.resetting = rstWarm then
      { s2 with sys := { s2.sys with resetting := rstLoss, warmActive := false } } else s2).refreshMain

/-- After relock the main side restarts under the clock-loss column of Table 2-12. -/
def State.clockLossReset (s : State) : State :=
  if s.sys.resetting ≠ rstLoss ∨ !(s.bit R.sysClkStat F.sysClkStat.PLL_LOCK) then s
  else
    let s1 := s.mainReset rstLoss
    ({ s1 with sys := { s1.sys with resetting := 0 } }).bootEnter.refreshMain

/-- A halter cold reset begins, held or for 100 µs (R477); KIND 3 and KIND 1 of its log entry. -/
def State.haltReset (s : State) (hold : Bool) : State :=
  let s1 := s.logEvent 6 (if hold then 3 else 1) 0
  let s2 := if hold then s1.setFld R.hltStat F.hltStat.HOLD 1 else { s1 with hlt := { s1.hlt with pulse := true } }
  s2.coldReset F.sysRstCause.HLT_COLD

/-- The hold of a critical temperature may not end yet: some sensor still reads at or above HI (R483). -/
def State.holdLocked (s : State) : Bool :=
  s.hlt.critHold && (List.range 4).any (fun n =>
    decide (signed 16 (s.fld R.hltThr F.hltThr.HI) ≤ signed 16 (s.fld (R.hltTs n) F.hltTs.T)))

/-- A held cold reset is released; nothing without a hold. -/
def State.holdRelease (s : State) : State :=
  if s.bit R.hltStat F.hltStat.HOLD then
    ({ s.setFld R.hltStat F.hltStat.HOLD 0 with hlt := { s.hlt with critHold := false } }).sampleStraps.mainRelease
  else s

/-- HLT_WAKE follows HLT.WAKE.WAKE (R476). -/
def State.setWake (s : State) (v : Nat) : State :=
  (s.setFld R.hltWake F.hltWake.WAKE v).setFld R.hltStat F.hltStat.WAKE v

/-- WAKE with ON = 0: a held cold reset, then 100 µs (R478); `who` is the interface whose request executes. -/
def State.wakeOff (s : State) (who : Option Bool) : State :=
  let s1 := s.haltReset true
  { s1 with hlt := { s1.hlt with pulse := true, waking := some who } }

/-- WAKE with ON = 1 (R478). -/
def State.wakeOn (s : State) : State := ((s.logEvent 9 0 0).setWake 1).holdRelease

/-- VAON rises through 1.6 V (R76, R80, R491): everything is cleared but OTP and flash; PORST_N is low and the main rails are
absent until the board brings them up (R84). (DEDUCED: notes/assumptions/17.) -/
def State.aonPowerUp (s : State) (addr : Nat) : State :=
  let s0 : State := {
    pending := s.pending, hostMem := s.hostMem, messages := s.messages, freeCount := s.freeCount
    sys := { gpioExt := s.sys.gpioExt, resetting := rstAon, porstLow := true, railsBad := List.range 11 }
    hlt := { flash := s.hlt.flash, otp := s.hlt.otp } }
  let s1 := s0.mainReset rstAon
  let s2 := (s1.setFld R.sysStrap F.sysStrap.HLT_ADDR addr).setFld R.hltCfg F.hltCfg.PEC_REQ
    (if (s1.otpByte 0x48).getLsbD 1 then 1 else 0)
  s2.refreshMain

/-- PORST_N is low for `ns` nanoseconds (R534): a pulse of 1 to 10 µs may or may not reset. -/
def State.porstAssert (s : State) (ns : Nat) : State :=
  let go (t : State) : State := { t.coldReset F.sysRstCause.PORST with
    sys := { (t.coldReset F.sysRstCause.PORST).sys with porstLow := true } }.refreshMain
  if ns < 1000 then s
  else if 10000 ≤ ns then go s
  else if s.free.1 % 2 = 1 then go s.free.2 else s.free.2

/-- PORST_N rises: the boot straps are sampled and the main side leaves reset if nothing else holds it (R80). -/
def State.porstDeassert (s : State) : State := ({ s with sys := { s.sys with porstLow := false } }).sampleStraps.mainRelease

/-- A main rail leaves its limits (R69, R481). -/
def State.railTrip (s : State) (rail mv : Nat) : State :=
  let s1 := (s.logEvent 4 rail mv).alert 3
  let s2 := { s1 with sys := { s1.sys with railsBad := addSorted s1.sys.railsBad rail } }
  s2.coldReset F.sysRstCause.UV_MAIN

/-- Every main rail has been within its limits for 2 ms; each I/O bank's level is detected (R60, R69). -/
def State.railsGood (s : State) (banks : Nat) : State :=
  (({ s with sys := { s.sys with railsBad := [] } }).setReg R.sysIoStat (BitVec.ofNat 32 banks)).mainRelease

/-- A PCIe configuration request (R85): retried until READY, or until STAGE 2 where the host is the boot source. -/
def State.configRequest (s : State) : State :=
  let host := (s.fld R.sysStrap F.sysStrap.BOOT_SRC == 1 ||
    (s.fld R.sysStrap F.sysStrap.BOOT_SRC == 2 && s.bit R.secBootInfo F.secBootInfo.HOST)) && decide (2 ≤ s.fld R.sysBootStat F.sysBootStat.STAGE)
  let ok := s.bit R.sysBootStat F.sysBootStat.READY || host
  { s with hqe := { s.hqe with cfgRetry := some (!ok) } }

end Sys2Proof.Machine
end

