-- ==== Sys2Proof/Machine/RegWrite.lean ====
section
/-!
DEFINITION. Sys2Proof/Machine/RegWrite.lean: register accesses by BAR0 offset on every access path: the BAR map (R516-R518),
the access codes (R6-R17), the owners of Idle only fields (R540 and the chapters), the effects of a write that go beyond
its fields, and the memory windows (R187, R332).
-/
namespace Sys2Proof.Machine

/-- Number of the register at `off` in an array of `n` from `base`; none outside it. -/
def slotIn (base stride n off : Nat) : Option Nat :=
  if base ≤ off ∧ (off - base) % stride = 0 ∧ (off - base) / stride < n then some ((off - base) / stride) else none

/-- The two numbers of a register in an array of arrays. -/
def slotIn2 (base stride n stride2 n2 off : Nat) : Option (Nat × Nat) :=
  if base ≤ off ∧ (off - base) / stride < n then
    (slotIn 0 stride2 n2 ((off - base) % stride)).map (fun j => ((off - base) / stride, j))
  else none

/-- A write with no effect beyond its fields; an unlisted offset ignores it (R8). -/
def State.plainWrite (s : State) (path : Path) (off : Nat) (w : Word) (busy : Bool) : State :=
  match Reg.rowOf off with
  | some row => s.writeRow path off row w busy
  | none => s

/-! ## Writes by block -/

/-- SYS: pin claims, power requests, resets; a partition is idle while it is free (Table 1-13); PASS_H = 0 acts as 1. -/
def State.writeSys (s : State) (path : Path) (off : Nat) (w : Word) : State :=
  match slotIn (R.sysGpioCfg 0) 4 16 off, slotIn (R.sysPdSet 0) 4 5 off, slotIn (R.sysPdClr 0) 4 5 off, slotIn (R.sysAbpCfg 0) 4 16 off with
  | some n, _, _, _ => s.gpioCfgWrite path n w
  | _, some m, _, _ => s.pdWrite path m w true
  | _, _, some m, _ => s.pdWrite path m w false
  | _, _, _, some n => s.plainWrite path off w (s.owner (.partition n) != 0)
  | none, none, none, none =>
    if off = R.sysRstCtl then s.rstCtlWrite path w
    else
      let s1 := s.plainWrite path off w false
      if off = R.sysScrubCtl ∧ s1.fld off F.sysScrubCtl.PASS_H = 0 then s1.setFld off F.sysScrubCtl.PASS_H 1 else s1

/-- EVM: software events; the registers of a claimed timer answer only to its holder (R51). -/
def State.writeEvm (s : State) (path : Path) (off : Nat) (w : Word) : State :=
  if off = R.evmSwEv then (setBits w.toNat 8).foldl (fun t k => t.fire (248 + k)) s
  else match slotIn2 (R.etimCtl 0) 0x20 32 4 8 off with
  | some (n, 0) => s.etimCtlWrite path n w
  | some (n, _) =>
    if s.owner (.timer n) ≠ 0 ∧ s.owner (.timer n) ≠ claimantOf path then s.foreignWrite (.timer n) path off false
    else s.plainWrite path off w (s.etimRun n)
  | none => s.plainWrite path off w false

/-- TSQ: a line program owns its registers, the whole sequencer the pattern tables and the microcode (R87). -/
def State.writeTsq (s : State) (path : Path) (off : Nat) (w : Word) : State :=
  match slotIn2 (R.lpCfg 0) 0x80 8 4 32 off with
  | some (p, j) =>
    if j = 0 then s.lpCfgWrite path p w
    else if off = R.lpPitch p then s.lpPitchWrite path p w
    else match slotIn (R.lpPhCfg p 0) 8 6 off with
    | some k => s.lpPhCfgWrite path p k w
    | none => s.plainWrite path off w (!(s.lpIdle p))
  | none => s.plainWrite path off w (!((List.range 8).all (fun p => s.lpIdle p)))

/-- VAF: an input owns its settings, its tag map and the segments that name it (R118); a bank its corrections (R134).
(DEDUCED: notes/assumptions/12.) -/
def State.writeVaf (s : State) (path : Path) (off : Nat) (w : Word) : State :=
  let byInput (n : Nat) : State := s.plainWrite path off w (s.inputHeld n)
  let bySeg (i : Nat) : State :=
    let before := s.inputHeld (s.fld (R.vafSegCfg i) F.vafSegCfg.VIN)
    if off = R.vafSegCfg i then
      s.writeOwned path off Row.vafSegCfg w F.vafSegCfg.VIN before (s.inputHeld (F.vafSegCfg.VIN.get w))
    else s.plainWrite path off w before
  if off = R.vafCtl then s.bgEnWrite path w
  else if off = R.vafFgcal then s.fgcalWrite path w
  else if off = R.vafXbar then s.xbarWrite path w
  else if off = R.vafVfStuck ∨ off = R.vafVfRail then
    let s1 := s.plainWrite path off w false
    s1.setFld R.vafStat F.vafStat.VF (if s1.reg R.vafVfStuck ||| s1.reg R.vafVfRail = 0 then 0 else 1)
  else match slotIn (R.vafVinCfg 0) 4 16 off, slotIn (R.vafVinTrim 0) 4 16 off, slotIn (R.vafPmapLo 0) 4 32 off,
      slotIn (R.vafSegCfg 0) 4 128 off, slotIn2 (R.bankStat 0) 0x100 4 4 64 off with
  | some n, _, _, _, _ => byInput n
  | _, some n, _, _, _ => byInput n
  | _, _, some m, _, _ => byInput (m / 2)
  | _, _, _, some m, _ => bySeg (m / 2)
  | _, _, _, _, some (k, _) =>
    if off = R.bankCal k then s.bankCalWrite path k w
    else
      let s1 := s.plainWrite path off w (!(s.bankIdle k))
      if off = R.bankSpur k then
        let est := s1.fld off F.bankSpur.EST
        if s1.bankState k = 0 ∨ est = 0 then s1
        else s1.setFld (R.bankStat k) F.bankStat.SPUR_HIGH (if est < s1.fld off F.bankSpur.LIM then 1 else 0)
      else s1
  | none, none, none, none, none => s.plainWrite path off w false

/-- With no strip selector, a pending Next document value of a group takes effect at once while its program is idle (R169).
(DEDUCED: notes/assumptions/29.) -/
def State.docAtOnce (s : State) (g off : Nat) : State :=
  if !(s.selOn (R.grpStripSel g)) && s.lpIdle (s.fld (R.grpCtl g) F.grpCtl.LP) then s.commit [off] else s

/-- SHD: a group owns its registers and its planes' (R155). A trim entry belongs to the group whose enabled plane it maps to, and
takes its value at once where there is none (R169). A page above 23 reads 0 (Table 5-8). -/
def State.writeShd (s : State) (path : Path) (off : Nat) (w : Word) : State :=
  if off = R.shdRecCtl then s.recCtlWrite path w
  else if off = R.shdCwin then
    let s1 := s.plainWrite path off w false
    if 23 < s1.fld off F.shdCwin.PAGE then s1.setFld off F.shdCwin.PAGE 0 else s1
  else match slotIn2 (R.grpCtl 0) 0x40 4 4 16 off, slotIn2 (R.plCfg 0) 0x10 48 4 4 off, slotIn (R.shdTrim0 0) 4 768 off with
  | some (g, 0), _, _ => s.grpCtlWrite path g w
  | some (g, _), _, _ => (s.plainWrite path off w (s.grpBusy g)).docAtOnce g off
  | _, some (n, 0), _ =>
    let s1 := s.plCfgWrite path n w
    s1.docAtOnce (s1.fld (R.plCfg n) F.plCfg.GRP) off
  | _, some (n, _), _ =>
    let g := s.fld (R.plCfg n) F.plCfg.GRP
    (s.plainWrite path off w (s.grpBusy g)).docAtOnce g off
  | _, _, some m =>
    let s1 := s.plainWrite path off w false
    match (List.range 4).find? (fun g => s1.bit (R.grpCtl g) F.grpCtl.EN &&
        (match s1.trimPlane (m / 2) with | some n => s1.planeIn n g | none => false)) with
    | some g => s1.docAtOnce g off
    | none => s1.commit [off]
  | none, none, none => s.plainWrite path off w false

/-- GEO: a unit is idle while no window is open, a track while none of its units has one and its slots are free (R195). -/
def State.writeGeo (s : State) (path : Path) (off : Nat) (w : Word) : State :=
  match slotIn2 (R.uCfg 0) 0x40 4 4 16 off, slotIn2 (R.trkCfg 0) 0x20 4 4 8 off with
  | some (u, 0), _ => s.uCfgWrite path u w
  | some (u, _), _ => s.plainWrite path off w (s.bit (R.uStat u) F.uStat.WIN)
  | _, some (t, j) =>
    if j = 0 then s.trkCfgWrite path t w
    else if off = R.trkClose t then s.trkCloseWrite t w
    else s.plainWrite path off w (s.trkBusy t)
  | none, none => s.plainWrite path off w false

/-- GAIT: axes, encoders, paths and seams own their registers (Transport, Gaits and Seam-Free Resume). -/
def State.writeGait (s : State) (path : Path) (off : Nat) (w : Word) : State :=
  if off = R.gaitPsPol then (s.plainWrite path off w false).refreshPs
  else match slotIn2 (R.axisCtl 0) 0x20 4 4 8 off, slotIn2 (R.encCfg 0) 0x20 2 4 8 off, slotIn2 (R.pathCfg 0) 0x100 4 4 64 off,
      slotIn2 (R.seamCfg 0) 0x20 4 4 8 off with
  | some (n, 0), _, _, _ => s.axisCtlWrite path n w
  | some (n, _), _, _, _ => s.plainWrite path off w (!(s.axisIdle n))
  | _, some (e, 0), _, _ => s.encCfgWrite path e w (s.enc e).a (s.enc e).b
  | _, some (e, _), _, _ => s.plainWrite path off w (!(s.encIdle e))
  | _, _, some (k, j), _ =>
    if j = 0 then s.pathCfgWrite path k w
    else if off = R.pathCmd k then s.pathCmd k (F.pathCmd.CMD.get w) (F.pathCmd.GAIT.get w)
    else if off = R.pathPolicy k ∨ off = R.pathOccthr k ∨ (slotIn (R.pathGthr k 1) 4 7 off).isSome then
      match Reg.rowOf off with
      | some row => s.pathPolicyWrite path k off row w
      | none => s
    else match slotIn (R.pathGspd k 1) 4 7 off with
    | some g => s.gspdWrite path k (g + 1) w
    | none => s.plainWrite path off w (!(s.pathIdle k))
  | _, _, _, some (g, j) =>
    let before := s.fld (R.seamCfg g) F.seamCfg.PATH
    let after := if j = 0 then F.seamCfg.PATH.get w else before
    s.plainWrite path off w (!(s.pathIdle before) || !(s.pathIdle after))
  | none, none, none, none => s.plainWrite path off w false

/-- AUX: the converter path owns its Idle only fields, a waveform channel its own (R252). -/
def State.writeAux (s : State) (path : Path) (off : Nat) (w : Word) : State :=
  if off = R.auxRegCtl then s.auxCtlWrite path false w
  else if off = R.auxInjCtl then s.auxCtlWrite path true w
  else if off = R.auxCalCtl then s.auxCalWrite path w
  else match slotIn (R.auxExcCfg 0) 4 4 off, slotIn2 (R.wfCfg 0) 0x40 2 4 16 off, slotIn2 (auxEntryReg false 0 0) 0x10 32 4 4 off,
      slotIn2 (auxEntryReg true 0 0) 0x10 8 4 4 off with
  | some _, _, _, _ => (s.plainWrite path off w (!s.auxIdle)).refreshExc
  | _, some (c, 0), _, _ => s.wfCfgWrite path c w
  | _, some (c, _), _, _ => s.plainWrite path off w (s.bit (R.wfCfg c) F.wfCfg.EN)
  | _, _, some (e, i), _ => s.auxEntryWrite path false e i w
  | _, _, _, some (e, i) => s.auxEntryWrite path true e i w
  | none, none, none, none => s.plainWrite path off w (!s.auxIdle)

/-- The commands of En_CTL (Table 10-2). STEP runs one instruction from the present PC. -/
def State.engStepCmd (s : State) (n : Nat) : State :=
  if s.engState n = 1 ∧ s.bit (R.engStat n) F.engStat.IMG then
    (s.setFld (R.engStat n) F.engStat.STATE 2).setEng n { s.eng n with step := true }
  else s.engIgnored n

/-- Engine 0 is controlled only by the halter port: other writes are discarded with ACC (R361). -/
def State.engGuard (s : State) (path : Path) (n off : Nat) (f : State → State) : State :=
  if n = 0 ∧ path ≠ .smbus ∧ path ≠ .usb2 then s.errAcc path off else f s

/-- START; E0 started again begins at the service loop (R513). -/
def State.engStartCmd (s : State) (n : Nat) : State :=
  let t := s.engStart n
  if n = 0 ∧ s.engState 0 = 1 ∧ t.engState 0 = 2 then
    { t with sec := { t.sec with loop := true, boot := false, script := none } }
  else t

/-- A write of En_CTL. -/
def State.engCtlWrite (s : State) (path : Path) (n : Nat) (w : Word) : State :=
  s.engGuard path n (R.engCtl n) (fun s =>
    match F.engCtl.CMD.get w with
    | 1 => s.engStartCmd n
    | 2 => s.engHaltCmd n
    | 3 => s.engStepCmd n
    | _ => s)

/-- A write of En_START: the engine is idle while it is OFF, HALTED or in FAULT (R326). -/
def State.engStartWrite (s : State) (path : Path) (n : Nat) (w : Word) : State :=
  s.engGuard path n (R.engStart n) (fun s =>
    s.plainWrite path (R.engStart n) w (s.engState n == 2 || s.engState n == 3))

/-- PACK: windows, engines; a TEAM above 11 or an ENG above 95 reads 0 (R332). -/
def State.writePack (s : State) (path : Path) (off : Nat) (w : Word) : State :=
  if off = R.packMwin then
    let s1 := s.plainWrite path off w false
    let s2 := if 11 < s1.fld off F.packMwin.TEAM then s1.setFld off F.packMwin.TEAM 0 else s1
    if 95 < s2.fld off F.packMwin.ENG then s2.setFld off F.packMwin.ENG 0 else s2
  else match slotIn2 (R.iwCfg 0) 0x20 32 4 8 off, slotIn2 (R.owCfg 0) 0x20 32 4 8 off, slotIn2 (R.engCtl 0) 0x40 96 4 16 off with
  | some (i, 0), _, _ => s.iwCfgWrite path i w
  | some (i, _), _, _ => s.plainWrite path off w (s.iwOn i)
  | _, some (j, 0), _ => s.owCfgWrite path j w
  | _, some (j, _), _ => s.plainWrite path off w (s.owOn j)
  | _, _, some (n, i) =>
    if i = 0 then s.engCtlWrite path n w
    else if i = 1 then s.engStartWrite path n w
    else if off = R.engInbox n then s.inboxWrite path n w
    else match slotIn (R.engEcsel n 0) 4 4 off with
    | some c => s.catcherSelect n c w
    | none => s.plainWrite path off w false
  | none, none, none => s.plainWrite path off w false

/-- HQE: the admin queue owns its registers; the spill fields are idle while no stream is open (Table 11-12). -/
def State.writeHqe (s : State) (path : Path) (off : Nat) (w : Word) : State :=
  if off = R.hqeAqCfg then s.aqCfgWrite path w
  else if R.hqeAqSqLo ≤ off ∧ off < R.hqeAqCfg then s.plainWrite path off w (s.bit R.hqeAqCfg F.hqeAqCfg.EN)
  else if R.hqeSpillBaseLo ≤ off ∧ off ≤ R.hqeSpillSize then (s.plainWrite path off w (!s.openStreams.isEmpty)).refreshFree
  else match slotIn (R.hqeMsixCtrl 0) 0x10 256 off with
  | some v => s.msixWrite path v w
  | none => s.plainWrite path off w false

/-- IDMA: a ring channel is idle in IDLE and HALTED (R411), a compatibility channel while EN = 0. -/
def State.writeIdma (s : State) (path : Path) (off : Nat) (w : Word) : State :=
  match slotIn2 (R.chCtl 0) 0x40 32 4 16 off, slotIn2 (R.ccSar 0) 0x20 8 4 8 off with
  | some (n, j), _ =>
    if j = 0 then s.chCtlWrite path n w
    else if off = R.chPaceSel n then s.chPaceSelWrite path n w
    else s.plainWrite path off w (!(s.chState n == Ch.idle || s.chState n == Ch.halted))
  | _, some (n, _) =>
    if off = R.ccCcr n then s.ccCcrWrite path n w
    else if off = R.ccTrigSel n then s.ccTrigSelWrite path n w
    else if off = R.ccCsr n then s.ccCsrWrite path n w
    else s.plainWrite path off w (s.bit (R.ccCcr n) F.ccCcr.EN)
  | none, none => s.plainWrite path off w false

/-- DLF: the fabric, its ports, the line clock and the stitch channels. -/
def State.writeDlf (s : State) (path : Path) (off : Nat) (w : Word) : State :=
  if off = R.dlfCfg then s.dlfCfgWrite path w
  else if off = R.dlfLcCfg then s.lcCfgWrite path w
  else match slotIn (R.dlCtl 0) 0x40 4 off, slotIn2 (R.stCfg 0) 0x20 16 4 8 off with
  | some k, _ => s.dlCtlWrite path k w
  | _, some (c, 0) => s.stCfgWrite path c w
  | _, some (c, _) => s.plainWrite path off w (s.bit (R.stCfg c) F.stCfg.EN)
  | none, none => s.plainWrite path off w false

/-- HLT_ALERT_N after a change of HLT.ALERT or ALERT_EN: released when no enabled bit is set, asserted when a bit that was set
becomes enabled (R470). -/
def State.alertFollow (s : State) (was : Word) : State :=
  let now := s.reg R.hltAlert &&& s.reg R.hltAlertEn
  if now = 0 then { s with hlt := { s.hlt with alertN := false } }
  else if now &&& ~~~was = 0 then s
  else { s with hlt := { s.hlt with alertN := true } }

/-- HLT, which only the halter port writes; a write of HLT.WAKE acts as the WAKE command (Table 14-6). -/
def State.writeHlt (s : State) (path : Path) (off : Nat) (w : Word) : State :=
  if !(path == .smbus || path == .usb2) then s.errAcc path off
  else if off = R.hltWake then
    if w.getLsbD 0 then (if s.holdLocked then s else s.wakeOn) else s.wakeOff none
  else if off = R.hltAlert ∨ off = R.hltAlertEn then
    (s.plainWrite path off w false).alertFollow (s.reg R.hltAlert &&& s.reg R.hltAlertEn)
  else s.plainWrite path off w false

/-! ## Memory windows (R187, R332) -/

/-- What a BAR0 offset from 0x4_0000 on shows: a memory address, or nothing (Tables 10-5 and 16-1). -/
def State.windowAddr (s : State) (off : Nat) : Option Nat :=
  if 0x40000 ≤ off ∧ off < 0xC0000 then some (teamBase (s.fld R.packMwin F.packMwin.TEAM) + (off - 0x40000))
  else if 0xC0000 ≤ off ∧ off < 0xD0000 then some (engineData (s.fld R.packMwin F.packMwin.ENG) + (off - 0xC0000))
  else if 0xD0000 ≤ off ∧ off < 0xD4000 then some (engineInstr (s.fld R.packMwin F.packMwin.ENG) + (off - 0xD0000))
  else if 0xE0000 ≤ off ∧ off < 0x100000 then some (shadingBase + s.fld R.shdCwin F.shdCwin.PAGE * 0x20000 + (off - 0xE0000))
  else none

/-- A BAR0 offset that belongs to no block and no memory (R517). -/
def unmappedBar (off : Nat) : Bool := decide ((0x3C000 ≤ off ∧ off < 0x40000) ∨ (0xD4000 ≤ off ∧ off < 0xE0000))

/-- A write through a memory window; the instruction window is read-only. -/
def State.windowWrite (s : State) (path : Path) (off : Nat) (w : Word) : State :=
  if 0xE0000 ≤ off then s.shadeWindow path (off - 0xE0000) w
  else if 0xD0000 ≤ off then s.errAcc path off
  else match s.windowAddr off with
  | some a => if s.memOk a then s.memWrite a (bytesLE 4 w.toNat) else s
  | none => s

/-! ## Accesses -/

/-- BAR0 is closed to this access by a warm reset (R79). -/
def State.warmClosed (s : State) (path : Path) (off : Nat) : Bool :=
  path == .bar0 && s.sys.warmActive && off != R.sysBootStat && !(s.accessible path off)

/-- A write of a 32-bit value at a BAR0 offset through a path. (DEDUCED: notes/assumptions/10.) -/
def State.regWrite (s : State) (path : Path) (off : Nat) (w : Word) : State :=
  if (path == .bar0 && !(s.accessible path off) && s.sys.warmActive) || (isMirror path && decide (0x3C000 ≤ off)) ||
      decide (0x100000 ≤ off) then s
  else if unmappedBar off then s.errAcc path off
  else if 0x40000 ≤ off then s.windowWrite path off w
  else match off / 0x4000 with
  | 0 => s.writeSys path off w
  | 1 => s.writeEvm path off w
  | 2 => s.writeTsq path off w
  | 3 => s.writeVaf path off w
  | 4 => s.writeShd path off w
  | 5 => s.writeGeo path off w
  | 6 => s.writeGait path off w
  | 7 => s.writeAux path off w
  | 8 => s.plainWrite path off w false
  | 9 => s.writePack path off w
  | 10 => s.writeHqe path off w
  | 11 => s.writeIdma path off w
  | 12 => s.writeDlf path off w
  | 13 => s.writeHlt path off w
  | _ => s.plainWrite path off w false

/-- The values wider than one access (R14): first offset, stride, number, and parts of four bytes. The MSI-X table follows the PCIe
format, whose dwords are read one by one (R380). -/
def wideSpans : List (Nat × Nat × Nat × Nat) :=
  [(R.sysTimeLo, 8, 1, 2), (R.sysEccAddrLo, 8, 1, 2), (R.lpNextLo 0, 0x80, 8, 2), (R.lpLastLo 0, 0x80, 8, 2),
   (R.axisPosLo 0, 0x20, 4, 2), (R.encPosLo 0, 0x20, 2, 2), (R.encZposLo 0, 0x20, 2, 2), (R.pathLastLo 0, 0x100, 4, 2)] ++
  [(R.auxRegSlotValue 0, 0x10, 32, 4), (R.auxInjSlotValue 0, 0x10, 8, 4), (R.wfBaseLo 0, 0x40, 2, 2), (R.wfPos0Lo 0, 0x40, 2, 2),
   (R.tcxDerrOfsLo, 8, 1, 2), (R.engFaddrLo 0, 0x40, 96, 2), (R.hqeAqSqLo, 8, 2, 2), (R.hqeSpillBaseLo, 8, 1, 2)] ++
  [(R.hqeErrAddrLo, 8, 1, 2), (R.idmaErrAddrLo, 8, 1, 2), (R.chDescLo 0, 0x40, 32, 2),
   (R.chSrcLo 0, 0x40, 32, 2), (R.chDstLo 0, 0x40, 32, 2), (R.chFaddrLo 0, 0x40, 32, 2), (R.dlfUidLo, 8, 2, 2)] ++
  [(R.dlPeerLo 0, 0x40, 4, 2), (R.secStAddrLo, 8, 1, 2)]

/-- The part of a wide value that an offset holds, and how many parts the value has; none outside wide values. -/
def widePart (off : Nat) : Option (Nat × Nat) :=
  (wideSpans.find? (fun (b, st, n, m) => decide (b ≤ off ∧ (off - b) / st < n ∧ (off - b) % st < 4 * m))).map
    (fun (b, st, _, m) => ((off - b) % st / 4, m))

/-- The register at an offset as a read shows it now: the counter, HLT.STAT's copies, and write-only fields as 0. -/
def State.shown (s : State) (off : Nat) : Word :=
  if off = R.sysTimeLo then s.sys.time.setWidth 32
  else if off = R.sysTimeHi then (s.sys.time >>> 32).setWidth 32
  else if off = R.hltStat then
    F.hltStat.READY.put (F.hltStat.ALERT.put (F.hltStat.FL_BUSY.put (s.reg off) (s.fld R.hltFlStat F.hltFlStat.BUSY))
      (if s.hlt.alertN then 1 else 0)) (s.fld R.sysBootStat F.sysBootStat.READY)
  else match Reg.rowOf off with
  | some row => s.reg off &&& ~~~(BitVec.ofNat 32 row.wo)
  | none => 0

/-- What a shadow holds before its first low read: the reset value of the part (R516). -/
def shadowReset (key : Nat) : Word := Reg.resetOf (key % 2 ^ 20)

/-- The shadow of a path at an offset (R15, R16). (DEDUCED: notes/assumptions/7.) -/
def State.shadow (s : State) (path : Path) (off : Nat) : Word := Table.get shadowReset s.shadows (shadowIndex path * 2 ^ 20 + off)

/-- The higher parts of the value whose least significant part is at `off` enter the path's shadow. -/
def State.latchShadow (s : State) (path : Path) (off parts : Nat) : State :=
  (List.range parts).foldl (fun t i =>
    if i = 0 then t
    else { t with shadows := Table.set shadowReset t.shadows (shadowIndex path * 2 ^ 20 + off + 4 * i) (s.shown (off + 4 * i)) }) s

/-- A read of a register: its value, with the effects of the read (R10, R15). -/
def State.regShow (s : State) (path : Path) (off : Nat) : Word × State :=
  if off = R.sysGpioIn then
    let r := s.gpioIn
    (BitVec.ofNat 32 r.1, r.2)
  else match slotIn (R.engOutbox 0) 0x40 96 off with
  | some n =>
    match (s.eng n).outbox with
    | [] => (0, s)
    | x :: r => (x, (s.setEng n { s.eng n with outbox := r }).mbxRefresh n)
  | none =>
    match widePart off with
    | some (0, m) => (s.shown off, s.latchShadow path off m)
    | some _ => (s.shadow path off, s)
    | none =>
      match Reg.rowOf off with
      | some row => (s.shown off, if row.rc = 0 then s else s.setReg off (s.reg off &&& ~~~(BitVec.ofNat 32 row.rc)))
      | none => (0, s)

/-- A read through a memory window: 0 from a memory that is off (R75), and from a poisoned word (R35). -/
def State.windowRead (s : State) (off : Nat) : Word × State :=
  match s.windowAddr off with
  | some a =>
    if s.memOk a then
      let s1 := s.memRead a 4
      (if s1.anyPoison a 4 then 0 else s1.word a, s1)
    else (0, s)
  | none => (0, s)

/-- A 32-bit read at a BAR0 offset through a path. (DEDUCED: notes/assumptions/8.) -/
def State.regRead (s : State) (path : Path) (off : Nat) : Word × State :=
  if s.warmClosed path off || (isMirror path && decide (0x3C000 ≤ off)) || decide (0x100000 ≤ off) then (0, s)
  else if unmappedBar off then (0, s.errAcc path off)
  else if 0x40000 ≤ off then s.windowRead off
  else s.regShow path off

/-- A read of `size` bytes as its requester sees it: a narrow or unaligned one returns 0 with ACC (R7). -/
def State.readAccess (s : State) (path : Path) (off size : Nat) : State :=
  let r := if (size ≠ 4 ∨ off % 4 ≠ 0) ∧ !(s.warmClosed path off) ∧ !(isMirror path && decide (0x3C000 ≤ off)) then
      ((0 : Word), s.errAcc path off)
    else s.regRead path off
  { r.2 with rdata := r.1 }

/-- A write of `size` bytes: a narrow or unaligned one is discarded with ACC (R7). -/
def State.writeAccess (s : State) (path : Path) (off size : Nat) (w : Word) : State :=
  if (size ≠ 4 ∨ off % 4 ≠ 0) ∧ !(path == .bar0 && !(s.accessible path off) && s.sys.warmActive) ∧
      !(isMirror path && decide (0x3C000 ≤ off)) then s.errAcc path off
  else s.regWrite path off w

end Sys2Proof.Machine
end

