-- ==== Sys2Proof/Machine/Bus.lean ====
section
/-!
DEFINITION. Sys2Proof/Machine/Bus.lean: accesses of engines and IDMA channels over the internal 40-bit address space (R27-R30,
R518): memories, the register mirror and the fabric remote window; FLD and FST (R330).
-/
namespace Sys2Proof.Machine

/-- What an access answers: it is done, it goes to another node's page store, or it ends with an error response (R28). -/
inductive BusRes where
  | done (s : State) (data : List (Byte × Bool))
  | remote (node off : Nat)
  | error

/-- Where an address leads (Table 1-4, R29). -/
inductive Target where
  | memory (a : Nat)
  | mirror (off : Nat)
  | remote (node off : Nat)
  | none
  deriving DecidableEq, Repr

/-- The target of an access of `n` bytes; a range that leaves its target is unmapped. -/
def State.target (s : State) (a n : Nat) : Target :=
  let node := a / 2 ^ 31 % 256
  if 0x40000000 ≤ a ∧ a + n ≤ 0x4003C000 then .mirror (a - 0x40000000)
  else if 0x8000000000 ≤ a ∧ a < 2 ^ 40 then
    if node = 0 ∨ node = 255 then .none
    else if node = s.nodeId then
      (if s.memOk (pageBase + a % 2 ^ 31) && s.memOk (pageBase + a % 2 ^ 31 + (n - 1)) then .memory (pageBase + a % 2 ^ 31) else .none)
    else .remote node (a % 2 ^ 31)
  else if s.memOk a && s.memOk (a + (n - 1)) then .memory a
  else .none

/-- A read of `n` bytes at an internal address; each byte with the poison of its word (R35). -/
def State.busRead (s : State) (path : Path) (a n : Nat) : BusRes :=
  match s.target a n with
  | .memory m =>
    let s1 := s.memRead m n
    .done s1 ((List.range n).map (fun i => (s1.byte (m + i), s1.poisoned (m + i))))
  | .mirror off =>
    let s1 := s.readAccess path off n
    .done s1 ((bytesLE n s1.rdata.toNat).map (fun b => (b, false)))
  | .remote node off => .remote node off
  | .none => .error

/-- A write of bytes at an internal address; a poisoned byte poisons the words written. -/
def State.busWrite (s : State) (path : Path) (a : Nat) (data : List (Byte × Bool)) : BusRes :=
  let l := data.map (fun b => b.1)
  match s.target a l.length with
  | .memory m => .done (if data.any (fun b => b.2) then s.memWritePoison m l else s.memWrite m l) []
  | .mirror off => .done (s.writeAccess path off l.length (BitVec.ofNat 32 (natLE l))) []
  | .remote node off => .remote node off
  | .none => .error

/-- A requester gives up its remote access; a later response is late (R449). -/
def State.remoteDrop (s : State) (who : Requester) : State :=
  { s with fab := { s.fab with
    waiting := s.fab.waiting.filter (fun r => r.who != who), remotes := s.fab.remotes.filter (fun r => r.who != who) } }

/-! ## FLD and FST (R330) -/

/-- FLD: from another node's page store it waits for the response. (DEDUCED: notes/assumptions/39.) -/
def engFld (n : Fin 96) (w : Word) (s : State) : EngRes :=
  let e := s.eng n.val
  let a := farAddr n.val w s
  if e.pS (fRa w) then .fault 5 none
  else match s.busRead (.engine n) a 4 with
  | .done t data =>
    engNext (t.setEng n.val ((t.eng n.val).setS (fRd w) (BitVec.ofNat 32 (natLE (data.map (fun b => b.1)))) (data.any (fun b => b.2))))
      (t.engPc n.val)
  | .remote node off =>
    .wait ((s.setEng n.val { e with far := e.far ++ [⟨a, true, fRd w⟩] }).remoteAsk
      { who := .engine n.val, node := node, off := off, len := 4, write := false }) 7
  | .error => .fault 4 (some a)

/-- FST: to another node's page store it goes on at once, and the access stays unanswered (R331). A store that halts its own engine
completes first (R323). -/
def engFst (n : Fin 96) (w : Word) (s : State) : EngRes :=
  let e := s.eng n.val
  let a := farAddr n.val w s
  let data := (bytesLE 4 (e.sr (fRd w)).toNat).map (fun b => (b, e.pS (fRd w)))
  if e.pS (fRa w) then .fault 5 none
  else match s.busWrite (.engine n) a data with
  | .done t _ => if t.engState n.val = 2 then engNext t (s.engPc n.val) else .halt t
  | .remote node off =>
    engNext ((s.setEng n.val { e with far := e.far ++ [⟨a, false, s.engPc n.val⟩] }).remoteAsk
      { who := .engine n.val, node := node, off := off, len := 4, write := true, data := data }) (s.engPc n.val)
  | .error => .fault 4 (some a)

/-- The address of a remote access as its requester formed it. -/
def Remote.addr (r : Remote) : Nat := 2 ^ 39 + r.node * 2 ^ 31 + r.off

/-- A far access of engine n is answered: a load completes its instruction, an error response is a BUS fault (Table 10-3). -/
def State.farDone (s : State) (n : Nat) (r : Remote) (status : Nat) (data : List (Byte × Bool)) : State :=
  let e := s.eng n
  match e.far.find? (fun f => f.addr == r.addr && f.load == !r.write) with
  | none => s
  | some f =>
    let s1 := s.setEng n { e with far := e.far.erase f }
    let good := status = 0 ∨ status = St.eccUncorrectable
    if !good then s1.engFaultAt n (if f.load then s1.engPc n else f.reg) 4 (some f.addr)
    else if !f.load then s1
    else
      let v := BitVec.ofNat 32 (natLE (data.map (fun b => b.1)))
      s1.engSettle n (s1.engPc n) (engNext (s1.setEng n ((s1.eng n).setS f.reg v (data.any (fun b => b.2)))) (s1.engPc n))

/-- The oldest unanswered far access of engine n has had no response for 64 µs. -/
def State.farTimeout (s : State) (n : Nat) : State :=
  match (s.eng n).far with
  | [] => s
  | f :: rest =>
    let s1 := (s.setEng n { s.eng n with far := rest }).remoteDrop (.engine n)
    s1.engFaultAt n (if f.load then s1.engPc n else f.reg) 4 (some f.addr)

end Sys2Proof.Machine
end

