-- ==== Sys2Proof/Machine/IdmaMove.lean ====
section
/-!
DEFINITION. Sys2Proof/Machine/IdmaMove.lean: descriptors and moves of the ring channels (R407-R421) and of the compatibility
channels (R423-R425) over the bus. A channel has one access outstanding; a local one is answered within its command.
-/
namespace Sys2Proof.Machine

/-- An outstanding remote access of a ring channel: KIND of R420. -/
def State.chAsk (s : State) (n : Fin 32) (kind node off len : Nat) (data : List (Byte × Bool)) : State :=
  (s.setChan n.val { s.chan n.val with wait := some kind }).remoteAsk
    { who := .ring n.val, node := node, off := off, len := len, write := decide (3 ≤ kind), data := data }

/-- The descriptor is complete: event, then IDLE if LAST, else the next fetch (R417, Table 12-3). -/
def State.chNext (s : State) (n : Fin 32) : State :=
  let c := s.chan n.val
  let s1 := if c.evDone then s.fire (64 + n.val) else s
  let s2 := s1.setReg64 (R.chDescLo n.val) (R.chDescHi n.val) ((s1.chDesc n.val + 32) % 2 ^ 40)
  (s2.setChan n.val { c with kicked := false }).chEnter n.val (if c.isLast then Ch.idle else Ch.fetch)

/-- The write-back has been issued. -/
def State.chWritten (s : State) (n : Fin 32) : State :=
  if (s.chan n.val).fenced then s.chEnter n.val Ch.fence else s.chNext n

/-- The last write has been issued: word 0 goes back with OWN = 0 and STATUS (R417). -/
def State.chWriteBack (s : State) (n : Fin 32) : State :=
  let c := s.chan n.val
  let w0 := c.word 0 % 2 ^ 24 - c.word 0 % 2 + (if c.poison then St.eccUncorrectable else 0) * 2 ^ 24
  let data := (bytesLE 4 w0).map (fun b => (b, false))
  match s.busWrite (.ring n) (s.chDesc n.val) data with
  | .done t _ => t.chWritten n
  | .remote node off => s.chAsk n 4 node off 4 data
  | .error => s.chHalt n.val 1 1 4 (s.chDesc n.val)

/-- A descriptor has been fetched (R407, R409-R412, R420). -/
def State.chFetched (s : State) (n : Fin 32) (data : List (Byte × Bool)) : State :=
  let d := s.chDesc n.val
  if data.any (fun b => b.2) then s.chHalt n.val 3 0 0 d
  else
    let c0 := s.chan n.val
    let c1 : Chan := { words := dwords (data.map (fun b => b.1)) }
    let c := { c1 with desc := c1.type == 0 && c1.descends s.nodeId, from_ := c0.from_ }
    if !c.own then
      if c0.kicked then s.setChan n.val { c with kicked := false }
      else (s.setChan n.val c).chEnter n.val Ch.waitOwn
    else if !c.checks then (s.setChan n.val c).chHalt n.val 4 0 0 d
    else if c.type = 2 then
      let j := s.fld (R.chStat n.val) F.chStat.JCNT + 1
      let s1 := (s.setChan n.val c).setFld (R.chStat n.val) F.chStat.JCNT j
      if j = 1024 then s1.chHalt n.val 5 0 0 d
      else s1.setReg64 (R.chDescLo n.val) (R.chDescHi n.val) c.src
    else ((s.setChan n.val c).chBegin n.val).chShow n.val

/-- The fetch of a channel in FETCH that may issue accesses. -/
def State.chFetch (s : State) (n : Fin 32) : State :=
  if s.chState n.val ≠ Ch.fetch ∨ (s.chan n.val).wait.isSome ∨ s.bit (R.chCtl n.val) F.chCtl.PAUSE then s
  else match s.busRead (.ring n) (s.chDesc n.val) 32 with
  | .done t data => t.chFetched n data
  | .remote node off => s.chAsk n 0 node off 32 []
  | .error => s.chHalt n.val 1 0 0 (s.chDesc n.val)

/-- A COPY beat has been read into the holding register (R413). -/
def State.copyRead (s : State) (n : Fin 32) (data : List (Byte × Bool)) : State :=
  let c := s.chan n.val
  s.setChan n.val { c with
    rd := c.rd + c.sw, hold := if c.desc then data ++ c.hold else c.hold ++ data
    poison := c.poison || data.any (fun b => b.2) }

/-- The beat to write next, and the bytes that stay. -/
def Chan.beat (c : Chan) : List (Byte × Bool) × List (Byte × Bool) :=
  if c.desc then (c.hold.drop (c.hold.length - c.dw), c.hold.take (c.hold.length - c.dw)) else (c.hold.take c.dw, c.hold.drop c.dw)

/-- A COPY beat has been written. -/
def State.copyWrote (s : State) (n : Fin 32) : State :=
  let c := s.chan n.val
  let s1 := (s.setChan n.val { c with wr := c.wr + c.dw, hold := c.beat.2 }).chShow n.val
  if c.len ≤ c.wr + c.dw then s1.chWriteBack n else s1

/-- One beat of a COPY: a held beat is written, else one is read. (DEDUCED: notes/assumptions/47.) -/
def State.chCopy (s : State) (n : Fin 32) : State :=
  let c := s.chan n.val
  if s.chState n.val ≠ Ch.xfer ∨ c.type ≠ 0 ∨ c.wait.isSome ∨ s.bit (R.chCtl n.val) F.chCtl.PAUSE then s
  else if c.dw ≤ c.hold.length then
    match s.busWrite (.ring n) c.dstNow c.beat.1 with
    | .done t _ => t.copyWrote n
    | .remote node off => s.chAsk n 3 node off c.dw c.beat.1
    | .error => s.chHalt n.val 1 1 3 c.dstNow
  else match s.busRead (.ring n) c.srcNow c.sw with
    | .done t data => (t.copyRead n data).chShow n.val
    | .remote node off => s.chAsk n 2 node off c.sw []
    | .error => s.chHalt n.val 1 0 2 c.srcNow

/-- The table entry of a GATHER element has been read. -/
def State.gatherIndex (s : State) (n : Fin 32) (data : List (Byte × Bool)) : State :=
  let c := s.chan n.val
  if data.any (fun b => b.2) then s.chHalt n.val 3 0 1 ((c.tbl + 4 * c.rd) % 2 ^ 40)
  else s.setChan n.val { c with idx := some (natLE (data.map (fun b => b.1))) }

/-- The element has been read. -/
def State.gatherRead (s : State) (n : Fin 32) (data : List (Byte × Bool)) : State :=
  let c := s.chan n.val
  s.setChan n.val { c with hold := data, poison := c.poison || data.any (fun b => b.2) }

/-- The element has been written. -/
def State.gatherWrote (s : State) (n : Fin 32) : State :=
  let c := s.chan n.val
  let s1 := (s.setChan n.val { c with rd := c.rd + 1, wr := c.wr + 1, idx := none, hold := [] }).chShow n.val
  if c.len ≤ c.wr + 1 then s1.chWriteBack n else s1

/-- The next access of a GATHER element (R416). -/
def State.gatherStep (s : State) (n : Fin 32) : State :=
  let c := s.chan n.val
  if s.chState n.val ≠ Ch.xfer ∨ c.wait.isSome then s
  else match c.idx with
  | none =>
    match s.busRead (.ring n) ((c.tbl + 4 * c.rd) % 2 ^ 40) 4 with
    | .done t data => t.gatherIndex n data
    | .remote node off => s.chAsk n 1 node off 4 []
    | .error => s.chHalt n.val 1 0 1 ((c.tbl + 4 * c.rd) % 2 ^ 40)
  | some _ =>
    if c.hold.isEmpty then
      match s.busRead (.ring n) c.srcNow c.sw with
      | .done t data => t.gatherRead n data
      | .remote node off => s.chAsk n 2 node off c.sw []
      | .error => s.chHalt n.val 1 0 2 c.srcNow
    else match s.busWrite (.ring n) c.dstNow c.hold with
      | .done t _ => t.gatherWrote n
      | .remote node off => s.chAsk n 3 node off c.sw c.hold
      | .error => s.chHalt n.val 1 1 3 c.dstNow

/-- One element of a GATHER, as far as its accesses are answered at once; PAUSE stops before the next element (R418). -/
def State.chGather (s : State) (n : Fin 32) : State :=
  let c := s.chan n.val
  if c.type ≠ 1 ∨ (s.bit (R.chCtl n.val) F.chCtl.PAUSE ∧ c.idx.isNone) then s
  else
    let need := if c.idx.isNone then 3 else if c.hold.isEmpty then 2 else 1
    (List.range need).foldl (fun t _ => t.gatherStep n) s

/-- Every write of a fenced descriptor has been acknowledged (R417). -/
def State.chFenced (s : State) (n : Fin 32) : State :=
  if s.chState n.val ≠ Ch.fence ∨ (s.chan n.val).wait.isSome then s else s.chNext n

/-- DIR and address of the outstanding access of a ring channel. -/
def State.chWaiting (s : State) (n kind : Nat) : Nat × Nat :=
  let c := s.chan n
  match kind with
  | 0 => (0, s.chDesc n)
  | 1 => (0, (c.tbl + 4 * c.rd) % 2 ^ 40)
  | 2 => (0, c.srcNow)
  | 3 => (1, c.dstNow)
  | _ => (1, s.chDesc n)

/-- The outstanding access of a ring channel fails: cause 1 BUS, 2 TMO. An aborted channel ends instead (R419). -/
def State.chFail (s : State) (n : Fin 32) (cause : Nat) : State :=
  match (s.chan n.val).wait with
  | none => s
  | some kind =>
    let s1 := s.remoteDrop (.ring n.val)
    if (s.chan n.val).abort then s1.chAborted n.val
    else
      let w := s1.chWaiting n.val kind
      s1.chHalt n.val cause w.1 kind w.2

/-- The outstanding access of a ring channel is answered. -/
def State.chAnswered (s : State) (n : Fin 32) (status : Nat) (data : List (Byte × Bool)) : State :=
  match (s.chan n.val).wait with
  | none => s
  | some kind =>
    if !(status = 0 ∨ status = St.eccUncorrectable) then s.chFail n 1
    else
      let s1 := s.setChan n.val { s.chan n.val with wait := none }
      if (s.chan n.val).abort then s1.chAborted n.val
      else match kind with
      | 0 => s1.chFetched n data
      | 1 => s1.gatherIndex n data
      | 2 => if (s1.chan n.val).type = 0 then (s1.copyRead n data).chShow n.val else s1.gatherRead n data
      | 3 => if (s1.chan n.val).type = 0 then s1.copyWrote n else s1.gatherWrote n
      | _ => s1.chWritten n

/-! ## Compatibility channels -/

/-- An outstanding remote access of a compatibility channel. -/
def State.ccAsk (s : State) (n : Fin 8) (kind node off len : Nat) (data : List (Byte × Bool)) : State :=
  (s.setCc n.val { s.cc n.val with wait := some kind }).remoteAsk
    { who := .compat n.val, node := node, off := off, len := len, write := decide (3 ≤ kind), data := data }

/-- The element read is written (R423). -/
def State.ccWrite (s : State) (n : Fin 8) : State :=
  let data := (s.cc n.val).hold
  match s.busWrite (.compat n) (s.ccDst n.val) data with
  | .done t _ => t.ccElementDone n.val
  | .remote node off => s.ccAsk n 3 node off data.length data
  | .error => s.ccHalt n.val 1 1 3 (s.ccDst n.val)

/-- The next element: read, then written. -/
def State.ccMove (s : State) (n : Fin 8) : State :=
  match s.ccReady n.val with
  | none => s
  | some s1 =>
    if !(s1.cc n.val).hold.isEmpty then s1.ccWrite n
    else match s1.busRead (.compat n) (s1.ccSrc n.val) (s1.ccSize n.val) with
    | .done t data => (t.setCc n.val { t.cc n.val with hold := data }).ccWrite n
    | .remote node off => s1.ccAsk n 2 node off (s1.ccSize n.val) []
    | .error => s1.ccHalt n.val 1 0 2 (s1.ccSrc n.val)

/-- The outstanding access of a compatibility channel fails (R425). -/
def State.ccFail (s : State) (n : Fin 8) (cause : Nat) : State :=
  match (s.cc n.val).wait with
  | none => s
  | some kind =>
    (s.remoteDrop (.compat n.val)).ccHalt n.val cause (if kind = 2 then 0 else 1) kind
      (if kind = 2 then s.ccSrc n.val else s.ccDst n.val)

/-- The outstanding access of a compatibility channel is answered. -/
def State.ccAnswered (s : State) (n : Fin 8) (status : Nat) (data : List (Byte × Bool)) : State :=
  match (s.cc n.val).wait with
  | none => s
  | some kind =>
    if !(status = 0 ∨ status = St.eccUncorrectable) then s.ccFail n 1
    else
      let s1 := s.setCc n.val { s.cc n.val with wait := none }
      if kind = 2 then (s1.setCc n.val { s1.cc n.val with hold := data }).ccWrite n else s1.ccElementDone n.val

end Sys2Proof.Machine
end

