-- ==== Sys2Proof/Machine/Services.lean ====
section
/-!
DEFINITION. Sys2Proof/Machine/Services.lean: the boot chain, the services of E0, and its automatic actions on host loss and
jams (R497-R513).
-/
namespace Sys2Proof.Machine

/-! ## Boot bundles (R498, R499) -/

/-- An entry of a bundle (Table 15-2). -/
structure BundleEntry where
  ofs : Nat
  len : Nat
  type : Nat
  first : Nat
  count : Nat
  deriving DecidableEq, Repr

/-- Flash address of a boot slot (Table 14-4). -/
def bootSlot (k : Nat) : Nat := k * 0x0400000

/-- The staging area: the context cache (R500). -/
def stagingBase : Nat := 0x1880000
def stagingBytes : Nat := 0x400000

def bundleVersion (h : List Byte) : Nat := fieldAt h 0x08 4
def bundleCount (h : List Byte) : Nat := fieldAt h 0x0C 2
def bundleTotal (h : List Byte) : Nat := fieldAt h 0x10 4

/-- The header meets Table 15-1. -/
def bundleHeaderOk (h : List Byte) : Bool :=
  (h.take 4 == [0x47, 0x42, 0x44, 0x4C]) && decide (fieldAt h 4 2 = 1 ∧ fieldAt h 6 2 = 128) &&
  decide (1 ≤ bundleCount h ∧ bundleCount h ≤ 32 ∧ fieldAt h 0x0E 1 ≤ 1 ∧ fieldAt h 0x0F 1 = 0) &&
  decide (bundleTotal h ≤ stagingBytes) && ((h.drop 0x14).take 44).all (fun b => b == 0)

/-- The entries of a bundle, in order. -/
def bundleEntries (b : List Byte) : List BundleEntry :=
  (List.range (bundleCount b)).map (fun i =>
    let e := (b.drop (0x80 + 16 * i)).take 16
    ⟨fieldAt e 0 4, fieldAt e 4 4, fieldAt e 8 1, fieldAt e 9 1, fieldAt e 10 1⟩)

/-- The payload of an entry. -/
def BundleEntry.payload (e : BundleEntry) (b : List Byte) : List Byte := (b.drop e.ofs).take e.len

/-- The engines that an entry names. -/
def BundleEntry.targets (e : BundleEntry) (n : Nat) : List Nat := (List.range n).map (fun i => e.first + i)

/-- An entry other than the first is one that a bundle may have (R499). -/
def BundleEntry.ok (e : BundleEntry) (b : List Byte) : Bool :=
  if e.type = 1 then imgKind (e.payload b) == 1 && decide (e.first + e.count ≤ 96 ∧ (1 ≤ e.first ∨ e.count = 0))
  else decide (e.type = 2 ∨ e.type = 3)

/-- Two payloads share a byte. -/
def BundleEntry.meets (e f : BundleEntry) : Bool := decide (e.ofs < f.ofs + f.len ∧ f.ofs < e.ofs + e.len)

/-- The payloads lie where R498 and R499 want them. -/
def payloadsOk (b : List Byte) : Bool :=
  let l := bundleEntries b
  l.all (fun e => decide (e.ofs % 16 = 0 ∧ 0x80 + 16 * bundleCount b ≤ e.ofs ∧ e.ofs + e.len + 64 ≤ bundleTotal b)) &&
  (List.range l.length).all (fun i => (l.drop (i + 1)).all (fun f =>
    match l[i]? with
    | some e => !(e.meets f)
    | none => true))

/-- The structure of a bundle is that of R499. -/
def bundleShapeOk (b : List Byte) : Bool :=
  payloadsOk b && decide (((bundleEntries b).filter (fun e => e.type == 3)).length ≤ 1) &&
  match bundleEntries b with
  | [] => false
  | e :: r =>
    (e.type == 1 && imgKind (e.payload b) == 2 && e.first == 0 && e.count == 1) && r.all (fun f => f.ok b)

/-- The status of a bundle whose header is good (R499); 0 when it is valid. (DEDUCED: notes/assumptions/56.) -/
def State.bundleStatus (s : State) (b : List Byte) : Nat :=
  let images := ((bundleEntries b).filter (fun e => e.type == 1)).map (fun e => e.payload b)
  if !(bundleShapeOk b) then St.invalidField
  else if !(s.signedOk (fieldAt b 0x0E 1) ((b.drop 0x40).take 64) b) then St.signatureInvalid
  else if images.any (fun im => !(imgHeaderOk (im.take 128) && decide (im.length = imgTotal (im.take 128)))) then St.invalidField
  else if images.any (fun im => !(s.imageValid im)) then St.signatureInvalid
  else 0

/-! ## Stages 2 and 3 (R497, R500, R501) -/

/-- The boot has stopped, or goes on to the host (R501). -/
def State.bootFail (s : State) (stage status : Nat) : State :=
  if s.fld R.sysStrap F.sysStrap.BOOT_SRC = 2 then
    (s.setFld R.sysBootStat F.sysBootStat.STAGE 2).setFld R.secBootInfo F.secBootInfo.HOST 1
  else ((s.setFld R.sysBootStat F.sysBootStat.FAIL 1).setFld R.sysBootStat F.sysBootStat.STAGE stage).setFld
    R.sysBootStat F.sysBootStat.STATUS status

/-- E0 starts and carries out stage 4 next (R497). -/
def State.bootStart (s : State) : State := (s.engStart 0).setFld R.sysBootStat F.sysBootStat.STAGE 4

/-- One candidate goes through stages 2 and 3: its status, with the service image in E0 when it is 0. -/
def State.tryBundle (s : State) (k : Nat) : State × Nat :=
  let b := s.flashBytes (bootSlot k) (bundleTotal (s.flashBytes (bootSlot k) 128))
  let s1 := (s.memWrite stagingBase b).setFld R.sysBootStat F.sysBootStat.STAGE 3
  let c := s1.bundleStatus b
  if c ≠ 0 then (s1, c)
  else match bundleEntries b with
    | [] => (s1, St.invalidField)
    | e :: _ => s1.loadImage [0] (e.payload b)

/-- The candidates in the order in which they are tried. -/
def State.bootOrder (s : State) : List Nat :=
  let ok (k : Nat) : Bool := bundleHeaderOk (s.flashBytes (bootSlot k) 128)
  let v (k : Nat) : Nat := bundleVersion (s.flashBytes (bootSlot k) 128)
  if ok 0 && ok 1 then (if v 0 < v 1 then [1, 0] else [0, 1]) else [0, 1].filter ok

/-- The slot's bundle boots. -/
def State.bootFrom (s : State) (k : Nat) : State :=
  let v := bundleVersion (s.flashBytes (bootSlot k) 128)
  ((s.setFld R.secBootInfo F.secBootInfo.SLOT k).setReg R.secBootVer (BitVec.ofNat 32 v)).bootStart

/-- The boot sequencer at the end of stage 1 with the flash as its source. -/
def State.bootImageLoad (s : State) : State :=
  let b := s.reg R.sysBootStat
  if F.sysBootStat.STAGE.get b ≠ 2 ∨ F.sysBootStat.FAIL.get b ≠ 0 ∨ s.bit R.secBootInfo F.secBootInfo.HOST ∨
      s.engState 0 ≠ 1 then s
  else match s.bootOrder with
  | [] => s.bootFail 2 St.invalidField
  | k :: r =>
    let t := s.tryBundle k
    if t.2 = 0 then t.1.bootFrom k
    else match r with
      | [] => t.1.bootFail 3 t.2
      | j :: _ =>
        let t1 := (t.1.setFld R.secBootInfo F.secBootInfo.ALT_FAIL 1).setFld R.secBootInfo F.secBootInfo.ALT_STATUS t.2
        let u := t1.tryBundle j
        if u.2 = 0 then u.1.bootFrom j else u.1.bootFail 3 u.2

/-! ## Stages 4 to 6 (R502-R504) -/

/-- E0 executes instructions. -/
def State.e0Runs (s : State) : Bool := s.engState 0 == 2 || s.engState 0 == 3

def State.setSec (s : State) (f : Sec → Sec) : State := { s with sec := f s.sec }

/-- The first failure of a script or of the list is recorded (R503, R504). -/
def State.listFail (s : State) (idx status : Nat) : State :=
  if s.fld R.secBootInfo F.secBootInfo.LIST_STATUS ≠ 0 then s
  else (s.setFld R.secBootInfo F.secBootInfo.LIST_IDX (idx % 256)).setFld R.secBootInfo F.secBootInfo.LIST_STATUS status

/-- The boot ends in stage 5 with a status. -/
def State.bootStop (s : State) (status : Nat) : State :=
  (((s.setFld R.sysBootStat F.sysBootStat.FAIL 1).setFld R.sysBootStat F.sysBootStat.STAGE 5).setFld R.sysBootStat
    F.sysBootStat.STATUS status).setSec (fun c => { c with boot := false, script := none, list := [] })

/-- Records of 8 bytes with their index. -/
def records8 (l : List Byte) : List (Nat × Word × Word) :=
  (List.range (l.length / 8)).map (fun i =>
    (i, BitVec.ofNat 32 (fieldAt l (8 * i) 4), BitVec.ofNat 32 (fieldAt l (8 * i + 4) 4)))

/-- A write of a script: one of the host path, which a warm reset in progress does not close to E0. -/
def State.scriptWrite (s : State) (off : Nat) (w : Word) : State :=
  let t := { s with sys := { s.sys with warmActive := false } }.writeAccess .bar0 off 4 w
  { t with sys := { t.sys with warmActive := s.sys.warmActive } }

/-- The script records up to the next wait are applied (R503). -/
def State.scriptRun (s : State) : List (Nat × Word × Word) → State
  | [] => s.setSec (fun c => { c with script := some [] })
  | (i, ofs, v) :: r =>
    if (ofs >>> 20) % 2 ^ 11 ≠ 0 then (s.listFail i St.invalidField).bootStop St.invalidField
    else if ofs.getLsbD 31 then s.setSec (fun c => { c with script := some r })
    else
      let t := s.scriptWrite (ofs.toNat % 2 ^ 20) v
      if t.reg R.sysErrStat &&& ~~~(s.reg R.sysErrStat) ≠ 0 then (t.listFail i St.invalidField).bootStop St.invalidField
      else t.scriptRun r

/-- The bundle in the staging area. -/
def State.staged (s : State) : List Byte := s.bytes stagingBase (bundleTotal (s.bytes stagingBase 128))

/-- Step 3 of R502: the kernel images are loaded; then the service list begins. -/
def State.bootKernels (s : State) : State :=
  let b := s.staged
  let l := bundleEntries b
  let s1 := (l.drop 1).foldl (fun t e =>
    if e.type = 1 ∧ 0 < e.count then (t.loadImage (e.targets e.count) (e.payload b)).1 else t) s
  let list := (l.filter (fun e => e.type == 3)).flatMap (fun e => records8 (e.payload b))
  let mine := list.filter (fun r => !(s.sec.warm && r.2.2.getLsbD 0))
  s1.setSec (fun c => { c with script := none, boot := true, list := mine.map (fun r => (r.2.1, r.1)) })

/-- E0 carries out stage 4, then the scripts up to their next wait; asked again, it goes on after the wait (R502). -/
def State.serviceBoot (s : State) : State :=
  let b := s.reg R.sysBootStat
  if F.sysBootStat.READY.get b ≠ 0 ∨ F.sysBootStat.FAIL.get b ≠ 0 ∨ !(s.e0Runs) ∨ s.sec.boot ∨ s.sec.loop then s
  else
    let go (t : State) (l : List (Nat × Word × Word)) : State :=
      let u := t.scriptRun l
      match u.sec.script with
      | some [] => u.bootKernels
      | _ => u
    match s.sec.script with
    | some l => go s l
    | none =>
      if F.sysBootStat.STAGE.get b ≠ 4 then s
      else
        let s1 := if s.sec.warm then s else s.calLoad
        if s1.bit R.secBootInfo F.secBootInfo.HOST then s1.setSec (fun c => { c with boot := true, list := [] })
        else
          let img := s1.staged
          go (s1.setFld R.sysBootStat F.sysBootStat.STAGE 5)
            (((bundleEntries img).filter (fun e => e.type == 2)).flatMap (fun e => records8 (e.payload img)))

/-- Stage 6: the staging area is cleared and READY rises (R83, R501). -/
def State.bootEnd (s : State) : State :=
  let s1 := s.zeroFill stagingBase stagingBytes
  let s2 := (s1.setFld R.sysBootStat F.sysBootStat.STAGE 6).setFld R.sysBootStat F.sysBootStat.READY 1
  ({ s2 with sys := { s2.sys with resetting := 0, warmActive := false } }.setSec (fun c =>
    { c with boot := false, loop := true })).refreshMain

/-! ## Requests and replies (R505) -/

/-- A word goes to the host (1) or the halter (2), as far as its queue has room. -/
def State.sendReport (s : State) (w : Word) (dst : Nat) : State :=
  s.setSec (fun c => { c with reports := c.reports ++ [(w, dst)] })

/-- The oldest waiting word leaves if its queue has room; none when nothing can leave. -/
def State.reportStep (s : State) : Option State :=
  match s.sec.reports with
  | [] => none
  | (w, dst) :: r =>
    let s1 := s.setSec (fun c => { c with reports := r })
    if dst = 2 then (if s.hlt.outbox.length < 16 then some (s1.halterWord w) else none)
    else if (s.eng 0).outbox.length < 16 then
      some ((s1.setEng 0 { s1.eng 0 with outbox := (s1.eng 0).outbox ++ [w] }).mbxRefresh 0)
    else none

/-- A request word as a service. -/
def serviceOf (w : Word) (sender idx : Nat) : Service :=
  { svc := bitsOf w.toNat 24 8, tag := bitsOf w.toNat 20 4, arg := bitsOf w.toNat 0 20, sender := sender, idx := idx }

/-- The service that E0 takes next, with the state without its request: the next entry of the boot's list, an automatic recovery
that is due (R512), or the oldest request (R505). One service runs at a time, and its reply leaves before the next begins. -/
def State.svcNext (s : State) : Option (Service × State) :=
  if !(s.e0Runs) || s.sec.running.isSome || !s.sec.reports.isEmpty then none
  else if s.sec.boot then
    match s.sec.list with
    | [] => none
    | (w, i) :: r => some (serviceOf w 0 i, s.setSec (fun c => { c with list := r }))
  else if !s.sec.loop then none
  else match s.sec.due with
  | k :: r => some ({ svc := 8, tag := 0, arg := k, sender := 2 }, s.setSec (fun c => { c with due := r }))
  | [] =>
    match (s.eng 0).inbox with
    | [] => none
    | (w, src) :: r => some (serviceOf w src 0, (s.setEng 0 { s.eng 0 with inbox := r }).mbxRefresh 0)

/-- A reply word. -/
def Service.reply (x : Service) (status : Nat) : Word :=
  BitVec.ofNat 32 ((x.svc + 0x80) % 256 * 2 ^ 24 + x.tag * 2 ^ 20 + status)

/-- A service has ended: SEC.SVC_STAT, and the reply to its sender, or what the boot's list makes of it (R504, R505). -/
def State.svcReply (s : State) (x : Service) (status : Nat) : State :=
  let w := status % 256 * 2 ^ 16 + x.svc % 256 * 2 ^ 24
  let s1 := (s.setReg R.secSvcStat (BitVec.ofNat 32 w)).setSec (fun c => { c with running := none })
  if x.sender ≠ 0 then s1.sendReport (x.reply status) x.sender
  else if status = 0 then s1
  else if x.svc = 2 then s1.bootStop status
  else s1.listFail x.idx status

/-- A service is refused: nothing but the reply changes (R506). -/
def State.svcRefuse (s : State) (x : Service) (status : Nat) : State := s.svcReply x status

/-- A service completes with its results. -/
def State.svcDone (s : State) (x : Service) (status : Nat) (res : List Word) : State :=
  (s.forEach 4 (fun i t => t.setReg (R.secSvcRes i) ((res[i]?).getD 0))).svcReply x status

/-- A service runs on. (DEDUCED: notes/assumptions/57.) -/
def State.svcRun (s : State) (x : Service) : State :=
  (s.setReg R.secSvcStat ((s.reg R.secSvcStat &&& 0xFFFF0000) ||| BitVec.ofNat 32 (x.svc % 256 + x.tag % 16 * 256))).setSec
    (fun c => { c with running := some x })

/-- Start service `n` if it is the one that E0 takes next. -/
def State.svcTake (s : State) (n : Nat) (f : Service → State → State) : State :=
  match s.svcNext with
  | some (x, t) => if x.svc = n ∧ x.sender ≤ 2 then f x t else s
  | none => s

/-! ## The services (Table 15-3) -/

/-- STATUS. -/
def State.svcStatus (x : Service) (s : State) : State :=
  s.svcDone x 0 [s.reg R.sysBootStat, s.reg R.secBootInfo, s.reg R.sysRstCause]

/-- The address ranges that a self-test marches over, those that are powered (R507). -/
def State.testRanges (s : State) (sram : Bool) : List (Nat × Nat) :=
  if sram then
    ((List.range 95).map (fun n => (engineData (n + 1), 0x14000)) ++
      (List.range 12).map (fun k => (teamBase k + (if k = 0 then 0x10000 else 0), 0x80000 - (if k = 0 then 0x10000 else 0))) ++
      [(alignBase, 0x800000), (shadingBase, 0x300000), (stagingBase, stagingBytes)]).filter (fun r => s.memOk r.1)
  else if s.memOk pageBase then [(pageBase, 0x7C000000)] else []

/-- One of the two tests: `bad` lists words that read back wrong, true where uncorrectable, in the order of the march. -/
def State.testPool (s : State) (sram : Bool) (bad : List (Nat × Bool)) : State :=
  let rs := s.testRanges sram
  let mine := bad.filter (fun e => rs.any (fun r => decide (r.1 ≤ e.1 ∧ e.1 < r.1 + r.2)))
  let s1 := rs.foldl (fun t r => t.zeroFill r.1 r.2) s
  let s2 := if sram then { s1 with streams := [] } else s1
  let run := if sram then F.secSelftest.SRAM_RUN else F.secSelftest.PS_RUN
  let fail := if sram then F.secSelftest.SRAM_FAIL else F.secSelftest.PS_FAIL
  let s3 := (s2.setFld R.secSelftest run 1).setFld R.secSelftest fail (if mine.isEmpty then 0 else 1)
  match mine with
  | [] => s3
  | e :: _ =>
    if s3.fld R.secSelftest F.secSelftest.STATUS ≠ 0 then s3
    else
      ((s3.setFld R.secSelftest F.secSelftest.POOL ((poolOf e.1).getD 0)).setFld R.secSelftest F.secSelftest.STATUS
        (if e.2 then St.eccUncorrectable else St.busError)).setReg64 R.secStAddrLo R.secStAddrHi e.1

/-- SELFTEST (R507). -/
def State.svcSelftest (bad : List (Nat × Bool)) (x : Service) (s : State) : State :=
  let busy := !s.openStreams.isEmpty || (List.range 95).any (fun n => s.engState (n + 1) == 2 || s.engState (n + 1) == 3) ||
    (List.range 4).any (fun g => s.bit (R.grpCtl g) F.grpCtl.EN) ||
    (List.range 32).any (fun i => s.iwOn i || s.owOn i) || s.jobRuns
  if s.bit R.sysBootStat F.sysBootStat.READY && busy then s.svcRefuse x St.contextBusy
  else
    let s0 := s.setFld R.secSelftest F.secSelftest.STATUS 0
    let s1 := if x.arg.testBit 0 then s0.testPool true bad else s0
    let s2 := if x.arg.testBit 1 then s1.testPool false bad else s1
    s2.svcDone x (s2.fld R.secSelftest F.secSelftest.STATUS) [s2.reg R.secSelftest]

/-- ADC_CAL: the start is E0's write of VAF.FGCAL. -/
def State.svcAdcCal (x : Service) (s : State) : State :=
  let s1 := s.fgcalWrite (.engine 0) (F.vafFgcal.BANKS.put 1 (x.arg % 16))
  if s.bit R.vafFgcal F.vafFgcal.BUSY || !(s1.bit R.vafFgcal F.vafFgcal.BUSY) then s1.svcRefuse x St.contextBusy else s1.svcRun x

/-- AUX_CAL: the start is E0's write of AUX.CAL_CTL. -/
def State.svcAuxCal (x : Service) (s : State) : State :=
  let s1 := s.auxCalWrite (.engine 0) 1
  if s.bit R.auxCalCtl F.auxCalCtl.BUSY || !(s1.bit R.auxCalCtl F.auxCalCtl.BUSY) then s1.svcRefuse x St.contextBusy
  else s1.svcRun x

/-- The path that a service names, and the groups of SHADE_CAL. -/
def Service.path (x : Service) : Nat := x.arg % 4
def Service.groupList (x : Service) : List Nat := setBits (bitsOf x.arg 4 4) 4

/-- SHADE_CAL: steps 1 to 3 of R508, or INVALID_FIELD. -/
def State.svcShadeCal (x : Service) (s : State) : State :=
  let k := x.path
  let bad (g : Nat) : Bool := s.grpState g != 1 || !(s.bit (R.grpCtl g) F.grpCtl.STRIP_EN) || !(s.selOn (R.grpStripSel g))
  if s.pathState k ≠ 1 ∨ x.groupList.any bad then s.svcRefuse x St.invalidField
  else
    let s1 := s.setFld R.shdRecCtl F.shdRecCtl.AUTO 0
    let s2 := x.groupList.foldl (fun t g => t.fullRequest g) s1
    (s2.pathCmd k 1 (s2.fld (R.pathPolicy k) F.pathPolicy.GMIN)).svcRun { x with auto := s.bit R.shdRecCtl F.shdRecCtl.AUTO }

/-- AUTO as it stood before SHADE_CAL. -/
def State.autoBack (s : State) (x : Service) : State := s.setFld R.shdRecCtl F.shdRecCtl.AUTO (if x.auto then 1 else 0)

/-- RES0 of SHADE_CAL: the status of each group. -/
def Service.groupWord (x : Service) : Word :=
  BitVec.ofNat 32 (natLE ((List.range 4).map (fun g => BitVec.ofNat 8 (Table.get (fun _ => 0) x.groups g))))

/-- The status of SHADE_CAL over its groups (R508). -/
def Service.groupStatus (x : Service) : Nat :=
  let l := x.groupList.map (fun g => Table.get (fun _ => 0) x.groups g)
  if l.contains St.calRejected then St.calRejected else if l.contains St.calQualityLow then St.calQualityLow else 0

/-- Some group of SHADE_CAL committed. -/
def Service.committed (x : Service) : Bool := x.groupList.any (fun g => Table.get (fun _ => 0) x.groups g != St.calRejected)

/-- Ends of calibration saves until one requested now has ended (R189). -/
def State.savesAhead (s : State) : Nat := if s.bit R.shdRecStat F.shdRecStat.BUSY then 2 else 1

/-- Step 4 of R508: groups that have committed or rejected are noted; when all have, steps 5 and 6. None while nothing is new. -/
def State.shadeCalStep (s : State) (x : Service) : Option State :=
  let y := x.groupList.foldl (fun (y : Service) g =>
    if s.bit (R.grpStat g) F.grpStat.FULL_PEND || (y.groups.any (fun e => e.1 == g + 4)) then y
    else
      let st := (s.group g).fullStatus.getD St.calRejected
      { y with groups := Table.set (fun _ => 0) (Table.set (fun _ => 0) y.groups (g + 4) 1) g st }) x
  if !(y.groupList.all (fun g => y.groups.any (fun e => e.1 == g + 4))) then
    (if y.groups.length = x.groups.length then none else some (s.svcRun y))
  else
    let s1 := (s.pathCmd y.path 6 0).autoBack y
    some (if y.committed then s1.saveRequest.svcRun { y with saves := s.savesAhead, status := y.groupStatus }
      else s1.svcDone y y.groupStatus [y.groupWord])

/-- SHADE_CAL does not finish step 4 in time. -/
def State.shadeCalTimeout (s : State) : State :=
  match s.sec.running with
  | some x =>
    if x.svc = 5 ∧ x.saves = 0 then (((s.pathCmd x.path 6 0).autoBack x)).svcDone x St.timeout [x.groupWord] else s
  | none => s

/-- CAL_LOAD: the record as at stage 4. -/
def State.svcCalLoad (x : Service) (s : State) : State :=
  if (List.range 4).any (fun g => s.bit (R.grpCtl g) F.grpCtl.EN) || (List.range 4).any (fun k => !(s.bankIdle k)) then
    s.svcRefuse x St.contextBusy
  else
    let s1 := s.calLoad
    s1.svcDone x 0 [s1.reg R.shdRecStat, s1.reg R.shdRecSeq]

/-- CAL_SAVE: a save is requested, and waited for. -/
def State.svcCalSave (x : Service) (s : State) : State := s.saveRequest.svcRun { x with saves := s.savesAhead }

/-- JAM_RECOVER: CLEAR_JAM. -/
def State.svcJamRecover (x : Service) (s : State) : State :=
  let k := x.path
  let w := s.reg (R.pathStat k)
  if s.pathState k ≠ 7 then s.svcRefuse x St.contextBusy
  else
    let note := F.pathStat.JAM_CHK.put (F.pathStat.JAM_CAUSE.put 0 (F.pathStat.JAM_CAUSE.get w)) (F.pathStat.JAM_CHK.get w)
    (s.pathCmd k 5 0).svcRun { x with note := note }

/-- SAFE_STOP: STOP; a path that is OFF cannot stop. -/
def State.svcSafeStop (x : Service) (s : State) : State :=
  if s.pathState x.path = 0 then s.svcRefuse x St.notReady else (s.pathCmd x.path 2 0).svcRun x

/-- FABRIC_UP: DLF.CFG.EN := 1 (R511). -/
def State.svcFabricUp (x : Service) (s : State) : State :=
  (s.dlfCfgWrite (.engine 0) (F.dlfCfg.EN.put (s.reg R.dlfCfg) 1)).svcRun x

/-- Results of FABRIC_UP. -/
def State.fabricWords (s : State) : List Word := [s.reg R.dlfStat, s.reg R.dlfEpoch]

/-- The limit of FABRIC_UP has passed (R511). -/
def State.fabricUpLimit (s : State) : State :=
  match s.sec.running with
  | some x =>
    if x.svc = 10 then
      s.svcDone x (if x.auto || !s.activePorts.isEmpty then St.timeout else St.fabricUnreachable) s.fabricWords
    else s
  | none => s

/-- LOAD_ENTRY: a kernel entry of the booted bundle. -/
def State.svcLoadEntry (x : Service) (s : State) : State :=
  if s.bit R.secBootInfo F.secBootInfo.HOST then s.svcRefuse x St.noResource
  else
    let base := bootSlot (s.fld R.secBootInfo F.secBootInfo.SLOT)
    let b := s.flashBytes base (bundleTotal (s.flashBytes base 128))
    match (bundleEntries b)[x.arg % 32]? with
    | none => s.svcRefuse x St.invalidField
    | some e =>
      let t := e.targets (max 1 e.count)
      if e.type ≠ 1 ∨ t.any (fun n => decide (96 ≤ n)) then s.svcRefuse x St.invalidField
      else
        let r := s.loadImage t (e.payload b)
        r.1.svcDone x r.2 []

/-! ## Completion -/

/-- A calibration save has ended with a status: CAL_SAVE or SHADE_CAL completes when it was the one waited for. -/
def State.svcSaved (s : State) (status : Nat) : State :=
  match s.sec.running with
  | none => s
  | some x =>
    if x.saves = 0 then s
    else if 1 < x.saves then s.svcRun { x with saves := x.saves - 1 }
    else if x.svc = 7 then s.svcDone x status [0, s.reg R.shdRecSeq]
    else s.svcDone x (if x.status = 0 then status else x.status) [x.groupWord]

/-- The running service completes if what it waits for has happened, none otherwise; a service that moves the transport ends when
its path is in JAM (R506). -/
def State.svcProgress (s : State) (x : Service) : Option State :=
  let st := s.pathState x.path
  match x.svc with
  | 3 =>
    if s.bit R.vafFgcal F.vafFgcal.BUSY then none
    else some (s.svcDone x (s.fld R.vafFgcal F.vafFgcal.RESULT)
      [BitVec.ofNat 32 (natLE ((List.range 4).map (fun k => BitVec.ofNat 8 (s.bankState k))))])
  | 4 => if s.bit R.auxCalCtl F.auxCalCtl.BUSY then none else some (s.svcDone x (s.fld R.auxCalCtl F.auxCalCtl.RESULT) [])
  | 5 =>
    if x.saves ≠ 0 then none
    else if st = 7 then some ((s.autoBack x).svcDone x St.transportJam [x.groupWord])
    else s.shadeCalStep x
  | 8 =>
    if st = 7 then
      (if (s.pathSt x.path).speed = 0 ∧ (s.pathSt x.path).atRest ≠ .cleared then some (s.svcDone x St.transportJam [x.note])
       else none)
    else some (s.svcDone x (if st = 1 then 0 else St.transportJam) [x.note])
  | 9 =>
    if st = 7 then some (s.svcDone x St.transportJam [s.reg (R.pathStat x.path)])
    else if st = 1 ∨ st = 4 then some (s.svcDone x 0 [s.reg (R.pathStat x.path)]) else none
  | 10 =>
    if s.fabState = Dl.fReady then some (s.svcDone x 0 s.fabricWords)
    else if !x.auto && !s.activePorts.isEmpty then some (s.svcRun { x with auto := true }) else none
  | _ => none

/-! ## Automatic actions (R510, R512, R513) -/

/-- EV241: the paths of running SCAN_JOBs are reported, and stopped where their selector does not (R510). -/
def State.hostLossStart (s : State) : State :=
  if !(s.sec.loop && s.e0Runs && s.bit R.secSvcCfg F.secSvcCfg.AUTO_HLOSS) then s
  else
    let mask := planeMask (s.hqe.jobs.map (fun j => j.path))
    let s1 := (setBits mask 4).foldl (fun t k => if t.selOn (R.pathHlossSel k) then t else t.pathCmd k 2 0) s
    (s1.sendReport (BitVec.ofNat 32 (0x40F00000 + mask)) 2).setSec (fun c => { c with hostLoss := some (mask, false) })

/-- HL_S seconds have passed without a doorbell. -/
def State.hostLossExpire (s : State) : State :=
  match s.sec.hostLoss with
  | some (mask, false) =>
    if s.fld R.secSvcCfg F.secSvcCfg.HL_S = 0 then s else s.setSec (fun c => { c with hostLoss := some (mask, true) })
  | _ => s

/-- Step 3 of R510: stopped paths are abandoned; once all are in HALT their motors are released and that is reported. None while
there is nothing to do. -/
def State.hostLossStep (s : State) : Option State :=
  match s.sec.hostLoss with
  | some (mask, true) =>
    let ks := setBits mask 4
    if ks.any (fun k => s.pathState k == 4) then
      some (ks.foldl (fun t k => if t.pathState k = 4 then t.pathCmd k 4 0 else t) s)
    else if ks.all (fun k => s.pathState k == 1) then
      let axes := ks.flatMap (fun k => s.axesOf k ++ (s.feedAxis k).toList)
      let s2 := axes.foldl (fun t n => t.axisCtlWrite (.engine 0) n (F.axisCtl.RUN.put (t.reg (R.axisCtl n)) 0)) s
      some ((s2.sendReport (BitVec.ofNat 32 (0x40F00100 + mask)) 2).setSec (fun c => { c with hostLoss := none }))
    else none
  | _ => none

/-- A jam is reported; one that may be recovered is recovered after JAM_MS (R512). -/
def State.jamReport (s : State) (k : Nat) : State :=
  if !(s.sec.loop && s.e0Runs && s.bit R.secSvcCfg F.secSvcCfg.AUTO_JAM) then s
  else
    let cause := s.fld (R.pathStat k) F.pathStat.JAM_CAUSE
    let s1 := s.sendReport (BitVec.ofNat 32 (0x41F00000 + k * 2 ^ 8 + cause)) 2
    if 1 ≤ cause ∧ cause ≤ 3 ∧ 0 < s.fld (R.pathRev k) F.pathRev.REV then
      s1.setSec (fun c => { c with jams := addSorted c.jams k }) else s1

/-- JAM_MS has passed since a jam: JAM_RECOVER is due. -/
def State.jamDue (s : State) (k : Nat) : State :=
  if s.sec.jams.contains k then
    s.setSec (fun c => { c with jams := c.jams.filter (fun j => j != k), due := c.due ++ [k] })
  else s

/-- The heartbeat (R513). -/
def State.heartbeat (s : State) : State :=
  if s.sec.loop && s.e0Runs then s.setReg R.secSvcHb (s.reg R.secSvcHb + 1) else s

/-! ## What E0 does on its own -/

/-- What E0 does with the service it would take next, without a command for it: an automatic recovery starts, a request from
elsewhere is discarded, an unlisted one is answered, and the boot ends when its list is done. -/
def State.e0Next (s : State) : Option State :=
  match s.svcNext with
  | some (x, t) =>
    if 2 < x.sender then some t
    else if x.svc = 0 ∨ 11 < x.svc then some (t.svcReply x St.invalidOpcode)
    else if s.sec.loop ∧ !s.sec.due.isEmpty then some (t.svcJamRecover x)
    else none
  | none => if s.e0Runs && s.sec.boot && s.sec.list.isEmpty && s.sec.running.isNone && s.pdOn 127 then some s.bootEnd else none

/-- One thing that E0 does without being asked, none when there is nothing: services stop with E0 (R513), words leave, a host-loss
action or the running service goes on. -/
def State.e0Step (s : State) : Option State :=
  if !(s.e0Runs) then
    (if s.sec = { warm := s.sec.warm } then none
     else some ((s.setReg R.secSvcStat (s.reg R.secSvcStat &&& 0xFFFF0000)).setSec (fun c => { warm := c.warm })))
  else match s.reportStep, s.hostLossStep, s.sec.running with
  | some t, _, _ => some t
  | none, some t, _ => some t
  | none, none, some x => s.svcProgress x
  | none, none, none => s.e0Next

/-- E0 goes on until it waits. -/
def State.e0Poll : Nat → State → State
  | 0, s => s
  | n + 1, s =>
    match s.e0Step with
    | none => s
    | some t => t.e0Poll n

end Sys2Proof.Machine
end

