-- ==== Sys2Proof/Machine/Settle.lean ====
section
/-!
DEFINITION. Sys2Proof/Machine/Settle.lean: the consequences that one block's action has in others, worked off within the same
command; and the end that every command's meaning shares.
-/
namespace Sys2Proof.Machine

/-- The job counts a completed record of its track; after DOCS records it ends with SUCCESS and halts its path (R394). -/
def State.jobRecord (s : State) (k : Nat) : State :=
  match s.hqe.jobs.find? (fun j => j.trk == k / 2) with
  | none => s
  | some j =>
    let seq := natLE (((s.record k).bytes.drop 8).take 4)
    let j1 : Job := { j with done := j.done + 1, first := some (j.first.getD seq) }
    let s1 := { s with hqe := { s.hqe with jobs := s.hqe.jobs.map (fun e => if e.slot = j.slot then j1 else e) } }
    if j1.docs ≠ 0 ∧ j1.docs ≤ j1.done then (s1.jobEnd j1 0).pathCmd j1.path 6 0 else s1

/-- A path has entered JAM: the host's event, the end of its SCAN_JOB, and E0's report (R394, R399, R512). -/
def State.jamWork (s : State) (k : Nat) : State :=
  let s1 := s.queueAsync 5 (k + s.fld (R.pathStat k) F.pathStat.JAM_CAUSE * 2 ^ 8) (s.reg (R.pathJamCnt k)).toNat
  let s2 := match s1.hqe.jobs.find? (fun j => j.path == k) with
    | some j => s1.jobEnd j St.transportJam
    | none => s1
  s2.jamReport k

/-- A delivered line of a plane goes downstream (R183, R333). -/
def State.lineDown (s : State) (n y : Nat) : State :=
  match (s.outOf n).find? (fun o => o.y == y) with
  | none => s
  | some o => s.planeDelivered n (s.feedOf n o)

/-- A plane has delivered a line: its stitch sources send it, a sink holds it back (R459, R460). -/
def State.lineWork (s : State) (n y : Nat) : State :=
  match (s.outOf n).find? (fun o => o.y == y) with
  | none => s
  | some o =>
    let s1 := (s.seamLineOut n y).stitchSend n y o.vals o.bad
    if (s1.stitchOn n 1).isEmpty then s1.lineDown n y else s1.stitchHold n y

/-- DLF.ERR records a failed access: its status, node and the port of its route; without a route the port is not stated (R449). -/
def State.remoteError (s : State) (node status : Nat) : State :=
  let n := s.routeTo node
  if n < 4 then s.dlfError status node n
  else
    let f := s.free
    f.2.dlfError status node (f.1 % 4)

/-- A remote access is answered, and its requester goes on (R449, R450). -/
def State.remoteWork (s : State) (tag status : Nat) (data : List (Byte × Bool)) : State :=
  match s.fab.remotes.find? (fun r => r.tag == tag) with
  | none => s
  | some r =>
    let s0 := { s with fab := { s.fab with remotes := s.fab.remotes.filter (fun e => e.tag != tag) } }
    let s1 := if status = 0 then s0 else s0.remoteError r.node status
    match r.who with
    | .engine n => s1.farDone n r status data
    | .ring n => if h : n < 32 then s1.chAnswered ⟨n, h⟩ status data else s1
    | .compat n => if h : n < 8 then s1.ccAnswered ⟨n, h⟩ status data else s1
    | .hqe q tag =>
      match s1.fab.copies.find? (fun c => c.qp == q && c.tag == tag) with
      | some c => s1.copyAnswer c r.off r.len status (data.map (fun b => b.1))
      | none => s1

/-- The fabric is READY: the REFORM commands complete (Table 13-12). -/
def State.readyWork (s : State) : State :=
  let l := s.fab.reforms
  l.foldl (fun t e => t.completeSt e.1 e.2 0) { s with fab := { s.fab with reforms := [] } }

/-- One consequence. -/
def State.doWork (s : State) : Work → State
  | .record k => s.jobRecord k
  | .jam k => s.jamWork k
  | .lineOut n y => s.lineWork n y
  | .trigger p _ => s.issueTick p
  | .fgDone st => s.calibUnit 0 st
  | .auxDone st => s.calibUnit 2 st
  | .auxResult slot => s.auxDelivered slot
  | .remoteDone tag st data => s.remoteWork tag st data
  | .fabricReady => s.readyWork
  | .stitched n y => s.lineDown n y
  | .saveDone st => (s.calibSaved st).svcSaved st
  | .hostLost => s.hostLossStart

/-- Consequences in the order in which they arose; then what E0 does on its own; until nothing is left. -/
def State.settleGo : Nat → State → State
  | 0, s => { s with work := [] }
  | n + 1, s =>
    match s.work with
    | w :: r => ({ s with work := r }.doWork w).settleGo n
    | [] =>
      if s.fab.releases.isEmpty then
        match s.e0Step with
        | some t => t.settleGo n
        | none => s
      else
        let s1 := s.releasesCheck
        match s1.e0Step with
        | some t => t.settleGo n
        | none => if s1.work.isEmpty then s1 else s1.settleGo n

/-- Most consequences that one command can have. -/
def settleBound : Nat := 1048576

/-- The state at the end of a command: nothing is left to work off, and HLT.STAT shows the main side (R475).
(DESIGN CHOICE: notes/assumptions/58.) -/
def State.settle (s : State) : State := (s.settleGo settleBound).refreshMain

/-- How a command ends. (DESIGN CHOICE: notes/assumptions/3.) -/
def State.done (s : State) : Result := .next s.settle

end Sys2Proof.Machine
end

