-- ==== Sys2Proof/Machine/AuxCommands.lean ====
section
/-!
DEFINITION. Sys2Proof/Machine/AuxCommands.lean: the commands of AUX and the waveform channels (Auxiliary Sensing and Waveform Capture).
-/
namespace Sys2Proof.Machine

/-- AUX_REG_ENABLE (R260). -/
def execAuxRegEnable (path : Path) (w : Word) (s : State) : Result :=
  State.done (s.onWrite path R.auxRegCtl (fun s => s.auxCtlWrite path false (F.auxRegCtl.EN.put w 1)))

/-- AUX_REG_DISABLE (R268). -/
def execAuxRegDisable (path : Path) (w : Word) (s : State) : Result :=
  State.done (s.onWrite path R.auxRegCtl (fun s => s.auxCtlWrite path false (F.auxRegCtl.EN.put w 0)))

/-- AUX_INJ_ENABLE (R260). -/
def execAuxInjEnable (path : Path) (w : Word) (s : State) : Result :=
  State.done (s.onWrite path R.auxInjCtl (fun s => s.auxCtlWrite path true (F.auxInjCtl.EN.put w 1)))

/-- AUX_INJ_DISABLE (R268). -/
def execAuxInjDisable (path : Path) (w : Word) (s : State) : Result :=
  State.done (s.onWrite path R.auxInjCtl (fun s => s.auxCtlWrite path true (F.auxInjCtl.EN.put w 0)))

/-- AUX_REGULAR_TRIGGER (R263). -/
def execAuxRegularTrigger (s : State) : Result := State.done s.auxRegTrigger

/-- AUX_INJECTED_TRIGGER (R264). -/
def execAuxInjectedTrigger (s : State) : Result := State.done s.auxInjTrigger

/-- The conversion in progress delivers its result; its modulator does not run while the reference is low (R253). -/
def execAuxConversionResult (x : AuxInput) (s : State) : Result :=
  State.done (match s.aux.conv with
    | some c => if s.bit R.auxStat F.auxStat.REF_LOW then s else s.auxDeliver c x false
    | none => s)

/-- The conversion timeout expires (R279). -/
def execAuxConversionTimeout (x : AuxInput) (s : State) : Result :=
  State.done (match s.aux.conv with
    | some c => s.auxDeliver c x true
    | none => s)

/-- The reference of the conversion in progress is below 100 mV for 1 µs, or is back (R253). -/
def execAuxRefLow (s : State) : Result := State.done (if s.aux.conv.isSome then s.setFld R.auxStat F.auxStat.REF_LOW 1 else s)

/-- AUX_REF_RESTORED (R253). -/
def execAuxRefRestored (s : State) : Result := State.done (s.setFld R.auxStat F.auxStat.REF_LOW 0)

/-- A running source goes into fault, or comes out of it (R255). -/
def execExcitationFault (k : Fin 4) (on : Bool) (s : State) : Result :=
  State.done (
    let m := if on then s.aux.excFault ||| 2 ^ k.val else if s.aux.excFault.testBit k.val then s.aux.excFault - 2 ^ k.val else s.aux.excFault
    let s1 := { s with aux := { s.aux with excFault := m } }
    if on && s.excRuns k then
      let s2 := s1.setFld R.auxExcStat ⟨k.val, 1⟩ 1
      { s2 with aux := { s2.aux with conv := s2.aux.conv.map (fun c => { c with excFault := c.excFault ||| 2 ^ k.val }) } }
    else s1)

/-- The clamp of an AUX pin begins or ceases to carry current (R278). -/
def execAuxClampCurrent (pin : Fin 24) (on : Bool) (s : State) : Result :=
  State.done (
    let m := if on then s.aux.clamping ||| 2 ^ pin.val else if s.aux.clamping.testBit pin.val then s.aux.clamping - 2 ^ pin.val else s.aux.clamping
    let s1 := { s with aux := { s.aux with clamping := m } }
    if on then
      let s2 := (s1.setFld R.auxClampStat ⟨pin.val, 1⟩ 1).fire 198
      { s2 with aux := { s2.aux with conv := s2.aux.conv.map (fun c => { c with clamps := c.clamps ||| 2 ^ pin.val }) } }
    else s1)

/-- AUX_ENTRY_WRITE (R274). -/
def execAuxEntryWrite (path : Path) (inj : Bool) (e : Fin 32) (word : Fin 4) (w : Word) (s : State) : Result :=
  State.done (if inj && decide (8 ≤ e.val) then s
    else s.onWrite path (auxEntryReg inj e word) (fun s => s.auxEntryWrite path inj e word w))

/-- AUX_CAL_START (R285). -/
def execAuxCalStart (path : Path) (w : Word) (s : State) : Result :=
  State.done (s.onWrite path R.auxCalCtl (fun s => s.auxCalWrite path (F.auxCalCtl.START.put w 1)))

/-- WF_ENABLE (R292). -/
def execWfEnable (path : Path) (c : Fin 2) (w : Word) (s : State) : Result :=
  State.done (s.onWrite path (R.wfCfg c) (fun s => s.wfCfgWrite path c (F.wfCfg.EN.put w 1)))

/-- WF_DISABLE (R291). -/
def execWfDisable (path : Path) (c : Fin 2) (w : Word) (s : State) : Result :=
  State.done (s.onWrite path (R.wfCfg c) (fun s => s.wfCfgWrite path c (F.wfCfg.EN.put w 0)))

/-- WF_RAW_SAMPLE (R287). -/
def execWfRawSample (c : Fin 2) (vd : Int) (p : Int) (s : State) : Result := State.done (s.wfRaw c vd p)

/-- The next output sample of a capture is formed and written (R288, R290). -/
def execWfOutputSample (c : Fin 2) (s : State) : Result :=
  State.done (if s.wfState c ≠ 2 then s
    else match s.wfNext c with
      | none => s
      | some (v, rest) =>
        let x := s.wf c
        (s.setWf c { x with raws := rest, j := x.j + 1 }).wfWrite c v)

/-- The start of a capture (R291): a capture in progress ends and the next one starts. -/
def State.wfBegin (s : State) (c : Nat) : State :=
  if s.wfState c == 0 then s
  else
    let s1 := s.wfEnd c
    let pos := s1.position (s1.fld (R.wfCfg c) F.wfCfg.PSRC)
    let up := (pos + 65535) / 65536 * 65536
    let s2 := (s1.setReg (R.wfMark c) (s1.reg (R.wfWr c))).setFld (R.wfStat c) F.wfStat.STATE 2
    let s3 := if s1.bit (R.wfCfg c) F.wfCfg.MODE then s2.setReg64 (R.wfPos0Lo c) (R.wfPos0Hi c) (unsigned 64 up) else s2
    (s3.setFld (R.wfStat c) F.wfStat.REV 0).setWf c { start := pos }

/-- A pulse of the start selector (R291). -/
def execWfCaptureStart (c : Fin 2) (s : State) : Result :=
  State.done (if s.selOn (R.wfStartSel c) then s.wfBegin c else s)

/-- A pulse of the stop selector (R291). -/
def execWfCaptureStop (c : Fin 2) (s : State) : Result := State.done (if s.selOn (R.wfStopSel c) then s.wfEnd c else s)

/-- The self-calibration ends with its measured corrections (R285). -/
def execAuxCalComplete (ofs gain : List Int) (s : State) : Result := State.done (s.auxCalEnd ofs gain)

end Sys2Proof.Machine
end

