-- ==== Sys2Proof/Machine/CodecCommands.lean ====
section
/-!
DEFINITION. Sys2Proof/Machine/CodecCommands.lean: the commands of the Tandem lanes (Tandem Code).
-/
namespace Sys2Proof.Machine

/-- A free lane takes a context; `spilled` says that its record was in the page store (R317, R318). -/
def execLaneBind (n : Fin 16) (spilled : Bool) (s : State) : Result :=
  State.done (if !(s.laneFree n) then s
    else match s.nextStream with
      | none => s
      | some sc =>
        let dir := if (s.stream sc).state = 2 then 1 else 0
        let s1 := (s.setReg (R.tcxLane n) (BitVec.ofNat 32 (sc + 2 ^ 12 + dir * 2 ^ 13))).setFld R.tcxStat ⟨n, 1⟩ 1
        let s2 := s1.count R.tcxSwitchCnt
        if spilled then (s2.count R.tcxMissCnt).fire 125 else s2)

/-- A lane writes its context back (R317). -/
def execLaneRelease (n : Fin 16) (s : State) : Result :=
  State.done (
    let strip := s.fld R.tcxCtl F.tcxCtl.STRIP
    let sc := s.fld (R.tcxLane n) F.tcxLane.SC
    let done := decide ((if strip = 0 then 1 else strip) ≤ s.fld (R.tcxLane n) F.tcxLane.GROUPS) && s.nextStream.isSome
    if s.bit (R.tcxLane n) F.tcxLane.ACT && (done || !(s.eligible sc)) then
      ((s.setFld (R.tcxLane n) F.tcxLane.ACT 0).setFld R.tcxStat ⟨n, 1⟩ 0).fire (104 + n)
    else s)

/-- A lane codes one line group. -/
def execLineGroupEncode (n : Fin 16) (s : State) : Result :=
  State.done (if s.bit (R.tcxLane n) F.tcxLane.ACT && !(s.bit (R.tcxLane n) F.tcxLane.DIR) then
      s.encodeStep n (s.fld (R.tcxLane n) F.tcxLane.SC)
    else s)

/-- A lane decodes one line group. -/
def execLineGroupDecode (n : Fin 16) (input : List Byte) (bad : Option Nat) (s : State) : Result :=
  State.done (if s.bit (R.tcxLane n) F.tcxLane.ACT && s.bit (R.tcxLane n) F.tcxLane.DIR then
      s.decodeStep n (s.fld (R.tcxLane n) F.tcxLane.SC) input bad
    else s)

end Sys2Proof.Machine
end

