-- ==== Sys2Proof/Machine/DmaCommands.lean ====
section
/-!
DEFINITION. Sys2Proof/Machine/DmaCommands.lean: the commands of IDMA (Internal DMA and Compatibility Channels).
-/
namespace Sys2Proof.Machine

/-! ## Ring channels -/

/-- A start of a ring channel: a write of CHn_CTL.START = 1, or a pulse on the event of CHn_START_SEL (R411). -/
def execChannelStart (n : Fin 32) (write : Option (Path × Word)) (s : State) : Result :=
  State.done (match write with
    | some (p, w) => s.chCtlWrite p n (F.chCtl.START.put w 1)
    | none => if s.selOn (R.chStartSel n) then s.chStart n else s)

/-- A kick: a write of CHn_CTL.KICK = 1, or a pulse on the event of CHn_KICK_SEL (R407). -/
def execChannelKick (n : Fin 32) (write : Option (Path × Word)) (s : State) : Result :=
  State.done (match write with
    | some (p, w) => s.chCtlWrite p n (F.chCtl.KICK.put w 1)
    | none => if s.selOn (R.chKickSel n) then s.chKick n else s)

/-- IDMA.POLL.US µs have been spent in WAIT_OWN (R407). -/
def execOwnPoll (n : Fin 32) (s : State) : Result :=
  State.done (if s.chState n = Ch.waitOwn ∧ s.fld R.idmaPoll F.idmaPoll.US ≠ 0 ∧ !(s.bit (R.chCtl n) F.chCtl.PAUSE)
    then s.chEnter n Ch.fetch else s)

/-- A channel in FETCH reads its descriptor (R407, R409-R412). -/
def execDescriptorFetch (n : Fin 32) (s : State) : Result := State.done (s.chFetch n)

/-- A pulse on the event of CHn_PACE_SEL (R412). -/
def execPacePulse (n : Fin 32) (s : State) : Result :=
  State.done (if s.selOn (R.chPaceSel n) then s.chPacePulse n else s)

/-- One beat of a COPY (R413-R415, R421). -/
def execIdmaCopy (n : Fin 32) (s : State) : Result := State.done (s.chCopy n)

/-- One element of a GATHER (R416). -/
def execIdmaGather (n : Fin 32) (s : State) : Result := State.done (s.chGather n)

/-- Every write of a fenced descriptor, and its write-back, is acknowledged (R417). -/
def execFenceAcknowledged (n : Fin 32) (s : State) : Result := State.done (s.chFenced n)

/-- A write of CHn_CTL.PAUSE = 1 (R418). -/
def execChannelPause (path : Path) (n : Fin 32) (w : Word) (s : State) : Result :=
  State.done (s.chCtlWrite path n (F.chCtl.PAUSE.put w 1))

/-- Nothing of a channel to be paused is outstanding: it enters PAUSED (R418). -/
def execChannelPaused (n : Fin 32) (s : State) : Result := State.done (s.chPause n)

/-- A write of CHn_CTL.PAUSE = 0 (R418). -/
def execChannelResume (path : Path) (n : Fin 32) (w : Word) (s : State) : Result :=
  State.done (s.chCtlWrite path n (F.chCtl.PAUSE.put w 0))

/-- A write of CHn_CTL.EN = 0 (R419). -/
def execChannelAbort (path : Path) (n : Fin 32) (w : Word) (s : State) : Result :=
  State.done (s.chCtlWrite path n (F.chCtl.EN.put w 0))

/-- The outstanding access of a channel fails; channels 32-39 are the compatibility channels (R420, R425). -/
def State.idmaFail (s : State) (ch : Fin 40) (cause : Nat) : State :=
  if h : ch.val < 32 then s.chFail ⟨ch.val, h⟩ cause else s.ccFail ⟨ch.val - 32, by omega⟩ cause

/-- An access has had no response for 64 µs (R420). -/
def execIdmaBusTimeout (ch : Fin 40) (s : State) : Result := State.done (s.idmaFail ch 2)

/-- An access has ended with an error response (R420). -/
def execIdmaBusError (ch : Fin 40) (s : State) : Result := State.done (s.idmaFail ch 1)

/-! ## Compatibility channels -/

/-- A write of CCn_CCR.EN = 1 (R423). -/
def execCcEnable (path : Path) (n : Fin 8) (w : Word) (s : State) : Result :=
  State.done (s.ccCcrWrite path n (F.ccCcr.EN.put w 1))

/-- A write of CCn_CCR.EN = 0 (R425). -/
def execCcDisable (path : Path) (n : Fin 8) (w : Word) (s : State) : Result :=
  State.done (s.ccCcrWrite path n (F.ccCcr.EN.put w 0))

/-- A pulse on the event of CCn_TRIG_SEL (R423). -/
def execCcTrigger (n : Fin 8) (s : State) : Result :=
  State.done (if s.selOn (R.ccTrigSel n) then s.ccTrigger n else s)

/-- A compatibility channel moves its next element (R423-R425). -/
def execCcElementMove (n : Fin 8) (s : State) : Result := State.done (s.ccMove n)

end Sys2Proof.Machine
end

