-- ==== Sys2Proof/Machine/EngineVec.lean ====
section
/-!
DEFINITION. Sys2Proof/Machine/EngineVec.lean: the vector instructions of Table 10-9 (R343, R344, R347). A lane is a number
below 2 ^ 16.
-/
namespace Sys2Proof.Machine

/-- Lane i of predicate mask m. -/
def laneOn (m i : Nat) : Bool := m.testBit i

/-- A lane read as two's complement. -/
def sl (v : Nat) : Int := signed 16 v

/-- The lane-wise functions of VOP but VSEL and VMLA; none for a reserved one. -/
def vopFn (fn a b : Nat) : Option Nat :=
  let m := 65536
  match fn with
  | 0x00 => some ((a + b) % m)
  | 0x01 => some ((a + m - b) % m)
  | 0x02 => some (min (a + b) 65535)
  | 0x03 => some (a - b)
  | 0x04 => some (a * b % m)
  | 0x05 => some (a * b / m)
  | 0x06 => some (unsigned 16 (floorDiv (sl a * sl b) 65536))
  | 0x08 => some (a &&& b)
  | 0x09 => some (a ||| b)
  | 0x0A => some (a ^^^ b)
  | 0x0B => some (min a b)
  | 0x0C => some (max a b)
  | 0x0D => some (if sl a < sl b then a else b)
  | 0x0E => some (if sl a < sl b then b else a)
  | 0x0F => some (if a < b then b - a else a - b)
  | 0x10 => some (a <<< (b % 16) % m)
  | 0x11 => some (a >>> (b % 16))
  | 0x12 => some (unsigned 16 (floorDiv (sl a) (2 ^ (b % 16))))
  | 0x13 => some ((a + b + 1) / 2)
  | _ => none

/-- The functions of VIMM but VMOVI. -/
def vimmFn (fn a imm : Nat) : Nat :=
  let m := 65536
  match fn with
  | 0 => (a + unsigned 16 (signed 12 imm)) % m
  | 1 => a <<< (imm % 16) % m
  | 2 => a >>> (imm % 16)
  | 3 => unsigned 16 (floorDiv (sl a) (2 ^ (imm % 16)))
  | 4 => a * imm % m
  | 5 => min a imm
  | 6 => max a imm
  | _ => imm

/-- The comparisons of VCMP; none for a reserved one. -/
def vcmpFn (fn a b : Nat) : Option Bool :=
  match fn with
  | 0 => some (a == b)
  | 1 => some (a != b)
  | 2 => some (decide (a < b))
  | 3 => some (decide (a ≤ b))
  | 4 => some (decide (sl a < sl b))
  | 5 => some (decide (sl a ≤ sl b))
  | _ => none

/-- Lanes of `new` where the mask is 1, of `old` elsewhere (R344). -/
def mergeLanes (m : Nat) (old new : List Nat) : List Nat :=
  (List.range 8).map (fun i => if laneOn m i then new.getD i 0 else old.getD i 0)

/-- The eight lanes of a function. -/
def lanes (f : Nat → Nat) : List Nat := (List.range 8).map f

/-- A vector result merged into vd; the old vd is a source unless every lane is written. -/
def engPutV (n : Nat) (s : State) (vd m : Nat) (new : List Nat) (bad : Bool) : EngRes :=
  let e := s.eng n
  engNext (s.setEng n (e.setV vd (mergeLanes m (e.vr vd) new) (bad || (m != 0xFF && e.pV vd)))) (s.engPc n)

/-- VOP. -/
def engVop (n : Nat) (w : Word) (s : State) : EngRes :=
  let e := s.eng n
  let x := w.toNat
  let vd := bitsOf x 22 4
  let va := bitsOf x 18 4
  let vb := bitsOf x 14 4
  let m := e.pr (bitsOf x 12 2)
  let fn := bitsOf x 0 6
  let a := e.vr va
  let b := e.vr vb
  let bad := e.pV va || e.pV vb
  if bitsOf x 6 6 ≠ 0 then engIllegal
  else if fn = 0x14 then
    engNext (s.setEng n (e.setV vd (lanes (fun i => if laneOn m i then a.getD i 0 else b.getD i 0)) bad)) (s.engPc n)
  else if fn = 0x07 then
    engPutV n s vd m (lanes (fun i => ((e.vr vd).getD i 0 + a.getD i 0 * b.getD i 0) % 65536)) (bad || e.pV vd)
  else if (vopFn fn 0 0).isNone then engIllegal
  else engPutV n s vd m (lanes (fun i => (vopFn fn (a.getD i 0) (b.getD i 0)).getD 0)) bad

/-- VIMM; functions above 7 are reserved, and VMOVI has va = 0. -/
def engVimm (n : Nat) (w : Word) (s : State) : EngRes :=
  let e := s.eng n
  let x := w.toNat
  let va := bitsOf x 18 4
  let fn := bitsOf x 12 4
  let imm := bitsOf x 0 12
  if 7 < fn ∨ (fn = 7 ∧ va ≠ 0) then engIllegal
  else engPutV n s (bitsOf x 22 4) (e.pr (bitsOf x 16 2)) (lanes (fun i => vimmFn fn ((e.vr va).getD i 0) imm))
    (fn != 7 && e.pV va)

/-- VCMP. -/
def engVcmp (n : Nat) (w : Word) (s : State) : EngRes :=
  let e := s.eng n
  let x := w.toNat
  let pd := bitsOf x 22 4
  let a := e.vr (bitsOf x 18 4)
  let b := e.vr (bitsOf x 14 4)
  let m := e.pr (bitsOf x 12 2)
  let fn := bitsOf x 0 6
  if bitsOf x 6 6 ≠ 0 ∨ 3 < pd ∨ (vcmpFn fn 0 0).isNone then engIllegal
  else
    let r := (List.range 8).foldl (fun acc i =>
      if laneOn m i && (vcmpFn fn (a.getD i 0) (b.getD i 0)).getD false then acc + 2 ^ i else acc) 0
    engNext (s.setEng n (e.setP pd r)) (s.engPc n)

/-- The lanes of a vector where the mask is 1. -/
def onLanes (m : Nat) (l : List Nat) : List Nat := (List.range 8).filterMap (fun i => if laneOn m i then l[i]? else none)

/-- VSCL. A field that a function does not use must be 0 (R342). -/
def engVscl (n : Nat) (w : Word) (s : State) : EngRes :=
  let e := s.eng n
  let x := w.toNat
  let v := bitsOf x 22 4
  let r := bitsOf x 17 5
  let lane := bitsOf x 14 3
  let pg := bitsOf x 12 2
  let m := e.pr pg
  let half := (e.sr r).toNat % 65536
  let toS (y : Nat) : EngRes := engNext (s.setEng n (e.setS r (BitVec.ofNat 32 y) (e.pV v))) (s.engPc n)
  let l := onLanes m (e.vr v)
  if bitsOf x 3 9 ≠ 0 then engIllegal
  else match bitsOf x 0 3 with
    | 0 => if lane ≠ 0 then engIllegal else engPutV n s v m (lanes (fun _ => half)) (e.pS r)
    | 1 => if pg ≠ 0 then engIllegal else engPutV n s v (2 ^ lane) (lanes (fun _ => half)) (e.pS r)
    | 2 => if pg ≠ 0 then engIllegal else toS ((e.vr v).getD lane 0)
    | 3 => if lane ≠ 0 then engIllegal else toS (l.foldl (fun a b => a + b) 0)
    | 4 => if lane ≠ 0 then engIllegal else toS (l.foldl max 0)
    | 5 => if lane ≠ 0 then engIllegal else toS (l.foldl min 0xFFFF)
    | 6 =>
      if lane ≠ 0 ∨ pg ≠ 0 ∨ 3 < v then engIllegal
      else if e.pS r then .fault 5 none
      else engNext (s.setEng n (e.setP v ((e.sr r).toNat % 256))) (s.engPc n)
    | _ =>
      if lane ≠ 0 ∨ pg ≠ 0 ∨ 3 < v then engIllegal
      else engNext (s.setEng n (e.setS r (BitVec.ofNat 32 (e.pr v)) false)) (s.engPc n)

/-- The local address of lane i of VLD and VST. -/
def vecAddr (n : Nat) (w : Word) (s : State) (i : Nat) : Nat :=
  ((s.eng n).sr (bitsOf w.toNat 17 5) + BitVec.ofInt 32 (signed 15 (bitsOf w.toNat 0 15)) + BitVec.ofNat 32 (2 * i)).toNat

/-- The lanes that a memory instruction touches, with their local addresses. -/
def vecAddrs (n : Nat) (w : Word) (s : State) (m : Nat) : List (Nat × Nat) :=
  ((List.range 8).filter (fun i => laneOn m i)).map (fun i => (i, vecAddr n w s i))

/-- The first of some addresses that is no halfword of the local space: its fault. -/
def vecFault (n : Nat) (l : List (Nat × Nat)) : Option EngRes :=
  match l.find? (fun a => a.2 % 2 != 0) with
  | some a => some (.fault 2 (some a.2))
  | none => (l.find? (fun a => (localAddr n a.2 2).isNone)).map (fun a => .fault 3 (some a.2))

/-- VLD (R347: a poisoned word poisons the whole vector). -/
def engVld (n : Nat) (w : Word) (s : State) : EngRes :=
  let e := s.eng n
  let m := e.pr (bitsOf w.toNat 15 2)
  let l := vecAddrs n w s m
  if e.pS (bitsOf w.toNat 17 5) then .fault 5 none
  else match vecFault n l with
    | some f => f
    | none =>
      let at_ (a : Nat) : Nat := (localAddr n a 2).getD 0
      let s1 := l.foldl (fun t a => t.memRead (at_ a.2) 2) s
      let new := lanes (fun i => natLE (s1.bytes (at_ (vecAddr n w s i)) 2))
      engPutV n s1 (bitsOf w.toNat 22 4) m new (l.any (fun a => s1.anyPoison (at_ a.2) 2))

/-- VST. -/
def engVst (n : Nat) (w : Word) (s : State) : EngRes :=
  let e := s.eng n
  let vd := bitsOf w.toNat 22 4
  let l := vecAddrs n w s (e.pr (bitsOf w.toNat 15 2))
  if e.pS (bitsOf w.toNat 17 5) then .fault 5 none
  else match vecFault n l with
    | some f => f
    | none =>
      engNext (l.foldl (fun t a =>
        let p := (localAddr n a.2 2).getD 0
        let b := bytesLE 2 ((e.vr vd).getD a.1 0)
        if e.pV vd then t.memWritePoison p b else t.memWrite p b) s) (s.engPc n)

/-- VGATHER: from data memory only; a poisoned index vector is an address. -/
def engVgather (n : Nat) (w : Word) (s : State) : EngRes :=
  let e := s.eng n
  let x := w.toNat
  let ra := bitsOf x 17 5
  let va := bitsOf x 13 4
  let m := e.pr (bitsOf x 11 2)
  let addr (i : Nat) : Nat := (e.sr ra + BitVec.ofNat 32 (2 * (e.vr va).getD i 0)).toNat
  let on := (List.range 8).filter (fun i => laneOn m i)
  if bitsOf x 0 11 ≠ 0 then engIllegal
  else if e.pS ra || e.pV va then .fault 5 none
  else match on.find? (fun i => addr i % 2 != 0), on.find? (fun i => decide (0x10000 < addr i + 2)) with
    | some i, _ => .fault 2 (some (addr i))
    | none, some i => .fault 3 (some (addr i))
    | none, none =>
      let s1 := on.foldl (fun t i => t.memRead (engineData n + addr i) 2) s
      engPutV n s1 (bitsOf x 22 4) m (lanes (fun i => natLE (s1.bytes (engineData n + addr i) 2)))
        (on.any (fun i => s1.anyPoison (engineData n + addr i) 2))

end Sys2Proof.Machine
end

