-- ==== Sys2Proof/Machine/EngineCommands.lean ====
section
/-!
DEFINITION. Sys2Proof/Machine/EngineCommands.lean: the commands of PACK: control of the engines, their instructions, windows,
mailboxes and image loads (Pack Engines and Their Instruction Set).
-/
namespace Sys2Proof.Machine

/-! ## Control of engines (Table 10-2) -/

/-- A write of En_CTL with CMD = START (R323). -/
def execEngineStart (path : Path) (n : Fin 96) (w : Word) (s : State) : Result :=
  State.done (s.onWrite path (R.engCtl n) (fun s => s.engCtlWrite path n (F.engCtl.CMD.put w 1)))

/-- A write of En_CTL with CMD = HALT (R324). -/
def execEngineHalt (path : Path) (n : Fin 96) (w : Word) (s : State) : Result :=
  State.done (s.onWrite path (R.engCtl n) (fun s => s.engCtlWrite path n (F.engCtl.CMD.put w 2)))

/-- A write of En_CTL with CMD = STEP. -/
def execEngineStep (path : Path) (n : Fin 96) (w : Word) (s : State) : Result :=
  State.done (s.onWrite path (R.engCtl n) (fun s => s.engCtlWrite path n (F.engCtl.CMD.put w 3)))

/-- The instruction that waits, asked again; FLD waits for its response (R330, R353). -/
def engAgain (n : Nat) (w : Word) (s : State) : EngRes :=
  let on := s.fld (R.engStat n) F.engStat.WAIT
  if opcodeOf w ≠ 0 then .wait s on
  else match fFn w with
  | 0x02 => engFence n w s
  | 0x05 => engEvwait n w s
  | 0x06 => engSemp n w s
  | 0x09 => engItake n w s
  | 0x0B => engOalloc n w s
  | 0x0D => engMbxrd n w s
  | 0x0E => engMbxsend n w s
  | _ => .wait s on

/-- The awaited condition of engine n holds: its instruction completes (R353). -/
def execEngineWaitComplete (n : Fin 96) (s : State) : Result :=
  State.done (if s.engState n ≠ 3 then s
    else s.engSettle n (s.engPc n) (engAgain n (s.word (engineInstr n + 4 * s.engPc n)) s))

/-- A far access has had no response for 64 µs (R330). -/
def execFarAccessTimeout (n : Fin 96) (s : State) : Result := State.done (s.farTimeout n)

/-! ## Instructions: the engine issues the one at its PC (R323, R343) -/

/-- The word has one of these opcodes. -/
def opIn (l : List Nat) (w : Word) : Bool := l.contains (opcodeOf w)

/-- The word is SYS with this function. -/
def sysFn (fn : Nat) (w : Word) : Bool := opcodeOf w == 0 && fFn w == fn

/-- ALU. -/
def execEngineAlu (n : Fin 96) (s : State) : Result := State.done (s.engIssue n.val (opIn [0x01]) (engAlu n.val))

/-- ADDI. -/
def execAddi (n : Fin 96) (s : State) : Result := State.done (s.engIssue n.val (opIn [0x02]) (engAddi n.val))

/-- ANDI, ORI, XORI. -/
def execEngineLogicImm (n : Fin 96) (s : State) : Result := State.done (s.engIssue n.val (opIn [0x03, 0x04, 0x05]) (engLogicImm n.val))

/-- LUI. -/
def execLui (n : Fin 96) (s : State) : Result := State.done (s.engIssue n.val (opIn [0x06]) (engLui n.val))

/-- SLTI. -/
def execSlti (n : Fin 96) (s : State) : Result := State.done (s.engIssue n.val (opIn [0x07]) (engSlti n.val))

/-- SLLI, SRLI, SRAI. -/
def execEngineShiftImm (n : Fin 96) (s : State) : Result := State.done (s.engIssue n.val (opIn [0x08, 0x09, 0x0A]) (engShiftImm n.val))

/-- LDW, LDH, LDB. -/
def execEngineLoad (n : Fin 96) (s : State) : Result := State.done (s.engIssue n.val (opIn [0x10, 0x11, 0x12]) (engLoad n.val))

/-- STW, STH, STB. -/
def execEngineStore (n : Fin 96) (s : State) : Result := State.done (s.engIssue n.val (opIn [0x13, 0x14, 0x15]) (engStore n.val))

/-- FLD (R330). -/
def execFld (n : Fin 96) (s : State) : Result := State.done (s.engIssue n.val (opIn [0x16]) (engFld n))

/-- FST (R330). -/
def execFst (n : Fin 96) (s : State) : Result := State.done (s.engIssue n.val (opIn [0x17]) (engFst n))

/-- BEQ, BNE, BLT, BGE, BLTU, BGEU. -/
def execEngineBranch (n : Fin 96) (s : State) : Result := State.done (s.engIssue n.val (opIn [0x18, 0x19, 0x1A, 0x1B, 0x1C, 0x1D]) (engBranch n.val))

/-- J. -/
def execJ (n : Fin 96) (s : State) : Result := State.done (s.engIssue n.val (opIn [0x1E]) engJ)

/-- JAL. -/
def execJal (n : Fin 96) (s : State) : Result := State.done (s.engIssue n.val (opIn [0x1F]) (engJal n.val))

/-- JR. -/
def execJr (n : Fin 96) (s : State) : Result := State.done (s.engIssue n.val (opIn [0x20]) (engJr n.val))

/-- LOOP (R345). -/
def execEngineLoop (n : Fin 96) (s : State) : Result := State.done (s.engIssue n.val (opIn [0x21]) (engLoop n.val))

/-- MTX (Table 10-11). -/
def execMtx (n : Fin 96) (s : State) : Result := State.done (s.engIssue n.val (opIn [0x28]) (engMtx n.val))

/-- MFX (Table 10-11). -/
def execMfx (n : Fin 96) (s : State) : Result := State.done (s.engIssue n.val (opIn [0x29]) (engMfx n.val))

/-- NOP. -/
def execEngineNop (n : Fin 96) (s : State) : Result := State.done (s.engIssue n.val (sysFn 0x00) (engNop n.val))

/-- HALT (R325). -/
def execHaltInstruction (n : Fin 96) (s : State) : Result := State.done (s.engIssue n.val (sysFn 0x01) (engHaltInstr n.val))

/-- FENCE (R331). -/
def execFence (n : Fin 96) (s : State) : Result := State.done (s.engIssue n.val (sysFn 0x02) (engFence n.val))

/-- EVFIRE (R348). -/
def execEvfire (n : Fin 96) (s : State) : Result := State.done (s.engIssue n.val (sysFn 0x03) (engEvfire n.val))

/-- EVSEL. -/
def execEvsel (n : Fin 96) (s : State) : Result := State.done (s.engIssue n.val (sysFn 0x04) (engEvsel n.val))

/-- EVWAIT (R349). -/
def execEvwait (n : Fin 96) (s : State) : Result := State.done (s.engIssue n.val (sysFn 0x05) (engEvwait n.val))

/-- SEMP (R350). -/
def execSemp (n : Fin 96) (s : State) : Result := State.done (s.engIssue n.val (sysFn 0x06) (engSemp n.val))

/-- SEMV. -/
def execSemv (n : Fin 96) (s : State) : Result := State.done (s.engIssue n.val (sysFn 0x07) (engSemv n.val))

/-- SEMTRY. -/
def execSemtry (n : Fin 96) (s : State) : Result := State.done (s.engIssue n.val (sysFn 0x08) (engSemtry n.val))

/-- ITAKE (R335). -/
def execItake (n : Fin 96) (s : State) : Result := State.done (s.engIssue n.val (sysFn 0x09) (engItake n.val))

/-- IREL (R335). -/
def execIrel (n : Fin 96) (s : State) : Result := State.done (s.engIssue n.val (sysFn 0x0A) (engIrel n.val))

/-- OALLOC (R337, R338). -/
def execOalloc (n : Fin 96) (s : State) : Result := State.done (s.engIssue n.val (sysFn 0x0B) (engOalloc n.val))

/-- OCOMMIT (R337, R338). -/
def execOcommit (n : Fin 96) (s : State) : Result := State.done (s.engIssue n.val (sysFn 0x0C) (engOcommit n.val))

/-- MBXRD (R351). -/
def execMbxrd (n : Fin 96) (s : State) : Result := State.done (s.engIssue n.val (sysFn 0x0D) (engMbxrd n.val))

/-- MBXSEND (R351). -/
def execMbxsend (n : Fin 96) (s : State) : Result := State.done (s.engIssue n.val (sysFn 0x0E) (engMbxsend n.val))

/-- HOLD (R354). -/
def execHold (n : Fin 96) (s : State) : Result := State.done (s.engIssue n.val (sysFn 0x0F) (engHold n.val))

/-- UNHOLD (R354). -/
def execUnhold (n : Fin 96) (s : State) : Result := State.done (s.engIssue n.val (sysFn 0x10) (engUnhold n.val))

/-- EXC (R355). -/
def execExc (n : Fin 96) (s : State) : Result := State.done (s.engIssue n.val (sysFn 0x11) (engExc n.val))

/-- CLAIM (R356). -/
def execClaim (n : Fin 96) (s : State) : Result := State.done (s.engIssue n.val (sysFn 0x12) (engClaim n.val))

/-- RELEASE (R356). -/
def execRelease (n : Fin 96) (s : State) : Result := State.done (s.engIssue n.val (sysFn 0x13) (engReleaseInstr n.val))

/-- VOP (Table 10-9). -/
def execVop (n : Fin 96) (s : State) : Result := State.done (s.engIssue n.val (opIn [0x30]) (engVop n.val))

/-- VIMM (Table 10-9). -/
def execVimm (n : Fin 96) (s : State) : Result := State.done (s.engIssue n.val (opIn [0x31]) (engVimm n.val))

/-- VCMP (Table 10-9). -/
def execVcmp (n : Fin 96) (s : State) : Result := State.done (s.engIssue n.val (opIn [0x32]) (engVcmp n.val))

/-- VSCL (Table 10-9). -/
def execVscl (n : Fin 96) (s : State) : Result := State.done (s.engIssue n.val (opIn [0x33]) (engVscl n.val))

/-- VLD (Table 10-9). -/
def execVld (n : Fin 96) (s : State) : Result := State.done (s.engIssue n.val (opIn [0x34]) (engVld n.val))

/-- VST (Table 10-9). -/
def execVst (n : Fin 96) (s : State) : Result := State.done (s.engIssue n.val (opIn [0x35]) (engVst n.val))

/-- VGATHER (Table 10-9). -/
def execVgather (n : Fin 96) (s : State) : Result := State.done (s.engIssue n.val (opIn [0x36]) (engVgather n.val))

/-! ## Windows, mailboxes, catchers, semaphores -/

/-- A write of IWi_CFG.EN = 1 (R333, R336). -/
def execIwEnable (path : Path) (i : Fin 32) (w : Word) (s : State) : Result :=
  State.done (s.onWrite path (R.iwCfg i) (fun s => s.iwCfgWrite path i (F.iwCfg.EN.put w 1)))

/-- A write of IWi_CFG.EN = 0. -/
def execIwDisable (path : Path) (i : Fin 32) (w : Word) (s : State) : Result :=
  State.done (s.onWrite path (R.iwCfg i) (fun s => s.iwCfgWrite path i (F.iwCfg.EN.put w 0)))

/-- A write of OWj_CFG.EN = 1 (R337-R339). -/
def execOwEnable (path : Path) (j : Fin 32) (w : Word) (s : State) : Result :=
  State.done (s.onWrite path (R.owCfg j) (fun s => s.owCfgWrite path j (F.owCfg.EN.put w 1)))

/-- A delivered line is written into an input window, or dropped (R333, R334). -/
def execIwLineWrite (i : Fin 32) (s : State) : Result := State.done (s.iwLineWrite i)

/-- The next line of an output window is delivered (R337, R340). -/
def execOwLineDeliver (j : Fin 32) (s : State) : Result := State.done (s.owLineDeliver j)

/-- A write of En_INBOX (R351). -/
def execEngineInboxWrite (path : Path) (n : Fin 96) (w : Word) (s : State) : Result :=
  State.done (s.onWrite path (R.engInbox n) (fun s => s.inboxWrite path n w))

/-- A pulse of a catcher's line (R349). -/
def execCatcherPulse (n : Fin 96) (c : Fin 4) (s : State) : Result := State.done (s.catcherPulse n c)

/-- A write of En_ECSELc (R349). -/
def execCatcherSelectWrite (path : Path) (n : Fin 96) (c : Fin 4) (w : Word) (s : State) : Result :=
  State.done (s.onWrite path (R.engEcsel n c) (fun s => s.catcherSelect n c w))

/-- A host write of PACK.TSEMt_k (R350). -/
def execSemaphoreHostWrite (path : Path) (t : Fin 12) (k : Fin 16) (w : Word) (s : State) : Result :=
  State.done (s.onWrite path (R.packTsem (16 * t + k)) (fun s => s.writePack path (R.packTsem (16 * t + k)) w))

/-- The last byte of an image has arrived (R359); the service image of a host boot starts E0 (R497, R501). -/
def State.imageDone (s : State) (rest : List Byte) : State :=
  match s.imageArrived rest with
  | (t, some (l, st)) =>
    let b := t.reg R.sysBootStat
    if st = 0 ∧ l.targets.contains 0 ∧ t.bit R.secBootInfo F.secBootInfo.HOST ∧ F.sysBootStat.STAGE.get b = 2 then t.bootStart else t
  | (t, none) => t

/-- IMAGE_LOAD_COMPLETE (R359). -/
def execImageLoadComplete (rest : List Byte) (s : State) : Result := State.done (s.imageDone rest)

end Sys2Proof.Machine
end

