-- ==== Sys2Proof/Machine/FabricCommands.lean ====
section
/-!
DEFINITION. Sys2Proof/Machine/FabricCommands.lean: the commands of DLF (Doldean Fabric).
-/
namespace Sys2Proof.Machine

/-! ## Enables (R438) -/

/-- A write of DLF.CFG with EN = 1 (Table 13-9). -/
def execFabricEnable (path : Path) (w : Word) (s : State) : Result := State.done (s.dlfCfgWrite path (F.dlfCfg.EN.put w 1))

/-- A write of DLF.CFG with EN = 0. -/
def execFabricDisable (path : Path) (w : Word) (s : State) : Result := State.done (s.dlfCfgWrite path (F.dlfCfg.EN.put w 0))

/-- A write of DLk_CTL with EN = 1. -/
def execPortEnable (path : Path) (k : Fin 4) (w : Word) (s : State) : Result :=
  State.done (s.dlCtlWrite path k (F.dlCtl.EN.put w 1))

/-- A write of DLk_CTL with EN = 0. -/
def execPortDisable (path : Path) (k : Fin 4) (w : Word) (s : State) : Result :=
  State.done (s.dlCtlWrite path k (F.dlCtl.EN.put w 0))

/-- A write of DLk_CTL with RETRAIN = 1. -/
def execPortRetrain (path : Path) (k : Fin 4) (w : Word) (s : State) : Result :=
  State.done (s.dlCtlWrite path k (F.dlCtl.RETRAIN.put w 1))

/-- A write of DLk_CTL with RELEASE = 1. -/
def execPortRelease (path : Path) (k : Fin 4) (w : Word) (s : State) : Result :=
  State.done (s.dlCtlWrite path k (F.dlCtl.RELEASE.put w 1))

/-- A write of DLk_CTL with QUAR = 1 (R464). -/
def execPortQuarantineForce (path : Path) (k : Fin 4) (w : Word) (s : State) : Result :=
  State.done (s.dlCtlWrite path k (F.dlCtl.QUAR.put w 1))

/-! ## Links (Table 13-6) -/

/-- A port's operation, with the election that a change into or out of ACTIVE brings (R445). -/
def State.onPort (s : State) (k : Fin 4) (f : State → State) : State := State.afterPort s (f s) k

/-- Signal on both receive lanes. -/
def execPortSignalDetect (k : Fin 4) (s : State) : Result :=
  State.done (if s.portState k = Dl.down then s.setPortState k Dl.train else s)

/-- The quarantine time has passed (R464). -/
def execQuarantineExpiry (k : Fin 4) (s : State) : Result := State.done (s.quarantineEnd k)

/-- No valid link word for 2 µs. -/
def execLinkWordTimeout (k : Fin 4) (s : State) : Result := State.done (s.linkLost k)

/-- No proof within 1 ms in AUTH (R441). -/
def execAuthTimeout (k : Fin 4) (s : State) : Result :=
  State.done (if s.portState k = Dl.auth then s.portQuarantine k Dl.qAuth else s)

/-- A port with both lanes trained that receives link words and packets. -/
def State.portHears (s : State) (k : Nat) : Bool :=
  s.portState k == Dl.hello || s.portState k == Dl.auth || s.portState k == Dl.active

/-- An IDLE word has no effect but that a valid link word has come, which LINK_WORD_TIMEOUT tells (R430). -/
def execIdle (_ : Fin 4) (s : State) : Result := State.done s

/-- A TRAIN word: with both lanes valid and aligned and the peer locked, TRAIN ends in HELLO. Its counter has no effect. -/
def execTrain (k : Fin 4) (_ : BitVec 16) (locked : BitVec 8) (aligned : Bool) (s : State) : Result :=
  State.done (if s.portState k = Dl.train ∧ locked = 1 ∧ aligned then s.enterHello k else s)

/-- A FLOW word (R434, R435). -/
def execFlow (k : Fin 4) (vc0 vc1 : BitVec 16) (ack nak : BitVec 8) (s : State) : Result :=
  State.done (if s.portHears k then s.onPort k (fun s => s.flowWord k vc0.toNat vc1.toNat ack.toNat nak.toNat) else s)

/-- TS_REQ is answered with TS_RSP, received at t2 and sent at t3 (R452); t1 is the requester's. -/
def execTsReq (k : Fin 4) (seq : BitVec 8) (_ t2 t3 : BitVec 56) (s : State) : Result :=
  State.done (if s.portState k = Dl.active then s.sendWord k 4 (bytesLE 1 seq.toNat ++ bytesLE 7 t2.toNat ++ bytesLE 7 t3.toNat)
    else s)

/-- TS_RSP, received at t4 (R452, R453). -/
def execTsRsp (k : Fin 4) (seq : BitVec 8) (t2 t3 t4 : BitVec 56) (s : State) : Result :=
  State.done (if s.portState k = Dl.active then s.timeResponse k seq.toNat t2.toNat t3.toNat t4.toNat else s)

/-- An LCLK word (R455-R457). -/
def execLclk (k : Fin 4) (tick : Word) (stamp : BitVec 48) (s : State) : Result :=
  State.done (s.onLclk k tick.toNat stamp.toNat)

/-- A LEAVE word. -/
def execLeave (k : Fin 4) (s : State) : Result := State.done (s.linkLost k)

/-! ## Packets -/

/-- The FLOW word that answers what a port has received: freed counts, ACK, NAK (R434, R435). -/
def State.sendFlow (s : State) (k : Nat) : State :=
  let x := s.port k
  if x.ack.isNone && x.nak.isNone || !(s.portHears k) then s
  else
    let code (o : Option Nat) : Nat := match o with | some l => 128 + l | none => 0
    (s.setPort k { x with ack := none, nak := none }).sendWord k 2
      (bytesLE 2 x.own0 ++ bytesLE 2 x.own1 ++ bytesLE 1 (code x.ack) ++ bytesLE 1 (code x.nak))

/-- A packet of a type is received; `f` is what this node does with one for it. -/
def State.onPacket (s : State) (k : Fin 4) (type : Nat) (p : Packet) (f : State → RxPacket → State) : State :=
  s.onPort k (fun s =>
    match s.receive k type p with
    | (t, none) => t.sendFlow k
    | (t, some q) => (f t q).sendFlow k)

/-- A MSG packet whose payload opens with this MTYPE, or an AUTH packet with this SUB, is received; another one is not this
command's. -/
def State.onMessage (s : State) (k : Fin 4) (type code : Nat) (p : Packet) (f : State → RxPacket → State) : State :=
  s.onPort k (fun s =>
    match s.receive k type p with
    | (t, none) => t.sendFlow k
    | (t, some q) => if numAt q.payload 0 1 = code then (f t q).sendFlow k else s)

/-- RD_REQ (R451). -/
def execRdReq (k : Fin 4) (p : Packet) (s : State) : Result :=
  State.done (s.onPacket k Dl.rdReq p (fun t q => t.onRequest k q))

/-- WR_REQ (R451). -/
def execWrReq (k : Fin 4) (p : Packet) (s : State) : Result :=
  State.done (s.onPacket k Dl.wrReq p (fun t q => t.onRequest k q))

/-- RD_RSP (R449, R450). -/
def execRdRsp (k : Fin 4) (p : Packet) (s : State) : Result :=
  State.done (s.onPacket k Dl.rdRsp p (fun t q => t.onResponse q))

/-- WR_RSP (R449, R450). -/
def execWrRsp (k : Fin 4) (p : Packet) (s : State) : Result :=
  State.done (s.onPacket k Dl.wrRsp p (fun t q => t.onResponse q))

/-- STITCH (R459, R460). -/
def execStitch (k : Fin 4) (p : Packet) (s : State) : Result :=
  State.done (s.onPacket k Dl.stitch p (fun t q => t.onStitch q))

/-- DISC (R445). -/
def execDisc (k : Fin 4) (p : Packet) (s : State) : Result :=
  State.done (s.onMessage k Dl.msg 1 p (fun t q => t.onDisc k q.payload))

/-- TOPO (R446). -/
def execTopo (k : Fin 4) (p : Packet) (s : State) : Result :=
  State.done (s.onMessage k Dl.msg 2 p (fun t q => t.onTopo k q.payload))

/-- ASSIGN (R446). -/
def execAssign (k : Fin 4) (p : Packet) (s : State) : Result :=
  State.done (s.onMessage k Dl.msg 3 p (fun t q => t.onAssign q.payload))

/-- ROUTE (R447). -/
def execRoute (k : Fin 4) (p : Packet) (s : State) : Result :=
  State.done (s.onMessage k Dl.msg 4 p (fun t q => t.onRoute q.payload))

/-- READY (R448). -/
def execReady (k : Fin 4) (p : Packet) (s : State) : Result :=
  State.done (s.onMessage k Dl.msg 5 p (fun t q => t.onReady q.payload))

/-- PING (R465). -/
def execPing (k : Fin 4) (p : Packet) (s : State) : Result :=
  State.done (s.onMessage k Dl.msg 6 p (fun t q => t.onPing q))

/-- PONG (R465). -/
def execPong (k : Fin 4) (p : Packet) (s : State) : Result :=
  State.done (s.onMessage k Dl.msg 7 p (fun t q => t.onPong q))

/-- MBOX (R465). -/
def execMbox (k : Fin 4) (p : Packet) (s : State) : Result :=
  State.done (s.onMessage k Dl.msg 8 p (fun t q => t.onMbox (numAt q.payload 4 1) (BitVec.ofNat 32 (numAt q.payload 8 4))))

/-- AUTH HELLO (R440). -/
def execAuthHello (k : Fin 4) (p : Packet) (s : State) : Result :=
  State.done (s.onMessage k Dl.auth_ 1 p (fun t q =>
    t.authHello k (numAt q.payload 4 8) ((q.payload.drop 12).take 16) (numAt q.payload 28 1)))

/-- AUTH belongs to the AUTH state or to a renewal under way; in ACTIVE it is a protocol violation (Table 13-10). -/
def State.inAuth (s : State) (k : Nat) (f : State → State) : State :=
  if s.portState k = Dl.auth ∨ (s.portState k = Dl.active ∧ (s.port k).rekey ∧ (s.port k).helloGot) then f s
  else s.portQuarantine k Dl.qProtocol

/-- AUTH PROOF (R441). -/
def execAuthProof (k : Fin 4) (p : Packet) (s : State) : Result :=
  State.done (s.onMessage k Dl.auth_ 2 p (fun t q => t.inAuth k (fun u => u.authProof k ((q.payload.drop 4).take 32))))

/-- AUTH FAIL (R441). -/
def execAuthFail (k : Fin 4) (p : Packet) (s : State) : Result :=
  State.done (s.onMessage k Dl.auth_ 3 p (fun t _ => t.inAuth k (fun u => u.portQuarantine k Dl.qAuth)))

/-- A packet for another node (R433). -/
def execPacketForward (k : Fin 4) (type : BitVec 8) (p : Packet) (s : State) : Result :=
  State.done (if type = 7 ∨ p.dst = 0 ∨ p.dst = 255 ∨ p.dst.toNat = s.nodeId then s
    else s.onPacket k type.toNat p (fun t _ => t))

/-! ## Time limits and errors of links -/

/-- 300 µs without progress in ACK (R435). -/
def execReplayTimeout (k : Fin 4) (s : State) : Result :=
  State.done (match (s.port k).replay with
    | [] => s
    | e :: _ => if s.portHears k then s.onPort k (fun s => s.replayFrom k e.1.lseq) else s)

/-- A partial packet has been held for HOLD_US: NAK; `orphans` flits of it that come afterwards are counted (R437). -/
def execPartialPacketTimeout (k : Fin 4) (orphans : Nat) (s : State) : Result :=
  State.done (if s.portState k = Dl.active then
      (((s.setPort k { s.port k with nak := some (s.port k).rxSeq }).count R.dlfHoldCnt).countBy R.dlfOrphanCnt orphans).sendFlow k
    else s)

/-- A request has had no response for RSP_US (R450). -/
def execFabricResponseTimeout (tag : BitVec 16) (s : State) : Result :=
  State.done (if s.fab.remotes.any (fun r => r.tag == tag.toNat) then
      let s1 := s.count R.dlfRspTmoCnt
      { s1 with work := s1.work ++ [Work.remoteDone tag.toNat St.timeout []] }
    else s)

/-- A packet has waited for credits for CRED_MS (Table 13-10). -/
def execCreditStarvation (k : Fin 4) (s : State) : Result :=
  State.done (match (s.port k).queue with
    | [] => s
    | p :: _ =>
      let enc := s.bit (R.dlStat k) F.dlStat.ENC && p.type != Dl.auth_
      if s.credits k (vcOf p.type) < flitsOf p.payload.length enc then s.onPort k (fun s => s.portQuarantine k Dl.qCredit) else s)

/-- A flit or link word with an uncorrectable syndrome, or a sync error (R430, R435). -/
def execFlitTransmissionError (k : Fin 4) (inPacket : Bool) (s : State) : Result :=
  State.done (if s.portHears k then s.onPort k (fun s => (s.transmissionError k inPacket).sendFlow k) else s)

/-- A violation of Table 13-10, cause PROTOCOL. -/
def execProtocolViolation (k : Fin 4) (s : State) : Result :=
  State.done (s.onPort k (fun s => s.portQuarantine k Dl.qProtocol))

/-- REKEY.MIN minutes or 2^40 packets: an encrypted link renews its session (R442). -/
def execSessionRekey (k : Fin 4) (s : State) : Result :=
  State.done (if s.portState k = Dl.active ∧ s.bit (R.dlStat k) F.dlStat.ENC ∧ !(s.port k).rekey then
      (s.setPort k { s.port k with rekey := true }).sendHello k
    else s)

/-! ## Remote accesses, formation and time -/

/-- The oldest access that waits goes out as a request packet (R449). -/
def execRemoteWindowAccess (s : State) : Result := State.done s.remoteSend

/-- DISC_MS has passed (R445). -/
def execDiscTimer (s : State) : Result := State.done s.sendDiscs

/-- SETTLE_MS without a change at the lead (R446). -/
def execFormationSettle (s : State) : Result := State.done s.settleFormation

/-- SYNC_US has passed: a child sends TS_REQ at t1 (R452). -/
def execTimeSyncTimer (t1 : BitVec 56) (s : State) : Result := State.done (s.timeRequest t1.toNat)

/-! ## Stitching -/

/-- The deadline of a sink channel (R460). -/
def execStitchDeadline (c : Fin 16) (s : State) : Result := State.done (s.stitchDeadline c)

/-- A write of STc_CFG with EN = 1 (R461). -/
def execStitchEnable (path : Path) (c : Fin 16) (w : Word) (s : State) : Result :=
  State.done (s.stCfgWrite path c (F.stCfg.EN.put w 1))

end Sys2Proof.Machine
end

