-- ==== Sys2Proof/Machine/Halter.lean ====
section
/-!
DEFINITION. Sys2Proof/Machine/Halter.lean: the halter port (R467-R479, R496), its flash, OTP and key commands (R485-R495) and the
health monitor (R480-R484). The halter port answers over SMBus and over the USB 2.0 management interface.
-/
namespace Sys2Proof.Machine

/-! ## Requests and responses (R468-R473, R496) -/

/-- The port's 8-bit write address (R467). -/
def State.hltAddress (s : State) : Nat := 2 * (0x58 + s.fld R.sysStrap F.sysStrap.HLT_ADDR)

/-- The bytes that a request's check covers: over SMBus the address, the command code, the count and the data, over USB without the
address (R468, R496). -/
def State.hltCovered (s : State) (code : Nat) (r : HaltRequest) : List Byte :=
  let l := [BitVec.ofNat 8 code, BitVec.ofNat 8 r.data.length] ++ r.data
  if r.usb then l else BitVec.ofNat 8 s.hltAddress :: l

/-- The request's check is right, or absent where that is allowed: PEC_REQ and the OTP and key commands require it (R468); a USB
transfer always carries it (R496). (DEDUCED: notes/assumptions/52.) -/
def State.hltChecked (s : State) (code : Nat) (r : HaltRequest) : Bool :=
  match r.check with
  | none => !(r.usb || s.bit R.hltCfg F.hltCfg.PEC_REQ || code == 0x21 || code == 0x22 || code == 0x23)
  | some c =>
    if r.usb then c == crc32c (s.hltCovered code r) else c.toNat == (crc8 (s.hltCovered code r)).toNat

/-- An accepted request still executes (R478). -/
def State.hltBusy (s : State) : Bool :=
  match s.hlt.waking with
  | some (some _) => true
  | _ => false

/-- A refused request: during execution it is not acknowledged on SMBus; a wrong or missing check discards it (R471). -/
def State.hltReject (s : State) (usb : Bool) : State :=
  if s.hltBusy then (if usb then s else s.count R.hltNackCnt)
  else (s.count R.hltPecCnt).alert 7

/-- The response buffer of a request that is done. -/
def State.hltAnswer (s : State) (status : Nat) (data : List Byte) : State :=
  { s with hlt := { s.hlt with resp := some (BitVec.ofNat 8 status :: data) } }

/-- A request with a command code: refused, or accepted, executed and answered (R471-R474). -/
def State.hltTake (s : State) (code : Nat) (r : HaltRequest) (f : State → State × Nat × List Byte) : State :=
  if s.hltBusy || !(s.hltChecked code r) then s.hltReject r.usb
  else
    let a := f { s with hlt := { s.hlt with seq := (s.hlt.seq + 1) % 128 } }
    a.1.hltAnswer a.2.1 a.2.2

/-- A request that fails with a status and has no effect. -/
def hltFail (s : State) (status : Nat) : State × Nat × List Byte := (s, status, [])

/-- The main side that a command needs runs (Table 14-1). -/
def State.mainRuns (s : State) : Bool := s.bit R.hltStat F.hltStat.MAIN_RUN

/-- The access path of a request. -/
def hltPath (r : HaltRequest) : Path := if r.usb then .usb2 else .smbus

/-- Byte `i` of the data, and a little-endian number. -/
def hltAt (r : HaltRequest) (i n : Nat) : Nat := natLE ((r.data.drop i).take n)

/-! ## Commands (Table 14-1) -/

/-- IDENT. -/
def State.hltIdent (s : State) (r : HaltRequest) : State × Nat × List Byte :=
  if r.data ≠ [] then hltFail s St.invalidField
  else (s, 0, bytesLE 4 (s.reg R.sysId).toNat ++ s.otpBytes 0 8 ++ bytesLE 4 (s.shown R.hltStat).toNat)

/-- An offset lies in the registers that answer without the main side (R474). -/
def hltOwn (off n : Nat) : Bool := decide (0x34000 ≤ off ∧ off + n ≤ 0x34800)

/-- REG_RD: N reads in ascending order. -/
def State.hltRegRd (s : State) (r : HaltRequest) : State × Nat × List Byte :=
  let off := hltAt r 0 3
  let n := hltAt r 3 1
  if r.data.length ≠ 4 ∨ off % 4 ≠ 0 ∨ n = 0 ∨ 60 < n ∨ 0x100000 < off + 4 * n then hltFail s St.invalidField
  else if !(s.mainRuns || hltOwn off (4 * n)) then hltFail s St.notReady
  else
    let a := (List.range n).foldl (fun (t : State × List Byte) i =>
      let u := t.1.readAccess (hltPath r) (off + 4 * i) 4
      (u, t.2 ++ bytesLE 4 u.rdata.toNat)) (s, [])
    (a.1, 0, a.2)

/-- REG_WR. A write of HLT.WAKE acts as the WAKE command and answers as it does. -/
def State.hltRegWr (s : State) (r : HaltRequest) : State × Nat × List Byte :=
  let off := hltAt r 0 3
  let w := BitVec.ofNat 32 (hltAt r 3 4)
  if r.data.length ≠ 7 ∨ 0x100000 ≤ off then hltFail s St.invalidField
  else if !(s.mainRuns || hltOwn off 4) then hltFail s St.notReady
  else if off = R.hltWake ∧ w.getLsbD 0 ∧ s.holdLocked then hltFail s St.contextBusy
  else (s.writeAccess (hltPath r) off 4 w, 0, [])

/-- RESET with a KIND. -/
def State.hltReset (s : State) (kind : Nat) (r : HaltRequest) : State × Nat × List Byte :=
  if r.data ≠ [BitVec.ofNat 8 kind] then hltFail s St.invalidField
  else match kind with
  | 1 => (s.haltReset false, 0, [])
  | 2 => if s.mainRuns then (s.regWrite (hltPath r) R.sysRstCtl 1, 0, []) else hltFail s St.notReady
  | 3 => (s.haltReset true, 0, [])
  | _ => if s.bit R.hltStat F.hltStat.HOLD && s.holdLocked then hltFail s St.contextBusy else (s.holdRelease, 0, [])

/-- The RESET and WAKE commands share a code: a request whose selecting byte names another row is not this command's. -/
def hltOther (r : HaltRequest) (mine lo hi : Nat) : Bool :=
  match r.data with
  | [b] => decide (lo ≤ b.toNat ∧ b.toNat ≤ hi) && b.toNat != mine
  | _ => false

/-- WAKE with ON = 1. -/
def State.hltWakeOn (s : State) (r : HaltRequest) : State × Nat × List Byte :=
  if r.data ≠ [1] then hltFail s St.invalidField
  else if s.holdLocked then hltFail s St.contextBusy
  else (s.wakeOn, 0, [])

/-- WAKE with ON = 0 executes until its 100 µs have passed (R478). (DEDUCED: notes/assumptions/53.) -/
def State.hltWakeOff (s : State) (r : HaltRequest) : State :=
  if s.hltBusy || !(s.hltChecked 0x05 r) then s.hltReject r.usb
  else
    let s1 := { s with hlt := { s.hlt with seq := (s.hlt.seq + 1) % 128 } }
    if r.data ≠ [0] then s1.hltAnswer St.invalidField [] else s1.wakeOff (some r.usb)

/-- The flash is in use: by a halter operation or by a calibration save (R488, R489). -/
def State.flashBusy (s : State) : Bool := s.bit R.hltFlStat F.hltFlStat.BUSY || s.bit R.hltStat F.hltStat.SAVE

/-- FL_RD. -/
def State.hltFlRd (s : State) (r : HaltRequest) : State × Nat × List Byte :=
  let n := hltAt r 4 1
  if r.data.length ≠ 5 ∨ n = 0 ∨ 240 < n then hltFail s St.invalidField
  else if s.flashBusy then hltFail s St.contextBusy
  else (s, 0, s.flashBytes (hltAt r 0 4) n)

/-- The region of a flash address may be erased and programmed by the halter (Table 14-4). -/
def State.flashOpen (s : State) (a : Nat) : Bool :=
  if a < 0x800000 then s.bit R.hltCfg F.hltCfg.BOOT_WE
  else if a < 0x1000000 then s.bit R.hltCfg F.hltCfg.CAL_WE
  else true

/-- A flash operation starts. (DESIGN CHOICE: notes/assumptions/54.) -/
def State.flashStart (s : State) (op a n : Nat) (l : List Byte) : State :=
  let s1 := (s.setFld R.hltFlStat F.hltFlStat.BUSY 1).setFld R.hltFlStat F.hltFlStat.OP op
  { s1 with hlt := { s1.hlt with flashOp := some (op, a, n, l) } }

/-- FL_ERASE. -/
def State.hltFlErase (s : State) (r : HaltRequest) : State × Nat × List Byte :=
  let a := hltAt r 0 4
  let n := if hltAt r 4 1 = 0 then 4096 else 65536
  if r.data.length ≠ 5 ∨ 1 < hltAt r 4 1 ∨ a % n ≠ 0 ∨ !(s.flashOpen a) then hltFail s St.invalidField
  else if s.flashBusy then hltFail s St.contextBusy
  else (s.flashStart 0x11 a n [], 0, [])

/-- FL_PROG. -/
def State.hltFlProg (s : State) (r : HaltRequest) : State × Nat × List Byte :=
  let a := hltAt r 0 4
  let l := r.data.drop 4
  if l.length = 0 ∨ 240 < l.length ∨ 256 < a % 256 + l.length ∨ !(s.flashOpen a) then hltFail s St.invalidField
  else if s.flashBusy then hltFail s St.contextBusy
  else (s.flashStart 0x12 a l.length l, 0, [])

/-- FL_STAT; the flash gives its JEDEC ID. -/
def State.hltFlStat (s : State) (jedec : BitVec 24) (r : HaltRequest) : State × Nat × List Byte :=
  if r.data ≠ [] then hltFail s St.invalidField
  else if s.flashBusy then hltFail s St.contextBusy
  else (s, 0, bytesLE 4 (s.reg R.hltFlStat).toNat ++ bytesLE 3 jedec.toNat)

/-- Flash bytes whose contents an unfinished operation leaves open. -/
def State.flashFree (s : State) (a : Nat) : Nat → State
  | 0 => s
  | n + 1 =>
    let f := s.free
    State.flashFree { f.2 with hlt := { f.2.hlt with
      flash := Table.set (fun _ => 0xFF) f.2.hlt.flash (a + n) (BitVec.ofNat 8 f.1) } } a n

/-- The flash operation ends, or is given up at its limit (R488). -/
def State.flashDone (s : State) (timeout : Bool) : State :=
  match s.hlt.flashOp with
  | none => s
  | some (op, a, n, l) =>
    let s1 := { s with hlt := { s.hlt with flashOp := none } }
    let s2 := if timeout then s1.flashFree a n else if op = 0x11 then s1.flashErase a n else s1.flashProgram a l
    ((s2.setFld R.hltFlStat F.hltFlStat.BUSY 0).setFld R.hltFlStat F.hltFlStat.RESULT (if timeout then St.timeout else 0)).alert 6

/-- OTP_RD: key slots read as 0 (R493). -/
def State.hltOtpRd (s : State) (r : HaltRequest) : State × Nat × List Byte :=
  let a := hltAt r 0 2
  let n := hltAt r 2 1
  if r.data.length ≠ 3 ∨ n = 0 ∨ 64 < n ∨ 1024 < a + n then hltFail s St.invalidField
  else (s, 0, (List.range n).map (fun i => if 0x80 ≤ a + i ∧ a + i < 0x100 then 0 else s.otpByte (a + i)))

/-- OTP_PROG may program a byte (Table 14-5, R490). -/
def State.otpOpen (s : State) (a : Nat) : Bool :=
  let lock := s.otpByte 0x49
  if 0x28 ≤ a ∧ a < 0x48 then !(lock.getLsbD 0)
  else if a = 0x48 then !(lock.getLsbD 1)
  else if a = 0x49 then true
  else if 0x100 ≤ a ∧ a < 0x400 then !(lock.getLsbD 2)
  else false

/-- Bytes programmed one after the other up to the first that fails to verify, whose bits are left open. -/
def State.otpRun (s : State) (a : Nat) : List (Byte × Bool) → State × Nat
  | [] => (s, 0)
  | (b, bad) :: rest =>
    if bad then
      let f := s.free
      (f.2.otpProgram a (b &&& BitVec.ofNat 8 f.1), St.busError)
    else State.otpRun (s.otpProgram a b) (a + 1) rest

/-- OTP_PROG; `stuck` names the data bytes that fail to verify (R490). -/
def State.hltOtpProg (s : State) (stuck : List Nat) (r : HaltRequest) : State × Nat × List Byte :=
  let a := hltAt r 0 2
  let l := r.data.drop 2
  let closed := (List.range l.length).any (fun i => !(s.otpOpen (a + i)))
  if l.length = 0 ∨ 32 < l.length ∨ !(s.bit R.hltCfg F.hltCfg.OTP_WE) ∨ closed ∨ s.bit (R.hltRail 11) F.hltRail.WARN then
    hltFail s St.invalidField
  else
    let q := s.otpRun a (l.zipIdx.map (fun e => (e.1, stuck.contains e.2)))
    (q.1.logEvent 11 0 a, q.2, [])

/-- FKEY_SET (R492). -/
def State.hltFkeySet (s : State) (stuck : Bool) (r : HaltRequest) : State × Nat × List Byte :=
  if r.data.length ≠ 32 ∨ r.data.all (fun b => b == 0) then hltFail s St.invalidField
  else match (List.range 4).find? (fun k => s.fkeyEmpty k && !(s.fkeyRevoked k)) with
  | none => hltFail s St.noResource
  | some k =>
    if stuck then
      let t := r.data.zipIdx.foldl (fun (t : State) e =>
        let f := t.free
        f.2.otpProgram (0x80 + 32 * k + e.2) (e.1 &&& BitVec.ofNat 8 f.1)) s
      (t.refreshKey, St.busError, [])
    else
      let t := r.data.zipIdx.foldl (fun (t : State) e => t.otpProgram (0x80 + 32 * k + e.2) e.1) s
      (t.refreshKey.logEvent 10 k 1, 0, [BitVec.ofNat 8 k])

/-- FKEY_REVOKE. -/
def State.hltFkeyRevoke (s : State) (r : HaltRequest) : State × Nat × List Byte :=
  let k := hltAt r 0 1
  if r.data.length ≠ 1 ∨ 3 < k then hltFail s St.invalidField
  else (((s.otpProgram 0x4A (BitVec.ofNat 8 (2 ^ k))).refreshKey).logEvent 10 k 2, 0, [])

/-- FKEY_KCV: the active slot and the first 4 bytes of HMAC-SHA-256(K, "KCV1"). -/
def State.hltFkeyKcv (s : State) (r : HaltRequest) : State × Nat × List Byte :=
  if r.data ≠ [] then hltFail s St.invalidField
  else match s.fkeyActive with
  | none => (s, 0, [0xFF, 0, 0, 0, 0])
  | some k => (s, 0, BitVec.ofNat 8 k :: (hmac (s.fkeySlot k) [0x4B, 0x43, 0x56, 0x31]).take 4)

/-- MBX_SEND: a word for E0 (R495). -/
def State.hltMbxSend (s : State) (r : HaltRequest) : State × Nat × List Byte :=
  if r.data.length ≠ 4 then hltFail s St.invalidField
  else if !s.mainRuns then hltFail s St.notReady
  else if !(s.inboxRoom 0 1) then hltFail s St.noResource
  else (s.inboxPut 0 (BitVec.ofNat 32 (hltAt r 0 4)) 0x02, 0, [])

/-- MBX_RECV: up to MAX words of the halter outbox, oldest first. -/
def State.hltMbxRecv (s : State) (r : HaltRequest) : State × Nat × List Byte :=
  let n := hltAt r 0 1
  if r.data.length ≠ 1 ∨ n = 0 ∨ 8 < n then hltFail s St.invalidField
  else
    let l := s.hlt.outbox.take n
    let s1 := { s with hlt := { s.hlt with outbox := s.hlt.outbox.drop n } }
    (s1.setFld R.hltStat F.hltStat.OUT_CNT s1.hlt.outbox.length, 0,
      BitVec.ofNat 8 l.length :: l.flatMap (fun w => bytesLE 4 w.toNat))

/-! ## Reading responses (R470, R472) -/

/-- The response block: RSP0, and once done the status and the data. -/
def State.hltResponse (s : State) : List Byte :=
  let seq := BitVec.ofNat 8 s.hlt.seq
  if s.hltBusy then [seq]
  else match s.hlt.resp with
  | none => [0x80, 0]
  | some l => (0x80 ||| seq) :: l

/-- What a Block Read of a command code returns: count, bytes, and the PEC over the whole transaction; over USB the bytes with
their CRC-32C (R496). -/
def State.hltRead (s : State) (usb : Bool) (code : Byte) : State :=
  let l := if code = 0 then s.hltResponse else []
  let block := BitVec.ofNat 8 l.length :: l
  let check := if usb then bytesLE 4 (crc32c block).toNat
    else [crc8 ([BitVec.ofNat 8 s.hltAddress, code, BitVec.ofNat 8 (s.hltAddress + 1)] ++ block)]
  { s with hlt := { s.hlt with answer := block ++ check } }

/-! ## Health monitor (R480-R484) -/

/-- Default warning limits of a rail in 0.1 mV (Tables 2-7 and 14-2). -/
def State.railDefault (s : State) (r : Nat) : Nat × Nat :=
  match r with
  | 0 => (7275, 7725)
  | 1 => (7760, 8240)
  | 2 => (8730, 9270)
  | 3 => (8245, 8755)
  | 9 => (10185, 10815)
  | 10 => (4850, 5150)
  | 4 => (17100, 18900)
  | 11 => (17100, 18900)
  | _ => if (s.fld R.sysIoStat F.sysIoStat.BANK_3V3).testBit (r - 5) then (31350, 34650) else (17100, 18900)

/-- A sample of rail r lies outside its warning limits (R482). -/
def State.railWarns (s : State) (r mv : Nat) : Bool :=
  let d := s.railDefault r
  let lo := s.fld (R.hltRwarn r) F.hltRwarn.LO
  let hi := s.fld (R.hltRwarn r) F.hltRwarn.HI
  decide (10 * mv < (if lo = 0 then d.1 else 10 * lo) ∨ (if hi = 0 then d.2 else 10 * hi) < 10 * mv)

/-- A rail sample; an absent rail reads 0 and is not judged (R480). -/
def State.railSample (s : State) (r mv : Nat) : State :=
  let warn := decide (mv ≠ 0) && s.railWarns r mv
  let s1 := (s.setFld (R.hltRail r) F.hltRail.MV mv).setFld (R.hltRail r) F.hltRail.WARN (if warn then 1 else 0)
  if warn then (s1.alert 2).logEvent 3 r mv else s1

/-- The die temperatures of one millisecond (R482, R483). -/
def State.tempSample (s : State) (temps : List Int) : State :=
  let hi := signed 16 (s.fld R.hltThr F.hltThr.HI)
  let crit := signed 16 (s.fld R.hltThr F.hltThr.CRIT)
  let t (n : Nat) : Int := temps.getD n 0
  let s1 := s.forEach 4 (fun n u => u.setFld (R.hltTs n) F.hltTs.T (unsigned 16 (t n)))
  let cool := (List.range 4).all (fun n => decide (t n < hi - 80))
  let s2 := if s1.hlt.hot && cool then { s1 with hlt := { s1.hlt with hot := false } } else s1
  let s3 := match (List.range 4).find? (fun n => decide (hi ≤ t n)) with
    | some n => if s2.hlt.hot then s2
      else (({ s2 with hlt := { s2.hlt with hot := true } }).alert 0).logEvent 1 n (unsigned 16 (t n))
    | none => s2
  let now := (List.range 4).filter (fun n => decide (crit ≤ t n))
  let twice := now.filter (fun n => s3.hlt.crit.contains n)
  let s4 := twice.foldl (fun u n => (u.alert 1).logEvent 2 n (unsigned 16 (t n))) { s3 with hlt := { s3.hlt with crit := now } }
  if !twice.isEmpty && s4.bit R.hltCfg F.hltCfg.CRIT_RST && !s4.hlt.critHold then
    ({ s4 with hlt := { s4.hlt with critHold := true } }).haltReset true
  else s4

/-- The samples of one millisecond, which AON_MS counts. -/
def State.healthSample (s : State) (temps : List Int) (rails : List Nat) : State :=
  let s1 := s.setReg R.hltAonMs (s.reg R.hltAonMs + 1)
  ((List.range 12).foldl (fun t r => t.railSample r (rails.getD r 0 % 65536)) (s1.tempSample temps))

/-! ## Timers of the AON domain -/

/-- 1 ms after AON power-up (R476). -/
def State.wakeTimer (s : State) : State :=
  if !s.hlt.wakeDue then s
  else
    let s1 := { s with hlt := { s.hlt with wakeDue := false } }
    if (s1.otpByte 0x48).getLsbD 0 then s1 else s1.setWake 1

/-- 100 µs after RESET KIND 1 (R477). -/
def State.coldEnd (s : State) : State :=
  if !s.hlt.pulse || s.hlt.waking.isSome then s
  else ({ s with hlt := { s.hlt with pulse := false } }).sampleStraps.mainRelease

/-- 100 µs after a WAKE with ON = 0: HLT_WAKE falls and the command completes (R478). -/
def State.wakeOffEnd (s : State) : State :=
  match s.hlt.waking with
  | none => s
  | some who =>
    let s1 := (({ s with hlt := { s.hlt with pulse := false, waking := none } }).setWake 0).logEvent 8 0 0
    if who.isSome then s1.hltAnswer 0 [] else s1

end Sys2Proof.Machine
end

