-- ==== Sys2Proof/Machine/HalterCommands.lean ====
section
/-!
DEFINITION. Sys2Proof/Machine/HalterCommands.lean: the commands of HLT (Halter Port, Health Monitor and Secure Store).
-/
namespace Sys2Proof.Machine

/-! ## The commands of Table 14-1: each row is a request with its command code -/

/-- IDENT. -/
def execIdent (r : HaltRequest) (s : State) : Result := State.done (s.hltTake 0x01 r (fun s => s.hltIdent r))

/-- REG_RD (R474). -/
def execRegRd (r : HaltRequest) (s : State) : Result := State.done (s.hltTake 0x02 r (fun s => s.hltRegRd r))

/-- REG_WR (R474). -/
def execRegWr (r : HaltRequest) (s : State) : Result := State.done (s.hltTake 0x03 r (fun s => s.hltRegWr r))

/-- A RESET request of one KIND; one of another KIND is not this row's. -/
def State.hltResetRow (s : State) (kind : Nat) (r : HaltRequest) : State :=
  if hltOther r kind 1 4 then s else s.hltTake 0x04 r (fun s => s.hltReset kind r)

/-- RESET KIND 1 (R477). -/
def execResetCold (r : HaltRequest) (s : State) : Result := State.done (s.hltResetRow 1 r)

/-- RESET KIND 2 (R477). -/
def execResetWarm (r : HaltRequest) (s : State) : Result := State.done (s.hltResetRow 2 r)

/-- RESET KIND 3 (R477). -/
def execResetHold (r : HaltRequest) (s : State) : Result := State.done (s.hltResetRow 3 r)

/-- RESET KIND 4 (R477, R483). -/
def execResetRelease (r : HaltRequest) (s : State) : Result := State.done (s.hltResetRow 4 r)

/-- WAKE with ON = 0 (R478). -/
def execWakeOff (r : HaltRequest) (s : State) : Result := State.done (if hltOther r 0 0 1 then s else s.hltWakeOff r)

/-- WAKE with ON = 1 (R478, R483). -/
def execWakeOn (r : HaltRequest) (s : State) : Result :=
  State.done (if hltOther r 1 0 1 then s else s.hltTake 0x05 r (fun s => s.hltWakeOn r))

/-- FL_RD. -/
def execFlRd (r : HaltRequest) (s : State) : Result := State.done (s.hltTake 0x10 r (fun s => s.hltFlRd r))

/-- FL_ERASE (R488). -/
def execFlErase (r : HaltRequest) (s : State) : Result := State.done (s.hltTake 0x11 r (fun s => s.hltFlErase r))

/-- FL_PROG (R488). -/
def execFlProg (r : HaltRequest) (s : State) : Result := State.done (s.hltTake 0x12 r (fun s => s.hltFlProg r))

/-- FL_STAT. -/
def execFlStat (r : HaltRequest) (jedec : BitVec 24) (s : State) : Result :=
  State.done (s.hltTake 0x13 r (fun s => s.hltFlStat jedec r))

/-- OTP_RD (R493). -/
def execOtpRd (r : HaltRequest) (s : State) : Result := State.done (s.hltTake 0x20 r (fun s => s.hltOtpRd r))

/-- OTP_PROG (R490). -/
def execOtpProg (r : HaltRequest) (stuck : List Nat) (s : State) : Result :=
  State.done (s.hltTake 0x21 r (fun s => s.hltOtpProg stuck r))

/-- FKEY_SET (R492). -/
def execFkeySet (r : HaltRequest) (stuck : Bool) (s : State) : Result :=
  State.done (s.hltTake 0x22 r (fun s => s.hltFkeySet stuck r))

/-- FKEY_REVOKE (R492). -/
def execFkeyRevoke (r : HaltRequest) (s : State) : Result := State.done (s.hltTake 0x23 r (fun s => s.hltFkeyRevoke r))

/-- FKEY_KCV (R492). -/
def execFkeyKcv (r : HaltRequest) (s : State) : Result := State.done (s.hltTake 0x24 r (fun s => s.hltFkeyKcv r))

/-- MBX_SEND (R495). -/
def execMbxSend (r : HaltRequest) (s : State) : Result := State.done (s.hltTake 0x30 r (fun s => s.hltMbxSend r))

/-- MBX_RECV (R495). -/
def execMbxRecv (r : HaltRequest) (s : State) : Result := State.done (s.hltTake 0x31 r (fun s => s.hltMbxRecv r))

/-! ## The bus -/

/-- A Block Read of command code 0x00, or an IN transfer (R472, R496). -/
def execResponseRead (usb : Bool) (code : Byte) (s : State) : Result := State.done (s.hltRead usb code)

/-- A Receive Byte at the Alert Response Address (R470). -/
def execAlertResponse (s : State) : Result :=
  State.done (if s.hlt.alertN then
      { s with hlt := { s.hlt with answer := [BitVec.ofNat 8 s.hltAddress], alertN := false } }
    else s)

/-- The command codes of Table 14-1. -/
def hltCodes : List Nat :=
  [0x01, 0x02, 0x03, 0x04, 0x05, 0x10, 0x11, 0x12, 0x13, 0x20, 0x21, 0x22, 0x23, 0x24, 0x30, 0x31]

/-- A request that is not accepted (R471), or whose code is not listed (R473). -/
def execHalterRequestReject (code : Byte) (r : HaltRequest) (s : State) : Result :=
  State.done (if s.hltBusy || !(s.hltChecked code.toNat r) then s.hltReject r.usb
    else if hltCodes.contains code.toNat then s
    else s.hltTake code.toNat r (fun s => hltFail s St.invalidOpcode))

/-- SCL held low for more than 25 ms (R469). -/
def execHalterBusTimeout (s : State) : Result := State.done ((s.count R.hltTmoCnt).alert 8)

/-- A management transfer over USB 2.0: any command code, checked by its CRC-32C (R496). -/
def execUsbMgmtRequest (code : Byte) (data : List Byte) (crc : Word) (jedec : BitVec 24) (s : State) : Result :=
  let r : HaltRequest := { usb := true, data := data, check := some crc }
  let run (f : State → State × Nat × List Byte) : State := s.hltTake code.toNat r f
  State.done (match code.toNat with
  | 0x01 => run (fun s => s.hltIdent r)
  | 0x02 => run (fun s => s.hltRegRd r)
  | 0x03 => run (fun s => s.hltRegWr r)
  | 0x04 => run (fun s => if 1 ≤ hltAt r 0 1 ∧ hltAt r 0 1 ≤ 4 then s.hltReset (hltAt r 0 1) r else hltFail s St.invalidField)
  | 0x05 => if data = [1] then run (fun s => s.hltWakeOn r) else s.hltWakeOff r
  | 0x10 => run (fun s => s.hltFlRd r)
  | 0x11 => run (fun s => s.hltFlErase r)
  | 0x12 => run (fun s => s.hltFlProg r)
  | 0x13 => run (fun s => s.hltFlStat jedec r)
  | 0x20 => run (fun s => s.hltOtpRd r)
  | 0x21 => run (fun s => s.hltOtpProg [] r)
  | 0x22 => run (fun s => s.hltFkeySet false r)
  | 0x23 => run (fun s => s.hltFkeyRevoke r)
  | 0x24 => run (fun s => s.hltFkeyKcv r)
  | 0x30 => run (fun s => s.hltMbxSend r)
  | 0x31 => run (fun s => s.hltMbxRecv r)
  | _ => run (fun s => hltFail s St.invalidOpcode))

/-! ## Timers and samples of the AON domain -/

/-- 1 ms after AON power-up (R476). -/
def execHalterWakeTimer (s : State) : Result := State.done s.wakeTimer

/-- The flash operation ends, or is given up at its limit (R488). -/
def execFlashOperationDone (timeout : Bool) (s : State) : Result := State.done (s.flashDone timeout)

/-- The monitor's samples of one millisecond (R480-R484). -/
def execHealthSample (temps : List Int) (rails : List Nat) (s : State) : Result := State.done (s.healthSample temps rails)

/-- 100 µs after RESET KIND 1 (R477). -/
def execHalterColdResetEnd (s : State) : Result := State.done s.coldEnd

/-- 100 µs after a WAKE with ON = 0 (R478). -/
def execWakeOffDelayExpiry (s : State) : Result := State.done s.wakeOffEnd

end Sys2Proof.Machine
end

