-- ==== Sys2Proof/Machine/HostCommands.lean ====
section
/-!
DEFINITION. Sys2Proof/Machine/HostCommands.lean: the commands of HQE (Host Link, Queues and Stream Contexts).
-/
namespace Sys2Proof.Machine

/-! ## Doorbells, queues and interrupts -/

/-- A submission-tail doorbell (R370, R382). -/
def execSqTailDoorbell (q : Fin 1024) (w : Word) (s : State) : Result := State.done (s.tailDoorbell q w)

/-- A completion-head doorbell (R370, R382). -/
def execCqHeadDoorbell (q : Fin 1024) (w : Word) (s : State) : Result := State.done (s.headDoorbell q w)

/-- A command is fetched; `entry` is its 64 bytes in host memory (R374-R376). -/
def execCommandFetch (entry : List Byte) (s : State) : Result := State.done (s.fetchCommand entry)

/-- COAL_US has passed since the first unsignalled completion (R380). -/
def execCoalesceTimeout (q : Fin 1024) (s : State) : Result := State.done (s.coalesce q)

/-- A vector is unmasked (R380). -/
def execMsixUnmask (path : Path) (v : Fin 256) (w : Word) (s : State) : Result :=
  State.done (s.msixWrite path v (F.hqeMsixCtrl.MASK.put w 0))

/-- A host read that is outstanding fails: a fetch of queue `q`, or a read for its started command `tag` (R381). -/
def State.hostReadOutcome (s : State) (q : Nat) (tag : Option Nat) (addr : Nat) (timeout : Bool) : State :=
  let live := match tag with
    | none => (s.qp q).isSome
    | some t => (s.cmdOf q t).isSome
  if live then s.hostReadFail q tag addr timeout else s

/-- A host read has had no answer within FETCH_TMO. -/
def execHostFetchTimeout (q : Fin 1024) (tag : Option (BitVec 16)) (addr : BitVec 64) (s : State) : Result :=
  State.done (s.hostReadOutcome q (tag.map (fun t => t.toNat)) addr.toNat true)

/-- A host read has ended with an error completion. -/
def execHostReadError (q : Fin 1024) (tag : Option (BitVec 16)) (addr : BitVec 64) (s : State) : Result :=
  State.done (s.hostReadOutcome q (tag.map (fun t => t.toNat)) addr.toNat false)

/-! ## The link -/

/-- The host watchdog expires (R385). -/
def execHostWatchdogExpiry (s : State) : Result := State.done s.watchdog

/-- The link or the tunnel goes down (R385). -/
def execHostLinkDown (s : State) : Result := State.done s.linkDown

/-- A link comes up (R367). -/
def execLinkUp (tunnel usb4 : Bool) (s : State) : Result := State.done (s.linkUp tunnel usb4)

/-- D3hot (R368). -/
def execPciD3hot (s : State) : Result := State.done s.enterD3hot

/-- A write of HQE.AQ_CFG (R383). -/
def execAdminQueueEnable (path : Path) (w : Word) (s : State) : Result := State.done (s.aqCfgWrite path w)

/-! ## Commands: the one of a queue with a tag starts (R375) -/

/-- Start a command that reads the host: in ring-bridge mode once its answers have come. -/
def State.startWith (s : State) (q tag op : Nat) (given : List Byte) (f : Cmd → List Byte → State → State) : State :=
  match s.hostData false q tag given with
  | none => s
  | some d => s.startCmd q tag op (fun c t => (f c d t).dropReads false q tag)

/-- ASYNC_EVENT meets a queued event (R399). -/
def execAsyncEventDeliver (s : State) : Result := State.done s.deliverAsync

/-- IDENTIFY. -/
def execIdentify (q : Fin 1024) (tag : BitVec 16) (s : State) : Result :=
  State.done (s.startCmd q tag.toNat Op.identify (fun c s => s.doIdentify c))

/-- CREATE_QP. -/
def execCreateQp (q : Fin 1024) (tag : BitVec 16) (s : State) : Result :=
  State.done (s.startCmd q tag.toNat Op.createQp (fun c s => s.doCreateQp c))

/-- DELETE_QP. -/
def execDeleteQp (q : Fin 1024) (tag : BitVec 16) (s : State) : Result :=
  State.done (s.startCmd q tag.toNat Op.deleteQp (fun c s => s.doDeleteQp c))

/-- ABORT (R388). -/
def execAbort (q : Fin 1024) (tag : BitVec 16) (s : State) : Result :=
  State.done (s.startCmd q tag.toNat Op.abort (fun c s => s.doAbort c))

/-- ASYNC_EVENT (R399). -/
def execAsyncEvent (q : Fin 1024) (tag : BitVec 16) (s : State) : Result :=
  State.done (s.startCmd q tag.toNat Op.asyncEvent (fun c s => s.doAsyncEvent c))

/-- CLOSE_STREAM (R393). -/
def execCloseStream (q : Fin 1024) (tag : BitVec 16) (s : State) : Result :=
  State.done (s.startCmd q tag.toNat Op.closeStream (fun c s => s.doCloseStream c))

/-- SAVE_CONTEXT (R314). -/
def execSaveContext (q : Fin 1024) (tag : BitVec 16) (s : State) : Result :=
  State.done (s.startCmd q tag.toNat Op.saveContext (fun c s => s.doSaveContext c))

/-- SCAN_JOB (R394). -/
def execScanJob (q : Fin 1024) (tag : BitVec 16) (s : State) : Result :=
  State.done (s.startCmd q tag.toNat Op.scanJob (fun c s => s.doScanJob c))

/-- SET_GAIT_POLICY. -/
def execSetGaitPolicy (q : Fin 1024) (tag : BitVec 16) (s : State) : Result :=
  State.done (s.startCmd q tag.toNat Op.setGaitPolicy (fun c s => s.doSetGaitPolicy c))

/-- CALIBRATE (R397). -/
def execCalibrate (q : Fin 1024) (tag : BitVec 16) (s : State) : Result :=
  State.done (s.startCmd q tag.toNat Op.calibrate (fun c s => s.doCalibrate c))

/-- READ_AUX. -/
def execReadAux (q : Fin 1024) (tag : BitVec 16) (s : State) : Result :=
  State.done (s.startCmd q tag.toNat Op.readAux (fun c s => s.doReadAux c))

/-- TRANSPORT. -/
def execTransport (q : Fin 1024) (tag : BitVec 16) (s : State) : Result :=
  State.done (s.startCmd q tag.toNat Op.transport (fun c s => s.doTransport c))

/-- SCRUB (R398). -/
def execScrub (q : Fin 1024) (tag : BitVec 16) (s : State) : Result :=
  State.done (s.startCmd q tag.toNat Op.scrub (fun c s => s.doScrub c))

/-- OPEN_STREAM; `block` is its parameter block in host memory (R389). -/
def execOpenStream (q : Fin 1024) (tag : BitVec 16) (block : List Byte) (s : State) : Result :=
  State.done (s.startWith q tag.toNat Op.openStream block (fun c d s => s.doOpenStream c d))

/-- POST_BUFFER; `sgl` is its scatter list as fetched (R384, R390, R392). -/
def execPostBuffer (q : Fin 1024) (tag : BitVec 16) (sgl : List (Nat × Nat × Nat)) (s : State) : Result :=
  State.done (s.startCmd q tag.toNat Op.postBuffer (fun c s => s.doPostBuffer c sgl))

/-- RESTORE_CONTEXT; `image` is the record in host memory (R315). -/
def execRestoreContext (q : Fin 1024) (tag : BitVec 16) (image : List Byte) (s : State) : Result :=
  State.done (s.startWith q tag.toNat Op.restoreContext image (fun c d s => s.doRestoreContext c d))

/-- LOAD_IMAGE; `header` is the image's header as it arrives (R359). -/
def execLoadImage (q : Fin 1024) (tag : BitVec 16) (sgl : List (Nat × Nat × Nat)) (header : List Byte) (s : State) : Result :=
  State.done (s.startCmd q tag.toNat Op.loadImage (fun c s => s.doLoadImage c sgl header))

/-- A closing stream has placed its last byte (R393). -/
def execCloseStreamComplete (sc : Fin 3072) (s : State) : Result := State.done (s.tryClose sc)

/-- The snapshots that wait for a line-group boundary are taken (R314). -/
def execContextSnapshot (sc : Fin 3072) (s : State) : Result :=
  State.done (if (s.stream sc).saves.isEmpty then s else s.takeSnapshots sc)

/-- The path has reached the state that TRANSPORT waits for. -/
def execTransportComplete (q : Fin 1024) (tag : BitVec 16) (s : State) : Result := State.done (s.transportComplete q tag.toNat)

/-- The zero fill of a SCRUB ends (R398). -/
def execScrubComplete (q : Fin 1024) (tag : BitVec 16) (s : State) : Result := State.done (s.scrubComplete q tag.toNat)

/-! ## FABRIC_OP (R465) -/

/-- FABRIC_OP STATUS. -/
def execFabricStatus (q : Fin 1024) (tag : BitVec 16) (s : State) : Result :=
  State.done (s.fabricOp q tag.toNat 1 (fun c s => s.fabStatus c))

/-- FABRIC_OP REFORM. -/
def execFabricReform (q : Fin 1024) (tag : BitVec 16) (s : State) : Result :=
  State.done (s.fabricOp q tag.toNat 2 (fun c s => s.fabReform c))

/-- FABRIC_OP PING. -/
def execFabricPing (q : Fin 1024) (tag : BitVec 16) (s : State) : Result :=
  State.done (s.fabricOp q tag.toNat 3 (fun c s => s.fabPing c))

/-- FABRIC_OP REMOTE_READ. -/
def execRemoteRead (q : Fin 1024) (tag : BitVec 16) (s : State) : Result :=
  State.done (s.fabricOp q tag.toNat 4 (fun c s => s.fabCopy c false []))

/-- FABRIC_OP QUARANTINE. -/
def execFabricQuarantine (q : Fin 1024) (tag : BitVec 16) (s : State) : Result :=
  State.done (s.fabricOp q tag.toNat 6 (fun c s => s.fabQuarantine c))

/-- FABRIC_OP REMOTE_WRITE; `data` is the host's data. -/
def execRemoteWrite (q : Fin 1024) (tag : BitVec 16) (data : List Byte) (s : State) : Result :=
  State.done (match s.hostData false q tag.toNat data with
    | none => s
    | some d => s.fabricOp q tag.toNat 5 (fun c s => s.fabCopy c true d))

/-- FABRIC_OP MAILBOX; `full` says whether the inbox of another node had no room. -/
def execFabricMailbox (q : Fin 1024) (tag : BitVec 16) (full : Bool) (s : State) : Result :=
  State.done (s.fabricOp q tag.toNat 7 (fun c s => s.fabMailbox c full))

/-- A PING has had no PONG for 1 ms. -/
def execFabricPingTimeout (q : Fin 1024) (tag : BitVec 16) (s : State) : Result := State.done (s.pingTimeout q tag.toNat)

/-- A QUARANTINE release has not reached ACTIVE within 100 ms. -/
def execQuarantineReleaseTimeout (q : Fin 1024) (tag : BitVec 16) (s : State) : Result :=
  State.done (s.releaseTimeout q tag.toNat)

/-! ## The ring bridge (R400, R401) -/

/-- A write of BAR2: the doorbells of queue pair q stand at 16q (R370). -/
def State.bar2Write (s : State) (off : Nat) (w : Word) : State :=
  if off % 4 ≠ 0 then s.errAcc .bar0 off
  else if 0x4000 ≤ off then s
  else if off % 16 = 0 then s.tailDoorbell (off / 16) w
  else if off % 16 = 4 then s.headDoorbell (off / 16) w
  else s

/-- A REG_WR message: ADDR bit 63 names BAR2. -/
def State.bridgeWrite (s : State) (addr : BitVec 64) (w : Word) (crcOk : Bool) : State :=
  if !s.bridge then s
  else if !crcOk then s.bridgeBad
  else if addr.getLsbD 63 then s.bar2Write (addr.toNat % 2 ^ 63) w
  else s.writeAccess .bar0 addr.toNat 4 w

/-- BRIDGE_REG_WR (R400). -/
def execBridgeRegWr (addr : BitVec 64) (w : Word) (crcOk : Bool) (s : State) : Result := State.done (s.bridgeWrite addr w crcOk)

/-- A REG_RD message; REG_DATA carries the value read. BAR2 reads as 0. -/
def State.bridgeRead (s : State) (addr : BitVec 64) (crcOk : Bool) : State :=
  if !s.bridge then s
  else if !crcOk then s.bridgeBad
  else if addr.getLsbD 63 then
    { (if addr.toNat % 4 ≠ 0 then s.errAcc .bar0 (addr.toNat % 2 ^ 63) else s) with rdata := 0 }
  else s.readAccess .bar0 addr.toNat 4

/-- BRIDGE_REG_RD (R400). -/
def execBridgeRegRd (addr : BitVec 64) (crcOk : Bool) (s : State) : Result := State.done (s.bridgeRead addr crcOk)

/-- A MEM_DATA message. -/
def execMemData (id : Word) (data : List Byte) (crcOk : Bool) (s : State) : Result := State.done (s.memData id.toNat data crcOk)

/-- A MEM_ERR message. -/
def execMemErr (id : Word) (crcOk : Bool) (s : State) : Result := State.done (s.memErr id.toNat crcOk)

end Sys2Proof.Machine
end

