-- ==== Sys2Proof/Machine/ImagingCommands.lean ====
section
/-!
DEFINITION. Sys2Proof/Machine/ImagingCommands.lean: the commands of SHD and GEO (Shading, Reference Strip and Colour-Line Alignment; Edges,
Skew and the Document Record).
-/
namespace Sys2Proof.Machine

/-! ## Shading -/

/-- GROUP_ENABLE (R156). -/
def execGroupEnable (path : Path) (g : Fin 4) (w : Word) (s : State) : Result :=
  State.done (s.onWrite path (R.grpCtl g) (fun s => s.grpCtlWrite path g (F.grpCtl.EN.put w 1)))

/-- GROUP_DISABLE (R180). -/
def execGroupDisable (path : Path) (g : Fin 4) (w : Word) (s : State) : Result :=
  State.done (s.onWrite path (R.grpCtl g) (fun s => s.grpCtlWrite path g (F.grpCtl.EN.put w 0)))

/-- A write of GRPg_CTL.FULL_REQ = 1 (R174). -/
def execFullRecalRequest (path : Path) (g : Fin 4) (w : Word) (s : State) : Result :=
  State.done (s.onWrite path (R.grpCtl g) (fun s => s.grpCtlWrite path g (F.grpCtl.FULL_REQ.put w 1)))

/-- A write of PLn_CFG.EN = 1; with no strip selector its Next document fields act at once while the group's program is idle (R169). -/
def execPlaneEnableWrite (path : Path) (n : Fin 48) (w : Word) (s : State) : Result :=
  State.done (s.onWrite path (R.plCfg n) (fun s =>
    let s1 := s.plCfgWrite path n (F.plCfg.EN.put w 1)
    s1.docAtOnce (s1.fld (R.plCfg n) F.plCfg.GRP) (R.plCfg n)))

/-- No temperature result for 1 s makes T bad (R166). -/
def execTempSourceTimeout (g : Fin 4) (s : State) : Result :=
  State.done (if s.bit (R.grpTsrc g) F.grpTsrc.HOST then s
    else (s.setGroup g { s.group g with tempLate := true }).setFld (R.grpStat g) F.grpStat.TEMP_BAD 1)

/-- A host write through the shading-store window. -/
def execShadingWindowWrite (off : BitVec 17) (w : Word) (s : State) : Result :=
  let o := off.toNat / 4 * 4
  State.done (s.onWrite .bar0 (0xE0000 + o) (fun s => s.shadeWindow .bar0 o w))

/-- A converted sample goes through shading (R158-R162). -/
def execShadeSample (last poisoned : Bool) (s : State) : Result := State.done (s.shadeNext last poisoned)

/-- A pulse of GRPg_STRIP_SEL: the strip event of a group (R168), and SEAM takes its bias (R241). -/
def execStripEvent (g : Fin 4) (s : State) : Result :=
  State.done (if s.selOn (R.grpStripSel g) then (s.stripEvent g).seamBias g else s)

/-- A rejection or a commit counts for the CALIBRATE commands that wait for the group (R397). -/
def State.groupDone (s : State) (g status : Nat) : State := s.calibGroup g status

/-- COMPUTE of a full capture ends (R177-R179). -/
def execComputeComplete (g : Fin 4) (s : State) : Result :=
  State.done (if s.grpState g ≠ 4 then s
    else
      let t := s.computeComplete g
      if t.grpState g = 1 then t.groupDone g St.calRejected else t)

/-- COPY ends: the commit, with its save (R179, R189). -/
def execCopyComplete (g : Fin 4) (s : State) : Result :=
  State.done (if s.grpState g ≠ 5 then s
    else
      let t := (s.copyComplete g).groupDone g (s.fld (R.grpStat g) F.grpStat.RESULT)
      if s.bit R.shdRecCtl F.shdRecCtl.AUTO then t.saveRequest else t)

/-! ## The calibration record (R189, R190) -/

/-- A write of SHD.REC_CTL with SAVE = 1. -/
def execCalSaveRequest (path : Path) (w : Word) (s : State) : Result :=
  State.done (s.onWrite path R.shdRecCtl (fun s => s.recCtlWrite path (F.shdRecCtl.SAVE.put w 1)))

/-- The save takes its snapshot and erases the inactive slot. -/
def execCalSaveStart (s : State) : Result := State.done s.saveStart

/-- The save's flash operations have ended. -/
def execCalSaveComplete (flashOk : Bool) (s : State) : Result := State.done (s.saveComplete flashOk)

/-! ## Geometry -/

/-- A pulse of a unit's open selector (R192). -/
def execWindowOpen (u : Fin 4) (s : State) : Result :=
  State.done (if s.selOn (R.uOpenSel u) then s.windowOpen u else s)

/-- A pulse of a unit's close selector (R193). -/
def execWindowCloseEvent (u : Fin 4) (s : State) : Result :=
  State.done (if s.selOn (R.uCloseSel u) then s.windowCloseEvent u else s)

/-- A write of TRKt_CLOSE (R210). -/
def execTrackCloseWrite (path : Path) (t : Fin 4) (w : Word) (s : State) : Result :=
  State.done (s.onWrite path (R.trkClose t) (fun s => s.trkCloseWrite t w))

/-- A delivered line is evaluated (R192-R199). -/
def execGeoLineEvaluate (u : Fin 4) (s : State) : Result := State.done (s.geoEvaluate u)

/-- The edge fit of a side ends (R200-R206). -/
def execEdgeFitComplete (u : Fin 4) (s : State) : Result := State.done (s.edgeFitComplete u)

/-- HOLD.TMO_US has passed since the last window closed (R208). -/
def execRecordHoldTimeout (t : Fin 4) (s : State) : Result := State.done (s.recordHoldTimeout t)

/-- HQE takes the bytes of the oldest complete record of a track for context TRKt_SC.SC, and its slot is free (R208, R391). -/
def State.recordRelease (s : State) (t : Nat) : State :=
  let done := (s.slotsOf t).filter (fun k => (s.record k).busy && (s.record k).complete)
  let oldest := done.foldl (fun (a : Option Nat) k => match a with
    | none => some k
    | some j => if (s.record k).seq < (s.record j).seq then some k else some j) none
  match oldest with
  | none => s
  | some k =>
    let l := (s.record k).bytes.map (fun b => (b, false))
    ((s.messageItem (s.fld (R.trkSc t) F.trkSc.SC) t l).setRecord k {}).refreshTrack t

/-- HQE takes a complete record. -/
def execRecordSlotRelease (t : Fin 4) (s : State) : Result := State.done (s.recordRelease t)

/-- A write of Uu_CFG.EN = 1. -/
def execUnitEnable (path : Path) (u : Fin 4) (w : Word) (s : State) : Result :=
  State.done (s.onWrite path (R.uCfg u) (fun s => s.uCfgWrite path u (F.uCfg.EN.put w 1)))

/-- A write of Uu_CFG.EN = 0. -/
def execUnitDisable (path : Path) (u : Fin 4) (w : Word) (s : State) : Result :=
  State.done (s.onWrite path (R.uCfg u) (fun s => s.uCfgWrite path u (F.uCfg.EN.put w 0)))

/-- A write of TRKt_CFG.EN = 1. -/
def execTrackEnable (path : Path) (t : Fin 4) (w : Word) (s : State) : Result :=
  State.done (s.onWrite path (R.trkCfg t) (fun s => s.trkCfgWrite path t (F.trkCfg.EN.put w 1)))

/-- A write of TRKt_CFG.EN = 0. -/
def execTrackDisable (path : Path) (t : Fin 4) (w : Word) (s : State) : Result :=
  State.done (s.onWrite path (R.trkCfg t) (fun s => s.trkCfgWrite path t (F.trkCfg.EN.put w 0)))

end Sys2Proof.Machine
end

