-- ==== Sys2Proof/Machine/ServiceCommands.lean ====
section
/-!
DEFINITION. Sys2Proof/Machine/ServiceCommands.lean: the boot chain and the services of E0 (Stand-Alone Services and Recovery).
-/
namespace Sys2Proof.Machine

/-- The boot sequencer loads and checks the boot image and starts E0 (R500, R501). -/
def execBootImageLoad (s : State) : Result := State.done s.bootImageLoad

/-- E0's part of the boot, up to READY or to a wait record of the script (R502). -/
def execServiceBoot (s : State) : Result := State.done s.serviceBoot

/-! ## Services: E0 takes the next request when it asks for this one (R505, R506) -/

/-- STATUS. -/
def execSvcStatus (s : State) : Result := State.done (s.svcTake 1 State.svcStatus)

/-- SELFTEST; `bad` lists the words that fail a march, with whether in SRAM. -/
def execSvcSelftest (bad : List (Nat × Bool)) (s : State) : Result := State.done (s.svcTake 2 (State.svcSelftest bad))

/-- ADC_CAL. -/
def execSvcAdcCal (s : State) : Result := State.done (s.svcTake 3 State.svcAdcCal)

/-- AUX_CAL. -/
def execSvcAuxCal (s : State) : Result := State.done (s.svcTake 4 State.svcAuxCal)

/-- SHADE_CAL (R508). -/
def execSvcShadeCal (s : State) : Result := State.done (s.svcTake 5 State.svcShadeCal)

/-- CAL_LOAD. -/
def execSvcCalLoad (s : State) : Result := State.done (s.svcTake 6 State.svcCalLoad)

/-- CAL_SAVE. -/
def execSvcCalSave (s : State) : Result := State.done (s.svcTake 7 State.svcCalSave)

/-- JAM_RECOVER. -/
def execSvcJamRecover (s : State) : Result := State.done (s.svcTake 8 State.svcJamRecover)

/-- SAFE_STOP. -/
def execSvcSafeStop (s : State) : Result := State.done (s.svcTake 9 State.svcSafeStop)

/-- FABRIC_UP (R511). -/
def execSvcFabricUp (s : State) : Result := State.done (s.svcTake 10 State.svcFabricUp)

/-- LOAD_ENTRY. -/
def execSvcLoadEntry (s : State) : Result := State.done (s.svcTake 11 State.svcLoadEntry)

/-! ## Limits and what E0 does on its own -/

/-- TMO_S has passed in SHADE_CAL (R508). -/
def execShadeCalTimeout (s : State) : Result := State.done s.shadeCalTimeout

/-- The limit of FABRIC_UP (R511). -/
def execFabricUpLimit (s : State) : Result := State.done s.fabricUpLimit

/-- HL_S without a doorbell after a host loss (R510). -/
def execHostLossHoldExpiry (s : State) : Result := State.done s.hostLossExpire

/-- JAM_MS after a jam of cause 1-3 (R512). -/
def execJamAutoRecover (k : Fin 4) (s : State) : Result := State.done (s.jamDue k)

/-- The 10 ms heartbeat of E0 (R513). -/
def execServiceHeartbeat (s : State) : Result := State.done s.heartbeat

end Sys2Proof.Machine
end

