-- ==== Sys2Proof/Machine/SystemCommands.lean ====
section
/-!
DEFINITION. Sys2Proof/Machine/SystemCommands.lean: the commands of the register interface, the clocks, power and resets, pins, JTAG, events and event
timers: one meaning per row of the command table (R1-R86, R517).
-/
namespace Sys2Proof.Machine

/-! ## Register accesses -/

/-- A register or window write of `size` bytes through a path (R6-R13, R518). -/
def execRegisterWrite (path : Path) (off size : Nat) (w : Word) (s : State) : Result := State.done (s.writeAccess path off size w)

/-- A read at an offset; one of the least significant part of a wide value latches the rest (R15, R16). -/
def execShadowLowRead (path : Path) (off size : Nat) (s : State) : Result := State.done (s.readAccess path off size)

/-- A read at an offset; fields of access RC clear (R10). -/
def execReadClearAccess (path : Path) (off size : Nat) (s : State) : Result := State.done (s.readAccess path off size)

/-- An access to an offset that belongs to no block (R517). -/
def execUnmappedBarAccess (path : Path) (off : Nat) (write : Bool) (s : State) : Result :=
  State.done (if !(unmappedBar off) then s
    else if write then s.writeAccess path (off / 4 * 4) 4 0 else s.readAccess path (off / 4 * 4) 4)

/-! ## Power domains -/

/-- A write of SYS.PD_CLRm (R72-R74). -/
def execPdOffRequest (path : Path) (m : Fin 5) (w : Word) (s : State) : Result :=
  State.done (s.onWrite path (R.sysPdClr m) (fun s => s.pdWrite path m w false))

/-- A request that waited for a transition is applied (R74). -/
def execPdDeferredRequest (s : State) : Result := State.done s.pdDeferredApply

/-! ## Events, timers, pins, JTAG, clocks and resets -/

/-- EVM.SW_EV: each bit written as 1 fires its line (R42). -/
def execSwEvent (path : Path) (w : Word) (s : State) : Result :=
  State.done (s.onWrite path R.evmSwEv (fun s => (setBits w.toNat 8).foldl (fun t k => t.fire (248 + k)) s))

/-- A monitor counter counts a pulse of its selected line, saturating (R42). -/
def execEventMonitorPulse (i : Fin 4) (s : State) : Result :=
  State.done (if s.selOn (R.evmMonSel i) then s.count (R.evmMonCnt i) else s)

/-- A write of ETIMn_CTL.EN = 1; `w` is the whole written value, whose EN is taken as 1. -/
def execEtimEnable (path : Path) (n : Fin 32) (w : Word) (s : State) : Result :=
  State.done (s.onWrite path (R.etimCtl n) (fun s => s.etimCtlWrite path n (F.etimCtl.EN.put w 1)))

/-- A write of ETIMn_CTL.EN = 0. -/
def execEtimDisable (path : Path) (n : Fin 32) (w : Word) (s : State) : Result :=
  State.done (s.onWrite path (R.etimCtl n) (fun s => s.etimCtlWrite path n (F.etimCtl.EN.put w 0)))

/-- A pulse of the selected start line. -/
def execEtimStartEvent (n : Fin 32) (s : State) : Result :=
  State.done (if s.selOn (R.etimStartSel n) then s.etimStart n else s)

/-- A pulse of the selected cancel line. -/
def execEtimCancelEvent (n : Fin 32) (s : State) : Result :=
  State.done (if s.selOn (R.etimCancelSel n) then s.etimCancel n else s)

/-- COUNT reaches 0. -/
def execEtimExpiry (n : Fin 32) (s : State) : Result := State.done (s.etimExpire n)

/-- The scrubber reads the next word of its pass (R37): `flips` are the bits that the storage has flipped in it since it was
last read. A word in a domain that is off is passed over. -/
def execPatrolScrubRead (flips : List Nat) (s : State) : Result :=
  if s.bit R.sysScrubCtl F.sysScrubCtl.EN then
    let a := scrubAddress s.sys.scrubPos
    let old := Table.get (fun _ => []) s.sys.bitErrs a
    let s1 := { s with sys := { s.sys with
      scrubPos := (s.sys.scrubPos + 1) % scrubWords
      bitErrs := Table.set (fun _ => []) s.sys.bitErrs a (old ++ flips.filter (fun i => decide (i < 137))) } }
    State.done (if s.memOk a then s1.eccRead a else { s with sys := { s.sys with scrubPos := (s.sys.scrubPos + 1) % scrubWords } })
  else State.done s

/-- GPIO_CFG_WRITE (R62). -/
def execGpioCfgWrite (path : Path) (n : Fin 16) (w : Word) (s : State) : Result :=
  State.done (s.onWrite path (R.sysGpioCfg n) (fun s => s.gpioCfgWrite path n w))

/-- A pulse of the selected event: the pin goes high for 100 ns, or its high time restarts. -/
def execGpioEventOutput (n : Fin 16) (s : State) : Result :=
  State.done (if s.eventPin n then { s with sys := { s.sys with gpioHigh := addSorted s.sys.gpioHigh n } } else s)

/-- The high time of an event output ends. -/
def execGpioPulseEnd (n : Fin 16) (s : State) : Result :=
  State.done { s with sys := { s.sys with gpioHigh := s.sys.gpioHigh.filter (fun m => m != n.val) } }

/-- The board drives another level on a pin, or none. -/
def execGpioInputChange (n : Fin 16) (level : Option Bool) (s : State) : Result :=
  State.done { s with sys := { s.sys with gpioExt := Table.set (fun _ => none) s.sys.gpioExt n level } }

/-- EXTEST drives the pins from the boundary register. -/
def execExtest (s : State) : Result := State.done (s.jtag 0x00 .boundary)

/-- SAMPLE/PRELOAD captures the pins into the boundary register and, when a value is shifted in, loads it. -/
def execSamplePreload (pins load : List Bool) (s : State) : Result :=
  let s1 := s.jtag 0x01 .functional
  State.done { s1 with sys := { s1.sys with boundary := if load.isEmpty then pins else load } }

/-- IDCODE reads 0x1489_6BCB on A1. -/
def execIdcode (s : State) : Result := State.done { s.jtag 0x02 .functional with rdata := 0x14896BCB }

/-- CLAMP holds the pins at the boundary register's levels and selects bypass. -/
def execClamp (s : State) : Result := State.done (s.jtag 0x03 .clamp)

/-- HIGHZ releases the pins. -/
def execHighz (s : State) : Result := State.done (s.jtag 0x04 .highz)

/-- BYPASS, and every unlisted code. -/
def execBypass (code : BitVec 6) (s : State) : Result :=
  State.done (if code.toNat ≤ 4 then s else s.jtag code .functional)

/-- PLL_LOCK (R23). -/
def execPllLock (s : State) : Result := State.done s.pllLocks

/-- PLL_LOSS_OF_LOCK (R24). -/
def execPllLossOfLock (s : State) : Result := State.done s.pllLost

/-- CLOCK_LOSS_RESET (R77). -/
def execClockLossReset (s : State) : Result := State.done s.clockLossReset

/-- MAIN_RAIL_UNDERVOLTAGE (R69). -/
def execMainRailUndervoltage (rail : Fin 11) (mv : BitVec 16) (s : State) : Result := State.done (s.railTrip rail mv.toNat)

/-- MAIN_RAIL_RECOVERED (R69). -/
def execMainRailRecovered (banks : BitVec 8) (s : State) : Result := State.done (s.railsGood banks.toNat)

/-- PD_ON_REQUEST (R72). -/
def execPdOnRequest (path : Path) (m : Fin 5) (w : Word) (s : State) : Result :=
  State.done (s.onWrite path (R.sysPdSet m) (fun s => s.pdWrite path m w true))

/-- PD_POWER_ON_COMPLETE (R75). -/
def execPdPowerOnComplete (dom : Nat) (s : State) : Result := State.done (s.pdComplete dom)

/-- AON_POWER_UP (R76). -/
def execAonPowerUp (addr : BitVec 2) (s : State) : Result := State.done (s.aonPowerUp addr.toNat)

/-- PORST_ASSERT (R76). -/
def execPorstAssert (ns : Nat) (s : State) : Result := State.done (s.porstAssert ns)

/-- PORST_DEASSERT (R80). -/
def execPorstDeassert (s : State) : Result := State.done s.porstDeassert

/-- WARM_RESET (R79). -/
def execWarmReset (path : Path) (s : State) : Result := State.done (s.onWrite path R.sysRstCtl (fun s => s.rstCtlWrite path 1))

/-- FUNCTION_LEVEL_RESET (R76). -/
def execFunctionLevelReset (s : State) : Result := State.done (s.warmReset F.sysRstCause.FLR)

/-- PCIE_HOT_RESET (R76). -/
def execPcieHotReset (s : State) : Result := State.done (s.warmReset F.sysRstCause.FLR)

/-- CONFIGURATION_REQUEST (R85). -/
def execConfigurationRequest (s : State) : Result := State.done s.configRequest

end Sys2Proof.Machine
end

