-- ==== Sys2Proof/Machine/TimingCommands.lean ====
section
/-!
DEFINITION. Sys2Proof/Machine/TimingCommands.lean: the commands of TSQ and VAF (Sensor Timing; Video Conversion).
-/
namespace Sys2Proof.Machine

/-! ## Line programs -/

/-- A write of LPp_CFG.EN = 0 (R90). -/
def execLpDisable (path : Path) (p : Fin 8) (w : Word) (s : State) : Result :=
  State.done (s.onWrite path (R.lpCfg p) (fun s => s.lpCfgWrite path p (F.lpCfg.EN.put w 0)))

/-- The trigger of a line (R104, R105, R110). -/
def execLineTrigger (p : Fin 8) (cycle : Nat) (s : State) : Result := State.done (s.lineTrigger p cycle)

/-- PIX. -/
def execPix (p : Fin 8) (s : State) : Result := State.done (s.micro p 3 (fun s => s.microPix p))

/-- ENDL. -/
def execEndl (p : Fin 8) (s : State) : Result := State.done (s.micro p 6 (fun s => s.microEndl p))

/-- The program meets a microcode fault (R94). -/
def execMicrocodeFault (p : Fin 8) (s : State) : Result := State.done (s.microFaultTaken p)

/-- A phase window closes. -/
def execPhaseWindowClose (p : Fin 8) (k : Fin 6) (s : State) : Result := State.done (if ((s.lp p).phase k).win == .opened then s.closePhase p k else s)

/-- The line timeout expires (R113). -/
def execLineTimeout (p : Fin 8) (s : State) : Result := State.done (s.lineTimeout p)

/-- A flush line falls due (R114). -/
def execFlushLineDue (p : Fin 8) (cycle : Nat) (s : State) : Result := State.done (s.flushLineDue p cycle)

/-- A write of LPp_CFG.EN = 1 or 0. -/
def execLpEnable (path : Path) (p : Fin 8) (w : Word) (s : State) : Result :=
  State.done (s.onWrite path (R.lpCfg p) (fun s => s.lpCfgWrite path p (F.lpCfg.EN.put w 1)))

/-- TSQ_NOP (R93). -/
def execTsqNop (p : Fin 8) (s : State) : Result := State.done (s.micro p 0 (fun s => s.microNop p))

/-- SETG (R93). -/
def execSetg (p : Fin 8) (s : State) : Result := State.done (s.micro p 1 (fun s => s.microSetg p))

/-- PHASE (R106). -/
def execPhase (p : Fin 8) (s : State) : Result := State.done (s.micro p 2 (fun s => s.microPhase p))

/-- TSQ_LOOP (R93). -/
def execTsqLoop (p : Fin 8) (s : State) : Result := State.done (s.micro p 4 (fun s => s.microLoop p))

/-- WAITEV (R93). -/
def execWaitev (p : Fin 8) (s : State) : Result := State.done (s.micro p 5 (fun s => s.microWait p))

/-- The awaited pulse, sampled in a FABCLK cycle that lies in TGCLK cycle `cycle` (R93). -/
def execWaitevPulse (p : Fin 8) (cycle : Nat) (s : State) : Result :=
  State.done (match (s.lp p).waiting with
    | some (_, from_) =>
      if from_ ≤ cycle ∧ (s.lp p).run ≠ .idle then
        let l := s.lp p
        s.setLp p { l with waiting := none, pc := l.pc + 1, cycle := cycle + 1 }
      else s
    | none => s)

/-- A delayed window opens (R106). -/
def execPhaseWindowOpen (p : Fin 8) (k : Fin 6) (s : State) : Result :=
  State.done (if ((s.lp p).phase k).win == .delayed then s.openPhase p k else s)

/-- FLUSH.AFTER has passed since the last trigger: the program enters flush state, with a flush line at entry (R114). -/
def execFlushEntry (p : Fin 8) (cycle : Nat) (s : State) : Result :=
  State.done (if s.bit (R.lpCfg p) F.lpCfg.EN && s.bit (R.lpCfg p) F.lpCfg.FLUSH_EN && !(s.bit (R.lpStat p) F.lpStat.FLUSHING) then
    let s1 := s.setFlushing p 1
    if (s1.lp p).run == .idle then s1.startFlush p cycle else s1.setLp p { s1.lp p with flushDue := true }
  else s)

/-- VIDEO_STROBE (R125). -/
def execVideoStrobe (n : Fin 16) (vSig vRst vRef : Int) (tRst tSig : Nat) (ready : Option Nat) (s : State) : Result :=
  State.done (s.videoStrobe n vSig vRst vRef tRst tSig ready)

/-- A write of VAF.XBAR. -/
def execXbarWrite (path : Path) (w : Word) (s : State) : Result := State.done (s.onWrite path R.vafXbar (fun s => s.xbarWrite path w))

/-- A write of VAF.FGCAL.START = 1. -/
def execFgcalStart (path : Path) (w : Word) (s : State) : Result :=
  State.done (s.onWrite path R.vafFgcal (fun s => s.fgcalWrite path (F.vafFgcal.START.put w 1)))

/-- A write of BANKk_CAL. -/
def execBankValidWrite (path : Path) (k : Fin 4) (w : Word) (s : State) : Result :=
  State.done (s.onWrite path (R.bankCal k) (fun s => s.bankCalWrite path k w))

/-- A write of VAF.CTL. -/
def execBgEnWrite (path : Path) (w : Word) (s : State) : Result := State.done (s.onWrite path R.vafCtl (fun s => s.bgEnWrite path w))

/-- BGCAL_STEP_COMPLETE (R141). -/
def execBgcalStepComplete (k : Fin 4) (ofs gain skew : Int) (s : State) : Result := State.done (s.bgcalStep k ofs gain skew)

/-- SLICE_HANDOVER (R143). -/
def execSliceHandover (k : Fin 4) (spread : Spread) (s : State) : Result := State.done (s.handover k spread)

/-- HANDOVER_WAIT_EXPIRY (R144). -/
def execHandoverWaitExpiry (k : Fin 4) (s : State) : Result := State.done (s.handoverWait k)

/-- The last converted sample of a counted line of input n has come: the line is judged (R151). -/
def execVideoFaultDetect (n : Fin 16) (s : State) : Result := State.done (s.judgeVideo n)

/-- The foreground self-calibration ends with what it has measured (R137, R138). -/
def execFgcalComplete (ofs gain skew : List Int) (bad : List Nat) (trims : List Word) (spreads : List Spread) (s : State) : Result :=
  State.done (s.fgcalEnd ofs gain skew bad trims spreads)

end Sys2Proof.Machine
end

