-- ==== Sys2Proof/Machine/TransportCommands.lean ====
section
/-!
DEFINITION. Sys2Proof/Machine/TransportCommands.lean: the commands of GAIT (Transport, Gaits and Seam-Free Resume).
-/
namespace Sys2Proof.Machine

/-! ## Axes and encoders -/

/-- A write of Mn_CTL (R218). -/
def execAxisCtlWrite (path : Path) (n : Fin 4) (w : Word) (s : State) : Result :=
  State.done (s.onWrite path (R.axisCtl n) (fun s => s.axisCtlWrite path n w))

/-- A step pulse (R217). -/
def execAxisStep (n : Fin 4) (s : State) : Result := State.done (s.axisStep n)

/-- The 10 µs update of a path's speed (R228, R244). -/
def execRampUpdate (k : Fin 4) (s : State) : Result := State.done (s.rampUpdate k)

/-- A write of ENCe_CFG.EN = 1 with the levels at the pins (R220). -/
def execEncoderEnable (path : Path) (e : Fin 2) (w : Word) (a b : Bool) (s : State) : Result :=
  State.done (s.onWrite path (R.encCfg e) (fun s => s.encCfgWrite path e (F.encCfg.EN.put w 1) a b))

/-- New levels of A and B are accepted (R220). -/
def execEncoderEdge (e : Fin 2) (a b : Bool) (s : State) : Result := State.done (s.encoderEdge e a b)

/-- An accepted rising edge of Z (R221). -/
def execEncoderIndex (e : Fin 2) (s : State) : Result := State.done (s.encoderIndex e)

/-- The stall timer expires (R223). -/
def execEncoderStall (e : Fin 2) (s : State) : Result := State.done (s.encoderStall e)

/-- A driver fault, or its end (R219). -/
def execDriverFault (n : Fin 4) (low : Bool) (s : State) : Result := State.done (s.driverFault n low)

/-! ## Path sensors and jams -/

/-- A level on PSn is accepted (R224). -/
def execPathSensorChange (n : Fin 16) (level : Bool) (s : State) : Result := State.done (s.pathSensorChange n level)

/-- A document has not reached a checkpoint in time (R246). -/
def execJamArrivalLimit (k : Fin 4) (i : Fin 8) (s : State) : Result := State.done (s.jamArrival k i)

/-- A checkpoint stays covered for too long (R246). -/
def execJamLengthLimit (k : Fin 4) (i : Fin 8) (s : State) : Result := State.done (s.jamLength k i)

/-! ## Paths (Table 7-1, Table 7-2) -/

/-- A write of PATHk_CFG.EN = 1 (R225). -/
def execPathEnable (path : Path) (k : Fin 4) (w : Word) (s : State) : Result :=
  State.done (s.onWrite path (R.pathCfg k) (fun s => s.pathCfgWrite path k (F.pathCfg.EN.put w 1)))

/-- A write of PATHk_CFG.EN = 0. -/
def execPathDisable (path : Path) (k : Fin 4) (w : Word) (s : State) : Result :=
  State.done (s.onWrite path (R.pathCfg k) (fun s => s.pathCfgWrite path k (F.pathCfg.EN.put w 0)))

/-- A write of START to PATHk_CMD. -/
def execPathStart (path : Path) (k : Fin 4) (g : Fin 8) (s : State) : Result :=
  State.done (s.onWrite path (R.pathCmd k) (fun s => s.pathCmd k 1 g))

/-- A write of STOP to PATHk_CMD. -/
def execPathStop (path : Path) (k : Fin 4) (s : State) : Result :=
  State.done (s.onWrite path (R.pathCmd k) (fun s => s.pathCmd k 2 0))

/-- A write of RESUME to PATHk_CMD. -/
def execPathResume (path : Path) (k : Fin 4) (s : State) : Result :=
  State.done (s.onWrite path (R.pathCmd k) (fun s => s.pathCmd k 3 0))

/-- A write of ABANDON to PATHk_CMD. -/
def execPathAbandon (path : Path) (k : Fin 4) (s : State) : Result :=
  State.done (s.onWrite path (R.pathCmd k) (fun s => s.pathCmd k 4 0))

/-- A write of CLEAR_JAM to PATHk_CMD. -/
def execPathClearJam (path : Path) (k : Fin 4) (s : State) : Result :=
  State.done (s.onWrite path (R.pathCmd k) (fun s => s.pathCmd k 5 0))

/-- A write of HALT to PATHk_CMD. -/
def execPathHalt (path : Path) (k : Fin 4) (s : State) : Result :=
  State.done (s.onWrite path (R.pathCmd k) (fun s => s.pathCmd k 6 0))

/-- A write of GAIT to PATHk_CMD. -/
def execPathGait (path : Path) (k : Fin 4) (g : Fin 8) (s : State) : Result :=
  State.done (s.onWrite path (R.pathCmd k) (fun s => s.pathCmd k 7 g))

/-- The 1 ms evaluation of the pacing loop (R229). -/
def execPacingLoopEval (k : Fin 4) (s : State) : Result := State.done (s.paceEval k)

/-- The axes of a path have come to rest (R231, Table 7-1). -/
def execPathAtRest (k : Fin 4) (s : State) : Result := State.done (s.comeToRest k)

/-- The back-off has reached its position (R234). -/
def execBackoffComplete (k : Fin 4) (s : State) : Result := State.done (s.backoffDone k)

/-- The compare of APPROACH (R235). -/
def execOverlapCompare (k : Fin 4) (cycle : Nat) (s : State) : Result := State.done (s.overlapCompare k cycle)

/-! ## Seams -/

/-- The five words of a hand-off (Table 10-13). -/
def State.seamWords (s : State) (g : Nat) : List Word :=
  let k := s.seamPath g
  let q := s.seamSt g
  let valid := planeMask (s.validOverlap g)
  let width := s.fld (R.plCfg (s.fld (R.seamCfg g) F.seamCfg.PLANE)) F.plCfg.WIDTH
  [0x53450000 + k * 2 ^ 8 + g,
   (0x17E000000 + g * 0x400000) % 2 ^ 32,
   s.seamK g + s.fld (R.pathSeam k) F.pathSeam.OVERLAP * 2 ^ 8 + s.fld (R.pathSeam k) F.pathSeam.SRCH * 2 ^ 12 +
     s.fld (R.seamCfg g) F.seamCfg.XSTEP * 2 ^ 16 + q.yLast % (max 1 (s.seamK g)) * 2 ^ 24,
   width + s.fld (R.seamLim g) F.seamLim.QUAL_MIN * 2 ^ 16,
   s.fld (R.seamLim g) F.seamLim.TEX_MIN + valid * 2 ^ 16].map (BitVec.ofNat 32)

/-- The seam store is passed to its engine once five inbox entries are free (R237, R352). -/
def State.seamHandoff (s : State) (g : Nat) : State :=
  let e := s.fld (R.seamCfg g) F.seamCfg.ENG
  if !(s.seamReady g && s.inboxRoom e 5) then s
  else (s.seamWords g).foldl (fun t w => t.inboxPut e w 0x14) (s.setSeamSt g { s.seamSt g with handed := true })

/-- SEAM_HANDOFF (R237). -/
def execSeamHandoff (g : Fin 4) (s : State) : Result := State.done (s.seamHandoff g)

/-- The kernel's result comes (R237, R239); the vendor kernel has taken the hand-off words. -/
def State.seamTaken (s : State) (g : Nat) : State :=
  let t := s.seamResult g
  if (s.seamSt g).handed && !(t.seamSt g).handed && (Table.get (fun _ => none) s.gait.replies g).isNone then
    let e := s.fld (R.seamCfg g) F.seamCfg.ENG
    let mine := s.seamWords g
    (t.setEng e { t.eng e with inbox := mine.foldl (fun l w => l.erase (w, 0x14)) (t.eng e).inbox }).mbxRefresh e
  else t

/-- SEAM_RESULT (R239). -/
def execSeamResult (g : Fin 4) (s : State) : Result := State.done (s.seamTaken g)

/-- No result has come within TMO_US (R238). -/
def execSeamKernelTimeout (g : Fin 4) (s : State) : Result := State.done (s.seamTimeout g)

/-- The reverse move of CLEAR_JAM ends (R248). -/
def execClearJamReverseDone (k : Fin 4) (s : State) : Result := State.done (s.clearJamReverse k)

/-- A pulse of PATHk_HLOSS_SEL (R250). -/
def execHostLossEvent (k : Fin 4) (s : State) : Result := State.done (s.hostLoss k)

end Sys2Proof.Machine
end

