-- ==== Sys2Proof/Machine/Dispatch.lean ====
section
/-!
DEFINITION. Sys2Proof/Machine/Dispatch.lean: one arm per command, each one direct call of its meaning.
-/
namespace Sys2Proof.Machine

/-- The effect of a command on everything but the queue. -/
def exec (i : Instr) (s : State) : Host.Outcome State Fault Refusal :=
  match i with
  | .registerWrite path off size w => Sys2Proof.Machine.execRegisterWrite path off size w s
  | .shadowLowRead path off size => Sys2Proof.Machine.execShadowLowRead path off size s
  | .readClearAccess path off size => Sys2Proof.Machine.execReadClearAccess path off size s
  | .unmappedBarAccess path off write => Sys2Proof.Machine.execUnmappedBarAccess path off write s
  | .pllLock => Sys2Proof.Machine.execPllLock s
  | .pllLossOfLock => Sys2Proof.Machine.execPllLossOfLock s
  | .clockLossReset => Sys2Proof.Machine.execClockLossReset s
  | .patrolScrubRead flips => Sys2Proof.Machine.execPatrolScrubRead flips s
  | .swEvent path w => Sys2Proof.Machine.execSwEvent path w s
  | .eventMonitorPulse m => Sys2Proof.Machine.execEventMonitorPulse m s
  | .etimEnable path n w => Sys2Proof.Machine.execEtimEnable path n w s
  | .etimDisable path n w => Sys2Proof.Machine.execEtimDisable path n w s
  | .etimStartEvent n => Sys2Proof.Machine.execEtimStartEvent n s
  | .etimCancelEvent n => Sys2Proof.Machine.execEtimCancelEvent n s
  | .etimExpiry n => Sys2Proof.Machine.execEtimExpiry n s
  | .gpioCfgWrite path n w => Sys2Proof.Machine.execGpioCfgWrite path n w s
  | .gpioEventOutput n => Sys2Proof.Machine.execGpioEventOutput n s
  | .gpioPulseEnd n => Sys2Proof.Machine.execGpioPulseEnd n s
  | .gpioInputChange n level => Sys2Proof.Machine.execGpioInputChange n level s
  | .mainRailUndervoltage rail mv => Sys2Proof.Machine.execMainRailUndervoltage rail mv s
  | .mainRailRecovered banks => Sys2Proof.Machine.execMainRailRecovered banks s
  | .pdOnRequest path m w => Sys2Proof.Machine.execPdOnRequest path m w s
  | .pdOffRequest path m w => Sys2Proof.Machine.execPdOffRequest path m w s
  | .pdDeferredRequest => Sys2Proof.Machine.execPdDeferredRequest s
  | .pdPowerOnComplete dom => Sys2Proof.Machine.execPdPowerOnComplete dom s
  | .aonPowerUp addr => Sys2Proof.Machine.execAonPowerUp addr s
  | .porstAssert ns => Sys2Proof.Machine.execPorstAssert ns s
  | .porstDeassert => Sys2Proof.Machine.execPorstDeassert s
  | .warmReset path => Sys2Proof.Machine.execWarmReset path s
  | .functionLevelReset => Sys2Proof.Machine.execFunctionLevelReset s
  | .pcieHotReset => Sys2Proof.Machine.execPcieHotReset s
  | .extest => Sys2Proof.Machine.execExtest s
  | .samplePreload pins load => Sys2Proof.Machine.execSamplePreload pins load s
  | .idcode => Sys2Proof.Machine.execIdcode s
  | .clamp => Sys2Proof.Machine.execClamp s
  | .highz => Sys2Proof.Machine.execHighz s
  | .bypass code => Sys2Proof.Machine.execBypass code s
  | .lpEnable path p w => Sys2Proof.Machine.execLpEnable path p w s
  | .lpDisable path p w => Sys2Proof.Machine.execLpDisable path p w s
  | .lineTrigger p cycle => Sys2Proof.Machine.execLineTrigger p cycle s
  | .tsqNop p => Sys2Proof.Machine.execTsqNop p s
  | .setg p => Sys2Proof.Machine.execSetg p s
  | .phase p => Sys2Proof.Machine.execPhase p s
  | .pix p => Sys2Proof.Machine.execPix p s
  | .tsqLoop p => Sys2Proof.Machine.execTsqLoop p s
  | .waitev p => Sys2Proof.Machine.execWaitev p s
  | .waitevPulse p cycle => Sys2Proof.Machine.execWaitevPulse p cycle s
  | .endl p => Sys2Proof.Machine.execEndl p s
  | .microcodeFault p => Sys2Proof.Machine.execMicrocodeFault p s
  | .phaseWindowOpen p k => Sys2Proof.Machine.execPhaseWindowOpen p k s
  | .phaseWindowClose p k => Sys2Proof.Machine.execPhaseWindowClose p k s
  | .lineTimeout p => Sys2Proof.Machine.execLineTimeout p s
  | .flushEntry p cycle => Sys2Proof.Machine.execFlushEntry p cycle s
  | .flushLineDue p cycle => Sys2Proof.Machine.execFlushLineDue p cycle s
  | .videoStrobe n vSig vRst vRef tRst tSig ready => Sys2Proof.Machine.execVideoStrobe n vSig vRst vRef tRst tSig ready s
  | .xbarWrite path w => Sys2Proof.Machine.execXbarWrite path w s
  | .fgcalStart path w => Sys2Proof.Machine.execFgcalStart path w s
  | .fgcalComplete ofs gain skew bad trims spreads => Sys2Proof.Machine.execFgcalComplete ofs gain skew bad trims spreads s
  | .bankValidWrite path k w => Sys2Proof.Machine.execBankValidWrite path k w s
  | .bgEnWrite path w => Sys2Proof.Machine.execBgEnWrite path w s
  | .bgcalStepComplete k ofs gain skew => Sys2Proof.Machine.execBgcalStepComplete k ofs gain skew s
  | .sliceHandover k spread => Sys2Proof.Machine.execSliceHandover k spread s
  | .handoverWaitExpiry k => Sys2Proof.Machine.execHandoverWaitExpiry k s
  | .videoFaultDetect n => Sys2Proof.Machine.execVideoFaultDetect n s
  | .groupEnable path g w => Sys2Proof.Machine.execGroupEnable path g w s
  | .groupDisable path g w => Sys2Proof.Machine.execGroupDisable path g w s
  | .planeEnableWrite path n w => Sys2Proof.Machine.execPlaneEnableWrite path n w s
  | .shadeSample last poisoned => Sys2Proof.Machine.execShadeSample last poisoned s
  | .tempSourceTimeout g => Sys2Proof.Machine.execTempSourceTimeout g s
  | .stripEvent g => Sys2Proof.Machine.execStripEvent g s
  | .fullRecalRequest path g w => Sys2Proof.Machine.execFullRecalRequest path g w s
  | .computeComplete g => Sys2Proof.Machine.execComputeComplete g s
  | .copyComplete g => Sys2Proof.Machine.execCopyComplete g s
  | .shadingWindowWrite off w => Sys2Proof.Machine.execShadingWindowWrite off w s
  | .calSaveRequest path w => Sys2Proof.Machine.execCalSaveRequest path w s
  | .calSaveStart => Sys2Proof.Machine.execCalSaveStart s
  | .calSaveComplete flashOk => Sys2Proof.Machine.execCalSaveComplete flashOk s
  | .windowOpen u => Sys2Proof.Machine.execWindowOpen u s
  | .windowCloseEvent u => Sys2Proof.Machine.execWindowCloseEvent u s
  | .trackCloseWrite path t w => Sys2Proof.Machine.execTrackCloseWrite path t w s
  | .geoLineEvaluate u => Sys2Proof.Machine.execGeoLineEvaluate u s
  | .edgeFitComplete u => Sys2Proof.Machine.execEdgeFitComplete u s
  | .recordHoldTimeout t => Sys2Proof.Machine.execRecordHoldTimeout t s
  | .recordSlotRelease t => Sys2Proof.Machine.execRecordSlotRelease t s
  | .unitEnable path u w => Sys2Proof.Machine.execUnitEnable path u w s
  | .unitDisable path u w => Sys2Proof.Machine.execUnitDisable path u w s
  | .trackEnable path t w => Sys2Proof.Machine.execTrackEnable path t w s
  | .trackDisable path t w => Sys2Proof.Machine.execTrackDisable path t w s
  | .axisCtlWrite path n w => Sys2Proof.Machine.execAxisCtlWrite path n w s
  | .axisStep n => Sys2Proof.Machine.execAxisStep n s
  | .rampUpdate k => Sys2Proof.Machine.execRampUpdate k s
  | .encoderEnable path e w a b => Sys2Proof.Machine.execEncoderEnable path e w a b s
  | .encoderEdge e a b => Sys2Proof.Machine.execEncoderEdge e a b s
  | .encoderIndex e => Sys2Proof.Machine.execEncoderIndex e s
  | .encoderStall e => Sys2Proof.Machine.execEncoderStall e s
  | .driverFault n low => Sys2Proof.Machine.execDriverFault n low s
  | .pathSensorChange n level => Sys2Proof.Machine.execPathSensorChange n level s
  | .jamArrivalLimit k m => Sys2Proof.Machine.execJamArrivalLimit k m s
  | .jamLengthLimit k m => Sys2Proof.Machine.execJamLengthLimit k m s
  | .pathEnable path k w => Sys2Proof.Machine.execPathEnable path k w s
  | .pathDisable path k w => Sys2Proof.Machine.execPathDisable path k w s
  | .pathStart path k g => Sys2Proof.Machine.execPathStart path k g s
  | .pathStop path k => Sys2Proof.Machine.execPathStop path k s
  | .pathResume path k => Sys2Proof.Machine.execPathResume path k s
  | .pathAbandon path k => Sys2Proof.Machine.execPathAbandon path k s
  | .pathClearJam path k => Sys2Proof.Machine.execPathClearJam path k s
  | .pathHalt path k => Sys2Proof.Machine.execPathHalt path k s
  | .pathGait path k g => Sys2Proof.Machine.execPathGait path k g s
  | .pacingLoopEval k => Sys2Proof.Machine.execPacingLoopEval k s
  | .pathAtRest k => Sys2Proof.Machine.execPathAtRest k s
  | .backoffComplete k => Sys2Proof.Machine.execBackoffComplete k s
  | .overlapCompare k cycle => Sys2Proof.Machine.execOverlapCompare k cycle s
  | .seamHandoff g => Sys2Proof.Machine.execSeamHandoff g s
  | .seamResult g => Sys2Proof.Machine.execSeamResult g s
  | .seamKernelTimeout g => Sys2Proof.Machine.execSeamKernelTimeout g s
  | .clearJamReverseDone k => Sys2Proof.Machine.execClearJamReverseDone k s
  | .hostLossEvent k => Sys2Proof.Machine.execHostLossEvent k s
  | .auxRegEnable path w => Sys2Proof.Machine.execAuxRegEnable path w s
  | .auxRegDisable path w => Sys2Proof.Machine.execAuxRegDisable path w s
  | .auxInjEnable path w => Sys2Proof.Machine.execAuxInjEnable path w s
  | .auxInjDisable path w => Sys2Proof.Machine.execAuxInjDisable path w s
  | .auxRegularTrigger => Sys2Proof.Machine.execAuxRegularTrigger s
  | .auxInjectedTrigger => Sys2Proof.Machine.execAuxInjectedTrigger s
  | .auxConversionResult x => Sys2Proof.Machine.execAuxConversionResult x s
  | .auxConversionTimeout x => Sys2Proof.Machine.execAuxConversionTimeout x s
  | .auxRefLow => Sys2Proof.Machine.execAuxRefLow s
  | .auxRefRestored => Sys2Proof.Machine.execAuxRefRestored s
  | .excitationFault k on => Sys2Proof.Machine.execExcitationFault k on s
  | .auxClampCurrent pin on => Sys2Proof.Machine.execAuxClampCurrent pin on s
  | .auxEntryWrite path inj e word w => Sys2Proof.Machine.execAuxEntryWrite path inj e word w s
  | .auxCalStart path w => Sys2Proof.Machine.execAuxCalStart path w s
  | .auxCalComplete ofs gain => Sys2Proof.Machine.execAuxCalComplete ofs gain s
  | .wfEnable path c w => Sys2Proof.Machine.execWfEnable path c w s
  | .wfDisable path c w => Sys2Proof.Machine.execWfDisable path c w s
  | .wfRawSample c vd p => Sys2Proof.Machine.execWfRawSample c vd p s
  | .wfOutputSample c => Sys2Proof.Machine.execWfOutputSample c s
  | .wfCaptureStart c => Sys2Proof.Machine.execWfCaptureStart c s
  | .wfCaptureStop c => Sys2Proof.Machine.execWfCaptureStop c s
  | .laneBind n spilled => Sys2Proof.Machine.execLaneBind n spilled s
  | .laneRelease n => Sys2Proof.Machine.execLaneRelease n s
  | .lineGroupEncode n => Sys2Proof.Machine.execLineGroupEncode n s
  | .lineGroupDecode n input bad => Sys2Proof.Machine.execLineGroupDecode n input bad s
  | .engineStart path n w => Sys2Proof.Machine.execEngineStart path n w s
  | .engineHalt path n w => Sys2Proof.Machine.execEngineHalt path n w s
  | .engineStep path n w => Sys2Proof.Machine.execEngineStep path n w s
  | .engineWaitComplete n => Sys2Proof.Machine.execEngineWaitComplete n s
  | .farAccessTimeout n => Sys2Proof.Machine.execFarAccessTimeout n s
  | .engineAlu n => Sys2Proof.Machine.execEngineAlu n s
  | .addi n => Sys2Proof.Machine.execAddi n s
  | .engineLogicImm n => Sys2Proof.Machine.execEngineLogicImm n s
  | .lui n => Sys2Proof.Machine.execLui n s
  | .slti n => Sys2Proof.Machine.execSlti n s
  | .engineShiftImm n => Sys2Proof.Machine.execEngineShiftImm n s
  | .engineLoad n => Sys2Proof.Machine.execEngineLoad n s
  | .engineStore n => Sys2Proof.Machine.execEngineStore n s
  | .fld n => Sys2Proof.Machine.execFld n s
  | .fst n => Sys2Proof.Machine.execFst n s
  | .engineBranch n => Sys2Proof.Machine.execEngineBranch n s
  | .j n => Sys2Proof.Machine.execJ n s
  | .jal n => Sys2Proof.Machine.execJal n s
  | .jr n => Sys2Proof.Machine.execJr n s
  | .engineLoop n => Sys2Proof.Machine.execEngineLoop n s
  | .mtx n => Sys2Proof.Machine.execMtx n s
  | .mfx n => Sys2Proof.Machine.execMfx n s
  | .engineNop n => Sys2Proof.Machine.execEngineNop n s
  | .haltInstruction n => Sys2Proof.Machine.execHaltInstruction n s
  | .fence n => Sys2Proof.Machine.execFence n s
  | .evfire n => Sys2Proof.Machine.execEvfire n s
  | .evsel n => Sys2Proof.Machine.execEvsel n s
  | .evwait n => Sys2Proof.Machine.execEvwait n s
  | .semp n => Sys2Proof.Machine.execSemp n s
  | .semv n => Sys2Proof.Machine.execSemv n s
  | .semtry n => Sys2Proof.Machine.execSemtry n s
  | .itake n => Sys2Proof.Machine.execItake n s
  | .irel n => Sys2Proof.Machine.execIrel n s
  | .oalloc n => Sys2Proof.Machine.execOalloc n s
  | .ocommit n => Sys2Proof.Machine.execOcommit n s
  | .mbxrd n => Sys2Proof.Machine.execMbxrd n s
  | .mbxsend n => Sys2Proof.Machine.execMbxsend n s
  | .hold n => Sys2Proof.Machine.execHold n s
  | .unhold n => Sys2Proof.Machine.execUnhold n s
  | .exc n => Sys2Proof.Machine.execExc n s
  | .claim n => Sys2Proof.Machine.execClaim n s
  | .release n => Sys2Proof.Machine.execRelease n s
  | .vop n => Sys2Proof.Machine.execVop n s
  | .vimm n => Sys2Proof.Machine.execVimm n s
  | .vcmp n => Sys2Proof.Machine.execVcmp n s
  | .vscl n => Sys2Proof.Machine.execVscl n s
  | .vld n => Sys2Proof.Machine.execVld n s
  | .vst n => Sys2Proof.Machine.execVst n s
  | .vgather n => Sys2Proof.Machine.execVgather n s
  | .iwEnable path m w => Sys2Proof.Machine.execIwEnable path m w s
  | .iwDisable path m w => Sys2Proof.Machine.execIwDisable path m w s
  | .owEnable path j w => Sys2Proof.Machine.execOwEnable path j w s
  | .iwLineWrite m => Sys2Proof.Machine.execIwLineWrite m s
  | .owLineDeliver j => Sys2Proof.Machine.execOwLineDeliver j s
  | .engineInboxWrite path n w => Sys2Proof.Machine.execEngineInboxWrite path n w s
  | .catcherPulse n c => Sys2Proof.Machine.execCatcherPulse n c s
  | .catcherSelectWrite path n c w => Sys2Proof.Machine.execCatcherSelectWrite path n c w s
  | .semaphoreHostWrite path t k w => Sys2Proof.Machine.execSemaphoreHostWrite path t k w s
  | .imageLoadComplete rest => Sys2Proof.Machine.execImageLoadComplete rest s
  | .sqTailDoorbell q w => Sys2Proof.Machine.execSqTailDoorbell q w s
  | .cqHeadDoorbell q w => Sys2Proof.Machine.execCqHeadDoorbell q w s
  | .commandFetch entry => Sys2Proof.Machine.execCommandFetch entry s
  | .coalesceTimeout q => Sys2Proof.Machine.execCoalesceTimeout q s
  | .msixUnmask path v w => Sys2Proof.Machine.execMsixUnmask path v w s
  | .hostFetchTimeout q tag addr => Sys2Proof.Machine.execHostFetchTimeout q tag addr s
  | .hostReadError q tag addr => Sys2Proof.Machine.execHostReadError q tag addr s
  | .hostWatchdogExpiry => Sys2Proof.Machine.execHostWatchdogExpiry s
  | .hostLinkDown => Sys2Proof.Machine.execHostLinkDown s
  | .linkUp tunnel usb4 => Sys2Proof.Machine.execLinkUp tunnel usb4 s
  | .pciD3hot => Sys2Proof.Machine.execPciD3hot s
  | .adminQueueEnable path w => Sys2Proof.Machine.execAdminQueueEnable path w s
  | .identify q tag => Sys2Proof.Machine.execIdentify q tag s
  | .createQp q tag => Sys2Proof.Machine.execCreateQp q tag s
  | .deleteQp q tag => Sys2Proof.Machine.execDeleteQp q tag s
  | .abort q tag => Sys2Proof.Machine.execAbort q tag s
  | .asyncEvent q tag => Sys2Proof.Machine.execAsyncEvent q tag s
  | .asyncEventDeliver => Sys2Proof.Machine.execAsyncEventDeliver s
  | .openStream q tag block => Sys2Proof.Machine.execOpenStream q tag block s
  | .closeStream q tag => Sys2Proof.Machine.execCloseStream q tag s
  | .closeStreamComplete sc => Sys2Proof.Machine.execCloseStreamComplete sc s
  | .postBuffer q tag sgl => Sys2Proof.Machine.execPostBuffer q tag sgl s
  | .saveContext q tag => Sys2Proof.Machine.execSaveContext q tag s
  | .contextSnapshot sc => Sys2Proof.Machine.execContextSnapshot sc s
  | .restoreContext q tag image => Sys2Proof.Machine.execRestoreContext q tag image s
  | .scanJob q tag => Sys2Proof.Machine.execScanJob q tag s
  | .setGaitPolicy q tag => Sys2Proof.Machine.execSetGaitPolicy q tag s
  | .calibrate q tag => Sys2Proof.Machine.execCalibrate q tag s
  | .readAux q tag => Sys2Proof.Machine.execReadAux q tag s
  | .transport q tag => Sys2Proof.Machine.execTransport q tag s
  | .transportComplete q tag => Sys2Proof.Machine.execTransportComplete q tag s
  | .loadImage q tag sgl header => Sys2Proof.Machine.execLoadImage q tag sgl header s
  | .scrub q tag => Sys2Proof.Machine.execScrub q tag s
  | .scrubComplete q tag => Sys2Proof.Machine.execScrubComplete q tag s
  | .fabricStatus q tag => Sys2Proof.Machine.execFabricStatus q tag s
  | .fabricReform q tag => Sys2Proof.Machine.execFabricReform q tag s
  | .fabricPing q tag => Sys2Proof.Machine.execFabricPing q tag s
  | .remoteRead q tag => Sys2Proof.Machine.execRemoteRead q tag s
  | .remoteWrite q tag data => Sys2Proof.Machine.execRemoteWrite q tag data s
  | .fabricQuarantine q tag => Sys2Proof.Machine.execFabricQuarantine q tag s
  | .fabricMailbox q tag full => Sys2Proof.Machine.execFabricMailbox q tag full s
  | .bridgeRegWr addr w crcOk => Sys2Proof.Machine.execBridgeRegWr addr w crcOk s
  | .bridgeRegRd addr crcOk => Sys2Proof.Machine.execBridgeRegRd addr crcOk s
  | .memData id data crcOk => Sys2Proof.Machine.execMemData id data crcOk s
  | .memErr id crcOk => Sys2Proof.Machine.execMemErr id crcOk s
  | .channelStart n write => Sys2Proof.Machine.execChannelStart n write s
  | .channelKick n write => Sys2Proof.Machine.execChannelKick n write s
  | .ownPoll n => Sys2Proof.Machine.execOwnPoll n s
  | .descriptorFetch n => Sys2Proof.Machine.execDescriptorFetch n s
  | .pacePulse n => Sys2Proof.Machine.execPacePulse n s
  | .idmaCopy n => Sys2Proof.Machine.execIdmaCopy n s
  | .idmaGather n => Sys2Proof.Machine.execIdmaGather n s
  | .fenceAcknowledged n => Sys2Proof.Machine.execFenceAcknowledged n s
  | .channelPause path n w => Sys2Proof.Machine.execChannelPause path n w s
  | .channelPaused n => Sys2Proof.Machine.execChannelPaused n s
  | .channelResume path n w => Sys2Proof.Machine.execChannelResume path n w s
  | .channelAbort path n w => Sys2Proof.Machine.execChannelAbort path n w s
  | .idmaBusTimeout ch => Sys2Proof.Machine.execIdmaBusTimeout ch s
  | .idmaBusError ch => Sys2Proof.Machine.execIdmaBusError ch s
  | .ccEnable path n w => Sys2Proof.Machine.execCcEnable path n w s
  | .ccDisable path n w => Sys2Proof.Machine.execCcDisable path n w s
  | .ccTrigger n => Sys2Proof.Machine.execCcTrigger n s
  | .ccElementMove n => Sys2Proof.Machine.execCcElementMove n s
  | .fabricEnable path w => Sys2Proof.Machine.execFabricEnable path w s
  | .fabricDisable path w => Sys2Proof.Machine.execFabricDisable path w s
  | .portEnable path k w => Sys2Proof.Machine.execPortEnable path k w s
  | .portDisable path k w => Sys2Proof.Machine.execPortDisable path k w s
  | .portSignalDetect k => Sys2Proof.Machine.execPortSignalDetect k s
  | .portRetrain path k w => Sys2Proof.Machine.execPortRetrain path k w s
  | .portRelease path k w => Sys2Proof.Machine.execPortRelease path k w s
  | .portQuarantineForce path k w => Sys2Proof.Machine.execPortQuarantineForce path k w s
  | .quarantineExpiry k => Sys2Proof.Machine.execQuarantineExpiry k s
  | .linkWordTimeout k => Sys2Proof.Machine.execLinkWordTimeout k s
  | .authTimeout k => Sys2Proof.Machine.execAuthTimeout k s
  | .idle k => Sys2Proof.Machine.execIdle k s
  | .train k count locked aligned => Sys2Proof.Machine.execTrain k count locked aligned s
  | .flow k vc0 vc1 ack nak => Sys2Proof.Machine.execFlow k vc0 vc1 ack nak s
  | .tsReq k seq t1 t2 t3 => Sys2Proof.Machine.execTsReq k seq t1 t2 t3 s
  | .tsRsp k seq t2 t3 t4 => Sys2Proof.Machine.execTsRsp k seq t2 t3 t4 s
  | .lclk k tick stamp => Sys2Proof.Machine.execLclk k tick stamp s
  | .leave k => Sys2Proof.Machine.execLeave k s
  | .rdReq k p => Sys2Proof.Machine.execRdReq k p s
  | .wrReq k p => Sys2Proof.Machine.execWrReq k p s
  | .rdRsp k p => Sys2Proof.Machine.execRdRsp k p s
  | .wrRsp k p => Sys2Proof.Machine.execWrRsp k p s
  | .stitch k p => Sys2Proof.Machine.execStitch k p s
  | .disc k p => Sys2Proof.Machine.execDisc k p s
  | .topo k p => Sys2Proof.Machine.execTopo k p s
  | .assign k p => Sys2Proof.Machine.execAssign k p s
  | .route k p => Sys2Proof.Machine.execRoute k p s
  | .ready k p => Sys2Proof.Machine.execReady k p s
  | .ping k p => Sys2Proof.Machine.execPing k p s
  | .pong k p => Sys2Proof.Machine.execPong k p s
  | .mbox k p => Sys2Proof.Machine.execMbox k p s
  | .authHello k p => Sys2Proof.Machine.execAuthHello k p s
  | .authProof k p => Sys2Proof.Machine.execAuthProof k p s
  | .authFail k p => Sys2Proof.Machine.execAuthFail k p s
  | .packetForward k type p => Sys2Proof.Machine.execPacketForward k type p s
  | .replayTimeout k => Sys2Proof.Machine.execReplayTimeout k s
  | .partialPacketTimeout k orphans => Sys2Proof.Machine.execPartialPacketTimeout k orphans s
  | .fabricResponseTimeout tag => Sys2Proof.Machine.execFabricResponseTimeout tag s
  | .creditStarvation k => Sys2Proof.Machine.execCreditStarvation k s
  | .remoteWindowAccess => Sys2Proof.Machine.execRemoteWindowAccess s
  | .discTimer => Sys2Proof.Machine.execDiscTimer s
  | .formationSettle => Sys2Proof.Machine.execFormationSettle s
  | .timeSyncTimer t1 => Sys2Proof.Machine.execTimeSyncTimer t1 s
  | .sessionRekey k => Sys2Proof.Machine.execSessionRekey k s
  | .stitchDeadline c => Sys2Proof.Machine.execStitchDeadline c s
  | .stitchEnable path c w => Sys2Proof.Machine.execStitchEnable path c w s
  | .ident r => Sys2Proof.Machine.execIdent r s
  | .regRd r => Sys2Proof.Machine.execRegRd r s
  | .regWr r => Sys2Proof.Machine.execRegWr r s
  | .resetCold r => Sys2Proof.Machine.execResetCold r s
  | .resetWarm r => Sys2Proof.Machine.execResetWarm r s
  | .resetHold r => Sys2Proof.Machine.execResetHold r s
  | .resetRelease r => Sys2Proof.Machine.execResetRelease r s
  | .wakeOff r => Sys2Proof.Machine.execWakeOff r s
  | .wakeOn r => Sys2Proof.Machine.execWakeOn r s
  | .halterWakeTimer => Sys2Proof.Machine.execHalterWakeTimer s
  | .flRd r => Sys2Proof.Machine.execFlRd r s
  | .flErase r => Sys2Proof.Machine.execFlErase r s
  | .flProg r => Sys2Proof.Machine.execFlProg r s
  | .flStat r jedec => Sys2Proof.Machine.execFlStat r jedec s
  | .flashOperationDone timeout => Sys2Proof.Machine.execFlashOperationDone timeout s
  | .otpRd r => Sys2Proof.Machine.execOtpRd r s
  | .otpProg r stuck => Sys2Proof.Machine.execOtpProg r stuck s
  | .fkeySet r stuck => Sys2Proof.Machine.execFkeySet r stuck s
  | .fkeyRevoke r => Sys2Proof.Machine.execFkeyRevoke r s
  | .fkeyKcv r => Sys2Proof.Machine.execFkeyKcv r s
  | .mbxSend r => Sys2Proof.Machine.execMbxSend r s
  | .mbxRecv r => Sys2Proof.Machine.execMbxRecv r s
  | .responseRead usb code => Sys2Proof.Machine.execResponseRead usb code s
  | .alertResponse => Sys2Proof.Machine.execAlertResponse s
  | .halterRequestReject code r => Sys2Proof.Machine.execHalterRequestReject code r s
  | .halterBusTimeout => Sys2Proof.Machine.execHalterBusTimeout s
  | .usbMgmtRequest code data crc jedec => Sys2Proof.Machine.execUsbMgmtRequest code data crc jedec s
  | .healthSample temps rails => Sys2Proof.Machine.execHealthSample temps rails s
  | .bootImageLoad => Sys2Proof.Machine.execBootImageLoad s
  | .serviceBoot => Sys2Proof.Machine.execServiceBoot s
  | .svcStatus => Sys2Proof.Machine.execSvcStatus s
  | .svcSelftest bad => Sys2Proof.Machine.execSvcSelftest bad s
  | .svcAdcCal => Sys2Proof.Machine.execSvcAdcCal s
  | .svcAuxCal => Sys2Proof.Machine.execSvcAuxCal s
  | .svcShadeCal => Sys2Proof.Machine.execSvcShadeCal s
  | .shadeCalTimeout => Sys2Proof.Machine.execShadeCalTimeout s
  | .svcCalLoad => Sys2Proof.Machine.execSvcCalLoad s
  | .svcCalSave => Sys2Proof.Machine.execSvcCalSave s
  | .svcJamRecover => Sys2Proof.Machine.execSvcJamRecover s
  | .svcSafeStop => Sys2Proof.Machine.execSvcSafeStop s
  | .svcFabricUp => Sys2Proof.Machine.execSvcFabricUp s
  | .fabricUpLimit => Sys2Proof.Machine.execFabricUpLimit s
  | .svcLoadEntry => Sys2Proof.Machine.execSvcLoadEntry s
  | .hostLossHoldExpiry => Sys2Proof.Machine.execHostLossHoldExpiry s
  | .jamAutoRecover k => Sys2Proof.Machine.execJamAutoRecover k s
  | .serviceHeartbeat => Sys2Proof.Machine.execServiceHeartbeat s
  | .halterColdResetEnd => Sys2Proof.Machine.execHalterColdResetEnd s
  | .wakeOffDelayExpiry => Sys2Proof.Machine.execWakeOffDelayExpiry s
  | .fabricPingTimeout q tag => Sys2Proof.Machine.execFabricPingTimeout q tag s
  | .quarantineReleaseTimeout q tag => Sys2Proof.Machine.execQuarantineReleaseTimeout q tag s
  | .configurationRequest => Sys2Proof.Machine.execConfigurationRequest s
  | .flitTransmissionError k inPacket => Sys2Proof.Machine.execFlitTransmissionError k inPacket s
  | .protocolViolation k => Sys2Proof.Machine.execProtocolViolation k s

end Sys2Proof.Machine
end

