-- ==== Sys2Proof/Machine/Tick.lean ====
section
/-!
DEFINITION. Sys2Proof/Machine/Tick.lean: one FABCLK cycle: what happens at a cycle in which no command comes. The pulses of
the cycle before reach their consumers (R38), the event timers count (R43) and SYS.TIME advances (R26, R453).
-/
namespace Sys2Proof.Machine

/-- A selector is enabled and selects one of the lines that pulse. -/
def State.selHit (s : State) (pulses : List Nat) (sel : Nat) : Bool :=
  s.selOn sel && pulses.contains ((s.reg sel).toNat % 256)

/-- Apply `f` for the numbers below `n` whose selector is hit; the selectors are judged as they stood before the cycle. -/
def State.forHits (s s0 : State) (pulses : List Nat) (n : Nat) (sel : Nat → Nat) (f : Nat → State → State) : State :=
  ((List.range n).filter (fun i => s0.selHit pulses (sel i))).foldl (fun t i => f i t) s

/-- The pulses of the cycle before reach the consumers that select them, by block (R38, R40). The timing sequencer samples its
lines in the cycles that its own commands name. -/
def State.consume (s : State) (pulses : List Nat) : State :=
  let hit (n : Nat) (sel : Nat → Nat) (f : Nat → State → State) (t : State) : State := t.forHits s pulses n sel f
  let s1 := hit 4 R.evmMonSel (fun i t => t.count (R.evmMonCnt i)) s
  let s2 := (List.range 16).foldl (fun (t : State) n =>
    if t.eventPin n && pulses.contains (t.fld (R.sysGpioCfg n) F.sysGpioCfg.EV) then
      { t with sys := { t.sys with gpioHigh := addSorted t.sys.gpioHigh n } } else t) s1
  let s3 := hit 4 R.grpStripSel (fun g t => (t.stripEvent g).seamBias g) s2
  let s4 := hit 4 R.uCloseSel (fun u t => t.windowCloseEvent u) s3
  let s5 := hit 4 R.uOpenSel (fun u t => t.windowOpen u) s4
  let s6 := hit 4 R.pathHlossSel (fun k t => t.hostLoss k) s5
  let s7 := if s.selHit pulses R.auxInjTrigSel then s6.auxInjTrigger else s6
  let s8 := if s.selHit pulses R.auxRegTrigSel then s7.auxRegTrigger else s7
  let s9 := hit 2 R.wfStopSel (fun c t => t.wfEnd c) s8
  let s10 := hit 2 R.wfStartSel (fun c t => t.wfBegin c) s9
  let s11 := (List.range 4).foldl (fun t c => hit 96 (fun n => R.engEcsel n c) (fun n u => u.catcherPulse n c) t) s10
  let s12 := hit 32 R.chStartSel (fun n t => t.chStart n) s11
  let s13 := hit 32 R.chKickSel (fun n t => t.chKick n) s12
  let s14 := hit 32 R.chPaceSel (fun n t => t.chPacePulse n) s13
  hit 8 R.ccTrigSel (fun n t => t.ccTrigger n) s14

/-- The event timers take their cancel and start events and count (R43). -/
def State.timersCycle (s : State) (pulses : List Nat) : State :=
  let s1 := s.forEach 32 (fun n t =>
    t.etimCycle n (s.selHit pulses (R.etimCancelSel n)) (s.selHit pulses (R.etimStartSel n)))
  { s1 with sys := { s1.sys with etimNew := [] } }

/-- SYS.TIME advances by 1 + R * 2^-24 ticks (R26, R453). -/
def State.timeCycle (s : State) : State :=
  if s.sys.timeStarted then
    let a := ((s.fab.frac : Int) + 2 ^ 24 + s.fab.rate).toNat
    { s with
      sys := { s.sys with time := s.sys.time + BitVec.ofNat 64 (a / 2 ^ 24) }
      fab := { s.fab with frac := a % 2 ^ 24 } }
  else s

/-- One FABCLK cycle without a command; nothing moves while the functional clocks are stopped (R23, R24). -/
def State.tick (s : State) : State :=
  if s.bit R.sysClkStat F.sysClkStat.PLL_LOCK then
    let p := s.pulses
    let s1 := { s with pulses := [] }
    let s2 := if p.isEmpty then s1 else s1.consume p
    (s2.timersCycle p).timeCycle.settle
  else s

end Sys2Proof.Machine
end

