-- ==== Sys2Proof/Machine/Step.lean ====
section
/-!
DEFINITION. Sys2Proof/Machine/Step.lean: one step of the block. The command at the front of the queue runs; on an empty queue one
FABCLK cycle passes.
-/
namespace Sys2Proof.Machine

/-- One step. (DESIGN CHOICE: notes/assumptions/1.) (DESIGN CHOICE: notes/assumptions/2.) (DESIGN CHOICE: notes/assumptions/61.) -/
def step (s : State) : Host.Outcome State Fault Refusal :=
  match s.pending with
  | [] => .next s.tick
  | c :: rest => exec c { s with pending := rest }

/-- The state with the command that a table word spells put at the front of its queue; unchanged where the word spells none. No
row of this hardware's table gives bits. -/
def State.withFetchWord (s : State) (nbits w : Nat) : State :=
  match Sys2Proof.decodeTableWord nbits w with
  | some c => { s with pending := c :: s.pending }
  | none => s

end Sys2Proof.Machine
end

