-- ==== Sys2Proof/Safety.lean ====
section
/-!
DEFINITION. Sys2Proof/Safety.lean: what the statements call a memory in canonical form, a state in which nothing waits inside the
block, a state as every command leaves it, a state that differs from another in some registers only, and what a write leaves in a
register of an idle block.
-/
namespace Sys2Proof.Machine

/-- `t` differs from `s` in the registers at `offs` at most, as they were written and as they govern the hardware. -/
def State.sameBut (s t : State) (offs : List Nat) : Prop :=
  t = { s with regs := t.regs, eff := t.eff } ∧ ∀ off, off ∉ offs → t.reg off = s.reg off ∧ t.effReg off = s.effReg off

/-- The bits of a register that a write sets while its block is idle (R10, R11). -/
def RegRow.takes (row : RegRow) : Word :=
  BitVec.ofNat 32 row.rwNow ||| BitVec.ofNat 32 row.rwIdle ||| (BitVec.ofNat 32 row.nextLine ||| BitVec.ofNat 32 row.nextDoc)

/-- What a register of an idle block holds after a write of `w`: its writable bits from `w`, its W1C bits cleared where `w` has
ones, the others as they were (R10, R11). -/
def RegRow.written (row : RegRow) (old w : Word) : Word :=
  ((old &&& ~~~row.takes) ||| (w &&& row.takes)) &&& ~~~(w &&& BitVec.ofNat 32 row.w1c)

/-- The internal memory is in canonical form: addresses strictly rising, no entry equal to what an unlisted address reads as. -/
def Memory.wf (m : Table Byte) : Bool := Table.canon (fun _ => 0) m

/-- A state as every command leaves it: nothing is left to work off, and HLT.STAT shows the main side (R475, Table 14-6). -/
abbrev State.settled (s : State) : Prop :=
  s.work = [] ∧ s.fld R.hltStat F.hltStat.MAIN_RUN = (if s.mainSideRuns then 1 else 0) ∧
  s.fld R.hltStat F.hltStat.READY = s.fld R.sysBootStat F.sysBootStat.READY

/-- Nothing waits inside the block: no consequence of an earlier command, no host operation on a quarantine, and E0 is not in the
middle of a service, a report or its boot, nor has it a request to look at. -/
abbrev State.quiet (s : State) : Prop :=
  s.work = [] ∧ s.fab.releases = [] ∧
  (s.sec = { warm := s.sec.warm } ∨
    (s.e0Runs = true ∧ s.sec.reports = [] ∧ s.sec.hostLoss = none ∧ s.sec.running = none ∧ s.sec.boot = false ∧
     s.sec.due = [] ∧ (s.eng 0).inbox = []))

/-- A state between commands: nothing waits, and HLT.STAT shows the main side. -/
abbrev State.usual (s : State) : Prop := s.quiet ∧ s.settled

end Sys2Proof.Machine
end

