-- ==== Sys2Proof/Certificates/Slice0/Obligations.lean ====
section
/-!
DEFINITION. Sys2Proof/Certificates/Slice0/Obligations.lean: the statements about the model. Each speaks of the commands of one family
in a state in which nothing waits (`State.usual`), says where each of them completes and with what effect, and what it leaves as it
was; `State.sameBut` is the frame of a command that changes registers only.
-/
open Sys2Proof Sys2Proof.Machine

/-! ## The queue, the idle cycle, and what every step keeps -/

/-- The block takes its commands first in, first out: a step is `exec` of the command at the front on the state with the rest of the
queue.
The model's own choices here: notes/assumptions/1. -/
def Obligations.StepRunsTheFrontCommand : Prop :=
  ∀ (s : State) (c : Instr) (rest : List Instr), s.pending = c :: rest → step s = exec c { s with pending := rest }

/-- R26, R43, the tick on an empty queue being the model's choice (notes/assumptions/2): with no command waiting and no pulse under way,
a step is one FABCLK cycle. SYS.TIME counts one, a running timer without a prescaler counts down, and where the PLL is not
locked nothing moves. -/
def Obligations.IdleStepIsOneCycle : Prop :=
  ∀ (s : State), s.pending = [] →
    (s.fld R.sysClkStat F.sysClkStat.PLL_LOCK = 0 → step s = .next s) ∧
    (s.fld R.sysClkStat F.sysClkStat.PLL_LOCK = 1 → s.usual → s.pulses = [] → s.sys.etimNew = [] → s.sys.timeStarted = true →
      s.fab.rate = 0 → s.fab.frac = 0 →
      ((∀ n, n < 32 → s.etimRun n = false) → step s = .next { s with sys := { s.sys with time := s.sys.time + 1 } }) ∧
      (∀ n, n < 32 → s.etimRun n = true → s.fld (R.etimCtl n) F.etimCtl.PRESC = 0 → 1 < (s.reg (R.etimCount n)).toNat →
        (∀ m, m < 32 → m ≠ n → s.etimRun m = false) → s.sys.etimPresc = [] →
        ∃ t, step s = .next t ∧ t.sys = { s.sys with time := s.sys.time + 1 } ∧
          t.reg (R.etimCount n) = s.reg (R.etimCount n) - 1 ∧ (∀ off, off ≠ R.etimCount n → t.reg off = s.reg off) ∧
          t = { s with regs := t.regs, sys := t.sys }))

/-- The state after reset is one in which nothing waits, HLT.STAT shows the main side, no command is queued and the memory is in
canonical form; every register holds the value of its table (R516).
The model's own choices here: notes/assumptions/13 and 14. -/
def Obligations.ResetStateIsUsual : Prop :=
  State.reset.usual ∧ State.reset.pending = [] ∧ Memory.wf State.reset.mem = true ∧
  (∀ off, State.reset.reg off = Reg.resetOf off) ∧ (∀ a, State.reset.byte a = 0)

/-- R475: every step, of whatever command and from every settled state, leaves a settled state: nothing is left to work off, and
HLT.STAT.MAIN_RUN and READY show the main side. -/
def Obligations.EveryStepKeepsSettled : Prop :=
  ∀ (s s' : State), s.settled → step s = .next s' → s'.settled

/-! ## Registers, events, pins, power and resets (chapters 0 to 2) -/

/-- R7, R8, R10, R11, R517: a 32-bit write of a register of the Tandem block sets its writable bits and clears what W1C says; an
unlisted offset ignores the write; a narrow or unaligned write, and one to a range without a block, only sets SYS.ERR_STAT.ACC.
The model's own choices here: notes/assumptions/6 and 8. -/
def Obligations.RegisterWritesFollowTheirRow : Prop :=
  ∀ (s : State) (path : Path) (off : Nat) (w : Word), s.usual → s.sys.warmActive = false →
    (∀ row, 0x20000 ≤ off → off < 0x24000 → off % 4 = 0 → Reg.rowOf off = some row →
      ∃ t, exec (.registerWrite path off 4 w) s = .next t ∧ s.sameBut t [off] ∧ t.reg off = row.written (s.reg off) w) ∧
    (0x20000 ≤ off → off < 0x24000 → off % 4 = 0 → Reg.rowOf off = none → exec (.registerWrite path off 4 w) s = .next s) ∧
    (∀ size, off < 0x3C000 → (size ≠ 4 ∨ off % 4 ≠ 0) →
      ∃ t, exec (.registerWrite path off size w) s = .next t ∧ s.sameBut t [R.sysErrAddr, R.sysErrStat] ∧
        t.fld R.sysErrStat F.sysErrStat.ACC = 1 ∧
        (s.reg R.sysErrStat = 0 → t.fld R.sysErrAddr F.sysErrAddr.OFFSET = off ∧ t.fld R.sysErrAddr F.sysErrAddr.PATH = pathCode path)) ∧
    ((0x3C000 ≤ off ∧ off < 0x40000 ∨ 0xD4000 ≤ off ∧ off < 0xE0000) → isMirror path = false →
      ∃ t u, exec (.unmappedBarAccess path off true) s = .next t ∧ s.sameBut t [R.sysErrAddr, R.sysErrStat] ∧
        t.fld R.sysErrStat F.sysErrStat.ACC = 1 ∧
        exec (.unmappedBarAccess path off false) s = .next u ∧ u = { t with rdata := 0 })

/-- R10, R15, R16: a read of the least significant word of SYS.TIME returns it and copies the other word into the shadow of the access
path, from which that path then reads it; a read of a read-to-clear counter returns it and clears it.
The model's own choices here: notes/assumptions/7 and 8. -/
def Obligations.ReadsLatchAndClear : Prop :=
  ∀ (s : State) (path : Path), s.usual → s.sys.warmActive = false →
    (∃ t, exec (.shadowLowRead path R.sysTimeLo 4) s = .next t ∧ t = { s with rdata := t.rdata, shadows := t.shadows } ∧
      t.rdata = s.sys.time.setWidth 32 ∧ t.shadow path R.sysTimeHi = (s.sys.time >>> 32).setWidth 32 ∧
      (∀ p off, (p, off) ≠ (path, R.sysTimeHi) → off < 2 ^ 20 → t.shadow p off = s.shadow p off)) ∧
    exec (.shadowLowRead path R.sysTimeHi 4) s = .next { s with rdata := s.shadow path R.sysTimeHi } ∧
    (∀ off, off ∈ [R.sysEccCeCnt, R.sysEccUeCnt, R.sysClaimErrCnt, R.lpOvrCnt 3, R.hqeTmoCnt, R.idmaBusCnt, R.dlfCrcCnt] →
      ∃ t, exec (.readClearAccess path off 4) s = .next t ∧ t.rdata = s.reg off ∧ t.reg off = 0 ∧
        { s with rdata := s.reg off }.sameBut t [off])

/-- R42, R43, R44, R49, R51 and Table 1-9: software events, the event monitor, and what enabling, disabling, starting, cancelling and
expiring do to a timer; a running timer also shows as DWELL of the paths that use it (R230).
The model's own choices here: notes/assumptions/25 and 26. -/
def Obligations.EventsAndTimers : Prop :=
  ∀ (s : State), s.usual →
    (∀ path w, s.accessible path R.evmSwEv = true →
      ∃ t, exec (.swEvent path w) s = .next t ∧ t = { s with pulses := t.pulses } ∧
        ∀ ev, ev ∈ t.pulses ↔ ev ∈ s.pulses ∨ ∃ k, k < 8 ∧ w.getLsbD k = true ∧ ev = 248 + k) ∧
    (∀ m : Fin 4, s.selOn (R.evmMonSel m) = true →
      ∃ t, exec (.eventMonitorPulse m) s = .next t ∧ s.sameBut t [R.evmMonCnt m] ∧
        t.reg (R.evmMonCnt m) = satInc (s.reg (R.evmMonCnt m))) ∧
    (∀ n : Fin 32,
      let regs := [R.etimCtl n, R.etimCount n, R.etimStat n, R.pathStat 0, R.pathStat 1, R.pathStat 2, R.pathStat 3]
      let load := if s.reg (R.etimLoad n) = 0 then 1 else s.reg (R.etimLoad n)
      (∀ path w, s.accessible path (R.etimCtl n) = true →
        (s.owner (.timer n) = 0 ∨ s.owner (.timer n) = claimantOf path) → s.etimRun n = false →
        (s.fld (R.etimCtl n) F.etimCtl.EN = 0 → s.selOn (R.etimStartSel n) = false → F.etimCtl.MODE.get w ≠ 3 →
          ∃ t, exec (.etimEnable path n w) s = .next t ∧ t = { s with regs := t.regs, eff := t.eff, sys := t.sys } ∧
            t.sys = { s.sys with etimPresc := Table.erase s.sys.etimPresc n, etimNew := addSorted s.sys.etimNew n } ∧
            (∀ off, off ∉ regs → t.reg off = s.reg off) ∧ t.fld (R.etimCtl n) F.etimCtl.EN = 1 ∧
            t.fld (R.etimCtl n) F.etimCtl.MODE = F.etimCtl.MODE.get w ∧ t.owner (.timer n) = claimantOf path ∧
            t.etimRun n = true ∧ t.reg (R.etimCount n) = load) ∧
        (∃ t, exec (.etimDisable path n w) s = .next t ∧ s.sameBut t regs ∧ t.fld (R.etimCtl n) F.etimCtl.EN = 0 ∧
          t.owner (.timer n) = 0 ∧ t.etimRun n = false ∧ t.reg (R.etimCount n) = s.reg (R.etimCount n))) ∧
      (∀ path w, s.accessible path (R.etimCtl n) = true → s.owner (.timer n) ≠ 0 → s.owner (.timer n) ≠ claimantOf path →
        ∃ t, exec (.etimDisable path n w) s = .next t ∧ t.fld R.sysErrStat F.sysErrStat.CLAIM = 1 ∧
          s.sameBut t [R.sysErrAddr, R.sysErrStat, R.sysClaimErrCnt] ∧ t.reg R.sysClaimErrCnt = satInc (s.reg R.sysClaimErrCnt)) ∧
      (s.fld (R.etimCtl n) F.etimCtl.EN = 1 → s.etimMode n ≠ 3 →
        (s.etimRun n = false →
          ∃ t, exec (.etimStartEvent n) s = .next (if s.selOn (R.etimStartSel n) then t else s) ∧
            (∀ off, off ∉ regs → t.reg off = s.reg off) ∧ t.etimRun n = true ∧ t.reg (R.etimCount n) = load ∧
            t = { s with regs := t.regs, sys := { s.sys with etimPresc := Table.erase s.sys.etimPresc n } }) ∧
        (s.etimRun n = true → s.etimMode n ≠ 2 → s.selOn (R.etimStartSel n) = true →
          ∃ t, exec (.etimStartEvent n) s = .next t ∧ s.sameBut t [R.etimStat n] ∧
            t.fld (R.etimStat n) F.etimStat.START_IGN = 1 ∧ t.etimRun n = true)) ∧
      (s.etimRun n = true → s.selOn (R.etimCancelSel n) = true →
        (s.etimMode n ≠ 2 → ∃ t, exec (.etimCancelEvent n) s = .next t ∧ s.sameBut t regs ∧ t.etimRun n = false ∧
          t.reg (R.etimCount n) = s.reg (R.etimCount n) ∧ t.reg (R.etimCtl n) = s.reg (R.etimCtl n)) ∧
        (s.etimMode n = 2 → ∃ t, exec (.etimCancelEvent n) s = .next t ∧ t.reg (R.etimCount n) = load ∧
          (∀ off, off ≠ R.etimCount n → t.reg off = s.reg off) ∧
          t = { s with regs := t.regs, sys := { s.sys with etimPresc := Table.erase s.sys.etimPresc n } })) ∧
      (s.etimRun n = true →
        ∃ t, exec (.etimExpiry n) s = .next t ∧ t = { s with regs := t.regs, pulses := addSorted s.pulses (128 + n), sys := t.sys } ∧
          (∀ off, off ∉ regs → t.reg off = s.reg off) ∧ t.fld (R.etimStat n) F.etimStat.FIRED = 1 ∧
          (s.etimMode n = 1 → t.reg (R.etimCount n) = load ∧ t.etimRun n = true) ∧
          (s.etimMode n ≠ 1 → t.reg (R.etimCount n) = 0 ∧ t.etimRun n = false ∧ t.sys = s.sys)))

/-- R33, R36, R37: a scrub read of a word with one flipped bit repairs it, counts it and sets CE; every byte of memory, every other
register and everything else is as before, and the pass goes on. Without a flip nothing but the pass moves; the next clause is
the code's distance (R429): any two flipped bits of a clean word are reported as uncorrectable.
The model's own choices here: notes/assumptions/59. -/
def Obligations.ScrubRepairsSingleBits : Prop :=
  (∀ (s : State) (i : Nat), s.usual → s.fld R.sysScrubCtl F.sysScrubCtl.EN = 1 → s.sys.bitErrs = [] → s.sys.poison = [] →
    s.memOk (scrubAddress s.sys.scrubPos) = true →
    exec (.patrolScrubRead []) s = .next { s with sys := { s.sys with scrubPos := (s.sys.scrubPos + 1) % scrubWords } } ∧
    (i < 137 →
      ∃ t, exec (.patrolScrubRead [i]) s = .next t ∧ (∀ a, t.byte a = s.byte a) ∧
        t.sys = { s.sys with scrubPos := (s.sys.scrubPos + 1) % scrubWords } ∧ t = { s with regs := t.regs, mem := t.mem, sys := t.sys } ∧
        t.reg R.sysEccCeCnt = satInc (s.reg R.sysEccCeCnt) ∧ t.fld R.sysEccStat F.sysEccStat.CE = 1 ∧
        (∀ off, off ∉ [R.sysEccCeCnt, R.sysEccStat] → t.reg off = s.reg off))) ∧
  (∀ i j, i < j → j < 137 → eccDecode (eccSyndrome 0 [i]) = .correct i ∧ eccDecode (eccSyndrome 0 [i, j]) = .uncorrectable)

/-- R62, R64, R65: a GPIO pin is configured and claimed by the same write, an event output is high from its pulse to its end, and a
level that the board drives is what the pin shows; the JTAG instructions drive the pins as Table 2-6 says.
The model's own choices here: notes/assumptions/18 and 62. -/
def Obligations.PinsAndBoundaryScan : Prop :=
  ∀ (s : State), s.usual →
    (∀ (n : Fin 16) (path : Path) (w : Word), s.accessible path (R.sysGpioCfg n) = true →
      (s.owner (.pin n 1) = 0 ∨ s.owner (.pin n 1) = claimantOf path) →
      (w.getLsbD 0 = true →
        ∃ t, exec (.gpioCfgWrite path n w) s = .next t ∧ s.sameBut t [R.sysGpioCfg n] ∧
          t.fld (R.sysGpioCfg n) F.sysGpioCfg.EN = 1 ∧ t.fld (R.sysGpioCfg n) F.sysGpioCfg.FUNC = 1 ∧
          t.owner (.pin n 1) = claimantOf path ∧ t.fld (R.sysGpioCfg n) F.sysGpioCfg.MODE = F.sysGpioCfg.MODE.get w) ∧
      (w.getLsbD 0 = false →
        ∃ t, exec (.gpioCfgWrite path n w) s = .next t ∧ t.fld (R.sysGpioCfg n) F.sysGpioCfg.EN = 0 ∧
          t.fld (R.sysGpioCfg n) F.sysGpioCfg.FUNC = 0 ∧ t.owner (.pin n 1) = 0 ∧ (∀ off, off ≠ R.sysGpioCfg n → t.reg off = s.reg off) ∧
          n.val ∉ t.sys.gpioHigh)) ∧
    (∀ n : Fin 16, s.eventPin n = true →
      ∃ t, exec (.gpioEventOutput n) s = .next t ∧ t.drivenLevel n = some true ∧
        (∀ m : Fin 16, m ≠ n → t.drivenLevel m = s.drivenLevel m) ∧ t = { s with sys := { s.sys with gpioHigh := t.sys.gpioHigh } }) ∧
    (∀ n : Fin 16,
      ∃ t, exec (.gpioPulseEnd n) s = .next t ∧ (s.eventPin n = true → t.drivenLevel n = some false) ∧
        (∀ m : Fin 16, m ≠ n → t.drivenLevel m = s.drivenLevel m) ∧ t = { s with sys := { s.sys with gpioHigh := t.sys.gpioHigh } }) ∧
    (∀ (n : Fin 16) (level : Option Bool),
      ∃ t, exec (.gpioInputChange n level) s = .next t ∧ t.boardLevel n = level ∧ (∀ m, m ≠ n.val → t.boardLevel m = s.boardLevel m) ∧
        t = { s with sys := { s.sys with gpioExt := t.sys.gpioExt } } ∧
        (∀ v, level = some v → s.drivenLevel n = none → (t.pinLevel n).1 = v)) ∧
    exec .extest s = .next { s with sys := { s.sys with jtagIr := 0x00, pins := .boundary } } ∧
    (∀ pins load, exec (.samplePreload pins load) s =
      .next { s with sys := { s.sys with jtagIr := 0x01, pins := .functional, boundary := if load = [] then pins else load } }) ∧
    exec .idcode s = .next { s with sys := { s.sys with jtagIr := 0x02, pins := .functional }, rdata := 0x14896BCB } ∧
    exec .clamp s = .next { s with sys := { s.sys with jtagIr := 0x03, pins := .clamp } } ∧
    exec .highz s = .next { s with sys := { s.sys with jtagIr := 0x04, pins := .highz } } ∧
    (∀ code : BitVec 6, 4 < code.toNat → exec (.bypass code) s = .next { s with sys := { s.sys with jtagIr := code, pins := .functional } })

/-- R72-R75, Table 2-10: a domain that may come on begins to and reads 0 until it is complete; then its memories are zero and its
status bit is 1; a domain that may go off loses its memories; a request for a domain in transition waits and is then applied.
The model's own choices here: notes/assumptions/4. -/
def Obligations.PowerDomains : Prop :=
  ∀ (s : State), s.usual →
    (∀ (path : Path) (m : Fin 5) (i : Nat) (w : Word), s.accessible path (R.sysPdSet m) = true → i < 32 → (m = 4 → i < 4) →
      w = BitVec.ofNat 32 (2 ^ i) → s.pdOn (32 * m + i + 1) = false → 32 * m + i + 1 ∉ s.sys.pdRising →
      (s.pdCause path (32 * m + i + 1) true = 0 →
        exec (.pdOnRequest path m w) s =
          .next { s with sys := { s.sys with pdRising := addSorted s.sys.pdRising (32 * m + i + 1) } }) ∧
      (s.pdCause path (32 * m + i + 1) true = 1 → s.fld R.sysPdErr F.sysPdErr.VALID = 0 →
        ∃ t, exec (.pdOnRequest path m w) s = .next t ∧ s.sameBut t [R.sysErrAddr, R.sysErrStat, R.sysPdErr] ∧
          t.fld R.sysErrStat F.sysErrStat.ACC = 1 ∧ t.fld R.sysPdErr F.sysPdErr.VALID = 1 ∧ t.fld R.sysPdErr F.sysPdErr.CAUSE = 1 ∧
          t.fld R.sysPdErr F.sysPdErr.DOM = 32 * m + i + 1)) ∧
    (∀ (path : Path) (k : Nat) (w : Word), s.accessible path (R.sysPdClr 3) = true → k < 12 → s.pdOn (97 + k) = true →
      s.pdCause path (97 + k) false = 0 → 97 + k ∉ s.sys.pdRising → w = BitVec.ofNat 32 (2 ^ k) →
      ∃ t, exec (.pdOffRequest path 3 w) s = .next t ∧ t = { s with regs := t.regs, mem := t.mem, sys := t.sys } ∧ t.pdOn (97 + k) = false ∧
        (∀ off, off ≠ R.sysPdStat 3 → t.reg off = s.reg off) ∧ (∀ d, 1 ≤ d → d ≠ 97 + k → t.pdOn d = s.pdOn d) ∧
        (∀ a, t.byte a = if teamBase k ≤ a ∧ a < teamBase k + 0x80000 then 0 else s.byte a)) ∧
    (∀ k, k < 12 → 97 + k ∈ s.sys.pdRising →
      ∃ t, exec (.pdPowerOnComplete (97 + k)) s = .next t ∧ t = { s with regs := t.regs, mem := t.mem, sys := t.sys } ∧
        t.pdOn (97 + k) = true ∧ t.sys.pdRising = s.sys.pdRising.filter (fun d => d != 97 + k) ∧
        (∀ off, off ≠ R.sysPdStat 3 → t.reg off = s.reg off) ∧
        (∀ a, t.byte a = if teamBase k ≤ a ∧ a < teamBase k + 0x80000 then 0 else s.byte a)) ∧
    (∀ (path : Path) (d : Nat) (on : Bool), s.sys.pdDeferred = [⟨d, on, path⟩] → d ∉ s.sys.pdRising → s.pdOn d = !on →
      on = true → s.pdCause path d true = 0 →
      exec .pdDeferredRequest s = .next { s with sys := { s.sys with pdDeferred := [], pdRising := addSorted s.sys.pdRising d } })

/-- R23, R24, R26, R77: lock starts the functional clocks, SYS.TIME and the default domains; loss of lock stops them, is counted,
logged and raised as an alert, and drops the LED outputs; after relock the main side restarts with the calibrations it keeps.
The model's own choices here: notes/assumptions/15 and 16. -/
def Obligations.ClockAndLossOfLock : Prop :=
  ∀ (s : State), s.usual →
    (s.fld R.sysClkStat F.sysClkStat.PLL_LOCK = 0 → s.sys.resetting = 0 → s.fld R.sysStrap F.sysStrap.BOOT_SRC ≠ 3 →
      ∃ t, exec .pllLock s = .next t ∧ t.settled ∧ t.fld R.sysClkStat F.sysClkStat.PLL_LOCK = 1 ∧
        t.fld R.sysClkStat F.sysClkStat.XTAL_OK = 1 ∧ t.fld R.sysBootStat F.sysBootStat.STAGE = 2 ∧
        t = { s with regs := t.regs, sys := { s.sys with timeStarted := true, pdRising := [1, 97, 127, 128] } } ∧
        (∀ d, d ∈ [1, 97, 127, 128] → t.pdOn d = false) ∧
        (∀ off, off ∉ [R.sysClkStat, R.sysBootStat, R.hltStat, R.secBootInfo, R.sysPdStat 0, R.sysPdStat 3] → t.reg off = s.reg off)) ∧
    (s.fld R.sysClkStat F.sysClkStat.PLL_LOCK = 1 → s.sys.resetting = 0 →
      ∃ t, exec .pllLossOfLock s = .next t ∧ t.settled ∧ t.fld R.sysClkStat F.sysClkStat.PLL_LOCK = 0 ∧ t.sys.resetting = 3 ∧
        t.fld R.sysRstCause F.sysRstCause.PLL_LOSS = 1 ∧ (t.reg R.hltAlert).getLsbD 4 = true ∧ t.tsq.ls = 0 ∧
        t.fld R.sysClkStat F.sysClkStat.LOSS_CNT = min 255 (s.fld R.sysClkStat F.sysClkStat.LOSS_CNT + 1) ∧
        (∀ k, k < 4 → (t.pathSt k).speed = 0) ∧ t.fld R.hltStat F.hltStat.MAIN_RUN = 0 ∧ t.mem = s.mem ∧ t.streams = s.streams ∧
        (∀ off, off < 0x34000 → off ∉ [R.sysClkStat, R.sysRstCause, R.hqeStat] → t.reg off = s.reg off)) ∧
    (s.fld R.sysClkStat F.sysClkStat.PLL_LOCK = 1 → s.sys.resetting = 3 → s.fld R.sysStrap F.sysStrap.BOOT_SRC ≠ 3 → s.eff = [] →
      ∃ t, exec .clockLossReset s = .next t ∧ t.settled ∧ t.sys.resetting = 0 ∧ t.sys.time = s.sys.time ∧
        t.fld R.sysBootStat F.sysBootStat.STAGE = 2 ∧ t.pulses = [] ∧ t.tsq = {} ∧ t.gait = {} ∧ t.streams = [] ∧
        (∀ a, t.byte a = if s.pdOn 130 = true ∧ shadingBase ≤ a ∧ a < 0x1880000 then s.byte a else 0) ∧
        (∀ off, 0x8000 ≤ off ∧ off < 0xC000 ∨ 0x14000 ≤ off ∧ off < 0x1C000 ∨ 0x2C000 ≤ off ∧ off < 0x30000 →
          t.reg off = Reg.resetOf off) ∧
        (∀ g, g < 4 → t.reg (R.grpSett g) = s.reg (R.grpSett g) ∧ t.reg (R.grpSetv g) = s.reg (R.grpSetv g)) ∧
        (∀ i, i < 384 → t.reg (R.shdTrim0 i) = s.reg (R.shdTrim0 i)))

/-- What a cold reset leaves of a state (R76, R78, Table 2-12): memories and block states are gone, SYS.TIME is 0, the registers hold
their reset values but for those of the AON domain, the domains' status and the ones filled from OTP; the AON domain goes on. -/
def AfterColdReset (s t : State) : Prop :=
  t.settled ∧ t.pending = s.pending ∧ t.mem = [] ∧ t.sys.time = 0 ∧ t.sys.timeStarted = false ∧ t.pulses = [] ∧ t.streams = [] ∧
  t.tsq = {} ∧ t.vaf = {} ∧ t.shd = {} ∧ t.geo = {} ∧ t.gait = {} ∧ t.aux = {} ∧ t.wfs = [] ∧ t.pack = {} ∧ t.idma = {} ∧ t.fab = {} ∧
  t.hlt.flash = s.hlt.flash ∧ t.hlt.otp = s.hlt.otp ∧ (∀ m, m < 5 → t.reg (R.sysPdStat m) = 0) ∧
  (∀ off, keptAon off = false → off ∉ [R.dlfUidLo, R.dlfUidHi, R.dlfKey] →
    (∀ m, m < 5 → off ≠ R.sysPdStat m) → t.reg off = Reg.resetOf off)

/-- R69, R76, R80, R84: a rail outside its limits, PORST_N and the rise of VAON put the main side into cold reset and note the cause;
PORST_N rising samples the boot straps; once every rail is good and nothing holds it, the main side leaves reset at stage 1.
The model's own choices here: notes/assumptions/13, 15 and 17. -/
def Obligations.ColdResets : Prop :=
  ∀ (s : State),
    (∀ (rail : Fin 11) (mv : BitVec 16), s.sys.resetting ≠ 1 →
      ∃ t, exec (.mainRailUndervoltage rail mv) s = .next t ∧ AfterColdReset s t ∧ t.sys.resetting = 2 ∧
        rail.val ∈ t.sys.railsBad ∧ t.fld R.sysRstCause F.sysRstCause.UV_MAIN = 1 ∧ (t.reg R.hltAlert).getLsbD 3 = true ∧
        t.fld R.hltStat F.hltStat.MAIN_RUN = 0) ∧
    (∀ ns, 10000 ≤ ns → s.sys.resetting ≠ 1 →
      ∃ t, exec (.porstAssert ns) s = .next t ∧ AfterColdReset s t ∧ t.sys.resetting = 2 ∧ t.sys.porstLow = true ∧
        t.fld R.sysRstCause F.sysRstCause.PORST = 1 ∧ t.fld R.hltStat F.hltStat.MAIN_RUN = 0) ∧
    (∀ ns, ns < 1000 → s.usual → exec (.porstAssert ns) s = .next s) ∧
    (∀ addr, ∃ t, exec (.aonPowerUp addr) s = .next t ∧ AfterColdReset s t ∧ t.sys.resetting = 1 ∧ t.sys.porstLow = true ∧
      t.fld R.sysRstCause F.sysRstCause.VAON = 1 ∧ t.fld R.sysStrap F.sysStrap.HLT_ADDR = addr.toNat ∧ t.hlt.alertN = false) ∧
    (s.usual → s.sys.railsBad = [] → s.fld R.hltStat F.hltStat.HOLD = 0 → s.hlt.pulse = false →
      ∃ t, exec .porstDeassert s = .next t ∧ t.settled ∧ t = { s with regs := t.regs, sys := { s.sys with porstLow := false, resetting := 0 } } ∧
        t.fld R.sysStrap F.sysStrap.BOOT_SRC =
          (if s.boardLevel 0 = some true then 1 else 0) + (if s.boardLevel 1 = some true then 2 else 0) ∧
        t.fld R.sysStrap F.sysStrap.LINK = (if s.boardLevel 2 = some true then 1 else 0) ∧
        t.fld R.sysBootStat F.sysBootStat.STAGE = 1 ∧
        (∀ off, off ∉ [R.sysStrap, R.sysBootStat, R.hltStat] → t.reg off = s.reg off)) ∧
    (∀ banks : BitVec 8, s.usual → s.sys.porstLow = false → s.fld R.hltStat F.hltStat.HOLD = 0 → s.hlt.pulse = false →
      ∃ t, exec (.mainRailRecovered banks) s = .next t ∧ t.settled ∧
        t = { s with regs := t.regs, sys := { s.sys with railsBad := [], resetting := 0 } } ∧ t.reg R.sysIoStat = BitVec.ofNat 32 banks.toNat ∧
        t.fld R.sysBootStat F.sysBootStat.STAGE = 1 ∧
        (∀ off, off ∉ [R.sysIoStat, R.sysBootStat, R.hltStat] → t.reg off = s.reg off))

/-- What a warm reset leaves of a state (R76, R79, Table 2-12), with the cause it notes. -/
def AfterWarmReset (s t : State) (cause : Fld) : Prop :=
  t.settled ∧ t.sys.resetting = 4 ∧ t.sys.warmActive = true ∧ t.sys.time = s.sys.time ∧ t.fld R.sysRstCause cause = 1 ∧
  t.fld R.sysBootStat F.sysBootStat.STAGE = 2 ∧ t.fld R.sysBootStat F.sysBootStat.READY = 0 ∧ t.pulses = [] ∧ t.streams = [] ∧
  t.tsq = {} ∧ t.geo = {} ∧ t.gait = {} ∧ t.idma = {} ∧ t.pending = s.pending ∧
  (∀ a, t.byte a = if pageBase ≤ a ∨ s.pdOn 130 = true ∧ shadingBase ≤ a ∧ a < 0x1880000 then s.byte a else 0) ∧
  (∀ d, 1 ≤ d → d ≤ 132 → t.pdOn d = s.pdOn d) ∧
  (∀ off, 0x8000 ≤ off ∧ off < 0xC000 ∨ 0x14000 ≤ off ∧ off < 0x1C000 ∨ 0x2C000 ≤ off ∧ off < 0x30000 → t.reg off = Reg.resetOf off) ∧
  (∀ g, g < 4 → t.reg (R.grpSett g) = s.reg (R.grpSett g) ∧ t.reg (R.grpSetv g) = s.reg (R.grpSetv g))

/-- R76, R79, R85: a write of WARM, a function-level reset and a hot reset start a warm reset with their cause; a configuration
request is retried until READY unless the host is the image source.
The model's own choices here: notes/assumptions/15 and 16. -/
def Obligations.WarmResets : Prop :=
  ∀ (s : State), s.sys.resetting = 0 → s.eff = [] → s.fld R.sysStrap F.sysStrap.BOOT_SRC ≠ 3 →
    (∀ path, s.accessible path R.sysRstCtl = true → isMirror path = false →
      ∃ t, exec (.warmReset path) s = .next t ∧ AfterWarmReset s t F.sysRstCause.WARM) ∧
    (∃ t, exec .functionLevelReset s = .next t ∧ AfterWarmReset s t F.sysRstCause.FLR) ∧
    (∃ t, exec .pcieHotReset s = .next t ∧ AfterWarmReset s t F.sysRstCause.FLR) ∧
    (s.usual → s.fld R.sysBootStat F.sysBootStat.READY = 1 →
      exec .configurationRequest s = .next { s with hqe := { s.hqe with cfgRetry := some false } }) ∧
    (s.usual → s.fld R.sysBootStat F.sysBootStat.READY = 0 → s.fld R.sysStrap F.sysStrap.BOOT_SRC = 0 →
      exec .configurationRequest s = .next { s with hqe := { s.hqe with cfgRetry := some true } })

/-! ## Sensor timing (chapter 3) -/

/-- R87-R90, R103 and Table 3-3: an accepted enable sets LINE_CNT to 0 and drives the program's outputs to their idle levels, and a
NEXT already reached is advanced by whole pitches to the first one beyond the position; a refused enable leaves EN at 0 with
its cause; a disable of a program without a line in progress ends its flush state and drops its pending line.
The model's own choices here: notes/assumptions/6. -/
def Obligations.LinePrograms : Prop :=
  ∀ (s : State) (p : Fin 8), s.usual →
    (∀ (path : Path) (w : Word), s.accessible path (R.lpCfg p) = true → s.lpIdle p = true →
      let s1 := s.setReg (R.lpCfg p) (Row.lpCfg.written (s.reg (R.lpCfg p)) (F.lpCfg.EN.put w 1))
      (s1.lpCause p = 0 → s.shutters p = [] →
        ∃ t, exec (.lpEnable path p w) s = .next t ∧ t = { s with regs := t.regs, eff := t.eff, tsq := t.tsq } ∧
          t.fld (R.lpCfg p) F.lpCfg.EN = 1 ∧ t.fld (R.lpCfg p) F.lpCfg.SRC = F.lpCfg.SRC.get w ∧ t.reg (R.lpLineCnt p) = 0 ∧
          (∀ n, n < 24 → t.tsq.tg.getLsbD n =
            (if (s.fld (R.lpOuts p) F.lpOuts.TG).testBit n then (s.fld (R.lpIdle p) F.lpIdle.TG).testBit n else s.tsq.tg.getLsbD n)) ∧
          (∀ q, q ≠ p.val → t.lp q = s.lp q) ∧
          (∀ off, off ∉ [R.lpCfg p, R.lpLineCnt p, R.lpNextLo p, R.lpNextHi p, R.lpStat p] → t.reg off = s.reg off) ∧
          (5 < F.lpCfg.SRC.get w → t.next p = s.next p ∧ t.reg (R.lpStat p) = s.reg (R.lpStat p)) ∧
          (F.lpCfg.SRC.get w ≤ 5 → -(2 ^ 60) < s.next p → s.next p ≤ s.position (F.lpCfg.SRC.get w) →
            s.position (F.lpCfg.SRC.get w) < 2 ^ 60 →
            t.fld (R.lpStat p) F.lpStat.NEXT_ADJ = 1 ∧ s.position (F.lpCfg.SRC.get w) < t.next p ∧
            t.next p ≤ s.position (F.lpCfg.SRC.get w) + ((s.reg (R.lpPitch p)).toNat : Nat) ∧
            ∃ k : Nat, t.next p = s.next p + k * ((s.reg (R.lpPitch p)).toNat : Nat))) ∧
      (s1.lpCause p ≠ 0 →
        ∃ t, exec (.lpEnable path p w) s = .next t ∧ s.sameBut t [R.lpCfg p, R.lpStat p] ∧ t.fld (R.lpCfg p) F.lpCfg.EN = 0 ∧
          t.fld (R.lpStat p) F.lpStat.CFG_ERR = 1 ∧ t.fld (R.lpStat p) F.lpStat.CFG_CAUSE = s1.lpCause p)) ∧
    (∀ (path : Path), s.accessible path (R.lpCfg p) = true → s.fld (R.lpCfg p) F.lpCfg.EN = 1 → (s.lp p).run = .idle →
      (∀ g, g < 4 → s.fld (R.grpCtl g) F.grpCtl.EN = 0) →
      ∃ t, exec (.lpDisable path p (s.reg (R.lpCfg p))) s = .next t ∧ t = { s with regs := t.regs, eff := t.eff, tsq := t.tsq } ∧
        t.fld (R.lpCfg p) F.lpCfg.EN = 0 ∧ t.fld (R.lpStat p) F.lpStat.FLUSHING = 0 ∧ (t.lp p).pending = none ∧ (t.lp p).run = .idle ∧
        (∀ q, q ≠ p.val → t.lp q = s.lp q) ∧ (∀ off, off ∉ [R.lpCfg p, R.lpStat p, R.tsqStat] → t.reg off = s.reg off))

/-- R102, R104, R110, R113, R114, Table 3-1, with no shading group in use: a trigger starts the program's line two cycles later and
fires its event, or is counted as an overrun while a line is in progress; the flush state starts flush lines; the line timeout
ends the line with its end event.
The model's own choices here: notes/assumptions/27. -/
def Obligations.LinesStartAndEnd : Prop :=
  ∀ (s : State) (p : Fin 8) (cycle : Nat), s.usual → (∀ g, g < 4 → s.fld (R.grpCtl g) F.grpCtl.EN = 0) →
    (s.fld (R.lpCfg p) F.lpCfg.EN = 1 → s.pdOn 131 = true → s.fld (R.lpCfg p) F.lpCfg.SRC = 7 → s.selOn (R.lpTrigSel p) = true →
      s.fld R.dlfLcCfg F.dlfLcCfg.EN = 0 →
      ((s.lp p).run = .idle →
        ∃ t, exec (.lineTrigger p cycle) s = .next t ∧
          t = { s with regs := t.regs, eff := t.eff, tsq := t.tsq, vaf := { s.vaf with dacOn := t.vaf.dacOn }, pulses := addSorted s.pulses p } ∧
          t.reg (R.lpLineCnt p) = s.reg (R.lpLineCnt p) + 1 ∧ (t.lp p).run = .line ∧ (t.lp p).line = (s.reg (R.lpLineCnt p)).toNat ∧
          (t.lp p).pc = s.fld (R.lpCfg p) F.lpCfg.START ∧ (t.lp p).cycle = cycle + 2 ∧ (t.lp p).loop0 = none ∧ (t.lp p).loop1 = none ∧
          (t.lp p).pending = (s.lp p).pending ∧ t.fld (R.lpStat p) F.lpStat.BUSY = 1 ∧ t.fld (R.lpStat p) F.lpStat.FLUSHING = 0 ∧
          t.tsq.tg = s.tsq.tg ∧ (∀ q, q ≠ p.val → t.lp q = s.lp q) ∧
          (∀ off, off ∉ [R.lpLineCnt p, R.lpStat p, R.tsqStat] → t.reg off = s.reg off) ∧
          (∀ off, off ∈ s.lineRegs p → t.effReg off = t.reg off)) ∧
      ((s.lp p).run = .line →
        ∃ t, exec (.lineTrigger p cycle) s = .next t ∧ s.sameBut t [R.lpLineCnt p, R.lpOvrCnt p, R.lpStat p] ∧
          t.reg (R.lpLineCnt p) = s.reg (R.lpLineCnt p) + 1 ∧ t.reg (R.lpOvrCnt p) = satInc (s.reg (R.lpOvrCnt p)) ∧
          t.fld (R.lpStat p) F.lpStat.OVR = 1)) ∧
    (s.fld (R.lpCfg p) F.lpCfg.EN = 1 → s.fld (R.lpCfg p) F.lpCfg.FLUSH_EN = 1 → (s.lp p).run = .idle →
      (s.fld (R.lpStat p) F.lpStat.FLUSHING = 0 →
        ∃ t, exec (.flushEntry p cycle) s = .next t ∧ t = { s with regs := t.regs, tsq := t.tsq } ∧
          t.fld (R.lpStat p) F.lpStat.FLUSHING = 1 ∧ (t.lp p).run = .flush ∧ (t.lp p).pc = s.fld (R.lpCfg p) F.lpCfg.START ∧
          (t.lp p).cycle = cycle + 2 ∧ t.reg (R.lpFlushCnt p) = satInc (s.reg (R.lpFlushCnt p)) ∧
          (∀ off, off ∉ [R.lpStat p, R.tsqStat, R.lpFlushCnt p] → t.reg off = s.reg off)) ∧
      (s.fld (R.lpStat p) F.lpStat.FLUSHING = 1 →
        ∃ t, exec (.flushLineDue p cycle) s = .next t ∧ t = { s with regs := t.regs, tsq := t.tsq } ∧
          (t.lp p).run = .flush ∧ (t.lp p).pc = s.fld (R.lpCfg p) F.lpCfg.START ∧ (t.lp p).cycle = cycle + 2 ∧
          t.reg (R.lpFlushCnt p) = satInc (s.reg (R.lpFlushCnt p)) ∧ (∀ off, off ≠ R.lpFlushCnt p → t.reg off = s.reg off))) ∧
    ((s.lp p).run = .line → (s.lp p).ended = false → (s.lp p).line < overlapBase → (s.lp p).pending = none →
      s.effFld (R.lpTmo p) F.lpTmo.US ≠ 0 →
      ∃ t, exec (.lineTimeout p) s = .next t ∧ t = { s with regs := t.regs, tsq := t.tsq, pulses := addSorted s.pulses (8 + p) } ∧
        t.reg (R.lpTmoCnt p) = satInc (s.reg (R.lpTmoCnt p)) ∧ t.fld (R.lpStat p) F.lpStat.TMO = 1 ∧
        t.fld (R.lpStat p) F.lpStat.BUSY = 0 ∧ (t.lp p).run = .idle ∧
        (∀ k, ((t.lp p).phase k).win = .closed) ∧
        (∀ off, off ∉ [R.lpTmoCnt p, R.lpStat p, R.tsqStat] → t.reg off = s.reg off))

/-- R93-R99 and Table 3-2: what each microcode instruction does when its program executes it: it waits its WAIT cycles, acts, and the
next instruction follows; ENDL ends a line whose windows are closed and makes it the pending line; a faulting word stops the
program, latches the first fault and drives the outputs idle.
The model's own choices here: notes/assumptions/27. -/
def Obligations.Microcode : Prop :=
  ∀ (s : State) (p : Fin 8), s.usual →
    let l := s.lp p
    let a := s.nextWord p % 65536
    let at_ := l.cycle + s.nextWord p / 65536 % 4096
    (s.executes p 0 = true →
      ∃ t, exec (.tsqNop p) s = .next t ∧ t = { s with regs := t.regs, tsq := { s.tsq with lps := t.tsq.lps } } ∧
        t.lp p = { l with pc := l.pc + 1, cycle := at_ + 1, burst := none } ∧ (∀ q, q ≠ p.val → t.lp q = s.lp q) ∧
        t.fld (R.lpStat p) F.lpStat.PC = l.pc ∧ (∀ off, off ≠ R.lpStat p → t.reg off = s.reg off)) ∧
    (s.executes p 1 = true →
      ∃ t, exec (.setg p) s = .next t ∧ t = { s with regs := t.regs, tsq := { s.tsq with lps := t.tsq.lps, tg := t.tsq.tg } } ∧
        t.lp p = { l with pc := l.pc + 1, cycle := at_ + 1, burst := none } ∧ (∀ off, off ≠ R.lpStat p → t.reg off = s.reg off) ∧
        (∀ n, n < 24 → t.tsq.tg.getLsbD n =
          (if n / 6 = a / 4096 % 8 ∧ (a / 64).testBit (n % 6) ∧ (s.drivenTg p).testBit n then a.testBit (n % 6) else s.tsq.tg.getLsbD n))) ∧
    (s.executes p 2 = true → l.run = .line → l.line < overlapBase → s.effFld (R.lpPhWin p (a % 8)) F.lpPhWin.DELAY ≠ 0 →
      ∃ t, exec (.phase p) s = .next t ∧ t = { s with regs := t.regs, tsq := t.tsq, pulses := addSorted s.pulses (16 + 6 * p + a % 8) } ∧
        (t.lp p).pc = l.pc + 1 ∧ (t.lp p).cycle = at_ + 1 ∧ ((t.lp p).phase (a % 8)).started = true ∧
        (s.effFld (R.lpPhWin p (a % 8)) F.lpPhWin.WIDTH = 0 → ((t.lp p).phase (a % 8)).win = .closed ∧ ((t.lp p).phase (a % 8)).expEnd = at_) ∧
        (s.effFld (R.lpPhWin p (a % 8)) F.lpPhWin.WIDTH ≠ 0 → ((t.lp p).phase (a % 8)).win = .delayed ∧
          ((t.lp p).phase (a % 8)).opens = at_ + s.effFld (R.lpPhWin p (a % 8)) F.lpPhWin.DELAY) ∧
        (∀ k, k ≠ a % 8 → (t.lp p).phase k = l.phase k) ∧ (∀ off, off ≠ R.lpStat p → t.reg off = s.reg off)) ∧
    (s.executes p 3 = true → s.fld (R.tsqPxCount (a % 4)) F.tsqPxCount.COUNT ≠ 0 →
      (a.testBit 2 = false →
        ∃ t, exec (.pix p) s = .next t ∧ t = { s with regs := t.regs, tsq := { s.tsq with lps := t.tsq.lps, tg := t.tsq.tg } } ∧
          t.lp p = { l with pc := l.pc + 1, taken := []
                            cycle := at_ + s.period (a % 4) * s.fld (R.tsqPxCount (a % 4)) F.tsqPxCount.COUNT
                            burst := some { pattern := a % 4, smp := false, tag := a / 8 % 8, line := 0, sends := false } } ∧
          (∀ off, off ≠ R.lpStat p → t.reg off = s.reg off)) ∧
      (a.testBit 2 = true → a.testBit 6 = false → l.run = .line → s.effFld (R.lpStale p) F.lpStale.US = 0 →
        (∀ n, n < 16 → s.effFld (R.tsqSmp n) F.tsqSmp.SIG_STEP < s.period (a % 4)) →
        ∃ t, exec (.pix p) s = .next t ∧ t = { s with regs := t.regs, tsq := { s.tsq with lps := t.tsq.lps, tg := t.tsq.tg } } ∧
          (t.lp p).burst = some { pattern := a % 4, smp := true, tag := a / 8 % 8, line := l.line, sends := true } ∧
          (t.lp p).cycle = at_ + s.period (a % 4) * s.fld (R.tsqPxCount (a % 4)) F.tsqPxCount.COUNT ∧ (t.lp p).pc = l.pc + 1 ∧
          (∀ n, n < 16 → Table.get (fun _ => 0) (t.lp p).bursts (8 * n + a / 8 % 8) =
            Table.get (fun _ => 0) l.bursts (8 * n + a / 8 % 8) +
              (if (s.fld (R.tsqPxCfg (a % 4)) F.tsqPxCfg.VIN &&& s.fld (R.lpVin p) F.lpVin.VIN).testBit n then 1 else 0)) ∧
          (∀ off, off ≠ R.lpStat p → t.reg off = s.reg off))) ∧
    (s.executes p 4 = true →
      ∃ t, exec (.tsqLoop p) s = .next t ∧ t = { s with regs := t.regs, tsq := { s.tsq with lps := t.tsq.lps } } ∧
        (t.lp p).cycle = at_ + 1 ∧ (∀ off, off ≠ R.lpStat p → t.reg off = s.reg off) ∧
        (a.testBit 15 = false →
          (t.lp p).loop1 = l.loop1 ∧
          (l.loop0 = none → a / 1024 % 32 = 0 → (t.lp p).loop0 = none ∧ (t.lp p).pc = l.pc + 1) ∧
          (l.loop0 = none → a / 1024 % 32 ≠ 0 → (t.lp p).loop0 = some (a / 1024 % 32) ∧ (t.lp p).pc = a % 1024) ∧
          (∀ v, l.loop0 = some (v + 2) → (t.lp p).loop0 = some (v + 1) ∧ (t.lp p).pc = a % 1024) ∧
          (l.loop0 = some 1 → (t.lp p).loop0 = none ∧ (t.lp p).pc = l.pc + 1))) ∧
    (s.executes p 5 = true →
      ∃ t, exec (.waitev p) s = .next t ∧ t = { s with regs := t.regs, tsq := { s.tsq with lps := t.tsq.lps } } ∧
        t.lp p = { l with waiting := some (a % 256, at_), burst := none } ∧ (∀ off, off ≠ R.lpStat p → t.reg off = s.reg off)) ∧
    (∀ ev from_ cycle, l.waiting = some (ev, from_) → from_ ≤ cycle → l.run ≠ .idle →
      ∃ t, exec (.waitevPulse p cycle) s = .next t ∧ t = { s with tsq := { s.tsq with lps := t.tsq.lps } } ∧
        t.lp p = { l with waiting := none, pc := l.pc + 1, cycle := cycle + 1 } ∧ (∀ q, q ≠ p.val → t.lp q = s.lp q)) ∧
    (s.executes p 6 = true → l.run = .line → l.line < overlapBase → l.windowsLeft = false → s.fld (R.lpCfg p) F.lpCfg.EN = 1 →
      l.flushDue = false → (∀ g, g < 4 → s.fld (R.grpCtl g) F.grpCtl.EN = 0) →
      ∃ t, exec (.endl p) s = .next t ∧ t = { s with regs := t.regs, tsq := t.tsq, pulses := addSorted s.pulses (8 + p) } ∧
        (t.lp p).run = .idle ∧ (t.lp p).pending = some l.line ∧ (t.lp p).pendPhases = l.phases ∧ (t.lp p).prevBursts = l.bursts ∧
        t.fld (R.lpStat p) F.lpStat.BUSY = 0 ∧ (∀ off, off ∉ [R.lpStat p, R.tsqStat] → t.reg off = s.reg off)) ∧
    (s.microFault p ≠ 0 → l.run = .line → l.ended = false → l.waiting = none → l.line < overlapBase → l.pending = none →
      (∀ g, g < 4 → s.fld (R.grpCtl g) F.grpCtl.EN = 0) → s.fld R.tsqUfAddr F.tsqUfAddr.VALID = 0 →
      ∃ t, exec (.microcodeFault p) s = .next t ∧ t = { s with regs := t.regs, tsq := t.tsq, pulses := addSorted s.pulses (8 + p) } ∧
        t.fld (R.lpCfg p) F.lpCfg.EN = 0 ∧ t.fld (R.lpStat p) F.lpStat.UFAULT = 1 ∧ t.fld (R.lpStat p) F.lpStat.BUSY = 0 ∧
        (t.lp p).run = .idle ∧ t.fld R.tsqUfAddr F.tsqUfAddr.VALID = 1 ∧ t.fld R.tsqUfAddr F.tsqUfAddr.LP = p ∧
        t.fld R.tsqUfAddr F.tsqUfAddr.CAUSE = s.microFault p ∧ t.fld R.tsqUfAddr F.tsqUfAddr.ADDR = min 1023 l.pc ∧
        (∀ off, off ∉ [R.lpCfg p, R.lpStat p, R.tsqUfAddr, R.lpTmoCnt p, R.tsqStat] → t.reg off = s.reg off))

/-- R91, R106: a delayed window opens and raises the LS outputs that its phase names; a window that closes while it is the last open
one leaves every LS output low.
The model's own choices here: notes/assumptions/27. -/
def Obligations.ExposureWindows : Prop :=
  ∀ (s : State) (p : Fin 8) (k : Fin 6), s.usual → (∀ g, g < 4 → s.fld (R.grpCtl g) F.grpCtl.EN = 0) →
    (((s.lp p).phase k).win = .delayed →
      ∃ t, exec (.phaseWindowOpen p k) s = .next t ∧ t = { s with tsq := t.tsq } ∧
        (t.lp p).phase k = { (s.lp p).phase k with win := .opened } ∧ (∀ j, j ≠ k.val → (t.lp p).phase j = (s.lp p).phase j) ∧
        (∀ q, q ≠ p.val → t.lp q = s.lp q) ∧
        (∀ n, n < 12 → (s.effFld (R.lpPhCfg p k) F.lpPhCfg.LS).testBit n = true → t.tsq.ls.getLsbD n = true)) ∧
    (((s.lp p).phase k).win = .opened → (s.lp p).ended = false →
      ∃ t, exec (.phaseWindowClose p k) s = .next t ∧ t = { s with tsq := t.tsq } ∧
        (t.lp p).phase k = { (s.lp p).phase k with win := .closed } ∧ (∀ q, q ≠ p.val → t.lp q = s.lp q) ∧
        ((∀ q j, q < 8 → j < 6 → (q ≠ p.val ∨ j ≠ k.val) → ((s.lp q).phase j).win ≠ .opened) → t.tsq.ls = 0))

/-! ## Video front end (chapter 4) -/

/-- R119, R124-R131, R150-R152: a strobe of an input on a calibrated, free slice appends one sample with the code of R119 and R131 at
its place; on a bank that is off it is counted as missed; the crosspoint takes a write in full or not at all; the fourth faulty
line in a row sets the input's fault flag.
The model's own choices here: notes/assumptions/19 and 28. -/
def Obligations.VideoConversion : Prop :=
  ∀ (s : State) (n : Fin 16), s.usual →
    (∀ (p : Fin 8) (b : Burst) (vSig vRst vRef : Int) (tRst tSig plane x entry sl : Nat),
      (∀ q, q < 8 → ((s.fld (R.lpVin q) F.lpVin.VIN).testBit n = true ↔ q = p.val)) → (s.lp p).run ≠ .idle →
      (s.lp p).burst = some b → b.smp = true → b.sends = true → (s.lp p).pendRead = false →
      s.effFld (R.tsqSmp n) F.tsqSmp.SIG_STEP < s.period b.pattern → (s.fld (R.tsqPxCfg b.pattern) F.tsqPxCfg.VIN).testBit n = true →
      Table.get (fun _ => 0) (s.lp p).taken n < s.fld (R.tsqPxCount b.pattern) F.tsqPxCount.COUNT →
      s.quadOn n = true → s.fld (R.vafVinCfg n) F.vafVinCfg.MODE = 0 → s.fld (R.vafVinCfg n) F.vafVinCfg.INV = 0 →
      s.fld (R.vafVinCfg n) F.vafVinCfg.CLAMP_MODE = 0 → n.val ∉ s.vaf.dacOn →
      (s.bankState (s.bankOf n) = 4 → (s.bank (s.bankOf n)).order[(s.bank (s.bankOf n)).next]? = some sl →
        Table.get (fun _ => 0) (s.bank (s.bankOf n)).busy sl ≤ tSig → (s.bank (s.bankOf n)).swapped = [] → (s.monitor n).open_ = false →
        s.place n b.tag (Table.get (fun _ => 0) (s.lp p).bursts (8 * n + b.tag) - 1) (Table.get (fun _ => 0) (s.lp p).taken n) = .at plane x entry →
        ∃ t raw, exec (.videoStrobe n vSig vRst vRef tRst tSig none) s = .next t ∧ t = { s with tsq := t.tsq, vaf := t.vaf } ∧
          raw = rawCode (vSig - vRef) (min 120 (s.effFld (R.vafVinLvl n) F.vafVinLvl.GAIN) : Nat)
            (signed 9 (s.effFld (R.vafVinLvl n) F.vafVinLvl.OFFSET)) (signed 8 (s.fld (R.vafVinTrim n) F.vafVinTrim.OTRIM))
            (signed 8 (s.fld (R.vafVinTrim n) F.vafVinTrim.GTRIM)) ∧
          t.vaf.fifo = s.vaf.fifo ++ [{ lp := p, line := b.line, plane := plane, x := x, entry := entry
                                        raw := sliceCode raw (s.sliceCorr (s.bankOf n) sl).1 (s.sliceCorr (s.bankOf n) sl).2 }] ∧
          Table.get (fun _ => 0) (t.lp p).taken n = Table.get (fun _ => 0) (s.lp p).taken n + 1 ∧
          Table.get (fun _ => 0) (t.bank (s.bankOf n)).busy sl = tSig + 256 ∧
          (∀ k, k ≠ s.bankOf n → t.bank k = s.bank k) ∧ (∀ q, q ≠ p.val → t.lp q = s.lp q)) ∧
      (s.bankState (s.bankOf n) = 0 → (s.reg (R.vafPmapLo n) = 0 ∧ s.reg (R.vafPmapHi n) = 0) →
        ∃ t, exec (.videoStrobe n vSig vRst vRef tRst tSig none) s = .next t ∧ t = { s with regs := t.regs, tsq := t.tsq } ∧
          t.reg (R.bankMissCnt (s.bankOf n)) = satInc (s.reg (R.bankMissCnt (s.bankOf n))) ∧
          (∀ off, off ≠ R.bankMissCnt (s.bankOf n) → t.reg off = s.reg off) ∧ t.vaf.fifo = s.vaf.fifo)) ∧
    (∀ (path : Path) (w : Word), s.accessible path R.vafXbar = true →
      ((∀ m, m < 16 → s.inputHeld m = true → w.toNat / 4 ^ m % 4 = s.bankOf m) →
        ∃ t, exec (.xbarWrite path w) s = .next t ∧ s.sameBut t [R.vafXbar] ∧ ∀ m, m < 16 → t.bankOf m = w.toNat / 4 ^ m % 4) ∧
      ((∃ m, m < 16 ∧ s.inputHeld m = true ∧ w.toNat / 4 ^ m % 4 ≠ s.bankOf m) →
        ∃ t, exec (.xbarWrite path w) s = .next t ∧ t = { s with regs := t.regs, eff := t.eff } ∧ (∀ m, m < 16 → t.bankOf m = s.bankOf m) ∧
          t.fld R.sysErrStat F.sysErrStat.IDLE_WR = 1 ∧
          (∀ off, off ∉ [R.vafXbar, R.sysErrStat, R.sysErrAddr] → t.reg off = s.reg off))) ∧
    ((s.monitor n).open_ = true → (s.fld R.vafVfm F.vafVfm.EN).testBit n = true → (s.monitor n).run = 3 →
      (s.monitor n).max - (s.monitor n).min ≤ s.fld R.vafVfm F.vafVfm.SPAN → (s.monitor n).max < 4096 → (s.monitor n).min < 4096 →
      16 * (s.monitor n).rails < 15 * (s.monitor n).count → (∀ g, g < 4 → s.fld (R.grpCtl g) F.grpCtl.EN = 0) →
      ∃ t, exec (.videoFaultDetect n) s = .next t ∧ t = { s with regs := t.regs, vaf := { s.vaf with monitors := t.vaf.monitors } } ∧
        (t.reg R.vafVfStuck).getLsbD n = true ∧ t.reg R.vafVfRail = s.reg R.vafVfRail ∧ t.fld R.vafStat F.vafStat.VF = 1 ∧
        t.fld (R.vafVinMinmax n) F.vafVinMinmax.MIN = (s.monitor n).min ∧ t.fld (R.vafVinMinmax n) F.vafVinMinmax.MAX = (s.monitor n).max ∧
        (t.monitor n).run = 4 ∧ (t.monitor n).open_ = false ∧ (∀ m, m ≠ n.val → t.monitor m = s.monitor m) ∧
        (∀ off, off ∉ [R.vafVfStuck, R.vafStat, R.vafVinMinmax n] → t.reg off = s.reg off))

/-- R133, R134, R136-R138, R141, R143-R145 and Table 4-2: how the banks start and end a self-calibration, leave UNCAL, run or hold the
background calibration, take a finished slice as ready, and hand over to it.
The model's own choices here: notes/assumptions/19, 21 and 28. -/
def Obligations.BankCalibration : Prop :=
  ∀ (s : State) (k : Fin 4), s.usual →
    (∀ (path : Path) (w : Word), s.accessible path R.vafFgcal = true → s.fld R.vafFgcal F.vafFgcal.BUSY = 0 →
      F.vafFgcal.BANKS.get w = 2 ^ k.val → s.bankState k ≠ 0 → s.bankIdle k = true → (∀ n, n < 16 → s.inputHeld n = false) →
      ∃ t, exec (.fgcalStart path w) s = .next t ∧ t = { s with regs := t.regs, eff := t.eff, vaf := t.vaf } ∧
        t.fld R.vafFgcal F.vafFgcal.BUSY = 1 ∧ t.bankState k = 2 ∧ (∀ j : Fin 4, j ≠ k → t.reg (R.bankStat j) = s.reg (R.bankStat j) ∧ t.bank j = s.bank j) ∧
        (∀ n, n < 16 → t.vaf.fgInputs.testBit n = s.quadOn n) ∧
        (∀ off, off ∉ [R.vafFgcal, R.bankStat k] → t.reg off = s.reg off)) ∧
    (∀ (path : Path) (w : Word), s.accessible path R.vafFgcal = true → s.fld R.vafFgcal F.vafFgcal.BUSY = 1 →
      ∃ t, exec (.fgcalStart path w) s = .next t ∧ t.fld R.sysErrStat F.sysErrStat.IDLE_WR = 1 ∧ t.vaf = s.vaf ∧
        s.sameBut t [R.vafFgcal, R.sysErrStat, R.sysErrAddr]) ∧
    (∀ (ofs gain skew : List Int) (trims : List Word) (spreads : List Spread),
      s.fld R.vafFgcal F.vafFgcal.BUSY = 1 → s.fld R.vafFgcal F.vafFgcal.BANKS = 2 ^ k.val → s.bankState k = 2 → s.hqe.calibs = [] →
      (∀ i, i < 9 → -512 ≤ ofs.getD (9 * k + i) 0 ∧ ofs.getD (9 * k + i) 0 < 512 ∧ -32768 ≤ gain.getD (9 * k + i) 0 ∧
        gain.getD (9 * k + i) 0 < 32768 ∧ -128 ≤ skew.getD (9 * k + i) 0 ∧ skew.getD (9 * k + i) 0 < 128) →
      ∃ t, exec (.fgcalComplete ofs gain skew [] trims spreads) s = .next t ∧ t = { s with regs := t.regs, vaf := t.vaf, freeCount := t.freeCount } ∧
        t.fld R.vafFgcal F.vafFgcal.BUSY = 0 ∧ t.fld R.vafFgcal F.vafFgcal.DONE = 1 ∧
        t.bankState k = (if s.fld R.vafCtl F.vafCtl.BG_EN = 1 then 4 else 5) ∧ t.fld (R.bankCal k) F.bankCal.VALID = 1 ∧
        t.fld (R.bankCal k) F.bankCal.BAD = 0 ∧ (t.bank k).order = [0, 1, 2, 3, 4, 5, 6, 7] ∧ t.fld (R.bankStat k) F.bankStat.CAL_SLICE = 8 ∧
        (∀ i, i < 9 → t.fld (R.bankSlOfs k i) F.bankSlOfs.OFS = unsigned 10 (ofs.getD (9 * k + i) 0) ∧
          t.fld (R.bankSlGsk k i) F.bankSlGsk.GAIN = unsigned 16 (gain.getD (9 * k + i) 0) ∧
          t.fld (R.bankSlGsk k i) F.bankSlGsk.SKEW = unsigned 8 (skew.getD (9 * k + i) 0)) ∧
        t.fld R.vafFgcal F.vafFgcal.RESULT = (if t.fld (R.bankStat k) F.bankStat.SPUR_HIGH = 1 then 0x21 else 0) ∧
        (t.fld (R.bankStat k) F.bankStat.SPUR_HIGH = 1 ↔ t.fld (R.bankSpur k) F.bankSpur.EST < t.fld (R.bankSpur k) F.bankSpur.LIM) ∧
        (∀ j : Fin 4, j ≠ k → t.reg (R.bankStat j) = s.reg (R.bankStat j) ∧ t.bank j = s.bank j)) ∧
    (∀ (path : Path) (w : Word), s.accessible path (R.bankCal k) = true → s.bankIdle k = true → s.bankState k = 1 → F.bankCal.VALID.get w = 1 →
      ∃ t, exec (.bankValidWrite path k w) s = .next t ∧ t = { s with regs := t.regs, eff := t.eff, vaf := t.vaf } ∧ t.bankState k = 3 ∧
        (t.bank k).fastStep = 0 ∧ t.fld (R.bankCal k) F.bankCal.VALID = 1 ∧ (∀ off, off ∉ [R.bankCal k, R.bankStat k] → t.reg off = s.reg off)) ∧
    (∀ (path : Path) (w : Word), s.accessible path R.vafCtl = true →
      ∃ t, exec (.bgEnWrite path w) s = .next t ∧ t = { s with regs := t.regs, eff := t.eff, vaf := t.vaf } ∧
        t.fld R.vafCtl F.vafCtl.BG_EN = F.vafCtl.BG_EN.get w ∧
        t.bankState k = (if F.vafCtl.BG_EN.get w = 1 ∧ s.bankState k = 5 then 4
          else if F.vafCtl.BG_EN.get w = 0 ∧ s.bankState k = 4 then 5 else s.bankState k) ∧
        (∀ off, off ≠ R.vafCtl → (∀ j, j < 4 → off ≠ R.bankStat j) → t.reg off = s.reg off)) ∧
    (∀ ofs gain skew : Int, s.bankState k = 4 → s.fld (R.bankStat k) F.bankStat.READY = 0 → s.fld (R.bankStat k) F.bankStat.CAL_SLICE ≤ 8 →
      ∃ t, exec (.bgcalStepComplete k ofs gain skew) s = .next t ∧ t = { s with regs := t.regs, vaf := { s.vaf with banks := t.vaf.banks } } ∧
        t.fld (R.bankStat k) F.bankStat.READY = 1 ∧ t.fld (R.bankStat k) F.bankStat.EXIT_SLICE = ((s.oldestSlice k []).getD 15) % 16 ∧
        (t.bank k).newCorr = (unsigned 10 ofs, unsigned 16 gain, unsigned 8 skew) ∧ (t.bank k).pairs = [] ∧ (t.bank k).passed = false ∧
        (∀ off, off ≠ R.bankStat k → t.reg off = s.reg off) ∧ (∀ j, j ≠ k.val → t.bank j = s.bank j)) ∧
    (∀ spread : Spread, s.handoverOk k = true → s.fld (R.bankStat k) F.bankStat.CAL_SLICE ≤ 8 → (s.bank k).markExit = false → s.bankBusy k = false →
      (s.bank k).newCorr.1 < 1024 → (s.bank k).newCorr.2.1 < 65536 → (s.bank k).newCorr.2.2 < 256 →
      let sl := s.fld (R.bankStat k) F.bankStat.CAL_SLICE
      let ex := s.fld (R.bankStat k) F.bankStat.EXIT_SLICE
      ∃ t, exec (.sliceHandover k spread) s = .next t ∧ t = { s with regs := t.regs, vaf := { s.vaf with banks := t.vaf.banks }, freeCount := t.freeCount } ∧
        (t.bank k).order = (s.bank k).order.map (fun x => if x = ex then sl else x) ∧ t.fld (R.bankStat k) F.bankStat.CAL_SLICE = ex ∧
        t.fld (R.bankStat k) F.bankStat.READY = 0 ∧ t.fld (R.bankStat k) F.bankStat.EXIT_SLICE = 15 ∧
        t.reg (R.bankSwapCnt k) = satInc (s.reg (R.bankSwapCnt k)) ∧ t.fld (R.bankSlOfs k sl) F.bankSlOfs.OFS = (s.bank k).newCorr.1 ∧
        t.fld (R.bankSlGsk k sl) F.bankSlGsk.GAIN = (s.bank k).newCorr.2.1 ∧ t.fld (R.bankSlGsk k sl) F.bankSlGsk.SKEW = (s.bank k).newCorr.2.2 ∧
        (∀ off, off ∉ [R.bankStat k, R.bankSwapCnt k, R.bankSpur k, R.bankSlOfs k sl, R.bankSlGsk k sl] → t.reg off = s.reg off)) ∧
    (s.fld (R.bankStat k) F.bankStat.READY = 1 →
      ((s.bank k).passed = true →
        ∃ t, exec (.handoverWaitExpiry k) s = .next t ∧ t = { s with vaf := { s.vaf with banks := t.vaf.banks } } ∧
          t.bank k = { s.bank k with forced := true } ∧ (∀ j, j ≠ k.val → t.bank j = s.bank j)) ∧
      ((s.bank k).passed = false → (s.bank k).pairs.length < 64 → s.bankPrograms k ≠ [] →
        ∃ t, exec (.handoverWaitExpiry k) s = .next t ∧ t = { s with regs := t.regs, vaf := { s.vaf with banks := t.vaf.banks } } ∧
          t.bank k = { s.bank k with passed := true, forced := true } ∧ t.reg (R.bankUnverCnt k) = satInc (s.reg (R.bankUnverCnt k)) ∧
          (∀ off, off ≠ R.bankUnverCnt k → t.reg off = s.reg off)))


/-! ## Shading, reference strip and calibration record (chapter 5) -/

/-- R155, R156, R174, R180 and Table 5-3: an accepted enable claims the group's partition, turns the group to RUN and starts it
afresh; a partition that is held elsewhere, or a failed check, leaves EN at 0 with the cause; a disable turns the group OFF and
releases its partition; a full recalibration is requested.
The model's own choices here: notes/assumptions/6. -/
def Obligations.GroupControl : Prop :=
  ∀ (s : State) (path : Path) (g : Fin 4) (w : Word), s.usual → s.accessible path (R.grpCtl g) = true → w.getLsbD 14 = false →
    let abp := F.grpCtl.ABP.get w
    let s1 := (s.setReg (R.grpCtl g) (Row.grpCtl.written (s.reg (R.grpCtl g)) (F.grpCtl.EN.put w 1))).setOwner (.partition abp) 0x12
    (s.fld (R.grpCtl g) F.grpCtl.EN = 0 → s.owner (.partition abp) = 0 → s.partInvalid abp = false → s.partClash abp = none →
      (s1.grpCause g false = 0 →
        ∃ t, exec (.groupEnable path g w) s = .next t ∧ t = { s with regs := t.regs, eff := t.eff, shd := t.shd } ∧
          t.fld (R.grpCtl g) F.grpCtl.EN = 1 ∧ t.fld (R.grpCtl g) F.grpCtl.LP = F.grpCtl.LP.get w ∧ t.grpState g = 1 ∧
          t.fld (R.grpQ2 g) F.grpQ2.FULL_CNT = 0 ∧ t.owner (.partition abp) = 0x12 ∧ t.group g = {} ∧
          (∀ h, h ≠ g.val → t.group h = s.group h) ∧ (∀ n, n < 48 → s.planeIn n g = true → t.planeLines n = []) ∧
          (∀ off, off ∉ [R.grpCtl g, R.grpStat g, R.grpQ2 g, R.sysAbpCfg abp] → t.reg off = s.reg off)) ∧
      (s1.grpCause g false ≠ 0 →
        ∃ t, exec (.groupEnable path g w) s = .next t ∧ t = { s with regs := t.regs, eff := t.eff } ∧
          t.fld (R.grpCtl g) F.grpCtl.EN = 0 ∧ t.fld (R.grpStat g) F.grpStat.CFG_ERR = 1 ∧
          t.fld (R.grpStat g) F.grpStat.CFG_CAUSE = s1.grpCause g false ∧ t.owner (.partition abp) = 0 ∧
          (∀ off, off ∉ [R.grpCtl g, R.grpStat g, R.sysAbpCfg abp] → t.reg off = s.reg off))) ∧
    (s.fld (R.grpCtl g) F.grpCtl.EN = 0 → s.owner (.partition abp) ≠ 0 → s.owner (.partition abp) ≠ 0x12 →
      ∃ t, exec (.groupEnable path g w) s = .next t ∧ t = { s with regs := t.regs, eff := t.eff, asyncQ := t.asyncQ } ∧
        t.fld (R.grpCtl g) F.grpCtl.EN = 0 ∧ t.fld R.sysErrStat F.sysErrStat.CLAIM = 1 ∧
        t.reg R.sysClaimErrCnt = satInc (s.reg R.sysClaimErrCnt) ∧
        (∀ off, off ∉ [R.grpCtl g, R.sysErrStat, R.sysErrAddr, R.sysClaimErrCnt, R.sysClaimErr, R.hqeStat] → t.reg off = s.reg off)) ∧
    (w &&& 0x1FE = s.reg (R.grpCtl g) &&& 0x1FE → s.fld (R.grpCtl g) F.grpCtl.EN = 1 → s.grpState g ≠ 5 →
      s.owner (.partition (s.fld (R.grpCtl g) F.grpCtl.ABP)) = 0x12 →
      ∃ t, exec (.groupDisable path g w) s = .next t ∧ t = { s with regs := t.regs, eff := t.eff, shd := t.shd } ∧
        t.fld (R.grpCtl g) F.grpCtl.EN = 0 ∧ t.grpState g = 0 ∧ t.owner (.partition (s.fld (R.grpCtl g) F.grpCtl.ABP)) = 0 ∧
        t.group g = { s.group g with capture := none, stripDue := none } ∧ (∀ h, h ≠ g.val → t.group h = s.group h) ∧
        t.shd.planes = s.shd.planes ∧
        (∀ off, off ∉ [R.grpCtl g, R.grpStat g, R.sysAbpCfg (s.fld (R.grpCtl g) F.grpCtl.ABP)] → t.reg off = s.reg off)) ∧
    (w &&& 0x1FE = s.reg (R.grpCtl g) &&& 0x1FE → F.grpCtl.EN.get w = s.fld (R.grpCtl g) F.grpCtl.EN →
      ∃ t, exec (.fullRecalRequest path g w) s = .next t ∧ t = { s with regs := t.regs, eff := t.eff, shd := t.shd } ∧
        t.fld (R.grpStat g) F.grpStat.FULL_PEND = 1 ∧ t.fld (R.grpStat g) F.grpStat.DRIFT_HOLD = 0 ∧ t.grpState g = s.grpState g ∧
        t.group g = { s.group g with byRequest := true } ∧ (∀ h, h ≠ g.val → t.group h = s.group h) ∧
        (∀ off, off ∉ [R.grpCtl g, R.grpStat g] → t.reg off = s.reg off))

/-- R155, R156, R166, R187: a plane is enabled while its group is off, but not against the checks of its enabled group; the source
of the temperature goes bad after its time; a word written through the shading-store window reaches the store, unless an enabled
plane's valid set uses it or the shading domain is off.
The model's own choices here: notes/assumptions/29. -/
def Obligations.PlanesTemperatureAndStore : Prop :=
  ∀ (s : State), s.usual →
    (∀ (path : Path) (n : Fin 48) (w : Word), s.accessible path (R.plCfg n) = true →
      ((∀ g, g < 4 → s.fld (R.grpCtl g) F.grpCtl.EN = 0) →
        ∃ t, exec (.planeEnableWrite path n w) s = .next t ∧ s.sameBut t [R.plCfg n] ∧ t.fld (R.plCfg n) F.plCfg.EN = 1 ∧
          t.fld (R.plCfg n) F.plCfg.GRP = F.plCfg.GRP.get w ∧ t.fld (R.plCfg n) F.plCfg.WIDTH = F.plCfg.WIDTH.get w ∧
          t.fld (R.plCfg n) F.plCfg.SHADE = F.plCfg.SHADE.get w) ∧
      (let g := s.fld (R.plCfg n) F.plCfg.GRP
       let s1 := s.setReg (R.plCfg n) (Row.plCfg.written (s.reg (R.plCfg n)) (F.plCfg.EN.put w 1))
       F.plCfg.GRP.get w = g → s.fld (R.grpCtl g) F.grpCtl.EN = 1 → s.grpState g = 1 → s.lpIdle (s.fld (R.grpCtl g) F.grpCtl.LP) = true →
       F.plCfg.WIDTH.get w = 0 → s1.grpNeed g ≤ s.partBytes (s.fld (R.grpCtl g) F.grpCtl.ABP) → s.selOn (R.grpStripSel g) = true →
        ∃ t, exec (.planeEnableWrite path n w) s = .next t ∧ s.sameBut t [R.grpStat g] ∧
          t.fld (R.grpStat g) F.grpStat.CFG_ERR = 1 ∧ t.fld (R.grpStat g) F.grpStat.CFG_CAUSE = 3)) ∧
    (∀ g : Fin 4,
      (s.fld (R.grpTsrc g) F.grpTsrc.HOST = 0 →
        ∃ t, exec (.tempSourceTimeout g) s = .next t ∧ t = { s with regs := t.regs, shd := t.shd } ∧
          t.fld (R.grpStat g) F.grpStat.TEMP_BAD = 1 ∧ (t.group g).tempLate = true ∧ (t.grpTemp g).2 = true ∧
          (∀ h, h ≠ g.val → t.group h = s.group h) ∧ (∀ off, off ≠ R.grpStat g → t.reg off = s.reg off)) ∧
      (s.fld (R.grpTsrc g) F.grpTsrc.HOST = 1 → exec (.tempSourceTimeout g) s = .next s)) ∧
    (∀ (off : BitVec 17) (w : Word), s.accessible .bar0 (0xE0000 + off.toNat / 4 * 4) = true →
      let a := s.fld R.shdCwin F.shdCwin.PAGE * 0x20000 + off.toNat / 4 * 4
      (s.pdOn 130 = false → exec (.shadingWindowWrite off w) s = .next s) ∧
      (s.pdOn 130 = true → s.coefInUse a = true →
        ∃ t, exec (.shadingWindowWrite off w) s = .next t ∧ s.sameBut t [R.sysErrStat, R.sysErrAddr] ∧
          t.fld R.sysErrStat F.sysErrStat.IDLE_WR = 1) ∧
      (s.pdOn 130 = true → s.coefInUse a = false → s.sys.bitErrs = [] → s.sys.poison = [] →
        ∃ t, exec (.shadingWindowWrite off w) s = .next t ∧ t = { s with mem := t.mem } ∧ t.word (0x1580000 + a) = w ∧
          ∀ b, b < 0x1580000 + a ∨ 0x1580000 + a + 4 ≤ b → t.byte b = s.byte b))

/-- R158-R160: a sample of an enabled plane with a valid set A takes v = (max(0, 16 * raw - DARK) * GAIN + 4096) >> 13 and the trimmed
value of R160 into its line; a sample that R158 names is dropped and counted. Nothing in memory changes. -/
def Obligations.SamplesAreShaded : Prop :=
  ∀ (s : State) (sm : Sample) (rest : List Sample) (last poisoned : Bool), s.usual → s.vaf.fifo = sm :: rest →
    let n := sm.plane
    let g := s.fld (R.plCfg n) F.plCfg.GRP
    (∀ gl : GroupLine, s.fld (R.plCfg n) F.plCfg.EN = 1 → s.fld (R.grpCtl g) F.grpCtl.EN = 1 → s.fld (R.grpCtl g) F.grpCtl.LP = sm.lp →
      sm.x < s.fld (R.plCfg n) F.plCfg.WIDTH → (s.group g).line sm.line = some gl → gl.fallback = none → gl.strip = none →
      s.grpState g ≠ 5 → s.effFld (R.plCfg n) F.plCfg.SHADE = 1 → s.fld (R.grpSetv g) F.grpSetv.VA = 1 →
      s.sys.bitErrs = [] → s.sys.poison = [] →
      let c := s.word (s.coefAddr 0 n sm.x)
      let v := ((16 * sm.raw - c.toNat / 65536) * (c.toNat % 65536) + 4096) / 8192
      let rd := s.effFld (R.shdTrim0 sm.entry) F.shdTrim0.REF_DARK
      let md := s.effFld (R.shdTrim1 sm.entry) F.shdTrim1.MEAS_DARK
      let tg := s.effFld (R.shdTrim1 sm.entry) F.shdTrim1.TGAIN
      ∃ t, exec (.shadeSample false false) s = .next t ∧
        t = { s with regs := t.regs, vaf := { s.vaf with fifo := rest }, shd := t.shd } ∧
        (∃ e ∈ t.planeLines n, e.y = sm.line) ∧
        (∀ e ∈ t.planeLines n, e.y = sm.line →
          Table.get (fun _ => 0) e.raw sm.x = sm.raw ∧ Table.get (fun _ => 0) e.v sm.x = min 65535 v ∧
          (tg = 0 → Table.get (fun _ => 0) e.t sm.x = min 65535 v) ∧
          (tg ≠ 0 → Table.get (fun _ => 0) e.t sm.x = (max 0 (min 65535 ((rd : Int) + (((v : Int) - md) * tg + 8192) / 16384))).toNat)) ∧
        (∀ m, m ≠ n → t.planeLines m = s.planeLines m) ∧ (∀ h, h ≠ g → t.group h = s.group h) ∧
        (∀ off, off ≠ R.grpTemp g → t.reg off = s.reg off)) ∧
    (s.fld (R.plCfg n) F.plCfg.EN = 0 ∨ s.fld (R.grpCtl g) F.grpCtl.EN = 0 ∨ s.fld (R.grpCtl g) F.grpCtl.LP ≠ sm.lp ∨
        s.fld (R.plCfg n) F.plCfg.WIDTH ≤ sm.x →
      ∃ t, exec (.shadeSample last poisoned) s = .next t ∧ t = { s with regs := t.regs, vaf := { s.vaf with fifo := rest } } ∧
        t.reg R.shdDropCnt = satInc (s.reg R.shdDropCnt) ∧ (∀ off, off ≠ R.shdDropCnt → t.reg off = s.reg off))

/-- R168, R177-R179 and Table 5-3, for a group without a seam and no CALIBRATE waiting: the strip event starts a trim or a full capture,
or is ignored outside RUN; COMPUTE rejects the capture, keeping both sets, or moves to COPY with the target's validity cleared;
COPY writes the coefficient words and makes the set valid.
The model's own choices here: notes/assumptions/28. -/
def Obligations.StripCaptures : Prop :=
  ∀ (s : State) (g : Fin 4), s.usual → s.hqe.calibs = [] →
    (s.selOn (R.grpStripSel g) = true → s.fld (R.seamCfg g) F.seamCfg.EN = 0 →
      (s.grpState g ≠ 1 →
        ∃ t, exec (.stripEvent g) s = .next t ∧ s.sameBut t [R.grpStat g] ∧ t.fld (R.grpStat g) F.grpStat.STRIP_IGN = 1 ∧
          t.grpState g = s.grpState g) ∧
      (s.grpState g = 1 → s.fld (R.grpCtl g) F.grpCtl.STRIP_EN = 1 →
        ∃ t, exec (.stripEvent g) s = .next t ∧ t = { s with regs := t.regs, shd := t.shd } ∧
          t.grpState g = (if s.fld (R.grpStat g) F.grpStat.FULL_PEND = 1 then 3 else 2) ∧
          (t.group g).stripDue = some (s.fld (R.grpStat g) F.grpStat.FULL_PEND == 1) ∧ (t.group g).boundary = true ∧
          (∀ h, h ≠ g.val → t.group h = s.group h) ∧ (∀ off, off ≠ R.grpStat g → t.reg off = s.reg off)) ∧
      (s.grpState g = 1 → s.fld (R.grpCtl g) F.grpCtl.STRIP_EN = 0 →
        ∃ t, exec (.stripEvent g) s = .next t ∧ t = { s with shd := t.shd } ∧ t.group g = { s.group g with boundary := true } ∧
          (∀ h, h ≠ g.val → t.group h = s.group h))) ∧
    (∀ c : Capture, (s.group g).capture = some c →
      (s.grpState g = 4 → s.fullReason g c = 0 →
        ∃ t, exec (.computeComplete g) s = .next t ∧ t = { s with regs := t.regs, shd := t.shd } ∧ t.grpState g = 5 ∧
          t.fld (R.grpSetv g) (if (s.group g).target = 0 then F.grpSetv.VA else F.grpSetv.VB) = 0 ∧
          (t.reg R.shdStat).getLsbD g = true ∧ (t.group g).capture = some c ∧
          t.fld (R.grpStat g) F.grpStat.RESULT =
            (if (s.groupPlanes g).any (fun n => decide (s.fld R.shdChk3 F.shdChk3.DEFECT_MAX < s.planeDefects g c n)) then 0x21 else 0) ∧
          (∀ off, off ∉ [R.grpStat g, R.grpQ2 g, R.grpSetv g, R.shdStat] → t.reg off = s.reg off)) ∧
      (s.grpState g = 4 → s.fullReason g c ≠ 0 →
        ∃ t, exec (.computeComplete g) s = .next t ∧ t = { s with regs := t.regs, eff := t.eff, shd := t.shd } ∧ t.grpState g = 1 ∧
          t.fld (R.grpStat g) F.grpStat.FULL_REJ = 1 ∧ t.fld (R.grpStat g) F.grpStat.RESULT = 0x20 ∧ (t.group g).capture = none ∧
          (t.group g).fullStatus = some 0x20 ∧ (∀ h, h < 4 → t.reg (R.grpSetv h) = s.reg (R.grpSetv h) ∧ t.reg (R.grpSett h) = s.reg (R.grpSett h)) ∧
          (2 ≤ (s.group g).rejects →
            t.fld (R.grpStat g) F.grpStat.DRIFT_HOLD = 1 ∧ t.fld (R.grpStat g) F.grpStat.FULL_PEND = 0 ∧ (t.group g).rejects = 0)) ∧
      (∀ n, s.grpState g = 5 → s.groupPlanes g = [n] → c.entry = [] → s.fld R.shdRecCtl F.shdRecCtl.AUTO = 0 →
        s.fld (R.grpCtl g) F.grpCtl.ALIGN_AUTO = 0 → (s.group g).offAfterCopy = false → s.sys.bitErrs = [] → s.sys.poison = [] →
        let set := (s.group g).target
        let nd := s.darkN g
        let sum (x : Nat) := Table.get (fun _ => 0) c.dark (pixKey n x)
        let white (x : Nat) := Table.get (fun _ => 0) c.rawWhite (pixKey n x)
        ∃ t, exec (.copyComplete g) s = .next t ∧ t = { s with regs := t.regs, mem := t.mem, shd := t.shd } ∧ t.grpState g = 1 ∧
          t.fld (R.grpSetv g) (if set = 0 then F.grpSetv.VA else F.grpSetv.VB) = 1 ∧ t.fld (R.grpSetv g) F.grpSetv.TLAST_V = 1 ∧
          t.fld (R.grpStat g) F.grpStat.FULL_PEND = 0 ∧ t.fld (R.grpStat g) F.grpStat.DRIFT_HOLD = 0 ∧
          (t.reg R.shdStat).getLsbD g = false ∧ (t.group g).capture = none ∧ (t.group g).rejects = 0 ∧
          t.fld (R.grpQ2 g) F.grpQ2.FULL_CNT = (s.fld (R.grpQ2 g) F.grpQ2.FULL_CNT + 1) % 65536 ∧
          (∀ x, x < s.fld (R.plCfg n) F.plCfg.WIDTH → t.word (s.coefAddr set n x) =
            BitVec.ofNat 32 (min (fullDark (sum x) nd) 65535 * 65536 + (fullGain (s.fld (R.plWhite n) F.plWhite.WHITE)
              (fullContrast (sum x) nd (white x) (s.effFld (R.grpZone g) F.grpZone.WHT_N))).1)) ∧
          (∀ a, a < s.coefAddr set n 0 ∨ s.coefAddr set n (s.fld (R.plCfg n) F.plCfg.WIDTH) ≤ a → t.byte a = s.byte a) ∧
          (∀ off, off ∉ [R.grpSett g, R.grpSetv g, R.grpQ2 g, R.grpStat g, R.shdStat, R.plAlign n] → t.reg off = s.reg off)))

/-- R189, R190: a save that is asked for starts, or waits behind the running one; it takes its snapshot into the inactive slot, which it
erases; its flash work done, the record stands in the slot with COMMIT, or the save ends with BUS_ERROR.
The model's own choices here: notes/assumptions/54 and 55. -/
def Obligations.CalibrationRecordIsSaved : Prop :=
  ∀ (s : State), s.usual →
    (∀ (path : Path) (w : Word), s.accessible path R.shdRecCtl = true →
      ∃ t, exec (.calSaveRequest path w) s = .next t ∧ s.sameBut t [R.shdRecCtl, R.shdRecStat] ∧
        t.fld R.shdRecCtl F.shdRecCtl.AUTO = F.shdRecCtl.AUTO.get w ∧ t.fld R.shdRecStat F.shdRecStat.BUSY = 1 ∧
        t.fld R.shdRecStat F.shdRecStat.PEND = (if s.fld R.shdRecStat F.shdRecStat.BUSY = 1 then 1 else s.fld R.shdRecStat F.shdRecStat.PEND)) ∧
    (s.fld R.shdRecStat F.shdRecStat.BUSY = 1 → s.shd.saveSlot = none → s.fld R.hltFlStat F.hltFlStat.BUSY = 0 →
      (∀ g, g < 4 → s.grpState g ≠ 4 ∧ s.grpState g ≠ 5) → 4096 + s.calBody.length ≤ 0x400000 → s.calRecord 1 = none →
      let k := if (s.calRecord 0).isSome then 1 else 0
      ∃ t, exec .calSaveStart s = .next t ∧ t = { s with regs := t.regs, hlt := { s.hlt with flash := t.hlt.flash }, shd := t.shd } ∧
        t.shd = { s.shd with saveSlot := some k, saveBody := t.shd.saveBody } ∧ t.shd.saveBody.drop 60 = s.calBody ∧
        t.shd.saveBody.take 4 = [0x47, 0x43, 0x41, 0x4C] ∧ t.fld R.hltStat F.hltStat.SAVE = 1 ∧
        (∀ off, off ≠ R.hltStat → t.reg off = s.reg off) ∧
        (∀ a, calSlot k ≤ a → a < calSlot k + 4096 + s.calBody.length → t.flashByte a = 0xFF) ∧
        (∀ a, a < calSlot k ∨ calSlot k + 0x400000 ≤ a → t.flashByte a = s.flashByte a)) ∧
    (∀ k, s.shd.saveSlot = some k → s.hqe.calibs = [] →
      (k < 2 → 60 ≤ s.shd.saveBody.length → s.shd.saveBody.length ≤ 0x3FF000 →
        (∀ a, calSlot k ≤ a → a < calSlot k + 0x400000 → s.flashByte a = 0xFF) →
        ∃ t, exec (.calSaveComplete true) s = .next t ∧ t = { s with regs := t.regs, hlt := { s.hlt with flash := t.hlt.flash }, shd := t.shd } ∧
          t.shd = { s.shd with saveSlot := none, saveBody := [] } ∧ t.flashBytes (calSlot k) 60 = s.shd.saveBody.take 60 ∧
          t.flashBytes (calSlot k + 0x3C) 4 = bytesLE 4 0xA55A ∧
          t.flashBytes (calSlot k + 4096) (s.shd.saveBody.length - 60) = s.shd.saveBody.drop 60 ∧
          (∀ a, a < calSlot k ∨ calSlot k + 0x400000 ≤ a → t.flashByte a = s.flashByte a) ∧
          t.fld R.shdRecStat F.shdRecStat.RESULT = 0 ∧ t.fld R.shdRecStat F.shdRecStat.DONE = 1 ∧
          t.fld R.shdRecStat F.shdRecStat.BUSY = s.fld R.shdRecStat F.shdRecStat.PEND ∧ t.fld R.shdRecStat F.shdRecStat.PEND = 0 ∧
          t.fld R.hltStat F.hltStat.SAVE = 0 ∧ (∀ off, off ∉ [R.shdRecStat, R.shdRecSeq, R.hltStat] → t.reg off = s.reg off)) ∧
      (∃ t, exec (.calSaveComplete false) s = .next t ∧ t = { s with regs := t.regs, shd := t.shd } ∧
        t.shd = { s.shd with saveSlot := none, saveBody := [] } ∧ t.fld R.shdRecStat F.shdRecStat.RESULT = 0x10 ∧
        t.fld R.shdRecStat F.shdRecStat.DONE = 1 ∧ (∀ off, off ∉ [R.shdRecStat, R.hltStat] → t.reg off = s.reg off)))

/-! ## Document geometry (chapter 6) -/

/-- R50, R195, R210, R214: an accepted enable of a unit or a track claims its partition for GEO; a failed check leaves EN at 0 with its
cause and the partition free; a disable releases it, and completes the record of an open window as ABORTED.
The model's own choices here: notes/assumptions/6. -/
def Obligations.UnitAndTrackControl : Prop :=
  ∀ (s : State) (path : Path) (n : Fin 4) (w : Word), s.usual →
    (s.accessible path (R.uCfg n) = true →
      (let abp := F.uCfg.ABP.get w
       let s1 := (s.setReg (R.uCfg n) (Row.uCfg.written (s.reg (R.uCfg n)) (F.uCfg.EN.put w 1))).setOwner (.partition abp) 0x13
       s.fld (R.uCfg n) F.uCfg.EN = 0 → s.fld (R.uStat n) F.uStat.WIN = 0 → s.owner (.partition abp) = 0 → s.partInvalid abp = false →
       s.partClash abp = none →
        (s1.unitCause n false = 0 →
          ∃ t, exec (.unitEnable path n w) s = .next t ∧ t = { s with regs := t.regs, eff := t.eff } ∧
            t.fld (R.uCfg n) F.uCfg.EN = 1 ∧ t.fld (R.uCfg n) F.uCfg.PLANE = F.uCfg.PLANE.get w ∧
            t.owner (.partition abp) = 0x13 ∧ (∀ off, off ∉ [R.uCfg n, R.sysAbpCfg abp] → t.reg off = s.reg off)) ∧
        (s1.unitCause n false ≠ 0 →
          ∃ t, exec (.unitEnable path n w) s = .next t ∧ t = { s with regs := t.regs, eff := t.eff } ∧
            t.fld (R.uCfg n) F.uCfg.EN = 0 ∧ t.fld (R.uStat n) F.uStat.CFG_ERR = 1 ∧
            t.fld (R.uStat n) F.uStat.CFG_CAUSE = s1.unitCause n false ∧ t.owner (.partition abp) = 0 ∧
            (∀ off, off ∉ [R.uCfg n, R.uStat n, R.sysAbpCfg abp] → t.reg off = s.reg off))) ∧
      (let abp := s.fld (R.uCfg n) F.uCfg.ABP
       w &&& 0x7FFE = s.reg (R.uCfg n) &&& 0x7FFE → s.fld (R.uCfg n) F.uCfg.EN = 1 → s.owner (.partition abp) = 0x13 →
        (s.openWindow n = none →
          ∃ t, exec (.unitDisable path n w) s = .next t ∧ t = { s with regs := t.regs, eff := t.eff } ∧
            t.fld (R.uCfg n) F.uCfg.EN = 0 ∧ t.owner (.partition abp) = 0 ∧
            (∀ off, off ∉ [R.uCfg n, R.sysAbpCfg abp] → t.reg off = s.reg off)) ∧
        (∀ key win, s.openWindow n = some (key, win) →
          let k := s.fld (R.uCfg n) F.uCfg.TRK * 2 + key % 2
          (s.record k).busy = true → (s.record k).complete = false → (∀ j ∈ s.hqe.jobs, j.trk ≠ k / 2) →
          ∃ t, exec (.unitDisable path n w) s = .next t ∧
            t = { s with regs := t.regs, eff := t.eff, geo := t.geo, pulses := addSorted s.pulses 163 } ∧
            t.fld (R.uCfg n) F.uCfg.EN = 0 ∧ t.owner (.partition abp) = 0 ∧ (t.record k).complete = true ∧ (t.record k).status = 0x05 ∧
            t.window key = none ∧ t.fld (R.trkStat (k / 2)) F.trkStat.LAST = 0x05 ∧ t.fld (R.uStat n) F.uStat.WIN = 0 ∧
            t.reg (R.trkSeq (k / 2)) = s.reg (R.trkSeq (k / 2)) + 1))) ∧
    (s.accessible path (R.trkCfg n) = true →
      (let abp := F.trkCfg.ABP.get w
       let s1 := (s.setReg (R.trkCfg n) (Row.trkCfg.written (s.reg (R.trkCfg n)) (F.trkCfg.EN.put w 1))).setOwner (.partition abp) 0x13
       s.fld (R.trkCfg n) F.trkCfg.EN = 0 → s.trkBusy n = false → s.owner (.partition abp) = 0 → s.partInvalid abp = false →
       s.partClash abp = none →
        (s1.trkCause n false = 0 →
          ∃ t, exec (.trackEnable path n w) s = .next t ∧ t = { s with regs := t.regs, eff := t.eff } ∧
            t.fld (R.trkCfg n) F.trkCfg.EN = 1 ∧ t.fld (R.trkCfg n) F.trkCfg.UNITS = F.trkCfg.UNITS.get w ∧ t.reg (R.trkSeq n) = 0 ∧
            t.owner (.partition abp) = 0x13 ∧ (∀ off, off ∉ [R.trkCfg n, R.trkSeq n, R.sysAbpCfg abp] → t.reg off = s.reg off)) ∧
        (s1.trkCause n false ≠ 0 →
          ∃ t, exec (.trackEnable path n w) s = .next t ∧ t = { s with regs := t.regs, eff := t.eff } ∧
            t.fld (R.trkCfg n) F.trkCfg.EN = 0 ∧ t.fld (R.trkStat n) F.trkStat.CFG_ERR = 1 ∧
            t.fld (R.trkStat n) F.trkStat.CFG_CAUSE = s1.trkCause n false ∧ t.owner (.partition abp) = 0 ∧
            (∀ off, off ∉ [R.trkCfg n, R.trkStat n, R.sysAbpCfg abp] → t.reg off = s.reg off))) ∧
      (let abp := s.fld (R.trkCfg n) F.trkCfg.ABP
       w &&& 0x07FF01FE = s.reg (R.trkCfg n) &&& 0x07FF01FE → s.fld (R.trkCfg n) F.trkCfg.EN = 1 → s.owner (.partition abp) = 0x13 →
       (s.record (n * 2)).busy = false → (s.record (n * 2 + 1)).busy = false →
        ∃ t, exec (.trackDisable path n w) s = .next t ∧ t = { s with regs := t.regs, eff := t.eff } ∧
          t.fld (R.trkCfg n) F.trkCfg.EN = 0 ∧ t.owner (.partition abp) = 0 ∧
          (∀ off, off ∉ [R.trkCfg n, R.sysAbpCfg abp] → t.reg off = s.reg off)))

/-- R192-R195, R210: an open pulse takes a free record slot and opens the unit's window, with its Next document values; a second one and
one without a slot are ignored with their flags; a close pulse or write ends a window whose edge was found, and its fits are due.
The model's own choices here: notes/assumptions/30. -/
def Obligations.WindowsOpenAndClose : Prop :=
  ∀ (s : State) (u : Fin 4), s.usual →
    let t := s.fld (R.uCfg u) F.uCfg.TRK
    (s.selOn (R.uOpenSel u) = false → exec (.windowOpen u) s = .next s) ∧
    (s.selOn (R.uOpenSel u) = true → s.fld (R.uCfg u) F.uCfg.EN = 1 →
      (s.openWindow u = none → (s.record (t * 2)).busy = false → (s.record (t * 2 + 1)).busy = false →
        (s.record (t * 2)).seq ≤ (s.record (t * 2 + 1)).seq →
        ∃ r, exec (.windowOpen u) s = .next r ∧ r = { s with regs := r.regs, eff := r.eff, geo := r.geo } ∧
          r.record (t * 2) = { busy := true, seq := s.geo.opened + 1, units := [u.val], open_ := [u.val] } ∧
          r.record (t * 2 + 1) = s.record (t * 2 + 1) ∧
          r.window (u * 2) = some { skip := s.fld (R.uWin u) F.uWin.Y_OFF } ∧ (∀ key, key ≠ u * 2 → r.window key = s.window key) ∧
          (∀ off, off ∈ [R.uThr u, R.uRun u, R.uMinpix u, R.uFit u, R.uAspect u, R.uWin u, R.trkJob t] → r.effReg off = r.reg off) ∧
          r.fld (R.uStat u) F.uStat.WIN = 1 ∧ r.fld (R.uStat u) F.uStat.LEAD = 0 ∧ r.fld (R.uStat u) F.uStat.TRAIL = 0 ∧
          r.fld (R.trkStat t) F.trkStat.SLOT = 1 ∧
          (∀ off, off ∉ [R.uStat u, R.geoStat, R.trkStat t, R.trkHold t] → r.reg off = s.reg off)) ∧
      ((s.openWindow u).isSome = true →
        ∃ r, exec (.windowOpen u) s = .next r ∧ s.sameBut r [R.uStat u] ∧ r.fld (R.uStat u) F.uStat.OPEN_IGN = 1) ∧
      (s.openWindow u = none → (∀ i, i < 2 → (s.record (t * 2 + i)).busy = true ∧ (s.record (t * 2 + i)).complete = true) →
        ∃ r, exec (.windowOpen u) s = .next r ∧ s.sameBut r [R.uStat u, R.trkStat t] ∧ r.fld (R.uStat u) F.uStat.OPEN_IGN = 1 ∧
          r.fld (R.trkStat t) F.trkStat.SLOT_FULL = 1)) ∧
    (∀ key win, s.openWindow u = some (key, win) → win.lead.isSome = true → s.outOf (s.fld (R.uCfg u) F.uCfg.PLANE) = [] →
      (s.selOn (R.uCloseSel u) = true →
        ∃ r, exec (.windowCloseEvent u) s = .next r ∧ r = { s with regs := r.regs, geo := r.geo } ∧
          r.window key = some { win with closed := true } ∧ (∀ k, k ≠ key → r.window k = s.window k) ∧ (∀ k, r.record k = s.record k) ∧
          r.fld (R.uStat u) F.uStat.WIN = 0 ∧ (∀ off, off ∉ [R.uStat u, R.geoStat] → r.reg off = s.reg off)) ∧
      (∀ path w, s.accessible path (R.trkClose t) = true → w.getLsbD 0 = true → s.fld (R.trkCfg t) F.trkCfg.UNITS = 2 ^ u.val → ∀ tf : Fin 4, tf.val = t →
        ∃ r, exec (.trackCloseWrite path tf w) s = .next r ∧ r = { s with regs := r.regs, geo := r.geo } ∧
          r.window key = some { win with closed := true } ∧ (∀ k, k ≠ key → r.window k = s.window k) ∧
          (r.record (t * 2 + key % 2)).status =
            (if F.trkClose.STATUS.get w = 0 then (s.record (t * 2 + key % 2)).status else F.trkClose.STATUS.get w) ∧
          r.fld (R.uStat u) F.uStat.WIN = 0 ∧ (∀ off, off ∉ [R.uStat u, R.geoStat] → r.reg off = s.reg off)))

/-- R196-R201: what a delivered line does to a window: the first document line raises EV164 + u and starts the early edge, LEAD_N of them
confirm the leading edge, an early edge that breaks off counts as false, and TRAIL_N other lines end the document and its window.
The model's own choices here: notes/assumptions/30. -/
def Obligations.WindowLines : Prop :=
  ∀ (s : State) (u : Fin 4) (key : Nat) (w : Window) (o : Nat) (line : OutLine), s.usual → s.openWindow u = some (key, w) →
    w.origin = some o → (s.outOf (s.fld (R.uCfg u) F.uCfg.PLANE)).find? (fun l => l.y == o + w.y) = some line →
    s.heldLine (s.fld (R.uCfg u) F.uCfg.TRK * 2 + key % 2) u w.y = false → w.y < 2 ^ 24 → w.trail = none →
    s.effFld (R.uWin u) F.uWin.MAX_LINES ≠ w.y + 1 → 0 < w.y + s.effFld (R.uWin u) F.uWin.MAX_LINES →
    let leadN := s.effFld (R.uRun u) F.uRun.LEAD_N
    let trailN := s.effFld (R.uRun u) F.uRun.TRAIL_N
    let mask := (s.fld R.geoEvmask F.geoEvmask.UNITS).testBit u
    ((s.docLine u line.vals).isSome = true → w.lead = none → w.early = false → w.leadRun = 0 → 1 < leadN →
      ∃ t w', exec (.geoLineEvaluate u) s = .next t ∧ t = { s with regs := t.regs, geo := t.geo, pulses := t.pulses } ∧
        t.window key = some w' ∧ w'.y = w.y + 1 ∧ w'.early = true ∧ w'.leadRun = 1 ∧ w'.lead = none ∧ w'.prevDoc = true ∧
        (∀ ev, ev ∈ t.pulses ↔ ev ∈ s.pulses ∨ ev = 164 + u ∨ (mask = true ∧ ev = 161)) ∧ (∀ k, k ≠ key → t.window k = s.window k) ∧
        t.fld (R.uY u) F.uY.Y = w.y ∧ (∀ off, off ≠ R.uY u → t.reg off = s.reg off)) ∧
    ((s.docLine u line.vals).isSome = true → w.lead = none → w.early = true → w.leadRun + 1 = leadN → 0 < w.leadRun →
      ∃ t w', exec (.geoLineEvaluate u) s = .next t ∧ t = { s with regs := t.regs, geo := t.geo, pulses := t.pulses } ∧
        t.window key = some w' ∧ w'.lead = some (w.y + 1 - leadN) ∧ w'.tLead = w.tLead ∧ t.fld (R.uStat u) F.uStat.LEAD = 1 ∧
        (∀ ev, ev ∈ t.pulses ↔ ev ∈ s.pulses ∨ (mask = true ∧ ev = 160)) ∧
        (∀ off, off ∉ [R.uY u, R.uStat u] → t.reg off = s.reg off)) ∧
    (s.docLine u line.vals = none → w.lead = none → w.early = true →
      ∃ t w', exec (.geoLineEvaluate u) s = .next t ∧ t = { s with regs := t.regs, geo := t.geo } ∧
        t.window key = some w' ∧ w'.early = false ∧ w'.leadRun = 0 ∧ w'.lead = none ∧ w'.xL = w.xL ∧ w'.yT = w.yT ∧
        t.reg (R.uFalseCnt u) = satInc (s.reg (R.uFalseCnt u)) ∧ t.fld (R.uStat u) F.uStat.FALSE = 1 ∧
        (∀ off, off ∉ [R.uY u, R.uStat u, R.uFalseCnt u] → t.reg off = s.reg off)) ∧
    (s.docLine u line.vals = none → w.lead.isSome = true → w.trailRun + 1 = trailN →
      ∃ t w', exec (.geoLineEvaluate u) s = .next t ∧ t = { s with regs := t.regs, geo := t.geo, pulses := t.pulses } ∧
        t.window key = some w' ∧ w'.closed = true ∧ w'.trail = some (w.y + 1 - trailN) ∧ w'.lead = w.lead ∧
        t.fld (R.uStat u) F.uStat.TRAIL = 1 ∧ t.fld (R.uStat u) F.uStat.WIN = 0 ∧
        (∀ ev, ev ∈ t.pulses ↔ ev ∈ s.pulses ∨ (mask = true ∧ ev = 162)) ∧
        (∀ off, off ∉ [R.uY u, R.uStat u, R.geoStat] → t.reg off = s.reg off))

/-- R200, R205, R208, R211, R212, R391: the fits of a side enter its record; a record with nothing outstanding is completed: its CRC closes
it, EV163 fires, SEQ counts; a hold that lasts too long completes it as late; the host takes it and frees its slot, and it is counted
as discarded when its context has no open message stream.
The model's own choices here: notes/assumptions/20, 30 and 45. -/
def Obligations.DocumentRecords : Prop :=
  ∀ (s : State) (t : Fin 4) (a : Nat), s.usual → a < 2 → (∀ j ∈ s.hqe.jobs, j.trk ≠ t.val) →
    let k := t.val * 2 + a
    let regs := [R.trkStat t, R.geoStat, R.trkHold t, R.trkSeq t, R.uStat 0, R.uStat 1, R.uStat 2, R.uStat 3]
    (s.record k).busy = true → (s.record k).complete = false →
    (∀ (u : Fin 4) (w : Window), s.fld (R.uCfg u) F.uCfg.TRK = t → s.window (u * 2 + a) = some w → w.closed = true →
      s.window (u * 2 + (1 - a)) = none → (s.record k).open_.contains u.val = true →
      ((∃ v ∈ (s.record k).open_, v ≠ u.val) →
        ∃ r, exec (.edgeFitComplete u) s = .next r ∧ r = { s with regs := r.regs, geo := r.geo, freeCount := r.freeCount } ∧
          (r.record k).complete = false ∧ (r.record k).open_ = (s.record k).open_.filter (fun x => x != u.val) ∧
          (∃ e ∈ (r.record k).sides, e.unit = u.val ∧ -4500 ≤ e.skew ∧ e.skew ≤ 4500 ∧ e.yEnd = w.y) ∧
          (∀ j, j ≠ k → r.record j = s.record j) ∧ r.geo.windows = s.geo.windows ∧
          (∀ off, off ∉ [R.trkStat t, R.geoStat, R.trkHold t] → r.reg off = s.reg off)) ∧
      ((s.record k).open_ = [u.val] → (s.record k).holds = [] →
        ∃ r, exec (.edgeFitComplete u) s = .next r ∧
          r = { s with regs := r.regs, geo := r.geo, freeCount := r.freeCount, pulses := addSorted s.pulses 163 } ∧
          (r.record k).complete = true ∧ (r.record k).open_ = [] ∧
          (∃ b, (r.record k).bytes = b ++ bytesLE 4 (crc32c b).toNat ∧ b.take 3 = [1, 0, BitVec.ofNat 8 t]) ∧
          ((s.record k).status ≠ 0 → (r.record k).status = (s.record k).status) ∧
          r.fld (R.trkStat t) F.trkStat.LAST = (r.record k).status % 256 ∧ r.reg (R.trkSeq t) = s.reg (R.trkSeq t) + 1 ∧
          r.window (u * 2 + a) = none ∧ (∀ j, j ≠ k → r.record j = s.record j) ∧ (∀ off, off ∉ regs → r.reg off = s.reg off))) ∧
    ((∀ u, u < 4 → s.window (u * 2 + a) = none) → (s.record (t * 2 + (1 - a))).busy = false → (s.record k).open_ = [] →
      ∃ r, exec (.recordHoldTimeout t) s = .next r ∧ r = { s with regs := r.regs, geo := r.geo, pulses := addSorted s.pulses 163 } ∧
        (r.record k).complete = true ∧ (r.record k).late = true ∧ (r.record k).holds = (s.record k).holds ∧
        r.reg (R.trkSeq t) = s.reg (R.trkSeq t) + 1 ∧ (∀ off, off ∉ regs → r.reg off = s.reg off)) ∧
    (∀ x : State, x = s.setRecord k { s.record k with complete := true } → (s.record (t * 2 + (1 - a))).busy = false →
      (s.stream (s.fld (R.trkSc t) F.trkSc.SC)).opened = false →
      ∃ r, exec (.recordSlotRelease t) x = .next r ∧ r = { s with regs := r.regs, geo := r.geo } ∧ r.record k = {} ∧
        (∀ j, j ≠ k → r.record j = s.record j) ∧ r.fld (R.trkStat t) F.trkStat.SLOT = 0 ∧ r.fld (R.trkHold t) F.trkHold.OUT = 0 ∧
        (r.reg R.geoStat).getLsbD (8 + t) = false ∧ r.reg R.hqeDiscCnt = satInc (s.reg R.hqeDiscCnt) ∧
        (∀ off, off ∉ [R.trkStat t, R.geoStat, R.trkHold t, R.hqeDiscCnt] → r.reg off = s.reg off))

/-! ## Transport (chapter 7) -/

/-- The registers that show a path and the axes: PATHk_STAT, GAIT.STAT, and status and rate of each axis. -/
def pathViews (k : Nat) : List Nat :=
  [R.pathStat k, R.gaitStat, R.axisStat 0, R.axisStat 1, R.axisStat 2, R.axisStat 3, R.axisRate 0, R.axisRate 1, R.axisRate 2, R.axisRate 3]

/-- The registers that a start of path k's dwell timer changes: the timer's, and DWELL of the paths that use it. -/
def dwellRegs (s : State) (k : Nat) : List Nat :=
  let n := s.fld (R.pathCfg k) F.pathCfg.DWELL_TIM
  [R.etimCtl n, R.etimLoad n, R.etimCount n, R.etimStat n, R.pathStat 0, R.pathStat 1, R.pathStat 2, R.pathStat 3]

/-- The dwell of a path has just been started: its one-shot timer runs from at least 200 ms. -/
def DwellStarted (s t : State) (k : Nat) : Prop :=
  let n := s.fld (R.pathCfg k) F.pathCfg.DWELL_TIM
  t.etimRun n = true ∧ t.reg (R.etimCount n) = BitVec.ofNat 32 (max 200 (s.fld (R.pathPolicy k) F.pathPolicy.DWELL_MS) * 3125) ∧
  t.fld (R.etimCtl n) F.etimCtl.MODE = 0 ∧ t.fld (R.etimCtl n) F.etimCtl.PRESC = 8

/-- What a jam leaves (R247), on a path without tracks and without a job: JAM with its cause, the feed held, the axes decelerating at
JDEC, the jam counted, EV176 + k fired and the event for the host queued. -/
def Jammed (s t : State) (k cause : Nat) : Prop :=
  t = { s with regs := t.regs, gait := t.gait, pulses := addSorted s.pulses (176 + k)
               asyncQ := s.asyncQ ++ [⟨5, k + cause * 256, (satInc (s.reg (R.pathJamCnt k))).toNat⟩] } ∧
  t.pathState k = 7 ∧ t.fld (R.pathStat k) F.pathStat.JAM_CAUSE = cause ∧ t.fld (R.pathStat k) F.pathStat.FEED_HOLD = 1 ∧
  t.fld (R.pathStat k) F.pathStat.TARGET = 0 ∧ t.fld (R.pathStat k) F.pathStat.GAIT = 0 ∧ (t.pathSt k).speed = (s.pathSt k).speed ∧
  (t.pathSt k).target = 0 ∧ (t.pathSt k).hard = true ∧ t.reg (R.pathJamCnt k) = satInc (s.reg (R.pathJamCnt k)) ∧
  (∀ j, j ≠ k → t.pathSt j = s.pathSt j)

/-- A jam of path k touches nothing beyond what `Jammed` says: it has no tracks and no job, and E0 reports no jams. -/
abbrev PlainPath (s : State) (k : Nat) : Prop :=
  s.pathState k ≠ 0 ∧ s.pathState k ≠ 7 ∧ s.fld (R.pathLinks k) F.pathLinks.TRKS = 0 ∧ (∀ j ∈ s.hqe.jobs, j.path ≠ k) ∧
  s.fld R.secSvcCfg F.secSvcCfg.AUTO_JAM = 0 ∧ s.asyncQ.length < 64

/-- R216-R219, R228: a write of Mn_CTL configures the axis; a step moves the position by one count in the direction driven; the
10 us update brings the speed one step of ACC, DEC or JDEC nearer to its target; a driver fault stops its axis.
The model's own choices here: notes/assumptions/31. -/
def Obligations.AxesStepAndRamp : Prop :=
  ∀ (s : State) (n : Fin 4), s.usual →
    (∀ path w, s.accessible path (R.axisCtl n) = true → s.axisIdle n = true →
      ∃ t, exec (.axisCtlWrite path n w) s = .next t ∧ t = { s with regs := t.regs, eff := t.eff, gait := t.gait } ∧
        t.reg (R.axisCtl n) = Row.axisCtl.written (s.reg (R.axisCtl n)) w ∧ t.gait.configured.testBit n = true ∧
        t.gait.paths = s.gait.paths ∧ (∀ off, off ∉ [R.axisCtl n, R.axisStat n, R.axisRate n] → t.reg off = s.reg off)) ∧
    (s.axisSpeed n = 0 → exec (.axisStep n) s = .next s) ∧
    (s.axisSpeed n ≠ 0 → s.axisDriven n = true → s.pdOn 131 = true →
      (∀ k, k < 4 → s.fld (R.pathCfg k) F.pathCfg.PSRC = 2 + n → (s.pathSt k).slipDue = false) →
      ∃ t, exec (.axisStep n) s = .next t ∧ t = { s with regs := t.regs } ∧
        t.reg64 (R.axisPosLo n) (R.axisPosHi n) = (s.reg64 (R.axisPosLo n) (R.axisPosHi n) +
          (if s.gait.dirLevel.testBit n ≠ (s.fld (R.axisCtl n) F.axisCtl.DIR_INV == 1) then 65536 else 2 ^ 64 - 65536)) % 2 ^ 64 ∧
        (∀ off, off ∉ [R.axisPosLo n, R.axisPosHi n] → t.reg off = s.reg off)) ∧
    (s.pathState n ≠ 0 → s.pdOn 131 = true → s.fld (R.pathFeed n) F.pathFeed.MODE ≠ 2 →
      let x := s.pathSt n
      let rate := if x.hard = true then s.fld (R.pathGuard n) F.pathGuard.JDEC else s.fld (R.pathRamp n) F.pathRamp.DEC
      ∃ t, exec (.rampUpdate n) s = .next t ∧ t = { s with regs := t.regs, gait := t.gait } ∧
        (x.speed < x.target → (t.pathSt n).speed = min x.target (x.speed + s.fld (R.pathRamp n) F.pathRamp.ACC * 1048576)) ∧
        (x.target ≤ x.speed → (t.pathSt n).speed = max x.target (x.speed - rate * 1048576)) ∧
        t.pathSt n = { x with speed := (t.pathSt n).speed, feedSpeed := 0 } ∧ (∀ k, k ≠ n.val → t.pathSt k = s.pathSt k) ∧
        (∀ off, off ∉ pathViews n → t.reg off = s.reg off)) ∧
    (∃ t, exec (.driverFault n false) s = .next t ∧ s.sameBut t [R.axisStat n] ∧ t.fld (R.axisStat n) F.axisStat.FAULT_IN = 1) ∧
    (s.fld (R.axisCtl n) F.axisCtl.FAULT_EN = 0 →
      ∃ t, exec (.driverFault n true) s = .next t ∧ s.sameBut t [R.axisStat n] ∧ t.fld (R.axisStat n) F.axisStat.FAULT_IN = 0) ∧
    (s.fld (R.axisCtl n) F.axisCtl.FAULT_EN = 1 →
      (s.axisPaths n = [] →
        ∃ t, exec (.driverFault n true) s = .next t ∧ t = { s with regs := t.regs, gait := t.gait } ∧
          t.fld (R.axisStat n) F.axisStat.FAULT = 1 ∧ t.axisDriven n = false ∧ t.gait.paths = s.gait.paths ∧
          (∀ off, off ∉ [R.axisStat n, R.axisRate n] → t.reg off = s.reg off)) ∧
      (∀ k, s.axisPaths n = [k] → PlainPath s k →
        ∃ t, exec (.driverFault n true) s = .next t ∧ Jammed s t k 5 ∧ t.axisDriven n = false ∧
          t.fld (R.axisStat n) F.axisStat.FAULT = 1 ∧ (∀ off, off ∉ R.pathJamCnt k :: pathViews k → t.reg off = s.reg off)))

/-- R220, R221, R223: an accepted enable takes the levels at the pins as the start; in the sequence 00, 10, 11, 01 of A and B each
forward edge counts one up and each backward edge one down, and two edges at once are an error without a count; an index latches
the position; a stall jams the path that moves by this encoder.
The model's own choices here: notes/assumptions/14. -/
def Obligations.EncodersTrackPosition : Prop :=
  ∀ (s : State) (e : Fin 2), s.usual →
    let forward (p q : Bool × Bool) : Bool := [((false, false), (true, false)), ((true, false), (true, true)), ((true, true), (false, true)),
      ((false, true), (false, false))].contains (p, q)
    let old := ((s.enc e).a, (s.enc e).b)
    (∀ path w a b, s.accessible path (R.encCfg e) = true → s.encIdle e = true → s.fld (R.encCfg e) F.encCfg.EN = 0 →
      ∃ t, exec (.encoderEnable path e w a b) s = .next t ∧ t = { s with regs := t.regs, eff := t.eff, gait := { s.gait with encs := t.gait.encs } } ∧
        t.fld (R.encCfg e) F.encCfg.EN = 1 ∧ t.fld (R.encCfg e) F.encCfg.FILT = F.encCfg.FILT.get w ∧ t.enc e = { a := a, b := b } ∧
        (∀ f, f ≠ e.val → t.enc f = s.enc f) ∧ (∀ off, off ≠ R.encCfg e → t.reg off = s.reg off)) ∧
    (∀ a b, s.fld (R.encCfg e) F.encCfg.EN = 1 → s.pdOn 131 = true →
      (∀ k, k < 4 → s.fld (R.pathCfg k) F.pathCfg.PSRC = e → (s.pathSt k).slipDue = false) →
      (old = (a, b) → exec (.encoderEdge e a b) s = .next s) ∧
      (forward old (a, b) = true ∨ forward (a, b) old = true →
        ∃ t, exec (.encoderEdge e a b) s = .next t ∧ t = { s with regs := t.regs, gait := { s.gait with encs := t.gait.encs } } ∧
          t.enc e = { a := a, b := b } ∧
          t.reg64 (R.encPosLo e) (R.encPosHi e) = (s.reg64 (R.encPosLo e) (R.encPosHi e) +
            (if forward old (a, b) ≠ (s.fld (R.encCfg e) F.encCfg.INV == 1) then 65536 else 2 ^ 64 - 65536)) % 2 ^ 64 ∧
          (∀ off, off ∉ [R.encPosLo e, R.encPosHi e] → t.reg off = s.reg off)) ∧
      (old.1 ≠ a ∧ old.2 ≠ b →
        ∃ t, exec (.encoderEdge e a b) s = .next t ∧ t = { s with regs := t.regs, gait := { s.gait with encs := t.gait.encs } } ∧
          t.enc e = { a := a, b := b } ∧ t.reg (R.encErrCnt e) = satInc (s.reg (R.encErrCnt e)) ∧
          t.fld (R.encStat e) F.encStat.ERR = 1 ∧ (∀ off, off ∉ [R.encErrCnt e, R.encStat e] → t.reg off = s.reg off))) ∧
    (s.fld (R.encCfg e) F.encCfg.EN = 1 → s.fld (R.encCfg e) F.encCfg.Z_EN = 1 → s.pdOn 131 = true →
      ∃ t, exec (.encoderIndex e) s = .next t ∧ t = { s with regs := t.regs } ∧ t.reg (R.encZposLo e) = s.reg (R.encPosLo e) ∧
        t.reg (R.encZposHi e) = s.reg (R.encPosHi e) ∧ t.fld (R.encStat e) F.encStat.ZSEEN = 1 ∧
        (∀ off, off ∉ [R.encZposLo e, R.encZposHi e, R.encStat e] → t.reg off = s.reg off)) ∧
    ((∀ k, k < 4 → s.pathOn k = true → s.fld (R.pathCfg k) F.pathCfg.PSRC = e → (s.pathSt k).speed = 0) → exec (.encoderStall e) s = .next s) ∧
    (∀ k, k < 4 → s.pathOn k = true → s.fld (R.pathCfg k) F.pathCfg.PSRC = e → (s.pathSt k).speed ≠ 0 →
      s.fld (R.pathGuard k) F.pathGuard.STALL_US ≠ 0 → (∀ j, j < 4 → j ≠ k → s.pathOn j = false) → PlainPath s k →
      ∃ t, exec (.encoderStall e) s = .next t ∧ Jammed s t k 4 ∧ t.fld (R.encStat e) F.encStat.STALL = 1 ∧
        (∀ off, off ∉ R.pathJamCnt k :: R.encStat e :: pathViews k → t.reg off = s.reg off))

/-- R224, R245-R247: an accepted level shows in PS_IN by its polarity and fires the sensor events that it matches; covering checkpoint 0
counts a document into the track; a document that is late at a checkpoint, or covers one for too long, jams its path.
The model's own choices here: notes/assumptions/14. -/
def Obligations.SensorsAndJamLimits : Prop :=
  ∀ (s : State), s.usual →
    (∀ (n : Fin 16) (level : Bool), s.gait.psLevel < 2 ^ 16 →
      (s.gait.psLevel.testBit n = level → exec (.pathSensorChange n level) s = .next s) ∧
      (s.gait.psLevel.testBit n ≠ level →
        let cov := level != (s.fld R.gaitPsPol F.gaitPsPol.INV).testBit n
        ((∀ k, k < 4 → s.pathOn k = false) →
          ∃ t, exec (.pathSensorChange n level) s = .next t ∧
            t = { s with regs := t.regs, gait := { s.gait with psLevel := t.gait.psLevel }, pulses := t.pulses } ∧
            (∀ m, t.gait.psLevel.testBit m = if m = n.val then level else s.gait.psLevel.testBit m) ∧
            (t.reg R.gaitPsIn).getLsbD n = cov ∧ (∀ off, off ≠ R.gaitPsIn → t.reg off = s.reg off) ∧
            (∀ ev, ev ∈ t.pulses ↔ ev ∈ s.pulses ∨ ∃ i, i < 8 ∧ ev = 184 + i ∧ s.fld (R.gaitPse i) F.gaitPse.EN = 1 ∧
              s.fld (R.gaitPse i) F.gaitPse.PS = n ∧
              (s.fld (R.gaitPse i) F.gaitPse.EDGE = 3 ∨ s.fld (R.gaitPse i) F.gaitPse.EDGE = (if cov = true then 1 else 2)))) ∧
        (∀ k, k < 4 → s.pathOn k = true → (∀ j, j < 4 → j ≠ k → s.pathOn j = false) → s.checkpoints k = [0, 1] →
          s.fld (R.pathChkA k 0) F.pathChkA.PS = n → s.fld (R.pathChkA k 1) F.pathChkA.PS ≠ n → cov = true →
          ∃ t, exec (.pathSensorChange n level) s = .next t ∧ t = { s with regs := t.regs, gait := t.gait, pulses := t.pulses } ∧
            t.fld (R.pathOcc k) F.pathOcc.IN_TRACK = min 65535 (s.fld (R.pathOcc k) F.pathOcc.IN_TRACK + 1) ∧
            (t.pathSt k).waits 1 = (s.pathSt k).waits 1 ++ [s.pathPos k] ∧
            (∀ off, off ∉ [R.gaitPsIn, R.pathOcc k] → t.reg off = s.reg off)))) ∧
    (∀ (k : Fin 4) (i : Fin 8), s.pathOn k = true → s.fld (R.pathChkA k i) F.pathChkA.EN = 1 → (s.pathSt k).slipDue = false → PlainPath s k →
      (∀ p0 rest, (s.pathSt k).waits i = p0 :: rest → s.fld (R.pathChkA k i) F.pathChkA.ARR ≠ 0 →
        (p0 + (s.fld (R.pathChkA k i) F.pathChkA.ARR * 65536 : Nat) < s.pathPos k →
          ∃ t, exec (.jamArrivalLimit k i) s = .next t ∧ Jammed s t k 1 ∧ t.fld (R.pathStat k) F.pathStat.JAM_CHK = i ∧
            (∀ off, off ∉ R.pathJamCnt k :: pathViews k → t.reg off = s.reg off)) ∧
        (s.pathPos k ≤ p0 + (s.fld (R.pathChkA k i) F.pathChkA.ARR * 65536 : Nat) → exec (.jamArrivalLimit k i) s = .next s)) ∧
      (∀ p0, Table.get (fun _ => none) (s.pathSt k).coveredAt i = some p0 → s.fld (R.pathChkB k i) F.pathChkB.LEN ≠ 0 →
        (p0 + (s.fld (R.pathChkB k i) F.pathChkB.LEN * 65536 : Nat) < s.pathPos k →
          ∃ t, exec (.jamLengthLimit k i) s = .next t ∧ Jammed s t k 2 ∧ t.fld (R.pathStat k) F.pathStat.JAM_CHK = i ∧
            (∀ off, off ∉ R.pathJamCnt k :: pathViews k → t.reg off = s.reg off)) ∧
        (s.pathPos k ≤ p0 + (s.fld (R.pathChkB k i) F.pathChkB.LEN * 65536 : Nat) → exec (.jamLengthLimit k i) s = .next s)))

/-- R225, Table 7-1, for a path that feeds without a solenoid: an accepted enable claims the dwell timer for GAIT and brings the path to
HALT; a failed check leaves EN at 0 with its cause and the timer free; a disable at rest turns it OFF and releases the timer.
The model's own choices here: notes/assumptions/6 and 32. -/
def Obligations.PathEnableAndDisable : Prop :=
  ∀ (s : State) (path : Path) (k : Fin 4) (w : Word), s.usual → s.accessible path (R.pathCfg k) = true →
    s.fld (R.pathFeed k) F.pathFeed.MODE ≠ 1 →
    (let n := F.pathCfg.DWELL_TIM.get w
     let s1 := (s.setReg (R.pathCfg k) (Row.pathCfg.written (s.reg (R.pathCfg k)) (F.pathCfg.EN.put w 1))).setOwner (.timer n) 0x14
     s.pathOn k = false → s.pathIdle k = true → s.owner (.timer n) = 0 →
      (s1.pathCause k = 0 →
        ∃ t, exec (.pathEnable path k w) s = .next t ∧ t = { s with regs := t.regs, eff := t.eff, gait := t.gait } ∧ t.pathOn k = true ∧
          t.pathState k = 1 ∧ t.owner (.timer n) = 0x14 ∧ t.fld (R.pathCfg k) F.pathCfg.AXES = F.pathCfg.AXES.get w ∧
          t.pathSt k = { s.pathSt k with atRest := .stay } ∧ (∀ j, j ≠ k.val → t.pathSt j = s.pathSt j) ∧
          (∀ off, off ∉ R.pathCfg k :: R.etimCtl n :: pathViews k → t.reg off = s.reg off)) ∧
      (s1.pathCause k ≠ 0 →
        ∃ t, exec (.pathEnable path k w) s = .next t ∧ t = { s with regs := t.regs, eff := t.eff } ∧ t.pathOn k = false ∧
          t.owner (.timer n) = 0 ∧ t.fld (R.pathStat k) F.pathStat.CFG_ERR = 1 ∧
          t.fld (R.pathStat k) F.pathStat.CFG_CAUSE = s1.pathCause k ∧
          (∀ off, off ∉ [R.pathCfg k, R.etimCtl n, R.pathStat k] → t.reg off = s.reg off))) ∧
    (let n := s.fld (R.pathCfg k) F.pathCfg.DWELL_TIM
     w &&& 0x0003FFFE = s.reg (R.pathCfg k) &&& 0x0003FFFE → s.pathOn k = true → (s.pathSt k).speed = 0 → s.owner (.timer n) = 0x14 →
      ∃ t, exec (.pathDisable path k w) s = .next t ∧ t = { s with regs := t.regs, eff := t.eff, gait := t.gait } ∧ t.pathOn k = false ∧
        t.pathState k = 0 ∧ t.owner (.timer n) = 0 ∧ (t.pathSt k).target = 0 ∧ (t.pathSt k).atRest = .stay ∧
        (∀ j, j ≠ k.val → t.pathSt j = s.pathSt j) ∧
        (∀ off, off ∉ R.pathCfg k :: R.etimCtl n :: pathViews k → t.reg off = s.reg off))

/-- R226, R227, R230, R231, R234, R244, R248 and Table 7-2: what each command does in the state that takes it, and that it is ignored
with CMD_IGN elsewhere. -/
def Obligations.PathCommands : Prop :=
  ∀ (s : State) (path : Path) (k : Fin 4) (g : Fin 8), s.usual → s.accessible path (R.pathCmd k) = true →
    let speed (j : Nat) : Nat := if j = 0 then 0 else (s.reg (R.pathGspd k j)).toNat * 100000
    let gmin := s.fld (R.pathPolicy k) F.pathPolicy.GMIN
    let ok := gmin ≤ g ∧ g ≤ s.fld (R.pathPolicy k) F.pathPolicy.GMAX
    let seamOn := s.fld (R.pathCfg k) F.pathCfg.SEAM_EN
    let taken (c : Instr) : Prop := s.pathOn k = true ∧
      ((c = .pathStart path k g ∧ s.pathState k = 1 ∧ ok) ∨ (c = .pathGait path k g ∧ s.pathState k = 2 ∧ ok) ∨
       ((c = .pathStop path k ∨ c = .pathHalt path k) ∧ s.pathState k = 2) ∨ (c = .pathResume path k ∧ s.pathState k = 4) ∨
       (c = .pathAbandon path k ∧ 3 ≤ s.pathState k ∧ s.pathState k ≤ 6) ∨
       (c = .pathClearJam path k ∧ s.pathState k = 7 ∧ (s.pathSt k).speed = 0))
    (∀ c : Instr, c ∈ [.pathStart path k g, .pathStop path k, .pathResume path k, .pathAbandon path k, .pathClearJam path k, .pathHalt path k,
          .pathGait path k g] → ¬taken c →
      ∃ t, exec c s = .next t ∧ s.sameBut t [R.pathStat k] ∧ t.fld (R.pathStat k) F.pathStat.CMD_IGN = 1 ∧ t.pathState k = s.pathState k) ∧
    (s.pathOn k = true →
      (s.pathState k = 1 → ok →
        ∃ t, exec (.pathStart path k g) s = .next t ∧ t = { s with regs := t.regs, gait := t.gait } ∧ t.pathState k = 2 ∧
          t.fld (R.pathStat k) F.pathStat.GAIT = g ∧ t.fld (R.pathStat k) F.pathStat.TARGET = g ∧ (t.pathSt k).target = speed g ∧
          (t.pathSt k).speed = (s.pathSt k).speed ∧ (∀ off, off ∉ pathViews k → t.reg off = s.reg off)) ∧
      (s.pathState k = 2 → ok →
        ∃ t, exec (.pathGait path k g) s = .next t ∧ t.pathState k = 2 ∧
          t = { s with regs := t.regs, gait := t.gait, pulses := addSorted s.pulses (168 + k), sys := { s.sys with etimPresc := t.sys.etimPresc } } ∧
          t.fld (R.pathStat k) F.pathStat.GAIT = g ∧ (t.pathSt k).target = speed g ∧ DwellStarted s t k ∧
          t.reg (R.pathGaitCnt k) = satInc (s.reg (R.pathGaitCnt k)) ∧
          (∀ off, off ∉ R.pathGaitCnt k :: dwellRegs s k → t.reg off = s.reg off)) ∧
      (s.pathState k = 2 →
        (∃ t, exec (.pathHalt path k) s = .next t ∧ t = { s with regs := t.regs, gait := t.gait } ∧ t.pathState k = 2 ∧
          (t.pathSt k).target = 0 ∧ (t.pathSt k).atRest = .halt ∧ (t.pathSt k).hard = false ∧
          t.fld (R.pathStat k) F.pathStat.TARGET = 0 ∧ (∀ off, off ≠ R.pathStat k → t.reg off = s.reg off)) ∧
        (s.fld (R.pathCfg k) F.pathCfg.FLOW = 0 →
          ∃ t, exec (.pathStop path k) s = .next t ∧ t = { s with regs := t.regs, gait := t.gait, sys := { s.sys with etimPresc := t.sys.etimPresc } } ∧
            t.pathState k = 3 ∧ t.fld (R.pathStat k) F.pathStat.FEED_HOLD = 1 ∧ t.fld (R.pathStat k) F.pathStat.GAIT = 0 ∧
            (t.pathSt k).target = 0 ∧ (t.pathSt k).atRest = .stop ∧ (t.pathSt k).hard = false ∧ DwellStarted s t k ∧
            (∀ off, off ∉ pathViews k ++ dwellRegs s k → t.reg off = s.reg off)) ∧
        (s.fld (R.pathCfg k) F.pathCfg.FLOW = 1 → s.fld (R.pathOcc k) F.pathOcc.IN_TRACK ≠ 0 →
          ∃ t, exec (.pathStop path k) s = .next t ∧ t = { s with regs := t.regs, gait := t.gait } ∧ t.pathState k = 2 ∧
            t.fld (R.pathStat k) F.pathStat.FEED_HOLD = 1 ∧ t.pathSt k = { s.pathSt k with haltWhenEmpty := true, holdByLoop := false } ∧
            (∀ off, off ∉ pathViews k → t.reg off = s.reg off))) ∧
      (s.pathState k = 4 →
        (seamOn = 0 →
          ∃ t, exec (.pathResume path k) s = .next t ∧ t = { s with regs := t.regs, gait := t.gait } ∧ t.pathState k = 2 ∧
            t.fld (R.pathStat k) F.pathStat.FEED_HOLD = 0 ∧ t.fld (R.pathStat k) F.pathStat.GAIT = gmin ∧ (t.pathSt k).target = speed gmin ∧
            (t.pathSt k).seams = [] ∧ (∀ off, off ∉ pathViews k → t.reg off = s.reg off)) ∧
        (seamOn = 1 →
          let lp := s.fld (R.pathCfg k) F.pathCfg.LP
          ∃ t, exec (.pathResume path k) s = .next t ∧ t = { s with regs := t.regs, gait := t.gait } ∧ t.pathState k = 5 ∧
            t.fld (R.pathStat k) F.pathStat.FEED_HOLD = 0 ∧ (t.pathSt k).reverse = true ∧
            (t.pathSt k).target = speed (s.fld (R.pathSeam k) F.pathSeam.SEAM_GAIT) ∧
            (t.pathSt k).goal = signed 64 (s.reg64 (R.pathLastLo k) (R.pathLastHi k)) -
              (s.fld (R.pathSeam k) F.pathSeam.BACKOFF * (s.effReg (R.lpPitch lp)).toNat : Nat) -
              (s.fld (R.pathSeam2 k) F.pathSeam2.BACKLASH * 65536 : Nat) ∧
            (∀ off, off ∉ pathViews k → t.reg off = s.reg off))) ∧
      (3 ≤ s.pathState k → s.pathState k ≤ 6 → s.fld (R.pathLinks k) F.pathLinks.TRKS = 0 →
        ((s.pathSt k).speed = 0 →
          ∃ t, exec (.pathAbandon path k) s = .next t ∧ t = { s with regs := t.regs, gait := t.gait, pulses := addSorted s.pulses (172 + k) } ∧
            t.pathState k = 1 ∧ (t.pathSt k).target = 0 ∧ (t.pathSt k).seams = [] ∧ (t.pathSt k).reverse = false ∧
            (∀ off, off ∉ pathViews k → t.reg off = s.reg off)) ∧
        ((s.pathSt k).speed ≠ 0 →
          ∃ t, exec (.pathAbandon path k) s = .next t ∧ t = { s with regs := t.regs, gait := t.gait } ∧ t.pathState k = s.pathState k ∧
            (t.pathSt k).target = 0 ∧ (t.pathSt k).atRest = .halt ∧ (t.pathSt k).seams = [] ∧
            (∀ off, off ≠ R.pathStat k → t.reg off = s.reg off))) ∧
      (s.pathState k = 7 → (s.pathSt k).speed = 0 →
        (s.fld (R.pathRev k) F.pathRev.REV = 0 →
          ∃ t, exec (.pathClearJam path k) s = .next t ∧ t = { s with regs := t.regs, gait := t.gait } ∧
            (s.chkLevels k = 0 → t.pathState k = 1 ∧ t.fld (R.pathOcc k) F.pathOcc.IN_TRACK = 0 ∧ (t.pathSt k).waiting = []) ∧
            (s.chkLevels k ≠ 0 → t.pathState k = 7 ∧ t.fld (R.pathStat k) F.pathStat.JAM_CAUSE = 7) ∧
            (∀ n, (s.axesOf k).contains n = true → t.gait.faulted.testBit n = false) ∧
            (∀ off, off ∉ R.pathOcc k :: pathViews k → t.reg off = s.reg off)) ∧
        (s.fld (R.pathRev k) F.pathRev.REV ≠ 0 →
          ∃ t, exec (.pathClearJam path k) s = .next t ∧ t = { s with regs := t.regs, gait := t.gait } ∧ t.pathState k = 7 ∧
            (t.pathSt k).reverse = true ∧ (t.pathSt k).atRest = .cleared ∧ (t.pathSt k).target = speed gmin ∧
            (t.pathSt k).goal = s.pathPos k - (s.fld (R.pathRev k) F.pathRev.REV * 65536 : Nat) ∧
            (∀ off, off ∉ pathViews k → t.reg off = s.reg off))))

/-- R229-R231, R234, R235, R248, R250: the pacing loop stops a running path at STOP, shifts one gait down or up between the thresholds once
the dwell is clear, and restarts a stopped one; what coming to rest, the back-off, the overlap compare, the reverse of CLEAR_JAM and
the loss of the host do.
The model's own choices here: notes/assumptions/31 and 32. -/
def Obligations.PacingAndRest : Prop :=
  ∀ (s : State) (k : Fin 4), s.usual →
    let occ := s.fld (R.pathOcc k) F.pathOcc.OCC
    let g := s.fld (R.pathStat k) F.pathStat.GAIT
    let dwell := s.etimRun (s.fld (R.pathCfg k) F.pathCfg.DWELL_TIM)
    let speed (j : Nat) : Nat := if j = 0 then 0 else (s.reg (R.pathGspd k j)).toNat * 100000
    (s.pathState k = 2 → s.pathOn k = true → (s.pathSt k).atRest = .stay →
      (s.fld (R.pathOccthr k) F.pathOccthr.STOP ≤ occ → s.fld (R.pathCfg k) F.pathCfg.FLOW = 0 →
        ∃ t, exec (.pacingLoopEval k) s = .next t ∧ t = { s with regs := t.regs, gait := t.gait, sys := { s.sys with etimPresc := t.sys.etimPresc } } ∧
          t.pathState k = 3 ∧ t.fld (R.pathStat k) F.pathStat.FEED_HOLD = 1 ∧ (t.pathSt k).target = 0 ∧ (t.pathSt k).atRest = .stop ∧
          DwellStarted s t k ∧ (∀ off, off ∉ pathViews k ++ dwellRegs s k → t.reg off = s.reg off)) ∧
      (occ < s.fld (R.pathOccthr k) F.pathOccthr.STOP → dwell = false →
        (∀ h, (h + 1 = g ∧ s.fld (R.pathGthr k g) F.pathGthr.DOWN ≤ occ ∧ s.fld (R.pathPolicy k) F.pathPolicy.GMIN < g) ∨
            (h = g + 1 ∧ occ < s.fld (R.pathGthr k g) F.pathGthr.DOWN ∧ occ ≤ s.fld (R.pathGthr k g) F.pathGthr.UP ∧
              g < s.fld (R.pathPolicy k) F.pathPolicy.GMAX) →
          ∃ t, exec (.pacingLoopEval k) s = .next t ∧ t.pathState k = 2 ∧
            t = { s with regs := t.regs, gait := t.gait, pulses := addSorted s.pulses (168 + k), sys := { s.sys with etimPresc := t.sys.etimPresc } } ∧
            t.fld (R.pathStat k) F.pathStat.GAIT = h ∧ (t.pathSt k).target = speed h ∧ DwellStarted s t k ∧
            (∀ off, off ∉ R.pathGaitCnt k :: dwellRegs s k → t.reg off = s.reg off)) ∧
        (occ < s.fld (R.pathGthr k g) F.pathGthr.DOWN → s.fld (R.pathGthr k g) F.pathGthr.UP < occ → (s.pathSt k).holdByLoop = false →
          exec (.pacingLoopEval k) s = .next s)) ∧
      (occ < s.fld (R.pathOccthr k) F.pathOccthr.STOP → dwell = true → exec (.pacingLoopEval k) s = .next s)) ∧
    (s.pathState k = 4 → dwell = false → occ ≤ s.fld (R.pathOccthr k) F.pathOccthr.RESUME → s.fld (R.pathCfg k) F.pathCfg.SEAM_EN = 1 →
      ∃ t, exec (.pacingLoopEval k) s = .next t ∧ t = { s with regs := t.regs, gait := t.gait } ∧ t.pathState k = 5 ∧ (t.pathSt k).reverse = true ∧
        (∀ off, off ∉ pathViews k → t.reg off = s.reg off)) ∧
    ((s.pathSt k).speed ≠ 0 → exec (.pathAtRest k) s = .next s) ∧
    ((s.pathSt k).speed = 0 → (s.pathSt k).target = 0 →
      ((s.pathSt k).atRest = .stop → s.pathWindow k = true → (∀ h, h < 4 → s.fld (R.seamCfg h) F.seamCfg.EN = 0) →
        let lp := s.fld (R.pathCfg k) F.pathCfg.LP
        ∃ t, exec (.pathAtRest k) s = .next t ∧ t = { s with regs := t.regs, gait := t.gait, pulses := addSorted s.pulses (172 + k) } ∧
          t.pathState k = 4 ∧ t.reg (R.pathLastLo k) = s.reg (R.lpLastLo lp) ∧ t.reg (R.pathLastHi k) = s.reg (R.lpLastHi lp) ∧
          (t.pathSt k).slipDue = true ∧ (t.pathSt k).restPos = s.pathPos k ∧ (t.pathSt k).restLevels = s.chkLevels k ∧
          (∀ off, off ∉ R.pathLastLo k :: R.pathLastHi k :: pathViews k → t.reg off = s.reg off)) ∧
      ((s.pathSt k).atRest = .halt →
        ∃ t, exec (.pathAtRest k) s = .next t ∧ t = { s with regs := t.regs, gait := t.gait, pulses := addSorted s.pulses (172 + k) } ∧
          t.pathState k = 1 ∧ (t.pathSt k).reverse = false ∧ (∀ off, off ∉ pathViews k → t.reg off = s.reg off))) ∧
    (s.pathState k = 5 → s.pathPos k ≤ (s.pathSt k).goal →
      ∃ t, exec (.backoffComplete k) s = .next t ∧ t = { s with regs := t.regs, gait := t.gait } ∧ t.pathState k = 6 ∧
        (t.pathSt k).speed = 0 ∧ (t.pathSt k).reverse = false ∧ (t.pathSt k).overlap = 0 ∧
        (t.pathSt k).target = speed (s.fld (R.pathSeam k) F.pathSeam.SEAM_GAIT) ∧ (∀ off, off ∉ pathViews k → t.reg off = s.reg off)) ∧
    (∀ (p cycle : Nat), s.pathState k = 6 → (s.pathSt k).overlap + 1 < s.fld (R.pathSeam k) F.pathSeam.OVERLAP →
      s.fld (R.pathLinks k) F.pathLinks.LPS = 2 ^ p → p < 8 → s.fld (R.lpCfg p) F.lpCfg.EN = 1 → (s.lp p).run = .idle →
      (∀ h, h < 4 → s.fld (R.grpCtl h) F.grpCtl.EN = 0) →
      signed 64 (s.reg64 (R.pathLastLo k) (R.pathLastHi k)) - (s.fld (R.pathSeam k) F.pathSeam.OVERLAP - 1 - (s.pathSt k).overlap : Nat) *
        ((s.effReg (R.lpPitch (s.fld (R.pathCfg k) F.pathCfg.LP))).toNat : Int) ≤ s.pathPos k →
      ∃ t, exec (.overlapCompare k cycle) s = .next t ∧ t = { s with regs := t.regs, gait := t.gait, tsq := t.tsq } ∧
        (t.pathSt k).overlap = (s.pathSt k).overlap + 1 ∧ (t.lp p).run = .line ∧ (t.lp p).line = 2 ^ 40 + (s.pathSt k).overlap ∧
        (t.lp p).cycle = cycle + 2 ∧ t.pathState k = 6 ∧ (∀ off, off ∉ [R.lpStat p, R.tsqStat] → t.reg off = s.reg off)) ∧
    (s.pathState k = 7 → (s.pathSt k).atRest = .cleared → s.pathPos k ≤ (s.pathSt k).goal →
      ∃ t, exec (.clearJamReverseDone k) s = .next t ∧ t = { s with regs := t.regs, gait := t.gait } ∧ (t.pathSt k).speed = 0 ∧
        (s.chkLevels k = 0 → t.pathState k = 1 ∧ t.fld (R.pathOcc k) F.pathOcc.IN_TRACK = 0) ∧
        (s.chkLevels k ≠ 0 → t.pathState k = 7 ∧ t.fld (R.pathStat k) F.pathStat.JAM_CAUSE = 7) ∧
        (∀ off, off ∉ R.pathOcc k :: pathViews k → t.reg off = s.reg off)) ∧
    (s.selOn (R.pathHlossSel k) = true → s.pathOn k = true → s.pathState k ≠ 2 →
      ∃ t, exec (.hostLossEvent k) s = .next t ∧ t = { s with regs := t.regs, gait := t.gait } ∧ t.pathState k = s.pathState k ∧
        t.fld (R.pathStat k) F.pathStat.FEED_HOLD = 1 ∧ (∀ off, off ∉ pathViews k → t.reg off = s.reg off))

/-- R237-R241, with no window open: a complete seam store goes to its engine as five words from GAIT; the engine's reply gives the displacement
that changes SEAM with the next line, and its residual, quality and status; without a reply in time the seam stays unverified and SEAM
as it was. EV180 + k tells the last result of a seam.
The model's own choices here: notes/assumptions/21 and 33. -/
def Obligations.SeamsAreMeasured : Prop :=
  ∀ (s : State) (g : Fin 4), s.usual → (∀ u, u < 4 → s.openWindow u = none) →
    let e := s.fld (R.seamCfg g) F.seamCfg.ENG
    let k := s.fld (R.seamCfg g) F.seamCfg.PATH
    let n := s.fld (R.pathSeam k) F.pathSeam.OVERLAP
    (0 < e → e < 96 → (s.pathSt k).seams.contains g.val = true → (s.seamSt g).handed = false → (s.seamSt g).fired = n →
      (∀ i, i < n → (s.seamSt g).shaded.contains i = true ∨ (s.seamSt g).bad.contains i = true) → (s.eng e).inbox.length + 5 ≤ 16 →
      ∃ t, ∃ w : List Word, exec (.seamHandoff g) s = .next t ∧ t = { s with regs := t.regs, gait := { s.gait with seams := t.gait.seams }, pack := t.pack } ∧
        (t.seamSt g) = { s.seamSt g with handed := true } ∧ (t.eng e).inbox = (s.eng e).inbox ++ w.map (fun x => (x, 0x14)) ∧ w.length = 5 ∧
        w.head? = some (BitVec.ofNat 32 (0x53450000 + k * 256 + g)) ∧ w[1]? = some (BitVec.ofNat 32 (0x7E000000 + g * 0x400000)) ∧
        t.fld (R.engMbx e) F.engMbx.IN_CNT = (s.eng e).inbox.length + 5 ∧ (∀ m, m ≠ e → t.eng m = s.eng m) ∧
        (∀ off, off ≠ R.engMbx e → t.reg off = s.reg off)) ∧
    (s.inboxRoom e 5 = false → exec (.seamHandoff g) s = .next s) ∧
    (∀ w : Word, (s.seamSt g).handed = true → Table.get (fun _ => none) s.gait.replies g = some w → w.toNat / 2 ^ 24 % 16 = 0 →
      let d := signed 16 w.toNat
      let ds := roundDiv d 16
      let applied := clampInt (-128) 127 (signed 8 (s.fld (R.grpSeam g) F.grpSeam.SEAM) + ds)
      ∃ t, exec (.seamResult g) s = .next t ∧ t = { s with regs := t.regs, eff := t.eff, gait := t.gait, pulses := t.pulses } ∧
        t.fld (R.grpSeam g) F.grpSeam.SEAM = unsigned 8 applied ∧ t.effReg (R.grpSeam g) = s.effReg (R.grpSeam g) ∧
        t.fld (R.seamRes g) F.seamRes.RESID = unsigned 16 (d - 16 * ds) ∧ t.fld (R.seamRes g) F.seamRes.QUAL = w.toNat / 2 ^ 16 % 256 ∧
        t.fld (R.seamRes g) F.seamRes.STATUS = 0 ∧ t.reg (R.pathSeamCnt k) = satInc (s.reg (R.pathSeamCnt k)) ∧
        (t.seamSt g).handed = false ∧ (t.pathSt k).seams = (s.pathSt k).seams.filter (fun h => h != g.val) ∧
        (∀ ev, ev ∈ t.pulses ↔ ev ∈ s.pulses ∨ (ev = 180 + k ∧ (t.pathSt k).seams = [])) ∧
        (∀ off, off ∉ [R.grpSeam g, R.seamRes g, R.seamInfo g, R.pathSeamCnt k] → t.reg off = s.reg off)) ∧
    ((s.seamSt g).handed = false → exec (.seamResult g) s = .next s) ∧
    ((s.seamSt g).handed = true →
      ∃ t, exec (.seamKernelTimeout g) s = .next t ∧ t = { s with regs := t.regs, gait := t.gait, pulses := t.pulses } ∧
        t.fld (R.seamRes g) F.seamRes.STATUS = 0x31 ∧ t.fld (R.seamInfo g) F.seamInfo.CAUSE = 5 ∧
        t.reg (R.pathSeamCnt k) = satInc (s.reg (R.pathSeamCnt k)) ∧ t.reg (R.pathUnverCnt k) = satInc (s.reg (R.pathUnverCnt k)) ∧
        (t.seamSt g).handed = false ∧ (∀ ev, ev ∈ t.pulses ↔ ev ∈ s.pulses ∨ (ev = 180 + k ∧ (t.pathSt k).seams = [])) ∧
        (∀ off, off ∉ [R.seamRes g, R.seamInfo g, R.pathSeamCnt k, R.pathUnverCnt k] → t.reg off = s.reg off))

/-! ## Auxiliary sensing (chapter 8) -/

/-- A conversion of an entry has started with a copy of the entry's words (R259). -/
def Converting (t : State) (inj : Bool) (e : Nat) : Prop :=
  ∃ c, t.aux.conv = some c ∧ c.inj = inj ∧ c.entry = e ∧ c.cfg = t.reg (auxEntryReg inj e 0) ∧ c.time = t.reg (auxEntryReg inj e 1) ∧
    c.lin = t.reg (auxEntryReg inj e 2) ∧ c.kref = t.reg (auxEntryReg inj e 3) ∧ c.since = 0 ∧
    t.fld R.auxStat F.auxStat.STATE = (if inj = true then 2 else 1) ∧ t.fld R.auxStat F.auxStat.ENTRY = e

/-- R252, R260, R268, R285: enabling a continuous sequence converts its entry 0, a triggered one waits; an entry that cannot be used leaves
EN at 0 with its cause, and cannot be written into a sequence in use; a disable ends the conversion; the self-calibration runs
while both sequences are off and ends with the measured corrections and EV206.
The model's own choices here: notes/assumptions/34. -/
def Obligations.AuxSequencesAndCalibration : Prop :=
  ∀ (s : State) (path : Path) (w : Word), s.usual →
    (s.accessible path R.auxRegCtl = true → s.auxIdle = true →
      let s1 := s.setReg R.auxRegCtl (Row.auxRegCtl.written (s.reg R.auxRegCtl) (F.auxRegCtl.EN.put w 1))
      (s1.auxSeqCause false = 0 → F.auxRegCtl.MODE.get w = 0 →
        ∃ t, exec (.auxRegEnable path w) s = .next t ∧ t = { s with regs := t.regs, eff := t.eff, aux := t.aux } ∧
          t.fld R.auxRegCtl F.auxRegCtl.EN = 1 ∧ Converting t false 0 ∧ t.aux.fresh = [] ∧
          (∀ off, off ∉ [R.auxRegCtl, R.auxStat, R.auxExcStat] → t.reg off = s.reg off)) ∧
      (s1.auxSeqCause false = 0 → F.auxRegCtl.MODE.get w = 1 →
        ∃ t, exec (.auxRegEnable path w) s = .next t ∧ t = { s with regs := t.regs, eff := t.eff, aux := { s.aux with fresh := [] } } ∧
          t.fld R.auxRegCtl F.auxRegCtl.EN = 1 ∧ t.fld R.auxRegCtl F.auxRegCtl.LEN = F.auxRegCtl.LEN.get w ∧
          (∀ off, off ≠ R.auxRegCtl → t.reg off = s.reg off)) ∧
      (s1.auxSeqCause false ≠ 0 →
        ∃ t, exec (.auxRegEnable path w) s = .next t ∧ t = { s with regs := t.regs, eff := t.eff } ∧
          t.fld R.auxRegCtl F.auxRegCtl.EN = 0 ∧ t.fld R.auxStat F.auxStat.CFG_ERR = 1 ∧
          t.fld R.auxStat F.auxStat.CFG_CAUSE = s1.auxSeqCause false ∧ (∀ off, off ∉ [R.auxRegCtl, R.auxStat] → t.reg off = s.reg off))) ∧
    (s.accessible path R.auxInjCtl = true → s.auxIdle = true →
      (s.setReg R.auxInjCtl (Row.auxInjCtl.written (s.reg R.auxInjCtl) (F.auxInjCtl.EN.put w 1))).auxSeqCause true = 0 →
      ∃ t, exec (.auxInjEnable path w) s = .next t ∧ s.sameBut t [R.auxInjCtl] ∧ t.fld R.auxInjCtl F.auxInjCtl.EN = 1 ∧
        t.fld R.auxInjCtl F.auxInjCtl.LEN = F.auxInjCtl.LEN.get w) ∧
    (s.accessible path R.auxRegCtl = true → w &&& 0x7E = s.reg R.auxRegCtl &&& 0x7E → s.auxEn false = true → s.auxState = 1 →
      ∃ t, exec (.auxRegDisable path w) s = .next t ∧ t = { s with regs := t.regs, eff := t.eff, aux := { s.aux with conv := none } } ∧
        t.fld R.auxRegCtl F.auxRegCtl.EN = 0 ∧ t.auxState = 0 ∧
        (∀ off, off ∉ [R.auxRegCtl, R.auxStat, R.auxExcStat] → t.reg off = s.reg off)) ∧
    (s.accessible path R.auxInjCtl = true → w &&& 0x0E = s.reg R.auxInjCtl &&& 0x0E → s.auxEn true = true → s.auxState ≠ 2 →
      ∃ t, exec (.auxInjDisable path w) s = .next t ∧ s.sameBut t [R.auxInjCtl, R.auxStat] ∧ t.fld R.auxInjCtl F.auxInjCtl.EN = 0 ∧
        t.fld R.auxStat F.auxStat.PEND = 0 ∧ t.auxState = s.auxState) ∧
    (∀ (inj : Bool) (e : Fin 32) (i : Fin 4), (inj = true → e.val < 8) → s.accessible path (auxEntryReg inj e i) = true →
      let off := auxEntryReg inj e i
      let s1 := s.setReg off ((auxEntryRow i).written (s.reg off) w)
      (s.auxEn inj = false → s.aux.conv = none →
        ∃ t, exec (.auxEntryWrite path inj e i w) s = .next t ∧ s.sameBut t [off] ∧ t.reg off = (auxEntryRow i).written (s.reg off) w) ∧
      (s.auxEn inj = true → e.val ≤ s.auxLen inj → s1.auxCause inj e (s1.reg (auxEntryReg inj e 0)) (s1.reg (auxEntryReg inj e 2)) ≠ 0 →
        ∃ t, exec (.auxEntryWrite path inj e i w) s = .next t ∧ s.sameBut t [R.auxStat] ∧ t.fld R.auxStat F.auxStat.CFG_ERR = 1)) ∧
    (s.accessible path R.auxCalCtl = true →
      (s.auxIdle = true →
        ∃ t, exec (.auxCalStart path w) s = .next t ∧ s.sameBut t [R.auxCalCtl, R.auxStat] ∧ t.fld R.auxCalCtl F.auxCalCtl.BUSY = 1 ∧
          t.auxState = 3) ∧
      (s.auxIdle = false →
        ∃ t, exec (.auxCalStart path w) s = .next t ∧ s.sameBut t [R.auxCalCtl, R.sysErrStat, R.sysErrAddr] ∧
          t.fld R.sysErrStat F.sysErrStat.IDLE_WR = 1 ∧ t.fld R.auxCalCtl F.auxCalCtl.BUSY = s.fld R.auxCalCtl F.auxCalCtl.BUSY)) ∧
    (∀ ofs gain : List Int, s.auxState = 3 → s.hqe.calibs = [] →
      (∀ g, g < 8 → -32768 ≤ ofs.getD g 0 ∧ ofs.getD g 0 < 32768 ∧ -32768 ≤ gain.getD g 0 ∧ gain.getD g 0 < 32768) →
      ∃ t, exec (.auxCalComplete ofs gain) s = .next t ∧ t = { s with regs := t.regs, pulses := addSorted s.pulses 206 } ∧
        (∀ g, g < 8 → t.fld (R.auxCalOfs g) F.auxCalOfs.OFS = unsigned 16 (ofs.getD g 0) ∧
          t.fld (R.auxCalGain g) F.auxCalGain.GC = unsigned 16 (gain.getD g 0)) ∧
        t.fld R.auxCalCtl F.auxCalCtl.BUSY = 0 ∧ t.fld R.auxCalCtl F.auxCalCtl.DONE = 1 ∧ t.fld R.auxCalCtl F.auxCalCtl.RESULT = 0 ∧
        t.fld R.auxCalStat F.auxCalStat.VALID = 1 ∧ t.auxState = 0 ∧
        (∀ off, off ∉ [R.auxCalCtl, R.auxCalStat, R.auxStat] → (∀ g, g < 8 → off ≠ R.auxCalOfs g ∧ off ≠ R.auxCalGain g) → t.reg off = s.reg off))

/-- R255, R263-R265, R278: a trigger starts its sequence, an injected one before a regular pass, which is remembered; a trigger too many is
skipped, kept pending or counted as overrun; faults of sources and clamps are flagged; a low reference holds the conversion.
The model's own choices here: notes/assumptions/34. -/
def Obligations.AuxTriggersAndFaults : Prop :=
  ∀ (s : State), s.usual →
    let only (t : State) : Prop := (∀ off, off ∉ [R.auxStat, R.auxExcStat] → t.reg off = s.reg off)
    (s.auxEn false = true → s.fld R.auxRegCtl F.auxRegCtl.MODE = 1 → s.selOn R.auxRegTrigSel = true → s.aux.remembered = none →
      (s.auxState = 0 →
        ∃ t, exec .auxRegularTrigger s = .next t ∧ t = { s with regs := t.regs, aux := t.aux } ∧ Converting t false 0 ∧ only t) ∧
      (s.auxState = 1 →
        ∃ t, exec .auxRegularTrigger s = .next t ∧ s.sameBut t [R.auxSkipCnt] ∧ t.reg R.auxSkipCnt = satInc (s.reg R.auxSkipCnt)) ∧
      (s.auxState = 2 →
        ∃ t, exec .auxRegularTrigger s = .next t ∧ s.sameBut t [R.auxStat] ∧ t.fld R.auxStat F.auxStat.HELD = 1 ∧ t.auxState = 2)) ∧
    (s.auxEn true = true → s.selOn R.auxInjTrigSel = true →
      (s.auxState = 0 →
        ∃ t, exec .auxInjectedTrigger s = .next t ∧ t = { s with regs := t.regs, aux := t.aux } ∧ Converting t true 0 ∧ only t) ∧
      (∀ c : Conv, s.auxState = 1 → s.aux.conv = some c →
        ∃ t, exec .auxInjectedTrigger s = .next t ∧ t = { s with regs := t.regs, aux := t.aux } ∧ Converting t true 0 ∧
          t.aux.remembered = some c.entry ∧ only t) ∧
      (s.auxState = 2 → s.fld R.auxStat F.auxStat.PEND = 0 →
        ∃ t, exec .auxInjectedTrigger s = .next t ∧ s.sameBut t [R.auxStat] ∧ t.fld R.auxStat F.auxStat.PEND = 1) ∧
      (s.auxState = 2 → s.fld R.auxStat F.auxStat.PEND = 1 →
        ∃ t, exec .auxInjectedTrigger s = .next t ∧ t = { s with regs := t.regs, pulses := addSorted s.pulses 196 } ∧
          t.reg R.auxOvrCnt = satInc (s.reg R.auxOvrCnt) ∧ t.fld R.auxStat F.auxStat.OVERRUN = 1 ∧
          (∀ off, off ∉ [R.auxStat, R.auxOvrCnt] → t.reg off = s.reg off))) ∧
    (s.aux.conv.isSome = true →
      (∃ t, exec .auxRefLow s = .next t ∧ s.sameBut t [R.auxStat] ∧ t.fld R.auxStat F.auxStat.REF_LOW = 1) ∧
      (s.fld R.auxStat F.auxStat.REF_LOW = 1 → ∀ x, exec (.auxConversionResult x) s = .next s)) ∧
    (∃ t, exec .auxRefRestored s = .next t ∧ s.sameBut t [R.auxStat] ∧ t.fld R.auxStat F.auxStat.REF_LOW = 0) ∧
    (∀ k : Fin 4,
      (s.excRuns k = true →
        ∃ t, exec (.excitationFault k true) s = .next t ∧ t = { s with regs := t.regs, aux := t.aux } ∧ (t.reg R.auxExcStat).getLsbD k = true ∧
          t.aux.excFault.testBit k = true ∧ (∀ c, t.aux.conv = some c → c.excFault.testBit k = true) ∧
          (∀ off, off ≠ R.auxExcStat → t.reg off = s.reg off)) ∧
      (∃ t, exec (.excitationFault k false) s = .next t ∧ t = { s with aux := { s.aux with excFault := t.aux.excFault } } ∧
        t.aux.excFault.testBit k = false ∧ (∀ j, j ≠ k.val → t.aux.excFault.testBit j = s.aux.excFault.testBit j))) ∧
    (∀ p : Fin 24,
      (∃ t, exec (.auxClampCurrent p true) s = .next t ∧ t = { s with regs := t.regs, aux := t.aux, pulses := addSorted s.pulses 198 } ∧
        (t.reg R.auxClampStat).getLsbD p = true ∧ t.aux.clamping.testBit p = true ∧ (∀ c, t.aux.conv = some c → c.clamps.testBit p = true) ∧
        (∀ off, off ≠ R.auxClampStat → t.reg off = s.reg off)) ∧
      (∃ t, exec (.auxClampCurrent p false) s = .next t ∧ t = { s with aux := { s.aux with clamping := t.aux.clamping } } ∧
        t.aux.clamping.testBit p = false ∧ (∀ j, j ≠ p.val → t.aux.clamping.testBit j = s.aux.clamping.testBit j)))

/-- R253, R258, R269, R270, R279: the last conversion of a triggered pass with the internal reference and a plain code delivers the rounded code
of its differential voltage to its slot, with its time and sequence number, and ends the pass with EV192 and EV193; one that
times out delivers a result that is not valid, and counts.
The model's own choices here: notes/assumptions/20, 21 and 23. -/
def Obligations.AuxResults : Prop :=
  ∀ (s : State) (c : Conv) (x : AuxInput), s.usual → s.hqe.auxWaits = [] → s.aux.conv = some c → c.inj = false → c.entry < 32 →
    c.stream = false → s.fld R.auxRegCtl F.auxRegCtl.LEN = c.entry → s.fld R.auxRegCtl F.auxRegCtl.MODE = 1 →
    let g := F.auxRegCfg.GAIN.get c.cfg
    let n := c.entry
    let code := roundDiv ((x.vp - x.vn) * (2 ^ (23 + g) : Nat)) 1250000000000
    let regs := [R.auxRegSlotValue n, R.auxRegSlotStatus n, R.auxRegSlotTsLo n, R.auxRegSlotTsHi n, R.auxStat, R.auxExcStat]
    (s.fld R.auxStat F.auxStat.REF_LOW = 0 → F.auxRegCfg.REF.get c.cfg = 0 → F.auxRegCfg.OUT.get c.cfg = 0 → F.auxRegCfg.OW_EN.get c.cfg = 0 →
      F.auxRegCfg.AINP.get c.cfg < 24 → F.auxRegCfg.AINN.get c.cfg < 24 → s.fld (R.auxCalOfs g) F.auxCalOfs.OFS = 0 →
      s.fld (R.auxCalGain g) F.auxCalGain.GC = 0 → c.clamps = 0 → s.aux.clamping = 0 → c.excFault = 0 → x.overload = false →
      -8388608 ≤ code → code ≤ 8388607 →
      ∃ t, exec (.auxConversionResult x) s = .next t ∧
        t = { s with regs := t.regs, aux := t.aux, shd := t.shd, pulses := addSorted (addSorted s.pulses 192) 193 } ∧
        t.reg (R.auxRegSlotValue n) = BitVec.ofInt 32 code ∧ t.fld (R.auxRegSlotStatus n) F.auxRegSlotStatus.VALID = 1 ∧
        t.fld (R.auxRegSlotStatus n) F.auxRegSlotStatus.FLAGS = 0 ∧ t.fld (R.auxRegSlotStatus n) F.auxRegSlotStatus.ENTRY = n ∧
        t.fld (R.auxRegSlotStatus n) F.auxRegSlotStatus.SEQ = (s.fld (R.auxRegSlotStatus n) F.auxRegSlotStatus.SEQ + 1) % 256 ∧
        t.reg64 (R.auxRegSlotTsLo n) (R.auxRegSlotTsHi n) = s.sys.time.toNat ∧ t.aux.conv = none ∧ t.auxState = 0 ∧
        (∀ off, off ∉ regs → t.reg off = s.reg off)) ∧
    (∃ t, exec (.auxConversionTimeout x) s = .next t ∧
      t = { s with regs := t.regs, aux := t.aux, shd := t.shd, freeCount := t.freeCount, pulses := t.pulses } ∧
      t.fld (R.auxRegSlotStatus n) F.auxRegSlotStatus.VALID = 0 ∧ (t.reg (R.auxRegSlotStatus n)).getLsbD 5 = true ∧
      t.reg R.auxTmoCnt = satInc (s.reg R.auxTmoCnt) ∧ t.fld R.auxStat F.auxStat.TMO = 1 ∧ t.aux.conv = none ∧
      (∀ ev, ev ∈ t.pulses ↔ ev ∈ s.pulses ∨ ev = 192 ∨ ev = 193 ∨ ev = 199) ∧
      (∀ off, off ∉ R.auxTmoCnt :: regs → t.reg off = s.reg off))

/-- R287-R292: a waveform channel arms, or refuses with CFG_ERR; a start begins a capture at MARK; each raw sample is the rounded, clipped
code of its voltage; each output sample of a timed capture goes to the ring at WR, in memory and nowhere else; a stop ends the
capture with its events, a disable the channel.
The model's own choices here: notes/assumptions/35. -/
def Obligations.WaveformChannels : Prop :=
  ∀ (s : State) (c : Fin 2), s.usual →
    (∀ path w, s.accessible path (R.wfCfg c) = true →
      (let s1 := s.setReg (R.wfCfg c) (Row.wfCfg.written (s.reg (R.wfCfg c)) (F.wfCfg.EN.put w 1))
       s.fld (R.wfCfg c) F.wfCfg.EN = 0 →
        (s1.wfRefused c = false →
          ∃ t, exec (.wfEnable path c w) s = .next t ∧ t = { s with regs := t.regs, eff := t.eff, wfs := t.wfs } ∧
            t.fld (R.wfCfg c) F.wfCfg.EN = 1 ∧ t.wfState c = 1 ∧ t.reg (R.wfWr c) = 0 ∧ t.wf c = {} ∧
            (∀ off, off ∉ [R.wfCfg c, R.wfWr c, R.wfStat c] → t.reg off = s.reg off)) ∧
        (s1.wfRefused c = true →
          ∃ t, exec (.wfEnable path c w) s = .next t ∧ s.sameBut t [R.wfCfg c, R.wfStat c] ∧ t.fld (R.wfCfg c) F.wfCfg.EN = 0 ∧
            t.fld (R.wfStat c) F.wfStat.CFG_ERR = 1)) ∧
      (w &&& 0xFFFF01FE = s.reg (R.wfCfg c) &&& 0xFFFF01FE → s.fld (R.wfCfg c) F.wfCfg.EN = 1 → s.wfState c ≠ 2 →
        ∃ t, exec (.wfDisable path c w) s = .next t ∧ s.sameBut t [R.wfCfg c, R.wfStat c] ∧ t.fld (R.wfCfg c) F.wfCfg.EN = 0 ∧ t.wfState c = 0)) ∧
    (s.wfState c = 1 → s.selOn (R.wfStartSel c) = true → s.fld (R.wfCfg c) F.wfCfg.MODE = 0 →
      ∃ t, exec (.wfCaptureStart c) s = .next t ∧ t = { s with regs := t.regs, wfs := t.wfs } ∧ t.wfState c = 2 ∧
        t.reg (R.wfMark c) = s.reg (R.wfWr c) ∧ (t.wf c).raws = [] ∧ (t.wf c).j = 0 ∧ t.fld (R.wfStat c) F.wfStat.REV = 0 ∧
        (∀ off, off ∉ [R.wfMark c, R.wfStat c] → t.reg off = s.reg off)) ∧
    (s.wfState c = 2 → s.selOn (R.wfStopSel c) = true →
      ∃ t, exec (.wfCaptureStop c) s = .next t ∧
        t = { s with regs := t.regs, wfs := t.wfs, pulses := addSorted (addSorted s.pulses (204 + c)) (200 + c) } ∧ t.wfState c = 1 ∧
        t.reg (R.wfCaps c) = satInc (s.reg (R.wfCaps c)) ∧ (∀ off, off ∉ [R.wfCaps c, R.wfStat c] → t.reg off = s.reg off)) ∧
    (s.wfState c ≠ 2 → (∀ vd p, exec (.wfRawSample c vd p) s = .next s) ∧ exec (.wfOutputSample c) s = .next s) ∧
    (s.wfState c = 2 → s.fld (R.wfCfg c) F.wfCfg.MODE = 0 →
      (∀ vd p : Int, s.fld (R.wfCfg c) F.wfCfg.GAIN = 0 →
        let code := roundDiv (vd * 2048) 500000000000
        ∃ t, exec (.wfRawSample c vd p) s = .next t ∧ t = { s with regs := t.regs, wfs := t.wfs } ∧
          (t.wf c).raws = (s.wf c).raws ++ [(p, max (-2048) (min 2047 code))] ∧
          (code ≤ -2048 ∨ 2047 ≤ code → t.fld (R.wfStat c) F.wfStat.CLIP = 1) ∧
          (-2048 < code → code < 2047 → t.regs = s.regs) ∧ (∀ off, off ≠ R.wfStat c → t.reg off = s.reg off)) ∧
      (∀ (p v : Int) (rest : List (Int × Int)), (s.wf c).raws = (p, v) :: rest → s.sys.bitErrs = [] → s.sys.poison = [] →
        (s.reg (R.wfWr c) - s.reg (R.wfRd c)).toNat ≠ s.wfRing c → 0 < s.wfRing c →
        let a := s.wfBase c + 2 * ((s.reg (R.wfWr c)).toNat % s.wfRing c)
        s.memOk a = true → s.reg (R.wfMax c) = 0 →
        ∃ t, exec (.wfOutputSample c) s = .next t ∧ t = { s with regs := t.regs, mem := t.mem, wfs := t.wfs, pulses := t.pulses } ∧
          t.bytes a 2 = bytesLE 2 (unsigned 16 v) ∧ (∀ b, b < a ∨ a + 2 ≤ b → t.byte b = s.byte b) ∧
          t.reg (R.wfWr c) = s.reg (R.wfWr c) + 1 ∧ (t.wf c).raws = rest ∧ (t.wf c).j = (s.wf c).j + 1 ∧
          (∀ off, off ≠ R.wfWr c → t.reg off = s.reg off)))

/-! ## Tandem code (chapter 9) -/

/-- R317-R319: a free lane takes the context whose pending work is the oldest, counts the switch, and the miss with EV125 where the record
lay in the page store; a context with nothing more to do is released with EV104 + n.
The model's own choices here: notes/assumptions/36. -/
def Obligations.LanesTakeContexts : Prop :=
  ∀ (s : State) (n : Fin 16), s.usual →
    (∀ sc, s.laneFree n = true → s.nextStream = some sc → sc < 4096 →
      let dir := if (s.stream sc).state = 2 then 1 else 0
      (∃ t, exec (.laneBind n false) s = .next t ∧ s.sameBut t [R.tcxLane n, R.tcxStat, R.tcxSwitchCnt] ∧
        t.fld (R.tcxLane n) F.tcxLane.SC = sc ∧ t.fld (R.tcxLane n) F.tcxLane.ACT = 1 ∧ t.fld (R.tcxLane n) F.tcxLane.DIR = dir ∧
        t.fld (R.tcxLane n) F.tcxLane.GROUPS = 0 ∧ (t.reg R.tcxStat).getLsbD n = true ∧ t.reg R.tcxSwitchCnt = satInc (s.reg R.tcxSwitchCnt)) ∧
      (∃ t, exec (.laneBind n true) s = .next t ∧ t = { s with regs := t.regs, pulses := addSorted s.pulses 125 } ∧
        t.fld (R.tcxLane n) F.tcxLane.SC = sc ∧ t.fld (R.tcxLane n) F.tcxLane.ACT = 1 ∧
        t.reg R.tcxMissCnt = satInc (s.reg R.tcxMissCnt) ∧
        (∀ off, off ∉ [R.tcxLane n, R.tcxStat, R.tcxSwitchCnt, R.tcxMissCnt] → t.reg off = s.reg off))) ∧
    (∀ spilled, s.laneFree n = false ∨ s.nextStream = none → exec (.laneBind n spilled) s = .next s) ∧
    (s.fld (R.tcxLane n) F.tcxLane.ACT = 1 → s.eligible (s.fld (R.tcxLane n) F.tcxLane.SC) = false →
      ∃ t, exec (.laneRelease n) s = .next t ∧ t = { s with regs := t.regs, pulses := addSorted s.pulses (104 + n) } ∧
        t.fld (R.tcxLane n) F.tcxLane.ACT = 0 ∧ (t.reg R.tcxStat).getLsbD n = false ∧
        (∀ off, off ∉ [R.tcxLane n, R.tcxStat] → t.reg off = s.reg off))

/-- R295, R301, R311: a lane codes the oldest complete line group of its context: the count of line groups, the lines since the last restart
and the CRC, in the modes without loss that of the values coded, go on; a lane that decodes eight-bit raw samples takes one group from
its input and its CRC is that of the samples.
The model's own choices here: notes/assumptions/36 and 37. -/
def Obligations.LineGroupsAreCoded : Prop :=
  ∀ (s : State) (n : Fin 16), s.usual →
    let sc := s.fld (R.tcxLane n) F.tcxLane.SC
    let c := s.stream sc
    s.fld (R.tcxLane n) F.tcxLane.ACT = 1 → c.opened = true → c.saves = [] → c.finished = false → c.hdr = true → c.rstInt = 0 →
    c.rstDoc = false → c.trkEn = false → c.ends = [] → c.inshift = 0 → c.npl = 1 → c.slots = [0] → c.mode ≤ 1 → c.near = 0 →
    (∀ row rest, s.fld (R.tcxLane n) F.tcxLane.DIR = 0 → c.state = 1 → c.closing = none → c.ready ≠ [] →
      Table.get (fun _ => []) c.rows 0 = row :: rest → row.bad = [] → row.vals.length = c.width → (∀ v ∈ row.vals, v < 2 ^ c.depth) →
      ∃ t, exec (.lineGroupEncode n) s = .next t ∧ (t.stream sc).lines = c.lines + 1 ∧ (t.stream sc).sinceRst = c.sinceRst + 1 ∧
        (t.stream sc).lastY = some row.y ∧
        (t.stream sc).crc = (row.vals.flatMap (fun v => bytesLE 2 v)).foldl crc32cByte c.crc ∧
        t.fld (R.tcxLane n) F.tcxLane.GROUPS = min F.tcxLane.GROUPS.max (s.fld (R.tcxLane n) F.tcxLane.GROUPS + 1) ∧
        (∀ k, k < 16 → k ≠ n.val → t.reg (R.tcxLane k) = s.reg (R.tcxLane k))) ∧
    (∀ bs : List Byte, s.fld (R.tcxLane n) F.tcxLane.DIR = 1 → c.state = 2 → c.mode = 0 → c.depth = 8 → c.pendN = 0 → c.pend = 0 →
      c.ffPend = false → c.reads = [] → c.input = bs.map some → bs.length = c.width → 0 < c.width → (∀ b ∈ bs, b ≠ 0xFF) →
      ∃ t, exec (.lineGroupDecode n [] none) s = .next t ∧ (t.stream sc).lines = c.lines + 1 ∧ (t.stream sc).sinceRst = c.sinceRst + 1 ∧
        (t.stream sc).input = [] ∧ (t.stream sc).bytes = c.bytes + c.width ∧
        (t.stream sc).crc = ((bs.map (fun b => b.toNat)).flatMap (fun v => bytesLE 2 v)).foldl crc32cByte c.crc ∧
        t.fld (R.tcxLane n) F.tcxLane.GROUPS = min F.tcxLane.GROUPS.max (s.fld (R.tcxLane n) F.tcxLane.GROUPS + 1))

/-- R295, R304, R308, R310: whatever its parameters within Table 9-1, and whatever its statistics and the rows above, the rows that the coder
reconstructs have the width of the rows it codes, and each value differs from the value coded by at most NEAR: in modes 0 and 1, where
NEAR is 0, the code loses nothing. -/
def Obligations.TandemStaysWithinNear : Prop :=
  ∀ (t : Stream) (xs above : List (List Nat)), t.paramsOk false = true →
    (∀ row ∈ xs, ∀ v ∈ row, v ≤ t.maxval) → (∀ row ∈ above, ∀ v ∈ row, v ≤ t.maxval) →
    let rows := (t.encodeGroup xs above).2.2.1
    rows.length = t.npl ∧
    ∀ j, j < t.npl → (rows.getD j []).length = (xs.getD j []).length ∧
      ∀ i, i < (xs.getD j []).length →
        ((((rows.getD j []).getD i 0 : Nat) : Int) - (((xs.getD j []).getD i 0 : Nat) : Int)).natAbs ≤ t.near ∧
        (rows.getD j []).getD i 0 ≤ t.maxval


/-! ## Pack engines (chapter 10) -/

/-- Engine n holds no window slot, no message slot and no record (R325). -/
abbrev HoldsNothing (s : State) (n : Nat) : Prop :=
  (∀ i, ∀ l ∈ (s.inWin i).ring, l.taken = some n → l.released = true) ∧
  (∀ j, ∀ l ∈ (s.outWin j).queue, ¬(l.eng = n ∧ l.st = .allocated)) ∧ (∀ k, n ∉ (s.record k).holds)

/-- What a fault of engine n at address pc does, where the engine holds nothing (R327): FAULT with its cause and address, the engine's bit
of PACK.FAULTm, and the asynchronous event; memory, the other engines and everything else stay. E0's services end with E0. -/
def EngineFaults (s t : State) (n pc cause : Nat) (addr : Option Nat) : Prop :=
  t = { s with regs := t.regs, sec := t.sec, asyncQ := t.asyncQ,
               pack := { s.pack with engines := t.pack.engines, outs := t.pack.outs } } ∧
  (n ≠ 0 → t.sec = s.sec) ∧ (∀ j, t.outWin j = s.outWin j) ∧ (∀ m, m ≠ n → t.eng m = s.eng m) ∧
  t.eng n = { s.eng n with step := false, far := [] } ∧ t.engState n = 4 ∧ t.engPc n = s.engPc n ∧
  t.reg (R.engFault n) = BitVec.ofNat 32 (cause + pc * 2 ^ 16) ∧ (t.reg (R.packFault (n / 32))).getLsbD (n % 32) = true ∧
  (∀ a, addr = some a → t.reg64 (R.engFaddrLo n) (R.engFaddrHi n) = a) ∧
  (addr = none → t.reg (R.engFaddrLo n) = s.reg (R.engFaddrLo n) ∧ t.reg (R.engFaddrHi n) = s.reg (R.engFaddrHi n)) ∧
  (s.asyncQ.length < 64 →
    t.reg R.hqeStat = s.reg R.hqeStat ∧ t.asyncQ = s.asyncQ ++ [⟨1, n + cause * 2 ^ 16, cause + pc * 2 ^ 16⟩]) ∧
  (64 ≤ s.asyncQ.length → t.fld R.hqeStat F.hqeStat.EVQ_OVF = 1 ∧ t.asyncQ = s.asyncQ) ∧
  (∀ off, off ∉ [R.engStat n, R.engFault n, R.engFaddrLo n, R.engFaddrHi n, R.packFault (n / 32), R.hqeStat] → t.reg off = s.reg off)

/-- R323-R325, R327, R330, R341, R361: START, STEP and HALT do what Table 10-2 says from each state and otherwise set CMD_IGN; START clears the
registers; HALT releases the input slots the engine holds; a far access that is not answered faults; engine 0 is commanded
from the halter port only.
The model's own choices here: notes/assumptions/38. -/
def Obligations.EnginesStartHaltAndFault : Prop :=
  ∀ (s : State) (n : Fin 96) (path : Path) (w : Word), s.usual →
    let st := R.engStat n
    let ignored (i : Instr) : Prop := ∃ t, exec i s = .next t ∧ s.sameBut t [st] ∧ t.fld st F.engStat.CMD_IGN = 1 ∧
      t.engState n = s.engState n ∧ t.engPc n = s.engPc n
    (s.accessible path (R.engCtl n) = true →
      (n.val = 0 → path ≠ .smbus → path ≠ .usb2 → ∀ i ∈ [Instr.engineStart path n w, .engineHalt path n w, .engineStep path n w],
        ∃ t, exec i s = .next t ∧ s.sameBut t [R.sysErrStat, R.sysErrAddr] ∧ t.fld R.sysErrStat F.sysErrStat.ACC = 1) ∧
      (n.val ≠ 0 ∨ path = .smbus ∨ path = .usb2 →
        (s.engState n = 1 → s.fld st F.engStat.IMG = 1 →
          (n.val ≠ 0 ∨ (s.eng 0).inbox = [] →
            ∃ t, exec (.engineStart path n w) s = .next t ∧
              t = { s with regs := t.regs, sec := t.sec, pack := { s.pack with engines := t.pack.engines } } ∧ (n.val ≠ 0 → t.sec = s.sec) ∧
              t.engState n = 2 ∧ t.engPc n = s.fld (R.engStart n) F.engStart.PC ∧ t.reg (R.engEccnt n) = 0 ∧
              t.eng n = { inbox := (s.eng n).inbox, outbox := (s.eng n).outbox, started := s.sys.time.toNat } ∧
              (∀ m, m ≠ n.val → t.eng m = s.eng m) ∧ (∀ off, off ∉ [st, R.engEccnt n] → t.reg off = s.reg off)) ∧
          (∃ t, exec (.engineStep path n w) s = .next t ∧
            t = { s with regs := t.regs, pack := { s.pack with engines := t.pack.engines } } ∧ t.engState n = 2 ∧
            t.engPc n = s.engPc n ∧ t.eng n = { s.eng n with step := true } ∧ (∀ m, m ≠ n.val → t.eng m = s.eng m) ∧
            (∀ off, off ≠ st → t.reg off = s.reg off)) ∧
          ignored (.engineHalt path n w)) ∧
        (s.engState n ≠ 1 ∨ s.fld st F.engStat.IMG = 0 → ignored (.engineStart path n w) ∧ ignored (.engineStep path n w)) ∧
        (s.engState n = 4 → ∃ t, exec (.engineHalt path n w) s = .next t ∧ s.sameBut t [st] ∧ t.engState n = 1 ∧ t.engPc n = s.engPc n) ∧
        (n.val ≠ 0 → s.engState n = 2 ∨ s.engState n = 3 → (∀ k, n.val ∉ (s.record k).holds) →
          let gone (l : InLine) : InLine := if l.taken = some n.val then { l with released := true } else l
          let mine (i : Nat) : Bool := (s.inWin i).ring.any (fun l => l.taken == some n.val && !l.released)
          ∃ t, exec (.engineHalt path n w) s = .next t ∧ t = { s with regs := t.regs, pack := t.pack } ∧ t.engState n = 1 ∧
            t.engPc n = s.engPc n ∧ t.fld st F.engStat.WAIT = 0 ∧
            t.eng n = { s.eng n with step := false, far := (s.eng n).far.filter (fun f => !f.load) } ∧
            (∀ i, i < 32 → mine i = true → (t.inWin i).ring = ((s.inWin i).ring.map gone).dropWhile (fun l => l.released) ∧
              t.reg (R.iwRd i) = s.reg (R.iwRd i) + BitVec.ofNat 32 ((s.inWin i).ring.length - (t.inWin i).ring.length)) ∧
            (∀ i, i < 32 → mine i = false → (t.inWin i).ring = (s.inWin i).ring ∧ t.reg (R.iwRd i) = s.reg (R.iwRd i)) ∧
            (∀ j, j < 32 → s.owMsg j = true →
              (t.outWin j).queue = (s.outWin j).queue.filter (fun l => !(l.eng == n.val && l.st == .allocated)))))) ∧
    (HoldsNothing s n → ∀ f rest, (s.eng n).far = f :: rest → s.fab.waiting = [] → s.fab.remotes = [] →
      ∃ t, exec (.farAccessTimeout n) s = .next t ∧ EngineFaults s t n (if f.load then s.engPc n else f.reg) 4 (some (f.addr % 2 ^ 64))) ∧
    ((s.eng n).far = [] → exec (.farAccessTimeout n) s = .next s)

/-- Engine n runs, holds no loop and no single step, and finds the instruction w at its PC, in memory without an error (R323, R345). -/
abbrev Issues (s : State) (n : Nat) (w : Word) : Prop :=
  s.usual ∧ s.engState n = 2 ∧ s.word (engineInstr n + 4 * s.engPc n) = w ∧ s.engPc n < 4095 ∧ (s.eng n).loop = none ∧
  (s.eng n).step = false ∧ s.sys.bitErrs = [] ∧ s.sys.poison = []

/-- Engine n's registers have become e, its PC pc, and it runs on; nothing else has changed (R323). -/
def EngineMoves (s t : State) (n : Nat) (e : Engine) (pc : Nat) : Prop :=
  t = { s with regs := t.regs, pack := { s.pack with engines := t.pack.engines } } ∧ t.eng n = e ∧ (∀ m, m ≠ n → t.eng m = s.eng m) ∧
  t.engState n = 2 ∧ t.engPc n = pc ∧ t.fld (R.engStat n) F.engStat.WAIT = 0 ∧
  (∀ f ∈ [F.engStat.IMG, F.engStat.KIND, F.engStat.KEY, F.engStat.CMD_IGN, F.engStat.IN_OVF, F.engStat.EC_OVF],
    t.fld (R.engStat n) f = s.fld (R.engStat n) f) ∧ (∀ off, off ≠ R.engStat n → t.reg off = s.reg off)

/-- Scalar register r takes a value and its poison, but s0, and nothing else of the engine changes (R341, R347). -/
def ScalarTakes (e e' : Engine) (r : Nat) (v : Word) (bad : Bool) : Prop :=
  e' = { e with s := e'.s, badS := e'.badS } ∧
  ∀ k, e'.sr k = (if k = r ∧ k ≠ 0 then v else e.sr k) ∧ e'.pS k = (if k = r ∧ k ≠ 0 then bad else e.pS k)

/-- The command completes, and engine n goes on with scalar register r changed. -/
def ScalarResult (i : Instr) (s : State) (n r : Nat) (v : Word) (bad : Bool) : Prop :=
  ∃ t e, exec i s = .next t ∧ EngineMoves s t n e (s.engPc n + 1) ∧ ScalarTakes (s.eng n) e r v bad

/-- R341-R343, R347, Tables 10-8 and 10-11: what the scalar instructions and those that move special registers write, for every operand; s0
discards what is written to it, poison goes from the sources to the destination, and a reserved function or field faults with
ILLEGAL.
The model's own choices here: notes/assumptions/38. -/
def Obligations.ScalarInstructions : Prop :=
  ∀ (s : State) (n : Fin 96) (w : Word), Issues s n w →
    let e := s.eng n
    let op := opcodeOf w
    let rd := fRd w
    let a := e.sr (fRa w)
    let b := e.sr (fRb w)
    let badA := e.pS (fRa w)
    let imm := bitsOf w.toNat 0 16
    let sx := BitVec.ofInt 32 (signed 16 imm)
    let zx := BitVec.ofNat 32 imm
    let sh := b.toNat % 32
    let illegal (i : Instr) : Prop := ∃ t, exec i s = .next t ∧ EngineFaults s t n (s.engPc n) 1 none
    (op = 0x01 → bitsOf w.toNat 6 5 = 0 →
      ∀ p ∈ [(0x00, a + b), (0x01, a - b), (0x02, a &&& b), (0x03, a ||| b), (0x04, a ^^^ b), (0x05, a <<< sh), (0x06, a >>> sh),
        (0x07, a.sshiftRight sh), (0x08, if a.toInt < b.toInt then 1 else 0), (0x09, if a.toNat < b.toNat then 1 else 0),
        (0x0A, BitVec.ofInt 32 (min a.toInt b.toInt)), (0x0B, BitVec.ofInt 32 (max a.toInt b.toInt)),
        (0x0C, BitVec.ofNat 32 (min a.toNat b.toNat)), (0x0D, BitVec.ofNat 32 (max a.toNat b.toNat)),
        (0x10, BitVec.ofNat 32 (a.toNat * b.toNat)), (0x11, BitVec.ofInt 32 (a.toInt * b.toInt / 2 ^ 32)),
        (0x12, BitVec.ofNat 32 (a.toNat * b.toNat / 2 ^ 32))],
      bitsOf w.toNat 0 6 = p.1 → ScalarResult (.engineAlu n) s n rd p.2 (badA || e.pS (fRb w))) ∧
    (op = 0x01 → HoldsNothing s n →
      (bitsOf w.toNat 6 5 ≠ 0 ∨ bitsOf w.toNat 0 6 = 0x0E ∨ bitsOf w.toNat 0 6 = 0x0F ∨ 0x12 < bitsOf w.toNat 0 6) → illegal (.engineAlu n)) ∧
    (op = 0x02 → ScalarResult (.addi n) s n rd (a + sx) badA) ∧
    (op = 0x03 → ScalarResult (.engineLogicImm n) s n rd (a &&& zx) badA) ∧
    (op = 0x04 → ScalarResult (.engineLogicImm n) s n rd (a ||| zx) badA) ∧
    (op = 0x05 → ScalarResult (.engineLogicImm n) s n rd (a ^^^ zx) badA) ∧
    (op = 0x06 → fRa w = 0 → ScalarResult (.lui n) s n rd (BitVec.ofNat 32 (imm * 2 ^ 16)) (e.pS 0)) ∧
    (op = 0x06 → fRa w ≠ 0 → HoldsNothing s n → illegal (.lui n)) ∧
    (op = 0x07 → ScalarResult (.slti n) s n rd (if a.toInt < signed 16 imm then 1 else 0) badA) ∧
    (imm < 32 → (op = 0x08 → ScalarResult (.engineShiftImm n) s n rd (a <<< imm) badA) ∧
      (op = 0x09 → ScalarResult (.engineShiftImm n) s n rd (a >>> imm) badA) ∧
      (op = 0x0A → ScalarResult (.engineShiftImm n) s n rd (a.sshiftRight imm) badA)) ∧
    (32 ≤ imm → HoldsNothing s n → op = 0x08 ∨ op = 0x09 ∨ op = 0x0A → illegal (.engineShiftImm n)) ∧
    (op = 0x28 → rd = 0 → imm = 0 → badA = false →
      ∃ t, exec (.mtx n) s = .next t ∧ EngineMoves s t n { e with xhi := a.toNat % 256 } (s.engPc n + 1)) ∧
    (op = 0x28 → rd = 0 → 1 ≤ imm → imm ≤ 8 → ∃ t, exec (.mtx n) s = .next t ∧ EngineMoves s t n e (s.engPc n + 1)) ∧
    (op = 0x29 → fRa w = 0 →
      (∀ p ∈ [(0, e.xhi), (1, 0), (2, n.val), (4, e.cycHi.toNat), (6, e.timeHi.toNat), (7, e.result), (8, e.msrc)],
        imm = p.1 → ScalarResult (.mfx n) s n rd (BitVec.ofNat 32 p.2) false) ∧
      (imm = 5 → ∃ t e', exec (.mfx n) s = .next t ∧ EngineMoves s t n e' (s.engPc n + 1) ∧
        ScalarTakes { e with timeHi := BitVec.ofNat 32 (s.sys.time.toNat / 2 ^ 32) } e' rd (BitVec.ofNat 32 s.sys.time.toNat) false) ∧
      (imm = 3 → ∃ t e' cyc, exec (.mfx n) s = .next t ∧ EngineMoves s t n e' (s.engPc n + 1) ∧
        cyc = (s.sys.time.toNat - e.started) * 3 / 4 ∧
        ScalarTakes { e with cycHi := BitVec.ofNat 32 (cyc / 2 ^ 32) } e' rd (BitVec.ofNat 32 cyc) false)) ∧
    (HoldsNothing s n → (op = 0x28 ∧ (rd ≠ 0 ∨ 8 < imm) → illegal (.mtx n)) ∧ (op = 0x29 ∧ (fRa w ≠ 0 ∨ 8 < imm) → illegal (.mfx n)))

/-- R328, R330, R331, R347, Tables 10-3 and 10-4: loads and stores at every address of data and team memory, and at no other; far loads and stores
of this node's memory, and of another node's, which are asked for; alignment, address and bus faults.
The model's own choices here: notes/assumptions/8 and 39. -/
def Obligations.EngineMemoryInstructions : Prop :=
  ∀ (s : State) (n : Fin 96) (w : Word), Issues s n w →
    let e := s.eng n
    let op := opcodeOf w
    let rd := fRd w
    let imm := signed 16 (bitsOf w.toNat 0 16)
    let a := (e.sr (fRa w) + BitVec.ofInt 32 imm).toNat
    let k := if op = 0x10 ∨ op = 0x13 then 4 else if op = 0x11 ∨ op = 0x14 then 2 else 1
    let load := op = 0x10 ∨ op = 0x11 ∨ op = 0x12
    let store := op = 0x13 ∨ op = 0x14 ∨ op = 0x15
    let far := (((e.xhi * 2 ^ 32 + (e.sr (fRa w)).toNat : Nat) : Int) + imm).emod (2 ^ 40) |>.toNat
    let stored (i : Instr) (p len : Nat) : Prop := ∃ t, exec i s = .next t ∧
      t = { s with regs := t.regs, mem := t.mem, pack := { s.pack with engines := t.pack.engines } } ∧ EngineMoves { s with mem := t.mem } t n e (s.engPc n + 1) ∧
      t.bytes p len = bytesLE len (e.sr rd).toNat ∧ (∀ x, x < p ∨ p + len ≤ x → t.byte x = s.byte x)
    e.pS (fRa w) = false →
    (∀ p, a % k = 0 → (a + k ≤ 0x10000 ∧ p = engineData n + a) ∨
        (0x100000 ≤ a ∧ a + k ≤ 0x180000 ∧ p = teamBase (n / 8) + (a - 0x100000)) →
      (load → ScalarResult (.engineLoad n) s n rd (BitVec.ofNat 32 (natLE (s.bytes p k))) false) ∧
      (store → e.pS rd = false → stored (.engineStore n) p k) ∧
      (store → e.pS rd = true → ∃ t, exec (.engineStore n) s = .next t ∧ t.poisoned p = true ∧ t.bytes p k = bytesLE k (e.sr rd).toNat ∧
        (∀ x, x < p ∨ p + k ≤ x → t.byte x = s.byte x))) ∧
    (HoldsNothing s n → ∀ i ∈ [Instr.engineLoad n, .engineStore n], (i = .engineLoad n → load) → (i = .engineStore n → store) →
      (a % k ≠ 0 → ∃ t, exec i s = .next t ∧ EngineFaults s t n (s.engPc n) 2 (some a)) ∧
      (a % k = 0 → 0x10000 < a + k → a < 0x100000 ∨ 0x180000 < a + k →
        ∃ t, exec i s = .next t ∧ EngineFaults s t n (s.engPc n) 3 (some a))) ∧
    (op = 0x16 →
      (∀ m, s.target far 4 = .memory m → ScalarResult (.fld n) s n rd (BitVec.ofNat 32 (natLE (s.bytes m 4))) false) ∧
      (∀ node off, s.target far 4 = .remote node off →
        ∃ t, exec (.fld n) s = .next t ∧
          t = { s with regs := t.regs, fab := t.fab, pack := { s.pack with engines := t.pack.engines } } ∧ t.engState n = 3 ∧
          t.fld (R.engStat n) F.engStat.WAIT = 7 ∧ t.engPc n = s.engPc n ∧ t.eng n = { e with far := e.far ++ [⟨far, true, rd⟩] } ∧
          t.fab = { s.fab with waiting := s.fab.waiting ++ [{ who := .engine n, node := node, off := off, len := 4, write := false }] } ∧
          (∀ x, x ≠ R.engStat n → t.reg x = s.reg x)) ∧
      (∀ m : Fin 96, s.target far 4 = .mirror (R.engVer m) →
        ∃ t e', exec (.fld n) s = .next t ∧ EngineMoves { s with rdata := t.rdata } t n e' (s.engPc n + 1) ∧
          ScalarTakes e e' rd (s.reg (R.engVer m)) false ∧ t.rdata = s.reg (R.engVer m)) ∧
      (s.target far 4 = .none → HoldsNothing s n → ∃ t, exec (.fld n) s = .next t ∧ EngineFaults s t n (s.engPc n) 4 (some far))) ∧
    (op = 0x17 → e.pS rd = false →
      (∀ m, s.target far 4 = .memory m → stored (.fst n) m 4) ∧
      (∀ node off, s.target far 4 = .remote node off →
        ∃ t, exec (.fst n) s = .next t ∧
          EngineMoves { s with fab := t.fab } t n { e with far := e.far ++ [⟨far, false, s.engPc n⟩] } (s.engPc n + 1) ∧
          t.fab = { s.fab with waiting := s.fab.waiting ++ [{ who := .engine n, node := node, off := off, len := 4, write := true, data := (bytesLE 4 (e.sr rd).toNat).map (fun b => (b, false)) }] }) ∧
      (∀ m : Fin 96, s.target far 4 = .mirror (R.engInbox m) → m.val ≠ 0 → m.val ≠ n.val → (s.eng m).inbox.length < 16 →
        ∃ t, exec (.fst n) s = .next t ∧ t = { s with regs := t.regs, pack := { s.pack with engines := t.pack.engines } } ∧
          (t.eng m).inbox = (s.eng m).inbox ++ [(e.sr rd, 0x40 + n.val)] ∧ t.eng n = e ∧ t.engState n = 2 ∧ t.engPc n = s.engPc n + 1 ∧
          (∀ x, x ∉ [R.engStat n, R.engMbx m] → t.reg x = s.reg x)) ∧
      (s.target far 4 = .none → HoldsNothing s n → ∃ t, exec (.fst n) s = .next t ∧ EngineFaults s t n (s.engPc n) 4 (some far)))

/-- R323, R325, R342, R345, R347, Tables 10-8 and 10-12: where branches, jumps and loops go, what NOP and HALT do, and that an address above 4,095,
a loop that may not be and a poisoned operand fault.
The model's own choices here: notes/assumptions/38. -/
def Obligations.EngineFlowInstructions : Prop :=
  ∀ (s : State) (n : Fin 96) (w : Word), Issues s n w →
    let e := s.eng n
    let op := opcodeOf w
    let pc := s.engPc n
    let a := e.sr (fRd w)
    let b := e.sr (fRa w)
    let imm := bitsOf w.toNat 0 16
    let goes (i : Instr) (e' : Engine) (dst : Nat) : Prop := ∃ t, exec i s = .next t ∧ EngineMoves s t n e' dst
    let faults (i : Instr) (cause : Nat) : Prop := ∃ t, exec i s = .next t ∧ EngineFaults s t n pc cause none
    (∀ p ∈ [(0x18, decide (a = b)), (0x19, decide (a ≠ b)), (0x1A, decide (a.toInt < b.toInt)), (0x1B, decide (b.toInt ≤ a.toInt)),
        (0x1C, decide (a.toNat < b.toNat)), (0x1D, decide (b.toNat ≤ a.toNat))],
      op = p.1 → e.pS (fRd w) = false → e.pS (fRa w) = false →
        (p.2 = false → goes (.engineBranch n) e (pc + 1)) ∧
        (∀ dst : Nat, p.2 = true → (dst : Int) = (pc : Int) + 1 + signed 16 imm → dst ≤ 4095 → goes (.engineBranch n) e dst) ∧
        (HoldsNothing s n → p.2 = true → (pc : Int) + 1 + signed 16 imm < 0 ∨ 4095 < (pc : Int) + 1 + signed 16 imm →
          faults (.engineBranch n) 6)) ∧
    (HoldsNothing s n → 0x18 ≤ op → op ≤ 0x1D → e.pS (fRd w) = true ∨ e.pS (fRa w) = true → faults (.engineBranch n) 5) ∧
    (op = 0x1E → bitsOf w.toNat 12 14 = 0 → goes (.j n) e (bitsOf w.toNat 0 12)) ∧
    (op = 0x1F → bitsOf w.toNat 12 9 = 0 →
      ∃ t e', exec (.jal n) s = .next t ∧ EngineMoves s t n e' (bitsOf w.toNat 0 12) ∧ ScalarTakes e e' (fRd w) (BitVec.ofNat 32 (pc + 1)) false) ∧
    (op = 0x20 → fRd w = 0 → imm = 0 →
      (e.pS (fRa w) = false → b.toNat ≤ 4095 → goes (.jr n) e b.toNat) ∧
      (HoldsNothing s n → e.pS (fRa w) = false → 4095 < b.toNat → faults (.jr n) 6) ∧
      (HoldsNothing s n → e.pS (fRa w) = true → faults (.jr n) 5)) ∧
    (op = 0x21 → fRd w = 0 → bitsOf w.toNat 12 4 = 0 →
      let last := bitsOf w.toNat 0 12
      let x := s.word (engineInstr n + 4 * last)
      let body := ¬((0x18 ≤ opcodeOf x ∧ opcodeOf x ≤ 0x21) ∨ (opcodeOf x = 0 ∧ fFn x = 1))
      (pc < last → body → e.pS (fRa w) = false → b ≠ 0 → goes (.engineLoop n) { e with loop := some (pc + 1, last, b.toNat) } (pc + 1)) ∧
      (pc < last → body → e.pS (fRa w) = false → b = 0 → last < 4095 → goes (.engineLoop n) e (last + 1)) ∧
      (HoldsNothing s n → last ≤ pc ∨ ¬body → faults (.engineLoop n) 1)) ∧
    (op = 0x00 → bitsOf w.toNat 0 20 = 0 →
      (fFn w = 0x00 → goes (.engineNop n) e (pc + 1)) ∧
      (fFn w = 0x01 → HoldsNothing s n → n.val ≠ 0 →
        ∃ t, exec (.haltInstruction n) s = .next t ∧
          t = { s with regs := t.regs, pack := { s.pack with engines := t.pack.engines, outs := t.pack.outs } } ∧ (∀ j, t.outWin j = s.outWin j) ∧
          t.engState n = 1 ∧ t.engPc n = pc + 1 ∧ t.eng n = e ∧ (∀ m, m ≠ n.val → t.eng m = s.eng m) ∧
          (∀ off, off ≠ R.engStat n → t.reg off = s.reg off))) ∧
    (HoldsNothing s n → opcodeKnown w = false → faults (.engineNop n) 1)


/-- Engine n's instruction has completed with the registers e, in the pack's windows at most and in the registers at offs; everything else is
as it was (R323). -/
def EngineActs (s t : State) (n : Nat) (e : Engine) (offs : List Nat) : Prop :=
  t = { s with regs := t.regs, pack := { s.pack with engines := t.pack.engines, ins := t.pack.ins, outs := t.pack.outs } } ∧
  t.eng n = e ∧ (∀ m, m ≠ n → t.eng m = s.eng m) ∧ t.engState n = 2 ∧ t.engPc n = s.engPc n + 1 ∧
  (∀ off, off ∉ R.engStat n :: offs → t.reg off = s.reg off)

/-- The instruction waits with its code and has had no effect (R353). -/
def EngineWaits (i : Instr) (s : State) (n code : Nat) : Prop :=
  ∃ t, exec i s = .next t ∧ s.sameBut t [R.engStat n] ∧ t.engState n = 3 ∧ t.fld (R.engStat n) F.engStat.WAIT = code ∧ t.engPc n = s.engPc n

/-- R331, R335, R337, R347-R351, R353-R356, Tables 10-11 and 10-12: what each SYS instruction does where its condition holds, that it waits without
effect where it has to, the RESULT and the status it leaves, and the faults of a window that is not the engine's and of a
poisoned operand.
The model's own choices here: notes/assumptions/38. -/
def Obligations.EngineSystemInstructions : Prop :=
  ∀ (s : State) (n : Fin 96) (w : Word), Issues s n w → opcodeOf w = 0 →
    let e := s.eng n
    let fn := fFn w
    let r := bitsOf w.toNat 15 5
    let imm := bitsOf w.toNat 0 15
    let x := e.sr r
    let faults (i : Instr) (cause : Nat) (a : Option Nat) : Prop := ∃ t, exec i s = .next t ∧ EngineFaults s t n (s.engPc n) cause a
    let puts (i : Instr) (e0 : Engine) (v : Nat) (offs : List Nat) (p : State → Prop) : Prop :=
      ∃ t e', exec i s = .next t ∧ EngineActs s t n e' offs ∧ ScalarTakes e0 e' r (BitVec.ofNat 32 v) false ∧ p t
    let windowsKept (t : State) : Prop := (∀ i, t.inWin i = s.inWin i) ∧ (∀ j, t.outWin j = s.outWin j)
    (fn = 0x02 → r = 0 → imm = 0 →
      (e.far = [] → ∃ t, exec (.fence n) s = .next t ∧ EngineMoves s t n e (s.engPc n + 1)) ∧ (e.far ≠ [] → EngineWaits (.fence n) s n 7)) ∧
    (fn = 0x03 → r = 0 → imm < 8 →
      ∃ t, exec (.evfire n) s = .next t ∧ EngineMoves { s with pulses := addSorted s.pulses (248 + imm) } t n e (s.engPc n + 1)) ∧
    (fn = 0x03 → HoldsNothing s n → r ≠ 0 ∨ 8 ≤ imm → faults (.evfire n) 1 none) ∧
    (∀ c : Nat, c < 4 → r = 0 →
      (fn = 0x04 → imm < 0x400 → bitsOf imm 8 2 = c →
        ∃ t, exec (.evsel n) s = .next t ∧ EngineActs s t n e [R.engEcsel n c, R.engEccnt n] ∧ windowsKept t ∧
          t.reg (R.engEcsel n c) = BitVec.ofNat 32 (2 ^ 31 + imm % 256) ∧ t.catcher n c = 0 ∧
          (∀ d, d < 4 → d ≠ c → t.catcher n d = s.catcher n d)) ∧
      (fn = 0x05 → imm = c → 0 < s.catcher n c →
        ∃ t, exec (.evwait n) s = .next t ∧ EngineActs s t n e [R.engEccnt n] ∧ windowsKept t ∧ t.catcher n c = s.catcher n c - 1 ∧
          (∀ d, d < 4 → d ≠ c → t.catcher n d = s.catcher n d)) ∧
      (fn = 0x05 → imm = c → s.catcher n c = 0 → EngineWaits (.evwait n) s n 1)) ∧
    (∀ k : Nat, k < 16 → imm = k →
      let sem := R.packTsem (16 * (n / 8) + k)
      let count := s.fld sem F.packTsem.COUNT
      (fn = 0x06 → r = 0 → 0 < count →
        ∃ t, exec (.semp n) s = .next t ∧ EngineActs s t n e [sem] ∧ windowsKept t ∧ t.fld sem F.packTsem.COUNT = count - 1) ∧
      (fn = 0x06 → r = 0 → count = 0 → EngineWaits (.semp n) s n 2) ∧
      (fn = 0x07 → r = 0 →
        ∃ t, exec (.semv n) s = .next t ∧ EngineActs s t n e [sem] ∧ windowsKept t ∧ t.fld sem F.packTsem.COUNT = min 65535 (count + 1) ∧
          (count = 65535 → t.fld sem F.packTsem.OVF = 1)) ∧
      (fn = 0x08 → 0 < count → puts (.semtry n) e 1 [sem] (fun t => windowsKept t ∧ t.fld sem F.packTsem.COUNT = count - 1)) ∧
      (fn = 0x08 → count = 0 → puts (.semtry n) e 0 [] windowsKept)) ∧
    (∀ i : Nat, i < 32 → imm = i →
      (fn = 0x09 → s.iwOn i = true →
        (∀ pre l post, (s.inWin i).ring = pre ++ l :: post → (∀ m ∈ pre, m.taken ≠ none ∧ m.released = false ∧ m.idx ≠ l.idx) →
          l.taken = none → l.released = false → (∀ m ∈ post, m.idx ≠ l.idx) →
          puts (.itake n) e (0x100000 + s.iwOffset i (l.idx % s.iwSlots i)) [R.iwStat i] (fun t =>
            (t.inWin i).ring = pre ++ { l with taken := some n.val } :: post ∧ (∀ k, k ≠ i → t.inWin k = s.inWin k) ∧
            (∀ j, t.outWin j = s.outWin j))) ∧
        ((∀ m ∈ (s.inWin i).ring, m.taken ≠ none) → EngineWaits (.itake n) s n 3)) ∧
      (fn = 0x09 → HoldsNothing s n → s.iwOn i = false → faults (.itake n) 7 none) ∧
      (fn = 0x0A → e.pS r = false → s.iwOn i = true → s.paired i = [] →
        ∀ l rest, (s.inWin i).ring = l :: rest → l.taken = some n.val → l.released = false → x.toNat = 0x100000 + s.iwOffset i (l.idx % s.iwSlots i) →
          (∀ m ∈ rest, m.idx ≠ l.idx ∧ m.released = false) →
          ∃ t, exec (.irel n) s = .next t ∧ EngineActs s t n e [R.iwStat i, R.iwRd i] ∧ (t.inWin i).ring = rest ∧
            t.reg (R.iwRd i) = s.reg (R.iwRd i) + 1 ∧ (∀ k, k ≠ i → t.inWin k = s.inWin k) ∧ (∀ j, t.outWin j = s.outWin j)) ∧
      (fn = 0x0A → HoldsNothing s n → e.pS r = false → faults (.irel n) 7 (some x.toNat))) ∧
    (∀ j : Nat, j < 32 → imm = j → s.owOn j = true →
      let o := s.outWin j
      (fn = 0x0B → s.owMsg j = true → s.owInUse j o.next (2 ^ 40) = false →
        puts (.oalloc n) e (0x100000 + s.owOffset j o.next) [] (fun t =>
          (∃ l, (t.outWin j).queue = o.queue ++ [l] ∧ l.slot = o.next ∧ l.st = .allocated ∧ l.eng = n.val) ∧
          (t.outWin j).next = (o.next + 1) % s.owSlots j ∧ (∀ i, t.inWin i = s.inWin i) ∧ (∀ k, k ≠ j → t.outWin k = s.outWin k))) ∧
      (fn = 0x0B → s.owMsg j = true → s.owInUse j o.next (2 ^ 40) = true → EngineWaits (.oalloc n) s n 4) ∧
      (fn = 0x0B → s.owMsg j = false → e.pS r = false → ∀ l, s.engHeldLine n (s.owSrc j) x.toNat = some l →
        let k := l.idx % s.iwSlots (s.owSrc j)
        (s.owInUse j k l.idx = false → puts (.oalloc n) e (0x100000 + s.owOffset j k) [] (fun t =>
          (t.outWin j).queue = o.queue.map (fun m => if m.idx = l.idx ∧ m.st = .waiting then { m with st := .allocated, eng := n.val } else m) ∧
          (∀ i, t.inWin i = s.inWin i) ∧ (∀ k, k ≠ j → t.outWin k = s.outWin k))) ∧
        (s.owInUse j k l.idx = true → EngineWaits (.oalloc n) s n 4)) ∧
      (fn = 0x0C → s.owMsg j = false → e.pS r = false →
        ∀ l rest, o.queue = l :: rest → l.st = .allocated → l.eng = n.val → x.toNat = 0x100000 + s.owOffset j l.slot → (∀ m ∈ rest, m.idx ≠ l.idx) →
          ∃ t, exec (.ocommit n) s = .next t ∧ EngineActs s t n e [] ∧ (t.outWin j).queue = { l with st := .committed } :: rest ∧
            (∀ i, t.inWin i = s.inWin i) ∧ (∀ k, k ≠ j → t.outWin k = s.outWin k)) ∧
      (fn = 0x0C → s.owMsg j = true → e.pS r = false → (s.stream (s.fld (R.owSc j) F.owSc.SC)).opened = false →
        ∀ l, o.queue = [l] → l.st = .allocated → l.eng = n.val → x.toNat = 0x100000 + s.owOffset j l.slot →
          (s.word (teamBase (s.owTeam j) + s.owOffset j l.slot)).toNat ≤ s.fld (R.owGeom j) F.owGeom.LEN →
          ∃ t, exec (.ocommit n) s = .next t ∧ EngineActs s t n e [R.owSkipCnt j, R.hqeDiscCnt] ∧ (t.outWin j).queue = [] ∧
            t.reg (R.owSkipCnt j) = satInc (s.reg (R.owSkipCnt j)))) ∧
    (fn = 0x0D → imm = 0 →
      (∀ y src rest, e.inbox = (y, src) :: rest → puts (.mbxrd n) { e with inbox := rest, msrc := src } y.toNat [R.engMbx n] (fun t =>
        windowsKept t ∧ t.fld (R.engMbx n) F.engMbx.IN_CNT = rest.length % 2 ^ F.engMbx.IN_CNT.width)) ∧
      (e.inbox = [] → EngineWaits (.mbxrd n) s n 5)) ∧
    (fn = 0x0E → e.pS r = false → imm < 256 →
      (∀ m : Fin 96, imm = 0x40 + m.val → m.val ≠ 0 → m.val ≠ n.val →
        ((s.eng m).inbox.length < 16 →
          ∃ t, exec (.mbxsend n) s = .next t ∧ t = { s with regs := t.regs, pack := { s.pack with engines := t.pack.engines } } ∧
            t.eng m = { s.eng m with inbox := (s.eng m).inbox ++ [(x, 0x40 + n.val)] } ∧ t.eng n = { e with result := 0 } ∧
            t.engState n = 2 ∧ t.engPc n = s.engPc n + 1 ∧ (∀ off, off ∉ [R.engStat n, R.engMbx m] → t.reg off = s.reg off)) ∧
        (16 ≤ (s.eng m).inbox.length → EngineWaits (.mbxsend n) s n 6)) ∧
      (imm = 0x01 → e.outbox.length < 16 →
        ∃ t, exec (.mbxsend n) s = .next t ∧ EngineActs s t n { e with outbox := e.outbox ++ [x], result := 0 } [R.engMbx n] ∧ windowsKept t) ∧
      (imm = 0x01 → 16 ≤ e.outbox.length → EngineWaits (.mbxsend n) s n 6) ∧
      (∀ g, imm = 0x14 → s.gait.replyTo = some g →
        ∃ t, exec (.mbxsend n) s = .next t ∧ EngineMoves { s with gait := t.gait } t n { e with result := 0 } (s.engPc n + 1) ∧
          t.gait = { s.gait with replyTo := none, replies := Table.set (fun _ => none) s.gait.replies g (some x) }) ∧
      (imm = 0x02 → n.val = 0 → s.hlt.outbox ≠ [] → s.hlt.outbox.length < 16 →
        ∃ t, exec (.mbxsend n) s = .next t ∧ EngineActs { s with hlt := t.hlt } t n { e with result := 0 } [R.hltStat] ∧
          t.hlt = { s.hlt with outbox := s.hlt.outbox ++ [x] } ∧ t.fld R.hltStat F.hltStat.OUT_CNT = s.hlt.outbox.length + 1) ∧
      (imm ≠ 0x01 → imm ≠ 0x14 → ¬(imm = 0x02 ∧ n.val = 0) → imm < 0x40 ∨ 0x40 + 96 ≤ imm →
        ∃ t, exec (.mbxsend n) s = .next t ∧ EngineMoves s t n { e with result := St.invalidField } (s.engPc n + 1))) ∧
    (∀ t0 : Nat, t0 < 4 → imm = t0 → e.pS r = false →
      let acts (t : State) (st : Nat) : Prop :=
        EngineActs { s with geo := t.geo } t n { e with result := st } [R.trkStat t0, R.geoStat, R.trkHold t0] ∧ windowsKept t
      (s.slotOfDoc t0 x.toNat = none →
        (fn = 0x0F → ∃ t, exec (.hold n) s = .next t ∧ EngineMoves s t n { e with result := St.noResource } (s.engPc n + 1)) ∧
        (fn = 0x10 → ∃ t, exec (.unhold n) s = .next t ∧ EngineMoves s t n { e with result := St.noResource } (s.engPc n + 1))) ∧
      (∀ k, s.slotOfDoc t0 x.toNat = some k →
        (fn = 0x0F → ∃ t, exec (.hold n) s = .next t ∧ acts t 0 ∧
          t.record k = { s.record k with holds := addSorted (s.record k).holds n } ∧ (∀ m, m ≠ k → t.record m = s.record m)) ∧
        (fn = 0x10 → n.val ∈ (s.record k).holds → (s.record k).open_ ≠ [] → ∃ t, exec (.unhold n) s = .next t ∧ acts t 0 ∧
          t.record k = { s.record k with holds := (s.record k).holds.filter (fun h => h != n.val) } ∧ (∀ m, m ≠ k → t.record m = s.record m)))) ∧
    (fn = 0x11 → imm = 0 → e.pS r = false →
      (x.toNat % 4 = 0 → ∀ p, localAddr n x.toNat 20 = some p →
        let d (i : Nat) : Nat := (s.word (p + 4 * i)).toNat
        let cause := bitsOf (d 0) 24 8
        let run := bitsOf (d 1) 0 16
        let trk := bitsOf (d 1) 24 2
        let planes := d 2 + 2 ^ 32 * bitsOf (d 3) 0 16
        let fits := bitsOf (d 1) 26 6 = 0 ∧ bitsOf (d 3) 16 16 = 0
        (cause < 0x13 ∨ 0x1F < cause ∨ run = 0 ∨ planes = 0 →
          ∃ t, exec (.exc n) s = .next t ∧ EngineMoves s t n { e with result := St.invalidField } (s.engPc n + 1)) ∧
        (0x13 ≤ cause → cause ≤ 0x1F → run = 1 → planes ≠ 0 → fits →
          (s.slotOfDoc trk (d 4) = none →
            ∃ t, exec (.exc n) s = .next t ∧ EngineActs s t n { e with result := 0 } [R.trkLateCnt trk, R.trkStat trk] ∧
              t.reg (R.trkLateCnt trk) = satInc (s.reg (R.trkLateCnt trk)) ∧ t.fld (R.trkStat trk) F.trkStat.LATE = 1) ∧
          (∀ k, s.slotOfDoc trk (d 4) = some k → (s.record k).exc = [] → 0 < s.excMax trk →
            ∃ t, exec (.exc n) s = .next t ∧ EngineMoves { s with geo := t.geo } t n { e with result := 0 } (s.engPc n + 1) ∧
              t.record k = { s.record k with causeSeen := (s.record k).causeSeen ||| 2 ^ cause, exc := [⟨s.excUnit (s.record k) planes, bitsOf (d 0) 0 24, cause, 1, bitsOf (d 1) 16 8, planes⟩] } ∧
              (∀ m, m ≠ k → t.record m = s.record m)))) ∧
      (HoldsNothing s n → x.toNat % 4 ≠ 0 → faults (.exc n) 2 (some x.toNat)) ∧
      (HoldsNothing s n → x.toNat % 4 = 0 → localAddr n x.toNat 20 = none → faults (.exc n) 3 (some x.toNat))) ∧
    (imm &&& 0x0F00 = 0 →
      let ix := bitsOf imm 0 8
      let cfg := R.sysAbpCfg ix
      (bitsOf imm 12 3 = 2 → ix < 16 →
        (fn = 0x12 → s.fld cfg F.sysAbpCfg.OWNER = 0 → s.partInvalid ix = false → s.partClash ix = none →
          puts (.claim n) { e with result := 0 } 0 [cfg] (fun t => windowsKept t ∧ t.fld cfg F.sysAbpCfg.OWNER = 0x40 + n)) ∧
        (fn = 0x12 → s.fld cfg F.sysAbpCfg.OWNER = 0 → s.partInvalid ix = true →
          puts (.claim n) { e with result := St.invalidField } St.invalidField [] windowsKept) ∧
        (fn = 0x12 → s.fld cfg F.sysAbpCfg.OWNER ≠ 0 → s.fld cfg F.sysAbpCfg.OWNER ≠ 0x40 + n → s.fld R.sysClaimErr F.sysClaimErr.VALID = 1 →
          puts (.claim n) { e with result := St.claimDenied } St.claimDenied [R.sysClaimErrCnt] (fun t =>
            t.reg R.sysClaimErrCnt = satInc (s.reg R.sysClaimErrCnt))) ∧
        (fn = 0x13 → s.fld cfg F.sysAbpCfg.OWNER = 0x40 + n →
          puts (.release n) { e with result := 0 } 0 [cfg] (fun t => windowsKept t ∧ t.fld cfg F.sysAbpCfg.OWNER = 0)) ∧
        (fn = 0x13 → s.fld cfg F.sysAbpCfg.OWNER ≠ 0 → s.fld cfg F.sysAbpCfg.OWNER ≠ 0x40 + n →
          puts (.release n) { e with result := St.claimDenied } St.claimDenied [R.sysClaimErrCnt] (fun t =>
            t.fld cfg F.sysAbpCfg.OWNER = s.fld cfg F.sysAbpCfg.OWNER))) ∧
      (bitsOf imm 12 3 = 1 → ix < 32 → fn = 0x12 → s.fld (R.etimCtl ix) F.etimCtl.OWNER = 0 → s.selOn (R.etimStartSel ix) = true →
        puts (.claim n) { e with result := 0 } 0 [R.etimCtl ix] (fun t => windowsKept t ∧ t.fld (R.etimCtl ix) F.etimCtl.OWNER = 0x40 + n ∧
          t.fld (R.etimCtl ix) F.etimCtl.EN = 1)) ∧
      (bitsOf imm 12 3 = 3 → ix < 16 → fn = 0x12 → s.fld (R.sysGpioCfg ix) F.sysGpioCfg.OWNER = 0 →
        puts (.claim n) { e with result := 0 } 0 [R.sysGpioCfg ix] (fun t => windowsKept t ∧
          t.fld (R.sysGpioCfg ix) F.sysGpioCfg.OWNER = 0x40 + n ∧ t.fld (R.sysGpioCfg ix) F.sysGpioCfg.EN = 1 ∧
          t.fld (R.sysGpioCfg ix) F.sysGpioCfg.FUNC = s.fld (R.sysGpioCfg ix) F.sysGpioCfg.FUNC)) ∧
      (bitsOf imm 12 3 = 0 ∨ 3 < bitsOf imm 12 3 →
        (fn = 0x12 → puts (.claim n) { e with result := St.invalidField } St.invalidField [] windowsKept) ∧
        (fn = 0x13 → puts (.release n) { e with result := St.invalidField } St.invalidField [] windowsKept))) ∧
    (HoldsNothing s n → e.pS r = true → imm < 4 →
      (fn = 0x0A → faults (.irel n) 5 none) ∧ (fn = 0x0C → faults (.ocommit n) 5 none) ∧ (fn = 0x0E → faults (.mbxsend n) 5 none) ∧
      (fn = 0x0F → faults (.hold n) 5 none) ∧ (fn = 0x10 → faults (.unhold n) 5 none) ∧ (imm = 0 → fn = 0x11 → faults (.exc n) 5 none))


/-- Vector register vd has the new lanes where the mask is 1 and its old ones elsewhere, with its poison; nothing else of the engine changes
(R344, R347). -/
def VectorTakes (e e' : Engine) (vd m : Nat) (new : Nat → Nat) (bad : Bool) : Prop :=
  e' = { e with v := e'.v, badV := e'.badV } ∧ (e'.vr vd).length = 8 ∧ e'.pV vd = bad ∧
  (∀ i, i < 8 → (e'.vr vd).getD i 0 = (if m.testBit i then new i else (e.vr vd).getD i 0)) ∧
  (∀ k, k ≠ vd → e'.vr k = e.vr k ∧ e'.pV k = e.pV k)

/-- R328, R343, R344, R347, Table 10-9: what each vector instruction writes, lane by lane, for every operand and mask: lanes whose predicate bit is
0 keep what they held, VST stores to the lanes' addresses and nowhere else, and poison goes along. -/
def Obligations.VectorInstructions : Prop :=
  ∀ (s : State) (n : Fin 96) (w : Word), Issues s n w →
    let e := s.eng n
    let op := opcodeOf w
    let x := w.toNat
    let vd := bitsOf x 22 4
    let va := bitsOf x 18 4
    let vb := bitsOf x 14 4
    let fn := bitsOf x 0 6
    let d (i : Nat) : Nat := (e.vr vd).getD i 0
    let a (i : Nat) : Nat := (e.vr va).getD i 0
    let b (i : Nat) : Nat := (e.vr vb).getD i 0
    let puts (c : Instr) (m : Nat) (f : Nat → Nat) (bad : Bool) : Prop :=
      ∃ t e', exec c s = .next t ∧ EngineMoves s t n e' (s.engPc n + 1) ∧ VectorTakes e e' vd m f (bad || (m != 0xFF && e.pV vd))
    (op = 0x30 → bitsOf x 6 6 = 0 →
      let m := e.pr (bitsOf x 12 2)
      let bad := e.pV va || e.pV vb
      (∀ p ∈ ([(0x00, fun a b => (a + b) % 65536), (0x01, fun a b => (a + 65536 - b) % 65536), (0x02, fun a b => min (a + b) 65535),
          (0x03, fun a b => a - b), (0x04, fun a b => a * b % 65536), (0x05, fun a b => a * b / 65536),
          (0x06, fun a b => unsigned 16 (signed 16 a * signed 16 b / 65536)), (0x08, fun a b => a &&& b), (0x09, fun a b => a ||| b),
          (0x0A, fun a b => a ^^^ b), (0x0B, fun a b => min a b), (0x0C, fun a b => max a b),
          (0x0D, fun a b => if signed 16 a < signed 16 b then a else b), (0x0E, fun a b => if signed 16 a < signed 16 b then b else a),
          (0x0F, fun a b => max a b - min a b), (0x10, fun a b => a * 2 ^ (b % 16) % 65536), (0x11, fun a b => a / 2 ^ (b % 16)),
          (0x12, fun a b => unsigned 16 (signed 16 a / 2 ^ (b % 16))), (0x13, fun a b => (a + b + 1) / 2)] : List (Nat × (Nat → Nat → Nat))),
        fn = p.1 → puts (.vop n) m (fun i => p.2 (a i) (b i)) bad) ∧
      (fn = 0x07 → puts (.vop n) m (fun i => (d i + a i * b i) % 65536) (bad || e.pV vd)) ∧
      (fn = 0x14 → ∃ t e', exec (.vop n) s = .next t ∧ EngineMoves s t n e' (s.engPc n + 1) ∧
        VectorTakes e e' vd 0xFF (fun i => if m.testBit i then a i else b i) bad) ∧
      (0x14 < fn → HoldsNothing s n → ∃ t, exec (.vop n) s = .next t ∧ EngineFaults s t n (s.engPc n) 1 none)) ∧
    (op = 0x31 →
      let imm := bitsOf x 0 12
      let m := e.pr (bitsOf x 16 2)
      (∀ p ∈ ([(0, fun a => (a + unsigned 16 (signed 12 imm)) % 65536), (1, fun a => a * 2 ^ (imm % 16) % 65536), (2, fun a => a / 2 ^ (imm % 16)),
          (3, fun a => unsigned 16 (signed 16 a / 2 ^ (imm % 16))), (4, fun a => a * imm % 65536), (5, fun a => min a imm),
          (6, fun a => max a imm)] : List (Nat × (Nat → Nat))),
        bitsOf x 12 4 = p.1 → puts (.vimm n) m (fun i => p.2 (a i)) (e.pV va)) ∧
      (bitsOf x 12 4 = 7 → va = 0 → puts (.vimm n) m (fun _ => imm) false) ∧
      (HoldsNothing s n → (bitsOf x 12 4 = 7 ∧ va ≠ 0) ∨ 7 < bitsOf x 12 4 →
        ∃ t, exec (.vimm n) s = .next t ∧ EngineFaults s t n (s.engPc n) 1 none)) ∧
    (op = 0x32 → bitsOf x 6 6 = 0 → vd < 4 →
      ∀ p ∈ ([(0, fun a b => decide (a = b)), (1, fun a b => decide (a ≠ b)), (2, fun a b => decide (a < b)), (3, fun a b => decide (a ≤ b)),
          (4, fun a b => decide (signed 16 a < signed 16 b)), (5, fun a b => decide (signed 16 a ≤ signed 16 b))] :
            List (Nat × (Nat → Nat → Bool))),
        fn = p.1 → ∃ t e', exec (.vcmp n) s = .next t ∧ EngineMoves s t n e' (s.engPc n + 1) ∧ e' = { e with p := e'.p } ∧
          (vd = 0 → e' = e) ∧ (∀ k, k ≠ vd → e'.pr k = e.pr k) ∧
          (vd ≠ 0 → e'.pr vd < 256 ∧ ∀ i, i < 8 → (e'.pr vd).testBit i = ((e.pr (bitsOf x 12 2)).testBit i && p.2 (a i) (b i)))) ∧
    (op = 0x33 → bitsOf x 3 9 = 0 →
      let r := bitsOf x 17 5
      let lane := bitsOf x 14 3
      let pg := bitsOf x 12 2
      let half := (e.sr r).toNat % 65536
      let on := ((List.range 8).filter (fun i => (e.pr pg).testBit i)).map d
      let toS (v : Nat) : Prop := ScalarResult (.vscl n) s n r (BitVec.ofNat 32 v) (e.pV vd)
      (bitsOf x 0 3 = 0 → lane = 0 → puts (.vscl n) (e.pr pg) (fun _ => half) (e.pS r)) ∧
      (bitsOf x 0 3 = 1 → pg = 0 → puts (.vscl n) (2 ^ lane) (fun _ => half) (e.pS r)) ∧
      (bitsOf x 0 3 = 2 → pg = 0 → toS (d lane)) ∧
      ((e.vr vd).length = 8 → lane = 0 → (bitsOf x 0 3 = 3 → toS on.sum) ∧ (bitsOf x 0 3 = 4 → toS (on.foldl max 0)) ∧
        (bitsOf x 0 3 = 5 → toS (on.foldl min 0xFFFF))) ∧
      (bitsOf x 0 3 = 6 → lane = 0 → pg = 0 → vd < 4 → e.pS r = false →
        ∃ t e', exec (.vscl n) s = .next t ∧ EngineMoves s t n e' (s.engPc n + 1) ∧ e' = { e with p := e'.p } ∧
          ∀ k, e'.pr k = (if k = vd ∧ k ≠ 0 then (e.sr r).toNat % 256 else e.pr k)) ∧
      (bitsOf x 0 3 = 7 → lane = 0 → pg = 0 → vd < 4 → ScalarResult (.vscl n) s n r (BitVec.ofNat 32 (e.pr vd)) false) ∧
      (HoldsNothing s n → 6 ≤ bitsOf x 0 3 → 4 ≤ vd ∨ lane ≠ 0 ∨ pg ≠ 0 → ∃ t, exec (.vscl n) s = .next t ∧ EngineFaults s t n (s.engPc n) 1 none)) ∧
    (let r := bitsOf x 17 5
     let at_ (i : Nat) : Nat := (e.sr r + BitVec.ofInt 32 (signed 15 (bitsOf x 0 15)) + BitVec.ofNat 32 (2 * i)).toNat
     let m := e.pr (bitsOf x 15 2)
     e.pS r = false →
      (∀ p : Nat → Nat, (∀ i, i < 8 → m.testBit i = true → at_ i % 2 = 0 ∧ localAddr n (at_ i) 2 = some (p i)) →
        (op = 0x34 → puts (.vld n) m (fun i => natLE (s.bytes (p i) 2)) false) ∧
        (op = 0x35 → e.pV vd = false →
          ∃ t, exec (.vst n) s = .next t ∧ EngineMoves { s with mem := t.mem } t n e (s.engPc n + 1) ∧
            (∀ i, i < 8 → m.testBit i = true → t.bytes (p i) 2 = bytesLE 2 (d i)) ∧
            (∀ y, (∀ i, i < 8 → m.testBit i = true → y < p i ∨ p i + 2 ≤ y) → t.byte y = s.byte y))) ∧
      (HoldsNothing s n → m.testBit 0 = true →
        (at_ 0 % 2 = 1 → (op = 0x34 → ∃ t, exec (.vld n) s = .next t ∧ EngineFaults s t n (s.engPc n) 2 (some (at_ 0))) ∧
          (op = 0x35 → ∃ t, exec (.vst n) s = .next t ∧ EngineFaults s t n (s.engPc n) 2 (some (at_ 0)))) ∧
        (at_ 0 % 2 = 0 → localAddr n (at_ 0) 2 = none →
          (op = 0x34 → ∃ t, exec (.vld n) s = .next t ∧ EngineFaults s t n (s.engPc n) 3 (some (at_ 0))) ∧
          (op = 0x35 → ∃ t, exec (.vst n) s = .next t ∧ EngineFaults s t n (s.engPc n) 3 (some (at_ 0)))))) ∧
    (op = 0x36 → bitsOf x 0 11 = 0 →
      let r := bitsOf x 17 5
      let m := e.pr (bitsOf x 11 2)
      let at_ (i : Nat) : Nat := (e.sr r + BitVec.ofNat 32 (2 * (e.vr (bitsOf x 13 4)).getD i 0)).toNat
      e.pS r = false → e.pV (bitsOf x 13 4) = false →
      ((∀ i, i < 8 → m.testBit i = true → at_ i % 2 = 0 ∧ at_ i + 2 ≤ 0x10000) →
        puts (.vgather n) m (fun i => natLE (s.bytes (engineData n + at_ i) 2)) false) ∧
      (HoldsNothing s n → m.testBit 0 = true → at_ 0 % 2 = 0 → 0x10000 < at_ 0 + 2 → (∀ i, i < 8 → at_ i % 2 = 0) →
        ∃ t, exec (.vgather n) s = .next t ∧ EngineFaults s t n (s.engPc n) 3 (some (at_ 0))))


/-- R333-R340, R349-R351, R353, R359: windows are enabled or refused with their cause; a line is written with its header into the oldest free slot
of an input window and nowhere else, or dropped and counted; a committed line leaves its output window; inboxes, catchers and
semaphores take what is sent to them; a waiting instruction completes when its condition holds; an image arms its engine, or
leaves its memory zero.
The model's own choices here: notes/assumptions/24, 38 and 40. -/
def Obligations.WindowsMailboxesAndImages : Prop :=
  ∀ (s : State) (path : Path) (w : Word), s.usual →
    (∀ i : Fin 32, s.accessible path (R.iwCfg i) = true →
      (s.iwOn i = false →
        let s1 := s.setReg (R.iwCfg i) (Row.iwCfg.written (s.reg (R.iwCfg i)) (F.iwCfg.EN.put w 1))
        (s1.iwCause i = 0 →
          ∃ t, exec (.iwEnable path i w) s = .next t ∧
            t = { s with regs := t.regs, eff := t.eff, pack := { s.pack with ins := t.pack.ins } } ∧ t.inWin i = {} ∧
            (∀ k, k ≠ i.val → t.inWin k = s.inWin k) ∧ t.iwOn i = true ∧ t.fld (R.iwCfg i) F.iwCfg.PLANE = F.iwCfg.PLANE.get w ∧
            t.reg (R.iwWr i) = 0 ∧ t.reg (R.iwRd i) = 0 ∧
            (∀ off, off ∉ [R.iwCfg i, R.iwWr i, R.iwRd i, R.iwStat i] → t.reg off = s.reg off)) ∧
        (s1.iwCause i ≠ 0 →
          ∃ t, exec (.iwEnable path i w) s = .next t ∧ s.sameBut t [R.iwCfg i, R.iwStat i] ∧ t.iwOn i = false ∧
            t.fld (R.iwStat i) F.iwStat.CFG_ERR = 1 ∧ t.fld (R.iwStat i) F.iwStat.CFG_CAUSE = s1.iwCause i)) ∧
      (s.iwOn i = true → w &&& 0x3FFE = s.reg (R.iwCfg i) &&& 0x3FFE →
        (s.paired i = [] →
          ∃ t, exec (.iwDisable path i w) s = .next t ∧
            t = { s with regs := t.regs, eff := t.eff, pack := { s.pack with ins := t.pack.ins } } ∧ t.inWin i = {} ∧
            (∀ k, k ≠ i.val → t.inWin k = s.inWin k) ∧ t.iwOn i = false ∧
            (∀ off, off ∉ [R.iwCfg i, R.iwStat i] → t.reg off = s.reg off)) ∧
        (s.paired i ≠ [] →
          ∃ t, exec (.iwDisable path i w) s = .next t ∧ s.sameBut t [R.iwCfg i, R.iwStat i] ∧ t.iwOn i = true ∧
            t.fld (R.iwStat i) F.iwStat.CFG_ERR = 1 ∧ t.fld (R.iwStat i) F.iwStat.CFG_CAUSE = 5))) ∧
    (∀ j : Fin 32, s.accessible path (R.owCfg j) = true →
      (s.owOn j = false →
        let s1 := s.setReg (R.owCfg j) (Row.owCfg.written (s.reg (R.owCfg j)) (F.owCfg.EN.put w 1))
        (s1.owCause j = 0 →
          ∃ t, exec (.owEnable path j w) s = .next t ∧
            t = { s with regs := t.regs, eff := t.eff, pack := { s.pack with outs := t.pack.outs } } ∧ t.outWin j = {} ∧
            (∀ k, k ≠ j.val → t.outWin k = s.outWin k) ∧ t.owOn j = true ∧ t.reg (R.owDlv j) = 0 ∧
            (∀ off, off ∉ [R.owCfg j, R.owDlv j] → t.reg off = s.reg off)) ∧
        (s1.owCause j ≠ 0 →
          ∃ t, exec (.owEnable path j w) s = .next t ∧ s.sameBut t [R.owCfg j, R.owStat j] ∧ t.owOn j = false ∧
            t.fld (R.owStat j) F.owStat.CFG_ERR = 1 ∧ t.fld (R.owStat j) F.owStat.CFG_CAUSE = s1.owCause j))) ∧
    (∀ i : Fin 32,
      ((s.inWin i).feed = [] → exec (.iwLineWrite i) s = .next s) ∧
      (∀ l rest, (s.inWin i).feed = l :: rest → s.iwOn i = true → s.paired i = [] → l.bad = [] → s.sys.bitErrs = [] → s.sys.poison = [] →
        s.docAt (s.fld (R.iwCfg i) F.iwCfg.TRK) l.g l.y = none →
        let width := s.fld (R.iwGeom i) F.iwGeom.WIDTH
        let idx := (s.reg (R.iwWr i)).toNat
        let a := teamBase (s.iwTeam i) + s.iwOffset i (idx % s.iwSlots i)
        ((s.inWin i).ring.length < s.iwSlots i →
          ∃ t, exec (.iwLineWrite i) s = .next t ∧ t = { s with regs := t.regs, mem := t.mem, pack := { s.pack with ins := t.pack.ins } } ∧
            t.bytes a 16 = bytesLE 4 l.line ++ bytesLE 4 0 ++ bytesLE 4 ((if l.rep then 2 ^ 26 else 0) + (if l.exc then 2 ^ 27 else 0)) ++
              bytesLE 4 l.time ∧
            (∀ p, p < width → t.bytes (a + 16 + 2 * p) 2 = bytesLE 2 (l.vals.getD (s.fld (R.iwGeom i) F.iwGeom.X0 + p) 0)) ∧
            (∀ b, b < a ∨ a + 16 + 2 * width ≤ b → t.byte b = s.byte b) ∧
            t.inWin i = { feed := rest, ring := (s.inWin i).ring ++ [{ idx := idx, src := l }] } ∧ (∀ k, k ≠ i.val → t.inWin k = s.inWin k) ∧
            t.reg (R.iwWr i) = s.reg (R.iwWr i) + 1 ∧ t.reg (R.iwLast i) = BitVec.ofNat 32 l.line ∧
            (∀ off, off ∉ [R.iwWr i, R.iwLast i] → t.reg off = s.reg off)) ∧
        (s.iwSlots i ≤ (s.inWin i).ring.length → s.windowsAt l.g l.y = [] → s.pastAt l.g l.y = [] →
          ∃ t, exec (.iwLineWrite i) s = .next t ∧ (t.inWin i).feed = rest ∧ (t.inWin i).ring = (s.inWin i).ring ∧ t.mem = s.mem ∧
            t.reg (R.iwDropCnt i) = satInc (s.reg (R.iwDropCnt i))))) ∧
    (∀ j : Fin 32, s.owOn j = true → s.owMsg j = false →
      ((s.outWin j).queue = [] → exec (.owLineDeliver j) s = .next s) ∧
      (∀ l rest, (s.outWin j).queue = l :: rest → s.sys.bitErrs = [] → s.sys.poison = [] → s.streams = [] →
        (∀ i, i < 32 → s.iwOn i = true → s.fld (R.iwCfg i) F.iwCfg.PLANE ≠ 64 + j) →
        (l.st = .waiting ∨ l.st = .allocated → exec (.owLineDeliver j) s = .next s) ∧
        (l.st = .committed →
          let a := teamBase (s.owTeam j) + s.owOffset j l.slot + 16
          ∃ t, exec (.owLineDeliver j) s = .next t ∧ t = { s with regs := t.regs, pack := { s.pack with outs := t.pack.outs } } ∧
            t.outWin j = { s.outWin j with queue := rest, prevBad := [], prev := (List.range (s.fld (R.owGeom j) F.owGeom.WIDTH)).map (fun p => natLE (s.bytes (a + 2 * p) 2)) } ∧
            (∀ k, k ≠ j.val → t.outWin k = s.outWin k) ∧ t.reg (R.owDlv j) = s.reg (R.owDlv j) + 1 ∧
            (∀ off, off ≠ R.owDlv j → t.reg off = s.reg off)) ∧
        (l.st = .dropped →
          ∃ t, exec (.owLineDeliver j) s = .next t ∧ (t.outWin j).queue = rest ∧ t.mem = s.mem ∧
            t.reg (R.owDlv j) = s.reg (R.owDlv j) + 1 ∧ t.fld (R.owStat j) F.owStat.REPEAT = 1 ∧
            t.reg (R.owSkipCnt j) = satInc (s.reg (R.owSkipCnt j)) ∧
            (∀ off, off ∉ [R.owDlv j, R.owStat j, R.owSkipCnt j] → t.reg off = s.reg off)))) ∧
    (∀ n : Fin 96,
      (s.accessible path (R.engInbox n) = true →
        (n.val ≠ 0 → (s.eng n).inbox.length < 16 →
          ∃ t, exec (.engineInboxWrite path n w) s = .next t ∧ t = { s with regs := t.regs, pack := { s.pack with engines := t.pack.engines } } ∧
            t.eng n = { s.eng n with inbox := (s.eng n).inbox ++ [(w, claimantOf path)] } ∧ (∀ m, m ≠ n.val → t.eng m = s.eng m) ∧
            t.fld (R.engMbx n) F.engMbx.IN_CNT = (s.eng n).inbox.length + 1 ∧ (∀ off, off ≠ R.engMbx n → t.reg off = s.reg off)) ∧
        (16 ≤ (s.eng n).inbox.length →
          ∃ t, exec (.engineInboxWrite path n w) s = .next t ∧ s.sameBut t [R.engStat n] ∧ t.fld (R.engStat n) F.engStat.IN_OVF = 1)) ∧
      (∀ c : Fin 4,
        (s.selOn (R.engEcsel n c) = false → exec (.catcherPulse n c) s = .next s) ∧
        (s.selOn (R.engEcsel n c) = true →
          ∃ t, exec (.catcherPulse n c) s = .next t ∧ s.sameBut t [R.engEccnt n, R.engStat n] ∧ t.catcher n c = min 255 (s.catcher n c + 1) ∧
            (∀ d, d < 4 → d ≠ c.val → t.catcher n d = s.catcher n d) ∧
            (254 ≤ s.catcher n c → t.fld (R.engStat n) F.engStat.EC_OVF = 1) ∧
            (s.catcher n c < 254 → t.reg (R.engStat n) = s.reg (R.engStat n))) ∧
        (s.accessible path (R.engEcsel n c) = true →
          ∃ t, exec (.catcherSelectWrite path n c w) s = .next t ∧ s.sameBut t [R.engEcsel n c, R.engEccnt n] ∧
            t.reg (R.engEcsel n c) = w &&& 0x800000FF ∧ t.catcher n c = 0 ∧ (∀ d, d < 4 → d ≠ c.val → t.catcher n d = s.catcher n d)))) ∧
    (∀ (t0 : Fin 12) (k : Fin 16), s.accessible path (R.packTsem (16 * t0 + k)) = true →
      let sem := R.packTsem (16 * t0 + k)
      ∃ t, exec (.semaphoreHostWrite path t0 k w) s = .next t ∧ s.sameBut t [sem] ∧ t.fld sem F.packTsem.COUNT = w.toNat % 65536 ∧
        t.fld sem F.packTsem.OVF = (if w.getLsbD 16 then 0 else s.fld sem F.packTsem.OVF)) ∧
    (∀ (n : Fin 96) (x : Word), s.engState n = 3 → s.word (engineInstr n + 4 * s.engPc n) = x → s.engPc n < 4095 → (s.eng n).loop = none →
      (s.eng n).step = false → s.sys.bitErrs = [] → s.sys.poison = [] →
      (∀ c, c < 4 → x.toNat = 0x05 * 2 ^ 20 + c →
        (0 < s.catcher n c → ∃ t, exec (.engineWaitComplete n) s = .next t ∧ EngineActs s t n (s.eng n) [R.engEccnt n] ∧
          t.catcher n c = s.catcher n c - 1) ∧
        (s.catcher n c = 0 → EngineWaits (.engineWaitComplete n) s n 1)) ∧
      (∀ k, k < 16 → x.toNat = 0x06 * 2 ^ 20 + k →
        let sem := R.packTsem (16 * (n / 8) + k)
        (0 < s.fld sem F.packTsem.COUNT → ∃ t, exec (.engineWaitComplete n) s = .next t ∧ EngineActs s t n (s.eng n) [sem] ∧
          t.fld sem F.packTsem.COUNT = s.fld sem F.packTsem.COUNT - 1) ∧
        (s.fld sem F.packTsem.COUNT = 0 → EngineWaits (.engineWaitComplete n) s n 2)) ∧
      (x.toNat = 0x02 * 2 ^ 20 → (s.eng n).far = [] → ∃ t, exec (.engineWaitComplete n) s = .next t ∧ EngineActs s t n (s.eng n) [])) ∧
    (∀ n : Fin 96, s.engState n ≠ 3 → exec (.engineWaitComplete n) s = .next s) ∧
    (∀ rest : List Byte, s.pack.loads = [] → exec (.imageLoadComplete rest) s = .next s) ∧
    (∀ (n : Fin 96) (h rest : List Byte), n.val ≠ 0 → s.engState n = 1 → s.pack.loads = [{ cmd := none, targets := [n.val], header := h }] →
      h.length = 128 → s.sys.bitErrs = [] → s.sys.poison = [] →
      (s.imageValid (h ++ rest) = true →
        ∃ t, exec (.imageLoadComplete rest) s = .next t ∧ t = { s with regs := t.regs, mem := t.mem, pack := { s.pack with loads := [] } } ∧
          t.bytes (engineInstr n) (4 * imgWords h) = rest.take (4 * imgWords h) ∧
          t.fld (R.engStart n) F.engStart.PC = imgEntry h ∧ t.reg (R.engImg n) = BitVec.ofNat 32 (imgId h) ∧
          t.reg (R.engVer n) = BitVec.ofNat 32 (imgVersion h) ∧ t.fld (R.engStat n) F.engStat.IMG = 1 ∧
          t.fld (R.engStat n) F.engStat.KIND = imgKind h ∧ t.fld (R.engStat n) F.engStat.KEY = imgKeySlot h ∧ t.engState n = 1 ∧
          (∀ a, a < engineData n ∨ engineData n + 0x14000 ≤ a → t.byte a = s.byte a) ∧
          (∀ off, off ∉ [R.engStat n, R.engStart n, R.engImg n, R.engVer n] → t.reg off = s.reg off)) ∧
      (s.imageValid (h ++ rest) = false → imgWords h ≤ 4096 → imgDataOfs h + imgDataLen h ≤ 65536 →
        ∃ t, exec (.imageLoadComplete rest) s = .next t ∧ (∀ a, engineData n ≤ a → a < engineData n + 0x14000 → t.byte a = 0) ∧
          (∀ a, a < engineData n ∨ engineData n + 0x14000 ≤ a → t.byte a = s.byte a) ∧ t.fld (R.engStat n) F.engStat.IMG = 0 ∧
          t.engState n = 1 ∧ (∀ off, off ≠ R.engStat n → t.reg off = s.reg off)))


/-! ## Host queues (chapter 11) -/

/-- Bytes of host memory as the device has written them. -/
def hostAt (s : State) (a n : Nat) : List Byte := (List.range n).map (fun i => Table.get (fun _ => 0) s.hostMem (a + i))

/-- The completion entry of Table 11-3 as the device writes it. -/
def completionBytes (r0 r1 r2 time sqHead q tag status info : Nat) (phase : Bool) : List Byte :=
  bytesLE 8 r0 ++ bytesLE 4 r1 ++ bytesLE 4 r2 ++ bytesLE 8 time ++ bytesLE 4 (sqHead % 4096 + q % 1024 * 2 ^ 12) ++
  bytesLE 4 (tag % 65536 + status % 256 * 2 ^ 16 + info % 128 * 2 ^ 24 + phase.toNat * 2 ^ 31)

/-- Queue pair q with room for a completion, which is signalled at once on an unmasked vector, over a link with PCIe (R377, R380, R400). -/
abbrev PlainQueue (s : State) (q : Nat) (x : Qp) : Prop :=
  s.qp q = some x ∧ x.coalN ≤ 1 ∧ x.unsig = 0 ∧ x.cqTail + 1 < x.cqSize ∧ s.fld (R.hqeMsixCtrl x.vector) F.hqeMsixCtrl.MASK = 0 ∧
  s.fld R.hqeStat F.hqeStat.LINK = 1 ∧ s.hqe.reads = []

/-- A completion with these results has been written to host memory, and nothing else there; the completion queue has moved on, the vector is
signalled, and the command is no longer in flight (R377, R379, R380). Registers other than those at offs keep their value. -/
def Completed (s t : State) (q tag : Nat) (x : Qp) (sqHead r0 r1 r2 status info : Nat) (offs : List Nat) : Prop :=
  t = { s with regs := t.regs, hostMem := t.hostMem, messages := x.vector :: s.messages,
               hqe := { s.hqe with qps := t.hqe.qps, cmds := s.hqe.cmds.filter (fun d => !(d.qp == q && d.tag == tag)) } } ∧
  hostAt t (x.cqBase + 32 * x.cqTail) 32 = completionBytes r0 r1 r2 s.sys.time.toNat sqHead q tag status info x.phase ∧
  (∀ a, a < x.cqBase + 32 * x.cqTail ∨ x.cqBase + 32 * x.cqTail + 32 ≤ a → hostAt t a 1 = hostAt s a 1) ∧
  t.qp q = some { x with cqTail := x.cqTail + 1 } ∧ (∀ p, p ≠ q → t.qp p = s.qp p) ∧
  (∀ off, off ∉ R.hqeStat :: offs → t.reg off = s.reg off)

/-- The command with this tag is the next of its queue pair to start, and has the opcode (R375). -/
abbrev CommandReady (s : State) (q tag op : Nat) (c : Cmd) (x : Qp) : Prop :=
  s.usual ∧ s.cmdOf q tag = some c ∧ c.op = op ∧ s.mayStart c = true ∧ PlainQueue s q x

/-- The command has started and has not completed: it stays in flight (R375). -/
def CommandStarts (s t : State) (q tag : Nat) (offs : List Nat) : Prop :=
  t = { s with regs := t.regs, hqe := { s.hqe with
    cmds := s.hqe.cmds.map (fun d => if d.qp == q && d.tag == tag then { d with started := true } else d) } } ∧
  t.fld R.hqeStat F.hqeStat.LINK = s.fld R.hqeStat F.hqeStat.LINK ∧ (∀ off, off ∉ R.hqeStat :: offs → t.reg off = s.reg off)

/-- Queue pair q has entered ERROR with a cause, the first since QERR was cleared, with room for its event (R381-R383). -/
def QueueFailed (s t : State) (q : Nat) (x : Qp) (cause : Nat) (addr : Option Nat) (offs : List Nat) : Prop :=
  t = { s with regs := t.regs, sec := t.sec, pulses := t.pulses, asyncQ := t.asyncQ, hqe := { s.hqe with qps := t.hqe.qps } } ∧
  t.qp q = some { x with error := true } ∧ (∀ p, p ≠ q → t.qp p = s.qp p) ∧ 246 ∈ t.pulses ∧
  t.fld R.hqeStat F.hqeStat.QERR = 1 ∧ t.fld R.hqeQerr F.hqeQerr.VALID = 1 ∧ t.fld R.hqeQerr F.hqeQerr.CAUSE = cause ∧
  t.fld R.hqeQerr F.hqeQerr.QP = q ∧ t.fld R.hqeQerr F.hqeQerr.DIR = (if addr.isSome then 1 else 0) ∧
  (∀ a, addr = some a → t.reg64 R.hqeErrAddrLo R.hqeErrAddrHi = a) ∧
  (∃ ev, t.asyncQ = s.asyncQ ++ [ev] ∧ ev.kind = 2 ∧ ev.detail = q + cause * 2 ^ 16) ∧
  (∀ off, off ∉ [R.hqeStat, R.hqeQerr, R.hqeErrAddrLo, R.hqeErrAddrHi] ++ offs → t.reg off = s.reg off)

/-- R367, R368, R370, R373-R376, R380-R383, R385: doorbells move a queue pair or put it into ERROR; the next entry is fetched and checked; a
waiting completion or an unmasked vector is signalled; a failed read ends its queue pair or its command; the host's watchdog, the
link, D3hot and the admin queue's enable.
The model's own choices here: notes/assumptions/41, 42 and 43. -/
def Obligations.HostQueues : Prop :=
  ∀ (s : State), s.usual →
    (∀ (q : Fin 1024) (w : Word),
      (s.qp q = none → ∀ i ∈ [Instr.sqTailDoorbell q w, .cqHeadDoorbell q w],
        ∃ t, exec i s = .next t ∧ s.sameBut t [R.hqeStat] ∧ t.fld R.hqeStat F.hqeStat.DB_STRAY = 1) ∧
      (∀ x, s.qp q = some x →
        let moved (i : Instr) (y : Qp) : Prop := ∃ t, exec i s = .next t ∧
          t = { s with sec := { s.sec with hostLoss := none }, pulses := t.pulses, hqe := { s.hqe with qps := t.hqe.qps } } ∧
          t.qp q = some y ∧ (∀ p, p ≠ q.val → t.qp p = s.qp p) ∧
          t.pulses = (if s.fld R.hqeCtl F.hqeCtl.DB_EV = 1 then addSorted s.pulses 240 else s.pulses)
        let failed (i : Instr) (cause : Nat) : Prop := s.asyncQ.length < 64 → s.fld R.hqeQerr F.hqeQerr.VALID = 0 →
          ∃ t, exec i s = .next t ∧ QueueFailed s t q x cause none []
        let span (a b : Nat) : Nat := (b + x.cqSize - a) % x.cqSize
        (x.error = true → ∀ i ∈ [Instr.sqTailDoorbell q w, .cqHeadDoorbell q w], moved i x) ∧
        (x.error = false → s.fld R.hqeStat F.hqeStat.LINK ≤ 1 →
          (w.toNat < x.sqSize → moved (.sqTailDoorbell q w) { x with sqTail := w.toNat }) ∧
          (x.sqSize ≤ w.toNat → failed (.sqTailDoorbell q w) 1) ∧
          (w.toNat < x.cqSize → span x.cqHead w.toNat ≤ span x.cqHead x.cqTail → moved (.cqHeadDoorbell q w) { x with cqHead := w.toNat }) ∧
          (x.cqSize ≤ w.toNat ∨ span x.cqHead x.cqTail < span x.cqHead w.toNat → failed (.cqHeadDoorbell q w) 2)))) ∧
    (∀ (q : Nat) (x : Qp) (entry : List Byte), PlainQueue s q x → q < 1024 → s.hqe.qps = [(q, some x)] → s.hqe.cmds = [] → s.hqe.d3hot = false →
      s.fld R.sysBootStat F.sysBootStat.READY = 1 → x.error = false → entry.length = 64 →
      let word (i : Nat) : Word := BitVec.ofNat 32 (fieldAt entry (4 * i) 4)
      let head := (x.sqHead + 1) % x.sqSize
      let c : Cmd := { qp := q, tag := (word 0).toNat / 65536, op := (word 0).toNat % 256, words := (List.range 16).map word, sqHead := head }
      (x.sqHead = x.sqTail → exec (.commandFetch entry) s = .next s) ∧
      (x.sqHead ≠ x.sqTail → (x.cqTail + x.cqSize - x.cqHead) % x.cqSize < x.cqSize - 1 →
        let s1 : State := { s with hqe := { s.hqe with last := q, qps := Table.set (fun _ => none) s.hqe.qps q (some { x with sqHead := head }) } }
        let refused (status info : Nat) : Prop := ∃ t, exec (.commandFetch entry) s = .next t ∧
          Completed s1 t q c.tag { x with sqHead := head } head 0 0 0 status info []
        (¬(opKnown c.op) ∨ (opAdmin c.op = true ∧ q ≠ 0) → refused St.invalidOpcode 0) ∧
        (opKnown c.op = true → (opAdmin c.op = true → q = 0) → c.fieldsOk = false → refused St.invalidField 0) ∧
        (opKnown c.op = true → (opAdmin c.op = true → q = 0) → c.fieldsOk = true →
          ∃ t, exec (.commandFetch entry) s = .next t ∧ t = { s1 with regs := t.regs, hqe := { s1.hqe with cmds := [c] } } ∧
            t.fld R.hqeStat F.hqeStat.INFLIGHT = 1 ∧ (∀ off, off ≠ R.hqeStat → t.reg off = s.reg off)))) ∧
    (∀ (q : Fin 1024) (x : Qp), s.qp q = some x →
      (x.unsig = 0 → exec (.coalesceTimeout q) s = .next s) ∧
      (x.unsig ≠ 0 → s.fld (R.hqeMsixCtrl x.vector) F.hqeMsixCtrl.MASK = 0 →
        ∃ t, exec (.coalesceTimeout q) s = .next t ∧
          t = { s with messages := x.vector :: s.messages, hqe := { s.hqe with qps := t.hqe.qps } } ∧ t.qp q = some { x with unsig := 0 } ∧
          (∀ p, p ≠ q.val → t.qp p = s.qp p)) ∧
      (∀ addr : BitVec 64, x.error = false → s.asyncQ.length < 64 → s.fld R.hqeQerr F.hqeQerr.VALID = 0 →
        (∃ t, exec (.hostFetchTimeout q none addr) s = .next t ∧ QueueFailed s t q x 3 (some addr.toNat) [R.hqeTmoCnt] ∧
          t.reg R.hqeTmoCnt = satInc (s.reg R.hqeTmoCnt)) ∧
        (∃ t, exec (.hostReadError q none addr) s = .next t ∧ QueueFailed s t q x 4 (some addr.toNat) [R.hqeBusCnt] ∧
          t.reg R.hqeBusCnt = satInc (s.reg R.hqeBusCnt))) ∧
      (∀ (tag : BitVec 16) (addr : BitVec 64) (c : Cmd), s.cmdOf q tag.toNat = some c → PlainQueue s q x → s.pack.loads = [] → s.streams = [] →
        s.fld R.hqeQerr F.hqeQerr.VALID = 1 →
        (∃ t, exec (.hostFetchTimeout q (some tag) addr) s = .next t ∧
          Completed s t q tag.toNat x c.sqHead 0 0 0 St.timeout 0 [R.hqeTmoCnt] ∧ t.reg R.hqeTmoCnt = satInc (s.reg R.hqeTmoCnt)) ∧
        (∃ t, exec (.hostReadError q (some tag) addr) s = .next t ∧
          Completed s t q tag.toNat x c.sqHead 0 0 0 St.busError 0 [R.hqeBusCnt] ∧ t.reg R.hqeBusCnt = satInc (s.reg R.hqeBusCnt)))) ∧
    (∀ (path : Path) (v : Fin 256) (w : Word), s.accessible path (R.hqeMsixCtrl v) = true →
      ((s.reg (R.hqePba (v / 32))).getLsbD (v % 32) = true →
        ∃ t, exec (.msixUnmask path v w) s = .next t ∧ t = { s with regs := t.regs, eff := t.eff, messages := v.val :: s.messages } ∧
          t.fld (R.hqeMsixCtrl v) F.hqeMsixCtrl.MASK = 0 ∧ (t.reg (R.hqePba (v / 32))).getLsbD (v % 32) = false ∧
          (∀ off, off ∉ [R.hqeMsixCtrl v, R.hqePba (v / 32)] → t.reg off = s.reg off)) ∧
      ((s.reg (R.hqePba (v / 32))).getLsbD (v % 32) = false →
        ∃ t, exec (.msixUnmask path v w) s = .next t ∧ s.sameBut t [R.hqeMsixCtrl v] ∧ t.fld (R.hqeMsixCtrl v) F.hqeMsixCtrl.MASK = 0)) ∧
    (let lost (i : Instr) : Prop := ∃ t, exec i s = .next t ∧ t.fld R.hqeStat F.hqeStat.HLOST = 1 ∧
        t = { s with regs := t.regs, pulses := addSorted s.pulses 241 } ∧ (∀ off, off ≠ R.hqeStat → t.reg off = s.reg off)
     (s.fld R.hqeCtl F.hqeCtl.HWD_EN = 0 ∨ s.hqe.jobs = [] → exec .hostWatchdogExpiry s = .next s) ∧
     (s.fld R.hqeCtl F.hqeCtl.HWD_EN = 1 → s.hqe.jobs ≠ [] → s.sec.loop = false → lost .hostWatchdogExpiry) ∧
     (s.hqe.jobs = [] → ∃ t, exec .hostLinkDown s = .next t ∧ s.sameBut t [R.hqeStat] ∧ t.fld R.hqeStat F.hqeStat.LINK = 0) ∧
     (s.hqe.jobs ≠ [] → s.fld R.hqeStat F.hqeStat.LINK ≠ 0 → s.sec.loop = false →
       lost .hostLinkDown ∧ ∃ t, exec .hostLinkDown s = .next t ∧ t.fld R.hqeStat F.hqeStat.LINK = 0)) ∧
    (∀ tunnel usb4 : Bool,
      (s.pdOn 128 = false → exec (.linkUp tunnel usb4) s = .next s) ∧
      (s.pdOn 128 = true →
        ∃ t, exec (.linkUp tunnel usb4) s = .next t ∧ t = { s with regs := t.regs, hqe := { s.hqe with d3hot := false } } ∧
          t.fld R.hqeStat F.hqeStat.LINK = (if tunnel ∧ usb4 ∧ s.fld R.sysStrap F.sysStrap.LINK = 0 then 1 else if usb4 then 2 else 3) ∧
          (∀ off, off ≠ R.hqeStat → t.reg off = s.reg off))) ∧
    (∃ t, exec .pciD3hot s = .next t ∧ t.hqe.d3hot = true ∧ t.hqe.qps = [] ∧ t.hqe.cmds = [] ∧ t.hqe.jobs = [] ∧
      t = { s with regs := t.regs, hqe := t.hqe, streams := t.streams, fab := t.fab } ∧ t.fld R.hqeAqCfg F.hqeAqCfg.EN = 0 ∧
      t.fld R.hqeStat F.hqeStat.INFLIGHT = 0 ∧ (∀ off, off ∉ [R.hqeStat, R.hqeAqCfg] → (∀ j, j < 16 → off ≠ R.hqeJob j) → t.reg off = s.reg off)) ∧
    (∀ (path : Path) (w : Word), s.accessible path R.hqeAqCfg = true →
      (s.fld R.hqeAqCfg F.hqeAqCfg.EN = 0 → F.hqeAqCfg.EN.get w = 1 →
        ∃ t, exec (.adminQueueEnable path w) s = .next t ∧ t = { s with regs := t.regs, eff := t.eff, hqe := { s.hqe with qps := t.hqe.qps } } ∧
          t.qp 0 = some { sqBase := s.reg64 R.hqeAqSqLo R.hqeAqSqHi, cqBase := s.reg64 R.hqeAqCqLo R.hqeAqCqHi, vector := 0,
                          sqSize := max 1 (F.hqeAqCfg.SQ_SIZE.get w) + 1, cqSize := max 1 (F.hqeAqCfg.CQ_SIZE.get w) + 1 } ∧
          (∀ p, p ≠ 0 → t.qp p = s.qp p) ∧ t.fld R.hqeAqCfg F.hqeAqCfg.EN = 1 ∧ (∀ off, off ≠ R.hqeAqCfg → t.reg off = s.reg off)) ∧
      (s.fld R.hqeAqCfg F.hqeAqCfg.EN = 1 → F.hqeAqCfg.EN.get w = 0 → s.hqe.cmds.any (fun c => c.qp == 0 && c.op != 0x04) = true →
        ∃ t, exec (.adminQueueEnable path w) s = .next t ∧ s.sameBut t [R.sysErrStat, R.sysErrAddr] ∧ t.fld R.sysErrStat F.sysErrStat.IDLE_WR = 1) ∧
      (s.fld R.hqeAqCfg F.hqeAqCfg.EN = 1 → F.hqeAqCfg.EN.get w = 0 → w &&& 0x0FFF0FFF = s.reg R.hqeAqCfg &&& 0x0FFF0FFF →
        s.hqe.cmds.any (fun c => c.qp == 0 && c.op != 0x04) = false →
        ∃ t, exec (.adminQueueEnable path w) s = .next t ∧
          t = { s with regs := t.regs, eff := t.eff, hqe := { s.hqe with qps := t.hqe.qps, cmds := s.hqe.cmds.filter (fun c => c.qp != 0) } } ∧
          t.qp 0 = none ∧ (∀ p, p ≠ 0 → t.qp p = s.qp p) ∧ t.fld R.hqeAqCfg F.hqeAqCfg.EN = 0 ∧
          (∀ off, off ∉ [R.hqeAqCfg, R.hqeStat] → t.reg off = s.reg off)))


/-- The registers that show jobs, occupancy and free spill (R394, R395). -/
def occRegs : List Nat := R.hqeSpillFree :: ((List.range 16).map R.hqeJob ++ (List.range 4).map R.hqeOcc)

/-- R314, R375, R387-R391, R393, R394, R397-R399, Table 11-6: what each queued command does when it starts on one plain queue pair: the results and
the status of its completion, or that it stays in flight; and what completes it later.
The model's own choices here: notes/assumptions/41 and 46. -/
def Obligations.HostCommands : Prop :=
  ∀ (s : State) (q : Fin 1024) (tag : BitVec 16) (c : Cmd) (x : Qp),
    let ready (op : Nat) : Prop := CommandReady s q tag.toNat op c x
    let ends (i : Instr) (s0 : State) (r0 r1 r2 status : Nat) (offs : List Nat) : Prop :=
      ∃ t, exec i s = .next t ∧ Completed s0 t q tag.toNat x c.sqHead r0 r1 r2 status 0 offs
    let refused (i : Instr) (status : Nat) : Prop := ends i s 0 0 0 status []
    (ready 0x00 →
      (c.addr0 % 64 ≠ 0 → refused (.identify q tag) St.invalidField) ∧
      (c.addr0 % 64 = 0 → ∃ m, ends (.identify q tag) { s with hostMem := m } 0 0 0 0 [] ∧
        hostAt { s with hostMem := m } c.addr0 20 = bytesLE 4 (s.reg R.sysId).toNat ++ bytesLE 2 1 ++ bytesLE 2 1024 ++ bytesLE 4 4096 ++
          bytesLE 4 3072 ++ bytesLE 4 (s.reg R.hqeSpillSize).toNat ∧
        (∀ a, a < c.addr0 ∨ c.addr0 + 4096 ≤ a → hostAt { s with hostMem := m } a 1 = hostAt s a 1))) ∧
    (ready 0x01 →
      let sq := bitsOf (c.arg 0) 0 12 + 1
      let cq := bitsOf (c.arg 0) 16 12 + 1
      let bad := c.target = 0 ∨ 1024 ≤ c.target ∨ sq < 2 ∨ cq < 2 ∨ c.addr0 % 4096 ≠ 0 ∨ c.addr1 % 4096 ≠ 0
      (bad → refused (.createQp q tag) St.invalidField) ∧ (¬bad → (s.qp c.target).isSome = true → refused (.createQp q tag) St.contextBusy) ∧
      (¬bad → s.qp c.target = none → ends (.createQp q tag) (s.setQp c.target (some { sqBase := c.addr0, cqBase := c.addr1, sqSize := sq, cqSize := cq, vector := bitsOf (c.arg 1) 0 8, coalN := bitsOf (c.arg 1) 8 8, coalUs := bitsOf (c.arg 1) 16 16 })) 0 0 0 0 [])) ∧
    (ready 0x02 →
      (c.target = q → refused (.deleteQp q tag) St.contextBusy) ∧
      (s.hqe.cmds.any (fun d => d.qp == c.target) = false →
        (c.target = 0 ∨ s.qp c.target = none → refused (.deleteQp q tag) St.invalidField) ∧
        (c.target ≠ 0 → (s.qp c.target).isSome = true → ends (.deleteQp q tag) (s.setQp c.target none) 0 0 0 0 []))) ∧
    (ready 0x03 →
      (s.cmdOf c.target (c.arg 0) = none → refused (.abort q tag) St.invalidField) ∧
      (∀ d, s.cmdOf c.target (c.arg 0) = some d →
        (d.op ∉ [0x04, 0x12, 0x20, 0x22] → refused (.abort q tag) St.contextBusy) ∧
        (d.op = 0x04 → c.target = q → x.cqTail + 2 < x.cqSize →
          ∃ t, exec (.abort q tag) s = .next t ∧ t.cmdOf q tag.toNat = none ∧ t.cmdOf q (c.arg 0) = none ∧
            hostAt t (x.cqBase + 32 * x.cqTail) 32 = completionBytes 0 0 0 s.sys.time.toNat d.sqHead q (c.arg 0) St.aborted 0 x.phase ∧
            hostAt t (x.cqBase + 32 * x.cqTail + 32) 32 = completionBytes 0 0 0 s.sys.time.toNat c.sqHead q tag.toNat 0 0 x.phase))) ∧
    (ready 0x04 →
      let waiting := (s.hqe.cmds.filter (fun d => d.op == 0x04)).length
      (waiting ≤ 8 → ∃ t, exec (.asyncEvent q tag) s = .next t ∧ CommandStarts s t q tag.toNat []) ∧
      (8 < waiting → refused (.asyncEvent q tag) St.noResource)) ∧
    (∀ ev rest, s.usual → PlainQueue s q x → s.asyncQ = ev :: rest → s.hqe.cmds.find? (fun d => d.op == 0x04 && d.started) = some c →
      c.qp = q → c.tag = tag.toNat → s.cmdOf q tag.toNat = some c →
      ends .asyncEventDeliver { s with asyncQ := rest } (ev.kind + ev.detail % 2 ^ 56 * 256) ev.result1 0 0 []) ∧
    (s.usual → s.asyncQ = [] → exec .asyncEventDeliver s = .next s) ∧
    (let sc := c.target
     let y := s.stream sc
     (ready 0x11 →
      (3072 ≤ sc ∨ y.opened = false → refused (.closeStream q tag) St.invalidField) ∧
      (sc < 3072 → y.opened = true → y.closing.isSome = true → refused (.closeStream q tag) St.contextBusy) ∧
      (sc < 3072 → y.opened = true → y.closing = none → y.saves = [] → y.writes = [] → y.reads = [] → y.held = false → y.state = 2 →
        (c.arg 0 % 2 = 1 → ∃ t, exec (.closeStream q tag) s = .next t ∧
          Completed { s with streams := t.streams, pack := t.pack, hqe := { s.hqe with stamp := t.hqe.stamp } } t q tag.toNat x c.sqHead
            y.bytes 0 0 0 0 occRegs ∧
          (t.stream sc).opened = false ∧ (t.stream sc).state = 3 ∧ (t.stream sc).closing = none ∧ (∀ k, k ≠ sc → t.stream k = s.stream k)) ∧
        (c.arg 0 % 2 = 0 → y.kind = 2 → y.ends = [] → y.spillN = 0 → ∃ t, exec (.closeStream q tag) s = .next t ∧
          CommandStarts { s with streams := t.streams, pack := t.pack, hqe := { s.hqe with stamp := t.hqe.stamp } } t q tag.toNat [] ∧
          (t.stream sc).closing = some (q.val, tag.toNat) ∧ (t.stream sc).finished = true ∧ (t.stream sc).opened = true ∧
          (∀ k, k ≠ sc → t.stream k = s.stream k)))) ∧
     (ready 0x13 →
      (3072 ≤ sc ∨ y.state = 0 ∨ c.addr0 % 64 ≠ 0 → refused (.saveContext q tag) St.invalidField) ∧
      (sc < 3072 → y.state ≠ 0 → c.addr0 % 64 = 0 → ∃ t, exec (.saveContext q tag) s = .next t ∧
        CommandStarts { s with streams := t.streams } t q tag.toNat [] ∧
        t.stream sc = { y with saves := y.saves ++ [(q.val, tag.toNat, c.addr0)] } ∧ (∀ k, k ≠ sc → t.stream k = s.stream k))) ∧
     (∀ block : List Byte, ready 0x10 →
      (sc < 3072 → y.state = 1 ∨ y.state = 2 ∨ y.state = 4 → refused (.openStream q tag block) St.contextBusy) ∧
      (3072 ≤ sc ∨ (s.hqe.scrubs = [] ∧ (y.state = 0 ∨ y.state = 3) ∧ blockOk block = false) → refused (.openStream q tag block) St.invalidField) ∧
      (sc < 3072 → s.hqe.scrubs = [] → y.state = 0 ∨ y.state = 3 → blockOk block = true →
        let quota := fieldAt block 0x38 4
        (s.fld R.hqeSpillFree F.hqeSpillFree.UNITS < quota → refused (.openStream q tag block) St.noResource) ∧
        (quota ≤ s.fld R.hqeSpillFree F.hqeSpillFree.UNITS → fieldAt block 0 1 ≠ 0 → ∃ t, exec (.openStream q tag block) s = .next t ∧
          Completed { s with streams := t.streams } t q tag.toNat x c.sqHead 0 0 0 0 0 occRegs ∧ (t.stream sc).opened = true ∧
          (t.stream sc).state = 2 ∧ (t.stream sc).kind = fieldAt block 0 1 ∧ (t.stream sc).job = fieldAt block 0xF 1 ∧
          (t.stream sc).quota = quota ∧ (t.stream sc).units = s.freeUnits.take quota ∧ (∀ k, k ≠ sc → t.stream k = s.stream k)))) ∧
     (∀ sgl, ready 0x12 → c.sgl = false →
      let reads := (c.arg 1).testBit 0
      let bad := 3072 ≤ sc ∨ y.opened = false ∨ (reads = true ∧ y.kind ≠ 1) ∨ c.addr0 % 64 ≠ 0 ∨ c.arg 0 % 64 ≠ 0
      let b : Posted := { qp := q, tag := tag.toNat, segs := [(c.addr0, c.arg 0)], size := c.arg 0, last := (c.arg 1).testBit 1 }
      (bad → refused (.postBuffer q tag sgl) St.invalidField) ∧
      (¬bad → reads = false → 0 < c.arg 0 → y.state ≠ 4 → y.finished = false → y.writes = [] → y.spillN = 0 → y.ends = [] →
        ∃ t, exec (.postBuffer q tag sgl) s = .next t ∧ CommandStarts { s with streams := t.streams } t q tag.toNat occRegs ∧
          t.stream sc = { y with writes := [b] } ∧ (∀ k, k ≠ sc → t.stream k = s.stream k)) ∧
      (¬bad → reads = true → y.state ≠ 4 → y.reads = [] → ∃ t, exec (.postBuffer q tag sgl) s = .next t ∧
        CommandStarts { s with streams := t.streams, hqe := { s.hqe with stamp := s.hqe.stamp + 1 } } t q tag.toNat [] ∧
        t.stream sc = { y with reads := [{ b with first := y.bytes + y.input.length }], closeStamp := s.hqe.stamp } ∧
        (∀ k, k ≠ sc → t.stream k = s.stream k))) ∧
     (∀ image : List Byte, ready 0x14 → s.boundStreams = [] →
      (sc < 3072 → y.opened = true ∨ (y.state ≠ 0 ∧ y.state ≠ 3) → refused (.restoreContext q tag image) St.contextBusy) ∧
      (sc < 3072 → y.opened = false → y.state = 0 ∨ y.state = 3 →
        (Stream.ofRecord image = none → refused (.restoreContext q tag image) St.invalidField) ∧
        (∀ y0, Stream.ofRecord image = some y0 → y0.state = 3 → 0 < c.arg 0 → c.arg 0 ≤ 32768 →
          c.arg 0 ≤ s.fld R.hqeSpillFree F.hqeSpillFree.UNITS → ∃ t, exec (.restoreContext q tag image) s = .next t ∧
          Completed { s with streams := t.streams } t q tag.toNat x c.sqHead 0 0 0 0 0 occRegs ∧
          t.stream sc = { y0 with kind := 0, quota := 0, job := bitsOf (c.arg 1) 0 4, opened := false, placed := y0.bytes })))) ∧
    (∀ sc : Fin 3072, s.usual →
      (∀ a, PlainQueue s q x → s.cmdOf q tag.toNat = some c → (s.stream sc).saves = [(q.val, tag.toNat, a)] →
        ∃ t m, exec (.contextSnapshot sc) s = .next t ∧
          Completed { s with streams := t.streams, hostMem := m } t q tag.toNat x c.sqHead 0 0 0 0 0 [] ∧
          hostAt { s with hostMem := m } a ((s.stream sc).record sc).length = (s.stream sc).record sc ∧
          t.stream sc = { s.stream sc with saves := [] } ∧ (∀ k, k ≠ sc.val → t.stream k = s.stream k)) ∧
      ((s.stream sc).saves = [] → exec (.contextSnapshot sc) s = .next s) ∧
      ((s.stream sc).closing = none → exec (.closeStreamComplete sc) s = .next s) ∧
      (PlainQueue s q x → s.cmdOf q tag.toNat = some c → (s.stream sc).closing = some (q.val, tag.toNat) → (s.stream sc).finished = true →
        (s.stream sc).spillN = 0 → (s.stream sc).writes = [] → (s.stream sc).state ≠ 4 →
        ∃ t, exec (.closeStreamComplete sc) s = .next t ∧
          Completed { s with streams := t.streams } t q tag.toNat x c.sqHead (s.stream sc).bytes (s.stream sc).endCrc 0 0 0 occRegs ∧
          (t.stream sc).opened = false ∧ (t.stream sc).state = 3 ∧ (∀ k, k ≠ sc.val → t.stream k = s.stream k))) ∧
    (let k := bitsOf c.target 4 2
     let slot := bitsOf c.target 0 4
     ready 0x20 →
      (s.hqe.jobs.any (fun j => j.slot == slot || j.path == k) = true → refused (.scanJob q tag) St.contextBusy) ∧
      (s.hqe.jobs = [] → s.pathOn k = false → refused (.scanJob q tag) St.invalidField) ∧
      (s.hqe.jobs = [] → s.pathOn k = true → (c.arg 2).testBit 8 = true → s.fld (R.pathLinks k) F.pathLinks.TRKS = 1 →
        ∃ t, exec (.scanJob q tag) s = .next t ∧
          CommandStarts { s with hqe := { s.hqe with jobs := [{ qp := q, tag := tag.toNat, slot := slot, path := k, trk := 0, docs := c.arg 0 }] } } t
            q tag.toNat (R.trkJob 0 :: occRegs) ∧
          t.fld (R.hqeJob slot) F.hqeJob.RUN = 1 ∧ t.fld (R.hqeJob slot) F.hqeJob.BOUND = 1 ∧ t.fld (R.hqeJob slot) F.hqeJob.PATH = k ∧
          t.reg (R.trkJob 0) = BitVec.ofNat 32 (c.arg 1))) ∧
    (let k := bitsOf c.target 0 2
     let put (s : State) (off : Nat) (row : RegRow) (v : Nat) : State := s.setReg off (row.written (s.reg off) (BitVec.ofNat 32 v))
     let s1 := put (put s (R.pathPolicy k) Row.pathPolicy (c.arg 0)) (R.pathOccthr k) Row.pathOccthr (c.arg 1)
     let s2 := (List.range 7).foldl (fun u i => put u (R.pathGthr k (i + 1)) Row.pathGthr (c.arg (2 + i))) s1
     ready 0x21 →
      (s2.policyBad k = true → refused (.setGaitPolicy q tag) St.invalidField) ∧
      (s2.policyBad k = false → ∃ t, exec (.setGaitPolicy q tag) s = .next t ∧
        Completed { s2 with eff := t.eff } t q tag.toNat x c.sqHead 0 0 0 0 0 [])) ∧
    (ready 0x22 → s.hqe.calibs = [] →
      let k : Calib := { qp := q, tag := tag.toNat, target := c.target % 4, mask := bitsOf c.target 4 4, store := c.target.testBit 8 }
      (c.target % 4 = 2 → s.auxIdle = true → s.fld R.auxCalCtl F.auxCalCtl.BUSY = 0 → ∃ t, exec (.calibrate q tag) s = .next t ∧
        CommandStarts { s with eff := t.eff, hqe := { s.hqe with calibs := [k] } } t q tag.toNat [R.auxCalCtl, R.auxStat] ∧
        t.fld R.auxCalCtl F.auxCalCtl.BUSY = 1 ∧ t.auxState = 3) ∧
      (c.target % 4 = 2 → s.auxIdle = false → ∃ t, exec (.calibrate q tag) s = .next t ∧
        Completed { s with eff := t.eff } t q tag.toNat x c.sqHead 0 0 0 St.contextBusy 0 [R.auxCalCtl, R.sysErrStat, R.sysErrAddr]) ∧
      (c.target % 4 = 3 → s.fld R.shdRecStat F.shdRecStat.BUSY = 0 → ∃ t, exec (.calibrate q tag) s = .next t ∧
        CommandStarts { s with hqe := { s.hqe with calibs := [{ k with saves := 1 }] } } t q tag.toNat [R.shdRecStat] ∧
        t.fld R.shdRecStat F.shdRecStat.BUSY = 1)) ∧
    (let e := c.target % 64
     let base := if e < 32 then R.auxRegSlotValue e else R.auxInjSlotValue (e - 32)
     ready 0x23 →
      (c.target.testBit 8 = true → ∃ t, exec (.readAux q tag) s = .next t ∧
        CommandStarts { s with hqe := { s.hqe with auxWaits := s.hqe.auxWaits ++ [(q.val, tag.toNat, e)] } } t q tag.toNat []) ∧
      (c.target.testBit 8 = false → e < 40 → ∃ t, exec (.readAux q tag) s = .next t ∧ t.cmdOf q tag.toNat = none ∧
        hostAt t (x.cqBase + 32 * x.cqTail) 32 = completionBytes ((s.reg base).toNat + 2 ^ 32 * (s.reg (base + 4)).toNat) 0 0
          (s.reg64 (base + 8) (base + 12)) c.sqHead q tag.toNat 0 0 x.phase)) ∧
    (let k := bitsOf c.target 0 2
     let cmd := bitsOf (c.arg 0) 0 4
     (ready 0x24 →
      (cmd < 3 ∨ 7 < cmd → refused (.transport q tag) St.invalidField) ∧
      (cmd = 7 → s.pathOn k = false → ends (.transport q tag) s 0 0 0 St.invalidField [R.pathStat k]) ∧
      (cmd = 6 → s.pathOn k = true → s.pathState k = 2 → ∃ t, exec (.transport q tag) s = .next t ∧
        CommandStarts { s with gait := t.gait } t q tag.toNat [R.pathStat k] ∧ (t.pathSt k).target = 0 ∧ (t.pathSt k).atRest = .halt)) ∧
     (s.usual → PlainQueue s q x → s.cmdOf q tag.toNat = some c → c.op = 0x24 → c.started = true →
      (cmd = 4 ∨ cmd = 5 ∨ cmd = 6 → s.pathState k = 1 → ends (.transportComplete q tag) s 0 0 0 0 []) ∧
      (cmd = 3 → s.pathState k = 2 → ends (.transportComplete q tag) s 0 0 0 0 []) ∧
      (cmd = 3 → s.pathState k ≠ 2 → exec (.transportComplete q tag) s = .next s))) ∧
    (let job := c.target % 16
     let ranges := ((List.range 4).map (fun i => (c.arg (2 * i), c.arg (2 * i + 1)))).filter (fun r => r.2 != 0)
     (ready 0x32 →
      (s.openStreams.any (fun sc => (s.stream sc).job == job) = true → refused (.scrub q tag) St.contextBusy) ∧
      (s.streams = [] → (∃ r ∈ ranges, 0x7C00 < r.1 + r.2) → refused (.scrub q tag) St.invalidField) ∧
      (s.streams = [] → (∀ r ∈ ranges, r.1 + r.2 ≤ 0x7C00) → ∃ t, exec (.scrub q tag) s = .next t ∧
        CommandStarts { s with hqe := { s.hqe with scrubs := s.hqe.scrubs ++ [job] } } t q tag.toNat [])) ∧
     (s.usual → PlainQueue s q x → s.cmdOf q tag.toNat = some c → c.op = 0x32 → c.started = true → s.streams = [] → ∃ t,
      exec (.scrubComplete q tag) s = .next t ∧
      Completed { s with mem := t.mem, sys := t.sys, hqe := { s.hqe with scrubs := s.hqe.scrubs.erase job } } t q tag.toNat x c.sqHead 0 0 0 0 0 [] ∧
      (∀ r ∈ ranges, ∀ a, pageBase + r.1 * 65536 ≤ a → a < pageBase + (r.1 + r.2) * 65536 → t.byte a = 0) ∧
      (∀ a, (∀ r ∈ ranges, a < pageBase + r.1 * 65536 ∨ pageBase + (r.1 + r.2) * 65536 ≤ a) → t.byte a = s.byte a))) ∧
    (∀ sgl (header : List Byte), ready 0x30 → c.sgl = false → header.length = 128 →
      let engines := setBits (c.arg 1 + 2 ^ 32 * c.arg 2 + 2 ^ 64 * c.arg 3) 96
      let status := s.loadRefused engines header (c.arg 0)
      (status ≠ 0 → refused (.loadImage q tag sgl header) status) ∧
      (status = 0 → ∃ t, exec (.loadImage q tag sgl header) s = .next t ∧
        CommandStarts { s with mem := t.mem, sys := t.sys, pack := t.pack } t q tag.toNat (engines.map R.engStat) ∧
        t.pack = { s.pack with loads := s.pack.loads ++ [{ cmd := some (q.val, tag.toNat), targets := engines, header := header }] } ∧
        (∀ n ∈ engines, t.fld (R.engStat n) F.engStat.IMG = 0 ∧
          ∀ a, engineData n ≤ a → a < engineData n + 0x14000 → t.byte a = 0)))


/-- Port k is ACTIVE without encryption or renewal, nothing waits there, and a packet of n flits may be sent at once (R434, R435). -/
abbrev PlainPort (s : State) (k n : Nat) : Prop :=
  k < 4 ∧ s.portState k = 5 ∧ s.fld (R.dlStat k) F.dlStat.ENC = 0 ∧ (s.port k).rekey = false ∧ (s.port k).queue = [] ∧
  (s.port k).replay.length < 64 ∧ n ≤ s.credits k 0 ∧ n ≤ s.credits k 1

/-- Port k has sent the packet, numbered and kept for replay, for one credit a flit of its virtual channel (R431, R434, R435); nothing else has
changed. -/
def PortSends (s t : State) (k : Nat) (p : TxPacket) : Prop :=
  t = { s with regs := t.regs, fab := { s.fab with ports := t.fab.ports } } ∧
  t.port k = { s.port k with txSeq := ((s.port k).txSeq + 1) % 128, replay := (s.port k).replay ++ [({ pkt := p, lseq := (s.port k).txSeq }, 0)], out := .packet { pkt := p, lseq := (s.port k).txSeq } :: (s.port k).out } ∧
  (∀ j, j ≠ k → t.port j = s.port j) ∧
  (∀ vc, vc < 2 → t.credits k vc = s.credits k vc -
    (if vc = (if p.type = 3 ∨ p.type = 4 then 1 else 0) then 1 + (p.payload.length + 15) / 16 else 0)) ∧
  (∀ off, off ≠ R.dlCred k → t.reg off = s.reg off)

/-- R400, R401, R433, R449, R465, Table 13-12: FABRIC_OP by its sub-operation: a refusal, an answer at once, or a command that stays in flight
with what was sent for it; its time limits; and the ring bridge, whose messages read and write registers, answer reads and fail
them, and count when their CRC is wrong.
The model's own choices here: notes/assumptions/42 and 46. -/
def Obligations.FabricOperationsAndBridge : Prop :=
  ∀ (s : State) (q : Fin 1024) (tag : BitVec 16) (c : Cmd) (x : Qp),
    let ready (n : Nat) : Prop := CommandReady s q tag.toNat 0x31 c x ∧ c.target % 256 = n
    let ends (i : Instr) (s0 : State) (r0 status : Nat) (offs : List Nat) : Prop :=
      ∃ t, exec i s = .next t ∧ Completed s0 t q tag.toNat x c.sqHead r0 0 0 status 0 offs
    let away (node : Nat) : Prop := node ≠ s.nodeId ∧ (4 ≤ s.routeTo node ∨ s.portState (s.routeTo node) ≠ 5)
    (ready 1 →
      (s.fabState ≠ 4 → ends (.fabricStatus q tag) s 0 St.noResource []) ∧
      (s.fabState = 4 → ∃ m, ends (.fabricStatus q tag) { s with hostMem := m } 0 0 [] ∧
        hostAt { s with hostMem := m } c.addr0 16 = bytesLE 2 (s.fld R.dlfEpoch F.dlfEpoch.EPOCH) ++ bytesLE 1 (s.fld R.dlfStat F.dlfStat.LEAD_ID) ++
          bytesLE 1 (s.fld R.dlfEpoch F.dlfEpoch.NODES) ++ bytesLE 1 4 ++ List.replicate 11 0 ∧
        (∀ n, 1 ≤ n → n < 255 → let e := Table.get (fun _ => (0, 0)) s.fab.members n
          hostAt { s with hostMem := m } (c.addr0 + 16 * n) 9 = bytesLE 8 e.1 ++ bytesLE 1 e.2) ∧
        (∀ a, a < c.addr0 ∨ c.addr0 + 4096 ≤ a → hostAt { s with hostMem := m } a 1 = hostAt s a 1))) ∧
    (ready 2 → s.activePorts = [] → ∃ t, exec (.fabricReform q tag) s = .next t ∧
      CommandStarts { s with fab := { s.fab with reforms := s.fab.reforms ++ [(q.val, tag.toNat)], advert := t.fab.advert } } t q tag.toNat [R.dlfEpoch] ∧
      t.fld R.dlfEpoch F.dlfEpoch.EPOCH = (s.fld R.dlfEpoch F.dlfEpoch.EPOCH + 1) % 65536) ∧
    (ready 3 →
      let node := c.arg 0
      let k := s.routeTo node
      (node = s.nodeId → ends (.fabricPing q tag) s 0 0 []) ∧
      (away node → ∃ t, exec (.fabricPing q tag) s = .next t ∧
        Completed s t q tag.toNat x c.sqHead 0 0 0 St.fabricUnreachable 0 [R.dlfUnreachCnt] ∧ t.reg R.dlfUnreachCnt = satInc (s.reg R.dlfUnreachCnt)) ∧
      (node ≠ s.nodeId → PlainPort s k 2 → ∃ t, exec (.fabricPing q tag) s = .next t ∧
        CommandStarts { s with fab := t.fab } t q tag.toNat [R.dlCred k] ∧
        t.fab.pings = s.fab.pings ++ [(q.val, tag.toNat, node, s.sys.time.toNat)] ∧
        (∃ out, (t.port k).out = .packet out :: (s.port k).out ∧ out.pkt.dst = node ∧ out.pkt.type = 6 ∧
          out.pkt.payload = [6, 0, 0, 0] ++ bytesLE 8 s.sys.time.toNat))) ∧
    (let node := c.arg 0
     let off := c.arg 1
     let len := c.arg 2
     let bad := len < 64 ∨ 65536 < len ∨ len % 64 ≠ 0 ∨ 2 ^ 31 < off + len
     let asks (write : Bool) (data : List Byte) : Prop := ∃ t, exec (if write then .remoteWrite q tag data else .remoteRead q tag) s = .next t ∧
       CommandStarts { s with fab := t.fab } t q tag.toNat [] ∧
       t.fab = { s.fab with
         copies := s.fab.copies ++ [{ qp := q, tag := tag.toNat, node := node, off := off, len := len, host := c.addr0, write := write }]
         waiting := s.fab.waiting ++ [{ who := .hqe q tag.toNat, node := node, off := off, len := len, write := write, data := (data.take len).map (fun b => (b, false)) }] }
     (ready 4 →
      (bad → ends (.remoteRead q tag) s 0 St.invalidField []) ∧
      (¬bad → node = s.nodeId → s.pdOn 127 = true → s.sys.bitErrs = [] → s.sys.poison = [] → ∃ m, ends (.remoteRead q tag) { s with hostMem := m } 0 0 [] ∧
        hostAt { s with hostMem := m } c.addr0 len = s.bytes (pageBase + off) len ∧
        (∀ a, a < c.addr0 ∨ c.addr0 + len ≤ a → hostAt { s with hostMem := m } a 1 = hostAt s a 1)) ∧
      (¬bad → len ≤ 256 → node ≠ s.nodeId → asks false [])) ∧
     (∀ data : List Byte, data.length = len → ready 5 →
      (bad → ends (.remoteWrite q tag data) s 0 St.invalidField []) ∧
      (¬bad → node = s.nodeId → s.pdOn 127 = true → s.sys.bitErrs = [] → s.sys.poison = [] → ∃ t, exec (.remoteWrite q tag data) s = .next t ∧
        Completed { s with mem := t.mem } t q tag.toNat x c.sqHead 0 0 0 0 0 [] ∧ t.bytes (pageBase + off) len = data ∧
        (∀ a, a < pageBase + off ∨ pageBase + off + len ≤ a → t.byte a = s.byte a)) ∧
      (¬bad → len ≤ 256 → node ≠ s.nodeId → asks true data))) ∧
    (ready 6 →
      let k := c.arg 0
      (4 ≤ k → ends (.fabricQuarantine q tag) s 0 St.invalidField []) ∧
      (k < 4 → (c.arg 1).testBit 0 = true → s.portState k ≠ 5 → ends (.fabricQuarantine q tag) s 0 0 []) ∧
      (k < 4 → (c.arg 1).testBit 0 = false → s.portState k = 6 → ∃ t, exec (.fabricQuarantine q tag) s = .next t ∧
        CommandStarts { s with fab := { s.fab with releases := [(q.val, tag.toNat, k)] } } t q tag.toNat [R.dlStat k] ∧ t.portState k = 1)) ∧
    (∀ full, ready 7 →
      let node := c.arg 0
      let e := c.arg 1
      (e = 0 ∨ 95 < e → ends (.fabricMailbox q tag full) s 0 St.invalidField []) ∧
      (1 ≤ e → e ≤ 95 → node = s.nodeId →
        ((s.eng e).inbox.length < 16 → ∃ t, exec (.fabricMailbox q tag full) s = .next t ∧
          Completed { s with pack := { s.pack with engines := t.pack.engines } } t q tag.toNat x c.sqHead 0 0 0 0 0 [R.engMbx e] ∧
          (t.eng e).inbox = (s.eng e).inbox ++ [(BitVec.ofNat 32 (c.arg 2), 0x19)] ∧ (∀ n, n ≠ e → t.eng n = s.eng n)) ∧
        (16 ≤ (s.eng e).inbox.length → ends (.fabricMailbox q tag full) s 0 St.noResource [])) ∧
      (1 ≤ e → e ≤ 95 → away node → ends (.fabricMailbox q tag full) s 0 St.fabricUnreachable [R.dlfUnreachCnt])) ∧
    (s.usual → PlainQueue s q x → s.cmdOf q tag.toNat = some c →
      (s.fab.pings.any (fun e => e.1 == q && e.2.1 == tag.toNat) = false → exec (.fabricPingTimeout q tag) s = .next s) ∧
      (∀ node time, s.fab.pings = [(q.val, tag.toNat, node, time)] →
        ends (.fabricPingTimeout q tag) { s with fab := { s.fab with pings := [] } } 0 St.timeout []) ∧
      exec (.quarantineReleaseTimeout q tag) s = .next s) ∧
    (s.settled → s.sec = { warm := s.sec.warm } → PlainQueue s q x → s.cmdOf q tag.toNat = some c →
      ∀ k, s.fab.releases = [(q.val, tag.toNat, k)] →
      ends (.quarantineReleaseTimeout q tag) { s with fab := { s.fab with releases := [] } } 0 St.timeout []) ∧
    (s.usual →
      (s.fld R.hqeStat F.hqeStat.LINK < 2 → ∀ addr w id data ok, ∀ i ∈ [Instr.bridgeRegWr addr w ok, .bridgeRegRd addr ok, .memData id data ok, .memErr id ok],
        exec i s = .next s) ∧
      (2 ≤ s.fld R.hqeStat F.hqeStat.LINK →
        (∀ addr w id data, ∀ i ∈ [Instr.bridgeRegWr addr w false, .bridgeRegRd addr false, .memData id data false, .memErr id false],
          ∃ t, exec i s = .next t ∧ s.sameBut t [R.hqeBrgErrCnt] ∧ t.reg R.hqeBrgErrCnt = satInc (s.reg R.hqeBrgErrCnt)) ∧
        (∀ (p : Fin 1024) (w : Word), exec (.bridgeRegWr (BitVec.ofNat 64 (2 ^ 63 + 16 * p)) w true) s = exec (.sqTailDoorbell p w) s ∧
          exec (.bridgeRegWr (BitVec.ofNat 64 (2 ^ 63 + 16 * p + 4)) w true) s = exec (.cqHeadDoorbell p w) s) ∧
        (∀ addr w, addr.toNat < 2 ^ 63 → exec (.bridgeRegWr addr w true) s = exec (.registerWrite .bar0 addr.toNat 4 w) s) ∧
        (s.accessible .bar0 R.hqeCtl = true → ∀ w, ∃ t, exec (.bridgeRegWr (BitVec.ofNat 64 R.hqeCtl) w true) s = .next t ∧
          s.sameBut t [R.hqeCtl] ∧ t.reg R.hqeCtl = Row.hqeCtl.written (s.reg R.hqeCtl) w) ∧
        (s.accessible .bar0 R.hqeCtl = true → exec (.bridgeRegRd (BitVec.ofNat 64 R.hqeCtl) true) s = .next { s with rdata := s.reg R.hqeCtl }) ∧
        (∀ (id : Word) (data : List Byte), exec (.memData id data true) s = .next { s with hqe := { s.hqe with
          reads := s.hqe.reads.map (fun r => if r.id = id.toNat then { r with got := (r.got ++ data).take r.len } else r) } }) ∧
        (∀ (id : Word) (r : HostRead) (y : Qp), s.hqe.reads = [r] → r.id = id.toNat → r.ring = true → s.qp r.qp = some y → y.error = false → r.qp < 1024 →
          r.addr < 2 ^ 64 → s.asyncQ.length < 64 → s.fld R.hqeQerr F.hqeQerr.VALID = 0 →
          ∃ t, exec (.memErr id true) s = .next t ∧
            QueueFailed { s with hqe := { s.hqe with reads := [] } } t r.qp y 4 (some r.addr) [R.hqeBusCnt]) ∧
        (∀ id : Word, s.hqe.reads = [] → exec (.memErr id true) s = .next s)))


/-! ## Internal DMA (chapter 12) -/

/-- Ring channel n's own state has become c and it has entered state st, shown in CHn_STAT, IDMA.BUSY and IDMA.HALTED; the other channels, the
registers not at offs and everything else stay (R411, Table 12-3). -/
def ChanEnters (s t : State) (n : Nat) (c : Chan) (st : Nat) (offs : List Nat) : Prop :=
  t = { s with regs := t.regs, eff := t.eff, idma := { s.idma with chans := t.idma.chans } } ∧ t.chan n = c ∧
  (∀ m, m ≠ n → t.chan m = s.chan m) ∧ t.chState n = st ∧
  (∀ j, j < 32 → (t.reg R.idmaBusy).getLsbD j = (if j = n then decide (st ≠ 0 ∧ st ≠ 7) else (s.reg R.idmaBusy).getLsbD j) ∧
    (t.reg R.idmaHalted).getLsbD j = (if j = n then decide (st = 7) else (s.reg R.idmaHalted).getLsbD j)) ∧
  (∀ off, off ∉ [R.chStat n, R.idmaBusy, R.idmaHalted] ++ offs → t.reg off = s.reg off)

/-- Ring channel n's own state has become c, in the state it was in. -/
def ChanStays (s t : State) (n : Nat) (c : Chan) (offs : List Nat) : Prop :=
  t = { s with regs := t.regs, eff := t.eff, idma := { s.idma with chans := t.idma.chans } } ∧ t.chan n = c ∧
  (∀ m, m ≠ n → t.chan m = s.chan m) ∧ t.chState n = s.chState n ∧ (∀ off, off ∉ offs → t.reg off = s.reg off)

/-- The position registers of ring channel n. -/
def chanPosition (n : Nat) : List Nat := [R.chSrcLo n, R.chSrcHi n, R.chDstLo n, R.chDstHi n, R.chRem n, R.chHold n]

/-- CHn_SRC, CHn_DST, CHn_REM and CHn_HOLD show the next beat, what is not yet written and the bytes held (R418). -/
def ShowsPosition (t : State) (n : Nat) (c : Chan) : Prop :=
  t.reg64 (R.chSrcLo n) (R.chSrcHi n) = c.srcNow ∧ t.reg64 (R.chDstLo n) (R.chDstHi n) = c.dstNow ∧
  t.fld (R.chRem n) F.chRem.REM = (c.len - c.wr) % 2 ^ 31 ∧ t.fld (R.chHold n) F.chHold.BYTES = c.hold.length % 32

/-- An error of channel ch is recorded: its counter, and IDMA.ERR with its address where none was latched (R420). -/
def IdmaRecords (s t : State) (ch cause dir kind addr : Nat) : Prop :=
  (∀ p ∈ [(1, R.idmaBusCnt), (2, R.idmaTmoCnt), (3, R.idmaEccCnt), (5, R.idmaLoopCnt)],
    t.reg p.2 = (if cause = p.1 then satInc (s.reg p.2) else s.reg p.2)) ∧
  (s.fld R.idmaErr F.idmaErr.VALID = 1 → ∀ off ∈ [R.idmaErr, R.idmaErrAddrLo, R.idmaErrAddrHi], t.reg off = s.reg off) ∧
  (s.fld R.idmaErr F.idmaErr.VALID = 0 →
    t.reg R.idmaErr = BitVec.ofNat 32 (1 + ch * 2 + dir * 2 ^ 7 + cause * 2 ^ 8 + kind * 2 ^ 12) ∧
    t.reg64 R.idmaErrAddrLo R.idmaErrAddrHi = addr)

/-- The registers in which a channel's error is recorded. -/
def idmaRecordRegs : List Nat :=
  [R.idmaBusCnt, R.idmaTmoCnt, R.idmaEccCnt, R.idmaLoopCnt, R.idmaErr, R.idmaErrAddrLo, R.idmaErrAddrHi]

/-- Ring channel n has halted (R420): cause, direction, kind and address are shown, the error is recorded, and its event fires. -/
def ChanHalts (s t : State) (n : Nat) (c : Chan) (cause dir kind addr : Nat) : Prop :=
  ChanEnters { s with pulses := addSorted s.pulses (64 + n) } t n c 7 ([R.chFaddrLo n, R.chFaddrHi n] ++ idmaRecordRegs) ∧
  t.fld (R.chStat n) F.chStat.CAUSE = cause ∧ t.fld (R.chStat n) F.chStat.DIR = dir ∧ t.fld (R.chStat n) F.chStat.KIND = kind ∧
  t.reg64 (R.chFaddrLo n) (R.chFaddrHi n) = addr ∧ IdmaRecords s t n cause dir kind addr

/-- R407, R411, R412, R418-R420: starts, kicks, polls and pace pulses of a ring channel in each of its states; pause, with the position it
shows, and resume; abort; and a bus error or timeout of the access it waits for.
The model's own choices here: notes/assumptions/47. -/
def Obligations.RingChannelsAreCommanded : Prop :=
  ∀ (s : State) (n : Fin 32) (path : Path) (w : Word), s.usual →
    let st := s.chState n
    let c := s.chan n
    let ctl := R.chCtl n
    let en := s.fld ctl F.chCtl.EN
    let pause := s.fld ctl F.chCtl.PAUSE
    let access' := s.accessible path ctl = true
    let enters (i : Instr) (c' : Chan) (st' : Nat) (offs : List Nat) : Prop := ∃ t, exec i s = .next t ∧ ChanEnters s t n c' st' offs
    let stays (i : Instr) (c' : Chan) (offs : List Nat) : Prop := ∃ t, exec i s = .next t ∧ ChanStays s t n c' offs
    let starts (i : Instr) (offs : List Nat) : Prop := ∃ t, exec i s = .next t ∧
      ChanEnters s t n { c with kicked := false, abort := false } 1 offs ∧ t.fld (R.chStat n) F.chStat.CAUSE = 0 ∧ t.fld (R.chStat n) F.chStat.JCNT = 0
    let ignored (i : Instr) (offs : List Nat) : Prop := ∃ t, exec i s = .next t ∧ ChanStays s t n c (R.chStat n :: offs) ∧
      t.fld (R.chStat n) F.chStat.START_IGN = 1
    let kicked (i : Instr) (offs : List Nat) : Prop :=
      (st = 2 → enters i { c with kicked := false } 1 offs) ∧
      (st = 1 ∨ st = 6 ∧ c.from_ = 1 → stays i { c with kicked := true } offs) ∧
      (st = 6 → c.from_ = 2 → stays i { c with from_ := 1, kicked := false } offs) ∧
      (st ∉ [1, 2, 6] → stays i c offs)
    let credit := s.fld (R.chPace n) F.chPace.CREDIT
    let begins (i : Instr) (have' : Nat) (offs : List Nat) : Prop :=
      (c.paced = true → have' = 0 → enters i c 3 offs) ∧
      (c.paced = true → 0 < have' → ∃ t, exec i s = .next t ∧ ChanEnters s t n c 4 (R.chPace n :: offs) ∧
        t.fld (R.chPace n) F.chPace.CREDIT = have' - 1 ∧ t.fld (R.chStat n) F.chStat.JCNT = 0)
    (s.selOn (R.chStartSel n) = false → exec (.channelStart n none) s = .next s) ∧
    (s.selOn (R.chStartSel n) = true → (st = 0 ∧ en = 1 → starts (.channelStart n none) []) ∧ (¬(st = 0 ∧ en = 1) → ignored (.channelStart n none) [])) ∧
    (access' → F.chCtl.EN.get w = 1 → F.chCtl.KICK.get w = 0 →
      (st = 0 → starts (.channelStart n (some (path, w))) [ctl]) ∧ (st ≠ 0 → st ≠ 6 → ignored (.channelStart n (some (path, w))) [ctl])) ∧
    (access' → F.chCtl.EN.get w = 0 → st = 0 → ignored (.channelStart n (some (path, w))) [ctl]) ∧
    (s.selOn (R.chKickSel n) = false → exec (.channelKick n none) s = .next s) ∧
    (s.selOn (R.chKickSel n) = true → kicked (.channelKick n none) []) ∧
    (access' → F.chCtl.EN.get w = 1 → F.chCtl.START.get w = 0 → F.chCtl.PAUSE.get w = 1 ∨ st ≠ 6 → kicked (.channelKick n (some (path, w))) [ctl]) ∧
    (st = 2 → s.fld R.idmaPoll F.idmaPoll.US ≠ 0 → pause = 0 → enters (.ownPoll n) c 1 []) ∧
    (st ≠ 2 ∨ s.fld R.idmaPoll F.idmaPoll.US = 0 ∨ pause = 1 → exec (.ownPoll n) s = .next s) ∧
    (s.selOn (R.chPaceSel n) = false → exec (.pacePulse n) s = .next s) ∧
    (s.selOn (R.chPaceSel n) = true →
      (st ≠ 3 ∨ pause = 1 → credit < 255 → ∃ t, exec (.pacePulse n) s = .next t ∧ ChanStays s t n c [R.chPace n] ∧
        t.fld (R.chPace n) F.chPace.CREDIT = credit + 1) ∧
      (st ≠ 3 ∨ pause = 1 → credit = 255 → ∃ t, exec (.pacePulse n) s = .next t ∧ ChanStays s t n c [R.chStat n] ∧
        t.fld (R.chStat n) F.chStat.PACE_OVF = 1) ∧
      (st = 3 → pause = 0 → credit < 255 → c.paced = true → ∃ t, exec (.pacePulse n) s = .next t ∧ ChanEnters s t n c 4 [R.chPace n] ∧
        t.fld (R.chPace n) F.chPace.CREDIT = credit)) ∧
    (access' → F.chCtl.EN.get w = 1 → F.chCtl.START.get w = 0 → F.chCtl.KICK.get w = 0 →
      (∃ t, exec (.channelPause path n w) s = .next t ∧ ChanStays s t n c [ctl] ∧ t.fld ctl F.chCtl.EN = 1 ∧ t.fld ctl F.chCtl.PAUSE = 1) ∧
      (st ≠ 6 → ∃ t, exec (.channelResume path n w) s = .next t ∧ ChanStays s t n c [ctl] ∧ t.fld ctl F.chCtl.PAUSE = 0) ∧
      (st = 6 → c.from_ ∈ [1, 2, 4] → ∃ t, exec (.channelResume path n w) s = .next t ∧ ChanEnters s t n c c.from_ [ctl] ∧ t.fld ctl F.chCtl.PAUSE = 0) ∧
      (st = 6 → c.from_ = 3 → begins (.channelResume path n w) credit [ctl])) ∧
    (let may := pause = 1 ∧ st ∈ [1, 2, 3, 4] ∧ c.wait = none ∧ ¬(st = 4 ∧ c.type = 1 ∧ (c.idx ≠ none ∨ c.hold ≠ []))
     (may → ∃ t, exec (.channelPaused n) s = .next t ∧ ChanEnters s t n { c with from_ := st } 6 (chanPosition n) ∧ ShowsPosition t n c) ∧
     (¬may → exec (.channelPaused n) s = .next s)) ∧
    (let gone (i : Instr) (s0 : State) (offs : List Nat) : Prop := ∃ t, exec i s = .next t ∧
       ChanEnters s0 t n { c with hold := [], wait := none, abort := false, kicked := false } 0 (R.chHold n :: offs) ∧
       t.fld (R.chStat n) F.chStat.CAUSE = 6 ∧ t.fld (R.chHold n) F.chHold.BYTES = 0
     (access' → F.chCtl.START.get w = 0 →
       (st = 0 → stays (.channelAbort path n w) c [ctl]) ∧
       (st = 7 → enters (.channelAbort path n w) c 0 [ctl]) ∧
       (st ≠ 0 → st ≠ 7 → c.wait = none → gone (.channelAbort path n w) s [ctl]) ∧
       (st ≠ 0 → st ≠ 7 → c.wait ≠ none → stays (.channelAbort path n w) { c with abort := true } [ctl])) ∧
     (∀ ch : Fin 40, ch.val = n.val →
       let lost : State := { s with fab := { s.fab with waiting := s.fab.waiting.filter (fun r => r.who != .ring n), remotes := s.fab.remotes.filter (fun r => r.who != .ring n) } }
       (c.wait = none → exec (.idmaBusTimeout ch) s = .next s ∧ exec (.idmaBusError ch) s = .next s) ∧
       (∀ p ∈ [(Instr.idmaBusTimeout ch, 2), (.idmaBusError ch, 1)],
         (c.wait ≠ none → c.abort = true → gone p.1 lost []) ∧
         (∀ k ∈ [(0, 0, s.chDesc n), (1, 0, (c.tbl + 4 * c.rd) % 2 ^ 40), (2, 0, c.srcNow), (3, 1, c.dstNow), (4, 1, s.chDesc n)],
           c.wait = some k.1 → c.abort = false →
             ∃ t, exec p.1 s = .next t ∧ ChanHalts lost t n { c with wait := none } p.2 k.2.1 k.1 k.2.2))))

/-- The descriptor of channel state c has been written: word 0 goes back to d with OWN = 0 and STATUS, the other bits as fetched. With FENCE
the channel waits in FENCE; without, its event fires if EV_DONE, and it goes to the next descriptor or to IDLE (R417). s is the
state before, p and data what the last write stored. -/
def DescriptorWritten (s t : State) (n : Nat) (c : Chan) (d p : Nat) (data : List Byte) : Prop :=
  let w0 := BitVec.ofNat 32 (c.word 0) &&& 0x00FFFFFE ||| (if c.poison then 0x11000000 else 0)
  t.bytes d 4 = bytesLE 4 w0.toNat ∧ (p + data.length ≤ d ∨ d + 4 ≤ p → t.bytes p data.length = data) ∧
  (∀ a, (a < d ∨ d + 4 ≤ a) → (a < p ∨ p + data.length ≤ a) → t.byte a = s.byte a) ∧
  (c.fenced = true → ChanEnters { s with mem := t.mem } t n c 5 (chanPosition n)) ∧
  (c.fenced = false →
    ChanEnters { s with mem := t.mem, pulses := if c.evDone then addSorted s.pulses (64 + n) else s.pulses } t n { c with kicked := false }
      (if c.isLast then 0 else 1) ([R.chDescLo n, R.chDescHi n] ++ chanPosition n) ∧
    t.chDesc n = (s.chDesc n + 32) % 2 ^ 40)

/-- R405, R407, R409, R410, R412, R413, R415-R417, R420: what a ring channel does with the descriptor it fetches; a COPY's beats, first or last first; a
GATHER's elements; the write-back, the fence and the event at the end; an access to another node's page store is asked for, and one
that leads nowhere halts the channel. Memory holds no error here.
The model's own choices here: notes/assumptions/47. -/
def Obligations.RingChannelsMoveData : Prop :=
  ∀ (s : State) (n : Fin 32), s.usual → s.sys.bitErrs = [] →
    let st := s.chState n
    let c := s.chan n
    let pause := s.fld (R.chCtl n) F.chCtl.PAUSE
    let d := s.chDesc n
    let asks (i : Instr) (kind node off len : Nat) (data : List (Byte × Bool)) : Prop := ∃ t, exec i s = .next t ∧
      ChanStays { s with fab := t.fab } t n { c with wait := some kind } [] ∧
      t.fab = { s.fab with waiting := s.fab.waiting ++ [{ who := .ring n, node := node, off := off, len := len, write := decide (3 ≤ kind), data := data }] }
    let halts (i : Instr) (c' : Chan) (cause dir kind addr : Nat) : Prop := ∃ t, exec i s = .next t ∧ ChanHalts s t n { c' with wait := none } cause dir kind addr
    let bits (l : List Byte) : List (Byte × Bool) := l.map (fun b => (b, false))
    (∀ i ∈ [Instr.descriptorFetch n, .idmaCopy n, .idmaGather n, .fenceAcknowledged n], c.wait ≠ none → exec i s = .next s) ∧
    (st ≠ 1 ∨ pause = 1 → exec (.descriptorFetch n) s = .next s) ∧
    (st ≠ 4 ∨ c.type ≠ 0 ∨ pause = 1 → exec (.idmaCopy n) s = .next s) ∧
    (st ≠ 4 ∨ c.type ≠ 1 ∨ (pause = 1 ∧ c.idx = none) → exec (.idmaGather n) s = .next s) ∧
    (st ≠ 5 → exec (.fenceAcknowledged n) s = .next s) ∧
    (c.wait = none → st = 5 → ∃ t, exec (.fenceAcknowledged n) s = .next t ∧
      ChanEnters { s with pulses := if c.evDone then addSorted s.pulses (64 + n) else s.pulses } t n { c with kicked := false }
        (if c.isLast then 0 else 1) [R.chDescLo n, R.chDescHi n] ∧ t.chDesc n = (d + 32) % 2 ^ 40) ∧
    (c.wait = none → st = 1 → pause = 0 →
      (s.target d 32 = .none → halts (.descriptorFetch n) c 1 0 0 d) ∧
      (∀ node off, s.target d 32 = .remote node off → asks (.descriptorFetch n) 0 node off 32 []) ∧
      (∀ m, s.target d 32 = .memory m → s.poisoned m = true → ∃ t, exec (.descriptorFetch n) s = .next t ∧ t.chState n = 7 ∧
        t.fld (R.chStat n) F.chStat.CAUSE = 3) ∧
      (∀ m, s.target d 32 = .memory m → s.sys.poison = [] →
        let f : Chan := { words := dwords (s.bytes m 32), from_ := c.from_ }
        let sa := foldWindow s.nodeId f.src
        let da := foldWindow s.nodeId f.dst
        let g : Chan := { f with desc := decide (f.type = 0 ∧ f.srcFix = false ∧ f.dstFix = false ∧ sa < da ∧ da < sa + f.len) }
        let jumps := s.fld (R.chStat n) F.chStat.JCNT
        let begun (st' : Nat) (offs : List Nat) : Prop := ∃ t, exec (.descriptorFetch n) s = .next t ∧ ChanEnters s t n g st' (offs ++ chanPosition n) ∧
          ShowsPosition t n g ∧ (st' = 4 → t.fld (R.chStat n) F.chStat.JCNT = 0) ∧
          (R.chPace n ∈ offs → t.fld (R.chPace n) F.chPace.CREDIT = s.fld (R.chPace n) F.chPace.CREDIT - 1)
        (f.own = false → c.kicked = true → ∃ t, exec (.descriptorFetch n) s = .next t ∧ ChanStays s t n g []) ∧
        (f.own = false → c.kicked = false → ∃ t, exec (.descriptorFetch n) s = .next t ∧ ChanEnters s t n g 2 []) ∧
        (f.own = true → f.checks = false → halts (.descriptorFetch n) g 4 0 0 d) ∧
        (f.own = true → f.checks = true → f.type = 2 →
          (jumps < 1023 → ∃ t, exec (.descriptorFetch n) s = .next t ∧ ChanStays s t n g [R.chStat n, R.chDescLo n, R.chDescHi n] ∧ t.chDesc n = f.src ∧
            t.fld (R.chStat n) F.chStat.JCNT = jumps + 1) ∧
          (jumps = 1023 → halts (.descriptorFetch n) g 5 0 0 d)) ∧
        (f.own = true → f.checks = true → f.type ≠ 2 →
          (f.paced = false → begun 4 []) ∧ (f.paced = true → s.fld (R.chPace n) F.chPace.CREDIT = 0 → begun 3 []) ∧
          (f.paced = true → 0 < s.fld (R.chPace n) F.chPace.CREDIT → begun 4 [R.chPace n])))) ∧
    (c.wait = none → st = 4 → c.type = 0 → pause = 0 →
      (c.hold.length < c.dw →
        (s.target c.srcNow c.sw = .none → halts (.idmaCopy n) c 1 0 2 c.srcNow) ∧
        (∀ node off, s.target c.srcNow c.sw = .remote node off → asks (.idmaCopy n) 2 node off c.sw []) ∧
        (∀ m, s.target c.srcNow c.sw = .memory m → s.sys.poison = [] →
          let g : Chan := { c with rd := c.rd + c.sw, hold := if c.desc then bits (s.bytes m c.sw) ++ c.hold else c.hold ++ bits (s.bytes m c.sw) }
          ∃ t, exec (.idmaCopy n) s = .next t ∧ ChanStays s t n g (chanPosition n) ∧ ShowsPosition t n g)) ∧
      (c.dw ≤ c.hold.length →
        let beat := if c.desc then c.hold.drop (c.hold.length - c.dw) else c.hold.take c.dw
        let rest := if c.desc then c.hold.take (c.hold.length - c.dw) else c.hold.drop c.dw
        let g : Chan := { c with wr := c.wr + c.dw, hold := rest }
        (s.target c.dstNow c.dw = .none → halts (.idmaCopy n) c 1 1 3 c.dstNow) ∧
        (∀ node off, s.target c.dstNow c.dw = .remote node off → asks (.idmaCopy n) 3 node off c.dw beat) ∧
        (∀ m data, s.target c.dstNow c.dw = .memory m → beat = bits data → s.sys.poison = [] →
          (c.wr + c.dw < c.len → ∃ t, exec (.idmaCopy n) s = .next t ∧ ChanStays { s with mem := t.mem } t n g (chanPosition n) ∧ ShowsPosition t n g ∧
            t.bytes m c.dw = data ∧ (∀ a, a < m ∨ m + c.dw ≤ a → t.byte a = s.byte a)) ∧
          (c.len ≤ c.wr + c.dw → ∀ k, s.target d 4 = .memory k →
            ∃ t, exec (.idmaCopy n) s = .next t ∧ DescriptorWritten s t n g k m data ∧ ShowsPosition t n g)))) ∧
    (c.wait = none → st = 4 → c.type = 1 → pause = 0 → c.idx = none → c.hold = [] →
      let a := (c.tbl + 4 * c.rd) % 2 ^ 40
      (s.target a 4 = .none → halts (.idmaGather n) c 1 0 1 a) ∧
      (∀ node off, s.target a 4 = .remote node off → asks (.idmaGather n) 1 node off 4 []) ∧
      (∀ m k p, s.target a 4 = .memory m → s.target ((c.src + natLE (s.bytes m 4) * c.sw) % 2 ^ 40) c.sw = .memory k →
        s.target (if c.dstFix then c.dst else (c.dst + c.wr * c.sw) % 2 ^ 40) c.sw = .memory p → s.sys.poison = [] →
        let g : Chan := { c with rd := c.rd + 1, wr := c.wr + 1 }
        (c.wr + 1 < c.len → ∃ t, exec (.idmaGather n) s = .next t ∧ ChanStays { s with mem := t.mem } t n g (chanPosition n) ∧ ShowsPosition t n g ∧
          t.bytes p c.sw = s.bytes k c.sw ∧ (∀ x, x < p ∨ p + c.sw ≤ x → t.byte x = s.byte x)) ∧
        (c.len ≤ c.wr + 1 → ∀ j, s.target d 4 = .memory j →
          ∃ t, exec (.idmaGather n) s = .next t ∧ DescriptorWritten s t n g j p (s.bytes k c.sw) ∧ ShowsPosition t n g)))

/-- R423-R425: a compatibility channel is enabled with its reload values or refused; a trigger gives a credit; an element moves, addresses and count
go on, and at the end the channel reloads or clears EN, with its event; EN = 0 stops after the element in progress; a bus error or
timeout stops it with CSR.ERR. The address recorded for a refusal, which the spec does not state, is free.
The model's own choices here: notes/assumptions/21 and 47. -/
def Obligations.CompatibilityChannels : Prop :=
  ∀ (s : State) (n : Fin 8) (path : Path) (w : Word), s.usual → s.sys.bitErrs = [] → s.sys.poison = [] →
    let ccr := R.ccCcr n
    let csr := R.ccCsr n
    let x := s.cc n
    let only (t : State) (c : Cc) (offs : List Nat) : Prop :=
      t = { s with regs := t.regs, eff := t.eff, idma := { s.idma with ccs := t.idma.ccs } } ∧ t.cc n = c ∧ (∀ m, m ≠ n.val → t.cc m = s.cc m) ∧
      (∀ off, off ∉ offs → t.reg off = s.reg off)
    let shows (t : State) (on : Nat) : Prop := t.fld ccr F.ccCcr.EN = on ∧ t.fld csr F.ccCsr.BUSY = on ∧ t.fld R.idmaCcStat ⟨n, 1⟩ = on
    let size := F.ccCcr.SIZE.get w
    let count := s.fld (R.ccTcr n) F.ccTcr.COUNT
    let bad := size = 3 ∨ count = 0 ∨ s.ccSrc n % 2 ^ size ≠ 0 ∨ s.ccDst n % 2 ^ size ≠ 0 ∨
      (size ≠ 2 ∧ (touchesMirror (s.ccSrc n) 1 = true ∨ touchesMirror (s.ccDst n) 1 = true))
    (s.accessible path ccr = true → s.fld ccr F.ccCcr.EN = 0 →
      (¬bad → ∃ t, exec (.ccEnable path n w) s = .next t ∧ shows t 1 ∧ t.reg ccr = Row.ccCcr.written (s.reg ccr) (w ||| 1) ∧
        only t { sar := (s.reg (R.ccSar n)).toNat, dar := (s.reg (R.ccDar n)).toNat, tcr := count } [ccr, csr, R.idmaCcStat]) ∧
      (bad → ∃ t, exec (.ccEnable path n w) s = .next t ∧ t.fld ccr F.ccCcr.EN = 0 ∧ t.fld csr F.ccCsr.ERR = 1 ∧ t.fld R.idmaCcStat ⟨8 + n, 1⟩ = 1 ∧
        t = { s with regs := t.regs, eff := t.eff, freeCount := t.freeCount } ∧
        (s.fld R.idmaErr F.idmaErr.VALID = 0 → t.fld R.idmaErr F.idmaErr.VALID = 1 ∧ t.fld R.idmaErr F.idmaErr.CAUSE = 4 ∧
          t.fld R.idmaErr F.idmaErr.CH = 32 + n) ∧
        (∀ off, off ∉ [ccr, csr, R.idmaCcStat, R.idmaErr, R.idmaErrAddrLo, R.idmaErrAddrHi] → t.reg off = s.reg off)) ∧
      (∃ t, exec (.ccDisable path n w) s = .next t ∧ s.sameBut t [ccr])) ∧
    (s.accessible path ccr = true → s.fld ccr F.ccCcr.EN = 1 → w &&& 0x1FFFE = s.reg ccr &&& 0x1FFFE →
      (x.wait = none → ∃ t, exec (.ccDisable path n w) s = .next t ∧ only t x [ccr, csr, R.idmaCcStat] ∧ shows t 0) ∧
      (x.wait ≠ none → ∃ t, exec (.ccDisable path n w) s = .next t ∧ only t { x with stop := true } [] ∧ t.fld ccr F.ccCcr.EN = 1)) ∧
    (let credit := s.fld (R.ccCred n) F.ccCred.CREDIT
     (s.selOn (R.ccTrigSel n) = false → exec (.ccTrigger n) s = .next s) ∧
     (s.selOn (R.ccTrigSel n) = true →
       (credit < 255 → ∃ t, exec (.ccTrigger n) s = .next t ∧ s.sameBut t [R.ccCred n] ∧ t.fld (R.ccCred n) F.ccCred.CREDIT = credit + 1) ∧
       (credit = 255 → ∃ t, exec (.ccTrigger n) s = .next t ∧ s.sameBut t [csr] ∧ t.fld csr F.ccCsr.OVF = 1)) ∧
     let en := s.fld ccr F.ccCcr.EN
     let trig := s.fld ccr F.ccCcr.TRIG
     let sz := s.ccSize n
     let moves (burst left : Nat) (offs : List Nat) : Prop :=
       (s.target (s.ccSrc n) sz = .none → x.hold = [] → ∃ t, exec (.ccElementMove n) s = .next t ∧ t.fld ccr F.ccCcr.EN = 0 ∧ t.fld csr F.ccCsr.ERR = 1 ∧
         IdmaRecords s t (32 + n) 1 0 2 (s.ccSrc n) ∧ t.pulses = s.pulses ∧ t.mem = s.mem) ∧
       (∀ node off, s.target (s.ccSrc n) sz = .remote node off → x.hold = [] → ∃ t, exec (.ccElementMove n) s = .next t ∧
         t = { s with regs := t.regs, eff := t.eff, fab := t.fab, idma := { s.idma with ccs := t.idma.ccs } } ∧
         t.cc n = { x with burst := burst, wait := some 2 } ∧
         t.fab = { s.fab with waiting := s.fab.waiting ++ [{ who := .compat n, node := node, off := off, len := sz, write := false }] }) ∧
       (∀ m k, s.target (s.ccSrc n) sz = .memory m → s.target (s.ccDst n) sz = .memory k → x.hold = [] → x.stop = false → 0 < count →
         ∃ t, exec (.ccElementMove n) s = .next t ∧
           t = { s with regs := t.regs, mem := t.mem, pulses := t.pulses, idma := { s.idma with ccs := t.idma.ccs } } ∧
           t.bytes k sz = s.bytes m sz ∧ (∀ a, a < k ∨ k + sz ≤ a → t.byte a = s.byte a) ∧
           (let sar := s.reg (R.ccSar n) + (if s.fld ccr F.ccCcr.SINC = 1 then BitVec.ofNat 32 sz else 0)
            let dar := s.reg (R.ccDar n) + (if s.fld ccr F.ccCcr.DINC = 1 then BitVec.ofNat 32 sz else 0)
            let again := count = 1 ∧ s.fld ccr F.ccCcr.CIRC = 1
            t.reg (R.ccSar n) = (if again then BitVec.ofNat 32 x.sar else sar) ∧ t.reg (R.ccDar n) = (if again then BitVec.ofNat 32 x.dar else dar) ∧
            t.fld (R.ccTcr n) F.ccTcr.COUNT = (if again then x.tcr % 2 ^ 24 else count - 1) ∧
            t.fld csr F.ccCsr.TC = (if count = 1 then 1 else s.fld csr F.ccCsr.TC) ∧
            t.fld ccr F.ccCcr.EN = (if count = 1 ∧ s.fld ccr F.ccCcr.CIRC = 0 then 0 else 1) ∧
            t.pulses = (if count = 1 ∧ s.fld ccr F.ccCcr.TCIE = 1 then addSorted s.pulses (96 + n) else s.pulses) ∧
            t.cc n = { x with burst := if count = 1 then 0 else left, wait := none } ∧ (∀ j, j ≠ n.val → t.cc j = s.cc j) ∧
            (∀ off, off ∉ [ccr, csr, R.idmaCcStat, R.ccSar n, R.ccDar n, R.ccTcr n] ++ offs → t.reg off = s.reg off)) ∧
           (R.ccCred n ∈ offs → t.fld (R.ccCred n) F.ccCred.CREDIT = credit - 1))
     (en = 0 ∨ x.wait ≠ none ∨ (trig = 1 ∧ x.burst = 0 ∧ credit = 0) → exec (.ccElementMove n) s = .next s) ∧
     (en = 1 → x.wait = none → trig = 0 ∨ 0 < x.burst → moves x.burst (x.burst - 1) []) ∧
     (en = 1 → x.wait = none → trig = 1 → x.burst = 0 → 0 < credit →
       moves (s.fld ccr F.ccCcr.BURST + 1) (s.fld ccr F.ccCcr.BURST) [R.ccCred n])) ∧
    (∀ ch : Fin 40, ch.val = 32 + n.val → ∀ p ∈ [(Instr.idmaBusTimeout ch, 2), (.idmaBusError ch, 1)],
      (x.wait = none → exec p.1 s = .next s) ∧
      (∀ k ∈ [(2, 0, s.ccSrc n), (3, 1, s.ccDst n)], x.wait = some k.1 → ∃ t, exec p.1 s = .next t ∧
        t = { s with regs := t.regs, fab := t.fab, idma := { s.idma with ccs := t.idma.ccs } } ∧
        t.cc n = { x with wait := none, hold := [], stop := false } ∧ shows t 0 ∧ t.fld csr F.ccCsr.ERR = 1 ∧ t.fld R.idmaCcStat ⟨8 + n, 1⟩ = 1 ∧
        IdmaRecords s t (32 + n) p.2 k.2.1 k.1 k.2.2 ∧
        (∀ off, off ∉ [ccr, csr, R.idmaCcStat] ++ idmaRecordRegs → t.reg off = s.reg off)))


/-! ## Links of the fabric (chapter 13) -/

/-- Only port k's own state and registers at offs have changed; port k's state is now x. -/
def PortBecomes (s t : State) (k : Nat) (x : Port) (offs : List Nat) : Prop :=
  t = { s with regs := t.regs, eff := t.eff, fab := { s.fab with ports := t.fab.ports } } ∧ t.port k = x ∧
  (∀ j, j ≠ k → t.port j = s.port j) ∧ (∀ off, off ∉ offs → t.reg off = s.reg off)

/-- Port k, the only ACTIVE one, with nothing queued, has left ACTIVE for state st (R439, R444, Table 13-9): its session has ended, its exit is counted and
signalled, and the fabric is ALONE, without a lead. -/
def LeavesActive (s t : State) (k st : Nat) (x : Port) (offs : List Nat) : Prop :=
  t = { s with regs := t.regs, eff := t.eff, pulses := t.pulses,
               fab := { s.fab with ports := t.fab.ports, leadPri := none, parent := none, topo := [], lastTopo := t.fab.lastTopo } } ∧
  t.port k = x ∧ (∀ j, j ≠ k → t.port j = s.port j) ∧ t.portState k = st ∧ t.fld (R.dlStat k) F.dlStat.ENC = 0 ∧ t.portRole k = 0 ∧
  t.reg (R.dlDownCnt k) = satInc (s.reg (R.dlDownCnt k)) ∧ 228 + k ∈ t.pulses ∧ (s.fab.leadPri ≠ none → 233 ∈ t.pulses) ∧ (∀ e ∈ s.pulses, e ∈ t.pulses) ∧
  t.fabState = 1 ∧ t.nodeId = 0 ∧ t.fld R.dlfStat F.dlfStat.LEAD = 0 ∧
  (∀ off, off ∉ [R.dlStat k, R.dlDownCnt k, R.dlfStat, R.dlfLeadUidLo, R.dlfLeadUidHi] ++ offs → t.reg off = s.reg off)

/-- What leaving a link keeps of a port: the failures counted, the quarantine time and what it has sent. -/
def afterLink (x : Port) : Port := { fails := x.fails, qtime := x.qtime, out := x.out }

/-- Port k, ACTIVE, has entered QUARANTINE with a cause (R464, Table 13-10): it has sent LEAVE, and EV239 fires. -/
def Quarantined (s t : State) (k cause : Nat) (offs : List Nat) : Prop :=
  let x := s.port k
  LeavesActive s t k 6 { fails := x.fails, qtime := s.fld R.dlfGuard F.dlfGuard.QTIME_MS, out := .word ⟨6, []⟩ :: x.out } offs ∧
  t.fld (R.dlStat k) F.dlStat.QCAUSE = cause ∧ 239 ∈ t.pulses

/-- Port k, in AUTH, has entered QUARANTINE with cause AUTH (R441): the n-th failure in a row stays 2^(n-1) times as long, at most 64. -/
def AuthFails (s t : State) (k : Nat) (sent : List Out) (offs : List Nat) : Prop :=
  let x := s.port k
  PortBecomes { s with pulses := addSorted s.pulses 239 } t k
    { fails := x.fails + 1, qtime := s.fld R.dlfGuard F.dlfGuard.QTIME_MS * 2 ^ min 6 x.fails, out := sent ++ x.out }
    ([R.dlStat k, R.dlfAuthFailCnt] ++ offs) ∧
  t.portState k = 6 ∧ t.fld (R.dlStat k) F.dlStat.QCAUSE = 1 ∧ t.reg R.dlfAuthFailCnt = satInc (s.reg R.dlfAuthFailCnt)

/-- The packet that port k expects next, whole and with its CRC, on a link that is not encrypted unless it is AUTH (R432, R435, R442). -/
abbrev GoodPacket (s : State) (k type : Nat) (p : Packet) : Prop :=
  p.lseq.toNat = (s.port k).rxSeq ∧ p.plen.toNat ≤ 256 ∧ p.payload.length = (if type = 1 ∨ type = 4 then 0 else p.plen.toNat) ∧
  packetCrc type p.dst.toNat p.src.toNat p.tag.toNat p.arg.toNat p.payload = p.pcrc.toNat ∧
  (type = 7 ∨ s.fld (R.dlStat k) F.dlStat.ENC = 0)

/-- The FLOW word that answers a packet accepted on port k: the flits freed on each virtual channel, and its number (R434, R435). -/
def flowFor (x : Port) (type : Nat) (p : Packet) : Out :=
  let n := 1 + (p.payload.length + 15) / 16
  let vc1 := type = 3 ∨ type = 4
  .word ⟨2, bytesLE 2 ((x.own0 + if vc1 then 0 else n) % 65536) ++ bytesLE 2 ((x.own1 + if vc1 then n else 0) % 65536) ++
    [BitVec.ofNat 8 (128 + p.lseq.toNat), 0]⟩

/-- R430, R434, R435, R437-R442, R452, R453, R455, R456, R464, Tables 13-2, 13-5, 13-6, 13-9 and 13-10: the fabric's and the ports' enables; each transition of a port; what it
sends for FLOW, TS_REQ, LCLK and AUTH words and packets; replays, errors and time limits; renewal and time exchanges.
The model's own choices here: notes/assumptions/22, 24 and 49. -/
def Obligations.PortsAndLinks : Prop :=
  ∀ (s : State) (path : Path) (k : Fin 4) (w : Word), s.usual →
    let x := s.port k
    let st := s.portState k
    let ctl := R.dlCtl k
    let ctlOpen := s.accessible path ctl = true
    let cfgOpen := s.accessible path R.dlfCfg = true
    let ready (j : Nat) := s.fld (R.dlCtl j) F.dlCtl.EN = 1 ∧ s.pdOn (121 + j) = true
    let quietPort := x.replay = [] ∧ x.queue = []
    let onlyActive := s.activePorts = [k.val] ∧ 1 < s.fabState ∧ quietPort
    let same (i : Instr) : Prop := exec i s = .next s
    let becomes (i : Instr) (y : Port) (st' : Nat) (offs : List Nat) : Prop :=
      ∃ t, exec i s = .next t ∧ PortBecomes s t k y (R.dlStat k :: offs) ∧ t.portState k = st'
    let sends (i : Instr) (o : Out) : Prop := ∃ t, exec i s = .next t ∧ PortBecomes s t k { x with out := o :: x.out } []
    let quarantined (i : Instr) (cause : Nat) (offs : List Nat) : Prop := ∃ t, exec i s = .next t ∧ Quarantined s t k cause offs
    -- the fabric's enable
    (cfgOpen → (∀ j, j < 4 → s.portState j = 0) →
      (∃ t, exec (.fabricEnable path w) s = .next t ∧ s.sameBut t ([R.dlfCfg, R.dlfStat] ++ (List.range 4).map R.dlStat) ∧
        t.reg R.dlfCfg = Row.dlfCfg.written (s.reg R.dlfCfg) (w ||| 1) ∧ t.fabState = (if s.fabState = 0 then 1 else s.fabState) ∧
        (∀ j, j < 4 → (ready j → t.portState j = 1) ∧ (¬ready j → t.portState j = 0))) ∧
      (∃ t, exec (.fabricDisable path w) s = .next t ∧ t.fabState = 0 ∧ t.reg R.dlfCfg = Row.dlfCfg.written (s.reg R.dlfCfg) (w &&& 0xFFFFFFFE) ∧
        t = { s with regs := t.regs, eff := t.eff, pulses := if s.fab.leadPri.isSome then addSorted s.pulses 233 else s.pulses,
                     fab := { s.fab with leadPri := none, parent := none, topo := [] } } ∧
        (∀ off, off ∉ [R.dlfCfg, R.dlfStat, R.dlfLeadUidLo, R.dlfLeadUidHi] → t.reg off = s.reg off))) ∧
    -- a port's enable and commands
    (ctlOpen → w &&& 0xE = 0 →
      (st = 0 → becomes (.portEnable path k w) x (if s.fld R.dlfCfg F.dlfCfg.EN = 1 ∧ s.pdOn (121 + k) = true then 1 else 0) [ctl]) ∧
      (st = 0 → ∃ t, exec (.portDisable path k w) s = .next t ∧ s.sameBut t [ctl] ∧ t.fld ctl F.dlCtl.EN = 0) ∧
      (st ∉ [0, 5] → becomes (.portDisable path k w) (afterLink x) 0 [ctl]) ∧
      (st = 5 → onlyActive → ∃ t, exec (.portDisable path k w) s = .next t ∧ LeavesActive s t k 0 { afterLink x with out := .word ⟨6, []⟩ :: x.out } [ctl])) ∧
    (ctlOpen → F.dlCtl.EN.get w = 1 → s.fld R.dlfCfg F.dlfCfg.EN = 1 → s.pdOn (121 + k) = true → w &&& 0xE = 0 →
      (st ∉ [0, 2, 3, 4, 5] → ∃ t, exec (.portRetrain path k w) s = .next t ∧ s.sameBut t [ctl]) ∧
      (st ∈ [2, 3, 4] → becomes (.portRetrain path k w) (afterLink x) 1 [ctl]) ∧
      (st = 5 → onlyActive → ∃ t, exec (.portRetrain path k w) s = .next t ∧ LeavesActive s t k 1 (afterLink x) [ctl]) ∧
      (st ∉ [0, 6] → ∃ t, exec (.portRelease path k w) s = .next t ∧ s.sameBut t [ctl]) ∧
      (st = 6 → becomes (.portRelease path k w) x 1 [ctl]) ∧
      (st ∉ [0, 5] → ∃ t, exec (.portQuarantineForce path k w) s = .next t ∧ s.sameBut t [ctl]) ∧
      (st = 5 → onlyActive → quarantined (.portQuarantineForce path k w) 7 [ctl])) ∧
    -- link words and time limits
    same (.idle k) ∧
    (st = 1 → becomes (.portSignalDetect k) x 2 []) ∧ (st ≠ 1 → same (.portSignalDetect k)) ∧
    (st = 6 → becomes (.quarantineExpiry k) x 1 []) ∧ (st ≠ 6 → same (.quarantineExpiry k)) ∧
    (∀ i ∈ [Instr.linkWordTimeout k, .leave k],
      (st ∉ [2, 3, 4, 5] → same i) ∧ (st ∈ [2, 3, 4] → becomes i (afterLink x) 1 []) ∧
      (st = 5 → onlyActive → ∃ t, exec i s = .next t ∧ LeavesActive s t k 1 (afterLink x) [])) ∧
    (st ≠ 4 → same (.authTimeout k)) ∧
    (st = 4 → ∃ t, exec (.authTimeout k) s = .next t ∧ AuthFails s t k [.word ⟨6, []⟩] []) ∧
    (∀ count locked aligned,
      (¬(st = 2 ∧ locked = 1 ∧ aligned = true) → same (.train k count locked aligned)) ∧
      (st = 2 → locked = 1 → aligned = true →
        ∃ t nonce, exec (.train k count locked aligned) s = .next t ∧
          t = { s with regs := t.regs, freeCount := t.freeCount, fab := { s.fab with ports := t.fab.ports } } ∧ t.portState k = 3 ∧ t.credits k 0 = 381 ∧
          t.credits k 1 = 128 ∧ nonce.length = 16 ∧ (t.port k).nonce = nonce ∧ (t.port k).txSeq = 1 ∧ (t.port k).rxSeq = 0 ∧
          (∃ caps p, (t.port k).out = .packet ⟨p, 0, none⟩ :: x.out ∧ p.type = 7 ∧ p.dst = 0 ∧ p.src = 0 ∧
            p.payload = [1, 0, 0, 0] ++ bytesLE 8 s.uid ++ nonce ++ [caps] ∧ caps.getLsbD 0 = decide (s.fld R.dlfCfg F.dlfCfg.ENC_REQ = 1) ∧
            caps.getLsbD 1 = decide ((t.port k).key ≠ [])) ∧
          (∀ j, j ≠ k.val → t.port j = s.port j) ∧ (∀ off, off ∉ [R.dlStat k, R.dlCred k] → t.reg off = s.reg off))) ∧
    (∀ (vc0 vc1 : BitVec 16) (ack nak : BitVec 8),
      (st ∉ [3, 4, 5] → same (.flow k vc0 vc1 ack nak)) ∧
      (st = 5 → x.queue = [] → nak.toNat < 128 → ∀ before after e, x.replay = before ++ e :: after → 128 ≤ ack.toNat → e.1.lseq = ack.toNat - 128 →
        (∀ f ∈ before, f.1.lseq ≠ e.1.lseq) →
        ∃ t, exec (.flow k vc0 vc1 ack nak) s = .next t ∧
          PortBecomes s t k { x with freed0 := vc0.toNat, freed1 := vc1.toNat, replay := after } [R.dlCred k] ∧
          t.credits k 0 = (s.credits k 0 + (vc0.toNat + 65536 - x.freed0) % 65536) % 65536 ∧
          t.credits k 1 = (s.credits k 1 + (vc1.toNat + 65536 - x.freed1) % 65536) % 65536)) ∧
    (∀ q n, x.replay = [(q, n)] → x.queue = [] → n < 3 → st = 5 → s.fld (R.dlStat k) F.dlStat.ENC = 0 →
      let again (i : Instr) (y : Port) (offs : List Nat) : Prop := ∃ t, exec i s = .next t ∧
        PortBecomes s t k { y with replay := [(q, n + 1)], out := .packet q :: x.out } (R.dlReplayCnt k :: offs) ∧ t.reg (R.dlReplayCnt k) = satInc (s.reg (R.dlReplayCnt k))
      again (.replayTimeout k) x [] ∧
      ∀ nak : BitVec 8, nak.toNat = 128 + q.lseq →
        again (.flow k (BitVec.ofNat 16 x.freed0) (BitVec.ofNat 16 x.freed1) 0 nak) { x with freed0 := x.freed0 % 65536, freed1 := x.freed1 % 65536 } [R.dlCred k]) ∧
    (x.replay = [] → same (.replayTimeout k)) ∧
    (∀ (seq : BitVec 8) (t1 t2 t3 : BitVec 56),
      (st ≠ 5 → same (.tsReq k seq t1 t2 t3)) ∧
      (st = 5 → sends (.tsReq k seq t1 t2 t3) (.word ⟨4, bytesLE 1 seq.toNat ++ bytesLE 7 t2.toNat ++ bytesLE 7 t3.toNat⟩))) ∧
    (∀ t1 : BitVec 56,
      (s.fab.parent = none → same (.timeSyncTimer t1)) ∧
      (s.fab.parent = some k.val → ∃ t, exec (.timeSyncTimer t1) s = .next t ∧
        let q := (s.fab.tsSeq + 1) % 256
        PortBecomes { s with fab := { s.fab with tsSeq := q, tsOut := some t1.toNat } } t k { x with out := .word ⟨3, bytesLE 1 q ++ bytesLE 7 t1.toNat⟩ :: x.out } [])) ∧
    (∀ (seq : BitVec 8) (t2 t3 t4 : BitVec 56),
      (s.fab.tsOut = none ∨ s.fab.parent ≠ some k.val ∨ seq.toNat ≠ s.fab.tsSeq ∨ st ≠ 5 → same (.tsRsp k seq t2 t3 t4)) ∧
      (∀ t1, s.fab.tsOut = some t1 → s.fab.parent = some k.val → seq.toNat = s.fab.tsSeq → st = 5 →
        let d := floorDiv (diff56 t4.toNat t1 - diff56 t3.toNat t2.toNat) 2
        let th := floorDiv (diff56 t2.toNat t1 - diff56 t4.toNat t3.toNat - signed 16 (s.fld (R.dlAsym k) F.dlAsym.A)) 2
        ∃ t, exec (.tsRsp k seq t2 t3 t4) s = .next t ∧
          t = { s with regs := t.regs, sys := { s.sys with time := t.sys.time }, pulses := t.pulses, freeCount := t.freeCount,
                       fab := { s.fab with tsOut := none, near := t.fab.near, far := t.fab.far, lockedOnce := t.fab.lockedOnce, rate := t.fab.rate, frac := t.fab.frac } } ∧
          t.fld (R.dlDelay k) F.dlDelay.D = unsigned 24 d ∧ t.fld R.dlfTimeStat F.dlfTimeStat.OFS = unsigned 16 (clampInt (-32768) 32767 th) ∧
          (s.fab.lockedOnce = true ∨ th.natAbs ≤ 16384 → t.sys.time = s.sys.time ∧ t.fab.frac = s.fab.frac ∧ t.fab.rate.natAbs ≤ 3355) ∧
          (s.fab.lockedOnce = false → 16384 < th.natAbs → t.fld R.dlfTimeStat F.dlfTimeStat.STEP = 1 ∧ t.fab.rate = s.fab.rate) ∧
          (s.fld R.dlfTimeStat F.dlfTimeStat.LOCK = 0 → 16 ≤ s.fab.near → th.natAbs ≤ 51 → t.fld R.dlfTimeStat F.dlfTimeStat.LOCK = 1 ∧ t.pulses = addSorted s.pulses 234) ∧
          (s.fld R.dlfTimeStat F.dlfTimeStat.LOCK = 1 → 256 < th.natAbs →
            t.fld R.dlfTimeStat F.dlfTimeStat.LOCK = (if 3 ≤ s.fab.far then 0 else 1) ∧
            (3 ≤ s.fab.far → t.fld R.dlfTimeStat F.dlfTimeStat.UNLOCK = 1 ∧ t.pulses = addSorted s.pulses 235)) ∧
          (∀ off, off ∉ [R.dlDelay k, R.dlfTimeStat] → t.reg off = s.reg off))) ∧
    (∀ (tick : Word) (stamp : BitVec 48),
      (s.fab.parent ≠ some k.val ∨ st ≠ 5 → same (.lclk k tick stamp)) ∧
      (s.fab.parent = some k.val → st = 5 → s.fab.seenTick = none ∨ s.fab.seenTick = some (tick.toNat - 1) →
        s.sys.time.toNat < stamp.toNat → stamp.toNat < 2 ^ 47 →
        ∃ t, exec (.lclk k tick stamp) s = .next t ∧
          t = { s with fab := { s.fab with ports := t.fab.ports, seenTick := some tick.toNat }, tsq := { s.tsq with ticks := t.tsq.ticks } } ∧
          (∀ j, t.port j = (if j < 4 ∧ s.portState j = 5 ∧ s.portRole j = 2
            then { s.port j with out := .word ⟨5, bytesLE 4 tick.toNat ++ bytesLE 6 stamp.toNat⟩ :: (s.port j).out } else s.port j)) ∧
          t.tsq.ticks = s.tsq.ticks ++ (if s.tickPrograms = [] then []
            else [{ tick := tick.toNat, stamp := stamp.toNat * 16 - s.fab.frac / 2 ^ 20, late := false, skip := false, left := s.tickPrograms }]))) ∧
    (∀ n, (st ≠ 5 → same (.partialPacketTimeout k n)) ∧
      (st = 5 → x.ack = none → ∃ t, exec (.partialPacketTimeout k n) s = .next t ∧
        PortBecomes s t k { x with ack := none, nak := none, out := .word ⟨2, bytesLE 2 x.own0 ++ bytesLE 2 x.own1 ++ [0, BitVec.ofNat 8 (128 + x.rxSeq)]⟩ :: x.out }
          [R.dlfHoldCnt, R.dlfOrphanCnt] ∧
        t.reg R.dlfHoldCnt = satInc (s.reg R.dlfHoldCnt) ∧ (t.reg R.dlfOrphanCnt).toNat = min (2 ^ 32 - 1) ((s.reg R.dlfOrphanCnt).toNat + n))) ∧
    (∀ p, x.queue = [p] → x.replay = [] → p.type = 6 → s.activePorts = [k.val] → 1 < s.fabState →
      let need := 1 + (p.payload.length + 15) / 16 + s.fld (R.dlStat k) F.dlStat.ENC
      (s.credits k 0 < need → quarantined (.creditStarvation k) 5 [R.dlfUnreachCnt]) ∧
      (need ≤ s.credits k 0 → same (.creditStarvation k))) ∧
    (x.queue = [] → same (.creditStarvation k)) ∧
    (let recent' := s.sys.time.toNat :: x.errs.filter (fun u => decide (s.sys.time.toNat < u + 800000000))
     ∀ inPacket,
      (st ∉ [3, 4, 5] → same (.flitTransmissionError k inPacket)) ∧
      (st ∈ [3, 4, 5] → recent'.length ≤ s.fld R.dlfGuard F.dlfGuard.ERR_LIM → x.ack = none → x.nak = none →
        ∃ t, exec (.flitTransmissionError k inPacket) s = .next t ∧
          PortBecomes s t k { x with errs := recent', out := (if inPacket then [.word ⟨2, bytesLE 2 x.own0 ++ bytesLE 2 x.own1 ++ [0, BitVec.ofNat 8 (128 + x.rxSeq)]⟩] else []) ++ x.out }
            [R.dlTerrCnt k] ∧ t.reg (R.dlTerrCnt k) = satInc (s.reg (R.dlTerrCnt k))) ∧
      (st = 5 → onlyActive → s.fld R.dlfGuard F.dlfGuard.ERR_LIM < recent'.length →
        quarantined (.flitTransmissionError k inPacket) 3 [R.dlTerrCnt k])) ∧
    (st ≠ 5 → same (.protocolViolation k)) ∧ (onlyActive → quarantined (.protocolViolation k) 6 []) ∧
    (let due := st = 5 ∧ s.fld (R.dlStat k) F.dlStat.ENC = 1 ∧ x.rekey = false
     (¬due → same (.sessionRekey k)) ∧
     (due → x.queue = [] → x.replay.length < 64 → 3 ≤ s.credits k 0 →
       ∃ t p, exec (.sessionRekey k) s = .next t ∧ t.portState k = 5 ∧ (t.port k).rekey = true ∧
         t = { s with regs := t.regs, freeCount := t.freeCount, fab := { s.fab with ports := t.fab.ports } } ∧
         (t.port k).out = .packet ⟨p, x.txSeq, none⟩ :: x.out ∧ p.type = 7 ∧ p.payload.length = 29 ∧ p.payload.take 12 = [1, 0, 0, 0] ++ bytesLE 8 s.uid ∧
         (∀ off, off ≠ R.dlCred k → t.reg off = s.reg off))) ∧
    -- authentication
    (∀ p : Packet, GoodPacket s k 7 p →
      let said (n : Nat) := p.payload.head? = some (BitVec.ofNat 8 n)
      let peer := s.peerUid k
      let mac (key nonce theirs : List Byte) (peer' : Nat) (role : Byte) : List Byte :=
        hmac key ([0x44, 0x4C, 0x46, 0x31, role] ++
          (if s.uid < peer' then bytesLE 8 s.uid ++ bytesLE 8 peer' ++ nonce ++ theirs else bytesLE 8 peer' ++ bytesLE 8 s.uid ++ theirs ++ nonce))
      (∀ u (theirs : List Byte) (caps : Byte), st = 3 → quietPort → u < 2 ^ 64 → theirs.length = 16 →
        p.payload = [1, 0, 0, 0] ++ bytesLE 8 u ++ theirs ++ [caps] → caps.getLsbD 1 = true → x.key ≠ [] → u ≠ s.uid → 4 ≤ s.credits k 0 →
        ∃ t q, exec (.authHello k p) s = .next t ∧ t = { s with regs := t.regs, fab := { s.fab with ports := t.fab.ports } } ∧
          t.portState k = 4 ∧ t.peerUid k = u ∧ (t.port k).peerNonce = theirs ∧ (t.port k).out = flowFor x 7 p :: .packet ⟨q, x.txSeq, none⟩ :: x.out ∧
          q.type = 7 ∧ q.payload = [2, 0, 0, 0] ++ mac x.key x.nonce theirs u (if s.uid < u then 0x4C else 0x48) ∧ t.credits k 0 = s.credits k 0 - 4 ∧
          (∀ off, off ∉ [R.dlStat k, R.dlPeerLo k, R.dlPeerHi k, R.dlCred k] → t.reg off = s.reg off)) ∧
      (∀ proof : List Byte, p.payload = [2, 0, 0, 0] ++ proof → proof.length = 32 → st = 4 → quietPort →
        let right := proof = mac x.key x.nonce x.peerNonce peer (if s.uid < peer then 0x48 else 0x4C)
        (right → ∃ t, exec (.authProof k p) s = .next t ∧ t.portState k = 5 ∧ 224 + k.val ∈ t.pulses ∧
          (t.port k).session = mac x.key x.nonce x.peerNonce peer 0x4B ∧ (t.port k).fails = 0 ∧
          t.fld (R.dlStat k) F.dlStat.ENC = (if s.fld R.dlfCfg F.dlfCfg.ENC_REQ = 1 ∨ x.peerCaps.testBit 0 = true then 1 else 0) ∧
          (∀ j, j < 4 → j ≠ k.val → t.portState j = s.portState j) ∧ t.mem = s.mem ∧ t.hostMem = s.hostMem) ∧
        (¬right → 2 ≤ s.credits k 0 → ∃ t q, exec (.authProof k p) s = .next t ∧ q.type = 7 ∧ q.payload = [3, 0, 0, 0] ∧
          AuthFails s t k [.word ⟨6, []⟩, .packet ⟨q, x.txSeq, none⟩] [R.dlCred k])) ∧
      (p.payload = [3, 0, 0, 0] → st = 4 → ∃ t, exec (.authFail k p) s = .next t ∧ AuthFails s t k [.word ⟨6, []⟩] []) ∧
      (st = 5 → x.rekey = false → onlyActive → (said 2 → quarantined (.authProof k p) 6 []) ∧ (said 3 → quarantined (.authFail k p) 6 [])))


/-! ## Packets, formation, time and stitching of the fabric (chapter 13) -/

/-- Port k is ACTIVE on a link without encryption or renewal, with nothing waiting; a packet with room for an answer of n flits, and with tokens of both
kinds, comes whole (R432, R434, R435, R463). -/
abbrev Arrives (s : State) (k type n : Nat) (p : Packet) : Prop :=
  s.usual ∧ PlainPort s k n ∧ GoodPacket s k type p ∧ 800000 ≤ (s.port k).msgTok ∧ 8000 ≤ (s.port k).reqTok

/-- Port k has accepted the packet and answered with FLOW, after sending what is given (R434, R435); the other ports stay. -/
def Accepted (s t : State) (k type : Nat) (p : Packet) (sent : Option TxPacket) : Prop :=
  let x := s.port k
  let y := t.port k
  let n := 1 + (p.payload.length + 15) / 16
  let vc1 := type = 3 ∨ type = 4
  let z : Port := { x with rxSeq := (x.rxSeq + 1) % 128, ack := none, nak := none, own0 := if vc1 then x.own0 else (x.own0 + n) % 65536,
                           own1 := if vc1 then (x.own1 + n) % 65536 else x.own1, msgTok := y.msgTok, reqTok := y.reqTok, tokTime := y.tokTime }
  (match sent with
    | none => y = { z with out := flowFor x type p :: x.out }
    | some q => y = { z with txSeq := (x.txSeq + 1) % 128, replay := x.replay ++ [(⟨q, x.txSeq, none⟩, 0)],
                             out := flowFor x type p :: .packet ⟨q, x.txSeq, none⟩ :: x.out }) ∧
  (∀ j, j ≠ k → t.port j = s.port j)

/-- A packet that this node originates (Tables 13-3 and 13-4, R432, R433). -/
def fromHere (s : State) (type dst tag arg plen : Nat) (payload : List Byte) : TxPacket :=
  { type := type, dst := dst, src := s.nodeId, ttl := 15, plen := plen, tag := tag, arg := arg
    pcrc := packetCrc type dst s.nodeId tag arg payload, payload := payload }

/-- R432-R434, R449-R451, R459, R460, R463, R465, Tables 13-3, 13-4 and 13-7: what a node does with the packets for it: requests are served through a window or
refused, responses complete what asked for them or are late, stitched samples are merged, PING is answered, PONG completes the
command, MBOX places its word; what it forwards; and what it asks of others.
The model's own choices here: notes/assumptions/49 and 50. -/
def Obligations.FabricPackets : Prop :=
  ∀ (s : State) (k : Fin 4) (p : Packet), s.sys.bitErrs = [] → s.sys.poison = [] →
    let src := p.src.toNat
    let tag := p.tag.toNat
    let off := p.arg.toNat
    let len := p.plen.toNat
    let here := p.dst.toNat = s.nodeId ∧ s.nodeId ≠ 0 ∧ s.nodeId ≠ 255
    let local' := here ∨ p.dst = 0
    let allowed (write : Bool) : Prop := off + len ≤ 0x7C000000 ∧ 0 < len ∧ ∃ i, i < 8 ∧
      s.fld (R.dlfRwinA i) F.dlfRwinA.EN = 1 ∧ (if write then s.fld (R.dlfRwinA i) F.dlfRwinA.WR else s.fld (R.dlfRwinA i) F.dlfRwinA.RD) = 1 ∧
      (s.fld (R.dlfRwinB i) F.dlfRwinB.SRC = 0 ∨ s.fld (R.dlfRwinB i) F.dlfRwinB.SRC = src) ∧ s.fld (R.dlfRwinA i) F.dlfRwinA.BASE * 65536 ≤ off ∧
      off + len ≤ (s.fld (R.dlfRwinA i) F.dlfRwinA.BASE + s.fld (R.dlfRwinB i) F.dlfRwinB.SIZE) * 65536
    -- an answer that goes back by the port of the request
    let answers (i : Instr) (type : Nat) (s0 : State) (status : Nat) (data : List Byte) (vc : Nat) (offs : List Nat) : Prop :=
      ∃ t, exec i s = .next t ∧ t = { s0 with regs := t.regs, fab := { s.fab with ports := t.fab.ports } } ∧
        Accepted s t k type p (some (fromHere s (type + 2) src tag status data.length data)) ∧
        t.credits k vc = s.credits k vc - (1 + (data.length + 15) / 16) ∧ (∀ x, x ∉ R.dlCred k :: offs → t.reg x = s.reg x)
    (here → s.routeTo src = k →
      (Arrives s k 1 17 p → allowed false → s.pdOn 127 = true → answers (.rdReq k p) 1 s 0 (s.bytes (pageBase + off) len) 1 []) ∧
      (Arrives s k 2 17 p → allowed true → s.pdOn 127 = true → p.bad = [] → ∃ m, answers (.wrReq k p) 2 { s with mem := m } 0 [] 1 [] ∧
        ({ s with mem := m } : State).bytes (pageBase + off) len = p.payload ∧
        (∀ a, a < pageBase + off ∨ pageBase + off + len ≤ a → ({ s with mem := m } : State).byte a = s.byte a)) ∧
      (∀ q ∈ [(Instr.rdReq k p, 1, false), (.wrReq k p, 2, true)], Arrives s k q.2.1 17 p → ¬allowed q.2.2 →
        answers q.1 q.2.1 s St.busError [] 1 [R.dlfViolCnt, R.dlfErr] ∧
        ∃ t, exec q.1 s = .next t ∧ t.reg R.dlfViolCnt = satInc (s.reg R.dlfViolCnt) ∧
          t.reg R.dlfErr = (if s.fld R.dlfErr F.dlfErr.VALID = 1 then s.reg R.dlfErr
            else BitVec.ofNat 32 (1 + St.busError * 2 ^ 8 + src * 2 ^ 16 + k * 2 ^ 24)))) ∧
    -- responses
    (here → ∀ q ∈ [(Instr.rdRsp k p, 3, false), (.wrRsp k p, 4, true)], Arrives s k q.2.1 0 p →
      (s.fab.remotes = [] → ∃ t, exec q.1 s = .next t ∧ t = { s with regs := t.regs, fab := { s.fab with ports := t.fab.ports } } ∧
        Accepted s t k q.2.1 p none ∧ t.reg R.dlfLateRspCnt = satInc (s.reg R.dlfLateRspCnt) ∧ (∀ x, x ≠ R.dlfLateRspCnt → t.reg x = s.reg x)) ∧
      (∀ (n : Fin 32) (r : Remote), s.fab.remotes = [r] → r.who = .ring n → r.tag = tag → r.write = q.2.2 → p.arg.toNat % 256 = 0 → p.bad = [] →
        let c := s.chan n
        c.type = 0 → c.abort = false → c.wait = some (if q.2.2 then 3 else 2) → c.wr + c.dw < c.len →
        let g : Chan := if q.2.2 then { c with wait := none, wr := c.wr + c.dw, hold := if c.desc then c.hold.take (c.hold.length - c.dw) else c.hold.drop c.dw }
          else { c with wait := none, rd := c.rd + c.sw, hold := (if c.desc then p.payload.map (fun b => (b, false)) ++ c.hold else c.hold ++ p.payload.map (fun b => (b, false))) }
        ∃ t, exec q.1 s = .next t ∧ Accepted s t k q.2.1 p none ∧ t.fab.remotes = [] ∧
          ChanStays { s with fab := t.fab } t n g (chanPosition n) ∧ ShowsPosition t n g)) ∧
    -- no response
    (s.usual → ∀ t0 : BitVec 16,
      ((∀ r ∈ s.fab.remotes, r.tag ≠ t0.toNat) → exec (.fabricResponseTimeout t0) s = .next s) ∧
      (∀ (n : Fin 32) (r : Remote), s.fab.remotes = [r] → r.who = .ring n → r.tag = t0.toNat → r.node < 255 → s.routeTo r.node < 4 → (s.chan n).wait ≠ none →
        (s.chan n).abort = false → s.fab.waiting = [] →
        ∃ t, exec (.fabricResponseTimeout t0) s = .next t ∧ t.fab = { s.fab with remotes := [] } ∧ t.reg R.dlfRspTmoCnt = satInc (s.reg R.dlfRspTmoCnt) ∧
          (s.fld R.dlfErr F.dlfErr.VALID = 0 → t.reg R.dlfErr = BitVec.ofNat 32 (1 + St.timeout * 2 ^ 8 + r.node * 2 ^ 16 + s.routeTo r.node * 2 ^ 24)) ∧
          t.chState n = 7 ∧ t.fld (R.chStat n) F.chStat.CAUSE = 1 ∧ t.pulses = addSorted s.pulses (64 + n) ∧ t.mem = s.mem)) ∧
    -- what is asked of others
    (s.usual →
      (s.fab.waiting = [] ∨ 64 ≤ s.fab.remotes.length → exec .remoteWindowAccess s = .next s) ∧
      (∀ r rest, s.fab.waiting = r :: rest → s.fab.remotes.length < 64 → r.data = (r.data.map (fun b => (b.1, false))) → r.data.length ≤ 256 →
        PlainPort s (s.routeTo r.node) (1 + (r.data.length + 15) / 16) →
        ∃ t, exec .remoteWindowAccess s = .next t ∧
          PortSends { s with fab := { s.fab with waiting := rest, remotes := s.fab.remotes ++ [{ r with tag := s.fab.nextTag }], nextTag := (s.fab.nextTag + 1) % 65536 } } t
            (s.routeTo r.node) (fromHere s (if r.write then 2 else 1) r.node s.fab.nextTag r.off r.len (r.data.map (fun b => b.1))))) ∧
    -- packets for others
    (∀ type : BitVec 8,
      (s.usual → type = 7 ∨ p.dst = 0 ∨ p.dst = 255 ∨ p.dst.toNat = s.nodeId → exec (.packetForward k type p) s = .next s) ∧
      (1 ≤ type.toNat → type.toNat ≤ 6 → p.dst ≠ 0 → p.dst ≠ 255 → p.dst.toNat ≠ s.nodeId → Arrives s k type.toNat 0 p →
        let n := s.routeTo p.dst.toNat
        let q : TxPacket := { type := type.toNat, dst := p.dst.toNat, src := src, ttl := p.ttl.toNat - 1, plen := len, tag := tag, arg := off, pcrc := p.pcrc.toNat,
                              payload := p.payload, bad := p.bad }
        (2 ≤ p.ttl.toNat → n ≠ k → PlainPort s n (1 + (p.payload.length + 15) / 16) →
          ∃ t, exec (.packetForward k type p) s = .next t ∧ t = { s with regs := t.regs, fab := { s.fab with ports := t.fab.ports } } ∧
            (t.port n).out = .packet ⟨q, (s.port n).txSeq, none⟩ :: (s.port n).out ∧ (t.port k).out = flowFor (s.port k) type.toNat p :: (s.port k).out ∧
            (∀ j, j ≠ k.val → j ≠ n → t.port j = s.port j) ∧ (∀ x, x ≠ R.dlCred n → t.reg x = s.reg x)) ∧
        (p.ttl.toNat ≤ 1 → type.toNat ∉ [1, 2] →
          ∃ t, exec (.packetForward k type p) s = .next t ∧ t = { s with regs := t.regs, fab := { s.fab with ports := t.fab.ports } } ∧
            Accepted s t k type.toNat p none ∧ t.reg R.dlfUnreachCnt = satInc (s.reg R.dlfUnreachCnt) ∧ (∀ x, x ≠ R.dlfUnreachCnt → t.reg x = s.reg x)))) ∧
    -- messages for this node
    (local' → Arrives s k 6 2 p → ∀ rest : List Byte,
      (p.payload = [6, 0, 0, 0] ++ rest → rest.length = 8 → s.routeTo src = k →
        ∃ t, exec (.ping k p) s = .next t ∧ t = { s with regs := t.regs, fab := { s.fab with ports := t.fab.ports } } ∧
          Accepted s t k 6 p (some (fromHere s 6 src 0 0 12 ([7, 0, 0, 0] ++ rest))) ∧ (∀ x, x ≠ R.dlCred k → t.reg x = s.reg x)) ∧
      (p.payload = [7, 0, 0, 0] ++ rest → rest.length = 8 → ∀ (q : Fin 1024) (tg : BitVec 16) (c : Cmd) (x : Qp),
        s.fab.pings = [(q.val, tg.toNat, src, natLE rest)] → s.cmdOf q tg.toNat = some c → PlainQueue s q x →
        ∃ t, exec (.pong k p) s = .next t ∧ Accepted s t k 6 p none ∧
          Completed { s with fab := { s.fab with pings := [], ports := t.fab.ports } } t q tg.toNat x c.sqHead (s.sys.time.toNat - natLE rest) 0 0 0 0 []) ∧
      (∀ (e : Byte) (v : Word), p.payload = [8, 0, 0, 0, e, 0, 0, 0] ++ bytesLE 4 v.toNat → 1 ≤ e.toNat → e.toNat ≤ 95 →
        ((s.eng e.toNat).inbox.length < 16 → ∃ t, exec (.mbox k p) s = .next t ∧ Accepted s t k 6 p none ∧
          t = { s with regs := t.regs, pack := { s.pack with engines := t.pack.engines }, fab := { s.fab with ports := t.fab.ports } } ∧
          (t.eng e.toNat).inbox = (s.eng e.toNat).inbox ++ [(v, 0x19)] ∧ (∀ n, n ≠ e.toNat → t.eng n = s.eng n) ∧
          (∀ x, x ≠ R.engMbx e.toNat → t.reg x = s.reg x)) ∧
        (16 ≤ (s.eng e.toNat).inbox.length → ∃ t, exec (.mbox k p) s = .next t ∧ Accepted s t k 6 p none ∧
          t = { s with fab := { s.fab with ports := t.fab.ports } }))) ∧
    -- stitched samples
    (local' → Arrives s k 5 0 p →
      let c := tag / 4096
      let cfg := s.reg (R.stCfg c)
      let sink := F.stCfg.EN.get cfg = 1 ∧ F.stCfg.ROLE.get cfg = 1 ∧ F.stCfg.NODE.get cfg = src
      let n := F.stCfg.PLANE.get cfg
      (¬sink → ∃ t, exec (.stitch k p) s = .next t ∧ t = { s with fab := { s.fab with ports := t.fab.ports } } ∧ Accepted s t k 5 p none) ∧
      (sink → Table.get (fun _ => []) s.fab.held n = [] → p.bad = [] →
        let done := Table.get (fun _ => 0) s.fab.lastTick n
        (off < done → ∃ t, exec (.stitch k p) s = .next t ∧ t = { s with regs := t.regs, fab := { s.fab with ports := t.fab.ports } } ∧
          Accepted s t k 5 p none ∧ t.reg (R.stLateCnt c) = satInc (s.reg (R.stLateCnt c)) ∧ (∀ x, x ≠ R.stLateCnt c → t.reg x = s.reg x)) ∧
        (done ≤ off → done = 0 ∨ off ≤ done + 3 →
          ∃ t, exec (.stitch k p) s = .next t ∧ t = { s with fab := { s.fab with ports := t.fab.ports, stitch := t.fab.stitch } } ∧ Accepted s t k 5 p none ∧
            (∀ d, d ≠ c → t.stitch d = s.stitch d) ∧
            (∀ j, j < p.payload.length / 2 → 128 * (tag % 4096) + j < s.fld (R.stGeom c) F.stGeom.WIDTH →
              (Table.get (fun _ => []) (t.stitch c).chunks off).find? (fun e => e.1 == 128 * (tag % 4096) + j) =
                some (128 * (tag % 4096) + j, natLE ((p.payload.drop (2 * j)).take 2))))))

/-- What a node knows of a neighbour's advertisement in DISC (Table 13-7). -/
def advertised (l : List Byte) : Advert :=
  { uid := fieldAt l 4 8, pri := fieldAt l 12 1, nodeId := fieldAt l 13 1, reqId := fieldAt l 14 1, leadUid := fieldAt l 16 8, leadPri := fieldAt l 24 1,
    dist := fieldAt l 25 1, epoch := fieldAt l 26 2 }

/-- R444-R448, R460, R461, Tables 13-7 to 13-9: DISC is sent and chooses the lead; TOPO, ASSIGN, ROUTE and READY form the fabric; a lead alone settles it; stitch
channels are enabled, refused and deliver at their deadline.
The model's own choices here: notes/assumptions/48 and 51. -/
def Obligations.FormationAndStitching : Prop :=
  ∀ (s : State) (k : Fin 4) (p : Packet), s.usual →
    let m := p.payload
    let path (at' : Nat) : List Nat := ((m.drop (at' + 1)).take (fieldAt m at' 1)).map (fun b => b.toNat)
    let only (t : State) : Prop := t = { s with regs := t.regs, pulses := t.pulses, fab := t.fab }
    -- DISC
    ((∀ j ∈ s.activePorts, PlainPort s j 3) → (∀ l, s.fab.leadPri = some l → l < 256) → ∃ t q, exec .discTimer s = .next t ∧
      t = { s with regs := t.regs, fab := { s.fab with ports := t.fab.ports, advert := some s.ownAdvert } } ∧ q = fromHere s 6 0 0 0 28 q.payload ∧
      advertised q.payload = s.ownAdvert ∧ q.payload.length = 28 ∧ q.payload.take 4 = [1, 0, 0, 0] ∧
      (∀ j, (t.port j).out = if j ∈ s.activePorts then .packet ⟨q, (s.port j).txSeq, none⟩ :: (s.port j).out else (s.port j).out) ∧
      (∀ x, (∀ j ∈ s.activePorts, x ≠ R.dlCred j) → t.reg x = s.reg x)) ∧
    (Arrives s k 6 3 p → p.dst = 0 → m.length = 28 → m.take 4 = [1, 0, 0, 0] → 2 ≤ s.fabState → s.fabState ≤ 4 →
      (∀ j a, (s.port j).advert = some a → a.leadUid < 2 ^ 64) →
      let told (j : Nat) (a : Advert) : Prop := j ∈ s.activePorts ∧ (if j = k.val then a = advertised m else (s.port j).advert = some a)
      let own := (s.fld R.dlfCfg F.dlfCfg.PRI, s.uid)
      let chosen (l : Nat × Nat) : Prop := (own.1 < 255 ∧ l = own) ∨ ∃ j a, told j a ∧ a.leadPri < 255 ∧ a.dist + 1 ≤ 15 ∧ l = (a.leadPri, a.leadUid)
      let less (a b : Nat × Nat) : Prop := a.1 < b.1 ∨ (a.1 = b.1 ∧ a.2 < b.2)
      ∃ t, exec (.disc k p) s = .next t ∧ only t ∧ (t.port k).advert = some (advertised m) ∧ t.fld (R.dlStat k) F.dlStat.PEER_ID = (advertised m).nodeId ∧
        (∀ l, chosen l → (∀ l', chosen l' → ¬less l' l) →
          t.fab.leadPri = some l.1 ∧ t.reg64 R.dlfLeadUidLo R.dlfLeadUidHi = l.2 ∧ t.fld R.dlfStat F.dlfStat.LEAD = (if l = own then 1 else 0)) ∧
        ((∀ l, ¬chosen l) → t.fab.leadPri = none ∧ t.fabState = 2)) ∧
    -- TOPO, ASSIGN, ROUTE, READY
    (Arrives s k 6 16 p → p.dst = 0 → m.take 4 = [2, 0, 0, 0] → m.length = 62 → fieldAt m 14 1 ≤ 14 →
      (s.fld R.dlfStat F.dlfStat.LEAD = 1 → ∃ t node, exec (.topo k p) s = .next t ∧ t = { s with fab := { s.fab with ports := t.fab.ports, topo := t.fab.topo } } ∧
        Accepted s t k 6 p none ∧ node = TopoNode.mk (fieldAt m 4 8) (fieldAt m 12 1) (fieldAt m 13 1) (k.val :: path 14)
          [fieldAt m 30 8, fieldAt m 38 8, fieldAt m 46 8, fieldAt m 54 8] ∧
        t.fab.topo = s.fab.topo.filter (fun e => e.uid != node.uid) ++ [node]) ∧
      (s.fld R.dlfStat F.dlfStat.LEAD = 0 → ∀ j, s.fab.parent = some j → j ≠ k.val → PlainPort s j 5 →
        ∃ t q, exec (.topo k p) s = .next t ∧ t = { s with regs := t.regs, fab := { s.fab with ports := t.fab.ports } } ∧
          (t.port j).out = .packet ⟨q, (s.port j).txSeq, none⟩ :: (s.port j).out ∧ q.type = 6 ∧ q.dst = 0 ∧ q.payload.length = 62 ∧
          q.payload.take 14 = m.take 14 ∧ fieldAt q.payload 14 1 = fieldAt m 14 1 + 1 ∧ fieldAt q.payload 15 1 = k.val ∧
          (∀ i, i < fieldAt m 14 1 → fieldAt q.payload (16 + i) 1 = fieldAt m (15 + i) 1) ∧ q.payload.drop 30 = m.drop 30)) ∧
    (let e := fieldAt m 4 2
     let fresh := (e + 65536 - s.fld R.dlfEpoch F.dlfEpoch.EPOCH) % 65536 < 32768
     let mine := fieldAt m 6 8 = s.uid
     (Arrives s k 6 16 p → p.dst = 0 → m.take 4 = [3, 0, 0, 0] → m.length = 31 →
       (¬fresh → ∃ t, exec (.assign k p) s = .next t ∧ t = { s with fab := { s.fab with ports := t.fab.ports } } ∧ Accepted s t k 6 p none) ∧
       (fresh → mine → fieldAt m 15 1 = 0 → ∃ t, exec (.assign k p) s = .next t ∧ only t ∧ t.nodeId = fieldAt m 14 1 ∧
         t.fld R.dlfEpoch F.dlfEpoch.EPOCH = e ∧ t.fab.assigned = (if fieldAt m 14 1 = 0 then none else some e)) ∧
       (fresh → ¬mine → 1 ≤ fieldAt m 15 1 → fieldAt m 15 1 ≤ 15 → let j := fieldAt m 16 1; j ≠ k.val → PlainPort s j 3 →
         ∃ t q, exec (.assign k p) s = .next t ∧ t = { s with regs := t.regs, fab := { s.fab with ports := t.fab.ports } } ∧
           (t.port j).out = .packet ⟨q, (s.port j).txSeq, none⟩ :: (s.port j).out ∧ q.type = 6 ∧ q.dst = 0 ∧ q.payload.take 15 = m.take 15 ∧
           fieldAt q.payload 15 1 = fieldAt m 15 1 - 1)) ∧
     (Arrives s k 6 16 p → p.dst = 0 → m.take 4 = [4, 0, 0, 0] → m.length = 159 →
       (¬fresh → ∃ t, exec (.route k p) s = .next t ∧ t = { s with fab := { s.fab with ports := t.fab.ports } } ∧ Accepted s t k 6 p none) ∧
       (fresh → mine → fieldAt m 14 1 = 0 → ∃ t, exec (.route k p) s = .next t ∧ t = { s with regs := t.regs, fab := { s.fab with ports := t.fab.ports, routed := some e } } ∧
         Accepted s t k 6 p none ∧ (∀ d, d < 256 → t.routeTo d = bitsOf (fieldAt m (31 + d / 2) 1) (4 * (d % 2)) 4) ∧
         (∀ j, j < 4 → t.portRole j = bitsOf (fieldAt m 30 1) (2 * j) 2) ∧
         (∀ x, (∀ i, i < 32 → x ≠ R.dlfRt i) → (∀ j, j < 4 → x ≠ R.dlStat j) → t.reg x = s.reg x))) ∧
     (Arrives s k 6 0 p → p.dst = 255 → m.take 4 = [5, 0, 0, 0] → m.length = 8 → s.treePorts (some k.val) = [] → s.fab.reforms = [] →
       let all := fresh ∧ s.fab.assigned = some e ∧ s.fab.routed = some e ∧ (s.fabState = 3 ∨ s.fabState = 4)
       (¬all → ∃ t, exec (.ready k p) s = .next t ∧ t = { s with fab := { s.fab with ports := t.fab.ports } } ∧ Accepted s t k 6 p none) ∧
       (all → ∃ t, exec (.ready k p) s = .next t ∧ Accepted s t k 6 p none ∧
         t = { s with regs := t.regs, fab := { s.fab with ports := t.fab.ports }, pulses := if s.fabState = 4 then s.pulses else addSorted s.pulses 232 } ∧
         t.fabState = 4 ∧ t.fld R.dlfEpoch F.dlfEpoch.EPOCH = e ∧ t.fld R.dlfEpoch F.dlfEpoch.NODES = fieldAt m 7 1 ∧
         t.fld R.dlfStat F.dlfStat.LEAD_ID = fieldAt m 6 1 ∧ (∀ x, x ∉ [R.dlfEpoch, R.dlfStat] → t.reg x = s.reg x)))) ∧
    -- the lead settles
    (s.fld R.dlfStat F.dlfStat.LEAD = 0 ∨ s.fabState ∉ [3, 4] → exec .formationSettle s = .next s) ∧
    (s.fld R.dlfStat F.dlfStat.LEAD = 1 → s.fabState ∈ [3, 4] → s.fab.topo = [] → s.fab.reforms = [] →
      let held := s.nodeId
      let asked := s.fld R.dlfCfg F.dlfCfg.REQ_ID
      let id := if 1 ≤ held ∧ held ≤ 254 then held else if 1 ≤ asked ∧ asked ≤ 254 then asked else 1
      ∃ t, exec .formationSettle s = .next t ∧ only t ∧ t.fabState = 4 ∧ t.nodeId = id ∧ t.fld R.dlfStat F.dlfStat.LEAD_ID = id ∧
        t.fld R.dlfEpoch F.dlfEpoch.EPOCH = (s.fld R.dlfEpoch F.dlfEpoch.EPOCH + 1) % 65536 ∧ t.fld R.dlfEpoch F.dlfEpoch.NODES = 1 ∧
        (∀ d, d < 256 → t.routeTo d = if d = id then 0xE else 0xF) ∧ (s.fabState = 3 → 232 ∈ t.pulses)) ∧
    -- stitch channels
    (∀ (path : Path) (c : Fin 16) (w : Word), s.accessible path (R.stCfg c) = true → s.fld (R.stCfg c) F.stCfg.EN = 0 →
      let n := F.stCfg.PLANE.get w
      let node := F.stCfg.NODE.get w
      let abp := F.stCfg.ABP.get w
      let x0 := s.fld (R.stGeom c) F.stGeom.X0
      let wd := s.fld (R.stGeom c) F.stGeom.WIDTH
      let lp := s.fld (R.grpCtl (s.fld (R.plCfg n) F.plCfg.GRP)) F.grpCtl.LP
      let badPlane := 48 ≤ n ∨ s.fld (R.plCfg n) F.plCfg.EN = 0 ∨ s.fld (R.lpCfg lp) F.lpCfg.SRC ≠ 6
      let badNode := node = 0 ∨ node = 255 ∨ node = s.nodeId
      let badSpan := wd = 0 ∨ 65536 < x0 + wd
      let refused (cause : Nat) : Prop := ∃ t, exec (.stitchEnable path c w) s = .next t ∧ s.sameBut t [R.stCfg c, R.stStat c] ∧
        t.fld (R.stCfg c) F.stCfg.EN = 0 ∧ t.fld (R.stStat c) F.stStat.CFG_ERR = 1 ∧ t.fld (R.stStat c) F.stStat.CFG_CAUSE = cause
      let takes (offs : List Nat) (who : Nat) : Prop := ∃ t, exec (.stitchEnable path c w) s = .next t ∧
        t = { s with regs := t.regs, eff := t.eff, fab := { s.fab with stitch := t.fab.stitch } } ∧ t.stitch c = {} ∧ (∀ d, d ≠ c.val → t.stitch d = s.stitch d) ∧
        t.reg (R.stCfg c) = Row.stCfg.written (s.reg (R.stCfg c)) (w ||| 1) ∧ t.reg (R.stLines c) = 0 ∧ t.owner (.partition abp) = who ∧
        (∀ x, x ∉ [R.stCfg c, R.stLines c] ++ offs → t.reg x = s.reg x)
      (badPlane → refused 1) ∧ (¬badPlane → badNode → refused 2) ∧ (¬badPlane → ¬badNode → badSpan → refused 3) ∧
      (¬badPlane → ¬badNode → ¬badSpan →
        (F.stCfg.ROLE.get w = 0 → takes [] (s.owner (.partition abp))) ∧
        (F.stCfg.ROLE.get w = 1 → s.partBytes abp < 8 * wd → refused 4) ∧
        (F.stCfg.ROLE.get w = 1 → 8 * wd ≤ s.partBytes abp → s.owner (.partition abp) = 0 → s.partInvalid abp = false → s.partClash abp = none →
          takes [R.sysAbpCfg abp] 0x19))) ∧
    (∀ c : Fin 16,
      let cfg := s.reg (R.stCfg c)
      let n := F.stCfg.PLANE.get cfg
      let sink (d : Nat) : Prop := s.fld (R.stCfg d) F.stCfg.EN = 1 ∧ s.fld (R.stCfg d) F.stCfg.ROLE = 1
      (¬sink c ∨ Table.get (fun _ => []) s.fab.held n = [] → exec (.stitchDeadline c) s = .next s) ∧
      (∀ l, sink c → Table.get (fun _ => []) s.fab.held n = [l] → (∀ d, d < 16 → d ≠ c.val → ¬(sink d ∧ s.fld (R.stCfg d) F.stCfg.PLANE = n)) →
        let x0 := s.fld (R.stGeom c) F.stGeom.X0
        let wd := s.fld (R.stGeom c) F.stGeom.WIDTH
        let got := Table.get (fun _ => []) (s.stitch c).chunks l.tick
        let whole := s.sliceWhole c l.tick
        let sample (i : Nat) : Nat := match got.find? (fun e => e.1 == i) with | some e => e.2 | none => (s.stitch c).prev.getD i 0
        ∃ t o, exec (.stitchDeadline c) s = .next t ∧ Table.get (fun _ => []) t.fab.held n = [] ∧ (t.outOf n).head? = some o ∧ o.y = l.y ∧
          o.vals = l.vals.zipIdx.map (fun e => if x0 ≤ e.2 ∧ e.2 < x0 + wd then sample (e.2 - x0) else e.1) ∧
          t.reg (R.stLines c) = s.reg (R.stLines c) + 1 ∧ (t.stitch c).prev = (List.range wd).map sample ∧
          (whole = true → 237 ∈ t.pulses ∧ t.reg (R.stMissCnt c) = s.reg (R.stMissCnt c)) ∧
          (whole = false → 238 ∈ t.pulses ∧ t.reg (R.stMissCnt c) = satInc (s.reg (R.stMissCnt c)) ∧ t.fld (R.stStat c) F.stStat.MISS = 1)))


/-! ## Halter port, health monitor and secure store (chapter 14) -/

/-- A request with a command code is accepted (R468, R471, R478, R496): no request executes, and its check is right, or absent on SMBus where none is
required. -/
def halterAccepts (s : State) (code : Nat) (r : HaltRequest) : Bool :=
  (s.hlt.waking == none || s.hlt.waking == some none) &&
  (match r.check with
    | none => !r.usb && s.fld R.hltCfg F.hltCfg.PEC_REQ == 0 && !([0x21, 0x22, 0x23].contains code)
    | some c =>
      if r.usb then c == crc32c ([BitVec.ofNat 8 code, BitVec.ofNat 8 r.data.length] ++ r.data)
      else c.toNat == (crc8 ([BitVec.ofNat 8 (2 * (0x58 + s.fld R.sysStrap F.sysStrap.HLT_ADDR)), BitVec.ofNat 8 code, BitVec.ofNat 8 r.data.length] ++ r.data)).toNat)

/-- The same as a proposition. -/
abbrev HalterAccepts (s : State) (code : Nat) (r : HaltRequest) : Prop := halterAccepts s code r = true

/-- The state with an accepted request answered: the sequence number moved on, STATUS and data in the response buffer (R472). -/
def answered (s : State) (status : Nat) (data : List Byte) : State :=
  { s with hlt := { s.hlt with seq := (s.hlt.seq + 1) % 128, resp := some (BitVec.ofNat 8 status :: data) } }

/-- An entry has been made in the halter log (R484). -/
def HalterLogs (s t : State) (cause index value : Nat) : Prop :=
  let n := s.fld R.hltLogCnt F.hltLogCnt.NEXT
  t.reg (R.hltLogW0 n) = s.reg R.hltAonMs ∧ t.reg (R.hltLogW1 n) = BitVec.ofNat 32 (cause + index * 2 ^ 8 + value * 2 ^ 16) ∧
  t.fld R.hltLogCnt F.hltLogCnt.NEXT = (n + 1) % 32 ∧ t.fld R.hltLogCnt F.hltLogCnt.COUNT = min 65535 (s.fld R.hltLogCnt F.hltLogCnt.COUNT + 1)

/-- The registers that an entry of the log changes. -/
def logRegs (s : State) : List Nat :=
  [R.hltLogW0 (s.fld R.hltLogCnt F.hltLogCnt.NEXT), R.hltLogW1 (s.fld R.hltLogCnt F.hltLogCnt.NEXT), R.hltLogCnt]

/-- HLT.ALERT bit b has been raised (R470, R484): newly and enabled, it asserts HLT_ALERT_N and, while the main side runs, queues the event. -/
def HalterAlerts (s t : State) (b : Nat) : Prop :=
  let fresh := (s.reg R.hltAlert).getLsbD b = false ∧ (s.reg R.hltAlertEn).getLsbD b = true
  t.reg R.hltAlert = s.reg R.hltAlert ||| BitVec.ofNat 32 (2 ^ b) ∧ (fresh → t.hlt.alertN = true) ∧ (¬fresh → t.hlt.alertN = s.hlt.alertN) ∧
  (fresh → s.fld R.hltStat F.hltStat.MAIN_RUN = 1 → t.asyncQ = s.asyncQ ++ [⟨7, b, 0⟩]) ∧
  (¬fresh ∨ s.fld R.hltStat F.hltStat.MAIN_RUN = 0 → t.asyncQ = s.asyncQ)

/-- R468-R480, R482-R484, R488, R490, R492, R493, R495, R496, Tables 14-1 to 14-6: each command of the halter port that is accepted is executed and answered, or
answered with the status of its refusal; what is not accepted is counted; responses and alerts are read; resets, holds and HLT_WAKE;
flash, OTP and key operations; the mailbox; the samples of the health monitor.
The model's own choices here: notes/assumptions/52, 53 and 54. -/
def Obligations.HalterPort : Prop :=
  ∀ (s : State) (r : HaltRequest), s.usual → s.asyncQ.length < 64 →
    let d := r.data
    let at' (i n : Nat) : Nat := fieldAt d i n
    let run := s.fld R.hltStat F.hltStat.MAIN_RUN
    let hold := s.fld R.hltStat F.hltStat.HOLD
    let locked := s.hlt.critHold = true ∧ ∃ n, n < 4 ∧ signed 16 (s.fld R.hltThr F.hltThr.HI) ≤ signed 16 (s.fld (R.hltTs n) F.hltTs.T)
    let gives (i : Instr) (status : Nat) (data : List Byte) : Prop := exec i s = .next (answered s status data)
    -- effects on registers and the halter's own state, with the answer
    let does (i : Instr) (data : List Byte) (offs : List Nat) (post : State → Prop) : Prop :=
      ∃ t, exec i s = .next t ∧ t.hlt.seq = (s.hlt.seq + 1) % 128 ∧ t.hlt.resp = some (0 :: data) ∧ t = { s with regs := t.regs, eff := t.eff, hlt := t.hlt } ∧
        (∀ off, off ∉ offs → t.reg off = s.reg off) ∧ post t
    let busy := s.fld R.hltFlStat F.hltFlStat.BUSY = 1 ∨ s.fld R.hltStat F.hltStat.SAVE = 1
    let writable (a : Nat) : Prop := 0x1000000 ≤ a ∨ (a < 0x800000 ∧ s.fld R.hltCfg F.hltCfg.BOOT_WE = 1) ∨ (0x800000 ≤ a ∧ a < 0x1000000 ∧ s.fld R.hltCfg F.hltCfg.CAL_WE = 1)
    -- a request that is not accepted, or not listed
    (∀ code : Byte,
      (¬HalterAccepts s code.toNat r → ∀ i ∈ [Instr.ident r, .regRd r, .regWr r, .flRd r, .flErase r, .flProg r, .flStat r 0, .otpRd r, .otpProg r [], .fkeySet r false,
          .fkeyRevoke r, .fkeyKcv r, .mbxSend r, .mbxRecv r].zip [0x01, 0x02, 0x03, 0x10, 0x11, 0x12, 0x13, 0x20, 0x21, 0x22, 0x23, 0x24, 0x30, 0x31],
        i.2 = code.toNat → exec i.1 s = exec (.halterRequestReject code r) s) ∧
      (s.hlt.waking = some (some true) ∨ s.hlt.waking = some (some false) →
        (r.usb = true → exec (.halterRequestReject code r) s = .next s) ∧
        (r.usb = false → ∃ t, exec (.halterRequestReject code r) s = .next t ∧ s.sameBut t [R.hltNackCnt] ∧ t.reg R.hltNackCnt = satInc (s.reg R.hltNackCnt))) ∧
      (s.hlt.waking = none ∨ s.hlt.waking = some none → ¬HalterAccepts s code.toNat r →
        ∃ t, exec (.halterRequestReject code r) s = .next t ∧ HalterAlerts s t 7 ∧ t.reg R.hltPecCnt = satInc (s.reg R.hltPecCnt) ∧
          t = { s with regs := t.regs, asyncQ := t.asyncQ, hlt := { s.hlt with alertN := t.hlt.alertN } } ∧
          (∀ off, off ∉ [R.hltPecCnt, R.hltAlert] → t.reg off = s.reg off)) ∧
      (HalterAccepts s code.toNat r → code.toNat ∉ [0x01, 0x02, 0x03, 0x04, 0x05, 0x10, 0x11, 0x12, 0x13, 0x20, 0x21, 0x22, 0x23, 0x24, 0x30, 0x31] →
        gives (.halterRequestReject code r) St.invalidOpcode []) ∧
      -- the management transfers over USB 2.0 are the same commands
      (∀ crc jedec, r = ⟨true, d, some crc⟩ →
        (∀ i ∈ [(0x01, Instr.ident r), (0x02, .regRd r), (0x03, .regWr r), (0x10, .flRd r), (0x11, .flErase r), (0x12, .flProg r), (0x13, .flStat r jedec), (0x20, .otpRd r),
            (0x21, .otpProg r []), (0x22, .fkeySet r false), (0x23, .fkeyRevoke r), (0x24, .fkeyKcv r), (0x30, .mbxSend r), (0x31, .mbxRecv r)],
          code.toNat = i.1 → exec (.usbMgmtRequest code d crc jedec) s = exec i.2 s) ∧
        (∀ i ∈ [(0x04, 1, Instr.resetCold r), (0x04, 2, .resetWarm r), (0x04, 3, .resetHold r), (0x04, 4, .resetRelease r), (0x05, 1, .wakeOn r), (0x05, 0, .wakeOff r)],
          code.toNat = i.1 → d = [BitVec.ofNat 8 i.2.1] → exec (.usbMgmtRequest code d crc jedec) s = exec i.2.2 s) ∧
        (code.toNat ∉ [0x01, 0x02, 0x03, 0x04, 0x05, 0x10, 0x11, 0x12, 0x13, 0x20, 0x21, 0x22, 0x23, 0x24, 0x30, 0x31] →
          exec (.usbMgmtRequest code d crc jedec) s = exec (.halterRequestReject code r) s))) ∧
    -- responses, alerts, the bus
    (let addr := 2 * (0x58 + s.fld R.sysStrap F.sysStrap.HLT_ADDR)
     let block (code : Byte) : List Byte :=
       if code ≠ 0 then []
       else match s.hlt.waking, s.hlt.resp with
         | some (some _), _ => [BitVec.ofNat 8 s.hlt.seq]
         | _, none => [0x80, 0]
         | _, some l => (0x80 ||| BitVec.ofNat 8 s.hlt.seq) :: l
     ∀ code : Byte,
      let b := BitVec.ofNat 8 (block code).length :: block code
      exec (.responseRead false code) s = .next { s with hlt := { s.hlt with answer := b ++ [crc8 ([BitVec.ofNat 8 addr, code, BitVec.ofNat 8 (addr + 1)] ++ b)] } } ∧
      exec (.responseRead true code) s = .next { s with hlt := { s.hlt with answer := b ++ bytesLE 4 (crc32c b).toNat } } ∧
      (s.hlt.alertN = false → exec .alertResponse s = .next s) ∧
      (s.hlt.alertN = true → exec .alertResponse s = .next { s with hlt := { s.hlt with answer := [BitVec.ofNat 8 addr], alertN := false } })) ∧
    (∃ t, exec .halterBusTimeout s = .next t ∧ HalterAlerts s t 8 ∧ t.reg R.hltTmoCnt = satInc (s.reg R.hltTmoCnt) ∧
      t = { s with regs := t.regs, asyncQ := t.asyncQ, hlt := { s.hlt with alertN := t.hlt.alertN } } ∧
      (∀ off, off ∉ [R.hltTmoCnt, R.hltAlert] → t.reg off = s.reg off)) ∧
    -- IDENT and registers
    (HalterAccepts s 0x01 r → (d = [] → gives (.ident r) 0 (bytesLE 4 (s.reg R.sysId).toNat ++ s.otpBytes 0 8 ++ bytesLE 4 (s.shown R.hltStat).toNat)) ∧
      (d ≠ [] → gives (.ident r) St.invalidField [])) ∧
    (HalterAccepts s 0x02 r →
      let bad := d.length ≠ 4 ∨ at' 0 3 % 4 ≠ 0 ∨ at' 3 1 = 0 ∨ 60 < at' 3 1 ∨ 0x100000 < at' 0 3 + 4 * at' 3 1
      (bad → gives (.regRd r) St.invalidField []) ∧
      (¬bad → run = 0 → at' 0 3 < 0x34000 ∨ 0x34800 < at' 0 3 + 4 * at' 3 1 → gives (.regRd r) St.notReady []) ∧
      (¬bad → at' 0 3 = R.hltCfg → at' 3 1 = 1 → exec (.regRd r) s = .next { answered s 0 (bytesLE 4 (s.reg R.hltCfg).toNat) with rdata := s.reg R.hltCfg })) ∧
    (HalterAccepts s 0x03 r →
      let bad := d.length ≠ 7 ∨ 0x100000 ≤ at' 0 3
      (bad → gives (.regWr r) St.invalidField []) ∧
      (¬bad → run = 0 → at' 0 3 < 0x34000 ∨ 0x34800 < at' 0 3 + 4 → gives (.regWr r) St.notReady []) ∧
      (¬bad → at' 0 3 = R.hltCfg → does (.regWr r) [] [R.hltCfg] (fun t => t.reg R.hltCfg = Row.hltCfg.written (s.reg R.hltCfg) (BitVec.ofNat 32 (at' 3 4))))) ∧
    -- RESET and WAKE
    (HalterAccepts s 0x04 r →
      (∀ i ∈ [Instr.resetCold r, .resetWarm r, .resetHold r, .resetRelease r], d.length ≠ 1 ∨ at' 0 1 = 0 ∨ 4 < at' 0 1 → gives i St.invalidField []) ∧
      (∀ i ∈ [(1, Instr.resetCold r), (2, .resetWarm r), (3, .resetHold r), (4, .resetRelease r)], ∀ k : Byte, d = [k] → 1 ≤ k.toNat → k.toNat ≤ 4 → k.toNat ≠ i.1 →
        exec i.2 s = .next s) ∧
      (∀ i ∈ [(1, Instr.resetCold r), (3, .resetHold r)], d = [BitVec.ofNat 8 i.1] → s.sys.resetting ≠ 1 →
        ∃ t, exec i.2 s = .next t ∧ AfterColdReset s t ∧ HalterLogs s t 6 i.1 0 ∧ t.fld R.sysRstCause F.sysRstCause.HLT_COLD = 1 ∧ t.sys.resetting = 2 ∧
          t.fld R.hltStat F.hltStat.MAIN_RUN = 0 ∧ t.hlt.resp = some [0] ∧ t.hlt.seq = (s.hlt.seq + 1) % 128 ∧
          (if i.1 = 1 then t.hlt.pulse = true else t.fld R.hltStat F.hltStat.HOLD = 1)) ∧
      (d = [2] → run = 0 → gives (.resetWarm r) St.notReady []) ∧
      (d = [2] → run = 1 → s.sys.resetting = 0 → s.eff = [] → s.fld R.sysStrap F.sysStrap.BOOT_SRC ≠ 3 →
        ∃ t, exec (.resetWarm r) s = .next t ∧ AfterWarmReset s t F.sysRstCause.WARM ∧ t.hlt.resp = some [0] ∧ t.hlt.seq = (s.hlt.seq + 1) % 128) ∧
      (d = [4] → (hold = 0 → gives (.resetRelease r) 0 []) ∧ (hold = 1 → locked → gives (.resetRelease r) St.contextBusy []) ∧
        (hold = 1 → ¬locked → s.sys.porstLow = false → s.sys.railsBad = [] → s.hlt.pulse = false →
          ∃ t, exec (.resetRelease r) s = .next t ∧ t.settled ∧ t = { answered s 0 [] with regs := t.regs, sys := { s.sys with resetting := 0 }, hlt := t.hlt } ∧
            t.hlt = { (answered s 0 []).hlt with critHold := false } ∧ t.fld R.hltStat F.hltStat.HOLD = 0 ∧ t.fld R.sysBootStat F.sysBootStat.STAGE = 1 ∧
            t.fld R.sysStrap F.sysStrap.BOOT_SRC = (if s.boardLevel 0 = some true then 1 else 0) + (if s.boardLevel 1 = some true then 2 else 0) ∧
            (∀ off, off ∉ [R.sysStrap, R.sysBootStat, R.hltStat] → t.reg off = s.reg off)))) ∧
    (HalterAccepts s 0x05 r →
      (∀ i ∈ [Instr.wakeOn r, .wakeOff r], d.length ≠ 1 ∨ 1 < at' 0 1 → gives i St.invalidField []) ∧
      (d = [0] → exec (.wakeOn r) s = .next s) ∧ (d = [1] → exec (.wakeOff r) s = .next s) ∧
      (d = [1] → locked → gives (.wakeOn r) St.contextBusy []) ∧
      (d = [1] → ¬locked → hold = 0 → does (.wakeOn r) [] ([R.hltWake, R.hltStat] ++ logRegs s) (fun t => HalterLogs s t 9 0 0 ∧
        t.fld R.hltWake F.hltWake.WAKE = 1 ∧ t.fld R.hltStat F.hltStat.WAKE = 1)) ∧
      (d = [1] → ¬locked → hold = 1 → s.sys.porstLow = false → s.sys.railsBad = [] → s.hlt.pulse = false →
        ∃ t, exec (.wakeOn r) s = .next t ∧ t.settled ∧ t.hlt.resp = some [0] ∧ t.fld R.hltWake F.hltWake.WAKE = 1 ∧ t.fld R.hltStat F.hltStat.HOLD = 0 ∧
          t.sys.resetting = 0 ∧ t.fld R.sysBootStat F.sysBootStat.STAGE = 1 ∧ t.mem = s.mem) ∧
      (d = [0] → s.sys.resetting ≠ 1 → ∃ t, exec (.wakeOff r) s = .next t ∧ AfterColdReset s t ∧ HalterLogs s t 6 3 0 ∧ t.fld R.hltStat F.hltStat.HOLD = 1 ∧
        t.hlt = { s.hlt with seq := (s.hlt.seq + 1) % 128, pulse := true, waking := some (some r.usb) })) ∧
    -- flash
    (HalterAccepts s 0x10 r →
      let bad := d.length ≠ 5 ∨ at' 4 1 = 0 ∨ 240 < at' 4 1
      (bad → gives (.flRd r) St.invalidField []) ∧ (¬bad → busy → gives (.flRd r) St.contextBusy []) ∧
      (¬bad → ¬busy → gives (.flRd r) 0 (s.flashBytes (at' 0 4) (at' 4 1)))) ∧
    (HalterAccepts s 0x11 r →
      let a := at' 0 4
      let n := if at' 4 1 = 0 then 4096 else 65536
      let bad := d.length ≠ 5 ∨ 1 < at' 4 1 ∨ a % n ≠ 0 ∨ ¬writable a
      (bad → gives (.flErase r) St.invalidField []) ∧ (¬bad → busy → gives (.flErase r) St.contextBusy []) ∧
      (¬bad → ¬busy → does (.flErase r) [] [R.hltFlStat] (fun t => t.hlt = { (answered s 0 []).hlt with flashOp := some (0x11, a, n, []) } ∧
        t.fld R.hltFlStat F.hltFlStat.BUSY = 1 ∧ t.fld R.hltFlStat F.hltFlStat.OP = 0x11))) ∧
    (HalterAccepts s 0x12 r →
      let a := at' 0 4
      let l := d.drop 4
      let bad := l.length = 0 ∨ 240 < l.length ∨ 256 < a % 256 + l.length ∨ ¬writable a
      (bad → gives (.flProg r) St.invalidField []) ∧ (¬bad → busy → gives (.flProg r) St.contextBusy []) ∧
      (¬bad → ¬busy → does (.flProg r) [] [R.hltFlStat] (fun t => t.hlt = { (answered s 0 []).hlt with flashOp := some (0x12, a, l.length, l) } ∧
        t.fld R.hltFlStat F.hltFlStat.BUSY = 1 ∧ t.fld R.hltFlStat F.hltFlStat.OP = 0x12))) ∧
    (∀ jedec, HalterAccepts s 0x13 r → (d ≠ [] → gives (.flStat r jedec) St.invalidField []) ∧ (d = [] → busy → gives (.flStat r jedec) St.contextBusy []) ∧
      (d = [] → ¬busy → gives (.flStat r jedec) 0 (bytesLE 4 (s.reg R.hltFlStat).toNat ++ bytesLE 3 jedec.toNat))) ∧
    (∀ timeout, (s.hlt.flashOp = none → exec (.flashOperationDone timeout) s = .next s) ∧
      (∀ op a n l, s.hlt.flashOp = some (op, a, n, l) → n = l.length ∨ op = 0x11 →
        ∃ t, exec (.flashOperationDone timeout) s = .next t ∧ HalterAlerts s t 6 ∧
          t = { s with regs := t.regs, freeCount := t.freeCount, asyncQ := t.asyncQ, hlt := { s.hlt with flashOp := none, flash := t.hlt.flash, alertN := t.hlt.alertN } } ∧
          (∀ x, x < a ∨ a + n ≤ x → t.flashByte x = s.flashByte x) ∧
          (timeout = false → t.freeCount = s.freeCount ∧ ∀ i, i < n → t.flashByte (a + i) = if op = 0x11 then 0xFF else s.flashByte (a + i) &&& l.getD i 0xFF) ∧
          t.fld R.hltFlStat F.hltFlStat.BUSY = 0 ∧ t.fld R.hltFlStat F.hltFlStat.RESULT = (if timeout then St.timeout else 0) ∧
          (∀ off, off ∉ [R.hltFlStat, R.hltAlert] → t.reg off = s.reg off))) ∧
    -- OTP and keys
    (HalterAccepts s 0x20 r →
      let bad := d.length ≠ 3 ∨ at' 2 1 = 0 ∨ 64 < at' 2 1 ∨ 1024 < at' 0 2 + at' 2 1
      (bad → gives (.otpRd r) St.invalidField []) ∧
      (¬bad → gives (.otpRd r) 0 ((List.range (at' 2 1)).map (fun i => if 0x80 ≤ at' 0 2 + i ∧ at' 0 2 + i < 0x100 then 0 else s.otpByte (at' 0 2 + i))))) ∧
    (HalterAccepts s 0x21 r →
      let a := at' 0 2
      let l := d.drop 2
      let lock := s.otpByte 0x49
      let may (x : Nat) : Prop := (0x28 ≤ x ∧ x < 0x48 ∧ lock.getLsbD 0 = false) ∨ (x = 0x48 ∧ lock.getLsbD 1 = false) ∨ x = 0x49 ∨
        (0x100 ≤ x ∧ x < 0x400 ∧ lock.getLsbD 2 = false)
      let bad := l.length = 0 ∨ 32 < l.length ∨ s.fld R.hltCfg F.hltCfg.OTP_WE = 0 ∨ (∃ i, i < l.length ∧ ¬may (a + i)) ∨ s.fld (R.hltRail 11) F.hltRail.WARN = 1
      (bad → gives (.otpProg r []) St.invalidField []) ∧
      (¬bad → does (.otpProg r []) [] (logRegs s) (fun t => HalterLogs s t 11 0 a ∧ t.hlt = { (answered s 0 []).hlt with otp := t.hlt.otp } ∧
        (∀ x, t.otpByte x = if a ≤ x ∧ x < a + l.length then s.otpByte x ||| l.getD (x - a) 0 else s.otpByte x)))) ∧
    (HalterAccepts s 0x22 r →
      let bad := d.length ≠ 32 ∨ (∀ b ∈ d, b = 0)
      let free (k : Nat) : Prop := k < 4 ∧ s.fkeyEmpty k = true ∧ s.fkeyRevoked k = false
      (bad → gives (.fkeySet r false) St.invalidField []) ∧ (¬bad → (∀ k, ¬free k) → gives (.fkeySet r false) St.noResource []) ∧
      (∀ k, ¬bad → free k → (∀ j, j < k → ¬free j) → does (.fkeySet r false) [BitVec.ofNat 8 k] (R.dlfKey :: logRegs s) (fun t => HalterLogs s t 10 k 1 ∧
        t.fkeySlot k = d ∧ (∀ x, x < 0x80 + 32 * k ∨ 0x80 + 32 * k + 32 ≤ x → t.otpByte x = s.otpByte x) ∧ t.fld R.dlfKey F.dlfKey.VALID = 1))) ∧
    (HalterAccepts s 0x23 r →
      (d.length ≠ 1 ∨ 3 < at' 0 1 → gives (.fkeyRevoke r) St.invalidField []) ∧
      (∀ k : Byte, d = [k] → k.toNat ≤ 3 → does (.fkeyRevoke r) [] (R.dlfKey :: logRegs s) (fun t => HalterLogs s t 10 k.toNat 2 ∧
        t.fkeyRevoked k.toNat = true ∧ (∀ j, j < 4 → j ≠ k.toNat → t.fkeyRevoked j = s.fkeyRevoked j) ∧ (∀ x, x ≠ 0x4A → t.otpByte x = s.otpByte x) ∧
        (t.fld R.dlfKey F.dlfKey.VALID = 1 ↔ ∃ j, j < 4 ∧ t.fkeyEmpty j = false ∧ t.fkeyRevoked j = false)))) ∧
    (HalterAccepts s 0x24 r → (d ≠ [] → gives (.fkeyKcv r) St.invalidField []) ∧
      (d = [] → (s.fkeyActive = none → gives (.fkeyKcv r) 0 [0xFF, 0, 0, 0, 0]) ∧
        (∀ k, s.fkeyActive = some k → gives (.fkeyKcv r) 0 (BitVec.ofNat 8 k :: (hmac (s.fkeySlot k) [0x4B, 0x43, 0x56, 0x31]).take 4)))) ∧
    -- mailbox
    (HalterAccepts s 0x30 r → (d.length ≠ 4 → gives (.mbxSend r) St.invalidField []) ∧ (d.length = 4 → run = 0 → gives (.mbxSend r) St.notReady []) ∧
      (d.length = 4 → run = 1 → 16 ≤ (s.eng 0).inbox.length → gives (.mbxSend r) St.noResource []) ∧
      (d.length = 4 → run = 1 → (s.eng 0).inbox.length < 16 → s.e0Runs = false ∨ (1 ≤ at' 3 1 ∧ at' 3 1 ≤ 11 ∧ (s.eng 0).inbox = []) →
        ∃ t, exec (.mbxSend r) s = .next t ∧ t = { answered s 0 [] with regs := t.regs, pack := { s.pack with engines := t.pack.engines } } ∧
          (t.eng 0).inbox = (s.eng 0).inbox ++ [(BitVec.ofNat 32 (at' 0 4), 2)] ∧ (∀ n, n ≠ 0 → t.eng n = s.eng n) ∧ (∀ off, off ≠ R.engMbx 0 → t.reg off = s.reg off))) ∧
    (HalterAccepts s 0x31 r → (d.length ≠ 1 ∨ at' 0 1 = 0 ∨ 8 < at' 0 1 → gives (.mbxRecv r) St.invalidField []) ∧
      (d.length = 1 → 1 ≤ at' 0 1 → at' 0 1 ≤ 8 → let l := s.hlt.outbox.take (at' 0 1)
        does (.mbxRecv r) (BitVec.ofNat 8 l.length :: l.flatMap (fun w => bytesLE 4 w.toNat)) [R.hltStat] (fun t =>
          t.hlt.outbox = s.hlt.outbox.drop (at' 0 1) ∧ t.fld R.hltStat F.hltStat.OUT_CNT = t.hlt.outbox.length % 32))) ∧
    -- timers of the AON domain
    (s.hlt.wakeDue = false → exec .halterWakeTimer s = .next s) ∧
    (s.hlt.wakeDue = true → ∃ t, exec .halterWakeTimer s = .next t ∧ t = { s with regs := t.regs, hlt := { s.hlt with wakeDue := false } } ∧
      (∀ f ∈ [(R.hltWake, F.hltWake.WAKE), (R.hltStat, F.hltStat.WAKE)], t.fld f.1 f.2 = if (s.otpByte 0x48).getLsbD 0 then s.fld f.1 f.2 else 1) ∧
      (∀ off, off ∉ [R.hltWake, R.hltStat] → t.reg off = s.reg off)) ∧
    (s.hlt.pulse = false ∨ s.hlt.waking ≠ none → exec .halterColdResetEnd s = .next s) ∧
    (s.hlt.pulse = true → s.hlt.waking = none → s.sys.porstLow = false → s.sys.railsBad = [] → hold = 0 →
      ∃ t, exec .halterColdResetEnd s = .next t ∧ t.settled ∧ t = { s with regs := t.regs, sys := { s.sys with resetting := 0 }, hlt := { s.hlt with pulse := false } } ∧
        t.fld R.sysBootStat F.sysBootStat.STAGE = 1 ∧ (∀ off, off ∉ [R.sysStrap, R.sysBootStat, R.hltStat] → t.reg off = s.reg off)) ∧
    (s.hlt.waking = none → exec .wakeOffDelayExpiry s = .next s) ∧
    (∀ who, s.hlt.waking = some who → ∃ t, exec .wakeOffDelayExpiry s = .next t ∧ HalterLogs s t 8 0 0 ∧
      t = { s with regs := t.regs, hlt := { s.hlt with pulse := false, waking := none, resp := if who = none then s.hlt.resp else some [0] } } ∧
      t.fld R.hltWake F.hltWake.WAKE = 0 ∧ t.fld R.hltStat F.hltStat.WAKE = 0 ∧ (∀ off, off ∉ [R.hltWake, R.hltStat] ++ logRegs s → t.reg off = s.reg off)) ∧
    -- the health monitor
    (∀ (temps : List Int) (rails : List Nat), temps.length = 4 →
      let hi := signed 16 (s.fld R.hltThr F.hltThr.HI)
      let crit := signed 16 (s.fld R.hltThr F.hltThr.CRIT)
      let quiet := ∀ n, n < 12 → rails.getD n 0 < 65536 ∧ (rails.getD n 0 = 0 ∨ s.railWarns n (rails.getD n 0) = false)
      let sampled (t : State) : Prop := t.reg R.hltAonMs = s.reg R.hltAonMs + 1 ∧ (∀ n, n < 4 → t.fld (R.hltTs n) F.hltTs.T = unsigned 16 (temps.getD n 0)) ∧
        (∀ n, n < 12 → t.fld (R.hltRail n) F.hltRail.MV = rails.getD n 0 ∧ t.fld (R.hltRail n) F.hltRail.WARN = 0)
      let these := R.hltAonMs :: ((List.range 4).map R.hltTs ++ (List.range 12).map R.hltRail)
      (quiet → (∀ n, n < 4 → temps.getD n 0 < hi ∧ temps.getD n 0 < crit) →
        ∃ t, exec (.healthSample temps rails) s = .next t ∧ sampled t ∧
          t = { s with regs := t.regs, hlt := { s.hlt with crit := [], hot := s.hlt.hot && !((List.range 4).all (fun n => decide (temps.getD n 0 < hi - 80))) } } ∧
          (∀ off, off ∉ these → t.reg off = s.reg off)) ∧
      (∀ n, n < 4 → quiet → s.hlt.hot = false → hi ≤ temps.getD n 0 → (∀ j, j < n → temps.getD j 0 < hi) → (∀ j, j < 4 → temps.getD j 0 < crit) →
        let s1 := s.setReg R.hltAonMs (s.reg R.hltAonMs + 1)
        ∃ t, exec (.healthSample temps rails) s = .next t ∧ sampled t ∧ HalterAlerts s t 0 ∧ HalterLogs s1 t 1 n (unsigned 16 (temps.getD n 0)) ∧
          t = { s with regs := t.regs, asyncQ := t.asyncQ, hlt := { s.hlt with crit := [], hot := true, alertN := t.hlt.alertN } } ∧
          (∀ off, off ∉ these ++ R.hltAlert :: logRegs s → t.reg off = s.reg off)) ∧
      (∀ n, n < 4 → (∀ j, j < 12 → rails.getD j 0 = 0) → s.hlt.hot = true → crit ≤ temps.getD n 0 → hi ≤ temps.getD n 0 → (∀ j, j < 4 → j ≠ n → temps.getD j 0 < crit) → n ∈ s.hlt.crit →
        s.hlt.critHold = false → s.sys.resetting ≠ 1 → s.fld R.hltCfg F.hltCfg.CRIT_RST = 1 →
        ∃ t, exec (.healthSample temps rails) s = .next t ∧ AfterColdReset s t ∧ t.fld R.hltStat F.hltStat.HOLD = 1 ∧ t.hlt.critHold = true ∧
          (t.reg R.hltAlert).getLsbD 1 = true ∧ t.fld R.sysRstCause F.sysRstCause.HLT_COLD = 1) ∧
      (∀ m, m < 12 → (∀ n, n < 12 → n ≠ m → rails.getD n 0 = 0) → 0 < rails.getD m 0 → rails.getD m 0 < 65536 → s.railWarns m (rails.getD m 0) = true →
        (∀ n, n < 4 → temps.getD n 0 < hi ∧ temps.getD n 0 < crit) →
        let s1 := s.setReg R.hltAonMs (s.reg R.hltAonMs + 1)
        ∃ t, exec (.healthSample temps rails) s = .next t ∧ HalterAlerts s t 2 ∧ HalterLogs s1 t 3 m (rails.getD m 0) ∧ t.fld (R.hltRail m) F.hltRail.WARN = 1 ∧
          t.fld (R.hltRail m) F.hltRail.MV = rails.getD m 0))


/-! ## Services, boot and recovery (chapter 15) -/

/-- E0 runs the service loop with nothing else to do (R497, R505), a request w of a sender waits alone in its inbox, and both outboxes have room. -/
abbrev Requested (s : State) (w : Word) (src : Nat) : Prop :=
  s.settled ∧ s.fab.releases = [] ∧ s.e0Runs = true ∧ s.sec.loop = true ∧ s.sec.boot = false ∧ s.sec.running = none ∧ s.sec.reports = [] ∧ s.sec.due = [] ∧
  s.sec.hostLoss = none ∧ (s.eng 0).inbox = [(w, src)] ∧ (src = 1 ∨ src = 2) ∧ (s.eng 0).outbox.length < 16 ∧ s.hlt.outbox.length < 16 ∧ s.asyncQ.length < 64

/-- E0 runs service x with nothing else to do, and both outboxes have room. -/
abbrev Serving (s : State) (x : Service) : Prop :=
  s.settled ∧ s.fab.releases = [] ∧ s.e0Runs = true ∧ s.sec.loop = true ∧ s.sec.boot = false ∧ s.sec.running = some x ∧ s.sec.reports = [] ∧ s.sec.due = [] ∧
  s.sec.hostLoss = none ∧ (s.eng 0).inbox = [] ∧ (x.sender = 1 ∨ x.sender = 2) ∧ (s.eng 0).outbox.length < 16 ∧ s.hlt.outbox.length < 16 ∧ s.asyncQ.length < 64

/-- The word r has gone to the host (1) or the halter (2), and to no other (R505). -/
def WordSent (s t : State) (dst : Nat) (r : Word) : Prop :=
  (t.eng 0).outbox = (if dst = 1 then (s.eng 0).outbox ++ [r] else (s.eng 0).outbox) ∧
  t.hlt.outbox = (if dst = 1 then s.hlt.outbox else s.hlt.outbox ++ [r])

/-- A service has ended: the reply to its sender, SEC.SVC_STAT, and E0 free again (R505). -/
def ServiceEnds (s t : State) (svc tag dst status : Nat) : Prop :=
  WordSent s t dst (BitVec.ofNat 32 ((svc + 0x80) * 2 ^ 24 + tag * 2 ^ 20 + status)) ∧ (t.eng 0).inbox = [] ∧ t.sec = { s.sec with running := none } ∧
  t.reg R.secSvcStat = BitVec.ofNat 32 (status * 2 ^ 16 + svc * 2 ^ 24)

/-- The registers that the end of a service changes: its status, the outboxes' counts and the halter's alert. -/
def replyRegs : List Nat := [R.secSvcStat, R.engMbx 0, R.hltStat, R.hltAlert]

/-- SEC.SVC_RES0 to SVC_RES3 hold the results (R505). -/
def Results (t : State) (l : List Word) : Prop := ∀ i, i < 4 → t.reg (R.secSvcRes i) = l.getD i 0

/-- The registers of the results. -/
def resultRegs : List Nat := (List.range 4).map R.secSvcRes

/-- What a reply changes beside registers. -/
def replyOnly (s t : State) : State :=
  { s with regs := t.regs, asyncQ := t.asyncQ, sec := t.sec, hlt := { s.hlt with outbox := t.hlt.outbox, alertN := t.hlt.alertN },
           pack := { s.pack with engines := t.pack.engines } }

/-- E0 runs the service loop with nothing asked of it, and both outboxes have room. -/
abbrev ServiceLoop (s : State) : Prop :=
  s.settled ∧ s.fab.releases = [] ∧ s.e0Runs = true ∧ s.sec.loop = true ∧ s.sec.boot = false ∧ s.sec.running = none ∧ s.sec.reports = [] ∧ s.sec.due = [] ∧
  (s.eng 0).inbox = [] ∧ (s.eng 0).outbox.length < 16 ∧ s.hlt.outbox.length < 16 ∧ s.asyncQ.length < 64

/-- R497, R499-R502, R505-R508, R510-R513, Table 15-3: each service is refused, ends with its results, or runs with what it starts; the limits of SHADE_CAL and
FABRIC_UP; host loss, jams and the heartbeat; the boot sequencer's choice among the bundles, and E0's part of the boot.
The model's own choices here: notes/assumptions/40, 56 and 57. -/
def Obligations.ServicesAndBoot : Prop :=
  ∀ s : State,
    (∀ (w : Word) (src : Nat), Requested s w src →
      let tag := w.toNat / 2 ^ 20 % 16
      let arg := w.toNat % 2 ^ 20
      let k := arg % 4
      let svc (n : Nat) : Prop := w.toNat / 2 ^ 24 = n
      let refused (i : Instr) (n status : Nat) : Prop := ∃ t, exec i s = .next t ∧ ServiceEnds s t n tag src status ∧ t = replyOnly s t ∧
        (∀ off, off ∉ replyRegs → t.reg off = s.reg off)
      let ends (i : Instr) (n status : Nat) (res : State → List Word) (u : State) (offs : List Nat) : Prop := ∃ t, exec i s = .next t ∧
        ServiceEnds s t n tag src status ∧ Results t (res t) ∧ t = replyOnly u t ∧ (∀ off, off ∉ replyRegs ++ resultRegs ++ offs → t.reg off = s.reg off)
      let runs (i : Instr) (n : Nat) (post : State → Service → Prop) : Prop := ∃ t x, exec i s = .next t ∧ t.sec = { s.sec with running := some x } ∧
        x.svc = n ∧ x.tag = tag ∧ x.arg = arg ∧ x.sender = src ∧ (t.eng 0).inbox = [] ∧ (t.eng 0).outbox = (s.eng 0).outbox ∧ t.hlt = s.hlt ∧
        t.fld R.secSvcStat F.secSvcStat.SVC = n ∧ t.fld R.secSvcStat F.secSvcStat.TAG = tag ∧ t.mem = s.mem ∧ post t x
      -- a request for another service waits
      (∀ i ∈ [(1, Instr.svcStatus), (2, .svcSelftest []), (3, .svcAdcCal), (4, .svcAuxCal), (5, .svcShadeCal), (6, .svcCalLoad), (7, .svcCalSave), (8, .svcJamRecover),
          (9, .svcSafeStop), (10, .svcFabricUp), (11, .svcLoadEntry)], ¬svc i.1 → 1 ≤ w.toNat / 2 ^ 24 → w.toNat / 2 ^ 24 ≤ 11 → exec i.2 s = .next s) ∧
      (svc 1 → ends .svcStatus 1 0 (fun _ => [s.reg R.sysBootStat, s.reg R.secBootInfo, s.reg R.sysRstCause]) s []) ∧
      (svc 2 → s.fld R.sysBootStat F.sysBootStat.READY = 1 →
        let busy := s.openStreams ≠ [] ∨ (∃ n, 1 ≤ n ∧ n < 96 ∧ (s.engState n = 2 ∨ s.engState n = 3)) ∨ (∃ g, g < 4 ∧ s.fld (R.grpCtl g) F.grpCtl.EN = 1) ∨
          (∃ i, i < 32 ∧ (s.iwOn i = true ∨ s.owOn i = true)) ∨ s.hqe.jobs ≠ []
        let tested := (if arg.testBit 0 then s.testRanges true else []) ++ (if arg.testBit 1 then s.testRanges false else [])
        let marched (t : State) : Prop := (∀ a, (∃ r ∈ tested, r.1 ≤ a ∧ a < r.1 + r.2) → t.byte a = 0) ∧
          (∀ a, (∀ r ∈ tested, a < r.1 ∨ r.1 + r.2 ≤ a) → t.byte a = s.byte a) ∧ (arg.testBit 0 = true → t.streams = [])
        let ran (t : State) : Prop := (arg.testBit 0 = true → t.fld R.secSelftest F.secSelftest.SRAM_RUN = 1) ∧ (arg.testBit 1 = true → t.fld R.secSelftest F.secSelftest.PS_RUN = 1)
        (∀ bad, busy → refused (.svcSelftest bad) 2 St.contextBusy) ∧
        (¬busy → ∃ t, exec (.svcSelftest []) s = .next t ∧ ServiceEnds s t 2 tag src 0 ∧ Results t [t.reg R.secSelftest] ∧ marched t ∧ ran t ∧
          (arg.testBit 0 = true → t.fld R.secSelftest F.secSelftest.SRAM_FAIL = 0) ∧ (arg.testBit 1 = true → t.fld R.secSelftest F.secSelftest.PS_FAIL = 0) ∧
          (∀ off, off ∉ R.secSelftest :: (replyRegs ++ resultRegs) → t.reg off = s.reg off)) ∧
        (¬busy → ∀ (a : Nat) (ue : Bool), arg % 4 = 2 → s.pdOn 127 = true → pageBase ≤ a → a < pageBase + 0x7C000000 →
          ∃ t, exec (.svcSelftest [(a, ue)]) s = .next t ∧ ServiceEnds s t 2 tag src (if ue then St.eccUncorrectable else St.busError) ∧ marched t ∧ ran t ∧
            t.fld R.secSelftest F.secSelftest.PS_FAIL = 1 ∧ t.fld R.secSelftest F.secSelftest.POOL = 6 ∧ t.reg64 R.secStAddrLo R.secStAddrHi = a)) ∧
      (svc 3 → (s.fld R.vafFgcal F.vafFgcal.BUSY = 1 → refused .svcAdcCal 3 St.contextBusy) ∧
        (∀ j, j < 4 → s.fld R.vafFgcal F.vafFgcal.BUSY = 0 → arg % 16 = 2 ^ j → (s.bankState j = 0 ∨ s.bankIdle j = false) → refused .svcAdcCal 3 St.contextBusy) ∧
        (∀ j, j < 4 → s.fld R.vafFgcal F.vafFgcal.BUSY = 0 → arg % 16 = 2 ^ j → s.bankState j ≠ 0 → s.bankIdle j = true → (∀ n, n < 16 → s.inputHeld n = false) →
          runs .svcAdcCal 3 (fun t _ => t.fld R.vafFgcal F.vafFgcal.BUSY = 1 ∧ t.fld R.vafFgcal F.vafFgcal.BANKS = 2 ^ j ∧ t.bankState j = 2))) ∧
      (svc 4 → (s.fld R.auxCalCtl F.auxCalCtl.BUSY = 1 ∨ s.auxIdle = false → refused .svcAuxCal 4 St.contextBusy) ∧
        (s.fld R.auxCalCtl F.auxCalCtl.BUSY = 0 → s.auxIdle = true → runs .svcAuxCal 4 (fun t _ => t.fld R.auxCalCtl F.auxCalCtl.BUSY = 1 ∧ t.auxState = 3))) ∧
      (svc 5 →
        let chosen (g : Nat) : Prop := g < 4 ∧ arg.testBit (4 + g) = true
        let fit (g : Nat) : Prop := s.grpState g = 1 ∧ s.fld (R.grpCtl g) F.grpCtl.STRIP_EN = 1 ∧ s.selOn (R.grpStripSel g) = true
        let gmin := s.fld (R.pathPolicy k) F.pathPolicy.GMIN
        (s.pathState k ≠ 1 ∨ (∃ g, chosen g ∧ ¬fit g) → refused .svcShadeCal 5 St.invalidField) ∧
        (s.pathState k = 1 → (∀ g, chosen g → fit g) → (∃ g, chosen g) → s.pathOn k = true → gmin ≤ s.fld (R.pathPolicy k) F.pathPolicy.GMAX →
          runs .svcShadeCal 5 (fun t x => t.fld R.shdRecCtl F.shdRecCtl.AUTO = 0 ∧ x.auto = decide (s.fld R.shdRecCtl F.shdRecCtl.AUTO = 1) ∧ t.pathState k = 2 ∧
            t.fld (R.pathStat k) F.pathStat.GAIT = gmin ∧ (∀ g, chosen g → t.fld (R.grpStat g) F.grpStat.FULL_PEND = 1) ∧
            (∀ g, g < 4 → ¬chosen g → t.reg (R.grpStat g) = s.reg (R.grpStat g))))) ∧
      (svc 6 →
        let busy := (∃ g, g < 4 ∧ s.fld (R.grpCtl g) F.grpCtl.EN = 1) ∨ (∃ j, j < 4 ∧ s.bankIdle j = false)
        (busy → refused .svcCalLoad 6 St.contextBusy) ∧
        (¬busy → s.calChosen = none → ends .svcCalLoad 6 0 (fun t => [t.reg R.shdRecStat, s.reg R.shdRecSeq]) s [R.shdRecStat])) ∧
      (svc 7 → runs .svcCalSave 7 (fun t x => t.fld R.shdRecStat F.shdRecStat.BUSY = 1 ∧
        (s.fld R.shdRecStat F.shdRecStat.BUSY = 0 → x.saves = 1) ∧ (s.fld R.shdRecStat F.shdRecStat.BUSY = 1 → x.saves = 2 ∧ t.fld R.shdRecStat F.shdRecStat.PEND = 1))) ∧
      (svc 8 →
        let ps := s.reg (R.pathStat k)
        let note := F.pathStat.JAM_CHK.put (F.pathStat.JAM_CAUSE.put 0 (F.pathStat.JAM_CAUSE.get ps)) (F.pathStat.JAM_CHK.get ps)
        (s.pathState k ≠ 7 → refused .svcJamRecover 8 St.contextBusy) ∧
        (s.pathState k = 7 → s.pathOn k = true → (s.pathSt k).speed = 0 →
          (s.fld (R.pathRev k) F.pathRev.REV ≠ 0 → runs .svcJamRecover 8 (fun t x => x.note = note ∧ t.pathState k = 7 ∧ (t.pathSt k).reverse = true ∧ (t.pathSt k).atRest = .cleared)) ∧
          (s.fld (R.pathRev k) F.pathRev.REV = 0 → s.chkLevels k = 0 → ∃ t, exec .svcJamRecover s = .next t ∧ ServiceEnds s t 8 tag src 0 ∧ Results t [note] ∧ t.pathState k = 1))) ∧
      (svc 9 → (s.pathState k = 0 → refused .svcSafeStop 9 St.notReady) ∧
        (s.pathState k = 1 → ∃ t, exec .svcSafeStop s = .next t ∧ ServiceEnds s t 9 tag src 0 ∧ Results t [t.reg (R.pathStat k)] ∧ t.pathState k = 1) ∧
        (s.pathState k = 2 → s.pathOn k = true → s.fld (R.pathCfg k) F.pathCfg.FLOW = 0 → runs .svcSafeStop 9 (fun t _ => t.pathState k = 3 ∧ (t.pathSt k).target = 0))) ∧
      (svc 10 →
        (s.fabState = 4 → s.fld R.dlfCfg F.dlfCfg.EN = 1 → (∀ j, j < 4 → s.portState j = 5) → (∀ j, j < 4 → s.portRuns j = true) →
          s.effReg R.dlfCfg = s.reg R.dlfCfg →
          ends .svcFabricUp 10 0 (fun _ => [s.reg R.dlfStat, s.reg R.dlfEpoch]) { s with eff := Table.erase s.eff R.dlfCfg } []) ∧
        (s.fabState = 0 → (∀ j, j < 4 → s.portState j = 0 ∧ s.fld (R.dlCtl j) F.dlCtl.EN = 0) →
          runs .svcFabricUp 10 (fun t _ => t.fld R.dlfCfg F.dlfCfg.EN = 1 ∧ t.fabState = 1))) ∧
      (svc 11 →
        let base := s.fld R.secBootInfo F.secBootInfo.SLOT * 0x0400000
        let b := s.flashBytes base (bundleTotal (s.flashBytes base 128))
        (s.fld R.secBootInfo F.secBootInfo.HOST = 1 → refused .svcLoadEntry 11 St.noResource) ∧
        (s.fld R.secBootInfo F.secBootInfo.HOST = 0 →
          (bundleCount b ≤ arg % 32 → refused .svcLoadEntry 11 St.invalidField) ∧
          (∀ e, (bundleEntries b)[arg % 32]? = some e →
            let n := max 1 e.count
            (e.type ≠ 1 ∨ 96 < e.first + n → refused .svcLoadEntry 11 St.invalidField) ∧
            (e.type = 1 → e.first + n ≤ 96 → 1 ≤ e.first → let u := s.loadImage ((List.range n).map (fun i => e.first + i)) (e.payload b)
              ∃ t, exec .svcLoadEntry s = .next t ∧ ServiceEnds s t 11 tag src u.2 ∧ Results t [] ∧ (∀ a, t.byte a = u.1.byte a) ∧
                (∀ off, off ∉ replyRegs ++ resultRegs → t.reg off = u.1.reg off)))))) ∧
    -- limits of running services
    (s.usual → s.sec.running = none → exec .shadeCalTimeout s = .next s ∧ exec .fabricUpLimit s = .next s) ∧
    (∀ x, Serving s x →
      (x.svc = 5 → x.saves = 0 → s.pathState (x.arg % 4) = 2 → s.pathOn (x.arg % 4) = true →
        ∃ t, exec .shadeCalTimeout s = .next t ∧ ServiceEnds s t 5 x.tag x.sender St.timeout ∧ Results t [x.groupWord] ∧
          t.fld R.shdRecCtl F.shdRecCtl.AUTO = (if x.auto then 1 else 0) ∧ (t.pathSt (x.arg % 4)).target = 0 ∧ (t.pathSt (x.arg % 4)).atRest = .halt) ∧
      (x.svc = 10 → s.fabState ≠ 4 →
        ∃ t, exec .fabricUpLimit s = .next t ∧ Results t [s.reg R.dlfStat, s.reg R.dlfEpoch] ∧
          ServiceEnds s t 10 x.tag x.sender (if x.auto = true ∨ s.activePorts ≠ [] then St.timeout else St.fabricUnreachable) ∧ t = replyOnly s t ∧
          (∀ off, off ∉ replyRegs ++ resultRegs → t.reg off = s.reg off))) ∧
    -- host loss, jams, heartbeat
    (s.usual → s.sec.hostLoss = none → exec .hostLossHoldExpiry s = .next s) ∧
    (∀ (k : Fin 4), ServiceLoop s → s.sec.hostLoss = some (2 ^ k.val, false) →
      let hold := s.fld R.secSvcCfg F.secSvcCfg.HL_S
      (hold = 0 → exec .hostLossHoldExpiry s = .next s) ∧
      (hold ≠ 0 → s.pathState k ∉ [1, 4] → exec .hostLossHoldExpiry s = .next { s with sec := { s.sec with hostLoss := some (2 ^ k.val, true) } }) ∧
      (hold ≠ 0 → s.pathState k = 1 → (∀ n ∈ s.axesOf k, s.axisIdle n = true) → ∃ t, exec .hostLossHoldExpiry s = .next t ∧ t.sec = { s.sec with hostLoss := none } ∧
        WordSent s t 2 (BitVec.ofNat 32 (0x40F00100 + 2 ^ k.val)) ∧ (∀ n ∈ s.axesOf k, t.fld (R.axisCtl n) F.axisCtl.RUN = 0) ∧ t.mem = s.mem)) ∧
    (∀ k : Fin 4, (s.usual → s.sec.jams.contains k.val = false → exec (.jamAutoRecover k) s = .next s) ∧
      (ServiceLoop s → s.sec.hostLoss = none → s.sec.jams.contains k.val = true → s.pathState k ≠ 7 →
        ∃ t, exec (.jamAutoRecover k) s = .next t ∧ t.sec = { s.sec with jams := s.sec.jams.filter (fun j => j != k.val) } ∧
          WordSent s t 2 (BitVec.ofNat 32 (0x88 * 2 ^ 24 + St.contextBusy)) ∧ t = replyOnly s t ∧ (∀ off, off ∉ replyRegs → t.reg off = s.reg off)) ∧
      (ServiceLoop s → s.sec.hostLoss = none → s.sec.jams.contains k.val = true → s.pathState k = 7 → s.pathOn k = true → (s.pathSt k).speed = 0 → s.fld (R.pathRev k) F.pathRev.REV ≠ 0 →
        ∃ t x, exec (.jamAutoRecover k) s = .next t ∧ t.sec = { s.sec with jams := s.sec.jams.filter (fun j => j != k.val), running := some x } ∧ x.svc = 8 ∧ x.sender = 2 ∧ x.arg = k.val ∧
          t.pathState k = 7 ∧ (t.pathSt k).reverse = true ∧ (t.pathSt k).atRest = .cleared)) ∧
    (s.usual → (s.sec.loop = true → s.e0Runs = true → exec .serviceHeartbeat s = .next (s.setReg R.secSvcHb (s.reg R.secSvcHb + 1))) ∧
      (s.sec.loop = false ∨ s.e0Runs = false → exec .serviceHeartbeat s = .next s)) ∧
    -- the boot sequencer
    (s.usual →
      let stage := s.fld R.sysBootStat F.sysBootStat.STAGE
      let due := stage = 2 ∧ s.fld R.sysBootStat F.sysBootStat.FAIL = 0 ∧ s.fld R.secBootInfo F.secBootInfo.HOST = 0 ∧ s.engState 0 = 1
      let header (k : Nat) : List Byte := s.flashBytes (k * 0x0400000) 128
      let bundle (k : Nat) : List Byte := s.flashBytes (k * 0x0400000) (bundleTotal (header k))
      (¬due → exec .bootImageLoad s = .next s) ∧
      (due → bundleHeaderOk (header 0) = false → bundleHeaderOk (header 1) = false →
        (s.fld R.sysStrap F.sysStrap.BOOT_SRC = 2 → ∃ t, exec .bootImageLoad s = .next t ∧ s.sameBut t [R.secBootInfo] ∧ t.fld R.secBootInfo F.secBootInfo.HOST = 1) ∧
        (s.fld R.sysStrap F.sysStrap.BOOT_SRC ≠ 2 → ∃ t, exec .bootImageLoad s = .next t ∧ s.sameBut t [R.sysBootStat] ∧ t.fld R.sysBootStat F.sysBootStat.FAIL = 1 ∧
          t.fld R.sysBootStat F.sysBootStat.STAGE = 2 ∧ t.fld R.sysBootStat F.sysBootStat.STATUS = St.invalidField)) ∧
      (∀ k, k < 2 → due → bundleHeaderOk (header k) = true → bundleHeaderOk (header (1 - k)) = false → s.sys.bitErrs = [] → s.sys.poison = [] →
        (bundleShapeOk (bundle k) = false → s.fld R.sysStrap F.sysStrap.BOOT_SRC ≠ 2 → ∃ t, exec .bootImageLoad s = .next t ∧ t = { s with regs := t.regs, mem := t.mem } ∧
          t.bytes stagingBase (bundle k).length = bundle k ∧ t.fld R.sysBootStat F.sysBootStat.FAIL = 1 ∧ t.fld R.sysBootStat F.sysBootStat.STAGE = 3 ∧
          t.fld R.sysBootStat F.sysBootStat.STATUS = St.invalidField ∧ (∀ off, off ≠ R.sysBootStat → t.reg off = s.reg off)) ∧
        ((s.tryBundle k).2 = 0 → (s.eng 0).inbox = [] → ∃ t, exec .bootImageLoad s = .next t ∧ t.bytes stagingBase (bundle k).length = bundle k ∧ t.engState 0 = 2 ∧
          t.engPc 0 = t.fld (R.engStart 0) F.engStart.PC ∧ t.fld R.sysBootStat F.sysBootStat.STAGE = 4 ∧ t.fld R.secBootInfo F.secBootInfo.SLOT = k ∧
          t.reg R.secBootVer = BitVec.ofNat 32 (bundleVersion (header k))))) ∧
    -- E0's part of the boot
    (s.usual →
      let ready := s.fld R.sysBootStat F.sysBootStat.READY
      let host := s.fld R.secBootInfo F.secBootInfo.HOST
      (ready = 1 ∨ s.fld R.sysBootStat F.sysBootStat.FAIL = 1 ∨ s.e0Runs = false ∨ s.sec.loop = true ∨ (s.sec.script = none ∧ s.fld R.sysBootStat F.sysBootStat.STAGE ≠ 4) →
        exec .serviceBoot s = .next s) ∧
      (ready = 0 → s.fld R.sysBootStat F.sysBootStat.FAIL = 0 → s.e0Runs = true → s.sec = { warm := s.sec.warm } → s.fld R.sysBootStat F.sysBootStat.STAGE = 4 →
        s.pdOn 127 = true → (s.eng 0).inbox = [] → s.sec.warm = true ∨ s.calChosen = none →
        host = 1 ∨ (∀ e ∈ bundleEntries s.staged, e.type = 1) ∧ (∀ e ∈ (bundleEntries s.staged).drop 1, e.count = 0) →
        ∃ t, exec .serviceBoot s = .next t ∧ t.settled ∧ t.sec = { s.sec with loop := true } ∧ t.fld R.sysBootStat F.sysBootStat.READY = 1 ∧
          t.fld R.sysBootStat F.sysBootStat.STAGE = 6 ∧ t.sys = { s.sys with resetting := 0, warmActive := false, poison := t.sys.poison, bitErrs := t.sys.bitErrs } ∧
          (∀ a, t.byte a = if stagingBase ≤ a ∧ a < stagingBase + stagingBytes then 0 else s.byte a) ∧
          (∀ off, off ∉ [R.sysBootStat, R.shdRecStat, R.hltStat] → t.reg off = s.reg off)))
end

