-- ==== Sys2Proof/Laws/Bits.lean ====
section
/-!
SUPPORT. Sys2Proof/Laws/Bits.lean: a field of a word after the field, or a disjoint one, is set.
-/
namespace Sys2Proof.Machine

theorem fieldMask_bit (lo n i : Nat) (h : lo + n ≤ 32) (hi : i < 32) :
    (fieldMask lo n).getLsbD i = decide (lo ≤ i ∧ i < lo + n) := by
  simp only [fieldMask, BitVec.getLsbD_shiftLeft, BitVec.getLsbD_ushiftRight, BitVec.getLsbD_allOnes, hi, decide_true,
    Bool.true_and]
  by_cases h1 : lo ≤ i
  · by_cases h2 : i < lo + n
    · simp [h1, h2, Nat.not_lt.mpr h1]; omega
    · simp [h1, h2, Nat.not_lt.mpr h1]; omega
  · simp [h1, Nat.lt_of_not_le h1]

theorem Fld.put_bit (f : Fld) (w : Word) (x i : Nat) (h : f.lo + f.width ≤ 32) (hi : i < 32) :
    (f.put w x).getLsbD i = if f.lo ≤ i ∧ i < f.lo + f.width then x.testBit (i - f.lo) else w.getLsbD i := by
  simp only [Fld.put, BitVec.getLsbD_or, BitVec.getLsbD_and, BitVec.getLsbD_not, fieldMask_bit _ _ _ h hi, hi,
    decide_true, Bool.true_and, BitVec.getLsbD_shiftLeft, BitVec.getLsbD_ofNat]
  by_cases h1 : f.lo ≤ i ∧ i < f.lo + f.width
  · have h2 : ¬ i < f.lo := by omega
    have h3 : i - f.lo < 32 := by omega
    simp [h1, h2, h3]
  · simp [h1]

theorem Fld.get_eq (f : Fld) (w v : Word) (h : f.lo + f.width ≤ 32)
    (hb : ∀ i, f.lo ≤ i → i < f.lo + f.width → w.getLsbD i = v.getLsbD i) : f.get w = f.get v := by
  unfold Fld.get
  congr 1
  apply BitVec.eq_of_getLsbD_eq
  intro i hi
  simp only [BitVec.getLsbD_extractLsb', hi, decide_true, Bool.true_and]
  exact hb _ (by omega) (by omega)

/-- A field reads the value just put into it, modulo its width. -/
theorem Fld.get_put (f : Fld) (w : Word) (x : Nat) (h : f.lo + f.width ≤ 32) : f.get (f.put w x) = x % 2 ^ f.width := by
  have key : (f.put w x).extractLsb' f.lo f.width = BitVec.ofNat f.width x := by
    apply BitVec.eq_of_getLsbD_eq
    intro i hi
    simp only [BitVec.getLsbD_extractLsb', hi, decide_true, Bool.true_and, BitVec.getLsbD_ofNat]
    rw [Fld.put_bit f w x _ h (by omega), if_pos ⟨by omega, by omega⟩]
    congr 1; omega
  rw [Fld.get, key, BitVec.toNat_ofNat]

/-- A field is unchanged when a field apart from it is set. -/
theorem Fld.get_put_apart (f g : Fld) (w : Word) (x : Nat) (hf : f.lo + f.width ≤ 32) (hg : g.lo + g.width ≤ 32)
    (h : g.lo + g.width ≤ f.lo ∨ f.lo + f.width ≤ g.lo) : g.get (f.put w x) = g.get w := by
  apply Fld.get_eq g _ _ hg
  intro i h1 h2
  rw [Fld.put_bit f w x i hf (by omega), if_neg (by omega)]

/-- A bit outside a field is unchanged when the field is set. -/
theorem Fld.put_bit_apart (f : Fld) (w : Word) (x i : Nat) (h : f.lo + f.width ≤ 32) (ho : i < f.lo ∨ f.lo + f.width ≤ i) :
    (f.put w x).getLsbD i = w.getLsbD i := by
  by_cases hi : i < 32
  · rw [Fld.put_bit f w x i h hi, if_neg (by omega)]
  · rw [BitVec.getLsbD_of_ge _ _ (by omega), BitVec.getLsbD_of_ge _ _ (by omega)]

end Sys2Proof.Machine
end

