-- ==== Sys2Proof/Laws/Table.lean ====
section
/-!
SUPPORT. Sys2Proof/Laws/Table.lean: reading a table after an update, and that every update keeps the canonical form.
-/
namespace Sys2Proof.Machine

section Reads
variable {α : Type} (d : Nat → α)

theorem Table.get_erase (t : Table α) (k j : Nat) :
    Table.get d (t.erase k) j = if j = k then d k else Table.get d t j := by
  induction t with
  | nil => by_cases h : j = k <;> simp [Table.erase, Table.get, h]
  | cons e r ih =>
    by_cases he : e.1 = k
    · rw [Table.erase, if_pos he, ih]
      by_cases hj : j = k
      · simp [hj]
      · have hne : e.1 ≠ j := fun h => hj (h.symm.trans he)
        simp [hj, Table.get, hne]
    · rw [Table.erase, if_neg he, Table.get, ih]
      by_cases hj : j = k
      · have hne : e.1 ≠ j := fun h => he (h.trans hj)
        subst hj; rw [if_neg hne, if_pos rfl, if_pos rfl]
      · simp [hj, Table.get]

theorem Table.get_insert_ne (t : Table α) (k j : Nat) (v : α) (h : j ≠ k) :
    Table.get d (t.insert k v) j = Table.get d t j := by
  induction t with
  | nil => simp [Table.insert, Table.get, Ne.symm h]
  | cons e r ih =>
    by_cases hk : k < e.1
    · simp [Table.insert, hk, Table.get, Ne.symm h]
    · simp only [Table.insert, if_neg hk, Table.get]
      rw [ih]

theorem Table.get_insert_erase (t : Table α) (k : Nat) (v : α) :
    Table.get d ((t.erase k).insert k v) k = v := by
  induction t with
  | nil => simp [Table.erase, Table.insert, Table.get]
  | cons e r ih =>
    by_cases he : e.1 = k
    · rw [Table.erase, if_pos he]; exact ih
    · rw [Table.erase, if_neg he, Table.insert]
      by_cases hk : k < e.1
      · simp [hk, Table.get]
      · rw [if_neg hk, Table.get, if_neg he]; exact ih

/-- A table reads the value just set at its key, and elsewhere what it read before. -/
theorem Table.get_set [DecidableEq α] (t : Table α) (k j : Nat) (v : α) :
    Table.get d (Table.set d t k v) j = if j = k then v else Table.get d t j := by
  unfold Table.set
  by_cases hv : v = d k
  · rw [if_pos hv, Table.get_erase]
    by_cases hj : j = k <;> simp [hj, hv]
  · rw [if_neg hv]
    by_cases hj : j = k
    · rw [hj, if_pos rfl]; exact Table.get_insert_erase d t k v
    · rw [if_neg hj, Table.get_insert_ne d _ _ _ _ hj, Table.get_erase, if_neg hj]

@[simp] theorem Table.get_set_same [DecidableEq α] (t : Table α) (k : Nat) (v : α) :
    Table.get d (Table.set d t k v) k = v := by rw [Table.get_set, if_pos rfl]

theorem Table.get_set_ne [DecidableEq α] (t : Table α) (k j : Nat) (v : α) (h : j ≠ k) :
    Table.get d (Table.set d t k v) j = Table.get d t j := by rw [Table.get_set, if_neg h]

end Reads

section Canon
variable {α : Type} [DecidableEq α] (d : Nat → α)

/-- A key may follow a bound. -/
def above (b : Option Nat) (k : Nat) : Prop := match b with | none => True | some n => n < k

theorem Table.canonFrom_cons (b : Option Nat) (e : Nat × α) (r : Table α) :
    Table.canonFrom d b (e :: r) = true ↔ above b e.1 ∧ e.2 ≠ d e.1 ∧ Table.canonFrom d (some e.1) r = true := by
  cases b <;> simp [Table.canonFrom, above, and_assoc]

theorem Table.canonFrom_lower (b : Option Nat) (k : Nat) (t : Table α) (hb : above b k)
    (h : Table.canonFrom d (some k) t = true) : Table.canonFrom d b t = true := by
  cases t with
  | nil => rfl
  | cons e r =>
    rw [Table.canonFrom_cons] at h ⊢
    refine ⟨?_, h.2⟩
    cases b with
    | none => trivial
    | some n => exact Nat.lt_trans hb h.1

theorem Table.canonFrom_erase (b : Option Nat) (t : Table α) (k : Nat) (h : Table.canonFrom d b t = true) :
    Table.canonFrom d b (t.erase k) = true := by
  induction t generalizing b with
  | nil => rfl
  | cons e r ih =>
    rw [Table.canonFrom_cons] at h
    by_cases he : e.1 = k
    · rw [Table.erase, if_pos he]
      exact ih b (Table.canonFrom_lower d b e.1 r h.1 h.2.2)
    · rw [Table.erase, if_neg he, Table.canonFrom_cons]
      exact ⟨h.1, h.2.1, ih _ h.2.2⟩

/-- No entry has the key. -/
def Table.lacks (t : Table α) (k : Nat) : Prop := ∀ e ∈ t, e.1 ≠ k

omit [DecidableEq α] in
theorem Table.erase_lacks (t : Table α) (k : Nat) : Table.lacks (t.erase k) k := by
  induction t with
  | nil => intro e he; cases he
  | cons e r ih =>
    by_cases he : e.1 = k
    · rw [Table.erase, if_pos he]; exact ih
    · rw [Table.erase, if_neg he]
      intro x hx
      rcases List.mem_cons.mp hx with rfl | hx
      · exact he
      · exact ih x hx

theorem Table.canonFrom_insert (b : Option Nat) (t : Table α) (k : Nat) (v : α) (hb : above b k) (hv : v ≠ d k)
    (hl : Table.lacks t k) (h : Table.canonFrom d b t = true) : Table.canonFrom d b (t.insert k v) = true := by
  induction t generalizing b with
  | nil => rw [Table.insert, Table.canonFrom_cons]; exact ⟨hb, hv, rfl⟩
  | cons e r ih =>
    rw [Table.canonFrom_cons] at h
    by_cases hk : k < e.1
    · rw [Table.insert, if_pos hk, Table.canonFrom_cons, Table.canonFrom_cons]
      exact ⟨hb, hv, hk, h.2⟩
    · rw [Table.insert, if_neg hk, Table.canonFrom_cons]
      have hne : e.1 ≠ k := hl e List.mem_cons_self
      have hlt : e.1 < k := by omega
      exact ⟨h.1, h.2.1, ih _ hlt (fun x hx => hl x (List.mem_cons_of_mem _ hx)) h.2.2⟩

/-- Setting a key keeps a table canonical. -/
theorem Table.canon_set (t : Table α) (k : Nat) (v : α) (h : Table.canon d t = true) :
    Table.canon d (Table.set d t k v) = true := by
  unfold Table.set
  by_cases hv : v = d k
  · rw [if_pos hv]; exact Table.canonFrom_erase d none t k h
  · rw [if_neg hv]
    exact Table.canonFrom_insert d none _ k v trivial hv (Table.erase_lacks t k) (Table.canonFrom_erase d none t k h)

theorem Table.canonFrom_filter (p : Nat × α → Bool) (b : Option Nat) (t : Table α) (h : Table.canonFrom d b t = true) :
    Table.canonFrom d b (t.filter p) = true := by
  induction t generalizing b with
  | nil => rfl
  | cons e r ih =>
    rw [Table.canonFrom_cons] at h
    by_cases hp : p e = true
    · rw [List.filter_cons_of_pos hp, Table.canonFrom_cons]
      exact ⟨h.1, h.2.1, ih _ h.2.2⟩
    · rw [List.filter_cons_of_neg hp]
      exact ih b (Table.canonFrom_lower d b e.1 r h.1 h.2.2)

/-- Dropping entries keeps a table canonical. -/
theorem Table.canon_filter (p : Nat × α → Bool) (t : Table α) (h : Table.canon d t = true) :
    Table.canon d (t.filter p) = true := Table.canonFrom_filter d p none t h

omit [DecidableEq α] in
theorem Table.get_of_lacks (t : Table α) (k : Nat) (h : Table.lacks t k) : Table.get d t k = d k := by
  induction t with
  | nil => rfl
  | cons e r ih =>
    rw [Table.get, if_neg (h e List.mem_cons_self)]
    exact ih (fun x hx => h x (List.mem_cons_of_mem _ hx))

end Canon

end Sys2Proof.Machine
end

