-- ==== Sys2Proof/Laws/State.lean ====
section
/-!
SUPPORT. Sys2Proof/Laws/State.lean: what each named update leaves as it was, field by field, and what registers, fields, bytes and
per-index states read after one.
-/
namespace Sys2Proof.Machine

@[simp] theorem State.setReg_pending (s : State) (o : Nat) (w : Word) : (s.setReg o w).pending = s.pending := rfl
@[simp] theorem State.setReg_eff (s : State) (o : Nat) (w : Word) : (s.setReg o w).eff = s.eff := rfl
@[simp] theorem State.setReg_shadows (s : State) (o : Nat) (w : Word) : (s.setReg o w).shadows = s.shadows := rfl
@[simp] theorem State.setReg_rdata (s : State) (o : Nat) (w : Word) : (s.setReg o w).rdata = s.rdata := rfl
@[simp] theorem State.setReg_pulses (s : State) (o : Nat) (w : Word) : (s.setReg o w).pulses = s.pulses := rfl
@[simp] theorem State.setReg_mem (s : State) (o : Nat) (w : Word) : (s.setReg o w).mem = s.mem := rfl
@[simp] theorem State.setReg_hostMem (s : State) (o : Nat) (w : Word) : (s.setReg o w).hostMem = s.hostMem := rfl
@[simp] theorem State.setReg_messages (s : State) (o : Nat) (w : Word) : (s.setReg o w).messages = s.messages := rfl
@[simp] theorem State.setReg_work (s : State) (o : Nat) (w : Word) : (s.setReg o w).work = s.work := rfl
@[simp] theorem State.setReg_freeCount (s : State) (o : Nat) (w : Word) : (s.setReg o w).freeCount = s.freeCount := rfl
@[simp] theorem State.setReg_sys (s : State) (o : Nat) (w : Word) : (s.setReg o w).sys = s.sys := rfl
@[simp] theorem State.setReg_tsq (s : State) (o : Nat) (w : Word) : (s.setReg o w).tsq = s.tsq := rfl
@[simp] theorem State.setReg_vaf (s : State) (o : Nat) (w : Word) : (s.setReg o w).vaf = s.vaf := rfl
@[simp] theorem State.setReg_shd (s : State) (o : Nat) (w : Word) : (s.setReg o w).shd = s.shd := rfl
@[simp] theorem State.setReg_geo (s : State) (o : Nat) (w : Word) : (s.setReg o w).geo = s.geo := rfl
@[simp] theorem State.setReg_asyncQ (s : State) (o : Nat) (w : Word) : (s.setReg o w).asyncQ = s.asyncQ := rfl
@[simp] theorem State.setReg_outLines (s : State) (o : Nat) (w : Word) : (s.setReg o w).outLines = s.outLines := rfl
@[simp] theorem State.setReg_hlt (s : State) (o : Nat) (w : Word) : (s.setReg o w).hlt = s.hlt := rfl
@[simp] theorem State.setReg_gait (s : State) (o : Nat) (w : Word) : (s.setReg o w).gait = s.gait := rfl
@[simp] theorem State.setReg_aux (s : State) (o : Nat) (w : Word) : (s.setReg o w).aux = s.aux := rfl
@[simp] theorem State.setReg_wfs (s : State) (o : Nat) (w : Word) : (s.setReg o w).wfs = s.wfs := rfl
@[simp] theorem State.setReg_streams (s : State) (o : Nat) (w : Word) : (s.setReg o w).streams = s.streams := rfl
@[simp] theorem State.setReg_hqe (s : State) (o : Nat) (w : Word) : (s.setReg o w).hqe = s.hqe := rfl
@[simp] theorem State.setReg_pack (s : State) (o : Nat) (w : Word) : (s.setReg o w).pack = s.pack := rfl
@[simp] theorem State.setReg_idma (s : State) (o : Nat) (w : Word) : (s.setReg o w).idma = s.idma := rfl
@[simp] theorem State.setReg_fab (s : State) (o : Nat) (w : Word) : (s.setReg o w).fab = s.fab := rfl
@[simp] theorem State.setReg_sec (s : State) (o : Nat) (w : Word) : (s.setReg o w).sec = s.sec := rfl

@[simp] theorem State.setReg64_pending (s : State) (lo hi v : Nat) : (s.setReg64 lo hi v).pending = s.pending := rfl
@[simp] theorem State.setReg64_eff (s : State) (lo hi v : Nat) : (s.setReg64 lo hi v).eff = s.eff := rfl
@[simp] theorem State.setReg64_shadows (s : State) (lo hi v : Nat) : (s.setReg64 lo hi v).shadows = s.shadows := rfl
@[simp] theorem State.setReg64_rdata (s : State) (lo hi v : Nat) : (s.setReg64 lo hi v).rdata = s.rdata := rfl
@[simp] theorem State.setReg64_pulses (s : State) (lo hi v : Nat) : (s.setReg64 lo hi v).pulses = s.pulses := rfl
@[simp] theorem State.setReg64_mem (s : State) (lo hi v : Nat) : (s.setReg64 lo hi v).mem = s.mem := rfl
@[simp] theorem State.setReg64_hostMem (s : State) (lo hi v : Nat) : (s.setReg64 lo hi v).hostMem = s.hostMem := rfl
@[simp] theorem State.setReg64_messages (s : State) (lo hi v : Nat) : (s.setReg64 lo hi v).messages = s.messages := rfl
@[simp] theorem State.setReg64_work (s : State) (lo hi v : Nat) : (s.setReg64 lo hi v).work = s.work := rfl
@[simp] theorem State.setReg64_freeCount (s : State) (lo hi v : Nat) : (s.setReg64 lo hi v).freeCount = s.freeCount := rfl
@[simp] theorem State.setReg64_sys (s : State) (lo hi v : Nat) : (s.setReg64 lo hi v).sys = s.sys := rfl
@[simp] theorem State.setReg64_tsq (s : State) (lo hi v : Nat) : (s.setReg64 lo hi v).tsq = s.tsq := rfl
@[simp] theorem State.setReg64_vaf (s : State) (lo hi v : Nat) : (s.setReg64 lo hi v).vaf = s.vaf := rfl
@[simp] theorem State.setReg64_shd (s : State) (lo hi v : Nat) : (s.setReg64 lo hi v).shd = s.shd := rfl
@[simp] theorem State.setReg64_geo (s : State) (lo hi v : Nat) : (s.setReg64 lo hi v).geo = s.geo := rfl
@[simp] theorem State.setReg64_asyncQ (s : State) (lo hi v : Nat) : (s.setReg64 lo hi v).asyncQ = s.asyncQ := rfl
@[simp] theorem State.setReg64_outLines (s : State) (lo hi v : Nat) : (s.setReg64 lo hi v).outLines = s.outLines := rfl
@[simp] theorem State.setReg64_hlt (s : State) (lo hi v : Nat) : (s.setReg64 lo hi v).hlt = s.hlt := rfl
@[simp] theorem State.setReg64_gait (s : State) (lo hi v : Nat) : (s.setReg64 lo hi v).gait = s.gait := rfl
@[simp] theorem State.setReg64_aux (s : State) (lo hi v : Nat) : (s.setReg64 lo hi v).aux = s.aux := rfl
@[simp] theorem State.setReg64_wfs (s : State) (lo hi v : Nat) : (s.setReg64 lo hi v).wfs = s.wfs := rfl
@[simp] theorem State.setReg64_streams (s : State) (lo hi v : Nat) : (s.setReg64 lo hi v).streams = s.streams := rfl
@[simp] theorem State.setReg64_hqe (s : State) (lo hi v : Nat) : (s.setReg64 lo hi v).hqe = s.hqe := rfl
@[simp] theorem State.setReg64_pack (s : State) (lo hi v : Nat) : (s.setReg64 lo hi v).pack = s.pack := rfl
@[simp] theorem State.setReg64_idma (s : State) (lo hi v : Nat) : (s.setReg64 lo hi v).idma = s.idma := rfl
@[simp] theorem State.setReg64_fab (s : State) (lo hi v : Nat) : (s.setReg64 lo hi v).fab = s.fab := rfl
@[simp] theorem State.setReg64_sec (s : State) (lo hi v : Nat) : (s.setReg64 lo hi v).sec = s.sec := rfl

@[simp] theorem State.count_pending (s : State) (o : Nat) : (s.count o).pending = s.pending := rfl
@[simp] theorem State.count_eff (s : State) (o : Nat) : (s.count o).eff = s.eff := rfl
@[simp] theorem State.count_shadows (s : State) (o : Nat) : (s.count o).shadows = s.shadows := rfl
@[simp] theorem State.count_rdata (s : State) (o : Nat) : (s.count o).rdata = s.rdata := rfl
@[simp] theorem State.count_pulses (s : State) (o : Nat) : (s.count o).pulses = s.pulses := rfl
@[simp] theorem State.count_mem (s : State) (o : Nat) : (s.count o).mem = s.mem := rfl
@[simp] theorem State.count_hostMem (s : State) (o : Nat) : (s.count o).hostMem = s.hostMem := rfl
@[simp] theorem State.count_messages (s : State) (o : Nat) : (s.count o).messages = s.messages := rfl
@[simp] theorem State.count_work (s : State) (o : Nat) : (s.count o).work = s.work := rfl
@[simp] theorem State.count_freeCount (s : State) (o : Nat) : (s.count o).freeCount = s.freeCount := rfl
@[simp] theorem State.count_sys (s : State) (o : Nat) : (s.count o).sys = s.sys := rfl
@[simp] theorem State.count_tsq (s : State) (o : Nat) : (s.count o).tsq = s.tsq := rfl
@[simp] theorem State.count_vaf (s : State) (o : Nat) : (s.count o).vaf = s.vaf := rfl
@[simp] theorem State.count_shd (s : State) (o : Nat) : (s.count o).shd = s.shd := rfl
@[simp] theorem State.count_geo (s : State) (o : Nat) : (s.count o).geo = s.geo := rfl
@[simp] theorem State.count_asyncQ (s : State) (o : Nat) : (s.count o).asyncQ = s.asyncQ := rfl
@[simp] theorem State.count_outLines (s : State) (o : Nat) : (s.count o).outLines = s.outLines := rfl
@[simp] theorem State.count_hlt (s : State) (o : Nat) : (s.count o).hlt = s.hlt := rfl
@[simp] theorem State.count_gait (s : State) (o : Nat) : (s.count o).gait = s.gait := rfl
@[simp] theorem State.count_aux (s : State) (o : Nat) : (s.count o).aux = s.aux := rfl
@[simp] theorem State.count_wfs (s : State) (o : Nat) : (s.count o).wfs = s.wfs := rfl
@[simp] theorem State.count_streams (s : State) (o : Nat) : (s.count o).streams = s.streams := rfl
@[simp] theorem State.count_hqe (s : State) (o : Nat) : (s.count o).hqe = s.hqe := rfl
@[simp] theorem State.count_pack (s : State) (o : Nat) : (s.count o).pack = s.pack := rfl
@[simp] theorem State.count_idma (s : State) (o : Nat) : (s.count o).idma = s.idma := rfl
@[simp] theorem State.count_fab (s : State) (o : Nat) : (s.count o).fab = s.fab := rfl
@[simp] theorem State.count_sec (s : State) (o : Nat) : (s.count o).sec = s.sec := rfl

@[simp] theorem State.fire_pending (s : State) (ev : Nat) : (s.fire ev).pending = s.pending := rfl
@[simp] theorem State.fire_regs (s : State) (ev : Nat) : (s.fire ev).regs = s.regs := rfl
@[simp] theorem State.fire_eff (s : State) (ev : Nat) : (s.fire ev).eff = s.eff := rfl
@[simp] theorem State.fire_shadows (s : State) (ev : Nat) : (s.fire ev).shadows = s.shadows := rfl
@[simp] theorem State.fire_rdata (s : State) (ev : Nat) : (s.fire ev).rdata = s.rdata := rfl
@[simp] theorem State.fire_mem (s : State) (ev : Nat) : (s.fire ev).mem = s.mem := rfl
@[simp] theorem State.fire_hostMem (s : State) (ev : Nat) : (s.fire ev).hostMem = s.hostMem := rfl
@[simp] theorem State.fire_messages (s : State) (ev : Nat) : (s.fire ev).messages = s.messages := rfl
@[simp] theorem State.fire_work (s : State) (ev : Nat) : (s.fire ev).work = s.work := rfl
@[simp] theorem State.fire_freeCount (s : State) (ev : Nat) : (s.fire ev).freeCount = s.freeCount := rfl
@[simp] theorem State.fire_sys (s : State) (ev : Nat) : (s.fire ev).sys = s.sys := rfl
@[simp] theorem State.fire_tsq (s : State) (ev : Nat) : (s.fire ev).tsq = s.tsq := rfl
@[simp] theorem State.fire_vaf (s : State) (ev : Nat) : (s.fire ev).vaf = s.vaf := rfl
@[simp] theorem State.fire_shd (s : State) (ev : Nat) : (s.fire ev).shd = s.shd := rfl
@[simp] theorem State.fire_geo (s : State) (ev : Nat) : (s.fire ev).geo = s.geo := rfl
@[simp] theorem State.fire_asyncQ (s : State) (ev : Nat) : (s.fire ev).asyncQ = s.asyncQ := rfl
@[simp] theorem State.fire_outLines (s : State) (ev : Nat) : (s.fire ev).outLines = s.outLines := rfl
@[simp] theorem State.fire_hlt (s : State) (ev : Nat) : (s.fire ev).hlt = s.hlt := rfl
@[simp] theorem State.fire_gait (s : State) (ev : Nat) : (s.fire ev).gait = s.gait := rfl
@[simp] theorem State.fire_aux (s : State) (ev : Nat) : (s.fire ev).aux = s.aux := rfl
@[simp] theorem State.fire_wfs (s : State) (ev : Nat) : (s.fire ev).wfs = s.wfs := rfl
@[simp] theorem State.fire_streams (s : State) (ev : Nat) : (s.fire ev).streams = s.streams := rfl
@[simp] theorem State.fire_hqe (s : State) (ev : Nat) : (s.fire ev).hqe = s.hqe := rfl
@[simp] theorem State.fire_pack (s : State) (ev : Nat) : (s.fire ev).pack = s.pack := rfl
@[simp] theorem State.fire_idma (s : State) (ev : Nat) : (s.fire ev).idma = s.idma := rfl
@[simp] theorem State.fire_fab (s : State) (ev : Nat) : (s.fire ev).fab = s.fab := rfl
@[simp] theorem State.fire_sec (s : State) (ev : Nat) : (s.fire ev).sec = s.sec := rfl

@[simp] theorem State.setByte_pending (s : State) (a : Nat) (b : Byte) : (s.setByte a b).pending = s.pending := rfl
@[simp] theorem State.setByte_regs (s : State) (a : Nat) (b : Byte) : (s.setByte a b).regs = s.regs := rfl
@[simp] theorem State.setByte_eff (s : State) (a : Nat) (b : Byte) : (s.setByte a b).eff = s.eff := rfl
@[simp] theorem State.setByte_shadows (s : State) (a : Nat) (b : Byte) : (s.setByte a b).shadows = s.shadows := rfl
@[simp] theorem State.setByte_rdata (s : State) (a : Nat) (b : Byte) : (s.setByte a b).rdata = s.rdata := rfl
@[simp] theorem State.setByte_pulses (s : State) (a : Nat) (b : Byte) : (s.setByte a b).pulses = s.pulses := rfl
@[simp] theorem State.setByte_hostMem (s : State) (a : Nat) (b : Byte) : (s.setByte a b).hostMem = s.hostMem := rfl
@[simp] theorem State.setByte_messages (s : State) (a : Nat) (b : Byte) : (s.setByte a b).messages = s.messages := rfl
@[simp] theorem State.setByte_work (s : State) (a : Nat) (b : Byte) : (s.setByte a b).work = s.work := rfl
@[simp] theorem State.setByte_freeCount (s : State) (a : Nat) (b : Byte) : (s.setByte a b).freeCount = s.freeCount := rfl
@[simp] theorem State.setByte_sys (s : State) (a : Nat) (b : Byte) : (s.setByte a b).sys = s.sys := rfl
@[simp] theorem State.setByte_tsq (s : State) (a : Nat) (b : Byte) : (s.setByte a b).tsq = s.tsq := rfl
@[simp] theorem State.setByte_vaf (s : State) (a : Nat) (b : Byte) : (s.setByte a b).vaf = s.vaf := rfl
@[simp] theorem State.setByte_shd (s : State) (a : Nat) (b : Byte) : (s.setByte a b).shd = s.shd := rfl
@[simp] theorem State.setByte_geo (s : State) (a : Nat) (b : Byte) : (s.setByte a b).geo = s.geo := rfl
@[simp] theorem State.setByte_asyncQ (s : State) (a : Nat) (b : Byte) : (s.setByte a b).asyncQ = s.asyncQ := rfl
@[simp] theorem State.setByte_outLines (s : State) (a : Nat) (b : Byte) : (s.setByte a b).outLines = s.outLines := rfl
@[simp] theorem State.setByte_hlt (s : State) (a : Nat) (b : Byte) : (s.setByte a b).hlt = s.hlt := rfl
@[simp] theorem State.setByte_gait (s : State) (a : Nat) (b : Byte) : (s.setByte a b).gait = s.gait := rfl
@[simp] theorem State.setByte_aux (s : State) (a : Nat) (b : Byte) : (s.setByte a b).aux = s.aux := rfl
@[simp] theorem State.setByte_wfs (s : State) (a : Nat) (b : Byte) : (s.setByte a b).wfs = s.wfs := rfl
@[simp] theorem State.setByte_streams (s : State) (a : Nat) (b : Byte) : (s.setByte a b).streams = s.streams := rfl
@[simp] theorem State.setByte_hqe (s : State) (a : Nat) (b : Byte) : (s.setByte a b).hqe = s.hqe := rfl
@[simp] theorem State.setByte_pack (s : State) (a : Nat) (b : Byte) : (s.setByte a b).pack = s.pack := rfl
@[simp] theorem State.setByte_idma (s : State) (a : Nat) (b : Byte) : (s.setByte a b).idma = s.idma := rfl
@[simp] theorem State.setByte_fab (s : State) (a : Nat) (b : Byte) : (s.setByte a b).fab = s.fab := rfl
@[simp] theorem State.setByte_sec (s : State) (a : Nat) (b : Byte) : (s.setByte a b).sec = s.sec := rfl

@[simp] theorem State.setFld_pending (s : State) (o : Nat) (f : Fld) (x : Nat) : (s.setFld o f x).pending = s.pending := rfl
@[simp] theorem State.setFld_eff (s : State) (o : Nat) (f : Fld) (x : Nat) : (s.setFld o f x).eff = s.eff := rfl
@[simp] theorem State.setFld_shadows (s : State) (o : Nat) (f : Fld) (x : Nat) : (s.setFld o f x).shadows = s.shadows := rfl
@[simp] theorem State.setFld_rdata (s : State) (o : Nat) (f : Fld) (x : Nat) : (s.setFld o f x).rdata = s.rdata := rfl
@[simp] theorem State.setFld_pulses (s : State) (o : Nat) (f : Fld) (x : Nat) : (s.setFld o f x).pulses = s.pulses := rfl
@[simp] theorem State.setFld_mem (s : State) (o : Nat) (f : Fld) (x : Nat) : (s.setFld o f x).mem = s.mem := rfl
@[simp] theorem State.setFld_hostMem (s : State) (o : Nat) (f : Fld) (x : Nat) : (s.setFld o f x).hostMem = s.hostMem := rfl
@[simp] theorem State.setFld_messages (s : State) (o : Nat) (f : Fld) (x : Nat) : (s.setFld o f x).messages = s.messages := rfl
@[simp] theorem State.setFld_work (s : State) (o : Nat) (f : Fld) (x : Nat) : (s.setFld o f x).work = s.work := rfl
@[simp] theorem State.setFld_freeCount (s : State) (o : Nat) (f : Fld) (x : Nat) : (s.setFld o f x).freeCount = s.freeCount := rfl
@[simp] theorem State.setFld_sys (s : State) (o : Nat) (f : Fld) (x : Nat) : (s.setFld o f x).sys = s.sys := rfl
@[simp] theorem State.setFld_tsq (s : State) (o : Nat) (f : Fld) (x : Nat) : (s.setFld o f x).tsq = s.tsq := rfl
@[simp] theorem State.setFld_vaf (s : State) (o : Nat) (f : Fld) (x : Nat) : (s.setFld o f x).vaf = s.vaf := rfl
@[simp] theorem State.setFld_shd (s : State) (o : Nat) (f : Fld) (x : Nat) : (s.setFld o f x).shd = s.shd := rfl
@[simp] theorem State.setFld_geo (s : State) (o : Nat) (f : Fld) (x : Nat) : (s.setFld o f x).geo = s.geo := rfl
@[simp] theorem State.setFld_asyncQ (s : State) (o : Nat) (f : Fld) (x : Nat) : (s.setFld o f x).asyncQ = s.asyncQ := rfl
@[simp] theorem State.setFld_outLines (s : State) (o : Nat) (f : Fld) (x : Nat) : (s.setFld o f x).outLines = s.outLines := rfl
@[simp] theorem State.setFld_hlt (s : State) (o : Nat) (f : Fld) (x : Nat) : (s.setFld o f x).hlt = s.hlt := rfl
@[simp] theorem State.setFld_gait (s : State) (o : Nat) (f : Fld) (x : Nat) : (s.setFld o f x).gait = s.gait := rfl
@[simp] theorem State.setFld_aux (s : State) (o : Nat) (f : Fld) (x : Nat) : (s.setFld o f x).aux = s.aux := rfl
@[simp] theorem State.setFld_wfs (s : State) (o : Nat) (f : Fld) (x : Nat) : (s.setFld o f x).wfs = s.wfs := rfl
@[simp] theorem State.setFld_streams (s : State) (o : Nat) (f : Fld) (x : Nat) : (s.setFld o f x).streams = s.streams := rfl
@[simp] theorem State.setFld_hqe (s : State) (o : Nat) (f : Fld) (x : Nat) : (s.setFld o f x).hqe = s.hqe := rfl
@[simp] theorem State.setFld_pack (s : State) (o : Nat) (f : Fld) (x : Nat) : (s.setFld o f x).pack = s.pack := rfl
@[simp] theorem State.setFld_idma (s : State) (o : Nat) (f : Fld) (x : Nat) : (s.setFld o f x).idma = s.idma := rfl
@[simp] theorem State.setFld_fab (s : State) (o : Nat) (f : Fld) (x : Nat) : (s.setFld o f x).fab = s.fab := rfl
@[simp] theorem State.setFld_sec (s : State) (o : Nat) (f : Fld) (x : Nat) : (s.setFld o f x).sec = s.sec := rfl

@[simp] theorem State.commit_pending (s : State) (l : List Nat) : (s.commit l).pending = s.pending := rfl
@[simp] theorem State.commit_regs (s : State) (l : List Nat) : (s.commit l).regs = s.regs := rfl
@[simp] theorem State.commit_shadows (s : State) (l : List Nat) : (s.commit l).shadows = s.shadows := rfl
@[simp] theorem State.commit_rdata (s : State) (l : List Nat) : (s.commit l).rdata = s.rdata := rfl
@[simp] theorem State.commit_pulses (s : State) (l : List Nat) : (s.commit l).pulses = s.pulses := rfl
@[simp] theorem State.commit_mem (s : State) (l : List Nat) : (s.commit l).mem = s.mem := rfl
@[simp] theorem State.commit_hostMem (s : State) (l : List Nat) : (s.commit l).hostMem = s.hostMem := rfl
@[simp] theorem State.commit_messages (s : State) (l : List Nat) : (s.commit l).messages = s.messages := rfl
@[simp] theorem State.commit_work (s : State) (l : List Nat) : (s.commit l).work = s.work := rfl
@[simp] theorem State.commit_freeCount (s : State) (l : List Nat) : (s.commit l).freeCount = s.freeCount := rfl
@[simp] theorem State.commit_sys (s : State) (l : List Nat) : (s.commit l).sys = s.sys := rfl
@[simp] theorem State.commit_tsq (s : State) (l : List Nat) : (s.commit l).tsq = s.tsq := rfl
@[simp] theorem State.commit_vaf (s : State) (l : List Nat) : (s.commit l).vaf = s.vaf := rfl
@[simp] theorem State.commit_shd (s : State) (l : List Nat) : (s.commit l).shd = s.shd := rfl
@[simp] theorem State.commit_geo (s : State) (l : List Nat) : (s.commit l).geo = s.geo := rfl
@[simp] theorem State.commit_asyncQ (s : State) (l : List Nat) : (s.commit l).asyncQ = s.asyncQ := rfl
@[simp] theorem State.commit_outLines (s : State) (l : List Nat) : (s.commit l).outLines = s.outLines := rfl
@[simp] theorem State.commit_hlt (s : State) (l : List Nat) : (s.commit l).hlt = s.hlt := rfl
@[simp] theorem State.commit_gait (s : State) (l : List Nat) : (s.commit l).gait = s.gait := rfl
@[simp] theorem State.commit_aux (s : State) (l : List Nat) : (s.commit l).aux = s.aux := rfl
@[simp] theorem State.commit_wfs (s : State) (l : List Nat) : (s.commit l).wfs = s.wfs := rfl
@[simp] theorem State.commit_streams (s : State) (l : List Nat) : (s.commit l).streams = s.streams := rfl
@[simp] theorem State.commit_hqe (s : State) (l : List Nat) : (s.commit l).hqe = s.hqe := rfl
@[simp] theorem State.commit_pack (s : State) (l : List Nat) : (s.commit l).pack = s.pack := rfl
@[simp] theorem State.commit_idma (s : State) (l : List Nat) : (s.commit l).idma = s.idma := rfl
@[simp] theorem State.commit_fab (s : State) (l : List Nat) : (s.commit l).fab = s.fab := rfl
@[simp] theorem State.commit_sec (s : State) (l : List Nat) : (s.commit l).sec = s.sec := rfl

@[simp] theorem State.setPd_pending (s : State) (d : Nat) (b : Bool) : (s.setPd d b).pending = s.pending := rfl
@[simp] theorem State.setPd_eff (s : State) (d : Nat) (b : Bool) : (s.setPd d b).eff = s.eff := rfl
@[simp] theorem State.setPd_shadows (s : State) (d : Nat) (b : Bool) : (s.setPd d b).shadows = s.shadows := rfl
@[simp] theorem State.setPd_rdata (s : State) (d : Nat) (b : Bool) : (s.setPd d b).rdata = s.rdata := rfl
@[simp] theorem State.setPd_pulses (s : State) (d : Nat) (b : Bool) : (s.setPd d b).pulses = s.pulses := rfl
@[simp] theorem State.setPd_mem (s : State) (d : Nat) (b : Bool) : (s.setPd d b).mem = s.mem := rfl
@[simp] theorem State.setPd_hostMem (s : State) (d : Nat) (b : Bool) : (s.setPd d b).hostMem = s.hostMem := rfl
@[simp] theorem State.setPd_messages (s : State) (d : Nat) (b : Bool) : (s.setPd d b).messages = s.messages := rfl
@[simp] theorem State.setPd_work (s : State) (d : Nat) (b : Bool) : (s.setPd d b).work = s.work := rfl
@[simp] theorem State.setPd_freeCount (s : State) (d : Nat) (b : Bool) : (s.setPd d b).freeCount = s.freeCount := rfl
@[simp] theorem State.setPd_sys (s : State) (d : Nat) (b : Bool) : (s.setPd d b).sys = s.sys := rfl
@[simp] theorem State.setPd_tsq (s : State) (d : Nat) (b : Bool) : (s.setPd d b).tsq = s.tsq := rfl
@[simp] theorem State.setPd_vaf (s : State) (d : Nat) (b : Bool) : (s.setPd d b).vaf = s.vaf := rfl
@[simp] theorem State.setPd_shd (s : State) (d : Nat) (b : Bool) : (s.setPd d b).shd = s.shd := rfl
@[simp] theorem State.setPd_geo (s : State) (d : Nat) (b : Bool) : (s.setPd d b).geo = s.geo := rfl
@[simp] theorem State.setPd_asyncQ (s : State) (d : Nat) (b : Bool) : (s.setPd d b).asyncQ = s.asyncQ := rfl
@[simp] theorem State.setPd_outLines (s : State) (d : Nat) (b : Bool) : (s.setPd d b).outLines = s.outLines := rfl
@[simp] theorem State.setPd_hlt (s : State) (d : Nat) (b : Bool) : (s.setPd d b).hlt = s.hlt := rfl
@[simp] theorem State.setPd_gait (s : State) (d : Nat) (b : Bool) : (s.setPd d b).gait = s.gait := rfl
@[simp] theorem State.setPd_aux (s : State) (d : Nat) (b : Bool) : (s.setPd d b).aux = s.aux := rfl
@[simp] theorem State.setPd_wfs (s : State) (d : Nat) (b : Bool) : (s.setPd d b).wfs = s.wfs := rfl
@[simp] theorem State.setPd_streams (s : State) (d : Nat) (b : Bool) : (s.setPd d b).streams = s.streams := rfl
@[simp] theorem State.setPd_hqe (s : State) (d : Nat) (b : Bool) : (s.setPd d b).hqe = s.hqe := rfl
@[simp] theorem State.setPd_pack (s : State) (d : Nat) (b : Bool) : (s.setPd d b).pack = s.pack := rfl
@[simp] theorem State.setPd_idma (s : State) (d : Nat) (b : Bool) : (s.setPd d b).idma = s.idma := rfl
@[simp] theorem State.setPd_fab (s : State) (d : Nat) (b : Bool) : (s.setPd d b).fab = s.fab := rfl
@[simp] theorem State.setPd_sec (s : State) (d : Nat) (b : Bool) : (s.setPd d b).sec = s.sec := rfl

@[simp] theorem State.setLp_pending (s : State) (i : Nat) (x : Lp) : (s.setLp i x).pending = s.pending := rfl
@[simp] theorem State.setLp_regs (s : State) (i : Nat) (x : Lp) : (s.setLp i x).regs = s.regs := rfl
@[simp] theorem State.setLp_eff (s : State) (i : Nat) (x : Lp) : (s.setLp i x).eff = s.eff := rfl
@[simp] theorem State.setLp_shadows (s : State) (i : Nat) (x : Lp) : (s.setLp i x).shadows = s.shadows := rfl
@[simp] theorem State.setLp_rdata (s : State) (i : Nat) (x : Lp) : (s.setLp i x).rdata = s.rdata := rfl
@[simp] theorem State.setLp_pulses (s : State) (i : Nat) (x : Lp) : (s.setLp i x).pulses = s.pulses := rfl
@[simp] theorem State.setLp_mem (s : State) (i : Nat) (x : Lp) : (s.setLp i x).mem = s.mem := rfl
@[simp] theorem State.setLp_hostMem (s : State) (i : Nat) (x : Lp) : (s.setLp i x).hostMem = s.hostMem := rfl
@[simp] theorem State.setLp_messages (s : State) (i : Nat) (x : Lp) : (s.setLp i x).messages = s.messages := rfl
@[simp] theorem State.setLp_work (s : State) (i : Nat) (x : Lp) : (s.setLp i x).work = s.work := rfl
@[simp] theorem State.setLp_freeCount (s : State) (i : Nat) (x : Lp) : (s.setLp i x).freeCount = s.freeCount := rfl
@[simp] theorem State.setLp_sys (s : State) (i : Nat) (x : Lp) : (s.setLp i x).sys = s.sys := rfl
@[simp] theorem State.setLp_vaf (s : State) (i : Nat) (x : Lp) : (s.setLp i x).vaf = s.vaf := rfl
@[simp] theorem State.setLp_shd (s : State) (i : Nat) (x : Lp) : (s.setLp i x).shd = s.shd := rfl
@[simp] theorem State.setLp_geo (s : State) (i : Nat) (x : Lp) : (s.setLp i x).geo = s.geo := rfl
@[simp] theorem State.setLp_asyncQ (s : State) (i : Nat) (x : Lp) : (s.setLp i x).asyncQ = s.asyncQ := rfl
@[simp] theorem State.setLp_outLines (s : State) (i : Nat) (x : Lp) : (s.setLp i x).outLines = s.outLines := rfl
@[simp] theorem State.setLp_hlt (s : State) (i : Nat) (x : Lp) : (s.setLp i x).hlt = s.hlt := rfl
@[simp] theorem State.setLp_gait (s : State) (i : Nat) (x : Lp) : (s.setLp i x).gait = s.gait := rfl
@[simp] theorem State.setLp_aux (s : State) (i : Nat) (x : Lp) : (s.setLp i x).aux = s.aux := rfl
@[simp] theorem State.setLp_wfs (s : State) (i : Nat) (x : Lp) : (s.setLp i x).wfs = s.wfs := rfl
@[simp] theorem State.setLp_streams (s : State) (i : Nat) (x : Lp) : (s.setLp i x).streams = s.streams := rfl
@[simp] theorem State.setLp_hqe (s : State) (i : Nat) (x : Lp) : (s.setLp i x).hqe = s.hqe := rfl
@[simp] theorem State.setLp_pack (s : State) (i : Nat) (x : Lp) : (s.setLp i x).pack = s.pack := rfl
@[simp] theorem State.setLp_idma (s : State) (i : Nat) (x : Lp) : (s.setLp i x).idma = s.idma := rfl
@[simp] theorem State.setLp_fab (s : State) (i : Nat) (x : Lp) : (s.setLp i x).fab = s.fab := rfl
@[simp] theorem State.setLp_sec (s : State) (i : Nat) (x : Lp) : (s.setLp i x).sec = s.sec := rfl

@[simp] theorem State.setBank_pending (s : State) (i : Nat) (x : Bank) : (s.setBank i x).pending = s.pending := rfl
@[simp] theorem State.setBank_regs (s : State) (i : Nat) (x : Bank) : (s.setBank i x).regs = s.regs := rfl
@[simp] theorem State.setBank_eff (s : State) (i : Nat) (x : Bank) : (s.setBank i x).eff = s.eff := rfl
@[simp] theorem State.setBank_shadows (s : State) (i : Nat) (x : Bank) : (s.setBank i x).shadows = s.shadows := rfl
@[simp] theorem State.setBank_rdata (s : State) (i : Nat) (x : Bank) : (s.setBank i x).rdata = s.rdata := rfl
@[simp] theorem State.setBank_pulses (s : State) (i : Nat) (x : Bank) : (s.setBank i x).pulses = s.pulses := rfl
@[simp] theorem State.setBank_mem (s : State) (i : Nat) (x : Bank) : (s.setBank i x).mem = s.mem := rfl
@[simp] theorem State.setBank_hostMem (s : State) (i : Nat) (x : Bank) : (s.setBank i x).hostMem = s.hostMem := rfl
@[simp] theorem State.setBank_messages (s : State) (i : Nat) (x : Bank) : (s.setBank i x).messages = s.messages := rfl
@[simp] theorem State.setBank_work (s : State) (i : Nat) (x : Bank) : (s.setBank i x).work = s.work := rfl
@[simp] theorem State.setBank_freeCount (s : State) (i : Nat) (x : Bank) : (s.setBank i x).freeCount = s.freeCount := rfl
@[simp] theorem State.setBank_sys (s : State) (i : Nat) (x : Bank) : (s.setBank i x).sys = s.sys := rfl
@[simp] theorem State.setBank_tsq (s : State) (i : Nat) (x : Bank) : (s.setBank i x).tsq = s.tsq := rfl
@[simp] theorem State.setBank_shd (s : State) (i : Nat) (x : Bank) : (s.setBank i x).shd = s.shd := rfl
@[simp] theorem State.setBank_geo (s : State) (i : Nat) (x : Bank) : (s.setBank i x).geo = s.geo := rfl
@[simp] theorem State.setBank_asyncQ (s : State) (i : Nat) (x : Bank) : (s.setBank i x).asyncQ = s.asyncQ := rfl
@[simp] theorem State.setBank_outLines (s : State) (i : Nat) (x : Bank) : (s.setBank i x).outLines = s.outLines := rfl
@[simp] theorem State.setBank_hlt (s : State) (i : Nat) (x : Bank) : (s.setBank i x).hlt = s.hlt := rfl
@[simp] theorem State.setBank_gait (s : State) (i : Nat) (x : Bank) : (s.setBank i x).gait = s.gait := rfl
@[simp] theorem State.setBank_aux (s : State) (i : Nat) (x : Bank) : (s.setBank i x).aux = s.aux := rfl
@[simp] theorem State.setBank_wfs (s : State) (i : Nat) (x : Bank) : (s.setBank i x).wfs = s.wfs := rfl
@[simp] theorem State.setBank_streams (s : State) (i : Nat) (x : Bank) : (s.setBank i x).streams = s.streams := rfl
@[simp] theorem State.setBank_hqe (s : State) (i : Nat) (x : Bank) : (s.setBank i x).hqe = s.hqe := rfl
@[simp] theorem State.setBank_pack (s : State) (i : Nat) (x : Bank) : (s.setBank i x).pack = s.pack := rfl
@[simp] theorem State.setBank_idma (s : State) (i : Nat) (x : Bank) : (s.setBank i x).idma = s.idma := rfl
@[simp] theorem State.setBank_fab (s : State) (i : Nat) (x : Bank) : (s.setBank i x).fab = s.fab := rfl
@[simp] theorem State.setBank_sec (s : State) (i : Nat) (x : Bank) : (s.setBank i x).sec = s.sec := rfl

@[simp] theorem State.setMonitor_pending (s : State) (i : Nat) (x : Monitor) : (s.setMonitor i x).pending = s.pending := rfl
@[simp] theorem State.setMonitor_regs (s : State) (i : Nat) (x : Monitor) : (s.setMonitor i x).regs = s.regs := rfl
@[simp] theorem State.setMonitor_eff (s : State) (i : Nat) (x : Monitor) : (s.setMonitor i x).eff = s.eff := rfl
@[simp] theorem State.setMonitor_shadows (s : State) (i : Nat) (x : Monitor) : (s.setMonitor i x).shadows = s.shadows := rfl
@[simp] theorem State.setMonitor_rdata (s : State) (i : Nat) (x : Monitor) : (s.setMonitor i x).rdata = s.rdata := rfl
@[simp] theorem State.setMonitor_pulses (s : State) (i : Nat) (x : Monitor) : (s.setMonitor i x).pulses = s.pulses := rfl
@[simp] theorem State.setMonitor_mem (s : State) (i : Nat) (x : Monitor) : (s.setMonitor i x).mem = s.mem := rfl
@[simp] theorem State.setMonitor_hostMem (s : State) (i : Nat) (x : Monitor) : (s.setMonitor i x).hostMem = s.hostMem := rfl
@[simp] theorem State.setMonitor_messages (s : State) (i : Nat) (x : Monitor) : (s.setMonitor i x).messages = s.messages := rfl
@[simp] theorem State.setMonitor_work (s : State) (i : Nat) (x : Monitor) : (s.setMonitor i x).work = s.work := rfl
@[simp] theorem State.setMonitor_freeCount (s : State) (i : Nat) (x : Monitor) : (s.setMonitor i x).freeCount = s.freeCount := rfl
@[simp] theorem State.setMonitor_sys (s : State) (i : Nat) (x : Monitor) : (s.setMonitor i x).sys = s.sys := rfl
@[simp] theorem State.setMonitor_tsq (s : State) (i : Nat) (x : Monitor) : (s.setMonitor i x).tsq = s.tsq := rfl
@[simp] theorem State.setMonitor_shd (s : State) (i : Nat) (x : Monitor) : (s.setMonitor i x).shd = s.shd := rfl
@[simp] theorem State.setMonitor_geo (s : State) (i : Nat) (x : Monitor) : (s.setMonitor i x).geo = s.geo := rfl
@[simp] theorem State.setMonitor_asyncQ (s : State) (i : Nat) (x : Monitor) : (s.setMonitor i x).asyncQ = s.asyncQ := rfl
@[simp] theorem State.setMonitor_outLines (s : State) (i : Nat) (x : Monitor) : (s.setMonitor i x).outLines = s.outLines := rfl
@[simp] theorem State.setMonitor_hlt (s : State) (i : Nat) (x : Monitor) : (s.setMonitor i x).hlt = s.hlt := rfl
@[simp] theorem State.setMonitor_gait (s : State) (i : Nat) (x : Monitor) : (s.setMonitor i x).gait = s.gait := rfl
@[simp] theorem State.setMonitor_aux (s : State) (i : Nat) (x : Monitor) : (s.setMonitor i x).aux = s.aux := rfl
@[simp] theorem State.setMonitor_wfs (s : State) (i : Nat) (x : Monitor) : (s.setMonitor i x).wfs = s.wfs := rfl
@[simp] theorem State.setMonitor_streams (s : State) (i : Nat) (x : Monitor) : (s.setMonitor i x).streams = s.streams := rfl
@[simp] theorem State.setMonitor_hqe (s : State) (i : Nat) (x : Monitor) : (s.setMonitor i x).hqe = s.hqe := rfl
@[simp] theorem State.setMonitor_pack (s : State) (i : Nat) (x : Monitor) : (s.setMonitor i x).pack = s.pack := rfl
@[simp] theorem State.setMonitor_idma (s : State) (i : Nat) (x : Monitor) : (s.setMonitor i x).idma = s.idma := rfl
@[simp] theorem State.setMonitor_fab (s : State) (i : Nat) (x : Monitor) : (s.setMonitor i x).fab = s.fab := rfl
@[simp] theorem State.setMonitor_sec (s : State) (i : Nat) (x : Monitor) : (s.setMonitor i x).sec = s.sec := rfl

@[simp] theorem State.setGroup_pending (s : State) (i : Nat) (x : Group) : (s.setGroup i x).pending = s.pending := rfl
@[simp] theorem State.setGroup_regs (s : State) (i : Nat) (x : Group) : (s.setGroup i x).regs = s.regs := rfl
@[simp] theorem State.setGroup_eff (s : State) (i : Nat) (x : Group) : (s.setGroup i x).eff = s.eff := rfl
@[simp] theorem State.setGroup_shadows (s : State) (i : Nat) (x : Group) : (s.setGroup i x).shadows = s.shadows := rfl
@[simp] theorem State.setGroup_rdata (s : State) (i : Nat) (x : Group) : (s.setGroup i x).rdata = s.rdata := rfl
@[simp] theorem State.setGroup_pulses (s : State) (i : Nat) (x : Group) : (s.setGroup i x).pulses = s.pulses := rfl
@[simp] theorem State.setGroup_mem (s : State) (i : Nat) (x : Group) : (s.setGroup i x).mem = s.mem := rfl
@[simp] theorem State.setGroup_hostMem (s : State) (i : Nat) (x : Group) : (s.setGroup i x).hostMem = s.hostMem := rfl
@[simp] theorem State.setGroup_messages (s : State) (i : Nat) (x : Group) : (s.setGroup i x).messages = s.messages := rfl
@[simp] theorem State.setGroup_work (s : State) (i : Nat) (x : Group) : (s.setGroup i x).work = s.work := rfl
@[simp] theorem State.setGroup_freeCount (s : State) (i : Nat) (x : Group) : (s.setGroup i x).freeCount = s.freeCount := rfl
@[simp] theorem State.setGroup_sys (s : State) (i : Nat) (x : Group) : (s.setGroup i x).sys = s.sys := rfl
@[simp] theorem State.setGroup_tsq (s : State) (i : Nat) (x : Group) : (s.setGroup i x).tsq = s.tsq := rfl
@[simp] theorem State.setGroup_vaf (s : State) (i : Nat) (x : Group) : (s.setGroup i x).vaf = s.vaf := rfl
@[simp] theorem State.setGroup_geo (s : State) (i : Nat) (x : Group) : (s.setGroup i x).geo = s.geo := rfl
@[simp] theorem State.setGroup_asyncQ (s : State) (i : Nat) (x : Group) : (s.setGroup i x).asyncQ = s.asyncQ := rfl
@[simp] theorem State.setGroup_outLines (s : State) (i : Nat) (x : Group) : (s.setGroup i x).outLines = s.outLines := rfl
@[simp] theorem State.setGroup_hlt (s : State) (i : Nat) (x : Group) : (s.setGroup i x).hlt = s.hlt := rfl
@[simp] theorem State.setGroup_gait (s : State) (i : Nat) (x : Group) : (s.setGroup i x).gait = s.gait := rfl
@[simp] theorem State.setGroup_aux (s : State) (i : Nat) (x : Group) : (s.setGroup i x).aux = s.aux := rfl
@[simp] theorem State.setGroup_wfs (s : State) (i : Nat) (x : Group) : (s.setGroup i x).wfs = s.wfs := rfl
@[simp] theorem State.setGroup_streams (s : State) (i : Nat) (x : Group) : (s.setGroup i x).streams = s.streams := rfl
@[simp] theorem State.setGroup_hqe (s : State) (i : Nat) (x : Group) : (s.setGroup i x).hqe = s.hqe := rfl
@[simp] theorem State.setGroup_pack (s : State) (i : Nat) (x : Group) : (s.setGroup i x).pack = s.pack := rfl
@[simp] theorem State.setGroup_idma (s : State) (i : Nat) (x : Group) : (s.setGroup i x).idma = s.idma := rfl
@[simp] theorem State.setGroup_fab (s : State) (i : Nat) (x : Group) : (s.setGroup i x).fab = s.fab := rfl
@[simp] theorem State.setGroup_sec (s : State) (i : Nat) (x : Group) : (s.setGroup i x).sec = s.sec := rfl

@[simp] theorem State.setPlaneLines_pending (s : State) (i : Nat) (x : List PlaneLine) : (s.setPlaneLines i x).pending = s.pending := rfl
@[simp] theorem State.setPlaneLines_regs (s : State) (i : Nat) (x : List PlaneLine) : (s.setPlaneLines i x).regs = s.regs := rfl
@[simp] theorem State.setPlaneLines_eff (s : State) (i : Nat) (x : List PlaneLine) : (s.setPlaneLines i x).eff = s.eff := rfl
@[simp] theorem State.setPlaneLines_shadows (s : State) (i : Nat) (x : List PlaneLine) : (s.setPlaneLines i x).shadows = s.shadows := rfl
@[simp] theorem State.setPlaneLines_rdata (s : State) (i : Nat) (x : List PlaneLine) : (s.setPlaneLines i x).rdata = s.rdata := rfl
@[simp] theorem State.setPlaneLines_pulses (s : State) (i : Nat) (x : List PlaneLine) : (s.setPlaneLines i x).pulses = s.pulses := rfl
@[simp] theorem State.setPlaneLines_mem (s : State) (i : Nat) (x : List PlaneLine) : (s.setPlaneLines i x).mem = s.mem := rfl
@[simp] theorem State.setPlaneLines_hostMem (s : State) (i : Nat) (x : List PlaneLine) : (s.setPlaneLines i x).hostMem = s.hostMem := rfl
@[simp] theorem State.setPlaneLines_messages (s : State) (i : Nat) (x : List PlaneLine) : (s.setPlaneLines i x).messages = s.messages := rfl
@[simp] theorem State.setPlaneLines_work (s : State) (i : Nat) (x : List PlaneLine) : (s.setPlaneLines i x).work = s.work := rfl
@[simp] theorem State.setPlaneLines_freeCount (s : State) (i : Nat) (x : List PlaneLine) : (s.setPlaneLines i x).freeCount = s.freeCount := rfl
@[simp] theorem State.setPlaneLines_sys (s : State) (i : Nat) (x : List PlaneLine) : (s.setPlaneLines i x).sys = s.sys := rfl
@[simp] theorem State.setPlaneLines_tsq (s : State) (i : Nat) (x : List PlaneLine) : (s.setPlaneLines i x).tsq = s.tsq := rfl
@[simp] theorem State.setPlaneLines_vaf (s : State) (i : Nat) (x : List PlaneLine) : (s.setPlaneLines i x).vaf = s.vaf := rfl
@[simp] theorem State.setPlaneLines_geo (s : State) (i : Nat) (x : List PlaneLine) : (s.setPlaneLines i x).geo = s.geo := rfl
@[simp] theorem State.setPlaneLines_asyncQ (s : State) (i : Nat) (x : List PlaneLine) : (s.setPlaneLines i x).asyncQ = s.asyncQ := rfl
@[simp] theorem State.setPlaneLines_outLines (s : State) (i : Nat) (x : List PlaneLine) : (s.setPlaneLines i x).outLines = s.outLines := rfl
@[simp] theorem State.setPlaneLines_hlt (s : State) (i : Nat) (x : List PlaneLine) : (s.setPlaneLines i x).hlt = s.hlt := rfl
@[simp] theorem State.setPlaneLines_gait (s : State) (i : Nat) (x : List PlaneLine) : (s.setPlaneLines i x).gait = s.gait := rfl
@[simp] theorem State.setPlaneLines_aux (s : State) (i : Nat) (x : List PlaneLine) : (s.setPlaneLines i x).aux = s.aux := rfl
@[simp] theorem State.setPlaneLines_wfs (s : State) (i : Nat) (x : List PlaneLine) : (s.setPlaneLines i x).wfs = s.wfs := rfl
@[simp] theorem State.setPlaneLines_streams (s : State) (i : Nat) (x : List PlaneLine) : (s.setPlaneLines i x).streams = s.streams := rfl
@[simp] theorem State.setPlaneLines_hqe (s : State) (i : Nat) (x : List PlaneLine) : (s.setPlaneLines i x).hqe = s.hqe := rfl
@[simp] theorem State.setPlaneLines_pack (s : State) (i : Nat) (x : List PlaneLine) : (s.setPlaneLines i x).pack = s.pack := rfl
@[simp] theorem State.setPlaneLines_idma (s : State) (i : Nat) (x : List PlaneLine) : (s.setPlaneLines i x).idma = s.idma := rfl
@[simp] theorem State.setPlaneLines_fab (s : State) (i : Nat) (x : List PlaneLine) : (s.setPlaneLines i x).fab = s.fab := rfl
@[simp] theorem State.setPlaneLines_sec (s : State) (i : Nat) (x : List PlaneLine) : (s.setPlaneLines i x).sec = s.sec := rfl

@[simp] theorem State.setRecord_pending (s : State) (i : Nat) (x : DocRecord) : (s.setRecord i x).pending = s.pending := rfl
@[simp] theorem State.setRecord_regs (s : State) (i : Nat) (x : DocRecord) : (s.setRecord i x).regs = s.regs := rfl
@[simp] theorem State.setRecord_eff (s : State) (i : Nat) (x : DocRecord) : (s.setRecord i x).eff = s.eff := rfl
@[simp] theorem State.setRecord_shadows (s : State) (i : Nat) (x : DocRecord) : (s.setRecord i x).shadows = s.shadows := rfl
@[simp] theorem State.setRecord_rdata (s : State) (i : Nat) (x : DocRecord) : (s.setRecord i x).rdata = s.rdata := rfl
@[simp] theorem State.setRecord_pulses (s : State) (i : Nat) (x : DocRecord) : (s.setRecord i x).pulses = s.pulses := rfl
@[simp] theorem State.setRecord_mem (s : State) (i : Nat) (x : DocRecord) : (s.setRecord i x).mem = s.mem := rfl
@[simp] theorem State.setRecord_hostMem (s : State) (i : Nat) (x : DocRecord) : (s.setRecord i x).hostMem = s.hostMem := rfl
@[simp] theorem State.setRecord_messages (s : State) (i : Nat) (x : DocRecord) : (s.setRecord i x).messages = s.messages := rfl
@[simp] theorem State.setRecord_work (s : State) (i : Nat) (x : DocRecord) : (s.setRecord i x).work = s.work := rfl
@[simp] theorem State.setRecord_freeCount (s : State) (i : Nat) (x : DocRecord) : (s.setRecord i x).freeCount = s.freeCount := rfl
@[simp] theorem State.setRecord_sys (s : State) (i : Nat) (x : DocRecord) : (s.setRecord i x).sys = s.sys := rfl
@[simp] theorem State.setRecord_tsq (s : State) (i : Nat) (x : DocRecord) : (s.setRecord i x).tsq = s.tsq := rfl
@[simp] theorem State.setRecord_vaf (s : State) (i : Nat) (x : DocRecord) : (s.setRecord i x).vaf = s.vaf := rfl
@[simp] theorem State.setRecord_shd (s : State) (i : Nat) (x : DocRecord) : (s.setRecord i x).shd = s.shd := rfl
@[simp] theorem State.setRecord_asyncQ (s : State) (i : Nat) (x : DocRecord) : (s.setRecord i x).asyncQ = s.asyncQ := rfl
@[simp] theorem State.setRecord_outLines (s : State) (i : Nat) (x : DocRecord) : (s.setRecord i x).outLines = s.outLines := rfl
@[simp] theorem State.setRecord_hlt (s : State) (i : Nat) (x : DocRecord) : (s.setRecord i x).hlt = s.hlt := rfl
@[simp] theorem State.setRecord_gait (s : State) (i : Nat) (x : DocRecord) : (s.setRecord i x).gait = s.gait := rfl
@[simp] theorem State.setRecord_aux (s : State) (i : Nat) (x : DocRecord) : (s.setRecord i x).aux = s.aux := rfl
@[simp] theorem State.setRecord_wfs (s : State) (i : Nat) (x : DocRecord) : (s.setRecord i x).wfs = s.wfs := rfl
@[simp] theorem State.setRecord_streams (s : State) (i : Nat) (x : DocRecord) : (s.setRecord i x).streams = s.streams := rfl
@[simp] theorem State.setRecord_hqe (s : State) (i : Nat) (x : DocRecord) : (s.setRecord i x).hqe = s.hqe := rfl
@[simp] theorem State.setRecord_pack (s : State) (i : Nat) (x : DocRecord) : (s.setRecord i x).pack = s.pack := rfl
@[simp] theorem State.setRecord_idma (s : State) (i : Nat) (x : DocRecord) : (s.setRecord i x).idma = s.idma := rfl
@[simp] theorem State.setRecord_fab (s : State) (i : Nat) (x : DocRecord) : (s.setRecord i x).fab = s.fab := rfl
@[simp] theorem State.setRecord_sec (s : State) (i : Nat) (x : DocRecord) : (s.setRecord i x).sec = s.sec := rfl

@[simp] theorem State.setWindow_pending (s : State) (i : Nat) (x : Option Window) : (s.setWindow i x).pending = s.pending := rfl
@[simp] theorem State.setWindow_regs (s : State) (i : Nat) (x : Option Window) : (s.setWindow i x).regs = s.regs := rfl
@[simp] theorem State.setWindow_eff (s : State) (i : Nat) (x : Option Window) : (s.setWindow i x).eff = s.eff := rfl
@[simp] theorem State.setWindow_shadows (s : State) (i : Nat) (x : Option Window) : (s.setWindow i x).shadows = s.shadows := rfl
@[simp] theorem State.setWindow_rdata (s : State) (i : Nat) (x : Option Window) : (s.setWindow i x).rdata = s.rdata := rfl
@[simp] theorem State.setWindow_pulses (s : State) (i : Nat) (x : Option Window) : (s.setWindow i x).pulses = s.pulses := rfl
@[simp] theorem State.setWindow_mem (s : State) (i : Nat) (x : Option Window) : (s.setWindow i x).mem = s.mem := rfl
@[simp] theorem State.setWindow_hostMem (s : State) (i : Nat) (x : Option Window) : (s.setWindow i x).hostMem = s.hostMem := rfl
@[simp] theorem State.setWindow_messages (s : State) (i : Nat) (x : Option Window) : (s.setWindow i x).messages = s.messages := rfl
@[simp] theorem State.setWindow_work (s : State) (i : Nat) (x : Option Window) : (s.setWindow i x).work = s.work := rfl
@[simp] theorem State.setWindow_freeCount (s : State) (i : Nat) (x : Option Window) : (s.setWindow i x).freeCount = s.freeCount := rfl
@[simp] theorem State.setWindow_sys (s : State) (i : Nat) (x : Option Window) : (s.setWindow i x).sys = s.sys := rfl
@[simp] theorem State.setWindow_tsq (s : State) (i : Nat) (x : Option Window) : (s.setWindow i x).tsq = s.tsq := rfl
@[simp] theorem State.setWindow_vaf (s : State) (i : Nat) (x : Option Window) : (s.setWindow i x).vaf = s.vaf := rfl
@[simp] theorem State.setWindow_shd (s : State) (i : Nat) (x : Option Window) : (s.setWindow i x).shd = s.shd := rfl
@[simp] theorem State.setWindow_asyncQ (s : State) (i : Nat) (x : Option Window) : (s.setWindow i x).asyncQ = s.asyncQ := rfl
@[simp] theorem State.setWindow_outLines (s : State) (i : Nat) (x : Option Window) : (s.setWindow i x).outLines = s.outLines := rfl
@[simp] theorem State.setWindow_hlt (s : State) (i : Nat) (x : Option Window) : (s.setWindow i x).hlt = s.hlt := rfl
@[simp] theorem State.setWindow_gait (s : State) (i : Nat) (x : Option Window) : (s.setWindow i x).gait = s.gait := rfl
@[simp] theorem State.setWindow_aux (s : State) (i : Nat) (x : Option Window) : (s.setWindow i x).aux = s.aux := rfl
@[simp] theorem State.setWindow_wfs (s : State) (i : Nat) (x : Option Window) : (s.setWindow i x).wfs = s.wfs := rfl
@[simp] theorem State.setWindow_streams (s : State) (i : Nat) (x : Option Window) : (s.setWindow i x).streams = s.streams := rfl
@[simp] theorem State.setWindow_hqe (s : State) (i : Nat) (x : Option Window) : (s.setWindow i x).hqe = s.hqe := rfl
@[simp] theorem State.setWindow_pack (s : State) (i : Nat) (x : Option Window) : (s.setWindow i x).pack = s.pack := rfl
@[simp] theorem State.setWindow_idma (s : State) (i : Nat) (x : Option Window) : (s.setWindow i x).idma = s.idma := rfl
@[simp] theorem State.setWindow_fab (s : State) (i : Nat) (x : Option Window) : (s.setWindow i x).fab = s.fab := rfl
@[simp] theorem State.setWindow_sec (s : State) (i : Nat) (x : Option Window) : (s.setWindow i x).sec = s.sec := rfl

@[simp] theorem State.setPathSt_pending (s : State) (i : Nat) (x : PathSt) : (s.setPathSt i x).pending = s.pending := rfl
@[simp] theorem State.setPathSt_regs (s : State) (i : Nat) (x : PathSt) : (s.setPathSt i x).regs = s.regs := rfl
@[simp] theorem State.setPathSt_eff (s : State) (i : Nat) (x : PathSt) : (s.setPathSt i x).eff = s.eff := rfl
@[simp] theorem State.setPathSt_shadows (s : State) (i : Nat) (x : PathSt) : (s.setPathSt i x).shadows = s.shadows := rfl
@[simp] theorem State.setPathSt_rdata (s : State) (i : Nat) (x : PathSt) : (s.setPathSt i x).rdata = s.rdata := rfl
@[simp] theorem State.setPathSt_pulses (s : State) (i : Nat) (x : PathSt) : (s.setPathSt i x).pulses = s.pulses := rfl
@[simp] theorem State.setPathSt_mem (s : State) (i : Nat) (x : PathSt) : (s.setPathSt i x).mem = s.mem := rfl
@[simp] theorem State.setPathSt_hostMem (s : State) (i : Nat) (x : PathSt) : (s.setPathSt i x).hostMem = s.hostMem := rfl
@[simp] theorem State.setPathSt_messages (s : State) (i : Nat) (x : PathSt) : (s.setPathSt i x).messages = s.messages := rfl
@[simp] theorem State.setPathSt_work (s : State) (i : Nat) (x : PathSt) : (s.setPathSt i x).work = s.work := rfl
@[simp] theorem State.setPathSt_freeCount (s : State) (i : Nat) (x : PathSt) : (s.setPathSt i x).freeCount = s.freeCount := rfl
@[simp] theorem State.setPathSt_sys (s : State) (i : Nat) (x : PathSt) : (s.setPathSt i x).sys = s.sys := rfl
@[simp] theorem State.setPathSt_tsq (s : State) (i : Nat) (x : PathSt) : (s.setPathSt i x).tsq = s.tsq := rfl
@[simp] theorem State.setPathSt_vaf (s : State) (i : Nat) (x : PathSt) : (s.setPathSt i x).vaf = s.vaf := rfl
@[simp] theorem State.setPathSt_shd (s : State) (i : Nat) (x : PathSt) : (s.setPathSt i x).shd = s.shd := rfl
@[simp] theorem State.setPathSt_geo (s : State) (i : Nat) (x : PathSt) : (s.setPathSt i x).geo = s.geo := rfl
@[simp] theorem State.setPathSt_asyncQ (s : State) (i : Nat) (x : PathSt) : (s.setPathSt i x).asyncQ = s.asyncQ := rfl
@[simp] theorem State.setPathSt_outLines (s : State) (i : Nat) (x : PathSt) : (s.setPathSt i x).outLines = s.outLines := rfl
@[simp] theorem State.setPathSt_hlt (s : State) (i : Nat) (x : PathSt) : (s.setPathSt i x).hlt = s.hlt := rfl
@[simp] theorem State.setPathSt_aux (s : State) (i : Nat) (x : PathSt) : (s.setPathSt i x).aux = s.aux := rfl
@[simp] theorem State.setPathSt_wfs (s : State) (i : Nat) (x : PathSt) : (s.setPathSt i x).wfs = s.wfs := rfl
@[simp] theorem State.setPathSt_streams (s : State) (i : Nat) (x : PathSt) : (s.setPathSt i x).streams = s.streams := rfl
@[simp] theorem State.setPathSt_hqe (s : State) (i : Nat) (x : PathSt) : (s.setPathSt i x).hqe = s.hqe := rfl
@[simp] theorem State.setPathSt_pack (s : State) (i : Nat) (x : PathSt) : (s.setPathSt i x).pack = s.pack := rfl
@[simp] theorem State.setPathSt_idma (s : State) (i : Nat) (x : PathSt) : (s.setPathSt i x).idma = s.idma := rfl
@[simp] theorem State.setPathSt_fab (s : State) (i : Nat) (x : PathSt) : (s.setPathSt i x).fab = s.fab := rfl
@[simp] theorem State.setPathSt_sec (s : State) (i : Nat) (x : PathSt) : (s.setPathSt i x).sec = s.sec := rfl

@[simp] theorem State.setEnc_pending (s : State) (i : Nat) (x : Enc) : (s.setEnc i x).pending = s.pending := rfl
@[simp] theorem State.setEnc_regs (s : State) (i : Nat) (x : Enc) : (s.setEnc i x).regs = s.regs := rfl
@[simp] theorem State.setEnc_eff (s : State) (i : Nat) (x : Enc) : (s.setEnc i x).eff = s.eff := rfl
@[simp] theorem State.setEnc_shadows (s : State) (i : Nat) (x : Enc) : (s.setEnc i x).shadows = s.shadows := rfl
@[simp] theorem State.setEnc_rdata (s : State) (i : Nat) (x : Enc) : (s.setEnc i x).rdata = s.rdata := rfl
@[simp] theorem State.setEnc_pulses (s : State) (i : Nat) (x : Enc) : (s.setEnc i x).pulses = s.pulses := rfl
@[simp] theorem State.setEnc_mem (s : State) (i : Nat) (x : Enc) : (s.setEnc i x).mem = s.mem := rfl
@[simp] theorem State.setEnc_hostMem (s : State) (i : Nat) (x : Enc) : (s.setEnc i x).hostMem = s.hostMem := rfl
@[simp] theorem State.setEnc_messages (s : State) (i : Nat) (x : Enc) : (s.setEnc i x).messages = s.messages := rfl
@[simp] theorem State.setEnc_work (s : State) (i : Nat) (x : Enc) : (s.setEnc i x).work = s.work := rfl
@[simp] theorem State.setEnc_freeCount (s : State) (i : Nat) (x : Enc) : (s.setEnc i x).freeCount = s.freeCount := rfl
@[simp] theorem State.setEnc_sys (s : State) (i : Nat) (x : Enc) : (s.setEnc i x).sys = s.sys := rfl
@[simp] theorem State.setEnc_tsq (s : State) (i : Nat) (x : Enc) : (s.setEnc i x).tsq = s.tsq := rfl
@[simp] theorem State.setEnc_vaf (s : State) (i : Nat) (x : Enc) : (s.setEnc i x).vaf = s.vaf := rfl
@[simp] theorem State.setEnc_shd (s : State) (i : Nat) (x : Enc) : (s.setEnc i x).shd = s.shd := rfl
@[simp] theorem State.setEnc_geo (s : State) (i : Nat) (x : Enc) : (s.setEnc i x).geo = s.geo := rfl
@[simp] theorem State.setEnc_asyncQ (s : State) (i : Nat) (x : Enc) : (s.setEnc i x).asyncQ = s.asyncQ := rfl
@[simp] theorem State.setEnc_outLines (s : State) (i : Nat) (x : Enc) : (s.setEnc i x).outLines = s.outLines := rfl
@[simp] theorem State.setEnc_hlt (s : State) (i : Nat) (x : Enc) : (s.setEnc i x).hlt = s.hlt := rfl
@[simp] theorem State.setEnc_aux (s : State) (i : Nat) (x : Enc) : (s.setEnc i x).aux = s.aux := rfl
@[simp] theorem State.setEnc_wfs (s : State) (i : Nat) (x : Enc) : (s.setEnc i x).wfs = s.wfs := rfl
@[simp] theorem State.setEnc_streams (s : State) (i : Nat) (x : Enc) : (s.setEnc i x).streams = s.streams := rfl
@[simp] theorem State.setEnc_hqe (s : State) (i : Nat) (x : Enc) : (s.setEnc i x).hqe = s.hqe := rfl
@[simp] theorem State.setEnc_pack (s : State) (i : Nat) (x : Enc) : (s.setEnc i x).pack = s.pack := rfl
@[simp] theorem State.setEnc_idma (s : State) (i : Nat) (x : Enc) : (s.setEnc i x).idma = s.idma := rfl
@[simp] theorem State.setEnc_fab (s : State) (i : Nat) (x : Enc) : (s.setEnc i x).fab = s.fab := rfl
@[simp] theorem State.setEnc_sec (s : State) (i : Nat) (x : Enc) : (s.setEnc i x).sec = s.sec := rfl

@[simp] theorem State.setSeamSt_pending (s : State) (i : Nat) (x : SeamSt) : (s.setSeamSt i x).pending = s.pending := rfl
@[simp] theorem State.setSeamSt_regs (s : State) (i : Nat) (x : SeamSt) : (s.setSeamSt i x).regs = s.regs := rfl
@[simp] theorem State.setSeamSt_eff (s : State) (i : Nat) (x : SeamSt) : (s.setSeamSt i x).eff = s.eff := rfl
@[simp] theorem State.setSeamSt_shadows (s : State) (i : Nat) (x : SeamSt) : (s.setSeamSt i x).shadows = s.shadows := rfl
@[simp] theorem State.setSeamSt_rdata (s : State) (i : Nat) (x : SeamSt) : (s.setSeamSt i x).rdata = s.rdata := rfl
@[simp] theorem State.setSeamSt_pulses (s : State) (i : Nat) (x : SeamSt) : (s.setSeamSt i x).pulses = s.pulses := rfl
@[simp] theorem State.setSeamSt_mem (s : State) (i : Nat) (x : SeamSt) : (s.setSeamSt i x).mem = s.mem := rfl
@[simp] theorem State.setSeamSt_hostMem (s : State) (i : Nat) (x : SeamSt) : (s.setSeamSt i x).hostMem = s.hostMem := rfl
@[simp] theorem State.setSeamSt_messages (s : State) (i : Nat) (x : SeamSt) : (s.setSeamSt i x).messages = s.messages := rfl
@[simp] theorem State.setSeamSt_work (s : State) (i : Nat) (x : SeamSt) : (s.setSeamSt i x).work = s.work := rfl
@[simp] theorem State.setSeamSt_freeCount (s : State) (i : Nat) (x : SeamSt) : (s.setSeamSt i x).freeCount = s.freeCount := rfl
@[simp] theorem State.setSeamSt_sys (s : State) (i : Nat) (x : SeamSt) : (s.setSeamSt i x).sys = s.sys := rfl
@[simp] theorem State.setSeamSt_tsq (s : State) (i : Nat) (x : SeamSt) : (s.setSeamSt i x).tsq = s.tsq := rfl
@[simp] theorem State.setSeamSt_vaf (s : State) (i : Nat) (x : SeamSt) : (s.setSeamSt i x).vaf = s.vaf := rfl
@[simp] theorem State.setSeamSt_shd (s : State) (i : Nat) (x : SeamSt) : (s.setSeamSt i x).shd = s.shd := rfl
@[simp] theorem State.setSeamSt_geo (s : State) (i : Nat) (x : SeamSt) : (s.setSeamSt i x).geo = s.geo := rfl
@[simp] theorem State.setSeamSt_asyncQ (s : State) (i : Nat) (x : SeamSt) : (s.setSeamSt i x).asyncQ = s.asyncQ := rfl
@[simp] theorem State.setSeamSt_outLines (s : State) (i : Nat) (x : SeamSt) : (s.setSeamSt i x).outLines = s.outLines := rfl
@[simp] theorem State.setSeamSt_hlt (s : State) (i : Nat) (x : SeamSt) : (s.setSeamSt i x).hlt = s.hlt := rfl
@[simp] theorem State.setSeamSt_aux (s : State) (i : Nat) (x : SeamSt) : (s.setSeamSt i x).aux = s.aux := rfl
@[simp] theorem State.setSeamSt_wfs (s : State) (i : Nat) (x : SeamSt) : (s.setSeamSt i x).wfs = s.wfs := rfl
@[simp] theorem State.setSeamSt_streams (s : State) (i : Nat) (x : SeamSt) : (s.setSeamSt i x).streams = s.streams := rfl
@[simp] theorem State.setSeamSt_hqe (s : State) (i : Nat) (x : SeamSt) : (s.setSeamSt i x).hqe = s.hqe := rfl
@[simp] theorem State.setSeamSt_pack (s : State) (i : Nat) (x : SeamSt) : (s.setSeamSt i x).pack = s.pack := rfl
@[simp] theorem State.setSeamSt_idma (s : State) (i : Nat) (x : SeamSt) : (s.setSeamSt i x).idma = s.idma := rfl
@[simp] theorem State.setSeamSt_fab (s : State) (i : Nat) (x : SeamSt) : (s.setSeamSt i x).fab = s.fab := rfl
@[simp] theorem State.setSeamSt_sec (s : State) (i : Nat) (x : SeamSt) : (s.setSeamSt i x).sec = s.sec := rfl

/-! ## Registers -/

theorem State.reg_setReg (s : State) (o : Nat) (w : Word) (k : Nat) : (s.setReg o w).reg k = if k = o then w else s.reg k :=
  Table.get_set _ _ _ _ _

@[simp] theorem State.reg_setReg_same (s : State) (o : Nat) (w : Word) : (s.setReg o w).reg o = w := by
  rw [State.reg_setReg, if_pos rfl]

theorem State.reg_setReg_ne (s : State) (o : Nat) (w : Word) (k : Nat) (h : k ≠ o) : (s.setReg o w).reg k = s.reg k := by
  rw [State.reg_setReg, if_neg h]

theorem State.reg_setFld (s : State) (o : Nat) (f : Fld) (x k : Nat) :
    (s.setFld o f x).reg k = if k = o then f.put (s.reg o) x else s.reg k := State.reg_setReg _ _ _ _

@[simp] theorem State.reg_setFld_same (s : State) (o : Nat) (f : Fld) (x : Nat) :
    (s.setFld o f x).reg o = f.put (s.reg o) x := by rw [State.reg_setFld, if_pos rfl]

theorem State.reg_setFld_ne (s : State) (o : Nat) (f : Fld) (x k : Nat) (h : k ≠ o) :
    (s.setFld o f x).reg k = s.reg k := by rw [State.reg_setFld, if_neg h]

/-- A field reads the value just set, modulo its width. -/
theorem State.fld_setFld (s : State) (o : Nat) (f : Fld) (x : Nat) (h : f.lo + f.width ≤ 32) :
    (s.setFld o f x).fld o f = x % 2 ^ f.width := by
  rw [State.fld, State.reg_setFld_same, Fld.get_put f _ _ h]

/-- A field apart from the one set reads as before. -/
theorem State.fld_setFld_apart (s : State) (o : Nat) (f g : Fld) (x : Nat) (hf : f.lo + f.width ≤ 32)
    (hg : g.lo + g.width ≤ 32) (h : g.lo + g.width ≤ f.lo ∨ f.lo + f.width ≤ g.lo) :
    (s.setFld o f x).fld o g = s.fld o g := by
  rw [State.fld, State.reg_setFld_same, Fld.get_put_apart f g _ _ hf hg h, State.fld]

theorem State.fld_setFld_ne (s : State) (o : Nat) (f : Fld) (x k : Nat) (g : Fld) (h : k ≠ o) :
    (s.setFld o f x).fld k g = s.fld k g := by
  rw [State.fld, State.reg_setFld_ne _ _ _ _ _ h, State.fld]

theorem State.fld_setReg_ne (s : State) (o : Nat) (w : Word) (k : Nat) (g : Fld) (h : k ≠ o) :
    (s.setReg o w).fld k g = s.fld k g := by
  rw [State.fld, State.reg_setReg_ne _ _ _ _ h, State.fld]

theorem State.reg_count (s : State) (o k : Nat) : (s.count o).reg k = if k = o then satInc (s.reg o) else s.reg k :=
  State.reg_setReg _ _ _ _

theorem State.reg_setReg64 (s : State) (lo hi v k : Nat) (h : lo ≠ hi) :
    (s.setReg64 lo hi v).reg k =
      if k = lo then BitVec.ofNat 32 v else if k = hi then BitVec.ofNat 32 (v >>> 32) else s.reg k := by
  simp only [State.setReg64, State.reg_setReg]
  by_cases h1 : k = hi
  · subst h1; simp [Ne.symm h]
  · simp [h1]

@[simp] theorem State.reg_fire (s : State) (ev k : Nat) : (s.fire ev).reg k = s.reg k := rfl

/-- Updates that leave the registers alone leave every register. -/
theorem State.reg_of_regs (s t : State) (h : t.regs = s.regs) (k : Nat) : t.reg k = s.reg k := by
  rw [State.reg, h, State.reg]

theorem State.effReg_of (s : State) (o : Nat) (h : s.eff = []) : s.effReg o = s.reg o := by
  rw [State.effReg, h]; rfl

/-! ## Memory bytes -/

theorem State.byte_setByte (s : State) (a : Nat) (b : Byte) (k : Nat) :
    (s.setByte a b).byte k = if k = a then b else s.byte k := Table.get_set _ _ _ _ _

/-! ## Per-index states -/

theorem State.lp_setLp (s : State) (i : Nat) (x : Lp) (k : Nat) :
    (s.setLp i x).lp k = if k = i then x else s.lp k := Table.get_set _ _ _ _ _

theorem State.bank_setBank (s : State) (i : Nat) (x : Bank) (k : Nat) :
    (s.setBank i x).bank k = if k = i then x else s.bank k := Table.get_set _ _ _ _ _

theorem State.monitor_setMonitor (s : State) (i : Nat) (x : Monitor) (k : Nat) :
    (s.setMonitor i x).monitor k = if k = i then x else s.monitor k := Table.get_set _ _ _ _ _

theorem State.group_setGroup (s : State) (i : Nat) (x : Group) (k : Nat) :
    (s.setGroup i x).group k = if k = i then x else s.group k := Table.get_set _ _ _ _ _

theorem State.record_setRecord (s : State) (i : Nat) (x : DocRecord) (k : Nat) :
    (s.setRecord i x).record k = if k = i then x else s.record k := Table.get_set _ _ _ _ _

theorem State.pathSt_setPathSt (s : State) (i : Nat) (x : PathSt) (k : Nat) :
    (s.setPathSt i x).pathSt k = if k = i then x else s.pathSt k := Table.get_set _ _ _ _ _

theorem State.enc_setEnc (s : State) (i : Nat) (x : Enc) (k : Nat) :
    (s.setEnc i x).enc k = if k = i then x else s.enc k := Table.get_set _ _ _ _ _

theorem State.seamSt_setSeamSt (s : State) (i : Nat) (x : SeamSt) (k : Nat) :
    (s.setSeamSt i x).seamSt k = if k = i then x else s.seamSt k := Table.get_set _ _ _ _ _

theorem State.window_setWindow (s : State) (i : Nat) (x : Option Window) (k : Nat) :
    (s.setWindow i x).window k = if k = i then x else s.window k := Table.get_set _ _ _ _ _

theorem State.planeLines_setPlaneLines (s : State) (i : Nat) (x : List PlaneLine) (k : Nat) :
    (s.setPlaneLines i x).planeLines k = if k = i then x else s.planeLines k := Table.get_set _ _ _ _ _

end Sys2Proof.Machine
end

