-- ==== Sys2Proof/Laws/Settle.lean ====
section
/-!
SUPPORT. Sys2Proof/Laws/Settle.lean: the end of a command. Where nothing waits, working off consequences changes nothing; after it,
nothing is left to work off and HLT.STAT shows the main side.
-/
namespace Sys2Proof.Machine

/-- Where nothing waits, E0 has nothing to do. -/
theorem State.e0Step_of_quiet (s : State) (h : s.quiet) : s.e0Step = none := by
  obtain ⟨-, -, h⟩ := h
  by_cases hr : s.e0Runs = true
  · have hq : s.sec.reports = [] ∧ s.sec.hostLoss = none ∧ s.sec.running = none ∧ s.sec.boot = false ∧ s.sec.due = [] ∧
        (s.sec.loop = false ∨ (s.eng 0).inbox = []) := by
      rcases h with h | ⟨-, h1, h2, h3, h4, h5, h6⟩
      · rw [h]; exact ⟨rfl, rfl, rfl, rfl, rfl, .inl rfl⟩
      · exact ⟨h1, h2, h3, h4, h5, .inr h6⟩
    obtain ⟨h1, h2, h3, h4, h5, h6⟩ := hq
    have hn : s.svcNext = none := by
      rcases h6 with h6 | h6
      · simp [State.svcNext, hr, h1, h3, h4, h6]
      · simp [State.svcNext, hr, h1, h3, h4, h5, h6]
    simp [State.e0Step, hr, State.reportStep, h1, State.hostLossStep, h2, h3, State.e0Next, hn, h4]
  · rcases h with h | ⟨hr', -⟩
    · rw [State.e0Step, if_pos (by simp [hr]), if_pos h]
    · exact absurd hr' hr

/-- Where nothing waits, nothing is worked off. -/
theorem State.settleGo_of_quiet (n : Nat) (s : State) (h : s.quiet) : s.settleGo n = s := by
  cases n with
  | zero =>
    show { s with work := [] } = s
    rw [← h.1]
  | succ n => simp [State.settleGo, h.1, h.2.1, State.e0Step_of_quiet s h]

/-- Working off leaves nothing to work off. -/
theorem State.settleGo_work (n : Nat) (s : State) : (s.settleGo n).work = [] := by
  induction n generalizing s with
  | zero => rfl
  | succ n ih =>
    rw [State.settleGo]
    split
    · exact ih _
    · rename_i hw
      split
      · split
        · exact ih _
        · exact hw
      · dsimp only
        split
        · exact ih _
        · split
          · rename_i hw1; simpa using hw1
          · exact ih _

theorem State.showFld_same (s : State) (o : Nat) (f : Fld) (x : Nat) (h : s.fld o f = x) : s.showFld o f x = s := by
  rw [State.showFld, if_pos h]

theorem State.showFld_of_settled (s : State) (h : s.settled) : s.refreshMain = s := by
  rw [State.refreshMain, State.showFld_same _ _ _ _ h.2.1, State.showFld_same _ _ _ _ h.2.2]

/-- A command whose effect leaves nothing waiting, and HLT.STAT as it should be, ends with that effect. -/
theorem State.done_of_quiet (t : State) (h : t.quiet) (hs : t.settled) : State.done t = .next t := by
  rw [State.done, State.settle, State.settleGo_of_quiet _ _ h, State.showFld_of_settled _ hs]

/-- A command whose effect leaves nothing waiting ends with that effect and HLT.STAT brought up to date. -/
theorem State.done_of_quiet' (t : State) (h : t.quiet) : State.done t = .next t.refreshMain := by
  rw [State.done, State.settle, State.settleGo_of_quiet _ _ h]

/-! ## HLT.STAT -/

theorem State.showFld_regs_only (s : State) (o : Nat) (f : Fld) (x : Nat) :
    s.showFld o f x = { s with regs := (s.showFld o f x).regs } := by
  unfold State.showFld; split <;> rfl

theorem State.reg_showFld_ne (s : State) (o : Nat) (f : Fld) (x k : Nat) (h : k ≠ o) :
    (s.showFld o f x).reg k = s.reg k := by
  unfold State.showFld; split
  · rfl
  · exact State.reg_setFld_ne _ _ _ _ _ h

theorem State.fld_showFld (s : State) (o : Nat) (f : Fld) (x : Nat) (h : f.lo + f.width ≤ 32) (hx : x < 2 ^ f.width) :
    (s.showFld o f x).fld o f = x := by
  unfold State.showFld; split
  · assumption
  · rw [State.fld_setFld _ _ _ _ h, Nat.mod_eq_of_lt hx]

theorem State.fld_showFld_apart (s : State) (o : Nat) (f g : Fld) (x : Nat) (hf : f.lo + f.width ≤ 32)
    (hg : g.lo + g.width ≤ 32) (h : g.lo + g.width ≤ f.lo ∨ f.lo + f.width ≤ g.lo) :
    (s.showFld o f x).fld o g = s.fld o g := by
  unfold State.showFld; split
  · rfl
  · exact State.fld_setFld_apart _ _ _ _ _ hf hg h

/-- Bringing HLT.STAT up to date changes registers only, and of them HLT.STAT only. -/
theorem State.refreshMain_regs_only (s : State) : s.refreshMain = { s with regs := s.refreshMain.regs } := by
  have h : ∀ (a b : State), a = { s with regs := a.regs } → b = { a with regs := b.regs } → b = { s with regs := b.regs } := by
    intro a b ha hb; rw [hb, ha]
  exact h _ _ (State.showFld_regs_only s _ _ _) (State.showFld_regs_only _ _ _ _)

theorem State.reg_refreshMain_ne (s : State) (k : Nat) (h : k ≠ R.hltStat) : s.refreshMain.reg k = s.reg k := by
  rw [State.refreshMain, State.reg_showFld_ne _ _ _ _ _ h, State.reg_showFld_ne _ _ _ _ _ h]

theorem State.fld_refreshMain_ne (s : State) (k : Nat) (f : Fld) (h : k ≠ R.hltStat) : s.refreshMain.fld k f = s.fld k f := by
  rw [State.fld, State.reg_refreshMain_ne _ _ h, State.fld]

/-- The fields of HLT.STAT other than MAIN_RUN and READY are unchanged. -/
theorem State.fld_refreshMain_apart (s : State) (g : Fld) (hg : g.lo + g.width ≤ 32)
    (h1 : g.lo + g.width ≤ F.hltStat.MAIN_RUN.lo ∨ F.hltStat.MAIN_RUN.lo + F.hltStat.MAIN_RUN.width ≤ g.lo)
    (h2 : g.lo + g.width ≤ F.hltStat.READY.lo ∨ F.hltStat.READY.lo + F.hltStat.READY.width ≤ g.lo) :
    s.refreshMain.fld R.hltStat g = s.fld R.hltStat g := by
  rw [State.refreshMain, State.fld_showFld_apart _ _ _ _ _ (by decide) hg h2, State.fld_showFld_apart _ _ _ _ _ (by decide) hg h1]

theorem State.mainSideRuns_of (s t : State) (hs : t.sys = s.sys)
    (hh : t.fld R.hltStat F.hltStat.HOLD = s.fld R.hltStat F.hltStat.HOLD) (hc : t.reg R.sysClkStat = s.reg R.sysClkStat) :
    t.mainSideRuns = s.mainSideRuns := by
  simp only [State.fld] at hh
  simp only [State.mainSideRuns, State.bit, hs, State.fld, hc, hh]

theorem State.refreshMain_sys (s : State) : s.refreshMain.sys = s.sys := by rw [State.refreshMain_regs_only]
theorem State.refreshMain_work (s : State) : s.refreshMain.work = s.work := by rw [State.refreshMain_regs_only]

/-- After HLT.STAT is brought up to date it shows the main side. -/
theorem State.settled_refreshMain (s : State) (h : s.work = []) : s.refreshMain.settled := by
  refine ⟨by rw [State.refreshMain_work, h], ?_, ?_⟩
  · have hm : s.refreshMain.mainSideRuns = s.mainSideRuns :=
      State.mainSideRuns_of _ _ (State.refreshMain_sys s) (State.fld_refreshMain_apart s _ (by decide) (by decide) (by decide))
        (State.reg_refreshMain_ne s _ (by decide))
    rw [hm, State.refreshMain, State.fld_showFld_apart _ _ _ _ _ (by decide) (by decide) (by decide),
      State.fld_showFld _ _ _ _ (by decide) (by split <;> decide)]
  · rw [State.fld_refreshMain_ne s R.sysBootStat _ (by decide), State.refreshMain, State.fld_showFld _ _ _ _ (by decide)]
    exact (BitVec.isLt _)

theorem State.settled_settle (s : State) : s.settle.settled := State.settled_refreshMain _ (State.settleGo_work _ _)

/-! ## What keeps a state quiet and settled -/

theorem State.e0Runs_of (s t : State) (h : t.reg (R.engStat 0) = s.reg (R.engStat 0)) : t.e0Runs = s.e0Runs := by
  simp only [State.e0Runs, State.engState, State.fld, h]

/-- A state that differs in other blocks, and not in whether E0 runs or what it was asked, is as quiet. -/
theorem State.quiet_of (s t : State) (h : s.quiet) (hw : t.work = s.work) (hf : t.fab.releases = s.fab.releases) (hs : t.sec = s.sec)
    (he : t.reg (R.engStat 0) = s.reg (R.engStat 0)) (hp : (t.eng 0).inbox = (s.eng 0).inbox) : t.quiet := by
  obtain ⟨h1, h2, h3⟩ := h
  refine ⟨hw.trans h1, hf.trans h2, ?_⟩
  rw [hs, State.e0Runs_of s t he, hp]
  exact h3

/-- A state that differs neither in the main side's condition nor in HLT.STAT and READY is as settled. -/
theorem State.settled_of (s t : State) (h : s.settled) (hw : t.work = s.work) (hs : t.sys.railsBad = s.sys.railsBad)
    (hp : t.sys.porstLow = s.sys.porstLow) (hr : t.sys.resetting = s.sys.resetting)
    (hh : t.reg R.hltStat = s.reg R.hltStat) (hc : t.reg R.sysClkStat = s.reg R.sysClkStat)
    (hb : t.reg R.sysBootStat = s.reg R.sysBootStat) : t.settled := by
  obtain ⟨h1, h2, h3⟩ := h
  refine ⟨hw.trans h1, ?_, ?_⟩
  · rw [State.mainSideRuns, hs, hp, hr]
    simp only [State.bit, State.fld, hh, hc] at *
    exact h2
  · simp only [State.fld, hh, hb] at *
    exact h3

end Sys2Proof.Machine
end

