-- ==== Sys2Proof/Laws/Ops.lean ====
section
/-!
SUPPORT. Sys2Proof/Laws/Ops.lean: one lemma per shared operation that says what it does: a register write, a guard, a flag, a claim,
an asynchronous event.
-/
namespace Sys2Proof.Machine

theorem State.onWrite_of (s : State) (path : Path) (off : Nat) (f : State → State) (h : s.accessible path off = true) :
    s.onWrite path off f = f s := by rw [State.onWrite, if_pos h]

theorem State.onWrite_closed (s : State) (path : Path) (off : Nat) (f : State → State) (h : s.accessible path off = false) :
    s.onWrite path off f = s := by rw [State.onWrite, if_neg (by simp [h])]

/-! ## A register write (R10-R12) -/

theorem State.reg_writeRow (s : State) (path : Path) (off : Nat) (row : RegRow) (w : Word) (k : Nat) :
    (s.writeRow path off row w false).reg k = if k = off then row.written (s.reg off) w else s.reg k := by
  have : (s.writeRow path off row w false).reg k = (s.setReg off (row.written (s.reg off) w)).reg k := by
    simp only [State.writeRow, Bool.false_and, Bool.false_eq_true, if_false]
    simp only [State.reg, RegRow.written, RegRow.takes]
  rw [this, State.reg_setReg]

/-- A write of an idle block's register changes registers only. -/
theorem State.writeRow_regs_only (s : State) (path : Path) (off : Nat) (row : RegRow) (w : Word) :
    s.writeRow path off row w false =
      { s with regs := (s.writeRow path off row w false).regs, eff := (s.writeRow path off row w false).eff } := by
  simp only [State.writeRow, Bool.false_and, Bool.false_eq_true, if_false]
  rfl

theorem State.effReg_writeRow_ne (s : State) (path : Path) (off : Nat) (row : RegRow) (w : Word) (k : Nat) (h : k ≠ off) :
    (s.writeRow path off row w false).effReg k = s.effReg k := by
  have hr : (s.writeRow path off row w false).reg = fun j => if j = off then row.written (s.reg off) w else s.reg j := by
    funext j; exact State.reg_writeRow s path off row w j
  have hg : ∀ (d d' : Nat → Word) (t : Table Word), d k = d' k → Table.get d t k = Table.get d' t k := by
    intro d d' t hd
    induction t with
    | nil => exact hd
    | cons e r ih => simp only [Table.get]; rw [ih]
  have h1 : (s.writeRow path off row w false).effReg k = Table.get s.reg (s.writeRow path off row w false).eff k := by
    rw [State.effReg, hr]
    exact hg _ _ _ (by simp [h])
  rw [h1]
  simp only [State.writeRow, Bool.false_and, Bool.false_eq_true, if_false]
  split
  · rw [Table.get_erase, if_neg h]; rfl
  · rw [Table.get_insert_ne _ _ _ _ _ h, Table.get_erase, if_neg h]; rfl

/-- A write of an idle block's register changes that register only. -/
theorem State.writeRow_sameBut (s : State) (path : Path) (off : Nat) (row : RegRow) (w : Word) :
    s.sameBut (s.writeRow path off row w false) [off] := by
  refine ⟨State.writeRow_regs_only s path off row w, ?_⟩
  intro k hk
  have hk : k ≠ off := by simpa using hk
  exact ⟨by rw [State.reg_writeRow, if_neg hk], State.effReg_writeRow_ne s path off row w k hk⟩

/-! ## States that differ in registers only -/

theorem State.sameBut_refl (s : State) (l : List Nat) : s.sameBut s l := ⟨rfl, fun _ _ => ⟨rfl, rfl⟩⟩

theorem State.sameBut_trans (s t u : State) (l m : List Nat) (h : s.sameBut t l) (h' : t.sameBut u m) :
    s.sameBut u (l ++ m) := by
  refine ⟨?_, ?_⟩
  · rw [h'.1, h.1]
  · intro k hk
    have hk := List.mem_append.not.mp hk
    have h1 := h.2 k (fun x => hk (.inl x))
    have h2 := h'.2 k (fun x => hk (.inr x))
    exact ⟨h2.1.trans h1.1, h2.2.trans h1.2⟩

theorem State.sameBut_setReg (s : State) (o : Nat) (w : Word) : s.sameBut (s.setReg o w) [o] := by
  refine ⟨rfl, ?_⟩
  intro k hk
  have hk : k ≠ o := by simpa using hk
  have hg : ∀ (t : Table Word), Table.get (fun j => (s.setReg o w).reg j) t k = Table.get (fun j => s.reg j) t k := by
    intro t
    induction t with
    | nil => exact State.reg_setReg_ne s o w k hk
    | cons e r ih => simp only [Table.get]; rw [ih]
  exact ⟨State.reg_setReg_ne s o w k hk, hg s.eff⟩

theorem State.sameBut_setFld (s : State) (o : Nat) (f : Fld) (x : Nat) : s.sameBut (s.setFld o f x) [o] :=
  State.sameBut_setReg _ _ _

/-- A state that differs from a quiet one in registers other than En_STAT of E0 is quiet. -/
theorem State.quiet_of_sameBut (s t : State) (l : List Nat) (h : s.quiet) (hs : s.sameBut t l) (he : R.engStat 0 ∉ l) : t.quiet := by
  refine State.quiet_of s t h ?_ ?_ ?_ (hs.2 _ he).1 ?_ <;> (rw [hs.1]; try rfl)

/-- A state that differs from a settled one in registers apart from those that HLT.STAT follows is settled. -/
theorem State.settled_of_sameBut (s t : State) (l : List Nat) (h : s.settled) (hs : s.sameBut t l) (h1 : R.hltStat ∉ l)
    (h2 : R.sysClkStat ∉ l) (h3 : R.sysBootStat ∉ l) : t.settled := by
  refine State.settled_of s t h ?_ ?_ ?_ ?_ (hs.2 _ h1).1 (hs.2 _ h2).1 (hs.2 _ h3).1 <;> rw [hs.1]

/-- A command whose effect is in registers apart from those ends with that effect. -/
theorem State.done_of_sameBut (s t : State) (l : List Nat) (hq : s.quiet) (hs : s.settled) (h : s.sameBut t l)
    (h0 : R.engStat 0 ∉ l) (h1 : R.hltStat ∉ l) (h2 : R.sysClkStat ∉ l) (h3 : R.sysBootStat ∉ l) : State.done t = .next t :=
  State.done_of_quiet t (State.quiet_of_sameBut s t l hq h h0) (State.settled_of_sameBut s t l hs h h1 h2 h3)

/-! ## Flags, events, claims -/

/-- An access error sets its bit, and the offset with its requester while every bit was 0 (Table 1-6); nothing else. -/
theorem State.err_sameBut (s : State) (path : Path) (off : Nat) (b : Fld) :
    s.sameBut (s.err path off b) [R.sysErrAddr, R.sysErrStat] := by
  unfold State.err
  by_cases h : s.reg R.sysErrStat = 0
  · rw [if_pos h]
    exact State.sameBut_trans s _ _ [_] [_] (State.sameBut_setReg _ _ _) (State.sameBut_setFld _ _ _ _)
  · rw [if_neg h]
    exact State.sameBut_trans s s _ [_] [_] (State.sameBut_refl s _) (State.sameBut_setFld _ _ _ _)

/-- A quiet state without the event that an update of pulses brings is quiet. -/
theorem State.quiet_fire (s : State) (ev : Nat) (h : s.quiet) : (s.fire ev).quiet := State.quiet_of s _ h rfl rfl rfl rfl rfl
theorem State.settled_fire (s : State) (ev : Nat) (h : s.settled) : (s.fire ev).settled :=
  State.settled_of s _ h rfl rfl rfl rfl rfl rfl rfl

theorem State.queueAsync_room (s : State) (k d r : Nat) (h : s.asyncQ.length < 64) :
    s.queueAsync k d r = { s with asyncQ := s.asyncQ ++ [⟨k, d, r⟩] } := by rw [State.queueAsync, if_pos h]

theorem State.queueAsync_full (s : State) (k d r : Nat) (h : ¬ s.asyncQ.length < 64) :
    s.queueAsync k d r = s.setFld R.hqeStat F.hqeStat.EVQ_OVF 1 := by rw [State.queueAsync, if_neg h]

/-- A claim by the holder changes nothing and succeeds (R49). -/
theorem State.claim_own (s : State) (r : Res) (who : Nat) (h : s.owner r = who) : s.claim r who = (s, .ok) := by
  cases r <;> simp [State.claim, h]

/-- A claim of a free timer or pin makes the claimant its holder (R49). -/
theorem State.claim_free (s : State) (r : Res) (who : Nat) (h : s.owner r = 0) (hw : who ≠ 0) (hp : ∀ n, r ≠ .partition n) :
    s.claim r who = (s.setOwner r who, .ok) := by
  have h0 : (0 : Nat) ≠ who := fun e => hw e.symm
  cases r with
  | timer n => simp [State.claim, h, h0]
  | partition n => exact absurd rfl (hp n)
  | pin n f => simp [State.claim, h, h0]

/-- A claim of a resource that another claimant holds is denied, counted and recorded (R54). -/
theorem State.claim_held (s : State) (r : Res) (who : Nat) (h : s.owner r ≠ 0) (hw : s.owner r ≠ who) :
    s.claim r who = (s.conflict r (s.owner r) who true, .denied) := by
  cases r <;> simp [State.claim, hw, h]

/-- A release by the holder frees the resource (R49). -/
theorem State.release_own (s : State) (r : Res) (who : Nat) (h : s.owner r = who) (hw : who ≠ 0) :
    s.release r who = (s.setOwner r 0, true) := by
  have h0 : s.owner r ≠ 0 := by rw [h]; exact hw
  rw [State.release, if_neg h0, if_pos h]

end Sys2Proof.Machine
end

