-- ==== Sys2Proof/Laws/Memory.lean ====
section
/-!
SUPPORT. Sys2Proof/Laws/Memory.lean: every memory operation keeps the canonical form of the memory, and what bytes read after one.
-/
namespace Sys2Proof.Machine

theorem State.reset_mem_wf : Memory.wf State.reset.mem = true := by decide

theorem State.wf_setByte (s : State) (a : Nat) (b : Byte) (h : Memory.wf s.mem = true) : Memory.wf (s.setByte a b).mem = true :=
  Table.canon_set _ _ _ _ h

theorem State.wf_setBytes (s : State) (a : Nat) (l : List Byte) (h : Memory.wf s.mem = true) :
    Memory.wf (s.setBytes a l).mem = true := by
  induction l generalizing s a with
  | nil => exact h
  | cons b r ih => exact ih _ _ (State.wf_setByte s a b h)

theorem State.wf_setWord (s : State) (a : Nat) (w : Word) (h : Memory.wf s.mem = true) : Memory.wf (s.setWord a w).mem = true :=
  State.wf_setBytes _ _ _ h

theorem State.wf_zeroFill (s : State) (a n : Nat) (h : Memory.wf s.mem = true) : Memory.wf (s.zeroFill a n).mem = true :=
  Table.canon_filter _ _ _ h

theorem State.wf_flipBit (s : State) (a i : Nat) (h : Memory.wf s.mem = true) : Memory.wf (s.flipBit a i).mem = true := by
  unfold State.flipBit; split
  · exact State.wf_setByte _ _ _ h
  · exact h

/-- A fold of operations that each keep the canonical form keeps it. -/
theorem State.wf_foldl {α : Type} (f : State → α → State) (hf : ∀ s x, Memory.wf s.mem = true → Memory.wf (f s x).mem = true)
    (l : List α) (s : State) (h : Memory.wf s.mem = true) : Memory.wf (l.foldl f s).mem = true := by
  induction l generalizing s with
  | nil => exact h
  | cons x r ih => exact ih _ (hf s x h)

theorem State.latchUe_mem (s : State) (p a : Nat) : (s.latchUe p a).mem = s.mem := by
  unfold State.latchUe; split <;> rfl

theorem State.queueAsync_mem (s : State) (k d r : Nat) : (s.queueAsync k d r).mem = s.mem := by
  unfold State.queueAsync; split <;> rfl

theorem State.wf_eccRead (s : State) (a : Nat) (h : Memory.wf s.mem = true) : Memory.wf (s.eccRead a).mem = true := by
  have hf : ∀ (w : Nat) (l : List Nat), Memory.wf (l.foldl (fun t i => State.flipBit t w i) s).mem = true := fun w l =>
    State.wf_foldl _ (fun t i ht => State.wf_flipBit t w i ht) l s h
  unfold State.eccRead
  dsimp only
  split
  · exact hf _ _
  · exact State.wf_flipBit _ _ _ (hf _ _)
  · rw [State.latchUe_mem]; exact hf _ _
  · rw [State.queueAsync_mem, State.count_mem, State.latchUe_mem]; exact hf _ _

theorem State.wf_memRead (s : State) (a n : Nat) (h : Memory.wf s.mem = true) : Memory.wf (s.memRead a n).mem = true :=
  State.wf_foldl _ (fun t w ht => State.wf_eccRead t w ht) _ s h

theorem State.wf_memWrite (s : State) (a : Nat) (l : List Byte) (h : Memory.wf s.mem = true) :
    Memory.wf (s.memWrite a l).mem = true := by
  apply State.wf_setBytes
  apply State.wf_foldl _ _ _ s h
  intro t w ht
  split
  · exact ht
  · exact State.wf_eccRead t w ht

theorem State.wf_memWritePoison (s : State) (a : Nat) (l : List Byte) (h : Memory.wf s.mem = true) :
    Memory.wf (s.memWritePoison a l).mem = true :=
  State.wf_foldl (fun t w => t.setPoison w true) (fun _ _ ht => ht) _ _ (State.wf_memWrite s a l h)

theorem State.wf_mainReset (s : State) (kind : Nat) (h : Memory.wf s.mem = true) :
    Memory.wf (s.mem.filter (fun e => s.memKept kind e.1)) = true := Table.canon_filter _ _ _ h

/-! ## What bytes read after a write -/

theorem State.byte_setBytes (s : State) (a : Nat) (l : List Byte) (k : Nat) :
    (s.setBytes a l).byte k = if a ≤ k ∧ k < a + l.length then l.getD (k - a) 0 else s.byte k := by
  induction l generalizing s a with
  | nil => simp [State.setBytes]
  | cons b r ih =>
    rw [State.setBytes, ih, State.byte_setByte]
    by_cases h1 : k = a
    · subst h1
      rw [if_neg (by omega), if_pos rfl, if_pos ⟨Nat.le_refl _, by simp⟩]
      simp
    · by_cases h2 : a ≤ k ∧ k < a + (b :: r).length
      · rw [if_pos (by simp at h2; omega), if_pos h2]
        have : k - a = (k - (a + 1)) + 1 := by omega
        rw [this]; simp
      · rw [if_neg (by simp at h2; omega), if_neg h2, if_neg h1]

/-- A byte outside the written range is unchanged. -/
theorem State.byte_setBytes_out (s : State) (a : Nat) (l : List Byte) (k : Nat) (h : k < a ∨ a + l.length ≤ k) :
    (s.setBytes a l).byte k = s.byte k := by rw [State.byte_setBytes, if_neg (by omega)]

end Sys2Proof.Machine
end

