-- ==== Sys2Proof/WellFormed.lean ====
section
/-!
DEFINITION. Sys2Proof/WellFormed.lean: which commands can come from outside: operands that their types do not bound but the spec does.
-/
namespace Sys2Proof

/-- An access lies in BAR0 and is of 1, 2, 4 or 8 bytes (R6, R7). -/
def accessWf (off size : Nat) : Bool := decide (off + size ≤ 0x100000) && [1, 2, 4, 8].contains size

/-- A received packet (R431, R442): at most 256 payload bytes in whole flits, poison flags for flits that exist, a 12-byte tag. -/
def Packet.wf (p : Packet) : Bool :=
  decide (p.payload.length ≤ 256 ∧ p.payload.length % 16 = 0) && p.bad.all (fun i => decide (i < p.payload.length / 16)) &&
  (match p.trailer with | none => true | some t => t.1.length == 12)

/-- A halter request holds at most 255 data bytes, and over SMBus its check is one byte (R468, R471). -/
def HaltRequest.wf (r : HaltRequest) : Bool :=
  decide (r.data.length ≤ 255) && (match r.check with | none => true | some c => r.usb || decide (c.toNat < 256))

/-- A scatter-gather list of addresses, lengths and flags within 64, 32 and 32 bits (Table 11-6). -/
def sglWf (l : List (Nat × Nat × Nat)) : Bool := l.all (fun e => decide (e.1 < 2 ^ 64 ∧ e.2.1 < 2 ^ 32 ∧ e.2.2 < 2 ^ 32))

/-- A well-formed command. -/
def Instr.wf : Instr → Bool
  | .registerWrite _ off size _ => accessWf off size
  | .shadowLowRead _ off size => accessWf off size
  | .readClearAccess _ off size => accessWf off size
  | .unmappedBarAccess _ off _ => decide (off < 0x100000)
  | .patrolScrubRead flips => flips.all (fun i => decide (i < 137))
  | .pdPowerOnComplete dom => decide (1 ≤ dom ∧ dom ≤ 160)
  | .videoStrobe _ _ _ _ tRst tSig _ => decide (tRst ≤ tSig)
  | .commandFetch entry => decide (entry.length = 64)
  | .postBuffer _ _ sgl => sglWf sgl
  | .loadImage _ _ sgl _ => sglWf sgl
  | .healthSample temps rails => decide (temps.length = 4 ∧ rails.length = 12)
  | .usbMgmtRequest _ data _ _ => decide (data.length ≤ 255)
  | .rdReq _ p => p.wf
  | .wrReq _ p => p.wf
  | .rdRsp _ p => p.wf
  | .wrRsp _ p => p.wf
  | .stitch _ p => p.wf
  | .disc _ p => p.wf
  | .topo _ p => p.wf
  | .assign _ p => p.wf
  | .route _ p => p.wf
  | .ready _ p => p.wf
  | .ping _ p => p.wf
  | .pong _ p => p.wf
  | .mbox _ p => p.wf
  | .authHello _ p => p.wf
  | .authProof _ p => p.wf
  | .authFail _ p => p.wf
  | .packetForward _ _ p => p.wf
  | .ident r => r.wf
  | .regRd r => r.wf
  | .regWr r => r.wf
  | .resetCold r => r.wf
  | .resetWarm r => r.wf
  | .resetHold r => r.wf
  | .resetRelease r => r.wf
  | .wakeOff r => r.wf
  | .wakeOn r => r.wf
  | .flRd r => r.wf
  | .flErase r => r.wf
  | .flProg r => r.wf
  | .flStat r _ => r.wf
  | .otpRd r => r.wf
  | .otpProg r _ => r.wf
  | .fkeySet r _ => r.wf
  | .fkeyRevoke r => r.wf
  | .fkeyKcv r => r.wf
  | .mbxSend r => r.wf
  | .mbxRecv r => r.wf
  | .halterRequestReject _ r => r.wf
  | _ => true

end Sys2Proof
end

