-- ==== Sys2Proof/Tests/Slice0.lean ====
section
/-!
SUPPORT. Sys2Proof/Tests/Slice0.lean: ill-formed commands that WellFormed refuses; worked examples of the spec; and, for each statement
with hypotheses, states and operands that meet the hypotheses of each of its clauses together (`witness_…`).
-/
open Sys2Proof Sys2Proof.Machine

namespace Sys2Proof.Tests

-- One theorem at a time: each evaluates states of the whole machine in the kernel.
set_option Elab.async false

/-- A state with register fields set, from the state after reset unless another is given. -/
def setF (l : List (Nat × Fld × Nat)) (s : State := State.reset) : State := l.foldl (fun t e => t.setFld e.1 e.2.1 e.2.2) s

/-- The state after reset. -/
abbrev s0 : State := State.reset

/-- The PLL is locked and the main side runs. -/
def up : State := setF [(R.sysClkStat, F.sysClkStat.PLL_LOCK, 1), (R.hltStat, F.hltStat.MAIN_RUN, 1)]

/-- The same, with SYS.TIME counting. -/
def ticking : State := { up with sys := { timeStarted := true } }

/-- A state whose program 7 stands as given. -/
def lp7 (l : Lp) (s : State := up) : State := { s with tsq := { s.tsq with lps := [(7, l)] } }

/-- A state whose bank 3 stands as given. -/
def bank3 (b : Bank) (s : State := up) : State := { s with vaf := { s.vaf with banks := [(3, b)] } }

/-! ## Witnesses: the queue, registers, events, pins, power and resets -/

theorem witness_StepRunsTheFrontCommand :
    ({ s0 with pending := [.pllLock] } : State).pending = .pllLock :: [] := by decide +kernel

theorem witness_IdleStepIsOneCycle :
    (s0.pending = [] ∧ s0.fld R.sysClkStat F.sysClkStat.PLL_LOCK = 0) ∧
    (ticking.pending = [] ∧ ticking.fld R.sysClkStat F.sysClkStat.PLL_LOCK = 1 ∧ ticking.usual ∧ ticking.pulses = [] ∧
      ticking.sys.etimNew = [] ∧ ticking.sys.timeStarted = true ∧ ticking.fab.rate = 0 ∧ ticking.fab.frac = 0 ∧
      ∀ n, n < 32 → ticking.etimRun n = false) ∧
    (let t := setF [(R.etimStat 31, F.etimStat.RUN, 1), (R.etimCount 31, F.etimCount.COUNT, 2)] ticking
     t.pending = [] ∧ t.fld R.sysClkStat F.sysClkStat.PLL_LOCK = 1 ∧ t.usual ∧ t.pulses = [] ∧ t.sys.etimNew = [] ∧
      t.sys.timeStarted = true ∧ t.fab.rate = 0 ∧ t.fab.frac = 0 ∧ t.etimRun 31 = true ∧
      t.fld (R.etimCtl 31) F.etimCtl.PRESC = 0 ∧ 1 < (t.reg (R.etimCount 31)).toNat ∧
      (∀ m, m < 32 → m ≠ 31 → t.etimRun m = false) ∧ t.sys.etimPresc = []) := by and_intros <;> decide +kernel

theorem witness_RegisterWritesFollowTheirRow :
    (up.usual ∧ up.sys.warmActive = false) ∧
    (0x20000 ≤ 0x20000 ∧ 0x20000 < 0x24000 ∧ 0x20000 % 4 = 0 ∧ (Reg.rowOf 0x20000).isSome = true) ∧
    (0x20000 ≤ 0x23FFC ∧ 0x23FFC < 0x24000 ∧ 0x23FFC % 4 = 0 ∧ Reg.rowOf 0x23FFC = none) ∧
    (0x3BFFF < 0x3C000 ∧ (2 ≠ 4 ∨ 0x3BFFF % 4 ≠ 0)) ∧
    (∀ off ∈ [0x3C000, 0x3FFFF, 0xD4000, 0xDFFFF], (0x3C000 ≤ off ∧ off < 0x40000 ∨ 0xD4000 ≤ off ∧ off < 0xE0000) ∧
      isMirror .bar0 = false) := by and_intros <;> decide +kernel

theorem witness_ReadsLatchAndClear : up.usual ∧ up.sys.warmActive = false := by and_intros <;> decide +kernel

theorem witness_EventsAndTimers :
    (up.usual ∧ up.accessible .bar0 R.evmSwEv = true) ∧
    (let t := setF [(R.evmMonSel 3, ⟨31, 1⟩, 1)]; t.usual ∧ t.selOn (R.evmMonSel 3) = true) ∧
    (up.accessible .bar0 (R.etimCtl 31) = true ∧ up.owner (.timer 31) = 0 ∧ up.etimRun 31 = false ∧
      up.fld (R.etimCtl 31) F.etimCtl.EN = 0 ∧ up.selOn (R.etimStartSel 31) = false ∧ F.etimCtl.MODE.get (1 : Word) ≠ 3) ∧
    (let t := setF [(R.etimCtl 31, F.etimCtl.OWNER, 1)]
     t.usual ∧ t.accessible .smbus (R.etimCtl 31) = true ∧ t.owner (.timer 31) ≠ 0 ∧ t.owner (.timer 31) ≠ claimantOf .smbus) ∧
    (let t := setF [(R.etimCtl 31, F.etimCtl.EN, 1)]
     t.usual ∧ t.fld (R.etimCtl 31) F.etimCtl.EN = 1 ∧ t.etimMode 31 ≠ 3 ∧ t.etimRun 31 = false) ∧
    (let t := setF [(R.etimCtl 31, F.etimCtl.EN, 1), (R.etimStat 31, F.etimStat.RUN, 1), (R.etimStartSel 31, ⟨31, 1⟩, 1),
        (R.etimCancelSel 31, ⟨31, 1⟩, 1)]
     t.usual ∧ t.etimRun 31 = true ∧ t.etimMode 31 ≠ 2 ∧ t.etimMode 31 ≠ 1 ∧ t.selOn (R.etimStartSel 31) = true ∧
       t.selOn (R.etimCancelSel 31) = true ∧ t.fld (R.etimCtl 31) F.etimCtl.EN = 1 ∧ t.etimMode 31 ≠ 3) ∧
    (let t := setF [(R.etimCtl 31, F.etimCtl.MODE, 2), (R.etimStat 31, F.etimStat.RUN, 1), (R.etimCancelSel 31, ⟨31, 1⟩, 1)]
     t.usual ∧ t.etimRun 31 = true ∧ t.selOn (R.etimCancelSel 31) = true ∧ t.etimMode 31 = 2) ∧
    (let t := setF [(R.etimCtl 31, F.etimCtl.MODE, 1), (R.etimStat 31, F.etimStat.RUN, 1)]
     t.usual ∧ t.etimRun 31 = true ∧ t.etimMode 31 = 1) := by and_intros <;> decide +kernel

theorem witness_ScrubRepairsSingleBits :
    (let t := setF [(R.sysPdStat 0, ⟨0, 1⟩, 1)] up
     t.usual ∧ t.fld R.sysScrubCtl F.sysScrubCtl.EN = 1 ∧ t.sys.bitErrs = [] ∧ t.sys.poison = [] ∧
       t.memOk (scrubAddress t.sys.scrubPos) = true) ∧ 0 < 136 ∧ 136 < 137 := by and_intros <;> decide +kernel

theorem witness_PinsAndBoundaryScan :
    (up.usual ∧ up.accessible .bar0 (R.sysGpioCfg 15) = true ∧ up.owner (.pin 15 1) = 0 ∧ (1 : Word).getLsbD 0 = true ∧
      (0 : Word).getLsbD 0 = false) ∧
    (let t := setF [(R.sysGpioCfg 15, F.sysGpioCfg.EN, 1), (R.sysGpioCfg 15, F.sysGpioCfg.FUNC, 1), (R.sysGpioCfg 15, F.sysGpioCfg.MODE, 3)]
     t.usual ∧ t.eventPin 15 = true) ∧
    (s0.drivenLevel 15 = none ∧ (some true : Option Bool) = some true) ∧ 4 < (0x3F : BitVec 6).toNat := by and_intros <;> decide +kernel

theorem witness_PowerDomains :
    (up.usual ∧ up.accessible .smbus (R.sysPdSet 4) = true ∧ up.pdOn (32 * 4 + 3 + 1) = false ∧ 32 * 4 + 3 + 1 ∉ up.sys.pdRising ∧
      up.pdCause .bar0 (32 * 4 + 3 + 1) true = 0) ∧
    (up.accessible .bar0 (R.sysPdSet 0) = true ∧ up.pdOn (32 * 0 + 31 + 1) = false ∧ up.pdCause .bar0 (32 * 0 + 31 + 1) true = 1 ∧
      up.fld R.sysPdErr F.sysPdErr.VALID = 0) ∧
    (let t := setF [(R.sysPdStat 3, ⟨11, 1⟩, 1)] up
     t.usual ∧ t.accessible .bar0 (R.sysPdClr 3) = true ∧ t.pdOn (97 + 11) = true ∧ t.pdCause .bar0 (97 + 11) false = 0 ∧
       97 + 11 ∉ t.sys.pdRising) ∧
    (let t : State := { up with sys := { up.sys with pdRising := [108] } }
     t.usual ∧ 97 + 11 ∈ t.sys.pdRising) ∧
    (let t : State := { up with sys := { up.sys with pdDeferred := [⟨108, true, .bar0⟩] } }
     t.usual ∧ t.sys.pdDeferred = [⟨108, true, .bar0⟩] ∧ 108 ∉ t.sys.pdRising ∧ t.pdOn 108 = !true ∧ t.pdCause .bar0 108 true = 0) := by and_intros <;> decide +kernel

theorem witness_ClockAndLossOfLock :
    (s0.usual ∧ s0.fld R.sysClkStat F.sysClkStat.PLL_LOCK = 0 ∧ s0.sys.resetting = 0 ∧ s0.fld R.sysStrap F.sysStrap.BOOT_SRC ≠ 3) ∧
    (up.usual ∧ up.fld R.sysClkStat F.sysClkStat.PLL_LOCK = 1 ∧ up.sys.resetting = 0) ∧
    (let t : State := { setF [(R.sysClkStat, F.sysClkStat.PLL_LOCK, 1)] with sys := { resetting := 3 } }
     t.usual ∧ t.fld R.sysClkStat F.sysClkStat.PLL_LOCK = 1 ∧ t.sys.resetting = 3 ∧ t.fld R.sysStrap F.sysStrap.BOOT_SRC ≠ 3 ∧
       t.eff = []) := by and_intros <;> decide +kernel

theorem witness_ColdResets :
    s0.sys.resetting ≠ 1 ∧ 10000 ≤ 10000 ∧ 999 < 1000 ∧ s0.usual ∧ s0.sys.railsBad = [] ∧ s0.fld R.hltStat F.hltStat.HOLD = 0 ∧
    s0.hlt.pulse = false ∧ s0.sys.porstLow = false := by and_intros <;> decide +kernel

theorem witness_WarmResets :
    (up.sys.resetting = 0 ∧ up.eff = [] ∧ up.fld R.sysStrap F.sysStrap.BOOT_SRC ≠ 3 ∧ up.accessible .bar0 R.sysRstCtl = true ∧
      isMirror .bar0 = false) ∧
    (let t := setF [(R.sysBootStat, F.sysBootStat.READY, 1), (R.hltStat, F.hltStat.READY, 1)] up
     t.usual ∧ t.sys.resetting = 0 ∧ t.eff = [] ∧ t.fld R.sysStrap F.sysStrap.BOOT_SRC ≠ 3 ∧ t.fld R.sysBootStat F.sysBootStat.READY = 1) ∧
    (up.usual ∧ up.fld R.sysBootStat F.sysBootStat.READY = 0 ∧ up.fld R.sysStrap F.sysStrap.BOOT_SRC = 0) := by and_intros <;> decide +kernel

/-! ## Witnesses: sensor timing -/

theorem witness_LinePrograms :
    (let w : Word := F.lpCfg.EN.put (F.lpCfg.SRC.put 0 6) 1
     up.usual ∧ up.accessible .bar0 (R.lpCfg 7) = true ∧ up.lpIdle 7 = true ∧ up.shutters 7 = [] ∧ 5 < F.lpCfg.SRC.get w ∧
       (up.setReg (R.lpCfg 7) (Row.lpCfg.written (up.reg (R.lpCfg 7)) (F.lpCfg.EN.put w 1))).lpCause 7 = 0) ∧
    (let w : Word := F.lpCfg.EN.put (F.lpCfg.SRC.put 0 5) 1
     let t := setF [(R.lpPitch 7, ⟨0, 32⟩, 0x10000)] up
     t.usual ∧ t.accessible .bar0 (R.lpCfg 7) = true ∧ t.lpIdle 7 = true ∧ t.shutters 7 = [] ∧ F.lpCfg.SRC.get w ≤ 5 ∧
       -(2 ^ 60) < t.next 7 ∧ t.next 7 ≤ t.position (F.lpCfg.SRC.get w) ∧ t.position (F.lpCfg.SRC.get w) < 2 ^ 60 ∧
       (t.setReg (R.lpCfg 7) (Row.lpCfg.written (t.reg (R.lpCfg 7)) (F.lpCfg.EN.put w 1))).lpCause 7 = 0) ∧
    (let t := setF [(R.lpCfg 0, F.lpCfg.EN, 1), (R.lpOuts 0, F.lpOuts.TG, 1), (R.lpOuts 7, F.lpOuts.TG, 1)] up
     t.usual ∧ t.accessible .bar0 (R.lpCfg 7) = true ∧ t.lpIdle 7 = true ∧
       (t.setReg (R.lpCfg 7) (Row.lpCfg.written (t.reg (R.lpCfg 7)) (F.lpCfg.EN.put 0 1))).lpCause 7 ≠ 0) ∧
    (let t := setF [(R.lpCfg 7, F.lpCfg.EN, 1)] up
     t.usual ∧ t.accessible .bar0 (R.lpCfg 7) = true ∧ t.fld (R.lpCfg 7) F.lpCfg.EN = 1 ∧ (t.lp 7).run = .idle ∧
       ∀ g, g < 4 → t.fld (R.grpCtl g) F.grpCtl.EN = 0) := by and_intros <;> decide +kernel

/-- Program 7 is enabled and triggered by event. -/
def armed (l : Lp) : State :=
  setF [(R.lpCfg 7, F.lpCfg.EN, 1), (R.lpCfg 7, F.lpCfg.SRC, 7), (R.lpCfg 7, F.lpCfg.FLUSH_EN, 1), (R.lpTrigSel 7, ⟨31, 1⟩, 1), (R.sysPdStat 4, ⟨2, 1⟩, 1)] (lp7 l)

theorem witness_LinesStartAndEnd :
    (let t := armed {}
     t.usual ∧ (∀ g, g < 4 → t.fld (R.grpCtl g) F.grpCtl.EN = 0) ∧ t.fld (R.lpCfg 7) F.lpCfg.EN = 1 ∧ t.pdOn 131 = true ∧
       t.fld (R.lpCfg 7) F.lpCfg.SRC = 7 ∧ t.selOn (R.lpTrigSel 7) = true ∧ t.fld R.dlfLcCfg F.dlfLcCfg.EN = 0 ∧ (t.lp 7).run = .idle ∧
       t.fld (R.lpCfg 7) F.lpCfg.FLUSH_EN = 1 ∧ t.fld (R.lpStat 7) F.lpStat.FLUSHING = 0) ∧
    (let t := armed { run := .line }
     t.usual ∧ (∀ g, g < 4 → t.fld (R.grpCtl g) F.grpCtl.EN = 0) ∧ t.fld (R.lpCfg 7) F.lpCfg.EN = 1 ∧ t.pdOn 131 = true ∧
       t.fld (R.lpCfg 7) F.lpCfg.SRC = 7 ∧ t.selOn (R.lpTrigSel 7) = true ∧ t.fld R.dlfLcCfg F.dlfLcCfg.EN = 0 ∧ (t.lp 7).run = .line) ∧
    (let t := setF [(R.lpStat 7, F.lpStat.FLUSHING, 1)] (armed {})
     t.usual ∧ (∀ g, g < 4 → t.fld (R.grpCtl g) F.grpCtl.EN = 0) ∧ t.fld (R.lpCfg 7) F.lpCfg.EN = 1 ∧
       t.fld (R.lpCfg 7) F.lpCfg.FLUSH_EN = 1 ∧ (t.lp 7).run = .idle ∧ t.fld (R.lpStat 7) F.lpStat.FLUSHING = 1) ∧
    (let t := setF [(R.lpTmo 7, F.lpTmo.US, 1)] (lp7 { run := .line })
     t.usual ∧ (∀ g, g < 4 → t.fld (R.grpCtl g) F.grpCtl.EN = 0) ∧ (t.lp 7).run = .line ∧ (t.lp 7).ended = false ∧
       (t.lp 7).line < overlapBase ∧ (t.lp 7).pending = none ∧ t.effFld (R.lpTmo 7) F.lpTmo.US ≠ 0) := by and_intros <;> decide +kernel

/-- Program 7 is about to execute the word w at place 1023. -/
def coded (w : Nat) (l : Lp) : State := setF [(R.tsqUcode 1023, ⟨0, 32⟩, w), (R.tsqPxCount 3, F.tsqPxCount.COUNT, 1), (R.lpCfg 7, F.lpCfg.EN, 1)] (lp7 { l with pc := 1023 })

theorem witness_Microcode :
    (∀ op ∈ [0, 1, 4, 5], (coded (op * 2 ^ 28) { run := .line }).usual ∧ (coded (op * 2 ^ 28) { run := .line }).executes 7 op = true) ∧
    (∀ width ∈ [0, 1], let t := setF [(R.lpPhWin 7 5, F.lpPhWin.DELAY, 1), (R.lpPhWin 7 5, F.lpPhWin.WIDTH, width)] (coded (2 * 2 ^ 28 + 5) { run := .line })
     t.usual ∧ t.executes 7 2 = true ∧ (t.lp 7).run = .line ∧ (t.lp 7).line < overlapBase ∧ t.nextWord 7 % 65536 % 8 = 5 ∧
       t.effFld (R.lpPhWin 7 5) F.lpPhWin.DELAY ≠ 0 ∧ t.effFld (R.lpPhWin 7 5) F.lpPhWin.WIDTH = width) ∧
    (let t := coded (3 * 2 ^ 28 + 3) { run := .line }
     t.usual ∧ t.executes 7 3 = true ∧ t.nextWord 7 % 65536 % 4 = 3 ∧ t.fld (R.tsqPxCount 3) F.tsqPxCount.COUNT ≠ 0 ∧
       (t.nextWord 7 % 65536).testBit 2 = false) ∧
    (let t := coded (3 * 2 ^ 28 + 7) { run := .line }
     t.usual ∧ t.executes 7 3 = true ∧ (t.nextWord 7 % 65536).testBit 2 = true ∧ (t.nextWord 7 % 65536).testBit 6 = false ∧
       (t.lp 7).run = .line ∧ t.effFld (R.lpStale 7) F.lpStale.US = 0 ∧ t.fld (R.tsqPxCount 3) F.tsqPxCount.COUNT ≠ 0 ∧
       ∀ n, n < 16 → t.effFld (R.tsqSmp n) F.tsqSmp.SIG_STEP < t.period 3) ∧
    (∀ l ∈ [none, some 1, some 3], let t := coded (4 * 2 ^ 28 + 31 * 1024) { run := .line, loop0 := l }
     t.usual ∧ t.executes 7 4 = true ∧ (t.nextWord 7 % 65536).testBit 15 = false ∧ (t.lp 7).loop0 = l ∧ t.nextWord 7 % 65536 / 1024 % 32 ≠ 0) ∧
    (let t := lp7 { run := .line, waiting := some (255, 10) }; t.usual ∧ (t.lp 7).waiting = some (255, 10) ∧ 10 ≤ 10 ∧ (t.lp 7).run ≠ .idle) ∧
    (let t := coded (6 * 2 ^ 28) { run := .line }
     t.usual ∧ t.executes 7 6 = true ∧ (t.lp 7).run = .line ∧ (t.lp 7).line < overlapBase ∧ (t.lp 7).windowsLeft = false ∧
       t.fld (R.lpCfg 7) F.lpCfg.EN = 1 ∧ (t.lp 7).flushDue = false ∧ ∀ g, g < 4 → t.fld (R.grpCtl g) F.grpCtl.EN = 0) ∧
    (let t := coded (7 * 2 ^ 28) { run := .line }
     t.usual ∧ t.microFault 7 ≠ 0 ∧ (t.lp 7).run = .line ∧ (t.lp 7).ended = false ∧ (t.lp 7).waiting = none ∧ (t.lp 7).line < overlapBase ∧
       (t.lp 7).pending = none ∧ t.fld R.tsqUfAddr F.tsqUfAddr.VALID = 0 ∧ ∀ g, g < 4 → t.fld (R.grpCtl g) F.grpCtl.EN = 0) := by
  and_intros <;> decide +kernel

theorem witness_ExposureWindows :
    (let t := lp7 { phases := [(5, { win := .delayed })] }
     t.usual ∧ (∀ g, g < 4 → t.fld (R.grpCtl g) F.grpCtl.EN = 0) ∧ ((t.lp 7).phase 5).win = .delayed) ∧
    (let t := lp7 { phases := [(5, { win := .opened })] }
     t.usual ∧ (∀ g, g < 4 → t.fld (R.grpCtl g) F.grpCtl.EN = 0) ∧ ((t.lp 7).phase 5).win = .opened ∧ (t.lp 7).ended = false ∧
       ∀ q, q < 8 → ∀ j, j < 6 → (q ≠ 7 ∨ j ≠ 5) → ((t.lp q).phase j).win ≠ .opened) := by and_intros <;> decide +kernel

/-! ## Witnesses: video front end -/

/-- Input 15 is being sampled by program 7 through bank 3. -/
def sampling (bankState : Nat) : State :=
  setF [(R.sysPdStat 3, ⟨19, 1⟩, 1), (R.lpVin 7, F.lpVin.VIN, 0x8000), (R.tsqPxCfg 0, F.tsqPxCfg.VIN, 0x8000), (R.tsqPxCount 0, F.tsqPxCount.COUNT, 1),
      (R.vafSegCfg 63, F.vafSegCfg.EN, 1), (R.vafSegCfg 63, F.vafSegCfg.VIN, 15), (R.vafPmapLo 15, ⟨0, 8⟩, 0x80), (R.vafXbar, ⟨30, 2⟩, 3),
      (R.bankStat 3, F.bankStat.STATE, bankState)]
    (bank3 { order := [0, 1, 2, 3, 4, 5, 6, 7] } (lp7 { run := .line, burst := some { pattern := 0, smp := true, tag := 0, line := 0, sends := true }, bursts := [(120, 1)] }))

theorem witness_VideoConversion :
    (∀ st ∈ [0, 4], let t := sampling st
     t.usual ∧ (∀ q, q < 8 → ((t.fld (R.lpVin q) F.lpVin.VIN).testBit 15 = true ↔ q = 7)) ∧ (t.lp 7).run ≠ .idle ∧
       (t.lp 7).burst = some { pattern := 0, smp := true, tag := 0, line := 0, sends := true } ∧ (t.lp 7).pendRead = false ∧
       t.effFld (R.tsqSmp 15) F.tsqSmp.SIG_STEP < t.period 0 ∧ (t.fld (R.tsqPxCfg 0) F.tsqPxCfg.VIN).testBit 15 = true ∧
       Table.get (fun _ => 0) (t.lp 7).taken 15 < t.fld (R.tsqPxCount 0) F.tsqPxCount.COUNT ∧ t.quadOn 15 = true ∧
       t.fld (R.vafVinCfg 15) F.vafVinCfg.MODE = 0 ∧ t.fld (R.vafVinCfg 15) F.vafVinCfg.INV = 0 ∧
       t.fld (R.vafVinCfg 15) F.vafVinCfg.CLAMP_MODE = 0 ∧ 15 ∉ t.vaf.dacOn ∧ t.bankOf 15 = 3 ∧ t.bankState 3 = st) ∧
    (let t := sampling 4
     (t.bank 3).order[(t.bank 3).next]? = some 0 ∧ Table.get (fun _ => 0) (t.bank 3).busy 0 ≤ 0 ∧ (t.bank 3).swapped = [] ∧
       (t.monitor 15).open_ = false ∧
       t.place 15 0 (Table.get (fun _ => 0) (t.lp 7).bursts (8 * 15 + 0) - 1) (Table.get (fun _ => 0) (t.lp 7).taken 15) = .at 0 0 378) ∧
    (let t := setF [(R.vafPmapLo 15, ⟨0, 32⟩, 0)] (sampling 0)
     t.usual ∧ t.bankState 3 = 0 ∧ t.reg (R.vafPmapLo 15) = 0 ∧ t.reg (R.vafPmapHi 15) = 0) ∧
    (let t := setF [(R.lpCfg 7, F.lpCfg.EN, 1)] (sampling 4)
     t.usual ∧ t.accessible .bar0 R.vafXbar = true ∧ (∀ m, m < 16 → t.inputHeld m = true → (0xC0000000 : Word).toNat / 4 ^ m % 4 = t.bankOf m) ∧
       t.inputHeld 15 = true ∧ (0 : Word).toNat / 4 ^ 15 % 4 ≠ t.bankOf 15) ∧
    (let t : State := setF [(R.vafVfm, F.vafVfm.EN, 0x8000)] { up with vaf := { monitors := [(15, { open_ := true, run := 3, count := 1, min := 4095, max := 4095 })] } }
     t.usual ∧ (t.monitor 15).open_ = true ∧ (t.fld R.vafVfm F.vafVfm.EN).testBit 15 = true ∧ (t.monitor 15).run = 3 ∧
       (t.monitor 15).max - (t.monitor 15).min ≤ t.fld R.vafVfm F.vafVfm.SPAN ∧ (t.monitor 15).max < 4096 ∧ (t.monitor 15).min < 4096 ∧
       16 * (t.monitor 15).rails < 15 * (t.monitor 15).count ∧ ∀ g, g < 4 → t.fld (R.grpCtl g) F.grpCtl.EN = 0) := by
  and_intros <;> decide +kernel

theorem witness_BankCalibration :
    (let t := setF [(R.bankStat 3, F.bankStat.STATE, 1)] up
     t.usual ∧ t.accessible .bar0 R.vafFgcal = true ∧ t.fld R.vafFgcal F.vafFgcal.BUSY = 0 ∧ F.vafFgcal.BANKS.get (0x81 : Word) = 2 ^ 3 ∧
       t.bankState 3 ≠ 0 ∧ t.bankIdle 3 = true ∧ (∀ n, n < 16 → t.inputHeld n = false) ∧ t.accessible .bar0 (R.bankCal 3) = true ∧
       t.bankState 3 = 1 ∧ F.bankCal.VALID.get (F.bankCal.VALID.put 0 1) = 1 ∧ t.accessible .bar0 R.vafCtl = true) ∧
    (let t := setF [(R.vafFgcal, F.vafFgcal.BUSY, 1), (R.vafFgcal, F.vafFgcal.BANKS, 8), (R.bankStat 3, F.bankStat.STATE, 2)] up
     t.usual ∧ t.accessible .bar0 R.vafFgcal = true ∧ t.fld R.vafFgcal F.vafFgcal.BUSY = 1 ∧ t.fld R.vafFgcal F.vafFgcal.BANKS = 2 ^ 3 ∧
       t.bankState 3 = 2 ∧ t.hqe.calibs = [] ∧
       ∀ i, i < 9 → -512 ≤ (List.replicate 36 (511 : Int)).getD (9 * 3 + i) 0 ∧ (List.replicate 36 (511 : Int)).getD (9 * 3 + i) 0 < 512 ∧
         -32768 ≤ (List.replicate 36 (32767 : Int)).getD (9 * 3 + i) 0 ∧ (List.replicate 36 (32767 : Int)).getD (9 * 3 + i) 0 < 32768 ∧
         -128 ≤ (List.replicate 36 (127 : Int)).getD (9 * 3 + i) 0 ∧ (List.replicate 36 (127 : Int)).getD (9 * 3 + i) 0 < 128) ∧
    (let t := setF [(R.bankStat 3, F.bankStat.STATE, 4), (R.bankStat 3, F.bankStat.READY, 0), (R.bankStat 3, F.bankStat.CAL_SLICE, 8)] (bank3 { order := [0, 1, 2, 3, 4, 5, 6, 7] })
     t.usual ∧ t.bankState 3 = 4 ∧ t.fld (R.bankStat 3) F.bankStat.READY = 0 ∧ t.fld (R.bankStat 3) F.bankStat.CAL_SLICE ≤ 8) ∧
    (let t := setF [(R.bankStat 3, F.bankStat.STATE, 4), (R.bankStat 3, F.bankStat.READY, 1), (R.bankStat 3, F.bankStat.CAL_SLICE, 8)]
       (bank3 { order := [0, 1, 2, 3, 4, 5, 6, 7], passed := true })
     t.usual ∧ t.handoverOk 3 = true ∧ t.fld (R.bankStat 3) F.bankStat.CAL_SLICE ≤ 8 ∧ (t.bank 3).markExit = false ∧ t.bankBusy 3 = false ∧
       (t.bank 3).newCorr.1 < 1024 ∧ (t.bank 3).newCorr.2.1 < 65536 ∧ (t.bank 3).newCorr.2.2 < 256 ∧ t.fld (R.bankStat 3) F.bankStat.READY = 1 ∧
       (t.bank 3).passed = true) ∧
    (let t := setF [(R.bankStat 3, F.bankStat.READY, 1), (R.lpCfg 7, F.lpCfg.EN, 1)] (sampling 4)
     t.usual ∧ t.fld (R.bankStat 3) F.bankStat.READY = 1 ∧ (t.bank 3).passed = false ∧ (t.bank 3).pairs.length < 64 ∧ t.bankPrograms 3 ≠ []) := by
  and_intros <;> decide +kernel

/-! ## Witnesses: shading, reference strip and calibration record -/

/-- Partition 15 has a size. -/
def parted : State := setF [(R.sysAbpCfg 15, F.sysAbpCfg.SIZE, 1)] up

/-- Group 3 runs on partition 15 with program 7, with fields set. -/
def grouped (l : List (Nat × Fld × Nat)) (s : State := parted) : State :=
  setF ([(R.grpCtl 3, F.grpCtl.EN, 1), (R.grpCtl 3, F.grpCtl.ABP, 15), (R.grpCtl 3, F.grpCtl.LP, 7), (R.grpStat 3, F.grpStat.STATE, 1),
    (R.sysAbpCfg 15, F.sysAbpCfg.OWNER, 0x12)] ++ l) s

theorem witness_GroupControl :
    (let w : Word := F.grpCtl.ABP.put (F.grpCtl.LP.put 0 7) 15
     parted.usual ∧ parted.accessible .bar0 (R.grpCtl 3) = true ∧ w.getLsbD 14 = false ∧ parted.fld (R.grpCtl 3) F.grpCtl.EN = 0 ∧
       F.grpCtl.ABP.get w = 15 ∧ parted.owner (.partition 15) = 0 ∧ parted.partInvalid 15 = false ∧ parted.partClash 15 = none ∧
       ((parted.setReg (R.grpCtl 3) (Row.grpCtl.written (parted.reg (R.grpCtl 3)) (F.grpCtl.EN.put w 1))).setOwner (.partition 15) 0x12).grpCause 3 false = 0) ∧
    (let w : Word := F.grpCtl.ABP.put (F.grpCtl.LP.put 0 7) 15
     let s := setF [(R.plCfg 47, F.plCfg.EN, 1), (R.plCfg 47, F.plCfg.GRP, 3), (R.plCfg 47, F.plCfg.WIDTH, 65535)] parted
     s.usual ∧ s.accessible .bar0 (R.grpCtl 3) = true ∧ s.fld (R.grpCtl 3) F.grpCtl.EN = 0 ∧ s.owner (.partition 15) = 0 ∧
       s.partInvalid 15 = false ∧ s.partClash 15 = none ∧
       ((s.setReg (R.grpCtl 3) (Row.grpCtl.written (s.reg (R.grpCtl 3)) (F.grpCtl.EN.put w 1))).setOwner (.partition 15) 0x12).grpCause 3 false ≠ 0) ∧
    (let s := setF [(R.sysAbpCfg 15, F.sysAbpCfg.OWNER, 1)] parted
     s.usual ∧ s.fld (R.grpCtl 3) F.grpCtl.EN = 0 ∧ s.owner (.partition 15) ≠ 0 ∧ s.owner (.partition 15) ≠ 0x12) ∧
    (let s := grouped []
     s.usual ∧ s.accessible .bar0 (R.grpCtl 3) = true ∧ s.fld (R.grpCtl 3) F.grpCtl.EN = 1 ∧ s.grpState 3 ≠ 5 ∧
       s.owner (.partition (s.fld (R.grpCtl 3) F.grpCtl.ABP)) = 0x12 ∧ (0x1EF &&& 0x1FE : Word) = s.reg (R.grpCtl 3) &&& 0x1FE ∧
       F.grpCtl.EN.get (0x1EF : Word) = s.fld (R.grpCtl 3) F.grpCtl.EN ∧ (0x1EF : Word).getLsbD 14 = false) := by and_intros <;> decide +kernel

theorem witness_PlanesTemperatureAndStore :
    (up.usual ∧ up.accessible .bar0 (R.plCfg 47) = true ∧ (∀ g, g < 4 → up.fld (R.grpCtl g) F.grpCtl.EN = 0) ∧
      up.fld (R.grpTsrc 3) F.grpTsrc.HOST = 0 ∧ up.accessible .bar0 (0xE0000 + (0x1FFFF : BitVec 17).toNat / 4 * 4) = true ∧ up.pdOn 130 = false) ∧
    (let s := grouped [(R.plCfg 47, F.plCfg.GRP, 3), (R.grpStripSel 3, ⟨31, 1⟩, 1)]
     s.usual ∧ s.fld (R.plCfg 47) F.plCfg.GRP = 3 ∧ F.plCfg.GRP.get (6 : Word) = 3 ∧ s.fld (R.grpCtl 3) F.grpCtl.EN = 1 ∧ s.grpState 3 = 1 ∧
       s.lpIdle (s.fld (R.grpCtl 3) F.grpCtl.LP) = true ∧ F.plCfg.WIDTH.get (6 : Word) = 0 ∧ s.selOn (R.grpStripSel 3) = true ∧
       (s.setReg (R.plCfg 47) (Row.plCfg.written (s.reg (R.plCfg 47)) (F.plCfg.EN.put 6 1))).grpNeed 3 ≤ s.partBytes (s.fld (R.grpCtl 3) F.grpCtl.ABP)) ∧
    (let s := setF [(R.grpTsrc 3, F.grpTsrc.HOST, 1)] up; s.usual ∧ s.fld (R.grpTsrc 3) F.grpTsrc.HOST = 1) ∧
    (let s := setF [(R.sysPdStat 4, ⟨1, 1⟩, 1)] up
     s.usual ∧ s.pdOn 130 = true ∧ s.coefInUse (s.fld R.shdCwin F.shdCwin.PAGE * 0x20000 + 0x1FFFC) = false ∧ s.sys.bitErrs = [] ∧ s.sys.poison = []) ∧
    (let s := setF [(R.sysPdStat 4, ⟨1, 1⟩, 1), (R.plCfg 47, F.plCfg.EN, 1), (R.plCfg 47, F.plCfg.WIDTH, 1), (R.grpSetv 0, F.grpSetv.VA, 1)] up
     s.usual ∧ s.pdOn 130 = true ∧ s.coefInUse 0 = true) := by and_intros <;> decide +kernel

/-- A sample of plane 47 waits. -/
def sample47 : Sample := { lp := 7, line := 5, plane := 47, x := 1, raw := 4095, entry := 383 }
def shading (width tg : Nat) : State :=
  grouped [(R.plCfg 47, F.plCfg.EN, 1), (R.plCfg 47, F.plCfg.GRP, 3), (R.plCfg 47, F.plCfg.SHADE, 1), (R.plCfg 47, F.plCfg.WIDTH, width),
      (R.grpSetv 3, F.grpSetv.VA, 1), (R.shdTrim1 383, F.shdTrim1.TGAIN, tg)]
    { parted with vaf := { fifo := [sample47] }, shd := { groups := [(3, { lines := [{ y := 5, temp := 0 }] })] } }

theorem witness_SamplesAreShaded :
    (∀ tg ∈ [0, 1], let s := shading 2 tg
     s.usual ∧ s.vaf.fifo = [sample47] ∧ s.fld (R.plCfg 47) F.plCfg.EN = 1 ∧ s.fld (R.plCfg 47) F.plCfg.GRP = 3 ∧
       s.fld (R.grpCtl 3) F.grpCtl.EN = 1 ∧ s.fld (R.grpCtl 3) F.grpCtl.LP = 7 ∧ 1 < s.fld (R.plCfg 47) F.plCfg.WIDTH ∧
       (s.group 3).line 5 = some { y := 5, temp := 0 } ∧ s.grpState 3 ≠ 5 ∧ s.effFld (R.plCfg 47) F.plCfg.SHADE = 1 ∧
       s.fld (R.grpSetv 3) F.grpSetv.VA = 1 ∧ s.sys.bitErrs = [] ∧ s.sys.poison = [] ∧ s.effFld (R.shdTrim1 383) F.shdTrim1.TGAIN = tg) ∧
    (let s := shading 1 0; s.usual ∧ s.vaf.fifo = [sample47] ∧ s.fld (R.plCfg 47) F.plCfg.WIDTH ≤ 1) := by and_intros <;> decide +kernel

/-- A full capture of plane 47 that passes: black before line 30, white after it. -/
def goodCapture : Capture :=
  { full := true, rawWhite := [(pixKey 47 0, 16000)], fidSum := (List.range 18).map (fun i => (pixKey 47 (30 + i), 1000)),
    rawLineSum := (List.range 16).map (fun i => (pixKey 47 (32 + i), 1000)) }

/-- Group 3 evaluates or copies a capture of plane 47. -/
def capturing (st rejects : Nat) (c : Capture := { full := true }) : State :=
  grouped [(R.grpCtl 3, F.grpCtl.ALIGN_AUTO, 0), (R.grpFidx 3, ⟨0, 32⟩, 0), (R.grpStat 3, F.grpStat.STATE, st), (R.plCfg 47, F.plCfg.EN, 1), (R.plCfg 47, F.plCfg.GRP, 3), (R.plCfg 47, F.plCfg.WIDTH, 1), (R.shdRecCtl, F.shdRecCtl.AUTO, 0)]
    { parted with shd := { groups := [(3, { capture := some c, rejects := rejects })] } }

theorem witness_StripCaptures :
    (∀ st ∈ [(0, 0, 0), (1, 0, 0), (1, 1, 0), (1, 1, 1)],
     let s := grouped [(R.grpStat 3, F.grpStat.STATE, st.1), (R.grpCtl 3, F.grpCtl.STRIP_EN, st.2.1), (R.grpStat 3, F.grpStat.FULL_PEND, st.2.2), (R.grpStripSel 3, ⟨31, 1⟩, 1)]
     s.usual ∧ s.hqe.calibs = [] ∧ s.selOn (R.grpStripSel 3) = true ∧ s.fld (R.seamCfg 3) F.seamCfg.EN = 0 ∧ s.grpState 3 = st.1 ∧
       s.fld (R.grpCtl 3) F.grpCtl.STRIP_EN = st.2.1 ∧ s.fld (R.grpStat 3) F.grpStat.FULL_PEND = st.2.2) ∧
    (let s := capturing 4 0 goodCapture
     s.usual ∧ s.hqe.calibs = [] ∧ (s.group 3).capture = some goodCapture ∧ s.grpState 3 = 4 ∧ s.fullReason 3 goodCapture = 0) ∧
    (let s := capturing 4 2
     s.usual ∧ (s.group 3).capture = some { full := true } ∧ s.grpState 3 = 4 ∧ s.fullReason 3 { full := true } ≠ 0 ∧ 2 ≤ (s.group 3).rejects) ∧
    (let s := capturing 5 0
     s.usual ∧ (s.group 3).capture = some { full := true } ∧ s.grpState 3 = 5 ∧ s.groupPlanes 3 = [47] ∧ s.fld R.shdRecCtl F.shdRecCtl.AUTO = 0 ∧
       s.fld (R.grpCtl 3) F.grpCtl.ALIGN_AUTO = 0 ∧ (s.group 3).offAfterCopy = false ∧ s.sys.bitErrs = [] ∧ s.sys.poison = []) := by
  and_intros <;> decide +kernel

/-- A save of 60 header bytes and a body byte is on its way to slot B. -/
def saving : State := { up with shd := { saveSlot := some 1, saveBody := List.replicate 61 0 } }

theorem witness_CalibrationRecordIsSaved :
    (up.usual ∧ up.accessible .bar0 R.shdRecCtl = true) ∧
    (let s := setF [(R.shdRecStat, F.shdRecStat.BUSY, 1)] up
     s.usual ∧ s.fld R.shdRecStat F.shdRecStat.BUSY = 1 ∧ s.shd.saveSlot = none ∧ s.fld R.hltFlStat F.hltFlStat.BUSY = 0 ∧
       (∀ g, g < 4 → s.grpState g ≠ 4 ∧ s.grpState g ≠ 5) ∧ 4096 + s.calBody.length ≤ 0x400000 ∧ s.calRecord 1 = none) ∧
    (saving.usual ∧ saving.shd.saveSlot = some 1 ∧ saving.hqe.calibs = [] ∧ 1 < 2 ∧ 60 ≤ saving.shd.saveBody.length ∧
      saving.shd.saveBody.length ≤ 0x3FF000) := by and_intros <;> decide +kernel

theorem witness_CalibrationRecordIsSaved_erased : ∀ a, calSlot 1 ≤ a → a < calSlot 1 + 0x400000 → saving.flashByte a = 0xFF := fun _ _ _ => rfl

/-! ## Witnesses: document geometry -/

/-- Unit 3 in track 3, and track 3, use partition 15 and are enabled as given. -/
def geoUp (l : List (Nat × Fld × Nat)) (g : Geo := {}) : State :=
  setF ([(R.uCfg 3, F.uCfg.TRK, 3), (R.uCfg 3, F.uCfg.ABP, 15), (R.trkCfg 3, F.trkCfg.ABP, 15)] ++ l) { parted with geo := g }

theorem witness_UnitAndTrackControl :
    (let w : Word := F.uCfg.ABP.put (F.uCfg.PLANE.put 0 47) 15
     let s := setF [(R.plCfg 47, F.plCfg.EN, 1), (R.trkCfg 0, F.trkCfg.UNITS, 8), (R.uNcol 3, F.uNcol.PTS_LINES, 1), (R.uNcol 3, F.uNcol.NCOL, 1)] parted
     s.usual ∧ s.accessible .bar0 (R.uCfg 3) = true ∧ s.fld (R.uCfg 3) F.uCfg.EN = 0 ∧ s.fld (R.uStat 3) F.uStat.WIN = 0 ∧ F.uCfg.ABP.get w = 15 ∧
       s.owner (.partition 15) = 0 ∧ s.partInvalid 15 = false ∧ s.partClash 15 = none ∧
       ((s.setReg (R.uCfg 3) (Row.uCfg.written (s.reg (R.uCfg 3)) (F.uCfg.EN.put w 1))).setOwner (.partition 15) 0x13).unitCause 3 false = 0) ∧
    (let w : Word := F.uCfg.ABP.put 0 15
     parted.usual ∧ parted.fld (R.uCfg 3) F.uCfg.EN = 0 ∧ parted.fld (R.uStat 3) F.uStat.WIN = 0 ∧ parted.owner (.partition 15) = 0 ∧
       parted.partInvalid 15 = false ∧ parted.partClash 15 = none ∧
       ((parted.setReg (R.uCfg 3) (Row.uCfg.written (parted.reg (R.uCfg 3)) (F.uCfg.EN.put w 1))).setOwner (.partition 15) 0x13).unitCause 3 false ≠ 0) ∧
    (let s := geoUp [(R.uCfg 3, F.uCfg.EN, 1), (R.sysAbpCfg 15, F.sysAbpCfg.OWNER, 0x13)]
     s.usual ∧ s.accessible .bar0 (R.uCfg 3) = true ∧ (s.reg (R.uCfg 3)) &&& 0x7FFE = s.reg (R.uCfg 3) &&& 0x7FFE ∧ s.fld (R.uCfg 3) F.uCfg.EN = 1 ∧
       s.owner (.partition (s.fld (R.uCfg 3) F.uCfg.ABP)) = 0x13 ∧ s.openWindow 3 = none) ∧
    (let s := geoUp [(R.uCfg 3, F.uCfg.EN, 1), (R.sysAbpCfg 15, F.sysAbpCfg.OWNER, 0x13)]
       { windows := [(7, some {})], records := [(7, { busy := true, units := [3], open_ := [3] })] }
     s.usual ∧ s.fld (R.uCfg 3) F.uCfg.EN = 1 ∧ s.owner (.partition (s.fld (R.uCfg 3) F.uCfg.ABP)) = 0x13 ∧ s.openWindow 3 = some (7, {}) ∧
       s.fld (R.uCfg 3) F.uCfg.TRK * 2 + 7 % 2 = 7 ∧ (s.record 7).busy = true ∧ (s.record 7).complete = false ∧ ∀ j ∈ s.hqe.jobs, j.trk ≠ 7 / 2) ∧
    (∀ units ∈ [0, 15], let w : Word := F.trkCfg.ABP.put (F.trkCfg.UNITS.put 0 units) 15
     parted.accessible .bar0 (R.trkCfg 3) = true ∧ parted.fld (R.trkCfg 3) F.trkCfg.EN = 0 ∧ parted.trkBusy 3 = false ∧ F.trkCfg.ABP.get w = 15 ∧
       (((parted.setReg (R.trkCfg 3) (Row.trkCfg.written (parted.reg (R.trkCfg 3)) (F.trkCfg.EN.put w 1))).setOwner (.partition 15) 0x13).trkCause 3 false = 0 ↔ units = 15)) ∧
    (let s := geoUp [(R.trkCfg 3, F.trkCfg.EN, 1), (R.sysAbpCfg 15, F.sysAbpCfg.OWNER, 0x13)]
     s.usual ∧ s.accessible .bar0 (R.trkCfg 3) = true ∧ s.fld (R.trkCfg 3) F.trkCfg.EN = 1 ∧ s.owner (.partition (s.fld (R.trkCfg 3) F.trkCfg.ABP)) = 0x13 ∧
       (s.record 6).busy = false ∧ (s.record 7).busy = false) := by and_intros <;> decide +kernel

theorem witness_WindowsOpenAndClose :
    (parted.usual ∧ parted.selOn (R.uOpenSel 3) = false) ∧
    (let s := geoUp [(R.uOpenSel 3, ⟨31, 1⟩, 1), (R.uCfg 3, F.uCfg.EN, 1)]
     s.usual ∧ s.selOn (R.uOpenSel 3) = true ∧ s.fld (R.uCfg 3) F.uCfg.EN = 1 ∧ s.openWindow 3 = none ∧ s.fld (R.uCfg 3) F.uCfg.TRK = 3 ∧
       (s.record 6).busy = false ∧ (s.record 7).busy = false ∧ (s.record 6).seq ≤ (s.record 7).seq) ∧
    (let s := geoUp [(R.uOpenSel 3, ⟨31, 1⟩, 1), (R.uCfg 3, F.uCfg.EN, 1)] { windows := [(7, some {})] }
     s.usual ∧ s.selOn (R.uOpenSel 3) = true ∧ s.fld (R.uCfg 3) F.uCfg.EN = 1 ∧ (s.openWindow 3).isSome = true) ∧
    (let s := geoUp [(R.uOpenSel 3, ⟨31, 1⟩, 1), (R.uCfg 3, F.uCfg.EN, 1)]
       { records := [(6, { busy := true, complete := true }), (7, { busy := true, complete := true })] }
     s.usual ∧ s.openWindow 3 = none ∧ ∀ i, i < 2 → (s.record (3 * 2 + i)).busy = true ∧ (s.record (3 * 2 + i)).complete = true) ∧
    (let s := geoUp [(R.uCloseSel 3, ⟨31, 1⟩, 1), (R.trkCfg 3, F.trkCfg.UNITS, 8)] { windows := [(7, some { lead := some 0 })] }
     s.usual ∧ s.openWindow 3 = some (7, { lead := some 0 }) ∧ s.outOf (s.fld (R.uCfg 3) F.uCfg.PLANE) = [] ∧ s.selOn (R.uCloseSel 3) = true ∧
       s.accessible .bar0 (R.trkClose 3) = true ∧ (1 : Word).getLsbD 0 = true ∧ s.fld (R.trkCfg 3) F.trkCfg.UNITS = 2 ^ 3 ∧
       s.fld (R.uCfg 3) F.uCfg.TRK = (3 : Fin 4)) := by and_intros <;> decide +kernel

/-- Unit 3 evaluates line 0 of its window. -/
def evaluating (win : Window) (vals : List Nat) (leadN : Nat) : State :=
  { geoUp [(R.uRun 3, F.uRun.LEAD_N, leadN), (R.uRun 3, F.uRun.TRAIL_N, 1), (R.uRun 3, F.uRun.MINRUN, 1), (R.uMinpix 3, F.uMinpix.MINPIX, 1), (R.uThr 3, F.uThr.LO, 0), (R.uThr 3, F.uThr.HI, 100)]
      { windows := [(7, some win)] } with outLines := [(0, [{ y := 0, vals := vals }])] }

theorem witness_WindowLines :
    (∀ x ∈ ([(({ origin := some 0 } : Window), [200, 200], 2), ({ origin := some 0, early := true, leadRun := 1 }, [200, 200], 2),
        ({ origin := some 0, early := true }, [0, 0], 2), ({ origin := some 0, lead := some 0 }, [0, 0], 2)] : List (Window × List Nat × Nat)),
     let s := evaluating x.1 x.2.1 x.2.2
     s.usual ∧ s.openWindow 3 = some (7, x.1) ∧ x.1.origin = some 0 ∧
       (s.outOf (s.fld (R.uCfg 3) F.uCfg.PLANE)).find? (fun l => l.y == 0 + x.1.y) = some { y := 0, vals := x.2.1 } ∧
       s.heldLine (s.fld (R.uCfg 3) F.uCfg.TRK * 2 + 7 % 2) 3 x.1.y = false ∧ x.1.y < 2 ^ 24 ∧ x.1.trail = none ∧
       s.effFld (R.uWin 3) F.uWin.MAX_LINES ≠ x.1.y + 1 ∧ 0 < x.1.y + s.effFld (R.uWin 3) F.uWin.MAX_LINES ∧
       (s.docLine 3 x.2.1).isSome = (x.2.1 == [200, 200]) ∧ s.effFld (R.uRun 3) F.uRun.LEAD_N = 2 ∧ s.effFld (R.uRun 3) F.uRun.TRAIL_N = 1 ∧
       x.1.trailRun = 0) := by decide +kernel

theorem witness_DocumentRecords :
    (let s := geoUp [] { windows := [(7, some { closed := true })], records := [(7, { busy := true, open_ := [3] })] }
     s.usual ∧ (∀ j ∈ s.hqe.jobs, j.trk ≠ 3) ∧ (s.record 7).busy = true ∧ (s.record 7).complete = false ∧ s.fld (R.uCfg 3) F.uCfg.TRK = 3 ∧
       s.window (3 * 2 + 1) = some { closed := true } ∧ s.window (3 * 2 + (1 - 1)) = none ∧ (s.record 7).open_.contains 3 = true ∧
       (s.record 7).open_ = [3] ∧ (s.record 7).holds = []) ∧
    (let s := geoUp [] { windows := [(7, some { closed := true })], records := [(7, { busy := true, open_ := [2, 3] })] }
     s.usual ∧ (s.record 7).busy = true ∧ (s.record 7).complete = false ∧ s.window (3 * 2 + 1) = some { closed := true } ∧
       s.window (3 * 2 + (1 - 1)) = none ∧ (s.record 7).open_.contains 3 = true ∧ ∃ v ∈ (s.record 7).open_, v ≠ 3) ∧
    (let s := geoUp [] { records := [(7, { busy := true, holds := [4096] })] }
     s.usual ∧ (s.record 7).busy = true ∧ (s.record 7).complete = false ∧ (∀ u, u < 4 → s.window (u * 2 + 1) = none) ∧
       (s.record (3 * 2 + (1 - 1))).busy = false ∧ (s.record 7).open_ = [] ∧ (s.stream (s.fld (R.trkSc 3) F.trkSc.SC)).opened = false) := by
  and_intros <;> decide +kernel

/-! ## Witnesses: transport -/

/-- Path 3 is enabled in a state of Table 7-1, with fields set. -/
def path3 (st : Nat) (p : PathSt) (l : List (Nat × Fld × Nat)) (g : Gait := {}) : State :=
  setF ([(R.pathCfg 3, F.pathCfg.EN, 1), (R.pathStat 3, F.pathStat.STATE, st), (R.sysPdStat 4, ⟨2, 1⟩, 1)] ++ l)
    { up with gait := { g with paths := [(3, p)] } }

theorem witness_AxesStepAndRamp :
    (up.usual ∧ up.accessible .bar0 (R.axisCtl 3) = true ∧ up.axisIdle 3 = true ∧ up.axisSpeed 3 = 0 ∧ up.fld (R.axisCtl 3) F.axisCtl.FAULT_EN = 0) ∧
    (let s := path3 2 { speed := 1 } [(R.pathCfg 3, F.pathCfg.AXES, 8), (R.pathCfg 3, F.pathCfg.PSRC, 5), (R.axisCtl 3, F.axisCtl.RUN, 1)] { configured := 8 }
     s.usual ∧ s.axisSpeed 3 ≠ 0 ∧ s.axisDriven 3 = true ∧ s.pdOn 131 = true ∧
       ∀ k, k < 4 → s.fld (R.pathCfg k) F.pathCfg.PSRC = 2 + 3 → (s.pathSt k).slipDue = false) ∧
    (∀ p ∈ ([{ target := 1 }, { speed := 1 }, { speed := 1, hard := true }] : List PathSt), let s := path3 2 p []
     s.usual ∧ s.pathState 3 ≠ 0 ∧ s.pdOn 131 = true ∧ s.fld (R.pathFeed 3) F.pathFeed.MODE ≠ 2 ∧ s.pathSt 3 = p) ∧
    (let s := setF [(R.axisCtl 3, F.axisCtl.FAULT_EN, 1)] up; s.usual ∧ s.fld (R.axisCtl 3) F.axisCtl.FAULT_EN = 1 ∧ s.axisPaths 3 = []) ∧
    (let s := path3 2 {} [(R.pathCfg 3, F.pathCfg.AXES, 8), (R.axisCtl 3, F.axisCtl.FAULT_EN, 1)]
     s.usual ∧ s.fld (R.axisCtl 3) F.axisCtl.FAULT_EN = 1 ∧ s.axisPaths 3 = [3] ∧ PlainPath s 3) := by and_intros <;> decide +kernel

theorem witness_EncodersTrackPosition :
    (up.usual ∧ up.accessible .bar0 (R.encCfg 1) = true ∧ up.encIdle 1 = true ∧ up.fld (R.encCfg 1) F.encCfg.EN = 0) ∧
    (let s := setF [(R.encCfg 1, F.encCfg.EN, 1), (R.encCfg 1, F.encCfg.Z_EN, 1), (R.sysPdStat 4, ⟨2, 1⟩, 1)] up
     s.usual ∧ s.fld (R.encCfg 1) F.encCfg.EN = 1 ∧ s.fld (R.encCfg 1) F.encCfg.Z_EN = 1 ∧ s.pdOn 131 = true ∧
       (∀ k, k < 4 → s.fld (R.pathCfg k) F.pathCfg.PSRC = 1 → (s.pathSt k).slipDue = false) ∧ ((s.enc 1).a, (s.enc 1).b) = (false, false) ∧
       ∀ k, k < 4 → s.pathOn k = true → s.fld (R.pathCfg k) F.pathCfg.PSRC = 1 → (s.pathSt k).speed = 0) ∧
    (let s := path3 2 { speed := 1 } [(R.pathCfg 3, F.pathCfg.PSRC, 1), (R.pathGuard 3, F.pathGuard.STALL_US, 1)]
     s.usual ∧ s.pathOn 3 = true ∧ s.fld (R.pathCfg 3) F.pathCfg.PSRC = 1 ∧ (s.pathSt 3).speed ≠ 0 ∧
       s.fld (R.pathGuard 3) F.pathGuard.STALL_US ≠ 0 ∧ (∀ j, j < 4 → j ≠ 3 → s.pathOn j = false) ∧ PlainPath s 3) := by and_intros <;> decide +kernel

theorem witness_SensorsAndJamLimits :
    (up.usual ∧ up.gait.psLevel < 2 ^ 16 ∧ up.gait.psLevel.testBit 15 = false ∧ up.gait.psLevel.testBit 15 ≠ true ∧ ∀ k, k < 4 → up.pathOn k = false) ∧
    (let s := path3 2 {} [(R.pathChkA 3 0, F.pathChkA.EN, 1), (R.pathChkA 3 1, F.pathChkA.EN, 1), (R.pathChkA 3 0, F.pathChkA.PS, 15), (R.gaitPsPol, ⟨0, 16⟩, 0)]
     s.usual ∧ s.gait.psLevel.testBit 15 ≠ true ∧ s.pathOn 3 = true ∧ (∀ j, j < 4 → j ≠ 3 → s.pathOn j = false) ∧ s.checkpoints 3 = [0, 1] ∧
       s.fld (R.pathChkA 3 0) F.pathChkA.PS = 15 ∧ s.fld (R.pathChkA 3 1) F.pathChkA.PS ≠ 15 ∧
       (true != (s.fld R.gaitPsPol F.gaitPsPol.INV).testBit 15) = true) ∧
    (∀ p0 ∈ [(-131072 : Int), -65536],
     let s := path3 2 { waiting := [(7, [p0])], coveredAt := [(7, some p0)] } [(R.pathChkA 3 7, F.pathChkA.EN, 1), (R.pathChkA 3 7, F.pathChkA.ARR, 1), (R.pathChkB 3 7, F.pathChkB.LEN, 1)]
     s.usual ∧ s.pathOn 3 = true ∧ s.fld (R.pathChkA 3 7) F.pathChkA.EN = 1 ∧ (s.pathSt 3).slipDue = false ∧ PlainPath s 3 ∧
       (s.pathSt 3).waits 7 = [p0] ∧ s.fld (R.pathChkA 3 7) F.pathChkA.ARR ≠ 0 ∧ Table.get (fun _ => none) (s.pathSt 3).coveredAt 7 = some p0 ∧
       s.fld (R.pathChkB 3 7) F.pathChkB.LEN ≠ 0 ∧
       (p0 + (s.fld (R.pathChkA 3 7) F.pathChkA.ARR * 65536 : Nat) < s.pathPos 3 ↔ p0 = -131072) ∧
       (p0 + (s.fld (R.pathChkB 3 7) F.pathChkB.LEN * 65536 : Nat) < s.pathPos 3 ↔ p0 = -131072)) := by and_intros <;> decide +kernel

theorem witness_PathEnableAndDisable :
    (∀ lps ∈ [0, 128], let w : Word := F.pathCfg.LP.put (F.pathCfg.DWELL_TIM.put 0 31) 7
     let s := setF ((R.pathLinks 3, F.pathLinks.LPS, lps) :: (List.range 7).map (fun g => (R.pathGspd 3 (g + 1), ⟨0, 32⟩, 65536 * (g + 1)))) up
     s.usual ∧ s.accessible .bar0 (R.pathCfg 3) = true ∧ s.fld (R.pathFeed 3) F.pathFeed.MODE ≠ 1 ∧ F.pathCfg.DWELL_TIM.get w = 31 ∧
       s.pathOn 3 = false ∧ s.pathIdle 3 = true ∧ s.owner (.timer 31) = 0 ∧
       (((s.setReg (R.pathCfg 3) (Row.pathCfg.written (s.reg (R.pathCfg 3)) (F.pathCfg.EN.put w 1))).setOwner (.timer 31) 0x14).pathCause 3 = 0 ↔ lps = 128)) ∧
    (let s := path3 1 {} [(R.pathCfg 3, F.pathCfg.DWELL_TIM, 31), (R.etimCtl 31, F.etimCtl.OWNER, 0x14)]
     s.usual ∧ s.accessible .bar0 (R.pathCfg 3) = true ∧ s.fld (R.pathFeed 3) F.pathFeed.MODE ≠ 1 ∧ s.pathOn 3 = true ∧ (s.pathSt 3).speed = 0 ∧
       s.fld (R.pathCfg 3) F.pathCfg.DWELL_TIM = 31 ∧ s.owner (.timer 31) = 0x14) := by and_intros <;> decide +kernel

theorem witness_PathCommands :
    (up.usual ∧ up.accessible .bar0 (R.pathCmd 3) = true ∧ up.pathOn 3 = false) ∧
    (∀ st ∈ [1, 2, 3, 4, 5, 6, 7], let s := path3 st {} [(R.pathCfg 3, F.pathCfg.SEAM_EN, 0), (R.pathPolicy 3, F.pathPolicy.GMIN, 1), (R.pathPolicy 3, F.pathPolicy.GMAX, 7)]
     s.usual ∧ s.accessible .bar0 (R.pathCmd 3) = true ∧ s.pathOn 3 = true ∧ s.pathState 3 = st ∧ s.fld (R.pathPolicy 3) F.pathPolicy.GMIN ≤ 7 ∧
       7 ≤ s.fld (R.pathPolicy 3) F.pathPolicy.GMAX ∧ ¬s.fld (R.pathPolicy 3) F.pathPolicy.GMIN ≤ 0 ∧ s.fld (R.pathCfg 3) F.pathCfg.FLOW = 0 ∧
       s.fld (R.pathCfg 3) F.pathCfg.SEAM_EN = 0 ∧ s.fld (R.pathLinks 3) F.pathLinks.TRKS = 0 ∧ (s.pathSt 3).speed = 0 ∧ s.fld (R.pathRev 3) F.pathRev.REV = 0 ∧ s.chkLevels 3 = 0) ∧
    (let s := path3 2 {} [(R.pathCfg 3, F.pathCfg.FLOW, 1), (R.pathOcc 3, F.pathOcc.IN_TRACK, 1)]
     s.usual ∧ s.pathState 3 = 2 ∧ s.fld (R.pathCfg 3) F.pathCfg.FLOW = 1 ∧ s.fld (R.pathOcc 3) F.pathOcc.IN_TRACK ≠ 0) ∧
    (let s := path3 4 {} [(R.pathCfg 3, F.pathCfg.SEAM_EN, 1)]; s.usual ∧ s.pathState 3 = 4 ∧ s.fld (R.pathCfg 3) F.pathCfg.SEAM_EN = 1) ∧
    (let s := path3 6 { speed := 1 } []; s.usual ∧ s.pathState 3 = 6 ∧ s.fld (R.pathLinks 3) F.pathLinks.TRKS = 0 ∧ (s.pathSt 3).speed ≠ 0) ∧
    (let s := path3 7 {} [(R.pathChkA 3 7, F.pathChkA.EN, 1), (R.gaitPsIn, ⟨0, 1⟩, 1)]
     s.usual ∧ s.pathState 3 = 7 ∧ s.fld (R.pathRev 3) F.pathRev.REV = 0 ∧ s.chkLevels 3 ≠ 0) ∧
    (let s := path3 7 {} [(R.pathRev 3, F.pathRev.REV, 1)]; s.usual ∧ s.pathState 3 = 7 ∧ (s.pathSt 3).speed = 0 ∧ s.fld (R.pathRev 3) F.pathRev.REV ≠ 0) := by
  and_intros <;> decide +kernel

/-- Path 3 runs at gait 4 with an occupancy. -/
def pacing (occ : Nat) (l : List (Nat × Fld × Nat)) : State :=
  path3 2 {} ([(R.pathOcc 3, F.pathOcc.OCC, occ), (R.pathStat 3, F.pathStat.GAIT, 4), (R.pathOccthr 3, F.pathOccthr.STOP, 900), (R.pathGthr 3 4, F.pathGthr.DOWN, 800),
    (R.pathGthr 3 4, F.pathGthr.UP, 200), (R.pathPolicy 3, F.pathPolicy.GMIN, 3), (R.pathPolicy 3, F.pathPolicy.GMAX, 5)] ++ l)

theorem witness_PacingAndRest :
    (∀ occ ∈ [200, 500, 800, 900], let s := pacing occ []
     s.usual ∧ s.pathState 3 = 2 ∧ s.pathOn 3 = true ∧ (s.pathSt 3).atRest = .stay ∧ s.fld (R.pathOcc 3) F.pathOcc.OCC = occ ∧
       s.fld (R.pathOccthr 3) F.pathOccthr.STOP = 900 ∧ s.fld (R.pathCfg 3) F.pathCfg.FLOW = 0 ∧ s.etimRun (s.fld (R.pathCfg 3) F.pathCfg.DWELL_TIM) = false ∧
       s.fld (R.pathStat 3) F.pathStat.GAIT = 4 ∧ s.fld (R.pathGthr 3 4) F.pathGthr.DOWN = 800 ∧ s.fld (R.pathGthr 3 4) F.pathGthr.UP = 200 ∧
       s.fld (R.pathPolicy 3) F.pathPolicy.GMIN = 3 ∧ s.fld (R.pathPolicy 3) F.pathPolicy.GMAX = 5 ∧ (s.pathSt 3).holdByLoop = false) ∧
    (let s := pacing 500 [(R.etimStat 0, F.etimStat.RUN, 1)]
     s.usual ∧ s.pathState 3 = 2 ∧ s.fld (R.pathOcc 3) F.pathOcc.OCC < s.fld (R.pathOccthr 3) F.pathOccthr.STOP ∧
       s.etimRun (s.fld (R.pathCfg 3) F.pathCfg.DWELL_TIM) = true) ∧
    (let s := path3 4 {} [(R.pathCfg 3, F.pathCfg.SEAM_EN, 1)]
     s.usual ∧ s.pathState 3 = 4 ∧ s.etimRun (s.fld (R.pathCfg 3) F.pathCfg.DWELL_TIM) = false ∧
       s.fld (R.pathOcc 3) F.pathOcc.OCC ≤ s.fld (R.pathOccthr 3) F.pathOccthr.RESUME ∧ s.fld (R.pathCfg 3) F.pathCfg.SEAM_EN = 1) ∧
    (let s := path3 3 { speed := 1 } []; s.usual ∧ (s.pathSt 3).speed ≠ 0) ∧
    (let s : State := { path3 3 { atRest := .stop } [(R.pathLinks 3, F.pathLinks.TRKS, 8), (R.uCfg 3, F.uCfg.TRK, 3)] with geo := { windows := [(7, some {})] } }
     s.usual ∧ (s.pathSt 3).speed = 0 ∧ (s.pathSt 3).target = 0 ∧ (s.pathSt 3).atRest = .stop ∧ s.pathWindow 3 = true ∧
       ∀ h, h < 4 → s.fld (R.seamCfg h) F.seamCfg.EN = 0) ∧
    (let s := path3 2 { atRest := .halt } []; s.usual ∧ (s.pathSt 3).speed = 0 ∧ (s.pathSt 3).target = 0 ∧ (s.pathSt 3).atRest = .halt) ∧
    (let s := path3 5 {} []; s.usual ∧ s.pathState 3 = 5 ∧ s.pathPos 3 ≤ (s.pathSt 3).goal) ∧
    (let s := path3 6 {} [(R.pathSeam 3, F.pathSeam.OVERLAP, 4), (R.pathLinks 3, F.pathLinks.LPS, 128), (R.lpCfg 7, F.lpCfg.EN, 1)]
     s.usual ∧ s.pathState 3 = 6 ∧ (s.pathSt 3).overlap + 1 < s.fld (R.pathSeam 3) F.pathSeam.OVERLAP ∧
       s.fld (R.pathLinks 3) F.pathLinks.LPS = 2 ^ 7 ∧ s.fld (R.lpCfg 7) F.lpCfg.EN = 1 ∧ (s.lp 7).run = .idle ∧
       (∀ h, h < 4 → s.fld (R.grpCtl h) F.grpCtl.EN = 0) ∧
       signed 64 (s.reg64 (R.pathLastLo 3) (R.pathLastHi 3)) - (s.fld (R.pathSeam 3) F.pathSeam.OVERLAP - 1 - (s.pathSt 3).overlap : Nat) *
        ((s.effReg (R.lpPitch (s.fld (R.pathCfg 3) F.pathCfg.LP))).toNat : Int) ≤ s.pathPos 3) ∧
    (∀ ps ∈ [0, 1], let s := path3 7 { atRest := .cleared } [(R.pathChkA 3 7, F.pathChkA.EN, 1), (R.gaitPsIn, ⟨0, 1⟩, ps)]
     s.usual ∧ s.pathState 3 = 7 ∧ (s.pathSt 3).atRest = .cleared ∧ s.pathPos 3 ≤ (s.pathSt 3).goal ∧ (s.chkLevels 3 = 0 ↔ ps = 0)) ∧
    (let s := path3 1 {} [(R.pathHlossSel 3, ⟨31, 1⟩, 1)]; s.usual ∧ s.selOn (R.pathHlossSel 3) = true ∧ s.pathOn 3 = true ∧ s.pathState 3 ≠ 2) := by
  and_intros <;> decide +kernel

theorem witness_SeamsAreMeasured :
    (let s := path3 2 { seams := [3] } [(R.seamCfg 3, F.seamCfg.ENG, 95), (R.seamCfg 3, F.seamCfg.PATH, 3), (R.pathSeam 3, F.pathSeam.OVERLAP, 4)] { seams := [(3, { fired := 4, shaded := [0, 1, 2], bad := [3] })] }
     s.usual ∧ (∀ u, u < 4 → s.openWindow u = none) ∧ s.fld (R.seamCfg 3) F.seamCfg.ENG = 95 ∧ s.fld (R.seamCfg 3) F.seamCfg.PATH = 3 ∧
       (s.pathSt 3).seams.contains 3 = true ∧ (s.seamSt 3).handed = false ∧ (s.seamSt 3).fired = s.fld (R.pathSeam 3) F.pathSeam.OVERLAP ∧
       (∀ i, i < 4 → (s.seamSt 3).shaded.contains i = true ∨ (s.seamSt 3).bad.contains i = true) ∧ (s.eng 95).inbox.length + 5 ≤ 16) ∧
    (let s : State := { up with pack := { engines := [(0, { inbox := List.replicate 12 (0, 1) })] } }
     s.quiet ∧ s.settled ∧ (∀ u, u < 4 → s.openWindow u = none) ∧ s.fld (R.seamCfg 3) F.seamCfg.ENG = 0 ∧ s.inboxRoom 0 5 = false) ∧
    (let s := path3 2 {} [(R.seamCfg 3, F.seamCfg.PATH, 3)] { seams := [(3, { handed := true })], replies := [(3, some 0x00FF8000)] }
     s.usual ∧ (∀ u, u < 4 → s.openWindow u = none) ∧ (s.seamSt 3).handed = true ∧ Table.get (fun _ => none) s.gait.replies 3 = some 0x00FF8000 ∧
       (0x00FF8000 : Word).toNat / 2 ^ 24 % 16 = 0) := by and_intros <;> decide +kernel

/-! ## Witnesses: auxiliary sensing -/

/-- The aux domain is on; fields set, and what the converter does. -/
def auxUp (l : List (Nat × Fld × Nat)) (a : Aux := {}) : State := setF ((R.sysPdStat 3, ⟨28, 1⟩, 1) :: (R.sysPdStat 3, ⟨29, 1⟩, 1) :: l) { up with aux := a }

theorem witness_AuxSequencesAndCalibration :
    (∀ m ∈ [0, 1], let w : Word := F.auxRegCtl.MODE.put 0 m; let s := auxUp []
     s.usual ∧ s.accessible .bar0 R.auxRegCtl = true ∧ s.accessible .bar0 R.auxCalCtl = true ∧ s.auxIdle = true ∧
       (s.setReg R.auxRegCtl (Row.auxRegCtl.written (s.reg R.auxRegCtl) (F.auxRegCtl.EN.put w 1))).auxSeqCause false = 0 ∧
       F.auxRegCtl.MODE.get w = m ∧ s.accessible .bar0 R.auxInjCtl = true ∧
       (s.setReg R.auxInjCtl (Row.auxInjCtl.written (s.reg R.auxInjCtl) (F.auxInjCtl.EN.put 0x0E 1))).auxSeqCause true = 0) ∧
    (up.usual ∧ up.auxIdle = true ∧
      (up.setReg R.auxRegCtl (Row.auxRegCtl.written (up.reg R.auxRegCtl) (F.auxRegCtl.EN.put 0 1))).auxSeqCause false ≠ 0) ∧
    (let s := auxUp [(R.auxRegCtl, F.auxRegCtl.EN, 1), (R.auxInjCtl, F.auxInjCtl.EN, 1), (R.auxStat, F.auxStat.STATE, 1)]
     s.usual ∧ s.accessible .bar0 R.auxRegCtl = true ∧ (0 : Word) &&& 0x7E = s.reg R.auxRegCtl &&& 0x7E ∧ s.auxEn false = true ∧ s.auxState = 1 ∧
       (0 : Word) &&& 0x0E = s.reg R.auxInjCtl &&& 0x0E ∧ s.auxEn true = true ∧ s.auxState ≠ 2 ∧ s.auxIdle = false) ∧
    (let s := auxUp []
     s.accessible .bar0 (auxEntryReg true 7 3) = true ∧ s.accessible .bar0 (auxEntryReg false 31 3) = true ∧ s.auxEn true = false ∧ s.auxEn false = false ∧ s.aux.conv = none) ∧
    (let s := auxUp [(R.auxRegCtl, F.auxRegCtl.EN, 1), (R.auxRegCtl, F.auxRegCtl.LEN, 31)]
     let s1 := s.setReg (auxEntryReg false 31 0) ((auxEntryRow 0).written (s.reg (auxEntryReg false 31 0)) (F.auxRegCfg.AINP.put 0 31))
     s.usual ∧ s.accessible .bar0 (auxEntryReg false 31 0) = true ∧ s.auxEn false = true ∧ 31 ≤ s.auxLen false ∧
       s1.auxCause false 31 (s1.reg (auxEntryReg false 31 0)) (s1.reg (auxEntryReg false 31 2)) ≠ 0) ∧
    (let s := auxUp [(R.auxStat, F.auxStat.STATE, 3)]
     s.usual ∧ s.auxState = 3 ∧ s.hqe.calibs = [] ∧ ∀ g, g < 8 → -32768 ≤ (List.replicate 8 (-32768 : Int)).getD g 0 ∧ (List.replicate 8 (-32768 : Int)).getD g 0 < 32768 ∧
       -32768 ≤ (List.replicate 8 (32767 : Int)).getD g 0 ∧ (List.replicate 8 (32767 : Int)).getD g 0 < 32768) := by and_intros <;> decide +kernel

/-- A conversion of regular entry 0 with an all-zero entry. -/
def conv0 : Conv := { inj := false, entry := 0, cfg := 0, time := 0, lin := 0, kref := 0 }

theorem witness_AuxTriggersAndFaults :
    (∀ st ∈ [0, 1, 2], let s := auxUp [(R.auxRegCtl, F.auxRegCtl.EN, 1), (R.auxRegCtl, F.auxRegCtl.MODE, 1), (R.auxRegTrigSel, ⟨31, 1⟩, 1),
        (R.auxInjCtl, F.auxInjCtl.EN, 1), (R.auxInjTrigSel, ⟨31, 1⟩, 1), (R.auxStat, F.auxStat.STATE, st), (R.auxStat, F.auxStat.PEND, 0)] { conv := some conv0 }
     s.usual ∧ s.auxEn false = true ∧ s.fld R.auxRegCtl F.auxRegCtl.MODE = 1 ∧ s.selOn R.auxRegTrigSel = true ∧ s.aux.remembered = none ∧
       s.auxState = st ∧ s.auxEn true = true ∧ s.selOn R.auxInjTrigSel = true ∧ s.aux.conv = some conv0 ∧ s.fld R.auxStat F.auxStat.PEND = 0) ∧
    (let s := auxUp [(R.auxInjCtl, F.auxInjCtl.EN, 1), (R.auxInjTrigSel, ⟨31, 1⟩, 1), (R.auxStat, F.auxStat.STATE, 2), (R.auxStat, F.auxStat.PEND, 1), (R.auxStat, F.auxStat.REF_LOW, 1),
        (R.auxExcCfg 3, F.auxExcCfg.MODE, 1), (R.auxExcCfg 3, F.auxExcCfg.PULSED, 0)] { conv := some conv0 }
     s.usual ∧ s.auxEn true = true ∧ s.selOn R.auxInjTrigSel = true ∧ s.auxState = 2 ∧ s.fld R.auxStat F.auxStat.PEND = 1 ∧ s.aux.conv.isSome = true ∧
       s.fld R.auxStat F.auxStat.REF_LOW = 1 ∧ s.excRuns 3 = true) := by and_intros <;> decide +kernel

/-- An input at 1 V differential, with no overload. -/
def volt (v : Int) : AuxInput := { vp := v, vn := 0, rp := 0, rn := 0, overload := false, dOpen := 0 }

theorem witness_AuxResults :
    (let s := auxUp [(R.auxRegCtl, F.auxRegCtl.EN, 1), (R.auxRegCtl, F.auxRegCtl.MODE, 1), (R.auxStat, F.auxStat.STATE, 1), (R.auxCalOfs 0, F.auxCalOfs.OFS, 0), (R.auxCalGain 0, F.auxCalGain.GC, 0)] { conv := some conv0 }
     s.usual ∧ s.hqe.auxWaits = [] ∧ s.aux.conv = some conv0 ∧ conv0.inj = false ∧ conv0.entry < 32 ∧ conv0.stream = false ∧
       s.fld R.auxRegCtl F.auxRegCtl.LEN = conv0.entry ∧ s.fld R.auxRegCtl F.auxRegCtl.MODE = 1 ∧ s.fld R.auxStat F.auxStat.REF_LOW = 0 ∧
       F.auxRegCfg.REF.get conv0.cfg = 0 ∧ F.auxRegCfg.OUT.get conv0.cfg = 0 ∧ F.auxRegCfg.OW_EN.get conv0.cfg = 0 ∧ F.auxRegCfg.AINP.get conv0.cfg < 24 ∧
       F.auxRegCfg.AINN.get conv0.cfg < 24 ∧ F.auxRegCfg.GAIN.get conv0.cfg = 0 ∧ s.fld (R.auxCalOfs 0) F.auxCalOfs.OFS = 0 ∧
       s.fld (R.auxCalGain 0) F.auxCalGain.GC = 0 ∧ conv0.clamps = 0 ∧ s.aux.clamping = 0 ∧ conv0.excFault = 0 ∧ (volt 1000000000000).overload = false ∧
       -8388608 ≤ roundDiv (((volt 1000000000000).vp - (volt 1000000000000).vn) * (2 ^ (23 + 0) : Nat)) 1250000000000 ∧
       roundDiv (((volt 1000000000000).vp - (volt 1000000000000).vn) * (2 ^ (23 + 0) : Nat)) 1250000000000 ≤ 8388607) := by and_intros <;> decide +kernel

theorem witness_WaveformChannels :
    (∀ size ∈ [0, 1], let s := auxUp [(R.wfSize 1, F.wfSize.SIZE, size)]
     s.usual ∧ s.accessible .bar0 (R.wfCfg 1) = true ∧ s.fld (R.wfCfg 1) F.wfCfg.EN = 0 ∧
       (s.setReg (R.wfCfg 1) (Row.wfCfg.written (s.reg (R.wfCfg 1)) (F.wfCfg.EN.put 0 1))).wfRefused 1 = (size == 0)) ∧
    (let s := auxUp [(R.wfCfg 1, F.wfCfg.EN, 1), (R.wfStat 1, F.wfStat.STATE, 1), (R.wfStartSel 1, ⟨31, 1⟩, 1)]
     s.usual ∧ s.reg (R.wfCfg 1) &&& 0xFFFF01FE = s.reg (R.wfCfg 1) &&& 0xFFFF01FE ∧ s.fld (R.wfCfg 1) F.wfCfg.EN = 1 ∧ s.wfState 1 ≠ 2 ∧
       s.wfState 1 = 1 ∧ s.selOn (R.wfStartSel 1) = true ∧ s.fld (R.wfCfg 1) F.wfCfg.MODE = 0) ∧
    (let s : State := { setF [(R.sysPdStat 0, ⟨0, 1⟩, 1)] (auxUp [(R.wfCfg 1, F.wfCfg.EN, 1), (R.wfStat 1, F.wfStat.STATE, 2), (R.wfStopSel 1, ⟨31, 1⟩, 1), (R.wfSize 1, F.wfSize.SIZE, 1), (R.wfCfg 1, F.wfCfg.GAIN, 0), (R.wfMax 1, ⟨0, 32⟩, 0)]) with
        wfs := [(1, { raws := [(0, -2048)] })] }
     s.usual ∧ s.wfState 1 = 2 ∧ s.selOn (R.wfStopSel 1) = true ∧ s.fld (R.wfCfg 1) F.wfCfg.MODE = 0 ∧ s.fld (R.wfCfg 1) F.wfCfg.GAIN = 0 ∧
       (s.wf 1).raws = (0, -2048) :: [] ∧ s.sys.bitErrs = [] ∧ s.sys.poison = [] ∧ (s.reg (R.wfWr 1) - s.reg (R.wfRd 1)).toNat ≠ s.wfRing 1 ∧
       0 < s.wfRing 1 ∧ s.memOk (s.wfBase 1 + 2 * ((s.reg (R.wfWr 1)).toNat % s.wfRing 1)) = true ∧ s.reg (R.wfMax 1) = 0) := by and_intros <;> decide +kernel

/-! ## Witnesses: tandem code -/

/-- Context 9 is bound to lane 15, with direction d. -/
def lane15 (c : Stream) (d : Nat) (act : Nat := 1) : State :=
  setF [(R.tcxLane 15, F.tcxLane.SC, 9), (R.tcxLane 15, F.tcxLane.ACT, act), (R.tcxLane 15, F.tcxLane.DIR, d), (R.tcxCtl, F.tcxCtl.LANES, 0x8000),
    (R.sysPdStat 3, ⟨23, 1⟩, 1), (R.sysPdStat 3, ⟨22, 1⟩, 1), (R.sysPdStat 3, ⟨21, 1⟩, 1), (R.sysPdStat 3, ⟨20, 1⟩, 1)] { up with streams := [(9, c)] }

theorem witness_LanesTakeContexts :
    (let s := lane15 { state := 1, opened := true, ready := [7] } 0 0
     s.usual ∧ s.laneFree 15 = true ∧ s.nextStream = some 9 ∧ 9 < 4096) ∧
    (let s := lane15 { state := 1, opened := true, ready := [7] } 0 1; s.usual ∧ s.laneFree 15 = false) ∧
    (let s := lane15 {} 0 0; s.usual ∧ s.laneFree 15 = true ∧ s.nextStream = none) ∧
    (let s := lane15 { state := 1, opened := true } 0
     s.usual ∧ s.fld (R.tcxLane 15) F.tcxLane.ACT = 1 ∧ s.eligible (s.fld (R.tcxLane 15) F.tcxLane.SC) = false) := by and_intros <;> decide +kernel

/-- A context of two-sample rows without loss. -/
def plainContext : Stream :=
  { opened := true, hdr := true, npl := 1, slots := [0], depth := 8, width := 2, resetAtRestart := false, reset := 64, thr := [3, 7, 21, 30, 40] }

theorem witness_LineGroupsAreCoded :
    (let c := { plainContext with state := 1, ready := [7], mode := 1, rows := [(0, [⟨5, [0, 255], []⟩])] }
     let s := lane15 c 0
     s.usual ∧ s.fld (R.tcxLane 15) F.tcxLane.SC = 9 ∧ s.stream 9 = c ∧ s.fld (R.tcxLane 15) F.tcxLane.ACT = 1 ∧ c.opened = true ∧ c.saves = [] ∧
       c.finished = false ∧ c.hdr = true ∧ c.rstInt = 0 ∧ c.rstDoc = false ∧ c.trkEn = false ∧ c.ends = [] ∧ c.inshift = 0 ∧ c.npl = 1 ∧ c.slots = [0] ∧
       c.mode ≤ 1 ∧ c.near = 0 ∧ s.fld (R.tcxLane 15) F.tcxLane.DIR = 0 ∧ c.state = 1 ∧ c.closing = none ∧ c.ready ≠ [] ∧
       Table.get (fun _ => []) c.rows 0 = (⟨5, [0, 255], []⟩ : CodeRow) :: [] ∧ [0, 255].length = c.width ∧ (∀ v ∈ [0, 255], v < 2 ^ c.depth)) ∧
    (let bs : List Byte := [0, 254]
     let c := { plainContext with state := 2, input := bs.map some }
     let s := lane15 c 1
     s.usual ∧ s.fld (R.tcxLane 15) F.tcxLane.SC = 9 ∧ s.stream 9 = c ∧ s.fld (R.tcxLane 15) F.tcxLane.ACT = 1 ∧ c.opened = true ∧ c.saves = [] ∧
       c.finished = false ∧ c.hdr = true ∧ c.rstInt = 0 ∧ c.rstDoc = false ∧ c.trkEn = false ∧ c.ends = [] ∧ c.inshift = 0 ∧ c.npl = 1 ∧ c.slots = [0] ∧
       c.mode ≤ 1 ∧ c.near = 0 ∧ s.fld (R.tcxLane 15) F.tcxLane.DIR = 1 ∧ c.state = 2 ∧ c.mode = 0 ∧ c.depth = 8 ∧ c.pendN = 0 ∧ c.pend = 0 ∧
       c.ffPend = false ∧ c.reads = [] ∧ c.input = bs.map some ∧ bs.length = c.width ∧ 0 < c.width ∧ ∀ b ∈ bs, b ≠ 0xFF) := by and_intros <;> decide +kernel

theorem witness_TandemStaysWithinNear :
    ∀ near ∈ [0, 3], let t := { plainContext with mode := if near = 0 then 1 else 2, near := near, thr := [18, 33, 67, 80, 90], act2 := 1 }
     t.paramsOk false = true ∧ (∀ row ∈ [[0, 255]], ∀ v ∈ row, v ≤ t.maxval) ∧ (∀ row ∈ [[255, 0]], ∀ v ∈ row, v ≤ t.maxval) := by decide +kernel


/-! ## Witnesses: pack engines -/

/-- Engine 95 in a state of Table 10-1 at PC 5, with its registers and fields set. -/
def eng95 (st : Nat) (e : Engine := {}) (l : List (Nat × Fld × Nat) := []) (s : State := up) : State :=
  setF ([(R.engStat 95, F.engStat.STATE, st), (R.engStat 95, F.engStat.PC, 5), (R.sysPdStat 2, ⟨31, 1⟩, 1)] ++ l)
    { s with pack := { s.pack with engines := [(95, e)] } }

/-- The same in RUN, the instruction w at its PC. -/
def eng95at (w : Word) (e : Engine := {}) (l : List (Nat × Fld × Nat) := []) (s : State := up) : State :=
  (eng95 2 e l s).setWord (engineInstr 95 + 4 * 5) w

/-- A word of format R with function f, of format I, and of format S. -/
def wordR (op rd ra rb f : Nat) : Word := BitVec.ofNat 32 (op * 2 ^ 26 + rd * 2 ^ 21 + ra * 2 ^ 16 + rb * 2 ^ 11 + f)
def wordI (op rd ra imm : Nat) : Word := BitVec.ofNat 32 (op * 2 ^ 26 + rd * 2 ^ 21 + ra * 2 ^ 16 + imm)

/-- Nothing is held where there are no windows and no records: the witnesses below show these three premises of HoldsNothing. -/
theorem holds_nothing (s : State) (n : Nat) (hi : s.pack.ins = []) (ho : s.pack.outs = []) (hr : s.geo.records = []) : HoldsNothing s n := by
  refine ⟨fun i l h => ?_, fun j l h => ?_, fun k h => ?_⟩
  · simp [State.inWin, hi, Table.get] at h
  · simp [State.outWin, ho, Table.get] at h
  · simp [State.record, hr, Table.get] at h

/-- A line of two samples. -/
def aLine : FeedLine := { line := 0, g := 0, y := 0, vals := [1, 2], bad := [], rep := false, exc := false, time := 0 }

theorem witness_EnginesStartHaltAndFault :
    (∀ k ∈ [1, 2], let n : Fin 96 := if k = 1 then 0 else 95
     let s := setF [(R.engStat n, F.engStat.STATE, 1), (R.engStat n, F.engStat.IMG, 1)] up
     s.usual ∧ s.accessible .bar0 (R.engCtl n) = true ∧ s.engState n = 1 ∧ s.fld (R.engStat n) F.engStat.IMG = 1 ∧ s.accessible .usb2 (R.engCtl n) = true ∧ (s.eng 0).inbox = []) ∧
    (let s := eng95 1; s.usual ∧ s.accessible .bar0 (R.engCtl 95) = true ∧ s.engState 95 = 1 ∧ s.fld (R.engStat 95) F.engStat.IMG = 0) ∧
    (let s := eng95 4; s.usual ∧ s.accessible .bar0 (R.engCtl 95) = true ∧ s.engState 95 = 4) ∧
    (∀ st ∈ [2, 3], let s : State := let u := eng95 st; { u with pack := { u.pack with ins := [(31, { ring := [{ idx := 0, src := aLine, taken := some 95 }] })] } }
     s.usual ∧ s.accessible .bar0 (R.engCtl 95) = true ∧ s.engState 95 = st ∧ s.geo.records = [] ∧
       (s.inWin 31).ring.any (fun l => l.taken == some 95 && !l.released) = true ∧ (s.inWin 30).ring.any (fun l => l.taken == some 95 && !l.released) = false) ∧
    (∀ load ∈ [true, false], let s := eng95 3 { far := [⟨0x8000000000, load, 5⟩] }
     s.usual ∧ s.pack.ins = [] ∧ s.pack.outs = [] ∧ s.geo.records = [] ∧ (s.eng 95).far = ⟨0x8000000000, load, 5⟩ :: [] ∧ s.fab.waiting = [] ∧ s.fab.remotes = []) ∧
    ((up.eng 95).far = [] ∧ up.usual) := by and_intros <;> decide +kernel

/-- Registers s30 = -1 and s29 = 31. -/
def regs2 : Engine := { s := [(29, 31), (30, 0xFFFFFFFF)] }

theorem witness_ScalarInstructions :
    (∀ f ∈ [0x00, 0x01, 0x02, 0x03, 0x04, 0x05, 0x06, 0x07, 0x08, 0x09, 0x0A, 0x0B, 0x0C, 0x0D, 0x0E, 0x0F, 0x10, 0x11, 0x12, 0x13, 0x3F, 0x7C0],
      let w := wordR 0x01 31 30 29 f; let s := eng95at w regs2
      Issues s 95 w ∧ opcodeOf w = 0x01 ∧ bitsOf w.toNat 6 5 = f / 64 ∧ bitsOf w.toNat 0 6 = f % 64 ∧ s.pack.ins = [] ∧ s.pack.outs = [] ∧ s.geo.records = []) ∧
    (∀ op ∈ [0x02, 0x03, 0x04, 0x05, 0x06, 0x07, 0x08, 0x09, 0x0A], ∀ ra ∈ [0, 30], ∀ imm ∈ [31, 32, 0x8000],
      let w := wordI op 31 ra imm; let s := eng95at w regs2
      Issues s 95 w ∧ opcodeOf w = op ∧ fRa w = ra ∧ bitsOf w.toNat 0 16 = imm ∧ s.pack.ins = [] ∧ s.pack.outs = [] ∧ s.geo.records = []) ∧
    (∀ rd ∈ [0, 31], ∀ imm ∈ [0, 1, 8, 9], let w := wordI 0x28 rd 30 imm; let s := eng95at w regs2
      Issues s 95 w ∧ opcodeOf w = 0x28 ∧ fRd w = rd ∧ bitsOf w.toNat 0 16 = imm ∧ (s.eng 95).pS (fRa w) = false ∧ s.pack.ins = [] ∧ s.pack.outs = [] ∧ s.geo.records = []) ∧
    (∀ ra ∈ [0, 30], ∀ imm ∈ [0, 1, 2, 3, 4, 5, 6, 7, 8, 9], let w := wordI 0x29 31 ra imm; let s := eng95at w regs2
      Issues s 95 w ∧ opcodeOf w = 0x29 ∧ fRa w = ra ∧ bitsOf w.toNat 0 16 = imm ∧ s.pack.ins = [] ∧ s.pack.outs = [] ∧ s.geo.records = []) := by
  and_intros <;> decide +kernel

theorem witness_EngineMemoryInstructions :
    (∀ op ∈ [0x10, 0x11, 0x12, 0x13, 0x14, 0x15], ∀ a ∈ [0xFFFC, 0x100000, 0x17FFFC, 0xFFFD, 0x10000, 0xFFFFC, 0x180000], ∀ bad ∈ [[], [31]],
      let w := wordI op 31 30 0; let s := eng95at w { s := [(30, BitVec.ofNat 32 a)], badS := bad }
      let x := ((s.eng 95).sr (fRa w) + BitVec.ofInt 32 (signed 16 (bitsOf w.toNat 0 16))).toNat
      Issues s 95 w ∧ opcodeOf w = op ∧ (s.eng 95).pS (fRa w) = false ∧ x = a ∧ ((s.eng 95).pS (fRd w) = false ↔ bad = []) ∧
        s.pack.ins = [] ∧ s.pack.outs = [] ∧ s.geo.records = []) := by decide +kernel

theorem witness_EngineMemoryInstructions_far :
    (∀ op ∈ [0x16, 0x17], ∀ p ∈ [(0, some (Target.memory 0x780000)), (0x81, some (.remote 2 0x780000)), (0xC0, none)],
      let w := wordI op 31 30 0
      let s := eng95at w { s := [(30, BitVec.ofNat 32 0x780000)], xhi := p.1 } [(R.sysPdStat 0, ⟨0, 1⟩, 1)]
      let far := ((((s.eng 95).xhi * 2 ^ 32 + ((s.eng 95).sr (fRa w)).toNat : Nat) : Int) + signed 16 (bitsOf w.toNat 0 16)).emod (2 ^ 40) |>.toNat
      Issues s 95 w ∧ opcodeOf w = op ∧ (s.eng 95).pS (fRa w) = false ∧ (s.eng 95).pS (fRd w) = false ∧ (∀ t, p.2 = some t → s.target far 4 = t) ∧
        s.pack.ins = [] ∧ s.pack.outs = [] ∧ s.geo.records = []) ∧
    (∀ op ∈ [0x16, 0x17], ∀ m ∈ [1, 94],
      let off := if op = 0x16 then R.engVer m else R.engInbox m
      let w := wordI op 31 30 0
      let s := eng95at w { s := [(30, BitVec.ofNat 32 (0x40000000 + off))] }
      Issues s 95 w ∧ opcodeOf w = op ∧ (s.eng 95).pS (fRa w) = false ∧ (s.eng 95).pS (fRd w) = false ∧ s.target (0x40000000 + off) 4 = .mirror off ∧
        (s.eng m).inbox.length < 16) := by and_intros <;> decide +kernel

theorem witness_EngineFlowInstructions :
    (∀ op ∈ [0x18, 0x19, 0x1A, 0x1B, 0x1C, 0x1D], ∀ imm ∈ [0, 4089, 4090, 0xFFFA, 0xFFF9], ∀ bad ∈ [[], [31]],
      let w := wordI op 31 30 imm; let s := eng95at w { regs2 with badS := bad }
      Issues s 95 w ∧ opcodeOf w = op ∧ ((s.eng 95).pS (fRd w) = true ↔ bad = [31]) ∧ (s.eng 95).pS (fRa w) = false ∧ s.engPc 95 = 5 ∧
        (5 + 1 + signed 16 imm = (4095 : Int) ↔ imm = 4089) ∧ s.pack.ins = [] ∧ s.pack.outs = [] ∧ s.geo.records = []) ∧
    (∀ p ∈ [(0x1E, 4095), (0x1F, 31 * 2 ^ 21 + 4095)], let w := BitVec.ofNat 32 (p.1 * 2 ^ 26 + p.2); let s := eng95at w
      Issues s 95 w ∧ opcodeOf w = p.1 ∧ bitsOf w.toNat 12 9 = 0 ∧ (p.1 = 0x1E → bitsOf w.toNat 12 14 = 0) ∧ bitsOf w.toNat 0 12 = 4095) ∧
    (∀ b ∈ [4095, 4096], ∀ bad ∈ [[], [30]], let w := wordI 0x20 0 30 0; let s := eng95at w { s := [(30, BitVec.ofNat 32 b)], badS := bad }
      Issues s 95 w ∧ opcodeOf w = 0x20 ∧ fRd w = 0 ∧ bitsOf w.toNat 0 16 = 0 ∧ ((s.eng 95).sr (fRa w)).toNat = b ∧
        ((s.eng 95).pS (fRa w) = true ↔ bad = [30]) ∧ s.pack.ins = [] ∧ s.pack.outs = [] ∧ s.geo.records = []) ∧
    (∀ last ∈ [5, 6, 4094, 4095], ∀ b ∈ [0, 1], let w := wordI 0x21 0 30 last; let s := eng95at w { s := [(30, BitVec.ofNat 32 b)] }
      let x := s.word (engineInstr 95 + 4 * last)
      Issues s 95 w ∧ opcodeOf w = 0x21 ∧ fRd w = 0 ∧ bitsOf w.toNat 12 4 = 0 ∧ bitsOf w.toNat 0 12 = last ∧
        (¬((0x18 ≤ opcodeOf x ∧ opcodeOf x ≤ 0x21) ∨ (opcodeOf x = 0 ∧ fFn x = 1)) ↔ last ≠ 5) ∧ (s.eng 95).pS (fRa w) = false ∧
        ((s.eng 95).sr (fRa w)).toNat = b ∧ s.pack.ins = [] ∧ s.pack.outs = [] ∧ s.geo.records = []) ∧
    (∀ f ∈ [0, 1], let w := BitVec.ofNat 32 (f * 2 ^ 20); let s := eng95at w
      Issues s 95 w ∧ opcodeOf w = 0 ∧ bitsOf w.toNat 0 20 = 0 ∧ fFn w = f ∧ s.pack.ins = [] ∧ s.pack.outs = [] ∧ s.geo.records = []) ∧
    (let w := wordI 0x3F 0 0 0; let s := eng95at w
     Issues s 95 w ∧ opcodeKnown w = false ∧ s.pack.ins = [] ∧ s.pack.outs = [] ∧ s.geo.records = []) := by and_intros <;> decide +kernel

/-- A word of format S: function, register, immediate. -/
def wordS (f r imm : Nat) : Word := BitVec.ofNat 32 (f * 2 ^ 20 + r * 2 ^ 15 + imm)

/-- A state with windows 31. -/
def windowed (i : InWin) (o : OutWin) (s : State) : State := { s with pack := { s.pack with ins := [(31, i)], outs := [(31, o)] } }

/-- Windows 31 of four slots, enabled, the output window in message mode or fed by input window 31. -/
def win31 (msg : Nat) : List (Nat × Fld × Nat) :=
  [(R.iwCfg 31, F.iwCfg.EN, 1), (R.iwRing 31, F.iwRing.SLOTS, 4), (R.iwGeom 31, F.iwGeom.WIDTH, 2), (R.owCfg 31, F.owCfg.EN, 1), (R.owCfg 31, F.owCfg.MODE, msg),
    (R.owCfg 31, F.owCfg.SRCW, 31), (R.owRing 31, F.owRing.SLOTS, 4), (R.owGeom 31, F.owGeom.WIDTH, if msg = 0 then 2 else 0), (R.owGeom 31, F.owGeom.LEN, 16 * msg)]

theorem witness_EngineSystemInstructions :
    (∀ far ∈ [[], [⟨0x8000000000, false, 5⟩]], let w := wordS 0x02 0 0; let s := eng95at w { far := far }
      Issues s 95 w ∧ opcodeOf w = 0 ∧ fFn w = 0x02 ∧ bitsOf w.toNat 15 5 = 0 ∧ bitsOf w.toNat 0 15 = 0 ∧ (s.eng 95).far = far) ∧
    (∀ r ∈ [0, 1], ∀ imm ∈ [7, 8], let w := wordS 0x03 r imm; let s := eng95at w
      Issues s 95 w ∧ opcodeOf w = 0 ∧ fFn w = 0x03 ∧ bitsOf w.toNat 15 5 = r ∧ bitsOf w.toNat 0 15 = imm ∧ s.pack.ins = [] ∧ s.pack.outs = [] ∧ s.geo.records = []) ∧
    (∀ c ∈ [0, 1, 2, 3], let w := wordS 0x04 0 (c * 256 + 255); let s := eng95at w
      Issues s 95 w ∧ opcodeOf w = 0 ∧ fFn w = 0x04 ∧ bitsOf w.toNat 15 5 = 0 ∧ bitsOf w.toNat 0 15 < 0x400 ∧ bitsOf (bitsOf w.toNat 0 15) 8 2 = c) ∧
    (∀ c ∈ [0, 1, 2, 3], ∀ k ∈ [0, 255], let w := wordS 0x05 0 c; let s := eng95at w {} [(R.engEccnt 95, ⟨8 * c, 8⟩, k)]
      Issues s 95 w ∧ opcodeOf w = 0 ∧ fFn w = 0x05 ∧ bitsOf w.toNat 15 5 = 0 ∧ bitsOf w.toNat 0 15 = c ∧ s.catcher 95 c = k) ∧
    (∀ f ∈ [0x06, 0x07, 0x08], ∀ count ∈ [0, 65535], let w := wordS f 0 15; let s := eng95at w {} [(R.packTsem 191, F.packTsem.COUNT, count)]
      Issues s 95 w ∧ opcodeOf w = 0 ∧ fFn w = f ∧ bitsOf w.toNat 15 5 = 0 ∧ bitsOf w.toNat 0 15 = 15 ∧ s.fld (R.packTsem (16 * (95 / 8) + 15)) F.packTsem.COUNT = count) := by
  and_intros <;> decide +kernel

theorem witness_EngineSystemInstructions_windows :
    (let w := wordS 0x09 31 31
     let l : InLine := { idx := 1, src := aLine }
     let pre : List InLine := [{ idx := 0, src := aLine, taken := some 94 }]
     let s := windowed { ring := pre ++ l :: [{ l with idx := 2 }] } {} (eng95at w {} (win31 0))
     Issues s 95 w ∧ opcodeOf w = 0 ∧ fFn w = 0x09 ∧ bitsOf w.toNat 0 15 = 31 ∧ s.iwOn 31 = true ∧ (s.inWin 31).ring = pre ++ l :: [{ l with idx := 2 }] ∧
       (∀ m ∈ pre, m.taken ≠ none ∧ m.released = false ∧ m.idx ≠ l.idx) ∧ l.taken = none ∧ l.released = false ∧ ∀ m ∈ [{ l with idx := 2 }], m.idx ≠ l.idx) ∧
    (let w := wordS 0x09 31 31; let s := eng95at w {} (win31 0)
     Issues s 95 w ∧ opcodeOf w = 0 ∧ fFn w = 0x09 ∧ bitsOf w.toNat 0 15 = 31 ∧ s.iwOn 31 = true ∧ ∀ m ∈ (s.inWin 31).ring, m.taken ≠ none) ∧
    (∀ f ∈ [0x09, 0x0A], let w := wordS f 31 31; let s := eng95at w
     Issues s 95 w ∧ opcodeOf w = 0 ∧ fFn w = f ∧ bitsOf w.toNat 0 15 = 31 ∧ s.iwOn 31 = false ∧ (s.eng 95).pS 31 = false ∧ s.pack.ins = [] ∧ s.pack.outs = [] ∧ s.geo.records = []) ∧
    (let w := wordS 0x0A 31 31
     let l : InLine := { idx := 5, src := aLine, taken := some 95 }
     let s := windowed { ring := l :: [{ idx := 6, src := aLine }] } {} (eng95at w { s := [(31, 0x100020)] } ((win31 0).take 3))
     Issues s 95 w ∧ opcodeOf w = 0 ∧ fFn w = 0x0A ∧ bitsOf w.toNat 0 15 = 31 ∧ (s.eng 95).pS 31 = false ∧ s.iwOn 31 = true ∧ s.paired 31 = [] ∧
       (s.inWin 31).ring = l :: [{ idx := 6, src := aLine }] ∧ l.taken = some 95 ∧ l.released = false ∧
       ((s.eng 95).sr 31).toNat = 0x100000 + s.iwOffset 31 (l.idx % s.iwSlots 31) ∧ ∀ m ∈ [({ idx := 6, src := aLine } : InLine)], m.idx ≠ l.idx ∧ m.released = false) ∧
    (∀ q ∈ [[], [({ slot := 3, src := aLine, idx := 9, st := .allocated, eng := 94 } : OutLineSt)]],
     let w := wordS 0x0B 31 31; let s := windowed {} { queue := q, next := 3 } (eng95at w {} (win31 1))
     Issues s 95 w ∧ opcodeOf w = 0 ∧ fFn w = 0x0B ∧ bitsOf w.toNat 0 15 = 31 ∧ s.owOn 31 = true ∧ s.owMsg 31 = true ∧ (s.owInUse 31 (s.outWin 31).next (2 ^ 40) = false ↔ q = [])) ∧
    (∀ busy ∈ [false, true], let w := wordS 0x0B 31 31
     let l : InLine := { idx := 5, src := aLine, taken := some 95 }
     let q : List OutLineSt := [{ slot := 1, src := aLine, idx := 1, st := if busy then .committed else .dropped }, { slot := 1, src := aLine, idx := 5, st := .waiting }]
     let s := windowed { ring := [l] } { queue := q } (eng95at w { s := [(31, 0x100020)] } (win31 0))
     Issues s 95 w ∧ opcodeOf w = 0 ∧ fFn w = 0x0B ∧ bitsOf w.toNat 0 15 = 31 ∧ s.owOn 31 = true ∧ s.owMsg 31 = false ∧ (s.eng 95).pS 31 = false ∧
       s.engHeldLine 95 (s.owSrc 31) ((s.eng 95).sr 31).toNat = some l ∧ s.owInUse 31 (l.idx % s.iwSlots (s.owSrc 31)) l.idx = busy) ∧
    (let w := wordS 0x0C 31 31
     let l : OutLineSt := { slot := 1, src := aLine, idx := 5, st := .allocated, eng := 95 }
     let s := windowed {} { queue := l :: [{ slot := 2, src := aLine, idx := 6, st := .waiting }] } (eng95at w { s := [(31, 0x100020)] } (win31 0))
     Issues s 95 w ∧ opcodeOf w = 0 ∧ fFn w = 0x0C ∧ bitsOf w.toNat 0 15 = 31 ∧ s.owOn 31 = true ∧ s.owMsg 31 = false ∧ (s.eng 95).pS 31 = false ∧
       (s.outWin 31).queue = l :: [{ slot := 2, src := aLine, idx := 6, st := .waiting }] ∧ l.st = .allocated ∧ l.eng = 95 ∧
       ((s.eng 95).sr 31).toNat = 0x100000 + s.owOffset 31 l.slot ∧ ∀ m ∈ [({ slot := 2, src := aLine, idx := 6, st := .waiting } : OutLineSt)], m.idx ≠ l.idx) ∧
    (let w := wordS 0x0C 31 31
     let l : OutLineSt := { slot := 1, src := aLine, idx := 2 ^ 40, st := .allocated, eng := 95 }
     let s := windowed {} { queue := [l] } (eng95at w { s := [(31, 0x100020)] } (win31 1))
     Issues s 95 w ∧ opcodeOf w = 0 ∧ fFn w = 0x0C ∧ bitsOf w.toNat 0 15 = 31 ∧ s.owOn 31 = true ∧ s.owMsg 31 = true ∧ (s.eng 95).pS 31 = false ∧
       (s.stream (s.fld (R.owSc 31) F.owSc.SC)).opened = false ∧ (s.outWin 31).queue = [l] ∧ ((s.eng 95).sr 31).toNat = 0x100000 + s.owOffset 31 l.slot ∧
       (s.word (teamBase (s.owTeam 31) + s.owOffset 31 l.slot)).toNat ≤ s.fld (R.owGeom 31) F.owGeom.LEN) := by
  and_intros <;> decide +kernel

/-- A record of track 3 with document 9, held or not by engine 95. -/
def docSlot (h : List Nat) (s : State) : State :=
  { s with geo := { s.geo with records := [(7, { busy := true, units := [0], open_ := [0], holds := h })] } }

theorem witness_EngineSystemInstructions_messages :
    (∀ q ∈ [[], [((7 : Word), 1)]], let w := wordS 0x0D 31 0; let s := eng95at w { inbox := q }
      Issues s 95 w ∧ opcodeOf w = 0 ∧ fFn w = 0x0D ∧ bitsOf w.toNat 0 15 = 0 ∧ (s.eng 95).inbox = q) ∧
    (∀ k ∈ [15, 16], let w := wordS 0x0E 31 (0x40 + 94)
     let s : State := let u := eng95at w; { u with pack := { u.pack with engines := (94, { inbox := List.replicate k (0, 1) }) :: u.pack.engines } }
     Issues s 95 w ∧ opcodeOf w = 0 ∧ fFn w = 0x0E ∧ bitsOf w.toNat 0 15 = 0x40 + 94 ∧ (s.eng 95).pS 31 = false ∧ (s.eng 94).inbox.length = k) ∧
    (∀ k ∈ [15, 16], let w := wordS 0x0E 31 1; let s := eng95at w { outbox := List.replicate k 0 }
     Issues s 95 w ∧ opcodeOf w = 0 ∧ fFn w = 0x0E ∧ bitsOf w.toNat 0 15 = 1 ∧ (s.eng 95).pS 31 = false ∧ (s.eng 95).outbox.length = k) ∧
    (let w := wordS 0x0E 31 0x14; let s := eng95at w {} [] { up with gait := { replyTo := some 3 } }
     Issues s 95 w ∧ opcodeOf w = 0 ∧ fFn w = 0x0E ∧ bitsOf w.toNat 0 15 = 0x14 ∧ (s.eng 95).pS 31 = false ∧ s.gait.replyTo = some 3) ∧
    (let w := wordS 0x0E 31 2
     let s := (setF [(R.engStat 0, F.engStat.STATE, 2), (R.engStat 0, F.engStat.PC, 5)] { up with hlt := { up.hlt with outbox := List.replicate 15 0 } }).setWord (engineInstr 0 + 20) w
     Issues s 0 w ∧ opcodeOf w = 0 ∧ fFn w = 0x0E ∧ bitsOf w.toNat 0 15 = 2 ∧ (s.eng 0).pS 31 = false ∧ s.hlt.outbox ≠ [] ∧ s.hlt.outbox.length < 16) ∧
    (∀ imm ∈ [0, 2, 0x3F, 0xA0, 255], let w := wordS 0x0E 31 imm; let s := eng95at w
     Issues s 95 w ∧ opcodeOf w = 0 ∧ fFn w = 0x0E ∧ bitsOf w.toNat 0 15 = imm ∧ (s.eng 95).pS 31 = false) ∧
    (∀ f ∈ [0x0F, 0x10], ∀ h ∈ [[], [95]], let w := wordS f 31 3
     let s := docSlot h (eng95at w { s := [(31, BitVec.ofNat 32 (up.docSeq 7))] })
     Issues s 95 w ∧ opcodeOf w = 0 ∧ fFn w = f ∧ bitsOf w.toNat 0 15 = 3 ∧ (s.eng 95).pS 31 = false ∧ s.slotOfDoc 3 ((s.eng 95).sr 31).toNat = some 7 ∧
       (95 ∈ (s.record 7).holds ↔ h = [95]) ∧ (s.record 7).open_ ≠ []) ∧
    (∀ f ∈ [0x0F, 0x10], let w := wordS f 31 3; let s := eng95at w
     Issues s 95 w ∧ opcodeOf w = 0 ∧ fFn w = f ∧ bitsOf w.toNat 0 15 = 3 ∧ (s.eng 95).pS 31 = false ∧ s.slotOfDoc 3 ((s.eng 95).sr 31).toNat = none) ∧
    (∀ cause ∈ [0x12, 0x13, 0x1F, 0x20], ∀ here ∈ [false, true], let w := wordS 0x11 31 0
     let u := eng95at w { s := [(31, 0xFFEC)] } [(R.trkCfg 3, F.trkCfg.EXC_MAX, 1)]
     let p := engineData 95 + 0xFFEC
     let s := ((((if here then docSlot [] u else u).setWord p (BitVec.ofNat 32 (cause * 2 ^ 24))).setWord (p + 4) 0x03000001).setWord (p + 8) 1).setWord (p + 16) (BitVec.ofNat 32 (up.docSeq 7))
     Issues s 95 w ∧ opcodeOf w = 0 ∧ fFn w = 0x11 ∧ bitsOf w.toNat 0 15 = 0 ∧ (s.eng 95).pS 31 = false ∧ ((s.eng 95).sr 31).toNat % 4 = 0 ∧
       localAddr 95 ((s.eng 95).sr 31).toNat 20 = some p ∧ bitsOf (s.word p).toNat 24 8 = cause ∧ bitsOf (s.word (p + 4)).toNat 0 16 = 1 ∧
       bitsOf (s.word (p + 4)).toNat 24 2 = 3 ∧ (s.word (p + 8)).toNat + 2 ^ 32 * bitsOf (s.word (p + 12)).toNat 0 16 ≠ 0 ∧
       bitsOf (s.word (p + 4)).toNat 26 6 = 0 ∧ bitsOf (s.word (p + 12)).toNat 16 16 = 0 ∧
       s.slotOfDoc 3 (s.word (p + 16)).toNat = (if here then some 7 else none) ∧ (s.record 7).exc = [] ∧ 0 < s.excMax 3) ∧
    (∀ a ∈ [0xFFEE, 0xFFF0], let w := wordS 0x11 31 0; let s := eng95at w { s := [(31, BitVec.ofNat 32 a)] }
     Issues s 95 w ∧ opcodeOf w = 0 ∧ fFn w = 0x11 ∧ bitsOf w.toNat 0 15 = 0 ∧ (s.eng 95).pS 31 = false ∧ (((s.eng 95).sr 31).toNat % 4 ≠ 0 ↔ a = 0xFFEE) ∧
       (localAddr 95 ((s.eng 95).sr 31).toNat 20 = none) ∧ s.pack.ins = [] ∧ s.pack.outs = [] ∧ s.geo.records = []) := by
  and_intros <;> decide +kernel

theorem witness_EngineSystemInstructions_claims :
    (∀ f ∈ [0x12, 0x13], ∀ own ∈ [0, 0x40 + 95, 1], ∀ bad ∈ [false, true], let w := wordS f 31 (2 * 4096 + 15)
     let s := eng95at w {} [(R.sysAbpCfg 15, F.sysAbpCfg.OWNER, own), (R.sysAbpCfg 15, F.sysAbpCfg.SIZE, if bad then 0 else 1), (R.sysClaimErr, F.sysClaimErr.VALID, 1)]
     Issues s 95 w ∧ opcodeOf w = 0 ∧ fFn w = f ∧ bitsOf w.toNat 0 15 &&& 0x0F00 = 0 ∧ bitsOf (bitsOf w.toNat 0 15) 0 8 = 15 ∧
       bitsOf (bitsOf w.toNat 0 15) 12 3 = 2 ∧ s.fld (R.sysAbpCfg 15) F.sysAbpCfg.OWNER = own ∧ s.partInvalid 15 = bad ∧ s.partClash 15 = none ∧
       s.fld R.sysClaimErr F.sysClaimErr.VALID = 1) ∧
    (let w := wordS 0x12 31 (4096 + 31); let s := eng95at w {} [(R.etimStartSel 31, ⟨31, 1⟩, 1)]
     Issues s 95 w ∧ opcodeOf w = 0 ∧ fFn w = 0x12 ∧ bitsOf w.toNat 0 15 &&& 0x0F00 = 0 ∧ bitsOf (bitsOf w.toNat 0 15) 0 8 = 31 ∧
       bitsOf (bitsOf w.toNat 0 15) 12 3 = 1 ∧ s.fld (R.etimCtl 31) F.etimCtl.OWNER = 0 ∧ s.selOn (R.etimStartSel 31) = true) ∧
    (let w := wordS 0x12 31 (3 * 4096 + 15); let s := eng95at w
     Issues s 95 w ∧ opcodeOf w = 0 ∧ fFn w = 0x12 ∧ bitsOf w.toNat 0 15 &&& 0x0F00 = 0 ∧ bitsOf (bitsOf w.toNat 0 15) 0 8 = 15 ∧
       bitsOf (bitsOf w.toNat 0 15) 12 3 = 3 ∧ s.fld (R.sysGpioCfg 15) F.sysGpioCfg.OWNER = 0) ∧
    (∀ f ∈ [0x12, 0x13], ∀ t ∈ [0, 4, 7], let w := wordS f 31 (t * 4096); let s := eng95at w
     Issues s 95 w ∧ opcodeOf w = 0 ∧ fFn w = f ∧ bitsOf w.toNat 0 15 &&& 0x0F00 = 0 ∧ bitsOf (bitsOf w.toNat 0 15) 12 3 = t) ∧
    (∀ f ∈ [0x0A, 0x0C, 0x0E, 0x0F, 0x10, 0x11], ∀ imm ∈ [0, 3], let w := wordS f 31 imm; let s := eng95at w { badS := [31] }
     Issues s 95 w ∧ opcodeOf w = 0 ∧ fFn w = f ∧ bitsOf w.toNat 0 15 = imm ∧ (s.eng 95).pS 31 = true ∧ s.pack.ins = [] ∧ s.pack.outs = [] ∧ s.geo.records = []) := by
  and_intros <;> decide +kernel

/-- A word of a vector instruction from its fields, each with its lowest bit. -/
def wordV (op : Nat) (l : List (Nat × Nat)) : Word := BitVec.ofNat 32 (op * 2 ^ 26 + (l.map (fun p => p.1 * 2 ^ p.2)).sum)

/-- Vector registers 14 and 15 set, p3 as given, s31 as given. -/
def vecs (p3 : Nat) (s31 : Word) : Engine :=
  { v := [(14, [0, 1, 2, 3, 32768, 65534, 65535, 8]), (15, [65535, 1, 1, 1, 1, 1, 1, 1])], p := [(3, p3)], s := [(31, s31)] }

theorem witness_VectorInstructions :
    (∀ fn ∈ [0x00, 0x07, 0x13, 0x14, 0x15, 0x3F], let w := wordV 0x30 [(15, 22), (14, 18), (15, 14), (3, 12), (fn, 0)]; let s := eng95at w (vecs 0x81 0)
      Issues s 95 w ∧ opcodeOf w = 0x30 ∧ bitsOf w.toNat 6 6 = 0 ∧ bitsOf w.toNat 0 6 = fn ∧ s.pack.ins = [] ∧ s.pack.outs = [] ∧ s.geo.records = []) ∧
    (∀ f ∈ [0, 6, 7, 8, 15], ∀ va ∈ [0, 14], let w := wordV 0x31 [(15, 22), (va, 18), (3, 16), (f, 12), (0xFFF, 0)]; let s := eng95at w (vecs 0x81 0)
      Issues s 95 w ∧ opcodeOf w = 0x31 ∧ bitsOf w.toNat 12 4 = f ∧ bitsOf w.toNat 18 4 = va ∧ s.pack.ins = [] ∧ s.pack.outs = [] ∧ s.geo.records = []) ∧
    (∀ fn ∈ [0, 5], ∀ vd ∈ [0, 3], let w := wordV 0x32 [(vd, 22), (14, 18), (15, 14), (3, 12), (fn, 0)]; let s := eng95at w (vecs 0x81 0)
      Issues s 95 w ∧ opcodeOf w = 0x32 ∧ bitsOf w.toNat 6 6 = 0 ∧ bitsOf w.toNat 22 4 = vd ∧ bitsOf w.toNat 0 6 = fn) ∧
    (∀ fn ∈ [0, 1, 2, 3, 4, 5, 6, 7], ∀ lane ∈ [0, 7], ∀ pg ∈ [0, 3], ∀ vd ∈ [3, 14], let w := wordV 0x33 [(vd, 22), (31, 17), (lane, 14), (pg, 12), (fn, 0)]; let s := eng95at w (vecs 0x81 0)
      Issues s 95 w ∧ opcodeOf w = 0x33 ∧ bitsOf w.toNat 3 9 = 0 ∧ bitsOf w.toNat 0 3 = fn ∧ bitsOf w.toNat 14 3 = lane ∧ bitsOf w.toNat 12 2 = pg ∧
        bitsOf w.toNat 22 4 = vd ∧ ((s.eng 95).vr vd).length = 8 ∧ (s.eng 95).pS 31 = false ∧ s.pack.ins = [] ∧ s.pack.outs = [] ∧ s.geo.records = []) := by
  and_intros <;> decide +kernel

theorem witness_VectorInstructions_memory :
    (∀ op ∈ [0x34, 0x35], ∀ a ∈ [0xFFF0, 0x180000 - 16], let w := wordV op [(15, 22), (31, 17), (3, 15), (0, 0)]; let s := eng95at w (vecs 0x81 (BitVec.ofNat 32 a))
      let e := s.eng 95
      let p (i : Nat) : Nat := if a = 0xFFF0 then engineData 95 + a + 2 * i else teamBase 11 + (a - 0x100000) + 2 * i
      Issues s 95 w ∧ opcodeOf w = op ∧ e.pS 31 = false ∧ e.pV 15 = false ∧
        (∀ i, i < 8 → (e.pr (bitsOf w.toNat 15 2)).testBit i = true →
          (e.sr (bitsOf w.toNat 17 5) + BitVec.ofInt 32 (signed 15 (bitsOf w.toNat 0 15)) + BitVec.ofNat 32 (2 * i)).toNat % 2 = 0 ∧
          localAddr 95 (e.sr (bitsOf w.toNat 17 5) + BitVec.ofInt 32 (signed 15 (bitsOf w.toNat 0 15)) + BitVec.ofNat 32 (2 * i)).toNat 2 = some (p i))) ∧
    (∀ op ∈ [0x34, 0x35], ∀ a ∈ [0x10001, 0x10000], let w := wordV op [(15, 22), (31, 17), (3, 15), (0, 0)]; let s := eng95at w (vecs 0x81 (BitVec.ofNat 32 a))
      let e := s.eng 95
      let x := (e.sr (bitsOf w.toNat 17 5) + BitVec.ofInt 32 (signed 15 (bitsOf w.toNat 0 15)) + BitVec.ofNat 32 (2 * 0)).toNat
      Issues s 95 w ∧ opcodeOf w = op ∧ e.pS 31 = false ∧ (e.pr (bitsOf w.toNat 15 2)).testBit 0 = true ∧ x = a ∧ localAddr 95 x 2 = none ∧
        s.pack.ins = [] ∧ s.pack.outs = [] ∧ s.geo.records = []) ∧
    (∀ a ∈ [0xFFFC, 0x10000], let w := wordV 0x36 [(15, 22), (31, 17), (13, 13), (3, 11)]; let s := eng95at w { vecs 0x41 (BitVec.ofNat 32 a) with v := [(13, [0, 1, 2, 3, 4, 5, 1, 7])] }
      let e := s.eng 95
      let at_ (i : Nat) : Nat := (e.sr (bitsOf w.toNat 17 5) + BitVec.ofNat 32 (2 * (e.vr (bitsOf w.toNat 13 4)).getD i 0)).toNat
      Issues s 95 w ∧ opcodeOf w = 0x36 ∧ bitsOf w.toNat 0 11 = 0 ∧ e.pS 31 = false ∧ e.pV (bitsOf w.toNat 13 4) = false ∧
        (∀ i, i < 8 → at_ i % 2 = 0) ∧ (e.pr (bitsOf w.toNat 11 2)).testBit 0 = true ∧
        ((∀ i, i < 8 → (e.pr (bitsOf w.toNat 11 2)).testBit i = true → at_ i + 2 ≤ 0x10000) ↔ a = 0xFFFC) ∧ (0x10000 < at_ 0 + 2 ↔ a = 0x10000) ∧
        s.pack.ins = [] ∧ s.pack.outs = [] ∧ s.geo.records = []) := by and_intros <;> decide +kernel

/-- A P-256 public key and its SHA-256, for the root key hash. -/
def aKey : List Byte := [0x7C, 0xF2, 0x7B, 0x18, 0x8D, 0x03, 0x4F, 0x7E, 0x8A, 0x52, 0x38, 0x03, 0x04, 0xB5, 0x1A, 0xC3, 0xC0, 0x89, 0x69, 0xE2, 0x77, 0xF2, 0x1B, 0x35, 0xA6, 0x0B, 0x48, 0xFC, 0x47, 0x66, 0x99, 0x78, 0x07, 0x77, 0x55, 0x10, 0xDB, 0x8E, 0xD0, 0x40, 0x29, 0x3D, 0x9A, 0xC6, 0x9F, 0x74, 0x30, 0xDB, 0xBA, 0x7D, 0xAD, 0xE6, 0x3C, 0xE9, 0x82, 0x29, 0x9E, 0x04, 0xB7, 0x9D, 0x22, 0x78, 0x73, 0xD1]
def aKeyHash : List Byte := [0xD0, 0x7A, 0xEB, 0x13, 0x48, 0x40, 0xB1, 0x52, 0x42, 0xE1, 0x2D, 0x4A, 0x06, 0xCE, 0x3A, 0xB4, 0x93, 0xCB, 0xD0, 0x20, 0xEB, 0xC3, 0xBD, 0x5A, 0xAE, 0xCD, 0x82, 0x2F, 0x51, 0xE0, 0xC3, 0xD8]

/-- An image of one NOP of kind 1 that the key signs: header to the reserved bytes, key, code, signature (Table 10-13). -/
def imageHead : List Byte := [0x53, 0x45, 0x53, 0x54, 0x01, 0x00, 0x80, 0x00, 0x01, 0x00, 0x01, 0x00, 0x01, 0x00, 0x00, 0x00, 0x01, 0x00, 0x00, 0x00, 0x01, 0x00, 0x00, 0x00, 0x00, 0x00, 0x00, 0x00, 0x00, 0x00, 0x00, 0x00, 0xC4, 0x00, 0x00, 0x00, 0x00, 0x00, 0x00, 0x00, 0x00, 0x00, 0x00, 0x00, 0x00, 0x00, 0x00, 0x00, 0x00, 0x00, 0x00, 0x00, 0x00, 0x00, 0x00, 0x00, 0x00, 0x00, 0x00, 0x00, 0x00, 0x00, 0x00, 0x00] ++ aKey
def imageRest : List Byte := [0x00, 0x00, 0x00, 0x00, 0x6B, 0x17, 0xD1, 0xF2, 0xE1, 0x2C, 0x42, 0x47, 0xF8, 0xBC, 0xE6, 0xE5, 0x63, 0xA4, 0x40, 0xF2, 0x77, 0x03, 0x7D, 0x81, 0x2D, 0xEB, 0x33, 0xA0, 0xF4, 0xA1, 0x39, 0x45, 0xD8, 0x98, 0xC2, 0x96, 0xB3, 0xE5, 0x5A, 0xDF, 0x6E, 0xCC, 0x93, 0xFF, 0x5F, 0x47, 0xC4, 0xA8, 0xF0, 0x37, 0xC9, 0x0A, 0xA4, 0x5B, 0xE2, 0xF9, 0xDA, 0x73, 0xDD, 0xE6, 0x0B, 0xD5, 0x23, 0xE8, 0x50, 0x0C, 0x28, 0x07]

/-- OTP holds the root key hash (Table 15-3). -/
def keyed (s : State) : State := { s with hlt := { s.hlt with otp := (List.range 32).map (fun i => (8 + i, aKeyHash.getD i 0)) } }

theorem witness_WindowsMailboxesAndImages :
    (∀ width ∈ [0, 2], let s := setF [(R.iwRing 31, F.iwRing.SLOTS, 4), (R.iwGeom 31, F.iwGeom.WIDTH, width)] up
     s.usual ∧ s.accessible .bar0 (R.iwCfg 31) = true ∧ s.iwOn 31 = false ∧
       ((s.setReg (R.iwCfg 31) (Row.iwCfg.written (s.reg (R.iwCfg 31)) (F.iwCfg.EN.put 0 1))).iwCause 31 = 0 ↔ width = 2)) ∧
    (∀ on ∈ [0, 1], let s := setF ((win31 0) ++ [(R.owCfg 31, F.owCfg.EN, on)]) up
     s.usual ∧ s.accessible .bar0 (R.iwCfg 31) = true ∧ s.iwOn 31 = true ∧ s.reg (R.iwCfg 31) &&& 0x3FFE = s.reg (R.iwCfg 31) &&& 0x3FFE ∧ (s.paired 31 = [] ↔ on = 0)) ∧
    (∀ len ∈ [0, 16], let s := setF [(R.owRing 31, F.owRing.SLOTS, 4), (R.owGeom 31, F.owGeom.LEN, len)] up
     s.usual ∧ s.accessible .bar0 (R.owCfg 31) = true ∧ s.owOn 31 = false ∧
       ((s.setReg (R.owCfg 31) (Row.owCfg.written (s.reg (R.owCfg 31)) (F.owCfg.EN.put (F.owCfg.MODE.put 0 1) 1))).owCause 31 = 0 ↔ len = 16)) ∧
    (∀ feed ∈ [[], [aLine]], ∀ ring ∈ [[], List.replicate 4 ({ idx := 0, src := aLine } : InLine)], let s := windowed { feed := feed, ring := ring } {} (setF ((win31 0).take 3) up)
     s.usual ∧ (s.inWin 31).feed = feed ∧ s.iwOn 31 = true ∧ s.paired 31 = [] ∧ aLine.bad = [] ∧ s.sys.bitErrs = [] ∧ s.sys.poison = [] ∧
       s.docAt (s.fld (R.iwCfg 31) F.iwCfg.TRK) aLine.g aLine.y = none ∧ ((s.inWin 31).ring.length < s.iwSlots 31 ↔ ring = []) ∧
       s.windowsAt aLine.g aLine.y = [] ∧ s.pastAt aLine.g aLine.y = []) ∧
    (∀ q ∈ [[], [({ slot := 3, src := aLine, idx := 3, st := .waiting } : OutLineSt)], [{ slot := 3, src := aLine, idx := 3, st := .allocated }],
        [{ slot := 3, src := aLine, idx := 3, st := .committed }], [{ slot := 3, src := aLine, idx := 3, st := .dropped }]],
     let s := windowed {} { queue := q } (setF (win31 0) up)
     s.usual ∧ s.owOn 31 = true ∧ s.owMsg 31 = false ∧ (s.outWin 31).queue = q ∧ s.sys.bitErrs = [] ∧ s.sys.poison = [] ∧ s.streams = [] ∧
       ∀ i, i < 32 → s.iwOn i = true → s.fld (R.iwCfg i) F.iwCfg.PLANE ≠ 64 + 31) := by and_intros <;> decide +kernel

theorem witness_WindowsMailboxesAndImages_engines :
    (∀ k ∈ [15, 16], let s := eng95 1 { inbox := List.replicate k (0, 1) }
     s.usual ∧ s.accessible .bar0 (R.engInbox 95) = true ∧ (s.eng 95).inbox.length = k) ∧
    (∀ c ∈ [0, 3], ∀ k ∈ [253, 254, 255], ∀ on ∈ [0, 1], let s := eng95 1 {} [(R.engEccnt 95, ⟨8 * c, 8⟩, k), (R.engEcsel 95 c, ⟨31, 1⟩, on)]
     s.usual ∧ s.accessible .bar0 (R.engEcsel 95 c) = true ∧ s.catcher 95 c = k ∧ (s.selOn (R.engEcsel 95 c) = true ↔ on = 1)) ∧
    (up.usual ∧ up.accessible .bar0 (R.packTsem (16 * 11 + 15)) = true) ∧
    (∀ c ∈ [0, 3], ∀ k ∈ [0, 255], let s := (eng95 3 {} [(R.engEccnt 95, ⟨8 * c, 8⟩, k)]).setWord (engineInstr 95 + 20) (wordS 5 0 c)
     s.usual ∧ s.engState 95 = 3 ∧ (s.word (engineInstr 95 + 4 * s.engPc 95)).toNat = 0x05 * 2 ^ 20 + c ∧ s.engPc 95 < 4095 ∧ (s.eng 95).loop = none ∧
       (s.eng 95).step = false ∧ s.sys.bitErrs = [] ∧ s.sys.poison = [] ∧ s.catcher 95 c = k) ∧
    (∀ count ∈ [0, 65535], let s := (eng95 3 {} [(R.packTsem 191, F.packTsem.COUNT, count)]).setWord (engineInstr 95 + 20) (wordS 6 0 15)
     s.usual ∧ s.engState 95 = 3 ∧ (s.word (engineInstr 95 + 4 * s.engPc 95)).toNat = 0x06 * 2 ^ 20 + 15 ∧ s.engPc 95 < 4095 ∧ (s.eng 95).loop = none ∧
       (s.eng 95).step = false ∧ s.sys.bitErrs = [] ∧ s.sys.poison = [] ∧ s.fld (R.packTsem (16 * (95 / 8) + 15)) F.packTsem.COUNT = count) ∧
    (let s := (eng95 3).setWord (engineInstr 95 + 20) (wordS 2 0 0)
     s.usual ∧ s.engState 95 = 3 ∧ (s.word (engineInstr 95 + 4 * s.engPc 95)).toNat = 0x02 * 2 ^ 20 ∧ s.engPc 95 < 4095 ∧ (s.eng 95).loop = none ∧
       (s.eng 95).step = false ∧ s.sys.bitErrs = [] ∧ s.sys.poison = [] ∧ (s.eng 95).far = []) ∧
    (up.usual ∧ up.engState 95 ≠ 3 ∧ up.pack.loads = []) := by and_intros <;> decide +kernel

/-- An image load for engine 95 whose header has arrived. -/
def loading (h : List Byte) : State :=
  let u := keyed (eng95 1); { u with pack := { u.pack with loads := [{ cmd := none, targets := [95], header := h }] } }

set_option maxRecDepth 100000 in
theorem witness_WindowsMailboxesAndImages_loads :
    (let s := loading imageHead
     s.usual ∧ s.engState 95 = 1 ∧ s.pack.loads = [{ cmd := none, targets := [95], header := imageHead }] ∧ imageHead.length = 128 ∧
       s.sys.bitErrs = [] ∧ s.sys.poison = [] ∧ s.imageValid (imageHead ++ imageRest) = true) ∧
    (let h := imageHead.set 0 0; let s := loading h
     s.usual ∧ s.engState 95 = 1 ∧ s.pack.loads = [{ cmd := none, targets := [95], header := h }] ∧ h.length = 128 ∧
       s.sys.bitErrs = [] ∧ s.sys.poison = [] ∧ s.imageValid (h ++ imageRest) = false ∧ imgWords h ≤ 4096 ∧ imgDataOfs h + imgDataLen h ≤ 65536) := by
  and_intros <;> decide +kernel

/-! ## Witnesses: host queues -/

/-- A queue pair of 4 and 8 slots. -/
def aQueue : Qp := { sqBase := 0x10000, cqBase := 0x20000, sqSize := 4, cqSize := 8, vector := 255 }

/-- Queue pair 1023 alone exists, the link is up, vector 255 is unmasked. -/
def queued (x : Qp) (cmds : List Cmd := []) (l : List (Nat × Fld × Nat) := []) (s : State := up) (h : Hqe := {}) : State :=
  setF ([(R.hqeStat, F.hqeStat.LINK, 1), (R.hqeMsixCtrl 255, F.hqeMsixCtrl.MASK, 0), (R.sysBootStat, F.sysBootStat.READY, 1), (R.hltStat, F.hltStat.READY, 1)] ++ l)
    { s with hqe := { h with qps := [(1023, some x)], cmds := cmds } }

/-- A command of queue pair 1023 with tag 7, TARGET, ADDR0 and arguments. -/
def aCmd (op : Nat) (target : Nat := 0) (addr0 : Nat := 0) (args : List Nat := []) (started : Bool := false) : Cmd :=
  { qp := 1023, tag := 7, op := op, words := [BitVec.ofNat 32 (7 * 65536 + op), BitVec.ofNat 32 target, BitVec.ofNat 32 addr0, 0, 0, 0] ++ args.map (BitVec.ofNat 32),
    sqHead := 1, started := started }

/-- A submission queue entry: dword 0, TARGET, zeros. -/
def anEntry (w0 w1 : Nat) : List Byte := bytesLE 4 w0 ++ bytesLE 4 w1 ++ List.replicate 56 0

theorem witness_HostQueues :
    (up.usual ∧ up.qp 1023 = none) ∧
    (∀ err ∈ [false, true], ∀ w ∈ [3, 4, 7, 8], let x := { aQueue with error := err, cqHead := 6, cqTail := 7 }; let s := queued x
     s.usual ∧ s.qp 1023 = some x ∧ s.fld R.hqeStat F.hqeStat.LINK ≤ 1 ∧ s.asyncQ.length < 64 ∧ s.fld R.hqeQerr F.hqeQerr.VALID = 0 ∧
       ((w + x.cqSize - x.cqHead) % x.cqSize ≤ (x.cqTail + x.cqSize - x.cqHead) % x.cqSize ↔ w = 7)) ∧
    (∀ u ∈ [0, 1], ∀ v ∈ [0, 1], let x := { aQueue with unsig := u }; let s := queued x [] [(R.hqeQerr, F.hqeQerr.VALID, v)]
     s.usual ∧ s.qp 1023 = some x ∧ s.fld (R.hqeMsixCtrl x.vector) F.hqeMsixCtrl.MASK = 0 ∧ x.error = false ∧ s.asyncQ.length < 64 ∧ s.fld R.hqeQerr F.hqeQerr.VALID = v) ∧
    (let c := aCmd 0x24 0 0 [] true; let s := queued aQueue [c] [(R.hqeQerr, F.hqeQerr.VALID, 1)]
     s.usual ∧ s.qp 1023 = some aQueue ∧ s.cmdOf 1023 (7 : BitVec 16).toNat = some c ∧ PlainQueue s 1023 aQueue ∧ s.pack.loads = [] ∧ s.streams = [] ∧
       s.fld R.hqeQerr F.hqeQerr.VALID = 1) ∧
    (∀ b ∈ [0, 1], let s := setF [(R.hqePba 7, ⟨31, 1⟩, b)] up
     s.usual ∧ s.accessible .bar0 (R.hqeMsixCtrl 255) = true ∧ ((s.reg (R.hqePba (255 / 32))).getLsbD (255 % 32) = true ↔ b = 1)) ∧
    (∀ en ∈ [0, 1], ∀ jobs ∈ [[], [({ qp := 1023, tag := 7, slot := 15, path := 3, trk := 3, docs := 1 } : Job)]],
     let s := queued aQueue [] [(R.hqeCtl, F.hqeCtl.HWD_EN, en)] up { jobs := jobs }
     s.usual ∧ s.fld R.hqeCtl F.hqeCtl.HWD_EN = en ∧ s.hqe.jobs = jobs ∧ s.sec.loop = false ∧ s.fld R.hqeStat F.hqeStat.LINK ≠ 0) ∧
    (∀ on ∈ [0, 1], let s := setF [(R.sysPdStat 3, ⟨31, 1⟩, on)] up; s.usual ∧ (s.pdOn 128 = true ↔ on = 1)) ∧
    (∀ en ∈ [0, 1], ∀ cmds ∈ [[], [{ aCmd 0x00 with qp := 0 }]], let s := queued aQueue cmds [(R.hqeAqCfg, F.hqeAqCfg.EN, en)]
     s.usual ∧ s.accessible .bar0 R.hqeAqCfg = true ∧ s.fld R.hqeAqCfg F.hqeAqCfg.EN = en ∧ F.hqeAqCfg.EN.get 0 = 0 ∧ F.hqeAqCfg.EN.get (F.hqeAqCfg.EN.put 0 1) = 1 ∧
       (s.hqe.cmds.any (fun c => c.qp == 0 && c.op != 0x04) = true ↔ cmds ≠ []) ∧
       ((F.hqeAqCfg.EN.put (s.reg R.hqeAqCfg) 0) &&& 0x0FFF0FFF = s.reg R.hqeAqCfg &&& 0x0FFF0FFF)) := by and_intros <;> decide +kernel

theorem witness_HostQueues_fetch :
    (∀ tail ∈ [2, 3], ∀ w0 ∈ [0x700FF, 0x70001, 0x70424, 0x70024],
     let e := anEntry w0 0
     let x := { aQueue with sqHead := 3, sqTail := tail }; let s := queued x
     let c : Cmd := { qp := 1023, tag := 7, op := w0 % 256, words := (List.range 16).map (fun i => BitVec.ofNat 32 (fieldAt e (4 * i) 4)), sqHead := 0 }
     s.usual ∧ PlainQueue s 1023 x ∧ s.hqe.qps = [(1023, some x)] ∧ s.hqe.cmds = [] ∧ s.hqe.d3hot = false ∧ s.fld R.sysBootStat F.sysBootStat.READY = 1 ∧
       x.error = false ∧ e.length = 64 ∧ (x.sqHead = x.sqTail ↔ tail = 3) ∧ (x.cqTail + x.cqSize - x.cqHead) % x.cqSize < x.cqSize - 1 ∧
       fieldAt e 0 4 = w0 ∧ opKnown c.op = (w0 != 0x700FF) ∧ opAdmin c.op = (w0 == 0x70001) ∧ c.fieldsOk = (w0 != 0x70424)) := by
  decide +kernel

theorem witness_HostCommands_queues :
    (∀ a ∈ [0x40000, 0x40020], let c := aCmd 0x00 0 a; let s := queued aQueue [c]; CommandReady s 1023 7 0x00 c aQueue ∧ c.addr0 = a) ∧
    (∀ p ∈ [(1, 0x30003), (0, 0x30003), (1023, 0x30003), (1, 0x30000)], let c := aCmd 0x01 p.1 0x40000 [p.2]; let s := queued aQueue [c]
     CommandReady s 1023 7 0x01 c aQueue ∧ c.target = p.1 ∧ bitsOf (c.arg 0) 0 12 + 1 = p.2 % 4096 + 1 ∧ bitsOf (c.arg 0) 16 12 + 1 = 4 ∧ c.addr0 % 4096 = 0 ∧ c.addr1 % 4096 = 0 ∧
       (s.qp c.target).isSome = (p.1 == 1023)) ∧
    (∀ t ∈ [1023, 0, 5, 6], let c := aCmd 0x02 t; let s : State := let u := queued aQueue [c]; { u with hqe := { u.hqe with qps := [(6, some aQueue), (1023, some aQueue)] } }
     CommandReady s 1023 7 0x02 c aQueue ∧ c.target = t ∧ s.hqe.cmds.any (fun d => d.qp == c.target) = (t == 1023) ∧ (s.qp c.target).isSome = (t == 1023 || t == 6)) ∧
    (∀ op ∈ [0xFF, 0x11, 0x04], let d : Cmd := { aCmd op with tag := 9, started := true }; let c := aCmd 0x03 1023 0 [9]; let s := queued aQueue (if op = 0xFF then [c] else [d, c])
     CommandReady s 1023 7 0x03 c aQueue ∧ c.target = 1023 ∧ c.arg 0 = 9 ∧ s.cmdOf c.target (c.arg 0) = (if op = 0xFF then none else some d) ∧
       aQueue.cqTail + 2 < aQueue.cqSize) ∧
    (∀ k ∈ [7, 8], let c := aCmd 0x04; let s := queued aQueue ((List.range k).map (fun i => { aCmd 0x04 with tag := 100 + i, started := true }) ++ [c])
     CommandReady s 1023 7 0x04 c aQueue ∧ (s.hqe.cmds.filter (fun d => d.op == 0x04)).length = k + 1) ∧
    (let c := aCmd 0x04 0 0 [] true; let s : State := { queued aQueue [c] with asyncQ := [⟨5, 3, 0⟩] }
     s.usual ∧ PlainQueue s 1023 aQueue ∧ s.asyncQ = ⟨5, 3, 0⟩ :: [] ∧ s.hqe.cmds.find? (fun d => d.op == 0x04 && d.started) = some c ∧ c.qp = 1023 ∧ c.tag = 7 ∧
       s.cmdOf 1023 7 = some c) ∧
    (up.usual ∧ up.asyncQ = []) := by and_intros <;> decide +kernel

/-- A state with context 3071. -/
def streamed (y : Stream) (s : State) : State := { s with streams := [(3071, y)] }

theorem witness_HostCommands_streams :
    (∀ op ∈ [0x11, 0x13, 0x12], let c := aCmd op 3072; let s := queued aQueue [c]; CommandReady s 1023 7 op c aQueue ∧ 3072 ≤ c.target ∧ c.sgl = false) ∧
    (∀ k ∈ [0, 1, 2], ∀ arg ∈ [0, 1], let y : Stream := { state := 2, kind := 2, opened := k != 1, closing := if k = 2 then some (5, 5) else none }
     let c := aCmd 0x11 3071 0 [arg]; let s := streamed y (queued aQueue [c])
     CommandReady s 1023 7 0x11 c aQueue ∧ c.target = 3071 ∧ s.stream 3071 = y ∧ y.saves = [] ∧ y.writes = [] ∧ y.reads = [] ∧ y.held = false ∧ y.state = 2 ∧
       c.arg 0 % 2 = arg ∧ y.kind = 2 ∧ y.ends = [] ∧ y.spillN = 0) ∧
    (∀ st ∈ [0, 1], let c := aCmd 0x13 3071 64; let s := streamed { state := st } (queued aQueue [c])
     CommandReady s 1023 7 0x13 c aQueue ∧ c.target < 3072 ∧ (s.stream c.target).state = st ∧ c.addr0 % 64 = 0) ∧
    (∀ args ∈ [[64, 0], [64, 1], [32, 0]], let y : Stream := { state := 2, kind := 1, opened := true, spillN := 0 }; let c := aCmd 0x12 3071 0x40000 args
     let s := streamed y (queued aQueue [c])
     CommandReady s 1023 7 0x12 c aQueue ∧ c.target = 3071 ∧ c.sgl = false ∧ s.stream 3071 = y ∧ y.opened = true ∧ y.kind = 1 ∧ c.addr0 % 64 = 0 ∧ c.arg 0 = args.getD 0 0 ∧
       (c.arg 1).testBit 0 = (args == [64, 1]) ∧ 0 < c.arg 0 ∧ y.state ≠ 4 ∧ y.finished = false ∧ y.writes = [] ∧ y.reads = [] ∧ y.spillN = 0 ∧ y.ends = []) ∧
    (∀ q2 : Fin 2, let y : Stream := { state := if q2 = 0 then 1 else 3, opened := q2 == 0 }; let c := aCmd 0x14 3071 0 [1]
     let s := streamed y (queued aQueue [c] [(R.hqeSpillFree, F.hqeSpillFree.UNITS, 2)])
     CommandReady s 1023 7 0x14 c aQueue ∧ s.boundStreams = [] ∧ c.target = 3071 ∧ s.stream 3071 = y ∧ Stream.ofRecord [] = none ∧ 0 < c.arg 0 ∧ c.arg 0 ≤ 32768 ∧
       c.arg 0 ≤ s.fld R.hqeSpillFree F.hqeSpillFree.UNITS) := by and_intros <;> decide +kernel

/-- A parameter block of a kind without parameters, with a quota (Table 11-7). -/
def aBlock (kind quota : Nat) : List Byte := bytesLE 56 kind ++ bytesLE 8 quota

set_option maxRecDepth 100000 in
theorem witness_HostCommands_blocks :
    (∀ st ∈ [0, 1], ∀ b ∈ [([] : List Byte), aBlock 2 1], ∀ free ∈ [0, 1],
     let c := aCmd 0x10 3071 0x40000; let s := streamed { state := st } (queued aQueue [c] [(R.hqeSpillFree, F.hqeSpillFree.UNITS, free)])
     CommandReady s 1023 7 0x10 c aQueue ∧ c.target = 3071 ∧ (s.stream 3071).state = st ∧ s.hqe.scrubs = [] ∧ blockOk b = !b.isEmpty ∧
       s.fld R.hqeSpillFree F.hqeSpillFree.UNITS = free ∧ (b ≠ [] → fieldAt b 0x38 4 = 1 ∧ fieldAt b 0 1 ≠ 0)) ∧
    (let y : Stream := { plainContext with state := 3, act2 := 20, thr := [3, 7, 21, 30, 40], rowBase := 0x100000000 }
     (Stream.ofRecord (y.record 3071)).map (fun y0 => y0.state) = some 3) ∧
    (let c := aCmd 0x13 3071 0 [] true; let y : Stream := { plainContext with state := 3, saves := [(1023, 7, 0x40000)] }; let s := streamed y (queued aQueue [c])
     s.usual ∧ PlainQueue s 1023 aQueue ∧ s.cmdOf 1023 7 = some c ∧ (s.stream 3071).saves = [(1023, 7, 0x40000)]) ∧
    (up.usual ∧ (up.stream 3071).saves = [] ∧ (up.stream 3071).closing = none) ∧
    (let c := aCmd 0x11 3071 0 [] true; let y : Stream := { state := 2, opened := true, closing := some (1023, 7), finished := true }; let s := streamed y (queued aQueue [c])
     s.usual ∧ PlainQueue s 1023 aQueue ∧ s.cmdOf 1023 7 = some c ∧ (s.stream 3071).closing = some (1023, 7) ∧ (s.stream 3071).finished = true ∧
       (s.stream 3071).spillN = 0 ∧ (s.stream 3071).writes = [] ∧ (s.stream 3071).state ≠ 4) := by and_intros <;> decide +kernel

theorem witness_HostCommands_jobs :
    (∀ on ∈ [0, 1], ∀ jobs ∈ [[], [({ qp := 5, tag := 5, slot := 15, path := 0, trk := 0, docs := 1 } : Job)]],
     let c := aCmd 0x20 0x3F 0 [9, 8, 256]
     let s := queued aQueue [c] [(R.pathCfg 3, F.pathCfg.EN, on), (R.pathStat 3, F.pathStat.STATE, on), (R.pathLinks 3, F.pathLinks.TRKS, 1)] up { jobs := jobs }
     CommandReady s 1023 7 0x20 c aQueue ∧ bitsOf c.target 4 2 = 3 ∧ bitsOf c.target 0 4 = 15 ∧ s.hqe.jobs = jobs ∧ s.pathOn 3 = (on == 1) ∧ (c.arg 2).testBit 8 = true ∧
       s.fld (R.pathLinks 3) F.pathLinks.TRKS = 1) ∧
    (∀ gmin ∈ [0, 1], let c := aCmd 0x21 3 0 [gmin + 7 * 16, 0x0384_0064]; let s := queued aQueue [c]; CommandReady s 1023 7 0x21 c aQueue ∧ bitsOf c.target 0 2 = 3) ∧
    (∀ p ∈ [(2, 0), (2, 1), (3, 0)], let c := aCmd 0x22 p.1; let s := queued aQueue [c] [(R.auxStat, F.auxStat.STATE, p.2)]
     CommandReady s 1023 7 0x22 c aQueue ∧ s.hqe.calibs = [] ∧ c.target % 4 = p.1 ∧ s.auxIdle = (p.2 == 0) ∧ s.fld R.auxCalCtl F.auxCalCtl.BUSY = 0 ∧
       s.fld R.shdRecStat F.shdRecStat.BUSY = 0) ∧
    (∀ t ∈ [0, 39, 256 + 39], let c := aCmd 0x23 t; let s := queued aQueue [c]; CommandReady s 1023 7 0x23 c aQueue ∧ c.target.testBit 8 = decide (256 ≤ t) ∧ c.target % 64 < 40) ∧
    (∀ cmd ∈ [2, 6, 7, 8], ∀ on ∈ [0, 1], let c := aCmd 0x24 3 0 [cmd]
     let s := queued aQueue [c] [(R.pathCfg 3, F.pathCfg.EN, on), (R.pathStat 3, F.pathStat.STATE, 2 * on)]
     CommandReady s 1023 7 0x24 c aQueue ∧ bitsOf c.target 0 2 = 3 ∧ bitsOf (c.arg 0) 0 4 = cmd ∧ s.pathOn 3 = (on == 1) ∧ s.pathState 3 = 2 * on) ∧
    (∀ cmd ∈ [3, 4, 5, 6], ∀ st ∈ [1, 2], let c := aCmd 0x24 3 0 [cmd] true; let s := queued aQueue [c] [(R.pathCfg 3, F.pathCfg.EN, 1), (R.pathStat 3, F.pathStat.STATE, st)]
     s.usual ∧ PlainQueue s 1023 aQueue ∧ s.cmdOf 1023 7 = some c ∧ c.op = 0x24 ∧ c.started = true ∧ bitsOf (c.arg 0) 0 4 = cmd ∧ s.pathState 3 = st) ∧
    (∀ n ∈ [0x7C00, 0x7C01], ∀ open_ ∈ [false, true], let c := aCmd 0x32 15 0 [0, n]; let u := queued aQueue [c]
     let s : State := if open_ then streamed { opened := true, job := 15 } u else u
     CommandReady s 1023 7 0x32 c aQueue ∧ s.openStreams.any (fun sc => (s.stream sc).job == c.target % 16) = open_ ∧ (s.streams = [] ↔ open_ = false) ∧
       ((List.range 4).map (fun i => (c.arg (2 * i), c.arg (2 * i + 1)))).filter (fun r => r.2 != 0) = [(0, n)]) ∧
    (let c := aCmd 0x32 15 0 [0x7BFF, 1] true; let s := queued aQueue [c] [] up { scrubs := [15] }
     s.usual ∧ PlainQueue s 1023 aQueue ∧ s.cmdOf 1023 7 = some c ∧ c.op = 0x32 ∧ c.started = true ∧ s.streams = []) ∧
    (∀ st ∈ [0, 1], let c := aCmd 0x30 0 0x40000 [imageHead.length + imageRest.length, 0, 0, 0x80000000]; let s := queued aQueue [c] [(R.engStat 95, F.engStat.STATE, st)]
     CommandReady s 1023 7 0x30 c aQueue ∧ c.sgl = false ∧ imageHead.length = 128 ∧ setBits (c.arg 1 + 2 ^ 32 * c.arg 2 + 2 ^ 64 * c.arg 3) 96 = [95] ∧
       (s.loadRefused [95] imageHead (c.arg 0) = 0 ↔ st = 1)) := by and_intros <;> decide +kernel

/-- A FABRIC_OP command of a sub-operation; this node is node 5. -/
def fabricOp (n : Nat) (args : List Nat) (l : List (Nat × Fld × Nat) := []) (s : State := up) : State :=
  queued aQueue [aCmd 0x31 n 0x40000 args] ((R.dlfStat, F.dlfStat.NODE_ID, 5) :: l) s

/-- Node 9 is reached over port 3, which is ACTIVE with credits. -/
def routed : List (Nat × Fld × Nat) :=
  [(R.dlfRt 1, ⟨4, 4⟩, 3), (R.dlStat 3, F.dlStat.STATE, 5), (R.dlCred 3, F.dlCred.VC0, 20), (R.dlCred 3, F.dlCred.VC1, 20)]

theorem witness_FabricOperations :
    (∀ st ∈ [1, 4], let s := fabricOp 1 [] [(R.dlfStat, F.dlfStat.STATE, st)]; CommandReady s 1023 7 0x31 (aCmd 0x31 1 0x40000 []) aQueue ∧ s.fabState = st) ∧
    (let s := fabricOp 2 []; CommandReady s 1023 7 0x31 (aCmd 0x31 2 0x40000 []) aQueue ∧ s.activePorts = []) ∧
    (∀ node ∈ [5, 9, 254], let s := fabricOp 3 [node] ((R.dlfRt 31, ⟨24, 4⟩, 0xF) :: routed); let c := aCmd 0x31 3 0x40000 [node]
     CommandReady s 1023 7 0x31 c aQueue ∧ c.arg 0 = node ∧ (node = s.nodeId ↔ node = 5) ∧ (4 ≤ s.routeTo node ∨ s.portState (s.routeTo node) ≠ 5 ↔ node ≠ 9) ∧
       PlainPort s (s.routeTo 9) 2) ∧
    (∀ op ∈ [4, 5], ∀ node ∈ [5, 9], ∀ len ∈ [63, 64, 65600, 256], let c := aCmd 0x31 op 0x40000 [node, 2 ^ 31 - 256, len]
     let s := fabricOp op [node, 2 ^ 31 - 256, len] [(R.sysPdStat 3, ⟨30, 1⟩, 1)]
     CommandReady s 1023 7 0x31 c aQueue ∧ (node = s.nodeId ↔ node = 5) ∧ (c.arg 2 < 64 ∨ 65536 < c.arg 2 ∨ c.arg 2 % 64 ≠ 0 ∨ 2 ^ 31 < c.arg 1 + c.arg 2 ↔ len = 63 ∨ len = 65600) ∧
       s.pdOn 127 = true ∧ s.sys.bitErrs = [] ∧ s.sys.poison = [] ∧ (List.replicate 64 (0 : Byte)).length = 64) ∧
    (∀ k ∈ [3, 4], ∀ st ∈ [1, 6], ∀ a ∈ [0, 1], let c := aCmd 0x31 6 0x40000 [k, a]; let s := fabricOp 6 [k, a] [(R.dlStat 3, F.dlStat.STATE, st)]
     CommandReady s 1023 7 0x31 c aQueue ∧ c.arg 0 = k ∧ (c.arg 1).testBit 0 = (a == 1) ∧ s.portState 3 = st) ∧
    (∀ node ∈ [5, 254], ∀ e ∈ [0, 95, 96], ∀ n ∈ [15, 16], let c := aCmd 0x31 7 0x40000 [node, e, 9]
     let s := fabricOp 7 [node, e, 9] [(R.dlfRt 31, ⟨24, 4⟩, 0xF)] { up with pack := { engines := [(95, { inbox := List.replicate n (0, 1) })] } }
     CommandReady s 1023 7 0x31 c aQueue ∧ c.arg 0 = node ∧ c.arg 1 = e ∧ (node = s.nodeId ↔ node = 5) ∧ (s.eng 95).inbox.length = n ∧ (4 ≤ s.routeTo 254)) ∧
    (∀ p ∈ [[], [(1023, 7, 9, 100)]], let c := aCmd 0x31 3 0 [9] true; let s : State := let u := queued aQueue [c]; { u with fab := { u.fab with pings := p } }
     s.usual ∧ PlainQueue s 1023 aQueue ∧ s.cmdOf 1023 7 = some c ∧ s.fab.pings = p) ∧
    (let c := aCmd 0x31 6 0 [3] true; let s : State := let u := queued aQueue [c]; { u with fab := { u.fab with releases := [(1023, 7, 3)] } }
     s.settled ∧ s.sec = { warm := s.sec.warm } ∧ PlainQueue s 1023 aQueue ∧ s.cmdOf 1023 7 = some c ∧ s.fab.releases = [(1023, 7, 3)]) := by
  and_intros <;> decide +kernel

theorem witness_FabricBridge :
    (∀ l ∈ [1, 2, 3], let s := setF [(R.hqeStat, F.hqeStat.LINK, l)] up; s.usual ∧ s.fld R.hqeStat F.hqeStat.LINK = l ∧ s.accessible .bar0 R.hqeCtl = true ∧ s.hqe.reads = []) ∧
    (let r : HostRead := { id := 3, addr := 0x10000, len := 64, ring := true, qp := 1023, tag := 0 }
     let s := queued aQueue [] [(R.hqeStat, F.hqeStat.LINK, 2)] up { reads := [r] }
     s.usual ∧ 2 ≤ s.fld R.hqeStat F.hqeStat.LINK ∧ s.hqe.reads = [r] ∧ r.id = (3 : Word).toNat ∧ r.ring = true ∧ s.qp r.qp = some aQueue ∧ aQueue.error = false ∧
       r.qp < 1024 ∧ r.addr < 2 ^ 64 ∧ s.asyncQ.length < 64 ∧ s.fld R.hqeQerr F.hqeQerr.VALID = 0) := by and_intros <;> decide +kernel

/-! ## Witnesses: internal DMA -/

/-- Ring channel 31 stands in a state of Table 12-3 with the descriptor address 0x1000; every domain is on. -/
def ring31 (st : Nat) (c : Chan) (l : List (Nat × Fld × Nat) := []) (desc : Nat := 0x1000) : State :=
  setF ([(R.chStat 31, F.chStat.STATE, st), (R.chCtl 31, F.chCtl.EN, if st = 0 then 0 else 1), (R.chDescLo 31, ⟨0, 32⟩, desc % 2 ^ 32), (R.chDescHi 31, ⟨0, 8⟩, desc / 2 ^ 32)] ++
    (List.range 4).map (fun i => (R.sysPdStat i, ⟨0, 32⟩, 2 ^ 32 - 1)) ++ l) { up with idma := { chans := [(31, c)] } }

/-- The eight words of a descriptor (Table 12-2). -/
def descWords (ctl len src dst tbl : Nat) : List Word :=
  [ctl, len, src % 2 ^ 32, src / 2 ^ 32, dst % 2 ^ 32, dst / 2 ^ 32, tbl % 2 ^ 32, tbl / 2 ^ 32].map (BitVec.ofNat 32)

theorem witness_RingChannelsAreCommanded :
    (∀ st ∈ [0, 1, 2, 3, 4, 5, 6, 7], ∀ on ∈ [0, 1], let s := ring31 st { from_ := 2 } [(R.chStartSel 31, ⟨31, 1⟩, on), (R.chKickSel 31, ⟨31, 1⟩, on), (R.chPaceSel 31, ⟨31, 1⟩, on), (R.chCtl 31, F.chCtl.EN, 1)]
     s.usual ∧ s.chState 31 = st ∧ s.selOn (R.chStartSel 31) = (on == 1) ∧ s.selOn (R.chKickSel 31) = (on == 1) ∧ s.selOn (R.chPaceSel 31) = (on == 1) ∧
       s.fld (R.chCtl 31) F.chCtl.EN = 1 ∧ s.accessible .bar0 (R.chCtl 31) = true ∧ s.fld (R.chCtl 31) F.chCtl.PAUSE = 0) ∧
    (∀ p ∈ [0, 1], F.chCtl.EN.get (F.chCtl.EN.put 0 1) = 1 ∧ F.chCtl.KICK.get (F.chCtl.EN.put 0 1) = 0 ∧ F.chCtl.START.get (F.chCtl.EN.put 0 1) = 0 ∧ F.chCtl.EN.get 0 = 0 ∧
       F.chCtl.PAUSE.get (F.chCtl.PAUSE.put 0 p) = p) ∧
    (∀ us ∈ [0, 1], ∀ p ∈ [0, 1], let s := ring31 2 {} [(R.idmaPoll, F.idmaPoll.US, us), (R.chCtl 31, F.chCtl.PAUSE, p)]
     s.usual ∧ s.chState 31 = 2 ∧ s.fld R.idmaPoll F.idmaPoll.US = us ∧ s.fld (R.chCtl 31) F.chCtl.PAUSE = p) ∧
    (∀ credit ∈ [254, 255], ∀ p ∈ [0, 1], let s := ring31 3 { words := descWords 0x21 64 0x2000 0x3000 0 } [(R.chPace 31, F.chPace.CREDIT, credit), (R.chCtl 31, F.chCtl.PAUSE, p), (R.chPaceSel 31, ⟨31, 1⟩, 1)]
     s.usual ∧ s.chState 31 = 3 ∧ s.selOn (R.chPaceSel 31) = true ∧ s.fld (R.chPace 31) F.chPace.CREDIT = credit ∧ s.fld (R.chCtl 31) F.chCtl.PAUSE = p ∧ (s.chan 31).paced = true) ∧
    (∀ f ∈ [1, 2, 3, 4], let s := ring31 6 { words := descWords 0x21 64 0x2000 0x3000 0, from_ := f } [(R.chKickSel 31, ⟨31, 1⟩, 1)]
     s.usual ∧ s.chState 31 = 6 ∧ (s.chan 31).from_ = f ∧ (s.chan 31).paced = true ∧ s.accessible .bar0 (R.chCtl 31) = true) ∧
    (∀ c ∈ [({} : Chan), { words := descWords 3 1 0 0 0, idx := some 0 }], let s := ring31 4 c [(R.chCtl 31, F.chCtl.PAUSE, 1)]
     s.usual ∧ s.fld (R.chCtl 31) F.chCtl.PAUSE = 1 ∧ s.chState 31 = 4 ∧ (s.chan 31).wait = none ∧ ((s.chan 31).type = 1 ∧ ((s.chan 31).idx ≠ none ∨ (s.chan 31).hold ≠ []) ↔ c.idx = some 0)) ∧
    (∀ st ∈ [1, 4, 5, 7], ∀ wait ∈ [none, some 0, some 1, some 2, some 3, some 4], ∀ ab ∈ [false, true], let s := ring31 st { wait := wait, abort := ab }
     s.usual ∧ s.accessible .bar0 (R.chCtl 31) = true ∧ s.chState 31 = st ∧ (s.chan 31).wait = wait ∧ (s.chan 31).abort = ab) := by and_intros <;> decide +kernel

/-- The same with a descriptor in memory. -/
def ringAt (st : Nat) (c : Chan) (w : List Word) (l : List (Nat × Fld × Nat) := []) : State :=
  (ring31 st c l).setBytes 0x1000 (w.flatMap (fun x => bytesLE 4 x.toNat))

theorem witness_RingChannelsMoveData :
    (∀ st ∈ [1, 4, 5], ∀ wait ∈ [none, some 2], ∀ p ∈ [0, 1], let s := ring31 st { wait := wait } [(R.chCtl 31, F.chCtl.PAUSE, p)]
     s.usual ∧ s.sys.bitErrs = [] ∧ s.chState 31 = st ∧ (s.chan 31).wait = wait ∧ s.fld (R.chCtl 31) F.chCtl.PAUSE = p ∧ (s.chan 31).type = 0) ∧
    (∀ d ∈ [(0x1000, Target.memory 0x1000), (0x8480000000, .remote 9 0), (0x8000000000, .none)], ∀ p ∈ [[], [0x1000]],
     let s : State := let u := ring31 1 {} [] d.1; { u with sys := { u.sys with poison := p } }
     s.usual ∧ s.sys.bitErrs = [] ∧ (s.chan 31).wait = none ∧ s.chState 31 = 1 ∧ s.fld (R.chCtl 31) F.chCtl.PAUSE = 0 ∧ s.target (s.chDesc 31) 32 = d.2 ∧
       (s.poisoned 0x1000 = true ↔ p ≠ [])) ∧
    (∀ ctl ∈ [0x00, 0x01, 0x07, 0x05, 0x21], ∀ k ∈ [false, true], ∀ j ∈ [1022, 1023], ∀ credit ∈ [0, 1],
     let s := ringAt 1 { kicked := k } (descWords ctl (if ctl = 5 then 0 else 64) 0x2000 (if ctl = 5 then 0 else 0x3000) 0) [(R.chStat 31, F.chStat.JCNT, j), (R.chPace 31, F.chPace.CREDIT, credit)]
     let f : Chan := { words := dwords (s.bytes 0x1000 32) }
     s.usual ∧ s.sys.bitErrs = [] ∧ s.sys.poison = [] ∧ (s.chan 31).wait = none ∧ s.chState 31 = 1 ∧ s.fld (R.chCtl 31) F.chCtl.PAUSE = 0 ∧ s.target (s.chDesc 31) 32 = .memory 0x1000 ∧
       f.own = (ctl != 0) ∧ (s.chan 31).kicked = k ∧ f.checks = (ctl != 7) ∧ (f.type == 2) = (ctl == 5) ∧ f.paced = (ctl == 0x21) ∧
       (s.fld (R.chStat 31) F.chStat.JCNT, s.fld (R.chPace 31) F.chPace.CREDIT) = (j, credit)) := by and_intros <;> decide +kernel

/-- A COPY of 32 bytes in steps of 16, its progress as given, its addresses in memory, on another node or nowhere. -/
def copying (ctl a hold done : Nat) : Chan :=
  { words := descWords (0x1201 + ctl) 32 a (a + 0x1000) 0, rd := done + hold, wr := done, hold := List.replicate hold (0, false) }

theorem witness_RingChannelsMoveData_moves :
    (∀ a ∈ [(0x2000, Target.memory 0x2000, Target.memory 0x3000), (0x8480000000, .remote 9 0, .remote 9 0x1000), (0x8000000000, .none, .none)],
     let s := ring31 4 (copying 0 a.1 0 0); let c := s.chan 31
     s.usual ∧ s.sys.bitErrs = [] ∧ s.sys.poison = [] ∧ c.wait = none ∧ s.chState 31 = 4 ∧ c.type = 0 ∧ s.fld (R.chCtl 31) F.chCtl.PAUSE = 0 ∧ c.hold.length < c.dw ∧
       s.target c.srcNow c.sw = a.2.1) ∧
    (∀ a ∈ [(0x2000, Target.memory 0x3000), (0x8480000000, .remote 9 0x1000), (0x8000000000, .none)],
     let s := ring31 4 (copying 0 a.1 16 0); let c := s.chan 31
     s.usual ∧ s.sys.bitErrs = [] ∧ s.sys.poison = [] ∧ c.wait = none ∧ s.chState 31 = 4 ∧ c.type = 0 ∧ s.fld (R.chCtl 31) F.chCtl.PAUSE = 0 ∧ c.dw ≤ c.hold.length ∧
       s.target c.dstNow c.dw = a.2 ∧ c.hold.take c.dw = (List.replicate 16 (0 : Byte)).map (fun b => (b, false)) ∧ c.wr + c.dw < c.len) ∧
    (∀ fence ∈ [0, 8], ∀ last ∈ [0, 0x40], let s := ring31 4 (copying (fence + last) 0x2000 16 16); let c := s.chan 31
     s.usual ∧ s.sys.bitErrs = [] ∧ s.sys.poison = [] ∧ c.wait = none ∧ s.chState 31 = 4 ∧ c.type = 0 ∧ s.fld (R.chCtl 31) F.chCtl.PAUSE = 0 ∧ c.dw ≤ c.hold.length ∧
       s.target c.dstNow c.dw = .memory 0x3010 ∧ c.hold.take c.dw = (List.replicate 16 (0 : Byte)).map (fun b => (b, false)) ∧ c.len ≤ c.wr + c.dw ∧
       s.target (s.chDesc 31) 4 = .memory 0x1000 ∧ c.fenced = (fence == 8) ∧ c.isLast = (last == 0x40)) ∧
    (∀ a ∈ [(0x4000, Target.memory 0x4000), (0x8480000000, .remote 9 0), (0x8000000000, .none)], ∀ len ∈ [1, 2],
     let s := ring31 4 { words := descWords 0x0903 len 0x2000 0x3000 a.1 }; let c := s.chan 31
     s.usual ∧ s.sys.bitErrs = [] ∧ s.sys.poison = [] ∧ c.wait = none ∧ s.chState 31 = 4 ∧ c.type = 1 ∧ s.fld (R.chCtl 31) F.chCtl.PAUSE = 0 ∧ c.idx = none ∧ c.hold = [] ∧
       s.target ((c.tbl + 4 * c.rd) % 2 ^ 40) 4 = a.2 ∧ s.target ((c.src + natLE (s.bytes 0x4000 4) * c.sw) % 2 ^ 40) c.sw = .memory 0x2000 ∧
       s.target (if c.dstFix then c.dst else (c.dst + c.wr * c.sw) % 2 ^ 40) c.sw = .memory 0x3000 ∧ (c.wr + 1 < c.len ↔ len = 2) ∧
       s.target (s.chDesc 31) 4 = .memory 0x1000) := by and_intros <;> decide +kernel

/-- Compatibility channel 7, its addresses as given. -/
def cc7 (x : Cc) (a : Nat) (l : List (Nat × Fld × Nat)) : State :=
  setF ([(R.ccXhi 7, F.ccXhi.SRC, a / 2 ^ 32), (R.ccXhi 7, F.ccXhi.DST, a / 2 ^ 32), (R.ccSar 7, ⟨0, 32⟩, a % 2 ^ 32), (R.ccDar 7, ⟨0, 32⟩, a % 2 ^ 32 + 0x1000)] ++
    (List.range 4).map (fun i => (R.sysPdStat i, ⟨0, 32⟩, 2 ^ 32 - 1)) ++ l) { up with idma := { ccs := [(7, x)] } }

theorem witness_CompatibilityChannels :
    (∀ count ∈ [0, 1], ∀ size ∈ [0, 1, 2, 3], let s := cc7 {} 0x2000 [(R.ccTcr 7, F.ccTcr.COUNT, count)]
     let w : Word := F.ccCcr.SIZE.put 0 size
     s.usual ∧ s.sys.bitErrs = [] ∧ s.sys.poison = [] ∧ s.accessible .bar0 (R.ccCcr 7) = true ∧ s.fld (R.ccCcr 7) F.ccCcr.EN = 0 ∧ s.fld R.idmaErr F.idmaErr.VALID = 0 ∧
       (F.ccCcr.SIZE.get w = 3 ∨ s.fld (R.ccTcr 7) F.ccTcr.COUNT = 0 ∨ s.ccSrc 7 % 2 ^ size ≠ 0 ∨ s.ccDst 7 % 2 ^ size ≠ 0 ∨
         (size ≠ 2 ∧ (touchesMirror (s.ccSrc 7) 1 = true ∨ touchesMirror (s.ccDst 7) 1 = true)) ↔ size = 3 ∨ count = 0)) ∧
    (∀ wait ∈ [none, some 2, some 3], let s := cc7 { wait := wait } 0x2000 [(R.ccCcr 7, F.ccCcr.EN, 1)]
     s.usual ∧ s.sys.bitErrs = [] ∧ s.sys.poison = [] ∧ s.accessible .bar0 (R.ccCcr 7) = true ∧ s.fld (R.ccCcr 7) F.ccCcr.EN = 1 ∧ (s.cc 7).wait = wait) ∧
    (∀ on ∈ [0, 1], ∀ credit ∈ [254, 255], let s := cc7 {} 0x2000 [(R.ccTrigSel 7, ⟨31, 1⟩, on), (R.ccCred 7, F.ccCred.CREDIT, credit)]
     s.usual ∧ s.selOn (R.ccTrigSel 7) = (on == 1) ∧ s.fld (R.ccCred 7) F.ccCred.CREDIT = credit) ∧
    (∀ a ∈ [(0x2000, Target.memory 0x2000, Target.memory 0x3000), (0x8480000000, .remote 9 0, .remote 9 0x1000), (0x8000000000, .none, .none)],
     ∀ en ∈ [0, 1], ∀ trig ∈ [0, 1], ∀ burst ∈ [0, 1], ∀ credit ∈ [0, 1], let s := cc7 { burst := burst } a.1 [(R.ccTcr 7, F.ccTcr.COUNT, 1), (R.ccCcr 7, F.ccCcr.EN, en), (R.ccCcr 7, F.ccCcr.TRIG, trig), (R.ccCred 7, F.ccCred.CREDIT, credit)]
     s.usual ∧ s.fld (R.ccCcr 7) F.ccCcr.EN = en ∧ s.fld (R.ccCcr 7) F.ccCcr.TRIG = trig ∧ (s.cc 7).burst = burst ∧ s.fld (R.ccCred 7) F.ccCred.CREDIT = credit ∧
       (s.cc 7).wait = none ∧ (s.cc 7).hold = [] ∧ (s.cc 7).stop = false ∧ s.target (s.ccSrc 7) (s.ccSize 7) = a.2.1 ∧ s.target (s.ccDst 7) (s.ccSize 7) = a.2.2 ∧
       0 < s.fld (R.ccTcr 7) F.ccTcr.COUNT) := by and_intros <;> decide +kernel

/-! ## Witnesses: fabric links -/

/-- Port 3 stands in a state of Table 13-9, the fabric is enabled, its domain on. -/
def port3 (st : Nat) (x : Port := {}) (l : List (Nat × Fld × Nat) := []) (s : State := up) : State :=
  setF ([(R.dlStat 3, F.dlStat.STATE, st), (R.dlCtl 3, F.dlCtl.EN, if st = 0 then 0 else 1), (R.dlfCfg, F.dlfCfg.EN, 1), (R.sysPdStat 3, ⟨27, 1⟩, 1),
    (R.dlfStat, F.dlfStat.STATE, if st = 5 then 2 else 1)] ++ l) { s with fab := { s.fab with ports := [(3, x)] } }

/-- A packet with number 0 and these payload bytes, as a peer without encryption sends it. -/
def aPacket (type : Nat) (payload : List Byte) (arg : Nat := 0) : Packet :=
  { dst := 0, src := 9, ttl := 15, plen := BitVec.ofNat 9 payload.length, lseq := 0, tag := 0, arg := BitVec.ofNat 32 arg,
    pcrc := BitVec.ofNat 32 (packetCrc type 0 9 0 arg payload), payload := payload, bad := [], trailer := none }

/-- A packet that waits or has been sent. -/
def aTx (n : Nat) : TxPacket := { type := 6, dst := 9, src := 5, ttl := 15, plen := n, tag := 0, arg := 0, pcrc := 0, payload := List.replicate n 0 }

theorem witness_PortsAndLinks :
    (let s := setF [(R.dlCtl 3, F.dlCtl.EN, 1), (R.sysPdStat 3, ⟨27, 1⟩, 1)] up
     s.usual ∧ s.accessible .bar0 R.dlfCfg = true ∧ (∀ j, j < 4 → s.portState j = 0) ∧ s.fld (R.dlCtl 3) F.dlCtl.EN = 1 ∧ s.pdOn 124 = true) ∧
    (∀ st ∈ [0, 1, 2, 3, 4, 5, 6], let s := port3 st { fails := 6 }
     s.usual ∧ s.accessible .bar0 (R.dlCtl 3) = true ∧ s.portState 3 = st ∧ (0 : Word) &&& 0xE = 0 ∧ F.dlCtl.EN.get 1 = 1 ∧ (1 : Word) &&& 0xE = 0 ∧ s.fld R.dlfCfg F.dlfCfg.EN = 1 ∧
       s.pdOn (121 + 3) = true ∧ (s.port 3).replay = [] ∧ (s.port 3).queue = [] ∧ (st = 5 → s.activePorts = [3] ∧ 1 < s.fabState) ∧ s.fab.tsOut = none ∧ s.fab.parent = none) ∧
    (∀ ack ∈ [none, some 4], let s := port3 5 { replay := [({ pkt := aTx 16, lseq := 126 }, 0), ({ pkt := aTx 16, lseq := 127 }, 0)], ack := ack }
     s.usual ∧ s.portState 3 = 5 ∧ (s.port 3).queue = [] ∧ (s.port 3).replay = [({ pkt := aTx 16, lseq := 126 }, 0)] ++ ({ pkt := aTx 16, lseq := 127 }, 0) :: [] ∧
       128 ≤ (255 : BitVec 8).toNat ∧ 127 = (255 : BitVec 8).toNat - 128 ∧ (∀ f ∈ [(({ pkt := aTx 16, lseq := 126 } : Sent), 0)], f.1.lseq ≠ 127) ∧ (0 : BitVec 8).toNat < 128 ∧
       ((s.port 3).ack = none ↔ ack = none)) ∧
    (∀ n ∈ [0, 2], let s := port3 5 { replay := [({ pkt := aTx 16, lseq := 127 }, n)] }
     s.usual ∧ (s.port 3).replay = [({ pkt := aTx 16, lseq := 127 }, n)] ∧ (s.port 3).queue = [] ∧ n < 3 ∧ s.portState 3 = 5 ∧ s.fld (R.dlStat 3) F.dlStat.ENC = 0 ∧ (255 : BitVec 8).toNat = 128 + 127) ∧
    (∀ near ∈ [0, 16], ∀ lock ∈ [0, 1], ∀ far ∈ [2, 3], let s : State := let u := port3 5 {} [(R.dlfTimeStat, F.dlfTimeStat.LOCK, lock)]
       { u with fab := { u.fab with parent := some 3, tsOut := some 100, tsSeq := 9, near := near, far := far, lockedOnce := lock == 1 } }
     s.usual ∧ s.fab.tsOut = some 100 ∧ s.fab.parent = some 3 ∧ (9 : BitVec 8).toNat = s.fab.tsSeq ∧ s.portState 3 = 5 ∧ s.fld R.dlfTimeStat F.dlfTimeStat.LOCK = lock ∧
       s.fab.near = near ∧ s.fab.far = far ∧ s.fab.lockedOnce = (lock == 1) ∧
       (∀ p ∈ [(51, 51), (256, 256), (257, 257), (16385, 16385)], floorDiv (diff56 (100 + p.1) 100 - diff56 100 (100 + p.1) - signed 16 (s.fld (R.dlAsym 3) F.dlAsym.A)) 2 = (p.2 : Int))) ∧
    (∀ prog ∈ [0, 1], ∀ seen ∈ [none, some 8], let s : State := let u := port3 5 {} [(R.lpCfg 7, F.lpCfg.EN, prog), (R.lpCfg 7, F.lpCfg.SRC, 6)]; { u with fab := { u.fab with parent := some 3, seenTick := seen } }
     s.usual ∧ s.fab.parent = some 3 ∧ s.portState 3 = 5 ∧ s.fab.seenTick = seen ∧ (9 : Word).toNat - 1 = 8 ∧ s.sys.time.toNat < (1000 : BitVec 48).toNat ∧ (1000 : BitVec 48).toNat < 2 ^ 47 ∧
       (s.tickPrograms = [] ↔ prog = 0)) ∧
    (∀ credit ∈ [1, 2], let s := port3 5 { queue := [aTx 16] } [(R.dlCred 3, F.dlCred.VC0, credit)]
     s.usual ∧ (s.port 3).queue = [aTx 16] ∧ (s.port 3).replay = [] ∧ (aTx 16).type = 6 ∧ s.activePorts = [3] ∧ 1 < s.fabState ∧
       1 + ((aTx 16).payload.length + 15) / 16 + s.fld (R.dlStat 3) F.dlStat.ENC = 2 ∧ s.credits 3 0 = credit) ∧
    (∀ lim ∈ [0, 1], ∀ st ∈ [3, 5], let s := port3 st {} [(R.dlfGuard, F.dlfGuard.ERR_LIM, lim)]
     s.usual ∧ s.portState 3 = st ∧ (s.sys.time.toNat :: (s.port 3).errs.filter (fun u => decide (s.sys.time.toNat < u + 800000000))).length = 1 ∧ s.fld R.dlfGuard F.dlfGuard.ERR_LIM = lim ∧
       (s.port 3).ack = none ∧ (s.port 3).nak = none ∧ (st = 5 → s.activePorts = [3])) ∧
    (∀ rekey ∈ [false, true], let s := port3 5 { rekey := rekey } [(R.dlStat 3, F.dlStat.ENC, 1), (R.dlCred 3, F.dlCred.VC0, 3)]
     s.usual ∧ s.portState 3 = 5 ∧ s.fld (R.dlStat 3) F.dlStat.ENC = 1 ∧ (s.port 3).rekey = rekey ∧ (s.port 3).queue = [] ∧ (s.port 3).replay.length < 64 ∧ 3 ≤ s.credits 3 0) := by
  and_intros <;> decide +kernel

/-- The fabric key, nonces and UIDs of an exchange. -/
def aKey16 : List Byte := (List.range 16).map (BitVec.ofNat 8)
def aNonce : List Byte := List.replicate 16 7

/-- The proof that port 3's peer with UID 0x11 sends, the right one or not. -/
def aProof (right : Bool) (uid : Nat) : List Byte :=
  let m := hmac aKey16 ([0x44, 0x4C, 0x46, 0x31, if uid < 0x11 then 0x48 else 0x4C] ++
    (if uid < 0x11 then bytesLE 8 uid ++ bytesLE 8 0x11 ++ aNonce ++ aNonce else bytesLE 8 0x11 ++ bytesLE 8 uid ++ aNonce ++ aNonce))
  if right then m else m.map (fun b => ~~~b)

set_option maxRecDepth 100000 in
theorem witness_PortsAndLinks_auth :
    (let s := port3 3 { key := aKey16, nonce := aNonce } [(R.dlCred 3, F.dlCred.VC0, 4)]
     let p := aPacket 7 ([1, 0, 0, 0] ++ bytesLE 8 0x11 ++ aNonce ++ [2])
     s.usual ∧ GoodPacket s 3 7 p ∧ s.portState 3 = 3 ∧ (s.port 3).replay = [] ∧ (s.port 3).queue = [] ∧ aNonce.length = 16 ∧ (2 : Byte).getLsbD 1 = true ∧
       (s.port 3).key ≠ [] ∧ 0x11 ≠ s.uid ∧ 4 ≤ s.credits 3 0) ∧
    (∀ right ∈ [true, false], let s := port3 4 { key := aKey16, nonce := aNonce, peerNonce := aNonce } [(R.dlCred 3, F.dlCred.VC0, 2), (R.dlPeerLo 3, ⟨0, 32⟩, 0x11)]
     let proof := aProof right s.uid
     let p := aPacket 7 ([2, 0, 0, 0] ++ proof)
     s.usual ∧ GoodPacket s 3 7 p ∧ proof.length = 32 ∧ s.portState 3 = 4 ∧ (s.port 3).replay = [] ∧ (s.port 3).queue = [] ∧ s.peerUid 3 = 0x11 ∧ 2 ≤ s.credits 3 0) ∧
    (∀ st ∈ [4, 5], ∀ n ∈ [2, 3], let s := port3 st; let p := aPacket 7 [BitVec.ofNat 8 n, 0, 0, 0]
     s.usual ∧ GoodPacket s 3 7 p ∧ s.portState 3 = st ∧ p.payload = [BitVec.ofNat 8 n, 0, 0, 0] ∧ (s.port 3).rekey = false ∧ (st = 5 → s.activePorts = [3] ∧ 1 < s.fabState)) := by
  and_intros <;> decide +kernel

/-- Port 3 is ACTIVE with credits and tokens; this node is node 5, node 9 lies behind port 3. -/
def wired (l : List (Nat × Fld × Nat) := []) (s : State := up) (x : Port := {}) : State :=
  port3 5 { x with msgTok := 800000, reqTok := 8000 } ([(R.dlCred 3, F.dlCred.VC0, 64), (R.dlCred 3, F.dlCred.VC1, 64), (R.dlfStat, F.dlfStat.NODE_ID, 5), (R.dlfRt 1, ⟨4, 4⟩, 3),
    (R.dlfRt 1, ⟨8, 4⟩, 2), (R.sysPdStat 3, ⟨30, 1⟩, 1)] ++ l) s

/-- A packet of a type for a node, with TAG and ARG. -/
def toNode (dst type : Nat) (payload : List Byte) (tag : Nat := 0) (arg : Nat := 0) (plen : Nat := payload.length) (ttl : Nat := 15) : Packet :=
  { dst := BitVec.ofNat 8 dst, src := 9, ttl := BitVec.ofNat 4 ttl, plen := BitVec.ofNat 9 plen, lseq := 0, tag := BitVec.ofNat 16 tag, arg := BitVec.ofNat 32 arg,
    pcrc := BitVec.ofNat 32 (packetCrc type dst 9 tag arg payload), payload := payload, bad := [], trailer := none }

/-- Window 7 lets node 9 read and write the first 64 KiB. -/
def window7 : List (Nat × Fld × Nat) :=
  [(R.dlfRwinA 7, F.dlfRwinA.EN, 1), (R.dlfRwinA 7, F.dlfRwinA.RD, 1), (R.dlfRwinA 7, F.dlfRwinA.WR, 1), (R.dlfRwinB 7, F.dlfRwinB.SRC, 9), (R.dlfRwinB 7, F.dlfRwinB.SIZE, 1)]

/-- The request is allowed through some window (R450). -/
abbrev allowed (s : State) (p : Packet) (write : Bool) : Prop :=
  p.arg.toNat + p.plen.toNat ≤ 0x7C000000 ∧ 0 < p.plen.toNat ∧ ∃ i, i < 8 ∧
    s.fld (R.dlfRwinA i) F.dlfRwinA.EN = 1 ∧ (if write then s.fld (R.dlfRwinA i) F.dlfRwinA.WR else s.fld (R.dlfRwinA i) F.dlfRwinA.RD) = 1 ∧
    (s.fld (R.dlfRwinB i) F.dlfRwinB.SRC = 0 ∨ s.fld (R.dlfRwinB i) F.dlfRwinB.SRC = p.src.toNat) ∧ s.fld (R.dlfRwinA i) F.dlfRwinA.BASE * 65536 ≤ p.arg.toNat ∧
    p.arg.toNat + p.plen.toNat ≤ (s.fld (R.dlfRwinA i) F.dlfRwinA.BASE + s.fld (R.dlfRwinB i) F.dlfRwinB.SIZE) * 65536

set_option synthInstance.maxSize 4000 in
theorem witness_FabricPackets_requests :
    (∀ arg ∈ [0xFFF0, 0xFFF4], let s := wired window7; let p := toNode 5 1 [] 7 arg 16
     s.sys.bitErrs = [] ∧ s.sys.poison = [] ∧ Arrives s 3 1 17 p ∧ p.dst.toNat = s.nodeId ∧ s.nodeId ≠ 0 ∧ s.nodeId ≠ 255 ∧ s.routeTo 9 = 3 ∧ s.pdOn 127 = true ∧ (allowed s p false ↔ arg = 0xFFF0)) ∧
    (∀ arg ∈ [0xFFF0, 0xFFF4], let s := wired window7; let p := toNode 5 2 (List.replicate 16 3) 7 arg
     s.sys.bitErrs = [] ∧ s.sys.poison = [] ∧ Arrives s 3 2 17 p ∧ p.dst.toNat = s.nodeId ∧ s.routeTo 9 = 3 ∧ s.pdOn 127 = true ∧ p.bad = [] ∧ (allowed s p true ↔ arg = 0xFFF0)) := by
  and_intros <;> decide +kernel

/-- Channel 31 waits for another node. -/
def waiting31 (kind : Nat) (rs : List Remote) (ws : List Remote := []) : State :=
  let s := wired [(R.chStat 31, F.chStat.STATE, 4)] { up with idma := { chans := [(31, { copying 0 0x8480000000 (if kind = 3 then 16 else 0) 0 with wait := some kind })] } }
  { s with fab := { s.fab with remotes := rs, waiting := ws } }

set_option synthInstance.maxSize 4000 in
theorem witness_FabricPackets_responses :
    (∀ t ∈ [3, 4], let s := wired; let p := toNode 5 t (if t = 3 then List.replicate 16 3 else []) 7
     s.sys.bitErrs = [] ∧ s.sys.poison = [] ∧ Arrives s 3 t 0 p ∧ p.dst.toNat = s.nodeId ∧ s.fab.remotes = []) ∧
    (∀ t ∈ [3, 4], let r : Remote := { who := .ring 31, node := 9, off := 0, len := 16, write := t == 4, tag := 7 }
     let s := waiting31 (t - 1) [r]; let p := toNode 5 t (if t = 3 then List.replicate 16 3 else []) 7; let c := s.chan 31
     s.sys.bitErrs = [] ∧ s.sys.poison = [] ∧ Arrives s 3 t 0 p ∧ p.dst.toNat = s.nodeId ∧ s.fab.remotes = [r] ∧ p.arg.toNat % 256 = 0 ∧ p.bad = [] ∧ c.type = 0 ∧ c.abort = false ∧
       c.wait = some (if t = 4 then 3 else 2) ∧ c.wr + c.dw < c.len) ∧
    (let r : Remote := { who := .ring 31, node := 9, off := 0, len := 16, write := false, tag := 7 }; let s := waiting31 2 [r]
     s.usual ∧ s.fab.remotes = [r] ∧ r.tag = (7 : BitVec 16).toNat ∧ r.node < 255 ∧ s.routeTo r.node < 4 ∧ (s.chan 31).wait ≠ none ∧ (s.chan 31).abort = false ∧ s.fab.waiting = [] ∧
       s.fld R.dlfErr F.dlfErr.VALID = 0 ∧ ∀ r' ∈ s.fab.remotes, r'.tag ≠ (8 : BitVec 16).toNat) ∧
    (∀ w ∈ [false, true], let r : Remote := { who := .ring 31, node := 9, off := 0, len := 16, write := w, data := if w then List.replicate 16 (1, false) else [] }; let s := waiting31 2 [] [r]
     s.usual ∧ s.fab.waiting = r :: [] ∧ s.fab.remotes.length < 64 ∧ r.data = r.data.map (fun b => (b.1, false)) ∧ r.data.length ≤ 256 ∧ PlainPort s (s.routeTo r.node) (1 + (r.data.length + 15) / 16)) ∧
    (up.usual ∧ up.fab.waiting = []) := by and_intros <;> decide +kernel

set_option synthInstance.maxSize 4000 in
theorem witness_FabricPackets_others :
    (∀ d ∈ [0, 5, 255], let s := wired; let p := toNode d 6 [6, 0, 0, 0]; s.usual ∧ (p.dst = 0 ∨ p.dst = 255 ∨ p.dst.toNat = s.nodeId)) ∧
    (∀ ttl ∈ [1, 2], ∀ t ∈ [3, 6], let u := wired [(R.dlStat 2, F.dlStat.STATE, 5), (R.dlCred 2, F.dlCred.VC0, 64), (R.dlCred 2, F.dlCred.VC1, 64)]; let p := toNode 10 t (List.replicate 16 3) 0 0 16 ttl
     u.sys.bitErrs = [] ∧ u.sys.poison = [] ∧ Arrives u 3 t 0 p ∧ p.dst ≠ 0 ∧ p.dst ≠ 255 ∧ p.dst.toNat ≠ u.nodeId ∧ u.routeTo p.dst.toNat = 2 ∧ (2 ≤ p.ttl.toNat ↔ ttl = 2) ∧ PlainPort u 2 2) ∧
    (∀ d ∈ [0, 5], let s := wired; let p := toNode d 6 ([6, 0, 0, 0] ++ List.replicate 8 1)
     s.sys.bitErrs = [] ∧ s.sys.poison = [] ∧ Arrives s 3 6 2 p ∧ (p.dst.toNat = s.nodeId ∨ p.dst = 0) ∧ s.routeTo 9 = 3) ∧
    (let c := aCmd 0x31 3 0 [9] true; let q := queued aQueue [c]; let u := wired [(R.hqeStat, F.hqeStat.LINK, 1), (R.hqeMsixCtrl 255, F.hqeMsixCtrl.MASK, 0)] { up with hqe := q.hqe }
     let s : State := { u with fab := { u.fab with pings := [(1023, 7, 9, 100)] } }; let p := toNode 5 6 ([7, 0, 0, 0] ++ bytesLE 8 100)
     s.sys.bitErrs = [] ∧ s.sys.poison = [] ∧ Arrives s 3 6 2 p ∧ s.fab.pings = [(1023, 7, 9, natLE (bytesLE 8 100))] ∧ s.cmdOf 1023 7 = some c ∧ PlainQueue s 1023 aQueue) ∧
    (∀ n ∈ [15, 16], let s := wired [] { up with pack := { engines := [(95, { inbox := List.replicate n (0, 1) })] } }; let p := toNode 5 6 ([8, 0, 0, 0, 95, 0, 0, 0] ++ bytesLE 4 9)
     s.sys.bitErrs = [] ∧ s.sys.poison = [] ∧ Arrives s 3 6 2 p ∧ p.payload = [8, 0, 0, 0, 95, 0, 0, 0] ++ bytesLE 4 (9 : Word).toNat ∧ (s.eng 95).inbox.length = n) ∧
    (∀ node ∈ [9, 8], ∀ done ∈ [0, 10], ∀ tick ∈ [9, 13], let u := wired [(R.stCfg 15, F.stCfg.EN, 1), (R.stCfg 15, F.stCfg.ROLE, 1), (R.stCfg 15, F.stCfg.NODE, node), (R.stGeom 15, F.stGeom.WIDTH, 2)]
     let s : State := { u with fab := { u.fab with lastTick := [(u.fld (R.stCfg 15) F.stCfg.PLANE, done)] } }
     let p := toNode 5 5 [1, 0, 2, 0] (15 * 4096) tick
     s.sys.bitErrs = [] ∧ s.sys.poison = [] ∧ Arrives s 3 5 0 p ∧ p.tag.toNat / 4096 = 15 ∧ p.arg.toNat = tick ∧ F.stCfg.EN.get (s.reg (R.stCfg 15)) = 1 ∧
       F.stCfg.ROLE.get (s.reg (R.stCfg 15)) = 1 ∧ (F.stCfg.NODE.get (s.reg (R.stCfg 15)) = p.src.toNat ↔ node = 9) ∧
       Table.get (fun _ => []) s.fab.held (F.stCfg.PLANE.get (s.reg (R.stCfg 15))) = [] ∧ p.bad = [] ∧ Table.get (fun _ => 0) s.fab.lastTick (F.stCfg.PLANE.get (s.reg (R.stCfg 15))) = done) := by
  and_intros <;> decide +kernel

/-- A DISC message of a neighbour with priority and lead priority. -/
def aDisc (pri dist : Nat) : List Byte :=
  [1, 0, 0, 0] ++ bytesLE 8 0x11 ++ [BitVec.ofNat 8 pri, 9, 0, 0] ++ bytesLE 8 0x11 ++ [BitVec.ofNat 8 pri, BitVec.ofNat 8 dist] ++ bytesLE 2 1

set_option synthInstance.maxSize 4000 in
set_option maxRecDepth 100000 in
theorem witness_FormationAndStitching :
    (let s := wired; s.usual ∧ (∀ j ∈ s.activePorts, PlainPort s j 3) ∧ s.activePorts = [3] ∧ s.fab.leadPri = none) ∧
    (∀ st ∈ [2, 3, 4], ∀ pri ∈ [254, 255], let s := wired [(R.dlfStat, F.dlfStat.STATE, st)]; let p := toNode 0 6 (aDisc pri 14)
     Arrives s 3 6 3 p ∧ p.dst = 0 ∧ p.payload.length = 28 ∧ p.payload.take 4 = [1, 0, 0, 0] ∧ s.fabState = st ∧ s.fld R.dlfCfg F.dlfCfg.PRI ≤ 255) ∧
    (∀ lead ∈ [0, 1], let u := wired [(R.dlfStat, F.dlfStat.LEAD, lead), (R.dlStat 2, F.dlStat.STATE, 5), (R.dlCred 2, F.dlCred.VC0, 64), (R.dlCred 2, F.dlCred.VC1, 64)]
     let s : State := { u with fab := { u.fab with parent := some 2 } }
     let p := toNode 0 6 ([2, 0, 0, 0] ++ bytesLE 8 0x22 ++ [0, 0, 14] ++ List.replicate 47 0)
     Arrives s 3 6 16 p ∧ p.dst = 0 ∧ p.payload.take 4 = [2, 0, 0, 0] ∧ p.payload.length = 62 ∧ fieldAt p.payload 14 1 = 14 ∧ s.fld R.dlfStat F.dlfStat.LEAD = lead ∧ s.fab.parent = some 2 ∧
       PlainPort s 2 5) ∧
    (∀ e ∈ [0x7FFF, 0x8000], ∀ own ∈ [false, true], ∀ n ∈ [0, 15], let s := wired [(R.dlStat 2, F.dlStat.STATE, 5), (R.dlCred 2, F.dlCred.VC0, 64), (R.dlCred 2, F.dlCred.VC1, 64), (R.dlfEpoch, F.dlfEpoch.EPOCH, 0)]
     let body (k : Byte) (len : Nat) : List Byte := [k, 0, 0, 0] ++ bytesLE 2 e ++ bytesLE 8 (if own then s.uid else 0x22) ++ List.replicate len 0
     let p := toNode 0 6 ([3, 0, 0, 0] ++ bytesLE 2 e ++ bytesLE 8 (if own then s.uid else 0x22) ++ [7, BitVec.ofNat 8 n, 2] ++ List.replicate 14 0)
     let q := toNode 0 6 (body 4 145)
     Arrives s 3 6 16 p ∧ p.dst = 0 ∧ p.payload.take 4 = [3, 0, 0, 0] ∧ p.payload.length = 31 ∧ ((e + 65536 - s.fld R.dlfEpoch F.dlfEpoch.EPOCH) % 65536 < 32768 ↔ e = 0x7FFF) ∧
       fieldAt p.payload 4 2 = e ∧ (fieldAt p.payload 6 8 = s.uid ↔ own = true) ∧ fieldAt p.payload 15 1 = n ∧ fieldAt p.payload 16 1 = 2 ∧ PlainPort s 2 3 ∧
       Arrives s 3 6 16 q ∧ q.payload.take 4 = [4, 0, 0, 0] ∧ q.payload.length = 159 ∧ fieldAt q.payload 14 1 = 0) := by and_intros <;> decide +kernel

set_option synthInstance.maxSize 4000 in
theorem witness_FormationAndStitching_end :
    (∀ st ∈ [2, 3, 4], let u := wired [(R.dlfStat, F.dlfStat.STATE, st)]; let s : State := { u with fab := { u.fab with assigned := some 1, routed := some 1 } }
     let p := toNode 255 6 ([5, 0, 0, 0] ++ bytesLE 2 1 ++ [9, 2])
     Arrives s 3 6 0 p ∧ p.dst = 255 ∧ p.payload.take 4 = [5, 0, 0, 0] ∧ p.payload.length = 8 ∧ s.treePorts (some 3) = [] ∧ s.fab.reforms = [] ∧
       (fieldAt p.payload 4 2 + 65536 - s.fld R.dlfEpoch F.dlfEpoch.EPOCH) % 65536 < 32768 ∧ s.fab.assigned = some (fieldAt p.payload 4 2) ∧ s.fab.routed = some (fieldAt p.payload 4 2) ∧
       s.fabState = st) ∧
    (∀ lead ∈ [0, 1], ∀ st ∈ [2, 3, 4], let s := setF [(R.dlfStat, F.dlfStat.LEAD, lead), (R.dlfStat, F.dlfStat.STATE, st)] up
     s.usual ∧ s.fld R.dlfStat F.dlfStat.LEAD = lead ∧ s.fabState = st ∧ s.fab.topo = [] ∧ s.fab.reforms = []) ∧
    (∀ src ∈ [5, 6], ∀ node ∈ [9, 255], ∀ width ∈ [0, 2], ∀ role ∈ [0, 1], ∀ size ∈ [0, 1],
     let s := wired [(R.plCfg 47, F.plCfg.EN, 1), (R.lpCfg 0, F.lpCfg.SRC, src), (R.stGeom 15, F.stGeom.WIDTH, width), (R.sysAbpCfg 15, F.sysAbpCfg.SIZE, size)]
     let w : Word := F.stCfg.PLANE.put (F.stCfg.NODE.put (F.stCfg.ABP.put (F.stCfg.ROLE.put 0 role) 15) node) 47
     s.usual ∧ s.accessible .bar0 (R.stCfg 15) = true ∧ s.fld (R.stCfg 15) F.stCfg.EN = 0 ∧ F.stCfg.PLANE.get w = 47 ∧ F.stCfg.NODE.get w = node ∧ F.stCfg.ABP.get w = 15 ∧
       F.stCfg.ROLE.get w = role ∧ s.fld (R.plCfg 47) F.plCfg.EN = 1 ∧ s.fld (R.lpCfg (s.fld (R.grpCtl (s.fld (R.plCfg 47) F.plCfg.GRP)) F.grpCtl.LP)) F.lpCfg.SRC = src ∧
       s.fld (R.stGeom 15) F.stGeom.WIDTH = width ∧ decide (s.partBytes 15 < 8 * 2) = (size == 0) ∧ s.owner (.partition 15) = 0 ∧ (size = 1 → s.partInvalid 15 = false ∧ s.partClash 15 = none)) ∧
    (∀ en ∈ [0, 1], ∀ got ∈ [[], [(0, 5), (1, 6)]],
     let l : StitchLine := { y := 3, tick := 7, vals := [1, 2, 3], bad := [], rep := false }
     let u := wired [(R.stCfg 15, F.stCfg.EN, en), (R.stCfg 15, F.stCfg.ROLE, 1), (R.stCfg 15, F.stCfg.PLANE, 47), (R.stGeom 15, F.stGeom.WIDTH, 2)]
     let s : State := { u with fab := { u.fab with held := [(47, [l])], stitch := [(15, { chunks := [(7, got)] })] } }
     s.usual ∧ s.fld (R.stCfg 15) F.stCfg.EN = en ∧ s.fld (R.stCfg 15) F.stCfg.ROLE = 1 ∧ Table.get (fun _ => []) s.fab.held (F.stCfg.PLANE.get (s.reg (R.stCfg 15))) = [l] ∧
       (∀ d, d < 16 → d ≠ 15 → ¬((s.fld (R.stCfg d) F.stCfg.EN = 1 ∧ s.fld (R.stCfg d) F.stCfg.ROLE = 1) ∧ s.fld (R.stCfg d) F.stCfg.PLANE = 47)) ∧ s.sliceWhole 15 l.tick = !got.isEmpty) := by
  and_intros <;> decide +kernel

/-! ## Witnesses: halter port -/

/-- A request with its check: over USB its CRC-32C, over SMBus its PEC or none. -/
def usbReq (code : Nat) (data : List Byte) : HaltRequest :=
  { usb := true, data := data, check := some (crc32c ([BitVec.ofNat 8 code, BitVec.ofNat 8 data.length] ++ data)) }
def busReq (s : State) (code : Nat) (data : List Byte) (pec : Bool) : HaltRequest :=
  { usb := false, data := data
    check := if pec then some (BitVec.ofNat 32 (crc8 ([BitVec.ofNat 8 (2 * (0x58 + s.fld R.sysStrap F.sysStrap.HLT_ADDR)), BitVec.ofNat 8 code, BitVec.ofNat 8 data.length] ++ data)).toNat) else none }

/-- The halter with its own state set. -/
def halted (h : Hlt → Hlt) (l : List (Nat × Fld × Nat) := []) : State := setF l { up with hlt := h up.hlt }

set_option synthInstance.maxSize 4000 in
theorem witness_HalterPort_requests :
    (∀ code ∈ [0x01, 0x02, 0x04, 0x13, 0x21, 0x24, 0x31, 0x40], ∀ d ∈ [[], [(1 : Byte)]],
      up.usual ∧ up.asyncQ.length < 64 ∧ HalterAccepts up code (usbReq code d) ∧ HalterAccepts up code (busReq up code d true) ∧
      (HalterAccepts up code (busReq up code d false) ↔ code ≠ 0x21) ∧ ¬HalterAccepts up code { usbReq code d with check := some 0 } ∧ (usbReq code d).usb = true) ∧
    (∀ w ∈ [some (some true), some (some false), some none], let s := halted (fun h => { h with waking := w }); s.usual ∧ s.asyncQ.length < 64 ∧ s.hlt.waking = w) ∧
    (∀ a ∈ [false, true], let s := halted (fun h => { h with alertN := a }); s.usual ∧ s.hlt.alertN = a) ∧
    (∀ run ∈ [0, 1], ∀ p ∈ [(R.hltCfg, 1), (0, 1), (0xFFFFC, 1), (0xFFFFC, 2), (1, 1), (0, 60), (0, 61), (0, 0)],
      let s : State := let u := setF [(R.hltStat, F.hltStat.MAIN_RUN, run), (R.sysClkStat, F.sysClkStat.PLL_LOCK, run)] State.reset; u
      let r := usbReq 0x02 (bytesLE 3 p.1 ++ bytesLE 1 p.2); let d := r.data
      s.usual ∧ s.asyncQ.length < 64 ∧ HalterAccepts s 0x02 r ∧ s.fld R.hltStat F.hltStat.MAIN_RUN = run ∧ fieldAt d 0 3 = p.1 ∧ fieldAt d 3 1 = p.2 ∧
        (d.length ≠ 4 ∨ fieldAt d 0 3 % 4 ≠ 0 ∨ fieldAt d 3 1 = 0 ∨ 60 < fieldAt d 3 1 ∨ 0x100000 < fieldAt d 0 3 + 4 * fieldAt d 3 1 ↔ p ∉ [(R.hltCfg, 1), (0, 1), (0xFFFFC, 1), (0, 60)])) ∧
    (∀ run ∈ [0, 1], ∀ a ∈ [R.hltCfg, 0xFFFFF, 0x100000], let s := setF [(R.hltStat, F.hltStat.MAIN_RUN, run), (R.sysClkStat, F.sysClkStat.PLL_LOCK, run)] State.reset
      let r := usbReq 0x03 (bytesLE 3 a ++ bytesLE 4 1); let d := r.data
      s.usual ∧ s.asyncQ.length < 64 ∧ HalterAccepts s 0x03 r ∧ (d.length ≠ 7 ∨ 0x100000 ≤ fieldAt d 0 3 ↔ a = 0x100000)) := by and_intros <;> decide +kernel

/-- The halter's critical hold lasts and a sensor is still hot, or not. -/
abbrev lockedHold (s : State) : Prop :=
  s.hlt.critHold = true ∧ ∃ n, n < 4 ∧ signed 16 (s.fld R.hltThr F.hltThr.HI) ≤ signed 16 (s.fld (R.hltTs n) F.hltTs.T)

set_option synthInstance.maxSize 4000 in
theorem witness_HalterPort_resets :
    (∀ k ∈ [0, 1, 2, 3, 4, 5], let r := usbReq 0x04 [BitVec.ofNat 8 k]
     up.usual ∧ up.asyncQ.length < 64 ∧ HalterAccepts up 0x04 r ∧ r.data = [BitVec.ofNat 8 k] ∧ up.sys.resetting ≠ 1 ∧ up.fld R.hltStat F.hltStat.MAIN_RUN = 1 ∧ up.sys.resetting = 0 ∧
       up.eff = [] ∧ up.fld R.sysStrap F.sysStrap.BOOT_SRC ≠ 3 ∧ up.fld R.hltStat F.hltStat.HOLD = 0) ∧
    (∀ hot ∈ [false, true], let s : State := let u := setF [(R.hltStat, F.hltStat.HOLD, 1), (R.hltTs 3, F.hltTs.T, if hot then 32767 else 0)] State.reset
       { u with hlt := { u.hlt with critHold := hot }, sys := { u.sys with resetting := 2 } }
     let r := usbReq 0x04 [4]; let q := usbReq 0x05 [1]
     s.usual ∧ s.asyncQ.length < 64 ∧ HalterAccepts s 0x04 r ∧ HalterAccepts s 0x05 q ∧ s.fld R.hltStat F.hltStat.MAIN_RUN = 0 ∧ s.fld R.hltStat F.hltStat.HOLD = 1 ∧ (lockedHold s ↔ hot = true) ∧
       s.sys.porstLow = false ∧ s.sys.railsBad = [] ∧ s.hlt.pulse = false) ∧
    (∀ k ∈ [0, 1, 2], let r := usbReq 0x05 [BitVec.ofNat 8 k]
     up.usual ∧ up.asyncQ.length < 64 ∧ HalterAccepts up 0x05 r ∧ ¬lockedHold up ∧ up.fld R.hltStat F.hltStat.HOLD = 0 ∧ up.sys.resetting ≠ 1 ∧ (1 < fieldAt r.data 0 1 ↔ k = 2)) := by
  and_intros <;> decide +kernel

/-- A flash address may be written (R480). -/
abbrev flashWritable (s : State) (a : Nat) : Prop :=
  0x1000000 ≤ a ∨ (a < 0x800000 ∧ s.fld R.hltCfg F.hltCfg.BOOT_WE = 1) ∨ (0x800000 ≤ a ∧ a < 0x1000000 ∧ s.fld R.hltCfg F.hltCfg.CAL_WE = 1)

set_option synthInstance.maxSize 4000 in
theorem witness_HalterPort_flash :
    (∀ b ∈ [0, 1], ∀ n ∈ [0, 1, 240, 241], let s := setF [(R.hltFlStat, F.hltFlStat.BUSY, b)] up; let r := usbReq 0x10 (bytesLE 4 0xFFFFFF00 ++ [BitVec.ofNat 8 n])
     s.usual ∧ s.asyncQ.length < 64 ∧ HalterAccepts s 0x10 r ∧ (r.data.length ≠ 5 ∨ fieldAt r.data 4 1 = 0 ∨ 240 < fieldAt r.data 4 1 ↔ n ∈ [0, 241]) ∧
       (s.fld R.hltFlStat F.hltFlStat.BUSY = 1 ∨ s.fld R.hltStat F.hltStat.SAVE = 1 ↔ b = 1)) ∧
    (∀ we ∈ [0, 1], ∀ a ∈ [0x7FF000, 0x800000, 0x1000000, 0x1000800], let s := setF [(R.hltCfg, F.hltCfg.BOOT_WE, we)] up; let r := usbReq 0x11 (bytesLE 4 a ++ [0])
     s.usual ∧ s.asyncQ.length < 64 ∧ HalterAccepts s 0x11 r ∧
       (r.data.length ≠ 5 ∨ 1 < fieldAt r.data 4 1 ∨ fieldAt r.data 0 4 % 4096 ≠ 0 ∨ ¬flashWritable s (fieldAt r.data 0 4) ↔ ¬(a = 0x1000000 ∨ (we = 1 ∧ a = 0x7FF000)))) ∧
    (∀ n ∈ [0, 1, 16, 17], let s := up; let r := usbReq 0x12 (bytesLE 4 0x10000F0 ++ List.replicate n 5)
     s.usual ∧ s.asyncQ.length < 64 ∧ HalterAccepts s 0x12 r ∧
       ((r.data.drop 4).length = 0 ∨ 240 < (r.data.drop 4).length ∨ 256 < fieldAt r.data 0 4 % 256 + (r.data.drop 4).length ∨ ¬flashWritable s (fieldAt r.data 0 4) ↔ n ∈ [0, 17])) ∧
    (∀ b ∈ [0, 1], ∀ d ∈ [[], [(1 : Byte)]], let s := setF [(R.hltStat, F.hltStat.SAVE, b)] up; s.usual ∧ s.asyncQ.length < 64 ∧ HalterAccepts s 0x13 (usbReq 0x13 d)) ∧
    (∀ p ∈ [(0x11, 4096, []), (0x12, 240, List.replicate 240 (5 : Byte))], let s := halted (fun h => { h with flashOp := some (p.1, 0x1000000, p.2.1, p.2.2) })
     s.usual ∧ s.asyncQ.length < 64 ∧ s.hlt.flashOp = some (p.1, 0x1000000, p.2.1, p.2.2) ∧ (p.2.1 = p.2.2.length ∨ p.1 = 0x11)) := by and_intros <;> decide +kernel

/-- An OTP byte may be programmed (R490). -/
abbrev otpMay (s : State) (x : Nat) : Prop :=
  (0x28 ≤ x ∧ x < 0x48 ∧ (s.otpByte 0x49).getLsbD 0 = false) ∨ (x = 0x48 ∧ (s.otpByte 0x49).getLsbD 1 = false) ∨ x = 0x49 ∨
    (0x100 ≤ x ∧ x < 0x400 ∧ (s.otpByte 0x49).getLsbD 2 = false)

set_option synthInstance.maxSize 4000 in
theorem witness_HalterPort_keys :
    (∀ p ∈ [(0x3C0, 64), (0x3C1, 64), (0, 0), (0, 65)], let r := usbReq 0x20 (bytesLE 2 p.1 ++ [BitVec.ofNat 8 p.2])
     up.usual ∧ up.asyncQ.length < 64 ∧ HalterAccepts up 0x20 r ∧ (r.data.length ≠ 3 ∨ fieldAt r.data 2 1 = 0 ∨ 64 < fieldAt r.data 2 1 ∨ 1024 < fieldAt r.data 0 2 + fieldAt r.data 2 1 ↔ p ≠ (0x3C0, 64))) ∧
    (∀ we ∈ [0, 1], ∀ p ∈ [(0x3E0, 32), (0x3DF, 33), (0x3E1, 32), (0x27, 1), (0x28, 32), (0x48, 2), (0x4A, 1), (0xFF, 1), (0x100, 1)], let s := setF [(R.hltCfg, F.hltCfg.OTP_WE, we)] up
     let r := usbReq 0x21 (bytesLE 2 p.1 ++ List.replicate p.2 5); let l := r.data.drop 2
     s.usual ∧ s.asyncQ.length < 64 ∧ HalterAccepts s 0x21 r ∧ s.fld (R.hltRail 11) F.hltRail.WARN = 0 ∧
       (l.length = 0 ∨ 32 < l.length ∨ s.fld R.hltCfg F.hltCfg.OTP_WE = 0 ∨ (∃ i, i < l.length ∧ ¬otpMay s (fieldAt r.data 0 2 + i)) ↔
         ¬(we = 1 ∧ p ∈ [(0x3E0, 32), (0x28, 32), (0x48, 2), (0x100, 1)]))) ∧
    (∀ d ∈ [List.replicate 32 (5 : Byte), List.replicate 32 0, List.replicate 31 5], let r := usbReq 0x22 d
     up.usual ∧ up.asyncQ.length < 64 ∧ HalterAccepts up 0x22 r ∧ r.data = d ∧ (up.fkeyEmpty 0 = true ∧ up.fkeyRevoked 0 = false)) ∧
    (let s := halted (fun h => { h with otp := [(0x80, 1), (0xA0, 1), (0xC0, 1), (0xE0, 1)] }); let r := usbReq 0x22 (List.replicate 32 5)
     s.usual ∧ HalterAccepts s 0x22 r ∧ ∀ k, k < 4 → ¬(s.fkeyEmpty k = true ∧ s.fkeyRevoked k = false)) ∧
    (let s := halted (fun h => { h with otp := [(0x4A, 3), (0x80, 1), (0xC0, 1)] }); let r := usbReq 0x22 (List.replicate 32 5)
     s.usual ∧ HalterAccepts s 0x22 r ∧ (s.fkeyEmpty 3 = true ∧ s.fkeyRevoked 3 = false) ∧ ∀ j, j < 3 → ¬(s.fkeyEmpty j = true ∧ s.fkeyRevoked j = false)) ∧
    (∀ k ∈ [0, 3, 4], let r := usbReq 0x23 [BitVec.ofNat 8 k]; up.usual ∧ HalterAccepts up 0x23 r ∧ (3 < fieldAt r.data 0 1 ↔ k = 4)) ∧
    (∀ otp ∈ [[], [(0xFF, (1 : Byte))]], let s := halted (fun h => { h with otp := otp }); s.usual ∧ HalterAccepts s 0x24 (usbReq 0x24 []) ∧ (s.fkeyActive = none ↔ otp = []) ∧
       (s.fkeyActive = some 3 ↔ otp ≠ [])) ∧
    (∀ run ∈ [0, 1], ∀ n ∈ [0, 15, 16], ∀ d ∈ [bytesLE 4 0x0B000000, [(1 : Byte)]], let s : State := let u := setF [(R.hltStat, F.hltStat.MAIN_RUN, run), (R.sysClkStat, F.sysClkStat.PLL_LOCK, run)] State.reset
       { u with pack := { engines := [(0, { inbox := List.replicate n (0, 2) })] } }
     let r := usbReq 0x30 d
     s.usual ∧ HalterAccepts s 0x30 r ∧ s.fld R.hltStat F.hltStat.MAIN_RUN = run ∧ (s.eng 0).inbox.length = n ∧ s.e0Runs = false) ∧
    (∀ k ∈ [0, 1, 8, 9], let r := usbReq 0x31 [BitVec.ofNat 8 k]; up.usual ∧ HalterAccepts up 0x31 r ∧ fieldAt r.data 0 1 = k) := by and_intros <;> decide +kernel

set_option synthInstance.maxSize 4000 in
theorem witness_HalterPort_health :
    (∀ due ∈ [false, true], let s := halted (fun h => { h with wakeDue := due }); s.usual ∧ s.hlt.wakeDue = due) ∧
    (∀ p ∈ [false, true], let s := halted (fun h => { h with pulse := p }); s.usual ∧ s.hlt.pulse = p ∧ s.hlt.waking = none ∧ s.sys.porstLow = false ∧ s.sys.railsBad = [] ∧
       s.fld R.hltStat F.hltStat.HOLD = 0) ∧
    (∀ t ∈ [0, 1], let temps : List Int := [signed 16 (up.fld R.hltThr F.hltThr.HI) - 1 + t, 0, 0, 0]
     up.usual ∧ up.asyncQ.length < 64 ∧ temps.length = 4 ∧ up.hlt.hot = false ∧ (signed 16 (up.fld R.hltThr F.hltThr.HI) ≤ temps.getD 0 0 ↔ t = 1) ∧
       (∀ n, n < 4 → temps.getD n 0 < signed 16 (up.fld R.hltThr F.hltThr.CRIT)) ∧ (∀ n, n < 12 → (List.replicate 12 0).getD n 0 = 0)) ∧
    (let s := halted (fun h => { h with hot := true, crit := [3] }) [(R.hltCfg, F.hltCfg.CRIT_RST, 1)]
     let temps : List Int := [0, 0, 0, signed 16 (s.fld R.hltThr F.hltThr.CRIT)]
     s.usual ∧ s.asyncQ.length < 64 ∧ temps.length = 4 ∧ s.hlt.hot = true ∧ signed 16 (s.fld R.hltThr F.hltThr.CRIT) ≤ temps.getD 3 0 ∧ signed 16 (s.fld R.hltThr F.hltThr.HI) ≤ temps.getD 3 0 ∧
       (∀ j, j < 4 → j ≠ 3 → temps.getD j 0 < signed 16 (s.fld R.hltThr F.hltThr.CRIT)) ∧ 3 ∈ s.hlt.crit ∧ s.hlt.critHold = false ∧ s.sys.resetting ≠ 1 ∧
       s.fld R.hltCfg F.hltCfg.CRIT_RST = 1) ∧
    (let rails := (List.replicate 12 0).set 11 1
     up.usual ∧ (∀ n, n < 12 → n ≠ 11 → rails.getD n 0 = 0) ∧ 0 < rails.getD 11 0 ∧ rails.getD 11 0 < 65536 ∧ up.railWarns 11 (rails.getD 11 0) = true ∧
       (∀ n, n < 4 → (0 : Int) < signed 16 (up.fld R.hltThr F.hltThr.HI) ∧ (0 : Int) < signed 16 (up.fld R.hltThr F.hltThr.CRIT))) := by and_intros <;> decide +kernel

/-! ## Witnesses: services and boot -/

/-- A bundle of one service image of one NOP, both signed by the key above: header, entry and image head, the image's last bytes
and the bundle's signature (Tables 15-1 and 10-13). -/
def bundleHead : List Byte := [0x47, 0x42, 0x44, 0x4C, 0x01, 0x00, 0x80, 0x00, 0x07, 0x00, 0x00, 0x00, 0x01, 0x00, 0x00, 0x00, 0x94, 0x01, 0x00, 0x00, 0x00, 0x00, 0x00, 0x00, 0x00, 0x00, 0x00, 0x00, 0x00, 0x00, 0x00, 0x00, 0x00, 0x00, 0x00, 0x00, 0x00, 0x00, 0x00, 0x00, 0x00, 0x00, 0x00, 0x00, 0x00, 0x00, 0x00, 0x00, 0x00, 0x00, 0x00, 0x00, 0x00, 0x00, 0x00, 0x00, 0x00, 0x00, 0x00, 0x00, 0x00, 0x00, 0x00, 0x00] ++ aKey ++ [0x90, 0x00, 0x00, 0x00, 0xC4, 0x00, 0x00, 0x00, 0x01, 0x00, 0x01, 0x00, 0x00, 0x00, 0x00, 0x00, 0x53, 0x45, 0x53, 0x54, 0x01, 0x00, 0x80, 0x00, 0x01, 0x00, 0x01, 0x00, 0x01, 0x00, 0x00, 0x00, 0x02, 0x00, 0x00, 0x00, 0x01, 0x00, 0x00, 0x00, 0x00, 0x00, 0x00, 0x00, 0x00, 0x00, 0x00, 0x00, 0xC4, 0x00, 0x00, 0x00, 0x00, 0x00, 0x00, 0x00, 0x00, 0x00, 0x00, 0x00, 0x00, 0x00, 0x00, 0x00, 0x00, 0x00, 0x00, 0x00, 0x00, 0x00, 0x00, 0x00, 0x00, 0x00, 0x00, 0x00, 0x00, 0x00, 0x00, 0x00]
def bundleRest : List Byte := aKey ++ [0x00, 0x00, 0x00, 0x00, 0x6B, 0x17, 0xD1, 0xF2, 0xE1, 0x2C, 0x42, 0x47, 0xF8, 0xBC, 0xE6, 0xE5, 0x63, 0xA4, 0x40, 0xF2, 0x77, 0x03, 0x7D, 0x81, 0x2D, 0xEB, 0x33, 0xA0, 0xF4, 0xA1, 0x39, 0x45, 0xD8, 0x98, 0xC2, 0x96, 0xBA, 0x8D, 0x93, 0x47, 0x59, 0xE1, 0xF5, 0x67, 0x70, 0x15, 0xEA, 0x57, 0x4D, 0x35, 0x10, 0x64, 0x4D, 0x98, 0x6E, 0x84, 0x83, 0xD0, 0xB9, 0xCC, 0xEF, 0x37, 0xA1, 0xC9, 0x56, 0x19, 0xE0, 0x91, 0x6B, 0x17, 0xD1, 0xF2, 0xE1, 0x2C, 0x42, 0x47, 0xF8, 0xBC, 0xE6, 0xE5, 0x63, 0xA4, 0x40, 0xF2, 0x77, 0x03, 0x7D, 0x81, 0x2D, 0xEB, 0x33, 0xA0, 0xF4, 0xA1, 0x39, 0x45, 0xD8, 0x98, 0xC2, 0x96, 0x6C, 0x13, 0x12, 0xA3, 0xC8, 0x4D, 0xE1, 0xD0, 0x6F, 0x85, 0x96, 0xAF, 0x46, 0x36, 0x79, 0x16, 0x6E, 0x1B, 0xC7, 0xDA, 0x5C, 0xB3, 0x2F, 0x47, 0xE5, 0x58, 0x5F, 0x50, 0x15, 0x6C, 0x27, 0x07]
def aBundle : List Byte := bundleHead ++ bundleRest

/-- E0 runs the service loop, a request or nothing waits in its inbox. -/
def serving (inbox : List (Word × Nat)) (run : Option Service) (l : List (Nat × Fld × Nat) := []) (s : State := up) : State :=
  setF ([(R.engStat 0, F.engStat.STATE, 2)] ++ l) { s with sec := { s.sec with loop := true, running := run }, pack := { s.pack with engines := [(0, { inbox := inbox })] } }

/-- A request of the host. -/
def asked (n arg : Nat) (l : List (Nat × Fld × Nat) := []) (s : State := up) : State := serving [(BitVec.ofNat 32 (n * 2 ^ 24 + 5 * 2 ^ 20 + arg), 1)] none l s

set_option synthInstance.maxSize 4000 in
theorem witness_ServicesAndBoot_services :
    (∀ n ∈ [1, 2, 3, 4, 5, 6, 7, 8, 9, 10, 11], let s := asked n 2 [(R.sysBootStat, F.sysBootStat.READY, 1), (R.hltStat, F.hltStat.READY, 1)]
     let w := BitVec.ofNat 32 (n * 2 ^ 24 + 5 * 2 ^ 20 + 2)
     Requested s w 1 ∧ w.toNat / 2 ^ 24 = n ∧ s.fld R.sysBootStat F.sysBootStat.READY = 1 ∧ s.openStreams = [] ∧ s.hqe.jobs = [] ∧ s.pdOn 127 = true ∧
       (∀ e, e < 96 → 1 ≤ e → ¬(s.engState e = 2 ∨ s.engState e = 3)) ∧ (∀ g, g < 4 → s.fld (R.grpCtl g) F.grpCtl.EN = 0) ∧ (∀ i, i < 32 → s.iwOn i = false ∧ s.owOn i = false)) ∧
    (∀ b ∈ [0, 1], ∀ st ∈ [0, 1, 2], let s := asked 3 8 [(R.vafFgcal, F.vafFgcal.BUSY, b), (R.bankStat 3, F.bankStat.STATE, st)]
     Requested s 0x03500008 1 ∧ s.fld R.vafFgcal F.vafFgcal.BUSY = b ∧ s.bankState 3 = st ∧ s.bankIdle 3 = (st != 2) ∧ ∀ n, n < 16 → s.inputHeld n = false) ∧
    (∀ st ∈ [0, 1], let s := asked 4 0 [(R.auxStat, F.auxStat.STATE, st)]; Requested s 0x04500000 1 ∧ s.fld R.auxCalCtl F.auxCalCtl.BUSY = 0 ∧ s.auxIdle = (st == 0)) ∧
    (∀ fit ∈ [0, 1], ∀ st ∈ [0, 1], let s := asked 5 0x83 [(R.grpStat 3, F.grpStat.STATE, 1), (R.grpCtl 3, F.grpCtl.STRIP_EN, fit), (R.grpStripSel 3, ⟨31, 1⟩, 1), (R.pathStat 3, F.pathStat.STATE, st), (R.pathCfg 3, F.pathCfg.EN, st),
        (R.pathPolicy 3, F.pathPolicy.GMIN, 1), (R.pathPolicy 3, F.pathPolicy.GMAX, 7)]
     Requested s 0x05500083 1 ∧ s.pathState 3 = st ∧ s.pathOn 3 = (st == 1) ∧ (0x83 : Nat).testBit 7 = true ∧ s.grpState 3 = 1 ∧ s.fld (R.grpCtl 3) F.grpCtl.STRIP_EN = fit ∧
       s.selOn (R.grpStripSel 3) = true ∧ (∀ g, g < 3 → (0x83 : Nat).testBit (4 + g) = false) ∧ s.fld (R.pathPolicy 3) F.pathPolicy.GMIN ≤ s.fld (R.pathPolicy 3) F.pathPolicy.GMAX) ∧
    (∀ en ∈ [0, 1], let s := asked 6 0 [(R.grpCtl 3, F.grpCtl.EN, en)]; Requested s 0x06500000 1 ∧ s.fld (R.grpCtl 3) F.grpCtl.EN = en ∧ (∀ j, j < 4 → s.bankIdle j = true) ∧
       (∀ g, g < 3 → s.fld (R.grpCtl g) F.grpCtl.EN = 0) ∧ s.calChosen = none) ∧
    (∀ b ∈ [0, 1], let s := asked 7 0 [(R.shdRecStat, F.shdRecStat.BUSY, b)]; Requested s 0x07500000 1 ∧ s.fld R.shdRecStat F.shdRecStat.BUSY = b) ∧
    (∀ st ∈ [0, 1, 2, 7], ∀ rev ∈ [0, 1], let s := asked 8 3 [(R.pathStat 3, F.pathStat.STATE, st), (R.pathCfg 3, F.pathCfg.EN, if st = 0 then 0 else 1), (R.pathRev 3, F.pathRev.REV, rev)]
     Requested s 0x08500003 1 ∧ s.pathState 3 = st ∧ s.pathOn 3 = (st != 0) ∧ (s.pathSt 3).speed = 0 ∧ s.fld (R.pathRev 3) F.pathRev.REV = rev ∧ s.chkLevels 3 = 0 ∧
       s.fld (R.pathCfg 3) F.pathCfg.FLOW = 0) ∧
    (∀ st ∈ [0, 1, 2], let s := asked 9 3 [(R.pathStat 3, F.pathStat.STATE, st), (R.pathCfg 3, F.pathCfg.EN, if st = 0 then 0 else 1)]
     Requested s 0x09500003 1 ∧ s.pathState 3 = st ∧ s.pathOn 3 = (st != 0) ∧ s.fld (R.pathCfg 3) F.pathCfg.FLOW = 0) ∧
    (let s := asked 10 0; Requested s 0x0A500000 1 ∧ s.fabState = 0 ∧ ∀ j, j < 4 → s.portState j = 0 ∧ s.fld (R.dlCtl j) F.dlCtl.EN = 0) ∧
    (let s := asked 10 0 ([(R.dlfStat, F.dlfStat.STATE, 4), (R.dlfCfg, F.dlfCfg.EN, 1), (R.sysPdStat 3, ⟨24, 4⟩, 15)] ++ (List.range 4).flatMap (fun j => [(R.dlStat j, F.dlStat.STATE, 5), (R.dlCtl j, F.dlCtl.EN, 1)]))
     Requested s 0x0A500000 1 ∧ s.fabState = 4 ∧ s.fld R.dlfCfg F.dlfCfg.EN = 1 ∧ (∀ j, j < 4 → s.portState j = 5) ∧ (∀ j, j < 4 → s.portRuns j = true) ∧ s.effReg R.dlfCfg = s.reg R.dlfCfg) := by
  and_intros <;> decide +kernel

/-- A state whose flash holds a bundle in slot k. -/
def flashed (k : Nat) (b : List Byte) (s : State) : State :=
  { keyed s with hlt := { (keyed s).hlt with flash := (List.range b.length).map (fun i => (k * 0x0400000 + i, b.getD i 0)) } }

set_option maxRecDepth 100000 in
theorem witness_ServicesAndBoot_loads :
    (∀ host ∈ [0, 1], ∀ i ∈ [0, 1], let s := flashed 1 aBundle (asked 11 i [(R.secBootInfo, F.secBootInfo.HOST, host), (R.secBootInfo, F.secBootInfo.SLOT, 1)])
     let b := s.flashBytes 0x0400000 (bundleTotal (s.flashBytes 0x0400000 128))
     Requested s (BitVec.ofNat 32 (0x0B500000 + i)) 1 ∧ s.fld R.secBootInfo F.secBootInfo.HOST = host ∧ s.fld R.secBootInfo F.secBootInfo.SLOT = 1 ∧ (bundleCount b ≤ i ↔ i = 1)) ∧
    (let b := ((aBundle.set 0x89 95).set 0x8A 1); let s := flashed 1 b (asked 11 0 [(R.secBootInfo, F.secBootInfo.SLOT, 1)])
     Requested s 0x0B500000 1 ∧ ((bundleEntries b)[0]?).map (fun e => (e.type, e.first, e.count)) = some (1, 95, 1)) ∧
    (let b := aBundle.set 0x88 2; ((bundleEntries b)[0]?).map (fun e => e.type) = some 2) := by and_intros <;> decide +kernel

set_option synthInstance.maxSize 4000 in
theorem witness_ServicesAndBoot_limits :
    (up.usual ∧ up.sec.running = none ∧ up.sec.hostLoss = none ∧ up.sec.jams.contains 3 = false ∧ up.sec.loop = false) ∧
    (∀ auto ∈ [false, true], let x : Service := { svc := 5, tag := 5, arg := 3, sender := 2, auto := auto }
     let s := serving [] (some x) [(R.pathStat 3, F.pathStat.STATE, 2), (R.pathCfg 3, F.pathCfg.EN, 1)]; Serving s x ∧ x.saves = 0 ∧ s.pathState (x.arg % 4) = 2 ∧ s.pathOn (x.arg % 4) = true) ∧
    (∀ auto ∈ [false, true], let x : Service := { svc := 10, tag := 5, arg := 0, sender := 1, auto := auto }; let s := serving [] (some x); Serving s x ∧ s.fabState ≠ 4) ∧
    (∀ h ∈ [0, 1], ∀ st ∈ [1, 2, 4], let s : State := let u := serving [] none [(R.secSvcCfg, F.secSvcCfg.HL_S, h), (R.pathStat 3, F.pathStat.STATE, st), (R.pathCfg 3, F.pathCfg.EN, 1), (R.pathCfg 3, F.pathCfg.AXES, 8)]
       { u with sec := { u.sec with hostLoss := some (2 ^ (3 : Fin 4).val, false) } }
     ServiceLoop s ∧ s.sec.hostLoss = some (2 ^ (3 : Fin 4).val, false) ∧ s.fld R.secSvcCfg F.secSvcCfg.HL_S = h ∧ s.pathState 3 = st ∧ (st = 1 → ∀ n ∈ s.axesOf 3, s.axisIdle n = true)) ∧
    (∀ st ∈ [1, 7], let s : State := let u := serving [] none [(R.pathStat 3, F.pathStat.STATE, st), (R.pathCfg 3, F.pathCfg.EN, 1), (R.pathRev 3, F.pathRev.REV, 1)]; { u with sec := { u.sec with jams := [3] } }
     ServiceLoop s ∧ s.sec.hostLoss = none ∧ s.sec.jams.contains 3 = true ∧ s.pathState 3 = st ∧ s.pathOn 3 = true ∧ (s.pathSt 3).speed = 0 ∧ s.fld (R.pathRev 3) F.pathRev.REV ≠ 0) ∧
    (let s := serving [] none; s.usual ∧ s.sec.loop = true ∧ s.e0Runs = true) := by and_intros <;> decide +kernel

/-- The boot sequencer is at stage 2 with a bundle in a slot. -/
def booting (k : Nat) (b : List Byte) (l : List (Nat × Fld × Nat)) : State :=
  flashed k b (setF ([(R.sysBootStat, F.sysBootStat.STAGE, 2), (R.engStat 0, F.engStat.STATE, 1)] ++ l) up)

set_option maxRecDepth 100000 in
theorem witness_ServicesAndBoot_boot :
    (∀ src ∈ [0, 2], let s := booting 0 [] [(R.sysStrap, F.sysStrap.BOOT_SRC, src)]
     s.usual ∧ s.fld R.sysBootStat F.sysBootStat.STAGE = 2 ∧ s.fld R.sysBootStat F.sysBootStat.FAIL = 0 ∧ s.fld R.secBootInfo F.secBootInfo.HOST = 0 ∧ s.engState 0 = 1 ∧
       bundleHeaderOk (s.flashBytes 0 128) = false ∧ bundleHeaderOk (s.flashBytes 0x0400000 128) = false ∧ s.fld R.sysStrap F.sysStrap.BOOT_SRC = src) ∧
    (let s := booting 1 aBundle []
     s.usual ∧ s.fld R.sysBootStat F.sysBootStat.STAGE = 2 ∧ s.fld R.sysBootStat F.sysBootStat.FAIL = 0 ∧ s.fld R.secBootInfo F.secBootInfo.HOST = 0 ∧ s.engState 0 = 1 ∧
       bundleHeaderOk (s.flashBytes 0x0400000 128) = true ∧ bundleHeaderOk (s.flashBytes 0 128) = false ∧ s.sys.bitErrs = [] ∧ s.sys.poison = [] ∧ (s.eng 0).inbox = [] ∧ (s.tryBundle 1).2 = 0) ∧
    (let s := booting 1 (aBundle.set 0x88 9) []
     s.usual ∧ bundleHeaderOk (s.flashBytes 0x0400000 128) = true ∧ bundleHeaderOk (s.flashBytes 0 128) = false ∧
       bundleShapeOk (s.flashBytes 0x0400000 (bundleTotal (s.flashBytes 0x0400000 128))) = false ∧ s.fld R.sysStrap F.sysStrap.BOOT_SRC ≠ 2) ∧
    (let s := up; s.usual ∧ s.e0Runs = false ∧ s.fld R.sysBootStat F.sysBootStat.READY = 0) ∧
    (∀ host ∈ [0, 1], let s := (setF [(R.sysBootStat, F.sysBootStat.STAGE, 4), (R.engStat 0, F.engStat.STATE, 2), (R.secBootInfo, F.secBootInfo.HOST, host), (R.sysPdStat 3, ⟨30, 1⟩, 1)] up).setBytes stagingBase aBundle
     s.usual ∧ s.fld R.sysBootStat F.sysBootStat.READY = 0 ∧ s.fld R.sysBootStat F.sysBootStat.FAIL = 0 ∧ s.e0Runs = true ∧ s.sec = { warm := s.sec.warm } ∧
       s.fld R.sysBootStat F.sysBootStat.STAGE = 4 ∧ s.pdOn 127 = true ∧ (s.eng 0).inbox = [] ∧ s.calChosen = none ∧
       (s.fld R.secBootInfo F.secBootInfo.HOST = 1 ∨ (∀ e ∈ bundleEntries s.staged, e.type = 1) ∧ (∀ e ∈ (bundleEntries s.staged).drop 1, e.count = 0))) := by and_intros <;> decide +kernel

/-! ### Commands that the well-formedness check refuses, one for each check -/

/-- A packet with the given payload, poison flags and tag. -/
def somePacket (payload : List Byte) (bad : List Nat := []) (trailer : Option (List Byte × Word) := none) : Packet :=
  { dst := 1, src := 2, ttl := 15, plen := 0, lseq := 0, tag := 0, arg := 0, pcrc := 0, payload := payload, bad := bad, trailer := trailer }

/-- A request over SMBus with the given bytes and check. -/
def someRequest (data : List Byte) (check : Option Word) : HaltRequest := { usb := false, data := data, check := check }

theorem test_wf_access_range : (Instr.registerWrite .bar0 0xFFFFC 4 0).wf = true ∧ (Instr.registerWrite .bar0 0xFFFFD 4 0).wf = false := by decide
theorem test_wf_access_size : (Instr.registerWrite .bar0 0x40 3 0).wf = false := by decide
theorem test_wf_shadow_read : (Instr.shadowLowRead .bar0 0x40 3).wf = false := by decide
theorem test_wf_read_clear : (Instr.readClearAccess .bar0 0x100000 4).wf = false := by decide
theorem test_wf_unmapped : (Instr.unmappedBarAccess .bar0 0xFFFFF true).wf = true ∧ (Instr.unmappedBarAccess .bar0 0x100000 true).wf = false := by decide
theorem test_wf_scrub_bit : (Instr.patrolScrubRead [0, 136]).wf = true ∧ (Instr.patrolScrubRead [137]).wf = false := by decide
theorem test_wf_domain : (Instr.pdPowerOnComplete 0).wf = false ∧ (Instr.pdPowerOnComplete 160).wf = true ∧ (Instr.pdPowerOnComplete 161).wf = false := by decide
theorem test_wf_strobe_order : (Instr.videoStrobe 0 0 0 0 5 4 none).wf = false := by decide
theorem test_wf_command_entry : (Instr.commandFetch (List.replicate 64 0)).wf = true ∧ (Instr.commandFetch (List.replicate 63 0)).wf = false := by decide
theorem test_wf_scatter_list : (Instr.postBuffer 1 0 [(2 ^ 64, 0, 0)]).wf = false ∧ (Instr.loadImage 1 0 [(0, 2 ^ 32, 0)] []).wf = false := by decide
theorem test_wf_health : (Instr.healthSample [0, 0, 0] (List.replicate 12 0)).wf = false := by decide
theorem test_wf_usb_request : (Instr.usbMgmtRequest 1 (List.replicate 256 0) 0 0).wf = false := by decide +kernel
theorem test_wf_packet_length : (Instr.rdReq 0 (somePacket (List.replicate 272 0))).wf = false := by decide +kernel
theorem test_wf_packet_flits : (Instr.wrReq 0 (somePacket (List.replicate 17 0))).wf = false := by decide
theorem test_wf_packet_poison : (Instr.wrRsp 0 (somePacket (List.replicate 16 0) [1])).wf = false := by decide
theorem test_wf_packet_tag : (Instr.stitch 0 (somePacket [] [] (some ([0], 0)))).wf = false := by decide
theorem test_wf_request_length : (Instr.ident (someRequest (List.replicate 256 0) none)).wf = false := by decide +kernel
theorem test_wf_request_check : (Instr.otpRd (someRequest [] (some 256))).wf = false := by decide

/-! ### Worked examples of the spec -/

/-- The state an outcome that goes on goes to. -/
def goesTo : Result → State
  | .next s => s
  | _ => s0

/-- A 4-byte read on the BAR0 path. -/
def readAt (off : Nat) (s : State) : State := goesTo (exec (.shadowLowRead .bar0 off 4) s)

/-- spec/00_scope.md, reading the 64-bit timestamp: the high part comes from the shadow of the first read. -/
theorem test_timestamp :
    let s : State := { s0 with sys := { timeStarted := true, time := 0x1FFFFFFFE } }
    let s := readAt 0x40 s
    let t := readAt 0x44 { s with sys := { s.sys with time := 0x200000002 } }
    s.rdata = 0xFFFFFFFE ∧ t.rdata = 1 := by decide +kernel

/-- spec/02_pins_power_reset.md, the pocket gate on GPIO9: the host holds the pin, and GAIT's claim is recorded as refused. -/
theorem test_gpio9 :
    let s := goesTo (exec (.gpioCfgWrite .bar0 9 0x13) s0)
    let t := (s.claim (.pin 9 2) 0x14).1
    s.fld (R.sysGpioCfg 9) F.sysGpioCfg.OWNER = 1 ∧ s.fld (R.sysGpioCfg 9) F.sysGpioCfg.FUNC = 1 ∧
      t.reg R.sysClaimErr = 0x14010907 := by decide +kernel

/-- spec/05_shading_alignment.md, the blended shading and trim of one pixel. -/
theorem test_shading :
    (setF [(R.grpSett 0, F.grpSett.TA, 384), (R.grpSett 0, F.grpSett.TB, 608), (R.grpSetv 0, F.grpSetv.VA, 1),
      (R.grpSetv 0, F.grpSetv.VB, 1)]).blendWeight 0 536 = 174 ∧
    blend 2880 2944 174 = 2924 ∧ blend 10855 11610 174 = 11368 ∧ shadeValue 2880 10855 2944 11610 174 46240 = 60109 ∧
    shadeValue 2880 10855 2944 11610 0 46240 = 57455 ∧ trimValue 2000 2050 16370 60109 = 60009 := by decide +kernel

/-- The stream of spec/09_tandem_code.md's four-pixel example. -/
def fourPixel : Stream :=
  ({ state := 1, runEn := true, mode := 1, depth := 12, npl := 1, width := 4, rstInt := 0, reset := 64, thr := [3, 7, 21, 63, 180],
     slots := [0x0100], act1 := 16, act2 := 96 } : Stream).initStats

/-- spec/09_tandem_code.md, a four-pixel stream: the snapshot after line 0, and every byte of the coded lines and the end marker but
the four of the CRC. -/
theorem test_four_pixels :
    let row := [1000, 1002, 1002, 1002]
    let a := fourPixel.writeHeader.1.encodeGroup [row] [[]]
    let b := a.1.encodeGroup [row] [row]
    let c := b.1.writeEnd
    a.1.lines = 1 ∧ a.1.bytes = 38 ∧ a.1.pendN = 27 ∧ a.1.pend = 0x04F870A0 ∧ a.1.c0.getD 0 1 = 0 ∧ a.1.ri.getD 0 1 = 0 ∧
      a.1.reg.map (fun e => (e.1, e.2.a, e.2.n, e.2.b, e.2.c)) = [(6, 67, 4, -2, 0)] ∧ a.1.run.map (fun e => (e.1, e.2.a, e.2.n)) = [(1, 1063, 2)] ∧
      ((a.2.1 ++ b.2.1 ++ c.2).map (·.toNat)).take 18 = [0, 0, 0, 0, 0x9F, 0x0E, 0x14, 0x10, 0x20, 0x60, 0xFF, 0xE9, 0, 0x0A, 0, 0, 0, 2] ∧
      c.1.bytes = 56 := by decide +kernel

/-- The same example: the CRC-32C of the samples, each low byte first, ends the stream. -/
theorem test_four_pixels_crc :
    let row := [1000, 1002, 1002, 1002]
    let c := ((fourPixel.writeHeader.1.encodeGroup [row] [[]]).1.encodeGroup [row] [row]).1.writeEnd
    crc32c (([0xE8, 3, 0xEA, 3, 0xEA, 3, 0xEA, 3, 0xE8, 3, 0xEA, 3, 0xEA, 3, 0xEA, 3] : List Nat).map (BitVec.ofNat 8)) =
      BitVec.ofNat 32 c.1.endCrc := by decide +kernel

/-- spec/14_halter_port.md, reading SYS.BOOT_STAT as the fifth request over SMBus at address 0x58. -/
theorem test_boot_stat :
    let s : State := { setF [(R.hltStat, F.hltStat.MAIN_RUN, 1)] (s0.setReg R.sysBootStat 0x61) with hlt := { s0.hlt with seq := 4 } }
    let s := goesTo (exec (.regRd { usb := false, data := [0x34, 0, 0, 1], check := some 0xD3 }) s)
    (goesTo (exec (.responseRead false 0) s)).hlt.answer.map (·.toNat) = [6, 0x85, 0, 0x61, 0, 0, 0, 0x26] := by decide +kernel

/-- spec/16_register_summary.md, one register, three paths: the two registers' reset values. -/
theorem test_reset_values : (readAt 0x8390 s0).rdata = 0x00010000 ∧ (readAt 0x18618 s0).rdata = 0x20012830 := by decide +kernel

end Sys2Proof.Tests
end

/-!
The frame of an operation on a transport path: which registers it may change, that it changes nothing else besides the transport
state, and that a command with such an effect ends with it.
-/
namespace Sys2Proof.Machine

/-! ## Registers that show the axes and a path -/

/-- The registers that show the axes: GAIT.STAT, and status and rate of each axis. -/
def axisViews : List Nat :=
  [R.gaitStat, R.axisStat 0, R.axisStat 1, R.axisStat 2, R.axisStat 3, R.axisRate 0, R.axisRate 1, R.axisRate 2, R.axisRate 3]

theorem pathViews_eq_cons (k : Nat) : pathViews k = R.pathStat k :: axisViews := rfl

theorem pathStat_mem_pathViews (k : Nat) : R.pathStat k ∈ pathViews k := List.mem_cons_self

theorem axisViews_subset_pathViews (k : Nat) : axisViews ⊆ pathViews k := List.subset_cons_self _ _

theorem not_mem_axisViews {off : Nat} (h : off < 0x18000 ∨ 0x18180 ≤ off) : off ∉ axisViews := by
  simp only [axisViews, R.gaitStat, R.axisStat, R.axisRate, List.mem_cons, List.not_mem_nil, or_false]
  omega

theorem not_mem_pathViews {k off : Nat} (h : off < 0x18000 ∨ 0x18180 ≤ off) (hk : off ≠ R.pathStat k) : off ∉ pathViews k := by
  rw [pathViews_eq_cons]
  exact List.not_mem_cons_of_ne_of_not_mem hk (not_mem_axisViews h)

theorem pathStat_not_mem_axisViews (k : Nat) : R.pathStat k ∉ axisViews :=
  not_mem_axisViews (by simp only [R.pathStat]; omega)

/-- The number of a dwell timer is below 32. -/
theorem State.dwellTim_lt (s : State) (k : Nat) : s.fld (R.pathCfg k) F.pathCfg.DWELL_TIM < 32 := BitVec.isLt _

/-- Offsets from the event timers to the end of the transport block, which holds none of the registers that the end of a command
looks at. -/
def inTransport (l : List Nat) : Prop := ∀ off ∈ l, 0x04100 ≤ off ∧ off < 0x19000

theorem inTransport_pathViews (k : Fin 4) : inTransport (pathViews k) := by
  have hk := k.isLt
  intro off
  simp only [pathViews, R.pathStat, R.gaitStat, R.axisStat, R.axisRate, List.mem_cons, List.not_mem_nil, or_false]
  omega

theorem inTransport_dwellRegs (s : State) (k : Nat) : inTransport (dwellRegs s k) := by
  have hn := s.dwellTim_lt k
  intro off
  simp only [dwellRegs, R.pathStat, R.etimCtl, R.etimLoad, R.etimCount, R.etimStat, List.mem_cons, List.not_mem_nil, or_false]
  omega

theorem inTransport_cons {o : Nat} {l : List Nat} (ho : 0x04100 ≤ o ∧ o < 0x19000) (h : inTransport l) : inTransport (o :: l) :=
  List.forall_mem_cons.mpr ⟨ho, h⟩

theorem inTransport_append {l m : List Nat} (h : inTransport l) (h' : inTransport m) : inTransport (l ++ m) :=
  List.forall_mem_append.mpr ⟨h, h'⟩

/-! ## The frame of an operation on a path -/

/-- `t` differs from `s` in the transport state and in the registers at `l` at most. -/
structure State.GaitOnly (s t : State) (l : List Nat) : Prop where
  state : t = { s with regs := t.regs, gait := t.gait }
  reg : ∀ off, off ∉ l → t.reg off = s.reg off

namespace State.GaitOnly

variable {s t u : State} {l m : List Nat}

theorem refl (s : State) (l : List Nat) : s.GaitOnly s l := ⟨rfl, fun _ _ => rfl⟩

theorem trans (h : s.GaitOnly t l) (h' : t.GaitOnly u l) : s.GaitOnly u l :=
  ⟨by rw [h'.state, h.state], fun off ho => (h'.reg off ho).trans (h.reg off ho)⟩

theorem mono (h : s.GaitOnly t l) (hl : l ⊆ m) : s.GaitOnly t m := ⟨h.state, fun off ho => h.reg off (fun x => ho (hl x))⟩

theorem fld (h : s.GaitOnly t l) {off : Nat} (ho : off ∉ l) (f : Fld) : t.fld off f = s.fld off f := by
  rw [State.fld, h.reg off ho, State.fld]

theorem setReg (s : State) {o : Nat} (w : Word) (ho : o ∈ l) : s.GaitOnly (s.setReg o w) l :=
  ⟨rfl, fun _ h => State.reg_setReg_ne _ _ _ _ (fun e => h (e ▸ ho))⟩

theorem setFld (s : State) {o : Nat} (f : Fld) (x : Nat) (ho : o ∈ l) : s.GaitOnly (s.setFld o f x) l := setReg s _ ho

theorem count (s : State) {o : Nat} (ho : o ∈ l) : s.GaitOnly (s.count o) l := setReg s _ ho

theorem setGait (s : State) (g : Gait) : s.GaitOnly { s with gait := g } l := ⟨rfl, fun _ _ => rfl⟩

theorem setPathSt (s : State) (k : Nat) (x : PathSt) : s.GaitOnly (s.setPathSt k x) l := setGait s _

/-- A fold of operations that each keep the frame keeps it. -/
theorem foldl {α : Type} (xs : List α) (f : State → α → State) (s : State) (h : ∀ t : State, ∀ x ∈ xs, t.GaitOnly (f t x) l) :
    s.GaitOnly (xs.foldl f s) l :=
  List.foldlRecOn (motive := fun t => s.GaitOnly t l) xs f (refl s l) (fun t ht x hx => ht.trans (h t x hx))

/-- The pulse of an event apart, the frame is kept when the event fires before and after. -/
theorem fire (h : s.GaitOnly t l) (ev : Nat) : (s.fire ev).GaitOnly (t.fire ev) l :=
  ⟨by rw [h.state]; rfl, h.reg⟩

end State.GaitOnly

/-! ## The end of a command on a path -/

/-- A command on a path ends with its effect. -/
theorem State.done_of_gaitOnly {s t : State} {l : List Nat} (hu : s.usual) (h : s.GaitOnly t l) (hl : inTransport l) :
    State.done t = .next t := by
  have hreg : ∀ o, ¬(0x04100 ≤ o ∧ o < 0x19000) → t.reg o = s.reg o := fun o ho => h.reg o (fun hm => ho (hl o hm))
  have hwork : t.work = s.work := by rw [h.state]
  have hsys : t.sys = s.sys := by rw [h.state]
  have hinbox : (t.eng 0).inbox = (s.eng 0).inbox := by rw [h.state]; rfl
  exact State.done_of_quiet t
    (State.quiet_of s t hu.1 hwork (by rw [h.state]) (by rw [h.state]) (hreg _ (by decide)) hinbox)
    (State.settled_of s t hu.2 hwork (by rw [hsys]) (by rw [hsys]) (by rw [hsys]) (hreg _ (by decide)) (hreg _ (by decide))
      (hreg _ (by decide)))

theorem State.usual_fire {s : State} (ev : Nat) (h : s.usual) : (s.fire ev).usual :=
  ⟨State.quiet_fire s ev h.1, State.settled_fire s ev h.2⟩

end Sys2Proof.Machine

/-!
One frame and the readings after each operation on a transport path: the views, the ramps, FEED_HOLD, a state entered, a seam
dropped.
-/
namespace Sys2Proof.Machine

/-! ## Updates that do not touch what a path holds besides registers -/

@[simp] theorem State.pathSt_setReg (s : State) (o : Nat) (w : Word) (j : Nat) : (s.setReg o w).pathSt j = s.pathSt j := rfl
@[simp] theorem State.pathSt_setFld (s : State) (o : Nat) (f : Fld) (x j : Nat) : (s.setFld o f x).pathSt j = s.pathSt j := rfl
@[simp] theorem State.pathSt_setPstat (s : State) (k : Nat) (f : Fld) (x j : Nat) : (s.setPstat k f x).pathSt j = s.pathSt j := rfl
@[simp] theorem State.pathSt_count (s : State) (o j : Nat) : (s.count o).pathSt j = s.pathSt j := rfl
@[simp] theorem State.pathSt_fire (s : State) (ev j : Nat) : (s.fire ev).pathSt j = s.pathSt j := rfl
@[simp] theorem State.pathSt_setPathSt_same (s : State) (k : Nat) (x : PathSt) : (s.setPathSt k x).pathSt k = x :=
  Table.get_set_same _ _ _ _

/-- The views follow what the paths hold and which axes are stopped; they do not change it. -/
theorem State.refreshPath_keeps (s : State) (k : Nat) :
    (s.refreshPath k).gait.paths = s.gait.paths ∧ (s.refreshPath k).gait.faulted = s.gait.faulted :=
  List.foldlRecOn (motive := fun t : State => t.gait.paths = s.gait.paths ∧ t.gait.faulted = s.gait.faulted) _ _ ⟨rfl, rfl⟩
    (fun _ ht _ _ => ht)

@[simp] theorem State.faulted_refreshPath (s : State) (k : Nat) : (s.refreshPath k).gait.faulted = s.gait.faulted :=
  (s.refreshPath_keeps k).2

@[simp] theorem State.pathSt_refreshPath (s : State) (k j : Nat) : (s.refreshPath k).pathSt j = s.pathSt j := by
  rw [State.pathSt, (s.refreshPath_keeps k).1, State.pathSt]

@[simp] theorem State.pathSt_feedHold (s : State) (k v j : Nat) : (s.feedHold k v).pathSt j = s.pathSt j :=
  State.pathSt_refreshPath _ _ _

@[simp] theorem State.pathSt_enterPath (s : State) (k st j : Nat) : (s.enterPath k st).pathSt j = s.pathSt j := by
  rw [State.enterPath, State.pathSt_refreshPath]; split <;> rfl

@[simp] theorem State.pathSt_rampTo (s : State) (k g : Nat) :
    (s.rampTo k g).pathSt k = { s.pathSt k with target := s.gaitSpeed k g, hard := false, atRest := .stay } :=
  State.pathSt_setPathSt_same _ _ _

@[simp] theorem State.pathSt_rampDown (s : State) (k : Nat) (hard : Bool) (what : AtRest) :
    (s.rampDown k hard what).pathSt k = { s.pathSt k with target := 0, hard := hard, atRest := what } :=
  State.pathSt_setPathSt_same _ _ _

@[simp] theorem State.faulted_enterPath (s : State) (k st : Nat) : (s.enterPath k st).gait.faulted = s.gait.faulted := by
  rw [State.enterPath, State.faulted_refreshPath]; split <;> rfl

@[simp] theorem State.fld_setPathSt (s : State) (k : Nat) (x : PathSt) (o : Nat) (f : Fld) :
    (s.setPathSt k x).fld o f = s.fld o f := rfl
@[simp] theorem State.fld_fire (s : State) (ev o : Nat) (f : Fld) : (s.fire ev).fld o f = s.fld o f := rfl

/-! ## Frames -/

section
variable {l : List Nat} (s : State) (k : Nat)

theorem State.refreshAxis_gaitOnly (n : Nat) (h1 : R.axisStat n ∈ l) (h2 : R.axisRate n ∈ l) : s.GaitOnly (s.refreshAxis n) l :=
  (((GaitOnly.setFld s _ _ h1).trans (.setFld _ _ _ h1)).trans ((GaitOnly.setFld _ _ _ h1).trans (.setFld _ _ _ h2))).trans
    (.setGait _ _)

theorem State.refreshPath_gaitOnly : s.GaitOnly (s.refreshPath k) axisViews := by
  have hstat : R.gaitStat ∈ axisViews := List.mem_cons_self
  refine (((GaitOnly.setFld s _ _ hstat).trans (.setFld _ _ _ hstat)).trans
    ((GaitOnly.setFld _ _ _ hstat).trans (.setFld _ _ _ hstat))).trans (.foldl _ _ _ fun t n hn => ?_)
  have hn : n < 4 := List.mem_range.mp hn
  have haxis : ∀ n < 4, R.axisStat n ∈ axisViews ∧ R.axisRate n ∈ axisViews := by decide
  exact t.refreshAxis_gaitOnly n (haxis n hn).1 (haxis n hn).2

theorem State.refreshPath_gaitOnly_pathViews : s.GaitOnly (s.refreshPath k) (pathViews k) :=
  (s.refreshPath_gaitOnly k).mono (axisViews_subset_pathViews k)

theorem State.setPstat_gaitOnly (f : Fld) (v : Nat) : s.GaitOnly (s.setPstat k f v) [R.pathStat k] :=
  .setFld s f v List.mem_cons_self

theorem State.rampTo_gaitOnly (g : Nat) : s.GaitOnly (s.rampTo k g) [R.pathStat k] :=
  (GaitOnly.setPathSt s k _).trans (State.setPstat_gaitOnly _ k _ _)

theorem State.rampDown_gaitOnly (hard : Bool) (what : AtRest) : s.GaitOnly (s.rampDown k hard what) [R.pathStat k] :=
  (GaitOnly.setPathSt s k _).trans (State.setPstat_gaitOnly _ k _ _)

theorem singleton_pathStat_subset : [R.pathStat k] ⊆ pathViews k := by
  simpa using pathStat_mem_pathViews k

theorem State.feedHold_gaitOnly (v : Nat) : s.GaitOnly (s.feedHold k v) (pathViews k) :=
  ((s.setPstat_gaitOnly k _ v).mono (singleton_pathStat_subset k)).trans (State.refreshPath_gaitOnly_pathViews _ k)

theorem State.enterPath_gaitOnly (st : Nat) : s.GaitOnly (s.enterPath k st) (pathViews k) := by
  have hset : ∀ (t : State) f v, t.GaitOnly (t.setPstat k f v) (pathViews k) := fun t f v =>
    (t.setPstat_gaitOnly k f v).mono (singleton_pathStat_subset k)
  have hstate := hset s F.pathStat.STATE st
  unfold State.enterPath
  split
  · exact hstate.trans (State.refreshPath_gaitOnly_pathViews _ k)
  · exact (hstate.trans (hset _ _ _)).trans (State.refreshPath_gaitOnly_pathViews _ k)

/-- Dropping a seam changes what the path and the groups of its seams hold, and nothing else. -/
theorem State.dropSeam_eq :
    s.dropSeam k = { s.setPathSt k { s.pathSt k with seams := [], overlap := 0 } with
      gait := { (s.setPathSt k { s.pathSt k with seams := [], overlap := 0 }).gait with seams := (s.dropSeam k).gait.seams } } := by
  refine List.foldlRecOn (motive := fun t : State => t = { s.setPathSt k { s.pathSt k with seams := [], overlap := 0 } with
      gait := { (s.setPathSt k { s.pathSt k with seams := [], overlap := 0 }).gait with seams := t.gait.seams } }) _ _ rfl ?_
  intro t ht g _
  split
  · conv_lhs => rw [ht]
    rfl
  · exact ht

theorem State.dropSeam_gaitOnly : s.GaitOnly (s.dropSeam k) l := by
  rw [State.dropSeam_eq]
  exact .setGait s _

@[simp] theorem State.pathSt_dropSeam : (s.dropSeam k).pathSt k = { s.pathSt k with seams := [], overlap := 0 } := by
  rw [State.dropSeam_eq]
  exact State.pathSt_setPathSt_same s k _

end

/-! ## Fields of PATHk_STAT -/

section
variable (s : State) (k : Nat)

@[simp] theorem State.fld_refreshPath_pathStat (f : Fld) :
    (s.refreshPath k).fld (R.pathStat k) f = s.fld (R.pathStat k) f :=
  (s.refreshPath_gaitOnly k).fld (pathStat_not_mem_axisViews k) f

@[simp] theorem State.fld_dropSeam (o : Nat) (f : Fld) : (s.dropSeam k).fld o f = s.fld o f :=
  (s.dropSeam_gaitOnly k).fld List.not_mem_nil f

/-- A field of PATHk_STAT reads what was set. -/
theorem State.fld_setPstat_same (f : Fld) (v : Nat) (h : f.lo + f.width ≤ 32) (hv : v < 2 ^ f.width) :
    (s.setPstat k f v).fld (R.pathStat k) f = v := by
  rw [State.setPstat, State.fld_setFld _ _ _ _ h, Nat.mod_eq_of_lt hv]

/-- Another field of PATHk_STAT reads as before. -/
theorem State.fld_setPstat_apart (f g : Fld) (v : Nat) (hf : f.lo + f.width ≤ 32) (hg : g.lo + g.width ≤ 32)
    (h : g.lo + g.width ≤ f.lo ∨ f.lo + f.width ≤ g.lo) :
    (s.setPstat k f v).fld (R.pathStat k) g = s.fld (R.pathStat k) g := State.fld_setFld_apart _ _ _ _ _ hf hg h

theorem State.fld_feedHold_same (v : Nat) (hv : v < 2) : (s.feedHold k v).fld (R.pathStat k) F.pathStat.FEED_HOLD = v := by
  rw [State.feedHold, State.fld_refreshPath_pathStat, State.fld_setPstat_same _ _ _ _ (by decide) hv]

/-- A path that enters a state shows it. -/
theorem State.pathState_enterPath (st : Nat) (h : st < 8) : (s.enterPath k st).pathState k = st := by
  have hst : (s.setPstat k F.pathStat.STATE st).fld (R.pathStat k) F.pathStat.STATE = st :=
    State.fld_setPstat_same _ _ _ _ (by decide) h
  rw [State.pathState, State.enterPath, State.fld_refreshPath_pathStat]
  split
  · exact hst
  · rw [State.fld_setPstat_apart _ _ _ _ _ (by decide) (by decide) (by decide), hst]

/-- GAIT reads 0 outside RUN (R228). -/
theorem State.fld_enterPath_gait_of_ne (st : Nat) (h : st ≠ 2) : (s.enterPath k st).fld (R.pathStat k) F.pathStat.GAIT = 0 := by
  rw [State.enterPath, State.fld_refreshPath_pathStat, if_neg h, State.fld_setPstat_same _ _ _ _ (by decide) (by decide)]

/-- A path that enters RUN keeps its gait. -/
theorem State.fld_enterPath_run_gait : (s.enterPath k 2).fld (R.pathStat k) F.pathStat.GAIT = s.fld (R.pathStat k) F.pathStat.GAIT := by
  rw [State.enterPath, State.fld_refreshPath_pathStat, if_pos rfl,
    State.fld_setPstat_apart _ _ _ _ _ (by decide) (by decide) (by decide)]

/-- The fields of PATHk_STAT above GAIT stay when a path enters a state. -/
theorem State.fld_enterPath_above (st : Nat) (f : Fld) (hf : f.lo + f.width ≤ 32) (h : 7 ≤ f.lo) :
    (s.enterPath k st).fld (R.pathStat k) f = s.fld (R.pathStat k) f := by
  have hst : (s.setPstat k F.pathStat.STATE st).fld (R.pathStat k) f = s.fld (R.pathStat k) f :=
    State.fld_setPstat_apart _ _ _ _ _ (by decide) hf (.inr (by show 3 ≤ f.lo; omega))
  rw [State.enterPath, State.fld_refreshPath_pathStat]
  split
  · exact hst
  · exact (State.fld_setPstat_apart _ _ F.pathStat.GAIT f _ (by decide) hf (.inr h)).trans hst

/-- TARGET reads the gait that a path ramps to. -/
theorem State.fld_rampTo_target (g : Nat) (hg : g < 8) : (s.rampTo k g).fld (R.pathStat k) F.pathStat.TARGET = g :=
  State.fld_setPstat_same _ _ _ _ (by decide) hg

/-- The fields of PATHk_STAT other than TARGET stay when a path ramps to a gait. -/
theorem State.fld_rampTo_apart (g : Nat) (f : Fld) (hf : f.lo + f.width ≤ 32) (h : f.lo + f.width ≤ 8 ∨ 11 ≤ f.lo) :
    (s.rampTo k g).fld (R.pathStat k) f = s.fld (R.pathStat k) f :=
  State.fld_setPstat_apart _ _ _ _ _ (by decide) hf h

theorem State.fld_rampDown_target (hard : Bool) (what : AtRest) :
    (s.rampDown k hard what).fld (R.pathStat k) F.pathStat.TARGET = 0 :=
  State.fld_setPstat_same _ _ _ _ (by decide) (by decide)

theorem State.fld_rampDown_apart (hard : Bool) (what : AtRest) (f : Fld) (hf : f.lo + f.width ≤ 32)
    (h : f.lo + f.width ≤ 8 ∨ 11 ≤ f.lo) :
    (s.rampDown k hard what).fld (R.pathStat k) f = s.fld (R.pathStat k) f :=
  State.fld_setPstat_apart _ _ _ _ _ (by decide) hf h

end

end Sys2Proof.Machine

/-!
The start of a path's dwell timer (R230): its frame, what the timer holds after it, and that it leaves the path's own state and the
fields of PATHk_STAT other than DWELL.
-/
namespace Sys2Proof.Machine

/-- The prescaler of timer n starts anew (R43). -/
def State.prescRestarted (s : State) (n : Nat) : State :=
  { s with sys := { s.sys with etimPresc := Table.erase s.sys.etimPresc n } }

theorem State.usual_prescRestarted {s : State} (n : Nat) (h : s.usual) : (s.prescRestarted n).usual :=
  ⟨State.quiet_of s _ h.1 rfl rfl rfl rfl rfl, State.settled_of s _ h.2 rfl rfl rfl rfl rfl rfl rfl⟩

@[simp] theorem State.pathSt_prescRestarted (s : State) (n j : Nat) : (s.prescRestarted n).pathSt j = s.pathSt j := rfl

/-- Up to the prescaler of one timer, the frame of an operation that restarts it. -/
theorem State.GaitOnly.state_of_presc {s t : State} {l : List Nat} {n : Nat} (h : (s.prescRestarted n).GaitOnly t l) :
    t = { s with regs := t.regs, gait := t.gait, sys := { s.sys with etimPresc := t.sys.etimPresc } } := by
  have hsys : t.sys = (s.prescRestarted n).sys := by rw [h.state]
  rw [hsys]
  exact h.state

theorem State.GaitOnly.presc {s t : State} {l : List Nat} (h : s.GaitOnly t l) (n : Nat) :
    (s.prescRestarted n).GaitOnly (t.prescRestarted n) l :=
  ⟨by rw [h.state]; rfl, h.reg⟩

/-- PATHk_STAT of every path: DWELL shows in them. -/
def pathStats : List Nat := [R.pathStat 0, R.pathStat 1, R.pathStat 2, R.pathStat 3]

theorem not_mem_pathStats {off : Nat} (h : off < 0x1842C) : off ∉ pathStats := by
  simp only [pathStats, R.pathStat, List.mem_cons, List.not_mem_nil, or_false]
  omega

/-! ## RUN of a timer -/

section
variable (s : State) (n v : Nat)

/-- RUN shows as DWELL of paths (R230), and nowhere else. -/
theorem State.etimSetRun_gaitOnly : (s.setFld (R.etimStat n) F.etimStat.RUN v).GaitOnly (s.etimSetRun n v) pathStats := by
  refine .foldl _ _ _ fun t k hk => ?_
  have hk : k < 4 := List.mem_range.mp hk
  have hmem : ∀ k < 4, R.pathStat k ∈ pathStats := by decide
  beta_reduce
  split
  · exact .setFld _ _ _ (hmem k hk)
  · exact .refl _ _

theorem State.etimRun_etimSetRun (hn : n < 32) : (s.etimSetRun n 1).etimRun n = true := by
  have hout : R.etimStat n ∉ pathStats := not_mem_pathStats (by simp only [R.etimStat]; omega)
  rw [State.etimRun, State.bit, (s.etimSetRun_gaitOnly n 1).fld hout, State.fld_setFld _ _ _ _ (by decide)]
  rfl

theorem State.pathSt_etimSetRun (j : Nat) : (s.etimSetRun n v).pathSt j = s.pathSt j := by
  refine List.foldlRecOn (motive := fun t : State => t.pathSt j = s.pathSt j) _ _ rfl fun t ht k _ => ?_
  beta_reduce
  split <;> exact ht

/-- The fields of PATHk_STAT other than DWELL do not follow RUN. -/
theorem State.fld_etimSetRun_pathStat (k : Nat) (f : Fld) (hf : f.lo + f.width ≤ 32)
    (h : f.lo + f.width ≤ 12 ∨ 13 ≤ f.lo) : (s.etimSetRun n v).fld (R.pathStat k) f = s.fld (R.pathStat k) f := by
  refine List.foldlRecOn (motive := fun t : State => t.fld (R.pathStat k) f = s.fld (R.pathStat k) f) _ _ ?_ fun t ht j _ => ?_
  · exact State.fld_setFld_ne _ _ _ _ _ _ (by simp only [R.pathStat, R.etimStat]; omega)
  · beta_reduce
    split
    · by_cases hj : R.pathStat k = R.pathStat j
      · rw [← hj, State.fld_setFld_apart _ _ _ _ _ (by decide) hf h, ht]
      · rw [State.fld_setFld_ne _ _ _ _ _ _ hj, ht]
    · exact ht

end

theorem State.etimLoadCount_eq (s : State) (n : Nat) : s.etimLoadCount n =
    (s.setReg (R.etimCount n) (if s.reg (R.etimLoad n) = 0 then 1 else s.reg (R.etimLoad n))).prescRestarted n := rfl

/-- COUNT takes LOAD, of which 0 behaves as 1 (R43). -/
theorem State.reg_etimLoadCount (s : State) (n o : Nat) : (s.etimLoadCount n).reg o =
    if o = R.etimCount n then (if s.reg (R.etimLoad n) = 0 then 1 else s.reg (R.etimLoad n)) else s.reg o :=
  State.reg_setReg _ _ _ _

/-! ## The start of the dwell -/

/-- The dwell timer of a path set up as a one-shot timer of DWELL_MS, before it runs. -/
def State.dwellLoaded (s : State) (k : Nat) : State :=
  let n := s.pcfg k F.pathCfg.DWELL_TIM
  let ms := max 200 (s.fld (R.pathPolicy k) F.pathPolicy.DWELL_MS)
  (((s.setFld (R.etimCtl n) F.etimCtl.MODE 0).setFld (R.etimCtl n) F.etimCtl.PRESC 8).setReg (R.etimLoad n)
    (BitVec.ofNat 32 (ms * 3125))).etimLoadCount n

section
variable (s : State) (k : Nat)

theorem State.dwellStart_eq : s.dwellStart k = (s.dwellLoaded k).etimSetRun (s.pcfg k F.pathCfg.DWELL_TIM) 1 := rfl

theorem State.dwellLoaded_gaitOnly :
    (s.prescRestarted (s.pcfg k F.pathCfg.DWELL_TIM)).GaitOnly (s.dwellLoaded k) (dwellRegs s k) := by
  have hctl : R.etimCtl (s.fld (R.pathCfg k) F.pathCfg.DWELL_TIM) ∈ dwellRegs s k := by simp [dwellRegs]
  have hload : R.etimLoad (s.fld (R.pathCfg k) F.pathCfg.DWELL_TIM) ∈ dwellRegs s k := by simp [dwellRegs]
  have hcount : R.etimCount (s.fld (R.pathCfg k) F.pathCfg.DWELL_TIM) ∈ dwellRegs s k := by simp [dwellRegs]
  rw [State.dwellLoaded, State.etimLoadCount_eq]
  exact (((GaitOnly.setFld s _ _ hctl).trans (.setFld _ _ _ hctl)).trans
    ((GaitOnly.setReg _ _ hload).trans (.setReg _ _ hcount))).presc _

theorem State.dwellStart_gaitOnly :
    (s.prescRestarted (s.pcfg k F.pathCfg.DWELL_TIM)).GaitOnly (s.dwellStart k) (dwellRegs s k) := by
  have hstat : R.etimStat (s.fld (R.pathCfg k) F.pathCfg.DWELL_TIM) ∈ dwellRegs s k := by simp [dwellRegs]
  have hpaths : pathStats ⊆ dwellRegs s k := by simp [dwellRegs, pathStats]
  exact ((s.dwellLoaded_gaitOnly k).trans (.setFld _ _ _ hstat)).trans ((State.etimSetRun_gaitOnly _ _ _).mono hpaths)

@[simp] theorem State.pathSt_dwellStart (j : Nat) : (s.dwellStart k).pathSt j = s.pathSt j := by
  rw [State.dwellStart_eq, State.pathSt_etimSetRun, State.dwellLoaded, State.etimLoadCount_eq, State.pathSt_prescRestarted]
  simp only [State.pathSt_setReg, State.pathSt_setFld]

/-- The load of the dwell timer: at least 200 ms of 3,125 counts each. -/
def State.dwellLoad (s : State) (k : Nat) : Word :=
  BitVec.ofNat 32 (max 200 (s.fld (R.pathPolicy k) F.pathPolicy.DWELL_MS) * 3125)

/-- The load of the dwell timer lies within 32 bits. -/
theorem State.dwellLoad_ne_zero : s.dwellLoad k ≠ 0 := by
  have hms : s.fld (R.pathPolicy k) F.pathPolicy.DWELL_MS < 2 ^ 16 := BitVec.isLt _
  intro h
  have h := congrArg BitVec.toNat h
  rw [State.dwellLoad, BitVec.toNat_ofNat] at h
  change max 200 (s.fld (R.pathPolicy k) F.pathPolicy.DWELL_MS) * 3125 % 2 ^ 32 = 0 at h
  omega

theorem State.reg_dwellLoaded (o n : Nat) (hn : n = s.pcfg k F.pathCfg.DWELL_TIM) : (s.dwellLoaded k).reg o =
    if o = R.etimCount n ∨ o = R.etimLoad n then s.dwellLoad k
    else if o = R.etimCtl n then F.etimCtl.PRESC.put (F.etimCtl.MODE.put (s.reg o) 0) 8 else s.reg o := by
  have hload := s.dwellLoad_ne_zero k
  have hne : R.etimCtl n ≠ R.etimLoad n := by simp only [R.etimCtl, R.etimLoad]; omega
  subst hn
  simp only [State.dwellLoaded, State.reg_etimLoadCount, State.reg_setReg, State.reg_setFld]
  rw [State.dwellLoad] at hload ⊢
  grind

/-- The fields of PATHk_STAT other than DWELL stay when a dwell starts. -/
theorem State.fld_dwellStart_pathStat (j : Nat) (f : Fld) (hf : f.lo + f.width ≤ 32) (h : f.lo + f.width ≤ 12 ∨ 13 ≤ f.lo) :
    (s.dwellStart k).fld (R.pathStat j) f = s.fld (R.pathStat j) f := by
  have hreg : (s.dwellLoaded k).reg (R.pathStat j) = s.reg (R.pathStat j) := by
    rw [s.reg_dwellLoaded k _ _ rfl, if_neg (by simp only [R.pathStat, R.etimCount, R.etimLoad]; omega),
      if_neg (by simp only [R.pathStat, R.etimCtl]; omega)]
  rw [State.dwellStart_eq, State.fld_etimSetRun_pathStat _ _ _ _ _ hf h, State.fld, hreg, State.fld]

theorem State.dwellStart_started : DwellStarted s (s.dwellStart k) k := by
  have hn : s.fld (R.pathCfg k) F.pathCfg.DWELL_TIM < 32 := s.dwellTim_lt k
  have hkeep : ∀ off, off < 0x05000 → off ≠ R.etimStat (s.pcfg k F.pathCfg.DWELL_TIM) →
      (s.dwellStart k).reg off = (s.dwellLoaded k).reg off := fun off h hne => by
    rw [State.dwellStart_eq, (State.etimSetRun_gaitOnly _ _ _).reg off (not_mem_pathStats (by omega)), State.reg_setFld_ne _ _ _ _ _ hne]
  generalize hdef : s.fld (R.pathCfg k) F.pathCfg.DWELL_TIM = n at hn
  have hpcfg : n = s.pcfg k F.pathCfg.DWELL_TIM := hdef.symm
  rw [← hpcfg] at hkeep
  have hcount : (s.dwellStart k).reg (R.etimCount n) = s.dwellLoad k := by
    rw [hkeep _ (by simp only [R.etimCount]; omega) (by simp only [R.etimCount, R.etimStat]; omega), s.reg_dwellLoaded k _ n hpcfg,
      if_pos (.inl rfl)]
  have hctl : (s.dwellStart k).reg (R.etimCtl n) = F.etimCtl.PRESC.put (F.etimCtl.MODE.put (s.reg (R.etimCtl n)) 0) 8 := by
    rw [hkeep _ (by simp only [R.etimCtl]; omega) (by simp only [R.etimCtl, R.etimStat]; omega), s.reg_dwellLoaded k _ n hpcfg,
      if_neg (by simp only [R.etimCtl, R.etimCount, R.etimLoad]; omega), if_pos rfl]
  have hrun : (s.dwellStart k).etimRun n = true := by
    rw [State.dwellStart_eq, ← hpcfg]
    exact State.etimRun_etimSetRun _ _ hn
  rw [DwellStarted, hdef]
  refine ⟨hrun, hcount, ?_, ?_⟩
  · rw [State.fld, hctl, Fld.get_put_apart _ _ _ _ (by decide) (by decide) (by decide), Fld.get_put _ _ _ (by decide)]
    rfl
  · rw [State.fld, hctl, Fld.get_put _ _ _ (by decide)]
    rfl

end

/-- Whether a dwell has been started rests on the path's settings and on the timer's registers. -/
theorem DwellStarted.congr {s x t u : State} {k : Nat} (h : DwellStarted x t k) (hcfg : x.reg (R.pathCfg k) = s.reg (R.pathCfg k))
    (hpol : x.reg (R.pathPolicy k) = s.reg (R.pathPolicy k)) (hu : ∀ off, off < 0x05000 → u.reg off = t.reg off) :
    DwellStarted s u k := by
  have hn := s.dwellTim_lt k
  simp only [DwellStarted, State.etimRun, State.bit, State.fld, hcfg, hpol] at h hn ⊢
  rw [hu _ (by simp only [R.etimStat]; omega), hu _ (by simp only [R.etimCount]; omega), hu _ (by simp only [R.etimCtl]; omega)]
  exact h

theorem dwellRegs_congr {s x : State} {k : Nat} (hcfg : x.reg (R.pathCfg k) = s.reg (R.pathCfg k)) : dwellRegs x k = dwellRegs s k := by
  simp only [dwellRegs, State.fld, hcfg]

/-- The frame of an operation on a path that ends with the start of its dwell. -/
theorem State.GaitOnly.dwellStart {s x : State} {l : List Nat} {k : Nat} (h : s.GaitOnly x l) (hcfg : R.pathCfg k ∉ l) :
    (s.prescRestarted (s.pcfg k F.pathCfg.DWELL_TIM)).GaitOnly (x.dwellStart k) (l ++ dwellRegs s k) := by
  have hx := x.dwellStart_gaitOnly k
  rw [dwellRegs_congr (h.reg _ hcfg), State.pcfg, h.fld hcfg] at hx
  exact ((h.presc _).mono (List.subset_append_left _ _)).trans (hx.mono (List.subset_append_right _ _))

/-- The dwell that an operation on a path starts is the one that the path is set up for. -/
theorem State.GaitOnly.dwellStarted {s x : State} {l : List Nat} {k : Nat} (h : s.GaitOnly x l) (hcfg : R.pathCfg k ∉ l)
    (hpol : R.pathPolicy k ∉ l) : DwellStarted s (x.dwellStart k) k :=
  DwellStarted.congr (x.dwellStart_started k) (h.reg _ hcfg) (h.reg _ hpol) (fun _ _ => rfl)

end Sys2Proof.Machine

/-!
What a write of PATHk_CMD amounts to, and what the meanings of the commands of Table 7-2 leave: running at a gait, a back-off, a stop
with FLOW, a gait decision, a seam abandoned, a jam cleared (R228-R231, R234, R244, R248).
-/
namespace Sys2Proof.Machine

/-! ## Settings that an operation on a path leaves -/

theorem pathCfg_not_mem_pathViews (k : Nat) : R.pathCfg k ∉ pathViews k :=
  not_mem_pathViews (by simp only [R.pathCfg]; omega) (by simp only [R.pathCfg, R.pathStat]; omega)

theorem pathPolicy_not_mem_pathViews (k : Nat) : R.pathPolicy k ∉ pathViews k :=
  not_mem_pathViews (by simp only [R.pathPolicy]; omega) (by simp only [R.pathPolicy, R.pathStat]; omega)

theorem pathSeam_not_mem_pathViews (k : Nat) : R.pathSeam k ∉ pathViews k :=
  not_mem_pathViews (by simp only [R.pathSeam]; omega) (by simp only [R.pathSeam, R.pathStat]; omega)

theorem pathOcc_not_mem_pathViews (k : Nat) : R.pathOcc k ∉ pathViews k :=
  not_mem_pathViews (by simp only [R.pathOcc]; omega) (by simp only [R.pathOcc, R.pathStat]; omega)

section
variable {s t : State} {k : Nat} (h : s.GaitOnly t (pathViews k))
include h

/-- The speed of a gait is a setting. -/
theorem State.GaitOnly.gaitSpeed (g : Nat) : t.gaitSpeed k g = s.gaitSpeed k g := by
  have hout : R.pathGspd k g ∉ pathViews k :=
    not_mem_pathViews (by simp only [R.pathGspd]; omega) (by simp only [R.pathGspd, R.pathStat]; omega)
  rw [State.gaitSpeed, h.reg _ hout, State.gaitSpeed]

/-- A register outside the views governs the hardware as before. -/
theorem State.GaitOnly.effReg {o : Nat} (ho : o ∉ pathViews k) : t.effReg o = s.effReg o := by
  have hget : ∀ e : Table Word, Table.get (fun j => t.reg j) e o = Table.get (fun j => s.reg j) e o := by
    intro e
    induction e with
    | nil => exact h.reg o ho
    | cons x r ih => simp only [Table.get]; rw [ih]
  have heff : t.eff = s.eff := by rw [h.state]
  rw [State.effReg, heff, hget, State.effReg]

theorem State.GaitOnly.reg64 {lo hi : Nat} (hlo : lo ∉ pathViews k) (hhi : hi ∉ pathViews k) : t.reg64 lo hi = s.reg64 lo hi := by
  rw [State.reg64, h.reg _ hlo, h.reg _ hhi, State.reg64]

/-- The position of a path's source is not among its views. -/
theorem State.GaitOnly.pathPos : t.pathPos k = s.pathPos k := by
  have hsrc : t.pcfg k F.pathCfg.PSRC = s.pcfg k F.pathCfg.PSRC := h.fld (pathCfg_not_mem_pathViews k) _
  have hlt : s.pcfg k F.pathCfg.PSRC < 8 := BitVec.isLt _
  rw [State.pathPos, hsrc, State.pathPos]
  generalize s.pcfg k F.pathCfg.PSRC = src at hlt
  have henc : t.reg64 (R.encPosLo src) (R.encPosHi src) = s.reg64 (R.encPosLo src) (R.encPosHi src) := by
    apply h.reg64 <;> apply not_mem_pathViews <;> simp only [R.encPosLo, R.encPosHi, R.pathStat] <;> omega
  have haxis : t.reg64 (R.axisPosLo (src - 2)) (R.axisPosHi (src - 2)) = s.reg64 (R.axisPosLo (src - 2)) (R.axisPosHi (src - 2)) := by
    apply h.reg64 <;> simp only [pathViews, R.axisPosLo, R.axisPosHi, R.pathStat, R.gaitStat, R.axisStat, R.axisRate, List.mem_cons,
      List.not_mem_nil, or_false] <;> omega
  rw [State.position, henc, haxis, State.position]

end

/-! ## A write of PATHk_CMD -/

section
variable {s : State} {path : Path} {k : Fin 4} {g : Fin 8} (hacc : s.accessible path (R.pathCmd k) = true)
include hacc

theorem exec_pathStart : exec (.pathStart path k g) s = State.done (s.pathCmd k 1 g) :=
  congrArg State.done (State.onWrite_of s path _ _ hacc)
theorem exec_pathStop : exec (.pathStop path k) s = State.done (s.pathCmd k 2 0) :=
  congrArg State.done (State.onWrite_of s path _ _ hacc)
theorem exec_pathResume : exec (.pathResume path k) s = State.done (s.pathCmd k 3 0) :=
  congrArg State.done (State.onWrite_of s path _ _ hacc)
theorem exec_pathAbandon : exec (.pathAbandon path k) s = State.done (s.pathCmd k 4 0) :=
  congrArg State.done (State.onWrite_of s path _ _ hacc)
theorem exec_pathClearJam : exec (.pathClearJam path k) s = State.done (s.pathCmd k 5 0) :=
  congrArg State.done (State.onWrite_of s path _ _ hacc)
theorem exec_pathHalt : exec (.pathHalt path k) s = State.done (s.pathCmd k 6 0) :=
  congrArg State.done (State.onWrite_of s path _ _ hacc)
theorem exec_pathGait : exec (.pathGait path k g) s = State.done (s.pathCmd k 7 g) :=
  congrArg State.done (State.onWrite_of s path _ _ hacc)

end

section
variable {s : State} {k : Nat}

/-- No command is taken by a path that is off. -/
theorem State.pathCmd_off (c j : Nat) (hoff : s.pathOn k = false) : s.pathCmd k c j = s.cmdIgnored k := if_pos (by simp [hoff])

variable (hon : s.pathOn k = true)
include hon

theorem State.pathCmd_start (g : Nat) : s.pathCmd k 1 g = s.cmdStart k g := if_neg (by simp [hon])
theorem State.pathCmd_stop : s.pathCmd k 2 0 = s.cmdStop k := if_neg (by simp [hon])
theorem State.pathCmd_resume : s.pathCmd k 3 0 = s.cmdResume k := if_neg (by simp [hon])
theorem State.pathCmd_abandon : s.pathCmd k 4 0 = s.cmdAbandon k := if_neg (by simp [hon])
theorem State.pathCmd_clearJam : s.pathCmd k 5 0 = s.cmdClearJam k := if_neg (by simp [hon])
theorem State.pathCmd_halt : s.pathCmd k 6 0 = s.cmdHalt k := if_neg (by simp [hon])
theorem State.pathCmd_gait (g : Nat) : s.pathCmd k 7 g = s.cmdGait k g := if_neg (by simp [hon])

end

/-- A command whose meaning keeps the frame of an operation on a path completes with that meaning. -/
theorem exec_pathCmd_next {s t : State} {c : Instr} {k n g : Nat} {l : List Nat}
    (hexec : exec c s = State.done (s.pathCmd k n g)) (hcmd : s.pathCmd k n g = t) {u : State} (hu : u.usual) (h : u.GaitOnly t l)
    (hl : inTransport l) : exec c s = .next t := by
  rw [hexec, hcmd, State.done_of_gaitOnly hu h hl]

/-! ## Running at a gait -/

/-- A path set to run at a gait. -/
def State.runAt (s : State) (k g : Nat) : State := ((s.rampTo k g).setPstat k F.pathStat.GAIT g).enterPath k 2

section
variable (s : State) (k : Nat) {g : Nat}

theorem State.runAt_gaitOnly : s.GaitOnly (s.runAt k g) (pathViews k) :=
  (((s.rampTo_gaitOnly k g).trans (State.setPstat_gaitOnly _ k _ _)).mono (singleton_pathStat_subset k)).trans
    (State.enterPath_gaitOnly _ k 2)

theorem State.pathState_runAt : (s.runAt k g).pathState k = 2 := State.pathState_enterPath _ _ _ (by decide)

theorem State.fld_runAt_gait (hg : g < 8) : (s.runAt k g).fld (R.pathStat k) F.pathStat.GAIT = g := by
  rw [State.runAt, State.fld_enterPath_run_gait, State.fld_setPstat_same _ _ _ _ (by decide) hg]

theorem State.fld_runAt_target (hg : g < 8) : (s.runAt k g).fld (R.pathStat k) F.pathStat.TARGET = g := by
  rw [State.runAt, State.fld_enterPath_above _ _ _ _ (by decide) (by decide),
    State.fld_setPstat_apart _ _ _ _ _ (by decide) (by decide) (by decide), State.fld_rampTo_target _ _ _ hg]

theorem State.fld_runAt_feedHold : (s.runAt k g).fld (R.pathStat k) F.pathStat.FEED_HOLD = s.fld (R.pathStat k) F.pathStat.FEED_HOLD := by
  rw [State.runAt, State.fld_enterPath_above _ _ _ _ (by decide) (by decide),
    State.fld_setPstat_apart _ _ _ _ _ (by decide) (by decide) (by decide), State.fld_rampTo_apart _ _ _ _ (by decide) (by decide)]

theorem State.pathSt_runAt :
    (s.runAt k g).pathSt k = { s.pathSt k with target := s.gaitSpeed k g, hard := false, atRest := .stay } := by
  rw [State.runAt, State.pathSt_enterPath, State.pathSt_setPstat, State.pathSt_rampTo]

end

/-! ## The end of a stop, and a back-off -/

/-- Where a back-off ends (R234). -/
def State.backoffGoal (s : State) (k : Nat) : Int :=
  signed 64 (s.reg64 (R.pathLastLo k) (R.pathLastHi k)) -
    (s.fld (R.pathSeam k) F.pathSeam.BACKOFF * (s.effReg (R.lpPitch (s.fld (R.pathCfg k) F.pathCfg.LP))).toNat : Nat) -
    (s.fld (R.pathSeam2 k) F.pathSeam2.BACKLASH * 65536 : Nat)

theorem State.GaitOnly.backoffGoal {s t : State} {k : Nat} (h : s.GaitOnly t (pathViews k)) : t.backoffGoal k = s.backoffGoal k := by
  have hlast : t.reg64 (R.pathLastLo k) (R.pathLastHi k) = s.reg64 (R.pathLastLo k) (R.pathLastHi k) := by
    apply h.reg64 <;> apply not_mem_pathViews <;> simp only [R.pathLastLo, R.pathLastHi, R.pathStat] <;> omega
  have hseam2 : R.pathSeam2 k ∉ pathViews k :=
    not_mem_pathViews (by simp only [R.pathSeam2]; omega) (by simp only [R.pathSeam2, R.pathStat]; omega)
  have hlp : s.fld (R.pathCfg k) F.pathCfg.LP < 8 := BitVec.isLt _
  have hpitch : R.lpPitch (s.fld (R.pathCfg k) F.pathCfg.LP) ∉ pathViews k :=
    not_mem_pathViews (by simp only [R.lpPitch]; omega) (by simp only [R.lpPitch, R.pathStat]; omega)
  rw [State.backoffGoal, hlast, h.fld (pathSeam_not_mem_pathViews k), h.fld hseam2, h.fld (pathCfg_not_mem_pathViews k), h.effReg hpitch, State.backoffGoal]

/-- A path set to back off (R234). -/
def State.backOff (s : State) (k : Nat) : State :=
  ((s.rampTo k (s.fld (R.pathSeam k) F.pathSeam.SEAM_GAIT)).setPathSt k
    { (s.rampTo k (s.fld (R.pathSeam k) F.pathSeam.SEAM_GAIT)).pathSt k with reverse := true, goal := s.backoffGoal k }).enterPath k 5

section
variable (s : State) (k : Nat)

theorem State.restart_of_seam (h : s.fld (R.pathCfg k) F.pathCfg.SEAM_EN = 1) : s.restart k = s.backOff k := if_pos h

theorem State.restart_of_no_seam (h : s.fld (R.pathCfg k) F.pathCfg.SEAM_EN = 0) :
    s.restart k = (s.dropSeam k).runAt k (s.fld (R.pathPolicy k) F.pathPolicy.GMIN) :=
  if_neg (by rw [State.pcfg, h]; decide)

theorem State.backOff_gaitOnly : s.GaitOnly (s.backOff k) (pathViews k) :=
  (((s.rampTo_gaitOnly k _).trans (.setPathSt _ _ _)).mono (singleton_pathStat_subset k)).trans (State.enterPath_gaitOnly _ k 5)

theorem State.fld_backOff_feedHold : (s.backOff k).fld (R.pathStat k) F.pathStat.FEED_HOLD = s.fld (R.pathStat k) F.pathStat.FEED_HOLD := by
  rw [State.backOff, State.fld_enterPath_above _ _ _ _ (by decide) (by decide), State.fld_setPathSt,
    State.fld_rampTo_apart _ _ _ _ (by decide) (by decide)]

theorem State.pathSt_backOff : (s.backOff k).pathSt k =
    { s.pathSt k with target := s.gaitSpeed k (s.fld (R.pathSeam k) F.pathSeam.SEAM_GAIT), hard := false, atRest := .stay,
                      reverse := true, goal := s.backoffGoal k } := by
  rw [State.backOff, State.pathSt_enterPath, State.pathSt_setPathSt_same, State.pathSt_rampTo]

end

/-! ## A stop of a path with FLOW -/

/-- A stopped path with FLOW: the feed is held, and HALT follows once the track is empty (Table 7-1). -/
def State.flowStopped (s : State) (k : Nat) : State :=
  (s.feedHold k 1).setPathSt k { (s.feedHold k 1).pathSt k with haltWhenEmpty := true, holdByLoop := false }

section
variable (s : State) (k : Nat)

theorem State.flowStopped_gaitOnly : s.GaitOnly (s.flowStopped k) (pathViews k) :=
  (s.feedHold_gaitOnly k 1).trans (.setPathSt _ k _)

theorem State.haltIfEmpty_flowStopped (h : s.fld (R.pathOcc k) F.pathOcc.IN_TRACK ≠ 0) :
    (s.flowStopped k).haltIfEmpty k = s.flowStopped k := by
  have htrack : (s.flowStopped k).fld (R.pathOcc k) F.pathOcc.IN_TRACK ≠ 0 := by
    rwa [(s.flowStopped_gaitOnly k).fld (pathOcc_not_mem_pathViews k)]
  exact if_neg (by simp [htrack])

theorem State.pathState_flowStopped : (s.flowStopped k).pathState k = s.pathState k := by
  rw [State.pathState, State.flowStopped, State.fld_setPathSt, State.feedHold, State.fld_refreshPath_pathStat,
    State.fld_setPstat_apart _ _ _ _ _ (by decide) (by decide) (by decide), State.pathState]

theorem State.fld_flowStopped_feedHold : (s.flowStopped k).fld (R.pathStat k) F.pathStat.FEED_HOLD = 1 := by
  rw [State.flowStopped, State.fld_setPathSt, State.fld_feedHold_same _ _ _ (by decide)]

theorem State.pathSt_flowStopped : (s.flowStopped k).pathSt k = { s.pathSt k with haltWhenEmpty := true, holdByLoop := false } := by
  rw [State.flowStopped, State.pathSt_setPathSt_same, State.pathSt_feedHold]

end

/-! ## A gait decision -/

/-- A path with a gait decided and counted, before its dwell. -/
def State.gaitCounted (s : State) (k g : Nat) : State := ((s.rampTo k g).setPstat k F.pathStat.GAIT g).count (R.pathGaitCnt k)

section
variable (s : State) (k g : Nat)

theorem pathStat_ne_pathGaitCnt (j : Nat) : R.pathStat j ≠ R.pathGaitCnt k := by simp only [R.pathStat, R.pathGaitCnt]; omega

theorem State.gaitCounted_gaitOnly : s.GaitOnly (s.gaitCounted k g) [R.pathGaitCnt k, R.pathStat k] :=
  (((s.rampTo_gaitOnly k g).trans (State.setPstat_gaitOnly _ k _ _)).mono (List.subset_cons_self _ _)).trans
    (.count _ List.mem_cons_self)

theorem pathCfg_not_mem_gaitCounted : R.pathCfg k ∉ [R.pathGaitCnt k, R.pathStat k] := by
  simp only [List.mem_cons, List.not_mem_nil, or_false, R.pathCfg, R.pathGaitCnt, R.pathStat]; omega

theorem pathPolicy_not_mem_gaitCounted : R.pathPolicy k ∉ [R.pathGaitCnt k, R.pathStat k] := by
  simp only [List.mem_cons, List.not_mem_nil, or_false, R.pathPolicy, R.pathGaitCnt, R.pathStat]; omega

/-- Up to its event and the prescaler of its dwell timer, the frame of a gait decision. -/
theorem State.gaitDecide_gaitOnly (k : Fin 4) :
    ((s.fire (168 + k)).prescRestarted ((s.fire (168 + k)).pcfg k F.pathCfg.DWELL_TIM)).GaitOnly (s.gaitDecide k g)
      (R.pathGaitCnt k :: dwellRegs s k) := by
  have hstats : ∀ k : Fin 4, R.pathStat k ∈ pathStats := by decide
  have hstat : R.pathStat k ∈ dwellRegs s k := List.mem_append_right [_, _, _, _] (hstats k)
  have hsub : [R.pathGaitCnt k, R.pathStat k] ++ dwellRegs s k ⊆ R.pathGaitCnt k :: dwellRegs s k := by simp [hstat]
  exact (((s.gaitCounted_gaitOnly k g).fire (168 + k)).dwellStart (pathCfg_not_mem_gaitCounted k)).mono hsub

theorem State.dwellStarted_gaitDecide : DwellStarted s (s.gaitDecide k g) k :=
  ((s.gaitCounted_gaitOnly k g).fire (168 + k)).dwellStarted (pathCfg_not_mem_gaitCounted k) (pathPolicy_not_mem_gaitCounted k)

theorem State.target_gaitDecide : ((s.gaitDecide k g).pathSt k).target = s.gaitSpeed k g := by
  rw [State.gaitDecide, State.pathSt_dwellStart, State.pathSt_fire, State.pathSt_count, State.pathSt_setPstat, State.pathSt_rampTo]

/-- The fields of PATHk_STAT below DWELL show what the decision sets. -/
theorem State.fld_gaitDecide (f : Fld) (hf : f.lo + f.width ≤ 12) : (s.gaitDecide k g).fld (R.pathStat k) f =
    ((s.rampTo k g).setPstat k F.pathStat.GAIT g).fld (R.pathStat k) f := by
  rw [State.gaitDecide, State.fld_dwellStart_pathStat _ _ _ _ (by omega) (.inl hf), State.fld_fire, State.count,
    State.fld_setReg_ne _ _ _ _ _ (pathStat_ne_pathGaitCnt k k)]

theorem State.pathState_gaitDecide : (s.gaitDecide k g).pathState k = s.pathState k := by
  rw [State.pathState, State.fld_gaitDecide _ _ _ _ (by decide), State.fld_setPstat_apart _ _ _ _ _ (by decide) (by decide) (by decide),
    State.fld_rampTo_apart _ _ _ _ (by decide) (by decide), State.pathState]

theorem State.fld_gaitDecide_gait {g : Nat} (hg : g < 8) : (s.gaitDecide k g).fld (R.pathStat k) F.pathStat.GAIT = g := by
  rw [State.fld_gaitDecide _ _ _ _ (by decide), State.fld_setPstat_same _ _ _ _ (by decide) hg]

theorem State.reg_gaitDecide_count : (s.gaitDecide k g).reg (R.pathGaitCnt k) = satInc (s.reg (R.pathGaitCnt k)) := by
  have hset := (s.rampTo_gaitOnly k g).trans (State.setPstat_gaitOnly (s.rampTo k g) k F.pathStat.GAIT g)
  have hcount : R.pathGaitCnt k ∉ [R.pathStat k] := by simpa using (pathStat_ne_pathGaitCnt k k).symm
  have hdwell : R.pathGaitCnt k ∉ dwellRegs ((s.gaitCounted k g).fire (168 + k)) k := by
    have hn := State.dwellTim_lt ((s.gaitCounted k g).fire (168 + k)) k
    simp only [dwellRegs, R.pathStat, R.pathGaitCnt, R.etimCtl, R.etimLoad, R.etimCount, R.etimStat, List.mem_cons, List.not_mem_nil,
      or_false]
    omega
  calc (s.gaitDecide k g).reg (R.pathGaitCnt k)
      = (s.gaitCounted k g).reg (R.pathGaitCnt k) := (State.dwellStart_gaitOnly _ k).reg _ hdwell
    _ = satInc (((s.rampTo k g).setPstat k F.pathStat.GAIT g).reg (R.pathGaitCnt k)) := State.reg_setReg_same _ _ _
    _ = satInc (s.reg (R.pathGaitCnt k)) := by rw [hset.reg _ hcount]

end

/-! ## A seam abandoned -/

/-- A path whose seam is dropped comes to rest in HALT. -/
def State.seamAbandoned (s : State) (k : Nat) : State := (s.dropSeam k).rampDown k false .halt

/-- A path at rest whose seam is dropped is in HALT at once. -/
def State.seamHalted (s : State) (k : Nat) : State :=
  (((s.seamAbandoned k).setPathSt k { (s.seamAbandoned k).pathSt k with atRest := .stay, reverse := false }).fire (172 + k)).enterPath k 1

section
variable (s : State) (k : Nat)

theorem State.closeTracks_of_none (status : Nat) (h : s.fld (R.pathLinks k) F.pathLinks.TRKS = 0) : s.closeTracks k status = s := by
  rw [State.closeTracks, h]
  rfl

theorem State.seamAbandoned_gaitOnly : s.GaitOnly (s.seamAbandoned k) [R.pathStat k] :=
  (s.dropSeam_gaitOnly k).trans (State.rampDown_gaitOnly _ k _ _)

theorem State.pathState_seamAbandoned : (s.seamAbandoned k).pathState k = s.pathState k := by
  rw [State.pathState, State.seamAbandoned, State.fld_rampDown_apart _ _ _ _ _ (by decide) (by decide), State.fld_dropSeam,
    State.pathState]

theorem State.pathSt_seamAbandoned : (s.seamAbandoned k).pathSt k =
    { s.pathSt k with seams := [], overlap := 0, target := 0, hard := false, atRest := .halt } := by
  rw [State.seamAbandoned, State.pathSt_rampDown, State.pathSt_dropSeam]

theorem State.cmdAbandon_of_no_tracks (h3 : 3 ≤ s.pathState k) (h6 : s.pathState k ≤ 6)
    (h : s.fld (R.pathLinks k) F.pathLinks.TRKS = 0) : s.cmdAbandon k =
      if (s.pathSt k).speed = 0 then s.seamHalted k else s.seamAbandoned k := by
  have hspeed : ((s.seamAbandoned k).pathSt k).speed = (s.pathSt k).speed := by rw [State.pathSt_seamAbandoned]
  rw [State.cmdAbandon, if_pos (by omega), s.closeTracks_of_none k _ h, ← hspeed]
  rfl

/-- Up to the event, the frame of an ABANDON at rest. -/
theorem State.seamHalted_gaitOnly : (s.fire (172 + k)).GaitOnly (s.seamHalted k) (pathViews k) :=
  ((((s.seamAbandoned_gaitOnly k).mono (singleton_pathStat_subset k)).trans (.setPathSt _ k _)).fire (172 + k)).trans
    (State.enterPath_gaitOnly _ k 1)

theorem State.pathState_seamHalted : (s.seamHalted k).pathState k = 1 := State.pathState_enterPath _ _ _ (by decide)

theorem State.pathSt_seamHalted : (s.seamHalted k).pathSt k =
    { s.pathSt k with seams := [], overlap := 0, target := 0, hard := false, atRest := .stay, reverse := false } := by
  rw [State.seamHalted, State.pathSt_enterPath, State.pathSt_fire, State.pathSt_setPathSt_same, State.pathSt_seamAbandoned]

end

/-! ## A jam cleared (R248) -/

/-- The axes of a path, and its feed axis, are driven again after a driver fault. -/
def State.drivenAgain (s : State) (k : Nat) : State :=
  { s with gait := { s.gait with faulted := (setBits s.gait.faulted 4).foldl (fun m n =>
      if (s.axesOf k ++ (s.feedAxis k).toList).contains n then m else m ||| 2 ^ n) 0 } }

/-- A path whose jam is cleared reverses by REV counts. -/
def State.jamReversed (s : State) (k : Nat) : State :=
  ((s.rampTo k (s.fld (R.pathPolicy k) F.pathPolicy.GMIN)).setPathSt k
    { (s.rampTo k (s.fld (R.pathPolicy k) F.pathPolicy.GMIN)).pathSt k with
      reverse := true, atRest := .cleared
      goal := (s.rampTo k (s.fld (R.pathPolicy k) F.pathPolicy.GMIN)).pathPos k -
        (s.fld (R.pathRev k) F.pathRev.REV * 65536 : Nat) }).refreshPath k

section
variable (s : State) (k : Nat)

theorem State.cmdClearJam_of_rest (hst : s.pathState k = 7) (hrest : (s.pathSt k).speed = 0) : s.cmdClearJam k =
    if (s.drivenAgain k).fld (R.pathRev k) F.pathRev.REV = 0 then (s.drivenAgain k).clearJamEnd k
    else (s.drivenAgain k).jamReversed k :=
  if_pos (by simp [hst, hrest])

/-- No axis of the path stays stopped by a driver fault. -/
theorem State.faulted_drivenAgain (n : Nat) (hn : (s.axesOf k).contains n = true) : (s.drivenAgain k).gait.faulted.testBit n = false := by
  have hmem : (s.axesOf k ++ (s.feedAxis k).toList).contains n = true := by
    rw [List.contains_iff_mem] at hn ⊢
    exact List.mem_append_left _ hn
  refine List.foldlRecOn (motive := fun m : Nat => m.testBit n = false) _ _ (Nat.zero_testBit n) fun m hm i _ => ?_
  split
  · exact hm
  · rename_i hi
    have hne : i ≠ n := fun e => hi (e ▸ hmem)
    rw [Nat.testBit_or, hm, Nat.testBit_two_pow_of_ne hne, Bool.false_or]

theorem State.jamReversed_gaitOnly : s.GaitOnly (s.jamReversed k) (pathViews k) :=
  (((s.rampTo_gaitOnly k _).trans (.setPathSt _ k _)).mono (singleton_pathStat_subset k)).trans
    (State.refreshPath_gaitOnly_pathViews _ k)

theorem State.pathState_jamReversed : (s.jamReversed k).pathState k = s.pathState k := by
  rw [State.pathState, State.jamReversed, State.fld_refreshPath_pathStat, State.fld_setPathSt,
    State.fld_rampTo_apart _ _ _ _ (by decide) (by decide), State.pathState]

theorem State.pathSt_jamReversed : (s.jamReversed k).pathSt k =
    { s.pathSt k with target := s.gaitSpeed k (s.fld (R.pathPolicy k) F.pathPolicy.GMIN), hard := false, reverse := true,
                      atRest := .cleared, goal := s.pathPos k - (s.fld (R.pathRev k) F.pathRev.REV * 65536 : Nat) } := by
  rw [State.jamReversed, State.pathSt_refreshPath, State.pathSt_setPathSt_same, State.pathSt_rampTo,
    ((s.rampTo_gaitOnly k _).mono (singleton_pathStat_subset k)).pathPos]

/-- The path at rest that the end of CLEAR_JAM looks at. -/
def State.jamRested (s : State) (k : Nat) : State :=
  s.setPathSt k { s.pathSt k with speed := 0, target := 0, reverse := false, atRest := .stay }

theorem State.clearJamEnd_of_clear (h : s.chkLevels k = 0) : s.clearJamEnd k =
    (((s.jamRested k).setPathSt k { (s.jamRested k).pathSt k with waiting := [], slipDue := false }).setFld (R.pathOcc k)
      F.pathOcc.IN_TRACK 0).enterPath k 1 := if_pos h

theorem State.clearJamEnd_of_covered (h : s.chkLevels k ≠ 0) : s.clearJamEnd k =
    ((s.jamRested k).setPstat k F.pathStat.JAM_CAUSE 7).refreshPath k := if_neg h

theorem State.clearJamEnd_gaitOnly : s.GaitOnly (s.clearJamEnd k) (R.pathOcc k :: pathViews k) := by
  have hrested : s.GaitOnly (s.jamRested k) (R.pathOcc k :: pathViews k) := .setPathSt s k _
  by_cases h : s.chkLevels k = 0
  · rw [s.clearJamEnd_of_clear k h]
    exact ((hrested.trans (.setPathSt _ k _)).trans (.setFld _ _ _ List.mem_cons_self)).trans
      ((State.enterPath_gaitOnly _ k 1).mono (List.subset_cons_self _ _))
  · rw [s.clearJamEnd_of_covered k h]
    exact hrested.trans ((((State.setPstat_gaitOnly _ k _ _).mono (singleton_pathStat_subset k)).trans
      (State.refreshPath_gaitOnly_pathViews _ k)).mono (List.subset_cons_self _ _))

theorem State.faulted_clearJamEnd : (s.clearJamEnd k).gait.faulted = s.gait.faulted := by
  by_cases h : s.chkLevels k = 0
  · rw [s.clearJamEnd_of_clear k h, State.faulted_enterPath]
    rfl
  · rw [s.clearJamEnd_of_covered k h, State.faulted_refreshPath]
    rfl

/-- With no checkpoint covered the path is in HALT, its track empty. -/
theorem State.clearJamEnd_clear (h : s.chkLevels k = 0) :
    (s.clearJamEnd k).pathState k = 1 ∧ (s.clearJamEnd k).fld (R.pathOcc k) F.pathOcc.IN_TRACK = 0 ∧
      ((s.clearJamEnd k).pathSt k).waiting = [] := by
  rw [s.clearJamEnd_of_clear k h]
  refine ⟨State.pathState_enterPath _ _ _ (by decide), ?_, ?_⟩
  · rw [(State.enterPath_gaitOnly _ k 1).fld (pathOcc_not_mem_pathViews k), State.fld_setFld _ _ _ _ (by decide)]
    rfl
  · rw [State.pathSt_enterPath, State.pathSt_setFld, State.pathSt_setPathSt_same]

/-- With a checkpoint covered the jam stays, with cause 7. -/
theorem State.clearJamEnd_covered (hst : s.pathState k = 7) (h : s.chkLevels k ≠ 0) :
    (s.clearJamEnd k).pathState k = 7 ∧ (s.clearJamEnd k).fld (R.pathStat k) F.pathStat.JAM_CAUSE = 7 := by
  rw [s.clearJamEnd_of_covered k h, State.pathState, State.fld_refreshPath_pathStat, State.fld_refreshPath_pathStat]
  refine ⟨?_, State.fld_setPstat_same _ _ _ _ (by decide) (by decide)⟩
  rw [State.fld_setPstat_apart _ _ _ _ _ (by decide) (by decide) (by decide)]
  exact hst

end

end Sys2Proof.Machine

/-!
Each path command where it is taken, and ignored elsewhere (R226, R227, Tables 7-1 and 7-2).
-/
namespace Sys2Proof.Machine

/-! ## The commands where they are taken -/

section
variable {s : State} {path : Path} {k : Fin 4} {g : Fin 8} (hu : s.usual) (hacc : s.accessible path (R.pathCmd k) = true)
  (hon : s.pathOn k = true)
include hu hacc hon

/-- START in HALT (Table 7-2). -/
theorem exec_pathStart_in_halt (hst : s.pathState k = 1) (hok : s.gaitOk k g = true) :
    ∃ t, exec (.pathStart path k g) s = .next t ∧ t = { s with regs := t.regs, gait := t.gait } ∧ t.pathState k = 2 ∧
      t.fld (R.pathStat k) F.pathStat.GAIT = g ∧ t.fld (R.pathStat k) F.pathStat.TARGET = g ∧
      (t.pathSt k).target = s.gaitSpeed k g ∧ (t.pathSt k).speed = (s.pathSt k).speed ∧
      (∀ off, off ∉ pathViews k → t.reg off = s.reg off) := by
  have hcmd : s.cmdStart k g = s.runAt k g := if_pos (by simp [hst, hon, hok])
  have hframe := s.runAt_gaitOnly k (g := g)
  have hpath := s.pathSt_runAt k (g := g)
  exact ⟨_, exec_pathCmd_next (exec_pathStart hacc) ((State.pathCmd_start hon g).trans hcmd) hu hframe (inTransport_pathViews k),
    hframe.state, s.pathState_runAt k, s.fld_runAt_gait k g.isLt, s.fld_runAt_target k g.isLt, by rw [hpath], by rw [hpath],
    hframe.reg⟩

/-- HALT in RUN: the path decelerates and stays in RUN until it rests. -/
theorem exec_pathHalt_in_run (hst : s.pathState k = 2) :
    ∃ t, exec (.pathHalt path k) s = .next t ∧ t = { s with regs := t.regs, gait := t.gait } ∧ t.pathState k = 2 ∧
      (t.pathSt k).target = 0 ∧ (t.pathSt k).atRest = .halt ∧ (t.pathSt k).hard = false ∧
      t.fld (R.pathStat k) F.pathStat.TARGET = 0 ∧ (∀ off, off ≠ R.pathStat k → t.reg off = s.reg off) := by
  have hcmd : s.cmdHalt k = s.rampDown k false .halt := if_pos hst
  have hframe := s.rampDown_gaitOnly k false .halt
  have hpath := s.pathSt_rampDown k false .halt
  exact ⟨_, exec_pathCmd_next (exec_pathHalt hacc) ((State.pathCmd_halt hon).trans hcmd) hu
      (hframe.mono (singleton_pathStat_subset k)) (inTransport_pathViews k),
    hframe.state, (s.fld_rampDown_apart k _ _ _ (by decide) (by decide)).trans hst, by rw [hpath], by rw [hpath], by rw [hpath],
    s.fld_rampDown_target k _ _, fun off ho => hframe.reg off (by simpa using ho)⟩

/-- STOP in RUN of a path without FLOW: a seam stop, with the feed held and a dwell (R230, R231, R244). -/
theorem exec_pathStop_in_run (hst : s.pathState k = 2) (hflow : s.fld (R.pathCfg k) F.pathCfg.FLOW = 0) :
    ∃ t, exec (.pathStop path k) s = .next t ∧
      t = { s with regs := t.regs, gait := t.gait, sys := { s.sys with etimPresc := t.sys.etimPresc } } ∧ t.pathState k = 3 ∧
      t.fld (R.pathStat k) F.pathStat.FEED_HOLD = 1 ∧ t.fld (R.pathStat k) F.pathStat.GAIT = 0 ∧ (t.pathSt k).target = 0 ∧
      (t.pathSt k).atRest = .stop ∧ (t.pathSt k).hard = false ∧ DwellStarted s t k ∧
      (∀ off, off ∉ pathViews k ++ dwellRegs s k → t.reg off = s.reg off) := by
  have hcmd : s.cmdStop k = s.enterStopping k := (if_pos hst).trans (if_pos hflow)
  have hheld : s.GaitOnly ((s.rampDown k false .stop).feedHold k 1) (pathViews k) :=
    ((s.rampDown_gaitOnly k _ _).mono (singleton_pathStat_subset k)).trans (State.feedHold_gaitOnly _ k 1)
  have hstop := State.enterPath_gaitOnly (((s.rampDown k false .stop).feedHold k 1).dwellStart k) k 3
  have hframe := (hheld.dwellStart (pathCfg_not_mem_pathViews k)).trans (hstop.mono (List.subset_append_left _ (dwellRegs s k)))
  have hpath : (s.enterStopping k).pathSt k = { s.pathSt k with target := 0, hard := false, atRest := .stop } := by
    rw [State.enterStopping, State.pathSt_enterPath, State.pathSt_dwellStart, State.pathSt_feedHold, State.pathSt_rampDown]
  have hfeed : (s.enterStopping k).fld (R.pathStat k) F.pathStat.FEED_HOLD = 1 := by
    rw [State.enterStopping, State.fld_enterPath_above _ _ _ _ (by decide) (by decide),
      State.fld_dwellStart_pathStat _ _ _ _ (by decide) (by decide), State.fld_feedHold_same _ _ _ (by decide)]
  have hdwell : DwellStarted s (s.enterStopping k) k :=
    DwellStarted.congr (hheld.dwellStarted (pathCfg_not_mem_pathViews k) (pathPolicy_not_mem_pathViews k)) rfl rfl fun off ho =>
      hstop.reg off (not_mem_pathViews (.inl (by omega)) (by simp only [R.pathStat]; omega))
  exact ⟨_, exec_pathCmd_next (exec_pathStop hacc) ((State.pathCmd_stop hon).trans hcmd) (State.usual_prescRestarted _ hu) hframe
      (inTransport_append (inTransport_pathViews k) (inTransport_dwellRegs s k)),
    hframe.state_of_presc, State.pathState_enterPath _ _ _ (by decide), hfeed, State.fld_enterPath_gait_of_ne _ _ _ (by decide),
    by rw [hpath], by rw [hpath], by rw [hpath], hdwell, hframe.reg⟩

/-- STOP in RUN of a path with FLOW and documents in its track: the feed is held, and HALT follows once the track is empty. -/
theorem exec_pathStop_in_flow (hst : s.pathState k = 2) (hflow : s.fld (R.pathCfg k) F.pathCfg.FLOW = 1)
    (htrack : s.fld (R.pathOcc k) F.pathOcc.IN_TRACK ≠ 0) :
    ∃ t, exec (.pathStop path k) s = .next t ∧ t = { s with regs := t.regs, gait := t.gait } ∧ t.pathState k = 2 ∧
      t.fld (R.pathStat k) F.pathStat.FEED_HOLD = 1 ∧ t.pathSt k = { s.pathSt k with haltWhenEmpty := true, holdByLoop := false } ∧
      (∀ off, off ∉ pathViews k → t.reg off = s.reg off) := by
  have hcmd : s.cmdStop k = s.flowStopped k :=
    ((if_pos hst).trans (if_neg (by rw [State.pcfg, hflow]; decide))).trans (s.haltIfEmpty_flowStopped k htrack)
  have hframe := s.flowStopped_gaitOnly k
  exact ⟨_, exec_pathCmd_next (exec_pathStop hacc) ((State.pathCmd_stop hon).trans hcmd) hu hframe (inTransport_pathViews k),
    hframe.state, (s.pathState_flowStopped k).trans hst, s.fld_flowStopped_feedHold k, s.pathSt_flowStopped k, hframe.reg⟩

/-- GAIT in RUN: a gait decision (R228-R230). -/
theorem exec_pathGait_in_run (hst : s.pathState k = 2) (hok : s.gaitOk k g = true) :
    ∃ t, exec (.pathGait path k g) s = .next t ∧ t.pathState k = 2 ∧
      t = { s with regs := t.regs, gait := t.gait, pulses := addSorted s.pulses (168 + k)
                   sys := { s.sys with etimPresc := t.sys.etimPresc } } ∧
      t.fld (R.pathStat k) F.pathStat.GAIT = g ∧ (t.pathSt k).target = s.gaitSpeed k g ∧ DwellStarted s t k ∧
      t.reg (R.pathGaitCnt k) = satInc (s.reg (R.pathGaitCnt k)) ∧
      (∀ off, off ∉ R.pathGaitCnt k :: dwellRegs s k → t.reg off = s.reg off) := by
  have hcmd : s.cmdGait k g = s.gaitDecide k g := if_pos (by simp [hst, hok])
  have hframe := s.gaitDecide_gaitOnly g k
  exact ⟨_, exec_pathCmd_next (exec_pathGait hacc) ((State.pathCmd_gait hon g).trans hcmd)
      (State.usual_prescRestarted _ (State.usual_fire _ hu)) hframe
      (inTransport_cons (by simp only [R.pathGaitCnt]; omega) (inTransport_dwellRegs s k)),
    (s.pathState_gaitDecide k g).trans hst, hframe.state_of_presc, s.fld_gaitDecide_gait k g.isLt, s.target_gaitDecide k g,
    s.dwellStarted_gaitDecide k g, s.reg_gaitDecide_count k g, hframe.reg⟩

/-- RESUME in STOPPED without a seam: RUN at GMIN. -/
theorem exec_pathResume_without_seam (hst : s.pathState k = 4) (hseam : s.fld (R.pathCfg k) F.pathCfg.SEAM_EN = 0) :
    ∃ t, exec (.pathResume path k) s = .next t ∧ t = { s with regs := t.regs, gait := t.gait } ∧ t.pathState k = 2 ∧
      t.fld (R.pathStat k) F.pathStat.FEED_HOLD = 0 ∧
      t.fld (R.pathStat k) F.pathStat.GAIT = s.fld (R.pathPolicy k) F.pathPolicy.GMIN ∧
      (t.pathSt k).target = s.gaitSpeed k (s.fld (R.pathPolicy k) F.pathPolicy.GMIN) ∧ (t.pathSt k).seams = [] ∧
      (∀ off, off ∉ pathViews k → t.reg off = s.reg off) := by
  have hheld := s.feedHold_gaitOnly k 0
  have hdrop : s.GaitOnly ((s.feedHold k 0).dropSeam k) (pathViews k) := hheld.trans (State.dropSeam_gaitOnly _ k)
  have hgmin : s.fld (R.pathPolicy k) F.pathPolicy.GMIN < 8 := BitVec.isLt _
  have hcmd : s.cmdResume k = ((s.feedHold k 0).dropSeam k).runAt k (s.fld (R.pathPolicy k) F.pathPolicy.GMIN) := by
    rw [State.cmdResume, if_pos hst, State.restart_of_no_seam _ _ (by rw [hheld.fld (pathCfg_not_mem_pathViews k), hseam]),
      hheld.fld (pathPolicy_not_mem_pathViews k)]
  have hframe := hdrop.trans (State.runAt_gaitOnly _ k (g := s.fld (R.pathPolicy k) F.pathPolicy.GMIN))
  have hpath := ((s.feedHold k 0).dropSeam k).pathSt_runAt k (g := s.fld (R.pathPolicy k) F.pathPolicy.GMIN)
  have hfeed : (((s.feedHold k 0).dropSeam k).runAt k (s.fld (R.pathPolicy k) F.pathPolicy.GMIN)).fld (R.pathStat k)
      F.pathStat.FEED_HOLD = 0 := by
    rw [State.fld_runAt_feedHold, State.fld_dropSeam, State.fld_feedHold_same _ _ _ (by decide)]
  exact ⟨_, exec_pathCmd_next (exec_pathResume hacc) ((State.pathCmd_resume hon).trans hcmd) hu hframe (inTransport_pathViews k),
    hframe.state, State.pathState_runAt _ k, hfeed, State.fld_runAt_gait _ k hgmin, by rw [hpath, hdrop.gaitSpeed],
    by rw [hpath, State.pathSt_dropSeam], hframe.reg⟩

/-- RESUME in STOPPED with a seam: the path backs off (R234). -/
theorem exec_pathResume_with_seam (hst : s.pathState k = 4) (hseam : s.fld (R.pathCfg k) F.pathCfg.SEAM_EN = 1) :
    ∃ t, exec (.pathResume path k) s = .next t ∧ t = { s with regs := t.regs, gait := t.gait } ∧ t.pathState k = 5 ∧
      t.fld (R.pathStat k) F.pathStat.FEED_HOLD = 0 ∧ (t.pathSt k).reverse = true ∧
      (t.pathSt k).target = s.gaitSpeed k (s.fld (R.pathSeam k) F.pathSeam.SEAM_GAIT) ∧ (t.pathSt k).goal = s.backoffGoal k ∧
      (∀ off, off ∉ pathViews k → t.reg off = s.reg off) := by
  have hheld := s.feedHold_gaitOnly k 0
  have hcmd : s.cmdResume k = (s.feedHold k 0).backOff k := by
    rw [State.cmdResume, if_pos hst, State.restart_of_seam _ _ (by rw [hheld.fld (pathCfg_not_mem_pathViews k), hseam])]
  have hframe := hheld.trans (State.backOff_gaitOnly _ k)
  have hpath := (s.feedHold k 0).pathSt_backOff k
  have hfeed : ((s.feedHold k 0).backOff k).fld (R.pathStat k) F.pathStat.FEED_HOLD = 0 := by
    rw [State.fld_backOff_feedHold, State.fld_feedHold_same _ _ _ (by decide)]
  exact ⟨_, exec_pathCmd_next (exec_pathResume hacc) ((State.pathCmd_resume hon).trans hcmd) hu hframe (inTransport_pathViews k),
    hframe.state, State.pathState_enterPath _ _ _ (by decide), hfeed, by rw [hpath],
    by rw [hpath, hheld.gaitSpeed, hheld.fld (pathSeam_not_mem_pathViews k)], by rw [hpath, hheld.backoffGoal], hframe.reg⟩

/-- ABANDON of a path without tracks at rest: the seam is dropped, EV172 + k fires and the path enters HALT. -/
theorem exec_pathAbandon_at_rest (h3 : 3 ≤ s.pathState k) (h6 : s.pathState k ≤ 6)
    (htracks : s.fld (R.pathLinks k) F.pathLinks.TRKS = 0) (hrest : (s.pathSt k).speed = 0) :
    ∃ t, exec (.pathAbandon path k) s = .next t ∧
      t = { s with regs := t.regs, gait := t.gait, pulses := addSorted s.pulses (172 + k) } ∧ t.pathState k = 1 ∧
      (t.pathSt k).target = 0 ∧ (t.pathSt k).seams = [] ∧ (t.pathSt k).reverse = false ∧
      (∀ off, off ∉ pathViews k → t.reg off = s.reg off) := by
  have hcmd : s.cmdAbandon k = s.seamHalted k := (s.cmdAbandon_of_no_tracks k h3 h6 htracks).trans (if_pos hrest)
  have hframe := s.seamHalted_gaitOnly k
  have hpath := s.pathSt_seamHalted k
  exact ⟨_, exec_pathCmd_next (exec_pathAbandon hacc) ((State.pathCmd_abandon hon).trans hcmd) (State.usual_fire _ hu) hframe
      (inTransport_pathViews k),
    hframe.state, s.pathState_seamHalted k, by rw [hpath], by rw [hpath], by rw [hpath], hframe.reg⟩

/-- ABANDON of a path without tracks that moves: the seam is dropped and the path comes to rest first. -/
theorem exec_pathAbandon_moving (h3 : 3 ≤ s.pathState k) (h6 : s.pathState k ≤ 6)
    (htracks : s.fld (R.pathLinks k) F.pathLinks.TRKS = 0) (hmove : (s.pathSt k).speed ≠ 0) :
    ∃ t, exec (.pathAbandon path k) s = .next t ∧ t = { s with regs := t.regs, gait := t.gait } ∧ t.pathState k = s.pathState k ∧
      (t.pathSt k).target = 0 ∧ (t.pathSt k).atRest = .halt ∧ (t.pathSt k).seams = [] ∧
      (∀ off, off ≠ R.pathStat k → t.reg off = s.reg off) := by
  have hpath := s.pathSt_seamAbandoned k
  have hcmd : s.cmdAbandon k = s.seamAbandoned k := (s.cmdAbandon_of_no_tracks k h3 h6 htracks).trans (if_neg hmove)
  have hframe := s.seamAbandoned_gaitOnly k
  exact ⟨_, exec_pathCmd_next (exec_pathAbandon hacc) ((State.pathCmd_abandon hon).trans hcmd) hu
      (hframe.mono (singleton_pathStat_subset k)) (inTransport_pathViews k),
    hframe.state, s.pathState_seamAbandoned k, by rw [hpath], by rw [hpath], by rw [hpath],
    fun off ho => hframe.reg off (by simpa using ho)⟩

/-- CLEAR_JAM at rest with REV = 0: HALT once no checkpoint is covered, otherwise the jam stays with cause 7 (R248). -/
theorem exec_pathClearJam_without_reverse (hst : s.pathState k = 7) (hrest : (s.pathSt k).speed = 0)
    (hrev : s.fld (R.pathRev k) F.pathRev.REV = 0) :
    ∃ t, exec (.pathClearJam path k) s = .next t ∧ t = { s with regs := t.regs, gait := t.gait } ∧
      (s.chkLevels k = 0 → t.pathState k = 1 ∧ t.fld (R.pathOcc k) F.pathOcc.IN_TRACK = 0 ∧ (t.pathSt k).waiting = []) ∧
      (s.chkLevels k ≠ 0 → t.pathState k = 7 ∧ t.fld (R.pathStat k) F.pathStat.JAM_CAUSE = 7) ∧
      (∀ n, (s.axesOf k).contains n = true → t.gait.faulted.testBit n = false) ∧
      (∀ off, off ∉ R.pathOcc k :: pathViews k → t.reg off = s.reg off) := by
  have hcmd : s.cmdClearJam k = (s.drivenAgain k).clearJamEnd k := (s.cmdClearJam_of_rest k hst hrest).trans (if_pos hrev)
  have hdriven : s.GaitOnly (s.drivenAgain k) (R.pathOcc k :: pathViews k) := .setGait s _
  have hframe := hdriven.trans ((s.drivenAgain k).clearJamEnd_gaitOnly k)
  have hfaulted : ∀ n, (s.axesOf k).contains n = true → ((s.drivenAgain k).clearJamEnd k).gait.faulted.testBit n = false :=
    fun n hn => by rw [State.faulted_clearJamEnd, s.faulted_drivenAgain k n hn]
  exact ⟨_, exec_pathCmd_next (exec_pathClearJam hacc) ((State.pathCmd_clearJam hon).trans hcmd) hu hframe
      (inTransport_cons (by simp only [R.pathOcc]; omega) (inTransport_pathViews k)),
    hframe.state, (s.drivenAgain k).clearJamEnd_clear k, (s.drivenAgain k).clearJamEnd_covered k hst, hfaulted, hframe.reg⟩

/-- CLEAR_JAM at rest with REV: the path reverses by REV counts at GMIN (R248). -/
theorem exec_pathClearJam_with_reverse (hst : s.pathState k = 7) (hrest : (s.pathSt k).speed = 0)
    (hrev : s.fld (R.pathRev k) F.pathRev.REV ≠ 0) :
    ∃ t, exec (.pathClearJam path k) s = .next t ∧ t = { s with regs := t.regs, gait := t.gait } ∧ t.pathState k = 7 ∧
      (t.pathSt k).reverse = true ∧ (t.pathSt k).atRest = .cleared ∧
      (t.pathSt k).target = s.gaitSpeed k (s.fld (R.pathPolicy k) F.pathPolicy.GMIN) ∧
      (t.pathSt k).goal = s.pathPos k - (s.fld (R.pathRev k) F.pathRev.REV * 65536 : Nat) ∧
      (∀ off, off ∉ pathViews k → t.reg off = s.reg off) := by
  have hcmd : s.cmdClearJam k = (s.drivenAgain k).jamReversed k := (s.cmdClearJam_of_rest k hst hrest).trans (if_neg hrev)
  have hdriven : s.GaitOnly (s.drivenAgain k) (pathViews k) := .setGait s _
  have hframe := hdriven.trans ((s.drivenAgain k).jamReversed_gaitOnly k)
  have hpath := (s.drivenAgain k).pathSt_jamReversed k
  exact ⟨_, exec_pathCmd_next (exec_pathClearJam hacc) ((State.pathCmd_clearJam hon).trans hcmd) hu hframe (inTransport_pathViews k),
    hframe.state, ((s.drivenAgain k).pathState_jamReversed k).trans hst, by rw [hpath], by rw [hpath],
    by rw [hpath, hdriven.gaitSpeed]; rfl, by rw [hpath, hdriven.pathPos]; rfl, hframe.reg⟩

end

/-! ## The commands elsewhere (R227) -/

section
variable {s : State} {path : Path} {k : Fin 4} {g : Fin 8}

/-- The commands of Table 7-2 that a path takes: those of a transition of Table 7-1, with a gait between GMIN and GMAX. -/
def State.TakesPathCmd (s : State) (path : Path) (k : Fin 4) (g : Fin 8) (c : Instr) : Prop :=
  let ok := s.fld (R.pathPolicy k) F.pathPolicy.GMIN ≤ g ∧ g ≤ s.fld (R.pathPolicy k) F.pathPolicy.GMAX
  s.pathOn k = true ∧
    ((c = .pathStart path k g ∧ s.pathState k = 1 ∧ ok) ∨ (c = .pathGait path k g ∧ s.pathState k = 2 ∧ ok) ∨
     ((c = .pathStop path k ∨ c = .pathHalt path k) ∧ s.pathState k = 2) ∨ (c = .pathResume path k ∧ s.pathState k = 4) ∨
     (c = .pathAbandon path k ∧ 3 ≤ s.pathState k ∧ s.pathState k ≤ 6) ∨
     (c = .pathClearJam path k ∧ s.pathState k = 7 ∧ (s.pathSt k).speed = 0))

/-- What an ignored command leaves. -/
theorem State.done_cmdIgnored (hu : s.usual) :
    ∃ t, State.done (s.cmdIgnored k) = .next t ∧ s.sameBut t [R.pathStat k] ∧ t.fld (R.pathStat k) F.pathStat.CMD_IGN = 1 ∧
      t.pathState k = s.pathState k :=
  ⟨s.cmdIgnored k,
    State.done_of_gaitOnly hu ((s.setPstat_gaitOnly k _ _).mono (singleton_pathStat_subset k)) (inTransport_pathViews k),
    State.sameBut_setFld _ _ _ _, s.fld_setPstat_same k _ _ (by decide) (by decide),
    s.fld_setPstat_apart k _ _ _ (by decide) (by decide) (by decide)⟩

/-- A command that a path does not take is ignored. -/
theorem exec_of_not_taken (hacc : s.accessible path (R.pathCmd k) = true) (c : Instr)
    (hc : c ∈ [.pathStart path k g, .pathStop path k, .pathResume path k, .pathAbandon path k, .pathClearJam path k, .pathHalt path k,
      .pathGait path k g]) (hnot : ¬s.TakesPathCmd path k g c) : exec c s = State.done (s.cmdIgnored k) := by
  cases hon : s.pathOn k with
  | false =>
    have hoff : ∀ n j, s.pathCmd k n j = s.cmdIgnored k := fun n j => State.pathCmd_off n j hon
    simp only [List.mem_cons, List.not_mem_nil, or_false] at hc
    rcases hc with rfl | rfl | rfl | rfl | rfl | rfl | rfl
    · rw [exec_pathStart hacc, hoff]
    · rw [exec_pathStop hacc, hoff]
    · rw [exec_pathResume hacc, hoff]
    · rw [exec_pathAbandon hacc, hoff]
    · rw [exec_pathClearJam hacc, hoff]
    · rw [exec_pathHalt hacc, hoff]
    · rw [exec_pathGait hacc, hoff]
  | true =>
    simp only [List.mem_cons, List.not_mem_nil, or_false] at hc
    rcases hc with rfl | rfl | rfl | rfl | rfl | rfl | rfl
    · rw [exec_pathStart hacc, State.pathCmd_start hon, State.cmdStart,
        if_neg fun h => hnot ⟨hon, .inl ⟨rfl, by simpa [hon, State.gaitOk] using h⟩⟩]
    · rw [exec_pathStop hacc, State.pathCmd_stop hon, State.cmdStop, if_neg fun h => hnot ⟨hon, .inr (.inr (.inl ⟨.inl rfl, h⟩))⟩]
    · rw [exec_pathResume hacc, State.pathCmd_resume hon, State.cmdResume,
        if_neg fun h => hnot ⟨hon, .inr (.inr (.inr (.inl ⟨rfl, h⟩)))⟩]
    · rw [exec_pathAbandon hacc, State.pathCmd_abandon hon, State.cmdAbandon,
        if_neg fun h => hnot ⟨hon, .inr (.inr (.inr (.inr (.inl ⟨rfl, by omega⟩))))⟩]
    · rw [exec_pathClearJam hacc, State.pathCmd_clearJam hon, State.cmdClearJam,
        if_neg fun h => hnot ⟨hon, .inr (.inr (.inr (.inr (.inr ⟨rfl, by simpa using h⟩))))⟩]
    · rw [exec_pathHalt hacc, State.pathCmd_halt hon, State.cmdHalt, if_neg fun h => hnot ⟨hon, .inr (.inr (.inl ⟨.inr rfl, h⟩))⟩]
    · rw [exec_pathGait hacc, State.pathCmd_gait hon, State.cmdGait,
        if_neg fun h => hnot ⟨hon, .inr (.inl ⟨rfl, by simpa [State.gaitOk] using h⟩)⟩]

end

/-- Settles O33: a command that is not taken only sets CMD_IGN; one that is taken acts as its lemma above says. -/
theorem pathCommands : Obligations.PathCommands := by
  unfold Obligations.PathCommands
  intro s path k g hu hacc speed gmin ok seamOn taken
  have hok : ok → s.gaitOk k g = true := fun h => decide_eq_true h
  refine ⟨fun c hc hnot => ?_, fun hon => ⟨fun h1 h => exec_pathStart_in_halt hu hacc hon h1 (hok h),
    fun h2 h => exec_pathGait_in_run hu hacc hon h2 (hok h),
    fun h2 => ⟨exec_pathHalt_in_run hu hacc hon h2, exec_pathStop_in_run hu hacc hon h2, exec_pathStop_in_flow hu hacc hon h2⟩,
    fun h4 => ⟨exec_pathResume_without_seam hu hacc hon h4, exec_pathResume_with_seam hu hacc hon h4⟩,
    fun h3 h6 htracks => ⟨exec_pathAbandon_at_rest hu hacc hon h3 h6 htracks, exec_pathAbandon_moving hu hacc hon h3 h6 htracks⟩,
    fun h7 hrest => ⟨exec_pathClearJam_without_reverse hu hacc hon h7 hrest, exec_pathClearJam_with_reverse hu hacc hon h7 hrest⟩⟩⟩
  rw [exec_of_not_taken hacc c hc hnot]
  exact State.done_cmdIgnored hu

end Sys2Proof.Machine

/-!
A fault of engine 0 and the services it runs (R513). When E0 stops, the end of the command drops its services, and SVC and TAG of
SEC.SVC_STAT go back to 0. The frame of a fault that the statement on the vector instructions uses names the registers of the engine
and of the event queue only, so a reserved vector function issued by E0 breaks it.
-/
namespace Sys2Proof.Machine

/-! ## The end of E0's services -/

/-- E0's services have ended with it: only what the last reset kept is left, and SVC and TAG of SEC.SVC_STAT read 0. -/
def State.servicesEnded (s : State) : State :=
  (s.setReg R.secSvcStat (s.reg R.secSvcStat &&& 0xFFFF0000)).setSec (fun c => { warm := c.warm })

section
variable {s : State} (hwork : s.work = []) (hrel : s.fab.releases = [])

include hwork hrel in
theorem State.quiet_servicesEnded : s.servicesEnded.quiet := ⟨hwork, hrel, .inl rfl⟩

variable (hruns : s.e0Runs = false) (hsec : s.sec ≠ { warm := s.sec.warm })

include hruns hsec in
theorem State.e0Step_of_stopped : s.e0Step = some s.servicesEnded := by
  rw [State.e0Step, hruns, if_pos (by decide), if_neg hsec, State.servicesEnded]

include hwork hrel hruns hsec in
theorem State.settleGo_of_stopped (n : Nat) : s.settleGo (n + 1) = s.servicesEnded := by
  simp only [State.settleGo, hwork, hrel, List.isEmpty_nil, if_true, State.e0Step_of_stopped hruns hsec]
  exact State.settleGo_of_quiet _ _ (State.quiet_servicesEnded hwork hrel)

include hwork hrel hruns hsec in
/-- A command that stops E0 ends with E0's services ended. -/
theorem State.done_of_stopped : State.done s = .next s.servicesEnded.refreshMain := by
  rw [State.done, State.settle, settleBound, State.settleGo_of_stopped hwork hrel hruns hsec]

end

/-- SEC.SVC_STAT after E0's services have ended. -/
theorem State.reg_servicesEnded_secSvcStat (s : State) :
    s.servicesEnded.refreshMain.reg R.secSvcStat = s.reg R.secSvcStat &&& 0xFFFF0000 := by
  rw [State.reg_refreshMain_ne _ _ (by decide)]
  exact State.reg_setReg_same _ _ _

/-- The frame of a fault keeps SEC.SVC_STAT. -/
theorem reg_secSvcStat_of_engineFaults {s t : State} {n : Fin 96} {pc cause : Nat} {addr : Option Nat}
    (h : EngineFaults s t n pc cause addr) : t.reg R.secSvcStat = s.reg R.secSvcStat := by
  obtain ⟨-, -, -, -, -, -, -, -, -, -, -, -, -, hreg⟩ := h
  refine hreg _ ?_
  have hn := n.isLt
  simp only [R.secSvcStat, R.engStat, R.engFault, R.engFaddrLo, R.engFaddrHi, R.packFault, R.hqeStat, List.mem_cons,
    List.not_mem_nil, or_false]
  omega

/-! ## E0 at a reserved vector function -/

/-- VOP with the reserved function 0x15. -/
def reservedVop : Word := 0xC0000015

/-- E0 in RUN at PC 0 in its service loop, the reserved vector function in its memory. No service runs, and SEC.SVC_STAT shows service 1
all the same: `Issues` does not tie the register to the service. -/
def e0AtReservedVop : State :=
  let s := (State.reset.setFld (R.engStat 0) F.engStat.STATE 2).setFld R.secSvcStat F.secSvcStat.SVC 1
  { s.setWord (engineInstr 0) reservedVop with sec := { loop := true } }

theorem e0AtReservedVop_issues : Issues e0AtReservedVop 0 reservedVop := by
  and_intros <;> decide +kernel

theorem e0AtReservedVop_holdsNothing : HoldsNothing e0AtReservedVop 0 := by
  have hpack : e0AtReservedVop.pack = {} := rfl
  have hgeo : e0AtReservedVop.geo = {} := rfl
  simp [HoldsNothing, State.inWin, State.outWin, State.record, hpack, hgeo, Table.get]

theorem reg_secSvcStat_e0AtReservedVop : e0AtReservedVop.reg R.secSvcStat = 1 := by decide +kernel

theorem exec_vop (n : Fin 96) (s : State) : exec (.vop n) s = State.done (s.engIssue n (opIn [0x30]) (engVop n)) := rfl

/-- E0 has issued the reserved function. -/
def e0Faulted : State := e0AtReservedVop.engIssue (0 : Fin 96) (opIn [0x30]) (engVop (0 : Fin 96))

theorem e0Faulted_stopped : e0Faulted.work = [] ∧ e0Faulted.fab.releases = [] ∧ e0Faulted.e0Runs = false ∧
    e0Faulted.sec = { loop := true } ∧ e0Faulted.reg R.secSvcStat = 1 := by
  and_intros <;> decide +kernel

/-- The command ends E0's services. -/
theorem exec_vop_e0AtReservedVop : exec (.vop 0) e0AtReservedVop = .next e0Faulted.servicesEnded.refreshMain := by
  obtain ⟨hwork, hrel, hruns, hsec, -⟩ := e0Faulted_stopped
  rw [exec_vop, ← e0Faulted, State.done_of_stopped hwork hrel hruns (by rw [hsec]; decide)]

theorem reg_secSvcStat_of_exec_vop_e0AtReservedVop {t : State} (h : exec (.vop 0) e0AtReservedVop = .next t) :
    t.reg R.secSvcStat = 0 := by
  obtain ⟨-, -, -, -, hstat⟩ := e0Faulted_stopped
  rw [exec_vop_e0AtReservedVop, Host.Outcome.next.injEq] at h
  rw [← h, State.reg_servicesEnded_secSvcStat, hstat]
  decide

/-- Refutes O48: a reserved vector function that E0 issues faults with ILLEGAL, and E0's services end with it. SVC of SEC.SVC_STAT
goes from 1 to 0, and the frame of the fault says that SEC.SVC_STAT stays. -/
theorem not_vectorInstructions : ¬ Obligations.VectorInstructions := by
  unfold Obligations.VectorInstructions
  intro h
  obtain ⟨hvop, -⟩ := h e0AtReservedVop 0 reservedVop e0AtReservedVop_issues
  obtain ⟨-, -, -, hreserved⟩ := hvop (by decide) (by decide)
  obtain ⟨t, hexec, hfault⟩ := hreserved (by decide) e0AtReservedVop_holdsNothing
  have hkept : t.reg R.secSvcStat = 1 := (reg_secSvcStat_of_engineFaults hfault).trans reg_secSvcStat_e0AtReservedVop
  rw [reg_secSvcStat_of_exec_vop_e0AtReservedVop hexec] at hkept
  exact absurd hkept (by decide)

end Sys2Proof.Machine

namespace Sys2Proof.Machine

/-! ## Every step ends settled -/

theorem execPatrolScrubRead_eq_done (flips : List Nat) (s : State) : ∃ t, execPatrolScrubRead flips s = State.done t := by
  unfold execPatrolScrubRead
  split
  · exact ⟨_, rfl⟩
  · exact ⟨s, rfl⟩

/-- What a command can do: it ends with `State.done`, whichever it is; none faults and none is refused. Each meaning but that of the
patrol scrubber, which splits on EN first, is written as `State.done` of its effect. -/
theorem exec_eq_done (i : Instr) (s : State) : ∃ t, exec i s = State.done t := by
  cases i
  case patrolScrubRead flips => exact execPatrolScrubRead_eq_done flips s
  all_goals exact ⟨_, rfl⟩

/-- A cycle without a command changes nothing while the PLL is not locked, and works off its consequences otherwise. -/
theorem State.tick_eq (s : State) : s.tick = s ∨ ∃ t : State, s.tick = t.settle := by
  unfold State.tick
  split
  · exact .inr ⟨_, rfl⟩
  · exact .inl rfl

/-- What a step can do: nothing, or something that ends with the consequences worked off and HLT.STAT brought up to date. -/
theorem step_cases {s s' : State} (h : step s = .next s') : s' = s ∨ ∃ t : State, s' = t.settle := by
  unfold step at h
  split at h
  case h_1 =>
    obtain rfl := Host.Outcome.next.inj h
    exact s.tick_eq
  case h_2 c rest _ =>
    obtain ⟨t, ht⟩ := exec_eq_done c { s with pending := rest }
    exact .inr ⟨t, (Host.Outcome.next.inj (ht.symm.trans h)).symm⟩

/-- Settles O4: a step leaves the settled state as it was, or ends as `State.settle` ends, whose result is settled. -/
theorem everyStepKeepsSettled : Obligations.EveryStepKeepsSettled := by
  unfold Obligations.EveryStepKeepsSettled
  intro s s' hs hstep
  obtain rfl | ⟨t, rfl⟩ := step_cases hstep
  · exact hs
  · exact t.settled_settle

end Sys2Proof.Machine

namespace Sys2Proof.Machine

/-! ## Quantisation and clamping -/

theorem Stream.clamp_le (t : Stream) (v : Int) : t.clamp v ≤ t.maxval := by
  simp only [Stream.clamp]
  omega

/-- Clamping keeps a value within any distance of a value of the range. -/
theorem Stream.clamp_natAbs_le (t : Stream) {v : Int} {x n : Nat} (hx : x ≤ t.maxval) (h : (v - x).natAbs ≤ n) :
    ((t.clamp v : Int) - x).natAbs ≤ n := by
  simp only [Stream.clamp]
  omega

/-- The steps of the near quantisation are 2 * NEAR + 1 wide and centred (R308). -/
theorem Stream.quantErr_natAbs_le (t : Stream) (e : Int) : (t.quantErr e * (2 * t.near + 1 : Nat) - e).natAbs ≤ t.near := by
  have hdiv : ∀ a : Int, 0 ≤ a → ((t.near + a).tdiv (2 * t.near + 1 : Nat) * (2 * t.near + 1 : Nat) - a).natAbs ≤ t.near := by
    intro a ha
    rw [Int.tdiv_eq_ediv_of_nonneg (by omega)]
    have hsum := Int.mul_ediv_add_emod (t.near + a) (2 * t.near + 1 : Nat)
    have hlo := Int.emod_nonneg (t.near + a) (b := (2 * t.near + 1 : Nat)) (by omega)
    have hhi := Int.emod_lt_of_pos (t.near + a) (b := (2 * t.near + 1 : Nat)) (by omega)
    rw [Int.mul_comm] at hsum
    omega
  unfold Stream.quantErr
  dsimp only
  split
  · rename_i h0
    simp [h0]
  · split
    · exact hdiv e (by omega)
    · have hneg := hdiv (-e) (by omega)
      rw [← Int.sub_eq_add_neg] at hneg
      rw [Int.neg_mul]
      omega

/-- A reconstructed value is as near as NEAR to the value coded, and lies in its range. -/
def Stream.Within (t : Stream) (v r : Nat) : Prop := ((r : Int) - v).natAbs ≤ t.near ∧ r ≤ t.maxval

/-- The value reconstructed from a prediction and its quantised error is within NEAR, whichever the sign of the context. -/
theorem Stream.within_reconstruct (t : Stream) {x : Nat} (hx : x ≤ t.maxval) (px : Int) {sign : Int} (hs : sign = 1 ∨ sign = -1) :
    t.Within x (t.clamp (px + sign * t.quantErr (sign * ((x : Int) - px)) * (2 * t.near + 1 : Nat))) := by
  refine ⟨t.clamp_natAbs_le hx ?_, t.clamp_le _⟩
  have hq := t.quantErr_natAbs_le (sign * ((x : Int) - px))
  obtain rfl | rfl := hs
  · rw [Int.one_mul] at hq ⊢
    rw [Int.one_mul]
    omega
  · rw [Int.mul_assoc, Int.neg_one_mul]
    rw [Int.neg_one_mul] at hq ⊢
    omega

/-! ## One row -/

theorem Stream.context_sign {t : Stream} {nb : Nb} {ref : Bool} {sign : Int} {qi : Nat} (h : t.context nb ref = some (sign, qi)) :
    sign = 1 ∨ sign = -1 := by
  unfold Stream.context at h
  grind

theorem Coder.regular_within (k : Coder) (t : Stream) (nb : Nb) (ref : Bool) (w qi : Nat) {x : Nat} {sign : Int} (hx : x ≤ t.maxval)
    (hs : sign = 1 ∨ sign = -1) : t.Within x (k.regular t nb ref w x sign qi).2 :=
  t.within_reconstruct hx _ hs

theorem Coder.interrupt_within (k : Coder) (t : Stream) (a b : Int) {x : Nat} (hx : x ≤ t.maxval) :
    t.Within x (k.interrupt t a b x).2 :=
  t.within_reconstruct hx _ (ite_eq_or_eq _ _ _).symm

theorem aboveAt_bounds {t : Stream} {above : List Nat} (h : ∀ v ∈ above, v ≤ t.maxval) (x : Nat) :
    0 ≤ aboveAt above x ∧ aboveAt above x ≤ t.maxval := by
  refine ⟨Int.natCast_nonneg _, Int.ofNat_le.mpr ?_⟩
  rw [List.getD_eq_getElem?_getD]
  cases hx : above[x]? with
  | none => exact Nat.zero_le _
  | some v => exact h v (List.mem_of_getElem? hx)

/-- The left neighbour lies in the range of the values. -/
theorem nbAt_a_bounds {t : Stream} {above : List Nat} (h : ∀ v ∈ above, v ≤ t.maxval) (c0 : Nat) {left : Nat} (hl : left ≤ t.maxval)
    (x : Nat) (ref : Option RowView) : 0 ≤ (nbAt above c0 left x ref).a ∧ (nbAt above c0 left x ref).a ≤ t.maxval := by
  have ha : (nbAt above c0 left x ref).a = if x = 0 then aboveAt above x else (left : Int) := by cases ref <;> rfl
  rw [ha]
  split
  · exact aboveAt_bounds h x
  · omega

/-- The samples of a run take the value at its left, which is within NEAR of each of them. -/
theorem Stream.within_run (t : Stream) {a : Int} (ha : 0 ≤ a ∧ a ≤ t.maxval) {near : Nat → Bool}
    (hnear : ∀ s, near s = decide (((s : Int) - a).natAbs ≤ t.near)) (vs : List Nat) :
    List.Forall₂ t.Within (vs.takeWhile near) (List.replicate (vs.takeWhile near).length a.toNat) := by
  rw [List.forall₂_iff_get]
  refine ⟨by simp, fun i h1 _ => ?_⟩
  have hi : near ((vs.takeWhile near)[i]) = true := List.mem_takeWhile_imp (List.getElem_mem h1)
  rw [hnear, decide_eq_true_eq] at hi
  simp only [List.get_eq_getElem, List.getElem_replicate, Stream.Within]
  omega

/-- Runs of samples of a row keep within NEAR of the value at their left, over the row above. -/
def Stream.RunsWithin (t : Stream) (above : List Nat) : Prop :=
  ∀ (c0 left x : Nat) (ref : Option RowView) (vs : List Nat), left ≤ t.maxval → (∀ v ∈ vs, v ≤ t.maxval) →
    List.Forall₂ t.Within (vs.takeWhile (fun s : Nat => decide (((s : Int) - (nbAt above c0 left x ref).a).natAbs ≤ t.near)))
      (List.replicate (vs.takeWhile (fun s : Nat => decide (((s : Int) - (nbAt above c0 left x ref).a).natAbs ≤ t.near))).length
        (nbAt above c0 left x ref).a.toNat)

/-- They do over a row of values that can be coded. -/
theorem Stream.runsWithin_of_bounds {t : Stream} {above : List Nat} (h : ∀ v ∈ above, v ≤ t.maxval) : t.RunsWithin above :=
  fun c0 _ x ref vs hleft _ => t.within_run (nbAt_a_bounds h c0 hleft x ref) (fun _ => rfl) vs

/-- They do over every row when NEAR is 0. -/
theorem Stream.runsWithin_of_lossless {t : Stream} (h : t.near = 0) (above : List Nat) : t.RunsWithin above := by
  intro c0 left x ref vs _ hvs
  generalize (nbAt above c0 left x ref).a = a
  rw [List.forall₂_iff_get]
  refine ⟨by simp, fun i h1 _ => ?_⟩
  have hi := List.mem_takeWhile_imp (List.getElem_mem h1)
  have hv := hvs _ ((List.takeWhile_sublist _).subset (List.getElem_mem h1))
  rw [decide_eq_true_eq] at hi
  simp only [List.get_eq_getElem, List.getElem_replicate, Stream.Within]
  omega

/-- The samples of a row are reconstructed within NEAR; those already done stay before them. -/
theorem Coder.samples_within (t : Stream) {above : List Nat} (habove : t.RunsWithin above) (c0 w : Nat) (ref : Option RowView)
    (fuel : Nat) (vs : List Nat) (x : Nat) (done : List Nat) (k : Coder) (hfuel : vs.length ≤ fuel) (hvs : ∀ v ∈ vs, v ≤ t.maxval)
    (hdone : done.headD 0 ≤ t.maxval) :
    ∃ l, (Coder.samples t above c0 w ref fuel vs x done k).2 = l.reverse ++ done ∧ List.Forall₂ t.Within vs l := by
  induction fuel generalizing vs x done k with
  | zero =>
    obtain rfl := List.eq_nil_of_length_eq_zero (Nat.le_zero.mp hfuel)
    exact ⟨[], rfl, .nil⟩
  | succ fuel ih =>
    cases vs with
    | nil => exact ⟨[], rfl, .nil⟩
    | cons v rest =>
      have hv := hvs v List.mem_cons_self
      simp only [Coder.samples]
      have hrun := habove c0 (done.headD 0) x ref (v :: rest) hdone hvs
      generalize nbAt above c0 (done.headD 0) x ref = nb at hrun ⊢
      split
      · rename_i sign qi hctx
        have hr := k.regular_within t nb ref.isSome w qi hv (Stream.context_sign hctx)
        obtain ⟨l, hl, hw⟩ := ih rest (x + 1) (_ :: done) _ (Nat.le_of_succ_le_succ hfuel) (fun u hu => hvs u (List.mem_cons_of_mem _ hu)) hr.2
        exact ⟨_ :: l, by rw [hl]; simp, .cons hr hw⟩
      · have hsplit := List.takeWhile_append_dropWhile (p := fun s : Nat => decide (((s : Int) - nb.a).natAbs ≤ t.near)) (l := v :: rest)
        have hdrop := List.drop_left' (l₂ := (v :: rest).dropWhile fun s : Nat => decide (((s : Int) - nb.a).natAbs ≤ t.near))
          (rfl : ((v :: rest).takeWhile fun s : Nat => decide (((s : Int) - nb.a).natAbs ≤ t.near)).length = _)
        rw [hsplit] at hdrop
        generalize (v :: rest).takeWhile (fun s : Nat => decide (((s : Int) - nb.a).natAbs ≤ t.near)) = taken at *
        generalize (v :: rest).dropWhile (fun s : Nat => decide (((s : Int) - nb.a).natAbs ≤ t.near)) = left at *
        rw [hdrop]
        cases left with
        | nil => exact ⟨List.replicate taken.length nb.a.toNat, by simp, by rw [← hsplit]; simpa using hrun⟩
        | cons xi tail =>
          have hmem : ∀ u ∈ xi :: tail, u ≤ t.maxval := fun u hu => hvs u (hsplit ▸ List.mem_append_right _ hu)
          have hlen : tail.length ≤ fuel := by
            have := congrArg List.length hsplit
            simp only [List.length_append, List.length_cons] at this hfuel
            omega
          dsimp only
          generalize ((k.runBlocks (taken.length + 1) taken.length).1.put 0 1).put (k.runBlocks (taken.length + 1) taken.length).2
            (tandemJ (k.runBlocks (taken.length + 1) taken.length).1.ri) = k1
          have hr := k1.interrupt_within t nb.a (aboveAt above (x + taken.length)) (hmem xi List.mem_cons_self)
          generalize k1.interrupt t nb.a (aboveAt above (x + taken.length)) xi = r at hr ⊢
          obtain ⟨l, hl, hw⟩ := ih tail (x + taken.length + 1) (r.2 :: (List.replicate taken.length nb.a.toNat ++ done)) r.1 hlen
            (fun u hu => hmem u (List.mem_cons_of_mem _ hu)) hr.2
          refine ⟨List.replicate taken.length nb.a.toNat ++ r.2 :: l, ?_, ?_⟩
          · rw [hl]
            simp
          · rw [← hsplit]
            exact List.rel_append hrun (.cons hr hw)

/-- A row is reconstructed within NEAR, packed raw or coded. -/
theorem Coder.row_within (k : Coder) {t : Stream} {xs above : List Nat} (hxs : ∀ v ∈ xs, v ≤ t.maxval)
    (habove : t.RunsWithin above) (c0 w : Nat) (ref : Option RowView) :
    List.Forall₂ t.Within xs (k.row t xs above c0 w ref).2 := by
  unfold Coder.row
  split
  · have hsame : ∀ v ∈ xs, t.Within v v := fun v hv => ⟨by simp, hxs v hv⟩
    rw [List.forall₂_same]
    exact hsame
  · obtain ⟨l, hl, hw⟩ := Coder.samples_within t habove c0 w ref (xs.length + 1) xs 0 [] k (Nat.le_succ _) hxs (Nat.zero_le _)
    simpa [hl] using hw

/-! ## A line group -/

theorem getD_nil_bounds {t : Stream} {rows : List (List Nat)} (h : ∀ row ∈ rows, ∀ v ∈ row, v ≤ t.maxval) (j : Nat) :
    ∀ v ∈ rows.getD j [], v ≤ t.maxval := by
  rw [List.getD_eq_getElem?_getD]
  cases hj : rows[j]? with
  | none => simp
  | some r => exact h r (List.mem_of_getElem? hj)

/-- A fold that appends one row per slot yields the rows of the slots, each with what holds of the row appended for it. -/
theorem rows_of_foldl_range {σ τ : Type} (P : Nat → List Nat → Prop) (f : σ × List (List Nat) × τ → Nat → σ × List (List Nat) × τ)
    (init : σ) (x : τ) (h : ∀ a j, ∃ r, (f a j).2.1 = a.2.1 ++ [r] ∧ P j r) (n : Nat) :
    ((List.range n).foldl f (init, [], x)).2.1.length = n ∧
      ∀ j, j < n → P j (((List.range n).foldl f (init, [], x)).2.1.getD j []) := by
  induction n with
  | zero => exact ⟨rfl, fun j hj => absurd hj (Nat.not_lt_zero j)⟩
  | succ n ih =>
    obtain ⟨hlen, hrows⟩ := ih
    rw [List.range_succ, List.foldl_append, List.foldl_cons, List.foldl_nil]
    generalize (List.range n).foldl f (init, [], x) = a at hlen hrows
    obtain ⟨r, hr, hP⟩ := h a n
    rw [hr]
    refine ⟨by simp [hlen], fun j hj => ?_⟩
    by_cases hjn : j = n
    · subst hjn
      rwa [List.getD_append_right _ _ _ _ (Nat.le_of_eq hlen), hlen, Nat.sub_self, List.getD_cons_zero]
    · rw [List.getD_append _ _ _ _ (by omega)]
      exact hrows j (by omega)

/-- The rows that the coder reconstructs are within NEAR of the rows it codes. -/
theorem Stream.encodeGroup_within {t : Stream} {xs above : List (List Nat)} (hxs : ∀ row ∈ xs, ∀ v ∈ row, v ≤ t.maxval) (habove : ∀ j, t.RunsWithin (above.getD j [])) :
    (t.encodeGroup xs above).2.2.1.length = t.npl ∧
      ∀ j, j < t.npl → List.Forall₂ t.Within (xs.getD j []) ((t.encodeGroup xs above).2.2.1.getD j []) := by
  unfold Stream.encodeGroup
  dsimp only
  refine rows_of_foldl_range (fun j r => List.Forall₂ t.Within (xs.getD j []) r) _ _ _ (fun a j => ?_) t.npl
  exact ⟨_, rfl, Coder.row_within _ (getD_nil_bounds hxs j) (habove j) _ _ _⟩

/-- Settles O42: every value is reconstructed within NEAR, by the row, the slot and the line group. -/
theorem tandemStaysWithinNear : Obligations.TandemStaysWithinNear := by
  unfold Obligations.TandemStaysWithinNear
  intro t xs above _ hxs habove rows
  obtain ⟨hlen, hrows⟩ := Stream.encodeGroup_within hxs fun j => Stream.runsWithin_of_bounds (getD_nil_bounds habove j)
  refine ⟨hlen, fun j hj => ?_⟩
  obtain ⟨hl, hw⟩ := List.forall₂_iff_get.mp (hrows j hj)
  refine ⟨hl.symm, fun i hi => ?_⟩
  have hi' : i < (rows.getD j []).length := hl ▸ hi
  rw [List.getD_eq_getElem _ _ hi, List.getD_eq_getElem _ _ hi']
  exact hw i hi hi'

end Sys2Proof.Machine

/-!
Engine 0 again (R513): a fault of E0 ends its services, and SEC.SVC_STAT goes with them, which the frame of a fault does not allow. Every
statement that says of all engines that an instruction or a far access faults fails for E0 in its service loop.
-/
namespace Sys2Proof.Machine

/-! ## E0 in its service loop -/

/-- E0 in RUN at PC 0 in its service loop, the word w in its memory, and service 1 shown by SEC.SVC_STAT. -/
def e0At (w : Word) : State :=
  let s := (State.reset.setFld (R.engStat 0) F.engStat.STATE 2).setFld R.secSvcStat F.secSvcStat.SVC 1
  { s.setWord (engineInstr 0) w with sec := { loop := true } }

/-- E0 waits in its service loop for the answer to a far access, and service 1 is shown by SEC.SVC_STAT. -/
def e0Loading : State := (e0At 0).setEng 0 { far := [⟨0x100000000, true, 1⟩] }

theorem e0At_holdsNothing (w : Word) : HoldsNothing (e0At w) 0 := by
  have hpack : (e0At w).pack = {} := rfl
  have hgeo : (e0At w).geo = {} := rfl
  simp [HoldsNothing, State.inWin, State.outWin, State.record, hpack, hgeo, Table.get]

theorem e0Loading_holdsNothing : HoldsNothing e0Loading 0 := by
  have hins : e0Loading.pack.ins = [] := rfl
  have houts : e0Loading.pack.outs = [] := rfl
  have hgeo : e0Loading.geo = {} := rfl
  simp [HoldsNothing, State.inWin, State.outWin, State.record, hins, houts, hgeo, Table.get]

theorem reg_secSvcStat_e0At (w : Word) : (e0At w).reg R.secSvcStat = 1 := by
  have hreg : (e0At w).reg R.secSvcStat = (e0At 0).reg R.secSvcStat := State.reg_of_regs _ _ rfl _
  rw [hreg]
  decide +kernel

/-- E0 has stopped, and its services have not ended yet. -/
def State.e0JustStopped (x : State) : Prop :=
  x.work = [] ∧ x.fab.releases = [] ∧ x.e0Runs = false ∧ x.sec = { loop := true } ∧ x.reg R.secSvcStat = 1

/-- A command that stops E0 in its service loop is no fault as `EngineFaults` says it: SEC.SVC_STAT changes. -/
theorem not_engineFaults_of_e0JustStopped {s x : State} {i : Instr} {n : Fin 96} {pc cause : Nat} {addr : Option Nat}
    (hs : s.reg R.secSvcStat = 1) (hexec : exec i s = State.done x) (hx : x.e0JustStopped) :
    ¬ ∃ t, exec i s = .next t ∧ EngineFaults s t n pc cause addr := by
  rintro ⟨t, ht, hfault⟩
  obtain ⟨hwork, hrel, hruns, hsec, hstat⟩ := hx
  rw [hexec, State.done_of_stopped hwork hrel hruns (by rw [hsec]; decide), Host.Outcome.next.injEq] at ht
  have hkept : t.reg R.secSvcStat = 1 := (reg_secSvcStat_of_engineFaults hfault).trans hs
  rw [← ht, State.reg_servicesEnded_secSvcStat, hstat] at hkept
  exact absurd hkept (by decide)

/-! ## The statements -/

/-- Refutes O43: E0's load from another node is not answered. E0 faults, its services end, and SVC of SEC.SVC_STAT goes from 1 to 0,
where the frame of the fault says that SEC.SVC_STAT stays. -/
theorem not_enginesStartHaltAndFault : ¬ Obligations.EnginesStartHaltAndFault := by
  unfold Obligations.EnginesStartHaltAndFault
  intro h
  have husual : e0Loading.usual := by and_intros <;> decide +kernel
  obtain ⟨-, hfar, -⟩ := h e0Loading 0 .smbus 0 husual
  have hstopped : (e0Loading.farTimeout (0 : Fin 96)).e0JustStopped := by and_intros <;> decide +kernel
  have hstat : e0Loading.reg R.secSvcStat = 1 := by decide +kernel
  exact not_engineFaults_of_e0JustStopped hstat rfl hstopped (hfar e0Loading_holdsNothing _ _ rfl rfl rfl)

/-- Refutes O44: a reserved ALU function that E0 issues (opcode 0x01, function 0x3F) faults, and SEC.SVC_STAT does not stay. -/
theorem not_scalarInstructions : ¬ Obligations.ScalarInstructions := by
  unfold Obligations.ScalarInstructions
  intro h
  have hissues : Issues (e0At 0x0400003F) 0 0x0400003F := by and_intros <;> decide +kernel
  obtain ⟨-, halu, -⟩ := h (e0At 0x0400003F) 0 0x0400003F hissues
  have hstopped : ((e0At 0x0400003F).engIssue (0 : Fin 96) (opIn [0x01]) (engAlu (0 : Fin 96))).e0JustStopped := by
    and_intros <;> decide +kernel
  exact not_engineFaults_of_e0JustStopped (reg_secSvcStat_e0At _) rfl hstopped
    (halu (by decide) (e0At_holdsNothing _) (by decide))

/-- Refutes O45: a load of a word from address 1 that E0 issues (opcode 0x10) faults with ALIGN, and SEC.SVC_STAT does not stay. -/
theorem not_engineMemoryInstructions : ¬ Obligations.EngineMemoryInstructions := by
  unfold Obligations.EngineMemoryInstructions
  intro h
  have hissues : Issues (e0At 0x40000001) 0 0x40000001 := by and_intros <;> decide +kernel
  obtain ⟨-, hlocal, -⟩ := h (e0At 0x40000001) 0 0x40000001 hissues (by decide +kernel)
  obtain ⟨halign, -⟩ := hlocal (e0At_holdsNothing _) (.engineLoad 0) (by simp) (fun _ => .inl (by decide)) (by simp)
  have hstopped : ((e0At 0x40000001).engIssue (0 : Fin 96) (opIn [0x10, 0x11, 0x12]) (engLoad (0 : Fin 96))).e0JustStopped := by
    and_intros <;> decide +kernel
  exact not_engineFaults_of_e0JustStopped (reg_secSvcStat_e0At _) rfl hstopped (halign (by decide +kernel))

/-- Refutes O46: a word with an unlisted opcode that E0 finds at its PC faults with ILLEGAL, and SEC.SVC_STAT does not stay. -/
theorem not_engineFlowInstructions : ¬ Obligations.EngineFlowInstructions := by
  unfold Obligations.EngineFlowInstructions
  intro h
  have hissues : Issues (e0At 0xFC000000) 0 0xFC000000 := by and_intros <;> decide +kernel
  obtain ⟨-, -, -, -, -, -, -, hunknown⟩ := h (e0At 0xFC000000) 0 0xFC000000 hissues
  have hstopped : ((e0At 0xFC000000).engIssue (0 : Fin 96) (sysFn 0x00) (engNop (0 : Fin 96))).e0JustStopped := by
    and_intros <;> decide +kernel
  exact not_engineFaults_of_e0JustStopped (reg_secSvcStat_e0At _) rfl hstopped (hunknown (e0At_holdsNothing _) (by decide))

/-- Refutes O47: EVFIRE of a line beyond the eighth (function 0x03, operand 8) that E0 issues faults, and SEC.SVC_STAT does not stay. -/
theorem not_engineSystemInstructions : ¬ Obligations.EngineSystemInstructions := by
  unfold Obligations.EngineSystemInstructions
  intro h
  have hissues : Issues (e0At 0x00300008) 0 0x00300008 := by and_intros <;> decide +kernel
  obtain ⟨-, -, hevfire, -⟩ := h (e0At 0x00300008) 0 0x00300008 hissues (by decide)
  have hstopped : ((e0At 0x00300008).engIssue (0 : Fin 96) (sysFn 0x03) (engEvfire (0 : Fin 96))).e0JustStopped := by
    and_intros <;> decide +kernel
  exact not_engineFaults_of_e0JustStopped (reg_secSvcStat_e0At _) rfl hstopped
    (hevfire (by decide) (e0At_holdsNothing _) (.inr (by decide)))

end Sys2Proof.Machine

/-!
Registers that an operation may change, and the end of a command: the frame of registers alone (`State.regsBut`), how frames compose,
and that a command whose effect touches nothing that the end of a command looks at ends with its effect.
-/
namespace Sys2Proof.Machine

/-! ## The registers that change -/

/-- `t` holds what `s` holds in every register but those at `l`. -/
def State.regsBut (s t : State) (l : List Nat) : Prop := ∀ off, off ∉ l → t.reg off = s.reg off

section
variable {s t u : State} {l m : List Nat}

theorem State.regsBut_of_regs (l : List Nat) (h : t.regs = s.regs) : s.regsBut t l := fun off _ => State.reg_of_regs s t h off

theorem State.regsBut.refl (s : State) (l : List Nat) : s.regsBut s l := fun _ _ => rfl

theorem State.regsBut.trans (h : s.regsBut t l) (h' : t.regsBut u l) : s.regsBut u l :=
  fun off ho => (h' off ho).trans (h off ho)

theorem State.regsBut.mono (h : s.regsBut t l) (hl : l ⊆ m) : s.regsBut t m := fun off ho => h off (fun x => ho (hl x))

theorem State.regsBut.fld (h : s.regsBut t l) {off : Nat} (ho : off ∉ l) (f : Fld) : t.fld off f = s.fld off f := by
  rw [State.fld, h off ho, State.fld]

theorem State.regsBut.setReg (h : s.regsBut t l) {o : Nat} (w : Word) (ho : o ∈ l) : s.regsBut (t.setReg o w) l :=
  fun off hoff => (State.reg_setReg_ne _ _ _ _ (ne_of_mem_of_not_mem ho hoff).symm).trans (h off hoff)

theorem State.regsBut.setFld (h : s.regsBut t l) {o : Nat} (f : Fld) (x : Nat) (ho : o ∈ l) : s.regsBut (t.setFld o f x) l :=
  h.setReg _ ho

theorem State.regsBut.count (h : s.regsBut t l) {o : Nat} (ho : o ∈ l) : s.regsBut (t.count o) l := h.setReg _ ho

theorem State.regsBut.countFld (h : s.regsBut t l) {o : Nat} (f : Fld) (ho : o ∈ l) : s.regsBut (t.countFld o f) l := by
  unfold State.countFld
  split
  · exact h
  · exact h.setFld _ _ ho

theorem State.regsBut.writeRow (h : s.regsBut t l) {o : Nat} (path : Path) (row : RegRow) (w : Word) (ho : o ∈ l) :
    s.regsBut (t.writeRow path o row w false) l :=
  fun off hoff => by rw [State.reg_writeRow, if_neg (ne_of_mem_of_not_mem ho hoff).symm, h off hoff]

/-- A fold of operations that each keep the frame keeps it. -/
theorem State.regsBut.foldl {α : Type} (xs : List α) (f : State → α → State) (h : s.regsBut t l)
    (hf : ∀ v : State, ∀ x ∈ xs, v.regsBut (f v x) l) : s.regsBut (xs.foldl f t) l :=
  List.foldlRecOn (motive := fun v => s.regsBut v l) xs f h (fun v hv x hx => hv.trans (hf v x hx))

theorem State.sameBut.regsBut (h : s.sameBut t l) : s.regsBut t l := fun off ho => (h.2 off ho).1

/-! ## States that differ in registers only -/

theorem State.sameBut.mono (h : s.sameBut t l) (hl : l ⊆ m) : s.sameBut t m := ⟨h.1, fun off ho => h.2 off (fun x => ho (hl x))⟩

theorem State.sameBut.trans (h : s.sameBut t l) (h' : t.sameBut u l) : s.sameBut u l :=
  (State.sameBut_trans s t u l l h h').mono (by simp)

theorem State.sameBut.fld (h : s.sameBut t l) {off : Nat} (ho : off ∉ l) (f : Fld) : t.fld off f = s.fld off f := h.regsBut.fld ho f

theorem State.sameBut.setReg (h : s.sameBut t l) {o : Nat} (w : Word) (ho : o ∈ l) : s.sameBut (t.setReg o w) l :=
  h.trans ((State.sameBut_setReg t o w).mono (by simpa using ho))

theorem State.sameBut.setFld (h : s.sameBut t l) {o : Nat} (f : Fld) (x : Nat) (ho : o ∈ l) : s.sameBut (t.setFld o f x) l :=
  h.setReg _ ho

theorem State.sameBut.count (h : s.sameBut t l) {o : Nat} (ho : o ∈ l) : s.sameBut (t.count o) l := h.setReg _ ho

theorem State.sameBut.countFld (h : s.sameBut t l) {o : Nat} (f : Fld) (ho : o ∈ l) : s.sameBut (t.countFld o f) l := by
  unfold State.countFld
  split
  · exact h
  · exact h.setFld _ _ ho

theorem State.sameBut.writeRow (h : s.sameBut t l) {o : Nat} (path : Path) (row : RegRow) (w : Word) (ho : o ∈ l) :
    s.sameBut (t.writeRow path o row w false) l :=
  h.trans ((State.writeRow_sameBut t path o row w).mono (by simpa using ho))

theorem State.sameBut.foldl {α : Type} (xs : List α) (f : State → α → State) (h : s.sameBut t l)
    (hf : ∀ v : State, ∀ x ∈ xs, v.sameBut (f v x) l) : s.sameBut (xs.foldl f t) l :=
  List.foldlRecOn (motive := fun v => s.sameBut v l) xs f h (fun v hv x hx => hv.trans (hf v x hx))

/-! ## The end of a command -/

/-- The end of a command looks at none of the registers at `l`: En_STAT of E0, HLT.STAT, SYS.CLK_STAT and SYS.BOOT_STAT. -/
def endIgnores (l : List Nat) : Prop := ∀ o ∈ [R.engStat 0, R.hltStat, R.sysClkStat, R.sysBootStat], o ∉ l

theorem endIgnores_of (h : ∀ o ∈ l, o ≠ 0x20 ∧ o ≠ 0x34 ∧ o ≠ 0x26008 ∧ o ≠ 0x34004) : endIgnores l := by
  intro o ho hl
  have hne := h o hl
  simp only [List.mem_cons, List.not_mem_nil, or_false, R.engStat, R.hltStat, R.sysClkStat, R.sysBootStat] at ho
  omega

/-- `t` differs from `s` in nothing that the end of a command looks at besides registers. -/
structure State.EndsAlike (s t : State) : Prop where
  work : t.work = s.work
  releases : t.fab.releases = s.fab.releases
  sec : t.sec = s.sec
  inbox : (t.eng 0).inbox = (s.eng 0).inbox
  rails : t.sys.railsBad = s.sys.railsBad
  porst : t.sys.porstLow = s.sys.porstLow
  resetting : t.sys.resetting = s.sys.resetting

theorem State.EndsAlike.refl (s : State) : s.EndsAlike s := ⟨rfl, rfl, rfl, rfl, rfl, rfl, rfl⟩

theorem State.EndsAlike.trans (h : s.EndsAlike t) (h' : t.EndsAlike u) : s.EndsAlike u :=
  ⟨h'.work.trans h.work, h'.releases.trans h.releases, h'.sec.trans h.sec, h'.inbox.trans h.inbox, h'.rails.trans h.rails,
    h'.porst.trans h.porst, h'.resetting.trans h.resetting⟩

/-- The blocks that the end of a command does not look at. -/
theorem State.endsAlike_of (h : t = { s with
    regs := t.regs, eff := t.eff, shadows := t.shadows, rdata := t.rdata, pulses := t.pulses, mem := t.mem, hostMem := t.hostMem
    messages := t.messages, freeCount := t.freeCount, tsq := t.tsq, vaf := t.vaf, shd := t.shd, geo := t.geo, asyncQ := t.asyncQ
    outLines := t.outLines, hlt := t.hlt, gait := t.gait, aux := t.aux, wfs := t.wfs, streams := t.streams, hqe := t.hqe, idma := t.idma }) :
    s.EndsAlike t :=
  ⟨by rw [h], by rw [h], by rw [h], by rw [h]; rfl, by rw [h], by rw [h], by rw [h]⟩

theorem State.usual_of (hu : s.usual) (h : s.EndsAlike t) (hr : s.regsBut t l) (hl : endIgnores l) : t.usual := by
  have hreg : ∀ o ∈ [R.engStat 0, R.hltStat, R.sysClkStat, R.sysBootStat], t.reg o = s.reg o := fun o ho => hr o (hl o ho)
  exact ⟨State.quiet_of s t hu.1 h.work h.releases h.sec (hreg _ (by simp)) h.inbox,
    State.settled_of s t hu.2 h.work h.rails h.porst h.resetting (hreg _ (by simp)) (hreg _ (by simp)) (hreg _ (by simp))⟩

theorem State.done_of_usual (h : s.usual) : State.done s = .next s := State.done_of_quiet s h.1 h.2

/-- A command ends with its effect where that touches nothing that the end of a command looks at. -/
theorem State.done_of_endsAlike (hu : s.usual) (h : s.EndsAlike t) (hr : s.regsBut t l) (hl : endIgnores l) : State.done t = .next t :=
  State.done_of_usual (State.usual_of hu h hr hl)

theorem State.sameBut.endsAlike (h : s.sameBut t l) : s.EndsAlike t := State.endsAlike_of (by rw [h.1])

/-- A command whose effect is in registers ends with its effect. -/
theorem State.done_of_regs (hu : s.usual) (h : s.sameBut t l) (hl : endIgnores l) : State.done t = .next t :=
  State.done_of_endsAlike hu h.endsAlike h.regsBut hl

end

end Sys2Proof.Machine

/-!
The queue, the idle cycle and the state after reset (R26, R43, R516).
-/
namespace Sys2Proof.Machine

/-- Settles O1: the queue's front is the branch that `step` takes. -/
theorem stepRunsTheFrontCommand : Obligations.StepRunsTheFrontCommand := by
  unfold Obligations.StepRunsTheFrontCommand
  intro s c rest h
  rw [step, h]

/-- Settles O3: in the state after reset nothing is stored, so that every register and byte reads what its table gives. -/
theorem resetStateIsUsual : Obligations.ResetStateIsUsual := by
  unfold Obligations.ResetStateIsUsual
  have hquiet : State.reset.quiet := ⟨rfl, rfl, .inl rfl⟩
  have hsettled : State.reset.settled := by and_intros <;> decide +kernel
  exact ⟨⟨hquiet, hsettled⟩, rfl, State.reset_mem_wf, fun _ => rfl, fun _ => rfl⟩

/-! ## Folds in which at most one step does something -/

theorem foldl_eq_self {α β : Type} (f : β → α → β) (b : β) (l : List α) (h : ∀ x ∈ l, f b x = b) : l.foldl f b = b :=
  List.foldlRecOn (motive := fun c => c = b) l f rfl (fun _ hc x hx => hc ▸ h x hx)

/-- Where every element but one leaves the value alone, a fold is the step of that one. -/
theorem foldl_eq_single {α β : Type} (f : β → α → β) (b : β) (l : List α) (a : α) (hl : l.Nodup) (ha : a ∈ l)
    (h : ∀ x ∈ l, x ≠ a → f b x = b) (h' : ∀ x ∈ l, x ≠ a → f (f b a) x = f b a) : l.foldl f b = f b a := by
  obtain ⟨l1, l2, rfl⟩ := List.append_of_mem ha
  obtain ⟨-, hnodup, hdisj⟩ := List.nodup_append.mp hl
  have hmem1 : ∀ x ∈ l1, x ≠ a := fun x hx => hdisj x hx a List.mem_cons_self
  have hmem2 : ∀ x ∈ l2, x ≠ a := fun x hx e => (List.nodup_cons.mp hnodup).1 (e ▸ hx)
  rw [List.foldl_append, foldl_eq_self f b l1 fun x hx => h x (by simp [hx]) (hmem1 x hx), List.foldl_cons,
    foldl_eq_self f (f b a) l2 fun x hx => h' x (by simp [hx]) (hmem2 x hx)]

/-! ## One cycle without a pulse -/

theorem State.settle_of_usual {s : State} (h : s.usual) : s.settle = s := Host.Outcome.next.inj (State.done_of_usual h)

theorem State.selHit_nil (s : State) (sel : Nat) : s.selHit [] sel = false := by simp [State.selHit]

/-- A timer that does not run does not count. -/
theorem State.etimCycle_of_stopped {s : State} {n : Nat} (h : s.etimRun n = false) : s.etimCycle n false false = s := by
  simp [State.etimCycle, h]

/-- A running timer without a prescaler counts one down (R43). -/
theorem State.etimCycle_of_running {s : State} {n : Nat} (h : s.etimRun n = true) (hnew : s.sys.etimNew = [])
    (hpre : s.sys.etimPresc = []) (hpresc : s.fld (R.etimCtl n) F.etimCtl.PRESC = 0) (hcount : 1 < (s.reg (R.etimCount n)).toNat) :
    s.etimCycle n false false = s.setReg (R.etimCount n) (s.reg (R.etimCount n) - 1) := by
  have hsys : s.prescRestarted n = s := by
    have herase : Table.erase s.sys.etimPresc n = s.sys.etimPresc := by rw [hpre]; rfl
    rw [State.prescRestarted, herase]
  have hgt : ¬ s.reg (R.etimCount n) ≤ 1 := by bv_omega
  have hget : ¬ Table.get (fun _ => 0) s.sys.etimPresc n + 1 < 2 ^ 0 := by rw [hpre]; simp [Table.get]
  have hloaded : ¬ ((s.sys.etimNew.contains n || !s.etimRun n) = true) := by simp [hnew, h]
  calc s.etimCycle n false false
      = if (s.sys.etimNew.contains n || !s.etimRun n) = true then s
        else if Table.get (fun _ => 0) s.sys.etimPresc n + 1 < 2 ^ s.fld (R.etimCtl n) F.etimCtl.PRESC then
          { s with sys := { s.sys with etimPresc := Table.set (fun _ => 0) s.sys.etimPresc n (Table.get (fun _ => 0) s.sys.etimPresc n + 1) } }
        else if (s.prescRestarted n).reg (R.etimCount n) ≤ 1 then (s.prescRestarted n).etimExpire n
        else (s.prescRestarted n).setReg (R.etimCount n) ((s.prescRestarted n).reg (R.etimCount n) - 1) := rfl
    _ = s.setReg (R.etimCount n) (s.reg (R.etimCount n) - 1) := by
        rw [if_neg hloaded, hpresc, if_neg hget, hsys, if_neg hgt]

theorem State.timersCycle_nil {s t : State} (h : s.forEach 32 (fun n t => t.etimCycle n false false) = t) (hnew : t.sys.etimNew = []) :
    s.timersCycle [] = t := by
  have hsys : { t with sys := { t.sys with etimNew := [] } } = t := by rw [← hnew]
  simp only [State.timersCycle, State.selHit_nil, h, hsys]

/-- SYS.TIME counts one where the fabric sets no rate (R26). -/
theorem State.timeCycle_of_plain {s : State} (h : s.sys.timeStarted = true) (hrate : s.fab.rate = 0) (hfrac : s.fab.frac = 0) :
    s.timeCycle = { s with sys := { s.sys with time := s.sys.time + 1 } } := by
  have hadd : ((s.fab.frac : Int) + 2 ^ 24 + s.fab.rate).toNat = 2 ^ 24 := by rw [hrate, hfrac]; rfl
  have hmod : 2 ^ 24 % 2 ^ 24 = s.fab.frac := hfrac.symm
  calc s.timeCycle
      = { s with
          sys := { s.sys with time := s.sys.time + BitVec.ofNat 64 (((s.fab.frac : Int) + 2 ^ 24 + s.fab.rate).toNat / 2 ^ 24) }
          fab := { s.fab with frac := ((s.fab.frac : Int) + 2 ^ 24 + s.fab.rate).toNat % 2 ^ 24 } } := by rw [State.timeCycle, if_pos h]
    _ = { s with sys := { s.sys with time := s.sys.time + 1 } } := by rw [hadd, hmod]; rfl

/-- A cycle without a command and without a pulse: the timers, then SYS.TIME. -/
theorem step_of_idle {s t : State} (hpending : s.pending = []) (hlock : s.fld R.sysClkStat F.sysClkStat.PLL_LOCK = 1)
    (hpulses : s.pulses = []) (h : (s.timersCycle []).timeCycle = t) (hu : t.usual) : step s = .next t := by
  have hs : { s with pulses := [] } = s := by rw [← hpulses]
  have htick : s.tick = (s.timersCycle []).timeCycle.settle := by
    simp [State.tick, State.bit, hlock, hpulses, hs]
  rw [step, hpending]
  simp only [htick, h, State.settle_of_usual hu]

/-- Settles O2: no timer counts but a running one, and SYS.TIME counts one. -/
theorem idleStepIsOneCycle : Obligations.IdleStepIsOneCycle := by
  unfold Obligations.IdleStepIsOneCycle
  intro s hpending
  refine ⟨fun hlock => ?_, fun hlock hu hpulses hnew hstarted hrate hfrac => ⟨fun hstop => ?_, fun n hn hrun hpresc hcount hothers hpre => ?_⟩⟩
  · rw [step, hpending]
    simp [State.tick, State.bit, hlock]
  · have htimers : s.timersCycle [] = s := State.timersCycle_nil
      (foldl_eq_self _ _ _ fun n hn => State.etimCycle_of_stopped (hstop n (List.mem_range.mp hn))) hnew
    refine step_of_idle hpending hlock hpulses ((congrArg State.timeCycle htimers).trans (State.timeCycle_of_plain hstarted hrate hfrac)) ?_
    exact State.usual_of (l := []) hu ⟨rfl, rfl, rfl, rfl, rfl, rfl, rfl⟩ (State.regsBut_of_regs _ rfl) (endIgnores_of (by simp))
  · let u := s.setReg (R.etimCount n) (s.reg (R.etimCount n) - 1)
    have hcycle : s.etimCycle n false false = u := State.etimCycle_of_running hrun hnew hpre hpresc hcount
    have hstill : ∀ m ∈ List.range 32, m ≠ n → s.etimRun m = false := fun m hm hne => hothers m (List.mem_range.mp hm) hne
    have hkeep : ∀ m, u.etimRun m = s.etimRun m := fun m => by
      have hne : R.etimStat m ≠ R.etimCount n := by simp only [R.etimStat, R.etimCount]; omega
      rw [State.etimRun, State.bit, State.fld_setReg_ne _ _ _ _ _ hne, State.etimRun, State.bit]
    have htimers : s.timersCycle [] = u := State.timersCycle_nil
      ((foldl_eq_single _ s _ n List.nodup_range (List.mem_range.mpr hn) (fun m hm hne => State.etimCycle_of_stopped (hstill m hm hne))
        (fun m hm hne => by
          simp only [hcycle]
          exact State.etimCycle_of_stopped ((hkeep m).trans (hstill m hm hne)))).trans hcycle) hnew
    have hregs : s.regsBut u [R.etimCount n] := (State.sameBut_setReg s _ _).regsBut
    refine ⟨_, step_of_idle hpending hlock hpulses ((congrArg State.timeCycle htimers).trans (State.timeCycle_of_plain hstarted hrate hfrac)) ?_, rfl,
      State.reg_setReg_same _ _ _, fun off ho => State.reg_setReg_ne _ _ _ _ ho, rfl⟩
    exact State.usual_of hu ⟨rfl, rfl, rfl, rfl, rfl, rfl, rfl⟩ hregs
      (endIgnores_of (by simp only [List.mem_singleton, forall_eq, R.etimCount]; omega))

end Sys2Proof.Machine

/-!
Register accesses (R7-R17): a write of a register that follows its row, accesses that are narrow, unaligned or outside the blocks, and
the reads that latch or clear.
-/
namespace Sys2Proof.Machine

/-! ## Fields of a word given as a number -/

theorem Fld.get_ofNat (f : Fld) (n : Nat) : f.get (BitVec.ofNat 32 n) = n % 2 ^ 32 / 2 ^ f.lo % 2 ^ f.width := by
  rw [Fld.get, BitVec.extractLsb'_toNat, BitVec.toNat_ofNat, Nat.shiftRight_eq_div_pow]

/-! ## An access error (Table 1-6) -/

/-- An access error sets its bit. -/
theorem State.fld_err_same (s : State) (path : Path) (off : Nat) (b : Fld) (h : b.lo + b.width ≤ 32) (hw : b.width = 1) :
    (s.err path off b).fld R.sysErrStat b = 1 := by
  rw [State.err, State.fld_setFld _ _ _ _ h, hw]
  rfl

/-- The first access error records its offset with its requester. -/
theorem State.reg_err_sysErrAddr (s : State) (path : Path) (off : Nat) (b : Fld) (h : s.reg R.sysErrStat = 0) :
    (s.err path off b).reg R.sysErrAddr = BitVec.ofNat 32 (off % 2 ^ 20 + srcCode path * 2 ^ 20 + pathCode path * 2 ^ 30) := by
  rw [State.err, if_pos h, State.reg_setFld_ne _ _ _ _ _ (by decide), State.reg_setReg_same]

theorem srcCode_lt (path : Path) : srcCode path < 2 ^ 10 := by
  cases path <;> simp only [srcCode] <;> omega

theorem pathCode_lt (path : Path) : pathCode path < 2 ^ 2 := by
  cases path <;> simp [pathCode]

theorem State.fld_err_sysErrAddr (s : State) (path : Path) {off : Nat} (b : Fld) (hoff : off < 2 ^ 20) (h : s.reg R.sysErrStat = 0) :
    (s.err path off b).fld R.sysErrAddr F.sysErrAddr.OFFSET = off ∧
      (s.err path off b).fld R.sysErrAddr F.sysErrAddr.PATH = pathCode path := by
  have hsrc := srcCode_lt path
  have hpath := pathCode_lt path
  simp only [State.fld, s.reg_err_sysErrAddr path off b h, Fld.get_ofNat, F.sysErrAddr.OFFSET, F.sysErrAddr.PATH]
  omega

theorem endIgnores_err : endIgnores [R.sysErrAddr, R.sysErrStat] := endIgnores_of (by decide)

/-- A command that only records an access error ends with it. -/
theorem State.done_err {s : State} (hu : s.usual) (path : Path) (off : Nat) (b : Fld) :
    State.done (s.err path off b) = .next (s.err path off b) :=
  State.done_of_regs hu (s.err_sameBut path off b) endIgnores_err

/-! ## Which accesses are taken -/

section
variable {s : State} {path : Path} {off : Nat}

/-- A 32-bit write at an aligned offset goes to the register (R7). -/
theorem State.writeAccess_of_aligned (w : Word) (h : off % 4 = 0) : s.writeAccess path off 4 w = s.regWrite path off w :=
  if_neg (by simp [h])

theorem State.readAccess_of_aligned (h : off % 4 = 0) :
    s.readAccess path off 4 = { (s.regRead path off).2 with rdata := (s.regRead path off).1 } := by
  rw [State.readAccess, if_neg (by simp [h])]

variable (hwarm : s.sys.warmActive = false)
include hwarm

/-- A narrow or unaligned write of a register is an access error (R7). -/
theorem State.writeAccess_of_misfit {size : Nat} (w : Word) (hoff : off < 0x3C000) (h : size ≠ 4 ∨ off % 4 ≠ 0) :
    s.writeAccess path off size w = s.errAcc path off :=
  if_pos ⟨h, by simp [hwarm], by simp; omega⟩

/-- A write to a range without a block is an access error (R517). -/
theorem State.regWrite_of_unmapped (w : Word) (h : unmappedBar off = true) (hmirror : isMirror path = false) (hoff : off < 0x100000) :
    s.regWrite path off w = s.errAcc path off := by
  rw [State.regWrite, if_neg (by simp [hwarm, hmirror]; omega), if_pos h]

theorem State.regRead_of_unmapped (h : unmappedBar off = true) (hmirror : isMirror path = false) (hoff : off < 0x100000) :
    s.regRead path off = (0, s.errAcc path off) := by
  rw [State.regRead, if_neg (by simp [State.warmClosed, hwarm, hmirror]; omega), if_pos h]

/-- A write to the Tandem block is a plain one. -/
theorem State.regWrite_of_tcx (w : Word) (hlo : 0x20000 ≤ off) (hhi : off < 0x24000) :
    s.regWrite path off w = s.plainWrite path off w false := by
  have hmapped : unmappedBar off = false := by simp [unmappedBar]; omega
  have hblock : off / 0x4000 = 8 := by omega
  rw [State.regWrite, if_neg (by simp [hwarm]; omega), if_neg (by simp [hmapped]), if_neg (by omega), hblock]
  rfl

/-- A read of a register. -/
theorem State.regRead_of_block (hoff : off < 0x3C000) : s.regRead path off = s.regShow path off := by
  have hmapped : unmappedBar off = false := by simp [unmappedBar]; omega
  rw [State.regRead, if_neg (by simp [State.warmClosed, hwarm]; omega), if_neg (by simp [hmapped]), if_neg (by omega)]

end

theorem State.plainWrite_of_row (s : State) (path : Path) {off : Nat} (w : Word) (busy : Bool) {row : RegRow}
    (h : Reg.rowOf off = some row) : s.plainWrite path off w busy = s.writeRow path off row w busy := by
  rw [State.plainWrite, h]

theorem State.plainWrite_unlisted (s : State) (path : Path) {off : Nat} (w : Word) (busy : Bool) (h : Reg.rowOf off = none) :
    s.plainWrite path off w busy = s := by
  rw [State.plainWrite, h]

/-- Settles O5: the Tandem block's registers take plain writes, and a misfit or unmapped access is an error. -/
theorem registerWritesFollowTheirRow : Obligations.RegisterWritesFollowTheirRow := by
  unfold Obligations.RegisterWritesFollowTheirRow
  intro s path off w hu hwarm
  refine ⟨fun row hlo hhi hal hrow => ?_, fun hlo hhi hal hrow => ?_, fun size hoff hsize => ?_, fun hrange hmirror => ?_⟩
  · have hwrite : s.writeAccess path off 4 w = s.writeRow path off row w false := by
      rw [State.writeAccess_of_aligned w hal, State.regWrite_of_tcx hwarm w hlo hhi, s.plainWrite_of_row path w false hrow]
    have hsame := s.writeRow_sameBut path off row w
    exact ⟨_, (congrArg State.done hwrite).trans (State.done_of_regs hu hsame (endIgnores_of (by simp; omega))), hsame,
      by rw [State.reg_writeRow, if_pos rfl]⟩
  · have hwrite : s.writeAccess path off 4 w = s := by
      rw [State.writeAccess_of_aligned w hal, State.regWrite_of_tcx hwarm w hlo hhi, s.plainWrite_unlisted path w false hrow]
    exact (congrArg State.done hwrite).trans (State.done_of_usual hu)
  · exact ⟨_, (congrArg State.done (State.writeAccess_of_misfit hwarm w hoff hsize)).trans (State.done_err hu _ _ _),
      s.err_sameBut _ _ _, s.fld_err_same _ _ _ (by decide) rfl, s.fld_err_sysErrAddr _ _ (by omega)⟩
  · have hunmapped : unmappedBar off = true := by simp [unmappedBar]; omega
    have hword : unmappedBar (off / 4 * 4) = true := by simp [unmappedBar]; omega
    have hwrite : s.writeAccess path (off / 4 * 4) 4 0 = s.errAcc path (off / 4 * 4) := by
      rw [State.writeAccess_of_aligned 0 (by omega), State.regWrite_of_unmapped hwarm 0 hword hmirror (by omega)]
    have hread : s.readAccess path (off / 4 * 4) 4 = { s.errAcc path (off / 4 * 4) with rdata := 0 } := by
      rw [State.readAccess_of_aligned (by omega), State.regRead_of_unmapped hwarm hword hmirror (by omega)]
    have hsame := s.err_sameBut path (off / 4 * 4) F.sysErrStat.ACC
    have hclosed : s.EndsAlike { s.errAcc path (off / 4 * 4) with rdata := 0 } := hsame.endsAlike.trans ⟨rfl, rfl, rfl, rfl, rfl, rfl, rfl⟩
    have hexec : ∀ write, exec (.unmappedBarAccess path off write) s =
        State.done (if write then s.writeAccess path (off / 4 * 4) 4 0 else s.readAccess path (off / 4 * 4) 4) := fun write =>
      congrArg State.done (if_neg (by simp [hunmapped]))
    refine ⟨_, _, (hexec true).trans ((congrArg State.done hwrite).trans (State.done_err hu _ _ _)), hsame,
      s.fld_err_same _ _ _ (by decide) rfl, (hexec false).trans ((congrArg State.done hread).trans ?_), rfl⟩
    exact State.done_of_endsAlike hu hclosed (hsame.regsBut.trans (State.regsBut_of_regs _ rfl)) endIgnores_err

end Sys2Proof.Machine

/-!
Reads that latch the higher part of a wide value (R15, R16), and reads that clear a counter (R10).
-/
namespace Sys2Proof.Machine

/-- Each access path has shadows of its own (R16). -/
theorem shadowIndex_injective {p q : Path} (h : shadowIndex p = shadowIndex q) : p = q := by
  cases p <;> cases q <;> simp [shadowIndex] at h ⊢ <;> omega

theorem shadowKey_ne {p q : Path} {a b : Nat} (ha : a < 2 ^ 20) (hb : b < 2 ^ 20) (h : (p, a) ≠ (q, b)) :
    shadowIndex p * 2 ^ 20 + a ≠ shadowIndex q * 2 ^ 20 + b := by
  intro e
  have hindex : shadowIndex p = shadowIndex q := by omega
  exact h (Prod.ext (shadowIndex_injective hindex) (by rw [hindex] at e; simpa using e))

/-- `s` with `w` in the shadow of a path and offset (R16). -/
def State.withShadow (s : State) (key : Nat) (w : Word) : State := { s with shadows := Table.set shadowReset s.shadows key w }

theorem State.shadow_of_shadows {s t : State} {key : Nat} {w : Word} (h : t.shadows = Table.set shadowReset s.shadows key w)
    (path : Path) (off : Nat) : t.shadow path off = if shadowIndex path * 2 ^ 20 + off = key then w else s.shadow path off := by
  rw [State.shadow, h, Table.get_set, State.shadow]

section
variable {s : State} (path : Path)

/-- A read of SYS.TIME's low word latches the high word for its path. -/
theorem State.regShow_sysTimeLo : s.regShow path R.sysTimeLo = (s.sys.time.setWidth 32, s.latchShadow path R.sysTimeLo 2) := by
  have hslot : slotIn (R.engOutbox 0) 0x40 96 R.sysTimeLo = none := by decide
  have hpart : widePart R.sysTimeLo = some (0, 2) := by decide +kernel
  rw [State.regShow, if_neg (by decide), hslot, hpart]
  rfl

theorem State.latchShadow_sysTime : s.latchShadow path R.sysTimeLo 2 =
    s.withShadow (shadowIndex path * 2 ^ 20 + R.sysTimeHi) ((s.sys.time >>> 32).setWidth 32) := by
  have hkey : shadowIndex path * 2 ^ 20 + R.sysTimeLo + 4 * 1 = shadowIndex path * 2 ^ 20 + R.sysTimeHi :=
    (Nat.add_assoc _ _ _).trans (congrArg _ (by decide))
  have hshown : s.shown (R.sysTimeLo + 4 * 1) = (s.sys.time >>> 32).setWidth 32 := rfl
  rw [← hkey, ← hshown, State.latchShadow, show List.range 2 = [0, 1] from rfl, List.foldl_cons, List.foldl_cons, List.foldl_nil,
    if_pos rfl, if_neg Nat.one_ne_zero, State.withShadow]

/-- A read of SYS.TIME's high word gives what its path has latched. -/
theorem State.regShow_sysTimeHi : s.regShow path R.sysTimeHi = (s.shadow path R.sysTimeHi, s) := by
  have hslot : slotIn (R.engOutbox 0) 0x40 96 R.sysTimeHi = none := by decide
  have hpart : widePart R.sysTimeHi = some (1, 2) := by decide +kernel
  rw [State.regShow, if_neg (by decide), hslot, hpart]
  rfl

/-- A read of a counter that clears at a read (R10). -/
theorem State.regShow_readClear {off : Nat} (hgpio : off ≠ R.sysGpioIn) (hslot : slotIn (R.engOutbox 0) 0x40 96 off = none)
    (hpart : widePart off = none) (hlive : off ≠ R.sysTimeLo ∧ off ≠ R.sysTimeHi ∧ off ≠ R.hltStat)
    (hrow : (Reg.rowOf off).map (fun r => (r.rc, r.wo)) = some (0xFFFFFFFF, 0)) :
    s.regShow path off = (s.reg off, s.setReg off 0) := by
  obtain ⟨row, hsome, hvals⟩ := Option.map_eq_some_iff.mp hrow
  obtain ⟨hrc, hwo⟩ := Prod.mk.inj hvals
  have hshown : s.shown off = s.reg off := by
    rw [State.shown, if_neg hlive.1, if_neg hlive.2.1, if_neg hlive.2.2, hsome]
    change s.reg off &&& ~~~BitVec.ofNat 32 row.wo = s.reg off
    rw [hwo]
    exact BitVec.and_allOnes
  rw [State.regShow, if_neg hgpio, hslot, hpart, hsome]
  simp [hrc, hshown]

end

/-- The counters of the statement clear at a read, and are no wide values. -/
theorem readClear_counters : ∀ off ∈ [R.sysEccCeCnt, R.sysEccUeCnt, R.sysClaimErrCnt, R.lpOvrCnt 3, R.hqeTmoCnt, R.idmaBusCnt, R.dlfCrcCnt],
    (off ≠ R.sysGpioIn ∧ slotIn (R.engOutbox 0) 0x40 96 off = none ∧ widePart off = none) ∧
    (off ≠ R.sysTimeLo ∧ off ≠ R.sysTimeHi ∧ off ≠ R.hltStat) ∧
    (Reg.rowOf off).map (fun r => (r.rc, r.wo)) = some (0xFFFFFFFF, 0) ∧
    (off % 4 = 0 ∧ off < 0x3C000) ∧ off ≠ 0x20 ∧ off ≠ 0x34 ∧ off ≠ 0x26008 ∧ off ≠ 0x34004 := by decide +kernel

theorem exec_shadowLowRead_sysTimeLo {s : State} (path : Path) (hu : s.usual) (hwarm : s.sys.warmActive = false) {key : Nat}
    (hkey : shadowIndex path * 2 ^ 20 + R.sysTimeHi = key) :
    exec (.shadowLowRead path R.sysTimeLo 4) s =
      .next { s.withShadow key ((s.sys.time >>> 32).setWidth 32) with rdata := s.sys.time.setWidth 32 } := by
  have hread : s.readAccess path R.sysTimeLo 4 =
      { s.withShadow key ((s.sys.time >>> 32).setWidth 32) with rdata := s.sys.time.setWidth 32 } := by
    rw [State.readAccess_of_aligned (by decide), State.regRead_of_block hwarm (by decide), State.regShow_sysTimeLo,
      State.latchShadow_sysTime, hkey]
  exact (congrArg State.done hread).trans (State.done_of_endsAlike (l := []) hu ⟨rfl, rfl, rfl, rfl, rfl, rfl, rfl⟩
    (State.regsBut_of_regs _ rfl) (endIgnores_of (by simp)))

theorem exec_shadowLowRead_sysTimeHi {s : State} (path : Path) (hu : s.usual) (hwarm : s.sys.warmActive = false) :
    exec (.shadowLowRead path R.sysTimeHi 4) s = .next { s with rdata := s.shadow path R.sysTimeHi } := by
  have hread : s.readAccess path R.sysTimeHi 4 = { s with rdata := s.shadow path R.sysTimeHi } := by
    rw [State.readAccess_of_aligned (by decide), State.regRead_of_block hwarm (by decide), State.regShow_sysTimeHi]
  exact (congrArg State.done hread).trans (State.done_of_endsAlike (l := []) hu ⟨rfl, rfl, rfl, rfl, rfl, rfl, rfl⟩
    (State.regsBut_of_regs _ rfl) (endIgnores_of (by simp)))

/-- Settles O6: SYS.TIME is latched by path, and a counter that clears at a read is returned and cleared. -/
theorem readsLatchAndClear : Obligations.ReadsLatchAndClear := by
  unfold Obligations.ReadsLatchAndClear
  intro s path hu hwarm
  refine ⟨?_, exec_shadowLowRead_sysTimeHi path hu hwarm, fun off hoff => ?_⟩
  · obtain ⟨key, hkey⟩ : ∃ key, shadowIndex path * 2 ^ 20 + R.sysTimeHi = key := ⟨_, rfl⟩
    refine ⟨_, exec_shadowLowRead_sysTimeLo path hu hwarm hkey, rfl, rfl, ?_, fun p off hne hlt => ?_⟩
    · rw [State.shadow_of_shadows (s := s) (key := key) rfl, if_pos hkey]
    · rw [State.shadow_of_shadows (s := s) (key := key) rfl, if_neg (hkey ▸ shadowKey_ne hlt (by decide) hne)]
  · obtain ⟨⟨hgpio, hslot, hpart⟩, hlive, hrow, ⟨hal, hblock⟩, hend⟩ := readClear_counters off hoff
    have hread : s.readAccess path off 4 = { s with rdata := s.reg off }.setReg off 0 := by
      rw [State.readAccess_of_aligned hal, State.regRead_of_block hwarm hblock,
        State.regShow_readClear path hgpio hslot hpart hlive hrow]
      rfl
    have hsame := State.sameBut_setReg { s with rdata := s.reg off } off 0
    have hu' : State.usual { s with rdata := s.reg off } := State.usual_of (l := []) hu ⟨rfl, rfl, rfl, rfl, rfl, rfl, rfl⟩
      (State.regsBut_of_regs _ rfl) (endIgnores_of (by simp))
    exact ⟨_, (congrArg State.done hread).trans (State.done_of_regs hu' hsame (endIgnores_of (by simpa using hend))), rfl,
      State.reg_setReg_same _ _ _, hsame⟩

end Sys2Proof.Machine

/-!
Frames of registers alone, with nothing held back by a latch (`State.regsOnly`); the fields of a register that a write sets or leaves;
the bits and lists that events go through.
-/
namespace Sys2Proof.Machine

/-! ## States that differ in registers only -/

/-- `t` is `s` but for the registers at `l`. -/
def State.regsOnly (s t : State) (l : List Nat) : Prop := t = { s with regs := t.regs } ∧ s.regsBut t l

section
variable {s t u : State} {l m : List Nat}

theorem State.regsOnly.refl (s : State) (l : List Nat) : s.regsOnly s l := ⟨rfl, .refl s l⟩

theorem State.regsOnly.trans (h : s.regsOnly t l) (h' : t.regsOnly u l) : s.regsOnly u l :=
  ⟨h'.1.trans (by rw [h.1]), h.2.trans h'.2⟩

theorem State.regsOnly.mono (h : s.regsOnly t l) (hl : l ⊆ m) : s.regsOnly t m := ⟨h.1, h.2.mono hl⟩

theorem State.regsOnly.setReg (h : s.regsOnly t l) {o : Nat} (w : Word) (ho : o ∈ l) : s.regsOnly (t.setReg o w) l :=
  h.trans ⟨rfl, (State.regsBut.refl t l).setReg w ho⟩

theorem State.regsOnly.setFld (h : s.regsOnly t l) {o : Nat} (f : Fld) (x : Nat) (ho : o ∈ l) : s.regsOnly (t.setFld o f x) l :=
  h.setReg _ ho

theorem State.regsOnly.count (h : s.regsOnly t l) {o : Nat} (ho : o ∈ l) : s.regsOnly (t.count o) l := h.setReg _ ho

theorem State.regsOnly.countFld (h : s.regsOnly t l) {o : Nat} (f : Fld) (ho : o ∈ l) : s.regsOnly (t.countFld o f) l := by
  unfold State.countFld
  split
  · exact h
  · exact h.setFld _ _ ho

/-- A fold of operations that each keep the frame keeps it. -/
theorem State.regsOnly.foldl {α : Type} (xs : List α) (f : State → α → State) (h : s.regsOnly t l)
    (hf : ∀ v : State, ∀ x ∈ xs, v.regsOnly (f v x) l) : s.regsOnly (xs.foldl f t) l :=
  List.foldlRecOn (motive := fun v => s.regsOnly v l) xs f h (fun v hv x hx => hv.trans (hf v x hx))

theorem State.regsOnly.effReg (h : s.regsOnly t l) {off : Nat} (ho : off ∉ l) : t.effReg off = s.effReg off := by
  have heff : t.eff = s.eff := by rw [h.1]
  have hget : ∀ e : Table Word, Table.get t.reg e off = Table.get s.reg e off := by
    intro e
    induction e with
    | nil => exact h.2 off ho
    | cons x r ih =>
      rw [Table.get, Table.get, ih]
  rw [State.effReg, State.effReg, heff, hget]

theorem State.regsOnly.sameBut (h : s.regsOnly t l) : s.sameBut t l :=
  ⟨h.1.trans (by rw [h.1]), fun _ ho => ⟨h.2 _ ho, h.effReg ho⟩⟩

theorem State.regsOnly.fld (h : s.regsOnly t l) {off : Nat} (ho : off ∉ l) (f : Fld) : t.fld off f = s.fld off f := h.2.fld ho f

/-- A command whose effect is in registers ends with its effect. -/
theorem State.done_of_regsOnly (hu : s.usual) (h : s.regsOnly t l) (hl : endIgnores l) : State.done t = .next t :=
  State.done_of_regs hu h.sameBut hl

/-- States that differ in registers still do after the same change of SYS's state. -/
theorem State.regsOnly.withSys (h : s.regsOnly t l) (y : Sys) : State.regsOnly { s with sys := y } { t with sys := y } l :=
  ⟨by rw [h.1], h.2⟩

theorem State.sameBut.withSys (h : s.sameBut t l) (y : Sys) : State.sameBut { s with sys := y } { t with sys := y } l :=
  ⟨by rw [h.1], h.2⟩

theorem State.sameBut.sys (h : s.sameBut t l) : t.sys = s.sys := by rw [h.1]

theorem State.regsOnly.sys (h : s.regsOnly t l) : t.sys = s.sys := by rw [h.1]

end

/-! ## The fields that a write sets -/

/-- A write sets every bit of the field. -/
def RegRow.takesFld (row : RegRow) (f : Fld) : Bool :=
  (List.range 32).all (fun i => !(decide (f.lo ≤ i ∧ i < f.lo + f.width)) || (row.takes.getLsbD i && !((BitVec.ofNat 32 row.w1c).getLsbD i)))

/-- A write sets and clears no bit of the field. -/
def RegRow.leavesFld (row : RegRow) (f : Fld) : Bool :=
  (List.range 32).all (fun i => !(decide (f.lo ≤ i ∧ i < f.lo + f.width)) || (!(row.takes.getLsbD i) && !((BitVec.ofNat 32 row.w1c).getLsbD i)))

section
variable {row : RegRow} {f : Fld} (old w : Word)

theorem RegRow.written_bit (i : Nat) (hi : i < 32) : (row.written old w).getLsbD i =
    ((if row.takes.getLsbD i then w.getLsbD i else old.getLsbD i) && !(w.getLsbD i && (BitVec.ofNat 32 row.w1c).getLsbD i)) := by
  simp only [RegRow.written, BitVec.getLsbD_and, BitVec.getLsbD_or, BitVec.getLsbD_not, hi, decide_true, Bool.true_and]
  cases row.takes.getLsbD i <;> simp

/-- A field that a write sets takes its value from the written word. -/
theorem RegRow.get_written_of_takes (hf : f.lo + f.width ≤ 32) (h : row.takesFld f = true) : f.get (row.written old w) = f.get w := by
  refine Fld.get_eq f _ _ hf fun i hlo hhi => ?_
  have hi : i < 32 := by omega
  have hbit := List.all_eq_true.mp h i (List.mem_range.mpr hi)
  simp only [hlo, hhi, and_self, decide_true, Bool.not_true, Bool.false_or, Bool.and_eq_true, Bool.not_eq_true'] at hbit
  rw [RegRow.written_bit old w i hi, hbit.1, hbit.2, if_pos rfl, Bool.and_false, Bool.not_false, Bool.and_true]

/-- A field that a write leaves keeps its value. -/
theorem RegRow.get_written_of_leaves (hf : f.lo + f.width ≤ 32) (h : row.leavesFld f = true) : f.get (row.written old w) = f.get old := by
  refine Fld.get_eq f _ _ hf fun i hlo hhi => ?_
  have hi : i < 32 := by omega
  have hbit := List.all_eq_true.mp h i (List.mem_range.mpr hi)
  simp only [hlo, hhi, and_self, decide_true, Bool.not_true, Bool.false_or, Bool.and_eq_true, Bool.not_eq_true'] at hbit
  rw [RegRow.written_bit old w i hi, hbit.1, hbit.2, if_neg Bool.false_ne_true, Bool.and_false, Bool.not_false, Bool.and_true]

end

section
variable (s : State) (path : Path) (off : Nat) {row : RegRow} {f : Fld} (w : Word)

theorem State.fld_writeRow_of_takes (hf : f.lo + f.width ≤ 32) (h : row.takesFld f = true) :
    (s.writeRow path off row w false).fld off f = f.get w := by
  rw [State.fld, State.reg_writeRow, if_pos rfl, RegRow.get_written_of_takes _ _ hf h]

theorem State.fld_writeRow_of_leaves (hf : f.lo + f.width ≤ 32) (h : row.leavesFld f = true) :
    (s.writeRow path off row w false).fld off f = s.fld off f := by
  rw [State.fld, State.reg_writeRow, if_pos rfl, RegRow.get_written_of_leaves _ _ hf h, State.fld]

end

/-- A bit set in a field of one bit. -/
theorem State.bit_setFld (s : State) (o : Nat) (f : Fld) (x : Nat) (h : f.lo + f.width ≤ 32) (hx : x < 2 ^ f.width) :
    (s.setFld o f x).bit o f = (x != 0) := by
  rw [State.bit, State.fld_setFld _ _ _ _ h, Nat.mod_eq_of_lt hx]

theorem State.bit_eq_true {s : State} {off : Nat} {f : Fld} (h : s.fld off f = 1) : s.bit off f = true := by rw [State.bit, h]; rfl

theorem State.bit_eq_false {s : State} {off : Nat} {f : Fld} (h : s.fld off f = 0) : s.bit off f = false := by rw [State.bit, h]; rfl

/-! ## Events -/

theorem mem_addSorted {l : List Nat} {k x : Nat} : x ∈ addSorted l k ↔ x ∈ l ∨ x = k := by
  induction l with
  | nil => simp [addSorted]
  | cons y r ih =>
    rw [addSorted]
    split
    · simp only [List.mem_cons]; tauto
    · split
      · next h => subst h; simp only [List.mem_cons]; tauto
      · simp only [List.mem_cons, ih]; tauto

theorem mem_setBits {v n k : Nat} : k ∈ setBits v n ↔ k < n ∧ v.testBit k = true := by
  rw [setBits, List.mem_filter, List.mem_range]

/-- A fold of pulses fires each of them and does nothing else. -/
theorem State.foldl_fire (s : State) (ks : List Nat) (f : Nat → Nat) :
    ks.foldl (fun t k => t.fire (f k)) s = { s with pulses := (ks.foldl (fun t k => t.fire (f k)) s).pulses } ∧
    ∀ ev, ev ∈ (ks.foldl (fun t k => t.fire (f k)) s).pulses ↔ ev ∈ s.pulses ∨ ∃ k ∈ ks, ev = f k := by
  induction ks generalizing s with
  | nil => exact ⟨rfl, fun ev => by simp⟩
  | cons k ks ih =>
    obtain ⟨hstate, hmem⟩ := ih (s.fire (f k))
    refine ⟨hstate.trans rfl, fun ev => (hmem ev).trans ?_⟩
    rw [State.fire, mem_addSorted]
    simp only [List.mem_cons, exists_eq_or_imp]
    tauto

/-- The conflict of a write that carries no claim is counted, and nothing else. -/
theorem State.foreignWrite_unrecorded (s : State) (r : Res) (path : Path) (off : Nat) :
    s.foreignWrite r path off false = (s.errClaim path off).count R.sysClaimErrCnt := rfl

end Sys2Proof.Machine

/-!
Software events, the event monitor (R42) and the event timers (R43, R44, R49, R51, Table 1-9).
-/
namespace Sys2Proof.Machine

/-- The registers of timer n, and those of the paths that show its RUN. -/
def timerRegs (n : Nat) : List Nat := [R.etimCtl n, R.etimCount n, R.etimStat n] ++ pathStats

section
variable (s : State) {n : Nat} (hn : n < 32)

theorem etimStat_mem_timerRegs : R.etimStat n ∈ timerRegs n := by simp [timerRegs]

theorem etimCount_mem_timerRegs : R.etimCount n ∈ timerRegs n := by simp [timerRegs]

theorem etimCtl_mem_timerRegs : R.etimCtl n ∈ timerRegs n := by simp [timerRegs]

theorem endIgnores_timerRegs (n : Fin 32) : endIgnores (timerRegs n) := by
  refine endIgnores_of fun o ho => ?_
  simp only [timerRegs, pathStats, List.mem_append, List.mem_cons, List.not_mem_nil, or_false, R.etimCtl, R.etimCount, R.etimStat,
    R.pathStat] at ho
  omega

theorem State.etimSetRun_regsOnly (v : Nat) : s.regsOnly (s.etimSetRun n v) (timerRegs n) := by
  refine .foldl _ _ ((State.regsOnly.refl s _).setFld _ _ etimStat_mem_timerRegs) fun t k hk => ?_
  have hmem : ∀ k < 4, R.pathStat k ∈ pathStats := by decide
  beta_reduce
  split
  · exact (State.regsOnly.refl t _).setFld _ _ (List.mem_append_right _ (hmem k (List.mem_range.mp hk)))
  · exact .refl _ _

include hn

omit hn in
theorem State.reg_etimSetRun {o v : Nat} (ho : o < 0x1842C) (hne : o ≠ R.etimStat n) : (s.etimSetRun n v).reg o = s.reg o := by
  rw [(s.etimSetRun_gaitOnly n v).reg o (not_mem_pathStats ho), State.reg_setFld_ne _ _ _ _ _ hne]

theorem State.etimRun_etimSetRun_stop : (s.etimSetRun n 0).etimRun n = false := by
  have hout : R.etimStat n ∉ pathStats := not_mem_pathStats (by simp only [R.etimStat]; omega)
  rw [State.etimRun, State.bit, (s.etimSetRun_gaitOnly n 0).fld hout, State.fld_setFld _ _ _ _ (by decide)]
  rfl

theorem State.fld_etimSetRun_etimStat (v : Nat) (f : Fld) (hf : f.lo + f.width ≤ 32) (h : 1 ≤ f.lo) :
    (s.etimSetRun n v).fld (R.etimStat n) f = s.fld (R.etimStat n) f := by
  have hout : R.etimStat n ∉ pathStats := not_mem_pathStats (by simp only [R.etimStat]; omega)
  rw [(s.etimSetRun_gaitOnly n v).fld hout, State.fld_setFld_apart _ _ F.etimStat.RUN _ _ (by decide) hf (.inr h)]

end

/-- What COUNT takes at a load: LOAD, of which 0 behaves as 1 (R43). -/
def State.etimLoadOf (s : State) (n : Nat) : Word := if s.reg (R.etimLoad n) = 0 then 1 else s.reg (R.etimLoad n)

section
variable (s : State) (n : Nat)

theorem State.regsOnly_countLoaded {l : List Nat} (ho : R.etimCount n ∈ l) : (s.prescRestarted n).regsOnly (s.etimLoadCount n) l :=
  ((State.regsOnly.refl s l).setReg _ ho).withSys _

theorem State.etimRun_etimLoadCount : (s.etimLoadCount n).etimRun n = s.etimRun n := by
  rw [State.etimRun, State.bit, State.fld, State.reg_etimLoadCount, if_neg (by simp only [R.etimStat, R.etimCount]; omega)]
  rfl

/-- A timer that starts: loaded and running. -/
def State.etimStarted (s : State) (n : Nat) : State := (s.etimLoadCount n).etimSetRun n 1

theorem State.etimStarted_regsOnly : (s.prescRestarted n).regsOnly (s.etimStarted n) (timerRegs n) :=
  (s.regsOnly_countLoaded n etimCount_mem_timerRegs).trans (State.etimSetRun_regsOnly _ 1)

theorem State.etimRun_etimStarted (hn : n < 32) : (s.etimStarted n).etimRun n = true := State.etimRun_etimSetRun _ n hn

theorem State.reg_etimStarted_count (hn : n < 32) : (s.etimStarted n).reg (R.etimCount n) = s.etimLoadOf n := by
  rw [State.etimStarted, State.reg_etimSetRun _ (by simp only [R.etimCount]; omega) (by simp only [R.etimCount, R.etimStat]; omega),
    State.reg_etimLoadCount, if_pos rfl, State.etimLoadOf]

theorem State.reg_etimStarted_ctl (hn : n < 32) : (s.etimStarted n).reg (R.etimCtl n) = s.reg (R.etimCtl n) := by
  rw [State.etimStarted, State.reg_etimSetRun _ (by simp only [R.etimCtl]; omega) (by simp only [R.etimCtl, R.etimStat]; omega),
    State.reg_etimLoadCount, if_neg (by simp only [R.etimCtl, R.etimCount]; omega)]

end

theorem State.reg_etimEnabled (s : State) (n o : Nat) : (s.etimEnabled n).reg o = (s.etimStart n).reg o := rfl

theorem State.etimRun_etimEnabled (s : State) (n m : Nat) : (s.etimEnabled n).etimRun m = (s.etimStart n).etimRun m := rfl

/-! ## Start, cancel and expiry -/

section
variable {s : State} {n : Nat}

theorem State.etimStart_of_stopped (hen : s.fld (R.etimCtl n) F.etimCtl.EN = 1) (hmode : s.etimMode n ≠ 3) (hrun : s.etimRun n = false) :
    s.etimStart n = s.etimStarted n := by
  rw [State.etimStart, if_neg (by simp [State.bit_eq_true hen, hmode]), if_pos (by simp [hrun]), State.etimStarted]

theorem State.etimStart_of_running (hen : s.fld (R.etimCtl n) F.etimCtl.EN = 1) (hmode : s.etimMode n ≠ 3) (hdog : s.etimMode n ≠ 2)
    (hrun : s.etimRun n = true) : s.etimStart n = s.setFld (R.etimStat n) F.etimStat.START_IGN 1 := by
  rw [State.etimStart, if_neg (by simp [State.bit_eq_true hen, hmode]), if_neg (by simp [hrun]), if_neg (by simp [hdog])]

theorem State.etimCancel_of_running (hrun : s.etimRun n = true) :
    s.etimCancel n = if s.etimMode n = 2 then s.etimLoadCount n else s.etimSetRun n 0 := by
  rw [State.etimCancel, if_neg (by simp [hrun])]
  simp only [beq_iff_eq]

/-- A timer whose COUNT has reached 0: FIRED is set and its event is pending. -/
def State.etimFired (s : State) (n : Nat) : State := ((s.setReg (R.etimCount n) 0).setFld (R.etimStat n) F.etimStat.FIRED 1).fire (128 + n)

theorem State.etimFired_regsOnly : (s.fire (128 + n)).regsOnly (s.etimFired n) (timerRegs n) :=
  ((State.regsOnly.refl _ _).setReg 0 etimCount_mem_timerRegs).setFld F.etimStat.FIRED 1 etimStat_mem_timerRegs

theorem State.etimExpire_of_running (hrun : s.etimRun n = true) : s.etimExpire n =
    if s.etimMode n = 1 then (s.etimFired n).etimLoadCount n else (s.etimFired n).etimSetRun n 0 := by
  rw [State.etimExpire, if_neg (by simp [hrun])]
  simp only [beq_iff_eq]
  rfl

theorem etimStat_ne_etimCount : R.etimStat n ≠ R.etimCount n := by simp only [R.etimStat, R.etimCount]; omega

theorem State.fld_etimFired : (s.etimFired n).fld (R.etimStat n) F.etimStat.FIRED = 1 := by
  rw [State.etimFired, State.fld_fire, State.fld_setFld _ _ _ _ (by decide)]
  rfl

theorem State.etimRun_etimFired (hrun : s.etimRun n = true) : (s.etimFired n).etimRun n = true := by
  rw [State.etimRun, State.bit, State.etimFired, State.fld_fire, State.fld_setFld_apart _ _ _ _ _ (by decide) (by decide) (by decide),
    State.fld_setReg_ne _ _ _ _ _ etimStat_ne_etimCount]
  exact hrun

theorem State.reg_etimFired {o : Nat} (hstat : o ≠ R.etimStat n) (hcount : o ≠ R.etimCount n) : (s.etimFired n).reg o = s.reg o := by
  rw [State.etimFired, State.reg_fire, State.reg_setFld_ne _ _ _ _ _ hstat, State.reg_setReg_ne _ _ _ _ hcount]

theorem State.reg_etimFired_count : (s.etimFired n).reg (R.etimCount n) = 0 := by
  rw [State.etimFired, State.reg_fire, State.reg_setFld_ne _ _ _ _ _ etimStat_ne_etimCount.symm, State.reg_setReg_same]

theorem State.etimLoadOf_etimFired : (s.etimFired n).etimLoadOf n = s.etimLoadOf n := by
  have hload : (s.etimFired n).reg (R.etimLoad n) = s.reg (R.etimLoad n) :=
    State.reg_etimFired (by simp only [R.etimLoad, R.etimStat]; omega) (by simp only [R.etimLoad, R.etimCount]; omega)
  rw [State.etimLoadOf, State.etimLoadOf, hload]

theorem State.reg_etimLoadCount_count (s : State) (n : Nat) : (s.etimLoadCount n).reg (R.etimCount n) = s.etimLoadOf n := by
  rw [State.reg_etimLoadCount, if_pos rfl, State.etimLoadOf]

end

/-! ## Writes of ETIMn_CTL -/

section
variable {s : State} {path : Path} {n : Nat} {w : Word}

theorem Fld.put_etimEn (w : Word) : (F.etimCtl.EN.put w 1).getLsbD 0 = true ∧ (F.etimCtl.EN.put w 0).getLsbD 0 = false := by
  constructor <;> rw [Fld.put_bit _ _ _ _ (by decide) (by decide), if_pos (by decide)] <;> decide

theorem claimantOf_lt (path : Path) : claimantOf path < 256 := by
  cases path <;> simp only [claimantOf] <;> omega

/-- ETIMn_CTL after a write that claims the timer. -/
def State.etimConfigured (s : State) (path : Path) (n : Nat) (w : Word) : State :=
  (s.writeRow path (R.etimCtl n) Row.etimCtl (F.etimCtl.EN.put w 1) false).setOwner (.timer n) (claimantOf path)

theorem State.etimConfigured_sameBut : s.sameBut (s.etimConfigured path n w) [R.etimCtl n] :=
  ((s.sameBut_refl _).writeRow path _ _ (by simp)).setFld _ _ (by simp)

theorem State.fld_etimConfigured_en : (s.etimConfigured path n w).fld (R.etimCtl n) F.etimCtl.EN = 1 := by
  rw [State.etimConfigured, State.setOwner, State.fld_setFld_apart _ _ _ _ _ (by decide) (by decide) (by decide),
    State.fld_writeRow_of_takes _ _ _ _ (by decide) (by decide), Fld.get_put _ _ _ (by decide)]
  rfl

theorem State.fld_etimConfigured_mode : (s.etimConfigured path n w).fld (R.etimCtl n) F.etimCtl.MODE = F.etimCtl.MODE.get w := by
  rw [State.etimConfigured, State.setOwner, State.fld_setFld_apart _ _ _ _ _ (by decide) (by decide) (by decide),
    State.fld_writeRow_of_takes _ _ _ _ (by decide) (by decide), Fld.get_put_apart _ _ _ _ (by decide) (by decide) (by decide)]

theorem State.fld_etimConfigured_owner : (s.etimConfigured path n w).fld (R.etimCtl n) F.etimCtl.OWNER = claimantOf path :=
  (State.fld_setFld _ _ _ _ (by decide)).trans (Nat.mod_eq_of_lt (claimantOf_lt path))

theorem State.etimRun_etimConfigured : (s.etimConfigured path n w).etimRun n = s.etimRun n := by
  rw [State.etimRun, State.bit, State.etimConfigured_sameBut.fld (by simp [R.etimStat, R.etimCtl])]
  rfl

variable (hown : s.owner (.timer n) = 0 ∨ s.owner (.timer n) = claimantOf path) (hrun : s.etimRun n = false)

include hown hrun

theorem State.etimCtlWrite_enable (hen : s.fld (R.etimCtl n) F.etimCtl.EN = 0) (hsel : s.selOn (R.etimStartSel n) = false) :
    s.etimCtlWrite path n (F.etimCtl.EN.put w 1) = (s.etimConfigured path n w).etimEnabled n := by
  have hsel' : (s.etimConfigured path n w).selOn (R.etimStartSel n) = false := by
    rw [State.selOn, State.etimConfigured_sameBut.regsBut _ (by simp [R.etimStartSel, R.etimCtl])]
    exact hsel
  rw [State.etimCtlWrite, if_neg (by tauto), (Fld.put_etimEn w).1, hrun, State.bit_eq_false hen, if_pos rfl]
  exact if_pos (by rw [← State.etimConfigured, hsel']; rfl)

theorem State.etimCtlWrite_disable :
    s.etimCtlWrite path n (F.etimCtl.EN.put w 0) =
      ((s.writeRow path (R.etimCtl n) Row.etimCtl (F.etimCtl.EN.put w 0) false).etimSetRun n 0).setOwner (.timer n) 0 := by
  rw [State.etimCtlWrite, if_neg (by tauto), (Fld.put_etimEn w).2, hrun, if_neg Bool.false_ne_true]

end

section
variable {s : State} (hu : s.usual)
include hu

theorem exec_swEvent {path : Path} (w : Word) (hacc : s.accessible path R.evmSwEv = true) :
    ∃ t, exec (.swEvent path w) s = .next t ∧ t = { s with pulses := t.pulses } ∧
      ∀ ev, ev ∈ t.pulses ↔ ev ∈ s.pulses ∨ ∃ k, k < 8 ∧ w.getLsbD k = true ∧ ev = 248 + k := by
  obtain ⟨hstate, hmem⟩ := State.foldl_fire s (setBits w.toNat 8) (248 + ·)
  have hexec : exec (.swEvent path w) s = State.done ((setBits w.toNat 8).foldl (fun t k => t.fire (248 + k)) s) :=
    congrArg State.done (State.onWrite_of _ _ _ _ hacc)
  refine ⟨_, hexec.trans (State.done_of_endsAlike (l := []) hu (State.endsAlike_of (by rw [hstate])) ?_ (endIgnores_of (by simp))), hstate,
    fun ev => (hmem ev).trans (or_congr_right ?_)⟩
  · exact State.regsBut_of_regs _ (by rw [hstate])
  · simp only [mem_setBits, BitVec.testBit_toNat, and_assoc]

theorem exec_eventMonitorPulse (m : Fin 4) (hsel : s.selOn (R.evmMonSel m) = true) :
    ∃ t, exec (.eventMonitorPulse m) s = .next t ∧ s.sameBut t [R.evmMonCnt m] ∧
      t.reg (R.evmMonCnt m) = satInc (s.reg (R.evmMonCnt m)) := by
  have h := (State.regsOnly.refl s [R.evmMonCnt m]).count (List.mem_singleton_self _)
  have hexec : exec (.eventMonitorPulse m) s = State.done (s.count (R.evmMonCnt m)) := congrArg State.done (if_pos hsel)
  refine ⟨_, hexec.trans (State.done_of_regsOnly hu h (endIgnores_of ?_)), h.sameBut, State.reg_setReg_same _ _ _⟩
  simp only [List.mem_singleton, forall_eq, R.evmMonCnt]
  omega

theorem exec_etimEnable {path : Path} {n : Fin 32} {w : Word} (hacc : s.accessible path (R.etimCtl n) = true)
    (hown : s.owner (.timer n) = 0 ∨ s.owner (.timer n) = claimantOf path) (hrun : s.etimRun n = false)
    (hen : s.fld (R.etimCtl n) F.etimCtl.EN = 0) (hsel : s.selOn (R.etimStartSel n) = false) (hmode : F.etimCtl.MODE.get w ≠ 3) :
    ∃ t, exec (.etimEnable path n w) s = .next t ∧ t = { s with regs := t.regs, eff := t.eff, sys := t.sys } ∧
      t.sys = { s.sys with etimPresc := Table.erase s.sys.etimPresc n, etimNew := addSorted s.sys.etimNew n } ∧
      (∀ off, off ∉ timerRegs n → t.reg off = s.reg off) ∧ t.fld (R.etimCtl n) F.etimCtl.EN = 1 ∧
      t.fld (R.etimCtl n) F.etimCtl.MODE = F.etimCtl.MODE.get w ∧ t.owner (.timer n) = claimantOf path ∧
      t.etimRun n = true ∧ t.reg (R.etimCount n) = s.etimLoadOf n := by
  have hconf := State.etimConfigured_sameBut (s := s) (path := path) (n := n) (w := w)
  have hstart : (s.etimConfigured path n w).etimStart n = (s.etimConfigured path n w).etimStarted n :=
    State.etimStart_of_stopped State.fld_etimConfigured_en (by rw [State.etimMode, State.fld_etimConfigured_mode]; exact hmode)
      (by rw [State.etimRun_etimConfigured]; exact hrun)
  have hmem : [R.etimCtl n] ⊆ timerRegs n := by simpa using etimCtl_mem_timerRegs
  have hsame : (s.prescRestarted n).sameBut ((s.etimConfigured path n w).etimStarted n) (timerRegs n) := by
    have h := (hconf.mono hmem).withSys { s.sys with etimPresc := Table.erase s.sys.etimPresc n }
    refine h.trans (State.regsOnly.sameBut ?_)
    have := State.etimStarted_regsOnly (s.etimConfigured path n w) n
    rw [State.prescRestarted, hconf.sys] at this
    exact this
  have hsys := hsame.sys
  have hbut : State.sameBut { s with sys := { s.sys with etimPresc := Table.erase s.sys.etimPresc n, etimNew := addSorted s.sys.etimNew n } }
      ((s.etimConfigured path n w).etimEnabled n) (timerRegs n) := by
    have h := hsame.withSys { s.sys with etimPresc := Table.erase s.sys.etimPresc n, etimNew := addSorted s.sys.etimNew n }
    rw [State.etimEnabled, hstart, hsys]
    exact h
  have hctl : ∀ f, ((s.etimConfigured path n w).etimEnabled n).fld (R.etimCtl n) f = (s.etimConfigured path n w).fld (R.etimCtl n) f := by
    intro f
    rw [State.fld, State.reg_etimEnabled, hstart, State.reg_etimStarted_ctl _ _ n.isLt, State.fld]
  have hexec : exec (.etimEnable path n w) s = State.done ((s.etimConfigured path n w).etimEnabled n) :=
    congrArg State.done ((State.onWrite_of _ _ _ _ hacc).trans (State.etimCtlWrite_enable hown hrun hen hsel))
  refine ⟨_, hexec.trans (State.done_of_endsAlike hu ?_ hbut.regsBut (endIgnores_timerRegs n)), ?_, hbut.sys, hbut.regsBut,
    (hctl _).trans State.fld_etimConfigured_en, (hctl _).trans State.fld_etimConfigured_mode, (hctl _).trans State.fld_etimConfigured_owner, ?_, ?_⟩
  · have := hbut.endsAlike
    exact ⟨this.work, this.releases, this.sec, this.inbox, this.rails, this.porst, this.resetting⟩
  · rw [hbut.1]
  · rw [State.etimRun_etimEnabled, hstart, State.etimRun_etimStarted _ _ n.isLt]
  · rw [State.reg_etimEnabled, hstart, State.reg_etimStarted_count _ _ n.isLt]
    rw [State.etimLoadOf, State.etimLoadOf, hconf.regsBut _ (by simp [R.etimLoad, R.etimCtl])]

theorem exec_etimDisable {path : Path} {n : Fin 32} {w : Word} (hacc : s.accessible path (R.etimCtl n) = true)
    (hown : s.owner (.timer n) = 0 ∨ s.owner (.timer n) = claimantOf path) (hrun : s.etimRun n = false) :
    ∃ t, exec (.etimDisable path n w) s = .next t ∧ s.sameBut t (timerRegs n) ∧ t.fld (R.etimCtl n) F.etimCtl.EN = 0 ∧
      t.owner (.timer n) = 0 ∧ t.etimRun n = false ∧ t.reg (R.etimCount n) = s.reg (R.etimCount n) := by
  obtain ⟨x, hx⟩ : ∃ x, s.writeRow path (R.etimCtl n) Row.etimCtl (F.etimCtl.EN.put w 0) false = x := ⟨_, rfl⟩
  have hexec : exec (.etimDisable path n w) s = State.done ((x.etimSetRun n 0).setOwner (.timer n) 0) := by
    rw [← hx]
    exact congrArg State.done ((State.onWrite_of _ _ _ _ hacc).trans (State.etimCtlWrite_disable hown hrun))
  have hwrite : s.sameBut x [R.etimCtl n] := hx ▸ (s.sameBut_refl _).writeRow path _ _ (by simp)
  have hsame : s.sameBut ((x.etimSetRun n 0).setOwner (.timer n) 0) (timerRegs n) :=
    ((hwrite.mono (by simpa using etimCtl_mem_timerRegs)).trans (x.etimSetRun_regsOnly 0).sameBut).setFld _ _ etimCtl_mem_timerRegs
  have hctl : (x.etimSetRun n 0).reg (R.etimCtl n) = x.reg (R.etimCtl n) :=
    x.reg_etimSetRun (by simp only [R.etimCtl]; omega) (by simp only [R.etimCtl, R.etimStat]; omega)
  have hcount : (x.etimSetRun n 0).reg (R.etimCount n) = s.reg (R.etimCount n) :=
    (x.reg_etimSetRun (by simp only [R.etimCount]; omega) (by simp only [R.etimCount, R.etimStat]; omega)).trans
      (hwrite.regsBut _ (by simp [R.etimCount, R.etimCtl]))
  refine ⟨_, hexec.trans (State.done_of_regs hu hsame (endIgnores_timerRegs n)), hsame, ?_, ?_, ?_, ?_⟩
  · rw [State.setOwner, State.fld_setFld_apart _ _ _ _ _ (by decide) (by decide) (by decide), State.fld, hctl, ← State.fld, ← hx,
      State.fld_writeRow_of_takes _ _ _ _ (by decide) (by decide), Fld.get_put _ _ _ (by decide)]
    rfl
  · rw [State.owner, State.setOwner, State.fld_setFld _ _ _ _ (by decide)]
    rfl
  · rw [State.etimRun, State.setOwner, State.bit, State.fld_setFld_ne _ _ _ _ _ _ (by simp only [R.etimStat, R.etimCtl]; omega),
      ← State.bit, ← State.etimRun, State.etimRun_etimSetRun_stop _ n.isLt]
  · rw [State.setOwner, State.reg_setFld_ne _ _ _ _ _ (by simp only [R.etimCount, R.etimCtl]; omega), hcount]

theorem exec_etimDisable_foreign {path : Path} {n : Fin 32} {w : Word} (hacc : s.accessible path (R.etimCtl n) = true)
    (hheld : s.owner (.timer n) ≠ 0) (hother : s.owner (.timer n) ≠ claimantOf path) :
    ∃ t, exec (.etimDisable path n w) s = .next t ∧ t.fld R.sysErrStat F.sysErrStat.CLAIM = 1 ∧
      s.sameBut t [R.sysErrAddr, R.sysErrStat, R.sysClaimErrCnt] ∧ t.reg R.sysClaimErrCnt = satInc (s.reg R.sysClaimErrCnt) := by
  have hexec : exec (.etimDisable path n w) s = State.done ((s.errClaim path (R.etimCtl n)).count R.sysClaimErrCnt) := by
    refine congrArg State.done ((State.onWrite_of _ _ _ _ hacc).trans ?_)
    rw [State.etimCtlWrite, if_pos ⟨hheld, hother⟩, (Fld.put_etimEn w).2, State.foreignWrite_unrecorded]
  have herr : s.sameBut (s.errClaim path (R.etimCtl n)) [R.sysErrAddr, R.sysErrStat] := s.err_sameBut _ _ _
  have hsame : s.sameBut ((s.errClaim path (R.etimCtl n)).count R.sysClaimErrCnt) [R.sysErrAddr, R.sysErrStat, R.sysClaimErrCnt] :=
    (herr.mono (by simp)).count (by simp)
  refine ⟨_, hexec.trans (State.done_of_regs hu hsame (endIgnores_of (by decide))), ?_, hsame, ?_⟩
  · rw [State.count, State.fld_setReg_ne _ _ _ _ _ (by decide), State.errClaim, State.fld_err_same _ _ _ _ (by decide) rfl]
  · rw [State.reg_count, if_pos rfl, herr.regsBut _ (by decide)]

section
variable (n : Fin 32)

theorem State.done_of_presc {t : State} (h : (s.prescRestarted n).regsOnly t (timerRegs n)) : State.done t = .next t :=
  State.done_of_regsOnly (State.usual_prescRestarted n hu) h (endIgnores_timerRegs n)

theorem exec_etimStartEvent_stopped (hen : s.fld (R.etimCtl n) F.etimCtl.EN = 1) (hmode : s.etimMode n ≠ 3) (hrun : s.etimRun n = false) :
    exec (.etimStartEvent n) s = .next (if s.selOn (R.etimStartSel n) then s.etimStarted n else s) := by
  have hexec : exec (.etimStartEvent n) s = State.done (if s.selOn (R.etimStartSel n) then s.etimStarted n else s) := by
    rw [← State.etimStart_of_stopped hen hmode hrun]
    rfl
  rw [hexec]
  split
  · exact State.done_of_presc hu n (s.etimStarted_regsOnly n)
  · exact State.done_of_usual hu

theorem exec_etimStartEvent_running (hen : s.fld (R.etimCtl n) F.etimCtl.EN = 1) (hmode : s.etimMode n ≠ 3) (hrun : s.etimRun n = true)
    (hdog : s.etimMode n ≠ 2) (hsel : s.selOn (R.etimStartSel n) = true) :
    ∃ t, exec (.etimStartEvent n) s = .next t ∧ s.sameBut t [R.etimStat n] ∧
      t.fld (R.etimStat n) F.etimStat.START_IGN = 1 ∧ t.etimRun n = true := by
  have hexec : exec (.etimStartEvent n) s = State.done (s.setFld (R.etimStat n) F.etimStat.START_IGN 1) :=
    congrArg State.done ((if_pos hsel).trans (State.etimStart_of_running hen hmode hdog hrun))
  have h := (State.regsOnly.refl s [R.etimStat n]).setFld F.etimStat.START_IGN 1 (List.mem_singleton_self _)
  refine ⟨_, hexec.trans (State.done_of_regsOnly hu h (endIgnores_of ?_)), h.sameBut, State.fld_setFld _ _ _ _ (by decide), ?_⟩
  · simp only [List.mem_singleton, forall_eq, R.etimStat]
    omega
  · rw [State.etimRun, State.bit, State.fld_setFld_apart _ _ _ _ _ (by decide) (by decide) (by decide)]
    exact hrun

variable (hrun : s.etimRun n = true)
include hrun

theorem exec_etimCancelEvent_timer (hsel : s.selOn (R.etimCancelSel n) = true) (hdog : s.etimMode n ≠ 2) :
    ∃ t, exec (.etimCancelEvent n) s = .next t ∧ s.sameBut t (timerRegs n) ∧ t.etimRun n = false ∧
      t.reg (R.etimCount n) = s.reg (R.etimCount n) ∧ t.reg (R.etimCtl n) = s.reg (R.etimCtl n) := by
  have hexec : exec (.etimCancelEvent n) s = State.done (s.etimSetRun n 0) :=
    congrArg State.done ((if_pos hsel).trans ((State.etimCancel_of_running hrun).trans (if_neg hdog)))
  have h := s.etimSetRun_regsOnly (n := n) 0
  exact ⟨_, hexec.trans (State.done_of_regsOnly hu h (endIgnores_timerRegs n)), h.sameBut, s.etimRun_etimSetRun_stop n.isLt,
    s.reg_etimSetRun (by simp only [R.etimCount]; omega) (by simp only [R.etimCount, R.etimStat]; omega),
    s.reg_etimSetRun (by simp only [R.etimCtl]; omega) (by simp only [R.etimCtl, R.etimStat]; omega)⟩

theorem exec_etimCancelEvent_watchdog (hsel : s.selOn (R.etimCancelSel n) = true) (hdog : s.etimMode n = 2) :
    ∃ t, exec (.etimCancelEvent n) s = .next t ∧ t.reg (R.etimCount n) = s.etimLoadOf n ∧
      (∀ off, off ≠ R.etimCount n → t.reg off = s.reg off) ∧
      t = { s with regs := t.regs, sys := { s.sys with etimPresc := Table.erase s.sys.etimPresc n } } := by
  have hexec : exec (.etimCancelEvent n) s = State.done (s.etimLoadCount n) :=
    congrArg State.done ((if_pos hsel).trans ((State.etimCancel_of_running hrun).trans (if_pos hdog)))
  have h := s.regsOnly_countLoaded n etimCount_mem_timerRegs
  exact ⟨_, hexec.trans (State.done_of_presc hu n h), s.reg_etimLoadCount_count n,
    fun off ho => (s.reg_etimLoadCount n off).trans (if_neg ho), h.1⟩

theorem exec_etimExpiry :
    ∃ t, exec (.etimExpiry n) s = .next t ∧ t = { s with regs := t.regs, pulses := addSorted s.pulses (128 + n), sys := t.sys } ∧
      (∀ off, off ∉ timerRegs n → t.reg off = s.reg off) ∧ t.fld (R.etimStat n) F.etimStat.FIRED = 1 ∧
      (s.etimMode n = 1 → t.reg (R.etimCount n) = s.etimLoadOf n ∧ t.etimRun n = true) ∧
      (s.etimMode n ≠ 1 → t.reg (R.etimCount n) = 0 ∧ t.etimRun n = false ∧ t.sys = s.sys) := by
  have hexec : exec (.etimExpiry n) s = State.done (s.etimExpire n) := rfl
  rw [hexec, State.etimExpire_of_running hrun]
  have hufire : (s.fire (128 + n)).usual := State.usual_fire _ hu
  have hfired := State.etimFired_regsOnly (s := s) (n := n)
  by_cases hmode : s.etimMode n = 1
  · rw [if_pos hmode]
    have hsys : (s.etimFired n).sys = (s.fire (128 + n)).sys := hfired.sys
    have h : ((s.fire (128 + n)).prescRestarted n).regsOnly ((s.etimFired n).etimLoadCount n) (timerRegs n) := by
      refine .trans ?_ ((s.etimFired n).regsOnly_countLoaded n etimCount_mem_timerRegs)
      rw [State.prescRestarted, State.prescRestarted, hsys]
      exact hfired.withSys _
    refine ⟨_, State.done_of_presc hufire n h, h.1.trans ?_, h.2, ?_, fun _ => ⟨?_, ?_⟩, fun hne => absurd hmode hne⟩
    · rw [h.1]
      rfl
    · rw [State.fld, State.reg_etimLoadCount, if_neg etimStat_ne_etimCount, ← State.fld, State.fld_etimFired]
    · rw [State.reg_etimLoadCount_count, State.etimLoadOf_etimFired]
    · rw [State.etimRun_etimLoadCount, State.etimRun_etimFired hrun]
  · rw [if_neg hmode]
    have h := hfired.trans ((s.etimFired n).etimSetRun_regsOnly 0)
    refine ⟨_, State.done_of_regsOnly hufire h (endIgnores_timerRegs n), h.1.trans (by rw [h.1]; rfl), h.2, ?_, fun he => absurd he hmode,
      fun _ => ⟨?_, State.etimRun_etimSetRun_stop _ n.isLt, h.sys⟩⟩
    · rw [State.fld_etimSetRun_etimStat _ n.isLt _ _ (by decide) (by decide), State.fld_etimFired]
    · rw [State.reg_etimSetRun _ (by simp only [R.etimCount]; omega) etimStat_ne_etimCount.symm, State.reg_etimFired_count]

end

end

/-- Settles O7: each event of the event matrix and the timers by its own rule. -/
theorem eventsAndTimers : Obligations.EventsAndTimers := by
  unfold Obligations.EventsAndTimers
  intro s hu
  refine ⟨fun path w hacc => exec_swEvent hu w hacc, fun m hsel => exec_eventMonitorPulse hu m hsel, fun n => ?_⟩
  refine ⟨fun path w hacc hown hrun => ⟨fun hen hsel hmode => exec_etimEnable hu hacc hown hrun hen hsel hmode,
      exec_etimDisable hu hacc hown hrun⟩,
    fun path w hacc hheld hother => exec_etimDisable_foreign hu hacc hheld hother,
    fun hen hmode => ⟨fun hrun => ?_, fun hrun hdog hsel => exec_etimStartEvent_running hu n hen hmode hrun hdog hsel⟩,
    fun hrun hsel => ⟨exec_etimCancelEvent_timer hu n hrun hsel, exec_etimCancelEvent_watchdog hu n hrun hsel⟩,
    fun hrun => exec_etimExpiry hu n hrun⟩
  have h := s.etimStarted_regsOnly n
  exact ⟨_, exec_etimStartEvent_stopped hu n hen hmode hrun, h.2, s.etimRun_etimStarted _ n.isLt, s.reg_etimStarted_count _ n.isLt, h.1⟩

end Sys2Proof.Machine

/-!
The patrol scrubber (R37) and the distance of the SEC-DED code (R429).
-/
namespace Sys2Proof.Machine

/-! ## The code's distance -/

/-- Flipping bits changes the number of ones by as many, up to an even number. -/
theorem length_filter_testBit_xor (v w : Nat) (l : List Nat) :
    (l.filter (fun i => (v ^^^ w).testBit i)).length % 2 =
      ((l.filter (fun i => v.testBit i)).length + (l.filter (fun i => w.testBit i)).length) % 2 := by
  induction l with
  | nil => rfl
  | cons i l ih =>
    cases hv : v.testBit i <;> cases hw : w.testBit i <;> simp [Nat.testBit_xor, hv, hw] at ih ⊢ <;> omega

theorem weight9_xor (v w : Nat) : weight9 (v ^^^ w) % 2 = (weight9 v + weight9 w) % 2 := length_filter_testBit_xor v w _

/-- Every bit of a word contributes an odd number of ones to the syndrome. -/
theorem weight9_eccBit : ∀ i < 137, weight9 (eccBit i) % 2 = 1 := by decide +kernel

theorem weight9_eccColumns : ∀ c ∈ eccColumns, weight9 c % 2 = 1 := by decide +kernel

theorem weight9_pow : ∀ j < 9, weight9 (2 ^ j) % 2 = 1 := by decide +kernel

theorem eccBit_nodup : ((List.range 137).map eccBit).Nodup := by decide +kernel

theorem eccBit_ne {i j : Nat} (hij : i < j) (hj : j < 137) : eccBit i ≠ eccBit j := by
  intro h
  have := List.inj_on_of_nodup_map eccBit_nodup (List.mem_range.mpr (hij.trans hj)) (List.mem_range.mpr hj) h
  omega

/-- A syndrome that is not zero and has an even number of ones belongs to no single bit, and is not that of a poisoned word. -/
theorem eccDecode_of_even {v : Nat} (hne : v ≠ 0) (heven : weight9 v % 2 = 0) : eccDecode v = .uncorrectable := by
  have hodd : ∀ c, weight9 c % 2 = 1 → v ≠ c := fun c hc h => by rw [h, hc] at heven; cases heven
  have hcheck : (List.range 9).find? (fun j => v == 2 ^ j) = none :=
    List.find?_eq_none.mpr fun j hj => by simpa using hodd _ (weight9_pow j (List.mem_range.mp hj))
  have hdata : eccColumns.findIdx? (fun c => c == v) = none :=
    List.findIdx?_eq_none_iff.mpr fun c hc => by simpa using (hodd c (weight9_eccColumns c hc)).symm
  rw [eccDecode, if_neg hne, if_neg (hodd 0x1FF (by decide)), hcheck, hdata]

theorem eccSyndrome_single (i : Nat) : eccSyndrome 0 [i] = eccBit i := Nat.zero_xor _

/-- One flipped bit is found (R429). -/
theorem eccDecode_single : ∀ i < 137, eccDecode (eccSyndrome 0 [i]) = .correct i := by decide +kernel

/-- Two flipped bits are reported (R429). -/
theorem eccDecode_pair {i j : Nat} (hij : i < j) (hj : j < 137) : eccDecode (eccSyndrome 0 [i, j]) = .uncorrectable := by
  have hsyn : eccSyndrome 0 [i, j] = eccBit i ^^^ eccBit j := congrArg (· ^^^ eccBit j) (Nat.zero_xor _)
  refine hsyn ▸ eccDecode_of_even (fun h => eccBit_ne hij hj (Nat.xor_eq_zero_iff.mp h)) ?_
  have hi := weight9_eccBit i (hij.trans hj)
  have hj := weight9_eccBit j hj
  rw [weight9_xor]
  omega

/-! ## Reads that decode -/

section
variable (s : State) (a i : Nat)

/-- Flipping a bit twice restores every byte. -/
theorem State.byte_flipBit_flipBit (t : State) (hmem : t.mem = (s.flipBit a i).mem) (k : Nat) : (t.flipBit a i).byte k = s.byte k := by
  have ht : t.byte k = (s.flipBit a i).byte k := by rw [State.byte, hmem, State.byte]
  by_cases hi : i < 128
  · have ha : t.byte (a + i / 8) = (s.flipBit a i).byte (a + i / 8) := by rw [State.byte, hmem, State.byte]
    rw [State.flipBit, if_pos hi] at ht ha ⊢
    rw [State.byte_setByte, ha, State.byte_setByte, if_pos rfl, ht, State.byte_setByte, BitVec.xor_assoc, BitVec.xor_self,
      BitVec.xor_zero]
    split
    · next h => rw [h]
    · rfl
  · rw [State.flipBit, if_neg hi] at ht ⊢
    exact ht

theorem State.flipBit_mem_only : s.flipBit a i = { s with mem := (s.flipBit a i).mem } := by
  rw [State.flipBit]
  split <;> rfl

/-- A read of a word without flips and poison changes nothing. -/
theorem State.eccRead_of_clean (herr : s.sys.bitErrs = []) (hpoison : s.sys.poison = []) : s.eccRead a = s := by
  have hclear : ∀ w, s.clearErrs w = s := fun w => by
    rw [State.clearErrs, herr, show Table.erase ([] : Table (List Nat)) w = [] from rfl, ← herr]
  have hset : ∀ w, s.setPoison w false = s := fun w => by
    rw [State.setPoison, if_neg Bool.false_ne_true, hpoison, List.filter_nil, ← hpoison]
  have hclean : s.poisoned (a / 16 * 16) = false := by rw [State.poisoned, hpoison]; rfl
  rw [State.eccRead, herr, hclean, show Table.get (fun _ => []) ([] : Table (List Nat)) (a / 16 * 16) = [] from rfl, List.foldl_nil,
    show eccDecode (eccSyndrome (if false = true then 0x1FF else 0) []) = .clean from rfl, hclear]
  exact hset _

/-- The state after the repair of one flipped bit. -/
def State.repaired : State :=
  (((((s.flipBit a i).clearErrs a).flipBit a i).setPoison a false).count R.sysEccCeCnt).setFld R.sysEccStat F.sysEccStat.CE 1

theorem State.eccRead_of_single (ha : a / 16 * 16 = a) (hi : i < 137) (herr : s.sys.bitErrs = [(a, [i])]) (hpoison : s.sys.poison = []) :
    s.eccRead a = s.repaired a i := by
  have hclean : s.poisoned a = false := by rw [State.poisoned, hpoison]; rfl
  rw [State.eccRead, ha, herr, hclean, show Table.get (fun _ => []) [(a, [i])] a = [i] from if_pos rfl, if_neg Bool.false_ne_true,
    eccDecode_single i hi]
  rfl

theorem State.byte_repaired (k : Nat) : (s.repaired a i).byte k = s.byte k := State.byte_flipBit_flipBit s a i ((s.flipBit a i).clearErrs a) rfl k

theorem State.regs_flips : ((((s.flipBit a i).clearErrs a).flipBit a i).setPoison a false).regs = s.regs := by
  have hregs : ∀ t : State, (t.flipBit a i).regs = t.regs := fun t => by rw [t.flipBit_mem_only]
  exact (hregs _).trans (hregs s)

theorem State.repaired_frame : s.repaired a i = { s with
    regs := (s.repaired a i).regs, mem := (s.repaired a i).mem, sys := ((((s.flipBit a i).clearErrs a).flipBit a i).setPoison a false).sys } := by
  have hflip : ((s.flipBit a i).clearErrs a).flipBit a i =
      { (s.flipBit a i).clearErrs a with mem := (((s.flipBit a i).clearErrs a).flipBit a i).mem } := State.flipBit_mem_only _ a i
  rw [State.repaired, hflip, s.flipBit_mem_only]
  rfl

theorem State.sys_repaired (herr : s.sys.bitErrs = [(a, [i])]) (hpoison : s.sys.poison = []) :
    (s.repaired a i).sys = { s.sys with bitErrs := [] } := by
  have hsys : ∀ t : State, (t.flipBit a i).sys = t.sys := fun t => by rw [t.flipBit_mem_only]
  have hflip : ((s.flipBit a i).clearErrs a).sys = { s.sys with bitErrs := [] } := by
    rw [State.clearErrs, hsys, herr, show Table.erase [(a, [i])] a = [] from if_pos rfl]
  calc (s.repaired a i).sys = ((((s.flipBit a i).clearErrs a).flipBit a i).setPoison a false).sys := rfl
    _ = { s.sys with bitErrs := [] } := by
      rw [State.setPoison, if_neg Bool.false_ne_true, hsys, hflip, hpoison, List.filter_nil]
      simp only [← hpoison]

theorem State.regsBut_repaired : s.regsBut (s.repaired a i) [R.sysEccCeCnt, R.sysEccStat] :=
  ((State.regsBut_of_regs _ (s.regs_flips a i)).count (by simp)).setFld _ _ (by simp)

theorem State.reg_repaired_count : (s.repaired a i).reg R.sysEccCeCnt = satInc (s.reg R.sysEccCeCnt) := by
  rw [State.repaired, State.reg_setFld_ne _ _ _ _ _ (by decide), State.reg_count, if_pos rfl, State.reg_of_regs s _ (s.regs_flips a i)]

theorem State.fld_repaired_ce : (s.repaired a i).fld R.sysEccStat F.sysEccStat.CE = 1 := by
  rw [State.repaired, State.fld_setFld _ _ _ _ (by decide)]
  rfl

end

/-! ## The scrubber -/

theorem scrubAddress_aligned (k : Nat) : scrubAddress k / 16 * 16 = scrubAddress k := by
  have hpage : pageBase % 16 = 0 := by decide
  rw [scrubAddress]
  split <;> omega

/-- SYS after the scrubber has gone on by one word, with the flips of the word read. -/
def Sys.scrubbed (y : Sys) (errs : Table (List Nat)) : Sys := { y with scrubPos := (y.scrubPos + 1) % scrubWords, bitErrs := errs }

section
variable {s : State} (hen : s.fld R.sysScrubCtl F.sysScrubCtl.EN = 1) (herr : s.sys.bitErrs = [])
  (hok : s.memOk (scrubAddress s.sys.scrubPos) = true)
include hen herr hok

theorem exec_patrolScrubRead (flips : List Nat) (errs : Table (List Nat))
    (hset : Table.set (fun _ => []) [] (scrubAddress s.sys.scrubPos) (flips.filter (fun i => decide (i < 137))) = errs) :
    exec (.patrolScrubRead flips) s = State.done (State.eccRead { s with sys := s.sys.scrubbed errs } (scrubAddress s.sys.scrubPos)) := by
  have hexec : exec (.patrolScrubRead flips) s = State.done (State.eccRead
      { s with sys := s.sys.scrubbed (Table.set (fun _ => []) s.sys.bitErrs (scrubAddress s.sys.scrubPos)
          (Table.get (fun _ => []) s.sys.bitErrs (scrubAddress s.sys.scrubPos) ++ flips.filter (fun i => decide (i < 137)))) }
      (scrubAddress s.sys.scrubPos)) :=
    (if_pos (State.bit_eq_true hen)).trans (congrArg State.done (if_pos hok))
  rw [hexec, herr, ← hset]
  rfl

end

/-- Settles O8: the scrubber's read by the decoded syndrome, and the code's distance by the parity of its columns. -/
theorem scrubRepairsSingleBits : Obligations.ScrubRepairsSingleBits := by
  unfold Obligations.ScrubRepairsSingleBits
  refine ⟨fun s i hu hen herr hpoison hok => ⟨?_, fun hi => ?_⟩, fun i j hij hj => ⟨eccDecode_single i (hij.trans hj), eccDecode_pair hij hj⟩⟩
  · have hsys : s.sys.scrubbed [] = { s.sys with scrubPos := (s.sys.scrubPos + 1) % scrubWords } := by rw [Sys.scrubbed, ← herr]
    rw [exec_patrolScrubRead hen herr hok [] [] rfl, State.eccRead_of_clean { s with sys := s.sys.scrubbed [] } _ rfl hpoison, hsys]
    exact State.done_of_endsAlike (l := []) hu ⟨rfl, rfl, rfl, rfl, rfl, rfl, rfl⟩ (State.regsBut_of_regs _ rfl) (endIgnores_of (by simp))
  · obtain ⟨a, ha⟩ : ∃ a, scrubAddress s.sys.scrubPos = a := ⟨_, rfl⟩
    have haligned : a / 16 * 16 = a := ha ▸ scrubAddress_aligned _
    have hset : Table.set (fun _ => []) [] a ([i].filter (fun i => decide (i < 137))) = [(a, [i])] := by
      rw [List.filter_cons_of_pos (by simpa using hi), List.filter_nil]
      rfl
    have hexec := exec_patrolScrubRead hen herr hok [i] [(a, [i])] (by rw [ha, hset])
    obtain ⟨u, hu'⟩ : ∃ u : State, { s with sys := s.sys.scrubbed [(a, [i])] } = u := ⟨_, rfl⟩
    have husys : u.sys = s.sys.scrubbed [(a, [i])] := by rw [← hu']
    rw [ha, hu', State.eccRead_of_single u a i haligned hi (by rw [husys]; rfl) (by rw [husys]; exact hpoison)] at hexec
    have hsys : (u.repaired a i).sys = { s.sys with scrubPos := (s.sys.scrubPos + 1) % scrubWords } := by
      rw [State.sys_repaired u a i (by rw [husys]; rfl) (by rw [husys]; exact hpoison), husys, Sys.scrubbed]
      simp only [← herr]
    have hframe : u.repaired a i = { s with regs := (u.repaired a i).regs, mem := (u.repaired a i).mem, sys := (u.repaired a i).sys } := by
      have h := u.repaired_frame a i
      rw [← hu'] at h ⊢
      exact h
    have hregs : ∀ off, u.reg off = s.reg off := fun off => by rw [← hu']; rfl
    have hbut : s.regsBut (u.repaired a i) [R.sysEccCeCnt, R.sysEccStat] := fun off ho => (u.regsBut_repaired a i off ho).trans (hregs off)
    refine ⟨_, hexec.trans (State.done_of_endsAlike hu ?_ hbut (endIgnores_of (by decide))), fun k => ?_, hsys, hframe, ?_,
      u.fld_repaired_ce a i, hbut⟩
    · exact ⟨by rw [hframe], by rw [hframe], by rw [hframe], by rw [hframe]; rfl, by rw [hsys], by rw [hsys], by rw [hsys]⟩
    · rw [State.byte_repaired, ← hu']
      rfl
    · rw [State.reg_repaired_count, hregs]

end Sys2Proof.Machine

/-!
GPIO pins (R62-R64) and the boundary scan (R65).
-/
namespace Sys2Proof.Machine

/-! ## The high time of event outputs -/

/-- `s` with the pins whose high time runs. -/
def State.withHigh (s : State) (l : List Nat) : State := { s with sys := { s.sys with gpioHigh := l } }

section
variable {s : State} {l : List Nat}

theorem State.gpioHigh_withHigh : (s.withHigh l).sys.gpioHigh = l := rfl

/-- A pin's level depends on no other pin's high time. -/
theorem State.drivenLevel_withHigh {m : Nat} (h : l.contains m = s.sys.gpioHigh.contains m) :
    (s.withHigh l).drivenLevel m = s.drivenLevel m := by
  rw [State.drivenLevel, State.drivenLevel, State.gpioHigh_withHigh, h]
  rfl

/-- An event output is high for its high time (Table 2-4). -/
theorem State.drivenLevel_of_eventPin {n : Nat} (h : s.eventPin n = true) : s.drivenLevel n = some (s.sys.gpioHigh.contains n) := by
  simp only [State.eventPin, Bool.and_eq_true, beq_iff_eq] at h
  obtain ⟨⟨hen, hfunc⟩, hmode⟩ := h
  rw [State.drivenLevel, hfunc, hen, hmode]
  rfl

theorem contains_addSorted_self (n : Nat) : (addSorted l n).contains n = true := by
  rw [List.contains_iff_mem, mem_addSorted]
  exact .inr rfl

theorem contains_addSorted_of_ne {n m : Nat} (h : m ≠ n) : (addSorted l n).contains m = l.contains m := by
  rw [Bool.eq_iff_iff, List.contains_iff_mem, List.contains_iff_mem, mem_addSorted]
  simp [h]

theorem contains_filter_self (n : Nat) : (l.filter (fun m => m != n)).contains n = false := by
  rw [Bool.eq_false_iff, ne_eq, List.contains_iff_mem, List.mem_filter]
  simp

theorem contains_filter_of_ne {n m : Nat} (h : m ≠ n) : (l.filter (fun k => k != n)).contains m = l.contains m := by
  rw [Bool.eq_iff_iff, List.contains_iff_mem, List.contains_iff_mem, List.mem_filter]
  simp [h]

/-- A command that changes nothing but SYS's own state, and there nothing of the resets, ends with its effect. -/
theorem State.done_of_sys {y : Sys} (hu : s.usual) (hrails : y.railsBad = s.sys.railsBad) (hporst : y.porstLow = s.sys.porstLow)
    (hreset : y.resetting = s.sys.resetting) : State.done { s with sys := y } = .next { s with sys := y } :=
  State.done_of_endsAlike (l := []) hu ⟨rfl, rfl, rfl, rfl, hrails, hporst, hreset⟩ (State.regsBut_of_regs _ rfl) (endIgnores_of (by simp))

end

section
variable {s : State} (hu : s.usual) (n : Fin 16)
include hu

theorem State.done_withHigh (l : List Nat) : State.done (s.withHigh l) = .next (s.withHigh l) := State.done_of_sys hu rfl rfl rfl

/-! ## Pins -/

theorem exec_gpioEventOutput (h : s.eventPin n = true) :
    ∃ t, exec (.gpioEventOutput n) s = .next t ∧ t.drivenLevel n = some true ∧
      (∀ m : Fin 16, m ≠ n → t.drivenLevel m = s.drivenLevel m) ∧ t = { s with sys := { s.sys with gpioHigh := t.sys.gpioHigh } } := by
  have hexec : exec (.gpioEventOutput n) s = State.done (s.withHigh (addSorted s.sys.gpioHigh n)) := congrArg State.done (if_pos h)
  refine ⟨_, hexec.trans (State.done_withHigh hu _), ?_, fun m hm => ?_, rfl⟩
  · have hpin : (s.withHigh (addSorted s.sys.gpioHigh n)).eventPin n = true := h
    rw [State.drivenLevel_of_eventPin hpin, State.gpioHigh_withHigh, contains_addSorted_self]
  · exact State.drivenLevel_withHigh (contains_addSorted_of_ne (fun e => hm (Fin.ext e)))

theorem exec_gpioPulseEnd :
    ∃ t, exec (.gpioPulseEnd n) s = .next t ∧ (s.eventPin n = true → t.drivenLevel n = some false) ∧
      (∀ m : Fin 16, m ≠ n → t.drivenLevel m = s.drivenLevel m) ∧ t = { s with sys := { s.sys with gpioHigh := t.sys.gpioHigh } } := by
  have hexec : exec (.gpioPulseEnd n) s = State.done (s.withHigh (s.sys.gpioHigh.filter (fun m => m != n.val))) := rfl
  refine ⟨_, hexec.trans (State.done_withHigh hu _), fun h => ?_, fun m hm => ?_, rfl⟩
  · have hpin : (s.withHigh (s.sys.gpioHigh.filter (fun m => m != n.val))).eventPin n = true := h
    rw [State.drivenLevel_of_eventPin hpin, State.gpioHigh_withHigh, contains_filter_self]
  · exact State.drivenLevel_withHigh (contains_filter_of_ne (fun e => hm (Fin.ext e)))

/-- `s` with the level that the board drives on pin n. -/
def State.withBoard (s : State) (n : Nat) (level : Option Bool) : State :=
  { s with sys := { s.sys with gpioExt := Table.set (fun _ => none) s.sys.gpioExt n level } }

omit hu in
theorem State.boardLevel_withBoard (level : Option Bool) (m : Nat) :
    (s.withBoard n level).boardLevel m = if m = n then level else s.boardLevel m := Table.get_set _ _ _ _ _

omit hu in
theorem State.pinLevel_of_board {v : Bool} {n : Nat} (hdriven : s.drivenLevel n = none) (hboard : s.boardLevel n = some v) :
    (s.pinLevel n).1 = v := by rw [State.pinLevel, hdriven, hboard]

theorem State.done_withBoard (level : Option Bool) : State.done (s.withBoard n level) = .next (s.withBoard n level) :=
  State.done_of_sys hu rfl rfl rfl

theorem exec_gpioInputChange (level : Option Bool) :
    ∃ t, exec (.gpioInputChange n level) s = .next t ∧ t.boardLevel n = level ∧ (∀ m, m ≠ n.val → t.boardLevel m = s.boardLevel m) ∧
      t = { s with sys := { s.sys with gpioExt := t.sys.gpioExt } } ∧
      (∀ v, level = some v → s.drivenLevel n = none → (t.pinLevel n).1 = v) := by
  have hexec : exec (.gpioInputChange n level) s = State.done (s.withBoard n level) := rfl
  refine ⟨_, hexec.trans (State.done_withBoard hu n level), ?_, fun m hm => ?_, rfl, fun v hv hdriven => ?_⟩
  · rw [State.boardLevel_withBoard, if_pos rfl]
  · rw [State.boardLevel_withBoard, if_neg hm]
  · have hdriven' : (s.withBoard n level).drivenLevel n = none := hdriven
    exact State.pinLevel_of_board hdriven' (by rw [State.boardLevel_withBoard, if_pos rfl, hv])

/-! ## Writes of SYS.GPIOn_CFG -/

variable {path : Path} {w : Word} (hacc : s.accessible path (R.sysGpioCfg n) = true)
  (hown : s.owner (.pin n 1) = 0 ∨ s.owner (.pin n 1) = claimantOf path)

omit hu in
theorem endIgnores_sysGpioCfg : endIgnores [R.sysGpioCfg n] := by
  refine endIgnores_of ?_
  simp only [List.mem_singleton, forall_eq, R.sysGpioCfg]
  omega

omit hu in
/-- The fields of a pin's register after its holder is set, other than OWNER and FUNC. -/
theorem State.fld_setOwner_pin (t : State) (who : Nat) {g : Fld} (hg : g.lo + g.width ≤ 32) (hapart : g.lo + g.width ≤ 16) :
    (t.setOwner (.pin n 1) who).fld (R.sysGpioCfg n) g = t.fld (R.sysGpioCfg n) g := by
  rw [State.setOwner, State.fld_setFld_apart _ _ F.sysGpioCfg.FUNC _ _ (by decide) hg (.inl hapart),
    State.fld_setFld_apart _ _ F.sysGpioCfg.OWNER _ _ (by decide) hg (.inl (by simp only; omega))]

omit hu in
theorem State.fld_setOwner_pin_func (t : State) (who : Nat) :
    (t.setOwner (.pin n 1) who).fld (R.sysGpioCfg n) F.sysGpioCfg.FUNC = if who = 0 then 0 else 1 := by
  rw [State.setOwner, State.fld_setFld _ _ _ _ (by decide)]
  split <;> rfl

omit hu in
theorem State.owner_setOwner_pin (t : State) (who : Nat) (h : who < 256) : (t.setOwner (.pin n 1) who).owner (.pin n 1) = who := by
  rw [State.owner, State.setOwner, State.fld_setFld_apart _ _ _ _ _ (by decide) (by decide) (by decide),
    State.fld_setFld _ _ _ _ (by decide)]
  exact Nat.mod_eq_of_lt h

omit hu in
theorem State.setOwner_pin_sameBut (t : State) (who : Nat) : t.sameBut (t.setOwner (.pin n 1) who) [R.sysGpioCfg n] :=
  ((t.sameBut_refl _).setFld _ _ (by simp)).setFld _ _ (by simp)

omit hu in
theorem claimantOf_ne_zero (path : Path) : claimantOf path ≠ 0 := by cases path <;> simp [claimantOf]

omit hu in
theorem Fld.get_bit0 (w : Word) : Fld.get ⟨0, 1⟩ w = if w.getLsbD 0 then 1 else 0 := by
  have h : Fld.get ⟨0, 1⟩ w = (w.extractLsb' 0 1).toNat := rfl
  have hbit : w.extractLsb' 0 1 = BitVec.ofBool (w.getLsbD 0) := by
    refine BitVec.eq_of_getLsbD_eq fun i hi => ?_
    obtain rfl : i = 0 := by omega
    simp
  rw [h, hbit]
  cases w.getLsbD 0 <;> rfl

include hacc hown

theorem exec_gpioCfgWrite_enable (hw : w.getLsbD 0 = true) :
    ∃ t, exec (.gpioCfgWrite path n w) s = .next t ∧ s.sameBut t [R.sysGpioCfg n] ∧
      t.fld (R.sysGpioCfg n) F.sysGpioCfg.EN = 1 ∧ t.fld (R.sysGpioCfg n) F.sysGpioCfg.FUNC = 1 ∧
      t.owner (.pin n 1) = claimantOf path ∧ t.fld (R.sysGpioCfg n) F.sysGpioCfg.MODE = F.sysGpioCfg.MODE.get w := by
  obtain ⟨x, hx⟩ : ∃ x, s.writeRow path (R.sysGpioCfg n) Row.sysGpioCfg w false = x := ⟨_, rfl⟩
  have hexec : exec (.gpioCfgWrite path n w) s = State.done (x.setOwner (.pin n 1) (claimantOf path)) := by
    refine congrArg State.done ((State.onWrite_of _ _ _ _ hacc).trans ?_)
    rw [State.gpioCfgWrite, if_neg (by tauto), hw, if_pos rfl, hx]
  have hsame : s.sameBut (x.setOwner (.pin n 1) (claimantOf path)) [R.sysGpioCfg n] :=
    .trans (hx ▸ (s.sameBut_refl _).writeRow path _ _ (by simp)) (x.setOwner_pin_sameBut n _)
  refine ⟨_, hexec.trans (State.done_of_regs hu hsame (endIgnores_sysGpioCfg n)), hsame, ?_, ?_,
    x.owner_setOwner_pin n _ (claimantOf_lt path), ?_⟩
  · rw [State.fld_setOwner_pin _ _ _ (by decide) (by decide), ← hx, State.fld_writeRow_of_takes _ _ _ _ (by decide) (by decide),
      Fld.get_bit0, if_pos hw]
  · rw [State.fld_setOwner_pin_func, if_neg (claimantOf_ne_zero path)]
  · rw [State.fld_setOwner_pin _ _ _ (by decide) (by decide), ← hx, State.fld_writeRow_of_takes _ _ _ _ (by decide) (by decide)]

theorem exec_gpioCfgWrite_disable (hw : w.getLsbD 0 = false) :
    ∃ t, exec (.gpioCfgWrite path n w) s = .next t ∧ t.fld (R.sysGpioCfg n) F.sysGpioCfg.EN = 0 ∧
      t.fld (R.sysGpioCfg n) F.sysGpioCfg.FUNC = 0 ∧ t.owner (.pin n 1) = 0 ∧ (∀ off, off ≠ R.sysGpioCfg n → t.reg off = s.reg off) ∧
      n.val ∉ t.sys.gpioHigh := by
  obtain ⟨x, hx⟩ : ∃ x, s.writeRow path (R.sysGpioCfg n) Row.sysGpioCfg w false = x := ⟨_, rfl⟩
  obtain ⟨v, hv⟩ : ∃ v, x.setOwner (.pin n 1) 0 = v := ⟨_, rfl⟩
  have hwrite : s.sameBut x [R.sysGpioCfg n] := hx ▸ (s.sameBut_refl _).writeRow path _ _ (by simp)
  have hsame : s.sameBut v [R.sysGpioCfg n] := hv ▸ .trans hwrite (x.setOwner_pin_sameBut n _)
  have hexec : exec (.gpioCfgWrite path n w) s = State.done (v.withHigh (s.sys.gpioHigh.filter (fun m => m != n.val))) := by
    refine congrArg State.done ((State.onWrite_of _ _ _ _ hacc).trans ?_)
    rw [State.gpioCfgWrite, if_neg (by tauto), hw, if_neg Bool.false_ne_true, hx, hv, hwrite.sys, State.withHigh, hsame.sys]
  have huv : v.usual := State.usual_of hu hsame.endsAlike hsame.regsBut (endIgnores_sysGpioCfg n)
  have hreg : ∀ l o, (v.withHigh l).reg o = v.reg o := fun _ _ => rfl
  refine ⟨_, hexec.trans (State.done_withHigh huv _), ?_, ?_, ?_, fun off ho => ?_, ?_⟩
  · rw [State.fld, hreg, ← State.fld, ← hv, State.fld_setOwner_pin _ _ _ (by decide) (by decide), ← hx,
      State.fld_writeRow_of_takes _ _ _ _ (by decide) (by decide), Fld.get_bit0, if_neg (by rw [hw]; decide)]
  · rw [State.fld, hreg, ← State.fld, ← hv, State.fld_setOwner_pin_func, if_pos rfl]
  · rw [State.owner, State.fld, hreg, ← State.fld, ← hv]
    exact x.owner_setOwner_pin n 0 (by decide)
  · exact (hreg _ _).trans (hsame.regsBut off (by simpa using ho))
  · rw [State.gpioHigh_withHigh, List.mem_filter]
    simp

end

/-- Settles O9: pins by their register, and the boundary scan by its instruction register. -/
theorem pinsAndBoundaryScan : Obligations.PinsAndBoundaryScan := by
  unfold Obligations.PinsAndBoundaryScan
  intro s hu
  have hjtag : ∀ ir pins, State.done (s.jtag ir pins) = .next (s.jtag ir pins) := fun _ _ => State.done_of_sys hu rfl rfl rfl
  refine ⟨fun n path w hacc hown => ⟨exec_gpioCfgWrite_enable hu n hacc hown, exec_gpioCfgWrite_disable hu n hacc hown⟩,
    fun n h => exec_gpioEventOutput hu n h, fun n => exec_gpioPulseEnd hu n, fun n level => exec_gpioInputChange hu n level,
    hjtag _ _, fun pins load => ?_, ?_, hjtag _ _, hjtag _ _, fun code hcode => ?_⟩
  · have hload : (if load.isEmpty then pins else load) = if load = [] then pins else load := by simp only [List.isEmpty_iff]
    rw [← hload]
    exact State.done_of_sys hu rfl rfl rfl
  · exact State.done_of_endsAlike (l := []) hu ⟨rfl, rfl, rfl, rfl, rfl, rfl, rfl⟩ (State.regsBut_of_regs _ rfl) (endIgnores_of (by simp))
  · exact (congrArg State.done (if_neg (by omega))).trans (hjtag code .functional)

end Sys2Proof.Machine

/-!
Switched power domains (R72-R75, Table 2-10).
-/
namespace Sys2Proof.Machine

/-! ## Memory of a domain -/

theorem Table.get_filter {α : Type} (d : Nat → α) (p : Nat → Bool) (t : Table α) (k : Nat) :
    Table.get d (t.filter (fun e => p e.1)) k = if p k then Table.get d t k else d k := by
  induction t with
  | nil => simp [Table.get]
  | cons e r ih =>
    by_cases hk : e.1 = k
    · subst hk
      cases hp : p e.1
      · rw [List.filter_cons_of_neg (by simp [hp]), ih, hp]
        rfl
      · rw [List.filter_cons_of_pos (by simpa using hp), Table.get, Table.get, if_pos rfl, if_pos rfl, if_pos rfl]
    · rw [Table.get, if_neg hk, ← ih]
      cases hp : p e.1
      · rw [List.filter_cons_of_neg (by simp [hp])]
      · rw [List.filter_cons_of_pos (by simpa using hp), Table.get, if_neg hk]

/-- A memory range reads 0 after it is filled with zeros. -/
theorem State.byte_zeroFill (s : State) (a n k : Nat) : (s.zeroFill a n).byte k = if a ≤ k ∧ k < a + n then 0 else s.byte k := by
  refine (Table.get_filter (fun _ => 0) (fun k => decide (k < a ∨ a + n ≤ k)) s.mem k).trans ?_
  by_cases h : a ≤ k ∧ k < a + n
  · rw [if_pos h, if_neg (by simp; omega)]
  · rw [if_neg h, if_pos (by simp; omega)]
    rfl

/-! ## Status bits of domains -/

theorem pd_split {d e : Nat} (hd : 1 ≤ d) (he : 1 ≤ e) (hdiv : (d - 1) / 32 = (e - 1) / 32) (hmod : (d - 1) % 32 = (e - 1) % 32) : d = e := by
  omega

/-- The status bit of a domain after that of one is set or cleared. -/
theorem State.pdOn_setPd (s : State) {d e : Nat} (on : Bool) (hd : 1 ≤ d) (he : 1 ≤ e) :
    (s.setPd d on).pdOn e = if e = d then on else s.pdOn e := by
  have hlt : (d - 1) % 32 < 32 := Nat.mod_lt _ (by decide)
  have helt : (e - 1) % 32 < 32 := Nat.mod_lt _ (by decide)
  rw [State.pdOn, State.setPd, State.reg_setFld]
  by_cases hdiv : (e - 1) / 32 = (d - 1) / 32
  · rw [if_pos (by rw [hdiv]), Fld.put_bit _ _ _ _ (by simp only; omega) helt]
    by_cases hmod : (e - 1) % 32 = (d - 1) % 32
    · rw [if_pos (by simp only; omega), if_pos (pd_split he hd hdiv hmod), hmod, Nat.sub_self]
      cases on <;> rfl
    · rw [if_neg (by simp only; omega), if_neg (fun h => hmod (by rw [h])), State.pdOn, hdiv]
  · rw [if_neg (by simp only [R.sysPdStat]; omega), if_neg (fun h => hdiv (by rw [h])), State.pdOn]

/-! ## Requests -/

theorem setBits_two_pow {i n : Nat} (h : i < n) : setBits (2 ^ i) n = [i] := by
  have hfilter : setBits (2 ^ i) n = (List.range n).filter (fun m => m == i) := by
    simp only [setBits, Nat.testBit_two_pow, beq_eq_decide, eq_comm]
  rw [hfilter, List.filter_beq, List.count_eq_one_of_mem List.nodup_range (List.mem_range.mpr h), List.replicate_one]

section
variable {s : State} {path : Path} {on : Bool}

/-- A write that names one domain is a request for that domain. -/
theorem State.pdWrite_single {m : Fin 5} {i : Nat} (hi : i < 32) (hm : m = 4 → i < 4) :
    s.pdWrite path m (BitVec.ofNat 32 (2 ^ i)) on = s.pdRequest path (32 * m + i + 1) on := by
  have htoNat : (BitVec.ofNat 32 (2 ^ i)).toNat = 2 ^ i :=
    Nat.mod_eq_of_lt (Nat.pow_lt_pow_right (by decide) hi)
  have hlt : i < if m.val = 4 then 4 else 32 := by
    split
    · next h => exact hm (Fin.ext h)
    · exact hi
  rw [State.pdWrite, htoNat, setBits_two_pow hlt]
  rfl

variable {d : Nat} (hrise : d ∉ s.sys.pdRising) (hon : s.pdOn d = !on)
include hrise hon

theorem State.pdRequest_of_steady : s.pdRequest path d on =
    if s.pdCause path d on ≠ 0 then s.pdRefuse path d on (s.pdCause path d on)
    else if on then { s with sys := { s.sys with pdRising := addSorted s.sys.pdRising d } } else s.domOff d := by
  rw [State.pdRequest, if_neg (by simpa using hrise), if_neg (by rw [hon]; cases on <;> decide)]

end

section
variable {s : State} (hu : s.usual) {path : Path}

theorem endIgnores_pdErr : endIgnores [R.sysErrAddr, R.sysErrStat, R.sysPdErr] := endIgnores_of (by decide)

theorem State.pdRefuse_of_free {d : Nat} (hd : d < 256) (hvalid : s.fld R.sysPdErr F.sysPdErr.VALID = 0) :
    s.sameBut (s.pdRefuse path d true 1) [R.sysErrAddr, R.sysErrStat, R.sysPdErr] ∧
      (s.pdRefuse path d true 1).fld R.sysErrStat F.sysErrStat.ACC = 1 ∧ (s.pdRefuse path d true 1).fld R.sysPdErr F.sysPdErr.VALID = 1 ∧
      (s.pdRefuse path d true 1).fld R.sysPdErr F.sysPdErr.CAUSE = 1 ∧ (s.pdRefuse path d true 1).fld R.sysPdErr F.sysPdErr.DOM = d := by
  obtain ⟨x, hx⟩ : ∃ x, s.errAcc path (R.sysPdSet ((d - 1) / 32)) = x := ⟨_, rfl⟩
  have herr : s.sameBut x [R.sysErrAddr, R.sysErrStat] := hx ▸ s.err_sameBut _ _ _
  have hfree : x.bit R.sysPdErr F.sysPdErr.VALID = false := State.bit_eq_false ((herr.fld (by decide) _).trans hvalid)
  have hrefuse : s.pdRefuse path d true 1 = x.setReg R.sysPdErr (BitVec.ofNat 32 (1 + 1 * 2 + d * 2 ^ 8 + claimantOf path * 2 ^ 16)) := by
    rw [State.pdRefuse, if_neg (show ¬(1 : Nat) = 2 by decide), if_pos rfl, hx, hfree, if_neg Bool.false_ne_true]
  have hwho := claimantOf_lt path
  have hfld : ∀ f : Fld, (s.pdRefuse path d true 1).fld R.sysPdErr f =
      (1 + 1 * 2 + d * 2 ^ 8 + claimantOf path * 2 ^ 16) % 2 ^ 32 / 2 ^ f.lo % 2 ^ f.width := fun f => by
    rw [hrefuse, State.fld, State.reg_setReg_same, Fld.get_ofNat]
  refine ⟨?_, ?_, ?_, ?_, ?_⟩
  · rw [hrefuse]
    exact (herr.mono (by simp)).setReg _ (by simp)
  · rw [hrefuse, State.fld_setReg_ne _ _ _ _ _ (by decide), ← hx, State.errAcc, State.fld_err_same _ _ _ _ (by decide) rfl]
  · rw [hfld]; simp only; omega
  · rw [hfld]; simp only; omega
  · rw [hfld]; simp only; omega

include hu

theorem exec_pdOnRequest {m : Fin 5} {i : Nat} (hacc : s.accessible path (R.sysPdSet m) = true) (hi : i < 32) (hm : m = 4 → i < 4)
    (hoff : s.pdOn (32 * m + i + 1) = false) (hrise : 32 * m + i + 1 ∉ s.sys.pdRising) (hcause : s.pdCause path (32 * m + i + 1) true = 0) :
    exec (.pdOnRequest path m (BitVec.ofNat 32 (2 ^ i))) s =
      .next { s with sys := { s.sys with pdRising := addSorted s.sys.pdRising (32 * m + i + 1) } } := by
  refine (congrArg State.done ((State.onWrite_of _ _ _ _ hacc).trans ?_)).trans (State.done_of_sys hu rfl rfl rfl)
  rw [State.pdWrite_single hi hm, State.pdRequest_of_steady (on := true) hrise hoff, if_neg (by simp [hcause]), if_pos rfl]

theorem exec_pdOnRequest_refused {m : Fin 5} {i : Nat} (hacc : s.accessible path (R.sysPdSet m) = true) (hi : i < 32) (hm : m = 4 → i < 4)
    (hoff : s.pdOn (32 * m + i + 1) = false) (hrise : 32 * m + i + 1 ∉ s.sys.pdRising) (hcause : s.pdCause path (32 * m + i + 1) true = 1)
    (hvalid : s.fld R.sysPdErr F.sysPdErr.VALID = 0) :
    ∃ t, exec (.pdOnRequest path m (BitVec.ofNat 32 (2 ^ i))) s = .next t ∧ s.sameBut t [R.sysErrAddr, R.sysErrStat, R.sysPdErr] ∧
      t.fld R.sysErrStat F.sysErrStat.ACC = 1 ∧ t.fld R.sysPdErr F.sysPdErr.VALID = 1 ∧ t.fld R.sysPdErr F.sysPdErr.CAUSE = 1 ∧
      t.fld R.sysPdErr F.sysPdErr.DOM = 32 * m + i + 1 := by
  have hexec : exec (.pdOnRequest path m (BitVec.ofNat 32 (2 ^ i))) s = State.done (s.pdRefuse path (32 * m + i + 1) true 1) := by
    refine congrArg State.done ((State.onWrite_of _ _ _ _ hacc).trans ?_)
    rw [State.pdWrite_single hi hm, State.pdRequest_of_steady (on := true) hrise hoff, hcause, if_pos (by decide)]
  obtain ⟨hsame, hflags⟩ := State.pdRefuse_of_free (path := path) (show 32 * m.val + i + 1 < 256 by omega) hvalid
  exact ⟨_, hexec.trans (State.done_of_regs hu hsame endIgnores_pdErr), hsame, hflags⟩

/-! ## Team memories -/

/-- A team's domain on or off, with its memory cleared. -/
def State.teamSet (s : State) (k : Nat) (on : Bool) : State := (s.setPd (97 + k) on).zeroFill (teamBase k) 0x80000

omit hu in
theorem State.pdOn_teamSet (k d : Nat) (on : Bool) (hd : 1 ≤ d) : (s.teamSet k on).pdOn d = if d = 97 + k then on else s.pdOn d :=
  State.pdOn_setPd s on (by omega) hd

omit hu in
theorem State.regsBut_teamSet {k : Nat} (hk : k < 12) (on : Bool) : s.regsBut (s.teamSet k on) [R.sysPdStat 3] := by
  have hdiv : (97 + k - 1) / 32 = 3 := by omega
  have h : s.regsBut (s.setPd (97 + k) on) [R.sysPdStat 3] := (State.regsBut.refl s _).setFld _ _ (by rw [hdiv]; simp)
  exact h

omit hu in
theorem State.byte_teamSet (k a : Nat) (on : Bool) :
    (s.teamSet k on).byte a = if teamBase k ≤ a ∧ a < teamBase k + 0x80000 then 0 else s.byte a := State.byte_zeroFill _ _ _ _

theorem State.done_teamSet {k : Nat} (hk : k < 12) (on : Bool) : State.done (s.teamSet k on) = .next (s.teamSet k on) :=
  State.done_of_endsAlike hu ⟨rfl, rfl, rfl, rfl, rfl, rfl, rfl⟩ (State.regsBut_teamSet hk on) (endIgnores_of (by decide))

omit hu in
theorem domMemory_team {k : Nat} (hk : k < 12) : domMemory (97 + k) = some (teamBase k, 0x80000) := by
  rw [domMemory, if_neg (by omega), if_pos (by omega), Nat.add_sub_cancel_left]

theorem exec_pdOffRequest_team {k : Nat} (hacc : s.accessible path (R.sysPdClr 3) = true) (hk : k < 12) (hon : s.pdOn (97 + k) = true)
    (hcause : s.pdCause path (97 + k) false = 0) (hrise : 97 + k ∉ s.sys.pdRising) :
    exec (.pdOffRequest path 3 (BitVec.ofNat 32 (2 ^ k))) s = .next (s.teamSet k false) := by
  refine (congrArg State.done ((State.onWrite_of _ _ _ _ hacc).trans ?_)).trans (State.done_teamSet hu hk false)
  have hdom : 32 * (3 : Fin 5).val + k + 1 = 97 + k := by rw [show (3 : Fin 5).val = 3 from rfl]; omega
  rw [State.pdWrite_single (by omega) (fun h => absurd h (by decide)), hdom, State.pdRequest_of_steady (on := false) hrise hon, if_neg (by simp [hcause]),
    if_neg Bool.false_ne_true, State.domOff, domMemory_team hk, if_neg (by omega), if_neg (by omega), if_neg (by omega), if_neg (by omega),
    if_neg (by omega), if_neg (by omega), if_neg (by omega)]
  rfl

theorem exec_pdPowerOnComplete_team {k : Nat} (hk : k < 12) (hrise : 97 + k ∈ s.sys.pdRising) :
    ∃ u : State, u = { s with sys := { s.sys with pdRising := s.sys.pdRising.filter (fun d => d != 97 + k) } } ∧
      exec (.pdPowerOnComplete (97 + k)) s = .next (u.teamSet k true) := by
  refine ⟨_, rfl, ?_⟩
  have huu := State.usual_of (l := []) (t := { s with sys := { s.sys with pdRising := s.sys.pdRising.filter (fun d => d != 97 + k) } }) hu
    ⟨rfl, rfl, rfl, rfl, rfl, rfl, rfl⟩ (State.regsBut_of_regs _ rfl) (endIgnores_of (by simp))
  have hexec : s.pdComplete (97 + k) =
      State.teamSet { s with sys := { s.sys with pdRising := s.sys.pdRising.filter (fun d => d != 97 + k) } } k true := by
    rw [State.pdComplete, if_neg (by simpa using hrise), domMemory_team hk, if_neg (by omega), if_neg (by omega), if_neg (by omega)]
    rfl
  exact (congrArg State.done hexec).trans (State.done_teamSet huu hk true)

/-! ## Requests that wait -/

theorem exec_pdDeferredRequest {d : Nat} (hwait : s.sys.pdDeferred = [⟨d, true, path⟩]) (hrise : d ∉ s.sys.pdRising)
    (hoff : s.pdOn d = false) (hcause : s.pdCause path d true = 0) :
    exec .pdDeferredRequest s = .next { s with sys := { s.sys with pdDeferred := [], pdRising := addSorted s.sys.pdRising d } } := by
  obtain ⟨u, hu'⟩ : ∃ u : State, u = { s with sys := { s.sys with pdDeferred := [] } } := ⟨_, rfl⟩
  have happly : s.pdDeferredApply = u.pdRequest path d true := by
    rw [State.pdDeferredApply, hwait, List.find?_cons_of_pos (by simpa using hrise), hu']
    exact congrArg (fun l => State.pdRequest { s with sys := { s.sys with pdDeferred := l } } path d true) (List.erase_cons_head ..)
  have hrise' : d ∉ u.sys.pdRising := by rw [hu']; exact hrise
  have hoff' : u.pdOn d = !true := by rw [hu']; exact hoff
  have hcause' : u.pdCause path d true = 0 := by rw [hu']; exact hcause
  have hexec : exec .pdDeferredRequest s = State.done { s with sys := { s.sys with pdDeferred := [], pdRising := addSorted s.sys.pdRising d } } := by
    refine congrArg State.done (happly.trans ?_)
    rw [State.pdRequest_of_steady hrise' hoff', if_neg (by simp [hcause']), if_pos rfl, hu']
  exact hexec.trans (State.done_of_sys hu rfl rfl rfl)

end

/-- Settles O10: domains on and off, their memories, refusals and the requests that wait. -/
theorem powerDomains : Obligations.PowerDomains := by
  unfold Obligations.PowerDomains
  intro s hu
  refine ⟨fun path m i w hacc hi hm hw hoff hrise => ?_, fun path k w hacc hk hon hcause hrise hw => ?_, fun k hk hrise => ?_,
    fun path d on hwait hrise hoff hon hcause => ?_⟩
  · subst hw
    exact ⟨exec_pdOnRequest hu hacc hi hm hoff hrise, exec_pdOnRequest_refused hu hacc hi hm hoff hrise⟩
  · subst hw
    exact ⟨_, exec_pdOffRequest_team hu hacc hk hon hcause hrise, rfl, (State.pdOn_teamSet _ _ _ (by omega)).trans (if_pos rfl),
      fun off ho => State.regsBut_teamSet hk _ off (by simpa using ho), fun d hd hne => (State.pdOn_teamSet _ _ _ hd).trans (if_neg hne),
      fun a => State.byte_teamSet _ _ _⟩
  · obtain ⟨u, hu', hexec⟩ := exec_pdPowerOnComplete_team hu hk hrise
    have hreg : ∀ off, u.reg off = s.reg off := fun off => by rw [hu']; rfl
    have hbyte : ∀ a, u.byte a = s.byte a := fun a => by rw [hu']; rfl
    refine ⟨_, hexec, by rw [hu']; rfl, (State.pdOn_teamSet _ _ _ (by omega)).trans (if_pos rfl), ?_,
      fun off ho => (State.regsBut_teamSet hk _ off (by simpa using ho)).trans (hreg off), fun a => ?_⟩
    · have hrising : (u.teamSet k true).sys.pdRising = u.sys.pdRising := rfl
      rw [hrising, hu']
    · rw [State.byte_teamSet, hbyte]
  · subst hon
    exact exec_pdDeferredRequest hu hwait hrise hoff hcause

end Sys2Proof.Machine

/-!
The restart of the main side after a warm reset and after a clock loss (R76, R77, R79, R519), and lock and loss of lock of the root PLL
(R23, R24, R26).
-/
namespace Sys2Proof.Machine

section
variable {s t u : State}

/-- A command whose effect leaves nothing waiting, and is brought up to date, ends with that effect. -/
theorem State.done_refreshMain (h : s.refreshMain.quiet) : State.done s.refreshMain = .next s.refreshMain :=
  State.done_of_quiet _ h (State.settled_refreshMain s (by rw [← State.refreshMain_work]; exact h.1))

theorem State.quiet_refreshMain (h : s.quiet) : s.refreshMain.quiet := by
  have hstate := s.refreshMain_regs_only
  exact State.quiet_of s _ h (by rw [hstate]) (by rw [hstate]) (by rw [hstate]) (s.reg_refreshMain_ne _ (by decide)) (by rw [hstate]; rfl)

theorem State.refreshMain_regsOnly : s.regsOnly s.refreshMain [R.hltStat] :=
  ⟨s.refreshMain_regs_only, fun off ho => s.reg_refreshMain_ne off (by simpa using ho)⟩

/-! ## The boot enters -/

theorem State.bootEnter_regsOnly (h : s.fld R.sysStrap F.sysStrap.BOOT_SRC ≠ 3) :
    s.regsOnly s.bootEnter [R.sysBootStat, R.secBootInfo] := by
  rw [State.bootEnter, if_neg h]
  dsimp only
  split
  · exact ((State.regsOnly.refl s _).setFld _ _ (by simp)).setFld _ _ (by simp)
  · exact (State.regsOnly.refl s _).setFld _ _ (by simp)

theorem State.reg_bootEnter_sysBootStat (h : s.fld R.sysStrap F.sysStrap.BOOT_SRC ≠ 3) :
    s.bootEnter.reg R.sysBootStat = F.sysBootStat.STAGE.put (s.reg R.sysBootStat) 2 := by
  rw [State.bootEnter, if_neg h]
  dsimp only
  split
  · rw [State.reg_setFld_ne _ _ _ _ _ (by decide), State.reg_setFld_same]
  · rw [State.reg_setFld_same]

theorem State.fld_bootEnter_stage (h : s.fld R.sysStrap F.sysStrap.BOOT_SRC ≠ 3) :
    s.bootEnter.fld R.sysBootStat F.sysBootStat.STAGE = 2 := by
  rw [State.fld, State.reg_bootEnter_sysBootStat h, Fld.get_put _ _ _ (by decide)]
  rfl

theorem State.fld_bootEnter_ready (h : s.fld R.sysStrap F.sysStrap.BOOT_SRC ≠ 3) :
    s.bootEnter.fld R.sysBootStat F.sysBootStat.READY = s.fld R.sysBootStat F.sysBootStat.READY := by
  rw [State.fld, State.reg_bootEnter_sysBootStat h, Fld.get_put_apart _ _ _ _ (by decide) (by decide) (by decide), State.fld]

/-! ## The registers that a reset sets after it has kept the others -/

/-- Offsets of the registers of the blocks that a reset sets beside resetting registers: alignment, bank states, engine states, the link. -/
def resetSetsBlocks (off : Nat) : Prop :=
  0x10200 ≤ off ∧ off < 0x10600 ∨ 0x0C600 ≤ off ∧ off < 0x0CA00 ∨ 0x26000 ≤ off ∧ off < 0x28008

/-- Offsets of all registers that a reset sets: those of the blocks, the fabric's own settings and HLT.STAT. -/
def resetSets (off : Nat) : Prop := resetSetsBlocks off ∨ 0x30000 ≤ off ∧ off < 0x30400 ∨ off = R.hltStat

/-- `t` differs from `u` in registers at `P` and in the analog front end. -/
structure State.ResetOnly (P : Nat → Prop) (u t : State) : Prop where
  state : t = { u with regs := t.regs, vaf := t.vaf }
  reg : ∀ off, ¬P off → t.reg off = u.reg off

section
variable {P Q : Nat → Prop}

theorem State.ResetOnly.refl (u : State) : u.ResetOnly P u := ⟨rfl, fun _ _ => rfl⟩

theorem State.ResetOnly.trans (h : s.ResetOnly P t) (h' : t.ResetOnly P u) : s.ResetOnly P u :=
  ⟨h'.state.trans (by rw [h.state]), fun off ho => (h'.reg off ho).trans (h.reg off ho)⟩

theorem State.ResetOnly.mono (h : s.ResetOnly P t) (hPQ : ∀ off, P off → Q off) : s.ResetOnly Q t :=
  ⟨h.state, fun off ho => h.reg off (fun x => ho (hPQ off x))⟩

theorem State.ResetOnly.setReg (h : u.ResetOnly P t) {o : Nat} (w : Word) (ho : P o) : u.ResetOnly P (t.setReg o w) :=
  h.trans ⟨rfl, fun _ hoff => State.reg_setReg_ne _ _ _ _ (fun e => hoff (e ▸ ho))⟩

theorem State.ResetOnly.setFld (h : u.ResetOnly P t) {o : Nat} (f : Fld) (x : Nat) (ho : P o) : u.ResetOnly P (t.setFld o f x) :=
  h.setReg _ ho

theorem State.regsOnly.resetOnly {l : List Nat} (h : s.regsOnly t l) (hl : ∀ o ∈ l, P o) : s.ResetOnly P t :=
  ⟨h.1.trans (by rw [h.1]), fun off ho => h.2 off (fun hoff => ho (hl off hoff))⟩

theorem State.ResetOnly.setBank (h : u.ResetOnly P t) (k : Nat) (x : Bank) : u.ResetOnly P (t.setBank k x) := h.trans ⟨rfl, fun _ _ => rfl⟩

theorem State.ResetOnly.forEach (h : u.ResetOnly P t) {n : Nat} (f : Nat → State → State) (hf : ∀ v : State, ∀ i < n, v.ResetOnly P (f i v)) :
    u.ResetOnly P (t.forEach n f) :=
  List.foldlRecOn (motive := fun v => u.ResetOnly P v) _ _ h (fun v hv i hi => hv.trans (hf v i (List.mem_range.mp hi)))

end

theorem resetSetsBlocks_plAlign {n : Nat} (h : n < 48) : resetSetsBlocks (R.plAlign n) := by simp only [resetSetsBlocks, R.plAlign]; omega
theorem resetSetsBlocks_bankStat {k : Nat} (h : k < 4) : resetSetsBlocks (R.bankStat k) := by simp only [resetSetsBlocks, R.bankStat]; omega
theorem resetSetsBlocks_bankCal {k : Nat} (h : k < 4) : resetSetsBlocks (R.bankCal k) := by simp only [resetSetsBlocks, R.bankCal]; omega
theorem resetSetsBlocks_engStat {n : Nat} (h : n < 96) : resetSetsBlocks (R.engStat n) := by simp only [resetSetsBlocks, R.engStat]; omega
theorem resetSetsBlocks_hqeStat : resetSetsBlocks R.hqeStat := by simp only [resetSetsBlocks, R.hqeStat]; omega
theorem resetSets_dlStat {k : Nat} (h : k < 4) : resetSets (R.dlStat k) := by simp only [resetSets, R.dlStat]; omega
theorem resetSets_hltStat : resetSets R.hltStat := .inr (.inr rfl)
theorem resetSets_fabric {off : Nat} (h : 0x30000 ≤ off ∧ off < 0x30400) : resetSets off := .inr (.inl h)

/-! ## Banks after a reset -/

theorem State.ResetOnly.dropStep (h : u.ResetOnly resetSetsBlocks t) {k : Nat} (hk : k < 4) : u.ResetOnly resetSetsBlocks (t.dropStep k) :=
  ((h.setFld F.bankStat.EXIT_SLICE 15 (resetSetsBlocks_bankStat hk)).setFld F.bankStat.READY 0 (resetSetsBlocks_bankStat hk)).setBank _ _

theorem State.ResetOnly.setBankStat (h : u.ResetOnly resetSetsBlocks t) {k : Nat} (hk : k < 4) (st : Nat) (order : List Nat) (cal : Nat) :
    u.ResetOnly resetSetsBlocks (t.setBankStat k st order cal) := by
  have hs := resetSetsBlocks_bankStat hk
  exact (((((h.setFld F.bankStat.STATE st hs).setFld F.bankStat.CAL_SLICE cal hs).setFld F.bankStat.EXIT_SLICE 15 hs).setFld
    F.bankStat.READY 0 hs).setFld F.bankStat.ACTIVE (planeMask order) hs).setBank _ _

theorem State.ResetOnly.bankAfterReset (h : u.ResetOnly resetSetsBlocks t) {k : Nat} (hk : k < 4) (loss : Bool) : u.ResetOnly resetSetsBlocks (t.bankAfterReset k loss) := by
  rw [State.bankAfterReset]
  dsimp only
  split
  · exact (h.setBankStat hk 1 firstEight 8).setFld _ _ (resetSetsBlocks_bankCal hk)
  · split
    · exact ((h.dropStep hk).setFld _ _ (resetSetsBlocks_bankStat hk)).setBank _ _
    · split
      · exact (h.dropStep hk).setBank _ _
      · exact h

theorem State.ResetOnly.banksAfter (h : u.ResetOnly resetSetsBlocks t) (kind : Nat) : u.ResetOnly resetSetsBlocks (t.banksAfter kind) :=
  h.forEach _ fun v _ hk => ((State.ResetOnly.refl v).setReg _ (resetSetsBlocks_bankStat hk)).bankAfterReset hk _

/-! ## The fabric after a reset -/

/-- A port that is DISABLED follows its enables without leaving any other state. -/
theorem State.portFollow_of_disabled {k : Nat} (h : t.portState k = 0) :
    t.portFollow k = if t.portRuns k then t.setPortState k Dl.down else t := by
  have hd : t.portState k = Dl.disabled := h
  rw [State.portFollow]
  rw [if_pos hd, if_pos hd]

theorem State.ResetOnly.portsFollow (h : u.ResetOnly resetSets t) (ht : ∀ k < 4, t.portState k = 0) :
    u.ResetOnly resetSets (t.forEach 4 (fun k v => v.portFollow k)) := by
  have hinv : ∀ n ≤ 4, u.ResetOnly resetSets (t.forEach n (fun k v => v.portFollow k)) ∧
      ∀ k, n ≤ k → k < 4 → (t.forEach n (fun k v => v.portFollow k)).portState k = 0 := by
    intro n
    induction n with
    | zero => exact fun _ => ⟨h, fun k _ hk => ht k hk⟩
    | succ n ih =>
      intro hn
      obtain ⟨hframe, hports⟩ := ih (by omega)
      have hstep : t.forEach (n + 1) (fun k v => v.portFollow k) = (t.forEach n (fun k v => v.portFollow k)).portFollow n := by
        rw [State.forEach, List.range_succ, List.foldl_append]
        rfl
      rw [hstep, State.portFollow_of_disabled (hports n (le_refl n) (by omega))]
      split
      · refine ⟨hframe.setFld _ _ (resetSets_dlStat (by omega)), fun k hk hk4 => ?_⟩
        rw [State.portState, State.setPortState, State.fld_setFld_ne _ _ _ _ _ _ (by simp only [R.dlStat]; omega)]
        exact hports k (by omega) hk4
      · exact ⟨hframe, fun k hk hk4 => hports k (by omega) hk4⟩
  exact (hinv 4 (le_refl 4)).1

theorem State.ResetOnly.fabricAfter (h : u.ResetOnly resetSets t) {kind : Nat} (ht : kind = rstLoss → ∀ k < 4, t.portState k = 0) :
    u.ResetOnly resetSets (t.fabricAfter kind) := by
  have hports : u.ResetOnly resetSets (if kind = rstLoss ∧ t.bit R.dlfCfg F.dlfCfg.EN then
      (t.setFld R.dlfStat F.dlfStat.STATE Dl.fAlone).forEach 4 (fun k v => v.portFollow k) else t) := by
    split
    · next hk =>
      refine (h.setFld _ _ (resetSets_fabric (by decide))).portsFollow fun k hk4 => ?_
      rw [State.portState, State.fld_setFld_ne _ _ _ _ _ _ (by simp only [R.dlStat, R.dlfStat]; omega)]
      exact ht hk.1 k hk4
    · exact h
  rw [State.fabricAfter, State.refreshKey, State.setReg64]
  exact ((hports.setReg _ (resetSets_fabric (by decide))).setReg _ (resetSets_fabric (by decide))).setFld _ _ (resetSets_fabric (by decide))

end

/-! ## The reset itself -/

/-- What a reset of a strength keeps: registers, memories and block states, before it sets any register (Table 2-12). -/
def State.resetKept (s : State) (kind : Nat) : State where
  pending := s.pending
  regs := s.regsKept kind
  mem := s.mem.filter (fun e => s.memKept kind e.1)
  hostMem := s.hostMem
  messages := s.messages
  freeCount := s.freeCount
  sys := {
    time := if kind ≤ rstCold then 0 else s.sys.time
    timeStarted := decide (rstLoss ≤ kind) && s.sys.timeStarted
    resetting := s.sys.resetting, porstLow := s.sys.porstLow, railsBad := s.sys.railsBad
    poison := s.sys.poison.filter (s.memKept kind), bitErrs := s.sys.bitErrs.filter (fun e => s.memKept kind e.1)
    gpioExt := s.sys.gpioExt, jtagIr := s.sys.jtagIr, boundary := s.sys.boundary, pins := s.sys.pins
    pdRising := if kind ≤ rstCold then [] else s.sys.pdRising, pdDeferred := if kind ≤ rstCold then [] else s.sys.pdDeferred }
  hlt := s.hlt
  fab := s.fab.after kind
  vaf := { banks := if kind ≤ rstCold then [] else s.vaf.banks }
  hqe := { nextId := s.hqe.nextId }
  sec := { warm := decide (rstLoss ≤ kind) }

/-- The kept state with alignment, link, engines and banks as a restart leaves them. -/
def State.restarted (s : State) (kind : Nat) : State :=
  ((((s.resetKept kind).forEach 48 (fun n t => t.setReg (R.plAlign n) (t.reg (R.plAlign n) &&& 0xFFFF))).setFld R.hqeStat F.hqeStat.LINK
    (if kind = rstWarm then s.fld R.hqeStat F.hqeStat.LINK else 0)).forEach 96 (fun n t =>
      if t.pdOn (n + 1) then t.setFld (R.engStat n) F.engStat.STATE 1 else t)).banksAfter kind

section
variable (s : State) {kind : Nat}

theorem State.mainReset_of_restart (h : rstLoss ≤ kind) :
    s.mainReset kind = (((s.restarted kind).fabricAfter kind).setFld R.hltStat F.hltStat.SAVE 0).refreshMain := by
  have hcold : ¬kind ≤ rstCold := by simp only [rstLoss, rstCold] at h ⊢; omega
  rw [State.mainReset]
  dsimp only
  rw [if_neg hcold]
  rfl

theorem State.restarted_resetOnly : (s.resetKept kind).ResetOnly resetSetsBlocks (s.restarted kind) := by
  refine State.ResetOnly.banksAfter (State.ResetOnly.forEach (State.ResetOnly.setFld ?_ _ _ resetSetsBlocks_hqeStat) _ fun v n hn => ?_) kind
  · exact (State.ResetOnly.refl _).forEach _ fun v n hn => (State.ResetOnly.refl v).setReg _ (resetSetsBlocks_plAlign hn)
  · split
    · exact (State.ResetOnly.refl v).setFld _ _ (resetSetsBlocks_engStat hn)
    · exact .refl v

/-! ## Registers and memory of the kept state -/

theorem State.reg_resetKept (heff : s.eff = []) (off : Nat) :
    (s.resetKept kind).reg off = if keptBy kind off then s.reg off else Reg.resetOf off := by
  have hregs : (s.resetKept kind).regs = s.regs.filter (fun e => keptBy kind e.1) := by
    rw [State.resetKept, State.regsKept, heff]
    rfl
  rw [State.reg, hregs, Table.get_filter]
  rfl

theorem State.byte_resetKept (a : Nat) : (s.resetKept kind).byte a = if s.memKept kind a then s.byte a else 0 :=
  Table.get_filter (fun _ => 0) (s.memKept kind) s.mem a

/-- Nothing of the fabric's requests is left. -/
theorem State.releases_resetKept : (s.resetKept kind).fab.releases = [] := by
  rw [State.resetKept]
  dsimp only
  rw [Fabric.after]
  split
  · rfl
  · split <;> rfl

theorem State.portState_restarted (heff : s.eff = []) {k : Nat} (hk : k < 4) (hkind : kind = rstLoss) : (s.restarted kind).portState k = 0 := by
  have hreg : (s.restarted kind).reg (R.dlStat k) = (s.resetKept kind).reg (R.dlStat k) :=
    s.restarted_resetOnly.reg _ (by simp only [resetSetsBlocks, R.dlStat]; omega)
  have hkept : ∀ k < 4, keptBy rstLoss (R.dlStat k) = false ∧ Reg.resetOf (R.dlStat k) = 0 := by decide +kernel
  obtain ⟨hlost, hreset⟩ := hkept k hk
  rw [State.portState, State.fld, hreg, s.reg_resetKept heff, hkind, hlost, if_neg Bool.false_ne_true, hreset]
  decide

/-- A reset that keeps the clocks changes the kept state only in registers that it sets. -/
theorem State.mainReset_resetOnly (heff : s.eff = []) (h : rstLoss ≤ kind) : (s.resetKept kind).ResetOnly resetSets (s.mainReset kind) := by
  have hfab : (s.resetKept kind).ResetOnly resetSets ((s.restarted kind).fabricAfter kind) :=
    (s.restarted_resetOnly.mono fun _ => Or.inl).fabricAfter fun hkind _ hk => s.portState_restarted heff hk hkind
  rw [State.mainReset_of_restart s h]
  exact (hfab.setFld _ _ resetSets_hltStat).trans (State.refreshMain_regsOnly.resetOnly (by simpa using resetSets_hltStat))

/-! ## The main side enters its boot -/

/-- The main side after a reset that keeps the clocks, with what SYS says of the reset. -/
def State.rebooted (s : State) (kind : Nat) (warm : Bool) (resetting : Nat) : State :=
  State.bootEnter { s.mainReset kind with sys := { (s.mainReset kind).sys with resetting := resetting, warmActive := warm } }

/-- A register that a restart keeps at its value or resets. -/
def restartReg (off : Nat) : Prop := ¬resetSets off ∧ off ∉ [R.sysBootStat, R.secBootInfo]

variable (warm : Bool) (resetting : Nat) (heff : s.eff = []) (h : rstLoss ≤ kind) (hsrc : s.fld R.sysStrap F.sysStrap.BOOT_SRC ≠ 3)
include heff h

theorem State.reg_mainReset {off : Nat} (ho : ¬resetSets off) :
    (s.mainReset kind).reg off = if keptBy kind off then s.reg off else Reg.resetOf off :=
  ((s.mainReset_resetOnly heff h).reg off ho).trans (s.reg_resetKept heff off)

omit heff in
theorem keptBy_of_keptLoss {off : Nat} (hkept : keptLoss off = true) : keptBy kind off = true := by
  simp only [rstLoss] at h
  rw [keptBy, if_neg (by simp only [rstAon]; omega), if_neg (by simp only [rstCold]; omega), hkept]
  split <;> rfl

include hsrc

theorem State.strap_mainReset : (s.mainReset kind).fld R.sysStrap F.sysStrap.BOOT_SRC ≠ 3 := by
  rw [State.fld, s.reg_mainReset heff h (by simp only [resetSets, resetSetsBlocks, R.sysStrap, R.hltStat]; omega), if_pos (keptBy_of_keptLoss h (by decide))]
  exact hsrc

theorem State.rebooted_regsOnly : State.regsOnly
    { s.mainReset kind with sys := { (s.mainReset kind).sys with resetting := resetting, warmActive := warm } }
    (s.rebooted kind warm resetting) [R.sysBootStat, R.secBootInfo] :=
  State.bootEnter_regsOnly (s.strap_mainReset heff h hsrc)

theorem State.reg_rebooted {off : Nat} (ho : restartReg off) :
    (s.rebooted kind warm resetting).reg off = if keptBy kind off then s.reg off else Reg.resetOf off :=
  ((s.rebooted_regsOnly warm resetting heff h hsrc).2 off ho.2).trans (s.reg_mainReset heff h ho.1)

/-- The blocks after a restart: those of the kept state. -/
theorem State.rebooted_state : s.rebooted kind warm resetting = { s.resetKept kind with
    regs := (s.rebooted kind warm resetting).regs, vaf := (s.rebooted kind warm resetting).vaf
    sys := { (s.resetKept kind).sys with resetting := resetting, warmActive := warm } } := by
  have hboot := (s.rebooted_regsOnly warm resetting heff h hsrc).1
  have hreset := (s.mainReset_resetOnly heff h).state
  rw [hreset] at hboot
  exact hboot.trans (by rw [hboot])

theorem State.quiet_rebooted : (s.rebooted kind warm resetting).quiet := by
  have hstate := s.rebooted_state warm resetting heff h hsrc
  refine ⟨by rw [hstate]; rfl, ?_, .inl (by rw [hstate]; rfl)⟩
  rw [hstate]
  exact s.releases_resetKept

theorem State.done_rebooted : State.done (s.rebooted kind warm resetting).refreshMain = .next (s.rebooted kind warm resetting).refreshMain :=
  State.done_refreshMain (State.quiet_refreshMain (s.quiet_rebooted warm resetting heff h hsrc))

theorem State.settled_rebooted : (s.rebooted kind warm resetting).refreshMain.settled :=
  State.settled_refreshMain _ (s.quiet_rebooted warm resetting heff h hsrc).1

theorem State.fld_rebooted_stage : (s.rebooted kind warm resetting).refreshMain.fld R.sysBootStat F.sysBootStat.STAGE = 2 := by
  rw [State.fld_refreshMain_ne _ _ _ (by decide)]
  exact State.fld_bootEnter_stage (s.strap_mainReset heff h hsrc)

theorem State.fld_rebooted_ready : (s.rebooted kind warm resetting).refreshMain.fld R.sysBootStat F.sysBootStat.READY =
    (s.mainReset kind).fld R.sysBootStat F.sysBootStat.READY := by
  rw [State.fld_refreshMain_ne _ _ _ (by decide)]
  exact State.fld_bootEnter_ready (s.strap_mainReset heff h hsrc)

theorem State.byte_rebooted (a : Nat) : (s.rebooted kind warm resetting).refreshMain.byte a = if s.memKept kind a then s.byte a else 0 := by
  rw [State.refreshMain_regs_only, s.rebooted_state warm resetting heff h hsrc]
  exact s.byte_resetKept a

theorem State.reg_restart {off : Nat} (ho : restartReg off) :
    (s.rebooted kind warm resetting).refreshMain.reg off = if keptBy kind off then s.reg off else Reg.resetOf off := by
  rw [State.reg_refreshMain_ne _ _ (fun e => ho.1 (by rw [e]; exact resetSets_hltStat)), s.reg_rebooted warm resetting heff h hsrc ho]

theorem State.reg_restart_of_kept {off : Nat} (ho : restartReg off) (hkept : keptLoss off = true) :
    (s.rebooted kind warm resetting).refreshMain.reg off = s.reg off := by
  rw [s.reg_restart warm resetting heff h hsrc ho, if_pos (keptBy_of_keptLoss h hkept)]

end

/-! ## Which registers a restart keeps -/

/-- Blocks that a restart resets as a whole: TSQ, GEO, GAIT and IDMA. -/
def inResetBlock (off : Nat) : Prop := 0x8000 ≤ off ∧ off < 0xC000 ∨ 0x14000 ≤ off ∧ off < 0x1C000 ∨ 0x2C000 ≤ off ∧ off < 0x30000

section
variable {off : Nat}

theorem restartReg_of_ranges (h : ¬resetSets off) (hboot : off ≠ R.sysBootStat) (hinfo : off ≠ R.secBootInfo) : restartReg off :=
  ⟨h, by simp [hboot, hinfo]⟩

theorem restartReg_of_inResetBlock (h : inResetBlock off) : restartReg off := by
  simp only [inResetBlock] at h
  refine restartReg_of_ranges ?_ ?_ ?_
  · simp only [resetSets, resetSetsBlocks, R.hltStat]; omega
  · simp only [R.sysBootStat]; omega
  · simp only [R.secBootInfo]; omega

theorem keptLoss_of_inResetBlock (h : inResetBlock off) : keptLoss off = false := by
  simp only [inResetBlock] at h
  simp only [keptLoss, keptAon, Bool.or_eq_false_iff, List.any_eq_false, List.mem_range, beq_eq_false_iff_ne, decide_eq_false_iff_not,
    Bool.or_eq_true, beq_iff_eq, Bool.and_eq_false_iff, List.contains_eq_mem, List.mem_cons, List.not_mem_nil, or_false]
  simp only [R.sysRstCause, R.sysStrap, R.sysIoStat, R.sysClkStat, R.sysPdStat, R.vafVinTrim, R.grpSett, R.grpSetv, R.plAlign, R.shdTrim0, R.auxCalOfs, R.auxCalStat,
    R.dlfCfg, R.dlfTmo, R.dlfForm, R.dlfGuard, R.dlfRekey, R.dlfTimeCfg, R.dlfRwinA, R.dlCtl, R.dlAsym, R.dlPol]
  and_intros <;> intros <;> omega

theorem keptWarm_of_inResetBlock (h : inResetBlock off) : keptWarm off = false := by
  simp only [inResetBlock] at h
  simp only [keptWarm, Bool.or_eq_false_iff, List.any_eq_false, List.mem_range, decide_eq_false_iff_not, List.contains_eq_mem, List.mem_cons,
    List.not_mem_nil, or_false, decide_eq_true_eq]
  simp only [R.dlfStat, R.dlfEpoch, R.dlfLeadUidLo, R.dlfLeadUidHi, R.dlfTimeStat, R.dlfRt, R.dlStat,
    R.dlPeerLo, R.dlPeerHi, R.dlDelay, R.dlCred]
  and_intros <;> intros <;> omega

theorem keptBy_of_inResetBlock {kind : Nat} (h : inResetBlock off) : keptBy kind off = false := by
  have hloss := keptLoss_of_inResetBlock h
  have haon : keptAon off = false := by
    rw [keptLoss] at hloss
    simp only [Bool.or_eq_false_iff] at hloss
    tauto
  rw [keptBy, hloss, keptWarm_of_inResetBlock h, haon]
  simp

theorem restartReg_grp {g : Nat} (hg : g < 4) :
    (restartReg (R.grpSett g) ∧ keptLoss (R.grpSett g) = true) ∧ restartReg (R.grpSetv g) ∧ keptLoss (R.grpSetv g) = true := by
  have hkept : ∀ off, off = R.grpSett g ∨ off = R.grpSetv g → keptLoss off = true := fun off ho => by
    have hany : (List.range 4).any (fun g => off == R.grpSett g || off == R.grpSetv g) = true :=
      List.any_eq_true.mpr ⟨g, List.mem_range.mpr hg, by simpa using ho⟩
    simp [keptLoss, hany]
  refine ⟨⟨restartReg_of_ranges ?_ ?_ ?_, hkept _ (.inl rfl)⟩, restartReg_of_ranges ?_ ?_ ?_, hkept _ (.inr rfl)⟩ <;>
    simp only [resetSets, resetSetsBlocks, R.grpSett, R.grpSetv, R.hltStat, R.sysBootStat, R.secBootInfo] <;> omega

theorem restartReg_shdTrim {i : Nat} (hi : i < 384) : restartReg (R.shdTrim0 i) ∧ keptLoss (R.shdTrim0 i) = true := by
  refine ⟨restartReg_of_ranges ?_ ?_ ?_, ?_⟩
  · simp only [resetSets, resetSetsBlocks, R.shdTrim0, R.hltStat]; omega
  · simp only [R.sysBootStat, R.shdTrim0]; omega
  · simp only [R.secBootInfo, R.shdTrim0]; omega
  · have htrim : decide (R.shdTrim0 0 ≤ R.shdTrim0 i ∧ R.shdTrim0 i < R.shdTrim0 384) = true := decide_eq_true (by simp only [R.shdTrim0]; omega)
    simp [keptLoss, htrim]

theorem restartReg_sysPdStat {m : Nat} (hm : m < 5) : restartReg (R.sysPdStat m) ∧ keptLoss (R.sysPdStat m) = true := by
  refine ⟨restartReg_of_ranges ?_ ?_ ?_, ?_⟩
  · simp only [resetSets, resetSetsBlocks, R.sysPdStat, R.hltStat]; omega
  · simp only [R.sysBootStat, R.sysPdStat]; omega
  · simp only [R.secBootInfo, R.sysPdStat]; omega
  · have hany : (List.range 5).any (fun k => R.sysPdStat m == R.sysPdStat k) = true :=
      List.any_eq_true.mpr ⟨m, List.mem_range.mpr hm, by simp⟩
    simp [keptLoss, hany]

end

end Sys2Proof.Machine

/-!
Lock, loss of lock and relock of the root PLL (R23, R24, R26, R77), and the warm resets (R76, R79, R85).
-/
namespace Sys2Proof.Machine

/-! ## The log and the alerts -/

/-- The registers that an entry of the event log changes. -/
def logRegs : List Nat := R.hltLogCnt :: (List.range 32).flatMap (fun n => [R.hltLogW0 n, R.hltLogW1 n])

theorem logRegs_range : ∀ off ∈ logRegs, 0x340C0 ≤ off ∧ off < 0x34200 := by decide

theorem not_mem_logRegs {off : Nat} (h : off < 0x340C0 ∨ 0x34200 ≤ off) : off ∉ logRegs := fun ho => by
  have := logRegs_range off ho
  omega

section
variable {s : State}

theorem State.logEvent_regsOnly (cause index value : Nat) : s.regsOnly (s.logEvent cause index value) logRegs := by
  have hn : s.fld R.hltLogCnt F.hltLogCnt.NEXT < 32 := BitVec.isLt _
  have hmem : ∀ n < 32, R.hltLogW0 n ∈ logRegs ∧ R.hltLogW1 n ∈ logRegs := by decide
  have hcnt : R.hltLogCnt ∈ logRegs := List.mem_cons_self
  exact ((((State.regsOnly.refl s logRegs).setReg _ (hmem _ hn).1).setReg _ (hmem _ hn).2).countFld _ hcnt).setFld _ _ hcnt

theorem State.alert_frame (s : State) (b : Nat) : s.alert b = { s with
      regs := (s.alert b).regs, hlt := { s.hlt with alertN := (s.alert b).hlt.alertN }, asyncQ := (s.alert b).asyncQ } ∧
    s.regsBut (s.alert b) [R.hltAlert, R.hqeStat] := by
  have hset : s.regsBut (s.setFld R.hltAlert ⟨b, 1⟩ 1) [R.hltAlert, R.hqeStat] := (State.regsBut.refl s _).setFld _ _ (by simp)
  rw [State.alert]
  dsimp only
  split
  · split
    · rw [State.queueAsync]
      split
      · exact ⟨rfl, hset⟩
      · exact ⟨rfl, State.regsBut.setFld hset _ _ (by simp)⟩
    · exact ⟨rfl, hset⟩
  · exact ⟨rfl, hset⟩

theorem State.alert_endsAlike (b : Nat) : s.EndsAlike (s.alert b) := by
  obtain ⟨h, -⟩ := s.alert_frame b
  exact ⟨(congrArg State.work h :), (congrArg (·.fab.releases) h :), (congrArg State.sec h :), (congrArg (fun t => (t.eng 0).inbox) h :),
    (congrArg (·.sys.railsBad) h :), (congrArg (·.sys.porstLow) h :), (congrArg (·.sys.resetting) h :)⟩

theorem State.reg_alert_same {b : Nat} (hb : b < 32) : ((s.alert b).reg R.hltAlert).getLsbD b = true := by
  have hset : ((s.setFld R.hltAlert ⟨b, 1⟩ 1).reg R.hltAlert).getLsbD b = true := by
    rw [State.reg_setFld_same, Fld.put_bit _ _ _ _ (by simp only; omega) hb, if_pos (by simp only; omega), Nat.sub_self]
    rfl
  rw [State.alert]
  dsimp only
  split
  · split
    · rw [State.queueAsync]
      split
      · exact hset
      · rw [State.reg_setFld_ne _ _ _ _ _ (by decide)]
        exact hset
    · exact hset
  · exact hset

end

/-! ## Lock -/

section
variable {s : State}

theorem State.setPd_regsOnly {d m : Nat} (on : Bool) (h : (d - 1) / 32 = m) : s.regsOnly (s.setPd d on) [R.sysPdStat m] :=
  (State.regsOnly.refl s _).setFld _ _ (by rw [h]; simp)

/-- The registers of the default domains' status (Table 2-9). -/
def defaultPdRegs : List Nat := [R.sysPdStat 0, R.sysPdStat 3]

/-- The default domains are off. -/
def State.defaultOff (s : State) : State := (((s.setPd 1 false).setPd 97 false).setPd 127 false).setPd 128 false

theorem State.defaultOff_regsOnly : s.regsOnly s.defaultOff defaultPdRegs := by
  have h0 : [R.sysPdStat 0] ⊆ defaultPdRegs := by simp [defaultPdRegs]
  have h3 : [R.sysPdStat 3] ⊆ defaultPdRegs := by simp [defaultPdRegs]
  exact (((State.setPd_regsOnly false rfl).mono h0).trans ((State.setPd_regsOnly false rfl).mono h3)).trans
    (((State.setPd_regsOnly false rfl).mono h3).trans ((State.setPd_regsOnly false rfl).mono h3))

theorem State.pdOn_defaultOff {d : Nat} (h : d ∈ [1, 97, 127, 128]) : s.defaultOff.pdOn d = false := by
  have hd : 1 ≤ d := by simp only [List.mem_cons, List.not_mem_nil, or_false] at h; omega
  simp only [State.defaultOff, State.pdOn_setPd _ _ _ hd, Nat.one_le_ofNat, le_refl]
  simp only [List.mem_cons, List.not_mem_nil, or_false] at h
  rcases h with rfl | rfl | rfl | rfl <;> simp

variable (hu : s.usual)
include hu

theorem exec_pllLock (hlock : s.fld R.sysClkStat F.sysClkStat.PLL_LOCK = 0) (hreset : s.sys.resetting = 0)
    (hsrc : s.fld R.sysStrap F.sysStrap.BOOT_SRC ≠ 3) :
    ∃ t, exec .pllLock s = .next t ∧ t.settled ∧ t.fld R.sysClkStat F.sysClkStat.PLL_LOCK = 1 ∧
      t.fld R.sysClkStat F.sysClkStat.XTAL_OK = 1 ∧ t.fld R.sysBootStat F.sysBootStat.STAGE = 2 ∧
      t = { s with regs := t.regs, sys := { s.sys with timeStarted := true, pdRising := [1, 97, 127, 128] } } ∧
      (∀ d, d ∈ [1, 97, 127, 128] → t.pdOn d = false) ∧
      (∀ off, off ∉ [R.sysClkStat, R.sysBootStat, R.hltStat, R.secBootInfo, R.sysPdStat 0, R.sysPdStat 3] → t.reg off = s.reg off) := by
  obtain ⟨c, hc⟩ : ∃ c, (s.setFld R.sysClkStat F.sysClkStat.PLL_LOCK 1).setFld R.sysClkStat F.sysClkStat.XTAL_OK 1 = c := ⟨_, rfl⟩
  obtain ⟨y, hy⟩ : ∃ y : Sys, { s.sys with timeStarted := true, pdRising := [1, 97, 127, 128] } = y := ⟨_, rfl⟩
  have hclk : s.regsOnly c [R.sysClkStat] := hc ▸ ((State.regsOnly.refl s _).setFld _ _ (by simp)).setFld _ _ (by simp)
  obtain ⟨v, hv⟩ : ∃ v : State, { c.defaultOff with sys := y } = v := ⟨_, rfl⟩
  have hoff : State.regsOnly { s with sys := y } v ([R.sysClkStat] ++ defaultPdRegs) := by
    rw [← hv]
    exact ((hclk.mono (by simp)).trans ((State.defaultOff_regsOnly (s := c)).mono (by simp))).withSys y
  have hsrcv : v.fld R.sysStrap F.sysStrap.BOOT_SRC ≠ 3 := by rw [hoff.fld (by decide)]; exact hsrc
  have hboot := State.bootEnter_regsOnly hsrcv
  have hframe : State.regsOnly { s with sys := y } v.bootEnter.refreshMain
      [R.sysClkStat, R.sysBootStat, R.hltStat, R.secBootInfo, R.sysPdStat 0, R.sysPdStat 3] :=
    ((hoff.mono (by decide)).trans (hboot.mono (by decide))).trans (State.refreshMain_regsOnly.mono (by decide))
  have hlocks : s.pllLocks = v.bootEnter.refreshMain := by
    have hclksys : c.sys = s.sys := hclk.sys
    rw [State.pllLocks, if_neg (by simp [State.bit_eq_false hlock, hreset, rstAon, rstCold]), if_neg (by simp [hreset, rstLoss]), hc, ← hv, ← hy,
      ← hclksys]
    rfl
  have hquiet : v.bootEnter.refreshMain.quiet := by
    refine State.quiet_of s _ hu.1 (by rw [hframe.1]) (by rw [hframe.1]) (by rw [hframe.1]) (hframe.2 _ (by decide)) ?_
    rw [hframe.1]
    rfl
  have hregv : ∀ o, v.reg o = c.defaultOff.reg o := fun o => by rw [← hv]; rfl
  have hclkfld : ∀ f, v.bootEnter.refreshMain.fld R.sysClkStat f = c.fld R.sysClkStat f := fun f => by
    rw [State.refreshMain_regsOnly.fld (by decide), hboot.fld (by decide), State.fld, hregv,
      (State.defaultOff_regsOnly (s := c)).2 _ (by decide), State.fld]
  refine ⟨_, (congrArg State.done hlocks).trans (State.done_refreshMain hquiet), ?_, ?_, ?_, ?_, ?_, fun d hd => ?_, hframe.2⟩
  · exact State.settled_refreshMain _ (by rw [← State.refreshMain_work]; exact hquiet.1)
  · rw [hclkfld, ← hc, State.fld_setFld_apart _ _ _ _ _ (by decide) (by decide) (by decide), State.fld_setFld _ _ _ _ (by decide)]
    rfl
  · rw [hclkfld, ← hc, State.fld_setFld _ _ _ _ (by decide)]
    rfl
  · rw [State.fld_refreshMain_ne _ _ _ (by decide), State.fld_bootEnter_stage hsrcv]
  · rw [hy]
    exact hframe.1
  · have hpd : ∀ m < 5, v.bootEnter.refreshMain.reg (R.sysPdStat m) = c.defaultOff.reg (R.sysPdStat m) := fun m hm => by
      rw [State.reg_refreshMain_ne _ _ (by simp only [R.sysPdStat, R.hltStat]; omega), hboot.2 _ (by
        simp only [R.sysPdStat, R.sysBootStat, R.secBootInfo, List.mem_cons, List.not_mem_nil, or_false]; omega), hregv]
    have hm : (d - 1) / 32 < 5 := by simp only [List.mem_cons, List.not_mem_nil, or_false] at hd; omega
    rw [State.pdOn, hpd _ hm, ← State.pdOn, State.pdOn_defaultOff hd]

/-! ## Loss of lock -/

/-- The state when lock is lost, before it is logged and raised as an alert (R24). -/
def State.lockLost (s : State) : State :=
  ((s.motorsOff.setFld R.sysClkStat F.sysClkStat.PLL_LOCK 0).countFld R.sysClkStat F.sysClkStat.LOSS_CNT).setFld
    R.sysRstCause F.sysRstCause.PLL_LOSS 1

omit hu in
theorem Table.get_map_of {α : Type} {d : Nat → α} {f : α → α} {p : α → Prop} (hd : ∀ k, p (d k)) (hf : ∀ x, p (f x)) (t : Table α) (k : Nat) :
    p (Table.get d (t.map (fun e => (e.1, f e.2))) k) := by
  induction t with
  | nil => exact hd k
  | cons e r ih =>
    rw [List.map_cons, Table.get]
    split
    · exact hf _
    · exact ih

omit hu in
theorem State.speed_motorsOff (k : Nat) : (s.motorsOff.pathSt k).speed = 0 :=
  Table.get_map_of (d := fun _ => ({} : PathSt)) (f := fun x : PathSt => { x with speed := 0, target := 0, feedSpeed := 0 })
    (p := fun x : PathSt => x.speed = 0) (fun _ => rfl) (fun _ => rfl) s.gait.paths k

omit hu in
theorem State.lockLost_regsOnly : s.motorsOff.regsOnly s.lockLost [R.sysClkStat, R.sysRstCause] :=
  (((State.regsOnly.refl _ _).setFld _ _ (by simp)).countFld _ (by simp)).setFld _ _ (by simp)

omit hu in
theorem State.fld_countFld_same (t : State) (o : Nat) (f : Fld) (h : f.lo + f.width ≤ 32) :
    (t.countFld o f).fld o f = min f.max (t.fld o f + 1) := by
  have hlt : t.fld o f < 2 ^ f.width := BitVec.isLt _
  rw [State.countFld, Fld.max]
  split
  · omega
  · rw [State.fld_setFld _ _ _ _ h, Nat.mod_eq_of_lt (by omega)]
    omega

omit hu in
theorem State.fld_countFld_apart (t : State) (o : Nat) (f g : Fld) (hf : f.lo + f.width ≤ 32) (hg : g.lo + g.width ≤ 32)
    (h : g.lo + g.width ≤ f.lo ∨ f.lo + f.width ≤ g.lo) : (t.countFld o f).fld o g = t.fld o g := by
  rw [State.countFld]
  split
  · rfl
  · exact State.fld_setFld_apart _ _ _ _ _ hf hg h

omit hu in
theorem State.fld_lockLost : s.lockLost.fld R.sysClkStat F.sysClkStat.PLL_LOCK = 0 ∧
    s.lockLost.fld R.sysClkStat F.sysClkStat.LOSS_CNT = min 255 (s.fld R.sysClkStat F.sysClkStat.LOSS_CNT + 1) ∧
    s.lockLost.fld R.sysRstCause F.sysRstCause.PLL_LOSS = 1 := by
  refine ⟨?_, ?_, ?_⟩
  · rw [State.lockLost, State.fld_setFld_ne _ _ _ _ _ _ (by decide), State.fld_countFld_apart _ _ _ _ (by decide) (by decide) (by decide),
      State.fld_setFld _ _ _ _ (by decide)]
    rfl
  · rw [State.lockLost, State.fld_setFld_ne _ _ _ _ _ _ (by decide), State.fld_countFld_same _ _ _ (by decide),
      State.fld_setFld_apart _ _ _ _ _ (by decide) (by decide) (by decide)]
    rfl
  · rw [State.lockLost, State.fld_setFld _ _ _ _ (by decide)]
    rfl

/-- The log entry and the alert of a loss of lock. -/
def State.lossAlerted (s : State) : State := (s.lockLost.logEvent 5 0 (s.lockLost.fld R.sysClkStat F.sysClkStat.LOSS_CNT)).alert 4

omit hu in
/-- What a loss of lock leaves besides registers, motors, LED outputs and the alert. -/
theorem State.lossAlerted_keeps : s.EndsAlike s.lossAlerted ∧ s.lossAlerted.sys = s.sys ∧ s.lossAlerted.mem = s.mem ∧
    s.lossAlerted.streams = s.streams ∧ s.lossAlerted.gait = s.motorsOff.gait ∧ s.lossAlerted.tsq = s.motorsOff.tsq := by
  have hlost := State.lockLost_regsOnly (s := s)
  have hlog := State.logEvent_regsOnly (s := s.lockLost) 5 0 (s.lockLost.fld R.sysClkStat F.sysClkStat.LOSS_CNT)
  obtain ⟨halert, -⟩ := State.alert_frame (s.lockLost.logEvent 5 0 (s.lockLost.fld R.sysClkStat F.sysClkStat.LOSS_CNT)) 4
  have hmotors : s.EndsAlike s.motorsOff := ⟨rfl, rfl, rfl, rfl, rfl, rfl, rfl⟩
  refine ⟨((hmotors.trans hlost.sameBut.endsAlike).trans hlog.sameBut.endsAlike).trans (State.alert_endsAlike 4), ?_, ?_, ?_, ?_, ?_⟩
  · exact (congrArg State.sys halert).trans ((congrArg State.sys hlog.1).trans (congrArg State.sys hlost.1 :))
  · exact (congrArg State.mem halert).trans ((congrArg State.mem hlog.1).trans (congrArg State.mem hlost.1 :))
  · exact (congrArg State.streams halert).trans ((congrArg State.streams hlog.1).trans (congrArg State.streams hlost.1 :))
  · exact (congrArg State.gait halert).trans ((congrArg State.gait hlog.1).trans (congrArg State.gait hlost.1 :))
  · exact (congrArg State.tsq halert).trans ((congrArg State.tsq hlog.1).trans (congrArg State.tsq hlost.1 :))

omit hu in
theorem State.reg_lossAlerted {off : Nat} (hlog : off ∉ logRegs) (halert : off ∉ [R.hltAlert, R.hqeStat]) :
    s.lossAlerted.reg off = s.lockLost.reg off :=
  ((State.alert_frame _ _).2 off halert).trans ((State.logEvent_regsOnly _ _ _).2 off hlog)

theorem exec_pllLossOfLock (hlock : s.fld R.sysClkStat F.sysClkStat.PLL_LOCK = 1) (hreset : s.sys.resetting = 0) :
    ∃ t, exec .pllLossOfLock s = .next t ∧ t.settled ∧ t.fld R.sysClkStat F.sysClkStat.PLL_LOCK = 0 ∧ t.sys.resetting = 3 ∧
      t.fld R.sysRstCause F.sysRstCause.PLL_LOSS = 1 ∧ (t.reg R.hltAlert).getLsbD 4 = true ∧ t.tsq.ls = 0 ∧
      t.fld R.sysClkStat F.sysClkStat.LOSS_CNT = min 255 (s.fld R.sysClkStat F.sysClkStat.LOSS_CNT + 1) ∧
      (∀ k, k < 4 → (t.pathSt k).speed = 0) ∧ t.fld R.hltStat F.hltStat.MAIN_RUN = 0 ∧ t.mem = s.mem ∧ t.streams = s.streams ∧
      (∀ off, off < 0x34000 → off ∉ [R.sysClkStat, R.sysRstCause, R.hqeStat] → t.reg off = s.reg off) := by
  obtain ⟨v, hv⟩ : ∃ v : State, { s.lossAlerted with sys := { s.lossAlerted.sys with resetting := rstLoss, warmActive := false } } = v := ⟨_, rfl⟩
  obtain ⟨hends, hsys, hmem, hstreams, hgait, htsq⟩ := State.lossAlerted_keeps (s := s)
  have hlost : s.pllLost = v.refreshMain := by
    have hcond : s.lossAlerted.sys.resetting = 0 ∨ s.lossAlerted.sys.resetting = rstWarm := .inl (by rw [hsys, hreset])
    rw [State.pllLost, if_neg (by simp [State.bit_eq_true hlock]), ← hv]
    exact congrArg State.refreshMain (if_pos hcond)
  have hregv : ∀ o, v.reg o = s.lossAlerted.reg o := fun o => by rw [← hv]; rfl
  have hreg : ∀ off, off < 0x34000 → off ∉ [R.sysClkStat, R.sysRstCause, R.hqeStat] → v.reg off = s.reg off := by
    intro off hlt hoff
    simp only [List.mem_cons, List.not_mem_nil, or_false, not_or] at hoff
    rw [hregv, State.reg_lossAlerted (not_mem_logRegs (by omega)) (by simp only [R.hltAlert, List.mem_cons, List.not_mem_nil, or_false]; omega),
      State.lockLost_regsOnly.2 off (by simp [hoff])]
    rfl
  have hclk : ∀ o ∈ [R.sysClkStat, R.sysRstCause], v.refreshMain.reg o = s.lockLost.reg o := by
    intro o ho
    simp only [List.mem_cons, List.not_mem_nil, or_false] at ho
    rcases ho with rfl | rfl
    · rw [State.reg_refreshMain_ne _ _ (by decide), hregv, State.reg_lossAlerted (not_mem_logRegs (by decide)) (by decide)]
    · rw [State.reg_refreshMain_ne _ _ (by decide), hregv, State.reg_lossAlerted (not_mem_logRegs (by decide)) (by decide)]
  obtain ⟨hunlocked, hcount, hcause⟩ := State.fld_lockLost (s := s)
  have hquiet : v.quiet := by
    refine State.quiet_of s v hu.1 ?_ ?_ ?_ (hreg _ (by decide) (by decide)) ?_
    · rw [← hv]; exact hends.work
    · rw [← hv]; exact hends.releases
    · rw [← hv]; exact hends.sec
    · rw [← hv]; exact hends.inbox
  have hsettled : v.refreshMain.settled := State.settled_refreshMain _ hquiet.1
  have hreset3 : v.refreshMain.sys.resetting = 3 := by rw [State.refreshMain_sys, ← hv]; rfl
  refine ⟨_, (congrArg State.done hlost).trans (State.done_refreshMain (State.quiet_refreshMain hquiet)), hsettled, ?_, hreset3, ?_, ?_, ?_, ?_,
    fun k _ => ?_, ?_, ?_, ?_, fun off hlt hoff => ?_⟩
  · rw [State.fld, hclk _ (by simp)]; exact hunlocked
  · rw [State.fld, hclk _ (by simp)]; exact hcause
  · rw [State.reg_refreshMain_ne _ _ (by decide), hregv]; exact State.reg_alert_same (by decide)
  · rw [State.refreshMain_regs_only, ← hv]; exact congrArg Tsq.ls htsq
  · rw [State.fld, hclk _ (by simp)]; exact hcount
  · rw [State.refreshMain_regs_only, ← hv]
    exact (congrArg (fun g : Gait => (Table.get (fun _ => ({} : PathSt)) g.paths k).speed) hgait).trans (State.speed_motorsOff k)
  · have hruns : v.refreshMain.mainSideRuns = false := by rw [State.mainSideRuns, hreset3]; simp
    rw [hsettled.2.1, hruns]
    rfl
  · rw [State.refreshMain_regs_only, ← hv]; exact hmem
  · rw [State.refreshMain_regs_only, ← hv]; exact hstreams
  · rw [State.reg_refreshMain_ne _ _ (by simp only [R.hltStat]; omega), hreg off hlt hoff]

end

/-! ## Relock -/

section
variable {s : State} (heff : s.eff = []) (hsrc : s.fld R.sysStrap F.sysStrap.BOOT_SRC ≠ 3)
include heff

omit heff in
theorem Sys.warmActive_keep {y : Sys} {warm : Bool} (resetting : Nat) (h : y.warmActive = warm) :
    { y with resetting := resetting } = { y with resetting := resetting, warmActive := warm } := by rw [← h]

theorem State.sys_mainReset {kind : Nat} (h : rstLoss ≤ kind) : (s.mainReset kind).sys = (s.resetKept kind).sys :=
  (congrArg State.sys (s.mainReset_resetOnly heff h).state :)

include hsrc

theorem exec_clockLossReset (hlock : s.fld R.sysClkStat F.sysClkStat.PLL_LOCK = 1) (hreset : s.sys.resetting = 3) :
    exec .clockLossReset s = .next (s.rebooted rstLoss false 0).refreshMain := by
  refine Eq.trans (congrArg State.done ?_) (s.done_rebooted false 0 heff (le_refl _) hsrc)
  have hwarm : (s.mainReset rstLoss).sys.warmActive = false := by rw [State.sys_mainReset heff (le_refl _)]; rfl
  rw [State.clockLossReset, if_neg (by simp [State.bit_eq_true hlock, hreset, rstLoss]), State.rebooted]
  exact congrArg (fun y => (State.bootEnter { s.mainReset rstLoss with sys := y }).refreshMain) (Sys.warmActive_keep 0 hwarm)

theorem afterRestart_blocks (kind : Nat) (warm : Bool) (resetting : Nat) (h : rstLoss ≤ kind) :
    let t := (s.rebooted kind warm resetting).refreshMain
    t.settled ∧ t.fld R.sysBootStat F.sysBootStat.STAGE = 2 ∧ t.sys.resetting = resetting ∧ t.sys.warmActive = warm ∧ t.sys.time = s.sys.time ∧
      t.pulses = [] ∧ t.tsq = {} ∧ t.gait = {} ∧ t.geo = {} ∧ t.idma = {} ∧ t.streams = [] ∧ t.pending = s.pending := by
  have hstate := s.rebooted_state warm resetting heff h hsrc
  have htime : (s.resetKept kind).sys.time = s.sys.time := if_neg (by simp only [rstLoss, rstCold] at h ⊢; omega)
  refine ⟨s.settled_rebooted warm resetting heff h hsrc, s.fld_rebooted_stage warm resetting heff h hsrc, ?_⟩
  rw [State.refreshMain_regs_only, hstate]
  exact ⟨rfl, rfl, htime, rfl, rfl, rfl, rfl, rfl, rfl, rfl⟩

theorem afterRestart_regs (kind : Nat) (warm : Bool) (resetting : Nat) (h : rstLoss ≤ kind) :
    let t := (s.rebooted kind warm resetting).refreshMain
    (∀ off, inResetBlock off → t.reg off = Reg.resetOf off) ∧
      (∀ g, g < 4 → t.reg (R.grpSett g) = s.reg (R.grpSett g) ∧ t.reg (R.grpSetv g) = s.reg (R.grpSetv g)) ∧
      (∀ i, i < 384 → t.reg (R.shdTrim0 i) = s.reg (R.shdTrim0 i)) := by
  refine ⟨fun off ho => ?_, fun g hg => ?_, fun i hi => ?_⟩
  · rw [s.reg_restart warm resetting heff h hsrc (restartReg_of_inResetBlock ho), keptBy_of_inResetBlock ho, if_neg Bool.false_ne_true]
  · obtain ⟨⟨ht, htk⟩, hv, hvk⟩ := restartReg_grp hg
    exact ⟨s.reg_restart_of_kept warm resetting heff h hsrc ht htk, s.reg_restart_of_kept warm resetting heff h hsrc hv hvk⟩
  · obtain ⟨ht, htk⟩ := restartReg_shdTrim hi
    exact s.reg_restart_of_kept warm resetting heff h hsrc ht htk

end

/-- Settles O11: lock, loss of lock and relock, the last by what a reset that keeps the clocks leaves. -/
theorem clockAndLossOfLock : Obligations.ClockAndLossOfLock := by
  unfold Obligations.ClockAndLossOfLock
  intro s hu
  refine ⟨exec_pllLock hu, exec_pllLossOfLock hu, fun hlock hreset hsrc heff => ?_⟩
  obtain ⟨hsettled, hstage, hresetting, -, htime, hpulses, htsq, hgait, -, -, hstreams, -⟩ := afterRestart_blocks heff hsrc rstLoss false 0 (le_refl _)
  obtain ⟨hblocks, hgrp, htrim⟩ := afterRestart_regs heff hsrc rstLoss false 0 (le_refl _)
  refine ⟨_, exec_clockLossReset heff hsrc hlock hreset, hsettled, hresetting, htime, hstage, hpulses, htsq, hgait, hstreams, fun a => ?_,
    hblocks, hgrp, htrim⟩
  rw [s.byte_rebooted false 0 heff (le_refl _) hsrc]
  refine if_congr ?_ rfl rfl
  simp [State.memKept, rstLoss, rstWarm]

/-! ## Warm resets -/

section
variable {s : State} (hreset : s.sys.resetting = 0) (heff : s.eff = []) (hsrc : s.fld R.sysStrap F.sysStrap.BOOT_SRC ≠ 3)

/-- The state with the cause of a warm reset noted and logged. -/
def State.warmNoted (s : State) (cause : Fld) : State := (s.setFld R.sysRstCause cause 1).logEvent 7 0 0

theorem State.warmNoted_regsOnly (cause : Fld) : s.regsOnly (s.warmNoted cause) (R.sysRstCause :: logRegs) :=
  ((State.regsOnly.refl s _).setFld cause 1 List.mem_cons_self).trans ((State.logEvent_regsOnly 7 0 0).mono (List.subset_cons_self _ _))

theorem State.reg_warmNoted (cause : Fld) {off : Nat} (hne : off ≠ R.sysRstCause) (hlog : off < 0x340C0 ∨ 0x34200 ≤ off) :
    (s.warmNoted cause).reg off = s.reg off :=
  (State.warmNoted_regsOnly cause).2 off (by simp [hne, not_mem_logRegs hlog])

theorem State.fld_warmNoted_cause {cause : Fld} (hc : cause.lo + cause.width ≤ 32) (hw : cause.width = 1) :
    (s.warmNoted cause).fld R.sysRstCause cause = 1 := by
  rw [State.warmNoted, (State.logEvent_regsOnly 7 0 0).fld (not_mem_logRegs (by decide)), State.fld_setFld _ _ _ _ hc, hw]
  rfl

include hreset in
theorem State.warmReset_eq (cause : Fld) :
    s.warmReset cause = ((s.warmNoted cause).rebooted rstWarm true rstWarm).refreshMain := by
  have hidle : ¬(s.setFld R.sysRstCause cause 1).sys.resetting ≠ 0 := fun h => h hreset
  rw [State.warmReset]
  exact if_neg hidle

include hreset heff hsrc

theorem done_warmReset {cause : Fld} (hc : cause.lo + cause.width ≤ 32) (hw : cause.width = 1) :
    ∃ t, State.done (s.warmReset cause) = .next t ∧ AfterWarmReset s t cause := by
  obtain ⟨v, hv⟩ : ∃ v, s.warmNoted cause = v := ⟨_, rfl⟩
  have hnote : s.regsOnly v (R.sysRstCause :: logRegs) := hv ▸ State.warmNoted_regsOnly cause
  have hreg : ∀ {off}, off ≠ R.sysRstCause → off < 0x340C0 ∨ 0x34200 ≤ off → v.reg off = s.reg off := fun hne hlog =>
    hv ▸ State.reg_warmNoted cause hne hlog
  have hveff : v.eff = [] := (congrArg State.eff hnote.1).trans heff
  have hvsrc : v.fld R.sysStrap F.sysStrap.BOOT_SRC ≠ 3 := by rw [State.fld, hreg (by decide) (by decide)]; exact hsrc
  have hpd : ∀ d, 1 ≤ d → d ≤ 160 → v.pdOn d = s.pdOn d := fun d hd hle => by
    rw [State.pdOn, hreg (by simp only [R.sysPdStat, R.sysRstCause]; omega) (by simp only [R.sysPdStat]; omega), State.pdOn]
  have hbyte : ∀ a, v.byte a = s.byte a := fun a => by rw [hnote.1]; rfl
  have hwarm : rstLoss ≤ rstWarm := by decide
  obtain ⟨hsettled, hstage, hresetting, hactive, htime, hpulses, htsq, hgait, hgeo, hidma, hstreams, hpending⟩ :=
    afterRestart_blocks hveff hvsrc rstWarm true rstWarm hwarm
  obtain ⟨hblocks, hgrp, -⟩ := afterRestart_regs hveff hvsrc rstWarm true rstWarm hwarm
  have hdone := v.done_rebooted true rstWarm hveff hwarm hvsrc
  refine ⟨_, (congrArg State.done (by rw [State.warmReset_eq hreset, hv])).trans hdone, hsettled, hresetting, hactive,
    htime.trans (by rw [hnote.sys]), ?_, hstage, ?_, hpulses, hstreams, htsq, hgeo, hgait, hidma, hpending.trans (by rw [hnote.1]),
    fun a => ?_, fun d hd hle => ?_, hblocks, fun g hg => ?_⟩
  · have hcause : restartReg R.sysRstCause := restartReg_of_ranges
      (by simp only [resetSets, resetSetsBlocks, R.sysRstCause, R.hltStat]; omega) (by decide) (by decide)
    rw [State.fld, v.reg_restart_of_kept true rstWarm hveff hwarm hvsrc hcause (by decide), ← hv, ← State.fld, State.fld_warmNoted_cause hc hw]
  · have hlost : keptBy rstWarm R.sysBootStat = false ∧ F.sysBootStat.READY.get (Reg.resetOf R.sysBootStat) = 0 := by decide +kernel
    rw [v.fld_rebooted_ready true rstWarm hveff hwarm hvsrc]
    have hboot := v.reg_mainReset hveff hwarm (off := R.sysBootStat) (by simp only [resetSets, resetSetsBlocks, R.sysBootStat, R.hltStat]; omega)
    rw [hlost.1, if_neg Bool.false_ne_true] at hboot
    exact (congrArg F.sysBootStat.READY.get hboot).trans hlost.2
  · rw [v.byte_rebooted true rstWarm hveff hwarm hvsrc, hbyte]
    refine if_congr ?_ rfl rfl
    simp [State.memKept, rstLoss, rstWarm, or_comm, hpd 130 (by decide) (by decide)]
  · obtain ⟨hrest, hkept⟩ := restartReg_sysPdStat (m := (d - 1) / 32) (by omega)
    rw [State.pdOn, v.reg_restart_of_kept true rstWarm hveff hwarm hvsrc hrest hkept, ← State.pdOn, hpd d hd (by omega)]
  · obtain ⟨ht, hvg⟩ := hgrp g hg
    exact ⟨ht.trans (hreg (by simp only [R.grpSett, R.sysRstCause]; omega) (by simp only [R.grpSett]; omega)),
      hvg.trans (hreg (by simp only [R.grpSetv, R.sysRstCause]; omega) (by simp only [R.grpSetv]; omega))⟩

end

theorem State.done_cfgRetry {s : State} (hu : s.usual) (b : Bool) :
    State.done { s with hqe := { s.hqe with cfgRetry := some b } } = .next { s with hqe := { s.hqe with cfgRetry := some b } } :=
  State.done_of_endsAlike (l := []) hu ⟨rfl, rfl, rfl, rfl, rfl, rfl, rfl⟩ (State.regsBut_of_regs _ rfl) (endIgnores_of (by simp))

/-- Settles O13: the warm resets by what a reset that keeps the clocks leaves, and the configuration request by READY. -/
theorem warmResets : Obligations.WarmResets := by
  unfold Obligations.WarmResets
  intro s hreset heff hsrc
  refine ⟨fun path hacc hmirror => ?_, done_warmReset hreset heff hsrc (by decide) rfl, done_warmReset hreset heff hsrc (by decide) rfl,
    fun hu hready => ?_, fun hu hready hboot => ?_⟩
  · have hexec : exec (.warmReset path) s = State.done (s.warmReset F.sysRstCause.WARM) := by
      refine congrArg State.done ((State.onWrite_of _ _ _ _ hacc).trans ?_)
      rw [State.rstCtlWrite, hmirror]
      rfl
    rw [hexec]
    exact done_warmReset hreset heff hsrc (by decide) rfl
  · refine Eq.trans (congrArg State.done ?_) (State.done_cfgRetry hu false)
    rw [State.configRequest, State.bit_eq_true hready]
    rfl
  · refine Eq.trans (congrArg State.done ?_) (State.done_cfgRetry hu true)
    rw [State.configRequest, State.bit_eq_false hready, hboot]
    rfl

end Sys2Proof.Machine

/-!
Why cold resets do not note their cause in every state: a register that a reset keeps holds afterwards the value it had last put
into effect (R13), and a state may hold an older effective value of SYS.RST_CAUSE than the one that the reset writes.
-/
namespace Sys2Proof.Machine

/-- A state in which SYS.RST_CAUSE has another value in effect than a write leaves in it. -/
def latchedCause : State := { State.reset with eff := [(R.sysRstCause, 0)] }

theorem exec_mainRailUndervoltage {s : State} (rail : Fin 11) (mv : BitVec 16) :
    exec (.mainRailUndervoltage rail mv) s = .next (s.railTrip rail mv.toNat).settle := rfl

/-- Refutes O12: a rail leaves its limits, and SYS.RST_CAUSE.UV_MAIN reads 0 after the cold reset, since the reset brings back the value
of SYS.RST_CAUSE that was in effect before it. -/
theorem not_coldResets : ¬ Obligations.ColdResets := by
  unfold Obligations.ColdResets
  intro h
  obtain ⟨hrail, -⟩ := h latchedCause
  obtain ⟨t, hexec, -, -, -, hcause, -⟩ := hrail 0 0 (by decide)
  rw [exec_mainRailUndervoltage, Host.Outcome.next.injEq] at hexec
  have hnone : (latchedCause.railTrip 0 0).settle.fld R.sysRstCause F.sysRstCause.UV_MAIN = 0 := by decide +kernel
  rw [← hexec] at hcause
  exact absurd (hnone.symm.trans hcause) (by decide)

end Sys2Proof.Machine

/-!
A write of a busy block's register that leaves its Idle only fields as they are (R11), and 64-bit signed values held in two registers.
-/
namespace Sys2Proof.Machine

/-! ## Writes of a busy block -/

/-- The row as a busy block takes it: its Idle only fields are not writable. -/
def RegRow.nowOnly (row : RegRow) : RegRow := { row with rwIdle := 0 }

/-- A busy block's register takes a write that leaves the Idle only fields alone as if it had none. -/
theorem State.writeRow_busy (s : State) (path : Path) (off : Nat) (row : RegRow) (w : Word)
    (h : (s.reg off ^^^ w) &&& BitVec.ofNat 32 row.rwIdle = 0) :
    s.writeRow path off row w true = s.writeRow path off row.nowOnly w false := by
  have hsame : ¬(true && decide ((s.reg off ^^^ w) &&& BitVec.ofNat 32 row.rwIdle ≠ 0)) = true := by simp [h]
  have hbusy : ¬(false && decide ((s.reg off ^^^ w) &&& BitVec.ofNat 32 row.nowOnly.rwIdle ≠ 0)) = true := by simp
  rw [State.writeRow, if_neg hsame, State.writeRow, if_neg hbusy]
  rfl

/-- A write that would change an Idle only field of a busy block leaves those fields and is reported. -/
theorem State.writeRow_busy_changed (s : State) (path : Path) (off : Nat) (row : RegRow) (w : Word)
    (h : (s.reg off ^^^ w) &&& BitVec.ofNat 32 row.rwIdle ≠ 0) :
    s.writeRow path off row w true = (s.writeRow path off row.nowOnly w false).errIdle path off := by
  have hchanged : (true && decide ((s.reg off ^^^ w) &&& BitVec.ofNat 32 row.rwIdle ≠ 0)) = true := by simpa using h
  have hbusy : ¬(false && decide ((s.reg off ^^^ w) &&& BitVec.ofNat 32 row.nowOnly.rwIdle ≠ 0)) = true := by simp
  rw [State.writeRow, if_pos hchanged, State.writeRow, if_neg hbusy]
  rfl

/-- A write that takes nothing and clears nothing leaves the register as it is. -/
theorem RegRow.written_of_takes_none {row : RegRow} (htakes : row.takes = 0) (hclear : BitVec.ofNat 32 row.w1c = 0) (old w : Word) :
    row.written old w = old := by
  refine BitVec.eq_of_getLsbD_eq fun i hi => ?_
  rw [RegRow.written_bit _ _ _ hi, htakes, hclear]
  simp

/-- A field changed apart from the bits of a mask changes none of them. -/
theorem Fld.xor_put_and (f : Fld) (w m : Word) (x : Nat) (hf : f.lo + f.width ≤ 32)
    (hm : ∀ i, f.lo ≤ i → i < f.lo + f.width → m.getLsbD i = false) : (w ^^^ f.put w x) &&& m = 0 := by
  refine BitVec.eq_of_getLsbD_eq fun i hi => ?_
  rw [BitVec.getLsbD_and, BitVec.getLsbD_xor, Fld.put_bit f w x i hf hi]
  split
  · next h => simp [hm i h.1 h.2]
  · simp

/-! ## 64-bit values -/

theorem signed_unsigned {n : Nat} (hn : 0 < n) {i : Int} (hlo : -((2 ^ (n - 1) : Nat) : Int) ≤ i) (hhi : i < ((2 ^ (n - 1) : Nat) : Int)) :
    signed n (unsigned n i) = i := by
  have hpow : 2 ^ n = 2 * 2 ^ (n - 1) := by rw [← Nat.pow_succ', Nat.succ_eq_add_one, Nat.sub_add_cancel hn]
  obtain ⟨m, hm⟩ : ∃ m, 2 ^ (n - 1) = m := ⟨_, rfl⟩
  rw [signed, unsigned, hpow, hm]
  rw [hm] at hlo hhi
  by_cases hneg : i < 0
  · have hmod : i % ((2 * m : Nat) : Int) = i + ((2 * m : Nat) : Int) := by
      rw [← Int.add_emod_right, Int.emod_eq_of_lt (by omega) (by omega)]
    rw [hmod, Nat.mod_eq_of_lt (by omega), if_neg (by omega)]
    omega
  · have hmod : i % ((2 * m : Nat) : Int) = i := Int.emod_eq_of_lt (by omega) (by omega)
    rw [hmod, Nat.mod_eq_of_lt (by omega), if_pos (by omega)]
    omega

theorem unsigned_lt (n : Nat) (i : Int) : unsigned n i < 2 ^ n := by
  have hpos : (0 : Int) < ((2 ^ n : Nat) : Int) := by exact_mod_cast Nat.two_pow_pos n
  have hlt := Int.emod_lt_of_pos i hpos
  have hge := Int.emod_nonneg i (ne_of_gt hpos)
  rw [unsigned]
  omega

/-- The two halves of a value set in two registers give the value. -/
theorem State.reg64_setReg64 (s : State) (lo hi v : Nat) (h : lo ≠ hi) (hv : v < 2 ^ 64) : (s.setReg64 lo hi v).reg64 lo hi = v := by
  rw [State.reg64, State.reg_setReg64 _ _ _ _ _ h, State.reg_setReg64 _ _ _ _ _ h, if_pos rfl, if_neg h.symm, if_pos rfl,
    BitVec.toNat_ofNat, BitVec.toNat_ofNat, Nat.shiftRight_eq_div_pow]
  omega

/-- A signed value set in two registers is read back from them. -/
theorem State.signed_reg64_setReg64 (s : State) (lo hi : Nat) (i : Int) (h : lo ≠ hi) (hlo : -2 ^ 63 ≤ i) (hhi : i < 2 ^ 63) :
    signed 64 ((s.setReg64 lo hi (unsigned 64 i)).reg64 lo hi) = i := by
  rw [State.reg64_setReg64 _ _ _ _ h (unsigned_lt _ _), signed_unsigned (by decide) (by simpa using hlo) (by simpa using hhi)]

end Sys2Proof.Machine

/-!
The operations of the timing sequencer: what they change beside registers, and that with no shading group in use nothing follows from
them outside it.
-/
namespace Sys2Proof.Machine

/-! ## The frame of the timing sequencer -/

/-- `t` differs from `s` in TSQ's state and in the registers at `l`. -/
structure State.TsqOnly (s t : State) (l : List Nat) : Prop where
  state : t = { s with regs := t.regs, tsq := t.tsq }
  reg : s.regsBut t l

namespace State.TsqOnly
variable {s t u : State} {l m : List Nat}

theorem refl (s : State) (l : List Nat) : s.TsqOnly s l := ⟨rfl, .refl s l⟩

theorem trans (h : s.TsqOnly t l) (h' : t.TsqOnly u l) : s.TsqOnly u l := ⟨h'.state.trans (by rw [h.state]), h.reg.trans h'.reg⟩

theorem mono (h : s.TsqOnly t l) (hl : l ⊆ m) : s.TsqOnly t m := ⟨h.state, h.reg.mono hl⟩

theorem setTsq (h : s.TsqOnly t l) (x : Tsq) : s.TsqOnly { t with tsq := x } l := h.trans ⟨rfl, fun _ _ => rfl⟩

theorem setLp (h : s.TsqOnly t l) (p : Nat) (x : Lp) : s.TsqOnly (t.setLp p x) l := h.setTsq _

theorem setReg (h : s.TsqOnly t l) {o : Nat} (w : Word) (ho : o ∈ l) : s.TsqOnly (t.setReg o w) l :=
  h.trans ⟨rfl, (State.regsBut.refl t l).setReg w ho⟩

theorem setFld (h : s.TsqOnly t l) {o : Nat} (f : Fld) (x : Nat) (ho : o ∈ l) : s.TsqOnly (t.setFld o f x) l := h.setReg _ ho

theorem count (h : s.TsqOnly t l) {o : Nat} (ho : o ∈ l) : s.TsqOnly (t.count o) l := h.setReg _ ho

theorem fire (h : s.TsqOnly t l) (ev : Nat) : (s.fire ev).TsqOnly (t.fire ev) l := ⟨by rw [h.state]; rfl, h.reg⟩

theorem fld (h : s.TsqOnly t l) {off : Nat} (ho : off ∉ l) (f : Fld) : t.fld off f = s.fld off f := h.reg.fld ho f

theorem eff (h : s.TsqOnly t l) : t.eff = s.eff := (congrArg State.eff h.state :)

theorem effReg (h : s.TsqOnly t l) {off : Nat} (ho : off ∉ l) : t.effReg off = s.effReg off := by
  have hget : ∀ e : Table Word, Table.get t.reg e off = Table.get s.reg e off := by
    intro e
    induction e with
    | nil => exact h.reg off ho
    | cons x r ih => rw [Table.get, Table.get, ih]
  rw [State.effReg, State.effReg, h.eff, hget]

theorem endsAlike (h : s.TsqOnly t l) : s.EndsAlike t := State.endsAlike_of (by rw [h.state])

/-- A command that changes TSQ and its registers only ends with its effect. -/
theorem done (h : s.TsqOnly t l) (hu : s.usual) (hl : endIgnores l) : State.done t = .next t :=
  State.done_of_endsAlike hu h.endsAlike h.reg hl

end State.TsqOnly

/-! ## Reads of a line program after other updates -/

section
variable (s : State) (p q : Nat)

@[simp] theorem State.lp_setReg (o : Nat) (w : Word) : (s.setReg o w).lp q = s.lp q := rfl
@[simp] theorem State.lp_setFld (o : Nat) (f : Fld) (x : Nat) : (s.setFld o f x).lp q = s.lp q := rfl
@[simp] theorem State.lp_count (o : Nat) : (s.count o).lp q = s.lp q := rfl
@[simp] theorem State.lp_fire (ev : Nat) : (s.fire ev).lp q = s.lp q := rfl
@[simp] theorem State.lp_setBusy (v : Nat) : (s.setBusy p v).lp q = s.lp q := rfl
@[simp] theorem State.lp_setFlushing (v : Nat) : (s.setFlushing p v).lp q = s.lp q := rfl
@[simp] theorem State.lp_driveTg (mask levels : Nat) : (s.driveTg mask levels).lp q = s.lp q := rfl
@[simp] theorem State.lp_driveLs : s.driveLs.lp q = s.lp q := rfl
@[simp] theorem State.lp_setLp_same (x : Lp) : (s.setLp p x).lp p = x := (s.lp_setLp p x p).trans (if_pos rfl)

theorem State.lp_setLp_ne (x : Lp) {q : Nat} (h : q ≠ p) : (s.setLp p x).lp q = s.lp q := (s.lp_setLp p x q).trans (if_neg h)

/-- Driving shutters changes levels of timing outputs only. -/
theorem State.driveShutters_tg : ∃ tg, s.driveShutters p = { s with tsq := { s.tsq with tg := tg } } := by
  rw [State.driveShutters]
  split
  · exact ⟨s.tsq.tg, rfl⟩
  · refine List.foldlRecOn (motive := fun t : State => ∃ tg, t = { s with tsq := { s.tsq with tg := tg } }) _ _ ⟨s.tsq.tg, rfl⟩ ?_
    rintro t ⟨tg, rfl⟩ e -
    exact ⟨_, rfl⟩

@[simp] theorem State.lp_driveShutters : (s.driveShutters p).lp q = s.lp q := by
  obtain ⟨tg, h⟩ := s.driveShutters_tg p
  rw [h]
  rfl

theorem State.driveShutters_of_none (h : s.shutters p = []) : s.driveShutters p = s := by
  rw [State.driveShutters]
  split
  · rfl
  · dsimp only
    rw [h, List.foldl_nil]

theorem State.TsqOnly.driveTg {s u : State} {l : List Nat} (h : u.TsqOnly s l) (mask levels : Nat) : u.TsqOnly (s.driveTg mask levels) l :=
  h.setTsq _

theorem State.TsqOnly.driveLs {s u : State} {l : List Nat} (h : u.TsqOnly s l) : u.TsqOnly s.driveLs l := h.setTsq _

theorem State.TsqOnly.driveShutters {s u : State} {l : List Nat} (h : u.TsqOnly s l) (p : Nat) : u.TsqOnly (s.driveShutters p) l := by
  obtain ⟨tg, hs⟩ := s.driveShutters_tg p
  rw [hs]
  exact h.setTsq _

theorem State.TsqOnly.driveIdle {s u : State} {l : List Nat} (h : u.TsqOnly s l) (p : Nat) : u.TsqOnly (s.driveIdle p) l :=
  (((h.setLp p _).driveTg _ _).driveShutters p).driveLs

/-- A level of a timing output after outputs of a mask are driven (R89). -/
theorem State.tg_driveTg (mask levels n : Nat) (hn : n < 24) :
    (s.driveTg mask levels).tsq.tg.getLsbD n = if mask.testBit n then levels.testBit n else s.tsq.tg.getLsbD n := by
  have htg : (s.driveTg mask levels).tsq.tg =
    (s.tsq.tg &&& ~~~(BitVec.ofNat 24 mask)) ||| (BitVec.ofNat 24 levels &&& BitVec.ofNat 24 mask) := rfl
  rw [htg]
  simp only [BitVec.getLsbD_or, BitVec.getLsbD_and, BitVec.getLsbD_not, BitVec.getLsbD_ofNat, hn, decide_true, Bool.true_and]
  cases mask.testBit n <;> simp

end

/-! ## A program's phases -/

section
variable (l : Lp) (k j : Nat) (x : Phase)

theorem Lp.phase_setPhase : (l.setPhase k x).phase j = if j = k then x else l.phase j := Table.get_set _ _ _ _ _

/-- Closing every window of a program leaves no window open. -/
theorem Lp.phase_closed : (Lp.phase { l with phases := l.phases.map (fun e => (e.1, { e.2 with win := .closed })) } k).win = .closed :=
  Table.get_map_of (d := fun _ => ({} : Phase)) (f := fun x : Phase => { x with win := .closed })
    (p := fun x : Phase => x.win = .closed) (fun _ => rfl) (fun _ => rfl) l.phases k

end

/-! ## No shading group in use -/

/-- No shading group is enabled. -/
def State.Groupless (s : State) : Prop := ∀ g, g < 4 → s.fld (R.grpCtl g) F.grpCtl.EN = 0

namespace State.Groupless
variable {s t : State} (h : s.Groupless)
include h

theorem of_reg (ht : ∀ g, g < 4 → t.reg (R.grpCtl g) = s.reg (R.grpCtl g)) : t.Groupless := fun g hg => by
  rw [State.fld, ht g hg]
  exact h g hg

theorem bit {g : Nat} (hg : g < 4) : s.bit (R.grpCtl g) F.grpCtl.EN = false := State.bit_eq_false (h g hg)

theorem groupsOf (p : Nat) : s.groupsOf p = [] := by
  rw [State.groupsOf, List.filter_eq_nil_iff]
  intro g hg
  simp [h.bit (List.mem_range.mp hg)]

theorem programPlanes (p : Nat) : s.programPlanes p = 0 := by rw [State.programPlanes, h.groupsOf]; rfl

theorem deliverReady (p : Nat) : s.deliverReady p = s := by rw [State.deliverReady, h.groupsOf, List.foldl_nil]

theorem darkLine (p : Nat) : s.darkLine p = false := by rw [State.darkLine, h.groupsOf]; rfl

theorem triggerGroups (p y : Nat) (pos : Int) : s.triggerGroups p y pos = s := by rw [State.triggerGroups, h.groupsOf, List.foldl_nil]

theorem listPlanes (y cause index mask : Nat) : s.listPlanes y cause index mask = s := by
  refine List.foldlRecOn (motive := fun t : State => t = s) _ _ rfl fun t ht g hg => ?_
  subst ht
  dsimp only
  rw [h.bit (List.mem_range.mp hg)]
  exact if_neg (by simp)

theorem lineExc (p y cause index mask : Nat) (hy : y < overlapBase) : s.lineExc p y cause index mask = s := by
  rw [State.lineExc, if_neg (Nat.not_le.mpr hy), h.listPlanes]

end State.Groupless

section
variable (s : State) (p y : Nat)

/-- A line of no plane repeats nothing. -/
theorem State.queueRepeat_none : s.queueRepeat p y 0 = s := by
  have hfresh : (List.range 48).foldl (fun m n =>
      if (0 : Nat).testBit n && !((s.planeLines n).any (fun e => e.y == y && e.done)) then m + 2 ^ n else m) 0 = 0 :=
    List.foldlRecOn (motive := fun m => m = 0) _ _ rfl fun m hm n _ => by simp [hm]
  rw [State.queueRepeat]
  exact if_pos hfresh

/-- A line of no plane drops nothing. -/
theorem State.dropLine_none : s.dropLine p y 0 = s := by
  have hfifo : s.vaf.fifo.filter (fun sm => !(sm.lp == p && sm.line == y && (0 : Nat).testBit sm.plane)) = s.vaf.fifo :=
    List.filter_eq_self.mpr fun sm _ => by simp
  have hbits : setBits 0 48 = [] := by decide
  rw [State.dropLine, hfifo, hbits]
  rfl

end

/-- The levels of the LS outputs when no dark line is taken (R91). -/
def State.lsMask (s : State) : Nat :=
  (List.range 8).foldl (fun a p => (List.range 6).foldl (fun b k =>
    if ((s.lp p).phase k).win == .opened then b ||| s.effFld (R.lpPhCfg p k) F.lpPhCfg.LS else b) a) 0

theorem State.Groupless.ls_driveLs {s : State} (h : s.Groupless) : s.driveLs.tsq.ls = BitVec.ofNat 12 s.lsMask := by
  have hmask : ∀ f : Nat → Nat → Nat, (List.range 8).foldl (fun a p => if s.darkLine p then a else f a p) 0 = (List.range 8).foldl f 0 := by
    intro f
    congr 1
    funext a p
    rw [h.darkLine, if_neg Bool.false_ne_true]
  rw [State.lsMask, ← hmask]
  rfl

/-- A fold of unions holds every bit of each of its parts. -/
theorem foldl_lor_testBit {α : Type} (f : Nat → α → Nat) (hf : ∀ a x n, a.testBit n = true → (f a x).testBit n = true) {l : List α} {x : α}
    (hx : x ∈ l) (a n : Nat) (h : ∀ a, (f a x).testBit n = true) : (l.foldl f a).testBit n = true := by
  have hmono : ∀ (r : List α) (a : Nat), a.testBit n = true → (r.foldl f a).testBit n = true := fun r a ha =>
    List.foldlRecOn (motive := fun b => b.testBit n = true) r f ha fun b hb y _ => hf b y n hb
  obtain ⟨l₁, l₂, rfl⟩ := List.append_of_mem hx
  rw [List.foldl_append, List.foldl_cons]
  exact hmono _ _ (h _)

/-- An open window raises the LS outputs that its phase names. -/
theorem State.testBit_lsMask {s : State} {p k n : Nat} (hp : p < 8) (hk : k < 6) (hwin : ((s.lp p).phase k).win = .opened)
    (hls : (s.effFld (R.lpPhCfg p k) F.lpPhCfg.LS).testBit n = true) : s.lsMask.testBit n = true := by
  have hstep : ∀ q b j n, b.testBit n = true →
      (if ((s.lp q).phase j).win == .opened then b ||| s.effFld (R.lpPhCfg q j) F.lpPhCfg.LS else b).testBit n = true := by
    intro q b j n hb
    split
    · rw [Nat.testBit_or, hb, Bool.true_or]
    · exact hb
  refine foldl_lor_testBit _ (fun a q n ha => ?_) (List.mem_range.mpr hp) _ _ fun a => ?_
  · exact List.foldlRecOn (motive := fun b => b.testBit n = true) _ _ ha fun b hb j _ => hstep q b j n hb
  · refine foldl_lor_testBit _ (hstep p) (List.mem_range.mpr hk) _ _ fun b => ?_
    rw [hwin]
    simp [hls]

/-- With every window closed the LS outputs are low. -/
theorem State.lsMask_eq_zero {s : State} (h : ∀ p k, p < 8 → k < 6 → ((s.lp p).phase k).win ≠ .opened) : s.lsMask = 0 := by
  refine List.foldlRecOn (motive := fun a => a = 0) _ _ rfl fun a ha p hp => ?_
  refine List.foldlRecOn (motive := fun b => b = 0) _ _ ha fun b hb k hk => ?_
  rw [if_neg (by simpa using h p k (List.mem_range.mp hp) (List.mem_range.mp hk))]
  exact hb

end Sys2Proof.Machine

/-!
The exposure windows of a phase (R91, R106).
-/
namespace Sys2Proof.Machine

section
variable (s : State) (p k : Nat) (x : Phase)

/-- Replacing a phase and driving the shutters and the LS outputs after it. -/
def State.phaseDriven (s : State) (p k : Nat) (x : Phase) : State :=
  ((s.setLp p ((s.lp p).setPhase k x)).driveShutters p).driveLs

theorem State.phaseDriven_tsq : s.phaseDriven p k x = { s with tsq := (s.phaseDriven p k x).tsq } := by
  obtain ⟨tg, h⟩ := (s.setLp p ((s.lp p).setPhase k x)).driveShutters_tg p
  rw [State.phaseDriven, h]
  rfl

theorem State.phaseDriven_tsqOnly : s.TsqOnly (s.phaseDriven p k x) [] := (((State.TsqOnly.refl s []).setLp _ _).driveShutters p).driveLs

theorem State.lp_phaseDriven_same : (s.phaseDriven p k x).lp p = (s.lp p).setPhase k x := by
  rw [State.phaseDriven, State.lp_driveLs, State.lp_driveShutters, State.lp_setLp_same]

theorem State.lp_phaseDriven_ne {q : Nat} (h : q ≠ p) : (s.phaseDriven p k x).lp q = s.lp q := by
  rw [State.phaseDriven, State.lp_driveLs, State.lp_driveShutters, State.lp_setLp_ne _ _ _ h]

theorem State.phase_phaseDriven (j : Nat) : ((s.phaseDriven p k x).lp p).phase j = if j = k then x else (s.lp p).phase j := by
  rw [State.lp_phaseDriven_same, Lp.phase_setPhase]

/-- What follows once the LS outputs are driven: the state they are driven from has the same windows. -/
theorem State.Groupless.ls_phaseDriven {s : State} (h : s.Groupless) (p k : Nat) (x : Phase) :
    (s.phaseDriven p k x).tsq.ls = BitVec.ofNat 12 (s.phaseDriven p k x).lsMask := by
  have hpre : ((s.setLp p ((s.lp p).setPhase k x)).driveShutters p).Groupless := h.of_reg fun g _ =>
    (((State.TsqOnly.refl s []).setLp p _).driveShutters p).reg _ List.not_mem_nil
  exact hpre.ls_driveLs

theorem State.phaseDriven_done (hu : s.usual) : State.done (s.phaseDriven p k x) = .next (s.phaseDriven p k x) :=
  (s.phaseDriven_tsqOnly p k x).done hu (endIgnores_of (by simp))

end

/-- Settles O17: a window's phase is replaced, and the LS outputs show the windows that are then open. -/
theorem exposureWindows : Obligations.ExposureWindows := by
  unfold Obligations.ExposureWindows
  intro s p k hu hgroupless
  have hg : s.Groupless := hgroupless
  refine ⟨fun hwin => ?_, fun hwin hended => ?_⟩
  · have hexec : exec (.phaseWindowOpen p k) s = State.done (s.phaseDriven p k { (s.lp p).phase k with win := .opened }) :=
      congrArg State.done (if_pos (by rw [hwin]; rfl))
    have hphase := s.phase_phaseDriven p k { (s.lp p).phase k with win := .opened }
    refine ⟨_, hexec.trans (s.phaseDriven_done _ _ _ hu), s.phaseDriven_tsq _ _ _, (hphase k).trans (if_pos rfl),
      fun j hj => (hphase j).trans (if_neg hj), fun q hq => s.lp_phaseDriven_ne _ _ _ hq, fun n hn hls => ?_⟩
    rw [hg.ls_phaseDriven, BitVec.getLsbD_ofNat, State.testBit_lsMask p.isLt k.isLt, decide_eq_true hn, Bool.true_and]
    · rw [hphase, if_pos rfl]
    · rw [State.effFld, (s.phaseDriven_tsqOnly _ _ _).effReg List.not_mem_nil]
      exact hls
  · have hlp := s.lp_phaseDriven_same p k { (s.lp p).phase k with win := .closed }
    have hexec : exec (.phaseWindowClose p k) s = State.done (s.phaseDriven p k { (s.lp p).phase k with win := .closed }) := by
      refine congrArg State.done ((if_pos (by rw [hwin]; rfl)).trans (if_neg ?_))
      change ¬(((s.phaseDriven p k { (s.lp p).phase k with win := .closed }).lp p).run != .idle &&
        ((s.phaseDriven p k { (s.lp p).phase k with win := .closed }).lp p).ended && _) = true
      rw [hlp, Lp.setPhase, hended]
      simp
    have hphase := s.phase_phaseDriven p k { (s.lp p).phase k with win := .closed }
    refine ⟨_, hexec.trans (s.phaseDriven_done _ _ _ hu), s.phaseDriven_tsq _ _ _, (hphase k).trans (if_pos rfl),
      fun q hq => s.lp_phaseDriven_ne _ _ _ hq, fun hlast => ?_⟩
    refine (hg.ls_phaseDriven _ _ _).trans (congrArg (BitVec.ofNat 12) (State.lsMask_eq_zero fun q j hq hj => ?_))
    by_cases hqp : q = p.val
    · by_cases hjk : j = k.val
      · rw [hqp, hjk, hphase, if_pos rfl]
        simp
      · rw [hqp, hphase, if_neg hjk]
        exact hlast p j p.isLt hj (.inr hjk)
    · rw [s.lp_phaseDriven_ne _ _ _ hqp]
      exact hlast q j hq hj (.inl hqp)

end Sys2Proof.Machine

/-!
The microcode of a line program (R93-R99, R109): each instruction, the end of a line, and a fault.
-/
namespace Sys2Proof.Machine

/-! ## An instruction done -/

section
variable (s : State) (p pc cycle : Nat)

theorem State.advance_tsqOnly : s.TsqOnly (s.advance p pc cycle) [R.lpStat p] :=
  ((State.TsqOnly.refl s _).setLp p _).setFld _ _ (List.mem_singleton_self _)

@[simp] theorem State.lp_advance_same : (s.advance p pc cycle).lp p = { s.lp p with pc := pc, cycle := cycle, burst := none } := by
  rw [State.advance, State.lp_setFld, State.lp_setLp_same]

theorem State.lp_advance_ne {q : Nat} (h : q ≠ p) : (s.advance p pc cycle).lp q = s.lp q := by
  rw [State.advance, State.lp_setFld, State.lp_setLp_ne _ _ _ h]

theorem State.fld_advance_pc (h : (s.lp p).pc ≤ 1023) : (s.advance p pc cycle).fld (R.lpStat p) F.lpStat.PC = (s.lp p).pc :=
  (State.fld_setFld _ _ _ _ (by decide)).trans (Nat.mod_eq_of_lt (Nat.lt_succ_of_le h))

end

theorem endIgnores_lpStat (p : Fin 8) : endIgnores [R.lpStat p] := by
  refine endIgnores_of fun o ho => ?_
  simp only [List.mem_singleton, R.lpStat] at ho
  omega

theorem State.micro_of {s : State} {p op : Nat} {f : State → State} (h : s.executes p op = true) : s.micro p op f = f s := if_pos h

/-- A program that executes an instruction is running, waits for nothing, and its word lies in the microcode memory. -/
theorem State.of_executes {s : State} {p op : Nat} (h : s.executes p op = true) :
    (s.lp p).run ≠ .idle ∧ (s.lp p).ended = false ∧ (s.lp p).waiting = none ∧ s.microFault p = 0 ∧ (s.lp p).pc ≤ 1023 := by
  simp only [State.executes, Bool.and_eq_true, bne_iff_ne, ne_eq, Bool.not_eq_true', Option.isNone_iff_eq_none, beq_iff_eq] at h
  obtain ⟨⟨⟨⟨hrun, hended⟩, hwait⟩, hfault⟩, -⟩ := h
  refine ⟨hrun, hended, hwait, hfault, Nat.le_of_not_lt fun hpc => ?_⟩
  rw [State.microFault, if_pos hpc] at hfault
  exact absurd hfault (by decide)

/-- A level of the masked outputs of a group of six, at the place of the group. -/
theorem testBit_group (x g n : Nat) : (x % 64 * 2 ^ (6 * g)).testBit n = (decide (n / 6 = g) && x.testBit (n % 6)) := by
  rw [Nat.testBit_mul_two_pow, show (64 : Nat) = 2 ^ 6 from rfl, Nat.testBit_mod_two_pow]
  by_cases hg : n / 6 = g
  · have hle : 6 * g ≤ n := by omega
    have hsub : n - 6 * g = n % 6 := by omega
    have hlt : n % 6 < 6 := by omega
    simp [hg, hle, hsub, hlt]
  · by_cases hle : 6 * g ≤ n
    · have hge : ¬n - 6 * g < 6 := by omega
      simp [hg, hge]
    · simp [hg, hle]

/-! ## Instructions that touch the program and the timing outputs only -/

section
variable {s : State} (hu : s.usual) (p : Fin 8)
include hu

theorem exec_tsqNop (h : s.executes p 0 = true) :
    ∃ t, exec (.tsqNop p) s = .next t ∧ t = { s with regs := t.regs, tsq := { s.tsq with lps := t.tsq.lps } } ∧
      t.lp p = { s.lp p with pc := (s.lp p).pc + 1, cycle := s.actCycle p + 1, burst := none } ∧
      (∀ q, q ≠ p.val → t.lp q = s.lp q) ∧ t.fld (R.lpStat p) F.lpStat.PC = (s.lp p).pc ∧
      (∀ off, off ≠ R.lpStat p → t.reg off = s.reg off) := by
  have hexec : exec (.tsqNop p) s = State.done (s.microNop p) := congrArg State.done (State.micro_of h)
  have hf := s.advance_tsqOnly p ((s.lp p).pc + 1) (s.actCycle p + 1)
  obtain ⟨-, -, -, -, hpc⟩ := State.of_executes h
  exact ⟨_, hexec.trans (hf.done hu (endIgnores_lpStat p)), rfl, s.lp_advance_same _ _ _, fun q hq => s.lp_advance_ne _ _ _ hq,
    s.fld_advance_pc _ _ _ hpc, fun off ho => hf.reg off (by simpa using ho)⟩

theorem exec_setg (h : s.executes p 1 = true) :
    ∃ t, exec (.setg p) s = .next t ∧ t = { s with regs := t.regs, tsq := { s.tsq with lps := t.tsq.lps, tg := t.tsq.tg } } ∧
      t.lp p = { s.lp p with pc := (s.lp p).pc + 1, cycle := s.actCycle p + 1, burst := none } ∧
      (∀ off, off ≠ R.lpStat p → t.reg off = s.reg off) ∧
      (∀ n, n < 24 → t.tsq.tg.getLsbD n =
        (if n / 6 = s.microArg p / 4096 % 8 ∧ (s.microArg p / 64).testBit (n % 6) ∧ (s.drivenTg p).testBit n then
          (s.microArg p).testBit (n % 6) else s.tsq.tg.getLsbD n)) := by
  obtain ⟨a, ha⟩ : ∃ a, s.microArg p = a := ⟨_, rfl⟩
  obtain ⟨v, hv⟩ : ∃ v, v = s.driveTg ((a / 64 % 64 * 2 ^ (6 * (a / 4096 % 8))) &&& s.drivenTg p) (a % 64 * 2 ^ (6 * (a / 4096 % 8))) :=
    ⟨_, rfl⟩
  have hexec : exec (.setg p) s = State.done (v.microNop p) := by rw [hv, ← ha]; exact congrArg State.done (State.micro_of h)
  have hf : s.TsqOnly (v.microNop p) [R.lpStat p] := by
    refine .trans ?_ (v.advance_tsqOnly p _ _)
    rw [hv]
    exact (State.TsqOnly.refl s _).driveTg _ _
  have hlp : v.lp p = s.lp p := by rw [hv, State.lp_driveTg]
  refine ⟨_, hexec.trans (hf.done hu (endIgnores_lpStat p)), by rw [hv]; rfl, ?_, fun off ho => hf.reg off (by simpa using ho), fun n hn => ?_⟩
  · refine (v.lp_advance_same p _ _).trans ?_
    rw [hlp, hv]
    rfl
  · have htg : (v.microNop p).tsq.tg = v.tsq.tg := rfl
    rw [htg, hv, State.tg_driveTg _ _ _ _ hn, Nat.testBit_and, testBit_group, testBit_group, ha]
    by_cases hg : n / 6 = a / 4096 % 8
    · simp [hg]
    · simp [hg]

theorem exec_waitev (h : s.executes p 5 = true) :
    ∃ t, exec (.waitev p) s = .next t ∧ t = { s with regs := t.regs, tsq := { s.tsq with lps := t.tsq.lps } } ∧
      t.lp p = { s.lp p with waiting := some (s.microArg p % 256, s.actCycle p), burst := none } ∧
      (∀ off, off ≠ R.lpStat p → t.reg off = s.reg off) := by
  have hexec : exec (.waitev p) s = State.done (s.microWait p) := congrArg State.done (State.micro_of h)
  have hf : s.TsqOnly (s.microWait p) [R.lpStat p] := ((State.TsqOnly.refl s _).setLp p _).setFld _ _ (List.mem_singleton_self _)
  exact ⟨_, hexec.trans (hf.done hu (endIgnores_lpStat p)), rfl, s.lp_setLp_same p _, fun off ho => hf.reg off (by simpa using ho)⟩

theorem exec_waitevPulse {ev from_ cycle : Nat} (hw : (s.lp p).waiting = some (ev, from_)) (hle : from_ ≤ cycle) (hrun : (s.lp p).run ≠ .idle) :
    ∃ t, exec (.waitevPulse p cycle) s = .next t ∧ t = { s with tsq := { s.tsq with lps := t.tsq.lps } } ∧
      t.lp p = { s.lp p with waiting := none, pc := (s.lp p).pc + 1, cycle := cycle + 1 } ∧ (∀ q, q ≠ p.val → t.lp q = s.lp q) := by
  obtain ⟨x, hx⟩ : ∃ x : Lp, x = { s.lp p with waiting := none, pc := (s.lp p).pc + 1, cycle := cycle + 1 } := ⟨_, rfl⟩
  have hexec : exec (.waitevPulse p cycle) s = State.done (s.setLp p x) := by
    rw [hx]
    refine congrArg State.done (?_ : (match (s.lp p).waiting with | some (_, from_) => _ | none => s) = _)
    rw [hw]
    exact if_pos ⟨hle, hrun⟩
  have hf : s.TsqOnly (s.setLp p x) [] := (State.TsqOnly.refl s _).setLp p _
  exact ⟨_, hexec.trans (hf.done hu (endIgnores_of (by simp))), rfl, (s.lp_setLp_same p x).trans hx, fun q hq => s.lp_setLp_ne p x hq⟩

end

/-! ## LOOP -/

/-- What LOOP leaves in its counter, and whether it jumps (R95). -/
def loopStep (count : Nat) : Option Nat → Option Nat × Bool
  | none => if count = 1 then (none, false) else (some (count - 1), true)
  | some v => if 1 < v then (some (v - 1), true) else (none, false)

/-- The program after LOOP has counted. -/
def State.loopCounted (s : State) (p : Nat) : Lp :=
  let count := s.microArg p / 1024 % 32 + 1
  if (s.microArg p).testBit 15 then { s.lp p with loop1 := (loopStep count (s.lp p).loop1).1 }
  else { s.lp p with loop0 := (loopStep count (s.lp p).loop0).1 }

/-- Where LOOP continues. -/
def State.loopPc (s : State) (p : Nat) : Nat :=
  if (loopStep (s.microArg p / 1024 % 32 + 1) (if (s.microArg p).testBit 15 then (s.lp p).loop1 else (s.lp p).loop0)).2 then
    s.microArg p % 1024 else (s.lp p).pc + 1

theorem State.microLoop_eq (s : State) (p : Nat) :
    s.microLoop p = (s.setLp p (s.loopCounted p)).advance p (s.loopPc p) (s.actCycle p + 1) := by
  rw [State.microLoop, State.loopCounted, State.loopPc]
  cases (s.microArg p).testBit 15
  · cases (s.lp p).loop0 <;> rfl
  · cases (s.lp p).loop1 <;> rfl

theorem exec_tsqLoop {s : State} (hu : s.usual) (p : Fin 8) (h : s.executes p 4 = true) :
    ∃ t, exec (.tsqLoop p) s = .next t ∧ t = { s with regs := t.regs, tsq := { s.tsq with lps := t.tsq.lps } } ∧
      (t.lp p).cycle = s.actCycle p + 1 ∧ (∀ off, off ≠ R.lpStat p → t.reg off = s.reg off) ∧
      ((s.microArg p).testBit 15 = false →
        (t.lp p).loop1 = (s.lp p).loop1 ∧
        ((s.lp p).loop0 = none → s.microArg p / 1024 % 32 = 0 → (t.lp p).loop0 = none ∧ (t.lp p).pc = (s.lp p).pc + 1) ∧
        ((s.lp p).loop0 = none → s.microArg p / 1024 % 32 ≠ 0 →
          (t.lp p).loop0 = some (s.microArg p / 1024 % 32) ∧ (t.lp p).pc = s.microArg p % 1024) ∧
        (∀ v, (s.lp p).loop0 = some (v + 2) → (t.lp p).loop0 = some (v + 1) ∧ (t.lp p).pc = s.microArg p % 1024) ∧
        ((s.lp p).loop0 = some 1 → (t.lp p).loop0 = none ∧ (t.lp p).pc = (s.lp p).pc + 1)) := by
  obtain ⟨v, hv⟩ : ∃ v, v = s.setLp p (s.loopCounted p) := ⟨_, rfl⟩
  have hexec : exec (.tsqLoop p) s = State.done (v.advance p (s.loopPc p) (s.actCycle p + 1)) := by
    rw [hv]
    exact congrArg State.done ((State.micro_of h).trans (s.microLoop_eq p))
  have hf : s.TsqOnly (v.advance p (s.loopPc p) (s.actCycle p + 1)) [R.lpStat p] := by
    refine .trans ?_ (v.advance_tsqOnly p _ _)
    rw [hv]
    exact (State.TsqOnly.refl s _).setLp _ _
  have hlp : (v.advance p (s.loopPc p) (s.actCycle p + 1)).lp p =
      { s.loopCounted p with pc := s.loopPc p, cycle := s.actCycle p + 1, burst := none } := by
    rw [State.lp_advance_same, hv, State.lp_setLp_same]
  refine ⟨_, hexec.trans (hf.done hu (endIgnores_lpStat p)), by rw [hv]; rfl, by rw [hlp], fun off ho => hf.reg off (by simpa using ho),
    fun h15 => ?_⟩
  have hcounted : s.loopCounted p = { s.lp p with loop0 := (loopStep (s.microArg p / 1024 % 32 + 1) (s.lp p).loop0).1 } := by
    rw [State.loopCounted]
    exact if_neg (by simp [h15])
  have hpc : s.loopPc p = if (loopStep (s.microArg p / 1024 % 32 + 1) (s.lp p).loop0).2 then s.microArg p % 1024 else (s.lp p).pc + 1 := by
    rw [State.loopPc, h15]
    rfl
  rw [hlp, hcounted, hpc]
  refine ⟨rfl, fun hnone hz => ?_, fun hnone hz => ?_, fun w hw => ?_, fun hone => ?_⟩
  · rw [hnone, hz]
    exact ⟨rfl, rfl⟩
  · rw [hnone, loopStep, if_neg (by omega)]
    exact ⟨rfl, rfl⟩
  · rw [hw, loopStep, if_pos (by omega)]
    exact ⟨rfl, rfl⟩
  · rw [hone]
    exact ⟨rfl, rfl⟩

/-! ## PIX -/

theorem setBits_nodup (v n : Nat) : (setBits v n).Nodup := List.nodup_range.filter _

/-- Counting a burst of each input of a mask, with one tag (R129). -/
def countBursts (k : Nat) (t : Table Nat) (ins : List Nat) : Table Nat :=
  ins.foldl (fun t i => Table.set (fun _ => 0) t (8 * i + k) (Table.get (fun _ => 0) t (8 * i + k) + 1)) t

theorem get_countBursts {k : Nat} (t : Table Nat) {ins : List Nat} (hnd : ins.Nodup) (n : Nat) :
    Table.get (fun _ => 0) (countBursts k t ins) (8 * n + k) = Table.get (fun _ => 0) t (8 * n + k) + (if n ∈ ins then 1 else 0) := by
  induction ins generalizing t with
  | nil => rfl
  | cons i ins ih =>
    obtain ⟨hi, hnd⟩ := List.nodup_cons.mp hnd
    rw [countBursts, List.foldl_cons, ← countBursts, ih _ hnd, Table.get_set]
    by_cases hni : n = i
    · subst hni
      simp [hi]
    · rw [if_neg (by omega)]
      simp [hni]

/-- The program once a PIX has begun: the outputs at the last step of the pattern, the next instruction after its periods. -/
def State.pixBegun (s : State) (p j : Nat) : State :=
  ((s.driveTg (s.drivenTg p) (s.fld (R.tsqPxStep (16 * j + s.period j - 1)) F.tsqPxStep.TG)).setLp p
    { s.lp p with pc := (s.lp p).pc + 1, cycle := s.actCycle p + s.period j * s.fld (R.tsqPxCount j) F.tsqPxCount.COUNT, taken := [] }).setFld
      (R.lpStat p) F.lpStat.PC (s.lp p).pc

section
variable (s : State) (p j : Nat) (x : Lp)

theorem State.pixBegun_setLp : (s.pixBegun p j).setLp p x = { s with
    regs := ((s.pixBegun p j).setLp p x).regs
    tsq := { s.tsq with lps := ((s.pixBegun p j).setLp p x).tsq.lps, tg := ((s.pixBegun p j).setLp p x).tsq.tg } } := rfl

theorem State.pixBegun_tsqOnly : s.TsqOnly ((s.pixBegun p j).setLp p x) [R.lpStat p] :=
  ((((State.TsqOnly.refl s _).driveTg _ _).setLp p _).setFld _ _ (List.mem_singleton_self _)).setLp p _

theorem State.lp_pixBegun : (s.pixBegun p j).lp p =
    { s.lp p with pc := (s.lp p).pc + 1, cycle := s.actCycle p + s.period j * s.fld (R.tsqPxCount j) F.tsqPxCount.COUNT, taken := [] } := by
  rw [State.pixBegun, State.lp_setFld, State.lp_setLp_same]

end

/-- A PIX that takes no samples (R94). -/
theorem State.microPix_of_unsampled {s : State} {p : Nat} (hn : s.fld (R.tsqPxCount (s.microArg p % 4)) F.tsqPxCount.COUNT ≠ 0)
    (h2 : (s.microArg p).testBit 2 = false) : s.microPix p = (s.pixBegun p (s.microArg p % 4)).setLp p
      { (s.pixBegun p (s.microArg p % 4)).lp p with
        burst := some { pattern := s.microArg p % 4, smp := false, tag := s.microArg p / 8 % 8, line := 0, sends := false } } := by
  rw [State.microPix]
  dsimp only
  rw [if_neg hn, h2]
  rfl

/-- A PIX that samples the line in progress, neither stale nor with an input whose sample has no place (R98, R99). -/
theorem State.microPix_of_sampled {s : State} {p : Nat} (hn : s.fld (R.tsqPxCount (s.microArg p % 4)) F.tsqPxCount.COUNT ≠ 0)
    (h2 : (s.microArg p).testBit 2 = true) (h6 : (s.microArg p).testBit 6 = false) (hrun : (s.lp p).run = .line)
    (hstale : s.effFld (R.lpStale p) F.lpStale.US = 0)
    (hplaced : ∀ n, n < 16 → s.effFld (R.tsqSmp n) F.tsqSmp.SIG_STEP < s.period (s.microArg p % 4)) :
    s.microPix p = (s.pixBegun p (s.microArg p % 4)).setLp p
      { (s.pixBegun p (s.microArg p % 4)).lp p with
        bursts := countBursts (s.microArg p / 8 % 8) ((s.pixBegun p (s.microArg p % 4)).lp p).bursts
          (setBits (s.fld (R.tsqPxCfg (s.microArg p % 4)) F.tsqPxCfg.VIN &&& s.fld (R.lpVin p) F.lpVin.VIN) 16)
        burst := some { pattern := s.microArg p % 4, smp := true, tag := s.microArg p / 8 % 8, line := (s.lp p).line, sends := true } } := by
  have hall : ∀ v : Nat, (setBits v 16).filter (fun i => decide (s.effFld (R.tsqSmp i) F.tsqSmp.SIG_STEP < s.period (s.microArg p % 4))) =
      setBits v 16 := fun v => List.filter_eq_self.mpr fun i hi => decide_eq_true (hplaced i (mem_setBits.mp hi).1)
  have hnone : ∀ v : Nat, (setBits v 16).filter (fun i => decide (s.period (s.microArg p % 4) ≤ s.effFld (R.tsqSmp i) F.tsqSmp.SIG_STEP)) =
      [] := fun v => List.filter_eq_nil_iff.mpr fun i hi => by simpa using hplaced i (mem_setBits.mp hi).1
  have hline : (if false = true then (s.lp p).pending else if ((s.lp p).run == .flush) = true then none else some (s.lp p).line) =
      some (s.lp p).line := by
    rw [if_neg Bool.false_ne_true, hrun]
    rfl
  rw [State.microPix]
  dsimp only
  rw [if_neg hn, h2, h6, hline, hstale, hall, hnone]
  rfl

theorem exec_pix_unsampled {s : State} (hu : s.usual) (p : Fin 8) (h : s.executes p 3 = true)
    (hn : s.fld (R.tsqPxCount (s.microArg p % 4)) F.tsqPxCount.COUNT ≠ 0) (h2 : (s.microArg p).testBit 2 = false) :
    ∃ t, exec (.pix p) s = .next t ∧ t = { s with regs := t.regs, tsq := { s.tsq with lps := t.tsq.lps, tg := t.tsq.tg } } ∧
      t.lp p = { s.lp p with
        pc := (s.lp p).pc + 1, taken := []
        cycle := s.actCycle p + s.period (s.microArg p % 4) * s.fld (R.tsqPxCount (s.microArg p % 4)) F.tsqPxCount.COUNT
        burst := some { pattern := s.microArg p % 4, smp := false, tag := s.microArg p / 8 % 8, line := 0, sends := false } } ∧
      (∀ off, off ≠ R.lpStat p → t.reg off = s.reg off) := by
  have hexec : exec (.pix p) s = State.done _ := congrArg State.done ((State.micro_of h).trans (State.microPix_of_unsampled hn h2))
  have hf := s.pixBegun_tsqOnly p (s.microArg p % 4)
  refine ⟨_, hexec.trans ((hf _).done hu (endIgnores_lpStat p)), s.pixBegun_setLp _ _ _, (State.lp_setLp_same _ _ _).trans ?_,
    fun off ho => (hf _).reg off (by simpa using ho)⟩
  rw [State.lp_pixBegun]

theorem exec_pix_sampled {s : State} (hu : s.usual) (p : Fin 8) (h : s.executes p 3 = true)
    (hn : s.fld (R.tsqPxCount (s.microArg p % 4)) F.tsqPxCount.COUNT ≠ 0)
    (h2 : (s.microArg p).testBit 2 = true) (h6 : (s.microArg p).testBit 6 = false) (hrun : (s.lp p).run = .line)
    (hstale : s.effFld (R.lpStale p) F.lpStale.US = 0)
    (hplaced : ∀ n, n < 16 → s.effFld (R.tsqSmp n) F.tsqSmp.SIG_STEP < s.period (s.microArg p % 4)) :
    ∃ t, exec (.pix p) s = .next t ∧ t = { s with regs := t.regs, tsq := { s.tsq with lps := t.tsq.lps, tg := t.tsq.tg } } ∧
      (t.lp p).burst =
        some { pattern := s.microArg p % 4, smp := true, tag := s.microArg p / 8 % 8, line := (s.lp p).line, sends := true } ∧
      (t.lp p).cycle = s.actCycle p + s.period (s.microArg p % 4) * s.fld (R.tsqPxCount (s.microArg p % 4)) F.tsqPxCount.COUNT ∧
      (t.lp p).pc = (s.lp p).pc + 1 ∧
      (∀ n, n < 16 → Table.get (fun _ => 0) (t.lp p).bursts (8 * n + s.microArg p / 8 % 8) =
        Table.get (fun _ => 0) (s.lp p).bursts (8 * n + s.microArg p / 8 % 8) +
          (if (s.fld (R.tsqPxCfg (s.microArg p % 4)) F.tsqPxCfg.VIN &&& s.fld (R.lpVin p) F.lpVin.VIN).testBit n then 1 else 0)) ∧
      (∀ off, off ≠ R.lpStat p → t.reg off = s.reg off) := by
  have hexec : exec (.pix p) s = State.done _ :=
    congrArg State.done ((State.micro_of h).trans (State.microPix_of_sampled hn h2 h6 hrun hstale hplaced))
  have hf := s.pixBegun_tsqOnly p (s.microArg p % 4)
  refine ⟨_, hexec.trans ((hf _).done hu (endIgnores_lpStat p)), s.pixBegun_setLp _ _ _, ?_, ?_, ?_, fun n hn => ?_,
    fun off ho => (hf _).reg off (by simpa using ho)⟩
  · rw [State.lp_setLp_same]
  · rw [State.lp_setLp_same, State.lp_pixBegun]
  · rw [State.lp_setLp_same, State.lp_pixBegun]
  · rw [State.lp_setLp_same, State.lp_pixBegun]
    refine (get_countBursts _ (setBits_nodup _ _) n).trans ?_
    simp only [mem_setBits, hn, true_and]

/-! ## PHASE -/

/-- The phase that PHASE starts (R106, R108). -/
def State.phaseStarted (s : State) (p : Nat) : Phase :=
  let k := s.microArg p % 8
  let a := s.actCycle p
  let delay := s.effFld (R.lpPhWin p k) F.lpPhWin.DELAY
  let width := s.effFld (R.lpPhWin p k) F.lpPhWin.WIDTH
  { win := if width = 0 then .closed else .delayed, opens := a + delay, last := a + delay + width - 1, started := true
    expEnd := if width = 0 then a else a + delay + width - 1 }

theorem State.microPhase_of_delayed {s : State} {p : Nat} (hrun : (s.lp p).run = .line) (hline : (s.lp p).line < overlapBase)
    (hdelay : s.effFld (R.lpPhWin p (s.microArg p % 8)) F.lpPhWin.DELAY ≠ 0) :
    s.microPhase p = ((s.microNop p).fire (16 + 6 * p + s.microArg p % 8)).phaseDriven p (s.microArg p % 8) (s.phaseStarted p) := by
  rw [State.microPhase]
  dsimp only
  rw [if_neg (by rw [hrun]; decide), if_neg (Nat.not_le.mpr hline), if_neg (fun h => hdelay h.2)]
  rfl

theorem exec_phase {s : State} (hu : s.usual) (p : Fin 8) (h : s.executes p 2 = true) (hrun : (s.lp p).run = .line)
    (hline : (s.lp p).line < overlapBase) (hdelay : s.effFld (R.lpPhWin p (s.microArg p % 8)) F.lpPhWin.DELAY ≠ 0) :
    ∃ t, exec (.phase p) s = .next t ∧
      t = { s with regs := t.regs, tsq := t.tsq, pulses := addSorted s.pulses (16 + 6 * p + s.microArg p % 8) } ∧
      (t.lp p).pc = (s.lp p).pc + 1 ∧ (t.lp p).cycle = s.actCycle p + 1 ∧ ((t.lp p).phase (s.microArg p % 8)).started = true ∧
      (s.effFld (R.lpPhWin p (s.microArg p % 8)) F.lpPhWin.WIDTH = 0 →
        ((t.lp p).phase (s.microArg p % 8)).win = .closed ∧ ((t.lp p).phase (s.microArg p % 8)).expEnd = s.actCycle p) ∧
      (s.effFld (R.lpPhWin p (s.microArg p % 8)) F.lpPhWin.WIDTH ≠ 0 → ((t.lp p).phase (s.microArg p % 8)).win = .delayed ∧
        ((t.lp p).phase (s.microArg p % 8)).opens = s.actCycle p + s.effFld (R.lpPhWin p (s.microArg p % 8)) F.lpPhWin.DELAY) ∧
      (∀ k, k ≠ s.microArg p % 8 → (t.lp p).phase k = (s.lp p).phase k) ∧ (∀ off, off ≠ R.lpStat p → t.reg off = s.reg off) := by
  obtain ⟨v, hv⟩ : ∃ v, v = (s.microNop p).fire (16 + 6 * p + s.microArg p % 8) := ⟨_, rfl⟩
  have hexec : exec (.phase p) s = State.done (v.phaseDriven p (s.microArg p % 8) (s.phaseStarted p)) := by
    rw [hv]
    exact congrArg State.done ((State.micro_of h).trans (State.microPhase_of_delayed hrun hline hdelay))
  have hnop : (s.fire (16 + 6 * p + s.microArg p % 8)).TsqOnly v [R.lpStat p] := by
    rw [hv]
    exact (s.advance_tsqOnly p _ _).fire _
  have hf := hnop.trans ((v.phaseDriven_tsqOnly p (s.microArg p % 8) (s.phaseStarted p)).mono (List.nil_subset _))
  have hlp : v.lp p = { s.lp p with pc := (s.lp p).pc + 1, cycle := s.actCycle p + 1, burst := none } := by
    rw [hv, State.lp_fire]
    exact s.lp_advance_same p _ _
  have hphase := v.phase_phaseDriven p (s.microArg p % 8) (s.phaseStarted p)
  have hpc : ∀ (l : Lp) k x, (l.setPhase k x).pc = l.pc ∧ (l.setPhase k x).cycle = l.cycle := fun _ _ _ => ⟨rfl, rfl⟩
  refine ⟨_, hexec.trans (hf.done (State.usual_fire _ hu) (endIgnores_lpStat p)), hf.state, ?_, ?_, ?_, fun hw => ?_, fun hw => ?_,
    fun k hk => ?_, fun off ho => hf.reg off (by simpa using ho)⟩
  · rw [State.lp_phaseDriven_same, (hpc _ _ _).1, hlp]
  · rw [State.lp_phaseDriven_same, (hpc _ _ _).2, hlp]
  · rw [hphase, if_pos rfl]
    rfl
  · rw [hphase, if_pos rfl]
    exact ⟨if_pos hw, if_pos hw⟩
  · rw [hphase, if_pos rfl]
    exact ⟨if_neg hw, rfl⟩
  · rw [hphase, if_neg hk, hlp]
    rfl

/-! ## A line ends, times out or faults -/

theorem endIgnores_of_tsq {l : List Nat} (h : ∀ o ∈ l, 0x08000 ≤ o ∧ o < 0x10000) : endIgnores l :=
  endIgnores_of fun o ho => by have := h o ho; omega

section
variable (s : State) (p : Nat)

/-- The end of a line that becomes the pending one. -/
def State.lineTaken (s : State) (p : Nat) : State :=
  ((s.dropPending p).setLp p { s.lp p with
    run := .idle, burst := none, waiting := none, pending := some (s.lp p).line, pendPhases := (s.lp p).phases, pendFirst := (s.lp p).first
    pendRead := false, pendStale := (s.lp p).staleSeen, prevBursts := (s.lp p).bursts, bursts := [] }).setBusy p 0

theorem State.lineTaken_tsqOnly : s.TsqOnly (s.lineTaken p) [R.lpStat p, R.tsqStat] :=
  ((((State.TsqOnly.refl s _).setLp p _).setLp p _).setFld _ _ (by simp)).setFld _ _ (by simp)

theorem State.lp_lineTaken : (s.lineTaken p).lp p = { s.lp p with
    run := .idle, burst := none, waiting := none, pending := some (s.lp p).line, pendPhases := (s.lp p).phases, pendFirst := (s.lp p).first
    pendRead := false, pendStale := (s.lp p).staleSeen, prevBursts := (s.lp p).bursts, bursts := [] } :=
  State.lp_setLp_same _ _ _

theorem R.lpStat_ne_tsqStat : R.lpStat p ≠ R.tsqStat := by simp only [R.lpStat, R.tsqStat]; omega

theorem State.fld_setBusy (v : Nat) (hv : v < 2) : (s.setBusy p v).fld (R.lpStat p) F.lpStat.BUSY = v := by
  rw [State.setBusy, State.fld_setFld_ne _ _ _ _ _ _ (R.lpStat_ne_tsqStat p), State.fld_setFld _ _ _ _ (by decide)]
  exact Nat.mod_eq_of_lt hv

/-- A field of LPp_STAT apart from BUSY. -/
theorem State.fld_setBusy_apart (v : Nat) {f : Fld} (hf : f.lo + f.width ≤ 32) (h : 1 ≤ f.lo) :
    (s.setBusy p v).fld (R.lpStat p) f = s.fld (R.lpStat p) f := by
  rw [State.setBusy, State.fld_setFld_ne _ _ _ _ _ _ (R.lpStat_ne_tsqStat p),
    State.fld_setFld_apart _ _ F.lpStat.BUSY _ _ (by decide) hf (.inr h)]

theorem State.fld_setFlushing (v : Nat) (hv : v < 2) : (s.setFlushing p v).fld (R.lpStat p) F.lpStat.FLUSHING = v := by
  rw [State.setFlushing, State.fld_setFld_ne _ _ _ _ _ _ (R.lpStat_ne_tsqStat p), State.fld_setFld _ _ _ _ (by decide)]
  exact Nat.mod_eq_of_lt hv

/-- A field of LPp_STAT apart from FLUSHING. -/
theorem State.fld_setFlushing_apart (v : Nat) {f : Fld} (hf : f.lo + f.width ≤ 32) (h : f.lo + f.width ≤ 1 ∨ 2 ≤ f.lo) :
    (s.setFlushing p v).fld (R.lpStat p) f = s.fld (R.lpStat p) f := by
  rw [State.setFlushing, State.fld_setFld_ne _ _ _ _ _ _ (R.lpStat_ne_tsqStat p),
    State.fld_setFld_apart _ _ F.lpStat.FLUSHING _ _ (by decide) hf h]

end

/-- The run of a line that has had its ENDL, in an enabled program without flush lines to come. -/
theorem State.finishRun_of_line {s : State} {p : Nat} (hg : s.Groupless) (hrun : (s.lp p).run = .line)
    (hen : s.fld (R.lpCfg p) F.lpCfg.EN = 1) (hflush : (s.lp p).flushDue = false) : s.finishRun p = s.lineTaken p := by
  have htaken : (s.lineTaken p).Groupless := hg.of_reg fun g hg => (s.lineTaken_tsqOnly p).reg _ (by
    simp only [List.mem_cons, List.not_mem_nil, or_false, R.grpCtl, R.lpStat, R.tsqStat]; omega)
  have hsame : (s.lineTaken p).deliverReady p = s.lineTaken p := htaken.deliverReady p
  have hdue : ((s.lineTaken p).lp p).flushDue = false := by rw [State.lp_lineTaken]; exact hflush
  have hon : s.bit (R.lpCfg p) F.lpCfg.EN = true := State.bit_eq_true hen
  rw [State.finishRun, hon, if_pos (show ((s.lp p).run == LpRun.line && true) = true by rw [hrun]; rfl),
    if_pos (show ((s.lp p).run == LpRun.line) = true by rw [hrun]; rfl), if_pos rfl]
  change (if (true && ((((s.lineTaken p).deliverReady p).lp p).flushDue) && _) = true then _ else (s.lineTaken p).deliverReady p) = _
  rw [hsame, hdue]
  rfl

theorem exec_endl {s : State} (hu : s.usual) (p : Fin 8) (h : s.executes p 6 = true) (hrun : (s.lp p).run = .line)
    (hline : (s.lp p).line < overlapBase) (hleft : (s.lp p).windowsLeft = false) (hen : s.fld (R.lpCfg p) F.lpCfg.EN = 1)
    (hflush : (s.lp p).flushDue = false) (hg : s.Groupless) :
    ∃ t, exec (.endl p) s = .next t ∧ t = { s with regs := t.regs, tsq := t.tsq, pulses := addSorted s.pulses (8 + p) } ∧
      (t.lp p).run = .idle ∧ (t.lp p).pending = some (s.lp p).line ∧ (t.lp p).pendPhases = (s.lp p).phases ∧
      (t.lp p).prevBursts = (s.lp p).bursts ∧ t.fld (R.lpStat p) F.lpStat.BUSY = 0 ∧
      (∀ off, off ∉ [R.lpStat p, R.tsqStat] → t.reg off = s.reg off) := by
  obtain ⟨v, hv⟩ : ∃ v, v = ((s.microNop p).fire (8 + p)).setLp p { (s.microNop p).lp p with ended := true } := ⟨_, rfl⟩
  have hnop : (s.fire (8 + p)).TsqOnly v [R.lpStat p] := by
    rw [hv]
    exact ((s.advance_tsqOnly p _ _).fire _).setLp _ _
  have hlp : v.lp p = { s.lp p with pc := (s.lp p).pc + 1, cycle := s.actCycle p + 1, burst := none, ended := true } := by
    rw [hv, State.lp_setLp_same, State.microNop, State.lp_advance_same]
  have hcfg : v.fld (R.lpCfg p) F.lpCfg.EN = 1 :=
    (hnop.fld (by simp only [List.mem_singleton, R.lpCfg, R.lpStat]; omega) _).trans hen
  have hvg : v.Groupless := hg.of_reg fun g hg => hnop.reg _ (by simp only [List.mem_singleton, R.grpCtl, R.lpStat]; omega)
  have hfinish : v.finishRun p = v.lineTaken p :=
    State.finishRun_of_line hvg (by rw [hlp]; exact hrun) hcfg (by rw [hlp]; exact hflush)
  have hover : v.finishIfOver p = v.lineTaken p := by
    rw [← hfinish, State.finishIfOver, hlp]
    refine if_pos ?_
    change ((s.lp p).run != .idle && true && !(s.lp p).windowsLeft) = true
    rw [hrun, hleft]
    rfl
  have hexec : exec (.endl p) s = State.done (v.lineTaken p) := by
    rw [← hover, hv]
    refine congrArg State.done ((State.micro_of h).trans ?_)
    have hfires : ((s.lp p).run == .line && decide ((s.lp p).line < overlapBase)) = true := by rw [hrun, decide_eq_true hline]; rfl
    rw [State.microEndl]
    dsimp only
    rw [if_pos hfires]
    rfl
  have hf := (hnop.mono (m := [R.lpStat p, R.tsqStat]) (by simp)).trans (v.lineTaken_tsqOnly p)
  have hlist : endIgnores [R.lpStat p, R.tsqStat] := endIgnores_of_tsq (by
    simp only [List.mem_cons, List.not_mem_nil, or_false, forall_eq_or_imp, forall_eq, R.lpStat, R.tsqStat]; omega)
  refine ⟨_, hexec.trans (hf.done (State.usual_fire _ hu) hlist), hf.state, ?_, ?_, ?_, ?_, State.fld_setBusy _ _ _ (by decide), hf.reg⟩
  · rw [State.lp_lineTaken]
  · rw [State.lp_lineTaken, hlp]
  · rw [State.lp_lineTaken, hlp]
  · rw [State.lp_lineTaken, hlp]

section
variable (s : State) (p : Nat)

theorem State.lp_driveIdle : (s.driveIdle p).lp p =
    { s.lp p with phases := (s.lp p).phases.map (fun e => (e.1, { e.2 with win := .closed })) } := by
  rw [State.driveIdle, State.lp_driveLs, State.lp_driveShutters, State.lp_driveTg, State.lp_setLp_same]

theorem State.lp_driveIdle_ne {q : Nat} (h : q ≠ p) : (s.driveIdle p).lp q = s.lp q := by
  rw [State.driveIdle, State.lp_driveLs, State.lp_driveShutters, State.lp_driveTg, State.lp_setLp_ne _ _ _ h]

theorem State.reg_driveIdle (off : Nat) : (s.driveIdle p).reg off = s.reg off :=
  ((State.TsqOnly.refl s []).driveIdle p).reg off List.not_mem_nil

theorem State.dropPending_tsqOnly (l : List Nat) : s.TsqOnly (s.dropPending p) l := (State.TsqOnly.refl s l).setLp p _

theorem State.lp_dropPending : (s.dropPending p).lp p =
    { s.lp p with pending := none, pendPhases := [], pendRead := false, pendStale := false, prevBursts := [] } :=
  State.lp_setLp_same _ _ _

theorem State.reg_dropPending (o : Nat) : (s.dropPending p).reg o = s.reg o := rfl

theorem State.fld_dropPending (o : Nat) (f : Fld) : (s.dropPending p).fld o f = s.fld o f := rfl

theorem State.lp_dropPending_ne {q : Nat} (h : q ≠ p) : (s.dropPending p).lp q = s.lp q := State.lp_setLp_ne _ _ _ h

/-- A program whose run has been cut short: its windows are closed (R112). -/
def Lp.stopped (l : Lp) : Lp :=
  { l with run := .idle, burst := none, waiting := none, bursts := [], ended := false
           phases := l.phases.map (fun e => (e.1, { e.2 with win := .closed })) }

end

section
variable {s : State} {p : Nat} (hpend : (s.lp p).pending = none)
include hpend

theorem State.stopRun_of_unpending : s.stopRun p = ((s.driveIdle p).setLp p (s.lp p).stopped).setBusy p 0 := by
  have hcut : s.cutPending p = s := by
    rw [State.cutPending]
    dsimp only
    rw [hpend]
  rw [State.stopRun, hcut, State.lp_driveIdle]
  rfl

theorem State.stopRun_tsqOnly : s.TsqOnly (s.stopRun p) [R.lpStat p, R.tsqStat] := by
  rw [State.stopRun_of_unpending hpend]
  exact ((((State.TsqOnly.refl s _).driveIdle p).setLp p _).setFld _ _ (by simp)).setFld _ _ (by simp)

theorem State.lp_stopRun : (s.stopRun p).lp p = (s.lp p).stopped := by
  rw [State.stopRun_of_unpending hpend, State.lp_setBusy, State.lp_setLp_same]

theorem State.fld_stopRun_busy : (s.stopRun p).fld (R.lpStat p) F.lpStat.BUSY = 0 := by
  rw [State.stopRun_of_unpending hpend, State.fld_setBusy _ _ _ (by decide)]

/-- A field of LPp_STAT apart from BUSY. -/
theorem State.fld_stopRun_apart {f : Fld} (hf : f.lo + f.width ≤ 32) (h : 1 ≤ f.lo) :
    (s.stopRun p).fld (R.lpStat p) f = s.fld (R.lpStat p) f := by
  rw [State.stopRun_of_unpending hpend, State.fld_setBusy_apart _ _ _ hf h]
  exact congrArg f.get (s.reg_driveIdle p _)

end

/-- The registers of a run that times out. -/
def tmoRegs (p : Nat) : List Nat := [R.lpTmoCnt p, R.lpStat p, R.tsqStat]

theorem endIgnores_tmoRegs (p : Fin 8) : endIgnores (tmoRegs p) := endIgnores_of_tsq (by
  simp only [tmoRegs, List.mem_cons, List.not_mem_nil, or_false, forall_eq_or_imp, forall_eq, R.lpTmoCnt, R.lpStat, R.tsqStat]; omega)

section
variable (s : State) (p : Nat)

/-- A time-out counted and shown, its event fired (R113). -/
def State.tmoCounted (s : State) (p : Nat) : State := ((s.count (R.lpTmoCnt p)).setFld (R.lpStat p) F.lpStat.TMO 1).fire (8 + p)

theorem State.tmoCounted_tsqOnly : (s.fire (8 + p)).TsqOnly (s.tmoCounted p) (tmoRegs p) :=
  (((State.TsqOnly.refl s _).count (by simp [tmoRegs])).setFld _ _ (by simp [tmoRegs])).fire _

@[simp] theorem State.lp_tmoCounted (q : Nat) : (s.tmoCounted p).lp q = s.lp q := rfl

theorem R.lpStat_ne_lpTmoCnt : R.lpStat p ≠ R.lpTmoCnt p := by simp only [R.lpStat, R.lpTmoCnt]; omega

/-- A field of LPp_STAT apart from TMO. -/
theorem State.fld_tmoCounted {f : Fld} (hf : f.lo + f.width ≤ 32)
    (h : f.lo + f.width ≤ F.lpStat.TMO.lo ∨ F.lpStat.TMO.lo + F.lpStat.TMO.width ≤ f.lo) :
    (s.tmoCounted p).fld (R.lpStat p) f = s.fld (R.lpStat p) f := by
  rw [State.tmoCounted, State.fld_fire, State.fld_setFld_apart _ _ _ _ _ (by decide) hf h]
  exact State.fld_setReg_ne _ _ _ _ _ (R.lpStat_ne_lpTmoCnt p)

theorem State.fld_tmoCounted_tmo : (s.tmoCounted p).fld (R.lpStat p) F.lpStat.TMO = 1 := by
  rw [State.tmoCounted, State.fld_fire, State.fld_setFld _ _ _ _ (by decide)]
  rfl

theorem State.reg_tmoCounted_cnt : (s.tmoCounted p).reg (R.lpTmoCnt p) = satInc (s.reg (R.lpTmoCnt p)) := by
  rw [State.tmoCounted, State.reg_fire, State.reg_setFld_ne _ _ _ _ _ (R.lpStat_ne_lpTmoCnt p).symm, State.reg_count, if_pos rfl]

/-- The line in progress timed out: the run is cut short. -/
def State.timedOut (s : State) (p : Nat) : State := ((s.tmoCounted p).stopRun p).dropPending p

end

section
variable {s : State} {p : Nat} (hpend : (s.lp p).pending = none)
include hpend

theorem State.pending_tmoCounted : ((s.tmoCounted p).lp p).pending = none := hpend

theorem State.timedOut_tsqOnly : (s.fire (8 + p)).TsqOnly (s.timedOut p) (tmoRegs p) :=
  ((s.tmoCounted_tsqOnly p).trans ((State.stopRun_tsqOnly (State.pending_tmoCounted hpend)).mono (by simp [tmoRegs]))).trans (State.dropPending_tsqOnly _ _ _)

theorem State.lp_timedOut : (s.timedOut p).lp p =
    { (s.lp p).stopped with pending := none, pendPhases := [], pendRead := false, pendStale := false, prevBursts := [] } := by
  rw [State.timedOut, State.lp_dropPending, State.lp_stopRun (State.pending_tmoCounted hpend)]
  rfl

theorem State.fld_timedOut_busy : (s.timedOut p).fld (R.lpStat p) F.lpStat.BUSY = 0 :=
  (State.fld_dropPending (s := (s.tmoCounted p).stopRun p) (p := p) _ _).trans
    (State.fld_stopRun_busy (s := s.tmoCounted p) (State.pending_tmoCounted hpend))

/-- A field of LPp_STAT apart from BUSY. -/
theorem State.fld_timedOut {f : Fld} (hf : f.lo + f.width ≤ 32) (h : 1 ≤ f.lo) :
    (s.timedOut p).fld (R.lpStat p) f = (s.tmoCounted p).fld (R.lpStat p) f :=
  (State.fld_dropPending (s := (s.tmoCounted p).stopRun p) (p := p) _ _).trans
    (State.fld_stopRun_apart (s := s.tmoCounted p) (State.pending_tmoCounted hpend) hf h)

theorem State.reg_timedOut_cnt : (s.timedOut p).reg (R.lpTmoCnt p) = satInc (s.reg (R.lpTmoCnt p)) := by
  have hdrop : (s.timedOut p).reg (R.lpTmoCnt p) = ((s.tmoCounted p).stopRun p).reg (R.lpTmoCnt p) :=
    State.reg_of_regs ((s.tmoCounted p).stopRun p) (((s.tmoCounted p).stopRun p).dropPending p) rfl _
  rw [← State.reg_tmoCounted_cnt, hdrop]
  exact (State.stopRun_tsqOnly (s := s.tmoCounted p) (State.pending_tmoCounted hpend)).reg _ (by
    simp only [List.mem_cons, List.not_mem_nil, or_false, R.lpTmoCnt, R.lpStat, R.tsqStat]; omega)

/-- With no shading group in use a line that times out has no other consequence. -/
theorem State.timeOut_of_line (hg : s.Groupless) (hrun : (s.lp p).run = .line) (hline : (s.lp p).line < overlapBase) :
    s.timeOut p = s.timedOut p := by
  have hmask : s.programPlanes p = 0 := hg.programPlanes p
  have hgrp : ∀ {t : State}, (s.fire (8 + p)).TsqOnly t (tmoRegs p) → t.Groupless := fun ht => hg.of_reg fun g hg => ht.reg _ (by
    simp only [tmoRegs, List.mem_cons, List.not_mem_nil, or_false, R.grpCtl, R.lpTmoCnt, R.lpStat, R.tsqStat]; omega)
  have hexc : (s.tmoCounted p).lineExc p (s.lp p).line Cause.timeout noIndex 0 = s.tmoCounted p :=
    (hgrp (s.tmoCounted_tsqOnly p)).lineExc _ _ _ _ _ hline
  have hready : (s.timedOut p).deliverReady p = s.timedOut p := (hgrp (State.timedOut_tsqOnly hpend)).deliverReady p
  rw [State.timeOut, hmask]
  refine (if_pos (by rw [hrun]; rfl)).trans ?_
  rw [decide_eq_false (Nat.not_le.mpr hline)]
  change ((((((s.tmoCounted p).lineExc p (s.lp p).line Cause.timeout noIndex 0).dropLine p (s.lp p).line 0).stopRun p).dropPending
    p).queueRepeat p (s.lp p).line 0).deliverReady p = _
  rw [hexc, State.dropLine_none, State.queueRepeat_none]
  exact hready

end

end Sys2Proof.Machine

/-!
A microcode fault (R96), and the microcode as a whole.
-/
namespace Sys2Proof.Machine

section
variable (s : State) (p : Nat)

/-- What TSQ.UF_ADDR takes at the first fault (R96). -/
def State.faultWord (s : State) (p : Nat) : Word :=
  BitVec.ofNat 32 (1 + 2 * p + 16 * s.microFault p + 65536 * min 1023 (s.lp p).pc)

/-- The program stopped by a fault, with the fault noted, and the run of its line still to be cut short. -/
def State.faultNoted (s : State) (p : Nat) : State :=
  ((s.setFld (R.lpCfg p) F.lpCfg.EN 0).setFld (R.lpStat p) F.lpStat.UFAULT 1).setReg R.tsqUfAddr (s.faultWord p)

/-- The program after a fault in its line. -/
def State.microFaulted (s : State) (p : Nat) : State := ((((s.faultNoted p).timedOut p).dropPending p).setFlushing p 0).driveIdle p

/-- The registers of a fault. -/
def faultRegs (p : Nat) : List Nat := [R.lpCfg p, R.lpStat p, R.tsqUfAddr, R.lpTmoCnt p, R.tsqStat]

theorem State.microFault_le : s.microFault p ≤ 3 := by
  rw [State.microFault]
  split
  · decide
  · split
    · decide
    · split <;> decide

theorem State.faultNoted_tsqOnly : s.TsqOnly (s.faultNoted p) (faultRegs p) :=
  (((State.TsqOnly.refl s _).setFld _ _ (by simp [faultRegs])).setFld _ _ (by simp [faultRegs])).setReg _ (by simp [faultRegs])

theorem State.pending_faultNoted (hpend : (s.lp p).pending = none) : ((s.faultNoted p).lp p).pending = none := hpend

theorem State.microFaulted_tsqOnly (hpend : (s.lp p).pending = none) : (s.fire (8 + p)).TsqOnly (s.microFaulted p) (faultRegs p) := by
  have hnoted := (s.faultNoted_tsqOnly p).fire (8 + p)
  have htimed := (State.timedOut_tsqOnly (s.pending_faultNoted p hpend)).mono (m := faultRegs p) (by simp [tmoRegs, faultRegs])
  have hdropped := (hnoted.trans htimed).trans (State.dropPending_tsqOnly _ p _)
  exact ((hdropped.setFld _ _ (by simp [faultRegs])).setFld _ _ (by simp [faultRegs])).driveIdle p

theorem State.lp_microFaulted_run (hpend : (s.lp p).pending = none) : ((s.microFaulted p).lp p).run = .idle := by
  rw [State.microFaulted, State.lp_driveIdle, State.lp_setFlushing, State.lp_dropPending,
    State.lp_timedOut (s.pending_faultNoted p hpend)]
  rfl

/-- A register that only the noting of the fault changes. -/
theorem State.reg_microFaulted {o : Nat} (ho : o ∉ tmoRegs p) (hpend : (s.lp p).pending = none) :
    (s.microFaulted p).reg o = (s.faultNoted p).reg o := by
  have htimed := (State.timedOut_tsqOnly (s.pending_faultNoted p hpend)).reg o ho
  simp only [tmoRegs, List.mem_cons, List.not_mem_nil, or_false, not_or] at ho
  obtain ⟨-, hstat, htsq⟩ := ho
  rw [State.microFaulted, State.reg_driveIdle, State.setFlushing, State.reg_setFld_ne _ _ _ _ _ htsq, State.reg_setFld_ne _ _ _ _ _ hstat,
    State.reg_dropPending, htimed, State.reg_fire]

/-- A field of LPp_STAT apart from FLUSHING. -/
theorem State.fld_microFaulted {f : Fld} (hf : f.lo + f.width ≤ 32) (h : f.lo + f.width ≤ 1 ∨ 2 ≤ f.lo) :
    (s.microFaulted p).fld (R.lpStat p) f = ((s.faultNoted p).timedOut p).fld (R.lpStat p) f := by
  rw [State.microFaulted, State.fld, State.reg_driveIdle, ← State.fld, State.fld_setFlushing_apart _ _ _ hf h, State.fld_dropPending]

end

section
variable {s : State} {p : Nat} (hp : p < 8) (hpend : (s.lp p).pending = none)
include hpend

theorem State.fld_microFaulted_busy : (s.microFaulted p).fld (R.lpStat p) F.lpStat.BUSY = 0 := by
  rw [State.fld_microFaulted _ _ (by decide) (by decide), State.fld_timedOut_busy (s.pending_faultNoted p hpend)]

include hp

theorem State.fld_microFaulted_ufault : (s.microFaulted p).fld (R.lpStat p) F.lpStat.UFAULT = 1 := by
  rw [State.fld_microFaulted _ _ (by decide) (by decide), State.fld_timedOut (s.pending_faultNoted p hpend) (by decide) (by decide),
    State.fld_tmoCounted _ _ (by decide) (by decide), State.faultNoted,
    State.fld_setReg_ne _ _ _ _ _ (by simp only [R.lpStat, R.tsqUfAddr]; omega), State.fld_setFld _ _ _ _ (by decide)]
  rfl

theorem State.fld_microFaulted_en : (s.microFaulted p).fld (R.lpCfg p) F.lpCfg.EN = 0 := by
  rw [State.fld, State.reg_microFaulted _ _ (by
      simp only [tmoRegs, List.mem_cons, List.not_mem_nil, or_false, R.lpCfg, R.lpTmoCnt, R.lpStat, R.tsqStat]; omega) hpend, ← State.fld,
    State.faultNoted, State.fld_setReg_ne _ _ _ _ _ (by simp only [R.lpCfg, R.tsqUfAddr]; omega),
    State.fld_setFld_ne _ _ _ _ _ _ (by simp only [R.lpCfg, R.lpStat]; omega), State.fld_setFld _ _ _ _ (by decide)]
  rfl

theorem State.reg_microFaulted_ufAddr : (s.microFaulted p).reg R.tsqUfAddr = s.faultWord p := by
  rw [State.reg_microFaulted _ _ (by
      simp only [tmoRegs, List.mem_cons, List.not_mem_nil, or_false, R.tsqUfAddr, R.lpTmoCnt, R.lpStat, R.tsqStat]; omega) hpend,
    State.faultNoted, State.reg_setReg_same]

end

/-- The four fields of a noted fault. -/
theorem State.get_faultWord (s : State) {p : Nat} (hp : p < 8) :
    F.tsqUfAddr.VALID.get (s.faultWord p) = 1 ∧ F.tsqUfAddr.LP.get (s.faultWord p) = p ∧
    F.tsqUfAddr.CAUSE.get (s.faultWord p) = s.microFault p ∧ F.tsqUfAddr.ADDR.get (s.faultWord p) = min 1023 (s.lp p).pc := by
  have hcause := s.microFault_le p
  have haddr : min 1023 (s.lp p).pc ≤ 1023 := Nat.min_le_left _ _
  simp only [State.faultWord, Fld.get_ofNat]
  omega

theorem exec_microcodeFault {s : State} (hu : s.usual) (p : Fin 8) (h : s.microFault p ≠ 0) (hrun : (s.lp p).run = .line)
    (hended : (s.lp p).ended = false) (hwait : (s.lp p).waiting = none) (hline : (s.lp p).line < overlapBase)
    (hpend : (s.lp p).pending = none) (hg : s.Groupless) (hvalid : s.fld R.tsqUfAddr F.tsqUfAddr.VALID = 0) :
    exec (.microcodeFault p) s = .next (s.microFaulted p) := by
  have hf := s.microFaulted_tsqOnly p hpend
  have hlist : endIgnores (faultRegs p) := endIgnores_of_tsq (by
    simp only [faultRegs, List.mem_cons, List.not_mem_nil, or_false, forall_eq_or_imp, forall_eq, R.lpCfg, R.tsqUfAddr, R.lpTmoCnt,
      R.lpStat, R.tsqStat]
    omega)
  have hnotedg : (s.faultNoted p).Groupless := hg.of_reg fun g hg => (s.faultNoted_tsqOnly p).reg _ (by
    simp only [faultRegs, List.mem_cons, List.not_mem_nil, or_false, R.grpCtl, R.lpCfg, R.tsqUfAddr, R.lpTmoCnt, R.lpStat, R.tsqStat]
    omega)
  have hfirst : ((s.setFld (R.lpCfg p) F.lpCfg.EN 0).setFld (R.lpStat p) F.lpStat.UFAULT 1).bit R.tsqUfAddr F.tsqUfAddr.VALID = false :=
    State.bit_eq_false (by
      rw [State.fld_setFld_ne _ _ _ _ _ _ (by simp only [R.lpStat, R.tsqUfAddr]; omega),
        State.fld_setFld_ne _ _ _ _ _ _ (by simp only [R.lpCfg, R.tsqUfAddr]; omega)]
      exact hvalid)
  have hmet : ¬((s.lp p).run == .idle || (s.lp p).ended || (s.lp p).waiting.isSome || s.microFault p == 0) = true := by
    rw [hrun, hended, hwait]
    simpa using h
  have htaken : s.microFaultTaken p = s.microFaulted p := by
    rw [State.microFaultTaken, if_neg hmet]
    dsimp only
    rw [hfirst]
    change ((((s.faultNoted p).timeOut p).dropPending p).setFlushing p 0).driveIdle p = _
    rw [State.timeOut_of_line (s.pending_faultNoted p hpend) hnotedg hrun hline]
    rfl
  exact (congrArg State.done htaken).trans (hf.done (State.usual_fire _ hu) hlist)

/-- Settles O16: each instruction by its own rule. -/
theorem microcode : Obligations.Microcode := by
  unfold Obligations.Microcode
  intro s p hu
  refine ⟨exec_tsqNop hu p, exec_setg hu p, exec_phase hu p, fun h hn => ⟨exec_pix_unsampled hu p h hn, ?_⟩, exec_tsqLoop hu p,
    exec_waitev hu p, fun ev from_ cycle hw hle hrun => exec_waitevPulse hu p hw hle hrun, exec_endl hu p, ?_⟩
  · exact fun h2 h6 hrun hstale hplaced => exec_pix_sampled hu p h hn h2 h6 hrun hstale hplaced
  · intro h hrun hended hwait hline hpend hg hvalid
    have hf := s.microFaulted_tsqOnly p hpend
    obtain ⟨hv, hlp, hcause, haddr⟩ := s.get_faultWord p.isLt
    have hword := State.reg_microFaulted_ufAddr p.isLt hpend
    exact ⟨_, exec_microcodeFault hu p h hrun hended hwait hline hpend hg hvalid, hf.state, State.fld_microFaulted_en p.isLt hpend,
      State.fld_microFaulted_ufault p.isLt hpend, State.fld_microFaulted_busy hpend, s.lp_microFaulted_run p hpend,
      (congrArg _ hword).trans hv, (congrArg _ hword).trans hlp, (congrArg _ hword).trans hcause, (congrArg _ hword).trans haddr, hf.reg⟩

end Sys2Proof.Machine

/-!
Line triggers, overruns, flush lines and the line timeout with no shading group in use (R102, R104, R110, R113, R114).
-/
namespace Sys2Proof.Machine

/-! ## A consequence that changes nothing -/

/-- A command whose one consequence changes nothing ends with its effect. -/
theorem State.done_withWork {t : State} {w : Work} (h : t.usual) (hid : t.doWork w = t) : State.done { t with work := [w] } = .next t := by
  have hgo : State.settleGo settleBound { t with work := [w] } = t := by
    have hwork : t = { t with work := [] } := by rw [← h.1.1]
    rw [show settleBound = 1048575 + 1 from rfl, State.settleGo]
    change State.settleGo 1048575 (State.doWork { t with work := [] } w) = t
    rw [← hwork, hid]
    exact State.settleGo_of_quiet _ _ h.1
  rw [State.done, State.settle, hgo, State.showFld_of_settled _ h.2]

/-- With the line clock off, a trigger issues no tick. -/
theorem State.doWork_trigger {t : State} (p cycle : Nat) (h : t.fld R.dlfLcCfg F.dlfLcCfg.EN = 0) : t.doWork (.trigger p cycle) = t := by
  change t.issueTick p = t
  rw [State.issueTick]
  exact if_pos (by rw [State.bit_eq_false h]; rfl)

/-! ## Pending values taken -/

theorem Table.get_foldl_erase {d : Nat → Word} (l : List Nat) (t : Table Word) (off : Nat) :
    Table.get d (l.foldl (fun t o => Table.erase t o) t) off = if off ∈ l then d off else Table.get d t off := by
  induction l generalizing t with
  | nil => simp
  | cons o l ih =>
    rw [List.foldl_cons, ih, Table.get_erase]
    by_cases ho : off = o
    · simp [ho]
    · simp [ho]

section
variable (s : State) (p cycle y : Nat)

/-- The pending values of a line, and the test DAC, taken (R104, R153). -/
def State.pendingTaken (s : State) (p : Nat) : State := (s.commit (s.lineRegs p)).dacAtLine p

/-- What is held back of a register after pending values are taken: nothing, if it is one of those taken. -/
theorem State.get_commit (l : List Nat) {d : Nat → Word} {off : Nat} (h : Table.get d s.eff off = d off ∨ off ∈ l) :
    Table.get d (s.commit l).eff off = d off := by
  have heff : (s.commit l).eff = l.foldl (fun t o => Table.erase t o) s.eff := rfl
  rw [heff, Table.get_foldl_erase]
  split
  · rfl
  · next ho => exact h.resolve_right ho

theorem State.dacAtLine_state : ∃ on eff, s.dacAtLine p = { s with eff := eff, vaf := { s.vaf with dacOn := on } } ∧
    ∀ d off, Table.get d s.eff off = d off → Table.get d eff off = d off := by
  rw [State.dacAtLine]
  generalize (if s.bit R.vafTdac F.vafTdac.EN then [s.fld R.vafTdac F.vafTdac.VIN] else []) = want
  dsimp only
  split
  · exact ⟨_, _, rfl, fun d off h => s.get_commit [R.vafTdac] (.inl h)⟩
  · exact ⟨_, _, rfl, fun d off h => h⟩

/-- Taking the pending values touches what is held back and the test DAC only, and nothing of the line's registers stays held back. -/
theorem State.pendingTaken_state : ∃ on eff, s.pendingTaken p = { s with eff := eff, vaf := { s.vaf with dacOn := on } } ∧
    ∀ d off, off ∈ s.lineRegs p → Table.get d eff off = d off := by
  obtain ⟨on, eff, h, hkeep⟩ := (s.commit (s.lineRegs p)).dacAtLine_state p
  exact ⟨on, eff, h, fun d off ho => hkeep d off (State.get_commit _ _ (.inr ho))⟩

/-- A program at the start of a line (R104). -/
def Lp.started (l : Lp) (start cycle y : Nat) : Lp := { l with
  run := .line, pc := start, cycle := cycle + 2, first := cycle + 2, loop0 := none, loop1 := none
  waiting := none, phases := [], line := y, ended := false, staleSeen := false, burst := none, taken := [], bursts := []
  flushDue := false, phi := 0 }

/-- BUSY set and FLUSHING cleared. -/
def State.lineShown (s : State) (p : Nat) : State := (s.setFlushing p 0).setBusy p 1

/-- A line started while the program was idle (R104). -/
def State.lineStarted (s : State) (p cycle y : Nat) : State :=
  (((s.pendingTaken p).lineShown p).setLp p ((s.lp p).started (s.fld (R.lpCfg p) F.lpCfg.START) cycle y)).driveLs

theorem State.lineShown_regsBut : s.regsBut (s.lineShown p) [R.lpStat p, R.tsqStat] :=
  ((((State.regsBut.refl s _).setFld _ _ (by simp)).setFld _ _ (by simp)).setFld _ _ (by simp)).setFld _ _ (by simp)

theorem State.startLine_of_idle (hrun : (s.lp p).run = .idle) (hy : y < overlapBase) : s.startLine p cycle y = s.lineStarted p cycle y := by
  obtain ⟨on, eff, h, -⟩ := s.pendingTaken_state p
  have hlp : ((s.pendingTaken p).lineShown p).lp p = s.lp p := by rw [h]; rfl
  have hstart : ((s.pendingTaken p).lineShown p).fld (R.lpCfg p) F.lpCfg.START = s.fld (R.lpCfg p) F.lpCfg.START := by
    rw [((s.pendingTaken p).lineShown_regsBut p).fld (by
      simp only [List.mem_cons, List.not_mem_nil, or_false, R.lpCfg, R.lpStat, R.tsqStat]; omega), h]
    rfl
  have hflush : ¬((s.lp p).run == .flush) = true := by rw [hrun]; decide
  rw [State.startLine, if_neg hflush, if_neg (Nat.not_le.mpr hy)]
  change (((s.pendingTaken p).lineShown p).setLp p ((((s.pendingTaken p).lineShown p).lp p).started
    (((s.pendingTaken p).lineShown p).fld (R.lpCfg p) F.lpCfg.START) cycle y)).driveLs = _
  rw [hlp, hstart]
  rfl

/-- A trigger taken: the line started and its event fired. -/
def State.lineTriggered (s : State) (p cycle : Nat) : State :=
  (((s.setReg (R.lpLineCnt p) (s.reg (R.lpLineCnt p) + 1)).lineStarted p cycle (s.reg (R.lpLineCnt p)).toNat).fire p).driveLs

/-- The registers of a trigger. -/
def triggerRegs (p : Nat) : List Nat := [R.lpLineCnt p, R.lpStat p, R.tsqStat]

theorem State.lineStarted_tsqOnly : (s.pendingTaken p).TsqOnly (s.lineStarted p cycle y) [R.lpStat p, R.tsqStat] :=
  ((((((State.TsqOnly.refl _ _).setFld _ _ (by simp)).setFld _ _ (by simp)).setFld _ _ (by simp)).setFld _ _ (by simp)).setLp p _).driveLs

theorem State.lineTriggered_tsqOnly : (((s.setReg (R.lpLineCnt p) (s.reg (R.lpLineCnt p) + 1)).pendingTaken p).fire p).TsqOnly
    (s.lineTriggered p cycle) [R.lpStat p, R.tsqStat] :=
  ((State.lineStarted_tsqOnly _ p cycle _).fire p).driveLs

/-- A trigger touches TSQ, what is held back, the test DAC and the pulse of its event, and registers. -/
theorem State.lineTriggered_state : s.lineTriggered p cycle = { s with
    regs := (s.lineTriggered p cycle).regs, eff := (s.lineTriggered p cycle).eff, tsq := (s.lineTriggered p cycle).tsq
    vaf := { s.vaf with dacOn := (s.lineTriggered p cycle).vaf.dacOn }, pulses := addSorted s.pulses p } := by
  have hf := (s.lineTriggered_tsqOnly p cycle).state
  obtain ⟨on, eff, h, -⟩ := (s.setReg (R.lpLineCnt p) (s.reg (R.lpLineCnt p) + 1)).pendingTaken_state p
  rw [h] at hf
  generalize s.lineTriggered p cycle = t at hf ⊢
  rw [hf]
  rfl

theorem State.reg_pendingTaken (o : Nat) : (s.pendingTaken p).reg o = s.reg o := by
  obtain ⟨on, eff, h, -⟩ := s.pendingTaken_state p
  rw [h]
  rfl

theorem State.reg_driveLs (o : Nat) : s.driveLs.reg o = s.reg o := s.reg_of_regs _ rfl o

theorem State.reg_setLp (x : Lp) (o : Nat) : (s.setLp p x).reg o = s.reg o := s.reg_of_regs _ rfl o

theorem State.reg_lineTriggered (o : Nat) : (s.lineTriggered p cycle).reg o =
    (((s.setReg (R.lpLineCnt p) (s.reg (R.lpLineCnt p) + 1)).pendingTaken p).lineShown p).reg o := by
  rw [State.lineTriggered, State.reg_driveLs, State.reg_fire, State.lineStarted, State.reg_driveLs, State.reg_setLp]

theorem State.lineTriggered_regsBut : s.regsBut (s.lineTriggered p cycle) (triggerRegs p) := by
  have hcounted : s.regsBut ((s.setReg (R.lpLineCnt p) (s.reg (R.lpLineCnt p) + 1)).pendingTaken p) (triggerRegs p) := fun o ho => by
    rw [State.reg_pendingTaken]
    exact (State.regsBut.refl s (triggerRegs p)).setReg _ (by simp [triggerRegs]) o ho
  exact fun o ho => (s.reg_lineTriggered p cycle o).trans
    ((hcounted.trans ((State.lineShown_regsBut _ p).mono (by simp [triggerRegs]))) o ho)

theorem State.lp_lineTriggered : (s.lineTriggered p cycle).lp p =
    (s.lp p).started (s.fld (R.lpCfg p) F.lpCfg.START) cycle (s.reg (R.lpLineCnt p)).toNat := by
  rw [State.lineTriggered, State.lp_driveLs, State.lp_fire, State.lineStarted, State.lp_driveLs, State.lp_setLp_same, State.lp_setReg,
    State.fld_setReg_ne _ _ _ _ _ (by simp only [R.lpCfg, R.lpLineCnt]; omega)]

theorem State.lp_lineTriggered_ne {q : Nat} (h : q ≠ p) : (s.lineTriggered p cycle).lp q = s.lp q := by
  obtain ⟨on, eff, hs, -⟩ := (s.setReg (R.lpLineCnt p) (s.reg (R.lpLineCnt p) + 1)).pendingTaken_state p
  rw [State.lineTriggered, State.lp_driveLs, State.lp_fire, State.lineStarted, State.lp_driveLs, State.lp_setLp_ne _ _ _ h, hs]
  rfl

theorem State.tg_lineTriggered : (s.lineTriggered p cycle).tsq.tg = s.tsq.tg := by
  obtain ⟨on, eff, hs, -⟩ := (s.setReg (R.lpLineCnt p) (s.reg (R.lpLineCnt p) + 1)).pendingTaken_state p
  rw [State.lineTriggered, State.lineStarted, hs]
  rfl

theorem State.reg_lineTriggered_cnt : (s.lineTriggered p cycle).reg (R.lpLineCnt p) = s.reg (R.lpLineCnt p) + 1 := by
  rw [State.reg_lineTriggered, State.lineShown_regsBut _ p _ (by
      simp only [List.mem_cons, List.not_mem_nil, or_false, R.lpLineCnt, R.lpStat, R.tsqStat]; omega),
    State.reg_pendingTaken, State.reg_setReg_same]

theorem State.fld_lineShown : (s.lineShown p).fld (R.lpStat p) F.lpStat.BUSY = 1 ∧ (s.lineShown p).fld (R.lpStat p) F.lpStat.FLUSHING = 0 :=
  ⟨State.fld_setBusy _ _ _ (by decide),
    (State.fld_setBusy_apart _ _ _ (by decide) (by decide)).trans (State.fld_setFlushing _ _ _ (by decide))⟩

theorem State.effReg_lineTriggered {off : Nat} (ho : off ∈ s.lineRegs p) (hg : s.Groupless) :
    (s.lineTriggered p cycle).effReg off = (s.lineTriggered p cycle).reg off := by
  obtain ⟨u, hu⟩ : ∃ u, u = s.setReg (R.lpLineCnt p) (s.reg (R.lpLineCnt p) + 1) := ⟨_, rfl⟩
  have hug : u.Groupless := hg.of_reg fun g hg => by
    rw [hu]
    exact State.reg_setReg_ne _ _ _ _ (by simp only [R.grpCtl, R.lpLineCnt]; omega)
  have hregs : u.lineRegs p = s.lineRegs p := by
    have hvin : u.fld (R.lpVin p) F.lpVin.VIN = s.fld (R.lpVin p) F.lpVin.VIN := by
      rw [hu]
      exact State.fld_setReg_ne _ _ _ _ _ (by simp only [R.lpVin, R.lpLineCnt]; omega)
    rw [State.lineRegs, State.lineRegs, hvin, hug.groupsOf, hg.groupsOf]
  obtain ⟨on, eff, h, htaken⟩ := u.pendingTaken_state p
  have heff : (s.lineTriggered p cycle).eff = eff := by
    rw [State.lineTriggered, State.lineStarted, ← hu, h]
    rfl
  rw [State.effReg, heff]
  exact htaken _ off (by rw [hregs]; exact ho)

end

/-! ## The trigger -/

section
variable {s : State} (hu : s.usual) (hg : s.Groupless) (p : Fin 8) (cycle : Nat)
include hg

theorem State.raiseTrigger_of_idle (hrun : (s.lp p).run = .idle) : s.raiseTrigger p cycle none false =
    { s.lineTriggered p cycle with work := (s.lineTriggered p cycle).work ++ [Work.trigger p cycle] } := by
  obtain ⟨v, hv⟩ : ∃ v, v = ((s.setReg (R.lpLineCnt p) (s.reg (R.lpLineCnt p) + 1)).lineStarted p cycle (s.reg (R.lpLineCnt p)).toNat).fire p :=
    ⟨_, rfl⟩
  have hvg : v.Groupless := hg.of_reg fun g hg => by
    have h := s.lineTriggered_regsBut p cycle (R.grpCtl g) (by
      simp only [triggerRegs, List.mem_cons, List.not_mem_nil, or_false, R.grpCtl, R.lpLineCnt, R.lpStat, R.tsqStat]; omega)
    rw [State.lineTriggered, State.reg_driveLs, ← hv] at h
    exact h
  have hy : (s.reg (R.lpLineCnt p)).toNat < overlapBase := Nat.lt_trans (BitVec.isLt _) (by decide)
  have hstart := State.startLine_of_idle (s.setReg (R.lpLineCnt p) (s.reg (R.lpLineCnt p) + 1)) p cycle (s.reg (R.lpLineCnt p)).toNat
    (by rw [State.lp_setReg]; exact hrun) hy
  have hidle : ¬(false || ((s.setReg (R.lpLineCnt p) (s.reg (R.lpLineCnt p) + 1)).lp p).run == .line) = true := by
    rw [State.lp_setReg, hrun]
    decide
  rw [State.raiseTrigger, if_neg hidle, hstart]
  dsimp only
  rw [← hv, hvg.triggerGroups]
  rw [State.lineTriggered, ← hv]

theorem State.raiseTrigger_of_line (hrun : (s.lp p).run = .line) : s.raiseTrigger p cycle none false =
    ((s.setReg (R.lpLineCnt p) (s.reg (R.lpLineCnt p) + 1)).count (R.lpOvrCnt p)).setFld (R.lpStat p) F.lpStat.OVR 1 := by
  obtain ⟨v, hv⟩ : ∃ v, v = ((s.setReg (R.lpLineCnt p) (s.reg (R.lpLineCnt p) + 1)).count (R.lpOvrCnt p)).setFld (R.lpStat p) F.lpStat.OVR 1 :=
    ⟨_, rfl⟩
  have hvg : v.Groupless := hg.of_reg fun g hg => by
    rw [hv, State.reg_setFld_ne _ _ _ _ _ (by simp only [R.grpCtl, R.lpStat]; omega), State.reg_count,
      if_neg (by simp only [R.grpCtl, R.lpOvrCnt]; omega), State.reg_setReg_ne _ _ _ _ (by simp only [R.grpCtl, R.lpLineCnt]; omega)]
  have hline : (false || ((s.setReg (R.lpLineCnt p) (s.reg (R.lpLineCnt p) + 1)).lp p).run == .line) = true := by
    rw [State.lp_setReg, hrun]
    rfl
  rw [State.raiseTrigger, if_pos hline, ← hv]
  dsimp only
  rw [hvg.triggerGroups, hvg.programPlanes, hvg.listPlanes, State.queueRepeat_none, hvg.deliverReady]

omit hg in
theorem exec_lineTrigger_of_input (hen : s.fld (R.lpCfg p) F.lpCfg.EN = 1) (hpd : s.pdOn 131 = true)
    (hsrc : s.fld (R.lpCfg p) F.lpCfg.SRC = 7) (hsel : s.selOn (R.lpTrigSel p) = true) :
    exec (.lineTrigger p cycle) s = State.done (s.raiseTrigger p cycle none false) := by
  have htrigger : s.lineTrigger p cycle = s.raiseTrigger p cycle none false := by
    rw [State.lineTrigger, State.bit_eq_true hen, hpd, hsrc]
    exact if_pos hsel
  exact congrArg State.done htrigger

omit hg in
include hu in
theorem State.lineTriggered_done (hclock : s.fld R.dlfLcCfg F.dlfLcCfg.EN = 0) :
    State.done { s.lineTriggered p cycle with work := (s.lineTriggered p cycle).work ++ [Work.trigger p cycle] } =
      .next (s.lineTriggered p cycle) := by
  have hstate := s.lineTriggered_state p cycle
  have hregs := s.lineTriggered_regsBut p cycle
  have hwork : (s.lineTriggered p cycle).work = [] := (congrArg State.work hstate :).trans hu.1.1
  have hlist : endIgnores (triggerRegs p) := endIgnores_of_tsq (by
    simp only [triggerRegs, List.mem_cons, List.not_mem_nil, or_false, forall_eq_or_imp, forall_eq, R.lpLineCnt, R.lpStat, R.tsqStat]
    omega)
  have hoff : (s.lineTriggered p cycle).fld R.dlfLcCfg F.dlfLcCfg.EN = 0 := (hregs.fld (by
    simp only [triggerRegs, List.mem_cons, List.not_mem_nil, or_false, R.dlfLcCfg, R.lpLineCnt, R.lpStat, R.tsqStat]; omega) _).trans hclock
  generalize s.lineTriggered p cycle = t at hstate hregs hwork hoff
  rw [hwork, List.nil_append]
  exact State.done_withWork (State.usual_of hu (State.endsAlike_of (by rw [hstate])) hregs hlist) (State.doWork_trigger p cycle hoff)

end

/-! ## Flush lines and the line timeout -/

section
variable {s : State} (p : Fin 8) (cycle : Nat)

/-- A program at the start of a flush line (R114, R115). -/
def Lp.flushing (l : Lp) (start cycle : Nat) : Lp := { l with
  run := .flush, pc := start, cycle := cycle + 2, first := cycle + 2, loop0 := none, loop1 := none
  waiting := none, phases := [], ended := false, burst := none, taken := [], bursts := [], flushDue := false, pendRead := false }

theorem State.startFlush_eq : s.startFlush p cycle =
    (s.setLp p ((s.lp p).flushing (s.fld (R.lpCfg p) F.lpCfg.START) cycle)).count (R.lpFlushCnt p) := rfl

theorem State.startFlush_tsqOnly : s.TsqOnly (s.startFlush p cycle) [R.lpFlushCnt p] :=
  ((State.TsqOnly.refl s _).setLp p _).count (List.mem_singleton_self _)

theorem State.lp_startFlush : (s.startFlush p cycle).lp p = (s.lp p).flushing (s.fld (R.lpCfg p) F.lpCfg.START) cycle := by
  rw [State.startFlush_eq, State.lp_count, State.lp_setLp_same]

theorem State.reg_startFlush_cnt : (s.startFlush p cycle).reg (R.lpFlushCnt p) = satInc (s.reg (R.lpFlushCnt p)) := by
  rw [State.startFlush_eq, State.reg_count, if_pos rfl, State.reg_setLp]

variable (hu : s.usual) (hen : s.fld (R.lpCfg p) F.lpCfg.EN = 1) (hrun : (s.lp p).run = .idle)
include hu hen hrun

theorem exec_flushEntry (hflush : s.fld (R.lpCfg p) F.lpCfg.FLUSH_EN = 1) (hoff : s.fld (R.lpStat p) F.lpStat.FLUSHING = 0) :
    ∃ t, exec (.flushEntry p cycle) s = .next t ∧ t = { s with regs := t.regs, tsq := t.tsq } ∧
      t.fld (R.lpStat p) F.lpStat.FLUSHING = 1 ∧ (t.lp p).run = .flush ∧ (t.lp p).pc = s.fld (R.lpCfg p) F.lpCfg.START ∧
      (t.lp p).cycle = cycle + 2 ∧ t.reg (R.lpFlushCnt p) = satInc (s.reg (R.lpFlushCnt p)) ∧
      (∀ off, off ∉ [R.lpStat p, R.tsqStat, R.lpFlushCnt p] → t.reg off = s.reg off) := by
  have hshown : s.TsqOnly (s.setFlushing p 1) [R.lpStat p, R.tsqStat, R.lpFlushCnt p] :=
    ((State.TsqOnly.refl s _).setFld _ _ (by simp)).setFld _ _ (by simp)
  have hf := hshown.trans ((State.startFlush_tsqOnly (s := s.setFlushing p 1) p cycle).mono (by simp))
  have hexec : exec (.flushEntry p cycle) s = State.done ((s.setFlushing p 1).startFlush p cycle) :=
    congrArg State.done ((if_pos (by rw [State.bit_eq_true hen, State.bit_eq_true hflush, State.bit_eq_false hoff]; rfl)).trans
      (if_pos (by rw [State.lp_setFlushing, hrun]; rfl)))
  have hlist : endIgnores [R.lpStat p, R.tsqStat, R.lpFlushCnt p] := endIgnores_of_tsq (by
    simp only [List.mem_cons, List.not_mem_nil, or_false, forall_eq_or_imp, forall_eq, R.lpFlushCnt, R.lpStat, R.tsqStat]; omega)
  have hcfg : R.lpCfg p ≠ R.lpStat p ∧ R.lpCfg p ≠ R.tsqStat := by simp only [R.lpCfg, R.lpStat, R.tsqStat]; omega
  have hstart : (s.setFlushing p 1).fld (R.lpCfg p) F.lpCfg.START = s.fld (R.lpCfg p) F.lpCfg.START := by
    rw [State.setFlushing, State.fld_setFld_ne _ _ _ _ _ _ hcfg.2, State.fld_setFld_ne _ _ _ _ _ _ hcfg.1]
  refine ⟨_, hexec.trans (hf.done hu hlist), hf.state, ?_, ?_, ?_, ?_, ?_, hf.reg⟩
  · rw [(State.startFlush_tsqOnly (s := s.setFlushing p 1) p cycle).fld (by simp only [List.mem_singleton, R.lpFlushCnt, R.lpStat]; omega)]
    exact State.fld_setFlushing _ _ _ (by decide)
  · rw [State.lp_startFlush]
    rfl
  · rw [State.lp_startFlush, hstart]
    rfl
  · rw [State.lp_startFlush]
    rfl
  · rw [State.reg_startFlush_cnt, State.setFlushing, State.reg_setFld_ne _ _ _ _ _ (by simp only [R.lpFlushCnt, R.tsqStat]; omega),
      State.reg_setFld_ne _ _ _ _ _ (by simp only [R.lpFlushCnt, R.lpStat]; omega)]

theorem exec_flushLineDue (hon : s.fld (R.lpStat p) F.lpStat.FLUSHING = 1) :
    ∃ t, exec (.flushLineDue p cycle) s = .next t ∧ t = { s with regs := t.regs, tsq := t.tsq } ∧
      (t.lp p).run = .flush ∧ (t.lp p).pc = s.fld (R.lpCfg p) F.lpCfg.START ∧ (t.lp p).cycle = cycle + 2 ∧
      t.reg (R.lpFlushCnt p) = satInc (s.reg (R.lpFlushCnt p)) ∧ (∀ off, off ≠ R.lpFlushCnt p → t.reg off = s.reg off) := by
  have hf := State.startFlush_tsqOnly (s := s) p cycle
  have hexec : exec (.flushLineDue p cycle) s = State.done (s.startFlush p cycle) :=
    congrArg State.done ((if_pos (by rw [State.bit_eq_true hen, State.bit_eq_true hon]; rfl)).trans (if_pos (by rw [hrun]; rfl)))
  have hlist : endIgnores [R.lpFlushCnt p] := endIgnores_of_tsq (by simp only [List.mem_singleton, forall_eq, R.lpFlushCnt]; omega)
  refine ⟨_, hexec.trans (hf.done hu hlist), hf.state, ?_, ?_, ?_, State.reg_startFlush_cnt p cycle, fun o ho => hf.reg o (by simpa using ho)⟩
  · rw [State.lp_startFlush]
    rfl
  · rw [State.lp_startFlush]
    rfl
  · rw [State.lp_startFlush]
    rfl

end

/-- Settles O15: the trigger of an idle and of a busy program, the flush lines, and the timeout of a line. -/
theorem linesStartAndEnd : Obligations.LinesStartAndEnd := by
  unfold Obligations.LinesStartAndEnd
  intro s p cycle hu hgroupless
  have hg : s.Groupless := hgroupless
  refine ⟨fun hen hpd hsrc hsel hclock => ⟨fun hrun => ?_, fun hrun => ?_⟩, fun hen hflush hrun => ⟨?_, ?_⟩, ?_⟩
  · have hexec := (exec_lineTrigger_of_input p cycle hen hpd hsrc hsel).trans (congrArg State.done (State.raiseTrigger_of_idle hg p cycle hrun))
    have hlp := s.lp_lineTriggered p cycle
    have hshown := ((s.setReg (R.lpLineCnt p) (s.reg (R.lpLineCnt p) + 1)).pendingTaken p).fld_lineShown p
    have hstat := s.reg_lineTriggered p cycle (R.lpStat p)
    refine ⟨_, hexec.trans (State.lineTriggered_done hu p cycle hclock), s.lineTriggered_state p cycle, s.reg_lineTriggered_cnt p cycle,
      ?_, ?_, ?_, ?_, ?_, ?_, ?_, (congrArg _ hstat).trans hshown.1, (congrArg _ hstat).trans hshown.2, s.tg_lineTriggered p cycle,
      fun q hq => s.lp_lineTriggered_ne p cycle hq, s.lineTriggered_regsBut p cycle, fun off ho => s.effReg_lineTriggered p cycle ho hg⟩
    all_goals
      rw [hlp]
      rfl
  · have hexec := (exec_lineTrigger_of_input p cycle hen hpd hsrc hsel).trans (congrArg State.done (State.raiseTrigger_of_line hg p cycle hrun))
    have hlist : endIgnores [R.lpLineCnt p, R.lpOvrCnt p, R.lpStat p] := endIgnores_of_tsq (by
      simp only [List.mem_cons, List.not_mem_nil, or_false, forall_eq_or_imp, forall_eq, R.lpLineCnt, R.lpOvrCnt, R.lpStat]; omega)
    have hf : s.regsOnly (((s.setReg (R.lpLineCnt p) (s.reg (R.lpLineCnt p) + 1)).count (R.lpOvrCnt p)).setFld (R.lpStat p) F.lpStat.OVR 1)
        [R.lpLineCnt p, R.lpOvrCnt p, R.lpStat p] :=
      (((State.regsOnly.refl s _).setReg _ (by simp)).count (by simp)).setFld _ _ (by simp)
    refine ⟨_, hexec.trans (State.done_of_regsOnly hu hf hlist), hf.sameBut, ?_, ?_, ?_⟩
    · rw [State.reg_setFld_ne _ _ _ _ _ (by simp only [R.lpLineCnt, R.lpStat]; omega), State.reg_count,
        if_neg (by simp only [R.lpLineCnt, R.lpOvrCnt]; omega), State.reg_setReg_same]
    · rw [State.reg_setFld_ne _ _ _ _ _ (by simp only [R.lpOvrCnt, R.lpStat]; omega), State.reg_count, if_pos rfl,
        State.reg_setReg_ne _ _ _ _ (by simp only [R.lpOvrCnt, R.lpLineCnt]; omega)]
    · exact State.fld_setFld _ _ _ _ (by decide)
  · exact exec_flushEntry p cycle hu hen hrun hflush
  · exact exec_flushLineDue p cycle hu hen hrun
  · intro hrun hended hline hpend hus
    have hf := State.timedOut_tsqOnly hpend
    have hlp := State.lp_timedOut hpend
    have hexec : exec (.lineTimeout p) s = State.done (s.timedOut p) := by
      rw [← State.timeOut_of_line hpend hg hrun hline]
      exact congrArg State.done (if_pos (by rw [hrun, hended]; simpa using hus))
    refine ⟨_, hexec.trans (hf.done (State.usual_fire _ hu) (endIgnores_tmoRegs p)), hf.state, State.reg_timedOut_cnt hpend, ?_,
      State.fld_timedOut_busy hpend, ?_, fun k => ?_, hf.reg⟩
    · rw [State.fld_timedOut hpend (by decide) (by decide), State.fld_tmoCounted_tmo]
    · rw [hlp]
      rfl
    · rw [hlp]
      exact Lp.phase_closed (s.lp p) k

end Sys2Proof.Machine

/-!
The enable, refusal and disable of a line program (R87-R90, R103).
-/
namespace Sys2Proof.Machine

/-! ## The causes of a refusal -/

section
variable {s t : State} {p : Nat}

/-- The causes look at registers, and at what governs the LS outputs of the phases. -/
theorem State.lpCause_congr (hreg : ∀ off, t.reg off = s.reg off) (heff : ∀ q k, k < 6 → t.effReg (R.lpPhCfg q k) = s.effReg (R.lpPhCfg q k)) :
    t.lpCause p = s.lpCause p := by
  have hregs : t.reg = s.reg := funext hreg
  have hfld : t.fld = s.fld := by
    funext off f
    rw [State.fld, hregs, State.fld]
  have hbit : t.bit = s.bit := by
    funext off f
    rw [State.bit, hfld, State.bit]
  have hls : t.lsUnion = s.lsUnion := by
    funext q
    refine List.foldl_ext _ _ _ fun m k hk => ?_
    rw [State.effFld, State.effFld, heff q k (List.mem_range.mp hk), hfld]
  have hothers : t.lsOthers p = s.lsOthers p := by rw [State.lsOthers, State.lsOthers, hbit, hls]
  have hshutters : t.shutters p = s.shutters p := by rw [State.shutters, State.shutters, hbit, hfld]
  have hsrc : t.positionSrc p = s.positionSrc p := by rw [State.positionSrc, State.positionSrc, hfld]
  rw [State.lpCause, State.lpCause, hbit, hfld, hls, hothers, hshutters, hsrc, hregs]

/-- A program that a position source may trigger has a pitch of a count at least (R88). -/
theorem State.pitch_of_accepted (h : s.lpCause p = 0) (hsrc : s.positionSrc p = true) : 0x10000 ≤ (s.reg (R.lpPitch p)).toNat := by
  rw [State.lpCause] at h
  dsimp only at h
  split at h
  · exact absurd h (by decide)
  · split at h
    · exact absurd h (by decide)
    · next hpitch => simpa [hsrc] using hpitch

theorem State.lpCause_le : s.lpCause p ≤ 3 := by
  rw [State.lpCause]
  dsimp only
  split
  · decide
  · split
    · decide
    · split <;> decide

end

/-! ## NEXT advanced -/

/-- The first position beyond `pos` that lies whole pitches after `next` (R103). -/
def nextBeyond (next pos pitch : Int) : Int := next + ((pos - next) / pitch + 1) * pitch

theorem nextBeyond_spec {next pos pitch : Int} (hle : next ≤ pos) (hpitch : 0 < pitch) :
    pos < nextBeyond next pos pitch ∧ nextBeyond next pos pitch ≤ pos + pitch ∧ ∃ k : Nat, nextBeyond next pos pitch = next + k * pitch := by
  have hdiv := Int.mul_ediv_add_emod (pos - next) pitch
  have hlt := Int.emod_lt_of_pos (pos - next) hpitch
  have hge := Int.emod_nonneg (pos - next) (ne_of_gt hpitch)
  have hq : 0 ≤ (pos - next) / pitch := Int.ediv_nonneg (by omega) (by omega)
  have hmul : nextBeyond next pos pitch = next + pitch * ((pos - next) / pitch) + pitch := by rw [nextBeyond]; ring
  refine ⟨by omega, by omega, ((pos - next) / pitch + 1).toNat, ?_⟩
  rw [Int.toNat_of_nonneg (by omega), nextBeyond]

section
variable {s : State} {p : Nat}

theorem State.nextAdjust_of_unlocked (h : 5 < s.fld (R.lpCfg p) F.lpCfg.SRC) : s.nextAdjust p = s := by
  have hsrc : s.positionSrc p = false := decide_eq_false (by omega)
  rw [State.nextAdjust, hsrc]
  exact if_neg (by simp)

/-- NEXT set beyond the position, and NEXT_ADJ. -/
def State.nextAdjusted (s : State) (p : Nat) (v : Int) : State := (s.setNext p v).setFld (R.lpStat p) F.lpStat.NEXT_ADJ 1

theorem State.nextAdjust_of_reached (hsrc : s.fld (R.lpCfg p) F.lpCfg.SRC ≤ 5) (hpitch : 0x10000 ≤ (s.reg (R.lpPitch p)).toNat)
    (hle : s.next p ≤ s.position (s.fld (R.lpCfg p) F.lpCfg.SRC)) : s.nextAdjust p =
      s.nextAdjusted p (nextBeyond (s.next p) (s.position (s.fld (R.lpCfg p) F.lpCfg.SRC)) ((s.reg (R.lpPitch p)).toNat : Nat)) := by
  have hpos : s.positionSrc p = true := decide_eq_true hsrc
  rw [State.nextAdjust, hpos]
  exact if_pos (by simp; omega)

theorem State.nextAdjust_regsOnly : s.regsOnly (s.nextAdjust p) [R.lpNextLo p, R.lpNextHi p, R.lpStat p] := by
  rw [State.nextAdjust]
  split
  · exact (((State.regsOnly.refl s _).setReg _ (by simp)).setReg _ (by simp)).setFld _ _ (by simp)
  · exact .refl s _

end

theorem State.next_congr {s t : State} {p : Nat} (hlo : t.reg (R.lpNextLo p) = s.reg (R.lpNextLo p))
    (hhi : t.reg (R.lpNextHi p) = s.reg (R.lpNextHi p)) : t.next p = s.next p := by
  rw [State.next, State.reg64, hlo, hhi, State.next, State.reg64]

/-- A position lies above the registers of TSQ. -/
theorem State.position_congr {s t : State} {src : Nat} (h : ∀ off, 0x10000 ≤ off → t.reg off = s.reg off) :
    t.position src = s.position src := by
  rw [State.position, State.position]
  split
  · rw [State.reg64, State.reg64, h _ (by simp only [R.encPosLo]; omega), h _ (by simp only [R.encPosHi]; omega)]
  · rw [State.reg64, State.reg64, h _ (by simp only [R.axisPosLo]; omega), h _ (by simp only [R.axisPosHi]; omega)]

section
variable {s : State} {p : Nat} {v : Int}

theorem State.next_nextAdjusted (hlo : -2 ^ 63 ≤ v) (hhi : v < 2 ^ 63) : (s.nextAdjusted p v).next p = v := by
  have hne : R.lpNextLo p ≠ R.lpNextHi p := by simp only [R.lpNextLo, R.lpNextHi]; omega
  have hstat : (s.nextAdjusted p v).next p = (s.setNext p v).next p := State.next_congr
    (State.reg_setFld_ne _ _ _ _ _ (by simp only [R.lpNextLo, R.lpStat]; omega))
    (State.reg_setFld_ne _ _ _ _ _ (by simp only [R.lpNextHi, R.lpStat]; omega))
  rw [hstat]
  exact State.signed_reg64_setReg64 s _ _ v hne hlo hhi

theorem State.fld_nextAdjusted : (s.nextAdjusted p v).fld (R.lpStat p) F.lpStat.NEXT_ADJ = 1 := by
  rw [State.nextAdjusted, State.fld_setFld _ _ _ _ (by decide)]
  rfl

end

/-! ## Enable -/

section
variable (s : State) (path : Path) (p : Nat) (w : Word)

/-- LPp_CFG with EN set. -/
def State.lpOn (s : State) (path : Path) (p : Nat) (w : Word) : State := s.writeRow path (R.lpCfg p) Row.lpCfg (F.lpCfg.EN.put w 1) false

/-- The accepted program before its NEXT is judged. -/
def State.lpReady (s : State) (path : Path) (p : Nat) (w : Word) : State :=
  (((s.lpOn path p w).setReg (R.lpLineCnt p) 0).commit [R.lpPitch p]).driveIdle p

theorem State.lpOn_sameBut : s.sameBut (s.lpOn path p w) [R.lpCfg p] := s.writeRow_sameBut _ _ _ _

theorem State.reg_lpOn (off : Nat) : (s.lpOn path p w).reg off =
    (s.setReg (R.lpCfg p) (Row.lpCfg.written (s.reg (R.lpCfg p)) (F.lpCfg.EN.put w 1))).reg off := by
  rw [State.lpOn, State.reg_writeRow, State.reg_setReg]

theorem State.fld_lpOn : (s.lpOn path p w).fld (R.lpCfg p) F.lpCfg.EN = 1 ∧ (s.lpOn path p w).fld (R.lpCfg p) F.lpCfg.SRC = F.lpCfg.SRC.get w := by
  refine ⟨(State.fld_writeRow_of_takes s path _ _ (by decide) (by decide)).trans ?_, (State.fld_writeRow_of_takes s path _ _ (by decide) (by decide)).trans ?_⟩
  · rw [Fld.get_put _ _ _ (by decide)]
    rfl
  · rw [Fld.get_put_apart _ _ _ _ (by decide) (by decide) (by decide)]

/-- The causes are those of the state with EN set. -/
theorem State.lpCause_lpOn : (s.lpOn path p w).lpCause p =
    (s.setReg (R.lpCfg p) (Row.lpCfg.written (s.reg (R.lpCfg p)) (F.lpCfg.EN.put w 1))).lpCause p := by
  refine State.lpCause_congr (s.reg_lpOn path p w) fun q k hk => ?_
  have hne : R.lpPhCfg q k ≠ R.lpCfg p := by simp only [R.lpPhCfg, R.lpCfg]; omega
  have hset := (State.sameBut_setReg s (R.lpCfg p) (Row.lpCfg.written (s.reg (R.lpCfg p)) (F.lpCfg.EN.put w 1))).2 _ (by simpa using hne)
  exact ((s.lpOn_sameBut path p w).2 _ (by simpa using hne)).2.trans hset.2.symm

theorem State.lpReady_state : s.lpReady path p w = { s with
    regs := (s.lpReady path p w).regs, eff := (s.lpReady path p w).eff, tsq := (s.lpReady path p w).tsq } := by
  have hw := (s.lpOn_sameBut path p w).1
  have hf : (((s.lpOn path p w).setReg (R.lpLineCnt p) 0).commit [R.lpPitch p]).TsqOnly (s.lpReady path p w) [] :=
    (State.TsqOnly.refl _ _).driveIdle p
  have hstate := hf.state
  generalize s.lpReady path p w = t at hstate ⊢
  rw [hw] at hstate
  rw [hstate]
  rfl

/-- What the accepted program holds in registers. -/
theorem State.reg_lpReady {off : Nat} (h : off ≠ R.lpLineCnt p) : (s.lpReady path p w).reg off = (s.lpOn path p w).reg off := by
  rw [State.lpReady, State.reg_driveIdle]
  exact State.reg_setReg_ne _ _ _ _ h

theorem State.reg_lpReady_cnt : (s.lpReady path p w).reg (R.lpLineCnt p) = 0 := by
  rw [State.lpReady, State.reg_driveIdle]
  exact State.reg_setReg_same _ _ _

theorem State.lp_lpReady {q : Nat} (h : q ≠ p) : (s.lpReady path p w).lp q = s.lp q := by
  rw [State.lpReady, State.lp_driveIdle_ne _ _ h]
  exact (congrArg (fun t : State => t.lp q) (s.lpOn_sameBut path p w).1 :)

theorem State.lpCfg_ne_lpLineCnt : R.lpCfg p ≠ R.lpLineCnt p := by simp only [R.lpCfg, R.lpLineCnt]; omega

/-- Outside TSQ's registers for the program the accepted program reads as before. -/
theorem State.lpReady_regsBut : s.regsBut (s.lpReady path p w) [R.lpCfg p, R.lpLineCnt p] := fun off ho => by
  simp only [List.mem_cons, List.not_mem_nil, or_false, not_or] at ho
  rw [s.reg_lpReady path p w ho.2, ((s.lpOn_sameBut path p w).2 off (by simpa using ho.1)).1]

theorem State.tg_driveIdle (hsh : s.shutters p = []) {n : Nat} (hn : n < 24) : (s.driveIdle p).tsq.tg.getLsbD n =
    (if (s.fld (R.lpOuts p) F.lpOuts.TG).testBit n then (s.fld (R.lpIdle p) F.lpIdle.TG).testBit n else s.tsq.tg.getLsbD n) := by
  obtain ⟨u, hu⟩ : ∃ u, u = s.setLp p { s.lp p with phases := (s.lp p).phases.map (fun e => (e.1, { e.2 with win := .closed })) } := ⟨_, rfl⟩
  have hidle : s.driveIdle p = ((u.driveTg (s.fld (R.lpOuts p) F.lpOuts.TG) (s.fld (R.lpIdle p) F.lpIdle.TG)).driveShutters p).driveLs := by
    rw [hu]
    rfl
  have hnone : (u.driveTg (s.fld (R.lpOuts p) F.lpOuts.TG) (s.fld (R.lpIdle p) F.lpIdle.TG)).shutters p = [] := by
    rw [hu]
    exact hsh
  have htg : ∀ v : State, v.driveLs.tsq.tg = v.tsq.tg := fun _ => rfl
  rw [hidle, htg, State.driveShutters_of_none _ _ hnone, State.tg_driveTg _ _ _ _ hn, hu]
  rfl

/-- An output of the program is at its idle level, the others as before. -/
theorem State.tg_lpReady (hsh : s.shutters p = []) {n : Nat} (hn : n < 24) : (s.lpReady path p w).tsq.tg.getLsbD n =
    (if (s.fld (R.lpOuts p) F.lpOuts.TG).testBit n then (s.fld (R.lpIdle p) F.lpIdle.TG).testBit n else s.tsq.tg.getLsbD n) := by
  have hreg : ∀ off, off ≠ R.lpCfg p → off ≠ R.lpLineCnt p →
      (((s.lpOn path p w).setReg (R.lpLineCnt p) 0).commit [R.lpPitch p]).reg off = s.reg off := fun off hcfg hcnt =>
    (State.reg_setReg_ne _ _ _ _ hcnt).trans ((s.lpOn_sameBut path p w).2 off (by simpa using hcfg)).1
  have htg : (((s.lpOn path p w).setReg (R.lpLineCnt p) 0).commit [R.lpPitch p]).tsq.tg = s.tsq.tg :=
    (congrArg (fun t : State => t.tsq.tg) (s.lpOn_sameBut path p w).1 :)
  have hfld : ∀ off f, off ≠ R.lpCfg p → off ≠ R.lpLineCnt p →
      (((s.lpOn path p w).setReg (R.lpLineCnt p) 0).commit [R.lpPitch p]).fld off f = s.fld off f := fun off f hcfg hcnt =>
    congrArg f.get (hreg off hcfg hcnt)
  have hnone : (((s.lpOn path p w).setReg (R.lpLineCnt p) 0).commit [R.lpPitch p]).shutters p = [] := by
    have hmap := List.map_eq_nil_iff.mp hsh
    refine List.map_eq_nil_iff.mpr (List.filter_eq_nil_iff.mpr fun k hk => ?_)
    have hoff := List.filter_eq_nil_iff.mp hmap k hk
    have hk : k < 6 := List.mem_range.mp hk
    rw [State.bit, hfld _ _ (by simp only [R.lpPhCfg, R.lpCfg]; omega) (by simp only [R.lpPhCfg, R.lpLineCnt]; omega)]
    exact hoff
  rw [State.lpReady, State.tg_driveIdle _ _ hnone hn, htg,
    hfld _ _ (by simp only [R.lpOuts, R.lpCfg]; omega) (by simp only [R.lpOuts, R.lpLineCnt]; omega),
    hfld _ _ (by simp only [R.lpIdle, R.lpCfg]; omega) (by simp only [R.lpIdle, R.lpLineCnt]; omega)]

end

/-! ## The commands -/

theorem Fld.put_lpEn (w : Word) : (F.lpCfg.EN.put w 1).getLsbD 0 = true ∧ (F.lpCfg.EN.put w 0).getLsbD 0 = false := by
  constructor <;> rw [Fld.put_bit _ _ _ _ (by decide) (by decide), if_pos (by decide)] <;> decide

section
variable {s : State} {path : Path} {p : Nat} {w : Word}

theorem State.lpIdle_spec (h : s.lpIdle p = true) : s.bit (R.lpCfg p) F.lpCfg.EN = false := by
  simp only [State.lpIdle, Bool.and_eq_true, Bool.not_eq_true'] at h
  exact h.1

theorem State.lpCfgWrite_accepted (hidle : s.lpIdle p = true) (hc : (s.lpOn path p w).lpCause p = 0) :
    s.lpCfgWrite path p (F.lpCfg.EN.put w 1) = (s.lpReady path p w).nextAdjust p := by
  rw [State.lpCfgWrite, State.lpIdle_spec hidle, (Fld.put_lpEn w).1, hidle]
  exact (if_pos rfl).trans (if_neg (not_not.mpr hc))

theorem State.lpCfgWrite_refused (hidle : s.lpIdle p = true) (hc : (s.lpOn path p w).lpCause p ≠ 0) :
    s.lpCfgWrite path p (F.lpCfg.EN.put w 1) = ((s.lpOn path p w).setFld (R.lpCfg p) F.lpCfg.EN 0).lpRefuse p ((s.lpOn path p w).lpCause p) := by
  rw [State.lpCfgWrite, State.lpIdle_spec hidle, (Fld.put_lpEn w).1, hidle]
  exact (if_pos rfl).trans (if_pos hc)

/-- A program stopped with no line in progress. -/
def State.lpOff (s : State) (path : Path) (p : Nat) : State :=
  let s1 := s.writeRow path (R.lpCfg p) Row.lpCfg.nowOnly (F.lpCfg.EN.put (s.reg (R.lpCfg p)) 0) false
  let s2 := (s1.dropPending p).setFlushing p 0
  (s2.setLp p { s2.lp p with flushDue := false }).driveIdle p

/-- The registers of a disable. -/
def lpOffRegs (p : Nat) : List Nat := [R.lpCfg p, R.lpStat p, R.tsqStat]

/-- LPp_CFG with EN cleared. -/
def State.lpEnCleared (s : State) (path : Path) (p : Nat) : State :=
  s.writeRow path (R.lpCfg p) Row.lpCfg.nowOnly (F.lpCfg.EN.put (s.reg (R.lpCfg p)) 0) false

theorem State.lpOff_tsqOnly : (s.lpEnCleared path p).TsqOnly (s.lpOff path p) (lpOffRegs p) :=
  ((((State.dropPending_tsqOnly _ p _).setFld _ _ (by simp [lpOffRegs])).setFld _ _ (by simp [lpOffRegs])).setLp p _).driveIdle p

theorem State.lp_lpEnCleared (q : Nat) : (s.lpEnCleared path p).lp q = s.lp q :=
  (congrArg (fun t : State => t.lp q) (s.writeRow_sameBut _ _ _ _).1 :)

/-- The program once it is disabled with no line in progress. -/
def Lp.disabled (l : Lp) : Lp := { l with
  pending := none, pendPhases := [], pendRead := false, pendStale := false, prevBursts := [], flushDue := false
  phases := l.phases.map (fun e => (e.1, { e.2 with win := .closed })) }

theorem State.lp_lpOff : (s.lpOff path p).lp p = (s.lp p).disabled := by
  rw [State.lpOff, ← State.lpEnCleared, State.lp_driveIdle, State.lp_setLp_same, State.lp_setFlushing, State.lp_dropPending,
    State.lp_lpEnCleared]
  rfl

theorem State.lp_lpOff_ne {q : Nat} (h : q ≠ p) : (s.lpOff path p).lp q = s.lp q := by
  rw [State.lpOff, ← State.lpEnCleared, State.lp_driveIdle_ne _ _ h, State.lp_setLp_ne _ _ _ h, State.lp_setFlushing,
    State.lp_dropPending_ne _ _ h, State.lp_lpEnCleared]

theorem State.reg_lpOff (off : Nat) : (s.lpOff path p).reg off = (((s.lpEnCleared path p).dropPending p).setFlushing p 0).reg off := by
  rw [State.lpOff, ← State.lpEnCleared, State.reg_driveIdle, State.reg_setLp]

theorem State.fld_lpOff_flushing : (s.lpOff path p).fld (R.lpStat p) F.lpStat.FLUSHING = 0 :=
  (congrArg _ (State.reg_lpOff _)).trans (State.fld_setFlushing _ _ _ (by decide))

theorem State.fld_lpOff_en : (s.lpOff path p).fld (R.lpCfg p) F.lpCfg.EN = 0 := by
  have hne : R.lpCfg p ≠ R.lpStat p ∧ R.lpCfg p ≠ R.tsqStat := by simp only [R.lpCfg, R.lpStat, R.tsqStat]; omega
  rw [State.fld, State.reg_lpOff, State.setFlushing, State.reg_setFld_ne _ _ _ _ _ hne.2, State.reg_setFld_ne _ _ _ _ _ hne.1,
    State.reg_dropPending, ← State.fld, State.lpEnCleared, State.fld_writeRow_of_takes _ _ _ _ (by decide) (by decide),
    Fld.get_put _ _ _ (by decide)]
  rfl

theorem State.lpOff_regsBut : s.regsBut (s.lpOff path p) (lpOffRegs p) :=
  ((s.writeRow_sameBut _ _ _ _).regsBut.mono (by simp [lpOffRegs])).trans State.lpOff_tsqOnly.reg

theorem State.lpOff_state : s.lpOff path p = { s with
    regs := (s.lpOff path p).regs, eff := (s.lpOff path p).eff, tsq := (s.lpOff path p).tsq } := by
  have hw := (s.writeRow_sameBut path (R.lpCfg p) Row.lpCfg.nowOnly (F.lpCfg.EN.put (s.reg (R.lpCfg p)) 0)).1
  have hstate := (State.lpOff_tsqOnly (s := s) (path := path) (p := p)).state
  generalize s.lpOff path p = t at hstate ⊢
  rw [State.lpEnCleared, hw] at hstate
  rw [hstate]

theorem State.lpCfgWrite_disabled (hp : p < 8) (hen : s.fld (R.lpCfg p) F.lpCfg.EN = 1) (hrun : (s.lp p).run = .idle) (hg : s.Groupless) :
    s.lpCfgWrite path p (F.lpCfg.EN.put (s.reg (R.lpCfg p)) 0) = s.lpOff path p := by
  have hon := State.bit_eq_true hen
  have hbusy : s.lpIdle p = false := by rw [State.lpIdle, hon]; rfl
  have hwrite : s.writeRow path (R.lpCfg p) Row.lpCfg (F.lpCfg.EN.put (s.reg (R.lpCfg p)) 0) (!false) = s.lpEnCleared path p :=
    s.writeRow_busy _ _ _ _ (Fld.xor_put_and _ _ _ _ (by decide) (by decide))
  have hlp : (s.lpEnCleared path p).lp p = s.lp p := (congrArg (fun t : State => t.lp p) (s.writeRow_sameBut _ _ _ _).1 :)
  have hready : (s.lpOff path p).deliverReady p = s.lpOff path p := by
    refine State.Groupless.deliverReady (hg.of_reg fun g hg => State.lpOff_regsBut _ ?_) p
    simp only [lpOffRegs, List.mem_cons, List.not_mem_nil, or_false, R.grpCtl, R.lpCfg, R.lpStat, R.tsqStat]
    omega
  obtain ⟨u, hu⟩ : ∃ u, u = ((s.lpEnCleared path p).dropPending p).setFlushing p 0 := ⟨_, rfl⟩
  have hurun : (u.lp p).run = .idle := by
    rw [hu, State.lp_setFlushing, State.lp_dropPending, hlp]
    exact hrun
  have hflush : ¬(((s.lpEnCleared path p).lp p).run == .flush) = true := by rw [hlp, hrun]; decide
  have hidle : (((u.setLp p { u.lp p with flushDue := false }).lp p).run == .idle) = true := by
    rw [State.lp_setLp_same]
    exact beq_iff_eq.mpr hurun
  rw [State.lpCfgWrite, hon, (Fld.put_lpEn _).2, hbusy]
  dsimp only
  rw [hwrite, if_neg (by decide), if_pos (show (!false && true) = true from rfl), if_neg hflush, ← hu, if_pos hidle]
  rw [State.lpOff, ← State.lpEnCleared, ← hu] at hready ⊢
  exact hready

end

theorem endIgnores_lpOffRegs (p : Fin 8) : endIgnores (lpOffRegs p) := endIgnores_of_tsq (by
  simp only [lpOffRegs, List.mem_cons, List.not_mem_nil, or_false, forall_eq_or_imp, forall_eq, R.lpCfg, R.lpStat, R.tsqStat]; omega)

/-- The registers of an accepted enable. -/
def lpOnRegs (p : Nat) : List Nat := [R.lpCfg p, R.lpLineCnt p, R.lpNextLo p, R.lpNextHi p, R.lpStat p]

section
variable {s : State} {path : Path} {p : Fin 8} {w : Word}

/-- An accepted program, its NEXT judged. -/
def State.lpEnabled (s : State) (path : Path) (p : Nat) (w : Word) : State := (s.lpReady path p w).nextAdjust p

theorem State.lpEnabled_regsBut : s.regsBut (s.lpEnabled path p w) (lpOnRegs p) :=
  ((s.lpReady_regsBut path p w).mono (by simp [lpOnRegs])).trans (State.nextAdjust_regsOnly.2.mono (by simp [lpOnRegs]))

theorem State.lpEnabled_tsq : (s.lpEnabled path p w).tsq = (s.lpReady path p w).tsq := (congrArg State.tsq State.nextAdjust_regsOnly.1 :)

theorem State.lpEnabled_state : s.lpEnabled path p w = { s with
    regs := (s.lpEnabled path p w).regs, eff := (s.lpEnabled path p w).eff, tsq := (s.lpEnabled path p w).tsq } := by
  have hready := s.lpReady_state path p w
  have hadj := (State.nextAdjust_regsOnly (s := s.lpReady path p w) (p := p)).1
  rw [State.lpEnabled]
  generalize (s.lpReady path p w).nextAdjust p = t at hadj ⊢
  rw [hready] at hadj
  rw [hadj]

theorem State.reg_lpEnabled_cfg : (s.lpEnabled path p w).reg (R.lpCfg p) = (s.lpOn path p w).reg (R.lpCfg p) := by
  rw [State.lpEnabled, State.nextAdjust_regsOnly.2 _ (by
      simp only [List.mem_cons, List.not_mem_nil, or_false, R.lpCfg, R.lpNextLo, R.lpNextHi, R.lpStat]; omega),
    s.reg_lpReady path p w (State.lpCfg_ne_lpLineCnt p)]

theorem State.reg_lpEnabled_cnt : (s.lpEnabled path p w).reg (R.lpLineCnt p) = 0 := by
  rw [State.lpEnabled, State.nextAdjust_regsOnly.2 _ (by
      simp only [List.mem_cons, List.not_mem_nil, or_false, R.lpLineCnt, R.lpNextLo, R.lpNextHi, R.lpStat]; omega), s.reg_lpReady_cnt]

theorem State.fld_lpReady_src : (s.lpReady path p w).fld (R.lpCfg p) F.lpCfg.SRC = F.lpCfg.SRC.get w := by
  rw [State.fld, s.reg_lpReady path p w (State.lpCfg_ne_lpLineCnt p)]
  exact (s.fld_lpOn path p w).2

theorem State.next_lpReady : (s.lpReady path p w).next p = s.next p := by
  have hregs := s.lpReady_regsBut path p w
  exact State.next_congr
    (hregs _ (by simp only [List.mem_cons, List.not_mem_nil, or_false, R.lpNextLo, R.lpCfg, R.lpLineCnt]; omega))
    (hregs _ (by simp only [List.mem_cons, List.not_mem_nil, or_false, R.lpNextHi, R.lpCfg, R.lpLineCnt]; omega))

/-- A position not yet judged: any but a position source leaves NEXT alone. -/
theorem State.lpEnabled_of_unlocked (h : 5 < F.lpCfg.SRC.get w) : s.lpEnabled path p w = s.lpReady path p w :=
  State.nextAdjust_of_unlocked (by rw [State.fld_lpReady_src]; exact h)

/-- NEXT of a program that a position source triggers, and that has been reached. -/
theorem State.lpEnabled_of_reached (hc : (s.lpOn path p w).lpCause p = 0) (hsrc : F.lpCfg.SRC.get w ≤ 5)
    (hle : s.next p ≤ s.position (F.lpCfg.SRC.get w)) : 0x10000 ≤ (s.reg (R.lpPitch p)).toNat ∧
    s.lpEnabled path p w = (s.lpReady path p w).nextAdjusted p
      (nextBeyond (s.next p) (s.position (F.lpCfg.SRC.get w)) ((s.reg (R.lpPitch p)).toNat : Nat)) := by
  have hregs := s.lpReady_regsBut path p w
  have hpitch : (s.lpReady path p w).reg (R.lpPitch p) = s.reg (R.lpPitch p) :=
    hregs _ (by simp only [List.mem_cons, List.not_mem_nil, or_false, R.lpPitch, R.lpCfg, R.lpLineCnt]; omega)
  have hpos : ∀ src, (s.lpReady path p w).position src = s.position src := fun src => State.position_congr fun off ho =>
    hregs off (by simp only [List.mem_cons, List.not_mem_nil, or_false, R.lpCfg, R.lpLineCnt]; omega)
  have hpitchOn : (s.lpOn path p w).reg (R.lpPitch p) = s.reg (R.lpPitch p) :=
    ((s.lpOn_sameBut path p w).2 _ (by simp only [List.mem_singleton, R.lpPitch, R.lpCfg]; omega)).1
  have hmin := State.pitch_of_accepted hc (decide_eq_true (by rw [(s.fld_lpOn path p w).2]; exact hsrc))
  rw [hpitchOn] at hmin
  refine ⟨hmin, ?_⟩
  rw [State.lpEnabled, State.nextAdjust_of_reached (by rw [State.fld_lpReady_src]; exact hsrc) (by rw [hpitch]; exact hmin)
    (by rw [State.fld_lpReady_src, hpos, State.next_lpReady]; exact hle), State.fld_lpReady_src, hpos, State.next_lpReady, hpitch]

end

/-- Settles O14: the accepted, the refused and the cleared enable. -/
theorem linePrograms : Obligations.LinePrograms := by
  unfold Obligations.LinePrograms
  intro s p hu
  refine ⟨fun path w hacc hidle => ?_, fun path hacc hen hrun hgroupless => ?_⟩
  · have hcause := s.lpCause_lpOn path p w
    obtain ⟨hen, hsrc⟩ := s.fld_lpOn path p w
    dsimp only
    rw [← hcause]
    refine ⟨fun hc hsh => ?_, fun hc => ?_⟩
    · have hexec : exec (.lpEnable path p w) s = State.done (s.lpEnabled path p w) :=
        congrArg State.done ((State.onWrite_of _ _ _ _ hacc).trans (State.lpCfgWrite_accepted hidle hc))
      have hregs := State.lpEnabled_regsBut (s := s) (path := path) (p := p) (w := w)
      have hstate := State.lpEnabled_state (s := s) (path := path) (p := p) (w := w)
      have hlist : endIgnores (lpOnRegs p) := endIgnores_of_tsq (by
        simp only [lpOnRegs, List.mem_cons, List.not_mem_nil, or_false, forall_eq_or_imp, forall_eq, R.lpCfg, R.lpStat, R.lpLineCnt,
          R.lpNextLo, R.lpNextHi]
        omega)
      refine ⟨_, hexec.trans (State.done_of_endsAlike hu (State.endsAlike_of (by rw [hstate])) hregs hlist), hstate,
        (congrArg _ State.reg_lpEnabled_cfg).trans hen, (congrArg _ State.reg_lpEnabled_cfg).trans hsrc, State.reg_lpEnabled_cnt,
        fun n hn => ?_, fun q hq => ?_, hregs, fun hfree => ?_, fun hpos hlo hle hhi => ?_⟩
      · rw [State.lpEnabled_tsq]
        exact s.tg_lpReady path p w hsh hn
      · rw [State.lp, State.lpEnabled_tsq]
        exact s.lp_lpReady path p w hq
      · rw [State.lpEnabled_of_unlocked hfree]
        exact ⟨State.next_lpReady, s.lpReady_regsBut path p w _ (by
          simp only [List.mem_cons, List.not_mem_nil, or_false, R.lpStat, R.lpCfg, R.lpLineCnt]; omega)⟩
      · obtain ⟨hpitch, heq⟩ := State.lpEnabled_of_reached hc hpos hle
        obtain ⟨hbeyond, hnear, hwhole⟩ := nextBeyond_spec hle (pitch := ((s.reg (R.lpPitch p)).toNat : Nat)) (by omega)
        have hmax := (s.reg (R.lpPitch p)).isLt
        rw [heq, State.next_nextAdjusted (by omega) (by omega)]
        exact ⟨State.fld_nextAdjusted, hbeyond, hnear, hwhole⟩
    · obtain ⟨c, hcc⟩ : ∃ c, (s.lpOn path p w).lpCause p = c := ⟨_, rfl⟩
      have hle : c ≤ 3 := hcc ▸ State.lpCause_le
      have hexec : exec (.lpEnable path p w) s = State.done (((s.lpOn path p w).setFld (R.lpCfg p) F.lpCfg.EN 0).lpRefuse p c) := by
        rw [← hcc]
        exact congrArg State.done ((State.onWrite_of _ _ _ _ hacc).trans (State.lpCfgWrite_refused hidle hc))
      have hf : s.sameBut (((s.lpOn path p w).setFld (R.lpCfg p) F.lpCfg.EN 0).lpRefuse p c) [R.lpCfg p, R.lpStat p] :=
        ((((s.lpOn_sameBut path p w).mono (by simp)).setFld _ _ (by simp)).setFld _ _ (by simp)).setFld _ _ (by simp)
      have hlist : endIgnores [R.lpCfg p, R.lpStat p] := endIgnores_of_tsq (by
        simp only [List.mem_cons, List.not_mem_nil, or_false, forall_eq_or_imp, forall_eq, R.lpCfg, R.lpStat]; omega)
      have hne : R.lpCfg p ≠ R.lpStat p := by simp only [R.lpCfg, R.lpStat]; omega
      rw [hcc]
      refine ⟨_, hexec.trans (State.done_of_regs hu hf hlist), hf, ?_, ?_, ?_⟩
      · rw [State.lpRefuse, State.fld_setFld_ne _ _ _ _ _ _ hne, State.fld_setFld_ne _ _ _ _ _ _ hne, State.fld_setFld _ _ _ _ (by decide)]
        rfl
      · rw [State.lpRefuse, State.fld_setFld_apart _ _ _ _ _ (by decide) (by decide) (by decide), State.fld_setFld _ _ _ _ (by decide)]
        rfl
      · rw [State.lpRefuse, State.fld_setFld _ _ _ _ (by decide)]
        exact Nat.mod_eq_of_lt (Nat.lt_of_le_of_lt hle (by decide))
  · have hg : s.Groupless := hgroupless
    have hexec : exec (.lpDisable path p (s.reg (R.lpCfg p))) s = State.done (s.lpOff path p) :=
      congrArg State.done ((State.onWrite_of _ _ _ _ hacc).trans (State.lpCfgWrite_disabled p.isLt hen hrun hg))
    have hstate := State.lpOff_state (s := s) (path := path) (p := p)
    have hregs := State.lpOff_regsBut (s := s) (path := path) (p := p)
    have hlp := State.lp_lpOff (s := s) (path := path) (p := p)
    refine ⟨_, hexec.trans (State.done_of_endsAlike hu (State.endsAlike_of (by rw [hstate])) hregs (endIgnores_lpOffRegs p)), hstate,
      State.fld_lpOff_en, State.fld_lpOff_flushing, ?_, ?_, fun q hq => State.lp_lpOff_ne hq, hregs⟩
    · rw [hlp]
      rfl
    · rw [hlp]
      exact hrun

end Sys2Proof.Machine

/-!
Frames by block: what a command of one block may change besides registers, how such frames compose, and that the command ends with its
effect.
-/
namespace Sys2Proof.Machine

/-- The part of the state that operations of a block may change: `keep s t` is `s` with that part, and the registers, of `t`. -/
structure Frame where
  keep : State → State → State
  self : ∀ s : State, keep s s = s
  absorb : ∀ s t u : State, keep (keep s t) u = keep s u
  setReg : ∀ (s : State) (o : Nat) (w : Word), keep s (s.setReg o w) = s.setReg o w
  fire : ∀ (s t : State) (ev : Nat), keep (s.fire ev) ((keep s t).fire ev) = (keep s t).fire ev
  alike : ∀ s t : State, s.EndsAlike (keep s t)

/-- `t` differs from `s` in the part of the frame and in the registers at `l`. -/
structure State.Only (F : Frame) (s t : State) (l : List Nat) : Prop where
  state : t = F.keep s t
  reg : s.regsBut t l

namespace State.Only
variable {F : Frame} {s t u : State} {l m : List Nat}

theorem refl (s : State) (l : List Nat) : s.Only F s l := ⟨(F.self s).symm, .refl s l⟩

theorem trans (h : s.Only F t l) (h' : t.Only F u l) : s.Only F u l := by
  refine ⟨h'.state.trans ?_, h.reg.trans h'.reg⟩
  calc F.keep t u = F.keep (F.keep s t) u := by rw [← h.state]
    _ = F.keep s u := F.absorb s t u

theorem mono (h : s.Only F t l) (hl : l ⊆ m) : s.Only F t m := ⟨h.state, h.reg.mono hl⟩

/-- A change of the frame's part alone. -/
theorem upd (h : s.Only F t l) (hkeep : u = F.keep t u) (hregs : u.regs = t.regs) : s.Only F u l :=
  h.trans ⟨hkeep, State.regsBut_of_regs l hregs⟩

theorem setReg (h : s.Only F t l) {o : Nat} (w : Word) (ho : o ∈ l) : s.Only F (t.setReg o w) l :=
  h.trans ⟨(F.setReg t o w).symm, (State.regsBut.refl t l).setReg w ho⟩

theorem setFld (h : s.Only F t l) {o : Nat} (f : Fld) (x : Nat) (ho : o ∈ l) : s.Only F (t.setFld o f x) l := h.setReg _ ho

theorem count (h : s.Only F t l) {o : Nat} (ho : o ∈ l) : s.Only F (t.count o) l := h.setReg _ ho

theorem countFld (h : s.Only F t l) {o : Nat} (f : Fld) (ho : o ∈ l) : s.Only F (t.countFld o f) l := by
  unfold State.countFld
  split
  · exact h
  · exact h.setFld _ _ ho

theorem fire (h : s.Only F t l) (ev : Nat) : (s.fire ev).Only F (t.fire ev) l := by
  refine ⟨?_, h.reg⟩
  have hf := F.fire s t ev
  rw [← h.state] at hf
  exact hf.symm

/-- A fold of operations that each keep the frame keeps it. -/
theorem foldl {α : Type} (xs : List α) (f : State → α → State) (h : s.Only F t l) (hf : ∀ v : State, ∀ x ∈ xs, v.Only F (f v x) l) :
    s.Only F (xs.foldl f t) l :=
  List.foldlRecOn (motive := fun v => s.Only F v l) xs f h (fun v hv x hx => hv.trans (hf v x hx))

theorem fld (h : s.Only F t l) {off : Nat} (ho : off ∉ l) (f : Fld) : t.fld off f = s.fld off f := h.reg.fld ho f

theorem endsAlike (h : s.Only F t l) : s.EndsAlike t := h.state ▸ F.alike s t

/-- A command that stays within a frame ends with its effect. -/
theorem done (h : s.Only F t l) (hu : s.usual) (hl : endIgnores l) : State.done t = .next t :=
  State.done_of_endsAlike hu h.endsAlike h.reg hl

end State.Only

/-- The frame of the video front end. -/
def Frame.vaf : Frame :=
  ⟨fun s t => { s with regs := t.regs, vaf := t.vaf }, fun _ => rfl, fun _ _ _ => rfl, fun _ _ _ => rfl, fun _ _ _ => rfl,
    fun _ _ => State.endsAlike_of rfl⟩

/-- The frame of the video front end and of what is held back. -/
def Frame.vafEff : Frame :=
  ⟨fun s t => { s with regs := t.regs, eff := t.eff, vaf := t.vaf }, fun _ => rfl, fun _ _ _ => rfl, fun _ _ _ => rfl, fun _ _ _ => rfl,
    fun _ _ => State.endsAlike_of rfl⟩

/-- The frame of the video front end and of the timing sequencer. -/
def Frame.vafTsq : Frame :=
  ⟨fun s t => { s with regs := t.regs, tsq := t.tsq, vaf := t.vaf }, fun _ => rfl, fun _ _ _ => rfl, fun _ _ _ => rfl, fun _ _ _ => rfl,
    fun _ _ => State.endsAlike_of rfl⟩

section
variable (s : State) (k : Nat) (l : List Nat)

theorem State.setMonitor_only (x : Monitor) : s.Only Frame.vaf (s.setMonitor k x) l := ⟨rfl, fun _ _ => rfl⟩

theorem State.setBank_only (x : Bank) : s.Only Frame.vaf (s.setBank k x) l := ⟨rfl, fun _ _ => rfl⟩

theorem State.setBank_onlyEff (x : Bank) : s.Only Frame.vafEff (s.setBank k x) l := ⟨rfl, fun _ _ => rfl⟩

end

end Sys2Proof.Machine

/-!
The video front end: strobes, the crosspoint, and video faults (R119, R124-R131, R150-R152).
-/
namespace Sys2Proof.Machine

/-! ## The strobe's program and its place in the burst -/

section
variable {s : State} {n p : Nat} {b : Burst}

/-- The program whose burst an input's strobe belongs to. -/
theorem State.strobe_program (hp : p < 8) (hvin : ∀ q, q < 8 → ((s.fld (R.lpVin q) F.lpVin.VIN).testBit n = true ↔ q = p))
    (hrun : (s.lp p).run ≠ .idle) (hb : (s.lp p).burst = some b) :
    (List.range 8).find? (fun q => (s.fld (R.lpVin q) F.lpVin.VIN).testBit n && (s.lp q).run != .idle && (s.lp q).burst.isSome) = some p := by
  refine List.find?_range_eq_some.mpr ⟨?_, List.mem_range.mpr hp, fun j hj => ?_⟩
  · rw [(hvin p hp).mpr rfl, hb]
    simpa using hrun
  · have hoff : (s.fld (R.lpVin j) F.lpVin.VIN).testBit n = false := by
      have hne := mt (hvin j (by omega)).mp (by omega)
      simpa using hne
    rw [hoff]
    rfl

/-- Samples that input n has delivered in the burst that program p runs. -/
def State.strobeNo (s : State) (p n : Nat) : Nat := Table.get (fun _ => 0) (s.lp p).taken n

/-- One more strobe of input n is counted. -/
def State.strobeCounted (s : State) (p n : Nat) : State :=
  s.setLp p { s.lp p with taken := Table.set (fun _ => 0) (s.lp p).taken n (s.strobeNo p n + 1) }

/-- The slice of bank k that takes the next strobe is busy with it from `tSig` on (R125). -/
def Bank.strobed (bk : Bank) (here : Nat × Nat) (sl tSig : Nat) : Bank :=
  { bk with next := (bk.next + 1) % (max 1 bk.order.length), busy := Table.set (fun _ => 0) bk.busy sl (tSig + sliceTime)
            touched := if bk.touched.contains here then bk.touched else (here :: bk.touched).take 8 }

/-- A strobe of input n that the burst takes. -/
structure State.Strobe (s : State) (p n : Nat) (b : Burst) : Prop where
  program : p < 8
  only : ∀ q, q < 8 → ((s.fld (R.lpVin q) F.lpVin.VIN).testBit n = true ↔ q = p)
  run : (s.lp p).run ≠ .idle
  burst : (s.lp p).burst = some b
  smp : b.smp = true
  sends : b.sends = true
  unread : (s.lp p).pendRead = false
  placed : s.effFld (R.tsqSmp n) F.tsqSmp.SIG_STEP < s.period b.pattern
  input : (s.fld (R.tsqPxCfg b.pattern) F.tsqPxCfg.VIN).testBit n = true
  left : s.strobeNo p n < s.fld (R.tsqPxCount b.pattern) F.tsqPxCount.COUNT
  quad : s.quadOn n = true

/-- The burst's number of an input and tag in its line. -/
def State.burstNo (s : State) (p n : Nat) (b : Burst) : Nat := Table.get (fun _ => 0) (s.lp p).bursts (8 * n + b.tag) - 1

/-- The strobe is one that the burst sends. -/
theorem State.Strobe.sent (h : s.Strobe p n b) :
    ¬(!(b.smp && b.sends && (decide (s.effFld (R.tsqSmp n) F.tsqSmp.SIG_STEP < s.period b.pattern) &&
      (s.fld (R.tsqPxCfg b.pattern) F.tsqPxCfg.VIN).testBit n &&
        decide (s.strobeNo p n < s.fld (R.tsqPxCount b.pattern) F.tsqPxCount.COUNT)))) = true := by
  rw [h.smp, h.sends, decide_eq_true h.placed, h.input, decide_eq_true h.left]
  decide

theorem State.Strobe.burstNo (h : s.Strobe p n b) :
    Table.get (fun _ => 0) (if ((s.lp p).pending == some b.line && (s.lp p).pendRead) = true then (s.lp p).prevBursts
      else (s.lp p).bursts) (8 * n + b.tag) - 1 = s.burstNo p n b := by
  rw [h.unread, Bool.and_false]
  rfl

/-- A strobe on a bank that converts nothing is missed (R126). -/
theorem State.videoStrobe_missed (h : s.Strobe p n b) (hst : s.bankState (s.bankOf n) = 0) (vSig vRst vRef : Int) (tRst tSig : Nat) :
    s.videoStrobe n vSig vRst vRef tRst tSig none =
      (s.strobeCounted p n).missSample n p b.tag b.line (s.burstNo p n b) (s.strobeNo p n) (s.bankOf n) := by
  rw [State.videoStrobe, State.strobe_program h.program h.only h.run h.burst]
  dsimp only
  split
  · next hb => exact absurd (h.burst.symm.trans hb) (by simp)
  next b' hb =>
  obtain rfl : b' = b := Option.some.inj (hb.symm.trans h.burst)
  refine (if_neg h.sent).trans ?_
  refine (if_neg (show ¬(!(s.quadOn n)) = true by rw [h.quad]; decide)).trans ?_
  refine (if_pos (.inl hst)).trans ?_
  rw [← h.burstNo]
  rfl

/-- The raw code of an input that converts its signal level against the reference, without clamp, inversion and test DAC (R119). -/
def State.plainCode (s : State) (n : Nat) (vSig vRef : Int) : Nat :=
  rawCode (vSig - vRef) (min 120 (s.effFld (R.vafVinLvl n) F.vafVinLvl.GAIN) : Nat) (signed 9 (s.effFld (R.vafVinLvl n) F.vafVinLvl.OFFSET))
    (signed 8 (s.fld (R.vafVinTrim n) F.vafVinTrim.OTRIM)) (signed 8 (s.fld (R.vafVinTrim n) F.vafVinTrim.GTRIM))

theorem State.inputCode_plain (hmode : s.fld (R.vafVinCfg n) F.vafVinCfg.MODE = 0) (hinv : s.fld (R.vafVinCfg n) F.vafVinCfg.INV = 0)
    (hclamp : s.fld (R.vafVinCfg n) F.vafVinCfg.CLAMP_MODE = 0) (hdac : n ∉ s.vaf.dacOn) (j : Nat) (vSig vRst vRef : Int) :
    s.inputCode n p j vSig vRst vRef = s.plainCode n vSig vRef := by
  have hoff : s.vaf.dacOn.contains n = false := by simpa using hdac
  have hopen : ∀ step, s.clampOn n p j step = false := fun step => by rw [State.clampOn, hclamp]; rfl
  rw [State.inputCode, hoff, hopen, hopen, State.bit_eq_false hmode, State.bit_eq_false hinv]
  rfl

/-- The slice of an input's bank that takes the next strobe. -/
def State.nextSlice (s : State) (n : Nat) : Nat := ((s.bank (s.bankOf n)).order[(s.bank (s.bankOf n)).next]?).getD 0

/-- The state in which the next slice of the input's bank converts. -/
def State.strobeReady (s : State) (p n : Nat) (b : Burst) (tSig : Nat) : State :=
  (s.strobeCounted p n).setBank (s.bankOf n) ((s.bank (s.bankOf n)).strobed (p, b.line) (s.nextSlice n) tSig)

/-- The output code of the next slice for a raw code (R131). -/
def State.slicedCode (s : State) (n raw : Nat) : Nat :=
  sliceCode raw (s.sliceCorr (s.bankOf n) (s.nextSlice n)).1 (s.sliceCorr (s.bankOf n) (s.nextSlice n)).2

/-- A sample handed on to the shading stage. -/
def State.pushSample (v : State) (sm : Sample) : State := { v with vaf := { v.vaf with fifo := v.vaf.fifo ++ [sm] } }

/-- Places follow the registers. -/
theorem State.place_of_regs {s t : State} (h : t.regs = s.regs) : t.place = s.place := by
  have hreg : t.reg = s.reg := funext fun off => State.reg_of_regs s t h off
  have hfld : t.fld = s.fld := by
    funext off f
    rw [State.fld, hreg, State.fld]
  have hbit : t.bit = s.bit := by
    funext off f
    rw [State.bit, hfld, State.bit]
  have htag : t.tagPlanes = s.tagPlanes := by
    funext vin k
    rw [State.tagPlanes, State.tagPlanes, hreg]
  funext n k m i
  rw [State.place, State.place, hfld, hbit, htag]

theorem State.monitorSample_vaf (s : State) (n line raw : Nat) :
    ∃ m, s.monitorSample n line raw = { s with vaf := { s.vaf with monitors := m } } := by
  rw [State.monitorSample]
  split
  · exact ⟨_, rfl⟩
  · exact ⟨_, rfl⟩

/-- A strobe on a free slice of a calibrated bank, whose line the monitor has not ended (R125-R131). -/
theorem State.videoStrobe_converted (h : s.Strobe p n b) {plane x entry tSig : Nat}
    (hmode : s.fld (R.vafVinCfg n) F.vafVinCfg.MODE = 0) (hst : s.bankState (s.bankOf n) = 4)
    (hfree : Table.get (fun _ => 0) (s.bank (s.bankOf n)).busy (s.nextSlice n) ≤ tSig) (hswap : (s.bank (s.bankOf n)).swapped = [])
    (hmon : (s.monitor n).open_ = false) (hplace : s.place n b.tag (s.burstNo p n b) (s.strobeNo p n) = .at plane x entry)
    (vSig vRst vRef : Int) (tRst : Nat) :
    s.videoStrobe n vSig vRst vRef tRst tSig none =
      ((s.strobeReady p n b tSig).monitorSample n b.line ((s.strobeReady p n b tSig).inputCode n p b.pattern vSig vRst vRef)).pushSample
        { lp := p, line := b.line, plane := plane, x := x, entry := entry
          raw := s.slicedCode n ((s.strobeReady p n b tSig).inputCode n p b.pattern vSig vRst vRef) } := by
  have hready : ¬(if s.bit (R.vafVinCfg n) F.vafVinCfg.MODE = true then tRst else tSig) <
      Table.get (fun _ => 0) (s.bank (s.bankOf n)).busy (s.nextSlice n) := by
    rw [State.bit_eq_false hmode, if_neg Bool.false_ne_true]
    exact Nat.not_lt.mpr hfree
  have hsame : ¬((s.monitor n).open_ && (s.monitor n).line != b.line) = true := by rw [hmon]; simp
  have hswapped : ¬((s.bank (s.bankOf n)).swapped.contains (p, b.line)) = true := by rw [hswap]; simp
  delta State.videoStrobe
  rw [State.strobe_program h.program h.only h.run h.burst]
  dsimp -zeta only
  extract_lets l i s1 k bk st sl from_ bk1
  split
  · next hb => exact absurd (h.burst.symm.trans hb) (by simp)
  next b' hb =>
  obtain rfl : b' = b := Option.some.inj (hb.symm.trans h.burst)
  extract_lets placed t m here bk2 s2 raw out s2' s3
  refine (if_neg h.sent).trans ?_
  refine (if_neg (show ¬(!(s.quadOn n)) = true by rw [h.quad]; decide)).trans ?_
  refine (if_neg (show ¬(s.bankState (s.bankOf n) = 0 ∨ s.bankState (s.bankOf n) = 2 ∨ s.bankState (s.bankOf n) = 7) by omega)).trans ?_
  refine (if_neg hready).trans ?_
  have hs2 : s2' = s.strobeReady p n b' tSig := if_neg hsame
  have hs3 : s3 = (s.strobeReady p n b' tSig).monitorSample n b'.line raw := by
    rw [← hs2]
    rfl
  have hp : s3.place n b'.tag m i = .at plane x entry := by
    obtain ⟨mon, hmon⟩ := (s.strobeReady p n b' tSig).monitorSample_vaf n b'.line raw
    have hregs : s3.regs = s.regs := by rw [hs3, hmon]; rfl
    rw [State.place_of_regs hregs, ← hplace]
    exact congrArg (fun m => s.place n b'.tag m i) h.burstNo
  clear_value s3
  rw [hp]
  dsimp -zeta only
  extract_lets s4 s5
  have hs4 : s4 = s3 := if_neg (show ¬s.bankState (s.bankOf n) = 1 by omega)
  have hs5 : s5 = s4 := if_neg hswapped
  clear_value s4 s5
  subst hs3 hs4 hs5
  rfl

end

/-! ## Samples that have no place -/

theorem State.tagPlanes_unmapped {s : State} {n : Nat} (hn : n < 16) (hlo : s.reg (R.vafPmapLo n) = 0) (hhi : s.reg (R.vafPmapHi n) = 0)
    (k : Nat) : s.tagPlanes (2 ^ n) k = 0 := by
  have hword : (if k < 4 then s.reg (R.vafPmapLo n) else s.reg (R.vafPmapHi n)) = 0 := by
    split
    · exact hlo
    · exact hhi
  rw [State.tagPlanes, setBits_two_pow hn, List.foldl_cons, List.foldl_nil, hword]
  simp

theorem State.place_unmapped {s : State} {n : Nat} (hn : n < 16) (hlo : s.reg (R.vafPmapLo n) = 0) (hhi : s.reg (R.vafPmapHi n) = 0)
    (k m i : Nat) : s.place n k m i = .unmapped := by
  have hnone : setBits 0 48 = [] := by decide
  rw [State.place, State.tagPlanes_unmapped hn hlo hhi, hnone]

/-- A missed sample without a place is counted only. -/
theorem State.missSample_unmapped {s : State} {n : Nat} (hn : n < 16) (hlo : s.reg (R.vafPmapLo n) = 0) (hhi : s.reg (R.vafPmapHi n) = 0)
    (p k line m i bank : Nat) (hbank : bank < 4) : s.missSample n p k line m i bank = s.count (R.bankMissCnt bank) := by
  have hreg : ∀ o, o ≠ R.bankMissCnt bank → (s.count (R.bankMissCnt bank)).reg o = s.reg o := fun o ho =>
    (s.reg_count _ _).trans (if_neg ho)
  rw [State.missSample]
  dsimp only
  rw [State.place_unmapped hn
    ((hreg _ (by simp only [R.vafPmapLo, R.bankMissCnt]; omega)).trans hlo)
    ((hreg _ (by simp only [R.vafPmapHi, R.bankMissCnt]; omega)).trans hhi)]

/-! ## The crosspoint (R124) -/

theorem State.bankOf_lt (s : State) (n : Nat) : s.bankOf n < 4 := Nat.mod_lt _ (by decide)

/-- Every bit of the crosspoint is writable. -/
theorem written_vafXbar (old w : Word) : Row.vafXbar.written old w = w := by
  refine BitVec.eq_of_getLsbD_eq fun i hi => ?_
  have htakes : ∀ i < 32, Row.vafXbar.takes.getLsbD i = true ∧ (BitVec.ofNat 32 Row.vafXbar.w1c).getLsbD i = false := by decide
  rw [RegRow.written_bit _ _ _ hi, (htakes i hi).1, (htakes i hi).2, if_pos rfl, Bool.and_false, Bool.not_false, Bool.and_true]

section
variable (s : State) (path : Path) (w : Word)

theorem State.xbarWrite_taken (h : ∀ m, m < 16 → s.inputHeld m = true → w.toNat / 4 ^ m % 4 = s.bankOf m) :
    s.xbarWrite path w = s.writeRow path R.vafXbar Row.vafXbar w false := by
  have hfree : (List.range 16).any (fun n => s.inputHeld n && decide (w.toNat / 4 ^ n % 4 ≠ s.bankOf n)) = false := by
    rw [List.any_eq_false]
    intro m hm
    simpa using h m (List.mem_range.mp hm)
  rw [State.xbarWrite, hfree]

theorem State.xbarWrite_refused (h : ∃ m, m < 16 ∧ s.inputHeld m = true ∧ w.toNat / 4 ^ m % 4 ≠ s.bankOf m) :
    s.xbarWrite path w = (s.writeRow path R.vafXbar Row.vafXbar.nowOnly w false).errIdle path R.vafXbar := by
  obtain ⟨m, hm, hheld, hne⟩ := h
  have hbusy : (List.range 16).any (fun n => s.inputHeld n && decide (w.toNat / 4 ^ n % 4 ≠ s.bankOf n)) = true :=
    List.any_eq_true.mpr ⟨m, List.mem_range.mpr hm, by simpa [hheld] using hne⟩
  have hall : BitVec.ofNat 32 Row.vafXbar.rwIdle = BitVec.allOnes 32 := by decide
  have hchanged : (s.reg R.vafXbar ^^^ w) &&& BitVec.ofNat 32 Row.vafXbar.rwIdle ≠ 0 := by
    rw [hall, BitVec.and_allOnes]
    intro hxor
    refine hne ?_
    rw [State.bankOf, BitVec.xor_eq_zero_iff.mp hxor]
  rw [State.xbarWrite, hbusy, s.writeRow_busy_changed _ _ _ _ hchanged]

end

theorem State.bankOf_congr {s t : State} (h : t.reg R.vafXbar = s.reg R.vafXbar) (m : Nat) : t.bankOf m = s.bankOf m := by
  rw [State.bankOf, h, State.bankOf]

section
variable {s : State} (hu : s.usual) (path : Path) (w : Word) (hacc : s.accessible path R.vafXbar = true)
include hu hacc

theorem exec_xbarWrite_taken (h : ∀ m, m < 16 → s.inputHeld m = true → w.toNat / 4 ^ m % 4 = s.bankOf m) :
    ∃ t, exec (.xbarWrite path w) s = .next t ∧ s.sameBut t [R.vafXbar] ∧ ∀ m, m < 16 → t.bankOf m = w.toNat / 4 ^ m % 4 := by
  have hexec : exec (.xbarWrite path w) s = State.done (s.writeRow path R.vafXbar Row.vafXbar w false) :=
    congrArg State.done ((State.onWrite_of _ _ _ _ hacc).trans (s.xbarWrite_taken path w h))
  have hf := s.writeRow_sameBut path R.vafXbar Row.vafXbar w
  refine ⟨_, hexec.trans (State.done_of_regs hu hf (endIgnores_of (by decide))), hf, fun m _ => ?_⟩
  rw [State.bankOf, State.reg_writeRow, if_pos rfl, written_vafXbar]

theorem exec_xbarWrite_refused (h : ∃ m, m < 16 ∧ s.inputHeld m = true ∧ w.toNat / 4 ^ m % 4 ≠ s.bankOf m) :
    ∃ t, exec (.xbarWrite path w) s = .next t ∧ t = { s with regs := t.regs, eff := t.eff } ∧ (∀ m, m < 16 → t.bankOf m = s.bankOf m) ∧
      t.fld R.sysErrStat F.sysErrStat.IDLE_WR = 1 ∧
      (∀ off, off ∉ [R.vafXbar, R.sysErrStat, R.sysErrAddr] → t.reg off = s.reg off) := by
  obtain ⟨v, hv⟩ : ∃ v, v = s.writeRow path R.vafXbar Row.vafXbar.nowOnly w false := ⟨_, rfl⟩
  have hexec : exec (.xbarWrite path w) s = State.done (v.errIdle path R.vafXbar) := by
    rw [hv]
    exact congrArg State.done ((State.onWrite_of _ _ _ _ hacc).trans (s.xbarWrite_refused path w h))
  have hw : s.sameBut v [R.vafXbar] := by
    rw [hv]
    exact s.writeRow_sameBut _ _ _ _
  have herr : v.sameBut (v.errIdle path R.vafXbar) [R.sysErrAddr, R.sysErrStat] := v.err_sameBut _ _ _
  have hf : s.sameBut (v.errIdle path R.vafXbar) [R.vafXbar, R.sysErrStat, R.sysErrAddr] :=
    (hw.mono (by simp)).trans (herr.mono (by simp))
  have hreg : (v.errIdle path R.vafXbar).reg R.vafXbar = s.reg R.vafXbar := by
    rw [herr.regsBut _ (by decide), hv, State.reg_writeRow, if_pos rfl, RegRow.written_of_takes_none (by decide) (by decide)]
  exact ⟨_, hexec.trans (State.done_of_regs hu hf (endIgnores_of (by decide))), hf.1, fun m _ => State.bankOf_congr hreg m,
    State.fld_err_same _ _ _ _ (by decide) rfl, hf.regsBut⟩

end

/-! ## Video faults (R150-R152) -/

section
variable {s : State} (n : Nat)

/-- The monitored line of an input is the fourth faulty one in a row. -/
def Monitor.fourth (m : Monitor) : Monitor := { m with open_ := false, run := Min.min 4 (m.run + 1), lines := (m.line :: m.lines).take 4 }

/-- The state after the fourth line in a row that is stuck and not at a rail. -/
def State.videoStuck (s : State) (n : Nat) : State :=
  (((((s.setFld (R.vafVinMinmax n) F.vafVinMinmax.MIN (s.monitor n).min).setFld (R.vafVinMinmax n) F.vafVinMinmax.MAX (s.monitor n).max).setMonitor
    n (s.monitor n).fourth).setFld R.vafVfStuck ⟨n, 1⟩ 1).setFld R.vafStat F.vafStat.VF 1)

/-- The registers of a video fault. -/
def videoRegs (n : Nat) : List Nat := [R.vafVfStuck, R.vafStat, R.vafVinMinmax n]

theorem State.videoStuck_only : s.Only Frame.vaf (s.videoStuck n) (videoRegs n) :=
  (((((State.Only.refl s _).setFld _ _ (by simp [videoRegs])).setFld _ _ (by simp [videoRegs])).trans (State.setMonitor_only _ n _ _)).setFld
    _ _ (by simp [videoRegs])).setFld _ _ (by simp [videoRegs])

/-- Listing lines for the planes of groups that are off does nothing. -/
theorem State.Groupless.foldl_listPlanes {s : State} (h : s.Groupless) (ys : List Nat) (cause index mask : Nat) :
    ys.foldl (fun t y => t.listPlanes y cause index mask) s = s :=
  List.foldlRecOn (motive := fun t : State => t = s) _ _ rfl fun t ht y _ => by rw [ht, h.listPlanes]

theorem State.judgeVideo_stuck (hn : n < 16) (hg : s.Groupless) (hopen : (s.monitor n).open_ = true)
    (hen : (s.fld R.vafVfm F.vafVfm.EN).testBit n = true) (hrun : (s.monitor n).run = 3)
    (hspan : (s.monitor n).max - (s.monitor n).min ≤ s.fld R.vafVfm F.vafVfm.SPAN)
    (hrails : 16 * (s.monitor n).rails < 15 * (s.monitor n).count) : s.judgeVideo n = s.videoStuck n := by
  have hgs : (s.videoStuck n).Groupless := hg.of_reg fun g hg => (s.videoStuck_only n).reg _ (by
    simp only [videoRegs, List.mem_cons, List.not_mem_nil, or_false, R.grpCtl, R.vafVfStuck, R.vafStat, R.vafVinMinmax]; omega)
  delta State.judgeVideo
  extract_lets m s1 stuck rail lines s2 s3 s4 s5 mask
  have hstuck : stuck = true := decide_eq_true hspan
  have hrail : rail = false := decide_eq_false (Nat.not_le.mpr hrails)
  have hs3 : s3 = s2.setFld R.vafVfStuck ⟨n, 1⟩ 1 := if_pos hstuck
  have hs4 : s4 = s3 := if_neg (by rw [hrail]; decide)
  have hs5 : s5 = s.videoStuck n := by
    change s4.setFld R.vafStat F.vafStat.VF 1 = _
    rw [hs4, hs3]
    rfl
  refine (if_neg (show ¬(!(s.monitor n).open_) = true by rw [hopen]; decide)).trans ?_
  refine (if_neg (show ¬(!((s.fld R.vafVfm F.vafVfm.EN).testBit n)) = true by rw [hen]; decide)).trans ?_
  refine (if_neg (show ¬(!(stuck || rail)) = true by rw [hstuck]; simp)).trans ?_
  refine (if_neg (show ¬(s.monitor n).run + 1 < 4 by omega)).trans ?_
  rw [hs5]
  exact hgs.foldl_listPlanes _ _ _ _

theorem exec_videoFaultDetect (hu : s.usual) (n : Fin 16) (hopen : (s.monitor n).open_ = true)
    (hen : (s.fld R.vafVfm F.vafVfm.EN).testBit n = true) (hrun : (s.monitor n).run = 3)
    (hspan : (s.monitor n).max - (s.monitor n).min ≤ s.fld R.vafVfm F.vafVfm.SPAN)
    (hmax : (s.monitor n).max < 4096) (hmin : (s.monitor n).min < 4096)
    (hrails : 16 * (s.monitor n).rails < 15 * (s.monitor n).count) (hg : s.Groupless) :
    ∃ t, exec (.videoFaultDetect n) s = .next t ∧ t = { s with regs := t.regs, vaf := { s.vaf with monitors := t.vaf.monitors } } ∧
      (t.reg R.vafVfStuck).getLsbD n = true ∧ t.reg R.vafVfRail = s.reg R.vafVfRail ∧ t.fld R.vafStat F.vafStat.VF = 1 ∧
      t.fld (R.vafVinMinmax n) F.vafVinMinmax.MIN = (s.monitor n).min ∧ t.fld (R.vafVinMinmax n) F.vafVinMinmax.MAX = (s.monitor n).max ∧
      (t.monitor n).run = 4 ∧ (t.monitor n).open_ = false ∧ (∀ m, m ≠ n.val → t.monitor m = s.monitor m) ∧
      (∀ off, off ∉ [R.vafVfStuck, R.vafStat, R.vafVinMinmax n] → t.reg off = s.reg off) := by
  have hf := s.videoStuck_only n
  have hexec : exec (.videoFaultDetect n) s = State.done (s.videoStuck n) :=
    congrArg State.done (State.judgeVideo_stuck n n.isLt hg hopen hen hrun hspan hrails)
  have hlist : endIgnores (videoRegs n) := endIgnores_of (by
    simp only [videoRegs, List.mem_cons, List.not_mem_nil, or_false, forall_eq_or_imp, forall_eq, R.vafVfStuck, R.vafStat, R.vafVinMinmax]
    omega)
  have hmonitor : ∀ m, (s.videoStuck n).monitor m = if m = n then (s.monitor n).fourth else s.monitor m := fun m =>
    State.monitor_setMonitor _ _ _ _
  have hminmax : R.vafVinMinmax n ≠ R.vafVfStuck ∧ R.vafVinMinmax n ≠ R.vafStat := by
    simp only [R.vafVinMinmax, R.vafVfStuck, R.vafStat]; omega
  have hshown : (s.videoStuck n).reg (R.vafVinMinmax n) = ((s.setFld (R.vafVinMinmax n) F.vafVinMinmax.MIN (s.monitor n).min).setFld
      (R.vafVinMinmax n) F.vafVinMinmax.MAX (s.monitor n).max).reg (R.vafVinMinmax n) := by
    rw [State.videoStuck, State.reg_setFld_ne _ _ _ _ _ hminmax.2, State.reg_setFld_ne _ _ _ _ _ hminmax.1]
    rfl
  refine ⟨_, hexec.trans (hf.done hu hlist), rfl, ?_, hf.reg _ ?_, ?_, ?_, ?_, ?_, ?_, fun m hm => (hmonitor m).trans (if_neg hm), hf.reg⟩
  · rw [State.videoStuck, State.reg_setFld_ne _ _ _ _ _ (by decide), State.reg_setFld_same,
      Fld.put_bit ⟨n, 1⟩ _ _ _ (show n.val + 1 ≤ 32 by omega) (by omega), if_pos (show n.val ≤ n.val ∧ n.val < n.val + 1 by omega), Nat.sub_self]
    rfl
  · simp only [videoRegs, List.mem_cons, List.not_mem_nil, or_false, R.vafVfRail, R.vafVfStuck, R.vafStat, R.vafVinMinmax]
    omega
  · rw [State.videoStuck, State.fld_setFld _ _ _ _ (by decide)]
    rfl
  · rw [State.fld, hshown, ← State.fld, State.fld_setFld_apart _ _ _ _ _ (by decide) (by decide) (by decide),
      State.fld_setFld _ _ _ _ (by decide)]
    exact Nat.mod_eq_of_lt hmin
  · rw [State.fld, hshown, ← State.fld, State.fld_setFld _ _ _ _ (by decide)]
    exact Nat.mod_eq_of_lt hmax
  · rw [hmonitor, if_pos rfl, Monitor.fourth, hrun]
    rfl
  · rw [hmonitor, if_pos rfl]
    rfl

end

/-! ## The converted strobe -/

section
variable (s : State) (p n : Nat) (b : Burst) (tSig : Nat)

/-- The state after a converted strobe of the raw code `raw`, with the sample it hands on. -/
def State.strobeDone (s : State) (p n : Nat) (b : Burst) (tSig raw : Nat) (sm : Sample) : State :=
  ((s.strobeReady p n b tSig).monitorSample n b.line raw).pushSample sm

variable (raw : Nat) (sm : Sample)

theorem State.strobeDone_eq : ∃ m, s.strobeDone p n b tSig raw sm = { s.strobeReady p n b tSig with
    vaf := { (s.strobeReady p n b tSig).vaf with monitors := m, fifo := s.vaf.fifo ++ [sm] } } := by
  obtain ⟨m, hm⟩ := (s.strobeReady p n b tSig).monitorSample_vaf n b.line raw
  exact ⟨m, by rw [State.strobeDone, hm]; rfl⟩

theorem State.strobeDone_only : s.Only Frame.vafTsq (s.strobeDone p n b tSig raw sm) [] := by
  obtain ⟨m, hm⟩ := s.strobeDone_eq p n b tSig raw sm
  rw [hm]
  exact ⟨rfl, fun _ _ => rfl⟩

theorem State.strobeDone_tsqVaf : s.strobeDone p n b tSig raw sm = { s with
    tsq := (s.strobeDone p n b tSig raw sm).tsq, vaf := (s.strobeDone p n b tSig raw sm).vaf } := by
  obtain ⟨m, hm⟩ := s.strobeDone_eq p n b tSig raw sm
  rw [hm]
  rfl

theorem State.fifo_strobeDone : (s.strobeDone p n b tSig raw sm).vaf.fifo = s.vaf.fifo ++ [sm] := by
  obtain ⟨m, hm⟩ := s.strobeDone_eq p n b tSig raw sm
  rw [hm]

theorem State.lp_strobeDone (q : Nat) : (s.strobeDone p n b tSig raw sm).lp q =
    if q = p then { s.lp p with taken := Table.set (fun _ => 0) (s.lp p).taken n (s.strobeNo p n + 1) } else s.lp q := by
  obtain ⟨m, hm⟩ := s.strobeDone_eq p n b tSig raw sm
  rw [hm]
  exact s.lp_setLp _ _ _

theorem State.bank_strobeDone (k : Nat) : (s.strobeDone p n b tSig raw sm).bank k =
    if k = s.bankOf n then (s.bank (s.bankOf n)).strobed (p, b.line) (s.nextSlice n) tSig else s.bank k := by
  obtain ⟨m, hm⟩ := s.strobeDone_eq p n b tSig raw sm
  rw [hm]
  exact State.bank_setBank _ _ _ _

end

/-- Settles O18: strobes on a bank that converts and on one that is off, the crosspoint, and the fourth faulty line. -/
theorem videoConversion : Obligations.VideoConversion := by
  unfold Obligations.VideoConversion
  intro s n hu
  refine ⟨fun p b vSig vRst vRef tRst tSig plane x entry sl hvin hrun hb hsmp hsends hread hplaced hinput hleft hquad hmode hinv hclamp hdac =>
      ⟨fun hst hsl hfree hswap hmon hplace => ?_, fun hst hmap => ?_⟩,
    fun path w hacc => ⟨exec_xbarWrite_taken hu path w hacc, exec_xbarWrite_refused hu path w hacc⟩,
    fun hopen hen hrun hspan hmax hmin hrails hg => exec_videoFaultDetect hu n hopen hen hrun hspan hmax hmin hrails hg⟩
  all_goals
    have h : s.Strobe p n b := ⟨p.isLt, hvin, hrun, hb, hsmp, hsends, hread, hplaced, hinput, hleft, hquad⟩
  · have hslice : s.nextSlice n = sl := by rw [State.nextSlice, hsl]; rfl
    have hcode : (s.strobeReady p n b tSig).inputCode n p b.pattern vSig vRst vRef = s.plainCode n vSig vRef :=
      State.inputCode_plain hmode hinv hclamp hdac b.pattern vSig vRst vRef
    rw [← hslice] at hfree
    have hstrobe := State.videoStrobe_converted h hmode hst hfree hswap hmon hplace vSig vRst vRef tRst
    rw [hcode, State.slicedCode, hslice, ← State.strobeDone] at hstrobe
    have hexec : exec (.videoStrobe n vSig vRst vRef tRst tSig none) s = State.done _ := congrArg State.done hstrobe
    refine ⟨_, s.plainCode n vSig vRef, hexec.trans ((s.strobeDone_only _ _ _ _ _ _).done hu (endIgnores_of (by simp))),
      s.strobeDone_tsqVaf _ _ _ _ _ _, rfl, s.fifo_strobeDone _ _ _ _ _ _, ?_, ?_, fun k hk => ?_, fun q hq => ?_⟩
    · rw [State.lp_strobeDone, if_pos rfl]
      exact Table.get_set_same (α := Nat) _ (s.lp p).taken n (s.strobeNo p n + 1)
    · rw [State.bank_strobeDone, if_pos rfl, ← hslice]
      exact Table.get_set_same (α := Nat) _ (s.bank (s.bankOf n)).busy (s.nextSlice n) (tSig + 256)
    · rw [State.bank_strobeDone, if_neg hk]
    · rw [State.lp_strobeDone, if_neg hq]
  · obtain ⟨hlo, hhi⟩ := hmap
    have hmiss := (State.videoStrobe_missed h hst vSig vRst vRef tRst tSig).trans
      (State.missSample_unmapped (s := s.strobeCounted p n) n.isLt hlo hhi p b.tag b.line (s.burstNo p n b) (s.strobeNo p n) (s.bankOf n)
        (s.bankOf_lt n))
    have hexec : exec (.videoStrobe n vSig vRst vRef tRst tSig none) s =
      State.done ((s.strobeCounted p n).count (R.bankMissCnt (s.bankOf n))) := congrArg State.done hmiss
    have hf : s.TsqOnly ((s.strobeCounted p n).count (R.bankMissCnt (s.bankOf n))) [R.bankMissCnt (s.bankOf n)] :=
      ((State.TsqOnly.refl s _).setLp p _).count (List.mem_singleton_self _)
    have hbank := s.bankOf_lt n
    refine ⟨_, hexec.trans (hf.done hu (endIgnores_of ?_)), hf.state, ?_, fun o ho => hf.reg o (by simpa using ho), rfl⟩
    · simp only [List.mem_singleton, forall_eq, R.bankMissCnt]
      omega
    · rw [State.reg_count, if_pos rfl]
      rfl

end Sys2Proof.Machine

/-!
The banks of the video front end: their states, self-calibration and background calibration (R133-R149, Table 4-2).
-/
namespace Sys2Proof.Machine

/-! ## Frames -/

/-- The frame of the video front end with the free values taken. -/
def Frame.vafFree : Frame :=
  ⟨fun s t => { s with regs := t.regs, vaf := t.vaf, freeCount := t.freeCount }, fun _ => rfl, fun _ _ _ => rfl, fun _ _ _ => rfl,
    fun _ _ _ => rfl, fun _ _ => ⟨rfl, rfl, rfl, rfl, rfl, rfl, rfl⟩⟩

/-- A frame within another. -/
theorem State.Only.widen {F G : Frame} {s t : State} {l : List Nat} (h : s.Only F t l) (hk : ∀ s t, G.keep s (F.keep s t) = F.keep s t) :
    s.Only G t l := ⟨by rw [h.state]; exact (hk s t).symm, h.reg⟩

theorem State.sameBut.only {F : Frame} {s t : State} {l : List Nat} (h : s.sameBut t l)
    (hk : ∀ (s : State) r e, F.keep s { s with regs := r, eff := e } = { s with regs := r, eff := e }) : s.Only F t l :=
  ⟨by rw [h.1]; exact (hk s _ _).symm, h.regsBut⟩

/-- A fold over units, each step of which changes one unit's view, changes each view once. -/
theorem State.forEach_view {α : Type} {view : Nat → State → α} {f : Nat → State → State} {g : Nat → α → α}
    (hother : ∀ t i j, j ≠ i → view j (f i t) = view j t) (hsame : ∀ t i, view i (f i t) = g i (view i t)) (n : Nat) (s : State) (k : Nat) :
    view k (s.forEach n f) = if k < n then g k (view k s) else view k s := by
  have hsucc : ∀ m, s.forEach (m + 1) f = f m (s.forEach m f) := fun m => by
    rw [State.forEach, State.forEach, List.range_succ, List.foldl_append, List.foldl_cons, List.foldl_nil]
  induction n with
  | zero => rfl
  | succ m ih =>
    rw [hsucc]
    by_cases hk : k = m
    · subst hk
      rw [hsame, ih, if_neg (Nat.lt_irrefl k), if_pos (Nat.lt_succ_self k)]
    · rw [hother _ _ _ hk, ih]
      by_cases hlt : k < m
      · rw [if_pos hlt, if_pos (by omega)]
      · rw [if_neg hlt, if_neg (by omega)]

/-! ## Banks and inputs read registers -/

section
variable {s t : State} (hcfg : ∀ q, t.reg (R.lpCfg q) = s.reg (R.lpCfg q)) (hvin : ∀ q, t.reg (R.lpVin q) = s.reg (R.lpVin q))
include hcfg hvin

theorem State.inputHeld_congr : t.inputHeld = s.inputHeld := by
  funext n
  simp only [State.inputHeld, State.bit, State.fld, hcfg, hvin]

theorem State.bankPrograms_congr (hx : t.reg R.vafXbar = s.reg R.vafXbar) : t.bankPrograms = s.bankPrograms := by
  funext k
  have hbank : t.bankOf = s.bankOf := funext fun n => State.bankOf_congr hx n
  simp only [State.bankPrograms, State.bit, State.fld, hcfg, hvin, hbank]

end

theorem State.bankState_congr {s t : State} {k : Nat} (h : t.reg (R.bankStat k) = s.reg (R.bankStat k)) : t.bankState k = s.bankState k :=
  congrArg F.bankStat.STATE.get h

theorem State.quadOn_congr {s t : State} {n : Nat} (hn : n < 16) (h : t.reg (R.sysPdStat 3) = s.reg (R.sysPdStat 3)) :
    t.quadOn n = s.quadOn n := by
  have hreg : (113 + n / 4 - 1) / 32 = 3 := by omega
  rw [State.quadOn, State.pdOn, hreg, h, State.quadOn, State.pdOn, hreg]

/-! ## A bank's state set -/

section
variable (s : State) (k st : Nat) (order : List Nat) (cal : Nat)

theorem State.setBankStat_only : s.Only Frame.vaf (s.setBankStat k st order cal) [R.bankStat k] :=
  (((((State.Only.refl s _).setFld _ _ (by simp)).setFld _ _ (by simp)).setFld _ _ (by simp)).setFld _ _ (by simp)).setFld _ _ (by simp)
    |>.trans (State.setBank_only _ _ _ _)

theorem State.bank_setBankStat (j : Nat) : (s.setBankStat k st order cal).bank j = if j = k then { s.bank k with
    order := order, next := if order = (s.bank k).order then (s.bank k).next else 0
    pairs := [], fails := 0, passed := false, forced := false, markExit := false, partner := none } else s.bank j :=
  State.bank_setBank _ _ _ _

/-- BANKk_STAT with a state, its slices and no handover set. -/
def State.bankStatSet : State :=
  ((((s.setFld (R.bankStat k) F.bankStat.STATE st).setFld (R.bankStat k) F.bankStat.CAL_SLICE cal).setFld (R.bankStat k)
    F.bankStat.EXIT_SLICE 15).setFld (R.bankStat k) F.bankStat.READY 0).setFld (R.bankStat k) F.bankStat.ACTIVE (planeMask order)

theorem State.fld_setBankStat (f : Fld) :
    (s.setBankStat k st order cal).fld (R.bankStat k) f = (s.bankStatSet k st order cal).fld (R.bankStat k) f :=
  congrArg f.get (State.reg_of_regs (s.bankStatSet k st order cal) (s.setBankStat k st order cal) rfl _)

theorem State.fld_setBankStat_state (h : st < 8) : (s.setBankStat k st order cal).bankState k = st := by
  rw [State.bankState, State.fld_setBankStat, State.bankStatSet, State.fld_setFld_apart _ _ _ _ _ (by decide) (by decide) (by decide),
    State.fld_setFld_apart _ _ _ _ _ (by decide) (by decide) (by decide), State.fld_setFld_apart _ _ _ _ _ (by decide) (by decide) (by decide),
    State.fld_setFld_apart _ _ _ _ _ (by decide) (by decide) (by decide), State.fld_setFld _ _ _ _ (by decide)]
  exact Nat.mod_eq_of_lt h

theorem State.fld_setBankStat_cal (h : cal < 16) : (s.setBankStat k st order cal).fld (R.bankStat k) F.bankStat.CAL_SLICE = cal := by
  rw [State.fld_setBankStat, State.bankStatSet, State.fld_setFld_apart _ _ _ _ _ (by decide) (by decide) (by decide),
    State.fld_setFld_apart _ _ _ _ _ (by decide) (by decide) (by decide), State.fld_setFld_apart _ _ _ _ _ (by decide) (by decide) (by decide),
    State.fld_setFld _ _ _ _ (by decide)]
  exact Nat.mod_eq_of_lt h

end

theorem planeMask_testBit (l : List Nat) (n : Nat) : (planeMask l).testBit n = decide (n ∈ l) := by
  have hfold : ∀ m, (l.foldl (fun m n => m ||| 2 ^ n) m).testBit n = (m.testBit n || decide (n ∈ l)) := by
    induction l with
    | nil => simp
    | cons a l ih =>
      intro m
      rw [List.foldl_cons, ih, Nat.testBit_or, Nat.testBit_two_pow]
      by_cases h : n = a
      · simp [h]
      · simp [h, Ne.symm h]
  rw [planeMask, hfold]
  simp

end Sys2Proof.Machine

/-!
The self-calibration of the video front end starts (R136).
-/
namespace Sys2Proof.Machine

section
variable {s : State} {k : Fin 4} (path : Path) (w : Word)

theorem Fld.put_start (w : Word) : (F.vafFgcal.START.put w 1).getLsbD 0 = true := by
  rw [Fld.put_bit _ _ _ _ (by decide) (by decide), if_pos (by decide)]
  decide

/-- VAF.FGCAL as written with START. -/
def State.fgcalAsked (s : State) (path : Path) (w : Word) : State :=
  s.writeRow path R.vafFgcal Row.vafFgcal (F.vafFgcal.START.put w 1) false

theorem State.fgcalAsked_sameBut : s.sameBut (s.fgcalAsked path w) [R.vafFgcal] := s.writeRow_sameBut _ _ _ _

theorem State.reg_fgcalAsked {o : Nat} (h : o ≠ R.vafFgcal) : (s.fgcalAsked path w).reg o = s.reg o :=
  ((State.fgcalAsked_sameBut path w).2 o (by simpa using h)).1

theorem State.busy_fgcalAsked : (s.fgcalAsked path w).fld R.vafFgcal F.vafFgcal.BUSY = s.fld R.vafFgcal F.vafFgcal.BUSY :=
  State.fld_writeRow_of_leaves _ _ _ _ (by decide) (by decide)

theorem State.banks_fgcalAsked : (s.fgcalAsked path w).fld R.vafFgcal F.vafFgcal.BANKS = F.vafFgcal.BANKS.get w := by
  rw [State.fgcalAsked, State.fld_writeRow_of_takes _ _ _ _ (by decide) (by decide),
    Fld.get_put_apart _ _ _ _ (by decide) (by decide) (by decide)]

theorem lpCfg_ne_vafFgcal (q : Nat) : R.lpCfg q ≠ R.vafFgcal := by simp only [R.lpCfg, R.vafFgcal]; omega

theorem lpVin_ne_vafFgcal (q : Nat) : R.lpVin q ≠ R.vafFgcal := by simp only [R.lpVin, R.vafFgcal]; omega

theorem State.inputHeld_fgcalAsked : (s.fgcalAsked path w).inputHeld = s.inputHeld :=
  State.inputHeld_congr (fun q => State.reg_fgcalAsked _ _ (lpCfg_ne_vafFgcal q)) (fun q => State.reg_fgcalAsked _ _ (lpVin_ne_vafFgcal q))

theorem State.bankState_fgcalAsked (j : Nat) : (s.fgcalAsked path w).bankState j = s.bankState j :=
  State.bankState_congr (State.reg_fgcalAsked _ _ (by simp only [R.bankStat, R.vafFgcal]; omega))

theorem State.bankIdle_fgcalAsked : (s.fgcalAsked path w).bankIdle = s.bankIdle := by
  funext j
  rw [State.bankIdle, State.bankIdle, State.bankState_fgcalAsked, State.bankPrograms_congr
    (fun q => State.reg_fgcalAsked _ _ (lpCfg_ne_vafFgcal q)) (fun q => State.reg_fgcalAsked _ _ (lpVin_ne_vafFgcal q))
    (State.reg_fgcalAsked _ _ (by decide))]

theorem State.quadOn_fgcalAsked {n : Nat} (hn : n < 16) : (s.fgcalAsked path w).quadOn n = s.quadOn n :=
  State.quadOn_congr hn (State.reg_fgcalAsked _ _ (by decide))

/-- The inputs under calibration set. -/
def State.setFgInputs (s : State) (v : Nat) : State := { s with vaf := { s.vaf with fgInputs := v } }

theorem State.setFgInputs_only (s : State) (v : Nat) (l : List Nat) : s.Only Frame.vaf (s.setFgInputs v) l := ⟨rfl, State.regsBut_of_regs _ rfl⟩

theorem State.reg_setFgInputs (s : State) (v o : Nat) : (s.setFgInputs v).reg o = s.reg o := State.reg_of_regs s _ rfl o

theorem State.bank_setFgInputs (s : State) (v j : Nat) : (s.setFgInputs v).bank j = s.bank j := rfl

theorem State.bank_setFld (s : State) (o : Nat) (f : Fld) (x j : Nat) : (s.setFld o f x).bank j = s.bank j := rfl

/-- A self-calibration of bank k under way. -/
def State.fgcalStarted (s : State) (k : Nat) : State :=
  ((s.setBankStat k 2 [] 15).setFld R.vafFgcal F.vafFgcal.BUSY 1).setFgInputs (planeMask ((List.range 16).filter (fun n => s.quadOn n)))

theorem State.fgcalWrite_started (hbusy : s.fld R.vafFgcal F.vafFgcal.BUSY = 0) (hbanks : F.vafFgcal.BANKS.get w = 2 ^ k.val)
    (hon : s.bankState k ≠ 0) (hidle : s.bankIdle k = true) (hfree : ∀ n, n < 16 → s.inputHeld n = false) :
    s.fgcalWrite path (F.vafFgcal.START.put w 1) = (s.fgcalAsked path w).fgcalStarted k := by
  have hset : setBits ((s.fgcalAsked path w).fld R.vafFgcal F.vafFgcal.BANKS) 4 = [k.val] := by
    rw [State.banks_fgcalAsked, hbanks, setBits_two_pow k.isLt]
  delta State.fgcalWrite
  extract_lets s1 banks ins s2
  have hb : banks = [k.val] := hset
  have hs2 : s2 = (s.fgcalAsked path w).setBankStat k 2 [] 15 := by
    change banks.foldl _ s1 = _
    rw [hb]
    rfl
  have hheld : ins.any (fun n => s1.inputHeld n) = false := by
    rw [List.any_eq_false]
    intro n hn
    have hlt : n < 16 := List.mem_range.mp (List.mem_filter.mp hn).1
    change ¬(s.fgcalAsked path w).inputHeld n = true
    rw [State.inputHeld_fgcalAsked, hfree n hlt]
    decide
  have hbusy' : s1.bit R.vafFgcal F.vafFgcal.BUSY = false := State.bit_eq_false ((State.busy_fgcalAsked path w).trans hbusy)
  have hready : ¬(s1.bit R.vafFgcal F.vafFgcal.BUSY || banks.any (fun k => s1.bankState k == 0 || !(s1.bankIdle k)) ||
      ins.any (fun n => s1.inputHeld n)) = true := by
    have hst : s1.bankState k = s.bankState k := State.bankState_fgcalAsked path w k
    have hid : s1.bankIdle k = s.bankIdle k := congrFun (State.bankIdle_fgcalAsked path w) k
    rw [hbusy', hheld, hb, List.any_cons, List.any_nil, hst, hid, hidle]
    simpa using hon
  refine (if_neg (show ¬(!((F.vafFgcal.START.put w 1).getLsbD 0)) = true by rw [Fld.put_start]; decide)).trans ?_
  refine (if_neg hready).trans ?_
  clear_value s2
  subst hs2
  rfl

theorem State.fgcalWrite_refused (hbusy : s.fld R.vafFgcal F.vafFgcal.BUSY = 1) :
    s.fgcalWrite path (F.vafFgcal.START.put w 1) = (s.fgcalAsked path w).errIdle path R.vafFgcal := by
  have hbusy' : (s.fgcalAsked path w).bit R.vafFgcal F.vafFgcal.BUSY = true := State.bit_eq_true ((State.busy_fgcalAsked path w).trans hbusy)
  delta State.fgcalWrite
  extract_lets s1 banks ins s2
  refine (if_neg (show ¬(!((F.vafFgcal.START.put w 1).getLsbD 0)) = true by rw [Fld.put_start]; decide)).trans ?_
  refine (if_pos ?_).trans rfl
  change ((s.fgcalAsked path w).bit R.vafFgcal F.vafFgcal.BUSY || _ || _) = true
  rw [hbusy', Bool.true_or, Bool.true_or]

end

section
variable (s : State) (k : Nat)

theorem State.fgcalStarted_only : s.Only Frame.vaf (s.fgcalStarted k) [R.vafFgcal, R.bankStat k] := by
  have hset : s.Only Frame.vaf ((s.setBankStat k 2 [] 15).setFld R.vafFgcal F.vafFgcal.BUSY 1) [R.vafFgcal, R.bankStat k] :=
    ((s.setBankStat_only k 2 [] 15).mono (by simp)).setFld _ _ (by simp)
  exact hset.trans (State.setFgInputs_only _ _ _)

theorem State.reg_fgcalStarted (o : Nat) : (s.fgcalStarted k).reg o = ((s.setBankStat k 2 [] 15).setFld R.vafFgcal F.vafFgcal.BUSY 1).reg o :=
  State.reg_setFgInputs _ _ o

theorem State.bank_fgcalStarted {j : Nat} (h : j ≠ k) : (s.fgcalStarted k).bank j = s.bank j := by
  rw [State.fgcalStarted, State.bank_setFgInputs, State.bank_setFld, State.bank_setBankStat, if_neg h]

theorem State.bankState_fgcalStarted : (s.fgcalStarted k).bankState k = 2 := by
  rw [State.bankState, State.fld, State.reg_fgcalStarted, State.reg_setFld_ne _ _ _ _ _ (by simp only [R.bankStat, R.vafFgcal]; omega)]
  exact s.fld_setBankStat_state k 2 [] 15 (by decide)

theorem State.busy_fgcalStarted : (s.fgcalStarted k).fld R.vafFgcal F.vafFgcal.BUSY = 1 := by
  rw [State.fld, State.reg_fgcalStarted, ← State.fld, State.fld_setFld _ _ _ _ (by decide)]
  rfl

theorem State.fgInputs_fgcalStarted {n : Nat} (hn : n < 16) : (s.fgcalStarted k).vaf.fgInputs.testBit n = s.quadOn n := by
  refine (planeMask_testBit _ _).trans ?_
  simp [hn]

end

section
variable {s : State} (hu : s.usual) (k : Fin 4) (path : Path) (w : Word) (hacc : s.accessible path R.vafFgcal = true)
include hu hacc

theorem exec_fgcalStart_started (hbusy : s.fld R.vafFgcal F.vafFgcal.BUSY = 0) (hbanks : F.vafFgcal.BANKS.get w = 2 ^ k.val)
    (hon : s.bankState k ≠ 0) (hidle : s.bankIdle k = true) (hfree : ∀ n, n < 16 → s.inputHeld n = false) :
    ∃ t, exec (.fgcalStart path w) s = .next t ∧ t = { s with regs := t.regs, eff := t.eff, vaf := t.vaf } ∧
      t.fld R.vafFgcal F.vafFgcal.BUSY = 1 ∧ t.bankState k = 2 ∧
      (∀ j : Fin 4, j ≠ k → t.reg (R.bankStat j) = s.reg (R.bankStat j) ∧ t.bank j = s.bank j) ∧
      (∀ n, n < 16 → t.vaf.fgInputs.testBit n = s.quadOn n) ∧
      (∀ off, off ∉ [R.vafFgcal, R.bankStat k] → t.reg off = s.reg off) := by
  have hexec : exec (.fgcalStart path w) s = State.done ((s.fgcalAsked path w).fgcalStarted k) :=
    congrArg State.done ((State.onWrite_of _ _ _ _ hacc).trans (State.fgcalWrite_started path w hbusy hbanks hon hidle hfree))
  have hasked : s.Only Frame.vafEff (s.fgcalAsked path w) [R.vafFgcal, R.bankStat k] :=
    ((State.fgcalAsked_sameBut path w).mono (by simp)).only fun _ _ _ => rfl
  have hf : s.Only Frame.vafEff ((s.fgcalAsked path w).fgcalStarted k) [R.vafFgcal, R.bankStat k] :=
    hasked.trans ((State.fgcalStarted_only _ k).widen fun _ _ => rfl)
  have hlist : endIgnores [R.vafFgcal, R.bankStat k] := endIgnores_of (by
    simp only [List.mem_cons, List.not_mem_nil, or_false, forall_eq_or_imp, forall_eq, R.vafFgcal, R.bankStat]; omega)
  refine ⟨_, hexec.trans (hf.done hu hlist), hf.state, State.busy_fgcalStarted _ _, State.bankState_fgcalStarted _ _, fun j hj => ⟨?_, ?_⟩,
    fun n hn => ?_, hf.reg⟩
  · refine hf.reg _ ?_
    have hne : j.val ≠ k.val := fun h => hj (Fin.ext h)
    simp only [List.mem_cons, List.not_mem_nil, or_false, R.vafFgcal, R.bankStat]
    omega
  · rw [State.bank_fgcalStarted _ _ (fun h => hj (Fin.ext h))]
    exact (congrArg (fun t : State => t.bank j) (State.fgcalAsked_sameBut (s := s) path w).1 :)
  · rw [State.fgInputs_fgcalStarted _ _ hn, State.quadOn_fgcalAsked _ _ hn]

theorem exec_fgcalStart_refused (hbusy : s.fld R.vafFgcal F.vafFgcal.BUSY = 1) :
    ∃ t, exec (.fgcalStart path w) s = .next t ∧ t.fld R.sysErrStat F.sysErrStat.IDLE_WR = 1 ∧ t.vaf = s.vaf ∧
      s.sameBut t [R.vafFgcal, R.sysErrStat, R.sysErrAddr] := by
  have hexec : exec (.fgcalStart path w) s = State.done ((s.fgcalAsked path w).errIdle path R.vafFgcal) :=
    congrArg State.done ((State.onWrite_of _ _ _ _ hacc).trans (State.fgcalWrite_refused path w hbusy))
  have herr : (s.fgcalAsked path w).sameBut ((s.fgcalAsked path w).errIdle path R.vafFgcal) [R.sysErrAddr, R.sysErrStat] :=
    State.err_sameBut _ _ _ _
  have hf : s.sameBut ((s.fgcalAsked path w).errIdle path R.vafFgcal) [R.vafFgcal, R.sysErrStat, R.sysErrAddr] :=
    ((State.fgcalAsked_sameBut path w).mono (by simp)).trans (herr.mono (by simp))
  exact ⟨_, hexec.trans (State.done_of_regs hu hf (endIgnores_of (by decide))), State.fld_err_same _ _ _ _ (by decide) rfl,
    (congrArg State.vaf hf.1 :), hf⟩

end

end Sys2Proof.Machine

/-!
The self-calibration of the video front end completes (R137-R140).
-/
namespace Sys2Proof.Machine

theorem State.bit_iff_one {s : State} {o : Nat} {f : Fld} (h : f.width = 1) : s.bit o f = true ↔ s.fld o f = 1 := by
  have hlt : s.fld o f < 2 := by
    have hget : s.fld o f < 2 ^ f.width := BitVec.isLt _
    rwa [h] at hget
  rw [State.bit, bne_iff_ne]
  omega

/-! ## The spur estimate (R149) -/

theorem spurSearch_le (e : Rat) (n lo hi : Nat) (h : lo ≤ hi) : spurSearch e n lo hi ≤ hi := by
  induction n generalizing lo hi with
  | zero => exact h
  | succ n ih =>
    rw [spurSearch]
    split
    · split
      · exact (ih lo _ (by omega)).trans (by omega)
      · exact ih _ hi (by omega)
    · exact h

/-- The estimate of R149 with the state after the free value that it may take. -/
def State.spurValue (s : State) (sp : Spread) : Nat × State :=
  if spurArg sp = 0 then (s.free.1 % 4096, s.free.2) else (spurSearch (spurArg sp) 13 0 4095, s)

theorem State.spurValue_lt (s : State) (sp : Spread) : (s.spurValue sp).1 < 4096 := by
  rw [State.spurValue]
  split
  · exact Nat.mod_lt _ (by decide)
  · exact Nat.lt_succ_of_le (spurSearch_le _ _ _ _ (by decide))

theorem State.spurValue_state (s : State) (sp : Spread) : (s.spurValue sp).2 = { s with freeCount := (s.spurValue sp).2.freeCount } := by
  rw [State.spurValue]
  split <;> rfl

section
variable (s : State) (k : Nat) (sp : Spread)

/-- EST written. -/
def State.spurWritten : State := (s.spurValue sp).2.setFld (R.bankSpur k) F.bankSpur.EST (s.spurValue sp).1

theorem State.spurEstimate_eq : s.spurEstimate k sp = (s.spurWritten k sp).setFld (R.bankStat k) F.bankStat.SPUR_HIGH
    (if (s.spurValue sp).1 < (s.spurWritten k sp).fld (R.bankSpur k) F.bankSpur.LIM then 1 else 0) := by
  have hpair : (if spurArg sp = 0 then (s.free.1 % 4096, s.free.2) else (spurSearch (spurArg sp) 13 0 4095, s)) = s.spurValue sp := rfl
  delta State.spurEstimate
  dsimp -zeta only
  extract_lets e
  have hval : (if e = 0 then (let (v, t) := s.free; (v % 4096, t)) else (spurSearch e 13 0 4095, s)) = s.spurValue sp := hpair
  rw [hval]
  rfl

theorem State.spurWritten_only {F : Frame} (hF : ∀ (s : State) n, F.keep s { s with freeCount := n } = { s with freeCount := n }) :
    s.Only F (s.spurWritten k sp) [R.bankStat k, R.bankSpur k] := by
  have hfree : s.Only F (s.spurValue sp).2 [R.bankStat k, R.bankSpur k] :=
    ⟨by rw [s.spurValue_state sp, hF], State.regsBut_of_regs _ (congrArg State.regs (s.spurValue_state sp) :)⟩
  exact hfree.setFld _ _ (by simp)

theorem State.spurEstimate_only {F : Frame} (hF : ∀ (s : State) n, F.keep s { s with freeCount := n } = { s with freeCount := n }) :
    s.Only F (s.spurEstimate k sp) [R.bankStat k, R.bankSpur k] := by
  rw [s.spurEstimate_eq]
  exact (s.spurWritten_only k sp hF).setFld _ _ (by simp)

theorem State.vaf_spurEstimate : (s.spurEstimate k sp).vaf = s.vaf := by
  rw [s.spurEstimate_eq]
  exact (congrArg State.vaf (s.spurValue_state sp) :)

theorem State.reg_spurWritten_stat : (s.spurWritten k sp).reg (R.bankStat k) = s.reg (R.bankStat k) := by
  rw [State.spurWritten, State.reg_setFld_ne _ _ _ _ _ (by simp only [R.bankStat, R.bankSpur]; omega)]
  exact State.reg_of_regs _ _ (congrArg State.regs (s.spurValue_state sp)) _

/-- A field of BANKk_STAT apart from SPUR_HIGH. -/
theorem State.fld_spurEstimate {f : Fld} (hf : f.lo + f.width ≤ 32)
    (h : f.lo + f.width ≤ F.bankStat.SPUR_HIGH.lo ∨ F.bankStat.SPUR_HIGH.lo + F.bankStat.SPUR_HIGH.width ≤ f.lo) :
    (s.spurEstimate k sp).fld (R.bankStat k) f = s.fld (R.bankStat k) f := by
  rw [s.spurEstimate_eq, State.fld_setFld_apart _ _ F.bankStat.SPUR_HIGH _ _ (by decide) hf h]
  exact congrArg f.get (s.reg_spurWritten_stat k sp)

theorem State.fld_spurEstimate_high : (s.spurEstimate k sp).fld (R.bankStat k) F.bankStat.SPUR_HIGH = 1 ↔
    (s.spurEstimate k sp).fld (R.bankSpur k) F.bankSpur.EST < (s.spurEstimate k sp).fld (R.bankSpur k) F.bankSpur.LIM := by
  have hne : R.bankSpur k ≠ R.bankStat k := by simp only [R.bankStat, R.bankSpur]; omega
  have hreg : (s.spurEstimate k sp).reg (R.bankSpur k) = (s.spurWritten k sp).reg (R.bankSpur k) := by
    rw [s.spurEstimate_eq, State.reg_setFld_ne _ _ _ _ _ hne]
  have hest : (s.spurEstimate k sp).fld (R.bankSpur k) F.bankSpur.EST = (s.spurValue sp).1 := by
    rw [State.fld, hreg, ← State.fld, State.spurWritten, State.fld_setFld _ _ _ _ (by decide)]
    exact Nat.mod_eq_of_lt (s.spurValue_lt sp)
  have hlim : (s.spurEstimate k sp).fld (R.bankSpur k) F.bankSpur.LIM = (s.spurWritten k sp).fld (R.bankSpur k) F.bankSpur.LIM :=
    congrArg F.bankSpur.LIM.get hreg
  rw [hest, hlim, s.spurEstimate_eq, State.fld_setFld _ _ _ _ (by decide)]
  split <;> simp_all

end

end Sys2Proof.Machine

/-!
The self-calibration of the video front end completes (R137-R140): the corrections of one bank.
-/
namespace Sys2Proof.Machine

/-- The registers of bank k's slices. -/
def sliceRegs (k : Nat) : List Nat := (List.range 9).flatMap (fun i => [R.bankSlOfs k i, R.bankSlGsk k i])

theorem mem_sliceRegs {k o : Nat} : o ∈ sliceRegs k ↔ ∃ i, i < 9 ∧ (o = R.bankSlOfs k i ∨ o = R.bankSlGsk k i) := by
  simp [sliceRegs]

theorem bankSlOfs_inj {k i j : Nat} (h : i ≠ j) : R.bankSlOfs k i ≠ R.bankSlOfs k j := by simp only [R.bankSlOfs]; omega

theorem bankSlGsk_inj {k i j : Nat} (h : i ≠ j) : R.bankSlGsk k i ≠ R.bankSlGsk k j := by simp only [R.bankSlGsk]; omega

theorem bankSlOfs_ne_gsk (k i j : Nat) : R.bankSlOfs k i ≠ R.bankSlGsk k j := by simp only [R.bankSlOfs, R.bankSlGsk]; omega

/-- A correction of a slice: offset, gain, skew, as their fields hold them. -/
def corrFields (ofs gain skew : Int) : Nat × Nat × Nat := (unsigned 10 ofs, unsigned 16 gain, unsigned 8 skew)

/-- The corrections of slice i of bank k. -/
def State.slCorr (s : State) (k i : Nat) : Nat × Nat × Nat :=
  (s.fld (R.bankSlOfs k i) F.bankSlOfs.OFS, s.fld (R.bankSlGsk k i) F.bankSlGsk.GAIN, s.fld (R.bankSlGsk k i) F.bankSlGsk.SKEW)

/-- The corrections of slice i written. -/
def State.writeSlice (s : State) (k i : Nat) (c : Nat × Nat × Nat) : State :=
  ((s.setFld (R.bankSlOfs k i) F.bankSlOfs.OFS c.1).setFld (R.bankSlGsk k i) F.bankSlGsk.GAIN c.2.1).setFld (R.bankSlGsk k i)
    F.bankSlGsk.SKEW c.2.2

section
variable (s : State) (k : Nat)

theorem State.writeSlice_only {F : Frame} (i : Nat) (c : Nat × Nat × Nat) :
    s.Only F (s.writeSlice k i c) [R.bankSlOfs k i, R.bankSlGsk k i] :=
  (((State.Only.refl s _).setFld _ _ (by simp)).setFld _ _ (by simp)).setFld _ _ (by simp)

theorem State.vaf_writeSlice (i : Nat) (c : Nat × Nat × Nat) : (s.writeSlice k i c).vaf = s.vaf := rfl

theorem State.slCorr_of_regs {s t : State} {k i : Nat} (h1 : t.reg (R.bankSlOfs k i) = s.reg (R.bankSlOfs k i))
    (h2 : t.reg (R.bankSlGsk k i) = s.reg (R.bankSlGsk k i)) : t.slCorr k i = s.slCorr k i := by
  rw [State.slCorr, State.fld, State.fld, State.fld, h1, h2, ← State.fld, ← State.fld, ← State.fld, ← State.slCorr]

theorem State.slCorr_writeSlice (i : Nat) (c : Nat × Nat × Nat) (h1 : c.1 < 1024) (h2 : c.2.1 < 65536) (h3 : c.2.2 < 256) :
    (s.writeSlice k i c).slCorr k i = c := by
  have ho : (s.writeSlice k i c).fld (R.bankSlOfs k i) F.bankSlOfs.OFS = c.1 := by
    rw [State.writeSlice, State.fld, State.reg_setFld_ne _ _ _ _ _ (bankSlOfs_ne_gsk _ _ _),
      State.reg_setFld_ne _ _ _ _ _ (bankSlOfs_ne_gsk _ _ _), ← State.fld, State.fld_setFld _ _ _ _ (by decide)]
    exact Nat.mod_eq_of_lt h1
  have hg : (s.writeSlice k i c).fld (R.bankSlGsk k i) F.bankSlGsk.GAIN = c.2.1 := by
    rw [State.writeSlice, State.fld_setFld_apart _ _ _ _ _ (by decide) (by decide) (by decide), State.fld_setFld _ _ _ _ (by decide)]
    exact Nat.mod_eq_of_lt h2
  have hs : (s.writeSlice k i c).fld (R.bankSlGsk k i) F.bankSlGsk.SKEW = c.2.2 := by
    rw [State.writeSlice, State.fld_setFld _ _ _ _ (by decide)]
    exact Nat.mod_eq_of_lt h3
  rw [State.slCorr, ho, hg, hs]

theorem State.slCorr_writeSlice_ne {i j : Nat} (h : j ≠ i) (c : Nat × Nat × Nat) : (s.writeSlice k i c).slCorr k j = s.slCorr k j := by
  have honly := s.writeSlice_only (F := Frame.vaf) k i c
  refine State.slCorr_of_regs (honly.reg _ ?_) (honly.reg _ ?_)
  · simpa using ⟨bankSlOfs_inj h, bankSlOfs_ne_gsk _ _ _⟩
  · simpa using ⟨(bankSlOfs_ne_gsk _ _ _).symm, bankSlGsk_inj h⟩

end

theorem unsigned_bounds (ofs gain skew : Int) : (corrFields ofs gain skew).1 < 1024 ∧ (corrFields ofs gain skew).2.1 < 65536 ∧
    (corrFields ofs gain skew).2.2 < 256 := ⟨unsigned_lt 10 ofs, unsigned_lt 16 gain, unsigned_lt 8 skew⟩

section
variable (s : State) (k : Nat) (ofs gain skew : List Int)

/-- The measured corrections of slice i of bank k. -/
def measured (i : Nat) : Nat × Nat × Nat :=
  corrFields (ofs.getD (9 * k + i) 0) (gain.getD (9 * k + i) 0) (skew.getD (9 * k + i) 0)

/-- The measured corrections of all slices of bank k written. -/
def State.writeSlices : State := s.forEach 9 (fun i t => t.writeSlice k i (measured k ofs gain skew i))

theorem State.writeSlices_only {F : Frame} : s.Only F (s.writeSlices k ofs gain skew) (sliceRegs k) := by
  refine State.Only.foldl _ _ (State.Only.refl s _) fun v i hi => (v.writeSlice_only k i _).mono ?_
  intro o ho
  exact mem_sliceRegs.mpr ⟨i, List.mem_range.mp hi, by simpa using ho⟩

theorem State.vaf_writeSlices : (s.writeSlices k ofs gain skew).vaf = s.vaf := by
  refine List.foldlRecOn (motive := fun v : State => v.vaf = s.vaf) _ _ rfl fun v hv i _ => ?_
  rw [State.vaf_writeSlice, hv]

theorem State.slCorr_writeSlices {i : Nat} (h : i < 9) : (s.writeSlices k ofs gain skew).slCorr k i = measured k ofs gain skew i := by
  have hview := State.forEach_view (view := fun i t => t.slCorr k i) (f := fun i t => t.writeSlice k i (measured k ofs gain skew i))
    (g := fun i _ => measured k ofs gain skew i) (fun t i j hne => t.slCorr_writeSlice_ne k hne _)
    (fun t i => t.slCorr_writeSlice k i _ (unsigned_bounds _ _ _).1 (unsigned_bounds _ _ _).2.1 (unsigned_bounds _ _ _).2.2) 9 s i
  exact hview.trans (if_pos h)

/-- Bank k with the measured corrections and no bad slice. -/
def State.fgcalGood : State :=
  let t := (s.writeSlices k ofs gain skew).setFld (R.bankCal k) F.bankCal.BAD 0
  (t.setBankStat k (if t.bit R.vafCtl F.vafCtl.BG_EN then 4 else 5) firstEight 8).setFld (R.bankCal k) F.bankCal.VALID 1

/-- The calibration of the bank counted. -/
def Bank.calibrated (b : Bank) : Bank := { b with
  calCount := b.calCount + 1, calNo := (List.range 9).foldl (fun t sl => Table.set (fun _ => 0) t sl (b.calCount + 1)) b.calNo }

theorem State.fgcalBank_good (sp : Spread) (hin : ∀ i, i < 9 → -512 ≤ ofs.getD (9 * k + i) 0 ∧ ofs.getD (9 * k + i) 0 < 512 ∧
      -32768 ≤ gain.getD (9 * k + i) 0 ∧ gain.getD (9 * k + i) 0 < 32768 ∧ -128 ≤ skew.getD (9 * k + i) 0 ∧ skew.getD (9 * k + i) 0 < 128) :
    s.fgcalBank k ofs gain skew [] sp = (State.setBank (s.fgcalGood k ofs gain skew) k
      (State.bank (s.fgcalGood k ofs gain skew) k).calibrated).spurEstimate k sp := by
  delta State.fgcalBank
  extract_lets at_ isBad bads s1 s2 s3 b3
  have hout : ∀ i, i < 9 → isBad i = false := by
    intro i hi
    obtain ⟨h1, h2, h3, h4, h5, h6⟩ := hin i hi
    have hat : ∀ l : List Int, at_ l i = l.getD (9 * k + i) 0 := fun l => (List.getD_eq_getElem?_getD ..).symm
    have ho : outside 10 (at_ ofs i) = false := by
      rw [hat, outside, decide_eq_false]
      simp only [Nat.reduceSub, Nat.reducePow]
      omega
    have hg : outside 16 (at_ gain i) = false := by
      rw [hat, outside, decide_eq_false]
      simp only [Nat.reduceSub, Nat.reducePow]
      omega
    have hs : outside 8 (at_ skew i) = false := by
      rw [hat, outside, decide_eq_false]
      simp only [Nat.reduceSub, Nat.reducePow]
      omega
    change (_ || outside 10 (at_ ofs i) || outside 16 (at_ gain i) || outside 8 (at_ skew i)) = false
    rw [ho, hg, hs]
    rfl
  have hbads : bads = [] := List.filter_eq_nil_iff.mpr fun i hi => by simp [hout i (List.mem_range.mp hi)]
  have hs1 : s1 = s.writeSlices k ofs gain skew := by
    refine congrArg (s.forEach 9) (funext fun i => funext fun t => ?_)
    have hat : ∀ l : List Int, at_ l i = l.getD (9 * k + i) 0 := fun l => (List.getD_eq_getElem?_getD ..).symm
    rw [State.writeSlice, measured, corrFields, ← hat, ← hat, ← hat]
  have hs3 : s3 = s.fgcalGood k ofs gain skew := by
    have hs2 : s2 = (s.writeSlices k ofs gain skew).setFld (R.bankCal k) F.bankCal.BAD 0 := by
      change s1.setFld _ _ (planeMask bads) = _
      rw [hs1, hbads]
      rfl
    clear_value bads s2
    subst hbads hs2
    rfl
  clear_value s3
  subst hs3
  rfl

end

end Sys2Proof.Machine

/-!
The self-calibration of the video front end completes (R137-R140): its end.
-/
namespace Sys2Proof.Machine

section
variable (s : State) (k : Nat) (ofs gain skew : List Int) (sp : Spread)

/-- Bank k calibrated without a bad slice. -/
def State.fgcalDone : State :=
  (State.setBank (s.fgcalGood k ofs gain skew) k (State.bank (s.fgcalGood k ofs gain skew) k).calibrated).spurEstimate k sp

/-- The registers that a bank's calibration writes. -/
def fgcalRegs (k : Nat) : List Nat := [R.bankStat k, R.bankSpur k, R.bankCal k] ++ sliceRegs k

theorem mem_fgcalRegs {k o : Nat} : o ∈ fgcalRegs k ↔
    o = R.bankStat k ∨ o = R.bankSpur k ∨ o = R.bankCal k ∨ ∃ i, i < 9 ∧ (o = R.bankSlOfs k i ∨ o = R.bankSlGsk k i) := by
  simp [fgcalRegs, mem_sliceRegs]

theorem sliceRegs_subset {k : Nat} : sliceRegs k ⊆ fgcalRegs k := List.subset_append_right _ _

theorem State.fgcalGood_only : s.Only Frame.vaf (s.fgcalGood k ofs gain skew) (fgcalRegs k) :=
  ((((s.writeSlices_only k ofs gain skew).mono sliceRegs_subset).setFld _ _ (by simp [fgcalRegs])).trans
    ((State.setBankStat_only _ k _ firstEight 8).mono (by simp [fgcalRegs]))).setFld _ _ (by simp [fgcalRegs])

theorem State.fgcalDone_only : s.Only Frame.vafFree (s.fgcalDone k ofs gain skew sp) (fgcalRegs k) :=
  (((s.fgcalGood_only k ofs gain skew).trans (State.setBank_only _ _ _ _)).widen fun _ _ => rfl).trans
    ((State.spurEstimate_only _ k sp fun _ _ => rfl).mono (by simp [fgcalRegs]))

theorem State.reg_setBank (s : State) (k : Nat) (x : Bank) (o : Nat) : (s.setBank k x).reg o = s.reg o := State.reg_of_regs s _ rfl o

theorem State.bank_of_vaf {s t : State} (h : t.vaf = s.vaf) (j : Nat) : t.bank j = s.bank j := by rw [State.bank, h, State.bank]

theorem State.vafCtl_fgcalGood : State.bit ((s.writeSlices k ofs gain skew).setFld (R.bankCal k) F.bankCal.BAD 0) R.vafCtl F.vafCtl.BG_EN =
    s.bit R.vafCtl F.vafCtl.BG_EN := by
  have honly : s.Only Frame.vaf ((s.writeSlices k ofs gain skew).setFld (R.bankCal k) F.bankCal.BAD 0) (fgcalRegs k) :=
    ((s.writeSlices_only k ofs gain skew).mono sliceRegs_subset).setFld _ _ (by simp [fgcalRegs])
  rw [State.bit, State.bit, honly.fld]
  simp only [mem_fgcalRegs, R.vafCtl, R.bankStat, R.bankSpur, R.bankCal, R.bankSlOfs, R.bankSlGsk]
  omega

theorem State.fgcalGood_eq : s.fgcalGood k ofs gain skew =
    (State.setBankStat ((s.writeSlices k ofs gain skew).setFld (R.bankCal k) F.bankCal.BAD 0)
      k (if s.bit R.vafCtl F.vafCtl.BG_EN then 4 else 5) firstEight 8).setFld (R.bankCal k) F.bankCal.VALID 1 := by
  rw [State.fgcalGood, State.vafCtl_fgcalGood]

theorem State.bank_fgcalGood (j : Nat) : State.bank (s.fgcalGood k ofs gain skew) j =
    (State.setBankStat ((s.writeSlices k ofs gain skew).setFld (R.bankCal k) F.bankCal.BAD 0)
      k (if s.bit R.vafCtl F.vafCtl.BG_EN then 4 else 5) firstEight 8).bank j := by
  rw [State.fgcalGood_eq, State.bank_setFld]

theorem State.bank_writeSlices (j : Nat) : State.bank (s.writeSlices k ofs gain skew) j = s.bank j :=
  State.bank_of_vaf (s.vaf_writeSlices k ofs gain skew) j

theorem State.bank_fgcalDone (j : Nat) : (s.fgcalDone k ofs gain skew sp).bank j =
    if j = k then (State.bank (s.fgcalGood k ofs gain skew) k).calibrated else s.bank j := by
  have hvaf : (s.fgcalDone k ofs gain skew sp).bank j = State.bank (State.setBank (s.fgcalGood k ofs gain skew) k
      (State.bank (s.fgcalGood k ofs gain skew) k).calibrated) j :=
    State.bank_of_vaf (State.vaf_spurEstimate _ k sp) j
  rw [hvaf, State.bank_setBank]
  by_cases h : j = k
  · rw [if_pos h, if_pos h]
  · rw [if_neg h, if_neg h, State.bank_fgcalGood, State.bank_setBankStat, if_neg h, State.bank_setFld, State.bank_writeSlices]

theorem Bank.order_calibrated (b : Bank) : b.calibrated.order = b.order := by rw [Bank.calibrated]

theorem State.order_fgcalDone : ((s.fgcalDone k ofs gain skew sp).bank k).order = firstEight := by
  rw [State.bank_fgcalDone, if_pos rfl, Bank.order_calibrated, State.bank_fgcalGood, State.bank_setBankStat, if_pos rfl]

/-- A field of BANKk_STAT apart from SPUR_HIGH after the calibration. -/
theorem State.fld_fgcalDone_stat {f : Fld} (hf : f.lo + f.width ≤ 32)
    (h : f.lo + f.width ≤ F.bankStat.SPUR_HIGH.lo ∨ F.bankStat.SPUR_HIGH.lo + F.bankStat.SPUR_HIGH.width ≤ f.lo) :
    (s.fgcalDone k ofs gain skew sp).fld (R.bankStat k) f = (State.setBankStat ((s.writeSlices k ofs gain skew).setFld (R.bankCal k) F.bankCal.BAD 0)
      k (if s.bit R.vafCtl F.vafCtl.BG_EN then 4 else 5) firstEight 8).fld (R.bankStat k) f := by
  refine (State.fld_spurEstimate _ k sp hf h).trans ?_
  rw [State.fld, State.reg_setBank, State.fgcalGood_eq, State.reg_setFld_ne _ _ _ _ _ (by simp only [R.bankStat, R.bankCal]; omega),
    ← State.fld]

theorem State.bankState_fgcalDone :
    (s.fgcalDone k ofs gain skew sp).bankState k = if s.fld R.vafCtl F.vafCtl.BG_EN = 1 then 4 else 5 := by
  rw [State.bankState, State.fld_fgcalDone_stat _ _ _ _ _ _ (by decide) (by decide), ← State.bankState,
    State.fld_setBankStat_state _ _ _ _ _ (by split <;> decide)]
  by_cases h : s.fld R.vafCtl F.vafCtl.BG_EN = 1
  · rw [if_pos h, if_pos (State.bit_eq_true h)]
  · rw [if_neg h, if_neg fun hb => h ((State.bit_iff_one rfl).mp hb)]

theorem State.calSlice_fgcalDone : (s.fgcalDone k ofs gain skew sp).fld (R.bankStat k) F.bankStat.CAL_SLICE = 8 := by
  rw [State.fld_fgcalDone_stat _ _ _ _ _ _ (by decide) (by decide), State.fld_setBankStat_cal _ _ _ _ _ (by decide)]

/-- The registers of the bank that the spur estimate leaves. -/
theorem State.reg_fgcalDone {o : Nat} (h1 : o ≠ R.bankStat k) (h2 : o ≠ R.bankSpur k) :
    (s.fgcalDone k ofs gain skew sp).reg o =
      (((s.writeSlices k ofs gain skew).setFld (R.bankCal k) F.bankCal.BAD 0).setFld (R.bankCal k) F.bankCal.VALID 1).reg o := by
  refine ((State.spurEstimate_only (F := Frame.vafFree) _ k sp fun _ _ => rfl).reg o (by simp [h1, h2])).trans ?_
  rw [State.reg_setBank, State.fgcalGood_eq]
  by_cases ho : o = R.bankCal k
  · subst ho
    rw [State.reg_setFld_same, State.reg_setFld_same, (State.setBankStat_only _ k _ firstEight 8).reg _ (by simpa using h1)]
  · rw [State.reg_setFld_ne _ _ _ _ _ ho, State.reg_setFld_ne _ _ _ _ _ ho, (State.setBankStat_only _ k _ firstEight 8).reg _ (by simpa using h1)]

theorem bankCal_apart (k : Nat) : R.bankCal k ≠ R.bankStat k ∧ R.bankCal k ≠ R.bankSpur k := by
  simp only [R.bankCal, R.bankStat, R.bankSpur]
  omega

theorem State.valid_fgcalDone : (s.fgcalDone k ofs gain skew sp).fld (R.bankCal k) F.bankCal.VALID = 1 := by
  rw [State.fld, State.reg_fgcalDone _ _ _ _ _ _ (bankCal_apart k).1 (bankCal_apart k).2, ← State.fld, State.fld_setFld _ _ _ _ (by decide)]
  rfl

theorem State.bad_fgcalDone : (s.fgcalDone k ofs gain skew sp).fld (R.bankCal k) F.bankCal.BAD = 0 := by
  rw [State.fld, State.reg_fgcalDone _ _ _ _ _ _ (bankCal_apart k).1 (bankCal_apart k).2, ← State.fld,
    State.fld_setFld_apart _ _ _ _ _ (by decide) (by decide) (by decide), State.fld_setFld _ _ _ _ (by decide)]
  rfl

theorem State.slCorr_fgcalDone {i : Nat} (h : i < 9) : (s.fgcalDone k ofs gain skew sp).slCorr k i = measured k ofs gain skew i := by
  rw [← s.slCorr_writeSlices k ofs gain skew h]
  have hreg : ∀ o, o ≠ R.bankStat k → o ≠ R.bankSpur k → o ≠ R.bankCal k →
      (s.fgcalDone k ofs gain skew sp).reg o = (s.writeSlices k ofs gain skew).reg o := fun o h1 h2 h3 => by
    rw [State.reg_fgcalDone _ _ _ _ _ _ h1 h2, State.reg_setFld_ne _ _ _ _ _ h3, State.reg_setFld_ne _ _ _ _ _ h3]
  refine State.slCorr_of_regs (hreg _ ?_ ?_ ?_) (hreg _ ?_ ?_ ?_) <;>
    (simp only [R.bankCal, R.bankStat, R.bankSpur, R.bankSlOfs, R.bankSlGsk]; omega)

theorem State.spurHigh_fgcalDone : (s.fgcalDone k ofs gain skew sp).fld (R.bankStat k) F.bankStat.SPUR_HIGH = 1 ↔
    (s.fgcalDone k ofs gain skew sp).fld (R.bankSpur k) F.bankSpur.EST < (s.fgcalDone k ofs gain skew sp).fld (R.bankSpur k) F.bankSpur.LIM :=
  State.fld_spurEstimate_high _ k sp

end

/-! ## The end of the self-calibration -/

section
variable (s : State) (trims : List Word) (r : Nat)

/-- The input trims written. -/
def State.writeTrims : State := (setBits s.vaf.fgInputs 16).foldl (fun t n => t.setReg (R.vafVinTrim n) (((trims[n]?).getD 0) &&& 0x00FF00FF)) s

/-- The self-calibration shown as done. -/
def State.fgcalShown : State :=
  (((s.writeTrims trims).setFld R.vafFgcal F.vafFgcal.BUSY 0).setFld R.vafFgcal F.vafFgcal.DONE 1).setFld R.vafFgcal F.vafFgcal.RESULT r

/-- The registers at the end of a self-calibration. -/
def fgcalEndRegs : List Nat := R.vafFgcal :: (List.range 16).map R.vafVinTrim

theorem mem_fgcalEndRegs {o : Nat} : o ∈ fgcalEndRegs ↔ o = R.vafFgcal ∨ ∃ n, n < 16 ∧ R.vafVinTrim n = o := by
  simp [fgcalEndRegs]

theorem State.writeTrims_only {F : Frame} : s.Only F (s.writeTrims trims) fgcalEndRegs :=
  State.Only.foldl _ _ (State.Only.refl s _) fun v n hn =>
    (State.Only.refl v _).setReg _ (mem_fgcalEndRegs.mpr (.inr ⟨n, (mem_setBits.mp hn).1, rfl⟩))

theorem State.vaf_writeTrims : (s.writeTrims trims).vaf = s.vaf :=
  List.foldlRecOn (motive := fun v : State => v.vaf = s.vaf) _ _ rfl fun _ hv _ _ => hv

theorem State.fgcalShown_only {F : Frame} : s.Only F (s.fgcalShown trims r) fgcalEndRegs :=
  (((s.writeTrims_only trims).setFld _ _ (by simp [fgcalEndRegs])).setFld _ _ (by simp [fgcalEndRegs])).setFld _ _ (by simp [fgcalEndRegs])

theorem State.vaf_fgcalShown : (s.fgcalShown trims r).vaf = s.vaf := s.vaf_writeTrims trims

theorem State.fld_fgcalShown (h : r < 256) : (s.fgcalShown trims r).fld R.vafFgcal F.vafFgcal.BUSY = 0 ∧
    (s.fgcalShown trims r).fld R.vafFgcal F.vafFgcal.DONE = 1 ∧ (s.fgcalShown trims r).fld R.vafFgcal F.vafFgcal.RESULT = r := by
  refine ⟨?_, ?_, ?_⟩
  · rw [State.fgcalShown, State.fld_setFld_apart _ _ _ _ _ (by decide) (by decide) (by decide),
      State.fld_setFld_apart _ _ _ _ _ (by decide) (by decide) (by decide), State.fld_setFld _ _ _ _ (by decide)]
    rfl
  · rw [State.fgcalShown, State.fld_setFld_apart _ _ _ _ _ (by decide) (by decide) (by decide), State.fld_setFld _ _ _ _ (by decide)]
    rfl
  · rw [State.fgcalShown, State.fld_setFld _ _ _ _ (by decide)]
    exact Nat.mod_eq_of_lt h

end

section
variable {s : State} (hu : s.usual) (k : Fin 4) (ofs gain skew : List Int) (trims : List Word) (spreads : List Spread)

/-- The result of a self-calibration without bad slices. -/
def State.fgcalResult (s : State) (k : Nat) : Nat := if s.fld (R.bankStat k) F.bankStat.SPUR_HIGH = 1 then 0x21 else 0

theorem State.fgcalResult_lt (s : State) (k : Nat) : s.fgcalResult k < 256 := by
  rw [State.fgcalResult]
  split <;> decide

theorem bankStat_notMem_endRegs (j : Nat) (hj : j < 4) : R.bankStat j ∉ fgcalEndRegs := by
  rw [mem_fgcalEndRegs]
  simp only [R.bankStat, R.vafFgcal, R.vafVinTrim]
  omega

theorem fgcalRegs_endIgnores (k : Nat) (hk : k < 4) : endIgnores (fgcalRegs k ++ fgcalEndRegs) := endIgnores_of fun o ho => by
  rw [List.mem_append, mem_fgcalRegs, mem_fgcalEndRegs] at ho
  simp only [R.bankStat, R.bankSpur, R.bankCal, R.bankSlOfs, R.bankSlGsk, R.vafFgcal, R.vafVinTrim] at ho
  rcases ho with (h | h | h | ⟨i, hi, h⟩) | h | ⟨n, hn, h⟩ <;> omega

theorem State.fgcalEnd_good (hbusy : s.fld R.vafFgcal F.vafFgcal.BUSY = 1) (hbanks : s.fld R.vafFgcal F.vafFgcal.BANKS = 2 ^ k.val)
    (hst : s.bankState k = 2) (hin : ∀ i, i < 9 → -512 ≤ ofs.getD (9 * k + i) 0 ∧ ofs.getD (9 * k + i) 0 < 512 ∧
      -32768 ≤ gain.getD (9 * k + i) 0 ∧ gain.getD (9 * k + i) 0 < 32768 ∧ -128 ≤ skew.getD (9 * k + i) 0 ∧ skew.getD (9 * k + i) 0 < 128) :
    let d := s.fgcalDone k ofs gain skew (spreads[k.val]?.getD ⟨0, 0, 0⟩)
    s.fgcalEnd ofs gain skew [] trims spreads =
      { State.fgcalShown d trims (State.fgcalResult d k) with work := (State.fgcalShown d trims (State.fgcalResult d k)).work ++ [Work.fgDone (State.fgcalResult d k)] } := by
  intro d
  delta State.fgcalEnd
  extract_lets banks s1 s2 low r s3
  refine (if_neg (show ¬(!(s.bit R.vafFgcal F.vafFgcal.BUSY)) = true by rw [State.bit_eq_true hbusy]; decide)).trans ?_
  have hb : banks = [k.val] := by
    change (setBits _ 4).filter _ = _
    rw [hbanks, setBits_two_pow k.isLt, List.filter_cons_of_pos (by rw [hst]; rfl), List.filter_nil]
  have hs1 : s1 = d := by
    change banks.foldl _ s = d
    rw [hb]
    exact s.fgcalBank_good k ofs gain skew _ hin
  have hs2 : s2 = d.writeTrims trims := by
    rw [← hs1]
    rfl
  have hreg : s2.reg (R.bankStat k) = d.reg (R.bankStat k) := by
    rw [hs2]
    exact (d.writeTrims_only (F := Frame.vaf) trims).reg _ (bankStat_notMem_endRegs k k.isLt)
  have hr : r = d.fgcalResult k := by
    have hstate : s2.bankState k = 4 ∨ s2.bankState k = 5 := by
      rw [State.bankState_congr hreg, State.bankState_fgcalDone]
      split
      · exact .inl rfl
      · exact .inr rfl
    have hlow : low = s2.bit (R.bankStat k) F.bankStat.SPUR_HIGH := by
      change banks.any _ = _
      rw [hb]
      rcases hstate with h | h <;> simp [h]
    change (if low = true then 0x21 else 0) = _
    have hbit : s2.bit (R.bankStat k) F.bankStat.SPUR_HIGH = d.bit (R.bankStat k) F.bankStat.SPUR_HIGH := by
      rw [State.bit, State.fld, hreg, ← State.fld, ← State.bit]
    rw [hlow, hbit, State.fgcalResult]
    exact if_congr (State.bit_iff_one rfl) rfl rfl
  clear_value r s2
  subst hr hs2
  rfl

theorem doWork_fgDone {t : State} (st : Nat) (h : t.hqe.calibs = []) : t.doWork (.fgDone st) = t := by
  change t.calibUnit 0 st = t
  rw [State.calibUnit, h, List.foldl_nil]

include hu in
theorem exec_fgcalComplete_good (hbusy : s.fld R.vafFgcal F.vafFgcal.BUSY = 1) (hbanks : s.fld R.vafFgcal F.vafFgcal.BANKS = 2 ^ k.val)
    (hst : s.bankState k = 2) (hcal : s.hqe.calibs = [])
    (hin : ∀ i, i < 9 → -512 ≤ ofs.getD (9 * k + i) 0 ∧ ofs.getD (9 * k + i) 0 < 512 ∧
      -32768 ≤ gain.getD (9 * k + i) 0 ∧ gain.getD (9 * k + i) 0 < 32768 ∧ -128 ≤ skew.getD (9 * k + i) 0 ∧ skew.getD (9 * k + i) 0 < 128) :
    ∃ t, exec (.fgcalComplete ofs gain skew [] trims spreads) s = .next t ∧ t = { s with regs := t.regs, vaf := t.vaf, freeCount := t.freeCount } ∧
      t.fld R.vafFgcal F.vafFgcal.BUSY = 0 ∧ t.fld R.vafFgcal F.vafFgcal.DONE = 1 ∧
      t.bankState k = (if s.fld R.vafCtl F.vafCtl.BG_EN = 1 then 4 else 5) ∧ t.fld (R.bankCal k) F.bankCal.VALID = 1 ∧
      t.fld (R.bankCal k) F.bankCal.BAD = 0 ∧ (t.bank k).order = [0, 1, 2, 3, 4, 5, 6, 7] ∧ t.fld (R.bankStat k) F.bankStat.CAL_SLICE = 8 ∧
      (∀ i, i < 9 → t.fld (R.bankSlOfs k i) F.bankSlOfs.OFS = unsigned 10 (ofs.getD (9 * k + i) 0) ∧
        t.fld (R.bankSlGsk k i) F.bankSlGsk.GAIN = unsigned 16 (gain.getD (9 * k + i) 0) ∧
        t.fld (R.bankSlGsk k i) F.bankSlGsk.SKEW = unsigned 8 (skew.getD (9 * k + i) 0)) ∧
      t.fld R.vafFgcal F.vafFgcal.RESULT = (if t.fld (R.bankStat k) F.bankStat.SPUR_HIGH = 1 then 0x21 else 0) ∧
      (t.fld (R.bankStat k) F.bankStat.SPUR_HIGH = 1 ↔ t.fld (R.bankSpur k) F.bankSpur.EST < t.fld (R.bankSpur k) F.bankSpur.LIM) ∧
      (∀ j : Fin 4, j ≠ k → t.reg (R.bankStat j) = s.reg (R.bankStat j) ∧ t.bank j = s.bank j) := by
  have hend := State.fgcalEnd_good k ofs gain skew trims spreads hbusy hbanks hst hin
  generalize hsp : spreads[k.val]?.getD ⟨0, 0, 0⟩ = sp at hend
  have hd : s.Only Frame.vafFree (s.fgcalDone k ofs gain skew sp) (fgcalRegs k ++ fgcalEndRegs) :=
    (s.fgcalDone_only k ofs gain skew sp).mono (by simp)
  have hbank := s.bank_fgcalDone k ofs gain skew sp
  have hstate := s.bankState_fgcalDone k ofs gain skew sp
  have hcalsl := s.calSlice_fgcalDone k ofs gain skew sp
  have hvalid := s.valid_fgcalDone k ofs gain skew sp
  have hbad := s.bad_fgcalDone k ofs gain skew sp
  have horder := s.order_fgcalDone k ofs gain skew sp
  have hcorr : ∀ i, i < 9 → _ := fun i hi => s.slCorr_fgcalDone k ofs gain skew sp (i := i) hi
  have hspur := s.spurHigh_fgcalDone k ofs gain skew sp
  dsimp only at hend
  generalize s.fgcalDone k ofs gain skew sp = d at hend hd hbank hstate hcalsl hvalid hbad horder hcorr hspur
  have hshown := d.fgcalShown_only (F := Frame.vafFree) trims (d.fgcalResult k)
  have hvaf := d.vaf_fgcalShown trims (d.fgcalResult k)
  obtain ⟨hb0, hd1, hr⟩ := d.fld_fgcalShown trims _ (d.fgcalResult_lt k)
  generalize d.fgcalShown trims (d.fgcalResult k) = t at hend hshown hvaf hb0 hd1 hr
  have hall : s.Only Frame.vafFree t (fgcalRegs k ++ fgcalEndRegs) := hd.trans (hshown.mono (by simp))
  have hlist := fgcalRegs_endIgnores k k.isLt
  have hut : t.usual := State.usual_of hu hall.endsAlike hall.reg hlist
  have hwork : t.work = [] := hut.1.1
  rw [hwork, List.nil_append] at hend
  have hcal' : t.hqe.calibs = [] := by
    rw [hall.state]
    exact hcal
  have hkeep : ∀ o f, o ∉ fgcalEndRegs → t.fld o f = d.fld o f := fun o f ho => hshown.fld ho f
  have hne : ∀ o, 0x0C600 ≤ o → o ∉ fgcalEndRegs := fun o ho h => by
    rw [mem_fgcalEndRegs] at h
    simp only [R.vafFgcal, R.vafVinTrim] at h
    omega
  have hbankt : ∀ j, t.bank j = d.bank j := State.bank_of_vaf hvaf
  have hS : R.bankStat k ∉ fgcalEndRegs := bankStat_notMem_endRegs k k.isLt
  have hC : R.bankCal k ∉ fgcalEndRegs := hne _ (by simp only [R.bankCal]; omega)
  have hP : R.bankSpur k ∉ fgcalEndRegs := hne _ (by simp only [R.bankSpur]; omega)
  refine ⟨t, (congrArg State.done hend).trans (State.done_withWork hut (doWork_fgDone _ hcal')), hall.state, hb0, hd1,
    (hkeep _ _ hS).trans hstate, (hkeep _ _ hC).trans hvalid, (hkeep _ _ hC).trans hbad, (congrArg Bank.order (hbankt k)).trans horder,
    (hkeep _ _ hS).trans hcalsl, fun i hi => ?_, ?_, ?_, fun j hj => ⟨?_, ?_⟩⟩
  · have ho : R.bankSlOfs k i ∉ fgcalEndRegs := hne _ (by simp only [R.bankSlOfs]; omega)
    have hg : R.bankSlGsk k i ∉ fgcalEndRegs := hne _ (by simp only [R.bankSlGsk]; omega)
    rw [hkeep _ _ ho, hkeep _ _ hg, hkeep _ _ hg]
    have h := hcorr i hi
    exact ⟨congrArg (fun c => c.1) h, congrArg (fun c => c.2.1) h, congrArg (fun c => c.2.2) h⟩
  · rw [hr, hkeep _ _ hS, State.fgcalResult]
  · rw [hkeep _ _ hS, hkeep _ _ hP, hkeep _ _ hP]
    exact hspur
  · refine hall.reg _ ?_
    have hjk : j.val ≠ k.val := fun h => hj (Fin.ext h)
    rw [List.mem_append, mem_fgcalRegs, mem_fgcalEndRegs]
    simp only [R.bankStat, R.bankSpur, R.bankCal, R.bankSlOfs, R.bankSlGsk, R.vafFgcal, R.vafVinTrim]
    omega
  · rw [hbankt, hbank, if_neg fun h => hj (Fin.ext h)]

end

end Sys2Proof.Machine

/-!
The bank states and the background calibration (R133, R141-R146), and O19.
-/
namespace Sys2Proof.Machine

/-! ## BANKk_CAL and VAF.CTL written (Table 4-2) -/

section
variable {s : State} (hu : s.usual) (k : Fin 4) (path : Path) (w : Word)

/-- BANKk_CAL of an idle bank as written. -/
def State.calWritten (s : State) (path : Path) (k : Nat) (w : Word) : State := s.writeRow path (R.bankCal k) Row.bankCal w false

/-- Bank k at the start of FAST. -/
def State.fastStarted (s : State) (k : Nat) : State :=
  (s.setBankState k 3).setBank k { (s.setBankState k 3).bank k with fastStep := 0 }

theorem State.fastStarted_only : s.Only Frame.vafEff (s.fastStarted k) [R.bankCal k, R.bankStat k] :=
  ((State.Only.refl s _).setFld _ _ (by simp)).trans (State.setBank_onlyEff _ _ _ _)

include hu in
theorem exec_bankValidWrite_set (hacc : s.accessible path (R.bankCal k) = true) (hidle : s.bankIdle k = true) (hst : s.bankState k = 1)
    (hval : F.bankCal.VALID.get w = 1) :
    ∃ t, exec (.bankValidWrite path k w) s = .next t ∧ t = { s with regs := t.regs, eff := t.eff, vaf := t.vaf } ∧ t.bankState k = 3 ∧
      (t.bank k).fastStep = 0 ∧ t.fld (R.bankCal k) F.bankCal.VALID = 1 ∧ (∀ off, off ∉ [R.bankCal k, R.bankStat k] → t.reg off = s.reg off) := by
  have hne : R.bankStat k ≠ R.bankCal k := (bankCal_apart k).1.symm
  have hw : s.Only Frame.vafEff (s.calWritten path k w) [R.bankCal k, R.bankStat k] :=
    ((s.writeRow_sameBut path (R.bankCal k) Row.bankCal w).mono (by simp)).only fun _ _ _ => rfl
  have hvalid : (s.calWritten path k w).fld (R.bankCal k) F.bankCal.VALID = 1 := by
    rw [State.calWritten, State.fld_writeRow_of_takes _ _ _ _ (by decide) (by decide), hval]
  have hstate : (s.calWritten path k w).bankState k = 1 :=
    (State.bankState_congr ((s.writeRow_sameBut path (R.bankCal k) Row.bankCal w).2 _ (by simpa using hne)).1).trans hst
  have heq : s.bankCalWrite path k w = (s.calWritten path k w).fastStarted k := by
    rw [State.bankCalWrite, hidle]
    change (if (State.bit (s.calWritten path k w) _ _ && State.bankState (s.calWritten path k w) k == 1) = true then _ else _) = _
    rw [State.bit_eq_true hvalid, hstate]
    rfl
  have hf : s.Only Frame.vafEff ((s.calWritten path k w).fastStarted k) [R.bankCal k, R.bankStat k] := hw.trans (State.fastStarted_only k)
  have hexec : exec (.bankValidWrite path k w) s = State.done ((s.calWritten path k w).fastStarted k) :=
    congrArg State.done ((State.onWrite_of _ _ _ _ hacc).trans heq)
  have hreg : ∀ o, ((s.calWritten path k w).fastStarted k).reg o = ((s.calWritten path k w).setBankState k 3).reg o := State.reg_setBank _ _ _
  refine ⟨_, hexec.trans (hf.done hu (endIgnores_of ?_)), hf.state, ?_, ?_, ?_, hf.reg⟩
  · simp only [List.mem_cons, List.not_mem_nil, or_false, forall_eq_or_imp, forall_eq, R.bankCal, R.bankStat]
    omega
  · rw [State.bankState_congr (hreg _), State.bankState, State.setBankState, State.fld_setFld _ _ _ _ (by decide)]
    rfl
  · rw [State.fastStarted, State.bank_setBank, if_pos rfl]
  · rw [State.fld, hreg, State.setBankState, State.reg_setFld_ne _ _ _ _ _ hne.symm, ← State.fld, hvalid]

/-- VAF.CTL as written. -/
def State.ctlWritten (s : State) (path : Path) (w : Word) : State := s.writeRow path R.vafCtl Row.vafCtl w false

/-- What BG_EN does to the state of bank k. -/
def State.bgSwitched (on : Bool) (k : Nat) (t : State) : State :=
  if on && t.bankState k == 5 then t.setBankState k 4
  else if !on && t.bankState k == 4 then (t.dropStep k).setBankState k 5
  else t

theorem State.dropStep_only (s : State) (k : Nat) : s.Only Frame.vaf (s.dropStep k) [R.bankStat k] :=
  (((State.Only.refl s _).setFld _ _ (by simp)).setFld _ _ (by simp)).trans (State.setBank_only _ _ _ _)

theorem State.bgSwitched_only (on : Bool) (k : Nat) (t : State) : t.Only Frame.vaf (t.bgSwitched on k) [R.bankStat k] := by
  rw [State.bgSwitched]
  split
  · exact (State.Only.refl t _).setFld _ _ (by simp)
  · split
    · exact (t.dropStep_only k).setFld _ _ (by simp)
    · exact State.Only.refl t _

theorem State.bankState_setBankState (s : State) (k st : Nat) (h : st < 8) : (s.setBankState k st).bankState k = st := by
  rw [State.bankState, State.setBankState, State.fld_setFld _ _ _ _ (by decide)]
  exact Nat.mod_eq_of_lt h

theorem State.bankState_bgSwitched (on : Bool) (k : Nat) (t : State) : (t.bgSwitched on k).bankState k =
    if on && t.bankState k == 5 then 4 else if !on && t.bankState k == 4 then 5 else t.bankState k := by
  rw [State.bgSwitched]
  split
  · exact State.bankState_setBankState _ _ _ (by decide)
  · split
    · exact State.bankState_setBankState _ _ _ (by decide)
    · rfl

theorem State.bankState_bgSwitched_ne (on : Bool) {j k : Nat} (t : State) (h : j ≠ k) : (t.bgSwitched on k).bankState j = t.bankState j :=
  State.bankState_congr ((t.bgSwitched_only on k).reg _ (by simp only [List.mem_singleton, R.bankStat]; omega))

theorem State.bgEnWrite_eq : s.bgEnWrite path w =
    (s.ctlWritten path w).forEach 4 (State.bgSwitched ((s.ctlWritten path w).bit R.vafCtl F.vafCtl.BG_EN)) := rfl

/-- The registers that a write of VAF.CTL changes. -/
def bgRegs : List Nat := R.vafCtl :: (List.range 4).map R.bankStat

theorem mem_bgRegs {o : Nat} : o ∈ bgRegs ↔ o = R.vafCtl ∨ ∃ j, j < 4 ∧ R.bankStat j = o := by simp [bgRegs]

include hu in
theorem exec_bgEnWrite_switch (hacc : s.accessible path R.vafCtl = true) :
    ∃ t, exec (.bgEnWrite path w) s = .next t ∧ t = { s with regs := t.regs, eff := t.eff, vaf := t.vaf } ∧
      t.fld R.vafCtl F.vafCtl.BG_EN = F.vafCtl.BG_EN.get w ∧
      t.bankState k = (if F.vafCtl.BG_EN.get w = 1 ∧ s.bankState k = 5 then 4
        else if F.vafCtl.BG_EN.get w = 0 ∧ s.bankState k = 4 then 5 else s.bankState k) ∧
      (∀ off, off ≠ R.vafCtl → (∀ j, j < 4 → off ≠ R.bankStat j) → t.reg off = s.reg off) := by
  have hsame := s.writeRow_sameBut path R.vafCtl Row.vafCtl w
  have hw : s.Only Frame.vafEff (s.ctlWritten path w) bgRegs := (hsame.mono (by simp [bgRegs])).only fun _ _ _ => rfl
  have hen : (s.ctlWritten path w).fld R.vafCtl F.vafCtl.BG_EN = F.vafCtl.BG_EN.get w :=
    State.fld_writeRow_of_takes _ _ _ _ (by decide) (by decide)
  have hbank : (s.ctlWritten path w).bankState k = s.bankState k :=
    State.bankState_congr (hsame.2 _ (by simp only [List.mem_singleton, R.bankStat, R.vafCtl]; omega)).1
  have heq := s.bgEnWrite_eq path w
  generalize hon : (s.ctlWritten path w).bit R.vafCtl F.vafCtl.BG_EN = on at heq
  have hloop : (s.ctlWritten path w).Only Frame.vaf ((s.ctlWritten path w).forEach 4 (State.bgSwitched on)) ((List.range 4).map R.bankStat) :=
    State.Only.foldl _ _ (State.Only.refl _ _) fun t j hj => (t.bgSwitched_only on j).mono (by simpa using ⟨j, List.mem_range.mp hj, rfl⟩)
  have hview := State.forEach_view (view := fun j t => t.bankState j) (f := State.bgSwitched on)
    (g := fun _ x => if on && x == 5 then 4 else if !on && x == 4 then 5 else x)
    (fun t i j hne => t.bankState_bgSwitched_ne on hne) (fun t i => t.bankState_bgSwitched on i) 4 (s.ctlWritten path w) k
  rw [← heq] at hloop hview
  have hf : s.Only Frame.vafEff (s.bgEnWrite path w) bgRegs := hw.trans ((hloop.mono (by simp [bgRegs])).widen fun _ _ => rfl)
  have hexec : exec (.bgEnWrite path w) s = State.done (s.bgEnWrite path w) := congrArg State.done (State.onWrite_of _ _ _ _ hacc)
  have hlist : endIgnores bgRegs := endIgnores_of fun o ho => by
    rw [mem_bgRegs] at ho
    simp only [R.vafCtl, R.bankStat] at ho
    rcases ho with h | ⟨j, hj, h⟩ <;> omega
  refine ⟨_, hexec.trans (hf.done hu hlist), hf.state, ?_, ?_, fun off hc hb => hf.reg _ ?_⟩
  · rw [hloop.fld (by simp [R.vafCtl, R.bankStat]; omega), hen]
  · refine hview.trans ((if_pos k.isLt).trans ?_)
    rw [hbank, ← hon]
    have hbit : (s.ctlWritten path w).bit R.vafCtl F.vafCtl.BG_EN = true ↔ F.vafCtl.BG_EN.get w = 1 := by
      rw [State.bit_iff_one rfl, hen]
    have hlt : F.vafCtl.BG_EN.get w < 2 := BitVec.isLt _
    have hnot : (!(s.ctlWritten path w).bit R.vafCtl F.vafCtl.BG_EN) = true ↔ F.vafCtl.BG_EN.get w = 0 := by
      rw [Bool.not_eq_true', ← Bool.not_eq_true, hbit]
      omega
    simp only [Bool.and_eq_true, beq_iff_eq, hbit, hnot]
  · rw [mem_bgRegs]
    rintro (h | ⟨j, hj, h⟩)
    · exact hc h
    · exact hb j hj h.symm

end

/-! ## The background calibration -/

/-- The frame of the banks. -/
def Frame.banks : Frame :=
  ⟨fun s t => { s with regs := t.regs, vaf := { s.vaf with banks := t.vaf.banks } }, fun _ => rfl, fun _ _ _ => rfl, fun _ _ _ => rfl,
    fun _ _ _ => rfl, fun _ _ => State.endsAlike_of rfl⟩

/-- The frame of the banks with the free values taken. -/
def Frame.banksFree : Frame :=
  ⟨fun s t => { s with regs := t.regs, vaf := { s.vaf with banks := t.vaf.banks }, freeCount := t.freeCount }, fun _ => rfl,
    fun _ _ _ => rfl, fun _ _ _ => rfl, fun _ _ _ => rfl, fun _ _ => ⟨rfl, rfl, rfl, rfl, rfl, rfl, rfl⟩⟩

theorem State.setBank_onlyBanks (s : State) (k : Nat) (x : Bank) (l : List Nat) : s.Only Frame.banks (s.setBank k x) l := ⟨rfl, fun _ _ => rfl⟩

theorem bankStat_endIgnores {k : Nat} (hk : k < 4) : endIgnores [R.bankStat k] := endIgnores_of (by
  simp only [List.mem_singleton, forall_eq, R.bankStat]
  omega)

section
variable {s : State} (hu : s.usual) (k : Fin 4)

/-- Bank k after a step of the background calibration outside FAST. -/
def Bank.stepped (b : Bank) (sl : Nat) (corr : Nat × Nat × Nat) : Bank := { b with
  calCount := b.calCount + 1, calNo := Table.set (fun _ => 0) b.calNo sl (b.calCount + 1), newCorr := corr
  pairs := [], passed := false, forced := false, partner := none, markExit := false }

theorem Bank.stepped_spec (b : Bank) (sl : Nat) (corr : Nat × Nat × Nat) :
    (b.stepped sl corr).newCorr = corr ∧ (b.stepped sl corr).pairs = [] ∧ (b.stepped sl corr).passed = false := by
  rw [Bank.stepped]
  exact ⟨rfl, rfl, rfl⟩

/-- The ready slice shown with its exit slice. -/
def State.readyShown (s : State) (k exit : Nat) : State := (s.setFld (R.bankStat k) F.bankStat.READY 1).setFld (R.bankStat k) F.bankStat.EXIT_SLICE exit

theorem State.bgcalStep_eq (ofs gain skew : Int) (hst : s.bankState k = 4) (hready : s.fld (R.bankStat k) F.bankStat.READY = 0)
    (hsl : s.fld (R.bankStat k) F.bankStat.CAL_SLICE ≤ 8) :
    s.bgcalStep k ofs gain skew = (s.readyShown k ((s.oldestSlice k []).getD 15)).setBank k
      ((s.bank k).stepped (s.fld (R.bankStat k) F.bankStat.CAL_SLICE) (corrFields ofs gain skew)) := by
  delta State.bgcalStep
  extract_lets st b sl exit corr s1 s2 s3 s4
  have hst' : st = 4 := hst
  refine (if_neg ?_).trans ((if_neg (show ¬st = 3 by rw [hst']; decide)).trans ?_)
  · rw [hst', State.bit_eq_false hready, decide_eq_false (Nat.not_lt.mpr hsl)]
    decide
  · have hfast : (if st = 3 then b.fastStep + 1 else b.fastStep) = b.fastStep := if_neg (by rw [hst']; decide)
    change s1.setBank k { b with
      calCount := _, calNo := _, fastStep := (if st = 3 then b.fastStep + 1 else b.fastStep), newCorr := _
      pairs := _, passed := _, forced := _, partner := _, markExit := _ } = _
    rw [hfast]
    rfl

include hu in
theorem exec_bgcalStepComplete_ready (ofs gain skew : Int) (hst : s.bankState k = 4) (hready : s.fld (R.bankStat k) F.bankStat.READY = 0)
    (hsl : s.fld (R.bankStat k) F.bankStat.CAL_SLICE ≤ 8) :
    ∃ t, exec (.bgcalStepComplete k ofs gain skew) s = .next t ∧ t = { s with regs := t.regs, vaf := { s.vaf with banks := t.vaf.banks } } ∧
      t.fld (R.bankStat k) F.bankStat.READY = 1 ∧ t.fld (R.bankStat k) F.bankStat.EXIT_SLICE = ((s.oldestSlice k []).getD 15) % 16 ∧
      (t.bank k).newCorr = (unsigned 10 ofs, unsigned 16 gain, unsigned 8 skew) ∧ (t.bank k).pairs = [] ∧ (t.bank k).passed = false ∧
      (∀ off, off ≠ R.bankStat k → t.reg off = s.reg off) ∧ (∀ j, j ≠ k.val → t.bank j = s.bank j) := by
  have heq := s.bgcalStep_eq k ofs gain skew hst hready hsl
  generalize (s.oldestSlice k []).getD 15 = exit at heq ⊢
  generalize hb : (s.bank k).stepped (s.fld (R.bankStat k) F.bankStat.CAL_SLICE) (corrFields ofs gain skew) = b at heq
  obtain ⟨hcorr, hpairs, hpassed⟩ := (s.bank k).stepped_spec (s.fld (R.bankStat k) F.bankStat.CAL_SLICE) (corrFields ofs gain skew)
  rw [hb] at hcorr hpairs hpassed
  have hf : s.Only Frame.banks ((s.readyShown k exit).setBank k b) [R.bankStat k] :=
    (((State.Only.refl s _).setFld _ _ (by simp)).setFld _ _ (by simp)).trans (State.setBank_onlyBanks _ _ _ _)
  have hexec : exec (.bgcalStepComplete k ofs gain skew) s = State.done ((s.readyShown k exit).setBank k b) := congrArg State.done heq
  have hbank : ∀ j, ((s.readyShown k exit).setBank k b).bank j = if j = k.val then b else s.bank j := fun j => by
    rw [State.bank_setBank, State.readyShown, State.bank_setFld, State.bank_setFld]
  have hk := (hbank k).trans (if_pos rfl)
  refine ⟨_, hexec.trans (hf.done hu (bankStat_endIgnores k.isLt)), hf.state, ?_, ?_, ?_, ?_, ?_, fun off ho => hf.reg _ (by simpa using ho),
    fun j hj => (hbank j).trans (if_neg hj)⟩
  · rw [State.fld, State.reg_setBank, ← State.fld, State.readyShown, State.fld_setFld_apart _ _ _ _ _ (by decide) (by decide) (by decide),
      State.fld_setFld _ _ _ _ (by decide)]
    rfl
  · rw [State.fld, State.reg_setBank, ← State.fld, State.readyShown, State.fld_setFld _ _ _ _ (by decide)]
    rfl
  · rw [hk, hcorr, corrFields]
  · rw [hk, hpairs]
  · rw [hk, hpassed]

end

/-! ## Handovers (R143-R145) -/

section
variable {s : State} (hu : s.usual) (k : Fin 4)

/-- The bank's slices after a handover of slice `sl` for slice `ex`, with its corrections. -/
def State.handed (s : State) (k sl ex : Nat) (order : List Nat) : State :=
  ((((s.writeSlice k sl (s.bank k).newCorr).setFld (R.bankStat k) F.bankStat.CAL_SLICE ex).setFld (R.bankStat k) F.bankStat.ACTIVE
    (planeMask order)).setFld (R.bankStat k) F.bankStat.EXIT_SLICE 15).setFld (R.bankStat k) F.bankStat.READY 0

/-- Bank k after a handover. -/
def Bank.handed (b : Bank) (order : List Nat) : Bank := { b with
  order := order, pairs := [], fails := 0, passed := false, forced := false, markExit := false, partner := none, swapped := [] }

theorem Bank.handed_order (b : Bank) (order : List Nat) : (b.handed order).order = order := by rw [Bank.handed]

/-- The active set with slice `sl` in the place of `ex`. -/
def handedOrder (order : List Nat) (sl ex : Nat) : List Nat := order.map (fun x => if x = ex then sl else x)

/-- The state at a handover before the spur estimate. -/
def State.handedOver (s : State) (k : Nat) : State :=
  let sl := s.fld (R.bankStat k) F.bankStat.CAL_SLICE
  let ex := s.fld (R.bankStat k) F.bankStat.EXIT_SLICE
  ((s.handed k sl ex (handedOrder (s.bank k).order sl ex)).count (R.bankSwapCnt k)).setBank k
    ((s.bank k).handed (handedOrder (s.bank k).order sl ex))

theorem State.handover_eq (sp : Spread) (hok : s.handoverOk k = true) (hmark : (s.bank k).markExit = false) (hbusy : s.bankBusy k = false) :
    s.handover k sp = (s.handedOver k).spurEstimate k sp := by
  delta State.handover
  extract_lets b sl exit order s1 s2 s3 s4 cut s5
  refine (if_neg (show ¬(!(s.handoverOk k)) = true by rw [hok]; decide)).trans ?_
  have hcut : cut = [] := if_neg (by rw [hbusy]; decide)
  have hmark' : (if b.markExit then s5.markBad k exit else s5) = s5 := if_neg (by rw [show b.markExit = false from hmark]; decide)
  rw [hmark']
  clear_value cut
  subst hcut
  rfl

/-- The registers of a handover. -/
def handRegs (k sl : Nat) : List Nat := [R.bankStat k, R.bankSwapCnt k, R.bankSpur k, R.bankSlOfs k sl, R.bankSlGsk k sl]

theorem State.handed_only {F : Frame} (k sl ex : Nat) (order : List Nat) : s.Only F (s.handed k sl ex order) (handRegs k sl) :=
  (((((s.writeSlice_only k sl _).mono (by simp [handRegs])).setFld _ _ (by simp [handRegs])).setFld _ _ (by simp [handRegs])).setFld _ _
    (by simp [handRegs])).setFld _ _ (by simp [handRegs])

theorem State.handedOver_only (k : Nat) :
    s.Only Frame.banks (s.handedOver k) (handRegs k (s.fld (R.bankStat k) F.bankStat.CAL_SLICE)) :=
  ((s.handed_only k _ _ _).count (by simp [handRegs])).trans (State.setBank_onlyBanks _ _ _ _)

theorem State.reg_handedOver (k o : Nat) (h : o ≠ R.bankSwapCnt k) : (s.handedOver k).reg o =
    (s.handed k (s.fld (R.bankStat k) F.bankStat.CAL_SLICE) (s.fld (R.bankStat k) F.bankStat.EXIT_SLICE) (handedOrder (s.bank k).order
      (s.fld (R.bankStat k) F.bankStat.CAL_SLICE) (s.fld (R.bankStat k) F.bankStat.EXIT_SLICE))).reg o := by
  rw [State.handedOver, State.reg_setBank, State.count, State.reg_setReg_ne _ _ _ _ h]

theorem State.fld_handedOver_stat (k : Nat) : (s.handedOver k).fld (R.bankStat k) F.bankStat.CAL_SLICE = s.fld (R.bankStat k) F.bankStat.EXIT_SLICE ∧
    (s.handedOver k).fld (R.bankStat k) F.bankStat.READY = 0 ∧ (s.handedOver k).fld (R.bankStat k) F.bankStat.EXIT_SLICE = 15 := by
  have hne : R.bankStat k ≠ R.bankSwapCnt k := by simp only [R.bankStat, R.bankSwapCnt]; omega
  have hlt : s.fld (R.bankStat k) F.bankStat.EXIT_SLICE < 2 ^ 4 := BitVec.isLt _
  refine ⟨?_, ?_, ?_⟩
  · rw [State.fld, State.reg_handedOver _ _ hne, ← State.fld, State.handed, State.fld_setFld_apart _ _ _ _ _ (by decide) (by decide) (by decide),
      State.fld_setFld_apart _ _ _ _ _ (by decide) (by decide) (by decide), State.fld_setFld_apart _ _ _ _ _ (by decide) (by decide) (by decide),
      State.fld_setFld _ _ _ _ (by decide)]
    exact Nat.mod_eq_of_lt hlt
  · rw [State.fld, State.reg_handedOver _ _ hne, ← State.fld, State.handed, State.fld_setFld _ _ _ _ (by decide)]
    rfl
  · rw [State.fld, State.reg_handedOver _ _ hne, ← State.fld, State.handed, State.fld_setFld_apart _ _ _ _ _ (by decide) (by decide) (by decide),
      State.fld_setFld _ _ _ _ (by decide)]
    rfl

/-- A slice's registers are apart from the bank's own. -/
theorem slice_apart (k i : Nat) (h : i ≤ 8) : R.bankSlOfs k i ≠ R.bankStat k ∧ R.bankSlOfs k i ≠ R.bankSpur k ∧ R.bankSlOfs k i ≠ R.bankSwapCnt k ∧
    R.bankSlGsk k i ≠ R.bankStat k ∧ R.bankSlGsk k i ≠ R.bankSpur k ∧ R.bankSlGsk k i ≠ R.bankSwapCnt k := by
  simp only [R.bankSlOfs, R.bankSlGsk, R.bankStat, R.bankSpur, R.bankSwapCnt]
  omega

theorem State.slCorr_handedOver (k : Nat) (hsl : s.fld (R.bankStat k) F.bankStat.CAL_SLICE ≤ 8) (h1 : (s.bank k).newCorr.1 < 1024)
    (h2 : (s.bank k).newCorr.2.1 < 65536) (h3 : (s.bank k).newCorr.2.2 < 256) :
    (s.handedOver k).slCorr k (s.fld (R.bankStat k) F.bankStat.CAL_SLICE) = (s.bank k).newCorr := by
  obtain ⟨ho, -, hos, hg, -, hgs⟩ := slice_apart k _ hsl
  rw [← State.slCorr_writeSlice s k (s.fld (R.bankStat k) F.bankStat.CAL_SLICE) _ h1 h2 h3]
  refine State.slCorr_of_regs ?_ ?_
  · rw [State.reg_handedOver _ _ hos, State.handed, State.reg_setFld_ne _ _ _ _ _ ho, State.reg_setFld_ne _ _ _ _ _ ho,
      State.reg_setFld_ne _ _ _ _ _ ho, State.reg_setFld_ne _ _ _ _ _ ho]
  · rw [State.reg_handedOver _ _ hgs, State.handed, State.reg_setFld_ne _ _ _ _ _ hg, State.reg_setFld_ne _ _ _ _ _ hg,
      State.reg_setFld_ne _ _ _ _ _ hg, State.reg_setFld_ne _ _ _ _ _ hg]

theorem State.swapCnt_handedOver (k : Nat) (hsl : s.fld (R.bankStat k) F.bankStat.CAL_SLICE ≤ 8) :
    (s.handedOver k).reg (R.bankSwapCnt k) = satInc (s.reg (R.bankSwapCnt k)) := by
  obtain ⟨-, -, ho, -, -, hg⟩ := slice_apart k _ hsl
  have hne : R.bankSwapCnt k ≠ R.bankStat k := by simp only [R.bankStat, R.bankSwapCnt]; omega
  rw [State.handedOver, State.reg_setBank, State.count, State.reg_setReg_same, State.handed, State.reg_setFld_ne _ _ _ _ _ hne,
    State.reg_setFld_ne _ _ _ _ _ hne, State.reg_setFld_ne _ _ _ _ _ hne, State.reg_setFld_ne _ _ _ _ _ hne, State.writeSlice,
    State.reg_setFld_ne _ _ _ _ _ hg.symm, State.reg_setFld_ne _ _ _ _ _ hg.symm, State.reg_setFld_ne _ _ _ _ _ ho.symm]

include hu in
theorem exec_sliceHandover_done (sp : Spread) (hok : s.handoverOk k = true) (hsl : s.fld (R.bankStat k) F.bankStat.CAL_SLICE ≤ 8)
    (hmark : (s.bank k).markExit = false) (hbusy : s.bankBusy k = false)
    (h1 : (s.bank k).newCorr.1 < 1024) (h2 : (s.bank k).newCorr.2.1 < 65536) (h3 : (s.bank k).newCorr.2.2 < 256) :
    let sl := s.fld (R.bankStat k) F.bankStat.CAL_SLICE
    let ex := s.fld (R.bankStat k) F.bankStat.EXIT_SLICE
    ∃ t, exec (.sliceHandover k sp) s = .next t ∧ t = { s with regs := t.regs, vaf := { s.vaf with banks := t.vaf.banks }, freeCount := t.freeCount } ∧
      (t.bank k).order = (s.bank k).order.map (fun x => if x = ex then sl else x) ∧ t.fld (R.bankStat k) F.bankStat.CAL_SLICE = ex ∧
      t.fld (R.bankStat k) F.bankStat.READY = 0 ∧ t.fld (R.bankStat k) F.bankStat.EXIT_SLICE = 15 ∧
      t.reg (R.bankSwapCnt k) = satInc (s.reg (R.bankSwapCnt k)) ∧ t.fld (R.bankSlOfs k sl) F.bankSlOfs.OFS = (s.bank k).newCorr.1 ∧
      t.fld (R.bankSlGsk k sl) F.bankSlGsk.GAIN = (s.bank k).newCorr.2.1 ∧ t.fld (R.bankSlGsk k sl) F.bankSlGsk.SKEW = (s.bank k).newCorr.2.2 ∧
      (∀ off, off ∉ [R.bankStat k, R.bankSwapCnt k, R.bankSpur k, R.bankSlOfs k sl, R.bankSlGsk k sl] → t.reg off = s.reg off) := by
  intro sl ex
  have hover := State.handedOver_only (s := s) k.val
  have hbank : (s.handedOver k).bank k = (s.bank k).handed (handedOrder (s.bank k).order sl ex) := by
    rw [State.handedOver, State.bank_setBank, if_pos rfl]
  obtain ⟨hcal, hrdy, hex⟩ := State.fld_handedOver_stat (s := s) k.val
  have hcorr := State.slCorr_handedOver (s := s) k.val hsl h1 h2 h3
  have hswap := State.swapCnt_handedOver (s := s) k.val hsl
  have hexec : exec (.sliceHandover k sp) s = State.done ((s.handedOver k).spurEstimate k sp) :=
    congrArg State.done (s.handover_eq k sp hok hmark hbusy)
  generalize s.handedOver k = m at hover hbank hcal hrdy hex hcorr hswap hexec
  have hest := m.spurEstimate_only (F := Frame.banksFree) k.val sp fun _ _ => rfl
  have hf : s.Only Frame.banksFree (m.spurEstimate k sp) (handRegs k sl) :=
    (hover.widen fun _ _ => rfl).trans (hest.mono (by simp [handRegs]))
  obtain ⟨ho1, ho2, -, hg1, hg2, -⟩ := slice_apart k _ hsl
  have hsc : (m.spurEstimate k sp).slCorr k sl = (s.bank k).newCorr :=
    (State.slCorr_of_regs (hest.reg _ (by simpa using ⟨ho1, ho2⟩)) (hest.reg _ (by simpa using ⟨hg1, hg2⟩))).trans hcorr
  refine ⟨_, hexec.trans (hf.done hu (endIgnores_of ?_)), hf.state, ?_, ?_, ?_, ?_, ?_, congrArg (fun c => c.1) hsc,
    congrArg (fun c => c.2.1) hsc, congrArg (fun c => c.2.2) hsc, hf.reg⟩
  · simp only [handRegs, List.mem_cons, List.not_mem_nil, or_false, forall_eq_or_imp, forall_eq, R.bankStat, R.bankSwapCnt, R.bankSpur,
      R.bankSlOfs, R.bankSlGsk]
    omega
  · rw [State.bank_of_vaf (m.vaf_spurEstimate k sp), hbank, Bank.handed_order, handedOrder]
  · rw [m.fld_spurEstimate _ _ (by decide) (by decide), hcal]
  · rw [m.fld_spurEstimate _ _ (by decide) (by decide), hrdy]
  · rw [m.fld_spurEstimate _ _ (by decide) (by decide), hex]
  · rw [hest.reg _ (by simp only [List.mem_cons, List.not_mem_nil, or_false, R.bankStat, R.bankSpur, R.bankSwapCnt]; omega), hswap]

include hu in
theorem exec_handoverWaitExpiry_passed (hready : s.fld (R.bankStat k) F.bankStat.READY = 1) (hpass : (s.bank k).passed = true) :
    ∃ t, exec (.handoverWaitExpiry k) s = .next t ∧ t = { s with vaf := { s.vaf with banks := t.vaf.banks } } ∧
      t.bank k = { s.bank k with forced := true } ∧ (∀ j, j ≠ k.val → t.bank j = s.bank j) := by
  have heq : s.handoverWait k = s.setBank k { s.bank k with forced := true } := by
    rw [State.handoverWait, State.bit_eq_true hready]
    exact (if_neg (by decide)).trans (if_pos hpass)
  have hf : s.Only Frame.banks (s.setBank k { s.bank k with forced := true }) [] := State.setBank_onlyBanks _ _ _ _
  have hexec : exec (.handoverWaitExpiry k) s = State.done (s.setBank k { s.bank k with forced := true }) := congrArg State.done heq
  exact ⟨_, hexec.trans (hf.done hu (endIgnores_of (by simp))), rfl, (State.bank_setBank _ _ _ _).trans (if_pos rfl),
    fun j hj => (State.bank_setBank _ _ _ _).trans (if_neg hj)⟩

include hu in
theorem exec_handoverWaitExpiry_unverified (hready : s.fld (R.bankStat k) F.bankStat.READY = 1) (hpass : (s.bank k).passed = false)
    (hpairs : (s.bank k).pairs.length < 64) (hprog : s.bankPrograms k ≠ []) :
    ∃ t, exec (.handoverWaitExpiry k) s = .next t ∧ t = { s with regs := t.regs, vaf := { s.vaf with banks := t.vaf.banks } } ∧
      t.bank k = { s.bank k with passed := true, forced := true } ∧ t.reg (R.bankUnverCnt k) = satInc (s.reg (R.bankUnverCnt k)) ∧
      (∀ off, off ≠ R.bankUnverCnt k → t.reg off = s.reg off) := by
  have heq : s.handoverWait k = (s.setBank k { s.bank k with passed := true, forced := true }).count (R.bankUnverCnt k) := by
    rw [State.handoverWait, State.bit_eq_true hready]
    refine (if_neg (by decide)).trans ((if_neg (by rw [hpass]; decide)).trans (if_pos ⟨hpairs, ?_⟩))
    simpa [List.isEmpty_iff] using hprog
  have hf : s.Only Frame.banks ((s.setBank k { s.bank k with passed := true, forced := true }).count (R.bankUnverCnt k)) [R.bankUnverCnt k] :=
    (State.setBank_onlyBanks _ _ _ _).count (by simp)
  have hexec : exec (.handoverWaitExpiry k) s = State.done _ := congrArg State.done heq
  refine ⟨_, hexec.trans (hf.done hu (endIgnores_of ?_)), hf.state, ?_, ?_, fun off ho => hf.reg _ (by simpa using ho)⟩
  · simp only [List.mem_singleton, forall_eq, R.bankUnverCnt]
    omega
  · exact (State.bank_setBank s k _ k).trans (if_pos rfl)
  · rw [State.count, State.reg_setReg_same, State.reg_setBank]

end

/-- Settles O19: the states of the banks, their self-calibration and background calibration. -/
theorem bankCalibration : Obligations.BankCalibration := by
  unfold Obligations.BankCalibration
  intro s k hu
  exact ⟨fun path w hacc => exec_fgcalStart_started hu k path w hacc, fun path w hacc => exec_fgcalStart_refused hu path w hacc,
    fun ofs gain skew trims spreads => exec_fgcalComplete_good hu k ofs gain skew trims spreads,
    fun path w => exec_bankValidWrite_set hu k path w, fun path w => exec_bgEnWrite_switch hu k path w,
    exec_bgcalStepComplete_ready hu k, exec_sliceHandover_done hu k,
    fun hready => ⟨exec_handoverWaitExpiry_passed hu k hready, exec_handoverWaitExpiry_unverified hu k hready⟩⟩

end Sys2Proof.Machine

/-!
Claims of buffer partitions, and claims that are denied (R49-R55).
-/
namespace Sys2Proof.Machine

/-! ## Claims denied -/

/-- The frame of what is held back and of the asynchronous events. -/
def Frame.async : Frame :=
  ⟨fun s t => { s with regs := t.regs, eff := t.eff, asyncQ := t.asyncQ }, fun _ => rfl, fun _ _ _ => rfl, fun _ _ _ => rfl,
    fun _ _ _ => rfl, fun _ _ => State.endsAlike_of rfl⟩

/-- The registers of a claim that is denied. -/
def deniedRegs : List Nat := [R.sysErrStat, R.sysErrAddr, R.sysClaimErrCnt, R.sysClaimErr, R.hqeStat]

section
variable (s : State) (r : Res) (who : Nat) (path : Path) (off : Nat)

theorem State.queueAsync_only (k d x : Nat) : s.Only Frame.async (s.queueAsync k d x) [R.hqeStat] := by
  by_cases h : s.asyncQ.length < 64
  · rw [s.queueAsync_room k d x h]
    exact ⟨rfl, State.regsBut_of_regs _ rfl⟩
  · rw [s.queueAsync_full k d x h]
    exact (State.Only.refl s _).setFld _ _ (by simp)

theorem State.conflict_only (holder : Nat) (record : Bool) : s.Only Frame.async (s.conflict r holder who record) deniedRegs := by
  have hcount : s.Only Frame.async (s.count R.sysClaimErrCnt) deniedRegs := (State.Only.refl s _).count (by simp [deniedRegs])
  rw [State.conflict]
  dsimp only
  split
  · exact (hcount.setReg _ (by simp [deniedRegs])).trans ((State.queueAsync_only _ _ _ _).mono (by simp [deniedRegs]))
  · exact hcount

theorem State.reg_conflict_count (holder : Nat) (record : Bool) :
    (s.conflict r holder who record).reg R.sysClaimErrCnt = satInc (s.reg R.sysClaimErrCnt) := by
  have hcount : (s.count R.sysClaimErrCnt).reg R.sysClaimErrCnt = satInc (s.reg R.sysClaimErrCnt) := State.reg_setReg_same _ _ _
  rw [State.conflict]
  dsimp only
  split
  · rw [(State.queueAsync_only _ _ _ _).reg _ (by decide), State.reg_setReg_ne _ _ _ _ (by decide), hcount]
  · exact hcount

/-- A claim by `who` of what another holds, denied and reported. -/
def State.claimDenied (s : State) (r : Res) (who : Nat) (path : Path) (off : Nat) : State :=
  (s.conflict r (s.owner r) who true).errClaim path off

theorem State.claimDenied_only : s.Only Frame.async (s.claimDenied r who path off) deniedRegs :=
  (s.conflict_only r who _ _).trans (((State.err_sameBut _ _ _ _).mono (by simp [deniedRegs])).only fun _ _ _ => rfl)

theorem State.fld_claimDenied : (s.claimDenied r who path off).fld R.sysErrStat F.sysErrStat.CLAIM = 1 := State.fld_err_same _ _ _ _ (by decide) rfl

theorem State.reg_claimDenied_count : (s.claimDenied r who path off).reg R.sysClaimErrCnt = satInc (s.reg R.sysClaimErrCnt) := by
  rw [State.claimDenied, State.errClaim, ((State.err_sameBut _ _ _ _).2 _ (by decide)).1, State.reg_conflict_count]

end

/-! ## Partitions -/

section
variable (s : State) (n who : Nat)

/-- A claim of a free, valid partition that clashes with none is granted. -/
theorem State.claim_partition (hfree : s.owner (.partition n) = 0) (hvalid : s.partInvalid n = false) (hclash : s.partClash n = none)
    (hw : who ≠ 0) : s.claim (.partition n) who = (s.setOwner (.partition n) who, .ok) := by
  rw [State.claim, hfree, hvalid, hclash]
  exact (if_neg hw.symm).trans rfl

theorem State.setOwner_partition_only {F : Frame} : s.Only F (s.setOwner (.partition n) who) [R.sysAbpCfg n] :=
  (State.Only.refl s _).setFld _ _ (by simp)

theorem State.reg_setOwner_partition {o : Nat} (h : o ≠ R.sysAbpCfg n) : (s.setOwner (.partition n) who).reg o = s.reg o :=
  State.reg_setFld_ne _ _ _ _ _ h

theorem State.owner_setOwner_partition (h : who < 256) : (s.setOwner (.partition n) who).owner (.partition n) = who := by
  rw [State.owner, State.setOwner, State.fld_setFld _ _ _ _ (by decide)]
  exact Nat.mod_eq_of_lt h

end

theorem State.owner_congr {s t : State} {n : Nat} (h : t.reg (R.sysAbpCfg n) = s.reg (R.sysAbpCfg n)) :
    t.owner (.partition n) = s.owner (.partition n) := congrArg F.sysAbpCfg.OWNER.get h

/-- What a read of the registers' fields alone decides follows from the registers. -/
theorem State.fld_congr {s t : State} (h : t.reg = s.reg) : t.fld = s.fld := by
  funext off f
  rw [State.fld, h, State.fld]

theorem State.bit_congr {s t : State} (h : t.reg = s.reg) : t.bit = s.bit := by
  funext off f
  rw [State.bit, State.fld_congr h, State.bit]

section
variable {s t : State} {n : Nat} (h : t.reg (R.sysAbpCfg n) = s.reg (R.sysAbpCfg n))
include h

theorem State.abpFld_congr (f : Fld) : t.fld (R.sysAbpCfg n) f = s.fld (R.sysAbpCfg n) f := congrArg f.get h

theorem State.abpBit_congr (f : Fld) : t.bit (R.sysAbpCfg n) f = s.bit (R.sysAbpCfg n) f := congrArg (· != 0) (State.abpFld_congr h f)

theorem State.partSpan_congr : t.partSpan n = s.partSpan n := by
  rw [State.partSpan, State.abpBit_congr h, State.abpFld_congr h, State.abpFld_congr h, State.partSpan]

theorem State.partInvalid_congr : t.partInvalid n = s.partInvalid n := by
  rw [State.partInvalid, State.abpBit_congr h, State.abpFld_congr h, State.partSpan_congr h, State.partInvalid]

theorem State.partClash_congr (hall : ∀ m, m < 16 → t.reg (R.sysAbpCfg m) = s.reg (R.sysAbpCfg m)) : t.partClash n = s.partClash n :=
  List.find?_congr fun m hm => by
    have hreg := hall m (List.mem_range.mp hm)
    rw [State.partSpan_congr h, State.partSpan_congr hreg, State.owner_congr hreg]

end

/-! ## Writes that keep the Idle only fields -/

section
variable (s : State) (path : Path) (off : Nat) (row : RegRow) (w : Word) (busy : Bool)

/-- A write by a block that may be busy, of a word that keeps the Idle only fields. -/
def State.writeKept : State := s.writeRow path off (if busy then row.nowOnly else row) w false

theorem State.writeRow_kept (h : (s.reg off ^^^ w) &&& BitVec.ofNat 32 row.rwIdle = 0) :
    s.writeRow path off row w busy = s.writeKept path off row w busy := by
  cases busy
  · rfl
  · exact s.writeRow_busy path off row w h

theorem State.writeKept_sameBut : s.sameBut (s.writeKept path off row w busy) [off] := s.writeRow_sameBut _ _ _ _

/-- A field that may be written at any time is written. -/
theorem State.fld_writeKept_now {f : Fld} (hf : f.lo + f.width ≤ 32) (h : row.takesFld f = true) (hnow : row.nowOnly.takesFld f = true) :
    (s.writeKept path off row w busy).fld off f = f.get w := by
  rw [State.writeKept, State.fld_writeRow_of_takes _ _ _ _ hf]
  cases busy <;> assumption

/-- An Idle only field that the word keeps is kept. -/
theorem State.fld_writeKept_idle {f : Fld} (hf : f.lo + f.width ≤ 32) (h : row.takesFld f = true) (hnow : row.nowOnly.leavesFld f = true)
    (hw : f.get w = s.fld off f) : (s.writeKept path off row w busy).fld off f = s.fld off f := by
  rw [State.writeKept]
  cases busy
  · exact (State.fld_writeRow_of_takes _ _ _ _ hf h).trans hw
  · exact State.fld_writeRow_of_leaves _ _ _ _ hf hnow

end

/-- Words alike under a mask are alike in the fields within it. -/
theorem Fld.get_of_and_eq {f : Fld} {v w m : Word} (hf : f.lo + f.width ≤ 32) (h : w &&& m = v &&& m)
    (hm : ∀ i, f.lo ≤ i → i < f.lo + f.width → m.getLsbD i = true) : f.get w = f.get v := by
  refine Fld.get_eq f _ _ hf fun i hlo hhi => ?_
  have hbit := congrArg (fun x : Word => x.getLsbD i) h
  simpa [hm i hlo hhi] using hbit

/-- A word alike under a mask stays so when a field outside it is put. -/
theorem Fld.xor_put_and_eq (f : Fld) (v w m : Word) (x : Nat) (hf : f.lo + f.width ≤ 32) (h : w &&& m = v &&& m)
    (hm : ∀ i, f.lo ≤ i → i < f.lo + f.width → m.getLsbD i = false) : (v ^^^ f.put w x) &&& m = 0 := by
  refine BitVec.eq_of_getLsbD_eq fun i hi => ?_
  have hbit := congrArg (fun x : Word => x.getLsbD i) h
  simp only [BitVec.getLsbD_and] at hbit
  rw [BitVec.getLsbD_and, BitVec.getLsbD_xor, Fld.put_bit f w x i hf hi]
  split
  · next h => simp [hm i h.1 h.2]
  · cases hmi : m.getLsbD i
    · simp
    · rw [hmi, Bool.and_true, Bool.and_true] at hbit
      simp [hbit]

end Sys2Proof.Machine

/-!
The enable, refusal and disable of a shading group, and the request of a full recalibration (R155, R156, R174, R180).
-/
namespace Sys2Proof.Machine

/-- The frame of the shading stage and of what is held back. -/
def Frame.shdEff : Frame :=
  ⟨fun s t => { s with regs := t.regs, eff := t.eff, shd := t.shd }, fun _ => rfl, fun _ _ _ => rfl, fun _ _ _ => rfl, fun _ _ _ => rfl,
    fun _ _ => State.endsAlike_of rfl⟩

/-- The frame of what is held back. -/
def Frame.eff : Frame :=
  ⟨fun s t => { s with regs := t.regs, eff := t.eff }, fun _ => rfl, fun _ _ _ => rfl, fun _ _ _ => rfl, fun _ _ _ => rfl,
    fun _ _ => State.endsAlike_of rfl⟩

theorem State.setGroup_onlyEff (s : State) (g : Nat) (x : Group) (l : List Nat) : s.Only Frame.shdEff (s.setGroup g x) l :=
  ⟨rfl, State.regsBut_of_regs _ rfl⟩

theorem State.setPlaneLines_onlyEff (s : State) (n : Nat) (x : List PlaneLine) (l : List Nat) : s.Only Frame.shdEff (s.setPlaneLines n x) l :=
  ⟨rfl, State.regsBut_of_regs _ rfl⟩

theorem State.reg_setGroup (s : State) (g : Nat) (x : Group) (o : Nat) : (s.setGroup g x).reg o = s.reg o := State.reg_of_regs s _ rfl o

theorem State.group_setFld (s : State) (o : Nat) (f : Fld) (x g : Nat) : (s.setFld o f x).group g = s.group g := rfl

theorem State.group_setPlaneLines (s : State) (n : Nat) (x : List PlaneLine) (g : Nat) : (s.setPlaneLines n x).group g = s.group g := rfl

theorem State.group_of_shd {s t : State} (h : t.shd = s.shd) (g : Nat) : t.group g = s.group g := by rw [State.group, h, State.group]

/-! ## The causes of a refusal -/

/-- The causes look at registers alone. -/
theorem State.grpCause_congr {s t : State} (h : t.reg = s.reg) (g : Nat) (invalid : Bool) : t.grpCause g invalid = s.grpCause g invalid := by
  have hfld := State.fld_congr h
  have hbit := State.bit_congr h
  have hshares : t.grpShares g = s.grpShares g := by rw [State.grpShares, hbit, hfld, State.grpShares]
  have hbytes : t.partBytes = s.partBytes := funext fun n => by
    rw [State.partBytes, State.partSpan_congr (congrFun h _), State.partBytes]
  have hin : t.planeIn = s.planeIn := by
    funext n k
    rw [State.planeIn, hbit, hfld, State.planeIn]
  have hplanes : t.groupPlanes g = s.groupPlanes g := by rw [State.groupPlanes, hin, State.groupPlanes]
  have hneed : t.grpNeed g = s.grpNeed g := by rw [State.grpNeed, hplanes, hfld, State.grpNeed]
  have hrange : t.planeRangeBad = s.planeRangeBad := funext fun n => by rw [State.planeRangeBad, hfld, State.planeRangeBad]
  have hover : t.planesOverlap = s.planesOverlap := by
    funext m n
    rw [State.planesOverlap, hfld, State.planesOverlap]
  have hlive : t.livePlanes g = s.livePlanes g := by rw [State.livePlanes, hbit, hfld, State.livePlanes]
  have hclash : t.rangesClash g = s.rangesClash g := by rw [State.rangesClash, hlive, hover, State.rangesClash]
  rw [State.grpCause, hshares, hbytes, hfld, hneed, hplanes, hrange, hclash, State.grpCause]

theorem State.grpCause_le (s : State) (g : Nat) (invalid : Bool) : s.grpCause g invalid ≤ 4 := by
  rw [State.grpCause]
  split
  · decide
  · split
    · decide
    · split
      · decide
      · split <;> decide

/-! ## GRPg_CTL written -/

theorem Fld.put_grpEn (w : Word) : (F.grpCtl.EN.put w 1).getLsbD 0 = true ∧ (F.grpCtl.EN.put w 0).getLsbD 0 = false ∧
    ∀ x, (F.grpCtl.EN.put w x).getLsbD 14 = w.getLsbD 14 := by
  refine ⟨?_, ?_, fun x => ?_⟩
  · rw [Fld.put_bit _ _ _ _ (by decide) (by decide), if_pos (by decide)]
    decide
  · rw [Fld.put_bit _ _ _ _ (by decide) (by decide), if_pos (by decide)]
    decide
  · rw [Fld.put_bit _ _ _ _ (by decide) (by decide), if_neg (by decide)]

section
variable (s : State) (path : Path) (g : Nat) (w : Word)

/-- GRPg_CTL as written with EN. -/
def State.grpAsked : State := s.writeRow path (R.grpCtl g) Row.grpCtl (F.grpCtl.EN.put w 1) false

theorem State.grpAsked_only : s.Only Frame.eff (s.grpAsked path g w) [R.grpCtl g] := (s.writeRow_sameBut _ _ _ _).only fun _ _ _ => rfl

theorem State.shd_grpAsked : (s.grpAsked path g w).shd = s.shd := by rw [(s.grpAsked_only path g w).state]; rfl

theorem State.fld_grpAsked : (s.grpAsked path g w).fld (R.grpCtl g) F.grpCtl.EN = 1 ∧
    (s.grpAsked path g w).fld (R.grpCtl g) F.grpCtl.LP = F.grpCtl.LP.get w ∧
    (s.grpAsked path g w).fld (R.grpCtl g) F.grpCtl.ABP = F.grpCtl.ABP.get w := by
  refine ⟨?_, ?_, ?_⟩
  · rw [State.grpAsked, State.fld_writeRow_of_takes _ _ _ _ (by decide) (by decide), Fld.get_put _ _ _ (by decide)]
    rfl
  · rw [State.grpAsked, State.fld_writeRow_of_takes _ _ _ _ (by decide) (by decide), Fld.get_put_apart _ _ _ _ (by decide) (by decide) (by decide)]
  · rw [State.grpAsked, State.fld_writeRow_of_takes _ _ _ _ (by decide) (by decide), Fld.get_put_apart _ _ _ _ (by decide) (by decide) (by decide)]

theorem abpCfg_ne_grpCtl (m g : Nat) (hm : m < 16) : R.sysAbpCfg m ≠ R.grpCtl g := by simp only [R.sysAbpCfg, R.grpCtl]; omega

variable {s g} (hen : s.fld (R.grpCtl g) F.grpCtl.EN = 0) (hreq : w.getLsbD 14 = false)
include hen hreq

theorem State.grpCtlWrite_enable : s.grpCtlWrite path g (F.grpCtl.EN.put w 1) = (s.grpAsked path g w).grpEnable path g := by
  have hidle : s.grpBusy g = false := by rw [State.grpBusy, State.bit_eq_false hen, Bool.false_and]
  obtain ⟨hset, -, h14⟩ := Fld.put_grpEn w
  delta State.grpCtlWrite
  extract_lets was s1 s2
  have hs1 : s1 = s.grpAsked path g w := by
    change s.writeRow path (R.grpCtl g) Row.grpCtl _ (s.grpBusy g) = _
    rw [hidle, State.grpAsked]
  have hs2 : s2 = s1 := if_neg (by rw [h14, hreq]; decide)
  have hwas : was = false := State.bit_eq_false hen
  rw [hs2, hs1, hwas, hset]
  rfl

end

/-! ## Enables -/

section
variable {s : State} (path : Path) {g : Nat} (w : Word)

/-- GRPg_CTL as written, with its partition claimed. -/
def State.grpClaimed (s : State) (path : Path) (g : Nat) (w : Word) : State :=
  (s.grpAsked path g w).setOwner (.partition (F.grpCtl.ABP.get w)) claimantShd

/-- A group that runs afresh. -/
def State.grpStarted (s : State) (g : Nat) : State :=
  (s.groupPlanes g).foldl (fun u n => u.setPlaneLines n [])
    (((s.setFld (R.grpStat g) F.grpStat.STATE 1).setFld (R.grpQ2 g) F.grpQ2.FULL_CNT 0).setGroup g {})

/-- A group whose enable is refused, with its partition given back. -/
def State.grpRefused (s : State) (g abp cause : Nat) : State :=
  ((s.setOwner (.partition abp) 0).grpRefuse g cause).setFld (R.grpCtl g) F.grpCtl.EN 0

/-- The registers of an enable. -/
def grpOnRegs (g abp : Nat) : List Nat := [R.grpCtl g, R.grpStat g, R.grpQ2 g, R.sysAbpCfg abp]

theorem grpOnRegs_endIgnores (hg : g < 4) {abp : Nat} (ha : abp < 16) : endIgnores (grpOnRegs g abp) := endIgnores_of (by
  simp only [grpOnRegs, List.mem_cons, List.not_mem_nil, or_false, forall_eq_or_imp, forall_eq, R.grpCtl, R.grpStat, R.grpQ2, R.sysAbpCfg]
  omega)

theorem abpGet_lt : F.grpCtl.ABP.get w < 16 := BitVec.isLt _

/-- The partitions as the written register leaves them. -/
theorem State.abp_grpAsked {m : Nat} (hm : m < 16) : (s.grpAsked path g w).reg (R.sysAbpCfg m) = s.reg (R.sysAbpCfg m) :=
  (s.grpAsked_only path g w).reg _ (by simpa using abpCfg_ne_grpCtl m g hm)

section
variable (hfree : s.owner (.partition (F.grpCtl.ABP.get w)) = 0) (hvalid : s.partInvalid (F.grpCtl.ABP.get w) = false)
  (hclash : s.partClash (F.grpCtl.ABP.get w) = none)
include hfree hvalid hclash

theorem State.claim_grpAsked : (s.grpAsked path g w).claim (.partition (F.grpCtl.ABP.get w)) claimantShd = (s.grpClaimed path g w, .ok) := by
  refine State.claim_partition _ _ _ ?_ ?_ ?_ (by decide)
  · rw [State.owner_congr (State.abp_grpAsked path w (abpGet_lt w)), hfree]
  · rw [State.partInvalid_congr (State.abp_grpAsked path w (abpGet_lt w)), hvalid]
  · rw [State.partClash_congr (State.abp_grpAsked path w (abpGet_lt w)) fun m hm => State.abp_grpAsked path w hm, hclash]

theorem State.grpEnable_started (hc : (s.grpClaimed path g w).grpCause g false = 0) :
    (s.grpAsked path g w).grpEnable path g = (s.grpClaimed path g w).grpStarted g := by
  delta State.grpEnable
  extract_lets abp off
  have habp : abp = F.grpCtl.ABP.get w := (s.fld_grpAsked path g w).2.2
  rw [habp, State.claim_grpAsked path w hfree hvalid hclash]
  exact if_pos hc

theorem State.grpEnable_refused (hc : (s.grpClaimed path g w).grpCause g false ≠ 0) :
    (s.grpAsked path g w).grpEnable path g =
      (s.grpClaimed path g w).grpRefused g (F.grpCtl.ABP.get w) ((s.grpClaimed path g w).grpCause g false) := by
  have howner : (s.grpAsked path g w).owner (.partition (F.grpCtl.ABP.get w)) = 0 := by
    rw [State.owner_congr (State.abp_grpAsked path w (abpGet_lt w)), hfree]
  delta State.grpEnable
  extract_lets abp off
  have habp : abp = F.grpCtl.ABP.get w := (s.fld_grpAsked path g w).2.2
  rw [habp, State.claim_grpAsked path w hfree hvalid hclash]
  refine (if_neg hc).trans ?_
  dsimp only
  rw [if_pos howner]
  rfl

end

/-! What an accepted enable leaves -/

section
variable (t : State) (g : Nat)

/-- The group's registers set to a fresh run. -/
def State.grpShown : State := ((t.setFld (R.grpStat g) F.grpStat.STATE 1).setFld (R.grpQ2 g) F.grpQ2.FULL_CNT 0).setGroup g {}

theorem State.grpStarted_eq : t.grpStarted g = (t.groupPlanes g).foldl (fun u n => u.setPlaneLines n []) (t.grpShown g) := rfl

theorem State.grpShown_only : t.Only Frame.shdEff (t.grpShown g) [R.grpStat g, R.grpQ2 g] :=
  (((State.Only.refl t _).setFld _ _ (by simp)).setFld _ _ (by simp)).trans (State.setGroup_onlyEff _ _ _ _)

theorem State.clearLines_only (u : State) (l : List Nat) : u.Only Frame.shdEff (l.foldl (fun u n => u.setPlaneLines n []) u) [] :=
  State.Only.foldl _ _ (State.Only.refl u _) fun v n _ => v.setPlaneLines_onlyEff n [] []

theorem State.grpStarted_only : t.Only Frame.shdEff (t.grpStarted g) [R.grpStat g, R.grpQ2 g] := by
  rw [t.grpStarted_eq]
  exact (t.grpShown_only g).trans ((State.clearLines_only _ _).mono (by simp))

theorem State.reg_grpStarted (o : Nat) : (t.grpStarted g).reg o = (t.grpShown g).reg o := by
  rw [t.grpStarted_eq]
  exact (State.clearLines_only _ _).reg o (by simp)

theorem State.group_grpStarted (h : Nat) : (t.grpStarted g).group h = if h = g then {} else t.group h := by
  have hlines : (t.grpStarted g).group h = (t.grpShown g).group h := by
    rw [t.grpStarted_eq]
    exact List.foldlRecOn (motive := fun v : State => v.group h = (t.grpShown g).group h) _ _ rfl fun v hv n _ => by
      rw [State.group_setPlaneLines, hv]
  rw [hlines, State.grpShown, State.group_setGroup, State.group_setFld, State.group_setFld]

theorem State.planeLines_clearLines (u : State) (l : List Nat) (n : Nat) (hn : n ∈ l ∨ u.planeLines n = []) :
    State.planeLines (l.foldl (fun u n => u.setPlaneLines n []) u) n = [] := by
  induction l generalizing u with
  | nil => exact hn.resolve_left (by simp)
  | cons m l ih =>
    refine ih _ ?_
    rw [State.planeLines_setPlaneLines]
    rcases hn with h | h
    · rcases List.mem_cons.mp h with h | h
      · exact .inr (if_pos h)
      · exact .inl h
    · exact .inr (by rw [h, ite_self])

theorem State.fld_grpShown : (t.grpShown g).fld (R.grpStat g) F.grpStat.STATE = 1 ∧ (t.grpShown g).fld (R.grpQ2 g) F.grpQ2.FULL_CNT = 0 := by
  have hne : R.grpStat g ≠ R.grpQ2 g := by simp only [R.grpStat, R.grpQ2]; omega
  refine ⟨?_, ?_⟩
  · rw [State.grpShown, State.fld, State.reg_setGroup, State.reg_setFld_ne _ _ _ _ _ hne, ← State.fld, State.fld_setFld _ _ _ _ (by decide)]
    rfl
  · rw [State.grpShown, State.fld, State.reg_setGroup, ← State.fld, State.fld_setFld _ _ _ _ (by decide)]
    rfl

end

/-- What a refused enable shows. -/
theorem State.fld_grpRefused (t : State) (g abp cause : Nat) (habp : abp < 16) (hc : cause < 8) :
    (t.grpRefused g abp cause).fld (R.grpCtl g) F.grpCtl.EN = 0 ∧ (t.grpRefused g abp cause).fld (R.grpStat g) F.grpStat.CFG_ERR = 1 ∧
      (t.grpRefused g abp cause).fld (R.grpStat g) F.grpStat.CFG_CAUSE = cause ∧ (t.grpRefused g abp cause).owner (.partition abp) = 0 := by
  have h1 : R.grpStat g ≠ R.grpCtl g := by simp only [R.grpStat, R.grpCtl]; omega
  have h2 : R.sysAbpCfg abp ≠ R.grpCtl g := abpCfg_ne_grpCtl abp g habp
  have h3 : R.sysAbpCfg abp ≠ R.grpStat g := by simp only [R.sysAbpCfg, R.grpStat]; omega
  refine ⟨?_, ?_, ?_, ?_⟩
  · rw [State.grpRefused, State.fld_setFld _ _ _ _ (by decide)]
    rfl
  · rw [State.grpRefused, State.fld, State.reg_setFld_ne _ _ _ _ _ h1, ← State.fld, State.grpRefuse,
      State.fld_setFld_apart _ _ _ _ _ (by decide) (by decide) (by decide), State.fld_setFld _ _ _ _ (by decide)]
    rfl
  · rw [State.grpRefused, State.fld, State.reg_setFld_ne _ _ _ _ _ h1, ← State.fld, State.grpRefuse, State.fld_setFld _ _ _ _ (by decide)]
    exact Nat.mod_eq_of_lt hc
  · have hreg : (t.grpRefused g abp cause).reg (R.sysAbpCfg abp) = (t.setOwner (.partition abp) 0).reg (R.sysAbpCfg abp) := by
      rw [State.grpRefused, State.reg_setFld_ne _ _ _ _ _ h2, State.grpRefuse, State.reg_setFld_ne _ _ _ _ _ h3, State.reg_setFld_ne _ _ _ _ _ h3]
    rw [State.owner_congr hreg, State.owner_setOwner_partition _ _ _ (by decide)]

theorem State.grpRefused_only {F : Frame} (t : State) (g abp cause : Nat) : t.Only F (t.grpRefused g abp cause) (grpOnRegs g abp) :=
  (((((State.setOwner_partition_only t abp 0).mono (by simp [grpOnRegs])).setFld _ _ (by simp [grpOnRegs])).setFld _ _
    (by simp [grpOnRegs])).setFld _ _ (by simp [grpOnRegs]))

theorem State.grpClaimed_only : s.Only Frame.eff (s.grpClaimed path g w) (grpOnRegs g (F.grpCtl.ABP.get w)) :=
  ((s.grpAsked_only path g w).mono (by simp [grpOnRegs])).trans ((State.setOwner_partition_only _ _ _).mono (by simp [grpOnRegs]))

/-- The statement's reading of the claimed state. -/
theorem State.reg_grpClaimed : (s.grpClaimed path g w).reg = ((s.setReg (R.grpCtl g) (Row.grpCtl.written (s.reg (R.grpCtl g))
    (F.grpCtl.EN.put w 1))).setOwner (.partition (F.grpCtl.ABP.get w)) 0x12).reg := by
  have hreg : (s.grpAsked path g w).reg = (s.setReg (R.grpCtl g) (Row.grpCtl.written (s.reg (R.grpCtl g)) (F.grpCtl.EN.put w 1))).reg := by
    funext o
    rw [State.grpAsked, State.reg_writeRow, State.reg_setReg]
  funext o
  rw [State.grpClaimed]
  by_cases ho : o = R.sysAbpCfg (F.grpCtl.ABP.get w)
  · subst ho
    rw [State.setOwner, State.setOwner, State.reg_setFld_same, State.reg_setFld_same, hreg]
    rfl
  · rw [State.reg_setOwner_partition _ _ _ ho, State.reg_setOwner_partition _ _ _ ho, hreg]

end

end Sys2Proof.Machine

/-!
O20: the commands on GRPg_CTL.
-/
namespace Sys2Proof.Machine

/-! ## An enable whose partition is held elsewhere -/

section
variable {s : State} (path : Path) {g : Nat} (w : Word)

/-- An enable whose claim is denied. -/
def State.grpDenied (s : State) (path : Path) (g : Nat) (w : Word) : State :=
  ((s.grpAsked path g w).claimDenied (.partition (F.grpCtl.ABP.get w)) claimantShd path (R.grpCtl g)).setFld (R.grpCtl g) F.grpCtl.EN 0

theorem State.grpEnable_denied (h0 : s.owner (.partition (F.grpCtl.ABP.get w)) ≠ 0) (h12 : s.owner (.partition (F.grpCtl.ABP.get w)) ≠ 0x12) :
    (s.grpAsked path g w).grpEnable path g = s.grpDenied path g w := by
  have howner : (s.grpAsked path g w).owner (.partition (F.grpCtl.ABP.get w)) = s.owner (.partition (F.grpCtl.ABP.get w)) :=
    State.owner_congr (State.abp_grpAsked path w (abpGet_lt w))
  delta State.grpEnable
  extract_lets abp off
  have habp : abp = F.grpCtl.ABP.get w := (s.fld_grpAsked path g w).2.2
  rw [habp, State.claim_held _ _ _ (by rw [howner]; exact h0) (by rw [howner]; exact h12)]
  rfl

/-- The registers of a denied enable. -/
def grpDeniedRegs (g : Nat) : List Nat := [R.grpCtl g, R.sysErrStat, R.sysErrAddr, R.sysClaimErrCnt, R.sysClaimErr, R.hqeStat]

theorem State.grpDenied_only : s.Only Frame.async (s.grpDenied path g w) (grpDeniedRegs g) :=
  ((((s.grpAsked_only path g w).mono (by simp [grpDeniedRegs])).widen fun _ _ => rfl).trans
    ((State.claimDenied_only _ _ _ _ _).mono (by simp [grpDeniedRegs, deniedRegs]))).setFld _ _ (by simp [grpDeniedRegs])

theorem State.fld_grpDenied (hg : g < 4) : (s.grpDenied path g w).fld (R.grpCtl g) F.grpCtl.EN = 0 ∧
    (s.grpDenied path g w).fld R.sysErrStat F.sysErrStat.CLAIM = 1 ∧
    (s.grpDenied path g w).reg R.sysClaimErrCnt = satInc (s.reg R.sysClaimErrCnt) := by
  have h1 : R.sysErrStat ≠ R.grpCtl g := by simp only [R.sysErrStat, R.grpCtl]; omega
  have h2 : R.sysClaimErrCnt ≠ R.grpCtl g := by simp only [R.sysClaimErrCnt, R.grpCtl]; omega
  refine ⟨?_, ?_, ?_⟩
  · rw [State.grpDenied, State.fld_setFld _ _ _ _ (by decide)]
    rfl
  · rw [State.grpDenied, State.fld, State.reg_setFld_ne _ _ _ _ _ h1, ← State.fld, State.fld_claimDenied]
  · rw [State.grpDenied, State.reg_setFld_ne _ _ _ _ _ h2, State.reg_claimDenied_count, (s.grpAsked_only path g w).reg _ (by simpa using h2)]

end

/-! ## A disable -/

section
variable {s : State} (path : Path) {g : Nat} (w : Word)

/-- GRPg_CTL as written without EN. -/
def State.grpCleared (s : State) (path : Path) (g : Nat) (w : Word) : State :=
  s.writeKept path (R.grpCtl g) Row.grpCtl (F.grpCtl.EN.put w 0) (s.grpBusy g)

theorem State.grpCleared_only : s.Only Frame.eff (s.grpCleared path g w) [R.grpCtl g] := (s.writeKept_sameBut _ _ _ _ _).only fun _ _ _ => rfl

theorem State.fld_grpCleared (hkeep : w &&& 0x1FE = s.reg (R.grpCtl g) &&& 0x1FE) : (s.grpCleared path g w).fld (R.grpCtl g) F.grpCtl.EN = 0 ∧
    (s.grpCleared path g w).fld (R.grpCtl g) F.grpCtl.ABP = s.fld (R.grpCtl g) F.grpCtl.ABP := by
  refine ⟨?_, ?_⟩
  · rw [State.grpCleared, State.fld_writeKept_now _ _ _ _ _ _ (by decide) (by decide) (by decide), Fld.get_put _ _ _ (by decide)]
    rfl
  · refine State.fld_writeKept_idle _ _ _ _ _ _ (by decide) (by decide) (by decide) ?_
    rw [Fld.get_put_apart _ _ _ _ (by decide) (by decide) (by decide)]
    exact Fld.get_of_and_eq (by decide) hkeep (by decide)

/-- A group turned off. -/
def State.grpOff (s : State) (g abp : Nat) : State :=
  ((s.setOwner (.partition abp) 0).setFld (R.grpStat g) F.grpStat.STATE 0).setGroup g
    { (s.setOwner (.partition abp) 0).group g with capture := none, stripDue := none }

theorem State.grpOff_only (t : State) (g abp : Nat) : t.Only Frame.shdEff (t.grpOff g abp) (grpOnRegs g abp) :=
  (((State.setOwner_partition_only t abp 0).mono (by simp [grpOnRegs])).setFld _ _ (by simp [grpOnRegs])).trans (State.setGroup_onlyEff _ _ _ _)

theorem State.group_setOwner_partition (t : State) (n who g : Nat) : (t.setOwner (.partition n) who).group g = t.group g := rfl

theorem State.group_grpOff (t : State) (g abp h : Nat) :
    (t.grpOff g abp).group h = if h = g then { t.group g with capture := none, stripDue := none } else t.group h := by
  rw [State.grpOff, State.group_setGroup, State.group_setOwner_partition, State.group_setFld, State.group_setOwner_partition]

theorem State.planes_setGroup (t : State) (g : Nat) (x : Group) : (t.setGroup g x).shd.planes = t.shd.planes := rfl

theorem State.planes_grpOff (t : State) (g abp : Nat) : (t.grpOff g abp).shd.planes = t.shd.planes := by
  rw [State.grpOff, State.planes_setGroup]
  rfl

theorem State.fld_grpOff (t : State) (g : Nat) {abp : Nat} (h : abp < 16) : (t.grpOff g abp).grpState g = 0 ∧
    (t.grpOff g abp).owner (.partition abp) = 0 ∧ (t.grpOff g abp).fld (R.grpCtl g) F.grpCtl.EN = t.fld (R.grpCtl g) F.grpCtl.EN := by
  have h1 : R.sysAbpCfg abp ≠ R.grpStat g := by simp only [R.sysAbpCfg, R.grpStat]; omega
  have h2 : R.grpCtl g ≠ R.grpStat g := by simp only [R.grpStat, R.grpCtl]; omega
  refine ⟨?_, ?_, ?_⟩
  · rw [State.grpState, State.grpOff, State.fld, State.reg_setGroup, ← State.fld, State.fld_setFld _ _ _ _ (by decide)]
    rfl
  · have hreg : (t.grpOff g abp).reg (R.sysAbpCfg abp) = (t.setOwner (.partition abp) 0).reg (R.sysAbpCfg abp) := by
      rw [State.grpOff, State.reg_setGroup, State.reg_setFld_ne _ _ _ _ _ h1]
    rw [State.owner_congr hreg, State.owner_setOwner_partition _ _ _ (by decide)]
  · rw [State.fld, State.grpOff, State.reg_setGroup, State.reg_setFld_ne _ _ _ _ _ h2, State.reg_setOwner_partition _ _ _ (abpCfg_ne_grpCtl _ _ h).symm,
      ← State.fld]

theorem State.grpCtlWrite_disable (hreq : w.getLsbD 14 = false) (hkeep : w &&& 0x1FE = s.reg (R.grpCtl g) &&& 0x1FE)
    (hen : s.fld (R.grpCtl g) F.grpCtl.EN = 1) (hst : s.grpState g ≠ 5) (hown : s.owner (.partition (s.fld (R.grpCtl g) F.grpCtl.ABP)) = 0x12) :
    s.grpCtlWrite path g (F.grpCtl.EN.put w 0) = (s.grpCleared path g w).grpOff g (s.fld (R.grpCtl g) F.grpCtl.ABP) := by
  obtain ⟨-, hclr, h14⟩ := Fld.put_grpEn w
  have honly := s.grpCleared_only path (g := g) w
  have habp : s.fld (R.grpCtl g) F.grpCtl.ABP < 16 := BitVec.isLt _
  have hst' : (s.grpCleared path g w).grpState g ≠ 5 := by
    rw [State.grpState, honly.fld (by simp only [List.mem_singleton, R.grpStat, R.grpCtl]; omega)]
    exact hst
  have hown' : (s.grpCleared path g w).owner (.partition (s.fld (R.grpCtl g) F.grpCtl.ABP)) = 0x12 :=
    (State.owner_congr (honly.reg _ (by simpa using abpCfg_ne_grpCtl _ _ habp))).trans hown
  have hdis : (s.grpCleared path g w).grpDisable g = (s.grpCleared path g w).grpOff g (s.fld (R.grpCtl g) F.grpCtl.ABP) := by
    rw [State.grpDisable, if_neg (by simpa using hst'), (s.fld_grpCleared path w hkeep).2, State.release_own _ _ claimantShd hown' (by decide)]
    rfl
  delta State.grpCtlWrite
  extract_lets was s1 s2
  have hs1 : s1 = s.grpCleared path g w :=
    State.writeRow_kept _ _ _ _ _ _ (Fld.xor_put_and_eq _ _ _ _ _ (by decide) hkeep (by decide))
  have hs2 : s2 = s1 := if_neg (by rw [h14, hreq]; decide)
  have hwas : was = true := State.bit_eq_true hen
  rw [hs2, hs1, hwas, hclr]
  exact hdis

/-! ## The request of a full recalibration -/

/-- GRPg_CTL as written with FULL_REQ. -/
def State.grpRequested (s : State) (path : Path) (g : Nat) (w : Word) : State :=
  s.writeKept path (R.grpCtl g) Row.grpCtl (F.grpCtl.FULL_REQ.put w 1) (s.grpBusy g)

theorem State.grpRequested_only : s.Only Frame.eff (s.grpRequested path g w) [R.grpCtl g] :=
  (s.writeKept_sameBut _ _ _ _ _).only fun _ _ _ => rfl

theorem Fld.get_EN_bit (w : Word) : (w.getLsbD 0 = true ↔ F.grpCtl.EN.get w = 1) := by
  rw [Fld.get_bit0]
  cases w.getLsbD 0 <;> simp

theorem State.grpCtlWrite_request (hkeep : w &&& 0x1FE = s.reg (R.grpCtl g) &&& 0x1FE)
    (hen : F.grpCtl.EN.get w = s.fld (R.grpCtl g) F.grpCtl.EN) :
    s.grpCtlWrite path g (F.grpCtl.FULL_REQ.put w 1) = (s.grpRequested path g w).fullRequest g := by
  have h14 : (F.grpCtl.FULL_REQ.put w 1).getLsbD 14 = true := by
    rw [Fld.put_bit _ _ _ _ (by decide) (by decide), if_pos (by decide)]
    decide
  have h0 : (F.grpCtl.FULL_REQ.put w 1).getLsbD 0 = s.bit (R.grpCtl g) F.grpCtl.EN := by
    rw [Fld.put_bit _ _ _ _ (by decide) (by decide), if_neg (by decide), Bool.eq_iff_iff, Fld.get_EN_bit, State.bit_iff_one rfl, hen]
  delta State.grpCtlWrite
  extract_lets was s1 s2
  have hs1 : s1 = s.grpRequested path g w :=
    State.writeRow_kept _ _ _ _ _ _ (Fld.xor_put_and_eq _ _ _ _ _ (by decide) hkeep (by decide))
  have hs2 : s2 = s1.fullRequest g := if_pos h14
  refine (if_neg ?_).trans ((if_neg ?_).trans (by rw [hs2, hs1]))
  · change ¬((F.grpCtl.FULL_REQ.put w 1).getLsbD 0 && !(s.bit (R.grpCtl g) F.grpCtl.EN)) = true
    rw [h0]
    simp
  · change ¬(!((F.grpCtl.FULL_REQ.put w 1).getLsbD 0) && s.bit (R.grpCtl g) F.grpCtl.EN) = true
    rw [h0]
    simp

theorem State.fullRequest_only (t : State) (g : Nat) : t.Only Frame.shdEff (t.fullRequest g) [R.grpCtl g, R.grpStat g] :=
  (((State.Only.refl t _).setFld _ _ (by simp)).setFld _ _ (by simp)).trans (State.setGroup_onlyEff _ _ _ _)

theorem State.group_fullRequest (t : State) (g h : Nat) :
    (t.fullRequest g).group h = if h = g then { t.group g with byRequest := true } else t.group h := by
  rw [State.fullRequest, State.group_setGroup, State.group_setFld, State.group_setFld]

theorem State.fld_fullRequest (t : State) (g : Nat) : (t.fullRequest g).fld (R.grpStat g) F.grpStat.FULL_PEND = 1 ∧
    (t.fullRequest g).fld (R.grpStat g) F.grpStat.DRIFT_HOLD = 0 ∧ (t.fullRequest g).grpState g = t.grpState g := by
  refine ⟨?_, ?_, ?_⟩
  · rw [State.fullRequest, State.fld, State.reg_setGroup, ← State.fld, State.fld_setFld_apart _ _ _ _ _ (by decide) (by decide) (by decide),
      State.fld_setFld _ _ _ _ (by decide)]
    rfl
  · rw [State.fullRequest, State.fld, State.reg_setGroup, ← State.fld, State.fld_setFld _ _ _ _ (by decide)]
    rfl
  · rw [State.grpState, State.fullRequest, State.fld, State.reg_setGroup, ← State.fld,
      State.fld_setFld_apart _ _ _ _ _ (by decide) (by decide) (by decide), State.fld_setFld_apart _ _ _ _ _ (by decide) (by decide) (by decide),
      State.grpState]

end

/-! ## The commands -/

section
variable {s : State} (hu : s.usual) (path : Path) (g : Fin 4) (w : Word) (hacc : s.accessible path (R.grpCtl g) = true)
include hu hacc

theorem exec_groupEnable_accepted (hreq : w.getLsbD 14 = false) (hen : s.fld (R.grpCtl g) F.grpCtl.EN = 0)
    (hfree : s.owner (.partition (F.grpCtl.ABP.get w)) = 0) (hvalid : s.partInvalid (F.grpCtl.ABP.get w) = false)
    (hclash : s.partClash (F.grpCtl.ABP.get w) = none) (hc : (s.grpClaimed path g w).grpCause g false = 0) :
    ∃ t, exec (.groupEnable path g w) s = .next t ∧ t = { s with regs := t.regs, eff := t.eff, shd := t.shd } ∧
      t.fld (R.grpCtl g) F.grpCtl.EN = 1 ∧ t.fld (R.grpCtl g) F.grpCtl.LP = F.grpCtl.LP.get w ∧ t.grpState g = 1 ∧
      t.fld (R.grpQ2 g) F.grpQ2.FULL_CNT = 0 ∧ t.owner (.partition (F.grpCtl.ABP.get w)) = 0x12 ∧ t.group g = {} ∧
      (∀ h, h ≠ g.val → t.group h = s.group h) ∧ (∀ n, n < 48 → s.planeIn n g = true → t.planeLines n = []) ∧
      (∀ off, off ∉ [R.grpCtl g, R.grpStat g, R.grpQ2 g, R.sysAbpCfg (F.grpCtl.ABP.get w)] → t.reg off = s.reg off) := by
  have habp := abpGet_lt w
  have hclaimed := State.grpClaimed_only (s := s) path (g := g) w
  have hstarted := (s.grpClaimed path g w).grpStarted_only g
  have hf : s.Only Frame.shdEff ((s.grpClaimed path g w).grpStarted g) (grpOnRegs g (F.grpCtl.ABP.get w)) :=
    (hclaimed.widen fun _ _ => rfl).trans (hstarted.mono (by simp [grpOnRegs]))
  have hexec : exec (.groupEnable path g w) s = State.done ((s.grpClaimed path g w).grpStarted g) :=
    congrArg State.done ((State.onWrite_of _ _ _ _ hacc).trans
      ((State.grpCtlWrite_enable path w hen hreq).trans (State.grpEnable_started path w hfree hvalid hclash hc)))
  have hctl : ∀ f, ((s.grpClaimed path g w).grpStarted g).fld (R.grpCtl g) f = (s.grpAsked path g w).fld (R.grpCtl g) f := fun f => by
    rw [hstarted.fld (by simp only [List.mem_cons, List.not_mem_nil, or_false, R.grpCtl, R.grpStat, R.grpQ2]; omega), State.grpClaimed, State.fld,
      State.reg_setOwner_partition _ _ _ (abpCfg_ne_grpCtl _ g habp).symm, ← State.fld]
  obtain ⟨hEN, hLP, -⟩ := s.fld_grpAsked path g w
  obtain ⟨hst, hcnt⟩ := (s.grpClaimed path g w).fld_grpShown g
  have hgrp : ∀ h, (s.grpClaimed path g w).group h = s.group h := State.group_of_shd (s.shd_grpAsked path g w)
  refine ⟨_, hexec.trans (hf.done hu (grpOnRegs_endIgnores g.isLt habp)), hf.state, (hctl _).trans hEN, (hctl _).trans hLP, ?_, ?_, ?_, ?_,
    fun h hh => ?_, fun n hn hin => ?_, hf.reg⟩
  · rw [State.grpState, State.fld, State.reg_grpStarted, ← State.fld, hst]
  · rw [State.fld, State.reg_grpStarted, ← State.fld, hcnt]
  · rw [State.owner_congr (hstarted.reg _ (by
      simp only [List.mem_cons, List.not_mem_nil, or_false, R.sysAbpCfg, R.grpStat, R.grpQ2]; omega)), State.grpClaimed,
      State.owner_setOwner_partition _ _ _ (by decide), claimantShd]
  · rw [State.group_grpStarted, if_pos rfl]
  · rw [State.group_grpStarted, if_neg hh, hgrp]
  · rw [State.grpStarted_eq]
    refine State.planeLines_clearLines _ _ _ (.inl ?_)
    rw [State.groupPlanes, List.mem_filter, List.mem_range]
    have hreg : (s.grpClaimed path g w).reg (R.plCfg n) = s.reg (R.plCfg n) := hclaimed.reg _ (by
      simp only [grpOnRegs, List.mem_cons, List.not_mem_nil, or_false, R.plCfg, R.grpCtl, R.grpStat, R.grpQ2, R.sysAbpCfg]; omega)
    refine ⟨hn, ?_⟩
    rw [State.planeIn, State.bit, State.fld, State.fld, hreg]
    exact hin

theorem exec_groupEnable_refused (hreq : w.getLsbD 14 = false) (hen : s.fld (R.grpCtl g) F.grpCtl.EN = 0)
    (hfree : s.owner (.partition (F.grpCtl.ABP.get w)) = 0) (hvalid : s.partInvalid (F.grpCtl.ABP.get w) = false)
    (hclash : s.partClash (F.grpCtl.ABP.get w) = none) (hc : (s.grpClaimed path g w).grpCause g false ≠ 0) :
    ∃ t, exec (.groupEnable path g w) s = .next t ∧ t = { s with regs := t.regs, eff := t.eff } ∧
      t.fld (R.grpCtl g) F.grpCtl.EN = 0 ∧ t.fld (R.grpStat g) F.grpStat.CFG_ERR = 1 ∧
      t.fld (R.grpStat g) F.grpStat.CFG_CAUSE = (s.grpClaimed path g w).grpCause g false ∧ t.owner (.partition (F.grpCtl.ABP.get w)) = 0 ∧
      (∀ off, off ∉ [R.grpCtl g, R.grpStat g, R.sysAbpCfg (F.grpCtl.ABP.get w)] → t.reg off = s.reg off) := by
  have habp := abpGet_lt w
  have hclaimed : s.Only Frame.eff (s.grpClaimed path g w) [R.grpCtl g, R.grpStat g, R.sysAbpCfg (F.grpCtl.ABP.get w)] :=
    ((s.grpAsked_only path g w).mono (by simp)).trans ((State.setOwner_partition_only _ _ _).mono (by simp))
  have hexec : exec (.groupEnable path g w) s = State.done _ :=
    congrArg State.done ((State.onWrite_of _ _ _ _ hacc).trans
      ((State.grpCtlWrite_enable path w hen hreq).trans (State.grpEnable_refused path w hfree hvalid hclash hc)))
  have hcause := (s.grpClaimed path g w).grpCause_le g false
  generalize (s.grpClaimed path g w).grpCause g false = cause at hexec hcause ⊢
  have hrefused : (s.grpClaimed path g w).Only Frame.eff ((s.grpClaimed path g w).grpRefused g (F.grpCtl.ABP.get w) cause)
      [R.grpCtl g, R.grpStat g, R.sysAbpCfg (F.grpCtl.ABP.get w)] :=
    ((((State.setOwner_partition_only _ _ _).mono (by simp)).setFld _ _ (by simp)).setFld _ _ (by simp)).setFld _ _ (by simp)
  have hf := hclaimed.trans hrefused
  obtain ⟨h1, h2, h3, h4⟩ := (s.grpClaimed path g w).fld_grpRefused g _ cause habp (by omega)
  exact ⟨_, hexec.trans (hf.done hu (fun o ho hl => grpOnRegs_endIgnores g.isLt habp o ho (by
    simp only [grpOnRegs, List.mem_cons, List.not_mem_nil, or_false] at hl ⊢; tauto))), hf.state, h1, h2, h3, h4, hf.reg⟩

theorem exec_groupEnable_denied (hreq : w.getLsbD 14 = false) (hen : s.fld (R.grpCtl g) F.grpCtl.EN = 0)
    (h0 : s.owner (.partition (F.grpCtl.ABP.get w)) ≠ 0) (h12 : s.owner (.partition (F.grpCtl.ABP.get w)) ≠ 0x12) :
    ∃ t, exec (.groupEnable path g w) s = .next t ∧ t = { s with regs := t.regs, eff := t.eff, asyncQ := t.asyncQ } ∧
      t.fld (R.grpCtl g) F.grpCtl.EN = 0 ∧ t.fld R.sysErrStat F.sysErrStat.CLAIM = 1 ∧
      t.reg R.sysClaimErrCnt = satInc (s.reg R.sysClaimErrCnt) ∧
      (∀ off, off ∉ [R.grpCtl g, R.sysErrStat, R.sysErrAddr, R.sysClaimErrCnt, R.sysClaimErr, R.hqeStat] → t.reg off = s.reg off) := by
  have hexec : exec (.groupEnable path g w) s = State.done (s.grpDenied path g w) :=
    congrArg State.done ((State.onWrite_of _ _ _ _ hacc).trans
      ((State.grpCtlWrite_enable path w hen hreq).trans (State.grpEnable_denied path w h0 h12)))
  have hf := State.grpDenied_only (s := s) path (g := g.val) w
  obtain ⟨h1, h2, h3⟩ := State.fld_grpDenied (s := s) path w g.isLt
  refine ⟨_, hexec.trans (hf.done hu (endIgnores_of ?_)), hf.state, h1, h2, h3, hf.reg⟩
  simp only [grpDeniedRegs, List.mem_cons, List.not_mem_nil, or_false, forall_eq_or_imp, forall_eq, R.grpCtl, R.sysErrStat, R.sysErrAddr,
    R.sysClaimErrCnt, R.sysClaimErr, R.hqeStat]
  omega

theorem exec_groupDisable_off (hreq : w.getLsbD 14 = false) (hkeep : w &&& 0x1FE = s.reg (R.grpCtl g) &&& 0x1FE)
    (hen : s.fld (R.grpCtl g) F.grpCtl.EN = 1) (hst : s.grpState g ≠ 5) (hown : s.owner (.partition (s.fld (R.grpCtl g) F.grpCtl.ABP)) = 0x12) :
    ∃ t, exec (.groupDisable path g w) s = .next t ∧ t = { s with regs := t.regs, eff := t.eff, shd := t.shd } ∧
      t.fld (R.grpCtl g) F.grpCtl.EN = 0 ∧ t.grpState g = 0 ∧ t.owner (.partition (s.fld (R.grpCtl g) F.grpCtl.ABP)) = 0 ∧
      t.group g = { s.group g with capture := none, stripDue := none } ∧ (∀ h, h ≠ g.val → t.group h = s.group h) ∧
      t.shd.planes = s.shd.planes ∧
      (∀ off, off ∉ [R.grpCtl g, R.grpStat g, R.sysAbpCfg (s.fld (R.grpCtl g) F.grpCtl.ABP)] → t.reg off = s.reg off) := by
  have habp : s.fld (R.grpCtl g) F.grpCtl.ABP < 16 := BitVec.isLt _
  have hexec : exec (.groupDisable path g w) s = State.done _ :=
    congrArg State.done ((State.onWrite_of _ _ _ _ hacc).trans (State.grpCtlWrite_disable path w hreq hkeep hen hst hown))
  have hclr := (State.fld_grpCleared path w hkeep).1
  have hcleared := s.grpCleared_only path (g := g.val) w
  have hshd : (s.grpCleared path g w).shd = s.shd := by rw [hcleared.state]; rfl
  generalize s.fld (R.grpCtl g) F.grpCtl.ABP = abp at habp hexec ⊢
  generalize s.grpCleared path g w = c at hexec hclr hcleared hshd
  have hoff : c.Only Frame.shdEff (c.grpOff g abp) [R.grpCtl g, R.grpStat g, R.sysAbpCfg abp] :=
    (((State.setOwner_partition_only c abp 0).mono (by simp)).setFld _ _ (by simp)).trans (State.setGroup_onlyEff _ _ _ _)
  have hf : s.Only Frame.shdEff (c.grpOff g abp) [R.grpCtl g, R.grpStat g, R.sysAbpCfg abp] :=
    ((hcleared.mono (by simp)).widen fun _ _ => rfl).trans hoff
  obtain ⟨h1, h2, h3⟩ := c.fld_grpOff g habp
  refine ⟨_, hexec.trans (hf.done hu (fun o ho hl => grpOnRegs_endIgnores g.isLt habp o ho (by
    simp only [grpOnRegs, List.mem_cons, List.not_mem_nil, or_false] at hl ⊢; tauto))), hf.state, h3.trans hclr, h1, h2, ?_, fun h hh => ?_, ?_, hf.reg⟩
  · rw [State.group_grpOff, if_pos rfl, State.group_of_shd hshd]
  · rw [State.group_grpOff, if_neg hh, State.group_of_shd hshd]
  · rw [State.planes_grpOff, hshd]

theorem exec_fullRecalRequest_pending (hkeep : w &&& 0x1FE = s.reg (R.grpCtl g) &&& 0x1FE)
    (hen : F.grpCtl.EN.get w = s.fld (R.grpCtl g) F.grpCtl.EN) :
    ∃ t, exec (.fullRecalRequest path g w) s = .next t ∧ t = { s with regs := t.regs, eff := t.eff, shd := t.shd } ∧
      t.fld (R.grpStat g) F.grpStat.FULL_PEND = 1 ∧ t.fld (R.grpStat g) F.grpStat.DRIFT_HOLD = 0 ∧ t.grpState g = s.grpState g ∧
      t.group g = { s.group g with byRequest := true } ∧ (∀ h, h ≠ g.val → t.group h = s.group h) ∧
      (∀ off, off ∉ [R.grpCtl g, R.grpStat g] → t.reg off = s.reg off) := by
  have hexec : exec (.fullRecalRequest path g w) s = State.done _ :=
    congrArg State.done ((State.onWrite_of _ _ _ _ hacc).trans (State.grpCtlWrite_request path w hkeep hen))
  have hreq := s.grpRequested_only path (g := g.val) w
  have hshd : (s.grpRequested path g w).shd = s.shd := by rw [hreq.state]; rfl
  have hst : (s.grpRequested path g w).grpState g = s.grpState g := hreq.fld (by simp only [List.mem_singleton, R.grpStat, R.grpCtl]; omega) _
  generalize s.grpRequested path g w = c at hexec hreq hshd hst
  have hf : s.Only Frame.shdEff (c.fullRequest g) [R.grpCtl g, R.grpStat g] :=
    ((hreq.mono (by simp)).widen fun _ _ => rfl).trans (c.fullRequest_only g)
  obtain ⟨h1, h2, h3⟩ := c.fld_fullRequest g
  refine ⟨_, hexec.trans (hf.done hu (endIgnores_of ?_)), hf.state, h1, h2, h3.trans hst, ?_, fun h hh => ?_, hf.reg⟩
  · simp only [List.mem_cons, List.not_mem_nil, or_false, forall_eq_or_imp, forall_eq, R.grpCtl, R.grpStat]
    omega
  · rw [State.group_fullRequest, if_pos rfl, State.group_of_shd hshd]
  · rw [State.group_fullRequest, if_neg hh, State.group_of_shd hshd]

end

/-- Settles O20: the enable, refusal and disable of a shading group, and the request of a full recalibration. -/
theorem groupControl : Obligations.GroupControl := by
  unfold Obligations.GroupControl
  intro s path g w hu hacc hreq abp s1
  have hcause : (s.grpClaimed path g w).grpCause g false = s1.grpCause g false := State.grpCause_congr (State.reg_grpClaimed path w) g false
  refine ⟨fun hen hfree hvalid hclash => ⟨fun hc => ?_, fun hc => ?_⟩, exec_groupEnable_denied hu path g w hacc hreq,
    exec_groupDisable_off hu path g w hacc hreq, exec_fullRecalRequest_pending hu path g w hacc⟩
  · exact exec_groupEnable_accepted hu path g w hacc hreq hen hfree hvalid hclash (hcause.trans hc)
  · rw [← hcause] at hc ⊢
    exact exec_groupEnable_refused hu path g w hacc hreq hen hfree hvalid hclash hc

end Sys2Proof.Machine

/-!
Reads and writes of memory that holds no error, and numbers as bytes (R6, R33-R36).
-/
namespace Sys2Proof.Machine

/-! ## Numbers as bytes -/

theorem bytesLE_length (n v : Nat) : (bytesLE n v).length = n := by simp [bytesLE]

theorem bytesLE_succ (n v : Nat) : bytesLE (n + 1) v = BitVec.ofNat 8 v :: bytesLE n (v / 256) := by
  rw [bytesLE, List.range_succ_eq_map, List.map_cons, List.map_map, bytesLE]
  refine congrArg₂ List.cons rfl (List.map_congr_left fun i _ => ?_)
  rw [Function.comp, show 8 * (i.succ) = 8 + 8 * i by omega, Nat.shiftRight_add, Nat.shiftRight_eq_div_pow v 8]

theorem natLE_bytesLE (n v : Nat) : natLE (bytesLE n v) = v % 256 ^ n := by
  induction n generalizing v with
  | zero => rw [Nat.pow_zero, Nat.mod_one]; rfl
  | succ n ih =>
    have hsplit : v % 256 ^ (n + 1) = v % 256 + 256 * (v / 256 % 256 ^ n) := by rw [Nat.pow_succ', Nat.mod_mul]
    rw [bytesLE_succ, natLE, ih, BitVec.toNat_ofNat, hsplit]

theorem natLE_lt (l : List Byte) : natLE l < 256 ^ l.length := by
  induction l with
  | nil => decide
  | cons b l ih =>
    rw [natLE, List.length_cons, Nat.pow_succ']
    have := b.isLt
    omega

section
variable {s : State}

/-! ## Memory without errors -/

section
variable (herr : s.sys.bitErrs = []) (hpoison : s.sys.poison = []) (a : Nat)
include herr hpoison

omit hpoison in
theorem State.clearErrs_of_clean : s.clearErrs a = s := by
  rw [State.clearErrs, herr, show Table.erase ([] : Table (List Nat)) a = [] from rfl, ← herr]

omit herr in
theorem State.setPoison_of_clean : s.setPoison a false = s := by
  rw [State.setPoison, if_neg Bool.false_ne_true, hpoison, List.filter_nil, ← hpoison]

/-- A read of memory without errors changes nothing. -/
theorem State.memRead_of_clean (n : Nat) : s.memRead a n = s :=
  List.foldlRecOn (motive := fun t : State => t = s) _ _ rfl fun t ht w _ => by rw [ht, State.eccRead_of_clean _ _ herr hpoison]

omit herr in
theorem State.anyPoison_of_clean (n : Nat) : s.anyPoison a n = false := by
  rw [State.anyPoison, List.any_eq_false]
  intro w _
  rw [State.poisoned, hpoison]
  exact Bool.false_ne_true

/-- A write to memory without errors writes its bytes. -/
theorem State.memWrite_of_clean (l : List Byte) : s.memWrite a l = s.setBytes a l := by
  rw [State.memWrite]
  refine congrArg (fun t : State => t.setBytes a l) (List.foldlRecOn (motive := fun t : State => t = s) _ _ rfl fun t ht w _ => ?_)
  rw [ht, State.clearErrs_of_clean herr, State.setPoison_of_clean hpoison, State.eccRead_of_clean _ _ herr hpoison, ite_self]

end

/-- Bytes written change memory alone. -/
theorem State.setBytes_state (s : State) (a : Nat) (l : List Byte) : s.setBytes a l = { s with mem := (s.setBytes a l).mem } := by
  induction l generalizing s a with
  | nil => rfl
  | cons b l ih =>
    rw [State.setBytes, ih]
    rfl

theorem State.bytes_setBytes (s : State) (a : Nat) (l : List Byte) : (s.setBytes a l).bytes a l.length = l := by
  refine List.ext_getElem (by simp [State.bytes]) fun i h1 h2 => ?_
  simp only [State.bytes, List.getElem_map, List.getElem_range]
  rw [State.byte_setBytes, if_pos (by omega), Nat.add_sub_cancel_left,
    List.getD_eq_getElem _ _ h2]

theorem State.word_setBytes_ofNat (s : State) (a v : Nat) : (s.setBytes a (bytesLE 4 v)).word a = BitVec.ofNat 32 v := by
  have h := s.bytes_setBytes a (bytesLE 4 v)
  rw [bytesLE_length] at h
  rw [State.word, h, natLE_bytesLE]
  refine BitVec.eq_of_toNat_eq ?_
  rw [BitVec.toNat_ofNat, BitVec.toNat_ofNat]
  omega

theorem State.word_setBytes (s : State) (a : Nat) (w : Word) : (s.setBytes a (bytesLE 4 w.toNat)).word a = w := by
  rw [State.word_setBytes_ofNat, BitVec.ofNat_toNat, BitVec.setWidth_eq]

/-- What reads alike byte by byte reads alike. -/
theorem State.bytes_congr {s t : State} {a n : Nat} (h : ∀ i, i < n → t.byte (a + i) = s.byte (a + i)) : t.bytes a n = s.bytes a n :=
  List.map_congr_left fun i hi => h i (List.mem_range.mp hi)

end

/-- What reads alike byte by byte reads alike as a word. -/
theorem State.word_congr {s t : State} {a : Nat} (h : ∀ i, i < 4 → t.byte (a + i) = s.byte (a + i)) : t.word a = s.word a := by
  rw [State.word, State.bytes_congr h, State.word]

/-! ## Words written one after the other -/

section
variable (s : State) (a : Nat) (v : Nat → Nat) (m : Nat)

/-- `m` words written from an address. -/
def State.writeWords : State := (List.range m).foldl (fun u x => u.setBytes (a + 4 * x) (bytesLE 4 (v x))) s

theorem State.writeWords_succ : s.writeWords a v (m + 1) = (s.writeWords a v m).setBytes (a + 4 * m) (bytesLE 4 (v m)) := by
  rw [State.writeWords, List.range_succ, List.foldl_append, List.foldl_cons, List.foldl_nil, State.writeWords]

theorem State.writeWords_state : s.writeWords a v m = { s with mem := (s.writeWords a v m).mem } := by
  refine List.foldlRecOn (motive := fun t : State => t = { s with mem := t.mem }) _ _ rfl fun t ht x _ => ?_
  have hset := t.setBytes_state (a + 4 * x) (bytesLE 4 (v x))
  generalize t.setBytes (a + 4 * x) (bytesLE 4 (v x)) = u at hset ⊢
  rw [hset, ht]

theorem State.byte_writeWords_out {k : Nat} (h : k < a ∨ a + 4 * m ≤ k) : (s.writeWords a v m).byte k = s.byte k := by
  induction m with
  | zero => rfl
  | succ m ih => rw [s.writeWords_succ, State.byte_setBytes_out _ _ _ _ (by rw [bytesLE_length]; omega), ih (by omega)]

theorem State.word_writeWords {x : Nat} (h : x < m) : (s.writeWords a v m).word (a + 4 * x) = BitVec.ofNat 32 (v x) := by
  induction m with
  | zero => exact absurd h (Nat.not_lt_zero x)
  | succ m ih =>
    rw [s.writeWords_succ]
    by_cases hx : x = m
    · subst hx
      exact State.word_setBytes_ofNat _ _ _
    · refine (State.word_congr fun i hi => State.byte_setBytes_out _ _ _ _ (by omega)).trans (ih (by omega))

/-- Words written one after the other to memory without errors. -/
theorem State.memWrite_words {s : State} (herr : s.sys.bitErrs = []) (hpoison : s.sys.poison = []) (a : Nat) (v : Nat → Nat) (l : List Nat) :
    l.foldl (fun u x => u.memWrite (a + 4 * x) (bytesLE 4 (v x))) s = l.foldl (fun u x => u.setBytes (a + 4 * x) (bytesLE 4 (v x))) s := by
  induction l generalizing s with
  | nil => rfl
  | cons x l ih =>
    have hsys : (s.setBytes (a + 4 * x) (bytesLE 4 (v x))).sys = s.sys := by rw [s.setBytes_state]
    rw [List.foldl_cons, List.foldl_cons, State.memWrite_of_clean herr hpoison]
    exact ih (by rw [hsys, herr]) (by rw [hsys, hpoison])

end

/-- The frame of memory. -/
def Frame.mem : Frame :=
  ⟨fun s t => { s with regs := t.regs, mem := t.mem }, fun _ => rfl, fun _ _ _ => rfl, fun _ _ _ => rfl, fun _ _ _ => rfl,
    fun _ _ => ⟨rfl, rfl, rfl, rfl, rfl, rfl, rfl⟩⟩

theorem State.setBytes_only (s : State) (a : Nat) (l : List Byte) (m : List Nat) : s.Only Frame.mem (s.setBytes a l) m :=
  ⟨by rw [s.setBytes_state]; rfl, State.regsBut_of_regs _ (by rw [s.setBytes_state])⟩

/-- What is held back for a register takes effect. -/
theorem State.commit_sameBut (s : State) (l : List Nat) : s.sameBut (s.commit l) l := by
  refine ⟨rfl, fun k hk => ⟨rfl, ?_⟩⟩
  rw [State.effReg, State.commit, Table.get_foldl_erase, if_neg hk]
  rfl

end Sys2Proof.Machine

/-!
Planes, the temperature source and the shading-store window (R155, R156, R166, R187).
-/
namespace Sys2Proof.Machine

/-! ## PLn_CFG written -/

section
variable {s : State} (hu : s.usual) (path : Path) (n : Fin 48) (w : Word)

/-- PLn_CFG as written with EN. -/
def State.planeAsked (s : State) (path : Path) (n : Nat) (w : Word) : State := s.writeRow path (R.plCfg n) Row.plCfg (F.plCfg.EN.put w 1) false

theorem State.planeAsked_sameBut (n : Nat) : s.sameBut (s.planeAsked path n w) [R.plCfg n] := s.writeRow_sameBut _ _ _ _

theorem State.fld_planeAsked (n : Nat) : (s.planeAsked path n w).fld (R.plCfg n) F.plCfg.EN = 1 ∧
    (s.planeAsked path n w).fld (R.plCfg n) F.plCfg.GRP = F.plCfg.GRP.get w ∧
    (s.planeAsked path n w).fld (R.plCfg n) F.plCfg.WIDTH = F.plCfg.WIDTH.get w ∧
    (s.planeAsked path n w).fld (R.plCfg n) F.plCfg.SHADE = F.plCfg.SHADE.get w := by
  have htakes : ∀ f : Fld, f.lo + f.width ≤ 32 → Row.plCfg.takesFld f = true →
      (s.planeAsked path n w).fld (R.plCfg n) f = f.get (F.plCfg.EN.put w 1) := fun f hf h => State.fld_writeRow_of_takes _ _ _ _ hf h
  refine ⟨?_, ?_, ?_, ?_⟩
  · rw [htakes _ (by decide) (by decide), Fld.get_put _ _ _ (by decide)]
    rfl
  · rw [htakes _ (by decide) (by decide), Fld.get_put_apart _ _ _ _ (by decide) (by decide) (by decide)]
  · rw [htakes _ (by decide) (by decide), Fld.get_put_apart _ _ _ _ (by decide) (by decide) (by decide)]
  · rw [htakes _ (by decide) (by decide), Fld.get_put_apart _ _ _ _ (by decide) (by decide) (by decide)]

theorem grpCtl_ne_plCfg (g n : Nat) (hg : g < 4) : R.grpCtl g ≠ R.plCfg n := by simp only [R.grpCtl, R.plCfg]; omega

/-- A plane whose groups, before and after, are not busy is written. -/
theorem State.writeOwned_plane (n : Nat) (hbefore : s.grpBusy (s.fld (R.plCfg n) F.plCfg.GRP) = false) (hafter : s.grpBusy (F.plCfg.GRP.get w) = false) :
    s.writeOwned path (R.plCfg n) Row.plCfg (F.plCfg.EN.put w 1) F.plCfg.GRP (s.grpBusy (s.fld (R.plCfg n) F.plCfg.GRP))
      (s.grpBusy (F.plCfg.GRP.get (F.plCfg.EN.put w 1))) = s.planeAsked path n w := by
  have hget : F.plCfg.GRP.get (F.plCfg.EN.put w 1) = F.plCfg.GRP.get w := Fld.get_put_apart _ _ _ _ (by decide) (by decide) (by decide)
  rw [State.writeOwned, hbefore, hget, hafter, if_neg (by simp), State.planeAsked]

/-- The plane's register takes its values at once, or later. -/
theorem State.docAtOnce_sameBut (t : State) (g off : Nat) : t.sameBut (t.docAtOnce g off) [off] := by
  rw [State.docAtOnce]
  split
  · exact t.commit_sameBut [off]
  · exact State.sameBut_refl t _

theorem State.grpBusy_of_off {g : Nat} (h : s.fld (R.grpCtl g) F.grpCtl.EN = 0) : s.grpBusy g = false := by
  rw [State.grpBusy, State.bit_eq_false h, Bool.false_and]

theorem State.plCfgWrite_off (hoff : ∀ g, g < 4 → s.fld (R.grpCtl g) F.grpCtl.EN = 0) (n : Nat) :
    s.plCfgWrite path n (F.plCfg.EN.put w 1) = s.planeAsked path n w := by
  have hb : s.grpBusy (s.fld (R.plCfg n) F.plCfg.GRP) = false := State.grpBusy_of_off (hoff _ (BitVec.isLt _))
  have ha : s.grpBusy (F.plCfg.GRP.get w) = false := State.grpBusy_of_off (hoff _ (BitVec.isLt _))
  have hg : (s.planeAsked path n w).fld (R.plCfg n) F.plCfg.GRP < 4 := BitVec.isLt _
  rw [State.plCfgWrite, State.writeOwned_plane path w n hb ha]
  refine if_neg ?_
  have hen : (s.planeAsked path n w).bit (R.grpCtl ((s.planeAsked path n w).fld (R.plCfg n) F.plCfg.GRP)) F.grpCtl.EN = false := by
    refine State.bit_eq_false (((State.planeAsked_sameBut path w n).fld (by simpa using grpCtl_ne_plCfg _ n hg) _).trans ?_)
    exact hoff _ hg
  rw [hen, Bool.and_false]
  decide

include hu in
theorem exec_planeEnableWrite_off (hacc : s.accessible path (R.plCfg n) = true) (hoff : ∀ g, g < 4 → s.fld (R.grpCtl g) F.grpCtl.EN = 0) :
    ∃ t, exec (.planeEnableWrite path n w) s = .next t ∧ s.sameBut t [R.plCfg n] ∧ t.fld (R.plCfg n) F.plCfg.EN = 1 ∧
      t.fld (R.plCfg n) F.plCfg.GRP = F.plCfg.GRP.get w ∧ t.fld (R.plCfg n) F.plCfg.WIDTH = F.plCfg.WIDTH.get w ∧
      t.fld (R.plCfg n) F.plCfg.SHADE = F.plCfg.SHADE.get w := by
  have hexec : exec (.planeEnableWrite path n w) s =
      State.done ((s.planeAsked path n w).docAtOnce ((s.planeAsked path n w).fld (R.plCfg n) F.plCfg.GRP) (R.plCfg n)) :=
    congrArg State.done ((State.onWrite_of _ _ _ _ hacc).trans
      (congrArg (fun t : State => t.docAtOnce (t.fld (R.plCfg n) F.plCfg.GRP) (R.plCfg n)) (State.plCfgWrite_off path w hoff n)))
  have hasked := State.planeAsked_sameBut (s := s) path w n
  have hfld := State.fld_planeAsked (s := s) path w n
  generalize s.planeAsked path n w = c at hexec hasked hfld
  have hdoc := c.docAtOnce_sameBut (c.fld (R.plCfg n) F.plCfg.GRP) (R.plCfg n)
  have hregs : ∀ g o, (c.docAtOnce g o).regs = c.regs := fun g o => by
    rw [State.docAtOnce]
    split <;> rfl
  have hkeep : ∀ f, (c.docAtOnce (c.fld (R.plCfg n) F.plCfg.GRP) (R.plCfg n)).fld (R.plCfg n) f = c.fld (R.plCfg n) f :=
    fun f => congrArg f.get (State.reg_of_regs _ _ (hregs _ _) _)
  obtain ⟨h1, h2, h3, h4⟩ := hfld
  have hlist : endIgnores [R.plCfg n] := endIgnores_of (by
    simp only [List.mem_singleton, forall_eq, R.plCfg]
    omega)
  exact ⟨_, hexec.trans (State.done_of_regs hu (hasked.trans hdoc) hlist), hasked.trans hdoc, (hkeep _).trans h1, (hkeep _).trans h2,
    (hkeep _).trans h3, (hkeep _).trans h4⟩

/-- The statement's reading of the written register. -/
theorem State.reg_planeAsked (n : Nat) :
    (s.planeAsked path n w).reg = (s.setReg (R.plCfg n) (Row.plCfg.written (s.reg (R.plCfg n)) (F.plCfg.EN.put w 1))).reg := by
  funext o
  rw [State.planeAsked, State.reg_writeRow, State.reg_setReg]

theorem State.grpNeed_congr {t : State} (h : t.reg = s.reg) (g : Nat) : t.grpNeed g = s.grpNeed g := by
  have hfld := State.fld_congr h
  have hin : t.planeIn = s.planeIn := by
    funext n k
    rw [State.planeIn, State.bit_congr h, hfld, State.planeIn]
  rw [State.grpNeed, State.groupPlanes, hin, hfld, State.grpNeed, State.groupPlanes]

/-- A plane of width 0 in an enabled group is refused. -/
theorem State.plCfgWrite_refused (hgrp : F.plCfg.GRP.get w = s.fld (R.plCfg n) F.plCfg.GRP)
    (hen : s.fld (R.grpCtl (s.fld (R.plCfg n) F.plCfg.GRP)) F.grpCtl.EN = 1) (hst : s.grpState (s.fld (R.plCfg n) F.plCfg.GRP) = 1)
    (hidle : s.lpIdle (s.fld (R.grpCtl (s.fld (R.plCfg n) F.plCfg.GRP)) F.grpCtl.LP) = true) (hwidth : F.plCfg.WIDTH.get w = 0)
    (hneed : (s.planeAsked path n w).grpNeed (s.fld (R.plCfg n) F.plCfg.GRP) ≤
      s.partBytes (s.fld (R.grpCtl (s.fld (R.plCfg n) F.plCfg.GRP)) F.grpCtl.ABP)) :
    s.plCfgWrite path n (F.plCfg.EN.put w 1) = s.grpRefuse (s.fld (R.plCfg n) F.plCfg.GRP) 3 := by
  have hg : s.fld (R.plCfg n) F.plCfg.GRP < 4 := BitVec.isLt _
  have hb : s.grpBusy (s.fld (R.plCfg n) F.plCfg.GRP) = false := by rw [State.grpBusy, hst, hidle]; simp
  have hasked := State.planeAsked_sameBut (s := s) path w n
  obtain ⟨hEN, hGRP, hW, -⟩ := State.fld_planeAsked (s := s) path w n
  rw [State.plCfgWrite, State.writeOwned_plane path w n hb (by rw [hgrp]; exact hb)]
  generalize s.planeAsked path n w = c at hneed hasked hEN hGRP hW
  rw [hgrp] at hGRP
  rw [hGRP]
  generalize s.fld (R.plCfg n) F.plCfg.GRP = g at hgrp hen hst hidle hneed hg hb hGRP
  have hctl : c.reg (R.grpCtl g) = s.reg (R.grpCtl g) := (hasked.2 _ (by simpa using grpCtl_ne_plCfg g n hg)).1
  have hfld : ∀ f, c.fld (R.grpCtl g) f = s.fld (R.grpCtl g) f := fun f => congrArg f.get hctl
  have h0 : (F.plCfg.EN.put w 1).getLsbD 0 = true := by
    rw [Fld.put_bit _ _ _ _ (by decide) (by decide), if_pos (by decide)]
    decide
  have habp : s.fld (R.grpCtl g) F.grpCtl.ABP < 16 := BitVec.isLt _
  have hbytes : c.partBytes (s.fld (R.grpCtl g) F.grpCtl.ABP) = s.partBytes (s.fld (R.grpCtl g) F.grpCtl.ABP) := by
    rw [State.partBytes, State.partBytes, State.partSpan_congr ((hasked.2 _ ?_).1)]
    simp only [List.mem_singleton, R.sysAbpCfg, R.plCfg]
    omega
  have hrange : (c.groupPlanes g).any (fun m => c.planeRangeBad m) = true := by
    refine List.any_eq_true.mpr ⟨n, List.mem_filter.mpr ⟨List.mem_range.mpr n.isLt, ?_⟩, ?_⟩
    · rw [State.planeIn, State.bit_eq_true hEN, hGRP]
      simp
    · rw [State.planeRangeBad, hW, hwidth]
      simp
  refine (if_pos ?_).trans ?_
  · rw [h0, State.bit_eq_true hEN, State.bit_eq_true ((hfld _).trans hen)]
    rfl
  · dsimp only
    have hcause : ∀ x : Nat, (if decide (s.partBytes (s.fld (R.grpCtl g) F.grpCtl.ABP) < c.grpNeed g) = true then 2
        else if ((c.groupPlanes g).any fun m => c.planeRangeBad m) = true then 3 else x) = 3 :=
      fun x => (if_neg (by simpa using hneed)).trans (if_pos hrange)
    rw [hfld, hbytes, hcause]
    exact if_neg (by decide)

theorem State.fld_grpRefuse (t : State) (g cause : Nat) (hc : cause < 8) : (t.grpRefuse g cause).fld (R.grpStat g) F.grpStat.CFG_ERR = 1 ∧
    (t.grpRefuse g cause).fld (R.grpStat g) F.grpStat.CFG_CAUSE = cause := by
  refine ⟨?_, ?_⟩
  · rw [State.grpRefuse, State.fld_setFld_apart _ _ _ _ _ (by decide) (by decide) (by decide), State.fld_setFld _ _ _ _ (by decide)]
    rfl
  · rw [State.grpRefuse, State.fld_setFld _ _ _ _ (by decide)]
    exact Nat.mod_eq_of_lt hc

include hu in
theorem exec_planeEnableWrite_refused (hacc : s.accessible path (R.plCfg n) = true) (hgrp : F.plCfg.GRP.get w = s.fld (R.plCfg n) F.plCfg.GRP)
    (hen : s.fld (R.grpCtl (s.fld (R.plCfg n) F.plCfg.GRP)) F.grpCtl.EN = 1) (hst : s.grpState (s.fld (R.plCfg n) F.plCfg.GRP) = 1)
    (hidle : s.lpIdle (s.fld (R.grpCtl (s.fld (R.plCfg n) F.plCfg.GRP)) F.grpCtl.LP) = true) (hwidth : F.plCfg.WIDTH.get w = 0)
    (hneed : (s.setReg (R.plCfg n) (Row.plCfg.written (s.reg (R.plCfg n)) (F.plCfg.EN.put w 1))).grpNeed (s.fld (R.plCfg n) F.plCfg.GRP) ≤
      s.partBytes (s.fld (R.grpCtl (s.fld (R.plCfg n) F.plCfg.GRP)) F.grpCtl.ABP))
    (hsel : s.selOn (R.grpStripSel (s.fld (R.plCfg n) F.plCfg.GRP)) = true) :
    ∃ t, exec (.planeEnableWrite path n w) s = .next t ∧ s.sameBut t [R.grpStat (s.fld (R.plCfg n) F.plCfg.GRP)] ∧
      t.fld (R.grpStat (s.fld (R.plCfg n) F.plCfg.GRP)) F.grpStat.CFG_ERR = 1 ∧
      t.fld (R.grpStat (s.fld (R.plCfg n) F.plCfg.GRP)) F.grpStat.CFG_CAUSE = 3 := by
  rw [← State.grpNeed_congr (State.reg_planeAsked path w n)] at hneed
  have hwrite := State.plCfgWrite_refused path n w hgrp hen hst hidle hwidth hneed
  have hg : s.fld (R.plCfg n) F.plCfg.GRP < 4 := BitVec.isLt _
  have href : s.sameBut (s.grpRefuse (s.fld (R.plCfg n) F.plCfg.GRP) 3) [R.grpStat (s.fld (R.plCfg n) F.plCfg.GRP)] :=
    ((State.sameBut_refl s _).setFld _ _ (by simp)).setFld _ _ (by simp)
  have hdoc : (s.grpRefuse (s.fld (R.plCfg n) F.plCfg.GRP) 3).docAtOnce
      ((s.grpRefuse (s.fld (R.plCfg n) F.plCfg.GRP) 3).fld (R.plCfg n) F.plCfg.GRP) (R.plCfg n) = s.grpRefuse (s.fld (R.plCfg n) F.plCfg.GRP) 3 := by
    rw [href.fld (by simp only [List.mem_singleton, R.grpStat, R.plCfg]; omega), State.docAtOnce]
    refine if_neg ?_
    rw [State.selOn, (href.2 _ (by simp only [List.mem_singleton, R.grpStat, R.grpStripSel]; omega)).1, ← State.selOn, hsel]
    simp
  have hexec : exec (.planeEnableWrite path n w) s = State.done (s.grpRefuse (s.fld (R.plCfg n) F.plCfg.GRP) 3) :=
    congrArg State.done ((State.onWrite_of _ _ _ _ hacc).trans
      ((congrArg (fun t : State => t.docAtOnce (t.fld (R.plCfg n) F.plCfg.GRP) (R.plCfg n)) hwrite).trans hdoc))
  obtain ⟨h1, h2⟩ := s.fld_grpRefuse (s.fld (R.plCfg n) F.plCfg.GRP) 3 (by decide)
  refine ⟨_, hexec.trans (State.done_of_regs hu href (endIgnores_of ?_)), href, h1, h2⟩
  simp only [List.mem_singleton, forall_eq, R.grpStat]
  omega

end

/-! ## The temperature source (R166) -/

section
variable {s : State} (hu : s.usual) (g : Fin 4)

/-- The group's temperature is late. -/
def State.tempLate (s : State) (g : Nat) : State :=
  (s.setGroup g { s.group g with tempLate := true }).setFld (R.grpStat g) F.grpStat.TEMP_BAD 1

theorem State.tempLate_only (g : Nat) : s.Only Frame.shdEff (s.tempLate g) [R.grpStat g] :=
  ((State.Only.refl s _).trans (State.setGroup_onlyEff _ _ _ _)).setFld _ _ (by simp)

theorem State.grpTemp_of_late {t : State} {g : Nat} (hhost : t.fld (R.grpTsrc g) F.grpTsrc.HOST = 0) (hlate : (t.group g).tempLate = true) :
    (t.grpTemp g).2 = true := by
  rw [State.grpTemp, State.bit_eq_false hhost]
  refine (congrArg Prod.snd (if_neg (by decide))).trans ?_
  dsimp only
  rw [hlate]
  split
  · rw [Bool.not_true, Bool.and_false]
    rfl
  · rfl

include hu in
theorem exec_tempSourceTimeout_late (hhost : s.fld (R.grpTsrc g) F.grpTsrc.HOST = 0) :
    ∃ t, exec (.tempSourceTimeout g) s = .next t ∧ t = { s with regs := t.regs, shd := t.shd } ∧
      t.fld (R.grpStat g) F.grpStat.TEMP_BAD = 1 ∧ (t.group g).tempLate = true ∧ (t.grpTemp g).2 = true ∧
      (∀ h, h ≠ g.val → t.group h = s.group h) ∧ (∀ off, off ≠ R.grpStat g → t.reg off = s.reg off) := by
  have hexec : exec (.tempSourceTimeout g) s = State.done (s.tempLate g) :=
    congrArg State.done (if_neg (by rw [State.bit_eq_false hhost]; decide))
  have hf := State.tempLate_only (s := s) g.val
  have hgroup : ∀ h, (s.tempLate g).group h = if h = g.val then { s.group g with tempLate := true } else s.group h := fun h => by
    rw [State.tempLate, State.group_setFld, State.group_setGroup]
  have hlate : ((s.tempLate g).group g).tempLate = true := by rw [hgroup, if_pos rfl]
  have hlist : endIgnores [R.grpStat g] := endIgnores_of (by
    simp only [List.mem_singleton, forall_eq, R.grpStat]
    omega)
  refine ⟨_, hexec.trans (hf.done hu hlist), rfl, ?_, hlate, State.grpTemp_of_late ?_ hlate, fun h hh => by rw [hgroup, if_neg hh],
    fun off ho => hf.reg _ (by simpa using ho)⟩
  · rw [State.tempLate, State.fld_setFld _ _ _ _ (by decide)]
    rfl
  · rw [hf.fld (by simp only [List.mem_singleton, R.grpTsrc, R.grpStat]; omega), hhost]

include hu in
theorem exec_tempSourceTimeout_host (hhost : s.fld (R.grpTsrc g) F.grpTsrc.HOST = 1) : exec (.tempSourceTimeout g) s = .next s :=
  (congrArg State.done (if_pos (State.bit_eq_true hhost))).trans (State.done_of_usual hu)

end

/-! ## The shading-store window (R187) -/

section
variable {s : State} (hu : s.usual) (off : BitVec 17) (w : Word) (hacc : s.accessible .bar0 (0xE0000 + off.toNat / 4 * 4) = true)
include hu hacc

theorem exec_shadingWindowWrite_off (hpd : s.pdOn 130 = false) : exec (.shadingWindowWrite off w) s = .next s := by
  have hwin : s.shadeWindow .bar0 (off.toNat / 4 * 4) w = s := if_pos (by rw [hpd]; rfl)
  exact (congrArg State.done ((State.onWrite_of _ _ _ _ hacc).trans hwin)).trans (State.done_of_usual hu)

theorem exec_shadingWindowWrite_used (hpd : s.pdOn 130 = true)
    (huse : s.coefInUse (s.fld R.shdCwin F.shdCwin.PAGE * 0x20000 + off.toNat / 4 * 4) = true) :
    ∃ t, exec (.shadingWindowWrite off w) s = .next t ∧ s.sameBut t [R.sysErrStat, R.sysErrAddr] ∧
      t.fld R.sysErrStat F.sysErrStat.IDLE_WR = 1 := by
  have hwin : s.shadeWindow .bar0 (off.toNat / 4 * 4) w = s.errIdle .bar0 (0xE0000 + off.toNat / 4 * 4) :=
    (if_neg (by rw [hpd]; decide)).trans (if_pos huse)
  have hf : s.sameBut (s.errIdle .bar0 (0xE0000 + off.toNat / 4 * 4)) [R.sysErrStat, R.sysErrAddr] :=
    (State.err_sameBut _ _ _ _).mono (by simp)
  exact ⟨_, (congrArg State.done ((State.onWrite_of _ _ _ _ hacc).trans hwin)).trans (State.done_of_regs hu hf (endIgnores_of (by decide))), hf,
    State.fld_err_same _ _ _ _ (by decide) rfl⟩

theorem exec_shadingWindowWrite_stored (hpd : s.pdOn 130 = true)
    (huse : s.coefInUse (s.fld R.shdCwin F.shdCwin.PAGE * 0x20000 + off.toNat / 4 * 4) = false)
    (herr : s.sys.bitErrs = []) (hpoison : s.sys.poison = []) :
    ∃ t, exec (.shadingWindowWrite off w) s = .next t ∧ t = { s with mem := t.mem } ∧
      t.word (0x1580000 + (s.fld R.shdCwin F.shdCwin.PAGE * 0x20000 + off.toNat / 4 * 4)) = w ∧
      ∀ b, b < 0x1580000 + (s.fld R.shdCwin F.shdCwin.PAGE * 0x20000 + off.toNat / 4 * 4) ∨
        0x1580000 + (s.fld R.shdCwin F.shdCwin.PAGE * 0x20000 + off.toNat / 4 * 4) + 4 ≤ b → t.byte b = s.byte b := by
  have hwin : s.shadeWindow .bar0 (off.toNat / 4 * 4) w =
      s.setBytes (0x1580000 + (s.fld R.shdCwin F.shdCwin.PAGE * 0x20000 + off.toNat / 4 * 4)) (bytesLE 4 w.toNat) :=
    (if_neg (by rw [hpd]; decide)).trans ((if_neg (by rw [huse]; decide)).trans (State.memWrite_of_clean herr hpoison _ _))
  generalize s.fld R.shdCwin F.shdCwin.PAGE * 0x20000 + off.toNat / 4 * 4 = a at hwin ⊢
  refine ⟨_, (congrArg State.done ((State.onWrite_of _ _ _ _ hacc).trans hwin)).trans
    (((s.setBytes_only _ _ []).done hu (endIgnores_of (by simp)))), s.setBytes_state _ _, s.word_setBytes _ w, fun b hb => ?_⟩
  exact s.byte_setBytes_out _ _ _ (by rw [bytesLE_length]; omega)

end

/-- Settles O21: planes are enabled or refused, the temperature source goes bad, and what a write through the shading-store window does. -/
theorem planesTemperatureAndStore : Obligations.PlanesTemperatureAndStore := by
  unfold Obligations.PlanesTemperatureAndStore
  intro s hu
  exact ⟨fun path n w hacc => ⟨exec_planeEnableWrite_off hu path n w hacc, exec_planeEnableWrite_refused hu path n w hacc⟩,
    fun g => ⟨exec_tempSourceTimeout_late hu g, exec_tempSourceTimeout_host hu g⟩,
    fun off w hacc => ⟨exec_shadingWindowWrite_off hu off w hacc, exec_shadingWindowWrite_used hu off w hacc,
      exec_shadingWindowWrite_stored hu off w hacc⟩⟩

end Sys2Proof.Machine

/-!
Strip events and the end of COMPUTE (R168, R173, R177-R179).
-/
namespace Sys2Proof.Machine

theorem State.commit_onlyEff (s : State) (l m : List Nat) : s.Only Frame.eff (s.commit l) m := ⟨rfl, State.regsBut_of_regs _ rfl⟩

/-! ## The frame of a trim evaluation (R173, R182) -/

/-- The registers of a trim evaluation apart from GRPg_STAT. -/
def trimRegs (g : Nat) : List Nat :=
  [R.grpQ0 g, R.grpQ1 g, R.grpRejCnt g] ++ ((List.range 48).map R.plAlign ++ (List.range 384).map R.shdTrim1)

theorem mem_trimRegs {g o : Nat} : o ∈ trimRegs g ↔ o = R.grpQ0 g ∨ o = R.grpQ1 g ∨ o = R.grpRejCnt g ∨
    (∃ n, n < 48 ∧ R.plAlign n = o) ∨ ∃ e, e < 384 ∧ R.shdTrim1 e = o := by
  simp [trimRegs]

/-- Registers of the groups' control, status and validity are not among them. -/
theorem notMem_trimRegs {g o : Nat} (ho : 0x10000 ≤ o ∧ o < 0x10140 ∧ (o % 64 < 0x2C ∨ 0x39 ≤ o % 64)) : o ∉ trimRegs g := by
  rw [mem_trimRegs]
  simp only [R.grpQ0, R.grpQ1, R.grpRejCnt, R.plAlign, R.shdTrim1]
  rintro (h | h | h | ⟨n, hn, h⟩ | ⟨e, he, h⟩) <;> omega

theorem groupPlanes_lt {s : State} {g n : Nat} (h : n ∈ s.groupPlanes g) : n < 48 := List.mem_range.mp (List.mem_filter.mp h).1

theorem State.fiducial_edges (s : State) (g : Nat) (c : Capture) (full : Bool) :
    (s.fiducial g c full).edges = (s.groupPlanes g).map (fun n => (n, s.fidEdge g c n)) := by
  rw [State.fiducial]

theorem State.fiducial_plane {s : State} {g : Nat} {c : Capture} {full : Bool} {e : Nat × Option Rat} (h : e ∈ (s.fiducial g c full).edges) :
    e.1 ∈ s.groupPlanes g := by
  rw [State.fiducial_edges] at h
  obtain ⟨n, hn, rfl⟩ := List.mem_map.mp h
  exact hn

theorem State.trimOf_entry {s : State} {g e : Nat} {c : Capture} {r : TrimResult} (h : s.trimOf g c e = some r) : r.entry = e := by
  rw [State.trimOf] at h
  dsimp only at h
  split at h
  · exact absurd h (by simp)
  · split at h <;> exact (Option.some.inj h) ▸ rfl

/-- MEAS of the planes written with their measured edges. -/
def State.measureEdges (s : State) (fid : FidResult) : State :=
  fid.edges.foldl (fun t e => match e.2 with
    | some q =>
      (t.setFld (R.plAlign e.1) F.plAlign.MEAS (roundHalf (16 * (fid.top - q))).toNat).setFld (R.plAlign e.1) F.plAlign.MEAS_V 1
    | none => t) s

theorem State.measureEdges_only {F : Frame} (s : State) (fid : FidResult) (l : List Nat) (h : ∀ e ∈ fid.edges, R.plAlign e.1 ∈ l) :
    s.Only F (s.measureEdges fid) l := by
  refine State.Only.foldl _ _ (State.Only.refl s _) fun v e he => ?_
  obtain ⟨n, q⟩ := e
  cases q with
  | none => exact State.Only.refl v _
  | some q => exact ((State.Only.refl v _).setFld _ _ (h _ he)).setFld _ _ (h _ he)

/-- Trim entries written. -/
def State.writeTrimEntries (s : State) (trims : List TrimResult) : State :=
  trims.foldl (fun t r =>
    let w := BitVec.ofNat 32 (r.md % 65536 + r.tg.toNat % 65536 * 65536)
    (t.setReg (R.shdTrim1 r.entry) w).commit [R.shdTrim1 r.entry]) s

theorem State.writeTrimEntries_only (s : State) (trims : List TrimResult) (l : List Nat) (h : ∀ r ∈ trims, R.shdTrim1 r.entry ∈ l) :
    s.Only Frame.eff (s.writeTrimEntries trims) l :=
  State.Only.foldl _ _ (State.Only.refl s _) fun v r hr => ((State.Only.refl v _).setReg _ (h r hr)).trans (State.commit_onlyEff _ _ _)

/-- What a trim evaluation leaves: the group's other fields, and GRPg_STAT apart from TRIM_REJ and REASON. -/
theorem State.evaluateTrim_spec (s : State) (g : Nat) (hg : g < 4) (c : Capture) : ∃ m st,
    s.Only Frame.eff m (R.grpStat g :: trimRegs g) ∧
    (∀ f : Fld, f.lo + f.width ≤ 32 →
      (F.grpStat.TRIM_REJ.lo + F.grpStat.TRIM_REJ.width ≤ f.lo ∨ f.lo + f.width ≤ F.grpStat.TRIM_REJ.lo) →
      (F.grpStat.REASON.lo + F.grpStat.REASON.width ≤ f.lo ∨ f.lo + f.width ≤ F.grpStat.REASON.lo) →
      m.fld (R.grpStat g) f = s.fld (R.grpStat g) f) ∧
    s.evaluateTrim g c = m.setGroup g { m.group g with trimStatus := some st } := by
  have hstat : R.grpStat g ∉ trimRegs g := notMem_trimRegs (by simp only [R.grpStat]; omega)
  delta State.evaluateTrim
  extract_lets pls bn wn get unif counts trims fid reason tgs s1 s2 s3 s4 src s5
  have h2 : s.Only Frame.eff s2 (trimRegs g) :=
    (((((State.Only.refl s _).setFld _ _ (by simp [trimRegs])).setFld _ _ (by simp [trimRegs])).setFld _ _ (by simp [trimRegs])).setFld _ _
      (by simp [trimRegs])).setFld _ _ (by simp [trimRegs])
  have h3 : s.Only Frame.eff s3 (trimRegs g) := h2.trans (State.measureEdges_only s2 fid _ fun e he =>
    mem_trimRegs.mpr (.inr (.inr (.inr (.inl ⟨e.1, groupPlanes_lt (State.fiducial_plane he), rfl⟩)))))
  by_cases hr : reason = 0
  · have h4 : s.Only Frame.eff s4 (trimRegs g) := h3.trans (State.writeTrimEntries_only s3 trims _ fun r hr => by
      obtain ⟨e, he, hsome⟩ := List.mem_filterMap.mp hr
      have hentry : r.entry = e := by
        split at hsome
        · split at hsome
          · exact State.trimOf_entry hsome
          · exact absurd hsome (by simp)
        · exact absurd hsome (by simp)
      exact mem_trimRegs.mpr (.inr (.inr (.inr (.inr ⟨e, List.mem_range.mp he, by rw [hentry]⟩)))))
    exact ⟨s4, St.success, h4.mono (List.subset_cons_self _ _), fun f _ _ _ => h4.fld hstat f, if_pos hr⟩
  · have h5 : s.Only Frame.eff s5 (R.grpStat g :: trimRegs g) :=
      (((h3.mono (List.subset_cons_self _ _)).setFld _ _ (by simp)).setFld _ _ (by simp)).countFld _ (by simp [trimRegs])
    refine ⟨s5, St.calRejected, h5, fun f hf h1 h2 => ?_, if_neg hr⟩
    have hcount : State.fld s5 (R.grpStat g) f =
        ((s3.setFld (R.grpStat g) F.grpStat.TRIM_REJ 1).setFld (R.grpStat g) F.grpStat.REASON reason).fld (R.grpStat g) f :=
      ((State.Only.refl (F := Frame.eff) _ [R.grpRejCnt g]).countFld _ (by simp)).fld (by
        simp only [List.mem_singleton, R.grpStat, R.grpRejCnt]; omega) f
    rw [hcount, State.fld_setFld_apart _ _ _ _ _ (by decide) hf h2.symm, State.fld_setFld_apart _ _ _ _ _ (by decide) hf h1.symm, h3.fld hstat]

end Sys2Proof.Machine

/-!
O23: strip events and the end of COMPUTE.
-/
namespace Sys2Proof.Machine

/-! ## Strip events (R168) -/

section
variable {s : State} (hu : s.usual) (g : Fin 4)

theorem State.seamBias_off {g : Nat} (h : s.fld (R.seamCfg g) F.seamCfg.EN = 0) : s.seamBias g = s := by
  rw [State.seamBias, State.bit_eq_false h]
  exact if_neg (by rw [Bool.false_and]; decide)

theorem grpStat_endIgnores (g : Fin 4) : endIgnores [R.grpStat g] := endIgnores_of (by
  simp only [List.mem_singleton, forall_eq, R.grpStat]
  omega)

/-- A strip event is that of R168 where no seam follows it. -/
theorem exec_stripEvent_of (hsel : s.selOn (R.grpStripSel g) = true) (hseam : s.fld (R.seamCfg g) F.seamCfg.EN = 0) {t : State}
    (ht : s.stripEvent g = t) (hf : s.Only Frame.shdEff t [R.grpStat g]) (hu : s.usual) : exec (.stripEvent g) s = .next t := by
  have hseam' : t.fld (R.seamCfg g) F.seamCfg.EN = 0 := by
    rw [hf.fld (by simp only [List.mem_singleton, R.seamCfg, R.grpStat]; omega), hseam]
  have hexec : exec (.stripEvent g) s = State.done (t.seamBias g) := by
    rw [← ht]
    exact congrArg State.done (if_pos hsel)
  rw [hexec, State.seamBias_off hseam']
  exact hf.done hu (grpStat_endIgnores g)

include hu

theorem exec_stripEvent_ignored (hsel : s.selOn (R.grpStripSel g) = true) (hseam : s.fld (R.seamCfg g) F.seamCfg.EN = 0) (hst : s.grpState g ≠ 1) :
    ∃ t, exec (.stripEvent g) s = .next t ∧ s.sameBut t [R.grpStat g] ∧ t.fld (R.grpStat g) F.grpStat.STRIP_IGN = 1 ∧
      t.grpState g = s.grpState g := by
  have heq : s.stripEvent g = s.setFld (R.grpStat g) F.grpStat.STRIP_IGN 1 := if_pos (by simpa using hst)
  refine ⟨_, exec_stripEvent_of g hsel hseam heq ((State.Only.refl s _).setFld _ _ (by simp)) hu, State.sameBut_setFld _ _ _ _, ?_, ?_⟩
  · rw [State.fld_setFld _ _ _ _ (by decide)]
    rfl
  · rw [State.grpState, State.fld_setFld_apart _ _ _ _ _ (by decide) (by decide) (by decide), State.grpState]

/-- A capture asked for by a strip event. -/
def Group.stripAsked (x : Group) (full : Bool) : Group := { x with
  stripDue := some full, boundary := true, trimStatus := none, fullStatus := none }

theorem exec_stripEvent_capture (hsel : s.selOn (R.grpStripSel g) = true) (hseam : s.fld (R.seamCfg g) F.seamCfg.EN = 0) (hst : s.grpState g = 1)
    (hen : s.fld (R.grpCtl g) F.grpCtl.STRIP_EN = 1) :
    ∃ t, exec (.stripEvent g) s = .next t ∧ t = { s with regs := t.regs, shd := t.shd } ∧
      t.grpState g = (if s.fld (R.grpStat g) F.grpStat.FULL_PEND = 1 then 3 else 2) ∧
      (t.group g).stripDue = some (s.fld (R.grpStat g) F.grpStat.FULL_PEND == 1) ∧ (t.group g).boundary = true ∧
      (∀ h, h ≠ g.val → t.group h = s.group h) ∧ (∀ off, off ≠ R.grpStat g → t.reg off = s.reg off) := by
  have hbit : s.bit (R.grpStat g) F.grpStat.FULL_PEND = (s.fld (R.grpStat g) F.grpStat.FULL_PEND == 1) := by
    rw [Bool.eq_iff_iff, State.bit_iff_one rfl, beq_iff_eq]
  have heq : s.stripEvent g = (s.setFld (R.grpStat g) F.grpStat.STATE (if s.fld (R.grpStat g) F.grpStat.FULL_PEND = 1 then 3 else 2)).setGroup g
      ((s.group g).stripAsked (s.fld (R.grpStat g) F.grpStat.FULL_PEND == 1)) := by
    rw [State.stripEvent, hbit]
    refine (if_neg (by rw [hst]; decide)).trans ((if_pos (State.bit_eq_true hen)).trans ?_)
    by_cases h : s.fld (R.grpStat g) F.grpStat.FULL_PEND = 1
    · rw [if_pos h, h]
      rfl
    · have hne : (s.fld (R.grpStat g) F.grpStat.FULL_PEND == 1) = false := by simpa using h
      rw [if_neg h, hne]
      rfl
  generalize hx : (s.group g).stripAsked (s.fld (R.grpStat g) F.grpStat.FULL_PEND == 1) = x at heq
  have hdue : x.stripDue = some (s.fld (R.grpStat g) F.grpStat.FULL_PEND == 1) ∧ x.boundary = true := by
    rw [← hx, Group.stripAsked]
    exact ⟨rfl, rfl⟩
  generalize hv : (if s.fld (R.grpStat g) F.grpStat.FULL_PEND = 1 then 3 else 2) = v at heq ⊢
  have hlt : v < 8 := by
    rw [← hv]
    split <;> decide
  have hf : s.Only Frame.shdEff ((s.setFld (R.grpStat g) F.grpStat.STATE v).setGroup g x) [R.grpStat g] :=
    ((State.Only.refl s _).setFld _ _ (by simp)).trans (State.setGroup_onlyEff _ _ _ _)
  have hgroup : ∀ h, ((s.setFld (R.grpStat g) F.grpStat.STATE v).setGroup g x).group h = if h = g.val then x else s.group h := fun h => by
    rw [State.group_setGroup, State.group_setFld]
  refine ⟨_, exec_stripEvent_of g hsel hseam heq hf hu, rfl, ?_, ?_, ?_, fun h hh => (hgroup h).trans (if_neg hh),
    fun off ho => hf.reg _ (by simpa using ho)⟩
  · rw [State.grpState, State.fld, State.reg_setGroup, ← State.fld, State.fld_setFld _ _ _ _ (by decide)]
    exact Nat.mod_eq_of_lt hlt
  · rw [hgroup, if_pos rfl, hdue.1]
  · rw [hgroup, if_pos rfl, hdue.2]

theorem exec_stripEvent_boundary (hsel : s.selOn (R.grpStripSel g) = true) (hseam : s.fld (R.seamCfg g) F.seamCfg.EN = 0) (hst : s.grpState g = 1)
    (hen : s.fld (R.grpCtl g) F.grpCtl.STRIP_EN = 0) :
    ∃ t, exec (.stripEvent g) s = .next t ∧ t = { s with shd := t.shd } ∧ t.group g = { s.group g with boundary := true } ∧
      (∀ h, h ≠ g.val → t.group h = s.group h) := by
  have heq : s.stripEvent g = s.setGroup g { s.group g with boundary := true } := by
    rw [State.stripEvent]
    exact (if_neg (by rw [hst]; decide)).trans (if_neg (by rw [State.bit_eq_false hen]; decide))
  exact ⟨_, exec_stripEvent_of g hsel hseam heq (State.setGroup_onlyEff _ _ _ _) hu, rfl, (State.group_setGroup _ _ _ _).trans (if_pos rfl),
    fun h hh => (State.group_setGroup _ _ _ _).trans (if_neg hh)⟩

end

/-! ## The end of COMPUTE (R177-R179) -/

section
variable {s : State} (hu : s.usual) (hcal : s.hqe.calibs = []) (g : Fin 4) {c : Capture} (hcap : (s.group g).capture = some c)

/-- With no CALIBRATE command waiting a commit or rejection has no other consequence. -/
theorem State.groupDone_of_none {t : State} (h : t.hqe.calibs = []) (g st : Nat) : t.groupDone g st = t := by
  rw [State.groupDone, State.calibGroup, h, List.foldl_nil]

/-- The group's RESULT: low quality where a plane has too many defects. -/
def State.fullResult (s : State) (g : Nat) (c : Capture) : Nat :=
  if (s.groupPlanes g).any (fun n => decide (s.fld R.shdChk3 F.shdChk3.DEFECT_MAX < s.planeDefects g c n)) then 0x21 else 0

/-- The validity field of a set. -/
def setValid (target : Nat) : Fld := if target = 0 then F.grpSetv.VA else F.grpSetv.VB

theorem setValid_fits (target : Nat) : (setValid target).lo + (setValid target).width ≤ 32 ∧ (setValid target).width = 1 ∧ (setValid target).lo < 2 := by
  rw [setValid]
  split <;> decide

/-- GRPg_STAT and GRPg_Q2 with the result of a full capture. -/
def State.resultShown (s : State) (g result defects : Nat) : State :=
  (s.setFld (R.grpStat g) F.grpStat.RESULT result).setFld (R.grpQ2 g) F.grpQ2.DEFECT defects

/-- A group that moves to COPY. -/
def State.copyStarted (s : State) (g target : Nat) : State :=
  ((s.setFld (R.grpSetv g) (setValid target) 0).setFld (R.grpStat g) F.grpStat.STATE 5).setFld R.shdStat ⟨g, 1⟩ 1

/-- QLOW where the quality is low. -/
def State.lowShown (s : State) (g result : Nat) : State := if result = 0x21 then s.setFld (R.grpStat g) F.grpStat.QLOW 1 else s

/-- COMPUTE accepted. -/
def State.computed (s : State) (g : Nat) (c : Capture) : State :=
  let result := s.fullResult g c
  let defects := min 65535 (((s.groupPlanes g).map (fun n => s.planeDefects g c n)).foldl (· + ·) 0)
  (((s.resultShown g result defects).lowShown g result).copyStarted g (s.group g).target).setGroup g { s.group g with fullStatus := some result }

include hcap in
theorem State.computeComplete_accepted (hreason : s.fullReason g c = 0) : s.computeComplete g = s.computed g c := by
  delta State.computeComplete
  extract_lets x n
  split
  case h_1 hnone => exact absurd (hnone.symm.trans hcap) (by simp)
  case h_2 c' hsome =>
  obtain rfl : c = c' := Option.some.inj (hcap.symm.trans hsome)
  extract_lets reason s1 s2 s3 s4 src defects low result t1 t2 t3 t4
  have hlow : low = (s.groupPlanes g).any (fun n => decide (s.fld R.shdChk3 F.shdChk3.DEFECT_MAX < s.planeDefects g c n)) := List.any_map
  have hresult : result = s.fullResult g c := by
    change (if low = true then 0x21 else 0) = _
    rw [hlow, State.fullResult]
  have ht2 : t2 = t1.lowShown g result := by
    change (if low = true then _ else t1) = _
    rw [State.lowShown]
    refine if_congr ?_ rfl rfl
    change low = true ↔ (if low = true then 0x21 else 0) = 0x21
    cases low <;> simp
  refine (if_neg ?_).trans ?_
  · change ¬(s.fullReason g c != 0) = true
    rw [hreason]
    decide
  · clear_value t2
    subst ht2
    clear_value result
    subst hresult
    rfl

theorem State.lowShown_only {F : Frame} (s : State) (g result : Nat) : s.Only F (s.lowShown g result) [R.grpStat g] := by
  rw [State.lowShown]
  split
  · exact (State.Only.refl s _).setFld _ _ (by simp)
  · exact State.Only.refl s _

/-- The registers of COMPUTE accepted. -/
def computeRegs (g : Nat) : List Nat := [R.grpStat g, R.grpQ2 g, R.grpSetv g, R.shdStat]

theorem computeRegs_endIgnores (g : Fin 4) : endIgnores (computeRegs g) := endIgnores_of (by
  simp only [computeRegs, List.mem_cons, List.not_mem_nil, or_false, forall_eq_or_imp, forall_eq, R.grpStat, R.grpQ2, R.grpSetv, R.shdStat]
  omega)

theorem State.computed_only (s : State) (g : Nat) (c : Capture) : s.Only Frame.shdEff (s.computed g c) (computeRegs g) :=
  ((((((State.Only.refl s _).setFld _ _ (by simp [computeRegs])).setFld _ _ (by simp [computeRegs])).trans
    ((State.lowShown_only _ _ _).mono (by simp [computeRegs]))).setFld _ _ (by simp [computeRegs])).setFld _ _ (by simp [computeRegs])).setFld _ _
      (by simp [computeRegs]) |>.trans (State.setGroup_onlyEff _ _ _ _)

theorem State.reg_computed (s : State) (g : Nat) (c : Capture) (o : Nat) : (s.computed g c).reg o =
    (((s.resultShown g (s.fullResult g c) (min 65535 (((s.groupPlanes g).map (fun n => s.planeDefects g c n)).foldl (· + ·) 0))).lowShown g
      (s.fullResult g c)).copyStarted g (s.group g).target).reg o := by
  rw [State.computed, State.reg_setGroup]

theorem State.fullResult_cases (s : State) (g : Nat) (c : Capture) : s.fullResult g c = 0x21 ∨ s.fullResult g c = 0 := by
  rw [State.fullResult]
  split
  · exact .inl rfl
  · exact .inr rfl

/-- RESULT stays while QLOW is set. -/
theorem State.result_lowShown (s : State) (g result : Nat) :
    (s.lowShown g result).fld (R.grpStat g) F.grpStat.RESULT = s.fld (R.grpStat g) F.grpStat.RESULT := by
  rw [State.lowShown]
  split
  · exact State.fld_setFld_apart _ _ _ _ _ (by decide) (by decide) (by decide)
  · rfl

/-- What the registers show once a group moves to COPY. -/
theorem State.copyStarted_shows (t : State) (g target : Nat) : (t.copyStarted g target).grpState g = 5 ∧
    (t.copyStarted g target).fld (R.grpSetv g) (setValid target) = 0 ∧
    (t.copyStarted g target).fld (R.grpStat g) F.grpStat.RESULT = t.fld (R.grpStat g) F.grpStat.RESULT ∧
    (t.copyStarted g target).reg R.shdStat = Fld.put ⟨g, 1⟩ (t.reg R.shdStat) 1 := by
  have h1 : R.grpStat g ≠ R.shdStat := by simp only [R.grpStat, R.shdStat]; omega
  have h2 : R.grpStat g ≠ R.grpSetv g := by simp only [R.grpStat, R.grpSetv]; omega
  have h3 : R.grpSetv g ≠ R.shdStat := by simp only [R.grpSetv, R.shdStat]; omega
  refine ⟨?_, ?_, ?_, ?_⟩
  · rw [State.grpState, State.copyStarted, State.fld, State.reg_setFld_ne _ _ _ _ _ h1, ← State.fld, State.fld_setFld _ _ _ _ (by decide)]
    rfl
  · rw [State.copyStarted, State.fld, State.reg_setFld_ne _ _ _ _ _ h3, State.reg_setFld_ne _ _ _ _ _ h2.symm, ← State.fld,
      State.fld_setFld _ _ _ _ (setValid_fits target).1, Nat.zero_mod]
  · rw [State.copyStarted, State.fld, State.reg_setFld_ne _ _ _ _ _ h1, ← State.fld,
      State.fld_setFld_apart _ _ _ _ _ (by decide) (by decide) (by decide), State.fld, State.reg_setFld_ne _ _ _ _ _ h2, ← State.fld]
  · rw [State.copyStarted, State.reg_setFld_same, State.reg_setFld_ne _ _ _ _ _ h1.symm, State.reg_setFld_ne _ _ _ _ _ h3.symm]

include hu hcap in
theorem exec_computeComplete_accepted (hst : s.grpState g = 4) (hreason : s.fullReason g c = 0) :
    ∃ t, exec (.computeComplete g) s = .next t ∧ t = { s with regs := t.regs, shd := t.shd } ∧ t.grpState g = 5 ∧
      t.fld (R.grpSetv g) (if (s.group g).target = 0 then F.grpSetv.VA else F.grpSetv.VB) = 0 ∧
      (t.reg R.shdStat).getLsbD g = true ∧ (t.group g).capture = some c ∧
      t.fld (R.grpStat g) F.grpStat.RESULT =
        (if (s.groupPlanes g).any (fun n => decide (s.fld R.shdChk3 F.shdChk3.DEFECT_MAX < s.planeDefects g c n)) then 0x21 else 0) ∧
      (∀ off, off ∉ [R.grpStat g, R.grpQ2 g, R.grpSetv g, R.shdStat] → t.reg off = s.reg off) := by
  have hf := s.computed_only g c
  have hreg := s.reg_computed g c
  have hgroup : (s.computed g c).group g = { s.group g with fullStatus := some (s.fullResult g c) } := by
    rw [State.computed, State.group_setGroup, if_pos rfl]
  have heq := State.computeComplete_accepted (s := s) g hcap hreason
  have heff : s.computed g c = { s with regs := (s.computed g c).regs, shd := (s.computed g c).shd } := by
    have hlow : ∀ (t : State) r, t.lowShown g r = { t with regs := (t.lowShown g r).regs } := fun t r => by
      rw [State.lowShown]
      split <;> rfl
    rw [State.computed]
    dsimp only
    rw [hlow]
    rfl
  obtain ⟨h1, h2, h3, h4⟩ := State.copyStarted_shows ((s.resultShown g (s.fullResult g c) (min 65535 (((s.groupPlanes g).map (fun n =>
    s.planeDefects g c n)).foldl (· + ·) 0))).lowShown g (s.fullResult g c)) g (s.group g).target
  have hstate : (s.computed g c).grpState g = 5 := (congrArg F.grpStat.STATE.get (hreg _)).trans h1
  have hexec : exec (.computeComplete g) s = State.done (s.computed g c) := by
    refine congrArg State.done ((if_neg (not_not.mpr hst)).trans ?_)
    dsimp only
    rw [heq]
    exact if_neg (by rw [hstate]; decide)
  refine ⟨_, hexec.trans (hf.done hu (computeRegs_endIgnores g)), heff, hstate, (congrArg _ (hreg _)).trans h2, ?_, ?_, ?_, hf.reg⟩
  · rw [hreg, h4, Fld.put_bit _ _ _ _ (by dsimp only; omega) (by omega), if_pos (by dsimp only; omega), Nat.sub_self]
    rfl
  · rw [hgroup]
    exact hcap
  · rw [← State.fullResult, State.fld, hreg, ← State.fld, h3, State.result_lowShown, State.resultShown, State.fld,
      State.reg_setFld_ne _ _ _ _ _ (by simp only [R.grpStat, R.grpQ2]; omega), ← State.fld, State.fld_setFld _ _ _ _ (by decide)]
    rcases s.fullResult_cases g c with h | h <;> rw [h] <;> rfl

/-! A full capture rejected -/

/-- GRPg_STAT and the counter of a rejected full capture. -/
def State.rejectShown (s : State) (g reason : Nat) : State :=
  (((s.setFld (R.grpStat g) F.grpStat.FULL_REJ 1).setFld (R.grpStat g) F.grpStat.REASON reason).setFld (R.grpStat g) F.grpStat.RESULT
    St.calRejected).countFld (R.grpRejCnt g) F.grpRejCnt.FULL

/-- FULL_PEND and DRIFT_HOLD after a rejection (R178). -/
def State.rejectPend (s : State) (g rejects : Nat) (byRequest : Bool) : State :=
  if 3 ≤ rejects + 1 then (s.setFld (R.grpStat g) F.grpStat.FULL_PEND 0).setFld (R.grpStat g) F.grpStat.DRIFT_HOLD 1
  else if byRequest then s.setFld (R.grpStat g) F.grpStat.FULL_PEND 0 else s

/-- A group with its rejection counted. -/
def Group.rejected (x : Group) : Group := { x with
  rejects := if 3 ≤ x.rejects + 1 then 0 else x.rejects + 1, byRequest := false, fullStatus := some 0x20 }

/-- The state of a rejection before the capture is evaluated as a trim capture. -/
def State.rejectNoted (s : State) (g : Nat) (c : Capture) : State :=
  ((s.rejectShown g (s.fullReason g c)).rejectPend g (s.group g).rejects c.byRequest).setGroup g (s.group g).rejected

/-- COMPUTE rejected. -/
def State.computeRejected (s : State) (g : Nat) (c : Capture) : State :=
  let t := (s.rejectNoted g c).evaluateTrim g c
  (t.setFld (R.grpStat g) F.grpStat.STATE 1).setGroup g { t.group g with capture := none }

include hcap in
theorem State.computeComplete_rejected (hreason : s.fullReason g c ≠ 0) : s.computeComplete g = s.computeRejected g c := by
  delta State.computeComplete
  extract_lets x n
  split
  case h_1 hnone => exact absurd (hnone.symm.trans hcap) (by simp)
  case h_2 c' hsome =>
  obtain rfl : c = c' := Option.some.inj (hcap.symm.trans hsome)
  exact if_pos (by simpa using hreason)

/-- The registers of a rejection before its evaluation. -/
theorem State.rejectNoted_only (s : State) (g : Nat) (c : Capture) : s.Only Frame.shdEff (s.rejectNoted g c) [R.grpStat g, R.grpRejCnt g] := by
  have hshown : s.Only Frame.shdEff (s.rejectShown g (s.fullReason g c)) [R.grpStat g, R.grpRejCnt g] :=
    ((((State.Only.refl s _).setFld _ _ (by simp)).setFld _ _ (by simp)).setFld _ _ (by simp)).countFld _ (by simp)
  refine State.Only.trans ?_ (State.setGroup_onlyEff _ _ _ _)
  rw [State.rejectPend]
  split
  · exact (hshown.setFld _ _ (by simp)).setFld _ _ (by simp)
  · split
    · exact hshown.setFld _ _ (by simp)
    · exact hshown

theorem State.group_rejectNoted (s : State) (g : Nat) (c : Capture) : (s.rejectNoted g c).group g = (s.group g).rejected := by
  rw [State.rejectNoted, State.group_setGroup, if_pos rfl]

/-- A field of GRPg_STAT that the rejection's marks leave is as it was. -/
theorem State.fld_rejectPend (t : State) (g rejects : Nat) (b : Bool) {f : Fld} (hf : f.lo + f.width ≤ 32)
    (h : 5 ≤ f.lo) : (t.rejectPend g rejects b).fld (R.grpStat g) f = t.fld (R.grpStat g) f := by
  have h1 : F.grpStat.FULL_PEND.lo + F.grpStat.FULL_PEND.width ≤ f.lo := by dsimp only; omega
  have h2 : F.grpStat.DRIFT_HOLD.lo + F.grpStat.DRIFT_HOLD.width ≤ f.lo := by dsimp only; omega
  rw [State.rejectPend]
  split
  · rw [State.fld_setFld_apart _ _ _ _ _ (by decide) hf (.inr h2), State.fld_setFld_apart _ _ _ _ _ (by decide) hf (.inr h1)]
  · split
    · rw [State.fld_setFld_apart _ _ _ _ _ (by decide) hf (.inr h1)]
    · rfl

theorem State.reg_rejectNoted (s : State) (g : Nat) (c : Capture) (o : Nat) : (s.rejectNoted g c).reg o =
    ((s.rejectShown g (s.fullReason g c)).rejectPend g (s.group g).rejects c.byRequest).reg o := State.reg_setGroup _ _ _ _

theorem State.fld_rejectNoted (s : State) (g : Nat) (c : Capture) : (s.rejectNoted g c).fld (R.grpStat g) F.grpStat.FULL_REJ = 1 ∧
    (s.rejectNoted g c).fld (R.grpStat g) F.grpStat.RESULT = 0x20 := by
  have hcount : ∀ (t : State) f, (t.countFld (R.grpRejCnt g) F.grpRejCnt.FULL).fld (R.grpStat g) f = t.fld (R.grpStat g) f := fun t f =>
    ((State.Only.refl (F := Frame.eff) t [R.grpRejCnt g]).countFld _ (by simp)).fld (by
      simp only [List.mem_singleton, R.grpStat, R.grpRejCnt]; omega) f
  refine ⟨?_, ?_⟩
  · rw [State.fld, State.reg_rejectNoted, ← State.fld, State.fld_rejectPend _ _ _ _ (by decide) (by decide), State.rejectShown, hcount,
      State.fld_setFld_apart _ _ _ _ _ (by decide) (by decide) (by decide), State.fld_setFld_apart _ _ _ _ _ (by decide) (by decide) (by decide),
      State.fld_setFld _ _ _ _ (by decide)]
    rfl
  · rw [State.fld, State.reg_rejectNoted, ← State.fld, State.fld_rejectPend _ _ _ _ (by decide) (by decide), State.rejectShown, hcount,
      State.fld_setFld _ _ _ _ (by decide)]
    rfl

theorem State.held_rejectNoted (s : State) (g : Nat) (c : Capture) (h : 2 ≤ (s.group g).rejects) :
    (s.rejectNoted g c).fld (R.grpStat g) F.grpStat.DRIFT_HOLD = 1 ∧ (s.rejectNoted g c).fld (R.grpStat g) F.grpStat.FULL_PEND = 0 := by
  refine ⟨?_, ?_⟩
  · rw [State.fld, State.reg_rejectNoted, ← State.fld, State.rejectPend, if_pos (by omega), State.fld_setFld _ _ _ _ (by decide)]
    rfl
  · rw [State.fld, State.reg_rejectNoted, ← State.fld, State.rejectPend, if_pos (by omega),
      State.fld_setFld_apart _ _ _ _ _ (by decide) (by decide) (by decide), State.fld_setFld _ _ _ _ (by decide)]
    rfl

theorem Group.rejected_spec (x : Group) : x.rejected.fullStatus = some 0x20 ∧ (2 ≤ x.rejects → x.rejected.rejects = 0) := by
  rw [Group.rejected]
  exact ⟨rfl, fun h => if_pos (by omega)⟩

/-- The registers of a rejection. -/
def rejectRegs (g : Nat) : List Nat := R.grpStat g :: trimRegs g

theorem rejectRegs_endIgnores (g : Fin 4) : endIgnores (rejectRegs g) := endIgnores_of fun o ho => by
  rcases List.mem_cons.mp ho with h | h
  · simp only [R.grpStat] at h
    omega
  · rw [mem_trimRegs] at h
    simp only [R.grpQ0, R.grpQ1, R.grpRejCnt, R.plAlign, R.shdTrim1] at h
    rcases h with h | h | h | ⟨n, hn, h⟩ | ⟨e, he, h⟩ <;> omega

include hu hcal hcap in
theorem exec_computeComplete_rejected (hst : s.grpState g = 4) (hreason : s.fullReason g c ≠ 0) :
    ∃ t, exec (.computeComplete g) s = .next t ∧ t = { s with regs := t.regs, eff := t.eff, shd := t.shd } ∧ t.grpState g = 1 ∧
      t.fld (R.grpStat g) F.grpStat.FULL_REJ = 1 ∧ t.fld (R.grpStat g) F.grpStat.RESULT = 0x20 ∧ (t.group g).capture = none ∧
      (t.group g).fullStatus = some 0x20 ∧ (∀ h, h < 4 → t.reg (R.grpSetv h) = s.reg (R.grpSetv h) ∧ t.reg (R.grpSett h) = s.reg (R.grpSett h)) ∧
      (2 ≤ (s.group g).rejects →
        t.fld (R.grpStat g) F.grpStat.DRIFT_HOLD = 1 ∧ t.fld (R.grpStat g) F.grpStat.FULL_PEND = 0 ∧ (t.group g).rejects = 0) := by
  have hnoted := s.rejectNoted_only g c
  have hgroup := s.group_rejectNoted g c
  obtain ⟨hrej, hres⟩ := s.fld_rejectNoted g c
  have hheld := s.held_rejectNoted g c
  have heq : s.computeComplete g = (((s.rejectNoted g c).evaluateTrim g c).setFld (R.grpStat g) F.grpStat.STATE 1).setGroup g
      { ((s.rejectNoted g c).evaluateTrim g c).group g with capture := none } := State.computeComplete_rejected g hcap hreason
  generalize s.rejectNoted g c = r at hnoted hgroup hrej hres hheld heq
  obtain ⟨m, st, hm, hkeep, htrim⟩ := r.evaluateTrim_spec g g.isLt c
  rw [htrim, State.group_setGroup, if_pos rfl] at heq
  have hmgroup : m.group g = r.group g := State.group_of_shd (by rw [hm.state]; rfl) g
  rw [hmgroup, hgroup] at heq
  obtain ⟨hfull, hzero⟩ := (s.group g).rejected_spec
  generalize (s.group g).rejected = x at heq hfull hzero
  generalize hx : ({ { x with trimStatus := some st } with capture := none } : Group) = y at heq
  have hy : y.capture = none ∧ y.fullStatus = x.fullStatus ∧ y.rejects = x.rejects := by
    rw [← hx]
    exact ⟨rfl, rfl, rfl⟩
  generalize ({ x with trimStatus := some st } : Group) = x' at heq
  have hf : s.Only Frame.shdEff (((m.setGroup g x').setFld (R.grpStat g) F.grpStat.STATE 1).setGroup g y) (rejectRegs g) :=
    (((hnoted.mono (by simp [trimRegs])).trans (hm.widen fun _ _ => rfl)).trans (State.setGroup_onlyEff _ _ _ _)).setFld _ _
      (by simp) |>.trans (State.setGroup_onlyEff _ _ _ _)
  have hfld : ∀ f : Fld, f.lo + f.width ≤ 32 → (F.grpStat.STATE.lo + F.grpStat.STATE.width ≤ f.lo) →
      (F.grpStat.TRIM_REJ.lo + F.grpStat.TRIM_REJ.width ≤ f.lo ∨ f.lo + f.width ≤ F.grpStat.TRIM_REJ.lo) →
      (F.grpStat.REASON.lo + F.grpStat.REASON.width ≤ f.lo ∨ f.lo + f.width ≤ F.grpStat.REASON.lo) →
      (((m.setGroup g x').setFld (R.grpStat g) F.grpStat.STATE 1).setGroup g y).fld (R.grpStat g) f = r.fld (R.grpStat g) f := by
    intro f hf32 h0 h1 h2
    rw [State.fld, State.reg_setGroup, ← State.fld, State.fld_setFld_apart _ _ _ _ _ (by decide) hf32 (.inr h0), State.fld, State.reg_setGroup,
      ← State.fld, hkeep f hf32 h1 h2]
  have hstate : (((m.setGroup g x').setFld (R.grpStat g) F.grpStat.STATE 1).setGroup g y).grpState g = 1 := by
    rw [State.grpState, State.fld, State.reg_setGroup, ← State.fld, State.fld_setFld _ _ _ _ (by decide)]
    rfl
  have hygroup : (((m.setGroup g x').setFld (R.grpStat g) F.grpStat.STATE 1).setGroup g y).group g = y :=
    (State.group_setGroup _ _ _ _).trans (if_pos rfl)
  generalize ((m.setGroup g x').setFld (R.grpStat g) F.grpStat.STATE 1).setGroup g y = t at heq hf hfld hstate hygroup
  have hcal' : t.hqe.calibs = [] := by
    rw [hf.state]
    exact hcal
  have hexec : exec (.computeComplete g) s = State.done t := by
    refine congrArg State.done ((if_neg (not_not.mpr hst)).trans ?_)
    dsimp only
    rw [heq, if_pos hstate, State.groupDone_of_none hcal']
  refine ⟨t, hexec.trans (hf.done hu (rejectRegs_endIgnores g)), hf.state, hstate, ?_, ?_, ?_, ?_, fun h hh => ⟨?_, ?_⟩, fun h2 => ⟨?_, ?_, ?_⟩⟩
  · rw [hfld _ (by decide) (by decide) (by decide) (by decide), hrej]
  · rw [hfld _ (by decide) (by decide) (by decide) (by decide), hres]
  · rw [hygroup, hy.1]
  · rw [hygroup, hy.2.1, hfull]
  · refine hf.reg _ fun hmem => ?_
    rcases List.mem_cons.mp hmem with h' | h'
    · simp only [R.grpSetv, R.grpStat] at h'
      omega
    · exact notMem_trimRegs (by simp only [R.grpSetv]; omega) h'
  · refine hf.reg _ fun hmem => ?_
    rcases List.mem_cons.mp hmem with h' | h'
    · simp only [R.grpSett, R.grpStat] at h'
      omega
    · exact notMem_trimRegs (by simp only [R.grpSett]; omega) h'
  · rw [hfld _ (by decide) (by decide) (by decide) (by decide), (hheld h2).1]
  · rw [hfld _ (by decide) (by decide) (by decide) (by decide), (hheld h2).2]
  · rw [hygroup, hy.2.2, hzero h2]

end

end Sys2Proof.Machine

/-!
O23: the end of COPY (R176, R179).
-/
namespace Sys2Proof.Machine

/-- The frame of memory and the shading stage. -/
def Frame.shdMem : Frame :=
  ⟨fun s t => { s with regs := t.regs, mem := t.mem, shd := t.shd }, fun _ => rfl, fun _ _ _ => rfl, fun _ _ _ => rfl,
    fun _ _ _ => rfl, fun _ _ => ⟨rfl, rfl, rfl, rfl, rfl, rfl, rfl⟩⟩

theorem State.setGroup_onlyMem (s : State) (g : Nat) (x : Group) (l : List Nat) : s.Only Frame.shdMem (s.setGroup g x) l :=
  ⟨rfl, State.regsBut_of_regs _ rfl⟩

section
variable {s : State} (hu : s.usual) (hcal : s.hqe.calibs = []) (g : Fin 4) {c : Capture} (hcap : (s.group g).capture = some c) {n : Nat}

/-- The coefficient word of a pixel of a full capture. -/
def State.copyWord (s : State) (g : Nat) (c : Capture) (n x : Nat) : Nat := (s.fullCoef g c n x).1 * 65536 + (s.fullCoef g c n x).2.1

theorem State.coefAddr_eq (s : State) (set n x : Nat) : s.coefAddr set n x = s.coefAddr set n 0 + 4 * x := by
  rw [State.coefAddr, State.coefAddr]
  omega

/-- The coefficient words of a plane written. -/
def State.copyWords (s : State) (g : Nat) (c : Capture) (n : Nat) : State :=
  s.writeWords (s.coefAddr (s.group g).target n 0) (s.copyWord g c n) (s.fld (R.plCfg n) F.plCfg.WIDTH)

theorem State.copyWords_eq (g : Nat) (herr : s.sys.bitErrs = []) (hpoison : s.sys.poison = []) :
    (List.range (s.fld (R.plCfg n) F.plCfg.WIDTH)).foldl (fun u px =>
        let q := s.fullCoef g c n px
        u.memWrite (s.coefAddr (s.group g).target n px) (bytesLE 4 (q.1 * 65536 + q.2.1))) s = s.copyWords g c n := by
  rw [State.copyWords, State.writeWords, ← State.memWrite_words herr hpoison]
  refine List.foldl_ext _ _ _ fun u x _ => ?_
  rw [← State.coefAddr_eq]
  rfl

/-- The capture's temperature written. -/
def State.copyTemps (s : State) (g target mean : Nat) : State :=
  ((s.setFld (R.grpSett g) (if target = 0 then F.grpSett.TA else F.grpSett.TB) mean).setFld (R.grpSetv g) F.grpSetv.TLAST mean).setFld
    (R.grpSetv g) F.grpSetv.TLAST_V 1

/-- The new set shown valid, and the group's marks cleared. -/
def State.copyShown (s : State) (g target : Nat) : State :=
  ((((s.setFld (R.grpSetv g) (setValid target) 1).setFld (R.grpQ2 g) F.grpQ2.FULL_CNT (s.fld (R.grpQ2 g) F.grpQ2.FULL_CNT + 1)).setFld
    (R.grpStat g) F.grpStat.FULL_PEND 0).setFld (R.grpStat g) F.grpStat.DRIFT_HOLD 0).setFld R.shdStat ⟨g, 1⟩ 0

/-- The group after its commit. -/
def Group.committed (x : Group) : Group := { x with capture := none, rejects := 0, byRequest := false, offAfterCopy := false }

theorem Group.committed_spec (x : Group) : x.committed.capture = none ∧ x.committed.rejects = 0 := by
  rw [Group.committed]
  exact ⟨rfl, rfl⟩

/-- The mean temperature of a capture, as its field holds it. -/
def Capture.meanTemp (c : Capture) : Nat := unsigned 16 (roundDiv c.tempSum (max c.tempNum 1))

/-- The registers at the end of COPY. -/
def State.copyMeasured (s : State) (g : Nat) (c : Capture) (n : Nat) : State :=
  ((s.copyWords g c n).copyTemps g (s.group g).target c.meanTemp).measureEdges (s.fiducial g c true)

/-- COPY ended. -/
def State.copied (s : State) (g : Nat) (c : Capture) (n : Nat) : State :=
  (((s.copyMeasured g c n).copyShown g (s.group g).target).setGroup g (s.group g).committed).setFld (R.grpStat g) F.grpStat.STATE 1

include hcap in
theorem State.copyComplete_eq (hpl : s.groupPlanes g = [n]) (hent : c.entry = []) (hauto : s.fld (R.grpCtl g) F.grpCtl.ALIGN_AUTO = 0)
    (hoff : (s.group g).offAfterCopy = false) (herr : s.sys.bitErrs = []) (hpoison : s.sys.poison = []) : s.copyComplete g = s.copied g c n := by
  delta State.copyComplete
  extract_lets x pls
  split
  case h_1 hnone => exact absurd (hnone.symm.trans hcap) (by simp)
  case h_2 c' hsome =>
  obtain rfl : c = c' := Option.some.inj (hcap.symm.trans hsome)
  extract_lets s1 entries s2 mean s3 fid s4 s5 s6 s7
  have hs1 : s1 = s.copyWords g c n := by
    change pls.foldl _ s = _
    rw [show pls = [n] from hpl, List.foldl_cons, List.foldl_nil]
    exact State.copyWords_eq g herr hpoison
  have hpixels : ∀ e, c.pixelsOf e = [] := fun e => by rw [Capture.pixelsOf, hent, List.filter_nil, List.map_nil]
  have hentries : entries = [] := List.filter_eq_nil_iff.mpr fun e _ => by rw [hpixels]; simp
  have hs2 : s2 = s1 := by
    change entries.foldl _ s1 = s1
    rw [hentries, List.foldl_nil]
  have hs4 : s4 = s3.measureEdges fid := by
    refine List.foldl_ext _ _ _ fun t e _ => ?_
    obtain ⟨m, q⟩ := e
    cases q with
    | none => rfl
    | some q => exact if_neg (by rw [State.bit_eq_false hauto]; decide)
  refine (if_neg (show ¬x.offAfterCopy = true by rw [show x.offAfterCopy = false from hoff]; decide)).trans ?_
  have hs4' : s4 = s.copyMeasured g c n := by
    rw [hs4, State.copyMeasured, ← hs1, ← hs2]
    rfl
  clear_value s4
  subst hs4'
  rfl

/-- The registers of a commit. -/
def copyRegs (g n : Nat) : List Nat := [R.grpSett g, R.grpSetv g, R.grpQ2 g, R.grpStat g, R.shdStat, R.plAlign n]

theorem copyRegs_endIgnores (hn : n < 48) : endIgnores (copyRegs g n) := endIgnores_of (by
  simp only [copyRegs, List.mem_cons, List.not_mem_nil, or_false, forall_eq_or_imp, forall_eq, R.grpStat, R.grpQ2, R.grpSetv, R.grpSett, R.shdStat,
    R.plAlign]
  omega)

theorem State.copyWords_only (g : Nat) (l : List Nat) : s.Only Frame.shdMem (s.copyWords g c n) l := by
  have hstate := s.writeWords_state (s.coefAddr (s.group g).target n 0) (s.copyWord g c n) (s.fld (R.plCfg n) F.plCfg.WIDTH)
  rw [State.copyWords]
  exact ⟨by rw [hstate]; rfl, State.regsBut_of_regs _ (by rw [hstate])⟩

theorem State.copyTemps_only {F : Frame} (t : State) (g n target mean : Nat) : t.Only F (t.copyTemps g target mean) (copyRegs g n) :=
  (((State.Only.refl t _).setFld _ _ (by simp [copyRegs])).setFld _ _ (by simp [copyRegs])).setFld _ _ (by simp [copyRegs])

theorem State.copyMeasured_parts (hpl : s.groupPlanes g = [n]) :
    s.Only Frame.shdMem (s.copyMeasured g c n) (copyRegs g n) ∧
    ((s.copyWords g c n).copyTemps g (s.group g).target c.meanTemp).Only Frame.eff (s.copyMeasured g c n) [R.plAlign n] := by
  have hedges : ∀ e ∈ (s.fiducial g c true).edges, R.plAlign e.1 ∈ [R.plAlign n] := fun e he => by
    have hmem := State.fiducial_plane he
    rw [hpl, List.mem_singleton] at hmem
    rw [hmem]
    exact List.mem_singleton_self _
  exact ⟨((s.copyWords_only g _).trans (State.copyTemps_only _ _ _ _ _)).trans
    ((State.measureEdges_only _ _ _ hedges).mono (by simp [copyRegs])), State.measureEdges_only _ _ _ hedges⟩

theorem State.copyShown_only {F : Frame} (t : State) (g n target : Nat) : t.Only F (t.copyShown g target) (copyRegs g n) :=
  (((((State.Only.refl t _).setFld _ _ (by simp [copyRegs])).setFld _ _ (by simp [copyRegs])).setFld _ _ (by simp [copyRegs])).setFld _ _
    (by simp [copyRegs])).setFld _ _ (by simp [copyRegs])

/-- What a commit shows. -/
theorem State.copyShown_shows (t : State) (target : Nat) : (t.copyShown g target).fld (R.grpSetv g) (setValid target) = 1 ∧
    (t.copyShown g target).fld (R.grpSetv g) F.grpSetv.TLAST_V = t.fld (R.grpSetv g) F.grpSetv.TLAST_V ∧
    (t.copyShown g target).fld (R.grpStat g) F.grpStat.FULL_PEND = 0 ∧ (t.copyShown g target).fld (R.grpStat g) F.grpStat.DRIFT_HOLD = 0 ∧
    ((t.copyShown g target).reg R.shdStat).getLsbD g = false ∧
    (t.copyShown g target).fld (R.grpQ2 g) F.grpQ2.FULL_CNT = (t.fld (R.grpQ2 g) F.grpQ2.FULL_CNT + 1) % 65536 := by
  have h1 : R.grpSetv g ≠ R.shdStat ∧ R.grpSetv g ≠ R.grpStat g ∧ R.grpSetv g ≠ R.grpQ2 g := by
    simp only [R.grpSetv, R.shdStat, R.grpStat, R.grpQ2]; omega
  have h2 : R.grpStat g ≠ R.shdStat := by simp only [R.grpStat, R.shdStat]; omega
  have h3 : R.grpQ2 g ≠ R.shdStat ∧ R.grpQ2 g ≠ R.grpStat g := by simp only [R.grpQ2, R.shdStat, R.grpStat]; omega
  obtain ⟨hfit, hwid, hlo⟩ := setValid_fits target
  refine ⟨?_, ?_, ?_, ?_, ?_, ?_⟩
  · rw [State.copyShown, State.fld, State.reg_setFld_ne _ _ _ _ _ h1.1, State.reg_setFld_ne _ _ _ _ _ h1.2.1, State.reg_setFld_ne _ _ _ _ _ h1.2.1,
      State.reg_setFld_ne _ _ _ _ _ h1.2.2, ← State.fld, State.fld_setFld _ _ _ _ hfit, hwid]
    rfl
  · rw [State.copyShown, State.fld, State.reg_setFld_ne _ _ _ _ _ h1.1, State.reg_setFld_ne _ _ _ _ _ h1.2.1, State.reg_setFld_ne _ _ _ _ _ h1.2.1,
      State.reg_setFld_ne _ _ _ _ _ h1.2.2, ← State.fld, State.fld_setFld_apart _ _ _ _ _ hfit (by decide) (.inr (by dsimp only; omega))]
  · rw [State.copyShown, State.fld, State.reg_setFld_ne _ _ _ _ _ h2, ← State.fld, State.fld_setFld_apart _ _ _ _ _ (by decide) (by decide) (by decide),
      State.fld_setFld _ _ _ _ (by decide)]
    rfl
  · rw [State.copyShown, State.fld, State.reg_setFld_ne _ _ _ _ _ h2, ← State.fld, State.fld_setFld _ _ _ _ (by decide)]
    rfl
  · rw [State.copyShown, State.reg_setFld_same, Fld.put_bit _ _ _ _ (by dsimp only; omega) (by omega), if_pos (by dsimp only; omega), Nat.sub_self]
    rfl
  · rw [State.copyShown, State.fld, State.reg_setFld_ne _ _ _ _ _ h3.1, State.reg_setFld_ne _ _ _ _ _ h3.2, State.reg_setFld_ne _ _ _ _ _ h3.2,
      ← State.fld, State.fld_setFld _ _ _ _ (by decide)]
    rfl

theorem State.copyWord_eq (g n x : Nat) : s.copyWord g c n x =
    min (fullDark (Table.get (fun _ => 0) c.dark (pixKey n x)) (s.darkN g)) 65535 * 65536 + (fullGain (s.fld (R.plWhite n) F.plWhite.WHITE)
      (fullContrast (Table.get (fun _ => 0) c.dark (pixKey n x)) (s.darkN g) (Table.get (fun _ => 0) c.rawWhite (pixKey n x))
        (s.effFld (R.grpZone g) F.grpZone.WHT_N))).1 := by
  rw [State.copyWord, State.fullCoef]

theorem State.mem_setFld (t : State) (o : Nat) (f : Fld) (x : Nat) : (t.setFld o f x).mem = t.mem := rfl

theorem State.byte_of_mem {s t : State} (h : t.mem = s.mem) (a : Nat) : t.byte a = s.byte a := by rw [State.byte, h, State.byte]

theorem State.mem_of_eff {s t : State} {l : List Nat} (h : s.Only Frame.eff t l) : t.mem = s.mem := by rw [h.state]; rfl

include hu hcal hcap in
theorem exec_copyComplete_committed (hst : s.grpState g = 5) (hpl : s.groupPlanes g = [n]) (hent : c.entry = [])
    (hrec : s.fld R.shdRecCtl F.shdRecCtl.AUTO = 0) (hauto : s.fld (R.grpCtl g) F.grpCtl.ALIGN_AUTO = 0)
    (hoff : (s.group g).offAfterCopy = false) (herr : s.sys.bitErrs = []) (hpoison : s.sys.poison = []) :
    let set := (s.group g).target
    let nd := s.darkN g
    let sum (x : Nat) := Table.get (fun _ => 0) c.dark (pixKey n x)
    let white (x : Nat) := Table.get (fun _ => 0) c.rawWhite (pixKey n x)
    ∃ t, exec (.copyComplete g) s = .next t ∧ t = { s with regs := t.regs, mem := t.mem, shd := t.shd } ∧ t.grpState g = 1 ∧
      t.fld (R.grpSetv g) (if set = 0 then F.grpSetv.VA else F.grpSetv.VB) = 1 ∧ t.fld (R.grpSetv g) F.grpSetv.TLAST_V = 1 ∧
      t.fld (R.grpStat g) F.grpStat.FULL_PEND = 0 ∧ t.fld (R.grpStat g) F.grpStat.DRIFT_HOLD = 0 ∧
      (t.reg R.shdStat).getLsbD g = false ∧ (t.group g).capture = none ∧ (t.group g).rejects = 0 ∧
      t.fld (R.grpQ2 g) F.grpQ2.FULL_CNT = (s.fld (R.grpQ2 g) F.grpQ2.FULL_CNT + 1) % 65536 ∧
      (∀ x, x < s.fld (R.plCfg n) F.plCfg.WIDTH → t.word (s.coefAddr set n x) =
        BitVec.ofNat 32 (min (fullDark (sum x) nd) 65535 * 65536 + (fullGain (s.fld (R.plWhite n) F.plWhite.WHITE)
          (fullContrast (sum x) nd (white x) (s.effFld (R.grpZone g) F.grpZone.WHT_N))).1)) ∧
      (∀ a, a < s.coefAddr set n 0 ∨ s.coefAddr set n (s.fld (R.plCfg n) F.plCfg.WIDTH) ≤ a → t.byte a = s.byte a) ∧
      (∀ off, off ∉ [R.grpSett g, R.grpSetv g, R.grpQ2 g, R.grpStat g, R.shdStat, R.plAlign n] → t.reg off = s.reg off) := by
  intro set nd sum white
  have hn : n < 48 := groupPlanes_lt (s := s) (g := g) (by rw [hpl]; exact List.mem_singleton_self n)
  have heq := State.copyComplete_eq g hcap hpl hent hauto hoff herr hpoison
  obtain ⟨hm, hmeas⟩ := State.copyMeasured_parts (c := c) g hpl
  have hshown := State.copyShown_only (F := Frame.shdMem) (s.copyMeasured g c n) g n set
  obtain ⟨h1, h2, h3, h4, h5, h6⟩ := State.copyShown_shows g (s.copyMeasured g c n) set
  have hf : s.Only Frame.shdMem (s.copied g c n) (copyRegs g n) :=
    ((hm.trans hshown).trans (State.setGroup_onlyMem _ _ _ _)).setFld _ _ (by simp [copyRegs])
  have hstatNe : ∀ o, o ≠ R.grpStat g → (s.copied g c n).reg o = ((s.copyMeasured g c n).copyShown g set).reg o := fun o ho => by
    rw [State.copied, State.reg_setFld_ne _ _ _ _ _ ho, State.reg_setGroup]
  have hstat : ∀ f : Fld, f.lo + f.width ≤ 32 → F.grpStat.STATE.lo + F.grpStat.STATE.width ≤ f.lo →
      (s.copied g c n).fld (R.grpStat g) f = ((s.copyMeasured g c n).copyShown g set).fld (R.grpStat g) f := fun f h32 hlo => by
    rw [State.copied, State.fld_setFld_apart _ _ _ _ _ (by decide) h32 (.inr hlo), State.fld, State.reg_setGroup, ← State.fld]
  have hsetv : R.grpSetv g ≠ R.grpStat g := by simp only [R.grpSetv, R.grpStat]; omega
  have hgroup : (s.copied g c n).group g = (s.group g).committed := by
    rw [State.copied, State.group_setFld, State.group_setGroup, if_pos rfl]
  have hmem : (s.copied g c n).mem = (s.copyWords g c n).mem := by
    have hmeasMem := State.mem_of_eff hmeas
    rw [State.copied, State.mem_setFld]
    refine Eq.trans (show _ = (s.copyMeasured g c n).mem from rfl) (hmeasMem.trans rfl)
  have hcal' : (s.copied g c n).hqe.calibs = [] := by
    rw [hf.state]
    exact hcal
  have hexec : exec (.copyComplete g) s = State.done (s.copied g c n) := by
    refine congrArg State.done ((if_neg (not_not.mpr hst)).trans ?_)
    dsimp only
    rw [heq, State.groupDone_of_none hcal']
    exact if_neg (by rw [State.bit_eq_false hrec]; decide)
  refine ⟨_, hexec.trans (hf.done hu (copyRegs_endIgnores g hn)), hf.state, ?_, ?_, ?_, ?_, ?_, ?_, ?_, ?_, ?_, fun x hx => ?_, fun a ha => ?_, hf.reg⟩
  · rw [State.grpState, State.copied, State.fld_setFld _ _ _ _ (by decide)]
    rfl
  · exact (congrArg _ (hstatNe _ hsetv)).trans h1
  · rw [State.fld, hstatNe _ hsetv, ← State.fld, h2, hmeas.fld (by simp only [List.mem_singleton, R.grpSetv, R.plAlign]; omega), State.copyTemps,
      State.fld_setFld _ _ _ _ (by decide)]
    rfl
  · rw [hstat _ (by decide) (by decide), h3]
  · rw [hstat _ (by decide) (by decide), h4]
  · rw [hstatNe _ (by simp only [R.shdStat, R.grpStat]; omega), h5]
  · rw [hgroup, (s.group g).committed_spec.1]
  · rw [hgroup, (s.group g).committed_spec.2]
  · rw [State.fld, hstatNe _ (by simp only [R.grpQ2, R.grpStat]; omega), ← State.fld, h6,
      hmeas.fld (by simp only [List.mem_singleton, R.grpQ2, R.plAlign]; omega), State.copyTemps, State.fld,
      State.reg_setFld_ne _ _ _ _ _ (by simp only [R.grpQ2, R.grpSetv]; omega), State.reg_setFld_ne _ _ _ _ _ (by simp only [R.grpQ2, R.grpSetv]; omega),
      State.reg_setFld_ne _ _ _ _ _ (by simp only [R.grpQ2, R.grpSett]; omega), (s.copyWords_only g []).reg _ (by simp), ← State.fld]
  · rw [State.word_congr fun i _ => State.byte_of_mem hmem _, State.coefAddr_eq, State.copyWords, State.word_writeWords _ _ _ _ hx, State.copyWord_eq]
  · rw [State.byte_of_mem hmem, State.copyWords]
    refine State.byte_writeWords_out _ _ _ _ ?_
    rw [State.coefAddr_eq s set n (s.fld (R.plCfg n) F.plCfg.WIDTH)] at ha
    exact ha

end

/-- Settles O23: strip events, COMPUTE and COPY. -/
theorem stripCaptures : Obligations.StripCaptures := by
  unfold Obligations.StripCaptures
  intro s g hu hcal
  exact ⟨fun hsel hseam => ⟨exec_stripEvent_ignored hu g hsel hseam, exec_stripEvent_capture hu g hsel hseam,
      exec_stripEvent_boundary hu g hsel hseam⟩,
    fun c hcap => ⟨exec_computeComplete_accepted hu g hcap, exec_computeComplete_rejected hu hcal g hcap,
      fun n hst hpl hent hrec hauto hoff herr hpoison => exec_copyComplete_committed hu hcal g hcap hst hpl hent hrec hauto hoff herr hpoison⟩⟩

end Sys2Proof.Machine

/-!
The save of the calibration record (R189, R190).
-/
namespace Sys2Proof.Machine

/-! ## HLT.STAT.SAVE -/

/-- A command that changes other bits of HLT.STAT than those that show the main side leaves a state between commands. -/
theorem State.usual_of_hltStat {s t : State} {l : List Nat} (hu : s.usual) (h : s.EndsAlike t) (hr : s.regsBut t (R.hltStat :: l))
    (hl : endIgnores l) (hrun : t.fld R.hltStat F.hltStat.MAIN_RUN = s.fld R.hltStat F.hltStat.MAIN_RUN)
    (hhold : t.fld R.hltStat F.hltStat.HOLD = s.fld R.hltStat F.hltStat.HOLD)
    (hready : t.fld R.hltStat F.hltStat.READY = s.fld R.hltStat F.hltStat.READY) : t.usual := by
  have hreg : ∀ o ∈ [R.engStat 0, R.sysClkStat, R.sysBootStat], t.reg o = s.reg o := by
    intro o ho
    refine hr o fun hmem => ?_
    rcases List.mem_cons.mp hmem with h' | h'
    · subst h'
      exact absurd ho (by decide)
    · exact hl o (by
        simp only [List.mem_cons, List.not_mem_nil, or_false] at ho ⊢
        tauto) h'
  have hruns : t.mainSideRuns = s.mainSideRuns := by
    have hholdBit : t.bit R.hltStat F.hltStat.HOLD = s.bit R.hltStat F.hltStat.HOLD := congrArg (· != 0) hhold
    have hlock : t.bit R.sysClkStat F.sysClkStat.PLL_LOCK = s.bit R.sysClkStat F.sysClkStat.PLL_LOCK :=
      congrArg (fun w : Word => F.sysClkStat.PLL_LOCK.get w != 0) (hreg R.sysClkStat (by simp))
    rw [State.mainSideRuns, State.mainSideRuns, h.rails, h.porst, h.resetting, hholdBit, hlock]
  obtain ⟨-, hmain, hrdy⟩ := hu.2
  refine ⟨State.quiet_of s t hu.1 h.work h.releases h.sec (hreg _ (by simp)) h.inbox, h.work.trans hu.2.1, ?_, ?_⟩
  · rw [hrun, hmain, hruns]
  · rw [hready, hrdy, State.fld, State.fld, hreg R.sysBootStat (by simp)]

/-- Between commands E0 runs no service. -/
theorem State.running_of_usual {s : State} (hu : s.usual) : s.sec.running = none := by
  rcases hu.1.2.2 with h | h
  · rw [h]
  · exact h.2.2.2.1

/-- The frame of the flash and the shading stage. -/
def Frame.save : Frame :=
  ⟨fun s t => { s with regs := t.regs, hlt := { s.hlt with flash := t.hlt.flash }, shd := t.shd }, fun _ => rfl, fun _ _ _ => rfl,
    fun _ _ _ => rfl, fun _ _ _ => rfl, fun _ _ => State.endsAlike_of rfl⟩

/-! ## The flash (R485-R488) -/

section
variable (s : State) (a : Nat)

theorem State.flashErase_only (n : Nat) (l : List Nat) : s.Only Frame.save (s.flashErase a n) l := ⟨rfl, State.regsBut_of_regs _ rfl⟩

theorem State.flashByte_flashErase (n k : Nat) : (s.flashErase a n).flashByte k = if a ≤ k ∧ k < a + n then 0xFF else s.flashByte k := by
  have h := Table.get_filter (fun _ => (0xFF : Byte)) (fun e => decide (e < a ∨ a + n ≤ e)) s.hlt.flash k
  refine h.trans ?_
  by_cases hk : a ≤ k ∧ k < a + n
  · rw [if_pos hk, decide_eq_false (by omega)]
    rfl
  · rw [if_neg hk, decide_eq_true (by omega)]
    rfl

/-- One byte programmed. -/
def State.flashPut (b : Byte) : State :=
  { s with hlt := { s.hlt with flash := Table.set (fun _ => 0xFF) s.hlt.flash a (s.flashByte a &&& b) } }

theorem State.flashPut_only (b : Byte) (l : List Nat) : s.Only Frame.save (s.flashPut a b) l := ⟨rfl, State.regsBut_of_regs _ rfl⟩

theorem State.flashByte_flashPut (b : Byte) (k : Nat) : (s.flashPut a b).flashByte k = if k = a then s.flashByte a &&& b else s.flashByte k :=
  Table.get_set _ _ _ _ _

theorem State.flashProgram_cons (b : Byte) (r : List Byte) : s.flashProgram a (b :: r) = (s.flashPut a b).flashProgram (a + 1) r := rfl

end

theorem State.flashProgram_only (s : State) (a : Nat) (l : List Byte) (m : List Nat) : s.Only Frame.save (s.flashProgram a l) m := by
  induction l generalizing s a with
  | nil => exact State.Only.refl s m
  | cons b r ih => exact (s.flashPut_only a b m).trans (ih _ _)

theorem State.shd_flashProgram (s : State) (a : Nat) (l : List Byte) : (s.flashProgram a l).shd = s.shd := by
  induction l generalizing s a with
  | nil => rfl
  | cons b r ih => exact (ih (s.flashPut a b) (a + 1)).trans rfl

/-- A programmed byte keeps the bits that are 1 in both. -/
theorem State.flashByte_flashProgram (s : State) (a : Nat) (l : List Byte) (k : Nat) :
    (s.flashProgram a l).flashByte k = if a ≤ k ∧ k < a + l.length then s.flashByte k &&& l.getD (k - a) 0 else s.flashByte k := by
  induction l generalizing s a with
  | nil =>
    rw [if_neg (by simp)]
    rfl
  | cons b r ih =>
    rw [State.flashProgram_cons, ih, State.flashByte_flashPut]
    by_cases h1 : k = a
    · subst h1
      rw [if_neg (by omega), if_pos rfl, if_pos ⟨Nat.le_refl _, by simp⟩, Nat.sub_self]
      rfl
    · rw [if_neg h1]
      by_cases h2 : a ≤ k ∧ k < a + (b :: r).length
      · have hsub : k - a = (k - (a + 1)) + 1 := by omega
        rw [if_pos (by simp only [List.length_cons] at h2; omega), if_pos h2, hsub]
        rfl
      · rw [if_neg (by simp only [List.length_cons] at h2; omega), if_neg h2]

theorem and_erased (b : Byte) : (0xFF : Byte) &&& b = b := BitVec.allOnes_and

/-- Bytes programmed into erased flash read as programmed. -/
theorem State.flashBytes_flashProgram {s : State} {a : Nat} {l : List Byte} (h : ∀ i, i < l.length → s.flashByte (a + i) = 0xFF) :
    (s.flashProgram a l).flashBytes a l.length = l := by
  refine List.ext_getElem (by simp [State.flashBytes]) fun i h1 h2 => ?_
  simp only [State.flashBytes, List.getElem_map, List.getElem_range]
  rw [State.flashByte_flashProgram, if_pos (by omega), h i h2, and_erased, Nat.add_sub_cancel_left, List.getD_eq_getElem _ _ h2]

theorem State.flashByte_flashProgram_out {s : State} {a k : Nat} {l : List Byte} (h : k < a ∨ a + l.length ≤ k) :
    (s.flashProgram a l).flashByte k = s.flashByte k := by
  rw [State.flashByte_flashProgram, if_neg (by omega)]

theorem State.flashBytes_congr {s t : State} {a n : Nat} (h : ∀ i, i < n → t.flashByte (a + i) = s.flashByte (a + i)) :
    t.flashBytes a n = s.flashBytes a n := List.map_congr_left fun i hi => h i (List.mem_range.mp hi)

/-! ## A save asked for (R189) -/

section
variable {s : State} (hu : s.usual)

/-- SHD.REC_STAT of a save that is asked for. -/
theorem State.saveRequest_spec (s : State) : s.sameBut s.saveRequest [R.shdRecStat] ∧ s.saveRequest.fld R.shdRecStat F.shdRecStat.BUSY = 1 ∧
    s.saveRequest.fld R.shdRecStat F.shdRecStat.PEND =
      (if s.fld R.shdRecStat F.shdRecStat.BUSY = 1 then 1 else s.fld R.shdRecStat F.shdRecStat.PEND) := by
  rw [State.saveRequest]
  by_cases h : s.fld R.shdRecStat F.shdRecStat.BUSY = 1
  · rw [if_pos (State.bit_eq_true h), if_pos h]
    refine ⟨State.sameBut_setFld _ _ _ _, ?_, ?_⟩
    · rw [State.fld_setFld_apart _ _ _ _ _ (by decide) (by decide) (by decide), h]
    · rw [State.fld_setFld _ _ _ _ (by decide)]
      rfl
  · rw [if_neg (fun hb => h ((State.bit_iff_one rfl).mp hb)), if_neg h]
    refine ⟨State.sameBut_setFld _ _ _ _, ?_, ?_⟩
    · rw [State.fld_setFld _ _ _ _ (by decide)]
      rfl
    · rw [State.fld_setFld_apart _ _ _ _ _ (by decide) (by decide) (by decide)]

include hu in
theorem exec_calSaveRequest_asked (path : Path) (w : Word) (hacc : s.accessible path R.shdRecCtl = true) :
    ∃ t, exec (.calSaveRequest path w) s = .next t ∧ s.sameBut t [R.shdRecCtl, R.shdRecStat] ∧
      t.fld R.shdRecCtl F.shdRecCtl.AUTO = F.shdRecCtl.AUTO.get w ∧ t.fld R.shdRecStat F.shdRecStat.BUSY = 1 ∧
      t.fld R.shdRecStat F.shdRecStat.PEND = (if s.fld R.shdRecStat F.shdRecStat.BUSY = 1 then 1 else s.fld R.shdRecStat F.shdRecStat.PEND) := by
  have hset : (F.shdRecCtl.SAVE.put w 1).getLsbD 0 = true := by
    rw [Fld.put_bit _ _ _ _ (by decide) (by decide), if_pos (by decide)]
    decide
  have hauto : (s.writeRow path R.shdRecCtl Row.shdRecCtl (F.shdRecCtl.SAVE.put w 1) false).fld R.shdRecCtl F.shdRecCtl.AUTO = F.shdRecCtl.AUTO.get w := by
    rw [State.fld_writeRow_of_takes _ _ _ _ (by decide) (by decide), Fld.get_put_apart _ _ _ _ (by decide) (by decide) (by decide)]
  have hw := s.writeRow_sameBut path R.shdRecCtl Row.shdRecCtl (F.shdRecCtl.SAVE.put w 1)
  have hexec : exec (.calSaveRequest path w) s =
      State.done (s.writeRow path R.shdRecCtl Row.shdRecCtl (F.shdRecCtl.SAVE.put w 1) false).saveRequest :=
    congrArg State.done ((State.onWrite_of _ _ _ _ hacc).trans (if_pos hset))
  generalize s.writeRow path R.shdRecCtl Row.shdRecCtl (F.shdRecCtl.SAVE.put w 1) false = c at hauto hw hexec
  obtain ⟨hsame, hbusy, hpend⟩ := c.saveRequest_spec
  have hstat : ∀ f, c.fld R.shdRecStat f = s.fld R.shdRecStat f := fun f => hw.fld (by decide) f
  rw [hstat, hstat] at hpend
  have hf : s.sameBut c.saveRequest [R.shdRecCtl, R.shdRecStat] := (hw.mono (by simp)).trans (hsame.mono (by simp))
  exact ⟨_, hexec.trans (State.done_of_regs hu hf (endIgnores_of (by decide))), hf, (hsame.fld (by decide) _).trans hauto, hbusy, hpend⟩

/-! ## The snapshot (R190) -/

/-- A save that has taken its snapshot into slot k. -/
def State.saveBegun (s : State) (k seq : Nat) : State :=
  let s2 := (s.flashErase (calSlot k) ((4096 + s.calBody.length + 65535) / 65536 * 65536)).setFld R.hltStat F.hltStat.SAVE 1
  { s2 with shd := { s2.shd with saveSlot := some k, saveBody := s.calHeader seq s.calBody ++ s.calBody } }

theorem State.calHeader_length (s : State) (seq : Nat) (body : List Byte) : (s.calHeader seq body).length = 60 := by
  simp only [State.calHeader, List.length_append, bytesLE_length, List.length_cons, List.length_nil, List.length_replicate]

theorem State.calHeader_take (s : State) (seq : Nat) (body l : List Byte) : (s.calHeader seq body ++ l).take 4 = [0x47, 0x43, 0x41, 0x4C] := by
  simp only [State.calHeader, List.append_assoc]
  rw [List.take_append_of_le_length (by simp)]
  rfl

theorem State.saveTarget_slot (h1 : s.calRecord 1 = none) : s.saveTarget.2 = if (s.calRecord 0).isSome then 1 else 0 := by
  rw [State.saveTarget, State.calChosen, h1]
  cases s.calRecord 0 <;> rfl

theorem State.saveStart_begun (hbusy : s.fld R.shdRecStat F.shdRecStat.BUSY = 1) (hslot : s.shd.saveSlot = none)
    (hfl : s.fld R.hltFlStat F.hltFlStat.BUSY = 0) (hgrp : ∀ g, g < 4 → s.grpState g ≠ 4 ∧ s.grpState g ≠ 5)
    (hlen : 4096 + s.calBody.length ≤ 0x400000) : s.saveStart = s.saveBegun s.saveTarget.2 s.saveTarget.1 := by
  have hwaits : ((List.range 4).any (fun g => s.grpState g == 4 || s.grpState g == 5) || s.bit R.hltFlStat F.hltFlStat.BUSY) = false := by
    rw [State.bit_eq_false hfl, Bool.or_false, List.any_eq_false]
    intro g hg
    simpa using hgrp g (List.mem_range.mp hg)
  rw [State.saveStart, hwaits]
  refine (if_neg ?_).trans ((if_neg (by rw [calSlotBytes]; omega)).trans rfl)
  rw [State.bit_eq_true hbusy, hslot]
  decide

theorem State.saveBegun_only (k seq : Nat) : s.Only Frame.save (s.saveBegun k seq) [R.hltStat] :=
  ((s.flashErase_only _ _ _).setFld _ _ (by simp)).trans ⟨rfl, State.regsBut_of_regs _ rfl⟩

theorem State.reg_saveBegun (k seq o : Nat) : (s.saveBegun k seq).reg o = (s.setFld R.hltStat F.hltStat.SAVE 1).reg o :=
  State.reg_of_regs _ _ rfl o

include hu in
theorem exec_calSaveStart_begun (hbusy : s.fld R.shdRecStat F.shdRecStat.BUSY = 1) (hslot : s.shd.saveSlot = none)
    (hfl : s.fld R.hltFlStat F.hltFlStat.BUSY = 0) (hgrp : ∀ g, g < 4 → s.grpState g ≠ 4 ∧ s.grpState g ≠ 5)
    (hlen : 4096 + s.calBody.length ≤ 0x400000) (h1 : s.calRecord 1 = none) :
    let k := if (s.calRecord 0).isSome then 1 else 0
    ∃ t, exec .calSaveStart s = .next t ∧ t = { s with regs := t.regs, hlt := { s.hlt with flash := t.hlt.flash }, shd := t.shd } ∧
      t.shd = { s.shd with saveSlot := some k, saveBody := t.shd.saveBody } ∧ t.shd.saveBody.drop 60 = s.calBody ∧
      t.shd.saveBody.take 4 = [0x47, 0x43, 0x41, 0x4C] ∧ t.fld R.hltStat F.hltStat.SAVE = 1 ∧
      (∀ off, off ≠ R.hltStat → t.reg off = s.reg off) ∧
      (∀ a, calSlot k ≤ a → a < calSlot k + 4096 + s.calBody.length → t.flashByte a = 0xFF) ∧
      (∀ a, a < calSlot k ∨ calSlot k + 0x400000 ≤ a → t.flashByte a = s.flashByte a) := by
  intro k
  have heq := State.saveStart_begun hbusy hslot hfl hgrp hlen
  rw [State.saveTarget_slot h1] at heq
  change s.saveStart = s.saveBegun k s.saveTarget.1 at heq
  generalize s.saveTarget.1 = seq at heq
  generalize k = k at heq ⊢
  have hf := s.saveBegun_only k seq
  have hfld : ∀ f : Fld, f.lo + f.width ≤ 6 → (s.saveBegun k seq).fld R.hltStat f = s.fld R.hltStat f := fun f h => by
    rw [State.fld, State.reg_saveBegun, ← State.fld, State.fld_setFld_apart _ _ _ _ _ (by decide) (by omega) (.inl h)]
  have husual : (s.saveBegun k seq).usual := State.usual_of_hltStat (l := []) hu hf.endsAlike hf.reg (endIgnores_of (by simp))
    (hfld _ (by decide)) (hfld _ (by decide)) (hfld _ (by decide))
  have hflash : ∀ a, (s.saveBegun k seq).flashByte a =
      (s.flashErase (calSlot k) ((4096 + s.calBody.length + 65535) / 65536 * 65536)).flashByte a := fun a => rfl
  have hexec : exec .calSaveStart s = State.done (s.saveBegun k seq) := congrArg State.done heq
  refine ⟨_, hexec.trans (State.done_of_usual husual), hf.state, rfl, ?_, s.calHeader_take _ _ _, ?_, fun off ho => hf.reg _ (by simpa using ho),
    fun a hlo hhi => ?_, fun a ha => ?_⟩
  · exact List.drop_left' (s.calHeader_length _ _)
  · rw [State.fld, State.reg_saveBegun, ← State.fld, State.fld_setFld _ _ _ _ (by decide)]
    rfl
  · rw [hflash, State.flashByte_flashErase, if_pos (by omega)]
  · rw [hflash, State.flashByte_flashErase, if_neg (by omega)]

/-! ## The end of the save (R190) -/

/-- The registers at the end of a save. -/
def State.saveShown (s : State) (status : Nat) : State :=
  let s1 := (s.setFld R.shdRecStat F.shdRecStat.RESULT status).setFld R.shdRecStat F.shdRecStat.DONE 1
  ((s1.setFld R.shdRecStat F.shdRecStat.BUSY (s1.fld R.shdRecStat F.shdRecStat.PEND)).setFld R.shdRecStat F.shdRecStat.PEND 0).setFld
    R.hltStat F.hltStat.SAVE 0

/-- A save ended, before its consequences. -/
def State.saveOver (s : State) (status : Nat) : State :=
  { s.saveShown status with shd := { (s.saveShown status).shd with saveSlot := none, saveBody := [] } }

theorem State.saveEnd_eq (status : Nat) (hwork : s.work = []) : s.saveEnd status = { s.saveOver status with work := [Work.saveDone status] } := by
  have hw : (s.saveShown status).work = [] := hwork
  have h : s.saveEnd status = { s.saveOver status with work := (s.saveShown status).work ++ [Work.saveDone status] } := rfl
  rw [h, hw, List.nil_append]

theorem State.saveOver_only (status : Nat) : s.Only Frame.save (s.saveOver status) [R.hltStat, R.shdRecStat] :=
  (((((State.Only.refl s _).setFld _ _ (by simp)).setFld _ _ (by simp)).setFld _ _ (by simp)).setFld _ _ (by simp)).setFld _ _ (by simp)
    |>.trans ⟨rfl, State.regsBut_of_regs _ rfl⟩

theorem State.reg_saveOver (status o : Nat) : (s.saveOver status).reg o = (s.saveShown status).reg o := State.reg_of_regs _ _ rfl o

/-- What SHD.REC_STAT and HLT.STAT show at the end of a save. -/
theorem State.fld_saveOver (status : Nat) (h : status < 256) : (s.saveOver status).fld R.shdRecStat F.shdRecStat.RESULT = status ∧
    (s.saveOver status).fld R.shdRecStat F.shdRecStat.DONE = 1 ∧
    (s.saveOver status).fld R.shdRecStat F.shdRecStat.BUSY = s.fld R.shdRecStat F.shdRecStat.PEND ∧
    (s.saveOver status).fld R.shdRecStat F.shdRecStat.PEND = 0 ∧ (s.saveOver status).fld R.hltStat F.hltStat.SAVE = 0 ∧
    ∀ f : Fld, f.lo + f.width ≤ 6 → (s.saveOver status).fld R.hltStat f = s.fld R.hltStat f := by
  have hne : R.shdRecStat ≠ R.hltStat := by decide
  have hpend : ((s.setFld R.shdRecStat F.shdRecStat.RESULT status).setFld R.shdRecStat F.shdRecStat.DONE 1).fld R.shdRecStat F.shdRecStat.PEND =
      s.fld R.shdRecStat F.shdRecStat.PEND := by
    rw [State.fld_setFld_apart _ _ _ _ _ (by decide) (by decide) (by decide), State.fld_setFld_apart _ _ _ _ _ (by decide) (by decide) (by decide)]
  have hstat : ∀ f, (s.saveOver status).fld R.shdRecStat f = ((((s.setFld R.shdRecStat F.shdRecStat.RESULT status).setFld R.shdRecStat
      F.shdRecStat.DONE 1).setFld R.shdRecStat F.shdRecStat.BUSY (s.fld R.shdRecStat F.shdRecStat.PEND)).setFld R.shdRecStat F.shdRecStat.PEND 0).fld
        R.shdRecStat f := fun f => by
    rw [State.fld, State.reg_saveOver, State.saveShown, State.reg_setFld_ne _ _ _ _ _ hne, hpend, ← State.fld]
  refine ⟨?_, ?_, ?_, ?_, ?_, fun f hf => ?_⟩
  · rw [hstat, State.fld_setFld_apart _ _ _ _ _ (by decide) (by decide) (by decide), State.fld_setFld_apart _ _ _ _ _ (by decide) (by decide) (by decide),
      State.fld_setFld_apart _ _ _ _ _ (by decide) (by decide) (by decide), State.fld_setFld _ _ _ _ (by decide)]
    exact Nat.mod_eq_of_lt h
  · rw [hstat, State.fld_setFld_apart _ _ _ _ _ (by decide) (by decide) (by decide), State.fld_setFld_apart _ _ _ _ _ (by decide) (by decide) (by decide),
      State.fld_setFld _ _ _ _ (by decide)]
    rfl
  · rw [hstat, State.fld_setFld_apart _ _ _ _ _ (by decide) (by decide) (by decide), State.fld_setFld _ _ _ _ (by decide)]
    have hlt : s.fld R.shdRecStat F.shdRecStat.PEND < 2 ^ 1 := BitVec.isLt _
    exact Nat.mod_eq_of_lt hlt
  · rw [hstat, State.fld_setFld _ _ _ _ (by decide)]
    rfl
  · rw [State.fld, State.reg_saveOver, ← State.fld, State.saveShown, State.fld_setFld _ _ _ _ (by decide)]
    rfl
  · rw [State.fld, State.reg_saveOver, ← State.fld, State.saveShown, State.fld_setFld_apart _ _ _ _ _ (by decide) (by omega) (.inl hf), State.fld,
      State.reg_setFld_ne _ _ _ _ _ hne.symm, State.reg_setFld_ne _ _ _ _ _ hne.symm, State.reg_setFld_ne _ _ _ _ _ hne.symm,
      State.reg_setFld_ne _ _ _ _ _ hne.symm, ← State.fld]

theorem doWork_saveDone {t : State} (st : Nat) (hcal : t.hqe.calibs = []) (hrun : t.sec.running = none) : t.doWork (.saveDone st) = t := by
  have hsaved : t.calibSaved st = t := by rw [State.calibSaved, hcal, List.foldl_nil]
  change (t.calibSaved st).svcSaved st = t
  rw [hsaved, State.svcSaved, hrun]

/-- A save that has ended from a state of the frame of saves leaves a state between commands. -/
theorem done_saveEnd {u : State} {l : List Nat} (hu : s.usual) (hcal : s.hqe.calibs = []) (status : Nat) (hs : status < 256)
    (h : s.Only Frame.save u l) (hl : endIgnores l) : State.done (u.saveEnd status) = .next (u.saveOver status) := by
  have huu : u.usual := State.usual_of hu h.endsAlike h.reg hl
  have hf := u.saveOver_only status
  obtain ⟨-, -, -, -, -, hlow⟩ := u.fld_saveOver status hs
  have husual : (u.saveOver status).usual := State.usual_of_hltStat (l := [R.shdRecStat]) huu hf.endsAlike hf.reg (endIgnores_of (by decide))
    (hlow _ (by decide)) (hlow _ (by decide)) (hlow _ (by decide))
  have hcal' : (u.saveOver status).hqe.calibs = [] := by
    rw [((h.mono (List.subset_append_left l _)).trans (hf.mono (List.subset_append_right l _))).state]
    exact hcal
  rw [u.saveEnd_eq status huu.1.1]
  exact State.done_withWork husual (doWork_saveDone _ hcal' (State.running_of_usual husual))

end

end Sys2Proof.Machine

/-!
O24: the flash work of a save ends.
-/
namespace Sys2Proof.Machine

section
variable {s : State} (hu : s.usual) (hcal : s.hqe.calibs = []) {k : Nat} (hslot : s.shd.saveSlot = some k)

/-- The record programmed into the slot at `a`: the body, the header, then COMMIT. -/
def State.recordAt (s : State) (a : Nat) : State :=
  ((s.flashProgram (a + 4096) (s.shd.saveBody.drop 60)).flashProgram a (s.shd.saveBody.take 60)).flashProgram (a + 0x3C) (bytesLE 4 0xA55A)

/-- The record stored in slot k, with its SEQ shown. -/
def State.recordStored (s : State) (k : Nat) : State :=
  (s.recordAt (calSlot k)).setReg R.shdRecSeq (BitVec.ofNat 32 (natLE (((s.shd.saveBody.take 60).drop 8).take 4)))

include hslot in
theorem State.saveComplete_stored : s.saveComplete true = (s.recordStored k).saveEnd St.success := by
  rw [State.saveComplete, hslot]
  rfl

include hslot in
theorem State.saveComplete_failed : s.saveComplete false = s.saveEnd St.busError := by
  rw [State.saveComplete, hslot]
  rfl

theorem State.recordStored_only (k : Nat) : s.Only Frame.save (s.recordStored k) [R.shdRecSeq] :=
  (((s.flashProgram_only _ _ _).trans (State.flashProgram_only _ _ _ _)).trans (State.flashProgram_only _ _ _ _)).setReg _ (by simp)

theorem State.shd_recordStored (k : Nat) : (s.recordStored k).shd = s.shd := by
  have hset : ∀ (t : State) o w, (t.setReg o w).shd = t.shd := fun _ _ _ => rfl
  rw [State.recordStored, hset, State.recordAt, State.shd_flashProgram, State.shd_flashProgram, State.shd_flashProgram]

section
variable {a : Nat} (h60 : 60 ≤ s.shd.saveBody.length) (hlen : s.shd.saveBody.length ≤ 0x3FF000)
include h60 hlen

/-- What is stored where, in an erased slot at `a`. -/
theorem State.flash_recordAt (hff : ∀ b, a ≤ b → b < a + 0x400000 → s.flashByte b = 0xFF) :
    (s.recordAt a).flashBytes a 60 = s.shd.saveBody.take 60 ∧ (s.recordAt a).flashBytes (a + 0x3C) 4 = bytesLE 4 0xA55A ∧
    (s.recordAt a).flashBytes (a + 4096) (s.shd.saveBody.length - 60) = s.shd.saveBody.drop 60 := by
  have hheader : (s.shd.saveBody.take 60).length = 60 := List.length_take_of_le h60
  have hbody : (s.shd.saveBody.drop 60).length = s.shd.saveBody.length - 60 := List.length_drop
  have hcommit : (bytesLE 4 0xA55A).length = 4 := bytesLE_length _ _
  rw [State.recordAt]
  refine ⟨?_, ?_, ?_⟩
  · rw [State.flashBytes_congr fun i hi => State.flashByte_flashProgram_out (by omega)]
    have hread := State.flashBytes_flashProgram (s := s.flashProgram (a + 4096) (s.shd.saveBody.drop 60)) (a := a) (l := s.shd.saveBody.take 60)
      fun i hi => (State.flashByte_flashProgram_out (by omega)).trans (hff _ (by omega) (by omega))
    rwa [hheader] at hread
  · have hread := State.flashBytes_flashProgram (s := (s.flashProgram (a + 4096) (s.shd.saveBody.drop 60)).flashProgram a (s.shd.saveBody.take 60))
      (a := a + 0x3C) (l := bytesLE 4 0xA55A)
      fun i hi => (State.flashByte_flashProgram_out (by omega)).trans ((State.flashByte_flashProgram_out (by omega)).trans
        (hff _ (by omega) (by omega)))
    rwa [hcommit] at hread
  · rw [State.flashBytes_congr fun i hi => (State.flashByte_flashProgram_out (by omega)).trans (State.flashByte_flashProgram_out (by omega))]
    have hread := State.flashBytes_flashProgram (s := s) (a := a + 4096) (l := s.shd.saveBody.drop 60) fun i hi => hff _ (by omega) (by omega)
    rwa [hbody] at hread

theorem State.flashByte_recordAt_out {b : Nat} (h : b < a ∨ a + 0x400000 ≤ b) : (s.recordAt a).flashByte b = s.flashByte b := by
  have hheader : (s.shd.saveBody.take 60).length = 60 := List.length_take_of_le h60
  have hbody : (s.shd.saveBody.drop 60).length = s.shd.saveBody.length - 60 := List.length_drop
  have hcommit : (bytesLE 4 0xA55A).length = 4 := bytesLE_length _ _
  rw [State.recordAt, State.flashByte_flashProgram_out (by omega), State.flashByte_flashProgram_out (by omega),
    State.flashByte_flashProgram_out (by omega)]

end

theorem State.flashByte_saveOver (t : State) (status a : Nat) : (t.saveOver status).flashByte a = t.flashByte a := rfl

theorem State.flashByte_recordStored (k a : Nat) : (s.recordStored k).flashByte a = (s.recordAt (calSlot k)).flashByte a := rfl

theorem State.shd_saveOver (t : State) (status : Nat) : (t.saveOver status).shd = { t.shd with saveSlot := none, saveBody := [] } := rfl

include hu hcal hslot in
theorem exec_calSaveComplete_stored (h60 : 60 ≤ s.shd.saveBody.length) (hlen : s.shd.saveBody.length ≤ 0x3FF000)
    (hff : ∀ a, calSlot k ≤ a → a < calSlot k + 0x400000 → s.flashByte a = 0xFF) :
    ∃ t, exec (.calSaveComplete true) s = .next t ∧ t = { s with regs := t.regs, hlt := { s.hlt with flash := t.hlt.flash }, shd := t.shd } ∧
      t.shd = { s.shd with saveSlot := none, saveBody := [] } ∧ t.flashBytes (calSlot k) 60 = s.shd.saveBody.take 60 ∧
      t.flashBytes (calSlot k + 0x3C) 4 = bytesLE 4 0xA55A ∧
      t.flashBytes (calSlot k + 4096) (s.shd.saveBody.length - 60) = s.shd.saveBody.drop 60 ∧
      (∀ a, a < calSlot k ∨ calSlot k + 0x400000 ≤ a → t.flashByte a = s.flashByte a) ∧
      t.fld R.shdRecStat F.shdRecStat.RESULT = 0 ∧ t.fld R.shdRecStat F.shdRecStat.DONE = 1 ∧
      t.fld R.shdRecStat F.shdRecStat.BUSY = s.fld R.shdRecStat F.shdRecStat.PEND ∧ t.fld R.shdRecStat F.shdRecStat.PEND = 0 ∧
      t.fld R.hltStat F.hltStat.SAVE = 0 ∧ (∀ off, off ∉ [R.shdRecStat, R.shdRecSeq, R.hltStat] → t.reg off = s.reg off) := by
  have hstored := State.recordStored_only (s := s) k
  have hshd := State.shd_recordStored (s := s) k
  have hflash := State.flashByte_recordStored (s := s) k
  have hexec : exec (.calSaveComplete true) s = State.done ((s.recordStored k).saveEnd St.success) :=
    congrArg State.done (State.saveComplete_stored hslot)
  rw [done_saveEnd hu hcal _ (by decide) hstored (endIgnores_of (by decide))] at hexec
  obtain ⟨hres, hdone, hbusy, hpend, hsave, -⟩ := (s.recordStored k).fld_saveOver St.success (by decide)
  obtain ⟨hhead, hcommit, hbody⟩ := State.flash_recordAt h60 hlen hff
  have hover := (s.recordStored k).saveOver_only St.success
  have hf : s.Only Frame.save ((s.recordStored k).saveOver St.success) [R.shdRecStat, R.shdRecSeq, R.hltStat] :=
    (hstored.mono (by simp)).trans (hover.mono (by simp))
  have hbyte : ∀ a, ((s.recordStored k).saveOver St.success).flashByte a = (s.recordAt (calSlot k)).flashByte a := fun a =>
    (State.flashByte_saveOver _ _ a).trans (hflash a)
  refine ⟨_, hexec, hf.state, ?_, (State.flashBytes_congr fun i _ => hbyte _).trans hhead, (State.flashBytes_congr fun i _ => hbyte _).trans hcommit,
    (State.flashBytes_congr fun i _ => hbyte _).trans hbody, fun a ha => (hbyte a).trans (State.flashByte_recordAt_out h60 hlen ha), hres, hdone, ?_,
    hpend, hsave, hf.reg⟩
  · rw [State.shd_saveOver, hshd]
  · rw [hbusy, hstored.fld (by decide)]

include hu hcal hslot in
theorem exec_calSaveComplete_failed : ∃ t, exec (.calSaveComplete false) s = .next t ∧ t = { s with regs := t.regs, shd := t.shd } ∧
    t.shd = { s.shd with saveSlot := none, saveBody := [] } ∧ t.fld R.shdRecStat F.shdRecStat.RESULT = 0x10 ∧
    t.fld R.shdRecStat F.shdRecStat.DONE = 1 ∧ (∀ off, off ∉ [R.shdRecStat, R.hltStat] → t.reg off = s.reg off) := by
  have hexec : exec (.calSaveComplete false) s = State.done (s.saveEnd St.busError) := congrArg State.done (State.saveComplete_failed hslot)
  rw [done_saveEnd hu hcal _ (by decide) (State.Only.refl s []) (endIgnores_of (by simp))] at hexec
  obtain ⟨hres, hdone, -, -, -, -⟩ := s.fld_saveOver St.busError (by decide)
  exact ⟨_, hexec, rfl, State.shd_saveOver _ _, hres, hdone, fun off ho => (s.saveOver_only _).reg off (by
    simp only [List.mem_cons, List.not_mem_nil, or_false] at ho ⊢
    tauto)⟩

end

/-- Settles O24: a save of the calibration record is asked for, takes its snapshot and ends. -/
theorem calibrationRecordIsSaved : Obligations.CalibrationRecordIsSaved := by
  unfold Obligations.CalibrationRecordIsSaved
  intro s hu
  exact ⟨fun path w hacc => exec_calSaveRequest_asked hu path w hacc, exec_calSaveStart_begun hu,
    fun k hslot hcal => ⟨fun _ => exec_calSaveComplete_stored hu hcal hslot, exec_calSaveComplete_failed hu hcal hslot⟩⟩

end Sys2Proof.Machine

/-!
Document geometry: what the operations on windows and records change (R192-R195, R208-R210).
-/
namespace Sys2Proof.Machine

/-! ## Frames -/

/-- The frame of geometry. -/
def Frame.geo : Frame :=
  ⟨fun s t => { s with regs := t.regs, geo := t.geo }, fun _ => rfl, fun _ _ _ => rfl, fun _ _ _ => rfl, fun _ _ _ => rfl,
    fun _ _ => State.endsAlike_of rfl⟩

/-- The frame of geometry and of what is held back. -/
def Frame.geoEff : Frame :=
  ⟨fun s t => { s with regs := t.regs, eff := t.eff, geo := t.geo }, fun _ => rfl, fun _ _ _ => rfl, fun _ _ _ => rfl, fun _ _ _ => rfl,
    fun _ _ => State.endsAlike_of rfl⟩

/-- The frame of geometry and of the free count. -/
def Frame.geoFree : Frame :=
  ⟨fun s t => { s with regs := t.regs, geo := t.geo, freeCount := t.freeCount }, fun _ => rfl, fun _ _ _ => rfl, fun _ _ _ => rfl,
    fun _ _ _ => rfl, fun _ _ => State.endsAlike_of rfl⟩

/-- The frame of geometry and of the event pulses. -/
def Frame.geoPulses : Frame :=
  ⟨fun s t => { s with regs := t.regs, geo := t.geo, pulses := t.pulses }, fun _ => rfl, fun _ _ _ => rfl, fun _ _ _ => rfl,
    fun _ _ _ => rfl, fun _ _ => State.endsAlike_of rfl⟩

/-! ## Windows and records -/

section
variable (s : State) (k j : Nat)

theorem State.reg_setWindow (x : Option Window) (o : Nat) : (s.setWindow k x).reg o = s.reg o := State.reg_of_regs s _ rfl o

theorem State.reg_setRecord (x : DocRecord) (o : Nat) : (s.setRecord k x).reg o = s.reg o := State.reg_of_regs s _ rfl o

theorem State.fld_setWindow (x : Option Window) (o : Nat) (f : Fld) : (s.setWindow k x).fld o f = s.fld o f :=
  congrArg f.get (s.reg_setWindow k x o)

theorem State.fld_setRecord (x : DocRecord) (o : Nat) (f : Fld) : (s.setRecord k x).fld o f = s.fld o f :=
  congrArg f.get (s.reg_setRecord k x o)

theorem State.record_setWindow (x : Option Window) : (s.setWindow k x).record j = s.record j := rfl

theorem State.window_setRecord (x : DocRecord) : (s.setRecord k x).window j = s.window j := rfl

theorem State.record_setRecord_same (x : DocRecord) : (s.setRecord k x).record k = x := by rw [State.record_setRecord, if_pos rfl]

theorem State.record_setRecord_ne (x : DocRecord) {j : Nat} (h : j ≠ k) : (s.setRecord k x).record j = s.record j := by
  rw [State.record_setRecord, if_neg h]

theorem State.window_setWindow_same (x : Option Window) : (s.setWindow k x).window k = x := by rw [State.window_setWindow, if_pos rfl]

theorem State.window_setWindow_ne (x : Option Window) {j : Nat} (h : j ≠ k) : (s.setWindow k x).window j = s.window j := by
  rw [State.window_setWindow, if_neg h]

theorem State.record_setFld (o : Nat) (f : Fld) (x : Nat) : (s.setFld o f x).record j = s.record j := rfl

theorem State.window_setFld (o : Nat) (f : Fld) (x : Nat) : (s.setFld o f x).window j = s.window j := rfl

theorem State.setWindow_only (x : Option Window) (l : List Nat) : s.Only Frame.geo (s.setWindow k x) l := ⟨rfl, State.regsBut_of_regs _ rfl⟩

theorem State.setRecord_only (x : DocRecord) (l : List Nat) : s.Only Frame.geo (s.setRecord k x) l := ⟨rfl, State.regsBut_of_regs _ rfl⟩

end

theorem State.record_of_geo {s t : State} (h : t.geo = s.geo) (k : Nat) : t.record k = s.record k := by rw [State.record, h, State.record]

theorem State.window_of_geo {s t : State} (h : t.geo = s.geo) (k : Nat) : t.window k = s.window k := by rw [State.window, h, State.window]

theorem State.openWindow_congr {s t : State} (h : ∀ k, t.window k = s.window k) (u : Nat) : t.openWindow u = s.openWindow u := by
  rw [State.openWindow, show t.window = s.window from funext h, State.openWindow]

/-- The window with this key, if it is open. -/
def State.openAt (s : State) (k : Nat) : Option (Nat × Window) :=
  match s.window k with
  | some w => if w.closed then none else some (k, w)
  | none => none

theorem State.openWindow_eq (s : State) (u : Nat) : s.openWindow u = (s.openAt (u * 2)).or (s.openAt (u * 2 + 1)) := by
  change [u * 2, u * 2 + 1].findSome? s.openAt = _
  cases h : s.openAt (u * 2) <;> simp [h]

theorem State.openAt_congr {s t : State} {k : Nat} (h : t.window k = s.window k) : t.openAt k = s.openAt k := by
  rw [State.openAt, h, State.openAt]

theorem State.openAt_of {s : State} {k : Nat} {w : Window} (h : s.window k = some w) (hc : w.closed = false) : s.openAt k = some (k, w) := by
  rw [State.openAt, h]
  exact if_neg (by rw [hc]; decide)

theorem State.openAt_some {s : State} {k key : Nat} {w : Window} (h : s.openAt k = some (key, w)) :
    key = k ∧ s.window k = some w ∧ w.closed = false := by
  rw [State.openAt] at h
  split at h
  case h_1 w' hw' =>
    split at h
    case isTrue => exact absurd h (by simp)
    case isFalse hc =>
      obtain ⟨rfl, rfl⟩ := Prod.mk.inj (Option.some.inj h)
      exact ⟨rfl, hw', by simpa using hc⟩
  case h_2 => exact absurd h (by simp)

/-- The open window of a unit is one of its two, and is not closed. -/
theorem State.openWindow_some {s : State} {u key : Nat} {w : Window} (h : s.openWindow u = some (key, w)) :
    (key = u * 2 ∨ key = u * 2 + 1) ∧ s.window key = some w ∧ w.closed = false := by
  rw [State.openWindow_eq, Option.or_eq_some_iff] at h
  rcases h with h | ⟨-, h⟩
  · obtain ⟨rfl, hwin⟩ := State.openAt_some h
    exact ⟨.inl rfl, hwin⟩
  · obtain ⟨rfl, hwin⟩ := State.openAt_some h
    exact ⟨.inr rfl, hwin⟩

/-- A change of the open window that does not close it. -/
theorem State.openWindow_of_change {s t : State} {u key : Nat} {w x : Window} (h : s.openWindow u = some (key, w)) (hx : x.closed = false)
    (hkey : t.window key = some x) (hne : ∀ k, k ≠ key → t.window k = s.window k) : t.openWindow u = some (key, x) := by
  rw [State.openWindow_eq, Option.or_eq_some_iff] at h ⊢
  rcases h with h | ⟨h0, h⟩
  · obtain ⟨rfl, -⟩ := State.openAt_some h
    exact .inl (State.openAt_of hkey hx)
  · obtain ⟨rfl, -⟩ := State.openAt_some h
    exact .inr ⟨(State.openAt_congr (hne _ (by omega))).trans h0, State.openAt_of hkey hx⟩

/-! ## The views of a track and of a unit -/

section
variable (s : State) (u v k : Nat)

theorem State.setWinBit_only {F : Frame} : s.Only F (s.setWinBit u v) [R.uStat u, R.geoStat] :=
  ((State.Only.refl s _).setFld _ _ (by simp)).setFld _ _ (by simp)

theorem State.record_setWinBit : (s.setWinBit u v).record k = s.record k := rfl

theorem State.window_setWinBit : (s.setWinBit u v).window k = s.window k := rfl

theorem State.reg_setWinBit_stat : (s.setWinBit u v).reg (R.uStat u) = F.uStat.WIN.put (s.reg (R.uStat u)) v := by
  rw [State.setWinBit, State.reg_setFld_ne _ _ _ _ _ (by simp only [R.uStat, R.geoStat]; omega)]
  exact State.reg_setFld_same _ _ _ _

theorem State.fld_setWinBit (hv : v < 2) : (s.setWinBit u v).fld (R.uStat u) F.uStat.WIN = v := by
  rw [State.fld, State.reg_setWinBit_stat, Fld.get_put _ _ _ (by decide)]
  exact Nat.mod_eq_of_lt hv

/-- The registers that show a track's slots. -/
def trackViews (t : Nat) : List Nat := [R.trkStat t, R.geoStat, R.trkHold t]

theorem State.refreshTrack_only {F : Frame} : s.Only F (s.refreshTrack u) (trackViews u) :=
  (((State.Only.refl s _).setFld _ _ (by simp [trackViews])).setFld _ _ (by simp [trackViews])).setFld _ _ (by simp [trackViews])

theorem State.record_refreshTrack : (s.refreshTrack u).record k = s.record k := rfl

theorem State.window_refreshTrack : (s.refreshTrack u).window k = s.window k := rfl

/-- TRKt_STAT after a refresh: SLOT tells the busy slots, and nothing else of it changes. -/
theorem State.reg_refreshTrack_stat : (s.refreshTrack u).reg (R.trkStat u) = F.trkStat.SLOT.put (s.reg (R.trkStat u))
    ((if (s.record (u * 2)).busy then 1 else 0) + (if (s.record (u * 2 + 1)).busy then 2 else 0)) := by
  rw [State.refreshTrack, State.reg_setFld_ne _ _ _ _ _ (by simp only [R.trkStat, R.trkHold]; omega),
    State.reg_setFld_ne _ _ _ _ _ (by simp only [R.trkStat, R.geoStat]; omega)]
  exact State.reg_setFld_same _ _ _ _

end

/-! ## Windows of a slot that is over -/

section
variable (s : State) (k u : Nat)

/-- The window of unit u in slot k is over, if u is of the slot's track. -/
def State.dropWindow (s : State) (k u : Nat) : State :=
  match s.window (u * 2 + k % 2) with
  | some w =>
    if s.fld (R.uCfg u) F.uCfg.TRK = k / 2 then
      let past := w.origin.map (fun o => (o, o + w.y))
      let t1 := { s with geo := { s.geo with past := Table.set (fun _ => none) s.geo.past u past } }
      let t2 := t1.setWindow (u * 2 + k % 2) none
      if w.closed then t2 else t2.setWinBit u 0
    else s
  | none => s

theorem State.dropWindows_eq : s.dropWindows k = s.forEach 4 (fun u t => t.dropWindow k u) := rfl

theorem State.dropWindow_of_none (h : s.window (u * 2 + k % 2) = none) : s.dropWindow k u = s := by rw [State.dropWindow, h]

/-- The window of unit u in slot k, with its range kept. -/
def State.windowOver (s : State) (k u : Nat) (w : Window) : State :=
  State.setWindow { s with geo := { s.geo with past := Table.set (fun _ => none) s.geo.past u (w.origin.map (fun o => (o, o + w.y))) } }
    (u * 2 + k % 2) none

theorem State.dropWindow_of_some {w : Window} (h : s.window (u * 2 + k % 2) = some w) (ht : s.fld (R.uCfg u) F.uCfg.TRK = k / 2) :
    s.dropWindow k u = if w.closed then s.windowOver k u w else (s.windowOver k u w).setWinBit u 0 := by
  rw [State.dropWindow, h]
  exact if_pos ht

theorem State.windowOver_only (w : Window) (l : List Nat) : s.Only Frame.geo (s.windowOver k u w) l := ⟨rfl, State.regsBut_of_regs _ rfl⟩

theorem State.record_windowOver (w : Window) (j : Nat) : (s.windowOver k u w).record j = s.record j := rfl

theorem State.window_windowOver (w : Window) (j : Nat) :
    (s.windowOver k u w).window j = if j = u * 2 + k % 2 then none else s.window j := State.window_setWindow _ _ _ _

/-- What a window that is over leaves: a frame, every record, and every other window. -/
theorem State.dropWindow_spec : s.Only Frame.geo (s.dropWindow k u) [R.uStat u, R.geoStat] ∧ (∀ j, (s.dropWindow k u).record j = s.record j) ∧
    (∀ j, j ≠ u * 2 + k % 2 → (s.dropWindow k u).window j = s.window j) := by
  cases hw : s.window (u * 2 + k % 2) with
  | none =>
    rw [State.dropWindow_of_none _ _ _ hw]
    exact ⟨.refl _ _, fun _ => rfl, fun _ _ => rfl⟩
  | some w =>
    by_cases ht : s.fld (R.uCfg u) F.uCfg.TRK = k / 2
    · rw [State.dropWindow_of_some _ _ _ hw ht]
      have hover := s.windowOver_only k u w [R.uStat u, R.geoStat]
      split
      · exact ⟨hover, fun _ => rfl, fun j hj => by rw [State.window_windowOver, if_neg hj]⟩
      · exact ⟨hover.trans (State.setWinBit_only _ _ _), fun _ => rfl, fun j hj => by
          rw [State.window_setWinBit, State.window_windowOver, if_neg hj]⟩
    · have hid : s.dropWindow k u = s := by
        rw [State.dropWindow, hw]
        exact if_neg ht
      rw [hid]
      exact ⟨.refl _ _, fun _ => rfl, fun _ _ => rfl⟩

/-- The registers that show open windows. -/
def winViews : List Nat := [R.geoStat, R.uStat 0, R.uStat 1, R.uStat 2, R.uStat 3]

theorem uStat_mem_winViews {u : Nat} (h : u < 4) : R.uStat u ∈ winViews := by
  rw [winViews]
  interval_cases u <;> simp

theorem State.dropWindows_only : s.Only Frame.geo (s.dropWindows k) winViews :=
  State.Only.foldl _ _ (.refl s _) fun t u hu => (t.dropWindow_spec k u).1.mono (by
    simpa using ⟨uStat_mem_winViews (List.mem_range.mp hu), by simp [winViews]⟩)

theorem State.record_dropWindows (j : Nat) : (s.dropWindows k).record j = s.record j :=
  List.foldlRecOn (motive := fun t : State => t.record j = s.record j) _ _ rfl fun t ht u _ => ((t.dropWindow_spec k u).2.1 j).trans ht

theorem State.dropWindows_of_none (h : ∀ u, u < 4 → s.window (u * 2 + k % 2) = none) : s.dropWindows k = s :=
  List.foldlRecOn (motive := fun t : State => t = s) _ _ rfl fun t ht u hu => by
    rw [ht]
    exact s.dropWindow_of_none k u (h u (List.mem_range.mp hu))

/-- What shows of unit u in slot k: TRK, WIN and its window there. -/
def State.windowView (k u : Nat) (s : State) : Nat × Nat × Option Window :=
  (s.fld (R.uCfg u) F.uCfg.TRK, s.fld (R.uStat u) F.uStat.WIN, s.window (u * 2 + k % 2))

/-- What shows of a unit once the windows of slot k are over. -/
def viewOver (k : Nat) : Nat × Nat × Option Window → Nat × Nat × Option Window
  | (t, win, some w) => if t = k / 2 then (t, if w.closed then win else 0, none) else (t, win, some w)
  | (t, win, none) => (t, win, none)

theorem State.windowView_dropWindow : State.windowView k u (s.dropWindow k u) = viewOver k (State.windowView k u s) := by
  have hcfg : ∀ f, (s.dropWindow k u).fld (R.uCfg u) f = s.fld (R.uCfg u) f :=
    (s.dropWindow_spec k u).1.fld (by simp only [List.mem_cons, List.not_mem_nil, or_false, R.uCfg, R.uStat, R.geoStat]; omega)
  rw [State.windowView, hcfg, State.windowView]
  cases hw : s.window (u * 2 + k % 2) with
  | none => rw [State.dropWindow_of_none _ _ _ hw, hw, viewOver]
  | some w =>
    by_cases ht : s.fld (R.uCfg u) F.uCfg.TRK = k / 2
    · rw [State.dropWindow_of_some _ _ _ hw ht, viewOver, if_pos ht]
      cases w.closed
      · rw [if_neg Bool.false_ne_true, if_neg Bool.false_ne_true, State.fld_setWinBit _ _ _ (by decide), State.window_setWinBit,
          State.window_windowOver, if_pos rfl]
      · rw [if_pos rfl, if_pos rfl, (s.windowOver_only k u w []).fld (by simp), State.window_windowOver, if_pos rfl]
    · have hid : s.dropWindow k u = s := by
        rw [State.dropWindow, hw]
        exact if_neg ht
      rw [hid, hw, viewOver, if_neg ht]

theorem State.windowView_dropWindow_ne {j : Nat} (h : j ≠ u) : State.windowView k j (s.dropWindow k u) = State.windowView k j s := by
  obtain ⟨honly, -, hwin⟩ := s.dropWindow_spec k u
  rw [State.windowView, hwin _ (by omega),
    honly.fld (by simp only [List.mem_cons, List.not_mem_nil, or_false, R.uCfg, R.uStat, R.geoStat]; omega),
    honly.fld (by simp only [List.mem_cons, List.not_mem_nil, or_false, R.uStat, R.geoStat]; omega), State.windowView]

theorem State.windowView_dropWindows (hu : u < 4) : State.windowView k u (s.dropWindows k) = viewOver k (State.windowView k u s) :=
  (State.forEach_view (view := State.windowView k) (f := fun u t => t.dropWindow k u) (g := fun _ => viewOver k)
    (fun t i _ hne => t.windowView_dropWindow_ne k i hne) (fun t i => t.windowView_dropWindow k i) 4 s u).trans (if_pos hu)

/-- The window of a unit of the track is over. -/
theorem State.dropWindows_of_some {w : Window} (hu : u < 4) (hw : s.window (u * 2 + k % 2) = some w)
    (ht : s.fld (R.uCfg u) F.uCfg.TRK = k / 2) : (s.dropWindows k).window (u * 2 + k % 2) = none ∧
      (w.closed = false → (s.dropWindows k).fld (R.uStat u) F.uStat.WIN = 0) := by
  have hview := s.windowView_dropWindows k u hu
  rw [State.windowView, State.windowView, hw, ht, viewOver, if_pos rfl] at hview
  obtain ⟨-, hview⟩ := Prod.mk.inj hview
  obtain ⟨hwin, hnone⟩ := Prod.mk.inj hview
  exact ⟨hnone, fun hc => hwin.trans (if_neg (by rw [hc]; exact Bool.false_ne_true))⟩

end

end Sys2Proof.Machine

/-!
The completion of a document record (R208, R210-R212).
-/
namespace Sys2Proof.Machine

/-- A record of status `status` and bytes `bytes` that is complete. -/
def DocRecord.done (d : DocRecord) (status : Nat) (bytes : List Byte) : DocRecord := { d with complete := true, bytes := bytes, status := status }

/-- STATUS with which a record completes. -/
def DocRecord.final (d : DocRecord) : Nat := if d.status ≠ 0 then d.status else d.verdict

/-- The registers that the completion of a record of track t changes. -/
def overRegs (t : Nat) : List Nat := [R.trkStat t, R.geoStat, R.trkHold t, R.trkSeq t, R.uStat 0, R.uStat 1, R.uStat 2, R.uStat 3]

theorem endIgnores_overRegs (t : Nat) : endIgnores (overRegs t) := endIgnores_of fun o ho => by
  simp only [overRegs, List.mem_cons, List.not_mem_nil, or_false, R.trkStat, R.geoStat, R.trkHold, R.trkSeq, R.uStat] at ho
  omega

section
variable (s : State) (k : Nat)

/-- The record in slot k, complete. -/
def State.recordDone : State :=
  s.setRecord k ((s.record k).done (s.record k).final (s.recordBytes (k / 2) (s.record k) (s.record k).final))

/-- LAST of the record's track shows its status. -/
def State.recordShown : State :=
  (((s.recordDone k).dropWindows k).fire 163).setFld (R.trkStat (k / 2)) F.trkStat.LAST (s.record k).final

/-- The record in slot k is complete, and its track shows it. -/
def State.recordOver : State :=
  ((s.recordShown k).setReg (R.trkSeq (k / 2)) ((s.recordShown k).reg (R.trkSeq (k / 2)) + 1)).refreshTrack (k / 2)

theorem State.recordComplete_eq : s.recordComplete k = { s.recordOver k with work := (s.recordOver k).work ++ [Work.record k] } := rfl

theorem State.window_recordDone (j : Nat) : (s.recordDone k).window j = s.window j := by rw [State.recordDone, State.window_setRecord]

theorem State.recordDone_only (l : List Nat) : s.Only Frame.geo (s.recordDone k) l := s.setRecord_only _ _ _

theorem State.recordShown_only : (s.fire 163).Only Frame.geo (s.recordShown k) (overRegs (k / 2)) :=
  ((((s.recordDone_only k _).trans (((s.recordDone k).dropWindows_only k).mono (by simp [winViews, overRegs]))).fire 163).setFld _ _
    (by simp [overRegs]))

theorem State.recordOver_only : (s.fire 163).Only Frame.geo (s.recordOver k) (overRegs (k / 2)) :=
  ((s.recordShown_only k).setReg _ (by simp [overRegs])).trans ((State.refreshTrack_only _ _).mono (by simp [trackViews, overRegs]))

theorem State.record_recordShown (j : Nat) : (s.recordShown k).record j = (s.recordDone k).record j := by
  rw [State.recordShown, State.record_setFld]
  exact State.record_dropWindows _ _ _

theorem State.record_recordOver (j : Nat) : (s.recordOver k).record j = (s.recordDone k).record j := by
  rw [State.recordOver, State.record_refreshTrack]
  exact s.record_recordShown k j

theorem State.record_recordOver_same : (s.recordOver k).record k =
    (s.record k).done (s.record k).final (s.recordBytes (k / 2) (s.record k) (s.record k).final) := by
  rw [State.record_recordOver, State.recordDone, State.record_setRecord_same]

theorem State.record_recordOver_ne {j : Nat} (h : j ≠ k) : (s.recordOver k).record j = s.record j := by
  rw [State.record_recordOver, State.recordDone, State.record_setRecord_ne _ _ _ h]

theorem State.window_recordOver (j : Nat) : (s.recordOver k).window j = ((s.recordDone k).dropWindows k).window j := by
  rw [State.recordOver, State.window_refreshTrack]
  rfl

theorem State.reg_recordOver_seq : (s.recordOver k).reg (R.trkSeq (k / 2)) = s.reg (R.trkSeq (k / 2)) + 1 := by
  have hdone : (s.recordShown k).reg (R.trkSeq (k / 2)) = s.reg (R.trkSeq (k / 2)) := by
    rw [State.recordShown, State.reg_setFld_ne _ _ _ _ _ (by simp only [R.trkSeq, R.trkStat]; omega), State.reg_fire,
      ((s.recordDone k).dropWindows_only k).reg _ (by
        simp only [winViews, List.mem_cons, List.not_mem_nil, or_false, R.trkSeq, R.geoStat, R.uStat]; omega)]
    exact (s.recordDone_only k []).reg _ (by simp)
  rw [State.recordOver, (State.refreshTrack_only (F := Frame.geo) _ _).reg _ (by
    simp only [trackViews, List.mem_cons, List.not_mem_nil, or_false, R.trkSeq, R.trkStat, R.geoStat, R.trkHold]; omega),
    State.reg_setReg_same, hdone]

theorem State.fld_recordOver_last : (s.recordOver k).fld (R.trkStat (k / 2)) F.trkStat.LAST = (s.record k).final % 256 := by
  rw [State.recordOver, State.fld, State.reg_refreshTrack_stat, Fld.get_put_apart _ _ _ _ (by decide) (by decide) (by decide),
    State.reg_setReg_ne _ _ _ _ (by simp only [R.trkStat, R.trkSeq]; omega), ← State.fld, State.recordShown,
    State.fld_setFld _ _ _ _ (by decide)]
  rfl

/-- What the completion shows of a unit whose window was over with it. -/
theorem State.fld_recordOver_win {u : Nat} (hu : u < 4) : (s.recordOver k).fld (R.uStat u) F.uStat.WIN =
    ((s.recordDone k).dropWindows k).fld (R.uStat u) F.uStat.WIN := by
  have hne : R.uStat u ≠ R.trkStat (k / 2) := by simp only [R.uStat, R.trkStat]; omega
  rw [State.recordOver, (State.refreshTrack_only (F := Frame.geo) _ _).fld (by
    simp only [trackViews, List.mem_cons, List.not_mem_nil, or_false, R.uStat, R.trkStat, R.geoStat, R.trkHold]; omega),
    State.fld_setReg_ne _ _ _ _ _ (by simp only [R.uStat, R.trkSeq]; omega), State.recordShown, State.fld_setFld_ne _ _ _ _ _ _ hne,
    State.fld, State.reg_fire, ← State.fld]

/-- The record's bytes begin with their version and track, and end with their CRC (R212). -/
theorem State.recordBytes_form (t : Nat) (d : DocRecord) (status : Nat) :
    ∃ b, s.recordBytes t d status = b ++ bytesLE 4 (crc32c b).toNat ∧ b.take 3 = [1, 0, BitVec.ofNat 8 t] := by
  delta State.recordBytes
  extract_lets sides idx key seams exc body flags head all
  refine ⟨all, rfl, ?_⟩
  change ((bytesLE 2 1 ++ bytesLE 1 t ++ _ ++ _ ++ _ ++ _ ++ _ ++ _ ++ _ ++ _ ++ _ ++ _ ++ _ ++ _ ++ _ ++ _) ++ body).take 3 = _
  simp only [List.append_assoc]
  rfl

end

/-- A record that is complete takes no job on where none is of its track. -/
theorem State.doWork_record {t : State} {k : Nat} (h : ∀ j ∈ t.hqe.jobs, j.trk ≠ k / 2) : t.doWork (.record k) = t := by
  have hnone : t.hqe.jobs.find? (fun j => j.trk == k / 2) = none :=
    List.find?_eq_none.mpr fun j hj => by simpa using h j hj
  change t.jobRecord k = t
  rw [State.jobRecord, hnone]

/-- A command that completes a record ends with it complete. -/
theorem State.done_withRecord {s t : State} {F : Frame} {l : List Nat} {k : Nat} (hu : s.usual) (h : (s.fire 163).Only F t l) (hl : endIgnores l)
    (hjobs : ∀ j ∈ t.hqe.jobs, j.trk ≠ k / 2) : State.done { t with work := t.work ++ [Work.record k] } = .next t := by
  have husual : t.usual := State.usual_of (s := s.fire 163) ⟨State.quiet_fire _ _ hu.1, State.settled_fire _ _ hu.2⟩ h.endsAlike h.reg hl
  rw [husual.1.1]
  exact State.done_withWork husual (State.doWork_record hjobs)

end Sys2Proof.Machine

/-!
Fits, completion, hold and delivery of a document record (R200, R205, R208, R211, R212, R391).
-/
namespace Sys2Proof.Machine

/-! ## The fits of a side -/

/-- The frame of the free count. -/
def Frame.free : Frame :=
  ⟨fun s t => { s with regs := t.regs, freeCount := t.freeCount }, fun _ => rfl, fun _ _ _ => rfl, fun _ _ _ => rfl, fun _ _ _ => rfl,
    fun _ _ => ⟨rfl, rfl, rfl, rfl, rfl, rfl, rfl⟩⟩

theorem State.jitterAll_only (s : State) (l : List Int) : s.Only Frame.free (s.jitterAll l).2 [] := by
  induction l generalizing s with
  | nil => exact .refl s []
  | cons v r ih =>
    have hfree : s.Only Frame.free (s.jitter v).2 [] := ⟨rfl, State.regsBut_of_regs _ rfl⟩
    exact hfree.trans (ih (s.jitter v).2)

theorem clampInt_bounds {lo hi : Int} (v : Int) (h : lo ≤ hi) : lo ≤ clampInt lo hi v ∧ clampInt lo hi v ≤ hi := by
  rw [clampInt]
  split
  · omega
  · split <;> omega

/-- The section of a side with its fits: only free values are taken. -/
theorem State.sideFitted_spec (s : State) (u : Nat) (w : Window) :
    s.Only Frame.free (s.sideFitted u w).2 [] ∧ (s.sideFitted u w).1.unit = u ∧
      -4500 ≤ (s.sideFitted u w).1.skew ∧ (s.sideFitted u w).1.skew ≤ 4500 ∧ (s.sideFitted u w).1.yEnd = w.y := by
  obtain ⟨top, bottom, left, right, hfits⟩ : ∃ a b c d, s.fitsOf u w = [a, b, c, d] := ⟨_, _, _, _, rfl⟩
  delta State.sideFitted
  extract_lets b
  rw [hfits]
  dsimp only
  refine ⟨((List.foldlRecOn (motive := fun acc : List Int × State => s.Only Frame.free acc.2 []) _ _ ?_ fun acc h c _ => ?_).trans
    (State.jitterAll_only _ _)).trans (State.jitterAll_only _ _), rfl, (clampInt_bounds _ (by decide)).1, (clampInt_bounds _ (by decide)).2, rfl⟩
  · dsimp only
    split
    · exact .refl s []
    · exact s.jitterAll_only _
  · cases c with
    | none => exact h
    | some _ => exact h.trans (State.jitterAll_only _ _)

/-! ## The slots of a track -/

section
variable (s : State) {t a : Nat} (ha : a < 2)
include ha

theorem slot_split : (t * 2 + a) / 2 = t ∧ (t * 2 + a) % 2 = a := by omega

/-- What one slot of the track alone satisfies is found there. -/
theorem State.find?_slotsOf {p : Nat → Bool} (h : p (t * 2 + a) = true) (h' : p (t * 2 + (1 - a)) = false) :
    (s.slotsOf t).find? p = some (t * 2 + a) := by
  obtain rfl | rfl : a = 0 ∨ a = 1 := by omega
  · rw [State.slotsOf]
    split <;> simp_all
  · rw [State.slotsOf]
    split <;> simp_all

theorem State.filter_slotsOf {p : Nat → Bool} (h : p (t * 2 + a) = true) (h' : p (t * 2 + (1 - a)) = false) :
    (s.slotsOf t).filter p = [t * 2 + a] := by
  obtain rfl | rfl : a = 0 ∨ a = 1 := by omega
  · rw [State.slotsOf]
    split <;> simp_all
  · rw [State.slotsOf]
    split <;> simp_all

end

/-! ## Completion -/

/-- A record with `late` noted. -/
def DocRecord.timed (d : DocRecord) (late : Bool) : DocRecord := { d with late := late }

section
variable (s : State) {k : Nat}

theorem State.tryComplete_waiting {v : Nat} (h : v ∈ (s.record k).open_) : s.tryComplete k = s.refreshTrack (k / 2) := by
  rw [State.tryComplete]
  refine if_neg fun hc => ?_
  have hempty : (s.record k).open_.isEmpty = true := by
    simp only [Bool.and_eq_true] at hc
    exact hc.1.2
  rw [List.isEmpty_iff.mp hempty] at h
  exact absurd h List.not_mem_nil

/-- A record that waits for nothing more. -/
theorem State.tryComplete_over (hbusy : (s.record k).busy = true) (hopen : (s.record k).complete = false) (hunits : (s.record k).open_ = [])
    (hholds : (s.record k).holds = [] ∨ (s.record k).late = true) :
    s.tryComplete k =
      (s.setRecord k ((s.record k).timed ((s.record k).late || s.fld (R.trkHold (k / 2)) F.trkHold.TMO_US == 0))).recordComplete k := by
  rw [State.tryComplete]
  refine if_pos ?_
  rw [hbusy, hopen, hunits]
  rcases hholds with h | h
  · rw [h]
    rfl
  · rw [h, Bool.true_or, Bool.or_true]
    rfl

end

end Sys2Proof.Machine

/-!
The commands that end fits and records (R200, R208, R211, R212, R391).
-/
namespace Sys2Proof.Machine

section
variable {s : State} {t : Fin 4} {a : Nat} (hu : s.usual) (ha : a < 2)
include ha

/-- The fits of the one window of unit u that is due are taken. -/
theorem State.edgeFitComplete_due {u : Fin 4} {w : Window} (htrk : s.fld (R.uCfg u) F.uCfg.TRK = t) (hw : s.window (u * 2 + a) = some w)
    (hclosed : w.closed = true) (hother : s.window (u * 2 + (1 - a)) = none) (hmem : (s.record (t * 2 + a)).open_.contains u.val = true) :
    s.edgeFitComplete u = ((s.sideFitted u w).2.addSide (t * 2 + a) u (s.sideFitted u w).1).tryComplete (t * 2 + a) := by
  obtain ⟨-, hmod⟩ := slot_split (t := t) ha
  have hmod' : (t * 2 + (1 - a)) % 2 = 1 - a := (slot_split (t := t) (by omega)).2
  delta State.edgeFitComplete
  extract_lets t' due
  have hdue : due (t' * 2 + a) = some w := by
    simp only [due, t', htrk, hmod, hw, hclosed, hmem, Bool.and_self, if_true]
  have hdue' : due (t' * 2 + (1 - a)) = none := by
    simp only [due, t', htrk, hmod', hother]
  have hfind := s.find?_slotsOf (t := t') (p := fun k => (due k).isSome) ha (by rw [hdue]; rfl) (by rw [hdue']; rfl)
  rw [hfind]
  have hside : ∀ {x : Option Window}, x = some w → (s.sideFitted u (x.getD {})) = s.sideFitted u w := fun h => by rw [h]; rfl
  change ((s.sideFitted u ((due (t' * 2 + a)).getD {})).2.addSide (t' * 2 + a) u (s.sideFitted u ((due (t' * 2 + a)).getD {})).1).tryComplete
    (t' * 2 + a) = _
  rw [hside hdue, show t' = t from htrk]

/-- Slot k of s with the side of unit u entered and its free values drawn. -/
def State.sideEntered (s : State) (k u : Nat) (w : Window) : State := (s.sideFitted u w).2.addSide k u (s.sideFitted u w).1

omit ha in
theorem State.sideEntered_spec (k u : Nat) (w : Window) : s.Only Frame.geoFree (s.sideEntered k u w) [] ∧
    (s.sideEntered k u w).record k = { s.record k with
      sides := (s.record k).sides.filter (fun x => x.unit != u) ++ [(s.sideFitted u w).1], open_ := (s.record k).open_.filter (fun x => x != u) } ∧
    (∀ j, j ≠ k → (s.sideEntered k u w).record j = s.record j) ∧ (s.sideEntered k u w).geo.windows = s.geo.windows := by
  obtain ⟨hfree, -⟩ := s.sideFitted_spec u w
  have hgeo : (s.sideFitted u w).2.geo = s.geo := by rw [hfree.state]; rfl
  refine ⟨(hfree.widen (G := Frame.geoFree) fun _ _ => rfl).trans ((State.setRecord_only _ _ _ _).widen fun _ _ => rfl), ?_, fun j hj => ?_, ?_⟩
  · rw [State.sideEntered, State.addSide, State.record_setRecord_same, State.record_of_geo hgeo]
  · rw [State.sideEntered, State.addSide, State.record_setRecord_ne _ _ _ hj, State.record_of_geo hgeo]
  · exact (congrArg Geo.windows hgeo :)

include hu

theorem exec_edgeFitComplete_waiting {u : Fin 4} {w : Window} (htrk : s.fld (R.uCfg u) F.uCfg.TRK = t)
    (hw : s.window (u * 2 + a) = some w) (hclosed : w.closed = true) (hother : s.window (u * 2 + (1 - a)) = none)
    (hmem : (s.record (t * 2 + a)).open_.contains u.val = true) (hmore : ∃ v ∈ (s.record (t * 2 + a)).open_, v ≠ u.val)
    (hopen : (s.record (t * 2 + a)).complete = false) :
    ∃ r, exec (.edgeFitComplete u) s = .next r ∧ r = { s with regs := r.regs, geo := r.geo, freeCount := r.freeCount } ∧
      (r.record (t * 2 + a)).complete = false ∧ (r.record (t * 2 + a)).open_ = (s.record (t * 2 + a)).open_.filter (fun x => x != u.val) ∧
      (∃ e ∈ (r.record (t * 2 + a)).sides, e.unit = u.val ∧ -4500 ≤ e.skew ∧ e.skew ≤ 4500 ∧ e.yEnd = w.y) ∧
      (∀ j, j ≠ t * 2 + a → r.record j = s.record j) ∧ r.geo.windows = s.geo.windows ∧
      (∀ off, off ∉ [R.trkStat t, R.geoStat, R.trkHold t] → r.reg off = s.reg off) := by
  obtain ⟨hdiv, -⟩ := slot_split (t := t) ha
  obtain ⟨hfree, hunit, hlo, hhi, hend⟩ := s.sideFitted_spec u w
  obtain ⟨honly, hrec, hne, hwin⟩ := s.sideEntered_spec (t * 2 + a) u w
  obtain ⟨v, hv, hvu⟩ := hmore
  have hwait : v ∈ ((s.sideEntered (t * 2 + a) u w).record (t * 2 + a)).open_ := by
    rw [hrec]
    exact List.mem_filter.mpr ⟨hv, by simpa using hvu⟩
  have hexec : exec (.edgeFitComplete u) s = State.done ((s.sideEntered (t * 2 + a) u w).refreshTrack t) :=
    congrArg State.done ((State.edgeFitComplete_due ha htrk hw hclosed hother hmem).trans
      (((s.sideEntered (t * 2 + a) u w).tryComplete_waiting hwait).trans (by rw [hdiv])))
  have hf : s.Only Frame.geoFree ((s.sideEntered (t * 2 + a) u w).refreshTrack t) (trackViews t) :=
    (honly.mono (by simp)).trans (State.refreshTrack_only _ _)
  have hlist : endIgnores (trackViews t) := endIgnores_of fun o ho => by
    simp only [trackViews, List.mem_cons, List.not_mem_nil, or_false, R.trkStat, R.geoStat, R.trkHold] at ho
    omega
  refine ⟨_, hexec.trans (hf.done hu hlist), hf.state, ?_, ?_, ⟨(s.sideFitted u w).1, ?_, hunit, hlo, hhi, hend⟩, fun j hj => ?_, ?_, hf.reg⟩
  · rw [State.record_refreshTrack, hrec]
    exact hopen
  · rw [State.record_refreshTrack, hrec]
  · rw [State.record_refreshTrack, hrec]
    exact List.mem_append_right _ (List.mem_singleton_self _)
  · rw [State.record_refreshTrack]
    exact hne j hj
  · exact hwin

/-- Slot k of s with `late` noted, complete. -/
def State.overLate (s : State) (k : Nat) (late : Bool) : State := (s.setRecord k ((s.record k).timed late)).recordOver k

omit ha hu in
theorem State.overLate_only (k : Nat) (late : Bool) : (s.fire 163).Only Frame.geo (s.overLate k late) (overRegs (k / 2)) :=
  ((s.setRecord_only k _ _).fire 163).trans (State.recordOver_only _ _)

omit ha hu in
theorem State.hqe_overLate (k : Nat) (late : Bool) : (s.overLate k late).hqe = s.hqe := by
  rw [(s.overLate_only k late).state]
  rfl

omit ha hu in
theorem State.recordComplete_timed (k : Nat) (late : Bool) : (s.setRecord k ((s.record k).timed late)).recordComplete k =
    { s.overLate k late with work := (s.overLate k late).work ++ [Work.record k] } := by
  rw [State.recordComplete_eq, State.overLate]

omit ha hu in
/-- A record that completes: itself, the others, and its track. -/
theorem State.overLate_spec (k : Nat) (late : Bool) :
    (∃ bytes, (s.overLate k late).record k = ((s.record k).timed late).done (s.record k).final bytes ∧
      ∃ b, bytes = b ++ bytesLE 4 (crc32c b).toNat ∧ b.take 3 = [1, 0, BitVec.ofNat 8 (k / 2)]) ∧
    (∀ j, j ≠ k → (s.overLate k late).record j = s.record j) ∧
    (s.overLate k late).fld (R.trkStat (k / 2)) F.trkStat.LAST = (s.record k).final % 256 ∧
    (s.overLate k late).reg (R.trkSeq (k / 2)) = s.reg (R.trkSeq (k / 2)) + 1 := by
  have hsame : (s.setRecord k ((s.record k).timed late)).record k = (s.record k).timed late := State.record_setRecord_same _ _ _
  have hfinal : ((s.record k).timed late).final = (s.record k).final := rfl
  refine ⟨⟨_, ?_, (s.setRecord k ((s.record k).timed late)).recordBytes_form (k / 2) ((s.record k).timed late) (s.record k).final⟩,
    fun j hj => ?_, ?_, ?_⟩
  · rw [State.overLate, State.record_recordOver_same, hsame, hfinal]
  · rw [State.overLate, State.record_recordOver_ne _ _ hj, State.record_setRecord_ne _ _ _ hj]
  · rw [State.overLate, State.fld_recordOver_last, hsame, hfinal]
  · rw [State.overLate, State.reg_recordOver_seq, State.reg_setRecord]

omit ha hu in
/-- A unit's window in the slot is over with the record. -/
theorem State.window_overLate {k u : Nat} {w : Window} (late : Bool) (hu4 : u < 4) (hw : s.window (u * 2 + k % 2) = some w)
    (htrk : s.fld (R.uCfg u) F.uCfg.TRK = k / 2) : (s.overLate k late).window (u * 2 + k % 2) = none := by
  rw [State.overLate, State.window_recordOver]
  refine (State.dropWindows_of_some _ _ _ hu4 (w := w) (by rw [State.window_recordDone, State.window_setRecord, hw]) ?_).1
  rw [((s.setRecord_only k _ []).trans (State.recordDone_only _ _ _)).fld (by simp)]
  exact htrk

theorem exec_edgeFitComplete_last (hjobs : ∀ j ∈ s.hqe.jobs, j.trk ≠ t.val) {u : Fin 4} {w : Window} (htrk : s.fld (R.uCfg u) F.uCfg.TRK = t)
    (hw : s.window (u * 2 + a) = some w) (hclosed : w.closed = true) (hother : s.window (u * 2 + (1 - a)) = none)
    (hbusy : (s.record (t * 2 + a)).busy = true) (hopen : (s.record (t * 2 + a)).complete = false)
    (hlast : (s.record (t * 2 + a)).open_ = [u.val]) (hholds : (s.record (t * 2 + a)).holds = []) :
    ∃ r, exec (.edgeFitComplete u) s = .next r ∧
      r = { s with regs := r.regs, geo := r.geo, freeCount := r.freeCount, pulses := addSorted s.pulses 163 } ∧
      (r.record (t * 2 + a)).complete = true ∧ (r.record (t * 2 + a)).open_ = [] ∧
      (∃ b, (r.record (t * 2 + a)).bytes = b ++ bytesLE 4 (crc32c b).toNat ∧ b.take 3 = [1, 0, BitVec.ofNat 8 t]) ∧
      ((s.record (t * 2 + a)).status ≠ 0 → (r.record (t * 2 + a)).status = (s.record (t * 2 + a)).status) ∧
      r.fld (R.trkStat t) F.trkStat.LAST = (r.record (t * 2 + a)).status % 256 ∧ r.reg (R.trkSeq t) = s.reg (R.trkSeq t) + 1 ∧
      r.window (u * 2 + a) = none ∧ (∀ j, j ≠ t * 2 + a → r.record j = s.record j) ∧ (∀ off, off ∉ overRegs t → r.reg off = s.reg off) := by
  obtain ⟨hdiv, hmod⟩ := slot_split (t := t) ha
  obtain ⟨honly, hrec, hne, hwin⟩ := s.sideEntered_spec (t * 2 + a) u w
  have hdue := State.edgeFitComplete_due ha htrk hw hclosed hother (by rw [hlast]; simp)
  change s.edgeFitComplete u = (s.sideEntered (t * 2 + a) u w).tryComplete (t * 2 + a) at hdue
  have hwindow : ∀ k, (s.sideEntered (t * 2 + a) u w).window k = s.window k := fun k => by rw [State.window, hwin, State.window]
  have hhqe : (s.sideEntered (t * 2 + a) u w).hqe = s.hqe := by rw [honly.state]; rfl
  generalize s.sideEntered (t * 2 + a) u w = x at honly hrec hne hdue hwindow hhqe
  have hover := x.tryComplete_over (k := t * 2 + a) (by rw [hrec]; exact hbusy) (by rw [hrec]; exact hopen)
    (by rw [hrec]; exact List.filter_eq_nil_iff.mpr fun v hv => by rw [hlast, List.mem_singleton] at hv; simp [hv])
    (.inl (by rw [hrec]; exact hholds))
  generalize ((x.record (t * 2 + a)).late || x.fld (R.trkHold ((t * 2 + a) / 2)) F.trkHold.TMO_US == 0) = late at hover
  have hkeep := x.overLate_only (t * 2 + a) late
  rw [hdiv] at hkeep
  have hf : (s.fire 163).Only Frame.geoFree (x.overLate (t * 2 + a) late) (overRegs t) :=
    ((honly.fire 163).mono (by simp)).trans (hkeep.widen fun _ _ => rfl)
  have hexec : exec (.edgeFitComplete u) s = .next (x.overLate (t * 2 + a) late) :=
    (congrArg State.done (hdue.trans (hover.trans (x.recordComplete_timed _ _)))).trans (State.done_withRecord hu hf (endIgnores_overRegs t) fun j hj => by
      rw [hdiv]
      refine hjobs j ?_
      rwa [State.hqe_overLate, hhqe] at hj)
  obtain ⟨⟨bytes, hdone, b, hb, hhead⟩, hothers, hshown, hseq⟩ := x.overLate_spec (t * 2 + a) late
  have hover := x.window_overLate (k := t * 2 + a) late u.isLt (by rw [hmod, hwindow]; exact hw) (by rw [hdiv, honly.fld (by simp)]; exact htrk)
  rw [hdiv] at hshown hseq hhead
  rw [hmod] at hover
  refine ⟨_, hexec, hf.state, ?_, ?_, ⟨b, ?_, hhead⟩, fun hst => ?_, ?_, ?_, hover, fun j hj => (hothers j hj).trans (hne j hj), hf.reg⟩
  · rw [hdone]
    rfl
  · rw [hdone, hrec, hlast]
    simp [DocRecord.done, DocRecord.timed]
  · rw [hdone]
    exact hb
  · rw [hdone, hrec]
    exact if_pos hst
  · rw [hdone]
    exact hshown
  · rw [hseq, honly.reg _ (by simp)]

/-- The hold of the oldest assembled record has lasted too long. -/
theorem exec_recordHoldTimeout_late (hjobs : ∀ j ∈ s.hqe.jobs, j.trk ≠ t.val) (hbusy : (s.record (t * 2 + a)).busy = true)
    (hopen : (s.record (t * 2 + a)).complete = false) (hwin : ∀ u, u < 4 → s.window (u * 2 + a) = none)
    (hother : (s.record (t * 2 + (1 - a))).busy = false) (hunits : (s.record (t * 2 + a)).open_ = []) :
    ∃ r, exec (.recordHoldTimeout t) s = .next r ∧ r = { s with regs := r.regs, geo := r.geo, pulses := addSorted s.pulses 163 } ∧
      (r.record (t * 2 + a)).complete = true ∧ (r.record (t * 2 + a)).late = true ∧
      (r.record (t * 2 + a)).holds = (s.record (t * 2 + a)).holds ∧
      r.reg (R.trkSeq t) = s.reg (R.trkSeq t) + 1 ∧ (∀ off, off ∉ overRegs t → r.reg off = s.reg off) := by
  obtain ⟨hdiv, hmod⟩ := slot_split (t := t) ha
  have hfind := s.find?_slotsOf (t := t) (p := fun k => (s.record k).busy && !(s.record k).complete) ha (by rw [hbusy, hopen]; rfl)
    (by rw [hother]; rfl)
  have hstep : s.recordHoldTimeout t = (s.setRecord (t * 2 + a) ((s.record (t * 2 + a)).timed true)).tryComplete (t * 2 + a) := by
    rw [State.recordHoldTimeout, hfind]
    refine if_neg fun hany => ?_
    obtain ⟨u, hu4, h⟩ := List.any_eq_true.mp hany
    rw [hmod, hwin u (List.mem_range.mp hu4)] at h
    exact Bool.false_ne_true h
  have hrec := s.record_setRecord_same (t * 2 + a) ((s.record (t * 2 + a)).timed true)
  have honly := s.setRecord_only (t * 2 + a) ((s.record (t * 2 + a)).timed true) []
  generalize s.setRecord (t * 2 + a) ((s.record (t * 2 + a)).timed true) = x at hstep hrec honly
  have hover := x.tryComplete_over (k := t * 2 + a) (by rw [hrec]; exact hbusy) (by rw [hrec]; exact hopen) (by rw [hrec]; exact hunits)
    (.inr (by rw [hrec, DocRecord.timed]))
  rw [show (x.record (t * 2 + a)).late = true by rw [hrec, DocRecord.timed], Bool.true_or] at hover
  have hkeep := x.overLate_only (t * 2 + a) true
  rw [hdiv] at hkeep
  have hf : (s.fire 163).Only Frame.geo (x.overLate (t * 2 + a) true) (overRegs t) :=
    ((honly.fire 163).mono (by simp)).trans hkeep
  have hexec : exec (.recordHoldTimeout t) s = .next (x.overLate (t * 2 + a) true) :=
    (congrArg State.done (hstep.trans (hover.trans (x.recordComplete_timed _ _)))).trans (State.done_withRecord hu hf (endIgnores_overRegs t) fun j hj => by
      rw [hdiv]
      refine hjobs j ?_
      rwa [State.hqe_overLate, show x.hqe = s.hqe by rw [honly.state]; rfl] at hj)
  obtain ⟨⟨bytes, hdone, -⟩, -, -, hseq⟩ := x.overLate_spec (t * 2 + a) true
  rw [hdiv] at hseq
  refine ⟨_, hexec, hf.state, ?_, ?_, ?_, ?_, hf.reg⟩
  · rw [hdone]
    rfl
  · rw [hdone]
    rfl
  · rw [hdone, hrec]
    rfl
  · rw [hseq, honly.reg _ (by simp)]

end

end Sys2Proof.Machine

/-!
The delivery of a document record, and what becomes of a record (R208, R391).
-/
namespace Sys2Proof.Machine

section
variable (s : State) (t : Nat)

/-- A track without a busy slot shows none. -/
theorem State.refreshTrack_free (h0 : (s.record (t * 2)).busy = false) (h1 : (s.record (t * 2 + 1)).busy = false) :
    (s.refreshTrack t).fld (R.trkStat t) F.trkStat.SLOT = 0 ∧ (s.refreshTrack t).fld (R.trkHold t) F.trkHold.OUT = 0 ∧
      (t < 4 → ((s.refreshTrack t).reg R.geoStat).getLsbD (8 + t) = false) := by
  have hnone : s.oldestBusy t = none := by
    rw [State.oldestBusy, State.slotsOf]
    split <;> simp [h0, h1]
  refine ⟨?_, ?_, fun ht => ?_⟩
  · rw [State.fld, State.reg_refreshTrack_stat, Fld.get_put _ _ _ (by decide), h0, h1]
    rfl
  · rw [State.refreshTrack, State.fld_setFld _ _ _ _ (by decide), hnone]
    rfl
  · rw [State.refreshTrack, State.reg_setFld_ne _ _ _ _ _ (by simp only [R.geoStat, R.trkHold]; omega), State.reg_setFld_same, h0, h1,
      Fld.put_bit _ _ _ _ (by change 8 + t + 1 ≤ 32; omega) (by omega), if_pos (by change 8 + t ≤ 8 + t ∧ 8 + t < 8 + t + 1; omega), Nat.sub_self]
    rfl

end

section
variable {s : State} {t : Fin 4} {a : Nat} (hu : s.usual) (ha : a < 2)
include hu ha

/-- HQE takes the complete record of the track for a context that has no open message stream. -/
theorem exec_recordSlotRelease_discarded {x : State} (hx : x = s.setRecord (t * 2 + a) { s.record (t * 2 + a) with complete := true })
    (hbusy : (s.record (t * 2 + a)).busy = true) (hother : (s.record (t * 2 + (1 - a))).busy = false)
    (hshut : (s.stream (s.fld (R.trkSc t) F.trkSc.SC)).opened = false) :
    ∃ r, exec (.recordSlotRelease t) x = .next r ∧ r = { s with regs := r.regs, geo := r.geo } ∧ r.record (t * 2 + a) = {} ∧
      (∀ j, j ≠ t * 2 + a → r.record j = s.record j) ∧ r.fld (R.trkStat t) F.trkStat.SLOT = 0 ∧ r.fld (R.trkHold t) F.trkHold.OUT = 0 ∧
      (r.reg R.geoStat).getLsbD (8 + t) = false ∧ r.reg R.hqeDiscCnt = satInc (s.reg R.hqeDiscCnt) ∧
      (∀ off, off ∉ [R.trkStat t, R.geoStat, R.trkHold t, R.hqeDiscCnt] → r.reg off = s.reg off) := by
  have honly : s.Only Frame.geo x [] := hx ▸ s.setRecord_only _ _ _
  have hrec : x.record (t * 2 + a) = { s.record (t * 2 + a) with complete := true } := by rw [hx, State.record_setRecord_same]
  have hne : ∀ j, j ≠ t * 2 + a → x.record j = s.record j := fun j hj => by rw [hx, State.record_setRecord_ne _ _ _ hj]
  clear hx
  have hfilter := x.filter_slotsOf (t := t) (p := fun k => (x.record k).busy && (x.record k).complete) ha (by rw [hrec, hbusy]; rfl)
    (by rw [hne _ (by omega), hother]; rfl)
  have hmsg : ∀ src l, x.messageItem (x.fld (R.trkSc t) F.trkSc.SC) src l = x.count R.hqeDiscCnt := fun src l => by
    have hstream : (x.stream (x.fld (R.trkSc t) F.trkSc.SC)).opened = false := by
      rw [honly.fld (by simp), show x.stream = s.stream by rw [honly.state]; rfl, hshut]
    rw [State.messageItem]
    exact if_neg (by rw [hstream]; exact Bool.false_ne_true)
  have hstep : x.recordRelease t = ((x.count R.hqeDiscCnt).setRecord (t * 2 + a) {}).refreshTrack t := by
    rw [State.recordRelease, hfilter]
    change ((x.messageItem (x.fld (R.trkSc t) F.trkSc.SC) t _).setRecord (t * 2 + a) {}).refreshTrack t = _
    rw [hmsg]
  have hf : s.Only Frame.geo (((x.count R.hqeDiscCnt).setRecord (t * 2 + a) {}).refreshTrack t)
      [R.trkStat t, R.geoStat, R.trkHold t, R.hqeDiscCnt] :=
    (((honly.mono (by simp)).count (by simp)).trans (State.setRecord_only _ _ _ _)).trans ((State.refreshTrack_only _ _).mono (by simp [trackViews]))
  have hrec' : ∀ j, ((x.count R.hqeDiscCnt).setRecord (t * 2 + a) {}).record j = if j = t * 2 + a then {} else x.record j := fun j =>
    State.record_setRecord _ _ _ _
  have hlist : endIgnores [R.trkStat t, R.geoStat, R.trkHold t, R.hqeDiscCnt] := endIgnores_of fun o ho => by
    simp only [List.mem_cons, List.not_mem_nil, or_false, R.trkStat, R.geoStat, R.trkHold, R.hqeDiscCnt] at ho
    omega
  have hfree : ∀ j, j = t.val * 2 ∨ j = t.val * 2 + 1 → (((x.count R.hqeDiscCnt).setRecord (t * 2 + a) {}).record j).busy = false := fun j hj => by
    rw [hrec']
    split
    · rfl
    · next hja => rw [hne _ hja, show j = t * 2 + (1 - a) by omega, hother]
  obtain ⟨hslot, hout, hbit⟩ := State.refreshTrack_free ((x.count R.hqeDiscCnt).setRecord (t * 2 + a) {}) t (hfree _ (.inl rfl)) (hfree _ (.inr rfl))
  refine ⟨_, (congrArg State.done hstep).trans (hf.done hu hlist), hf.state, ?_, fun j hj => ?_, hslot, hout, hbit t.isLt, ?_, hf.reg⟩
  · rw [State.record_refreshTrack, hrec', if_pos rfl]
  · rw [State.record_refreshTrack, hrec', if_neg hj, hne j hj]
  · rw [(State.refreshTrack_only (F := Frame.geo) _ _).reg _ (by
      simp only [trackViews, List.mem_cons, List.not_mem_nil, or_false, R.hqeDiscCnt, R.trkStat, R.geoStat, R.trkHold]; omega),
      State.reg_setRecord, State.reg_count, if_pos rfl, honly.reg _ (by simp)]

end

/-- Settles O28: the fits, the completion, the hold and the delivery of a document record. -/
theorem documentRecords : Obligations.DocumentRecords := by
  unfold Obligations.DocumentRecords
  intro s t a hu ha hjobs k regs hbusy hopen
  refine ⟨fun u w htrk hw hclosed hother hmem => ⟨fun hmore => ?_, fun hlast hholds => ?_⟩, fun hwin hother hunits => ?_,
    fun x hx hother hshut => ?_⟩
  · exact exec_edgeFitComplete_waiting hu ha htrk hw hclosed hother hmem hmore hopen
  · exact exec_edgeFitComplete_last hu ha hjobs htrk hw hclosed hother hbusy hopen hlast hholds
  · exact exec_recordHoldTimeout_late hu ha hjobs hbusy hopen hwin hother hunits
  · exact exec_recordSlotRelease_discarded hu ha hx hbusy hother hshut

end Sys2Proof.Machine

/-!
The enable of a block that claims a buffer partition: the claim, the check of its causes, and what a refusal leaves (R50, R214).
-/
namespace Sys2Proof.Machine

/-! ## The claim at an enable -/

section
variable (s : State) (path : Path) (abp who off : Nat) (en : Fld) (cause : State → Bool → Nat) (err : State → Nat → State) (ok : State → State)
  (hfree : s.owner (.partition abp) = 0) (hvalid : s.partInvalid abp = false) (hclash : s.partClash abp = none) (hw : who ≠ 0)
include hfree hvalid hclash hw

theorem State.claimAtEnable_ok (hc : cause (s.setOwner (.partition abp) who) false = 0) :
    s.claimAtEnable path abp who off en cause err ok = ok (s.setOwner (.partition abp) who) := by
  rw [State.claimAtEnable, s.claim_partition abp who hfree hvalid hclash hw]
  exact if_pos hc

theorem State.claimAtEnable_refused (hc : cause (s.setOwner (.partition abp) who) false ≠ 0) :
    s.claimAtEnable path abp who off en cause err ok =
      (err ((s.setOwner (.partition abp) who).setOwner (.partition abp) 0) (cause (s.setOwner (.partition abp) who) false)).setFld off en 0 := by
  rw [State.claimAtEnable, s.claim_partition abp who hfree hvalid hclash hw]
  refine (if_neg hc).trans ?_
  dsimp only
  rw [if_pos hfree]
  rfl

end

/-! ## A configuration register written with EN in bit 0 -/

/-- Bit 0 as an enable. -/
abbrev enFld : Fld := ⟨0, 1⟩

theorem enFld_put (w : Word) : (enFld.put w 1).getLsbD 0 = true ∧ (enFld.put w 0).getLsbD 0 = false := by
  constructor
  · rw [Fld.put_bit _ _ _ _ (by decide) (by decide), if_pos (by decide)]
    decide
  · rw [Fld.put_bit _ _ _ _ (by decide) (by decide), if_pos (by decide)]
    decide

section
variable (s : State) (path : Path) (off : Nat) (row : RegRow) (w : Word) (abp who : Nat)

/-- The register as an enable writes it. -/
def State.cfgAsked : State := s.writeRow path off row (enFld.put w 1) false

/-- The register as an enable writes it, with the partition claimed. -/
def State.cfgClaimed : State := (s.cfgAsked path off row w).setOwner (.partition abp) who

theorem State.cfgAsked_only : s.Only Frame.eff (s.cfgAsked path off row w) [off] := (s.writeRow_sameBut _ _ _ _).only fun _ _ _ => rfl

theorem State.cfgClaimed_only : s.Only Frame.eff (s.cfgClaimed path off row w abp who) [off, R.sysAbpCfg abp] :=
  ((s.cfgAsked_only path off row w).mono (by simp)).trans ((State.setOwner_partition_only _ _ _).mono (by simp))

theorem State.fld_cfgAsked_en (h : row.takesFld enFld = true) : (s.cfgAsked path off row w).fld off enFld = 1 := by
  rw [State.cfgAsked, State.fld_writeRow_of_takes _ _ _ _ (by decide) h, Fld.get_put _ _ _ (by decide)]
  rfl

theorem State.fld_cfgAsked {f : Fld} (hf : f.lo + f.width ≤ 32) (hlo : 0 < f.lo) (h : row.takesFld f = true) :
    (s.cfgAsked path off row w).fld off f = f.get w := by
  rw [State.cfgAsked, State.fld_writeRow_of_takes _ _ _ _ hf h, Fld.get_put_apart _ _ _ _ (by decide) hf (.inr (show enFld.lo + enFld.width ≤ f.lo from hlo))]

theorem State.fld_cfgClaimed (hne : off ≠ R.sysAbpCfg abp) (f : Fld) :
    (s.cfgClaimed path off row w abp who).fld off f = (s.cfgAsked path off row w).fld off f := State.fld_setFld_ne _ _ _ _ _ _ hne

/-- The statements' reading of the claimed state. -/
theorem State.reg_cfgClaimed : (s.cfgClaimed path off row w abp who).reg =
    ((s.setReg off (row.written (s.reg off) (enFld.put w 1))).setOwner (.partition abp) who).reg := by
  have hreg : (s.cfgAsked path off row w).reg = (s.setReg off (row.written (s.reg off) (enFld.put w 1))).reg := by
    funext o
    rw [State.cfgAsked, State.reg_writeRow, State.reg_setReg]
  funext o
  rw [State.cfgClaimed]
  by_cases ho : o = R.sysAbpCfg abp
  · subst ho
    rw [State.setOwner, State.setOwner, State.reg_setFld_same, State.reg_setFld_same, hreg]
  · rw [State.reg_setOwner_partition _ _ _ ho, State.reg_setOwner_partition _ _ _ ho, hreg]

variable (hapart : ∀ m, m < 16 → off ≠ R.sysAbpCfg m)
include hapart

/-- A write of another register leaves the partitions as they are. -/
theorem State.partition_cfgAsked (habp : abp < 16) : (s.cfgAsked path off row w).owner (.partition abp) = s.owner (.partition abp) ∧
    (s.cfgAsked path off row w).partInvalid abp = s.partInvalid abp ∧ (s.cfgAsked path off row w).partClash abp = s.partClash abp := by
  have hreg : ∀ m, m < 16 → (s.cfgAsked path off row w).reg (R.sysAbpCfg m) = s.reg (R.sysAbpCfg m) := fun m hm =>
    (s.cfgAsked_only path off row w).reg _ (by simpa using (hapart m hm).symm)
  exact ⟨State.owner_congr (hreg _ habp), State.partInvalid_congr (hreg _ habp), State.partClash_congr (hreg _ habp) hreg⟩

end

/-! ## A refusal -/

section
variable (s : State) (off stat abp cause : Nat) (errF causeF : Fld)

/-- A refused enable: the partition given back, the cause shown in the status register, EN at 0. -/
def State.cfgRefused : State :=
  (((s.setOwner (.partition abp) 0).setFld stat errF 1).setFld stat causeF cause).setFld off enFld 0

theorem State.cfgRefused_only {F : Frame} : s.Only F (s.cfgRefused off stat abp cause errF causeF) [off, stat, R.sysAbpCfg abp] :=
  ((((State.setOwner_partition_only s abp 0).mono (by simp)).setFld _ _ (by simp)).setFld _ _ (by simp)).setFld _ _ (by simp)

variable (h1 : off ≠ stat) (h2 : R.sysAbpCfg abp ≠ off) (h3 : R.sysAbpCfg abp ≠ stat)
include h1 h2 h3

/-- What a refusal shows, with CFG_ERR a bit below CFG_CAUSE. -/
theorem State.fld_cfgRefused (herr : errF.width = 1 ∧ errF.lo < causeF.lo) (hcause : causeF.lo + causeF.width ≤ 32) (hc : cause < 2 ^ causeF.width) :
    (s.cfgRefused off stat abp cause errF causeF).fld off enFld = 0 ∧ (s.cfgRefused off stat abp cause errF causeF).fld stat errF = 1 ∧
      (s.cfgRefused off stat abp cause errF causeF).fld stat causeF = cause ∧
      (s.cfgRefused off stat abp cause errF causeF).owner (.partition abp) = 0 := by
  refine ⟨?_, ?_, ?_, ?_⟩
  · rw [State.cfgRefused, State.fld_setFld _ _ _ _ (by decide)]
    rfl
  · rw [State.cfgRefused, State.fld_setFld_ne _ _ _ _ _ _ h1.symm,
      State.fld_setFld_apart _ _ _ _ _ hcause (by omega) (.inl (by omega)), State.fld_setFld _ _ _ _ (by omega), herr.1]
    rfl
  · rw [State.cfgRefused, State.fld_setFld_ne _ _ _ _ _ _ h1.symm, State.fld_setFld _ _ _ _ hcause]
    exact Nat.mod_eq_of_lt hc
  · have hreg : (s.cfgRefused off stat abp cause errF causeF).reg (R.sysAbpCfg abp) = (s.setOwner (.partition abp) 0).reg (R.sysAbpCfg abp) := by
      rw [State.cfgRefused, State.reg_setFld_ne _ _ _ _ _ h2, State.reg_setFld_ne _ _ _ _ _ h3, State.reg_setFld_ne _ _ _ _ _ h3]
    rw [State.owner_congr hreg, State.owner_setOwner_partition _ _ _ (by decide)]

end

/-! ## A disable -/

section
variable (s : State) (path : Path) (off : Nat) (row : RegRow) (w : Word) (busy : Bool)

/-- The register as a disable writes it. -/
def State.cfgCleared : State := s.writeKept path off row (enFld.put w 0) busy

theorem State.cfgCleared_only : s.Only Frame.eff (s.cfgCleared path off row w busy) [off] := (s.writeKept_sameBut _ _ _ _ _).only fun _ _ _ => rfl

theorem State.fld_cfgCleared_en (h : row.takesFld enFld = true) (hnow : row.nowOnly.takesFld enFld = true) :
    (s.cfgCleared path off row w busy).fld off enFld = 0 := by
  rw [State.cfgCleared, State.fld_writeKept_now _ _ _ _ _ _ (by decide) h hnow, Fld.get_put _ _ _ (by decide)]
  rfl

/-- A disable that keeps the Idle only fields keeps each of them. -/
theorem State.fld_cfgCleared {f : Fld} {m : Word} (hkeep : w &&& m = s.reg off &&& m) (hf : f.lo + f.width ≤ 32) (hlo : 0 < f.lo)
    (hm : ∀ i, f.lo ≤ i → i < f.lo + f.width → m.getLsbD i = true) (h : row.takesFld f = true) (hnow : row.nowOnly.leavesFld f = true) :
    (s.cfgCleared path off row w busy).fld off f = s.fld off f :=
  s.fld_writeKept_idle path off row _ busy hf h hnow
    ((Fld.get_put_apart _ _ _ _ (by decide) hf (.inr (show enFld.lo + enFld.width ≤ f.lo from hlo))).trans (Fld.get_of_and_eq hf hkeep hm))

/-- A disable that keeps the Idle only fields is taken, busy or not. -/
theorem State.writeRow_cleared {m : Word} (hkeep : w &&& m = s.reg off &&& m) (hm : m = BitVec.ofNat 32 row.rwIdle) (h0 : m.getLsbD 0 = false) :
    s.writeRow path off row (enFld.put w 0) busy = s.cfgCleared path off row w busy :=
  State.writeRow_kept _ _ _ _ _ _ (hm ▸ Fld.xor_put_and_eq _ _ _ _ _ (by decide) hkeep fun i hlo hhi => by
    obtain rfl : i = 0 := by
      change 0 ≤ i at hlo
      change i < 0 + 1 at hhi
      omega
    exact h0)

end

end Sys2Proof.Machine

/-!
The enable, refusal and disable of edge units and tracks (R192, R195, R210, R214).
-/
namespace Sys2Proof.Machine

/-! ## The causes of a refusal -/

theorem State.unitCause_congr {s t : State} (h : t.reg = s.reg) (u : Nat) (invalid : Bool) : t.unitCause u invalid = s.unitCause u invalid := by
  have hbytes : t.partBytes = s.partBytes := funext fun n => by
    rw [State.partBytes, State.partSpan_congr (congrFun h _), State.partBytes]
  rw [State.unitCause, hbytes, State.fld_congr h, State.bit_congr h, State.unitCause]

theorem State.trkCause_congr {s t : State} (h : t.reg = s.reg) (n : Nat) (invalid : Bool) : t.trkCause n invalid = s.trkCause n invalid := by
  rw [State.trkCause, State.fld_congr h, State.bit_congr h, State.trkCause]

theorem State.unitCause_le (s : State) (u : Nat) (invalid : Bool) : s.unitCause u invalid < 8 := by
  delta State.unitCause
  extract_lets abp t pts ncol step
  split
  · decide
  · split
    · decide
    · split
      · decide
      · split <;> decide

theorem State.trkCause_le (s : State) (n : Nat) (invalid : Bool) : s.trkCause n invalid < 8 := by
  delta State.trkCause
  extract_lets abp
  split
  · decide
  · split
    · decide
    · split <;> decide

/-! ## Units -/

section
variable {s : State} (hu : s.usual) (path : Path) (n : Fin 4) (w : Word) (hacc : s.accessible path (R.uCfg n) = true)

theorem uCfg_ne_sysAbpCfg (n : Fin 4) (m : Nat) (hm : m < 16) : R.uCfg n ≠ R.sysAbpCfg m := by
  simp only [R.uCfg, R.sysAbpCfg]
  omega

/-- Uu_CFG as an enable leaves it, with its partition claimed for GEO. -/
abbrev State.unitClaimed (s : State) (path : Path) (n : Nat) (w : Word) : State :=
  s.cfgClaimed path (R.uCfg n) Row.uCfg w (F.uCfg.ABP.get w) claimantGeo

theorem unitRegs_endIgnores (n : Fin 4) (abp : Nat) (h : abp < 16) : endIgnores [R.uCfg n, R.uStat n, R.sysAbpCfg abp] := endIgnores_of (by
  simp only [List.mem_cons, List.not_mem_nil, or_false, forall_eq_or_imp, forall_eq, R.uCfg, R.uStat, R.sysAbpCfg]
  omega)

/-- An enable of a unit that is off and has no window claims the partition and checks the unit. -/
theorem State.uCfgWrite_enable (hen : s.fld (R.uCfg n) F.uCfg.EN = 0) (hwin : s.fld (R.uStat n) F.uStat.WIN = 0) :
    s.uCfgWrite path n (F.uCfg.EN.put w 1) =
      (s.cfgAsked path (R.uCfg n) Row.uCfg w).claimAtEnable path (F.uCfg.ABP.get w) claimantGeo (R.uCfg n) F.uCfg.EN (fun t i => t.unitCause n i)
        (fun t c => (t.setFld (R.uStat n) F.uStat.CFG_ERR 1).setFld (R.uStat n) F.uStat.CFG_CAUSE c) id := by
  delta State.uCfgWrite
  extract_lets was s1 s2
  have hs1 : s1 = s.cfgAsked path (R.uCfg n) Row.uCfg w := by
    change s.writeRow path (R.uCfg n) Row.uCfg _ (s.bit (R.uStat n) F.uStat.WIN) = _
    rw [State.bit_eq_false hwin, State.cfgAsked]
  have hwas : was = false := State.bit_eq_false hen
  have habp : s1.fld (R.uCfg n) F.uCfg.ABP = F.uCfg.ABP.get w := by
    rw [hs1, State.fld_cfgAsked _ _ _ _ _ (by decide) (by decide) (by decide)]
  rw [habp, hs1, hwas, (enFld_put w).1]
  rfl

include hacc hu

section
variable (hen : s.fld (R.uCfg n) F.uCfg.EN = 0) (hwin : s.fld (R.uStat n) F.uStat.WIN = 0)
  (hfree : s.owner (.partition (F.uCfg.ABP.get w)) = 0) (hvalid : s.partInvalid (F.uCfg.ABP.get w) = false)
  (hclash : s.partClash (F.uCfg.ABP.get w) = none)
include hen hwin hfree hvalid hclash

theorem exec_unitEnable_accepted (hc : (s.unitClaimed path n w).unitCause n false = 0) :
    ∃ t, exec (.unitEnable path n w) s = .next t ∧ t = { s with regs := t.regs, eff := t.eff } ∧
      t.fld (R.uCfg n) F.uCfg.EN = 1 ∧ t.fld (R.uCfg n) F.uCfg.PLANE = F.uCfg.PLANE.get w ∧
      t.owner (.partition (F.uCfg.ABP.get w)) = 0x13 ∧ (∀ off, off ∉ [R.uCfg n, R.sysAbpCfg (F.uCfg.ABP.get w)] → t.reg off = s.reg off) := by
  have habp : F.uCfg.ABP.get w < 16 := BitVec.isLt _
  obtain ⟨ho, hi, hcl⟩ := s.partition_cfgAsked path (R.uCfg n) Row.uCfg w _ (uCfg_ne_sysAbpCfg n) habp
  have hf : s.Only Frame.eff (s.unitClaimed path n w) [R.uCfg n, R.sysAbpCfg (F.uCfg.ABP.get w)] := s.cfgClaimed_only _ _ _ _ _ _
  have hexec : exec (.unitEnable path n w) s = State.done (s.unitClaimed path n w) :=
    congrArg State.done ((State.onWrite_of _ _ _ _ hacc).trans ((State.uCfgWrite_enable path n w hen hwin).trans
      (State.claimAtEnable_ok _ _ _ _ _ _ _ _ _ (ho.trans hfree) (hi.trans hvalid) (hcl.trans hclash) (by decide) hc)))
  have hctl := s.fld_cfgClaimed path (R.uCfg n) Row.uCfg w _ claimantGeo (uCfg_ne_sysAbpCfg n _ habp)
  have hlist : endIgnores [R.uCfg n, R.sysAbpCfg (F.uCfg.ABP.get w)] := fun o ho hl => unitRegs_endIgnores n _ habp o ho (by
    simp only [List.mem_cons, List.not_mem_nil, or_false] at hl ⊢
    tauto)
  exact ⟨_, hexec.trans (hf.done hu hlist), hf.state, (hctl _).trans (s.fld_cfgAsked_en _ _ _ _ (by decide)),
    (hctl _).trans (s.fld_cfgAsked _ _ _ _ (by decide) (by decide) (by decide)), State.owner_setOwner_partition _ _ _ (by decide), hf.reg⟩

theorem exec_unitEnable_refused (hc : (s.unitClaimed path n w).unitCause n false ≠ 0) :
    ∃ t, exec (.unitEnable path n w) s = .next t ∧ t = { s with regs := t.regs, eff := t.eff } ∧
      t.fld (R.uCfg n) F.uCfg.EN = 0 ∧ t.fld (R.uStat n) F.uStat.CFG_ERR = 1 ∧
      t.fld (R.uStat n) F.uStat.CFG_CAUSE = (s.unitClaimed path n w).unitCause n false ∧ t.owner (.partition (F.uCfg.ABP.get w)) = 0 ∧
      (∀ off, off ∉ [R.uCfg n, R.uStat n, R.sysAbpCfg (F.uCfg.ABP.get w)] → t.reg off = s.reg off) := by
  have habp : F.uCfg.ABP.get w < 16 := BitVec.isLt _
  obtain ⟨ho, hi, hcl⟩ := s.partition_cfgAsked path (R.uCfg n) Row.uCfg w _ (uCfg_ne_sysAbpCfg n) habp
  have hexec : exec (.unitEnable path n w) s = State.done ((s.unitClaimed path n w).cfgRefused (R.uCfg n) (R.uStat n) (F.uCfg.ABP.get w)
      ((s.unitClaimed path n w).unitCause n false) F.uStat.CFG_ERR F.uStat.CFG_CAUSE) :=
    congrArg State.done ((State.onWrite_of _ _ _ _ hacc).trans ((State.uCfgWrite_enable path n w hen hwin).trans
      (State.claimAtEnable_refused _ _ _ _ _ _ _ _ _ (ho.trans hfree) (hi.trans hvalid) (hcl.trans hclash) (by decide) hc)))
  have hle := (s.unitClaimed path n w).unitCause_le n false
  generalize (s.unitClaimed path n w).unitCause n false = cause at hexec hle ⊢
  have hf : s.Only Frame.eff _ [R.uCfg n, R.uStat n, R.sysAbpCfg (F.uCfg.ABP.get w)] :=
    ((s.cfgClaimed_only path (R.uCfg n) Row.uCfg w (F.uCfg.ABP.get w) claimantGeo).mono (by simp)).trans
      (State.cfgRefused_only _ (R.uCfg n) (R.uStat n) _ cause F.uStat.CFG_ERR F.uStat.CFG_CAUSE)
  obtain ⟨h1, h2, h3, h4⟩ := (s.unitClaimed path n w).fld_cfgRefused (R.uCfg n) (R.uStat n) (F.uCfg.ABP.get w) cause F.uStat.CFG_ERR
    F.uStat.CFG_CAUSE (by simp only [R.uCfg, R.uStat]; omega) (uCfg_ne_sysAbpCfg n _ habp).symm (by simp only [R.sysAbpCfg, R.uStat]; omega)
    (by decide) (by decide) hle
  exact ⟨_, hexec.trans (hf.done hu (unitRegs_endIgnores n _ habp)), hf.state, h1, h2, h3, h4, hf.reg⟩

end

end

end Sys2Proof.Machine

/-!
The disable of edge units and tracks, with the record of an open window cut off (R210).
-/
namespace Sys2Proof.Machine

/-! ## A record cut off -/

section
variable (s : State) (k : Nat)

/-- Slot k with the windows that it waits for cut off. -/
def State.sidesCut : State :=
  (s.record k).open_.foldl (fun t u => match t.window (u * 2 + k % 2) with
    | some w => t.addSide k u (t.sideBase u w)
    | none => t) s

/-- The record in slot k as it is aborted. -/
def State.cutOff : State := (s.sidesCut k).setRecord k { (s.sidesCut k).record k with status := St.aborted }

theorem State.sidesCut_spec : s.Only Frame.geo (s.sidesCut k) [] ∧ ∀ j, (s.sidesCut k).window j = s.window j := by
  refine List.foldlRecOn (motive := fun t : State => s.Only Frame.geo t [] ∧ ∀ j, t.window j = s.window j) _ _ ⟨.refl s [], fun _ => rfl⟩
    fun t ht u _ => ?_
  split
  · exact ⟨ht.1.trans (t.setRecord_only _ _ _), fun j => (t.window_setRecord _ _ _).trans (ht.2 j)⟩
  · exact ht

theorem State.cutOff_spec : s.Only Frame.geo (s.cutOff k) [] ∧ (∀ j, (s.cutOff k).window j = s.window j) ∧ ((s.cutOff k).record k).final = 0x05 := by
  obtain ⟨honly, hwin⟩ := s.sidesCut_spec k
  refine ⟨honly.trans (State.setRecord_only _ _ _ _), fun j => ?_, ?_⟩
  · rw [State.cutOff, State.window_setRecord, hwin]
  · rw [State.cutOff, State.record_setRecord_same]
    rfl

theorem State.recordAbort_busy (hbusy : (s.record k).busy = true) (hopen : (s.record k).complete = false) :
    s.recordAbort k = { (s.cutOff k).recordOver k with work := ((s.cutOff k).recordOver k).work ++ [Work.record k] } := by
  have hif : s.recordAbort k = (s.cutOff k).recordComplete k := by
    rw [State.recordAbort]
    exact if_pos (by rw [hbusy, hopen]; rfl)
  rw [hif, State.recordComplete_eq]

theorem State.recordAbort_free (hbusy : (s.record k).busy = false) : s.recordAbort k = s := by
  rw [State.recordAbort]
  exact if_neg (by rw [hbusy]; exact Bool.false_ne_true)

end

/-! ## Units -/

section
variable {s : State} (hu : s.usual) (path : Path) (n : Fin 4) (w : Word) (hacc : s.accessible path (R.uCfg n) = true)

/-- Uu_CFG as a disable leaves it. -/
abbrev State.unitCleared (s : State) (path : Path) (n : Nat) (w : Word) : State :=
  s.cfgCleared path (R.uCfg n) Row.uCfg w (s.bit (R.uStat n) F.uStat.WIN)

section
variable (hkeep : w &&& 0x7FFE = s.reg (R.uCfg n) &&& 0x7FFE)
include hkeep

theorem State.unitCleared_spec : s.Only Frame.eff (s.unitCleared path n w) [R.uCfg n] ∧ (s.unitCleared path n w).fld (R.uCfg n) F.uCfg.EN = 0 ∧
    (s.unitCleared path n w).fld (R.uCfg n) F.uCfg.ABP = s.fld (R.uCfg n) F.uCfg.ABP ∧
    (s.unitCleared path n w).fld (R.uCfg n) F.uCfg.TRK = s.fld (R.uCfg n) F.uCfg.TRK :=
  ⟨s.cfgCleared_only _ _ _ _ _, s.fld_cfgCleared_en _ _ _ _ _ (by decide) (by decide),
    s.fld_cfgCleared _ _ _ _ _ hkeep (by decide) (by decide) (by decide) (by decide) (by decide),
    s.fld_cfgCleared _ _ _ _ _ hkeep (by decide) (by decide) (by decide) (by decide) (by decide)⟩

theorem State.uCfgWrite_disable (hen : s.fld (R.uCfg n) F.uCfg.EN = 1) (x : State)
    (hx : (match (s.unitCleared path n w).openWindow n with
      | some (key, _) => (s.unitCleared path n w).recordAbort ((s.unitCleared path n w).fld (R.uCfg n) F.uCfg.TRK * 2 + key % 2)
      | none => s.unitCleared path n w) = x) :
    s.uCfgWrite path n (F.uCfg.EN.put w 0) = (x.release (.partition (x.fld (R.uCfg n) F.uCfg.ABP)) claimantGeo).1 := by
  subst hx
  delta State.uCfgWrite
  extract_lets was s1 s2
  have hs1 : s1 = s.unitCleared path n w := s.writeRow_cleared path (R.uCfg n) Row.uCfg w _ hkeep (by decide) (by decide)
  have hwas : was = true := State.bit_eq_true hen
  rw [hwas, (enFld_put w).2]
  simp only [s2, hs1]
  rfl

include hacc hu

theorem exec_unitDisable_shut (hen : s.fld (R.uCfg n) F.uCfg.EN = 1) (hown : s.owner (.partition (s.fld (R.uCfg n) F.uCfg.ABP)) = 0x13)
    (hshut : s.openWindow n = none) :
    ∃ t, exec (.unitDisable path n w) s = .next t ∧ t = { s with regs := t.regs, eff := t.eff } ∧
      t.fld (R.uCfg n) F.uCfg.EN = 0 ∧ t.owner (.partition (s.fld (R.uCfg n) F.uCfg.ABP)) = 0 ∧
      (∀ off, off ∉ [R.uCfg n, R.sysAbpCfg (s.fld (R.uCfg n) F.uCfg.ABP)] → t.reg off = s.reg off) := by
  have habp : s.fld (R.uCfg n) F.uCfg.ABP < 16 := BitVec.isLt _
  obtain ⟨honly, hEN, hABP, -⟩ := State.unitCleared_spec path n w hkeep
  have hwin : (s.unitCleared path n w).openWindow n = none :=
    (State.openWindow_congr (State.window_of_geo (by rw [honly.state]; rfl)) n).trans hshut
  have hdis := State.uCfgWrite_disable path n w hkeep hen (s.unitCleared path n w) (by rw [hwin])
  have hown' : (s.unitCleared path n w).owner (.partition (s.fld (R.uCfg n) F.uCfg.ABP)) = claimantGeo :=
    (State.owner_congr (honly.reg _ (by simpa using (uCfg_ne_sysAbpCfg n _ habp).symm))).trans hown
  rw [hABP, State.release_own _ _ _ hown' (by decide)] at hdis
  have hf : s.Only Frame.eff ((s.unitCleared path n w).setOwner (.partition (s.fld (R.uCfg n) F.uCfg.ABP)) 0)
      [R.uCfg n, R.sysAbpCfg (s.fld (R.uCfg n) F.uCfg.ABP)] := (honly.mono (by simp)).trans ((State.setOwner_partition_only _ _ _).mono (by simp))
  have hexec : exec (.unitDisable path n w) s = State.done _ := congrArg State.done ((State.onWrite_of _ _ _ _ hacc).trans hdis)
  have hlist : endIgnores [R.uCfg n, R.sysAbpCfg (s.fld (R.uCfg n) F.uCfg.ABP)] := fun o ho hl => unitRegs_endIgnores n _ habp o ho (by
    simp only [List.mem_cons, List.not_mem_nil, or_false] at hl ⊢
    tauto)
  refine ⟨_, hexec.trans (hf.done hu hlist), hf.state, ?_, State.owner_setOwner_partition _ _ _ (by decide), hf.reg⟩
  exact (State.fld_setFld_ne _ _ _ _ _ _ (uCfg_ne_sysAbpCfg n _ habp)).trans hEN

theorem exec_unitDisable_open (hen : s.fld (R.uCfg n) F.uCfg.EN = 1) (hown : s.owner (.partition (s.fld (R.uCfg n) F.uCfg.ABP)) = 0x13)
    {key : Nat} {win : Window} (hopen : s.openWindow n = some (key, win)) {k : Nat} (hk : k = s.fld (R.uCfg n) F.uCfg.TRK * 2 + key % 2)
    (hbusy : (s.record k).busy = true) (hincomplete : (s.record k).complete = false) (hjobs : ∀ j ∈ s.hqe.jobs, j.trk ≠ k / 2) :
    ∃ t, exec (.unitDisable path n w) s = .next t ∧
      t = { s with regs := t.regs, eff := t.eff, geo := t.geo, pulses := addSorted s.pulses 163 } ∧
      t.fld (R.uCfg n) F.uCfg.EN = 0 ∧ t.owner (.partition (s.fld (R.uCfg n) F.uCfg.ABP)) = 0 ∧ (t.record k).complete = true ∧
      (t.record k).status = 0x05 ∧ t.window key = none ∧ t.fld (R.trkStat (k / 2)) F.trkStat.LAST = 0x05 ∧ t.fld (R.uStat n) F.uStat.WIN = 0 ∧
      t.reg (R.trkSeq (k / 2)) = s.reg (R.trkSeq (k / 2)) + 1 := by
  have habp : s.fld (R.uCfg n) F.uCfg.ABP < 16 := BitVec.isLt _
  have htrk : s.fld (R.uCfg n) F.uCfg.TRK < 4 := BitVec.isLt _
  obtain ⟨honly, hEN, hABP, hTRK⟩ := State.unitCleared_spec path n w hkeep
  have hdis := State.uCfgWrite_disable path n w hkeep hen
  generalize s.unitCleared path n w = c at honly hEN hABP hTRK hdis
  generalize s.fld (R.uCfg n) F.uCfg.ABP = abp at habp hABP hown ⊢
  have hgeo : c.geo = s.geo := by rw [honly.state]; rfl
  have hwinc : c.openWindow n = some (key, win) := (State.openWindow_congr (State.window_of_geo hgeo) n).trans hopen
  have habort := c.recordAbort_busy k (by rw [State.record_of_geo hgeo, hbusy]) (by rw [State.record_of_geo hgeo, hincomplete])
  have hdis := hdis { (c.cutOff k).recordOver k with work := ((c.cutOff k).recordOver k).work ++ [Work.record k] } (by
    rw [hwinc]
    dsimp only
    rw [hTRK, ← hk, habort])
  obtain ⟨hcut, hcutwin, hfinal⟩ := c.cutOff_spec k
  have hdone : ((c.cutOff k).recordOver k).record k = _ := State.record_recordOver_same _ _
  have hover := (c.cutOff k).recordOver_only k
  have hseq := (c.cutOff k).reg_recordOver_seq k
  have hlast := (c.cutOff k).fld_recordOver_last k
  have hwin := (c.cutOff k).fld_recordOver_win k n.isLt
  have hwindow := (c.cutOff k).window_recordOver k key
  obtain ⟨hkey, hsome, hclosed⟩ := State.openWindow_some hopen
  have hkdiv : k / 2 = s.fld (R.uCfg n) F.uCfg.TRK := by omega
  have hkkey : n.val * 2 + k % 2 = key := by omega
  have hdrop := ((c.cutOff k).recordDone k).dropWindows_of_some k n n.isLt (w := win)
    (by rw [State.window_recordDone, hcutwin, State.window_of_geo hgeo, hkkey, hsome])
    (by rw [((State.recordDone_only _ _ []).fld (by simp)), hcut.fld (by simp), hTRK, hkdiv])
  rw [hkkey] at hdrop
  rw [hdrop.1] at hwindow
  rw [hdrop.2 hclosed] at hwin
  rw [hfinal] at hlast hdone
  clear hdrop habort
  generalize (c.cutOff k).recordOver k = x at hdis hdone hover hseq hlast hwin hwindow
  have hcx : (c.fire 163).Only Frame.geo x (overRegs (k / 2)) := ((hcut.mono (by simp)).fire 163).trans hover
  have hclear : ∀ f, x.fld (R.uCfg n) f = c.fld (R.uCfg n) f := fun f => (hcx.fld (by
    simp only [overRegs, List.mem_cons, List.not_mem_nil, or_false, R.uCfg, R.trkStat, R.geoStat, R.trkHold, R.trkSeq, R.uStat]; omega) f).trans rfl
  have hpart : x.reg (R.sysAbpCfg abp) = s.reg (R.sysAbpCfg abp) := (hcx.reg _ (by
    simp only [overRegs, List.mem_cons, List.not_mem_nil, or_false, R.sysAbpCfg, R.trkStat, R.geoStat, R.trkHold, R.trkSeq, R.uStat]; omega)).trans
    (honly.reg _ (by simpa using (uCfg_ne_sysAbpCfg n _ habp).symm))
  have hfldw : ({ x with work := x.work ++ [Work.record k] } : State).fld (R.uCfg n) F.uCfg.ABP = abp :=
    (congrArg F.uCfg.ABP.get (State.reg_of_regs x _ rfl (R.uCfg n))).trans ((hclear _).trans hABP)
  have hownw : ({ x with work := x.work ++ [Work.record k] } : State).owner (.partition abp) = claimantGeo :=
    (State.owner_congr (State.reg_of_regs x _ rfl _)).trans ((State.owner_congr hpart).trans hown)
  rw [hfldw, State.release_own _ _ _ hownw (by decide)] at hdis
  have hf : (s.fire 163).Only Frame.geoEff (x.setOwner (.partition abp) 0) ([R.uCfg n, R.sysAbpCfg abp] ++ overRegs (k / 2)) :=
    (((honly.widen fun _ _ => rfl).mono (by simp)).fire 163).trans (((hcx.widen fun _ _ => rfl).mono (by simp)).trans
      ((State.setOwner_partition_only _ _ _).mono (by simp)))
  have hlist : endIgnores ([R.uCfg n, R.sysAbpCfg abp] ++ overRegs (k / 2)) := fun o ho hl => by
    rcases List.mem_append.mp hl with hl | hl
    · exact unitRegs_endIgnores n _ habp o ho (by
        simp only [List.mem_cons, List.not_mem_nil, or_false] at hl ⊢
        tauto)
    · exact endIgnores_overRegs _ o ho hl
  have hexec : exec (.unitDisable path n w) s = .next (x.setOwner (.partition abp) 0) :=
    (congrArg State.done ((State.onWrite_of _ _ _ _ hacc).trans hdis)).trans (State.done_withRecord hu hf hlist (by
      rw [show (x.setOwner (.partition abp) 0).hqe = s.hqe by rw [hf.state]; rfl]
      exact hjobs))
  have hreg : ∀ o, o ≠ R.sysAbpCfg abp → (x.setOwner (.partition abp) 0).reg o = x.reg o := fun o ho => State.reg_setOwner_partition _ _ _ ho
  have hrec : (x.setOwner (.partition abp) 0).record k = x.record k := State.record_setFld _ _ _ _ _
  refine ⟨_, hexec, hf.state, ?_, State.owner_setOwner_partition _ _ _ (by decide), ?_, ?_, ?_, ?_, ?_, ?_⟩
  · rw [State.fld, hreg _ (uCfg_ne_sysAbpCfg n _ habp), ← State.fld, hclear, hEN]
  · rw [hrec, hdone]
    rfl
  · rw [hrec, hdone]
    rfl
  · exact (State.window_setFld _ _ _ _ _).trans hwindow
  · rw [State.fld, hreg _ (by simp only [R.trkStat, R.sysAbpCfg]; omega), ← State.fld, hlast]
  · rw [State.fld, hreg _ (by simp only [R.uStat, R.sysAbpCfg]; omega), ← State.fld, hwin]
  · rw [hreg _ (by simp only [R.trkSeq, R.sysAbpCfg]; omega), hseq, hcut.reg _ (by simp),
      honly.reg _ (by simp only [List.mem_singleton, R.trkSeq, R.uCfg]; omega)]

end

end

end Sys2Proof.Machine

/-!
O25: tracks, and the statement.
-/
namespace Sys2Proof.Machine

section
variable {s : State} (hu : s.usual) (path : Path) (n : Fin 4) (w : Word) (hacc : s.accessible path (R.trkCfg n) = true)

theorem trkCfg_ne_sysAbpCfg (n : Fin 4) (m : Nat) (hm : m < 16) : R.trkCfg n ≠ R.sysAbpCfg m := by
  simp only [R.trkCfg, R.sysAbpCfg]
  omega

/-- TRKt_CFG as an enable leaves it, with its partition claimed for GEO. -/
abbrev State.trackClaimed (s : State) (path : Path) (n : Nat) (w : Word) : State :=
  s.cfgClaimed path (R.trkCfg n) Row.trkCfg w (F.trkCfg.ABP.get w) claimantGeo

/-- The registers of an enable of a track. -/
def trackRegs (n abp : Nat) : List Nat := [R.trkCfg n, R.trkStat n, R.trkSeq n, R.sysAbpCfg abp]

theorem trackRegs_endIgnores (n : Fin 4) {abp : Nat} (h : abp < 16) {l : List Nat} (hl : l ⊆ trackRegs n abp) : endIgnores l :=
  endIgnores_of fun o ho => by
    have hmem := hl ho
    simp only [trackRegs, List.mem_cons, List.not_mem_nil, or_false, R.trkCfg, R.trkStat, R.trkSeq, R.sysAbpCfg] at hmem
    omega

/-- An enable of a track that is off and idle claims the partition and checks the track. -/
theorem State.trkCfgWrite_enable (hen : s.fld (R.trkCfg n) F.trkCfg.EN = 0) (hidle : s.trkBusy n = false) :
    s.trkCfgWrite path n (F.trkCfg.EN.put w 1) =
      (s.cfgAsked path (R.trkCfg n) Row.trkCfg w).claimAtEnable path (F.trkCfg.ABP.get w) claimantGeo (R.trkCfg n) F.trkCfg.EN
        (fun r i => r.trkCause n i)
        (fun r c => (r.setFld (R.trkStat n) F.trkStat.CFG_ERR 1).setFld (R.trkStat n) F.trkStat.CFG_CAUSE c) (fun r => r.setReg (R.trkSeq n) 0) := by
  delta State.trkCfgWrite
  extract_lets was s1 s2
  have hs1 : s1 = s.cfgAsked path (R.trkCfg n) Row.trkCfg w := by
    change s.writeRow path (R.trkCfg n) Row.trkCfg _ (s.trkBusy n) = _
    rw [hidle, State.cfgAsked]
  have hwas : was = false := State.bit_eq_false hen
  have habp : s1.fld (R.trkCfg n) F.trkCfg.ABP = F.trkCfg.ABP.get w := by
    rw [hs1, State.fld_cfgAsked _ _ _ _ _ (by decide) (by decide) (by decide)]
  rw [habp, hs1, hwas, (enFld_put w).1]
  rfl

section
include hacc hu
variable (hen : s.fld (R.trkCfg n) F.trkCfg.EN = 0) (hidle : s.trkBusy n = false)
  (hfree : s.owner (.partition (F.trkCfg.ABP.get w)) = 0) (hvalid : s.partInvalid (F.trkCfg.ABP.get w) = false)
  (hclash : s.partClash (F.trkCfg.ABP.get w) = none)
include hen hidle hfree hvalid hclash

theorem exec_trackEnable_accepted (hc : (s.trackClaimed path n w).trkCause n false = 0) :
    ∃ t, exec (.trackEnable path n w) s = .next t ∧ t = { s with regs := t.regs, eff := t.eff } ∧
      t.fld (R.trkCfg n) F.trkCfg.EN = 1 ∧ t.fld (R.trkCfg n) F.trkCfg.UNITS = F.trkCfg.UNITS.get w ∧ t.reg (R.trkSeq n) = 0 ∧
      t.owner (.partition (F.trkCfg.ABP.get w)) = 0x13 ∧
      (∀ off, off ∉ [R.trkCfg n, R.trkSeq n, R.sysAbpCfg (F.trkCfg.ABP.get w)] → t.reg off = s.reg off) := by
  have habp : F.trkCfg.ABP.get w < 16 := BitVec.isLt _
  obtain ⟨ho, hi, hcl⟩ := s.partition_cfgAsked path (R.trkCfg n) Row.trkCfg w _ (trkCfg_ne_sysAbpCfg n) habp
  have hf : s.Only Frame.eff ((s.trackClaimed path n w).setReg (R.trkSeq n) 0) [R.trkCfg n, R.trkSeq n, R.sysAbpCfg (F.trkCfg.ABP.get w)] :=
    ((s.cfgClaimed_only _ _ _ _ _ _).mono (by simp)).setReg _ (by simp)
  have hexec : exec (.trackEnable path n w) s = State.done ((s.trackClaimed path n w).setReg (R.trkSeq n) 0) :=
    congrArg State.done ((State.onWrite_of _ _ _ _ hacc).trans ((State.trkCfgWrite_enable path n w hen hidle).trans
      (State.claimAtEnable_ok _ _ _ _ _ _ _ _ _ (ho.trans hfree) (hi.trans hvalid) (hcl.trans hclash) (by decide) hc)))
  have hctl : ∀ f, ((s.trackClaimed path n w).setReg (R.trkSeq n) 0).fld (R.trkCfg n) f =
      (s.cfgAsked path (R.trkCfg n) Row.trkCfg w).fld (R.trkCfg n) f := fun f =>
    (State.fld_setReg_ne _ _ _ _ _ (by simp only [R.trkCfg, R.trkSeq]; omega)).trans (s.fld_cfgClaimed _ _ _ _ _ _ (trkCfg_ne_sysAbpCfg n _ habp) f)
  refine ⟨_, hexec.trans (hf.done hu (trackRegs_endIgnores n habp (by simp [trackRegs]))), hf.state,
    (hctl _).trans (s.fld_cfgAsked_en _ _ _ _ (by decide)), (hctl _).trans (s.fld_cfgAsked _ _ _ _ (by decide) (by decide) (by decide)),
    State.reg_setReg_same _ _ _, ?_, hf.reg⟩
  rw [State.owner_congr (State.reg_setReg_ne _ _ _ _ (by simp only [R.sysAbpCfg, R.trkSeq]; omega))]
  exact State.owner_setOwner_partition _ _ _ (by decide)

theorem exec_trackEnable_refused (hc : (s.trackClaimed path n w).trkCause n false ≠ 0) :
    ∃ t, exec (.trackEnable path n w) s = .next t ∧ t = { s with regs := t.regs, eff := t.eff } ∧
      t.fld (R.trkCfg n) F.trkCfg.EN = 0 ∧ t.fld (R.trkStat n) F.trkStat.CFG_ERR = 1 ∧
      t.fld (R.trkStat n) F.trkStat.CFG_CAUSE = (s.trackClaimed path n w).trkCause n false ∧ t.owner (.partition (F.trkCfg.ABP.get w)) = 0 ∧
      (∀ off, off ∉ [R.trkCfg n, R.trkStat n, R.sysAbpCfg (F.trkCfg.ABP.get w)] → t.reg off = s.reg off) := by
  have habp : F.trkCfg.ABP.get w < 16 := BitVec.isLt _
  obtain ⟨ho, hi, hcl⟩ := s.partition_cfgAsked path (R.trkCfg n) Row.trkCfg w _ (trkCfg_ne_sysAbpCfg n) habp
  have hexec : exec (.trackEnable path n w) s = State.done ((s.trackClaimed path n w).cfgRefused (R.trkCfg n) (R.trkStat n)
      (F.trkCfg.ABP.get w) ((s.trackClaimed path n w).trkCause n false) F.trkStat.CFG_ERR F.trkStat.CFG_CAUSE) :=
    congrArg State.done ((State.onWrite_of _ _ _ _ hacc).trans ((State.trkCfgWrite_enable path n w hen hidle).trans
      (State.claimAtEnable_refused _ _ _ _ _ _ _ _ _ (ho.trans hfree) (hi.trans hvalid) (hcl.trans hclash) (by decide) hc)))
  have hle := (s.trackClaimed path n w).trkCause_le n false
  generalize (s.trackClaimed path n w).trkCause n false = cause at hexec hle ⊢
  have hf : s.Only Frame.eff _ [R.trkCfg n, R.trkStat n, R.sysAbpCfg (F.trkCfg.ABP.get w)] :=
    ((s.cfgClaimed_only path (R.trkCfg n) Row.trkCfg w (F.trkCfg.ABP.get w) claimantGeo).mono (by simp)).trans
      (State.cfgRefused_only _ (R.trkCfg n) (R.trkStat n) _ cause F.trkStat.CFG_ERR F.trkStat.CFG_CAUSE)
  obtain ⟨h1, h2, h3, h4⟩ := (s.trackClaimed path n w).fld_cfgRefused (R.trkCfg n) (R.trkStat n) (F.trkCfg.ABP.get w) cause F.trkStat.CFG_ERR
    F.trkStat.CFG_CAUSE (by simp only [R.trkCfg, R.trkStat]; omega) (trkCfg_ne_sysAbpCfg n _ habp).symm
    (by simp only [R.sysAbpCfg, R.trkStat]; omega) (by decide) (by decide) hle
  exact ⟨_, hexec.trans (hf.done hu (trackRegs_endIgnores n habp (by simp [trackRegs]))), hf.state, h1, h2, h3, h4, hf.reg⟩

end

include hacc hu in
theorem exec_trackDisable_idle (hkeep : w &&& 0x07FF01FE = s.reg (R.trkCfg n) &&& 0x07FF01FE) (hen : s.fld (R.trkCfg n) F.trkCfg.EN = 1)
    (hown : s.owner (.partition (s.fld (R.trkCfg n) F.trkCfg.ABP)) = 0x13) (h0 : (s.record (n * 2)).busy = false)
    (h1 : (s.record (n * 2 + 1)).busy = false) :
    ∃ t, exec (.trackDisable path n w) s = .next t ∧ t = { s with regs := t.regs, eff := t.eff } ∧
      t.fld (R.trkCfg n) F.trkCfg.EN = 0 ∧ t.owner (.partition (s.fld (R.trkCfg n) F.trkCfg.ABP)) = 0 ∧
      (∀ off, off ∉ [R.trkCfg n, R.sysAbpCfg (s.fld (R.trkCfg n) F.trkCfg.ABP)] → t.reg off = s.reg off) := by
  have habp : s.fld (R.trkCfg n) F.trkCfg.ABP < 16 := BitVec.isLt _
  have honly := s.cfgCleared_only path (R.trkCfg n) Row.trkCfg w (s.trkBusy n)
  have hEN := s.fld_cfgCleared_en path (R.trkCfg n) Row.trkCfg w (s.trkBusy n) (by decide) (by decide)
  have hABP := s.fld_cfgCleared path (R.trkCfg n) Row.trkCfg w (s.trkBusy n) (f := F.trkCfg.ABP) hkeep (by decide) (by decide) (by decide) (by decide)
    (by decide)
  have hwrite := s.writeRow_cleared path (R.trkCfg n) Row.trkCfg w (s.trkBusy n) hkeep (by decide) (by decide)
  generalize s.cfgCleared path (R.trkCfg n) Row.trkCfg w (s.trkBusy n) = c at honly hEN hABP hwrite
  have hgeo : c.geo = s.geo := by rw [honly.state]; rfl
  have hslots : (c.slotsOf n).foldl (fun r k => r.recordAbort k) c = c :=
    List.foldlRecOn (motive := fun r : State => r = c) _ _ rfl fun r hr k hk => by
      have hbusy : (c.record k).busy = false := by
        rw [State.record_of_geo hgeo]
        rw [State.slotsOf] at hk
        split at hk
        all_goals
          simp only [List.mem_cons, List.not_mem_nil, or_false] at hk
          rcases hk with rfl | rfl <;> assumption
      rw [hr, c.recordAbort_free k hbusy]
  have hown' : c.owner (.partition (s.fld (R.trkCfg n) F.trkCfg.ABP)) = claimantGeo :=
    (State.owner_congr (honly.reg _ (by simpa using (trkCfg_ne_sysAbpCfg n _ habp).symm))).trans hown
  have hdis : s.trkCfgWrite path n (F.trkCfg.EN.put w 0) = c.setOwner (.partition (s.fld (R.trkCfg n) F.trkCfg.ABP)) 0 := by
    delta State.trkCfgWrite
    extract_lets was s1 s2
    have hs1 : s1 = c := hwrite
    have hwas : was = true := State.bit_eq_true hen
    have hs2 : s2 = c := by
      simp only [s2, hs1]
      exact hslots
    rw [hwas, (enFld_put w).2, hs2, hABP, State.release_own _ _ _ hown' (by decide)]
    rfl
  have hf : s.Only Frame.eff (c.setOwner (.partition (s.fld (R.trkCfg n) F.trkCfg.ABP)) 0) [R.trkCfg n, R.sysAbpCfg (s.fld (R.trkCfg n) F.trkCfg.ABP)] :=
    (honly.mono (by simp)).trans ((State.setOwner_partition_only _ _ _).mono (by simp))
  have hexec : exec (.trackDisable path n w) s = State.done _ := congrArg State.done ((State.onWrite_of _ _ _ _ hacc).trans hdis)
  refine ⟨_, hexec.trans (hf.done hu (trackRegs_endIgnores n habp (by simp [trackRegs]))), hf.state, ?_,
    State.owner_setOwner_partition _ _ _ (by decide), hf.reg⟩
  exact (State.fld_setFld_ne _ _ _ _ _ _ (trkCfg_ne_sysAbpCfg n _ habp)).trans hEN

end

/-- Settles O25: the enable, refusal and disable of edge units and tracks. -/
theorem unitAndTrackControl : Obligations.UnitAndTrackControl := by
  unfold Obligations.UnitAndTrackControl
  intro s path n w hu
  refine ⟨fun hacc => ⟨?_, ?_⟩, fun hacc => ⟨?_, ?_⟩⟩
  · intro abp s1 hen hwin hfree hvalid hclash
    have hcause : (s.unitClaimed path n w).unitCause n false = s1.unitCause n false := State.unitCause_congr (State.reg_cfgClaimed _ _ _ _ _ _ _) n false
    rw [← hcause]
    exact ⟨exec_unitEnable_accepted hu path n w hacc hen hwin hfree hvalid hclash, exec_unitEnable_refused hu path n w hacc hen hwin hfree hvalid hclash⟩
  · intro abp hkeep hen hown
    refine ⟨exec_unitDisable_shut hu path n w hacc hkeep hen hown, fun key win hopen => ?_⟩
    intro k hbusy hincomplete hjobs
    exact exec_unitDisable_open hu path n w hacc hkeep hen hown hopen rfl hbusy hincomplete hjobs
  · intro abp s1 hen hidle hfree hvalid hclash
    have hcause : (s.trackClaimed path n w).trkCause n false = s1.trkCause n false := State.trkCause_congr (State.reg_cfgClaimed _ _ _ _ _ _ _) n false
    rw [← hcause]
    exact ⟨exec_trackEnable_accepted hu path n w hacc hen hidle hfree hvalid hclash, exec_trackEnable_refused hu path n w hacc hen hidle hfree hvalid hclash⟩
  · intro abp hkeep hen hown h0 h1
    exact exec_trackDisable_idle hu path n w hacc hkeep hen hown h0 h1

end Sys2Proof.Machine

/-!
Opening and closing a document window (R192-R195, R210).
-/
namespace Sys2Proof.Machine

/-! ## An open pulse -/

section
variable {s : State} (u : Fin 4)

/-- What the registers of unit u and its track show once a window is open. -/
def State.openShown (s : State) (u t : Nat) : State :=
  (((s.setWinBit u 1).setFld (R.uStat u) F.uStat.LEAD 0).setFld (R.uStat u) F.uStat.TRAIL 0).refreshTrack t

/-- The registers of an open pulse. -/
def openRegs (u t : Nat) : List Nat := [R.uStat u, R.geoStat, R.trkStat t, R.trkHold t]

theorem State.openShown_only {F : Frame} (s : State) (u t : Nat) : s.Only F (s.openShown u t) (openRegs u t) :=
  ((((State.setWinBit_only s u 1).mono (by simp [openRegs])).setFld _ _ (by simp [openRegs])).setFld _ _ (by simp [openRegs])).trans
    ((State.refreshTrack_only _ _).mono (by simp [trackViews, openRegs]))

theorem State.geo_openShown (s : State) (u t : Nat) : (s.openShown u t).geo = s.geo := rfl

theorem State.fld_openShown (s : State) (t : Nat) (ht : t < 4) : (s.openShown u t).fld (R.uStat u) F.uStat.WIN = 1 ∧
    (s.openShown u t).fld (R.uStat u) F.uStat.LEAD = 0 ∧ (s.openShown u t).fld (R.uStat u) F.uStat.TRAIL = 0 := by
  have hne : R.uStat u ∉ trackViews t := by
    simp only [trackViews, List.mem_cons, List.not_mem_nil, or_false, R.uStat, R.trkStat, R.geoStat, R.trkHold]
    omega
  refine ⟨?_, ?_, ?_⟩ <;> rw [State.openShown, (State.refreshTrack_only (F := Frame.geo) _ _).fld hne]
  · rw [State.fld_setFld_apart _ _ _ _ _ (by decide) (by decide) (by decide), State.fld_setFld_apart _ _ _ _ _ (by decide) (by decide) (by decide),
      State.fld_setWinBit _ _ _ (by decide)]
  · rw [State.fld_setFld_apart _ _ _ _ _ (by decide) (by decide) (by decide), State.fld_setFld _ _ _ _ (by decide)]
    rfl
  · rw [State.fld_setFld _ _ _ _ (by decide)]
    rfl

theorem State.fld_openShown_slot (s : State) (u t : Nat) : (s.openShown u t).fld (R.trkStat t) F.trkStat.SLOT =
    ((if (s.record (t * 2)).busy then 1 else 0) + (if (s.record (t * 2 + 1)).busy then 2 else 0)) % 4 := by
  rw [State.openShown, State.fld, State.reg_refreshTrack_stat, Fld.get_put _ _ _ (by decide)]
  rfl

/-- The record that a unit opens first. -/
def firstRecord (u opened : Nat) : DocRecord := { busy := true, seq := opened + 1, units := [u], open_ := [u] }

/-- Geometry with unit u's window open in slot k, the first of its record. -/
def State.windowTaken (s : State) (u k : Nat) : State :=
  let s2 := (s.setRecord k (firstRecord u s.geo.opened))
  let s3 := { s2 with geo := { s2.geo with opened := s2.geo.opened + 1 } }
  s3.setWindow (u * 2 + k % 2) (some { skip := s3.effFld (R.uWin u) F.uWin.Y_OFF, slot := k % 2 })

theorem State.windowTaken_only (s : State) (k : Nat) (l : List Nat) : s.Only Frame.geo (s.windowTaken u k) l := ⟨rfl, State.regsBut_of_regs _ rfl⟩

theorem State.record_windowTaken (s : State) (k j : Nat) : (s.windowTaken u k).record j = if j = k then firstRecord u s.geo.opened else s.record j :=
  Table.get_set (fun _ => ({} : DocRecord)) s.geo.records k j (firstRecord u s.geo.opened)

theorem State.window_windowTaken (s : State) (k j : Nat) : (s.windowTaken u k).window j =
    if j = u * 2 + k % 2 then some { skip := s.effFld (R.uWin u) F.uWin.Y_OFF, slot := k % 2 } else s.window j :=
  Table.get_set (fun _ => none) s.geo.windows (u * 2 + k % 2) j (some { skip := s.effFld (R.uWin u) F.uWin.Y_OFF, slot := k % 2 })

/-- An open pulse of a unit that has no window and whose track has no record. -/
theorem State.windowOpen_first (hsel : s.selOn (R.uOpenSel u) = true) (hen : s.fld (R.uCfg u) F.uCfg.EN = 1) (hshut : s.openWindow u = none)
    {t : Nat} (ht : s.fld (R.uCfg u) F.uCfg.TRK = t) (h0 : (s.record (t * 2)).busy = false) (h1 : (s.record (t * 2 + 1)).busy = false)
    (hseq : (s.record (t * 2)).seq ≤ (s.record (t * 2 + 1)).seq) :
    s.windowOpen u = ((s.commit (unitDocRegs u t)).windowTaken u (t * 2)).openShown u t := by
  have hslots : s.slotsOf t = [t * 2, t * 2 + 1] := by
    rw [State.slotsOf]
    exact if_pos hseq
  have hbusy : ((s.commit (unitDocRegs u t)).record (t * 2)).busy = false := (congrArg DocRecord.busy (State.record_of_geo rfl _)).trans h0
  delta State.windowOpen
  extract_lets t' joins free s1
  obtain rfl : t' = t := ht
  have hjoins : (s.slotsOf t').find? joins = none := List.find?_eq_none.mpr fun k hk => by
    rw [hslots, List.mem_pair] at hk
    rcases hk with rfl | rfl
    · simp [joins, h0]
    · simp [joins, h1]
  have hfree : (s.slotsOf t').find? free = some (t' * 2) := by
    rw [hslots, List.find?_cons_of_pos]
    simp [free, h0]
  refine (if_neg ?_).trans ((if_neg (by rw [hshut]; exact Bool.false_ne_true)).trans ?_)
  · rw [State.bit_eq_true hen, hsel]
    exact Bool.false_ne_true
  · rw [hjoins, hfree]
    split
    case h_1 h => exact absurd h (by simp)
    case h_2 k h =>
      obtain rfl : t' * 2 = k := Option.some.inj h
      extract_lets d d1 s2 geo s3 s4
      have hd : d.busy = false := hbusy
      have hd1 : d1 = { busy := true, seq := s.geo.opened + 1 } := if_neg (by rw [hd]; exact Bool.false_ne_true)
      have hs4 : s4 = (s.commit (unitDocRegs u t')).windowTaken u (t' * 2) := by
        simp only [s4, s3, geo, s2, hd1, hd]
        rfl
      rw [hs4]
      rfl

theorem State.windowOpen_second (hsel : s.selOn (R.uOpenSel u) = true) (hen : s.fld (R.uCfg u) F.uCfg.EN = 1)
    (hopen : (s.openWindow u).isSome = true) : s.windowOpen u = s.setFld (R.uStat u) F.uStat.OPEN_IGN 1 := by
  rw [State.windowOpen, State.bit_eq_true hen, hsel]
  exact (if_neg Bool.false_ne_true).trans (if_pos hopen)

theorem State.windowOpen_full (hsel : s.selOn (R.uOpenSel u) = true) (hen : s.fld (R.uCfg u) F.uCfg.EN = 1) (hshut : s.openWindow u = none)
    {t : Nat} (ht : s.fld (R.uCfg u) F.uCfg.TRK = t)
    (hfull : ∀ i, i < 2 → (s.record (t * 2 + i)).busy = true ∧ (s.record (t * 2 + i)).complete = true) :
    s.windowOpen u = (s.setFld (R.uStat u) F.uStat.OPEN_IGN 1).setFld (R.trkStat t) F.trkStat.SLOT_FULL 1 := by
  have hslot : ∀ k ∈ s.slotsOf t, (s.record k).busy = true ∧ (s.record k).complete = true := fun k hk => by
    rw [State.slotsOf] at hk
    split at hk
    all_goals
      simp only [List.mem_cons, List.not_mem_nil, or_false] at hk
      rcases hk with rfl | rfl
    exacts [hfull 0 (by decide), hfull 1 (by decide), hfull 1 (by decide), hfull 0 (by decide)]
  delta State.windowOpen
  extract_lets t' joins free
  obtain rfl : t' = t := ht
  have hjoins : (s.slotsOf t').find? joins = none := List.find?_eq_none.mpr fun k hk => by
    simp [joins, (hslot k hk).1, (hslot k hk).2]
  have hfree : (s.slotsOf t').find? free = none := List.find?_eq_none.mpr fun k hk => by
    simp [free, (hslot k hk).1]
  refine (if_neg ?_).trans ((if_neg (by rw [hshut]; exact Bool.false_ne_true)).trans ?_)
  · rw [State.bit_eq_true hen, hsel]
    exact Bool.false_ne_true
  · rw [hjoins, hfree]
    rfl

theorem exec_windowOpen (hsel : s.selOn (R.uOpenSel u) = true) : exec (.windowOpen u) s = State.done (s.windowOpen u) :=
  congrArg State.done (if_pos hsel)

end

end Sys2Proof.Machine

/-!
O26: closing a document window, and the statement.
-/
namespace Sys2Proof.Machine

/-- A fold over units of which one alone acts. -/
theorem State.forEach_single {s t : State} {f : Nat → State → State} {n u : Nat} (hu : u < n) (hself : f u s = t)
    (hbefore : ∀ v, v < n → v ≠ u → f v s = s) (hafter : ∀ v, v < n → v ≠ u → f v t = t) : s.forEach n f = t := by
  have hall : ∀ m, m ≤ n → s.forEach m f = if u < m then t else s := fun m => by
    induction m with
    | zero => exact fun _ => rfl
    | succ m ih =>
      intro hm
      have hsucc : s.forEach (m + 1) f = f m (s.forEach m f) := by
        rw [State.forEach, State.forEach, List.range_succ, List.foldl_append, List.foldl_cons, List.foldl_nil]
      rw [hsucc, ih (by omega)]
      by_cases hum : u = m
      · subst hum
        rw [if_neg (Nat.lt_irrefl u), if_pos (Nat.lt_succ_self u), hself]
      · by_cases hlt : u < m
        · rw [if_pos hlt, if_pos (by omega), hafter m (by omega) (Ne.symm hum)]
        · rw [if_neg hlt, if_neg (by omega), hbefore m (by omega) (Ne.symm hum)]
  rw [hall n (Nat.le_refl n), if_pos hu]

/-! ## A close -/

section
variable {s : State} (u : Fin 4) {key : Nat} {win : Window} (hopen : s.openWindow u = some (key, win))

/-- A plane without a delivered line gives none to evaluate. -/
theorem State.geoEvaluate_of_empty (u : Nat) (h : s.outOf (s.fld (R.uCfg u) F.uCfg.PLANE) = []) : s.geoEvaluate u = s := by
  rw [State.geoEvaluate]
  cases hwin : s.openWindow u with
  | none => rfl
  | some kw =>
    have hnone : kw.2.origin.bind (fun o => (s.outOf (s.fld (R.uCfg u) F.uCfg.PLANE)).find? (fun l => l.y == o + kw.2.y)) = none := by
      rw [h]
      cases kw.2.origin <;> rfl
    dsimp only
    rw [hnone]

/-- Slot k with an imposed STATUS, if there is one (R210). -/
def State.imposed (s : State) (k status : Nat) : State := if status = 0 then s else s.setRecord k { s.record k with status := status }

theorem State.imposed_spec (s : State) (k status : Nat) : s.Only Frame.geo (s.imposed k status) [] ∧
    (∀ j, (s.imposed k status).window j = s.window j) ∧
    ((s.imposed k status).record k).status = if status = 0 then (s.record k).status else status := by
  rw [State.imposed]
  split
  · exact ⟨.refl s [], fun _ => rfl, rfl⟩
  · exact ⟨s.setRecord_only _ _ _, fun _ => s.window_setRecord _ _ _, by rw [State.record_setRecord_same]⟩

/-- Unit u's window of key `key` closed. -/
def State.windowClosed (s : State) (u key : Nat) (w : Window) : State :=
  (s.setWindow key (some { w with closed := true })).setWinBit u 0

theorem State.windowClosed_only (s : State) (u key : Nat) (w : Window) : s.Only Frame.geo (s.windowClosed u key w) [R.uStat u, R.geoStat] :=
  (s.setWindow_only _ _ _).trans (State.setWinBit_only _ _ _)

theorem State.record_windowClosed (s : State) (u key : Nat) (w : Window) (k : Nat) : (s.windowClosed u key w).record k = s.record k := by
  rw [State.windowClosed, State.record_setWinBit, State.record_setWindow]

theorem State.window_windowClosed (s : State) (u key : Nat) (w : Window) (k : Nat) :
    (s.windowClosed u key w).window k = if k = key then some { w with closed := true } else s.window k := by
  rw [State.windowClosed, State.window_setWinBit, State.window_setWindow]

theorem State.fld_windowClosed (s : State) (u key : Nat) (w : Window) : (s.windowClosed u key w).fld (R.uStat u) F.uStat.WIN = 0 :=
  State.fld_setWinBit _ _ _ (by decide)

include hopen

theorem State.closeWindow_lead (hlead : win.lead.isSome = true) : s.closeWindow u = s.windowClosed u key win := by
  rw [State.closeWindow, hopen]
  exact if_pos hlead

/-- A close with no line to evaluate of a window whose leading edge was found. -/
theorem State.closeAfterLines_lead (hlead : win.lead.isSome = true) (hempty : s.outOf (s.fld (R.uCfg u) F.uCfg.PLANE) = []) :
    s.closeAfterLines u = s.windowClosed u key win := by
  have hlines : s.forEach 64 (fun _ t => t.geoEvaluate u) = s := by
    refine List.foldlRecOn (motive := fun t : State => t = s) _ _ rfl fun t ht _ _ => ?_
    rw [ht]
    exact State.geoEvaluate_of_empty _ hempty
  rw [State.closeAfterLines, hlines]
  exact State.closeWindow_lead u hopen hlead

/-- CLOSE of a track of which unit u alone is. -/
theorem State.trackClose_single (hlead : win.lead.isSome = true) (hempty : s.outOf (s.fld (R.uCfg u) F.uCfg.PLANE) = []) {t : Nat}
    (htrk : s.fld (R.uCfg u) F.uCfg.TRK = t) (hunits : s.fld (R.trkCfg t) F.trkCfg.UNITS = 2 ^ u.val) (status : Nat) {k : Nat}
    (hk : k = t * 2 + key % 2) :
    s.trackClose t status = (s.imposed k status).windowClosed u key win := by
  obtain ⟨honly, hwin, -⟩ := s.imposed_spec k status
  have hclose : (s.imposed k status).closeAfterLines u = (s.imposed k status).windowClosed u key win :=
    State.closeAfterLines_lead u ((State.openWindow_congr hwin _).trans hopen) hlead (by
      rw [honly.fld (by simp), show (s.imposed k status).outOf = s.outOf by rw [honly.state]; rfl]
      exact hempty)
  have hfinal : s.Only Frame.geo ((s.imposed k status).windowClosed u key win) [R.uStat u, R.geoStat] :=
    (honly.mono (by simp)).trans (State.windowClosed_only _ _ _ _)
  have hunits' : ((s.imposed k status).windowClosed u key win).fld (R.trkCfg t) F.trkCfg.UNITS = 2 ^ u.val := by
    have ht : t < 4 := htrk ▸ BitVec.isLt _
    rw [hfinal.fld (by simp only [List.mem_cons, List.not_mem_nil, or_false, R.trkCfg, R.uStat, R.geoStat]; omega), hunits]
  have hother : ∀ v, v ≠ u.val → (2 ^ u.val).testBit v = false := fun v hv => by
    rw [Nat.testBit_two_pow]
    simpa using Ne.symm hv
  refine State.forEach_single u.isLt ?_ (fun v _ hv => ?_) (fun v _ hv => ?_)
  · dsimp only
    rw [hunits, Nat.testBit_two_pow_self, htrk, beq_self_eq_true, hopen]
    refine (if_pos rfl).trans ?_
    dsimp only
    rw [← hk]
    exact hclose
  · exact if_neg (by rw [hunits, hother v hv]; exact Bool.false_ne_true)
  · exact if_neg (by rw [hunits', hother v hv]; exact Bool.false_ne_true)

end

/-! ## The statement -/

section
variable {s : State} (hu : s.usual) (u : Fin 4)
include hu

theorem exec_windowOpen_first (hsel : s.selOn (R.uOpenSel u) = true) (hen : s.fld (R.uCfg u) F.uCfg.EN = 1) (hshut : s.openWindow u = none)
    {t : Nat} (ht : s.fld (R.uCfg u) F.uCfg.TRK = t) (h0 : (s.record (t * 2)).busy = false) (h1 : (s.record (t * 2 + 1)).busy = false)
    (hseq : (s.record (t * 2)).seq ≤ (s.record (t * 2 + 1)).seq) :
    ∃ r, exec (.windowOpen u) s = .next r ∧ r = { s with regs := r.regs, eff := r.eff, geo := r.geo } ∧
      r.record (t * 2) = { busy := true, seq := s.geo.opened + 1, units := [u.val], open_ := [u.val] } ∧
      r.record (t * 2 + 1) = s.record (t * 2 + 1) ∧
      r.window (u * 2) = some { skip := s.fld (R.uWin u) F.uWin.Y_OFF } ∧ (∀ key, key ≠ u.val * 2 → r.window key = s.window key) ∧
      (∀ off, off ∈ [R.uThr u, R.uRun u, R.uMinpix u, R.uFit u, R.uAspect u, R.uWin u, R.trkJob t] → r.effReg off = r.reg off) ∧
      r.fld (R.uStat u) F.uStat.WIN = 1 ∧ r.fld (R.uStat u) F.uStat.LEAD = 0 ∧ r.fld (R.uStat u) F.uStat.TRAIL = 0 ∧
      r.fld (R.trkStat t) F.trkStat.SLOT = 1 ∧
      (∀ off, off ∉ [R.uStat u, R.geoStat, R.trkStat t, R.trkHold t] → r.reg off = s.reg off) := by
  have ht4 : t < 4 := ht ▸ BitVec.isLt _
  have heven : t * 2 % 2 = 0 := by omega
  have hcommit := s.commit_onlyEff (unitDocRegs u t) (openRegs u t)
  have hcgeo : (s.commit (unitDocRegs u t)).geo = s.geo := rfl
  have hskip : (s.commit (unitDocRegs u t)).effFld (R.uWin u) F.uWin.Y_OFF = s.fld (R.uWin u) F.uWin.Y_OFF :=
    congrArg F.uWin.Y_OFF.get (s.get_commit _ (.inr (by simp [unitDocRegs])))
  have htaken := State.windowTaken_only u (s.commit (unitDocRegs u t)) (t * 2) (openRegs u t)
  have heff : ((s.commit (unitDocRegs u t)).windowTaken u (t * 2)).eff = (s.commit (unitDocRegs u t)).eff := (congrArg State.eff htaken.state :)
  have hrec := State.record_windowTaken u (s.commit (unitDocRegs u t)) (t * 2)
  have hwin := State.window_windowTaken u (s.commit (unitDocRegs u t)) (t * 2)
  have hexec : exec (.windowOpen u) s = State.done _ :=
    (exec_windowOpen u hsel).trans (congrArg State.done (State.windowOpen_first u hsel hen hshut ht h0 h1 hseq))
  generalize (s.commit (unitDocRegs u t)).windowTaken u (t * 2) = x at htaken heff hrec hwin hexec
  have hx : s.Only Frame.geoEff x (openRegs u t) := (hcommit.widen fun _ _ => rfl).trans (htaken.widen fun _ _ => rfl)
  have hshown := x.openShown_only (F := Frame.geoEff) u t
  have hf := hx.trans hshown
  have hlist : endIgnores (openRegs u t) := endIgnores_of fun o ho => by
    simp only [openRegs, List.mem_cons, List.not_mem_nil, or_false, R.uStat, R.geoStat, R.trkStat, R.trkHold] at ho
    omega
  have heff' : (x.openShown u t).eff = x.eff := rfl
  obtain ⟨hWIN, hLEAD, hTRAIL⟩ := State.fld_openShown u x t ht4
  have hslot := x.fld_openShown_slot u t
  have hr : ∀ k, (x.openShown u t).record k = x.record k := State.record_of_geo (x.geo_openShown u t)
  have hw : ∀ k, (x.openShown u t).window k = x.window k := State.window_of_geo (x.geo_openShown u t)
  have hrec0 : x.record (t * 2) = firstRecord u s.geo.opened := (hrec _).trans (if_pos rfl)
  have hrec1 : x.record (t * 2 + 1) = s.record (t * 2 + 1) := (hrec _).trans ((if_neg (by omega)).trans (State.record_of_geo hcgeo _))
  rw [hrec0, hrec1, h1] at hslot
  generalize x.openShown u t = r at hexec hf heff' hWIN hLEAD hTRAIL hslot hr hw
  refine ⟨r, hexec.trans (hf.done hu hlist), hf.state, ?_, ?_, ?_, fun key hkey => ?_, fun off hoff => ?_, hWIN, hLEAD, hTRAIL, hslot, hf.reg⟩
  · rw [hr, hrec0, firstRecord]
  · rw [hr, hrec1]
  · rw [hw, hwin, heven, Nat.add_zero, if_pos rfl, hskip]
  · rw [hw, hwin, if_neg (by omega), State.window_of_geo hcgeo]
  · rw [State.effReg, heff', heff]
    exact s.get_commit _ (.inr hoff)

omit hu in
theorem endIgnores_unitStat : endIgnores [R.uStat u, R.geoStat] := endIgnores_of fun o ho => by
  simp only [List.mem_cons, List.not_mem_nil, or_false, R.uStat, R.geoStat] at ho
  omega

end

/-- Settles O26: the opening and closing of a document window. -/
theorem windowsOpenAndClose : Obligations.WindowsOpenAndClose := by
  unfold Obligations.WindowsOpenAndClose
  intro s u hu t
  have ht4 : t < 4 := BitVec.isLt _
  refine ⟨fun hsel => ?_, fun hsel hen => ⟨fun hshut h0 h1 hseq => ?_, fun hopen => ?_, fun hshut hfull => ?_⟩, fun key win hopen hlead hempty => ⟨fun hsel => ?_,
    fun path w hacc hw hunits tf htf => ?_⟩⟩
  · exact (congrArg State.done (if_neg (by rw [hsel]; exact Bool.false_ne_true))).trans (State.done_of_usual hu)
  · obtain ⟨r, hexec, hstate, hrec0, hrec1, hwin, hother, hrest⟩ := exec_windowOpen_first hu u hsel hen hshut rfl h0 h1 hseq
    refine ⟨r, hexec, hstate, hrec0, hrec1, hwin, fun key hkey => hother key fun hval => hkey (Fin.ext ?_), hrest⟩
    rw [Fin.val_mul, hval]
    exact (Nat.mod_eq_of_lt (hval ▸ key.isLt)).symm
  · have hf : s.sameBut (s.setFld (R.uStat u) F.uStat.OPEN_IGN 1) [R.uStat u] := (State.sameBut_refl s _).setFld _ _ (by simp)
    refine ⟨_, ((exec_windowOpen u hsel).trans (congrArg State.done (State.windowOpen_second u hsel hen hopen))).trans
      (State.done_of_regs hu hf ?_), hf, State.fld_setFld _ _ _ _ (by decide)⟩
    exact endIgnores_of (by simp only [List.mem_singleton, forall_eq, R.uStat]; omega)
  · have hf : s.sameBut ((s.setFld (R.uStat u) F.uStat.OPEN_IGN 1).setFld (R.trkStat t) F.trkStat.SLOT_FULL 1) [R.uStat u, R.trkStat t] :=
      ((State.sameBut_refl s _).setFld _ _ (by simp)).setFld _ _ (by simp)
    refine ⟨_, ((exec_windowOpen u hsel).trans (congrArg State.done (State.windowOpen_full u hsel hen hshut rfl hfull))).trans
      (State.done_of_regs hu hf ?_), hf, ?_, State.fld_setFld _ _ _ _ (by decide)⟩
    · exact endIgnores_of (by
        simp only [List.mem_cons, List.not_mem_nil, or_false, forall_eq_or_imp, forall_eq, R.uStat, R.trkStat]
        omega)
    · rw [State.fld_setFld_ne _ _ _ _ _ _ (by simp only [R.uStat, R.trkStat]; omega)]
      exact State.fld_setFld _ _ _ _ (by decide)
  · have hf := s.windowClosed_only u key win
    have hclose : s.windowCloseEvent u = s.windowClosed u key win := by
      rw [State.windowCloseEvent, hsel]
      exact (if_pos rfl).trans (State.closeAfterLines_lead u hopen hlead hempty)
    refine ⟨_, ((congrArg State.done ((if_pos hsel).trans hclose)).trans (hf.done hu (endIgnores_unitStat u))), hf.state, ?_,
      fun k hk => ?_, fun k => s.record_windowClosed _ _ _ k, s.fld_windowClosed _ _ _, hf.reg⟩
    · rw [State.window_windowClosed, if_pos rfl]
    · rw [State.window_windowClosed, if_neg hk]
  · have htrack := State.trackClose_single u hopen hlead hempty rfl hunits (F.trkClose.STATUS.get w) (k := t * 2 + key % 2) rfl
    have hstep : s.trkCloseWrite tf w = s.trackClose t (F.trkClose.STATUS.get w) := by
      rw [State.trkCloseWrite, hw, htf]
      exact if_pos rfl
    have hexec : exec (.trackCloseWrite path tf w) s = State.done (s.trkCloseWrite tf w) :=
      congrArg State.done (State.onWrite_of _ _ _ _ (htf ▸ hacc))
    generalize F.trkClose.STATUS.get w = status at htrack hstep ⊢
    obtain ⟨honly, hwin, hstatus⟩ := s.imposed_spec (t * 2 + key % 2) status
    generalize s.imposed (t * 2 + key % 2) status = x at htrack honly hwin hstatus
    have hf : s.Only Frame.geo (x.windowClosed u key win) [R.uStat u, R.geoStat] := (honly.mono (by simp)).trans (x.windowClosed_only _ _ _)
    refine ⟨_, (hexec.trans (congrArg State.done (hstep.trans htrack))).trans (hf.done hu (endIgnores_unitStat u)), hf.state, ?_, fun k hk => ?_, ?_,
      x.fld_windowClosed _ _ _, hf.reg⟩
    · rw [State.window_windowClosed, if_pos rfl]
    · rw [State.window_windowClosed, if_neg hk, hwin]
    · rw [State.record_windowClosed, hstatus]

end Sys2Proof.Machine

/-!
What a delivered line does to an open window (R196-R201).
-/
namespace Sys2Proof.Machine

/-! ## The parts of an evaluation -/

section
variable (s : State) (u key : Nat) (w : Window)

/-- Whether a line counts as a document line: a line held back counts as the one before it (R198). -/
def State.lineDoc (held : Bool) (line : OutLine) : Bool :=
  if held then (if w.y = 0 then false else w.prevDoc) else (s.docLine u line.vals).isSome

/-- The window with the points of a line that is not held back. -/
def State.lineSeen (held : Bool) (line : OutLine) : Window :=
  { (if !held && (s.docLine u line.vals).isSome then s.addPoints u w.y ((s.docLine u line.vals).getD []) w else w) with
    y := w.y + 1, prevDoc := s.lineDoc u w held line }

/-- The judgement of a line (R198-R200): the window and the state after it. -/
def State.lineJudged (doc : Bool) (w2 : Window) (line : OutLine) : Window × State :=
  let gl := ((s.group (s.unitGroup u)).line line.y).getD { y := line.y, temp := 0 }
  let s1 := s.setFld (R.uY u) F.uY.Y w.y
  let leadN := atLeastOne (s.effFld (R.uRun u) F.uRun.LEAD_N)
  let trailN := atLeastOne (s.effFld (R.uRun u) F.uRun.TRAIL_N)
  if w2.lead.isSome then
    if doc then ({ w2 with trailRun := 0 }, s1)
    else if w2.trailRun + 1 = trailN then
      ({ w2 with trailRun := w2.trailRun + 1, trail := some (w.y + 1 - trailN) },
       (s1.setFld (R.uStat u) F.uStat.TRAIL 1).fireUnit 162 u)
    else ({ w2 with trailRun := w2.trailRun + 1 }, s1)
  else if doc then
    let s1' := if w2.early then s1 else (s1.fire (164 + u)).fireUnit 161 u
    let w2' := if w2.leadRun = 0 then
        { w2 with tLead := gl.temp, wLead := gl.weight.getD (s.blendWeight (s.unitGroup u) gl.temp), posLead := gl.pos } else w2
    if w2.leadRun + 1 = leadN then
      ({ w2' with early := true, leadRun := leadN, lead := some (w.y + 1 - leadN) },
       (s1'.setFld (R.uStat u) F.uStat.LEAD 1).fireUnit 160 u)
    else ({ w2' with early := true, leadRun := w2.leadRun + 1 }, s1')
  else if w2.early then
    ({ w2 with early := false, leadRun := 0 }, (s1.count (R.uFalseCnt u)).setFld (R.uStat u) F.uStat.FALSE 1)
  else (w2, s1)

/-- A judged line noted in the record of slot k and in the window. -/
def State.lineNoted (k : Nat) (w3 : Window) : State :=
  (if w.lead.isNone && w3.lead.isSome && (s.record k).tLead == 0 then s.setRecord k { s.record k with tLead := s.sys.time.toNat } else s).setWindow
    key (some w3)

variable {s u key w} {o : Nat} {line : OutLine} (hopen : s.openWindow u = some (key, w)) (ho : w.origin = some o)
  (hline : (s.outOf (s.fld (R.uCfg u) F.uCfg.PLANE)).find? (fun l => l.y == o + w.y) = some line)
  (hheld : s.heldLine (s.fld (R.uCfg u) F.uCfg.TRK * 2 + key % 2) u w.y = false)
include hopen ho hline hheld

/-- A line that is delivered and not held is judged and noted; a trailing edge, or the last line, closes the window. -/
theorem State.geoEvaluate_line {w3 : Window} {s2 : State}
    (hj : s.lineJudged u w (s.docLine u line.vals).isSome (s.lineSeen u w false line) line = (w3, s2)) :
    s.geoEvaluate u =
      if w3.trail.isSome || w.y + 1 == atLeastOne (s.effFld (R.uWin u) F.uWin.MAX_LINES) then
        (s2.lineNoted key w (s.fld (R.uCfg u) F.uCfg.TRK * 2 + key % 2) w3).closeWindow u
      else s2.lineNoted key w (s.fld (R.uCfg u) F.uCfg.TRK * 2 + key % 2) w3 := by
  have hfound : w.origin.bind (fun o => (s.outOf (s.fld (R.uCfg u) F.uCfg.PLANE)).find? (fun l => l.y == o + w.y)) = some line := by
    rw [ho]
    exact hline
  rw [State.geoEvaluate, hopen]
  dsimp only
  rw [hfound]
  change (fun (p : Window × State) =>
    if p.1.trail.isSome || w.y + 1 == atLeastOne (s.effFld (R.uWin u) F.uWin.MAX_LINES) then
      (p.2.lineNoted key w (s.fld (R.uCfg u) F.uCfg.TRK * 2 + key % 2) p.1).closeWindow u
    else p.2.lineNoted key w (s.fld (R.uCfg u) F.uCfg.TRK * 2 + key % 2) p.1)
    (s.lineJudged u w (s.lineDoc u w (s.heldLine (s.fld (R.uCfg u) F.uCfg.TRK * 2 + key % 2) u w.y) line)
      (s.lineSeen u w (s.heldLine (s.fld (R.uCfg u) F.uCfg.TRK * 2 + key % 2) u w.y) line) line) = _
  rw [hheld, show s.lineDoc u w false line = (s.docLine u line.vals).isSome from rfl, hj]

end

/-! ## The parts, case by case -/

theorem atLeastOne_of_pos {n : Nat} (h : 0 < n) : atLeastOne n = n := if_neg (by omega)

section
variable (s : State) (u : Nat) (w : Window)

/-- A line changes only the points of its window before it is judged. -/
theorem State.lineSeen_eq (held : Bool) (line : OutLine) : ∃ xL xR yT yB, s.lineSeen u w held line =
    { w with y := w.y + 1, prevDoc := s.lineDoc u w held line, xL := xL, xR := xR, yT := yT, yB := yB } := by
  rw [State.lineSeen]
  split
  · exact ⟨_, _, _, _, rfl⟩
  · exact ⟨_, _, _, _, rfl⟩

theorem State.lineSeen_background {line : OutLine} (h : s.docLine u line.vals = none) :
    s.lineSeen u w false line = { w with y := w.y + 1, prevDoc := false } := by
  rw [State.lineSeen, State.lineDoc, h]
  rfl

variable {s u w} {w2 : Window} (line : OutLine)

theorem State.lineJudged_first (hlead : w2.lead = none) (hearly : w2.early = false) (hrun : w2.leadRun = 0)
    (hN : 1 < s.effFld (R.uRun u) F.uRun.LEAD_N) :
    ∃ w3, s.lineJudged u w true w2 line = (w3, ((s.setFld (R.uY u) F.uY.Y w.y).fire (164 + u)).fireUnit 161 u) ∧
      w3.y = w2.y ∧ w3.early = true ∧ w3.leadRun = 1 ∧ w3.lead = none ∧ w3.prevDoc = w2.prevDoc ∧ w3.trail = w2.trail := by
  delta State.lineJudged
  extract_lets gl s1 leadN trailN s1' w2'
  have hN' : leadN = s.effFld (R.uRun u) F.uRun.LEAD_N := atLeastOne_of_pos (by omega)
  have hs1' : s1' = (s1.fire (164 + u)).fireUnit 161 u := if_neg (by rw [hearly]; exact Bool.false_ne_true)
  have hw2' : w2' = { w2 with tLead := gl.temp, wLead := gl.weight.getD (s.blendWeight (s.unitGroup u) gl.temp), posLead := gl.pos } := if_pos hrun
  refine ⟨_, (if_neg (by rw [hlead]; exact Bool.false_ne_true)).trans ((if_pos rfl).trans ((if_neg (by rw [hrun, hN']; omega)).trans (by rw [hs1']))), ?_⟩
  rw [hw2', hrun]
  exact ⟨rfl, rfl, rfl, hlead, rfl, rfl⟩

theorem State.lineJudged_lead (hlead : w2.lead = none) (hearly : w2.early = true) (hrun : 0 < w2.leadRun)
    (hN : w2.leadRun + 1 = s.effFld (R.uRun u) F.uRun.LEAD_N) :
    ∃ w3, s.lineJudged u w true w2 line =
        (w3, ((s.setFld (R.uY u) F.uY.Y w.y).setFld (R.uStat u) F.uStat.LEAD 1).fireUnit 160 u) ∧
      w3.lead = some (w.y + 1 - s.effFld (R.uRun u) F.uRun.LEAD_N) ∧ w3.tLead = w2.tLead ∧ w3.trail = w2.trail := by
  delta State.lineJudged
  extract_lets gl s1 leadN trailN s1' w2'
  have hN' : leadN = s.effFld (R.uRun u) F.uRun.LEAD_N := atLeastOne_of_pos (by omega)
  have hs1' : s1' = s1 := if_pos hearly
  have hw2' : w2' = w2 := if_neg (by omega)
  refine ⟨_, (if_neg (by rw [hlead]; exact Bool.false_ne_true)).trans ((if_pos rfl).trans ((if_pos (by rw [hN', hN])).trans (by rw [hs1']))), ?_⟩
  rw [hw2', hN']
  exact ⟨rfl, rfl, rfl⟩

theorem State.lineJudged_broken (hlead : w2.lead = none) (hearly : w2.early = true) : s.lineJudged u w false w2 line =
    ({ w2 with early := false, leadRun := 0 }, ((s.setFld (R.uY u) F.uY.Y w.y).count (R.uFalseCnt u)).setFld (R.uStat u) F.uStat.FALSE 1) := by
  rw [State.lineJudged]
  exact (if_neg (by rw [hlead]; exact Bool.false_ne_true)).trans ((if_neg Bool.false_ne_true).trans (if_pos hearly))

theorem State.lineJudged_trail (hlead : w2.lead.isSome = true) (hN : w2.trailRun + 1 = s.effFld (R.uRun u) F.uRun.TRAIL_N) :
    s.lineJudged u w false w2 line =
      ({ w2 with trailRun := w2.trailRun + 1, trail := some (w.y + 1 - s.effFld (R.uRun u) F.uRun.TRAIL_N) },
        ((s.setFld (R.uY u) F.uY.Y w.y).setFld (R.uStat u) F.uStat.TRAIL 1).fireUnit 162 u) := by
  delta State.lineJudged
  extract_lets gl s1 leadN trailN s1' w2'
  have hN' : trailN = s.effFld (R.uRun u) F.uRun.TRAIL_N := atLeastOne_of_pos (by omega)
  refine (if_pos hlead).trans ((if_neg Bool.false_ne_true).trans ((if_pos (by rw [hN', hN])).trans ?_))
  rw [hN']

end

section
variable (s : State) (ev u : Nat)

theorem State.fire_onlyPulses (l : List Nat) : s.Only Frame.geoPulses (s.fire ev) l := ⟨rfl, State.regsBut_of_regs _ rfl⟩

theorem State.fireUnit_only (l : List Nat) : s.Only Frame.geoPulses (s.fireUnit ev u) l := by
  rw [State.fireUnit]
  split
  · exact s.fire_onlyPulses _ _
  · exact .refl s l

theorem State.window_fireUnit (k : Nat) : (s.fireUnit ev u).window k = s.window k := by
  rw [State.fireUnit]
  split <;> rfl

/-- A track event of a unit is a pulse where EVMASK has the unit. -/
theorem State.mem_fireUnit (e : Nat) : e ∈ (s.fireUnit ev u).pulses ↔
    e ∈ s.pulses ∨ ((s.fld R.geoEvmask F.geoEvmask.UNITS).testBit u = true ∧ e = ev) := by
  rw [State.fireUnit]
  split
  · next h =>
    rw [State.fire, mem_addSorted]
    simp [h, or_comm]
  · next h => simp [h]

/-- What noting a judged line changes: geometry, with the window as judged. -/
theorem State.lineNoted_spec (key : Nat) (w : Window) (k : Nat) (w3 : Window) : s.Only Frame.geo (s.lineNoted key w k w3) [] ∧
    (s.lineNoted key w k w3).window key = some w3 ∧ (∀ j, j ≠ key → (s.lineNoted key w k w3).window j = s.window j) := by
  rw [State.lineNoted]
  refine ⟨State.Only.trans ?_ (State.setWindow_only _ _ _ _), State.window_setWindow_same _ _ _, fun j hj => ?_⟩
  · split
    · exact s.setRecord_only _ _ _
    · exact .refl s []
  · rw [State.window_setWindow_ne _ _ _ hj]
    split
    · exact s.window_setRecord _ _ _
    · rfl

end

end Sys2Proof.Machine

/-!
O27: the commands on delivered lines, and the statement.
-/
namespace Sys2Proof.Machine

section
variable {s : State} (hu : s.usual) {u : Fin 4} {key : Nat} {w : Window} {o : Nat} {line : OutLine} (hopen : s.openWindow u = some (key, w))
  (ho : w.origin = some o) (hline : (s.outOf (s.fld (R.uCfg u) F.uCfg.PLANE)).find? (fun l => l.y == o + w.y) = some line)
  (hheld : s.heldLine (s.fld (R.uCfg u) F.uCfg.TRK * 2 + key % 2) u w.y = false) (hlast : s.effFld (R.uWin u) F.uWin.MAX_LINES ≠ w.y + 1)
  (hmax : 0 < w.y + s.effFld (R.uWin u) F.uWin.MAX_LINES)

/-- The registers of a line's evaluation. -/
def lineEvalRegs (u : Nat) : List Nat := [R.uY u, R.uStat u, R.uFalseCnt u, R.geoStat]

theorem endIgnores_lineEvalRegs (u : Fin 4) {l : List Nat} (hl : l ⊆ lineEvalRegs u) : endIgnores l := endIgnores_of fun o ho => by
  have hmem := hl ho
  simp only [lineEvalRegs, List.mem_cons, List.not_mem_nil, or_false, R.uY, R.uStat, R.uFalseCnt, R.geoStat] at hmem
  omega

/-- The slot that the unit's open window belongs to. -/
def State.slotOf (s : State) (u key : Nat) : Nat := s.fld (R.uCfg u) F.uCfg.TRK * 2 + key % 2

include hopen ho hline hheld

include hlast hmax in
/-- A line that ends nothing. -/
theorem exec_geoLineEvaluate_on {w3 : Window} {s2 : State}
    (hj : s.lineJudged u w (s.docLine u line.vals).isSome (s.lineSeen u w false line) line = (w3, s2)) (htrail : w3.trail = none) :
    exec (.geoLineEvaluate u) s = State.done (s2.lineNoted key w (s.slotOf u key) w3) := by
  refine congrArg State.done ((State.geoEvaluate_line hopen ho hline hheld hj).trans (if_neg ?_))
  rw [htrail, Option.isSome_none, Bool.false_or, beq_iff_eq, atLeastOne]
  split <;> omega

/-- A line that ends the document closes the window. -/
theorem exec_geoLineEvaluate_end {w3 : Window} {s2 : State}
    (hj : s.lineJudged u w (s.docLine u line.vals).isSome (s.lineSeen u w false line) line = (w3, s2)) (htrail : w3.trail.isSome = true)
    (hlead : w3.lead.isSome = true) (hclosed : w3.closed = w.closed) (hwin : ∀ k, s2.window k = s.window k) :
    exec (.geoLineEvaluate u) s = State.done ((s2.lineNoted key w (s.slotOf u key) w3).windowClosed u key w3) := by
  obtain ⟨-, hself, hne⟩ := s2.lineNoted_spec key w (s.slotOf u key) w3
  have hstill : (s2.lineNoted key w (s.slotOf u key) w3).openWindow u = some (key, w3) :=
    State.openWindow_of_change hopen (hclosed.trans (State.openWindow_some hopen).2.2) hself fun k hk => (hne k hk).trans (hwin k)
  exact congrArg State.done ((State.geoEvaluate_line hopen ho hline hheld hj).trans ((if_pos (by rw [htrail]; rfl)).trans
    (State.closeWindow_lead u hstill hlead)))

include hu

section
include hlast hmax

theorem exec_geoLineEvaluate_first (hy : w.y < 2 ^ 24) (htrail : w.trail = none) (hdoc : (s.docLine u line.vals).isSome = true) (hlead : w.lead = none)
    (hearly : w.early = false) (hrun : w.leadRun = 0) (hN : 1 < s.effFld (R.uRun u) F.uRun.LEAD_N) :
    ∃ t w', exec (.geoLineEvaluate u) s = .next t ∧ t = { s with regs := t.regs, geo := t.geo, pulses := t.pulses } ∧
      t.window key = some w' ∧ w'.y = w.y + 1 ∧ w'.early = true ∧ w'.leadRun = 1 ∧ w'.lead = none ∧ w'.prevDoc = true ∧
      (∀ ev, ev ∈ t.pulses ↔ ev ∈ s.pulses ∨ ev = 164 + u.val ∨ ((s.fld R.geoEvmask F.geoEvmask.UNITS).testBit u = true ∧ ev = 161)) ∧
      (∀ k, k ≠ key → t.window k = s.window k) ∧
      t.fld (R.uY u) F.uY.Y = w.y ∧ (∀ off, off ≠ R.uY u → t.reg off = s.reg off) := by
  obtain ⟨xL, xR, yT, yB, hseen⟩ := s.lineSeen_eq u w false line
  have hprev : s.lineDoc u w false line = true := hdoc
  obtain ⟨w3, hj, h1, h2, h3, h4, h5, h6⟩ := State.lineJudged_first (s := s) (u := u) (w := w) (w2 := s.lineSeen u w false line) line (by rw [hseen]; exact hlead)
    (by rw [hseen]; exact hearly) (by rw [hseen]; exact hrun) hN
  rw [← hdoc] at hj
  rw [hseen] at h1 h5 h6
  generalize hs2 : ((s.setFld (R.uY u) F.uY.Y w.y).fire (164 + u.val)).fireUnit 161 u = s2 at hj
  have hexec := exec_geoLineEvaluate_on hopen ho hline hheld hlast hmax hj (h6.trans htrail)
  have hfire : s.Only Frame.geoPulses s2 [R.uY u] := by
    rw [← hs2]
    exact (((State.Only.refl s [R.uY u]).setFld _ _ (by simp)).trans (State.fire_onlyPulses _ _ _)).trans (State.fireUnit_only _ _ _ _)
  have hmask : ((s.setFld (R.uY u) F.uY.Y w.y).fire (164 + u.val)).fld R.geoEvmask F.geoEvmask.UNITS = s.fld R.geoEvmask F.geoEvmask.UNITS := by
    rw [State.fld, State.reg_fire, ← State.fld, State.fld_setFld_ne _ _ _ _ _ _ (by simp only [R.geoEvmask, R.uY]; omega)]
  have hpulse : ∀ ev, ev ∈ s2.pulses ↔ ev ∈ s.pulses ∨ ev = 164 + u.val ∨
      ((s.fld R.geoEvmask F.geoEvmask.UNITS).testBit u = true ∧ ev = 161) := fun ev => by
    rw [← hs2, State.mem_fireUnit, hmask, State.fire, mem_addSorted, State.setFld, State.setReg_pulses, or_assoc]
  have hwin : ∀ k, s2.window k = s.window k := fun k => by
    rw [← hs2, State.window_fireUnit]
    exact State.window_of_geo rfl k
  have hY : s2.fld (R.uY u) F.uY.Y = w.y := by
    rw [← hs2, (State.fireUnit_only _ _ _ []).fld (by simp), State.fld, State.reg_fire, ← State.fld, State.fld_setFld _ _ _ _ (by decide)]
    exact Nat.mod_eq_of_lt hy
  obtain ⟨hnote, hself, hne⟩ := s2.lineNoted_spec key w (s.slotOf u key) w3
  have hf := hfire.trans ((hnote.widen (G := Frame.geoPulses) fun _ _ => rfl).mono (by simp))
  refine ⟨_, w3, hexec.trans (hf.done hu (endIgnores_lineEvalRegs u (by simp [lineEvalRegs]))), hf.state, hself, h1, h2, h3, h4, h5.trans hprev,
    fun ev => ?_, fun k hk => (hne k hk).trans (hwin k), (hnote.fld (by simp) _).trans hY, fun off hoff => hf.reg off (by simpa using hoff)⟩
  rw [show (s2.lineNoted key w (s.slotOf u key) w3).pulses = s2.pulses by rw [hnote.state]; rfl]
  exact hpulse ev

theorem exec_geoLineEvaluate_lead (htrail : w.trail = none) (hdoc : (s.docLine u line.vals).isSome = true) (hlead : w.lead = none)
    (hearly : w.early = true) (hN : w.leadRun + 1 = s.effFld (R.uRun u) F.uRun.LEAD_N) (hrun : 0 < w.leadRun) :
    ∃ t w', exec (.geoLineEvaluate u) s = .next t ∧ t = { s with regs := t.regs, geo := t.geo, pulses := t.pulses } ∧
      t.window key = some w' ∧ w'.lead = some (w.y + 1 - s.effFld (R.uRun u) F.uRun.LEAD_N) ∧ w'.tLead = w.tLead ∧
      t.fld (R.uStat u) F.uStat.LEAD = 1 ∧
      (∀ ev, ev ∈ t.pulses ↔ ev ∈ s.pulses ∨ ((s.fld R.geoEvmask F.geoEvmask.UNITS).testBit u = true ∧ ev = 160)) ∧
      (∀ off, off ∉ [R.uY u, R.uStat u] → t.reg off = s.reg off) := by
  obtain ⟨xL, xR, yT, yB, hseen⟩ := s.lineSeen_eq u w false line
  obtain ⟨w3, hj, h1, h2, h3⟩ := State.lineJudged_lead (s := s) (u := u) (w := w) (w2 := s.lineSeen u w false line) line (by rw [hseen]; exact hlead)
    (by rw [hseen]; exact hearly) (by rw [hseen]; exact hrun) (by rw [hseen]; exact hN)
  rw [← hdoc] at hj
  rw [hseen] at h2 h3
  generalize hs1 : (s.setFld (R.uY u) F.uY.Y w.y).setFld (R.uStat u) F.uStat.LEAD 1 = s1 at hj
  have hs1only : s.Only Frame.geoPulses s1 [R.uY u, R.uStat u] := by
    rw [← hs1]
    exact ((State.Only.refl s _).setFld _ _ (by simp)).setFld _ _ (by simp)
  have hpulse1 : s1.pulses = s.pulses := by rw [← hs1]; rfl
  have hLEAD : s1.fld (R.uStat u) F.uStat.LEAD = 1 := by
    rw [← hs1]
    exact State.fld_setFld _ _ _ _ (by decide)
  have hexec := exec_geoLineEvaluate_on hopen ho hline hheld hlast hmax hj (h3.trans htrail)
  have hunit := s1.fireUnit_only 160 u [R.uY u, R.uStat u]
  obtain ⟨hnote, hself, hne⟩ := (s1.fireUnit 160 u).lineNoted_spec key w (s.slotOf u key) w3
  have hf := (hs1only.trans hunit).trans ((hnote.widen (G := Frame.geoPulses) fun _ _ => rfl).mono (by simp))
  refine ⟨_, w3, hexec.trans (hf.done hu (endIgnores_lineEvalRegs u (by simp [lineEvalRegs]))), hf.state, hself, h1, h2, ?_, fun ev => ?_, hf.reg⟩
  · rw [hnote.fld (by simp), (s1.fireUnit_only 160 u []).fld (by simp), hLEAD]
  · rw [show ((s1.fireUnit 160 u).lineNoted key w (s.slotOf u key) w3).pulses = (s1.fireUnit 160 u).pulses by rw [hnote.state]; rfl,
      State.mem_fireUnit, hpulse1, hs1only.fld (by simp only [List.mem_cons, List.not_mem_nil, or_false, R.geoEvmask, R.uY, R.uStat]; omega)]

theorem exec_geoLineEvaluate_broken (htrail : w.trail = none) (hdoc : s.docLine u line.vals = none) (hlead : w.lead = none) (hearly : w.early = true) :
    ∃ t w', exec (.geoLineEvaluate u) s = .next t ∧ t = { s with regs := t.regs, geo := t.geo } ∧
      t.window key = some w' ∧ w'.early = false ∧ w'.leadRun = 0 ∧ w'.lead = none ∧ w'.xL = w.xL ∧ w'.yT = w.yT ∧
      t.reg (R.uFalseCnt u) = satInc (s.reg (R.uFalseCnt u)) ∧ t.fld (R.uStat u) F.uStat.FALSE = 1 ∧
      (∀ off, off ∉ [R.uY u, R.uStat u, R.uFalseCnt u] → t.reg off = s.reg off) := by
  have hseen := s.lineSeen_background u w hdoc
  have hj := State.lineJudged_broken (s := s) (u := u) (w := w) (w2 := s.lineSeen u w false line) line (by rw [hseen]; exact hlead)
    (by rw [hseen]; exact hearly)
  obtain ⟨w3, hw3, h1, h2, h3, h4, h5, h6⟩ : ∃ w3 : Window, ({ s.lineSeen u w false line with early := false, leadRun := 0 } : Window) = w3 ∧
      w3.early = false ∧ w3.leadRun = 0 ∧ w3.lead = none ∧ w3.xL = w.xL ∧ w3.yT = w.yT ∧ w3.trail = none := by
    rw [hseen]
    exact ⟨_, rfl, rfl, rfl, hlead, rfl, rfl, htrail⟩
  rw [hw3] at hj
  generalize hs2 : ((s.setFld (R.uY u) F.uY.Y w.y).count (R.uFalseCnt u)).setFld (R.uStat u) F.uStat.FALSE 1 = s2 at hj
  have hs2only : s.Only Frame.geo s2 [R.uY u, R.uStat u, R.uFalseCnt u] := by
    rw [← hs2]
    exact (((State.Only.refl s _).setFld _ _ (by simp)).count (by simp)).setFld _ _ (by simp)
  have hcnt : s2.reg (R.uFalseCnt u) = satInc (s.reg (R.uFalseCnt u)) := by
    rw [← hs2, State.reg_setFld_ne _ _ _ _ _ (by simp only [R.uFalseCnt, R.uStat]; omega), State.reg_count, if_pos rfl,
      State.reg_setFld_ne _ _ _ _ _ (by simp only [R.uFalseCnt, R.uY]; omega)]
  have hFALSE : s2.fld (R.uStat u) F.uStat.FALSE = 1 := by
    rw [← hs2]
    exact State.fld_setFld _ _ _ _ (by decide)
  have hexec := exec_geoLineEvaluate_on hopen ho hline hheld hlast hmax (w3 := w3) (s2 := s2) (by rw [hdoc]; exact hj) h6
  obtain ⟨hnote, hself, -⟩ := s2.lineNoted_spec key w (s.slotOf u key) w3
  have hf := hs2only.trans (hnote.mono (by simp))
  exact ⟨_, w3, hexec.trans (hf.done hu (endIgnores_lineEvalRegs u (by simp [lineEvalRegs]))), hf.state, hself, h1, h2, h3, h4, h5,
    (hnote.reg _ (by simp)).trans hcnt, (hnote.fld (by simp) _).trans hFALSE, hf.reg⟩

end

theorem exec_geoLineEvaluate_trail (hdoc : s.docLine u line.vals = none) (hlead : w.lead.isSome = true)
    (hN : w.trailRun + 1 = s.effFld (R.uRun u) F.uRun.TRAIL_N) :
    ∃ t w', exec (.geoLineEvaluate u) s = .next t ∧ t = { s with regs := t.regs, geo := t.geo, pulses := t.pulses } ∧
      t.window key = some w' ∧ w'.closed = true ∧ w'.trail = some (w.y + 1 - s.effFld (R.uRun u) F.uRun.TRAIL_N) ∧ w'.lead = w.lead ∧
      t.fld (R.uStat u) F.uStat.TRAIL = 1 ∧ t.fld (R.uStat u) F.uStat.WIN = 0 ∧
      (∀ ev, ev ∈ t.pulses ↔ ev ∈ s.pulses ∨ ((s.fld R.geoEvmask F.geoEvmask.UNITS).testBit u = true ∧ ev = 162)) ∧
      (∀ off, off ∉ [R.uY u, R.uStat u, R.geoStat] → t.reg off = s.reg off) := by
  have hseen := s.lineSeen_background u w hdoc
  have hj := State.lineJudged_trail (s := s) (u := u) (w := w) (w2 := s.lineSeen u w false line) line (by rw [hseen]; exact hlead)
    (by rw [hseen]; exact hN)
  obtain ⟨w3, hw3, h1, h2, h3⟩ : ∃ w3 : Window, ({ s.lineSeen u w false line with
      trailRun := (s.lineSeen u w false line).trailRun + 1, trail := some (w.y + 1 - s.effFld (R.uRun u) F.uRun.TRAIL_N) } : Window) = w3 ∧
      w3.trail = some (w.y + 1 - s.effFld (R.uRun u) F.uRun.TRAIL_N) ∧ w3.lead = w.lead ∧ w3.closed = w.closed := by
    rw [hseen]
    exact ⟨_, rfl, rfl, rfl, rfl⟩
  rw [hw3] at hj
  generalize hs1 : (s.setFld (R.uY u) F.uY.Y w.y).setFld (R.uStat u) F.uStat.TRAIL 1 = s1 at hj
  have hs1only : s.Only Frame.geoPulses s1 [R.uY u, R.uStat u, R.geoStat] := by
    rw [← hs1]
    exact ((State.Only.refl s _).setFld _ _ (by simp)).setFld _ _ (by simp)
  have hpulse1 : s1.pulses = s.pulses := by rw [← hs1]; rfl
  have hTRAIL : s1.fld (R.uStat u) F.uStat.TRAIL = 1 := by
    rw [← hs1]
    exact State.fld_setFld _ _ _ _ (by decide)
  have hwin : ∀ k, (s1.fireUnit 162 u).window k = s.window k := fun k => by
    rw [← hs1, State.window_fireUnit, State.window_setFld, State.window_setFld]
  have hunit := s1.fireUnit_only 162 u [R.uY u, R.uStat u, R.geoStat]
  have hexec := exec_geoLineEvaluate_end hopen ho hline hheld (w3 := w3) (s2 := s1.fireUnit 162 u) (by rw [hdoc]; exact hj) (by rw [h1]; rfl)
    (by rw [h2]; exact hlead) h3 hwin
  obtain ⟨hnote, -, -⟩ := (s1.fireUnit 162 u).lineNoted_spec key w (s.slotOf u key) w3
  have hn := hs1only.trans (hunit.trans ((hnote.widen (G := Frame.geoPulses) fun _ _ => rfl).mono (by simp)))
  have hnpulse : ((s1.fireUnit 162 u).lineNoted key w (s.slotOf u key) w3).pulses = (s1.fireUnit 162 u).pulses := by rw [hnote.state]; rfl
  have hnTRAIL : ((s1.fireUnit 162 u).lineNoted key w (s.slotOf u key) w3).fld (R.uStat u) F.uStat.TRAIL = 1 := by
    rw [hnote.fld (by simp), (s1.fireUnit_only 162 u []).fld (by simp), hTRAIL]
  generalize (s1.fireUnit 162 u).lineNoted key w (s.slotOf u key) w3 = x at hexec hn hnpulse hnTRAIL
  have hclose := x.windowClosed_only u key w3
  have hf := hn.trans ((hclose.widen (G := Frame.geoPulses) fun _ _ => rfl).mono (by simp))
  refine ⟨_, { w3 with closed := true }, hexec.trans (hf.done hu (endIgnores_lineEvalRegs u (by simp [lineEvalRegs]))), hf.state, ?_, rfl, h1, h2, ?_,
    x.fld_windowClosed _ _ _, fun ev => ?_, hf.reg⟩
  · rw [State.window_windowClosed, if_pos rfl]
  · rw [State.windowClosed, State.fld, State.reg_setWinBit_stat, Fld.get_put_apart _ _ _ _ (by decide) (by decide) (by decide), State.reg_setWindow,
      ← State.fld, hnTRAIL]
  · rw [show (x.windowClosed u key w3).pulses = x.pulses by rw [hclose.state]; rfl, hnpulse, State.mem_fireUnit, hpulse1,
      hs1only.fld (by simp only [List.mem_cons, List.not_mem_nil, or_false, R.geoEvmask, R.uY, R.uStat, R.geoStat]; omega)]

end

/-- Settles O27: what a delivered line does to an open window. -/
theorem windowLines : Obligations.WindowLines := by
  unfold Obligations.WindowLines
  intro s u key w o line hu hopen ho hline hheld hy htrail hlast hmax leadN trailN mask
  refine ⟨fun hdoc hlead hearly hrun hN => ?_, fun hdoc hlead hearly hN hrun => ?_, fun hdoc hlead hearly => ?_, fun hdoc hlead hN => ?_⟩
  · exact exec_geoLineEvaluate_first hu hopen ho hline hheld hlast hmax hy htrail hdoc hlead hearly hrun hN
  · exact exec_geoLineEvaluate_lead hu hopen ho hline hheld hlast hmax htrail hdoc hlead hearly hN hrun
  · exact exec_geoLineEvaluate_broken hu hopen ho hline hheld hlast hmax htrail hdoc hlead hearly
  · exact exec_geoLineEvaluate_trail hu hopen ho hline hheld hdoc hlead hN

end Sys2Proof.Machine

/-!
Jams (R246, R247): what a jam of a path without tracks and without a job leaves, and the end of a command that jams a path.
-/
namespace Sys2Proof.Machine

/-! ## A consequence that changes the state -/

/-- A command whose one consequence leads to a state in which nothing waits ends there. -/
theorem State.done_withWorkTo {t u : State} {w : Work} (hwork : t.work = []) (hdo : t.doWork w = u) (hu : u.usual) :
    State.done { t with work := t.work ++ [w] } = .next u := by
  have hgo : State.settleGo settleBound { t with work := t.work ++ [w] } = u := by
    have ht : t = { t with work := [] } := by rw [← hwork]
    rw [show settleBound = 1048575 + 1 from rfl, State.settleGo, hwork]
    change State.settleGo 1048575 (State.doWork { t with work := [] } w) = u
    rw [← ht, hdo]
    exact State.settleGo_of_quiet _ _ hu.1
  rw [State.done, State.settle, hgo, State.showFld_of_settled _ hu.2]

/-! ## The frame of transport commands that hold back values -/

/-- The frame of transport and of what is held back. -/
def Frame.gaitEff : Frame :=
  ⟨fun s t => { s with regs := t.regs, eff := t.eff, gait := t.gait }, fun _ => rfl, fun _ _ _ => rfl, fun _ _ _ => rfl, fun _ _ _ => rfl,
    fun _ _ => State.endsAlike_of rfl⟩

theorem State.GaitOnly.onlyEff {s t : State} {l : List Nat} (h : s.GaitOnly t l) : s.Only Frame.gaitEff t l :=
  ⟨h.state.trans (congrArg (fun e => ({ s with regs := t.regs, eff := e, gait := t.gait } : State)) (by rw [h.state])), h.reg⟩

/-! ## Axis views leave the faults -/

/-- The fields of Mn_STAT from FAULT on do not follow the paths. -/
theorem State.fld_refreshAxis_above (s : State) (m n : Nat) {f : Fld} (hf : f.lo + f.width ≤ 32) (hlo : 3 ≤ f.lo) :
    (s.refreshAxis m).fld (R.axisStat n) f = s.fld (R.axisStat n) f := by
  have hrate : R.axisStat n ≠ R.axisRate m := by simp only [R.axisStat, R.axisRate]; omega
  have hset : ∀ (t : State) (g : Fld) (v : Nat), g.lo + g.width ≤ 3 →
      (t.setFld (R.axisStat m) g v).fld (R.axisStat n) f = t.fld (R.axisStat n) f := fun t g v hg => by
    by_cases h : R.axisStat n = R.axisStat m
    · rw [h, State.fld_setFld_apart _ _ _ _ _ (by omega) hf (.inr (by omega))]
    · exact State.fld_setFld_ne _ _ _ _ _ _ h
  delta State.refreshAxis
  extract_lets v on pol rev inv put dir s1 s2
  have h2 : s2.fld (R.axisStat n) f = s.fld (R.axisStat n) f := by
    rw [show s2 = _ from rfl, State.fld_setFld_ne _ _ _ _ _ _ hrate, hset _ _ _ (by decide), show s1 = _ from rfl, hset _ _ _ (by decide),
      hset _ _ _ (by decide)]
  exact h2

/-- A register other than GAIT.STAT is not changed by the flags of a path there. -/
theorem State.fld_refreshPath_axisStat (s : State) (k n : Nat) {f : Fld} (hf : f.lo + f.width ≤ 32) (hlo : 3 ≤ f.lo) :
    (s.refreshPath k).fld (R.axisStat n) f = s.fld (R.axisStat n) f := by
  have hne : R.axisStat n ≠ R.gaitStat := by simp only [R.axisStat, R.gaitStat]; omega
  refine List.foldlRecOn (motive := fun t : State => t.fld (R.axisStat n) f = s.fld (R.axisStat n) f) _ _ ?_ fun t ht m _ => ?_
  · rw [State.fld_setFld_ne _ _ _ _ _ _ hne, State.fld_setFld_ne _ _ _ _ _ _ hne, State.fld_setFld_ne _ _ _ _ _ _ hne,
      State.fld_setFld_ne _ _ _ _ _ _ hne]
  · exact (t.fld_refreshAxis_above m n hf hlo).trans ht

theorem State.fld_enterPath_axisStat (s : State) (k st n : Nat) {f : Fld} (hf : f.lo + f.width ≤ 32) (hlo : 3 ≤ f.lo) :
    (s.enterPath k st).fld (R.axisStat n) f = s.fld (R.axisStat n) f := by
  have hne : R.axisStat n ≠ R.pathStat k := by simp only [R.axisStat, R.pathStat]; omega
  rw [State.enterPath, State.fld_refreshPath_axisStat _ _ _ hf hlo]
  split
  · exact State.fld_setFld_ne _ _ _ _ _ _ hne
  · rw [State.setPstat, State.fld_setFld_ne _ _ _ _ _ _ hne]
    exact State.fld_setFld_ne _ _ _ _ _ _ hne

/-! ## A jam -/

section
variable (s : State) (k cause chk : Nat)

/-- A path as a jam stops it: the axes decelerate at JDEC, the feed is held, the cause shows. -/
def State.jamStopped : State :=
  let s1 := ((s.setPathSt k { s.pathSt k with haltWhenEmpty := false, holdByLoop := false }).rampDown k true .jam).setPstat k F.pathStat.FEED_HOLD 1
  let s2 := s1.setPstat k F.pathStat.JAM_CAUSE cause
  if cause ≤ 3 then s2.setPstat k F.pathStat.JAM_CHK chk else s2

/-- A path in JAM, its jam counted and its event fired. -/
def State.jammed : State := ((((s.jamStopped k cause chk).count (R.pathJamCnt k)).fire (176 + k)).dropSeam k).enterPath k 7

theorem State.jamStopped_gaitOnly : s.GaitOnly (s.jamStopped k cause chk) [R.pathStat k] := by
  have hset : ∀ (t : State) f v, t.GaitOnly (t.setPstat k f v) [R.pathStat k] := fun t f v => t.setPstat_gaitOnly k f v
  have h := (((GaitOnly.setPathSt s k { s.pathSt k with haltWhenEmpty := false, holdByLoop := false }).trans
    (State.rampDown_gaitOnly _ k true .jam)).trans (hset _ F.pathStat.FEED_HOLD 1)).trans (hset _ F.pathStat.JAM_CAUSE cause)
  unfold State.jamStopped
  split
  · exact h.trans (hset _ _ _)
  · exact h

theorem State.jammed_gaitOnly : (s.fire (176 + k)).GaitOnly (s.jammed k cause chk) (R.pathJamCnt k :: pathViews k) := by
  have hstop : s.GaitOnly (s.jamStopped k cause chk) (R.pathJamCnt k :: pathViews k) :=
    (s.jamStopped_gaitOnly k cause chk).mono (by simp [pathViews])
  exact (((hstop.trans (.count _ List.mem_cons_self)).fire _).trans (State.dropSeam_gaitOnly _ k)).trans
    ((State.enterPath_gaitOnly _ k 7).mono (List.subset_cons_self _ _))

/-- A jam of a path that is neither OFF nor in JAM, and that has no tracks. -/
theorem State.jam_eq (hoff : s.pathState k ≠ 0) (hjam : s.pathState k ≠ 7) (htrks : s.fld (R.pathLinks k) F.pathLinks.TRKS = 0) :
    s.jam k cause chk = { s.jammed k cause chk with work := (s.jammed k cause chk).work ++ [Work.jam k] } := by
  have hclose : ∀ t : State, s.GaitOnly t [R.pathStat k] → t.closeTracks k St.transportJam = t := fun t ht =>
    t.closeTracks_of_none k _ (by rw [ht.fld (by simp only [List.mem_singleton, R.pathLinks, R.pathStat]; omega), htrks])
  have hx := hclose (((s.setPathSt k { s.pathSt k with haltWhenEmpty := false, holdByLoop := false }).rampDown k true .jam).setPstat k
    F.pathStat.FEED_HOLD 1) (((GaitOnly.setPathSt s k _).trans (State.rampDown_gaitOnly _ k true .jam)).trans (State.setPstat_gaitOnly _ k _ _))
  delta State.jam
  refine (if_neg hoff).trans ((if_neg hjam).trans ?_)
  extract_lets x1 s1 s2 s3 s4 s5
  have hs2 : s2 = s1.setPstat k F.pathStat.FEED_HOLD 1 := hx
  have hs4 : s4 = s.jamStopped k cause chk := by
    rw [show s4 = if cause ≤ 3 then s3.setPstat k F.pathStat.JAM_CHK chk else s3 from rfl, show s3 = s2.setPstat k F.pathStat.JAM_CAUSE cause from rfl, hs2]
    rfl
  have hs5 : s5 = s.jammed k cause chk := by
    rw [show s5 = (((s4.count (R.pathJamCnt k)).fire (176 + k)).dropSeam k).enterPath k 7 from rfl, hs4]
    rfl
  change ({ s5 with work := s5.work ++ [Work.jam k] } : State) = _
  rw [hs5]

/-! ## What a jam shows -/

/-- The fields of PATHk_STAT that a jam leaves to its stop. -/
theorem State.fld_jammed_above {f : Fld} (hf : f.lo + f.width ≤ 32) (h : 7 ≤ f.lo) :
    (s.jammed k cause chk).fld (R.pathStat k) f = (s.jamStopped k cause chk).fld (R.pathStat k) f := by
  rw [State.jammed, State.fld_enterPath_above _ _ _ _ hf h, State.fld_dropSeam, State.fld_fire]
  exact State.fld_setReg_ne _ _ _ _ _ (by simp only [R.pathStat, R.pathJamCnt]; omega)

/-- The fields of PATHk_STAT that an operation leaves when it sets another. -/
theorem State.fld_jamStopped_below {f : Fld} (hf : f.lo + f.width ≤ 20) :
    (s.jamStopped k cause chk).fld (R.pathStat k) f = ((((s.setPathSt k { s.pathSt k with haltWhenEmpty := false, holdByLoop := false }).rampDown
      k true .jam).setPstat k F.pathStat.FEED_HOLD 1).setPstat k F.pathStat.JAM_CAUSE cause).fld (R.pathStat k) f := by
  unfold State.jamStopped
  dsimp only
  split
  · exact State.fld_setPstat_apart _ _ _ _ _ (by decide) (by omega) (.inl (by exact hf))
  · rfl

theorem State.jammed_shown (hc : cause < 16) :
    (s.jammed k cause chk).pathState k = 7 ∧ (s.jammed k cause chk).fld (R.pathStat k) F.pathStat.JAM_CAUSE = cause ∧
      (s.jammed k cause chk).fld (R.pathStat k) F.pathStat.FEED_HOLD = 1 ∧ (s.jammed k cause chk).fld (R.pathStat k) F.pathStat.TARGET = 0 ∧
      (s.jammed k cause chk).fld (R.pathStat k) F.pathStat.GAIT = 0 := by
  refine ⟨State.pathState_enterPath _ _ _ (by decide), ?_, ?_, ?_, State.fld_enterPath_gait_of_ne _ _ _ (by decide)⟩
  · rw [s.fld_jammed_above _ _ _ (by decide) (by decide), s.fld_jamStopped_below _ _ _ (by decide), State.fld_setPstat_same _ _ _ _ (by decide) hc]
  · rw [s.fld_jammed_above _ _ _ (by decide) (by decide), s.fld_jamStopped_below _ _ _ (by decide),
      State.fld_setPstat_apart _ _ _ _ _ (by decide) (by decide) (by decide), State.fld_setPstat_same _ _ _ _ (by decide) (by decide)]
  · rw [s.fld_jammed_above _ _ _ (by decide) (by decide), s.fld_jamStopped_below _ _ _ (by decide),
      State.fld_setPstat_apart _ _ _ _ _ (by decide) (by decide) (by decide),
      State.fld_setPstat_apart _ _ _ _ _ (by decide) (by decide) (by decide), State.fld_rampDown_target]

/-- The checkpoint of a jam at one shows. -/
theorem State.fld_jammed_chk (hc : cause ≤ 3) (hchk : chk < 8) : (s.jammed k cause chk).fld (R.pathStat k) F.pathStat.JAM_CHK = chk := by
  rw [s.fld_jammed_above _ _ _ (by decide) (by decide), State.jamStopped]
  dsimp only
  rw [if_pos hc, State.fld_setPstat_same _ _ _ _ (by decide) hchk]

theorem State.pathSt_jamStopped (j : Nat) : (s.jamStopped k cause chk).pathSt j =
    if j = k then { s.pathSt k with haltWhenEmpty := false, holdByLoop := false, target := 0, hard := true, atRest := .jam } else s.pathSt j := by
  have h : (((((s.setPathSt k { s.pathSt k with haltWhenEmpty := false, holdByLoop := false }).rampDown k true .jam).setPstat k
      F.pathStat.FEED_HOLD 1).setPstat k F.pathStat.JAM_CAUSE cause)).pathSt j =
      if j = k then { s.pathSt k with haltWhenEmpty := false, holdByLoop := false, target := 0, hard := true, atRest := .jam } else s.pathSt j := by
    rw [State.pathSt_setPstat, State.pathSt_setPstat, State.rampDown, State.pathSt_setPstat, State.pathSt_setPathSt, State.pathSt_setPathSt_same,
      State.pathSt_setPathSt]
    split <;> rfl
  unfold State.jamStopped
  dsimp only
  split
  · exact h
  · exact h

theorem State.pathSt_jammed (j : Nat) : (s.jammed k cause chk).pathSt j =
    if j = k then { s.pathSt k with haltWhenEmpty := false, holdByLoop := false, target := 0, hard := true, atRest := .jam, seams := [], overlap := 0 }
    else s.pathSt j := by
  rw [State.jammed, State.pathSt_enterPath]
  by_cases hj : j = k
  · rw [if_pos hj, hj, State.pathSt_dropSeam, State.pathSt_fire, State.pathSt_count, State.pathSt_jamStopped, if_pos rfl]
  · rw [if_neg hj, State.dropSeam_eq]
    refine ((State.pathSt_setPathSt _ _ _ _).trans (if_neg hj)).trans ?_
    rw [State.pathSt_fire, State.pathSt_count, State.pathSt_jamStopped, if_neg hj]

theorem State.reg_jammed_count : (s.jammed k cause chk).reg (R.pathJamCnt k) = satInc (s.reg (R.pathJamCnt k)) := by
  have hne : R.pathJamCnt k ≠ R.pathStat k := by simp only [R.pathStat, R.pathJamCnt]; omega
  have hview : R.pathJamCnt k ∉ pathViews k := not_mem_pathViews (by simp only [R.pathJamCnt]; omega) hne
  calc (s.jammed k cause chk).reg (R.pathJamCnt k)
      = (((s.jamStopped k cause chk).count (R.pathJamCnt k)).fire (176 + k)).reg (R.pathJamCnt k) := by
        rw [State.jammed, (State.enterPath_gaitOnly _ k 7).reg _ hview, (State.dropSeam_gaitOnly _ k (l := [])).reg _ List.not_mem_nil]
    _ = satInc ((s.jamStopped k cause chk).reg (R.pathJamCnt k)) := State.reg_setReg_same _ _ _
    _ = satInc (s.reg (R.pathJamCnt k)) := by rw [(s.jamStopped_gaitOnly k cause chk).reg _ (by simpa using hne)]

theorem State.faulted_jammed : (s.jammed k cause chk).gait.faulted = s.gait.faulted := by
  rw [State.jammed, State.faulted_enterPath, State.dropSeam_eq]
  change (s.jamStopped k cause chk).gait.faulted = s.gait.faulted
  unfold State.jamStopped
  dsimp only
  split <;> rfl

theorem State.fld_jammed_axisStat (n : Nat) {f : Fld} (hf : f.lo + f.width ≤ 32) (hlo : 3 ≤ f.lo) :
    (s.jammed k cause chk).fld (R.axisStat n) f = s.fld (R.axisStat n) f := by
  rw [State.jammed, State.fld_enterPath_axisStat _ _ _ _ hf hlo, State.fld_dropSeam, State.fld_fire, State.count,
    State.fld_setReg_ne _ _ _ _ _ (by simp only [R.axisStat, R.pathJamCnt]; omega),
    (s.jamStopped_gaitOnly k cause chk).fld (by simp only [List.mem_singleton, R.axisStat, R.pathStat]; omega)]

end

/-! ## The consequence of a jam -/

/-- A state with another queue of events for the host. -/
def State.withAsync (t : State) (q : List AsyncEvent) : State := { t with asyncQ := q }

theorem State.usual_withAsync {t : State} (q : List AsyncEvent) (h : t.usual) : (t.withAsync q).usual :=
  ⟨State.quiet_of t _ h.1 rfl rfl rfl rfl rfl, State.settled_of t _ h.2 rfl rfl rfl rfl rfl rfl rfl⟩

section
variable (t : State) (q : List AsyncEvent)
theorem State.pathSt_withAsync (j : Nat) : (t.withAsync q).pathSt j = t.pathSt j := rfl
theorem State.reg_withAsync (o : Nat) : (t.withAsync q).reg o = t.reg o := rfl
theorem State.fld_withAsync (o : Nat) (f : Fld) : (t.withAsync q).fld o f = t.fld o f := rfl
theorem State.gait_withAsync : (t.withAsync q).gait = t.gait := rfl
theorem State.withAsync_eq {x : State} (h : t = { x with regs := t.regs, gait := t.gait }) :
    t.withAsync q = { x with regs := (t.withAsync q).regs, gait := (t.withAsync q).gait, asyncQ := q } := by
  conv_lhs => rw [h]
  rfl
end

/-- A jam of a path without a job, which E0 does not report, only queues its event for the host. -/
theorem State.doWork_jam {t : State} {k : Nat} (hjobs : ∀ j ∈ t.hqe.jobs, j.path ≠ k) (hauto : t.fld R.secSvcCfg F.secSvcCfg.AUTO_JAM = 0)
    (hroom : t.asyncQ.length < 64) : t.doWork (.jam k) =
      t.withAsync (t.asyncQ ++ [⟨5, k + t.fld (R.pathStat k) F.pathStat.JAM_CAUSE * 256, (t.reg (R.pathJamCnt k)).toNat⟩]) := by
  change t.jamWork k = _
  have hnone : ∀ q, (t.withAsync q).hqe.jobs.find? (fun j => j.path == k) = none := fun _ => List.find?_eq_none.mpr fun j hj => by simpa using hjobs j hj
  delta State.jamWork
  extract_lets s1 s2
  have hs1 : s1 = t.withAsync (t.asyncQ ++ [⟨5, k + t.fld (R.pathStat k) F.pathStat.JAM_CAUSE * 256, (t.reg (R.pathJamCnt k)).toNat⟩]) :=
    t.queueAsync_room _ _ _ hroom
  have hs2 : s2 = s1 := by
    rw [show s2 = match s1.hqe.jobs.find? (fun j => j.path == k) with
      | some j => s1.jobEnd j St.transportJam
      | none => s1 from rfl, hs1, hnone]
  rw [hs2, hs1, State.jamReport]
  refine if_pos ?_
  have hbit : t.bit R.secSvcCfg F.secSvcCfg.AUTO_JAM = false := State.bit_eq_false hauto
  change (!(t.sec.loop && t.e0Runs && t.bit R.secSvcCfg F.secSvcCfg.AUTO_JAM)) = true
  rw [hbit, Bool.and_false]
  rfl

/-- A path that jams touches nothing else before and after a change that it does not look at. -/
theorem PlainPath.congr {s x : State} {l : List Nat} {k : Nat} (hp : PlainPath s k) (h : s.GaitOnly x l) (hstat : R.pathStat k ∉ l)
    (hlinks : R.pathLinks k ∉ l) (hcfg : R.secSvcCfg ∉ l) : PlainPath x k := by
  obtain ⟨h0, h7, htrks, hjobs, hauto, hroom⟩ := hp
  refine ⟨by rwa [State.pathState, h.fld hstat], by rwa [State.pathState, h.fld hstat], by rwa [h.fld hlinks], ?_, by rwa [h.fld hcfg], ?_⟩
  · rw [h.state]
    exact hjobs
  · rw [h.state]
    exact hroom

/-- The state at the end of a command that jams a path. -/
def State.jamQueued (s : State) (k cause chk : Nat) : State :=
  (s.jammed k cause chk).withAsync (s.asyncQ ++ [⟨5, k + cause * 256, (satInc (s.reg (R.pathJamCnt k))).toNat⟩])

/-- A command that jams a path ends with the event for the host queued. -/
theorem State.done_jam {s : State} {k : Fin 4} {cause chk : Nat} (hu : s.usual) (hp : PlainPath s k) (hc : cause < 16) :
    State.done (s.jam k cause chk) = .next (s.jamQueued k cause chk) := by
  obtain ⟨h0, h7, htrks, hjobs, hauto, hroom⟩ := hp
  have hk := k.isLt
  have hgait := s.jammed_gaitOnly k cause chk
  have hlist : inTransport (R.pathJamCnt k :: pathViews k) := inTransport_cons (by simp only [R.pathJamCnt]; omega) (inTransport_pathViews k)
  have hjobs' : (s.jammed k cause chk).hqe.jobs = s.hqe.jobs := by rw [hgait.state]; rfl
  have hasync : (s.jammed k cause chk).asyncQ = s.asyncQ := by rw [hgait.state]; rfl
  have hwork : (s.jammed k cause chk).work = [] := by rw [hgait.state]; exact hu.1.1
  have hcfg : R.secSvcCfg ∉ R.pathJamCnt k :: pathViews k := fun hm => absurd (hlist _ hm).2 (by decide)
  have husual : (s.jammed k cause chk).usual := by
    have hend := State.usual_fire (176 + k) hu
    exact State.usual_of hend (State.endsAlike_of (by rw [hgait.state])) hgait.reg
      (fun o ho hm => by have := hlist o hm; revert ho; simp only [List.mem_cons, List.not_mem_nil, or_false, R.engStat, R.hltStat, R.sysClkStat, R.sysBootStat]; omega)
  have hdo := State.doWork_jam (t := s.jammed k cause chk) (k := k) (by rw [hjobs']; exact hjobs) (by rw [hgait.fld hcfg]; exact hauto)
    (by rw [hasync]; exact hroom)
  rw [(s.jammed_shown k cause chk hc).2.1, s.reg_jammed_count, hasync] at hdo
  rw [s.jam_eq k cause chk h0 h7 htrks]
  exact State.done_withWorkTo hwork hdo (State.usual_withAsync _ husual)

/-- The state at the end is jammed as R247 says. -/
theorem State.jammed_jamQueued {s x : State} {l : List Nat} {k : Fin 4} {cause chk : Nat} (h : s.GaitOnly x l) (hcnt : R.pathJamCnt k ∉ l)
    (hpaths : ∀ j, x.pathSt j = s.pathSt j) (hc : cause < 16) : Jammed s (x.jamQueued k cause chk) k cause := by
  obtain ⟨hstate, hcause, hhold, htarget, hgaitFld⟩ := x.jammed_shown k cause chk hc
  have hcount := x.reg_jammed_count k cause chk
  have hgait := x.jammed_gaitOnly k cause chk
  have hpath : ∀ j, (x.jamQueued k cause chk).pathSt j = _ := fun j => (State.pathSt_withAsync _ _ j).trans (x.pathSt_jammed k cause chk j)
  rw [h.reg _ hcnt] at hcount
  have hframe : x.jamQueued k cause chk = { s.fire (176 + k) with
      regs := (x.jamQueued k cause chk).regs, gait := (x.jamQueued k cause chk).gait
      asyncQ := x.asyncQ ++ [⟨5, k + cause * 256, (satInc (x.reg (R.pathJamCnt k))).toNat⟩] } :=
    State.withAsync_eq _ _ (hgait.state.trans (by rw [h.state]; rfl))
  have hasync : x.asyncQ = s.asyncQ := by rw [h.state]
  rw [h.reg _ hcnt, hasync] at hframe
  have hfld : ∀ f, (x.jamQueued k cause chk).fld (R.pathStat k) f = (x.jammed k cause chk).fld (R.pathStat k) f := fun f => State.fld_withAsync _ _ _ f
  refine ⟨hframe, (hfld _).trans hstate, (hfld _).trans hcause, (hfld _).trans hhold, (hfld _).trans htarget, (hfld _).trans hgaitFld, ?_, ?_, ?_,
    (State.reg_withAsync _ _ _).trans hcount, fun j hj => ?_⟩
  · rw [hpath, if_pos rfl, ← hpaths]
  · rw [hpath, if_pos rfl]
  · rw [hpath, if_pos rfl]
  · rw [hpath, if_neg hj, hpaths]

/-- Beyond what R247 says, a jam leaves the registers. -/
theorem State.reg_jamQueued {s x : State} {l : List Nat} {k : Fin 4} {cause chk : Nat} (h : s.GaitOnly x l) {off : Nat}
    (ho : off ∉ R.pathJamCnt k :: pathViews k) (hl : off ∉ l) : (x.jamQueued k cause chk).reg off = s.reg off :=
  (State.reg_withAsync _ _ _).trans (((x.jammed_gaitOnly k cause chk).reg off ho).trans (h.reg off hl))

end Sys2Proof.Machine

/-!
Axes (R216-R219, R228): a write of Mn_CTL, a step, the ramp update and a driver fault.
-/
namespace Sys2Proof.Machine

theorem State.bit_eq_beq (s : State) (off : Nat) {f : Fld} (h : f.width = 1) : s.bit off f = (s.fld off f == 1) := by
  have hlt : s.fld off f < 2 := by
    have hlt : s.fld off f < 2 ^ f.width := BitVec.isLt _
    rwa [h] at hlt
  obtain hx | hx : s.fld off f = 0 ∨ s.fld off f = 1 := by omega
  all_goals rw [State.bit, hx]; rfl

/-! ## Sources of positions -/

/-- A source moves without a slip check where no path that follows it has one due. -/
theorem State.positionMoved_of_clear (s : State) (src : Nat)
    (h : ∀ k, k < 4 → s.fld (R.pathCfg k) F.pathCfg.PSRC = src → (s.pathSt k).slipDue = false) : s.positionMoved src = s := by
  refine List.foldlRecOn (motive := fun t : State => t = s) _ _ rfl fun t ht k hk => ?_
  subst ht
  dsimp only
  split
  next hsrc => exact if_neg (by rw [h k (List.mem_range.mp hk) hsrc]; exact Bool.false_ne_true)
  next => rfl

/-- A position of 64 bits moves by a count. -/
theorem unsigned_signed_move (v : Nat) (fwd : Bool) : unsigned 64 (if fwd = true then signed 64 v + 65536 else signed 64 v - 65536) =
    (v + (if fwd = true then 65536 else 2 ^ 64 - 65536)) % 2 ^ 64 := by
  simp only [unsigned, signed]
  cases fwd <;> simp only [if_true, if_false, Bool.false_eq_true] <;> split <;> omega

/-! ## The view of an axis -/

theorem State.refreshAxis_paths (s : State) (n : Nat) : (s.refreshAxis n).gait.paths = s.gait.paths := rfl
theorem State.refreshAxis_configured (s : State) (n : Nat) : (s.refreshAxis n).gait.configured = s.gait.configured := rfl
theorem State.refreshAxis_faulted (s : State) (n : Nat) : (s.refreshAxis n).gait.faulted = s.gait.faulted := rfl

/-- The driver of an axis stopped by a fault is disabled (R219). -/
theorem State.axisDriven_of_faulted {s : State} {n : Nat} (h : s.gait.faulted.testBit n = true) : s.axisDriven n = false := by
  rw [State.axisDriven, h, Bool.not_true, Bool.and_false, Bool.false_and]

/-- A transport command that also holds back values ends with its effect. -/
theorem State.Only.doneGait {s t : State} {l : List Nat} (h : s.Only Frame.gaitEff t l) (hu : s.usual) (hl : inTransport l) :
    State.done t = .next t :=
  h.done hu fun o ho hm => by
    have hin := hl o hm
    simp only [List.mem_cons, List.not_mem_nil, or_false, R.engStat, R.hltStat, R.sysClkStat, R.sysBootStat] at ho
    omega

/-! ## A write of Mn_CTL -/

section
variable {s : State} (n : Fin 4) (path : Path) (w : Word)

/-- An axis taken as configured (R218). -/
def State.axisMarked (s : State) (n : Nat) : State := { s with gait := { s.gait with configured := s.gait.configured ||| 2 ^ n } }

theorem State.reg_axisMarked (t : State) (n o : Nat) : (t.axisMarked n).reg o = t.reg o := rfl
theorem State.configured_axisMarked (t : State) (n : Nat) : (t.axisMarked n).gait.configured = t.gait.configured ||| 2 ^ n := rfl
theorem State.paths_axisMarked (t : State) (n : Nat) : (t.axisMarked n).gait.paths = t.gait.paths := rfl
theorem State.axisMarked_only (t : State) (n : Nat) (l : List Nat) : t.Only Frame.gaitEff (t.axisMarked n) l := ⟨rfl, fun _ _ => rfl⟩

/-- Mn_CTL as a write configures the axis. -/
def State.axisConfigured (s : State) (n : Nat) (path : Path) (w : Word) : State :=
  (s.writeRow path (R.axisCtl n) Row.axisCtl w false).axisMarked n

theorem State.axisConfigured_only : s.Only Frame.gaitEff (s.axisConfigured n path w) [R.axisCtl n] :=
  ((s.writeRow_sameBut path (R.axisCtl n) Row.axisCtl w).only fun _ _ _ => rfl).trans (State.axisMarked_only _ _ _)

theorem State.axisConfigured_gait : (s.axisConfigured n path w).gait.configured.testBit n = true ∧
    (s.axisConfigured n path w).gait.paths = s.gait.paths := by
  have hgait : (s.writeRow path (R.axisCtl n) Row.axisCtl w false).gait = s.gait := by
    rw [(s.writeRow_sameBut path (R.axisCtl n) Row.axisCtl w).1]
  rw [State.axisConfigured, State.configured_axisMarked, State.paths_axisMarked, hgait]
  exact ⟨by rw [Nat.testBit_or, Nat.testBit_two_pow_self, Bool.or_true], rfl⟩

theorem exec_axisCtlWrite (hu : s.usual) (hacc : s.accessible path (R.axisCtl n) = true) (hidle : s.axisIdle n = true) :
    ∃ t, exec (.axisCtlWrite path n w) s = .next t ∧ t = { s with regs := t.regs, eff := t.eff, gait := t.gait } ∧
      t.reg (R.axisCtl n) = Row.axisCtl.written (s.reg (R.axisCtl n)) w ∧ t.gait.configured.testBit n = true ∧
      t.gait.paths = s.gait.paths ∧ (∀ off, off ∉ [R.axisCtl n, R.axisStat n, R.axisRate n] → t.reg off = s.reg off) := by
  have hn := n.isLt
  have hdef : s.axisCtlWrite path n w = (s.axisConfigured n path w).refreshAxis n := by
    rw [State.axisCtlWrite, hidle]
    rfl
  have hconf := State.axisConfigured_only (s := s) n path w
  have hview := (s.axisConfigured n path w).refreshAxis_gaitOnly (l := [R.axisStat n, R.axisRate n]) n (by simp) (by simp)
  have hf := (hconf.mono (m := [R.axisCtl n, R.axisStat n, R.axisRate n]) (by simp)).trans (hview.onlyEff.mono (by simp))
  obtain ⟨hbit, hpaths⟩ := State.axisConfigured_gait (s := s) n path w
  have hreg : (s.axisConfigured n path w).reg (R.axisCtl n) = Row.axisCtl.written (s.reg (R.axisCtl n)) w :=
    (State.reg_axisMarked _ _ _).trans ((State.reg_writeRow _ _ _ _ _ _).trans (if_pos rfl))
  refine ⟨_, (congrArg State.done ((State.onWrite_of _ _ _ _ hacc).trans hdef)).trans (hf.doneGait hu ?_), hf.state, ?_, ?_, ?_, hf.reg⟩
  · intro o ho
    simp only [List.mem_cons, List.not_mem_nil, or_false, R.axisCtl, R.axisStat, R.axisRate] at ho
    omega
  · rw [hview.reg _ (by simp only [List.mem_cons, List.not_mem_nil, or_false, R.axisCtl, R.axisStat, R.axisRate]; omega), hreg]
  · rw [State.refreshAxis_configured, hbit]
  · rw [State.refreshAxis_paths, hpaths]

end

/-! ## A step -/

section
variable {s : State} (n : Fin 4)

theorem exec_axisStep_at_rest (hu : s.usual) (h : s.axisSpeed n = 0) : exec (.axisStep n) s = .next s := by
  have hid : s.axisStep n = s := if_pos (by rw [h]; rfl)
  exact (congrArg State.done hid).trans (State.done_of_usual hu)

theorem exec_axisStep (hu : s.usual) (hv : s.axisSpeed n ≠ 0) (hon : s.axisDriven n = true) (hpd : s.pdOn 131 = true)
    (hslip : ∀ k, k < 4 → s.fld (R.pathCfg k) F.pathCfg.PSRC = 2 + n → (s.pathSt k).slipDue = false) :
    ∃ t, exec (.axisStep n) s = .next t ∧ t = { s with regs := t.regs } ∧
      t.reg64 (R.axisPosLo n) (R.axisPosHi n) = (s.reg64 (R.axisPosLo n) (R.axisPosHi n) +
        (if s.gait.dirLevel.testBit n ≠ (s.fld (R.axisCtl n) F.axisCtl.DIR_INV == 1) then 65536 else 2 ^ 64 - 65536)) % 2 ^ 64 ∧
      (∀ off, off ∉ [R.axisPosLo n, R.axisPosHi n] → t.reg off = s.reg off) := by
  have hn := n.isLt
  let fwd : Bool := s.gait.dirLevel.testBit n != s.bit (R.axisCtl n) F.axisCtl.DIR_INV
  let v := unsigned 64 (if fwd = true then signed 64 (s.reg64 (R.axisPosLo n) (R.axisPosHi n)) + 65536
    else signed 64 (s.reg64 (R.axisPosLo n) (R.axisPosHi n)) - 65536)
  have hset : s.regsOnly (s.setReg64 (R.axisPosLo n) (R.axisPosHi n) v) [R.axisPosLo n, R.axisPosHi n] :=
    ((State.regsOnly.refl s _).setReg _ (by simp)).setReg _ (by simp)
  have hmoved : (s.setReg64 (R.axisPosLo n) (R.axisPosHi n) v).positionMoved (2 + n) = s.setReg64 (R.axisPosLo n) (R.axisPosHi n) v := by
    refine State.positionMoved_of_clear _ _ fun k hk hsrc => ?_
    rw [hset.fld (by simp only [List.mem_cons, List.not_mem_nil, or_false, R.axisPosLo, R.axisPosHi, R.pathCfg]; omega)] at hsrc
    exact hslip k hk hsrc
  have hstep : s.axisStep n = s.setReg64 (R.axisPosLo n) (R.axisPosHi n) v := by
    refine (if_neg ?_).trans hmoved
    rw [hon, hpd, Bool.not_true, Bool.or_false, Bool.or_false, decide_eq_true_eq]
    exact hv
  refine ⟨_, (congrArg State.done hstep).trans (State.done_of_regsOnly hu hset (endIgnores_of ?_)), hset.1, ?_, hset.2⟩
  · simp only [List.mem_cons, List.not_mem_nil, or_false, R.axisPosLo, R.axisPosHi]
    omega
  · rw [State.reg64_setReg64 _ _ _ _ (by simp only [R.axisPosLo, R.axisPosHi]; omega) (unsigned_lt _ _)]
    refine (unsigned_signed_move _ _).trans ?_
    simp only [fwd, bne_iff_ne, State.bit_eq_beq s (R.axisCtl n) (f := F.axisCtl.DIR_INV) rfl]

end

/-! ## The ramp update -/

section
variable {s : State} (n : Fin 4)

/-- The speed of a path after the 10 µs update. -/
def State.ramped (s : State) (k : Nat) : Nat :=
  rampStep (s.pathSt k).speed (s.pathSt k).target (s.fld (R.pathRamp k) F.pathRamp.ACC * 16 * 65536)
    (if (s.pathSt k).hard then s.fld (R.pathGuard k) F.pathGuard.JDEC * 16 * 65536 else s.fld (R.pathRamp k) F.pathRamp.DEC * 16 * 65536)

theorem State.rampUpdate_of_no_feed (k : Nat) (hst : s.pathState k ≠ 0) (hpd : s.pdOn 131 = true)
    (hfeed : s.fld (R.pathFeed k) F.pathFeed.MODE ≠ 2) : s.rampUpdate k =
      (s.setPathSt k { s.pathSt k with speed := s.ramped k, feedSpeed := 0 }).refreshPath k := by
  have hnone : s.feedAxis k = none := if_neg hfeed
  rw [State.rampUpdate]
  refine (if_neg ?_).trans ?_
  · rw [hpd, Bool.not_true, Bool.or_false, decide_eq_true_eq]
    exact hst
  · rw [hnone]
    rfl

theorem exec_rampUpdate (hu : s.usual) (hst : s.pathState n ≠ 0) (hpd : s.pdOn 131 = true)
    (hfeed : s.fld (R.pathFeed n) F.pathFeed.MODE ≠ 2) :
    let x := s.pathSt n
    let rate := if x.hard = true then s.fld (R.pathGuard n) F.pathGuard.JDEC else s.fld (R.pathRamp n) F.pathRamp.DEC
    ∃ t, exec (.rampUpdate n) s = .next t ∧ t = { s with regs := t.regs, gait := t.gait } ∧
      (x.speed < x.target → (t.pathSt n).speed = min x.target (x.speed + s.fld (R.pathRamp n) F.pathRamp.ACC * 1048576)) ∧
      (x.target ≤ x.speed → (t.pathSt n).speed = max x.target (x.speed - rate * 1048576)) ∧
      t.pathSt n = { x with speed := (t.pathSt n).speed, feedSpeed := 0 } ∧ (∀ k, k ≠ n.val → t.pathSt k = s.pathSt k) ∧
      (∀ off, off ∉ pathViews n → t.reg off = s.reg off) := by
  intro x rate
  have hf : s.GaitOnly ((s.setPathSt n { x with speed := s.ramped n, feedSpeed := 0 }).refreshPath n) (pathViews n) :=
    (State.GaitOnly.setPathSt s n _).trans (State.refreshPath_gaitOnly_pathViews _ n)
  have hpath : ((s.setPathSt n { x with speed := s.ramped n, feedSpeed := 0 }).refreshPath n).pathSt n =
      { x with speed := s.ramped n, feedSpeed := 0 } := by rw [State.pathSt_refreshPath, State.pathSt_setPathSt_same]
  refine ⟨_, (congrArg State.done (State.rampUpdate_of_no_feed (s := s) n hst hpd hfeed)).trans
    (State.done_of_gaitOnly hu hf (inTransport_pathViews n)), hf.state, fun hlt => ?_, fun hle => ?_, ?_, fun k hk => ?_, hf.reg⟩
  · rw [hpath]
    exact (if_pos hlt).trans (by rw [Nat.mul_assoc])
  · rw [hpath]
    refine (if_neg (Nat.not_lt.mpr hle)).trans ?_
    rw [show rate = if x.hard = true then _ else _ from rfl]
    split <;> rw [Nat.mul_assoc]
  · rw [hpath]
  · rw [State.pathSt_refreshPath, State.pathSt_setPathSt, if_neg hk]

end

/-! ## A driver fault -/

section
variable {s : State} (n : Fin 4)

theorem inTransport_axis (hl : ∀ o ∈ l, o = R.axisStat n ∨ o = R.axisRate n) : inTransport l := fun o ho => by
  have hn := n.isLt
  have h := hl o ho
  simp only [R.axisStat, R.axisRate] at h
  omega

/-- The level on Mn_FAULT_N shows, and nothing stops. -/
theorem exec_driverFault_shown (hu : s.usual) (low : Bool) (h : (low && s.bit (R.axisCtl n) F.axisCtl.FAULT_EN) = false) :
    ∃ t, exec (.driverFault n low) s = .next t ∧ s.sameBut t [R.axisStat n] ∧ t.fld (R.axisStat n) F.axisStat.FAULT_IN = if low then 0 else 1 := by
  have hn := n.isLt
  have hset : s.regsOnly (s.setFld (R.axisStat n) F.axisStat.FAULT_IN (if low then 0 else 1)) [R.axisStat n] :=
    (State.regsOnly.refl s _).setFld _ _ (by simp)
  have hctl : (s.setFld (R.axisStat n) F.axisStat.FAULT_IN (if low then 0 else 1)).bit (R.axisCtl n) F.axisCtl.FAULT_EN =
      s.bit (R.axisCtl n) F.axisCtl.FAULT_EN :=
    congrArg (· != 0) (hset.fld (by simp only [List.mem_singleton, R.axisCtl, R.axisStat]; omega) F.axisCtl.FAULT_EN)
  have hfault : s.driverFault n low = s.setFld (R.axisStat n) F.axisStat.FAULT_IN (if low then 0 else 1) := by
    rw [State.driverFault]
    exact if_pos (by rw [h]; rfl)
  refine ⟨_, (congrArg State.done hfault).trans (State.done_of_regsOnly hu hset (endIgnores_of ?_)), hset.sameBut, ?_⟩
  · simp only [List.mem_singleton, R.axisStat]
    omega
  · rw [State.fld_setFld _ _ _ _ (by decide)]
    cases low <;> rfl

/-- An axis stopped by a fault of its driver. -/
def State.axisFaulted (s : State) (n : Nat) : State :=
  let t := s.setFld (R.axisStat n) F.axisStat.FAULT_IN 0
  (({ t with gait := { t.gait with faulted := t.gait.faulted ||| 2 ^ n } } : State).setFld (R.axisStat n) F.axisStat.FAULT 1).refreshAxis n

theorem State.axisFaulted_gaitOnly (n : Nat) : s.GaitOnly (s.axisFaulted n) [R.axisStat n, R.axisRate n] :=
  (((GaitOnly.setFld s _ _ (by simp)).trans (.setGait _ _)).trans (.setFld _ _ _ (by simp))).trans (State.refreshAxis_gaitOnly _ n (by simp) (by simp))

theorem State.axisFaulted_spec (n : Nat) : (s.axisFaulted n).gait.faulted.testBit n = true ∧
    (s.axisFaulted n).fld (R.axisStat n) F.axisStat.FAULT = 1 ∧ (s.axisFaulted n).gait.paths = s.gait.paths := by
  refine ⟨?_, ?_, rfl⟩
  · rw [State.axisFaulted]
    exact (Nat.testBit_or _ _ _).trans (by rw [Nat.testBit_two_pow_self, Bool.or_true])
  · rw [State.axisFaulted, State.fld_refreshAxis_above _ _ _ (by decide) (by decide), State.fld_setFld _ _ _ _ (by decide)]
    rfl

theorem State.driverFault_enabled (h : s.fld (R.axisCtl n) F.axisCtl.FAULT_EN = 1) :
    s.driverFault n true = (s.axisPaths n).foldl (fun t k => t.jam k 5 0) (s.axisFaulted n) := by
  rw [State.driverFault]
  exact if_neg (by rw [State.bit_eq_true h]; decide)

theorem exec_driverFault_unused (hu : s.usual) (hen : s.fld (R.axisCtl n) F.axisCtl.FAULT_EN = 1) (hpaths : s.axisPaths n = []) :
    ∃ t, exec (.driverFault n true) s = .next t ∧ t = { s with regs := t.regs, gait := t.gait } ∧
      t.fld (R.axisStat n) F.axisStat.FAULT = 1 ∧ t.axisDriven n = false ∧ t.gait.paths = s.gait.paths ∧
      (∀ off, off ∉ [R.axisStat n, R.axisRate n] → t.reg off = s.reg off) := by
  have hf := State.axisFaulted_gaitOnly (s := s) n
  obtain ⟨hbit, hfault, hsame⟩ := State.axisFaulted_spec (s := s) n
  have hexec : s.driverFault n true = s.axisFaulted n := (State.driverFault_enabled n hen).trans (by rw [hpaths]; rfl)
  exact ⟨_, (congrArg State.done hexec).trans (State.done_of_gaitOnly hu hf (inTransport_axis n (by simp))), hf.state, hfault,
    State.axisDriven_of_faulted hbit, hsame, hf.reg⟩

theorem exec_driverFault_used (hu : s.usual) (hen : s.fld (R.axisCtl n) F.axisCtl.FAULT_EN = 1) {k : Nat} (hpaths : s.axisPaths n = [k])
    (hp : PlainPath s k) :
    ∃ t, exec (.driverFault n true) s = .next t ∧ Jammed s t k 5 ∧ t.axisDriven n = false ∧
      t.fld (R.axisStat n) F.axisStat.FAULT = 1 ∧ (∀ off, off ∉ R.pathJamCnt k :: pathViews k → t.reg off = s.reg off) := by
  have hn := n.isLt
  have hk : k < 4 := by
    have hmem : k ∈ s.axisPaths n := by rw [hpaths]; exact List.mem_singleton_self k
    exact List.mem_range.mp (List.mem_filter.mp hmem).1
  have hf := State.axisFaulted_gaitOnly (s := s) n
  obtain ⟨hbit, hfault, hsame⟩ := State.axisFaulted_spec (s := s) n
  have hexec : s.driverFault n true = (s.axisFaulted n).jam (⟨k, hk⟩ : Fin 4) 5 0 := (State.driverFault_enabled n hen).trans (by rw [hpaths]; rfl)
  have husual : (s.axisFaulted n).usual := State.usual_of hu (State.endsAlike_of (by rw [hf.state])) hf.reg (endIgnores_of fun o ho => by
    simp only [List.mem_cons, List.not_mem_nil, or_false, R.axisStat, R.axisRate] at ho
    omega)
  have hplain : PlainPath (s.axisFaulted n) (⟨k, hk⟩ : Fin 4) := PlainPath.congr hp hf
    (by simp only [List.mem_cons, List.not_mem_nil, or_false, R.axisStat, R.axisRate, R.pathStat]; omega)
    (by simp only [List.mem_cons, List.not_mem_nil, or_false, R.axisStat, R.axisRate, R.pathLinks]; omega)
    (by simp only [List.mem_cons, List.not_mem_nil, or_false, R.axisStat, R.axisRate, R.secSvcCfg]; omega)
  refine ⟨_, (congrArg State.done hexec).trans (State.done_jam husual hplain (by decide)),
    State.jammed_jamQueued (k := ⟨k, hk⟩) hf (by simp only [List.mem_cons, List.not_mem_nil, or_false, R.axisStat, R.axisRate, R.pathJamCnt]; omega)
      (fun j => by rw [State.pathSt, hsame, State.pathSt]) (by decide), State.axisDriven_of_faulted ?_, ?_, fun off ho => ?_⟩
  · rw [State.jamQueued, State.gait_withAsync, State.faulted_jammed, hbit]
  · rw [State.jamQueued, State.fld_withAsync, State.fld_jammed_axisStat _ _ _ _ _ (by decide) (by decide), hfault]
  · refine State.reg_jamQueued (k := ⟨k, hk⟩) hf ho fun hmem => ho ?_
    have haxis : ∀ m : Fin 4, R.axisStat m ∈ axisViews ∧ R.axisRate m ∈ axisViews := by decide
    simp only [List.mem_cons, List.not_mem_nil, or_false] at hmem
    refine List.mem_cons_of_mem _ (axisViews_subset_pathViews k ?_)
    obtain rfl | rfl := hmem
    · exact (haxis n).1
    · exact (haxis n).2

end

/-- Settles O29: each command on an axis as its lemma above says. -/
theorem axesStepAndRamp : Obligations.AxesStepAndRamp := by
  intro s n hu
  refine ⟨fun path w hacc hidle => exec_axisCtlWrite n path w hu hacc hidle, exec_axisStep_at_rest n hu, exec_axisStep n hu,
    exec_rampUpdate n hu, exec_driverFault_shown n hu false rfl, fun hen => exec_driverFault_shown n hu true ?_, fun hen => ⟨?_, ?_⟩⟩
  · rw [State.bit_eq_false hen]
    rfl
  · exact exec_driverFault_unused n hu hen
  · exact fun k hpaths hp => exec_driverFault_used n hu hen hpaths hp

end Sys2Proof.Machine

/-!
Encoders (R220, R221, R223): the enable, quadrature edges, the index and the stall timer.
-/
namespace Sys2Proof.Machine

/-- The frame of an encoder's levels. -/
def Frame.encs : Frame :=
  ⟨fun s t => { s with regs := t.regs, gait := { s.gait with encs := t.gait.encs } }, fun _ => rfl, fun _ _ _ => rfl, fun _ _ _ => rfl,
    fun _ _ _ => rfl, fun _ _ => State.endsAlike_of rfl⟩

/-- The frame of an encoder's levels and of what is held back. -/
def Frame.encsEff : Frame :=
  ⟨fun s t => { s with regs := t.regs, eff := t.eff, gait := { s.gait with encs := t.gait.encs } }, fun _ => rfl, fun _ _ _ => rfl,
    fun _ _ _ => rfl, fun _ _ _ => rfl, fun _ _ => State.endsAlike_of rfl⟩

theorem State.setEnc_only (s : State) (e : Nat) (x : Enc) (l : List Nat) : s.Only Frame.encs (s.setEnc e x) l := ⟨rfl, fun _ _ => rfl⟩

theorem State.setEnc_onlyEff (s : State) (e : Nat) (x : Enc) (l : List Nat) : s.Only Frame.encsEff (s.setEnc e x) l := ⟨rfl, fun _ _ => rfl⟩

/-- Registers of an encoder, which the end of a command does not look at. -/
theorem endIgnores_encoder {l : List Nat} (h : ∀ o ∈ l, 0x18180 ≤ o ∧ o < 0x181E0) : endIgnores l := endIgnores_of fun o ho => by
  have := h o ho
  omega

/-! ## The enable -/

section
variable {s : State} (e : Fin 2)

theorem exec_encoderEnable (path : Path) (w : Word) (a b : Bool) (hu : s.usual) (hacc : s.accessible path (R.encCfg e) = true)
    (hidle : s.encIdle e = true) (hoff : s.fld (R.encCfg e) F.encCfg.EN = 0) :
    ∃ t, exec (.encoderEnable path e w a b) s = .next t ∧ t = { s with regs := t.regs, eff := t.eff, gait := { s.gait with encs := t.gait.encs } } ∧
      t.fld (R.encCfg e) F.encCfg.EN = 1 ∧ t.fld (R.encCfg e) F.encCfg.FILT = F.encCfg.FILT.get w ∧ t.enc e = { a := a, b := b } ∧
      (∀ f, f ≠ e.val → t.enc f = s.enc f) ∧ (∀ off, off ≠ R.encCfg e → t.reg off = s.reg off) := by
  have he := e.isLt
  have hasked : s.Only Frame.encsEff (s.cfgAsked path (R.encCfg e) Row.encCfg w) [R.encCfg e] :=
    (s.writeRow_sameBut _ _ _ _).only fun _ _ _ => rfl
  have hen := s.fld_cfgAsked_en path (R.encCfg e) Row.encCfg w (by decide)
  have hfilt := s.fld_cfgAsked path (R.encCfg e) Row.encCfg w (f := F.encCfg.FILT) (by decide) (by decide) (by decide)
  have hgait : (s.cfgAsked path (R.encCfg e) Row.encCfg w).gait = s.gait := by
    rw [State.cfgAsked, (s.writeRow_sameBut path (R.encCfg e) Row.encCfg (enFld.put w 1)).1]
  have hdef : s.encCfgWrite path e (F.encCfg.EN.put w 1) a b = (s.cfgAsked path (R.encCfg e) Row.encCfg w).setEnc e { a := a, b := b } := by
    rw [State.encCfgWrite, hidle]
    refine if_pos ?_
    have hnow : (s.cfgAsked path (R.encCfg e) Row.encCfg w).bit (R.encCfg e) F.encCfg.EN = true := State.bit_eq_true hen
    change (!(s.bit (R.encCfg e) F.encCfg.EN) && (s.cfgAsked path (R.encCfg e) Row.encCfg w).bit (R.encCfg e) F.encCfg.EN) = true
    rw [State.bit_eq_false hoff, hnow]
    rfl
  generalize s.cfgAsked path (R.encCfg e) Row.encCfg w = x at hasked hen hfilt hgait hdef
  have hf : s.Only Frame.encsEff (x.setEnc e { a := a, b := b }) [R.encCfg e] := hasked.trans (x.setEnc_onlyEff e _ _)
  have henc : ∀ f, (x.setEnc e { a := a, b := b }).enc f = if f = e.val then { a := a, b := b } else x.enc f := fun f => State.enc_setEnc _ _ _ _
  refine ⟨_, (congrArg State.done ((State.onWrite_of _ _ _ _ hacc).trans hdef)).trans (hf.done hu (endIgnores_encoder ?_)), hf.state, hen, hfilt,
    (henc _).trans (if_pos rfl), fun f hne => ((henc f).trans (if_neg hne)).trans ?_, fun off ho => hf.reg off (by simpa using ho)⟩
  · simp only [List.mem_singleton, R.encCfg]
    omega
  · rw [State.enc, hgait, State.enc]

end

/-! ## Quadrature edges -/

/-- The sequence 00, 10, 11, 01 of A and B (R220). -/
def forwardEdge (p q : Bool × Bool) : Bool := [((false, false), (true, false)), ((true, false), (true, true)), ((true, true), (false, true)),
  ((false, true), (false, false))].contains (p, q)

theorem forwardEdge_iff (a b c d : Bool) : forwardEdge (a, b) (c, d) = (quadPlace c d == (quadPlace a b + 1) % 4) := by
  revert a b c d
  decide

/-- A forward or backward edge changes one of the two levels. -/
theorem forwardEdge_changes (a b c d : Bool) (h : forwardEdge (a, b) (c, d) = true ∨ forwardEdge (c, d) (a, b) = true) :
    (a == c && b == d) = false ∧ (a != c && b != d) = false := by
  revert a b c d
  decide

section
variable {s : State} (e : Fin 2) (a b : Bool) (hu : s.usual) (hen : s.fld (R.encCfg e) F.encCfg.EN = 1) (hpd : s.pdOn 131 = true)
include hu hen hpd

theorem exec_encoderEdge_none (h : (((s.enc e).a, (s.enc e).b) : Bool × Bool) = (a, b)) : exec (.encoderEdge e a b) s = .next s := by
  obtain ⟨ha, hb⟩ := Prod.mk.injEq .. ▸ h
  have hid : s.encoderEdge e a b = s := by
    rw [State.encoderEdge]
    refine (if_neg ?_).trans (if_pos ?_)
    · rw [State.bit_eq_true hen, hpd]
      decide
    · rw [ha, hb, beq_self_eq_true, beq_self_eq_true]
      rfl
  exact (congrArg State.done hid).trans (State.done_of_usual hu)

theorem exec_encoderEdge_step
    (hslip : ∀ k, k < 4 → s.fld (R.pathCfg k) F.pathCfg.PSRC = e → (s.pathSt k).slipDue = false)
    (h : forwardEdge ((s.enc e).a, (s.enc e).b) (a, b) = true ∨ forwardEdge (a, b) ((s.enc e).a, (s.enc e).b) = true) :
    ∃ t, exec (.encoderEdge e a b) s = .next t ∧ t = { s with regs := t.regs, gait := { s.gait with encs := t.gait.encs } } ∧
      t.enc e = { a := a, b := b } ∧
      t.reg64 (R.encPosLo e) (R.encPosHi e) = (s.reg64 (R.encPosLo e) (R.encPosHi e) +
        (if forwardEdge ((s.enc e).a, (s.enc e).b) (a, b) ≠ (s.fld (R.encCfg e) F.encCfg.INV == 1) then 65536 else 2 ^ 64 - 65536)) % 2 ^ 64 ∧
      (∀ off, off ∉ [R.encPosLo e, R.encPosHi e] → t.reg off = s.reg off) := by
  have he := e.isLt
  obtain ⟨hchange, hone⟩ := forwardEdge_changes _ _ _ _ h
  let up : Bool := (quadPlace a b == (quadPlace (s.enc e).a (s.enc e).b + 1) % 4) != s.bit (R.encCfg e) F.encCfg.INV
  let v := unsigned 64 (if up = true then signed 64 (s.reg64 (R.encPosLo e) (R.encPosHi e)) + 65536
    else signed 64 (s.reg64 (R.encPosLo e) (R.encPosHi e)) - 65536)
  have hset : s.Only Frame.encs ((s.setEnc e { a := a, b := b }).setReg64 (R.encPosLo e) (R.encPosHi e) v) [R.encPosLo e, R.encPosHi e] :=
    ((s.setEnc_only e _ _).setReg _ (by simp)).setReg _ (by simp)
  have hmoved : ((s.setEnc e { a := a, b := b }).setReg64 (R.encPosLo e) (R.encPosHi e) v).positionMoved e =
      (s.setEnc e { a := a, b := b }).setReg64 (R.encPosLo e) (R.encPosHi e) v := by
    refine State.positionMoved_of_clear _ _ fun k hk hsrc => ?_
    rw [hset.fld (by simp only [List.mem_cons, List.not_mem_nil, or_false, R.encPosLo, R.encPosHi, R.pathCfg]; omega)] at hsrc
    exact hslip k hk hsrc
  have hstep : s.encoderEdge e a b = (s.setEnc e { a := a, b := b }).setReg64 (R.encPosLo e) (R.encPosHi e) v := by
    rw [State.encoderEdge]
    refine ((if_neg ?_).trans ((if_neg ?_).trans (if_neg ?_))).trans hmoved
    · rw [State.bit_eq_true hen, hpd]
      decide
    · rw [hchange]
      exact Bool.false_ne_true
    · rw [hone]
      exact Bool.false_ne_true
  refine ⟨_, (congrArg State.done hstep).trans (hset.done hu (endIgnores_encoder ?_)), hset.state, (State.enc_setEnc _ _ _ _).trans (if_pos rfl), ?_, hset.reg⟩
  · simp only [List.mem_cons, List.not_mem_nil, or_false, R.encPosLo, R.encPosHi]
    omega
  · rw [State.reg64_setReg64 _ _ _ _ (by simp only [R.encPosLo, R.encPosHi]; omega) (unsigned_lt _ _)]
    refine (unsigned_signed_move _ _).trans ?_
    simp only [up, forwardEdge_iff, bne_iff_ne, State.bit_eq_beq s (R.encCfg e) (f := F.encCfg.INV) rfl]

theorem exec_encoderEdge_error (h : (s.enc e).a ≠ a ∧ (s.enc e).b ≠ b) :
    ∃ t, exec (.encoderEdge e a b) s = .next t ∧ t = { s with regs := t.regs, gait := { s.gait with encs := t.gait.encs } } ∧
      t.enc e = { a := a, b := b } ∧ t.reg (R.encErrCnt e) = satInc (s.reg (R.encErrCnt e)) ∧
      t.fld (R.encStat e) F.encStat.ERR = 1 ∧ (∀ off, off ∉ [R.encErrCnt e, R.encStat e] → t.reg off = s.reg off) := by
  have he := e.isLt
  obtain ⟨ha, hb⟩ := h
  have hne : R.encErrCnt e ≠ R.encStat e := by simp only [R.encErrCnt, R.encStat]; omega
  have hset : s.Only Frame.encs (((s.setEnc e { a := a, b := b }).count (R.encErrCnt e)).setFld (R.encStat e) F.encStat.ERR 1)
      [R.encErrCnt e, R.encStat e] := ((s.setEnc_only e _ _).count (by simp)).setFld _ _ (by simp)
  have hstep : s.encoderEdge e a b = ((s.setEnc e { a := a, b := b }).count (R.encErrCnt e)).setFld (R.encStat e) F.encStat.ERR 1 := by
    rw [State.encoderEdge]
    refine (if_neg ?_).trans ((if_neg ?_).trans (if_pos ?_))
    · rw [State.bit_eq_true hen, hpd]
      decide
    · rw [beq_false_of_ne ha]
      exact Bool.false_ne_true
    · rw [bne_iff_ne.mpr ha, bne_iff_ne.mpr hb]
      rfl
  refine ⟨_, (congrArg State.done hstep).trans (hset.done hu (endIgnores_encoder ?_)), hset.state, (State.enc_setEnc _ _ _ _).trans (if_pos rfl), ?_, ?_, hset.reg⟩
  · simp only [List.mem_cons, List.not_mem_nil, or_false, R.encErrCnt, R.encStat]
    omega
  · exact (State.reg_setFld_ne _ _ _ _ _ hne).trans (State.reg_setReg_same _ _ _)
  · rw [State.fld_setFld _ _ _ _ (by decide)]
    rfl

end

/-! ## The index -/

/-- A value of 64 bits copied from two registers to two others. -/
theorem State.reg_copy64 (s : State) {lo hi : Nat} (a b : Nat) (h : lo ≠ hi) :
    (s.setReg64 lo hi (s.reg64 a b)).reg lo = s.reg a ∧ (s.setReg64 lo hi (s.reg64 a b)).reg hi = s.reg b := by
  have ha := BitVec.isLt (s.reg a)
  have hb := BitVec.isLt (s.reg b)
  rw [State.reg_setReg64 _ _ _ _ _ h, State.reg_setReg64 _ _ _ _ _ h, if_pos rfl, if_neg h.symm, if_pos rfl, State.reg64]
  constructor
  · refine BitVec.eq_of_toNat_eq ?_
    rw [BitVec.toNat_ofNat]
    omega
  · refine BitVec.eq_of_toNat_eq ?_
    rw [BitVec.toNat_ofNat, Nat.shiftRight_eq_div_pow]
    omega

section
variable {s : State} (e : Fin 2)

theorem exec_encoderIndex (hu : s.usual) (hen : s.fld (R.encCfg e) F.encCfg.EN = 1) (hz : s.fld (R.encCfg e) F.encCfg.Z_EN = 1)
    (hpd : s.pdOn 131 = true) :
    ∃ t, exec (.encoderIndex e) s = .next t ∧ t = { s with regs := t.regs } ∧ t.reg (R.encZposLo e) = s.reg (R.encPosLo e) ∧
      t.reg (R.encZposHi e) = s.reg (R.encPosHi e) ∧ t.fld (R.encStat e) F.encStat.ZSEEN = 1 ∧
      (∀ off, off ∉ [R.encZposLo e, R.encZposHi e, R.encStat e] → t.reg off = s.reg off) := by
  have he := e.isLt
  let v := s.reg64 (R.encPosLo e) (R.encPosHi e)
  have hset : s.regsOnly ((s.setReg64 (R.encZposLo e) (R.encZposHi e) v).setFld (R.encStat e) F.encStat.ZSEEN 1)
      [R.encZposLo e, R.encZposHi e, R.encStat e] :=
    (((State.regsOnly.refl s _).setReg _ (by simp)).setReg _ (by simp)).setFld _ _ (by simp)
  have hindex : s.encoderIndex e = (s.setReg64 (R.encZposLo e) (R.encZposHi e) v).setFld (R.encStat e) F.encStat.ZSEEN 1 :=
    if_pos (by rw [State.bit_eq_true hen, State.bit_eq_true hz, hpd]; rfl)
  obtain ⟨hlo, hhi⟩ := s.reg_copy64 (lo := R.encZposLo e) (hi := R.encZposHi e) (R.encPosLo e) (R.encPosHi e)
    (by simp only [R.encZposLo, R.encZposHi]; omega)
  refine ⟨_, (congrArg State.done hindex).trans (State.done_of_regsOnly hu hset (endIgnores_encoder ?_)), hset.1, ?_, ?_, ?_, hset.2⟩
  · simp only [List.mem_cons, List.not_mem_nil, or_false, R.encZposLo, R.encZposHi, R.encStat]
    omega
  · rw [State.reg_setFld_ne _ _ _ _ _ (by simp only [R.encZposLo, R.encStat]; omega), hlo]
  · rw [State.reg_setFld_ne _ _ _ _ _ (by simp only [R.encZposHi, R.encStat]; omega), hhi]
  · rw [State.fld_setFld _ _ _ _ (by decide)]
    rfl

end

/-! ## The stall timer -/

section
variable {s : State} (e : Fin 2)

theorem exec_encoderStall_at_rest (hu : s.usual)
    (h : ∀ k, k < 4 → s.pathOn k = true → s.fld (R.pathCfg k) F.pathCfg.PSRC = e → (s.pathSt k).speed = 0) :
    exec (.encoderStall e) s = .next s := by
  have hnone : (List.range 4).filter (fun k => s.pathOn k && s.pcfg k F.pathCfg.PSRC == e && (s.pathSt k).speed != 0 &&
      s.fld (R.pathGuard k) F.pathGuard.STALL_US != 0) = [] := by
    refine List.filter_eq_nil_iff.mpr fun k hk hall => ?_
    simp only [Bool.and_eq_true, beq_iff_eq, bne_iff_ne] at hall
    obtain ⟨⟨⟨hon, hsrc⟩, hspeed⟩, -⟩ := hall
    exact hspeed (h k (List.mem_range.mp hk) hon hsrc)
  have hid : s.encoderStall e = s := by rw [State.encoderStall, hnone]
  exact (congrArg State.done hid).trans (State.done_of_usual hu)

theorem exec_encoderStall (hu : s.usual) {k : Nat} (hk : k < 4) (hon : s.pathOn k = true) (hsrc : s.fld (R.pathCfg k) F.pathCfg.PSRC = e)
    (hspeed : (s.pathSt k).speed ≠ 0) (hguard : s.fld (R.pathGuard k) F.pathGuard.STALL_US ≠ 0)
    (honly : ∀ j, j < 4 → j ≠ k → s.pathOn j = false) (hp : PlainPath s k) :
    ∃ t, exec (.encoderStall e) s = .next t ∧ Jammed s t k 4 ∧ t.fld (R.encStat e) F.encStat.STALL = 1 ∧
      (∀ off, off ∉ R.pathJamCnt k :: R.encStat e :: pathViews k → t.reg off = s.reg off) := by
  have he := e.isLt
  have hfilter : (List.range 4).filter (fun j => s.pathOn j && s.pcfg j F.pathCfg.PSRC == e && (s.pathSt j).speed != 0 &&
      s.fld (R.pathGuard j) F.pathGuard.STALL_US != 0) = (List.range 4).filter (fun j => j == k) := by
    refine List.filter_congr fun j hj => ?_
    by_cases hjk : j = k
    · subst hjk
      rw [hon, State.pcfg, hsrc, beq_self_eq_true, bne_iff_ne.mpr hspeed, bne_iff_ne.mpr hguard]
      simp
    · rw [honly j (List.mem_range.mp hj) hjk, beq_false_of_ne hjk]
      rfl
  have hone : ∀ k : Fin 4, (List.range 4).filter (fun j => j == k.val) = [k.val] := by decide
  have hf : s.GaitOnly (s.setFld (R.encStat e) F.encStat.STALL 1) [R.encStat e] := .setFld s _ _ (by simp)
  have hstall : s.encoderStall e = (s.setFld (R.encStat e) F.encStat.STALL 1).jam (⟨k, hk⟩ : Fin 4) 4 0 := by
    rw [State.encoderStall, hfilter, hone ⟨k, hk⟩]
    rfl
  have husual : (s.setFld (R.encStat e) F.encStat.STALL 1).usual := State.usual_of hu (State.endsAlike_of (by rw [hf.state])) hf.reg
    (endIgnores_encoder (by simp only [List.mem_singleton, R.encStat]; omega))
  have hplain : PlainPath (s.setFld (R.encStat e) F.encStat.STALL 1) (⟨k, hk⟩ : Fin 4) := PlainPath.congr hp hf
    (by simp only [List.mem_singleton, R.encStat, R.pathStat]; omega) (by simp only [List.mem_singleton, R.encStat, R.pathLinks]; omega)
    (by simp only [List.mem_singleton, R.encStat, R.secSvcCfg]; omega)
  have hout : R.encStat e ∉ R.pathJamCnt k :: pathViews k := List.not_mem_cons_of_ne_of_not_mem
    (by simp only [R.encStat, R.pathJamCnt]; omega) (not_mem_pathViews (by simp only [R.encStat]; omega) (by simp only [R.encStat, R.pathStat]; omega))
  refine ⟨_, (congrArg State.done hstall).trans (State.done_jam husual hplain (by decide)),
    State.jammed_jamQueued (k := ⟨k, hk⟩) hf (by simp only [List.mem_singleton, R.encStat, R.pathJamCnt]; omega) (fun j => rfl) (by decide), ?_,
    fun off ho => State.reg_jamQueued (k := ⟨k, hk⟩) hf (fun hm => ho ?_) (fun hm => ho ?_)⟩
  · rw [State.jamQueued, State.fld_withAsync, (State.jammed_gaitOnly _ k 4 0).fld hout, State.fld_fire, State.fld_setFld _ _ _ _ (by decide)]
    rfl
  · obtain rfl | hm := List.mem_cons.mp hm
    · exact List.mem_cons_self
    · exact List.mem_cons_of_mem _ (List.mem_cons_of_mem _ hm)
  · rw [List.mem_singleton.mp hm]
    simp

end

/-- Settles O30: each command on an encoder as its lemma above says. -/
theorem encodersTrackPosition : Obligations.EncodersTrackPosition := by
  intro s e hu
  refine ⟨fun path w a b hacc hidle hoff => exec_encoderEnable e path w a b hu hacc hidle hoff,
    fun a b hen hpd hslip => ⟨exec_encoderEdge_none e a b hu hen hpd, exec_encoderEdge_step e a b hu hen hpd hslip, exec_encoderEdge_error e a b hu hen hpd⟩,
    exec_encoderIndex e hu, exec_encoderStall_at_rest e hu, fun k hk hon hsrc hspeed hguard honly hp =>
      exec_encoderStall e hu hk hon hsrc hspeed hguard honly hp⟩

end Sys2Proof.Machine

/-!
Path sensors and the jam limits of checkpoints (R224, R245, R246).
-/
namespace Sys2Proof.Machine

/-- The frame of the sensors' levels and of the events. -/
def Frame.sensors : Frame :=
  ⟨fun s t => { s with regs := t.regs, gait := { s.gait with psLevel := t.gait.psLevel }, pulses := t.pulses }, fun _ => rfl,
    fun _ _ _ => rfl, fun _ _ _ => rfl, fun _ _ _ => rfl, fun _ _ => State.endsAlike_of rfl⟩

/-- The frame of transport and of the events. -/
def Frame.gaitPulses : Frame :=
  ⟨fun s t => { s with regs := t.regs, gait := t.gait, pulses := t.pulses }, fun _ => rfl, fun _ _ _ => rfl, fun _ _ _ => rfl,
    fun _ _ _ => rfl, fun _ _ => State.endsAlike_of rfl⟩

theorem State.GaitOnly.onlyPulses {s t : State} {l : List Nat} (h : s.GaitOnly t l) : s.Only Frame.gaitPulses t l :=
  ⟨h.state.trans (congrArg (fun p => ({ s with regs := t.regs, gait := t.gait, pulses := p } : State)) (by rw [h.state])), h.reg⟩

/-! ## Masks of levels -/

/-- A set bit is taken out of a mask. -/
theorem testBit_sub_two_pow {x n : Nat} (h : x.testBit n = true) (m : Nat) : (x - 2 ^ n).testBit m = if m = n then false else x.testBit m := by
  obtain ⟨r, hr⟩ : ∃ r, x / 2 ^ n = 2 * r + 1 := ⟨x / 2 ^ n / 2, by
    have hodd : x / 2 ^ n % 2 = 1 := by simpa [Nat.testBit_eq_decide_div_mod_eq] using h
    omega⟩
  have hx : x = 2 ^ n * (2 * r + 1) + x % 2 ^ n := by rw [← hr, Nat.div_add_mod]
  have hsub : x - 2 ^ n = 2 ^ n * (2 * r) + x % 2 ^ n := by
    rw [Nat.mul_add, Nat.mul_one] at hx
    omega
  have hlt : x % 2 ^ n < 2 ^ n := Nat.mod_lt _ (Nat.two_pow_pos n)
  rw [hsub, Nat.testBit_two_pow_mul_add _ hlt]
  conv_rhs => rw [hx, Nat.testBit_two_pow_mul_add _ hlt]
  by_cases hm : m < n
  · rw [if_pos hm, if_pos hm, if_neg (Nat.ne_of_lt hm)]
  · obtain ⟨d, rfl⟩ := Nat.exists_eq_add_of_le (Nat.not_lt.mp hm)
    rw [if_neg hm, if_neg hm, Nat.add_sub_cancel_left]
    cases d with
    | zero => simp
    | succ d => simp [Nat.testBit_add_one, Nat.mul_add_div]

/-- A mask with the bit of sensor n set to a new level. -/
def levelMask (x n : Nat) (level : Bool) : Nat := if level then x ||| 2 ^ n else x - 2 ^ n

theorem testBit_levelMask {x n : Nat} {level : Bool} (h : x.testBit n ≠ level) (m : Nat) :
    (levelMask x n level).testBit m = if m = n then level else x.testBit m := by
  cases level with
  | true =>
    rw [levelMask, if_pos rfl, Nat.testBit_or]
    by_cases hm : m = n
    · rw [if_pos hm, hm, Nat.testBit_two_pow_self, Bool.or_true]
    · rw [if_neg hm, Nat.testBit_two_pow_of_ne (fun e => hm e.symm), Bool.or_false]
  | false => exact testBit_sub_two_pow (by simpa using h) m

/-! ## The events of a sensor -/

section
variable (s : State) (n : Nat) (cov : Bool)

/-- Sensor event i matches an edge of sensor n (R224). -/
def State.pseMatches (i : Nat) : Bool :=
  s.bit (R.gaitPse i) F.gaitPse.EN && s.fld (R.gaitPse i) F.gaitPse.PS == n &&
    (s.fld (R.gaitPse i) F.gaitPse.EDGE == 3 || (s.fld (R.gaitPse i) F.gaitPse.EDGE == 1 && cov) || (s.fld (R.gaitPse i) F.gaitPse.EDGE == 2 && !cov))

/-- The events that match an edge of sensor n fire. -/
def State.psFired : State := s.forEach 8 (fun i t => if t.pseMatches n cov i then t.fire (184 + i) else t)

/-- Only the events that match fire. -/
theorem State.psFired_eq : s.psFired n cov = ((List.range 8).filter (s.pseMatches n cov)).foldl (fun t i => t.fire (184 + i)) s := by
  have hgo : ∀ (l : List Nat) (t : State), l.foldl (fun t i => if t.pseMatches n cov i then t.fire (184 + i) else t) t =
      (l.filter (t.pseMatches n cov)).foldl (fun t i => t.fire (184 + i)) t := fun l => by
    induction l with
    | nil => exact fun _ => rfl
    | cons i l ih =>
      intro t
      rw [List.foldl_cons, ih]
      by_cases hm : t.pseMatches n cov i = true
      · rw [if_pos hm, List.filter_cons_of_pos hm, List.foldl_cons]
        rfl
      · rw [if_neg hm, List.filter_cons_of_neg hm]
  exact hgo _ s

theorem State.psFired_spec : s.psFired n cov = { s with pulses := (s.psFired n cov).pulses } ∧
    ∀ ev, ev ∈ (s.psFired n cov).pulses ↔ ev ∈ s.pulses ∨ ∃ i, i < 8 ∧ ev = 184 + i ∧ s.fld (R.gaitPse i) F.gaitPse.EN = 1 ∧
      s.fld (R.gaitPse i) F.gaitPse.PS = n ∧
      (s.fld (R.gaitPse i) F.gaitPse.EDGE = 3 ∨ s.fld (R.gaitPse i) F.gaitPse.EDGE = (if cov = true then 1 else 2)) := by
  obtain ⟨hstate, hmem⟩ := s.foldl_fire ((List.range 8).filter (s.pseMatches n cov)) (184 + ·)
  rw [← s.psFired_eq n cov] at hstate hmem
  refine ⟨hstate, fun ev => (hmem ev).trans ?_⟩
  refine or_congr_right ?_
  simp only [List.mem_filter, List.mem_range, State.pseMatches, State.bit_eq_beq s (R.gaitPse _) (f := F.gaitPse.EN) rfl, Bool.and_eq_true,
    Bool.or_eq_true, beq_iff_eq]
  constructor
  · rintro ⟨i, ⟨hi, ⟨hen, hps⟩, hedge⟩, rfl⟩
    refine ⟨i, hi, rfl, hen, hps, ?_⟩
    cases cov <;> simpa using hedge
  · rintro ⟨i, hi, rfl, hen, hps, hedge⟩
    refine ⟨i, ⟨hi, ⟨hen, hps⟩, ?_⟩, rfl⟩
    cases cov <;> simpa using hedge

end

/-! ## An accepted level -/

section
variable (s : State) (n : Nat) (level : Bool)

/-- A state with other accepted levels. -/
def State.withLevels (s : State) (m : Nat) : State := { s with gait := { s.gait with psLevel := m } }

theorem State.reg_withLevels (s : State) (m o : Nat) : (s.withLevels m).reg o = s.reg o := rfl

/-- A new level as PS_IN shows it. -/
def State.levelShown : State := (s.withLevels (levelMask s.gait.psLevel n level)).refreshPs

theorem State.levelShown_only : s.Only Frame.sensors (s.levelShown n level) [R.gaitPsIn] := by
  have h : s.Only Frame.sensors (s.withLevels (levelMask s.gait.psLevel n level)) [R.gaitPsIn] := ⟨rfl, fun _ _ => rfl⟩
  exact h.setFld _ _ (List.mem_singleton_self _)

theorem State.psLevel_levelShown : (s.levelShown n level).gait.psLevel = levelMask s.gait.psLevel n level := rfl

/-- PS_IN shows the level by its polarity. -/
theorem State.levelShown_covered {n : Fin 16} (h : s.gait.psLevel.testBit n ≠ level) :
    ((s.levelShown n level).reg R.gaitPsIn).getLsbD n = (level != (s.fld R.gaitPsPol F.gaitPsPol.INV).testBit n) := by
  have hn := n.isLt
  rw [State.levelShown, State.refreshPs, State.reg_setFld_same, Fld.put_bit _ _ _ _ (by decide) (by omega),
    if_pos ⟨Nat.zero_le _, by show n.val < 0 + 16; omega⟩]
  change ((levelMask s.gait.psLevel n level) ^^^ s.fld R.gaitPsPol F.gaitPsPol.INV).testBit (n - 0) = _
  rw [Nat.sub_zero, Nat.testBit_xor, testBit_levelMask h, if_pos rfl]

/-- What a covered or uncovered sensor does to the checkpoints of a path. -/
def State.chkMoved (t : State) (n k : Nat) (cov : Bool) : State :=
  if t.pathOn k then
    (t.checkpoints k).foldl (fun u i =>
      if u.fld (R.pathChkA k i) F.pathChkA.PS = n then (if cov then u.chkCovered k i else u.chkUncovered k i) else u) t
  else t

theorem State.pathSensorChange_eq {n : Fin 16} (h : s.gait.psLevel.testBit n ≠ level) : s.pathSensorChange n level =
    ((s.levelShown n level).psFired n (level != (s.fld R.gaitPsPol F.gaitPsPol.INV).testBit n)).forEach 4
      (fun k t => t.chkMoved n k (level != (s.fld R.gaitPsPol F.gaitPsPol.INV).testBit n)) := by
  rw [← s.levelShown_covered level h, State.pathSensorChange]
  exact if_neg (by rw [beq_false_of_ne h]; exact Bool.false_ne_true)

theorem State.chkMoved_off (t : State) {n k : Nat} (cov : Bool) (h : t.pathOn k = false) : t.chkMoved n k cov = t :=
  if_neg (by rw [h]; exact Bool.false_ne_true)

end

section
variable {s : State} (n : Fin 16) (level : Bool)

/-- The level shown and its events fired. -/
def State.levelFired (s : State) (n : Nat) (level : Bool) : State :=
  (s.levelShown n level).psFired n (level != (s.fld R.gaitPsPol F.gaitPsPol.INV).testBit n)

theorem State.levelFired_only (n : Nat) : s.Only Frame.sensors (s.levelFired n level) [R.gaitPsIn] := by
  have hfired := ((s.levelShown n level).psFired_spec n (level != (s.fld R.gaitPsPol F.gaitPsPol.INV).testBit n)).1
  have hregs : (s.levelFired n level).regs = (s.levelShown n level).regs := by rw [State.levelFired, hfired]
  refine (State.levelShown_only s n level).trans ⟨?_, State.regsBut_of_regs _ hregs⟩
  rw [State.levelFired]
  conv_lhs => rw [hfired]
  rw [hfired]
  rfl

theorem exec_pathSensorChange_same (hu : s.usual) (h : s.gait.psLevel.testBit n = level) : exec (.pathSensorChange n level) s = .next s := by
  have hid : s.pathSensorChange n level = s := if_pos (by rw [h]; exact beq_self_eq_true level)
  exact (congrArg State.done hid).trans (State.done_of_usual hu)

theorem endIgnores_sensors {k : Nat}  : endIgnores [R.gaitPsIn, R.pathOcc k] := endIgnores_of (by
  simp only [List.mem_cons, List.not_mem_nil, or_false, R.gaitPsIn, R.pathOcc]
  omega)

/-- A path is enabled or not by its own register. -/
theorem State.pathOn_levelFired (k : Nat) : (s.levelFired n level).pathOn k = s.pathOn k :=
  congrArg (· != 0) ((State.levelFired_only (s := s) level n).fld (by simp only [List.mem_singleton, R.gaitPsIn, R.pathCfg]; omega) F.pathCfg.EN)

theorem exec_pathSensorChange_off (hu : s.usual) (h : s.gait.psLevel.testBit n ≠ level) (hoff : ∀ k, k < 4 → s.pathOn k = false) :
    ∃ t, exec (.pathSensorChange n level) s = .next t ∧
      t = { s with regs := t.regs, gait := { s.gait with psLevel := t.gait.psLevel }, pulses := t.pulses } ∧
      (∀ m, t.gait.psLevel.testBit m = if m = n.val then level else s.gait.psLevel.testBit m) ∧
      (t.reg R.gaitPsIn).getLsbD n = (level != (s.fld R.gaitPsPol F.gaitPsPol.INV).testBit n) ∧ (∀ off, off ≠ R.gaitPsIn → t.reg off = s.reg off) ∧
      (∀ ev, ev ∈ t.pulses ↔ ev ∈ s.pulses ∨ ∃ i, i < 8 ∧ ev = 184 + i ∧ s.fld (R.gaitPse i) F.gaitPse.EN = 1 ∧
        s.fld (R.gaitPse i) F.gaitPse.PS = n ∧ (s.fld (R.gaitPse i) F.gaitPse.EDGE = 3 ∨ s.fld (R.gaitPse i) F.gaitPse.EDGE =
          (if (level != (s.fld R.gaitPsPol F.gaitPsPol.INV).testBit n) = true then 1 else 2))) := by
  have hf := State.levelFired_only (s := s) level n
  have hshown := s.levelShown_only n level
  have hcov := s.levelShown_covered level h
  obtain ⟨hfired, hpulses⟩ := (s.levelShown n level).psFired_spec n (level != (s.fld R.gaitPsPol F.gaitPsPol.INV).testBit n)
  have hlevel : (s.levelFired n level).gait.psLevel = levelMask s.gait.psLevel n level := by
    rw [State.levelFired, hfired]
    exact s.psLevel_levelShown n level
  have hregs : (s.levelFired n level).regs = (s.levelShown n level).regs := by rw [State.levelFired, hfired]
  have heq : s.pathSensorChange n level = s.levelFired n level := by
    rw [s.pathSensorChange_eq level h]
    refine List.foldlRecOn (motive := fun t : State => t = s.levelFired n level) _ _ rfl fun t ht k hk => ?_
    rw [ht]
    exact State.chkMoved_off _ _ ((State.pathOn_levelFired n level k).trans (hoff k (List.mem_range.mp hk)))
  refine ⟨_, (congrArg State.done heq).trans (hf.done hu ?_), hf.state, fun m => ?_, ?_, fun off ho => hf.reg off (by simpa using ho), ?_⟩
  · exact fun o ho hm => endIgnores_sensors (k := 0) o ho (List.mem_cons.mpr (.inl (List.mem_singleton.mp hm)))
  · rw [hlevel, testBit_levelMask h]
  · rw [State.reg_of_regs _ _ hregs, hcov]
  · have hsame : ∀ (i : Nat) (f : Fld), (s.levelShown n level).fld (R.gaitPse i) f = s.fld (R.gaitPse i) f := fun i f =>
      hshown.fld (by simp only [List.mem_singleton, R.gaitPse, R.gaitPsIn]; omega) f
    have hold : (s.levelShown n level).pulses = s.pulses := rfl
    simp only [hsame, hold] at hpulses
    exact hpulses

/-! ## A document enters the track -/

theorem State.fld_of_reg {s t : State} {o : Nat} (h : t.reg o = s.reg o) (f : Fld) : t.fld o f = s.fld o f := by rw [State.fld, h, State.fld]

/-- The position of a path's source rests on the path's settings and on the position registers. -/
theorem State.pathPos_congr {s t : State} {k : Nat} (hcfg : t.reg (R.pathCfg k) = s.reg (R.pathCfg k))
    (hpos : ∀ o, 0x18100 ≤ o → o < 0x18400 → t.reg o = s.reg o) : t.pathPos k = s.pathPos k := by
  have hsrc : t.pcfg k F.pathCfg.PSRC = s.pcfg k F.pathCfg.PSRC := State.fld_of_reg hcfg _
  have hlt : s.pcfg k F.pathCfg.PSRC < 8 := BitVec.isLt _
  rw [State.pathPos, hsrc, State.pathPos]
  generalize s.pcfg k F.pathCfg.PSRC = src at hlt
  have h64 : ∀ lo hi, 0x18100 ≤ lo → lo < 0x18400 → 0x18100 ≤ hi → hi < 0x18400 → t.reg64 lo hi = s.reg64 lo hi := fun lo hi h1 h2 h3 h4 => by
    rw [State.reg64, hpos lo h1 h2, hpos hi h3 h4, State.reg64]
  rw [State.position, State.position, h64 (R.encPosLo src) (R.encPosHi src), h64 (R.axisPosLo (src - 2)) (R.axisPosHi (src - 2))]
  all_goals simp only [R.encPosLo, R.encPosHi, R.axisPosLo, R.axisPosHi]; omega

/-- A path that covers its first checkpoint, of two. -/
def PathSt.entered (x : PathSt) (pos : Int) : PathSt :=
  { x with coveredAt := Table.set (fun _ => none) x.coveredAt 0 (some pos), waiting := Table.set (fun _ => []) x.waiting 1 (x.waits 1 ++ [pos]) }

theorem PathSt.waits_entered (x : PathSt) (pos : Int) : (x.entered pos).waits 1 = x.waits 1 ++ [pos] := Table.get_set_same _ _ _ _

/-- A document enters the track at checkpoint 0. -/
def State.trackEntered (s : State) (k : Nat) : State :=
  (s.setPathSt k ((s.pathSt k).entered (s.pathPos k))).countFld (R.pathOcc k) F.pathOcc.IN_TRACK

theorem State.chkCovered_first (t : State) {k : Nat} (h : t.checkpoints k = [0, 1]) : t.chkCovered k 0 = t.trackEntered k := by
  have hafter : t.chkAfter k 0 = some 1 := by rw [State.chkAfter, h]; rfl
  rw [State.chkCovered, hafter]
  rfl

theorem State.trackEntered_gaitOnly (k : Nat) : s.GaitOnly (s.trackEntered k) [R.pathOcc k] := by
  unfold State.trackEntered State.countFld
  split
  · exact .setPathSt s k _
  · exact (State.GaitOnly.setPathSt s k _).trans (.setFld _ _ _ (by simp))

theorem State.trackEntered_spec (k : Nat) :
    (s.trackEntered k).fld (R.pathOcc k) F.pathOcc.IN_TRACK = min 65535 (s.fld (R.pathOcc k) F.pathOcc.IN_TRACK + 1) ∧
      (s.trackEntered k).pathSt k = (s.pathSt k).entered (s.pathPos k) := by
  have hlt : s.fld (R.pathOcc k) F.pathOcc.IN_TRACK < 2 ^ 16 := BitVec.isLt _
  have hmax : F.pathOcc.IN_TRACK.max = 65535 := rfl
  have hfld : (s.setPathSt k ((s.pathSt k).entered (s.pathPos k))).fld (R.pathOcc k) F.pathOcc.IN_TRACK = s.fld (R.pathOcc k) F.pathOcc.IN_TRACK := rfl
  rw [State.trackEntered, State.countFld, hfld, hmax]
  split
  next h => exact ⟨by rw [hfld, h]; rfl, State.pathSt_setPathSt_same _ _ _⟩
  next h =>
    refine ⟨?_, State.pathSt_setPathSt_same _ _ _⟩
    rw [State.fld_setFld _ _ _ _ (by decide)]
    change (s.fld (R.pathOcc k) F.pathOcc.IN_TRACK + 1) % 2 ^ 16 = _
    omega

/-- The sensor of checkpoint 0, and not that of checkpoint 1, covers. -/
theorem State.chkMoved_first (t : State) {n k : Nat} (hon : t.pathOn k = true) (h : t.checkpoints k = [0, 1])
    (h0 : t.fld (R.pathChkA k 0) F.pathChkA.PS = n) (h1 : t.fld (R.pathChkA k 1) F.pathChkA.PS ≠ n) : t.chkMoved n k true = t.trackEntered k := by
  have h1' : (t.trackEntered k).fld (R.pathChkA k 1) F.pathChkA.PS ≠ n := by
    rwa [(State.trackEntered_gaitOnly k).fld (by simp only [List.mem_singleton, R.pathChkA, R.pathOcc]; omega)]
  rw [State.chkMoved, if_pos hon, h, List.foldl_cons, List.foldl_cons, List.foldl_nil, if_pos h0, if_pos rfl, t.chkCovered_first h, if_neg h1']

theorem exec_pathSensorChange_entered (hu : s.usual) (h : s.gait.psLevel.testBit n ≠ level) {k : Nat} (hk : k < 4) (hon : s.pathOn k = true)
    (honly : ∀ j, j < 4 → j ≠ k → s.pathOn j = false) (hchk : s.checkpoints k = [0, 1])
    (h0 : s.fld (R.pathChkA k 0) F.pathChkA.PS = n) (h1 : s.fld (R.pathChkA k 1) F.pathChkA.PS ≠ n)
    (hcov : (level != (s.fld R.gaitPsPol F.gaitPsPol.INV).testBit n) = true) :
    ∃ t, exec (.pathSensorChange n level) s = .next t ∧ t = { s with regs := t.regs, gait := t.gait, pulses := t.pulses } ∧
      t.fld (R.pathOcc k) F.pathOcc.IN_TRACK = min 65535 (s.fld (R.pathOcc k) F.pathOcc.IN_TRACK + 1) ∧
      (t.pathSt k).waits 1 = (s.pathSt k).waits 1 ++ [s.pathPos k] ∧
      (∀ off, off ∉ [R.gaitPsIn, R.pathOcc k] → t.reg off = s.reg off) := by
  have hf := State.levelFired_only (s := s) level n
  have hpathOn := State.pathOn_levelFired (s := s) n level
  have heq := s.pathSensorChange_eq level h
  change s.pathSensorChange n level = (s.levelFired n level).forEach 4
    (fun k t => t.chkMoved n k (level != (s.fld R.gaitPsPol F.gaitPsPol.INV).testBit n)) at heq
  rw [hcov] at heq
  generalize s.levelFired n level = x at hf hpathOn heq
  have hreg : ∀ o, o ≠ R.gaitPsIn → x.reg o = s.reg o := fun o ho => hf.reg o (by simpa using ho)
  have hfld : ∀ o f, o ≠ R.gaitPsIn → x.fld o f = s.fld o f := fun o f ho => State.fld_of_reg (hreg o ho) f
  have hpathSt : x.pathSt k = s.pathSt k := by rw [hf.state]; rfl
  have hpos : x.pathPos k = s.pathPos k := State.pathPos_congr (hreg _ (by simp only [R.pathCfg, R.gaitPsIn]; omega)) fun o ho _ =>
    hreg o (by simp only [R.gaitPsIn]; omega)
  have hchk' : x.checkpoints k = [0, 1] := by
    rw [← hchk]
    exact List.filter_congr fun i _ => congrArg (· != 0) (hfld _ F.pathChkA.EN (by simp only [R.pathChkA, R.gaitPsIn]; omega))
  have henter := State.trackEntered_gaitOnly (s := x) k
  obtain ⟨htrack, hpath⟩ := State.trackEntered_spec (s := x) k
  have hmoved : x.chkMoved n k true = x.trackEntered k := x.chkMoved_first ((hpathOn k).trans hon) hchk'
    ((hfld _ _ (by simp only [R.pathChkA, R.gaitPsIn]; omega)).trans h0)
    (by rwa [hfld _ _ (by simp only [R.pathChkA, R.gaitPsIn]; omega)])
  have hother : ∀ j, j < 4 → j ≠ k → (x.trackEntered k).pathOn j = false := fun j hj hne =>
    (congrArg (· != 0) (henter.fld (by simp only [List.mem_singleton, R.pathCfg, R.pathOcc]; omega) F.pathCfg.EN)).trans
      ((hpathOn j).trans (honly j hj hne))
  have heach : x.forEach 4 (fun k t => t.chkMoved n k true) = x.trackEntered k :=
    State.forEach_single (f := fun k t => t.chkMoved n k true) hk hmoved
      (fun j hj hne => State.chkMoved_off _ _ ((hpathOn j).trans (honly j hj hne))) (fun j hj hne => State.chkMoved_off _ _ (hother j hj hne))
  have hall : s.Only Frame.gaitPulses (x.trackEntered k) [R.gaitPsIn, R.pathOcc k] :=
    ((hf.mono (m := [R.gaitPsIn, R.pathOcc k]) (by simp)).widen fun _ _ => rfl).trans (henter.onlyPulses.mono (by simp))
  refine ⟨_, (congrArg State.done (heq.trans heach)).trans (hall.done hu endIgnores_sensors), hall.state, ?_, ?_, hall.reg⟩
  · rw [htrack, hfld _ _ (by simp only [R.pathOcc, R.gaitPsIn]; omega)]
  · rw [hpath, PathSt.waits_entered, hpathSt, hpos]

end

/-! ## The limits of a checkpoint -/

section
variable {s : State} (k : Fin 4) (i : Fin 8) (hu : s.usual) (hon : s.pathOn k = true) (hen : s.fld (R.pathChkA k i) F.pathChkA.EN = 1)
  (hslip : (s.pathSt k).slipDue = false)
include hu

/-- A command that jams a path at a checkpoint ends with the jam. -/
theorem exec_jamAt {c : Instr} {cause : Nat} (hp : PlainPath s k) (hc : cause ≤ 3) (h : exec c s = State.done (s.jam k cause i)) :
    ∃ t, exec c s = .next t ∧ Jammed s t k cause ∧ t.fld (R.pathStat k) F.pathStat.JAM_CHK = i ∧
      (∀ off, off ∉ R.pathJamCnt k :: pathViews k → t.reg off = s.reg off) :=
  ⟨_, h.trans (State.done_jam hu hp (by omega)), State.jammed_jamQueued (.refl s []) List.not_mem_nil (fun _ => rfl) (by omega),
    (State.fld_withAsync _ _ _ _).trans (s.fld_jammed_chk k cause i hc i.isLt), fun _ ho => State.reg_jamQueued (.refl s []) ho List.not_mem_nil⟩

include hon hen hslip

theorem exec_jamArrivalLimit (hp : PlainPath s k) {p0 : Int} {rest : List Int} (hw : (s.pathSt k).waits i = p0 :: rest)
    (harr : s.fld (R.pathChkA k i) F.pathChkA.ARR ≠ 0) :
    (p0 + (s.fld (R.pathChkA k i) F.pathChkA.ARR * 65536 : Nat) < s.pathPos k →
      ∃ t, exec (.jamArrivalLimit k i) s = .next t ∧ Jammed s t k 1 ∧ t.fld (R.pathStat k) F.pathStat.JAM_CHK = i ∧
        (∀ off, off ∉ R.pathJamCnt k :: pathViews k → t.reg off = s.reg off)) ∧
    (s.pathPos k ≤ p0 + (s.fld (R.pathChkA k i) F.pathChkA.ARR * 65536 : Nat) → exec (.jamArrivalLimit k i) s = .next s) := by
  have hdef : s.jamArrival k i = if decide (((s.fld (R.pathChkA k i) F.pathChkA.ARR * 65536 : Nat) : Int) < s.pathPos k - p0) = true
      then s.jam k 1 i else s := by
    rw [State.jamArrival, hw]
    dsimp only
    rw [hon, State.bit_eq_true hen, bne_iff_ne.mpr harr, hslip]
    simp only [Bool.not_false, Bool.and_true, Bool.true_and]
  refine ⟨fun h => exec_jamAt k i hu hp (by decide) (congrArg State.done (hdef.trans (if_pos (decide_eq_true (by omega))))), fun h => ?_⟩
  exact (congrArg State.done (hdef.trans (if_neg (by rw [decide_eq_true_eq]; omega)))).trans (State.done_of_usual hu)

theorem exec_jamLengthLimit (hp : PlainPath s k) {p0 : Int} (hw : Table.get (fun _ => none) (s.pathSt k).coveredAt i = some p0)
    (hlen : s.fld (R.pathChkB k i) F.pathChkB.LEN ≠ 0) :
    (p0 + (s.fld (R.pathChkB k i) F.pathChkB.LEN * 65536 : Nat) < s.pathPos k →
      ∃ t, exec (.jamLengthLimit k i) s = .next t ∧ Jammed s t k 2 ∧ t.fld (R.pathStat k) F.pathStat.JAM_CHK = i ∧
        (∀ off, off ∉ R.pathJamCnt k :: pathViews k → t.reg off = s.reg off)) ∧
    (s.pathPos k ≤ p0 + (s.fld (R.pathChkB k i) F.pathChkB.LEN * 65536 : Nat) → exec (.jamLengthLimit k i) s = .next s) := by
  have hdef : s.jamLength k i = if decide (((s.fld (R.pathChkB k i) F.pathChkB.LEN * 65536 : Nat) : Int) < s.pathPos k - p0) = true
      then s.jam k 2 i else s := by
    rw [State.jamLength, hw]
    dsimp only
    rw [hon, State.bit_eq_true hen, bne_iff_ne.mpr hlen, hslip]
    simp only [Bool.not_false, Bool.and_true, Bool.true_and]
  refine ⟨fun h => exec_jamAt k i hu hp (by decide) (congrArg State.done (hdef.trans (if_pos (decide_eq_true (by omega))))), fun h => ?_⟩
  exact (congrArg State.done (hdef.trans (if_neg (by rw [decide_eq_true_eq]; omega)))).trans (State.done_of_usual hu)

end

/-- Settles O31: sensors and the limits of checkpoints as their lemmas above say. -/
theorem sensorsAndJamLimits : Obligations.SensorsAndJamLimits := by
  intro s hu
  refine ⟨fun n level _ => ⟨exec_pathSensorChange_same n level hu, fun h => ⟨exec_pathSensorChange_off n level hu h,
      fun k hk hon honly hchk h0 h1 hcov => exec_pathSensorChange_entered n level hu h hk hon honly hchk h0 h1 hcov⟩⟩,
    fun k i hon hen hslip hp => ⟨fun p0 rest hw harr => exec_jamArrivalLimit k i hu hon hen hslip hp hw harr,
      fun p0 hw hlen => exec_jamLengthLimit k i hu hon hen hslip hp hw hlen⟩⟩

end Sys2Proof.Machine

/-!
Enable, refusal and disable of a path (R225, Table 7-1).
-/
namespace Sys2Proof.Machine

/-! ## The dwell timer of a path as a resource -/

section
variable (s : State) (k n who : Nat)

/-- Without a feed solenoid a path claims its dwell timer only. -/
theorem State.pathRes_of_timer (h : s.fld (R.pathFeed k) F.pathFeed.MODE ≠ 1) : s.pathRes k = [.timer (s.fld (R.pathCfg k) F.pathCfg.DWELL_TIM)] := by
  rw [State.pathRes, if_neg h]
  rfl

theorem State.claimAll_timer (h : s.owner (.timer n) = 0) (hw : who ≠ 0) : s.claimAll [.timer n] who = (s.setOwner (.timer n) who, true) := by
  rw [State.claimAll, List.foldl_cons, List.foldl_nil, if_pos rfl, s.claim_free (.timer n) who h hw (by simp)]
  exact if_pos rfl

theorem State.owner_setOwner_timer (h : who < 256) : (s.setOwner (.timer n) who).owner (.timer n) = who := by
  rw [State.setOwner, State.owner, State.fld_setFld _ _ _ _ (by decide)]
  exact Nat.mod_eq_of_lt h

theorem State.setOwner_timer_onlyEff {l : List Nat} (h : R.etimCtl n ∈ l) : s.Only Frame.gaitEff (s.setOwner (.timer n) who) l :=
  (State.Only.refl s l).setFld _ _ h

theorem State.pathSt_setOwner_timer (j : Nat) : (s.setOwner (.timer n) who).pathSt j = s.pathSt j := rfl

theorem State.owner_timer_of_reg {s t : State} {n : Nat} (h : t.reg (R.etimCtl n) = s.reg (R.etimCtl n)) : t.owner (.timer n) = s.owner (.timer n) :=
  State.fld_of_reg h _

end

/-! ## The causes -/

/-- The cause that a path meets is a matter of registers. -/
theorem State.pathCause_congr {s t : State} (h : t.reg = s.reg) (k : Nat) : t.pathCause k = s.pathCause k := by
  have hf : t.fld = s.fld := by
    funext o f
    exact State.fld_of_reg (congrFun h o) f
  delta State.pathCause State.policyBad State.gaits State.gaitOk State.downThr State.upThr State.rateBad State.mustep State.axisPaths
    State.axesOf State.feedAxis State.pathOn State.pcfg State.bit
  rw [hf, h]

theorem State.pathCause_lt (s : State) (k : Nat) : s.pathCause k < 8 := by
  delta State.pathCause
  extract_lets mine feed lp lps ov sr pitch back seamEn
  repeat' split
  all_goals decide

/-! ## The enable -/

section
variable {s : State} (path : Path) (k : Fin 4) (w : Word)

/-- PATHk_CFG as an enable writes it, with the dwell timer claimed. -/
def State.pathClaimed (s : State) (path : Path) (k : Nat) (w : Word) : State :=
  (s.cfgAsked path (R.pathCfg k) Row.pathCfg w).setOwner (.timer (F.pathCfg.DWELL_TIM.get w)) 0x14

theorem pathCfg_ne_etimCtl (k : Nat) {n : Nat} (hn : n < 32) : R.pathCfg k ≠ R.etimCtl n := by
  simp only [R.pathCfg, R.etimCtl]
  omega

theorem pathStat_ne_etimCtl (k n : Nat) : R.pathStat k ≠ R.etimCtl n := by
  simp only [R.pathStat, R.etimCtl]
  omega

theorem pathCfg_ne_pathStat (k : Nat) : R.pathCfg k ≠ R.pathStat k := by simp only [R.pathCfg, R.pathStat]; omega

theorem State.pathAsked_only (k : Nat) : s.Only Frame.gaitEff (s.cfgAsked path (R.pathCfg k) Row.pathCfg w) [R.pathCfg k] :=
  (s.writeRow_sameBut _ _ _ _).only fun _ _ _ => rfl

theorem State.pathClaimed_only (k : Nat) : s.Only Frame.gaitEff (s.pathClaimed path k w) [R.pathCfg k, R.etimCtl (F.pathCfg.DWELL_TIM.get w)] :=
  ((State.pathAsked_only path w k).mono (by simp)).trans (State.setOwner_timer_onlyEff _ _ _ (by simp))

theorem dwellTim_get_lt (w : Word) : F.pathCfg.DWELL_TIM.get w < 32 := BitVec.isLt _

/-- The statement's reading of the claimed state. -/
theorem State.reg_pathClaimed (k : Nat) : (s.pathClaimed path k w).reg =
    ((s.setReg (R.pathCfg k) (Row.pathCfg.written (s.reg (R.pathCfg k)) (F.pathCfg.EN.put w 1))).setOwner
      (.timer (F.pathCfg.DWELL_TIM.get w)) 0x14).reg := by
  have hreg : (s.cfgAsked path (R.pathCfg k) Row.pathCfg w).reg =
      (s.setReg (R.pathCfg k) (Row.pathCfg.written (s.reg (R.pathCfg k)) (F.pathCfg.EN.put w 1))).reg := by
    funext o
    rw [State.cfgAsked, State.reg_writeRow, State.reg_setReg]
  funext o
  rw [State.pathClaimed, State.setOwner, State.setOwner]
  by_cases ho : o = R.etimCtl (F.pathCfg.DWELL_TIM.get w)
  · subst ho
    rw [State.reg_setFld_same, State.reg_setFld_same, hreg]
  · rw [State.reg_setFld_ne _ _ _ _ _ ho, State.reg_setFld_ne _ _ _ _ _ ho, hreg]

theorem State.fld_pathClaimed (k : Nat) (f : Fld) : (s.pathClaimed path k w).fld (R.pathCfg k) f = (s.cfgAsked path (R.pathCfg k) Row.pathCfg w).fld (R.pathCfg k) f :=
  State.fld_setFld_ne _ _ _ _ _ _ (pathCfg_ne_etimCtl k (dwellTim_get_lt w))

/-- A refused path: the timer given back, the cause shown, EN at 0. -/
def State.pathRefused (t : State) (k n cause : Nat) : State :=
  (((t.setOwner (.timer n) 0).setPstat k F.pathStat.CFG_ERR 1).setPstat k F.pathStat.CFG_CAUSE cause).setFld (R.pathCfg k) F.pathCfg.EN 0

section
variable (hacc : s.accessible path (R.pathCfg k) = true) (hfeed : s.fld (R.pathFeed k) F.pathFeed.MODE ≠ 1) (hoff : s.pathOn k = false)
  (hidle : s.pathIdle k = true) (hfree : s.owner (.timer (F.pathCfg.DWELL_TIM.get w)) = 0)
include hacc hfeed hoff hidle hfree

theorem exec_pathEnable_eq : exec (.pathEnable path k w) s = State.done
    (if (s.pathClaimed path k w).pathCause k = 0 then
      ((s.pathClaimed path k w).setPathSt k { (s.pathClaimed path k w).pathSt k with atRest := .stay }).enterPath k 1
    else (s.pathClaimed path k w).pathRefused k (F.pathCfg.DWELL_TIM.get w) ((s.pathClaimed path k w).pathCause k)) := by
  have hk := k.isLt
  have hn := dwellTim_get_lt w
  have honly := State.pathAsked_only (s := s) path w k
  have hdwell := s.fld_cfgAsked path (R.pathCfg k) Row.pathCfg w (f := F.pathCfg.DWELL_TIM) (by decide) (by decide) (by decide)
  have hres : (s.cfgAsked path (R.pathCfg k) Row.pathCfg w).pathRes k = [.timer (F.pathCfg.DWELL_TIM.get w)] := by
    rw [State.pathRes_of_timer, hdwell]
    rwa [honly.fld (by simp only [List.mem_singleton, R.pathFeed, R.pathCfg]; omega)]
  have hown : (s.cfgAsked path (R.pathCfg k) Row.pathCfg w).owner (.timer (F.pathCfg.DWELL_TIM.get w)) = 0 := by
    rw [State.owner_timer_of_reg (honly.reg _ (by simpa using (pathCfg_ne_etimCtl k (dwellTim_get_lt w)).symm)), hfree]
  have hclaim := State.claimAll_timer (s.cfgAsked path (R.pathCfg k) Row.pathCfg w) (F.pathCfg.DWELL_TIM.get w) claimantGait hown (by decide)
  rw [← hres] at hclaim
  have hback : ∀ t : State, ((s.cfgAsked path (R.pathCfg k) Row.pathCfg w).pathRes k).foldl
      (fun (u : State) r => if (s.cfgAsked path (R.pathCfg k) Row.pathCfg w).owner r = 0 then u.setOwner r 0 else u) t =
        t.setOwner (.timer (F.pathCfg.DWELL_TIM.get w)) 0 := fun t => by
    rw [hres, List.foldl_cons, List.foldl_nil, if_pos hown]
  have hdef : s.pathCfgWrite path k (F.pathCfg.EN.put w 1) = (if (s.pathClaimed path k w).pathCause k = 0 then
      ((s.pathClaimed path k w).setPathSt k { (s.pathClaimed path k w).pathSt k with atRest := .stay }).enterPath k 1
    else (s.pathClaimed path k w).pathRefused k (F.pathCfg.DWELL_TIM.get w) ((s.pathClaimed path k w).pathCause k)) := by
    delta State.pathCfgWrite
    extract_lets was s1
    have hs1 : s1 = s.cfgAsked path (R.pathCfg k) Row.pathCfg w := by
      rw [show s1 = s.writeRow path (R.pathCfg k) Row.pathCfg (F.pathCfg.EN.put w 1) (!(s.pathIdle k)) from rfl, hidle]
      rfl
    refine (if_pos ?_).trans ?_
    · rw [(enFld_put w).1, show was = false from hoff]
      rfl
    · rw [hs1, hclaim]
      dsimp only
      rw [hback]
      rfl
  exact congrArg State.done ((State.onWrite_of _ _ _ _ hacc).trans hdef)

variable (hu : s.usual)
include hu

theorem exec_pathEnable_accepted (hc : ((s.setReg (R.pathCfg k) (Row.pathCfg.written (s.reg (R.pathCfg k)) (F.pathCfg.EN.put w 1))).setOwner
      (.timer (F.pathCfg.DWELL_TIM.get w)) 0x14).pathCause k = 0) :
    ∃ t, exec (.pathEnable path k w) s = .next t ∧ t = { s with regs := t.regs, eff := t.eff, gait := t.gait } ∧ t.pathOn k = true ∧
      t.pathState k = 1 ∧ t.owner (.timer (F.pathCfg.DWELL_TIM.get w)) = 0x14 ∧ t.fld (R.pathCfg k) F.pathCfg.AXES = F.pathCfg.AXES.get w ∧
      t.pathSt k = { s.pathSt k with atRest := .stay } ∧ (∀ j, j ≠ k.val → t.pathSt j = s.pathSt j) ∧
      (∀ off, off ∉ R.pathCfg k :: R.etimCtl (F.pathCfg.DWELL_TIM.get w) :: pathViews k → t.reg off = s.reg off) := by
  have hk := k.isLt
  have hn := dwellTim_get_lt w
  have hexec := exec_pathEnable_eq path k w hacc hfeed hoff hidle hfree
  rw [State.pathCause_congr (State.reg_pathClaimed path w k) k, if_pos hc] at hexec
  have honly := State.pathClaimed_only (s := s) path w k
  have hen : (s.pathClaimed path k w).fld (R.pathCfg k) F.pathCfg.EN = 1 :=
    (State.fld_pathClaimed path w k _).trans (s.fld_cfgAsked_en path (R.pathCfg k) Row.pathCfg w (by decide))
  have haxes : (s.pathClaimed path k w).fld (R.pathCfg k) F.pathCfg.AXES = F.pathCfg.AXES.get w :=
    (State.fld_pathClaimed path w k _).trans (s.fld_cfgAsked path (R.pathCfg k) Row.pathCfg w (by decide) (by decide) (by decide))
  have hown : (s.pathClaimed path k w).owner (.timer (F.pathCfg.DWELL_TIM.get w)) = 0x14 := State.owner_setOwner_timer _ _ _ (by decide)
  have hpaths : ∀ j, (s.pathClaimed path k w).pathSt j = s.pathSt j := fun j => by
    rw [State.pathClaimed, State.pathSt_setOwner_timer, State.pathSt, State.cfgAsked, (s.writeRow_sameBut path (R.pathCfg k) Row.pathCfg _).1, State.pathSt]
  generalize s.pathClaimed path k w = x at *
  have hview : x.GaitOnly ((x.setPathSt k { x.pathSt k with atRest := .stay }).enterPath k 1) (pathViews k) :=
    (State.GaitOnly.setPathSt x k _).trans (State.enterPath_gaitOnly _ k 1)
  have hf := (honly.mono (m := R.pathCfg k :: R.etimCtl (F.pathCfg.DWELL_TIM.get w) :: pathViews k) (by simp)).trans
    (hview.onlyEff.mono (fun o ho => List.mem_cons_of_mem _ (List.mem_cons_of_mem _ ho)))
  have hcfg := pathCfg_not_mem_pathViews k
  have htim : R.etimCtl (F.pathCfg.DWELL_TIM.get w) ∉ pathViews k :=
    not_mem_pathViews (by simp only [R.etimCtl]; omega) (pathStat_ne_etimCtl k _).symm
  refine ⟨_, hexec.trans (hf.doneGait hu (inTransport_cons (by simp only [R.pathCfg]; omega)
    (inTransport_cons (by simp only [R.etimCtl]; omega) (inTransport_pathViews k)))), hf.state, State.bit_eq_true ((hview.fld hcfg _).trans hen),
    State.pathState_enterPath _ _ _ (by decide), (State.owner_timer_of_reg (hview.reg _ htim)).trans hown, (hview.fld hcfg _).trans haxes, ?_,
    fun j hj => ?_, hf.reg⟩
  · rw [State.pathSt_enterPath, State.pathSt_setPathSt_same, hpaths]
  · rw [State.pathSt_enterPath, State.pathSt_setPathSt, if_neg hj, hpaths]

theorem exec_pathEnable_refused (hc : ((s.setReg (R.pathCfg k) (Row.pathCfg.written (s.reg (R.pathCfg k)) (F.pathCfg.EN.put w 1))).setOwner
      (.timer (F.pathCfg.DWELL_TIM.get w)) 0x14).pathCause k ≠ 0) :
    ∃ t, exec (.pathEnable path k w) s = .next t ∧ t = { s with regs := t.regs, eff := t.eff } ∧ t.pathOn k = false ∧
      t.owner (.timer (F.pathCfg.DWELL_TIM.get w)) = 0 ∧ t.fld (R.pathStat k) F.pathStat.CFG_ERR = 1 ∧
      t.fld (R.pathStat k) F.pathStat.CFG_CAUSE = ((s.setReg (R.pathCfg k) (Row.pathCfg.written (s.reg (R.pathCfg k))
        (F.pathCfg.EN.put w 1))).setOwner (.timer (F.pathCfg.DWELL_TIM.get w)) 0x14).pathCause k ∧
      (∀ off, off ∉ [R.pathCfg k, R.etimCtl (F.pathCfg.DWELL_TIM.get w), R.pathStat k] → t.reg off = s.reg off) := by
  have hk := k.isLt
  have hn := dwellTim_get_lt w
  have hexec := exec_pathEnable_eq path k w hacc hfeed hoff hidle hfree
  rw [State.pathCause_congr (State.reg_pathClaimed path w k) k, if_neg hc] at hexec
  generalize hcause : ((s.setReg (R.pathCfg k) (Row.pathCfg.written (s.reg (R.pathCfg k)) (F.pathCfg.EN.put w 1))).setOwner
    (.timer (F.pathCfg.DWELL_TIM.get w)) 0x14).pathCause k = c at *
  have hlt : c < 8 := hcause ▸ State.pathCause_lt _ _
  generalize hnum : F.pathCfg.DWELL_TIM.get w = n at *
  have hask : s.Only Frame.eff (s.cfgAsked path (R.pathCfg k) Row.pathCfg w) [R.pathCfg k, R.etimCtl n, R.pathStat k] :=
    (s.cfgAsked_only path (R.pathCfg k) Row.pathCfg w).mono (by simp)
  have hf : s.Only Frame.eff ((s.pathClaimed path k w).pathRefused k n c) [R.pathCfg k, R.etimCtl n, R.pathStat k] := by
    rw [State.pathClaimed, hnum]
    exact ((((hask.setFld _ _ (by simp)).setFld _ _ (by simp)).setFld _ _ (by simp)).setFld _ _ (by simp)).setFld _ _ (by simp)
  generalize s.pathClaimed path k w = x at *
  have h1 := pathCfg_ne_pathStat k
  have h2 := pathCfg_ne_etimCtl k hn
  have h3 := pathStat_ne_etimCtl k n
  refine ⟨_, hexec.trans (hf.done hu (endIgnores_of fun o ho => ?_)), hf.state, ?_, ?_, ?_, ?_, hf.reg⟩
  · simp only [List.mem_cons, List.not_mem_nil, or_false, R.pathCfg, R.etimCtl, R.pathStat] at ho
    omega
  · refine State.bit_eq_false ?_
    rw [State.pathRefused, State.fld_setFld _ _ _ _ (by decide)]
    rfl
  · have hreg : (x.pathRefused k n c).reg (R.etimCtl n) = (x.setOwner (.timer n) 0).reg (R.etimCtl n) := by
      rw [State.pathRefused, State.setPstat, State.setPstat, State.reg_setFld_ne _ _ _ _ _ h2.symm, State.reg_setFld_ne _ _ _ _ _ h3.symm,
        State.reg_setFld_ne _ _ _ _ _ h3.symm]
    rw [State.owner_timer_of_reg hreg, State.owner_setOwner_timer _ _ _ (by decide)]
  · rw [State.pathRefused, State.fld_setFld_ne _ _ _ _ _ _ h1.symm, State.fld_setPstat_apart _ _ _ _ _ (by decide) (by decide) (by decide),
      State.fld_setPstat_same _ _ _ _ (by decide) (by decide)]
  · rw [State.pathRefused, State.fld_setFld_ne _ _ _ _ _ _ h1.symm, State.fld_setPstat_same _ _ _ _ (by decide) hlt]

end

/-! ## A disable at rest -/

/-- A path brought to rest by a disable. -/
def State.pathCleared (s : State) (path : Path) (k : Nat) (w : Word) : State :=
  ((s.cfgCleared path (R.pathCfg k) Row.pathCfg w (!(s.pathIdle k))).dropSeam k).rampDown k true .off

theorem exec_pathDisable (hu : s.usual) (hacc : s.accessible path (R.pathCfg k) = true) (hfeed : s.fld (R.pathFeed k) F.pathFeed.MODE ≠ 1)
    (hkeep : w &&& 0x0003FFFE = s.reg (R.pathCfg k) &&& 0x0003FFFE) (hon : s.pathOn k = true) (hspeed : (s.pathSt k).speed = 0)
    (hown : s.owner (.timer (s.fld (R.pathCfg k) F.pathCfg.DWELL_TIM)) = 0x14) :
    ∃ t, exec (.pathDisable path k w) s = .next t ∧ t = { s with regs := t.regs, eff := t.eff, gait := t.gait } ∧ t.pathOn k = false ∧
      t.pathState k = 0 ∧ t.owner (.timer (s.fld (R.pathCfg k) F.pathCfg.DWELL_TIM)) = 0 ∧ (t.pathSt k).target = 0 ∧ (t.pathSt k).atRest = .stay ∧
      (∀ j, j ≠ k.val → t.pathSt j = s.pathSt j) ∧
      (∀ off, off ∉ R.pathCfg k :: R.etimCtl (s.fld (R.pathCfg k) F.pathCfg.DWELL_TIM) :: pathViews k → t.reg off = s.reg off) := by
  have hk := k.isLt
  generalize hnum : s.fld (R.pathCfg k) F.pathCfg.DWELL_TIM = n at hown ⊢
  have hn : n < 32 := hnum ▸ BitVec.isLt _
  have hask : s.Only Frame.gaitEff (s.cfgCleared path (R.pathCfg k) Row.pathCfg w (!(s.pathIdle k))) [R.pathCfg k] :=
    (s.writeKept_sameBut _ _ _ _ _).only fun _ _ _ => rfl
  have hdwell := s.fld_cfgCleared path (R.pathCfg k) Row.pathCfg w (!(s.pathIdle k)) (f := F.pathCfg.DWELL_TIM) hkeep (by decide) (by decide)
    (by decide) (by decide) (by decide)
  have hen := s.fld_cfgCleared_en path (R.pathCfg k) Row.pathCfg w (!(s.pathIdle k)) (by decide) (by decide)
  have hwrite := s.writeRow_cleared path (R.pathCfg k) Row.pathCfg w (!(s.pathIdle k)) hkeep (by decide) (by decide)
  have hrest : (s.cfgCleared path (R.pathCfg k) Row.pathCfg w (!(s.pathIdle k))).GaitOnly (s.pathCleared path k w) [R.pathStat k] :=
    (State.dropSeam_gaitOnly _ k).trans (State.rampDown_gaitOnly _ k true .off)
  have hpathSt : ∀ j, (s.pathCleared path k w).pathSt j =
      if j = k.val then { s.pathSt k with seams := [], overlap := 0, target := 0, hard := true, atRest := .off } else s.pathSt j := fun j => by
    have hsame : ∀ j, (s.cfgCleared path (R.pathCfg k) Row.pathCfg w (!(s.pathIdle k))).pathSt j = s.pathSt j := fun j => by
      rw [State.pathSt, hask.state, State.pathSt, State.cfgCleared, (s.writeKept_sameBut path (R.pathCfg k) Row.pathCfg _ _).1]
      rfl
    rw [State.pathCleared, State.rampDown, State.pathSt_setPstat, State.pathSt_setPathSt]
    by_cases hj : j = k.val
    · rw [if_pos hj, if_pos hj, State.pathSt_dropSeam, hsame]
    · rw [if_neg hj, if_neg hj, State.dropSeam_eq]
      exact (State.pathSt_setPathSt _ _ _ _).trans ((if_neg hj).trans (hsame j))
  have hfeed' : (s.pathCleared path k w).fld (R.pathFeed k) F.pathFeed.MODE ≠ 1 := by
    rwa [hrest.fld (by simp only [List.mem_singleton, R.pathFeed, R.pathStat]; omega),
      hask.fld (by simp only [List.mem_singleton, R.pathFeed, R.pathCfg]; omega)]
  have hdwell' : (s.pathCleared path k w).fld (R.pathCfg k) F.pathCfg.DWELL_TIM = n := by
    rw [hrest.fld (by simpa using pathCfg_ne_pathStat k), hdwell, hnum]
  have hen' : (s.pathCleared path k w).fld (R.pathCfg k) F.pathCfg.EN = 0 := by
    rw [hrest.fld (by simpa using pathCfg_ne_pathStat k)]
    exact hen
  have hown' : (s.pathCleared path k w).owner (.timer n) = 0x14 := by
    rw [State.owner_timer_of_reg (hrest.reg _ (by simpa using (pathStat_ne_etimCtl k _).symm)),
      State.owner_timer_of_reg (hask.reg _ (by simpa using (pathCfg_ne_etimCtl k hn).symm)), hown]
  have hdef : s.pathCfgWrite path k (F.pathCfg.EN.put w 0) = (s.pathCleared path k w).pathOff k := by
    delta State.pathCfgWrite
    extract_lets was s1
    have hs1 : s1 = s.cfgCleared path (R.pathCfg k) Row.pathCfg w (!(s.pathIdle k)) := hwrite
    refine (if_neg ?_).trans ((if_pos ?_).trans ?_)
    · rw [(enFld_put w).2]
      exact Bool.false_ne_true
    · rw [(enFld_put w).2, show was = true from hon]
      rfl
    · have hs2 : (s1.dropSeam k).rampDown k true .off = s.pathCleared path k w := by rw [hs1]; rfl
      have hrest : ∀ y : State, y = s.pathCleared path k w →
          (if (y.pathSt k).speed = 0 then y.pathOff k else y.refreshPath k) = (s.pathCleared path k w).pathOff k := fun y hy => by
        rw [hy]
        exact if_pos (by rw [hpathSt, if_pos rfl]; exact hspeed)
      exact hrest _ hs2
  have hall : s.Only Frame.gaitEff (s.pathCleared path k w) [R.pathCfg k, R.pathStat k] :=
    (hask.mono (by simp)).trans (hrest.onlyEff.mono (by simp))
  generalize s.pathCleared path k w = x at hpathSt hfeed' hdwell' hen' hown' hdef hall
  have hoff : x.pathOff k = ((x.setOwner (.timer n) 0).setPathSt k { x.pathSt k with
      atRest := .stay, haltWhenEmpty := false, holdByLoop := false, reverse := false }).enterPath k 0 := by
    have hrel := x.release_own (.timer n) claimantGait hown' (by decide)
    rw [State.pathOff, State.pathRes_of_timer x k hfeed', hdwell', List.foldl_cons, List.foldl_nil, hrel]
    rfl
  have hview : (x.setOwner (.timer n) 0).GaitOnly (((x.setOwner (.timer n) 0).setPathSt k { x.pathSt k with
      atRest := .stay, haltWhenEmpty := false, holdByLoop := false, reverse := false }).enterPath k 0) (pathViews k) :=
    (State.GaitOnly.setPathSt _ k _).trans (State.enterPath_gaitOnly _ k 0)
  have hf : s.Only Frame.gaitEff (((x.setOwner (.timer n) 0).setPathSt k { x.pathSt k with
      atRest := .stay, haltWhenEmpty := false, holdByLoop := false, reverse := false }).enterPath k 0)
      (R.pathCfg k :: R.etimCtl n :: pathViews k) :=
    ((hall.mono (by simp [pathViews])).trans (State.setOwner_timer_onlyEff x n 0 (by simp))).trans
      (hview.onlyEff.mono (fun o ho => List.mem_cons_of_mem _ (List.mem_cons_of_mem _ ho)))
  have htim : R.etimCtl n ∉ pathViews k := not_mem_pathViews (by simp only [R.etimCtl]; omega) (pathStat_ne_etimCtl k _).symm
  refine ⟨_, (congrArg State.done ((State.onWrite_of _ _ _ _ hacc).trans (hdef.trans hoff))).trans (hf.doneGait hu
      (inTransport_cons (by simp only [R.pathCfg]; omega) (inTransport_cons (by simp only [R.etimCtl]; omega) (inTransport_pathViews k)))),
    hf.state, State.bit_eq_false ?_, State.pathState_enterPath _ _ _ (by decide), ?_, ?_, ?_, fun j hj => ?_, hf.reg⟩
  · rw [hview.fld (pathCfg_not_mem_pathViews k), State.setOwner, State.fld_setFld_ne _ _ _ _ _ _ (pathCfg_ne_etimCtl k hn), hen']
  · rw [State.owner_timer_of_reg (hview.reg _ htim), State.owner_setOwner_timer _ _ _ (by decide)]
  · rw [State.pathSt_enterPath, State.pathSt_setPathSt_same, hpathSt, if_pos rfl]
  · rw [State.pathSt_enterPath, State.pathSt_setPathSt_same]
  · rw [State.pathSt_enterPath, State.pathSt_setPathSt, if_neg hj, State.pathSt_setOwner_timer, hpathSt, if_neg hj]

end

/-- Settles O32: the enable, the refusal and the disable of a path as their lemmas above say. -/
theorem pathEnableAndDisable : Obligations.PathEnableAndDisable := by
  intro s path k w hu hacc hfeed
  exact ⟨fun hoff hidle hfree => ⟨exec_pathEnable_accepted path k w hacc hfeed hoff hidle hfree hu, exec_pathEnable_refused path k w hacc hfeed hoff hidle hfree hu⟩,
    fun hkeep hon hspeed hown => exec_pathDisable path k w hu hacc hfeed hkeep hon hspeed hown⟩

end Sys2Proof.Machine

/-!
The pacing loop and what follows at rest (R229-R231, R234, R235, R248, R250).
-/
namespace Sys2Proof.Machine

/-! ## The pacing loop -/

section
variable (s : State) (k : Nat)

/-- The pacing loop shifts gaits: the path runs and nothing follows at rest. -/
def State.pacing : Bool := s.pathState k == 2 && s.pathOn k && (s.pathSt k).atRest == .stay

theorem State.paceEval_stop (hrun : s.pacing k = true) (hocc : s.fld (R.pathOccthr k) F.pathOccthr.STOP ≤ s.fld (R.pathOcc k) F.pathOcc.OCC)
    (hflow : s.fld (R.pathCfg k) F.pathCfg.FLOW = 0) : s.paceEval k = s.enterStopping k := by
  delta State.paceEval
  extract_lets occ stop resume g run clear hold
  exact (if_pos (by rw [show run = true from hrun, decide_eq_true hocc]; rfl)).trans (if_pos hflow)

variable (hocc : s.fld (R.pathOcc k) F.pathOcc.OCC < s.fld (R.pathOccthr k) F.pathOccthr.STOP)
include hocc

theorem State.paceEval_down (hrun : s.pacing k = true) (hclear : s.dwelling k = false)
    (hdown : s.downThr k (s.fld (R.pathStat k) F.pathStat.GAIT) ≤ s.fld (R.pathOcc k) F.pathOcc.OCC)
    (hmin : s.fld (R.pathPolicy k) F.pathPolicy.GMIN < s.fld (R.pathStat k) F.pathStat.GAIT) :
    s.paceEval k = s.gaitDecide k (s.fld (R.pathStat k) F.pathStat.GAIT - 1) := by
  delta State.paceEval
  extract_lets occ stop resume g run clear hold
  refine (if_neg ?_).trans (if_pos ?_)
  · rw [decide_eq_false (Nat.not_le.mpr hocc), Bool.and_false]
    exact Bool.false_ne_true
  · rw [show run = true from hrun, show clear = !(s.dwelling k) from rfl, hclear, decide_eq_true (And.intro hdown hmin)]
    rfl

theorem State.paceEval_up (hrun : s.pacing k = true) (hclear : s.dwelling k = false)
    (hdown : s.fld (R.pathOcc k) F.pathOcc.OCC < s.downThr k (s.fld (R.pathStat k) F.pathStat.GAIT))
    (hup : s.fld (R.pathOcc k) F.pathOcc.OCC ≤ s.upThr k (s.fld (R.pathStat k) F.pathStat.GAIT))
    (hmax : s.fld (R.pathStat k) F.pathStat.GAIT < s.fld (R.pathPolicy k) F.pathPolicy.GMAX) :
    s.paceEval k = s.gaitDecide k (s.fld (R.pathStat k) F.pathStat.GAIT + 1) := by
  delta State.paceEval
  extract_lets occ stop resume g run clear hold
  refine (if_neg ?_).trans ((if_neg ?_).trans (if_pos ?_))
  · rw [decide_eq_false (Nat.not_le.mpr hocc), Bool.and_false]
    exact Bool.false_ne_true
  · rw [decide_eq_false (fun h => Nat.not_le.mpr hdown h.1), Bool.and_false]
    exact Bool.false_ne_true
  · rw [show run = true from hrun, show clear = !(s.dwelling k) from rfl, hclear, decide_eq_true (And.intro hup hmax)]
    rfl

/-- While the dwell runs, or between the thresholds without a hold of the loop, nothing changes. -/
theorem State.paceEval_stay (hst : s.pathState k = 2) (h : s.dwelling k = true ∨
    (s.fld (R.pathOcc k) F.pathOcc.OCC < s.downThr k (s.fld (R.pathStat k) F.pathStat.GAIT) ∧
      s.upThr k (s.fld (R.pathStat k) F.pathStat.GAIT) < s.fld (R.pathOcc k) F.pathOcc.OCC ∧ (s.pathSt k).holdByLoop = false)) :
    s.paceEval k = s := by
  delta State.paceEval
  extract_lets occ stop resume g run clear hold
  have hcase : clear = false ∨ (occ < s.downThr k g ∧ s.upThr k g < occ ∧ hold = false) :=
    h.imp (fun hd => by rw [show clear = !(s.dwelling k) from rfl, hd]; rfl) fun ⟨hd, hup, hh⟩ =>
      ⟨hd, hup, by rw [show hold = (s.bit (R.pathStat k) F.pathStat.FEED_HOLD && (s.pathSt k).holdByLoop) from rfl, hh, Bool.and_false]⟩
  have h1 : ¬(run && decide (stop ≤ occ)) = true := by
    rw [decide_eq_false (Nat.not_le.mpr hocc), Bool.and_false]
    exact Bool.false_ne_true
  have h4 : ¬(s.pathState k == 4 && clear && decide (occ ≤ resume)) = true := by
    rw [hst]
    exact Bool.false_ne_true
  refine (if_neg h1).trans ((if_neg ?_).trans ((if_neg ?_).trans ((if_neg h4).trans (if_neg ?_))))
  · intro hall
    simp only [Bool.and_eq_true, decide_eq_true_eq] at hall
    obtain ⟨⟨-, hc⟩, hle, -⟩ := hall
    obtain hf | ⟨hd, -⟩ := hcase
    · exact Bool.false_ne_true (hf.symm.trans hc)
    · exact Nat.not_le.mpr hd hle
  · intro hall
    simp only [Bool.and_eq_true, decide_eq_true_eq] at hall
    obtain ⟨⟨-, hc⟩, hle, -⟩ := hall
    obtain hf | ⟨-, hup, -⟩ := hcase
    · exact Bool.false_ne_true (hf.symm.trans hc)
    · exact Nat.not_le.mpr hup hle
  · intro hall
    simp only [Bool.and_eq_true] at hall
    obtain ⟨⟨hh, hc⟩, -⟩ := hall
    obtain hf | ⟨-, -, hf⟩ := hcase
    · exact Bool.false_ne_true (hf.symm.trans hc)
    · exact Bool.false_ne_true (hf.symm.trans hh)

omit hocc

/-- A stopped path restarts at RESUME once its dwell is clear. -/
theorem State.paceEval_restart (hst : s.pathState k = 4) (hclear : s.dwelling k = false)
    (hres : s.fld (R.pathOcc k) F.pathOcc.OCC ≤ s.fld (R.pathOccthr k) F.pathOccthr.RESUME) : s.paceEval k = s.restart k := by
  delta State.paceEval
  extract_lets occ stop resume g run clear hold
  have hrun : run = false := by
    rw [show run = (s.pathState k == 2 && s.pathOn k && (s.pathSt k).atRest == .stay) from rfl, hst]
    rfl
  refine (if_neg ?_).trans ((if_neg ?_).trans ((if_neg ?_).trans (if_pos ?_)))
  · rw [hrun]
    exact Bool.false_ne_true
  · rw [hrun]
    exact Bool.false_ne_true
  · rw [hrun]
    exact Bool.false_ne_true
  · rw [hst, show clear = !(s.dwelling k) from rfl, hclear, decide_eq_true hres]
    rfl

end

section
variable {s : State} (k : Fin 4) (hu : s.usual)
include hu

/-- A seam stop: the path decelerates with the feed held and a dwell (R230, R231, R244). -/
theorem done_enterStopping : ∃ t, State.done (s.enterStopping k) = .next t ∧
    t = { s with regs := t.regs, gait := t.gait, sys := { s.sys with etimPresc := t.sys.etimPresc } } ∧
    t.pathState k = 3 ∧ t.fld (R.pathStat k) F.pathStat.FEED_HOLD = 1 ∧ (t.pathSt k).target = 0 ∧ (t.pathSt k).atRest = .stop ∧
    DwellStarted s t k ∧ (∀ off, off ∉ pathViews k ++ dwellRegs s k → t.reg off = s.reg off) := by
  have hheld : s.GaitOnly ((s.rampDown k false .stop).feedHold k 1) (pathViews k) :=
    ((s.rampDown_gaitOnly k _ _).mono (singleton_pathStat_subset k)).trans (State.feedHold_gaitOnly _ k 1)
  have hstop := State.enterPath_gaitOnly (((s.rampDown k false .stop).feedHold k 1).dwellStart k) k 3
  have hframe := (hheld.dwellStart (pathCfg_not_mem_pathViews k)).trans (hstop.mono (List.subset_append_left _ (dwellRegs s k)))
  have hpath : (s.enterStopping k).pathSt k = { s.pathSt k with target := 0, hard := false, atRest := .stop } := by
    rw [State.enterStopping, State.pathSt_enterPath, State.pathSt_dwellStart, State.pathSt_feedHold, State.pathSt_rampDown]
  have hfeed : (s.enterStopping k).fld (R.pathStat k) F.pathStat.FEED_HOLD = 1 := by
    rw [State.enterStopping, State.fld_enterPath_above _ _ _ _ (by decide) (by decide),
      State.fld_dwellStart_pathStat _ _ _ _ (by decide) (by decide), State.fld_feedHold_same _ _ _ (by decide)]
  have hdwell : DwellStarted s (s.enterStopping k) k :=
    DwellStarted.congr (hheld.dwellStarted (pathCfg_not_mem_pathViews k) (pathPolicy_not_mem_pathViews k)) rfl rfl fun off ho =>
      hstop.reg off (not_mem_pathViews (.inl (by omega)) (by simp only [R.pathStat]; omega))
  exact ⟨_, State.done_of_gaitOnly (State.usual_prescRestarted _ hu) hframe
      (inTransport_append (inTransport_pathViews k) (inTransport_dwellRegs s k)),
    hframe.state_of_presc, State.pathState_enterPath _ _ _ (by decide), hfeed, by rw [hpath], by rw [hpath], hdwell, hframe.reg⟩

/-- A gait decision in RUN (R228-R230). -/
theorem done_gaitDecide {h : Nat} (hh : h < 8) (hst : s.pathState k = 2) : ∃ t, State.done (s.gaitDecide k h) = .next t ∧ t.pathState k = 2 ∧
    t = { s with regs := t.regs, gait := t.gait, pulses := addSorted s.pulses (168 + k), sys := { s.sys with etimPresc := t.sys.etimPresc } } ∧
    t.fld (R.pathStat k) F.pathStat.GAIT = h ∧ (t.pathSt k).target = s.gaitSpeed k h ∧ DwellStarted s t k ∧
    (∀ off, off ∉ R.pathGaitCnt k :: dwellRegs s k → t.reg off = s.reg off) := by
  have hframe := s.gaitDecide_gaitOnly h k
  exact ⟨_, State.done_of_gaitOnly (State.usual_prescRestarted _ (State.usual_fire _ hu)) hframe
      (inTransport_cons (by simp only [R.pathGaitCnt]; omega) (inTransport_dwellRegs s k)),
    (s.pathState_gaitDecide k h).trans hst, hframe.state_of_presc, s.fld_gaitDecide_gait k hh, s.target_gaitDecide k h,
    s.dwellStarted_gaitDecide k h, hframe.reg⟩

/-- The loop shifts one gait down or up between the thresholds. -/
theorem exec_pacingLoopEval_shift (hst : s.pathState k = 2) (hon : s.pathOn k = true) (hrest : (s.pathSt k).atRest = .stay)
    (hocc : s.fld (R.pathOcc k) F.pathOcc.OCC < s.fld (R.pathOccthr k) F.pathOccthr.STOP) (hclear : s.dwelling k = false) {h : Nat}
    (hshift : (h + 1 = s.fld (R.pathStat k) F.pathStat.GAIT ∧
        s.fld (R.pathGthr k (s.fld (R.pathStat k) F.pathStat.GAIT)) F.pathGthr.DOWN ≤ s.fld (R.pathOcc k) F.pathOcc.OCC ∧
        s.fld (R.pathPolicy k) F.pathPolicy.GMIN < s.fld (R.pathStat k) F.pathStat.GAIT) ∨
      (h = s.fld (R.pathStat k) F.pathStat.GAIT + 1 ∧
        s.fld (R.pathOcc k) F.pathOcc.OCC < s.fld (R.pathGthr k (s.fld (R.pathStat k) F.pathStat.GAIT)) F.pathGthr.DOWN ∧
        s.fld (R.pathOcc k) F.pathOcc.OCC ≤ s.fld (R.pathGthr k (s.fld (R.pathStat k) F.pathStat.GAIT)) F.pathGthr.UP ∧
        s.fld (R.pathStat k) F.pathStat.GAIT < s.fld (R.pathPolicy k) F.pathPolicy.GMAX)) :
    ∃ t, exec (.pacingLoopEval k) s = .next t ∧ t.pathState k = 2 ∧
      t = { s with regs := t.regs, gait := t.gait, pulses := addSorted s.pulses (168 + k), sys := { s.sys with etimPresc := t.sys.etimPresc } } ∧
      t.fld (R.pathStat k) F.pathStat.GAIT = h ∧ (t.pathSt k).target = s.gaitSpeed k h ∧ DwellStarted s t k ∧
      (∀ off, off ∉ R.pathGaitCnt k :: dwellRegs s k → t.reg off = s.reg off) := by
  have hrun : s.pacing k = true := by rw [State.pacing, hst, hon, hrest]; rfl
  have hgait : s.fld (R.pathStat k) F.pathStat.GAIT < 8 := BitVec.isLt _
  have hmax : s.fld (R.pathPolicy k) F.pathPolicy.GMAX < 8 := BitVec.isLt _
  obtain ⟨hh, hdown, hmin⟩ | ⟨hh, hdown, hup, hlim⟩ := hshift
  · have heq := s.paceEval_down k hocc hrun hclear hdown hmin
    rw [show s.fld (R.pathStat k) F.pathStat.GAIT - 1 = h by omega] at heq
    obtain ⟨t, ht, hrest⟩ := done_gaitDecide k hu (h := h) (by omega) hst
    exact ⟨t, (congrArg State.done heq).trans ht, hrest⟩
  · have heq := s.paceEval_up k hocc hrun hclear hdown hup hlim
    rw [← hh] at heq
    obtain ⟨t, ht, hrest⟩ := done_gaitDecide k hu (h := h) (by omega) hst
    exact ⟨t, (congrArg State.done heq).trans ht, hrest⟩

theorem exec_pacingLoopEval_stay (hst : s.pathState k = 2)
    (hocc : s.fld (R.pathOcc k) F.pathOcc.OCC < s.fld (R.pathOccthr k) F.pathOccthr.STOP) (h : s.dwelling k = true ∨
      (s.fld (R.pathOcc k) F.pathOcc.OCC < s.downThr k (s.fld (R.pathStat k) F.pathStat.GAIT) ∧
        s.upThr k (s.fld (R.pathStat k) F.pathStat.GAIT) < s.fld (R.pathOcc k) F.pathOcc.OCC ∧ (s.pathSt k).holdByLoop = false)) :
    exec (.pacingLoopEval k) s = .next s :=
  (congrArg State.done (s.paceEval_stay k hocc hst h)).trans (State.done_of_usual hu)

theorem exec_pacingLoopEval_restart (hst : s.pathState k = 4) (hclear : s.dwelling k = false)
    (hres : s.fld (R.pathOcc k) F.pathOcc.OCC ≤ s.fld (R.pathOccthr k) F.pathOccthr.RESUME) (hseam : s.fld (R.pathCfg k) F.pathCfg.SEAM_EN = 1) :
    ∃ t, exec (.pacingLoopEval k) s = .next t ∧ t = { s with regs := t.regs, gait := t.gait } ∧ t.pathState k = 5 ∧ (t.pathSt k).reverse = true ∧
      (∀ off, off ∉ pathViews k → t.reg off = s.reg off) := by
  have hf := s.backOff_gaitOnly k
  exact ⟨_, (congrArg State.done ((s.paceEval_restart k hst hclear hres).trans (s.restart_of_seam k hseam))).trans
    (State.done_of_gaitOnly hu hf (inTransport_pathViews k)), hf.state, State.pathState_enterPath _ _ _ (by decide), by rw [State.pathSt_backOff], hf.reg⟩

end

/-! ## Coming to rest -/

section
variable {s : State} (k : Fin 4) (hu : s.usual)
include hu

theorem exec_pathAtRest_moving (h : (s.pathSt k).speed ≠ 0) : exec (.pathAtRest k) s = .next s := by
  have hid : s.comeToRest k = s := if_pos (.inr h)
  exact (congrArg State.done hid).trans (State.done_of_usual hu)

/-- A path at rest after HALT. -/
theorem exec_pathAtRest_halt (hspeed : (s.pathSt k).speed = 0) (htarget : (s.pathSt k).target = 0) (hrest : (s.pathSt k).atRest = .halt) :
    ∃ t, exec (.pathAtRest k) s = .next t ∧ t = { s with regs := t.regs, gait := t.gait, pulses := addSorted s.pulses (172 + k) } ∧
      t.pathState k = 1 ∧ (t.pathSt k).reverse = false ∧ (∀ off, off ∉ pathViews k → t.reg off = s.reg off) := by
  have hdef : s.comeToRest k = ((s.setPathSt k { s.pathSt k with atRest := .stay, reverse := false }).fire (172 + k)).enterPath k 1 := by
    rw [State.comeToRest]
    refine (if_neg (by rw [hspeed, htarget]; decide)).trans ?_
    dsimp only
    rw [hrest]
  have hf : (s.fire (172 + k)).GaitOnly (((s.setPathSt k { s.pathSt k with atRest := .stay, reverse := false }).fire (172 + k)).enterPath k 1)
      (pathViews k) := ((State.GaitOnly.setPathSt s k _).fire _).trans (State.enterPath_gaitOnly _ k 1)
  refine ⟨_, (congrArg State.done hdef).trans (State.done_of_gaitOnly (State.usual_fire _ hu) hf (inTransport_pathViews k)), hf.state,
    State.pathState_enterPath _ _ _ (by decide), ?_, hf.reg⟩
  rw [State.pathSt_enterPath, State.pathSt_fire, State.pathSt_setPathSt_same]

omit hu in
/-- The levels of the checkpoints rest on PS_IN and on the checkpoints' settings. -/
theorem State.chkLevels_congr {t : State} {k : Nat} (hps : t.reg R.gaitPsIn = s.reg R.gaitPsIn)
    (hchk : ∀ i, i < 8 → t.reg (R.pathChkA k i) = s.reg (R.pathChkA k i)) : t.chkLevels k = s.chkLevels k := by
  have hcps : t.checkpoints k = s.checkpoints k := List.filter_congr fun i hi =>
    congrArg (· != 0) (State.fld_of_reg (hchk i (List.mem_range.mp hi)) F.pathChkA.EN)
  rw [State.chkLevels, State.chkLevels, hcps, hps]
  refine congrArg planeMask (List.filter_congr fun i hi => ?_)
  rw [State.fld_of_reg (hchk i (List.mem_range.mp (List.mem_filter.mp hi).1)) _]

/-- A path at rest within a window, its last line noted (R231). -/
def State.restNoted (s : State) (k : Nat) : State :=
  ((s.setPathSt k { s.pathSt k with atRest := .stay, reverse := false }).setReg64 (R.pathLastLo k) (R.pathLastHi k)
    (s.reg64 (R.lpLastLo (s.fld (R.pathCfg k) F.pathCfg.LP)) (R.lpLastHi (s.fld (R.pathCfg k) F.pathCfg.LP)))).fire (172 + k)

omit hu in
theorem State.restNoted_gaitOnly : (s.fire (172 + k)).GaitOnly (s.restNoted k) [R.pathLastLo k, R.pathLastHi k] :=
  ((State.GaitOnly.setPathSt s k _).trans ((State.GaitOnly.setReg _ _ (by simp)).trans (.setReg _ _ (by simp)))).fire _

omit hu in
theorem State.pathSt_restNoted : (s.restNoted k).pathSt k = { s.pathSt k with atRest := .stay, reverse := false } :=
  State.pathSt_setPathSt_same s k _

theorem exec_pathAtRest_stop (hspeed : (s.pathSt k).speed = 0) (htarget : (s.pathSt k).target = 0) (hrest : (s.pathSt k).atRest = .stop)
    (hwin : s.pathWindow k = true) (hseam : ∀ h, h < 4 → s.fld (R.seamCfg h) F.seamCfg.EN = 0) :
    let lp := s.fld (R.pathCfg k) F.pathCfg.LP
    ∃ t, exec (.pathAtRest k) s = .next t ∧ t = { s with regs := t.regs, gait := t.gait, pulses := addSorted s.pulses (172 + k) } ∧
      t.pathState k = 4 ∧ t.reg (R.pathLastLo k) = s.reg (R.lpLastLo lp) ∧ t.reg (R.pathLastHi k) = s.reg (R.lpLastHi lp) ∧
      (t.pathSt k).slipDue = true ∧ (t.pathSt k).restPos = s.pathPos k ∧ (t.pathSt k).restLevels = s.chkLevels k ∧
      (∀ off, off ∉ R.pathLastLo k :: R.pathLastHi k :: pathViews k → t.reg off = s.reg off) := by
  intro lp
  have hk := k.isLt
  have hnoted := State.restNoted_gaitOnly (s := s) k
  have hpath := State.pathSt_restNoted (s := s) k
  have hnot : ∀ o, o ∉ [R.pathLastLo k, R.pathLastHi k] → (s.restNoted k).reg o = s.reg o := fun o ho => hnoted.reg o ho
  have hout : ∀ o, o < 0x18400 ∨ o % 0x100 < 0x4 → o ∉ [R.pathLastLo k, R.pathLastHi k] := fun o ho => by
    simp only [List.mem_cons, List.not_mem_nil, or_false, R.pathLastLo, R.pathLastHi]
    omega
  have hgroups : (s.restNoted k).seamGroups k = [] := by
    refine List.filter_eq_nil_iff.mpr fun h hh hall => ?_
    simp only [Bool.and_eq_true] at hall
    obtain ⟨⟨⟨hen, -⟩, -⟩, -⟩ := hall
    have hfld := State.fld_of_reg (hnot (R.seamCfg h) (by
      have := List.mem_range.mp hh
      simp only [List.mem_cons, List.not_mem_nil, or_false, R.pathLastLo, R.pathLastHi, R.seamCfg]; omega)) F.seamCfg.EN
    rw [State.bit_eq_false (hfld.trans (hseam h (List.mem_range.mp hh)))] at hen
    exact Bool.false_ne_true hen
  have hwindow : (s.restNoted k).pathWindow k = true := by
    have hopen : ∀ u, (s.restNoted k).openWindow u = s.openWindow u := fun u =>
      State.openWindow_congr (fun key => by rw [hnoted.state]; rfl) u
    have hlinks : (s.restNoted k).fld (R.pathLinks k) F.pathLinks.TRKS = s.fld (R.pathLinks k) F.pathLinks.TRKS :=
      State.fld_of_reg (hnot _ (by simp only [List.mem_cons, List.not_mem_nil, or_false, R.pathLastLo, R.pathLastHi, R.pathLinks]; omega)) _
    obtain ⟨u, hu4, hu⟩ := List.any_eq_true.mp hwin
    refine List.any_eq_true.mpr ⟨u, hu4, ?_⟩
    rw [hopen, hlinks, State.fld_of_reg (hnot (R.uCfg u) (hout _ (.inl (by have := List.mem_range.mp hu4; simp only [R.uCfg]; omega)))) _]
    exact hu
  have hpos : (s.restNoted k).pathPos k = s.pathPos k := State.pathPos_congr (hnot _ (hout _ (.inr (by simp only [R.pathCfg]; omega))))
    fun o _ ho => hnot o (hout o (.inl ho))
  have hlevels : (s.restNoted k).chkLevels k = s.chkLevels k := State.chkLevels_congr (hnot _ (hout _ (.inl (by decide)))) fun i hi =>
    hnot _ (by simp only [List.mem_cons, List.not_mem_nil, or_false, R.pathLastLo, R.pathLastHi, R.pathChkA]; omega)
  have hdef : s.comeToRest k = ((s.restNoted k).setPathSt k { (s.restNoted k).pathSt k with
      restPos := (s.restNoted k).pathPos k, restLevels := (s.restNoted k).chkLevels k, slipDue := true, overlap := 0 }).enterPath k 4 := by
    rw [State.comeToRest]
    refine (if_neg (by rw [hspeed, htarget]; decide)).trans ?_
    dsimp only
    rw [hrest]
    dsimp only
    have hnotedEq : ((s.setPathSt k { s.pathSt k with atRest := .stay, reverse := false }).setReg64 (R.pathLastLo k) (R.pathLastHi k)
        ((s.setPathSt k { s.pathSt k with atRest := .stay, reverse := false }).reg64 (R.lpLastLo (s.pcfg k F.pathCfg.LP))
          (R.lpLastHi (s.pcfg k F.pathCfg.LP)))).fire (172 + k) = s.restNoted k := rfl
    rw [hnotedEq, hgroups, List.foldl_nil, if_pos hwindow]
  obtain ⟨hlo, hhi⟩ := (s.setPathSt k { s.pathSt k with atRest := .stay, reverse := false }).reg_copy64 (lo := R.pathLastLo k) (hi := R.pathLastHi k)
    (R.lpLastLo lp) (R.lpLastHi lp) (by simp only [R.pathLastLo, R.pathLastHi]; omega)
  have hlo' : (s.restNoted k).reg (R.pathLastLo k) = s.reg (R.lpLastLo lp) := hlo
  have hhi' : (s.restNoted k).reg (R.pathLastHi k) = s.reg (R.lpLastHi lp) := hhi
  generalize s.restNoted k = x at *
  have hview : x.GaitOnly ((x.setPathSt k { x.pathSt k with restPos := x.pathPos k, restLevels := x.chkLevels k, slipDue := true, overlap := 0 }).enterPath k 4)
      (pathViews k) := (State.GaitOnly.setPathSt x k _).trans (State.enterPath_gaitOnly _ k 4)
  have hf := (hnoted.mono (m := R.pathLastLo k :: R.pathLastHi k :: pathViews k) (by simp)).trans
    (hview.mono (fun o ho => List.mem_cons_of_mem _ (List.mem_cons_of_mem _ ho)))
  have hlast : ∀ o, o = R.pathLastLo k ∨ o = R.pathLastHi k → o ∉ pathViews k := fun o ho =>
    not_mem_pathViews (by simp only [R.pathLastLo, R.pathLastHi] at ho; omega) (by simp only [R.pathLastLo, R.pathLastHi, R.pathStat] at ho ⊢; omega)
  refine ⟨_, (congrArg State.done hdef).trans (State.done_of_gaitOnly (State.usual_fire _ hu) hf (inTransport_cons (by simp only [R.pathLastLo]; omega)
    (inTransport_cons (by simp only [R.pathLastHi]; omega) (inTransport_pathViews k)))), hf.state, State.pathState_enterPath _ _ _ (by decide),
    (hview.reg _ (hlast _ (.inl rfl))).trans hlo', (hview.reg _ (hlast _ (.inr rfl))).trans hhi', ?_, ?_, ?_, hf.reg⟩
  · rw [State.pathSt_enterPath, State.pathSt_setPathSt_same]
  · rw [State.pathSt_enterPath, State.pathSt_setPathSt_same, hpos]
  · rw [State.pathSt_enterPath, State.pathSt_setPathSt_same, hlevels]

end

/-! ## The back-off, the end of CLEAR_JAM, the loss of the host -/

section
variable {s : State} (k : Fin 4) (hu : s.usual)
include hu

theorem exec_backoffComplete (hst : s.pathState k = 5) (hpos : s.pathPos k ≤ (s.pathSt k).goal) :
    ∃ t, exec (.backoffComplete k) s = .next t ∧ t = { s with regs := t.regs, gait := t.gait } ∧ t.pathState k = 6 ∧
      (t.pathSt k).speed = 0 ∧ (t.pathSt k).reverse = false ∧ (t.pathSt k).overlap = 0 ∧
      (t.pathSt k).target = s.gaitSpeed k (s.fld (R.pathSeam k) F.pathSeam.SEAM_GAIT) ∧ (∀ off, off ∉ pathViews k → t.reg off = s.reg off) := by
  have hdef : s.backoffDone k = ((s.setPathSt k { s.pathSt k with speed := 0, reverse := false, overlap := 0 }).rampTo k
      (s.fld (R.pathSeam k) F.pathSeam.SEAM_GAIT)).enterPath k 6 := if_pos ⟨hst, hpos⟩
  have hf : s.GaitOnly (((s.setPathSt k { s.pathSt k with speed := 0, reverse := false, overlap := 0 }).rampTo k
      (s.fld (R.pathSeam k) F.pathSeam.SEAM_GAIT)).enterPath k 6) (pathViews k) :=
    ((State.GaitOnly.setPathSt s k _).trans ((State.rampTo_gaitOnly _ k _).mono (singleton_pathStat_subset k))).trans (State.enterPath_gaitOnly _ k 6)
  have hpath : (((s.setPathSt k { s.pathSt k with speed := 0, reverse := false, overlap := 0 }).rampTo k
      (s.fld (R.pathSeam k) F.pathSeam.SEAM_GAIT)).enterPath k 6).pathSt k = { s.pathSt k with
        speed := 0, reverse := false, overlap := 0, target := s.gaitSpeed k (s.fld (R.pathSeam k) F.pathSeam.SEAM_GAIT), hard := false, atRest := .stay } := by
    rw [State.pathSt_enterPath, State.pathSt_rampTo, State.pathSt_setPathSt_same]
    rfl
  exact ⟨_, (congrArg State.done hdef).trans (State.done_of_gaitOnly hu hf (inTransport_pathViews k)), hf.state,
    State.pathState_enterPath _ _ _ (by decide), by rw [hpath], by rw [hpath], by rw [hpath], by rw [hpath], hf.reg⟩

theorem exec_clearJamReverseDone (hst : s.pathState k = 7) (hrest : (s.pathSt k).atRest = .cleared) (hpos : s.pathPos k ≤ (s.pathSt k).goal) :
    ∃ t, exec (.clearJamReverseDone k) s = .next t ∧ t = { s with regs := t.regs, gait := t.gait } ∧ (t.pathSt k).speed = 0 ∧
      (s.chkLevels k = 0 → t.pathState k = 1 ∧ t.fld (R.pathOcc k) F.pathOcc.IN_TRACK = 0) ∧
      (s.chkLevels k ≠ 0 → t.pathState k = 7 ∧ t.fld (R.pathStat k) F.pathStat.JAM_CAUSE = 7) ∧
      (∀ off, off ∉ R.pathOcc k :: pathViews k → t.reg off = s.reg off) := by
  have hk := k.isLt
  have hdef : s.clearJamReverse k = s.clearJamEnd k := if_pos ⟨hst, hrest, hpos⟩
  have hf := s.clearJamEnd_gaitOnly k
  have hspeed : ((s.clearJamEnd k).pathSt k).speed = 0 := by
    by_cases h : s.chkLevels k = 0
    · rw [s.clearJamEnd_of_clear k h, State.pathSt_enterPath, State.pathSt_setFld, State.pathSt_setPathSt_same, State.jamRested,
        State.pathSt_setPathSt_same]
    · rw [s.clearJamEnd_of_covered k h, State.pathSt_refreshPath, State.pathSt_setPstat, State.jamRested, State.pathSt_setPathSt_same]
  exact ⟨_, (congrArg State.done hdef).trans (State.done_of_gaitOnly hu hf (inTransport_cons (by simp only [R.pathOcc]; omega) (inTransport_pathViews k))),
    hf.state, hspeed, fun h => ⟨(s.clearJamEnd_clear k h).1, (s.clearJamEnd_clear k h).2.1⟩, fun h => s.clearJamEnd_covered k hst h, hf.reg⟩

theorem exec_hostLossEvent (hsel : s.selOn (R.pathHlossSel k) = true) (hon : s.pathOn k = true) (hst : s.pathState k ≠ 2) :
    ∃ t, exec (.hostLossEvent k) s = .next t ∧ t = { s with regs := t.regs, gait := t.gait } ∧ t.pathState k = s.pathState k ∧
      t.fld (R.pathStat k) F.pathStat.FEED_HOLD = 1 ∧ (∀ off, off ∉ pathViews k → t.reg off = s.reg off) := by
  have hdef : s.hostLoss k = s.feedHold k 1 := by
    rw [State.hostLoss]
    refine (if_neg (by rw [hsel, hon]; decide)).trans ?_
    rw [if_neg hst]
  have hf := s.feedHold_gaitOnly k 1
  refine ⟨_, (congrArg State.done hdef).trans (State.done_of_gaitOnly hu hf (inTransport_pathViews k)), hf.state, ?_,
    s.fld_feedHold_same k 1 (by decide), hf.reg⟩
  rw [State.pathState, State.feedHold, State.fld_refreshPath_pathStat, State.fld_setPstat_apart _ _ _ _ _ (by decide) (by decide) (by decide), State.pathState]

end

/-! ## The overlap compare -/

/-- The frame of transport and of the timing sequencer. -/
def Frame.gaitTsq : Frame :=
  ⟨fun s t => { s with regs := t.regs, gait := t.gait, tsq := t.tsq }, fun _ => rfl, fun _ _ _ => rfl, fun _ _ _ => rfl,
    fun _ _ _ => rfl, fun _ _ => State.endsAlike_of rfl⟩

section
variable (s : State) (p cycle i : Nat)

/-- An overlap line started while its program was idle (R235). -/
def State.overlapStarted : State :=
  ((s.lineShown p).setLp p ((s.lp p).started (s.fld (R.lpCfg p) F.lpCfg.START) cycle (overlapBase + i))).driveLs

/-- An overlap line takes no pending values (R235). -/
theorem State.startLine_of_overlap (hrun : (s.lp p).run = .idle) : s.startLine p cycle (overlapBase + i) = s.overlapStarted p cycle i := by
  have hlp : (s.lineShown p).lp p = s.lp p := rfl
  have hstart : (s.lineShown p).fld (R.lpCfg p) F.lpCfg.START = s.fld (R.lpCfg p) F.lpCfg.START :=
    (s.lineShown_regsBut p).fld (by simp only [List.mem_cons, List.not_mem_nil, or_false, R.lpCfg, R.lpStat, R.tsqStat]; omega) _
  have hflush : ¬((s.lp p).run == .flush) = true := by rw [hrun]; decide
  rw [State.startLine, if_neg hflush, if_pos (Nat.le_add_right _ _)]
  change ((s.lineShown p).setLp p (((s.lineShown p).lp p).started ((s.lineShown p).fld (R.lpCfg p) F.lpCfg.START) cycle (overlapBase + i))).driveLs = _
  rw [hlp, hstart]
  rfl

theorem State.overlapStarted_tsqOnly : s.TsqOnly (s.overlapStarted p cycle i) [R.lpStat p, R.tsqStat] :=
  ((((((State.TsqOnly.refl _ _).setFld _ _ (by simp)).setFld _ _ (by simp)).setFld _ _ (by simp)).setFld _ _ (by simp)).setLp p _).driveLs

theorem State.lp_overlapStarted : (s.overlapStarted p cycle i).lp p =
    (s.lp p).started (s.fld (R.lpCfg p) F.lpCfg.START) cycle (overlapBase + i) := by
  rw [State.overlapStarted, State.lp_driveLs, State.lp_setLp_same]

end

section
variable {s : State} (k : Fin 4) (hu : s.usual)
include hu

theorem exec_overlapCompare (p cycle : Nat) (hst : s.pathState k = 6)
    (hmore : (s.pathSt k).overlap + 1 < s.fld (R.pathSeam k) F.pathSeam.OVERLAP)
    (hlps : s.fld (R.pathLinks k) F.pathLinks.LPS = 2 ^ p) (hp : p < 8) (hen : s.fld (R.lpCfg p) F.lpCfg.EN = 1) (hrun : (s.lp p).run = .idle)
    (hgroups : ∀ h, h < 4 → s.fld (R.grpCtl h) F.grpCtl.EN = 0)
    (hpos : signed 64 (s.reg64 (R.pathLastLo k) (R.pathLastHi k)) - (s.fld (R.pathSeam k) F.pathSeam.OVERLAP - 1 - (s.pathSt k).overlap : Nat) *
      ((s.effReg (R.lpPitch (s.fld (R.pathCfg k) F.pathCfg.LP))).toNat : Int) ≤ s.pathPos k) :
    ∃ t, exec (.overlapCompare k cycle) s = .next t ∧ t = { s with regs := t.regs, gait := t.gait, tsq := t.tsq } ∧
      (t.pathSt k).overlap = (s.pathSt k).overlap + 1 ∧ (t.lp p).run = .line ∧ (t.lp p).line = 2 ^ 40 + (s.pathSt k).overlap ∧
      (t.lp p).cycle = cycle + 2 ∧ t.pathState k = 6 ∧ (∀ off, off ∉ [R.lpStat p, R.tsqStat] → t.reg off = s.reg off) := by
  have hk := k.isLt
  obtain ⟨i, hi⟩ : ∃ i, i = (s.pathSt k).overlap := ⟨_, rfl⟩
  rw [← hi] at hmore hpos ⊢
  have hgroupsOf : s.groupsOf p = [] := by
    refine List.filter_eq_nil_iff.mpr fun h hh hall => ?_
    rw [State.bit_eq_false (hgroups h (List.mem_range.mp hh))] at hall
    exact Bool.false_ne_true hall
  have hline : s.overlapLine p i cycle = s.overlapStarted p cycle i := by
    rw [State.overlapLine, hgroupsOf]
    refine (if_neg (by rw [hrun]; decide)).trans ?_
    rw [List.foldl_nil]
    dsimp only
    rw [hgroupsOf, List.foldl_nil, State.startLine_of_overlap _ _ _ _ hrun]
  have honly := s.overlapStarted_tsqOnly p cycle i
  have hlp := s.lp_overlapStarted p cycle i
  have hseams : (s.overlapStarted p cycle i).seamGroups k = [] := by
    refine List.filter_eq_nil_iff.mpr fun h hh hall => ?_
    simp only [Bool.and_eq_true] at hall
    obtain ⟨⟨-, hgrp⟩, -⟩ := hall
    have hfld := honly.fld (off := R.grpCtl h) (by
      have := List.mem_range.mp hh
      simp only [List.mem_cons, List.not_mem_nil, or_false, R.grpCtl, R.lpStat, R.tsqStat]; omega) F.grpCtl.EN
    rw [State.bit_eq_false (hfld.trans (hgroups h (List.mem_range.mp hh)))] at hgrp
    exact Bool.false_ne_true hgrp
  have hpath : (s.overlapStarted p cycle i).pathSt k = s.pathSt k := by
    rw [State.pathSt, honly.state, State.pathSt]
  have hfilter : (setBits (s.fld (R.pathLinks k) F.pathLinks.LPS) 8).filter (fun p => s.bit (R.lpCfg p) F.lpCfg.EN) = [p] := by
    rw [hlps, setBits_two_pow hp, List.filter_singleton, State.bit_eq_true hen]
    rfl
  have hdef : s.overlapCompare k cycle = (s.overlapStarted p cycle i).setPathSt k { s.pathSt k with overlap := i + 1 } := by
    delta State.overlapCompare
    extract_lets x n lp pitch last j
    have hj : j = i := hi.symm
    refine (if_neg ?_).trans ?_
    · rintro (h | h | h)
      · exact h hst
      · rw [hj] at h
        exact Nat.not_le.mpr (Nat.lt_of_succ_lt hmore) h
      · rw [hj] at h
        exact Int.not_le.mpr h hpos
    · have hmeas : ∀ a b c : State, c = a.setPathSt k { a.pathSt k with overlap := j + 1 } → a = s.overlapStarted p cycle i →
          (if j + 1 < n then c else b) = (s.overlapStarted p cycle i).setPathSt k { s.pathSt k with overlap := i + 1 } := fun a b c hc ha => by
        rw [hc, ha, hpath, hj]
        exact if_pos hmore
      refine hmeas _ _ _ rfl ?_
      have hs1 : ((setBits (s.fld (R.pathLinks k) F.pathLinks.LPS) 8).filter (fun p => s.bit (R.lpCfg p) F.lpCfg.EN)).foldl
          (fun t p => t.overlapLine p j cycle) s = s.overlapStarted p cycle i := by
        rw [hfilter, List.foldl_cons, List.foldl_nil, hj, hline]
      have hfold : ∀ t : State, t = s.overlapStarted p cycle i →
          (t.seamGroups k).foldl (fun t g => t.setSeamSt g { t.seamSt g with fired := j + 1 }) t = s.overlapStarted p cycle i := fun t ht => by
        rw [ht, hseams, List.foldl_nil]
      exact hfold _ hs1
  have hf : s.Only Frame.gaitTsq ((s.overlapStarted p cycle i).setPathSt k { s.pathSt k with overlap := i + 1 }) [R.lpStat p, R.tsqStat] := by
    refine State.Only.trans (t := s.overlapStarted p cycle i) ⟨?_, honly.reg⟩ ⟨rfl, fun _ _ => rfl⟩
    exact honly.state.trans (congrArg (fun y => ({ s with regs := (s.overlapStarted p cycle i).regs, gait := y, tsq := (s.overlapStarted p cycle i).tsq } : State))
      (by rw [honly.state]))
  have hlp' : ((s.overlapStarted p cycle i).setPathSt k { s.pathSt k with overlap := i + 1 }).lp p =
      (s.lp p).started (s.fld (R.lpCfg p) F.lpCfg.START) cycle (overlapBase + i) := hlp
  refine ⟨_, (congrArg State.done hdef).trans (hf.done hu (endIgnores_of ?_)), hf.state, ?_, ?_, ?_, ?_, ?_, hf.reg⟩
  · simp only [List.mem_cons, List.not_mem_nil, or_false, R.lpStat, R.tsqStat]
    omega
  · rw [State.pathSt_setPathSt_same]
  · rw [hlp']
    rfl
  · rw [hlp']
    rfl
  · rw [hlp']
    rfl
  · rw [State.pathState, hf.fld (by simp only [List.mem_cons, List.not_mem_nil, or_false, R.lpStat, R.tsqStat, R.pathStat]; omega)]
    exact hst

end

/-- Settles O34: the pacing loop and what follows at rest as the lemmas above say. -/
theorem pacingAndRest : Obligations.PacingAndRest := by
  intro s k hu
  refine ⟨fun hst hon hrest => ⟨fun hocc hflow => ?_, fun hocc hclear => ⟨fun h hshift => exec_pacingLoopEval_shift k hu hst hon hrest hocc hclear hshift,
      fun hdown hup hhold => exec_pacingLoopEval_stay k hu hst hocc (.inr ⟨hdown, hup, hhold⟩)⟩,
      fun hocc hdwell => exec_pacingLoopEval_stay k hu hst hocc (.inl hdwell)⟩,
    exec_pacingLoopEval_restart k hu, exec_pathAtRest_moving k hu,
    fun hspeed htarget => ⟨exec_pathAtRest_stop k hu hspeed htarget, exec_pathAtRest_halt k hu hspeed htarget⟩,
    exec_backoffComplete k hu, fun p cycle hst hmore hlps hp hen hrun hgroups hpos => exec_overlapCompare k hu p cycle hst hmore hlps hp hen hrun hgroups hpos,
    exec_clearJamReverseDone k hu, exec_hostLossEvent k hu⟩
  obtain ⟨t, ht, h⟩ := done_enterStopping k hu
  exact ⟨t, (congrArg State.done (s.paceEval_stop k (by rw [State.pacing, hst, hon, hrest]; rfl) hocc hflow)).trans ht, h⟩

end Sys2Proof.Machine

/-!
The measurement of a seam by an engine (R237-R241).
-/
namespace Sys2Proof.Machine

/-! ## Words put into an inbox -/

section
variable (s : State) (e src : Nat)

theorem State.inboxPut_spec (w : Word) : s.inboxPut e w src = { s with regs := (s.inboxPut e w src).regs, pack := (s.inboxPut e w src).pack } ∧
    ((s.inboxPut e w src).eng e).inbox = (s.eng e).inbox ++ [(w, src)] ∧ (∀ m, m ≠ e → (s.inboxPut e w src).eng m = s.eng m) ∧
    s.regsBut (s.inboxPut e w src) [R.engMbx e] ∧
    (s.inboxPut e w src).fld (R.engMbx e) F.engMbx.IN_CNT = ((s.eng e).inbox.length + 1) % 32 := by
  have heng : ∀ m, (s.inboxPut e w src).eng m = if m = e then { s.eng e with inbox := (s.eng e).inbox ++ [(w, src)] } else s.eng m :=
    fun m => Table.get_set _ _ _ _ _
  refine ⟨rfl, by rw [heng, if_pos rfl], fun m hm => by rw [heng, if_neg hm], ?_, ?_⟩
  · have hset : s.regsBut (s.setEng e { s.eng e with inbox := (s.eng e).inbox ++ [(w, src)] }) [R.engMbx e] := State.regsBut_of_regs _ rfl
    exact (hset.setFld _ _ (by simp)).setFld _ _ (by simp)
  · have hown := heng e
    rw [if_pos rfl] at hown
    rw [State.inboxPut, State.mbxRefresh, State.fld_setFld_apart _ _ _ _ _ (by decide) (by decide) (by decide), State.fld_setFld _ _ _ _ (by decide)]
    have hlen : ((s.setEng e { s.eng e with inbox := (s.eng e).inbox ++ [(w, src)] }).eng e).inbox.length = (s.eng e).inbox.length + 1 :=
      (congrArg (fun x : Engine => x.inbox.length) (Table.get_set_same _ _ _ _)).trans (List.length_append ..)
    rw [hlen]
    rfl

/-- Words put into an inbox, in order. -/
def State.inboxPuts (words : List Word) : State := words.foldl (fun t w => t.inboxPut e w src) s

theorem State.inboxPuts_spec (words : List Word) :
    s.inboxPuts e src words = { s with regs := (s.inboxPuts e src words).regs, pack := (s.inboxPuts e src words).pack } ∧
    ((s.inboxPuts e src words).eng e).inbox = (s.eng e).inbox ++ words.map (fun w => (w, src)) ∧
    (∀ m, m ≠ e → (s.inboxPuts e src words).eng m = s.eng m) ∧ s.regsBut (s.inboxPuts e src words) [R.engMbx e] ∧
    (words ≠ [] → (s.inboxPuts e src words).fld (R.engMbx e) F.engMbx.IN_CNT = ((s.eng e).inbox.length + words.length) % 32) := by
  induction words generalizing s with
  | nil => exact ⟨rfl, (List.append_nil _).symm, fun _ _ => rfl, .refl _ _, fun h => absurd rfl h⟩
  | cons w words ih =>
    obtain ⟨hput, hin, hother, hreg, hcnt⟩ := s.inboxPut_spec e src w
    obtain ⟨hputs, hins, hothers, hregs, hcnts⟩ := ih (s.inboxPut e w src)
    have hcons : s.inboxPuts e src (w :: words) = (s.inboxPut e w src).inboxPuts e src words := rfl
    rw [hcons]
    generalize s.inboxPut e w src = x at *
    refine ⟨hputs.trans (by rw [hput]), ?_, fun m hm => (hothers m hm).trans (hother m hm), hreg.trans hregs, fun _ => ?_⟩
    · rw [hins, hin, List.append_assoc]
      rfl
    · cases words with
      | nil => exact hcnt
      | cons v words =>
        rw [hcnts (List.cons_ne_nil _ _), hin]
        simp only [List.length_append, List.length_cons, List.length_nil]
        congr 1
        omega

end

section
variable {s : State} (g : Fin 4) (hu : s.usual)
include hu

theorem exec_seamHandoff {e : Nat} (he : e = s.fld (R.seamCfg g) F.seamCfg.ENG) (h0 : 0 < e) (hwaits : (s.pathSt (s.seamPath g)).seams.contains g.val = true)
    (hfree : (s.seamSt g).handed = false) (hfired : (s.seamSt g).fired = s.fld (R.pathSeam (s.seamPath g)) F.pathSeam.OVERLAP)
    (hall : ∀ i, i < s.fld (R.pathSeam (s.seamPath g)) F.pathSeam.OVERLAP → (s.seamSt g).shaded.contains i = true ∨ (s.seamSt g).bad.contains i = true)
    (hroom : (s.eng e).inbox.length + 5 ≤ 16) :
    ∃ t, ∃ w : List Word, exec (.seamHandoff g) s = .next t ∧ t = { s with regs := t.regs, gait := { s.gait with seams := t.gait.seams }, pack := t.pack } ∧
      (t.seamSt g) = { s.seamSt g with handed := true } ∧ (t.eng e).inbox = (s.eng e).inbox ++ w.map (fun x => (x, 0x14)) ∧ w.length = 5 ∧
      w.head? = some (BitVec.ofNat 32 (0x53450000 + s.seamPath g * 256 + g)) ∧ w[1]? = some (BitVec.ofNat 32 (0x7E000000 + g * 0x400000)) ∧
      t.fld (R.engMbx e) F.engMbx.IN_CNT = (s.eng e).inbox.length + 5 ∧ (∀ m, m ≠ e → t.eng m = s.eng m) ∧
      (∀ off, off ≠ R.engMbx e → t.reg off = s.reg off) := by
  have hready : s.seamReady g = true := by
    rw [State.seamReady, hwaits, hfree, hfired, beq_self_eq_true]
    simp only [Bool.not_false, Bool.and_self, Bool.true_and, List.all_eq_true, List.mem_range, Bool.or_eq_true]
    exact hall
  have hdef : s.seamHandoff g = (s.setSeamSt g { s.seamSt g with handed := true }).inboxPuts e 0x14 (s.seamWords g) := by
    rw [State.seamHandoff, ← he]
    exact if_neg (by rw [hready, show s.inboxRoom e 5 = true from decide_eq_true hroom]; decide)
  obtain ⟨hstate, hin, hother, hreg, hcnt⟩ := (s.setSeamSt g { s.seamSt g with handed := true }).inboxPuts_spec e 0x14 (s.seamWords g)
  have hlen : (s.seamWords g).length = 5 := rfl
  have hseam : (s.setSeamSt g { s.seamSt g with handed := true }).seamSt g = { s.seamSt g with handed := true } :=
    (State.seamSt_setSeamSt _ _ _ _).trans (if_pos rfl)
  have heng : ∀ m, (s.setSeamSt g { s.seamSt g with handed := true }).eng m = s.eng m := fun _ => rfl
  have hset : s.setSeamSt g { s.seamSt g with handed := true } = { s with gait := { s.gait with seams := (s.setSeamSt g { s.seamSt g with handed := true }).gait.seams } } := rfl
  have hwhole : s.regsBut (s.setSeamSt g { s.seamSt g with handed := true }) [R.engMbx e] := State.regsBut_of_regs _ rfl
  generalize s.setSeamSt g { s.seamSt g with handed := true } = x at *
  have hseams : (x.inboxPuts e 0x14 (s.seamWords g)).gait.seams = x.gait.seams := by rw [hstate]
  have hgait : x.inboxPuts e 0x14 (s.seamWords g) = { s with
      regs := (x.inboxPuts e 0x14 (s.seamWords g)).regs, gait := { s.gait with seams := (x.inboxPuts e 0x14 (s.seamWords g)).gait.seams }
      pack := (x.inboxPuts e 0x14 (s.seamWords g)).pack } := by
    rw [hseams]
    exact hstate.trans (congrArg (fun y : State => ({ y with regs := (x.inboxPuts e 0x14 (s.seamWords g)).regs
                                                             pack := (x.inboxPuts e 0x14 (s.seamWords g)).pack } : State)) hset)
  have hengines : (x.inboxPuts e 0x14 (s.seamWords g)).eng 0 = s.eng 0 := (hother 0 (Nat.ne_of_lt h0)).trans (heng 0)
  have hends : s.EndsAlike (x.inboxPuts e 0x14 (s.seamWords g)) :=
    ⟨by rw [hgait], by rw [hgait], by rw [hgait], by rw [hengines], by rw [hgait], by rw [hgait], by rw [hgait]⟩
  have hregs := hwhole.trans hreg
  refine ⟨_, s.seamWords g, (congrArg State.done hdef).trans (State.done_of_endsAlike hu hends hregs (endIgnores_of ?_)), hgait, ?_, ?_, hlen, ?_, ?_, ?_, ?_, ?_⟩
  · simp only [List.mem_singleton, R.engMbx]
    omega
  · rw [State.seamSt, hseams]
    exact hseam
  · rw [hin, heng]
  · rfl
  · have hg := g.isLt
    have hword : (0x17E000000 + g.val * 0x400000) % 2 ^ 32 = 0x7E000000 + g.val * 0x400000 := by omega
    exact congrArg (fun v => some (BitVec.ofNat 32 v)) hword
  · rw [hcnt (by intro h; rw [h] at hlen; exact absurd hlen (by decide)), heng, hlen]
    exact Nat.mod_eq_of_lt (by omega)
  · exact fun m hm => (hother m hm).trans (heng m)
  · exact fun off ho => hregs off (by simpa using ho)

theorem exec_seamHandoff_full (h : s.inboxRoom (s.fld (R.seamCfg g) F.seamCfg.ENG) 5 = false) : exec (.seamHandoff g) s = .next s := by
  have hid : s.seamHandoff g = s := if_pos (by rw [h, Bool.and_false]; rfl)
  exact (congrArg State.done hid).trans (State.done_of_usual hu)

end

/-! ## A result -/

section
variable (s : State) (g : Nat) (r : SeamResult)

/-- The displacement of a result in lines, and SEAM after it. -/
def seamLines (r : SeamResult) : Int := if r.cause = 0 then roundDiv r.d 16 else 0
def State.seamApplied : Int := clampInt (-128) 127 (signed 8 (s.fld (R.grpSeam g) F.grpSeam.SEAM) + seamLines r)

/-- A result in the registers of its seam. -/
def State.seamShown : State :=
  ((((if r.cause = 0 then s.pendFld (R.grpSeam g) F.grpSeam.SEAM (unsigned 8 (s.seamApplied g r)) else s).setReg (R.seamRes g)
    (BitVec.ofNat 32 (unsigned 16 (if r.cause = 0 then r.d - 16 * seamLines r else 0) + r.qual % 256 * 2 ^ 16 +
      (if r.cause = 0 then St.success else St.seamUnverified) * 2 ^ 24))).setReg (R.seamInfo g)
    (BitVec.ofNat 32 (r.cause + min 15 r.used * 16 + unsigned 8 (s.seamApplied g r) * 2 ^ 8 +
      unsigned 16 (if r.cause = 0 then r.d else 0) * 2 ^ 16)))).count (R.pathSeamCnt (s.seamPath g))

/-- A result counted as unverified when it is not good. -/
def State.seamCounted : State := if r.cause = 0 then s.seamShown g r else (s.seamShown g r).count (R.pathUnverCnt (s.seamPath g))

/-- The seam of a group measured: it waits no longer. -/
def State.seamSettled (k : Nat) (q : SeamSt) : State :=
  (s.setPathSt k { s.pathSt k with seams := (s.pathSt k).seams.filter (fun h => h != g) }).setSeamSt g
    { yLast := q.yLast, after := if r.cause = 0 then 1 else 0, fired := 0 }

theorem State.seamExc_closed (y : Nat) (index : Nat → Nat) (h : ∀ u, u < 4 → s.openWindow u = none) : s.seamExc g y index = s := by
  refine List.foldlRecOn (motive := fun t : State => t = s) _ _ rfl fun t ht u hu => ?_
  subst ht
  dsimp only
  rw [h u (List.mem_range.mp hu)]

theorem State.seamEntries_closed (resid applied : Int) (h : ∀ u, u < 4 → s.openWindow u = none) : s.seamEntries g r resid applied = s := by
  refine List.foldlRecOn (motive := fun t : State => t = s) _ _ rfl fun t ht u hu => ?_
  subst ht
  dsimp only
  rw [h u (List.mem_range.mp hu)]

theorem State.pendFld_only (off : Nat) (f : Fld) (v : Nat) {l : List Nat} (h : off ∈ l) : s.Only Frame.eff (s.pendFld off f v) l :=
  ((State.Only.refl s l).setFld f v h).upd rfl rfl

theorem State.fld_pendFld (off : Nat) (f : Fld) (v : Nat) (h : f.lo + f.width ≤ 32) : (s.pendFld off f v).fld off f = v % 2 ^ f.width :=
  State.fld_setFld s off f v h

/-- The registers of a result. -/
def seamRegs (g k : Nat) : List Nat := [R.grpSeam g, R.seamRes g, R.seamInfo g, R.pathSeamCnt k, R.pathUnverCnt k]

theorem State.seamShown_only : s.Only Frame.eff (s.seamShown g r) (seamRegs g (s.seamPath g)) := by
  unfold State.seamShown
  refine ((State.Only.setReg ?_ _ (by simp [seamRegs])).setReg _ (by simp [seamRegs])).count (by simp [seamRegs])
  split
  · exact s.pendFld_only _ _ _ (by simp [seamRegs])
  · exact .refl s _

theorem State.seamCounted_only : s.Only Frame.eff (s.seamCounted g r) (seamRegs g (s.seamPath g)) := by
  unfold State.seamCounted
  split
  · exact s.seamShown_only g r
  · exact (s.seamShown_only g r).count (by simp [seamRegs])

theorem State.windows_seamCounted : ∀ key, (s.seamCounted g r).window key = s.window key := fun key =>
  congrArg (fun y : Geo => Table.get (fun _ => none) y.windows key) (congrArg State.geo (s.seamCounted_only g r).state :)

theorem State.gait_seamCounted : (s.seamCounted g r).gait = s.gait := (congrArg State.gait (s.seamCounted_only g r).state :)

/-- With no window open a result only shows in its registers and settles the seam. -/
theorem State.seamDone_closed (h : ∀ u, u < 4 → s.openWindow u = none) :
    s.seamDone g r = if ((s.pathSt (s.seamPath g)).seams.filter (fun h => h != g)).isEmpty
      then ((s.seamCounted g r).seamSettled g r (s.seamPath g) (s.seamSt g)).fire (180 + s.seamPath g)
      else (s.seamCounted g r).seamSettled g r (s.seamPath g) (s.seamSt g) := by
  have hclosed : ∀ u, u < 4 → (s.seamCounted g r).openWindow u = none := fun u hu => by
    rw [State.openWindow_congr (s.windows_seamCounted g r), h u hu]
  have hpath : (s.seamCounted g r).pathSt (s.seamPath g) = s.pathSt (s.seamPath g) := by
    rw [State.pathSt, s.gait_seamCounted g r, State.pathSt]
  delta State.seamDone
  extract_lets k q seam ds applied resid index n s1 s2 s3 s4 s5 lines
  have hs5 : s5 = s.seamCounted g r := by
    rw [show s5 = if r.cause = 0 then s4 else s4.count (R.pathUnverCnt k) from rfl]
    rfl
  have hs6 : lines.foldl (fun t y => t.seamExc g y index) (s5.seamEntries g r resid applied) = s.seamCounted g r := by
    rw [hs5, State.seamEntries_closed _ _ _ _ _ hclosed]
    exact List.foldlRecOn (motive := fun t : State => t = s.seamCounted g r) _ _ rfl fun t ht y _ => by
      rw [ht]
      exact State.seamExc_closed _ _ _ _ hclosed
  have hgo : ∀ s6 : State, s6 = s.seamCounted g r →
      (if ((s6.pathSt k).seams.filter (fun h => h != g)).isEmpty
        then ((s6.setPathSt k { s6.pathSt k with seams := (s6.pathSt k).seams.filter (fun h => h != g) }).setSeamSt g
          { yLast := q.yLast, after := if r.cause = 0 then 1 else 0, fired := 0 }).fire (180 + k)
        else (s6.setPathSt k { s6.pathSt k with seams := (s6.pathSt k).seams.filter (fun h => h != g) }).setSeamSt g
          { yLast := q.yLast, after := if r.cause = 0 then 1 else 0, fired := 0 }) =
      if ((s.pathSt k).seams.filter (fun h => h != g)).isEmpty
        then ((s.seamCounted g r).seamSettled g r k q).fire (180 + k) else (s.seamCounted g r).seamSettled g r k q := fun s6 h6 => by
    have hk : (s.seamCounted g r).pathSt k = s.pathSt k := hpath
    unfold State.seamSettled
    rw [h6, hk]
  exact hgo _ hs6

end

/-! ## What a result leaves -/

/-- The frame of a seam's result. -/
def Frame.seamEff : Frame :=
  ⟨fun s t => { s with regs := t.regs, eff := t.eff, gait := t.gait, pulses := t.pulses }, fun _ => rfl, fun _ _ _ => rfl, fun _ _ _ => rfl,
    fun _ _ _ => rfl, fun _ _ => State.endsAlike_of rfl⟩

theorem State.eff_setReg (s : State) (o : Nat) (w : Word) : (s.setReg o w).eff = s.eff := rfl
theorem State.eff_count (s : State) (o : Nat) : (s.count o).eff = s.eff := rfl

theorem State.effReg_congr {s t : State} {off : Nat} (heff : t.eff = s.eff) (hreg : t.reg off = s.reg off) : t.effReg off = s.effReg off := by
  have hget : ∀ e : Table Word, Table.get t.reg e off = Table.get s.reg e off := fun e => by
    induction e with
    | nil => exact hreg
    | cons x r ih => rw [Table.get, Table.get, ih]
  rw [State.effReg, State.effReg, heff, hget]

/-- A Next line field written by the hardware leaves what is in effect. -/
theorem State.effReg_pendFld (s : State) (off : Nat) (f : Fld) (v : Nat) : (s.pendFld off f v).effReg off = s.effReg off := by
  delta State.pendFld
  extract_lets e s1
  rw [State.effReg]
  dsimp only
  split
  next h => rw [Table.get_erase, if_pos rfl]; exact h
  next => exact Table.get_insert_erase _ _ _ _

section
variable (s : State) (g : Nat) (r : SeamResult)

/-- The state at the end of a result. -/
def State.seamEnd : State :=
  if ((s.pathSt (s.seamPath g)).seams.filter (fun h => h != g)).isEmpty
    then ((s.seamCounted g r).seamSettled g r (s.seamPath g) (s.seamSt g)).fire (180 + s.seamPath g)
    else (s.seamCounted g r).seamSettled g r (s.seamPath g) (s.seamSt g)

theorem State.seamSettled_only (x : State) (k : Nat) (q : SeamSt) (l : List Nat) : x.Only Frame.seamEff (x.seamSettled g r k q) l :=
  ⟨rfl, fun _ _ => rfl⟩

theorem State.regs_seamSettled (x : State) (k : Nat) (q : SeamSt) :
    (x.seamSettled g r k q).regs = x.regs ∧ (x.seamSettled g r k q).eff = x.eff := ⟨rfl, rfl⟩

theorem State.fire_onlySeam (x : State) (ev : Nat) (l : List Nat) : x.Only Frame.seamEff (x.fire ev) l := ⟨rfl, fun _ _ => rfl⟩

theorem State.regs_fire (x : State) (ev : Nat) : (x.fire ev).regs = x.regs ∧ (x.fire ev).eff = x.eff := ⟨rfl, rfl⟩

theorem State.regs_seamEnd : (s.seamEnd g r).regs = (s.seamCounted g r).regs ∧ (s.seamEnd g r).eff = (s.seamCounted g r).eff := by
  have h := State.regs_seamSettled g r (s.seamCounted g r) (s.seamPath g) (s.seamSt g)
  unfold State.seamEnd
  split
  · rwa [(State.regs_fire _ _).1, (State.regs_fire _ _).2]
  · exact h

theorem State.seamEnd_only : s.Only Frame.seamEff (s.seamEnd g r) (seamRegs g (s.seamPath g)) := by
  have hcount : s.Only Frame.seamEff (s.seamCounted g r) (seamRegs g (s.seamPath g)) := (s.seamCounted_only g r).widen fun _ _ => rfl
  have hsettled := hcount.trans (State.seamSettled_only g r (s.seamCounted g r) (s.seamPath g) (s.seamSt g) _)
  unfold State.seamEnd
  split
  · exact hsettled.trans (State.fire_onlySeam _ _ _)
  · exact hsettled

/-- The group's seam waits no longer, and its event tells the last one. -/
theorem State.seamEnd_spec : ((s.seamEnd g r).seamSt g).handed = false ∧
    ((s.seamEnd g r).pathSt (s.seamPath g)).seams = (s.pathSt (s.seamPath g)).seams.filter (fun h => h != g) ∧
    (∀ ev, ev ∈ (s.seamEnd g r).pulses ↔ ev ∈ s.pulses ∨ (ev = 180 + s.seamPath g ∧ ((s.seamEnd g r).pathSt (s.seamPath g)).seams = [])) := by
  have hseam : ((s.seamCounted g r).seamSettled g r (s.seamPath g) (s.seamSt g)).seamSt g =
      { yLast := (s.seamSt g).yLast, after := if r.cause = 0 then 1 else 0, fired := 0 } := (State.seamSt_setSeamSt _ _ _ _).trans (if_pos rfl)
  have hpath : (((s.seamCounted g r).seamSettled g r (s.seamPath g) (s.seamSt g)).pathSt (s.seamPath g)).seams =
      (s.pathSt (s.seamPath g)).seams.filter (fun h => h != g) := by
    refine (congrArg PathSt.seams ((State.pathSt_setPathSt (s.seamCounted g r) (s.seamPath g) _ (s.seamPath g)).trans (if_pos rfl))).trans ?_
    rw [State.pathSt, s.gait_seamCounted g r, State.pathSt]
  have hpulses : ((s.seamCounted g r).seamSettled g r (s.seamPath g) (s.seamSt g)).pulses = s.pulses :=
    (congrArg State.pulses (s.seamCounted_only g r).state :)
  unfold State.seamEnd
  generalize (s.seamCounted g r).seamSettled g r (s.seamPath g) (s.seamSt g) = x at *
  split
  next h =>
    have hnil := List.isEmpty_iff.mp h
    refine ⟨congrArg SeamSt.handed hseam, hpath, fun ev => ?_⟩
    rw [State.fire, mem_addSorted, hpulses]
    change _ ↔ ev ∈ s.pulses ∨ (ev = 180 + s.seamPath g ∧ (x.pathSt (s.seamPath g)).seams = [])
    rw [hpath, hnil]
    simp
  next h =>
    have hne : (s.pathSt (s.seamPath g)).seams.filter (fun h => h != g) ≠ [] := fun e => h (List.isEmpty_iff.mpr e)
    refine ⟨congrArg SeamSt.handed hseam, hpath, fun ev => ?_⟩
    rw [hpulses, hpath]
    simp only [hne, and_false, or_false]

variable (hg : g < 4)
include hg

theorem seamRegs_distinct (k : Nat) : R.seamRes g ≠ R.seamInfo g ∧ R.seamRes g ≠ R.pathSeamCnt k ∧ R.seamRes g ≠ R.pathUnverCnt k ∧
    R.seamInfo g ≠ R.pathSeamCnt k ∧ R.seamInfo g ≠ R.pathUnverCnt k ∧ R.pathSeamCnt k ≠ R.pathUnverCnt k ∧ R.grpSeam g ≠ R.seamRes g ∧
    R.grpSeam g ≠ R.seamInfo g ∧ R.grpSeam g ≠ R.pathSeamCnt k := by
  simp only [R.seamRes, R.seamInfo, R.pathSeamCnt, R.pathUnverCnt, R.grpSeam]
  omega

theorem State.reg_seamShown (o : Nat) : (s.seamShown g r).reg o =
    if o = R.pathSeamCnt (s.seamPath g) then satInc (s.reg (R.pathSeamCnt (s.seamPath g)))
    else if o = R.seamInfo g then BitVec.ofNat 32 (r.cause + min 15 r.used * 16 + unsigned 8 (s.seamApplied g r) * 2 ^ 8 +
      unsigned 16 (if r.cause = 0 then r.d else 0) * 2 ^ 16)
    else if o = R.seamRes g then BitVec.ofNat 32 (unsigned 16 (if r.cause = 0 then r.d - 16 * seamLines r else 0) + r.qual % 256 * 2 ^ 16 +
      (if r.cause = 0 then St.success else St.seamUnverified) * 2 ^ 24)
    else (if r.cause = 0 then s.pendFld (R.grpSeam g) F.grpSeam.SEAM (unsigned 8 (s.seamApplied g r)) else s).reg o := by
  have hk : s.seamPath g < 4 := BitVec.isLt _
  obtain ⟨-, h2, -, h4, -, -, -, -, h9⟩ := seamRegs_distinct g hg _
  have hpend : (if r.cause = 0 then s.pendFld (R.grpSeam g) F.grpSeam.SEAM (unsigned 8 (s.seamApplied g r)) else s).reg (R.pathSeamCnt (s.seamPath g)) =
      s.reg (R.pathSeamCnt (s.seamPath g)) := by
    split
    · exact (s.pendFld_only (R.grpSeam g) _ _ (List.mem_singleton_self _)).reg _ (by simpa using h9.symm)
    · rfl
  rw [State.seamShown]
  generalize (if r.cause = 0 then s.pendFld (R.grpSeam g) F.grpSeam.SEAM (unsigned 8 (s.seamApplied g r)) else s) = x at hpend ⊢
  by_cases ho : o = R.pathSeamCnt (s.seamPath g)
  · rw [if_pos ho, ho, State.count, State.reg_setReg_same, State.reg_setReg_ne _ _ _ _ h4.symm, State.reg_setReg_ne _ _ _ _ h2.symm, hpend]
  · rw [if_neg ho, State.count, State.reg_setReg_ne _ _ _ _ ho, State.reg_setReg, State.reg_setReg]

end

theorem endIgnores_seamRegs (g : Fin 4) (k : Nat) : endIgnores (seamRegs g k) := endIgnores_of (by
  have hg := g.isLt
  simp only [seamRegs, List.mem_cons, List.not_mem_nil, or_false, R.grpSeam, R.seamRes, R.seamInfo, R.pathSeamCnt, R.pathUnverCnt]
  omega)

section
variable {s : State} (g : Fin 4) (hu : s.usual) (hwin : ∀ u, u < 4 → s.openWindow u = none)
include hu hwin

/-- A reply taken from those that have come. -/
def State.replyTaken (s : State) (g : Nat) : State :=
  { s with gait := { s.gait with replies := Table.set (fun _ => none) s.gait.replies g none } }

theorem exec_seamResult (w : Word) (hhanded : (s.seamSt g).handed = true) (hreply : Table.get (fun _ => none) s.gait.replies g = some w)
    (hok : w.toNat / 2 ^ 24 % 16 = 0) :
    let d := signed 16 w.toNat
    let ds := roundDiv d 16
    let applied := clampInt (-128) 127 (signed 8 (s.fld (R.grpSeam g) F.grpSeam.SEAM) + ds)
    ∃ t, exec (.seamResult g) s = .next t ∧ t = { s with regs := t.regs, eff := t.eff, gait := t.gait, pulses := t.pulses } ∧
      t.fld (R.grpSeam g) F.grpSeam.SEAM = unsigned 8 applied ∧ t.effReg (R.grpSeam g) = s.effReg (R.grpSeam g) ∧
      t.fld (R.seamRes g) F.seamRes.RESID = unsigned 16 (d - 16 * ds) ∧ t.fld (R.seamRes g) F.seamRes.QUAL = w.toNat / 2 ^ 16 % 256 ∧
      t.fld (R.seamRes g) F.seamRes.STATUS = 0 ∧ t.reg (R.pathSeamCnt (s.seamPath g)) = satInc (s.reg (R.pathSeamCnt (s.seamPath g))) ∧
      (t.seamSt g).handed = false ∧ (t.pathSt (s.seamPath g)).seams = (s.pathSt (s.seamPath g)).seams.filter (fun h => h != g.val) ∧
      (∀ ev, ev ∈ t.pulses ↔ ev ∈ s.pulses ∨ (ev = 180 + s.seamPath g ∧ (t.pathSt (s.seamPath g)).seams = [])) ∧
      (∀ off, off ∉ [R.grpSeam g, R.seamRes g, R.seamInfo g, R.pathSeamCnt (s.seamPath g)] → t.reg off = s.reg off) := by
  intro d ds applied
  have hk : s.seamPath g < 4 := BitVec.isLt _
  obtain ⟨h1, h2, -, h4, -, -, h7, h8, h9⟩ := seamRegs_distinct g g.isLt (s.seamPath g)
  let r := s.seamReply g w
  have hcause : r.cause = 0 := (congrArg (· % 2 ^ 4) (Nat.shiftRight_eq_div_pow w.toNat 24)).trans hok
  have hqual : r.qual = w.toNat / 2 ^ 16 % 256 := congrArg (· % 2 ^ 8) (Nat.shiftRight_eq_div_pow w.toNat 16)
  have hlines : seamLines r = ds := if_pos hcause
  have hresult : s.seamResult g = (s.replyTaken g).seamEnd g r := by
    rw [State.seamResult, hreply]
    refine (if_neg (by rw [hhanded]; decide)).trans ?_
    exact (s.replyTaken g).seamDone_closed g r hwin
  have hdef : s.seamTaken g = (s.replyTaken g).seamEnd g r := by
    rw [State.seamTaken, hreply]
    exact (if_neg (by rw [Option.isNone_some, Bool.and_false]; exact Bool.false_ne_true)).trans hresult
  have hxo : s.Only Frame.seamEff (s.replyTaken g) (seamRegs g (s.seamPath g)) := ⟨rfl, fun _ _ => rfl⟩
  have hxeff : (s.replyTaken g).eff = s.eff := rfl
  have hxpulses : (s.replyTaken g).pulses = s.pulses := rfl
  have hxreg : ∀ o, (s.replyTaken g).reg o = s.reg o := State.reg_of_regs s _ rfl
  have hxpath : (s.replyTaken g).pathSt (s.seamPath g) = s.pathSt (s.seamPath g) := rfl
  generalize s.replyTaken g = x at *
  have hxk : x.seamPath g = s.seamPath g := State.fld_of_reg (hxreg _) _
  have happlied : x.seamApplied g r = applied := by
    rw [State.seamApplied, State.fld_of_reg (hxreg _), hlines]
  have heff := x.regs_seamEnd g r
  obtain ⟨hsettled, hseams, hpulses⟩ := x.seamEnd_spec g r
  have hf := x.seamEnd_only g r
  have hshown := x.reg_seamShown g r g.isLt
  have hcounted : x.seamCounted g r = x.seamShown g r := if_pos hcause
  have hreg : ∀ o, (x.seamEnd g r).reg o = (x.seamShown g r).reg o := fun o => by
    rw [← hcounted]
    exact State.reg_of_regs _ _ heff.1 o
  simp only [hxk, happlied, if_pos hcause, hlines, hxreg] at hshown hseams hpulses hf
  have hpend := x.effReg_pendFld (R.grpSeam g) F.grpSeam.SEAM (unsigned 8 applied)
  have hall : s.Only Frame.seamEff (x.seamEnd g r) (seamRegs g (s.seamPath g)) :=
    hxo.trans hf
  have hres : (x.seamEnd g r).reg (R.seamRes g) = BitVec.ofNat 32 (unsigned 16 (d - 16 * ds) + w.toNat / 2 ^ 16 % 256 % 256 * 2 ^ 16 + 0 * 2 ^ 24) := by
    rw [hreg, hshown, if_neg h2, if_neg h1, if_pos rfl, hqual]
    rfl
  have hseam : (x.seamEnd g r).reg (R.grpSeam g) = (x.pendFld (R.grpSeam g) F.grpSeam.SEAM (unsigned 8 applied)).reg (R.grpSeam g) := by
    rw [hreg, hshown, if_neg h9, if_neg h8, if_neg h7]
  have hpendeff : (x.seamEnd g r).eff = (x.pendFld (R.grpSeam g) F.grpSeam.SEAM (unsigned 8 applied)).eff := by
    rw [heff.2, hcounted, State.seamShown, if_pos hcause, happlied, State.eff_count, State.eff_setReg, State.eff_setReg]
  have hlt16 := unsigned_lt 16 (d - 16 * ds)
  have hlt8 := unsigned_lt 8 applied
  refine ⟨_, (congrArg State.done hdef).trans (hall.done hu (endIgnores_seamRegs g _)), hall.state, ?_, ?_, ?_, ?_, ?_, ?_, hsettled, ?_, ?_, fun off ho => ?_⟩
  · rw [State.fld_of_reg hseam]
    exact (x.fld_pendFld _ _ _ (by decide)).trans (Nat.mod_eq_of_lt hlt8)
  · rw [State.effReg_congr hpendeff hseam, hpend]
    exact State.effReg_congr hxeff (hxreg _)
  · rw [State.fld, hres, Fld.get_ofNat]
    change _ % 2 ^ 32 / 2 ^ 0 % 2 ^ 16 = _
    omega
  · rw [State.fld, hres, Fld.get_ofNat]
    change _ % 2 ^ 32 / 2 ^ 16 % 2 ^ 8 = _
    omega
  · rw [State.fld, hres, Fld.get_ofNat]
    change _ % 2 ^ 32 / 2 ^ 24 % 2 ^ 8 = _
    omega
  · rw [hreg, hshown, if_pos rfl]
  · rw [hseams, hxpath]
  · rw [← hxpulses]
    exact hpulses
  · simp only [List.mem_cons, List.not_mem_nil, or_false, not_or] at ho
    obtain ⟨ho1, ho2, ho3, ho4⟩ := ho
    rw [hreg, hshown, if_neg ho4, if_neg ho3, if_neg ho2]
    exact ((x.pendFld_only (R.grpSeam g) _ _ (List.mem_singleton_self _)).reg _ (by simpa using ho1)).trans (hxreg off)

omit hwin in
theorem exec_seamResult_none (h : (s.seamSt g).handed = false) : exec (.seamResult g) s = .next s := by
  have hresult : s.seamResult g = s := if_pos (by rw [h]; rfl)
  have hid : s.seamTaken g = s := by
    rw [State.seamTaken, hresult]
    exact if_neg (by rw [h]; exact Bool.false_ne_true)
  exact (congrArg State.done hid).trans (State.done_of_usual hu)

theorem exec_seamKernelTimeout (h : (s.seamSt g).handed = true) :
    ∃ t, exec (.seamKernelTimeout g) s = .next t ∧ t = { s with regs := t.regs, gait := t.gait, pulses := t.pulses } ∧
      t.fld (R.seamRes g) F.seamRes.STATUS = 0x31 ∧ t.fld (R.seamInfo g) F.seamInfo.CAUSE = 5 ∧
      t.reg (R.pathSeamCnt (s.seamPath g)) = satInc (s.reg (R.pathSeamCnt (s.seamPath g))) ∧
      t.reg (R.pathUnverCnt (s.seamPath g)) = satInc (s.reg (R.pathUnverCnt (s.seamPath g))) ∧
      (t.seamSt g).handed = false ∧ (∀ ev, ev ∈ t.pulses ↔ ev ∈ s.pulses ∨ (ev = 180 + s.seamPath g ∧ (t.pathSt (s.seamPath g)).seams = [])) ∧
      (∀ off, off ∉ [R.seamRes g, R.seamInfo g, R.pathSeamCnt (s.seamPath g), R.pathUnverCnt (s.seamPath g)] → t.reg off = s.reg off) := by
  obtain ⟨h1, h2, h3, h4, h5, h6, -⟩ := seamRegs_distinct g g.isLt (s.seamPath g)
  let r : SeamResult := { cause := 5, used := (s.validOverlap g).length }
  have hcause : ¬r.cause = 0 := Nat.succ_ne_zero 4
  have hdef : s.seamTimeout g = s.seamEnd g r := (if_pos (by rw [h]; rfl)).trans (s.seamDone_closed g r hwin)
  have heff := s.regs_seamEnd g r
  obtain ⟨hsettled, -, hpulses⟩ := s.seamEnd_spec g r
  have hf := s.seamEnd_only g r
  have hshown := s.reg_seamShown g r g.isLt
  have hcounted : s.seamCounted g r = (s.seamShown g r).count (R.pathUnverCnt (s.seamPath g)) := if_neg hcause
  have hreg : ∀ o, o ≠ R.pathUnverCnt (s.seamPath g) → (s.seamEnd g r).reg o = (s.seamShown g r).reg o := fun o ho => by
    refine (State.reg_of_regs _ _ heff.1 o).trans ?_
    rw [hcounted, State.count, State.reg_setReg_ne _ _ _ _ ho]
  simp only [if_neg hcause] at hshown
  have hunver : (s.seamEnd g r).reg (R.pathUnverCnt (s.seamPath g)) = satInc ((s.seamShown g r).reg (R.pathUnverCnt (s.seamPath g))) := by
    refine (State.reg_of_regs _ _ heff.1 _).trans ?_
    rw [hcounted, State.count, State.reg_setReg_same]
  have heffSame : (s.seamEnd g r).eff = s.eff := by
    rw [heff.2, hcounted, State.eff_count, State.seamShown, State.eff_count, State.eff_setReg, State.eff_setReg, if_neg hcause]
  have hstate : s.seamEnd g r = { s with regs := (s.seamEnd g r).regs, gait := (s.seamEnd g r).gait, pulses := (s.seamEnd g r).pulses } :=
    hf.state.trans (congrArg (fun y => ({ s with regs := (s.seamEnd g r).regs, eff := y, gait := (s.seamEnd g r).gait
                                                 pulses := (s.seamEnd g r).pulses } : State)) heffSame)
  have hlt16 := unsigned_lt 16 0
  have hlt8 := unsigned_lt 8 (s.seamApplied g r)
  refine ⟨_, (congrArg State.done hdef).trans (hf.done hu (endIgnores_seamRegs g _)), hstate, ?_, ?_, ?_, ?_, hsettled, hpulses, fun off ho => ?_⟩
  · have hqual : r.qual = 0 := rfl
    have hstatus : St.seamUnverified = 0x31 := rfl
    rw [State.fld, hreg _ h3, hshown, if_neg h2, if_neg h1, if_pos rfl, Fld.get_ofNat, hqual, hstatus]
    generalize unsigned 16 0 = u at hlt16 ⊢
    change _ % 2 ^ 32 / 2 ^ 24 % 2 ^ 8 = _
    omega
  · have hc : r.cause = 5 := rfl
    rw [State.fld, hreg _ h5, hshown, if_neg h4, if_pos rfl, Fld.get_ofNat, hc]
    change _ % 2 ^ 32 / 2 ^ 0 % 2 ^ 4 = _
    omega
  · rw [hreg _ h6, hshown, if_pos rfl]
  · rw [hunver, hshown, if_neg h6.symm, if_neg h5.symm, if_neg h3.symm]
  · simp only [List.mem_cons, List.not_mem_nil, or_false, not_or] at ho
    obtain ⟨ho1, ho2, ho3, ho4⟩ := ho
    rw [hreg _ ho4, hshown, if_neg ho3, if_neg ho2, if_neg ho1]

end

/-- Settles O35: the hand-off, the result and the timeout of a seam as their lemmas above say. -/
theorem seamsAreMeasured : Obligations.SeamsAreMeasured := by
  intro s g hu hwin
  exact ⟨fun h0 _ hwaits hfree hfired hall hroom => exec_seamHandoff g hu rfl h0 hwaits hfree hfired hall hroom, exec_seamHandoff_full g hu,
    fun w hhanded hreply hok => exec_seamResult g hu hwin w hhanded hreply hok, exec_seamResult_none g hu, exec_seamKernelTimeout g hu hwin⟩

end Sys2Proof.Machine

/-!
Auxiliary sensing: its frames, the causes of R260 as a matter of registers, and the start and the end of a conversion (R259, R265).
-/
namespace Sys2Proof.Machine

/-- The frame of auxiliary sensing. -/
def Frame.aux : Frame :=
  ⟨fun s t => { s with regs := t.regs, aux := t.aux }, fun _ => rfl, fun _ _ _ => rfl, fun _ _ _ => rfl, fun _ _ _ => rfl,
    fun _ _ => State.endsAlike_of rfl⟩

/-- The frame of auxiliary sensing and of what is held back. -/
def Frame.auxEff : Frame :=
  ⟨fun s t => { s with regs := t.regs, eff := t.eff, aux := t.aux }, fun _ => rfl, fun _ _ _ => rfl, fun _ _ _ => rfl, fun _ _ _ => rfl,
    fun _ _ => State.endsAlike_of rfl⟩

/-- Registers of AUX, which the end of a command does not look at. -/
theorem endIgnores_aux {l : List Nat} (h : ∀ o ∈ l, 0x1C000 ≤ o ∧ o < 0x1D000) : endIgnores l := endIgnores_of fun o ho => by
  have := h o ho
  omega

/-! ## The causes -/

/-- The cause that a sequence meets is a matter of registers. -/
theorem State.auxCause_congr {s t : State} (h : t.reg = s.reg) (inj : Bool) (e : Nat) (cfg lin : Word) :
    t.auxCause inj e cfg lin = s.auxCause inj e cfg lin := by
  have hf : t.fld = s.fld := by
    funext o f
    exact State.fld_of_reg (congrFun h o) f
  delta State.auxCause State.curveOk State.auxLen State.utN State.utX State.excMode State.pdOn
  rw [hf, h]

theorem State.auxLen_congr {s t : State} (h : t.reg = s.reg) (inj : Bool) : t.auxLen inj = s.auxLen inj := by
  rw [State.auxLen, State.auxLen, State.fld_of_reg (congrFun h _), State.fld_of_reg (congrFun h _)]

theorem State.auxSeqCause_congr {s t : State} (h : t.reg = s.reg) (inj : Bool) : t.auxSeqCause inj = s.auxSeqCause inj := by
  rw [State.auxSeqCause, State.auxSeqCause, State.auxLen_congr h]
  simp only [State.auxCause_congr h, h]

theorem State.auxCause_lt (s : State) (inj : Bool) (e : Nat) (cfg lin : Word) : s.auxCause inj e cfg lin < 8 := by
  delta State.auxCause
  extract_lets ref out curve cj cje rexc bad
  repeat' split
  all_goals decide

theorem State.auxSeqCause_lt (s : State) (inj : Bool) : s.auxSeqCause inj < 8 := by
  refine List.foldlRecOn (motive := fun m : Nat => m < 8) _ _ (by decide) fun m hm e _ => ?_
  have hc := s.auxCause_lt inj e (s.reg (auxEntryReg inj e 0)) (s.reg (auxEntryReg inj e 2))
  dsimp only
  repeat' split
  · exact hm
  · exact hc
  · exact Nat.lt_of_le_of_lt (Nat.min_le_left _ _) hm

/-! ## A conversion starts -/

/-- The state with a conversion in progress, or none. -/
def State.withConv (s : State) (c : Option Conv) : State := { s with aux := { s.aux with conv := c } }

section
variable (s : State)

theorem State.withConv_only (c : Option Conv) (l : List Nat) : s.Only Frame.aux (s.withConv c) l := ⟨rfl, fun _ _ => rfl⟩

theorem State.aux_withConv (c : Option Conv) : (s.withConv c).aux = { s.aux with conv := c } := rfl
theorem State.aux_setFld (o : Nat) (f : Fld) (x : Nat) : (s.setFld o f x).aux = s.aux := rfl

theorem State.aux_refreshExc : s.refreshExc.aux = s.aux := rfl

theorem State.refreshExc_only {F : Frame} {l : List Nat} (h : R.auxExcStat ∈ l) : s.Only F s.refreshExc l :=
  (State.Only.refl s l).setFld _ _ h

/-- An entry's words lie above the status registers. -/
theorem auxEntryReg_ge (inj : Bool) (e i : Nat) : 0x1C200 ≤ auxEntryReg inj e i := by
  unfold auxEntryReg
  split <;> cases inj <;> simp only [R.auxRegCfg, R.auxRegTime, R.auxRegLin, R.auxRegKref, R.auxInjCfg, R.auxInjTime, R.auxInjLin, R.auxInjKref, if_true, if_false,
    Bool.false_eq_true] <;> omega

variable (inj : Bool) (e : Nat)

/-- A copy of an entry's words (R259). -/
def State.entryConv : Conv :=
  { inj := inj, entry := e, cfg := s.reg (auxEntryReg inj e 0), time := s.reg (auxEntryReg inj e 1)
    lin := s.reg (auxEntryReg inj e 2), kref := s.reg (auxEntryReg inj e 3)
    stream := !inj && s.auxStreams, clamps := s.aux.clamping }

/-- The sources of a conversion in fault as it starts. -/
def State.entryFaults : Nat :=
  planeMask ((setBits s.aux.excFault 4).filter (fun k => (s.withConv (some (s.entryConv inj e))).refreshExc.excRuns k))

theorem State.convStart_eq : s.convStart inj e =
    ((((s.withConv (some (s.entryConv inj e))).refreshExc.withConv (some { s.entryConv inj e with excFault := s.entryFaults inj e })).setFld
      R.auxStat F.auxStat.STATE (if inj then 2 else 1)).setFld R.auxStat F.auxStat.ENTRY e) := rfl

theorem State.convStart_only : s.Only Frame.aux (s.convStart inj e) [R.auxStat, R.auxExcStat] := by
  rw [State.convStart_eq]
  exact (((((s.withConv_only _ _).trans (State.refreshExc_only _ (by simp))).trans (State.withConv_only _ _ _)).setFld _ _ (by simp)).setFld _ _ (by simp))

theorem State.aux_convStart : (s.convStart inj e).aux = { s.aux with conv := some { s.entryConv inj e with excFault := s.entryFaults inj e } } := by
  rw [State.convStart_eq, State.aux_setFld, State.aux_setFld, State.aux_withConv, State.aux_refreshExc, State.aux_withConv]

/-- A conversion that starts works on a copy of its entry. -/
theorem State.converting_convStart (he : e < 32) : Converting (s.convStart inj e) inj e := by
  have hreg : ∀ i, (s.convStart inj e).reg (auxEntryReg inj e i) = s.reg (auxEntryReg inj e i) := fun i =>
    (s.convStart_only inj e).reg _ (by
      have := auxEntryReg_ge inj e i
      simp only [List.mem_cons, List.not_mem_nil, or_false, R.auxStat, R.auxExcStat]
      omega)
  refine ⟨{ s.entryConv inj e with excFault := s.entryFaults inj e }, ?_, rfl, rfl, ?_, ?_, ?_, ?_, rfl, ?_, ?_⟩
  · rw [State.aux_convStart]
  · rw [hreg]; rfl
  · rw [hreg]; rfl
  · rw [hreg]; rfl
  · rw [hreg]; rfl
  · rw [State.convStart_eq, State.fld_setFld_apart _ _ _ _ _ (by decide) (by decide) (by decide), State.fld_setFld _ _ _ _ (by decide)]
    cases inj <;> rfl
  · rw [State.convStart_eq, State.fld_setFld _ _ _ _ (by decide)]
    exact Nat.mod_eq_of_lt he

end

/-! ## No conversion -/

section
variable (s : State)

theorem State.convEnd_eq (st : Nat) : s.convEnd st = ((s.withConv none).setFld R.auxStat F.auxStat.STATE st).refreshExc := rfl

theorem State.convEnd_only (st : Nat) : s.Only Frame.aux (s.convEnd st) [R.auxStat, R.auxExcStat] := by
  rw [State.convEnd_eq]
  exact ((s.withConv_only _ _).setFld _ _ (by simp)).trans (State.refreshExc_only _ (by simp))

theorem State.aux_convEnd (st : Nat) : (s.convEnd st).aux = { s.aux with conv := none } := by
  rw [State.convEnd_eq, State.aux_refreshExc, State.aux_setFld, State.aux_withConv]

theorem State.auxState_convEnd {st : Nat} (h : st < 4) : (s.convEnd st).auxState = st := by
  rw [State.auxState, State.convEnd_eq, State.refreshExc, State.fld_setFld_ne _ _ _ _ _ _ (by decide), State.fld_setFld _ _ _ _ (by decide)]
  exact Nat.mod_eq_of_lt h

/-- Fields of STAT other than STATE stay when a conversion ends. -/
theorem State.fld_convEnd {st : Nat} {f : Fld} (hf : f.lo + f.width ≤ 32) (h : 2 ≤ f.lo) : (s.convEnd st).fld R.auxStat f = s.fld R.auxStat f := by
  rw [State.convEnd_eq, State.refreshExc, State.fld_setFld_ne _ _ _ _ _ _ (by decide),
    State.fld_setFld_apart _ _ _ _ _ (by decide) hf (.inr (show F.auxStat.STATE.lo + F.auxStat.STATE.width ≤ f.lo from h))]
  rfl

end

/-- The converter path is idle when it converts nothing and both sequences are off (R252). -/
theorem State.auxIdle_iff (s : State) : s.auxIdle = true ↔ s.auxState = 0 ∧ s.auxEn false = false ∧ s.auxEn true = false := by
  simp only [State.auxIdle, Bool.and_eq_true, beq_iff_eq, Bool.not_eq_true', and_assoc]

end Sys2Proof.Machine

/-!
Auxiliary sequences and self-calibration (R260, R268, R285).
-/
namespace Sys2Proof.Machine

/-! ## An enable -/

/-- The state after an accepted enable of the regular sequence, before its first conversion. -/
def State.auxFresh (t : State) : State := { t with aux := { t.aux with fresh := [] } }

section
variable (s : State) (path : Path) (inj : Bool) (w : Word)

/-- The control register of a sequence, and its row. -/
def auxCtlOff (inj : Bool) : Nat := if inj then R.auxInjCtl else R.auxRegCtl
def auxCtlRow (inj : Bool) : RegRow := if inj then Row.auxInjCtl else Row.auxRegCtl

theorem auxCtlRow_en (inj : Bool) : (auxCtlRow inj).takesFld enFld = true ∧ (auxCtlRow inj).nowOnly.takesFld enFld = true := by
  cases inj <;> decide

theorem State.auxEn_eq : s.auxEn inj = s.bit (auxCtlOff inj) enFld := by cases inj <;> rfl

/-- The control register of a sequence as an enable writes it. -/
def State.auxAsked : State := s.cfgAsked path (auxCtlOff inj) (auxCtlRow inj) w

theorem State.auxAsked_only {F : Frame} (hk : ∀ (s : State) r e, F.keep s { s with regs := r, eff := e } = { s with regs := r, eff := e }) :
    s.Only F (s.auxAsked path inj w) [auxCtlOff inj] := (s.writeRow_sameBut path (auxCtlOff inj) (auxCtlRow inj) (enFld.put w 1)).only hk

theorem State.aux_writeRow (off : Nat) (row : RegRow) : (s.writeRow path off row w false).aux = s.aux := by
  rw [(s.writeRow_sameBut path off row w).1]

/-- The cause that an enable meets, as the statement reads it. -/
theorem State.auxSeqCause_asked : (s.auxAsked path inj w).auxSeqCause inj =
    (s.setReg (auxCtlOff inj) ((auxCtlRow inj).written (s.reg (auxCtlOff inj)) (enFld.put w 1))).auxSeqCause inj :=
  State.auxSeqCause_congr (funext fun o => by rw [State.auxAsked, State.cfgAsked, State.reg_writeRow, State.reg_setReg]) inj

/-- An enable in an idle converter path: the check, and what an accepted one does. -/
theorem State.auxCtlWrite_enable (hidle : s.auxIdle = true) : s.auxCtlWrite path inj (enFld.put w 1) =
    (if (s.auxAsked path inj w).auxSeqCause inj ≠ 0 then
      ((s.auxAsked path inj w).setFld (auxCtlOff inj) enFld 0).auxRefuse ((s.auxAsked path inj w).auxSeqCause inj)
    else if inj then s.auxAsked path inj w
    else if (s.auxAsked path inj w).auxFresh.auxState = 0 ∧ (s.auxAsked path inj w).auxFresh.fld R.auxRegCtl F.auxRegCtl.MODE = 0 then
      (s.auxAsked path inj w).auxFresh.convStart false 0
    else (s.auxAsked path inj w).auxFresh) := by
  obtain ⟨hstate, hreg, hinj⟩ := s.auxIdle_iff.mp hidle
  have hwas : s.auxEn inj = false := by cases inj <;> assumption
  have hbusy : (!s.auxIdle) = false := by rw [hidle]; rfl
  delta State.auxCtlWrite
  extract_lets off was s1 c aux s2
  have hs1 : s1 = s.auxAsked path inj w := by
    rw [show s1 = s.writeRow path (auxCtlOff inj) (auxCtlRow inj) (enFld.put w 1) (!s.auxIdle) from rfl, hbusy]
    rfl
  refine (if_pos ?_).trans ?_
  · rw [(enFld_put w).1, show was = false from hwas]
    rfl
  · rw [← hs1]
    rfl

end

section
variable {s : State} {path : Path} {inj : Bool} {w : Word} (hu : s.usual) (hidle : s.auxIdle = true)

theorem State.auxRefuse_only (s : State) {F : Frame} {l : List Nat} (c : Nat) (h : R.auxStat ∈ l) : s.Only F (s.auxRefuse c) l :=
  ((State.Only.refl s l).setFld _ _ h).setFld _ _ h

theorem State.auxRefuse_sameBut (s : State) (c : Nat) : s.sameBut (s.auxRefuse c) [R.auxStat] :=
  ((State.sameBut_refl s _).setFld _ _ (by simp)).setFld _ _ (by simp)

theorem State.fld_auxRefuse (s : State) {c : Nat} (hc : c < 8) : (s.auxRefuse c).fld R.auxStat F.auxStat.CFG_ERR = 1 ∧
    (s.auxRefuse c).fld R.auxStat F.auxStat.CFG_CAUSE = c := by
  constructor
  · rw [State.auxRefuse, State.fld_setFld_apart _ _ _ _ _ (by decide) (by decide) (by decide), State.fld_setFld _ _ _ _ (by decide)]
    rfl
  · rw [State.auxRefuse, State.fld_setFld _ _ _ _ (by decide)]
    exact Nat.mod_eq_of_lt hc

include hidle

theorem exec_auxRegEnable_eq (hacc : s.accessible path R.auxRegCtl = true) : exec (.auxRegEnable path w) s = State.done
    (if (s.auxAsked path false w).auxSeqCause false ≠ 0 then
      ((s.auxAsked path false w).setFld R.auxRegCtl enFld 0).auxRefuse ((s.auxAsked path false w).auxSeqCause false)
    else if (s.auxAsked path false w).auxFresh.auxState = 0 ∧ (s.auxAsked path false w).auxFresh.fld R.auxRegCtl F.auxRegCtl.MODE = 0 then
      (s.auxAsked path false w).auxFresh.convStart false 0
    else (s.auxAsked path false w).auxFresh) :=
  congrArg State.done ((State.onWrite_of _ _ _ _ hacc).trans (s.auxCtlWrite_enable path false w hidle))

include hu

theorem exec_auxRegEnable_continuous (hacc : s.accessible path R.auxRegCtl = true) (hc : (s.setReg R.auxRegCtl (Row.auxRegCtl.written (s.reg R.auxRegCtl)
      (F.auxRegCtl.EN.put w 1))).auxSeqCause false = 0) (hmode : F.auxRegCtl.MODE.get w = 0) :
    ∃ t, exec (.auxRegEnable path w) s = .next t ∧ t = { s with regs := t.regs, eff := t.eff, aux := t.aux } ∧
      t.fld R.auxRegCtl F.auxRegCtl.EN = 1 ∧ Converting t false 0 ∧ t.aux.fresh = [] ∧
      (∀ off, off ∉ [R.auxRegCtl, R.auxStat, R.auxExcStat] → t.reg off = s.reg off) := by
  have hasked := s.auxSeqCause_asked path false w
  replace hasked := hasked.trans hc
  have h1 : s.Only Frame.auxEff (s.auxAsked path false w) [R.auxRegCtl] := s.auxAsked_only path false w fun _ _ _ => rfl
  have hstate : (s.auxAsked path false w).fld R.auxStat F.auxStat.STATE = 0 := (h1.fld (by decide) _).trans (s.auxIdle_iff.mp hidle).1
  have hm : (s.auxAsked path false w).fld R.auxRegCtl F.auxRegCtl.MODE = 0 :=
    (s.fld_cfgAsked path R.auxRegCtl Row.auxRegCtl w (f := F.auxRegCtl.MODE) (by decide) (by decide) (by decide)).trans hmode
  have hen : (s.auxAsked path false w).fld R.auxRegCtl enFld = 1 := s.fld_cfgAsked_en path R.auxRegCtl Row.auxRegCtl w (by decide)
  rw [exec_auxRegEnable_eq hidle hacc, hasked]
  revert h1 hstate hm hen
  generalize s.auxAsked path false w = s1
  intro h1 hstate hm hen
  have h2 : s1.auxFresh.Only Frame.aux (s1.auxFresh.convStart false 0) [R.auxStat, R.auxExcStat] := State.convStart_only _ _ _
  have h12 : s.Only Frame.auxEff s1.auxFresh [R.auxRegCtl] := h1.upd rfl rfl
  have honly : s.Only Frame.auxEff (s1.auxFresh.convStart false 0) [R.auxRegCtl, R.auxStat, R.auxExcStat] :=
    (h12.mono (by simp)).trans ((h2.widen fun _ _ => rfl).mono (by simp))
  refine ⟨s1.auxFresh.convStart false 0, ?_, honly.state, ?_, State.converting_convStart _ _ _ (by decide), ?_, honly.reg⟩
  · refine (congrArg State.done ?_).trans (honly.done hu (endIgnores_aux (by decide)))
    exact (if_neg (by decide)).trans (if_pos ⟨hstate, hm⟩)
  · exact (h2.fld (by decide) _).trans hen
  · rw [State.aux_convStart]
    rfl

theorem exec_auxRegEnable_triggered (hacc : s.accessible path R.auxRegCtl = true) (hc : (s.setReg R.auxRegCtl (Row.auxRegCtl.written (s.reg R.auxRegCtl)
      (F.auxRegCtl.EN.put w 1))).auxSeqCause false = 0) (hmode : F.auxRegCtl.MODE.get w = 1) :
    ∃ t, exec (.auxRegEnable path w) s = .next t ∧ t = { s with regs := t.regs, eff := t.eff, aux := { s.aux with fresh := [] } } ∧
      t.fld R.auxRegCtl F.auxRegCtl.EN = 1 ∧ t.fld R.auxRegCtl F.auxRegCtl.LEN = F.auxRegCtl.LEN.get w ∧
      (∀ off, off ≠ R.auxRegCtl → t.reg off = s.reg off) := by
  have hasked := s.auxSeqCause_asked path false w
  replace hasked := hasked.trans hc
  have h1 := (s.writeRow_sameBut path R.auxRegCtl Row.auxRegCtl (enFld.put w 1))
  change s.sameBut (s.auxAsked path false w) _ at h1
  have hm : (s.auxAsked path false w).fld R.auxRegCtl F.auxRegCtl.MODE = 1 :=
    (s.fld_cfgAsked path R.auxRegCtl Row.auxRegCtl w (f := F.auxRegCtl.MODE) (by decide) (by decide) (by decide)).trans hmode
  have hlen : (s.auxAsked path false w).fld R.auxRegCtl F.auxRegCtl.LEN = F.auxRegCtl.LEN.get w :=
    s.fld_cfgAsked path R.auxRegCtl Row.auxRegCtl w (f := F.auxRegCtl.LEN) (by decide) (by decide) (by decide)
  have hen : (s.auxAsked path false w).fld R.auxRegCtl enFld = 1 := s.fld_cfgAsked_en path R.auxRegCtl Row.auxRegCtl w (by decide)
  rw [exec_auxRegEnable_eq hidle hacc, hasked]
  revert h1 hm hlen hen
  generalize s.auxAsked path false w = s1
  intro h1 hm hlen hen
  have honly : s.Only Frame.auxEff s1.auxFresh [R.auxRegCtl] := (h1.only fun _ _ _ => rfl).upd rfl rfl
  refine ⟨s1.auxFresh, ?_, ?_, hen, hlen, fun off ho => honly.reg off (by simpa using ho)⟩
  · refine (congrArg State.done ?_).trans (honly.done hu (endIgnores_aux (by decide)))
    exact (if_neg (by decide)).trans (if_neg fun h => absurd (hm.symm.trans h.2) (by decide))
  · rw [State.auxFresh, h1.1]

theorem exec_auxRegEnable_refused {c : Nat} (hacc : s.accessible path R.auxRegCtl = true)
    (hasked : (s.auxAsked path false w).auxSeqCause false = c) (hc : c ≠ 0) :
    ∃ t, exec (.auxRegEnable path w) s = .next t ∧ t = { s with regs := t.regs, eff := t.eff } ∧
      t.fld R.auxRegCtl F.auxRegCtl.EN = 0 ∧ t.fld R.auxStat F.auxStat.CFG_ERR = 1 ∧
      t.fld R.auxStat F.auxStat.CFG_CAUSE = c ∧ (∀ off, off ∉ [R.auxRegCtl, R.auxStat] → t.reg off = s.reg off) := by
  have h1 := (s.writeRow_sameBut path R.auxRegCtl Row.auxRegCtl (enFld.put w 1))
  change s.sameBut (s.auxAsked path false w) _ at h1
  have hlt := (s.auxAsked path false w).auxSeqCause_lt false
  rw [exec_auxRegEnable_eq hidle hacc, hasked]
  rw [hasked] at hlt
  clear hasked
  revert h1
  generalize s.auxAsked path false w = s1
  intro h1
  have h2 := h1.setFld enFld 0 (o := R.auxRegCtl) (by decide)
  have honly := (h2.mono (m := [R.auxRegCtl, R.auxStat]) (by simp)).trans ((State.auxRefuse_sameBut _ c).mono (by simp))
  refine ⟨_, ?_, honly.1, ?_, (State.fld_auxRefuse _ hlt).1, (State.fld_auxRefuse _ hlt).2, honly.regsBut⟩
  · exact (congrArg State.done (if_pos hc)).trans (State.done_of_regs hu honly (endIgnores_aux (by decide)))
  · rw [(State.auxRefuse_sameBut _ c).fld (by decide), State.fld_setFld _ _ _ _ (by decide)]
    rfl

theorem exec_auxInjEnable_accepted (hacc : s.accessible path R.auxInjCtl = true) (hc : (s.setReg R.auxInjCtl (Row.auxInjCtl.written (s.reg R.auxInjCtl)
      (F.auxInjCtl.EN.put w 1))).auxSeqCause true = 0) :
    ∃ t, exec (.auxInjEnable path w) s = .next t ∧ s.sameBut t [R.auxInjCtl] ∧ t.fld R.auxInjCtl F.auxInjCtl.EN = 1 ∧
      t.fld R.auxInjCtl F.auxInjCtl.LEN = F.auxInjCtl.LEN.get w := by
  have hasked := (s.auxSeqCause_asked path true w).trans hc
  have h1 : s.sameBut (s.auxAsked path true w) [R.auxInjCtl] := s.writeRow_sameBut path R.auxInjCtl Row.auxInjCtl (enFld.put w 1)
  have hdef := s.auxCtlWrite_enable path true w hidle
  rw [hasked] at hdef
  refine ⟨s.auxAsked path true w, ?_, h1, s.fld_cfgAsked_en path R.auxInjCtl Row.auxInjCtl w (by decide),
    s.fld_cfgAsked path R.auxInjCtl Row.auxInjCtl w (f := F.auxInjCtl.LEN) (by decide) (by decide) (by decide)⟩
  refine (congrArg State.done ((State.onWrite_of _ _ _ _ hacc).trans (hdef.trans ?_))).trans (State.done_of_regs hu h1 (endIgnores_aux (by decide)))
  exact (if_neg (by decide)).trans (if_pos rfl)

end

/-! ## A disable -/

section
variable (s : State) (path : Path) (inj : Bool) (w : Word)

/-- The control register of a sequence as a disable writes it. -/
def State.auxCleared : State := s.cfgCleared path (auxCtlOff inj) (auxCtlRow inj) w (!s.auxIdle)

/-- No regular pass remembered or held. -/
def State.auxForgotten (t : State) : State := ({ t with aux := { t.aux with remembered := none } }).setFld R.auxStat F.auxStat.HELD 0

/-- A disable of an enabled sequence that keeps its other fields. -/
theorem State.auxCtlWrite_disable (hen : s.auxEn inj = true)
    (hkeep : w &&& BitVec.ofNat 32 (auxCtlRow inj).rwIdle = s.reg (auxCtlOff inj) &&& BitVec.ofNat 32 (auxCtlRow inj).rwIdle) :
    s.auxCtlWrite path inj (enFld.put w 0) =
      (if inj then
        if ((s.auxCleared path inj w).setFld R.auxStat F.auxStat.PEND 0).auxState = 2 then
          (((s.auxCleared path inj w).setFld R.auxStat F.auxStat.PEND 0).withConv none).afterInjected
        else (s.auxCleared path inj w).setFld R.auxStat F.auxStat.PEND 0
      else if (s.auxCleared path inj w).auxState = 1 then (s.auxCleared path inj w).convEnd 0
      else (s.auxCleared path inj w).auxForgotten) := by
  have hrow : s.writeRow path (auxCtlOff inj) (auxCtlRow inj) (enFld.put w 0) (!s.auxIdle) = s.auxCleared path inj w :=
    State.writeRow_cleared s path _ _ w _ hkeep rfl (by cases inj <;> decide)
  delta State.auxCtlWrite
  extract_lets off was s1
  have hs1 : s1 = s.auxCleared path inj w := hrow
  refine (if_neg ?_).trans ((if_pos ?_).trans ?_)
  · rw [(enFld_put w).2]
    exact Bool.false_ne_true
  · rw [(enFld_put w).2, show was = true from hen]
    rfl
  · rw [← hs1]
    rfl

theorem State.auxCleared_sameBut : s.sameBut (s.auxCleared path inj w) [auxCtlOff inj] := s.writeKept_sameBut path _ _ _ _

theorem State.fld_auxCleared_en : (s.auxCleared path inj w).fld (auxCtlOff inj) enFld = 0 :=
  s.fld_cfgCleared_en path _ _ w _ (auxCtlRow_en inj).1 (auxCtlRow_en inj).2

end

section
variable {s : State} {path : Path} {w : Word} (hu : s.usual)
include hu

theorem exec_auxRegDisable_converting (hacc : s.accessible path R.auxRegCtl = true) (hkeep : w &&& 0x7E = s.reg R.auxRegCtl &&& 0x7E)
    (hen : s.auxEn false = true) (hst : s.auxState = 1) :
    ∃ t, exec (.auxRegDisable path w) s = .next t ∧ t = { s with regs := t.regs, eff := t.eff, aux := { s.aux with conv := none } } ∧
      t.fld R.auxRegCtl F.auxRegCtl.EN = 0 ∧ t.auxState = 0 ∧
      (∀ off, off ∉ [R.auxRegCtl, R.auxStat, R.auxExcStat] → t.reg off = s.reg off) := by
  have hdef := s.auxCtlWrite_disable path false w hen hkeep
  have h1 : s.sameBut (s.auxCleared path false w) [R.auxRegCtl] := s.auxCleared_sameBut path false w
  have hen0 : (s.auxCleared path false w).fld R.auxRegCtl enFld = 0 := s.fld_auxCleared_en path false w
  have hexec := congrArg State.done ((State.onWrite_of s path R.auxRegCtl (fun s => s.auxCtlWrite path false (F.auxRegCtl.EN.put w 0)) hacc).trans hdef)
  change exec (.auxRegDisable path w) s = _ at hexec
  rw [hexec]
  revert h1 hen0
  generalize s.auxCleared path false w = s1
  intro h1 hen0
  have hst1 : s1.auxState = 1 := (h1.fld (by decide) _).trans hst
  have h2 := s1.convEnd_only 0
  have honly : s.Only Frame.auxEff (s1.convEnd 0) [R.auxRegCtl, R.auxStat, R.auxExcStat] :=
    ((h1.only (F := Frame.auxEff) fun _ _ _ => rfl).mono (by simp)).trans ((h2.widen fun _ _ => rfl).mono (by simp))
  refine ⟨s1.convEnd 0, ?_, ?_, (h2.fld (by decide) _).trans hen0, State.auxState_convEnd _ (by decide), honly.reg⟩
  · exact (congrArg State.done (if_pos hst1)).trans (honly.done hu (endIgnores_aux (by decide)))
  · refine honly.state.trans ?_
    have haux : s1.aux = s.aux := by rw [h1.1]
    rw [← haux, ← s1.aux_convEnd 0]
    rfl

theorem exec_auxInjDisable_waiting (hacc : s.accessible path R.auxInjCtl = true) (hkeep : w &&& 0x0E = s.reg R.auxInjCtl &&& 0x0E)
    (hen : s.auxEn true = true) (hst : s.auxState ≠ 2) :
    ∃ t, exec (.auxInjDisable path w) s = .next t ∧ s.sameBut t [R.auxInjCtl, R.auxStat] ∧ t.fld R.auxInjCtl F.auxInjCtl.EN = 0 ∧
      t.fld R.auxStat F.auxStat.PEND = 0 ∧ t.auxState = s.auxState := by
  have hdef := s.auxCtlWrite_disable path true w hen hkeep
  have h1 : s.sameBut (s.auxCleared path true w) [R.auxInjCtl] := s.auxCleared_sameBut path true w
  have hen0 : (s.auxCleared path true w).fld R.auxInjCtl enFld = 0 := s.fld_auxCleared_en path true w
  have hexec := congrArg State.done ((State.onWrite_of s path R.auxInjCtl (fun s => s.auxCtlWrite path true (F.auxInjCtl.EN.put w 0)) hacc).trans hdef)
  change exec (.auxInjDisable path w) s = _ at hexec
  rw [hexec]
  revert h1 hen0
  generalize s.auxCleared path true w = s1
  intro h1 hen0
  have hst1 : (s1.setFld R.auxStat F.auxStat.PEND 0).auxState = s.auxState := by
    rw [State.auxState, State.fld_setFld_apart _ _ _ _ _ (by decide) (by decide) (by decide)]
    exact h1.fld (by decide) _
  have honly : s.sameBut (s1.setFld R.auxStat F.auxStat.PEND 0) [R.auxInjCtl, R.auxStat] := (h1.mono (by simp)).setFld _ _ (by simp)
  refine ⟨s1.setFld R.auxStat F.auxStat.PEND 0, ?_, honly, ?_, ?_, hst1⟩
  · refine (congrArg State.done ((if_pos rfl).trans (if_neg ?_))).trans (State.done_of_regs hu honly (endIgnores_aux (by decide)))
    rw [hst1]
    exact hst
  · exact (State.fld_setFld_ne _ _ _ _ _ _ (by decide)).trans hen0
  · rw [State.fld_setFld _ _ _ _ (by decide)]
    rfl

end

/-! ## A write of an entry -/

section
variable {s : State} {path : Path} {w : Word} {inj : Bool} {e : Fin 32} {i : Fin 4} (hu : s.usual)

theorem auxEntryReg_lt (inj : Bool) (e i : Nat) (he : e < 32) : auxEntryReg inj e i < 0x1D000 := by
  unfold auxEntryReg
  split <;> cases inj <;> simp only [R.auxRegCfg, R.auxRegTime, R.auxRegLin, R.auxRegKref, R.auxInjCfg, R.auxInjTime, R.auxInjLin, R.auxInjKref, if_true, if_false,
    Bool.false_eq_true] <;> omega

theorem exec_auxEntryWrite_eq (hej : inj = true → e.val < 8) (hacc : s.accessible path (auxEntryReg inj e i) = true) :
    exec (.auxEntryWrite path inj e i w) s = State.done (s.auxEntryWrite path inj e i w) := by
  refine congrArg State.done ((if_neg ?_).trans (State.onWrite_of _ _ _ _ hacc))
  cases inj with
  | false => exact Bool.false_ne_true
  | true =>
    have := hej rfl
    simp only [Bool.true_and, decide_eq_true_eq]
    omega

include hu

theorem exec_auxEntryWrite_free (hej : inj = true → e.val < 8) (hacc : s.accessible path (auxEntryReg inj e i) = true) (hoff : s.auxEn inj = false)
    (hconv : s.aux.conv = none) :
    ∃ t, exec (.auxEntryWrite path inj e i w) s = .next t ∧ s.sameBut t [auxEntryReg inj e i] ∧
      t.reg (auxEntryReg inj e i) = (auxEntryRow i).written (s.reg (auxEntryReg inj e i)) w := by
  have h1 := s.writeRow_sameBut path (auxEntryReg inj e i) (auxEntryRow i) w
  refine ⟨_, ?_, h1, ?_⟩
  · rw [exec_auxEntryWrite_eq hej hacc]
    have hge := auxEntryReg_ge inj e i
    have hlt := auxEntryReg_lt inj e i e.isLt
    refine (congrArg State.done ?_).trans (State.done_of_regs hu h1 (endIgnores_aux (by simp only [List.mem_singleton, forall_eq]; omega)))
    delta State.auxEntryWrite
    extract_lets off s1 c
    refine (if_neg ?_).trans ?_
    · rw [hoff]
      exact Bool.false_ne_true
    · rw [show s1.aux.conv = none from (congrArg (fun a : Aux => a.conv) (s.aux_writeRow path w off _)).trans hconv]
  · rw [State.reg_writeRow, if_pos rfl]

theorem exec_auxEntryWrite_refused (hej : inj = true → e.val < 8) (hacc : s.accessible path (auxEntryReg inj e i) = true) (hen : s.auxEn inj = true)
    (hle : e.val ≤ s.auxLen inj) (hc : let s1 := s.setReg (auxEntryReg inj e i) ((auxEntryRow i).written (s.reg (auxEntryReg inj e i)) w)
      s1.auxCause inj e (s1.reg (auxEntryReg inj e 0)) (s1.reg (auxEntryReg inj e 2)) ≠ 0) :
    ∃ t, exec (.auxEntryWrite path inj e i w) s = .next t ∧ s.sameBut t [R.auxStat] ∧ t.fld R.auxStat F.auxStat.CFG_ERR = 1 := by
  have hreg : (s.writeRow path (auxEntryReg inj e i) (auxEntryRow i) w false).reg =
      (s.setReg (auxEntryReg inj e i) ((auxEntryRow i).written (s.reg (auxEntryReg inj e i)) w)).reg := funext fun o => by
    rw [State.reg_writeRow, State.reg_setReg]
  obtain ⟨c, hdef⟩ : ∃ c, c < 8 ∧ s.auxEntryWrite path inj e i w = s.auxRefuse c := by
    refine ⟨_, State.auxCause_lt (s.writeRow path (auxEntryReg inj e i) (auxEntryRow i) w false) inj e _ _, if_pos ?_⟩
    have hc' : (s.writeRow path (auxEntryReg inj e i) (auxEntryRow i) w false).auxCause inj e
        ((s.writeRow path (auxEntryReg inj e i) (auxEntryRow i) w false).reg (auxEntryReg inj e 0))
        ((s.writeRow path (auxEntryReg inj e i) (auxEntryRow i) w false).reg (auxEntryReg inj e 2)) ≠ 0 := by
      rw [State.auxCause_congr hreg, hreg]
      exact hc
    rw [hen, decide_eq_true hle]
    exact bne_iff_ne.mpr hc'
  refine ⟨s.auxRefuse c, ?_, State.auxRefuse_sameBut s c, (State.fld_auxRefuse s hdef.1).1⟩
  rw [exec_auxEntryWrite_eq hej hacc, hdef.2]
  exact State.done_of_regs hu (State.auxRefuse_sameBut s c) (endIgnores_aux (by decide))

end

/-! ## The self-calibration -/

section
variable {s : State} {path : Path} {w : Word} (hu : s.usual)

/-- CAL_CTL as its start writes it. -/
def State.auxCalAsked (s : State) (path : Path) (w : Word) : State := s.writeRow path R.auxCalCtl Row.auxCalCtl (F.auxCalCtl.START.put w 1) false

theorem State.auxIdle_of_regsBut {s t : State} {l : List Nat} (h : s.regsBut t l) (h0 : R.auxStat ∉ l) (h1 : R.auxRegCtl ∉ l) (h2 : R.auxInjCtl ∉ l) :
    t.auxIdle = s.auxIdle := by
  have he : ∀ o, o ∉ l → ∀ f, t.bit o f = s.bit o f := fun o ho f => by rw [State.bit, State.bit, h.fld ho]
  rw [State.auxIdle, State.auxIdle, State.auxState, State.auxState, h.fld h0, State.auxEn_eq, State.auxEn_eq, State.auxEn_eq, State.auxEn_eq,
    he (auxCtlOff false) h1, he (auxCtlOff true) h2]

include hu

theorem exec_auxCalStart_idle (hacc : s.accessible path R.auxCalCtl = true) (hidle : s.auxIdle = true) :
    ∃ t, exec (.auxCalStart path w) s = .next t ∧ s.sameBut t [R.auxCalCtl, R.auxStat] ∧ t.fld R.auxCalCtl F.auxCalCtl.BUSY = 1 ∧
      t.auxState = 3 := by
  have h1 : s.sameBut (s.auxCalAsked path w) [R.auxCalCtl] := s.writeRow_sameBut _ _ _ _
  have hidle1 := (State.auxIdle_of_regsBut h1.regsBut (by decide) (by decide) (by decide)).trans hidle
  have hdef : s.auxCalWrite path (F.auxCalCtl.START.put w 1) =
      ((s.auxCalAsked path w).setFld R.auxCalCtl F.auxCalCtl.BUSY 1).setFld R.auxStat F.auxStat.STATE 3 := by
    refine (if_neg ?_).trans (if_pos hidle1)
    rw [(enFld_put w).1]
    decide
  have honly : s.sameBut (((s.auxCalAsked path w).setFld R.auxCalCtl F.auxCalCtl.BUSY 1).setFld R.auxStat F.auxStat.STATE 3) [R.auxCalCtl, R.auxStat] :=
    ((h1.mono (by simp)).setFld _ _ (by simp)).setFld _ _ (by simp)
  refine ⟨_, (congrArg State.done ((State.onWrite_of _ _ _ _ hacc).trans hdef)).trans (State.done_of_regs hu honly (endIgnores_aux (by decide))), honly, ?_, ?_⟩
  · rw [State.fld_setFld_ne _ _ _ _ _ _ (by decide), State.fld_setFld _ _ _ _ (by decide)]
    rfl
  · rw [State.auxState, State.fld_setFld _ _ _ _ (by decide)]
    rfl

theorem exec_auxCalStart_busy (hacc : s.accessible path R.auxCalCtl = true) (hidle : s.auxIdle = false) :
    ∃ t, exec (.auxCalStart path w) s = .next t ∧ s.sameBut t [R.auxCalCtl, R.sysErrStat, R.sysErrAddr] ∧
      t.fld R.sysErrStat F.sysErrStat.IDLE_WR = 1 ∧ t.fld R.auxCalCtl F.auxCalCtl.BUSY = s.fld R.auxCalCtl F.auxCalCtl.BUSY := by
  have h1 : s.sameBut (s.auxCalAsked path w) [R.auxCalCtl] := s.writeRow_sameBut _ _ _ _
  have hbusy : (s.auxCalAsked path w).fld R.auxCalCtl F.auxCalCtl.BUSY = s.fld R.auxCalCtl F.auxCalCtl.BUSY :=
    State.fld_writeRow_of_leaves _ _ _ _ (by decide) (by decide)
  have hidle1 := (State.auxIdle_of_regsBut h1.regsBut (by decide) (by decide) (by decide)).trans hidle
  have hdef : s.auxCalWrite path (F.auxCalCtl.START.put w 1) = (s.auxCalAsked path w).errIdle path R.auxCalCtl := by
    refine (if_neg ?_).trans (if_neg ?_)
    · rw [(enFld_put w).1]
      decide
    · change ¬ (s.auxCalAsked path w).auxIdle = true
      rw [hidle1]
      exact Bool.false_ne_true
  have h2 := State.err_sameBut (s.auxCalAsked path w) path R.auxCalCtl F.sysErrStat.IDLE_WR
  have honly : s.sameBut ((s.auxCalAsked path w).errIdle path R.auxCalCtl) [R.auxCalCtl, R.sysErrStat, R.sysErrAddr] :=
    (h1.mono (by simp)).trans (h2.mono (by simp))
  refine ⟨_, (congrArg State.done ((State.onWrite_of _ _ _ _ hacc).trans hdef)).trans (State.done_of_regs hu honly (endIgnores_of (by decide))), honly, ?_, ?_⟩
  · exact State.fld_err_same _ _ _ F.sysErrStat.IDLE_WR (by decide) rfl
  · exact (h2.fld (by decide) _).trans hbusy

end

section
variable {s : State} (ofs gain : List Int)

/-- A fold over units below a bound, each step of which changes one unit's view, changes each view once. -/
theorem State.forEach_view_below {α : Type} {view : Nat → State → α} {f : Nat → State → State} {g : Nat → α → α} {N : Nat}
    (hother : ∀ t i j, i < N → j < N → j ≠ i → view j (f i t) = view j t) (hsame : ∀ t i, i < N → view i (f i t) = g i (view i t)) (n : Nat)
    (hn : n ≤ N) (s : State) {k : Nat} (hk : k < N) : view k (s.forEach n f) = if k < n then g k (view k s) else view k s := by
  have hsucc : ∀ m, s.forEach (m + 1) f = f m (s.forEach m f) := fun m => by
    rw [State.forEach, State.forEach, List.range_succ, List.foldl_append, List.foldl_cons, List.foldl_nil]
  induction n with
  | zero => rfl
  | succ m ih =>
    rw [hsucc]
    by_cases heq : k = m
    · subst heq
      rw [hsame _ _ hk, ih (by omega), if_neg (Nat.lt_irrefl k), if_pos (Nat.lt_succ_self k)]
    · rw [hother _ _ _ (by omega) hk heq, ih (by omega)]
      by_cases hlt : k < m
      · rw [if_pos hlt, if_pos (by omega)]
      · rw [if_neg hlt, if_neg (by omega)]

/-- A correction as the self-calibration clips it. -/
def auxLimited (l : List Int) (g : Nat) : Nat := unsigned 16 (clampInt (-32768) 32767 ((l[g]?).getD 0))

/-- The corrections of one gain as the self-calibration writes them. -/
def auxCorrect (ofs gain : List Int) (g : Nat) (t : State) : State :=
  (t.setFld (R.auxCalOfs g) F.auxCalOfs.OFS (auxLimited ofs g)).setFld (R.auxCalGain g) F.auxCalGain.GC (auxLimited gain g)

/-- The corrections of every gain. -/
def State.auxCorrected (s : State) (ofs gain : List Int) : State := s.forEach 8 (auxCorrect ofs gain)

/-- The registers of the corrections. -/
def auxCorrections : List Nat := (List.range 8).flatMap fun g => [R.auxCalOfs g, R.auxCalGain g]

theorem mem_auxCorrections {o : Nat} : o ∈ auxCorrections ↔ ∃ g, g < 8 ∧ (o = R.auxCalOfs g ∨ o = R.auxCalGain g) := by
  simp only [auxCorrections, List.mem_flatMap, List.mem_range, List.mem_cons, List.not_mem_nil, or_false]

theorem State.auxCorrected_regsOnly : s.regsOnly (s.auxCorrected ofs gain) auxCorrections :=
  (State.regsOnly.refl s _).foldl _ _ fun t g hg =>
    ((State.regsOnly.refl t _).setFld _ _ (mem_auxCorrections.mpr ⟨g, List.mem_range.mp hg, .inl rfl⟩)).setFld _ _
      (mem_auxCorrections.mpr ⟨g, List.mem_range.mp hg, .inr rfl⟩)

theorem auxLimited_lt (l : List Int) (g : Nat) : auxLimited l g < 65536 := unsigned_lt 16 _

theorem auxLimited_of_within {l : List Int} {g : Nat} (h : -32768 ≤ l.getD g 0 ∧ l.getD g 0 < 32768) : auxLimited l g = unsigned 16 (l.getD g 0) := by
  rw [auxLimited, ← List.getD_eq_getElem?_getD, clampInt, if_neg (by omega), if_neg (by omega)]

/-- The two corrections of a gain. -/
def State.auxCorrection (g : Nat) (t : State) : Nat × Nat := (t.fld (R.auxCalOfs g) F.auxCalOfs.OFS, t.fld (R.auxCalGain g) F.auxCalGain.GC)

theorem State.auxCorrection_correct_other (t : State) {i j : Nat} (hi : i < 8) (hj : j < 8) (h : j ≠ i) :
    State.auxCorrection j (auxCorrect ofs gain i t) = State.auxCorrection j t := by
  simp only [State.auxCorrection, auxCorrect, R.auxCalOfs, R.auxCalGain]
  rw [State.fld_setFld_ne _ _ _ _ _ _ (by omega), State.fld_setFld_ne _ _ _ _ _ _ (by omega), State.fld_setFld_ne _ _ _ _ _ _ (by omega),
    State.fld_setFld_ne _ _ _ _ _ _ (by omega)]

theorem State.auxCorrection_correct (t : State) (g : Nat) :
    State.auxCorrection g (auxCorrect ofs gain g t) = (auxLimited ofs g, auxLimited gain g) := by
  simp only [State.auxCorrection, auxCorrect]
  rw [State.fld_setFld_ne _ _ _ _ _ _ (by simp only [R.auxCalOfs, R.auxCalGain]; omega), State.fld_setFld _ _ _ _ (by decide),
    State.fld_setFld _ _ _ _ (by decide)]
  exact Prod.ext (Nat.mod_eq_of_lt (auxLimited_lt _ _)) (Nat.mod_eq_of_lt (auxLimited_lt _ _))

theorem State.auxCorrection_corrected {g : Nat} (hg : g < 8) :
    State.auxCorrection g (s.auxCorrected ofs gain) = (auxLimited ofs g, auxLimited gain g) :=
  (State.forEach_view_below (view := State.auxCorrection) (f := auxCorrect ofs gain) (g := fun i _ => (auxLimited ofs i, auxLimited gain i)) (N := 8)
    (fun t _ _ hi hj h => State.auxCorrection_correct_other ofs gain t hi hj h) (fun t i _ => State.auxCorrection_correct ofs gain t i)
    8 (Nat.le_refl 8) s hg).trans (if_pos hg)

/-- The registers after a self-calibration without a correction out of range. -/
def State.auxCalShown (s : State) (ofs gain : List Int) : State :=
  (((((s.auxCorrected ofs gain).setFld R.auxCalCtl F.auxCalCtl.BUSY 0).setFld R.auxCalCtl F.auxCalCtl.DONE 1).setFld R.auxCalCtl F.auxCalCtl.RESULT
    St.success).setFld R.auxCalStat F.auxCalStat.VALID 1).setFld R.auxStat F.auxStat.STATE 0

theorem State.regsOnly.fire_eq {s t : State} {l : List Nat} (h : s.regsOnly t l) (ev : Nat) :
    t.fire ev = { s with regs := (t.fire ev).regs, pulses := addSorted s.pulses ev } := (congrArg (fun u : State => u.fire ev) h.1 :)

/-- What a self-calibration writes. -/
def auxCalRegs : List Nat := [R.auxCalCtl, R.auxCalStat, R.auxStat] ++ auxCorrections

theorem State.auxCalShown_regsOnly : s.regsOnly (s.auxCalShown ofs gain) auxCalRegs :=
  (((((((s.auxCorrected_regsOnly ofs gain).mono (List.subset_append_right _ _)).setFld _ _ (by simp)).setFld _ _
    (by simp)).setFld _ _ (by simp)).setFld _ _ (by simp)).setFld _ _ (by simp))

theorem State.fld_auxCalShown (t : State) (ofs gain : List Int) : (t.auxCalShown ofs gain).fld R.auxCalCtl F.auxCalCtl.BUSY = 0 ∧
    (t.auxCalShown ofs gain).fld R.auxCalCtl F.auxCalCtl.DONE = 1 ∧ (t.auxCalShown ofs gain).fld R.auxCalCtl F.auxCalCtl.RESULT = 0 ∧
    (t.auxCalShown ofs gain).fld R.auxCalStat F.auxCalStat.VALID = 1 ∧ (t.auxCalShown ofs gain).fld R.auxStat F.auxStat.STATE = 0 ∧
    ∀ g, g < 8 → State.auxCorrection g (t.auxCalShown ofs gain) = State.auxCorrection g (t.auxCorrected ofs gain) := by
  delta State.auxCalShown
  generalize t.auxCorrected ofs gain = u
  refine ⟨?_, ?_, ?_, ?_, ?_, fun g _ => ?_⟩
  · rw [State.fld_setFld_ne _ _ _ _ _ _ (by decide), State.fld_setFld_ne _ _ _ _ _ _ (by decide),
      State.fld_setFld_apart _ _ _ _ _ (by decide) (by decide) (by decide), State.fld_setFld_apart _ _ _ _ _ (by decide) (by decide) (by decide),
      State.fld_setFld _ _ _ _ (by decide)]
    rfl
  · rw [State.fld_setFld_ne _ _ _ _ _ _ (by decide), State.fld_setFld_ne _ _ _ _ _ _ (by decide),
      State.fld_setFld_apart _ _ _ _ _ (by decide) (by decide) (by decide), State.fld_setFld _ _ _ _ (by decide)]
    rfl
  · rw [State.fld_setFld_ne _ _ _ _ _ _ (by decide), State.fld_setFld_ne _ _ _ _ _ _ (by decide), State.fld_setFld _ _ _ _ (by decide)]
    rfl
  · rw [State.fld_setFld_ne _ _ _ _ _ _ (by decide), State.fld_setFld _ _ _ _ (by decide)]
    rfl
  · rw [State.fld_setFld _ _ _ _ (by decide)]
    rfl
  · have hne : ∀ o : Nat, o = R.auxCalOfs g ∨ o = R.auxCalGain g → o ≠ R.auxStat ∧ o ≠ R.auxCalStat ∧ o ≠ R.auxCalCtl := by
      simp only [R.auxCalOfs, R.auxCalGain, R.auxStat, R.auxCalStat, R.auxCalCtl]
      omega
    have hfld : ∀ o f, o = R.auxCalOfs g ∨ o = R.auxCalGain g → (((((u.setFld R.auxCalCtl F.auxCalCtl.BUSY 0).setFld R.auxCalCtl F.auxCalCtl.DONE
        1).setFld R.auxCalCtl F.auxCalCtl.RESULT St.success).setFld R.auxCalStat F.auxCalStat.VALID 1).setFld R.auxStat F.auxStat.STATE 0).fld o f =
          u.fld o f := fun o f ho => by
      obtain ⟨h1, h2, h3⟩ := hne o ho
      rw [State.fld_setFld_ne _ _ _ _ _ _ h1, State.fld_setFld_ne _ _ _ _ _ _ h2, State.fld_setFld_ne _ _ _ _ _ _ h3,
        State.fld_setFld_ne _ _ _ _ _ _ h3, State.fld_setFld_ne _ _ _ _ _ _ h3]
    exact Prod.ext (hfld _ _ (.inl rfl)) (hfld _ _ (.inr rfl))

theorem auxCalRegs_ignored : endIgnores auxCalRegs := endIgnores_aux (by decide)

theorem State.calibUnit_none {t : State} (target status : Nat) (h : t.hqe.calibs = []) : t.calibUnit target status = t := by
  rw [State.calibUnit, h]
  rfl

theorem State.regsOnly.work {s t : State} {l : List Nat} (h : s.regsOnly t l) : t.work = s.work := by rw [h.1]

/-- A consequence queued where none is left. -/
theorem State.queued_work (t : State) (x : Work) (h : t.work = []) : { t with work := t.work ++ [x] } = { t with work := [x] } := by
  rw [h, List.nil_append]

theorem State.auxCalEnd_eq (hst : s.auxState = 3) (hw : s.work = [])
    (hin : ∀ g, g < 8 → -32768 ≤ ofs.getD g 0 ∧ ofs.getD g 0 < 32768 ∧ -32768 ≤ gain.getD g 0 ∧ gain.getD g 0 < 32768) :
    s.auxCalEnd ofs gain = { (s.auxCalShown ofs gain).fire 206 with work := [Work.auxDone St.success] } := by
  have hlow : ((List.range 8).any (fun g => State.auxCalEnd.outside16 ((ofs[g]?).getD 0) || State.auxCalEnd.outside16 ((gain[g]?).getD 0))) = false := by
    refine List.any_eq_false.mpr fun g hg => ?_
    have h := hin g (List.mem_range.mp hg)
    rw [List.getD_eq_getElem?_getD, List.getD_eq_getElem?_getD] at h
    simp only [State.auxCalEnd.outside16, Bool.or_eq_true, decide_eq_true_eq]
    omega
  delta State.auxCalEnd
  extract_lets lim s1 low r s2 s3
  refine (if_neg (not_not.mpr hst)).trans ?_
  have hr : r = St.success := if_neg (by rw [show low = false from hlow]; exact Bool.false_ne_true)
  have hs3 : s3 = (s.auxCalShown ofs gain).fire 206 := by
    rw [show s3 = ((s2.setFld R.auxCalStat F.auxCalStat.VALID 1).setFld R.auxStat F.auxStat.STATE 0).fire 206 from rfl,
      show s2 = ((s1.setFld R.auxCalCtl F.auxCalCtl.BUSY 0).setFld R.auxCalCtl F.auxCalCtl.DONE 1).setFld R.auxCalCtl F.auxCalCtl.RESULT r from rfl, hr]
    rfl
  rw [hr, hs3]
  exact State.queued_work _ _ ((s.auxCalShown_regsOnly ofs gain).work.trans hw)

theorem exec_auxCalComplete_eq (hu : s.usual) (hst : s.auxState = 3) (hcal : s.hqe.calibs = [])
    (hin : ∀ g, g < 8 → -32768 ≤ ofs.getD g 0 ∧ ofs.getD g 0 < 32768 ∧ -32768 ≤ gain.getD g 0 ∧ gain.getD g 0 < 32768) :
    exec (.auxCalComplete ofs gain) s = .next ((s.auxCalShown ofs gain).fire 206) := by
  have honly := s.auxCalShown_regsOnly ofs gain
  have husual : ((s.auxCalShown ofs gain).fire 206).usual := by
    refine State.usual_of hu (State.endsAlike_of ?_) (show s.regsBut ((s.auxCalShown ofs gain).fire 206) auxCalRegs from honly.2) auxCalRegs_ignored
    rw [honly.1]
    rfl
  have hcal' : ((s.auxCalShown ofs gain).fire 206).hqe.calibs = [] := by
    rw [← hcal, honly.1]
    rfl
  refine (congrArg State.done (s.auxCalEnd_eq ofs gain hst hu.1.1 hin)).trans (State.done_withWork husual ?_)
  exact State.calibUnit_none 2 St.success hcal'

end

/-- Settles O36. -/
theorem auxSequencesAndCalibration : Obligations.AuxSequencesAndCalibration := by
  intro s path w hu
  refine ⟨fun hacc hidle => ⟨exec_auxRegEnable_continuous hu hidle hacc, exec_auxRegEnable_triggered hu hidle hacc, exec_auxRegEnable_refused hu hidle hacc (s.auxSeqCause_asked path false w)⟩,
    fun hacc hidle => exec_auxInjEnable_accepted hu hidle hacc, exec_auxRegDisable_converting hu, exec_auxInjDisable_waiting hu,
    fun inj e i hej hacc => ⟨exec_auxEntryWrite_free hu hej hacc, exec_auxEntryWrite_refused hu hej hacc⟩,
    fun hacc => ⟨exec_auxCalStart_idle hu hacc, exec_auxCalStart_busy hu hacc⟩, fun ofs gain hst hcal hin => ?_⟩
  have honly := s.auxCalShown_regsOnly ofs gain
  obtain ⟨hbusy, hdone, hres, hvalid, hst0, hcor⟩ := s.fld_auxCalShown ofs gain
  refine ⟨_, exec_auxCalComplete_eq ofs gain hu hst hcal hin, honly.fire_eq 206, fun g hg => ?_, hbusy, hdone, hres, hvalid, hst0,
    fun off h1 h2 => honly.2 off ?_⟩
  · have h := (hcor g hg).trans (State.auxCorrection_corrected ofs gain hg)
    obtain ⟨h1, h2, h3, h4⟩ := hin g hg
    exact ⟨(congrArg Prod.fst h).trans (auxLimited_of_within ⟨h1, h2⟩), (congrArg Prod.snd h).trans (auxLimited_of_within ⟨h3, h4⟩)⟩
  · intro hmem
    rcases List.mem_append.mp hmem with h | h
    · exact h1 h
    · obtain ⟨g, hg, h | h⟩ := mem_auxCorrections.mp h
      · exact (h2 g hg).1 h
      · exact (h2 g hg).2 h

end Sys2Proof.Machine

/-!
Auxiliary triggers, and the faults of sources and clamps (R255, R263-R265, R278).
-/
namespace Sys2Proof.Machine

/-! ## Bits kept as masks -/

/-- A mask with a bit set or cleared, as the commands of faults and clamps write it. -/
def maskSet (x n : Nat) (on : Bool) : Nat := if on then x ||| 2 ^ n else if x.testBit n then x - 2 ^ n else x

theorem testBit_maskSet (x n : Nat) (on : Bool) (m : Nat) : (maskSet x n on).testBit m = if m = n then on else x.testBit m := by
  cases on with
  | true =>
    rw [maskSet, if_pos rfl, Nat.testBit_or]
    by_cases hm : m = n
    · rw [if_pos hm, hm, Nat.testBit_two_pow_self, Bool.or_true]
    · rw [if_neg hm, Nat.testBit_two_pow_of_ne (Ne.symm hm), Bool.or_false]
  | false =>
    rw [maskSet, if_neg Bool.false_ne_true]
    by_cases hx : x.testBit n = true
    · rw [if_pos hx, testBit_sub_two_pow hx]
    · rw [if_neg hx]
      by_cases hm : m = n
      · rw [if_pos hm, hm]
        simpa using hx
      · rw [if_neg hm]

/-- A single bit set in a register. -/
theorem State.getLsbD_setFld_bit (s : State) (o n : Nat) (hn : n < 32) : ((s.setFld o ⟨n, 1⟩ 1).reg o).getLsbD n = true := by
  rw [State.setFld, State.reg_setReg_same, Fld.put_bit _ _ _ _ (show n + 1 ≤ 32 by omega) hn, if_pos ⟨Nat.le_refl n, Nat.lt_succ_self n⟩,
    Nat.sub_self]
  rfl

/-- Registers and a pulse: the command ends with its effect. -/
theorem State.regsOnly.done_fire {s t : State} {l : List Nat} (h : s.regsOnly t l) (hu : s.usual) (hl : endIgnores l) (ev : Nat) :
    State.done (t.fire ev) = .next (t.fire ev) := by
  obtain ⟨hq, hs⟩ := State.usual_of hu h.sameBut.endsAlike h.2 hl
  exact State.done_of_usual ⟨State.quiet_fire _ _ hq, State.settled_fire _ _ hs⟩

/-! ## Triggers -/

section
variable {s : State} (hu : s.usual)
include hu

/-- A conversion that starts by itself. -/
theorem State.done_convStart {t : State} (h : s.Only Frame.aux t []) (inj : Bool) {e : Nat} (he : e < 32) :
    ∃ u, State.done (t.convStart inj e) = .next u ∧ u = { s with regs := u.regs, aux := u.aux } ∧ Converting u inj e ∧
      u.aux.remembered = t.aux.remembered ∧ (∀ off, off ∉ [R.auxStat, R.auxExcStat] → u.reg off = s.reg off) := by
  have honly := (h.mono (by simp)).trans (t.convStart_only inj e)
  refine ⟨_, honly.done hu (endIgnores_aux (by decide)), honly.state, State.converting_convStart _ _ _ he, ?_, honly.reg⟩
  rw [State.aux_convStart]

section
variable (hen : s.auxEn false = true) (hmode : s.fld R.auxRegCtl F.auxRegCtl.MODE = 1) (hsel : s.selOn R.auxRegTrigSel = true)
  (hrem : s.aux.remembered = none)

omit hu in
include hen hmode hsel hrem in
theorem State.auxRegTrigger_eq : s.auxRegTrigger = (if s.auxState = 1 then s.count R.auxSkipCnt
    else if s.auxState = 2 then s.setFld R.auxStat F.auxStat.HELD 1 else if s.auxState = 0 then s.convStart false 0 else s) := by
  delta State.auxRegTrigger
  rw [hen, hmode, hsel, hrem]
  by_cases h : s.auxState = 1
  · rw [if_neg (by decide), if_pos (.inl h), if_pos h]
  · rw [if_neg (by decide), if_neg (by simpa using h), if_neg h]

include hen hmode hsel hrem

theorem exec_auxRegularTrigger_idle (hst : s.auxState = 0) :
    ∃ t, exec .auxRegularTrigger s = .next t ∧ t = { s with regs := t.regs, aux := t.aux } ∧ Converting t false 0 ∧
      (∀ off, off ∉ [R.auxStat, R.auxExcStat] → t.reg off = s.reg off) := by
  obtain ⟨t, hdone, hstate, hconv, -, hreg⟩ := State.done_convStart hu (.refl s []) false (e := 0) (by decide)
  refine ⟨t, (congrArg State.done ?_).trans hdone, hstate, hconv, hreg⟩
  rw [State.auxRegTrigger_eq hen hmode hsel hrem, hst]
  rfl

theorem exec_auxRegularTrigger_busy (hst : s.auxState = 1) :
    ∃ t, exec .auxRegularTrigger s = .next t ∧ s.sameBut t [R.auxSkipCnt] ∧ t.reg R.auxSkipCnt = satInc (s.reg R.auxSkipCnt) := by
  have honly : s.sameBut (s.count R.auxSkipCnt) [R.auxSkipCnt] := (State.sameBut_refl s _).count (by simp)
  refine ⟨_, (congrArg State.done ?_).trans (State.done_of_regs hu honly (endIgnores_aux (by decide))), honly, State.reg_setReg_same _ _ _⟩
  rw [State.auxRegTrigger_eq hen hmode hsel hrem, if_pos hst]

theorem exec_auxRegularTrigger_held (hst : s.auxState = 2) :
    ∃ t, exec .auxRegularTrigger s = .next t ∧ s.sameBut t [R.auxStat] ∧ t.fld R.auxStat F.auxStat.HELD = 1 ∧ t.auxState = 2 := by
  have honly : s.sameBut (s.setFld R.auxStat F.auxStat.HELD 1) [R.auxStat] := (State.sameBut_refl s _).setFld _ _ (by simp)
  refine ⟨_, (congrArg State.done ?_).trans (State.done_of_regs hu honly (endIgnores_aux (by decide))), honly, ?_, ?_⟩
  · rw [State.auxRegTrigger_eq hen hmode hsel hrem, if_neg (by rw [hst]; decide), if_pos hst]
  · rw [State.fld_setFld _ _ _ _ (by decide)]
    rfl
  · rw [State.auxState, State.fld_setFld_apart _ _ _ _ _ (by decide) (by decide) (by decide)]
    exact hst

end

section
variable (hen : s.auxEn true = true) (hsel : s.selOn R.auxInjTrigSel = true)

omit hu in
include hen hsel in
theorem State.auxInjTrigger_eq : s.auxInjTrigger = (if s.auxState = 2 then
      if s.bit R.auxStat F.auxStat.PEND then ((s.count R.auxOvrCnt).setFld R.auxStat F.auxStat.OVERRUN 1).fire 196
      else s.setFld R.auxStat F.auxStat.PEND 1
    else if s.auxState = 1 then
      ({ s with aux := { s.aux with remembered := s.aux.conv.map (fun (c : Conv) => c.entry) } }).convStart true 0
    else if s.auxState = 0 then s.convStart true 0
    else s) := by
  delta State.auxInjTrigger
  rw [hen, hsel]
  exact if_neg (by decide)

include hen hsel

theorem exec_auxInjectedTrigger_idle (hst : s.auxState = 0) :
    ∃ t, exec .auxInjectedTrigger s = .next t ∧ t = { s with regs := t.regs, aux := t.aux } ∧ Converting t true 0 ∧
      (∀ off, off ∉ [R.auxStat, R.auxExcStat] → t.reg off = s.reg off) := by
  obtain ⟨t, hdone, hstate, hconv, -, hreg⟩ := State.done_convStart hu (.refl s []) true (e := 0) (by decide)
  refine ⟨t, (congrArg State.done ?_).trans hdone, hstate, hconv, hreg⟩
  rw [State.auxInjTrigger_eq hen hsel, if_neg (by rw [hst]; decide), if_neg (by rw [hst]; decide), if_pos hst]

theorem exec_auxInjectedTrigger_regular (c : Conv) (hst : s.auxState = 1) (hc : s.aux.conv = some c) :
    ∃ t, exec .auxInjectedTrigger s = .next t ∧ t = { s with regs := t.regs, aux := t.aux } ∧ Converting t true 0 ∧
      t.aux.remembered = some c.entry ∧ (∀ off, off ∉ [R.auxStat, R.auxExcStat] → t.reg off = s.reg off) := by
  obtain ⟨t, hdone, hstate, hconv, hrem, hreg⟩ := State.done_convStart (s := s)
    (t := { s with aux := { s.aux with remembered := s.aux.conv.map (fun (c : Conv) => c.entry) } }) hu ⟨rfl, fun _ _ => rfl⟩ true (e := 0) (by decide)
  refine ⟨t, (congrArg State.done ?_).trans hdone, hstate, hconv, hrem.trans ?_, hreg⟩
  · rw [State.auxInjTrigger_eq hen hsel, if_neg (by rw [hst]; decide), if_pos hst]
  · change s.aux.conv.map (fun (c : Conv) => c.entry) = some c.entry
    rw [hc]
    rfl

theorem exec_auxInjectedTrigger_pending (hst : s.auxState = 2) (hp : s.fld R.auxStat F.auxStat.PEND = 0) :
    ∃ t, exec .auxInjectedTrigger s = .next t ∧ s.sameBut t [R.auxStat] ∧ t.fld R.auxStat F.auxStat.PEND = 1 := by
  have honly : s.sameBut (s.setFld R.auxStat F.auxStat.PEND 1) [R.auxStat] := (State.sameBut_refl s _).setFld _ _ (by simp)
  refine ⟨_, (congrArg State.done ?_).trans (State.done_of_regs hu honly (endIgnores_aux (by decide))), honly, ?_⟩
  · rw [State.auxInjTrigger_eq hen hsel, if_pos hst, State.bit_eq_false hp, if_neg Bool.false_ne_true]
  · rw [State.fld_setFld _ _ _ _ (by decide)]
    rfl

theorem exec_auxInjectedTrigger_overrun (hst : s.auxState = 2) (hp : s.fld R.auxStat F.auxStat.PEND = 1) :
    ∃ t, exec .auxInjectedTrigger s = .next t ∧ t = { s with regs := t.regs, pulses := addSorted s.pulses 196 } ∧
      t.reg R.auxOvrCnt = satInc (s.reg R.auxOvrCnt) ∧ t.fld R.auxStat F.auxStat.OVERRUN = 1 ∧
      (∀ off, off ∉ [R.auxStat, R.auxOvrCnt] → t.reg off = s.reg off) := by
  have honly : s.regsOnly ((s.count R.auxOvrCnt).setFld R.auxStat F.auxStat.OVERRUN 1) [R.auxStat, R.auxOvrCnt] :=
    ((State.regsOnly.refl s _).count (by simp)).setFld _ _ (by simp)
  have hov : ((s.count R.auxOvrCnt).setFld R.auxStat F.auxStat.OVERRUN 1).fld R.auxStat F.auxStat.OVERRUN = 1 := State.fld_setFld _ _ _ _ (by decide)
  have hcnt : ((s.count R.auxOvrCnt).setFld R.auxStat F.auxStat.OVERRUN 1).reg R.auxOvrCnt = satInc (s.reg R.auxOvrCnt) :=
    (State.reg_setFld_ne _ _ _ _ _ (by decide)).trans (State.reg_setReg_same _ _ _)
  have hdef := State.auxInjTrigger_eq hen hsel
  rw [if_pos hst, State.bit_eq_true hp, if_pos rfl] at hdef
  rw [show exec .auxInjectedTrigger s = State.done s.auxInjTrigger from rfl, hdef]
  clear hdef
  generalize (s.count R.auxOvrCnt).setFld R.auxStat F.auxStat.OVERRUN 1 = u at honly hov hcnt ⊢
  exact ⟨_, honly.done_fire hu (endIgnores_aux (by decide)) 196, honly.fire_eq 196, hcnt, hov, honly.2⟩

end

/-! ## The reference -/

theorem exec_auxRefLow_converting (hc : s.aux.conv.isSome = true) :
    (∃ t, exec .auxRefLow s = .next t ∧ s.sameBut t [R.auxStat] ∧ t.fld R.auxStat F.auxStat.REF_LOW = 1) ∧
      (s.fld R.auxStat F.auxStat.REF_LOW = 1 → ∀ x, exec (.auxConversionResult x) s = .next s) := by
  have honly : s.sameBut (s.setFld R.auxStat F.auxStat.REF_LOW 1) [R.auxStat] := (State.sameBut_refl s _).setFld _ _ (by simp)
  refine ⟨⟨_, (congrArg State.done (if_pos hc)).trans (State.done_of_regs hu honly (endIgnores_aux (by decide))), honly, ?_⟩, fun hlow x => ?_⟩
  · rw [State.fld_setFld _ _ _ _ (by decide)]
    rfl
  · obtain ⟨c, hc⟩ := Option.isSome_iff_exists.mp hc
    refine (congrArg State.done ?_).trans (State.done_of_regs hu (State.sameBut_refl s []) (endIgnores_aux (by decide)))
    rw [hc]
    exact if_pos (State.bit_eq_true hlow)

theorem exec_auxRefRestored_eq : ∃ t, exec .auxRefRestored s = .next t ∧ s.sameBut t [R.auxStat] ∧ t.fld R.auxStat F.auxStat.REF_LOW = 0 := by
  have honly : s.sameBut (s.setFld R.auxStat F.auxStat.REF_LOW 0) [R.auxStat] := (State.sameBut_refl s _).setFld _ _ (by simp)
  refine ⟨_, State.done_of_regs hu honly (endIgnores_aux (by decide)), honly, ?_⟩
  rw [State.fld_setFld _ _ _ _ (by decide)]
  rfl

/-! ## Faults of sources, and clamps -/

/-- The state with the sources in fault. -/
def State.withExcFault (t : State) (m : Nat) : State := { t with aux := { t.aux with excFault := m } }

/-- The state with the clamps that carry current. -/
def State.withClamping (t : State) (m : Nat) : State := { t with aux := { t.aux with clamping := m } }

/-- The conversion in progress, if any, changed. -/
def State.mapConv (t : State) (f : Conv → Conv) : State := { t with aux := { t.aux with conv := t.aux.conv.map f } }

omit hu in
/-- What a change of the conversion in progress makes true of it. -/
theorem State.conv_mapConv {t : State} {f : Conv → Conv} {p : Conv → Prop} (hp : ∀ c, p (f c)) (c : Conv) (h : (t.mapConv f).aux.conv = some c) : p c := by
  obtain ⟨c', -, rfl⟩ := Option.map_eq_some_iff.mp h
  exact hp c'

theorem exec_excitationFault_on (k : Fin 4) (hruns : s.excRuns k = true) :
    ∃ t, exec (.excitationFault k true) s = .next t ∧ t = { s with regs := t.regs, aux := t.aux } ∧ (t.reg R.auxExcStat).getLsbD k = true ∧
      t.aux.excFault.testBit k = true ∧ (∀ c, t.aux.conv = some c → c.excFault.testBit k = true) ∧
      (∀ off, off ≠ R.auxExcStat → t.reg off = s.reg off) := by
  have hk := k.isLt
  have honly : s.Only Frame.aux (((s.withExcFault (maskSet s.aux.excFault k true)).setFld R.auxExcStat ⟨k, 1⟩ 1).mapConv
      (fun c => { c with excFault := maskSet c.excFault k true })) [R.auxExcStat] :=
    (State.Only.setFld (F := Frame.aux) (t := s.withExcFault (maskSet s.aux.excFault k true)) ⟨rfl, fun _ _ => rfl⟩ _ _ (by simp)).upd rfl rfl
  refine ⟨_, (congrArg State.done ?_).trans (honly.done hu (endIgnores_aux (by decide))), honly.state, ?_, ?_, ?_, fun off ho => honly.reg off (by simpa using ho)⟩
  · refine (if_pos ?_).trans rfl
    rw [hruns]
    rfl
  · exact State.getLsbD_setFld_bit _ _ _ (by omega)
  · exact (testBit_maskSet _ _ true _).trans (if_pos rfl)
  · exact State.conv_mapConv (p := fun c => c.excFault.testBit k = true) fun c => (testBit_maskSet _ _ true _).trans (if_pos rfl)

theorem exec_excitationFault_off (k : Fin 4) :
    ∃ t, exec (.excitationFault k false) s = .next t ∧ t = { s with aux := { s.aux with excFault := t.aux.excFault } } ∧
      t.aux.excFault.testBit k = false ∧ (∀ j, j ≠ k.val → t.aux.excFault.testBit j = s.aux.excFault.testBit j) := by
  have honly : s.Only Frame.aux (s.withExcFault (maskSet s.aux.excFault k false)) [] := ⟨rfl, fun _ _ => rfl⟩
  exact ⟨_, honly.done hu (endIgnores_aux (by decide)), rfl, (testBit_maskSet _ _ false _).trans (if_pos rfl),
    fun j hj => (testBit_maskSet _ _ false _).trans (if_neg hj)⟩

theorem exec_auxClampCurrent_on (p : Fin 24) :
    ∃ t, exec (.auxClampCurrent p true) s = .next t ∧ t = { s with regs := t.regs, aux := t.aux, pulses := addSorted s.pulses 198 } ∧
      (t.reg R.auxClampStat).getLsbD p = true ∧ t.aux.clamping.testBit p = true ∧ (∀ c, t.aux.conv = some c → c.clamps.testBit p = true) ∧
      (∀ off, off ≠ R.auxClampStat → t.reg off = s.reg off) := by
  have hp := p.isLt
  have honly : (s.fire 198).Only Frame.aux ((((s.withClamping (maskSet s.aux.clamping p true)).setFld R.auxClampStat ⟨p, 1⟩ 1).fire 198).mapConv
      (fun c => { c with clamps := maskSet c.clamps p true })) [R.auxClampStat] :=
    ((State.Only.setFld (F := Frame.aux) (s := s) (t := s.withClamping (maskSet s.aux.clamping p true)) ⟨rfl, fun _ _ => rfl⟩ _ _ (by simp)).fire 198).upd rfl rfl
  have hdone := honly.done (State.usual_of (l := []) hu (State.endsAlike_of rfl) (fun _ _ => rfl) (endIgnores_aux (by decide))) (endIgnores_aux (by decide))
  refine ⟨_, hdone, honly.state, ?_, ?_, ?_, fun off ho => honly.reg off (by simpa using ho)⟩
  · exact State.getLsbD_setFld_bit _ _ _ (by omega)
  · exact (testBit_maskSet _ _ true _).trans (if_pos rfl)
  · exact State.conv_mapConv (p := fun c => c.clamps.testBit p = true) fun c => (testBit_maskSet _ _ true _).trans (if_pos rfl)

theorem exec_auxClampCurrent_off (p : Fin 24) :
    ∃ t, exec (.auxClampCurrent p false) s = .next t ∧ t = { s with aux := { s.aux with clamping := t.aux.clamping } } ∧
      t.aux.clamping.testBit p = false ∧ (∀ j, j ≠ p.val → t.aux.clamping.testBit j = s.aux.clamping.testBit j) := by
  have honly : s.Only Frame.aux (s.withClamping (maskSet s.aux.clamping p false)) [] := ⟨rfl, fun _ _ => rfl⟩
  exact ⟨_, honly.done hu (endIgnores_aux (by decide)), rfl, (testBit_maskSet _ _ false _).trans (if_pos rfl),
    fun j hj => (testBit_maskSet _ _ false _).trans (if_neg hj)⟩

end

/-- Settles O37. -/
theorem auxTriggersAndFaults : Obligations.AuxTriggersAndFaults := by
  intro s hu
  exact ⟨fun hen hmode hsel hrem => ⟨exec_auxRegularTrigger_idle hu hen hmode hsel hrem, exec_auxRegularTrigger_busy hu hen hmode hsel hrem,
      exec_auxRegularTrigger_held hu hen hmode hsel hrem⟩,
    fun hen hsel => ⟨exec_auxInjectedTrigger_idle hu hen hsel, exec_auxInjectedTrigger_regular hu hen hsel,
      exec_auxInjectedTrigger_pending hu hen hsel, exec_auxInjectedTrigger_overrun hu hen hsel⟩,
    exec_auxRefLow_converting hu, exec_auxRefRestored_eq hu,
    fun k => ⟨exec_excitationFault_on hu k, exec_excitationFault_off hu k⟩,
    fun p => ⟨exec_auxClampCurrent_on hu p, exec_auxClampCurrent_off hu p⟩⟩

end Sys2Proof.Machine

/-!
The result of an auxiliary conversion (R253, R258, R269, R270, R279).
-/
namespace Sys2Proof.Machine

/-! ## Rounding -/

/-- A quotient rounded as a rational is the rounded quotient. -/
theorem ratRound_div (a : Int) (b : Nat) (hb : 0 < b) : ratRound ((a : Rat) / (b : Rat)) = roundDiv a b := by
  have hq : (0 : Rat) < (b : Rat) := by exact_mod_cast hb
  have hfloor : ∀ m : Nat, Rat.floor ((m : Rat) / (b : Rat) + 1 / 2) = (((2 * m + b) / (2 * b) : Nat) : Int) := fun m => by
    have h : ((m : Rat) / (b : Rat) + 1 / 2) = (((2 * m + b : Nat) : Int) : Rat) / ((2 * b : Nat) : Rat) := by
      push_cast
      field_simp
    rw [h]
    exact (Rat.floor_intCast_div_natCast _ _).trans (Int.natCast_div _ _).symm
  rw [ratRound, roundDiv]
  by_cases ha : 0 ≤ a
  · rw [if_neg (not_lt.mpr (div_nonneg (by exact_mod_cast ha) hq.le)), if_pos ha]
    obtain ⟨m, rfl⟩ := Int.eq_ofNat_of_zero_le ha
    exact hfloor m
  · obtain ⟨m, hm⟩ := Int.eq_ofNat_of_zero_le (show 0 ≤ -a by omega)
    obtain rfl : a = -(m : Int) := by omega
    rw [if_pos (div_neg_of_neg_of_pos (by exact_mod_cast (not_le.mp ha)) hq), if_neg ha]
    have h : (-(((-(m : Int) : Int) : Rat) / (b : Rat)) + 1 / 2) = (m : Rat) / (b : Rat) + 1 / 2 := by
      push_cast
      ring
    rw [h, hfloor m]
    simp

/-- Rounding leaves a multiple as it is. -/
theorem roundDiv_mul_self (a : Int) (b : Nat) (hb : 0 < b) : roundDiv (a * b) b = a := by
  have hround : ∀ m : Nat, (2 * (m * b) + b) / (2 * b) = m := fun m => by
    rw [show 2 * (m * b) + b = b + m * (2 * b) by ring, Nat.add_mul_div_right _ _ (by omega), Nat.div_eq_of_lt (by omega), Nat.zero_add]
  rw [roundDiv]
  by_cases ha : 0 ≤ a
  · obtain ⟨m, rfl⟩ := Int.eq_ofNat_of_zero_le ha
    rw [if_pos (by positivity), show ((m : Int) * (b : Int)).toNat = m * b by exact_mod_cast Int.toNat_natCast (m * b), hround]
  · obtain ⟨m, hm⟩ := Int.eq_ofNat_of_zero_le (show 0 ≤ -a by omega)
    obtain rfl : a = -(m : Int) := by omega
    have hpos : 0 < (m : Int) * (b : Int) := Int.mul_pos (by omega) (by omega)
    rw [if_neg (by rw [Int.neg_mul]; omega), Int.neg_mul, Int.neg_neg,
      show ((m : Int) * (b : Int)).toNat = m * b by exact_mod_cast Int.toNat_natCast (m * b), hround]

theorem ofNat_unsigned (n : Nat) (i : Int) : BitVec.ofNat n (unsigned n i) = BitVec.ofInt n i := by
  refine BitVec.eq_of_toNat_eq ?_
  rw [BitVec.toNat_ofNat, BitVec.toNat_ofInt, Nat.mod_eq_of_lt (unsigned_lt n i)]
  rfl

/-! ## The value -/

section
variable (s : State) (c : Conv) (x : AuxInput)

theorem State.nodeVolt_pin {code : Nat} (h : code < 24) (pin : Int) : s.nodeVolt code pin = pin := by
  rw [State.nodeVolt, if_neg (by omega), if_neg (by omega), if_neg (by omega)]

/-- A conversion's value takes from the free values at most. -/
theorem State.auxValue_free : ∃ v ovr cr cj n, s.auxValue c x = (v, ovr, cr, cj, { s with freeCount := n }) := by
  delta State.auxValue
  extract_lets g ref out vd vr o gc k curve nom
  split
  next code s1 hs1 =>
  have hfree : ∃ n, s1 = { s with freeCount := n } := by
    split at hs1
    · exact ⟨_, (congrArg Prod.snd hs1).symm⟩
    · exact ⟨_, (congrArg Prod.snd hs1).symm⟩
  obtain ⟨n, rfl⟩ := hfree
  extract_lets ovr code' cc sv
  split
  next v cr cj hv =>
  split
  · exact ⟨_, _, _, _, _, rfl⟩
  · exact ⟨_, _, _, _, _, rfl⟩

/-- The code of a plain conversion with the internal reference (R258). -/
theorem State.auxValue_plain (href : F.auxRegCfg.REF.get c.cfg = 0) (hout : F.auxRegCfg.OUT.get c.cfg = 0) (hp : F.auxRegCfg.AINP.get c.cfg < 24)
    (hn : F.auxRegCfg.AINN.get c.cfg < 24) (hofs : s.fld (R.auxCalOfs (F.auxRegCfg.GAIN.get c.cfg)) F.auxCalOfs.OFS = 0)
    (hgc : s.fld (R.auxCalGain (F.auxRegCfg.GAIN.get c.cfg)) F.auxCalGain.GC = 0) (hover : x.overload = false) {code : Int}
    (hcode : code = roundDiv ((x.vp - x.vn) * (2 ^ (23 + F.auxRegCfg.GAIN.get c.cfg) : Nat)) 1250000000000) (hlo : -8388608 ≤ code) (hhi : code ≤ 8388607) :
    s.auxValue c x = (code, false, false, false, s) := by
  delta State.auxValue
  extract_lets g ref out vd vr o gc k curve nom
  have hvr : vr = 1250000000000 := if_pos href
  have hvd : vd = x.vp - x.vn := by
    rw [show vd = s.nodeVolt (F.auxRegCfg.AINP.get c.cfg) x.vp - s.nodeVolt (F.auxRegCfg.AINN.get c.cfg) x.vn from rfl, s.nodeVolt_pin hp, s.nodeVolt_pin hn]
  have hrat : ratRound (((2 ^ (23 + g) : Nat) : Rat) * ((vd : Int) : Rat) / ((vr : Int) : Rat)) = code := by
    rw [hvr, hvd, hcode, ← ratRound_div _ _ (by decide)]
    congr 1
    push_cast
    ring
  have hclamp : clampInt (-8388608) 8388607 code = code := by
    rw [clampInt, if_neg (by omega), if_neg (by omega)]
  rw [if_neg (by rw [hvr]; decide), hrat]
  split
  next code0 s0 hpair =>
  obtain ⟨rfl, rfl⟩ := Prod.mk.inj hpair
  extract_lets ovr code' cc sv
  have hovr : ovr = false := by
    rw [show ovr = (x.overload || decide (8388607 < code ∨ code < -8388608)) from rfl, hover, decide_eq_false (by omega)]
    rfl
  have ho : o = 0 := by
    rw [show o = if F.auxRegCfg.CHOP.get c.cfg = 1 then 0 else signed 16 (s.fld (R.auxCalOfs g) F.auxCalOfs.OFS) from rfl, hofs]
    split <;> rfl
  have hgc0 : gc = 0 := by
    rw [show gc = signed 16 (s.fld (R.auxCalGain g) F.auxCalGain.GC) from rfl, hgc]
    rfl
  have hcc : cc = code := by
    rw [show cc = clampInt (-8388608) 8388607 (roundDiv ((code' - o) * (16777216 + gc)) 16777216) from rfl, ho, hgc0,
      show code' = code from hclamp, Int.sub_zero, Int.add_zero, show (16777216 : Int) = ((16777216 : Nat) : Int) from rfl,
      roundDiv_mul_self _ _ (by decide), hclamp]
  rw [if_pos hout]
  refine (if_neg ?_).trans ?_
  · rw [hcc]
    have h31 : ((2 ^ 31 : Nat) : Int) = 2147483648 := by decide
    rw [h31]
    omega
  · rw [hcc, hovr]

end

/-! ## The flags and the slot -/

/-- The flags of a result as a number (Table 8-7). -/
def auxFlags (bits : List Bool) : Nat := (List.range 8).foldl (fun m i => if (bits[i]?).getD false then m + 2 ^ i else m) 0

/-- A result of a conversion that timed out shows it. -/
theorem auxFlags_tmo : ∀ a b c d e f : Bool, auxFlags [a, false, b, c, true, d, e, f] < 256 ∧ auxFlags [a, false, b, c, true, d, e, f] / 16 % 2 = 1 := by
  decide

/-- The status word of a result. -/
def auxStatusWord (inj : Bool) (flags entry seq : Nat) : Nat :=
  (if flags = 0 then 1 else 0) + flags * 2 + entry * 2 ^ 16 + (if inj then 2 ^ 21 else 0) + seq * 2 ^ 24

section
variable {flags entry seq : Nat} (hf : flags < 256) (he : entry < 32) (hs : seq < 256)
include hf he hs

theorem fld_auxStatusWord : F.auxRegSlotStatus.VALID.get (BitVec.ofNat 32 (auxStatusWord false flags entry seq)) = (if flags = 0 then 1 else 0) ∧
    F.auxRegSlotStatus.FLAGS.get (BitVec.ofNat 32 (auxStatusWord false flags entry seq)) = flags ∧
    F.auxRegSlotStatus.ENTRY.get (BitVec.ofNat 32 (auxStatusWord false flags entry seq)) = entry ∧
    F.auxRegSlotStatus.SEQ.get (BitVec.ofNat 32 (auxStatusWord false flags entry seq)) = seq := by
  obtain ⟨v, hv, hv1⟩ : ∃ v, v = (if flags = 0 then 1 else 0) ∧ v < 2 := ⟨_, rfl, by split <;> decide⟩
  have hw : auxStatusWord false flags entry seq = v + flags * 2 + entry * 65536 + seq * 16777216 := by
    rw [auxStatusWord, ← hv, if_neg Bool.false_ne_true]
    omega
  rw [← hv, hw, Fld.get_ofNat, Fld.get_ofNat, Fld.get_ofNat, Fld.get_ofNat]
  dsimp only
  omega

omit hf he hs in
/-- FLAGS begins at bit 1. -/
theorem bit5_auxStatusWord (h : flags / 16 % 2 = 1) : (BitVec.ofNat 32 (auxStatusWord false flags entry seq)).getLsbD 5 = true := by
  obtain ⟨v, hv, hv1⟩ : ∃ v, v = (if flags = 0 then 1 else 0) ∧ v < 2 := ⟨_, rfl, by split <;> decide⟩
  have hw : auxStatusWord false flags entry seq = v + flags * 2 + entry * 65536 + seq * 16777216 := by
    rw [auxStatusWord, ← hv, if_neg Bool.false_ne_true]
    omega
  rw [hw, BitVec.getLsbD_ofNat, Nat.testBit_eq_decide_div_mod_eq]
  simp only [show (2 : Nat) ^ 5 = 32 from rfl, Bool.and_eq_true, decide_eq_true_eq]
  omega

end

section
variable (s : State) (n : Nat) (v : Int) (flags : Nat) (tmo : Bool)

/-- The sequence number of the next result in a slot. -/
def State.auxSeq : Nat := (s.fld (R.auxRegSlotStatus n) F.auxRegSlotStatus.SEQ + 1) % 256

/-- A slot with a result. -/
def State.auxSlotted : State :=
  ((s.setReg (R.auxRegSlotValue n) (BitVec.ofNat 32 (unsigned 32 v))).setReg (R.auxRegSlotStatus n)
    (BitVec.ofNat 32 (auxStatusWord false flags n (s.auxSeq n)))).setReg64 (R.auxRegSlotTsLo n) (R.auxRegSlotTsHi n) s.sys.time.toNat

/-- The timeout noted. -/
def State.auxTimedOut : State := ((s.count R.auxTmoCnt).setFld R.auxStat F.auxStat.TMO 1).fire 199

/-- The result made known to the shading groups. -/
def State.auxKnown (ok : Bool) : State := ({ s with aux := { s.aux with fresh := addSorted s.aux.fresh n } }).tempResult n v ok

/-- A result of the regular sequence delivered. -/
def State.auxStored : State :=
  (if tmo then ((s.auxSlotted n v flags).fire 192).auxTimedOut else (s.auxSlotted n v flags).fire 192).auxKnown n v (flags == 0)

/-- The last result of a triggered pass delivered. -/
def State.auxFinished : State := ((s.auxStored n v flags tmo).fire 193).convEnd 0

/-- The frame of a result. -/
def Frame.auxResult : Frame :=
  ⟨fun s t => { s with regs := t.regs, aux := t.aux, shd := t.shd, pulses := t.pulses }, fun _ => rfl, fun _ _ _ => rfl, fun _ _ _ => rfl,
    fun _ _ _ => rfl, fun _ _ => State.endsAlike_of rfl⟩

/-- The registers of a result. -/
def auxResultRegs (n : Nat) : List Nat :=
  [R.auxRegSlotValue n, R.auxRegSlotStatus n, R.auxRegSlotTsLo n, R.auxRegSlotTsHi n, R.auxStat, R.auxExcStat]

theorem State.shown_auxTimedOut (t : State) : t.auxTimedOut.reg R.auxTmoCnt = satInc (t.reg R.auxTmoCnt) ∧ t.auxTimedOut.fld R.auxStat F.auxStat.TMO = 1 := by
  rw [State.auxTimedOut, State.reg_fire, State.fld_fire, State.reg_setFld_ne _ _ _ _ _ (by decide)]
  exact ⟨State.reg_setReg_same _ _ _, State.fld_setFld _ _ _ _ (by decide)⟩

theorem State.fire_only {l : List Nat} (t : State) (ev : Nat) : t.Only Frame.auxResult (t.fire ev) l := ⟨rfl, fun _ _ => rfl⟩

theorem State.auxSlotted_only : s.Only Frame.auxResult (s.auxSlotted n v flags) (auxResultRegs n) := by
  delta State.auxSlotted State.setReg64
  exact ((((State.Only.refl s _).setReg _ (by simp [auxResultRegs])).setReg _ (by simp [auxResultRegs])).setReg _ (by simp [auxResultRegs])).setReg _
    (by simp [auxResultRegs])

theorem State.auxTimedOut_only : s.Only Frame.auxResult s.auxTimedOut [R.auxTmoCnt, R.auxStat] :=
  (((State.Only.refl s _).count (by simp)).setFld _ _ (by simp)).trans (State.fire_only _ _)

theorem State.tempResult_only (ok : Bool) : s.Only Frame.auxResult (s.tempResult n v ok) [] := by
  refine (State.Only.refl s []).foldl _ _ fun t g _ => ?_
  dsimp only
  split
  · exact ⟨rfl, fun _ _ => rfl⟩
  · exact .refl t []

theorem State.auxKnown_only (ok : Bool) : s.Only Frame.auxResult (s.auxKnown n v ok) [] :=
  State.Only.trans (t := { s with aux := { s.aux with fresh := addSorted s.aux.fresh n } }) ⟨rfl, fun _ _ => rfl⟩ (State.tempResult_only _ _ _ _)

theorem State.auxStored_only : s.Only Frame.auxResult (s.auxStored n v flags tmo) (R.auxTmoCnt :: auxResultRegs n) := by
  refine State.Only.trans ?_ ((State.auxKnown_only _ _ _ _).mono (by simp))
  have h1 : s.Only Frame.auxResult ((s.auxSlotted n v flags).fire 192) (R.auxTmoCnt :: auxResultRegs n) :=
    ((s.auxSlotted_only n v flags).mono (by simp)).trans (State.fire_only _ _)
  split
  · exact h1.trans ((State.auxTimedOut_only _).mono (by simp [auxResultRegs]))
  · exact h1

/-- Without a timeout TMO_CNT is not touched. -/
theorem State.auxStored_only_valid : s.Only Frame.auxResult (s.auxStored n v flags false) (auxResultRegs n) :=
  ((s.auxSlotted_only n v flags).trans (State.fire_only _ _)).trans ((State.auxKnown_only _ _ _ _).mono (by simp))

theorem State.auxFinished_from {l : List Nat} (h : s.Only Frame.auxResult (s.auxStored n v flags tmo) l) (h0 : R.auxStat ∈ l) (h1 : R.auxExcStat ∈ l) :
    s.Only Frame.auxResult (s.auxFinished n v flags tmo) l :=
  (h.trans (State.fire_only _ _)).trans (((State.convEnd_only _ 0).widen fun _ _ => rfl).mono (by simp [h0, h1]))

theorem State.pulses_tempResult (ok : Bool) : (s.tempResult n v ok).pulses = s.pulses :=
  List.foldlRecOn (motive := fun t : State => t.pulses = s.pulses) _ _ rfl fun t ht g _ => by
    dsimp only
    split
    · exact ht
    · exact ht

theorem State.pulses_auxFinished : (s.auxFinished n v flags tmo).pulses =
    addSorted (if tmo then addSorted (addSorted s.pulses 192) 199 else addSorted s.pulses 192) 193 := by
  have hstored : (s.auxStored n v flags tmo).pulses = if tmo then addSorted (addSorted s.pulses 192) 199 else addSorted s.pulses 192 := by
    rw [State.auxStored, State.auxKnown, State.pulses_tempResult]
    cases tmo <;> rfl
  rw [← hstored]
  rfl

/-- The registers of a slot. -/
theorem auxSlot_apart (n : Nat) : R.auxRegSlotValue n ≠ R.auxRegSlotStatus n ∧ R.auxRegSlotValue n ≠ R.auxRegSlotTsLo n ∧
    R.auxRegSlotValue n ≠ R.auxRegSlotTsHi n ∧ R.auxRegSlotStatus n ≠ R.auxRegSlotTsLo n ∧ R.auxRegSlotStatus n ≠ R.auxRegSlotTsHi n ∧
    R.auxRegSlotTsLo n ≠ R.auxRegSlotTsHi n := by
  simp only [R.auxRegSlotValue, R.auxRegSlotStatus, R.auxRegSlotTsLo, R.auxRegSlotTsHi]
  omega

theorem State.reg_auxSlotted : (s.auxSlotted n v flags).reg (R.auxRegSlotValue n) = BitVec.ofInt 32 v ∧
    (s.auxSlotted n v flags).reg (R.auxRegSlotStatus n) = BitVec.ofNat 32 (auxStatusWord false flags n (s.auxSeq n)) ∧
    (s.auxSlotted n v flags).reg64 (R.auxRegSlotTsLo n) (R.auxRegSlotTsHi n) = s.sys.time.toNat := by
  obtain ⟨hvs, hvl, hvh, hsl, hsh, hlh⟩ := auxSlot_apart n
  refine ⟨?_, ?_, State.reg64_setReg64 _ _ _ _ hlh s.sys.time.isLt⟩
  · rw [State.auxSlotted, State.reg_setReg64 _ _ _ _ _ hlh, if_neg hvl, if_neg hvh, State.reg_setReg_ne _ _ _ _ hvs, State.reg_setReg_same, ofNat_unsigned]
  · rw [State.auxSlotted, State.reg_setReg64 _ _ _ _ _ hlh, if_neg hsl, if_neg hsh, State.reg_setReg_same]

/-- What is done after a slot is written leaves the slot. -/
theorem State.reg_auxFinished {o : Nat} (ho : 0x1C500 ≤ o) : (s.auxFinished n v flags tmo).reg o = (s.auxSlotted n v flags).reg o := by
  rw [State.auxFinished, (State.convEnd_only _ 0).reg o (by simp only [List.mem_cons, List.not_mem_nil, or_false, R.auxStat, R.auxExcStat]; omega),
    State.reg_fire, State.auxStored, (State.auxKnown_only _ _ _ _).reg o (by simp)]
  split
  · refine ((State.auxTimedOut_only _).reg o ?_).trans (State.reg_fire _ _ _)
    simp only [List.mem_cons, List.not_mem_nil, or_false, R.auxStat, R.auxTmoCnt]
    omega
  · exact State.reg_fire _ _ _

theorem State.fld_auxFinished_tmo : (s.auxFinished n v flags true).reg R.auxTmoCnt = satInc (s.reg R.auxTmoCnt) ∧
    (s.auxFinished n v flags true).fld R.auxStat F.auxStat.TMO = 1 := by
  have hslot : (s.auxSlotted n v flags).reg R.auxTmoCnt = s.reg R.auxTmoCnt := (s.auxSlotted_only n v flags).reg _ (by
    simp only [auxResultRegs, List.mem_cons, List.not_mem_nil, or_false, R.auxStat, R.auxExcStat, R.auxTmoCnt, R.auxRegSlotValue, R.auxRegSlotStatus,
      R.auxRegSlotTsLo, R.auxRegSlotTsHi]
    omega)
  have hknown := ((s.auxSlotted n v flags).fire 192).auxTimedOut.auxKnown_only n v (flags == 0)
  obtain ⟨hcnt, hfld⟩ := ((s.auxSlotted n v flags).fire 192).shown_auxTimedOut
  rw [State.reg_fire, hslot] at hcnt
  rw [State.auxFinished, (State.convEnd_only _ 0).reg _ (by decide), State.fld_convEnd _ (by decide) (by decide), State.reg_fire, State.fld_fire,
    State.auxStored, if_pos rfl, hknown.reg _ (by simp), hknown.fld (by simp)]
  exact ⟨hcnt, hfld⟩

theorem State.conv_auxFinished : (s.auxFinished n v flags tmo).aux.conv = none ∧ (s.auxFinished n v flags tmo).auxState = 0 := by
  constructor
  · rw [State.auxFinished, State.aux_convEnd]
  · exact State.auxState_convEnd _ (by decide)

end

/-! ## The delivery -/

section
variable (s : State) {c : Conv} (x : AuxInput)

/-- A triggered pass ends after its last entry. -/
theorem State.auxAdvance_last (t : State) (hinj : c.inj = false) (hlen : t.fld R.auxRegCtl F.auxRegCtl.LEN = c.entry)
    (hmode : t.fld R.auxRegCtl F.auxRegCtl.MODE = 1) : t.auxAdvance c = (t.fire 193).convEnd 0 := by
  have hlast : ¬ c.entry < t.auxLen false := by
    rw [State.auxLen, if_neg Bool.false_ne_true, hlen]
    exact Nat.lt_irrefl _
  delta State.auxAdvance
  extract_lets s1 s2
  rw [hinj]
  refine (if_neg Bool.false_ne_true).trans ((if_neg hlast).trans ?_)
  exact if_pos hmode

/-- The flags of a result. -/
def State.auxBits (c : Conv) (tmo isOpen ovr cr cj : Bool) : List Bool :=
  [c.stream && decide (c.since + 1 < c.outputs), isOpen,
    ([F.auxRegCfg.AINP.get c.cfg, F.auxRegCfg.AINN.get c.cfg] ++
      (if F.auxRegCfg.REF.get c.cfg = 1 then [F.auxRegLin.REFP.get c.lin, F.auxRegLin.REFN.get c.lin] else [])).any
        (fun p => decide (p < 24) && (c.clamps ||| s.aux.clamping).testBit p),
    ovr, tmo, c.excFault != 0, cr, cj]

/-- A pass that ends with a consequence queued. -/
theorem State.auxAdvance_queued (u : State) (w : List Work) (hinj : c.inj = false) (hlen : u.fld R.auxRegCtl F.auxRegCtl.LEN = c.entry)
    (hmode : u.fld R.auxRegCtl F.auxRegCtl.MODE = 1) :
    State.auxAdvance { u with work := u.work ++ w } c = { (u.fire 193).convEnd 0 with work := ((u.fire 193).convEnd 0).work ++ w } :=
  State.auxAdvance_last { u with work := u.work ++ w } hinj hlen hmode

theorem State.auxDeliver_eq {v : Int} {ovr cr cj tmo : Bool} {s1 : State} (hinj : c.inj = false) (hval : s.auxValue c x = (v, ovr, cr, cj, s1))
    (hopen : (!tmo && F.auxRegCfg.OW_EN.get c.cfg == 1) = false) {flags : Nat} (hflags : flags = auxFlags (s.auxBits c tmo false ovr cr cj))
    (hlen : (s1.auxStored c.entry v flags tmo).fld R.auxRegCtl F.auxRegCtl.LEN = c.entry)
    (hmode : (s1.auxStored c.entry v flags tmo).fld R.auxRegCtl F.auxRegCtl.MODE = 1) :
    s.auxDeliver c x tmo = { s1.auxFinished c.entry v flags tmo with
      work := (s1.auxFinished c.entry v flags tmo).work ++ [Work.auxResult c.entry] } := by
  delta State.auxDeliver
  rw [hval, hinj]
  split
  next v0 ovr0 cr0 cj0 s0 heq =>
  simp only [Prod.mk.injEq] at heq
  obtain ⟨rfl, rfl, rfl, rfl, rfl⟩ := heq
  extract_lets thr isOpen pins clamp settle bits flags0 vOff sOff tLo tHi seq status s2 s3 s4 s5 aux6 s6 s7
  have hisOpen : isOpen = false := by
    rw [show isOpen = (!tmo && F.auxRegCfg.OW_EN.get c.cfg == 1 && (ovr || decide (thr * 1000 < x.dOpen))) from rfl, hopen, Bool.false_and]
  have hflags0 : flags0 = flags := by
    rw [hflags, State.auxBits, ← hisOpen]
    rfl
  have hseq : s1.auxSeq c.entry = seq := rfl
  have hstatus : status = auxStatusWord false flags0 c.entry seq := rfl
  have hv : vOff = R.auxRegSlotValue c.entry := if_neg Bool.false_ne_true
  have ho : sOff = R.auxRegSlotStatus c.entry := if_neg Bool.false_ne_true
  have hl : tLo = R.auxRegSlotTsLo c.entry := if_neg Bool.false_ne_true
  have hh : tHi = R.auxRegSlotTsHi c.entry := if_neg Bool.false_ne_true
  clear_value status seq vOff sOff tLo tHi
  have hs3 : s3 = (s1.auxSlotted c.entry v flags).fire 192 := by
    have hsys : s2.sys = s1.sys := (State.setReg_sys _ _ _).trans (State.setReg_sys _ _ _)
    rw [← hflags0, State.auxSlotted, hseq, ← hstatus, ← hv, ← ho, ← hl, ← hh, ← hsys]
    exact congrArg (State.fire _) (if_neg Bool.false_ne_true)
  have hs4 : s4 = s3 := if_neg (by rw [hisOpen]; exact Bool.false_ne_true)
  have hs6 : s6 = s1.auxStored c.entry v flags tmo := by
    rw [show s6 = (if tmo then s4.auxTimedOut else s4).auxKnown c.entry v (flags0 == 0) from rfl, hs4, hs3, hflags0]
    rfl
  have hend : ∀ y : State, y = s1.auxStored c.entry v flags tmo →
      State.auxAdvance { y with work := y.work ++ [Work.auxResult (c.entry + (if false = true then 32 else 0))] } c =
        { s1.auxFinished c.entry v flags tmo with work := (s1.auxFinished c.entry v flags tmo).work ++ [Work.auxResult c.entry] } := by
    rintro _ rfl
    rw [if_neg Bool.false_ne_true, Nat.add_zero]
    exact State.auxAdvance_queued _ _ hinj hlen hmode
  exact hend s6 hs6

/-- With no host waiting for a result, its delivery does nothing more. -/
theorem State.auxDelivered_none {t : State} (slot : Nat) (h : t.hqe.auxWaits = []) : t.auxDelivered slot = t := by
  have hhqe : t = { t with hqe := { t.hqe with auxWaits := [] } } := by
    rw [← h]
  rw [State.auxDelivered, h]
  exact hhqe.symm

end

section
variable {s s1 : State} {c : Conv} {n : Nat}

/-- A delivery ends with the state that it leaves. -/
theorem State.done_auxFinished (hu : s1.usual) (hwaits : s1.hqe.auxWaits = []) (v : Int) (flags : Nat) (tmo : Bool) (hn : n < 32) :
    State.done { s1.auxFinished n v flags tmo with work := (s1.auxFinished n v flags tmo).work ++ [Work.auxResult n] } =
      .next (s1.auxFinished n v flags tmo) := by
  have honly : s1.Only Frame.auxResult (s1.auxFinished n v flags tmo) (R.auxTmoCnt :: auxResultRegs n) :=
    State.auxFinished_from _ _ _ _ _ (State.auxStored_only _ _ _ _ _) (by simp [auxResultRegs]) (by simp [auxResultRegs])
  have hign : endIgnores (R.auxTmoCnt :: auxResultRegs n) := endIgnores_aux (by
    simp only [auxResultRegs, List.mem_cons, List.not_mem_nil, or_false, R.auxStat, R.auxExcStat, R.auxTmoCnt, R.auxRegSlotValue, R.auxRegSlotStatus,
      R.auxRegSlotTsLo, R.auxRegSlotTsHi]
    omega)
  have hhqe : (s1.auxFinished n v flags tmo).hqe = s1.hqe := (congrArg State.hqe honly.state :)
  have husual := State.usual_of hu honly.endsAlike honly.reg hign
  refine State.done_withWorkTo husual.1.1 ?_ husual
  exact State.auxDelivered_none n (by rw [hhqe, hwaits])

/-- The last conversion of a pass, whatever its value. -/
theorem State.done_auxDeliver (hu : s1.usual) (hwaits : s1.hqe.auxWaits = []) (hinj : c.inj = false) (he : c.entry < 32)
    (hlen : s1.fld R.auxRegCtl F.auxRegCtl.LEN = c.entry) (hmode : s1.fld R.auxRegCtl F.auxRegCtl.MODE = 1) (x : AuxInput) (tmo : Bool) {v : Int}
    {ovr cr cj : Bool} (hval : s.auxValue c x = (v, ovr, cr, cj, s1)) (hopen : (!tmo && F.auxRegCfg.OW_EN.get c.cfg == 1) = false) {flags : Nat}
    (hflags : flags = auxFlags (s.auxBits c tmo false ovr cr cj)) :
    State.done (s.auxDeliver c x tmo) = .next (s1.auxFinished c.entry v flags tmo) := by
  have hctl : R.auxRegCtl ∉ R.auxTmoCnt :: auxResultRegs c.entry := by
    simp only [auxResultRegs, List.mem_cons, List.not_mem_nil, or_false, R.auxStat, R.auxExcStat, R.auxTmoCnt, R.auxRegCtl, R.auxRegSlotValue,
      R.auxRegSlotStatus, R.auxRegSlotTsLo, R.auxRegSlotTsHi]
    omega
  have hstored := s1.auxStored_only c.entry v flags tmo
  rw [State.auxDeliver_eq s x hinj hval hopen hflags ((hstored.fld hctl _).trans hlen) ((hstored.fld hctl _).trans hmode)]
  exact State.done_auxFinished hu hwaits _ _ _ he

end

/-! ## The statement -/

section
variable {s : State} {c : Conv} {x : AuxInput}

/-- What a delivered result leaves in its slot. -/
theorem State.auxFinished_slot (s : State) (n : Nat) (v : Int) (flags : Nat) (tmo : Bool) :
    (s.auxFinished n v flags tmo).reg (R.auxRegSlotValue n) = BitVec.ofInt 32 v ∧
    (s.auxFinished n v flags tmo).reg (R.auxRegSlotStatus n) = BitVec.ofNat 32 (auxStatusWord false flags n (s.auxSeq n)) ∧
    (s.auxFinished n v flags tmo).reg64 (R.auxRegSlotTsLo n) (R.auxRegSlotTsHi n) = s.sys.time.toNat := by
  obtain ⟨hv, hs, ht⟩ := s.reg_auxSlotted n v flags
  rw [State.reg64, State.reg_auxFinished _ _ _ _ _ (by simp only [R.auxRegSlotValue]; omega), State.reg_auxFinished _ _ _ _ _ (by simp only [R.auxRegSlotStatus]; omega),
    State.reg_auxFinished _ _ _ _ _ (by simp only [R.auxRegSlotTsLo]; omega), State.reg_auxFinished _ _ _ _ _ (by simp only [R.auxRegSlotTsHi]; omega)]
  exact ⟨hv, hs, ht⟩

theorem State.auxSeq_lt (s : State) (n : Nat) : s.auxSeq n < 256 := Nat.mod_lt _ (by decide)

theorem mem_addSorted_three {l : List Nat} {x a b c : Nat} :
    x ∈ addSorted (addSorted (addSorted l a) b) c ↔ x ∈ l ∨ x = a ∨ x = c ∨ x = b := by
  rw [mem_addSorted, mem_addSorted, mem_addSorted]
  tauto

/-- Nothing to flag: not streaming, no clamp, no fault. -/
theorem State.auxFlags_plain (hstream : c.stream = false) (href : F.auxRegCfg.REF.get c.cfg = 0) (hclamps : c.clamps = 0) (hclamping : s.aux.clamping = 0)
    (hexc : c.excFault = 0) : auxFlags (s.auxBits c false false false false false) = 0 := by
  rw [State.auxBits, hstream, href, hclamps, hclamping, hexc, if_neg (by decide)]
  simp only [Nat.or_self, Nat.zero_testBit, Bool.and_false]
  rfl

variable (hu : s.usual) (hwaits : s.hqe.auxWaits = []) (hc : s.aux.conv = some c) (hinj : c.inj = false) (he : c.entry < 32)
  (hstream : c.stream = false) (hlen : s.fld R.auxRegCtl F.auxRegCtl.LEN = c.entry) (hmode : s.fld R.auxRegCtl F.auxRegCtl.MODE = 1)
include hu hwaits hc hinj he hlen hmode

theorem exec_auxConversionResult_flagless (hlow : s.fld R.auxStat F.auxStat.REF_LOW = 0) {v : Int} (hval : s.auxValue c x = (v, false, false, false, s))
    (how : F.auxRegCfg.OW_EN.get c.cfg = 0) (hflags : auxFlags (s.auxBits c false false false false false) = 0) :
    ∃ t, exec (.auxConversionResult x) s = .next t ∧
      t = { s with regs := t.regs, aux := t.aux, shd := t.shd, pulses := addSorted (addSorted s.pulses 192) 193 } ∧
      t.reg (R.auxRegSlotValue c.entry) = BitVec.ofInt 32 v ∧ t.fld (R.auxRegSlotStatus c.entry) F.auxRegSlotStatus.VALID = 1 ∧
      t.fld (R.auxRegSlotStatus c.entry) F.auxRegSlotStatus.FLAGS = 0 ∧ t.fld (R.auxRegSlotStatus c.entry) F.auxRegSlotStatus.ENTRY = c.entry ∧
      t.fld (R.auxRegSlotStatus c.entry) F.auxRegSlotStatus.SEQ = s.auxSeq c.entry ∧
      t.reg64 (R.auxRegSlotTsLo c.entry) (R.auxRegSlotTsHi c.entry) = s.sys.time.toNat ∧ t.aux.conv = none ∧ t.auxState = 0 ∧
      (∀ off, off ∉ auxResultRegs c.entry → t.reg off = s.reg off) := by
  have hdone := State.done_auxDeliver hu hwaits hinj he hlen hmode x false hval (by rw [how]; decide) hflags.symm
  have honly := s.auxFinished_from c.entry v 0 false (s.auxStored_only_valid c.entry v 0) (by simp [auxResultRegs]) (by simp [auxResultRegs])
  have hpulses := s.pulses_auxFinished c.entry v 0 false
  obtain ⟨hv, hs, ht⟩ := s.auxFinished_slot c.entry v 0 false
  obtain ⟨hconv, hst⟩ := s.conv_auxFinished c.entry v 0 false
  obtain ⟨hvalid, hfl, hent, hseq⟩ := fld_auxStatusWord (flags := 0) (by decide) he (s.auxSeq_lt c.entry)
  rw [← hs] at hvalid hfl hent hseq
  refine ⟨_, (congrArg State.done ?_).trans hdone, ?_, hv, hvalid, hfl, hent, hseq, ht, hconv, hst, honly.reg⟩
  · rw [hc]
    exact if_neg (by rw [State.bit_eq_false hlow]; exact Bool.false_ne_true)
  · refine honly.state.trans ?_
    generalize s.auxFinished c.entry v 0 false = t at hpulses
    rw [if_neg Bool.false_ne_true] at hpulses
    rw [← hpulses]
    rfl

theorem exec_auxConversionTimeout_last : ∃ t, exec (.auxConversionTimeout x) s = .next t ∧
    t = { s with regs := t.regs, aux := t.aux, shd := t.shd, freeCount := t.freeCount, pulses := t.pulses } ∧
    t.fld (R.auxRegSlotStatus c.entry) F.auxRegSlotStatus.VALID = 0 ∧ (t.reg (R.auxRegSlotStatus c.entry)).getLsbD 5 = true ∧
    t.reg R.auxTmoCnt = satInc (s.reg R.auxTmoCnt) ∧ t.fld R.auxStat F.auxStat.TMO = 1 ∧ t.aux.conv = none ∧
    (∀ ev, ev ∈ t.pulses ↔ ev ∈ s.pulses ∨ ev = 192 ∨ ev = 193 ∨ ev = 199) ∧
    (∀ off, off ∉ R.auxTmoCnt :: auxResultRegs c.entry → t.reg off = s.reg off) := by
  obtain ⟨v, ovr, cr, cj, m, hval⟩ := s.auxValue_free c x
  obtain ⟨s1, hs1⟩ : ∃ s1 : State, s1 = { s with freeCount := m } := ⟨_, rfl⟩
  have hreg : s1.reg = s.reg := by rw [hs1]; rfl
  have hfld : ∀ o f, s1.fld o f = s.fld o f := fun o f => State.fld_of_reg (congrFun hreg o) f
  have hu1 : s1.usual := State.usual_of (l := []) hu (State.endsAlike_of (by rw [hs1])) (fun o _ => congrFun hreg o) (endIgnores_aux (by decide))
  rw [← hs1] at hval
  obtain ⟨flags, hflags⟩ : ∃ flags, flags = auxFlags (s.auxBits c true false ovr cr cj) := ⟨_, rfl⟩
  obtain ⟨hf, hbit⟩ := auxFlags_tmo _ _ _ _ _ _
  rw [← State.auxBits.eq_1, ← hflags] at hf hbit
  have hdone := State.done_auxDeliver hu1 (by rw [hs1]; exact hwaits) hinj he ((hfld _ _).trans hlen) ((hfld _ _).trans hmode) x true hval rfl hflags
  have honly := s1.auxFinished_from c.entry v flags true (s1.auxStored_only c.entry v flags true) (by simp [auxResultRegs]) (by simp [auxResultRegs])
  have hpulses := s1.pulses_auxFinished c.entry v flags true
  obtain ⟨hv, hs, ht⟩ := s1.auxFinished_slot c.entry v flags true
  obtain ⟨hconv, hst⟩ := s1.conv_auxFinished c.entry v flags true
  obtain ⟨hcnt, htmo⟩ := s1.fld_auxFinished_tmo c.entry v flags
  obtain ⟨hvalid, -⟩ := fld_auxStatusWord hf he (s1.auxSeq_lt c.entry)
  have hbit5 := bit5_auxStatusWord (entry := c.entry) (seq := s1.auxSeq c.entry) hbit
  rw [← hs] at hvalid hbit5
  rw [if_neg (by rintro rfl; exact absurd hbit (by decide))] at hvalid
  refine ⟨_, (congrArg State.done ?_).trans hdone, ?_, hvalid, hbit5, hcnt.trans (by rw [hreg]), htmo, hconv, fun ev => ?_,
    fun off ho => (honly.reg off ho).trans (congrFun hreg off)⟩
  · rw [hc]
  · refine honly.state.trans ?_
    generalize s1.auxFinished c.entry v flags true = t at honly
    have hfree : t.freeCount = s1.freeCount := (congrArg State.freeCount honly.state :)
    rw [hfree, hs1]
    rfl
  · rw [hpulses, if_pos rfl, show s1.pulses = s.pulses by rw [hs1]]
    exact mem_addSorted_three

end

/-- Settles O38. -/
theorem auxResults : Obligations.AuxResults := by
  intro s c x hu hwaits hc hinj he hstream hlen hmode
  refine ⟨fun hlow href hout how hp hn hofs hgc hclamps hclamping hexc hover hlo hhi => ?_, exec_auxConversionTimeout_last hu hwaits hc hinj he hlen hmode⟩
  exact exec_auxConversionResult_flagless hu hwaits hc hinj he hlen hmode hlow (s.auxValue_plain c x href hout hp hn hofs hgc hover rfl hlo hhi) how
    (State.auxFlags_plain hstream href hclamps hclamping hexc)

end Sys2Proof.Machine

/-!
Waveform channels (R287-R292).
-/
namespace Sys2Proof.Machine

/-! ## The state of a channel -/

/-- The frame of the waveform channels. -/
def Frame.wf : Frame :=
  ⟨fun s t => { s with regs := t.regs, wfs := t.wfs }, fun _ => rfl, fun _ _ _ => rfl, fun _ _ _ => rfl, fun _ _ _ => rfl,
    fun _ _ => State.endsAlike_of rfl⟩

/-- The frame of the waveform channels and of what is held back. -/
def Frame.wfEff : Frame :=
  ⟨fun s t => { s with regs := t.regs, eff := t.eff, wfs := t.wfs }, fun _ => rfl, fun _ _ _ => rfl, fun _ _ _ => rfl, fun _ _ _ => rfl,
    fun _ _ => State.endsAlike_of rfl⟩

/-- The frame of the output samples. -/
def Frame.wfMem : Frame :=
  ⟨fun s t => { s with regs := t.regs, mem := t.mem, wfs := t.wfs, pulses := t.pulses }, fun _ => rfl, fun _ _ _ => rfl, fun _ _ _ => rfl,
    fun _ _ _ => rfl, fun _ _ => State.endsAlike_of rfl⟩

theorem State.setWf_only (s : State) (c : Nat) (x : Wf) (l : List Nat) : s.Only Frame.wf (s.setWf c x) l := ⟨rfl, fun _ _ => rfl⟩

theorem State.wf_setWf (s : State) (c : Nat) (x : Wf) : (s.setWf c x).wf c = x := Table.get_set_same _ _ _ _

theorem State.reg_setWf (s : State) (c : Nat) (x : Wf) (o : Nat) : (s.setWf c x).reg o = s.reg o := rfl

theorem State.fld_setWf (s : State) (c : Nat) (x : Wf) (o : Nat) (f : Fld) : (s.setWf c x).fld o f = s.fld o f := rfl

theorem endIgnores_wf (c : Fin 2) {l : List Nat} (h : ∀ o ∈ l, o ∈ [R.wfCfg c, R.wfWr c, R.wfStat c, R.wfMark c, R.wfCaps c]) : endIgnores l :=
  endIgnores_aux fun o ho => by
    have hc := c.isLt
    have := h o ho
    simp only [List.mem_cons, List.not_mem_nil, or_false, R.wfCfg, R.wfWr, R.wfStat, R.wfMark, R.wfCaps] at this
    omega

/-- Outside a capture there is none to end. -/
theorem State.wfEnd_of_idle {t : State} {c : Nat} (h : t.wfState c ≠ 2) : t.wfEnd c = t := if_pos h

/-- A channel is refused by its registers. -/
theorem State.wfRefused_congr {s t : State} (h : t.reg = s.reg) (c : Nat) : t.wfRefused c = s.wfRefused c := by
  have hf : t.fld = s.fld := by
    funext o f
    exact State.fld_of_reg (congrFun h o) f
  delta State.wfRefused State.wfBase State.wfRing State.reg64 State.pdOn State.bit
  rw [hf, h]

section
variable {s : State} {c : Fin 2} (hu : s.usual)

/-! ## Enable and disable -/

section
variable {path : Path} {w : Word} (hacc : s.accessible path (R.wfCfg c) = true)

/-- WFc_CFG as an enable writes it. -/
def State.wfAsked (s : State) (path : Path) (c : Nat) (w : Word) : State := s.cfgAsked path (R.wfCfg c) Row.wfCfg w

/-- A channel armed. -/
def State.wfArmed (s : State) (c : Nat) : State := ((s.setReg (R.wfWr c) 0).setFld (R.wfStat c) F.wfStat.STATE 1).setWf c {}

theorem wfRegs_apart (c : Nat) : R.wfCfg c ≠ R.wfStat c ∧ R.wfCfg c ≠ R.wfWr c ∧ R.wfWr c ≠ R.wfStat c ∧ R.wfMark c ≠ R.wfStat c ∧
    R.wfCaps c ≠ R.wfStat c := by
  simp only [R.wfCfg, R.wfStat, R.wfWr, R.wfMark, R.wfCaps]
  omega

include hacc in
theorem exec_wfEnable_eq (hen : s.fld (R.wfCfg c) F.wfCfg.EN = 0) : exec (.wfEnable path c w) s = State.done
    (if (s.setReg (R.wfCfg c) (Row.wfCfg.written (s.reg (R.wfCfg c)) (F.wfCfg.EN.put w 1))).wfRefused c then
      ((s.wfAsked path c w).setFld (R.wfCfg c) F.wfCfg.EN 0).setFld (R.wfStat c) F.wfStat.CFG_ERR 1
    else (s.wfAsked path c w).wfArmed c) := by
  have hreg : (s.wfAsked path c w).reg = (s.setReg (R.wfCfg c) (Row.wfCfg.written (s.reg (R.wfCfg c)) (F.wfCfg.EN.put w 1))).reg := by
    funext o
    rw [State.wfAsked, State.cfgAsked, State.reg_writeRow, State.reg_setReg]
  rw [← State.wfRefused_congr hreg]
  refine congrArg State.done ((State.onWrite_of _ _ _ _ hacc).trans ?_)
  delta State.wfCfgWrite
  extract_lets was s1
  have hwas : was = false := State.bit_eq_false hen
  have hs1 : s1 = s.wfAsked path c w := by
    rw [show s1 = s.writeRow path (R.wfCfg c) Row.wfCfg (enFld.put w 1) was from rfl, hwas]
    rfl
  refine (if_pos ?_).trans ?_
  · rw [(enFld_put w).1, hwas]
    rfl
  · rw [hs1]
    rfl

include hacc hu

theorem exec_wfEnable_accepted (hen : s.fld (R.wfCfg c) F.wfCfg.EN = 0)
    (hok : (s.setReg (R.wfCfg c) (Row.wfCfg.written (s.reg (R.wfCfg c)) (F.wfCfg.EN.put w 1))).wfRefused c = false) :
    ∃ t, exec (.wfEnable path c w) s = .next t ∧ t = { s with regs := t.regs, eff := t.eff, wfs := t.wfs } ∧
      t.fld (R.wfCfg c) F.wfCfg.EN = 1 ∧ t.wfState c = 1 ∧ t.reg (R.wfWr c) = 0 ∧ t.wf c = {} ∧
      (∀ off, off ∉ [R.wfCfg c, R.wfWr c, R.wfStat c] → t.reg off = s.reg off) := by
  obtain ⟨hcs, hcw, hws, -, -⟩ := wfRegs_apart c
  have hrow : (s.wfAsked path c w).fld (R.wfCfg c) enFld = 1 := s.fld_cfgAsked_en path (R.wfCfg c) Row.wfCfg w (by decide)
  have h1 : s.sameBut (s.wfAsked path c w) [R.wfCfg c] := s.writeRow_sameBut path _ _ _
  rw [exec_wfEnable_eq hacc hen, hok, if_neg Bool.false_ne_true]
  clear hok
  revert hrow h1
  generalize s.wfAsked path c w = s1
  intro hrow h1
  have honly : s.Only Frame.wfEff (s1.wfArmed c) [R.wfCfg c, R.wfWr c, R.wfStat c] :=
    (((((h1.only fun _ _ _ => rfl).mono (by simp)).setReg _ (by simp)).setFld _ _ (by simp))).trans ((State.setWf_only _ _ _ _).widen fun _ _ => rfl)
  refine ⟨_, honly.done hu (endIgnores_wf c (by simp)), honly.state, ?_, ?_, ?_, State.wf_setWf _ _ _, honly.reg⟩
  · rw [State.wfArmed, State.fld_setWf, State.fld_setFld_ne _ _ _ _ _ _ hcs, State.fld_setReg_ne _ _ _ _ _ hcw]
    exact hrow
  · rw [State.wfState, State.wfArmed, State.fld_setWf, State.fld_setFld _ _ _ _ (by decide)]
    rfl
  · rw [State.wfArmed, State.reg_setWf, State.reg_setFld_ne _ _ _ _ _ hws, State.reg_setReg_same]

theorem exec_wfEnable_refused (hen : s.fld (R.wfCfg c) F.wfCfg.EN = 0)
    (hbad : (s.setReg (R.wfCfg c) (Row.wfCfg.written (s.reg (R.wfCfg c)) (F.wfCfg.EN.put w 1))).wfRefused c = true) :
    ∃ t, exec (.wfEnable path c w) s = .next t ∧ s.sameBut t [R.wfCfg c, R.wfStat c] ∧ t.fld (R.wfCfg c) F.wfCfg.EN = 0 ∧
      t.fld (R.wfStat c) F.wfStat.CFG_ERR = 1 := by
  obtain ⟨hcs, -⟩ := wfRegs_apart c
  have h1 : s.sameBut (s.wfAsked path c w) [R.wfCfg c] := s.writeRow_sameBut path _ _ _
  rw [exec_wfEnable_eq hacc hen, hbad, if_pos rfl]
  clear hbad
  revert h1
  generalize s.wfAsked path c w = s1
  intro h1
  have honly : s.sameBut ((s1.setFld (R.wfCfg c) F.wfCfg.EN 0).setFld (R.wfStat c) F.wfStat.CFG_ERR 1) [R.wfCfg c, R.wfStat c] :=
    ((h1.mono (by simp)).setFld _ _ (by simp)).setFld _ _ (by simp)
  refine ⟨_, State.done_of_regs hu honly (endIgnores_wf c (by simp)), honly, ?_, ?_⟩
  · rw [State.fld_setFld_ne _ _ _ _ _ _ hcs, State.fld_setFld _ _ _ _ (by decide)]
    rfl
  · rw [State.fld_setFld _ _ _ _ (by decide)]
    rfl

theorem exec_wfDisable_eq (hkeep : w &&& 0xFFFF01FE = s.reg (R.wfCfg c) &&& 0xFFFF01FE) (hen : s.fld (R.wfCfg c) F.wfCfg.EN = 1) (hst : s.wfState c ≠ 2) :
    ∃ t, exec (.wfDisable path c w) s = .next t ∧ s.sameBut t [R.wfCfg c, R.wfStat c] ∧ t.fld (R.wfCfg c) F.wfCfg.EN = 0 ∧ t.wfState c = 0 := by
  obtain ⟨hcs, -⟩ := wfRegs_apart c
  have h1 : s.sameBut (s.cfgCleared path (R.wfCfg c) Row.wfCfg w true) [R.wfCfg c] := s.writeKept_sameBut path _ _ _ _
  have hen0 : (s.cfgCleared path (R.wfCfg c) Row.wfCfg w true).fld (R.wfCfg c) enFld = 0 :=
    s.fld_cfgCleared_en path (R.wfCfg c) Row.wfCfg w true (by decide) (by decide)
  have hdef : s.wfCfgWrite path c (F.wfCfg.EN.put w 0) =
      (s.cfgCleared path (R.wfCfg c) Row.wfCfg w true).setFld (R.wfStat c) F.wfStat.STATE 0 := by
    delta State.wfCfgWrite
    extract_lets was s1
    have hwas : was = true := State.bit_eq_true hen
    have hs1 : s1 = s.cfgCleared path (R.wfCfg c) Row.wfCfg w true := by
      rw [show s1 = s.writeRow path (R.wfCfg c) Row.wfCfg (enFld.put w 0) was from rfl, hwas]
      exact State.writeRow_cleared s path _ _ w _ hkeep rfl (by decide)
    refine (if_neg ?_).trans ((if_pos ?_).trans ?_)
    · rw [(enFld_put w).2]
      exact Bool.false_ne_true
    · rw [(enFld_put w).2, hwas]
      rfl
    · rw [hs1, State.wfEnd_of_idle]
      exact fun h => hst ((h1.fld (by simpa using hcs.symm) _).symm.trans h)
  have hexec : exec (.wfDisable path c w) s = _ := congrArg State.done ((State.onWrite_of s path (R.wfCfg c) _ hacc).trans hdef)
  rw [hexec]
  clear hexec hdef
  revert h1 hen0
  generalize s.cfgCleared path (R.wfCfg c) Row.wfCfg w true = s1
  intro h1 hen0
  have honly : s.sameBut (s1.setFld (R.wfStat c) F.wfStat.STATE 0) [R.wfCfg c, R.wfStat c] := (h1.mono (by simp)).setFld _ _ (by simp)
  refine ⟨_, State.done_of_regs hu honly (endIgnores_wf c (by simp)), honly, ?_, ?_⟩
  · rw [State.fld_setFld_ne _ _ _ _ _ _ hcs]
    exact hen0
  · rw [State.wfState, State.fld_setFld _ _ _ _ (by decide)]
    rfl

end

/-! ## A capture -/

/-- A timed capture begun. -/
def State.wfStarted (s : State) (c : Nat) (pos : Int) : State :=
  (((s.setReg (R.wfMark c) (s.reg (R.wfWr c))).setFld (R.wfStat c) F.wfStat.STATE 2).setFld (R.wfStat c) F.wfStat.REV 0).setWf c { start := pos }

include hu

theorem exec_wfCaptureStart_armed (hst : s.wfState c = 1) (hsel : s.selOn (R.wfStartSel c) = true) (hmode : s.fld (R.wfCfg c) F.wfCfg.MODE = 0) :
    ∃ t, exec (.wfCaptureStart c) s = .next t ∧ t = { s with regs := t.regs, wfs := t.wfs } ∧ t.wfState c = 2 ∧
      t.reg (R.wfMark c) = s.reg (R.wfWr c) ∧ (t.wf c).raws = [] ∧ (t.wf c).j = 0 ∧ t.fld (R.wfStat c) F.wfStat.REV = 0 ∧
      (∀ off, off ∉ [R.wfMark c, R.wfStat c] → t.reg off = s.reg off) := by
  obtain ⟨-, -, -, hms, -⟩ := wfRegs_apart c
  have hdef : s.wfBegin c = s.wfStarted c (s.position (s.fld (R.wfCfg c) F.wfCfg.PSRC)) := by
    delta State.wfBegin
    extract_lets s1 pos up s2 s3
    have hs1 : s1 = s := State.wfEnd_of_idle (by rw [hst]; decide)
    refine (if_neg (by rw [hst]; decide)).trans ?_
    have hs3 : s3 = s2 := if_neg (by rw [hs1, State.bit_eq_false hmode]; exact Bool.false_ne_true)
    rw [hs3, show s2 = (s1.setReg (R.wfMark c) (s1.reg (R.wfWr c))).setFld (R.wfStat c) F.wfStat.STATE 2 from rfl,
      show pos = s1.position (s1.fld (R.wfCfg c) F.wfCfg.PSRC) from rfl, hs1]
    rfl
  generalize s.position (s.fld (R.wfCfg c) F.wfCfg.PSRC) = pos at hdef
  have honly : s.Only Frame.wf (s.wfStarted c pos) [R.wfMark c, R.wfStat c] :=
    ((((State.Only.refl s _).setReg _ (by simp)).setFld _ _ (by simp)).setFld _ _ (by simp)).trans (State.setWf_only _ _ _ _)
  have hwf : (s.wfStarted c pos).wf c = { start := pos } := State.wf_setWf _ _ _
  refine ⟨s.wfStarted c pos, ?_, honly.state, ?_, ?_, by rw [hwf], by rw [hwf], ?_, honly.reg⟩
  · exact (congrArg State.done ((if_pos hsel).trans hdef)).trans (honly.done hu (endIgnores_wf c (by simp)))
  · rw [State.wfState, State.wfStarted, State.fld_setWf, State.fld_setFld_apart _ _ _ _ _ (by decide) (by decide) (by decide),
      State.fld_setFld _ _ _ _ (by decide)]
    rfl
  · rw [State.wfStarted, State.reg_setWf, State.reg_setFld_ne _ _ _ _ _ hms, State.reg_setFld_ne _ _ _ _ _ hms, State.reg_setReg_same]
  · rw [State.wfStarted, State.fld_setWf, State.fld_setFld _ _ _ _ (by decide)]
    rfl

theorem exec_wfCaptureStop_running (hst : s.wfState c = 2) (hsel : s.selOn (R.wfStopSel c) = true) :
    ∃ t, exec (.wfCaptureStop c) s = .next t ∧
      t = { s with regs := t.regs, wfs := t.wfs, pulses := addSorted (addSorted s.pulses (204 + c)) (200 + c) } ∧ t.wfState c = 1 ∧
      t.reg (R.wfCaps c) = satInc (s.reg (R.wfCaps c)) ∧ (∀ off, off ∉ [R.wfCaps c, R.wfStat c] → t.reg off = s.reg off) := by
  obtain ⟨-, -, -, -, hcaps⟩ := wfRegs_apart c
  have hdef : s.wfEnd c = ((((s.fire (204 + c)).fire (200 + c)).count (R.wfCaps c)).setFld (R.wfStat c) F.wfStat.STATE 1).setWf c {} :=
    if_neg (not_not.mpr hst)
  obtain ⟨v, hv⟩ : ∃ v, v = (s.fire (204 + c)).fire (200 + c) := ⟨_, rfl⟩
  have hvu : v.usual := hv ▸ State.usual_of (l := []) hu (State.endsAlike_of rfl) (fun _ _ => rfl) (endIgnores_aux (by decide))
  have hvreg : v.reg = s.reg := by rw [hv]; rfl
  rw [← hv] at hdef
  have honly : v.Only Frame.wf (((v.count (R.wfCaps c)).setFld (R.wfStat c) F.wfStat.STATE 1).setWf c {}) [R.wfCaps c, R.wfStat c] :=
    (((State.Only.refl v _).count (by simp)).setFld _ _ (by simp)).trans (State.setWf_only _ _ _ _)
  refine ⟨_, (congrArg State.done ((if_pos hsel).trans hdef)).trans (honly.done hvu (endIgnores_wf c (by simp))), ?_, ?_, ?_,
    fun off ho => (honly.reg off ho).trans (congrFun hvreg off)⟩
  · refine honly.state.trans ?_
    generalize ((v.count (R.wfCaps c)).setFld (R.wfStat c) F.wfStat.STATE 1).setWf c {} = t
    rw [hv]
    rfl
  · rw [State.wfState, State.fld_setWf, State.fld_setFld _ _ _ _ (by decide)]
    rfl
  · rw [State.reg_setWf, State.reg_setFld_ne _ _ _ _ _ hcaps, ← hvreg]
    exact State.reg_setReg_same _ _ _

theorem exec_wf_idle (hst : s.wfState c ≠ 2) :
    (∀ vd p, exec (.wfRawSample c vd p) s = .next s) ∧ exec (.wfOutputSample c) s = .next s := by
  have hdone := State.done_of_usual hu
  exact ⟨fun vd p => (congrArg State.done (if_pos hst)).trans hdone, (congrArg State.done (if_pos hst)).trans hdone⟩

/-! ## Samples -/

omit hu in
/-- A sample clipped to the converter's range. -/
theorem clampInt_eq_max_min (i : Int) : clampInt (-2048) 2047 i = max (-2048) (min 2047 i) := by
  rw [clampInt]
  split
  · omega
  · split <;> omega

theorem exec_wfRawSample_timed (hst : s.wfState c = 2) (hmode : s.fld (R.wfCfg c) F.wfCfg.MODE = 0) (vd p : Int) (hgain : s.fld (R.wfCfg c) F.wfCfg.GAIN = 0) :
    let code := roundDiv (vd * 2048) 500000000000
    ∃ t, exec (.wfRawSample c vd p) s = .next t ∧ t = { s with regs := t.regs, wfs := t.wfs } ∧
      (t.wf c).raws = (s.wf c).raws ++ [(p, max (-2048) (min 2047 code))] ∧
      (code ≤ -2048 ∨ 2047 ≤ code → t.fld (R.wfStat c) F.wfStat.CLIP = 1) ∧
      (-2048 < code → code < 2047 → t.regs = s.regs) ∧ (∀ off, off ≠ R.wfStat c → t.reg off = s.reg off) := by
  intro code
  obtain ⟨s1, hs1⟩ : ∃ s1, s1 = if code ≤ -2048 ∨ 2047 ≤ code then s.setFld (R.wfStat c) F.wfStat.CLIP 1 else s := ⟨_, rfl⟩
  have hdef : s.wfRaw c vd p = s1.setWf c { s.wf c with raws := (s.wf c).raws ++ [(p, max (-2048) (min 2047 code))] } := by
    delta State.wfRaw
    extract_lets g code' s1' x used
    have hcode : code' = max (-2048) (min 2047 code) := by
      rw [← clampInt_eq_max_min]
      refine congrArg (clampInt (-2048) 2047) ?_
      rw [show code = roundDiv (vd * 2048) 500000000000 from rfl, ← ratRound_div _ _ (by decide), show g = 0 by
        rw [show g = min 10 (s.fld (R.wfCfg c) F.wfCfg.GAIN) from rfl, hgain]; rfl]
      congr 1
      push_cast
      ring
    have hs1' : s1' = s1 := by
      rw [hs1, show s1' = if code' = -2048 ∨ code' = 2047 then s.setFld (R.wfStat c) F.wfStat.CLIP 1 else s from rfl, hcode]
      by_cases h : code ≤ -2048 ∨ 2047 ≤ code
      · rw [if_pos h, if_pos (by omega)]
      · rw [if_neg h, if_neg (by omega)]
    have hx : x = s.wf c := by
      rw [show x = s1'.wf c from rfl, hs1', hs1]
      split <;> rfl
    refine (if_neg (not_not.mpr hst)).trans ((if_neg ?_).trans ?_)
    · rw [State.bit_eq_false hmode]
      exact Bool.false_ne_true
    · rw [hs1', hx, hcode]
  have h1 : s.Only Frame.wf s1 [R.wfStat c] := by
    rw [hs1]
    split
    · exact (State.Only.refl s _).setFld _ _ (by simp)
    · exact .refl s _
  have honly := h1.trans (State.setWf_only s1 c { s.wf c with raws := (s.wf c).raws ++ [(p, max (-2048) (min 2047 code))] } _)
  refine ⟨_, (congrArg State.done hdef).trans (honly.done hu (endIgnores_wf c (by simp))), honly.state, ?_, fun h => ?_, fun hlo hhi => ?_,
    fun off ho => honly.reg off (by simpa using ho)⟩
  · rw [State.wf_setWf]
  · rw [State.fld_setWf, hs1, if_pos h, State.fld_setFld _ _ _ _ (by decide)]
    rfl
  · rw [show (s1.setWf c { s.wf c with raws := (s.wf c).raws ++ [(p, max (-2048) (min 2047 code))] }).regs = s1.regs from rfl, hs1, if_neg (by omega)]

end

/-! ## The ring -/

/-- The ring's next sample written: memory, the write position, and a block's event. -/
def State.wfPut (s : State) (c a k : Nat) (v : Int) : State :=
  let t := (s.setBytes a (bytesLE 2 (unsigned 16 v))).setReg (R.wfWr c) (s.reg (R.wfWr c) + 1)
  if k % atLeastOne (s.fld (R.wfBlk c) F.wfBlk.BLK) = 0 then t.fire (200 + c) else t

section
variable (s : State) (c a k : Nat) (v : Int)

theorem State.wfPut_only : s.Only Frame.wfMem (s.wfPut c a k v) [R.wfWr c] := by
  have h : s.Only Frame.wfMem ((s.setBytes a (bytesLE 2 (unsigned 16 v))).setReg (R.wfWr c) (s.reg (R.wfWr c) + 1)) [R.wfWr c] :=
    ((s.setBytes_only a _ _).widen fun _ _ => rfl).setReg _ (by simp)
  unfold State.wfPut
  dsimp only
  split
  · exact h.upd rfl rfl
  · exact h

theorem State.byte_wfPut (b : Nat) : (s.wfPut c a k v).byte b = (s.setBytes a (bytesLE 2 (unsigned 16 v))).byte b := by
  unfold State.wfPut
  dsimp only
  split <;> rfl

theorem State.reg_wfPut : (s.wfPut c a k v).reg (R.wfWr c) = s.reg (R.wfWr c) + 1 := by
  unfold State.wfPut
  dsimp only
  split
  · rw [State.reg_fire, State.reg_setReg_same]
  · exact State.reg_setReg_same _ _ _

theorem State.wfs_wfPut : (s.wfPut c a k v).wfs = s.wfs := by
  have h : (s.setBytes a (bytesLE 2 (unsigned 16 v))).wfs = s.wfs := by rw [s.setBytes_state]
  unfold State.wfPut
  dsimp only
  split
  · exact h
  · exact h

/-- A sample goes to a ring with room, in memory without errors; without WFc_MAX the capture goes on. -/
theorem State.wfWrite_put (herr : s.sys.bitErrs = []) (hpoison : s.sys.poison = []) (hroom : (s.reg (R.wfWr c) - s.reg (R.wfRd c)).toNat ≠ s.wfRing c)
    (hok : s.memOk (s.wfBase c + 2 * ((s.reg (R.wfWr c)).toNat % s.wfRing c)) = true) (hmax : s.reg (R.wfMax c) = 0) :
    ∃ k, s.wfWrite c v = s.wfPut c (s.wfBase c + 2 * ((s.reg (R.wfWr c)).toNat % s.wfRing c)) k v := by
  refine ⟨(s.reg (R.wfWr c) + 1 - s.reg (R.wfMark c)).toNat, ?_⟩
  delta State.wfWrite
  extract_lets wr n a s1 s2 k s3 mx
  have hs1 : s1 = s.setBytes a (bytesLE 2 (unsigned 16 v)) := (if_pos hok).trans (State.memWrite_of_clean herr hpoison _ _)
  have hmx : ¬ (mx ≠ 0 ∧ mx ≤ k) := by
    rw [show mx = (s.reg (R.wfMax c)).toNat from rfl, hmax]
    exact fun h => h.1 rfl
  refine (if_neg hroom).trans ((if_neg hmx).trans ?_)
  rw [show s3 = if k % atLeastOne (s.fld (R.wfBlk c) F.wfBlk.BLK) = 0 then s2.fire (200 + c) else s2 from rfl,
    show s2 = s1.setReg (R.wfWr c) (wr + 1) from rfl, hs1]
  rfl

end

theorem exec_wfOutputSample_timed {s : State} {c : Fin 2} (hu : s.usual) (hst : s.wfState c = 2) (hmode : s.fld (R.wfCfg c) F.wfCfg.MODE = 0) (p v : Int)
    (rest : List (Int × Int)) (hraws : (s.wf c).raws = (p, v) :: rest) (herr : s.sys.bitErrs = []) (hpoison : s.sys.poison = [])
    (hroom : (s.reg (R.wfWr c) - s.reg (R.wfRd c)).toNat ≠ s.wfRing c) {a : Nat} (ha : a = s.wfBase c + 2 * ((s.reg (R.wfWr c)).toNat % s.wfRing c))
    (hok : s.memOk a = true) (hmax : s.reg (R.wfMax c) = 0) :
    ∃ t, exec (.wfOutputSample c) s = .next t ∧ t = { s with regs := t.regs, mem := t.mem, wfs := t.wfs, pulses := t.pulses } ∧
      t.bytes a 2 = bytesLE 2 (unsigned 16 v) ∧ (∀ b, b < a ∨ a + 2 ≤ b → t.byte b = s.byte b) ∧
      t.reg (R.wfWr c) = s.reg (R.wfWr c) + 1 ∧ (t.wf c).raws = rest ∧ (t.wf c).j = (s.wf c).j + 1 ∧
      (∀ off, off ≠ R.wfWr c → t.reg off = s.reg off) := by
  obtain ⟨u, hu0⟩ : ∃ u, u = s.setWf c { s.wf c with raws := rest, j := (s.wf c).j + 1 } := ⟨_, rfl⟩
  have hnext : s.wfNext c = some (v, rest) := by
    delta State.wfNext
    extract_lets x pj prev inside before after keep
    refine (if_pos (by rw [State.bit_eq_false hmode]; rfl)).trans ?_
    rw [show x.raws = (p, v) :: rest from hraws]
  have hexec : exec (.wfOutputSample c) s = State.done (u.wfWrite c v) := by
    refine congrArg State.done ((if_neg (not_not.mpr hst)).trans ?_)
    rw [hnext, hu0]
  have hureg : u.reg = s.reg := by rw [hu0]; rfl
  have h1 : s.Only Frame.wfMem u [R.wfWr c] := hu0 ▸ (State.setWf_only _ _ _ _).widen fun _ _ => rfl
  have hua : u.wfBase c + 2 * ((u.reg (R.wfWr c)).toNat % u.wfRing c) = a := by rw [ha, hu0]; rfl
  obtain ⟨k, hput⟩ := u.wfWrite_put c v (by rw [hu0]; exact herr) (by rw [hu0]; exact hpoison) (by rw [hu0]; exact hroom)
    (by rw [hua, hu0]; exact hok) (by rw [hureg, hmax])
  rw [hua] at hput
  have honly := h1.trans (u.wfPut_only c a k v)
  have hlen : (bytesLE 2 (unsigned 16 v)).length = 2 := bytesLE_length _ _
  have hwf : (u.wfPut c a k v).wf c = { s.wf c with raws := rest, j := (s.wf c).j + 1 } := by
    rw [State.wf, u.wfs_wfPut c a k v, hu0]
    exact State.wf_setWf _ _ _
  refine ⟨_, hexec.trans ((congrArg State.done hput).trans (honly.done hu (endIgnores_wf c (by simp)))), honly.state, ?_, fun b hb => ?_, ?_, by rw [hwf],
    by rw [hwf], fun off ho => honly.reg off (by simpa using ho)⟩
  · rw [State.bytes_congr (s := u.setBytes a (bytesLE 2 (unsigned 16 v))) fun i _ => u.byte_wfPut c a k v (a + i)]
    conv_lhs => rw [← hlen]
    exact u.bytes_setBytes a _
  · rw [State.byte_wfPut, State.byte_setBytes_out _ _ _ _ (by rw [hlen]; exact hb), hu0]
    rfl
  · rw [State.reg_wfPut, hureg]

/-- Settles O39. -/
theorem waveformChannels : Obligations.WaveformChannels := by
  intro s c hu
  refine ⟨fun path w hacc => ⟨fun hen => ⟨exec_wfEnable_accepted hu hacc hen, exec_wfEnable_refused hu hacc hen⟩, exec_wfDisable_eq hu hacc⟩,
    exec_wfCaptureStart_armed hu, exec_wfCaptureStop_running hu, exec_wf_idle hu, fun hst hmode => ⟨exec_wfRawSample_timed hu hst hmode, ?_⟩⟩
  intro p v rest hraws herr hpoison hroom _ a hok hmax
  exact exec_wfOutputSample_timed hu hst hmode p v rest hraws herr hpoison hroom rfl hok hmax

end Sys2Proof.Machine

/-!
How codec lanes take and release contexts (R317-R319).
-/
namespace Sys2Proof.Machine

section
variable (s : State) (n : Fin 16)

/-- The registers of a lane are below the packs. -/
theorem endIgnores_lane {l : List Nat} (h : ∀ o ∈ l, o ∈ [R.tcxLane n, R.tcxStat, R.tcxSwitchCnt, R.tcxMissCnt]) : endIgnores l :=
  endIgnores_of fun o ho => by
    have hn := n.isLt
    have := h o ho
    simp only [List.mem_cons, List.not_mem_nil, or_false, R.tcxLane, R.tcxStat, R.tcxSwitchCnt, R.tcxMissCnt] at this
    omega

theorem tcxLane_ne (n : Nat) : R.tcxLane n ≠ R.tcxStat ∧ R.tcxLane n ≠ R.tcxSwitchCnt ∧ R.tcxLane n ≠ R.tcxMissCnt := by
  simp only [R.tcxLane, R.tcxStat, R.tcxSwitchCnt, R.tcxMissCnt]
  omega

/-- A lane with a context: the lane's register, its busy bit, and the switch counted. -/
def State.laneTaken (s : State) (n sc dir : Nat) : State :=
  ((s.setReg (R.tcxLane n) (BitVec.ofNat 32 (sc + 2 ^ 12 + dir * 2 ^ 13))).setFld R.tcxStat ⟨n, 1⟩ 1).count R.tcxSwitchCnt

theorem State.laneTaken_regsOnly (sc dir : Nat) : s.regsOnly (s.laneTaken n sc dir) [R.tcxLane n, R.tcxStat, R.tcxSwitchCnt] :=
  (((State.regsOnly.refl s _).setReg _ (by simp)).setFld _ _ (by simp)).count (by simp)

/-- The fields of a lane's register as a lane takes a context. -/
theorem fld_laneWord {sc dir : Nat} (hsc : sc < 4096) (hdir : dir < 2) :
    F.tcxLane.SC.get (BitVec.ofNat 32 (sc + 2 ^ 12 + dir * 2 ^ 13)) = sc ∧ F.tcxLane.ACT.get (BitVec.ofNat 32 (sc + 2 ^ 12 + dir * 2 ^ 13)) = 1 ∧
    F.tcxLane.DIR.get (BitVec.ofNat 32 (sc + 2 ^ 12 + dir * 2 ^ 13)) = dir ∧ F.tcxLane.GROUPS.get (BitVec.ofNat 32 (sc + 2 ^ 12 + dir * 2 ^ 13)) = 0 := by
  simp only [Fld.get_ofNat]
  omega

theorem State.laneTaken_shown {sc dir : Nat} (hsc : sc < 4096) (hdir : dir < 2) :
    (s.laneTaken n sc dir).fld (R.tcxLane n) F.tcxLane.SC = sc ∧ (s.laneTaken n sc dir).fld (R.tcxLane n) F.tcxLane.ACT = 1 ∧
    (s.laneTaken n sc dir).fld (R.tcxLane n) F.tcxLane.DIR = dir ∧ (s.laneTaken n sc dir).fld (R.tcxLane n) F.tcxLane.GROUPS = 0 ∧
    ((s.laneTaken n sc dir).reg R.tcxStat).getLsbD n = true ∧ (s.laneTaken n sc dir).reg R.tcxSwitchCnt = satInc (s.reg R.tcxSwitchCnt) := by
  obtain ⟨hstat, hswitch, -⟩ := tcxLane_ne n
  obtain ⟨h1, h2, h3, h4⟩ := fld_laneWord hsc hdir
  have hlane : ∀ f, (s.laneTaken n sc dir).fld (R.tcxLane n) f = f.get (BitVec.ofNat 32 (sc + 2 ^ 12 + dir * 2 ^ 13)) := fun f => by
    rw [State.laneTaken, State.count, State.fld_setReg_ne _ _ _ _ _ hswitch, State.fld_setFld_ne _ _ _ _ _ _ hstat, State.fld, State.reg_setReg_same]
  refine ⟨(hlane _).trans h1, (hlane _).trans h2, (hlane _).trans h3, (hlane _).trans h4, ?_, ?_⟩
  · rw [State.laneTaken, State.count, State.reg_setReg_ne _ _ _ _ (by decide)]
    exact State.getLsbD_setFld_bit _ _ _ (by omega)
  · rw [State.laneTaken, State.count, State.reg_setReg_same, State.reg_setFld_ne _ _ _ _ _ (by decide), State.reg_setReg_ne _ _ _ _ hswitch.symm]

end

section
variable {s : State} {n : Fin 16}

/-- What a binding does, in a lane that is free and with a context that waits. -/
theorem exec_laneBind_eq {sc : Nat} (spilled : Bool) (hfree : s.laneFree n = true) (hnext : s.nextStream = some sc) :
    exec (.laneBind n spilled) s = State.done
      (if spilled then ((s.laneTaken n sc (if (s.stream sc).state = 2 then 1 else 0)).count R.tcxMissCnt).fire 125
        else s.laneTaken n sc (if (s.stream sc).state = 2 then 1 else 0)) := by
  refine congrArg State.done ((if_neg ?_).trans ?_)
  · rw [hfree]
    exact Bool.false_ne_true
  · rw [hnext]
    rfl

variable (hu : s.usual)
include hu

theorem exec_laneBind_waiting {sc : Nat} (hfree : s.laneFree n = true) (hnext : s.nextStream = some sc) (hsc : sc < 4096) :
    let dir := if (s.stream sc).state = 2 then 1 else 0
    (∃ t, exec (.laneBind n false) s = .next t ∧ s.sameBut t [R.tcxLane n, R.tcxStat, R.tcxSwitchCnt] ∧
      t.fld (R.tcxLane n) F.tcxLane.SC = sc ∧ t.fld (R.tcxLane n) F.tcxLane.ACT = 1 ∧ t.fld (R.tcxLane n) F.tcxLane.DIR = dir ∧
      t.fld (R.tcxLane n) F.tcxLane.GROUPS = 0 ∧ (t.reg R.tcxStat).getLsbD n = true ∧ t.reg R.tcxSwitchCnt = satInc (s.reg R.tcxSwitchCnt)) ∧
    (∃ t, exec (.laneBind n true) s = .next t ∧ t = { s with regs := t.regs, pulses := addSorted s.pulses 125 } ∧
      t.fld (R.tcxLane n) F.tcxLane.SC = sc ∧ t.fld (R.tcxLane n) F.tcxLane.ACT = 1 ∧
      t.reg R.tcxMissCnt = satInc (s.reg R.tcxMissCnt) ∧
      (∀ off, off ∉ [R.tcxLane n, R.tcxStat, R.tcxSwitchCnt, R.tcxMissCnt] → t.reg off = s.reg off)) := by
  intro dir
  have hdir : dir < 2 := by
    change (if (s.stream sc).state = 2 then 1 else 0) < 2
    split <;> decide
  obtain ⟨-, -, hmiss⟩ := tcxLane_ne n
  have honly := s.laneTaken_regsOnly n sc dir
  obtain ⟨h1, h2, h3, h4, h5, h6⟩ := s.laneTaken_shown n hsc hdir
  rw [exec_laneBind_eq _ hfree hnext, exec_laneBind_eq _ hfree hnext, if_neg Bool.false_ne_true, if_pos rfl]
  revert honly h1 h2 h3 h4 h5 h6
  generalize hd : (if (s.stream sc).state = 2 then 1 else 0) = d
  have hdd : dir = d := hd
  rw [hdd]
  generalize hx : s.laneTaken n sc d = x
  intro honly h1 h2 h3 h4 h5 h6
  refine ⟨⟨_, State.done_of_regsOnly hu honly (endIgnores_lane n (by simp)), honly.sameBut, h1, h2, h3, h4, h5, h6⟩, ?_⟩
  have hcount : s.regsOnly (x.count R.tcxMissCnt) [R.tcxLane n, R.tcxStat, R.tcxSwitchCnt, R.tcxMissCnt] := (honly.mono (by simp)).count (by simp)
  have hlane : ∀ f, (x.count R.tcxMissCnt).fld (R.tcxLane n) f = x.fld (R.tcxLane n) f := fun f => State.fld_setReg_ne _ _ _ _ _ hmiss
  have hcnt : (x.count R.tcxMissCnt).reg R.tcxMissCnt = satInc (s.reg R.tcxMissCnt) := by
    rw [State.count, State.reg_setReg_same, honly.2 _ (by
      simp only [List.mem_cons, List.not_mem_nil, or_false, R.tcxLane, R.tcxStat, R.tcxSwitchCnt, R.tcxMissCnt]
      omega)]
  generalize x.count R.tcxMissCnt = y at hcount hlane hcnt
  exact ⟨_, hcount.done_fire hu (endIgnores_lane n (by simp)) 125, hcount.fire_eq 125, (hlane _).trans h1, (hlane _).trans h2, hcnt, hcount.2⟩

theorem exec_laneBind_idle (spilled : Bool) (h : s.laneFree n = false ∨ s.nextStream = none) : exec (.laneBind n spilled) s = .next s := by
  refine (congrArg State.done ?_).trans (State.done_of_usual hu)
  rcases h with h | h
  · rw [h]
    rfl
  · rw [h]
    exact ite_self _

theorem exec_laneRelease_done (hact : s.fld (R.tcxLane n) F.tcxLane.ACT = 1) (hel : s.eligible (s.fld (R.tcxLane n) F.tcxLane.SC) = false) :
    ∃ t, exec (.laneRelease n) s = .next t ∧ t = { s with regs := t.regs, pulses := addSorted s.pulses (104 + n) } ∧
      t.fld (R.tcxLane n) F.tcxLane.ACT = 0 ∧ (t.reg R.tcxStat).getLsbD n = false ∧
      (∀ off, off ∉ [R.tcxLane n, R.tcxStat] → t.reg off = s.reg off) := by
  have hn := n.isLt
  obtain ⟨hstat, -, -⟩ := tcxLane_ne n
  have honly : s.regsOnly ((s.setFld (R.tcxLane n) F.tcxLane.ACT 0).setFld R.tcxStat ⟨n, 1⟩ 0) [R.tcxLane n, R.tcxStat] :=
    ((State.regsOnly.refl s _).setFld _ _ (by simp)).setFld _ _ (by simp)
  have hexec : exec (.laneRelease n) s = State.done (((s.setFld (R.tcxLane n) F.tcxLane.ACT 0).setFld R.tcxStat ⟨n, 1⟩ 0).fire (104 + n)) :=
    congrArg State.done (if_pos (by rw [State.bit_eq_true hact, hel, Bool.not_false, Bool.or_true]; rfl))
  refine ⟨_, hexec.trans (honly.done_fire hu (endIgnores_lane n (by simp)) _), honly.fire_eq _, ?_, ?_, honly.2⟩
  · rw [State.fld_fire, State.fld_setFld_ne _ _ _ _ _ _ hstat, State.fld_setFld _ _ _ _ (by decide)]
    rfl
  · rw [State.reg_fire, State.setFld, State.reg_setReg_same, Fld.put_bit _ _ _ _ (show n.val + 1 ≤ 32 by omega) (by omega),
      if_pos ⟨Nat.le_refl _, Nat.lt_succ_self _⟩, Nat.zero_testBit]

end

/-- Settles O40. -/
theorem lanesTakeContexts : Obligations.LanesTakeContexts := by
  intro s n hu
  exact ⟨fun sc hfree hnext hsc => exec_laneBind_waiting hu hfree hnext hsc, exec_laneBind_idle hu, exec_laneRelease_done hu⟩

end Sys2Proof.Machine

/-!
The host's side of a stream: what placing its bytes in buffers and in the spill leaves alone (R390, R396).
-/
namespace Sys2Proof.Machine

/-- A context without what the host's side of it keeps: buffers, spill, marks, the line store, and how it stands. -/
def Stream.core (t : Stream) : Stream :=
  { t with state := 0, failStatus := 0, rows := [], ready := [], writes := [], placed := 0, spillRd := 0, spillN := 0, ends := [] }

/-- `t` differs from `s` on the host's side only: queues, host memory, memory, buffers, spill, pulses, and registers below the lanes or of HQE. -/
structure State.HostSide (s t : State) : Prop where
  work : t.work = s.work
  fab : t.fab = s.fab
  sec : t.sec = s.sec
  pack : t.pack = s.pack
  core : ∀ sc, (t.stream sc).core = (s.stream sc).core
  reg : ∀ o, 0x20100 ≤ o → o < 0x28000 → t.reg o = s.reg o

namespace State.HostSide
variable {s t u : State}

theorem refl (s : State) : s.HostSide s := ⟨rfl, rfl, rfl, rfl, fun _ => rfl, fun _ _ _ => rfl⟩

theorem trans (h : s.HostSide t) (h' : t.HostSide u) : s.HostSide u :=
  ⟨h'.work.trans h.work, h'.fab.trans h.fab, h'.sec.trans h.sec, h'.pack.trans h.pack, fun sc => (h'.core sc).trans (h.core sc),
    fun o h0 h1 => (h'.reg o h0 h1).trans (h.reg o h0 h1)⟩

/-- A state with the same contexts and registers. -/
theorem of_streams (hw : t.work = s.work) (hf : t.fab = s.fab) (hsec : t.sec = s.sec) (hp : t.pack = s.pack) (hs : t.streams = s.streams)
    (hr : t.regs = s.regs) : s.HostSide t :=
  ⟨hw, hf, hsec, hp, fun sc => by rw [State.stream, hs]; rfl, fun o _ _ => State.reg_of_regs _ _ hr o⟩

theorem setReg {o : Nat} (w : Word) (ho : o < 0x20100 ∨ 0x28000 ≤ o) : s.HostSide (s.setReg o w) :=
  ⟨rfl, rfl, rfl, rfl, fun _ => rfl, fun k h0 h1 => State.reg_setReg_ne _ _ _ _ (by omega)⟩

theorem setFld {o : Nat} (f : Fld) (x : Nat) (ho : o < 0x20100 ∨ 0x28000 ≤ o) : s.HostSide (s.setFld o f x) := setReg _ ho

theorem count {o : Nat} (ho : o < 0x20100 ∨ 0x28000 ≤ o) : s.HostSide (s.count o) := setReg _ ho

theorem fire (ev : Nat) : s.HostSide (s.fire ev) := of_streams rfl rfl rfl rfl rfl rfl

theorem setStream {sc : Nat} {x : Stream} (h : x.core = (s.stream sc).core) : s.HostSide (s.setStream sc x) := by
  refine ⟨rfl, rfl, rfl, rfl, fun k => ?_, fun _ _ _ => rfl⟩
  rw [State.stream, State.setStream, Table.get_set]
  split
  · subst k
    exact h
  · rfl

theorem foldl {α : Type} (l : List α) (f : State → α → State) (hf : ∀ v, ∀ x ∈ l, State.HostSide v (f v x)) : s.HostSide (l.foldl f s) :=
  List.foldlRecOn (motive := fun v => s.HostSide v) l f (refl s) fun v hv x hx => hv.trans (hf v x hx)

theorem forEach (n : Nat) (f : Nat → State → State) (hf : ∀ v k, k < n → State.HostSide v (f k v)) : s.HostSide (s.forEach n f) :=
  foldl _ _ fun v k hk => hf v k (List.mem_range.mp hk)

/-! ## Completions -/

theorem hostWrite (a : Nat) (l : List Byte) : s.HostSide (s.hostWrite a l) := by
  induction l generalizing s a with
  | nil => exact refl s
  | cons b l ih => exact State.HostSide.trans (t := { s with hostMem := Table.set (fun _ => 0) s.hostMem a b }) (of_streams rfl rfl rfl rfl rfl rfl) (ih (a + 1))

theorem signal (v : Nat) : s.HostSide (s.signal v) := by
  unfold State.signal
  split
  · exact setFld _ _ (.inr (by simp only [R.hqePba]; omega))
  · exact of_streams rfl rfl rfl rfl rfl rfl

theorem setQp (q : Nat) (x : Option Qp) : s.HostSide (s.setQp q x) := of_streams rfl rfl rfl rfl rfl rfl

theorem writeCompletion (q tag sqHead : Nat) (r : Report) : s.HostSide (s.writeCompletion q tag sqHead r) := by
  delta State.writeCompletion
  split
  · exact refl s
  next x _ =>
  extract_lets a d7 s1 wrap x1 due s2
  have h1 : s.HostSide s1 := (hostWrite _ _).trans (hostWrite _ _)
  have h2 : s.HostSide s2 := h1.trans (setQp _ _)
  split
  · exact h2.trans (signal _)
  · exact h2

theorem setCmds (l : List Cmd) : s.HostSide (s.setCmds l) :=
  State.HostSide.trans (t := { s with hqe := { s.hqe with cmds := l } }) (of_streams rfl rfl rfl rfl rfl rfl)
    (setFld (o := R.hqeStat) _ _ (.inr (by decide)))

theorem complete (q tag : Nat) (r : Report) : s.HostSide (s.complete q tag r) := by
  unfold State.complete
  split
  · exact refl s
  · exact (setCmds _).trans (writeCompletion _ _ _ _)

theorem bufferDone (b : Posted) (info status : Nat) : s.HostSide (s.bufferDone b info status) := (complete _ _ _).trans (fire 242)

theorem queueAsync (k d r : Nat) : s.HostSide (s.queueAsync k d r) := by
  unfold State.queueAsync
  split
  · exact of_streams rfl rfl rfl rfl rfl rfl
  · exact setFld _ _ (.inr (by decide))

/-! ## Memory -/

theorem setByte (a : Nat) (b : Byte) : s.HostSide (s.setByte a b) := of_streams rfl rfl rfl rfl rfl rfl

theorem setBytes (a : Nat) (l : List Byte) : s.HostSide (s.setBytes a l) := by
  rw [s.setBytes_state]
  exact of_streams rfl rfl rfl rfl rfl rfl

theorem flipBit (a i : Nat) : s.HostSide (s.flipBit a i) := by
  unfold State.flipBit
  split
  · exact setByte _ _
  · exact refl s

theorem setPoison (a : Nat) (p : Bool) : s.HostSide (s.setPoison a p) := of_streams rfl rfl rfl rfl rfl rfl

theorem clearErrs (w : Nat) : s.HostSide (s.clearErrs w) := of_streams rfl rfl rfl rfl rfl rfl

theorem latchUe (pool a : Nat) : s.HostSide (s.latchUe pool a) := by
  unfold State.latchUe
  dsimp only
  refine State.HostSide.trans ?_ (setFld _ _ (.inl (by decide)))
  split
  · exact refl s
  · exact ((setFld _ _ (.inl (by decide))).trans (setReg _ (.inl (by decide)))).trans (setReg _ (.inl (by decide)))

theorem eccRead (a : Nat) : s.HostSide (s.eccRead a) := by
  unfold State.eccRead
  dsimp only
  generalize Table.get (fun _ => []) s.sys.bitErrs (a / 16 * 16) = flips
  have h1 : s.HostSide ((flips.foldl (fun t i => t.flipBit (a / 16 * 16) i) s).clearErrs (a / 16 * 16)) :=
    (foldl flips _ fun v i _ => flipBit _ i).trans (clearErrs _)
  split
  · exact h1.trans (setPoison _ _)
  · exact (((h1.trans (flipBit _ _)).trans (setPoison _ _)).trans (count (.inl (by decide)))).trans (setFld _ _ (.inl (by decide)))
  · exact (h1.trans (setPoison _ _)).trans (latchUe _ _)
  · exact (((h1.trans (setPoison _ _)).trans (latchUe _ _)).trans (count (.inl (by decide)))).trans (queueAsync _ _ _)

theorem memRead (a n : Nat) : s.HostSide (s.memRead a n) := foldl _ _ fun _ w _ => eccRead w

theorem memWrite (a : Nat) (l : List Byte) : s.HostSide (s.memWrite a l) := by
  refine State.HostSide.trans (foldl _ _ fun v w _ => ?_) (setBytes _ _)
  split
  · exact (clearErrs _).trans (setPoison _ _)
  · exact eccRead w

/-! ## The bytes of a stream -/

theorem refreshOcc : s.HostSide s.refreshOcc := by
  unfold State.refreshOcc
  dsimp only
  refine State.HostSide.trans (forEach 16 _ fun v j _ => setFld _ _ (.inr (by simp only [R.hqeJob]; omega))) (forEach 4 _ fun v k _ => ?_)
  split
  · exact setReg _ (.inr (by simp only [R.hqeOcc]; omega))
  · exact setReg _ (.inr (by simp only [R.hqeOcc]; omega))

theorem headDone (sc info status : Nat) : s.HostSide (s.headDone sc info status) := by
  unfold State.headDone
  dsimp only
  split
  · exact refl s
  next b r _ => exact (setStream (x := { s.stream sc with writes := r }) rfl).trans (bufferDone _ _ _)

theorem restDone (sc status : Nat) : s.HostSide (s.restDone sc status) :=
  State.HostSide.trans (setStream (x := { s.stream sc with writes := [] }) rfl) (foldl _ _ fun _ _ _ => bufferDone _ _ _)

theorem atOffset (sc : Nat) : s.HostSide (s.atOffset sc) := by
  delta State.atOffset
  extract_lets t hit info st s1 full some_ s2
  have h1 : s.HostSide s1 := setStream rfl
  have h2 : s.HostSide s2 := by
    change s.HostSide (if full || (info != 0 && (some_ || info % 2 == 1)) then s1.headDone sc info st else s1)
    split
    · exact h1.trans (headDone _ _ _)
    · exact h1
  split
  · exact h2.trans (restDone _ _)
  · exact h2

theorem placeByte (sc : Nat) (v : Byte) (spill bad : Bool) : s.HostSide (s.placeByte sc v spill bad) := by
  delta State.placeByte
  extract_lets t
  split
  · exact refl s
  next b r _ =>
  extract_lets b1
  have h1 : s.HostSide (s.setStream sc { t with writes := b1 :: r, placed := t.placed + 1 }) := setStream rfl
  exact (h1.trans (hostWrite _ _)).trans (atOffset _)

theorem addMark (sc info status : Nat) : s.HostSide (s.addMark sc info status) := by
  unfold State.addMark
  dsimp only
  have h1 : s.HostSide (s.setStream sc { s.stream sc with ends := (s.stream sc).ends ++ [((s.stream sc).placed + (s.stream sc).spillN, info, status)] }) :=
    setStream rfl
  split
  · exact h1.trans (atOffset _)
  · exact h1

theorem streamFail (sc : Nat) : s.HostSide (s.streamFail sc) := by
  unfold State.streamFail
  dsimp only
  exact ((((setStream (x := { s.stream sc with state := 4, failStatus := St.noResource, rows := [], ready := [] }) rfl).trans (addMark _ _ _)).trans (count (.inr (by decide)))).trans (fire _)).trans (queueAsync _ _ _)

theorem memWritePoison (a : Nat) (l : List Byte) : s.HostSide (s.memWritePoison a l) :=
  (memWrite a l).trans (foldl _ _ fun _ _ _ => setPoison _ _)

theorem streamByte (sc : Nat) (v : Byte) (bad : Bool) : s.HostSide (s.streamByte sc v bad) := by
  delta State.streamByte
  extract_lets t a s1 s2
  split
  · exact refl s
  · split
    · exact placeByte _ _ _ _
    · split
      · have h1 : s.HostSide s1 := by
          change s.HostSide (if bad then s.memWritePoison a [v] else s.memWrite a [v])
          split
          · exact memWritePoison _ _
          · exact memWrite _ _
        have h2 : s.HostSide s2 := h1.trans (setStream (h1.core sc).symm)
        split
        · exact h2.trans (fire _)
        · exact h2
      · exact streamFail _

theorem streamBytes (sc : Nat) (l : List Byte) : s.HostSide (s.streamBytes sc l) :=
  (foldl l _ fun _ _ _ => streamByte _ _ _).trans refreshOcc

/-! ## The end of a command -/

/-- What a change on the host's side leaves quiet. -/
theorem quiet (h : s.HostSide t) (hq : s.quiet) : t.quiet :=
  State.quiet_of s t hq h.work (by rw [h.fab]) h.sec (h.reg _ (by decide) (by decide)) (by rw [State.eng, h.pack]; rfl)

theorem refreshMain : s.HostSide s.refreshMain := by
  have hshow : ∀ (v : State) f x, State.HostSide v (v.showFld R.hltStat f x) := fun v f x => by
    unfold State.showFld
    split
    · exact refl v
    · exact setFld _ _ (.inr (by decide))
  exact (hshow _ _ _).trans (hshow _ _ _)

end State.HostSide

/-- Where nothing waits, a command ends as HLT.STAT shows the main side. -/
theorem State.done_of_quiet_refresh {t : State} (h : t.quiet) : State.done t = .next t.refreshMain := by
  rw [State.done, State.settle, State.settleGo_of_quiet _ _ h]

/-- A command that changes things on the host's side. -/
theorem State.HostSide.exec {s t : State} (h : s.HostSide t) (hq : s.quiet) : ∃ u, State.done t = .next u ∧ t.HostSide u :=
  ⟨_, State.done_of_quiet_refresh (h.quiet hq), .refreshMain⟩

end Sys2Proof.Machine

/-!
One line group of a lane, coded or decoded (R295, R301, R311).
-/
namespace Sys2Proof.Machine

/-! ## After the bytes of a line group -/

section
variable {s v w : State} {sc : Nat} {x : Stream}

/-- The group counted in its lane, and what follows on the host's side: the lane's count, and the context but for its host's side. -/
theorem State.HostSide.counted {y : State} (h1 : s.HostSide v) (h2 : (v.setStream sc x).HostSide w) (n : Fin 16)
    (h3 : (w.countFld (R.tcxLane n) F.tcxLane.GROUPS).HostSide y) (hq : s.quiet) :
    ∃ t, State.done y = .next t ∧ (t.stream sc).core = x.core ∧
      t.fld (R.tcxLane n) F.tcxLane.GROUPS = min F.tcxLane.GROUPS.max (s.fld (R.tcxLane n) F.tcxLane.GROUPS + 1) ∧
      (∀ k, k < 16 → k ≠ n.val → t.reg (R.tcxLane k) = s.reg (R.tcxLane k)) := by
  have hn := n.isLt
  have hlane : ∀ k, k < 16 → 0x20100 ≤ R.tcxLane k ∧ R.tcxLane k < 0x28000 := fun k hk => by simp only [R.tcxLane]; omega
  have hcnt : w.regsOnly (w.countFld (R.tcxLane n) F.tcxLane.GROUPS) [R.tcxLane n] := (State.regsOnly.refl w _).countFld _ (by simp)
  have hreg : ∀ o, 0x20100 ≤ o → o < 0x28000 → w.reg o = s.reg o := fun o h0 h1' =>
    (h2.reg o h0 h1').trans ((show (v.setStream sc x).reg o = v.reg o from rfl).trans (h1.reg o h0 h1'))
  have hwq : w.quiet := h2.quiet (State.quiet_of v _ (h1.quiet hq) rfl rfl rfl rfl rfl)
  have hcq : (w.countFld (R.tcxLane n) F.tcxLane.GROUPS).quiet := by
    refine State.quiet_of w _ hwq ?_ ?_ ?_ (hcnt.2 _ ?_) ?_
    · rw [hcnt.1]
    · rw [hcnt.1]
    · rw [hcnt.1]
    · simp only [List.mem_singleton, R.engStat, R.tcxLane]
      omega
    · rw [hcnt.1]
      rfl
  obtain ⟨t, hdone, ht⟩ := h3.exec hcq
  have hstream : (w.countFld (R.tcxLane n) F.tcxLane.GROUPS).stream sc = w.stream sc := by
    rw [State.stream, hcnt.1]
    rfl
  have hall : ∀ k, k < 16 → t.reg (R.tcxLane k) = (w.countFld (R.tcxLane n) F.tcxLane.GROUPS).reg (R.tcxLane k) := fun k hk =>
    ((h3.trans ht).reg _ (hlane k hk).1 (hlane k hk).2)
  refine ⟨t, hdone, ?_, ?_, fun k hk hkn => ?_⟩
  · rw [(h3.trans ht).core, hstream, h2.core, State.stream, State.setStream, Table.get_set_same]
  · rw [State.fld_of_reg (hall n hn), State.fld_countFld_same _ _ _ (by decide), State.fld_of_reg (hreg _ (hlane n hn).1 (hlane n hn).2)]
  · rw [hall k hk, hcnt.2 _ (by simp only [List.mem_singleton, R.tcxLane]; omega), hreg _ (hlane k hk).1 (hlane k hk).2]

end

/-! ## Before a line group -/

section
variable {s : State} {sc : Nat} {c : Stream}

theorem State.stream_setStream (s : State) (sc : Nat) (x : Stream) : (s.setStream sc x).stream sc = x := Table.get_set_same _ _ _ _

/-- Without a snapshot that waits none is taken. -/
theorem State.takeSnapshots_none (hc : s.stream sc = c) (hsaves : c.saves = []) :
    (s.takeSnapshots sc).stream sc = c ∧ s.HostSide (s.takeSnapshots sc) := by
  have hdef : s.takeSnapshots sc = s.setStream sc c := by
    rw [State.takeSnapshots, hc, hsaves]
    change s.setStream sc { c with saves := [] } = s.setStream sc c
    rw [← hsaves]
  rw [hdef]
  exact ⟨s.stream_setStream sc c, State.HostSide.setStream (by rw [hc])⟩

theorem State.docMarkDue_of_off (h : c.rstDoc = false) : s.docMarkDue c = false := by
  rw [State.docMarkDue, h]
  rfl

theorem State.rowsAbove_hostSide (s : State) (t : Stream) : s.HostSide (s.rowsAbove t).1 := by
  unfold State.rowsAbove
  split
  · exact .refl s
  · exact State.HostSide.memRead _ _

theorem State.storeRows_hostSide (s : State) (t : Stream) (rows : List (List Nat)) : s.HostSide (s.storeRows t rows) := by
  unfold State.storeRows
  split
  · exact .refl s
  · exact State.HostSide.memWrite _ _

theorem State.escapes_hostSide (s : State) (n : Nat) : s.HostSide (s.escapes n) := by
  unfold State.escapes
  split
  · exact .refl s
  · exact (State.HostSide.setReg _ (.inl (by decide))).trans (.fire _)

end

/-! ## Coding -/

/-- Values within MAXVAL are coded as they are where nothing is shifted or poisoned. -/
theorem Stream.codeValues_eq {t : Stream} {row : CodeRow} (hshift : t.inshift = 0) (hbad : row.bad = []) (hv : ∀ v ∈ row.vals, v ≤ t.maxval) :
    (List.range row.vals.length).map (fun i => t.codeValue row i (row.vals.getD i 0)) = row.vals := by
  refine List.ext_getElem (by simp) fun i h1 h2 => ?_
  have hi := hv _ (List.getElem_mem h2)
  simp only [List.getElem_map, List.getElem_range, Stream.codeValue, hbad, List.contains_nil, Bool.false_eq_true, if_false, hshift, Nat.shiftRight_zero]
  rw [List.getD_eq_getElem _ _ h2]
  omega

/-- None of them is clipped. -/
theorem Stream.clips_none {t : Stream} {row : CodeRow} (hshift : t.inshift = 0) (hv : ∀ v ∈ row.vals, v ≤ t.maxval) : t.clips row = 0 := by
  rw [Stream.clips, List.length_eq_zero_iff, List.filter_eq_nil_iff]
  intro i hi
  have h2 := List.mem_range.mp hi
  have hle := hv _ (List.getElem_mem h2)
  rw [List.getD_eq_getElem _ _ h2, hshift, Nat.shiftRight_zero]
  simp only [Bool.and_eq_true, decide_eq_true_eq, not_and]
  omega

/-- Without loss one plane's row is reconstructed as it is, so the CRC goes on with it. -/
theorem Stream.encodeGroup_lossless {t : Stream} {vals : List Nat} (above : List (List Nat)) (hnpl : t.npl = 1) (hnear : t.near = 0)
    (hv : ∀ v ∈ vals, v ≤ t.maxval) : (t.encodeGroup [vals] above).2.2.1 = [vals] := by
  obtain ⟨hlen, hrows⟩ := Stream.encodeGroup_within (t := t) (xs := [vals]) (above := above) (by simpa using hv)
    fun j => Stream.runsWithin_of_lossless hnear _
  rw [hnpl] at hlen hrows
  obtain ⟨r, hr⟩ := List.length_eq_one_iff.mp hlen
  have hrow := hrows 0 Nat.one_pos
  rw [hr] at hrow ⊢
  change List.Forall₂ t.Within vals r at hrow
  have heq : List.Forall₂ (fun v u => v = u) vals r := hrow.imp fun v u h => by
    have := h.1
    rw [hnear] at this
    omega
  rw [(congrFun (congrFun List.forall₂_eq_eq_eq vals) r).mp heq]

section
variable {s : State} {sc : Nat} {c : Stream}

/-- A context with one plane, nothing shifted and no loss: what the line groups of O41 have in common. -/
structure Stream.OnePlane (c : Stream) : Prop where
  finished : c.finished = false
  hdr : c.hdr = true
  rstInt : c.rstInt = 0
  rstDoc : c.rstDoc = false
  trkEn : c.trkEn = false
  inshift : c.inshift = 0
  npl : c.npl = 1
  slots : c.slots = [0]

theorem Stream.OnePlane.src (h : c.OnePlane) : c.src 0 = 0 := by
  rw [Stream.src, Stream.slot, h.slots]
  rfl

theorem Stream.OnePlane.rstDue (h : c.OnePlane) : c.rstDue = false := by
  rw [Stream.rstDue, h.rstInt]
  rfl

/-- The context that codes the next group, its line taken. -/
def Stream.lineTaken (t0 : Stream) (npl y : Nat) : Stream :=
  { t0 with
    ready := t0.ready.drop 1, lastY := some y
    rows := (List.range npl).foldl (fun r j => Table.set (fun _ => []) r j ((Table.get (fun _ => []) r j).drop 1)) t0.rows }

/-- The oldest line group of one plane, coded without loss: memory and escapes, then the context, then its bytes. -/
theorem State.encodeNext_lossless (hc : s.stream sc = c) (h : c.OnePlane) (hnear : c.near = 0) {row : CodeRow} {rest : List CodeRow}
    (hrows : Table.get (fun _ => []) c.rows 0 = row :: rest) (hbad : row.bad = []) (hv : ∀ v ∈ row.vals, v ≤ c.maxval) :
    ∃ v x w, s.HostSide v ∧ s.encodeNext sc = w ∧ (v.setStream sc x).HostSide w ∧ x.lines = c.lines + 1 ∧ x.sinceRst = c.sinceRst + 1 ∧
      x.lastY = some row.y ∧ x.crc = (rowBytes row.vals).foldl crc32cByte c.crc ∧ x.rstDoc = false := by
  delta State.encodeNext
  extract_lets t rows y s0 t0 t1 xs o s1 clip s2 s3
  have ht : t = c := hc
  have hrow : rows = [row] := by
    rw [show rows = (List.range t.npl).map (fun j => (Table.get (fun _ => []) t.rows j).headD { y := 0, vals := [], bad := [] }) from rfl, ht, h.npl]
    change [(Table.get (fun _ => []) c.rows 0).headD { y := 0, vals := [], bad := [] }] = [row]
    rw [hrows]
    rfl
  have hs0 : s.HostSide s0.1 := by
    have hhold : s.streamHold sc y = s := by
      delta State.streamHold
      exact if_pos (by rw [hc, h.trkEn]; rfl)
    rw [show s0 = (s.streamHold sc y).rowsAbove t from rfl, hhold]
    exact s.rowsAbove_hostSide t
  have hcore : t0.core = c.core := (hs0.core sc).trans (by rw [hc])
  have hnpl : t1.npl = 1 := ((congrArg Stream.npl hcore :) : t0.npl = c.npl).trans h.npl
  have hmax : t1.maxval = c.maxval := by
    rw [Stream.maxval, Stream.maxval, show t1.depth = c.depth from (congrArg Stream.depth hcore :)]
  have hxs : xs = [row.vals] := by
    rw [show xs = rows.map (fun r => (List.range r.vals.length).map (fun i => t.codeValue r i (r.vals.getD i 0))) from rfl, hrow, ht, List.map_singleton,
      Stream.codeValues_eq h.inshift hbad hv]
  have hrec : o.2.2.1 = [row.vals] := by
    rw [show o = t1.encodeGroup xs s0.2 from rfl, hxs]
    exact Stream.encodeGroup_lossless _ hnpl ((congrArg Stream.near hcore :).trans hnear) fun v hv' => by rw [hmax]; exact hv v hv'
  have hs1 : s.HostSide s1 := (hs0.trans (State.storeRows_hostSide _ _ _)).trans (State.escapes_hostSide _ _)
  have hclip : clip = 0 := by
    rw [show clip = rows.foldl (fun a r => a + t.clips r) 0 from rfl, hrow, ht, List.foldl_cons, List.foldl_nil, Stream.clips_none h.inshift hv]
  have hs2 : s2 = s1 := if_pos hclip
  have hs3 : s3 = s2 := by
    rw [show s3 = (List.range t.npl).foldl (fun u j =>
      let r := rows.getD j { y := 0, vals := [], bad := [] }
      let n := t.src j
      let u1 := if r.bad.isEmpty then u
        else u.listLine (u.planeGroup n) r.y Cause.eccUncorrectable noIndex (u.planeBit n)
      if 64 ≤ n then u1.owCoded (n - 64) sc r.y else u1) s2 from rfl, ht, h.npl, hrow]
    change (if 64 ≤ c.src 0 then _ else if row.bad.isEmpty then s2 else _) = s2
    rw [if_neg (by rw [h.src]; decide), hbad]
    rfl
  refine ⟨s3, o.1, _, by rw [hs3, hs2]; exact hs1, rfl, State.HostSide.streamBytes _ _, ?_, ?_, ?_, ?_, ?_⟩
  · exact congrArg (· + 1) (congrArg Stream.lines hcore :)
  · exact congrArg (· + 1) (congrArg Stream.sinceRst hcore :)
  · rw [show o.1.lastY = some y from rfl, show y = (rows.headD { y := 0, vals := [], bad := [] }).y from rfl, hrow]
    rfl
  · rw [show o.1.crc = (o.2.2.1.flatMap rowBytes).foldl crc32cByte t1.crc from rfl, hrec, List.flatMap_singleton,
      show t1.crc = c.crc from (congrArg Stream.crc hcore :)]
  · exact ((congrArg Stream.rstDoc hcore :) : t0.rstDoc = c.rstDoc).trans h.rstDoc

theorem exec_lineGroupEncode_lossless {n : Fin 16} (hu : s.usual) (hsc : s.fld (R.tcxLane n) F.tcxLane.SC = sc) (hc : s.stream sc = c)
    (hact : s.fld (R.tcxLane n) F.tcxLane.ACT = 1) (hsaves : c.saves = []) (h : c.OnePlane) (hnear : c.near = 0)
    (hdir : s.fld (R.tcxLane n) F.tcxLane.DIR = 0) (hstate : c.state = 1) (hclosing : c.closing = none) (hready : c.ready ≠ []) {row : CodeRow}
    {rest : List CodeRow} (hrows : Table.get (fun _ => []) c.rows 0 = row :: rest) (hbad : row.bad = []) (hv : ∀ v ∈ row.vals, v < 2 ^ c.depth) :
    ∃ t, exec (.lineGroupEncode n) s = .next t ∧ (t.stream sc).lines = c.lines + 1 ∧ (t.stream sc).sinceRst = c.sinceRst + 1 ∧
      (t.stream sc).lastY = some row.y ∧
      (t.stream sc).crc = (row.vals.flatMap (fun v => bytesLE 2 v)).foldl crc32cByte c.crc ∧
      t.fld (R.tcxLane n) F.tcxLane.GROUPS = min F.tcxLane.GROUPS.max (s.fld (R.tcxLane n) F.tcxLane.GROUPS + 1) ∧
      (∀ k, k < 16 → k ≠ n.val → t.reg (R.tcxLane k) = s.reg (R.tcxLane k)) := by
  obtain ⟨hs0, hside0⟩ := State.takeSnapshots_none hc hsaves
  have hmax : ∀ v ∈ row.vals, v ≤ c.maxval := fun v hv' => by
    have := hv v hv'
    rw [Stream.maxval]
    omega
  obtain ⟨v, x, w, hv0, hnext, hw, hlines, hsince, hlast, hcrc, hrst⟩ := State.encodeNext_lossless hs0 h hnear hrows hbad hmax
  have hstep : s.encodeStep n sc = w.countFld (R.tcxLane n) F.tcxLane.GROUPS := by
    delta State.encodeStep
    extract_lets s0 s1 s2 s3e s3 s4 s5
    have hs1 : s1 = s0 := if_pos (by rw [hs0, h.hdr])
    have hs2 : s2 = s0 := (if_neg (by rw [hs1, hs0, State.docMarkDue_of_off h.rstDoc]; exact Bool.false_ne_true)).trans hs1
    have hs3 : s3 = s0 := (if_neg (by rw [hs2, hs0, h.rstDue]; exact Bool.false_ne_true)).trans hs2
    have hs5 : s5 = w.countFld (R.tcxLane n) F.tcxLane.GROUPS := by rw [← hnext, show s5 = (s3.encodeNext sc).countFld (R.tcxLane n) F.tcxLane.GROUPS from rfl, hs3]
    have hrst5 : (s5.stream sc).rstDoc = false := by
      have hstream : s5.stream sc = w.stream sc := by
        rw [hs5, State.stream, ((State.regsOnly.refl w _).countFld (o := R.tcxLane n) _ (List.mem_singleton_self _)).1]
        rfl
      have hcore := hw.core sc
      rw [State.stream_setStream] at hcore
      rw [hstream]
      exact (congrArg Stream.rstDoc hcore :).trans hrst
    refine (if_neg (by rw [hs0, hstate, h.finished]; decide)).trans ((if_neg ?_).trans ((if_neg ?_).trans ((if_neg ?_).trans hs5)))
    · rw [hs2, hs0, hclosing]
      exact Bool.false_ne_true
    · rw [hs2, hs0, List.isEmpty_iff]
      exact hready
    · rw [State.docMarkDue_of_off hrst5]
      exact Bool.false_ne_true
  obtain ⟨t, hdone, hcore, hgroups, hlanes⟩ := (hside0.trans hv0).counted hw n (.refl _) hu.1
  refine ⟨t, (congrArg State.done ?_).trans hdone, (congrArg Stream.lines hcore :).trans hlines, (congrArg Stream.sinceRst hcore :).trans hsince,
    (congrArg Stream.lastY hcore :).trans hlast, (congrArg Stream.crc hcore :).trans hcrc, hgroups, hlanes⟩
  refine (if_pos ?_).trans ((congrArg (s.encodeStep n) hsc).trans hstep)
  rw [State.bit_eq_true hact, State.bit_eq_false hdir]
  rfl

end

/-! ## Decoding eight-bit raw samples -/

/-- A bit that needs no byte. -/
theorem Reader.bit_loaded {r : Reader} (h : r.pendN ≠ 0) :
    r.bit = .ok (bitsOf r.pend (r.pendN - 1) 1, { r with pendN := r.pendN - 1, pend := r.pend % 2 ^ (r.pendN - 1) }) := by
  rw [Reader.bit, if_neg h]
  rfl

/-- A number's n + 1 bits from bit q on: the highest, and the n below it. -/
theorem bitsOf_succ (x q n : Nat) : bitsOf x q (n + 1) = bitsOf x (q + n) 1 * 2 ^ n + bitsOf (x % 2 ^ (q + n)) q n := by
  simp only [bitsOf, Nat.shiftRight_eq_div_pow]
  rw [Nat.mod_pow_succ, Nat.pow_add, Nat.mod_mul_right_div_self, Nat.div_div_eq_div_mul, Nat.pow_one, Nat.mod_mod]
  ring

/-- Bits that need no byte. -/
theorem Reader.bits_loaded (n acc : Nat) (r : Reader) (h : n ≤ r.pendN) (hp : r.pend < 2 ^ r.pendN) :
    Reader.bits n acc r = .ok (acc * 2 ^ n + bitsOf r.pend (r.pendN - n) n, { r with pendN := r.pendN - n, pend := r.pend % 2 ^ (r.pendN - n) }) := by
  induction n generalizing acc r with
  | zero =>
    rw [Reader.bits, Nat.sub_zero, Nat.mod_eq_of_lt hp, bitsOf, Nat.pow_zero, Nat.mod_one, Nat.mul_one, Nat.add_zero]
  | succ n ih =>
    obtain ⟨q, hq⟩ : ∃ q, r.pendN = q + n + 1 := ⟨r.pendN - n - 1, by omega⟩
    have hbits : Reader.bits (n + 1) acc r = Reader.bits n (2 * acc + bitsOf r.pend (r.pendN - 1) 1)
        { r with pendN := r.pendN - 1, pend := r.pend % 2 ^ (r.pendN - 1) } := by
      rw [Reader.bits, Reader.bit_loaded (by omega)]
      rfl
    rw [hbits, ih _ _ (show n ≤ r.pendN - 1 by omega) (Nat.mod_lt _ (Nat.two_pow_pos _)), hq]
    simp only [show q + n + 1 - 1 = q + n by omega, show q + n - n = q by omega, show q + n + 1 - (n + 1) = q by omega]
    rw [bitsOf_succ r.pend q n, Nat.mod_mod_of_dvd _ (Nat.pow_dvd_pow 2 (Nat.le_add_right q n))]
    congr 2
    ring

/-- The reader at a byte boundary, `used` bytes taken. -/
def Reader.atByte (input : List (Option Byte)) (used : Nat) : Reader := { pend := 0, pendN := 0, ff := false, input := input, used := used }

/-- Eight bits from a byte boundary are the next byte, where that needs no stuffing. -/
theorem Reader.bits_byte {b : Byte} (hb : b ≠ 0xFF) (rest : List (Option Byte)) (used : Nat) :
    Reader.bits 8 0 (Reader.atByte (some b :: rest) used) = .ok (b.toNat, Reader.atByte rest (used + 1)) := by
  have hload : (Reader.atByte (some b :: rest) used).bit = Reader.bit { pend := b.toNat, pendN := 8, ff := false, input := rest, used := used + 1 } := by
    have hstep : (Reader.atByte (some b :: rest) used).load = .ok { pend := b.toNat, pendN := 8, ff := false, input := rest, used := used + 1 } :=
      if_neg hb
    rw [Reader.bit, if_pos (show (Reader.atByte (some b :: rest) used).pendN = 0 from rfl), hstep]
    exact (Reader.bit_loaded (Nat.succ_ne_zero 7)).symm
  have hbits : Reader.bits 8 0 (Reader.atByte (some b :: rest) used) =
      Reader.bits 8 0 { pend := b.toNat, pendN := 8, ff := false, input := rest, used := used + 1 } := by
    rw [Reader.bits, Reader.bits, hload]
  rw [hbits, Reader.bits_loaded 8 0 _ (Nat.le_refl _) b.isLt]
  simp only [bitsOf, Nat.sub_self, Nat.shiftRight_zero, Nat.pow_zero, Nat.mod_one, Nat.mod_eq_of_lt b.isLt, Nat.zero_mul, Nat.zero_add]
  rfl

/-- Eight-bit raw samples are the input's bytes. -/
theorem Decoder.raw_bytes {t : Stream} (hdepth : t.depth = 8) (bs : List Byte) (hbs : ∀ b ∈ bs, b ≠ 0xFF) (done : List Nat) (used : Nat) (d : Decoder)
    (hd : d.rd = Reader.atByte (bs.map some) used) :
    Decoder.raw t bs.length done d = .ok ((bs.map (fun b => b.toNat)).reverse ++ done, { d with rd := Reader.atByte [] (used + bs.length) }) := by
  induction bs generalizing done used d with
  | nil =>
    rw [List.length_nil, Decoder.raw, Nat.add_zero, ← show d.rd = Reader.atByte [] used from hd]
    rfl
  | cons b bs ih =>
    have hstep : Decoder.raw t (bs.length + 1) done d = Decoder.raw t bs.length (b.toNat :: done) { d with rd := Reader.atByte (bs.map some) (used + 1) } := by
      rw [Decoder.raw, hdepth, hd, List.map_cons, Reader.bits_byte (hbs b List.mem_cons_self)]
      rfl
    rw [List.length_cons, hstep, ih (fun x hx => hbs x (List.mem_cons_of_mem _ hx)) _ (used + 1) _ rfl, List.map_cons, List.reverse_cons,
      List.append_assoc, show used + 1 + bs.length = used + (bs.length + 1) by omega]
    rfl

theorem State.decodeStop_none (sc : Nat) (s : State) (k : State → State) : State.decodeStop sc (s, none) k = k s := rfl

theorem State.decodeStop_more (sc : Nat) (s : State) (k : State → State) : State.decodeStop sc (s, some .more) k = s := rfl

section
variable {s : State} {sc : Nat} {c : Stream} {bs : List Byte} (h : c.OnePlane) (hmode : c.mode = 0) (hdepth : c.depth = 8) (hpendN : c.pendN = 0)
  (hpend : c.pend = 0) (hff : c.ffPend = false) (hinput : c.input = bs.map some) (hlen : bs.length = c.width) (hbs : ∀ b ∈ bs, b ≠ 0xFF)
include h hmode hdepth hpendN hpend hff hinput hlen hbs

/-- The line group of eight-bit raw samples. -/
theorem Stream.decodeGroup_raw (above : List (List Nat)) : ∃ x, c.decodeGroup above = .ok (x, [bs.map (fun b => b.toNat)], 0) ∧ x.lines = c.lines + 1 ∧
    x.sinceRst = c.sinceRst + 1 ∧ x.input = [] ∧ x.bytes = c.bytes + c.width ∧
    x.crc = (rowBytes (bs.map (fun b => b.toNat))).foldl crc32cByte c.crc ∧ x.finished = false ∧ x.reads = c.reads ∧ x.ffPend = false := by
  have hrd : c.reader = Reader.atByte (bs.map some) 0 := by
    rw [Stream.reader, hpend, hpendN, hff, hinput]
    rfl
  have hraw : ∀ ri, Decoder.raw c c.width [] { rd := c.reader, reg := c.reg, run := c.run, ri := ri } =
      .ok ((bs.map (fun b => b.toNat)).reverse, { rd := Reader.atByte [] bs.length, reg := c.reg, run := c.run, ri := ri }) := fun ri => by
    rw [← hlen, Decoder.raw_bytes hdepth bs hbs [] 0 _ hrd, List.append_nil, Nat.zero_add]
  have hslots : ∃ ris ri, c.decodeSlots above (List.range c.npl) [] [] { rd := c.reader, reg := c.reg, run := c.run } =
      .ok ([bs.map (fun b => b.toNat)], ris, { rd := Reader.atByte [] bs.length, reg := c.reg, run := c.run, ri := ri }) := by
    refine ⟨[c.ri.getD 0 0], c.ri.getD 0 0, ?_⟩
    rw [h.npl]
    change c.decodeSlots above [0] [] [] { rd := c.reader, reg := c.reg, run := c.run } = _
    rw [Stream.decodeSlots, if_pos hmode]
    simp only [hraw]
    change Stream.decodeSlots c above [] ([] ++ [(bs.map (fun b => b.toNat)).reverse.reverse]) _ _ = _
    rw [List.reverse_reverse]
    rfl
  obtain ⟨ris, ri, hslots⟩ := hslots
  rw [Stream.decodeGroup, hslots]
  refine ⟨_, rfl, rfl, rfl, rfl, ?_, ?_, h.finished, rfl, rfl⟩
  · exact congrArg (c.bytes + ·) hlen
  · change ([bs.map (fun b => b.toNat)].flatMap rowBytes).foldl crc32cByte c.crc = _
    rw [List.flatMap_singleton]

omit h hmode hdepth hpendN hpend in
/-- At a line-group boundary no marker follows a byte that is not 0xFF. -/
theorem State.decodeMarks_none (hc : s.stream sc = c) (hwidth : 0 < c.width) (fuel : Nat) : State.decodeMarks sc (fuel + 1) s = (s, none) := by
  obtain ⟨b, rest, rfl⟩ : ∃ b rest, bs = b :: rest := List.exists_cons_of_length_pos (by omega)
  have hpeek : (s.stream sc).peekMark = .ok .none := by
    rw [hc, Stream.peekMark, hff, hinput]
    exact if_pos (hbs b List.mem_cons_self)
  rw [State.decodeMarks]
  rw [hpeek]

/-- The next line group decoded, its bytes placed and the group counted. -/
theorem State.decodeNext_raw (hc : s.stream sc = c) (n : Nat) : ∃ x w, s.decodeNext n sc = (w.countFld (R.tcxLane n) F.tcxLane.GROUPS, none) ∧
    (s.setStream sc x).HostSide w ∧ x.lines = c.lines + 1 ∧ x.sinceRst = c.sinceRst + 1 ∧ x.input = [] ∧ x.bytes = c.bytes + c.width ∧
    x.crc = (rowBytes (bs.map (fun b => b.toNat))).foldl crc32cByte c.crc ∧ x.finished = false ∧ x.reads = c.reads ∧ x.ffPend = false := by
  have habove : s.rowsAbove c = (s, List.replicate c.npl []) := if_pos (.inr (.inl hmode))
  obtain ⟨x, hdec, hx⟩ := Stream.decodeGroup_raw h hmode hdepth hpendN hpend hff hinput hlen hbs (List.replicate c.npl [])
  refine ⟨x, (s.setStream sc x).streamBytes sc ([bs.map (fun b => b.toNat)].flatMap (fun r => r.flatMap (fun v => bytesLE 2 (v <<< c.inshift)))), ?_,
    State.HostSide.streamBytes _ _, hx⟩
  delta State.decodeNext
  rw [hc]
  extract_lets a b
  refine (if_neg (by rw [h.finished]; exact Bool.false_ne_true)).trans ((if_neg (by rw [h.rstDue]; exact Bool.false_ne_true)).trans ?_)
  have hb : b = (s, List.replicate c.npl []) := habove
  rw [hb]
  change (match c.decodeGroup (List.replicate c.npl []) with | .error e => _ | .ok (t1, rows, esc) => _) = _
  rw [hdec]
  dsimp only
  rw [show s.storeRows c [bs.map (fun b => b.toNat)] = s from if_pos (.inl hmode), show s.escapes 0 = s from rfl]

theorem exec_lineGroupDecode_raw {n : Fin 16} (hu : s.usual) (hsc : s.fld (R.tcxLane n) F.tcxLane.SC = sc) (hc : s.stream sc = c)
    (hact : s.fld (R.tcxLane n) F.tcxLane.ACT = 1) (hsaves : c.saves = []) (hdir : s.fld (R.tcxLane n) F.tcxLane.DIR = 1) (hstate : c.state = 2)
    (hreads : c.reads = []) (hwidth : 0 < c.width) :
    ∃ t, exec (.lineGroupDecode n [] none) s = .next t ∧ (t.stream sc).lines = c.lines + 1 ∧ (t.stream sc).sinceRst = c.sinceRst + 1 ∧
      (t.stream sc).input = [] ∧ (t.stream sc).bytes = c.bytes + c.width ∧
      (t.stream sc).crc = ((bs.map (fun b => b.toNat)).flatMap (fun v => bytesLE 2 v)).foldl crc32cByte c.crc ∧
      t.fld (R.tcxLane n) F.tcxLane.GROUPS = min F.tcxLane.GROUPS.max (s.fld (R.tcxLane n) F.tcxLane.GROUPS + 1) := by
  obtain ⟨hs0, hside0⟩ := State.takeSnapshots_none hc hsaves
  have hsame : { c with reads := [], input := c.input ++ [] } = c := by rw [List.append_nil, ← hreads]
  have hc1 : ((s.takeSnapshots sc).setStream sc c).stream sc = c := State.stream_setStream _ _ _
  have hside1 : s.HostSide ((s.takeSnapshots sc).setStream sc c) := hside0.trans (.setStream (by rw [hs0]))
  obtain ⟨x, w, hnext, hw, hlines, hsince, hin, hbytes, hcrc, hfin, hreads', hff'⟩ :=
    State.decodeNext_raw h hmode hdepth hpendN hpend hff hinput hlen hbs hc1 n
  have hmarks := State.decodeMarks_none hff hinput hlen hbs hc1 hwidth 1
  obtain ⟨u, hu0⟩ : ∃ u, u = w.countFld (R.tcxLane n) F.tcxLane.GROUPS := ⟨_, rfl⟩
  have hcore : (u.stream sc).core = x.core := by
    have hstream : u.stream sc = w.stream sc := by
      rw [hu0, State.stream, ((State.regsOnly.refl w _).countFld (o := R.tcxLane n) _ (List.mem_singleton_self _)).1]
      rfl
    rw [hstream, hw.core, State.stream_setStream]
  rw [← hu0] at hnext
  have hmarks' : State.decodeMarks sc 2 u = (u, some .more) := by
    have hpeek : (u.stream sc).peekMark = .error .more := by
      rw [Stream.peekMark, show (u.stream sc).ffPend = false from (congrArg Stream.ffPend hcore :).trans hff',
        show (u.stream sc).input = [] from (congrArg Stream.input hcore :).trans hin]
      rfl
    rw [State.decodeMarks]
    rw [hpeek]
  have hdef : s.decodeStep n sc [] none = u.refreshOcc := by
    delta State.decodeStep
    extract_lets s0 t o marked s1 s2 s3
    have ht : t = c := hs0
    have hs1 : s1 = s0.setStream sc c := by
      rw [← hsame]
      change s0.setStream sc { t with reads := (takeInput t.reads []).1, input := t.input ++ (List.range (takeInput t.reads []).2).map _ } = _
      rw [ht, hreads]
      rfl
    have hs2 : s2 = u := by
      have hheader : s1.decodeHeader sc = (s1, none) := if_pos (by rw [hs1, hc1, h.hdr])
      change State.decodeStop sc (s1.decodeHeader sc) _ = u
      rw [hheader, State.decodeStop_none, hs1, hmarks, State.decodeStop_none, hnext, State.decodeStop_none]
      refine (if_neg ?_).trans ?_
      · rw [show (u.stream sc).finished = false from (congrArg Stream.finished hcore :).trans hfin]
        exact Bool.false_ne_true
      · rw [hmarks', State.decodeStop_more]
    have hs3 : s3 = u := by
      change State.readsDone sc (t.reads.length + 1) s2 = u
      rw [hs2, State.readsDone]
      rw [show (u.stream sc).reads = [] from ((congrArg Stream.reads hcore :).trans hreads').trans hreads]
    refine (if_neg (by rw [ht, hstate, h.finished]; decide)).trans ?_
    exact congrArg State.refreshOcc hs3
  obtain ⟨t, hdone, htcore, hgroups, -⟩ := hside1.counted hw n (y := u.refreshOcc) (by rw [← hu0]; exact .refreshOcc) hu.1
  refine ⟨t, (congrArg State.done ?_).trans hdone, (congrArg Stream.lines htcore :).trans hlines, (congrArg Stream.sinceRst htcore :).trans hsince,
    (congrArg Stream.input htcore :).trans hin, (congrArg Stream.bytes htcore :).trans hbytes, (congrArg Stream.crc htcore :).trans hcrc, hgroups⟩
  refine (if_pos ?_).trans ((congrArg (fun k => s.decodeStep n k [] none) hsc).trans hdef)
  rw [State.bit_eq_true hact, State.bit_eq_true hdir]
  rfl

end

/-- Settles O41. -/
theorem lineGroupsAreCoded : Obligations.LineGroupsAreCoded := by
  intro s n hu sc c hact _ hsaves hfin hhdr hrstInt hrstDoc htrkEn _ hshift hnpl hslots _ hnear
  have h : c.OnePlane := ⟨hfin, hhdr, hrstInt, hrstDoc, htrkEn, hshift, hnpl, hslots⟩
  refine ⟨fun row rest hdir hstate hclosing hready hrows hbad _ hv => ?_, fun bs hdir hstate hmode hdepth hpendN hpend hff hreads hinput hlen hwidth hbs => ?_⟩
  · exact exec_lineGroupEncode_lossless hu rfl rfl hact hsaves h hnear hdir hstate hclosing hready hrows hbad hv
  · exact exec_lineGroupDecode_raw h hmode hdepth hpendN hpend hff hinput hlen hbs hu rfl rfl hact hsaves hdir hstate hreads hwidth

end Sys2Proof.Machine

/-!
The internal DMA: what a ring channel's operations change, the state it enters, the position it shows, and what a halt records
(R411, R418, R420).
-/
namespace Sys2Proof.Machine

/-- The frame of the ring channels and of what is held back. -/
def Frame.ring : Frame :=
  ⟨fun s t => { s with regs := t.regs, eff := t.eff, idma := { s.idma with chans := t.idma.chans } }, fun _ => rfl, fun _ _ _ => rfl,
    fun _ _ _ => rfl, fun _ _ _ => rfl, fun _ _ => ⟨rfl, rfl, rfl, rfl, rfl, rfl, rfl⟩⟩

theorem endIgnores_idma {l : List Nat} (h : ∀ o ∈ l, 0x2C000 ≤ o ∧ o < 0x30000) : endIgnores l := by
  intro o ho hmem
  have hb := h o hmem
  simp only [R.engStat, R.hltStat, R.sysClkStat, R.sysBootStat, List.mem_cons, List.not_mem_nil, or_false] at ho
  omega

/-- What does not touch registers, nor what a command's end looks at, stays usual. -/
theorem State.usual_alike {s t : State} (hu : s.usual) (h : s.EndsAlike t) (hr : t.regs = s.regs) : t.usual :=
  State.usual_of hu h (State.regsBut_of_regs [] hr) (endIgnores_idma fun _ h => absurd h List.not_mem_nil)

theorem State.fld_lt (s : State) (o : Nat) (f : Fld) : s.fld o f < 2 ^ f.width := BitVec.isLt _

/-- Ring channel n's own state has become c; of the rest only registers at l have changed. -/
structure State.ChanOnly (s t : State) (n : Nat) (c : Chan) (l : List Nat) : Prop where
  only : s.Only Frame.ring t l
  chan : t.chan n = c
  others : ∀ m, m ≠ n → t.chan m = s.chan m

namespace State.ChanOnly
variable {s t u : State} {n : Nat} {c : Chan} {l m : List Nat}

theorem refl (s : State) (n : Nat) (l : List Nat) : s.ChanOnly s n (s.chan n) l := ⟨.refl s l, rfl, fun _ _ => rfl⟩

theorem mono (h : s.ChanOnly t n c l) (hl : l ⊆ m) : s.ChanOnly t n c m := ⟨h.only.mono hl, h.chan, h.others⟩

/-- A change of registers and of what is held back for them. -/
theorem regs (h : s.ChanOnly t n c l) (hu : t.sameBut u l) : s.ChanOnly u n c l := by
  have hchan : ∀ k, u.chan k = t.chan k := fun k => by rw [State.chan, hu.1, State.chan]
  exact ⟨h.only.trans (hu.only fun _ _ _ => rfl), (hchan n).trans h.chan, fun k hk => (hchan k).trans (h.others k hk)⟩

theorem setReg (h : s.ChanOnly t n c l) {o : Nat} (w : Word) (ho : o ∈ l) : s.ChanOnly (t.setReg o w) n c l :=
  h.regs ((State.regsOnly.refl t l).setReg w ho).sameBut

theorem setFld (h : s.ChanOnly t n c l) {o : Nat} (f : Fld) (x : Nat) (ho : o ∈ l) : s.ChanOnly (t.setFld o f x) n c l := h.setReg _ ho

theorem setReg64 (h : s.ChanOnly t n c l) {lo hi : Nat} (v : Nat) (hlo : lo ∈ l) (hhi : hi ∈ l) : s.ChanOnly (t.setReg64 lo hi v) n c l :=
  (h.setReg _ hlo).setReg _ hhi

theorem setChan (h : s.ChanOnly t n c l) (c' : Chan) : s.ChanOnly (t.setChan n c') n c' l :=
  ⟨h.only.upd (u := t.setChan n c') rfl rfl, Table.get_set_same _ _ _ _, fun k hk => (Table.get_set_ne _ _ _ _ _ hk).trans (h.others k hk)⟩

theorem fire (h : s.ChanOnly t n c l) (ev : Nat) : (s.fire ev).ChanOnly (t.fire ev) n c l := ⟨h.only.fire ev, h.chan, h.others⟩

theorem reg (h : s.ChanOnly t n c l) {o : Nat} (ho : o ∉ l) : t.reg o = s.reg o := h.only.reg o ho

theorem done (h : s.ChanOnly t n c l) (hu : s.usual) (hl : ∀ o ∈ l, 0x2C000 ≤ o ∧ o < 0x30000) : State.done t = .next t :=
  h.only.done hu (endIgnores_idma hl)

theorem stays (h : s.ChanOnly t n c l) (hst : t.chState n = s.chState n) : ChanStays s t n c l :=
  ⟨h.only.state, h.chan, h.others, hst, h.only.reg⟩

end State.ChanOnly

/-! ## The state entered -/

/-- The state of channel n as CHn_STAT, IDMA.BUSY and IDMA.HALTED show it; the other channels' bits are those of s. -/
structure State.ShowsState (s t : State) (n st : Nat) : Prop where
  state : t.chState n = st
  busy : ∀ j, j < 32 → (t.reg R.idmaBusy).getLsbD j = if j = n then decide (st ≠ 0 ∧ st ≠ 7) else (s.reg R.idmaBusy).getLsbD j
  halted : ∀ j, j < 32 → (t.reg R.idmaHalted).getLsbD j = if j = n then decide (st = 7) else (s.reg R.idmaHalted).getLsbD j

/-- The registers that entering a state changes. -/
def chanStates (n : Nat) : List Nat := [R.chStat n, R.idmaBusy, R.idmaHalted]

/-- Ring channel n's own state has become c, and it is in state st; of the rest only registers at l have changed. -/
structure State.ChanIn (s t : State) (n : Nat) (c : Chan) (st : Nat) (l : List Nat) : Prop where
  only : s.ChanOnly t n c (chanStates n ++ l)
  shows : s.ShowsState t n st

theorem Fld.put_oneBit (n x : Nat) (w : Word) (hn : n < 32) (hx : x < 2) {j : Nat} (hj : j < 32) :
    ((Fld.mk n 1).put w x).getLsbD j = if j = n then decide (x = 1) else w.getLsbD j := by
  rw [Fld.put_bit _ _ _ _ (show n + 1 ≤ 32 by omega) hj]
  by_cases hjn : j = n
  · rw [if_pos hjn, if_pos (show n ≤ j ∧ j < n + 1 by omega), hjn, Nat.sub_self]
    obtain rfl | rfl : x = 0 ∨ x = 1 := by omega
    · rfl
    · rfl
  · rw [if_neg hjn, if_neg (show ¬(n ≤ j ∧ j < n + 1) by omega)]

section
variable {s t : State} {n : Nat} {c : Chan} {l : List Nat}

theorem chanStates_apart (n : Nat) : R.chStat n ≠ R.idmaBusy ∧ R.chStat n ≠ R.idmaHalted := by simp only [R.chStat, R.idmaBusy, R.idmaHalted]; omega

/-- Entering a state shows it. -/
theorem State.chEnter_in (h : s.ChanOnly t n c (chanStates n ++ l)) (hn : n < 32) {st : Nat} (hst : st < 8)
    (hbusy : ∀ j, j < 32 → j ≠ n → (t.reg R.idmaBusy).getLsbD j = (s.reg R.idmaBusy).getLsbD j)
    (hhalted : ∀ j, j < 32 → j ≠ n → (t.reg R.idmaHalted).getLsbD j = (s.reg R.idmaHalted).getLsbD j) :
    s.ChanIn (t.chEnter n st) n c st l := by
  obtain ⟨hb, hh⟩ := chanStates_apart n
  have hbh : R.idmaBusy ≠ R.idmaHalted := by decide
  refine ⟨((h.setFld _ _ (by simp [chanStates])).setFld _ _ (by simp [chanStates])).setFld _ _ (by simp [chanStates]), ⟨?_, ?_, ?_⟩⟩
  · rw [State.chState, State.chEnter, State.fld_setFld_ne _ _ _ _ _ _ hh, State.fld_setFld_ne _ _ _ _ _ _ hb, State.fld_setFld _ _ _ _ (by decide)]
    exact Nat.mod_eq_of_lt hst
  · intro j hj
    rw [State.chEnter, State.reg_setFld_ne _ _ _ _ _ hbh, State.reg_setFld_same, State.reg_setFld_ne _ _ _ _ _ hb.symm,
      Fld.put_oneBit _ _ _ hn (by split <;> decide) hj]
    by_cases hjn : j = n
    · rw [if_pos hjn, if_pos hjn]
      refine decide_eq_decide.mpr ?_
      by_cases hoff : st = Ch.idle ∨ st = Ch.halted
      · rw [if_pos hoff]
        change st = 0 ∨ st = 7 at hoff
        omega
      · rw [if_neg hoff]
        change ¬(st = 0 ∨ st = 7) at hoff
        omega
    · rw [if_neg hjn, if_neg hjn, hbusy j hj hjn]
  · intro j hj
    rw [State.chEnter, State.reg_setFld_same, State.reg_setFld_ne _ _ _ _ _ hbh.symm, State.reg_setFld_ne _ _ _ _ _ hh.symm,
      Fld.put_oneBit _ _ _ hn (by split <;> decide) hj]
    by_cases hjn : j = n
    · rw [if_pos hjn, if_pos hjn]
      refine decide_eq_decide.mpr ?_
      by_cases hoff : st = Ch.halted
      · rw [if_pos hoff]
        exact iff_of_true rfl hoff
      · rw [if_neg hoff]
        exact iff_of_false Nat.zero_ne_one hoff
    · rw [if_neg hjn, if_neg hjn, hhalted j hj hjn]

/-- A channel's own state and registers apart, and then a state. -/
theorem State.ChanOnly.enter (h : s.ChanOnly t n c l) (hn : n < 32) {st : Nat} (hst : st < 8) (hbusy : R.idmaBusy ∉ l) (hhalted : R.idmaHalted ∉ l) :
    s.ChanIn (t.chEnter n st) n c st l :=
  State.chEnter_in (h.mono (List.subset_append_right _ _)) hn hst (fun _ _ _ => by rw [h.reg hbusy]) (fun _ _ _ => by rw [h.reg hhalted])

end

namespace State.ChanIn
variable {s t u : State} {n st : Nat} {c : Chan} {l m : List Nat}

theorem mono (h : s.ChanIn t n c st l) (hl : l ⊆ m) : s.ChanIn t n c st m := ⟨h.only.mono (List.append_subset.mpr ⟨List.subset_append_left _ _, List.subset_append_of_subset_right _ hl⟩), h.shows⟩

/-- Another state is entered. -/
theorem enter (h : s.ChanIn t n c st l) (hn : n < 32) {st' : Nat} (hst : st' < 8) : s.ChanIn (t.chEnter n st') n c st' l :=
  State.chEnter_in h.only hn hst (fun j hj hjn => (h.shows.busy j hj).trans (if_neg hjn)) (fun j hj hjn => (h.shows.halted j hj).trans (if_neg hjn))

/-- A register apart from those that show the state. -/
theorem setReg (h : s.ChanIn t n c st l) {o : Nat} (w : Word) (ho : o ∈ l) (hn : o ∉ chanStates n) : s.ChanIn (t.setReg o w) n c st l := by
  obtain ⟨h1, h2, h3⟩ : o ≠ R.chStat n ∧ o ≠ R.idmaBusy ∧ o ≠ R.idmaHalted := by simpa [chanStates, not_or] using hn
  refine ⟨h.only.setReg w (List.mem_append_right _ ho), ⟨?_, fun j hj => ?_, fun j hj => ?_⟩⟩
  · exact (State.fld_setReg_ne _ _ _ _ _ h1.symm).trans h.shows.state
  · rw [State.reg_setReg_ne _ _ _ _ h2.symm, h.shows.busy j hj]
  · rw [State.reg_setReg_ne _ _ _ _ h3.symm, h.shows.halted j hj]

theorem setFld (h : s.ChanIn t n c st l) {o : Nat} (f : Fld) (x : Nat) (ho : o ∈ l) (hn : o ∉ chanStates n) :
    s.ChanIn (t.setFld o f x) n c st l := h.setReg _ ho hn

theorem setReg64 (h : s.ChanIn t n c st l) {lo hi : Nat} (v : Nat) (hlo : lo ∈ l) (hhi : hi ∈ l) (hnlo : lo ∉ chanStates n)
    (hnhi : hi ∉ chanStates n) : s.ChanIn (t.setReg64 lo hi v) n c st l := (h.setReg _ hlo hnlo).setReg _ hhi hnhi

/-- CHn_STAT takes a value that shows the same state. -/
theorem setStat (h : s.ChanIn t n c st l) {w : Word} (hw : F.chStat.STATE.get w = F.chStat.STATE.get (t.reg (R.chStat n))) :
    s.ChanIn (t.setReg (R.chStat n) w) n c st l := by
  obtain ⟨hb, hh⟩ := chanStates_apart n
  refine ⟨h.only.setReg w (by simp [chanStates]), ⟨?_, fun j hj => ?_, fun j hj => ?_⟩⟩
  · rw [State.chState, State.fld, State.reg_setReg_same, hw]
    exact h.shows.state
  · rw [State.reg_setReg_ne _ _ _ _ hb.symm, h.shows.busy j hj]
  · rw [State.reg_setReg_ne _ _ _ _ hh.symm, h.shows.halted j hj]

theorem setStatFld (h : s.ChanIn t n c st l) (f : Fld) (x : Nat) (hf : f.lo + f.width ≤ 32) (h3 : 3 ≤ f.lo) :
    s.ChanIn (t.setFld (R.chStat n) f x) n c st l :=
  h.setStat (Fld.get_put_apart f _ _ _ hf (by decide) (.inl h3))

/-- Registers apart from those that show the state. -/
theorem regs (h : s.ChanIn t n c st l) {k : List Nat} (hu : t.sameBut u k) (hk : k ⊆ l) (hn : ∀ o ∈ chanStates n, o ∉ k) : s.ChanIn u n c st l := by
  have hreg : ∀ o ∈ chanStates n, u.reg o = t.reg o := fun o ho => (hu.2 o (hn o ho)).1
  refine ⟨h.only.regs (hu.mono (List.subset_append_of_subset_right _ hk)), ⟨?_, fun j hj => ?_, fun j hj => ?_⟩⟩
  · exact (State.fld_of_reg (hreg _ (by simp [chanStates])) _).trans h.shows.state
  · rw [hreg _ (by simp [chanStates]), h.shows.busy j hj]
  · rw [hreg _ (by simp [chanStates]), h.shows.halted j hj]

theorem setChan (h : s.ChanIn t n c st l) (c' : Chan) : s.ChanIn (t.setChan n c') n c' st l := ⟨h.only.setChan c', h.shows.1, h.shows.2, h.shows.3⟩

theorem fire (h : s.ChanIn t n c st l) (ev : Nat) : (s.fire ev).ChanIn (t.fire ev) n c st l := ⟨h.only.fire ev, h.shows.1, h.shows.2, h.shows.3⟩

theorem enters (h : s.ChanIn t n c st l) : ChanEnters s t n c st l :=
  ⟨h.only.only.state, h.only.chan, h.only.others, h.shows.state, fun j hj => ⟨h.shows.busy j hj, h.shows.halted j hj⟩, h.only.only.reg⟩

theorem done (h : s.ChanIn t n c st l) (hu : s.usual) (hn : n < 32) (hl : ∀ o ∈ l, 0x2C000 ≤ o ∧ o < 0x30000) : State.done t = .next t := by
  refine h.only.done hu fun o ho => (List.mem_append.mp ho).elim (fun hmem => ?_) (hl o)
  simp only [chanStates, R.chStat, R.idmaBusy, R.idmaHalted, List.mem_cons, List.not_mem_nil, or_false] at hmem
  omega

end State.ChanIn

/-- Registers of the internal DMA that do not show a channel's state. -/
def OwnRegs (n : Nat) (l : List Nat) : Prop := ∀ o ∈ l, (0x2C000 ≤ o ∧ o < 0x30000) ∧ o ∉ chanStates n

theorem ownRegs_nil (n : Nat) : OwnRegs n [] := fun _ h => absurd h List.not_mem_nil

/-- Ring channel n's own state has become c; of the rest only the registers that show its state, its own bits in those it shares, and registers
at l have changed. -/
structure State.ChanNear (s t : State) (n : Nat) (c : Chan) (l : List Nat) : Prop where
  only : s.ChanOnly t n c (chanStates n ++ l)
  busy : ∀ j, j < 32 → j ≠ n → (t.reg R.idmaBusy).getLsbD j = (s.reg R.idmaBusy).getLsbD j
  halted : ∀ j, j < 32 → j ≠ n → (t.reg R.idmaHalted).getLsbD j = (s.reg R.idmaHalted).getLsbD j

section
variable {s t : State} {n st : Nat} {c : Chan} {l : List Nat}

theorem State.ChanIn.near (h : s.ChanIn t n c st l) : s.ChanNear t n c l :=
  ⟨h.only, fun j hj hjn => (h.shows.busy j hj).trans (if_neg hjn), fun j hj hjn => (h.shows.halted j hj).trans (if_neg hjn)⟩

theorem State.ChanNear.setChan (h : s.ChanNear t n c l) (c' : Chan) : s.ChanNear (t.setChan n c') n c' l := ⟨h.only.setChan c', h.busy, h.halted⟩

theorem State.ChanOnly.near (h : s.ChanOnly t n c l) (hown : OwnRegs n l) : s.ChanNear t n c l :=
  ⟨h.mono (List.subset_append_right _ _), fun _ _ _ => by rw [h.reg fun hm => (hown _ hm).2 (by simp [chanStates])],
    fun _ _ _ => by rw [h.reg fun hm => (hown _ hm).2 (by simp [chanStates])]⟩

variable (h : s.ChanNear t n c l) (hn : n < 32)
include h hn

theorem State.ChanNear.enter {st : Nat} (hst : st < 8) : s.ChanIn (t.chEnter n st) n c st l := State.chEnter_in h.only hn hst h.busy h.halted

end

/-! ## The position shown -/

/-- The address of the next beat lies within 40 bits. -/
theorem Chan.srcNow_lt (c : Chan) : c.srcNow < 2 ^ 40 := by
  unfold Chan.srcNow
  split_ifs
  · exact Nat.mod_lt _ (by decide)
  · exact Nat.mod_lt _ (by decide)
  · exact Nat.mod_lt _ (by decide)
  · exact Nat.mod_lt _ (by decide)

theorem Chan.dstNow_lt (c : Chan) : c.dstNow < 2 ^ 40 := by
  unfold Chan.dstNow
  split_ifs
  · exact Nat.mod_lt _ (by decide)
  · exact Nat.mod_lt _ (by decide)
  · exact Nat.mod_lt _ (by decide)
  · exact Nat.mod_lt _ (by decide)

theorem State.chDesc_lt (s : State) (n : Nat) : s.chDesc n < 2 ^ 40 := Nat.mod_lt _ (by decide)

/-- The position follows from its registers. -/
theorem ShowsPosition.of_reg {t u : State} {n : Nat} {c : Chan} (h : ShowsPosition t n c) (hr : ∀ o ∈ chanPosition n, u.reg o = t.reg o) :
    ShowsPosition u n c := by
  obtain ⟨h1, h2, h3, h4⟩ := h
  have hreg64 : ∀ lo ∈ chanPosition n, ∀ hi ∈ chanPosition n, u.reg64 lo hi = t.reg64 lo hi := fun lo hlo hi hhi => by
    rw [State.reg64, hr lo hlo, hr hi hhi, State.reg64]
  refine ⟨(hreg64 _ ?_ _ ?_).trans h1, (hreg64 _ ?_ _ ?_).trans h2, (State.fld_of_reg (hr _ ?_) _).trans h3, (State.fld_of_reg (hr _ ?_) _).trans h4⟩ <;>
    simp [chanPosition]

/-- The position is the same for a channel state with the same next beats and bytes held. -/
theorem ShowsPosition.congr {t : State} {n : Nat} {c d : Chan} (h : ShowsPosition t n c) (hsrc : d.srcNow = c.srcNow) (hdst : d.dstNow = c.dstNow)
    (hrem : d.len - d.wr = c.len - c.wr) (hhold : d.hold = c.hold) : ShowsPosition t n d := by
  obtain ⟨h1, h2, h3, h4⟩ := h
  exact ⟨h1.trans hsrc.symm, h2.trans hdst.symm, h3.trans (by rw [hrem]), h4.trans (by rw [hhold])⟩

theorem State.chShow_shows (t : State) (n : Nat) : ShowsPosition (t.chShow n) n (t.chan n) := by
  have h1 : ∀ x y : Nat, x ≠ y → 0x2C100 + 0x40 * n + x ≠ 0x2C100 + 0x40 * n + y := fun x y h => by omega
  have hsrc := t.reg64_setReg64 (R.chSrcLo n) (R.chSrcHi n) (t.chan n).srcNow (by simp only [R.chSrcLo, R.chSrcHi]; omega)
    (lt_trans (Chan.srcNow_lt _) (by decide))
  have hdst := (t.setReg64 (R.chSrcLo n) (R.chSrcHi n) (t.chan n).srcNow).reg64_setReg64 (R.chDstLo n) (R.chDstHi n) (t.chan n).dstNow
    (by simp only [R.chDstLo, R.chDstHi]; omega) (lt_trans (Chan.dstNow_lt _) (by decide))
  rw [State.chShow]
  refine ⟨?_, ?_, ?_, ?_⟩
  · refine Eq.trans ?_ hsrc
    have hreg : ∀ o ∈ [R.chSrcLo n, R.chSrcHi n], ((((t.setReg64 (R.chSrcLo n) (R.chSrcHi n) (t.chan n).srcNow).setReg64 (R.chDstLo n) (R.chDstHi n)
        (t.chan n).dstNow).setFld (R.chRem n) F.chRem.REM ((t.chan n).len - (t.chan n).wr)).setFld (R.chHold n) F.chHold.BYTES (t.chan n).hold.length).reg o =
        (t.setReg64 (R.chSrcLo n) (R.chSrcHi n) (t.chan n).srcNow).reg o := fun o ho => by
      have hne : o ≠ R.chHold n ∧ o ≠ R.chRem n ∧ o ≠ R.chDstLo n ∧ o ≠ R.chDstHi n := by
        simp only [R.chSrcLo, R.chSrcHi, R.chHold, R.chRem, R.chDstLo, R.chDstHi, List.mem_cons, List.not_mem_nil, or_false] at ho ⊢
        omega
      rw [State.reg_setFld_ne _ _ _ _ _ hne.1, State.reg_setFld_ne _ _ _ _ _ hne.2.1,
        State.reg_setReg64 _ _ _ _ _ (by simp only [R.chDstLo, R.chDstHi]; omega), if_neg hne.2.2.1, if_neg hne.2.2.2]
    rw [State.reg64, hreg _ (by simp), hreg _ (by simp), State.reg64]
  · refine Eq.trans ?_ hdst
    have hne : R.chDstLo n ≠ R.chHold n ∧ R.chDstLo n ≠ R.chRem n ∧ R.chDstHi n ≠ R.chHold n ∧ R.chDstHi n ≠ R.chRem n := by
      simp only [R.chHold, R.chRem, R.chDstLo, R.chDstHi]
      omega
    rw [State.reg64, State.reg_setFld_ne _ _ _ _ _ hne.1, State.reg_setFld_ne _ _ _ _ _ hne.2.1, State.reg_setFld_ne _ _ _ _ _ hne.2.2.1,
      State.reg_setFld_ne _ _ _ _ _ hne.2.2.2, State.reg64]
  · rw [State.fld_setFld_ne _ _ _ _ _ _ (by simp only [R.chRem, R.chHold]; omega)]
    exact State.fld_setFld _ _ _ _ (by decide)
  · exact State.fld_setFld _ _ _ _ (by decide)

/-- The position registers are those of their own. -/
theorem chanPosition_apart (n : Nat) : ∀ o ∈ chanPosition n, o ∉ chanStates n := by
  simp only [chanPosition, chanStates, List.mem_cons, List.not_mem_nil, or_false, R.chSrcLo, R.chSrcHi, R.chDstLo, R.chDstHi, R.chRem, R.chHold,
    R.chStat, R.idmaBusy, R.idmaHalted]
  omega

section
variable {s t : State} {n st : Nat} {c : Chan} {l : List Nat}

theorem State.ChanOnly.show (h : s.ChanOnly t n c l) (hl : chanPosition n ⊆ l) : s.ChanOnly (t.chShow n) n c l := by
  have hm : ∀ o ∈ chanPosition n, o ∈ l := fun o ho => hl ho
  simp only [chanPosition, List.forall_mem_cons] at hm
  obtain ⟨h1, h2, h3, h4, h5, h6, -⟩ := hm
  exact (((h.setReg64 _ h1 h2).setReg64 _ h3 h4).setFld _ _ h5).setFld _ _ h6

theorem State.ChanIn.show (h : s.ChanIn t n c st l) (hl : chanPosition n ⊆ l) : s.ChanIn (t.chShow n) n c st l := by
  have hm : ∀ o ∈ chanPosition n, o ∈ l := fun o ho => hl ho
  have ha := chanPosition_apart n
  simp only [chanPosition, List.forall_mem_cons] at hm ha
  obtain ⟨h1, h2, h3, h4, h5, h6, -⟩ := hm
  obtain ⟨a1, a2, a3, a4, a5, a6, -⟩ := ha
  exact (((h.setReg64 _ h1 h2 a1 a2).setReg64 _ h3 h4 a3 a4).setFld _ _ h5 a5).setFld _ _ h6 a6

theorem State.ChanOnly.shown (h : s.ChanOnly t n c l) : ShowsPosition (t.chShow n) n c := h.chan ▸ t.chShow_shows n

end


/-! ## Errors recorded -/

theorem IdmaRecords.of_reg {s u t : State} {ch cause dir kind addr : Nat} (h : IdmaRecords u t ch cause dir kind addr)
    (hr : ∀ o ∈ idmaRecordRegs, u.reg o = s.reg o) : IdmaRecords s t ch cause dir kind addr := by
  obtain ⟨h1, h2, h3⟩ := h
  have hv : u.fld R.idmaErr F.idmaErr.VALID = s.fld R.idmaErr F.idmaErr.VALID := State.fld_of_reg (hr _ (by decide)) _
  rw [hv] at h2 h3
  refine ⟨fun p hp => ?_, fun hvalid off hoff => (h2 hvalid off hoff).trans (hr _ ?_), h3⟩
  · rw [h1 p hp, hr p.2]
    fin_cases hp <;> decide
  · fin_cases hoff <;> decide

theorem IdmaRecords.to_reg {s u t : State} {ch cause dir kind addr : Nat} (h : IdmaRecords s u ch cause dir kind addr)
    (hr : ∀ o ∈ idmaRecordRegs, t.reg o = u.reg o) : IdmaRecords s t ch cause dir kind addr := by
  obtain ⟨h1, h2, h3⟩ := h
  refine ⟨fun p hp => (hr _ ?_).trans (h1 p hp), fun hvalid off hoff => (hr _ ?_).trans (h2 hvalid off hoff), fun hvalid => ⟨?_, ?_⟩⟩
  · fin_cases hp <;> decide
  · fin_cases hoff <;> decide
  · exact (hr _ (by decide)).trans (h3 hvalid).1
  · rw [State.reg64, hr _ (by decide), hr _ (by decide)]
    exact (h3 hvalid).2

/-- The error latch: what it records, and the registers it leaves. -/
theorem State.idmaErr_records (u : State) {ch cause dir kind addr : Nat} (hch : ch < 64) (ha : addr < 2 ^ 40) :
    (u.fld R.idmaErr F.idmaErr.VALID = 1 → u.idmaErr ch cause dir kind addr = u) ∧
    (u.fld R.idmaErr F.idmaErr.VALID = 0 →
      (u.idmaErr ch cause dir kind addr).reg R.idmaErr = BitVec.ofNat 32 (1 + ch * 2 + dir * 2 ^ 7 + cause * 2 ^ 8 + kind * 2 ^ 12) ∧
      (u.idmaErr ch cause dir kind addr).reg64 R.idmaErrAddrLo R.idmaErrAddrHi = addr) := by
  refine ⟨fun hv => if_pos (State.bit_eq_true hv), fun hv => ?_⟩
  rw [State.idmaErr, if_neg (by rw [State.bit_eq_false hv]; exact Bool.false_ne_true), Nat.mod_eq_of_lt hch, Nat.mod_eq_of_lt ha]
  refine ⟨?_, State.reg64_setReg64 _ _ _ _ (by decide) (lt_trans ha (by decide))⟩
  rw [State.reg_setReg64 _ _ _ _ _ (by decide), if_neg (by decide), if_neg (by decide), State.reg_setReg_same]

/-- The counter of a cause. -/
def idmaCauseCnt : Nat → List Nat
  | 1 => [R.idmaBusCnt]
  | 2 => [R.idmaTmoCnt]
  | 3 => [R.idmaEccCnt]
  | 5 => [R.idmaLoopCnt]
  | _ => []

theorem State.idmaCount_regsOnly (u : State) (cause : Nat) : u.regsOnly (u.idmaCount cause) [R.idmaBusCnt, R.idmaTmoCnt, R.idmaEccCnt, R.idmaLoopCnt] := by
  unfold State.idmaCount
  split
  · exact (State.regsOnly.refl _ _).count (by simp)
  · exact (State.regsOnly.refl _ _).count (by simp)
  · exact (State.regsOnly.refl _ _).count (by simp)
  · exact (State.regsOnly.refl _ _).count (by simp)
  · exact .refl _ _

theorem State.idmaErr_regsOnly (u : State) (ch cause dir kind addr : Nat) :
    u.regsOnly (u.idmaErr ch cause dir kind addr) [R.idmaErr, R.idmaErrAddrLo, R.idmaErrAddrHi] := by
  unfold State.idmaErr
  split
  · exact .refl _ _
  · exact (((State.regsOnly.refl u _).setReg _ (by simp)).setReg _ (by simp)).setReg _ (by simp)

/-- The counters of the causes. -/
theorem State.reg_idmaCount (u : State) (cause : Nat) : ∀ p ∈ [(1, R.idmaBusCnt), (2, R.idmaTmoCnt), (3, R.idmaEccCnt), (5, R.idmaLoopCnt)],
    (u.idmaCount cause).reg p.2 = if cause = p.1 then satInc (u.reg p.2) else u.reg p.2 := by
  unfold State.idmaCount
  split
  case h_5 h1 h2 h3 h5 =>
    simp only [List.forall_mem_cons, if_neg h1, if_neg h2, if_neg h3, if_neg h5, true_and]
    exact fun _ h => absurd h List.not_mem_nil
  all_goals simp [State.reg_count, R.idmaBusCnt, R.idmaTmoCnt, R.idmaEccCnt, R.idmaLoopCnt]

/-- An error counted and latched is recorded. -/
theorem State.records (u : State) {ch cause dir kind addr : Nat} (hch : ch < 64) (ha : addr < 2 ^ 40) :
    IdmaRecords u ((u.idmaCount cause).idmaErr ch cause dir kind addr) ch cause dir kind addr := by
  have herr := (u.idmaCount cause).idmaErr_regsOnly ch cause dir kind addr
  have hcnt := u.idmaCount_regsOnly cause
  obtain ⟨hset, hclear⟩ := (u.idmaCount cause).idmaErr_records (cause := cause) (dir := dir) (kind := kind) hch ha
  rw [hcnt.fld (by decide)] at hset hclear
  refine ⟨fun p hp => ?_, fun hv off hoff => ?_, hclear⟩
  · rw [herr.2 p.2, State.reg_idmaCount u cause p hp]
    fin_cases hp <;> decide
  · rw [hset hv, hcnt.2 off]
    fin_cases hoff <;> decide

/-! ## A halt -/

/-- CHn_STAT shows a cause with its direction and kind. -/
def State.chCause (t : State) (n cause dir kind : Nat) : State :=
  ((t.setFld (R.chStat n) F.chStat.CAUSE cause).setFld (R.chStat n) F.chStat.DIR dir).setFld (R.chStat n) F.chStat.KIND kind

theorem State.chHalt_eq (t : State) (n cause dir kind addr : Nat) : t.chHalt n cause dir kind addr =
    ((((((t.setChan n { t.chan n with wait := none }).chEnter n Ch.halted).chCause n cause dir kind).setReg64 (R.chFaddrLo n) (R.chFaddrHi n)
      (addr % 2 ^ 40)).idmaCount cause).idmaErr n cause dir kind addr).fire (64 + n) := rfl

section
variable {s t : State} {n st : Nat} {c : Chan} {l : List Nat}

theorem State.fld_chCause (t : State) (n : Nat) {cause dir kind : Nat} (hcause : cause < 8) (hdir : dir < 2) (hkind : kind < 8) :
    (t.chCause n cause dir kind).fld (R.chStat n) F.chStat.CAUSE = cause ∧ (t.chCause n cause dir kind).fld (R.chStat n) F.chStat.DIR = dir ∧
      (t.chCause n cause dir kind).fld (R.chStat n) F.chStat.KIND = kind := by
  rw [State.chCause]
  refine ⟨?_, ?_, (State.fld_setFld _ _ _ _ (by decide)).trans (Nat.mod_eq_of_lt hkind)⟩
  · rw [State.fld_setFld_apart _ _ _ _ _ (by decide) (by decide) (by decide), State.fld_setFld_apart _ _ _ _ _ (by decide) (by decide) (by decide),
      State.fld_setFld _ _ _ _ (by decide)]
    exact Nat.mod_eq_of_lt hcause
  · rw [State.fld_setFld_apart _ _ _ _ _ (by decide) (by decide) (by decide), State.fld_setFld _ _ _ _ (by decide)]
    exact Nat.mod_eq_of_lt hdir

theorem State.chCause_regsOnly (t : State) (n cause dir kind : Nat) : t.regsOnly (t.chCause n cause dir kind) [R.chStat n] :=
  (((State.regsOnly.refl t _).setFld _ _ (List.mem_singleton_self _)).setFld _ _ (List.mem_singleton_self _)).setFld _ _ (List.mem_singleton_self _)

theorem State.ChanIn.cause (h : s.ChanIn t n c st l) (cause dir kind : Nat) : s.ChanIn (t.chCause n cause dir kind) n c st l :=
  ((h.setStatFld F.chStat.CAUSE _ (by decide) (by decide)).setStatFld F.chStat.DIR _ (by decide) (by decide)).setStatFld F.chStat.KIND _ (by decide) (by decide)

theorem State.chEnter_regsOnly (t : State) (n st : Nat) : t.regsOnly (t.chEnter n st) (chanStates n) :=
  (((State.regsOnly.refl t _).setFld _ _ (by simp [chanStates])).setFld _ _ (by simp [chanStates])).setFld _ _ (by simp [chanStates])

/-- The registers of a channel's halt lie apart. -/
theorem haltRegs_apart (n : Nat) : (∀ o ∈ [R.chFaddrLo n, R.chFaddrHi n] ++ idmaRecordRegs, o ∉ chanStates n) ∧
    (∀ o ∈ idmaRecordRegs, o ∉ [R.chFaddrLo n, R.chFaddrHi n]) ∧ R.chFaddrLo n ≠ R.chFaddrHi n := by
  simp only [R.idmaBusy, R.idmaHalted, R.chFaddrLo, R.chFaddrHi, idmaRecordRegs, chanStates, List.mem_append, List.mem_cons, List.not_mem_nil, or_false,
    R.idmaBusCnt, R.idmaTmoCnt, R.idmaEccCnt, R.idmaLoopCnt, R.idmaErr, R.idmaErrAddrLo, R.idmaErrAddrHi, R.chStat]
  refine ⟨?_, ?_, ?_⟩
  · omega
  · omega
  · omega

/-- A ring channel halts: its error is recorded with its address, and its event fires. -/
theorem State.chHalt_halts (h : s.ChanNear t n c l) (hl : l ⊆ [R.chFaddrLo n, R.chFaddrHi n] ++ idmaRecordRegs)
    (hrec : ∀ o ∈ idmaRecordRegs, o ∉ l) (hn : n < 32) {cause dir kind addr : Nat} (hcause : cause < 8) (hdir : dir < 2) (hkind : kind < 8) (ha : addr < 2 ^ 40) :
    ChanHalts s (t.chHalt n cause dir kind addr) n { c with wait := none } cause dir kind addr ∧
      (s.fire (64 + n)).ChanIn (t.chHalt n cause dir kind addr) n { c with wait := none } 7 ([R.chFaddrLo n, R.chFaddrHi n] ++ idmaRecordRegs) := by
  obtain ⟨hapart, hrecApart, hlohi⟩ := haltRegs_apart n
  have h1 : s.ChanIn ((t.setChan n { t.chan n with wait := none }).chEnter n Ch.halted) n { c with wait := none } 7
      ([R.chFaddrLo n, R.chFaddrHi n] ++ idmaRecordRegs) := by
    rw [h.only.chan]
    exact ((h.setChan _).enter hn (by decide)).mono hl
  have hregs1 : ∀ o ∈ idmaRecordRegs, ((t.setChan n { t.chan n with wait := none }).chEnter n Ch.halted).reg o = s.reg o := fun o ho =>
    ((State.chEnter_regsOnly _ n _).2 o (hapart o (List.mem_append_right _ ho))).trans (h.only.reg fun hm => (List.mem_append.mp hm).elim (hapart o (List.mem_append_right _ ho)) (hrec o ho))
  rw [State.chHalt_eq]
  generalize (t.setChan n { t.chan n with wait := none }).chEnter n Ch.halted = s1 at h1 hregs1 ⊢
  have h2 := h1.cause cause dir kind
  have hfields2 := s1.fld_chCause n hcause hdir hkind
  have hregs2 : ∀ o ∈ idmaRecordRegs, (s1.chCause n cause dir kind).reg o = s.reg o := fun o ho =>
    ((s1.chCause_regsOnly n cause dir kind).2 o fun hm => hapart o (List.mem_append_right _ ho)
      (List.mem_cons.mpr (.inl (List.mem_singleton.mp hm)))).trans (hregs1 o ho)
  generalize s1.chCause n cause dir kind = s2 at h2 hfields2 hregs2 ⊢
  have h3 := h2.setReg64 (lo := R.chFaddrLo n) (hi := R.chFaddrHi n) (addr % 2 ^ 40) (by simp) (by simp) (hapart _ (by simp)) (hapart _ (by simp))
  have hfaddr := s2.reg64_setReg64 (R.chFaddrLo n) (R.chFaddrHi n) (addr % 2 ^ 40) hlohi (by omega)
  have honly3 : s2.regsOnly (s2.setReg64 (R.chFaddrLo n) (R.chFaddrHi n) (addr % 2 ^ 40)) [R.chFaddrLo n, R.chFaddrHi n] :=
    ((State.regsOnly.refl s2 _).setReg _ (by simp)).setReg _ (by simp)
  rw [Nat.mod_eq_of_lt ha] at h3 hfaddr honly3 ⊢
  generalize s2.setReg64 (R.chFaddrLo n) (R.chFaddrHi n) addr = s3 at h3 hfaddr honly3 ⊢
  have hregs3 : ∀ o ∈ idmaRecordRegs, s3.reg o = s.reg o := fun o ho => (honly3.2 o (hrecApart o ho)).trans (hregs2 o ho)
  have hstat3 : ∀ f, s3.fld (R.chStat n) f = s2.fld (R.chStat n) f := fun f =>
    honly3.fld (fun hm => hapart _ (List.mem_append_left _ hm) (by simp [chanStates])) f
  have hrecords := IdmaRecords.of_reg (s3.records (cause := cause) (dir := dir) (kind := kind) (lt_trans hn (by decide)) ha) hregs3
  have h4 : s3.sameBut ((s3.idmaCount cause).idmaErr n cause dir kind addr) idmaRecordRegs :=
    (((s3.idmaCount_regsOnly cause).mono (by simp [idmaRecordRegs])).trans
      (((s3.idmaCount cause).idmaErr_regsOnly n cause dir kind addr).mono (by simp [idmaRecordRegs]))).sameBut
  have h5 := h3.regs h4 (List.subset_append_right _ _) (fun o ho hm => hapart o (List.mem_append_right _ hm) ho)
  have hreg4 : ∀ o ∈ R.chStat n :: [R.chFaddrLo n, R.chFaddrHi n], ((s3.idmaCount cause).idmaErr n cause dir kind addr).reg o = s3.reg o := fun o ho =>
    (h4.2 o fun hm => (List.mem_cons.mp ho).elim (fun heq => hapart o (List.mem_append_right _ hm) (by simp [chanStates, heq]))
      (hrecApart o hm)).1
  generalize (s3.idmaCount cause).idmaErr n cause dir kind addr = s4 at h5 hrecords hreg4 ⊢
  refine ⟨⟨(h5.fire _).enters, ?_, ?_, ?_, ?_, hrecords⟩, h5.fire _⟩
  · exact (State.fld_of_reg (hreg4 _ (by simp)) _).trans ((hstat3 _).trans hfields2.1)
  · exact (State.fld_of_reg (hreg4 _ (by simp)) _).trans ((hstat3 _).trans hfields2.2.1)
  · exact (State.fld_of_reg (hreg4 _ (by simp)) _).trans ((hstat3 _).trans hfields2.2.2)
  · rw [← hfaddr]
    rw [State.reg64, reg_fire, reg_fire, hreg4 _ (by simp), hreg4 _ (by simp), State.reg64]

/-- A command that halts a ring channel ends so. -/
theorem State.done_chHalt (hu : s.usual) (h : s.ChanNear t n c []) (hn : n < 32) {cause dir kind addr : Nat} (hcause : cause < 8)
    (hdir : dir < 2) (hkind : kind < 8) (ha : addr < 2 ^ 40) :
    ∃ u, State.done (t.chHalt n cause dir kind addr) = .next u ∧ ChanHalts s u n { c with wait := none } cause dir kind addr := by
  obtain ⟨hhalts, hin⟩ := State.chHalt_halts h (List.nil_subset _) (fun _ _ => List.not_mem_nil) hn hcause hdir hkind ha
  refine ⟨_, hin.done (State.usual_alike hu ⟨rfl, rfl, rfl, rfl, rfl, rfl, rfl⟩ rfl) hn ?_, hhalts⟩
  simp only [List.mem_append, List.mem_cons, List.not_mem_nil, or_false, idmaRecordRegs, R.chFaddrLo, R.chFaddrHi,
    R.idmaBusCnt, R.idmaTmoCnt, R.idmaEccCnt, R.idmaLoopCnt, R.idmaErr, R.idmaErrAddrLo, R.idmaErrAddrHi]
  omega

end

end Sys2Proof.Machine

/-!
Starts, kicks, polls, pace pulses, pause, resume, abort and errors of a ring channel (R407, R411, R412, R418-R420).
-/
namespace Sys2Proof.Machine

section
variable {s t : State} {n : Nat} {c : Chan} {l : List Nat}

theorem ownRegs_ctl (n : Nat) (hn : n < 32) : OwnRegs n [R.chCtl n] := by
  simp only [OwnRegs, chanStates, R.chCtl, R.chStat, R.idmaBusy, R.idmaHalted, List.mem_cons, List.not_mem_nil, or_false]
  omega

theorem OwnRegs.cons {o : Nat} (h : OwnRegs n l) (ho : (0x2C000 ≤ o ∧ o < 0x30000) ∧ o ∉ chanStates n) : OwnRegs n (o :: l) :=
  List.forall_mem_cons.mpr ⟨ho, h⟩

theorem ownRegs_pace (hn : n < 32) : (0x2C000 ≤ R.chPace n ∧ R.chPace n < 0x30000) ∧ R.chPace n ∉ chanStates n := by
  simp only [chanStates, R.chPace, R.chStat, R.idmaBusy, R.idmaHalted, List.mem_cons, List.not_mem_nil, or_false]
  omega

theorem ownRegs_hold (hn : n < 32) : (0x2C000 ≤ R.chHold n ∧ R.chHold n < 0x30000) ∧ R.chHold n ∉ chanStates n := by
  simp only [chanStates, R.chHold, R.chStat, R.idmaBusy, R.idmaHalted, List.mem_cons, List.not_mem_nil, or_false]
  omega

variable (h : s.ChanOnly t n c l) (hown : OwnRegs n l)
include h hown

theorem State.ChanOnly.chState_eq : t.chState n = s.chState n := h.only.fld (fun hm => (hown _ hm).2 (by simp [chanStates])) _

variable (hn : n < 32)
include hn

theorem State.ChanOnly.enterOwn {st : Nat} (hst : st < 8) : s.ChanIn (t.chEnter n st) n c st l :=
  h.enter hn hst (fun hm => (hown _ hm).2 (by simp [chanStates])) (fun hm => (hown _ hm).2 (by simp [chanStates]))

/-- A start of an idle channel (R411). -/
theorem State.chStart_starts (hst : s.chState n = 0) (hen : t.fld (R.chCtl n) F.chCtl.EN = 1) :
    s.ChanIn (t.chStart n) n { c with kicked := false, abort := false } 1 l ∧ (t.chStart n).fld (R.chStat n) F.chStat.CAUSE = 0 ∧
      (t.chStart n).fld (R.chStat n) F.chStat.JCNT = 0 := by
  have hdef : t.chStart n = ((t.setChan n { t.chan n with kicked := false, abort := false }).chEnter n Ch.fetch).setReg (R.chStat n)
      (F.chStat.JCNT.put (F.chStat.CAUSE.put ((t.chEnter n Ch.fetch).reg (R.chStat n)) 0) 0) :=
    if_pos ⟨(h.chState_eq hown).trans hst, State.bit_eq_true hen⟩
  have hreg : (t.chEnter n Ch.fetch).reg (R.chStat n) = ((t.setChan n { t.chan n with kicked := false, abort := false }).chEnter n Ch.fetch).reg (R.chStat n) :=
    State.reg_of_regs ((t.setChan n { t.chan n with kicked := false, abort := false }).chEnter n Ch.fetch) (t.chEnter n Ch.fetch) rfl _
  rw [hdef, hreg, h.chan]
  have hin := (h.setChan { c with kicked := false, abort := false }).enterOwn hown hn (st := Ch.fetch) (by decide)
  generalize (t.setChan n { c with kicked := false, abort := false }).chEnter n Ch.fetch = u at hin ⊢
  refine ⟨hin.setStat ?_, ?_, ?_⟩
  · rw [Fld.get_put_apart _ _ _ _ (by decide) (by decide) (by decide), Fld.get_put_apart _ _ _ _ (by decide) (by decide) (by decide)]
  · rw [State.fld, State.reg_setReg_same, Fld.get_put_apart _ _ _ _ (by decide) (by decide) (by decide), Fld.get_put _ _ _ (by decide)]
    rfl
  · rw [State.fld, State.reg_setReg_same, Fld.get_put _ _ _ (by decide)]
    rfl

omit hn in
/-- A start of a channel that is not idle, or not enabled, is ignored (R411). -/
theorem State.chStart_ignored (hno : ¬(s.chState n = 0 ∧ t.fld (R.chCtl n) F.chCtl.EN = 1)) :
    s.ChanOnly (t.chStart n) n c (R.chStat n :: l) ∧ (t.chStart n).chState n = s.chState n ∧
      (t.chStart n).fld (R.chStat n) F.chStat.START_IGN = 1 := by
  have hdef : t.chStart n = t.setFld (R.chStat n) F.chStat.START_IGN 1 := by
    refine if_neg fun hyes => hno ⟨(h.chState_eq hown).symm.trans hyes.1, (State.bit_iff_one rfl).mp hyes.2⟩
  rw [hdef]
  refine ⟨(h.mono (List.subset_cons_self _ _)).setFld _ _ (by simp), ?_, State.fld_setFld _ _ _ _ (by decide)⟩
  rw [State.chState, State.fld_setFld_apart _ _ _ _ _ (by decide) (by decide) (by decide)]
  exact h.chState_eq hown

/-- A kick (R407, R418). -/
theorem State.chKick_kicks :
    (s.chState n = 2 → s.ChanIn (t.chKick n) n { c with kicked := false } 1 l) ∧
    (s.chState n = 1 ∨ s.chState n = 6 ∧ c.from_ = 1 → s.ChanOnly (t.chKick n) n { c with kicked := true } l) ∧
    (s.chState n = 6 → c.from_ = 2 → s.ChanOnly (t.chKick n) n { c with from_ := 1, kicked := false } l) ∧
    (s.chState n ∉ [1, 2, 6] → s.ChanOnly (t.chKick n) n c l) ∧ (s.chState n ≠ 2 → (t.chKick n).chState n = s.chState n) := by
  have hst := h.chState_eq hown
  have hchan := h.chan
  unfold State.chKick
  simp only [hst, hchan, Ch.waitOwn, Ch.fetch, Ch.paused]
  refine ⟨fun h2 => ?_, fun h1 => ?_, fun h6 hf => ?_, fun hnone => ?_, fun h2 => ?_⟩
  · rw [if_pos h2]
    exact (h.setChan _).enterOwn hown hn (by decide)
  · rw [if_neg (show ¬s.chState n = 2 by omega), if_pos h1]
    exact h.setChan _
  · rw [if_neg (show ¬s.chState n = 2 by omega), if_neg (show ¬(s.chState n = 1 ∨ s.chState n = 6 ∧ c.from_ = 1) by omega), if_pos ⟨h6, hf⟩]
    exact h.setChan _
  · simp only [List.mem_cons, List.not_mem_nil, or_false] at hnone
    rw [if_neg (show ¬s.chState n = 2 by omega), if_neg (show ¬(s.chState n = 1 ∨ s.chState n = 6 ∧ c.from_ = 1) by omega),
      if_neg (show ¬(s.chState n = 6 ∧ c.from_ = 2) by omega)]
    exact h
  · rw [if_neg h2]
    split_ifs
    · exact hst
    · exact hst
    · exact hst

end

section
variable {s t : State} {n : Nat} {c : Chan} {l : List Nat} (h : s.ChanNear t n c l) (hn : n < 32)
include h hn

/-- A COPY or GATHER begins: the jumps are counted anew. -/
theorem State.ChanNear.begun : s.ChanIn ((t.setFld (R.chStat n) F.chStat.JCNT 0).chEnter n Ch.xfer) n c 4 l ∧
    ((t.setFld (R.chStat n) F.chStat.JCNT 0).chEnter n Ch.xfer).fld (R.chStat n) F.chStat.JCNT = 0 := by
  obtain ⟨hb, hh⟩ := chanStates_apart n
  refine ⟨State.chEnter_in (h.only.setFld _ _ (by simp [chanStates])) hn (by decide) (fun j hj hjn => ?_) (fun j hj hjn => ?_), ?_⟩
  · rw [State.reg_setFld_ne _ _ _ _ _ hb.symm, h.busy j hj hjn]
  · rw [State.reg_setFld_ne _ _ _ _ _ hh.symm, h.halted j hj hjn]
  · rw [State.chEnter, State.fld_setFld_ne _ _ _ _ _ _ hh, State.fld_setFld_ne _ _ _ _ _ _ hb,
      State.fld_setFld_apart _ _ _ _ _ (by decide) (by decide) (by decide), State.fld_setFld _ _ _ _ (by decide)]
    rfl

/-- A descriptor that is paced begins with a credit, or waits for one (R412). -/
theorem State.chBegin_paced (hpaced : c.paced = true) :
    (t.chCredit n = 0 → s.ChanIn (t.chBegin n) n c 3 l) ∧
    (0 < t.chCredit n → s.ChanIn (t.chBegin n) n c 4 (R.chPace n :: l) ∧ (t.chBegin n).fld (R.chPace n) F.chPace.CREDIT = t.chCredit n - 1 ∧
      (t.chBegin n).fld (R.chStat n) F.chStat.JCNT = 0) := by
  have hap := ownRegs_pace hn
  have hcredit : t.chCredit n < 256 := State.fld_lt _ _ _
  unfold State.chBegin
  simp only [h.only.chan, hpaced, Bool.not_true, Bool.false_eq_true, if_false]
  refine ⟨fun h0 => ?_, fun h0 => ?_⟩
  · rw [if_pos h0]
    exact h.enter hn (by decide)
  · rw [if_neg (Nat.ne_of_gt h0)]
    have hin := h.begun hn
    generalize (t.setFld (R.chStat n) F.chStat.JCNT 0).chEnter n Ch.xfer = u at hin ⊢
    refine ⟨(hin.1.mono (List.subset_cons_self _ _)).setFld _ _ (by simp) hap.2, ?_, ?_⟩
    · rw [State.fld_setFld _ _ _ _ (by decide)]
      exact Nat.mod_eq_of_lt (lt_of_le_of_lt (Nat.sub_le _ _) hcredit)
    · rw [State.fld_setFld_ne _ _ _ _ _ _ (by simp only [R.chPace, R.chStat]; omega)]
      exact hin.2

end

/-! ## Writes of CHn_CTL -/

/-- CHn_CTL with a value written. -/
def State.chCtlWritten (s : State) (path : Path) (n : Nat) (w : Word) : State := s.writeRow path (R.chCtl n) Row.chCtl w false

section
variable {s : State} {path : Path} {n : Nat} {w : Word}

theorem State.chCtlWritten_only (s : State) (path : Path) (n : Nat) (w : Word) : s.ChanOnly (s.chCtlWritten path n w) n (s.chan n) [R.chCtl n] :=
  (State.ChanOnly.refl s n _).regs (s.writeRow_sameBut _ _ _ _)

theorem State.chCtlWritten_en : (s.chCtlWritten path n w).fld (R.chCtl n) F.chCtl.EN = F.chCtl.EN.get w :=
  State.fld_writeRow_of_takes _ _ _ _ (by decide) (by decide)

theorem State.chCtlWritten_pause : (s.chCtlWritten path n w).fld (R.chCtl n) F.chCtl.PAUSE = F.chCtl.PAUSE.get w :=
  State.fld_writeRow_of_takes _ _ _ _ (by decide) (by decide)

variable (hn : n < 32)
include hn

theorem State.chCtlWritten_chState : (s.chCtlWritten path n w).chState n = s.chState n := (s.chCtlWritten_only path n w).chState_eq (ownRegs_ctl n hn)

omit hn in
theorem State.chResume_of_running {t : State} (hst : t.chState n ≠ 6) : t.chResume n = t := if_neg hst

variable (hacc : s.accessible path (R.chCtl n) = true)
include hacc

omit hn in
/-- A write that enables acts by PAUSE, START and KICK (R411, R418). -/
theorem State.chCtlWrite_enabled (hen : F.chCtl.EN.get w = 1) :
    s.chCtlWrite path n w =
      (let r := if F.chCtl.PAUSE.get w = 0 then (s.chCtlWritten path n w).chResume n else s.chCtlWritten path n w
       let u := if F.chCtl.START.get w = 1 then r.chStart n else r
       if F.chCtl.KICK.get w = 1 then u.chKick n else u) := by
  rw [State.chCtlWrite, State.onWrite_of _ _ _ _ hacc]
  simp only [hen, Nat.one_ne_zero, if_false]
  split_ifs <;> rfl

omit hn in
/-- A write that disables, and starts or not (R411, R419). -/
theorem State.chCtlWrite_disabled (hen : F.chCtl.EN.get w = 0) :
    s.chCtlWrite path n w = if F.chCtl.START.get w = 1 then ((s.chCtlWritten path n w).chDisable n).chStart n else (s.chCtlWritten path n w).chDisable n := by
  rw [State.chCtlWrite, State.onWrite_of _ _ _ _ hacc]
  simp only [hen, if_true]
  split_ifs <;> rfl

/-- A write of START (R411). -/
theorem State.chCtlWrite_start (hen : F.chCtl.EN.get w = 1) (hkick : F.chCtl.KICK.get w = 0) (hst : s.chState n ≠ 6) :
    s.chCtlWrite path n (F.chCtl.START.put w 1) = (s.chCtlWritten path n (F.chCtl.START.put w 1)).chStart n := by
  have hen' : F.chCtl.EN.get (F.chCtl.START.put w 1) = 1 := (Fld.get_put_apart _ _ _ _ (by decide) (by decide) (by decide)).trans hen
  have hkick' : F.chCtl.KICK.get (F.chCtl.START.put w 1) = 0 := (Fld.get_put_apart _ _ _ _ (by decide) (by decide) (by decide)).trans hkick
  rw [State.chCtlWrite_enabled hacc hen']
  simp only [hkick', Nat.zero_ne_one, if_false, Fld.get_put F.chCtl.START w 1 (by decide),
    State.chResume_of_running (n := n) (t := s.chCtlWritten path n (F.chCtl.START.put w 1)) (by rw [State.chCtlWritten_chState hn]; exact hst), ite_self]
  rfl

/-- A write of KICK (R407). -/
theorem State.chCtlWrite_kick (hen : F.chCtl.EN.get w = 1) (hstart : F.chCtl.START.get w = 0)
    (hst : F.chCtl.PAUSE.get w = 1 ∨ s.chState n ≠ 6) :
    s.chCtlWrite path n (F.chCtl.KICK.put w 1) = (s.chCtlWritten path n (F.chCtl.KICK.put w 1)).chKick n := by
  have hen' : F.chCtl.EN.get (F.chCtl.KICK.put w 1) = 1 := (Fld.get_put_apart _ _ _ _ (by decide) (by decide) (by decide)).trans hen
  have hstart' : F.chCtl.START.get (F.chCtl.KICK.put w 1) = 0 := (Fld.get_put_apart _ _ _ _ (by decide) (by decide) (by decide)).trans hstart
  have hpause : F.chCtl.PAUSE.get (F.chCtl.KICK.put w 1) = F.chCtl.PAUSE.get w := Fld.get_put_apart _ _ _ _ (by decide) (by decide) (by decide)
  have hr : (if F.chCtl.PAUSE.get w = 0 then (s.chCtlWritten path n (F.chCtl.KICK.put w 1)).chResume n else s.chCtlWritten path n (F.chCtl.KICK.put w 1)) =
      s.chCtlWritten path n (F.chCtl.KICK.put w 1) := by
    rcases hst with hp | hst
    · rw [hp]
      rfl
    · rw [State.chResume_of_running (by rw [State.chCtlWritten_chState hn]; exact hst), ite_self]
  rw [State.chCtlWrite_enabled hacc hen']
  simp only [hstart', Nat.zero_ne_one, if_false, Fld.get_put F.chCtl.KICK w 1 (by decide), hpause, hr]
  rfl

end

/-! ## The commands' ends -/

section
variable {s u : State} {n : Fin 32} {c : Chan} {st : Nat} {l : List Nat} {i : Instr} (hu : s.usual) (hown : OwnRegs n l) (hexec : exec i s = State.done u)
include hu hown hexec

theorem State.ChanIn.ends (h : s.ChanIn u n c st l) : exec i s = .next u ∧ ChanEnters s u n c st l :=
  ⟨hexec.trans (h.done hu n.isLt fun o ho => (hown o ho).1), h.enters⟩

theorem State.ChanOnly.ends (h : s.ChanOnly u n c l) : exec i s = .next u ∧ ChanStays s u n c l :=
  ⟨hexec.trans (h.done hu fun o ho => (hown o ho).1), h.stays (h.chState_eq hown)⟩

omit hown in
/-- A command that also changes CHn_STAT but not the state shown. -/
theorem State.ChanOnly.ends_stat (hown : OwnRegs n l) (h : s.ChanOnly u n c (R.chStat n :: l)) (hst : u.chState n = s.chState n) :
    exec i s = .next u ∧ ChanStays s u n c (R.chStat n :: l) := by
  refine ⟨hexec.trans (h.done hu (List.forall_mem_cons.mpr ⟨?_, fun o ho => (hown o ho).1⟩)), h.stays hst⟩
  simp only [R.chStat]
  omega

end

/-! ## Starts, kicks, polls and pace pulses -/

section
variable {s t : State} {n : Fin 32} {l : List Nat} {i : Instr} (hu : s.usual) (h : s.ChanOnly t n (s.chan n) l) (hown : OwnRegs n l)
include hu h hown

/-- A command that starts the channel (R411). -/
theorem exec_starts (hexec : exec i s = State.done (t.chStart n)) (hst : s.chState n = 0) (hen : t.fld (R.chCtl n) F.chCtl.EN = 1) :
    ∃ u, exec i s = .next u ∧ ChanEnters s u n { s.chan n with kicked := false, abort := false } 1 l ∧
      u.fld (R.chStat n) F.chStat.CAUSE = 0 ∧ u.fld (R.chStat n) F.chStat.JCNT = 0 := by
  obtain ⟨hin, hfields⟩ := State.chStart_starts h hown n.isLt hst hen
  obtain ⟨hnext, henters⟩ := hin.ends hu hown hexec
  exact ⟨_, hnext, henters, hfields⟩

/-- A command whose start is ignored (R411). -/
theorem exec_start_ignored (hexec : exec i s = State.done (t.chStart n)) (hno : ¬(s.chState n = 0 ∧ t.fld (R.chCtl n) F.chCtl.EN = 1)) :
    ∃ u, exec i s = .next u ∧ ChanStays s u n (s.chan n) (R.chStat n :: l) ∧ u.fld (R.chStat n) F.chStat.START_IGN = 1 := by
  obtain ⟨honly, hst, hign⟩ := State.chStart_ignored h hown hno
  obtain ⟨hnext, hstays⟩ := honly.ends_stat hu hexec hown hst
  exact ⟨_, hnext, hstays, hign⟩

/-- A command that kicks the channel (R407, R418). -/
theorem exec_kicks (hexec : exec i s = State.done (t.chKick n)) :
    (s.chState n = 2 → ∃ u, exec i s = .next u ∧ ChanEnters s u n { s.chan n with kicked := false } 1 l) ∧
    (s.chState n = 1 ∨ s.chState n = 6 ∧ (s.chan n).from_ = 1 → ∃ u, exec i s = .next u ∧ ChanStays s u n { s.chan n with kicked := true } l) ∧
    (s.chState n = 6 → (s.chan n).from_ = 2 → ∃ u, exec i s = .next u ∧ ChanStays s u n { s.chan n with from_ := 1, kicked := false } l) ∧
    (s.chState n ∉ [1, 2, 6] → ∃ u, exec i s = .next u ∧ ChanStays s u n (s.chan n) l) := by
  obtain ⟨h2, h1, h6, hnone, -⟩ := State.chKick_kicks h hown n.isLt
  exact ⟨fun hst => ⟨_, (h2 hst).ends hu hown hexec⟩, fun hst => ⟨_, (h1 hst).ends hu hown hexec⟩,
    fun hst hf => ⟨_, (h6 hst hf).ends hu hown hexec⟩, fun hst => ⟨_, (hnone hst).ends hu hown hexec⟩⟩

end

section
variable {s : State} {n : Fin 32} (hu : s.usual)
include hu

/-- A poll of a channel that waits for its descriptor (R407). -/
theorem exec_ownPoll_fetches (hst : s.chState n = 2) (hus : s.fld R.idmaPoll F.idmaPoll.US ≠ 0) (hpause : s.fld (R.chCtl n) F.chCtl.PAUSE = 0) :
    ∃ t, exec (.ownPoll n) s = .next t ∧ ChanEnters s t n (s.chan n) 1 [] :=
  ⟨_, ((State.ChanOnly.refl s n []).enterOwn (ownRegs_nil n) n.isLt (st := Ch.fetch) (by decide)).ends hu (ownRegs_nil n)
    (congrArg State.done (if_pos ⟨hst, hus, by rw [State.bit_eq_false hpause]; rfl⟩))⟩

theorem exec_ownPoll_none (h : s.chState n ≠ 2 ∨ s.fld R.idmaPoll F.idmaPoll.US = 0 ∨ s.fld (R.chCtl n) F.chCtl.PAUSE = 1) :
    exec (.ownPoll n) s = .next s := by
  refine (congrArg State.done (if_neg fun hyes => ?_)).trans (State.done_of_usual hu)
  obtain ⟨hst, hus, hpause⟩ := hyes
  rcases h with h | h | h
  · exact h hst
  · exact hus h
  · rw [State.bit_eq_true h] at hpause
    exact Bool.false_ne_true hpause

variable (hsel : s.selOn (R.chPaceSel n) = true)
include hsel

/-- A pace pulse that is not taken at once (R412). -/
theorem exec_pacePulse_kept (hst : s.chState n ≠ 3 ∨ s.fld (R.chCtl n) F.chCtl.PAUSE = 1) :
    (s.chCredit n < 255 → ∃ t, exec (.pacePulse n) s = .next t ∧ ChanStays s t n (s.chan n) [R.chPace n] ∧
      t.fld (R.chPace n) F.chPace.CREDIT = s.chCredit n + 1) ∧
    (s.chCredit n = 255 → ∃ t, exec (.pacePulse n) s = .next t ∧ ChanStays s t n (s.chan n) [R.chStat n] ∧
      t.fld (R.chStat n) F.chStat.PACE_OVF = 1) := by
  have hno : ∀ u : State, u.chState n = s.chState n → u.fld (R.chCtl n) F.chCtl.PAUSE = s.fld (R.chCtl n) F.chCtl.PAUSE →
      ¬(u.chState n = Ch.waitPace ∧ (!(u.bit (R.chCtl n) F.chCtl.PAUSE)) = true) := fun u hst' hpause' hyes => by
    rcases hst with hst | hst
    · exact hst (hst'.symm.trans hyes.1)
    · have := hyes.2
      rw [State.bit_eq_true (hpause'.trans hst)] at this
      exact Bool.false_ne_true this
  have hctl : R.chCtl n ≠ R.chPace n ∧ R.chCtl n ≠ R.chStat n ∧ R.chStat n ≠ R.chPace n := by
    simp only [R.chCtl, R.chPace, R.chStat]
    omega
  refine ⟨fun hc => ?_, fun hc => ?_⟩
  · have honly := (State.ChanOnly.refl s n [R.chPace n]).setFld F.chPace.CREDIT (s.chCredit n + 1) (List.mem_singleton_self _)
    have hown : OwnRegs n [R.chPace n] := (ownRegs_nil n).cons (ownRegs_pace n.isLt)
    have hdef : s.chPacePulse n = s.setFld (R.chPace n) F.chPace.CREDIT (s.chCredit n + 1) := by
      rw [State.chPacePulse, if_neg (Nat.ne_of_lt hc)]
      exact if_neg (hno _ (honly.chState_eq hown) (State.fld_setFld_ne _ _ _ _ _ _ hctl.1))
    obtain ⟨hnext, hstays⟩ := honly.ends hu hown (i := .pacePulse n) (congrArg State.done ((if_pos hsel).trans hdef))
    exact ⟨_, hnext, hstays, (State.fld_setFld _ _ _ _ (by decide)).trans (Nat.mod_eq_of_lt (show s.chCredit n + 1 < 256 by omega))⟩
  · have honly := (State.ChanOnly.refl s n [R.chStat n]).setFld F.chStat.PACE_OVF 1 (List.mem_singleton_self _)
    have hst' : (s.setFld (R.chStat n) F.chStat.PACE_OVF 1).chState n = s.chState n :=
      State.fld_setFld_apart _ _ _ _ _ (by decide) (by decide) (by decide)
    have hdef : s.chPacePulse n = s.setFld (R.chStat n) F.chStat.PACE_OVF 1 := by
      rw [State.chPacePulse, if_pos hc]
      exact if_neg (hno _ hst' (State.fld_setFld_ne _ _ _ _ _ _ hctl.2.1))
    obtain ⟨hnext, hstays⟩ := honly.ends_stat hu (i := .pacePulse n) (congrArg State.done ((if_pos hsel).trans hdef)) (ownRegs_nil n) hst'
    exact ⟨_, hnext, hstays, State.fld_setFld _ _ _ _ (by decide)⟩

/-- A pace pulse that a waiting channel takes at once (R412). -/
theorem exec_pacePulse_taken (hst : s.chState n = 3) (hpause : s.fld (R.chCtl n) F.chCtl.PAUSE = 0) (hc : s.chCredit n < 255)
    (hpaced : (s.chan n).paced = true) : ∃ t, exec (.pacePulse n) s = .next t ∧ ChanEnters s t n (s.chan n) 4 [R.chPace n] ∧
      t.fld (R.chPace n) F.chPace.CREDIT = s.chCredit n := by
  have honly := (State.ChanOnly.refl s n [R.chPace n]).setFld F.chPace.CREDIT (s.chCredit n + 1) (List.mem_singleton_self _)
  have hown : OwnRegs n [R.chPace n] := (ownRegs_nil n).cons (ownRegs_pace n.isLt)
  have hcredit : (s.setFld (R.chPace n) F.chPace.CREDIT (s.chCredit n + 1)).chCredit n = s.chCredit n + 1 :=
    (State.fld_setFld _ _ _ _ (by decide)).trans (Nat.mod_eq_of_lt (show s.chCredit n + 1 < 256 by omega))
  obtain ⟨hin, hleft, -⟩ := (State.chBegin_paced (honly.near hown) n.isLt hpaced).2 (by rw [hcredit]; omega)
  have hdef : s.chPacePulse n = (s.setFld (R.chPace n) F.chPace.CREDIT (s.chCredit n + 1)).chBegin n := by
    rw [State.chPacePulse, if_neg (Nat.ne_of_lt hc)]
    refine if_pos ⟨(honly.chState_eq hown).trans hst, ?_⟩
    rw [State.bit_eq_false ((State.fld_setFld_ne _ _ _ _ _ _ (by simp only [R.chCtl, R.chPace]; omega)).trans hpause)]
    rfl
  obtain ⟨hnext, henters⟩ := (hin.mono (m := [R.chPace n]) (by simp)).ends hu hown (i := .pacePulse n) (congrArg State.done ((if_pos hsel).trans hdef))
  exact ⟨_, hnext, henters, hleft.trans (by rw [hcredit]; rfl)⟩

end

/-! ## Pause and resume -/

section
variable {s : State} {n : Fin 32} {path : Path} {w : Word} (hu : s.usual)
include hu

section
variable (hacc : s.accessible path (R.chCtl n) = true) (hen : F.chCtl.EN.get w = 1) (hstart : F.chCtl.START.get w = 0)
  (hkick : F.chCtl.KICK.get w = 0)
include hacc hen hstart hkick

omit hu in
/-- A write of PAUSE alone resumes the channel, or leaves it to pause (R418). -/
theorem State.chCtlWrite_pause (x : Nat) (hx : x < 2) : s.chCtlWrite path n (F.chCtl.PAUSE.put w x) =
    if x = 0 then (s.chCtlWritten path n (F.chCtl.PAUSE.put w x)).chResume n else s.chCtlWritten path n (F.chCtl.PAUSE.put w x) := by
  have hget : F.chCtl.PAUSE.get (F.chCtl.PAUSE.put w x) = x := (Fld.get_put _ _ _ (by decide)).trans (Nat.mod_eq_of_lt hx)
  rw [State.chCtlWrite_enabled hacc ((Fld.get_put_apart _ _ _ _ (by decide) (by decide) (by decide)).trans hen)]
  simp only [hget, (Fld.get_put_apart F.chCtl.PAUSE F.chCtl.START w x (by decide) (by decide) (by decide)).trans hstart,
    (Fld.get_put_apart F.chCtl.PAUSE F.chCtl.KICK w x (by decide) (by decide) (by decide)).trans hkick, Nat.zero_ne_one, if_false]

/-- A write of PAUSE = 1 (R418). -/
theorem exec_channelPause_ok : ∃ t, exec (.channelPause path n w) s = .next t ∧ ChanStays s t n (s.chan n) [R.chCtl n] ∧
    t.fld (R.chCtl n) F.chCtl.EN = 1 ∧ t.fld (R.chCtl n) F.chCtl.PAUSE = 1 := by
  obtain ⟨hnext, hstays⟩ := (s.chCtlWritten_only path n (F.chCtl.PAUSE.put w 1)).ends hu (ownRegs_ctl n n.isLt) (i := .channelPause path n w)
    (congrArg State.done (State.chCtlWrite_pause hacc hen hstart hkick 1 (by decide)))
  exact ⟨_, hnext, hstays, State.chCtlWritten_en.trans ((Fld.get_put_apart _ _ _ _ (by decide) (by decide) (by decide)).trans hen),
    State.chCtlWritten_pause.trans (Fld.get_put _ _ _ (by decide))⟩

omit hu in
theorem exec_channelResume_eq : exec (.channelResume path n w) s = State.done ((s.chCtlWritten path n (F.chCtl.PAUSE.put w 0)).chResume n) :=
  congrArg State.done (State.chCtlWrite_pause hacc hen hstart hkick 0 (by decide))

omit hu hen hstart hkick hacc in
theorem State.chCtlWritten_paused (path : Path) (w : Word) :
    (s.chCtlWritten path n (F.chCtl.PAUSE.put w 0)).fld (R.chCtl n) F.chCtl.PAUSE = 0 :=
  State.chCtlWritten_pause.trans (Fld.get_put _ _ _ (by decide))

/-- A write of PAUSE = 0 to a channel that is not paused (R418). -/
theorem exec_channelResume_running (hst : s.chState n ≠ 6) : ∃ t, exec (.channelResume path n w) s = .next t ∧
    ChanStays s t n (s.chan n) [R.chCtl n] ∧ t.fld (R.chCtl n) F.chCtl.PAUSE = 0 := by
  have hexec := exec_channelResume_eq hacc hen hstart hkick
  rw [State.chResume_of_running (by rw [State.chCtlWritten_chState n.isLt]; exact hst)] at hexec
  obtain ⟨hnext, hstays⟩ := (s.chCtlWritten_only path n (F.chCtl.PAUSE.put w 0)).ends hu (ownRegs_ctl n n.isLt) hexec
  exact ⟨_, hnext, hstays, State.chCtlWritten_paused path w⟩

omit hu hen hstart hkick hacc in
/-- A paused channel goes back to the state it was paused in (R418). -/
theorem State.chResume_of_paused {t : State} {l : List Nat} (h : s.ChanOnly t n (s.chan n) l) (hown : OwnRegs n l) (hst : s.chState n = 6) :
    t.chResume n = if (s.chan n).from_ = 3 then (t.chEnter n (s.chan n).from_).chBegin n else t.chEnter n (s.chan n).from_ := by
  refine (if_pos ((h.chState_eq hown).trans hst)).trans ?_
  rw [h.chan]
  rfl

/-- A write of PAUSE = 0 to a paused channel (R418). -/
theorem exec_channelResume_paused (hst : s.chState n = 6) (hf : (s.chan n).from_ ∈ [1, 2, 4]) :
    ∃ t, exec (.channelResume path n w) s = .next t ∧ ChanEnters s t n (s.chan n) (s.chan n).from_ [R.chCtl n] ∧ t.fld (R.chCtl n) F.chCtl.PAUSE = 0 := by
  have honly := s.chCtlWritten_only path n (F.chCtl.PAUSE.put w 0)
  have hexec := exec_channelResume_eq hacc hen hstart hkick
  simp only [List.mem_cons, List.not_mem_nil, or_false] at hf
  rw [State.chResume_of_paused honly (ownRegs_ctl n n.isLt) hst, if_neg (show ¬(s.chan n).from_ = 3 by omega)] at hexec
  obtain ⟨hnext, henters⟩ := (honly.enterOwn (ownRegs_ctl n n.isLt) n.isLt (st := (s.chan n).from_) (by omega)).ends hu (ownRegs_ctl n n.isLt) hexec
  exact ⟨_, hnext, henters, ((State.chEnter_regsOnly _ n _).fld (fun hm => (ownRegs_ctl n n.isLt _ (List.mem_singleton_self _)).2 hm) _).trans
    (State.chCtlWritten_paused path w)⟩

/-- A write of PAUSE = 0 to a channel that was paused while it waited for a pace pulse: it takes a credit that came meanwhile (R418). -/
theorem exec_channelResume_paced (hst : s.chState n = 6) (hf : (s.chan n).from_ = 3) (hpaced : (s.chan n).paced = true) :
    (s.chCredit n = 0 → ∃ t, exec (.channelResume path n w) s = .next t ∧ ChanEnters s t n (s.chan n) 3 [R.chCtl n]) ∧
    (0 < s.chCredit n → ∃ t, exec (.channelResume path n w) s = .next t ∧ ChanEnters s t n (s.chan n) 4 [R.chPace n, R.chCtl n] ∧
      t.fld (R.chPace n) F.chPace.CREDIT = s.chCredit n - 1 ∧ t.fld (R.chStat n) F.chStat.JCNT = 0) := by
  have hctl := ownRegs_ctl n n.isLt
  have hpace := ownRegs_pace n.isLt
  have honly := s.chCtlWritten_only path n (F.chCtl.PAUSE.put w 0)
  have hexec := exec_channelResume_eq hacc hen hstart hkick
  rw [State.chResume_of_paused honly hctl hst, if_pos hf, hf] at hexec
  have hnear := (honly.enterOwn hctl n.isLt (st := 3) (by decide)).near
  have hcredit : ((s.chCtlWritten path n (F.chCtl.PAUSE.put w 0)).chEnter n 3).chCredit n = s.chCredit n :=
    ((State.chEnter_regsOnly _ n _).fld hpace.2 _).trans (honly.only.fld (by simp only [List.mem_singleton, R.chPace, R.chCtl]; omega) _)
  obtain ⟨hnone, hsome⟩ := State.chBegin_paced hnear n.isLt hpaced
  rw [hcredit] at hnone hsome
  refine ⟨fun h0 => ⟨_, (hnone h0).ends hu hctl hexec⟩, fun h0 => ?_⟩
  obtain ⟨hin, hfields⟩ := hsome h0
  obtain ⟨hnext, henters⟩ := hin.ends hu (hctl.cons hpace) hexec
  exact ⟨_, hnext, henters, hfields⟩

end

omit hu in
theorem ownRegs_position (n : Fin 32) : OwnRegs n (chanPosition n) := by
  refine fun o ho => ⟨?_, chanPosition_apart n o ho⟩
  simp only [chanPosition, List.mem_cons, List.not_mem_nil, or_false, R.chSrcLo, R.chSrcHi, R.chDstLo, R.chDstHi, R.chRem, R.chHold] at ho
  omega

omit hu in
theorem State.chCanPause_iff (s : State) (n : Nat) : s.chCanPause n = true ↔
    s.fld (R.chCtl n) F.chCtl.PAUSE = 1 ∧ s.chState n ∈ [1, 2, 3, 4] ∧ (s.chan n).wait = none ∧
      ¬(s.chState n = 4 ∧ (s.chan n).type = 1 ∧ ((s.chan n).idx ≠ none ∨ (s.chan n).hold ≠ [])) := by
  have hpause := State.bit_iff_one (s := s) (o := R.chCtl n) (f := F.chCtl.PAUSE) rfl
  have hidx : (s.chan n).idx.isSome = true ↔ (s.chan n).idx ≠ none := Option.isSome_iff_ne_none
  have hhold : (!(s.chan n).hold.isEmpty) = true ↔ (s.chan n).hold ≠ [] := by rw [Bool.not_eq_true', List.isEmpty_eq_false_iff]
  have hopen : (!(s.chState n == Ch.xfer && (s.chan n).type == 1 && ((s.chan n).idx.isSome || !(s.chan n).hold.isEmpty))) = true ↔
      ¬(s.chState n = 4 ∧ (s.chan n).type = 1 ∧ ((s.chan n).idx ≠ none ∨ (s.chan n).hold ≠ [])) := by
    rw [Bool.not_eq_true', ← Bool.not_eq_true, Bool.and_eq_true, Bool.and_eq_true, Bool.or_eq_true, beq_iff_eq, beq_iff_eq, hidx, hhold, and_assoc]
    rfl
  have hstate : (s.chState n == Ch.fetch || s.chState n == Ch.waitOwn || s.chState n == Ch.waitPace || s.chState n == Ch.xfer) = true ↔
      s.chState n ∈ [1, 2, 3, 4] := by
    simp [Ch.fetch, Ch.waitOwn, Ch.waitPace, Ch.xfer, or_assoc]
  rw [State.chCanPause, Bool.and_eq_true, Bool.and_eq_true, Bool.and_eq_true, hpause, hstate, Option.isNone_iff_eq_none, hopen, and_assoc, and_assoc]

/-- A channel that is to pause and may (R418). -/
theorem exec_channelPaused_enters (hmay : s.chCanPause n = true) : ∃ t, exec (.channelPaused n) s = .next t ∧
    ChanEnters s t n { s.chan n with from_ := s.chState n } 6 (chanPosition n) ∧ ShowsPosition t n (s.chan n) := by
  have hown := ownRegs_position n
  have hin : s.ChanIn ((s.setChan n { s.chan n with from_ := s.chState n }).chEnter n Ch.paused) n { s.chan n with from_ := s.chState n } 6
      (chanPosition n) :=
    ((State.ChanOnly.refl s n (chanPosition n)).setChan _).enterOwn hown n.isLt (by decide)
  obtain ⟨hnext, henters⟩ := (hin.show (List.Subset.refl _)).ends hu hown (i := .channelPaused n) (congrArg State.done (if_pos hmay))
  exact ⟨_, hnext, henters, ShowsPosition.congr (c := { s.chan n with from_ := s.chState n }) hin.only.shown rfl rfl rfl rfl⟩

theorem exec_channelPaused_none (hmay : s.chCanPause n = false) : exec (.channelPaused n) s = .next s :=
  (congrArg State.done (if_neg (by rw [hmay]; exact Bool.false_ne_true))).trans (State.done_of_usual hu)

end

/-! ## Abort and errors -/

section
variable {s t : State} {n : Fin 32} {c : Chan} {l : List Nat}

/-- A channel that has been aborted (R419). -/
theorem State.chAborted_gone (h : s.ChanOnly t n c l) (hown : OwnRegs n l) :
    s.ChanIn (t.chAborted n) n { c with hold := [], wait := none, abort := false, kicked := false } 0 (R.chHold n :: l) ∧
      (t.chAborted n).fld (R.chStat n) F.chStat.CAUSE = 6 ∧ (t.chAborted n).fld (R.chHold n) F.chHold.BYTES = 0 := by
  have hap := ownRegs_hold n.isLt
  have hdef : t.chAborted n = (((t.setChan n { t.chan n with hold := [], wait := none, abort := false, kicked := false }).chEnter n Ch.idle).setFld
      (R.chStat n) F.chStat.CAUSE 6).setFld (R.chHold n) F.chHold.BYTES 0 := rfl
  rw [hdef, h.chan]
  have hin := (h.setChan { c with hold := [], wait := none, abort := false, kicked := false }).enterOwn hown n.isLt (st := Ch.idle) (by decide)
  generalize (t.setChan n { c with hold := [], wait := none, abort := false, kicked := false }).chEnter n Ch.idle = u at hin ⊢
  refine ⟨((hin.mono (List.subset_cons_self _ _)).setStatFld _ _ (by decide) (by decide)).setFld _ _ (by simp) hap.2, ?_, ?_⟩
  · rw [State.fld_setFld_ne _ _ _ _ _ _ (by simp only [R.chStat, R.chHold]; omega), State.fld_setFld _ _ _ _ (by decide)]
    rfl
  · rw [State.fld_setFld _ _ _ _ (by decide)]
    rfl

theorem exec_gone {i : Instr} (hu : s.usual) (h : s.ChanOnly t n c l) (hown : OwnRegs n l) (hexec : exec i s = State.done (t.chAborted n)) :
    ∃ u, exec i s = .next u ∧ ChanEnters s u n { c with hold := [], wait := none, abort := false, kicked := false } 0 (R.chHold n :: l) ∧
      u.fld (R.chStat n) F.chStat.CAUSE = 6 ∧ u.fld (R.chHold n) F.chHold.BYTES = 0 := by
  obtain ⟨hin, hfields⟩ := State.chAborted_gone h hown
  obtain ⟨hnext, henters⟩ := hin.ends hu (hown.cons (ownRegs_hold n.isLt)) hexec
  exact ⟨_, hnext, henters, hfields⟩

section
variable (hu : s.usual) {path : Path} {w : Word} (hacc : s.accessible path (R.chCtl n) = true) (hstart : F.chCtl.START.get w = 0)
include hacc hstart

theorem exec_channelAbort_eq : exec (.channelAbort path n w) s = State.done ((s.chCtlWritten path n (F.chCtl.EN.put w 0)).chDisable n) := by
  refine congrArg State.done ((State.chCtlWrite_disabled hacc (Fld.get_put _ _ _ (by decide))).trans (if_neg ?_))
  rw [Fld.get_put_apart _ _ _ _ (by decide) (by decide) (by decide), hstart]
  exact Nat.zero_ne_one

include hu

/-- A write of EN = 0 (R419). -/
theorem exec_channelAbort_ends :
    (s.chState n = 0 → ∃ t, exec (.channelAbort path n w) s = .next t ∧ ChanStays s t n (s.chan n) [R.chCtl n]) ∧
    (s.chState n = 7 → ∃ t, exec (.channelAbort path n w) s = .next t ∧ ChanEnters s t n (s.chan n) 0 [R.chCtl n]) ∧
    (s.chState n ≠ 0 → s.chState n ≠ 7 → (s.chan n).wait = none → ∃ t, exec (.channelAbort path n w) s = .next t ∧
      ChanEnters s t n { s.chan n with hold := [], wait := none, abort := false, kicked := false } 0 [R.chHold n, R.chCtl n] ∧
      t.fld (R.chStat n) F.chStat.CAUSE = 6 ∧ t.fld (R.chHold n) F.chHold.BYTES = 0) ∧
    (s.chState n ≠ 0 → s.chState n ≠ 7 → (s.chan n).wait ≠ none → ∃ t, exec (.channelAbort path n w) s = .next t ∧
      ChanStays s t n { s.chan n with abort := true } [R.chCtl n]) := by
  have hown := ownRegs_ctl n n.isLt
  have honly := s.chCtlWritten_only path n (F.chCtl.EN.put w 0)
  have hexec := exec_channelAbort_eq hacc hstart
  unfold State.chDisable at hexec
  simp only [honly.chState_eq hown, honly.chan, Ch.idle, Ch.halted] at hexec
  refine ⟨fun h0 => ?_, fun h7 => ?_, fun h0 h7 hw => ?_, fun h0 h7 hw => ?_⟩
  · rw [if_pos h0] at hexec
    exact ⟨_, honly.ends hu hown hexec⟩
  · rw [if_neg (by omega), if_pos h7] at hexec
    exact ⟨_, (honly.enterOwn hown n.isLt (st := 0) (by decide)).ends hu hown hexec⟩
  · rw [if_neg h0, if_neg h7, if_neg (by rw [hw]; exact Bool.false_ne_true)] at hexec
    exact exec_gone hu honly hown hexec
  · rw [if_neg h0, if_neg h7, if_pos (Option.isSome_iff_ne_none.mpr hw)] at hexec
    exact ⟨_, (honly.setChan _).ends hu hown hexec⟩

end

/-- An instruction that reports the failure of a channel's access, with its cause. -/
theorem exec_idmaFail (ch : Fin 40) (hch : ch.val = n.val) : ∀ p ∈ [(Instr.idmaBusTimeout ch, 2), (.idmaBusError ch, 1)],
    exec p.1 s = State.done (s.chFail n p.2) ∧ p.2 < 8 := by
  have hfail : ∀ cause, s.idmaFail ch cause = s.chFail n cause := fun cause => by
    rw [State.idmaFail, dif_pos (show ch.val < 32 by omega)]
    congr 1
    exact Fin.ext hch
  simp only [List.forall_mem_cons]
  exact ⟨⟨congrArg State.done (hfail 2), by decide⟩, ⟨congrArg State.done (hfail 1), by decide⟩, fun _ h => absurd h List.not_mem_nil⟩

theorem State.chWaiting_lt (s : State) (n kind : Nat) : (s.chWaiting n kind).1 < 2 ∧ (s.chWaiting n kind).2 < 2 ^ 40 := by
  unfold State.chWaiting
  split
  · exact ⟨Nat.lt_of_sub_eq_succ rfl, State.chDesc_lt _ _⟩
  · exact ⟨Nat.lt_of_sub_eq_succ rfl, Nat.mod_lt _ (by decide)⟩
  · exact ⟨Nat.lt_of_sub_eq_succ rfl, Chan.srcNow_lt _⟩
  · exact ⟨Nat.lt_of_sub_eq_succ rfl, Chan.dstNow_lt _⟩
  · exact ⟨Nat.lt_of_sub_eq_succ rfl, State.chDesc_lt _ _⟩

section
variable (hu : s.usual) {i : Instr} {cause : Nat} (hexec : exec i s = State.done (s.chFail n cause))
include hu hexec

/-- No access is outstanding: nothing fails. -/
theorem exec_chFail_none (hw : (s.chan n).wait = none) : exec i s = .next s := by
  rw [State.chFail, hw] at hexec
  exact hexec.trans (State.done_of_usual hu)

/-- The access of an aborted channel fails: the channel is gone (R419). -/
theorem exec_chFail_aborted {kind : Nat} (hw : (s.chan n).wait = some kind) (hab : (s.chan n).abort = true) :
    ∃ u, exec i s = .next u ∧ ChanEnters (s.remoteDrop (.ring n)) u n { s.chan n with hold := [], wait := none, abort := false, kicked := false } 0 [R.chHold n] ∧
      u.fld (R.chStat n) F.chStat.CAUSE = 6 ∧ u.fld (R.chHold n) F.chHold.BYTES = 0 := by
  rw [State.chFail, hw] at hexec
  replace hexec := hexec.trans (congrArg State.done (if_pos hab))
  have hlost : (s.remoteDrop (.ring n)).usual := State.usual_alike hu ⟨rfl, rfl, rfl, rfl, rfl, rfl, rfl⟩ rfl
  obtain ⟨hin, hfields⟩ := State.chAborted_gone (State.ChanOnly.refl (s.remoteDrop (.ring n)) n []) (ownRegs_nil n)
  have hdone := hin.done hlost n.isLt fun o ho => (((ownRegs_nil n).cons (ownRegs_hold n.isLt)) o ho).1
  exact ⟨_, hexec.trans hdone, hin.enters, hfields⟩

/-- The access of a channel fails: the channel halts (R420). -/
theorem exec_chFail_halts {kind : Nat} (hw : (s.chan n).wait = some kind) (hab : (s.chan n).abort = false) (hcause : cause < 8) (hkind : kind < 8) :
    ∃ u, exec i s = .next u ∧ ChanHalts (s.remoteDrop (.ring n)) u n { s.chan n with wait := none } cause (s.chWaiting n kind).1 kind (s.chWaiting n kind).2 := by
  rw [State.chFail, hw] at hexec
  replace hexec := hexec.trans (congrArg State.done (if_neg (by rw [hab]; exact Bool.false_ne_true)))
  have hlost : (s.remoteDrop (.ring n)).usual := State.usual_alike hu ⟨rfl, rfl, rfl, rfl, rfl, rfl, rfl⟩ rfl
  have hwaiting : (s.remoteDrop (.ring n)).chWaiting n kind = s.chWaiting n kind := rfl
  have hlt := s.chWaiting_lt n kind
  obtain ⟨u, hdone, hhalts⟩ := State.done_chHalt hlost ((State.ChanOnly.refl (s.remoteDrop (.ring n)) n []).near (ownRegs_nil n)) n.isLt hcause hlt.1 hkind hlt.2
  exact ⟨u, (hexec.trans (by rw [hwaiting])).trans hdone, hhalts⟩

end

end

/-- Settles O53. -/
theorem ringChannelsAreCommanded : Obligations.RingChannelsAreCommanded := by
  intro s n path w hu st c ctl en pause access' enters stays starts ignored kicked credit begins
  have hown0 := ownRegs_nil n
  have hctl := ownRegs_ctl n n.isLt
  have hrefl := State.ChanOnly.refl s n []
  have hput : ∀ f ∈ [F.chCtl.START, F.chCtl.KICK], ∀ x, F.chCtl.EN.get (f.put w x) = F.chCtl.EN.get w := fun f hf x => by
    fin_cases hf <;> exact Fld.get_put_apart _ _ _ _ (by decide) (by decide) (by decide)
  refine ⟨fun hsel => ?_, fun hsel => ⟨fun hyes => ?_, fun hno => ?_⟩, fun hacc hen hkick => ⟨fun h0 => ?_, fun h0 h6 => ?_⟩, fun hacc hen h0 => ?_,
    fun hsel => ?_, fun hsel => ?_, fun hacc hen hstart hst => ?_, fun h2 hus hp => ?_, fun hno => ?_, fun hsel => ?_,
    fun hsel => ⟨?_, ?_, ?_⟩, fun hacc hen hstart hkick => ⟨?_, ?_, ?_, ?_⟩, ⟨fun hmay => ?_, fun hno => ?_⟩, ⟨fun hacc hstart => ?_, fun ch hch => ⟨?_, ?_⟩⟩⟩
  · exact (congrArg State.done (if_neg (by rw [hsel]; exact Bool.false_ne_true))).trans (State.done_of_usual hu)
  · exact exec_starts hu hrefl hown0 (congrArg State.done (if_pos hsel)) hyes.1 hyes.2
  · exact exec_start_ignored hu hrefl hown0 (congrArg State.done (if_pos hsel)) hno
  · exact exec_starts hu (s.chCtlWritten_only path n _) hctl (congrArg State.done (State.chCtlWrite_start n.isLt hacc hen hkick (by omega))) h0
      (State.chCtlWritten_en.trans ((hput _ (by simp) _).trans hen))
  · exact exec_start_ignored hu (s.chCtlWritten_only path n _) hctl (congrArg State.done (State.chCtlWrite_start n.isLt hacc hen hkick h6))
      fun hyes => h0 hyes.1
  · refine exec_start_ignored hu (s.chCtlWritten_only path n (F.chCtl.START.put w 1)) hctl (congrArg State.done
      ((State.chCtlWrite_disabled hacc ((hput _ (by simp) _).trans hen)).trans ((if_pos (Fld.get_put _ _ _ (by decide))).trans (congrArg (State.chStart · n)
        (if_pos ((State.chCtlWritten_chState n.isLt).trans h0)))))) fun hyes => ?_
    have hen' := hyes.2.symm.trans (State.chCtlWritten_en.trans ((hput _ (by simp) _).trans hen))
    exact absurd hen' Nat.one_ne_zero
  · exact (congrArg State.done (if_neg (by rw [hsel]; exact Bool.false_ne_true))).trans (State.done_of_usual hu)
  · exact exec_kicks hu hrefl hown0 (congrArg State.done (if_pos hsel))
  · exact exec_kicks hu (s.chCtlWritten_only path n _) hctl (congrArg State.done (State.chCtlWrite_kick n.isLt hacc hen hstart hst))
  · exact exec_ownPoll_fetches hu h2 hus hp
  · exact exec_ownPoll_none hu hno
  · exact (congrArg State.done (if_neg (by rw [hsel]; exact Bool.false_ne_true))).trans (State.done_of_usual hu)
  · exact fun hst hc => (exec_pacePulse_kept hu hsel hst).1 hc
  · exact fun hst hc => (exec_pacePulse_kept hu hsel hst).2 hc
  · exact fun hst hp hc hpaced => exec_pacePulse_taken hu hsel hst hp hc hpaced
  · exact exec_channelPause_ok hu hacc hen hstart hkick
  · exact exec_channelResume_running hu hacc hen hstart hkick
  · exact exec_channelResume_paused hu hacc hen hstart hkick
  · intro hst hf
    exact ⟨fun hpaced => (exec_channelResume_paced hu hacc hen hstart hkick hst hf hpaced).1,
      fun hpaced => (exec_channelResume_paced hu hacc hen hstart hkick hst hf hpaced).2⟩
  · exact exec_channelPaused_enters hu ((s.chCanPause_iff n).mpr hmay)
  · exact exec_channelPaused_none hu (Bool.eq_false_iff.mpr fun hyes => hno ((s.chCanPause_iff n).mp hyes))
  · exact exec_channelAbort_ends hu hacc hstart
  · intro hw
    have hf := exec_idmaFail (s := s) ch hch
    exact ⟨exec_chFail_none hu (hf (Instr.idmaBusTimeout ch, 2) (by simp)).1 hw, exec_chFail_none hu (hf (Instr.idmaBusError ch, 1) (by simp)).1 hw⟩
  · intro p hp
    obtain ⟨hexec, hlt⟩ := exec_idmaFail (s := s) ch hch p hp
    refine ⟨fun hw hab => ?_, fun k hk hw hab => ?_⟩
    · obtain ⟨kind, hkind⟩ := Option.ne_none_iff_exists'.mp hw
      exact exec_chFail_aborted hu hexec hkind hab
    · have hk' : k.1 < 8 ∧ s.chWaiting n k.1 = (k.2.1, k.2.2) := by fin_cases hk <;> exact ⟨Nat.lt_of_sub_eq_succ rfl, rfl⟩
      have hhalts := exec_chFail_halts hu hexec hw hab hlt hk'.1
      rw [hk'.2] at hhalts
      exact hhalts

end Sys2Proof.Machine

/-!
Accesses of the internal bus to memory that holds no error, and what a poisoned word answers (R28, R34, R35).
-/
namespace Sys2Proof.Machine

/-- Bytes without poison. -/
def unpoisoned (l : List Byte) : List (Byte × Bool) := l.map (fun b => (b, false))

theorem unpoisoned_any (l : List Byte) : (unpoisoned l).any (fun b => b.2) = false := by
  rw [List.any_eq_false]
  intro x hx
  obtain ⟨b, -, rfl⟩ := List.mem_map.mp hx
  exact Bool.false_ne_true

theorem unpoisoned_fst (l : List Byte) : (unpoisoned l).map (fun b => b.1) = l := by
  rw [unpoisoned, List.map_map]
  exact List.map_id _

section
variable {s : State} {path : Path} {a n m : Nat}

theorem State.busRead_remote {node off : Nat} (h : s.target a n = .remote node off) : s.busRead path a n = .remote node off := by
  rw [State.busRead, h]

theorem State.busRead_none (h : s.target a n = .none) : s.busRead path a n = .error := by rw [State.busRead, h]

theorem State.busWrite_remote {data : List (Byte × Bool)} {node off : Nat} (h : s.target a data.length = .remote node off) :
    s.busWrite path a data = .remote node off := by
  rw [State.busWrite, List.length_map, h]

theorem State.busWrite_none {data : List (Byte × Bool)} (h : s.target a data.length = .none) : s.busWrite path a data = .error := by
  rw [State.busWrite, List.length_map, h]

section
variable (herr : s.sys.bitErrs = []) (hpoison : s.sys.poison = [])
include herr hpoison

/-- A read of memory without errors. -/
theorem State.busRead_memory (h : s.target a n = .memory m) : s.busRead path a n = .done s (unpoisoned (s.bytes m n)) := by
  rw [State.busRead, h]
  dsimp only
  rw [State.memRead_of_clean herr hpoison, unpoisoned, State.bytes, List.map_map]
  refine congrArg _ (List.map_congr_left fun i _ => Prod.ext rfl ?_)
  rw [State.poisoned, hpoison]
  rfl

/-- A write of bytes without poison to memory without errors. -/
theorem State.busWrite_memory {data : List Byte} (h : s.target a data.length = .memory m) :
    s.busWrite path a (unpoisoned data) = .done (s.setBytes m data) [] := by
  rw [State.busWrite, unpoisoned_fst, h]
  dsimp only
  rw [unpoisoned_any, State.memWrite_of_clean herr hpoison]
  rfl

end

/-- Where an address leads depends on the node's number and the power domains alone. -/
theorem State.target_congr {t : State} (h : ∀ o, o < 0x2C000 ∨ 0x2D000 ≤ o → t.reg o = s.reg o) (a n : Nat) : t.target a n = s.target a n := by
  have hnode : t.nodeId = s.nodeId := State.fld_of_reg (h _ (by decide)) _
  have hok : ∀ x, t.memOk x = s.memOk x := fun x => by
    have hpd : ∀ d, d ≤ 130 → t.pdOn d = s.pdOn d := fun d hd => by
      rw [State.pdOn, h, State.pdOn]
      simp only [R.sysPdStat]
      omega
    rw [State.memOk, State.memOk]
    have hdom : ∀ d, domainOf x = some d → d ≤ 130 := fun d hd => by
      unfold domainOf at hd
      split_ifs at hd <;> injection hd <;> omega
    cases hx : domainOf x with
    | none => rfl
    | some d => simp only [hpd d (hdom d hx)]
  simp only [State.target, hnode, hok]

end

/-! ## A poisoned word -/

/-- The frame of memory's poison. -/
def Frame.poison : Frame :=
  ⟨fun s t => { s with regs := t.regs, sys := { s.sys with poison := t.sys.poison } }, fun _ => rfl, fun _ _ _ => rfl, fun _ _ _ => rfl,
    fun _ _ _ => rfl, fun _ _ => ⟨rfl, rfl, rfl, rfl, rfl, rfl, rfl⟩⟩

/-- The registers that show an uncorrectable word. -/
def eccShown : List Nat := [R.sysEccStat, R.sysEccAddrLo, R.sysEccAddrHi]

section
variable {s : State} (herr : s.sys.bitErrs = [])

theorem State.latchUe_regsOnly (s : State) (pool a : Nat) : s.regsOnly (s.latchUe pool a) eccShown := by
  unfold State.latchUe
  split
  · exact (State.regsOnly.refl _ _).setFld _ _ (by simp [eccShown])
  · exact ((((State.regsOnly.refl s _).setFld _ _ (by simp [eccShown])).setReg _ (by simp [eccShown])).setReg _ (by simp [eccShown])).setFld _ _
      (by simp [eccShown])

include herr

/-- A read of a word without flipped bits keeps every poisoned word poisoned. -/
theorem State.eccRead_keeps (a : Nat) : s.Only Frame.poison (s.eccRead a) eccShown ∧ ∀ x, s.poisoned x = true → (s.eccRead a).poisoned x = true := by
  have hflips : Table.get (fun _ => []) s.sys.bitErrs (a / 16 * 16) = [] := by rw [herr]; rfl
  have hset : ∀ p, s.Only Frame.poison (s.setPoison (a / 16 * 16) p) eccShown := fun p => ⟨rfl, State.regsBut_of_regs _ rfl⟩
  rw [State.eccRead]
  simp only [hflips, List.foldl_nil, State.clearErrs_of_clean herr]
  by_cases hp : s.poisoned (a / 16 * 16) = true
  · rw [if_pos hp, show eccDecode (eccSyndrome 0x1FF []) = .poison by decide]
    dsimp only
    have hlatch := (s.setPoison (a / 16 * 16) true).latchUe_regsOnly ((poolOf (a / 16 * 16)).getD 0) (a / 16 * 16)
    refine ⟨(hset true).trans ⟨?_, hlatch.2⟩, fun x hx => ?_⟩
    · rw [hlatch.1]
      rfl
    · have hsys : ((s.setPoison (a / 16 * 16) true).latchUe ((poolOf (a / 16 * 16)).getD 0) (a / 16 * 16)).sys.poison =
          addSorted s.sys.poison (a / 16 * 16 / 16 * 16) := congrArg Sys.poison hlatch.sys
      rw [State.poisoned, List.contains_iff_mem] at hx ⊢
      rw [hsys]
      exact mem_addSorted.mpr (.inl hx)
  · rw [if_neg hp, show eccDecode (eccSyndrome 0 []) = .clean by decide]
    dsimp only
    refine ⟨hset false, fun x hx => ?_⟩
    have hne : x / 16 * 16 ≠ a / 16 * 16 / 16 * 16 := fun heq => hp (by rw [State.poisoned, ← heq]; exact hx)
    rw [State.poisoned, List.contains_iff_mem] at hx ⊢
    rw [State.setPoison, if_neg Bool.false_ne_true]
    exact List.mem_filter.mpr ⟨hx, bne_iff_ne.mpr hne⟩

/-- A read of memory without flipped bits keeps every poisoned word poisoned. -/
theorem State.memRead_keeps (a n : Nat) : s.Only Frame.poison (s.memRead a n) eccShown ∧ ∀ x, s.poisoned x = true → (s.memRead a n).poisoned x = true := by
  rw [State.memRead]
  have hmotive : s.Only Frame.poison ((wordsOf a n).foldl (fun t w => t.eccRead w) s) eccShown ∧
      (∀ x, s.poisoned x = true → ((wordsOf a n).foldl (fun t w => t.eccRead w) s).poisoned x = true) ∧
      ((wordsOf a n).foldl (fun t w => t.eccRead w) s).sys.bitErrs = [] := by
    refine List.foldlRecOn (motive := fun t : State => s.Only Frame.poison t eccShown ∧ (∀ x, s.poisoned x = true → t.poisoned x = true) ∧
      t.sys.bitErrs = []) _ _ ⟨.refl _ _, fun _ h => h, herr⟩ fun t ht w _ => ?_
    obtain ⟨honly, hkeep, hclean⟩ := ht
    obtain ⟨honly', hkeep'⟩ := State.eccRead_keeps hclean w
    refine ⟨honly.trans honly', fun x hx => hkeep' x (hkeep x hx), ?_⟩
    rw [honly'.state]
    exact hclean
  exact ⟨hmotive.1, hmotive.2.1⟩

end

end Sys2Proof.Machine

/-!
Descriptors, copies, gathers and write-back of a ring channel (R407-R417, R420).
-/
namespace Sys2Proof.Machine

/-! ## What a channel asks of another node, and a halt -/

section
variable {s : State} {n : Fin 32} (hu : s.usual)
include hu

/-- An access to another node's page store is asked for. -/
theorem exec_chAsk {i : Instr} {kind node off len : Nat} {data : List (Byte × Bool)} (hexec : exec i s = State.done (s.chAsk n kind node off len data)) :
    ∃ t, exec i s = .next t ∧ ChanStays { s with fab := t.fab } t n { s.chan n with wait := some kind } [] ∧
      t.fab = { s.fab with waiting := s.fab.waiting ++ [{ who := .ring n, node := node, off := off, len := len, write := decide (3 ≤ kind), data := data }] } := by
  obtain ⟨s0, hs0⟩ : ∃ s0, s0 = s.remoteAsk { who := .ring n, node := node, off := off, len := len, write := decide (3 ≤ kind), data := data } := ⟨_, rfl⟩
  have husual : s0.usual := State.usual_alike hu (hs0 ▸ ⟨rfl, rfl, rfl, rfl, rfl, rfl, rfl⟩) (hs0 ▸ rfl)
  have hask : s.chAsk n kind node off len data = s0.setChan n { s.chan n with wait := some kind } := by
    rw [hs0]
    rfl
  have honly := (State.ChanOnly.refl s0 n []).setChan { s.chan n with wait := some kind }
  refine ⟨_, hexec.trans ((congrArg State.done hask).trans (honly.done husual fun _ h => absurd h List.not_mem_nil)), ?_, ?_⟩
  · have hwith : { s with fab := (s0.setChan n { s.chan n with wait := some kind }).fab } = s0 := by
      rw [hs0]
      rfl
    rw [hwith]
    exact honly.stays rfl
  · rw [hs0]
    rfl

/-- An access that leads nowhere halts the channel. -/
theorem exec_chHalt {i : Instr} {c : Chan} {t : State} {cause dir kind addr : Nat} (h : s.ChanNear t n c [])
    (hexec : exec i s = State.done (t.chHalt n cause dir kind addr)) (hcause : cause < 8) (hdir : dir < 2) (hkind : kind < 8) (ha : addr < 2 ^ 40) :
    ∃ u, exec i s = .next u ∧ ChanHalts s u n { c with wait := none } cause dir kind addr := by
  obtain ⟨u, hdone, hhalts⟩ := State.done_chHalt hu h n.isLt hcause hdir hkind ha
  exact ⟨u, hexec.trans hdone, hhalts⟩

end

/-! ## The descriptor fetched -/

/-- The channel's state after its descriptor has been read (R407, R415). -/
def Chan.fetched (own : Nat) (words : List Word) (src : Nat) : Chan :=
  let f : Chan := { words := words, from_ := src }
  { f with desc := decide (f.type = 0 ∧ f.srcFix = false ∧ f.dstFix = false ∧ foldWindow own f.src < foldWindow own f.dst ∧
    foldWindow own f.dst < foldWindow own f.src + f.len) }

section
variable {s : State} {n : Fin 32} (hu : s.usual)

/-- What a channel does with a descriptor read without poison. -/
theorem State.chFetched_eq (s : State) (n : Fin 32) (l : List Byte) :
    s.chFetched n (unpoisoned l) =
      (if (Chan.fetched s.nodeId (dwords l) (s.chan n).from_).own = false then
        if (s.chan n).kicked then s.setChan n (Chan.fetched s.nodeId (dwords l) (s.chan n).from_)
        else (s.setChan n (Chan.fetched s.nodeId (dwords l) (s.chan n).from_)).chEnter n Ch.waitOwn
      else if (Chan.fetched s.nodeId (dwords l) (s.chan n).from_).checks = false then
        (s.setChan n (Chan.fetched s.nodeId (dwords l) (s.chan n).from_)).chHalt n 4 0 0 (s.chDesc n)
      else if (Chan.fetched s.nodeId (dwords l) (s.chan n).from_).type = 2 then
        if s.fld (R.chStat n) F.chStat.JCNT + 1 = 1024 then
          ((s.setChan n (Chan.fetched s.nodeId (dwords l) (s.chan n).from_)).setFld (R.chStat n) F.chStat.JCNT
            (s.fld (R.chStat n) F.chStat.JCNT + 1)).chHalt n 5 0 0 (s.chDesc n)
        else ((s.setChan n (Chan.fetched s.nodeId (dwords l) (s.chan n).from_)).setFld (R.chStat n) F.chStat.JCNT
            (s.fld (R.chStat n) F.chStat.JCNT + 1)).setReg64 (R.chDescLo n) (R.chDescHi n) (Chan.fetched s.nodeId (dwords l) (s.chan n).from_).src
      else ((s.setChan n (Chan.fetched s.nodeId (dwords l) (s.chan n).from_)).chBegin n).chShow n) := by
  have hdesc : ∀ f : Chan, (f.type == 0 && f.descends s.nodeId) = decide (f.type = 0 ∧ f.srcFix = false ∧ f.dstFix = false ∧
      foldWindow s.nodeId f.src < foldWindow s.nodeId f.dst ∧ foldWindow s.nodeId f.dst < foldWindow s.nodeId f.src + f.len) := fun f => by
    rw [Bool.eq_iff_iff, decide_eq_true_iff]
    simp only [Chan.descends, Bool.and_eq_true, beq_iff_eq, Bool.not_eq_true', decide_eq_true_iff, and_assoc]
  rw [State.chFetched]
  simp only [unpoisoned_any, Bool.false_eq_true, if_false, unpoisoned_fst, hdesc, Bool.not_eq_true']
  rfl

/-- Showing the position changes its registers. -/
theorem State.chShow_regsOnly (t : State) (n : Nat) : t.regsOnly (t.chShow n) (chanPosition n) := by
  have hsub : ∀ o ∈ chanPosition n, o ∈ chanPosition n := fun _ h => h
  simp only [chanPosition, List.forall_mem_cons] at hsub
  obtain ⟨h1, h2, h3, h4, h5, h6, -⟩ := hsub
  exact ((((((State.regsOnly.refl t _).setReg _ h1).setReg _ h2).setReg _ h3).setReg _ h4).setFld _ _ h5).setFld _ _ h6

theorem State.ChanNear.setStat {t : State} {n : Nat} {c : Chan} {l : List Nat} (h : s.ChanNear t n c l) (f : Fld) (x : Nat) :
    s.ChanNear (t.setFld (R.chStat n) f x) n c l := by
  obtain ⟨hb, hh⟩ := chanStates_apart n
  refine ⟨h.only.setFld _ _ (by simp [chanStates]), fun j hj hjn => ?_, fun j hj hjn => ?_⟩
  · rw [State.reg_setFld_ne _ _ _ _ _ hb.symm, h.busy j hj hjn]
  · rw [State.reg_setFld_ne _ _ _ _ _ hh.symm, h.halted j hj hjn]

/-- A descriptor that is not paced begins (R412). -/
theorem State.chBegin_unpaced {t : State} {n : Nat} {c : Chan} {l : List Nat} (h : s.ChanNear t n c l) (hn : n < 32) (hpaced : c.paced = false) :
    s.ChanIn (t.chBegin n) n c 4 l ∧ (t.chBegin n).fld (R.chStat n) F.chStat.JCNT = 0 := by
  have hdef : t.chBegin n = (t.setFld (R.chStat n) F.chStat.JCNT 0).chEnter n Ch.xfer := if_pos (by rw [h.only.chan, hpaced]; rfl)
  rw [hdef]
  exact h.begun hn

theorem ownRegs_desc (n : Fin 32) : OwnRegs n ([R.chDescLo n, R.chDescHi n] ++ chanPosition n) := by
  intro o ho
  simp only [chanPosition, chanStates, List.mem_append, List.mem_cons, List.not_mem_nil, or_false, R.chSrcLo, R.chSrcHi, R.chDstLo, R.chDstHi, R.chRem,
    R.chHold, R.chDescLo, R.chDescHi, R.chStat, R.idmaBusy, R.idmaHalted] at ho ⊢
  omega

section
variable {g : Chan} {l : List Byte} (hg : g = Chan.fetched s.nodeId (dwords l) (s.chan n).from_) {i : Instr}
  (hexec : exec i s = State.done (s.chFetched n (unpoisoned l)))
include hg hexec hu

/-- The descriptor is not the channel's (R407). -/
theorem exec_chFetched_foreign (hown : g.own = false) :
    ((s.chan n).kicked = true → ∃ t, exec i s = .next t ∧ ChanStays s t n g []) ∧
    ((s.chan n).kicked = false → ∃ t, exec i s = .next t ∧ ChanEnters s t n g 2 []) := by
  rw [State.chFetched_eq, ← hg, if_pos hown] at hexec
  have hg' := (State.ChanOnly.refl s n []).setChan g
  refine ⟨fun hk => ?_, fun hk => ?_⟩
  · rw [if_pos hk] at hexec
    exact ⟨_, hg'.ends hu (ownRegs_nil n) hexec⟩
  · rw [if_neg (by rw [hk]; exact Bool.false_ne_true)] at hexec
    exact ⟨_, (hg'.enterOwn (ownRegs_nil n) n.isLt (st := 2) (by decide)).ends hu (ownRegs_nil n) hexec⟩

variable (hown : g.own = true)
include hown

/-- The descriptor fails its checks (R420). -/
theorem exec_chFetched_refused (hchecks : g.checks = false) : ∃ t, exec i s = .next t ∧ ChanHalts s t n { g with wait := none } 4 0 0 (s.chDesc n) := by
  rw [State.chFetched_eq, ← hg, if_neg (by rw [hown]; exact Bool.noConfusion), if_pos hchecks] at hexec
  exact exec_chHalt hu (((State.ChanOnly.refl s n []).setChan g).near (ownRegs_nil n)) hexec (by decide) (by decide) (by decide) (State.chDesc_lt _ _)

variable (hchecks : g.checks = true)
include hchecks

omit hu in
theorem exec_chFetched_checked : exec i s = State.done (if g.type = 2 then
      if s.fld (R.chStat n) F.chStat.JCNT + 1 = 1024 then
        ((s.setChan n g).setFld (R.chStat n) F.chStat.JCNT (s.fld (R.chStat n) F.chStat.JCNT + 1)).chHalt n 5 0 0 (s.chDesc n)
      else ((s.setChan n g).setFld (R.chStat n) F.chStat.JCNT (s.fld (R.chStat n) F.chStat.JCNT + 1)).setReg64 (R.chDescLo n) (R.chDescHi n) g.src
    else ((s.setChan n g).chBegin n).chShow n) := by
  rw [State.chFetched_eq, ← hg, if_neg (by rw [hown]; exact Bool.noConfusion), if_neg (by rw [hchecks]; exact Bool.noConfusion)] at hexec
  exact hexec

/-- A jump (R409). -/
theorem exec_chFetched_jump (htype : g.type = 2) (hj : s.fld (R.chStat n) F.chStat.JCNT < 1023) :
    ∃ t, exec i s = .next t ∧ ChanStays s t n g [R.chStat n, R.chDescLo n, R.chDescHi n] ∧ t.chDesc n = g.src ∧
      t.fld (R.chStat n) F.chStat.JCNT = s.fld (R.chStat n) F.chStat.JCNT + 1 := by
  have hchecked := exec_chFetched_checked hg hexec hown hchecks
  rw [if_pos htype, if_neg (by omega)] at hchecked
  have hdesc : OwnRegs n [R.chDescLo n, R.chDescHi n] := fun o ho => ownRegs_desc n o (List.mem_append_left _ ho)
  have hstat : R.chStat n ≠ R.chDescLo n ∧ R.chStat n ≠ R.chDescHi n ∧ R.chDescLo n ≠ R.chDescHi n := by
    simp only [R.chStat, R.chDescLo, R.chDescHi]
    omega
  have honly := (((State.ChanOnly.refl s n [R.chStat n, R.chDescLo n, R.chDescHi n]).setChan g).setFld
    (o := R.chStat n) F.chStat.JCNT (s.fld (R.chStat n) F.chStat.JCNT + 1) (by simp)).setReg64 (lo := R.chDescLo n) (hi := R.chDescHi n) g.src (by simp) (by simp)
  have hfld : ∀ (u : State) (f : Fld), (u.setReg64 (R.chDescLo n) (R.chDescHi n) g.src).fld (R.chStat n) f = u.fld (R.chStat n) f := fun u f =>
    State.fld_of_reg (by rw [State.reg_setReg64 _ _ _ _ _ hstat.2.2, if_neg hstat.1, if_neg hstat.2.1]) f
  obtain ⟨hnext, hstays⟩ := honly.ends_stat hu hchecked hdesc
    ((hfld _ _).trans (State.fld_setFld_apart _ _ _ _ _ (by decide) (by decide) (by decide)))
  refine ⟨_, hnext, hstays, ?_, ?_⟩
  · have hsrc : g.src < 2 ^ 40 := Nat.mod_lt _ (by decide)
    rw [State.chDesc, State.reg64_setReg64 _ _ _ _ hstat.2.2 (lt_trans hsrc (by decide)), Nat.mod_eq_of_lt hsrc]
  · rw [hfld, State.fld_setFld _ _ _ _ (by decide)]
    exact Nat.mod_eq_of_lt (show _ + 1 < 2048 by omega)

/-- The jump that is one too many (R410). -/
theorem exec_chFetched_loop (htype : g.type = 2) (hj : s.fld (R.chStat n) F.chStat.JCNT = 1023) :
    ∃ t, exec i s = .next t ∧ ChanHalts s t n { g with wait := none } 5 0 0 (s.chDesc n) := by
  have hchecked := exec_chFetched_checked hg hexec hown hchecks
  rw [if_pos htype, if_pos (by rw [hj])] at hchecked
  have hnear := ((State.ChanOnly.refl s n []).setChan g).near (ownRegs_nil n)
  exact exec_chHalt hu (hnear.setStat F.chStat.JCNT _) hchecked (by decide) (by decide) (by decide) (State.chDesc_lt _ _)

/-- A COPY or a GATHER begins, or waits for a pace pulse (R412). -/
theorem exec_chFetched_begun (htype : g.type ≠ 2) :
    (g.paced = false → ∃ t, exec i s = .next t ∧ ChanEnters s t n g 4 (chanPosition n) ∧ ShowsPosition t n g ∧ t.fld (R.chStat n) F.chStat.JCNT = 0) ∧
    (g.paced = true → s.chCredit n = 0 → ∃ t, exec i s = .next t ∧ ChanEnters s t n g 3 (chanPosition n) ∧ ShowsPosition t n g) ∧
    (g.paced = true → 0 < s.chCredit n → ∃ t, exec i s = .next t ∧ ChanEnters s t n g 4 (R.chPace n :: chanPosition n) ∧ ShowsPosition t n g ∧
      t.fld (R.chStat n) F.chStat.JCNT = 0 ∧ t.fld (R.chPace n) F.chPace.CREDIT = s.chCredit n - 1) := by
  have hchecked := exec_chFetched_checked hg hexec hown hchecks
  rw [if_neg htype] at hchecked
  have hpos := ownRegs_position n
  have hnear := ((State.ChanOnly.refl s n (chanPosition n)).setChan g).near hpos
  have hcredit : (s.setChan n g).chCredit n = s.chCredit n := rfl
  have hstat : R.chStat n ∉ chanPosition n := fun hm => chanPosition_apart n _ hm (by simp [chanStates])
  have hpace : R.chPace n ∉ chanPosition n := by
    simp only [chanPosition, List.mem_cons, List.not_mem_nil, or_false, R.chSrcLo, R.chSrcHi, R.chDstLo, R.chDstHi, R.chRem, R.chHold, R.chPace]
    omega
  refine ⟨fun hp => ?_, fun hp h0 => ?_, fun hp h0 => ?_⟩
  · obtain ⟨hin, hj⟩ := State.chBegin_unpaced hnear n.isLt hp
    obtain ⟨hnext, henters⟩ := (hin.show (List.Subset.refl _)).ends hu hpos hchecked
    exact ⟨_, hnext, henters, hin.only.shown, ((State.chShow_regsOnly _ _).fld hstat _).trans hj⟩
  · have hin := (State.chBegin_paced hnear n.isLt hp).1 (hcredit.trans h0)
    obtain ⟨hnext, henters⟩ := (hin.show (List.Subset.refl _)).ends hu hpos hchecked
    exact ⟨_, hnext, henters, hin.only.shown⟩
  · obtain ⟨hin, hc, hj⟩ := (State.chBegin_paced hnear n.isLt hp).2 (by rw [hcredit]; exact h0)
    obtain ⟨hnext, henters⟩ := (hin.show (List.subset_cons_self _ _)).ends hu (hpos.cons (ownRegs_pace n.isLt)) hchecked
    exact ⟨_, hnext, henters, hin.only.shown, ((State.chShow_regsOnly _ _).fld hstat _).trans hj,
      ((State.chShow_regsOnly _ _).fld hpace _).trans (hc.trans (by rw [hcredit]))⟩

end

end

/-! ## The fetch -/

section
variable {s : State} {n : Fin 32} (hu : s.usual) (hst : s.chState n = 1) (hw : (s.chan n).wait = none) (hpause : s.fld (R.chCtl n) F.chCtl.PAUSE = 0)
include hst hw hpause

theorem exec_descriptorFetch_eq : exec (.descriptorFetch n) s = State.done (match s.busRead (.ring n) (s.chDesc n) 32 with
    | .done t data => t.chFetched n data
    | .remote node off => s.chAsk n 0 node off 32 []
    | .error => s.chHalt n 1 0 0 (s.chDesc n)) := by
  refine congrArg State.done (if_neg fun hno => ?_)
  rcases hno with h | h | h
  · exact h hst
  · rw [hw] at h
    exact Bool.noConfusion h
  · rw [State.bit_eq_false hpause] at h
    exact Bool.noConfusion h

theorem exec_descriptorFetch_memory (herr : s.sys.bitErrs = []) (hpoison : s.sys.poison = []) {m : Nat} (htarget : s.target (s.chDesc n) 32 = .memory m) :
    exec (.descriptorFetch n) s = State.done (s.chFetched n (unpoisoned (s.bytes m 32))) := by
  rw [exec_descriptorFetch_eq hst hw hpause, State.busRead_memory herr hpoison htarget]

include hu

/-- A poisoned descriptor halts the channel (R420, R421). -/
theorem exec_descriptorFetch_poisoned (herr : s.sys.bitErrs = []) {m : Nat} (htarget : s.target (s.chDesc n) 32 = .memory m) (hp : s.poisoned m = true) :
    ∃ t, exec (.descriptorFetch n) s = .next t ∧ t.chState n = 7 ∧ t.fld (R.chStat n) F.chStat.CAUSE = 3 := by
  obtain ⟨honly, hkeep⟩ := State.memRead_keeps herr m 32
  have hexec := exec_descriptorFetch_eq hst hw hpause
  rw [State.busRead, htarget] at hexec
  dsimp only at hexec
  generalize s.memRead m 32 = u at honly hkeep hexec
  have hany : ((List.range 32).map (fun i => (u.byte (m + i), u.poisoned (m + i)))).any (fun b => b.2) = true :=
    List.any_eq_true.mpr ⟨_, List.mem_map.mpr ⟨0, by decide, rfl⟩, hkeep m hp⟩
  rw [State.chFetched] at hexec
  have huser : u.usual := State.usual_of hu honly.endsAlike honly.reg (by unfold endIgnores; decide)
  obtain ⟨t, hdone, hhalts⟩ := State.done_chHalt huser ((State.ChanOnly.refl u n []).near (ownRegs_nil n)) n.isLt (cause := 3) (dir := 0) (kind := 0)
    (addr := u.chDesc n) (by decide) (by decide) (by decide) (State.chDesc_lt _ _)
  exact ⟨t, (hexec.trans (congrArg State.done (if_pos hany))).trans hdone, hhalts.1.2.2.2.1, hhalts.2.1⟩

end

/-! ## The descriptor is complete -/

section
variable {s t : State} {n : Fin 32} {c : Chan} {l : List Nat}

/-- An event fired or not. -/
theorem State.fire_if (s : State) (b : Bool) (ev : Nat) : (if b then s.fire ev else s) = { s with pulses := if b then addSorted s.pulses ev else s.pulses } := by
  cases b <;> rfl

/-- The descriptor is complete: its event, and the next one or IDLE (R417). -/
theorem State.chNext_next (h : s.ChanOnly t n c l) (hown : OwnRegs n l) (hdesc : R.chDescLo n ∉ l ∧ R.chDescHi n ∉ l) :
    State.ChanIn { s with pulses := if c.evDone then addSorted s.pulses (64 + n) else s.pulses } (t.chNext n) n { c with kicked := false }
        (if c.isLast then 0 else 1) ([R.chDescLo n, R.chDescHi n] ++ l) ∧
      (t.chNext n).chDesc n = (s.chDesc n + 32) % 2 ^ 40 ∧ (t.chNext n).mem = t.mem ∧ (∀ o ∈ chanPosition n, (t.chNext n).reg o = t.reg o) := by
  have hlohi : R.chDescLo n ≠ R.chDescHi n := by simp only [R.chDescLo, R.chDescHi]; omega
  have hdescApart : ∀ o ∈ [R.chDescLo n, R.chDescHi n], o ∉ chanStates n := fun o ho => (ownRegs_desc n o (List.mem_append_left _ ho)).2
  obtain ⟨v, hv⟩ : ∃ v, v = if c.evDone then t.fire (64 + n) else t := ⟨_, rfl⟩
  have hfire : State.ChanOnly { s with pulses := if c.evDone then addSorted s.pulses (64 + n) else s.pulses } v n c l := by
    rw [hv, ← State.fire_if]
    split
    · exact h.fire _
    · exact h
  have hregs : v.regs = t.regs := by
    rw [hv]
    split <;> rfl
  have hmem : v.mem = t.mem := by
    rw [hv]
    split <;> rfl
  have hvdesc : v.chDesc n = s.chDesc n := by
    rw [State.chDesc, State.reg64, State.reg_of_regs _ _ hregs, State.reg_of_regs _ _ hregs, h.reg hdesc.1, h.reg hdesc.2]
    rfl
  have hdef : t.chNext n = ((v.setReg64 (R.chDescLo n) (R.chDescHi n) ((s.chDesc n + 32) % 2 ^ 40)).setChan n { c with kicked := false }).chEnter n
      (if c.isLast then Ch.idle else Ch.fetch) := by
    rw [← hvdesc, hv, ← h.chan]
    rfl
  rw [hdef]
  have hst : (if c.isLast then Ch.idle else Ch.fetch) < 8 := by split <;> decide
  have hset := v.reg64_setReg64 (R.chDescLo n) (R.chDescHi n) ((s.chDesc n + 32) % 2 ^ 40) hlohi (lt_trans (Nat.mod_lt _ (by decide)) (by decide))
  have hregsOnly : v.regsOnly (v.setReg64 (R.chDescLo n) (R.chDescHi n) ((s.chDesc n + 32) % 2 ^ 40)) [R.chDescLo n, R.chDescHi n] :=
    ((State.regsOnly.refl v _).setReg _ (by simp)).setReg _ (by simp)
  have honly := (hfire.mono (List.subset_append_right [R.chDescLo n, R.chDescHi n] l)).setReg64 (lo := R.chDescLo n) (hi := R.chDescHi n)
    ((s.chDesc n + 32) % 2 ^ 40) (by simp) (by simp)
  generalize v.setReg64 (R.chDescLo n) (R.chDescHi n) ((s.chDesc n + 32) % 2 ^ 40) = x at hset hregsOnly honly ⊢
  have hown' : OwnRegs n ([R.chDescLo n, R.chDescHi n] ++ l) := fun o ho =>
    (List.mem_append.mp ho).elim (fun hm => ownRegs_desc n o (List.mem_append_left _ hm)) (hown o)
  have hin := (honly.setChan { c with kicked := false }).enterOwn hown' n.isLt hst
  have henter := State.chEnter_regsOnly (x.setChan n { c with kicked := false }) n (if c.isLast then Ch.idle else Ch.fetch)
  have hreg : ∀ o, o ∉ chanStates n → ((x.setChan n { c with kicked := false }).chEnter n (if c.isLast then Ch.idle else Ch.fetch)).reg o = x.reg o :=
    fun o ho => henter.2 o ho
  generalize (x.setChan n { c with kicked := false }).chEnter n (if c.isLast then Ch.idle else Ch.fetch) = y at hin henter hreg ⊢
  refine ⟨hin, ?_, ?_, fun o ho => ?_⟩
  · rw [State.chDesc, State.reg64, hreg _ (hdescApart _ (by simp)), hreg _ (hdescApart _ (by simp)), ← State.reg64, hset, Nat.mod_mod]
  · rw [henter.1]
    change x.mem = t.mem
    rw [hregsOnly.1]
    exact hmem
  · rw [hreg o (chanPosition_apart n o ho), hregsOnly.2 o ?_, State.reg_of_regs _ _ hregs]
    simp only [chanPosition, List.mem_cons, List.not_mem_nil, or_false, R.chSrcLo, R.chSrcHi, R.chDstLo, R.chDstHi, R.chRem, R.chHold, R.chDescLo,
      R.chDescHi] at ho ⊢
    omega

/-- Every write of a fenced descriptor has been acknowledged (R417). -/
theorem exec_fenceAcknowledged_next (hu : s.usual) (hw : (s.chan n).wait = none) (hst : s.chState n = 5) :
    ∃ t, exec (.fenceAcknowledged n) s = .next t ∧
      ChanEnters { s with pulses := if (s.chan n).evDone then addSorted s.pulses (64 + n) else s.pulses } t n { s.chan n with kicked := false }
        (if (s.chan n).isLast then 0 else 1) [R.chDescLo n, R.chDescHi n] ∧ t.chDesc n = (s.chDesc n + 32) % 2 ^ 40 := by
  obtain ⟨hin, hdesc, -, -⟩ := State.chNext_next (State.ChanOnly.refl s n []) (ownRegs_nil n) ⟨List.not_mem_nil, List.not_mem_nil⟩
  have hdef : s.chFenced n = s.chNext n := by
    refine if_neg fun hno => ?_
    rcases hno with h | h
    · exact h hst
    · rw [hw] at h
      exact Bool.noConfusion h
  have hdone := hin.done (State.usual_alike hu ⟨rfl, rfl, rfl, rfl, rfl, rfl, rfl⟩ rfl) n.isLt fun o ho => (ownRegs_desc n o (List.mem_append_left _ ho)).1
  exact ⟨_, (congrArg State.done hdef).trans hdone, hin.enters, hdesc⟩

end

/-! ## The write-back -/

/-- Word 0 of a descriptor as it goes back (R417). -/
def Chan.backWord (c : Chan) : Word := BitVec.ofNat 32 (c.word 0) &&& 0x00FFFFFE ||| (if c.poison then 0x11000000 else 0)

theorem Nat.and_evenMask (x : Nat) : x &&& 0x00FFFFFE = x % 2 ^ 24 - x % 2 := by
  have hsub : x % 2 ^ 24 - x % 2 = 2 * (x / 2 % 2 ^ 23) := by omega
  rw [hsub]
  refine Nat.eq_of_testBit_eq fun i => ?_
  rw [Nat.testBit_and]
  cases i with
  | zero => simp
  | succ i =>
    have hmask : (0x00FFFFFE : Nat).testBit (i + 1) = decide (i < 23) := by
      rw [Nat.testBit_succ, show (0x00FFFFFE : Nat) / 2 = 2 ^ 23 - 1 by decide, Nat.testBit_two_pow_sub_one]
    rw [hmask, Nat.testBit_succ, Nat.testBit_succ, Nat.mul_div_cancel_left _ (by decide), Nat.testBit_mod_two_pow, Bool.and_comm]

theorem Chan.toNat_backWord (c : Chan) :
    c.backWord.toNat = c.word 0 % 2 ^ 24 - c.word 0 % 2 + (if c.poison then St.eccUncorrectable else 0) * 2 ^ 24 := by
  have hw : c.word 0 < 2 ^ 32 := BitVec.isLt _
  have hlow : (BitVec.ofNat 32 (c.word 0) &&& 0x00FFFFFE).toNat = c.word 0 % 2 ^ 24 - c.word 0 % 2 := by
    rw [BitVec.toNat_and, BitVec.toNat_ofNat, Nat.mod_eq_of_lt hw]
    exact Nat.and_evenMask _
  rw [Chan.backWord, BitVec.toNat_or, hlow]
  have hlt : c.word 0 % 2 ^ 24 - c.word 0 % 2 < 2 ^ 24 := lt_of_le_of_lt (Nat.sub_le _ _) (Nat.mod_lt _ (by decide))
  cases c.poison with
  | false => exact Nat.or_zero _
  | true =>
    change (c.word 0 % 2 ^ 24 - c.word 0 % 2) ||| 0x11 <<< 24 = _
    rw [Nat.or_comm, ← Nat.shiftLeft_add_eq_or_of_lt hlt, Nat.shiftLeft_eq, Nat.add_comm]
    rfl

section
variable {s t : State} {n : Fin 32} {c : Chan} {l : List Nat}

/-- Bytes written beside a channel's state. -/
theorem State.ChanOnly.setBytes {n : Nat} (h : s.ChanOnly t n c l) (a : Nat) (d : List Byte) : (s.setBytes a d).ChanOnly (t.setBytes a d) n c l := by
  have hs := s.setBytes_state a d
  have ht := t.setBytes_state a d
  have hmem : (t.setBytes a d).mem = (s.setBytes a d).mem := by
    have hmem0 : t.mem = s.mem := by
      rw [h.only.state]
      rfl
    clear hs ht
    clear h
    induction d generalizing s t a with
    | nil => exact hmem0
    | cons b d ih =>
      rw [State.setBytes, State.setBytes]
      refine ih (a + 1) ?_
      rw [State.setByte, State.setByte, hmem0]
  generalize t.setBytes a d = y at ht hmem ⊢
  generalize s.setBytes a d = x at hs hmem ⊢
  rw [ht, hs, hmem]
  obtain ⟨honly, hchan, hothers⟩ := h
  refine ⟨⟨?_, honly.reg⟩, hchan, hothers⟩
  have hstate := honly.state
  generalize x.mem = m
  revert honly hchan hothers
  rw [hstate]
  intros
  rfl

/-- The write-back has been issued (R417). -/
theorem State.chWritten_written (h : s.ChanOnly t n c (chanPosition n)) (hpos : ShowsPosition t n c) :
    (c.fenced = true → s.ChanIn (t.chWritten n) n c 5 (chanPosition n)) ∧
    (c.fenced = false → State.ChanIn { s with pulses := if c.evDone then addSorted s.pulses (64 + n) else s.pulses } (t.chWritten n) n { c with kicked := false }
        (if c.isLast then 0 else 1) ([R.chDescLo n, R.chDescHi n] ++ chanPosition n) ∧ (t.chWritten n).chDesc n = (s.chDesc n + 32) % 2 ^ 40) ∧
    ShowsPosition (t.chWritten n) n c ∧ (t.chWritten n).mem = t.mem := by
  have hpos' := ownRegs_position n
  have hdesc : R.chDescLo n ∉ chanPosition n ∧ R.chDescHi n ∉ chanPosition n := by
    simp only [chanPosition, List.mem_cons, List.not_mem_nil, or_false, R.chSrcLo, R.chSrcHi, R.chDstLo, R.chDstHi, R.chRem, R.chHold, R.chDescLo,
      R.chDescHi]
    omega
  rw [State.chWritten, h.chan]
  by_cases hf : c.fenced = true
  · rw [if_pos hf]
    have henter := State.chEnter_regsOnly t n Ch.fence
    exact ⟨fun _ => h.enterOwn hpos' n.isLt (by decide), fun hno => absurd (hf.symm.trans hno) Bool.noConfusion,
      ShowsPosition.of_reg hpos fun o ho => henter.2 o (chanPosition_apart n o ho), by rw [henter.1]⟩
  · rw [if_neg hf]
    obtain ⟨hin, hd, hmem, hreg⟩ := State.chNext_next h hpos' hdesc
    exact ⟨fun hno => absurd hno hf, fun _ => ⟨hin, hd⟩, ShowsPosition.of_reg hpos hreg, hmem⟩

/-- The last write has been issued: word 0 goes back (R417). -/
theorem State.chWriteBack_eq (h : s.ChanOnly t n c (chanPosition n)) (herr : s.sys.bitErrs = []) (hpoison : s.sys.poison = []) {k : Nat}
    (htarget : s.target (s.chDesc n) 4 = .memory k) : t.chWriteBack n = (t.setBytes k (bytesLE 4 c.backWord.toNat)).chWritten n := by
  have hsys : t.sys = s.sys := by rw [h.only.state]; rfl
  have hdesc : t.chDesc n = s.chDesc n := by
    have hne : R.chDescLo n ∉ chanPosition n ∧ R.chDescHi n ∉ chanPosition n := by
      simp only [chanPosition, List.mem_cons, List.not_mem_nil, or_false, R.chSrcLo, R.chSrcHi, R.chDstLo, R.chDstHi, R.chRem, R.chHold, R.chDescLo,
        R.chDescHi]
      omega
    rw [State.chDesc, State.reg64, h.reg hne.1, h.reg hne.2]
    rfl
  have htarget' : t.target (t.chDesc n) 4 = .memory k := by
    rw [hdesc, ← htarget]
    refine State.target_congr (fun o ho => h.reg fun hm => ?_) _ _
    simp only [chanPosition, List.mem_cons, List.not_mem_nil, or_false, R.chSrcLo, R.chSrcHi, R.chDstLo, R.chDstHi, R.chRem, R.chHold] at hm
    have := n.isLt
    omega
  have hwrite : t.busWrite (.ring n) (t.chDesc n) (unpoisoned (bytesLE 4 c.backWord.toNat)) = .done (t.setBytes k (bytesLE 4 c.backWord.toNat)) [] :=
    State.busWrite_memory (by rw [hsys, herr]) (by rw [hsys, hpoison]) (by rw [bytesLE_length]; exact htarget')
  rw [Chan.toNat_backWord] at hwrite ⊢
  delta State.chWriteBack
  rw [h.chan]
  extract_lets cc w0 data
  change (match t.busWrite (.ring n) (t.chDesc n) (unpoisoned (bytesLE 4 w0)) with | .done u _ => _ | .remote node off => _ | .error => _) = _
  rw [hwrite]

/-- A descriptor whose last data has been written (R417). -/
theorem descriptorWritten_of {r : State} {d p : Nat} {data : List Byte} (hstate : r.mem = ((s.setBytes p data).setBytes d (bytesLE 4 c.backWord.toNat)).mem)
    (hfenced : c.fenced = true → ((s.setBytes p data).setBytes d (bytesLE 4 c.backWord.toNat)).ChanIn r n c 5 (chanPosition n))
    (hnext : c.fenced = false → State.ChanIn { ((s.setBytes p data).setBytes d (bytesLE 4 c.backWord.toNat)) with
        pulses := if c.evDone then addSorted s.pulses (64 + n) else s.pulses } r n { c with kicked := false }
        (if c.isLast then 0 else 1) ([R.chDescLo n, R.chDescHi n] ++ chanPosition n) ∧ r.chDesc n = (s.chDesc n + 32) % 2 ^ 40) :
    DescriptorWritten s r n c d p data := by
  obtain ⟨x, hx⟩ : ∃ x, x = (s.setBytes p data).setBytes d (bytesLE 4 c.backWord.toNat) := ⟨_, rfl⟩
  rw [← hx] at hstate hfenced hnext
  have hlen : (bytesLE 4 c.backWord.toNat).length = 4 := bytesLE_length _ _
  have hbyte : ∀ a, r.byte a = x.byte a := fun a => by rw [State.byte, hstate, State.byte]
  have hxs : x = { s with mem := r.mem } := by
    rw [hstate, hx, State.setBytes_state, (s.setBytes_state p data)]
  have hback : r.bytes d 4 = bytesLE 4 c.backWord.toNat := by
    rw [State.bytes_congr fun i _ => hbyte (d + i), hx]
    have := (s.setBytes p data).bytes_setBytes d (bytesLE 4 c.backWord.toNat)
    rw [hlen] at this
    exact this
  refine ⟨hback, fun hap => ?_, fun a ha hp => ?_, fun hf => ?_, fun hf => ?_⟩
  · refine (State.bytes_congr (s := s.setBytes p data) fun i hi => ?_).trans (s.bytes_setBytes p data)
    rw [hbyte, hx]
    exact State.byte_setBytes_out (s.setBytes p data) d _ (p + i) (by rw [hlen]; omega)
  · rw [hbyte, hx, State.byte_setBytes_out _ _ _ _ (by rw [hlen]; exact ha), State.byte_setBytes_out _ _ _ _ hp]
  · rw [← hxs]
    exact (hfenced hf).enters
  · obtain ⟨hin, hd⟩ := hnext hf
    have hxp : { s with mem := r.mem, pulses := if c.evDone then addSorted s.pulses (64 + n) else s.pulses } =
        { x with pulses := if c.evDone then addSorted s.pulses (64 + n) else s.pulses } := by rw [hxs]
    rw [hxp]
    exact ⟨hin.enters, hd⟩

end

/-! ## Moving the data -/

section
variable {s t : State} {n : Fin 32} {g : Chan} (hu : s.usual) (herr : s.sys.bitErrs = []) (hpoison : s.sys.poison = [])
include hu herr hpoison

/-- Data has been written, and the channel's state with it: the descriptor goes on, or is written back at its end (R413, R416, R417). -/
theorem exec_dataWritten {i : Instr} {p : Nat} {data : List Byte} {last : Prop} [Decidable last] {z : State}
    (hz : (s.setBytes p data).ChanOnly z n g (chanPosition n))
    (hexec : exec i s = State.done (if last then (z.chShow n).chWriteBack n else z.chShow n)) :
    (¬last → ∃ t, exec i s = .next t ∧ ChanStays { s with mem := t.mem } t n g (chanPosition n) ∧ ShowsPosition t n g ∧
      t.bytes p data.length = data ∧ (∀ a, a < p ∨ p + data.length ≤ a → t.byte a = s.byte a)) ∧
    (last → ∀ k, s.target (s.chDesc n) 4 = .memory k → ∃ t, exec i s = .next t ∧ DescriptorWritten s t n g k p data ∧ ShowsPosition t n g) := by
  have hpos := ownRegs_position n
  obtain ⟨y, hy⟩ : ∃ y, y = s.setBytes p data := ⟨_, rfl⟩
  have hstate : y = { s with mem := y.mem } := by rw [hy]; exact s.setBytes_state p data
  have husual : ∀ z : State, z = { s with mem := z.mem } → z.usual := fun z hz =>
    State.usual_alike hu (by rw [hz]; exact ⟨rfl, rfl, rfl, rfl, rfl, rfl, rfl⟩) (by rw [hz])
  rw [← hy] at hz
  have honly := hz.show (List.Subset.refl _)
  have hshow := hz.shown
  generalize z.chShow n = u at honly hshow hexec
  have hmem : u.mem = y.mem := by rw [honly.only.state]; rfl
  refine ⟨fun hno => ?_, fun hyes k hk => ?_⟩
  · rw [if_neg hno] at hexec
    have hwith : { s with mem := u.mem } = y := by rw [hmem, ← hstate]
    have hbyte : ∀ x, u.byte x = y.byte x := fun x => by rw [State.byte, hmem, State.byte]
    refine ⟨u, hexec.trans (honly.done (husual y hstate) fun o ho => (hpos o ho).1), ?_, hshow, ?_, fun x hx => ?_⟩
    · rw [hwith]
      exact honly.stays (honly.chState_eq hpos)
    · rw [State.bytes_congr fun j _ => hbyte (p + j), hy]
      exact s.bytes_setBytes p data
    · rw [hbyte, hy, State.byte_setBytes_out _ _ _ _ hx]
  · rw [if_pos hyes] at hexec
    have hsys : y.sys = s.sys := by rw [hstate]
    have htarget : y.target (y.chDesc n) 4 = .memory k := by
      have hregs : ∀ o, y.reg o = s.reg o := fun o => State.reg_of_regs _ _ (by rw [hstate]) o
      rw [State.target_congr (s := s) (fun o _ => hregs o), State.chDesc, State.reg64, hregs, hregs]
      exact hk
    have hback := State.chWriteBack_eq honly (by rw [hsys, herr]) (by rw [hsys, hpoison]) htarget
    have honly' := honly.setBytes k (bytesLE 4 g.backWord.toNat)
    have hshow' : ShowsPosition (u.setBytes k (bytesLE 4 g.backWord.toNat)) n g :=
      ShowsPosition.of_reg hshow fun o _ => State.reg_of_regs _ _ (by rw [State.setBytes_state]) o
    have hmem' : (u.setBytes k (bytesLE 4 g.backWord.toNat)).mem = (y.setBytes k (bytesLE 4 g.backWord.toNat)).mem := by
      rw [honly'.only.state]
      rfl
    have hystate : y.setBytes k (bytesLE 4 g.backWord.toNat) = { s with mem := (y.setBytes k (bytesLE 4 g.backWord.toNat)).mem } := by
      have h1 := y.setBytes_state k (bytesLE 4 g.backWord.toNat)
      generalize y.setBytes k (bytesLE 4 g.backWord.toNat) = z at h1
      rw [h1, hstate]
    rw [hback] at hexec
    subst hy
    generalize u.setBytes k (bytesLE 4 g.backWord.toNat) = v at honly' hshow' hmem' hexec
    obtain ⟨hfence, hnext, hshown, hkeep⟩ := State.chWritten_written honly' hshow'
    have hus := husual _ hystate
    have hdone : State.done (v.chWritten n) = .next (v.chWritten n) := by
      by_cases hf : g.fenced = true
      · exact (hfence hf).done hus n.isLt fun o ho => (hpos o ho).1
      · exact (hnext (Bool.eq_false_iff.mpr hf)).1.done (State.usual_alike hus ⟨rfl, rfl, rfl, rfl, rfl, rfl, rfl⟩ rfl) n.isLt fun o ho => (ownRegs_desc n o ho).1
    refine ⟨_, hexec.trans hdone, descriptorWritten_of (hkeep.trans hmem') hfence fun hf => ?_, hshown⟩
    obtain ⟨hin, hd⟩ := hnext hf
    have hpulses : ((s.setBytes p data).setBytes k (bytesLE 4 g.backWord.toNat)).pulses = s.pulses := by rw [hystate]
    rw [hpulses] at hin
    refine ⟨hin, hd.trans ?_⟩
    have hregs : ((s.setBytes p data).setBytes k (bytesLE 4 g.backWord.toNat)).regs = s.regs := by rw [hystate]
    rw [State.chDesc, State.reg64, State.reg_of_regs s _ hregs (R.chDescLo n), State.reg_of_regs s _ hregs (R.chDescHi n)]
    rfl

end

/-! ## A COPY -/

theorem Chan.beat_eq (c : Chan) :
    c.beat.1 = (if c.desc then c.hold.drop (c.hold.length - c.dw) else c.hold.take c.dw) ∧
      c.beat.2 = (if c.desc then c.hold.take (c.hold.length - c.dw) else c.hold.drop c.dw) := by
  rw [Chan.beat]
  split <;> exact ⟨rfl, rfl⟩

section
variable {s : State} {n : Fin 32} (hst : s.chState n = 4) (htype : (s.chan n).type = 0) (hw : (s.chan n).wait = none)
  (hpause : s.fld (R.chCtl n) F.chCtl.PAUSE = 0)
include hst htype hw hpause

theorem exec_idmaCopy_eq : exec (.idmaCopy n) s = State.done (if (s.chan n).dw ≤ (s.chan n).hold.length then
    match s.busWrite (.ring n) (s.chan n).dstNow (s.chan n).beat.1 with
    | .done t _ => t.copyWrote n
    | .remote node off => s.chAsk n 3 node off (s.chan n).dw (s.chan n).beat.1
    | .error => s.chHalt n 1 1 3 (s.chan n).dstNow
  else match s.busRead (.ring n) (s.chan n).srcNow (s.chan n).sw with
    | .done t data => (t.copyRead n data).chShow n
    | .remote node off => s.chAsk n 2 node off (s.chan n).sw []
    | .error => s.chHalt n 1 0 2 (s.chan n).srcNow) := by
  refine congrArg State.done (if_neg fun hno => ?_)
  rcases hno with h | h | h | h
  · exact h hst
  · exact h htype
  · rw [hw] at h
    exact Bool.noConfusion h
  · rw [State.bit_eq_false hpause] at h
    exact Bool.noConfusion h

variable (hu : s.usual)
include hu

/-- A beat is read (R413). -/
theorem exec_idmaCopy_read (hhold : (s.chan n).hold.length < (s.chan n).dw) :
    (s.target (s.chan n).srcNow (s.chan n).sw = .none → ∃ t, exec (.idmaCopy n) s = .next t ∧
      ChanHalts s t n { s.chan n with wait := none } 1 0 2 (s.chan n).srcNow) ∧
    (∀ node off, s.target (s.chan n).srcNow (s.chan n).sw = .remote node off → ∃ t, exec (.idmaCopy n) s = .next t ∧
      ChanStays { s with fab := t.fab } t n { s.chan n with wait := some 2 } [] ∧ t.fab = { s.fab with waiting := s.fab.waiting ++
        [{ who := .ring n, node := node, off := off, len := (s.chan n).sw, write := decide (3 ≤ 2), data := [] }] }) ∧
    (∀ m, s.target (s.chan n).srcNow (s.chan n).sw = .memory m → s.sys.bitErrs = [] → s.sys.poison = [] → ∀ g : Chan,
      g = { s.chan n with rd := (s.chan n).rd + (s.chan n).sw, hold := if (s.chan n).desc then unpoisoned (s.bytes m (s.chan n).sw) ++ (s.chan n).hold
        else (s.chan n).hold ++ unpoisoned (s.bytes m (s.chan n).sw) } →
      ∃ t, exec (.idmaCopy n) s = .next t ∧ ChanStays s t n g (chanPosition n) ∧ ShowsPosition t n g) := by
  have hexec := exec_idmaCopy_eq hst htype hw hpause
  rw [if_neg (Nat.not_le.mpr hhold)] at hexec
  refine ⟨fun ht => ?_, fun node off ht => ?_, fun m ht herr hpoison g hg => ?_⟩
  · rw [State.busRead_none ht] at hexec
    exact exec_chHalt hu ((State.ChanOnly.refl s n []).near (ownRegs_nil n)) hexec (by decide) (by decide) (by decide) (Chan.srcNow_lt _)
  · rw [State.busRead_remote ht] at hexec
    exact exec_chAsk hu hexec
  · rw [State.busRead_memory herr hpoison ht] at hexec
    have hpos := ownRegs_position n
    have hread : s.copyRead n (unpoisoned (s.bytes m (s.chan n).sw)) = s.setChan n g := by
      rw [State.copyRead, unpoisoned_any, Bool.or_false, hg]
    have honly := (State.ChanOnly.refl s n (chanPosition n)).setChan g
    obtain ⟨hnext, hstays⟩ := (honly.show (List.Subset.refl _)).ends hu hpos (hexec.trans (by dsimp only; rw [hread]))
    exact ⟨_, hnext, hstays, honly.shown⟩

/-- A beat is written (R413). -/
theorem exec_idmaCopy_write (hhold : (s.chan n).dw ≤ (s.chan n).hold.length) {beat : List (Byte × Bool)} (hbeat : beat = (s.chan n).beat.1) :
    (s.target (s.chan n).dstNow (s.chan n).dw = .none → ∃ t, exec (.idmaCopy n) s = .next t ∧
      ChanHalts s t n { s.chan n with wait := none } 1 1 3 (s.chan n).dstNow) ∧
    (∀ node off, s.target (s.chan n).dstNow (s.chan n).dw = .remote node off → ∃ t, exec (.idmaCopy n) s = .next t ∧
      ChanStays { s with fab := t.fab } t n { s.chan n with wait := some 3 } [] ∧ t.fab = { s.fab with waiting := s.fab.waiting ++
        [{ who := .ring n, node := node, off := off, len := (s.chan n).dw, write := decide (3 ≤ 3), data := beat }] }) ∧
    (∀ m data, s.target (s.chan n).dstNow (s.chan n).dw = .memory m → beat = unpoisoned data → s.sys.bitErrs = [] → s.sys.poison = [] →
      data.length = (s.chan n).dw ∧ ∀ g : Chan, g = { s.chan n with wr := (s.chan n).wr + (s.chan n).dw, hold := (s.chan n).beat.2 } →
      exec (.idmaCopy n) s = State.done (if (s.chan n).len ≤ (s.chan n).wr + (s.chan n).dw then
        (((s.setBytes m data).setChan n g).chShow n).chWriteBack n else ((s.setBytes m data).setChan n g).chShow n)) := by
  have hexec := exec_idmaCopy_eq hst htype hw hpause
  rw [if_pos hhold, ← hbeat] at hexec
  have hlen : beat.length = (s.chan n).dw := by
    rw [hbeat, Chan.beat]
    split
    · rw [List.length_drop]
      omega
    · rw [List.length_take]
      omega
  refine ⟨fun ht => ?_, fun node off ht => ?_, fun m data ht hdata herr hpoison => ?_⟩
  · rw [State.busWrite_none (by rw [hlen]; exact ht)] at hexec
    exact exec_chHalt hu ((State.ChanOnly.refl s n []).near (ownRegs_nil n)) hexec (by decide) (by decide) (by decide) (Chan.dstNow_lt _)
  · rw [State.busWrite_remote (by rw [hlen]; exact ht)] at hexec
    exact exec_chAsk hu hexec
  · have hlen' : data.length = (s.chan n).dw := by
      rw [← hlen, hdata, unpoisoned, List.length_map]
    refine ⟨hlen', fun g hg => ?_⟩
    rw [hdata, State.busWrite_memory herr hpoison (by rw [hlen']; exact ht)] at hexec
    refine hexec.trans (congrArg State.done ?_)
    have hchan : (s.setBytes m data).chan n = s.chan n := by
      rw [s.setBytes_state]
      rfl
    dsimp only
    rw [State.copyWrote, hchan, hg]

end

/-! ## A GATHER -/

section
variable {s : State} {n : Fin 32} (hst : s.chState n = 4) (htype : (s.chan n).type = 1) (hw : (s.chan n).wait = none)
  (hidx : (s.chan n).idx = none)
include hst htype hw hidx

omit hst hw in
theorem exec_idmaGather_eq (hpause : s.fld (R.chCtl n) F.chCtl.PAUSE = 0) :
    exec (.idmaGather n) s = State.done (((s.gatherStep n).gatherStep n).gatherStep n) := by
  refine congrArg State.done ((if_neg fun hno => ?_).trans ?_)
  · rcases hno with h | h
    · exact h htype
    · rw [State.bit_eq_false hpause] at h
      exact Bool.noConfusion h.1
  · rw [hidx]
    rfl

omit htype in
/-- The table entry is read first (R416). -/
theorem State.gatherStep_index : s.gatherStep n = match s.busRead (.ring n) (((s.chan n).tbl + 4 * (s.chan n).rd) % 2 ^ 40) 4 with
    | .done t data => t.gatherIndex n data
    | .remote node off => s.chAsk n 1 node off 4 []
    | .error => s.chHalt n 1 0 1 (((s.chan n).tbl + 4 * (s.chan n).rd) % 2 ^ 40) := by
  refine (if_neg fun hno => ?_).trans ?_
  · rcases hno with h | h
    · exact h hst
    · rw [hw] at h
      exact Bool.noConfusion h
  · rw [hidx] <;> rfl

omit hst hw hidx htype in
/-- A channel that has halted, or waits, makes no step. -/
theorem State.gatherStep_none (h : s.chState n ≠ 4 ∨ (s.chan n).wait ≠ none) : s.gatherStep n = s :=
  if_pos (h.imp id fun hw => Option.isSome_iff_ne_none.mpr hw)

variable (hpause : s.fld (R.chCtl n) F.chCtl.PAUSE = 0) (hu : s.usual)
include hpause hu

/-- The table entry lies nowhere, or on another node (R416). -/
theorem exec_idmaGather_index (a : Nat) (ha : a = ((s.chan n).tbl + 4 * (s.chan n).rd) % 2 ^ 40) :
    (s.target a 4 = .none → ∃ t, exec (.idmaGather n) s = .next t ∧ ChanHalts s t n { s.chan n with wait := none } 1 0 1 a) ∧
    (∀ node off, s.target a 4 = .remote node off → ∃ t, exec (.idmaGather n) s = .next t ∧
      ChanStays { s with fab := t.fab } t n { s.chan n with wait := some 1 } [] ∧ t.fab = { s.fab with waiting := s.fab.waiting ++
        [{ who := .ring n, node := node, off := off, len := 4, write := decide (3 ≤ 1), data := [] }] }) := by
  have hexec := exec_idmaGather_eq htype hidx hpause
  rw [State.gatherStep_index hst hw hidx, ← ha] at hexec
  have halt : a < 2 ^ 40 := by rw [ha]; exact Nat.mod_lt _ (by decide)
  refine ⟨fun ht => ?_, fun node off ht => ?_⟩
  · rw [State.busRead_none ht] at hexec
    have hhalts := (State.chHalt_halts ((State.ChanOnly.refl s n []).near (ownRegs_nil n)) (List.nil_subset _) (fun _ _ => List.not_mem_nil) n.isLt
      (cause := 1) (dir := 0) (kind := 1) (addr := a) (by decide) (by decide) (by decide) halt).2.shows.state
    dsimp only at hexec
    have hstop := State.gatherStep_none (.inl (show (s.chHalt n 1 0 1 a).chState n ≠ 4 by rw [hhalts]; decide))
    rw [hstop, hstop] at hexec
    exact exec_chHalt hu ((State.ChanOnly.refl s n []).near (ownRegs_nil n)) hexec (by decide) (by decide) (by decide) halt
  · rw [State.busRead_remote ht] at hexec
    have hwait : ((s.chAsk n 1 node off 4 []).chan n).wait ≠ none := by
      have : (s.chAsk n 1 node off 4 []).chan n = { s.chan n with wait := some 1 } := Table.get_set_same _ _ _ _
      rw [this]
      exact Option.some_ne_none _
    dsimp only at hexec
    have hstop := State.gatherStep_none (.inr hwait)
    rw [hstop, hstop] at hexec
    exact exec_chAsk hu hexec

omit hu in
/-- An element is read and written (R416). -/
theorem exec_idmaGather_element (herr : s.sys.bitErrs = []) (hpoison : s.sys.poison = []) (hhold : (s.chan n).hold = []) {m k p : Nat}
    (hm : s.target (((s.chan n).tbl + 4 * (s.chan n).rd) % 2 ^ 40) 4 = .memory m)
    (hk : s.target (((s.chan n).src + natLE (s.bytes m 4) * (s.chan n).sw) % 2 ^ 40) (s.chan n).sw = .memory k)
    (hp : s.target (if (s.chan n).dstFix then (s.chan n).dst else ((s.chan n).dst + (s.chan n).wr * (s.chan n).sw) % 2 ^ 40) (s.chan n).sw = .memory p)
    {g : Chan} (hg : g = { s.chan n with rd := (s.chan n).rd + 1, wr := (s.chan n).wr + 1 }) :
    ∃ z, (s.setBytes p (s.bytes k (s.chan n).sw)).ChanOnly z n g (chanPosition n) ∧
      exec (.idmaGather n) s = State.done (if (s.chan n).len ≤ (s.chan n).wr + 1 then (z.chShow n).chWriteBack n else z.chShow n) := by
  obtain ⟨c, hc⟩ : ∃ c, c = s.chan n := ⟨_, rfl⟩
  have hexec := exec_idmaGather_eq htype hidx hpause
  rw [← hc] at htype hw hidx hhold hm hk hp hg ⊢
  have hlen : (s.bytes k c.sw).length = c.sw := by rw [State.bytes, List.length_map, List.length_range]
  have hne : unpoisoned (s.bytes k c.sw) ≠ [] := by
    rw [← List.length_pos_iff_ne_nil, unpoisoned, List.length_map, hlen]
    exact Nat.two_pow_pos _
  obtain ⟨t1, ht1⟩ : ∃ t1, t1 = s.setChan n { c with idx := some (natLE (s.bytes m 4)) } := ⟨_, rfl⟩
  have hchan1 : t1.chan n = { c with idx := some (natLE (s.bytes m 4)) } := by rw [ht1]; exact Table.get_set_same _ _ _ _
  have hstep1 : s.gatherStep n = t1 := by
    rw [State.gatherStep_index hst (hc ▸ hw) (hc ▸ hidx), ← hc, State.busRead_memory herr hpoison hm]
    dsimp only
    rw [State.gatherIndex, unpoisoned_any, unpoisoned_fst, if_neg Bool.false_ne_true, ht1, ← hc]
  obtain ⟨t2, ht2⟩ : ∃ t2, t2 = t1.setChan n { c with idx := some (natLE (s.bytes m 4)), hold := unpoisoned (s.bytes k c.sw) } := ⟨_, rfl⟩
  have hchan2 : t2.chan n = { c with idx := some (natLE (s.bytes m 4)), hold := unpoisoned (s.bytes k c.sw) } := by
    rw [ht2]
    exact Table.get_set_same _ _ _ _
  have hregs1 : t1.regs = s.regs ∧ t1.sys = s.sys ∧ t1.mem = s.mem := by rw [ht1]; exact ⟨rfl, rfl, rfl⟩
  have hregs2 : t2.regs = s.regs ∧ t2.sys = s.sys := by rw [ht2]; exact ⟨hregs1.1, hregs1.2.1⟩
  have htarget : ∀ u : State, u.regs = s.regs → ∀ a n, u.target a n = s.target a n := fun u hur a n =>
    State.target_congr (fun o _ => State.reg_of_regs _ _ hur o) a n
  have hstate : ∀ u : State, u.regs = s.regs → u.chState n = 4 := fun u hur => (State.fld_of_reg (State.reg_of_regs _ _ hur _) _).trans hst
  have hstep2 : t1.gatherStep n = t2 := by
    refine (if_neg fun hno => ?_).trans ?_
    · rcases hno with h | h
      · exact h (hstate t1 hregs1.1)
      · rw [hchan1, show ({ c with idx := some (natLE (s.bytes m 4)) } : Chan).wait = none from hw] at h
        exact Bool.noConfusion h
    · have hsrc : (t1.chan n).srcNow = (c.src + natLE (s.bytes m 4) * c.sw) % 2 ^ 40 := by rw [hchan1]; exact if_pos htype
      have hidx1 : (t1.chan n).idx = some (natLE (s.bytes m 4)) := by rw [hchan1]
      have hhold1 : (t1.chan n).hold.isEmpty = true := by rw [hchan1, List.isEmpty_iff]; exact hhold
      have hsw1 : (t1.chan n).sw = c.sw := by rw [hchan1]; rfl
      have hbytes : t1.bytes k c.sw = s.bytes k c.sw := State.bytes_congr fun i _ => by rw [State.byte, hregs1.2.2, State.byte]
      have hread := State.busRead_memory (s := t1) (path := .ring n) (by rw [hregs1.2.1]; exact herr) (by rw [hregs1.2.1]; exact hpoison)
        ((htarget t1 hregs1.1 _ _).trans hk)
      rw [hidx1]
      dsimp only
      rw [if_pos hhold1, hsrc, hsw1, hread]
      dsimp only
      rw [State.gatherRead, unpoisoned_any, hchan1, hbytes, Bool.or_false, ht2]
  have hstep3 : t2.gatherStep n = (t2.setBytes p (s.bytes k c.sw)).gatherWrote n := by
    refine (if_neg fun hno => ?_).trans ?_
    · rcases hno with h | h
      · exact h (hstate t2 hregs2.1)
      · rw [hchan2, show ({ c with idx := some (natLE (s.bytes m 4)), hold := unpoisoned (s.bytes k c.sw) } : Chan).wait = none from hw] at h
        exact Bool.noConfusion h
    · have hdst : ({ c with idx := some (natLE (s.bytes m 4)), hold := unpoisoned (s.bytes k c.sw) } : Chan).dstNow =
          if c.dstFix then c.dst else (c.dst + c.wr * c.sw) % 2 ^ 40 := by
        change (if c.dstFix then c.dst else if c.type = 1 then (c.dst + c.wr * c.sw) % 2 ^ 40 else _) = _
        rw [if_pos htype]
      have hwrite := State.busWrite_memory (s := t2) (path := .ring n) (data := s.bytes k c.sw) (by rw [hregs2.2]; exact herr)
        (by rw [hregs2.2]; exact hpoison) ((htarget t2 hregs2.1 _ _).trans (by rw [hlen]; exact hp))
      rw [hchan2]
      dsimp only
      rw [if_neg (by rw [List.isEmpty_iff]; exact hne), hdst, hwrite]
  rw [hstep1, hstep2, hstep3] at hexec
  have honly : (s.setBytes p (s.bytes k c.sw)).ChanOnly (t2.setBytes p (s.bytes k c.sw)) n (t2.chan n) (chanPosition n) := by
    rw [hchan2, ht2, ht1]
    exact (((State.ChanOnly.refl s n _).setChan _).setChan _).setBytes _ _
  have hg' : g = { t2.chan n with rd := c.rd + 1, wr := c.wr + 1, idx := none, hold := [] } := by
    rw [hg, hchan2, ← hidx, ← hhold]
  refine ⟨_, honly.setChan g, hexec.trans (congrArg State.done ?_)⟩
  rw [State.gatherWrote, honly.chan, hg', hchan2]
  rfl

end

/-! ## No effect -/

section
variable {s : State} {n : Fin 32} (hu : s.usual)
include hu

/-- A channel that waits for an access makes none (R405). -/
theorem exec_channel_waiting (hw : (s.chan n).wait ≠ none) :
    ∀ i ∈ [Instr.descriptorFetch n, .idmaCopy n, .idmaGather n, .fenceAcknowledged n], exec i s = .next s := by
  have hsome : (s.chan n).wait.isSome = true := Option.isSome_iff_ne_none.mpr hw
  have hstep : s.gatherStep n = s := State.gatherStep_none (.inr hw)
  have hgather : s.chGather n = s := by
    rw [State.chGather]
    refine ite_eq_left_iff.mpr fun _ => ?_
    exact List.foldlRecOn (motive := fun t : State => t = s) _ _ rfl fun t ht _ _ => by rw [ht, hstep]
  simp only [List.forall_mem_cons]
  exact ⟨(congrArg State.done (if_pos (.inr (.inl hsome)))).trans (State.done_of_usual hu),
    (congrArg State.done (if_pos (.inr (.inr (.inl hsome))))).trans (State.done_of_usual hu),
    (congrArg State.done hgather).trans (State.done_of_usual hu),
    (congrArg State.done (if_pos (.inr hsome))).trans (State.done_of_usual hu), fun _ h => absurd h List.not_mem_nil⟩

theorem exec_descriptorFetch_none (h : s.chState n ≠ 1 ∨ s.fld (R.chCtl n) F.chCtl.PAUSE = 1) : exec (.descriptorFetch n) s = .next s :=
  (congrArg State.done (if_pos (h.imp id fun hp => .inr (State.bit_eq_true hp)))).trans (State.done_of_usual hu)

theorem exec_idmaCopy_none (h : s.chState n ≠ 4 ∨ (s.chan n).type ≠ 0 ∨ s.fld (R.chCtl n) F.chCtl.PAUSE = 1) : exec (.idmaCopy n) s = .next s :=
  (congrArg State.done (if_pos (h.imp id fun h' => h'.imp id fun hp => .inr (State.bit_eq_true hp)))).trans (State.done_of_usual hu)

theorem exec_idmaGather_none (h : s.chState n ≠ 4 ∨ (s.chan n).type ≠ 1 ∨ s.fld (R.chCtl n) F.chCtl.PAUSE = 1 ∧ (s.chan n).idx = none) :
    exec (.idmaGather n) s = .next s := by
  refine (congrArg State.done ?_).trans (State.done_of_usual hu)
  rw [State.chGather]
  refine ite_eq_left_iff.mpr fun hno => ?_
  rcases h with h | h | h
  · have hstep : s.gatherStep n = s := State.gatherStep_none (.inl h)
    exact List.foldlRecOn (motive := fun t : State => t = s) _ _ rfl fun t ht _ _ => by rw [ht, hstep]
  · exact absurd (.inl h) hno
  · exact absurd (.inr ⟨State.bit_eq_true h.1, Option.isNone_iff_eq_none.mpr h.2⟩) hno

end

/-- Settles O54. -/
theorem ringChannelsMoveData : Obligations.RingChannelsMoveData := by
  intro s n hu herr st c pause d asks halts bits
  refine ⟨fun i hi hw => exec_channel_waiting hu hw i hi, exec_descriptorFetch_none hu, exec_idmaCopy_none hu, exec_idmaGather_none hu, fun hno => ?_,
    fun hw hst => exec_fenceAcknowledged_next hu hw hst, fun hw hst hp => ⟨fun ht => ?_, fun node off ht => ?_, fun m ht hm => ?_, ?_⟩,
    fun hw hst htype hp => ⟨fun hhold => ?_, fun hhold => ?_⟩, fun hw hst htype hp hidx hhold => ?_⟩
  · exact (congrArg State.done (if_pos (.inl hno))).trans (State.done_of_usual hu)
  · exact exec_chHalt hu ((State.ChanOnly.refl s n []).near (ownRegs_nil n))
      ((exec_descriptorFetch_eq hst hw hp).trans (by rw [State.busRead_none ht])) (by decide) (by decide) (by decide) (State.chDesc_lt _ _)
  · exact exec_chAsk hu ((exec_descriptorFetch_eq hst hw hp).trans (by rw [State.busRead_remote ht]))
  · exact exec_descriptorFetch_poisoned hu hst hw hp herr ht hm
  · intro m ht hpoison f sa da g jumps begun
    have hexec := exec_descriptorFetch_memory hst hw hp herr hpoison ht
    have hg : g = Chan.fetched s.nodeId (dwords (s.bytes m 32)) (s.chan n).from_ := rfl
    refine ⟨fun hown hk => (exec_chFetched_foreign hu hg hexec hown).1 hk, fun hown hk => (exec_chFetched_foreign hu hg hexec hown).2 hk,
      fun hown hc => exec_chFetched_refused hu hg hexec hown hc, fun hown hc htype => ⟨fun hj => exec_chFetched_jump hu hg hexec hown hc htype hj,
      fun hj => exec_chFetched_loop hu hg hexec hown hc htype hj⟩, fun hown hc htype => ?_⟩
    obtain ⟨hplain, hwait, hgo⟩ := exec_chFetched_begun hu hg hexec hown hc htype
    refine ⟨fun hpaced => ?_, fun hpaced h0 => ?_, fun hpaced h0 => ?_⟩
    · obtain ⟨t, hnext, henters, hshow, hj⟩ := hplain hpaced
      exact ⟨t, hnext, henters, hshow, fun _ => hj, fun hm => absurd hm List.not_mem_nil⟩
    · obtain ⟨t, hnext, henters, hshow⟩ := hwait hpaced h0
      exact ⟨t, hnext, henters, hshow, fun h34 => absurd h34 (by decide), fun hm => absurd hm List.not_mem_nil⟩
    · obtain ⟨t, hnext, henters, hshow, hj, hcredit⟩ := hgo hpaced h0
      exact ⟨t, hnext, henters, hshow, fun _ => hj, fun _ => hcredit⟩
  · obtain ⟨hnone, hremote, hmemory⟩ := exec_idmaCopy_read hst htype hw hp hu hhold
    exact ⟨hnone, hremote, fun m ht hpoison => hmemory m ht herr hpoison _ rfl⟩
  · intro beat rest g
    obtain ⟨hbeat, hrest⟩ := (s.chan n).beat_eq
    obtain ⟨hnone, hremote, hmemory⟩ := exec_idmaCopy_write hst htype hw hp hu hhold hbeat.symm
    refine ⟨hnone, hremote, fun m data ht hdata hpoison => ?_⟩
    obtain ⟨hlen, hwritten⟩ := hmemory m data ht hdata herr hpoison
    have hexec := hwritten g (by rw [hrest])
    obtain ⟨hmore, hlast⟩ := exec_dataWritten hu herr hpoison ((State.ChanOnly.refl (s.setBytes m data) n (chanPosition n)).setChan g) hexec
    refine ⟨fun hno => ?_, hlast⟩
    obtain ⟨t, hnext, hstays, hshow, hbytes, hout⟩ := hmore (Nat.not_le.mpr hno)
    rw [hlen] at hbytes hout
    exact ⟨t, hnext, hstays, hshow, hbytes, hout⟩
  · obtain ⟨hnone, hremote⟩ := exec_idmaGather_index hst htype hw hidx hp hu _ rfl
    refine ⟨hnone, hremote, fun m k p hm hk hpp hpoison => ?_⟩
    obtain ⟨z, hz, hexec⟩ := exec_idmaGather_element hst htype hw hidx hp herr hpoison hhold hm hk hpp rfl
    have hlen : (s.bytes k (s.chan n).sw).length = (s.chan n).sw := by rw [State.bytes, List.length_map, List.length_range]
    obtain ⟨hmore, hlast⟩ := exec_dataWritten hu herr hpoison hz hexec
    refine ⟨fun hno => ?_, hlast⟩
    obtain ⟨t, hnext, hstays, hshow, hbytes, hrest⟩ := hmore (Nat.not_le.mpr hno)
    rw [hlen] at hbytes hrest
    exact ⟨t, hnext, hstays, hshow, hbytes, hrest⟩

end Sys2Proof.Machine

/-!
Compatibility channels of the internal DMA: enable, trigger, element moves and errors (R423-R425).
-/
namespace Sys2Proof.Machine

/-! ## Frames -/

/-- The frame of the compatibility channels. -/
def Frame.cc : Frame :=
  ⟨fun s t => { s with regs := t.regs, idma := { s.idma with ccs := t.idma.ccs } }, fun _ => rfl, fun _ _ _ => rfl, fun _ _ _ => rfl,
    fun _ _ _ => rfl, fun _ _ => ⟨rfl, rfl, rfl, rfl, rfl, rfl, rfl⟩⟩

/-- The frame of the compatibility channels and of what is held back. -/
def Frame.ccEff : Frame :=
  ⟨fun s t => { s with regs := t.regs, eff := t.eff, idma := { s.idma with ccs := t.idma.ccs } }, fun _ => rfl, fun _ _ _ => rfl, fun _ _ _ => rfl,
    fun _ _ _ => rfl, fun _ _ => ⟨rfl, rfl, rfl, rfl, rfl, rfl, rfl⟩⟩

/-- The frame of an element's move. -/
def Frame.ccMove : Frame :=
  ⟨fun s t => { s with regs := t.regs, mem := t.mem, pulses := t.pulses, idma := { s.idma with ccs := t.idma.ccs } }, fun _ => rfl, fun _ _ _ => rfl,
    fun _ _ _ => rfl, fun _ _ _ => rfl, fun _ _ => ⟨rfl, rfl, rfl, rfl, rfl, rfl, rfl⟩⟩

/-- A frame in which compatibility channels may change. -/
def Frame.takesCc (F : Frame) : Prop := ∀ (t : State) (n : Nat) (x : Cc), t.setCc n x = F.keep t (t.setCc n x)

theorem Frame.cc_takes : Frame.cc.takesCc := fun _ _ _ => rfl
theorem Frame.ccMove_takes : Frame.ccMove.takesCc := fun _ _ _ => rfl

/-- Compatibility channel n's own state has become c; of the rest only what the frame has and registers at l have changed. -/
structure State.CcOnly (F : Frame) (s t : State) (n : Nat) (c : Cc) (l : List Nat) : Prop where
  only : s.Only F t l
  cc : t.cc n = c
  others : ∀ m, m ≠ n → t.cc m = s.cc m

namespace State.CcOnly
variable {F : Frame} {s t u : State} {n : Nat} {c : Cc} {l m : List Nat}

theorem refl (s : State) (n : Nat) (l : List Nat) : State.CcOnly F s s n (s.cc n) l := ⟨.refl s l, rfl, fun _ _ => rfl⟩

theorem mono (h : State.CcOnly F s t n c l) (hl : l ⊆ m) : State.CcOnly F s t n c m := ⟨h.only.mono hl, h.cc, h.others⟩

theorem setReg (h : State.CcOnly F s t n c l) {o : Nat} (w : Word) (ho : o ∈ l) : State.CcOnly F s (t.setReg o w) n c l :=
  ⟨h.only.setReg w ho, h.cc, h.others⟩

theorem setFld (h : State.CcOnly F s t n c l) {o : Nat} (f : Fld) (x : Nat) (ho : o ∈ l) : State.CcOnly F s (t.setFld o f x) n c l := h.setReg _ ho

/-- A change of registers alone. -/
theorem regs (h : State.CcOnly F s t n c l) {k : List Nat} (hu : t.regsOnly u k) (hk : k ⊆ l) (hF : ∀ (v : State) r, F.keep v { v with regs := r } = { v with regs := r }) :
    State.CcOnly F s u n c l := by
  have hcc : ∀ j, u.cc j = t.cc j := fun j => by rw [State.cc, hu.1, State.cc]
  refine ⟨h.only.trans ⟨?_, hu.2.mono hk⟩, (hcc n).trans h.cc, fun j hj => (hcc j).trans (h.others j hj)⟩
  rw [hu.1]
  exact (hF _ _).symm

theorem setCc (h : State.CcOnly F s t n c l) (hF : F.takesCc) (c' : Cc) : State.CcOnly F s (t.setCc n c') n c' l :=
  ⟨h.only.upd (u := t.setCc n c') (hF t n c') rfl, Table.get_set_same _ _ _ _, fun k hk => (Table.get_set_ne _ _ _ _ _ hk).trans (h.others k hk)⟩

theorem reg (h : State.CcOnly F s t n c l) {o : Nat} (ho : o ∉ l) : t.reg o = s.reg o := h.only.reg o ho

theorem trans {c' : Cc} (h : State.CcOnly F s t n c l) (h' : State.CcOnly F t u n c' l) : State.CcOnly F s u n c' l :=
  ⟨h.only.trans h'.only, h'.cc, fun k hk => (h'.others k hk).trans (h.others k hk)⟩

theorem done (h : State.CcOnly F s t n c l) (hu : s.usual) (hl : ∀ o ∈ l, 0x2C000 ≤ o ∧ o < 0x30000) : State.done t = .next t :=
  h.only.done hu (endIgnores_idma hl)

end State.CcOnly

/-! ## The registers of a compatibility channel -/

/-- Registers that show whether a channel is enabled. -/
def ccStates (n : Nat) : List Nat := [R.ccCcr n, R.ccCsr n, R.idmaCcStat]

/-- CCR.EN, CSR.BUSY and IDMA.CC_STAT show that channel n is enabled, or not. -/
def CcShows (t : State) (n on : Nat) : Prop :=
  t.fld (R.ccCcr n) F.ccCcr.EN = on ∧ t.fld (R.ccCsr n) F.ccCsr.BUSY = on ∧ t.fld R.idmaCcStat ⟨n, 1⟩ = on

section
variable (t : State) {n : Nat} (hn : n < 8)

theorem ccStates_apart (n : Nat) : R.ccCcr n ≠ R.ccCsr n ∧ R.ccCcr n ≠ R.idmaCcStat ∧ R.ccCsr n ≠ R.idmaCcStat := by
  simp only [R.ccCcr, R.ccCsr, R.idmaCcStat]
  omega

theorem State.ccEn_regsOnly (n : Nat) (on : Bool) : t.regsOnly (t.ccEn n on) (ccStates n) :=
  (((State.regsOnly.refl t _).setFld _ _ (by simp [ccStates])).setFld _ _ (by simp [ccStates])).setFld _ _ (by simp [ccStates])

theorem State.ccErr_regsOnly (n : Nat) (on : Bool) : t.regsOnly (t.ccErr n on) (ccStates n) :=
  ((State.regsOnly.refl t _).setFld _ _ (by simp [ccStates])).setFld _ _ (by simp [ccStates])

/-- What CCR holds after EN is set or cleared. -/
theorem State.reg_ccEn (n : Nat) (on : Bool) : (t.ccEn n on).reg (R.ccCcr n) = F.ccCcr.EN.put (t.reg (R.ccCcr n)) (if on then 1 else 0) := by
  obtain ⟨h1, h2, -⟩ := ccStates_apart n
  rw [State.ccEn, State.reg_setFld_ne _ _ _ _ _ h2, State.reg_setFld_ne _ _ _ _ _ h1, State.reg_setFld_same]

include hn

theorem State.ccEn_shows (on : Bool) : CcShows (t.ccEn n on) n (if on then 1 else 0) := by
  obtain ⟨h1, h2, h3⟩ := ccStates_apart n
  have hb : (if on then 1 else 0) % 2 = (if on then 1 else 0) := by cases on <;> rfl
  refine ⟨?_, ?_, ?_⟩
  · rw [State.fld, State.reg_ccEn, Fld.get_put _ _ _ (by decide)]
    exact hb
  · rw [State.ccEn, State.fld_setFld_ne _ _ _ _ _ _ h3, State.fld_setFld _ _ _ _ (by decide)]
    exact hb
  · rw [State.ccEn, State.fld_setFld _ _ _ _ (show n + 1 ≤ 32 by omega)]
    exact hb

/-- CSR.ERR and its copy in IDMA.CC_STAT; what shows the enable stays. -/
theorem State.ccErr_shows : (t.ccErr n true).fld (R.ccCsr n) F.ccCsr.ERR = 1 ∧ (t.ccErr n true).fld R.idmaCcStat ⟨8 + n, 1⟩ = 1 ∧
    (∀ on, CcShows t n on → CcShows (t.ccErr n true) n on) := by
  obtain ⟨h1, h2, h3⟩ := ccStates_apart n
  rw [State.ccErr]
  refine ⟨?_, ?_, fun on hon => ⟨?_, ?_, ?_⟩⟩
  · rw [State.fld_setFld_ne _ _ _ _ _ _ h3, State.fld_setFld _ _ _ _ (by decide)]
    rfl
  · rw [State.fld_setFld _ _ _ _ (show 8 + n + 1 ≤ 32 by omega)]
    rfl
  · rw [State.fld_setFld_ne _ _ _ _ _ _ h2, State.fld_setFld_ne _ _ _ _ _ _ h1]
    exact hon.1
  · rw [State.fld_setFld_ne _ _ _ _ _ _ h3, State.fld_setFld_apart _ _ _ _ _ (by decide) (by decide) (by decide)]
    exact hon.2.1
  · rw [State.fld_setFld_apart _ _ _ _ _ (show 8 + n + 1 ≤ 32 by omega) (show n + 1 ≤ 32 by omega) (.inl (show n + 1 ≤ 8 + n by omega)),
      State.fld_setFld_ne _ _ _ _ _ _ h3.symm]
    exact hon.2.2

end

/-- The registers in which a channel's error is recorded are not its own. -/
theorem ccRecord_apart (n : Nat) : ∀ o ∈ ccStates n, o ∉ idmaRecordRegs := by
  simp only [ccStates, idmaRecordRegs, R.ccCcr, R.ccCsr, R.idmaCcStat, R.idmaBusCnt, R.idmaTmoCnt, R.idmaEccCnt, R.idmaLoopCnt, R.idmaErr,
    R.idmaErrAddrLo, R.idmaErrAddrHi, List.mem_cons, List.not_mem_nil, or_false]
  omega

theorem ccRegs_bound {n : Nat} (hn : n < 8) : ∀ o ∈ ccStates n ++ idmaRecordRegs, 0x2C000 ≤ o ∧ o < 0x30000 := by
  simp only [ccStates, idmaRecordRegs, R.ccCcr, R.ccCsr, R.idmaCcStat, R.idmaBusCnt, R.idmaTmoCnt, R.idmaEccCnt, R.idmaLoopCnt, R.idmaErr,
    R.idmaErrAddrLo, R.idmaErrAddrHi, List.mem_append, List.mem_cons, List.not_mem_nil, or_false]
  omega

section
variable {s t : State} {n : Nat} {c : Cc} {l : List Nat}

/-- The error latched. -/
theorem State.idmaErr_fields (u : State) (hv : u.fld R.idmaErr F.idmaErr.VALID = 0) {ch cause dir kind addr : Nat} (hch : ch < 64) (hcause : cause < 8)
    (hdir : dir < 2) : (u.idmaErr ch cause dir kind addr).fld R.idmaErr F.idmaErr.VALID = 1 ∧
      (u.idmaErr ch cause dir kind addr).fld R.idmaErr F.idmaErr.CAUSE = cause ∧ (u.idmaErr ch cause dir kind addr).fld R.idmaErr F.idmaErr.CH = ch := by
  have hreg : (u.idmaErr ch cause dir kind addr).reg R.idmaErr = BitVec.ofNat 32 (1 + ch * 2 + dir * 2 ^ 7 + cause * 2 ^ 8 + kind * 2 ^ 12) := by
    rw [State.idmaErr, if_neg (by rw [State.bit_eq_false hv]; exact Bool.false_ne_true), Nat.mod_eq_of_lt hch,
      State.reg_setReg64 _ _ _ _ _ (by decide), if_neg (by decide), if_neg (by decide), State.reg_setReg_same]
  simp only [State.fld, hreg, Fld.get_ofNat]
  omega

/-- A compatibility channel halts: it is disabled, CSR.ERR is set and the error recorded (R425). -/
theorem State.ccHalt_halts (h : State.CcOnly Frame.cc s t n c l) (hl : ∀ o ∈ l, o ∉ idmaRecordRegs) (hn : n < 8) {cause dir kind addr : Nat} (ha : addr < 2 ^ 40) :
    State.CcOnly Frame.cc s (t.ccHalt n cause dir kind addr) n { c with wait := none, hold := [], stop := false } (l ++ (ccStates n ++ idmaRecordRegs)) ∧
      CcShows (t.ccHalt n cause dir kind addr) n 0 ∧ (t.ccHalt n cause dir kind addr).fld (R.ccCsr n) F.ccCsr.ERR = 1 ∧
      (t.ccHalt n cause dir kind addr).fld R.idmaCcStat ⟨8 + n, 1⟩ = 1 ∧ IdmaRecords s (t.ccHalt n cause dir kind addr) (32 + n) cause dir kind addr := by
  have hdef : t.ccHalt n cause dir kind addr = ((((t.setCc n { c with wait := none, hold := [], stop := false }).ccEn n false).ccErr n true).idmaCount
      cause).idmaErr (32 + n) cause dir kind addr := by
    rw [← h.cc]
    rfl
  have hF : ∀ (v : State) r, Frame.cc.keep v { v with regs := r } = { v with regs := r } := fun _ _ => rfl
  rw [hdef]
  have h1 := (h.mono (List.subset_append_left l (ccStates n ++ idmaRecordRegs))).setCc Frame.cc_takes { c with wait := none, hold := [], stop := false }
  have hreg1 : ∀ o, (t.setCc n { c with wait := none, hold := [], stop := false }).reg o = t.reg o := fun _ => rfl
  generalize t.setCc n { c with wait := none, hold := [], stop := false } = t1 at h1 hreg1 ⊢
  have hen := t1.ccEn_regsOnly n false
  have h2 := h1.regs hen (fun o ho => by simp [ho]) hF
  have hshow2 := t1.ccEn_shows hn false
  generalize t1.ccEn n false = t2 at hen h2 hshow2 ⊢
  have herr := t2.ccErr_regsOnly n true
  have h3 := h2.regs herr (fun o ho => by simp [ho]) hF
  obtain ⟨he, hstat, hkeep⟩ := t2.ccErr_shows hn
  have hshow3 := hkeep _ hshow2
  generalize t2.ccErr n true = t3 at herr h3 he hstat hshow3 ⊢
  have hrec : t3.regsOnly ((t3.idmaCount cause).idmaErr (32 + n) cause dir kind addr) idmaRecordRegs :=
    ((t3.idmaCount_regsOnly cause).mono (by simp [idmaRecordRegs])).trans
      (((t3.idmaCount cause).idmaErr_regsOnly (32 + n) cause dir kind addr).mono (by simp [idmaRecordRegs]))
  have hfld : ∀ o ∈ ccStates n, ∀ f, ((t3.idmaCount cause).idmaErr (32 + n) cause dir kind addr).fld o f = t3.fld o f := fun o ho f =>
    hrec.fld (ccRecord_apart n o ho) f
  have hccr : R.ccCcr n ∈ ccStates n ∧ R.ccCsr n ∈ ccStates n ∧ R.idmaCcStat ∈ ccStates n := by simp [ccStates]
  refine ⟨h3.regs hrec (fun o ho => by simp [ho]) hF, ⟨?_, ?_, ?_⟩, (hfld _ hccr.2.1 _).trans he, (hfld _ hccr.2.2 _).trans hstat, ?_⟩
  · exact (hfld _ hccr.1 _).trans hshow3.1
  · exact (hfld _ hccr.2.1 _).trans hshow3.2.1
  · exact (hfld _ hccr.2.2 _).trans hshow3.2.2
  · refine IdmaRecords.of_reg (t3.records (show 32 + n < 64 by omega) ha) fun o ho => ?_
    have hap : o ∉ ccStates n := fun hm => ccRecord_apart n o hm ho
    rw [herr.2 o hap, hen.2 o hap, hreg1, h.reg fun hm => hl o hm ho]

end

/-! ## Triggers and failed accesses -/

section
variable {s : State} {n : Fin 8} (hu : s.usual)
include hu

/-- A trigger gives a credit, or is lost (R423). -/
theorem exec_ccTrigger_credit (hsel : s.selOn (R.ccTrigSel n) = true) :
    (s.fld (R.ccCred n) F.ccCred.CREDIT < 255 → ∃ t, exec (.ccTrigger n) s = .next t ∧ s.sameBut t [R.ccCred n] ∧
      t.fld (R.ccCred n) F.ccCred.CREDIT = s.fld (R.ccCred n) F.ccCred.CREDIT + 1) ∧
    (s.fld (R.ccCred n) F.ccCred.CREDIT = 255 → ∃ t, exec (.ccTrigger n) s = .next t ∧ s.sameBut t [R.ccCsr n] ∧ t.fld (R.ccCsr n) F.ccCsr.OVF = 1) := by
  have hl : ∀ o ∈ [R.ccCred n, R.ccCsr n], 0x2C000 ≤ o ∧ o < 0x30000 := by
    simp only [R.ccCred, R.ccCsr, List.mem_cons, List.not_mem_nil, or_false]
    omega
  refine ⟨fun hc => ?_, fun hc => ?_⟩
  · have honly := (State.regsOnly.refl s [R.ccCred n]).setFld F.ccCred.CREDIT (s.fld (R.ccCred n) F.ccCred.CREDIT + 1) (List.mem_singleton_self _)
    refine ⟨_, (congrArg State.done ((if_pos hsel).trans (if_neg (Nat.ne_of_lt hc)))).trans (State.done_of_regsOnly hu honly
      (endIgnores_idma fun o ho => hl o (by simp [List.mem_singleton.mp ho]))), honly.sameBut, ?_⟩
    rw [State.fld_setFld _ _ _ _ (by decide)]
    exact Nat.mod_eq_of_lt (show _ + 1 < 256 by omega)
  · have honly := (State.regsOnly.refl s [R.ccCsr n]).setFld F.ccCsr.OVF 1 (List.mem_singleton_self _)
    exact ⟨_, (congrArg State.done ((if_pos hsel).trans (if_pos hc))).trans (State.done_of_regsOnly hu honly
      (endIgnores_idma fun o ho => hl o (by simp [List.mem_singleton.mp ho]))), honly.sameBut, State.fld_setFld _ _ _ _ (by decide)⟩

omit hu in
theorem State.ccSrc_lt (s : State) (n : Nat) : s.ccSrc n < 2 ^ 40 ∧ s.ccDst n < 2 ^ 40 := by
  have h1 := s.fld_lt (R.ccXhi n) F.ccXhi.SRC
  have h2 := s.fld_lt (R.ccXhi n) F.ccXhi.DST
  have h3 : (s.reg (R.ccSar n)).toNat < 2 ^ 32 := BitVec.isLt _
  have h4 : (s.reg (R.ccDar n)).toNat < 2 ^ 32 := BitVec.isLt _
  simp only [State.ccSrc, State.ccDst] at *
  omega

omit hu in
/-- The access of a compatibility channel fails (R425). -/
theorem exec_idmaFail_compat (ch : Fin 40) (hch : ch.val = 32 + n.val) : ∀ p ∈ [(Instr.idmaBusTimeout ch, 2), (.idmaBusError ch, 1)],
    exec p.1 s = State.done (s.ccFail n p.2) := by
  have hfail : ∀ cause, s.idmaFail ch cause = s.ccFail n cause := fun cause => by
    rw [State.idmaFail, dif_neg (show ¬ch.val < 32 by omega)]
    congr 1
    exact Fin.ext (show ch.val - 32 = n.val by omega)
  simp only [List.forall_mem_cons]
  exact ⟨congrArg State.done (hfail 2), congrArg State.done (hfail 1), fun _ h => absurd h List.not_mem_nil⟩

theorem exec_ccFail_halts {i : Instr} {cause : Nat} (hexec : exec i s = State.done (s.ccFail n cause)) :
    ((s.cc n).wait = none → exec i s = .next s) ∧
    (∀ k ∈ [(2, 0, s.ccSrc n), (3, 1, s.ccDst n)], (s.cc n).wait = some k.1 → ∃ t, exec i s = .next t ∧
      t = { s with regs := t.regs, fab := t.fab, idma := { s.idma with ccs := t.idma.ccs } } ∧
      t.cc n = { s.cc n with wait := none, hold := [], stop := false } ∧ CcShows t n 0 ∧ t.fld (R.ccCsr n) F.ccCsr.ERR = 1 ∧
      t.fld R.idmaCcStat ⟨8 + n, 1⟩ = 1 ∧ IdmaRecords s t (32 + n) cause k.2.1 k.1 k.2.2 ∧
      (∀ off, off ∉ ccStates n ++ idmaRecordRegs → t.reg off = s.reg off)) := by
  refine ⟨fun hw => ?_, fun k hk hw => ?_⟩
  · rw [State.ccFail, hw] at hexec
    exact hexec.trans (State.done_of_usual hu)
  · rw [State.ccFail, hw] at hexec
    have hk' : (if k.1 = 2 then 0 else 1) = k.2.1 ∧ (if k.1 = 2 then s.ccSrc n else s.ccDst n) = k.2.2 ∧ k.2.2 < 2 ^ 40 := by
      fin_cases hk
      · exact ⟨rfl, rfl, (s.ccSrc_lt n).1⟩
      · exact ⟨rfl, rfl, (s.ccSrc_lt n).2⟩
    dsimp only at hexec
    rw [hk'.1, hk'.2.1] at hexec
    obtain ⟨y, hy⟩ : ∃ y, y = s.remoteDrop (.compat n) := ⟨_, rfl⟩
    have hyu : y.usual := State.usual_alike hu (by rw [hy]; exact ⟨rfl, rfl, rfl, rfl, rfl, rfl, rfl⟩) (by rw [hy]; rfl)
    obtain ⟨honly, hshows, herr, hstat, hrec⟩ := State.ccHalt_halts (State.CcOnly.refl y n []) (fun _ h => absurd h List.not_mem_nil) n.isLt
      (cause := cause) (dir := k.2.1) (kind := k.1) hk'.2.2
    rw [← hy] at hexec
    generalize y.ccHalt n cause k.2.1 k.1 k.2.2 = t at hexec honly hshows herr hstat hrec
    refine ⟨t, hexec.trans (honly.done hyu (ccRegs_bound n.isLt)), ?_, ?_, hshows, herr, hstat, ?_, ?_⟩
    · have hstate := honly.only.state
      rw [hstate, hy]
      rfl
    · rw [honly.cc, hy]
      rfl
    · rw [hy] at hrec
      exact hrec
    · intro off hoff
      rw [honly.reg hoff, hy]
      rfl

end

/-! ## Enable and disable -/

section
variable {s : State} {n : Fin 8} {path : Path} {w : Word}

/-- CCR as an idle channel takes it. -/
def State.ccWritten (s : State) (path : Path) (n : Nat) (w : Word) : State := s.writeRow path (R.ccCcr n) Row.ccCcr w false

theorem State.ccWritten_sameBut (s : State) (path : Path) (n : Nat) (w : Word) : s.sameBut (s.ccWritten path n w) [R.ccCcr n] := s.writeRow_sameBut _ _ _ _

/-- The checks of an enabling (R423). -/
theorem State.ccRefused_iff (s : State) (n : Nat) : s.ccRefused n = true ↔
    s.fld (R.ccCcr n) F.ccCcr.SIZE = 3 ∨ s.fld (R.ccTcr n) F.ccTcr.COUNT = 0 ∨ s.ccSrc n % 2 ^ s.fld (R.ccCcr n) F.ccCcr.SIZE ≠ 0 ∨
      s.ccDst n % 2 ^ s.fld (R.ccCcr n) F.ccCcr.SIZE ≠ 0 ∨
      (s.fld (R.ccCcr n) F.ccCcr.SIZE ≠ 2 ∧ (touchesMirror (s.ccSrc n) 1 = true ∨ touchesMirror (s.ccDst n) 1 = true)) := by
  simp only [State.ccRefused, Bool.or_eq_true, Bool.and_eq_true, beq_iff_eq, bne_iff_ne, or_assoc]

theorem Fld.put_one_eq_or (w : Word) : (Fld.mk 0 1).put w 1 = w ||| 1 := by
  refine BitVec.eq_of_getLsbD_eq fun i hi => ?_
  rw [Fld.put_oneBit 0 1 w (by decide) (by decide) hi, BitVec.getLsbD_or]
  by_cases h0 : i = 0
  · rw [if_pos h0, h0]
    simp
  · rw [if_neg h0]
    simp [h0]

theorem Fld.get_lowBit (w : Word) : (Fld.mk 0 1).get w = (w.getLsbD 0).toNat := by
  rw [Fld.get, BitVec.extractLsb'_toNat, Nat.shiftRight_zero, BitVec.getLsbD, Nat.testBit_zero]
  rcases Nat.mod_two_eq_zero_or_one w.toNat with h2 | h2
  · rw [Nat.pow_one, h2]
    rfl
  · rw [Nat.pow_one, h2]
    rfl

theorem Fld.put_bit_of_get {x : Nat} {w : Word} (hx : x < 2) (h : (Fld.mk 0 1).get w = x) : (Fld.mk 0 1).put w x = w := by
  refine BitVec.eq_of_getLsbD_eq fun i hi => ?_
  rw [Fld.put_oneBit 0 x w (by decide) hx hi]
  by_cases h0 : i = 0
  · rw [if_pos h0, h0, ← h, Fld.get_lowBit]
    cases w.getLsbD 0 <;> rfl
  · rw [if_neg h0]

section
variable (hu : s.usual) (hacc : s.accessible path (R.ccCcr n) = true)
include hacc

section
variable (hen : s.fld (R.ccCcr n) F.ccCcr.EN = 0)
include hen

/-- A write that enables an idle channel (R423). -/
theorem State.ccCcrWrite_enable (hw : F.ccCcr.EN.get w = 1) : s.ccCcrWrite path n w =
    if (s.ccWritten path n w).ccRefused n then
      ((((s.ccWritten path n w).free.2.free.2).setFld (R.ccCcr n) F.ccCcr.EN 0).ccErr n true).idmaErr (32 + n) 4 ((s.ccWritten path n w).free.2.free.1 % 2)
        ((s.ccWritten path n w).free.2.free.1 / 2 % 8) (s.ccWritten path n w).free.1
    else ((s.ccWritten path n w).setCc n { sar := ((s.ccWritten path n w).reg (R.ccSar n)).toNat, dar := ((s.ccWritten path n w).reg (R.ccDar n)).toNat
                                           tcr := (s.ccWritten path n w).fld (R.ccTcr n) F.ccTcr.COUNT }).ccEn n true := by
  have hwas : s.bit (R.ccCcr n) F.ccCcr.EN = false := State.bit_eq_false hen
  rw [State.ccCcrWrite, State.onWrite_of _ _ _ _ hacc, hwas]
  simp only [hw, if_true, Bool.false_eq_true, if_false]
  rfl

/-- An idle channel stays disabled (R425). -/
theorem exec_ccDisable_idle (hu : s.usual) : ∃ t, exec (.ccDisable path n w) s = .next t ∧ s.sameBut t [R.ccCcr n] := by
  have hwas : s.bit (R.ccCcr n) F.ccCcr.EN = false := State.bit_eq_false hen
  have h0 : F.ccCcr.EN.get (F.ccCcr.EN.put w 0) = 0 := Fld.get_put _ _ _ (by decide)
  have hdef : s.ccCcrWrite path n (F.ccCcr.EN.put w 0) = s.ccWritten path n (F.ccCcr.EN.put w 0) := by
    rw [State.ccCcrWrite, State.onWrite_of _ _ _ _ hacc, hwas]
    simp only [h0, Nat.zero_ne_one, if_false, Bool.not_false, if_true]
    rfl
  have hsame := s.ccWritten_sameBut path n (F.ccCcr.EN.put w 0)
  exact ⟨_, (congrArg State.done hdef).trans (State.done_of_regs hu hsame (endIgnores_idma fun o ho => by
    rw [List.mem_singleton.mp ho]; simp only [R.ccCcr]; omega)), hsame⟩

omit hacc hen in
/-- The registers of a channel whose CCR has been written, but for CCR. -/
theorem State.ccWritten_regs : (s.ccWritten path n w).reg (R.ccSar n) = s.reg (R.ccSar n) ∧ (s.ccWritten path n w).reg (R.ccDar n) = s.reg (R.ccDar n) ∧
    (s.ccWritten path n w).fld (R.ccTcr n) F.ccTcr.COUNT = s.fld (R.ccTcr n) F.ccTcr.COUNT ∧
    (s.ccWritten path n w).ccSrc n = s.ccSrc n ∧ (s.ccWritten path n w).ccDst n = s.ccDst n := by
  have hne : R.ccSar n ≠ R.ccCcr n ∧ R.ccDar n ≠ R.ccCcr n ∧ R.ccTcr n ≠ R.ccCcr n ∧ R.ccXhi n ≠ R.ccCcr n := by
    simp only [R.ccSar, R.ccDar, R.ccTcr, R.ccXhi, R.ccCcr]
    omega
  have hreg : ∀ o, o ≠ R.ccCcr n → (s.ccWritten path n w).reg o = s.reg o := fun o ho => ((s.ccWritten_sameBut path n w).2 o (by simpa using ho)).1
  refine ⟨hreg _ hne.1, hreg _ hne.2.1, State.fld_of_reg (hreg _ hne.2.2.1) _, ?_, ?_⟩
  · rw [State.ccSrc, State.fld_of_reg (hreg _ hne.2.2.2), hreg _ hne.1, State.ccSrc]
  · rw [State.ccDst, State.fld_of_reg (hreg _ hne.2.2.2), hreg _ hne.2.1, State.ccDst]

omit hacc hen in
theorem State.ccRefused_written : (s.ccWritten path n (F.ccCcr.EN.put w 1)).ccRefused n = true ↔
    F.ccCcr.SIZE.get w = 3 ∨ s.fld (R.ccTcr n) F.ccTcr.COUNT = 0 ∨ s.ccSrc n % 2 ^ F.ccCcr.SIZE.get w ≠ 0 ∨ s.ccDst n % 2 ^ F.ccCcr.SIZE.get w ≠ 0 ∨
      (F.ccCcr.SIZE.get w ≠ 2 ∧ (touchesMirror (s.ccSrc n) 1 = true ∨ touchesMirror (s.ccDst n) 1 = true)) := by
  obtain ⟨-, -, hcount, hsrc, hdst⟩ := State.ccWritten_regs (s := s) (n := n) (path := path) (w := F.ccCcr.EN.put w 1)
  have hsize : (s.ccWritten path n (F.ccCcr.EN.put w 1)).fld (R.ccCcr n) F.ccCcr.SIZE = F.ccCcr.SIZE.get w :=
    (State.fld_writeRow_of_takes _ _ _ _ (by decide) (by decide)).trans (Fld.get_put_apart _ _ _ _ (by decide) (by decide) (by decide))
  rw [State.ccRefused_iff, hcount, hsrc, hdst, hsize]

omit hacc hen in
theorem State.ccWritten_only (s : State) (path : Path) (n : Nat) (w : Word) : State.CcOnly Frame.ccEff s (s.ccWritten path n w) n (s.cc n) (ccStates n) := by
  have hsame := s.ccWritten_sameBut path n w
  have hcc : ∀ j, (s.ccWritten path n w).cc j = s.cc j := fun j => by rw [State.cc, hsame.1, State.cc]
  exact ⟨(hsame.mono (by simp [ccStates])).only fun _ _ _ => rfl, hcc n, fun j _ => hcc j⟩

/-- An accepted enabling (R423). -/
theorem exec_ccEnable_ok (hu : s.usual) (hok : ¬(s.ccWritten path n (F.ccCcr.EN.put w 1)).ccRefused n = true) :
    ∃ t, exec (.ccEnable path n w) s = .next t ∧ CcShows t n 1 ∧ t.reg (R.ccCcr n) = Row.ccCcr.written (s.reg (R.ccCcr n)) (w ||| 1) ∧
      State.CcOnly Frame.ccEff s t n { sar := (s.reg (R.ccSar n)).toNat, dar := (s.reg (R.ccDar n)).toNat, tcr := s.fld (R.ccTcr n) F.ccTcr.COUNT }
        (ccStates n) := by
  have hw : F.ccCcr.EN.get (F.ccCcr.EN.put w 1) = 1 := Fld.get_put _ _ _ (by decide)
  obtain ⟨hsar, hdar, hcount, -, -⟩ := State.ccWritten_regs (s := s) (n := n) (path := path) (w := F.ccCcr.EN.put w 1)
  have hdef := (State.ccCcrWrite_enable hacc hen hw).trans (if_neg hok)
  rw [hsar, hdar, hcount] at hdef
  obtain ⟨x, hx⟩ : ∃ x : Cc, x = { sar := (s.reg (R.ccSar n)).toNat, dar := (s.reg (R.ccDar n)).toNat, tcr := s.fld (R.ccTcr n) F.ccTcr.COUNT } := ⟨_, rfl⟩
  rw [← hx] at hdef ⊢
  have honly := (s.ccWritten_only path n (F.ccCcr.EN.put w 1)).setCc (fun _ _ _ => rfl) x
  have hccr : ((s.ccWritten path n (F.ccCcr.EN.put w 1)).setCc n x).reg (R.ccCcr n) = Row.ccCcr.written (s.reg (R.ccCcr n)) (w ||| 1) := by
    rw [← Fld.put_one_eq_or]
    exact (State.reg_writeRow s path (R.ccCcr n) Row.ccCcr (F.ccCcr.EN.put w 1) (R.ccCcr n)).trans (if_pos rfl)
  generalize (s.ccWritten path n (F.ccCcr.EN.put w 1)).setCc n x = y at hdef honly hccr
  have hfinal := honly.regs (y.ccEn_regsOnly n true) (List.Subset.refl _) fun _ _ => rfl
  refine ⟨_, (congrArg State.done hdef).trans (hfinal.done hu fun o ho => ccRegs_bound n.isLt o (List.mem_append_left _ ho)), y.ccEn_shows n.isLt true, ?_, hfinal⟩
  rw [State.reg_ccEn, hccr]
  refine Fld.put_bit_of_get (by decide) ((RegRow.get_written_of_takes (f := F.ccCcr.EN) _ _ (by decide) (by decide)).trans ?_)
  rw [← Fld.put_one_eq_or]
  exact hw

/-- A refused enabling (R423). -/
theorem exec_ccEnable_refused (hu : s.usual) (hbad : (s.ccWritten path n (F.ccCcr.EN.put w 1)).ccRefused n = true) :
    ∃ t, exec (.ccEnable path n w) s = .next t ∧ t.fld (R.ccCcr n) F.ccCcr.EN = 0 ∧ t.fld (R.ccCsr n) F.ccCsr.ERR = 1 ∧
      t.fld R.idmaCcStat ⟨8 + n, 1⟩ = 1 ∧ t = { s with regs := t.regs, eff := t.eff, freeCount := t.freeCount } ∧
      (s.fld R.idmaErr F.idmaErr.VALID = 0 → t.fld R.idmaErr F.idmaErr.VALID = 1 ∧ t.fld R.idmaErr F.idmaErr.CAUSE = 4 ∧
        t.fld R.idmaErr F.idmaErr.CH = 32 + n) ∧
      (∀ off, off ∉ [R.ccCcr n, R.ccCsr n, R.idmaCcStat, R.idmaErr, R.idmaErrAddrLo, R.idmaErrAddrHi] → t.reg off = s.reg off) := by
  have hw : F.ccCcr.EN.get (F.ccCcr.EN.put w 1) = 1 := Fld.get_put _ _ _ (by decide)
  have hdef := (State.ccCcrWrite_enable hacc hen hw).trans (if_pos hbad)
  have hsame := s.ccWritten_sameBut path n (F.ccCcr.EN.put w 1)
  generalize s.ccWritten path n (F.ccCcr.EN.put w 1) = s1 at hdef hsame
  obtain ⟨y, hy⟩ : ∃ y, y = s1.free.2.free.2 := ⟨_, rfl⟩
  have hyregs : y.regs = s1.regs := by rw [hy]; rfl
  have hystate : y = { s with regs := y.regs, eff := y.eff, freeCount := y.freeCount } := by
    rw [hy, hsame.1]
    rfl
  rw [← hy] at hdef
  have hdir : s1.free.2.free.1 % 2 < 2 := Nat.mod_lt _ (by decide)
  generalize s1.free.2.free.1 % 2 = dir, s1.free.2.free.1 / 2 % 8 = kind, s1.free.1 = addr at hdef hdir
  have h1 := (State.regsOnly.refl y (ccStates n)).setFld (o := R.ccCcr n) F.ccCcr.EN 0 (by simp [ccStates])
  have hen1 : (y.setFld (R.ccCcr n) F.ccCcr.EN 0).fld (R.ccCcr n) F.ccCcr.EN = 0 := State.fld_setFld _ _ _ _ (by decide)
  generalize y.setFld (R.ccCcr n) F.ccCcr.EN 0 = y1 at hdef h1 hen1
  have h2 := h1.trans (y1.ccErr_regsOnly n true)
  obtain ⟨herr, hstat, -⟩ := y1.ccErr_shows n.isLt
  have hen2 : (y1.ccErr n true).fld (R.ccCcr n) F.ccCcr.EN = 0 := by
    obtain ⟨ha, hb, -⟩ := ccStates_apart n
    rw [State.ccErr, State.fld_setFld_ne _ _ _ _ _ _ hb, State.fld_setFld_ne _ _ _ _ _ _ ha]
    exact hen1
  generalize y1.ccErr n true = y2 at hdef h2 herr hstat hen2
  have h3 := y2.idmaErr_regsOnly (32 + n) 4 dir kind addr
  have hap : ∀ o ∈ ccStates n, o ∉ [R.idmaErr, R.idmaErrAddrLo, R.idmaErrAddrHi] := fun o ho hm =>
    ccRecord_apart n o ho (by simp only [idmaRecordRegs, List.mem_cons, List.not_mem_nil, or_false] at hm ⊢; omega)
  have hccr : R.ccCcr n ∈ ccStates n ∧ R.ccCsr n ∈ ccStates n ∧ R.idmaCcStat ∈ ccStates n := by simp [ccStates]
  have hvalid : y2.fld R.idmaErr F.idmaErr.VALID = s.fld R.idmaErr F.idmaErr.VALID := by
    have hmem : R.idmaErr ∉ ccStates n := fun hm => hap _ hm (by simp)
    rw [h2.fld hmem]
    refine State.fld_of_reg ((State.reg_of_regs _ _ hyregs _).trans (hsame.2 _ ?_).1) _
    exact fun hm => hmem (by rw [List.mem_singleton.mp hm]; exact hccr.1)
  have hrecorded : y2.fld R.idmaErr F.idmaErr.VALID = 0 → (y2.idmaErr (32 + n) 4 dir kind addr).fld R.idmaErr F.idmaErr.VALID = 1 ∧
      (y2.idmaErr (32 + n) 4 dir kind addr).fld R.idmaErr F.idmaErr.CAUSE = 4 ∧ (y2.idmaErr (32 + n) 4 dir kind addr).fld R.idmaErr F.idmaErr.CH = 32 + n :=
    fun hv => y2.idmaErr_fields hv (ch := 32 + n) (by omega) (by decide) hdir
  generalize y2.idmaErr (32 + n) 4 dir kind addr = t at hdef h3 hrecorded
  have hreg : ∀ off, off ∉ [R.ccCcr n, R.ccCsr n, R.idmaCcStat, R.idmaErr, R.idmaErrAddrLo, R.idmaErrAddrHi] → t.reg off = s.reg off := fun off hoff => by
    simp only [List.mem_cons, List.not_mem_nil, or_false, not_or] at hoff
    rw [h3.2 off (by simp; omega), h2.2 off (by simp [ccStates]; omega), State.reg_of_regs _ _ hyregs, (hsame.2 off (by simp; omega)).1]
  have hstate : t = { s with regs := t.regs, eff := t.eff, freeCount := t.freeCount } := by
    rw [h3.1, h2.1, hystate]
  refine ⟨t, ?_, (h3.fld (hap _ hccr.1) _).trans hen2, (h3.fld (hap _ hccr.2.1) _).trans herr, (h3.fld (hap _ hccr.2.2) _).trans hstat, hstate,
    fun hv => hrecorded (hvalid.trans hv), hreg⟩
  refine (congrArg State.done hdef).trans (State.done_of_endsAlike hu (by rw [hstate]; exact ⟨rfl, rfl, rfl, rfl, rfl, rfl, rfl⟩) hreg (endIgnores_idma fun o ho => ?_))
  simp only [List.mem_cons, List.not_mem_nil, or_false, R.ccCcr, R.ccCsr, R.idmaCcStat, R.idmaErr, R.idmaErrAddrLo, R.idmaErrAddrHi] at ho
  omega

end

section
variable (hidle : w &&& 0x1FFFE = s.reg (R.ccCcr n) &&& 0x1FFFE)
include hidle

omit hacc in
/-- The Idle only fields stay: the write is taken but for them. -/
theorem State.ccWritten_busy : s.writeRow path (R.ccCcr n) Row.ccCcr (F.ccCcr.EN.put w 0) true =
    s.writeRow path (R.ccCcr n) Row.ccCcr.nowOnly (F.ccCcr.EN.put w 0) false := by
  refine s.writeRow_busy path _ _ _ ?_
  have hput : (F.ccCcr.EN.put w 0) &&& 0x1FFFE = w &&& 0x1FFFE := by
    refine BitVec.eq_of_getLsbD_eq fun i hi => ?_
    rw [BitVec.getLsbD_and, BitVec.getLsbD_and, Fld.put_oneBit 0 0 w (by decide) (by decide) hi]
    by_cases h0 : i = 0
    · rw [h0]
      simp
    · rw [if_neg h0]
  change (s.reg (R.ccCcr n) ^^^ F.ccCcr.EN.put w 0) &&& 0x1FFFE = 0
  refine BitVec.eq_of_getLsbD_eq fun i _ => ?_
  have hbit := congrArg (fun v => v.getLsbD i) (hput.trans hidle)
  simp only [BitVec.getLsbD_and, BitVec.getLsbD_xor] at hbit ⊢
  rw [Bool.and_xor_distrib_right, hbit, Bool.xor_self]
  exact BitVec.getLsbD_zero.symm

/-- A write that disables a channel in use (R425). -/
theorem exec_ccDisable_running (hen : s.fld (R.ccCcr n) F.ccCcr.EN = 1) (hu : s.usual) :
    ((s.cc n).wait = none → ∃ t, exec (.ccDisable path n w) s = .next t ∧ State.CcOnly Frame.ccEff s t n (s.cc n) (ccStates n) ∧ CcShows t n 0) ∧
    ((s.cc n).wait ≠ none → ∃ t, exec (.ccDisable path n w) s = .next t ∧ State.CcOnly Frame.ccEff s t n { s.cc n with stop := true } [] ∧
      t.fld (R.ccCcr n) F.ccCcr.EN = 1) := by
  have hwas : s.bit (R.ccCcr n) F.ccCcr.EN = true := State.bit_eq_true hen
  have h0 : F.ccCcr.EN.get (F.ccCcr.EN.put w 0) = 0 := Fld.get_put _ _ _ (by decide)
  have hsame : s.sameBut (s.writeRow path (R.ccCcr n) Row.ccCcr.nowOnly (F.ccCcr.EN.put w 0) false) [R.ccCcr n] := s.writeRow_sameBut _ _ _ _
  have hccr : (s.writeRow path (R.ccCcr n) Row.ccCcr.nowOnly (F.ccCcr.EN.put w 0) false).reg (R.ccCcr n) =
      Row.ccCcr.nowOnly.written (s.reg (R.ccCcr n)) (F.ccCcr.EN.put w 0) := by
    rw [State.reg_writeRow, if_pos rfl]
  have hdef : s.ccCcrWrite path n (F.ccCcr.EN.put w 0) =
      (let s1 := s.writeRow path (R.ccCcr n) Row.ccCcr.nowOnly (F.ccCcr.EN.put w 0) false
       if (s1.cc n).wait.isSome then (s1.setFld (R.ccCcr n) F.ccCcr.EN 1).setCc n { s1.cc n with stop := true } else s1.ccEn n false) := by
    rw [State.ccCcrWrite, State.onWrite_of _ _ _ _ hacc, hwas]
    simp only [h0, Nat.zero_ne_one, if_false, Bool.not_true, Bool.false_eq_true, State.ccWritten_busy (path := path) hidle]
  generalize s.writeRow path (R.ccCcr n) Row.ccCcr.nowOnly (F.ccCcr.EN.put w 0) false = s1 at hsame hccr hdef
  have hcc : ∀ j, s1.cc j = s.cc j := fun j => by rw [State.cc, hsame.1, State.cc]
  have honly : State.CcOnly Frame.ccEff s s1 n (s.cc n) (ccStates n) :=
    ⟨(hsame.mono (by simp [ccStates])).only fun _ _ _ => rfl, hcc n, fun j _ => hcc j⟩
  dsimp only at hdef
  rw [hcc n] at hdef
  refine ⟨fun hw => ?_, fun hw => ?_⟩
  · rw [if_neg (by rw [hw]; exact Bool.false_ne_true)] at hdef
    have hfinal := honly.regs (s1.ccEn_regsOnly n false) (List.Subset.refl _) fun _ _ => rfl
    exact ⟨_, (congrArg State.done hdef).trans (hfinal.done hu fun o ho => ccRegs_bound n.isLt o (List.mem_append_left _ ho)), hfinal, s1.ccEn_shows n.isLt false⟩
  · rw [if_pos (Option.isSome_iff_ne_none.mpr hw)] at hdef
    have hfinal := (honly.setFld (o := R.ccCcr n) F.ccCcr.EN 1 (by simp [ccStates])).setCc (fun _ _ _ => rfl) { s.cc n with stop := true }
    have hrestored : F.ccCcr.EN.put (s1.reg (R.ccCcr n)) 1 = s.reg (R.ccCcr n) := by
      rw [hccr]
      refine BitVec.eq_of_getLsbD_eq fun i hi => ?_
      rw [Fld.put_oneBit 0 1 _ (by decide) (by decide) hi, RegRow.written_bit _ _ i hi]
      have hen' : (s.reg (R.ccCcr n)).getLsbD 0 = true := by
        have hget := hen
        rw [State.fld, Fld.get_lowBit] at hget
        exact Bool.toNat_eq_one.mp hget
      have htakes : Row.ccCcr.nowOnly.takes.getLsbD i = decide (i = 0) := by
        rw [show Row.ccCcr.nowOnly.takes = 1#32 by decide]
        simp
      by_cases h0 : i = 0
      · rw [if_pos h0, h0, hen']
        rfl
      · rw [if_neg h0, htakes, decide_eq_false h0, show BitVec.ofNat 32 Row.ccCcr.nowOnly.w1c = 0 by decide]
        simp
    have hreg : ∀ o, ((s1.setFld (R.ccCcr n) F.ccCcr.EN 1).setCc n { s.cc n with stop := true }).reg o = s.reg o := fun o => by
      change (s1.setFld (R.ccCcr n) F.ccCcr.EN 1).reg o = _
      by_cases ho : o = R.ccCcr n
      · rw [ho, State.reg_setFld_same, hrestored]
      · rw [State.reg_setFld_ne _ _ _ _ _ ho, (hsame.2 o (by simpa using ho)).1]
    refine ⟨_, (congrArg State.done hdef).trans (hfinal.done hu fun o ho => ccRegs_bound n.isLt o (List.mem_append_left _ ho)),
      ⟨⟨hfinal.only.state, fun o _ => hreg o⟩, hfinal.cc, hfinal.others⟩, (State.fld_of_reg (hreg _) _).trans hen⟩

end

end

end

/-! ## The element's move -/

/-- Registers that an element's move changes. -/
def ccMoved (n : Nat) : List Nat := ccStates n ++ [R.ccSar n, R.ccDar n, R.ccTcr n]

section
variable {s t : State} {n : Nat} {c : Cc} {l : List Nat}

/-- The registers of a channel lie apart. -/
theorem ccRegs_apart (n : Nat) : (R.ccSar n ≠ R.ccDar n ∧ R.ccSar n ≠ R.ccTcr n ∧ R.ccDar n ≠ R.ccTcr n) ∧
    (∀ o ∈ [R.ccSar n, R.ccDar n, R.ccTcr n], o ∉ ccStates n) := by
  simp only [ccStates, R.ccSar, R.ccDar, R.ccTcr, R.ccCcr, R.ccCsr, R.idmaCcStat, List.mem_cons, List.not_mem_nil, or_false]
  refine ⟨?_, ?_⟩
  · omega
  · omega

/-- The addresses and the count move on (R424). -/
def State.ccAdvanced (t : State) (n : Nat) : State :=
  let sz := t.ccSize n
  let s1 := if t.bit (R.ccCcr n) F.ccCcr.SINC then t.setReg (R.ccSar n) (t.reg (R.ccSar n) + BitVec.ofNat 32 sz) else t
  let s2 := if s1.bit (R.ccCcr n) F.ccCcr.DINC then s1.setReg (R.ccDar n) (s1.reg (R.ccDar n) + BitVec.ofNat 32 sz) else s1
  s2.setFld (R.ccTcr n) F.ccTcr.COUNT (s2.fld (R.ccTcr n) F.ccTcr.COUNT - 1)

theorem State.ccAdvanced_regsOnly (t : State) (n : Nat) : t.regsOnly (t.ccAdvanced n) [R.ccSar n, R.ccDar n, R.ccTcr n] := by
  rw [State.ccAdvanced]
  refine State.regsOnly.setFld ?_ _ _ (by simp)
  split_ifs
  · exact ((State.regsOnly.refl t _).setReg _ (by simp)).setReg _ (by simp)
  · exact (State.regsOnly.refl t _).setReg _ (by simp)
  · exact (State.regsOnly.refl t _).setReg _ (by simp)
  · exact .refl t _

/-- The addresses and the count after an element. -/
theorem State.reg_ccAdvanced (t : State) (n : Nat) :
    (t.ccAdvanced n).reg (R.ccSar n) = t.reg (R.ccSar n) + (if t.fld (R.ccCcr n) F.ccCcr.SINC = 1 then BitVec.ofNat 32 (t.ccSize n) else 0) ∧
    (t.ccAdvanced n).reg (R.ccDar n) = t.reg (R.ccDar n) + (if t.fld (R.ccCcr n) F.ccCcr.DINC = 1 then BitVec.ofNat 32 (t.ccSize n) else 0) ∧
    (t.ccAdvanced n).fld (R.ccTcr n) F.ccTcr.COUNT = t.fld (R.ccTcr n) F.ccTcr.COUNT - 1 := by
  obtain ⟨⟨h1, h2, h3⟩, hap⟩ := ccRegs_apart n
  have hccr : R.ccCcr n ≠ R.ccSar n := fun h => hap (R.ccSar n) (by simp) (by rw [← h]; simp [ccStates])
  have hcount := t.fld_lt (R.ccTcr n) F.ccTcr.COUNT
  obtain ⟨u, hu⟩ : ∃ u, u = (if t.bit (R.ccCcr n) F.ccCcr.SINC then t.setReg (R.ccSar n) (t.reg (R.ccSar n) + BitVec.ofNat 32 (t.ccSize n)) else t) := ⟨_, rfl⟩
  obtain ⟨v, hv⟩ : ∃ v, v = (if u.bit (R.ccCcr n) F.ccCcr.DINC then u.setReg (R.ccDar n) (u.reg (R.ccDar n) + BitVec.ofNat 32 (t.ccSize n)) else u) := ⟨_, rfl⟩
  have hdef : t.ccAdvanced n = v.setFld (R.ccTcr n) F.ccTcr.COUNT (v.fld (R.ccTcr n) F.ccTcr.COUNT - 1) := by
    rw [hv, hu]
    rfl
  have husar : u.reg (R.ccSar n) = t.reg (R.ccSar n) + (if t.fld (R.ccCcr n) F.ccCcr.SINC = 1 then BitVec.ofNat 32 (t.ccSize n) else 0) := by
    rw [hu]
    by_cases hb : t.fld (R.ccCcr n) F.ccCcr.SINC = 1
    · rw [if_pos (State.bit_eq_true hb), if_pos hb, State.reg_setReg_same]
    · rw [if_neg (fun hyes => hb ((State.bit_iff_one rfl).mp hyes)), if_neg hb]
      exact (BitVec.add_zero _).symm
  have hurest : ∀ o, o ≠ R.ccSar n → u.reg o = t.reg o := fun o ho => by
    rw [hu]
    split
    · rw [State.reg_setReg_ne _ _ _ _ ho]
    · rfl
  have hvdar : v.reg (R.ccDar n) = t.reg (R.ccDar n) + (if t.fld (R.ccCcr n) F.ccCcr.DINC = 1 then BitVec.ofNat 32 (t.ccSize n) else 0) := by
    have hdinc : u.fld (R.ccCcr n) F.ccCcr.DINC = t.fld (R.ccCcr n) F.ccCcr.DINC := State.fld_of_reg (hurest _ hccr) _
    rw [hv, ← hdinc]
    by_cases hb : u.fld (R.ccCcr n) F.ccCcr.DINC = 1
    · rw [if_pos (State.bit_eq_true hb), if_pos hb, State.reg_setReg_same, hurest _ h1.symm]
    · rw [if_neg (fun hyes => hb ((State.bit_iff_one rfl).mp hyes)), if_neg hb, hurest _ h1.symm]
      exact (BitVec.add_zero _).symm
  have hvrest : ∀ o, o ≠ R.ccDar n → v.reg o = u.reg o := fun o ho => by
    rw [hv]
    split
    · rw [State.reg_setReg_ne _ _ _ _ ho]
    · rfl
  rw [hdef]
  refine ⟨?_, ?_, ?_⟩
  · rw [State.reg_setFld_ne _ _ _ _ _ h2, hvrest _ h1, husar]
  · rw [State.reg_setFld_ne _ _ _ _ _ h3, hvdar]
  · rw [State.fld_setFld _ _ _ _ (by decide), State.fld_of_reg ((hvrest _ h3.symm).trans (hurest _ h2.symm))]
    exact Nat.mod_eq_of_lt (lt_of_le_of_lt (Nat.sub_le _ _) hcount)

/-- The end of a transfer, event and reload apart (R424). -/
theorem State.ccTerminal_eq (t : State) (n : Nat) : t.ccTerminal n =
    (let u := if t.fld (R.ccCcr n) F.ccCcr.TCIE = 1 then (t.setFld (R.ccCsr n) F.ccCsr.TC 1).fire (96 + n) else t.setFld (R.ccCsr n) F.ccCsr.TC 1
     if t.fld (R.ccCcr n) F.ccCcr.CIRC = 1 then
       ((u.setReg (R.ccSar n) (BitVec.ofNat 32 (t.cc n).sar)).setReg (R.ccDar n) (BitVec.ofNat 32 (t.cc n).dar)).setFld (R.ccTcr n) F.ccTcr.COUNT (t.cc n).tcr
     else u.ccEn n false) := by
  have hne := (ccStates_apart n).1
  rw [State.ccTerminal]
  have hfld : ∀ f, (t.setFld (R.ccCsr n) F.ccCsr.TC 1).fld (R.ccCcr n) f = t.fld (R.ccCcr n) f := fun f => State.fld_setFld_ne _ _ _ _ _ _ hne
  have hcc : (t.setFld (R.ccCsr n) F.ccCsr.TC 1).cc n = t.cc n := rfl
  generalize t.setFld (R.ccCsr n) F.ccCsr.TC 1 = v at hfld hcc ⊢
  have htcie : v.bit (R.ccCcr n) F.ccCcr.TCIE = true ↔ t.fld (R.ccCcr n) F.ccCcr.TCIE = 1 := by rw [State.bit_iff_one rfl, hfld]
  by_cases h1 : t.fld (R.ccCcr n) F.ccCcr.TCIE = 1
  · have hcirc : (v.fire (96 + n)).bit (R.ccCcr n) F.ccCcr.CIRC = true ↔ t.fld (R.ccCcr n) F.ccCcr.CIRC = 1 := by
      rw [State.bit_iff_one rfl, fld_fire, hfld]
    simp only [if_pos h1, if_pos (htcie.mpr h1), hcirc, ← hcc]
    rfl
  · have hcirc : v.bit (R.ccCcr n) F.ccCcr.CIRC = true ↔ t.fld (R.ccCcr n) F.ccCcr.CIRC = 1 := by rw [State.bit_iff_one rfl, hfld]
    simp only [if_neg h1, if_neg (fun h => h1 (htcie.mp h)), hcirc, hcc]

theorem State.cc_ccTerminal (t : State) (n k : Nat) : (t.ccTerminal n).cc k = t.cc k := by
  rw [State.ccTerminal_eq]
  dsimp only
  split_ifs <;> rfl

/-- The element is done: its state, and the end of the transfer if the count is 0 (R423-R425). -/
theorem State.ccElementDone_eq (t : State) (n : Nat) (hcc : t.cc n = c) (hstop : c.stop = false) :
    t.ccElementDone n =
      (let u := (t.setCc n { c with hold := [], wait := none, burst := c.burst - 1 }).ccAdvanced n
       if u.fld (R.ccTcr n) F.ccTcr.COUNT = 0 then (u.setCc n { c with hold := [], wait := none, burst := 0 }).ccTerminal n else u) := by
  delta State.ccElementDone
  extract_lets sz c0 s0 s1 s2 left s3 c3 s4 c4 u
  have hs0 : s0 = t.setCc n { c with hold := [], wait := none, burst := c.burst - 1 } := by rw [← hcc]
  have hu : u = s3 := by
    rw [show u = s0.ccAdvanced n from congrArg (fun v : State => v.ccAdvanced n) hs0.symm]
    rfl
  have hleft : u.fld (R.ccTcr n) F.ccTcr.COUNT = left := by
    rw [hu]
    refine (State.fld_setFld _ _ _ _ (by decide)).trans (Nat.mod_eq_of_lt (lt_of_le_of_lt (Nat.sub_le _ _) (s2.fld_lt _ _)))
  have hc3 : c3 = { c with hold := [], wait := none, burst := c.burst - 1 } := by
    have hs3 : s3.cc n = s0.cc n := by
      rw [State.cc, ← hu, show u = s0.ccAdvanced n from congrArg (fun v : State => v.ccAdvanced n) hs0.symm, (s0.ccAdvanced_regsOnly n).1, State.cc]
    rw [show c3 = s3.cc n from rfl, hs3, hs0]
    exact Table.get_set_same _ _ _ _
  have hs4 : s4 = if u.fld (R.ccTcr n) F.ccTcr.COUNT = 0 then (u.setCc n { c with hold := [], wait := none, burst := 0 }).ccTerminal n else u := by
    rw [hleft, hu, show s4 = if left = 0 then (s3.setCc n { c3 with burst := 0 }).ccTerminal n else s3 from rfl, hc3]
  have hkeep : (s4.cc n).stop = false := by
    rw [hs4]
    split
    · rw [State.cc_ccTerminal, show (u.setCc n { c with hold := [], wait := none, burst := 0 }).cc n = _ from Table.get_set_same _ _ _ _]
      exact hstop
    · rw [hu, show s3.cc n = c3 from rfl, hc3]
      exact hstop
  rw [if_neg (by rw [hkeep]; exact Bool.false_ne_true)]
  exact hs4

theorem ccMoved_mem (n : Nat) : R.ccCcr n ∈ ccMoved n ∧ R.ccCsr n ∈ ccMoved n ∧ R.idmaCcStat ∈ ccMoved n ∧ R.ccSar n ∈ ccMoved n ∧
    R.ccDar n ∈ ccMoved n ∧ R.ccTcr n ∈ ccMoved n := by simp [ccMoved, ccStates]

/-- The end of a transfer: TC and the event, and the reload or the disable (R424). -/
theorem State.ccTerminal_ends (h : State.CcOnly Frame.ccMove s t n c l) :
    State.CcOnly Frame.ccMove s (t.ccTerminal n) n c (ccMoved n ++ l) ∧ (t.ccTerminal n).mem = t.mem ∧
    (t.ccTerminal n).pulses = (if t.fld (R.ccCcr n) F.ccCcr.TCIE = 1 then addSorted t.pulses (96 + n) else t.pulses) ∧
    (t.ccTerminal n).fld (R.ccCsr n) F.ccCsr.TC = 1 ∧
    (t.ccTerminal n).fld (R.ccCcr n) F.ccCcr.EN = (if t.fld (R.ccCcr n) F.ccCcr.CIRC = 1 then t.fld (R.ccCcr n) F.ccCcr.EN else 0) ∧
    (t.ccTerminal n).reg (R.ccSar n) = (if t.fld (R.ccCcr n) F.ccCcr.CIRC = 1 then BitVec.ofNat 32 c.sar else t.reg (R.ccSar n)) ∧
    (t.ccTerminal n).reg (R.ccDar n) = (if t.fld (R.ccCcr n) F.ccCcr.CIRC = 1 then BitVec.ofNat 32 c.dar else t.reg (R.ccDar n)) ∧
    (t.ccTerminal n).fld (R.ccTcr n) F.ccTcr.COUNT = (if t.fld (R.ccCcr n) F.ccCcr.CIRC = 1 then c.tcr % 2 ^ 24 else t.fld (R.ccTcr n) F.ccTcr.COUNT) := by
  obtain ⟨hcsrCcr, -, hcsrStat⟩ := ccStates_apart n
  obtain ⟨⟨h1, h2, h3⟩, hap⟩ := ccRegs_apart n
  obtain ⟨mccr, mcsr, mstat, msar, mdar, mtcr⟩ := ccMoved_mem n
  have hsarCcr : ∀ o ∈ [R.ccSar n, R.ccDar n, R.ccTcr n], R.ccCcr n ≠ o ∧ R.ccCsr n ≠ o ∧ R.idmaCcStat ≠ o := fun o ho =>
    ⟨fun he => hap o ho (by rw [← he]; simp [ccStates]), fun he => hap o ho (by rw [← he]; simp [ccStates]), fun he => hap o ho (by rw [← he]; simp [ccStates])⟩
  obtain ⟨u, hu⟩ : ∃ u, u = (if t.fld (R.ccCcr n) F.ccCcr.TCIE = 1 then (t.setFld (R.ccCsr n) F.ccCsr.TC 1).fire (96 + n) else
    t.setFld (R.ccCsr n) F.ccCsr.TC 1) := ⟨_, rfl⟩
  have huonly : State.CcOnly Frame.ccMove s u n c (ccMoved n ++ l) := by
    have hset := (h.mono (List.subset_append_right (ccMoved n) l)).setFld (o := R.ccCsr n) F.ccCsr.TC 1 (List.mem_append_left _ mcsr)
    rw [hu]
    split
    · exact ⟨hset.only.upd (u := (t.setFld (R.ccCsr n) F.ccCsr.TC 1).fire (96 + n)) rfl rfl, hset.cc, hset.others⟩
    · exact hset
  have hureg : ∀ o, u.reg o = (t.setFld (R.ccCsr n) F.ccCsr.TC 1).reg o := fun o => by
    rw [hu]
    split <;> rfl
  have hupulses : u.pulses = (if t.fld (R.ccCcr n) F.ccCcr.TCIE = 1 then addSorted t.pulses (96 + n) else t.pulses) := by
    rw [hu]
    split <;> rfl
  have humem : u.mem = t.mem := by
    rw [hu]
    split <;> rfl
  have hrest : ∀ o, o ≠ R.ccCsr n → u.reg o = t.reg o := fun o ho => (hureg o).trans (State.reg_setFld_ne _ _ _ _ _ ho)
  have htc : u.fld (R.ccCsr n) F.ccCsr.TC = 1 := (State.fld_of_reg (hureg _) _).trans (State.fld_setFld _ _ _ _ (by decide))
  have hdef := t.ccTerminal_eq n
  rw [← hu, h.cc] at hdef
  dsimp only at hdef
  rw [hdef]
  by_cases hcirc : t.fld (R.ccCcr n) F.ccCcr.CIRC = 1
  · simp only [if_pos hcirc]
    have hregs : u.regsOnly (((u.setReg (R.ccSar n) (BitVec.ofNat 32 c.sar)).setReg (R.ccDar n) (BitVec.ofNat 32 c.dar)).setFld (R.ccTcr n)
        F.ccTcr.COUNT c.tcr) [R.ccSar n, R.ccDar n, R.ccTcr n] :=
      (((State.regsOnly.refl u _).setReg _ (by simp)).setReg _ (by simp)).setFld _ _ (by simp)
    refine ⟨huonly.regs hregs (fun o ho => List.mem_append_left _ (List.mem_append_right _ ho)) fun _ _ => rfl, ?_, ?_, ?_, ?_, ?_, ?_, ?_⟩
    · exact humem
    · exact hupulses
    · exact (hregs.fld (fun hm => (hsarCcr _ hm).2.1 rfl) _).trans htc
    · exact (hregs.fld (fun hm => (hsarCcr _ hm).1 rfl) _).trans (State.fld_of_reg (hrest _ hcsrCcr) _)
    · rw [State.reg_setFld_ne _ _ _ _ _ h2, State.reg_setReg_ne _ _ _ _ h1, State.reg_setReg_same]
    · rw [State.reg_setFld_ne _ _ _ _ _ h3, State.reg_setReg_same]
    · exact State.fld_setFld _ _ _ _ (by decide)
  · simp only [if_neg hcirc]
    have hregs := u.ccEn_regsOnly n false
    have hen : (u.ccEn n false).fld (R.ccCcr n) F.ccCcr.EN = 0 := by
      rw [State.fld, State.reg_ccEn, Fld.get_put _ _ _ (by decide)]
      rfl
    refine ⟨huonly.regs hregs (fun o ho => List.mem_append_left _ (List.mem_append_left _ ho)) fun _ _ => rfl, humem, hupulses, ?_, hen, ?_, ?_, ?_⟩
    · rw [State.ccEn, State.fld_setFld_ne _ _ _ _ _ _ hcsrStat, State.fld_setFld_apart _ _ _ _ _ (by decide) (by decide) (by decide),
        State.fld_setFld_ne _ _ _ _ _ _ hcsrCcr.symm]
      exact htc
    · rw [hregs.2 _ (hap _ (by simp)), hrest _ (hsarCcr _ (by simp)).2.1.symm]
    · rw [hregs.2 _ (hap _ (by simp)), hrest _ (hsarCcr _ (by simp)).2.1.symm]
    · exact (hregs.fld (hap _ (by simp)) _).trans (State.fld_of_reg (hrest _ (hsarCcr _ (by simp)).2.1.symm) _)

/-- What an element that has been written does to its channel (R424). -/
def CcElement (s t : State) (n sar0 dar0 tcr0 : Nat) : Prop :=
  let count := s.fld (R.ccTcr n) F.ccTcr.COUNT
  let sar := s.reg (R.ccSar n) + (if s.fld (R.ccCcr n) F.ccCcr.SINC = 1 then BitVec.ofNat 32 (s.ccSize n) else 0)
  let dar := s.reg (R.ccDar n) + (if s.fld (R.ccCcr n) F.ccCcr.DINC = 1 then BitVec.ofNat 32 (s.ccSize n) else 0)
  let again := count = 1 ∧ s.fld (R.ccCcr n) F.ccCcr.CIRC = 1
  t.reg (R.ccSar n) = (if again then BitVec.ofNat 32 sar0 else sar) ∧ t.reg (R.ccDar n) = (if again then BitVec.ofNat 32 dar0 else dar) ∧
  t.fld (R.ccTcr n) F.ccTcr.COUNT = (if again then tcr0 % 2 ^ 24 else count - 1) ∧
  t.fld (R.ccCsr n) F.ccCsr.TC = (if count = 1 then 1 else s.fld (R.ccCsr n) F.ccCsr.TC) ∧
  t.fld (R.ccCcr n) F.ccCcr.EN = (if count = 1 ∧ s.fld (R.ccCcr n) F.ccCcr.CIRC = 0 then 0 else 1) ∧
  t.pulses = (if count = 1 ∧ s.fld (R.ccCcr n) F.ccCcr.TCIE = 1 then addSorted s.pulses (96 + n) else s.pulses)

/-- The element is written: its channel goes on, or its transfer ends (R423-R425). -/
theorem State.ccElementDone_element {y : State} (h : State.CcOnly Frame.ccMove s y n c l) (hl : ∀ o ∈ ccMoved n, o ∉ l) (hpulses : y.pulses = s.pulses)
    (hen : s.fld (R.ccCcr n) F.ccCcr.EN = 1) (hstop : c.stop = false) (hcount : 0 < s.fld (R.ccTcr n) F.ccTcr.COUNT) :
    State.CcOnly Frame.ccMove s (y.ccElementDone n) n { c with hold := [], wait := none, burst := if s.fld (R.ccTcr n) F.ccTcr.COUNT = 1 then 0 else c.burst - 1 }
      (ccMoved n ++ l) ∧ (y.ccElementDone n).mem = y.mem ∧ CcElement s (y.ccElementDone n) n c.sar c.dar c.tcr := by
  obtain ⟨mccr, mcsr, mstat, msar, mdar, mtcr⟩ := ccMoved_mem n
  obtain ⟨u0, hu0⟩ : ∃ u0, u0 = y.setCc n { c with hold := [], wait := none, burst := c.burst - 1 } := ⟨_, rfl⟩
  have honly0 : State.CcOnly Frame.ccMove s u0 n { c with hold := [], wait := none, burst := c.burst - 1 } l := by
    rw [hu0]
    exact h.setCc Frame.ccMove_takes _
  have hreg0 : ∀ o ∈ ccMoved n, u0.reg o = s.reg o := fun o ho => honly0.reg (hl o ho)
  have hsize : u0.ccSize n = s.ccSize n := by rw [State.ccSize, State.fld_of_reg (hreg0 _ mccr), State.ccSize]
  have hmem0 : u0.mem = y.mem ∧ u0.pulses = s.pulses := by rw [hu0]; exact ⟨rfl, hpulses⟩
  obtain ⟨hsar, hdar, hleft⟩ := u0.reg_ccAdvanced n
  rw [hreg0 _ msar, State.fld_of_reg (hreg0 _ mccr), hsize] at hsar
  rw [hreg0 _ mdar, State.fld_of_reg (hreg0 _ mccr), hsize] at hdar
  rw [State.fld_of_reg (hreg0 _ mtcr)] at hleft
  have hadv := u0.ccAdvanced_regsOnly n
  have hdef := y.ccElementDone_eq n h.cc hstop
  rw [← hu0] at hdef
  dsimp only at hdef
  have honly1 : State.CcOnly Frame.ccMove s (u0.ccAdvanced n) n { c with hold := [], wait := none, burst := c.burst - 1 } (ccMoved n ++ l) :=
    (honly0.mono (List.subset_append_right (ccMoved n) l)).regs hadv (fun o ho => List.mem_append_left _ (List.mem_append_right _ ho)) fun _ _ => rfl
  have hap := (ccRegs_apart n).2
  have hstates : ∀ o ∈ ccStates n, (u0.ccAdvanced n).reg o = s.reg o := fun o ho =>
    (hadv.2 o fun hm => hap o hm ho).trans (hreg0 o (List.mem_append_left _ ho))
  have hmem1 : (u0.ccAdvanced n).mem = y.mem ∧ (u0.ccAdvanced n).pulses = s.pulses := by rw [hadv.1]; exact hmem0
  have hccr : R.ccCcr n ∈ ccStates n ∧ R.ccCsr n ∈ ccStates n := by simp [ccStates]
  have hccrFld : ∀ f, (u0.ccAdvanced n).fld (R.ccCcr n) f = s.fld (R.ccCcr n) f := fun f => State.fld_of_reg (hstates _ hccr.1) f
  have hcsrFld : ∀ f, (u0.ccAdvanced n).fld (R.ccCsr n) f = s.fld (R.ccCsr n) f := fun f => State.fld_of_reg (hstates _ hccr.2) f
  generalize u0.ccAdvanced n = u at hsar hdar hleft hdef honly1 hmem1 hccrFld hcsrFld
  rw [hleft] at hdef
  rw [hdef]
  by_cases h1 : s.fld (R.ccTcr n) F.ccTcr.COUNT = 1
  · have h0 : s.fld (R.ccTcr n) F.ccTcr.COUNT - 1 = 0 := by omega
    have honly2 := honly1.setCc Frame.ccMove_takes { c with hold := [], wait := none, burst := 0 }
    have hsame : ∀ o, (u.setCc n { c with hold := [], wait := none, burst := 0 }).reg o = u.reg o := fun _ => rfl
    have hsamePulses : (u.setCc n { c with hold := [], wait := none, burst := 0 }).mem = y.mem ∧
      (u.setCc n { c with hold := [], wait := none, burst := 0 }).pulses = s.pulses := hmem1
    rw [if_pos h0, if_pos h1]
    generalize u.setCc n { c with hold := [], wait := none, burst := 0 } = v at honly2 hsame hsamePulses
    obtain ⟨honly3, hm, hp, htc, hen3, hsar3, hdar3, hcount3⟩ := State.ccTerminal_ends honly2
    have hvccr : ∀ f, v.fld (R.ccCcr n) f = s.fld (R.ccCcr n) f := fun f => (State.fld_of_reg (hsame _) f).trans (hccrFld f)
    simp only [hvccr, hsame, hsar, hdar, State.fld_of_reg (hsame (R.ccTcr n)), hleft, hen, hsamePulses.2] at hen3 hsar3 hdar3 hcount3 hp
    refine ⟨honly3.mono (by simp), hm.trans hsamePulses.1, ?_⟩
    unfold CcElement
    simp only [h1, true_and, if_true]
    refine ⟨hsar3, hdar3, ?_, htc, ?_, hp⟩
    · rw [hcount3, h1]
    · rw [hen3]
      have hlt := s.fld_lt (R.ccCcr n) F.ccCcr.CIRC
      by_cases hc : s.fld (R.ccCcr n) F.ccCcr.CIRC = 1
      · rw [if_pos hc, if_neg (by omega)]
      · rw [if_neg hc, if_pos (by change _ < 2 at hlt; omega)]
  · rw [if_neg (by omega), if_neg h1]
    refine ⟨honly1, hmem1.1, ?_⟩
    unfold CcElement
    simp only [h1, false_and, if_false]
    exact ⟨hsar, hdar, hleft, hcsrFld _, (hccrFld _).trans hen, hmem1.2⟩

end

/-- The element is written to memory. (The definition is unfolded as a function: unfolded where it is applied, the check would evaluate the
address.) -/
theorem State.ccWrite_done {s t : State} {n : Fin 8} (h : s.busWrite (.compat n) (s.ccDst n.val) (s.cc n.val).hold = .done t []) :
    s.ccWrite n = t.ccElementDone n := by
  obtain ⟨f, hf⟩ : ∃ f, State.ccWrite = f := ⟨_, rfl⟩
  have happ : s.ccWrite n = f s n := by rw [hf]
  delta State.ccWrite at hf
  rw [happ, ← hf]
  dsimp only
  rw [h]

section
variable {s s1 : State} {n : Fin 8} {b : Nat} {offs : List Nat} (hu : s.usual) (hready : s.ccReady n = some s1)
  (h1 : State.CcOnly Frame.cc s s1 n { s.cc n with burst := b } offs) (hoffs : offs ⊆ [R.ccCred n]) (hhold : (s.cc n).hold = [])
include hu hready h1 hoffs hhold

omit hready hu hhold in
/-- What a burst's start leaves. -/
theorem State.CcOnly.burst_keeps : s1.sys = s.sys ∧ s1.mem = s.mem ∧ s1.pulses = s.pulses ∧ (∀ a k, s1.target a k = s.target a k) ∧
    s1.ccSrc n = s.ccSrc n ∧ s1.ccDst n = s.ccDst n ∧ s1.ccSize n = s.ccSize n ∧ (∀ o ∈ ccMoved n ++ idmaRecordRegs, o ∉ offs) := by
  have hne : ∀ o, o ≠ R.ccCred n → s1.reg o = s.reg o := fun o ho => h1.reg fun hm => ho (List.mem_singleton.mp (hoffs hm))
  have hap : R.ccXhi n ≠ R.ccCred n ∧ R.ccSar n ≠ R.ccCred n ∧ R.ccDar n ≠ R.ccCred n ∧ R.ccCcr n ≠ R.ccCred n := by
    simp only [R.ccXhi, R.ccSar, R.ccDar, R.ccCcr, R.ccCred]
    omega
  have hstate := h1.only.state
  refine ⟨by rw [hstate]; rfl, by rw [hstate]; rfl, by rw [hstate]; rfl, fun a k => State.target_congr (fun o ho => hne o ?_) a k, ?_, ?_, ?_, fun o ho hm => ?_⟩
  · simp only [R.ccCred]
    omega
  · rw [State.ccSrc, State.fld_of_reg (hne _ hap.1), hne _ hap.2.1, State.ccSrc]
  · rw [State.ccDst, State.fld_of_reg (hne _ hap.1), hne _ hap.2.2.1, State.ccDst]
  · rw [State.ccSize, State.fld_of_reg (hne _ hap.2.2.2), State.ccSize]
  · have := List.mem_singleton.mp (hoffs hm)
    simp only [ccMoved, ccStates, idmaRecordRegs, R.ccCcr, R.ccCsr, R.idmaCcStat, R.ccSar, R.ccDar, R.ccTcr, R.ccCred, R.idmaBusCnt, R.idmaTmoCnt, R.idmaEccCnt,
      R.idmaLoopCnt, R.idmaErr, R.idmaErrAddrLo, R.idmaErrAddrHi, List.mem_append, List.mem_cons, List.not_mem_nil, or_false] at this ho
    omega

omit hu hoffs in
theorem exec_ccElementMove_eq : exec (.ccElementMove n) s = State.done (match s1.busRead (.compat n) (s1.ccSrc n) (s1.ccSize n) with
    | .done t data => (t.setCc n { t.cc n with hold := data }).ccWrite n
    | .remote node off => s1.ccAsk n 2 node off (s1.ccSize n) []
    | .error => s1.ccHalt n 1 0 2 (s1.ccSrc n)) := by
  refine congrArg State.done ?_
  rw [State.ccMove, hready]
  refine if_neg ?_
  rw [h1.cc, Bool.not_eq_true', ← Bool.not_eq_true, not_not, List.isEmpty_iff]
  exact hhold

omit hu hready h1 hhold in
theorem ccOffs_bound : ∀ o ∈ offs, 0x2C000 ≤ o ∧ o < 0x30000 := fun o ho => by
  have := List.mem_singleton.mp (hoffs ho)
  simp only [R.ccCred] at this
  omega

/-- The source leads nowhere (R425). -/
theorem exec_ccElementMove_none (ht : s.target (s.ccSrc n) (s.ccSize n) = .none) :
    ∃ t, exec (.ccElementMove n) s = .next t ∧ t.fld (R.ccCcr n) F.ccCcr.EN = 0 ∧ t.fld (R.ccCsr n) F.ccCsr.ERR = 1 ∧
      IdmaRecords s t (32 + n) 1 0 2 (s.ccSrc n) ∧ t.pulses = s.pulses ∧ t.mem = s.mem := by
  obtain ⟨-, -, -, htarget, hsrc, -, hsize, hap⟩ := h1.burst_keeps hoffs
  have hexec := exec_ccElementMove_eq hready h1 hhold
  rw [State.busRead_none (by rw [htarget, hsrc, hsize]; exact ht), hsrc] at hexec
  obtain ⟨honly, hshows, herr, -, hrec⟩ := State.ccHalt_halts h1 (fun o ho hm => hap o (List.mem_append_right _ hm) ho) n.isLt
    (cause := 1) (dir := 0) (kind := 2) (s.ccSrc_lt n).1
  dsimp only at hexec
  generalize s1.ccHalt n 1 0 2 (s.ccSrc n) = t at hexec honly hshows herr hrec
  have hbound : ∀ o ∈ offs ++ (ccStates n ++ idmaRecordRegs), 0x2C000 ≤ o ∧ o < 0x30000 := fun o ho =>
    (List.mem_append.mp ho).elim (ccOffs_bound hoffs o) (ccRegs_bound n.isLt o)
  refine ⟨t, hexec.trans (honly.done hu hbound), hshows.1, herr, hrec, ?_, ?_⟩
  · rw [honly.only.state]
    rfl
  · rw [honly.only.state]
    rfl

/-- The source lies on another node (R425). -/
theorem exec_ccElementMove_remote {node off : Nat} (ht : s.target (s.ccSrc n) (s.ccSize n) = .remote node off) :
    ∃ t, exec (.ccElementMove n) s = .next t ∧ t = { s with regs := t.regs, eff := t.eff, fab := t.fab, idma := { s.idma with ccs := t.idma.ccs } } ∧
      t.cc n = { s.cc n with burst := b, wait := some 2 } ∧
      t.fab = { s.fab with waiting := s.fab.waiting ++ [{ who := .compat n, node := node, off := off, len := s.ccSize n, write := false }] } := by
  obtain ⟨-, -, -, htarget, hsrc, -, hsize, -⟩ := h1.burst_keeps hoffs
  have hexec := exec_ccElementMove_eq hready h1 hhold
  rw [State.busRead_remote (by rw [htarget, hsrc, hsize]; exact ht), hsize] at hexec
  dsimp only at hexec
  have honly := h1.setCc Frame.cc_takes { s.cc n with burst := b, wait := some 2 }
  have hask : s1.ccAsk n 2 node off (s.ccSize n) [] = (s1.setCc n { s.cc n with burst := b, wait := some 2 }).remoteAsk
      { who := .compat n, node := node, off := off, len := s.ccSize n, write := false } := by
    rw [State.ccAsk, h1.cc]
    rfl
  rw [hask] at hexec
  generalize s1.setCc n { s.cc n with burst := b, wait := some 2 } = y at hexec honly
  have hstate := honly.only.state
  refine ⟨y.remoteAsk { who := .compat n, node := node, off := off, len := s.ccSize n, write := false }, hexec.trans ?_, ?_, honly.cc, ?_⟩
  · refine State.done_of_endsAlike (l := offs) hu ?_ (fun o ho => honly.only.reg o ho) (endIgnores_idma (ccOffs_bound hoffs))
    rw [hstate]
    exact ⟨rfl, rfl, rfl, rfl, rfl, rfl, rfl⟩
  · rw [hstate]
    rfl
  · rw [hstate]
    rfl

/-- An element is moved (R423, R424). -/
theorem exec_ccElementMove_memory (herr : s.sys.bitErrs = []) (hpoison : s.sys.poison = []) {m k : Nat}
    (hm : s.target (s.ccSrc n) (s.ccSize n) = .memory m) (hk : s.target (s.ccDst n) (s.ccSize n) = .memory k) (hen : s.fld (R.ccCcr n) F.ccCcr.EN = 1)
    (hstop : (s.cc n).stop = false) (hcount : 0 < s.fld (R.ccTcr n) F.ccTcr.COUNT) :
    ∃ t, exec (.ccElementMove n) s = .next t ∧ State.CcOnly Frame.ccMove s t n
        { s.cc n with hold := [], wait := none, burst := if s.fld (R.ccTcr n) F.ccTcr.COUNT = 1 then 0 else b - 1 } (ccMoved n ++ offs) ∧
      t.bytes k (s.ccSize n) = s.bytes m (s.ccSize n) ∧ (∀ a, a < k ∨ k + s.ccSize n ≤ a → t.byte a = s.byte a) ∧ CcElement s t n (s.cc n).sar (s.cc n).dar (s.cc n).tcr ∧
      t.fld (R.ccCred n) F.ccCred.CREDIT = s1.fld (R.ccCred n) F.ccCred.CREDIT := by
  obtain ⟨hsys, hmem, hpulses, htarget, hsrc, hdst, hsize, hap⟩ := h1.burst_keeps hoffs
  have hlen : (s.bytes m (s.ccSize n)).length = s.ccSize n := by rw [State.bytes, List.length_map, List.length_range]
  have hexec := exec_ccElementMove_eq hready h1 hhold
  rw [State.busRead_memory (by rw [hsys, herr]) (by rw [hsys, hpoison]) (by rw [htarget, hsrc, hsize]; exact hm), hsize,
    State.bytes_congr (s := s) fun i _ => by rw [State.byte, hmem, State.byte]] at hexec
  dsimp only at hexec
  obtain ⟨y, hy⟩ : ∃ y, y = s1.setCc n { s1.cc n with hold := unpoisoned (s.bytes m (s.ccSize n)) } := ⟨_, rfl⟩
  have hysys : y.sys = s.sys ∧ y.mem = s.mem ∧ y.pulses = s.pulses ∧ y.regs = s1.regs := by rw [hy]; exact ⟨hsys, hmem, hpulses, rfl⟩
  have honly : State.CcOnly Frame.ccMove s y n { s.cc n with burst := b, hold := unpoisoned (s.bytes m (s.ccSize n)) } offs := by
    have hwide : State.CcOnly Frame.ccMove s s1 n { s.cc n with burst := b } offs := ⟨h1.only.widen fun _ _ => rfl, h1.cc, h1.others⟩
    rw [hy, h1.cc]
    exact hwide.setCc Frame.ccMove_takes _
  have hwrite : y.busWrite (.compat n) (y.ccDst n) (y.cc n).hold = .done (y.setBytes k (s.bytes m (s.ccSize n))) [] := by
    rw [honly.cc]
    refine State.busWrite_memory (by rw [hysys.1, herr]) (by rw [hysys.1, hpoison]) ?_
    have hyreg : ∀ o, y.reg o = s1.reg o := fun o => State.reg_of_regs _ _ hysys.2.2.2 o
    have hydst : y.ccDst n = s.ccDst n := by rw [State.ccDst, State.fld_of_reg (hyreg _), hyreg, ← State.ccDst, hdst]
    rw [hlen, hydst, State.target_congr (s := s1) (fun o _ => hyreg o), htarget]
    exact hk
  rw [← hy] at hexec
  rw [State.ccWrite_done hwrite] at hexec
  have hset := y.setBytes_state k (s.bytes m (s.ccSize n))
  have hbytes := y.bytes_setBytes k (s.bytes m (s.ccSize n))
  have hout := fun a => y.byte_setBytes_out k (s.bytes m (s.ccSize n)) a
  rw [hlen] at hbytes hout
  generalize y.setBytes k (s.bytes m (s.ccSize n)) = z at hexec hset hbytes hout
  have honlyz : State.CcOnly Frame.ccMove s z n { s.cc n with burst := b, hold := unpoisoned (s.bytes m (s.ccSize n)) } offs := by
    obtain ⟨mem, hz⟩ : ∃ mem, z = { y with mem := mem } := ⟨_, hset⟩
    clear hset hexec
    subst hz
    exact ⟨honly.only.upd rfl rfl, honly.cc, honly.others⟩
  have hzp : z.pulses = s.pulses := (congrArg State.pulses hset).trans hysys.2.2.1
  obtain ⟨hfinal, hfmem, helement⟩ := State.ccElementDone_element honlyz (fun o ho => hap o (List.mem_append_left _ ho)) hzp hen hstop hcount
  have hcred : (z.ccElementDone n).reg (R.ccCred n) = s1.reg (R.ccCred n) := by
    have hzfld : ∀ o ∈ ccMoved n, ∀ f, z.fld o f = s.fld o f := fun o ho f =>
      State.fld_of_reg (honlyz.reg (hap o (List.mem_append_left _ ho))) f
    obtain ⟨mccr, -, -, -, -, mtcr⟩ := ccMoved_mem n
    have hself := (State.ccElementDone_element (State.CcOnly.refl z n []) (fun _ _ => List.not_mem_nil) rfl ((hzfld _ mccr _).trans hen)
      (by rw [honlyz.cc]; exact hstop) (by rw [hzfld _ mtcr]; exact hcount)).1
    refine ((hself.reg ?_).trans (State.reg_of_regs y z (congrArg State.regs hset :) _)).trans (State.reg_of_regs s1 y hysys.2.2.2 _)
    simp only [ccMoved, ccStates, R.ccCcr, R.ccCsr, R.idmaCcStat, R.ccSar, R.ccDar, R.ccTcr, R.ccCred, List.mem_append, List.mem_cons, List.not_mem_nil, or_false]
    omega
  generalize z.ccElementDone n = t at hexec hfinal hfmem helement hcred
  have hbyte : ∀ a, t.byte a = z.byte a := fun a => by rw [State.byte, hfmem, State.byte]
  have hbound : ∀ o ∈ ccMoved n ++ offs, 0x2C000 ≤ o ∧ o < 0x30000 := fun o ho => by
    rcases List.mem_append.mp ho with hm | hm
    · simp only [ccMoved, ccStates, R.ccCcr, R.ccCsr, R.idmaCcStat, R.ccSar, R.ccDar, R.ccTcr, List.mem_append, List.mem_cons, List.not_mem_nil, or_false] at hm
      omega
    · exact ccOffs_bound hoffs o hm
  refine ⟨t, hexec.trans (hfinal.done hu hbound), hfinal, ?_, fun a ha => ?_, helement, ?_⟩
  · rw [State.bytes_congr fun i _ => hbyte (k + i)]
    exact hbytes
  · rw [hbyte, hout a ha, State.byte, hysys.2.1, State.byte]
  · exact State.fld_of_reg hcred _

end

/-! ## When an element may move -/

section
variable {s : State} {n : Nat}

theorem State.ccReady_none (h : s.fld (R.ccCcr n) F.ccCcr.EN = 0 ∨ (s.cc n).wait ≠ none ∨
    (s.fld (R.ccCcr n) F.ccCcr.TRIG = 1 ∧ (s.cc n).burst = 0 ∧ s.fld (R.ccCred n) F.ccCred.CREDIT = 0)) : s.ccReady n = none := by
  rw [State.ccReady]
  by_cases hclosed : (!s.bit (R.ccCcr n) F.ccCcr.EN || (s.cc n).wait.isSome) = true
  · rw [if_pos hclosed]
  · rw [if_neg hclosed]
    simp only [Bool.or_eq_true, Bool.not_eq_true', not_or, Bool.not_eq_false, Bool.not_eq_true, Option.isSome_eq_false_iff, Option.isNone_iff_eq_none] at hclosed
    rcases h with h | h | ⟨ht, hb, hc⟩
    · rw [State.bit_eq_false h] at hclosed
      exact absurd hclosed.1 Bool.false_ne_true
    · exact absurd hclosed.2 h
    · rw [if_neg (by rw [State.bit_eq_true ht, hb]; decide)]
      exact if_pos hc

variable (hen : s.fld (R.ccCcr n) F.ccCcr.EN = 1) (hw : (s.cc n).wait = none)
include hen hw

theorem State.ccReady_going (h : s.fld (R.ccCcr n) F.ccCcr.TRIG = 0 ∨ 0 < (s.cc n).burst) : s.ccReady n = some s := by
  rw [State.ccReady, if_neg (by rw [State.bit_eq_true hen, hw]; decide), if_pos]
  rcases h with h | h
  · rw [State.bit_eq_false h]
    rfl
  · rw [decide_eq_true h, Bool.or_true]

theorem State.ccReady_burst (ht : s.fld (R.ccCcr n) F.ccCcr.TRIG = 1) (hb : (s.cc n).burst = 0) (hc : 0 < s.fld (R.ccCred n) F.ccCred.CREDIT) :
    s.ccReady n = some ((s.setFld (R.ccCred n) F.ccCred.CREDIT (s.fld (R.ccCred n) F.ccCred.CREDIT - 1)).setCc n
      { s.cc n with burst := s.fld (R.ccCcr n) F.ccCcr.BURST + 1 }) := by
  rw [State.ccReady, if_neg (by rw [State.bit_eq_true hen, hw]; decide), if_neg (by rw [State.bit_eq_true ht, hb]; decide)]
  exact if_neg (Nat.ne_of_gt hc)

end

/-- Settles O55. -/
theorem compatibilityChannels : Obligations.CompatibilityChannels := by
  intro s n path w hu herr hpoison ccr csr x only shows size count bad
  have honlyEff : ∀ t c l, State.CcOnly Frame.ccEff s t n c l → only t c l := fun t c l h => ⟨h.only.state, h.cc, h.others, h.only.reg⟩
  refine ⟨fun hacc hen => ⟨fun hok => ?_, fun hbad => ?_, exec_ccDisable_idle hacc hen hu⟩, fun hacc hen hidle => ⟨fun hw => ?_, fun hw => ?_⟩, ?_,
    fun ch hch p hp => ?_⟩
  · obtain ⟨t, hnext, hshows, hreg, honly⟩ := exec_ccEnable_ok hacc hen hu (w := w) (fun hyes => hok (State.ccRefused_written.mp hyes))
    exact ⟨t, hnext, hshows, hreg, honlyEff _ _ _ honly⟩
  · exact exec_ccEnable_refused hacc hen hu (State.ccRefused_written.mpr hbad)
  · obtain ⟨t, hnext, honly, hshows⟩ := (exec_ccDisable_running hacc hidle hen hu).1 hw
    exact ⟨t, hnext, honlyEff _ _ _ honly, hshows⟩
  · obtain ⟨t, hnext, honly, hen'⟩ := (exec_ccDisable_running hacc hidle hen hu).2 hw
    exact ⟨t, hnext, honlyEff _ _ _ honly, hen'⟩
  · intro credit
    refine ⟨fun hsel => ?_, fun hsel => exec_ccTrigger_credit hu hsel, ?_⟩
    · exact (congrArg State.done (if_neg (by rw [hsel]; exact Bool.false_ne_true))).trans (State.done_of_usual hu)
    · intro en trig sz moves
      have hmoves : ∀ (s1 : State) (b left : Nat) (offs : List Nat), s.ccReady n = some s1 → State.CcOnly Frame.cc s s1 n { s.cc n with burst := b } offs →
          offs ⊆ [R.ccCred n] → left = b - 1 → en = 1 → (R.ccCred n ∈ offs → s1.fld (R.ccCred n) F.ccCred.CREDIT = credit - 1) → moves b left offs := by
        intro s1 b left offs hready h1 hoffs hleft hen hcred
        refine ⟨fun ht hh => exec_ccElementMove_none hu hready h1 hoffs hh ht, fun node off ht hh => exec_ccElementMove_remote hu hready h1 hoffs hh ht,
          fun m k hm hk hh hstop hcount => ?_⟩
        obtain ⟨t, hnext, honly, hbytes, hout, helement, hcredit⟩ := exec_ccElementMove_memory hu hready h1 hoffs hh herr hpoison hm hk hen hstop hcount
        obtain ⟨hsar, hdar, hcnt, htc, hen', hpulses⟩ := helement
        refine ⟨t, hnext, honly.only.state, hbytes, hout, ⟨hsar, hdar, hcnt, htc, hen', hpulses, ?_, honly.others, honly.only.reg⟩, fun hm => ?_⟩
        · rw [honly.cc, hleft, ← hh]
        · exact hcredit.trans (hcred hm)
      refine ⟨fun hno => ?_, fun hen hw hgo => ?_, fun hen hw ht hb hc => ?_⟩
      · refine (congrArg State.done ?_).trans (State.done_of_usual hu)
        rw [State.ccMove, State.ccReady_none hno]
      · exact hmoves s _ _ [] (State.ccReady_going hen hw hgo) (State.CcOnly.refl s n []) (List.nil_subset _) rfl hen fun hm => absurd hm List.not_mem_nil
      · have hready := State.ccReady_burst hen hw ht hb hc
        have h1 := ((State.CcOnly.refl (F := Frame.cc) s n [R.ccCred n]).setFld (o := R.ccCred n) F.ccCred.CREDIT (credit - 1) (List.mem_singleton_self _)).setCc
          Frame.cc_takes { s.cc n with burst := s.fld (R.ccCcr n) F.ccCcr.BURST + 1 }
        refine hmoves _ _ _ [R.ccCred n] hready h1 (List.Subset.refl _) rfl hen fun _ => ?_
        exact (State.fld_setFld s (R.ccCred n) F.ccCred.CREDIT (credit - 1) (by decide)).trans
          (Nat.mod_eq_of_lt (lt_of_le_of_lt (Nat.sub_le _ _) (s.fld_lt (R.ccCred n) F.ccCred.CREDIT)))
  · exact exec_ccFail_halts hu (exec_idmaFail_compat ch hch p hp)

end Sys2Proof.Machine

/-!
Why a halter's reset does not note its cause in every state: a cold reset keeps of SYS.RST_CAUSE the value last put into effect (R13), and
a state may hold an older one than the one that the reset has just written (`latchedCause`).
-/
namespace Sys2Proof.Machine

/-- RESET KIND 1 over SMBus without a check, which PEC_REQ = 0 allows. -/
def coldRequest : HaltRequest := ⟨false, [1], none⟩

/-- Refutes O59: RESET KIND 1 is accepted and puts the main side into cold reset, and SYS.RST_CAUSE.HLT_COLD reads 0 afterwards, since the
reset brings back the value of SYS.RST_CAUSE that was in effect before it. -/
theorem not_halterPort : ¬ Obligations.HalterPort := by
  unfold Obligations.HalterPort
  intro h
  obtain ⟨-, -, -, -, -, -, hreset, -⟩ := h latchedCause coldRequest (by decide +kernel) (by decide +kernel)
  obtain ⟨-, -, hcold, -⟩ := hreset (by decide +kernel)
  obtain ⟨t, hexec, -, -, hcause, -⟩ := hcold _ List.mem_cons_self rfl (by decide +kernel)
  have hnone : (latchedCause.hltResetRow 1 coldRequest).settle.fld R.sysRstCause F.sysRstCause.HLT_COLD = 0 := by decide +kernel
  have ht : (latchedCause.hltResetRow 1 coldRequest).settle = t := Host.Outcome.next.inj hexec
  rw [← ht] at hcause
  exact absurd (hnone.symm.trans hcause) (by decide)

end Sys2Proof.Machine

/-!
Why E0's refusal of ADC_CAL changes more than its reply: it tries the calibration first, and its write of VAF.FGCAL, whose fields take the
write, is recorded in SYS.ERR_STAT while a calibration runs.
-/
namespace Sys2Proof.Machine

/-- ADC_CAL of bank 3 asked by the host with tag 5. -/
def adcCalRequest : Word := 0x03500008

/-- E0 runs the service loop and finds the request while a self-calibration of the converter runs. -/
def calibratingE0 : State :=
  ((({ State.reset with
      sec := { State.reset.sec with loop := true }
      pack := { State.reset.pack with engines := [(0, { inbox := [(adcCalRequest, 1)] })] } }.setFld R.sysClkStat F.sysClkStat.PLL_LOCK 1).setFld
    R.hltStat F.hltStat.MAIN_RUN 1).setFld (R.engStat 0) F.engStat.STATE 2).setFld R.vafFgcal F.vafFgcal.BUSY 1

/-- Refutes O60: ADC_CAL is refused while the self-calibration runs, and E0's write of VAF.FGCAL leaves SYS.ERR_STAT changed. -/
theorem not_servicesAndBoot : ¬ Obligations.ServicesAndBoot := by
  unfold Obligations.ServicesAndBoot
  intro h
  obtain ⟨hasked, -⟩ := h calibratingE0
  obtain ⟨-, -, -, hadc, -⟩ := hasked adcCalRequest 1 (by decide +kernel)
  obtain ⟨hbusy, -⟩ := hadc (by decide +kernel)
  obtain ⟨t, hexec, -, -, hregs⟩ := hbusy (by decide +kernel)
  have ht : (calibratingE0.svcTake 3 State.svcAdcCal).settle = t := Host.Outcome.next.inj hexec
  have herr : (calibratingE0.svcTake 3 State.svcAdcCal).settle.reg R.sysErrStat ≠ calibratingE0.reg R.sysErrStat := by decide +kernel
  rw [← ht] at hregs
  exact herr (hregs R.sysErrStat (by decide))

end Sys2Proof.Machine

/-!
Host memory as the device writes it, completions on a plain queue pair, and a command that has started (R375, R377, R379, R380).
-/
namespace Sys2Proof.Machine

/-! ## Host memory -/

/-- Host memory with bytes written from an address on. -/
def hostWritten (m : Table Byte) (a : Nat) : List Byte → Table Byte
  | [] => m
  | b :: l => hostWritten (Table.set (fun _ => 0) m a b) (a + 1) l

section
variable (s : State) (a : Nat) (l : List Byte)

theorem State.hostWrite_state : s.hostWrite a l = { s with hostMem := hostWritten s.hostMem a l } := by
  induction l generalizing s a with
  | nil => rfl
  | cons b l ih => exact ih { s with hostMem := Table.set (fun _ => 0) s.hostMem a b } (a + 1)

theorem hostWritten_get (m : Table Byte) (k : Nat) : Table.get (fun _ => 0) (hostWritten m a l) k =
    if a ≤ k ∧ k < a + l.length then l.getD (k - a) 0 else Table.get (fun _ => 0) m k := by
  induction l generalizing m a with
  | nil => exact (if_neg (by simp only [List.length_nil]; omega)).symm
  | cons b l ih =>
    rw [hostWritten, ih, Table.get_set, List.length_cons]
    by_cases hk : k = a
    · subst hk
      rw [if_neg (by omega), if_pos rfl, if_pos (by omega), Nat.sub_self]
      rfl
    · rw [if_neg hk]
      by_cases h : a ≤ k ∧ k < a + (l.length + 1)
      · rw [if_pos (by omega), if_pos h, show k - a = (k - (a + 1)) + 1 by omega]
        rfl
      · rw [if_neg (by omega), if_neg h]

theorem hostWritten_append (m : Table Byte) (l' : List Byte) : hostWritten (hostWritten m a l) (a + l.length) l' = hostWritten m a (l ++ l') := by
  induction l generalizing m a with
  | nil => rfl
  | cons b l ih =>
    have h := ih (a + 1) (Table.set (fun _ => 0) m a b)
    rw [show a + 1 + l.length = a + (b :: l).length by rw [List.length_cons]; omega] at h
    exact h

end

section
variable {s t : State} {a : Nat} {l : List Byte}

/-- Host memory after a write, at the bytes written: their first ones. -/
theorem hostAt_written (h : t.hostMem = hostWritten s.hostMem a l) {n : Nat} (hn : n ≤ l.length) : hostAt t a n = l.take n := by
  refine List.ext_getElem (by simp only [hostAt, List.length_map, List.length_range, List.length_take]; omega) fun i h1 h2 => ?_
  have hi : i < n := by simpa only [hostAt, List.length_map, List.length_range] using h1
  simp only [hostAt, List.getElem_map, List.getElem_range, List.getElem_take]
  rw [h, hostWritten_get, if_pos (by omega), Nat.add_sub_cancel_left, List.getD_eq_getElem _ _ (by omega)]

theorem hostAt_written_all (h : t.hostMem = hostWritten s.hostMem a l) : hostAt t a l.length = l := by
  rw [hostAt_written h (Nat.le_refl _), List.take_length]

/-- A part of what a write wrote. -/
theorem hostAt_written_part (h : t.hostMem = hostWritten s.hostMem a l) {i n : Nat} (hn : i + n ≤ l.length) :
    hostAt t (a + i) n = (l.drop i).take n := by
  refine List.ext_getElem (by simp only [hostAt, List.length_map, List.length_range, List.length_take, List.length_drop]; omega) fun j h1 h2 => ?_
  have hj : j < n := by simpa only [hostAt, List.length_map, List.length_range] using h1
  simp only [hostAt, List.getElem_map, List.getElem_range, List.getElem_take, List.getElem_drop]
  rw [h, hostWritten_get, if_pos (by omega), List.getD_eq_getElem _ _ (by omega)]
  exact getElem_congr_idx (by omega)

theorem hostAt_written_out (h : t.hostMem = hostWritten s.hostMem a l) {k : Nat} (hk : k < a ∨ a + l.length ≤ k) : hostAt t k 1 = hostAt s k 1 := by
  simp only [hostAt, List.range_one, List.map_cons, List.map_nil, Nat.add_zero]
  rw [h, hostWritten_get, if_neg (by omega)]

end

/-! ## Queue pairs and commands -/

section
variable (s : State) (q : Nat) (x : Option Qp)

@[simp] theorem State.qp_setQp : (s.setQp q x).qp q = x := by rw [State.qp, State.setQp, Table.get_set, if_pos rfl]

theorem State.qp_setQp_ne {p : Nat} (h : p ≠ q) : (s.setQp q x).qp p = s.qp p := by 
  rw [State.qp, State.setQp, Table.get_set, if_neg h]
  rfl

end

/-- The registers that a completion on a plain queue may follow: none of them controls a vector. -/
def keepsVectors (offs : List Nat) : Prop := ∀ v, R.hqeMsixCtrl v ∉ offs

theorem keepsVectors_of {offs : List Nat} (h : ∀ o ∈ offs, o < 0x2A000 ∨ o % 16 ≠ 12) : keepsVectors offs := by
  intro v hv
  have := h _ hv
  simp only [R.hqeMsixCtrl] at this
  omega

/-! ## A completion on a plain queue pair -/

theorem State.signal_unmasked {s : State} {v : Nat} (h : s.fld (R.hqeMsixCtrl v) F.hqeMsixCtrl.MASK = 0) :
    s.signal v = { s with messages := v :: s.messages } := by rw [State.signal, State.bit_eq_false h, if_neg Bool.false_ne_true]

/-- The completion entry of a report. -/
def Report.entry (r : Report) (now sqHead q tag : Nat) (phase : Bool) : List Byte :=
  completionBytes r.r0 r.r1 r.r2 (r.time.getD now) sqHead q tag r.status r.info phase

theorem Report.entry_length (r : Report) (now sqHead q tag : Nat) (phase : Bool) : (r.entry now sqHead q tag phase).length = 32 := by
  simp only [Report.entry, completionBytes, List.length_append, bytesLE_length]

theorem State.signal_setQp {s : State} {v : Nat} (h : s.fld (R.hqeMsixCtrl v) F.hqeMsixCtrl.MASK = 0) (q : Nat) (y : Option Qp) :
    (s.setQp q y).signal v = { s with messages := v :: s.messages, hqe := { s.hqe with qps := Table.set (fun _ => none) s.hqe.qps q y } } := by
  rw [State.signal, State.bit_eq_false ((State.fld_of_reg (State.reg_of_regs s (s.setQp q y) rfl _) _).trans h), if_neg Bool.false_ne_true]
  rfl

/-- The two writes of a completion are one of its entry. -/
theorem Report.written_entry (r : Report) (m : Table Byte) (a now sqHead q tag : Nat) (phase : Bool) :
    hostWritten (hostWritten m a (r.head now sqHead q)) (a + 28)
      (bytesLE 4 (tag % 65536 + r.status % 256 * 2 ^ 16 + r.info % 128 * 2 ^ 24 + phase.toNat * 2 ^ 31)) =
      hostWritten m a (r.entry now sqHead q tag phase) := by
  have hlen : (r.head now sqHead q).length = 28 := by simp only [Report.head, List.length_append, bytesLE_length]
  have h := hostWritten_append a (r.head now sqHead q) m
    (bytesLE 4 (tag % 65536 + r.status % 256 * 2 ^ 16 + r.info % 128 * 2 ^ 24 + phase.toNat * 2 ^ 31))
  rw [hlen] at h
  rw [h, Report.head, Report.entry, completionBytes]

section
variable {s : State} {q : Nat} {x : Qp}

/-- On a plain queue pair a completion is one entry, the next place of the ring and a message (R377, R379, R380). -/
theorem State.writeCompletion_plain (hx : PlainQueue s q x) (tag sqHead : Nat) (r : Report) :
    s.writeCompletion q tag sqHead r = { s with
      hostMem := hostWritten s.hostMem (x.cqBase + 32 * x.cqTail) (r.entry s.sys.time.toNat sqHead q tag x.phase)
      messages := x.vector :: s.messages
      hqe := { s.hqe with qps := Table.set (fun _ => none) s.hqe.qps q (some { x with cqTail := x.cqTail + 1 }) } } := by
  obtain ⟨hq, hcoal, hunsig, hroom, hmask, -, -⟩ := hx
  delta State.writeCompletion
  split
  next h => exact absurd (hq.symm.trans h) (by simp)
  next y hy =>
  obtain rfl := Option.some.inj (hq.symm.trans hy)
  extract_lets a d7 s1 wrap x1 due s2
  have hs1 : s1 = { s with hostMem := hostWritten s.hostMem a (r.entry s.sys.time.toNat sqHead q tag x.phase) } := by
    change (s.hostWrite _ _).hostWrite _ _ = _
    rw [State.hostWrite_state, State.hostWrite_state]
    exact congrArg (fun m => { s with hostMem := m }) (r.written_entry s.hostMem a s.sys.time.toNat sqHead q tag x.phase)
  have hwrap : wrap = false := decide_eq_false (by omega)
  have hx1 : x1 = { x with cqTail := x.cqTail + 1 } := by
    change ({ x with cqTail := if wrap then 0 else x.cqTail + 1, phase := if wrap then !x.phase else x.phase } : Qp) = _
    rw [hwrap]
    rfl
  have hdue : due = true := decide_eq_true (by rw [hx1]; exact hunsig ▸ hcoal)
  have hs2 : s2 = s1.setQp q (some { x with cqTail := x.cqTail + 1 }) := by
    change s1.setQp q (some { x1 with unsig := if due then 0 else x1.unsig + 1 }) = _
    rw [hdue, hx1, if_pos rfl, ← hunsig]
  have hregs : s1.regs = s.regs := (congrArg State.regs hs1 :)
  clear_value s2 s1 x1 due
  subst hx1 hs2
  rw [if_pos hdue, State.signal_setQp (s := s1) ((State.fld_of_reg (State.reg_of_regs s s1 hregs _) _).trans hmask)]
  subst hs1
  rfl

end

/-! ## Commands in flight -/

/-- `u` is `s` but for the commands in flight and the registers that a command may have changed. -/
structure State.CmdNear (s u : State) (offs : List Nat) : Prop where
  state : u = { s with regs := u.regs, hqe := { s.hqe with cmds := u.hqe.cmds } }
  reg : s.regsBut u (R.hqeStat :: offs)
  link : u.fld R.hqeStat F.hqeStat.LINK = s.fld R.hqeStat F.hqeStat.LINK

section
variable {s u v : State} {l m : List Nat}

theorem State.CmdNear.refl (s : State) (l : List Nat) : s.CmdNear s l := ⟨rfl, .refl _ _, rfl⟩

theorem State.CmdNear.trans (h : s.CmdNear u l) (h' : u.CmdNear v l) : s.CmdNear v l := by
  refine ⟨h'.state.trans ?_, h.reg.trans h'.reg, h'.link.trans h.link⟩
  rw [h.state]

theorem State.CmdNear.mono (h : s.CmdNear u l) (hl : l ⊆ m) : s.CmdNear u m := ⟨h.state, h.reg.mono (List.cons_subset_cons _ hl), h.link⟩

theorem State.CmdNear.setReg (h : s.CmdNear u l) {o : Nat} (w : Word) (ho : o ∈ l) (hne : R.hqeStat ≠ o) : s.CmdNear (u.setReg o w) l :=
  h.trans ⟨rfl, (State.regsBut.refl _ _).setReg w (List.mem_cons_of_mem _ ho), State.fld_setReg_ne _ _ _ _ _ hne⟩

theorem State.CmdNear.setFld (h : s.CmdNear u l) {o : Nat} (f : Fld) (y : Nat) (ho : o ∈ l) (hne : R.hqeStat ≠ o) : s.CmdNear (u.setFld o f y) l :=
  h.setReg _ ho hne

theorem State.CmdNear.setCmds (h : s.CmdNear u l) (cmds : List Cmd) : s.CmdNear (u.setCmds cmds) l := by
  refine h.trans ⟨rfl, fun off ho => State.reg_setFld_ne _ _ _ _ _ fun e => ho (e ▸ List.mem_cons_self), ?_⟩
  exact (State.fld_setFld_apart _ R.hqeStat F.hqeStat.INFLIGHT F.hqeStat.LINK _ (by decide) (by decide) (by decide)).trans
    (State.fld_of_reg (State.reg_of_regs u { u with hqe := { u.hqe with cmds := cmds } } rfl _) _)

theorem State.CmdNear.endsAlike (h : s.CmdNear u l) : s.EndsAlike u := by
  rw [h.state]
  exact ⟨rfl, rfl, rfl, rfl, rfl, rfl, rfl⟩

/-- A command that stays within HQE's own state ends with its effect. -/
theorem State.CmdNear.done (h : s.CmdNear u l) (hu : s.usual) (hl : endIgnores (R.hqeStat :: l)) : State.done u = .next u :=
  State.done_of_endsAlike hu h.endsAlike h.reg hl

/-- A plain queue pair stays plain while commands are in flight. -/
theorem State.CmdNear.plain (h : s.CmdNear u l) (hl : keepsVectors l) {q : Nat} {x : Qp} (hx : PlainQueue s q x) : PlainQueue u q x := by
  obtain ⟨hq, hcoal, hunsig, hroom, hmask, hlink, hreads⟩ := hx
  have hqe : u.hqe = { s.hqe with cmds := u.hqe.cmds } := congrArg State.hqe h.state
  refine ⟨?_, hcoal, hunsig, hroom, ?_, h.link.trans hlink, (congrArg Hqe.reads hqe :).trans hreads⟩
  · rw [State.qp, (congrArg Hqe.qps hqe :)]
    exact hq
  · rw [h.reg.fld]
    · exact hmask
    · intro ho
      rcases List.mem_cons.mp ho with ho | ho
      · have : 0x2A00C + 0x10 * x.vector = 0x28004 := ho
        omega
      · exact hl _ ho

end

section
variable {s u : State} {q tag : Nat} {x : Qp} {d : Cmd} {l : List Nat}

/-- The commands of other tags. -/
def otherCmds (q tag : Nat) (cmds : List Cmd) : List Cmd := cmds.filter (fun d => !(d.qp == q && d.tag == tag))

theorem State.complete_plain (hx : PlainQueue u q x) (hd : u.cmdOf q tag = some d) (r : Report) :
    u.complete q tag r = { u with
      regs := (u.setCmds (otherCmds q tag u.hqe.cmds)).regs
      hostMem := hostWritten u.hostMem (x.cqBase + 32 * x.cqTail) (r.entry u.sys.time.toNat d.sqHead q tag x.phase)
      messages := x.vector :: u.messages
      hqe := { u.hqe with
        qps := Table.set (fun _ => none) u.hqe.qps q (some { x with cqTail := x.cqTail + 1 }), cmds := otherCmds q tag u.hqe.cmds } } := by
  rw [State.complete, hd]
  exact State.writeCompletion_plain (((State.CmdNear.refl u []).setCmds _).plain (keepsVectors_of (by simp)) hx) tag d.sqHead r

/-- What makes a completion: the entry, the next place of the ring, the message, and the command gone. -/
theorem completed_of {t : State} {sqHead r0 r1 r2 status info : Nat}
    (hstate : t = { s with regs := t.regs, hostMem := t.hostMem, messages := x.vector :: s.messages,
                           hqe := { s.hqe with qps := t.hqe.qps, cmds := otherCmds q tag s.hqe.cmds } })
    (hmem : t.hostMem = hostWritten s.hostMem (x.cqBase + 32 * x.cqTail)
      (completionBytes r0 r1 r2 s.sys.time.toNat sqHead q tag status info x.phase))
    (hqps : t.hqe.qps = Table.set (fun _ => none) s.hqe.qps q (some { x with cqTail := x.cqTail + 1 }))
    (hreg : s.regsBut t (R.hqeStat :: l)) : Completed s t q tag x sqHead r0 r1 r2 status info l := by
  have hlen : (completionBytes r0 r1 r2 s.sys.time.toNat sqHead q tag status info x.phase).length = 32 := by
    simp only [completionBytes, List.length_append, bytesLE_length]
  have hqp : ∀ p, t.qp p = if p = q then some { x with cqTail := x.cqTail + 1 } else s.qp p := fun p => by
    rw [State.qp, hqps, Table.get_set]
    rfl
  refine ⟨hstate, ?_, fun a ha => hostAt_written_out hmem (hlen ▸ ha), (hqp q).trans (if_pos rfl), fun p hp => (hqp p).trans (if_neg hp), hreg⟩
  have hw := hostAt_written_all hmem
  rwa [hlen] at hw

/-- A command in flight that completes on a plain queue pair. -/
theorem State.CmdNear.completed (h : s.CmdNear u l) (hl : keepsVectors l) (hx : PlainQueue s q x) (hd : u.cmdOf q tag = some d)
    (hcmds : otherCmds q tag u.hqe.cmds = otherCmds q tag s.hqe.cmds) (r : Report) (hr : r.time = none) :
    Completed s (u.complete q tag r) q tag x d.sqHead r.r0 r.r1 r.r2 r.status r.info l := by
  have heq := State.complete_plain (h.plain hl hx) hd r
  have hentry : r.entry u.sys.time.toNat d.sqHead q tag x.phase =
      completionBytes r.r0 r.r1 r.r2 s.sys.time.toNat d.sqHead q tag r.status r.info x.phase := by
    rw [Report.entry, hr, Option.getD_none, h.state]
  have hregs : (u.complete q tag r).regs = (u.setCmds (otherCmds q tag u.hqe.cmds)).regs := by rw [heq]
  refine completed_of ?_ ?_ ?_ fun off ho => (State.reg_of_regs _ _ hregs off).trans ((h.setCmds _).reg off ho)
  · rw [heq, hcmds]
    dsimp only
    rw [h.state]
  · rw [heq, hentry, h.state]
  · rw [heq, h.state]

end

end Sys2Proof.Machine

/-!
A queued command starts: marked as started, it stays in flight, or completes (R375).
-/
namespace Sys2Proof.Machine

section
variable {s t u : State} {q tag op sqHead r0 r1 r2 status info : Nat} {x : Qp} {c d : Cmd} {l m : List Nat}

/-! ## Finding a command -/

theorem State.cmdOf_names (h : s.cmdOf q tag = some c) : c.qp = q ∧ c.tag = tag := by
  have := List.find?_some h
  simpa only [Bool.and_eq_true, beq_iff_eq] using this

/-- The command marked as started, among the commands in flight. -/
def startedCmds (q tag : Nat) (cmds : List Cmd) : List Cmd := cmds.map (fun d => if d.qp == q && d.tag == tag then { d with started := true } else d)

/-- The state with the command marked as started. -/
def State.started (s : State) (q tag : Nat) : State := s.setCmds (startedCmds q tag s.hqe.cmds)

theorem otherCmds_started (cmds : List Cmd) : otherCmds q tag (startedCmds q tag cmds) = otherCmds q tag cmds := by
  induction cmds with
  | nil => rfl
  | cons d cmds ih =>
    by_cases h : (d.qp == q && d.tag == tag) = true
    · simp only [startedCmds, otherCmds, List.map_cons, h, if_true, List.filter_cons, Bool.not_true, Bool.false_eq_true, if_false] at ih ⊢
      exact ih
    · simp only [startedCmds, otherCmds, List.map_cons, h, if_false, List.filter_cons, Bool.false_eq_true] at ih ⊢
      rw [ih]

theorem find_startedCmds (cmds : List Cmd) (h : cmds.find? (fun d => d.qp == q && d.tag == tag) = some c) :
    (startedCmds q tag cmds).find? (fun d => d.qp == q && d.tag == tag) = some { c with started := true } := by
  induction cmds with
  | nil => cases h
  | cons d cmds ih =>
    rw [List.find?_cons] at h
    rw [startedCmds, List.map_cons, List.find?_cons]
    by_cases hd : (d.qp == q && d.tag == tag) = true
    · rw [hd] at h
      obtain rfl := Option.some.inj h
      simp only [hd, if_true]
    · rw [Bool.not_eq_true] at hd
      rw [hd] at h
      simp only [hd, Bool.false_eq_true, if_false]
      exact ih h

theorem State.cmds_started : (s.started q tag).hqe.cmds = startedCmds q tag s.hqe.cmds := rfl

theorem State.cmdOf_started (h : s.cmdOf q tag = some c) : (s.started q tag).cmdOf q tag = some { c with started := true } :=
  find_startedCmds _ h

theorem State.near_started (s : State) (q tag : Nat) (l : List Nat) : s.CmdNear (s.started q tag) l := (State.CmdNear.refl s l).setCmds _

/-- The next command of its queue pair starts. -/
theorem State.startCmd_ready (h : CommandReady s q tag op c x) (f : Cmd → State → State) : s.startCmd q tag op f = f c (s.started q tag) := by
  obtain ⟨-, hc, hop, hmay, -⟩ := h
  rw [State.startCmd, hc]
  exact if_pos (by rw [hop, hmay, BEq.rfl, Bool.and_true])

/-! ## A command stays in flight, or completes -/

/-- A command that has only started, besides what is of its own. -/
theorem State.CmdNear.starts (h : s.CmdNear u l) (hcmds : u.hqe.cmds = startedCmds q tag s.hqe.cmds) : CommandStarts s u q tag l :=
  ⟨h.state.trans (by rw [hcmds]; rfl), h.link, h.reg⟩

theorem endsAlike_of_completed (h : Completed s t q tag x sqHead r0 r1 r2 status info l) : s.EndsAlike t := by
  obtain ⟨hstate, -⟩ := h
  rw [hstate]
  exact ⟨rfl, rfl, rfl, rfl, rfl, rfl, rfl⟩

theorem regsBut_of_completed (h : Completed s t q tag x sqHead r0 r1 r2 status info l) : s.regsBut t (R.hqeStat :: l) := by
  obtain ⟨-, -, -, -, -, hreg⟩ := h
  exact hreg

/-- A command that completes ends so. -/
theorem State.done_of_completed (h : Completed s t q tag x sqHead r0 r1 r2 status info l) (hu : s.usual) (hl : endIgnores (R.hqeStat :: l)) :
    State.done t = .next t := State.done_of_endsAlike hu (endsAlike_of_completed h) (regsBut_of_completed h) hl

theorem completed_mono (h : Completed s t q tag x sqHead r0 r1 r2 status info l) (hl : l ⊆ m) : Completed s t q tag x sqHead r0 r1 r2 status info m := by
  obtain ⟨hstate, hentry, hmem, hq, hqp, hreg⟩ := h
  exact ⟨hstate, hentry, hmem, hq, hqp, fun off ho => hreg off fun h' => ho (List.cons_subset_cons _ hl h')⟩

/-- The command that has started completes. -/
theorem State.CmdNear.completedStarted (h : s.CmdNear u l) (hl : keepsVectors l) (hx : PlainQueue s q x) (hc : s.cmdOf q tag = some c)
    (hcmds : u.hqe.cmds = startedCmds q tag s.hqe.cmds) (r : Report) (hr : r.time = none) :
    Completed s (u.complete q tag r) q tag x c.sqHead r.r0 r.r1 r.r2 r.status r.info l := by
  have hd : u.cmdOf q tag = some { c with started := true } := by
    rw [State.cmdOf, hcmds]
    exact find_startedCmds _ hc
  exact h.completed hl hx hd (by rw [hcmds, otherCmds_started]) r hr

/-- The command that has started completes with a status alone: with nothing else done, where `s` is the state when it started. -/
theorem State.refusedStarted (h : CommandReady s q tag op c x) (r : Report) (hr : r.time = none) :
    ∃ t, State.done ((s.started q tag).complete c.qp c.tag r) = .next t ∧ Completed s t q tag x c.sqHead r.r0 r.r1 r.r2 r.status r.info [] := by
  obtain ⟨hu, hc, -, -, hx⟩ := h
  obtain ⟨hqp, htag⟩ := State.cmdOf_names hc
  rw [hqp, htag]
  have hdone := (s.near_started q tag []).completedStarted (keepsVectors_of (by simp)) hx hc State.cmds_started r hr
  exact ⟨_, State.done_of_completed hdone hu (endIgnores_of (by decide)), hdone⟩

end

end Sys2Proof.Machine

/-!
Queue-pair errors, doorbells, coalescing and failed host reads (O50).
-/
namespace Sys2Proof.Machine

/-- States that differ in registers differ within every frame. -/
theorem State.regsOnly.only {F : Frame} {s t : State} {l : List Nat} (h : s.regsOnly t l)
    (hk : ∀ (s : State) r, F.keep s { s with regs := r } = { s with regs := r }) : s.Only F t l := ⟨by rw [h.1]; exact (hk s _).symm, h.2⟩

/-- The frame of pulses, queued events and queue pairs. -/
def Frame.qps : Frame :=
  ⟨fun s t => { s with regs := t.regs, pulses := t.pulses, asyncQ := t.asyncQ, hqe := { s.hqe with qps := t.hqe.qps } }, fun _ => rfl,
    fun _ _ _ => rfl, fun _ _ _ => rfl, fun _ _ _ => rfl, fun _ _ => ⟨rfl, rfl, rfl, rfl, rfl, rfl, rfl⟩⟩

section
variable {s t d : State} {q cause : Nat} {x : Qp} {addr : Option Nat} {l : List Nat}

/-! ## Queue-pair errors -/

/-- The error of a queue pair is latched (R381). -/
def State.latchQerr (s : State) (q cause : Nat) (addr : Option Nat) : State :=
  let s1 := (((s.setFld R.hqeQerr F.hqeQerr.VALID 1).setFld R.hqeQerr F.hqeQerr.CAUSE cause).setFld R.hqeQerr
    F.hqeQerr.QP q).setFld R.hqeQerr F.hqeQerr.DIR (if addr.isSome then 1 else 0)
  match addr with
  | some a => s1.setReg64 R.hqeErrAddrLo R.hqeErrAddrHi a
  | none => s1

theorem State.latchQerr_regsOnly : s.regsOnly (s.latchQerr q cause addr) [R.hqeQerr, R.hqeErrAddrLo, R.hqeErrAddrHi] := by
  have h : s.regsOnly ((((s.setFld R.hqeQerr F.hqeQerr.VALID 1).setFld R.hqeQerr F.hqeQerr.CAUSE cause).setFld R.hqeQerr
      F.hqeQerr.QP q).setFld R.hqeQerr F.hqeQerr.DIR (if addr.isSome then 1 else 0)) [R.hqeQerr, R.hqeErrAddrLo, R.hqeErrAddrHi] :=
    ((((State.regsOnly.refl s _).setFld _ _ (by simp)).setFld _ _ (by simp)).setFld _ _ (by simp)).setFld _ _ (by simp)
  cases addr with
  | none => exact h
  | some a => exact (h.setReg _ (by simp)).setReg _ (by simp)

/-- The record of a queue pair's error. -/
theorem State.latchQerr_record (hc : cause < 8) (hq : q < 1024) (ha : ∀ a, addr = some a → a < 2 ^ 64) :
    (s.latchQerr q cause addr).fld R.hqeQerr F.hqeQerr.VALID = 1 ∧ (s.latchQerr q cause addr).fld R.hqeQerr F.hqeQerr.CAUSE = cause ∧
    (s.latchQerr q cause addr).fld R.hqeQerr F.hqeQerr.QP = q ∧
    (s.latchQerr q cause addr).fld R.hqeQerr F.hqeQerr.DIR = (if addr.isSome then 1 else 0) ∧
    ∀ a, addr = some a → (s.latchQerr q cause addr).reg64 R.hqeErrAddrLo R.hqeErrAddrHi = a := by
  have hfld : ∀ f, (s.latchQerr q cause addr).fld R.hqeQerr f = ((((s.setFld R.hqeQerr F.hqeQerr.VALID 1).setFld R.hqeQerr
      F.hqeQerr.CAUSE cause).setFld R.hqeQerr F.hqeQerr.QP q).setFld R.hqeQerr F.hqeQerr.DIR (if addr.isSome then 1 else 0)).fld R.hqeQerr f := fun f => by
    cases addr with
    | none => rfl
    | some a => exact (State.fld_setReg_ne _ _ _ _ _ (by decide)).trans (State.fld_setReg_ne _ _ _ _ _ (by decide))
  have hdir : (if addr.isSome = true then 1 else 0) % 2 ^ 1 = if addr.isSome = true then 1 else 0 := by split <;> rfl
  refine ⟨?_, ?_, ?_, ?_, fun a h => ?_⟩
  · rw [hfld, State.fld_setFld_apart _ _ _ _ _ (by decide) (by decide) (by decide), State.fld_setFld_apart _ _ _ _ _ (by decide) (by decide) (by decide),
      State.fld_setFld_apart _ _ _ _ _ (by decide) (by decide) (by decide), State.fld_setFld _ _ _ _ (by decide)]
    rfl
  · rw [hfld, State.fld_setFld_apart _ _ _ _ _ (by decide) (by decide) (by decide), State.fld_setFld_apart _ _ _ _ _ (by decide) (by decide) (by decide),
      State.fld_setFld _ _ _ _ (by decide)]
    exact Nat.mod_eq_of_lt hc
  · rw [hfld, State.fld_setFld_apart _ _ _ _ _ (by decide) (by decide) (by decide), State.fld_setFld _ _ _ _ (by decide)]
    exact Nat.mod_eq_of_lt hq
  · rw [hfld, State.fld_setFld _ _ _ _ (by decide)]
    exact hdir
  · subst h
    exact State.reg64_setReg64 _ _ _ _ (by decide) (ha a rfl)

/-- The state that a queue pair's error leaves, but for its pulse and its event. -/
def State.qpErrorRegs (s : State) (q cause : Nat) (x : Qp) (addr : Option Nat) : State :=
  ((s.setQp q (some { x with error := true })).setFld R.hqeStat F.hqeStat.QERR 1).latchQerr q cause addr

theorem State.qpError_eq (hq : s.qp q = some x) (herr : x.error = false) (hvalid : s.fld R.hqeQerr F.hqeQerr.VALID = 0) :
    s.qpError q cause addr = ((s.qpErrorRegs q cause x addr).fire 246).queueAsync 2 (q + cause * 2 ^ 16)
      ((s.qpErrorRegs q cause x addr).reg R.hqeErrAddrLo).toNat := by
  have hv : ((s.setQp q (some { x with error := true })).setFld R.hqeStat F.hqeStat.QERR 1).bit R.hqeQerr F.hqeQerr.VALID = false :=
    State.bit_eq_false ((State.fld_setFld_ne _ _ _ _ _ _ (by decide)).trans
      ((State.fld_of_reg (State.reg_of_regs s (s.setQp q (some { x with error := true })) rfl _) _).trans hvalid))
  delta State.qpError
  rw [hq]
  refine (if_neg (by rw [herr]; exact Bool.false_ne_true)).trans ?_
  extract_lets s1 s3 s2
  have hs2 : s2 = s.qpErrorRegs q cause x addr := by
    change (if s1.bit R.hqeQerr F.hqeQerr.VALID = true then s1 else _) = _
    rw [show s1.bit R.hqeQerr F.hqeQerr.VALID = false from hv]
    cases addr <;> rfl
  rw [hs2]

theorem State.qpErrorRegs_only : s.Only Frame.qps (s.qpErrorRegs q cause x addr) [R.hqeStat, R.hqeQerr, R.hqeErrAddrLo, R.hqeErrAddrHi] := by
  have h1 : s.Only Frame.qps ((s.setQp q (some { x with error := true })).setFld R.hqeStat F.hqeStat.QERR 1)
      [R.hqeStat, R.hqeQerr, R.hqeErrAddrLo, R.hqeErrAddrHi] := 
    State.Only.setFld (F := Frame.qps) (s := s) (t := s.setQp q (some { x with error := true })) ⟨rfl, fun _ _ => rfl⟩ _ _ List.mem_cons_self
  exact h1.trans ((State.latchQerr_regsOnly.only (F := Frame.qps) fun _ _ => rfl).mono (List.subset_cons_self _ _))

theorem State.sec_qpError (hq : s.qp q = some x) (herr : x.error = false) (hvalid : s.fld R.hqeQerr F.hqeQerr.VALID = 0) :
    (s.qpError q cause addr).sec = s.sec := by
  rw [State.qpError_eq hq herr hvalid]
  exact (State.HostSide.queueAsync _ _ _).sec.trans State.qpErrorRegs_only.endsAlike.sec

/-- A queue pair enters ERROR (R381-R383). -/
theorem State.queueFailed_qpError (hq : s.qp q = some x) (herr : x.error = false) (hroom : s.asyncQ.length < 64)
    (hvalid : s.fld R.hqeQerr F.hqeQerr.VALID = 0) (hc : cause < 8) (hlt : q < 1024) (ha : ∀ a, addr = some a → a < 2 ^ 64) :
    QueueFailed s (s.qpError q cause addr) q x cause addr [] := by
  have hasync : (s.qpErrorRegs q cause x addr).asyncQ = s.asyncQ := by rw [State.qpErrorRegs, State.latchQerr_regsOnly.1]; rfl
  rw [State.qpError_eq hq herr hvalid, State.queueAsync, if_pos (show ((s.qpErrorRegs q cause x addr).fire 246).asyncQ.length < 64 from hasync ▸ hroom)]
  have honly := State.qpErrorRegs_only (s := s) (q := q) (cause := cause) (x := x) (addr := addr)
  have hqps : (s.qpErrorRegs q cause x addr).hqe.qps = Table.set (fun _ => none) s.hqe.qps q (some { x with error := true }) := by
    rw [State.qpErrorRegs, State.latchQerr_regsOnly.1]
    rfl
  have hpulses : (s.qpErrorRegs q cause x addr).pulses = s.pulses := by rw [State.qpErrorRegs, State.latchQerr_regsOnly.1]; rfl
  obtain ⟨hv, hcause, hqp, hdir, haddr⟩ :=
    State.latchQerr_record (s := (s.setQp q (some { x with error := true })).setFld R.hqeStat F.hqeStat.QERR 1) (addr := addr) hc hlt ha
  have hqerr : (s.qpErrorRegs q cause x addr).fld R.hqeStat F.hqeStat.QERR = 1 := by
    rw [State.qpErrorRegs, State.latchQerr_regsOnly.fld (by decide), State.fld_setFld _ _ _ _ (by decide)]
    rfl
  rw [← State.qpErrorRegs] at hv hcause hqp hdir haddr
  generalize s.qpErrorRegs q cause x addr = u at *
  have hset : ∀ p, Table.get (fun _ => none) u.hqe.qps p = if p = q then some { x with error := true } else s.qp p := fun p => by
    rw [hqps, Table.get_set]
    rfl
  refine ⟨?_, (hset q).trans (if_pos rfl), fun p hp => (hset p).trans (if_neg hp), mem_addSorted.mpr (.inr rfl), hqerr, hv, hcause, hqp, hdir, haddr,
    ⟨_, congrArg (· ++ _) hasync, rfl, rfl⟩, honly.reg⟩
  have hstate := honly.state
  generalize (u.reg R.hqeErrAddrLo).toNat = result
  rw [hstate]
  rfl

end

/-- A queue pair's error after a change of pulses and registers. -/
theorem queueFailed_after {s d t : State} {q cause : Nat} {x : Qp} {addr : Option Nat} {l : List Nat} (h : QueueFailed d t q x cause addr [])
    (hstate : d = { s with regs := d.regs, sec := d.sec, pulses := d.pulses }) (hreg : s.regsBut d l) : QueueFailed s t q x cause addr l := by
  obtain ⟨ht, hq, hp, hpulse, hqerr, hv, hcause, hqp, hdir, haddr, hev, hregs⟩ := h
  refine ⟨?_, hq, fun p hne => (hp p hne).trans ?_, hpulse, hqerr, hv, hcause, hqp, hdir, haddr, ?_, fun off ho => ?_⟩
  · rw [ht, hstate]
  · rw [hstate]
    rfl
  · rw [hstate] at hev
    exact hev
  · rw [List.mem_append, not_or] at ho
    exact (hregs off (by rw [List.append_nil]; exact ho.1)).trans (hreg off ho.2)

/-- A command that puts a queue pair into ERROR ends so. -/
theorem State.done_of_queueFailed {s t : State} {q cause : Nat} {x : Qp} {addr : Option Nat} {l : List Nat} (hu : s.usual)
    (h : QueueFailed s t q x cause addr l) (hsec : t.sec = s.sec)
    (hl : endIgnores ([R.hqeStat, R.hqeQerr, R.hqeErrAddrLo, R.hqeErrAddrHi] ++ l)) : State.done t = .next t := by
  obtain ⟨ht, -, -, -, -, -, -, -, -, -, -, hreg⟩ := h
  refine State.done_of_endsAlike hu ?_ hreg hl
  rw [ht]
  exact ⟨rfl, rfl, hsec, rfl, rfl, rfl, rfl⟩

end Sys2Proof.Machine

/-!
Doorbells, coalescing and failed host reads (O50).
-/
namespace Sys2Proof.Machine

/-- Where nothing waits, no host loss is being handled. -/
theorem State.sec_without_hostLoss {s : State} (h : s.quiet) : { s.sec with hostLoss := none } = s.sec := by
  obtain ⟨-, -, hsec⟩ := h
  rcases hsec with hsec | ⟨-, -, hloss, -⟩
  · rw [hsec]
  · rw [← hloss]

/-- The HQE without reads of host memory under way serves its queues over PCIe. -/
theorem State.bridge_of_le {s : State} (h : s.fld R.hqeStat F.hqeStat.LINK ≤ 1) : s.bridge = false := decide_eq_false (by omega)

theorem State.askEntries_of_link {s : State} (h : s.fld R.hqeStat F.hqeStat.LINK ≤ 1) (q : Nat) (x : Qp) (n : Nat) : s.askEntries q x n = s := by
  refine List.foldlRecOn (motive := fun t => t = s) _ _ rfl fun t ht i _ => ?_
  rw [ht, State.askHost, State.bridge_of_le h]
  rfl

section
variable {s : State} (hu : s.usual) (q : Fin 1024) (w : Word)
include hu

/-- A doorbell of a queue pair that does not exist. -/
theorem exec_strayDoorbell (h : s.qp q = none) : ∀ i ∈ [Instr.sqTailDoorbell q w, .cqHeadDoorbell q w],
    ∃ t, exec i s = .next t ∧ s.sameBut t [R.hqeStat] ∧ t.fld R.hqeStat F.hqeStat.DB_STRAY = 1 := by
  have hsame : s.sameBut (s.setFld R.hqeStat F.hqeStat.DB_STRAY 1) [R.hqeStat] := (State.sameBut_refl _ _).setFld _ _ (by simp)
  have hdone := State.done_of_regs hu hsame (by unfold endIgnores; decide)
  have hbit : (s.setFld R.hqeStat F.hqeStat.DB_STRAY 1).fld R.hqeStat F.hqeStat.DB_STRAY = 1 := State.fld_setFld _ _ _ _ (by decide)
  intro i hi
  rcases List.mem_pair.mp hi with rfl | rfl
  · refine ⟨_, ?_, hsame, hbit⟩
    change State.done (s.tailDoorbell q w) = _
    rw [State.tailDoorbell, h, hdone]
  · refine ⟨_, ?_, hsame, hbit⟩
    change State.done (s.headDoorbell q w) = _
    rw [State.headDoorbell, h, hdone]

/-- What a doorbell does whatever its queue pair makes of it (R385). -/
theorem State.doorbell_eq : s.doorbell = if s.fld R.hqeCtl F.hqeCtl.DB_EV = 1 then s.fire 240 else s := by
  have hsec : { s with sec := { s.sec with hostLoss := none } } = s := by rw [State.sec_without_hostLoss hu.1]
  rw [State.doorbell, hsec]
  exact if_congr (State.bit_iff_one rfl) rfl rfl

theorem State.doorbell_state : s.doorbell = { s with pulses := s.doorbell.pulses } ∧
    s.doorbell.pulses = (if s.fld R.hqeCtl F.hqeCtl.DB_EV = 1 then addSorted s.pulses 240 else s.pulses) := by
  rw [State.doorbell_eq hu]
  split <;> exact ⟨rfl, rfl⟩

/-- A doorbell that leaves its queue pair as `y`. -/
theorem done_movedDoorbell {t : State} {y : Qp} (ht : t = { s.doorbell with hqe := { s.doorbell.hqe with qps := t.hqe.qps } }) (hy : t.qp q = some y)
    (hp : ∀ p, p ≠ q.val → t.qp p = s.qp p) :
    State.done t = .next t ∧ t = { s with sec := { s.sec with hostLoss := none }, pulses := t.pulses, hqe := { s.hqe with qps := t.hqe.qps } } ∧
      t.qp q = some y ∧ (∀ p, p ≠ q.val → t.qp p = s.qp p) ∧
      t.pulses = (if s.fld R.hqeCtl F.hqeCtl.DB_EV = 1 then addSorted s.pulses 240 else s.pulses) := by
  obtain ⟨hd, hpulses⟩ := State.doorbell_state hu
  have hts : t = { s with pulses := t.pulses, hqe := { s.hqe with qps := t.hqe.qps } } := by
    rw [ht, hd]
  refine ⟨?_, ?_, hy, hp, ?_⟩
  · exact State.done_of_endsAlike hu (by rw [hts]; exact ⟨rfl, rfl, rfl, rfl, rfl, rfl, rfl⟩)
      (State.regsBut_of_regs [] (congrArg State.regs hts :)) (by unfold endIgnores; decide)
  · rw [State.sec_without_hostLoss hu.1]
    exact hts
  · exact (congrArg State.pulses ht :).trans hpulses

/-- A doorbell that puts its queue pair into ERROR. -/
theorem done_failedDoorbell {x : Qp} (hq : s.qp q = some x) (herr : x.error = false) (cause : Nat) (hc : cause < 8) (hroom : s.asyncQ.length < 64)
    (hvalid : s.fld R.hqeQerr F.hqeQerr.VALID = 0) :
    State.done (s.doorbell.qpError q cause none) = .next (s.doorbell.qpError q cause none) ∧ QueueFailed s (s.doorbell.qpError q cause none) q x cause none [] := by
  obtain ⟨hd, -⟩ := State.doorbell_state hu
  have hregs : s.doorbell.regs = s.regs := by rw [hd]
  have hfailed := State.queueFailed_qpError (s := s.doorbell) (q := q) (x := x) (cause := cause) (addr := none) (by rw [hd]; exact hq) herr
    (by rw [hd]; exact hroom) ((State.fld_of_reg (State.reg_of_regs _ _ hregs _) _).trans hvalid) hc q.isLt (by simp)
  have hafter : QueueFailed s (s.doorbell.qpError q cause none) q x cause none [] :=
    queueFailed_after hfailed (by rw [hd]) (State.regsBut_of_regs _ hregs)
  refine ⟨State.done_of_queueFailed hu hafter ?_ (by unfold endIgnores; decide), hafter⟩
  exact (State.sec_qpError (by rw [hd]; exact hq) herr ((State.fld_of_reg (State.reg_of_regs _ _ hregs _) _).trans hvalid)).trans (by rw [hd])

/-! ## The doorbells of a queue pair -/

/-- What O50 says of a queue pair's doorbells. -/
theorem exec_doorbells (x : Qp) (hq : s.qp q = some x) :
    let moved (i : Instr) (y : Qp) : Prop := ∃ t, exec i s = .next t ∧
      t = { s with sec := { s.sec with hostLoss := none }, pulses := t.pulses, hqe := { s.hqe with qps := t.hqe.qps } } ∧
      t.qp q = some y ∧ (∀ p, p ≠ q.val → t.qp p = s.qp p) ∧
      t.pulses = (if s.fld R.hqeCtl F.hqeCtl.DB_EV = 1 then addSorted s.pulses 240 else s.pulses)
    let failed (i : Instr) (cause : Nat) : Prop := s.asyncQ.length < 64 → s.fld R.hqeQerr F.hqeQerr.VALID = 0 →
      ∃ t, exec i s = .next t ∧ QueueFailed s t q x cause none []
    let span (a b : Nat) : Nat := (b + x.cqSize - a) % x.cqSize
    (x.error = true → ∀ i ∈ [Instr.sqTailDoorbell q w, .cqHeadDoorbell q w], moved i x) ∧
    (x.error = false → s.fld R.hqeStat F.hqeStat.LINK ≤ 1 →
      (w.toNat < x.sqSize → moved (.sqTailDoorbell q w) { x with sqTail := w.toNat }) ∧
      (x.sqSize ≤ w.toNat → failed (.sqTailDoorbell q w) 1) ∧
      (w.toNat < x.cqSize → span x.cqHead w.toNat ≤ span x.cqHead x.cqTail → moved (.cqHeadDoorbell q w) { x with cqHead := w.toNat }) ∧
      (x.cqSize ≤ w.toNat ∨ span x.cqHead x.cqTail < span x.cqHead w.toNat → failed (.cqHeadDoorbell q w) 2)) := by
  intro moved failed span
  obtain ⟨hd, -⟩ := State.doorbell_state hu
  have hqd : ∀ p, s.doorbell.qp p = s.qp p := fun p => by rw [hd]; rfl
  have hmoved : ∀ (i : Instr) (y : Qp), exec i s = State.done (s.doorbell.setQp q (some y)) → moved i y := fun i y hi => by
    obtain ⟨hdone, hrest⟩ := done_movedDoorbell hu q (t := s.doorbell.setQp q (some y)) rfl (State.qp_setQp _ _ _)
      fun p hp => (State.qp_setQp_ne _ _ _ hp).trans (hqd p)
    exact ⟨_, hi.trans hdone, hrest⟩
  have hfailed : ∀ (i : Instr) (cause : Nat), cause < 8 → x.error = false → exec i s = State.done (s.doorbell.qpError q cause none) →
      failed i cause := fun i cause hc herr hi hroom hvalid => by
    obtain ⟨hdone, hrest⟩ := done_failedDoorbell hu q hq herr cause hc hroom hvalid
    exact ⟨_, hi.trans hdone, hrest⟩
  refine ⟨fun herr i hi => ?_, fun herr hlink => ⟨fun hw => ?_, fun hw => ?_, fun hw hspan => ?_, fun hw => ?_⟩⟩
  · obtain ⟨hdone, hrest⟩ := done_movedDoorbell hu q (t := s.doorbell) (y := x) rfl ((hqd _).trans hq) fun p _ => hqd p
    refine ⟨_, ?_, hrest⟩
    rcases List.mem_pair.mp hi with rfl | rfl
    · change State.done (s.tailDoorbell q w) = _
      rw [State.tailDoorbell, hq]
      exact (congrArg State.done (if_pos herr)).trans hdone
    · change State.done (s.headDoorbell q w) = _
      rw [State.headDoorbell, hq]
      exact (congrArg State.done (if_pos herr)).trans hdone
  · refine hmoved _ _ ?_
    change State.done (s.tailDoorbell q w) = _
    rw [State.tailDoorbell, hq]
    dsimp only
    rw [herr, if_neg Bool.false_ne_true, if_neg (by omega), State.askEntries_of_link (by rw [hd]; exact hlink)]
  · refine hfailed _ 1 (by decide) herr ?_
    change State.done (s.tailDoorbell q w) = _
    rw [State.tailDoorbell, hq]
    dsimp only
    rw [herr, if_neg Bool.false_ne_true, if_pos hw]
  · refine hmoved _ _ ?_
    change State.done (s.headDoorbell q w) = _
    rw [State.headDoorbell, hq]
    dsimp only
    rw [herr, if_neg Bool.false_ne_true, if_neg]
    have hs : ¬span x.cqHead x.cqTail < span x.cqHead w.toNat := by omega
    exact fun h => h.elim (by omega) hs
  · refine hfailed _ 2 (by decide) herr ?_
    change State.done (s.headDoorbell q w) = _
    rw [State.headDoorbell, hq]
    dsimp only
    rw [herr, if_neg Bool.false_ne_true]
    exact congrArg State.done (if_pos hw)

/-! ## Coalescing -/

theorem exec_coalesceTimeout (x : Qp) (hq : s.qp q = some x) :
    (x.unsig = 0 → exec (.coalesceTimeout q) s = .next s) ∧
    (x.unsig ≠ 0 → s.fld (R.hqeMsixCtrl x.vector) F.hqeMsixCtrl.MASK = 0 →
      ∃ t, exec (.coalesceTimeout q) s = .next t ∧
        t = { s with messages := x.vector :: s.messages, hqe := { s.hqe with qps := t.hqe.qps } } ∧ t.qp q = some { x with unsig := 0 } ∧
        (∀ p, p ≠ q.val → t.qp p = s.qp p)) := by
  have hexec : exec (.coalesceTimeout q) s = State.done (s.coalesce q) := rfl
  have hdef : s.coalesce q = if x.unsig = 0 then s else (s.setQp q (some { x with unsig := 0 })).signal x.vector := by rw [State.coalesce, hq]
  refine ⟨fun h => ?_, fun h hmask => ?_⟩
  · rw [hexec, hdef, if_pos h, State.done_of_usual hu]
  · rw [hexec, hdef, if_neg h, State.signal_setQp hmask]
    refine ⟨_, State.done_of_endsAlike hu ⟨rfl, rfl, rfl, rfl, rfl, rfl, rfl⟩ (State.regsBut_of_regs [] rfl) (by unfold endIgnores; decide), rfl, ?_, fun p hp => ?_⟩
    · exact s.qp_setQp q _
    · exact s.qp_setQp_ne q _ hp

/-! ## Failed host reads -/

omit hu in
theorem State.loadFail_none (h : s.pack.loads = []) (q tag : Nat) : s.loadFail q tag = s := by
  unfold State.loadFail
  simp only [h, List.filter_nil, List.foldl_nil]
  rw [← h]

omit hu in
theorem State.dropReads_none (h : s.hqe.reads = []) (ring : Bool) (q tag : Nat) : s.dropReads ring q tag = s := by
  unfold State.dropReads
  simp only [h, List.filter_nil]
  rw [← h]

omit hu in
theorem State.openStreams_none (h : s.streams = []) : s.openStreams = [] := by rw [State.openStreams, h]; rfl

/-- The counter of a failed host read (R381). -/
def readFailCnt (timeout : Bool) : Nat := if timeout then R.hqeTmoCnt else R.hqeBusCnt

omit hu in
theorem State.hostReadFail_fetch (timeout : Bool) (addr q : Nat) :
    s.hostReadFail q none addr timeout = (s.count (readFailCnt timeout)).qpError q (if timeout then 3 else 4) (some addr) := by
  cases timeout <;> rfl

omit hu in
theorem readFailCnt_ne (timeout : Bool) : readFailCnt timeout ≠ R.hqeQerr ∧ readFailCnt timeout ≠ R.hqeStat ∧
    readFailCnt timeout ≠ R.hqeErrAddrLo ∧ readFailCnt timeout ≠ R.hqeErrAddrHi := by cases timeout <;> decide

/-- A fetch from a queue pair that fails. -/
theorem done_fetchFails (x : Qp) (hq : s.qp q = some x) (herr : x.error = false) (hroom : s.asyncQ.length < 64)
    (hvalid : s.fld R.hqeQerr F.hqeQerr.VALID = 0) (timeout : Bool) (addr : BitVec 64) :
    ∃ t, State.done (s.hostReadFail q none addr.toNat timeout) = .next t ∧
      QueueFailed s t q x (if timeout then 3 else 4) (some addr.toNat) [readFailCnt timeout] ∧
      t.reg (readFailCnt timeout) = satInc (s.reg (readFailCnt timeout)) := by
  rw [State.hostReadFail_fetch]
  obtain ⟨hne, hne1, hne2, hne3⟩ := readFailCnt_ne timeout
  have hv : (s.count (readFailCnt timeout)).fld R.hqeQerr F.hqeQerr.VALID = 0 := (State.fld_setReg_ne _ _ _ _ _ hne.symm).trans hvalid
  have hfailed := State.queueFailed_qpError (s := s.count (readFailCnt timeout)) (q := q) (x := x) (cause := if timeout then 3 else 4)
    (addr := some addr.toNat) hq herr hroom hv (by split <;> decide) q.isLt (fun a h => Option.some.inj h ▸ addr.isLt)
  have hafter := queueFailed_after (l := [readFailCnt timeout]) hfailed rfl ((State.regsBut.refl s _).count (by simp))
  refine ⟨_, State.done_of_queueFailed hu hafter (State.sec_qpError (s := s.count (readFailCnt timeout)) hq herr hv) ?_, hafter, ?_⟩
  · cases timeout <;> (unfold endIgnores; decide)
  · obtain ⟨-, -, -, -, -, -, -, -, -, -, -, hreg⟩ := hfailed
    exact (hreg _ (by simp [hne, hne1, hne2, hne3])).trans ((State.reg_count _ _ _).trans (if_pos rfl))

/-- A read for a command that fails, with the queue pairs' error held and no stream or load. -/
theorem done_readFails (x : Qp) (hx : PlainQueue s q x) (tag : Nat) (c : Cmd) (hc : s.cmdOf q tag = some c) (hloads : s.pack.loads = [])
    (hstreams : s.streams = []) (hvalid : s.fld R.hqeQerr F.hqeQerr.VALID = 1) (timeout : Bool) (addr : Nat) :
    ∃ t, State.done (s.hostReadFail q (some tag) addr timeout) = .next t ∧
      Completed s t q tag x c.sqHead 0 0 0 (if timeout then St.timeout else St.busError) 0 [readFailCnt timeout] ∧
      t.reg (readFailCnt timeout) = satInc (s.reg (readFailCnt timeout)) := by
  obtain ⟨hne, hne1, -⟩ := readFailCnt_ne timeout
  have hnear : s.CmdNear (s.count (readFailCnt timeout)) [readFailCnt timeout] := (State.CmdNear.refl s _).setReg _ (by simp) hne1.symm
  have hkeep : keepsVectors [readFailCnt timeout] := keepsVectors_of (by cases timeout <;> decide)
  have hdone := hnear.completed hkeep hx (d := c) hc rfl { status := if timeout then St.timeout else St.busError } rfl
  have hreads : s.hqe.reads = [] := by
    obtain ⟨-, -, -, -, -, -, hreads⟩ := hx
    exact hreads
  have hfail : s.hostReadFail q (some tag) addr timeout =
      (s.count (readFailCnt timeout)).completeSt q tag (if timeout then St.timeout else St.busError) := by
    have hcount : (if timeout = true then s.count R.hqeTmoCnt else s.count R.hqeBusCnt) = s.count (readFailCnt timeout) := by cases timeout <;> rfl
    have hbit : (s.count (readFailCnt timeout)).bit R.hqeQerr F.hqeQerr.VALID = true :=
      State.bit_eq_true ((State.fld_setReg_ne _ _ _ _ _ hne.symm).trans hvalid)
    delta State.hostReadFail
    rw [hcount]
    dsimp only
    rw [if_pos hbit, State.loadFail_none (s := s.count _) hloads, State.dropReads_none (s := s.count _) hreads,
      State.openStreams_none (s := s.count _) hstreams, List.foldl_nil]
  rw [hfail]
  refine ⟨_, State.done_of_completed hdone hu ?_, hdone, ?_⟩
  · cases timeout <;> (unfold endIgnores; decide)
  · have hself := (State.CmdNear.refl (s.count (readFailCnt timeout)) []).completed (keepsVectors_of (by simp)) (hnear.plain hkeep hx) (d := c) hc rfl
      { status := if timeout then St.timeout else St.busError } rfl
    exact (regsBut_of_completed hself _ (by simpa using hne1)).trans ((State.reg_count _ _ _).trans (if_pos rfl))

end

end Sys2Proof.Machine

/-!
The fetch of a queue pair's next entry (O50).
-/
namespace Sys2Proof.Machine

section
variable {s : State} {q : Nat} {x : Qp}

/-- A completion on a plain queue pair where no command is in flight. -/
theorem completed_writeCompletion (hx : PlainQueue s q x) (hcmds : s.hqe.cmds = []) (tag sqHead : Nat) (r : Report) (hr : r.time = none) :
    Completed s (s.writeCompletion q tag sqHead r) q tag x sqHead r.r0 r.r1 r.r2 r.status r.info [] := by
  have heq := State.writeCompletion_plain hx tag sqHead r
  have hentry : r.entry s.sys.time.toNat sqHead q tag x.phase = completionBytes r.r0 r.r1 r.r2 s.sys.time.toNat sqHead q tag r.status r.info x.phase := by
    rw [Report.entry, hr, Option.getD_none]
  have hregs : (s.writeCompletion q tag sqHead r).regs = s.regs := by rw [heq]
  have hnone : otherCmds q tag s.hqe.cmds = s.hqe.cmds := by
    rw [hcmds]
    rfl
  refine completed_of ?_ ?_ ?_ (State.regsBut_of_regs _ hregs)
  · rw [heq, hnone]
  · rw [heq, hentry]
  · rw [heq]

/-! ## The queue pair served next -/

/-- The only queue pair is served whenever a command may be fetched from it (R375). -/
theorem State.nextQueue_single (hqps : s.hqe.qps = [(q, some x)]) : s.nextQueue = if s.fetchable q then some q else none := by
  have hall : s.hqe.qps.map (fun (e : Nat × Option Qp) => e.1) = [q] := by rw [hqps]; rfl
  rw [State.nextQueue, hall]
  by_cases hlast : s.hqe.last < q
  · have : ¬q ≤ s.hqe.last := by omega
    by_cases hf : s.fetchable q = true <;> simp [hlast, this, hf]
  · have : q ≤ s.hqe.last := by omega
    by_cases hf : s.fetchable q = true <;> simp [hlast, this, hf]

theorem State.fetchable_ready (hq : s.qp q = some x) (hcmds : s.hqe.cmds = []) (hready : s.fld R.sysBootStat F.sysBootStat.READY = 1) (herr : x.error = false) :
    s.fetchable q = (x.sqHead != x.sqTail && decide (ringSpan x.cqSize x.cqHead x.cqTail < x.cqSize - 1)) := by
  rw [State.fetchable, hq]
  dsimp only
  rw [hcmds, herr, State.bit_eq_true hready, Bool.or_true, Bool.and_true, List.filter_nil, List.length_nil, Nat.zero_add, Bool.not_false, Bool.true_and]

/-! ## The entry fetched -/

/-- The command of an entry. -/
def fetchedCmd (q : Nat) (x : Qp) (entry : List Byte) : Cmd :=
  { qp := q, tag := ((dwords entry).headD 0).toNat / 65536, op := ((dwords entry).headD 0).toNat % 256, words := dwords entry, sqHead := (x.sqHead + 1) % x.sqSize }

/-- The state in which the entry has been taken from its queue. -/
def State.entryTaken (s : State) (q : Nat) (x : Qp) : State :=
  { s with hqe := { s.hqe with last := q, qps := Table.set (fun _ => none) s.hqe.qps q (some { x with sqHead := (x.sqHead + 1) % x.sqSize }) } }

theorem State.fetchCommand_eq (hx : PlainQueue s q x) (hqps : s.hqe.qps = [(q, some x)]) (hcmds : s.hqe.cmds = []) (hd3 : s.hqe.d3hot = false)
    (hready : s.fld R.sysBootStat F.sysBootStat.READY = 1) (herr : x.error = false) (entry : List Byte) (hne : x.sqHead ≠ x.sqTail)
    (hroom : (x.cqTail + x.cqSize - x.cqHead) % x.cqSize < x.cqSize - 1) :
    s.fetchCommand entry =
      match (s.entryTaken q x).checkCmd (fetchedCmd q x entry) with
      | some (st, info) => (s.entryTaken q x).writeCompletion q (fetchedCmd q x entry).tag (fetchedCmd q x entry).sqHead { status := st, info := info }
      | none => (s.entryTaken q x).setCmds [fetchedCmd q x entry] := by
  obtain ⟨hq, -, -, -, -, hlink, hreads⟩ := hx
  have hbridge : ∀ t : State, t.fld R.hqeStat F.hqeStat.LINK = 1 → t.bridge = false := fun t h => State.bridge_of_le (by omega)
  have hnext : s.nextQueue = some q := by
    rw [State.nextQueue_single hqps, State.fetchable_ready hq hcmds hready herr, if_pos]
    rw [Bool.and_eq_true, bne_iff_ne, decide_eq_true_eq]
    exact ⟨hne, hroom⟩
  have hstart : ¬(s.fld R.hqeStat F.hqeStat.LINK = 0 ∨ s.hqe.d3hot = true ∨ 4096 ≤ s.hqe.cmds.length) := by
    rw [hlink, hd3, hcmds]
    simp
  have hask : ∀ (t : State) ring tag a n, t.fld R.hqeStat F.hqeStat.LINK = 1 → t.askHost ring q tag a n = t := fun t ring tag a n h => by
    rw [State.askHost, hbridge t h]
    rfl
  have hlink3 : ((s.entryTaken q x).setCmds ((s.entryTaken q x).hqe.cmds ++ [fetchedCmd q x entry])).fld R.hqeStat F.hqeStat.LINK = 1 :=
    ((State.CmdNear.refl (s.entryTaken q x) []).setCmds _).link.trans ((State.fld_of_reg (State.reg_of_regs s (s.entryTaken q x) rfl _) _).trans hlink)
  have hfind : s.hqe.reads.find? (fun r => r.ring && r.qp == q) = none := by
    rw [hreads]
    rfl
  delta State.fetchCommand
  refine (if_neg hstart).trans ?_
  rw [hnext]
  dsimp only
  rw [hq]
  dsimp only
  rw [hfind]
  dsimp only
  rw [hbridge s hlink, if_neg Bool.false_ne_true]
  dsimp only
  change (match (s.entryTaken q x).checkCmd (fetchedCmd q x entry) with
    | some (st, info) => (s.entryTaken q x).writeCompletion q (fetchedCmd q x entry).tag (fetchedCmd q x entry).sqHead { status := st, info := info }
    | none => match (fetchedCmd q x entry).needs with
      | some (a, n) => ((s.entryTaken q x).setCmds ((s.entryTaken q x).hqe.cmds ++ [fetchedCmd q x entry])).askHost false q (fetchedCmd q x entry).tag a n
      | none => (s.entryTaken q x).setCmds ((s.entryTaken q x).hqe.cmds ++ [fetchedCmd q x entry])) = _
  have hcmds' : (s.entryTaken q x).hqe.cmds = [] := hcmds
  rw [hcmds', List.nil_append] at hlink3 ⊢
  cases (s.entryTaken q x).checkCmd (fetchedCmd q x entry) with
  | some y => rfl
  | none =>
    dsimp only
    cases (fetchedCmd q x entry).needs with
    | none => rfl
    | some y => exact hask _ _ _ _ _ hlink3

theorem State.checkCmd_taken (hcmds : s.hqe.cmds = []) (hready : s.fld R.sysBootStat F.sysBootStat.READY = 1) (c : Cmd) :
    (s.entryTaken q x).checkCmd c =
      if (!(opKnown c.op) || (opAdmin c.op && c.qp != 0)) = true then some (St.invalidOpcode, 0)
      else if (!c.fieldsOk) = true then some (St.invalidField, 0) else none := by
  have hno : ((s.entryTaken q x).cmdOf c.qp c.tag).isSome = false := by
    rw [State.cmdOf, show (s.entryTaken q x).hqe.cmds = [] from hcmds]
    rfl
  have hbit : (s.entryTaken q x).bit R.sysBootStat F.sysBootStat.READY = true :=
    State.bit_eq_true ((State.fld_of_reg (State.reg_of_regs s (s.entryTaken q x) rfl _) _).trans hready)
  rw [State.checkCmd, hno, hbit, if_neg Bool.false_ne_true, Bool.not_true, Bool.false_and, if_neg Bool.false_ne_true]

/-! ## The clause of O50 -/

theorem exec_commandFetch (hu : s.usual) (entry : List Byte) (hx : PlainQueue s q x) (hqps : s.hqe.qps = [(q, some x)]) (hcmds : s.hqe.cmds = [])
    (hd3 : s.hqe.d3hot = false) (hready : s.fld R.sysBootStat F.sysBootStat.READY = 1) (herr : x.error = false) :
    let word (i : Nat) : Word := BitVec.ofNat 32 (fieldAt entry (4 * i) 4)
    let head := (x.sqHead + 1) % x.sqSize
    let c : Cmd := { qp := q, tag := (word 0).toNat / 65536, op := (word 0).toNat % 256, words := (List.range 16).map word, sqHead := head }
    (x.sqHead = x.sqTail → exec (.commandFetch entry) s = .next s) ∧
    (x.sqHead ≠ x.sqTail → (x.cqTail + x.cqSize - x.cqHead) % x.cqSize < x.cqSize - 1 →
      let s1 : State := { s with hqe := { s.hqe with last := q, qps := Table.set (fun _ => none) s.hqe.qps q (some { x with sqHead := head }) } }
      let refused (status info : Nat) : Prop := ∃ t, exec (.commandFetch entry) s = .next t ∧
        Completed s1 t q c.tag { x with sqHead := head } head 0 0 0 status info []
      (¬(opKnown c.op) ∨ (opAdmin c.op = true ∧ q ≠ 0) → refused St.invalidOpcode 0) ∧
      (opKnown c.op = true → (opAdmin c.op = true → q = 0) → c.fieldsOk = false → refused St.invalidField 0) ∧
      (opKnown c.op = true → (opAdmin c.op = true → q = 0) → c.fieldsOk = true →
        ∃ t, exec (.commandFetch entry) s = .next t ∧ t = { s1 with regs := t.regs, hqe := { s1.hqe with cmds := [c] } } ∧
          t.fld R.hqeStat F.hqeStat.INFLIGHT = 1 ∧ (∀ off, off ≠ R.hqeStat → t.reg off = s.reg off))) := by
  intro word head c
  have hexec : exec (.commandFetch entry) s = State.done (s.fetchCommand entry) := rfl
  refine ⟨fun h => ?_, fun hne hroom => ?_⟩
  · obtain ⟨hq, -⟩ := hx
    have hnext : s.nextQueue = none := by
      rw [State.nextQueue_single hqps, State.fetchable_ready hq hcmds hready herr, h, bne_self_eq_false, Bool.false_and, if_neg Bool.false_ne_true]
    rw [hexec, State.fetchCommand, hnext, ite_self, State.done_of_usual hu]
  intro s1 refused
  have heq := State.fetchCommand_eq hx hqps hcmds hd3 hready herr entry hne hroom
  have hc : fetchedCmd q x entry = c := rfl
  have hs1 : s.entryTaken q x = s1 := rfl
  rw [hc, State.checkCmd_taken hcmds hready, hs1] at heq
  have hregs : s1.regs = s.regs := rfl
  have hx1 : PlainQueue s1 q { x with sqHead := head } := by
    obtain ⟨-, hcoal, hunsig, htail, hmask, hlink, hreads⟩ := hx
    exact ⟨s.qp_setQp q _, hcoal, hunsig, htail, (State.fld_of_reg (State.reg_of_regs s s1 hregs _) _).trans hmask,
      (State.fld_of_reg (State.reg_of_regs s s1 hregs _) _).trans hlink, hreads⟩
  have hu1 : s1.usual := State.usual_of hu ⟨rfl, rfl, rfl, rfl, rfl, rfl, rfl⟩ (State.regsBut_of_regs [] hregs) (by unfold endIgnores; decide)
  have hrefused : ∀ status, s.fetchCommand entry = s1.writeCompletion q c.tag head { status := status } → refused status 0 := fun status h => by
    have hdone := completed_writeCompletion hx1 hcmds c.tag head { status := status } rfl
    exact ⟨_, (hexec.trans (congrArg State.done h)).trans (State.done_of_completed hdone hu1 (by unfold endIgnores; decide)), hdone⟩
  refine ⟨fun h => hrefused _ ?_, fun hknown hadmin hfields => hrefused _ ?_, fun hknown hadmin hfields => ?_⟩
  · rw [heq, if_pos]
    rcases h with h | ⟨h, h0⟩
    · rw [Bool.not_eq_true] at h
      rw [h]
      rfl
    · rw [h, Bool.true_and, bne_iff_ne.mpr (show c.qp ≠ 0 from h0), Bool.or_true]
  · rw [heq, if_neg, hfields]
    · rfl
    · rw [hknown, Bool.not_true, Bool.false_or, Bool.and_eq_true, bne_iff_ne]
      exact fun h => h.2 (hadmin h.1)
  · have hfetch : s.fetchCommand entry = s1.setCmds [c] := by
      rw [heq, if_neg, hfields]
      · rfl
      · rw [hknown, Bool.not_true, Bool.false_or, Bool.and_eq_true, bne_iff_ne]
        exact fun h => h.2 (hadmin h.1)
    have hnear : s1.CmdNear (s1.setCmds [c]) [] := (State.CmdNear.refl s1 []).setCmds _
    refine ⟨_, (hexec.trans (congrArg State.done hfetch)).trans (hnear.done hu1 (by unfold endIgnores; decide)), rfl, ?_, fun off ho => ?_⟩
    · exact State.fld_setFld _ _ _ _ (by decide)
    · exact (hnear.reg off (by simpa using ho)).trans (State.reg_of_regs s s1 hregs off)

end

end Sys2Proof.Machine

/-!
Vectors, the host's watchdog, the link, D3hot and the admin queue's enable (O50).
-/
namespace Sys2Proof.Machine

section
variable {s : State} (hu : s.usual)
include hu

/-! ## A vector is unmasked (R380) -/

theorem exec_msixUnmask (path : Path) (v : Fin 256) (w : Word) (hacc : s.accessible path (R.hqeMsixCtrl v) = true) :
    ((s.reg (R.hqePba (v / 32))).getLsbD (v % 32) = true →
      ∃ t, exec (.msixUnmask path v w) s = .next t ∧ t = { s with regs := t.regs, eff := t.eff, messages := v.val :: s.messages } ∧
        t.fld (R.hqeMsixCtrl v) F.hqeMsixCtrl.MASK = 0 ∧ (t.reg (R.hqePba (v / 32))).getLsbD (v % 32) = false ∧
        (∀ off, off ∉ [R.hqeMsixCtrl v, R.hqePba (v / 32)] → t.reg off = s.reg off)) ∧
    ((s.reg (R.hqePba (v / 32))).getLsbD (v % 32) = false →
      ∃ t, exec (.msixUnmask path v w) s = .next t ∧ s.sameBut t [R.hqeMsixCtrl v] ∧ t.fld (R.hqeMsixCtrl v) F.hqeMsixCtrl.MASK = 0) := by
  obtain ⟨u, hudef⟩ : ∃ u, u = s.writeRow path (R.hqeMsixCtrl v) Row.hqeMsixCtrl (F.hqeMsixCtrl.MASK.put w 0) false := ⟨_, rfl⟩
  have hne : R.hqeMsixCtrl v ≠ R.hqePba (v / 32) := by
    have := v.isLt
    simp only [R.hqeMsixCtrl, R.hqePba]
    omega
  have hends : endIgnores [R.hqeMsixCtrl v, R.hqePba (v / 32)] := endIgnores_of fun o ho => by
    rcases List.mem_pair.mp ho with rfl | rfl <;> (simp only [R.hqeMsixCtrl, R.hqePba]; omega)
  have hsame : s.sameBut u [R.hqeMsixCtrl v] := hudef ▸ s.writeRow_sameBut _ _ _ _
  have hmask : u.fld (R.hqeMsixCtrl v) F.hqeMsixCtrl.MASK = 0 := by
    rw [hudef, State.fld_writeRow_of_takes _ _ _ _ (by decide) (by decide), Fld.get_put _ _ _ (by decide)]
    rfl
  have hpba : u.reg (R.hqePba (v / 32)) = s.reg (R.hqePba (v / 32)) := hsame.regsBut _ (by simpa using hne.symm)
  have hexec : exec (.msixUnmask path v w) s = State.done
      (if (u.reg (R.hqePba (v / 32))).getLsbD (v % 32) = true then (u.setFld (R.hqePba (v / 32)) ⟨v % 32, 1⟩ 0).signal v else u) := by
    refine congrArg State.done ((State.onWrite_of _ _ _ _ hacc).trans ?_)
    rw [← hudef]
    dsimp only
    rw [State.bit_eq_false hmask, Bool.not_false, Bool.true_and]
  refine ⟨fun h => ?_, fun h => ?_⟩
  · obtain ⟨y, hy⟩ : ∃ y, y = u.setFld (R.hqePba (v / 32)) ⟨v % 32, 1⟩ 0 := ⟨_, rfl⟩
    have hymask : y.fld (R.hqeMsixCtrl v) F.hqeMsixCtrl.MASK = 0 := by
      rw [hy]
      exact (State.fld_setFld_ne _ _ _ _ _ _ hne).trans hmask
    have hybut : s.sameBut y [R.hqeMsixCtrl v, R.hqePba (v / 32)] := by
      rw [hy]
      exact (hsame.mono (by simp)).setFld _ _ (by simp)
    have hypba : (y.reg (R.hqePba (v / 32))).getLsbD (v % 32) = false := by
      rw [hy, State.reg_setFld, if_pos rfl, Fld.put_bit _ _ _ _ (by simp only; omega) (by omega), if_pos ⟨Nat.le_refl _, by simp⟩]
      simp
    rw [hexec, hpba, h, if_pos rfl, ← hy, State.signal_unmasked hymask]
    have hends7 : s.EndsAlike { y with messages := v.val :: y.messages } := by
      rw [hybut.1]
      exact ⟨rfl, rfl, rfl, rfl, rfl, rfl, rfl⟩
    refine ⟨_, State.done_of_endsAlike hu hends7 hybut.regsBut hends, ?_, hymask, hypba, hybut.regsBut⟩
    have hstate := hybut.1
    generalize y.regs = r at hstate ⊢
    rw [hstate]
  · rw [hexec, hpba, h, if_neg Bool.false_ne_true]
    exact ⟨u, State.done_of_regs hu hsame (endIgnores_of fun o ho => by
      rw [List.mem_singleton.mp ho]
      simp only [R.hqeMsixCtrl]
      omega), hsame, hmask⟩

/-! ## The host is lost (R385) -/

omit hu in
/-- The host's loss changes nothing more where no service waits for it. -/
theorem State.hostLossStart_idle {t : State} (hloop : t.sec.loop = false) : t.hostLossStart = t := by
  rw [State.hostLossStart, hloop, Bool.false_and, Bool.false_and, Bool.not_false, if_pos rfl]

theorem done_hostLostNow {t : State} {l : List Nat} (h : s.regsOnly t l) (hl : R.hqeStat ∈ l) (hends : endIgnores l) (hloop : s.sec.loop = false) :
    ∃ u, State.done t.hostLostNow = .next u ∧ u.fld R.hqeStat F.hqeStat.HLOST = 1 ∧ u = { s with regs := u.regs, pulses := addSorted s.pulses 241 } ∧
      s.regsBut u l ∧ u.regs = (t.setFld R.hqeStat F.hqeStat.HLOST 1).regs := by
  have h1 : s.regsOnly (t.setFld R.hqeStat F.hqeStat.HLOST 1) l := h.setFld _ _ hl
  obtain ⟨y, hy⟩ : ∃ y, y = t.setFld R.hqeStat F.hqeStat.HLOST 1 := ⟨_, rfl⟩
  have hbit : y.fld R.hqeStat F.hqeStat.HLOST = 1 := by
    rw [hy]
    exact State.fld_setFld _ _ _ _ (by decide)
  rw [← hy] at h1 ⊢
  have hstate : y.fire 241 = { s with regs := (y.fire 241).regs, pulses := addSorted s.pulses 241 } := by
    rw [h1.1]
    rfl
  have husual : (y.fire 241).usual := State.usual_of hu (by rw [hstate]; exact ⟨rfl, rfl, rfl, rfl, rfl, rfl, rfl⟩) h1.2 hends
  have hdone : State.done t.hostLostNow = .next (y.fire 241) := by
    rw [State.hostLostNow, ← hy]
    exact State.done_withWorkTo husual.1.1 (State.hostLossStart_idle (by rw [hstate]; exact hloop)) husual
  exact ⟨_, hdone, (State.fld_fire _ _ _ _).trans hbit, hstate, h1.2, rfl⟩

theorem exec_hostLost :
    let lost (i : Instr) : Prop := ∃ t, exec i s = .next t ∧ t.fld R.hqeStat F.hqeStat.HLOST = 1 ∧
        t = { s with regs := t.regs, pulses := addSorted s.pulses 241 } ∧ (∀ off, off ≠ R.hqeStat → t.reg off = s.reg off)
    (s.fld R.hqeCtl F.hqeCtl.HWD_EN = 0 ∨ s.hqe.jobs = [] → exec .hostWatchdogExpiry s = .next s) ∧
    (s.fld R.hqeCtl F.hqeCtl.HWD_EN = 1 → s.hqe.jobs ≠ [] → s.sec.loop = false → lost .hostWatchdogExpiry) ∧
    (s.hqe.jobs = [] → ∃ t, exec .hostLinkDown s = .next t ∧ s.sameBut t [R.hqeStat] ∧ t.fld R.hqeStat F.hqeStat.LINK = 0) ∧
    (s.hqe.jobs ≠ [] → s.fld R.hqeStat F.hqeStat.LINK ≠ 0 → s.sec.loop = false →
      lost .hostLinkDown ∧ ∃ t, exec .hostLinkDown s = .next t ∧ t.fld R.hqeStat F.hqeStat.LINK = 0) := by
  intro lost
  have hends : endIgnores [R.hqeStat] := by unfold endIgnores; decide
  have hwatch : exec .hostWatchdogExpiry s = State.done (if (s.bit R.hqeCtl F.hqeCtl.HWD_EN && s.jobRuns) = true then s.hostLostNow else s) := rfl
  have hdown : exec .hostLinkDown s = State.done (if (s.fld R.hqeStat F.hqeStat.LINK != 0 && s.jobRuns) = true
      then (s.setFld R.hqeStat F.hqeStat.LINK 0).hostLostNow else s.setFld R.hqeStat F.hqeStat.LINK 0) := rfl
  have hjobs : s.jobRuns = true ↔ s.hqe.jobs ≠ [] := by
    rw [State.jobRuns, Bool.not_eq_true', List.isEmpty_eq_false_iff]
  have hlink : s.regsOnly (s.setFld R.hqeStat F.hqeStat.LINK 0) [R.hqeStat] := (State.regsOnly.refl s _).setFld _ _ (by simp)
  have hlink0 : (s.setFld R.hqeStat F.hqeStat.LINK 0).fld R.hqeStat F.hqeStat.LINK = 0 := State.fld_setFld _ _ _ _ (by decide)
  refine ⟨fun h => ?_, fun hen hj hloop => ?_, fun hj => ?_, fun hj hl hloop => ?_⟩
  · rw [hwatch, if_neg, State.done_of_usual hu]
    rw [Bool.and_eq_true, hjobs]
    rintro ⟨hbit, hj⟩
    rcases h with h | h
    · rw [State.bit_eq_false h] at hbit
      exact Bool.false_ne_true hbit
    · exact hj h
  · obtain ⟨t, hdone, hbit, hstate, hreg, -⟩ := done_hostLostNow hu (State.regsOnly.refl s [R.hqeStat]) (by simp) hends hloop
    rw [State.bit_eq_true hen, hjobs.mpr hj, Bool.and_true, if_pos rfl] at hwatch
    exact ⟨t, hwatch.trans hdone, hbit, hstate, fun off ho => hreg off (by simpa using ho)⟩
  · have hno : s.jobRuns = false := by
      rw [← Bool.not_eq_true, hjobs]
      exact fun h => h hj
    rw [hno, Bool.and_false, if_neg Bool.false_ne_true] at hdown
    exact ⟨_, hdown.trans (State.done_of_regsOnly hu hlink hends), hlink.sameBut, hlink0⟩
  · obtain ⟨t, hdone, hbit, hstate, hreg, hregs⟩ := done_hostLostNow hu hlink (by simp) hends hloop
    rw [bne_iff_ne.mpr hl, hjobs.mpr hj, Bool.and_true, if_pos rfl] at hdown
    refine ⟨⟨t, hdown.trans hdone, hbit, hstate, fun off ho => hreg off (by simpa using ho)⟩, t, hdown.trans hdone, ?_⟩
    rw [State.fld_of_reg (State.reg_of_regs _ _ hregs _), State.fld_setFld_apart _ _ _ _ _ (by decide) (by decide) (by decide)]
    exact hlink0

/-! ## A link comes up (R367) -/

theorem exec_linkUp (tunnel usb4 : Bool) :
    (s.pdOn 128 = false → exec (.linkUp tunnel usb4) s = .next s) ∧
    (s.pdOn 128 = true →
      ∃ t, exec (.linkUp tunnel usb4) s = .next t ∧ t = { s with regs := t.regs, hqe := { s.hqe with d3hot := false } } ∧
        t.fld R.hqeStat F.hqeStat.LINK = (if tunnel ∧ usb4 ∧ s.fld R.sysStrap F.sysStrap.LINK = 0 then 1 else if usb4 then 2 else 3) ∧
        (∀ off, off ≠ R.hqeStat → t.reg off = s.reg off)) := by
  have hexec : exec (.linkUp tunnel usb4) s = State.done (s.linkUp tunnel usb4) := rfl
  refine ⟨fun h => ?_, fun h => ?_⟩
  · rw [hexec, State.linkUp, h, Bool.not_false, if_pos rfl, State.done_of_usual hu]
  · have hmode : (if (tunnel && usb4 && s.fld R.sysStrap F.sysStrap.LINK == 0) = true then 1 else if usb4 = true then 2 else 3) =
        if tunnel ∧ usb4 ∧ s.fld R.sysStrap F.sysStrap.LINK = 0 then 1 else if usb4 then 2 else 3 :=
      if_congr (by rw [Bool.and_eq_true, Bool.and_eq_true, beq_iff_eq, and_assoc]) rfl rfl
    have hlt : (if tunnel ∧ usb4 ∧ s.fld R.sysStrap F.sysStrap.LINK = 0 then 1 else if usb4 then 2 else 3) < 4 := by
      split
      · decide
      · split <;> decide
    rw [hexec, State.linkUp, h, Bool.not_true, if_neg Bool.false_ne_true]
    dsimp only
    rw [hmode]
    generalize (if tunnel ∧ usb4 ∧ s.fld R.sysStrap F.sysStrap.LINK = 0 then 1 else if usb4 then 2 else 3) = m at hlt
    have hreg := (State.regsBut.refl s [R.hqeStat]).setFld (o := R.hqeStat) F.hqeStat.LINK m (by simp)
    refine ⟨_, State.done_of_endsAlike hu ⟨rfl, rfl, rfl, rfl, rfl, rfl, rfl⟩ hreg (by unfold endIgnores; decide), rfl, ?_,
      fun off ho => hreg off (by simpa using ho)⟩
    exact (State.fld_setFld s _ _ _ (by decide)).trans (Nat.mod_eq_of_lt hlt)

/-! ## D3hot (R368) -/

theorem exec_pciD3hot : ∃ t, exec .pciD3hot s = .next t ∧ t.hqe.d3hot = true ∧ t.hqe.qps = [] ∧ t.hqe.cmds = [] ∧ t.hqe.jobs = [] ∧
    t = { s with regs := t.regs, hqe := t.hqe, streams := t.streams, fab := t.fab } ∧ t.fld R.hqeAqCfg F.hqeAqCfg.EN = 0 ∧
    t.fld R.hqeStat F.hqeStat.INFLIGHT = 0 ∧ (∀ off, off ∉ [R.hqeStat, R.hqeAqCfg] → (∀ j, j < 16 → off ≠ R.hqeJob j) → t.reg off = s.reg off) := by
  obtain ⟨s0, h0⟩ : ∃ s0, s0 = s.forEach 16 (fun j t => t.setFld (R.hqeJob j) F.hqeJob.RUN 0) := ⟨_, rfl⟩
  obtain ⟨s1, h1⟩ : ∃ s1, s1 = ({ s0 with hqe := { s0.hqe with
    qps := [], jobs := [], calibs := [], auxWaits := [], scrubs := [], reads := [] } }).setCmds [] := ⟨_, rfl⟩
  obtain ⟨s2, h2⟩ : ∃ s2, s2 = s1.openStreams.foldl (fun t sc =>
    t.setStream sc { t.stream sc with writes := [], reads := [], saves := [], closing := none }) s1 := ⟨_, rfl⟩
  obtain ⟨s3, h3⟩ : ∃ s3, s3 = ({ s2 with fab := { s2.fab with reforms := [], pings := [], releases := [], copies := [] } }.setFld R.hqeAqCfg
    F.hqeAqCfg.EN 0).refreshQerr := ⟨_, rfl⟩
  have hexec : exec .pciD3hot s = State.done { s3 with hqe := { s3.hqe with d3hot := true } } := by
    rw [h3, h2, h1, h0]
    rfl
  have hregs0 : s.regsOnly s0 (R.hqeStat :: R.hqeAqCfg :: (List.range 16).map R.hqeJob) := by
    rw [h0]
    refine (State.regsOnly.refl s _).foldl _ _ fun v j hj => (State.regsOnly.refl v _).setFld _ _ ?_
    exact List.mem_cons_of_mem _ (List.mem_cons_of_mem _ (List.mem_map_of_mem hj))
  have hreg1 : s.regsBut s1 (R.hqeStat :: R.hqeAqCfg :: (List.range 16).map R.hqeJob) := by
    rw [h1]
    exact (hregs0.2.trans (State.regsBut_of_regs _ rfl)).setFld (o := R.hqeStat) (t := { s0 with hqe := { s0.hqe with
      qps := [], jobs := [], calibs := [], auxWaits := [], scrubs := [], reads := [], cmds := [] } }) _ _ (by simp)
  have hfl1 : s1.fld R.hqeStat F.hqeStat.INFLIGHT = 0 := by
    rw [h1]
    exact State.fld_setFld _ _ _ _ (by decide)
  have hstate1 : s1 = { s with regs := s1.regs, hqe := s1.hqe } := by
    rw [h1, hregs0.1]
    rfl
  have hhqe1 : s1.hqe.qps = [] ∧ s1.hqe.cmds = [] ∧ s1.hqe.jobs = [] := by
    rw [h1]
    exact ⟨rfl, rfl, rfl⟩
  have hstate2 : s2 = { s1 with streams := s2.streams } := by
    rw [h2]
    exact List.foldlRecOn (motive := fun v : State => v = { s1 with streams := v.streams }) _ _ rfl fun v hv sc _ => by
      rw [State.setStream]
      generalize Table.set (fun _ => ({} : Stream)) v.streams sc _ = l
      rw [hv]
  have hregs2 : s2.regs = s1.regs := (congrArg State.regs hstate2 :)
  have hreg3 : s1.regsBut s3 [R.hqeStat, R.hqeAqCfg] := by
    rw [h3]
    refine State.regsBut.setFld (o := R.hqeStat) (State.regsBut.setFld (o := R.hqeAqCfg)
      (t := { s2 with fab := { s2.fab with reforms := [], pings := [], releases := [], copies := [] } }) (State.regsBut_of_regs _ hregs2) _ _ (by simp)) _ _ (by simp)
  have hen3 : s3.fld R.hqeAqCfg F.hqeAqCfg.EN = 0 := by
    rw [h3]
    exact (State.fld_setFld_ne _ _ _ _ _ _ (by decide)).trans (State.fld_setFld _ _ _ _ (by decide))
  have hfl3 : s3.fld R.hqeStat F.hqeStat.INFLIGHT = 0 := by
    rw [h3]
    refine (State.fld_setFld_apart _ _ _ _ _ (by decide) (by decide) (by decide)).trans ((State.fld_setFld_ne _ _ _ _ _ _ (by decide)).trans ?_)
    exact (State.fld_of_reg (State.reg_of_regs s1 { s2 with fab := { s2.fab with reforms := [], pings := [], releases := [], copies := [] } } hregs2 _) _).trans hfl1
  have hfab3 : s3.fab = { s2.fab with reforms := [], pings := [], releases := [], copies := [] } := by
    rw [h3]
    rfl
  have hstate3 : s3 = { s with regs := s3.regs, hqe := s1.hqe, streams := s3.streams, fab := s3.fab } := by
    have h : s3 = { s2 with regs := s3.regs, fab := s3.fab } := by
      rw [h3]
      rfl
    have hstreams : s3.streams = s2.streams := (congrArg State.streams h :)
    rw [hstreams]
    generalize s3.regs = r3 at h ⊢
    generalize s3.fab = f3 at h ⊢
    rw [h, hstate2, hstate1]
  have hquiet := hu.1
  obtain ⟨-, hrel, -⟩ := hquiet
  have hends : s.EndsAlike { s3 with hqe := { s3.hqe with d3hot := true } } := by
    have hrel3 : s3.fab.releases = s.fab.releases := by rw [hfab3, hrel]
    rw [hstate3]
    exact ⟨rfl, hrel3, rfl, rfl, rfl, rfl, rfl⟩
  have hhqe3 : s3.hqe = s1.hqe := (congrArg State.hqe hstate3 :)
  have hreg := hreg1.trans (hreg3.mono (m := R.hqeStat :: R.hqeAqCfg :: (List.range 16).map R.hqeJob) (by simp))
  obtain ⟨hqps, hcmds, hjobs⟩ := hhqe1
  refine ⟨_, hexec.trans (State.done_of_endsAlike hu hends hreg ?_), rfl, ?_, ?_, ?_, ?_, hen3, hfl3, fun off ho hj => hreg off ?_⟩
  · unfold endIgnores
    decide
  · exact (congrArg Hqe.qps hhqe3).trans hqps
  · exact (congrArg Hqe.cmds hhqe3).trans hcmds
  · exact (congrArg Hqe.jobs hhqe3).trans hjobs
  · generalize s3.hqe = q3
    rw [hstate3]
  · rw [List.mem_cons, List.mem_cons, List.mem_map]
    rintro (rfl | rfl | ⟨j, hj', rfl⟩)
    · simp at ho
    · simp at ho
    · exact hj j (List.mem_range.mp hj') rfl

/-! ## The admin queue's enable (R383) -/

theorem exec_adminQueueEnable (path : Path) (w : Word) (hacc : s.accessible path R.hqeAqCfg = true) :
    (s.fld R.hqeAqCfg F.hqeAqCfg.EN = 0 → F.hqeAqCfg.EN.get w = 1 →
      ∃ t, exec (.adminQueueEnable path w) s = .next t ∧ t = { s with regs := t.regs, eff := t.eff, hqe := { s.hqe with qps := t.hqe.qps } } ∧
        t.qp 0 = some { sqBase := s.reg64 R.hqeAqSqLo R.hqeAqSqHi, cqBase := s.reg64 R.hqeAqCqLo R.hqeAqCqHi, vector := 0,
                        sqSize := max 1 (F.hqeAqCfg.SQ_SIZE.get w) + 1, cqSize := max 1 (F.hqeAqCfg.CQ_SIZE.get w) + 1 } ∧
        (∀ p, p ≠ 0 → t.qp p = s.qp p) ∧ t.fld R.hqeAqCfg F.hqeAqCfg.EN = 1 ∧ (∀ off, off ≠ R.hqeAqCfg → t.reg off = s.reg off)) ∧
    (s.fld R.hqeAqCfg F.hqeAqCfg.EN = 1 → F.hqeAqCfg.EN.get w = 0 → s.hqe.cmds.any (fun c => c.qp == 0 && c.op != 0x04) = true →
      ∃ t, exec (.adminQueueEnable path w) s = .next t ∧ s.sameBut t [R.sysErrStat, R.sysErrAddr] ∧ t.fld R.sysErrStat F.sysErrStat.IDLE_WR = 1) ∧
    (s.fld R.hqeAqCfg F.hqeAqCfg.EN = 1 → F.hqeAqCfg.EN.get w = 0 → w &&& 0x0FFF0FFF = s.reg R.hqeAqCfg &&& 0x0FFF0FFF →
      s.hqe.cmds.any (fun c => c.qp == 0 && c.op != 0x04) = false →
      ∃ t, exec (.adminQueueEnable path w) s = .next t ∧
        t = { s with regs := t.regs, eff := t.eff, hqe := { s.hqe with qps := t.hqe.qps, cmds := s.hqe.cmds.filter (fun c => c.qp != 0) } } ∧
        t.qp 0 = none ∧ (∀ p, p ≠ 0 → t.qp p = s.qp p) ∧ t.fld R.hqeAqCfg F.hqeAqCfg.EN = 0 ∧
        (∀ off, off ∉ [R.hqeAqCfg, R.hqeStat] → t.reg off = s.reg off)) := by
  have hexec : exec (.adminQueueEnable path w) s = State.done (s.aqCfgWrite path w) := rfl
  have hdef : s.aqCfgWrite path w =
      if (s.bit R.hqeAqCfg F.hqeAqCfg.EN && F.hqeAqCfg.EN.get w == 0) = true then
        (if s.hqe.cmds.any (fun c => c.qp == 0 && c.op != 0x04) = true then s.errIdle path R.hqeAqCfg
         else (((s.writeRow path R.hqeAqCfg Row.hqeAqCfg w true).setCmds
           ((s.writeRow path R.hqeAqCfg Row.hqeAqCfg w true).hqe.cmds.filter (fun c => c.qp != 0))).setQp 0 none).refreshQerr)
      else
        let s1 := s.writeRow path R.hqeAqCfg Row.hqeAqCfg w (s.bit R.hqeAqCfg F.hqeAqCfg.EN)
        if (s.bit R.hqeAqCfg F.hqeAqCfg.EN || F.hqeAqCfg.EN.get w == 0) = true then s1
        else s1.setQp 0 (some {
          sqBase := s1.reg64 R.hqeAqSqLo R.hqeAqSqHi, cqBase := s1.reg64 R.hqeAqCqLo R.hqeAqCqHi
          sqSize := max 1 (s1.fld R.hqeAqCfg F.hqeAqCfg.SQ_SIZE) + 1, cqSize := max 1 (s1.fld R.hqeAqCfg F.hqeAqCfg.CQ_SIZE) + 1
          vector := 0 }) := State.onWrite_of _ _ _ _ hacc
  refine ⟨fun hoff hon => ?_, fun hon hoff hany => ?_, fun hon hoff hsize hany => ?_⟩
  · obtain ⟨u, hudef⟩ : ∃ u, u = s.writeRow path R.hqeAqCfg Row.hqeAqCfg w false := ⟨_, rfl⟩
    have hsame : s.sameBut u [R.hqeAqCfg] := hudef ▸ s.writeRow_sameBut _ _ _ _
    have hfld : ∀ f, f.lo + f.width ≤ 32 → Row.hqeAqCfg.takesFld f = true → u.fld R.hqeAqCfg f = f.get w := fun f hf ht => by
      rw [hudef, State.fld_writeRow_of_takes _ _ _ _ hf ht]
    have h64 : ∀ lo hi, lo ≠ R.hqeAqCfg → hi ≠ R.hqeAqCfg → u.reg64 lo hi = s.reg64 lo hi := fun lo hi h1 h2 => by
      rw [State.reg64, State.reg64, hsame.regsBut lo (by simpa using h1), hsame.regsBut hi (by simpa using h2)]
    have heq : s.aqCfgWrite path w = u.setQp 0 (some {
        sqBase := s.reg64 R.hqeAqSqLo R.hqeAqSqHi, cqBase := s.reg64 R.hqeAqCqLo R.hqeAqCqHi, vector := 0
        sqSize := max 1 (F.hqeAqCfg.SQ_SIZE.get w) + 1, cqSize := max 1 (F.hqeAqCfg.CQ_SIZE.get w) + 1 }) := by
      rw [hdef, State.bit_eq_false hoff, hon, if_neg (by decide)]
      dsimp only
      rw [if_neg (by decide), ← hudef, h64 _ _ (by decide) (by decide), h64 _ _ (by decide) (by decide), hfld _ (by decide) (by decide),
        hfld _ (by decide) (by decide)]
    rw [hexec, heq]
    have hstate := hsame.1
    refine ⟨_, State.done_of_endsAlike hu ?_ (State.regsBut.trans hsame.regsBut (State.regsBut_of_regs [R.hqeAqCfg] rfl)) (by unfold endIgnores; decide),
      ?_, State.qp_setQp _ _ _, fun p hp => (State.qp_setQp_ne _ _ _ hp).trans ?_, ?_, fun off ho => hsame.regsBut off (by simpa using ho)⟩
    · rw [hstate]
      exact ⟨rfl, rfl, rfl, rfl, rfl, rfl, rfl⟩
    · rw [hstate]
      rfl
    · rw [hstate]
      rfl
    · exact (hfld F.hqeAqCfg.EN (by decide) (by decide)).trans hon
  · have heq : s.aqCfgWrite path w = s.errIdle path R.hqeAqCfg := by
      rw [hdef, State.bit_eq_true hon, hoff, if_pos (by decide), if_pos hany]
    have hsame : s.sameBut (s.errIdle path R.hqeAqCfg) [R.sysErrStat, R.sysErrAddr] := (State.err_sameBut _ _ _ _).mono (by simp)
    rw [hexec, heq]
    exact ⟨_, State.done_of_regs hu hsame (by unfold endIgnores; decide), hsame, State.fld_err_same _ _ _ _ (by decide) rfl⟩
  · obtain ⟨u, hudef⟩ : ∃ u, u = s.writeRow path R.hqeAqCfg Row.hqeAqCfg.nowOnly w false := ⟨_, rfl⟩
    have hbusy : s.writeRow path R.hqeAqCfg Row.hqeAqCfg w true = u := by
      rw [hudef]
      refine s.writeRow_busy _ _ _ _ ?_
      change (s.reg R.hqeAqCfg ^^^ w) &&& 0x0FFF0FFF = 0#32
      refine BitVec.eq_of_getLsbD_eq fun i _ => ?_
      have hbit := congrArg (fun v : Word => v.getLsbD i) hsize
      simp only [BitVec.getLsbD_and] at hbit
      rw [BitVec.getLsbD_and, BitVec.getLsbD_xor, BitVec.getLsbD_zero, Bool.and_xor_distrib_right, hbit, Bool.xor_self]
    have hsame : s.sameBut u [R.hqeAqCfg] := hudef ▸ s.writeRow_sameBut _ _ _ _
    have hen : u.fld R.hqeAqCfg F.hqeAqCfg.EN = 0 := by
      rw [hudef, State.fld_writeRow_of_takes _ _ _ _ (by decide) (by decide), hoff]
    have heq : s.aqCfgWrite path w = ((u.setCmds (u.hqe.cmds.filter (fun c => c.qp != 0))).setQp 0 none).refreshQerr := by
      rw [hdef, State.bit_eq_true hon, hoff, if_pos (by decide), if_neg (by rw [hany]; exact Bool.false_ne_true), hbusy]
    have hcmds : u.hqe.cmds = s.hqe.cmds := by rw [hsame.1]
    rw [hcmds] at heq
    obtain ⟨v, hv⟩ : ∃ v, v = (u.setCmds (s.hqe.cmds.filter (fun c => c.qp != 0))).setQp 0 none := ⟨_, rfl⟩
    have hvstate : v = { s with regs := v.regs, eff := v.eff, hqe := { s.hqe with qps := v.hqe.qps, cmds := s.hqe.cmds.filter (fun c => c.qp != 0) } } := by
      rw [hv, hsame.1]
      rfl
    have hvreg : s.regsBut v [R.hqeAqCfg, R.hqeStat] := by
      rw [hv]
      exact ((hsame.regsBut.mono (by simp)).trans (State.regsBut_of_regs _ rfl)).setFld (o := R.hqeStat)
        (t := { u with hqe := { u.hqe with cmds := s.hqe.cmds.filter (fun c => c.qp != 0) } }) _ _ (by simp)
    have hven : v.fld R.hqeAqCfg F.hqeAqCfg.EN = 0 := by
      rw [hv]
      exact (State.fld_setFld_ne { u with hqe := { u.hqe with cmds := s.hqe.cmds.filter (fun c => c.qp != 0) } } R.hqeStat _ _ _ _ (by decide)).trans hen
    have hvqp : ∀ p, v.qp p = if p = 0 then none else s.qp p := fun p => by
      rw [hv, State.setQp, State.qp, Table.get_set, hsame.1]
      rfl
    have hends : s.EndsAlike v.refreshQerr := by
      refine State.EndsAlike.trans (t := v) ?_ ⟨rfl, rfl, rfl, rfl, rfl, rfl, rfl⟩
      rw [hvstate]
      exact ⟨rfl, rfl, rfl, rfl, rfl, rfl, rfl⟩
    have hreg : s.regsBut v.refreshQerr [R.hqeAqCfg, R.hqeStat] := hvreg.setFld (o := R.hqeStat) _ _ (by simp)
    rw [hexec, heq, ← hv]
    refine ⟨_, State.done_of_endsAlike hu hends hreg (by unfold endIgnores; decide), ?_, (hvqp 0).trans (if_pos rfl),
      fun p hp => (hvqp p).trans (if_neg hp), (State.fld_setFld_ne _ _ _ _ _ _ (by decide)).trans hven, hreg⟩
    have hqerr : v.refreshQerr = { v with regs := v.refreshQerr.regs } := rfl
    generalize v.refreshQerr = y at hqerr ⊢
    rw [hqerr, hvstate]

end

/-- Settles O50: each clause for its own instruction; nothing but the queue pair, its registers and its pulses is touched. -/
theorem hostQueues : Obligations.HostQueues := by
  unfold Obligations.HostQueues
  intro s hu
  refine ⟨fun q w => ⟨exec_strayDoorbell hu q w, fun x hq => exec_doorbells hu q w x hq⟩,
    fun q x entry hx _ hqps hcmds hd3 hready herr _ => exec_commandFetch hu entry hx hqps hcmds hd3 hready herr,
    fun q x hq => ?_, exec_msixUnmask hu, exec_hostLost hu, exec_linkUp hu, exec_pciD3hot hu, exec_adminQueueEnable hu⟩
  have hlive : (s.qp q).isSome = true := by rw [hq]; rfl
  have hfetch : ∀ addr : BitVec 64, exec (.hostFetchTimeout q none addr) s = State.done (s.hostReadFail q none addr.toNat true) ∧
      exec (.hostReadError q none addr) s = State.done (s.hostReadFail q none addr.toNat false) := fun addr =>
    ⟨congrArg State.done (if_pos hlive), congrArg State.done (if_pos hlive)⟩
  refine ⟨(exec_coalesceTimeout hu q x hq).1, (exec_coalesceTimeout hu q x hq).2, fun addr herr hroom hvalid => ⟨?_, ?_⟩,
    fun tag addr c hc hx hloads hstreams hvalid => ?_⟩
  · rw [(hfetch addr).1]
    exact done_fetchFails hu q x hq herr hroom hvalid true addr
  · rw [(hfetch addr).2]
    exact done_fetchFails hu q x hq herr hroom hvalid false addr
  · have hcmd : (s.cmdOf q tag.toNat).isSome = true := by rw [hc]; rfl
    have htimeout : exec (.hostFetchTimeout q (some tag) addr) s = State.done (s.hostReadFail q (some tag.toNat) addr.toNat true) :=
      congrArg State.done (if_pos hcmd)
    have herror : exec (.hostReadError q (some tag) addr) s = State.done (s.hostReadFail q (some tag.toNat) addr.toNat false) :=
      congrArg State.done (if_pos hcmd)
    rw [htimeout, herror]
    exact ⟨done_readFails hu q x hx _ c hc hloads hstreams hvalid true _, done_readFails hu q x hx _ c hc hloads hstreams hvalid false _⟩

end Sys2Proof.Machine

/-!
A queued command from its start to its end, where it has changed other parts of the state besides the queue (R375).
-/
namespace Sys2Proof.Machine

/-- A queue pair and its commands are the same in both states. -/
structure State.QueueSame (s s0 : State) (q : Nat) : Prop where
  qp : s0.qp q = s.qp q
  cmds : s0.hqe.cmds = s.hqe.cmds
  reads : s0.hqe.reads = s.hqe.reads
  link : s0.fld R.hqeStat F.hqeStat.LINK = s.fld R.hqeStat F.hqeStat.LINK
  mask : ∀ v, s0.fld (R.hqeMsixCtrl v) F.hqeMsixCtrl.MASK = s.fld (R.hqeMsixCtrl v) F.hqeMsixCtrl.MASK

/-- The registers that the end of a command does not look at and that control no vector. -/
def quietRegs (l : List Nat) : Prop := ∀ o ∈ l, o ≠ 0x20 ∧ o ≠ 0x34 ∧ o ≠ 0x26008 ∧ o ≠ 0x34004 ∧ (o < 0x2A000 ∨ o % 16 ≠ 12)

theorem quietRegs_nil : quietRegs [] := fun o ho => absurd ho (by simp)

theorem quietRegs.ignored {l : List Nat} (h : quietRegs l) : endIgnores (R.hqeStat :: l) := endIgnores_of fun o ho => by
  rcases List.mem_cons.mp ho with rfl | ho
  · decide
  · have := h o ho
    omega

theorem quietRegs.vectors {l : List Nat} (h : quietRegs l) : keepsVectors l := keepsVectors_of fun o ho => by
  have := h o ho
  omega

section
variable {s s0 u : State} {q tag op : Nat} {x : Qp} {c : Cmd} {l : List Nat}

theorem State.QueueSame.refl (s : State) (q : Nat) : s.QueueSame s q := ⟨rfl, rfl, rfl, rfl, fun _ => rfl⟩

/-- A state with the same registers, commands and reads. -/
theorem State.QueueSame.of_regs (hregs : s0.regs = s.regs) (hqp : s0.qp q = s.qp q) (hcmds : s0.hqe.cmds = s.hqe.cmds)
    (hreads : s0.hqe.reads = s.hqe.reads) : s.QueueSame s0 q :=
  ⟨hqp, hcmds, hreads, State.fld_of_reg (State.reg_of_regs _ _ hregs _) _, fun _ => State.fld_of_reg (State.reg_of_regs _ _ hregs _) _⟩

theorem State.QueueSame.plain (h : s.QueueSame s0 q) (hx : PlainQueue s q x) : PlainQueue s0 q x := by
  obtain ⟨hq, hcoal, hunsig, hroom, hmask, hlink, hreads⟩ := hx
  exact ⟨h.qp.trans hq, hcoal, hunsig, hroom, (h.mask _).trans hmask, h.link.trans hlink, h.reads.trans hreads⟩

theorem State.QueueSame.cmdOf (h : s.QueueSame s0 q) (tag : Nat) : s0.cmdOf q tag = s.cmdOf q tag := by rw [State.cmdOf, h.cmds]; rfl

/-- A state that differs from a usual one in parts that the end of a command does not look at. -/
theorem State.usual_of_alike (hu : s.usual) (h : s.EndsAlike s0) (hregs : s0.regs = s.regs) : s0.usual :=
  State.usual_of hu h (State.regsBut_of_regs [] hregs) (by unfold endIgnores; decide)

/-- A command in flight completes and so ends. -/
theorem State.ends_completed (hu0 : s0.usual) (hx0 : PlainQueue s0 q x) (hc : s0.cmdOf q tag = some c) (hnear : s0.CmdNear u l)
    (hcmds : u.hqe.cmds = s0.hqe.cmds) (hl : quietRegs l) (r : Report) (hr : r.time = none) :
    ∃ t, State.done (u.complete q tag r) = .next t ∧ Completed s0 t q tag x c.sqHead r.r0 r.r1 r.r2 r.status r.info l := by
  have hd : u.cmdOf q tag = some c := by rw [State.cmdOf, hcmds]; exact hc
  have h := hnear.completed hl.vectors hx0 hd (by rw [hcmds]) r hr
  exact ⟨_, State.done_of_completed h hu0 hl.ignored, h⟩

/-- A command that has started completes and so ends; `s0` is the state at its start but for what the command has changed. -/
theorem State.ends_started (h : CommandReady s q tag op c x) (hu0 : s0.usual) (hsame : s.QueueSame s0 q) (hnear : s0.CmdNear u l)
    (hcmds : u.hqe.cmds = startedCmds q tag s.hqe.cmds) (hl : quietRegs l) (r : Report) (hr : r.time = none) :
    ∃ t, State.done (u.complete c.qp c.tag r) = .next t ∧ Completed s0 t q tag x c.sqHead r.r0 r.r1 r.r2 r.status r.info l := by
  obtain ⟨-, hc, -, -, hx⟩ := h
  obtain ⟨hqp, htag⟩ := State.cmdOf_names hc
  rw [hqp, htag]
  have h := hnear.completedStarted hl.vectors (hsame.plain hx) ((hsame.cmdOf tag).trans hc) (by rw [hcmds, hsame.cmds]) r hr
  exact ⟨_, State.done_of_completed h hu0 hl.ignored, h⟩

/-- A command that has started and stays in flight ends so. -/
theorem State.ends_inFlight (hu0 : s0.usual) (hnear : s0.CmdNear u l) (hcmds : u.hqe.cmds = startedCmds q tag s0.hqe.cmds) (hl : quietRegs l) :
    State.done u = .next u ∧ CommandStarts s0 u q tag l := ⟨hnear.done hu0 hl.ignored, hnear.starts hcmds⟩

/-- What a command reads once it has started. -/
theorem State.fld_started {o : Nat} (ho : o ≠ R.hqeStat) (f : Fld) : (s.started q tag).fld o f = s.fld o f := State.fld_setFld_ne _ _ _ _ _ _ ho

theorem State.reg_started {o : Nat} (ho : o ≠ R.hqeStat) : (s.started q tag).reg o = s.reg o := State.reg_setFld_ne _ _ _ _ _ ho

theorem State.link_started : (s.started q tag).fld R.hqeStat F.hqeStat.LINK = s.fld R.hqeStat F.hqeStat.LINK := (s.near_started q tag []).link

/-- The started state with another part `s0` of what was there. -/
theorem State.started_state : s.started q tag = { s with regs := (s.started q tag).regs, hqe := { s.hqe with cmds := startedCmds q tag s.hqe.cmds } } := rfl

/-- A command that has started and has changed no register since. -/
theorem State.near_of_started (hstate : u = { s0 with regs := u.regs, hqe := { s0.hqe with cmds := u.hqe.cmds } }) (h0 : s0.regs = s.regs)
    (hregs : u.regs = (s.started q tag).regs) : s0.CmdNear u l := by
  have hreg : ∀ o, u.reg o = (s.started q tag).reg o := fun o => State.reg_of_regs _ _ hregs o
  have hreg0 : ∀ o, s0.reg o = s.reg o := fun o => State.reg_of_regs _ _ h0 o
  refine ⟨hstate, fun o ho => (hreg o).trans (((s.near_started q tag l).reg o ho).trans (hreg0 o).symm), ?_⟩
  rw [State.fld_of_reg (hreg _), State.fld_of_reg (hreg0 _)]
  exact State.link_started

/-! ## Reading the host -/

theorem State.hostData_plain (hx : PlainQueue s q x) (ring : Bool) (given : List Byte) : s.hostData ring q tag given = some given := by
  obtain ⟨-, -, -, -, -, hlink, -⟩ := hx
  rw [State.hostData, State.bridge_of_le (by omega), Bool.not_false, if_pos rfl]

/-- A command that reads the host starts. -/
theorem State.startWith_ready (h : CommandReady s q tag op c x) (given : List Byte) (f : Cmd → List Byte → State → State) :
    s.startWith q tag op given f = (f c given (s.started q tag)).dropReads false q tag := by
  rw [State.startWith, State.hostData_plain h.2.2.2.2]
  exact State.startCmd_ready h _

/-- A FABRIC_OP starts. -/
theorem State.fabricOp_ready (h : CommandReady s q tag 0x31 c x) {n : Nat} (hn : c.target % 256 = n) (f : Cmd → State → State) :
    s.fabricOp q tag n f = f c (s.started q tag) := by
  have hc := h.2.1
  rw [State.fabricOp, hc]
  exact (if_pos hn).trans (State.startCmd_ready h f)

end

end Sys2Proof.Machine

/-!
Ports of the fabric: what a change of one port leaves, and a packet that goes out on a plain port (R431, R434, R435).
-/
namespace Sys2Proof.Machine

section
variable (s : State) (k : Nat) (x y : Port)

@[simp] theorem State.port_setPort : (s.setPort k x).port k = x := by rw [State.port, State.setPort, Table.get_set, if_pos rfl]

theorem State.port_setPort_ne {j : Nat} (h : j ≠ k) : (s.setPort k x).port j = s.port j := by
  rw [State.port, State.setPort, Table.get_set, if_neg h]
  rfl

theorem State.port_of_fab {s t : State} (h : t.fab.ports = s.fab.ports) (j : Nat) : t.port j = s.port j := by rw [State.port, h]; rfl

theorem State.reg_setPort (o : Nat) : (s.setPort k x).reg o = s.reg o := rfl

theorem State.fld_setPort (o : Nat) (f : Fld) : (s.setPort k x).fld o f = s.fld o f := rfl

end

/-! ## Credits -/

section
variable (s : State) (k : Nat)

theorem State.credits_lt (vc : Nat) : s.credits k vc < 65536 := by
  unfold State.credits
  split <;> exact State.fld_lt _ _ _

/-- Where the credits of a virtual channel stand. -/
def credFld (vc : Nat) : Fld := if vc = 0 then F.dlCred.VC0 else F.dlCred.VC1

theorem State.setCredits_eq (vc n : Nat) : s.setCredits k vc n = s.setFld (R.dlCred k) (credFld vc) n := by
  unfold State.setCredits credFld
  split <;> rfl

theorem State.credits_eq (vc : Nat) : s.credits k vc = s.fld (R.dlCred k) (credFld vc) := by
  unfold State.credits credFld
  split <;> rfl

theorem State.credits_setCredits {vc w n : Nat} (hvc : vc < 2) (hw : w < 2) (hn : n < 65536) :
    (s.setCredits k vc n).credits k w = if w = vc then n else s.credits k w := by
  rw [State.setCredits_eq, State.credits_eq, State.credits_eq]
  have hmod : n % 2 ^ 16 = n := Nat.mod_eq_of_lt hn
  split
  · next h =>
    subst h
    unfold credFld
    split <;> exact (State.fld_setFld _ _ _ _ (by decide)).trans hmod
  · next h =>
    unfold credFld
    by_cases h0 : vc = 0
    · rw [if_pos h0, if_neg (show w ≠ 0 by omega)]
      exact State.fld_setFld_apart _ _ _ _ _ (by decide) (by decide) (by decide)
    · rw [if_neg h0, if_pos (show w = 0 by omega)]
      exact State.fld_setFld_apart _ _ _ _ _ (by decide) (by decide) (by decide)

end

/-! ## A packet goes out -/

/-- A port that has numbered a packet and keeps it for replay. -/
def numberedPort (x : Port) (p : TxPacket) : Port :=
  { x with txSeq := (x.txSeq + 1) % 128, replay := x.replay ++ [({ pkt := p, lseq := x.txSeq }, 0)] }

/-- A port that has sent a packet. -/
def sentPort (x : Port) (p : TxPacket) : Port := { numberedPort x p with out := .packet { pkt := p, lseq := x.txSeq } :: x.out }

section
variable {s a : State} {k n : Nat} {p : TxPacket}

theorem State.transmit_clear {q : Sent} (henc : s.fld (R.dlStat k) F.dlStat.ENC = 0) : s.transmit k q = s.portOut k (.packet q) := by
  rw [State.transmit]
  exact if_neg (by rw [State.bit_eq_false henc, Bool.false_and]; exact Bool.false_ne_true)

/-- The state in which a port has sent a packet, `a` being what it was before with the packet in the queue. -/
def State.afterSend (a : State) (k : Nat) (x : Port) (p : TxPacket) (credits : Nat) : State :=
  ((a.setPort k (numberedPort x p)).setCredits k (vcOf p.type) credits).portOut k (.packet { pkt := p, lseq := x.txSeq })

/-- A plain port sends a packet at once. -/
theorem State.enqueue_plain (h : PlainPort s k n) (hn : n = 1 + (p.payload.length + 15) / 16) :
    s.enqueue k p = (s.setPort k { s.port k with queue := [p] }).afterSend k (s.port k) p (s.credits k (vcOf p.type) - n) := by
  obtain ⟨-, hst, henc, hrekey, hqueue, hreplay, hc0, hc1⟩ := h
  obtain ⟨a, ha⟩ : ∃ a, a = s.setPort k { s.port k with queue := [p] } := ⟨_, rfl⟩
  have hregs : a.regs = s.regs := by rw [ha]; rfl
  have hport : a.port k = { s.port k with queue := [p] } := by rw [ha, State.port_setPort]
  have hfld : ∀ o f, a.fld o f = s.fld o f := fun o f => State.fld_of_reg (State.reg_of_regs _ _ hregs o) f
  have hcred : ∀ vc, a.credits k vc = s.credits k vc := fun vc => by rw [State.credits_eq, State.credits_eq, hfld]
  have hstart : s.enqueue k p = State.pump k 1 a := by
    rw [State.enqueue, ha, hqueue]
    rfl
  have hstate : a.portState k = Dl.active := (hfld _ _).trans hst
  have hbit : a.bit (R.dlStat k) F.dlStat.ENC = false := State.bit_eq_false ((hfld _ _).trans henc)
  have hroom : n ≤ s.credits k (vcOf p.type) := by
    unfold vcOf
    split
    · exact hc1
    · exact hc0
  have hflits : flitsOf p.payload.length false = n := by rw [hn]; rfl
  have hq : ∀ x : Port, x.rekey = false → x.queue = [] →
      { x with rekey := false, queue := [], txSeq := (x.txSeq + 1) % 128, replay := x.replay ++ [({ pkt := p, lseq := x.txSeq }, 0)] } = numberedPort x p :=
    fun x h1 h2 => by
      cases x
      simp only at h1 h2
      subst h1 h2
      rfl
  rw [← ha, hstart, State.pump]
  simp only [hport]
  rw [hbit, Bool.false_and, hflits, hstate, hcred, hrekey, if_pos]
  · rw [State.pump]
    refine (congrArg (fun y => ((a.setPort k y).setCredits k (vcOf p.type) (s.credits k (vcOf p.type) - n)).transmit k
      { pkt := p, lseq := (s.port k).txSeq }) (hq _ hrekey hqueue)).trans ?_
    rw [State.transmit_clear]
    · rfl
    · rw [State.setCredits_eq]
      refine (State.fld_setFld_ne _ _ _ _ _ _ ?_).trans ((hfld _ _).trans henc)
      simp only [R.dlStat, R.dlCred]
      omega
  · simp [Dl.active, hroom, hreplay]

theorem State.afterSend_port (x : Port) (c : Nat) : (a.afterSend k x p c).port k = sentPort x p := by
  obtain ⟨b, hb⟩ : ∃ b, b = (a.setPort k (numberedPort x p)).setCredits k (vcOf p.type) c := ⟨_, rfl⟩
  have hport : b.port k = numberedPort x p := by
    rw [hb, State.setCredits_eq]
    exact a.port_setPort k _
  rw [State.afterSend, ← hb, State.portOut, State.port_setPort, hport]
  rfl

theorem State.afterSend_port_ne (x : Port) (c : Nat) {j : Nat} (h : j ≠ k) : (a.afterSend k x p c).port j = a.port j := by
  rw [State.afterSend, State.portOut, State.port_setPort_ne _ _ _ h, State.setCredits_eq]
  exact a.port_setPort_ne k _ h

theorem State.afterSend_state (x : Port) (c : Nat) :
    a.afterSend k x p c = { a with regs := (a.afterSend k x p c).regs, fab := { a.fab with ports := (a.afterSend k x p c).fab.ports } } := by
  rw [State.afterSend, State.setCredits_eq]
  rfl

theorem State.afterSend_regs (x : Port) (c : Nat) : (a.afterSend k x p c).regs = (a.setCredits k (vcOf p.type) c).regs := by
  rw [State.afterSend, State.setCredits_eq, State.setCredits_eq]
  rfl

/-- A packet on a plain port (R434, R435). -/
theorem State.enqueue_sends (h : PlainPort s k n) (hn : n = 1 + (p.payload.length + 15) / 16) : PortSends s (s.enqueue k p) k p := by
  obtain ⟨a, ha⟩ : ∃ a, a = s.setPort k { s.port k with queue := [p] } := ⟨_, rfl⟩
  have heq := State.enqueue_plain (p := p) h hn
  rw [← ha] at heq
  obtain ⟨-, -, -, -, -, -, hc0, hc1⟩ := h
  have haregs : a.regs = s.regs := by rw [ha]; rfl
  have hregs : (s.enqueue k p).regs = (a.setCredits k (vcOf p.type) (s.credits k (vcOf p.type) - n)).regs := by rw [heq, State.afterSend_regs]
  have hfld : ∀ o f, a.fld o f = s.fld o f := fun o f => State.fld_of_reg (State.reg_of_regs _ _ haregs o) f
  have hvc : vcOf p.type = if p.type = 3 ∨ p.type = 4 then 1 else 0 := rfl
  have hvc2 : vcOf p.type < 2 := by rw [hvc]; split <;> decide
  have hlt := s.credits_lt k (vcOf p.type)
  refine ⟨?_, ?_, fun j hj => ?_, fun vc hw => ?_, fun off ho => ?_⟩
  · have hstate := a.afterSend_state (p := p) (k := k) (s.port k) (s.credits k (vcOf p.type) - n)
    rw [← heq] at hstate
    generalize s.enqueue k p = t at hstate ⊢
    rw [hstate, ha]
    rfl
  · rw [heq, State.afterSend_port]
    rfl
  · rw [heq, State.afterSend_port_ne _ _ hj, ha, State.port_setPort_ne _ _ _ hj]
  · rw [State.credits_eq, State.fld_of_reg (State.reg_of_regs _ _ hregs _), ← State.credits_eq, State.credits_setCredits _ _ hvc2 hw (by omega),
      State.credits_eq a, hfld, ← State.credits_eq, ← hvc, ← hn]
    split
    · next e => rw [e]
    · exact (Nat.sub_zero _).symm
  · rw [State.reg_of_regs _ _ hregs, State.setCredits_eq, State.reg_setFld_ne _ _ _ _ _ ho]
    exact State.reg_of_regs _ _ haregs off

/-- A plain port stays plain where its own registers and state stay. -/
theorem plainPort_of {t : State} (h : PlainPort s k n) (hport : t.port k = s.port k) (hstat : t.reg (R.dlStat k) = s.reg (R.dlStat k))
    (hcred : t.reg (R.dlCred k) = s.reg (R.dlCred k)) : PlainPort t k n := by
  obtain ⟨hk, hst, henc, hrekey, hqueue, hreplay, hc0, hc1⟩ := h
  refine ⟨hk, (State.fld_of_reg hstat _).trans hst, (State.fld_of_reg hstat _).trans henc, ?_, ?_, ?_, ?_, ?_⟩
  · rw [hport]; exact hrekey
  · rw [hport]; exact hqueue
  · rw [hport]; exact hreplay
  · rw [State.credits_eq, State.fld_of_reg hcred, ← State.credits_eq]; exact hc0
  · rw [State.credits_eq, State.fld_of_reg hcred, ← State.credits_eq]; exact hc1

theorem State.activePorts_congr {t : State} (h : ∀ k, k < 4 → t.reg (R.dlStat k) = s.reg (R.dlStat k)) : t.activePorts = s.activePorts := by
  refine List.filter_congr fun k hk => ?_
  rw [State.portState, State.portState, State.fld_of_reg (h k (List.mem_range.mp hk))]

theorem State.routeTo_congr {t : State} (h : ∀ i, t.reg (R.dlfRt i) = s.reg (R.dlfRt i)) (dst : Nat) : t.routeTo dst = s.routeTo dst := by
  rw [State.routeTo, h]
  rfl

end

end Sys2Proof.Machine

/-!
FABRIC_OP: STATUS, REFORM and PING (O52).
-/
namespace Sys2Proof.Machine

/-! ## Pages in host memory -/

/-- What follows place `i` in a list of parts of one length begins with part `i`. -/
theorem drop_flatMap_range {α : Type} {e : Nat → List α} {w : Nat} (he : ∀ i, (e i).length = w) {i m : Nat} (h : i < m) :
    ∃ rest, ((List.range m).flatMap e).drop (w * i) = e i ++ rest := by
  obtain ⟨j, rfl⟩ : ∃ j, m = i + (j + 1) := ⟨m - i - 1, by omega⟩
  have hlen : ((List.range i).flatMap e).length = w * i := by
    rw [List.length_flatMap, List.map_congr_left fun k _ => he k, List.map_const', List.sum_replicate, List.length_range, smul_eq_mul, Nat.mul_comm]
  rw [List.range_add, List.flatMap_append, List.drop_left' hlen, List.range_succ_eq_map, List.map_cons, List.flatMap_cons, Nat.add_zero]
  exact ⟨_, rfl⟩

section
variable {s : State} {q : Fin 1024} {tag : BitVec 16} {c : Cmd} {x : Qp}

/-- A FABRIC_OP with a sub-operation is ready to start. -/
abbrev FabricReady (s : State) (q : Fin 1024) (tag : BitVec 16) (c : Cmd) (x : Qp) (n : Nat) : Prop :=
  CommandReady s q tag.toNat 0x31 c x ∧ c.target % 256 = n

theorem State.usual_hostMem (hu : s.usual) (m : Table Byte) : State.usual { s with hostMem := m } :=
  State.usual_of_alike (s0 := { s with hostMem := m }) hu ⟨rfl, rfl, rfl, rfl, rfl, rfl, rfl⟩ rfl

/-- A command that completes with results and leaves all else as it was when it started. -/
theorem State.ends_plainly {op : Nat} (h : CommandReady s q tag.toNat op c x) (r : Report) (hr : r.time = none) :
    ∃ t, State.done ((s.started q tag.toNat).complete c.qp c.tag r) = .next t ∧
      Completed s t q tag.toNat x c.sqHead r.r0 r.r1 r.r2 r.status r.info [] :=
  State.ends_started h h.1 (.refl s q) (s.near_started q _ []) rfl quietRegs_nil r hr

/-! ## STATUS -/

/-- An entry of the membership table. -/
def State.memberEntry (s : State) (n : Nat) : List Byte :=
  let m := Table.get (fun _ => (0, 0)) s.fab.members n
  bytesLE 8 m.1 ++ bytesLE 1 m.2 ++ List.replicate 7 0

/-- The head of the membership table. -/
def State.memberHead (s : State) : List Byte :=
  bytesLE 2 (s.fld R.dlfEpoch F.dlfEpoch.EPOCH) ++ bytesLE 1 (s.fld R.dlfStat F.dlfStat.LEAD_ID) ++ bytesLE 1 (s.fld R.dlfEpoch F.dlfEpoch.NODES) ++
  bytesLE 1 s.fabState ++ List.replicate 11 0

/-- The page that STATUS writes. -/
def State.memberPage (s : State) : List Byte :=
  let page := s.memberHead ++ (List.range 254).flatMap (fun i => s.memberEntry (i + 1))
  page ++ List.replicate (4096 - page.length) 0

theorem State.memberEntry_length (n : Nat) : (s.memberEntry n).length = 16 := by
  simp only [State.memberEntry, List.length_append, bytesLE_length, List.length_replicate]

theorem State.memberHead_length : s.memberHead.length = 16 := by
  simp only [State.memberHead, List.length_append, bytesLE_length, List.length_replicate]

theorem State.memberTable_length : ((List.range 254).flatMap (fun i => s.memberEntry (i + 1))).length = 4064 := by
  rw [List.length_flatMap, List.map_congr_left fun k _ => s.memberEntry_length (k + 1), List.map_const', List.sum_replicate, List.length_range]
  rfl

theorem State.memberPage_length : s.memberPage.length = 4096 := by
  simp only [State.memberPage, List.length_append, List.length_replicate, State.memberHead_length, State.memberTable_length]

theorem State.memberPage_head : s.memberPage.take 16 = s.memberHead := by
  rw [State.memberPage, List.append_assoc, List.take_left' s.memberHead_length]

theorem State.memberPage_entry {n : Nat} (h1 : 1 ≤ n) (h2 : n < 255) : (s.memberPage.drop (16 * n)).take 9 =
    bytesLE 8 (Table.get (fun _ => (0, 0)) s.fab.members n).1 ++ bytesLE 1 (Table.get (fun _ => (0, 0)) s.fab.members n).2 := by
  obtain ⟨i, rfl⟩ : ∃ i, n = i + 1 := ⟨n - 1, by omega⟩
  obtain ⟨rest, hrest⟩ := drop_flatMap_range (e := fun i => s.memberEntry (i + 1)) (fun i => s.memberEntry_length (i + 1)) (show i < 254 by omega)
  have hdrop : s.memberPage.drop (16 * (i + 1)) = s.memberEntry (i + 1) ++ (rest ++ List.replicate
      (4096 - (s.memberHead ++ (List.range 254).flatMap (fun i => s.memberEntry (i + 1))).length) 0) := by
    rw [State.memberPage, show 16 * (i + 1) = s.memberHead.length + 16 * i by rw [State.memberHead_length]; omega, List.append_assoc, ← List.drop_drop,
      List.drop_left, List.drop_append_of_le_length (by rw [State.memberTable_length]; omega), hrest, List.append_assoc]
  have hlen : (bytesLE 8 (Table.get (fun _ => (0, 0)) s.fab.members (i + 1)).1 ++ bytesLE 1 (Table.get (fun _ => (0, 0)) s.fab.members (i + 1)).2).length = 9 := by
    simp only [List.length_append, bytesLE_length]
  rw [hdrop, State.memberEntry, List.append_assoc, List.take_left' hlen]

theorem State.memberPage_started : (s.started q tag.toNat).memberPage = s.memberPage := by
  have hhead : (s.started q tag.toNat).memberHead = s.memberHead := by
    rw [State.memberHead, State.memberHead, State.fabState, State.fabState, State.fld_started (by decide), State.fld_started (by decide),
      State.fld_started (by decide), State.fld_started (by decide)]
  rw [State.memberPage, State.memberPage, hhead]
  rfl

theorem State.fabStatus_eq (u : State) : u.fabStatus c =
    if u.fabState ≠ 4 then u.complete c.qp c.tag { status := St.noResource } else (u.hostWrite c.addr0 u.memberPage).complete c.qp c.tag {} := rfl

theorem exec_fabricStatus (h : FabricReady s q tag c x 1) :
    (s.fabState ≠ 4 → ∃ t, exec (.fabricStatus q tag) s = .next t ∧ Completed s t q tag.toNat x c.sqHead 0 0 0 St.noResource 0 []) ∧
    (s.fabState = 4 → ∃ m, (∃ t, exec (.fabricStatus q tag) s = .next t ∧ Completed { s with hostMem := m } t q tag.toNat x c.sqHead 0 0 0 0 0 []) ∧
      hostAt { s with hostMem := m } c.addr0 16 = bytesLE 2 (s.fld R.dlfEpoch F.dlfEpoch.EPOCH) ++ bytesLE 1 (s.fld R.dlfStat F.dlfStat.LEAD_ID) ++
        bytesLE 1 (s.fld R.dlfEpoch F.dlfEpoch.NODES) ++ bytesLE 1 4 ++ List.replicate 11 0 ∧
      (∀ n, 1 ≤ n → n < 255 → let e := Table.get (fun _ => (0, 0)) s.fab.members n
        hostAt { s with hostMem := m } (c.addr0 + 16 * n) 9 = bytesLE 8 e.1 ++ bytesLE 1 e.2) ∧
      (∀ a, a < c.addr0 ∨ c.addr0 + 4096 ≤ a → hostAt { s with hostMem := m } a 1 = hostAt s a 1)) := by
  obtain ⟨hready, hop⟩ := h
  have hexec : exec (.fabricStatus q tag) s = State.done ((s.started q tag.toNat).fabStatus c) := congrArg State.done (State.fabricOp_ready hready hop _)
  have hst : (s.started q tag.toNat).fabState = s.fabState := State.fld_started (by decide) _
  rw [hexec, State.fabStatus_eq, hst]
  refine ⟨fun hno => ?_, fun hyes => ?_⟩
  · rw [if_pos hno]
    exact State.ends_plainly hready _ rfl
  · rw [if_neg (by rw [hyes]; simp), State.memberPage_started, State.hostWrite_state]
    change ∃ m, (∃ t, State.done (State.complete { s.started q tag.toNat with hostMem := hostWritten s.hostMem c.addr0 s.memberPage } _ _ _) = _ ∧ _) ∧ _
    obtain ⟨m, hm⟩ : ∃ m, m = hostWritten s.hostMem c.addr0 s.memberPage := ⟨_, rfl⟩
    rw [← hm]
    refine ⟨m, State.ends_started hready (State.usual_hostMem hready.1 m) (.of_regs rfl rfl rfl rfl) (State.near_of_started rfl rfl rfl) rfl quietRegs_nil
      {} rfl, ?_, fun n h1 h2 => ?_, fun a ha => ?_⟩
    · rw [hostAt_written (s := s) hm (by rw [State.memberPage_length]; decide), State.memberPage_head, State.memberHead, hyes]
    · rw [hostAt_written_part (s := s) hm (by rw [State.memberPage_length]; omega), State.memberPage_entry h1 h2]
    · exact hostAt_written_out (s := s) hm (by rw [State.memberPage_length]; exact ha)

/-! ## REFORM -/

theorem exec_fabricReform (h : FabricReady s q tag c x 2) (hports : s.activePorts = []) : ∃ t, exec (.fabricReform q tag) s = .next t ∧
    CommandStarts { s with fab := { s.fab with reforms := s.fab.reforms ++ [(q.val, tag.toNat)], advert := t.fab.advert } } t q tag.toNat [R.dlfEpoch] ∧
    t.fld R.dlfEpoch F.dlfEpoch.EPOCH = (s.fld R.dlfEpoch F.dlfEpoch.EPOCH + 1) % 65536 := by
  obtain ⟨hready, hop⟩ := h
  obtain ⟨hqp, htag⟩ := State.cmdOf_names hready.2.1
  obtain ⟨e, he⟩ : ∃ e, e = (s.fld R.dlfEpoch F.dlfEpoch.EPOCH + 1) % 65536 := ⟨_, rfl⟩
  obtain ⟨u, hu⟩ : ∃ u, u = (s.started q tag.toNat).setFld R.dlfEpoch F.dlfEpoch.EPOCH e := ⟨_, rfl⟩
  have hnear : s.CmdNear u [R.dlfEpoch] := by
    rw [hu]
    exact (s.near_started q tag.toNat _).setFld _ _ (by simp) (by decide)
  have hnone : u.activePorts = [] := by
    rw [State.activePorts_congr fun k _ => hnear.reg _ (by simp only [List.mem_cons, List.not_mem_nil, or_false, R.dlStat, R.hqeStat, R.dlfEpoch]; omega), hports]
  have hdiscs : u.sendDiscs = { u with fab := { u.fab with advert := some u.ownAdvert } } := by
    rw [State.sendDiscs, hnone]
    rfl
  have hexec : exec (.fabricReform q tag) s =
      State.done { u with fab := { u.fab with advert := some u.ownAdvert, reforms := u.fab.reforms ++ [(q.val, tag.toNat)] } } := by
    refine (congrArg State.done (State.fabricOp_ready hready hop _)).trans ?_
    rw [State.fabReform, State.fld_started (by decide), ← he, ← hu, hdiscs, hqp, htag]
  have hfab : u.fab = s.fab := (congrArg State.fab hnear.state :)
  have hcmds : u.hqe.cmds = startedCmds q tag.toNat s.hqe.cmds := by
    rw [hu]
    rfl
  have hepoch : u.fld R.dlfEpoch F.dlfEpoch.EPOCH = e := by
    rw [hu, State.fld_setFld _ _ _ _ (by decide), he]
    exact Nat.mod_mod _ _
  generalize some u.ownAdvert = advert at hexec
  rw [hfab] at hexec
  obtain ⟨f, hf⟩ : ∃ f, f = { s.fab with advert := advert, reforms := s.fab.reforms ++ [(q.val, tag.toNat)] } := ⟨_, rfl⟩
  rw [← hf] at hexec
  have hu0 : State.usual { s with fab := f } := State.usual_of_alike (s0 := { s with fab := f }) hready.1 ⟨rfl, by rw [hf], rfl, rfl, rfl, rfl, rfl⟩ rfl
  have hnear0 : State.CmdNear { s with fab := f } { u with fab := f } [R.dlfEpoch] := by
    refine ⟨?_, hnear.reg, hnear.link⟩
    have hstate := hnear.state
    generalize u.regs = r at hstate ⊢
    rw [hstate]
  obtain ⟨hdone, hstarts⟩ := State.ends_inFlight hu0 hnear0 hcmds (fun o ho => by rw [List.mem_singleton.mp ho]; decide)
  refine ⟨_, hexec.trans hdone, ?_, hepoch.trans he⟩
  rw [hf] at hstarts ⊢
  exact hstarts

/-! ## PING -/

/-- A node that no packet can reach from here (R433). -/
def State.away (s : State) (node : Nat) : Prop := node ≠ s.nodeId ∧ (4 ≤ s.routeTo node ∨ s.portState (s.routeTo node) ≠ 5)

theorem State.reachable_of_away {node : Nat} (h : s.away node) : s.reachable node = false := by
  obtain ⟨hnode, hroute⟩ := h
  rw [State.reachable, beq_eq_false_iff_ne.mpr hnode, Bool.false_or, Bool.and_eq_false_iff, decide_eq_false_iff_not, beq_eq_false_iff_ne]
  exact hroute.imp (fun h => by omega) id

theorem State.reachable_of_port {node : Nat} (hlt : s.routeTo node < 4) (hst : s.portState (s.routeTo node) = 5) : s.reachable node = true := by
  rw [State.reachable, Bool.or_eq_true, Bool.and_eq_true, decide_eq_true_eq, beq_iff_eq, beq_iff_eq]
  exact .inr ⟨hlt, hst⟩

/-- What a command sees of the fabric's registers when it has started. -/
theorem State.nodeId_started : (s.started q tag.toNat).nodeId = s.nodeId := State.fld_started (by decide) _

theorem State.routeTo_started (node : Nat) : (s.started q tag.toNat).routeTo node = s.routeTo node :=
  State.routeTo_congr (fun i => State.reg_started (by simp only [R.dlfRt, R.hqeStat]; omega)) node

theorem State.portState_started (k : Nat) : (s.started q tag.toNat).portState k = s.portState k :=
  State.fld_started (by simp only [R.dlStat, R.hqeStat]; omega) _

theorem State.reachable_started (node : Nat) : (s.started q tag.toNat).reachable node = s.reachable node := by
  rw [State.reachable, State.reachable, State.nodeId_started, State.routeTo_started, State.portState_started]

/-- A command for a node that no packet can reach (R433). -/
theorem State.ends_unreachable (hready : CommandReady s q tag.toNat 0x31 c x) :
    ∃ t, State.done (((s.started q tag.toNat).count R.dlfUnreachCnt).completeSt c.qp c.tag St.fabricUnreachable) = .next t ∧
      Completed s t q tag.toNat x c.sqHead 0 0 0 St.fabricUnreachable 0 [R.dlfUnreachCnt] ∧ t.reg R.dlfUnreachCnt = satInc (s.reg R.dlfUnreachCnt) := by
  have hnear : s.CmdNear ((s.started q tag.toNat).count R.dlfUnreachCnt) [R.dlfUnreachCnt] :=
    (s.near_started q tag.toNat _).setReg _ (by simp) (by decide)
  have hl : quietRegs [R.dlfUnreachCnt] := fun o ho => by rw [List.mem_singleton.mp ho]; decide
  obtain ⟨hqp, htag⟩ := State.cmdOf_names hready.2.1
  obtain ⟨t, hdone, hcompleted⟩ := State.ends_started hready hready.1 (.refl s q) hnear rfl hl { status := St.fabricUnreachable } rfl
  refine ⟨t, hdone, hcompleted, ?_⟩
  have hd : ((s.started q tag.toNat).count R.dlfUnreachCnt).cmdOf q tag.toNat = some { c with started := true } := State.cmdOf_started hready.2.1
  have hself := (State.CmdNear.refl ((s.started q tag.toNat).count R.dlfUnreachCnt) []).completed (keepsVectors_of (by simp))
    (hnear.plain hl.vectors hready.2.2.2.2) hd rfl { status := St.fabricUnreachable } rfl
  rw [hqp, htag] at hdone
  have ht : t = ((s.started q tag.toNat).count R.dlfUnreachCnt).complete q tag.toNat { status := St.fabricUnreachable } :=
    Host.Outcome.next.inj (hdone.symm.trans (State.done_of_completed
      (hnear.completedStarted hl.vectors hready.2.2.2.2 hready.2.1 rfl { status := St.fabricUnreachable } rfl) hready.1 hl.ignored))
  rw [ht]
  refine (regsBut_of_completed hself _ (by decide)).trans ((State.reg_count _ _ _).trans ((if_pos rfl).trans ?_))
  rw [State.reg_started (by decide)]

theorem exec_fabricPing (h : FabricReady s q tag c x 3) :
    let node := c.arg 0
    let k := s.routeTo node
    (node = s.nodeId → ∃ t, exec (.fabricPing q tag) s = .next t ∧ Completed s t q tag.toNat x c.sqHead 0 0 0 0 0 []) ∧
    (s.away node → ∃ t, exec (.fabricPing q tag) s = .next t ∧
      Completed s t q tag.toNat x c.sqHead 0 0 0 St.fabricUnreachable 0 [R.dlfUnreachCnt] ∧ t.reg R.dlfUnreachCnt = satInc (s.reg R.dlfUnreachCnt)) ∧
    (node ≠ s.nodeId → PlainPort s k 2 → ∃ t, exec (.fabricPing q tag) s = .next t ∧
      CommandStarts { s with fab := t.fab } t q tag.toNat [R.dlCred k] ∧
      t.fab.pings = s.fab.pings ++ [(q.val, tag.toNat, node, s.sys.time.toNat)] ∧
      (∃ out, (t.port k).out = .packet out :: (s.port k).out ∧ out.pkt.dst = node ∧ out.pkt.type = 6 ∧
        out.pkt.payload = [6, 0, 0, 0] ++ bytesLE 8 s.sys.time.toNat)) := by
  intro node k
  obtain ⟨hready, hop⟩ := h
  obtain ⟨hqp, htag⟩ := State.cmdOf_names hready.2.1
  have hexec : exec (.fabricPing q tag) s = State.done ((s.started q tag.toNat).fabPing c) := congrArg State.done (State.fabricOp_ready hready hop _)
  refine ⟨fun hself => ?_, fun haway => ?_, fun hnode hplain => ?_⟩
  · rw [hexec, State.fabPing, State.nodeId_started, if_pos hself]
    exact State.ends_plainly hready _ rfl
  · have hping : (s.started q tag.toNat).fabPing c = ((s.started q tag.toNat).count R.dlfUnreachCnt).completeSt c.qp c.tag St.fabricUnreachable :=
      (if_neg (by rw [State.nodeId_started]; exact haway.1)).trans (if_pos (by rw [State.reachable_started, State.reachable_of_away haway]; rfl))
    rw [hexec, hping]
    exact State.ends_unreachable hready
  · obtain ⟨v, hv⟩ : ∃ v, v = { s.started q tag.toNat with fab := { s.fab with pings := s.fab.pings ++ [(q.val, tag.toNat, node, s.sys.time.toNat)] } } := ⟨_, rfl⟩
    obtain ⟨p, hp⟩ : ∃ p, p = v.packet Dl.msg node 0 0 12 (msgHead 6 ++ bytesLE 8 s.sys.time.toNat) [] := ⟨_, rfl⟩
    have hvregs : v.regs = (s.started q tag.toNat).regs := by rw [hv]
    have hvreg : ∀ o, o ≠ R.hqeStat → v.reg o = s.reg o := fun o ho => (State.reg_of_regs _ _ hvregs o).trans (State.reg_started ho)
    have hroute : v.routeTo node = k := State.routeTo_congr (fun i => hvreg _ (by simp only [R.dlfRt, R.hqeStat]; omega)) node
    have hvport : ∀ j, v.port j = s.port j := fun j => State.port_of_fab (by rw [hv]) j
    have hvplain : PlainPort v k 2 := plainPort_of hplain (hvport k) (hvreg _ (by simp only [R.dlStat, R.hqeStat]; omega))
      (hvreg _ (by simp only [R.dlCred, R.hqeStat]; omega))
    have hlen : p.payload.length = 12 := by
      rw [hp]
      simp only [State.packet, msgHead, List.length_append, bytesLE_length, List.length_cons, List.length_nil]
    have hsends : PortSends v (v.enqueue k p) k p := State.enqueue_sends hvplain (by rw [hlen])
    have hping : (s.started q tag.toNat).fabPing c = v.enqueue k p := by
      have h1 : (s.started q tag.toNat).fabPing c = v.routePacket p := by
        refine (if_neg (by rw [State.nodeId_started]; exact hnode)).trans ((if_neg ?_).trans ?_)
        · rw [State.reachable_started, State.reachable_of_port hplain.1 hplain.2.1]
          simp
        · rw [hqp, htag, hp, hv]
          rfl
      have hdst : p.dst = node := by rw [hp]; rfl
      rw [h1, State.routePacket, hdst, hroute]
      exact if_pos ⟨hplain.1, hvplain.2.1⟩
    rw [hexec, hping]
    generalize v.enqueue k p = t at hsends ⊢
    obtain ⟨hstate, hport, -, -, hreg⟩ := hsends
    have hrel : t.fab.releases = s.fab.releases := by rw [hstate, hv]
    have hu0 : State.usual { s with fab := t.fab } := State.usual_of_alike (s0 := { s with fab := t.fab }) hready.1 ⟨rfl, hrel, rfl, rfl, rfl, rfl, rfl⟩ rfl
    have hcredne : R.dlCred k ≠ R.hqeStat := by simp only [R.dlCred, R.hqeStat]; omega
    have hnear : State.CmdNear { s with fab := t.fab } t [R.dlCred k] := by
      refine ⟨?_, fun o ho => ?_, ?_⟩
      · rw [hstate, hv]
        rfl
      · rw [List.mem_cons, List.mem_singleton, not_or] at ho
        exact (hreg o ho.2).trans (hvreg o ho.1)
      · refine (State.fld_of_reg (hreg _ hcredne.symm) _).trans ((State.fld_of_reg (State.reg_of_regs _ _ hvregs _) _).trans State.link_started)
    have hcmds : t.hqe.cmds = startedCmds q tag.toNat s.hqe.cmds := by
      rw [hstate, hv]
      rfl
    obtain ⟨hdone, hstarts⟩ := State.ends_inFlight hu0 hnear hcmds (fun o ho => by
      rw [List.mem_singleton.mp ho]
      have := hplain.1
      simp only [R.dlCred]
      omega)
    refine ⟨t, hdone, hstarts, by rw [hstate, hv], { pkt := p, lseq := (v.port k).txSeq }, ?_, by rw [hp]; rfl, by rw [hp]; rfl, by rw [hp]; rfl⟩
    rw [hport, hvport]

end

end Sys2Proof.Machine

/-!
FABRIC_OP: the copies, QUARANTINE and MAILBOX, and the time limits (O52).
-/
namespace Sys2Proof.Machine

section
variable {s : State} {q : Fin 1024} {tag : BitVec 16} {c : Cmd} {x : Qp}

theorem State.pdOn_started {dom : Nat} (h : dom < 256) : (s.started q tag.toNat).pdOn dom = s.pdOn dom := by
  rw [State.pdOn, State.reg_started (by simp only [R.sysPdStat, R.hqeStat]; omega)]
  rfl

/-- What a write of memory leaves there depends on memory alone. -/
theorem State.mem_setBytes_congr {t : State} (h : t.mem = s.mem) (a : Nat) (l : List Byte) : (t.setBytes a l).mem = (s.setBytes a l).mem := by
  induction l generalizing s t a with
  | nil => exact h
  | cons b l ih => exact ih (congrArg (fun m => Table.set (fun _ => 0) m a b) h) (a + 1)

/-! ## The copies -/

/-- A copy of this size or place is refused. -/
def copyBad (off len : Nat) : Prop := len < 64 ∨ 65536 < len ∨ len % 64 ≠ 0 ∨ 2 ^ 31 < off + len

theorem ends_badCopy (hready : CommandReady s q tag.toNat 0x31 c x) (hbad : copyBad (c.arg 1) (c.arg 2)) (write : Bool) (d : List Byte) :
    ∃ t, State.done ((s.started q tag.toNat).fabCopy c write d) = .next t ∧ Completed s t q tag.toNat x c.sqHead 0 0 0 St.invalidField 0 [] := by
  have heq : (s.started q tag.toNat).fabCopy c write d = (s.started q tag.toNat).complete c.qp c.tag { status := St.invalidField } := if_pos hbad
  rw [heq]
  exact State.ends_plainly hready _ rfl

/-- A copy of the node's own page store. -/
theorem State.fabCopy_own (hbad : ¬copyBad (c.arg 1) (c.arg 2)) (hnode : c.arg 0 = s.nodeId) (hpd : s.pdOn 127 = true) (write : Bool) (d : List Byte) :
    (s.started q tag.toNat).fabCopy c write d = if write = true
      then (((s.started q tag.toNat).memWrite (pageBase + c.arg 1) (d.take (c.arg 2))).dropReads false c.qp c.tag).complete c.qp c.tag {}
      else (((s.started q tag.toNat).memRead (pageBase + c.arg 1) (c.arg 2)).hostWrite c.addr0
        (((s.started q tag.toNat).memRead (pageBase + c.arg 1) (c.arg 2)).bytes (pageBase + c.arg 1) (c.arg 2))).complete c.qp c.tag
          { status := if ((s.started q tag.toNat).memRead (pageBase + c.arg 1) (c.arg 2)).anyPoison (pageBase + c.arg 1) (c.arg 2) then St.eccUncorrectable else 0 } := by
  refine (if_neg hbad).trans ((if_pos (by rw [State.nodeId_started]; exact hnode)).trans (if_neg ?_))
  rw [State.pdOn_started (by decide), hpd]
  exact Bool.false_ne_true

theorem ends_ownRead (hready : CommandReady s q tag.toNat 0x31 c x) (hbad : ¬copyBad (c.arg 1) (c.arg 2)) (hnode : c.arg 0 = s.nodeId)
    (hpd : s.pdOn 127 = true) (herr : s.sys.bitErrs = []) (hpoison : s.sys.poison = []) :
    ∃ m, (∃ t, State.done ((s.started q tag.toNat).fabCopy c false []) = .next t ∧
        Completed { s with hostMem := m } t q tag.toNat x c.sqHead 0 0 0 0 0 []) ∧
      hostAt { s with hostMem := m } c.addr0 (c.arg 2) = s.bytes (pageBase + c.arg 1) (c.arg 2) ∧
      (∀ a, a < c.addr0 ∨ c.addr0 + c.arg 2 ≤ a → hostAt { s with hostMem := m } a 1 = hostAt s a 1) := by
  have hlen : (s.bytes (pageBase + c.arg 1) (c.arg 2)).length = c.arg 2 := by rw [State.bytes, List.length_map, List.length_range]
  have heq : (s.started q tag.toNat).fabCopy c false [] =
      State.complete { s.started q tag.toNat with hostMem := hostWritten s.hostMem c.addr0 (s.bytes (pageBase + c.arg 1) (c.arg 2)) } c.qp c.tag {} := by
    rw [State.fabCopy_own hbad hnode hpd, if_neg Bool.false_ne_true, State.memRead_of_clean (s := s.started q tag.toNat) herr hpoison, State.anyPoison_of_clean (s := s.started q tag.toNat) hpoison, if_neg Bool.false_ne_true,
      State.hostWrite_state]
    rfl
  rw [heq]
  obtain ⟨m, hm⟩ : ∃ m, m = hostWritten s.hostMem c.addr0 (s.bytes (pageBase + c.arg 1) (c.arg 2)) := ⟨_, rfl⟩
  rw [← hm]
  refine ⟨m, State.ends_started hready (State.usual_hostMem hready.1 m) (.of_regs rfl rfl rfl rfl) (State.near_of_started rfl rfl rfl) rfl quietRegs_nil
    {} rfl, ?_, fun a ha => hostAt_written_out (s := s) hm (by rw [hlen]; exact ha)⟩
  have h := hostAt_written_all (s := s) (t := { s with hostMem := m }) hm
  rwa [hlen] at h

theorem ends_ownWrite (hready : CommandReady s q tag.toNat 0x31 c x) (hbad : ¬copyBad (c.arg 1) (c.arg 2)) (hnode : c.arg 0 = s.nodeId)
    (hpd : s.pdOn 127 = true) (herr : s.sys.bitErrs = []) (hpoison : s.sys.poison = []) (d : List Byte) (hd : d.length = c.arg 2) :
    ∃ t, State.done ((s.started q tag.toNat).fabCopy c true d) = .next t ∧ Completed { s with mem := t.mem } t q tag.toNat x c.sqHead 0 0 0 0 0 [] ∧
      t.bytes (pageBase + c.arg 1) (c.arg 2) = d ∧ (∀ a, a < pageBase + c.arg 1 ∨ pageBase + c.arg 1 + c.arg 2 ≤ a → t.byte a = s.byte a) := by
  have hreads : s.hqe.reads = [] := by
    obtain ⟨-, -, -, -, -, -, -, -, -, -, hreads⟩ := hready
    exact hreads
  have heq : (s.started q tag.toNat).fabCopy c true d =
      State.complete { s.started q tag.toNat with mem := (s.setBytes (pageBase + c.arg 1) d).mem } c.qp c.tag {} := by
    have hset : (s.started q tag.toNat).setBytes (pageBase + c.arg 1) d = { s.started q tag.toNat with mem := (s.setBytes (pageBase + c.arg 1) d).mem } := by
      rw [State.setBytes_state, State.mem_setBytes_congr (s := s) (t := s.started q tag.toNat) rfl]
    rw [State.fabCopy_own hbad hnode hpd, if_pos rfl, State.memWrite_of_clean (s := s.started q tag.toNat) herr hpoison, ← hd, List.take_length, hset,
      State.dropReads_none (s := { s.started q tag.toNat with mem := (s.setBytes (pageBase + c.arg 1) d).mem }) hreads]
  rw [heq]
  obtain ⟨m, hm⟩ : ∃ m, m = (s.setBytes (pageBase + c.arg 1) d).mem := ⟨_, rfl⟩
  rw [← hm]
  have hu0 : State.usual { s with mem := m } := State.usual_of_alike (s0 := { s with mem := m }) hready.1 ⟨rfl, rfl, rfl, rfl, rfl, rfl, rfl⟩ rfl
  obtain ⟨t, hdone, hcompleted⟩ := State.ends_started (s0 := { s with mem := m }) (u := { s.started q tag.toNat with mem := m }) hready hu0 (.of_regs rfl rfl rfl rfl)
    (State.near_of_started rfl rfl rfl) rfl quietRegs_nil {} rfl
  have hmem : t.mem = m := by
    obtain ⟨hstate, -⟩ := hcompleted
    rw [hstate]
  have hbyte : ∀ a, t.byte a = (s.setBytes (pageBase + c.arg 1) d).byte a := fun a => by rw [State.byte, State.byte, hmem, hm]
  refine ⟨t, hdone, hmem ▸ hcompleted, ?_, fun a ha => ?_⟩
  · rw [State.bytes_congr fun i _ => hbyte _, ← hd, State.bytes_setBytes]
  · rw [hbyte, State.byte_setBytes_out _ _ _ _ (by rw [hd]; exact ha)]

/-- The fabric with a copy under way and its one chunk asked for. -/
def State.copyFab (s : State) (qp tag : Nat) (c : Cmd) (write : Bool) (d : List Byte) : Fabric :=
  { s.fab with
    copies := s.fab.copies ++ [{ qp := qp, tag := tag, node := c.arg 0, off := c.arg 1, len := c.arg 2, host := c.addr0, write := write }]
    waiting := s.fab.waiting ++ [{ who := .hqe qp tag, node := c.arg 0, off := c.arg 1, len := c.arg 2, write := write, data := if write then (d.take (c.arg 2)).map (fun b => (b, false)) else [] }] }

/-- A copy of another node's page store asks for it, in one chunk. -/
theorem ends_remoteCopy (hready : CommandReady s q tag.toNat 0x31 c x) (hbad : ¬copyBad (c.arg 1) (c.arg 2)) (hlen : c.arg 2 ≤ 256)
    (hnode : c.arg 0 ≠ s.nodeId) (write : Bool) (d : List Byte) :
    ∃ t, State.done ((s.started q tag.toNat).fabCopy c write d) = .next t ∧ CommandStarts { s with fab := t.fab } t q tag.toNat [] ∧
      t.fab = s.copyFab q tag.toNat c write d := by
  obtain ⟨hqp, htag⟩ := State.cmdOf_names hready.2.1
  have hreads : s.hqe.reads = [] := by
    obtain ⟨-, -, -, -, -, -, -, -, -, -, hreads⟩ := hready
    exact hreads
  have hchunks : (c.arg 2 + 255) / 256 = 1 := by
    simp only [copyBad] at hbad
    omega
  have heq : (s.started q tag.toNat).fabCopy c write d = { s.started q tag.toNat with fab := s.copyFab q tag.toNat c write d } := by
    refine (if_neg hbad).trans ((if_neg (by rw [State.nodeId_started]; exact hnode)).trans ?_)
    extract_lets r f s1
    rw [hchunks, State.dropReads_none (s := s1) hreads, List.range_one, List.foldl_cons, List.foldl_nil]
    dsimp only
    rw [Nat.mul_zero, Nat.sub_zero, Nat.min_eq_right hlen, List.drop_zero, Nat.add_zero]
    change ({ s.started q tag.toNat with fab := s.copyFab c.qp c.tag c write d } : State) = _
    rw [hqp, htag]
  rw [heq]
  have hrel : (s.copyFab q tag.toNat c write d).releases = s.fab.releases := rfl
  generalize s.copyFab q tag.toNat c write d = f at hrel ⊢
  have hu0 : State.usual { s with fab := f } := State.usual_of_alike (s0 := { s with fab := f }) hready.1 ⟨rfl, hrel, rfl, rfl, rfl, rfl, rfl⟩ rfl
  obtain ⟨hdone, hstarts⟩ := State.ends_inFlight (q := q) (tag := tag.toNat) (l := []) hu0
    (State.near_of_started (s := s) (u := { s.started q tag.toNat with fab := f }) rfl rfl rfl) rfl quietRegs_nil
  exact ⟨_, hdone, hstarts, rfl⟩

end

end Sys2Proof.Machine

/-!
FABRIC_OP QUARANTINE and MAILBOX, the time limits, and the ring bridge (O52).
-/
namespace Sys2Proof.Machine

/-- No service of E0 has anything to do. -/
def State.servicesIdle (s : State) : Prop :=
  s.sec = { warm := s.sec.warm } ∨ (s.e0Runs = true ∧ s.sec.reports = [] ∧ s.sec.hostLoss = none ∧ s.sec.running = none ∧ s.sec.boot = false ∧
    s.sec.due = [] ∧ (s.eng 0).inbox = [])

theorem State.svcNext_idle {s : State} (h : s.servicesIdle) : s.svcNext = none := by
  rcases h with h | ⟨hr, hrep, -, hrun, hboot, hdue, hin⟩
  · have hloop : s.sec.loop = false := by rw [h]
    have hboot : s.sec.boot = false := by rw [h]
    simp [State.svcNext, hloop, hboot]
  · simp [State.svcNext, hr, hrep, hrun, hboot, hdue, hin]

/-- Where no service has anything to do, E0 takes no step. -/
theorem State.e0Step_idle {s : State} (h : s.servicesIdle) : s.e0Step = none := by
  have hnext := State.svcNext_idle h
  by_cases hr : s.e0Runs = true
  · have hparts : s.sec.reports = [] ∧ s.sec.hostLoss = none ∧ s.sec.running = none ∧ s.sec.boot = false := by
      rcases h with h | ⟨-, hrep, hloss, hrun, hboot, -⟩
      · rw [h]
        exact ⟨rfl, rfl, rfl, rfl⟩
      · exact ⟨hrep, hloss, hrun, hboot⟩
    obtain ⟨hrep, hloss, hrun, hboot⟩ := hparts
    have hreport : s.reportStep = none := by simp [State.reportStep, hrep]
    have hstep : s.hostLossStep = none := by simp [State.hostLossStep, hloss]
    rw [State.e0Step, hr, Bool.not_true, if_neg Bool.false_ne_true, hreport, hstep, hrun]
    simp [State.e0Next, hnext, hboot]
  · rcases h with h | ⟨hr', -⟩
    · rw [State.e0Step, if_pos (by simp [hr]), if_pos h]
    · exact absurd hr' hr

/-- A command ends with its effect where one release of a quarantine waits for a port that is DOWN. -/
theorem State.done_releasing {s : State} (hs : s.settled) (hidle : s.servicesIdle) {e : Nat × Nat × Nat} (hrel : s.fab.releases = [e])
    (hport : s.portState e.2.2 = 1) : State.done s = .next s := by
  have hwork := hs.1
  have hcheck : s.releasesCheck = s := by
    rw [State.releasesCheck, hrel, List.foldl_cons, List.foldl_nil]
    dsimp only
    rw [hport]
    exact (if_neg (by decide)).trans (if_neg fun h => absurd h.1 (by decide))
  have hgo : State.settleGo settleBound s = s := by
    rw [show settleBound = 1048575 + 1 from rfl, State.settleGo, hwork]
    dsimp only
    rw [hrel, hcheck, State.e0Step_idle hidle, hwork]
    rfl
  rw [State.done, State.settle, hgo, State.showFld_of_settled _ hs]

section
variable {s : State} {q : Fin 1024} {tag : BitVec 16} {c : Cmd} {x : Qp}

/-! ## MAILBOX -/

theorem exec_fabricMailbox (full : Bool) (h : FabricReady s q tag c x 7) :
    let node := c.arg 0
    let e := c.arg 1
    let ends (s0 : State) (status : Nat) (offs : List Nat) : Prop :=
      ∃ t, exec (.fabricMailbox q tag full) s = .next t ∧ Completed s0 t q tag.toNat x c.sqHead 0 0 0 status 0 offs
    (e = 0 ∨ 95 < e → ends s St.invalidField []) ∧
    (1 ≤ e → e ≤ 95 → node = s.nodeId →
      ((s.eng e).inbox.length < 16 → ∃ t, exec (.fabricMailbox q tag full) s = .next t ∧
        Completed { s with pack := { s.pack with engines := t.pack.engines } } t q tag.toNat x c.sqHead 0 0 0 0 0 [R.engMbx e] ∧
        (t.eng e).inbox = (s.eng e).inbox ++ [(BitVec.ofNat 32 (c.arg 2), 0x19)] ∧ (∀ n, n ≠ e → t.eng n = s.eng n)) ∧
      (16 ≤ (s.eng e).inbox.length → ends s St.noResource [])) ∧
    (1 ≤ e → e ≤ 95 → s.away node → ends s St.fabricUnreachable [R.dlfUnreachCnt]) := by
  intro node e ends
  obtain ⟨hready, hop⟩ := h
  have hexec : exec (.fabricMailbox q tag full) s = State.done ((s.started q tag.toNat).fabMailbox c full) :=
    congrArg State.done (State.fabricOp_ready hready hop _)
  have hroom : (s.started q tag.toNat).inboxRoom e 1 = decide ((s.eng e).inbox.length + 1 ≤ 16) := rfl
  refine ⟨fun hbad => ?_, fun h1 h2 hself => ⟨fun hfree => ?_, fun hfull => ?_⟩, fun h1 h2 haway => ?_⟩
  · have heq : (s.started q tag.toNat).fabMailbox c full = (s.started q tag.toNat).complete c.qp c.tag { status := St.invalidField } := if_pos hbad
    change ∃ t, _ ∧ _
    rw [hexec, heq]
    exact State.ends_plainly hready _ rfl
  · obtain ⟨u, hu⟩ : ∃ u, u = (s.started q tag.toNat).inboxPut e (BitVec.ofNat 32 (c.arg 2)) 0x19 := ⟨_, rfl⟩
    have heq : (s.started q tag.toNat).fabMailbox c full = u.complete c.qp c.tag {} := by
      refine (if_neg (by omega)).trans ((if_pos (by rw [State.nodeId_started]; exact hself)).trans ((if_pos (by rw [hroom]; exact decide_eq_true (by omega))).trans ?_))
      rw [State.onMbox, if_pos ⟨h1, h2, by rw [hroom]; exact decide_eq_true (by omega)⟩, hu]
      rfl
    obtain ⟨-, hin, heng, hreg, -⟩ := State.inboxPut_spec (s.started q tag.toNat) e 0x19 (BitVec.ofNat 32 (c.arg 2))
    rw [← hu] at hin heng hreg
    have hstate : u = { s with regs := u.regs, hqe := { s.hqe with cmds := startedCmds q tag.toNat s.hqe.cmds }, pack := { s.pack with engines := u.pack.engines } } := by
      rw [hu]
      rfl
    obtain ⟨es, hes⟩ : ∃ es, es = u.pack.engines := ⟨_, rfl⟩
    have hengs : ∀ n, n ≠ e → u.eng n = s.eng n := heng
    have hu0 : State.usual { s with pack := { s.pack with engines := es } } := by
      refine State.usual_of_alike (s0 := { s with pack := { s.pack with engines := es } }) hready.1 ⟨rfl, rfl, rfl, ?_, rfl, rfl, rfl⟩ rfl
      have h0 := hengs 0 (by omega)
      rw [State.eng, ← hes] at h0
      exact congrArg Engine.inbox h0
    have hnear : State.CmdNear { s with pack := { s.pack with engines := es } } u [R.engMbx e] := by
      refine ⟨?_, fun o ho => ?_, ?_⟩
      · rw [hstate, ← hes]
      · rw [List.mem_cons, List.mem_singleton, not_or] at ho
        exact (hreg o (by simpa using ho.2)).trans (State.reg_started ho.1)
      · exact (hreg.fld (by simp only [List.mem_singleton, R.engMbx, R.hqeStat]; omega) _).trans State.link_started
    have hcmds : u.hqe.cmds = startedCmds q tag.toNat s.hqe.cmds := by
      rw [hstate]
    rw [hexec, heq]
    obtain ⟨t, hdone, hcompleted⟩ := State.ends_started hready hu0 (.of_regs rfl rfl rfl rfl) hnear hcmds (fun o ho => by
      rw [List.mem_singleton.mp ho]
      simp only [R.engMbx]
      omega) {} rfl
    have hpack : t.pack = { s.pack with engines := es } := by
      obtain ⟨ht, -⟩ := hcompleted
      rw [ht]
    have hteng : ∀ n, t.eng n = u.eng n := fun n => by rw [State.eng, State.eng, hpack, hes]
    refine ⟨t, hdone, ?_, by rw [hteng, hin]; rfl, fun n hn => (hteng n).trans (hengs n hn)⟩
    have htes : t.pack.engines = es := by rw [hpack]
    rw [htes]
    exact hcompleted
  · have heq : (s.started q tag.toNat).fabMailbox c full = (s.started q tag.toNat).complete c.qp c.tag { status := St.noResource } := by
      refine (if_neg (by omega)).trans ((if_pos (by rw [State.nodeId_started]; exact hself)).trans (if_neg ?_))
      rw [hroom, decide_eq_true_eq]
      omega
    change ∃ t, _ ∧ _
    rw [hexec, heq]
    exact State.ends_plainly hready _ rfl
  · have heq : (s.started q tag.toNat).fabMailbox c full = ((s.started q tag.toNat).count R.dlfUnreachCnt).completeSt c.qp c.tag St.fabricUnreachable := by
      refine (if_neg (by omega)).trans ((if_neg (by rw [State.nodeId_started]; exact haway.1)).trans (if_pos ?_))
      rw [State.reachable_started, State.reachable_of_away haway]
      rfl
    obtain ⟨t, hdone, hcompleted, -⟩ := State.ends_unreachable hready
    exact ⟨t, (hexec.trans (congrArg State.done heq)).trans hdone, hcompleted⟩

/-! ## QUARANTINE -/

theorem exec_fabricQuarantine (h : FabricReady s q tag c x 6) :
    let k := c.arg 0
    let ends (status : Nat) : Prop := ∃ t, exec (.fabricQuarantine q tag) s = .next t ∧ Completed s t q tag.toNat x c.sqHead 0 0 0 status 0 []
    (4 ≤ k → ends St.invalidField) ∧
    (k < 4 → (c.arg 1).testBit 0 = true → s.portState k ≠ 5 → ends 0) ∧
    (k < 4 → (c.arg 1).testBit 0 = false → s.portState k = 6 → ∃ t, exec (.fabricQuarantine q tag) s = .next t ∧
      CommandStarts { s with fab := { s.fab with releases := [(q.val, tag.toNat, k)] } } t q tag.toNat [R.dlStat k] ∧ t.portState k = 1) := by
  intro k ends
  obtain ⟨hready, hop⟩ := h
  obtain ⟨hqp, htag⟩ := State.cmdOf_names hready.2.1
  have hexec : exec (.fabricQuarantine q tag) s = State.done ((s.started q tag.toNat).fabQuarantine c) :=
    congrArg State.done (State.fabricOp_ready hready hop _)
  refine ⟨fun hbad => ?_, fun hk hset hst => ?_, fun hk hset hst => ?_⟩
  · have heq : (s.started q tag.toNat).fabQuarantine c = (s.started q tag.toNat).complete c.qp c.tag { status := St.invalidField } := if_pos hbad
    change ∃ t, _ ∧ _
    rw [hexec, heq]
    exact State.ends_plainly hready _ rfl
  · have hst' : (s.started q tag.toNat).portState k ≠ Dl.active := by rw [State.portState_started]; exact hst
    have hnone : (s.started q tag.toNat).quarantineAndElect k Dl.qForced = s.started q tag.toNat := by
      have hport : (s.started q tag.toNat).portQuarantine k Dl.qForced = s.started q tag.toNat :=
        if_neg fun h => h.elim hst' (fun h => absurd h.2 (by decide))
      rw [State.quarantineAndElect, hport]
      exact if_neg fun h => hst' h.1
    have heq : (s.started q tag.toNat).fabQuarantine c = (s.started q tag.toNat).complete c.qp c.tag {} := by
      refine (if_neg (by omega)).trans ((if_pos hset).trans ?_)
      rw [hnone]
      rfl
    change ∃ t, _ ∧ _
    rw [hexec, heq]
    exact State.ends_plainly hready _ rfl
  · obtain ⟨f, hf⟩ : ∃ f, f = { s.fab with releases := [(q.val, tag.toNat, k)] } := ⟨_, rfl⟩
    obtain ⟨v, hv⟩ : ∃ v, v = (s.started q tag.toNat).setFld (R.dlStat k) F.dlStat.STATE 1 := ⟨_, rfl⟩
    have hstatne : R.hqeStat ≠ R.dlStat k := by simp only [R.dlStat, R.hqeStat]; omega
    have hnear : s.CmdNear v [R.dlStat k] := by
      rw [hv]
      exact (s.near_started q tag.toNat [R.dlStat k]).setFld _ _ (by simp) hstatne
    have hquietRegs : quietRegs [R.dlStat k] := fun o ho => by
      rw [List.mem_singleton.mp ho]
      simp only [R.dlStat]
      omega
    have hport : v.portState k = 1 := by
      rw [hv]
      exact State.fld_setFld _ _ _ _ (by decide)
    have hfab : v.fab = s.fab := (congrArg State.fab hnear.state :)
    have heq : (s.started q tag.toNat).fabQuarantine c = { v with fab := f } := by
      refine (if_neg (by omega)).trans ((if_neg (by rw [hset]; exact Bool.false_ne_true)).trans ?_)
      have hend : (s.started q tag.toNat).quarantineEnd k = v := by
        rw [hv]
        exact if_pos (by rw [State.portState_started]; exact hst)
      rw [hend]
      dsimp only
      rw [hqp, htag, hfab, hready.1.1.2.1, List.nil_append, hf]
    have hvusual : v.usual := State.usual_of hready.1 hnear.endsAlike hnear.reg hquietRegs.ignored
    have hsettled : State.settled { v with fab := f } := State.settled_of v _ hvusual.2 rfl rfl rfl rfl rfl rfl rfl
    rw [hexec, heq]
    refine ⟨_, State.done_releasing hsettled hvusual.1.2.2 (congrArg Fabric.releases hf) hport, ?_, hport⟩
    have hnear0 : State.CmdNear { s with fab := f } { v with fab := f } [R.dlStat k] := by
      refine ⟨?_, hnear.reg, hnear.link⟩
      have hstate := hnear.state
      generalize v.regs = r at hstate ⊢
      rw [hstate]
    rw [← hf]
    exact hnear0.starts (by rw [hv]; rfl)

/-! ## Time limits -/

theorem exec_fabricPingTimeout (hu : s.usual) (hx : PlainQueue s q x) (hc : s.cmdOf q tag.toNat = some c) :
    (s.fab.pings.any (fun e => e.1 == q && e.2.1 == tag.toNat) = false → exec (.fabricPingTimeout q tag) s = .next s) ∧
    (∀ node time, s.fab.pings = [(q.val, tag.toNat, node, time)] → ∃ t, exec (.fabricPingTimeout q tag) s = .next t ∧
      Completed { s with fab := { s.fab with pings := [] } } t q tag.toNat x c.sqHead 0 0 0 St.timeout 0 []) ∧
    exec (.quarantineReleaseTimeout q tag) s = .next s := by
  refine ⟨fun h => ?_, fun node time h => ?_, ?_⟩
  · exact (congrArg State.done (if_neg (by rw [h]; exact Bool.false_ne_true))).trans (State.done_of_usual hu)
  · obtain ⟨f, hf⟩ : ∃ f, f = { s.fab with pings := [] } := ⟨_, rfl⟩
    have heq : exec (.fabricPingTimeout q tag) s = State.done (State.complete { s with fab := f } q tag.toNat { status := St.timeout }) := by
      refine congrArg State.done ((if_pos (by rw [h]; simp)).trans ?_)
      rw [hf, h]
      simp
      rfl
    have hu0 : State.usual { s with fab := f } := State.usual_of_alike (s0 := { s with fab := f }) hu ⟨rfl, by rw [hf], rfl, rfl, rfl, rfl, rfl⟩ rfl
    obtain ⟨t, hdone, hcompleted⟩ := State.ends_completed (s0 := { s with fab := f }) (c := c) hu0
      ((State.QueueSame.of_regs (s := s) (s0 := { s with fab := f }) rfl rfl rfl rfl).plain hx) hc (.refl _ []) rfl quietRegs_nil { status := St.timeout } rfl
    exact ⟨t, heq.trans hdone, hf ▸ hcompleted⟩
  · refine (congrArg State.done (if_neg ?_)).trans (State.done_of_usual hu)
    rw [hu.1.2.1]
    simp

theorem exec_quarantineReleaseTimeout (hs : s.settled) (hsec : s.sec = { warm := s.sec.warm }) (hx : PlainQueue s q x)
    (hc : s.cmdOf q tag.toNat = some c) (k : Nat) (h : s.fab.releases = [(q.val, tag.toNat, k)]) :
    ∃ t, exec (.quarantineReleaseTimeout q tag) s = .next t ∧
      Completed { s with fab := { s.fab with releases := [] } } t q tag.toNat x c.sqHead 0 0 0 St.timeout 0 [] := by
  obtain ⟨f, hf⟩ : ∃ f, f = { s.fab with releases := [] } := ⟨_, rfl⟩
  have heq : exec (.quarantineReleaseTimeout q tag) s = State.done (State.complete { s with fab := f } q tag.toNat { status := St.timeout }) := by
    refine congrArg State.done ((if_pos (by rw [h]; simp)).trans ?_)
    rw [hf, h]
    simp
    rfl
  have hu0 : State.usual { s with fab := f } :=
    ⟨⟨hs.1, by rw [hf], .inl hsec⟩, State.settled_of s _ hs rfl rfl rfl rfl rfl rfl rfl⟩
  obtain ⟨t, hdone, hcompleted⟩ := State.ends_completed (s0 := { s with fab := f }) (c := c) hu0
    ((State.QueueSame.of_regs (s := s) (s0 := { s with fab := f }) rfl rfl rfl rfl).plain hx) hc (.refl _ []) rfl quietRegs_nil { status := St.timeout } rfl
  exact ⟨t, heq.trans hdone, hf ▸ hcompleted⟩

end

end Sys2Proof.Machine

/-!
The ring bridge, and O52 (R400, R401).
-/
namespace Sys2Proof.Machine

section
variable {s : State}

theorem State.bridge_on (h : 2 ≤ s.fld R.hqeStat F.hqeStat.LINK) : s.bridge = true := decide_eq_true h

/-! ## Where the bridge is off, and bad messages -/

theorem exec_bridgeOff (hu : s.usual) (h : s.fld R.hqeStat F.hqeStat.LINK < 2) (addr : BitVec 64) (w id : Word) (data : List Byte) (ok : Bool) :
    ∀ i ∈ [Instr.bridgeRegWr addr w ok, .bridgeRegRd addr ok, .memData id data ok, .memErr id ok], exec i s = .next s := by
  have hoff : (!s.bridge) = true := by rw [State.bridge_of_le (by omega)]; rfl
  intro i hi
  simp only [List.mem_cons, List.not_mem_nil, or_false] at hi
  rcases hi with rfl | rfl | rfl | rfl
  all_goals exact (congrArg State.done (if_pos hoff)).trans (State.done_of_usual hu)

theorem exec_bridgeBad (hu : s.usual) (h : 2 ≤ s.fld R.hqeStat F.hqeStat.LINK) (addr : BitVec 64) (w id : Word) (data : List Byte) :
    ∀ i ∈ [Instr.bridgeRegWr addr w false, .bridgeRegRd addr false, .memData id data false, .memErr id false], ∃ t, exec i s = .next t ∧ s.sameBut t [R.hqeBrgErrCnt] ∧
      t.reg R.hqeBrgErrCnt = satInc (s.reg R.hqeBrgErrCnt) := by
  have hon : ¬(!s.bridge) = true := by rw [State.bridge_on h]; exact Bool.false_ne_true
  have hsame : s.sameBut s.bridgeBad [R.hqeBrgErrCnt] := (State.sameBut_refl _ _).count (by simp)
  have hdone := State.done_of_regs hu hsame (by unfold endIgnores; decide)
  intro i hi
  refine ⟨s.bridgeBad, ?_, hsame, (State.reg_count _ _ _).trans (if_pos rfl)⟩
  simp only [List.mem_cons, List.not_mem_nil, or_false] at hi
  rcases hi with rfl | rfl | rfl | rfl
  all_goals exact (congrArg State.done ((if_neg hon).trans (if_pos rfl))).trans hdone

/-! ## Registers through the bridge -/

theorem State.bridgeWrite_good (h : 2 ≤ s.fld R.hqeStat F.hqeStat.LINK) (addr : BitVec 64) (w : Word) :
    s.bridgeWrite addr w true = if addr.getLsbD 63 = true then s.bar2Write (addr.toNat % 2 ^ 63) w else s.writeAccess .bar0 addr.toNat 4 w :=
  (if_neg (by rw [State.bridge_on h]; exact Bool.false_ne_true)).trans (if_neg Bool.false_ne_true)

/-- The address of BAR2 at an offset. -/
theorem bar2_address {n : Nat} (hn : n < 2 ^ 63) : (BitVec.ofNat 64 (2 ^ 63 + n)).getLsbD 63 = true ∧ (BitVec.ofNat 64 (2 ^ 63 + n)).toNat % 2 ^ 63 = n := by
  have hnat : (BitVec.ofNat 64 (2 ^ 63 + n)).toNat = 2 ^ 63 + n := by
    rw [BitVec.toNat_ofNat]
    exact Nat.mod_eq_of_lt (by omega)
  refine ⟨?_, ?_⟩
  · rw [BitVec.getLsbD, hnat, Nat.testBit_two_pow_add_eq, Nat.testBit_lt_two_pow hn]
    rfl
  · rw [hnat, Nat.add_mod_left, Nat.mod_eq_of_lt hn]

theorem exec_bridgeDoorbells (h : 2 ≤ s.fld R.hqeStat F.hqeStat.LINK) (p : Fin 1024) (w : Word) :
    exec (.bridgeRegWr (BitVec.ofNat 64 (2 ^ 63 + 16 * p)) w true) s = exec (.sqTailDoorbell p w) s ∧
    exec (.bridgeRegWr (BitVec.ofNat 64 (2 ^ 63 + 16 * p + 4)) w true) s = exec (.cqHeadDoorbell p w) s := by
  have hp := p.isLt
  refine ⟨congrArg State.done ?_, congrArg State.done ?_⟩
  · obtain ⟨hbit, hoff⟩ := bar2_address (n := 16 * p) (by omega)
    rw [State.bridgeWrite_good h, if_pos hbit, hoff, State.bar2Write, if_neg (by omega), if_neg (by omega), if_pos (by omega), Nat.mul_div_cancel_left _ (by decide)]
  · obtain ⟨hbit, hoff⟩ := bar2_address (n := 16 * p + 4) (by omega)
    rw [← Nat.add_assoc] at hbit hoff
    rw [State.bridgeWrite_good h, if_pos hbit, hoff, State.bar2Write, if_neg (by omega), if_neg (by omega), if_neg (by omega), if_pos (by omega),
      show (16 * p.val + 4) / 16 = p.val by omega]

theorem exec_bridgeBar0 (h : 2 ≤ s.fld R.hqeStat F.hqeStat.LINK) (addr : BitVec 64) (w : Word) (hlt : addr.toNat < 2 ^ 63) :
    exec (.bridgeRegWr addr w true) s = exec (.registerWrite .bar0 addr.toNat 4 w) s := by
  refine congrArg State.done ((State.bridgeWrite_good h addr w).trans (if_neg ?_))
  rw [BitVec.getLsbD, Nat.testBit_lt_two_pow hlt]
  exact Bool.false_ne_true

theorem State.warm_of_hqeCtl (hacc : s.accessible .bar0 R.hqeCtl = true) : s.sys.warmActive = false := by
  cases hwarm : s.sys.warmActive with
  | false => rfl
  | true =>
    rw [State.accessible, hwarm] at hacc
    simp [R.hqeCtl] at hacc

theorem State.regWrite_hqeCtl (hacc : s.accessible .bar0 R.hqeCtl = true) (w : Word) :
    s.regWrite .bar0 R.hqeCtl w = s.writeRow .bar0 R.hqeCtl Row.hqeCtl w false := by
  rw [State.regWrite, if_neg (by simp [State.warm_of_hqeCtl hacc, isMirror, R.hqeCtl]), if_neg (by simp [unmappedBar, R.hqeCtl]), if_neg (by decide)]
  change s.writeHqe .bar0 R.hqeCtl w = _
  rw [State.writeHqe, if_neg (by decide), if_neg (by decide), if_neg (by decide), show slotIn (R.hqeMsixCtrl 0) 0x10 256 R.hqeCtl = none by decide]
  exact State.plainWrite_of_row _ _ _ _ (by decide +kernel)

theorem State.regRead_hqeCtl (hacc : s.accessible .bar0 R.hqeCtl = true) : s.regRead .bar0 R.hqeCtl = (s.reg R.hqeCtl, s) := by
  have hrow : Reg.rowOf R.hqeCtl = some Row.hqeCtl := by decide +kernel
  have hshown : s.shown R.hqeCtl = s.reg R.hqeCtl := by
    rw [State.shown, if_neg (by decide), if_neg (by decide), if_neg (by decide), hrow]
    exact BitVec.and_allOnes
  rw [State.regRead, if_neg (by simp [State.warmClosed, State.warm_of_hqeCtl hacc, isMirror, R.hqeCtl]), if_neg (by simp [unmappedBar, R.hqeCtl]), if_neg (by decide),
    State.regShow, if_neg (by decide), show slotIn (R.engOutbox 0) 0x40 96 R.hqeCtl = none by decide, show widePart R.hqeCtl = none by decide +kernel, hrow]
  exact congrArg (·, s) hshown

theorem exec_bridgeHqeCtl (hu : s.usual) (h : 2 ≤ s.fld R.hqeStat F.hqeStat.LINK) (hacc : s.accessible .bar0 R.hqeCtl = true) :
    (∀ w, ∃ t, exec (.bridgeRegWr (BitVec.ofNat 64 R.hqeCtl) w true) s = .next t ∧
      s.sameBut t [R.hqeCtl] ∧ t.reg R.hqeCtl = Row.hqeCtl.written (s.reg R.hqeCtl) w) ∧
    exec (.bridgeRegRd (BitVec.ofNat 64 R.hqeCtl) true) s = .next { s with rdata := s.reg R.hqeCtl } := by
  have haddr : (BitVec.ofNat 64 R.hqeCtl).toNat = R.hqeCtl := by decide
  have hbit : (BitVec.ofNat 64 R.hqeCtl).getLsbD 63 = false := by decide
  refine ⟨fun w => ?_, ?_⟩
  · have heq : s.bridgeWrite (BitVec.ofNat 64 R.hqeCtl) w true = s.writeRow .bar0 R.hqeCtl Row.hqeCtl w false := by
      rw [State.bridgeWrite_good h, hbit, if_neg Bool.false_ne_true, haddr, State.writeAccess_of_aligned _ (by decide), State.regWrite_hqeCtl hacc]
    have hsame := s.writeRow_sameBut .bar0 R.hqeCtl Row.hqeCtl w
    exact ⟨_, (congrArg State.done heq).trans (State.done_of_regs hu hsame (by unfold endIgnores; decide)), hsame, (s.reg_writeRow _ _ _ _ _).trans (if_pos rfl)⟩
  · have heq : s.bridgeRead (BitVec.ofNat 64 R.hqeCtl) true = { s with rdata := s.reg R.hqeCtl } := by
      refine (if_neg (by rw [State.bridge_on h]; exact Bool.false_ne_true)).trans ((if_neg Bool.false_ne_true).trans ((if_neg (by rw [hbit]; exact Bool.false_ne_true)).trans ?_))
      rw [haddr, State.readAccess_of_aligned (by decide), State.regRead_hqeCtl hacc]
    have hu0 : State.usual { s with rdata := s.reg R.hqeCtl } :=
      State.usual_of_alike (s0 := { s with rdata := s.reg R.hqeCtl }) hu ⟨rfl, rfl, rfl, rfl, rfl, rfl, rfl⟩ rfl
    exact (congrArg State.done heq).trans (State.done_of_usual hu0)

/-! ## Host memory through the bridge -/

theorem exec_memData (hu : s.usual) (h : 2 ≤ s.fld R.hqeStat F.hqeStat.LINK) (id : Word) (data : List Byte) :
    exec (.memData id data true) s = .next { s with hqe := { s.hqe with
      reads := s.hqe.reads.map (fun r => if r.id = id.toNat then { r with got := (r.got ++ data).take r.len } else r) } } := by
  have heq : s.memData id.toNat data true = { s with hqe := { s.hqe with
      reads := s.hqe.reads.map (fun r => if r.id = id.toNat then { r with got := (r.got ++ data).take r.len } else r) } } :=
    (if_neg (by rw [State.bridge_on h]; exact Bool.false_ne_true)).trans (if_neg Bool.false_ne_true)
  refine (congrArg State.done heq).trans ?_
  generalize s.hqe.reads.map _ = l
  exact State.done_of_usual (State.usual_of_alike (s0 := { s with hqe := { s.hqe with reads := l } }) hu ⟨rfl, rfl, rfl, rfl, rfl, rfl, rfl⟩ rfl)

theorem exec_memErr (hu : s.usual) (h : 2 ≤ s.fld R.hqeStat F.hqeStat.LINK) (id : Word) :
    (∀ (r : HostRead) (y : Qp), s.hqe.reads = [r] → r.id = id.toNat → r.ring = true → s.qp r.qp = some y → y.error = false → r.qp < 1024 →
      r.addr < 2 ^ 64 → s.asyncQ.length < 64 → s.fld R.hqeQerr F.hqeQerr.VALID = 0 →
      ∃ t, exec (.memErr id true) s = .next t ∧ QueueFailed { s with hqe := { s.hqe with reads := [] } } t r.qp y 4 (some r.addr) [R.hqeBusCnt]) ∧
    (s.hqe.reads = [] → exec (.memErr id true) s = .next s) := by
  have hdef : s.memErr id.toNat true = match s.hqe.reads.find? (fun r => r.id == id.toNat) with
      | none => s
      | some r => State.hostReadFail { s with hqe := { s.hqe with reads := s.hqe.reads.filter (fun e => e.id != id.toNat) } } r.qp
          (if r.ring then none else some r.tag) r.addr false :=
    (if_neg (by rw [State.bridge_on h]; exact Bool.false_ne_true)).trans (if_neg Bool.false_ne_true)
  have hexec : exec (.memErr id true) s = State.done (s.memErr id.toNat true) := rfl
  refine ⟨fun r y hreads hid hring hqp herr hlt haddr hroom hvalid => ?_, fun hreads => ?_⟩
  · have hu0 : State.usual { s with hqe := { s.hqe with reads := [] } } :=
      State.usual_of_alike (s0 := { s with hqe := { s.hqe with reads := [] } }) hu ⟨rfl, rfl, rfl, rfl, rfl, rfl, rfl⟩ rfl
    have hnat : (BitVec.ofNat 64 r.addr).toNat = r.addr := by rw [BitVec.toNat_ofNat, Nat.mod_eq_of_lt haddr]
    obtain ⟨t, hdone, hfailed, -⟩ := done_fetchFails (s := { s with hqe := { s.hqe with reads := [] } }) hu0 ⟨r.qp, hlt⟩ y hqp herr hroom hvalid false (BitVec.ofNat 64 r.addr)
    rw [hnat] at hdone hfailed
    refine ⟨t, ?_, hfailed⟩
    rw [hexec, hdef, hreads, List.find?_cons_of_pos (by rw [hid]; exact beq_self_eq_true _)]
    dsimp only
    rw [hring, if_pos rfl, List.filter_cons_of_neg (by rw [hid]; simp), List.filter_nil]
    exact hdone
  · rw [hexec, hdef, hreads, List.find?_nil]
    exact State.done_of_usual hu

end

/-- Settles O52: FABRIC_OP by its sub-operation, its time limits, and the ring bridge. -/
theorem fabricOperationsAndBridge : Obligations.FabricOperationsAndBridge := by
  intro s q tag c x ready ends away
  have read_of (h : ready 4) : exec (.remoteRead q tag) s = State.done ((s.started q tag.toNat).fabCopy c false []) :=
    congrArg State.done (State.fabricOp_ready h.1 h.2 _)
  have write_of (d : List Byte) (h : ready 5) : exec (.remoteWrite q tag d) s = State.done ((s.started q tag.toNat).fabCopy c true d) := by
    refine congrArg State.done ?_
    rw [State.hostData_plain h.1.2.2.2.2]
    exact State.fabricOp_ready h.1 h.2 _
  refine ⟨exec_fabricStatus, exec_fabricReform, exec_fabricPing, ⟨fun h => ?_, fun d hd h => ?_⟩, exec_fabricQuarantine,
    fun full h => exec_fabricMailbox full h, exec_fabricPingTimeout, exec_quarantineReleaseTimeout, fun hu => ⟨exec_bridgeOff hu, fun hlink => ?_⟩⟩
  · refine ⟨fun hbad => ?_, fun hbad hnode hpd herr hpoison => ?_, fun hbad hlen hnode => ?_⟩
    · dsimp only [ends]
      rw [read_of h]
      exact ends_badCopy h.1 hbad false []
    · dsimp only [ends]
      rw [read_of h]
      exact ends_ownRead h.1 hbad hnode hpd herr hpoison
    · obtain ⟨t, hdone, hstarts, hfab⟩ := ends_remoteCopy h.1 hbad hlen hnode false []
      exact ⟨t, (read_of h).trans hdone, hstarts, hfab.trans (by rw [State.copyFab, List.take_nil]; rfl)⟩
  · refine ⟨fun hbad => ?_, fun hbad hnode hpd herr hpoison => ?_, fun hbad hlen hnode => ?_⟩
    · dsimp only [ends]
      rw [write_of d h]
      exact ends_badCopy h.1 hbad true d
    · rw [write_of d h]
      exact ends_ownWrite h.1 hbad hnode hpd herr hpoison d hd
    · obtain ⟨t, hdone, hstarts, hfab⟩ := ends_remoteCopy h.1 hbad hlen hnode true d
      exact ⟨t, (write_of d h).trans hdone, hstarts, hfab⟩
  · exact ⟨exec_bridgeBad hu hlink, exec_bridgeDoorbells hlink, exec_bridgeBar0 hlink, fun hacc => (exec_bridgeHqeCtl hu hlink hacc).1,
      fun hacc => (exec_bridgeHqeCtl hu hlink hacc).2, exec_memData hu hlink, fun id => (exec_memErr hu hlink id).1, fun id => (exec_memErr hu hlink id).2⟩

end Sys2Proof.Machine

/-!
The queue commands (R387, R388, R399, Table 11-6): IDENTIFY, CREATE_QP, DELETE_QP, ABORT and ASYNC_EVENT.
-/
namespace Sys2Proof.Machine

section
variable {s : State} {q : Fin 1024} {tag : BitVec 16} {c : Cmd} {x : Qp}

/-- A command with this effect, ready to start. -/
theorem State.startCmd_done {op : Nat} (h : CommandReady s q tag.toNat op c x) (f : Cmd → State → State) :
    State.done (s.startCmd q tag.toNat op f) = State.done (f c (s.started q tag.toNat)) := congrArg State.done (State.startCmd_ready h f)

/-- What a queue pair is once a command of it has started. -/
theorem State.qp_started (p : Nat) : (s.started q tag.toNat).qp p = s.qp p := rfl

/-- Marks a command as started where it has these names. -/
def Cmd.markAt (q tag : Nat) (d : Cmd) : Cmd := if d.qp == q && d.tag == tag then { d with started := true } else d

theorem Cmd.markAt_names (d : Cmd) (q tag : Nat) : (d.markAt q tag).qp = d.qp ∧ (d.markAt q tag).tag = d.tag ∧ (d.markAt q tag).op = d.op ∧
    (d.markAt q tag).sqHead = d.sqHead := by
  unfold Cmd.markAt
  split
  · exact ⟨rfl, rfl, rfl, rfl⟩
  · exact ⟨rfl, rfl, rfl, rfl⟩

/-- Any command, once one has started. -/
theorem State.cmdOf_started_map (p g : Nat) : (s.started q tag.toNat).cmdOf p g = (s.cmdOf p g).map (Cmd.markAt q tag.toNat) := by
  have hmap : (s.started q tag.toNat).hqe.cmds = s.hqe.cmds.map (Cmd.markAt q tag.toNat) := rfl
  rw [State.cmdOf, hmap, List.find?_map]
  refine congrArg (Option.map _) (congrArg (List.find? · _) (funext fun d => ?_))
  obtain ⟨hqp, htag, -, -⟩ := d.markAt_names q tag.toNat
  simp only [Function.comp_apply, hqp, htag]

theorem State.any_started (p : Nat) : (s.started q tag.toNat).hqe.cmds.any (fun d => d.qp == p) = s.hqe.cmds.any (fun d => d.qp == p) := by
  have hmap : (s.started q tag.toNat).hqe.cmds = s.hqe.cmds.map (Cmd.markAt q tag.toNat) := rfl
  rw [hmap, List.any_map]
  refine congrArg (List.any _) (funext fun d => ?_)
  obtain ⟨hqp, -, -, -⟩ := d.markAt_names q tag.toNat
  simp only [Function.comp_apply, hqp]

theorem State.waiting_started : ((s.started q tag.toNat).hqe.cmds.filter (fun d => d.op == 4)).length = (s.hqe.cmds.filter (fun d => d.op == 4)).length := by
  have hmap : (s.started q tag.toNat).hqe.cmds = s.hqe.cmds.map (Cmd.markAt q tag.toNat) := rfl
  rw [hmap, List.filter_map, List.length_map]
  refine congrArg (fun f => (List.filter f s.hqe.cmds).length) (funext fun d => ?_)
  obtain ⟨-, -, hop, -⟩ := d.markAt_names q tag.toNat
  simp only [Function.comp_apply, hop]

/-! ## IDENTIFY -/

/-- The page that IDENTIFY writes. -/
def State.identityFields (s : State) : List Byte :=
  bytesLE 4 (s.reg R.sysId).toNat ++ bytesLE 2 (s.fld R.hqeStat F.hqeStat.LINK) ++ bytesLE 2 s.qpLimit ++
    bytesLE 4 4096 ++ bytesLE 4 3072 ++ bytesLE 4 (s.reg R.hqeSpillSize).toNat ++ bytesLE 4 (s.reg R.hqeSpillFree).toNat ++
    bytesLE 4 (s.reg (R.engVer 0)).toNat

theorem State.identityFields_length (t : State) : t.identityFields.length = 28 := by
  simp only [State.identityFields, List.length_append, bytesLE_length]

/-- The page that IDENTIFY writes. -/
def State.identity (s : State) : List Byte := s.identityFields ++ List.replicate (4096 - s.identityFields.length) 0

theorem State.identity_length (t : State) : t.identity.length = 4096 := by
  rw [State.identity, List.length_append, List.length_replicate, State.identityFields_length]

theorem State.identity_head (t : State) : t.identity.take 20 = bytesLE 4 (t.reg R.sysId).toNat ++ bytesLE 2 (t.fld R.hqeStat F.hqeStat.LINK) ++ bytesLE 2 t.qpLimit ++
    bytesLE 4 4096 ++ bytesLE 4 3072 ++ bytesLE 4 (t.reg R.hqeSpillSize).toNat := by
  rw [State.identity, State.identityFields, List.append_assoc, List.append_assoc]
  exact List.take_left' (by simp only [List.length_append, bytesLE_length])

theorem exec_identify (h : CommandReady s q tag.toNat 0x00 c x) :
    (c.addr0 % 64 ≠ 0 → ∃ t, exec (.identify q tag) s = .next t ∧ Completed s t q tag.toNat x c.sqHead 0 0 0 St.invalidField 0 []) ∧
    (c.addr0 % 64 = 0 → ∃ m, (∃ t, exec (.identify q tag) s = .next t ∧ Completed { s with hostMem := m } t q tag.toNat x c.sqHead 0 0 0 0 0 []) ∧
      hostAt { s with hostMem := m } c.addr0 20 = bytesLE 4 (s.reg R.sysId).toNat ++ bytesLE 2 1 ++ bytesLE 2 1024 ++ bytesLE 4 4096 ++
        bytesLE 4 3072 ++ bytesLE 4 (s.reg R.hqeSpillSize).toNat ∧
      (∀ a, a < c.addr0 ∨ c.addr0 + 4096 ≤ a → hostAt { s with hostMem := m } a 1 = hostAt s a 1)) := by
  have hexec : exec (.identify q tag) s = State.done (if c.addr0 % 64 ≠ 0 then (s.started q tag.toNat).complete c.qp c.tag { status := St.invalidField }
      else ((s.started q tag.toNat).hostWrite c.addr0 (s.started q tag.toNat).identity).complete c.qp c.tag {}) := State.startCmd_done h _
  have hlink : (s.started q tag.toNat).fld R.hqeStat F.hqeStat.LINK = 1 := by
    obtain ⟨-, -, -, -, -, -, -, -, -, hlink, -⟩ := h
    exact State.link_started.trans hlink
  rw [hexec]
  refine ⟨fun hbad => ?_, fun hgood => ?_⟩
  · rw [if_pos hbad]
    exact State.ends_plainly h _ rfl
  · rw [if_neg (not_not_intro hgood), State.hostWrite_state]
    obtain ⟨page, hpage⟩ : ∃ page, page = (s.started q tag.toNat).identity := ⟨_, rfl⟩
    have hlen : page.length = 4096 := by rw [hpage, State.identity_length]
    have hhead : page.take 20 = bytesLE 4 (s.reg R.sysId).toNat ++ bytesLE 2 1 ++ bytesLE 2 1024 ++ bytesLE 4 4096 ++
        bytesLE 4 3072 ++ bytesLE 4 (s.reg R.hqeSpillSize).toNat := by
      rw [hpage, State.identity_head, hlink, State.reg_started (by decide), State.reg_started (by decide), State.qpLimit, State.bridge_of_le (by omega),
        if_neg Bool.false_ne_true]
    rw [← hpage]
    change ∃ m, (∃ t, State.done (State.complete { s.started q tag.toNat with hostMem := hostWritten s.hostMem c.addr0 page } _ _ _) = _ ∧ _) ∧ _
    obtain ⟨m, hm⟩ : ∃ m, m = hostWritten s.hostMem c.addr0 page := ⟨_, rfl⟩
    rw [← hm]
    exact ⟨m, State.ends_started h (State.usual_hostMem h.1 m) (.of_regs rfl rfl rfl rfl) (State.near_of_started rfl rfl rfl) rfl quietRegs_nil {} rfl,
      (hostAt_written (s := s) hm (by omega)).trans hhead, fun a ha => hostAt_written_out (s := s) hm (by omega)⟩

/-! ## CREATE_QP and DELETE_QP -/

theorem State.usual_setQp (hu : s.usual) (p : Nat) (y : Option Qp) : (s.setQp p y).usual :=
  State.usual_of_alike (s0 := s.setQp p y) hu ⟨rfl, rfl, rfl, rfl, rfl, rfl, rfl⟩ rfl

/-- Another queue pair is no part of this one. -/
theorem State.QueueSame.setQp {p : Nat} (hp : q.val ≠ p) (y : Option Qp) : s.QueueSame (s.setQp p y) q :=
  .of_regs rfl (State.qp_setQp_ne _ _ _ hp) rfl rfl

/-- The queue pair that a CREATE_QP describes. -/
def Cmd.newQp (c : Cmd) : Qp :=
  { sqBase := c.addr0, cqBase := c.addr1, sqSize := bitsOf (c.arg 0) 0 12 + 1, cqSize := bitsOf (c.arg 0) 16 12 + 1, vector := bitsOf (c.arg 1) 0 8,
    coalN := bitsOf (c.arg 1) 8 8, coalUs := bitsOf (c.arg 1) 16 16 }

theorem exec_createQp (h : CommandReady s q tag.toNat 0x01 c x) :
    let sq := bitsOf (c.arg 0) 0 12 + 1
    let cq := bitsOf (c.arg 0) 16 12 + 1
    let bad := c.target = 0 ∨ 1024 ≤ c.target ∨ sq < 2 ∨ cq < 2 ∨ c.addr0 % 4096 ≠ 0 ∨ c.addr1 % 4096 ≠ 0
    let ends (s0 : State) (status : Nat) : Prop := ∃ t, exec (.createQp q tag) s = .next t ∧ Completed s0 t q tag.toNat x c.sqHead 0 0 0 status 0 []
    (bad → ends s St.invalidField) ∧ (¬bad → (s.qp c.target).isSome = true → ends s St.contextBusy) ∧
    (¬bad → s.qp c.target = none → ends (s.setQp c.target (some c.newQp)) 0) := by
  intro sq cq bad ends
  have hplain := h.2.2.2.2
  obtain ⟨hq, -, -, -, -, hlink, -⟩ := hplain
  have hlimit : (s.started q tag.toNat).qpLimit = 1024 := by
    rw [State.qpLimit, State.bridge_of_le (by rw [State.link_started]; omega), if_neg Bool.false_ne_true]
  have hexec : exec (.createQp q tag) s = State.done (if bad then (s.started q tag.toNat).complete c.qp c.tag { status := St.invalidField }
      else if (s.qp c.target).isSome then (s.started q tag.toNat).complete c.qp c.tag { status := St.contextBusy }
      else ((s.started q tag.toNat).setQp c.target (some c.newQp)).complete c.qp c.tag {}) := by
    refine (State.startCmd_done h _).trans (congrArg State.done ?_)
    rw [State.doCreateQp, hlimit]
    rfl
  dsimp only [ends]
  rw [hexec]
  refine ⟨fun hbad => ?_, fun hgood hsome => ?_, fun hgood hnone => ?_⟩
  · rw [if_pos hbad]
    exact State.ends_plainly h _ rfl
  · rw [if_neg hgood, if_pos hsome]
    exact State.ends_plainly h _ rfl
  · rw [if_neg hgood, if_neg (by rw [hnone]; exact Bool.false_ne_true)]
    have hne : q.val ≠ c.target := fun e => by
      rw [e, hnone] at hq
      cases hq
    have hnear : State.CmdNear (s.setQp c.target (some c.newQp)) ((s.started q tag.toNat).setQp c.target (some c.newQp)) [] := State.near_of_started rfl rfl rfl
    exact State.ends_started h (State.usual_setQp h.1 _ _) (.setQp hne _) hnear rfl quietRegs_nil {} rfl

theorem State.CmdNear.setQerr {l : List Nat} (v : Nat) : s.CmdNear (s.setFld R.hqeStat F.hqeStat.QERR v) l :=
  ⟨rfl, fun off ho => State.reg_setFld_ne _ _ _ _ _ fun e => ho (e ▸ List.mem_cons_self),
    State.fld_setFld_apart _ R.hqeStat F.hqeStat.QERR F.hqeStat.LINK _ (by decide) (by decide) (by decide)⟩

/-- Showing whether a queue pair is in ERROR changes HQE.STAT alone, but not the link. -/
theorem State.CmdNear.refreshQerr {u : State} {l : List Nat} (h : s.CmdNear u l) : s.CmdNear u.refreshQerr l := by
  unfold State.refreshQerr
  exact h.trans (State.CmdNear.setQerr _)

theorem exec_deleteQp (h : CommandReady s q tag.toNat 0x02 c x) :
    let ends (s0 : State) (status : Nat) : Prop := ∃ t, exec (.deleteQp q tag) s = .next t ∧ Completed s0 t q tag.toNat x c.sqHead 0 0 0 status 0 []
    (c.target = q → ends s St.contextBusy) ∧
    (s.hqe.cmds.any (fun d => d.qp == c.target) = false →
      (c.target = 0 ∨ s.qp c.target = none → ends s St.invalidField) ∧
      (c.target ≠ 0 → (s.qp c.target).isSome = true → ends (s.setQp c.target none) 0)) := by
  intro ends
  have hexec : exec (.deleteQp q tag) s = State.done (if s.hqe.cmds.any (fun d => d.qp == c.target) then
        (s.started q tag.toNat).complete c.qp c.tag { status := St.contextBusy }
      else if c.target = 0 ∨ (s.qp c.target).isNone then (s.started q tag.toNat).complete c.qp c.tag { status := St.invalidField }
      else (((s.started q tag.toNat).setQp c.target none).refreshQerr).complete c.qp c.tag {}) := by
    refine (State.startCmd_done h _).trans (congrArg State.done ?_)
    rw [State.doDeleteQp, State.any_started]
    rfl
  have hown : s.hqe.cmds.any (fun d => d.qp == q.val) = true := by
    obtain ⟨-, hc, -⟩ := h
    exact List.any_eq_true.mpr ⟨c, List.mem_of_find?_eq_some hc, by rw [(State.cmdOf_names hc).1]; exact beq_self_eq_true _⟩
  dsimp only [ends]
  rw [hexec]
  refine ⟨fun heq => ?_, fun hnone => ⟨fun hbad => ?_, fun hne hsome => ?_⟩⟩
  · rw [if_pos (by rw [heq]; exact hown)]
    exact State.ends_plainly h _ rfl
  · rw [if_neg (by rw [hnone]; exact Bool.false_ne_true), if_pos (hbad.imp_right fun e => by rw [e]; rfl)]
    exact State.ends_plainly h _ rfl
  · have hq : q.val ≠ c.target := fun e => by
      rw [e, hnone] at hown
      cases hown
    rw [if_neg (by rw [hnone]; exact Bool.false_ne_true), if_neg (not_or.mpr ⟨hne, by rw [Option.isNone_iff_eq_none]; exact Option.isSome_iff_ne_none.mp hsome⟩)]
    have hnear : State.CmdNear (s.setQp c.target none) ((s.started q tag.toNat).setQp c.target none) [] := State.near_of_started rfl rfl rfl
    exact State.ends_started h (State.usual_setQp h.1 _ _) (.setQp hq _) hnear.refreshQerr rfl quietRegs_nil {} rfl

/-! ## ABORT -/

/-- Host memory that is the same byte for byte is the same over a range. -/
theorem hostAt_congr {t u : State} {a n : Nat} (h : ∀ k, a ≤ k → k < a + n → hostAt t k 1 = hostAt u k 1) : hostAt t a n = hostAt u a n := by
  refine List.map_congr_left fun i hi => ?_
  have := List.mem_range.mp hi
  have h1 := h (a + i) (by omega) (by omega)
  simpa only [hostAt, List.range_one, List.map_cons, List.map_nil, Nat.add_zero, List.cons.injEq, and_true] using h1

/-- A plain queue pair with room for another completion stays plain at its next place. -/
theorem plainQueue_complete {u : State} {p g : Nat} {d : Cmd} (hx : PlainQueue u p x) (hd : u.cmdOf p g = some d) (hroom : x.cqTail + 2 < x.cqSize) (r : Report) :
    PlainQueue (u.complete p g r) p { x with cqTail := x.cqTail + 1 } := by
  have heq := State.complete_plain hx hd r
  have hnear : u.CmdNear (u.setCmds (otherCmds p g u.hqe.cmds)) [] := (State.CmdNear.refl u []).setCmds _
  obtain ⟨-, hcoal, hunsig, -, hmask, hlink, hreads⟩ := hx
  have hregs : (u.complete p g r).regs = (u.setCmds (otherCmds p g u.hqe.cmds)).regs := by rw [heq]
  have hfld : ∀ o f, (u.complete p g r).fld o f = (u.setCmds (otherCmds p g u.hqe.cmds)).fld o f := fun o f => State.fld_of_reg (State.reg_of_regs _ _ hregs o) f
  refine ⟨?_, hcoal, hunsig, hroom, ?_, ?_, ?_⟩
  · rw [heq, State.qp]
    dsimp only
    rw [Table.get_set, if_pos rfl]
  · rw [hfld, hnear.reg.fld]
    · exact hmask
    · simp only [List.mem_singleton, R.hqeMsixCtrl, R.hqeStat]
      omega
  · rw [hfld]
    exact hnear.link.trans hlink
  · rw [heq]
    exact hreads

/-- A command that has completed is no longer in flight, and the others still are. -/
theorem State.cmdOf_complete {u : State} {p g : Nat} {d : Cmd} (hx : PlainQueue u p x) (hd : u.cmdOf p g = some d) (r : Report) :
    (u.complete p g r).cmdOf p g = none ∧ ∀ g', g' ≠ g → (u.complete p g r).cmdOf p g' = u.cmdOf p g' := by
  have hcmds : (u.complete p g r).hqe.cmds = otherCmds p g u.hqe.cmds := by rw [State.complete_plain hx hd r]
  refine ⟨?_, fun g' hne => ?_⟩
  · rw [State.cmdOf, hcmds, List.find?_eq_none]
    intro e he
    have := (List.mem_filter.mp he).2
    simpa [Classical.or_iff_not_imp_left] using this
  · rw [State.cmdOf, hcmds, otherCmds, List.find?_filter]
    refine congrArg (List.find? · _) (funext fun e => ?_)
    by_cases he : (e.qp == p && e.tag == g') = true
    · rw [he]
      simp only [Bool.and_eq_true, beq_iff_eq] at he
      simp [he.1, he.2, hne]
    · rw [Bool.not_eq_true] at he
      simp [he]

/-- An ABORT of an ASYNC_EVENT of the same queue pair completes both, in this order. -/
theorem ends_abortAsync (h : CommandReady s q tag.toNat 0x03 c x) {g : Nat} {d : Cmd} (hd : s.cmdOf q g = some d) (hop : d.op = 0x04)
    (hroom : x.cqTail + 2 < x.cqSize) :
    ∃ t, State.done (((s.started q tag.toNat).complete q g { status := St.aborted }).complete q tag.toNat {}) = .next t ∧
      t.cmdOf q tag.toNat = none ∧ t.cmdOf q g = none ∧
      hostAt t (x.cqBase + 32 * x.cqTail) 32 = completionBytes 0 0 0 s.sys.time.toNat d.sqHead q g St.aborted 0 x.phase ∧
      hostAt t (x.cqBase + 32 * x.cqTail + 32) 32 = completionBytes 0 0 0 s.sys.time.toNat c.sqHead q tag.toNat 0 0 x.phase := by
  obtain ⟨hu, hc, hcop, -, hx⟩ := h
  have hg : tag.toNat ≠ g := fun e => by
    rw [e, hd] at hc
    obtain rfl := Option.some.inj hc
    omega
  obtain ⟨u, hudef⟩ : ∃ u, u = s.started q tag.toNat := ⟨_, rfl⟩
  have hnear : s.CmdNear u [] := hudef ▸ s.near_started q tag.toNat []
  have hxu : PlainQueue u q x := hnear.plain (keepsVectors_of (by simp)) hx
  have hdu : u.cmdOf q g = some (d.markAt q tag.toNat) := by rw [hudef, State.cmdOf_started_map, hd]; rfl
  have hcu : u.cmdOf q tag.toNat = some { c with started := true } := hudef ▸ State.cmdOf_started hc
  have huu : u.usual := State.usual_of hu hnear.endsAlike hnear.reg (by unfold endIgnores; decide)
  have hsys : u.sys = s.sys := (congrArg State.sys hnear.state :)
  rw [← hudef]
  clear hudef hnear
  have hone := (State.CmdNear.refl u []).completed (keepsVectors_of (by simp)) hxu hdu rfl { status := St.aborted } rfl
  have hone' := State.cmdOf_complete hxu hdu { status := St.aborted }
  have hplain := plainQueue_complete hxu hdu hroom { status := St.aborted }
  have hends := endsAlike_of_completed hone
  have hregs := regsBut_of_completed hone
  obtain ⟨v, hv⟩ : ∃ v, v = u.complete q g { status := St.aborted } := ⟨_, rfl⟩
  rw [← hv] at hone hone' hplain hends hregs ⊢
  have husual : v.usual := State.usual_of huu hends hregs (by unfold endIgnores; decide)
  have hcv : v.cmdOf q tag.toNat = some { c with started := true } := (hone'.2 _ hg).trans hcu
  have htwo := (State.CmdNear.refl v []).completed (keepsVectors_of (by simp)) hplain hcv rfl {} rfl
  have htwo' := State.cmdOf_complete hplain hcv {}
  have hdone := State.done_of_completed htwo husual (by unfold endIgnores; decide)
  obtain ⟨t, ht⟩ : ∃ t, t = v.complete q tag.toNat {} := ⟨_, rfl⟩
  rw [← ht] at htwo htwo' hdone ⊢
  have hvsys : v.sys = s.sys := by
    obtain ⟨hstate, -⟩ := hone
    exact (congrArg State.sys hstate :).trans hsys
  obtain ⟨-, hentry, -⟩ := hone
  obtain ⟨-, hentry2, hkeeps, -⟩ := htwo
  refine ⟨t, hdone, htwo'.1, (htwo'.2 _ hg.symm).trans hone'.1, ?_, ?_⟩
  · rw [hostAt_congr fun k _ hk => hkeeps k (.inl ?_), hentry, hsys, (d.markAt_names _ _).2.2.2]
    dsimp only
    omega
  · dsimp only at hentry2
    rw [hvsys, Nat.mul_add, ← Nat.add_assoc] at hentry2
    exact hentry2

/-- An ABORT of a command that cannot be aborted. -/
theorem State.doAbort_busy {u : State} {d : Cmd} (hd : u.cmdOf c.target (c.arg 0) = some d) (hop : d.op ∉ [0x04, 0x12, 0x20, 0x22]) :
    u.doAbort c = u.complete c.qp c.tag { status := St.contextBusy } := by
  simp only [List.mem_cons, List.not_mem_nil, or_false, not_or] at hop
  obtain ⟨h4, h12, h20, h22⟩ := hop
  rw [State.doAbort, hd]
  dsimp only
  rw [if_neg (show d.op ≠ Op.asyncEvent from h4), if_neg (show d.op ≠ Op.postBuffer from h12), if_neg (show d.op ≠ Op.scanJob from h20),
    if_neg (show d.op ≠ Op.calibrate from h22)]
  rfl

/-- An ABORT of an ASYNC_EVENT. -/
theorem State.doAbort_async {u : State} {d : Cmd} (hd : u.cmdOf c.target (c.arg 0) = some d) (hop : d.op = 0x04) :
    u.doAbort c = (u.complete c.target (c.arg 0) { status := St.aborted }).complete c.qp c.tag {} := by
  rw [State.doAbort, hd]
  dsimp only
  rw [if_pos (show d.op = Op.asyncEvent from hop)]
  rfl

theorem exec_abort (h : CommandReady s q tag.toNat 0x03 c x) :
    let ends (status : Nat) : Prop := ∃ t, exec (.abort q tag) s = .next t ∧ Completed s t q tag.toNat x c.sqHead 0 0 0 status 0 []
    (s.cmdOf c.target (c.arg 0) = none → ends St.invalidField) ∧
    (∀ d, s.cmdOf c.target (c.arg 0) = some d →
      (d.op ∉ [0x04, 0x12, 0x20, 0x22] → ends St.contextBusy) ∧
      (d.op = 0x04 → c.target = q → x.cqTail + 2 < x.cqSize →
        ∃ t, exec (.abort q tag) s = .next t ∧ t.cmdOf q tag.toNat = none ∧ t.cmdOf q (c.arg 0) = none ∧
          hostAt t (x.cqBase + 32 * x.cqTail) 32 = completionBytes 0 0 0 s.sys.time.toNat d.sqHead q (c.arg 0) St.aborted 0 x.phase ∧
          hostAt t (x.cqBase + 32 * x.cqTail + 32) 32 = completionBytes 0 0 0 s.sys.time.toNat c.sqHead q tag.toNat 0 0 x.phase)) := by
  intro ends
  have hexec : exec (.abort q tag) s = State.done ((s.started q tag.toNat).doAbort c) := State.startCmd_done h _
  dsimp only [ends]
  rw [hexec]
  refine ⟨fun hnone => ?_, fun d hd => ?_⟩
  · rw [State.doAbort, State.cmdOf_started_map, hnone]
    exact State.ends_plainly h _ rfl
  · have hdu : (s.started q tag.toNat).cmdOf c.target (c.arg 0) = some (d.markAt q tag.toNat) := by rw [State.cmdOf_started_map, hd]; rfl
    have hmark := (d.markAt_names q tag.toNat).2.2.1
    refine ⟨fun hop => ?_, fun hop hq hroom => ?_⟩
    · rw [State.doAbort_busy hdu (by rw [hmark]; exact hop)]
      exact State.ends_plainly h _ rfl
    · obtain ⟨hqp, htag⟩ := State.cmdOf_names h.2.1
      rw [State.doAbort_async hdu (hmark.trans hop), hqp, htag, hq]
      exact ends_abortAsync h (hq ▸ hd) hop hroom

/-! ## ASYNC_EVENT -/

theorem exec_asyncEvent (h : CommandReady s q tag.toNat 0x04 c x) :
    let waiting := (s.hqe.cmds.filter (fun d => d.op == 0x04)).length
    (waiting ≤ 8 → ∃ t, exec (.asyncEvent q tag) s = .next t ∧ CommandStarts s t q tag.toNat []) ∧
    (8 < waiting → ∃ t, exec (.asyncEvent q tag) s = .next t ∧ Completed s t q tag.toNat x c.sqHead 0 0 0 St.noResource 0 []) := by
  have hexec : exec (.asyncEvent q tag) s = State.done (if 8 < (s.hqe.cmds.filter (fun d => d.op == 0x04)).length then
      (s.started q tag.toNat).complete c.qp c.tag { status := St.noResource } else s.started q tag.toNat) := by
    refine (State.startCmd_done h _).trans (congrArg State.done ?_)
    rw [State.doAsyncEvent, show Op.asyncEvent = 4 from rfl, State.waiting_started]
    rfl
  rw [hexec]
  refine ⟨fun hle => ?_, fun hlt => ?_⟩
  · rw [if_neg (by omega)]
    exact ⟨_, State.ends_inFlight h.1 (s.near_started q tag.toNat []) rfl quietRegs_nil⟩
  · rw [if_pos hlt]
    exact State.ends_plainly h _ rfl

theorem exec_asyncEventDeliver (hu : s.usual) :
    (∀ ev rest, PlainQueue s q x → s.asyncQ = ev :: rest → s.hqe.cmds.find? (fun d => d.op == 0x04 && d.started) = some c →
      c.qp = q → c.tag = tag.toNat → s.cmdOf q tag.toNat = some c → ∃ t, exec .asyncEventDeliver s = .next t ∧
      Completed { s with asyncQ := rest } t q tag.toNat x c.sqHead (ev.kind + ev.detail % 2 ^ 56 * 256) ev.result1 0 0 0 []) ∧
    (s.asyncQ = [] → exec .asyncEventDeliver s = .next s) := by
  have hexec : exec .asyncEventDeliver s = State.done s.deliverAsync := rfl
  rw [hexec]
  refine ⟨fun ev rest hx hq hfind hqp htag hc => ?_, fun hq => ?_⟩
  · have heq : s.deliverAsync = ({ s with asyncQ := rest } : State).complete q tag.toNat { r0 := ev.kind + ev.detail % 2 ^ 56 * 256, r1 := ev.result1 } := by
      rw [State.deliverAsync, hq, show Op.asyncEvent = 4 from rfl, hfind]
      dsimp only
      rw [hqp, htag]
    rw [heq]
    have hsame : s.QueueSame { s with asyncQ := rest } q := .of_regs rfl rfl rfl rfl
    exact State.ends_completed (State.usual_of_alike (s0 := { s with asyncQ := rest }) hu ⟨rfl, rfl, rfl, rfl, rfl, rfl, rfl⟩ rfl) (hsame.plain hx) ((hsame.cmdOf _).trans hc)
      (.refl _ []) rfl quietRegs_nil _ rfl
  · have heq : s.deliverAsync = s := by rw [State.deliverAsync, hq]
    rw [heq]
    exact State.done_of_usual hu

end

end Sys2Proof.Machine

/-!
The stream commands (R389-R393, R314, R315): CLOSE_STREAM, SAVE_CONTEXT, OPEN_STREAM, POST_BUFFER, RESTORE_CONTEXT, and what ends them.
-/
namespace Sys2Proof.Machine

/-! ## A change of one context -/

/-- `u` is `s` but for context `sc`, which is now `y`, the holds of output windows, and the stamp. -/
structure State.StreamMoves (s u : State) (sc : Nat) (y : Stream) : Prop where
  state : u = { s with streams := u.streams, pack := { s.pack with outs := u.pack.outs }, hqe := { s.hqe with stamp := u.hqe.stamp } }
  own : u.stream sc = y
  other : ∀ k, k ≠ sc → u.stream k = s.stream k

section
variable {s u : State} {sc : Nat} {y : Stream}

theorem State.StreamMoves.refl (s : State) (sc : Nat) : s.StreamMoves s sc (s.stream sc) := ⟨rfl, rfl, fun _ _ => rfl⟩

theorem State.StreamMoves.setStream (h : s.StreamMoves u sc y) (z : Stream) : s.StreamMoves (u.setStream sc z) sc z :=
  ⟨(congrArg (fun v : State => v.setStream sc z) h.state :).trans rfl, u.stream_setStream sc z, fun k hk => (Table.get_set_ne _ _ _ _ _ hk).trans (h.other k hk)⟩

theorem State.StreamMoves.stamp (h : s.StreamMoves u sc y) : s.StreamMoves u.stamp.2 sc y :=
  ⟨(congrArg (fun v : State => v.stamp.2) h.state :).trans rfl, h.own, h.other⟩

theorem State.StreamMoves.withOuts (h : s.StreamMoves u sc y) (o : Table OutWin) : s.StreamMoves { u with pack := { u.pack with outs := o } } sc y :=
  ⟨(congrArg (fun v : State => { v with pack := { v.pack with outs := o } }) h.state :).trans rfl, h.own, h.other⟩

/-- Output windows forget a context. -/
theorem State.StreamMoves.owForget (h : s.StreamMoves u sc y) (k : Nat) : s.StreamMoves (u.owForget k) sc y :=
  List.foldlRecOn (motive := fun v => s.StreamMoves v sc y) _ _ h fun _ hv _ _ => hv.withOuts _

theorem State.StreamMoves.takeSnapshots (h : s.StreamMoves u sc y) (hsaves : y.saves = []) : s.StreamMoves (u.takeSnapshots sc) sc y := by
  have heq : u.takeSnapshots sc = u.setStream sc y := by
    rw [State.takeSnapshots, h.own, hsaves, List.foldl_nil, ← hsaves]
  rw [heq]
  exact h.setStream y

/-! ## Contexts with no buffer posted -/

theorem State.StreamMoves.restDone (h : s.StreamMoves u sc y) (hwrites : y.writes = []) (status : Nat) : s.StreamMoves (u.restDone sc status) sc y := by
  have heq : u.restDone sc status = u.setStream sc y := by
    rw [State.restDone, h.own, hwrites, List.foldl_nil, ← hwrites]
  rw [heq]
  exact h.setStream y

theorem State.StreamMoves.readsAborted (h : s.StreamMoves u sc y) (hreads : y.reads = []) : s.StreamMoves (u.readsAborted sc) sc y := by
  have heq : u.readsAborted sc = u.setStream sc y := by
    rw [State.readsAborted, h.own, hreads, List.foldl_nil, ← hreads]
  rw [heq]
  exact h.setStream y

theorem State.streamUnhold_none (h : s.StreamMoves u sc y) (hheld : y.held = false) : u.streamUnhold sc = u := by
  have hheld : (u.stream sc).held = false := by rw [h.own, hheld]
  unfold State.streamUnhold
  dsimp only
  rw [hheld]
  rfl

theorem State.headDone_none (h : s.StreamMoves u sc y) (hwrites : y.writes = []) (info status : Nat) : u.headDone sc info status = u := by
  unfold State.headDone
  dsimp only
  rw [h.own]
  split
  · rfl
  next b r hcons =>
    rw [hwrites] at hcons
    cases hcons

/-- Marks are passed, and nothing else, where no buffer is posted. -/
theorem State.StreamMoves.atOffset (h : s.StreamMoves u sc y) (hwrites : y.writes = []) :
    s.StreamMoves (u.atOffset sc) sc { y with ends := y.ends.filter (fun m => decide (y.placed < m.1)) } := by
  delta State.atOffset
  extract_lets t hit info st s1 full some_ s2
  have ht : t = y := h.own
  have h1 : s.StreamMoves s1 sc { y with ends := y.ends.filter (fun m => decide (y.placed < m.1)) } := by
    change s.StreamMoves (u.setStream sc { t with ends := t.ends.filter (fun m => decide (t.placed < m.1)) }) _ _
    rw [ht]
    exact h.setStream _
  have h2 : s2 = s1 := by
    change (if full || (info != 0 && (some_ || info % 2 == 1)) then s1.headDone sc info st else s1) = s1
    split
    · exact State.headDone_none h1 hwrites info st
    · rfl
  split
  · exact h2 ▸ h1.restDone hwrites _
  · exact h2 ▸ h1

/-- The end of a stream whose spill is empty and that has no buffer. -/
theorem State.StreamMoves.streamEnd (h : s.StreamMoves u sc y) (hwrites : y.writes = []) (hspill : y.spillN = 0) :
    ∃ e, s.StreamMoves (u.streamEnd sc) sc { y with finished := true, ends := e } := by
  have h1 : s.StreamMoves (u.setStream sc { y with finished := true }) sc { y with finished := true } := h.setStream _
  have h2 := h1.setStream { y with finished := true, ends := y.ends ++ [(y.placed + y.spillN, infoEnd, 0)] }
  have heq : u.streamEnd sc = ((u.setStream sc { y with finished := true }).setStream sc
      { y with finished := true, ends := y.ends ++ [(y.placed + y.spillN, infoEnd, 0)] }).atOffset sc := by
    rw [State.streamEnd, h.own, State.addMark, h1.own]
    exact if_pos hspill
  rw [heq]
  exact ⟨_, h2.atOffset hwrites⟩

end

/-! ## What the registers show of the streams -/

theorem quietRegs_occ : quietRegs occRegs := by
  intro o ho
  simp only [occRegs, List.mem_cons, List.mem_append, List.mem_map, List.mem_range] at ho
  rcases ho with rfl | ⟨j, hj, rfl⟩ | ⟨k, hk, rfl⟩
  · decide
  · simp only [R.hqeJob]
    omega
  · simp only [R.hqeOcc]
    omega

theorem hqeStat_notMem_occ : R.hqeStat ∉ occRegs := by decide

section
variable {s : State} {sc : Nat}

theorem State.refreshFree_regs (s : State) : s.regsOnly s.refreshFree occRegs := by
  unfold State.refreshFree
  exact (State.regsOnly.refl _ _).setFld _ _ List.mem_cons_self

theorem State.refreshOcc_regs (s : State) : s.regsOnly s.refreshOcc occRegs := by
  delta State.refreshOcc
  extract_lets op s1
  have h1 : s.regsOnly s1 occRegs := .foldl _ _ (.refl _ _) fun v j hj => (State.regsOnly.refl _ _).setFld _ _ <| by
    simp only [occRegs, List.mem_cons, List.mem_append, List.mem_map]
    exact .inr (.inl ⟨j, hj, rfl⟩)
  refine .foldl _ _ h1 fun v k hk => ?_
  have hmem : R.hqeOcc k ∈ occRegs := by
    simp only [occRegs, List.mem_cons, List.mem_append, List.mem_map]
    exact .inr (.inr ⟨k, hk, rfl⟩)
  dsimp only
  split
  · exact (State.regsOnly.refl _ _).setReg _ hmem
  · exact (State.regsOnly.refl _ _).setReg _ hmem

theorem State.refreshes_regs (s : State) : s.regsOnly s.refreshFree.refreshOcc occRegs := s.refreshFree_regs.trans s.refreshFree.refreshOcc_regs

/-- A context that is closed. -/
def Stream.closedAs (t : Stream) (st : Nat) : Stream :=
  { t with opened := false, state := st, closing := none, rows := [], ready := [], spillN := 0, ends := [], reads := [], input := [] }

theorem State.closeContext_regs (s : State) (sc st : Nat) : (s.setStream sc ((s.stream sc).closedAs st)).regsOnly (s.closeContext sc st) occRegs :=
  State.refreshes_regs _

end

/-! ## The end of a command that has changed one context -/

section
variable {s u v : State} {q : Fin 1024} {tag : BitVec 16} {c : Cmd} {x : Qp} {op sc : Nat} {y : Stream} {l : List Nat}

/-- The state with what a command has changed besides registers and the queue. -/
theorem State.StreamMoves.near (hm : (s.started q tag.toNat).StreamMoves u sc y) (hv : u.regsOnly v l) (hstat : R.hqeStat ∉ l) :
    State.CmdNear { s with streams := u.streams, pack := { s.pack with outs := u.pack.outs }, hqe := { s.hqe with stamp := u.hqe.stamp } } v l := by
  obtain ⟨hstate, hreg⟩ := hv
  have hregs : u.regs = (s.started q tag.toNat).regs := (congrArg State.regs hm.state :)
  have hstart : ∀ o, u.reg o = (s.started q tag.toNat).reg o := fun o => State.reg_of_regs _ _ hregs o
  have hs : ∀ o, o ∉ R.hqeStat :: l → v.reg o = s.reg o := fun o ho =>
    (hreg o fun h => ho (List.mem_cons_of_mem _ h)).trans ((hstart o).trans ((s.near_started q tag.toNat l).reg o ho))
  refine ⟨?_, hs, ?_⟩
  · rw [hstate]
    dsimp only
    generalize v.regs = r
    have h := hm.state
    generalize u.streams = m, u.pack.outs = p, u.hqe.stamp = n at h ⊢
    subst h
    rfl
  · exact (State.fld_of_reg ((hreg _ hstat).trans (hstart _)) _).trans State.link_started

theorem State.StreamMoves.usual (hu : s.usual) (m : Table Stream) (o : Table OutWin) (n : Nat) :
    State.usual { s with streams := m, pack := { s.pack with outs := o }, hqe := { s.hqe with stamp := n } } :=
  State.usual_of_alike (s0 := { s with streams := m, pack := { s.pack with outs := o }, hqe := { s.hqe with stamp := n } }) hu
    ⟨rfl, rfl, rfl, rfl, rfl, rfl, rfl⟩ rfl

/-- The command completes. -/
theorem State.StreamMoves.completed (h : CommandReady s q tag.toNat op c x) (hm : (s.started q tag.toNat).StreamMoves u sc y) (hv : u.regsOnly v l)
    (hl : quietRegs l) (hstat : R.hqeStat ∉ l) (r : Report) (hr : r.time = none) :
    ∃ t, t = v.complete c.qp c.tag r ∧ State.done t = .next t ∧
      Completed { s with streams := u.streams, pack := { s.pack with outs := u.pack.outs }, hqe := { s.hqe with stamp := u.hqe.stamp } } t
        q tag.toNat x c.sqHead r.r0 r.r1 r.r2 r.status r.info l ∧
      t.stream sc = y ∧ (∀ k, k ≠ sc → t.stream k = s.stream k) := by
  have hnear := hm.near hv hstat
  obtain ⟨hu, hc, -, -, hx⟩ := h
  obtain ⟨hqp, htag⟩ := State.cmdOf_names hc
  have hsame : s.QueueSame { s with streams := u.streams, pack := { s.pack with outs := u.pack.outs }, hqe := { s.hqe with stamp := u.hqe.stamp } } q :=
    .of_regs rfl rfl rfl rfl
  have hcmds : v.hqe.cmds = startedCmds q tag.toNat s.hqe.cmds := by
    rw [hv.1]
    exact (congrArg (fun t : State => t.hqe.cmds) hm.state :)
  have hu0 := State.StreamMoves.usual hu u.streams u.pack.outs u.hqe.stamp
  rw [hqp, htag]
  have hdone := hnear.completedStarted hl.vectors (hsame.plain hx) ((hsame.cmdOf tag.toNat).trans hc) hcmds r hr
  have hstreams : (v.complete q tag.toNat r).streams = u.streams := by
    obtain ⟨hstate, -⟩ := hdone
    exact (congrArg State.streams hstate :)
  have hget : ∀ k, (v.complete q tag.toNat r).stream k = u.stream k := fun k => by rw [State.stream, hstreams]; rfl
  exact ⟨_, rfl, State.done_of_completed hdone hu0 hl.ignored, hdone, (hget sc).trans hm.own, fun k hk => (hget k).trans (hm.other k hk)⟩

/-- The command stays in flight. -/
theorem State.StreamMoves.inFlight (hu : s.usual) (hm : (s.started q tag.toNat).StreamMoves u sc y) (hv : u.regsOnly v l) (hl : quietRegs l)
    (hstat : R.hqeStat ∉ l) :
    State.done v = .next v ∧
      CommandStarts { s with streams := u.streams, pack := { s.pack with outs := u.pack.outs }, hqe := { s.hqe with stamp := u.hqe.stamp } } v q tag.toNat l ∧
      v.stream sc = y ∧ (∀ k, k ≠ sc → v.stream k = s.stream k) := by
  have hnear := hm.near hv hstat
  have hcmds : v.hqe.cmds = startedCmds q tag.toNat s.hqe.cmds := by
    rw [hv.1]
    exact (congrArg (fun t : State => t.hqe.cmds) hm.state :)
  have hget : ∀ k, v.stream k = u.stream k := fun k => by rw [State.stream, hv.1]; rfl
  obtain ⟨hdone, hstarts⟩ := State.ends_inFlight (State.StreamMoves.usual hu u.streams u.pack.outs u.hqe.stamp) hnear hcmds hl
  exact ⟨hdone, hstarts, (hget sc).trans hm.own, fun k hk => (hget k).trans (hm.other k hk)⟩

/-- The reads of a command are gone with it. -/
theorem State.reads_complete (v : State) (p g : Nat) (r : Report) : (v.complete p g r).hqe.reads = v.hqe.reads := by
  have hsignal : ∀ (t : State) n, (t.signal n).hqe.reads = t.hqe.reads := fun t n => by
    unfold State.signal
    split
    · rfl
    · rfl
  unfold State.complete
  split
  · rfl
  · delta State.writeCompletion
    split
    · rfl
    · extract_lets a d7 s1 wrap x1 due s2
      have h1 : s1.hqe.reads = v.hqe.reads := by
        change ((State.hostWrite _ _ _).hostWrite _ _).hqe.reads = _
        rw [State.hostWrite_state, State.hostWrite_state]
        rfl
      have h2 : s2.hqe.reads = v.hqe.reads := h1
      split
      · exact (hsignal _ _).trans h2
      · exact h2

theorem State.dropReads_complete (h : v.hqe.reads = []) (p g : Nat) (r : Report) (ring : Bool) (p' g' : Nat) :
    (v.complete p g r).dropReads ring p' g' = v.complete p g r := State.dropReads_none ((v.reads_complete p g r).trans h) _ _ _

end

end Sys2Proof.Machine

/-!
CLOSE_STREAM, SAVE_CONTEXT, OPEN_STREAM and POST_BUFFER on one context (R314, R389, R390, R393).
-/
namespace Sys2Proof.Machine

section
variable {s : State} {q : Fin 1024} {tag : BitVec 16} {c : Cmd} {x : Qp}

/-- A command of a context that is refused. -/
theorem State.ends_refused {op : Nat} {i : Instr} {f : Cmd → State → State} (h : CommandReady s q tag.toNat op c x)
    (hexec : exec i s = State.done (s.startCmd q tag.toNat op f)) {st : Nat} (hf : f c (s.started q tag.toNat) = (s.started q tag.toNat).complete c.qp c.tag { status := st }) :
    ∃ t, exec i s = .next t ∧ Completed s t q tag.toNat x c.sqHead 0 0 0 st 0 [] := by
  rw [hexec, State.startCmd_done h, hf]
  exact State.ends_plainly h _ rfl

/-! ## CLOSE_STREAM -/

/-- What CLOSE_STREAM does to its context first. -/
def State.closing (s : State) (c : Cmd) : State :=
  let p := s.stamp
  ((p.2.takeSnapshots c.target).setStream c.target { s.stream c.target with saves := [], closing := some (c.qp, c.tag), closeStamp := p.1 }).owForget c.target

/-- CLOSE_STREAM with discard, of a context that has not failed. -/
def State.closeDiscard (s : State) (c : Cmd) : State :=
  let s2 := (((s.closing c).setStream c.target { (s.closing c).stream c.target with ends := [], spillN := 0 }).restDone c.target St.aborted).readsAborted c.target
  (s2.streamUnhold c.target).closeContext c.target 3

theorem State.closing_moves (hsaves : (s.stream c.target).saves = []) : s.StreamMoves (s.closing c) c.target
    { s.stream c.target with saves := [], closing := some (c.qp, c.tag), closeStamp := s.hqe.stamp } := by
  have h1 := ((State.StreamMoves.refl s c.target).stamp.takeSnapshots hsaves).setStream
    { s.stream c.target with saves := [], closing := some (c.qp, c.tag), closeStamp := s.stamp.1 }
  exact h1.owForget c.target

theorem State.closeDiscard_moves (hsaves : (s.stream c.target).saves = []) (hwrites : (s.stream c.target).writes = []) (hreads : (s.stream c.target).reads = [])
    (hheld : (s.stream c.target).held = false) : ∃ u y, s.StreamMoves u c.target y ∧ u.regsOnly (s.closeDiscard c) occRegs ∧
      y.opened = false ∧ y.state = 3 ∧ y.closing = none := by
  have h1 := s.closing_moves hsaves
  have h2 := ((h1.setStream { (s.closing c).stream c.target with ends := [], spillN := 0 }).restDone (by rw [h1.own]; exact hwrites) St.aborted).readsAborted
    (by rw [h1.own]; exact hreads)
  obtain ⟨s2, hs2⟩ : ∃ s2, s2 = (((s.closing c).setStream c.target { (s.closing c).stream c.target with ends := [], spillN := 0 }).restDone c.target St.aborted).readsAborted
      c.target := ⟨_, rfl⟩
  rw [← hs2] at h2
  have hclosed : s.closeDiscard c = s2.closeContext c.target 3 := by
    rw [State.closeDiscard, ← hs2, State.streamUnhold_none h2 (by rw [h1.own]; exact hheld)]
  rw [hclosed]
  exact ⟨_, _, h2.setStream ((s2.stream c.target).closedAs 3), s2.closeContext_regs c.target 3, rfl, rfl, rfl⟩

theorem State.doCloseStream_eq (hlt : c.target < 3072) (hopen : (s.stream c.target).opened = true) (hclosing : (s.stream c.target).closing = none)
    (hstate : (s.stream c.target).state = 2) :
    (c.arg 0 % 2 = 1 → s.doCloseStream c = (s.closeDiscard c).complete c.qp c.tag { r0 := (s.stream c.target).bytes }) ∧
    (c.arg 0 % 2 = 0 → (s.stream c.target).kind = 2 → s.doCloseStream c = (s.closing c).streamEnd c.target) := by
  have hbad : ¬(3072 ≤ c.target ∨ (!(s.stream c.target).opened) = true) := by
    rw [hopen]
    simpa using hlt
  have hnone : ¬(s.stream c.target).closing.isSome = true := by
    rw [hclosing]
    exact Bool.false_ne_true
  refine ⟨fun h1 => ?_, fun h0 hkind => ?_⟩
  · refine (if_neg hbad).trans ((if_neg hnone).trans ((if_pos h1).trans ?_))
    rw [State.closeDiscard, if_neg (by omega)]
    rfl
  · exact (if_neg hbad).trans ((if_neg hnone).trans ((if_neg (by omega)).trans ((if_neg (by omega)).trans ((if_neg (by omega)).trans (if_pos hkind)))))

theorem exec_closeStream (h : CommandReady s q tag.toNat 0x11 c x) :
    let sc := c.target
    let y := s.stream sc
    let refused (status : Nat) : Prop := ∃ t, exec (.closeStream q tag) s = .next t ∧ Completed s t q tag.toNat x c.sqHead 0 0 0 status 0 []
    (3072 ≤ sc ∨ y.opened = false → refused St.invalidField) ∧
    (sc < 3072 → y.opened = true → y.closing.isSome = true → refused St.contextBusy) ∧
    (sc < 3072 → y.opened = true → y.closing = none → y.saves = [] → y.writes = [] → y.reads = [] → y.held = false → y.state = 2 →
      (c.arg 0 % 2 = 1 → ∃ t, exec (.closeStream q tag) s = .next t ∧
        Completed { s with streams := t.streams, pack := t.pack, hqe := { s.hqe with stamp := t.hqe.stamp } } t q tag.toNat x c.sqHead
          y.bytes 0 0 0 0 occRegs ∧
        (t.stream sc).opened = false ∧ (t.stream sc).state = 3 ∧ (t.stream sc).closing = none ∧ (∀ k, k ≠ sc → t.stream k = s.stream k)) ∧
      (c.arg 0 % 2 = 0 → y.kind = 2 → y.ends = [] → y.spillN = 0 → ∃ t, exec (.closeStream q tag) s = .next t ∧
        CommandStarts { s with streams := t.streams, pack := t.pack, hqe := { s.hqe with stamp := t.hqe.stamp } } t q tag.toNat [] ∧
        (t.stream sc).closing = some (q.val, tag.toNat) ∧ (t.stream sc).finished = true ∧ (t.stream sc).opened = true ∧
        (∀ k, k ≠ sc → t.stream k = s.stream k))) := by
  intro sc y refused
  have hexec : exec (.closeStream q tag) s = State.done (s.startCmd q tag.toNat 0x11 (fun c s => s.doCloseStream c)) := rfl
  refine ⟨fun hbad => ?_, fun hlt hopen hbusy => ?_, fun hlt hopen hclosing hsaves hwrites hreads hheld hstate => ⟨fun h1 => ?_, fun h0 hkind _ hspill => ?_⟩⟩
  · exact State.ends_refused h hexec (if_pos (hbad.imp_right (Bool.not_eq_true' _).mpr))
  · exact State.ends_refused h hexec ((if_neg (not_or.mpr ⟨by omega, fun e => Bool.false_ne_true (((Bool.not_eq_true' _).mp e).symm.trans hopen)⟩)).trans (if_pos hbusy))
  · obtain ⟨u, z, hm, hv, hopen', hst', hclosing'⟩ := State.closeDiscard_moves (s := s.started q tag.toNat) hsaves hwrites hreads hheld
    have heq := (State.doCloseStream_eq (s := s.started q tag.toNat) hlt hopen hclosing hstate).1 h1
    obtain ⟨t, ht, hdone, hcompleted, hown, hother⟩ := hm.completed h hv quietRegs_occ hqeStat_notMem_occ { r0 := y.bytes } rfl
    have hparts := hcompleted.1
    have hstreams : t.streams = u.streams := (congrArg State.streams hparts :)
    have hpack : t.pack = { s.pack with outs := u.pack.outs } := (congrArg State.pack hparts :)
    have hstamp : t.hqe.stamp = u.hqe.stamp := (congrArg (fun v : State => v.hqe.stamp) hparts :)
    refine ⟨t, ?_, ?_, by rw [hown, hopen'], by rw [hown, hst'], by rw [hown, hclosing'], hother⟩
    · rw [hexec, State.startCmd_done h, heq, ← hdone, ht]
      rfl
    · rw [hstreams, hpack, hstamp]
      exact hcompleted
  · have h1 := State.closing_moves (s := s.started q tag.toNat) hsaves
    obtain ⟨e, hm⟩ := h1.streamEnd hwrites hspill
    have heq := (State.doCloseStream_eq (s := s.started q tag.toNat) hlt hopen hclosing hstate).2 h0 hkind
    obtain ⟨hdone, hstarts, hown, hother⟩ := hm.inFlight h.1 (State.regsOnly.refl _ []) quietRegs_nil (by simp)
    obtain ⟨hqp, htag⟩ := State.cmdOf_names h.2.1
    obtain ⟨v, hv⟩ : ∃ v, v = ((s.started q tag.toNat).closing c).streamEnd c.target := ⟨_, rfl⟩
    rw [← hv] at hdone hstarts hown hother heq
    have hpack : v.pack = { s.pack with outs := v.pack.outs } := by
      obtain ⟨hstate, -⟩ := hstarts
      exact (congrArg State.pack hstate :)
    refine ⟨v, ?_, ?_, by rw [hown, ← hqp, ← htag], by rw [hown], ?_, hother⟩
    · rw [hexec, State.startCmd_done h, heq, hdone]
    · rw [hpack]
      exact hstarts
    · rw [hown]
      exact hopen

/-! ## SAVE_CONTEXT -/

theorem exec_saveContext (h : CommandReady s q tag.toNat 0x13 c x) :
    let sc := c.target
    let y := s.stream sc
    (3072 ≤ sc ∨ y.state = 0 ∨ c.addr0 % 64 ≠ 0 → ∃ t, exec (.saveContext q tag) s = .next t ∧ Completed s t q tag.toNat x c.sqHead 0 0 0 St.invalidField 0 []) ∧
    (sc < 3072 → y.state ≠ 0 → c.addr0 % 64 = 0 → ∃ t, exec (.saveContext q tag) s = .next t ∧
      CommandStarts { s with streams := t.streams } t q tag.toNat [] ∧
      t.stream sc = { y with saves := y.saves ++ [(q.val, tag.toNat, c.addr0)] } ∧ (∀ k, k ≠ sc → t.stream k = s.stream k)) := by
  intro sc y
  have hexec : exec (.saveContext q tag) s = State.done (s.startCmd q tag.toNat 0x13 (fun c s => s.doSaveContext c)) := rfl
  refine ⟨fun hbad => State.ends_refused h hexec (if_pos hbad), fun hlt hstate haddr => ?_⟩
  obtain ⟨hqp, htag⟩ := State.cmdOf_names h.2.1
  have heq : (s.started q tag.toNat).doSaveContext c = (s.started q tag.toNat).setStream sc { y with saves := y.saves ++ [(q.val, tag.toNat, c.addr0)] } := by
    refine (if_neg (by simp only [not_or, not_not]; exact ⟨by omega, hstate, haddr⟩)).trans ?_
    rw [hqp, htag]
    rfl
  have hm := (State.StreamMoves.refl (s.started q tag.toNat) sc).setStream { y with saves := y.saves ++ [(q.val, tag.toNat, c.addr0)] }
  obtain ⟨hdone, hstarts, hown, hother⟩ := hm.inFlight h.1 (State.regsOnly.refl _ []) quietRegs_nil (by simp)
  exact ⟨_, by rw [hexec, State.startCmd_done h, heq, hdone], hstarts, hown, hother⟩

/-! ## OPEN_STREAM and RESTORE_CONTEXT -/

/-- What a context is once it has been opened. -/
def State.opening (s : State) (c : Cmd) (y : Stream) : State := ((s.setStream c.target y).refreshFree).refreshOcc

theorem State.opening_moves (y : Stream) : s.StreamMoves (s.setStream c.target y) c.target y ∧ (s.setStream c.target y).regsOnly (s.opening c y) occRegs :=
  ⟨(State.StreamMoves.refl s c.target).setStream y, State.refreshes_regs _⟩

/-- A command that reads the host and changes one context completes. -/
theorem State.ends_opening {op : Nat} {i : Instr} {f : Cmd → List Byte → State → State} {d : List Byte} (h : CommandReady s q tag.toNat op c x)
    (hexec : exec i s = State.done (s.startWith q tag.toNat op d f)) (y : Stream)
    (hf : f c d (s.started q tag.toNat) = ((s.started q tag.toNat).opening c y).complete c.qp c.tag {}) :
    ∃ t, exec i s = .next t ∧ Completed { s with streams := t.streams } t q tag.toNat x c.sqHead 0 0 0 0 0 occRegs ∧ t.stream c.target = y ∧
      (∀ k, k ≠ c.target → t.stream k = s.stream k) := by
  obtain ⟨hm, hv⟩ := State.opening_moves (s := s.started q tag.toNat) (c := c) y
  obtain ⟨t, ht, hdone, hcompleted, hown, hother⟩ := hm.completed h hv quietRegs_occ hqeStat_notMem_occ {} rfl
  have hstreams : t.streams = ((s.started q tag.toNat).setStream c.target y).streams := by
    obtain ⟨hstate, -⟩ := hcompleted
    exact (congrArg State.streams hstate :)
  have hreads : ((s.started q tag.toNat).opening c y).hqe.reads = [] := by
    obtain ⟨-, -, -, -, -, -, -, -, -, -, hreads⟩ := h
    rw [hv.1]
    exact hreads
  refine ⟨t, ?_, by rw [hstreams]; exact hcompleted, hown, hother⟩
  rw [hexec, State.startWith_ready h, hf, State.dropReads_complete hreads, ← ht, hdone]

/-- A command that reads the host is refused. -/
theorem State.ends_refusedWith {op : Nat} {i : Instr} {f : Cmd → List Byte → State → State} {d : List Byte} (h : CommandReady s q tag.toNat op c x)
    (hexec : exec i s = State.done (s.startWith q tag.toNat op d f)) {st : Nat}
    (hf : f c d (s.started q tag.toNat) = (s.started q tag.toNat).complete c.qp c.tag { status := st }) :
    ∃ t, exec i s = .next t ∧ Completed s t q tag.toNat x c.sqHead 0 0 0 st 0 [] := by
  have hreads : (s.started q tag.toNat).hqe.reads = [] := by
    obtain ⟨-, -, -, -, -, -, -, -, -, -, hreads⟩ := h
    exact hreads
  rw [hexec, State.startWith_ready h, hf, State.dropReads_complete hreads]
  exact State.ends_plainly h _ rfl

theorem State.freeUnits_started : (s.started q tag.toNat).freeUnits = s.freeUnits := by
  have hopen : (s.started q tag.toNat).openStreams = s.openStreams := rfl
  have hunits : (s.started q tag.toNat).spillUnits = s.spillUnits := by
    rw [State.spillUnits, State.spillUnits, State.fld_started (by decide)]
  rw [State.freeUnits, State.freeUnits, hopen, hunits]
  rfl

theorem blockStream_quota (b : List Byte) : (blockStream b).quota = fieldAt b 0x38 4 := by
  rw [blockStream]
  split
  · rfl
  · rfl

theorem exec_openStream (block : List Byte) (h : CommandReady s q tag.toNat 0x10 c x) :
    let sc := c.target
    let y := s.stream sc
    let refused (status : Nat) : Prop := ∃ t, exec (.openStream q tag block) s = .next t ∧ Completed s t q tag.toNat x c.sqHead 0 0 0 status 0 []
    (sc < 3072 → y.state = 1 ∨ y.state = 2 ∨ y.state = 4 → refused St.contextBusy) ∧
    (3072 ≤ sc ∨ (s.hqe.scrubs = [] ∧ (y.state = 0 ∨ y.state = 3) ∧ blockOk block = false) → refused St.invalidField) ∧
    (sc < 3072 → s.hqe.scrubs = [] → y.state = 0 ∨ y.state = 3 → blockOk block = true →
      let quota := fieldAt block 0x38 4
      (s.fld R.hqeSpillFree F.hqeSpillFree.UNITS < quota → refused St.noResource) ∧
      (quota ≤ s.fld R.hqeSpillFree F.hqeSpillFree.UNITS → fieldAt block 0 1 ≠ 0 → ∃ t, exec (.openStream q tag block) s = .next t ∧
        Completed { s with streams := t.streams } t q tag.toNat x c.sqHead 0 0 0 0 0 occRegs ∧ (t.stream sc).opened = true ∧
        (t.stream sc).state = 2 ∧ (t.stream sc).kind = fieldAt block 0 1 ∧ (t.stream sc).job = fieldAt block 0xF 1 ∧
        (t.stream sc).quota = quota ∧ (t.stream sc).units = s.freeUnits.take quota ∧ (∀ k, k ≠ sc → t.stream k = s.stream k))) := by
  intro sc y refused
  have hexec : exec (.openStream q tag block) s = State.done (s.startWith q tag.toNat 0x10 block (fun c d s => s.doOpenStream c d)) := rfl
  have hfree : (s.started q tag.toNat).fld R.hqeSpillFree F.hqeSpillFree.UNITS = s.fld R.hqeSpillFree F.hqeSpillFree.UNITS := State.fld_started (by decide) _
  have hnobusy : s.hqe.scrubs = [] → y.state = 0 ∨ y.state = 3 →
      ¬(sc < 3072 ∧ ((y.state ≠ 0 ∧ y.state ≠ 3) ∨ s.hqe.scrubs.contains (blockStream block).job = true)) := fun hscrubs hstate ⟨_, hbusy⟩ => by
    rw [hscrubs] at hbusy
    rcases hbusy with hbusy | hbusy
    · omega
    · exact Bool.false_ne_true hbusy
  refine ⟨fun hlt hbusy => ?_, fun hbad => ?_, fun hlt hscrubs hstate hok => ⟨fun hfew => ?_, fun hroom hkind => ?_⟩⟩
  · exact State.ends_refusedWith h hexec (if_pos ⟨hlt, .inl (show y.state ≠ 0 ∧ y.state ≠ 3 by omega)⟩)
  · refine State.ends_refusedWith h hexec ((if_neg ?_).trans (if_pos (hbad.imp_right fun e => (Bool.not_eq_true' _).mpr e.2.2)))
    rcases hbad with hge | ⟨hscrubs, hstate, -⟩
    · exact fun e => absurd e.1 (by omega)
    · exact hnobusy hscrubs hstate
  · have hbad : ¬(3072 ≤ sc ∨ (!blockOk block) = true) := not_or.mpr ⟨by omega, by rw [hok]; exact Bool.false_ne_true⟩
    exact State.ends_refusedWith h hexec ((if_neg (hnobusy hscrubs hstate)).trans ((if_neg hbad).trans (if_pos (by rw [hfree, blockStream_quota]; exact hfew))))
  · have hbad : ¬(3072 ≤ sc ∨ (!blockOk block) = true) := not_or.mpr ⟨by omega, by rw [hok]; exact Bool.false_ne_true⟩
    have heq : (s.started q tag.toNat).doOpenStream c block =
        ((s.started q tag.toNat).opening c ((s.started q tag.toNat).allot (blockStream block))).complete c.qp c.tag {} := by
      refine (if_neg (hnobusy hscrubs hstate)).trans ((if_neg hbad).trans ((if_neg (by rw [hfree, blockStream_quota]; exact not_lt.mpr hroom)).trans ?_))
      have hk : ¬(blockStream block).kind = 0 := by
        rw [blockStream]
        split
        · contradiction
        · exact hkind
      rw [if_neg hk]
      rfl
    obtain ⟨t, hdone, hcompleted, hown, hother⟩ := State.ends_opening h hexec _ heq
    have hblock : blockStream block = _ := if_neg hkind
    refine ⟨t, hdone, hcompleted, ?_, ?_, ?_, ?_, ?_, ?_, hother⟩
    · rw [hown, State.allot, hblock]
    · rw [hown, State.allot, hblock]
      exact if_neg hkind
    · rw [hown, State.allot, hblock]
    · rw [hown, State.allot, hblock]
    · rw [hown, State.allot, hblock]
    · rw [hown, State.allot, hblock, State.freeUnits_started]

end

end Sys2Proof.Machine

/-!
POST_BUFFER and RESTORE_CONTEXT, and what ends SAVE_CONTEXT and CLOSE_STREAM (R314, R315, R390, R393).
-/
namespace Sys2Proof.Machine

section
variable {s : State} {q : Fin 1024} {tag : BitVec 16} {c : Cmd} {x : Qp}

/-! ## POST_BUFFER -/

/-- The one buffer that a POST_BUFFER without a scatter list posts. -/
def Cmd.posted (c : Cmd) (q tag : Nat) : Posted :=
  { qp := q, tag := tag, segs := [(c.addr0, c.arg 0)], size := c.arg 0, last := (c.arg 1).testBit 1 }

/-- Why a POST_BUFFER of one segment is refused. -/
def Cmd.postBad (c : Cmd) (y : Stream) : Prop :=
  3072 ≤ c.target ∨ y.opened = false ∨ ((c.arg 1).testBit 0 = true ∧ y.kind ≠ 1) ∨ c.addr0 % 64 ≠ 0 ∨ c.arg 0 % 64 ≠ 0

/-- A POST_BUFFER of one segment (R390). -/
theorem State.doPostBuffer_eq (hsgl : c.sgl = false) (sgl : List SgElem) :
    (c.postBad (s.stream c.target) → s.doPostBuffer c sgl = s.complete c.qp c.tag { status := St.invalidField }) ∧
    (¬c.postBad (s.stream c.target) → (c.arg 1).testBit 0 = false → (s.stream c.target).state ≠ 4 → (s.stream c.target).finished = false →
      s.doPostBuffer c sgl = ((s.setStream c.target { s.stream c.target with writes := (s.stream c.target).writes ++ [c.posted c.qp c.tag] }).atOffset
        c.target).drainAll c.target) ∧
    (¬c.postBad (s.stream c.target) → (c.arg 1).testBit 0 = true → (s.stream c.target).state ≠ 4 → (s.stream c.target).reads = [] →
      s.doPostBuffer c sgl = s.stamp.2.setStream c.target { s.stream c.target with
        reads := [{ c.posted c.qp c.tag with first := (s.stream c.target).bytes + (s.stream c.target).input.length }], closeStamp := s.hqe.stamp }) := by
  have hbad : (3072 ≤ c.target ∨ (!(s.stream c.target).opened) = true ∨ ((c.arg 1).testBit 0 = true ∧ (s.stream c.target).kind ≠ 1) ∨
      ((!c.sgl) = true ∧ (c.addr0 % 64 ≠ 0 ∨ c.arg 0 % 64 ≠ 0)) ∨ (c.sgl = true ∧ c.arg 0 ≠ 0)) ↔ c.postBad (s.stream c.target) := by
    rw [Cmd.postBad, hsgl]
    simp
  have hsize : [(c.addr0, c.arg 0)].foldl (fun a g => a + g.2) 0 = c.arg 0 := Nat.zero_add _
  delta State.doPostBuffer
  extract_lets +onlyGivenNames sc t reads list
  have hlist : list = .ok [(c.addr0, c.arg 0)] := if_neg (by rw [hsgl]; exact Bool.false_ne_true)
  clear_value list
  subst hlist
  dsimp -zeta only
  extract_lets +onlyGivenNames size b
  have hb : b = c.posted c.qp c.tag := by
    change ({ qp := c.qp, tag := c.tag, segs := [(c.addr0, c.arg 0)], size := size, last := (c.arg 1).testBit 1 } : Posted) = _
    rw [show size = c.arg 0 from hsize]
    rfl
  refine ⟨fun h => if_pos (hbad.mpr h), fun h hreads hstate hfin => ?_, fun h hreads hstate hnone => ?_⟩
  · refine (if_neg (mt hbad.mp h)).trans ((if_neg (by rw [show reads = false from hreads]; exact Bool.false_ne_true)).trans
      ((if_neg fun e => hstate e.1).trans ((if_neg fun e => ?_).trans (by rw [hb]))))
    rw [show t.finished = false from hfin] at e
    exact Bool.false_ne_true e.1
  · refine (if_neg (mt hbad.mp h)).trans ((if_pos hreads).trans ((if_neg hstate).trans ?_))
    have ht : t.reads = [] := hnone
    rw [hb, ht]
    rfl

/-- A buffer that is posted to a stream with nothing to place. -/
theorem State.posted_moves (b : Posted) (hb : 0 < b.size) (hused : b.used = 0) (hwrites : (s.stream c.target).writes = []) (hends : (s.stream c.target).ends = [])
    (hspill : (s.stream c.target).spillN = 0) :
    ∃ u, s.StreamMoves u c.target { s.stream c.target with writes := [b] } ∧
      u.regsOnly (((s.setStream c.target { s.stream c.target with writes := (s.stream c.target).writes ++ [b] }).atOffset c.target).drainAll c.target) occRegs ∧
      u.pack = s.pack ∧ u.hqe = s.hqe := by
  rw [hwrites, List.nil_append]
  obtain ⟨z, hz⟩ : ∃ z, z = { s.stream c.target with writes := [b] } := ⟨_, rfl⟩
  have hzwrites : z.writes = [b] := by rw [hz]
  have hzends : z.ends = [] := by rw [hz, ← hends]
  have hzspill : z.spillN = 0 := by rw [hz, ← hspill]
  rw [← hz]
  obtain ⟨u, hu⟩ : ∃ u, u = s.setStream c.target z := ⟨_, rfl⟩
  have hm : s.StreamMoves u c.target z := hu ▸ (State.StreamMoves.refl s c.target).setStream z
  have hat : u.atOffset c.target = u.setStream c.target z := by
    delta State.atOffset
    extract_lets t hit info st s1 full some_ s2
    have ht : t = z := hm.own
    have hhit : hit = [] := by
      change t.marksHere = []
      rw [ht, Stream.marksHere, hzends]
      rfl
    have hinfo : info = 0 := by
      change marksInfo hit = 0
      rw [hhit]
      rfl
    have hfull : full = false := by
      change (match t.writes with | b :: _ => decide (b.size ≤ b.used) | [] => false) = false
      rw [ht, hzwrites]
      exact decide_eq_false (by rw [hused]; omega)
    have hs1 : s1 = u.setStream c.target z := by
      change u.setStream c.target { t with ends := t.ends.filter (fun m => decide (t.placed < m.1)) } = _
      rw [ht, hzends, List.filter_nil, ← hzends]
    have hs2 : s2 = s1 := if_neg (by rw [hfull, hinfo]; simp)
    rw [if_neg (by rw [hinfo]; decide), hs2, hs1]
  have hm2 : s.StreamMoves (u.setStream c.target z) c.target z := hm.setStream _
  have hdrain : (u.setStream c.target z).drainAll c.target = (u.setStream c.target z).refreshOcc := by
    rw [State.drainAll, hm2.own, hzspill, State.drain, hm2.own]
    exact congrArg State.refreshOcc (if_pos (.inl hzspill))
  refine ⟨_, hm2, ?_, by rw [hu]; rfl, by rw [hu]; rfl⟩
  rw [← hu, hat, hdrain]
  exact State.refreshOcc_regs _

theorem exec_postBuffer (sgl : List SgElem) (h : CommandReady s q tag.toNat 0x12 c x) (hsgl : c.sgl = false) :
    let sc := c.target
    let y := s.stream sc
    let reads := (c.arg 1).testBit 0
    let bad := 3072 ≤ sc ∨ y.opened = false ∨ (reads = true ∧ y.kind ≠ 1) ∨ c.addr0 % 64 ≠ 0 ∨ c.arg 0 % 64 ≠ 0
    let b : Posted := { qp := q, tag := tag.toNat, segs := [(c.addr0, c.arg 0)], size := c.arg 0, last := (c.arg 1).testBit 1 }
    (bad → ∃ t, exec (.postBuffer q tag sgl) s = .next t ∧ Completed s t q tag.toNat x c.sqHead 0 0 0 St.invalidField 0 []) ∧
    (¬bad → reads = false → 0 < c.arg 0 → y.state ≠ 4 → y.finished = false → y.writes = [] → y.spillN = 0 → y.ends = [] →
      ∃ t, exec (.postBuffer q tag sgl) s = .next t ∧ CommandStarts { s with streams := t.streams } t q tag.toNat occRegs ∧
        t.stream sc = { y with writes := [b] } ∧ (∀ k, k ≠ sc → t.stream k = s.stream k)) ∧
    (¬bad → reads = true → y.state ≠ 4 → y.reads = [] → ∃ t, exec (.postBuffer q tag sgl) s = .next t ∧
      CommandStarts { s with streams := t.streams, hqe := { s.hqe with stamp := s.hqe.stamp + 1 } } t q tag.toNat [] ∧
      t.stream sc = { y with reads := [{ b with first := y.bytes + y.input.length }], closeStamp := s.hqe.stamp } ∧
      (∀ k, k ≠ sc → t.stream k = s.stream k)) := by
  intro sc y reads bad b
  have hexec : exec (.postBuffer q tag sgl) s = State.done (s.startCmd q tag.toNat 0x12 (fun c s => s.doPostBuffer c sgl)) := rfl
  obtain ⟨hrefused, hwrite, hread⟩ := State.doPostBuffer_eq (s := s.started q tag.toNat) hsgl sgl
  obtain ⟨hqp, htag⟩ := State.cmdOf_names h.2.1
  have hb : c.posted c.qp c.tag = b := by
    rw [hqp, htag]
    rfl
  rw [hb] at hwrite hread
  refine ⟨fun hbad => State.ends_refused h hexec (hrefused hbad), fun hgood hr hsize hstate hfin hwrites hspill hends => ?_, fun hgood hr hstate hnone => ?_⟩
  · obtain ⟨u, hm, hv, hpack, hhqe⟩ := State.posted_moves (s := s.started q tag.toNat) (c := c) b hsize rfl hwrites hends hspill
    rw [← hwrite hgood hr hstate hfin] at hv
    obtain ⟨hdone, hstarts, hown, hother⟩ := hm.inFlight h.1 hv quietRegs_occ hqeStat_notMem_occ
    obtain ⟨v, hvdef⟩ : ∃ v, v = (s.started q tag.toNat).doPostBuffer c sgl := ⟨_, rfl⟩
    rw [← hvdef] at hv hdone hstarts hown hother
    have hstreams : v.streams = u.streams := (congrArg State.streams hv.1 :)
    refine ⟨v, by rw [hexec, State.startCmd_done h, ← hvdef, hdone], ?_, hown, hother⟩
    rw [hstreams]
    rw [hpack, hhqe] at hstarts
    exact hstarts
  · have hm := (State.StreamMoves.refl (s.started q tag.toNat) sc).stamp.setStream
      { y with reads := [{ b with first := y.bytes + y.input.length }], closeStamp := s.hqe.stamp }
    obtain ⟨hdone, hstarts, hown, hother⟩ := hm.inFlight h.1 (State.regsOnly.refl _ []) quietRegs_nil (by simp)
    refine ⟨_, ?_, hstarts, hown, hother⟩
    rw [hexec, State.startCmd_done h, hread hgood hr hstate hnone]
    exact hdone

/-! ## RESTORE_CONTEXT -/

theorem State.boundStreams_started : (s.started q tag.toNat).boundStreams = s.boundStreams := by
  refine List.filterMap_congr fun n hn => ?_
  have hlt := List.mem_range.mp hn
  have hfld : ∀ f, (s.started q tag.toNat).fld (R.tcxLane n) f = s.fld (R.tcxLane n) f := fun f =>
    State.fld_started (by simp only [R.tcxLane, R.hqeStat]; omega) f
  have hbit : (s.started q tag.toNat).bit (R.tcxLane n) F.tcxLane.ACT = s.bit (R.tcxLane n) F.tcxLane.ACT := by rw [State.bit, hfld, State.bit]
  rw [hbit, hfld]

theorem exec_restoreContext (image : List Byte) (h : CommandReady s q tag.toNat 0x14 c x) (hbound : s.boundStreams = []) :
    let sc := c.target
    let y := s.stream sc
    let refused (status : Nat) : Prop := ∃ t, exec (.restoreContext q tag image) s = .next t ∧ Completed s t q tag.toNat x c.sqHead 0 0 0 status 0 []
    (sc < 3072 → y.opened = true ∨ (y.state ≠ 0 ∧ y.state ≠ 3) → refused St.contextBusy) ∧
    (sc < 3072 → y.opened = false → y.state = 0 ∨ y.state = 3 →
      (Stream.ofRecord image = none → refused St.invalidField) ∧
      (∀ y0, Stream.ofRecord image = some y0 → y0.state = 3 → 0 < c.arg 0 → c.arg 0 ≤ 32768 →
        c.arg 0 ≤ s.fld R.hqeSpillFree F.hqeSpillFree.UNITS → ∃ t, exec (.restoreContext q tag image) s = .next t ∧
        Completed { s with streams := t.streams } t q tag.toNat x c.sqHead 0 0 0 0 0 occRegs ∧
        t.stream sc = { y0 with kind := 0, quota := 0, job := bitsOf (c.arg 1) 0 4, opened := false, placed := y0.bytes })) := by
  intro sc y refused
  have hexec : exec (.restoreContext q tag image) s = State.done (s.startWith q tag.toNat 0x14 image (fun c d s => s.doRestoreContext c d)) := rfl
  have hfree : (s.started q tag.toNat).fld R.hqeSpillFree F.hqeSpillFree.UNITS = s.fld R.hqeSpillFree F.hqeSpillFree.UNITS := State.fld_started (by decide) _
  have hidle : y.opened = false → y.state = 0 ∨ y.state = 3 →
      ¬(sc < 3072 ∧ (y.opened = true ∨ (s.started q tag.toNat).boundStreams.contains sc = true ∨ (y.state ≠ 0 ∧ y.state ≠ 3))) := fun hopen hstate ⟨_, hbusy⟩ => by
    rw [hopen, State.boundStreams_started, hbound] at hbusy
    rcases hbusy with hbusy | hbusy | hbusy
    · exact Bool.false_ne_true hbusy
    · exact Bool.false_ne_true hbusy
    · omega
  refine ⟨fun hlt hbusy => ?_, fun hlt hopen hstate => ⟨fun hnone => ?_, fun y0 hy0 hst hpos hle hroom => ?_⟩⟩
  · exact State.ends_refusedWith h hexec (if_pos ⟨hlt, hbusy.imp_right .inr⟩)
  · refine State.ends_refusedWith h hexec ((if_neg (hidle hopen hstate)).trans ?_)
    rw [hnone]
    rfl
  · have heq : (s.started q tag.toNat).doRestoreContext c image = ((s.started q tag.toNat).opening c
        { y0 with kind := 0, quota := 0, job := bitsOf (c.arg 1) 0 4, opened := false, placed := y0.bytes }).complete c.qp c.tag {} := by
      refine (if_neg (hidle hopen hstate)).trans ?_
      rw [hy0]
      dsimp only
      have hlive : (y0.state == 1 || y0.state == 2) = false := by rw [hst]; rfl
      have hlow : ¬(s.started q tag.toNat).fld R.hqeSpillFree F.hqeSpillFree.UNITS < c.arg 0 := by rw [hfree]; exact not_lt.mpr hroom
      have hbad : ¬(3072 ≤ c.target ∨ c.arg 0 = 0 ∨ 32768 < c.arg 0) := by
        have : c.target < 3072 := hlt
        omega
      rw [if_neg hbad, if_neg hlow, hlive, if_neg Bool.false_ne_true, if_neg Bool.false_ne_true, if_neg (by rw [hst]; decide)]
      rfl
    obtain ⟨t, hdone, hcompleted, hown, -⟩ := State.ends_opening h hexec _ heq
    exact ⟨t, hdone, hcompleted, hown⟩

/-! ## What completes SAVE_CONTEXT and CLOSE_STREAM -/

theorem exec_contextSnapshot (sc : Fin 3072) (hu : s.usual) :
    (∀ a, PlainQueue s q x → s.cmdOf q tag.toNat = some c → (s.stream sc).saves = [(q.val, tag.toNat, a)] →
      ∃ t m, exec (.contextSnapshot sc) s = .next t ∧
        Completed { s with streams := t.streams, hostMem := m } t q tag.toNat x c.sqHead 0 0 0 0 0 [] ∧
        hostAt { s with hostMem := m } a ((s.stream sc).record sc).length = (s.stream sc).record sc ∧
        t.stream sc = { s.stream sc with saves := [] } ∧ (∀ k, k ≠ sc.val → t.stream k = s.stream k)) ∧
    ((s.stream sc).saves = [] → exec (.contextSnapshot sc) s = .next s) := by
  have hexec : exec (.contextSnapshot sc) s = State.done (if (s.stream sc).saves.isEmpty then s else s.takeSnapshots sc) := rfl
  rw [hexec]
  refine ⟨fun a hx hc hsaves => ?_, fun hsaves => ?_⟩
  · obtain ⟨rec, hrec⟩ : ∃ rec, rec = (s.stream sc).record sc := ⟨_, rfl⟩
    have hheq : s.takeSnapshots sc = ((s.setStream sc { s.stream sc with saves := [] }).hostWrite a rec).complete q tag.toNat {} := by
      rw [State.takeSnapshots, hsaves, List.foldl_cons, List.foldl_nil, hrec]
      rfl
    rw [if_neg (by rw [hsaves]; exact Bool.false_ne_true), hheq, State.hostWrite_state, ← hrec]
    obtain ⟨m, hm⟩ : ∃ m, m = hostWritten s.hostMem a rec := ⟨_, rfl⟩
    obtain ⟨l, hl⟩ : ∃ l, l = (s.setStream sc { s.stream sc with saves := [] }).streams := ⟨_, rfl⟩
    have hstate : ({ s.setStream sc { s.stream sc with saves := [] } with hostMem := hostWritten (s.setStream sc { s.stream sc with saves := [] }).hostMem a rec } : State) =
        { s with streams := l, hostMem := m } := by
      rw [hl, hm]
      rfl
    rw [hstate]
    have hsame : s.QueueSame { s with streams := l, hostMem := m } q := .of_regs rfl rfl rfl rfl
    obtain ⟨t, hdone, hcompleted⟩ := State.ends_completed
      (State.usual_of_alike (s0 := { s with streams := l, hostMem := m }) hu ⟨rfl, rfl, rfl, rfl, rfl, rfl, rfl⟩ rfl) (hsame.plain hx) ((hsame.cmdOf _).trans hc)
      (.refl _ []) rfl quietRegs_nil {} rfl
    have hstreams : t.streams = l := by
      obtain ⟨hstate, -⟩ := hcompleted
      exact (congrArg State.streams hstate :)
    refine ⟨t, m, hdone, by rw [hstreams]; exact hcompleted, hostAt_written_all (s := s) hm, ?_, fun k hk => ?_⟩
    · rw [State.stream, hstreams, hl]
      exact State.stream_setStream _ _ _
    · rw [State.stream, hstreams, hl]
      exact Table.get_set_ne _ _ _ _ _ hk
  · rw [if_pos (by rw [hsaves]; rfl)]
    exact State.done_of_usual hu

theorem exec_closeStreamComplete (sc : Fin 3072) (hu : s.usual) :
    ((s.stream sc).closing = none → exec (.closeStreamComplete sc) s = .next s) ∧
    (PlainQueue s q x → s.cmdOf q tag.toNat = some c → (s.stream sc).closing = some (q.val, tag.toNat) → (s.stream sc).finished = true →
      (s.stream sc).spillN = 0 → (s.stream sc).writes = [] → (s.stream sc).state ≠ 4 →
      ∃ t, exec (.closeStreamComplete sc) s = .next t ∧
        Completed { s with streams := t.streams } t q tag.toNat x c.sqHead (s.stream sc).bytes (s.stream sc).endCrc 0 0 0 occRegs ∧
        (t.stream sc).opened = false ∧ (t.stream sc).state = 3 ∧ (∀ k, k ≠ sc.val → t.stream k = s.stream k)) := by
  have hexec : exec (.closeStreamComplete sc) s = State.done (s.tryClose sc) := rfl
  rw [hexec]
  refine ⟨fun hnone => ?_, fun hx hc hclosing hfin hspill hwrites hstate => ?_⟩
  · have heq : s.tryClose sc = s := by rw [State.tryClose, hnone]
    rw [heq]
    exact State.done_of_usual hu
  · have heq : s.tryClose sc = (s.closeContext sc 3).complete q tag.toNat { r0 := (s.stream sc).bytes, r1 := (s.stream sc).endCrc } := by
      rw [State.tryClose, hclosing]
      dsimp only
      rw [hfin, hspill, hwrites]
      exact if_pos (by simpa using hstate)
    have hregsOnly := s.closeContext_regs sc 3
    obtain ⟨l, hl⟩ : ∃ l, l = (s.setStream sc ((s.stream sc).closedAs 3)).streams := ⟨_, rfl⟩
    have hstate0 : s.setStream sc ((s.stream sc).closedAs 3) = { s with streams := l } := by rw [hl]; rfl
    rw [hstate0] at hregsOnly
    obtain ⟨hregs, hreg⟩ := hregsOnly
    have hnear : State.CmdNear { s with streams := l } (s.closeContext sc 3) occRegs := by
      refine ⟨?_, fun o ho => hreg o fun e => ho (List.mem_cons_of_mem _ e), State.fld_of_reg (hreg _ hqeStat_notMem_occ) _⟩
      rw [hregs]
    have hsame : s.QueueSame { s with streams := l } q := .of_regs rfl rfl rfl rfl
    obtain ⟨t, hdone, hcompleted⟩ := State.ends_completed
      (State.usual_of_alike (s0 := { s with streams := l }) hu ⟨rfl, rfl, rfl, rfl, rfl, rfl, rfl⟩ rfl) (hsame.plain hx) ((hsame.cmdOf _).trans hc)
      hnear (by rw [hregs]) quietRegs_occ { r0 := (s.stream sc).bytes, r1 := (s.stream sc).endCrc } rfl
    have hstreams : t.streams = l := by
      obtain ⟨hstate, -⟩ := hcompleted
      exact (congrArg State.streams hstate :)
    have hget : ∀ k, t.stream k = (s.setStream sc ((s.stream sc).closedAs 3)).stream k := fun k => by
      rw [State.stream, hstreams, hl]
      rfl
    refine ⟨t, by rw [heq, hdone], by rw [hstreams]; exact hcompleted, ?_, ?_, fun k hk => ?_⟩
    · rw [hget, State.stream_setStream]
      rfl
    · rw [hget, State.stream_setStream]
      rfl
    · exact (hget k).trans (((State.StreamMoves.refl s sc).setStream _).other k hk)

end

end Sys2Proof.Machine

/-!
SCAN_JOB, SET_GAIT_POLICY, READ_AUX and TRANSPORT (R387, R394, Table 11-6).
-/
namespace Sys2Proof.Machine

section
variable {s : State} {q : Fin 1024} {tag : BitVec 16} {c : Cmd} {x : Qp}

theorem bitsOf_lt (v lo n : Nat) : bitsOf v lo n < 2 ^ n := Nat.mod_lt _ (Nat.two_pow_pos n)

/-- A change of registers besides HQE.STAT. -/
theorem State.regsOnly.near {u v : State} {l : List Nat} (h : u.regsOnly v l) (hstat : R.hqeStat ∉ l) : u.CmdNear v l := by
  have hhqe : v.hqe = u.hqe := (congrArg State.hqe h.1 :)
  exact ⟨by rw [hhqe]; exact h.1, fun o ho => h.2 o fun e => ho (List.mem_cons_of_mem _ e), h.fld hstat _⟩

/-! ## SCAN_JOB -/

/-- The registers that show a job that runs, and the JOB word of its track. -/
def State.jobShown (s : State) (slot k v : Nat) : State :=
  ((((s.setFld (R.hqeJob slot) F.hqeJob.PATH k).setFld (R.hqeJob slot) F.hqeJob.BOUND 1).setFld (R.hqeJob slot) F.hqeJob.RUN 1).refreshOcc).setReg
    (R.trkJob 0) (BitVec.ofNat 32 v)

theorem hqeJob_mem_occ {slot : Nat} (h : slot < 16) : R.hqeJob slot ∈ occRegs := by
  simp only [occRegs, List.mem_cons, List.mem_append, List.mem_map, List.mem_range]
  exact .inr (.inl ⟨slot, h, rfl⟩)

/-- What HQE.JOB shows of a job besides its streams stays where occupancies are shown. -/
theorem State.fld_refreshOcc_job (u : State) {slot : Nat} (h : slot < 16) (f : Fld) (hf : f.lo + f.width ≤ 32)
    (hapart : f.lo + f.width ≤ F.hqeJob.STREAMS.lo ∨ F.hqeJob.STREAMS.lo + F.hqeJob.STREAMS.width ≤ f.lo) :
    u.refreshOcc.fld (R.hqeJob slot) f = u.fld (R.hqeJob slot) f := by
  delta State.refreshOcc
  extract_lets op s1
  have h1 : s1.fld (R.hqeJob slot) f = u.fld (R.hqeJob slot) f :=
    List.foldlRecOn (motive := fun v : State => v.fld (R.hqeJob slot) f = u.fld (R.hqeJob slot) f) _ _ rfl fun v hv j _ => by
      rw [← hv]
      by_cases hj : j = slot
      · rw [hj]
        exact State.fld_setFld_apart _ _ F.hqeJob.STREAMS f _ (by decide) hf hapart
      · exact State.fld_setFld_ne _ _ _ _ _ _ (by simp only [R.hqeJob]; omega)
  refine List.foldlRecOn (motive := fun v : State => v.fld (R.hqeJob slot) f = u.fld (R.hqeJob slot) f) _ _ h1 fun v hv k hk => ?_
  have hk := List.mem_range.mp hk
  have hne : R.hqeJob slot ≠ R.hqeOcc k := by
    simp only [R.hqeJob, R.hqeOcc]
    omega
  rw [← hv]
  dsimp only
  split
  · exact State.fld_setReg_ne _ _ _ _ _ hne
  · exact State.fld_setReg_ne _ _ _ _ _ hne

theorem State.jobShown_spec (u : State) {slot k : Nat} (h : slot < 16) (hk : k < 4) (v : Nat) :
    u.regsOnly (u.jobShown slot k v) (R.trkJob 0 :: occRegs) ∧ (u.jobShown slot k v).fld (R.hqeJob slot) F.hqeJob.RUN = 1 ∧
    (u.jobShown slot k v).fld (R.hqeJob slot) F.hqeJob.BOUND = 1 ∧ (u.jobShown slot k v).fld (R.hqeJob slot) F.hqeJob.PATH = k ∧
    (u.jobShown slot k v).reg (R.trkJob 0) = BitVec.ofNat 32 v := by
  have hmem : R.hqeJob slot ∈ R.trkJob 0 :: occRegs := List.mem_cons_of_mem _ (hqeJob_mem_occ h)
  have hne : R.hqeJob slot ≠ R.trkJob 0 := by
    simp only [R.hqeJob, R.trkJob]
    omega
  refine ⟨?_, ?_, ?_, ?_, State.reg_setReg_same _ _ _⟩
  · exact (((((State.regsOnly.refl u _).setFld _ _ hmem).setFld _ _ hmem).setFld _ _ hmem).trans ((State.refreshOcc_regs _).mono (List.subset_cons_self _ _))).setReg _
      List.mem_cons_self
  · rw [State.jobShown, State.fld_setReg_ne _ _ _ _ _ hne, State.fld_refreshOcc_job _ h _ (by decide) (by decide), State.fld_setFld _ _ _ _ (by decide)]
    rfl
  · rw [State.jobShown, State.fld_setReg_ne _ _ _ _ _ hne, State.fld_refreshOcc_job _ h _ (by decide) (by decide),
      State.fld_setFld_apart _ _ _ _ _ (by decide) (by decide) (by decide), State.fld_setFld _ _ _ _ (by decide)]
    rfl
  · rw [State.jobShown, State.fld_setReg_ne _ _ _ _ _ hne, State.fld_refreshOcc_job _ h _ (by decide) (by decide),
      State.fld_setFld_apart _ _ _ _ _ (by decide) (by decide) (by decide), State.fld_setFld_apart _ _ _ _ _ (by decide) (by decide) (by decide),
      State.fld_setFld _ _ _ _ (by decide)]
    exact Nat.mod_eq_of_lt hk

theorem exec_scanJob (h : CommandReady s q tag.toNat 0x20 c x) :
    let k := bitsOf c.target 4 2
    let slot := bitsOf c.target 0 4
    let refused (status : Nat) : Prop := ∃ t, exec (.scanJob q tag) s = .next t ∧ Completed s t q tag.toNat x c.sqHead 0 0 0 status 0 []
    (s.hqe.jobs.any (fun j => j.slot == slot || j.path == k) = true → refused St.contextBusy) ∧
    (s.hqe.jobs = [] → s.pathOn k = false → refused St.invalidField) ∧
    (s.hqe.jobs = [] → s.pathOn k = true → (c.arg 2).testBit 8 = true → s.fld (R.pathLinks k) F.pathLinks.TRKS = 1 →
      ∃ t, exec (.scanJob q tag) s = .next t ∧
        CommandStarts { s with hqe := { s.hqe with jobs := [{ qp := q, tag := tag.toNat, slot := slot, path := k, trk := 0, docs := c.arg 0 }] } } t
          q tag.toNat (R.trkJob 0 :: occRegs) ∧
        t.fld (R.hqeJob slot) F.hqeJob.RUN = 1 ∧ t.fld (R.hqeJob slot) F.hqeJob.BOUND = 1 ∧ t.fld (R.hqeJob slot) F.hqeJob.PATH = k ∧
        t.reg (R.trkJob 0) = BitVec.ofNat 32 (c.arg 1)) := by
  intro k slot refused
  have hk : k < 4 := bitsOf_lt _ _ 2
  have hslot : slot < 16 := bitsOf_lt _ _ 4
  have hexec : exec (.scanJob q tag) s = State.done (s.startCmd q tag.toNat 0x20 (fun c s => s.doScanJob c)) := rfl
  have hon : (s.started q tag.toNat).pathOn k = s.pathOn k := by
    rw [State.pathOn, State.bit, State.fld_started (by simp only [R.pathCfg, R.hqeStat]; omega)]
    rfl
  have hidle : s.hqe.jobs = [] → ¬(s.started q tag.toNat).hqe.jobs.any (fun j => j.slot == slot || j.path == k) = true := fun hnone => by
    change ¬s.hqe.jobs.any _ = true
    rw [hnone]
    exact Bool.false_ne_true
  refine ⟨fun hbusy => State.ends_refused h hexec (if_pos hbusy), fun hnone hoff => ?_, fun hnone hpath hbit htrks => ?_⟩
  · exact State.ends_refused h hexec ((if_neg (hidle hnone)).trans (if_pos (by rw [hon, hoff]; rfl)))
  · obtain ⟨hqp, htag⟩ := State.cmdOf_names h.2.1
    obtain ⟨j, hj⟩ : ∃ j : Job, j = { qp := q, tag := tag.toNat, slot := slot, path := k, trk := 0, docs := c.arg 0 } := ⟨_, rfl⟩
    obtain ⟨u, hu⟩ : ∃ u : State, u = { s.started q tag.toNat with hqe := { (s.started q tag.toNat).hqe with jobs := [j] } } := ⟨_, rfl⟩
    have htrk : setBits ((s.started q tag.toNat).fld (R.pathLinks k) F.pathLinks.TRKS) 4 = [0] := by
      rw [State.fld_started (by simp only [R.pathLinks, R.hqeStat]; omega), htrks]
      decide
    have heq : (s.started q tag.toNat).doScanJob c = u.jobShown slot k (c.arg 1) := by
      refine (if_neg (hidle hnone)).trans ((if_neg (by rw [hon, hpath]; exact Bool.false_ne_true)).trans ((if_pos hbit).trans ?_))
      rw [htrk, hqp, htag, hu, hj]
      change State.jobShown { s.started q tag.toNat with hqe := { (s.started q tag.toNat).hqe with jobs := s.hqe.jobs ++ _ } } _ _ _ = _
      rw [hnone]
      rfl
    obtain ⟨hregs, hrun, hbound, hp, hreg⟩ := u.jobShown_spec hslot hk (c.arg 1)
    obtain ⟨v, hv⟩ : ∃ v, v = u.jobShown slot k (c.arg 1) := ⟨_, rfl⟩
    rw [← hv] at heq hregs hrun hbound hp hreg
    have hnear0 : State.CmdNear { s with hqe := { s.hqe with jobs := [j] } } u (R.trkJob 0 :: occRegs) :=
      State.near_of_started (s := s) (q := q) (tag := tag.toNat) (by rw [hu]; rfl) rfl (by rw [hu])
    have hne : R.hqeStat ∉ R.trkJob 0 :: occRegs := by decide
    have hquiet : quietRegs (R.trkJob 0 :: occRegs) := by
      intro o ho
      rcases List.mem_cons.mp ho with rfl | ho
      · decide
      · exact quietRegs_occ o ho
    have hnear : State.CmdNear { s with hqe := { s.hqe with jobs := [j] } } v (R.trkJob 0 :: occRegs) :=
      hnear0.trans (hregs.near hne)
    have hcmds : v.hqe.cmds = startedCmds q tag.toNat s.hqe.cmds := by
      rw [hregs.1, hu]
      rfl
    have husual : State.usual { s with hqe := { s.hqe with jobs := [j] } } :=
      State.usual_of_alike (s0 := { s with hqe := { s.hqe with jobs := [j] } }) h.1 ⟨rfl, rfl, rfl, rfl, rfl, rfl, rfl⟩ rfl
    obtain ⟨hdone, hstarts⟩ := State.ends_inFlight husual hnear hcmds hquiet
    rw [hj] at hstarts
    exact ⟨v, by rw [hexec, State.startCmd_done h, heq, hdone], hstarts, hrun, hbound, hp, hreg⟩

/-! ## SET_GAIT_POLICY -/

/-- A word of SET_GAIT_POLICY in its register. -/
def State.putRow (s : State) (off : Nat) (row : RegRow) (v : Nat) : State := s.setReg off (row.written (s.reg off) (BitVec.ofNat 32 v))

/-- The nine words of SET_GAIT_POLICY, put by `put`. -/
def gaitPolicy (put : State → Nat → RegRow → Nat → State) (s : State) (k : Nat) (c : Cmd) : State :=
  (List.range 7).foldl (fun u i => put u (R.pathGthr k (i + 1)) Row.pathGthr (c.arg (2 + i)))
    (put (put s (R.pathPolicy k) Row.pathPolicy (c.arg 0)) (R.pathOccthr k) Row.pathOccthr (c.arg 1))

/-- The registers of the nine words. -/
def policyRegs (k : Nat) : List Nat := R.pathPolicy k :: R.pathOccthr k :: (List.range 7).map (fun i => R.pathGthr k (i + 1))

theorem policyRegs_mem {k o : Nat} (hk : k < 4) (h : o ∈ policyRegs k) : 0x18000 ≤ o ∧ o < 0x19000 := by
  simp only [policyRegs, List.mem_cons, List.mem_map, List.mem_range, R.pathPolicy, R.pathOccthr] at h
  rcases h with rfl | rfl | ⟨i, hi, rfl⟩
  · omega
  · omega
  · simp only [R.pathGthr]
    omega

/-- `u`, from the started state, holds what `t` does, but for what waits to take effect. -/
structure State.SamePut (s t u : State) (q tag k : Nat) : Prop where
  left : s.regsOnly t (policyRegs k)
  right : u = { s.started q tag with regs := u.regs, eff := u.eff }
  agree : ∀ o, o ≠ R.hqeStat → u.reg o = t.reg o
  stat : u.reg R.hqeStat = (s.started q tag).reg R.hqeStat

theorem State.SamePut.put {t u : State} {p g k : Nat} (h : s.SamePut t u p g k) (hk : k < 4) {off : Nat} (ho : off ∈ policyRegs k) (row : RegRow) (v : Nat) :
    s.SamePut (t.putRow off row v) (u.writeRow .bar0 off row (BitVec.ofNat 32 v) false) p g k := by
  have hlt := policyRegs_mem hk ho
  have hne : off ≠ R.hqeStat := by
    simp only [R.hqeStat]
    omega
  refine ⟨h.left.setReg _ ho, ?_, fun o hs => ?_, ?_⟩
  · have hw := (u.writeRow_sameBut .bar0 off row (BitVec.ofNat 32 v)).1
    have hr := h.right
    generalize u.writeRow .bar0 off row (BitVec.ofNat 32 v) false = w at hw ⊢
    rw [hw]
    dsimp only
    rw [hr]
  · rw [State.reg_writeRow, State.putRow, State.reg_setReg, h.agree off hne, h.agree o hs]
  · rw [State.reg_writeRow, if_neg hne.symm, h.stat]

theorem State.samePut_gaitPolicy {k : Nat} (hk : k < 4) (p g : Nat) :
    s.SamePut (gaitPolicy State.putRow s k c) (gaitPolicy (fun t off row v => t.writeRow .bar0 off row (BitVec.ofNat 32 v) false) (s.started p g) k c) p g k := by
  have h0 : s.SamePut s (s.started p g) p g k := ⟨.refl _ _, rfl, fun o ho => State.reg_started ho, rfl⟩
  have h2 := (h0.put hk (off := R.pathPolicy k) (by simp [policyRegs]) Row.pathPolicy (c.arg 0)).put hk (off := R.pathOccthr k) (by simp [policyRegs])
    Row.pathOccthr (c.arg 1)
  have hfold : ∀ l : List Nat, (∀ i ∈ l, i < 7) → ∀ t u, s.SamePut t u p g k →
      s.SamePut (l.foldl (fun u i => u.putRow (R.pathGthr k (i + 1)) Row.pathGthr (c.arg (2 + i))) t)
        (l.foldl (fun u i => u.writeRow .bar0 (R.pathGthr k (i + 1)) Row.pathGthr (BitVec.ofNat 32 (c.arg (2 + i))) false) u) p g k := by
    intro l
    induction l with
    | nil => exact fun _ t u h => h
    | cons i l ih =>
      intro hl t u h
      refine ih (fun j hj => hl j (List.mem_cons_of_mem _ hj)) _ _ (h.put hk ?_ _ _)
      simp only [policyRegs, List.mem_cons, List.mem_map, List.mem_range]
      exact .inr (.inr ⟨i, hl i List.mem_cons_self, rfl⟩)
  exact hfold _ (fun i hi => List.mem_range.mp hi) _ _ h2

theorem State.policyBad_congr {t u : State} {k : Nat} (hk : k < 4) (h : ∀ o, 0x18000 ≤ o → o < 0x19000 → u.reg o = t.reg o) : u.policyBad k = t.policyBad k := by
  have hfld : ∀ o f, 0x18000 ≤ o → o < 0x19000 → u.fld o f = t.fld o f := fun o f h0 h1 => State.fld_of_reg (h o h0 h1) f
  have hpol : ∀ f, u.fld (R.pathPolicy k) f = t.fld (R.pathPolicy k) f := fun f => hfld _ f (by simp only [R.pathPolicy]; omega) (by simp only [R.pathPolicy]; omega)
  have hocc : ∀ f, u.fld (R.pathOccthr k) f = t.fld (R.pathOccthr k) f := fun f => hfld _ f (by simp only [R.pathOccthr]; omega) (by simp only [R.pathOccthr]; omega)
  have hthr : ∀ g, g < 8 → ∀ f, u.fld (R.pathGthr k g) f = t.fld (R.pathGthr k g) f := fun g hg f =>
    hfld _ f (by simp only [R.pathGthr]; omega) (by simp only [R.pathGthr]; omega)
  have hgaits : u.gaits k = t.gaits k := by
    simp only [State.gaits, State.gaitOk, hpol]
  have hany : (t.gaits k).any (fun g => decide (u.downThr k g ≤ u.upThr k g) || (decide (u.fld (R.pathPolicy k) F.pathPolicy.GMIN < g) && decide (u.downThr k g ≤ u.upThr k (g - 1)))) =
      (t.gaits k).any (fun g => decide (t.downThr k g ≤ t.upThr k g) || (decide (t.fld (R.pathPolicy k) F.pathPolicy.GMIN < g) && decide (t.downThr k g ≤ t.upThr k (g - 1)))) := by
    rw [Bool.eq_iff_iff, List.any_eq_true, List.any_eq_true]
    refine exists_congr fun g => and_congr_right fun hg => ?_
    have hlt : g < 8 := List.mem_range.mp (List.mem_filter.mp hg).1
    rw [State.downThr, State.downThr, State.upThr, State.upThr, State.upThr, State.upThr, hthr g hlt, hthr g hlt, hthr (g - 1) (by omega), hpol]
  rw [State.policyBad, State.policyBad, hgaits]
  rw [hany, hpol, hpol, hocc, hocc]

theorem exec_setGaitPolicy (h : CommandReady s q tag.toNat 0x21 c x) :
    let s2 := gaitPolicy State.putRow s (bitsOf c.target 0 2) c
    (s2.policyBad (bitsOf c.target 0 2) = true → ∃ t, exec (.setGaitPolicy q tag) s = .next t ∧ Completed s t q tag.toNat x c.sqHead 0 0 0 St.invalidField 0 []) ∧
    (s2.policyBad (bitsOf c.target 0 2) = false → ∃ t, exec (.setGaitPolicy q tag) s = .next t ∧
      Completed { s2 with eff := t.eff } t q tag.toNat x c.sqHead 0 0 0 0 0 []) := by
  intro s2
  have hk : bitsOf c.target 0 2 < 4 := bitsOf_lt _ _ 2
  have hput := State.samePut_gaitPolicy (s := s) (c := c) hk q tag.toNat
  obtain ⟨u, hu⟩ : ∃ u, u = gaitPolicy (fun t off row v => t.writeRow .bar0 off row (BitVec.ofNat 32 v) false) (s.started q tag.toNat) (bitsOf c.target 0 2) c := ⟨_, rfl⟩
  have hexec : exec (.setGaitPolicy q tag) s = State.done (s.startCmd q tag.toNat 0x21 (fun c s => s.doSetGaitPolicy c)) := rfl
  have heq : (s.started q tag.toNat).doSetGaitPolicy c =
      if u.policyBad (bitsOf c.target 0 2) = true then (s.started q tag.toNat).complete c.qp c.tag { status := St.invalidField } else u.complete c.qp c.tag {} := by
    rw [hu]
    rfl
  rw [← hu] at hput
  have hs2 : s2 = gaitPolicy State.putRow s (bitsOf c.target 0 2) c := rfl
  rw [← hs2] at hput
  clear_value s2
  rw [State.policyBad_congr hk fun o h0 h1 => hput.agree o (by simp only [R.hqeStat]; omega)] at heq
  refine ⟨fun hbad => State.ends_refused h hexec (heq.trans (if_pos hbad)), fun hgood => ?_⟩
  rw [hexec, State.startCmd_done h, heq, if_neg (by rw [hgood]; exact Bool.false_ne_true)]
  obtain ⟨hstate, hreg⟩ := hput.left
  have hright := hput.right
  have hnot : ∀ o, o < 0x18000 ∨ 0x19000 ≤ o → s2.reg o = s.reg o := fun o ho => hreg o fun e => by
    have := policyRegs_mem hk e
    omega
  have hends : s.EndsAlike { s2 with eff := u.eff } := by
    rw [hstate]
    exact ⟨rfl, rfl, rfl, rfl, rfl, rfl, rfl⟩
  have hignore : endIgnores (policyRegs (bitsOf c.target 0 2)) := endIgnores_of fun o ho => by
    have := policyRegs_mem hk ho
    omega
  have husual : State.usual { s2 with eff := u.eff } := State.usual_of h.1 hends hreg hignore
  have hsame : s.QueueSame { s2 with eff := u.eff } q := by
    refine ⟨by rw [hstate]; rfl, by rw [hstate], by rw [hstate], ?_, fun v => ?_⟩
    · exact State.fld_of_reg (hnot _ (.inr (by decide))) _
    · exact State.fld_of_reg (hnot _ (.inr (by simp only [R.hqeMsixCtrl]; omega))) _
  have hnear : State.CmdNear { s2 with eff := u.eff } u [] := by
    refine ⟨?_, fun o ho => hput.agree o (by simpa using ho), ?_⟩
    · generalize u.regs = r, u.eff = e at hright ⊢
      rw [hright, hstate]
      rfl
    · have hl := State.fld_of_reg hput.stat F.hqeStat.LINK
      exact hl.trans (State.link_started.trans (State.fld_of_reg (hnot _ (.inr (by decide))) _).symm)
  have hcmds : u.hqe.cmds = startedCmds q tag.toNat s.hqe.cmds := by
    rw [hright]
    rfl
  obtain ⟨t, hdone, hcompleted⟩ := State.ends_started h husual hsame hnear hcmds quietRegs_nil {} rfl
  have heff : t.eff = u.eff := by
    obtain ⟨hst, -⟩ := hcompleted
    exact (congrArg State.eff hst :)
  exact ⟨t, hdone, by rw [heff]; exact hcompleted⟩

end

end Sys2Proof.Machine

/-!
CALIBRATE, READ_AUX and TRANSPORT (R387, R397, Table 11-6).
-/
namespace Sys2Proof.Machine

section
variable {s : State} {q : Fin 1024} {tag : BitVec 16} {c : Cmd} {x : Qp}

/-! ## CALIBRATE -/

/-- The CALIBRATE that a command asks for. -/
def Cmd.calib (c : Cmd) (q tag : Nat) : Calib :=
  { qp := q, tag := tag, target := c.target % 4, mask := bitsOf c.target 4 4, store := c.target.testBit 8 }

/-- A change of registers that a latch may hold back, and the CALIBRATE commands in flight. -/
theorem State.sameBut.nearCalibs {v : State} {l : List Nat} (h : (s.started q tag.toNat).sameBut v l) (hstat : R.hqeStat ∉ l) (k : List Calib) :
    State.CmdNear { s with eff := v.eff, hqe := { s.hqe with calibs := k } } (v.setCalibs k) l := by
  refine ⟨?_, fun o ho => ?_, ?_⟩
  · have hstate := h.1
    unfold State.setCalibs
    generalize v.regs = r, v.eff = e at hstate ⊢
    rw [hstate]
    rfl
  · exact (h.2 o fun e => ho (List.mem_cons_of_mem _ e)).1.trans ((s.near_started q tag.toNat l).reg o ho)
  · exact (h.fld hstat _).trans State.link_started

theorem State.usual_calibs (hu : s.usual) (e : Table Word) (k : List Calib) : State.usual { s with eff := e, hqe := { s.hqe with calibs := k } } :=
  State.usual_of_alike (s0 := { s with eff := e, hqe := { s.hqe with calibs := k } }) hu ⟨rfl, rfl, rfl, rfl, rfl, rfl, rfl⟩ rfl

/-- CALIBRATE of the aux block (R397). -/
theorem State.doCalibrate_aux (u : State) (h2 : c.target % 4 = 2) : u.doCalibrate c =
    if u.bit R.auxCalCtl F.auxCalCtl.BUSY || !((u.auxCalWrite .bar0 1).bit R.auxCalCtl F.auxCalCtl.BUSY) then
      (u.auxCalWrite .bar0 1).complete c.qp c.tag { status := St.contextBusy }
    else (u.auxCalWrite .bar0 1).setCalibs ((u.auxCalWrite .bar0 1).hqe.calibs ++ [c.calib c.qp c.tag]) :=
  (if_neg (show ¬c.target % 4 = 0 by omega)).trans ((if_neg (show ¬c.target % 4 = 1 by omega)).trans (if_pos h2))

theorem State.auxCalWrite_idle (u : State) (h : u.auxIdle = true) : ∃ v, u.auxCalWrite .bar0 1 = v ∧ u.sameBut v [R.auxCalCtl, R.auxStat] ∧
    v.fld R.auxCalCtl F.auxCalCtl.BUSY = 1 ∧ v.auxState = 3 := by
  have h1 := u.writeRow_sameBut .bar0 R.auxCalCtl Row.auxCalCtl 1
  have hidle := (State.auxIdle_of_regsBut h1.regsBut (by decide) (by decide) (by decide)).trans h
  have heq : u.auxCalWrite .bar0 1 = ((u.writeRow .bar0 R.auxCalCtl Row.auxCalCtl 1 false).setFld R.auxCalCtl F.auxCalCtl.BUSY 1).setFld R.auxStat F.auxStat.STATE 3 := by
    unfold State.auxCalWrite
    dsimp only
    rw [if_neg (by decide), if_pos hidle]
  refine ⟨_, heq, ((h1.mono (by simp)).setFld _ _ (by simp)).setFld _ _ (by simp), ?_, ?_⟩
  · rw [State.fld_setFld_ne _ _ _ _ _ _ (by decide), State.fld_setFld _ _ _ _ (by decide)]
    rfl
  · rw [State.auxState, State.fld_setFld _ _ _ _ (by decide)]
    rfl

theorem State.auxCalWrite_busy (u : State) (h : u.auxIdle = false) : ∃ v, u.auxCalWrite .bar0 1 = v ∧ u.sameBut v [R.auxCalCtl, R.sysErrStat, R.sysErrAddr] ∧
    v.fld R.auxCalCtl F.auxCalCtl.BUSY = u.fld R.auxCalCtl F.auxCalCtl.BUSY := by
  have h1 := u.writeRow_sameBut .bar0 R.auxCalCtl Row.auxCalCtl 1
  have hidle := (State.auxIdle_of_regsBut h1.regsBut (by decide) (by decide) (by decide)).trans h
  have h2 := State.err_sameBut (u.writeRow .bar0 R.auxCalCtl Row.auxCalCtl 1 false) .bar0 R.auxCalCtl F.sysErrStat.IDLE_WR
  have heq : u.auxCalWrite .bar0 1 = (u.writeRow .bar0 R.auxCalCtl Row.auxCalCtl 1 false).errIdle .bar0 R.auxCalCtl := by
    unfold State.auxCalWrite
    dsimp only
    rw [if_neg (by decide), if_neg (by rw [hidle]; exact Bool.false_ne_true)]
  exact ⟨_, heq, (h1.mono (by simp)).trans (h2.mono (by simp)), (h2.fld (by decide) _).trans (State.fld_writeRow_of_leaves _ _ _ _ (by decide) (by decide))⟩

theorem exec_calibrate (h : CommandReady s q tag.toNat 0x22 c x) (hcalibs : s.hqe.calibs = []) :
    let k : Calib := { qp := q, tag := tag.toNat, target := c.target % 4, mask := bitsOf c.target 4 4, store := c.target.testBit 8 }
    (c.target % 4 = 2 → s.auxIdle = true → s.fld R.auxCalCtl F.auxCalCtl.BUSY = 0 → ∃ t, exec (.calibrate q tag) s = .next t ∧
      CommandStarts { s with eff := t.eff, hqe := { s.hqe with calibs := [k] } } t q tag.toNat [R.auxCalCtl, R.auxStat] ∧
      t.fld R.auxCalCtl F.auxCalCtl.BUSY = 1 ∧ t.auxState = 3) ∧
    (c.target % 4 = 2 → s.auxIdle = false → ∃ t, exec (.calibrate q tag) s = .next t ∧
      Completed { s with eff := t.eff } t q tag.toNat x c.sqHead 0 0 0 St.contextBusy 0 [R.auxCalCtl, R.sysErrStat, R.sysErrAddr]) ∧
    (c.target % 4 = 3 → s.fld R.shdRecStat F.shdRecStat.BUSY = 0 → ∃ t, exec (.calibrate q tag) s = .next t ∧
      CommandStarts { s with hqe := { s.hqe with calibs := [{ k with saves := 1 }] } } t q tag.toNat [R.shdRecStat] ∧
      t.fld R.shdRecStat F.shdRecStat.BUSY = 1) := by
  intro k
  have hexec : exec (.calibrate q tag) s = State.done ((s.started q tag.toNat).doCalibrate c) := State.startCmd_done h _
  obtain ⟨hqp, htag⟩ := State.cmdOf_names h.2.1
  have hk : c.calib c.qp c.tag = k := by
    rw [hqp, htag]
    rfl
  have hbusy : (s.started q tag.toNat).fld R.auxCalCtl F.auxCalCtl.BUSY = s.fld R.auxCalCtl F.auxCalCtl.BUSY := State.fld_started (by decide) _
  have hidle : (s.started q tag.toNat).auxIdle = s.auxIdle :=
    State.auxIdle_of_regsBut (s.near_started q tag.toNat []).reg (by decide) (by decide) (by decide)
  rw [hexec]
  refine ⟨fun h2 hi hb => ?_, fun h2 hi => ?_, fun h3 hb => ?_⟩
  · obtain ⟨v, hv, hsame, hset, hst⟩ := State.auxCalWrite_idle _ (hidle.trans hi)
    have hvcalibs : v.hqe.calibs = [] := by
      rw [hsame.1]
      exact hcalibs
    rw [State.doCalibrate_aux _ h2, hv, State.bit_eq_false (hbusy.trans hb), State.bit_eq_true hset, Bool.not_true, Bool.or_false, if_neg Bool.false_ne_true,
      hk, hvcalibs, List.nil_append]
    have hnear := hsame.nearCalibs (by decide) [k]
    have hcmds : (v.setCalibs [k]).hqe.cmds = startedCmds q tag.toNat s.hqe.cmds := by
      rw [State.setCalibs, hsame.1]
      rfl
    obtain ⟨hdone, hstarts⟩ := State.ends_inFlight (State.usual_calibs h.1 v.eff [k]) hnear hcmds (by unfold quietRegs; decide)
    exact ⟨_, hdone, hstarts, hset, hst⟩
  · obtain ⟨v, hv, hsame, hset⟩ := State.auxCalWrite_busy _ (hidle.trans hi)
    have hcond : ((s.started q tag.toNat).bit R.auxCalCtl F.auxCalCtl.BUSY || !(v.bit R.auxCalCtl F.auxCalCtl.BUSY)) = true := by
      rw [State.bit, State.bit, hset]
      exact Bool.or_not_self _
    rw [State.doCalibrate_aux _ h2, hv, if_pos hcond]
    have hcal : v.setCalibs s.hqe.calibs = v := by
      unfold State.setCalibs
      have hvc : v.hqe.calibs = s.hqe.calibs := by
        rw [hsame.1]
        rfl
      rw [← hvc]
    have hnear := hsame.nearCalibs (by decide) s.hqe.calibs
    rw [hcal] at hnear
    have hcmds : v.hqe.cmds = startedCmds q tag.toNat s.hqe.cmds := by
      rw [hsame.1]
      rfl
    obtain ⟨t, hdone, hcompleted⟩ := State.ends_started h (State.usual_calibs h.1 v.eff s.hqe.calibs) (.of_regs rfl rfl rfl rfl) hnear hcmds (by unfold quietRegs; decide)
      { status := St.contextBusy } rfl
    have heff : t.eff = v.eff := by
      obtain ⟨hst, -⟩ := hcompleted
      exact (congrArg State.eff hst :)
    exact ⟨t, hdone, by rw [heff]; exact hcompleted⟩
  · have hrec : (s.started q tag.toNat).fld R.shdRecStat F.shdRecStat.BUSY = 0 := (State.fld_started (by decide) _).trans hb
    have hthree : ((c.calib c.qp c.tag).store || (c.calib c.qp c.tag).target == 3) = true := by
      rw [Bool.or_eq_true]
      exact .inr (beq_iff_eq.mpr h3)
    obtain ⟨u, hu⟩ : ∃ u : State, u = { s.started q tag.toNat with hqe := { (s.started q tag.toNat).hqe with calibs := [{ k with saves := 1 }] } } := ⟨_, rfl⟩
    have hubusy : u.fld R.shdRecStat F.shdRecStat.BUSY = 0 := (State.fld_of_reg (State.reg_of_regs _ _ (by rw [hu]) _) _).trans hrec
    have heq : (s.started q tag.toNat).doCalibrate c = u.setFld R.shdRecStat F.shdRecStat.BUSY 1 := by
      have h1 : (s.started q tag.toNat).doCalibrate c = (s.started q tag.toNat).calibDone (c.calib c.qp c.tag) :=
        (if_neg (show ¬c.target % 4 = 0 by omega)).trans ((if_neg (show ¬c.target % 4 = 1 by omega)).trans (if_neg (show ¬c.target % 4 = 2 by omega)))
      have hset : (s.started q tag.toNat).setCalibs ((s.started q tag.toNat).hqe.calibs.filter (fun d => !(d.qp == (c.calib c.qp c.tag).qp && d.tag == (c.calib c.qp c.tag).tag)) ++
          [{ c.calib c.qp c.tag with left := [], saves := 1 }]) = u := by
        change State.setCalibs _ (s.hqe.calibs.filter _ ++ _) = _
        rw [hcalibs, hk, hu]
        rfl
      rw [h1, State.calibDone, if_pos hthree, State.bit_eq_false hrec]
      dsimp only
      rw [if_neg Bool.false_ne_true, hset, State.saveRequest, State.bit_eq_false hubusy, if_neg Bool.false_ne_true]
    have hnear0 : State.CmdNear { s with hqe := { s.hqe with calibs := [{ k with saves := 1 }] } } u [R.shdRecStat] :=
      State.near_of_started (s := s) (q := q) (tag := tag.toNat) (by rw [hu]; rfl) rfl (by rw [hu])
    have hnear := hnear0.setFld F.shdRecStat.BUSY 1 (o := R.shdRecStat) (by simp) (by decide)
    have husual : State.usual { s with hqe := { s.hqe with calibs := [{ k with saves := 1 }] } } := State.usual_calibs h.1 s.eff _
    obtain ⟨hdone, hstarts⟩ := State.ends_inFlight (q := q) (tag := tag.toNat) husual hnear (by rw [hu]; rfl) (by unfold quietRegs; decide)
    rw [heq]
    exact ⟨_, hdone, hstarts, State.fld_setFld _ _ _ _ (by decide)⟩

/-! ## READ_AUX -/

theorem exec_readAux (h : CommandReady s q tag.toNat 0x23 c x) :
    let e := c.target % 64
    let base := if e < 32 then R.auxRegSlotValue e else R.auxInjSlotValue (e - 32)
    (c.target.testBit 8 = true → ∃ t, exec (.readAux q tag) s = .next t ∧
      CommandStarts { s with hqe := { s.hqe with auxWaits := s.hqe.auxWaits ++ [(q.val, tag.toNat, e)] } } t q tag.toNat []) ∧
    (c.target.testBit 8 = false → e < 40 → ∃ t, exec (.readAux q tag) s = .next t ∧ t.cmdOf q tag.toNat = none ∧
      hostAt t (x.cqBase + 32 * x.cqTail) 32 = completionBytes ((s.reg base).toNat + 2 ^ 32 * (s.reg (base + 4)).toNat) 0 0
        (s.reg64 (base + 8) (base + 12)) c.sqHead q tag.toNat 0 0 x.phase) := by
  intro e base
  have hexec : exec (.readAux q tag) s = State.done ((s.started q tag.toNat).doReadAux c) := State.startCmd_done h _
  obtain ⟨hqp, htag⟩ := State.cmdOf_names h.2.1
  rw [hexec, State.doReadAux, hqp, htag]
  refine ⟨fun hnew => ?_, fun hnow hlt => ?_⟩
  · dsimp only
    rw [if_pos hnew]
    obtain ⟨w, hw⟩ : ∃ w, w = s.hqe.auxWaits ++ [(q.val, tag.toNat, e)] := ⟨_, rfl⟩
    change ∃ t, State.done { s.started q tag.toNat with hqe := { (s.started q tag.toNat).hqe with auxWaits := s.hqe.auxWaits ++ [(q.val, tag.toNat, e)] } } = _ ∧ _
    rw [← hw]
    have husual : State.usual { s with hqe := { s.hqe with auxWaits := w } } :=
      State.usual_of_alike (s0 := { s with hqe := { s.hqe with auxWaits := w } }) h.1 ⟨rfl, rfl, rfl, rfl, rfl, rfl, rfl⟩ rfl
    exact ⟨_, State.ends_inFlight husual (State.near_of_started (s := s) (q := q) (tag := tag.toNat) rfl rfl rfl) rfl quietRegs_nil⟩
  · dsimp only
    rw [if_neg (by rw [hnow]; exact Bool.false_ne_true)]
    have hbase : (if e < 32 then R.auxRegSlotValue (e % 32) else R.auxInjSlotValue (e % 32)) = base := by
      change _ = if e < 32 then _ else _
      split
      · rw [Nat.mod_eq_of_lt ‹_›]
      · rw [Nat.mod_eq_sub_mod (by omega), Nat.mod_eq_of_lt (by omega)]
    have hsmall : base + 12 < R.hqeStat := by
      rw [← hbase]
      simp only [R.auxRegSlotValue, R.auxInjSlotValue, R.hqeStat]
      split
      · omega
      · omega
    have hreg : ∀ o, o ≤ base + 12 → (s.started q tag.toNat).reg o = s.reg o := fun o ho => State.reg_started (by omega)
    have hplain := (s.near_started q tag.toNat []).plain (keepsVectors_of (by simp)) h.2.2.2.2
    have hcmd := State.cmdOf_started h.2.1
    obtain ⟨r, hr⟩ : ∃ r : Report, r = { r0 := ((s.started q tag.toNat).reg base).toNat + 2 ^ 32 * ((s.started q tag.toNat).reg (base + 4)).toNat, time := some ((s.started q tag.toNat).reg64 (base + 8) (base + 12)) } := ⟨_, rfl⟩
    have heq : (s.started q tag.toNat).auxAnswer q tag.toNat e = (s.started q tag.toNat).complete q tag.toNat r := by
      rw [State.auxAnswer, hbase, hr]
    have hcomplete := State.complete_plain hplain hcmd r
    obtain ⟨t, ht⟩ : ∃ t, t = (s.started q tag.toNat).complete q tag.toNat r := ⟨_, rfl⟩
    have hgone := (State.cmdOf_complete hplain hcmd r).1
    change ∃ u, State.done ((s.started q tag.toNat).auxAnswer q tag.toNat e) = _ ∧ _
    rw [heq]
    rw [← ht] at hcomplete hgone ⊢
    have hmem : t.hostMem = hostWritten (s.started q tag.toNat).hostMem (x.cqBase + 32 * x.cqTail)
        (r.entry (s.started q tag.toNat).sys.time.toNat c.sqHead q tag.toNat x.phase) := by rw [hcomplete]
    have hnear := (State.CmdNear.refl (s.started q tag.toNat) []).setCmds (otherCmds q tag.toNat (s.started q tag.toNat).hqe.cmds)
    have hregs : t.regs = ((s.started q tag.toNat).setCmds (otherCmds q tag.toNat (s.started q tag.toNat).hqe.cmds)).regs := by rw [hcomplete]
    have hends : (s.started q tag.toNat).EndsAlike t := by
      rw [hcomplete]
      exact ⟨rfl, rfl, rfl, rfl, rfl, rfl, rfl⟩
    have husual : (s.started q tag.toNat).usual := State.usual_of h.1 (s.near_started q tag.toNat []).endsAlike (s.near_started q tag.toNat []).reg (by unfold endIgnores; decide)
    refine ⟨t, State.done_of_endsAlike husual hends (l := [R.hqeStat]) (fun o ho => (State.reg_of_regs _ _ hregs o).trans (hnear.reg o ho)) (by unfold endIgnores; decide),
      hgone, ?_⟩
    have hall := hostAt_written_all (s := s.started q tag.toNat) hmem
    rw [Report.entry_length] at hall
    rw [hall, Report.entry, hr]
    dsimp only
    rw [Option.getD_some, State.reg64, State.reg64, hreg _ (by omega), hreg _ (by omega), hreg _ (by omega), hreg _ (by omega)]

/-! ## TRANSPORT -/

/-- TRANSPORT of a valid command: the path command is issued, and CMD_IGN of before stays. -/
def State.transportIssued (s : State) (k cmd g : Nat) : State :=
  if s.bit (R.pathStat k) F.pathStat.CMD_IGN then ((s.setPstat k F.pathStat.CMD_IGN 0).pathCmd k cmd g).setPstat k F.pathStat.CMD_IGN 1
  else (s.setPstat k F.pathStat.CMD_IGN 0).pathCmd k cmd g

theorem State.doTransport_eq (u : State) (hcmd : ¬(bitsOf (c.arg 0) 0 4 < 3 ∨ 7 < bitsOf (c.arg 0) 0 4)) : u.doTransport c =
    if bitsOf (c.arg 0) 0 4 = 7 ∧
        ((u.setPstat (bitsOf c.target 0 2) F.pathStat.CMD_IGN 0).pathCmd (bitsOf c.target 0 2) (bitsOf (c.arg 0) 0 4) (bitsOf (c.arg 0) 8 3)).bit
          (R.pathStat (bitsOf c.target 0 2)) F.pathStat.CMD_IGN then
      (u.transportIssued (bitsOf c.target 0 2) (bitsOf (c.arg 0) 0 4) (bitsOf (c.arg 0) 8 3)).complete c.qp c.tag { status := St.invalidField }
    else u.transportIssued (bitsOf c.target 0 2) (bitsOf (c.arg 0) 0 4) (bitsOf (c.arg 0) 8 3) := if_neg hcmd

theorem quietRegs_pathStat {k : Nat} (hk : k < 4) : quietRegs [R.pathStat k] := by
  intro o ho
  rw [List.mem_singleton.mp ho]
  simp only [R.pathStat]
  omega

theorem exec_transport (h : CommandReady s q tag.toNat 0x24 c x) :
    let k := bitsOf c.target 0 2
    let cmd := bitsOf (c.arg 0) 0 4
    (cmd < 3 ∨ 7 < cmd → ∃ t, exec (.transport q tag) s = .next t ∧ Completed s t q tag.toNat x c.sqHead 0 0 0 St.invalidField 0 []) ∧
    (cmd = 7 → s.pathOn k = false → ∃ t, exec (.transport q tag) s = .next t ∧ Completed s t q tag.toNat x c.sqHead 0 0 0 St.invalidField 0 [R.pathStat k]) ∧
    (cmd = 6 → s.pathOn k = true → s.pathState k = 2 → ∃ t, exec (.transport q tag) s = .next t ∧
      CommandStarts { s with gait := t.gait } t q tag.toNat [R.pathStat k] ∧ (t.pathSt k).target = 0 ∧ (t.pathSt k).atRest = .halt) := by
  intro k cmd
  have hk : k < 4 := bitsOf_lt _ _ 2
  have hexec : exec (.transport q tag) s = State.done (s.startCmd q tag.toNat 0x24 (fun c s => s.doTransport c)) := rfl
  have hne : R.hqeStat ≠ R.pathStat k := by
    simp only [R.hqeStat, R.pathStat]
    omega
  have hon : ((s.started q tag.toNat).setPstat k F.pathStat.CMD_IGN 0).pathOn k = s.pathOn k := by
    rw [State.pathOn, State.bit, State.setPstat, State.fld_setFld_ne _ _ _ _ _ _ (by simp only [R.pathCfg, R.pathStat]; omega),
      State.fld_started (by simp only [R.pathCfg, R.hqeStat]; omega)]
    rfl
  refine ⟨fun hbad => State.ends_refused h hexec (if_pos hbad), fun h7 hoff => ?_, fun h6 hpath hstate => ?_⟩
  · have hcmd : ¬(bitsOf (c.arg 0) 0 4 < 3 ∨ 7 < bitsOf (c.arg 0) 0 4) := by
      have : bitsOf (c.arg 0) 0 4 = 7 := h7
      omega
    rw [hexec, State.startCmd_done h, State.doTransport_eq _ hcmd]
    have hoffCmd : ((s.started q tag.toNat).setPstat k F.pathStat.CMD_IGN 0).pathCmd k cmd (bitsOf (c.arg 0) 8 3) =
        ((s.started q tag.toNat).setPstat k F.pathStat.CMD_IGN 0).setPstat k F.pathStat.CMD_IGN 1 := State.pathCmd_off _ _ (hon.trans hoff)
    have hnear : s.CmdNear (((s.started q tag.toNat).setPstat k F.pathStat.CMD_IGN 0).setPstat k F.pathStat.CMD_IGN 1) [R.pathStat k] :=
      ((s.near_started q tag.toNat _).setFld _ _ (by simp) hne).setFld _ _ (by simp) hne
    have hissued : s.CmdNear ((s.started q tag.toNat).transportIssued k cmd (bitsOf (c.arg 0) 8 3)) [R.pathStat k] ∧
        ((s.started q tag.toNat).transportIssued k cmd (bitsOf (c.arg 0) 8 3)).hqe.cmds = startedCmds q tag.toNat s.hqe.cmds := by
      unfold State.transportIssued
      rw [hoffCmd]
      split
      · exact ⟨hnear.setFld _ _ (by simp) hne, rfl⟩
      · exact ⟨hnear, rfl⟩
    have hign : (((s.started q tag.toNat).setPstat k F.pathStat.CMD_IGN 0).pathCmd k cmd (bitsOf (c.arg 0) 8 3)).bit (R.pathStat k) F.pathStat.CMD_IGN = true := by
      rw [hoffCmd]
      exact State.bit_eq_true (by rw [State.setPstat, State.fld_setFld _ _ _ _ (by decide)]; decide)
    rw [if_pos ⟨h7, hign⟩]
    exact State.ends_started h h.1 (.refl s q) hissued.1 hissued.2 (quietRegs_pathStat hk) _ rfl
  · have hcmd : ¬(bitsOf (c.arg 0) 0 4 < 3 ∨ 7 < bitsOf (c.arg 0) 0 4) := by
      have : bitsOf (c.arg 0) 0 4 = 6 := h6
      omega
    obtain ⟨u, hu⟩ : ∃ u, u = (s.started q tag.toNat).setPstat k F.pathStat.CMD_IGN 0 := ⟨_, rfl⟩
    have hst : u.pathState k = 2 := by
      rw [hu, State.pathState, State.setPstat, State.fld_setFld_apart _ _ _ _ _ (by decide) (by decide) (by decide),
        State.fld_started hne.symm]
      exact hstate
    rw [← hu] at hon
    have hhalt : u.pathCmd k cmd (bitsOf (c.arg 0) 8 3) = u.rampDown k false .halt := by
      have h1 : u.pathCmd k cmd (bitsOf (c.arg 0) 8 3) = u.cmdHalt k := by
        rw [show cmd = 6 from h6]
        exact if_neg (by rw [hon, hpath]; exact Bool.false_ne_true)
      exact h1.trans (if_pos hst)
    obtain ⟨g, hg⟩ : ∃ g, g = (u.setPathSt k { u.pathSt k with target := 0, hard := false, atRest := .halt }).gait := ⟨_, rfl⟩
    have hnear0 : State.CmdNear { s with gait := g } (u.setPathSt k { u.pathSt k with target := 0, hard := false, atRest := .halt }) [R.pathStat k] := by
      have h1 : s.CmdNear u [R.pathStat k] := by
        rw [hu]
        exact (s.near_started q tag.toNat _).setFld _ _ (by simp) hne
      refine ⟨?_, h1.reg, h1.link⟩
      have hstate1 := h1.state
      rw [hg]
      unfold State.setPathSt
      dsimp only
      generalize Table.set _ u.gait.paths k _ = p
      have hgait : u.gait = s.gait := (congrArg State.gait hstate1 :)
      rw [hgait]
      generalize u.regs = r at hstate1 ⊢
      rw [hstate1]
    have hnear1 : State.CmdNear { s with gait := g } (u.rampDown k false .halt) [R.pathStat k] := hnear0.setFld _ _ (by simp) hne
    have hissued : ∃ v, (s.started q tag.toNat).transportIssued k cmd (bitsOf (c.arg 0) 8 3) = v ∧ State.CmdNear { s with gait := g } v [R.pathStat k] ∧
        v.hqe.cmds = startedCmds q tag.toNat s.hqe.cmds ∧ v.gait = g := by
      refine ⟨_, rfl, ?_⟩
      have hgait : (u.rampDown k false .halt).gait = g := by
        rw [hg]
        rfl
      have hcmds : (u.rampDown k false .halt).hqe.cmds = startedCmds q tag.toNat s.hqe.cmds := by
        rw [hu]
        rfl
      unfold State.transportIssued
      rw [← hu, hhalt]
      split
      · exact ⟨hnear1.setFld _ _ (by simp) hne, hcmds, hgait⟩
      · exact ⟨hnear1, hcmds, hgait⟩
    obtain ⟨v, hv, hnear, hcmds, hgait⟩ := hissued
    have husual : State.usual { s with gait := g } := State.usual_of_alike (s0 := { s with gait := g }) h.1 ⟨rfl, rfl, rfl, rfl, rfl, rfl, rfl⟩ rfl
    obtain ⟨hdone, hstarts⟩ := State.ends_inFlight husual hnear hcmds (quietRegs_pathStat hk)
    have hpathSt : v.pathSt k = { u.pathSt k with target := 0, hard := false, atRest := .halt } := by
      rw [State.pathSt, hgait, hg]
      exact State.pathSt_setPathSt_same _ _ _
    refine ⟨v, ?_, by rw [hgait]; exact hstarts, by rw [hpathSt], by rw [hpathSt]⟩
    rw [hexec, State.startCmd_done h, State.doTransport_eq _ hcmd, if_neg (fun e => by have : bitsOf (c.arg 0) 0 4 = 6 := h6; omega)]
    change State.done ((s.started q tag.toNat).transportIssued k cmd (bitsOf (c.arg 0) 8 3)) = _
    rw [hv, hdone]

theorem exec_transportComplete (hu : s.usual) (hx : PlainQueue s q x) (hc : s.cmdOf q tag.toNat = some c) (hop : c.op = 0x24) (hstarted : c.started = true) :
    let k := bitsOf c.target 0 2
    let cmd := bitsOf (c.arg 0) 0 4
    let ends : Prop := ∃ t, exec (.transportComplete q tag) s = .next t ∧ Completed s t q tag.toNat x c.sqHead 0 0 0 0 0 []
    (cmd = 4 ∨ cmd = 5 ∨ cmd = 6 → s.pathState k = 1 → ends) ∧ (cmd = 3 → s.pathState k = 2 → ends) ∧
    (cmd = 3 → s.pathState k ≠ 2 → exec (.transportComplete q tag) s = .next s) := by
  intro k cmd ends
  have hexec : exec (.transportComplete q tag) s = State.done (match s.transportDone c with | some st => s.completeSt q tag.toNat st | none => s) := by
    refine congrArg State.done ?_
    rw [State.transportComplete, hc]
    exact if_pos (by rw [hop, hstarted]; rfl)
  have hends : s.transportDone c = some 0 → ends := fun hdone => by
    have h := State.ends_completed hu hx hc (.refl s []) rfl quietRegs_nil {} rfl
    dsimp only [ends]
    rw [hexec, hdone]
    exact h
  refine ⟨fun hcmd hst => hends ?_, fun hcmd hst => hends ?_, fun hcmd hst => ?_⟩
  · rw [State.transportDone]
    rcases hcmd with hcmd | hcmd | hcmd
    · rw [show bitsOf (c.arg 0) 0 4 = 4 from hcmd]
      exact if_pos hst
    · rw [show bitsOf (c.arg 0) 0 4 = 5 from hcmd]
      exact if_pos hst
    · rw [show bitsOf (c.arg 0) 0 4 = 6 from hcmd]
      exact if_pos hst
  · rw [State.transportDone, show bitsOf (c.arg 0) 0 4 = 3 from hcmd]
    exact if_pos hst
  · have hnone : s.transportDone c = none := by
      rw [State.transportDone, show bitsOf (c.arg 0) 0 4 = 3 from hcmd]
      exact if_neg hst
    rw [hexec, hnone]
    exact State.done_of_usual hu

end

end Sys2Proof.Machine

/-!
SCRUB and LOAD_IMAGE (R359, R398), and O51.
-/
namespace Sys2Proof.Machine

section
variable {s : State} {q : Fin 1024} {tag : BitVec 16} {c : Cmd} {x : Qp}

/-! ## Ranges of memory that are cleared -/

/-- The ranges of memory, each an address and a length, cleared one by one. -/
def State.clear (s : State) (l : List (Nat × Nat)) : State := l.foldl (fun t r => t.zeroFill r.1 r.2) s

/-- Where clearing ranges changes nothing but memory, and its errors. -/
theorem State.clear_state (l : List (Nat × Nat)) : s.clear l =
    { s with mem := (s.clear l).mem, sys := { s.sys with poison := (s.clear l).sys.poison, bitErrs := (s.clear l).sys.bitErrs } } := by
  induction l generalizing s with
  | nil => rfl
  | cons r l ih => exact ih (s := s.zeroFill r.1 r.2)

theorem State.byte_clear_in (l : List (Nat × Nat)) {a : Nat} (h : s.byte a = 0 ∨ ∃ r ∈ l, r.1 ≤ a ∧ a < r.1 + r.2) : (s.clear l).byte a = 0 := by
  induction l generalizing s with
  | nil => exact h.resolve_right fun ⟨r, hr, _⟩ => absurd hr List.not_mem_nil
  | cons r l ih =>
    refine ih (s := s.zeroFill r.1 r.2) ?_
    rw [State.byte_zeroFill]
    by_cases hr : r.1 ≤ a ∧ a < r.1 + r.2
    · exact .inl (if_pos hr)
    · rw [if_neg hr]
      refine h.imp_right fun ⟨r', hmem, hin⟩ => ?_
      rcases List.mem_cons.mp hmem with rfl | hmem
      · exact absurd hin hr
      · exact ⟨r', hmem, hin⟩

theorem State.byte_clear_out (l : List (Nat × Nat)) {a : Nat} (h : ∀ r ∈ l, a < r.1 ∨ r.1 + r.2 ≤ a) : (s.clear l).byte a = s.byte a := by
  induction l generalizing s with
  | nil => rfl
  | cons r l ih =>
    refine (ih (s := s.zeroFill r.1 r.2) fun r' hr' => h r' (List.mem_cons_of_mem _ hr')).trans ?_
    have := h r List.mem_cons_self
    rw [State.byte_zeroFill, if_neg (by omega)]

/-! ## SCRUB -/

theorem exec_scrub (h : CommandReady s q tag.toNat 0x32 c x) :
    let job := c.target % 16
    let refused (status : Nat) : Prop := ∃ t, exec (.scrub q tag) s = .next t ∧ Completed s t q tag.toNat x c.sqHead 0 0 0 status 0 []
    (s.openStreams.any (fun sc => (s.stream sc).job == job) = true → refused St.contextBusy) ∧
    (s.streams = [] → (∃ r ∈ c.ranges, 0x7C00 < r.1 + r.2) → refused St.invalidField) ∧
    (s.streams = [] → (∀ r ∈ c.ranges, r.1 + r.2 ≤ 0x7C00) → ∃ t, exec (.scrub q tag) s = .next t ∧
      CommandStarts { s with hqe := { s.hqe with scrubs := s.hqe.scrubs ++ [job] } } t q tag.toNat []) := by
  intro job refused
  have hexec : exec (.scrub q tag) s = State.done (s.startCmd q tag.toNat 0x32 (fun c s => s.doScrub c)) := rfl
  have hnone : s.streams = [] → ¬(s.started q tag.toNat).openStreams.any (fun sc => ((s.started q tag.toNat).stream sc).job == job) = true := fun hs => by
    rw [State.openStreams_none (s := s.started q tag.toNat) hs]
    exact Bool.false_ne_true
  refine ⟨fun hbusy => State.ends_refused h hexec (if_pos hbusy), fun hs hbad => ?_, fun hs hgood => ?_⟩
  · refine State.ends_refused h hexec ((if_neg (hnone hs)).trans (if_pos ?_))
    obtain ⟨r, hr, hlt⟩ := hbad
    exact List.any_eq_true.mpr ⟨r, hr, decide_eq_true hlt⟩
  · obtain ⟨l, hl⟩ : ∃ l, l = s.hqe.scrubs ++ [job] := ⟨_, rfl⟩
    have heq : (s.started q tag.toNat).doScrub c =
        { s.started q tag.toNat with hqe := { (s.started q tag.toNat).hqe with scrubs := l } } := by
      rw [hl]
      refine (if_neg (hnone hs)).trans (if_neg ?_)
      rw [List.any_eq_true]
      rintro ⟨r, hr, hlt⟩
      have := hgood r hr
      have := of_decide_eq_true hlt
      omega
    rw [hexec, State.startCmd_done h, heq, ← hl]
    have husual : State.usual { s with hqe := { s.hqe with scrubs := l } } :=
      State.usual_of_alike (s0 := { s with hqe := { s.hqe with scrubs := l } }) h.1 ⟨rfl, rfl, rfl, rfl, rfl, rfl, rfl⟩ rfl
    exact ⟨_, State.ends_inFlight husual (State.near_of_started (s := s) (q := q) (tag := tag.toNat) rfl rfl rfl) rfl quietRegs_nil⟩

theorem exec_scrubComplete (hu : s.usual) (hx : PlainQueue s q x) (hc : s.cmdOf q tag.toNat = some c) (hop : c.op = 0x32) (hstarted : c.started = true)
    (hstreams : s.streams = []) : ∃ t, exec (.scrubComplete q tag) s = .next t ∧
      Completed { s with mem := t.mem, sys := t.sys, hqe := { s.hqe with scrubs := s.hqe.scrubs.erase (c.target % 16) } } t q tag.toNat x c.sqHead 0 0 0 0 0 [] ∧
      (∀ r ∈ c.ranges, ∀ a, pageBase + r.1 * 65536 ≤ a → a < pageBase + (r.1 + r.2) * 65536 → t.byte a = 0) ∧
      (∀ a, (∀ r ∈ c.ranges, a < pageBase + r.1 * 65536 ∨ pageBase + (r.1 + r.2) * 65536 ≤ a) → t.byte a = s.byte a) := by
  obtain ⟨hqp, htag⟩ := State.cmdOf_names hc
  obtain ⟨l, hl⟩ : ∃ l, l = c.ranges.map (fun r => (pageBase + r.1 * 65536, r.2 * 65536)) := ⟨_, rfl⟩
  have hfold : c.ranges.foldl (fun t r => t.zeroFill (pageBase + r.1 * 65536) (r.2 * 65536)) s = s.clear l := by rw [hl, State.clear, List.foldl_map]
  have hexec : exec (.scrubComplete q tag) s = State.done (({ s.clear l with
      hqe := { (s.clear l).hqe with scrubs := (s.clear l).hqe.scrubs.erase (c.target % 16) } } : State).complete q tag.toNat {}) := by
    refine congrArg State.done ?_
    rw [State.scrubComplete, hc]
    dsimp only
    rw [if_pos (by rw [hop, hstarted]; rfl), State.scrubEnd, hstreams, List.filter_nil, List.map_nil, List.foldl_nil, hqp, htag]
    dsimp only
    rw [hfold]
    rfl
  have hin : ∀ r ∈ c.ranges, ∀ a, pageBase + r.1 * 65536 ≤ a → a < pageBase + (r.1 + r.2) * 65536 → (s.clear l).byte a = 0 := fun r hr a h0 h1 => by
    refine s.byte_clear_in l (.inr ⟨(pageBase + r.1 * 65536, r.2 * 65536), ?_, h0, ?_⟩)
    · rw [hl]
      exact List.mem_map_of_mem hr
    · dsimp only
      rw [Nat.add_mul] at h1
      omega
  have hout : ∀ a, (∀ r ∈ c.ranges, a < pageBase + r.1 * 65536 ∨ pageBase + (r.1 + r.2) * 65536 ≤ a) → (s.clear l).byte a = s.byte a := fun a ha =>
    s.byte_clear_out l fun r' hr' => by
      rw [hl] at hr'
      obtain ⟨r, hr, rfl⟩ := List.mem_map.mp hr'
      have := ha r hr
      rw [Nat.add_mul] at this
      dsimp only
      omega
  have hstate := s.clear_state l
  obtain ⟨u, hu'⟩ : ∃ u, u = s.clear l := ⟨_, rfl⟩
  rw [← hu'] at hexec hin hout hstate
  obtain ⟨f, hf⟩ : ∃ f, f = s.hqe.scrubs.erase (c.target % 16) := ⟨_, rfl⟩
  have hstart : ({ u with hqe := { u.hqe with scrubs := u.hqe.scrubs.erase (c.target % 16) } } : State) =
      { s with mem := u.mem, sys := { s.sys with poison := u.sys.poison, bitErrs := u.sys.bitErrs }, hqe := { s.hqe with scrubs := f } } := by
    rw [hf]
    generalize u.mem = m, u.sys.poison = p, u.sys.bitErrs = b at hstate ⊢
    rw [hstate]
  have hsys : u.sys = { s.sys with poison := u.sys.poison, bitErrs := u.sys.bitErrs } := (congrArg State.sys hstate :)
  rw [← hsys] at hstart
  rw [hexec, hstart, ← hf]
  have husual : State.usual { s with mem := u.mem, sys := u.sys, hqe := { s.hqe with scrubs := f } } :=
    State.usual_of_alike (s0 := { s with mem := u.mem, sys := u.sys, hqe := { s.hqe with scrubs := f } }) hu
      ⟨rfl, rfl, rfl, rfl, (congrArg Sys.railsBad hsys :), (congrArg Sys.porstLow hsys :), (congrArg Sys.resetting hsys :)⟩ rfl
  have hsame : s.QueueSame { s with mem := u.mem, sys := u.sys, hqe := { s.hqe with scrubs := f } } q := .of_regs rfl rfl rfl rfl
  obtain ⟨t, hdone, hcompleted⟩ := State.ends_completed husual (hsame.plain hx) ((hsame.cmdOf _).trans hc) (.refl _ []) rfl quietRegs_nil {} rfl
  have hmem : t.mem = u.mem := by
    obtain ⟨hst, -⟩ := hcompleted
    exact (congrArg State.mem hst :)
  have hts : t.sys = u.sys := by
    obtain ⟨hst, -⟩ := hcompleted
    exact (congrArg State.sys hst :)
  have hbyte : ∀ a, t.byte a = u.byte a := fun a => by rw [State.byte, hmem]; rfl
  exact ⟨t, hdone, by rw [hmem, hts]; exact hcompleted, fun r hr a h0 h1 => (hbyte a).trans (hin r hr a h0 h1), fun a ha => (hbyte a).trans (hout a ha)⟩

/-! ## LOAD_IMAGE -/

/-- What wiping engines leaves: their memory cleared, IMG 0, and nothing else changed. -/
theorem State.engWipes_spec (l : List Nat) (s : State) :
    let u := l.foldl (fun t n => t.engWipe n) s
    u = { s with regs := u.regs, mem := u.mem, sys := { s.sys with poison := u.sys.poison, bitErrs := u.sys.bitErrs } } ∧
    s.regsBut u (l.map R.engStat) ∧ (∀ f : Fld, f.lo + f.width ≤ 32 → f.lo + f.width ≤ F.engStat.IMG.lo ∨ F.engStat.IMG.lo + F.engStat.IMG.width ≤ f.lo →
      ∀ n, u.fld (R.engStat n) f = s.fld (R.engStat n) f) ∧
    (∀ n, s.fld (R.engStat n) F.engStat.IMG = 0 ∨ n ∈ l → u.fld (R.engStat n) F.engStat.IMG = 0) ∧
    (∀ a, s.byte a = 0 ∨ (∃ n ∈ l, engineData n ≤ a ∧ a < engineData n + 0x14000) → u.byte a = 0) := by
  induction l generalizing s with
  | nil =>
    exact ⟨rfl, .refl _ _, fun _ _ _ _ => rfl, fun n h => h.resolve_right List.not_mem_nil, fun a h => h.resolve_right fun ⟨n, hn, _⟩ => absurd hn List.not_mem_nil⟩
  | cons n l ih =>
    intro u
    obtain ⟨hstate, hreg, hfld, himg, hbyte⟩ := ih (s.engWipe n)
    have hone : s.engWipe n = (s.zeroFill (engineData n) 0x14000).setFld (R.engStat n) F.engStat.IMG 0 := rfl
    have hz : ∀ o f, (s.zeroFill (engineData n) 0x14000).fld o f = s.fld o f := fun o f => rfl
    refine ⟨hstate, ?_, fun f hf hapart m => (hfld f hf hapart m).trans ?_, fun m hm => himg m ?_, fun a ha => hbyte a ?_⟩
    · have h1 : s.regsBut (s.engWipe n) [R.engStat n] := fun o ho => State.reg_setReg_ne _ _ _ _ (by simpa using ho)
      exact (h1.mono (by simp)).trans (hreg.mono (by simp))
    · rw [hone]
      by_cases h : R.engStat m = R.engStat n
      · rw [h]
        exact (State.fld_setFld_apart _ _ _ _ _ (by decide) hf hapart).trans (hz _ _)
      · exact (State.fld_setFld_ne _ _ _ _ _ _ h).trans (hz _ _)
    · rw [hone]
      by_cases h : m = n
      · rw [h]
        exact .inl (State.fld_setFld _ _ _ _ (by decide))
      · have hne : R.engStat m ≠ R.engStat n := by
          simp only [R.engStat]
          omega
        rw [State.fld_setFld_ne _ _ _ _ _ _ hne, hz]
        exact hm.imp_right fun e => (List.mem_cons.mp e).resolve_left h
    · have hb : (s.engWipe n).byte a = if engineData n ≤ a ∧ a < engineData n + 0x14000 then 0 else s.byte a := s.byte_zeroFill _ _ _
      rw [hb]
      by_cases h : engineData n ≤ a ∧ a < engineData n + 0x14000
      · exact .inl (if_pos h)
      · rw [if_neg h]
        refine ha.imp_right fun ⟨m, hm, hin⟩ => ?_
        rcases List.mem_cons.mp hm with rfl | hm
        · exact absurd hin h
        · exact ⟨m, hm, hin⟩

theorem State.engState_started {n : Nat} (hn : n < 96) : (s.started q tag.toNat).engState n = s.engState n :=
  State.fld_started (by simp only [R.engStat, R.hqeStat]; omega) _

theorem List.any_congr_mem {α : Type} {l : List α} {f g : α → Bool} (h : ∀ a ∈ l, f a = g a) : l.any f = l.any g := by
  rw [Bool.eq_iff_iff, List.any_eq_true, List.any_eq_true]
  exact exists_congr fun a => and_congr_right fun ha => by rw [h a ha]

theorem State.loadRefused_started {l : List Nat} (hl : ∀ n ∈ l, n < 96) (header : List Byte) (n : Nat) :
    (s.started q tag.toNat).loadRefused l header n = s.loadRefused l header n := by
  rw [State.loadRefused, State.loadRefused, List.any_congr_mem fun n hn => by rw [State.engState_started (hl n hn)],
    List.any_congr_mem (f := fun n => (s.started q tag.toNat).engState n == 0) fun n hn => by rw [State.engState_started (hl n hn)]]

theorem engines_lt {n : Nat} (h : n ∈ c.engines) : n < 96 := List.mem_range.mp (List.mem_filter.mp h).1

theorem exec_loadImage (sgl : List SgElem) (header : List Byte) (h : CommandReady s q tag.toNat 0x30 c x) (hsgl : c.sgl = false) (hlen : header.length = 128) :
    let status := s.loadRefused c.engines header (c.arg 0)
    (status ≠ 0 → ∃ t, exec (.loadImage q tag sgl header) s = .next t ∧ Completed s t q tag.toNat x c.sqHead 0 0 0 status 0 []) ∧
    (status = 0 → ∃ t, exec (.loadImage q tag sgl header) s = .next t ∧
      CommandStarts { s with mem := t.mem, sys := t.sys, pack := t.pack } t q tag.toNat (c.engines.map R.engStat) ∧
      t.pack = { s.pack with loads := s.pack.loads ++ [{ cmd := some (q.val, tag.toNat), targets := c.engines, header := header }] } ∧
      (∀ n ∈ c.engines, t.fld (R.engStat n) F.engStat.IMG = 0 ∧
        ∀ a, engineData n ≤ a → a < engineData n + 0x14000 → t.byte a = 0)) := by
  intro status
  have hexec : exec (.loadImage q tag sgl header) s = State.done (s.startCmd q tag.toNat 0x30 (fun c s => s.doLoadImage c sgl header)) := rfl
  obtain ⟨hqp, htag⟩ := State.cmdOf_names h.2.1
  have hlink : s.fld R.hqeStat F.hqeStat.LINK = 1 := by
    obtain ⟨-, -, -, -, -, -, -, -, -, hlink, -⟩ := h
    exact hlink
  have hreads : (s.started q tag.toNat).hqe.reads = [] := by
    obtain ⟨-, -, -, -, -, -, -, -, -, -, hreads⟩ := h
    exact hreads
  have hbytes : (s.started q tag.toNat).hostBytes c.qp c.tag header = header := by
    rw [State.hostBytes, State.bridge_of_le (by rw [State.link_started]; omega), if_neg Bool.false_ne_true]
  have htake : header.take 128 = header := List.take_of_length_le (by omega)
  obtain ⟨u, hu⟩ : ∃ u, u = c.engines.foldl (fun t n => t.engWipe n) (s.started q tag.toNat) := ⟨_, rfl⟩
  have heq : (s.started q tag.toNat).doLoadImage c sgl header = if status ≠ 0 then (s.started q tag.toNat).complete c.qp c.tag { status := status }
      else { u with pack := { u.pack with loads := u.pack.loads ++ [{ cmd := some (q.val, tag.toNat), targets := c.engines, header := header }] } } := by
    rw [State.doLoadImage, hsgl, if_neg Bool.false_ne_true]
    dsimp only
    rw [if_neg Bool.false_ne_true, hbytes, htake, State.loadRefused_started (fun n hn => engines_lt hn), State.dropReads_none hreads, ← hu, hqp, htag]
    rfl
  refine ⟨fun hbad => State.ends_refused h hexec (heq.trans (if_pos hbad)), fun hgood => ?_⟩
  rw [hexec, State.startCmd_done h, heq, if_neg (not_not_intro hgood)]
  obtain ⟨hstate, hreg, hfld, himg, hbyte⟩ := State.engWipes_spec c.engines (s.started q tag.toNat)
  rw [← hu] at hstate hreg hfld himg hbyte
  have hsys : u.sys = { s.sys with poison := u.sys.poison, bitErrs := u.sys.bitErrs } := (congrArg State.sys hstate :)
  have hpack : u.pack = s.pack := (congrArg State.pack hstate :)
  obtain ⟨p, hp⟩ : ∃ p : Pack, p = { s.pack with loads := s.pack.loads ++ [{ cmd := some (q.val, tag.toNat), targets := c.engines, header := header }] } := ⟨_, rfl⟩
  have hv : ({ u with pack := { u.pack with loads := u.pack.loads ++ [{ cmd := some (q.val, tag.toNat), targets := c.engines, header := header }] } } : State) =
      { u with pack := p } := by rw [hp, hpack]
  rw [hv]
  have hlt : ∀ o ∈ c.engines.map R.engStat, o ≠ R.hqeStat ∧ o ≠ R.hltStat ∧ o ≠ R.sysClkStat ∧ o ≠ R.sysBootStat := fun o ho => by
    obtain ⟨n, hn, rfl⟩ := List.mem_map.mp ho
    have := engines_lt hn
    simp only [R.engStat, R.hqeStat, R.hltStat, R.sysClkStat, R.sysBootStat]
    omega
  have hsame : ∀ o, o ∈ [R.hltStat, R.sysClkStat, R.sysBootStat] → u.reg o = s.reg o := fun o ho => by
    have hne : o ≠ R.hqeStat := by
      rintro rfl
      simp [R.hltStat, R.hqeStat, R.sysClkStat, R.sysBootStat] at ho
    refine (hreg o fun hin => ?_).trans (State.reg_started hne)
    obtain ⟨-, h1, h2, h3⟩ := hlt o hin
    simp only [List.mem_cons, List.not_mem_nil, or_false] at ho
    rcases ho with rfl | rfl | rfl
    · exact h1 rfl
    · exact h2 rfl
    · exact h3 rfl
  have hengine : u.engState 0 = s.engState 0 := (hfld _ (by decide) (by decide) 0).trans (State.engState_started (by decide))
  have husual : State.usual { u with pack := p } := by
    refine ⟨?_, State.settled_of s _ h.1.2 (congrArg State.work hstate :) ?_ ?_ ?_ (hsame _ (by simp)) (hsame _ (by simp)) (hsame _ (by simp))⟩
    · obtain ⟨⟨hwork, hrel, hsec⟩, -⟩ := h.1
      have hsec' : u.sec = s.sec := (congrArg State.sec hstate :)
      have hruns : State.e0Runs { u with pack := p } = s.e0Runs := by
        rw [State.e0Runs, State.e0Runs]
        change (u.engState 0 == 2 || u.engState 0 == 3) = _
        rw [hengine]
      have hbox : (State.eng { u with pack := p } 0).inbox = (s.eng 0).inbox := by
        rw [State.eng, hp]
        rfl
      have hq : State.quiet { u with pack := p } ↔ (u.work = [] ∧ u.fab.releases = [] ∧ (u.sec = { warm := u.sec.warm } ∨
        (State.e0Runs { u with pack := p } = true ∧ u.sec.reports = [] ∧ u.sec.hostLoss = none ∧ u.sec.running = none ∧ u.sec.boot = false ∧
          u.sec.due = [] ∧ (State.eng { u with pack := p } 0).inbox = []))) := Iff.rfl
      rw [hq, hruns, hbox, hsec', show u.work = s.work from (congrArg State.work hstate :), show u.fab = s.fab from (congrArg State.fab hstate :)]
      exact ⟨hwork, hrel, hsec⟩
    · exact (congrArg Sys.railsBad hsys :)
    · exact (congrArg Sys.porstLow hsys :)
    · exact (congrArg Sys.resetting hsys :)
  refine ⟨_, State.done_of_usual husual, ⟨?_, ?_, fun o ho => ?_⟩, hp, fun n hn => ⟨himg n (.inr hn), fun a h0 h1 => hbyte a (.inr ⟨n, hn, h0, h1⟩)⟩⟩
  · dsimp only
    generalize u.regs = r, u.mem = m, u.sys.poison = p1, u.sys.bitErrs = p2 at hstate ⊢
    rw [hstate]
    rfl
  · exact (State.fld_of_reg (hreg _ fun hin => (hlt _ hin).1 rfl) _).trans State.link_started
  · exact (hreg o fun hin => ho (List.mem_cons_of_mem _ hin)).trans (State.reg_started fun e => ho (e ▸ List.mem_cons_self))

end

/-- Settles O51: each queued command at its start, and what completes it later. -/
theorem hostCommands : Obligations.HostCommands := by
  intro s q tag c x ready ends refused
  refine ⟨exec_identify, exec_createQp, exec_deleteQp, exec_abort, exec_asyncEvent, fun ev rest hu => (exec_asyncEventDeliver hu).1 ev rest,
    fun hu => (exec_asyncEventDeliver (q := q) (tag := tag) (c := c) (x := x) hu).2,
    ⟨exec_closeStream, exec_saveContext, fun block => exec_openStream block, fun sgl => exec_postBuffer sgl, fun image => exec_restoreContext image⟩,
    fun sc hu => ⟨(exec_contextSnapshot sc hu).1, (exec_contextSnapshot (q := q) (tag := tag) (c := c) (x := x) sc hu).2,
      (exec_closeStreamComplete (q := q) (tag := tag) (c := c) (x := x) sc hu).1, (exec_closeStreamComplete sc hu).2⟩,
    exec_scanJob, exec_setGaitPolicy, exec_calibrate, exec_readAux,
    ⟨exec_transport, fun hu hx hc hop hs => exec_transportComplete hu hx hc hop hs⟩,
    ⟨exec_scrub, fun hu hx hc hop hst hs => exec_scrubComplete hu hx hc hop hst hs⟩, fun sgl header => exec_loadImage sgl header⟩

end Sys2Proof.Machine

/-!
A packet that a plain port receives, and the FLOW word that answers it (R432, R434, R435, R463).
-/
namespace Sys2Proof.Machine

/-- Only the state of port k may have changed; it is x. -/
structure State.PortIs (s t : State) (k : Nat) (x : Port) : Prop where
  state : t = { s with fab := { s.fab with ports := t.fab.ports } }
  port : t.port k = x
  others : ∀ j, j ≠ k → t.port j = s.port j

section
variable {s t u : State} {k : Nat} {x y : Port}

theorem State.portIs_setPort (s : State) (k : Nat) (x : Port) : s.PortIs (s.setPort k x) k x :=
  ⟨rfl, s.port_setPort k x, fun _ h => s.port_setPort_ne k x h⟩

theorem State.PortIs.trans (h : s.PortIs t k x) (h' : t.PortIs u k y) : s.PortIs u k y := by
  refine ⟨?_, h'.port, fun j hj => (h'.others j hj).trans (h.others j hj)⟩
  have hu := h'.state
  have ht := h.state
  generalize u.fab.ports = pu at hu ⊢
  generalize t.fab.ports = pt at ht
  rw [hu, ht]

theorem State.PortIs.regs (h : s.PortIs t k x) : t.regs = s.regs := (congrArg State.regs h.state :)

theorem State.PortIs.reg (h : s.PortIs t k x) (o : Nat) : t.reg o = s.reg o := State.reg_of_regs _ _ h.regs o

theorem State.PortIs.fld (h : s.PortIs t k x) (o : Nat) (f : Fld) : t.fld o f = s.fld o f := State.fld_of_reg (h.reg o) f

theorem State.PortIs.sys (h : s.PortIs t k x) : t.sys = s.sys := (congrArg State.sys h.state :)

theorem State.PortIs.mem (h : s.PortIs t k x) : t.mem = s.mem := (congrArg State.mem h.state :)

theorem State.PortIs.routeTo (h : s.PortIs t k x) (n : Nat) : t.routeTo n = s.routeTo n := State.routeTo_congr (fun _ => h.reg _) n

theorem State.PortIs.portState (h : s.PortIs t k x) (j : Nat) : t.portState j = s.portState j := h.fld _ _

end

/-- Ports and memory are nothing that the end of a command looks at. -/
theorem State.endsAlike_ports {s t : State} {m : Table Byte} (h : t = { s with regs := t.regs, mem := m, fab := { s.fab with ports := t.fab.ports } }) :
    s.EndsAlike t := ⟨by rw [h], by rw [h], by rw [h], by rw [h]; rfl, by rw [h], by rw [h], by rw [h]⟩

/-! ## Receiving -/

/-- What a node takes from a packet on a link without encryption. -/
def rxOf (type : Nat) (p : Packet) : RxPacket :=
  { type := type, dst := p.dst.toNat, src := p.src.toNat, ttl := p.ttl.toNat, plen := p.plen.toNat, tag := p.tag.toNat, arg := p.arg.toNat
    pcrc := p.pcrc.toNat, payload := p.payload, bad := p.bad }

/-- Flits of a received packet on a link without encryption. -/
def rxFlits (p : Packet) : Nat := 1 + (p.payload.length + 15) / 16

/-- A port that has accepted a packet: its number is the next to acknowledge, its flits are freed. -/
def takenPort (x : Port) (type : Nat) (p : Packet) : Port :=
  { x with
    rxSeq := (x.rxSeq + 1) % 128, ack := some p.lseq.toNat, nak := none
    own0 := if vcOf type = 0 then (x.own0 + rxFlits p) % 65536 else x.own0
    own1 := if vcOf type = 1 then (x.own1 + rxFlits p) % 65536 else x.own1 }

/-- The same port with other token buckets. -/
def Port.tokens (x : Port) (m r n : Nat) : Port := { x with msgTok := m, reqTok := r, tokTime := n }

section
variable {s t : State} {k type n : Nat} {p : Packet}

theorem State.linkReceive_plain (h : Arrives s k type n p) (h1 : 1 ≤ type) (h6 : type ≤ 6) :
    s.linkReceive k type p = (s.setPort k (takenPort (s.port k) type p), some (rxOf type p)) := by
  obtain ⟨-, ⟨-, hst, henc, -⟩, ⟨hseq, hlen, hpay, -, -⟩, -⟩ := h
  have hbit : s.bit (R.dlStat k) F.dlStat.ENC = false := State.bit_eq_false henc
  have hst' : s.portState k = Dl.active := hst
  have htake : p.payload.take (payloadLen type p.plen.toNat) = p.payload := by
    refine List.take_of_length_le (le_of_eq ?_)
    rw [hpay]
    rfl
  rw [State.linkReceive]
  simp only [hst', hbit, Bool.false_and]
  rw [if_neg (fun hs => hs.2.2 rfl), if_neg (fun hs => by
      rcases hs with hs | hs | hs | ⟨-, hs⟩
      · omega
      · omega
      · omega
      · exact hs rfl), if_neg (not_not.mpr hseq)]
  simp only [Bool.false_eq_true, if_false, htake]
  rfl

/-- A full bucket stays full enough after its refill. -/
theorem le_refill {tok rate dt c : Nat} (htok : c ≤ tok) : c ≤ refill tok (max 1 rate) (2 * max 1 rate * c) dt := by
  have h1 : 1 * c ≤ 2 * max 1 rate * c := Nat.mul_le_mul_right c (by omega)
  exact le_min (by omega) (by omega)

/-- A policer with tokens lets the packet pass. -/
theorem State.police_passes (hmsg : 800000 ≤ (s.port k).msgTok) (hreq : 8000 ≤ (s.port k).reqTok) :
    ∃ t m r n, s.police k type = (t, true) ∧ s.PortIs t k ((s.port k).tokens m r n) := by
  have hm : 800000 ≤ refill (s.port k).msgTok (s.msgRate k) (2 * s.msgRate k * 800000) (s.sys.time.toNat - (s.port k).tokTime) := le_refill hmsg
  have hr : 8000 ≤ refill (s.port k).reqTok (s.reqRate k) (2 * s.reqRate k * 8000) (s.sys.time.toNat - (s.port k).tokTime) := le_refill hreq
  rw [State.police]
  simp only [if_pos hm, if_pos hr]
  split
  · exact ⟨_, _, _, _, rfl, s.portIs_setPort k _⟩
  · split
    · exact ⟨_, _, _, _, rfl, s.portIs_setPort k _⟩
    · exact ⟨_, _, _, _, rfl, s.portIs_setPort k _⟩

theorem rxOf_crcOk (h : Arrives s k type n p) : (rxOf type p).crcOk = true := by
  obtain ⟨-, -, ⟨-, -, -, hcrc, -⟩, -⟩ := h
  exact beq_iff_eq.mpr hcrc

/-- A packet for this node, or a broadcast that goes no further, is taken (R432-R434, R463). -/
theorem State.receive_here (h : Arrives s k type n p) (h1 : 1 ≤ type) (h6 : type ≤ 6)
    (hdst : p.dst.toNat = 0 ∨ p.dst.toNat = s.nodeId ∨ p.dst.toNat = 255) (htree : p.dst.toNat = 255 → s.treePorts (some k) = []) :
    ∃ t a b c, s.receive k type p = (t, some (rxOf type p)) ∧ s.PortIs t k ((takenPort (s.port k) type p).tokens a b c) := by
  obtain ⟨u, hu⟩ : ∃ u, u = s.setPort k (takenPort (s.port k) type p) := ⟨_, rfl⟩
  have hlink := State.linkReceive_plain h h1 h6
  have hcrc := rxOf_crcOk h
  have hport : u.port k = takenPort (s.port k) type p := by rw [hu, State.port_setPort]
  have hnode : u.nodeId = s.nodeId := by rw [hu]; rfl
  have htree' : p.dst.toNat = 255 → u.treePorts (some k) = [] := by rw [hu]; exact htree
  obtain ⟨-, -, -, hmsg, hreq⟩ := h
  rw [← hu] at hlink
  obtain ⟨t, a, b, c, hpol, ht⟩ := u.police_passes (k := k) (type := type) (by rw [hport]; exact hmsg) (by rw [hport]; exact hreq)
  rw [hport] at ht
  refine ⟨t, a, b, c, ?_, (hu ▸ s.portIs_setPort k _).trans ht⟩
  rw [State.receive, hlink]
  have hne : ¬(rxOf type p).type = Dl.auth_ := fun e => absurd (show type = 7 from e) (by omega)
  have hlocal : ¬((rxOf type p).dst ≠ 0 ∧ (rxOf type p).dst ≠ 255 ∧ (rxOf type p).dst ≠ u.nodeId) := by
    rw [hnode]
    rintro ⟨d0, d255, dn⟩
    rcases hdst with e | e | e
    · exact d0 e
    · exact dn e
    · exact d255 e
  have hbroad : (if (rxOf type p).dst = 255 then
      (u.treePorts (some k)).foldl (fun t j => if (rxOf type p).ttl ≤ 1 then t else t.enqueue j { (rxOf type p).relay with ttl := (rxOf type p).ttl - 1 }) u
      else u) = u := by
    split
    · next e => rw [htree' e]; rfl
    · rfl
  simp only [if_neg hne, if_neg hlocal, hbroad, hpol, hcrc, if_true]

/-! ## The FLOW word -/

/-- The port once it has answered with FLOW. -/
def flowedPort (x : Port) (l : Nat) : Port :=
  { x with ack := none, nak := none,
           out := .word ⟨2, bytesLE 2 x.own0 ++ bytesLE 2 x.own1 ++ [BitVec.ofNat 8 (128 + l), 0]⟩ :: x.out }

theorem State.portIs_portOut (s : State) (k : Nat) (o : Out) : s.PortIs (s.portOut k o) k { s.port k with out := o :: (s.port k).out } :=
  s.portIs_setPort k _

theorem State.sendFlow_active {l : Nat} (hst : s.portState k = 5) (hack : (s.port k).ack = some l) (hnak : (s.port k).nak = none) :
    s.PortIs (s.sendFlow k) k (flowedPort (s.port k) l) := by
  have hears : s.portHears k = true := by rw [State.portHears, hst]; rfl
  obtain ⟨u, hu⟩ : ∃ u, u = s.setPort k { s.port k with ack := none, nak := none } := ⟨_, rfl⟩
  have heq : s.sendFlow k = u.portOut k (.word ⟨2, bytesLE 2 (s.port k).own0 ++ bytesLE 2 (s.port k).own1 ++ bytesLE 1 (128 + l) ++ bytesLE 1 0⟩) := by
    rw [State.sendFlow, hack, hnak, hears, hu]
    rfl
  have hset : s.PortIs u k { s.port k with ack := none, nak := none } := hu ▸ s.portIs_setPort k _
  obtain ⟨hstate, hport, hothers⟩ := hset.trans (u.portIs_portOut k (.word ⟨2, bytesLE 2 (s.port k).own0 ++ bytesLE 2 (s.port k).own1 ++ bytesLE 1 (128 + l) ++ bytesLE 1 0⟩))
  rw [heq]
  refine ⟨hstate, hport.trans ?_, hothers⟩
  rw [hset.port, flowedPort, List.append_assoc]
  rfl

/-- Two bytes hold a count modulo 65,536. -/
theorem bytesLE_two_mod (v : Nat) : bytesLE 2 (v % 65536) = bytesLE 2 v := by
  have hlow : BitVec.ofNat 8 (v % 65536) = BitVec.ofNat 8 v := BitVec.eq_of_toNat_eq (by
    rw [BitVec.toNat_ofNat, BitVec.toNat_ofNat]
    omega)
  have hhigh : BitVec.ofNat 8 (v % 65536 / 256) = BitVec.ofNat 8 (v / 256) := BitVec.eq_of_toNat_eq (by
    rw [BitVec.toNat_ofNat, BitVec.toNat_ofNat]
    omega)
  rw [bytesLE_succ, bytesLE_succ, bytesLE_succ, bytesLE_succ, hlow, hhigh]
  rfl

/-- The word of a port that has taken a packet is the one that answers it. -/
theorem flowFor_eq (x : Port) (type : Nat) (p : Packet) :
    flowFor x type p = .word ⟨2, bytesLE 2 (takenPort x type p).own0 ++ bytesLE 2 (takenPort x type p).own1 ++ [BitVec.ofNat 8 (128 + p.lseq.toNat), 0]⟩ := by
  have hvc : vcOf type = if type = 3 ∨ type = 4 then 1 else 0 := rfl
  rw [flowFor, takenPort]
  simp only [hvc]
  by_cases h : type = 3 ∨ type = 4
  · simp only [if_pos h, bytesLE_two_mod, Nat.add_zero, rxFlits]
    simp [bytesLE_two_mod]
  · simp only [if_neg h, bytesLE_two_mod, Nat.add_zero, rxFlits]
    simp [bytesLE_two_mod]

/-! ## What a port has accepted -/

/-- The port has taken a packet and is ready to answer it. -/
def State.Took (s t : State) (k type : Nat) (p : Packet) : Prop := ∃ a b c, s.PortIs t k ((takenPort (s.port k) type p).tokens a b c)

theorem State.Took.portIs (h : s.Took t k type p) : ∃ x, s.PortIs t k x := let ⟨_, _, _, h⟩ := h; ⟨_, h⟩

/-- Where nothing goes out on the port of the packet, only FLOW does. -/
theorem accepted_none {u : State} (ht : s.Took t k type p) (hst : u.portState k = 5) (hports : ∀ j, u.port j = t.port j) :
    Accepted s (u.sendFlow k) k type p none ∧ u.PortIs (u.sendFlow k) k ((u.sendFlow k).port k) := by
  obtain ⟨a, b, c, -, hport, hothers⟩ := ht
  have huk := (hports k).trans hport
  have hflow := State.sendFlow_active (l := p.lseq.toNat) hst (by rw [huk]; rfl) (by rw [huk]; rfl)
  refine ⟨⟨?_, fun j hj => (hflow.others j hj).trans ((hports j).trans (hothers j hj))⟩, hflow.state, rfl, hflow.others⟩
  rw [flowFor_eq, hflow.port, huk]
  unfold takenPort Port.tokens flowedPort vcOf
  by_cases h : type = 3 ∨ type = 4 <;> simp [h, Dl.rdRsp, Dl.wrRsp, rxFlits]

/-- Where an answer goes out on the port of the packet, FLOW follows it. -/
theorem accepted_some {v u : State} {q : TxPacket} (ht : s.Took t k type p) (hst : u.portState k = 5) (hports : ∀ j, v.port j = t.port j)
    (hsends : PortSends v u k q) :
    Accepted s (u.sendFlow k) k type p (some q) ∧ u.PortIs (u.sendFlow k) k ((u.sendFlow k).port k) := by
  obtain ⟨a, b, c, -, hport, hothers⟩ := ht
  obtain ⟨-, huk, huj, -, -⟩ := hsends
  rw [hports, hport] at huk
  have hflow := State.sendFlow_active (l := p.lseq.toNat) hst (by rw [huk]; rfl) (by rw [huk]; rfl)
  refine ⟨⟨?_, fun j hj => (hflow.others j hj).trans ((huj j hj).trans ((hports j).trans (hothers j hj)))⟩, hflow.state, rfl, hflow.others⟩
  rw [flowFor_eq, hflow.port, huk]
  unfold takenPort Port.tokens flowedPort vcOf
  by_cases h : type = 3 ∨ type = 4 <;> simp [h, Dl.rdRsp, Dl.wrRsp, rxFlits]

end

/-! ## What a packet's command does -/

section
variable {s : State} {k : Fin 4} {type n : Nat} {p : Packet}

/-- This packet is for this node and goes no further. -/
def State.forThisNode (s : State) (k : Nat) (p : Packet) : Prop :=
  (p.dst.toNat = 0 ∨ p.dst.toNat = s.nodeId ∨ p.dst.toNat = 255) ∧ (p.dst.toNat = 255 → s.treePorts (some k) = [])

theorem State.afterPort_stays {a b : State} {j : Nat} (h : b.portState j = a.portState j) : State.afterPort a b j = b := by
  rw [State.afterPort, h]
  exact if_pos (beq_self_eq_true _)

theorem State.sendFlow_portState (u : State) (j : Nat) : (u.sendFlow j).portState j = u.portState j := by
  rw [State.sendFlow]
  dsimp only
  split
  · rfl
  · rfl

theorem State.took_of_arrives (h : Arrives s k type n p) (h1 : 1 ≤ type) (h6 : type ≤ 6) (hdst : s.forThisNode k p) :
    ∃ t, s.receive k type p = (t, some (rxOf type p)) ∧ s.Took t k type p := by
  obtain ⟨t, a, b, c, hreceive, hport⟩ := State.receive_here h h1 h6 hdst.1 hdst.2
  exact ⟨t, hreceive, a, b, c, hport⟩

/-- A packet for this node: what this node does with it, then FLOW. -/
theorem State.onPacket_took (h : Arrives s k type n p) (h1 : 1 ≤ type) (h6 : type ≤ 6) (hdst : s.forThisNode k p) (f : State → RxPacket → State)
    (hf : ∀ t, s.Took t k type p → (f t (rxOf type p)).portState k = 5) :
    ∃ t, s.Took t k type p ∧ s.onPacket k type p f = (f t (rxOf type p)).sendFlow k := by
  obtain ⟨t, hreceive, htook⟩ := State.took_of_arrives h h1 h6 hdst
  have hst : s.portState k = 5 := h.2.1.2.1
  refine ⟨t, htook, ?_⟩
  rw [State.onPacket, State.onPort, hreceive]
  exact State.afterPort_stays ((State.sendFlow_portState _ _).trans ((hf t htook).trans hst.symm))

/-- The same of a message with its code. -/
theorem State.onMessage_took {code : Nat} (h : Arrives s k type n p) (h1 : 1 ≤ type) (h6 : type ≤ 6) (hdst : s.forThisNode k p) (f : State → RxPacket → State)
    (hcode : numAt p.payload 0 1 = code) (hf : ∀ t, s.Took t k type p → (f t (rxOf type p)).portState k = 5) :
    ∃ t, s.Took t k type p ∧ s.onMessage k type code p f = (f t (rxOf type p)).sendFlow k := by
  obtain ⟨t, hreceive, htook⟩ := State.took_of_arrives h h1 h6 hdst
  have hst : s.portState k = 5 := h.2.1.2.1
  refine ⟨t, htook, ?_⟩
  rw [State.onMessage, State.onPort, hreceive]
  have hmine : (if numAt (rxOf type p).payload 0 1 = code then (f t (rxOf type p)).sendFlow k else s) = (f t (rxOf type p)).sendFlow k := if_pos hcode
  simp only [hmine]
  exact State.afterPort_stays ((State.sendFlow_portState _ _).trans ((hf t htook).trans hst.symm))

end

end Sys2Proof.Machine

/-!
Requests that a node serves or refuses (R451).
-/
namespace Sys2Proof.Machine

section
variable {s t u : State} {k n : Nat} {type : Nat} {p : Packet}

theorem State.PortIs.plainPort {x : Port} (h : s.PortIs t k x) (hplain : PlainPort s k n) (hrekey : x.rekey = (s.port k).rekey)
    (hqueue : x.queue = (s.port k).queue) (hreplay : x.replay = (s.port k).replay) : PlainPort t k n := by
  obtain ⟨hk, hst, henc, hr, hq, hrep, hc0, hc1⟩ := hplain
  refine ⟨hk, (h.portState k).trans hst, (h.fld _ _).trans henc, ?_, ?_, ?_, ?_, ?_⟩
  · rw [h.port, hrekey]; exact hr
  · rw [h.port, hqueue]; exact hq
  · rw [h.port, hreplay]; exact hrep
  · rw [State.credits_eq, h.fld, ← State.credits_eq]; exact hc0
  · rw [State.credits_eq, h.fld, ← State.credits_eq]; exact hc1

/-- The port of a packet just taken is as plain as it was. -/
theorem State.Took.plainPort (h : s.Took t k type p) (hplain : PlainPort s k n) : PlainPort t k n := by
  obtain ⟨a, b, c, h⟩ := h
  exact h.plainPort hplain rfl rfl rfl

theorem PlainPort.mono {m : Nat} (h : PlainPort s k n) (hm : m ≤ n) : PlainPort s k m := by
  obtain ⟨hk, hst, henc, hr, hq, hrep, hc0, hc1⟩ := h
  exact ⟨hk, hst, henc, hr, hq, hrep, hm.trans hc0, hm.trans hc1⟩

/-- A packet of this node toward a plain port. -/
theorem State.routePacket_plain {q : TxPacket} (hplain : PlainPort s k n) (hroute : s.routeTo q.dst = k)
    (hn : 1 + (q.payload.length + 15) / 16 ≤ n) : PortSends s (s.routePacket q) k q := by
  have hst : s.portState k = Dl.active := hplain.2.1
  rw [State.routePacket]
  simp only [hroute]
  rw [if_pos ⟨hplain.1, hst⟩]
  exact State.enqueue_sends (PlainPort.mono hplain hn) rfl

/-- A packet that this node originates, without poison. -/
theorem State.packet_fromHere (s : State) {type : Nat} (ht : type ≠ 7) (dst tag arg plen : Nat) (payload : List Byte) :
    s.packet type dst tag arg plen payload [] = fromHere s type dst tag arg plen payload := by
  rw [State.packet]
  simp only [if_neg (show ¬type = Dl.auth_ from ht)]
  rfl

/-- An answer without poison goes out on the plain port of its route. -/
theorem State.respond_clean {req dst tag status : Nat} (hplain : PlainPort s k n) (hroute : s.routeTo dst = k) (hreq : req < 5)
    (l : List Byte) (hn : 1 + (l.length + 15) / 16 ≤ n) :
    PortSends s (s.respond req dst tag status (l.map (fun b => (b, false)))) k (fromHere s (req + 2) dst tag status l.length l) := by
  have hmap : (l.map (fun b => (b, false))).map (fun b : Byte × Bool => b.1) = l := by
    rw [List.map_map]
    exact List.map_id l
  have hbad : (List.range (((l.map (fun b => (b, false))).length + 15) / 16)).filter
      (fun i => (((l.map (fun b => (b, false))).drop (16 * i)).take 16).any (fun b : Byte × Bool => b.2)) = [] := by
    refine List.filter_eq_nil_iff.mpr fun i _ => ?_
    rw [List.any_eq_true]
    rintro ⟨b, hb, hb2⟩
    obtain ⟨c, -, rfl⟩ := List.mem_map.mp (List.mem_of_mem_drop (List.mem_of_mem_take hb))
    exact absurd hb2 Bool.false_ne_true
  rw [State.respond]
  simp only [hmap, hbad]
  rw [State.packet_fromHere _ (by omega)]
  exact State.routePacket_plain hplain hroute hn

theorem State.reg_dlfError (u : State) (status node port x : Nat) : (u.dlfError status node port).reg x =
    if x = R.dlfErr ∧ u.fld R.dlfErr F.dlfErr.VALID ≠ 1 then BitVec.ofNat 32 (1 + status * 2 ^ 8 + node * 2 ^ 16 + port * 2 ^ 24) else u.reg x := by
  rw [State.dlfError, State.bit_eq_beq u _ rfl]
  by_cases h : u.fld R.dlfErr F.dlfErr.VALID = 1
  · rw [h, if_pos (beq_self_eq_true _), if_neg (fun e => e.2 rfl)]
  · rw [if_neg (by rwa [beq_iff_eq]), State.reg_setReg]
    by_cases e : x = R.dlfErr
    · rw [if_pos e, if_pos ⟨e, h⟩]
    · rw [if_neg e, if_neg (fun c => e c.1)]

theorem State.dlfError_state (u : State) (status node port : Nat) : u.dlfError status node port = { u with regs := (u.dlfError status node port).regs } := by
  rw [State.dlfError]
  split <;> rfl

/-- A window lets a request pass, or none does (R451). -/
theorem State.windowAllows_iff (src off len : Nat) (write : Bool) : s.windowAllows src off len write = true ↔
    off + len ≤ 0x7C000000 ∧ 0 < len ∧ ∃ i, i < 8 ∧
      s.fld (R.dlfRwinA i) F.dlfRwinA.EN = 1 ∧ (if write then s.fld (R.dlfRwinA i) F.dlfRwinA.WR else s.fld (R.dlfRwinA i) F.dlfRwinA.RD) = 1 ∧
      (s.fld (R.dlfRwinB i) F.dlfRwinB.SRC = 0 ∨ s.fld (R.dlfRwinB i) F.dlfRwinB.SRC = src) ∧ s.fld (R.dlfRwinA i) F.dlfRwinA.BASE * 65536 ≤ off ∧
      off + len ≤ (s.fld (R.dlfRwinA i) F.dlfRwinA.BASE + s.fld (R.dlfRwinB i) F.dlfRwinB.SIZE) * 65536 := by
  have hdir : ∀ i, (if write then s.bit (R.dlfRwinA i) F.dlfRwinA.WR else s.bit (R.dlfRwinA i) F.dlfRwinA.RD) = true ↔
      (if write then s.fld (R.dlfRwinA i) F.dlfRwinA.WR else s.fld (R.dlfRwinA i) F.dlfRwinA.RD) = 1 := fun i => by
    cases write
    · exact State.bit_iff_one rfl
    · exact State.bit_iff_one rfl
  rw [State.windowAllows, Bool.and_eq_true, List.any_eq_true, decide_eq_true_eq]
  simp only [Bool.and_eq_true, Bool.or_eq_true, beq_iff_eq, decide_eq_true_eq, State.bit_iff_one (show F.dlfRwinA.EN.width = 1 from rfl), hdir, List.mem_range,
    Nat.add_mul]
  exact ⟨fun ⟨⟨i, hi, ⟨⟨hen, hdir⟩, hsrc⟩, hlo, hhi⟩, hpos, hend⟩ => ⟨hend, hpos, i, hi, hen, hdir, hsrc, hlo, hhi⟩,
    fun ⟨hend, hpos, i, hi, hen, hdir, hsrc, hlo, hhi⟩ => ⟨⟨i, hi, ⟨⟨hen, hdir⟩, hsrc⟩, hlo, hhi⟩, hpos, hend⟩⟩

end

/-! ## A request that is answered by its port -/

section
variable {s : State} {k : Fin 4} {p : Packet} {type : Nat}

/-- What the packet's work may do before its answer: memory, and the registers of a refusal. -/
structure State.Serves (s t u : State) (s0 : State) (ρ : Nat → Word) : Prop where
  state : u = { s0 with regs := u.regs, fab := t.fab }
  reg : ∀ x, u.reg x = ρ x

theorem State.exec_answers {s0 : State} {ρ : Nat → Word} {f : State → RxPacket → State} {status : Nat} {data : List Byte}
    (h : Arrives s k type 17 p) (h1 : 1 ≤ type) (h2 : type ≤ 2) (hdst : s.forThisNode k p) (hroute : s.routeTo p.src.toNat = k)
    (hs0 : s0 = { s with mem := s0.mem }) (hρ : ∀ x, x ≠ R.dlfViolCnt → x ≠ R.dlfErr → ρ x = s.reg x) (hdata : data.length ≤ 256)
    (hf : ∀ t, s.Took t k type p → ∃ u, s.Serves t u s0 ρ ∧ f t (rxOf type p) = u.respond type p.src.toNat p.tag.toNat status (data.map (fun b => (b, false)))) :
    ∃ t, State.done (s.onPacket k type p f) = .next t ∧ t = { s0 with regs := t.regs, fab := { s.fab with ports := t.fab.ports } } ∧
      Accepted s t k type p (some (fromHere s (type + 2) p.src.toNat p.tag.toNat status data.length data)) ∧
      t.credits k 1 = s.credits k 1 - (1 + (data.length + 15) / 16) ∧ ∀ x, x ≠ R.dlCred k → t.reg x = ρ x := by
  have hplain : PlainPort s k 17 := h.2.1
  have hk := hplain.1
  have hsends : ∀ t, s.Took t k type p → ∃ u, s.Serves t u s0 ρ ∧ u.portState k = 5 ∧
      PortSends u (f t (rxOf type p)) k (fromHere s (type + 2) p.src.toNat p.tag.toNat status data.length data) ∧ PlainPort u k 17 := fun t htook => by
    obtain ⟨u, hu, heq⟩ := hf t htook
    have hreg : ∀ x, x ≠ R.dlfViolCnt → x ≠ R.dlfErr → u.reg x = s.reg x := fun x e e' => (hu.reg x).trans (hρ x e e')
    have hport : ∀ j, u.port j = t.port j := fun j => by rw [State.port, hu.state]; rfl
    have htreg : ∀ x, t.reg x = s.reg x := fun x => by obtain ⟨_, _, _, ht⟩ := htook; exact ht.reg x
    have huplain : PlainPort u k 17 := plainPort_of (htook.plainPort hplain) (hport k)
      ((hreg _ (by simp only [R.dlStat, R.dlfViolCnt]; omega) (by simp only [R.dlStat, R.dlfErr]; omega)).trans (htreg _).symm)
      ((hreg _ (by simp only [R.dlCred, R.dlfViolCnt]; omega) (by simp only [R.dlCred, R.dlfErr]; omega)).trans (htreg _).symm)
    have huroute : u.routeTo p.src.toNat = k := by
      rw [State.routeTo_congr fun i => hreg _ (by simp only [R.dlfRt, R.dlfViolCnt]; omega) (by simp only [R.dlfRt, R.dlfErr]; omega)]
      exact hroute
    have hnode : u.nodeId = s.nodeId := State.fld_of_reg (hreg _ (by decide) (by decide)) _
    have hfrom : fromHere u (type + 2) p.src.toNat p.tag.toNat status data.length data = fromHere s (type + 2) p.src.toNat p.tag.toNat status data.length data := by
      rw [fromHere, fromHere, hnode]
    have hout := State.respond_clean (tag := p.tag.toNat) (status := status) huplain huroute (by omega : type < 5) data (by omega)
    rw [hfrom, ← heq] at hout
    exact ⟨u, hu, huplain.2.1, hout, huplain⟩
  have hsend5 : ∀ {u v : State} {q : TxPacket}, PortSends u v k q → u.portState k = 5 → v.portState k = 5 := fun hpq hst =>
    (State.fld_of_reg (hpq.2.2.2.2 _ (by simp only [R.dlStat, R.dlCred]; omega)) _).trans hst
  obtain ⟨t, htook, heq⟩ := State.onPacket_took h h1 (by omega) hdst f fun t htook => by
    obtain ⟨u, -, hst, hsend, -⟩ := hsends t htook
    exact hsend5 hsend hst
  obtain ⟨u, hu, hst, hsend, -⟩ := hsends t htook
  have hports : ∀ j, u.port j = t.port j := fun j => by rw [State.port, hu.state]; rfl
  obtain ⟨haccepted, hflow⟩ := accepted_some htook (hsend5 hsend hst) hports hsend
  obtain ⟨hstate, -, -, hcred, hreg⟩ := hsend
  have hfab : t.fab = { s.fab with ports := t.fab.ports } := by
    obtain ⟨_, _, _, ht⟩ := htook
    exact (congrArg State.fab ht.state :)
  generalize hv : f t (rxOf type p) = v at *
  have hfinal : (v.sendFlow k).regs = v.regs := hflow.regs
  have hregs : ∀ x, x ≠ R.dlCred k → (v.sendFlow k).reg x = ρ x := fun x hx => (hflow.reg x).trans ((hreg x hx).trans (hu.reg x))
  have hwhole : v.sendFlow k = { s0 with regs := (v.sendFlow k).regs, fab := { s.fab with ports := (v.sendFlow k).fab.ports } } := by
    have h3 := hflow.state
    have h2 := hstate
    have h1 := hu.state
    rw [hfab] at h1
    generalize v.sendFlow k = z at h3 ⊢
    generalize z.fab.ports = pz at h3 ⊢
    rw [h3]
    generalize v.fab.ports = pv at h2
    generalize v.regs = rv at h2
    rw [h2, h1]
  refine ⟨v.sendFlow k, ?_, hwhole, haccepted, ?_, hregs⟩
  · rw [heq]
    refine State.done_of_endsAlike (l := [R.dlCred k, R.dlfViolCnt, R.dlfErr]) h.1 (State.endsAlike_ports (m := s0.mem) ?_) (fun x hx => ?_) ?_
    · generalize v.sendFlow k = z at hwhole ⊢
      generalize s0.mem = m0 at hs0 ⊢
      rw [hwhole, hs0]
    · simp only [List.mem_cons, List.not_mem_nil, or_false, not_or] at hx
      exact (hregs x hx.1).trans (hρ x hx.2.1 hx.2.2)
    · exact endIgnores_of fun o ho => by
        simp only [List.mem_cons, List.not_mem_nil, or_false, R.dlCred, R.dlfViolCnt, R.dlfErr] at ho
        omega
  · rw [State.credits_eq, hflow.fld, ← State.credits_eq, hcred 1 (by decide), if_pos (by
      show 1 = if type + 2 = 3 ∨ type + 2 = 4 then 1 else 0
      rw [if_pos (by omega)])]
    have hcu : u.credits k 1 = s.credits k 1 := by
      rw [State.credits_eq, State.credits_eq]
      exact State.fld_of_reg ((hu.reg _).trans (hρ _ (by simp only [R.dlCred, R.dlfViolCnt]; omega) (by simp only [R.dlCred, R.dlfErr]; omega))) _
    rw [hcu]
    rfl

/-- What a request may do at this node (R451). -/
abbrev State.lets (s : State) (p : Packet) (write : Bool) : Prop :=
  p.arg.toNat + p.plen.toNat ≤ 0x7C000000 ∧ 0 < p.plen.toNat ∧ ∃ i, i < 8 ∧
    s.fld (R.dlfRwinA i) F.dlfRwinA.EN = 1 ∧ (if write then s.fld (R.dlfRwinA i) F.dlfRwinA.WR else s.fld (R.dlfRwinA i) F.dlfRwinA.RD) = 1 ∧
    (s.fld (R.dlfRwinB i) F.dlfRwinB.SRC = 0 ∨ s.fld (R.dlfRwinB i) F.dlfRwinB.SRC = p.src.toNat) ∧ s.fld (R.dlfRwinA i) F.dlfRwinA.BASE * 65536 ≤ p.arg.toNat ∧
    p.arg.toNat + p.plen.toNat ≤ (s.fld (R.dlfRwinA i) F.dlfRwinA.BASE + s.fld (R.dlfRwinB i) F.dlfRwinB.SIZE) * 65536

theorem State.windowAllows_congr {t : State} (h : ∀ o, t.reg o = s.reg o) (src off len : Nat) (write : Bool) :
    t.windowAllows src off len write = s.windowAllows src off len write := by
  have hfld : ∀ o f, t.fld o f = s.fld o f := fun o => State.fld_of_reg (h o)
  rw [Bool.eq_iff_iff, State.windowAllows_iff, State.windowAllows_iff]
  simp only [hfld]

theorem State.pdOn_of_reg {t : State} (h : ∀ o, t.reg o = s.reg o) (d : Nat) : t.pdOn d = s.pdOn d := by
  rw [State.pdOn, h, State.pdOn]

/-- A request that a window lets pass. -/
theorem State.onRequest_allowed {t : State} (h : ∀ o, t.reg o = s.reg o) (hallowed : s.lets p (type == 2)) (hpd : s.pdOn 127 = true) (j : Nat) :
    t.onRequest j (rxOf type p) =
      if type == 2 then
        (p.bad.foldl (fun t i => t.memWritePoison (pageBase + p.arg.toNat + 16 * i) ((p.payload.drop (16 * i)).take 16)) (t.memWrite (pageBase + p.arg.toNat) p.payload)).respond
          type p.src.toNat p.tag.toNat 0 []
      else
        let u := t.memRead (pageBase + p.arg.toNat) p.plen.toNat
        let data := (List.range p.plen.toNat).map (fun i => (u.byte (pageBase + p.arg.toNat + i), u.poisoned (pageBase + p.arg.toNat + i)))
        u.respond type p.src.toNat p.tag.toNat (if data.any (fun b => b.2) then St.eccUncorrectable else 0) data := by
  have hlt : p.arg.toNat < 2 ^ 31 := by
    have := hallowed.1
    omega
  have hwin : t.windowAllows p.src.toNat p.arg.toNat p.plen.toNat (type == 2) = true := by
    rw [State.windowAllows_congr h]
    exact (State.windowAllows_iff _ _ _ _).mpr hallowed
  have hpd' : (!t.pdOn 127) = false := by rw [State.pdOn_of_reg h, hpd]; rfl
  have hoff : (rxOf type p).arg % 2 ^ 31 = p.arg.toNat := Nat.mod_eq_of_lt hlt
  rw [State.onRequest]
  simp only [hoff]
  refine (if_pos ⟨hlt, hwin⟩).trans ?_
  rw [hpd', if_neg Bool.false_ne_true]
  rfl

/-- A request that no window lets pass. -/
theorem State.onRequest_refused {t : State} (h : ∀ o, t.reg o = s.reg o) (hrefused : ¬s.lets p (type == 2)) (j : Nat) :
    t.onRequest j (rxOf type p) =
      ((t.count R.dlfViolCnt).dlfError St.busError p.src.toNat j).respond type p.src.toNat p.tag.toNat St.busError [] := by
  refine if_neg fun hpass => hrefused ?_
  obtain ⟨hlt, hwin⟩ := hpass
  have hlt' : p.arg.toNat < 2 ^ 31 := hlt
  have hoff : (rxOf type p).arg % 2 ^ 31 = p.arg.toNat := Nat.mod_eq_of_lt hlt'
  rw [hoff, State.windowAllows_congr h] at hwin
  exact (State.windowAllows_iff _ _ _ _).mp hwin

theorem State.Took.reg {t : State} (h : s.Took t k type p) (o : Nat) : t.reg o = s.reg o := by
  obtain ⟨_, _, _, ht⟩ := h
  exact ht.reg o

theorem State.Took.state {t : State} (h : s.Took t k type p) : t = { s with fab := { s.fab with ports := t.fab.ports } } := by
  obtain ⟨_, _, _, ht⟩ := h
  exact ht.state

theorem exec_rdReq (herr : s.sys.bitErrs = []) (hpoison : s.sys.poison = []) (h : Arrives s k 1 17 p) (hdst : s.forThisNode k p)
    (hroute : s.routeTo p.src.toNat = k) (hallowed : s.lets p false) (hpd : s.pdOn 127 = true) :
    ∃ t, exec (.rdReq k p) s = .next t ∧ t = { s with regs := t.regs, fab := { s.fab with ports := t.fab.ports } } ∧
      Accepted s t k 1 p (some (fromHere s 3 p.src.toNat p.tag.toNat 0 (s.bytes (pageBase + p.arg.toNat) p.plen.toNat).length
        (s.bytes (pageBase + p.arg.toNat) p.plen.toNat))) ∧
      t.credits k 1 = s.credits k 1 - (1 + ((s.bytes (pageBase + p.arg.toNat) p.plen.toNat).length + 15) / 16) ∧
      ∀ x, x ≠ R.dlCred k → t.reg x = s.reg x := by
  have hlen : (s.bytes (pageBase + p.arg.toNat) p.plen.toNat).length ≤ 256 := by
    rw [State.bytes, List.length_map, List.length_range]
    exact h.2.2.1.2.1
  refine State.exec_answers (f := fun t q => t.onRequest k q) h (by decide) (by decide) hdst hroute rfl (fun _ _ _ => rfl) hlen fun t htook => ?_
  have hsys : t.sys = s.sys := by rw [htook.state]
  have hbyte : ∀ a, t.byte a = s.byte a := fun a => by rw [htook.state]; rfl
  refine ⟨t, ⟨by rw [htook.state], htook.reg⟩, ?_⟩
  rw [State.onRequest_allowed htook.reg hallowed hpd, if_neg (by decide), State.memRead_of_clean (by rw [hsys]; exact herr) (by rw [hsys]; exact hpoison)]
  have hdata : (List.range p.plen.toNat).map (fun i => (t.byte (pageBase + p.arg.toNat + i), t.poisoned (pageBase + p.arg.toNat + i))) =
      (s.bytes (pageBase + p.arg.toNat) p.plen.toNat).map (fun b => (b, false)) := by
    rw [State.bytes, List.map_map]
    refine List.map_congr_left fun i _ => ?_
    rw [hbyte, State.poisoned, hsys, hpoison]
    rfl
  have hany : ((s.bytes (pageBase + p.arg.toNat) p.plen.toNat).map (fun b => (b, false))).any (fun b : Byte × Bool => b.2) = false := by
    rw [List.any_map, List.any_eq_false]
    exact fun _ _ => Bool.false_ne_true
  simp only [hdata, hany, Bool.false_eq_true, if_false]

theorem exec_wrReq (herr : s.sys.bitErrs = []) (hpoison : s.sys.poison = []) (h : Arrives s k 2 17 p) (hdst : s.forThisNode k p)
    (hroute : s.routeTo p.src.toNat = k) (hallowed : s.lets p true) (hpd : s.pdOn 127 = true) (hbad : p.bad = []) :
    let s0 := s.setBytes (pageBase + p.arg.toNat) p.payload
    ∃ t, exec (.wrReq k p) s = .next t ∧ t = { s0 with regs := t.regs, fab := { s.fab with ports := t.fab.ports } } ∧
      Accepted s t k 2 p (some (fromHere s 4 p.src.toNat p.tag.toNat 0 0 [])) ∧ t.credits k 1 = s.credits k 1 - 1 ∧ ∀ x, x ≠ R.dlCred k → t.reg x = s.reg x := by
  refine State.exec_answers (f := fun t q => t.onRequest k q) (data := []) h (by decide) (by decide) hdst hroute (s.setBytes_state _ _) (fun _ _ _ => rfl)
    (by decide) fun t htook => ?_
  have hsys : t.sys = s.sys := by rw [htook.state]
  refine ⟨t.setBytes (pageBase + p.arg.toNat) p.payload, ⟨?_, fun x => ?_⟩, ?_⟩
  · rw [State.setBytes_state t, State.setBytes_state s, State.mem_setBytes_congr (by rw [htook.state] : t.mem = s.mem), htook.state]
  · rw [State.setBytes_state]
    exact htook.reg x
  · rw [State.onRequest_allowed htook.reg hallowed hpd, if_pos (by decide), hbad,
      State.memWrite_of_clean (by rw [hsys]; exact herr) (by rw [hsys]; exact hpoison)]
    rfl

theorem exec_refusedRequest (write : Bool) (type : Nat) (htype : type = if write then 2 else 1) (h : Arrives s k type 17 p) (hdst : s.forThisNode k p)
    (hroute : s.routeTo p.src.toNat = k) (hrefused : ¬s.lets p write) :
    ∃ t, State.done (s.onPacket k type p (fun t q => t.onRequest k q)) = .next t ∧ t = { s with regs := t.regs, fab := { s.fab with ports := t.fab.ports } } ∧
      Accepted s t k type p (some (fromHere s (type + 2) p.src.toNat p.tag.toNat St.busError 0 [])) ∧ t.credits k 1 = s.credits k 1 - 1 ∧
      ∀ x, x ≠ R.dlCred k → t.reg x = ((s.count R.dlfViolCnt).dlfError St.busError p.src.toNat k).reg x := by
  have hw : (type == 2) = write := by rw [htype]; cases write <;> rfl
  refine State.exec_answers (f := fun t q => t.onRequest k q) (data := []) h (by rw [htype]; split <;> decide) (by rw [htype]; split <;> decide) hdst hroute rfl
    (fun x hx hx' => ?_) (by decide) fun t htook => ?_
  · rw [State.reg_dlfError, if_neg (fun e => hx' e.1), State.reg_count, if_neg hx]
  · have hcount : ∀ x, (t.count R.dlfViolCnt).reg x = (s.count R.dlfViolCnt).reg x := fun x => by
      rw [State.reg_count, State.reg_count, htook.reg, htook.reg]
    refine ⟨(t.count R.dlfViolCnt).dlfError St.busError p.src.toNat k, ⟨?_, fun x => ?_⟩, ?_⟩
    · rw [State.dlfError_state, htook.state]
      rfl
    · rw [State.reg_dlfError, State.reg_dlfError, hcount, State.fld_of_reg (hcount _)]
    · exact State.onRequest_refused htook.reg (by rw [hw]; exact hrefused) k

end

end Sys2Proof.Machine

/-!
Responses and the requests that get none (R449, R450).
-/
namespace Sys2Proof.Machine

section
variable {s : State} {k : Fin 4} {n type : Nat} {p : Packet}

/-- The port has taken the packet and answers it with FLOW alone; `u` is what the packet's work leaves. -/
structure State.Accepts (s u v : State) (k type : Nat) (p : Packet) : Prop where
  accepted : Accepted s v k type p none
  state : v = { u with fab := { u.fab with ports := v.fab.ports } }

theorem State.Accepts.reg {u v : State} {j : Nat} (h : s.Accepts u v j type p) (o : Nat) : v.reg o = u.reg o :=
  State.reg_of_regs _ _ (congrArg State.regs h.state :) o

/-- A packet for this node whose work sends nothing and leaves the ports. -/
theorem State.onPacket_accepts (h : Arrives s k type n p) (h1 : 1 ≤ type) (h6 : type ≤ 6) (hdst : s.forThisNode k p) {f : State → RxPacket → State}
    (hf : ∀ t, s.Took t k type p → (f t (rxOf type p)).portState k = 5 ∧ ∀ j, (f t (rxOf type p)).port j = t.port j) :
    ∃ t, s.Took t k type p ∧ s.Accepts (f t (rxOf type p)) (s.onPacket k type p f) k type p := by
  obtain ⟨t, htook, heq⟩ := State.onPacket_took h h1 h6 hdst f fun t ht => (hf t ht).1
  obtain ⟨hst, hports⟩ := hf t htook
  obtain ⟨haccepted, hflow⟩ := accepted_none htook hst hports
  rw [heq]
  exact ⟨t, htook, haccepted, hflow.state⟩

/-- The same of a message with its code. -/
theorem State.onMessage_accepts {code : Nat} (h : Arrives s k type n p) (h1 : 1 ≤ type) (h6 : type ≤ 6) (hdst : s.forThisNode k p) {f : State → RxPacket → State}
    (hcode : numAt p.payload 0 1 = code)
    (hf : ∀ t, s.Took t k type p → (f t (rxOf type p)).portState k = 5 ∧ ∀ j, (f t (rxOf type p)).port j = t.port j) :
    ∃ t, s.Took t k type p ∧ s.Accepts (f t (rxOf type p)) (s.onMessage k type code p f) k type p := by
  obtain ⟨t, htook, heq⟩ := State.onMessage_took h h1 h6 hdst f hcode fun t ht => (hf t ht).1
  obtain ⟨hst, hports⟩ := hf t htook
  obtain ⟨haccepted, hflow⟩ := accepted_none htook hst hports
  rw [heq]
  exact ⟨t, htook, haccepted, hflow.state⟩

theorem State.Took.portState {t : State} (h : s.Took t k type p) (hplain : PlainPort s k n) : t.portState k = 5 := (h.plainPort hplain).2.1

theorem State.Took.fab {t : State} (h : s.Took t k type p) : t.fab = { s.fab with ports := t.fab.ports } := (congrArg State.fab h.state :)

theorem State.Took.fld {t : State} (h : s.Took t k type p) (o : Nat) (f : Fld) : t.fld o f = s.fld o f := State.fld_of_reg (h.reg o) f

/-- What a packet's work leaves ends the command where it touches only registers that the end of a command does not look at, and ports. -/
theorem State.Accepts.ends_counted {t v : State} {o : Nat} (hu : s.usual) (ht : s.Took t k type p) (h : s.Accepts (t.count o) v k type p)
    (ho : endIgnores [o]) : State.done v = .next v ∧ v = { s with regs := v.regs, fab := { s.fab with ports := v.fab.ports } } ∧
      v.reg o = satInc (s.reg o) ∧ ∀ x, x ≠ o → v.reg x = s.reg x := by
  have hstate : v = { s with regs := v.regs, fab := { s.fab with ports := v.fab.ports } } := by
    have h1 := h.state
    have h2 := ht.state
    generalize v.fab.ports = pv at h1 ⊢
    generalize t.fab.ports = pt at h2
    rw [h1, h2]
    rfl
  have hreg : ∀ x, v.reg x = if x = o then satInc (s.reg o) else s.reg x := fun x => by
    rw [h.reg, State.reg_count, ht.reg, ht.reg]
  exact ⟨State.done_of_endsAlike hu (State.endsAlike_ports (m := s.mem) hstate) (fun x hx => (hreg x).trans (if_neg fun e => hx (List.mem_singleton.mpr e))) ho,
    hstate, (hreg o).trans (if_pos rfl), fun x hx => (hreg x).trans (if_neg hx)⟩

/-! ## Late responses -/

theorem State.onResponse_late {t : State} (h : t.fab.remotes = []) (q : RxPacket) : t.onResponse q = t.count R.dlfLateRspCnt := by
  rw [State.onResponse, h]
  rfl

theorem exec_lateResponse (h : Arrives s k type 0 p) (htype : type = 3 ∨ type = 4) (hdst : s.forThisNode k p) (hnone : s.fab.remotes = []) :
    ∃ t, State.done (s.onPacket k type p (fun t q => t.onResponse q)) = .next t ∧ t = { s with regs := t.regs, fab := { s.fab with ports := t.fab.ports } } ∧
      Accepted s t k type p none ∧ t.reg R.dlfLateRspCnt = satInc (s.reg R.dlfLateRspCnt) ∧ ∀ x, x ≠ R.dlfLateRspCnt → t.reg x = s.reg x := by
  have hlate : ∀ t, s.Took t k type p → t.onResponse (rxOf type p) = t.count R.dlfLateRspCnt := fun t ht =>
    State.onResponse_late (by rw [ht.fab]; exact hnone) _
  obtain ⟨t, ht, haccepts⟩ := State.onPacket_accepts (f := fun t q => t.onResponse q) h (by omega) (by omega) hdst fun t ht => by
    rw [hlate t ht]
    refine ⟨(State.fld_of_reg ?_ _).trans (ht.portState h.2.1), fun j => rfl⟩
    rw [State.reg_count, if_neg (by simp only [R.dlStat, R.dlfLateRspCnt]; omega)]
  rw [hlate t ht] at haccepts
  obtain ⟨hdone, hstate, hcount, hreg⟩ := haccepts.ends_counted h.1 ht (by unfold endIgnores; decide)
  exact ⟨_, hdone, hstate, haccepts.accepted, hcount, hreg⟩

end

/-! ## An answer for a ring channel -/

section
variable {s : State} {n : Fin 32} {r : Remote}

theorem State.remoteWork_answered {tag : Nat} {data : List (Byte × Bool)} (h : s.fab.remotes = [r]) (hwho : r.who = .ring n) (htag : r.tag = tag) :
    s.remoteWork tag 0 data = State.chAnswered { s with fab := { s.fab with remotes := [] } } n 0 data := by
  have hfind : s.fab.remotes.find? (fun r => r.tag == tag) = some r := by
    rw [h]
    exact List.find?_cons_of_pos (by rw [htag]; exact beq_self_eq_true _)
  have hfilter : s.fab.remotes.filter (fun e => e.tag != tag) = [] := by
    rw [h]
    refine List.filter_cons_of_neg ?_
    rw [htag]
    simp
  rw [State.remoteWork, hfind]
  simp only [hwho, hfilter, if_true]
  exact dif_pos n.isLt

/-- A channel whose access to another node has brought its bytes or taken them. -/
def Chan.landed (c : Chan) (write : Bool) (l : List Byte) : Chan :=
  if write then
    { c with wait := none, wr := c.wr + c.dw, hold := if c.desc then c.hold.take (c.hold.length - c.dw) else c.hold.drop c.dw }
  else
    { c with wait := none, rd := c.rd + c.sw, hold := if c.desc then l.map (fun b => (b, false)) ++ c.hold else c.hold ++ l.map (fun b => (b, false)) }

/-- The channel without its outstanding access. -/
def Chan.answered (c : Chan) : Chan := { c with wait := none }

section
variable (c : Chan)

theorem Chan.type_answered : c.answered.type = c.type := rfl
theorem Chan.len_answered : c.answered.len = c.len := rfl
theorem Chan.dw_answered : c.answered.dw = c.dw := rfl
theorem Chan.sw_answered : c.answered.sw = c.sw := rfl

theorem Chan.landed_answered (write : Bool) (l : List Byte) : c.answered.landed write l = c.landed write l := by
  rw [Chan.landed, Chan.landed, Chan.dw_answered, Chan.sw_answered]
  rfl

end

/-- A COPY's bytes have been read or written in another node (R413, R449). -/
theorem State.chAnswered_copy (write : Bool) (data : List Byte) (hw : (s.chan n).wait = some (if write then 3 else 2)) (htype : (s.chan n).type = 0)
    (hab : (s.chan n).abort = false) (hmore : (s.chan n).wr + (s.chan n).dw < (s.chan n).len) {g : Chan}
    (hg : g = (s.chan n).landed write data) :
    s.ChanOnly (s.chAnswered n 0 (unpoisoned data)) n g (chanPosition n) ∧ ShowsPosition (s.chAnswered n 0 (unpoisoned data)) n g := by
  obtain ⟨c, hc⟩ : ∃ c : Chan, c = (s.chan n).answered := ⟨_, rfl⟩
  have honly := ((State.ChanOnly.refl s n (chanPosition n)).setChan c)
  have hchan := honly.chan
  have hctype : c.type = 0 := by rw [hc, Chan.type_answered]; exact htype
  have hcmore : ¬c.len ≤ c.wr + c.dw := by
    rw [hc, Chan.len_answered, Chan.dw_answered]
    exact not_le_of_gt hmore
  have hgc : g = c.landed write data := by
    rw [hg, hc, Chan.landed_answered]
  have hgo : s.chAnswered n 0 (unpoisoned data) = if write then (s.setChan n c).copyWrote n else ((s.setChan n c).copyRead n (unpoisoned data)).chShow n := by
    have habort : ¬(s.chan n).abort = true := by rw [hab]; exact Bool.false_ne_true
    have htype' : ((s.setChan n c).chan n).type = 0 := by rw [hchan]; exact hctype
    rw [State.chAnswered, hw, show ({ s.chan n with wait := none } : Chan) = c from hc.symm]
    refine (if_neg (by decide)).trans ((if_neg habort).trans ?_)
    cases write
    · rw [if_neg Bool.false_ne_true, if_neg Bool.false_ne_true]
      exact if_pos htype'
    · rw [if_pos rfl, if_pos rfl]
      exact if_pos htype'
  have hcwait : c.wait = none := by rw [hc]; rfl
  clear hw htype hmore hg hab hc
  rw [hgo]
  have hshow := (honly.setChan g).show (List.Subset.refl _)
  have hshown := (honly.setChan g).shown
  cases write
  · have hread : (s.setChan n c).copyRead n (unpoisoned data) = (s.setChan n c).setChan n g := by
      rw [State.copyRead, unpoisoned_any, Bool.or_false, hchan, hgc]
      cases c
      simp only at hcwait
      rw [hcwait]
      rfl
    rw [if_neg Bool.false_ne_true, hread]
    exact ⟨hshow, hshown⟩
  · have hbeat : c.beat.2 = if c.desc then c.hold.take (c.hold.length - c.dw) else c.hold.drop c.dw := by
      rw [Chan.beat]
      split <;> rfl
    have hset : ({ c with wr := c.wr + c.dw, hold := c.beat.2 } : Chan) = g := by
      rw [hbeat, hgc]
      cases c
      simp only at hcwait
      rw [hcwait]
      rfl
    have hwrote : (s.setChan n c).copyWrote n = ((s.setChan n c).setChan n g).chShow n := by
      rw [State.copyWrote, hchan]
      simp only [hset]
      exact if_neg hcmore
    rw [if_pos rfl, hwrote]
    exact ⟨hshow, hshown⟩

end

section
variable {s : State} {k : Fin 4} {type : Nat} {p : Packet}

theorem State.onResponse_known {t : State} {r : Remote} (h : t.fab.remotes = [r]) (htag : r.tag = p.tag.toNat) (hwrite : r.write = (type == 4)) (hbad : p.bad = []) :
    t.onResponse (rxOf type p) = { t with work := t.work ++ [Work.remoteDone p.tag.toNat (p.arg.toNat % 256) (unpoisoned p.payload)] } := by
  have hdata : (rxOf type p).payload.zipIdx.map (fun e => (e.1, (rxOf type p).bad.contains (e.2 / 16))) = unpoisoned p.payload := by
    rw [unpoisoned, show (rxOf type p).bad = [] from hbad]
    simp only [List.contains_nil]
    conv_rhs => rw [← List.zipIdx_map_fst 0 p.payload, List.map_map]
    rfl
  rw [State.onResponse]
  simp only [hdata]
  refine if_pos ?_
  rw [h, List.any_cons, Bool.or_eq_true]
  refine .inl ?_
  rw [Bool.and_eq_true, beq_iff_eq, beq_iff_eq]
  exact ⟨htag, hwrite⟩

theorem exec_ringResponse (write : Bool) (htype : type = if write then 4 else 3) (h : Arrives s k type 0 p) (hdst : s.forThisNode k p) {n : Fin 32} {r : Remote}
    (hremotes : s.fab.remotes = [r]) (hwho : r.who = .ring n) (htag : r.tag = p.tag.toNat) (hwrite : r.write = write) (harg : p.arg.toNat % 256 = 0)
    (hbad : p.bad = []) (hw : (s.chan n).wait = some (if write then 3 else 2)) (hct : (s.chan n).type = 0)
    (hab : (s.chan n).abort = false) (hmore : (s.chan n).wr + (s.chan n).dw < (s.chan n).len) {g : Chan}
    (hg : g = (s.chan n).landed write p.payload) :
    ∃ t, State.done (s.onPacket k type p (fun t q => t.onResponse q)) = .next t ∧ Accepted s t k type p none ∧ t.fab.remotes = [] ∧
      ChanStays { s with fab := t.fab } t n g (chanPosition n) ∧ ShowsPosition t n g := by
  have h34 : type = 3 ∨ type = 4 := by
    rw [htype]
    cases write
    · exact .inl rfl
    · exact .inr rfl
  have hknown : ∀ t, s.Took t k type p →
      t.onResponse (rxOf type p) = { t with work := t.work ++ [Work.remoteDone p.tag.toNat 0 (unpoisoned p.payload)] } := fun t ht => by
    rw [State.onResponse_known (r := r) (by rw [ht.fab]; exact hremotes) htag (by rw [hwrite, htype]; cases write <;> rfl) hbad, harg]
  obtain ⟨t, ht, haccepts⟩ := State.onPacket_accepts (f := fun t q => t.onResponse q) h (by omega) (by omega) hdst fun t ht => by
    rw [hknown t ht]
    exact ⟨ht.portState h.2.1, fun j => rfl⟩
  rw [hknown t ht] at haccepts
  obtain ⟨haccepted, hv⟩ := haccepts
  generalize s.onPacket k type p (fun t q => t.onResponse q) = v at haccepted hv ⊢
  have htstate := ht.state
  have htwork : t.work = [] := by rw [htstate]; exact h.1.1.1
  -- the answer is worked off on z, which has the ports of v and no access outstanding
  obtain ⟨w, hweq⟩ : ∃ w : State, w = { s with fab := { s.fab with ports := v.fab.ports } } := ⟨_, rfl⟩
  obtain ⟨z, hz⟩ : ∃ z : State, z = { w with fab := { w.fab with remotes := [] } } := ⟨_, rfl⟩
  have hvw : v = { w with work := w.work ++ [Work.remoteDone p.tag.toNat 0 (unpoisoned p.payload)] } := by
    generalize v.fab.ports = pv at hv hweq
    generalize t.fab.ports = pt at htstate
    rw [hv, htstate, hweq]
  have hzs : z = { s with fab := z.fab } := by rw [hz, hweq]
  have hzchan : z.chan n = s.chan n := by rw [hz, hweq]; rfl
  have hzu : z.usual := by
    refine State.usual_alike h.1 ⟨?_, ?_, ?_, ?_, ?_, ?_, ?_⟩ ?_ <;> rw [hz, hweq]
    rfl
  obtain ⟨honly, hshows⟩ := State.chAnswered_copy (s := z) (n := n) (g := g) write p.payload (by rw [hzchan]; exact hw) (by rw [hzchan]; exact hct)
    (by rw [hzchan]; exact hab) (by rw [hzchan]; exact hmore) (by rw [hzchan]; exact hg)
  have hwork : w.doWork (Work.remoteDone p.tag.toNat 0 (unpoisoned p.payload)) = z.chAnswered n 0 (unpoisoned p.payload) := by
    rw [hz]
    exact State.remoteWork_answered (r := r) (by rw [hweq]; exact hremotes) hwho htag
  generalize z.chAnswered n 0 (unpoisoned p.payload) = u at honly hshows hwork
  have hpos : ∀ o ∈ chanPosition n, 0x2C000 ≤ o ∧ o < 0x30000 := fun o ho => (ownRegs_position n o ho).1
  have hufab : u.fab = z.fab := by rw [honly.only.state]; rfl
  have huu : u.usual := State.usual_of hzu honly.only.endsAlike honly.only.reg (endIgnores_idma hpos)
  have hdone : State.done v = .next u := by
    rw [hvw]
    exact State.done_withWorkTo (by rw [hweq]; exact h.1.1.1) hwork huu
  have hports : u.fab.ports = v.fab.ports := by rw [hufab, hz, hweq]
  refine ⟨u, hdone, ?_, by rw [hufab, hz], ?_, hshows⟩
  · have hport : ∀ j, u.port j = v.port j := State.port_of_fab hports
    simp only [Accepted, hport] at haccepted ⊢
    exact haccepted
  · rw [hufab, ← hzs]
    exact honly.stays (honly.only.fld (fun hm => (ownRegs_position n _ hm).2 (by simp [chanStates])) _)

end

end Sys2Proof.Machine

/-!
Requests without a response, requests that go out, and packets for others (R433, R449, R450).
-/
namespace Sys2Proof.Machine

/-! ## No response in time -/

section
variable {s t : State} {n : Nat} {c : Chan}

/-- A ring channel halts with its cause, whatever access it waited for. -/
theorem State.chHalt_enters (h : s.ChanNear t n c []) (hn : n < 32) {cause dir : Nat} (hcause : cause < 8) (kind addr : Nat) :
    (s.fire (64 + n)).ChanIn (t.chHalt n cause dir kind addr) n { c with wait := none } 7 ([R.chFaddrLo n, R.chFaddrHi n] ++ idmaRecordRegs) ∧
      (t.chHalt n cause dir kind addr).fld (R.chStat n) F.chStat.CAUSE = cause := by
  obtain ⟨hapart, -, -⟩ := haltRegs_apart n
  have h1 : s.ChanIn ((t.setChan n { t.chan n with wait := none }).chEnter n Ch.halted) n { c with wait := none } 7
      ([R.chFaddrLo n, R.chFaddrHi n] ++ idmaRecordRegs) := by
    rw [h.only.chan]
    exact ((h.setChan _).enter hn (by decide)).mono (List.nil_subset _)
  rw [State.chHalt_eq]
  generalize (t.setChan n { t.chan n with wait := none }).chEnter n Ch.halted = s1 at h1 ⊢
  have hshows : (s1.chCause n cause dir kind).fld (R.chStat n) F.chStat.CAUSE = cause := by
    rw [State.chCause, State.fld_setFld_apart _ _ _ _ _ (by decide) (by decide) (by decide),
      State.fld_setFld_apart _ _ _ _ _ (by decide) (by decide) (by decide), State.fld_setFld _ _ _ _ (by decide)]
    exact Nat.mod_eq_of_lt hcause
  have h3 := (h1.cause cause dir kind).setReg64 (lo := R.chFaddrLo n) (hi := R.chFaddrHi n) (addr % 2 ^ 40) (by simp) (by simp) (hapart _ (by simp)) (hapart _ (by simp))
  have honly : (s1.chCause n cause dir kind).sameBut ((((s1.chCause n cause dir kind).setReg64 (R.chFaddrLo n) (R.chFaddrHi n) (addr % 2 ^ 40)).idmaCount cause).idmaErr
      n cause dir kind addr) ([R.chFaddrLo n, R.chFaddrHi n] ++ idmaRecordRegs) :=
    (((((State.regsOnly.refl _ _).setReg _ (by simp)).setReg _ (by simp)).trans ((State.idmaCount_regsOnly _ cause).mono (by simp [idmaRecordRegs]))).trans
      ((State.idmaErr_regsOnly _ n cause dir kind addr).mono (by simp [idmaRecordRegs]))).sameBut
  have h4 := (((State.idmaCount_regsOnly ((s1.chCause n cause dir kind).setReg64 (R.chFaddrLo n) (R.chFaddrHi n) (addr % 2 ^ 40)) cause).mono (by simp [idmaRecordRegs])).trans
    ((State.idmaErr_regsOnly _ n cause dir kind addr).mono (show _ ⊆ idmaRecordRegs by simp [idmaRecordRegs]))).sameBut
  refine ⟨(h3.regs h4 (List.subset_append_right _ _) (fun o ho hm => hapart o (List.mem_append_right _ hm) ho)).fire _, ?_⟩
  exact (honly.fld (fun hm => hapart _ hm (by simp [chanStates])) _).trans hshows

end

section
variable {s : State} {n : Fin 32} {r : Remote}

theorem exec_responseTimeout_none {t0 : BitVec 16} (hu : s.usual) (h : ∀ r ∈ s.fab.remotes, r.tag ≠ t0.toNat) :
    exec (.fabricResponseTimeout t0) s = .next s := by
  refine (congrArg State.done (if_neg ?_)).trans (State.done_of_usual hu)
  rw [List.any_eq_true]
  rintro ⟨r, hr, htag⟩
  exact h r hr (beq_iff_eq.mp htag)

theorem State.remoteWork_failed {tag status : Nat} (h : s.fab.remotes = [r]) (hwho : r.who = .ring n) (htag : r.tag = tag) (hstatus : status ≠ 0)
    (hroute : s.routeTo r.node < 4) :
    s.remoteWork tag status [] =
      (State.dlfError { s with fab := { s.fab with remotes := [] } } status r.node (s.routeTo r.node)).chAnswered n status [] := by
  have hfind : s.fab.remotes.find? (fun r => r.tag == tag) = some r := by
    rw [h]
    exact List.find?_cons_of_pos (by rw [htag]; exact beq_self_eq_true _)
  have hfilter : s.fab.remotes.filter (fun e => e.tag != tag) = [] := by
    rw [h]
    refine List.filter_cons_of_neg ?_
    rw [htag]
    simp
  rw [State.remoteWork, hfind]
  simp only [hwho, hfilter, if_neg hstatus]
  refine (dif_pos n.isLt).trans (congrArg (fun t : State => t.chAnswered n status []) ?_)
  exact if_pos hroute

theorem State.remoteDrop_none (hwaiting : s.fab.waiting = []) (hremotes : s.fab.remotes = []) (who : Requester) : s.remoteDrop who = s := by
  have hfab : ∀ f : Fabric, f.waiting = [] → f.remotes = [] → { f with waiting := [], remotes := [] } = f := fun f hw hr => by
    cases f
    simp only at hw hr
    subst hw hr
    rfl
  rw [State.remoteDrop, hwaiting, hremotes]
  exact congrArg (fun f => { s with fab := f }) (hfab _ hwaiting hremotes)

theorem exec_responseTimeout_ring {t0 : BitVec 16} (hu : s.usual) (hremotes : s.fab.remotes = [r]) (hwho : r.who = .ring n) (htag : r.tag = t0.toNat)
    (hroute : s.routeTo r.node < 4) (hwait : (s.chan n).wait ≠ none) (hab : (s.chan n).abort = false) (hwaiting : s.fab.waiting = []) :
    ∃ t, exec (.fabricResponseTimeout t0) s = .next t ∧ t.fab = { s.fab with remotes := [] } ∧ t.reg R.dlfRspTmoCnt = satInc (s.reg R.dlfRspTmoCnt) ∧
      (s.fld R.dlfErr F.dlfErr.VALID = 0 → t.reg R.dlfErr = BitVec.ofNat 32 (1 + St.timeout * 2 ^ 8 + r.node * 2 ^ 16 + s.routeTo r.node * 2 ^ 24)) ∧
      t.chState n = 7 ∧ t.fld (R.chStat n) F.chStat.CAUSE = 1 ∧ t.pulses = addSorted s.pulses (64 + n) ∧ t.mem = s.mem := by
  obtain ⟨w, hw⟩ : ∃ w, w = s.count R.dlfRspTmoCnt := ⟨_, rfl⟩
  obtain ⟨z, hz⟩ : ∃ z, z = State.dlfError { w with fab := { w.fab with remotes := [] } } St.timeout r.node (w.routeTo r.node) := ⟨_, rfl⟩
  obtain ⟨kind, hkind⟩ := Option.ne_none_iff_exists'.mp hwait
  have hwroute : w.routeTo r.node = s.routeTo r.node := State.routeTo_congr (fun i => by
    rw [hw, State.reg_count, if_neg (by simp only [R.dlfRt, R.dlfRspTmoCnt]; omega)]) _
  have hzstate : z = { s with regs := z.regs, fab := { s.fab with remotes := [] } } := by
    have hze := State.dlfError_state { w with fab := { w.fab with remotes := [] } } St.timeout r.node (w.routeTo r.node)
    rw [← hz] at hze
    generalize z.regs = rz at hze ⊢
    rw [hze, hw]
    rfl
  have hzreg : ∀ x, z.reg x = if x = R.dlfErr ∧ s.fld R.dlfErr F.dlfErr.VALID ≠ 1 then
      BitVec.ofNat 32 (1 + St.timeout * 2 ^ 8 + r.node * 2 ^ 16 + s.routeTo r.node * 2 ^ 24)
      else if x = R.dlfRspTmoCnt then satInc (s.reg R.dlfRspTmoCnt) else s.reg x := fun x => by
    have hwreg : ∀ x, State.reg { w with fab := { w.fab with remotes := [] } } x = if x = R.dlfRspTmoCnt then satInc (s.reg R.dlfRspTmoCnt) else s.reg x :=
      fun x => (State.reg_of_regs w _ rfl x).trans (by rw [hw, State.reg_count])
    rw [hz, State.reg_dlfError, hwreg, hwroute,
      State.fld_of_reg (s := s) (t := { w with fab := { w.fab with remotes := [] } }) ((hwreg R.dlfErr).trans (if_neg (by decide)))]
  have hzu : z.usual := by
    refine State.usual_of (l := [R.dlfErr, R.dlfRspTmoCnt]) hu ⟨?_, ?_, ?_, ?_, ?_, ?_, ?_⟩ (fun x hx => ?_) (by unfold endIgnores; decide)
    case refine_8 =>
      simp only [List.mem_cons, List.not_mem_nil, or_false, not_or] at hx
      rw [hzreg, if_neg (fun e => hx.1 e.1), if_neg hx.2]
    all_goals
      generalize z.regs = rz at hzstate
      rw [hzstate]
      try rfl
  have hzchan : z.chan n = s.chan n := by
    generalize z.regs = rz at hzstate
    rw [hzstate]
    rfl
  have hzfab : z.fab = { s.fab with remotes := [] } := (congrArg State.fab hzstate :)
  have hdrop : z.remoteDrop (.ring n) = z := State.remoteDrop_none (by rw [hzfab]; exact hwaiting) (by rw [hzfab]) _
  obtain ⟨a, b, hanswer⟩ : ∃ a b, z.chAnswered n St.timeout [] = z.chHalt n 1 a kind b := by
    refine ⟨(z.chWaiting n kind).1, (z.chWaiting n kind).2, ?_⟩
    rw [State.chAnswered, hzchan, hkind]
    refine (if_pos (by decide)).trans ?_
    rw [State.chFail, hzchan, hkind]
    refine (if_neg (by rw [hab]; exact Bool.false_ne_true)).trans ?_
    rw [hdrop]
  obtain ⟨hin, hcause⟩ := State.chHalt_enters (((State.ChanOnly.refl z n []).near (ownRegs_nil n))) n.isLt (cause := 1) (dir := a) (by decide) kind b
  have hwork : w.doWork (Work.remoteDone t0.toNat St.timeout []) = z.chHalt n 1 a kind b := by
    rw [← hanswer, hz]
    exact State.remoteWork_failed (s := w) (r := r) (by rw [hw]; exact hremotes) hwho htag (by decide) (by rw [hwroute]; exact hroute)
  generalize z.chHalt n 1 a kind b = u at hin hcause hwork
  have hregs : ∀ o ∈ [R.chFaddrLo n, R.chFaddrHi n] ++ idmaRecordRegs, 0x2C000 ≤ o ∧ o < 0x30000 := by
    simp only [List.mem_append, List.mem_cons, List.not_mem_nil, or_false, idmaRecordRegs, R.chFaddrLo, R.chFaddrHi,
      R.idmaBusCnt, R.idmaTmoCnt, R.idmaEccCnt, R.idmaLoopCnt, R.idmaErr, R.idmaErrAddrLo, R.idmaErrAddrHi]
    omega
  have hall : ∀ o ∈ chanStates n ++ ([R.chFaddrLo n, R.chFaddrHi n] ++ idmaRecordRegs), 0x2C000 ≤ o ∧ o < 0x30000 := fun o ho => by
    rcases List.mem_append.mp ho with ho | ho
    · have := n.isLt
      simp only [chanStates, List.mem_cons, List.not_mem_nil, or_false, R.chStat, R.idmaBusy, R.idmaHalted] at ho
      omega
    · exact hregs o ho
  have hfire : (z.fire (64 + n)).usual := State.usual_alike hzu ⟨rfl, rfl, rfl, rfl, rfl, rfl, rfl⟩ rfl
  have huu : u.usual := State.usual_of hfire hin.only.only.endsAlike hin.only.only.reg (endIgnores_idma hall)
  have hureg : ∀ x, 0x30000 ≤ x → u.reg x = z.reg x := fun x hx => hin.only.only.reg x fun hm => by
    have := (hall x hm).2
    omega
  have hustate := hin.only.only.state
  have hany : s.fab.remotes.any (fun r => r.tag == t0.toNat) = true := by
    rw [hremotes, List.any_cons, htag, beq_self_eq_true]
    rfl
  refine ⟨u, ?_, ?_, ?_, fun hvalid => ?_, hin.shows.state, hcause, ?_, ?_⟩
  · refine (congrArg State.done (if_pos hany)).trans ?_
    rw [← hw]
    exact State.done_withWorkTo (by rw [hw]; exact hu.1.1) hwork huu
  · rw [hustate]
    exact (congrArg State.fab hzstate :)
  · rw [hureg _ (by decide), hzreg, if_neg (fun e => absurd e.1 (by decide)), if_pos rfl]
  · rw [hureg _ (by decide), hzreg, if_pos ⟨rfl, by rw [hvalid]; decide⟩]
  · rw [hustate]
    exact congrArg (fun l => addSorted l (64 + n.val)) (congrArg State.pulses hzstate :)
  · rw [hustate]
    exact (congrArg State.mem hzstate :)

end

/-! ## Requests that go out -/

section
variable {s : State}

theorem exec_remoteWindowAccess_none (hu : s.usual) (h : s.fab.waiting = [] ∨ 64 ≤ s.fab.remotes.length) : exec .remoteWindowAccess s = .next s := by
  refine (congrArg State.done ?_).trans (State.done_of_usual hu)
  rw [State.remoteSend]
  split
  · rfl
  · next hw =>
    refine if_pos (h.resolve_left fun e => ?_)
    rw [e] at hw
    exact (List.cons_ne_nil _ _ hw.symm).elim

theorem exec_remoteWindowAccess_sends (hu : s.usual) {r : Remote} {rest : List Remote} (hw : s.fab.waiting = r :: rest) (hroom : s.fab.remotes.length < 64)
    (hclean : r.data = r.data.map (fun b => (b.1, false))) (hplain : PlainPort s (s.routeTo r.node) (1 + (r.data.length + 15) / 16)) {s0 : State}
    (hs0 : s0 = { s with fab := { s.fab with waiting := rest, remotes := s.fab.remotes ++ [{ r with tag := s.fab.nextTag }], nextTag := (s.fab.nextTag + 1) % 65536 } }) :
    ∃ t, exec .remoteWindowAccess s = .next t ∧
      PortSends s0 t (s.routeTo r.node) (fromHere s (if r.write then 2 else 1) r.node s.fab.nextTag r.off r.len (r.data.map (fun b => b.1))) := by
  have hbad : (List.range ((r.data.length + 15) / 16)).filter (fun i => ((r.data.drop (16 * i)).take 16).any (fun b => b.2)) = [] := by
    refine List.filter_eq_nil_iff.mpr fun i _ => ?_
    rw [List.any_eq_true]
    rintro ⟨b, hb, hb2⟩
    have hmem := List.mem_of_mem_drop (List.mem_of_mem_take hb)
    rw [hclean] at hmem
    obtain ⟨c, -, rfl⟩ := List.mem_map.mp hmem
    exact absurd hb2 Bool.false_ne_true
  have hregs : s0.regs = s.regs := by rw [hs0]
  have hreg : ∀ o, s0.reg o = s.reg o := State.reg_of_regs _ _ hregs
  have hport : ∀ j, s0.port j = s.port j := State.port_of_fab (by rw [hs0])
  have hplain0 : PlainPort s0 (s.routeTo r.node) (1 + (r.data.length + 15) / 16) := plainPort_of hplain (hport _) (hreg _) (hreg _)
  have hsend : s.remoteSend = s0.routePacket (fromHere s (if r.write then 2 else 1) r.node s.fab.nextTag r.off r.len (r.data.map (fun b => b.1))) := by
    have htype : (if r.write then Dl.wrReq else Dl.rdReq) ≠ 7 := by cases r.write <;> decide
    rw [State.remoteSend, hw]
    refine (if_neg (by omega)).trans ?_
    simp only [hbad]
    rw [State.packet_fromHere _ htype, hs0]
    rfl
  have hsends := State.routePacket_plain (q := fromHere s (if r.write then 2 else 1) r.node s.fab.nextTag r.off r.len (r.data.map (fun b => b.1)))
    hplain0 (State.routeTo_congr (fun _ => hreg _) _) (by
      show 1 + ((r.data.map (fun b => b.1)).length + 15) / 16 ≤ _
      rw [List.length_map])
  rw [← hsend] at hsends
  refine ⟨s.remoteSend, ?_, hsends⟩
  obtain ⟨hstate, -, -, -, hkeeps⟩ := hsends
  refine State.done_of_endsAlike (s := s0) (l := [R.dlCred (s.routeTo r.node)]) (State.usual_alike hu ?_ hregs) (State.endsAlike_ports (m := s0.mem) ?_)
    (fun x hx => hkeeps x fun e => hx (List.mem_singleton.mpr e)) (endIgnores_of fun o ho => ?_)
  · rw [hs0]
    exact ⟨rfl, rfl, rfl, rfl, rfl, rfl, rfl⟩
  · generalize s.remoteSend = t at hstate ⊢
    rw [hstate]
  · have := hplain.1
    rw [List.mem_singleton.mp ho, R.dlCred]
    omega

end

/-! ## Packets for others -/

section
variable {s : State} {k : Fin 4} {type : Nat} {p : Packet}

theorem exec_packetForward_none (hu : s.usual) (type : BitVec 8) (h : type = 7 ∨ p.dst = 0 ∨ p.dst = 255 ∨ p.dst.toNat = s.nodeId) :
    exec (.packetForward k type p) s = .next s :=
  (congrArg State.done (if_pos h)).trans (State.done_of_usual hu)

/-- A packet for another node is taken from the link and goes on; policing is the destination's. -/
theorem State.onPacket_away (h : Arrives s k type 0 p) (h1 : 1 ≤ type) (h6 : type ≤ 6) (h0 : p.dst.toNat ≠ 0) (h255 : p.dst.toNat ≠ 255) (hn : p.dst.toNat ≠ s.nodeId)
    (f : State → RxPacket → State) (hst : ∀ t, s.PortIs t k (takenPort (s.port k) type p) → (t.forwardPacket (rxOf type p).relay).portState k = 5) :
    ∃ t, s.PortIs t k (takenPort (s.port k) type p) ∧ s.onPacket k type p f = (t.forwardPacket (rxOf type p).relay).sendFlow k := by
  obtain ⟨t, ht⟩ : ∃ t, t = s.setPort k (takenPort (s.port k) type p) := ⟨_, rfl⟩
  have hlink := State.linkReceive_plain h h1 h6
  have hst5 : s.portState k = 5 := h.2.1.2.1
  rw [← ht] at hlink
  have hport : s.PortIs t k (takenPort (s.port k) type p) := ht ▸ s.portIs_setPort k _
  have hne : ¬(rxOf type p).type = Dl.auth_ := fun e => absurd (show type = 7 from e) (by omega)
  have hnode : t.nodeId = s.nodeId := hport.fld _ _
  have haway : (rxOf type p).dst ≠ 0 ∧ (rxOf type p).dst ≠ 255 ∧ (rxOf type p).dst ≠ t.nodeId := ⟨h0, h255, by rw [hnode]; exact hn⟩
  have hreceive : s.receive k type p = (t.forwardPacket (rxOf type p).relay, none) := by
    rw [State.receive, hlink]
    simp only [if_neg hne, if_pos haway]
  refine ⟨t, hport, ?_⟩
  rw [State.onPacket, State.onPort, hreceive]
  exact State.afterPort_stays ((State.sendFlow_portState _ _).trans ((hst t hport).trans hst5.symm))

theorem exec_packetForward_away (type : BitVec 8) (h7 : type.toNat ≤ 6) (h0 : p.dst ≠ 0) (h255 : p.dst ≠ 255) (hn : p.dst.toNat ≠ s.nodeId) :
    exec (.packetForward k type p) s = State.done (s.onPacket k type.toNat p (fun t _ => t)) := by
  refine congrArg State.done (if_neg ?_)
  rintro (e | e | e | e)
  · rw [e] at h7
    exact absurd h7 (by decide)
  · exact h0 e
  · exact h255 e
  · exact hn e

theorem State.PortIs.took {t : State} (h : s.PortIs t k (takenPort (s.port k) type p)) : s.Took t k type p :=
  ⟨(s.port k).msgTok, (s.port k).reqTok, (s.port k).tokTime, h⟩

/-- A packet whose hops are used up is counted (R433, R439). -/
theorem exec_forward_expired (h : Arrives s k type 0 p) (h1 : 1 ≤ type) (h6 : type ≤ 6) (h0 : p.dst.toNat ≠ 0) (h255 : p.dst.toNat ≠ 255) (hn : p.dst.toNat ≠ s.nodeId)
    (httl : p.ttl.toNat ≤ 1) (hreq : type ∉ [1, 2]) (f : State → RxPacket → State) :
    ∃ t, State.done (s.onPacket k type p f) = .next t ∧ t = { s with regs := t.regs, fab := { s.fab with ports := t.fab.ports } } ∧
      Accepted s t k type p none ∧ t.reg R.dlfUnreachCnt = satInc (s.reg R.dlfUnreachCnt) ∧ ∀ x, x ≠ R.dlfUnreachCnt → t.reg x = s.reg x := by
  have hcount : ∀ t : State, t.forwardPacket (rxOf type p).relay = t.count R.dlfUnreachCnt := fun t => by
    rw [State.forwardPacket, if_pos (show (rxOf type p).relay.ttl ≤ 1 from httl), State.unreachable]
    refine if_pos ⟨fun e => hreq ?_, fun e => hreq ?_⟩
    · rw [show type = 1 from e]; decide
    · rw [show type = 2 from e]; decide
  have hstat : ∀ t, s.PortIs t k (takenPort (s.port k) type p) → (t.count R.dlfUnreachCnt).portState k = 5 := fun t ht => by
    refine (State.fld_of_reg ?_ _).trans ((ht.portState k).trans h.2.1.2.1)
    rw [State.reg_count, if_neg (by simp only [R.dlStat, R.dlfUnreachCnt]; omega)]
  obtain ⟨t, ht, heq⟩ := State.onPacket_away h h1 h6 h0 h255 hn f fun t ht => by
    rw [hcount]
    exact hstat t ht
  rw [hcount] at heq
  obtain ⟨haccepted, hflow⟩ := accepted_none (u := t.count R.dlfUnreachCnt) ht.took (hstat t ht) (fun j => rfl)
  rw [← heq] at haccepted hflow
  obtain ⟨hdone, hstate, hc, hreg⟩ := State.Accepts.ends_counted h.1 ht.took ⟨haccepted, hflow.state⟩ (by unfold endIgnores; decide)
  exact ⟨_, hdone, hstate, haccepted, hc, hreg⟩

/-- A packet for another node goes out on the port of its route (R433). -/
theorem exec_forward_sends (h : Arrives s k type 0 p) (h1 : 1 ≤ type) (h6 : type ≤ 6) (h0 : p.dst.toNat ≠ 0) (h255 : p.dst.toNat ≠ 255) (hn : p.dst.toNat ≠ s.nodeId)
    (httl : 2 ≤ p.ttl.toNat) (hother : s.routeTo p.dst.toNat ≠ k) (hplain : PlainPort s (s.routeTo p.dst.toNat) (1 + (p.payload.length + 15) / 16))
    {q : TxPacket} (hq : q = { (rxOf type p).relay with ttl := p.ttl.toNat - 1 }) (f : State → RxPacket → State) :
    ∃ t, State.done (s.onPacket k type p f) = .next t ∧ t = { s with regs := t.regs, fab := { s.fab with ports := t.fab.ports } } ∧
      (t.port (s.routeTo p.dst.toNat)).out = .packet ⟨q, (s.port (s.routeTo p.dst.toNat)).txSeq, none⟩ :: (s.port (s.routeTo p.dst.toNat)).out ∧
      (t.port k).out = flowFor (s.port k) type p :: (s.port k).out ∧
      (∀ j, j ≠ k.val → j ≠ s.routeTo p.dst.toNat → t.port j = s.port j) ∧ ∀ x, x ≠ R.dlCred (s.routeTo p.dst.toNat) → t.reg x = s.reg x := by
  generalize hroute : s.routeTo p.dst.toNat = n at hother hplain ⊢
  have hgo : ∀ t : State, t.forwardPacket (rxOf type p).relay = t.routePacket q := fun t => by
    rw [State.forwardPacket, if_neg (show ¬(rxOf type p).relay.ttl ≤ 1 from not_le_of_gt httl), hq]
    rfl
  have hsends : ∀ t, s.PortIs t k (takenPort (s.port k) type p) → PortSends t (t.routePacket q) n q := fun t ht => by
    have hplain' : PlainPort t n (1 + (p.payload.length + 15) / 16) := plainPort_of hplain (ht.others n hother) (ht.reg _) (ht.reg _)
    refine State.routePacket_plain hplain' ?_ (by rw [hq]; exact Nat.le_refl _)
    rw [hq]
    exact (ht.routeTo _).trans hroute
  have hstat : ∀ t, s.PortIs t k (takenPort (s.port k) type p) → (t.routePacket q).portState k = 5 := fun t ht => by
    obtain ⟨-, -, -, -, hreg⟩ := hsends t ht
    refine (State.fld_of_reg (hreg _ ?_) _).trans ((ht.portState k).trans h.2.1.2.1)
    simp only [R.dlStat, R.dlCred]
    omega
  obtain ⟨t, ht, heq⟩ := State.onPacket_away h h1 h6 h0 h255 hn f fun t ht => by
    rw [hgo]
    exact hstat t ht
  rw [hgo] at heq
  obtain ⟨hstate, hport, hothers, -, hreg⟩ := hsends t ht
  have hk : (t.routePacket q).port k = takenPort (s.port k) type p := (hothers k (Ne.symm hother)).trans ht.port
  have hflow := State.sendFlow_active (l := p.lseq.toNat) (hstat t ht) (by rw [hk]; rfl) (by rw [hk]; rfl)
  rw [← heq] at hflow
  generalize s.onPacket k type p f = v at hflow ⊢
  generalize t.routePacket q = u at *
  have hwhole : v = { s with regs := v.regs, fab := { s.fab with ports := v.fab.ports } } := by
    have e3 := hflow.state
    have e1 := ht.state
    generalize v.fab.ports = pv at e3 ⊢
    generalize u.fab.ports = pu at hstate
    generalize u.regs = ru at hstate
    generalize t.fab.ports = pt at e1
    rw [e3, hstate, e1]
  have hregs : ∀ x, x ≠ R.dlCred n → v.reg x = s.reg x := fun x hx => (hflow.reg x).trans ((hreg x hx).trans (ht.reg x))
  refine ⟨v, ?_, hwhole, ?_, ?_, fun j hj hjn => ?_, hregs⟩
  · refine State.done_of_endsAlike (l := [R.dlCred n]) h.1 (State.endsAlike_ports (m := s.mem) hwhole) (fun x hx => hregs x fun e => hx (List.mem_singleton.mpr e))
      (endIgnores_of fun o ho => ?_)
    have := hplain.1
    rw [List.mem_singleton.mp ho, R.dlCred]
    omega
  · rw [hflow.others n hother, hport, ht.others n hother]
  · rw [hflow.port, hk, flowFor_eq]
    rfl
  · rw [hflow.others j hj, hothers j hjn, ht.others j hj]

end

end Sys2Proof.Machine

/-!
Messages for this node (R465).
-/
namespace Sys2Proof.Machine

section
variable {s : State} {k : Fin 4} {p : Packet} {rest : List Byte}

/-- The code of a message is the first byte of its payload. -/
theorem numAt_head (b : Byte) (l : List Byte) : numAt (b :: l) 0 1 = b.toNat := by
  simp [numAt, natLE]

theorem exec_ping (h : Arrives s k 6 2 p) (hdst : s.forThisNode k p) (hroute : s.routeTo p.src.toNat = k) (hpay : p.payload = [6, 0, 0, 0] ++ rest)
    (hlen : rest.length = 8) :
    ∃ t, exec (.ping k p) s = .next t ∧ t = { s with regs := t.regs, fab := { s.fab with ports := t.fab.ports } } ∧
      Accepted s t k 6 p (some (fromHere s 6 p.src.toNat 0 0 12 ([7, 0, 0, 0] ++ rest))) ∧ ∀ x, x ≠ R.dlCred k → t.reg x = s.reg x := by
  have hplain : PlainPort s k 2 := h.2.1
  have hsends : ∀ t, s.Took t k 6 p → PortSends t (t.onPing (rxOf 6 p)) k (fromHere s 6 p.src.toNat 0 0 12 ([7, 0, 0, 0] ++ rest)) := fun t ht => by
    have hbody : ((rxOf 6 p).payload.drop 4).take 8 = rest := by
      rw [show (rxOf 6 p).payload = [6, 0, 0, 0] ++ rest from hpay]
      exact List.take_of_length_le (le_of_eq hlen)
    have hnode : t.nodeId = s.nodeId := ht.fld _ _
    have hping : t.onPing (rxOf 6 p) = t.routePacket (fromHere s 6 p.src.toNat 0 0 12 ([7, 0, 0, 0] ++ rest)) := by
      rw [State.onPing, hbody, State.packet_fromHere _ (by decide), fromHere, fromHere, hnode]
      rfl
    rw [hping]
    refine State.routePacket_plain (ht.plainPort hplain) ((State.routeTo_congr (fun _ => ht.reg _) _).trans hroute) ?_
    show 1 + (([7, 0, 0, 0] ++ rest).length + 15) / 16 ≤ 2
    rw [List.length_append, hlen]
    decide
  have hstat : ∀ t, s.Took t k 6 p → (t.onPing (rxOf 6 p)).portState k = 5 := fun t ht => by
    obtain ⟨-, -, -, -, hreg⟩ := hsends t ht
    exact (State.fld_of_reg (hreg _ (by simp only [R.dlStat, R.dlCred]; omega)) _).trans (ht.portState hplain)
  have hcode : numAt p.payload 0 1 = 6 := by
    rw [hpay]
    exact numAt_head _ _
  obtain ⟨t, ht, heq⟩ := State.onMessage_took h (by decide) (by decide) hdst (fun t q => t.onPing q) hcode hstat
  obtain ⟨haccepted, hflow⟩ := accepted_some ht (hstat t ht) (fun _ => rfl) (hsends t ht)
  obtain ⟨hstate, -, -, -, hreg⟩ := hsends t ht
  have hexec : exec (.ping k p) s = State.done ((t.onPing (rxOf 6 p)).sendFlow k) := congrArg State.done heq
  generalize t.onPing (rxOf 6 p) = u at *
  have hwhole : u.sendFlow k = { s with regs := (u.sendFlow k).regs, fab := { s.fab with ports := (u.sendFlow k).fab.ports } } := by
    have e3 := hflow.state
    have e1 := ht.state
    generalize u.sendFlow k = v at e3 ⊢
    generalize v.fab.ports = pv at e3 ⊢
    generalize u.fab.ports = pu at hstate
    generalize u.regs = ru at hstate
    generalize t.fab.ports = pt at e1
    rw [e3, hstate, e1]
  have hregs : ∀ x, x ≠ R.dlCred k → (u.sendFlow k).reg x = s.reg x := fun x hx => (hflow.reg x).trans ((hreg x hx).trans (ht.reg x))
  refine ⟨_, hexec.trans (State.done_of_endsAlike (l := [R.dlCred k]) h.1 (State.endsAlike_ports (m := s.mem) ?_) (fun x hx => hregs x fun e => hx (List.mem_singleton.mpr e))
    (endIgnores_of fun o ho => ?_)), hwhole, haccepted, hregs⟩
  · generalize u.sendFlow k = v at hwhole ⊢
    rw [hwhole]
  · rw [List.mem_singleton.mp ho, R.dlCred]
    omega

/-! ## PONG -/

/-- A completion says nothing of the fabric. -/
theorem completed_withFab {a b : State} {q tag : Nat} {x : Qp} {sqHead r0 r1 r2 status info : Nat} {l : List Nat}
    (h : Completed a b q tag x sqHead r0 r1 r2 status info l) (f : Fabric) :
    Completed { a with fab := f } { b with fab := f } q tag x sqHead r0 r1 r2 status info l := by
  obtain ⟨hstate, hentry, hmem, hq, hqp, hreg⟩ := h
  refine ⟨?_, hentry, hmem, hq, hqp, hreg⟩
  generalize b.hqe.qps = qps at hstate
  generalize b.regs = r at hstate
  generalize b.hostMem = m at hstate
  rw [hstate]

theorem fab_of_completed {a b : State} {q tag : Nat} {x : Qp} {sqHead r0 r1 r2 status info : Nat} {l : List Nat}
    (h : Completed a b q tag x sqHead r0 r1 r2 status info l) : b.fab = a.fab := (congrArg State.fab h.1 :)

theorem exec_pong (h : Arrives s k 6 2 p) (hdst : s.forThisNode k p) (hpay : p.payload = [7, 0, 0, 0] ++ rest)
    (hlen : rest.length = 8) (q : Fin 1024) (tg : BitVec 16) (c : Cmd) (x : Qp) (hpings : s.fab.pings = [(q.val, tg.toNat, p.src.toNat, natLE rest)])
    (hc : s.cmdOf q tg.toNat = some c) (hx : PlainQueue s q x) :
    ∃ t, exec (.pong k p) s = .next t ∧ Accepted s t k 6 p none ∧
      Completed { s with fab := { s.fab with pings := [], ports := t.fab.ports } } t q tg.toNat x c.sqHead (s.sys.time.toNat - natLE rest) 0 0 0 0 [] := by
  have hcompletes : ∀ t, s.Took t k 6 p → Completed { s with fab := { s.fab with pings := [], ports := t.fab.ports } } (t.onPong (rxOf 6 p)) q tg.toNat x c.sqHead
      (s.sys.time.toNat - natLE rest) 0 0 0 0 [] := fun t ht => by
    have htime : numAt (rxOf 6 p).payload 4 8 = natLE rest := by
      rw [numAt, show (rxOf 6 p).payload = [7, 0, 0, 0] ++ rest from hpay]
      exact congrArg natLE (List.take_of_length_le (le_of_eq hlen))
    have hfab := ht.fab
    have hstate := ht.state
    have hping : t.fab.pings = [(q.val, tg.toNat, p.src.toNat, natLE rest)] := by rw [hfab]; exact hpings
    obtain ⟨w, hw⟩ : ∃ w : State, w = { s with fab := { s.fab with pings := [], ports := t.fab.ports } } := ⟨_, rfl⟩
    have hwx : PlainQueue w q x := by rw [hw]; exact hx
    have hwc : w.cmdOf q tg.toNat = some c := by rw [hw]; exact hc
    have htw : { t with fab := { t.fab with pings := [] } } = w := by
      generalize t.fab.ports = pt at hstate hw
      rw [hstate, hw]
    have hpong : t.onPong (rxOf 6 p) = w.complete q tg.toNat { r0 := s.sys.time.toNat - natLE rest } := by
      rw [State.onPong, htime, hping, List.find?_cons_of_pos (by simp [rxOf])]
      simp only [List.filter_cons, bne_self_eq_false, List.filter_nil, Bool.false_eq_true, if_false]
      rw [htw, hstate]
    rw [← hw, hpong]
    exact (State.CmdNear.refl w []).completed (keepsVectors_of (by simp)) hwx hwc rfl _ rfl
  have hcode : numAt p.payload 0 1 = 7 := by
    rw [hpay]
    exact numAt_head _ _
  obtain ⟨t, ht, haccepts⟩ := State.onMessage_accepts (f := fun t q => t.onPong q) h (by decide) (by decide) hdst hcode fun t ht => by
    have hdone := hcompletes t ht
    have hfab := fab_of_completed hdone
    refine ⟨(State.fld_of_reg (regsBut_of_completed hdone _ ?_) _).trans h.2.1.2.1, State.port_of_fab (by rw [hfab])⟩
    simp only [List.mem_singleton, R.dlStat, R.hqeStat]
    omega
  have hdone := hcompletes t ht
  have hfab := fab_of_completed hdone
  obtain ⟨haccepted, hstate⟩ := haccepts
  generalize hv : s.onMessage k 6 7 p (fun t q => t.onPong q) = v at haccepted hstate
  have hcompleted : Completed { s with fab := { s.fab with pings := [], ports := v.fab.ports } } v q tg.toNat x c.sqHead (s.sys.time.toNat - natLE rest) 0 0 0 0 [] := by
    have hwith := completed_withFab hdone v.fab
    have hvb : v = { t.onPong (rxOf 6 p) with fab := v.fab } := by
      generalize v.fab.ports = pv at hstate
      rw [hstate]
    have hvf : v.fab = { s.fab with pings := [], ports := v.fab.ports } := by
      generalize v.fab.ports = pv at hstate ⊢
      rw [hstate]
      generalize (t.onPong (rxOf 6 p)).fab = ff at hfab
      rw [hfab]
    rw [← hvb, hvf] at hwith
    rw [hvf]
    exact hwith
  exact ⟨v, (congrArg State.done hv).trans (State.done_of_completed hcompleted
    (State.usual_alike h.1 ⟨rfl, rfl, rfl, rfl, rfl, rfl, rfl⟩ rfl) (endIgnores_of (by decide))), haccepted, hcompleted⟩

/-! ## MBOX -/

theorem exec_mbox (h : Arrives s k 6 2 p) (hdst : s.forThisNode k p) (e : Byte) (v : Word) (hpay : p.payload = [8, 0, 0, 0, e, 0, 0, 0] ++ bytesLE 4 v.toNat)
    (h1 : 1 ≤ e.toNat) (h95 : e.toNat ≤ 95) :
    ((s.eng e.toNat).inbox.length < 16 → ∃ t, exec (.mbox k p) s = .next t ∧ Accepted s t k 6 p none ∧
      t = { s with regs := t.regs, pack := { s.pack with engines := t.pack.engines }, fab := { s.fab with ports := t.fab.ports } } ∧
      (t.eng e.toNat).inbox = (s.eng e.toNat).inbox ++ [(v, 0x19)] ∧ (∀ n, n ≠ e.toNat → t.eng n = s.eng n) ∧
      (∀ x, x ≠ R.engMbx e.toNat → t.reg x = s.reg x)) ∧
    (16 ≤ (s.eng e.toNat).inbox.length → ∃ t, exec (.mbox k p) s = .next t ∧ Accepted s t k 6 p none ∧
      t = { s with fab := { s.fab with ports := t.fab.ports } }) := by
  have hengine : numAt (rxOf 6 p).payload 4 1 = e.toNat := by
    rw [show (rxOf 6 p).payload = [8, 0, 0, 0, e, 0, 0, 0] ++ bytesLE 4 v.toNat from hpay]
    exact numAt_head _ _
  have hword : BitVec.ofNat 32 (numAt (rxOf 6 p).payload 8 4) = v := by
    have hnat : numAt (rxOf 6 p).payload 8 4 = v.toNat := by
      rw [show (rxOf 6 p).payload = [8, 0, 0, 0, e, 0, 0, 0] ++ bytesLE 4 v.toNat from hpay, numAt]
      refine (congrArg natLE (List.take_of_length_le (l := bytesLE 4 v.toNat) (le_of_eq (bytesLE_length 4 _)))).trans ?_
      rw [natLE_bytesLE]
      exact Nat.mod_eq_of_lt v.isLt
    rw [hnat, BitVec.ofNat_toNat, BitVec.setWidth_eq]
  have hcode : numAt p.payload 0 1 = 8 := by
    rw [hpay]
    exact numAt_head _ _
  have hplain : PlainPort s k 2 := h.2.1
  have heng : ∀ t, s.Took t k 6 p → ∀ n, t.eng n = s.eng n := fun t ht n => by rw [ht.state]; rfl
  have hf : ∀ t : State, t.onMbox (numAt (rxOf 6 p).payload 4 1) (BitVec.ofNat 32 (numAt (rxOf 6 p).payload 8 4)) = t.onMbox e.toNat v := fun t => by rw [hengine, hword]
  refine ⟨fun hroom => ?_, fun hfull => ?_⟩
  · have hput : ∀ t, s.Took t k 6 p → t.onMbox e.toNat v = t.inboxPut e.toNat v 0x19 := fun t ht =>
      if_pos ⟨h1, h95, by rw [State.inboxRoom, heng t ht]; exact decide_eq_true (by omega)⟩
    obtain ⟨t, ht, haccepted, hstate⟩ := State.onMessage_accepts
      (f := fun t q => t.onMbox (numAt q.payload 4 1) (BitVec.ofNat 32 (numAt q.payload 8 4))) h (by decide) (by decide) hdst hcode fun t ht => by
        rw [hf, hput t ht]
        obtain ⟨hs, -, -, hreg, -⟩ := t.inboxPut_spec e.toNat 0x19 v
        refine ⟨(State.fld_of_reg (hreg _ ?_) _).trans (ht.portState hplain), State.port_of_fab (congrArg (fun s : State => s.fab.ports) hs :)⟩
        simp only [List.mem_singleton, R.dlStat, R.engMbx]
        omega
    rw [hf, hput t ht] at hstate
    have htstate := ht.state
    have htfab := ht.fab
    obtain ⟨hs, hin, hothers, hreg, -⟩ := t.inboxPut_spec e.toNat 0x19 v
    have hpack : (t.inboxPut e.toNat v 0x19).pack = { s.pack with engines := (t.inboxPut e.toNat v 0x19).pack.engines } := by
      have : t.pack = s.pack := (congrArg State.pack htstate :)
      rw [← this]
      rfl
    generalize t.inboxPut e.toNat v 0x19 = u at hs hin hothers hreg hstate hpack
    generalize hexec : s.onMessage k 6 8 p (fun t q => t.onMbox (numAt q.payload 4 1) (BitVec.ofNat 32 (numAt q.payload 8 4))) = w at haccepted hstate
    have hwpack : w.pack = u.pack := (congrArg State.pack hstate :)
    have hwregs : w.regs = u.regs := (congrArg State.regs hstate :)
    have hwhole : w = { s with regs := w.regs, pack := { s.pack with engines := w.pack.engines }, fab := { s.fab with ports := w.fab.ports } } := by
      rw [hwpack, hwregs]
      generalize w.fab.ports = pw at hstate ⊢
      rw [hstate]
      generalize u.regs = ru at hs ⊢
      generalize u.pack = pu at hs hpack ⊢
      rw [hs, hpack]
      generalize t.fab.ports = pt at htstate
      rw [htstate]
    have hweng : ∀ n, w.eng n = u.eng n := fun n => by rw [State.eng, hwpack, State.eng]
    have hwreg : ∀ o, o ≠ R.engMbx e.toNat → w.reg o = s.reg o := fun o ho =>
      (State.reg_of_regs _ _ hwregs o).trans ((hreg o fun hm => ho (List.mem_singleton.mp hm)).trans (ht.reg o))
    refine ⟨w, (congrArg State.done hexec).trans ?_, haccepted, hwhole, by rw [hweng, hin, heng t ht], fun n hn => by rw [hweng, hothers n hn, heng t ht], hwreg⟩
    refine State.done_of_endsAlike (l := [R.engMbx e.toNat]) h.1 ⟨?_, ?_, ?_, ?_, ?_, ?_, ?_⟩ (fun o ho => hwreg o fun hm => ho (List.mem_singleton.mpr hm)) (endIgnores_of fun o ho => ?_)
    case refine_4 => exact congrArg Engine.inbox ((hweng 0).trans ((hothers 0 (by omega)).trans (heng t ht 0)))
    case refine_8 =>
      rw [List.mem_singleton.mp ho, R.engMbx]
      omega
    all_goals
      generalize w.pack.engines = we at hwhole
      generalize w.regs = wr at hwhole
      rw [hwhole]
  · have hnone : ∀ t, s.Took t k 6 p → t.onMbox e.toNat v = t := fun t ht =>
      if_neg fun hc => by
        have := of_decide_eq_true hc.2.2
        rw [heng t ht] at this
        omega
    obtain ⟨t, ht, haccepted, hstate⟩ := State.onMessage_accepts
      (f := fun t q => t.onMbox (numAt q.payload 4 1) (BitVec.ofNat 32 (numAt q.payload 8 4))) h (by decide) (by decide) hdst hcode fun t ht => by
        rw [hf, hnone t ht]
        exact ⟨ht.portState hplain, fun _ => rfl⟩
    rw [hf, hnone t ht] at hstate
    have htstate := ht.state
    generalize hexec : s.onMessage k 6 8 p (fun t q => t.onMbox (numAt q.payload 4 1) (BitVec.ofNat 32 (numAt q.payload 8 4))) = w at haccepted hstate
    have hwhole : w = { s with fab := { s.fab with ports := w.fab.ports } } := by
      generalize w.fab.ports = pw at hstate ⊢
      generalize t.fab.ports = pt at htstate
      rw [hstate, htstate]
    have hregs : w.regs = s.regs := (congrArg State.regs hwhole :)
    refine ⟨w, (congrArg State.done hexec).trans (State.done_of_usual (State.usual_alike h.1 (State.endsAlike_ports (m := s.mem) ?_) hregs)), haccepted, hwhole⟩
    rw [hregs]
    generalize w.fab.ports = pw at hwhole ⊢
    rw [hwhole]

end

end Sys2Proof.Machine

/-!
Stitched samples that reach their sink, and O57 (R459, R460).
-/
namespace Sys2Proof.Machine

/-! ## A table looked up by its key -/

section
variable {α : Type}

theorem Table.find_erase_ne (t : Table α) {k j : Nat} (h : j ≠ k) : (t.erase k).find? (fun e => e.1 == j) = t.find? (fun e => e.1 == j) := by
  induction t with
  | nil => rfl
  | cons e t ih =>
    rw [Table.erase]
    by_cases hk : e.1 = k
    · rw [if_pos hk, ih, List.find?_cons_of_neg (by rw [hk, beq_iff_eq]; exact Ne.symm h)]
    · rw [if_neg hk, List.find?_cons, List.find?_cons, ih]

theorem Table.find_insert_ne (t : Table α) {k j : Nat} (v : α) (h : j ≠ k) : (t.insert k v).find? (fun e => e.1 == j) = t.find? (fun e => e.1 == j) := by
  induction t with
  | nil => exact List.find?_cons_of_neg (by rw [beq_iff_eq]; exact Ne.symm h)
  | cons e t ih =>
    rw [Table.insert]
    by_cases hk : k < e.1
    · rw [if_pos hk, List.find?_cons_of_neg (by rw [beq_iff_eq]; exact Ne.symm h)]
    · rw [if_neg hk, List.find?_cons, List.find?_cons, ih]

theorem Table.find_insert_same (t : Table α) {k : Nat} (v : α) (h : Table.lacks t k) : (t.insert k v).find? (fun e => e.1 == k) = some (k, v) := by
  induction t with
  | nil => exact List.find?_cons_of_pos (beq_self_eq_true _)
  | cons e t ih =>
    rw [Table.insert]
    by_cases hk : k < e.1
    · rw [if_pos hk]
      exact List.find?_cons_of_pos (beq_self_eq_true _)
    · rw [if_neg hk, List.find?_cons_of_neg (by rw [beq_iff_eq]; exact h e (List.mem_cons_self ..)), ih fun d hd => h d (List.mem_cons_of_mem _ hd)]

/-- Entries put into a table one after the other: a key that they give has the value that they give it. -/
theorem Table.find_foldl_put {β : Type} (key : β → Nat) (val : β → α) {k : Nat} {v : α} (l : List β) (hval : ∀ e ∈ l, key e = k → val e = v) (t : Table α)
    (h : t.find? (fun e => e.1 == k) = some (k, v) ∨ ∃ e ∈ l, key e = k) :
    (l.foldl (fun t e => (Table.erase t (key e)).insert (key e) (val e)) t).find? (fun e => e.1 == k) = some (k, v) := by
  induction l generalizing t with
  | nil => exact h.resolve_right fun ⟨e, he, _⟩ => absurd he List.not_mem_nil
  | cons a l ih =>
    refine ih (fun e he => hval e (List.mem_cons_of_mem _ he)) _ ?_
    by_cases ha : key a = k
    · refine .inl ?_
      dsimp only
      rw [ha, hval a (List.mem_cons_self ..) ha]
      exact Table.find_insert_same _ _ (Table.erase_lacks t k)
    · rcases h with h | ⟨e, he, hek⟩
      · refine .inl ?_
        rw [Table.find_insert_ne _ _ (Ne.symm ha), Table.find_erase_ne _ (Ne.symm ha), h]
      · rcases List.mem_cons.mp he with rfl | he
        · exact absurd hek ha
        · exact .inr ⟨e, he, hek⟩

end

/-! ## A chunk at its sink -/

section
variable {s : State} {k : Fin 4} {p : Packet} {c n : Nat}

/-- The sink that a chunk names. -/
def State.sinks (s : State) (p : Packet) : Prop :=
  F.stCfg.EN.get (s.reg (R.stCfg (p.tag.toNat / 4096))) = 1 ∧ F.stCfg.ROLE.get (s.reg (R.stCfg (p.tag.toNat / 4096))) = 1 ∧
    F.stCfg.NODE.get (s.reg (R.stCfg (p.tag.toNat / 4096))) = p.src.toNat

/-- A chunk for which no sink is enabled. -/
theorem State.onStitch_dropped (h : ¬s.sinks p) : s.onStitch (rxOf 5 p) = s := by
  refine if_pos ?_
  rw [Bool.or_eq_true, Bool.or_eq_true, Bool.not_eq_true', Bool.not_eq_true', bne_iff_ne]
  by_contra hc
  rw [not_or, not_or, Bool.not_eq_false, Bool.not_eq_false, State.bit_iff_one rfl, State.bit_iff_one rfl, not_not] at hc
  exact h ⟨hc.1.1, hc.1.2, hc.2⟩

/-- A sink channel with what a chunk brings merged. -/
def Stitch.merged (x : Stitch) (w : Nat) (q : RxPacket) : Stitch :=
  let keep := ((List.range (q.payload.length / 2)).map (fun j =>
    (128 * (q.tag % 4096) + j, natLE ((q.payload.drop (2 * j)).take 2), q.bad.contains (j / 8)))).filter (fun e => decide (e.1 < w))
  { x with
    chunks := Table.set (fun _ => []) x.chunks q.arg
      (keep.foldl (fun (t : Table Nat) e => (t.erase e.1).insert e.1 e.2.1) (Table.get (fun _ => []) x.chunks q.arg))
    bad := Table.set (fun _ => []) x.bad q.arg ((keep.filter (fun e => e.2.2)).foldl (fun b e => addSorted b e.1) (Table.get (fun _ => []) x.bad q.arg)) }

/-- A chunk for a sink of a plane that holds back no line: late, or merged (R460). -/
theorem State.onStitch_taken (h : s.sinks p) (hc : c = p.tag.toNat / 4096) (hn : n = s.fld (R.stCfg c) F.stCfg.PLANE) (hheld : s.heldLines n = [])
    {done : Nat} (hdone : done = Table.get (fun _ => 0) s.fab.lastTick n) :
    s.onStitch (rxOf 5 p) = if p.arg.toNat < done ∨ (done ≠ 0 ∧ done + 3 < p.arg.toNat) then s.count (R.stLateCnt c)
      else s.setStitch c ((s.stitch c).merged (s.fld (R.stGeom c) F.stGeom.WIDTH) (rxOf 5 p)) := by
  subst hc hn hdone
  obtain ⟨hen, hrole, hnode⟩ := h
  have hmine : ¬((!(s.bit (R.stCfg (p.tag.toNat / 4096)) F.stCfg.EN) || !(s.bit (R.stCfg (p.tag.toNat / 4096)) F.stCfg.ROLE) ||
      s.fld (R.stCfg (p.tag.toNat / 4096)) F.stCfg.NODE != p.src.toNat) = true) := by
    rw [Bool.or_eq_true, Bool.or_eq_true, Bool.not_eq_true', Bool.not_eq_true', bne_iff_ne]
    rintro ((e | e) | e)
    · exact absurd (e.symm.trans ((State.bit_iff_one rfl).mpr hen)) Bool.false_ne_true
    · exact absurd (e.symm.trans ((State.bit_iff_one rfl).mpr hrole)) Bool.false_ne_true
    · exact e hnode
  have hold : (match s.heldLines (s.fld (R.stCfg (p.tag.toNat / 4096)) F.stCfg.PLANE) with
      | l :: _ => some l.tick
      | [] => if Table.get (fun _ => 0) s.fab.lastTick (s.fld (R.stCfg (p.tag.toNat / 4096)) F.stCfg.PLANE) = 0 then none
        else some (Table.get (fun _ => 0) s.fab.lastTick (s.fld (R.stCfg (p.tag.toNat / 4096)) F.stCfg.PLANE))) =
      if Table.get (fun _ => 0) s.fab.lastTick (s.fld (R.stCfg (p.tag.toNat / 4096)) F.stCfg.PLANE) = 0 then none
        else some (Table.get (fun _ => 0) s.fab.lastTick (s.fld (R.stCfg (p.tag.toNat / 4096)) F.stCfg.PLANE)) := by
    rw [hheld]
  delta State.onStitch
  extract_lets c0 k0 n done oldest late w x samples keep tbl bad s1
  refine (if_neg hmine).trans ?_
  have holdest : oldest = if done = 0 then none else some done := hold
  have hlate : late = true ↔ p.arg.toNat < done ∨ (done ≠ 0 ∧ done + 3 < p.arg.toNat) := by
    simp only [late, holdest, Bool.or_eq_true, decide_eq_true_eq]
    by_cases h0 : done = 0
    · rw [if_pos h0]
      simp [h0, rxOf]
    · rw [if_neg h0]
      exact or_congr Iff.rfl ⟨fun h => ⟨h0, of_decide_eq_true h⟩, fun h => decide_eq_true h.2⟩
  refine if_congr hlate rfl ?_
  have hnone : ∀ x, (s.setStitch (p.tag.toNat / 4096) x).heldLines n = [] := fun x => hheld
  have hflush : s1.heldLines n = [] := hnone _
  rw [hflush]
  rfl

/-- The samples that a chunk brings are where the sink looks for them. -/
theorem Stitch.merged_sample (x : Stitch) {w : Nat} {q : RxPacket} {j : Nat} (hj : j < q.payload.length / 2) (hw : 128 * (q.tag % 4096) + j < w) :
    (Table.get (fun _ => []) (x.merged w q).chunks q.arg).find? (fun e => e.1 == 128 * (q.tag % 4096) + j) =
      some (128 * (q.tag % 4096) + j, natLE ((q.payload.drop (2 * j)).take 2)) := by
  rw [Stitch.merged, Table.get_set_same]
  refine Table.find_foldl_put (fun e : Nat × Nat × Bool => e.1) (fun e => e.2.1) _ (fun e he hkey => ?_) _ (.inr
    ⟨(128 * (q.tag % 4096) + j, natLE ((q.payload.drop (2 * j)).take 2), q.bad.contains (j / 8)), ?_, rfl⟩)
  · obtain ⟨i, -, rfl⟩ := List.mem_map.mp (List.mem_of_mem_filter he)
    have hij : i = j := by
      dsimp only at hkey
      omega
    rw [hij]
  · exact List.mem_filter.mpr ⟨List.mem_map.mpr ⟨j, List.mem_range.mpr hj, rfl⟩, decide_eq_true hw⟩

theorem exec_stitch_dropped (h : Arrives s k 5 0 p) (hdst : s.forThisNode k p) (hno : ¬s.sinks p) :
    ∃ t, exec (.stitch k p) s = .next t ∧ t = { s with fab := { s.fab with ports := t.fab.ports } } ∧ Accepted s t k 5 p none := by
  have hdrop : ∀ t, s.Took t k 5 p → t.onStitch (rxOf 5 p) = t := fun t ht => State.onStitch_dropped (by rw [State.sinks, ht.reg]; exact hno)
  obtain ⟨t, ht, haccepted, hstate⟩ := State.onPacket_accepts (f := fun t q => t.onStitch q) h (by decide) (by decide) hdst fun t ht => by
    rw [hdrop t ht]
    exact ⟨ht.portState h.2.1, fun _ => rfl⟩
  rw [hdrop t ht] at hstate
  have htstate := ht.state
  generalize hv : s.onPacket k 5 p (fun t q => t.onStitch q) = v at haccepted hstate
  have hwhole : v = { s with fab := { s.fab with ports := v.fab.ports } } := by
    generalize v.fab.ports = pv at hstate ⊢
    generalize t.fab.ports = pt at htstate
    rw [hstate, htstate]
  have hregs : v.regs = s.regs := (congrArg State.regs hwhole :)
  refine ⟨v, (congrArg State.done hv).trans (State.done_of_usual (State.usual_alike h.1 (State.endsAlike_ports (m := s.mem) ?_) hregs)), hwhole, haccepted⟩
  rw [hregs]
  generalize v.fab.ports = pv at hwhole ⊢
  rw [hwhole]

section
variable (h : Arrives s k 5 0 p) (hdst : s.forThisNode k p) (hsink : s.sinks p) (hc : c = p.tag.toNat / 4096) (hn : n = s.fld (R.stCfg c) F.stCfg.PLANE)
  (hheld : Table.get (fun _ => []) s.fab.held n = []) {done : Nat} (hdone : done = Table.get (fun _ => 0) s.fab.lastTick n)
include hsink hc hn hheld hdone

theorem State.Took.onStitch_eq {t : State} (ht : s.Took t k 5 p) :
    t.onStitch (rxOf 5 p) = if p.arg.toNat < done ∨ (done ≠ 0 ∧ done + 3 < p.arg.toNat) then t.count (R.stLateCnt c)
      else t.setStitch c ((s.stitch c).merged (s.fld (R.stGeom c) F.stGeom.WIDTH) (rxOf 5 p)) := by
  have hstitch : t.stitch c = s.stitch c := by rw [ht.state]; rfl
  have hplane : n = t.fld (R.stCfg c) F.stCfg.PLANE := by rw [ht.fld]; exact hn
  rw [State.onStitch_taken (s := t) (c := c) (n := n) (done := done) (by rw [State.sinks, ht.reg]; exact hsink) hc hplane
    (by rw [State.heldLines, ht.fab]; exact hheld) (by rw [ht.fab]; exact hdone), hstitch, ht.fld]

include h hdst

theorem exec_stitch_late (hlate : p.arg.toNat < done) :
    ∃ t, exec (.stitch k p) s = .next t ∧ t = { s with regs := t.regs, fab := { s.fab with ports := t.fab.ports } } ∧
      Accepted s t k 5 p none ∧ t.reg (R.stLateCnt c) = satInc (s.reg (R.stLateCnt c)) ∧ ∀ x, x ≠ R.stLateCnt c → t.reg x = s.reg x := by
  have hcount : ∀ t, s.Took t k 5 p → t.onStitch (rxOf 5 p) = t.count (R.stLateCnt c) := fun t ht =>
    (ht.onStitch_eq hsink hc hn hheld hdone).trans (if_pos (.inl hlate))
  have hc16 : c < 16 := by
    have := p.tag.isLt
    omega
  obtain ⟨t, ht, haccepts⟩ := State.onPacket_accepts (f := fun t q => t.onStitch q) h (by decide) (by decide) hdst fun t ht => by
    rw [hcount t ht]
    refine ⟨(State.fld_of_reg ?_ _).trans (ht.portState h.2.1), fun _ => rfl⟩
    rw [State.reg_count, if_neg (by simp only [R.dlStat, R.stLateCnt]; omega)]
  rw [hcount t ht] at haccepts
  obtain ⟨hdone, hstate, hcnt, hreg⟩ := haccepts.ends_counted h.1 ht (endIgnores_of fun o ho => by
    rw [List.mem_singleton.mp ho, R.stLateCnt]
    omega)
  exact ⟨_, hdone, hstate, haccepts.accepted, hcnt, hreg⟩

theorem exec_stitch_merged (hfrom : done ≤ p.arg.toNat) (hto : done = 0 ∨ p.arg.toNat ≤ done + 3) :
    ∃ t, exec (.stitch k p) s = .next t ∧ t = { s with fab := { s.fab with ports := t.fab.ports, stitch := t.fab.stitch } } ∧ Accepted s t k 5 p none ∧
      (∀ d, d ≠ c → t.stitch d = s.stitch d) ∧ t.stitch c = (s.stitch c).merged (s.fld (R.stGeom c) F.stGeom.WIDTH) (rxOf 5 p) := by
  generalize hx : (s.stitch c).merged (s.fld (R.stGeom c) F.stGeom.WIDTH) (rxOf 5 p) = x
  have hset : ∀ t, s.Took t k 5 p → t.onStitch (rxOf 5 p) = t.setStitch c x := fun t ht =>
    ((ht.onStitch_eq hsink hc hn hheld hdone).trans (if_neg (by omega))).trans (by rw [hx])
  obtain ⟨t, ht, haccepted, hstate⟩ := State.onPacket_accepts (f := fun t q => t.onStitch q) h (by decide) (by decide) hdst fun t ht => by
    rw [hset t ht]
    exact ⟨ht.portState h.2.1, fun _ => rfl⟩
  rw [hset t ht] at hstate
  have htstate := ht.state
  generalize hv : s.onPacket k 5 p (fun t q => t.onStitch q) = v at haccepted hstate
  have hstitch : v.fab.stitch = Table.set (fun _ => {}) s.fab.stitch c x := by
    rw [hstate]
    exact congrArg (fun f : Fabric => Table.set (fun _ => {}) f.stitch c x) ht.fab
  have hwhole : v = { s with fab := { s.fab with ports := v.fab.ports, stitch := v.fab.stitch } } := by
    rw [hstitch]
    generalize v.fab.ports = pv at hstate ⊢
    generalize t.fab.ports = pt at htstate
    rw [hstate, htstate]
    rfl
  have hget : ∀ d, v.stitch d = if d = c then x else s.stitch d := fun d => by
    rw [State.stitch, hstitch, Table.get_set]
    rfl
  refine ⟨v, (congrArg State.done hv).trans (State.done_of_usual (State.usual_alike h.1 ⟨?_, ?_, ?_, ?_, ?_, ?_, ?_⟩ (congrArg State.regs hwhole :))), hwhole, haccepted,
    fun d hd => (hget d).trans (if_neg hd), (hget c).trans (if_pos rfl)⟩
  all_goals
    generalize v.fab.ports = pv at hwhole
    generalize v.fab.stitch = sv at hwhole
    rw [hwhole]
  rfl

end

end

/-! ## O57 -/

section
variable {s : State} {k : Fin 4} {p : Packet}

theorem State.forThisNode_of (h : p.dst.toNat = s.nodeId ∧ s.nodeId ≠ 0 ∧ s.nodeId ≠ 255 ∨ p.dst = 0) : s.forThisNode k p := by
  rcases h with ⟨hd, -, h255⟩ | h0
  · exact ⟨.inr (.inl hd), fun e => absurd (hd.symm.trans e) h255⟩
  · have hz : p.dst.toNat = 0 := by rw [h0]; rfl
    exact ⟨.inl hz, fun e => absurd (hz.symm.trans e) (by decide)⟩

end

/-- Settles O57. -/
theorem fabricPackets : Obligations.FabricPackets := by
  unfold Obligations.FabricPackets
  intro s k p herr hpoison src tag off len here local' allowed answers
  have hlocal : here → s.forThisNode k p := fun h => State.forThisNode_of (.inl h)
  have hlocal' : local' → s.forThisNode k p := State.forThisNode_of
  refine ⟨fun hhere hroute => ⟨fun ha hallowed hpd => ?_, fun ha hallowed hpd hbad => ?_, ?_⟩, fun hhere => ?_, fun hu t0 => ⟨exec_responseTimeout_none hu, ?_⟩,
    fun hu => ⟨exec_remoteWindowAccess_none hu, ?_⟩, fun type => ⟨fun hu => exec_packetForward_none hu type, ?_⟩, fun hl ha rest => ⟨?_, ?_, ?_⟩, fun hl ha => ⟨?_, ?_⟩⟩
  · obtain ⟨t, hexec, hstate, haccepted, hcred, hreg⟩ := exec_rdReq herr hpoison ha (hlocal hhere) hroute hallowed hpd
    exact ⟨t, hexec, hstate, haccepted, hcred, fun x hx => hreg x fun e => hx (List.mem_cons.mpr (.inl e))⟩
  · obtain ⟨t, hexec, hstate, haccepted, hcred, hreg⟩ := exec_wrReq herr hpoison ha (hlocal hhere) hroute hallowed hpd hbad
    have hlen : p.payload.length = len := ha.2.2.1.2.2.1
    have hs0 := s.setBytes_state (pageBase + off) p.payload
    refine ⟨(s.setBytes (pageBase + off) p.payload).mem, ⟨t, hexec, ?_, haccepted, hcred, fun x hx => hreg x fun e => hx (List.mem_cons.mpr (.inl e))⟩, ?_, fun a hout => ?_⟩
    · rw [← hs0]
      exact hstate
    · rw [← hs0, ← hlen]
      exact s.bytes_setBytes _ _
    · rw [← hs0]
      exact State.byte_setBytes_out _ _ _ _ (by rw [hlen]; exact hout)
  · have hrefused : ∀ (write : Bool) (type : Nat) (i : Instr), (type = if write then 2 else 1) →
        exec i s = State.done (s.onPacket k type p (fun t q => t.onRequest k q)) → Arrives s k type 17 p → ¬allowed write →
        answers i type s St.busError [] 1 [R.dlfViolCnt, R.dlfErr] ∧
        ∃ t, exec i s = .next t ∧ t.reg R.dlfViolCnt = satInc (s.reg R.dlfViolCnt) ∧
          t.reg R.dlfErr = (if s.fld R.dlfErr F.dlfErr.VALID = 1 then s.reg R.dlfErr
            else BitVec.ofNat 32 (1 + St.busError * 2 ^ 8 + src * 2 ^ 16 + k * 2 ^ 24)) := fun write type i htype hexec ha hno => by
      obtain ⟨t, hnext, hstate, haccepted, hcred, hreg⟩ := exec_refusedRequest write type htype ha (hlocal hhere) hroute hno
      have hcount : (s.count R.dlfViolCnt).fld R.dlfErr F.dlfErr.VALID = s.fld R.dlfErr F.dlfErr.VALID :=
        State.fld_of_reg ((State.reg_count _ _ _).trans (if_neg (by decide))) _
      refine ⟨⟨t, hexec.trans hnext, hstate, haccepted, hcred, fun x hx => ?_⟩, t, hexec.trans hnext, ?_, ?_⟩
      · simp only [List.mem_cons, List.not_mem_nil, or_false, not_or] at hx
        rw [hreg x hx.1, State.reg_dlfError, if_neg (fun e => hx.2.2 e.1), State.reg_count, if_neg hx.2.1]
      · rw [hreg _ (by simp only [R.dlfViolCnt, R.dlCred]; omega), State.reg_dlfError, if_neg (fun e => absurd e.1 (by decide)), State.reg_count, if_pos rfl]
      · rw [hreg _ (by simp only [R.dlfErr, R.dlCred]; omega), State.reg_dlfError, hcount]
        by_cases hv : s.fld R.dlfErr F.dlfErr.VALID = 1
        · rw [if_neg (fun e => e.2 hv), if_pos hv, State.reg_count, if_neg (by decide)]
        · rw [if_pos ⟨rfl, hv⟩, if_neg hv]
    simp only [List.forall_mem_cons]
    exact ⟨hrefused false 1 _ rfl rfl, hrefused true 2 _ rfl rfl, fun _ h => absurd h List.not_mem_nil⟩
  · have hresponse : ∀ (write : Bool) (type : Nat) (i : Instr), (type = if write then 4 else 3) →
        exec i s = State.done (s.onPacket k type p (fun t q => t.onResponse q)) → Arrives s k type 0 p →
        (s.fab.remotes = [] → ∃ t, exec i s = .next t ∧ t = { s with regs := t.regs, fab := { s.fab with ports := t.fab.ports } } ∧
          Accepted s t k type p none ∧ t.reg R.dlfLateRspCnt = satInc (s.reg R.dlfLateRspCnt) ∧ (∀ x, x ≠ R.dlfLateRspCnt → t.reg x = s.reg x)) ∧
        ∀ (n : Fin 32) (r : Remote), s.fab.remotes = [r] → r.who = .ring n → r.tag = tag → r.write = write → p.arg.toNat % 256 = 0 → p.bad = [] →
          (s.chan n).type = 0 → (s.chan n).abort = false → (s.chan n).wait = some (if write then 3 else 2) → (s.chan n).wr + (s.chan n).dw < (s.chan n).len →
          ∃ t, exec i s = .next t ∧ Accepted s t k type p none ∧ t.fab.remotes = [] ∧
            ChanStays { s with fab := t.fab } t n ((s.chan n).landed write p.payload) (chanPosition n) ∧ ShowsPosition t n ((s.chan n).landed write p.payload) :=
      fun write type i htype hexec ha => by
        rw [hexec]
        refine ⟨exec_lateResponse ha (by rw [htype]; cases write <;> decide) (hlocal hhere), fun n r hremotes hwho htag hwrite harg hbad hct hab hw hmore => ?_⟩
        exact exec_ringResponse write htype ha (hlocal hhere) hremotes hwho htag hwrite harg hbad hw hct hab hmore rfl
    simp only [List.forall_mem_cons]
    exact ⟨hresponse false 3 _ rfl rfl, hresponse true 4 _ rfl rfl, fun _ h => absurd h List.not_mem_nil⟩
  · intro n r hremotes hwho htag _ hroute hwait hab hwaiting
    exact exec_responseTimeout_ring hu hremotes hwho htag hroute hwait hab hwaiting
  · intro r rest hw hroom hclean _ hplain
    exact exec_remoteWindowAccess_sends hu hw hroom hclean hplain rfl
  · intro h1 h6 h0 h255 hn ha n q
    have hd0 : p.dst.toNat ≠ 0 := fun e => h0 (BitVec.eq_of_toNat_eq e)
    have hd255 : p.dst.toNat ≠ 255 := fun e => h255 (BitVec.eq_of_toNat_eq e)
    rw [exec_packetForward_away type h6 h0 h255 hn]
    exact ⟨fun httl hother hplain => exec_forward_sends ha h1 h6 hd0 hd255 hn httl hother hplain rfl _,
      fun httl hreq => exec_forward_expired ha h1 h6 hd0 hd255 hn httl hreq _⟩
  · intro hpay hlen hroute
    exact exec_ping ha (hlocal' hl) hroute hpay hlen
  · intro hpay hlen q tg c x hpings hc hx
    exact exec_pong ha (hlocal' hl) hpay hlen q tg c x hpings hc hx
  · intro e v hpay h1 h95
    exact exec_mbox ha (hlocal' hl) e v hpay h1 h95
  · intro hno
    exact exec_stitch_dropped ha (hlocal' hl) hno
  · intro hsink hheld hbad done
    refine ⟨fun hlate => exec_stitch_late ha (hlocal' hl) hsink rfl rfl hheld rfl hlate, fun hfrom hto => ?_⟩
    obtain ⟨t, hexec, hstate, haccepted, hothers, hmerged⟩ := exec_stitch_merged ha (hlocal' hl) hsink rfl rfl hheld rfl hfrom hto
    refine ⟨t, hexec, hstate, haccepted, hothers, fun j hj hw => ?_⟩
    rw [hmerged]
    exact Stitch.merged_sample (q := rxOf 5 p) _ hj hw

end Sys2Proof.Machine

/-!
What packets that go out may change, and DISC (R434, R445).
-/
namespace Sys2Proof.Machine

/-- The credit counts of the ports. -/
def dlCreds : List Nat := [R.dlCred 0, R.dlCred 1, R.dlCred 2, R.dlCred 3]

theorem dlCred_mem {k : Nat} (h : k < 4) : R.dlCred k ∈ dlCreds := by
  simp only [dlCreds, R.dlCred, List.mem_cons, List.not_mem_nil, or_false]
  omega

theorem dlCred_of_mem {o : Nat} (h : o ∈ dlCreds) : ∃ k, k < 4 ∧ o = R.dlCred k := by
  simp only [dlCreds, List.mem_cons, List.not_mem_nil, or_false] at h
  rcases h with h | h | h | h
  · exact ⟨0, by decide, h⟩
  · exact ⟨1, by decide, h⟩
  · exact ⟨2, by decide, h⟩
  · exact ⟨3, by decide, h⟩

/-- Packets have gone out or wait at ports: ports and credits have changed, but not what the neighbours have advertised. -/
structure State.Sends (s t : State) : Prop where
  state : t = { s with regs := t.regs, fab := { s.fab with ports := t.fab.ports } }
  reg : s.regsBut t dlCreds
  advert : ∀ j, (t.port j).advert = (s.port j).advert

namespace State.Sends
variable {s t u : State}

theorem refl (s : State) : s.Sends s := ⟨rfl, .refl s _, fun _ => rfl⟩

theorem trans (h : s.Sends t) (h' : t.Sends u) : s.Sends u := by
  refine ⟨?_, h.reg.trans h'.reg, fun j => (h'.advert j).trans (h.advert j)⟩
  have hu := h'.state
  have ht := h.state
  generalize u.fab.ports = pu at hu ⊢
  generalize u.regs = ru at hu ⊢
  generalize t.fab.ports = pt at ht
  generalize t.regs = rt at ht
  rw [hu, ht]

theorem only (h : s.Sends t) : t = { s with regs := t.regs, fab := t.fab } :=
  h.state.trans (congrArg (fun f => { s with regs := t.regs, fab := f }) (congrArg State.fab h.state).symm)

/-- The state of a port changes otherwise. -/
theorem setPort (h : s.Sends t) (k : Nat) (x : Port) (hx : x.advert = (t.port k).advert) : s.Sends (t.setPort k x) :=
  h.trans ⟨rfl, State.regsBut_of_regs _ rfl, fun j => by
    by_cases hj : j = k
    · rw [hj, State.port_setPort, hx]
    · rw [State.port_setPort_ne _ _ _ hj]⟩

theorem portOut (h : s.Sends t) (k : Nat) (o : Out) : s.Sends (t.portOut k o) := h.setPort k _ rfl

theorem setCredits (h : s.Sends t) {k : Nat} (hk : k < 4) (vc n : Nat) : s.Sends (t.setCredits k vc n) := by
  rw [State.setCredits_eq]
  exact h.trans ⟨rfl, (State.regsBut.refl t _).setFld _ _ (dlCred_mem hk), fun _ => rfl⟩

theorem transmit (h : s.Sends t) (k : Nat) (q : Sent) : s.Sends (t.transmit k q) := by
  rw [State.transmit]
  dsimp only
  split
  · refine State.Sends.portOut (State.Sends.setPort h k _ ?_) k _
    rfl
  · exact h.portOut k _

theorem pump (h : s.Sends t) {k : Nat} (hk : k < 4) (fuel : Nat) : s.Sends (State.pump k fuel t) := by
  induction fuel generalizing t with
  | zero => exact h
  | succ fuel ih =>
    rw [State.pump]
    dsimp only
    split
    · exact h
    · split
      · refine ih (State.Sends.transmit (State.Sends.setCredits (State.Sends.setPort h k _ ?_) hk _ _) k _)
        rfl
      · exact h

theorem enqueue (h : s.Sends t) {k : Nat} (hk : k < 4) (p : TxPacket) : s.Sends (t.enqueue k p) := by
  rw [State.enqueue]
  refine State.Sends.pump (State.Sends.setPort h k _ ?_) hk _
  rfl

theorem sendMsg (h : s.Sends t) {k : Nat} (hk : k < 4) (dst : Nat) (l : List Byte) : s.Sends (t.sendMsg k dst l) := h.enqueue hk _

theorem foldl {α : Type} (h : s.Sends t) (l : List α) (f : State → α → State) (hf : ∀ u : State, ∀ x ∈ l, u.Sends (f u x)) : s.Sends (l.foldl f t) :=
  List.foldlRecOn (motive := fun u => s.Sends u) l f h fun u hu x hx => hu.trans (hf u x hx)

theorem fld (h : s.Sends t) {o : Nat} (f : Fld) (ho : o ∉ dlCreds) : t.fld o f = s.fld o f := h.reg.fld ho f

theorem usual (h : s.Sends t) (hu : s.usual) : t.usual :=
  State.usual_of hu (State.endsAlike_ports (m := s.mem) h.state) h.reg (by unfold endIgnores; decide)

end State.Sends

theorem State.activePorts_lt {s : State} {k : Nat} (h : k ∈ s.activePorts) : k < 4 := List.mem_range.mp (List.mem_of_mem_filter h)

theorem State.mem_activePorts {s : State} {k : Nat} : k ∈ s.activePorts ↔ k < 4 ∧ s.portState k = 5 := by
  rw [State.activePorts, List.mem_filter, List.mem_range, beq_iff_eq]
  rfl

section
variable (s : State)

/-- DISC on every ACTIVE port, after the advertisement is noted. -/
theorem State.sendDiscs_sends : State.Sends { s with fab := { s.fab with advert := some s.ownAdvert } } s.sendDiscs :=
  (State.Sends.refl _).foldl _ _ fun u _ hk => (State.Sends.refl u).sendMsg (State.activePorts_lt hk) _ _

/-- What DISC and TOPO after a change leave. -/
theorem State.discIfChanged_sends : ∃ a, State.Sends { s with fab := { s.fab with advert := a } } s.discIfChanged := by
  rw [State.discIfChanged]
  split
  · exact ⟨s.fab.advert, .refl s⟩
  · exact ⟨_, s.sendDiscs_sends⟩

theorem State.topoIfChanged_sends (h : ∀ k, s.fab.parent = some k → k < 4) :
    ∃ l, State.Sends { s with fab := { s.fab with lastTopo := l } } s.topoIfChanged := by
  delta State.topoIfChanged
  extract_lets cur s1
  split
  · exact ⟨s.fab.lastTopo, .refl s⟩
  · split
    · exact ⟨_, .refl _⟩
    · next k hk => exact ⟨_, (State.Sends.refl _).sendMsg (h k hk) _ _⟩

end

/-! ## The DISC timer -/

section
variable {s : State}

/-- An advertisement that fits its message. -/
structure Advert.Fits (a : Advert) : Prop where
  uid : a.uid < 2 ^ 64
  pri : a.pri < 256
  nodeId : a.nodeId < 256
  reqId : a.reqId < 256
  leadUid : a.leadUid < 2 ^ 64
  leadPri : a.leadPri < 256
  dist : a.dist < 256
  epoch : a.epoch < 65536

theorem State.reg64_lt (s : State) (lo hi : Nat) : s.reg64 lo hi < 2 ^ 64 := by
  have hlo := (s.reg lo).isLt
  have hhi := (s.reg hi).isLt
  rw [State.reg64]
  omega

theorem State.ownAdvert_fits (h : ∀ l, s.fab.leadPri = some l → l < 256) : s.ownAdvert.Fits := by
  refine ⟨s.reg64_lt _ _, s.fld_lt _ _, s.fld_lt _ _, s.fld_lt _ _, ?_, ?_, lt_of_lt_of_le (s.fld_lt _ _) (by decide), s.fld_lt _ _⟩
  · show (if s.fab.leadPri.isSome then s.reg64 R.dlfLeadUidLo R.dlfLeadUidHi else 0) < 2 ^ 64
    split
    · exact s.reg64_lt _ _
    · decide
  · show s.fab.leadPri.getD 255 < 256
    cases hl : s.fab.leadPri with
    | none => decide
    | some l => exact h l hl

/-- A field of a message after the bytes that stand before it. -/
theorem fieldAt_append (l m : List Byte) {o i n : Nat} (h : o = l.length + i) : fieldAt (l ++ m) o n = fieldAt m i n := by
  rw [fieldAt, fieldAt, h, List.drop_append, List.drop_eq_nil_of_le (by omega), Nat.add_sub_cancel_left, List.nil_append]

theorem fieldAt_bytesLE {n v : Nat} (h : v < 256 ^ n) (m : List Byte) : fieldAt (bytesLE n v ++ m) 0 n = v := by
  rw [fieldAt, List.drop_zero, List.take_left' (bytesLE_length n v), natLE_bytesLE, Nat.mod_eq_of_lt h]

/-- A message of fields, each of so many bytes. -/
def packed (fs : List (Nat × Nat)) : List Byte := fs.flatMap (fun f => bytesLE f.1 f.2)

theorem length_packed (fs : List (Nat × Nat)) : (packed fs).length = (fs.map Prod.fst).sum := by
  rw [packed, List.length_flatMap]
  simp only [bytesLE_length]

theorem packed_append (l m : List (Nat × Nat)) : packed (l ++ m) = packed l ++ packed m := List.flatMap_append

/-- A field of a packed message, after the fields that stand before it. -/
theorem fieldAt_packed (before after : List (Nat × Nat)) {n v : Nat} (h : v < 256 ^ n) :
    fieldAt (packed (before ++ (n, v) :: after)) (before.map Prod.fst).sum n = v := by
  rw [packed_append, fieldAt_append (packed before) _ (i := 0) (by rw [length_packed, Nat.add_zero])]
  exact fieldAt_bytesLE h (packed after)

/-- The fields of a DISC message (Table 13-7). -/
def Advert.fields (a : Advert) : List (Nat × Nat) :=
  [(4, 1), (8, a.uid), (1, a.pri), (1, a.nodeId), (1, a.reqId), (1, 0), (8, a.leadUid), (1, a.leadPri), (1, a.dist), (2, a.epoch)]

theorem Advert.disc_eq (a : Advert) : a.disc = packed a.fields := by
  rw [Advert.disc, packed, Advert.fields]
  simp only [List.flatMap_cons, List.flatMap_nil, List.append_nil, List.append_assoc]
  rfl

/-- A DISC message says what it was made of. -/
theorem advertised_disc {a : Advert} (h : a.Fits) : advertised a.disc = a ∧ a.disc.length = 28 ∧ a.disc.take 4 = [1, 0, 0, 0] := by
  refine ⟨?_, by rw [Advert.disc_eq, length_packed]; rfl, rfl⟩
  have huid : fieldAt a.disc 4 8 = a.uid := a.disc_eq ▸ fieldAt_packed (a.fields.take 1) (a.fields.drop 2) h.uid
  have hpri : fieldAt a.disc 12 1 = a.pri := a.disc_eq ▸ fieldAt_packed (a.fields.take 2) (a.fields.drop 3) h.pri
  have hnode : fieldAt a.disc 13 1 = a.nodeId := a.disc_eq ▸ fieldAt_packed (a.fields.take 3) (a.fields.drop 4) h.nodeId
  have hreq : fieldAt a.disc 14 1 = a.reqId := a.disc_eq ▸ fieldAt_packed (a.fields.take 4) (a.fields.drop 5) h.reqId
  have hlead : fieldAt a.disc 16 8 = a.leadUid := a.disc_eq ▸ fieldAt_packed (a.fields.take 6) (a.fields.drop 7) h.leadUid
  have hleadPri : fieldAt a.disc 24 1 = a.leadPri := a.disc_eq ▸ fieldAt_packed (a.fields.take 7) (a.fields.drop 8) h.leadPri
  have hdist : fieldAt a.disc 25 1 = a.dist := a.disc_eq ▸ fieldAt_packed (a.fields.take 8) (a.fields.drop 9) h.dist
  have hepoch : fieldAt a.disc 26 2 = a.epoch := a.disc_eq ▸ fieldAt_packed (a.fields.take 9) (a.fields.drop 10) h.epoch
  rw [advertised, huid, hpri, hnode, hreq, hlead, hleadPri, hdist, hepoch]

/-- DISC on ports that are plain: each sends the same packet, one after the other. -/
theorem State.sendDiscs_ports (d : List Byte) (hd : d.length = 28) (l : List Nat) (hl : l.Nodup) (hplain : ∀ j ∈ l, PlainPort s j 3) :
    (∀ j, ((l.foldl (fun t k => t.sendMsg k 0 d) s).port j).out =
      if j ∈ l then .packet ⟨fromHere s 6 0 0 0 28 d, (s.port j).txSeq, none⟩ :: (s.port j).out else (s.port j).out) ∧
    ∀ x, (∀ j ∈ l, x ≠ R.dlCred j) → (l.foldl (fun t k => t.sendMsg k 0 d) s).reg x = s.reg x := by
  induction l generalizing s with
  | nil => exact ⟨fun j => (if_neg List.not_mem_nil).symm, fun _ _ => rfl⟩
  | cons k l ih =>
    obtain ⟨hk, hl⟩ := List.nodup_cons.mp hl
    have hkplain := hplain k (List.mem_cons_self ..)
    have hmsg : s.sendMsg k 0 d = s.enqueue k (fromHere s 6 0 0 0 28 d) := by
      rw [State.sendMsg, State.packet_fromHere _ (by decide), hd]
      rfl
    have hsends : PortSends s (s.sendMsg k 0 d) k (fromHere s 6 0 0 0 28 d) := by
      rw [hmsg]
      exact State.enqueue_sends (PlainPort.mono hkplain (by show 1 + (d.length + 15) / 16 ≤ 3; rw [hd])) rfl
    obtain ⟨-, hport, hothers, -, hreg⟩ := hsends
    have hne : ∀ j ∈ l, j ≠ k := fun j hj e => hk (e ▸ hj)
    obtain ⟨houts, hregs⟩ := ih (s := s.sendMsg k 0 d) hl fun j hj => plainPort_of (hplain j (List.mem_cons_of_mem _ hj)) (hothers j (hne j hj))
      (hreg _ (by simp only [R.dlStat, R.dlCred]; omega)) (hreg _ (by have := hne j hj; simp only [R.dlCred]; omega))
    have hnode : (s.sendMsg k 0 d).nodeId = s.nodeId := State.fld_of_reg (hreg _ (by simp only [R.dlfStat, R.dlCred]; omega)) _
    have hfrom : fromHere (s.sendMsg k 0 d) 6 0 0 0 28 d = fromHere s 6 0 0 0 28 d := by rw [fromHere, fromHere, hnode]
    refine ⟨fun j => ?_, fun x hx => (hregs x fun j hj => hx j (List.mem_cons_of_mem _ hj)).trans (hreg x (hx k (List.mem_cons_self ..)))⟩
    rw [List.foldl_cons, houts j, hfrom]
    by_cases hjk : j = k
    · subst hjk
      rw [if_neg hk, if_pos (List.mem_cons_self ..), hport]
    · rw [hothers j hjk]
      simp only [List.mem_cons, hjk, false_or]

theorem exec_discTimer (hu : s.usual) (hplain : ∀ j ∈ s.activePorts, PlainPort s j 3) (hpri : ∀ l, s.fab.leadPri = some l → l < 256) :
    ∃ t q, exec .discTimer s = .next t ∧ t = { s with regs := t.regs, fab := { s.fab with ports := t.fab.ports, advert := some s.ownAdvert } } ∧
      q = fromHere s 6 0 0 0 28 q.payload ∧ advertised q.payload = s.ownAdvert ∧ q.payload.length = 28 ∧ q.payload.take 4 = [1, 0, 0, 0] ∧
      (∀ j, (t.port j).out = if j ∈ s.activePorts then .packet ⟨q, (s.port j).txSeq, none⟩ :: (s.port j).out else (s.port j).out) ∧
      (∀ x, (∀ j ∈ s.activePorts, x ≠ R.dlCred j) → t.reg x = s.reg x) := by
  obtain ⟨hadvert, hlen, htake⟩ := advertised_disc (State.ownAdvert_fits hpri)
  obtain ⟨u, hu0⟩ : ∃ u : State, u = { s with fab := { s.fab with advert := some s.ownAdvert } } := ⟨_, rfl⟩
  have hsends := s.sendDiscs_sends
  have heq : s.sendDiscs = s.activePorts.foldl (fun t k => t.sendMsg k 0 s.ownAdvert.disc) u := by rw [hu0]; rfl
  have hnodup : s.activePorts.Nodup := List.nodup_range.filter _
  obtain ⟨hports, hregs⟩ := State.sendDiscs_ports (s := u) s.ownAdvert.disc hlen s.activePorts hnodup (fun j hj => by rw [hu0]; exact hplain j hj)
  have hfrom : fromHere u 6 0 0 0 28 s.ownAdvert.disc = fromHere s 6 0 0 0 28 s.ownAdvert.disc := by rw [hu0]; rfl
  have huu : u.usual := by
    rw [hu0]
    exact State.usual_alike hu ⟨rfl, rfl, rfl, rfl, rfl, rfl, rfl⟩ rfl
  rw [← hu0] at hsends
  refine ⟨s.sendDiscs, fromHere s 6 0 0 0 28 s.ownAdvert.disc, State.done_of_usual (hsends.usual huu), ?_, rfl, hadvert, hlen, htake, fun j => ?_, fun x hx => ?_⟩
  · have hstate := hsends.state
    generalize s.sendDiscs = t at hstate ⊢
    generalize t.fab.ports = pt at hstate ⊢
    generalize t.regs = rt at hstate ⊢
    rw [hstate, hu0]
  · rw [heq, hports j, hfrom, hu0]
    rfl
  · rw [heq, hregs x hx, hu0]
    rfl

end

end Sys2Proof.Machine

/-!
The election (R444, R445).
-/
namespace Sys2Proof.Machine

/-! ## The best lead -/

/-- One lead goes before another. -/
def goesBefore (a b : Nat × Nat) : Prop := a.1 < b.1 ∨ (a.1 = b.1 ∧ a.2 < b.2)

theorem leadLess_iff (a b : Nat × Nat) : leadLess a b = true ↔ goesBefore a b := decide_eq_true_iff

theorem goesBefore_eq {a b : Nat × Nat} (h : ¬goesBefore a b) (h' : ¬goesBefore b a) : a = b := by
  unfold goesBefore at h h'
  exact Prod.ext (by omega) (by omega)

/-- The better of the best so far and another. -/
def better (m : Option (Nat × Nat)) (c : Nat × Nat) : Option (Nat × Nat) :=
  match m with | none => some c | some b => if leadLess c b then some c else some b

theorem foldl_better (l : List (Nat × Nat)) (b : Nat × Nat) :
    ∃ r, l.foldl better (some b) = some r ∧ r ∈ b :: l ∧ ∀ c ∈ b :: l, ¬goesBefore c r := by
  induction l generalizing b with
  | nil => exact ⟨b, rfl, List.mem_singleton_self b, fun c hc => by rw [List.mem_singleton.mp hc, goesBefore]; omega⟩
  | cons c l ih =>
    by_cases hc : leadLess c b = true
    · obtain ⟨r, hr, hmem, hmin⟩ := ih c
      have hcb := (leadLess_iff c b).mp hc
      have hcr := hmin c (List.mem_cons_self ..)
      refine ⟨r, ?_, List.mem_cons_of_mem _ hmem, fun d hd => ?_⟩
      · rw [List.foldl_cons, better, if_pos hc, hr]
      · rcases List.mem_cons.mp hd with rfl | hd
        · unfold goesBefore at hcb hcr ⊢
          omega
        · exact hmin d hd
    · obtain ⟨r, hr, hmem, hmin⟩ := ih b
      have hcb := mt (leadLess_iff c b).mpr hc
      have hbr := hmin b (List.mem_cons_self ..)
      refine ⟨r, ?_, ?_, fun d hd => ?_⟩
      · rw [List.foldl_cons, better, if_neg hc, hr]
      · rcases List.mem_cons.mp hmem with rfl | hm
        · exact List.mem_cons_self ..
        · exact List.mem_cons_of_mem _ (List.mem_cons_of_mem _ hm)
      · rcases List.mem_cons.mp hd with rfl | hd
        · exact hbr
        · rcases List.mem_cons.mp hd with rfl | hd
          · unfold goesBefore at hcb hbr ⊢
            omega
          · exact hmin d (List.mem_cons_of_mem _ hd)

section
variable {s : State}

/-- What the election chooses from (R445). -/
def State.mayLead (s : State) (l : Nat × Nat) : Prop :=
  (s.fld R.dlfCfg F.dlfCfg.PRI < 255 ∧ l = (s.fld R.dlfCfg F.dlfCfg.PRI, s.uid)) ∨
    ∃ j a, (j ∈ s.activePorts ∧ (s.port j).advert = some a) ∧ a.leadPri < 255 ∧ a.dist + 1 ≤ 15 ∧ l = (a.leadPri, a.leadUid)

theorem State.mem_adverts {j : Nat} {a : Advert} : (j, a) ∈ s.adverts ↔ j ∈ s.activePorts ∧ (s.port j).advert = some a := by
  rw [State.adverts, List.mem_filterMap]
  constructor
  · rintro ⟨i, hi, h⟩
    obtain ⟨b, hb, he⟩ := Option.map_eq_some_iff.mp h
    obtain ⟨rfl, rfl⟩ := Prod.mk.inj he
    exact ⟨hi, hb⟩
  · rintro ⟨hj, ha⟩
    exact ⟨j, hj, by rw [ha]; rfl⟩

/-- The candidates of the election. -/
def State.leads (s : State) : List (Nat × Nat) :=
  (if s.fld R.dlfCfg F.dlfCfg.PRI < 255 then [(s.fld R.dlfCfg F.dlfCfg.PRI, s.uid)] else []) ++
    (s.adverts.filter (fun a => decide (a.2.leadPri < 255 ∧ a.2.dist + 1 ≤ 15))).map (fun a => (a.2.leadPri, a.2.leadUid))

theorem State.mem_leads {l : Nat × Nat} : l ∈ s.leads ↔ s.mayLead l := by
  rw [State.leads, List.mem_append, State.mayLead]
  refine or_congr ?_ ?_
  · split
    · next h => simp [h]
    · next h => simp [h]
  · rw [List.mem_map]
    constructor
    · rintro ⟨⟨j, a⟩, ha, rfl⟩
      obtain ⟨hmem, hok⟩ := List.mem_filter.mp ha
      obtain ⟨hpri, hdist⟩ := of_decide_eq_true hok
      exact ⟨j, a, State.mem_adverts.mp hmem, hpri, hdist, rfl⟩
    · rintro ⟨j, a, hmem, hpri, hdist, rfl⟩
      exact ⟨(j, a), List.mem_filter.mpr ⟨State.mem_adverts.mpr hmem, decide_eq_true ⟨hpri, hdist⟩⟩, rfl⟩

theorem State.bestLead_eq : s.bestLead = s.leads.foldl better none := rfl

theorem State.bestLead_none (h : ∀ l, ¬s.mayLead l) : s.bestLead = none := by
  rw [State.bestLead_eq, List.eq_nil_iff_forall_not_mem.mpr fun l hl => h l (State.mem_leads.mp hl)]
  rfl

theorem State.bestLead_some {l : Nat × Nat} (h : s.mayLead l) (hmin : ∀ l', s.mayLead l' → ¬goesBefore l' l) : s.bestLead = some l := by
  have hmem := State.mem_leads.mpr h
  rw [State.bestLead_eq]
  cases hl : s.leads with
  | nil =>
    rw [hl] at hmem
    exact absurd hmem List.not_mem_nil
  | cons b r =>
    obtain ⟨x, hx, hxmem, hxmin⟩ := foldl_better r b
    rw [← hl] at hxmem hxmin
    rw [List.foldl_cons]
    exact hx.trans (congrArg some (goesBefore_eq (hmin x (State.mem_leads.mp hxmem)) (hxmin l hmem)))

theorem State.mayLead_of_bestLead {l : Nat × Nat} (h : s.bestLead = some l) : s.mayLead l := by
  rw [State.bestLead_eq] at h
  refine State.mem_leads.mp ?_
  cases hl : s.leads with
  | nil =>
    rw [hl] at h
    exact absurd h.symm (Option.some_ne_none l)
  | cons b r =>
    obtain ⟨x, hx, hxmem, -⟩ := foldl_better r b
    rw [hl, List.foldl_cons] at h
    obtain rfl := Option.some.inj (hx.symm.trans h)
    exact hxmem

/-- The port toward a lead is an active one. -/
theorem State.distTo_lt {l : Nat × Nat} {d : Nat × Nat} (h : s.distTo l = some d) : d.2 < 4 := by
  obtain ⟨c, hc, rfl⟩ := Option.map_eq_some_iff.mp h
  refine List.foldlRecOn (motive := fun m : Option (Nat × Nat × Nat) => ∀ c, m = some c → c.2.2 < 4) _ _ (fun c hc => absurd hc (by simp)) (fun m hm a ha c hc => ?_) c hc
  have hport : a.1 < 4 := State.activePorts_lt (State.mem_adverts.mp (List.mem_of_mem_filter ha : (a.1, a.2) ∈ s.adverts)).1
  cases m with
  | none =>
    obtain rfl := Option.some.inj hc
    exact hport
  | some b =>
    dsimp only at hc
    split at hc
    · obtain rfl := Option.some.inj hc
      exact hport
    · exact hm c hc

end

/-! ## The election judged again -/

/-- The registers of the election. -/
def electRegs : List Nat := [R.dlfStat, R.dlfLeadUidLo, R.dlfLeadUidHi] ++ dlCreds

/-- The election, and what is sent for it: the ports' own registers but their credits stay, and what the neighbours have advertised. -/
structure State.Elects (s t : State) : Prop where
  state : t = { s with regs := t.regs, pulses := t.pulses, fab := { s.fab with
    ports := t.fab.ports, leadPri := t.fab.leadPri, parent := t.fab.parent, topo := t.fab.topo, advert := t.fab.advert, lastTopo := t.fab.lastTopo } }
  reg : s.regsBut t electRegs
  advert : ∀ j, (t.port j).advert = (s.port j).advert

namespace State.Elects
variable {s t u : State}

theorem refl (s : State) : s.Elects s := ⟨rfl, .refl s _, fun _ => rfl⟩

theorem trans (h : s.Elects t) (h' : t.Elects u) : s.Elects u := by
  refine ⟨?_, h.reg.trans h'.reg, fun j => (h'.advert j).trans (h.advert j)⟩
  rw [h'.state, h.state]

theorem ofSends (h : s.Sends t) : s.Elects t := by
  refine ⟨?_, h.reg.mono (List.subset_append_right _ _), h.advert⟩
  rw [h.state]

theorem setReg (h : s.Elects t) {o : Nat} (w : Word) (ho : o ∈ electRegs) : s.Elects (t.setReg o w) :=
  h.trans ⟨rfl, (State.regsBut.refl t _).setReg w ho, fun _ => rfl⟩

theorem setFld (h : s.Elects t) {o : Nat} (f : Fld) (x : Nat) (ho : o ∈ electRegs) : s.Elects (t.setFld o f x) := h.setReg _ ho

theorem fire (h : s.Elects t) (ev : Nat) : s.Elects (t.fire ev) := h.trans ⟨rfl, .refl t _, fun _ => rfl⟩

/-- The fabric's own part changes. -/
theorem withFab (h : s.Elects t) (f : Fabric) (hf : f = { t.fab with
    leadPri := f.leadPri, parent := f.parent, topo := f.topo, advert := f.advert, lastTopo := f.lastTopo }) : s.Elects { t with fab := f } := by
  refine h.trans ⟨?_, .refl t _, fun j => ?_⟩
  · rw [hf]
  · rw [State.port, hf]
    rfl

theorem discIfChanged (h : s.Elects t) : s.Elects t.discIfChanged := by
  obtain ⟨a, ha⟩ := t.discIfChanged_sends
  exact (h.withFab _ rfl).trans (ofSends ha)

theorem topoIfChanged (h : s.Elects t) (hp : ∀ k, t.fab.parent = some k → k < 4) : s.Elects t.topoIfChanged := by
  obtain ⟨l, hl⟩ := t.topoIfChanged_sends hp
  exact (h.withFab _ rfl).trans (ofSends hl)

theorem setStat (h : s.Elects t) (f : Fld) (x : Nat) : s.Elects (t.setFld R.dlfStat f x) := h.setFld f x (by simp [electRegs])

theorem setLeadUid (h : s.Elects t) (v : Nat) : s.Elects (t.setReg64 R.dlfLeadUidLo R.dlfLeadUidHi v) :=
  (h.setReg _ (by simp [electRegs])).setReg _ (by simp [electRegs])

theorem noLead (h : s.Elects t) : s.Elects t.noLead := by
  rw [State.noLead]
  dsimp only
  split
  · exact State.Elects.fire (State.Elects.setLeadUid (State.Elects.setStat (State.Elects.setStat (State.Elects.setStat (h.withFab _ rfl) _ _) _ _) _ _) _) _
  · exact State.Elects.setLeadUid (State.Elects.setStat (State.Elects.setStat (State.Elects.setStat (h.withFab _ rfl) _ _) _ _) _ _) _

theorem only (h : s.Elects t) : t = { s with regs := t.regs, pulses := t.pulses, fab := t.fab } :=
  h.state.trans (congrArg (fun f => { s with regs := t.regs, pulses := t.pulses, fab := f }) (congrArg State.fab h.state).symm)

theorem regBut (h : s.Elects t) {o : Nat} (ho : o ∉ electRegs) : t.reg o = s.reg o := h.reg o ho

theorem usual (h : s.Elects t) (hu : s.usual) : t.usual := by
  refine State.usual_of hu ?_ h.reg (by unfold endIgnores; decide)
  rw [h.state]
  exact ⟨rfl, rfl, rfl, rfl, rfl, rfl, rfl⟩

end State.Elects

section
variable {s t : State}

/-- DISC and TOPO leave the lead and the fabric's registers. -/
theorem State.announce_keeps (hp : ∀ k, t.fab.parent = some k → k < 4) :
    t.discIfChanged.topoIfChanged.fab.leadPri = t.fab.leadPri ∧ ∀ o, o ∉ dlCreds → t.discIfChanged.topoIfChanged.reg o = t.reg o := by
  obtain ⟨a, ha⟩ := t.discIfChanged_sends
  have hfab := (congrArg State.fab ha.state :)
  have hp' : ∀ k, t.discIfChanged.fab.parent = some k → k < 4 := fun k hk => hp k (by rw [hfab] at hk; exact hk)
  obtain ⟨l, hl⟩ := t.discIfChanged.topoIfChanged_sends hp'
  have hfab' := (congrArg State.fab hl.state :)
  refine ⟨?_, fun o ho => (hl.reg o ho).trans (ha.reg o ho)⟩
  rw [hfab', hfab]

theorem State.noLead_parent (t : State) : t.noLead.fab.parent = none ∧ t.noLead.fab.leadPri = none := by
  rw [State.noLead]
  dsimp only
  split
  · exact ⟨rfl, rfl⟩
  · exact ⟨rfl, rfl⟩

/-- Without a candidate the fabric has no lead (Table 13-9). -/
theorem State.elect_none (h2 : 2 ≤ s.fabState) (h4 : s.fabState ≤ 4) (hact : s.activePorts ≠ []) (hbest : s.bestLead = none) (moved : Bool) :
    s.Elects (s.elect moved) ∧ (s.elect moved).fab.leadPri = none ∧ (s.elect moved).fabState = 2 := by
  have heq : s.elect moved = ((s.noLead).setFld R.dlfStat F.dlfStat.STATE Dl.fElect).discIfChanged.topoIfChanged := by
    delta State.elect
    extract_lets st s0
    have hs0 : s0 = s := if_neg (show ¬s.fabState = 1 by omega)
    refine (if_neg (show ¬s.fabState = 0 by omega)).trans ((if_neg (by rw [List.isEmpty_iff]; exact hact)).trans ?_)
    rw [hs0, hbest]
  obtain ⟨u, hu⟩ : ∃ u, u = (s.noLead).setFld R.dlfStat F.dlfStat.STATE Dl.fElect := ⟨_, rfl⟩
  obtain ⟨hparent, hlead⟩ := s.noLead_parent
  have hup : ∀ k, u.fab.parent = some k → k < 4 := fun k hk => by
    rw [hu] at hk
    exact absurd (hparent.symm.trans hk) (by simp)
  have hul : u.fab.leadPri = none := by rw [hu]; exact hlead
  have hust : u.fabState = 2 := by rw [hu]; exact State.fld_setFld _ _ _ _ (by decide)
  obtain ⟨hkeep, hreg⟩ := State.announce_keeps hup
  have helects : s.Elects u := by rw [hu]; exact ((State.Elects.refl s).noLead).setStat _ _
  have hall : s.Elects u.discIfChanged.topoIfChanged := by
    refine (helects.discIfChanged).topoIfChanged fun k hk => ?_
    obtain ⟨a, ha⟩ := u.discIfChanged_sends
    rw [(congrArg State.fab ha.state :)] at hk
    exact hup k hk
  rw [heq, ← hu]
  exact ⟨hall, hkeep.trans hul, (State.fld_of_reg (hreg _ (by decide)) _).trans hust⟩

/-- The registers of a lead that has been chosen. -/
def State.seat (t : State) (v dist uid : Nat) (new assign : Prop) [Decidable new] [Decidable assign] : State :=
  let t2 := ((t.setFld R.dlfStat F.dlfStat.LEAD v).setFld R.dlfStat F.dlfStat.DIST dist).setReg64 R.dlfLeadUidLo R.dlfLeadUidHi uid
  let t3 := if new then (t2.setFld R.dlfStat F.dlfStat.LEAD_ID 0).fire 233 else t2
  if assign then t3.setFld R.dlfStat F.dlfStat.STATE Dl.fAssign else t3

/-- The lead's UID and LEAD stand in their registers. -/
structure State.Seated (t u : State) (v uid : Nat) : Prop where
  elects : t.Elects u
  fab : u.fab = t.fab
  uid : u.reg64 R.dlfLeadUidLo R.dlfLeadUidHi = uid
  lead : u.fld R.dlfStat F.dlfStat.LEAD = v

section
variable {u : State} {v uid : Nat}

theorem State.Seated.setStat (h : t.Seated u v uid) (f : Fld) (x : Nat) (hf : f.lo + f.width ≤ 32) (happart : F.dlfStat.LEAD.lo + F.dlfStat.LEAD.width ≤ f.lo ∨ f.lo + f.width ≤ F.dlfStat.LEAD.lo) :
    t.Seated (u.setFld R.dlfStat f x) v uid :=
  ⟨h.elects.setStat f x, h.fab,
    by rw [State.reg64, State.reg_setFld_ne _ _ _ _ _ (by decide), State.reg_setFld_ne _ _ _ _ _ (by decide), ← State.reg64, h.uid],
    (State.fld_setFld_apart _ _ _ _ _ hf (by decide) happart).trans h.lead⟩

theorem State.Seated.fire (h : t.Seated u v uid) (ev : Nat) : t.Seated (u.fire ev) v uid := ⟨h.elects.fire ev, h.fab, h.uid, h.lead⟩

theorem State.seated (t : State) (dist : Nat) (hv : v < 2) (huid : uid < 2 ^ 64) :
    t.Seated (((t.setFld R.dlfStat F.dlfStat.LEAD v).setFld R.dlfStat F.dlfStat.DIST dist).setReg64 R.dlfLeadUidLo R.dlfLeadUidHi uid) v uid := by
  refine ⟨(((State.Elects.refl t).setStat _ _).setStat _ _).setLeadUid _, rfl, State.reg64_setReg64 _ _ _ _ (by decide) huid, ?_⟩
  obtain ⟨a, ha⟩ : ∃ a, a = (t.setFld R.dlfStat F.dlfStat.LEAD v).setFld R.dlfStat F.dlfStat.DIST dist := ⟨_, rfl⟩
  rw [← ha, State.fld_of_reg (s := a) ((State.reg_setReg64 _ _ _ _ _ (by decide)).trans ((if_neg (by decide)).trans (if_neg (by decide)))), ha,
    State.fld_setFld_apart _ _ _ _ _ (by decide) (by decide) (by decide), State.fld_setFld _ _ _ _ (by decide)]
  exact Nat.mod_eq_of_lt hv

theorem State.seat_seated (t : State) (dist : Nat) (hv : v < 2) (huid : uid < 2 ^ 64) (new assign : Prop) [Decidable new] [Decidable assign] :
    t.Seated (t.seat v dist uid new assign) v uid := by
  have h2 := t.seated dist hv huid
  delta State.seat
  extract_lets t2 t3
  have h3 : t.Seated t3 v uid := by
    by_cases hn : new
    · rw [show t3 = _ from if_pos hn]
      exact (h2.setStat _ _ (by decide) (by decide)).fire _
    · rw [show t3 = _ from if_neg hn]
      exact h2
  split
  · exact h3.setStat _ _ (by decide) (by decide)
  · exact h3

end

/-- The best candidate becomes the lead (R445). -/
theorem State.elect_some (h2 : 2 ≤ s.fabState) (hact : s.activePorts ≠ []) {l : Nat × Nat} (hbest : s.bestLead = some l)
    (hl : l.2 < 2 ^ 64) (moved : Bool) :
    s.Elects (s.elect moved) ∧ (s.elect moved).fab.leadPri = some l.1 ∧ (s.elect moved).reg64 R.dlfLeadUidLo R.dlfLeadUidHi = l.2 ∧
      (s.elect moved).fld R.dlfStat F.dlfStat.LEAD = if l = (s.fld R.dlfCfg F.dlfCfg.PRI, s.uid) then 1 else 0 := by
  have hgo : ∃ parent topo dist, ∃ (new assign : Prop) (_ : Decidable new) (_ : Decidable assign), s.elect moved =
      (State.seat { s with fab := { s.fab with leadPri := some l.1, parent := parent, topo := topo } }
        (if (l == (s.fld R.dlfCfg F.dlfCfg.PRI, s.uid)) = true then 1 else 0) dist l.2 new assign).discIfChanged.topoIfChanged ∧ ∀ k, parent = some k → k < 4 := by
    delta State.elect
    extract_lets st s0 src
    have hs0 : s0 = s := if_neg (show ¬s.fabState = 1 by omega)
    have hsrc : src = s.fab := congrArg State.fab hs0
    have hst : st ≠ Dl.fOff := show ¬s.fabState = 0 by omega
    rw [if_neg hst, if_neg (by rw [List.isEmpty_iff]; exact hact), hsrc, hs0, hbest]
    dsimp -zeta only
    extract_lets self dp dist parent newLead changed s1 s2 s3 s4
    refine ⟨parent, _, dist, newLead = true, (s3.fabState = Dl.fElect ∨ (s3.fabState = Dl.fReady ∧ changed = true)), inferInstance, inferInstance, rfl, fun k hk => ?_⟩
    by_cases he : self = true
    · exact absurd ((if_pos he).symm.trans hk) (by simp)
    · have hk' : dp.map (fun d => d.2) = some k := (if_neg he).symm.trans hk
      have hdp : dp = s.distTo l := if_neg he
      rw [hdp] at hk'
      obtain ⟨d, hd, rfl⟩ := Option.map_eq_some_iff.mp hk'
      exact State.distTo_lt hd
  obtain ⟨parent, topo, dist, new, assign, _, _, heq, hparent⟩ := hgo
  obtain ⟨a, ha⟩ : ∃ a : State, a = { s with fab := { s.fab with leadPri := some l.1, parent := parent, topo := topo } } := ⟨_, rfl⟩
  have hseated := a.seat_seated (v := if (l == (s.fld R.dlfCfg F.dlfCfg.PRI, s.uid)) = true then 1 else 0) dist (by split <;> decide) hl new assign
  rw [← ha] at heq
  have hsa : s.Elects a := by
    rw [ha]
    exact (State.Elects.refl s).withFab _ rfl
  generalize a.seat _ dist l.2 new assign = u at heq hseated
  have hup : ∀ k, u.fab.parent = some k → k < 4 := fun k hk => by
    rw [hseated.fab, ha] at hk
    exact hparent k hk
  obtain ⟨hkeep, hreg⟩ := State.announce_keeps hup
  have helects := hsa.trans hseated.elects
  rw [heq]
  refine ⟨(helects.discIfChanged).topoIfChanged fun k hk => ?_, ?_, ?_, ?_⟩
  · obtain ⟨b, hb⟩ := u.discIfChanged_sends
    rw [(congrArg State.fab hb.state :)] at hk
    exact hup k hk
  · rw [hkeep, hseated.fab, ha]
  · rw [State.reg64, hreg _ (by decide), hreg _ (by decide), ← State.reg64, hseated.uid]
  · rw [State.fld_of_reg (hreg _ (by decide)), hseated.lead]
    simp only [beq_iff_eq]

end

end Sys2Proof.Machine

/-!
DISC, TOPO, ASSIGN and ROUTE messages (R445-R447).
-/
namespace Sys2Proof.Machine

/-- The code of a message is its first byte. -/
theorem numAt_of_take {m l : List Byte} {c : Byte} (h : m.take 4 = c :: l) : numAt m 0 1 = c.toNat := by
  cases m with
  | nil => exact absurd h.symm (List.cons_ne_nil _ _)
  | cons b m =>
    obtain ⟨rfl, -⟩ := List.cons.inj h
    exact numAt_head _ _

theorem fieldAt_lt (l : List Byte) (o n : Nat) : fieldAt l o n < 256 ^ n :=
  lt_of_lt_of_le (natLE_lt _) (Nat.pow_le_pow_right (by decide) (by rw [List.length_take]; exact Nat.min_le_left _ _))

section
variable {s : State} {k : Fin 4} {p : Packet}

/-- FLOW is one of the things that go out. -/
theorem State.sendFlow_sends (s : State) (j : Nat) : s.Sends (s.sendFlow j) := by
  rw [State.sendFlow]
  dsimp only
  split
  · exact .refl s
  · refine State.Sends.portOut (State.Sends.setPort (.refl s) j _ ?_) j _
    rfl

/-! ## DISC -/

/-- The state in which a neighbour's DISC is noted, before the election. -/
structure State.Noted (s u : State) (k : Nat) (a : Advert) : Prop where
  state : u = { s with regs := u.regs, fab := { s.fab with ports := u.fab.ports } }
  reg : s.regsBut u [R.dlStat k, R.dlfEpoch]
  states : ∀ j, u.portState j = s.portState j
  peer : u.fld (R.dlStat k) F.dlStat.PEER_ID = a.nodeId
  advert : ∀ j, (u.port j).advert = if j = k then some a else (s.port j).advert

theorem State.onDisc_notes {t : State} (ht : s.Took t k 6 p) (m : List Byte) :
    ∃ u, t.onDisc k m = u.elect false ∧ s.Noted u k (advertised m) := by
  obtain ⟨b, c, d, hport⟩ := ht
  obtain ⟨w, hw⟩ : ∃ w, w = t.setPort k { t.port k with advert := some (advertised m) } := ⟨_, rfl⟩
  obtain ⟨v, hv⟩ : ∃ v, v = w.setFld (R.dlStat k) F.dlStat.PEER_ID (advertised m).nodeId := ⟨_, rfl⟩
  have hwp : t.PortIs w k _ := hw ▸ t.portIs_setPort k _
  have hsw := hport.trans hwp
  have hadvert : ∀ j, (w.port j).advert = if j = k.val then some (advertised m) else (s.port j).advert := fun j => by
    by_cases hj : j = k.val
    · rw [hj, hsw.port, if_pos rfl]
    · rw [hsw.others j hj, if_neg hj]
  have hstate : v = { s with regs := v.regs, fab := { s.fab with ports := v.fab.ports } } := by
    have h1 := hsw.state
    rw [hv]
    generalize w.fab.ports = pw at h1
    rw [h1]
    rfl
  have hreg : s.regsBut v [R.dlStat k, R.dlfEpoch] := by
    rw [hv]
    exact ((State.regsBut_of_regs _ hsw.regs).setFld _ _ (by simp))
  have hstates : ∀ j, v.portState j = s.portState j := fun j => by
    rw [hv]
    by_cases hj : R.dlStat j = R.dlStat k
    · rw [State.portState, hj, State.fld_setFld_apart _ _ _ _ _ (by decide) (by decide) (by decide), hsw.fld, State.portState, hj]
    · exact (State.fld_setFld_ne _ _ _ _ _ _ hj).trans (hsw.fld _ _)
  have hpeer : v.fld (R.dlStat k) F.dlStat.PEER_ID = (advertised m).nodeId := by
    rw [hv, State.fld_setFld _ _ _ _ (by decide)]
    exact Nat.mod_eq_of_lt (fieldAt_lt m 13 1)
  have hport' : ∀ j, v.port j = w.port j := fun j => State.port_of_fab (by rw [hv]; rfl) j
  have hepoch : (v.setFld R.dlfEpoch F.dlfEpoch.EPOCH (advertised m).epoch).fld (R.dlStat k) F.dlStat.PEER_ID = v.fld (R.dlStat k) F.dlStat.PEER_ID :=
    State.fld_setFld_ne _ _ _ _ _ _ (by simp only [R.dlStat, R.dlfEpoch]; omega)
  have heq : t.onDisc k m = State.elect (if (v.epochOk (advertised m).epoch && (advertised m).epoch != v.fld R.dlfEpoch F.dlfEpoch.EPOCH) = true then
      v.setFld R.dlfEpoch F.dlfEpoch.EPOCH (advertised m).epoch else v) false := by
    rw [hv, hw]
    rfl
  by_cases hnew : (v.epochOk (advertised m).epoch && (advertised m).epoch != v.fld R.dlfEpoch F.dlfEpoch.EPOCH) = true
  · rw [if_pos hnew] at heq
    refine ⟨_, heq, ?_, hreg.setFld _ _ (by simp), fun j => ?_, hepoch.trans hpeer, fun j => ?_⟩
    · generalize v.fab.ports = pv at hstate
      generalize v.regs = rv at hstate
      rw [hstate]
      rfl
    · exact (State.fld_setFld_ne _ _ _ _ _ _ (by simp only [R.dlStat, R.dlfEpoch]; omega)).trans (hstates j)
    · show (v.port j).advert = _
      rw [hport', hadvert]
  · rw [if_neg hnew] at heq
    exact ⟨v, heq, hstate, hreg, hstates, hpeer, fun j => by rw [hport', hadvert]⟩

theorem State.activePorts_of_states {u : State} (h : ∀ j, u.portState j = s.portState j) : u.activePorts = s.activePorts :=
  List.filter_congr fun j _ => by rw [h]

theorem exec_disc (h : Arrives s k 6 3 p) (hdst : s.forThisNode k p) (hhead : p.payload.take 4 = [1, 0, 0, 0]) (h2 : 2 ≤ s.fabState) (h4 : s.fabState ≤ 4)
    (huids : ∀ j a, (s.port j).advert = some a → a.leadUid < 2 ^ 64) {told : Nat → Advert → Prop} {own : Nat × Nat} {chosen : Nat × Nat → Prop}
    (htold : ∀ j a, told j a ↔ j ∈ s.activePorts ∧ (if j = k.val then a = advertised p.payload else (s.port j).advert = some a))
    (hown : own = (s.fld R.dlfCfg F.dlfCfg.PRI, s.uid))
    (hchosen : ∀ l, chosen l ↔ (own.1 < 255 ∧ l = own) ∨ ∃ j a, told j a ∧ a.leadPri < 255 ∧ a.dist + 1 ≤ 15 ∧ l = (a.leadPri, a.leadUid)) :
    ∃ t, exec (.disc k p) s = .next t ∧ t = { s with regs := t.regs, pulses := t.pulses, fab := t.fab } ∧ (t.port k).advert = some (advertised p.payload) ∧
      t.fld (R.dlStat k) F.dlStat.PEER_ID = (advertised p.payload).nodeId ∧
      (∀ l, chosen l → (∀ l', chosen l' → ¬goesBefore l' l) →
        t.fab.leadPri = some l.1 ∧ t.reg64 R.dlfLeadUidLo R.dlfLeadUidHi = l.2 ∧ t.fld R.dlfStat F.dlfStat.LEAD = (if l = own then 1 else 0)) ∧
      ((∀ l, ¬chosen l) → t.fab.leadPri = none ∧ t.fabState = 2) := by
  have hact : ∀ u, s.Noted u k (advertised p.payload) → u.activePorts ≠ [] ∧ 2 ≤ u.fabState ∧ u.fabState ≤ 4 ∧ (∀ l, chosen l ↔ u.mayLead l) ∧
      own = (u.fld R.dlfCfg F.dlfCfg.PRI, u.uid) := fun u hu => by
    have hacts := State.activePorts_of_states hu.states
    have hreg : ∀ o, o ∉ [R.dlStat k, R.dlfEpoch] → u.reg o = s.reg o := hu.reg
    have hstat : u.fabState = s.fabState := State.fld_of_reg (hreg _ (by simp only [R.dlfStat, R.dlStat, R.dlfEpoch, List.mem_cons, List.not_mem_nil, or_false]; omega)) _
    have hpri : u.fld R.dlfCfg F.dlfCfg.PRI = s.fld R.dlfCfg F.dlfCfg.PRI :=
      State.fld_of_reg (hreg _ (by simp only [R.dlfCfg, R.dlStat, R.dlfEpoch, List.mem_cons, List.not_mem_nil, or_false]; omega)) _
    have huid : u.uid = s.uid := by
      rw [State.uid, State.reg64, hreg _ (by simp only [R.dlfUidLo, R.dlStat, R.dlfEpoch, List.mem_cons, List.not_mem_nil, or_false]; omega),
        hreg _ (by simp only [R.dlfUidHi, R.dlStat, R.dlfEpoch, List.mem_cons, List.not_mem_nil, or_false]; omega)]
      rfl
    have hk : k.val ∈ s.activePorts := State.mem_activePorts.mpr ⟨k.isLt, h.2.1.2.1⟩
    refine ⟨?_, by omega, by omega, fun l => ?_, by rw [hown, hpri, huid]⟩
    · rw [hacts]
      exact List.ne_nil_of_mem hk
    · rw [hchosen, State.mayLead, hpri, huid, hacts, hown]
      refine or_congr Iff.rfl (exists_congr fun j => exists_congr fun a => and_congr_left fun _ => ?_)
      rw [htold, hu.advert]
      refine and_congr_right fun _ => ?_
      by_cases hj : j = k.val
      · rw [if_pos hj, if_pos hj]
        exact ⟨fun e => by rw [e], fun e => (Option.some.inj e).symm⟩
      · rw [if_neg hj, if_neg hj]
  have huid : ∀ l, chosen l → l.2 < 2 ^ 64 := fun l hl => by
    rcases (hchosen l).mp hl with ⟨-, rfl⟩ | ⟨j, a, ha, -, -, rfl⟩
    · rw [hown]
      exact s.reg64_lt _ _
    · obtain ⟨-, ha⟩ := (htold j a).mp ha
      split at ha
      · rw [ha]
        exact fieldAt_lt p.payload 16 8
      · exact huids j a ha
  have helects : ∀ u, s.Noted u k (advertised p.payload) → u.Elects (u.elect false) := fun u hu => by
    obtain ⟨hne, hu2, hu4, hmay, -⟩ := hact u hu
    cases hb : u.bestLead with
    | none => exact (State.elect_none hu2 hu4 hne hb false).1
    | some l => exact (State.elect_some hu2 hne hb (huid l ((hmay l).mpr (State.mayLead_of_bestLead hb))) false).1
  have hnotes : ∀ t, s.Took t k 6 p → (t.onDisc k (rxOf 6 p).payload).portState k = 5 := fun t ht => by
    obtain ⟨u, heq, hu⟩ := State.onDisc_notes ht p.payload
    rw [show (rxOf 6 p).payload = p.payload from rfl, heq]
    refine (State.fld_of_reg ((helects u hu).regBut ?_) _).trans ((hu.states k).trans h.2.1.2.1)
    simp only [electRegs, dlCreds, R.dlStat, R.dlfStat, R.dlfLeadUidLo, R.dlfLeadUidHi, R.dlCred, List.mem_append, List.mem_cons, List.not_mem_nil, or_false]
    omega
  obtain ⟨t, ht, hexec⟩ := State.onMessage_took (code := 1) h (by decide) (by decide) hdst (fun t q => t.onDisc k q.payload) (numAt_of_take hhead) hnotes
  obtain ⟨u, heq, hu⟩ := State.onDisc_notes ht p.payload
  rw [show (rxOf 6 p).payload = p.payload from rfl, heq] at hexec
  obtain ⟨hne, hu2, hu4, hmay, hown'⟩ := hact u hu
  have he := helects u hu
  have hsends := (u.elect false).sendFlow_sends k
  obtain ⟨v, hv⟩ : ∃ v, v = (u.elect false).sendFlow k := ⟨_, rfl⟩
  rw [← hv] at hsends hexec
  have huv := he.trans (State.Elects.ofSends hsends)
  have huu : u.usual := by
    refine State.usual_of h.1 (State.endsAlike_ports (m := s.mem) hu.state) hu.reg (endIgnores_of fun o ho => ?_)
    simp only [List.mem_cons, List.not_mem_nil, or_false, R.dlStat, R.dlfEpoch] at ho
    omega
  have hlead : v.fab.leadPri = (u.elect false).fab.leadPri := by rw [hsends.state]
  have hreg : ∀ o, o ∉ dlCreds → v.reg o = (u.elect false).reg o := hsends.reg
  refine ⟨v, (congrArg State.done hexec).trans (State.done_of_usual (huv.usual huu)), ?_, ?_, ?_, fun l hl hmin => ?_, fun hnone => ?_⟩
  · have h1 := huv.only
    have h2 := hu.state
    generalize v.fab = fv at h1 ⊢
    generalize v.regs = rv at h1 ⊢
    generalize v.pulses = pv at h1 ⊢
    generalize u.fab.ports = pu at h2
    generalize u.regs = ru at h2
    rw [h1, h2]
  · rw [huv.advert, hu.advert, if_pos rfl]
  · refine (State.fld_of_reg (huv.regBut ?_) _).trans hu.peer
    simp only [electRegs, dlCreds, R.dlStat, R.dlfStat, R.dlfLeadUidLo, R.dlfLeadUidHi, R.dlCred, List.mem_append, List.mem_cons, List.not_mem_nil, or_false]
    omega
  · have hbest : u.bestLead = some l := State.bestLead_some ((hmay l).mp hl) fun l' hl' => hmin l' ((hmay l').mpr hl')
    obtain ⟨-, hpri, hreg64, hfld⟩ := State.elect_some hu2 hne hbest (huid l hl) false
    refine ⟨hlead.trans hpri, ?_, ?_⟩
    · rw [State.reg64, hreg _ (by decide), hreg _ (by decide), ← State.reg64, hreg64]
    · rw [State.fld_of_reg (hreg _ (by decide)), hfld, hown']
  · have hbest : u.bestLead = none := State.bestLead_none fun l hl => hnone l ((hmay l).mpr hl)
    obtain ⟨-, hpri, hstat⟩ := State.elect_none hu2 hu4 hne hbest false
    exact ⟨hlead.trans hpri, (State.fld_of_reg (hreg _ (by decide)) _).trans hstat⟩

end

end Sys2Proof.Machine

/-!
TOPO and ASSIGN messages (R446).
-/
namespace Sys2Proof.Machine

/-! ## Single bytes of a message -/

theorem fieldAt_one (l : List Byte) (o : Nat) : fieldAt l o 1 = (l[o]?.getD 0).toNat := by
  rw [fieldAt]
  by_cases h : o < l.length
  · rw [List.drop_eq_getElem_cons h, List.getElem?_eq_getElem h]
    show natLE [l[o]] = l[o].toNat
    rw [natLE, natLE]
    omega
  · rw [List.drop_eq_nil_of_le (by omega), List.getElem?_eq_none (by omega)]
    rfl

theorem fieldAt_left (l m : List Byte) {o : Nat} (h : o < l.length) : fieldAt (l ++ m) o 1 = fieldAt l o 1 := by
  rw [fieldAt_one, fieldAt_one, List.getElem?_append_left h]

theorem length_pathBytes {path : List Nat} (h : path.length ≤ 15) : (pathBytes path).length = 16 := by
  rw [pathBytes, List.length_append, List.length_append, bytesLE_length, List.length_map, List.length_replicate]
  omega

/-- NPATH and PATH in a message. -/
theorem fieldAt_pathBytes (path : List Nat) (rest : List Byte) (h : path.length ≤ 15) :
    fieldAt (pathBytes path ++ rest) 0 1 = path.length ∧
      ∀ i, i < path.length → fieldAt (pathBytes path ++ rest) (1 + i) 1 = path.getD i 0 % 256 := by
  rw [pathBytes, List.append_assoc, List.append_assoc]
  refine ⟨fieldAt_bytesLE (n := 1) (by omega) _, fun i hi => ?_⟩
  rw [fieldAt_append (bytesLE 1 path.length) _ (i := i) (by rw [bytesLE_length]), fieldAt_left _ _ (by rw [List.length_map]; exact hi), fieldAt_one,
    List.getElem?_map, List.getElem?_eq_getElem hi, List.getD_eq_getElem?_getD, List.getElem?_eq_getElem hi]
  exact BitVec.toNat_ofNat _ _

section
variable {s : State} {k : Fin 4} {p : Packet}

/-- A message that this node passes on by another port. -/
theorem State.exec_passesOn {code : Nat} (h : Arrives s k 6 16 p) (hdst : s.forThisNode k p) (hcode : numAt p.payload 0 1 = code) {f : State → RxPacket → State}
    {j n : Nat} (hjk : j ≠ k.val) (hplain : PlainPort s j n) {l : List Byte} (hn : 1 + (l.length + 15) / 16 ≤ n)
    (hf : ∀ t, s.Took t k 6 p → f t (rxOf 6 p) = t.sendMsg j 0 l) :
    ∃ t, State.done (s.onMessage k 6 code p f) = .next t ∧ t = { s with regs := t.regs, fab := { s.fab with ports := t.fab.ports } } ∧
      (t.port j).out = .packet ⟨fromHere s 6 0 0 0 l.length l, (s.port j).txSeq, none⟩ :: (s.port j).out := by
  have hsends : ∀ t, s.Took t k 6 p → PortSends t (f t (rxOf 6 p)) j (fromHere s 6 0 0 0 l.length l) := fun t ht => by
    have hnode : t.nodeId = s.nodeId := ht.fld _ _
    have hmsg : t.sendMsg j 0 l = t.enqueue j (fromHere s 6 0 0 0 l.length l) := by
      rw [State.sendMsg, State.packet_fromHere _ (by decide), fromHere, fromHere, hnode]
      rfl
    obtain ⟨a, b, c, hport⟩ := ht
    rw [hf t ⟨a, b, c, hport⟩, hmsg]
    exact State.enqueue_sends (PlainPort.mono (plainPort_of hplain (hport.others j hjk) (hport.reg _) (hport.reg _)) hn) rfl
  have hstat : ∀ t, s.Took t k 6 p → (f t (rxOf 6 p)).portState k = 5 := fun t ht => by
    obtain ⟨-, -, -, -, hreg⟩ := hsends t ht
    exact (State.fld_of_reg (hreg _ (by simp only [R.dlStat, R.dlCred]; omega)) _).trans (ht.portState h.2.1)
  obtain ⟨t, ht, heq⟩ := State.onMessage_took h (by decide) (by decide) hdst f hcode hstat
  obtain ⟨hstate, hport, hothers, -, hreg⟩ := hsends t ht
  obtain ⟨a, b, c, htp⟩ := ht
  have hk : (f t (rxOf 6 p)).port k = (takenPort (s.port k) 6 p).tokens a b c := (hothers k (Ne.symm hjk)).trans htp.port
  have hflow := State.sendFlow_active (l := p.lseq.toNat) (hstat t ⟨a, b, c, htp⟩) (by rw [hk]; rfl) (by rw [hk]; rfl)
  rw [← heq] at hflow
  generalize s.onMessage k 6 code p f = v at hflow ⊢
  generalize f t (rxOf 6 p) = u at *
  have hwhole : v = { s with regs := v.regs, fab := { s.fab with ports := v.fab.ports } } := by
    have e3 := hflow.state
    have e1 := htp.state
    generalize v.fab.ports = pv at e3 ⊢
    generalize u.fab.ports = pu at hstate
    generalize u.regs = ru at hstate
    generalize t.fab.ports = pt at e1
    rw [e3, hstate, e1]
  refine ⟨v, ?_, hwhole, ?_⟩
  · refine State.done_of_endsAlike (l := [R.dlCred j]) h.1 (State.endsAlike_ports (m := s.mem) hwhole)
      (fun x hx => (hflow.reg x).trans ((hreg x fun e => hx (List.mem_singleton.mpr e)).trans (htp.reg x))) (endIgnores_of fun o ho => ?_)
    have := hplain.1
    rw [List.mem_singleton.mp ho, R.dlCred]
    omega
  · rw [hflow.others j hjk, hport, htp.others j hjk]

/-! ## TOPO -/

section
variable (h : Arrives s k 6 16 p) (hdst : s.forThisNode k p) (hhead : p.payload.take 4 = [2, 0, 0, 0]) (hlen : p.payload.length = 62)
  (hnpath : fieldAt p.payload 14 1 ≤ 14)
include h hdst hhead hnpath

theorem exec_topo_lead (hlead : s.fld R.dlfStat F.dlfStat.LEAD = 1) {node : TopoNode}
    (hnode : node = TopoNode.mk (fieldAt p.payload 4 8) (fieldAt p.payload 12 1) (fieldAt p.payload 13 1)
      (k.val :: ((p.payload.drop 15).take (fieldAt p.payload 14 1)).map (fun b => b.toNat))
      [fieldAt p.payload 30 8, fieldAt p.payload 38 8, fieldAt p.payload 46 8, fieldAt p.payload 54 8]) :
    ∃ t, exec (.topo k p) s = .next t ∧ t = { s with fab := { s.fab with ports := t.fab.ports, topo := t.fab.topo } } ∧ Accepted s t k 6 p none ∧
      t.fab.topo = s.fab.topo.filter (fun e => e.uid != node.uid) ++ [node] := by
  have hmin : min 15 (numAt p.payload 14 1) = fieldAt p.payload 14 1 := Nat.min_eq_right (show fieldAt p.payload 14 1 ≤ 15 by omega)
  have hset : ∀ t, s.Took t k 6 p → t.onTopo k (rxOf 6 p).payload = { t with fab := { t.fab with topo := s.fab.topo.filter (fun e => e.uid != node.uid) ++ [node] } } :=
    fun t ht => by
      have htopo : t.fab.topo = s.fab.topo := by rw [ht.fab]
      rw [State.onTopo, show (rxOf 6 p).payload = p.payload from rfl]
      refine (if_pos (State.bit_eq_true ((ht.fld _ _).trans hlead))).trans ?_
      rw [hmin, htopo, hnode]
      rfl
  obtain ⟨t, ht, haccepted, hstate⟩ := State.onMessage_accepts (code := 2) (f := fun t q => t.onTopo k q.payload) h (by decide) (by decide) hdst (numAt_of_take hhead)
    fun t ht => by
      rw [hset t ht]
      exact ⟨ht.portState h.2.1, fun _ => rfl⟩
  rw [hset t ht] at hstate
  have htstate := ht.state
  generalize hv : s.onMessage k 6 2 p (fun t q => t.onTopo k q.payload) = v at haccepted hstate
  have htopo : v.fab.topo = s.fab.topo.filter (fun e => e.uid != node.uid) ++ [node] := by rw [hstate]
  have hwhole : v = { s with fab := { s.fab with ports := v.fab.ports, topo := v.fab.topo } } := by
    rw [htopo]
    generalize v.fab.ports = pv at hstate ⊢
    generalize t.fab.ports = pt at htstate
    rw [hstate, htstate]
  refine ⟨v, (congrArg State.done hv).trans (State.done_of_usual (State.usual_alike h.1 ⟨?_, ?_, ?_, ?_, ?_, ?_, ?_⟩ (congrArg State.regs hwhole :))), hwhole, haccepted, htopo⟩
  all_goals
    generalize v.fab.ports = pv at hwhole
    generalize v.fab.topo = tv at hwhole
    rw [hwhole]
  rfl

include hlen in
theorem exec_topo_passes (hlead : s.fld R.dlfStat F.dlfStat.LEAD = 0) {j : Nat} (hparent : s.fab.parent = some j) (hjk : j ≠ k.val) (hplain : PlainPort s j 5) :
    ∃ t q, exec (.topo k p) s = .next t ∧ t = { s with regs := t.regs, fab := { s.fab with ports := t.fab.ports } } ∧
      (t.port j).out = .packet ⟨q, (s.port j).txSeq, none⟩ :: (s.port j).out ∧ q.type = 6 ∧ q.dst = 0 ∧ q.payload.length = 62 ∧
      q.payload.take 14 = p.payload.take 14 ∧ fieldAt q.payload 14 1 = fieldAt p.payload 14 1 + 1 ∧ fieldAt q.payload 15 1 = k.val ∧
      (∀ i, i < fieldAt p.payload 14 1 → fieldAt q.payload (16 + i) 1 = fieldAt p.payload (15 + i) 1) ∧ q.payload.drop 30 = p.payload.drop 30 := by
  have hmin : min 15 (numAt p.payload 14 1) = fieldAt p.payload 14 1 := Nat.min_eq_right (show fieldAt p.payload 14 1 ≤ 15 by omega)
  obtain ⟨path, hpath⟩ : ∃ path, path = k.val :: ((p.payload.drop 15).take (fieldAt p.payload 14 1)).map (fun b => b.toNat) := ⟨_, rfl⟩
  have hplen : path.length = fieldAt p.payload 14 1 + 1 := by
    rw [hpath, List.length_cons, List.length_map, List.length_take, List.length_drop, hlen]
    omega
  obtain ⟨l, hl⟩ : ∃ l, l = p.payload.take 14 ++ (pathBytes path ++ p.payload.drop 30) := ⟨_, rfl⟩
  have h14 : (p.payload.take 14).length = 14 := by rw [List.length_take, hlen]; rfl
  have hp16 : (pathBytes path).length = 16 := length_pathBytes (by omega)
  have hllen : l.length = 62 := by
    rw [hl, List.length_append, List.length_append, h14, hp16, List.length_drop, hlen]
  obtain ⟨hcount, hpaths⟩ := fieldAt_pathBytes path (p.payload.drop 30) (by omega)
  have hfield : ∀ i n, fieldAt l (14 + i) n = fieldAt (pathBytes path ++ p.payload.drop 30) i n := fun i n => by
    rw [hl]
    exact fieldAt_append _ _ (by rw [h14])
  have hsend : ∀ t, s.Took t k 6 p → t.onTopo k (rxOf 6 p).payload = t.sendMsg j 0 l := fun t ht => by
    have hno : ¬t.bit R.dlfStat F.dlfStat.LEAD = true := by
      rw [State.bit_eq_false ((ht.fld _ _).trans hlead)]
      exact Bool.false_ne_true
    have hpar : t.fab.parent = some j := by rw [ht.fab]; exact hparent
    rw [State.onTopo, show (rxOf 6 p).payload = p.payload from rfl]
    refine (if_neg hno).trans ?_
    rw [hpar, hmin]
    refine (if_neg (show ¬15 ≤ fieldAt p.payload 14 1 by omega)).trans ?_
    rw [hl, hpath, List.append_assoc]
  obtain ⟨t, hdone, hstate, hout⟩ := State.exec_passesOn (code := 2) (f := fun t q => t.onTopo k q.payload) h hdst (numAt_of_take hhead) hjk hplain (by rw [hllen]) hsend
  refine ⟨t, _, hdone, hstate, hout, rfl, rfl, hllen, ?_, ?_, ?_, fun i hi => ?_, ?_⟩
  · show l.take 14 = _
    rw [hl, List.take_left' h14]
  · exact (hfield 0 1).trans (hcount.trans hplen)
  · refine (hfield 1 1).trans ((hpaths 0 (by omega)).trans ?_)
    rw [hpath]
    exact Nat.mod_eq_of_lt (lt_trans k.isLt (by decide))
  · have hi' : 16 + i = 14 + (1 + (i + 1)) := by omega
    show fieldAt l (16 + i) 1 = _
    have hget : 15 + i < p.payload.length := by omega
    rw [hi', hfield, hpaths (i + 1) (by omega), hpath, List.getD_cons_succ, fieldAt_one p.payload (15 + i), List.getD_eq_getElem?_getD, List.getElem?_map,
      List.getElem?_take_of_lt hi, List.getElem?_drop, List.getElem?_eq_getElem hget]
    exact Nat.mod_eq_of_lt (BitVec.isLt _)
  · show l.drop 30 = _
    rw [hl, ← List.append_assoc, List.drop_left' (by rw [List.length_append, h14, hp16])]

end

/-! ## ASSIGN -/

/-- The EPOCH of a message is not older than the one held. -/
def State.fresh (s : State) (e : Nat) : Prop := (e + 65536 - s.fld R.dlfEpoch F.dlfEpoch.EPOCH) % 65536 < 32768

theorem State.Took.epochOk {t : State} (ht : s.Took t k 6 p) (e : Nat) : t.epochOk e = true ↔ s.fresh e := by
  rw [State.epochOk, ht.fld, decide_eq_true_iff]
  rfl

theorem State.Took.uid {t : State} (ht : s.Took t k 6 p) : t.uid = s.uid := by rw [State.uid, State.reg64, ht.reg, ht.reg]; rfl

/-- A message that this node takes without any effect. -/
theorem State.exec_ignores {code n : Nat} (h : Arrives s k 6 n p) (hdst : s.forThisNode k p) (hcode : numAt p.payload 0 1 = code) {f : State → RxPacket → State}
    (hf : ∀ t, s.Took t k 6 p → f t (rxOf 6 p) = t) :
    ∃ t, State.done (s.onMessage k 6 code p f) = .next t ∧ t = { s with fab := { s.fab with ports := t.fab.ports } } ∧ Accepted s t k 6 p none := by
  obtain ⟨t, ht, haccepted, hstate⟩ := State.onMessage_accepts (code := code) (f := f) h (by decide) (by decide) hdst hcode fun t ht => by
    rw [hf t ht]
    exact ⟨ht.portState h.2.1, fun _ => rfl⟩
  rw [hf t ht] at hstate
  have htstate := ht.state
  generalize s.onMessage k 6 code p f = v at haccepted hstate ⊢
  have hwhole : v = { s with fab := { s.fab with ports := v.fab.ports } } := by
    generalize v.fab.ports = pv at hstate ⊢
    generalize t.fab.ports = pt at htstate
    rw [hstate, htstate]
  have hregs : v.regs = s.regs := (congrArg State.regs hwhole :)
  refine ⟨v, State.done_of_usual (State.usual_alike h.1 (State.endsAlike_ports (m := s.mem) ?_) hregs), hwhole, haccepted⟩
  rw [hregs]
  generalize v.fab.ports = pv at hwhole ⊢
  rw [hwhole]

theorem exec_assign_stale (h : Arrives s k 6 16 p) (hdst : s.forThisNode k p) (hhead : p.payload.take 4 = [3, 0, 0, 0]) (hstale : ¬s.fresh (fieldAt p.payload 4 2)) :
    ∃ t, exec (.assign k p) s = .next t ∧ t = { s with fab := { s.fab with ports := t.fab.ports } } ∧ Accepted s t k 6 p none :=
  State.exec_ignores (f := fun t q => t.onAssign q.payload) h hdst (numAt_of_take hhead) fun t ht =>
    if_pos (by rw [Bool.not_eq_true']; exact Bool.eq_false_iff.mpr (mt (ht.epochOk _).mp hstale))

/-- An ASSIGN for another node goes on along its path. -/
theorem exec_assign_passes (h : Arrives s k 6 16 p) (hdst : s.forThisNode k p) (hhead : p.payload.take 4 = [3, 0, 0, 0]) (hlen : p.payload.length = 31)
    (hfresh : s.fresh (fieldAt p.payload 4 2)) (hother : fieldAt p.payload 6 8 ≠ s.uid) (h1 : 1 ≤ fieldAt p.payload 15 1) (h15 : fieldAt p.payload 15 1 ≤ 15)
    (hjk : fieldAt p.payload 16 1 ≠ k.val) (hplain : PlainPort s (fieldAt p.payload 16 1) 3) :
    ∃ t q, exec (.assign k p) s = .next t ∧ t = { s with regs := t.regs, fab := { s.fab with ports := t.fab.ports } } ∧
      (t.port (fieldAt p.payload 16 1)).out = .packet ⟨q, (s.port (fieldAt p.payload 16 1)).txSeq, none⟩ :: (s.port (fieldAt p.payload 16 1)).out ∧
      q.type = 6 ∧ q.dst = 0 ∧ q.payload.take 15 = p.payload.take 15 ∧ fieldAt q.payload 15 1 = fieldAt p.payload 15 1 - 1 := by
  have hmin : min 15 (numAt p.payload 15 1) = fieldAt p.payload 15 1 := Nat.min_eq_right h15
  obtain ⟨n, hn⟩ : ∃ n, fieldAt p.payload 15 1 = n + 1 := ⟨fieldAt p.payload 15 1 - 1, by omega⟩
  obtain ⟨r, hr⟩ : ∃ r, r = ((p.payload.drop 17).take n).map (fun b => b.toNat) := ⟨_, rfl⟩
  have hpath : ((p.payload.drop 16).take (n + 1)).map (fun b => b.toNat) = fieldAt p.payload 16 1 :: r := by
    have hget : 16 < p.payload.length := by omega
    rw [hr, List.drop_eq_getElem_cons hget, List.take_succ_cons, List.map_cons, fieldAt_one, List.getElem?_eq_getElem hget]
    rfl
  have hrlen : r.length = n := by
    rw [hr, List.length_map, List.length_take, List.length_drop, hlen]
    omega
  obtain ⟨l, hl⟩ : ∃ l, l = p.payload.take 15 ++ pathBytes r := ⟨_, rfl⟩
  have hl15 : (p.payload.take 15).length = 15 := by rw [List.length_take, hlen]; rfl
  have hllen : l.length = 31 := by rw [hl, List.length_append, hl15, length_pathBytes (by omega)]
  have hsend : ∀ t, s.Took t k 6 p → t.onAssign (rxOf 6 p).payload = t.sendMsg (fieldAt p.payload 16 1) 0 l := fun t ht => by
    have hok : ¬(!t.epochOk (numAt p.payload 4 2)) = true := by
      rw [show t.epochOk (numAt p.payload 4 2) = true from (ht.epochOk _).mpr hfresh]
      decide
    rw [State.onAssign, show (rxOf 6 p).payload = p.payload from rfl]
    refine (if_neg hok).trans ((if_neg fun e => hother (e.1.trans ht.uid)).trans ?_)
    rw [hmin, hn, hpath, State.sendRouted, hl]
  obtain ⟨t, hdone, hstate, hout⟩ := State.exec_passesOn (code := 3) (f := fun t q => t.onAssign q.payload) h hdst (numAt_of_take hhead) hjk hplain (by rw [hllen]) hsend
  refine ⟨t, _, hdone, hstate, hout, rfl, rfl, ?_, ?_⟩
  · show l.take 15 = _
    rw [hl, List.take_left' hl15]
  · show fieldAt l 15 1 = _
    have hp := (fieldAt_pathBytes r [] (by omega)).1
    rw [List.append_nil] at hp
    rw [hl, fieldAt_append _ _ (i := 0) (by rw [hl15]), hp, hrlen, hn]
    rfl

/-- An ASSIGN for this node: its ID and the EPOCH (R446). -/
theorem exec_assign_mine (h : Arrives s k 6 16 p) (hdst : s.forThisNode k p) (hhead : p.payload.take 4 = [3, 0, 0, 0])
    (hfresh : s.fresh (fieldAt p.payload 4 2)) (hmine : fieldAt p.payload 6 8 = s.uid) (h0 : fieldAt p.payload 15 1 = 0) :
    ∃ t, exec (.assign k p) s = .next t ∧ t = { s with regs := t.regs, pulses := t.pulses, fab := t.fab } ∧ t.nodeId = fieldAt p.payload 14 1 ∧
      t.fld R.dlfEpoch F.dlfEpoch.EPOCH = fieldAt p.payload 4 2 ∧
      t.fab.assigned = (if fieldAt p.payload 14 1 = 0 then none else some (fieldAt p.payload 4 2)) := by
  have hassign : ∀ t, s.Took t k 6 p → ∃ u, t.onAssign (rxOf 6 p).payload = u.discIfChanged ∧
      u = { s with regs := u.regs, fab := { s.fab with ports := u.fab.ports, assigned := if fieldAt p.payload 14 1 = 0 then none else some (fieldAt p.payload 4 2) } } ∧
      s.regsBut u [R.dlfStat, R.dlfEpoch] ∧ u.nodeId = fieldAt p.payload 14 1 ∧ u.fld R.dlfEpoch F.dlfEpoch.EPOCH = fieldAt p.payload 4 2 := fun t ht => by
    have hok : ¬(!t.epochOk (numAt p.payload 4 2)) = true := by
      rw [show t.epochOk (numAt p.payload 4 2) = true from (ht.epochOk _).mpr hfresh]
      decide
    have hmin : min 15 (numAt p.payload 15 1) = 0 := by
      rw [show numAt p.payload 15 1 = 0 from h0]
      rfl
    obtain ⟨w, hw⟩ : ∃ w, w = (t.setFld R.dlfStat F.dlfStat.NODE_ID (fieldAt p.payload 14 1)).setFld R.dlfEpoch F.dlfEpoch.EPOCH (fieldAt p.payload 4 2) := ⟨_, rfl⟩
    refine ⟨{ w with fab := { w.fab with assigned := if fieldAt p.payload 14 1 = 0 then none else some (fieldAt p.payload 4 2) } }, ?_, ?_, ?_, ?_, ?_⟩
    · rw [State.onAssign, show (rxOf 6 p).payload = p.payload from rfl]
      refine (if_neg hok).trans ((if_pos ⟨hmine.trans ht.uid.symm, hmin⟩).trans ?_)
      rw [hw]
      rfl
    · have h1 := ht.state
      rw [hw]
      generalize t.fab.ports = pt at h1
      rw [h1]
      rfl
    · have hr : s.regsBut w [R.dlfStat, R.dlfEpoch] := by
        rw [hw]
        exact ((State.regsBut_of_regs _ (congrArg State.regs ht.state :)).setFld _ _ (by simp)).setFld _ _ (by simp)
      exact hr
    · show w.fld R.dlfStat F.dlfStat.NODE_ID = _
      rw [hw, State.fld_setFld_ne _ _ _ _ _ _ (by decide), State.fld_setFld _ _ _ _ (by decide)]
      exact Nat.mod_eq_of_lt (fieldAt_lt p.payload 14 1)
    · show w.fld R.dlfEpoch F.dlfEpoch.EPOCH = _
      rw [hw, State.fld_setFld _ _ _ _ (by decide)]
      exact Nat.mod_eq_of_lt (fieldAt_lt p.payload 4 2)
  have hstat : ∀ t, s.Took t k 6 p → (t.onAssign (rxOf 6 p).payload).portState k = 5 := fun t ht => by
    obtain ⟨u, heq, -, hreg, -, -⟩ := hassign t ht
    obtain ⟨a, ha⟩ := u.discIfChanged_sends
    rw [heq]
    refine (ha.fld _ ?_).trans ((State.fld_of_reg (hreg _ ?_) _).trans h.2.1.2.1)
    · simp only [dlCreds, R.dlStat, R.dlCred, List.mem_cons, List.not_mem_nil, or_false]
      omega
    · simp only [R.dlStat, R.dlfStat, R.dlfEpoch, List.mem_cons, List.not_mem_nil, or_false]
      omega
  obtain ⟨t, ht, hexec⟩ := State.onMessage_took (code := 3) h (by decide) (by decide) hdst (fun t q => t.onAssign q.payload) (numAt_of_take hhead) hstat
  obtain ⟨u, heq, hstate, hreg, hnode, hepoch⟩ := hassign t ht
  rw [heq] at hexec
  obtain ⟨a, ha⟩ := u.discIfChanged_sends
  have hv := ha.trans (u.discIfChanged.sendFlow_sends k)
  generalize u.discIfChanged.sendFlow k = v at hv hexec
  have huu : u.usual := State.usual_of h.1 (by rw [hstate]; exact ⟨rfl, rfl, rfl, rfl, rfl, rfl, rfl⟩) hreg (by unfold endIgnores; decide)
  have hvu : v.usual := hv.usual (State.usual_alike huu ⟨rfl, rfl, rfl, rfl, rfl, rfl, rfl⟩ rfl)
  have hvstate := hv.state
  refine ⟨v, (congrArg State.done hexec).trans (State.done_of_usual hvu), ?_, ?_, ?_, ?_⟩
  · have h1 := hv.only
    have h2 := hstate
    generalize v.fab = fv at h1 ⊢
    generalize v.regs = rv at h1 ⊢
    generalize u.fab.ports = pu at h2
    generalize u.regs = ru at h2
    rw [h1, h2]
  · exact (hv.fld _ (by decide)).trans hnode
  · exact (hv.fld _ (by decide)).trans hepoch
  · rw [hvstate, hstate]

end

end Sys2Proof.Machine

/-!
Routes, READY and the lead's settlement (R446-R448).
-/
namespace Sys2Proof.Machine

/-! ## Routes -/

/-- Eight nibbles as a route register holds them. -/
def routeWord (nibbles : List Nat) (i : Nat) : Nat := (List.range 8).foldl (fun a j => a + nibbles.getD (8 * i + j) 0xF * 2 ^ (4 * j)) 0

/-- The digits of a sum of nibbles. -/
theorem nibbles_digits {f : Nat → Nat} (h : ∀ j, f j < 16) (m : Nat) : (List.range m).foldl (fun a j => a + f j * 2 ^ (4 * j)) 0 < 16 ^ m ∧
    ∀ j, j < m → (List.range m).foldl (fun a j => a + f j * 2 ^ (4 * j)) 0 / 16 ^ j % 16 = f j := by
  induction m with
  | zero => exact ⟨Nat.one_pos, fun j hj => absurd hj (Nat.not_lt_zero j)⟩
  | succ m ih =>
    obtain ⟨hlt, hdig⟩ := ih
    rw [List.range_succ, List.foldl_append, List.foldl_cons, List.foldl_nil, Nat.pow_mul 2 4 m, show 2 ^ 4 = 16 from rfl]
    generalize (List.range m).foldl (fun a j => a + f j * 2 ^ (4 * j)) 0 = S at hlt hdig ⊢
    have hm := h m
    refine ⟨?_, fun j hj => ?_⟩
    · calc S + f m * 16 ^ m < 16 ^ m + 15 * 16 ^ m := Nat.add_lt_add_of_lt_of_le hlt (Nat.mul_le_mul_right _ (by omega))
        _ = 16 ^ (m + 1) := by rw [Nat.pow_succ]; omega
    · by_cases hjm : j = m
      · subst hjm
        rw [Nat.add_mul_div_right _ _ (by positivity), Nat.div_eq_of_lt hlt, Nat.zero_add, Nat.mod_eq_of_lt hm]
      · obtain ⟨d, rfl⟩ : ∃ d, m = j + (d + 1) := ⟨m - j - 1, by omega⟩
        have hpow : f (j + (d + 1)) * 16 ^ (j + (d + 1)) = f (j + (d + 1)) * 16 ^ d * 16 * 16 ^ j := by
          rw [Nat.pow_add, Nat.pow_succ]
          ring
        rw [hpow, Nat.add_mul_div_right _ _ (by positivity), Nat.add_mul_mod_self_right, hdig j (by omega)]

theorem bitsOf_routeWord {nibbles : List Nat} (h : ∀ d, nibbles.getD d 0xF < 16) (i : Nat) {j : Nat} (hj : j < 8) :
    bitsOf (routeWord nibbles i % 2 ^ 32) (4 * j) 4 = nibbles.getD (8 * i + j) 0xF := by
  obtain ⟨hlt, hdig⟩ := nibbles_digits (f := fun j => nibbles.getD (8 * i + j) 0xF) (fun j => h _) 8
  have hlt' : routeWord nibbles i < 2 ^ 32 := hlt
  rw [Nat.mod_eq_of_lt hlt', bitsOf, Nat.shiftRight_eq_div_pow, Nat.pow_mul 2 4 j]
  exact hdig j hj

section
variable (s : State) (nibbles roles : List Nat)

/-- The state with the route registers written. -/
def State.routed (s : State) (nibbles : List Nat) : State := s.forEach 32 (fun i t => t.setReg (R.dlfRt i) (BitVec.ofNat 32 (routeWord nibbles i)))

theorem State.reg_routed {i : Nat} (hi : i < 32) : (s.routed nibbles).reg (R.dlfRt i) = BitVec.ofNat 32 (routeWord nibbles i) := by
  refine (State.forEach_view (view := fun i t => t.reg (R.dlfRt i)) (g := fun i _ => BitVec.ofNat 32 (routeWord nibbles i)) (fun t i j hj => ?_) (fun t i => ?_) 32 s i).trans (if_pos hi)
  · exact State.reg_setReg_ne _ _ _ _ (by simp only [R.dlfRt]; omega)
  · exact State.reg_setReg_same _ _ _

theorem State.routed_regsOnly : s.regsOnly (s.routed nibbles) ((List.range 32).map R.dlfRt) :=
  (State.regsOnly.refl s _).foldl _ _ fun v i hi => (State.regsOnly.refl v _).setReg _ (List.mem_map.mpr ⟨i, hi, rfl⟩)

/-- The state with the roles written. -/
def State.roled (s : State) (roles : List Nat) : State := s.forEach 4 (fun k t => t.setFld (R.dlStat k) F.dlStat.ROLE (roles.getD k 0))

theorem State.roled_regsOnly : s.regsOnly (s.roled roles) ((List.range 4).map R.dlStat) :=
  (State.regsOnly.refl s _).foldl _ _ fun v i hi => (State.regsOnly.refl v _).setFld _ _ (List.mem_map.mpr ⟨i, hi, rfl⟩)

theorem State.portRole_roled {j : Nat} (hj : j < 4) : (s.roled roles).portRole j = roles.getD j 0 % 4 := by
  refine (State.forEach_view (view := fun i t => t.portRole i) (g := fun i _ => roles.getD i 0 % 4) (fun t i j hj => ?_) (fun t i => ?_) 4 s j).trans (if_pos hj)
  · exact State.fld_setFld_ne _ _ _ _ _ _ (by simp only [R.dlStat]; omega)
  · exact State.fld_setFld _ _ _ _ (by decide)

theorem State.portState_roled (j : Nat) : (s.roled roles).portState j = s.portState j := by
  refine (State.forEach_view (view := fun i t => t.portState i) (g := fun _ x => x) (fun t i j hj => ?_) (fun t i => ?_) 4 s j).trans (ite_self _)
  · exact State.fld_setFld_ne _ _ _ _ _ _ (by simp only [R.dlStat]; omega)
  · exact State.fld_setFld_apart _ _ _ _ _ (by decide) (by decide) (by decide)

/-- Where routes and roles stand. -/
def routeRegs : List Nat := (List.range 32).map R.dlfRt ++ (List.range 4).map R.dlStat

theorem State.installRoutes_eq : s.installRoutes nibbles roles = (s.routed nibbles).roled roles := rfl

theorem State.installRoutes_regsOnly : s.regsOnly (s.installRoutes nibbles roles) routeRegs :=
  ((s.routed_regsOnly nibbles).mono (List.subset_append_left _ _)).trans (((s.routed nibbles).roled_regsOnly roles).mono (List.subset_append_right _ _))

theorem State.routeTo_installRoutes (h : ∀ d, nibbles.getD d 0xF < 16) {d : Nat} (hd : d < 256) : (s.installRoutes nibbles roles).routeTo d = nibbles.getD d 0xF := by
  have hreg : ((s.routed nibbles).roled roles).reg (R.dlfRt (d / 8)) = BitVec.ofNat 32 (routeWord nibbles (d / 8)) := by
    rw [((s.routed nibbles).roled_regsOnly roles).2 _ fun hm => ?_]
    · exact s.reg_routed nibbles (by omega)
    · obtain ⟨i, hi, he⟩ := List.mem_map.mp hm
      simp only [R.dlStat, R.dlfRt] at he
      omega
  rw [State.installRoutes_eq, State.routeTo, hreg, BitVec.toNat_ofNat, bitsOf_routeWord h _ (Nat.mod_lt _ (by decide)), Nat.div_add_mod]

theorem State.portRole_installRoutes {j : Nat} (hj : j < 4) : (s.installRoutes nibbles roles).portRole j = roles.getD j 0 % 4 := (s.routed nibbles).portRole_roled roles hj

theorem State.portState_installRoutes (j : Nat) : (s.installRoutes nibbles roles).portState j = s.portState j := by
  refine ((s.routed nibbles).portState_roled roles j).trans ((s.routed_regsOnly nibbles).fld (fun hm => ?_) _)
  obtain ⟨i, hi, he⟩ := List.mem_map.mp hm
  have := List.mem_range.mp hi
  simp only [R.dlStat, R.dlfRt] at he
  omega

theorem not_mem_routeRegs {x : Nat} (hrt : ∀ i, i < 32 → x ≠ R.dlfRt i) (hstat : ∀ j, j < 4 → x ≠ R.dlStat j) : x ∉ routeRegs := fun hm => by
  obtain hm | hm := List.mem_append.mp hm
  · obtain ⟨i, hi, rfl⟩ := List.mem_map.mp hm
    exact hrt i (List.mem_range.mp hi) rfl
  · obtain ⟨i, hi, rfl⟩ := List.mem_map.mp hm
    exact hstat i (List.mem_range.mp hi) rfl

theorem endIgnores_routeRegs : endIgnores routeRegs := by unfold endIgnores; decide

end

section
variable {s : State} {k : Fin 4} {p : Packet}

theorem exec_route_stale (h : Arrives s k 6 16 p) (hdst : s.forThisNode k p) (hhead : p.payload.take 4 = [4, 0, 0, 0]) (hstale : ¬s.fresh (fieldAt p.payload 4 2)) :
    ∃ t, exec (.route k p) s = .next t ∧ t = { s with fab := { s.fab with ports := t.fab.ports } } ∧ Accepted s t k 6 p none :=
  State.exec_ignores (f := fun t q => t.onRoute q.payload) h hdst (numAt_of_take hhead) fun t ht =>
    if_pos (by rw [Bool.not_eq_true']; exact Bool.eq_false_iff.mpr (mt (ht.epochOk _).mp hstale))

/-- The routes that a ROUTE message carries. -/
def routesIn (m : List Byte) : List Nat := (List.range 256).map (fun i => bitsOf (numAt m (31 + i / 2) 1) (4 * (i % 2)) 4)

/-- The roles that a ROUTE message carries. -/
def rolesIn (m : List Byte) : List Nat := (List.range 4).map (fun k => bitsOf (numAt m 30 1) (2 * k) 2)

theorem getD_map_range (f : Nat → Nat) {n i : Nat} (hi : i < n) (x : Nat) : ((List.range n).map f).getD i x = f i := by
  rw [List.getD_eq_getElem?_getD, List.getElem?_map, List.getElem?_range hi]
  rfl

theorem routesIn_lt (m : List Byte) (d : Nat) : (routesIn m).getD d 0xF < 16 := by
  by_cases hd : d < 256
  · rw [routesIn, getD_map_range _ hd]
    exact Nat.mod_lt _ (by decide)
  · rw [List.getD_eq_getElem?_getD, List.getElem?_eq_none (by rw [routesIn, List.length_map, List.length_range]; omega)]
    decide

/-- A ROUTE for this node: its routes and the roles of its ports (R447). -/
theorem exec_route_mine (h : Arrives s k 6 16 p) (hdst : s.forThisNode k p) (hhead : p.payload.take 4 = [4, 0, 0, 0])
    (hfresh : s.fresh (fieldAt p.payload 4 2)) (hmine : fieldAt p.payload 6 8 = s.uid) (h0 : fieldAt p.payload 14 1 = 0) :
    ∃ t, exec (.route k p) s = .next t ∧ t = { s with regs := t.regs, fab := { s.fab with ports := t.fab.ports, routed := some (fieldAt p.payload 4 2) } } ∧
      Accepted s t k 6 p none ∧ (∀ d, d < 256 → t.routeTo d = bitsOf (fieldAt p.payload (31 + d / 2) 1) (4 * (d % 2)) 4) ∧
      (∀ j, j < 4 → t.portRole j = bitsOf (fieldAt p.payload 30 1) (2 * j) 2) ∧
      (∀ x, (∀ i, i < 32 → x ≠ R.dlfRt i) → (∀ j, j < 4 → x ≠ R.dlStat j) → t.reg x = s.reg x) := by
  have hroute : ∀ t, s.Took t k 6 p → ∃ u, u = t.installRoutes (routesIn p.payload) (rolesIn p.payload) ∧
      t.onRoute (rxOf 6 p).payload = { u with fab := { u.fab with routed := some (fieldAt p.payload 4 2) } } := fun t ht => by
    have hok : ¬(!t.epochOk (numAt p.payload 4 2)) = true := by
      rw [show t.epochOk (numAt p.payload 4 2) = true from (ht.epochOk _).mpr hfresh]
      decide
    have hmin : min 15 (numAt p.payload 14 1) = 0 := by
      rw [show numAt p.payload 14 1 = 0 from h0]
      rfl
    refine ⟨_, rfl, ?_⟩
    rw [State.onRoute, show (rxOf 6 p).payload = p.payload from rfl]
    exact (if_neg hok).trans (if_pos ⟨hmine.trans ht.uid.symm, hmin⟩)
  obtain ⟨t, ht, haccepted, hstate⟩ := State.onMessage_accepts (code := 4) (f := fun t q => t.onRoute q.payload) h (by decide) (by decide) hdst (numAt_of_take hhead)
    fun t ht => by
      obtain ⟨u, hu, heq⟩ := hroute t ht
      rw [heq]
      refine ⟨(?_ : u.portState k = 5), fun j => ?_⟩
      · rw [hu, State.portState_installRoutes, ht.portState h.2.1]
      · show u.port j = _
        rw [hu]
        exact State.port_of_fab (congrArg (fun w => w.fab.ports) (t.installRoutes_regsOnly _ _).1) j
  obtain ⟨u, hu, heq⟩ := hroute t ht
  rw [heq] at hstate
  have honly := t.installRoutes_regsOnly (routesIn p.payload) (rolesIn p.payload)
  rw [← hu] at honly
  have hreg : s.regsBut u routeRegs := (State.regsBut_of_regs _ (congrArg State.regs ht.state :)).trans honly.2
  have hview : ∀ x, (s.onMessage k 6 4 p fun t q => t.onRoute q.payload).reg x = u.reg x := fun x => State.reg_of_regs _ _ (congrArg State.regs hstate :) x
  generalize hv : s.onMessage k 6 4 p (fun t q => t.onRoute q.payload) = v at haccepted hstate hview
  have hwhole : v = { s with regs := v.regs, fab := { s.fab with ports := v.fab.ports, routed := some (fieldAt p.payload 4 2) } } := by
    have h1 := honly.1
    have h2 := ht.state
    generalize v.fab.ports = pv at hstate ⊢
    generalize u.regs = ru at h1
    generalize t.fab.ports = pt at h2
    rw [hstate, h1, h2]
  have hroutes : ∀ d, v.routeTo d = u.routeTo d := fun d => by rw [State.routeTo, hview, State.routeTo]
  have hroles : ∀ j, v.portRole j = u.portRole j := fun j => State.fld_of_reg (hview _) _
  refine ⟨v, (congrArg State.done hv).trans (State.done_of_endsAlike h.1 ?_ (fun x hx => (hview x).trans (hreg x hx)) endIgnores_routeRegs), hwhole, haccepted, fun d hd => ?_,
    fun j hj => ?_, fun x h1 h2 => (hview x).trans (hreg x (not_mem_routeRegs h1 h2))⟩
  · generalize v.fab.ports = pv at hwhole
    generalize v.regs = rv at hwhole
    rw [hwhole]
    exact ⟨rfl, rfl, rfl, rfl, rfl, rfl, rfl⟩
  · rw [hroutes, hu, State.routeTo_installRoutes _ _ _ (routesIn_lt _) hd, routesIn, getD_map_range _ hd]
    rfl
  · rw [hroles, hu, State.portRole_installRoutes _ _ _ hj, rolesIn, getD_map_range _ hj]
    exact Nat.mod_eq_of_lt (Nat.mod_lt _ (by decide))

end

end Sys2Proof.Machine

/-!
READY (R448).
-/
namespace Sys2Proof.Machine

section
variable {s : State} {k : Fin 4} {p : Packet}

/-- No REFORM command waits for READY. -/
theorem State.doWork_fabricReady {t : State} (h : t.fab.reforms = []) : t.doWork .fabricReady = t := by
  show t.readyWork = t
  rw [State.readyWork, h, List.foldl_nil]
  have hfab : t.fab = { t.fab with reforms := [] } := by rw [← h]
  rw [← hfab]

/-- READY, before what waits for it. -/
def State.readied (s : State) : State := if s.fabState = 4 then s else (s.setFld R.dlfStat F.dlfStat.STATE 4).fire 232

theorem State.becomeReady_eq (s : State) : s.becomeReady = { s.readied with work := s.readied.work ++ [Work.fabricReady] } := rfl

theorem State.readied_state (s : State) : s.readied = { s with regs := s.readied.regs, pulses := if s.fabState = 4 then s.pulses else addSorted s.pulses 232 } := by
  rw [State.readied]
  by_cases h : s.fabState = 4
  · rw [if_pos h, if_pos h]
  · rw [if_neg h, if_neg h]
    rfl

theorem State.readied_regsBut (s : State) : s.regsBut s.readied [R.dlfStat] := by
  rw [State.readied]
  split
  · exact .refl s _
  · exact (State.regsBut.refl s _).setFld _ _ (List.mem_singleton_self _)

theorem State.readied_fabState (s : State) : s.readied.fabState = 4 := by
  rw [State.readied]
  split
  · assumption
  · exact State.fld_setFld _ _ _ _ (by decide)

theorem State.readied_leadId (s : State) : s.readied.fld R.dlfStat F.dlfStat.LEAD_ID = s.fld R.dlfStat F.dlfStat.LEAD_ID := by
  rw [State.readied]
  split
  · rfl
  · exact State.fld_setFld_apart _ _ _ _ _ (by decide) (by decide) (by decide)

theorem State.readied_nodeId (s : State) : s.readied.nodeId = s.nodeId := by
  rw [State.readied]
  split
  · rfl
  · exact State.fld_setFld_apart _ _ _ _ _ (by decide) (by decide) (by decide)

/-- A READY that is not for this node's formation. -/
theorem exec_ready_ignored (h : Arrives s k 6 0 p) (hdst : s.forThisNode k p) (hhead : p.payload.take 4 = [5, 0, 0, 0])
    (hno : ¬(s.fresh (fieldAt p.payload 4 2) ∧ s.fab.assigned = some (fieldAt p.payload 4 2) ∧ s.fab.routed = some (fieldAt p.payload 4 2) ∧ (s.fabState = 3 ∨ s.fabState = 4))) :
    ∃ t, exec (.ready k p) s = .next t ∧ t = { s with fab := { s.fab with ports := t.fab.ports } } ∧ Accepted s t k 6 p none :=
  State.exec_ignores (f := fun t q => t.onReady q.payload) h hdst (numAt_of_take hhead) fun t ht => by
    have hstate : t.fabState = s.fabState := ht.fld _ _
    rw [State.onReady, show (rxOf 6 p).payload = p.payload from rfl]
    by_cases hf : s.fresh (fieldAt p.payload 4 2)
    · have hok : ¬(!t.epochOk (numAt p.payload 4 2)) = true := by
        rw [show t.epochOk (numAt p.payload 4 2) = true from (ht.epochOk _).mpr hf]
        decide
      refine (if_neg hok).trans (if_neg ?_)
      rw [ht.fab, hstate]
      exact fun he => hno ⟨hf, he⟩
    · exact if_pos (by rw [Bool.not_eq_true']; exact Bool.eq_false_iff.mpr (mt (ht.epochOk _).mp hf))

/-- READY for this node's formation. -/
theorem exec_ready_joins (h : Arrives s k 6 0 p) (hdst : s.forThisNode k p) (hhead : p.payload.take 4 = [5, 0, 0, 0]) (hreforms : s.fab.reforms = [])
    (hfresh : s.fresh (fieldAt p.payload 4 2)) (hassigned : s.fab.assigned = some (fieldAt p.payload 4 2)) (hrouted : s.fab.routed = some (fieldAt p.payload 4 2))
    (hstate : s.fabState = 3 ∨ s.fabState = 4) :
    ∃ t, exec (.ready k p) s = .next t ∧ Accepted s t k 6 p none ∧
      t = { s with regs := t.regs, fab := { s.fab with ports := t.fab.ports }, pulses := if s.fabState = 4 then s.pulses else addSorted s.pulses 232 } ∧
      t.fabState = 4 ∧ t.fld R.dlfEpoch F.dlfEpoch.EPOCH = fieldAt p.payload 4 2 ∧ t.fld R.dlfEpoch F.dlfEpoch.NODES = fieldAt p.payload 7 1 ∧
      t.fld R.dlfStat F.dlfStat.LEAD_ID = fieldAt p.payload 6 1 ∧ (∀ x, x ∉ [R.dlfEpoch, R.dlfStat] → t.reg x = s.reg x) := by
  have hready : ∀ t, s.Took t k 6 p → ∃ z, z = ((t.setFld R.dlfEpoch F.dlfEpoch.EPOCH (fieldAt p.payload 4 2)).setFld R.dlfEpoch F.dlfEpoch.NODES
      (fieldAt p.payload 7 1)).setFld R.dlfStat F.dlfStat.LEAD_ID (fieldAt p.payload 6 1) ∧ t.onReady (rxOf 6 p).payload = z.becomeReady := fun t ht => by
    have hok : ¬(!t.epochOk (numAt p.payload 4 2)) = true := by
      rw [show t.epochOk (numAt p.payload 4 2) = true from (ht.epochOk _).mpr hfresh]
      decide
    have hst : t.fabState = s.fabState := ht.fld _ _
    refine ⟨_, rfl, ?_⟩
    rw [State.onReady, show (rxOf 6 p).payload = p.payload from rfl]
    refine (if_neg hok).trans (if_pos ?_)
    rw [ht.fab, hst]
    exact ⟨hassigned, hrouted, hstate⟩
  have hz : ∀ t z, s.Took t k 6 p → z = ((t.setFld R.dlfEpoch F.dlfEpoch.EPOCH (fieldAt p.payload 4 2)).setFld R.dlfEpoch F.dlfEpoch.NODES
      (fieldAt p.payload 7 1)).setFld R.dlfStat F.dlfStat.LEAD_ID (fieldAt p.payload 6 1) → t.regsOnly z [R.dlfEpoch, R.dlfStat] := fun t z ht hz => by
    rw [hz]
    exact (((State.regsOnly.refl t _).setFld _ _ (by simp)).setFld _ _ (by simp)).setFld _ _ (by simp)
  obtain ⟨t, ht, haccepted, hwhole⟩ := State.onMessage_accepts (code := 5) (f := fun t q => t.onReady q.payload) h (by decide) (by decide) hdst (numAt_of_take hhead)
    fun t ht => by
      obtain ⟨z, hz', heq⟩ := hready t ht
      have honly := hz t z ht hz'
      rw [heq, State.becomeReady_eq]
      have hport : (R.dlStat k) ∉ [R.dlfEpoch, R.dlfStat] := by
        simp only [R.dlStat, R.dlfEpoch, R.dlfStat, List.mem_cons, List.not_mem_nil, or_false]
        omega
      have hport1 : (R.dlStat k) ∉ [R.dlfStat] := fun hm => hport (List.mem_cons_of_mem _ hm)
      refine ⟨((z.readied_regsBut.fld hport1 _).trans (honly.fld hport _)).trans (ht.portState h.2.1), fun j => ?_⟩
      show z.readied.port j = _
      rw [State.port_of_fab (congrArg (fun w => w.fab.ports) z.readied_state) j]
      exact State.port_of_fab (congrArg (fun w => w.fab.ports) honly.1) j
  obtain ⟨z, hz', heq⟩ := hready t ht
  have honly := hz t z ht hz'
  rw [heq, State.becomeReady_eq] at hwhole
  have hst : z.fabState = s.fabState := by
    rw [hz']
    refine (State.fld_setFld_apart _ _ _ _ _ (by decide) (by decide) (by decide)).trans ?_
    rw [State.fld_setFld_ne _ _ _ _ _ _ (by decide), State.fld_setFld_ne _ _ _ _ _ _ (by decide)]
    exact ht.fld _ _
  have hlead : z.fld R.dlfStat F.dlfStat.LEAD_ID = fieldAt p.payload 6 1 := by
    rw [hz', State.fld_setFld _ _ _ _ (by decide)]
    exact Nat.mod_eq_of_lt (fieldAt_lt p.payload 6 1)
  have hnodes : z.fld R.dlfEpoch F.dlfEpoch.NODES = fieldAt p.payload 7 1 := by
    rw [hz', State.fld_setFld_ne _ _ _ _ _ _ (by decide), State.fld_setFld _ _ _ _ (by decide)]
    exact Nat.mod_eq_of_lt (fieldAt_lt p.payload 7 1)
  have hepoch : z.fld R.dlfEpoch F.dlfEpoch.EPOCH = fieldAt p.payload 4 2 := by
    rw [hz', State.fld_setFld_ne _ _ _ _ _ _ (by decide), State.fld_setFld_apart _ _ _ _ _ (by decide) (by decide) (by decide), State.fld_setFld _ _ _ _ (by decide)]
    exact Nat.mod_eq_of_lt (fieldAt_lt p.payload 4 2)
  generalize hv : s.onMessage k 6 5 p (fun t q => t.onReady q.payload) = v at haccepted hwhole
  obtain ⟨u, hu⟩ : ∃ u : State, u = { z.readied with fab := { z.readied.fab with ports := v.fab.ports } } := ⟨_, rfl⟩
  have hreg : ∀ x, u.reg x = z.readied.reg x := fun x => State.reg_of_regs _ _ (by rw [hu]) x
  have hustate : u = { s with regs := u.regs, fab := { s.fab with ports := u.fab.ports }, pulses := if s.fabState = 4 then s.pulses else addSorted s.pulses 232 } := by
    have h1 := z.readied_state
    have h2 := honly.1
    have h3 := ht.state
    rw [hst] at h1
    generalize v.fab.ports = pv at hu
    generalize z.readied.regs = rr at h1
    generalize z.regs = rz at h2
    generalize t.fab.ports = pt at h3
    rw [hu, h1, h2, h3]
  have hbut : s.regsBut u [R.dlfEpoch, R.dlfStat] := fun x hx =>
    (hreg x).trans ((z.readied_regsBut x fun hm => hx (List.mem_cons_of_mem _ hm)).trans ((honly.2 x hx).trans (ht.reg x)))
  have hvu : v = { u with work := u.work ++ [Work.fabricReady] } := by
    generalize v.fab.ports = pv at hwhole hu
    rw [hwhole, hu]
  have hworknil : u.work = [] := by
    generalize u.fab.ports = pu at hustate
    generalize u.regs = ru at hustate
    rw [hustate]
    exact h.1.1.1
  have hfabr : u.fab.reforms = [] := by
    generalize u.fab.ports = pu at hustate
    generalize u.regs = ru at hustate
    rw [hustate]
    exact hreforms
  have hepochStat : R.dlfEpoch ∉ [R.dlfStat] := by decide
  refine ⟨u, ?_, ?_, hustate, ?_, ?_, ?_, ?_, hbut⟩
  · refine (congrArg State.done (hv.trans hvu)).trans (State.done_withWorkTo hworknil (State.doWork_fabricReady hfabr) (State.usual_of h.1 ?_ hbut (by unfold endIgnores; decide)))
    generalize u.fab.ports = pu at hustate
    generalize u.regs = ru at hustate
    rw [hustate]
    exact ⟨rfl, rfl, rfl, rfl, rfl, rfl, rfl⟩
  · rw [hvu] at haccepted
    exact haccepted
  · exact (State.fld_of_reg (hreg _) _).trans z.readied_fabState
  · exact (State.fld_of_reg (hreg _) _).trans ((z.readied_regsBut.fld hepochStat _).trans hepoch)
  · exact (State.fld_of_reg (hreg _) _).trans ((z.readied_regsBut.fld hepochStat _).trans hnodes)
  · exact (State.fld_of_reg (hreg _) _).trans (z.readied_leadId.trans hlead)

end

end Sys2Proof.Machine

/-!
The lead alone settles the formation (R446-R448).
-/
namespace Sys2Proof.Machine

/-! ## A topology of one node -/

section
variable (n : TopoNode)

theorem levelsGo_one : levelsGo [n] 1 [(n.uid, 0)] = [(n.uid, 0)] := by
  rw [levelsGo, levelsGo]
  simp

theorem levelOf_one : levelOf [(n.uid, 0)] n.uid = some 0 := by
  simp [levelOf]

/-- The ID of a node alone: the one it holds, the one it asks for, or 1. -/
def TopoNode.firstId : Nat :=
  if 1 ≤ n.nodeId ∧ n.nodeId ≤ 254 then n.nodeId else if 1 ≤ n.reqId ∧ n.reqId ≤ 254 then n.reqId else 1

theorem TopoNode.firstId_range : 1 ≤ n.firstId ∧ n.firstId ≤ 254 := by
  rw [TopoNode.firstId]
  split
  · assumption
  · split
    · assumption
    · decide

theorem takeIds_one (ask : TopoNode → Nat) (h : ask n < 256) : takeIds ask [n] [] = if 1 ≤ ask n ∧ ask n ≤ 254 then [(n.uid, ask n)] else [] := by
  rw [takeIds, List.foldl_cons, List.foldl_nil]
  by_cases h0 : 1 ≤ ask n ∧ ask n ≤ 254
  · rw [if_pos h0, if_neg (by simp; omega)]
    rfl
  · rw [if_neg h0, if_pos (by simp; omega)]

theorem takeIds_held (ask : TopoNode → Nat) (id : Nat) : takeIds ask [n] [(n.uid, id)] = [(n.uid, id)] := by
  rw [takeIds, List.foldl_cons, List.foldl_nil]
  exact if_pos (by simp)

theorem assignIds_one (hid : n.nodeId < 256) (hreq : n.reqId < 256) : assignIds n.uid [n] = [(n.uid, n.firstId)] := by
  have hby : byUid [n] = [n] := rfl
  have hlead : [n].filter (fun m => m.uid == n.uid) ++ [n].filter (fun m => m.uid != n.uid) = [n] := by simp
  rw [assignIds, hby, hlead, List.foldl_cons, List.foldl_nil, takeIds_one n (fun n => n.nodeId) hid, TopoNode.firstId]
  by_cases h1 : 1 ≤ n.nodeId ∧ n.nodeId ≤ 254
  · rw [if_pos h1, if_pos h1, takeIds_held]
    exact if_pos (by simp)
  · rw [if_neg h1, if_neg h1, takeIds_one n (fun n => n.reqId) hreq]
    by_cases h2 : 1 ≤ n.reqId ∧ n.reqId ≤ 254
    · rw [if_pos h2, if_pos h2]
      exact if_pos (by simp)
    · rw [if_neg h2, if_neg h2]
      rfl

/-- A node alone routes its own ID to itself and nothing else. -/
theorem routeNibbles_one (t : List (Nat × Nat)) (h0 : n.nodeId ≠ 0) {d : Nat} (hd : d < 256) :
    (routeNibbles [n] t n).getD d 0xF = if d = n.nodeId then 0xE else 0xF := by
  rw [routeNibbles, getD_map_range _ hd]
  by_cases h : d = n.nodeId
  · rw [if_pos h, List.find?_cons_of_pos (by simp [h, h0])]
    exact if_pos rfl
  · rw [if_neg h, List.find?_cons_of_neg (by simp; omega)]
    rfl

theorem routeNibbles_one_lt (t : List (Nat × Nat)) (h0 : n.nodeId ≠ 0) (d : Nat) : (routeNibbles [n] t n).getD d 0xF < 16 := by
  by_cases hd : d < 256
  · rw [routeNibbles_one n t h0 hd]
    split <;> decide
  · rw [List.getD_eq_getElem?_getD, List.getElem?_eq_none (by rw [routeNibbles, List.length_map, List.length_range]; omega)]
    decide

end

/-! ## The settlement -/

section
variable {s : State}

theorem exec_formationSettle_none (hu : s.usual) (h : s.fld R.dlfStat F.dlfStat.LEAD = 0 ∨ s.fabState ∉ [3, 4]) : exec .formationSettle s = .next s := by
  have hcond : (!(s.bit R.dlfStat F.dlfStat.LEAD) || (s.fabState != Dl.fAssign && s.fabState != Dl.fReady)) = true := by
    rcases h with h | h
    · rw [State.bit_eq_false h]
      rfl
    · rw [List.mem_cons, List.mem_singleton, not_or] at h
      rw [Bool.or_eq_true, Bool.and_eq_true, bne_iff_ne, bne_iff_ne]
      exact .inr h
  refine (congrArg State.done (?_ : s.settleFormation = s)).trans (State.done_of_usual hu)
  rw [State.settleFormation]
  exact if_pos hcond

/-- The state of a lead alone before READY goes out. -/
def State.settledAlone (s : State) (n : TopoNode) : State :=
  let s1 := (((s.setFld R.dlfEpoch F.dlfEpoch.EPOCH ((s.fld R.dlfEpoch F.dlfEpoch.EPOCH + 1) % 65536)).setFld R.dlfEpoch F.dlfEpoch.NODES 1).setFld R.dlfStat
    F.dlfStat.NODE_ID n.nodeId).setFld R.dlfStat F.dlfStat.LEAD_ID n.nodeId
  s1.installRoutes (routeNibbles [n] [(n.uid, 0)] n) (portRoles [n] [(n.uid, 0)] n)

/-- A message goes out at every port of the tree. -/
def State.tellTree (s : State) (m : List Byte) : State := (s.treePorts none).foldl (fun u k => u.sendMsg k 255 m) s

theorem State.tellTree_sends (s : State) (m : List Byte) : s.Sends (s.tellTree m) :=
  (State.Sends.refl s).foldl _ _ fun u _ hj => (State.Sends.refl u).sendMsg (State.activePorts_lt (List.mem_of_mem_filter hj)) _ _

/-- What a lead alone makes of its formation: its own ID, its routes, and READY at the ports of the tree. -/
theorem State.settleFormation_alone (hlead : s.fld R.dlfStat F.dlfStat.LEAD = 1) (hstate : s.fabState = 3 ∨ s.fabState = 4) (htopo : s.fab.topo = []) :
    ∃ n m l, n = { s.selfTopo with nodeId := s.selfTopo.firstId } ∧
      s.settleFormation = (State.tellTree { s.settledAlone n with fab := { (s.settledAlone n).fab with members := m } } l).becomeReady.discIfChanged := by
  obtain ⟨me, hme⟩ : ∃ me, me = s.selfTopo := ⟨_, rfl⟩
  have huid : s.uid = me.uid := by rw [hme]; rfl
  have hids : assignIds me.uid [me] = [(me.uid, me.firstId)] := assignIds_one me (by rw [hme]; exact State.fld_lt _ _ _) (by rw [hme]; exact State.fld_lt _ _ _)
  obtain ⟨n, hn⟩ : ∃ n : TopoNode, n = { me with nodeId := me.firstId } := ⟨_, rfl⟩
  have hnuid : n.uid = me.uid := by rw [hn]
  have hcond : ¬(!(s.bit R.dlfStat F.dlfStat.LEAD) || (s.fabState != Dl.fAssign && s.fabState != Dl.fReady)) = true := by
    rw [State.bit_eq_true hlead]
    rcases hstate with h | h <;> rw [h] <;> decide
  have hreach : [me].filter (fun n => (levelOf [(me.uid, 0)] n.uid).isSome) = [me] := by
    rw [List.filter_cons_of_pos (by rw [levelOf_one]; rfl), List.filter_nil]
  have hfind : [(me.uid, me.firstId)].find? (fun e => e.1 == me.uid) = some (me.uid, me.firstId) := List.find?_cons_of_pos (beq_self_eq_true _)
  have hnode : nodeOf [n] me.uid = some n := List.find?_cons_of_pos (by rw [hnuid, beq_self_eq_true])
  have hothers : [n].filter (fun n => n.uid != me.uid) = [] := List.filter_cons_of_neg (by rw [hnuid, bne_self_eq_false]; exact Bool.false_ne_true)
  refine ⟨n, ([n].filter (fun (n : TopoNode) => n.nodeId != 0)).foldl
      (fun m (n : TopoNode) => Table.set (fun _ => (0, 0)) m n.nodeId (n.uid, (levelOf [(me.uid, 0)] n.uid).getD 0)) [],
    msgHead 5 ++ bytesLE 2 ((s.fld R.dlfEpoch F.dlfEpoch.EPOCH + 1) % 65536) ++ bytesLE 1 n.nodeId ++ bytesLE 1 1, by rw [hn, hme], ?_⟩
  rw [State.settleFormation]
  refine (if_neg hcond).trans ?_
  rw [htopo, ← hme, huid]
  dsimp only
  rw [List.length_singleton, levelsGo_one, hreach, hids, List.map_singleton, hfind]
  dsimp only
  rw [← hn, hnode]
  dsimp only
  rw [hothers, List.foldl_nil, List.foldl_nil, List.length_singleton, State.settledAlone, hnuid, State.tellTree]

/-- The registers that the settlement of a lead alone writes. -/
def settleRegs : List Nat := [R.dlfEpoch, R.dlfStat] ++ routeRegs ++ dlCreds

theorem endIgnores_settleRegs : endIgnores settleRegs := by unfold endIgnores; decide

theorem State.settledAlone_regsOnly (s : State) (n : TopoNode) : s.regsOnly (s.settledAlone n) ([R.dlfEpoch, R.dlfStat] ++ routeRegs) := by
  obtain ⟨s1, hs1⟩ : ∃ s1, s1 = (((s.setFld R.dlfEpoch F.dlfEpoch.EPOCH ((s.fld R.dlfEpoch F.dlfEpoch.EPOCH + 1) % 65536)).setFld R.dlfEpoch F.dlfEpoch.NODES 1).setFld
    R.dlfStat F.dlfStat.NODE_ID n.nodeId).setFld R.dlfStat F.dlfStat.LEAD_ID n.nodeId := ⟨_, rfl⟩
  have h1 : s.regsOnly s1 [R.dlfEpoch, R.dlfStat] := by
    rw [hs1]
    exact ((((State.regsOnly.refl s _).setFld _ _ (by simp)).setFld _ _ (by simp)).setFld _ _ (by simp)).setFld _ _ (by simp)
  rw [State.settledAlone, ← hs1]
  exact (h1.mono (List.subset_append_left _ _)).trans ((s1.installRoutes_regsOnly _ _).mono (List.subset_append_right _ _))

theorem dlfStat_not_mem_routeRegs : R.dlfStat ∉ routeRegs := by decide

theorem dlfEpoch_not_mem_routeRegs : R.dlfEpoch ∉ routeRegs := by decide

theorem State.settledAlone_flds (s : State) {n : TopoNode} (hn : n.nodeId < 256) :
    (s.settledAlone n).nodeId = n.nodeId ∧ (s.settledAlone n).fld R.dlfStat F.dlfStat.LEAD_ID = n.nodeId ∧
      (s.settledAlone n).fld R.dlfEpoch F.dlfEpoch.EPOCH = (s.fld R.dlfEpoch F.dlfEpoch.EPOCH + 1) % 65536 ∧
      (s.settledAlone n).fld R.dlfEpoch F.dlfEpoch.NODES = 1 ∧ (s.settledAlone n).fabState = s.fabState := by
  obtain ⟨e, he⟩ : ∃ e, e = (s.fld R.dlfEpoch F.dlfEpoch.EPOCH + 1) % 65536 := ⟨_, rfl⟩
  have hroute : ∀ s1 : State, ∀ f : Fld, (s1.installRoutes (routeNibbles [n] [(n.uid, 0)] n) (portRoles [n] [(n.uid, 0)] n)).fld R.dlfStat f = s1.fld R.dlfStat f ∧
      (s1.installRoutes (routeNibbles [n] [(n.uid, 0)] n) (portRoles [n] [(n.uid, 0)] n)).fld R.dlfEpoch f = s1.fld R.dlfEpoch f := fun s1 f =>
    ⟨(s1.installRoutes_regsOnly _ _).fld dlfStat_not_mem_routeRegs f, (s1.installRoutes_regsOnly _ _).fld dlfEpoch_not_mem_routeRegs f⟩
  rw [State.settledAlone, ← he]
  refine ⟨(hroute _ _).1.trans ?_, (hroute _ _).1.trans ?_, (hroute _ _).2.trans ?_, (hroute _ _).2.trans ?_, (hroute _ _).1.trans ?_⟩
  · rw [State.fld_setFld_apart _ _ _ _ _ (by decide) (by decide) (by decide), State.fld_setFld _ _ _ _ (by decide)]
    exact Nat.mod_eq_of_lt hn
  · rw [State.fld_setFld _ _ _ _ (by decide)]
    exact Nat.mod_eq_of_lt hn
  · rw [State.fld_setFld_ne _ _ _ _ _ _ (by decide), State.fld_setFld_ne _ _ _ _ _ _ (by decide),
      State.fld_setFld_apart _ _ _ _ _ (by decide) (by decide) (by decide), State.fld_setFld _ _ _ _ (by decide), he]
    exact Nat.mod_mod _ _
  · rw [State.fld_setFld_ne _ _ _ _ _ _ (by decide), State.fld_setFld_ne _ _ _ _ _ _ (by decide), State.fld_setFld _ _ _ _ (by decide)]
    rfl
  · rw [State.fld_setFld_apart _ _ _ _ _ (by decide) (by decide) (by decide), State.fld_setFld_apart _ _ _ _ _ (by decide) (by decide) (by decide),
      State.fld_setFld_ne _ _ _ _ _ _ (by decide), State.fld_setFld_ne _ _ _ _ _ _ (by decide)]
    rfl

theorem dlCreds_not_route {d : Nat} (hd : d < 256) : R.dlfRt (d / 8) ∉ dlCreds := fun hm => by
  obtain ⟨j, hj, he⟩ := dlCred_of_mem hm
  simp only [R.dlfRt, R.dlCred] at he
  omega

theorem exec_formationSettle_alone (hu : s.usual) (hlead : s.fld R.dlfStat F.dlfStat.LEAD = 1) (hstate : s.fabState = 3 ∨ s.fabState = 4)
    (htopo : s.fab.topo = []) (hreforms : s.fab.reforms = []) {id : Nat} (hid : id = s.selfTopo.firstId) :
    ∃ t, exec .formationSettle s = .next t ∧ t = { s with regs := t.regs, pulses := t.pulses, fab := t.fab } ∧ t.fabState = 4 ∧ t.nodeId = id ∧
      t.fld R.dlfStat F.dlfStat.LEAD_ID = id ∧ t.fld R.dlfEpoch F.dlfEpoch.EPOCH = (s.fld R.dlfEpoch F.dlfEpoch.EPOCH + 1) % 65536 ∧
      t.fld R.dlfEpoch F.dlfEpoch.NODES = 1 ∧ (∀ d, d < 256 → t.routeTo d = if d = id then 0xE else 0xF) ∧ (s.fabState = 3 → 232 ∈ t.pulses) := by
  obtain ⟨n, m, l, hn, heq⟩ := State.settleFormation_alone hlead hstate htopo
  have hnid : n.nodeId = id := by rw [hn, hid]
  have hrange : 1 ≤ n.nodeId ∧ n.nodeId ≤ 254 := by
    rw [hnid, hid]
    exact TopoNode.firstId_range _
  obtain ⟨hnode, hlid, hepoch, hnodes, hfst⟩ := s.settledAlone_flds (n := n) (by omega)
  have hregs0 := s.settledAlone_regsOnly n
  have hroute0 : ∀ d, d < 256 → (s.settledAlone n).routeTo d = if d = id then 0xE else 0xF := fun d hd => by
    rw [State.settledAlone, State.routeTo_installRoutes _ _ _ (routeNibbles_one_lt n _ (by omega)) hd, routeNibbles_one n _ (by omega) hd, hnid]
  generalize s.settledAlone n = a at *
  obtain ⟨b, hb⟩ : ∃ b : State, b = { a with fab := { a.fab with members := m } } := ⟨_, rfl⟩
  have hsend := b.tellTree_sends l
  rw [← hb] at heq
  generalize b.tellTree l = u at hsend heq
  obtain ⟨adv, hdisc⟩ := u.becomeReady.discIfChanged_sends
  rw [← heq] at hdisc
  have hexec : exec .formationSettle s = State.done s.settleFormation := rfl
  generalize s.settleFormation = v at heq hdisc hexec
  rw [State.becomeReady_eq] at hdisc
  have hrstate := u.readied_state
  have hrbut := u.readied_regsBut
  have hrfst := u.readied_fabState
  have hrlid := u.readied_leadId
  have hrnode := u.readied_nodeId
  have hufst : u.fabState = s.fabState := (hsend.fld _ (by decide)).trans ((State.fld_of_reg (State.reg_of_regs _ _ (by rw [hb]) _) _).trans hfst)
  rw [hufst] at hrstate
  clear heq
  generalize u.readied = r at *
  obtain ⟨z, hz⟩ : ∃ z : State, z = { r with regs := v.regs, fab := v.fab } := ⟨_, rfl⟩
  have hvz : v = { z with work := z.work ++ [Work.fabricReady] } := by
    have h1 := hdisc.only
    generalize v.fab = fv at h1 hz
    generalize v.regs = rv at h1 hz
    rw [h1, hz]
  have hwhole : z = { s with regs := z.regs, pulses := if s.fabState = 4 then s.pulses else addSorted s.pulses 232, fab := z.fab } := by
    have h1 := hrstate
    have h2 := hsend.only
    have h3 := hregs0.1
    generalize v.fab = fv at hz
    generalize v.regs = rv at hz
    generalize r.regs = rr at h1
    generalize u.fab = fu at h2
    generalize u.regs = ru at h2
    generalize a.regs = ra at h3
    rw [hz, h1, h2, hb, h3]
  have hzu : ∀ x, x ∉ dlCreds → z.reg x = r.reg x := fun x hx => (State.reg_of_regs _ _ (by rw [hz]) x).trans
    ((hdisc.reg x hx).trans (State.reg_of_regs _ _ rfl x))
  have hua : ∀ x, x ∉ dlCreds → u.reg x = a.reg x := fun x hx => (hsend.reg x hx).trans (State.reg_of_regs _ _ (by rw [hb]) x)
  have hbut : s.regsBut z settleRegs := fun x hx => by
    rw [settleRegs, List.mem_append, not_or] at hx
    obtain ⟨hx1, hx2⟩ := hx
    have hstat : x ∉ [R.dlfStat] := fun hm => hx1 (by rw [List.mem_singleton.mp hm]; simp)
    exact (hzu x hx2).trans ((hrbut x hstat).trans ((hua x hx2).trans (hregs0.2 x hx1)))
  have hzfab : z.fab = { s.fab with ports := v.fab.ports, advert := adv, members := m } := by
    have h1 : v.fab = { r.fab with advert := adv, ports := v.fab.ports } := (congrArg State.fab hdisc.state :)
    have h2 : r.fab = u.fab := (congrArg State.fab hrstate :)
    have h3 : u.fab = { b.fab with ports := u.fab.ports } := (congrArg State.fab hsend.state :)
    have h4 : b.fab = { a.fab with members := m } := by rw [hb]
    have h5 : a.fab = s.fab := (congrArg State.fab hregs0.1 :)
    have hzv : z.fab = v.fab := by rw [hz]
    rw [hzv]
    generalize v.fab.ports = pv at h1 ⊢
    generalize u.fab.ports = pu at h3
    rw [h1, h2, h3, h4, h5]
  have hepoch0 : R.dlfEpoch ∉ dlCreds ∧ R.dlfEpoch ∉ [R.dlfStat] := by decide
  have hstat0 : R.dlfStat ∉ dlCreds := by decide
  have hfepoch : ∀ f, z.fld R.dlfEpoch f = a.fld R.dlfEpoch f := fun f =>
    State.fld_of_reg ((hzu _ hepoch0.1).trans ((hrbut _ hepoch0.2).trans (hua _ hepoch0.1))) f
  have hroute : ∀ d, d < 256 → z.routeTo d = a.routeTo d := fun d hd => by
    have hx := dlCreds_not_route hd
    have hs : R.dlfRt (d / 8) ∉ [R.dlfStat] := by
      simp only [R.dlfRt, R.dlfStat, List.mem_singleton]
      omega
    rw [State.routeTo, State.routeTo, (hzu _ hx).trans ((hrbut _ hs).trans (hua _ hx))]
  refine ⟨z, (hexec.trans (congrArg State.done hvz)).trans (State.done_withWorkTo ?_ (State.doWork_fabricReady (by rw [hzfab]; exact hreforms)) (State.usual_of hu ?_ hbut ?_)), ?_, ?_, ?_, ?_,
    (hfepoch _).trans hepoch, (hfepoch _).trans hnodes, fun d hd => (hroute d hd).trans (hroute0 d hd), fun h3 => ?_⟩
  · rw [hwhole]
    exact hu.1.1
  · generalize v.fab.ports = pv at hzfab
    rw [hzfab] at hwhole
    generalize z.regs = rz at hwhole
    rw [hwhole]
    exact ⟨rfl, rfl, rfl, rfl, rfl, rfl, rfl⟩
  · exact endIgnores_settleRegs
  · have hp : z.pulses = if s.fabState = 4 then s.pulses else addSorted s.pulses 232 := by rw [hwhole]
    rw [hp]
    exact hwhole
  · exact (State.fld_of_reg (hzu _ hstat0) _).trans hrfst
  · exact (State.fld_of_reg (hzu _ hstat0) _).trans (hrnode.trans ((State.fld_of_reg (hua _ hstat0) _).trans (hnode.trans hnid)))
  · exact (State.fld_of_reg (hzu _ hstat0) _).trans (hrlid.trans ((State.fld_of_reg (hua _ hstat0) _).trans (hlid.trans hnid)))
  · rw [hwhole, h3]
    exact mem_addSorted.mpr (.inr rfl)

end

end Sys2Proof.Machine

/-!
Stitch channels: enable and refusal (R459).
-/
namespace Sys2Proof.Machine

/-- The frame of the stitch channels and of what is held back. -/
def Frame.stitch : Frame :=
  ⟨fun s t => { s with regs := t.regs, eff := t.eff, fab := { s.fab with stitch := t.fab.stitch } }, fun _ => rfl, fun _ _ _ => rfl, fun _ _ _ => rfl,
    fun _ _ _ => rfl, fun _ _ => ⟨rfl, rfl, rfl, rfl, rfl, rfl, rfl⟩⟩

section
variable (s : State) (path : Path) (c : Fin 16) (w : Word)

/-- The cause that an enable with the word `w` is refused for (Table 13-10). -/
def State.stitchFault : Nat :=
  let n := F.stCfg.PLANE.get w
  let lp := s.fld (R.grpCtl (s.fld (R.plCfg n) F.plCfg.GRP)) F.grpCtl.LP
  let node := F.stCfg.NODE.get w
  let x0 := s.fld (R.stGeom c) F.stGeom.X0
  let wd := s.fld (R.stGeom c) F.stGeom.WIDTH
  if 48 ≤ n ∨ s.fld (R.plCfg n) F.plCfg.EN = 0 ∨ s.fld (R.lpCfg lp) F.lpCfg.SRC ≠ 6 then 1
  else if node = 0 ∨ node = 255 ∨ node = s.nodeId then 2
  else if wd = 0 ∨ 65536 < x0 + wd then 3
  else if F.stCfg.ROLE.get w = 1 ∧ s.partBytes (F.stCfg.ABP.get w) < 8 * wd then 4
  else 0

/-- STc_CFG as an enable writes it. -/
abbrev State.stitchAsked : State := s.cfgAsked path (R.stCfg c) Row.stCfg w

theorem stCfg_ne_sysAbpCfg (m : Nat) (hm : m < 16) : R.stCfg c ≠ R.sysAbpCfg m := by
  simp only [R.stCfg, R.sysAbpCfg]
  omega

theorem State.fld_stitchAsked_ne {o : Nat} (ho : o ≠ R.stCfg c) (f : Fld) : (s.stitchAsked path c w).fld o f = s.fld o f :=
  (s.cfgAsked_only path (R.stCfg c) Row.stCfg w).fld (by simpa using ho) f

theorem State.stitchCause_asked : (s.stitchAsked path c w).stitchCause c false = s.stitchFault c w := by
  have hfld : ∀ f : Fld, f.lo + f.width ≤ 32 → 0 < f.lo → Row.stCfg.takesFld f = true → (s.stitchAsked path c w).fld (R.stCfg c) f = f.get w := fun f h1 h2 h3 =>
    s.fld_cfgAsked path (R.stCfg c) Row.stCfg w h1 h2 h3
  have hpart : (s.stitchAsked path c w).partBytes (F.stCfg.ABP.get w) = s.partBytes (F.stCfg.ABP.get w) := by
    have habp : F.stCfg.ABP.get w < 16 := BitVec.isLt _
    rw [State.partBytes, State.partSpan_congr ((s.cfgAsked_only path (R.stCfg c) Row.stCfg w).reg _ (by simpa using (stCfg_ne_sysAbpCfg c _ habp).symm)), State.partBytes]
  have hrole : (s.stitchAsked path c w).bit (R.stCfg c) F.stCfg.ROLE = true ↔ F.stCfg.ROLE.get w = 1 := by
    rw [State.bit_iff_one rfl, hfld _ (by decide) (by decide) (by decide)]
  have hgeom : R.stGeom c ≠ R.stCfg c := by simp only [R.stGeom, R.stCfg]; omega
  have hnode : (s.stitchAsked path c w).nodeId = s.nodeId := s.fld_stitchAsked_ne path c w (by simp only [R.dlfStat, R.stCfg]; omega) _
  have hplane : (F.stCfg.PLANE.get w ≥ 48 || !(s.stitchAsked path c w).bit (R.plCfg (F.stCfg.PLANE.get w)) F.plCfg.EN ||
      (s.stitchAsked path c w).fld (R.lpCfg ((s.stitchAsked path c w).fld (R.grpCtl ((s.stitchAsked path c w).fld (R.plCfg (F.stCfg.PLANE.get w)) F.plCfg.GRP)) F.grpCtl.LP))
        F.lpCfg.SRC != 6) = true ↔ 48 ≤ F.stCfg.PLANE.get w ∨ s.fld (R.plCfg (F.stCfg.PLANE.get w)) F.plCfg.EN = 0 ∨
      s.fld (R.lpCfg (s.fld (R.grpCtl (s.fld (R.plCfg (F.stCfg.PLANE.get w)) F.plCfg.GRP)) F.grpCtl.LP)) F.lpCfg.SRC ≠ 6 := by
    rw [Bool.or_eq_true, Bool.or_eq_true, decide_eq_true_iff, or_assoc]
    refine or_congr_right' fun hn => ?_
    have hpl : R.plCfg (F.stCfg.PLANE.get w) ≠ R.stCfg c := by simp only [R.plCfg, R.stCfg]; omega
    have hgrp : ∀ g, g < 4 → R.grpCtl g ≠ R.stCfg c := fun g hg => by simp only [R.grpCtl, R.stCfg]; omega
    have hlp : ∀ l, l < 8 → R.lpCfg l ≠ R.stCfg c := fun l hl => by simp only [R.lpCfg, R.stCfg]; omega
    have hg : s.fld (R.plCfg (F.stCfg.PLANE.get w)) F.plCfg.GRP < 4 := State.fld_lt _ _ _
    rw [State.bit, s.fld_stitchAsked_ne path c w hpl, s.fld_stitchAsked_ne path c w hpl]
    generalize s.fld (R.plCfg (F.stCfg.PLANE.get w)) F.plCfg.GRP = g at hg ⊢
    have hl : s.fld (R.grpCtl g) F.grpCtl.LP < 8 := State.fld_lt _ _ _
    rw [s.fld_stitchAsked_ne path c w (hgrp g hg)]
    generalize s.fld (R.grpCtl g) F.grpCtl.LP = l at hl ⊢
    rw [s.fld_stitchAsked_ne path c w (hlp l hl), bne_iff_ne, Bool.not_eq_true', bne_eq_false_iff_eq]
  rw [State.stitchCause, State.stitchFault]
  rw [hfld F.stCfg.PLANE (by decide) (by decide) (by decide), hfld F.stCfg.NODE (by decide) (by decide) (by decide),
    hfld F.stCfg.ABP (by decide) (by decide) (by decide), hpart, s.fld_stitchAsked_ne path c w hgeom, s.fld_stitchAsked_ne path c w hgeom, hnode]
  simp only [hplane, hrole, Bool.false_eq_true, false_or]

/-- An enable of a channel that is off. -/
theorem State.stCfgWrite_enable (hen : s.fld (R.stCfg c) F.stCfg.EN = 0) (hacc : s.accessible path (R.stCfg c) = true) :
    s.stCfgWrite path c (F.stCfg.EN.put w 1) =
      if s.stitchFault c w ≠ 0 then
        (((s.stitchAsked path c w).setFld (R.stCfg c) F.stCfg.EN 0).setFld (R.stStat c) F.stStat.CFG_ERR 1).setFld (R.stStat c) F.stStat.CFG_CAUSE (s.stitchFault c w)
      else
        let r := if (s.stitchAsked path c w).bit (R.stCfg c) F.stCfg.ROLE then (s.stitchAsked path c w).claim (.partition (F.stCfg.ABP.get w)) claimantDlf
          else (s.stitchAsked path c w, .ok)
        match r.2 with
        | .ok => (r.1.setReg (R.stLines c) 0).setStitch c {}
        | .invalid => (((r.1.setFld (R.stCfg c) F.stCfg.EN 0).setFld (R.stStat c) F.stStat.CFG_ERR 1).setFld (R.stStat c) F.stStat.CFG_CAUSE 4)
        | .denied => (r.1.setFld (R.stCfg c) F.stCfg.EN 0).errClaim path (R.stCfg c) := by
  have hget : F.stCfg.EN.get (F.stCfg.EN.put w 1) = 1 := by
    rw [Fld.get_put _ _ _ (by decide)]
    rfl
  have habp : (s.stitchAsked path c w).fld (R.stCfg c) F.stCfg.ABP = F.stCfg.ABP.get w :=
    s.fld_cfgAsked path (R.stCfg c) Row.stCfg w (by decide) (by decide) (by decide)
  rw [State.stCfgWrite, State.onWrite_of _ _ _ _ hacc, State.bit_eq_false hen]
  dsimp only
  rw [show s.writeRow path (R.stCfg c) Row.stCfg (F.stCfg.EN.put w 1) false = s.stitchAsked path c w from rfl, habp, s.stitchCause_asked path c w]
  exact (if_pos hget).trans (if_neg Bool.false_ne_true)

theorem stitchRegs_endIgnores {abp : Nat} (h : abp < 16) : endIgnores [R.stCfg c, R.stStat c, R.stLines c, R.sysAbpCfg abp] := endIgnores_of (by
  simp only [List.mem_cons, List.not_mem_nil, or_false, forall_eq_or_imp, forall_eq, R.stCfg, R.stStat, R.stLines, R.sysAbpCfg]
  omega)

theorem endIgnores.mono {l m : List Nat} (h : endIgnores m) (hl : l ⊆ m) : endIgnores l := fun o ho hm => h o ho (hl hm)

theorem State.stitchFault_le : s.stitchFault c w ≤ 4 := by
  rw [State.stitchFault]
  split_ifs <;> decide

section
variable (hu : s.usual) (hacc : s.accessible path (R.stCfg c) = true) (hen : s.fld (R.stCfg c) F.stCfg.EN = 0)
include hu hacc hen

theorem exec_stitchEnable_refused {cause : Nat} (hcause : s.stitchFault c w = cause) (h0 : cause ≠ 0) :
    ∃ t, exec (.stitchEnable path c w) s = .next t ∧ s.sameBut t [R.stCfg c, R.stStat c] ∧
      t.fld (R.stCfg c) F.stCfg.EN = 0 ∧ t.fld (R.stStat c) F.stStat.CFG_ERR = 1 ∧ t.fld (R.stStat c) F.stStat.CFG_CAUSE = cause := by
  have hle := s.stitchFault_le c w
  have hexec : exec (.stitchEnable path c w) s = State.done (s.stCfgWrite path c (F.stCfg.EN.put w 1)) := rfl
  rw [State.stCfgWrite_enable s path c w hen hacc, if_pos (by rw [hcause]; exact h0), hcause] at hexec
  rw [hcause] at hle
  have hne : R.stCfg c ≠ R.stStat c := by simp only [R.stCfg, R.stStat]; omega
  have hbut : s.sameBut ((((s.stitchAsked path c w).setFld (R.stCfg c) F.stCfg.EN 0).setFld (R.stStat c) F.stStat.CFG_ERR 1).setFld (R.stStat c) F.stStat.CFG_CAUSE cause)
      [R.stCfg c, R.stStat c] :=
    ((((s.writeRow_sameBut _ _ _ _).mono (by simp)).setFld _ _ (by simp)).setFld _ _ (by simp)).setFld _ _ (by simp)
  refine ⟨_, hexec.trans (State.done_of_endsAlike hu hbut.endsAlike hbut.regsBut ((stitchRegs_endIgnores c (abp := 0) (by decide)).mono (by simp))), hbut, ?_, ?_, ?_⟩
  · rw [State.fld_setFld_ne _ _ _ _ _ _ hne, State.fld_setFld_ne _ _ _ _ _ _ hne, State.fld_setFld _ _ _ _ (by decide)]
    rfl
  · rw [State.fld_setFld_apart _ _ _ _ _ (by decide) (by decide) (by decide), State.fld_setFld _ _ _ _ (by decide)]
    rfl
  · rw [State.fld_setFld _ _ _ _ (by decide)]
    exact Nat.mod_eq_of_lt (lt_of_le_of_lt hle (by decide))

/-- What an accepted enable leaves, given what the claim of the partition leaves. -/
theorem exec_stitchEnable_takes {offs : List Nat} {who : Nat} {a : State} (h0 : s.stitchFault c w = 0) (hoffs : offs ⊆ [R.sysAbpCfg (F.stCfg.ABP.get w)])
    (hclaim : (if (s.stitchAsked path c w).bit (R.stCfg c) F.stCfg.ROLE then (s.stitchAsked path c w).claim (.partition (F.stCfg.ABP.get w)) claimantDlf
      else (s.stitchAsked path c w, .ok)) = (a, .ok)) (ha : (s.stitchAsked path c w).regsOnly a offs)
    (hwho : a.owner (.partition (F.stCfg.ABP.get w)) = who) :
    ∃ t, exec (.stitchEnable path c w) s = .next t ∧
      t = { s with regs := t.regs, eff := t.eff, fab := { s.fab with stitch := t.fab.stitch } } ∧ t.stitch c = {} ∧ (∀ d, d ≠ c.val → t.stitch d = s.stitch d) ∧
      t.reg (R.stCfg c) = Row.stCfg.written (s.reg (R.stCfg c)) (w ||| 1) ∧ t.reg (R.stLines c) = 0 ∧ t.owner (.partition (F.stCfg.ABP.get w)) = who ∧
      (∀ x, x ∉ [R.stCfg c, R.stLines c] ++ offs → t.reg x = s.reg x) := by
  have habp : F.stCfg.ABP.get w < 16 := BitVec.isLt _
  have hexec : exec (.stitchEnable path c w) s = State.done (s.stCfgWrite path c (F.stCfg.EN.put w 1)) := rfl
  rw [State.stCfgWrite_enable s path c w hen hacc, if_neg (by rw [h0]; decide), hclaim] at hexec
  have hasked : s.Only Frame.stitch (s.stitchAsked path c w) [R.stCfg c] := (s.writeRow_sameBut _ _ _ _).only fun _ _ _ => rfl
  have honly : s.Only Frame.stitch ((a.setReg (R.stLines c) 0).setStitch c {}) ([R.stCfg c, R.stLines c] ++ offs) :=
    (((hasked.mono (by simp)).trans (State.Only.mono (ha.sameBut.only fun _ _ _ => rfl) (List.subset_append_right _ _))).setReg _ (by simp)).upd rfl rfl
  have hfab1 : a.fab = (s.stitchAsked path c w).fab := (congrArg State.fab ha.1 :)
  have hfab : a.fab = s.fab := hfab1.trans (congrArg State.fab (s.writeRow_sameBut path (R.stCfg c) Row.stCfg (enFld.put w 1)).1 :)
  have hcfg : R.stCfg c ∉ offs := fun hm => stCfg_ne_sysAbpCfg c _ habp (List.mem_singleton.mp (hoffs hm))
  have hlines : R.sysAbpCfg (F.stCfg.ABP.get w) ≠ R.stLines c := by simp only [R.stLines, R.sysAbpCfg]; omega
  refine ⟨_, hexec.trans (honly.done hu ((stitchRegs_endIgnores c habp).mono fun x hx => ?_)), honly.state, ?_, fun d hd => ?_, ?_, ?_, ?_, honly.reg⟩
  · obtain hx | hx := List.mem_append.mp hx
    · simp only [List.mem_cons, List.not_mem_nil, or_false] at hx ⊢
      tauto
    · rw [List.mem_singleton.mp (hoffs hx)]
      simp
  · exact Table.get_set_same (fun _ => ({} : Stitch)) a.fab.stitch c.val {}
  · refine (Table.get_set_ne (fun _ => ({} : Stitch)) a.fab.stitch c.val d {} hd).trans ?_
    rw [hfab, State.stitch]
  · refine (State.reg_setReg_ne _ _ _ _ (by simp only [R.stCfg, R.stLines]; omega)).trans ((ha.2 _ hcfg).trans ?_)
    rw [State.stitchAsked, State.cfgAsked, State.reg_writeRow, if_pos rfl, Fld.put_one_eq_or]
  · exact State.reg_setReg_same _ _ _
  · exact (State.owner_congr (State.reg_setReg_ne _ _ _ _ hlines)).trans hwho

/-- A source channel claims nothing. -/
theorem exec_stitchEnable_source (h0 : s.stitchFault c w = 0) (hrole : F.stCfg.ROLE.get w = 0) :
    ∃ t, exec (.stitchEnable path c w) s = .next t ∧
      t = { s with regs := t.regs, eff := t.eff, fab := { s.fab with stitch := t.fab.stitch } } ∧ t.stitch c = {} ∧ (∀ d, d ≠ c.val → t.stitch d = s.stitch d) ∧
      t.reg (R.stCfg c) = Row.stCfg.written (s.reg (R.stCfg c)) (w ||| 1) ∧ t.reg (R.stLines c) = 0 ∧
      t.owner (.partition (F.stCfg.ABP.get w)) = s.owner (.partition (F.stCfg.ABP.get w)) ∧ (∀ x, x ∉ [R.stCfg c, R.stLines c] ++ [] → t.reg x = s.reg x) := by
  have habp : F.stCfg.ABP.get w < 16 := BitVec.isLt _
  refine exec_stitchEnable_takes s path c w hu hacc hen h0 (List.nil_subset _) (if_neg ?_) (.refl _ _)
    (s.partition_cfgAsked path (R.stCfg c) Row.stCfg w _ (stCfg_ne_sysAbpCfg c) habp).1
  rw [State.bit_eq_false ((s.fld_cfgAsked path (R.stCfg c) Row.stCfg w (by decide) (by decide) (by decide)).trans hrole)]
  exact Bool.false_ne_true

/-- A sink channel claims its partition for DLF. -/
theorem exec_stitchEnable_sink (h0 : s.stitchFault c w = 0) (hrole : F.stCfg.ROLE.get w = 1) (hfree : s.owner (.partition (F.stCfg.ABP.get w)) = 0)
    (hvalid : s.partInvalid (F.stCfg.ABP.get w) = false) (hclash : s.partClash (F.stCfg.ABP.get w) = none) :
    ∃ t, exec (.stitchEnable path c w) s = .next t ∧
      t = { s with regs := t.regs, eff := t.eff, fab := { s.fab with stitch := t.fab.stitch } } ∧ t.stitch c = {} ∧ (∀ d, d ≠ c.val → t.stitch d = s.stitch d) ∧
      t.reg (R.stCfg c) = Row.stCfg.written (s.reg (R.stCfg c)) (w ||| 1) ∧ t.reg (R.stLines c) = 0 ∧ t.owner (.partition (F.stCfg.ABP.get w)) = 0x19 ∧
      (∀ x, x ∉ [R.stCfg c, R.stLines c] ++ [R.sysAbpCfg (F.stCfg.ABP.get w)] → t.reg x = s.reg x) := by
  have habp : F.stCfg.ABP.get w < 16 := BitVec.isLt _
  obtain ⟨ho, hi, hcl⟩ := s.partition_cfgAsked path (R.stCfg c) Row.stCfg w _ (stCfg_ne_sysAbpCfg c) habp
  refine exec_stitchEnable_takes s path c w hu hacc hen h0 (List.Subset.refl _)
    ((if_pos (State.bit_eq_true ((s.fld_cfgAsked path (R.stCfg c) Row.stCfg w (by decide) (by decide) (by decide)).trans hrole))).trans
      (State.claim_partition _ _ _ (ho.trans hfree) (hi.trans hvalid) (hcl.trans hclash) (by decide)))
    ((State.regsOnly.refl _ _).setFld _ _ (by simp)) (State.owner_setOwner_partition _ _ _ (by decide))

end

end

end Sys2Proof.Machine

/-!
Stitch channels: the deadline of a sink (R460).
-/
namespace Sys2Proof.Machine

/-! ## Lists of exceptions, and what a delivered line feeds -/

/-- The frame of a line that is listed for an exception. -/
def Frame.listed : Frame :=
  ⟨fun s t => { s with regs := t.regs, shd := t.shd, geo := t.geo }, fun _ => rfl, fun _ _ _ => rfl, fun _ _ _ => rfl, fun _ _ _ => rfl,
    fun _ _ => State.endsAlike_of rfl⟩

/-- The frame of contexts and input windows, which a delivered line feeds. -/
def Frame.fed : Frame :=
  ⟨fun s t => { s with regs := t.regs, streams := t.streams, pack := { s.pack with ins := t.pack.ins }, hqe := { s.hqe with stamp := t.hqe.stamp } },
    fun _ => rfl, fun _ _ _ => rfl, fun _ _ _ => rfl, fun _ _ _ => rfl, fun _ _ => ⟨rfl, rfl, rfl, rfl, rfl, rfl, rfl⟩⟩

/-- The registers that count a line that no record lists. -/
def unlistedRegs : List Nat := R.geoUnrecCnt :: ((List.range 4).map R.trkLateCnt ++ (List.range 4).map R.trkStat)

theorem unlistedRegs_range : ∀ x ∈ unlistedRegs, 0x14000 ≤ x ∧ x < 0x15000 := by decide

section
variable (s : State)

theorem State.listLineAs_only (unit : Option Nat) (g y cause index planes : Nat) : s.Only Frame.listed (s.listLineAs unit g y cause index planes) unlistedRegs := by
  have htrk : ∀ (v : State) (u : Nat), v.fld (R.uCfg u) F.uCfg.TRK < 4 := fun v u => lt_of_lt_of_le (State.fld_lt _ _ _) (by decide)
  delta State.listLineAs
  extract_lets key s1
  have h1 : s.Only Frame.listed s1 unlistedRegs := ⟨rfl, State.regsBut_of_regs _ rfl⟩
  split
  · exact .refl s _
  · split
    · exact h1.count (List.mem_cons_self)
    · refine h1.foldl _ _ fun v u _ => ?_
      have hmem := List.mem_range.mpr (htrk v u)
      refine ((State.Only.refl v _).count ?_).setFld _ _ ?_
      · exact List.mem_cons_of_mem _ (List.mem_append_left _ (List.mem_map.mpr ⟨_, hmem, rfl⟩))
      · exact List.mem_cons_of_mem _ (List.mem_append_right _ (List.mem_map.mpr ⟨_, hmem, rfl⟩))
    · exact h1.foldl _ _ fun v u _ => ⟨rfl, State.regsBut_of_regs _ rfl⟩

theorem State.feedStreams_only (n y : Nat) (vals bad : List Nat) : s.Only Frame.fed (s.feedStreams n y vals bad) [] :=
  (State.Only.refl s _).foldl _ _ fun v sc _ => by
    extract_lets t slots row rows full p
    split
    · exact .refl v _
    · split
      · exact ⟨rfl, State.regsBut_of_regs _ rfl⟩
      · exact ⟨rfl, State.regsBut_of_regs _ rfl⟩

theorem State.feedWindows_only (n : Nat) (l : FeedLine) : s.Only Frame.fed (s.feedWindows n l) [] :=
  (State.Only.refl s _).foldl _ _ fun v i _ => by
    dsimp only
    split
    · exact ⟨rfl, State.regsBut_of_regs _ rfl⟩
    · exact .refl v _

/-- A delivered line feeds contexts and windows alone. -/
theorem State.lineDown_only (n y : Nat) : s.Only Frame.fed (s.lineDown n y) [] := by
  rw [State.lineDown]
  split
  · exact .refl s _
  · exact (s.feedStreams_only _ _ _ _).trans (State.feedWindows_only _ _ _)

end

/-! ## The slice of one sink -/

/-- The frame of a delivered slice. -/
def Frame.slice : Frame :=
  ⟨fun s t => { s with regs := t.regs, pulses := t.pulses, shd := t.shd, geo := t.geo, fab := { s.fab with stitch := t.fab.stitch } },
    fun _ => rfl, fun _ _ _ => rfl, fun _ _ _ => rfl, fun _ _ _ => rfl, fun _ _ => ⟨rfl, rfl, rfl, rfl, rfl, rfl, rfl⟩⟩

/-- A sample of a slice: the one that has come, or the last one at its place. -/
def Stitch.sampleAt (x : Stitch) (tick i : Nat) : Nat :=
  match (Table.get (fun _ => []) x.chunks tick).find? (fun e => e.1 == i) with | some e => e.2 | none => x.prev.getD i 0

section
variable (s : State) (n : Nat) (c : Fin 16) (l : StitchLine)

/-- The registers that a slice may change. -/
def stitchedRegs : List Nat := [R.stLines c, R.stMissCnt c, R.stStat c] ++ unlistedRegs

theorem stitchedRegs_apart : R.stLines c ∉ unlistedRegs ∧ R.stMissCnt c ∉ unlistedRegs ∧ R.stStat c ∉ unlistedRegs ∧ R.stMissCnt c ≠ R.stLines c ∧ R.stMissCnt c ≠ R.stStat c ∧
    R.stLines c ≠ R.stStat c := by
  have hapart : ∀ x, 0x15000 ≤ x → x ∉ unlistedRegs := fun x hx hm => absurd (unlistedRegs_range x hm).2 (by omega)
  simp only [R.stLines, R.stMissCnt, R.stStat]
  exact ⟨hapart _ (by omega), hapart _ (by omega), hapart _ (by omega), by omega, by omega, by omega⟩

theorem endIgnores_stitchedRegs : endIgnores (stitchedRegs c) := endIgnores_of fun o ho => by
  obtain ho | ho := List.mem_append.mp ho
  · simp only [R.stLines, R.stMissCnt, R.stStat, List.mem_cons, List.not_mem_nil, or_false] at ho
    omega
  · have := unlistedRegs_range o ho
    omega

theorem State.takeSlice_spec : ∃ t bad, s.takeSlice n c l = (t, (List.range (s.fld (R.stGeom c) F.stGeom.WIDTH)).map ((s.stitch c).sampleAt l.tick), bad) ∧
    s.Only Frame.slice t (stitchedRegs c) ∧ t.reg (R.stLines c) = s.reg (R.stLines c) + 1 ∧
    (t.stitch c).prev = (List.range (s.fld (R.stGeom c) F.stGeom.WIDTH)).map ((s.stitch c).sampleAt l.tick) ∧
    (s.sliceWhole c l.tick = true → t.reg (R.stMissCnt c) = s.reg (R.stMissCnt c)) ∧
    (s.sliceWhole c l.tick = false → 238 ∈ t.pulses ∧ t.reg (R.stMissCnt c) = satInc (s.reg (R.stMissCnt c)) ∧ t.fld (R.stStat c) F.stStat.MISS = 1) := by
  obtain ⟨hL, hM, hS, hML, hMS, hLS⟩ := stitchedRegs_apart c
  delta State.takeSlice
  extract_lets x w got whole slice bad s1 s2 g s3
  have hs2 : s.Only Frame.slice s2 (stitchedRegs c) := (State.Only.upd (.refl s _) (u := s1) rfl rfl).setReg _ (by simp [stitchedRegs])
  have hlines : s2.reg (R.stLines c) = s.reg (R.stLines c) + 1 := State.reg_setReg_same _ _ _
  have hmiss : s2.reg (R.stMissCnt c) = s.reg (R.stMissCnt c) := State.reg_setReg_ne _ _ _ _ hML
  have hprev : (s2.stitch c).prev = slice :=
    congrArg Stitch.prev (Table.get_set_same (fun _ => ({} : Stitch)) s.fab.stitch c.val _)
  refine ⟨s3, bad, rfl, ?_⟩
  by_cases hw : s.sliceWhole c l.tick = true
  · have hs3 : s3 = s2 := if_pos hw
    rw [hs3]
    exact ⟨hs2, hlines, hprev, fun _ => hmiss, fun h => absurd (hw.symm.trans h) (by decide)⟩
  · have hs3 : s3 = (((s2.listLineAs (some (0x40 + c)) g l.y Cause.sampleMissing noIndex (2 ^ n)).count (R.stMissCnt c)).setFld (R.stStat c) F.stStat.MISS 1).fire 238 :=
      if_neg hw
    have hlist := s2.listLineAs_only (some (0x40 + c)) g l.y Cause.sampleMissing noIndex (2 ^ n)
    rw [hs3]
    clear_value s2
    generalize s2.listLineAs (some (0x40 + c)) g l.y Cause.sampleMissing noIndex (2 ^ n) = v at hlist ⊢
    have hpulses : v.pulses = s2.pulses := (congrArg State.pulses hlist.state :)
    have hst : v.fab.stitch = s2.fab.stitch := (congrArg (fun u => u.fab.stitch) hlist.state :)
    have hkeep : v = { s2 with regs := v.regs, pulses := v.pulses, shd := v.shd, geo := v.geo, fab := { s2.fab with stitch := v.fab.stitch } } := by
      rw [hpulses, hst]
      exact hlist.state
    have hv : s.Only Frame.slice v (stitchedRegs c) := hs2.trans ⟨hkeep, hlist.reg.mono (List.subset_append_right _ _)⟩
    have hout : s.Only Frame.slice (((v.count (R.stMissCnt c)).setFld (R.stStat c) F.stStat.MISS 1).fire 238) (stitchedRegs c) :=
      ((hv.count (by simp [stitchedRegs])).setFld _ _ (by simp [stitchedRegs])).upd rfl rfl
    refine ⟨hout, ?_, ?_, fun h => absurd h hw, fun _ => ⟨mem_addSorted.mpr (.inr rfl), ?_, ?_⟩⟩
    · rw [State.reg_fire, State.reg_setFld_ne _ _ _ _ _ hLS, State.reg_count, if_neg hML.symm, hlist.reg _ hL, hlines]
    · show (Table.get (fun _ => ({} : Stitch)) v.fab.stitch c.val).prev = _
      rw [hst]
      exact hprev
    · rw [State.reg_fire, State.reg_setFld_ne _ _ _ _ _ hMS, State.reg_count, if_pos rfl, hlist.reg _ hM, hmiss]
    · rw [State.fld, State.reg_fire, ← State.fld, State.fld_setFld _ _ _ _ (by decide)]
      rfl

end

/-! ## The deadline -/

section
variable {s : State} {c : Fin 16}

theorem filter_range_fin (c : Fin 16) : (List.range 16).filter (fun d => d == c.val) = [c.val] := by
  revert c
  decide

theorem State.stitchDeadline_off (h : ¬(s.fld (R.stCfg c) F.stCfg.EN = 1 ∧ s.fld (R.stCfg c) F.stCfg.ROLE = 1)) : s.stitchDeadline c = s := by
  rw [State.stitchDeadline]
  refine if_neg ?_
  rw [Bool.and_eq_true, State.bit_iff_one rfl, State.bit_iff_one rfl]
  exact h

theorem State.stitchDeadline_on (h : s.fld (R.stCfg c) F.stCfg.EN = 1 ∧ s.fld (R.stCfg c) F.stCfg.ROLE = 1) :
    s.stitchDeadline c = State.stitchFlush (s.fld (R.stCfg c) F.stCfg.PLANE) ((s.stitchDeliver (s.fld (R.stCfg c) F.stCfg.PLANE)).heldLines
      (s.fld (R.stCfg c) F.stCfg.PLANE)).length (s.stitchDeliver (s.fld (R.stCfg c) F.stCfg.PLANE)) := by
  rw [State.stitchDeadline]
  refine if_pos ?_
  rw [Bool.and_eq_true, State.bit_iff_one rfl, State.bit_iff_one rfl]
  exact h

/-- With no line held, a flush does nothing. -/
theorem State.stitchFlush_empty {t : State} {n : Nat} (h : t.heldLines n = []) : State.stitchFlush n (t.heldLines n).length t = t := by
  rw [h]
  rfl

theorem exec_stitchDeadline_none (hu : s.usual) (h : ¬(s.fld (R.stCfg c) F.stCfg.EN = 1 ∧ s.fld (R.stCfg c) F.stCfg.ROLE = 1) ∨
    s.heldLines (s.fld (R.stCfg c) F.stCfg.PLANE) = []) : exec (.stitchDeadline c) s = .next s := by
  refine (congrArg State.done (?_ : s.stitchDeadline c = s)).trans (State.done_of_usual hu)
  by_cases hon : s.fld (R.stCfg c) F.stCfg.EN = 1 ∧ s.fld (R.stCfg c) F.stCfg.ROLE = 1
  · obtain h | h := h
    · exact absurd hon h
    · have hdeliver : s.stitchDeliver (s.fld (R.stCfg c) F.stCfg.PLANE) = s := by rw [State.stitchDeliver, h]
      rw [State.stitchDeadline_on hon, hdeliver, State.stitchFlush_empty h]
  · exact State.stitchDeadline_off hon

/-- The only sink of its plane. -/
theorem State.stitchOn_one {n : Nat} (hen : s.fld (R.stCfg c) F.stCfg.EN = 1) (hrole : s.fld (R.stCfg c) F.stCfg.ROLE = 1) (hn : s.fld (R.stCfg c) F.stCfg.PLANE = n)
    (halone : ∀ d, d < 16 → d ≠ c.val → ¬((s.fld (R.stCfg d) F.stCfg.EN = 1 ∧ s.fld (R.stCfg d) F.stCfg.ROLE = 1) ∧ s.fld (R.stCfg d) F.stCfg.PLANE = n)) :
    s.stitchOn n 1 = [c.val] := by
  rw [State.stitchOn, ← filter_range_fin c]
  refine List.filter_congr fun d hd => Bool.eq_iff_iff.mpr ?_
  rw [Bool.and_eq_true, Bool.and_eq_true, State.bit_iff_one rfl, beq_iff_eq, beq_iff_eq, beq_iff_eq]
  constructor
  · rintro ⟨⟨h1, h2⟩, h3⟩
    by_contra hdc
    exact halone d (List.mem_range.mp hd) hdc ⟨⟨h1, h3⟩, h2⟩
  · rintro rfl
    exact ⟨⟨hen, hn⟩, hrole⟩

/-- The state of a plane whose only held line has taken the slice of its only sink, before what follows from the delivery. -/
def State.sliced (t : State) (n : Nat) (l : StitchLine) (whole : Bool) (vals bad : List Nat) : State :=
  let s1 := if whole then t.fire 237 else t
  { s1 with
    fab := { s1.fab with lastTick := Table.set (fun _ => 0) s1.fab.lastTick n (l.tick + 1) }
    outLines := Table.set (fun _ => []) s1.outLines n (({ y := l.y, vals := vals, bad := bad, rep := l.rep } :: s1.outOf n).take 64) }

theorem State.stitchDeliver_one {n : Nat} {l : StitchLine} (hheld : s.heldLines n = [l]) (hsinks : s.stitchOn n 1 = [c.val]) {t : State} {slice bad : List Nat}
    (htake : (s.setHeldLines n []).takeSlice n c l = (t, slice, bad)) : ∃ bad' z, z = t.sliced n l (s.sliceWhole c l.tick)
      (overlay l.vals slice (s.fld (R.stGeom c) F.stGeom.X0)) bad' ∧ s.stitchDeliver n = { z with work := z.work ++ [Work.stitched n l.y] } := by
  rw [State.stitchDeliver, hheld]
  dsimp only
  rw [hsinks, List.foldl_cons, List.foldl_nil, htake, List.all_cons, List.all_nil, Bool.and_true]
  exact ⟨_, _, rfl, rfl⟩

theorem State.sliced_facts (t : State) (n : Nat) (l : StitchLine) (whole : Bool) (vals bad : List Nat) :
    t.EndsAlike (t.sliced n l whole vals bad) ∧ (t.sliced n l whole vals bad).regs = t.regs ∧ (t.sliced n l whole vals bad).heldLines n = t.heldLines n ∧
      (∀ c, (t.sliced n l whole vals bad).stitch c = t.stitch c) ∧
      ((t.sliced n l whole vals bad).outOf n).head? = some { y := l.y, vals := vals, bad := bad, rep := l.rep } ∧
      (t.sliced n l whole vals bad).pulses = if whole then addSorted t.pulses 237 else t.pulses := by
  have hout : ∀ (x : Table (List OutLine)) (o : OutLine) (r : List OutLine),
      (Table.get (fun _ => ([] : List OutLine)) (Table.set (fun _ => []) x n ((o :: r).take 64)) n).head? = some o := fun x o r => by
    rw [Table.get_set_same]
    rfl
  cases whole
  · exact ⟨⟨rfl, rfl, rfl, rfl, rfl, rfl, rfl⟩, rfl, rfl, fun _ => rfl, hout _ _ _, rfl⟩
  · exact ⟨⟨rfl, rfl, rfl, rfl, rfl, rfl, rfl⟩, rfl, rfl, fun _ => rfl, hout _ _ _, rfl⟩

theorem exec_stitchDeadline (hu : s.usual) {n : Nat} {l : StitchLine} (hen : s.fld (R.stCfg c) F.stCfg.EN = 1) (hrole : s.fld (R.stCfg c) F.stCfg.ROLE = 1)
    (hn : s.fld (R.stCfg c) F.stCfg.PLANE = n) (hheld : s.heldLines n = [l]) (hsinks : s.stitchOn n 1 = [c.val]) :
    ∃ t o, exec (.stitchDeadline c) s = .next t ∧ t.heldLines n = [] ∧ (t.outOf n).head? = some o ∧ o.y = l.y ∧
      o.vals = l.vals.zipIdx.map (fun e => if s.fld (R.stGeom c) F.stGeom.X0 ≤ e.2 ∧ e.2 < s.fld (R.stGeom c) F.stGeom.X0 + s.fld (R.stGeom c) F.stGeom.WIDTH then
        (s.stitch c).sampleAt l.tick (e.2 - s.fld (R.stGeom c) F.stGeom.X0) else e.1) ∧
      t.reg (R.stLines c) = s.reg (R.stLines c) + 1 ∧
      (t.stitch c).prev = (List.range (s.fld (R.stGeom c) F.stGeom.WIDTH)).map ((s.stitch c).sampleAt l.tick) ∧
      (s.sliceWhole c l.tick = true → 237 ∈ t.pulses ∧ t.reg (R.stMissCnt c) = s.reg (R.stMissCnt c)) ∧
      (s.sliceWhole c l.tick = false → 238 ∈ t.pulses ∧ t.reg (R.stMissCnt c) = satInc (s.reg (R.stMissCnt c)) ∧ t.fld (R.stStat c) F.stStat.MISS = 1) := by
  obtain ⟨a, bad, htake, honly, hlines, hprev, hwhole, hmiss⟩ := (s.setHeldLines n []).takeSlice_spec n c l
  obtain ⟨slice, hslice⟩ : ∃ slice, slice = (List.range (s.fld (R.stGeom c) F.stGeom.WIDTH)).map ((s.stitch c).sampleAt l.tick) := ⟨_, rfl⟩
  have hlen : slice.length = s.fld (R.stGeom c) F.stGeom.WIDTH := by rw [hslice, List.length_map, List.length_range]
  have htake' : (s.setHeldLines n []).takeSlice n c l = (a, slice, bad) := htake.trans (by rw [hslice]; rfl)
  have hprev' : (a.stitch c).prev = slice := hprev.trans (by rw [hslice]; rfl)
  obtain ⟨bad', z, hz, hdeliver⟩ := State.stitchDeliver_one hheld hsinks htake'
  obtain ⟨hends, hregs, hzheld, hzstitch, hzout, hzpulses⟩ := a.sliced_facts n l (s.sliceWhole c l.tick) (overlay l.vals slice (s.fld (R.stGeom c) F.stGeom.X0)) bad'
  rw [← hz] at hends hregs hzheld hzstitch hzout hzpulses
  have hs0 : s.EndsAlike (s.setHeldLines n []) := ⟨rfl, rfl, rfl, rfl, rfl, rfl, rfl⟩
  have haheld : a.heldLines n = [] :=
    (congrArg (fun x => Table.get (fun _ => ([] : List StitchLine)) x n) (congrArg (fun u => u.fab.held) honly.state :)).trans
      (Table.get_set_same (fun _ => ([] : List StitchLine)) s.fab.held n [])
  have hzreg : ∀ x, z.reg x = a.reg x := fun x => State.reg_of_regs _ _ hregs x
  have hzusual : z.usual := State.usual_of hu ((hs0.trans honly.endsAlike).trans hends) (fun x hx => (hzreg x).trans (honly.reg x hx)) (endIgnores_stitchedRegs c)
  have hdown := z.lineDown_only n l.y
  have hfab : (z.lineDown n l.y).fab = z.fab := (congrArg State.fab hdown.state :)
  have hlout : (z.lineDown n l.y).outLines = z.outLines := (congrArg State.outLines hdown.state :)
  have hpulses : (z.lineDown n l.y).pulses = z.pulses := (congrArg State.pulses hdown.state :)
  have hureg : ∀ x, (z.lineDown n l.y).reg x = a.reg x := fun x => (hdown.reg x List.not_mem_nil).trans (hzreg x)
  have huusual : (z.lineDown n l.y).usual := State.usual_of hzusual hdown.endsAlike hdown.reg (fun _ _ hm => absurd hm List.not_mem_nil)
  have hdo : z.doWork (.stitched n l.y) = z.lineDown n l.y := rfl
  have hexec : exec (.stitchDeadline c) s = State.done (s.stitchDeadline c) := rfl
  have hzn : State.heldLines { z with work := z.work ++ [Work.stitched n l.y] } n = [] := hzheld.trans haheld
  rw [State.stitchDeadline_on ⟨hen, hrole⟩, hn, hdeliver, State.stitchFlush_empty hzn, State.done_withWorkTo hzusual.1.1 hdo huusual] at hexec
  refine ⟨z.lineDown n l.y, ⟨l.y, overlay l.vals slice (s.fld (R.stGeom c) F.stGeom.X0), bad', l.rep⟩, hexec, ?_, ?_, rfl, ?_, (hureg _).trans hlines, ?_, fun hw => ⟨?_, (hureg _).trans (hwhole hw)⟩, fun hw => ?_⟩
  · rw [State.heldLines, hfab]
    exact hzn
  · rw [State.outOf, hlout]
    exact hzout
  · refine List.map_congr_left fun e _ => ?_
    by_cases he : s.fld (R.stGeom c) F.stGeom.X0 ≤ e.2 ∧ e.2 < s.fld (R.stGeom c) F.stGeom.X0 + s.fld (R.stGeom c) F.stGeom.WIDTH
    · rw [hlen, if_pos he, if_pos he, hslice, getD_map_range _ (by omega)]
    · rw [hlen, if_neg he, if_neg he]
  · rw [State.stitch, hfab, ← hslice]
    exact (congrArg Stitch.prev (hzstitch c)).trans hprev'
  · rw [hpulses, hzpulses, hw]
    exact mem_addSorted.mpr (.inr rfl)
  · obtain ⟨hev, hcount, hflag⟩ := hmiss hw
    refine ⟨?_, (hureg _).trans hcount, (State.fld_of_reg (hureg _) _).trans hflag⟩
    rw [hpulses, hzpulses, hw]
    exact hev

end

end Sys2Proof.Machine

/-!
O58.
-/
namespace Sys2Proof.Machine

section
variable {s : State} {path : Path} {c : Fin 16} {w : Word}

/-- The cause of a refused enable, in the order of the checks. -/
theorem State.stitchFault_cases :
    let n := F.stCfg.PLANE.get w
    let node := F.stCfg.NODE.get w
    let x0 := s.fld (R.stGeom c) F.stGeom.X0
    let wd := s.fld (R.stGeom c) F.stGeom.WIDTH
    let lp := s.fld (R.grpCtl (s.fld (R.plCfg n) F.plCfg.GRP)) F.grpCtl.LP
    let badPlane := 48 ≤ n ∨ s.fld (R.plCfg n) F.plCfg.EN = 0 ∨ s.fld (R.lpCfg lp) F.lpCfg.SRC ≠ 6
    let badNode := node = 0 ∨ node = 255 ∨ node = s.nodeId
    let badSpan := wd = 0 ∨ 65536 < x0 + wd
    let short := F.stCfg.ROLE.get w = 1 ∧ s.partBytes (F.stCfg.ABP.get w) < 8 * wd
    (badPlane → s.stitchFault c w = 1) ∧ (¬badPlane → badNode → s.stitchFault c w = 2) ∧ (¬badPlane → ¬badNode → badSpan → s.stitchFault c w = 3) ∧
      (¬badPlane → ¬badNode → ¬badSpan → (short → s.stitchFault c w = 4) ∧ (¬short → s.stitchFault c w = 0)) := by
  intro n node x0 wd lp badPlane badNode badSpan short
  exact ⟨fun h => if_pos h, fun h1 h => (if_neg h1).trans (if_pos h), fun h1 h2 h => (if_neg h1).trans ((if_neg h2).trans (if_pos h)), fun h1 h2 h3 =>
    ⟨fun h => (if_neg h1).trans ((if_neg h2).trans ((if_neg h3).trans (if_pos h))), fun h => (if_neg h1).trans ((if_neg h2).trans ((if_neg h3).trans (if_neg h)))⟩⟩

end

/-- Settles O58. -/
theorem formationAndStitching : Obligations.FormationAndStitching := by
  unfold Obligations.FormationAndStitching
  intro s k p hu m path only
  refine ⟨fun hplain hpri => exec_discTimer hu hplain hpri, ?_, ?_, ?_, exec_formationSettle_none hu, ?_, ?_, ?_⟩
  · intro ha h0 hlen hhead h2 h4 huids told own chosen less
    exact exec_disc ha (State.forThisNode_of (.inr h0)) hhead h2 h4 huids (fun _ _ => Iff.rfl) rfl (fun _ => Iff.rfl)
  · intro ha h0 hhead hlen hnpath
    have hdst := State.forThisNode_of (s := s) (k := k) (.inr h0)
    refine ⟨fun hlead => ?_, fun hlead j hparent hjk hplain => exec_topo_passes ha hdst hhead hlen hnpath hlead hparent hjk hplain⟩
    obtain ⟨t, hexec, hstate, haccepted, htopo⟩ := exec_topo_lead ha hdst hhead hnpath hlead rfl
    exact ⟨t, _, hexec, hstate, haccepted, rfl, htopo⟩
  · intro e fresh mine
    refine ⟨fun ha h0 hhead hlen => ?_, fun ha h0 hhead hlen => ?_, ?_⟩
    · have hdst := State.forThisNode_of (s := s) (k := k) (.inr h0)
      exact ⟨fun hstale => exec_assign_stale ha hdst hhead hstale, fun hfresh hmine hzero => exec_assign_mine ha hdst hhead hfresh hmine hzero,
        fun hfresh hother h1 h15 hjk hplain => exec_assign_passes ha hdst hhead hlen hfresh hother h1 h15 hjk hplain⟩
    · have hdst := State.forThisNode_of (s := s) (k := k) (.inr h0)
      exact ⟨fun hstale => exec_route_stale ha hdst hhead hstale, fun hfresh hmine hzero => exec_route_mine ha hdst hhead hfresh hmine hzero⟩
    · intro ha h255 hhead hlen htree hreforms all
      have hd255 : p.dst.toNat = 255 := by rw [h255]; rfl
      have hdst : s.forThisNode k p := ⟨.inr (.inr hd255), fun _ => htree⟩
      exact ⟨fun hno => exec_ready_ignored ha hdst hhead hno, fun ⟨hfresh, hassigned, hrouted, hstate⟩ => exec_ready_joins ha hdst hhead hreforms hfresh hassigned hrouted hstate⟩
  · intro hlead hstate htopo hreforms held asked id
    rw [List.mem_cons, List.mem_singleton] at hstate
    exact exec_formationSettle_alone hu hlead hstate htopo hreforms rfl
  · intro path c w hacc hen n node abp x0 wd lp badPlane badNode badSpan refused takes
    obtain ⟨h1, h2, h3, h4⟩ := State.stitchFault_cases (s := s) (c := c) (w := w)
    have hrefused : ∀ cause, s.stitchFault c w = cause → cause ≠ 0 → refused cause := fun cause hc hc0 => exec_stitchEnable_refused s path c w hu hacc hen hc hc0
    refine ⟨fun hb => hrefused 1 (h1 hb) (by decide), fun hb hn => hrefused 2 (h2 hb hn) (by decide), fun hb hn hs => hrefused 3 (h3 hb hn hs) (by decide),
      fun hb hn hs => ?_⟩
    obtain ⟨hshort, hfits⟩ := h4 hb hn hs
    refine ⟨fun hrole => ?_, fun hrole hfew => hrefused 4 (hshort ⟨hrole, hfew⟩) (by decide), fun hrole hmany hfree hvalid hclash => ?_⟩
    · exact exec_stitchEnable_source s path c w hu hacc hen (hfits fun h => absurd (hrole.symm.trans h.1) (by decide)) hrole
    · exact exec_stitchEnable_sink s path c w hu hacc hen (hfits fun h => absurd h.2 (not_lt.mpr hmany)) hrole hfree hvalid hclash
  · intro c cfg n sink
    refine ⟨exec_stitchDeadline_none hu, ?_⟩
    intro l hsink hheld halone x0 wd got whole sample
    exact exec_stitchDeadline hu hsink.1 hsink.2 rfl hheld (State.stitchOn_one hsink.1 hsink.2 rfl halone)

end Sys2Proof.Machine

/-!
Enable, refusal and disable of the windows (R333, R336-R339).
-/
namespace Sys2Proof.Machine

/-! ## The causes depend on the registers alone -/

theorem State.iwCause_withEff (a : State) (e : Table Word) (i : Nat) : State.iwCause { a with eff := e } i = a.iwCause i := rfl

theorem State.owCause_withEff (a : State) (e : Table Word) (j : Nat) : State.owCause { a with eff := e } j = a.owCause j := rfl

/-- A write of an idle block's register is a write of the register and of what is held back. -/
theorem State.cfgAsked_state (s : State) (path : Path) (off : Nat) (row : RegRow) (w : Word) :
    s.cfgAsked path off row w = { s.setReg off (row.written (s.reg off) (enFld.put w 1)) with eff := (s.cfgAsked path off row w).eff } := by
  simp only [State.cfgAsked, State.writeRow, Bool.false_and, Bool.false_eq_true, if_false]
  simp only [RegRow.written, RegRow.takes]

theorem State.iwCause_cfgAsked (s : State) (path : Path) (off : Nat) (row : RegRow) (w : Word) (i : Nat) :
    (s.cfgAsked path off row w).iwCause i = (s.setReg off (row.written (s.reg off) (enFld.put w 1))).iwCause i := by
  rw [State.cfgAsked_state]
  exact State.iwCause_withEff _ _ _

theorem State.owCause_cfgAsked (s : State) (path : Path) (off : Nat) (row : RegRow) (w : Word) (j : Nat) :
    (s.cfgAsked path off row w).owCause j = (s.setReg off (row.written (s.reg off) (enFld.put w 1))).owCause j := by
  rw [State.cfgAsked_state]
  exact State.owCause_withEff _ _ _

theorem State.ringCause_le (s : State) (out : Bool) (me team base bytes : Nat) (c3 : Bool) : s.ringCause out me team base bytes c3 ≤ 4 := by
  rw [State.ringCause]
  split_ifs <;> decide

/-! ## The frames of the windows -/

/-- The frame of the input windows and of what is held back. -/
def Frame.insEff : Frame :=
  ⟨fun s t => { s with regs := t.regs, eff := t.eff, pack := { s.pack with ins := t.pack.ins } }, fun _ => rfl, fun _ _ _ => rfl, fun _ _ _ => rfl, fun _ _ _ => rfl,
    fun _ _ => ⟨rfl, rfl, rfl, rfl, rfl, rfl, rfl⟩⟩

/-- The frame of the output windows and of what is held back. -/
def Frame.outsEff : Frame :=
  ⟨fun s t => { s with regs := t.regs, eff := t.eff, pack := { s.pack with outs := t.pack.outs } }, fun _ => rfl, fun _ _ _ => rfl, fun _ _ _ => rfl, fun _ _ _ => rfl,
    fun _ _ => ⟨rfl, rfl, rfl, rfl, rfl, rfl, rfl⟩⟩

theorem endIgnores_window {l : List Nat} (h : ∀ o ∈ l, 0x24000 ≤ o ∧ o < 0x26000) : endIgnores l := endIgnores_of fun o ho => by
  have := h o ho
  omega

section
variable {s : State} {path : Path} {w : Word}

/-! ## Refusals -/

/-- A refusal: its cause, and EN as it was. -/
def State.winRefused (s : State) (cfg stat cause en : Nat) : State := (s.winErr stat cause).setFld cfg enFld en

theorem State.winRefused_sameBut (s : State) (cfg stat cause en : Nat) : s.sameBut (s.winRefused cfg stat cause en) [cfg, stat] :=
  (((State.sameBut_refl s _).setFld _ _ (by simp)).setFld _ _ (by simp)).setFld _ _ (by simp)

theorem State.winRefused_shows (s : State) {cfg stat : Nat} (hne : cfg ≠ stat) {cause : Nat} (hc : cause ≤ 5) {en : Nat} (hen : en ≤ 1) :
    (s.winRefused cfg stat cause en).fld cfg enFld = en ∧ (s.winRefused cfg stat cause en).fld stat F.iwStat.CFG_ERR = 1 ∧
      (s.winRefused cfg stat cause en).fld stat F.iwStat.CFG_CAUSE = cause := by
  refine ⟨?_, ?_, ?_⟩
  · rw [State.winRefused, State.fld_setFld _ _ _ _ (by decide)]
    exact Nat.mod_eq_of_lt (lt_of_le_of_lt hen (by decide))
  · rw [State.winRefused, State.fld_setFld_ne _ _ _ _ _ _ hne.symm, State.winErr, State.fld_setFld_apart _ _ _ _ _ (by decide) (by decide) (by decide),
      State.fld_setFld _ _ _ _ (by decide)]
    rfl
  · rw [State.winRefused, State.fld_setFld_ne _ _ _ _ _ _ hne.symm, State.winErr, State.fld_setFld _ _ _ _ (by decide)]
    exact Nat.mod_eq_of_lt (lt_of_le_of_lt hc (by decide))

/-! ## Input windows -/

section
variable {i : Fin 32}

/-- The state with the input window empty. -/
def State.iwFresh (s : State) (i : Nat) : State := (((s.setInWin i {}).setReg (R.iwWr i) 0).setReg (R.iwRd i) 0).setFld (R.iwStat i) F.iwStat.TAKEN 0

theorem State.iwCfgWrite_enable (hoff : s.iwOn i = false) :
    s.iwCfgWrite path i (F.iwCfg.EN.put w 1) =
      if (s.setReg (R.iwCfg i) (Row.iwCfg.written (s.reg (R.iwCfg i)) (F.iwCfg.EN.put w 1))).iwCause i ≠ 0 then
        (s.cfgAsked path (R.iwCfg i) Row.iwCfg w).winRefused (R.iwCfg i) (R.iwStat i)
          ((s.setReg (R.iwCfg i) (Row.iwCfg.written (s.reg (R.iwCfg i)) (F.iwCfg.EN.put w 1))).iwCause i) 0
      else (s.cfgAsked path (R.iwCfg i) Row.iwCfg w).iwFresh i := by
  rw [show F.iwCfg.EN = enFld from rfl, ← s.iwCause_cfgAsked path (R.iwCfg i) Row.iwCfg w, State.iwCfgWrite, hoff]
  dsimp only
  rw [(enFld_put w).1]
  rfl

/-- A write of EN = 0 that keeps the other fields. -/
theorem State.iwCfgWrite_disable (hon : s.iwOn i = true) (hkeep : w &&& 0x3FFE = s.reg (R.iwCfg i) &&& 0x3FFE) :
    s.iwCfgWrite path i (F.iwCfg.EN.put w 0) =
      if !(s.paired i).isEmpty then (s.cfgCleared path (R.iwCfg i) Row.iwCfg w true).winRefused (R.iwCfg i) (R.iwStat i) 5 1
      else ((s.cfgCleared path (R.iwCfg i) Row.iwCfg w true).setInWin i {}).setFld (R.iwStat i) F.iwStat.TAKEN 0 := by
  rw [show F.iwCfg.EN = enFld from rfl, State.iwCfgWrite, hon, s.writeRow_cleared path (R.iwCfg i) Row.iwCfg w true hkeep (by decide) (by decide)]
  dsimp only
  rw [(enFld_put w).2, Bool.true_and]
  rfl

theorem endIgnores_iwCfg (i : Fin 32) : endIgnores [R.iwCfg i, R.iwStat i] := endIgnores_window (by
  simp only [List.mem_cons, List.not_mem_nil, or_false, forall_eq_or_imp, forall_eq, R.iwCfg, R.iwStat]
  omega)

section
variable (hu : s.usual) (hacc : s.accessible path (R.iwCfg i) = true)
include hu hacc

section
variable (hoff : s.iwOn i = false)
include hoff

theorem exec_iwEnable_accepted (hc : (s.setReg (R.iwCfg i) (Row.iwCfg.written (s.reg (R.iwCfg i)) (F.iwCfg.EN.put w 1))).iwCause i = 0) :
    ∃ t, exec (.iwEnable path i w) s = .next t ∧ t = { s with regs := t.regs, eff := t.eff, pack := { s.pack with ins := t.pack.ins } } ∧ t.inWin i = {} ∧
      (∀ k, k ≠ i.val → t.inWin k = s.inWin k) ∧ t.iwOn i = true ∧ t.fld (R.iwCfg i) F.iwCfg.PLANE = F.iwCfg.PLANE.get w ∧
      t.reg (R.iwWr i) = 0 ∧ t.reg (R.iwRd i) = 0 ∧ (∀ off, off ∉ [R.iwCfg i, R.iwWr i, R.iwRd i, R.iwStat i] → t.reg off = s.reg off) := by
  have hexec : exec (.iwEnable path i w) s = State.done ((s.cfgAsked path (R.iwCfg i) Row.iwCfg w).iwFresh i) :=
    congrArg State.done ((State.onWrite_of _ _ _ _ hacc).trans ((State.iwCfgWrite_enable hoff).trans (if_neg (not_not.mpr hc))))
  obtain ⟨a, ha⟩ : ∃ a, a = s.cfgAsked path (R.iwCfg i) Row.iwCfg w := ⟨_, rfl⟩
  have hsame : s.sameBut a [R.iwCfg i] := ha ▸ s.writeRow_sameBut _ _ _ _
  have hen : a.fld (R.iwCfg i) F.iwCfg.EN = 1 := ha ▸ s.fld_cfgAsked_en path (R.iwCfg i) Row.iwCfg w (by decide)
  have hplane : a.fld (R.iwCfg i) F.iwCfg.PLANE = F.iwCfg.PLANE.get w := ha ▸ s.fld_cfgAsked path (R.iwCfg i) Row.iwCfg w (by decide) (by decide) (by decide)
  rw [← ha] at hexec
  have hwin : a.pack = s.pack := by rw [hsame.1]
  have honly : s.Only Frame.insEff (a.iwFresh i) [R.iwCfg i, R.iwWr i, R.iwRd i, R.iwStat i] :=
    ((((hsame.mono (by simp)).only fun _ _ _ => rfl).upd (u := a.setInWin i {}) rfl rfl).setReg _ (by simp)).setReg _ (by simp) |>.setFld _ _ (by simp)
  have hcfg : ∀ f, (a.iwFresh i).fld (R.iwCfg i) f = a.fld (R.iwCfg i) f := fun f => by
    rw [State.iwFresh, State.fld_setFld_ne _ _ _ _ _ _ (by simp only [R.iwCfg, R.iwStat]; omega), State.fld_setReg_ne _ _ _ _ _ (by simp only [R.iwCfg, R.iwRd]; omega),
      State.fld_setReg_ne _ _ _ _ _ (by simp only [R.iwCfg, R.iwWr]; omega)]
    rfl
  refine ⟨_, hexec.trans (honly.done hu (endIgnores_window ?_)), honly.state, ?_, fun k hk => ?_, ?_, (hcfg _).trans hplane, ?_, ?_, honly.reg⟩
  · simp only [List.mem_cons, List.not_mem_nil, or_false, forall_eq_or_imp, forall_eq, R.iwCfg, R.iwWr, R.iwRd, R.iwStat]
    omega
  · exact Table.get_set_same (fun _ => ({} : InWin)) a.pack.ins i.val {}
  · refine (Table.get_set_ne (fun _ => ({} : InWin)) a.pack.ins i.val k {} hk).trans ?_
    rw [hwin, State.inWin]
  · exact State.bit_eq_true ((hcfg _).trans hen)
  · rw [State.iwFresh, State.reg_setFld_ne _ _ _ _ _ (by simp only [R.iwWr, R.iwStat]; omega), State.reg_setReg_ne _ _ _ _ (by simp only [R.iwWr, R.iwRd]; omega),
      State.reg_setReg_same]
  · rw [State.iwFresh, State.reg_setFld_ne _ _ _ _ _ (by simp only [R.iwRd, R.iwStat]; omega), State.reg_setReg_same]

theorem exec_iwEnable_refused {cause : Nat} (hcause : (s.setReg (R.iwCfg i) (Row.iwCfg.written (s.reg (R.iwCfg i)) (F.iwCfg.EN.put w 1))).iwCause i = cause)
    (hc : cause ≠ 0) :
    ∃ t, exec (.iwEnable path i w) s = .next t ∧ s.sameBut t [R.iwCfg i, R.iwStat i] ∧ t.iwOn i = false ∧
      t.fld (R.iwStat i) F.iwStat.CFG_ERR = 1 ∧ t.fld (R.iwStat i) F.iwStat.CFG_CAUSE = cause := by
  have hexec : exec (.iwEnable path i w) s = State.done ((s.cfgAsked path (R.iwCfg i) Row.iwCfg w).winRefused (R.iwCfg i) (R.iwStat i) cause 0) :=
    congrArg State.done ((State.onWrite_of _ _ _ _ hacc).trans ((State.iwCfgWrite_enable hoff).trans (by rw [hcause]; exact if_pos hc)))
  have hsame : s.sameBut _ [R.iwCfg i, R.iwStat i] :=
    (State.sameBut.mono (s.writeRow_sameBut path (R.iwCfg i) Row.iwCfg (enFld.put w 1)) (by simp)).trans (State.winRefused_sameBut _ (R.iwCfg i) (R.iwStat i) cause 0)
  have hle : cause ≤ 5 := hcause ▸ (State.ringCause_le _ _ _ _ _ _ _).trans (by decide)
  obtain ⟨h0, herr, hcs⟩ := (s.cfgAsked path (R.iwCfg i) Row.iwCfg w).winRefused_shows (cfg := R.iwCfg i) (stat := R.iwStat i)
    (by simp only [R.iwCfg, R.iwStat]; omega) hle (Nat.zero_le 1)
  exact ⟨_, hexec.trans (State.done_of_endsAlike hu hsame.endsAlike hsame.regsBut (endIgnores_iwCfg i)), hsame, State.bit_eq_false h0, herr, hcs⟩

end

section
variable (hon : s.iwOn i = true) (hkeep : w &&& 0x3FFE = s.reg (R.iwCfg i) &&& 0x3FFE)
include hon hkeep

theorem exec_iwDisable_free (hpaired : s.paired i = []) :
    ∃ t, exec (.iwDisable path i w) s = .next t ∧ t = { s with regs := t.regs, eff := t.eff, pack := { s.pack with ins := t.pack.ins } } ∧ t.inWin i = {} ∧
      (∀ k, k ≠ i.val → t.inWin k = s.inWin k) ∧ t.iwOn i = false ∧ (∀ off, off ∉ [R.iwCfg i, R.iwStat i] → t.reg off = s.reg off) := by
  obtain ⟨a, ha⟩ : ∃ a, a = s.cfgCleared path (R.iwCfg i) Row.iwCfg w true := ⟨_, rfl⟩
  have hexec : exec (.iwDisable path i w) s = State.done ((a.setInWin i {}).setFld (R.iwStat i) F.iwStat.TAKEN 0) := by
    refine congrArg State.done ((State.onWrite_of _ _ _ _ hacc).trans ((State.iwCfgWrite_disable hon hkeep).trans ?_))
    rw [hpaired, ha]
    rfl
  have hsame : s.Only Frame.insEff a [R.iwCfg i] := ha ▸ ((s.writeKept_sameBut path (R.iwCfg i) Row.iwCfg (enFld.put w 0) true).only fun _ _ _ => rfl)
  have hen : a.fld (R.iwCfg i) F.iwCfg.EN = 0 := ha ▸ s.fld_cfgCleared_en path (R.iwCfg i) Row.iwCfg w true (by decide) (by decide)
  have hins : a.pack.ins = s.pack.ins := by
    rw [ha, State.cfgCleared, (s.writeKept_sameBut path (R.iwCfg i) Row.iwCfg (enFld.put w 0) true).1]
  have honly : s.Only Frame.insEff ((a.setInWin i {}).setFld (R.iwStat i) F.iwStat.TAKEN 0) [R.iwCfg i, R.iwStat i] :=
    ((hsame.mono (by simp)).upd (u := a.setInWin i {}) rfl rfl).setFld _ _ (by simp)
  refine ⟨_, hexec.trans (honly.done hu (endIgnores_iwCfg i)), honly.state, ?_, fun k hk => ?_, ?_, honly.reg⟩
  · exact Table.get_set_same (fun _ => ({} : InWin)) a.pack.ins i.val {}
  · refine (Table.get_set_ne (fun _ => ({} : InWin)) a.pack.ins i.val k {} hk).trans ?_
    rw [hins, State.inWin]
  · refine State.bit_eq_false ((State.fld_setFld_ne _ _ _ _ _ _ (by simp only [R.iwCfg, R.iwStat]; omega)).trans hen)

theorem exec_iwDisable_paired (hpaired : s.paired i ≠ []) :
    ∃ t, exec (.iwDisable path i w) s = .next t ∧ s.sameBut t [R.iwCfg i, R.iwStat i] ∧ t.iwOn i = true ∧
      t.fld (R.iwStat i) F.iwStat.CFG_ERR = 1 ∧ t.fld (R.iwStat i) F.iwStat.CFG_CAUSE = 5 := by
  have hexec : exec (.iwDisable path i w) s = State.done ((s.cfgCleared path (R.iwCfg i) Row.iwCfg w true).winRefused (R.iwCfg i) (R.iwStat i) 5 1) := by
    refine congrArg State.done ((State.onWrite_of _ _ _ _ hacc).trans ((State.iwCfgWrite_disable hon hkeep).trans (if_pos ?_)))
    rw [Bool.not_eq_true', List.isEmpty_eq_false_iff]
    exact hpaired
  have hsame : s.sameBut _ [R.iwCfg i, R.iwStat i] :=
    (State.sameBut.mono (s.writeKept_sameBut path (R.iwCfg i) Row.iwCfg (enFld.put w 0) true) (by simp)).trans (State.winRefused_sameBut _ (R.iwCfg i) (R.iwStat i) 5 1)
  obtain ⟨h1, herr, hcs⟩ := (s.cfgCleared path (R.iwCfg i) Row.iwCfg w true).winRefused_shows (cfg := R.iwCfg i) (stat := R.iwStat i)
    (by simp only [R.iwCfg, R.iwStat]; omega) (le_refl 5) (le_refl 1)
  exact ⟨_, hexec.trans (State.done_of_endsAlike hu hsame.endsAlike hsame.regsBut (endIgnores_iwCfg i)), hsame, State.bit_eq_true h1, herr, hcs⟩

end

end

end

/-! ## Output windows -/

section
variable {j : Fin 32}

theorem endIgnores_owCfg (j : Fin 32) : endIgnores [R.owCfg j, R.owStat j, R.owDlv j] := endIgnores_window (by
  simp only [List.mem_cons, List.not_mem_nil, or_false, forall_eq_or_imp, forall_eq, R.owCfg, R.owStat, R.owDlv]
  omega)

theorem State.owCfgWrite_enable (hoff : s.owOn j = false) :
    s.owCfgWrite path j (F.owCfg.EN.put w 1) =
      if (s.setReg (R.owCfg j) (Row.owCfg.written (s.reg (R.owCfg j)) (F.owCfg.EN.put w 1))).owCause j ≠ 0 then
        (s.cfgAsked path (R.owCfg j) Row.owCfg w).winRefused (R.owCfg j) (R.owStat j)
          ((s.setReg (R.owCfg j) (Row.owCfg.written (s.reg (R.owCfg j)) (F.owCfg.EN.put w 1))).owCause j) 0
      else ((s.cfgAsked path (R.owCfg j) Row.owCfg w).setOutWin j {}).setReg (R.owDlv j) 0 := by
  rw [show F.owCfg.EN = enFld from rfl, ← s.owCause_cfgAsked path (R.owCfg j) Row.owCfg w, State.owCfgWrite, hoff]
  dsimp only
  rw [(enFld_put w).1]
  rfl

variable (hu : s.usual) (hacc : s.accessible path (R.owCfg j) = true) (hoff : s.owOn j = false)
include hu hacc hoff

theorem exec_owEnable_accepted (hc : (s.setReg (R.owCfg j) (Row.owCfg.written (s.reg (R.owCfg j)) (F.owCfg.EN.put w 1))).owCause j = 0) :
    ∃ t, exec (.owEnable path j w) s = .next t ∧ t = { s with regs := t.regs, eff := t.eff, pack := { s.pack with outs := t.pack.outs } } ∧ t.outWin j = {} ∧
      (∀ k, k ≠ j.val → t.outWin k = s.outWin k) ∧ t.owOn j = true ∧ t.reg (R.owDlv j) = 0 ∧ (∀ off, off ∉ [R.owCfg j, R.owDlv j] → t.reg off = s.reg off) := by
  obtain ⟨a, ha⟩ : ∃ a, a = s.cfgAsked path (R.owCfg j) Row.owCfg w := ⟨_, rfl⟩
  have hexec : exec (.owEnable path j w) s = State.done ((a.setOutWin j {}).setReg (R.owDlv j) 0) :=
    congrArg State.done ((State.onWrite_of _ _ _ _ hacc).trans ((State.owCfgWrite_enable hoff).trans (by rw [ha]; exact if_neg (not_not.mpr hc))))
  have hsame : s.sameBut a [R.owCfg j] := ha ▸ s.writeRow_sameBut _ _ _ _
  have hen : a.fld (R.owCfg j) F.owCfg.EN = 1 := ha ▸ s.fld_cfgAsked_en path (R.owCfg j) Row.owCfg w (by decide)
  have hwin : a.pack = s.pack := by rw [hsame.1]
  have honly : s.Only Frame.outsEff ((a.setOutWin j {}).setReg (R.owDlv j) 0) [R.owCfg j, R.owDlv j] :=
    (((hsame.mono (by simp)).only fun _ _ _ => rfl).upd (u := a.setOutWin j {}) rfl rfl).setReg _ (by simp)
  refine ⟨_, hexec.trans (honly.done hu ((endIgnores_owCfg j).mono (by simp))), honly.state, ?_, fun k hk => ?_, ?_, State.reg_setReg_same _ _ _, honly.reg⟩
  · exact Table.get_set_same (fun _ => ({} : OutWin)) a.pack.outs j.val {}
  · refine (Table.get_set_ne (fun _ => ({} : OutWin)) a.pack.outs j.val k {} hk).trans ?_
    rw [hwin, State.outWin]
  · exact State.bit_eq_true ((State.fld_setReg_ne _ _ _ _ _ (by simp only [R.owCfg, R.owDlv]; omega)).trans hen)

theorem exec_owEnable_refused {cause : Nat} (hcause : (s.setReg (R.owCfg j) (Row.owCfg.written (s.reg (R.owCfg j)) (F.owCfg.EN.put w 1))).owCause j = cause)
    (hc : cause ≠ 0) :
    ∃ t, exec (.owEnable path j w) s = .next t ∧ s.sameBut t [R.owCfg j, R.owStat j] ∧ t.owOn j = false ∧
      t.fld (R.owStat j) F.owStat.CFG_ERR = 1 ∧ t.fld (R.owStat j) F.owStat.CFG_CAUSE = cause := by
  have hexec : exec (.owEnable path j w) s = State.done ((s.cfgAsked path (R.owCfg j) Row.owCfg w).winRefused (R.owCfg j) (R.owStat j) cause 0) :=
    congrArg State.done ((State.onWrite_of _ _ _ _ hacc).trans ((State.owCfgWrite_enable hoff).trans (by rw [hcause]; exact if_pos hc)))
  have hsame : s.sameBut _ [R.owCfg j, R.owStat j] :=
    (State.sameBut.mono (s.writeRow_sameBut path (R.owCfg j) Row.owCfg (enFld.put w 1)) (by simp)).trans (State.winRefused_sameBut _ (R.owCfg j) (R.owStat j) cause 0)
  have hle : cause ≤ 5 := hcause ▸ (State.ringCause_le _ _ _ _ _ _ _).trans (by decide)
  obtain ⟨h0, herr, hcs⟩ := (s.cfgAsked path (R.owCfg j) Row.owCfg w).winRefused_shows (cfg := R.owCfg j) (stat := R.owStat j)
    (by simp only [R.owCfg, R.owStat]; omega) hle (Nat.zero_le 1)
  exact ⟨_, hexec.trans (State.done_of_endsAlike hu hsame.endsAlike hsame.regsBut ((endIgnores_owCfg j).mono (by simp))), hsame, State.bit_eq_false h0, herr, hcs⟩

end

end

end Sys2Proof.Machine

/-!
A delivered line is written into an input window, or dropped (R333, R334).
-/
namespace Sys2Proof.Machine

/-! ## Parts of what is written -/

/-- A part of the bytes written. -/
theorem State.bytes_setBytes_part (s : State) (a : Nat) (l : List Byte) {o n : Nat} (h : o + n ≤ l.length) : (s.setBytes a l).bytes (a + o) n = (l.drop o).take n := by
  rw [State.bytes]
  refine List.ext_getElem (by rw [List.length_map, List.length_range, List.length_take, List.length_drop]; omega) fun i h1 h2 => ?_
  rw [List.length_map, List.length_range] at h1
  rw [List.getElem_map, List.getElem_range, State.byte_setBytes, if_pos (by omega), List.getElem_take, List.getElem_drop, List.getD_eq_getElem?_getD,
    show a + o + i - a = o + i by omega, List.getElem?_eq_getElem (by omega)]
  rfl

/-- The bytes of a line in a window's ring: its header and its samples (Table 10-6). -/
def lineBytes (hdr : List Byte) (width : Nat) (val : Nat → Nat) : List Byte := hdr ++ (List.range width).flatMap (fun p => bytesLE 2 (val p))

section
variable {hdr : List Byte} (hhdr : hdr.length = 16) {width : Nat} {val : Nat → Nat}
include hhdr

theorem length_lineBytes : (lineBytes hdr width val).length = 16 + 2 * width := by
  rw [lineBytes, List.length_append, hhdr, List.length_flatMap, List.map_congr_left fun p _ => bytesLE_length 2 (val p), List.map_const', List.sum_replicate,
    List.length_range, smul_eq_mul, Nat.mul_comm]

theorem bytes_lineBytes (s : State) (a : Nat) : (s.setBytes a (lineBytes hdr width val)).bytes a 16 = hdr ∧
    ∀ p, p < width → (s.setBytes a (lineBytes hdr width val)).bytes (a + 16 + 2 * p) 2 = bytesLE 2 (val p) := by
  have hlen := length_lineBytes hhdr (width := width) (val := val)
  refine ⟨?_, fun p hp => ?_⟩
  · refine (s.bytes_setBytes_part a (lineBytes hdr width val) (o := 0) (n := 16) (by omega)).trans ?_
    rw [List.drop_zero, lineBytes, List.take_left' hhdr]
  · obtain ⟨rest, hrest⟩ := drop_flatMap_range (e := fun p => bytesLE 2 (val p)) (fun p => bytesLE_length 2 (val p)) hp
    rw [Nat.add_assoc, s.bytes_setBytes_part a (lineBytes hdr width val) (o := 16 + 2 * p) (n := 2) (by omega), ← List.drop_drop, lineBytes, List.drop_left' hhdr, hrest,
      List.take_left' (bytesLE_length 2 _)]

end

/-! ## Output windows paired with an input window -/

theorem State.paired_congr {s t : State} (h : ∀ j, j < 32 → t.reg (R.owCfg j) = s.reg (R.owCfg j)) (i : Nat) : t.paired i = s.paired i :=
  List.filter_congr fun j hj => by
    have hreg := h j (List.mem_range.mp hj)
    have hfld : ∀ f, t.fld (R.owCfg j) f = s.fld (R.owCfg j) f := fun f => State.fld_of_reg hreg f
    rw [State.owOn, State.owMsg, State.owSrc, State.bit, State.bit, hfld, hfld, hfld]
    rfl

/-- Where no output window is paired, nothing is owed. -/
theorem State.owOwe_unpaired {s : State} {i : Nat} (h : s.paired i = []) (idx : Nat) (src : FeedLine) (st : OutState) : s.owOwe i idx src st = s := by
  rw [State.owOwe, h]
  rfl

/-! ## The write -/

section
variable {s : State} {i : Fin 32} {l : FeedLine} {rest : List FeedLine}

theorem exec_iwLineWrite_none (hu : s.usual) (h : (s.inWin i).feed = []) : exec (.iwLineWrite i) s = .next s := by
  refine (congrArg State.done (?_ : s.iwLineWrite i = s)).trans (State.done_of_usual hu)
  rw [State.iwLineWrite]
  dsimp only
  rw [h]

/-- The header of a line without a record and without a poisoned sample (Table 10-6). -/
def plainHeader (l : FeedLine) : List Byte :=
  bytesLE 4 l.line ++ bytesLE 4 0 ++ bytesLE 4 ((if l.rep then 2 ^ 26 else 0) + (if l.exc then 2 ^ 27 else 0)) ++ bytesLE 4 l.time

theorem length_plainHeader (l : FeedLine) : (plainHeader l).length = 16 := by
  simp only [plainHeader, List.length_append, bytesLE_length]

section
variable (hfeed : (s.inWin i).feed = l :: rest) (hon : s.iwOn i = true) (hpaired : s.paired i = [])
include hfeed hon hpaired

theorem State.iwLineWrite_room (hbad : l.bad = []) (herr : s.sys.bitErrs = []) (hpoison : s.sys.poison = [])
    (hdoc : s.docAt (s.fld (R.iwCfg i) F.iwCfg.TRK) l.g l.y = none) (hroom : (s.inWin i).ring.length < s.iwSlots i) {idx a : Nat}
    (hidx : idx = (s.reg (R.iwWr i)).toNat) (ha : a = teamBase (s.iwTeam i) + s.iwOffset i (idx % s.iwSlots i)) :
    ∃ u : State, u = { s with mem := u.mem, pack := { s.pack with ins := u.pack.ins } } ∧
      u.mem = (s.setBytes a (lineBytes (plainHeader l) (s.fld (R.iwGeom i) F.iwGeom.WIDTH) (fun p => l.vals.getD (s.fld (R.iwGeom i) F.iwGeom.X0 + p) 0))).mem ∧
      u.inWin i = { feed := rest, ring := (s.inWin i).ring ++ [{ idx := idx, src := l }] } ∧ (∀ k, k ≠ i.val → u.inWin k = s.inWin k) ∧
      s.iwLineWrite i = (u.setReg (R.iwWr i) (s.reg (R.iwWr i) + 1)).setReg (R.iwLast i) (BitVec.ofNat 32 l.line) := by
  rw [State.iwLineWrite]
  dsimp only
  rw [hfeed]
  dsimp only
  obtain ⟨s0, hs0⟩ : ∃ s0, s0 = s.setInWin i { feed := rest, ring := (s.inWin i).ring } := ⟨_, rfl⟩
  have hreg : s0.reg = s.reg := by rw [hs0]; rfl
  have hteam : s0.iwTeam i = s.iwTeam i := by rw [hs0]; rfl
  have hoffset : s0.iwOffset i = s.iwOffset i := by rw [hs0]; rfl
  have hslots : s0.iwSlots i = s.iwSlots i := by rw [hs0]; rfl
  have hdoc0 : s0.docAt (s.fld (R.iwCfg i) F.iwCfg.TRK) l.g l.y = none := by rw [hs0]; exact hdoc
  have herr0 : s0.sys.bitErrs = [] := by rw [hs0]; exact herr
  have hpoison0 : s0.sys.poison = [] := by rw [hs0]; exact hpoison
  have hwin : s0.inWin i = { feed := rest, ring := (s.inWin i).ring } := by
    rw [hs0]
    exact Table.get_set_same (fun _ => ({} : InWin)) s.pack.ins i.val _
  rw [← hs0, hon, if_neg (show ¬(!true) = true by decide), if_neg (not_le.mpr hroom)]
  rw [State.fld_congr hreg, hreg, hbad, List.filter_nil, List.foldl_nil, hdoc0, hteam, hoffset, hslots, ← hidx, ← ha, State.memWrite_of_clean herr0 hpoison0]
  have hbytes : bytesLE 4 l.line ++ bytesLE 4 0 ++ bytesLE 4 (0 + (if true = true then 0 else 2 ^ 25) + (if l.rep then 2 ^ 26 else 0) + (if l.exc then 2 ^ 27 else 0)) ++ bytesLE 4 l.time ++
      (List.range (s.fld (R.iwGeom i) F.iwGeom.WIDTH)).flatMap (fun p => bytesLE 2 (l.vals.getD (s.fld (R.iwGeom i) F.iwGeom.X0 + p) 0)) =
      lineBytes (plainHeader l) (s.fld (R.iwGeom i) F.iwGeom.WIDTH) (fun p => l.vals.getD (s.fld (R.iwGeom i) F.iwGeom.X0 + p) 0) := by
    rw [if_pos rfl, Nat.add_zero, Nat.zero_add]
    rfl
  rw [show ([] : List Nat).isEmpty = true from rfl]
  rw [hbytes]
  generalize lineBytes (plainHeader l) (s.fld (R.iwGeom i) F.iwGeom.WIDTH) (fun p => l.vals.getD (s.fld (R.iwGeom i) F.iwGeom.X0 + p) 0) = b
  have hins : (s0.setBytes a b).inWin i = { feed := rest, ring := (s.inWin i).ring } := by
    rw [s0.setBytes_state, ← hwin]
    rfl
  rw [hins]
  obtain ⟨u, hu⟩ : ∃ u, u = (s0.setBytes a b).setInWin i { feed := rest, ring := (s.inWin i).ring ++ [{ idx := idx, src := l }] } := ⟨_, rfl⟩
  have hstate : u = { s with mem := u.mem, pack := { s.pack with ins := u.pack.ins } } := by
    rw [hu, s0.setBytes_state, hs0]
    rfl
  have hureg : u.reg = s.reg := by
    funext x
    exact State.reg_of_regs _ _ (congrArg State.regs hstate :) x
  refine ⟨u, hstate, ?_, ?_, fun k hk => ?_, ?_⟩
  · rw [hu]
    exact State.mem_setBytes_congr (t := s0) (s := s) (by rw [hs0]; rfl) a b
  · rw [hu]
    exact Table.get_set_same (fun _ => ({} : InWin)) _ i.val _
  · have hpack : (s0.setBytes a b).pack = s0.pack := by rw [s0.setBytes_state]
    rw [hu]
    refine (Table.get_set_ne (fun _ => ({} : InWin)) _ i.val k _ hk).trans ?_
    rw [hpack, hs0]
    exact Table.get_set_ne (fun _ => ({} : InWin)) _ i.val k _ hk
  · dsimp only
    rw [← hu, hureg]
    refine State.owOwe_unpaired ((State.paired_congr (s := s) (fun j hj => ?_) i).trans hpaired) _ _ _
    rw [State.reg_setReg_ne _ _ _ _ (by simp only [R.owCfg, R.iwLast]; omega), State.reg_setReg_ne _ _ _ _ (by simp only [R.owCfg, R.iwWr]; omega), hureg]

theorem exec_iwLineWrite_puts (hu : s.usual) (hbad : l.bad = []) (herr : s.sys.bitErrs = []) (hpoison : s.sys.poison = [])
    (hdoc : s.docAt (s.fld (R.iwCfg i) F.iwCfg.TRK) l.g l.y = none) (hroom : (s.inWin i).ring.length < s.iwSlots i) {width idx a : Nat}
    (hwidth : width = s.fld (R.iwGeom i) F.iwGeom.WIDTH) (hidx : idx = (s.reg (R.iwWr i)).toNat)
    (ha : a = teamBase (s.iwTeam i) + s.iwOffset i (idx % s.iwSlots i)) :
    ∃ t, exec (.iwLineWrite i) s = .next t ∧ t = { s with regs := t.regs, mem := t.mem, pack := { s.pack with ins := t.pack.ins } } ∧
      t.bytes a 16 = plainHeader l ∧
      (∀ p, p < width → t.bytes (a + 16 + 2 * p) 2 = bytesLE 2 (l.vals.getD (s.fld (R.iwGeom i) F.iwGeom.X0 + p) 0)) ∧
      (∀ b, b < a ∨ a + 16 + 2 * width ≤ b → t.byte b = s.byte b) ∧
      t.inWin i = { feed := rest, ring := (s.inWin i).ring ++ [{ idx := idx, src := l }] } ∧ (∀ k, k ≠ i.val → t.inWin k = s.inWin k) ∧
      t.reg (R.iwWr i) = s.reg (R.iwWr i) + 1 ∧ t.reg (R.iwLast i) = BitVec.ofNat 32 l.line ∧
      (∀ off, off ∉ [R.iwWr i, R.iwLast i] → t.reg off = s.reg off) := by
  obtain ⟨u, hstate, hmem, hwin, hothers, hwrite⟩ := State.iwLineWrite_room hfeed hon hpaired hbad herr hpoison hdoc hroom hidx ha
  rw [← hwidth] at hmem
  have hexec : exec (.iwLineWrite i) s = State.done (s.iwLineWrite i) := rfl
  rw [hwrite] at hexec
  have hbyte : ∀ x, ((u.setReg (R.iwWr i) (s.reg (R.iwWr i) + 1)).setReg (R.iwLast i) (BitVec.ofNat 32 l.line)).byte x =
      (s.setBytes a (lineBytes (plainHeader l) width (fun p => l.vals.getD (s.fld (R.iwGeom i) F.iwGeom.X0 + p) 0))).byte x := fun x => State.byte_of_mem (s := s.setBytes a _) hmem x
  obtain ⟨hhead, hsamples⟩ := bytes_lineBytes (length_plainHeader l) (width := width) (val := fun p => l.vals.getD (s.fld (R.iwGeom i) F.iwGeom.X0 + p) 0) s a
  have hlen := length_lineBytes (length_plainHeader l) (width := width) (val := fun p => l.vals.getD (s.fld (R.iwGeom i) F.iwGeom.X0 + p) 0)
  have hreg : s.regsBut ((u.setReg (R.iwWr i) (s.reg (R.iwWr i) + 1)).setReg (R.iwLast i) (BitVec.ofNat 32 l.line)) [R.iwWr i, R.iwLast i] :=
    ((State.regsBut_of_regs _ (congrArg State.regs hstate :)).setReg _ (by simp)).setReg _ (by simp)
  refine ⟨_, hexec.trans (State.done_of_endsAlike hu ?_ hreg (endIgnores_window ?_)), ?_, (State.bytes_congr fun j _ => hbyte _).trans hhead,
    fun p hp => (State.bytes_congr fun j _ => hbyte _).trans (hsamples p hp), fun x hx => (hbyte x).trans (State.byte_setBytes_out _ _ _ _ (by omega)), hwin, hothers, ?_,
    State.reg_setReg_same _ _ _, hreg⟩
  · rw [hstate]
    exact ⟨rfl, rfl, rfl, rfl, rfl, rfl, rfl⟩
  · simp only [List.mem_cons, List.not_mem_nil, or_false, forall_eq_or_imp, forall_eq, R.iwWr, R.iwLast]
    omega
  · generalize u.mem = m, u.pack.ins = y at hstate
    rw [hstate]
    rfl
  · rw [State.reg_setReg_ne _ _ _ _ (by simp only [R.iwWr, R.iwLast]; omega), State.reg_setReg_same]

theorem exec_iwLineWrite_drops (hu : s.usual) (hfull : s.iwSlots i ≤ (s.inWin i).ring.length) :
    ∃ t, exec (.iwLineWrite i) s = .next t ∧ (t.inWin i).feed = rest ∧ (t.inWin i).ring = (s.inWin i).ring ∧ t.mem = s.mem ∧
      t.reg (R.iwDropCnt i) = satInc (s.reg (R.iwDropCnt i)) := by
  obtain ⟨s0, hs0⟩ : ∃ s0, s0 = s.setInWin i { feed := rest, ring := (s.inWin i).ring } := ⟨_, rfl⟩
  have hregs : s0.regs = s.regs := by rw [hs0]; rfl
  have hwin : s0.inWin i = { feed := rest, ring := (s.inWin i).ring } := by
    rw [hs0]
    exact Table.get_set_same (fun _ => ({} : InWin)) s.pack.ins i.val _
  obtain ⟨v, hv⟩ : ∃ v, v = (s0.count (R.iwDropCnt i)).listLine l.g l.y 0x10 i (s0.planeBit (s0.fld (R.iwCfg i) F.iwCfg.PLANE)) := ⟨_, rfl⟩
  have hlist : (s0.count (R.iwDropCnt i)).Only Frame.listed v unlistedRegs := hv ▸ State.listLineAs_only _ none l.g l.y 0x10 i _
  have hdrop : R.iwDropCnt i ∉ unlistedRegs := fun hm => by
    have := (unlistedRegs_range _ hm).2
    simp only [R.iwDropCnt] at this
    omega
  have hbut : s.regsBut v (R.iwDropCnt i :: unlistedRegs) :=
    ((State.regsBut_of_regs _ hregs).setReg _ (by simp)).trans (hlist.reg.mono (List.subset_cons_self _ _))
  have hcfg : ∀ j, j < 32 → v.reg (R.owCfg j) = s.reg (R.owCfg j) := fun j hj => hbut _ fun hm => by
    obtain hm | hm := List.mem_cons.mp hm
    · simp only [R.owCfg, R.iwDropCnt] at hm
      omega
    · have := (unlistedRegs_range _ hm).2
      simp only [R.owCfg] at this
      omega
  have hwrite : s.iwLineWrite i = v := by
    rw [State.iwLineWrite]
    dsimp only
    rw [hfeed]
    dsimp only
    rw [← hs0, hon, if_neg (show ¬(!true) = true by decide), if_pos (show s.iwSlots i ≤ _ from hfull), ← hv]
    exact State.owOwe_unpaired ((State.paired_congr hcfg i).trans hpaired) _ _ _
  have hexec : exec (.iwLineWrite i) s = State.done v := congrArg State.done hwrite
  have hpack : v.pack = s0.pack := (congrArg State.pack hlist.state :)
  have hmem : v.mem = s.mem := (congrArg State.mem hlist.state :).trans (by rw [hs0]; rfl)
  have hends : s.EndsAlike v := State.EndsAlike.trans (t := s0.count (R.iwDropCnt i)) (by rw [hs0]; exact ⟨rfl, rfl, rfl, rfl, rfl, rfl, rfl⟩) hlist.endsAlike
  have hvwin : v.inWin i = { feed := rest, ring := (s.inWin i).ring } := by rw [State.inWin, hpack]; exact hwin
  refine ⟨v, hexec.trans (State.done_of_endsAlike hu hends hbut (endIgnores_of fun o ho => ?_)), by rw [hvwin], by rw [hvwin], hmem, ?_⟩
  · obtain rfl | ho := List.mem_cons.mp ho
    · simp only [R.iwDropCnt]
      omega
    · have := unlistedRegs_range o ho
      omega
  · rw [hlist.reg _ hdrop, State.reg_count, if_pos rfl, State.reg_of_regs _ _ hregs]

end

end

end Sys2Proof.Machine

/-!
The next line of an output window is delivered (R337, R340).
-/
namespace Sys2Proof.Machine

section
variable {s : State} {j : Fin 32}

/-- A line of a plane without users goes nowhere. -/
theorem State.planeDelivered_unused {t : State} (hstreams : t.streams = []) {n : Nat} (hreg : ∀ i, i < 32 → t.reg (R.iwCfg i) = s.reg (R.iwCfg i))
    (hwin : ∀ i, i < 32 → s.iwOn i = true → s.fld (R.iwCfg i) F.iwCfg.PLANE ≠ n) (l : FeedLine) : t.planeDelivered n l = t := by
  rw [State.planeDelivered, State.feedStreams, State.openStreams_none hstreams, List.foldl_nil, State.feedWindows, State.forEach]
  refine List.foldlRecOn (motive := fun v => v = t) (List.range 32) _ rfl fun v hv i hi => ?_
  rw [hv]
  dsimp only
  refine if_neg ?_
  rw [Bool.and_eq_true, beq_iff_eq]
  have hi' := List.mem_range.mp hi
  have hfld : ∀ f, t.fld (R.iwCfg i) f = s.fld (R.iwCfg i) f := fun f => State.fld_of_reg (hreg i hi') f
  rw [State.iwOn, State.bit, hfld, hfld]
  exact fun ⟨h1, h2⟩ => hwin i hi' h1 h2

theorem exec_owLineDeliver_waits (hu : s.usual) (hqueue : (s.outWin j).queue = [] ∨ ∃ l rest, (s.outWin j).queue = l :: rest ∧ (l.st = .waiting ∨ l.st = .allocated))
    (hon : s.owOn j = true) (hmsg : s.owMsg j = false) : exec (.owLineDeliver j) s = .next s := by
  refine (congrArg State.done (?_ : s.owLineDeliver j = s)).trans (State.done_of_usual hu)
  rw [State.owLineDeliver]
  dsimp only
  rw [hon, hmsg]
  refine (if_neg (by decide)).trans ?_
  obtain hqueue | ⟨l, rest, hqueue, hst⟩ := hqueue
  · rw [hqueue]
  · rw [hqueue]
    exact if_pos hst

section
variable {l : OutLineSt} {rest : List OutLineSt} (hu : s.usual) (hon : s.owOn j = true) (hmsg : s.owMsg j = false) (hqueue : (s.outWin j).queue = l :: rest)
  (hstreams : s.streams = []) (hwin : ∀ i, i < 32 → s.iwOn i = true → s.fld (R.iwCfg i) F.iwCfg.PLANE ≠ 64 + j)
include hon hmsg hqueue hstreams hwin

theorem State.owLineDeliver_committed (herr : s.sys.bitErrs = []) (hpoison : s.sys.poison = []) (hst : l.st = .committed) {a : Nat}
    (ha : a = teamBase (s.owTeam j) + s.owOffset j l.slot + 16) :
    s.owLineDeliver j = (s.setOutWin j { s.outWin j with
      queue := rest, prevBad := [], prev := (List.range (s.fld (R.owGeom j) F.owGeom.WIDTH)).map (fun p => natLE (s.bytes (a + 2 * p) 2)) }).setReg (R.owDlv j)
        (s.reg (R.owDlv j) + 1) := by
  rw [State.owLineDeliver]
  dsimp only
  rw [hon, hmsg, if_neg (show ¬(!true || false) = true by decide), hqueue]
  dsimp only
  rw [hst, if_neg (by decide)]
  have hpois : ∀ x, s.poisoned x = false := fun x => by rw [State.poisoned, hpoison]; rfl
  simp only [decide_true, if_true, State.memRead_of_clean herr hpoison, State.openStreams_none hstreams, List.filter_nil, List.isEmpty_nil, Bool.not_true, Bool.and_false,
    Bool.false_eq_true, if_false, reduceCtorEq, or_false, ← ha, hpois, List.filter_false]
  have hdlv : ∀ x : OutWin, (s.setOutWin j x).reg (R.owDlv j) = s.reg (R.owDlv j) := fun _ => rfl
  rw [hdlv, State.planeDelivered_unused (s := s) (hwin := hwin)]
  · exact hstreams
  · exact fun i hi => (State.reg_setReg_ne _ _ _ _ (by simp only [R.iwCfg, R.owDlv]; omega)).trans rfl

theorem State.owLineDeliver_dropped (hst : l.st = .dropped) : ∃ x : OutWin, x.queue = rest ∧
    s.owLineDeliver j = ((((s.setOutWin j x).setReg (R.owDlv j) (s.reg (R.owDlv j) + 1)).setFld (R.owStat j) F.owStat.REPEAT 1).count (R.owSkipCnt j)) := by
  have hdlv : ∀ x : OutWin, (s.setOutWin j x).reg (R.owDlv j) = s.reg (R.owDlv j) := fun _ => rfl
  rw [State.owLineDeliver]
  dsimp only
  rw [hon, hmsg, if_neg (show ¬(!true || false) = true by decide), hqueue]
  dsimp only
  rw [hst, if_neg (by decide)]
  simp only [reduceCtorEq, decide_false, Bool.false_eq_true, if_false, Bool.false_and, or_false]
  rw [hdlv, State.planeDelivered_unused (s := s) (hwin := hwin)]
  · exact ⟨_, rfl, rfl⟩
  · exact hstreams
  · intro i hi
    rw [State.reg_count, if_neg (by simp only [R.iwCfg, R.owSkipCnt]; omega), State.reg_setFld_ne _ _ _ _ _ (by simp only [R.iwCfg, R.owStat]; omega),
      State.reg_setReg_ne _ _ _ _ (by simp only [R.iwCfg, R.owDlv]; omega)]
    rfl

include hu

theorem exec_owLineDeliver_commits (herr : s.sys.bitErrs = []) (hpoison : s.sys.poison = []) (hst : l.st = .committed) {a : Nat}
    (ha : a = teamBase (s.owTeam j) + s.owOffset j l.slot + 16) :
    ∃ t, exec (.owLineDeliver j) s = .next t ∧ t = { s with regs := t.regs, pack := { s.pack with outs := t.pack.outs } } ∧
      t.outWin j = { s.outWin j with queue := rest, prevBad := [],
                                     prev := (List.range (s.fld (R.owGeom j) F.owGeom.WIDTH)).map (fun p => natLE (s.bytes (a + 2 * p) 2)) } ∧
      (∀ k, k ≠ j.val → t.outWin k = s.outWin k) ∧ t.reg (R.owDlv j) = s.reg (R.owDlv j) + 1 ∧ (∀ off, off ≠ R.owDlv j → t.reg off = s.reg off) := by
  have hexec : exec (.owLineDeliver j) s = State.done (s.owLineDeliver j) := rfl
  rw [State.owLineDeliver_committed hon hmsg hqueue hstreams hwin herr hpoison hst ha] at hexec
  generalize hx : ({ s.outWin j with queue := rest, prevBad := [], prev := (List.range (s.fld (R.owGeom j) F.owGeom.WIDTH)).map (fun p => natLE (s.bytes (a + 2 * p) 2)) }
    : OutWin) = x at hexec ⊢
  have hreg : s.regsBut ((s.setOutWin j x).setReg (R.owDlv j) (s.reg (R.owDlv j) + 1)) [R.owDlv j] := (State.regsBut_of_regs _ rfl).setReg _ (by simp)
  refine ⟨_, hexec.trans (State.done_of_endsAlike hu ⟨rfl, rfl, rfl, rfl, rfl, rfl, rfl⟩ hreg ((endIgnores_owCfg j).mono (by simp))), rfl,
    Table.get_set_same (fun _ => ({} : OutWin)) s.pack.outs j.val x, fun k hk => Table.get_set_ne (fun _ => ({} : OutWin)) s.pack.outs j.val k x hk,
    State.reg_setReg_same _ _ _, fun o ho => hreg o (by simpa using ho)⟩

theorem exec_owLineDeliver_drops (hst : l.st = .dropped) :
    ∃ t, exec (.owLineDeliver j) s = .next t ∧ (t.outWin j).queue = rest ∧ t.mem = s.mem ∧ t.reg (R.owDlv j) = s.reg (R.owDlv j) + 1 ∧
      t.fld (R.owStat j) F.owStat.REPEAT = 1 ∧ t.reg (R.owSkipCnt j) = satInc (s.reg (R.owSkipCnt j)) ∧
      (∀ off, off ∉ [R.owDlv j, R.owStat j, R.owSkipCnt j] → t.reg off = s.reg off) := by
  have hexec : exec (.owLineDeliver j) s = State.done (s.owLineDeliver j) := rfl
  obtain ⟨x, hqueue', hdeliver⟩ := State.owLineDeliver_dropped hon hmsg hqueue hstreams hwin hst
  rw [hdeliver] at hexec
  have hds : R.owDlv j ≠ R.owStat j ∧ R.owDlv j ≠ R.owSkipCnt j ∧ R.owStat j ≠ R.owSkipCnt j := by
    simp only [R.owDlv, R.owStat, R.owSkipCnt]
    omega
  obtain ⟨h1, h2, h3⟩ := hds
  have hreg : s.regsBut ((((s.setOutWin j x).setReg (R.owDlv j) (s.reg (R.owDlv j) + 1)).setFld (R.owStat j) F.owStat.REPEAT 1).count (R.owSkipCnt j))
      [R.owDlv j, R.owStat j, R.owSkipCnt j] := (((State.regsBut_of_regs _ rfl).setReg _ (by simp)).setFld _ _ (by simp)).setReg _ (by simp)
  refine ⟨_, hexec.trans (State.done_of_endsAlike hu ⟨rfl, rfl, rfl, rfl, rfl, rfl, rfl⟩ hreg (endIgnores_window ?_)), ?_, rfl, ?_, ?_, ?_, hreg⟩
  · simp only [List.mem_cons, List.not_mem_nil, or_false, forall_eq_or_imp, forall_eq, R.owDlv, R.owStat, R.owSkipCnt]
    omega
  · exact (congrArg OutWin.queue (Table.get_set_same (fun _ => ({} : OutWin)) s.pack.outs j.val x)).trans hqueue'
  · rw [State.reg_count, if_neg h2, State.reg_setFld_ne _ _ _ _ _ h1, State.reg_setReg_same]
  · rw [State.fld, State.reg_count, if_neg h3, ← State.fld, State.fld_setFld _ _ _ _ (by decide)]
    rfl
  · rw [State.reg_count, if_pos rfl, State.reg_setFld_ne _ _ _ _ _ h3.symm, State.reg_setReg_ne _ _ _ _ h2.symm]
    rfl

end

end

end Sys2Proof.Machine

/-!
Mailboxes, catchers and semaphores (R349-R351).
-/
namespace Sys2Proof.Machine

/-! ## The end of a command that changes En_STAT -/

/-- A command ends with its effect where E0 runs after it as before. -/
theorem State.usual_of_e0Runs {s t : State} {l : List Nat} (hu : s.usual) (h : s.EndsAlike t) (hruns : t.e0Runs = s.e0Runs) (hr : s.regsBut t l)
    (hl : ∀ o ∈ [R.hltStat, R.sysClkStat, R.sysBootStat], o ∉ l) : t.usual := by
  have hreg : ∀ o ∈ [R.hltStat, R.sysClkStat, R.sysBootStat], t.reg o = s.reg o := fun o ho => hr o (hl o ho)
  obtain ⟨⟨hwork, hrel, hsec⟩, hsettled⟩ := hu
  refine ⟨⟨h.work.trans hwork, h.releases.trans hrel, ?_⟩,
    State.settled_of s t hsettled h.work h.rails h.porst h.resetting (hreg _ (by simp)) (hreg _ (by simp)) (hreg _ (by simp))⟩
  rw [h.sec, hruns, h.inbox]
  exact hsec

/-- STATE of E0 stays where it is. -/
theorem State.e0Runs_of_state {s t : State} (h : t.engState 0 = s.engState 0) : t.e0Runs = s.e0Runs := by
  rw [State.e0Runs, h]
  rfl

/-- The registers of the engines and of their teams. -/
theorem engineRegs_apart {l : List Nat} (h : ∀ o ∈ l, 0x24000 ≤ o ∧ o < 0x28000) : ∀ o ∈ [R.hltStat, R.sysClkStat, R.sysBootStat], o ∉ l := fun o ho hm => by
  have hb := h o hm
  simp only [R.hltStat, R.sysClkStat, R.sysBootStat, List.mem_cons, List.not_mem_nil, or_false] at ho
  omega

/-- A register of one bit's field. -/
theorem Fld.get_oneBit (n : Nat) (w : Word) : (Fld.mk n 1).get w = (w.getLsbD n).toNat := by
  rw [Fld.get, BitVec.extractLsb'_toNat, Nat.shiftRight_eq_div_pow, Nat.pow_one, BitVec.getLsbD, Nat.toNat_testBit]

/-! ## The counts of catchers -/

section
variable {n : Fin 96} {c : Fin 4} (v : State) {x : Nat}

theorem State.catcher_setCatcher (hx : x < 256) : (v.setCatcher n c x).catcher n c = x := by
  rw [State.catcher, State.setCatcher, State.fld_setFld _ _ _ _ (show 8 * c.val + 8 ≤ 32 by omega)]
  exact Nat.mod_eq_of_lt hx

theorem State.catcher_setCatcher_ne {d : Nat} (hd : d < 4) (hdc : d ≠ c.val) : (v.setCatcher n c x).catcher n d = v.catcher n d := by
  refine State.fld_setFld_apart _ _ _ _ _ (show 8 * c.val + 8 ≤ 32 by omega) (show 8 * d + 8 ≤ 32 by omega) ?_
  show 8 * d + 8 ≤ 8 * c.val ∨ 8 * c.val + 8 ≤ 8 * d
  omega

theorem State.catcher_congr {s t : State} {m : Nat} (h : t.reg (R.engEccnt m) = s.reg (R.engEccnt m)) (d : Nat) : t.catcher m d = s.catcher m d := State.fld_of_reg h _

end

/-- A field of En_STAT besides STATE leaves E0's STATE. -/
theorem State.engState_setFld (v : State) {n : Nat} {f : Fld} {x : Nat} (hf : f.lo + f.width ≤ 32) (h3 : 3 ≤ f.lo) (m : Nat) :
    (v.setFld (R.engStat n) f x).engState m = v.engState m := by
  by_cases hm : R.engStat m = R.engStat n
  · rw [State.engState, hm, State.fld_setFld_apart (g := F.engStat.STATE) _ _ _ _ hf (by decide) (.inl h3), State.engState, hm]
  · exact State.fld_setFld_ne _ _ _ _ _ _ hm

section
variable {s : State} {path : Path} {w : Word} (hu : s.usual)
include hu

/-! ## Inboxes -/

section
variable {n : Fin 96} (hacc : s.accessible path (R.engInbox n) = true)
include hacc

theorem exec_engineInboxWrite_puts (h0 : n.val ≠ 0) (hroom : (s.eng n).inbox.length < 16) :
    ∃ t, exec (.engineInboxWrite path n w) s = .next t ∧ t = { s with regs := t.regs, pack := { s.pack with engines := t.pack.engines } } ∧
      t.eng n = { s.eng n with inbox := (s.eng n).inbox ++ [(w, claimantOf path)] } ∧ (∀ m, m ≠ n.val → t.eng m = s.eng m) ∧
      t.fld (R.engMbx n) F.engMbx.IN_CNT = (s.eng n).inbox.length + 1 ∧ (∀ off, off ≠ R.engMbx n → t.reg off = s.reg off) := by
  have hexec : exec (.engineInboxWrite path n w) s = State.done (s.inboxPut n w (claimantOf path)) :=
    congrArg State.done ((State.onWrite_of _ _ _ _ hacc).trans (if_pos (decide_eq_true (by omega))))
  obtain ⟨-, -, hothers, hreg, hcnt⟩ := s.inboxPut_spec n (claimantOf path) w
  have hown : (s.inboxPut n w (claimantOf path)).eng n = { s.eng n with inbox := (s.eng n).inbox ++ [(w, claimantOf path)] } :=
    Table.get_set_same (fun _ => ({} : Engine)) s.pack.engines n.val _
  have hmbx : endIgnores [R.engMbx n] := endIgnores_of fun o ho => by
    rw [List.mem_singleton.mp ho, R.engMbx]
    omega
  refine ⟨_, hexec.trans (State.done_of_endsAlike hu ⟨rfl, rfl, rfl, by rw [hothers 0 (Ne.symm h0)], rfl, rfl, rfl⟩ hreg hmbx), rfl, hown, hothers, ?_, fun o ho => hreg o (by simpa using ho)⟩
  rw [hcnt]
  exact Nat.mod_eq_of_lt (by omega)

theorem exec_engineInboxWrite_full (hfull : 16 ≤ (s.eng n).inbox.length) :
    ∃ t, exec (.engineInboxWrite path n w) s = .next t ∧ s.sameBut t [R.engStat n] ∧ t.fld (R.engStat n) F.engStat.IN_OVF = 1 := by
  have hexec : exec (.engineInboxWrite path n w) s = State.done (s.setFld (R.engStat n) F.engStat.IN_OVF 1) :=
    congrArg State.done ((State.onWrite_of _ _ _ _ hacc).trans (if_neg (show ¬decide _ = true by rw [decide_eq_true_iff]; omega)))
  have hsame : s.sameBut (s.setFld (R.engStat n) F.engStat.IN_OVF 1) [R.engStat n] := (State.sameBut_refl s _).setFld _ _ (by simp)
  have hstate : (s.setFld (R.engStat n) F.engStat.IN_OVF 1).engState 0 = s.engState 0 := State.engState_setFld s (by decide) (by decide) 0
  refine ⟨_, hexec.trans (State.done_of_usual (State.usual_of_e0Runs hu hsame.endsAlike (State.e0Runs_of_state hstate) hsame.regsBut (engineRegs_apart ?_))), hsame, ?_⟩
  · simp only [List.mem_singleton, forall_eq, R.engStat]
    omega
  · rw [State.fld_setFld _ _ _ _ (by decide)]
    rfl

end

/-! ## Catchers -/

section
variable {n : Fin 96} {c : Fin 4}

theorem exec_catcherPulse_off (h : s.selOn (R.engEcsel n c) = false) : exec (.catcherPulse n c) s = .next s := by
  refine (congrArg State.done (?_ : s.catcherPulse n c = s)).trans (State.done_of_usual hu)
  rw [State.catcherPulse, h]
  exact if_pos rfl

theorem exec_catcherPulse_counts (h : s.selOn (R.engEcsel n c) = true) :
    ∃ t, exec (.catcherPulse n c) s = .next t ∧ s.sameBut t [R.engEccnt n, R.engStat n] ∧ t.catcher n c = min 255 (s.catcher n c + 1) ∧
      (∀ d, d < 4 → d ≠ c.val → t.catcher n d = s.catcher n d) ∧ (254 ≤ s.catcher n c → t.fld (R.engStat n) F.engStat.EC_OVF = 1) ∧
      (s.catcher n c < 254 → t.reg (R.engStat n) = s.reg (R.engStat n)) := by
  obtain ⟨v, hv⟩ : ∃ v, v = min 255 (s.catcher n c + 1) := ⟨_, rfl⟩
  have hpulse : s.catcherPulse n c = if v = 255 then (s.setCatcher n c v).setFld (R.engStat n) F.engStat.EC_OVF 1 else s.setCatcher n c v := by
    rw [State.catcherPulse, h, hv]
    exact if_neg (by decide)
  have hexec : exec (.catcherPulse n c) s = State.done (s.catcherPulse n c) := rfl
  have hapart : R.engEccnt n ≠ R.engStat n ∧ R.engStat 0 ≠ R.engEccnt n := by
    simp only [R.engEccnt, R.engStat]
    omega
  obtain ⟨hne, h0⟩ := hapart
  have hset : s.sameBut (s.setCatcher n c v) [R.engEccnt n, R.engStat n] := (State.sameBut_refl s _).setFld _ _ (by simp)
  have hset0 : (s.setCatcher n c v).engState 0 = s.engState 0 := State.fld_setFld_ne _ _ _ _ _ _ h0
  have hstat : (s.setCatcher n c v).reg (R.engStat n) = s.reg (R.engStat n) := State.reg_setFld_ne _ _ _ _ _ hne.symm
  have hcount : (s.setCatcher n c v).catcher n c = v := State.catcher_setCatcher s (by omega)
  have hothers : ∀ d, d < 4 → d ≠ c.val → (s.setCatcher n c v).catcher n d = s.catcher n d := fun d hd hdc => State.catcher_setCatcher_ne s hd hdc
  have hlist : ∀ o ∈ [R.hltStat, R.sysClkStat, R.sysBootStat], o ∉ [R.engEccnt n, R.engStat n] := engineRegs_apart (by
    simp only [List.mem_cons, List.not_mem_nil, or_false, forall_eq_or_imp, forall_eq, R.engEccnt, R.engStat]
    omega)
  have hends : ∀ t, s.sameBut t [R.engEccnt n, R.engStat n] → t.engState 0 = s.engState 0 → State.done t = .next t := fun t ht ht0 =>
    State.done_of_usual (State.usual_of_e0Runs hu ht.endsAlike (State.e0Runs_of_state ht0) ht.regsBut hlist)
  rw [hpulse] at hexec
  generalize s.setCatcher n c v = u at *
  by_cases hv255 : v = 255
  · rw [if_pos hv255] at hexec
    have hsame := hset.setFld (o := R.engStat n) F.engStat.EC_OVF 1 (by simp)
    have hkeep : ∀ d, (u.setFld (R.engStat n) F.engStat.EC_OVF 1).catcher n d = u.catcher n d := fun d => State.catcher_congr (State.reg_setFld_ne _ _ _ _ _ hne) d
    refine ⟨_, hexec.trans (hends _ hsame ((State.engState_setFld u (by decide) (by decide) 0).trans hset0)), hsame, (hkeep _).trans (hcount.trans hv),
      fun d hd hdc => (hkeep d).trans (hothers d hd hdc), fun _ => ?_, fun hlt => by omega⟩
    rw [State.fld_setFld _ _ _ _ (by decide)]
    rfl
  · rw [if_neg hv255] at hexec
    exact ⟨u, hexec.trans (hends u hset hset0), hset, hcount.trans hv, hothers, fun hge => by omega, fun _ => hstat⟩

theorem exec_catcherSelectWrite (hacc : s.accessible path (R.engEcsel n c) = true) :
    ∃ t, exec (.catcherSelectWrite path n c w) s = .next t ∧ s.sameBut t [R.engEcsel n c, R.engEccnt n] ∧
      t.reg (R.engEcsel n c) = w &&& 0x800000FF ∧ t.catcher n c = 0 ∧ (∀ d, d < 4 → d ≠ c.val → t.catcher n d = s.catcher n d) := by
  have hexec : exec (.catcherSelectWrite path n c w) s = State.done ((s.setReg (R.engEcsel n c) (w &&& 0x800000FF)).setCatcher n c 0) :=
    congrArg State.done (State.onWrite_of _ _ _ _ hacc)
  have hne : R.engEcsel n c ≠ R.engEccnt n := by
    simp only [R.engEcsel, R.engEccnt]
    omega
  have hsame : s.sameBut ((s.setReg (R.engEcsel n c) (w &&& 0x800000FF)).setCatcher n c 0) [R.engEcsel n c, R.engEccnt n] :=
    ((State.sameBut_refl s _).setReg _ (by simp)).setFld _ _ (by simp)
  refine ⟨_, hexec.trans (State.done_of_regs hu hsame (endIgnores_of ?_)), hsame, (State.reg_setFld_ne _ _ _ _ _ hne).trans (State.reg_setReg_same _ _ _),
    State.catcher_setCatcher _ (by decide), fun d hd hdc => (State.catcher_setCatcher_ne _ hd hdc).trans (State.catcher_congr (State.reg_setReg_ne _ _ _ _ hne.symm) d)⟩
  simp only [List.mem_cons, List.not_mem_nil, or_false, forall_eq_or_imp, forall_eq, R.engEcsel, R.engEccnt]
  omega

end

/-! ## Semaphores -/

omit hu in
theorem slotIn2_below {base stride n stride2 n2 off : Nat} (h : off < base) : slotIn2 base stride n stride2 n2 off = none := if_neg (by omega)

omit hu in
theorem rowOf_packTsem (i : Fin 192) : Reg.rowOf (R.packTsem i) = some Row.packTsem := by
  revert i
  decide +kernel

theorem exec_semaphoreHostWrite {t0 : Fin 12} {k : Fin 16} (hacc : s.accessible path (R.packTsem (16 * t0 + k)) = true) {sem : Nat} (hsem : sem = R.packTsem (16 * t0 + k)) :
    ∃ t, exec (.semaphoreHostWrite path t0 k w) s = .next t ∧ s.sameBut t [sem] ∧ t.fld sem F.packTsem.COUNT = w.toNat % 65536 ∧
      t.fld sem F.packTsem.OVF = (if w.getLsbD 16 then 0 else s.fld sem F.packTsem.OVF) := by
  have hexec : exec (.semaphoreHostWrite path t0 k w) s = State.done (s.writePack path sem w) := by
    rw [hsem]
    exact congrArg State.done (State.onWrite_of _ _ _ _ hacc)
  have hrow : Reg.rowOf sem = some Row.packTsem := by
    rw [hsem]
    exact rowOf_packTsem ⟨16 * t0 + k, by omega⟩
  have hrange : 0x24400 ≤ sem ∧ sem < 0x24700 := by
    rw [hsem, R.packTsem]
    omega
  have hwrite : s.writePack path sem w = s.writeRow path sem Row.packTsem w false := by
    rw [State.writePack, slotIn2_below (base := R.iwCfg 0) (by rw [R.iwCfg]; omega), slotIn2_below (base := R.owCfg 0) (by rw [R.owCfg]; omega),
      slotIn2_below (base := R.engCtl 0) (by rw [R.engCtl]; omega)]
    refine (if_neg (by rw [R.packMwin]; omega)).trans ?_
    exact s.plainWrite_of_row path w false hrow
  have hsame : s.sameBut (s.writeRow path sem Row.packTsem w false) [sem] := s.writeRow_sameBut _ _ _ _
  rw [hwrite] at hexec
  refine ⟨_, hexec.trans (State.done_of_regs hu hsame (endIgnores_window ?_)), hsame, ?_, ?_⟩
  · simp only [List.mem_singleton, forall_eq]
    omega
  · rw [State.fld_writeRow_of_takes _ _ _ _ (by decide) (by decide), Fld.get, BitVec.extractLsb'_toNat]
    rfl
  · rw [State.fld, State.reg_writeRow, if_pos rfl, Fld.get_oneBit, RegRow.written_bit (i := 16) (hi := by decide), State.fld, Fld.get_oneBit]
    have htakes : Row.packTsem.takes.getLsbD 16 = false := by decide
    have hclear : (BitVec.ofNat 32 Row.packTsem.w1c).getLsbD 16 = true := by decide
    rw [htakes, hclear, Bool.and_true, if_neg Bool.false_ne_true]
    cases w.getLsbD 16
    · rw [Bool.not_false, Bool.and_true]
      rfl
    · rw [Bool.not_true, Bool.and_false]
      rfl

end

end Sys2Proof.Machine

/-!
A waiting instruction looks at its condition again (R353).
-/
namespace Sys2Proof.Machine

/-! ## Words of SYS instructions -/

section
variable {x : Word} {fn k : Nat} (hx : x.toNat = fn * 2 ^ 20 + k) (hfn : fn < 64) (hk : k < 2 ^ 15)
include hx hfn hk

/-- The fields of a SYS word with r = 0. -/
theorem sysFields : opcodeOf x = 0 ∧ fFn x = fn ∧ fR x = 0 ∧ fI15 x = k := by
  simp only [opcodeOf, fFn, fR, fI15, bitsOf, Nat.shiftRight_eq_div_pow, hx]
  omega

/-- A SYS word without operands whose immediate fits its function. -/
theorem engSys_plain {n : Nat} {s : State} {m : Nat} (hm : k < 2 ^ m) (f : State → EngRes) : engSys n x s false false (2 ^ m - 1) f = f s := by
  obtain ⟨-, -, hr, hi⟩ := sysFields hx hfn hk
  have hok : sysOk x false (2 ^ m - 1) = true := by
    rw [sysOk, hr, hi, Nat.and_two_pow_sub_one_eq_mod, Nat.mod_eq_of_lt hm, beq_self_eq_true, beq_self_eq_true]
    rfl
  rw [engSys, hok]
  rfl

end

/-! ## What an instruction's end leaves -/

section
variable {s : State} {n : Fin 96}

theorem State.setEng_same_eng (u : State) (m : Nat) (e : Engine) : (u.setEng m e).eng m = e := Table.get_set_same (fun _ => ({} : Engine)) u.pack.engines m e

theorem State.setEng_other_eng (u : State) (m : Nat) (e : Engine) {j : Nat} (h : j ≠ m) : (u.setEng m e).eng j = u.eng j :=
  Table.get_set_ne (fun _ => ({} : Engine)) u.pack.engines m j e h

/-- The engine goes on at the next instruction. -/
def State.engGoes (u : State) (n pc : Nat) : State :=
  (((u.setEng n (u.eng n)).setFld (R.engStat n) F.engStat.STATE 2).setFld (R.engStat n) F.engStat.WAIT 0).setFld (R.engStat n) F.engStat.PC pc

theorem State.engSettle_next {u : State} {pc : Nat} (hpc : pc < 4095) (hloop : (u.eng n).loop = none) (hstep : (u.eng n).step = false) :
    s.engSettle n pc (engNext u pc) = u.engGoes n (pc + 1) := by
  have heng : ({ u.eng n with loop := none } : Engine) = u.eng n := by rw [← hloop]
  have hset : ((u.setEng n (u.eng n)).eng n).step = false := by rw [State.setEng_same_eng, hstep]
  rw [engNext, State.engSettle]
  dsimp only
  rw [hloop, loopNext]
  dsimp only
  rw [if_neg (by omega), heng, hset]
  exact if_neg Bool.false_ne_true

theorem engStat_ne {m : Nat} (h : m ≠ n.val) : R.engStat m ≠ R.engStat n := by
  simp only [R.engStat]
  omega

/-- An instruction that has completed. -/
theorem State.engGoes_acts (hu : s.usual) {u : State} {offs : List Nat} (honly : s.regsOnly u offs) (hrange : ∀ o ∈ offs, 0x24000 ≤ o ∧ o < 0x28000)
    (hoffs : ∀ m, m < 96 → R.engStat m ∉ offs) (hwait : s.engState n = 3) (hpc : s.engPc n < 4095) :
    State.done (u.engGoes n (s.engPc n + 1)) = .next (u.engGoes n (s.engPc n + 1)) ∧ EngineActs s (u.engGoes n (s.engPc n + 1)) n (s.eng n) offs ∧
      ∀ o, o ≠ R.engStat n → (u.engGoes n (s.engPc n + 1)).reg o = u.reg o := by
  obtain ⟨w, hw⟩ : ∃ w, w = u.setEng n (u.eng n) := ⟨_, rfl⟩
  have hstate : u = { s with regs := u.regs } := honly.1
  have hueng : ∀ m, u.eng m = s.eng m := fun m => by rw [hstate]; rfl
  have hweng : ∀ m, w.eng m = s.eng m := fun m => by
    rw [hw]
    by_cases hm : m = n.val
    · rw [hm, State.setEng_same_eng, hueng]
    · rw [State.setEng_other_eng _ _ _ hm, hueng]
  have hwreg : ∀ o, w.reg o = u.reg o := fun o => State.reg_of_regs _ _ (by rw [hw]; rfl) o
  have hgoes : u.engGoes n (s.engPc n + 1) = ((w.setFld (R.engStat n) F.engStat.STATE 2).setFld (R.engStat n) F.engStat.WAIT 0).setFld (R.engStat n) F.engStat.PC (s.engPc n + 1) := by
    rw [hw]
    rfl
  have hwgoes : w.regsOnly (u.engGoes n (s.engPc n + 1)) [R.engStat n] := by
    rw [hgoes]
    exact (((State.regsOnly.refl w _).setFld _ _ (by simp)).setFld _ _ (by simp)).setFld _ _ (by simp)
  have hst : (u.engGoes n (s.engPc n + 1)).engState n = 2 := by
    rw [hgoes, State.engState, State.fld_setFld_apart _ _ _ _ _ (by decide) (by decide) (by decide), State.fld_setFld_apart _ _ _ _ _ (by decide) (by decide) (by decide),
      State.fld_setFld _ _ _ _ (by decide)]
    rfl
  have hpcs : (u.engGoes n (s.engPc n + 1)).engPc n = s.engPc n + 1 := by
    rw [hgoes, State.engPc, State.fld_setFld _ _ _ _ (by decide)]
    exact Nat.mod_eq_of_lt (show s.engPc n + 1 < 4096 by omega)
  generalize u.engGoes n (s.engPc n + 1) = t at *
  have hreg : ∀ o, o ≠ R.engStat n → t.reg o = u.reg o := fun o ho => (hwgoes.2 o (by simpa using ho)).trans (hwreg o)
  have hbut : s.regsBut t (R.engStat n :: offs) := fun o ho => by
    rw [List.mem_cons, not_or] at ho
    exact (hreg o ho.1).trans (honly.2 o ho.2)
  have hteng : ∀ m, t.eng m = s.eng m := fun m => by
    rw [hwgoes.1]
    exact hweng m
  have hwhole : t = { s with regs := t.regs, pack := { s.pack with engines := t.pack.engines, ins := t.pack.ins, outs := t.pack.outs } } := by
    have h1 := hwgoes.1
    generalize t.regs = rt at h1 ⊢
    generalize u.regs = ru at hstate
    rw [h1, hw, hstate]
    rfl
  have hruns : t.e0Runs = s.e0Runs := by
    by_cases h0 : n.val = 0
    · have ht0 : t.engState 0 = 2 := by rw [← h0, hst]
      have hs0 : s.engState 0 = 3 := by rw [← h0, hwait]
      rw [State.e0Runs, State.e0Runs, ht0, hs0]
      rfl
    · refine State.e0Runs_of_state (State.fld_of_reg ((hreg _ (engStat_ne (n := n) (Ne.symm h0))).trans (honly.2 _ (hoffs 0 (by decide)))) _)
  have hends : s.EndsAlike t := ⟨by rw [hwhole], by rw [hwhole], by rw [hwhole], by rw [hteng], by rw [hwhole], by rw [hwhole], by rw [hwhole]⟩
  refine ⟨State.done_of_usual (State.usual_of_e0Runs hu hends hruns hbut (engineRegs_apart fun o ho => ?_)),
    ⟨hwhole, hteng n, fun m _ => hteng m, hst, hpcs, hbut⟩, hreg⟩
  obtain rfl | ho := List.mem_cons.mp ho
  · simp only [R.engStat]
    omega
  · exact hrange o ho

/-- An instruction that waits on. -/
theorem exec_waits_on (hu : s.usual) (hwait : s.engState n = 3) {code : Nat} (hcode : code < 16)
    (hres : engAgain n (s.word (engineInstr n + 4 * s.engPc n)) s = .wait s code) : EngineWaits (.engineWaitComplete n) s n code := by
  have hexec : exec (.engineWaitComplete n) s = State.done (s.engSettle n (s.engPc n) (engAgain n (s.word (engineInstr n + 4 * s.engPc n)) s)) :=
    congrArg State.done (if_neg (not_not.mpr hwait))
  rw [hres, State.engSettle] at hexec
  have hsame : s.sameBut ((s.setFld (R.engStat n) F.engStat.STATE 3).setFld (R.engStat n) F.engStat.WAIT code) [R.engStat n] :=
    ((State.sameBut_refl s _).setFld _ _ (by simp)).setFld _ _ (by simp)
  have hst : ((s.setFld (R.engStat n) F.engStat.STATE 3).setFld (R.engStat n) F.engStat.WAIT code).engState n = 3 := by
    rw [State.engState_setFld _ (by decide) (by decide), State.engState, State.fld_setFld _ _ _ _ (by decide)]
    rfl
  have hst0 : ((s.setFld (R.engStat n) F.engStat.STATE 3).setFld (R.engStat n) F.engStat.WAIT code).engState 0 = s.engState 0 := by
    by_cases h0 : n.val = 0
    · rw [← h0, hst, hwait]
    · exact State.fld_of_reg (hsame.regsBut _ (by simpa using engStat_ne (n := n) (Ne.symm h0))) _
  refine ⟨_, hexec.trans (State.done_of_usual (State.usual_of_e0Runs hu hsame.endsAlike (State.e0Runs_of_state hst0) hsame.regsBut (engineRegs_apart ?_))), hsame, hst, ?_, ?_⟩
  · simp only [List.mem_singleton, forall_eq, R.engStat]
    omega
  · rw [State.fld_setFld _ _ _ _ (by decide)]
    exact Nat.mod_eq_of_lt hcode
  · rw [State.engPc, State.fld_setFld_apart _ _ _ _ _ (by decide) (by decide) (by decide), State.fld_setFld_apart _ _ _ _ _ (by decide) (by decide) (by decide), State.engPc]

end

/-! ## The three waits -/

section
variable {s : State} {n : Fin 96} {x : Word}

theorem engAgain_evwait {c : Nat} (hx : x.toNat = 0x05 * 2 ^ 20 + c) (hc : c < 4) :
    engAgain n x s = if s.catcher n c = 0 then .wait s 1 else engNext (s.setCatcher n c (s.catcher n c - 1)) (s.engPc n) := by
  obtain ⟨ho, hf, -, hi⟩ := sysFields hx (by decide) (by omega)
  rw [engAgain, ho, hf]
  refine (if_neg (not_not.mpr rfl)).trans ((engSys_plain hx (by decide) (by omega) (m := 2) hc _).trans ?_)
  dsimp only
  rw [hi]

theorem engAgain_semp {k : Nat} (hx : x.toNat = 0x06 * 2 ^ 20 + k) (hk : k < 16) :
    engAgain n x s = if s.sem n k = 0 then .wait s 2 else engNext (s.setFld (semReg n k) F.packTsem.COUNT (s.sem n k - 1)) (s.engPc n) := by
  obtain ⟨ho, hf, -, hi⟩ := sysFields hx (by decide) (by omega)
  rw [engAgain, ho, hf]
  refine (if_neg (not_not.mpr rfl)).trans ((engSys_plain hx (by decide) (by omega) (m := 4) hk _).trans ?_)
  dsimp only
  rw [hi]

theorem engAgain_fence (hx : x.toNat = 0x02 * 2 ^ 20) (hfar : (s.eng n).far = []) : engAgain n x s = engNext s (s.engPc n) := by
  have hx' : x.toNat = 0x02 * 2 ^ 20 + 0 := hx
  obtain ⟨ho, hf, -, -⟩ := sysFields hx' (by decide) (by decide)
  rw [engAgain, ho, hf]
  refine (if_neg (not_not.mpr rfl)).trans ((engSys_plain hx' (by decide) (by decide) (m := 0) (by decide) _).trans ?_)
  rw [hfar]
  rfl

theorem exec_engineWaitComplete_idle (hu : s.usual) (h : s.engState n ≠ 3) : exec (.engineWaitComplete n) s = .next s :=
  (congrArg State.done (if_pos h)).trans (State.done_of_usual hu)

section
variable (hu : s.usual) (hwait : s.engState n = 3) (hword : s.word (engineInstr n + 4 * s.engPc n) = x)
include hu hwait hword

section
variable (hpc : s.engPc n < 4095) (hloop : (s.eng n).loop = none) (hstep : (s.eng n).step = false)
include hpc hloop hstep

/-- An instruction whose condition holds completes. -/
theorem exec_completes {u : State} {offs : List Nat} (hres : engAgain n x s = engNext u (s.engPc n)) (honly : s.regsOnly u offs)
    (hrange : ∀ o ∈ offs, 0x24000 ≤ o ∧ o < 0x28000) (hoffs : ∀ m, m < 96 → R.engStat m ∉ offs) :
    ∃ t, exec (.engineWaitComplete n) s = .next t ∧ EngineActs s t n (s.eng n) offs ∧ ∀ o, o ≠ R.engStat n → t.reg o = u.reg o := by
  have hexec : exec (.engineWaitComplete n) s = State.done (s.engSettle n (s.engPc n) (engAgain n (s.word (engineInstr n + 4 * s.engPc n)) s)) :=
    congrArg State.done (if_neg (not_not.mpr hwait))
  have heng : u.eng n = s.eng n := by rw [honly.1]; rfl
  rw [hword, hres, State.engSettle_next hpc (by rw [heng]; exact hloop) (by rw [heng]; exact hstep)] at hexec
  obtain ⟨hdone, hacts, hreg⟩ := State.engGoes_acts hu honly hrange hoffs hwait hpc
  exact ⟨_, hexec.trans hdone, hacts, hreg⟩

theorem exec_evwait {c : Nat} (hx : x.toNat = 0x05 * 2 ^ 20 + c) (hc : c < 4) :
    (0 < s.catcher n c → ∃ t, exec (.engineWaitComplete n) s = .next t ∧ EngineActs s t n (s.eng n) [R.engEccnt n] ∧ t.catcher n c = s.catcher n c - 1) ∧
      (s.catcher n c = 0 → EngineWaits (.engineWaitComplete n) s n 1) := by
  have hres := engAgain_evwait (s := s) (n := n) hx hc
  refine ⟨fun hpos => ?_, fun h0 => exec_waits_on hu hwait (by decide) (by rw [hword, hres, if_pos h0])⟩
  rw [if_neg (by omega)] at hres
  have hlt : s.catcher n c < 256 := State.fld_lt _ _ _
  have hne : R.engEccnt n ≠ R.engStat n := by simp only [R.engEccnt, R.engStat]; omega
  obtain ⟨t, hexec, hacts, hreg⟩ := exec_completes hu hwait hword hpc hloop hstep hres ((State.regsOnly.refl s [R.engEccnt n]).setFld _ _ (by simp))
    (by simp only [List.mem_singleton, forall_eq, R.engEccnt]; omega) (fun m _ => by simp only [List.mem_singleton, R.engStat, R.engEccnt]; omega)
  refine ⟨t, hexec, hacts, (State.catcher_congr (hreg _ hne) c).trans ?_⟩
  exact State.catcher_setCatcher (c := ⟨c, hc⟩) s (by omega)

theorem exec_semp {k : Nat} (hx : x.toNat = 0x06 * 2 ^ 20 + k) (hk : k < 16) :
    (0 < s.sem n k → ∃ t, exec (.engineWaitComplete n) s = .next t ∧ EngineActs s t n (s.eng n) [semReg n k] ∧ t.fld (semReg n k) F.packTsem.COUNT = s.sem n k - 1) ∧
      (s.sem n k = 0 → EngineWaits (.engineWaitComplete n) s n 2) := by
  have hres := engAgain_semp (s := s) (n := n) hx hk
  refine ⟨fun hpos => ?_, fun h0 => exec_waits_on hu hwait (by decide) (by rw [hword, hres, if_pos h0])⟩
  rw [if_neg (by omega)] at hres
  have hlt : s.sem n k < 65536 := State.fld_lt _ _ _
  have hsem : 0x24400 ≤ semReg n k ∧ semReg n k < 0x24700 := by
    simp only [semReg, R.packTsem]
    omega
  have hstat : ∀ m, m < 96 → R.engStat m ≠ semReg n k := fun m _ => by
    simp only [R.engStat]
    omega
  obtain ⟨t, hexec, hacts, hreg⟩ := exec_completes hu hwait hword hpc hloop hstep hres ((State.regsOnly.refl s [semReg n k]).setFld _ _ (by simp))
    (by simp only [List.mem_singleton, forall_eq]; omega) (fun m hm => by rw [List.mem_singleton]; exact hstat m hm)
  refine ⟨t, hexec, hacts, (State.fld_of_reg (hreg _ (hstat n n.isLt).symm) _).trans ?_⟩
  rw [State.fld_setFld _ _ _ _ (by decide)]
  exact Nat.mod_eq_of_lt (show s.sem n k - 1 < 65536 by omega)

theorem exec_fence (hx : x.toNat = 0x02 * 2 ^ 20) (hfar : (s.eng n).far = []) :
    ∃ t, exec (.engineWaitComplete n) s = .next t ∧ EngineActs s t n (s.eng n) [] := by
  obtain ⟨t, hexec, hacts, -⟩ := exec_completes hu hwait hword hpc hloop hstep (engAgain_fence hx hfar) (.refl s []) (fun o ho => absurd ho List.not_mem_nil)
    (fun _ _ => List.not_mem_nil)
  exact ⟨t, hexec, hacts⟩

end

end

end

end Sys2Proof.Machine

/-!
Images of engines: what is placed, armed or wiped (R359), and the statement on windows, mailboxes and images.
-/
namespace Sys2Proof.Machine

/-! ## Placing an image -/

section
variable (s : State) (n : Nat) {h : List Byte} (rest : List Byte) (hlen : h.length = 128)

theorem State.imageValid_congr {s t : State} (h : t.hlt = s.hlt) (im : List Byte) : t.imageValid im = s.imageValid im := by
  have hbytes : ∀ a m, t.otpBytes a m = s.otpBytes a m := fun a m => List.map_congr_left fun i _ => congrArg (fun v : Hlt => Table.get (fun _ => 0) v.otp (a + i)) h
  have hkey : ∀ slot, t.keyHash slot = s.keyHash slot := fun slot => by rw [State.keyHash, hbytes, State.keyHash]
  rw [State.imageValid, State.signedOk, hkey, State.imageValid, State.signedOk]

/-- The code of an image. -/
def imageCode (h rest : List Byte) : List Byte := rest.take (4 * imgWords h)

/-- The data of an image. -/
def imageData (h rest : List Byte) : List Byte := (rest.drop (4 * imgWords h)).take (imgDataLen h)

include hlen in
theorem State.engPlace_image : s.engPlace n (h ++ rest) =
    (s.setBytes (engineInstr n) (imageCode h rest)).setBytes (engineData n + imgDataOfs h) (imageData h rest) := by
  have htake : (h ++ rest).take 128 = h := List.take_left' hlen
  have hdrop : (h ++ rest).drop 128 = rest := List.drop_left' hlen
  rw [State.engPlace, htake, hdrop, ← List.drop_drop, hdrop]
  rfl

theorem imageCode_length_le : (imageCode h rest).length ≤ 4 * imgWords h := List.length_take_le _ _

theorem imageData_length_le : (imageData h rest).length ≤ imgDataLen h := List.length_take_le _ _

include hlen in
theorem State.engPlace_state : s.engPlace n (h ++ rest) = { s with mem := (s.engPlace n (h ++ rest)).mem } := by
  rw [s.engPlace_image n rest hlen, State.setBytes_state, s.setBytes_state]

include hlen in
/-- An image is placed in its engine's memory and nowhere else. -/
theorem State.byte_engPlace_out (hwords : imgWords h ≤ 4096) (hdata : imgDataOfs h + imgDataLen h ≤ 65536) {a : Nat}
    (ha : a < engineData n ∨ engineData n + 0x14000 ≤ a) : (s.engPlace n (h ++ rest)).byte a = s.byte a := by
  have hcode := (imageCode_length_le (h := h) rest).trans (Nat.mul_le_mul_left 4 hwords)
  have hlast := (Nat.add_le_add_left (imageData_length_le (h := h) rest) _).trans hdata
  have hinstr : engineInstr n = engineData n + 0x10000 := rfl
  have hd : a < engineData n + imgDataOfs h ∨ engineData n + imgDataOfs h + (imageData h rest).length ≤ a := by
    clear hcode hdata hwords
    generalize imgDataOfs h = o, (imageData h rest).length = k, engineData n = d at *
    omega
  have hc : a < engineInstr n ∨ engineInstr n + (imageCode h rest).length ≤ a := by
    clear hlast hdata hwords hd
    rw [hinstr]
    generalize (imageCode h rest).length = k, engineData n = d at *
    omega
  rw [s.engPlace_image n rest hlen, State.byte_setBytes_out _ _ _ _ hd, State.byte_setBytes_out _ _ _ _ hc]

include hlen in
/-- The code of an image stands in its engine's instruction memory. -/
theorem State.bytes_engPlace_code (hdata : imgDataOfs h + imgDataLen h ≤ 65536) (hrest : 4 * imgWords h ≤ rest.length) :
    (s.engPlace n (h ++ rest)).bytes (engineInstr n) (4 * imgWords h) = rest.take (4 * imgWords h) := by
  have hlast := imageData_length_le (h := h) rest
  have hcode : (imageCode h rest).length = 4 * imgWords h := List.length_take_of_le hrest
  rw [s.engPlace_image n rest hlen, State.bytes_congr (s := s.setBytes (engineInstr n) (imageCode h rest)) fun i _ =>
    State.byte_setBytes_out _ _ _ _ (by rw [engineInstr, engineData]; omega), ← hcode]
  exact (s.bytes_setBytes _ _).trans (by rw [hcode, imageCode])

end

/-- What the header of an image that is accepted says (R359). -/
theorem imageValid_header {s : State} {h rest : List Byte} (hlen : h.length = 128) (hv : s.imageValid (h ++ rest) = true) :
    imgEntry h < 4096 ∧ imgKind h ≤ 2 ∧ imgKeySlot h ≤ 1 ∧ imgWords h ≤ 4096 ∧ imgDataOfs h + imgDataLen h ≤ 65536 ∧ 4 * imgWords h ≤ rest.length := by
  have htake : (h ++ rest).take 128 = h := List.take_left' hlen
  rw [State.imageValid, htake] at hv
  obtain ⟨⟨hheader, htotal⟩, -⟩ := (by simpa only [Bool.and_eq_true, decide_eq_true_eq] using hv :
    (imgHeaderOk h = true ∧ (h ++ rest).length = imgTotal h) ∧ _)
  simp only [imgHeaderOk, Bool.and_eq_true, decide_eq_true_eq] at hheader
  obtain ⟨⟨⟨⟨⟨-, hkind, hkey, hentry⟩, -, hwords, -, -⟩, -, -, hdata⟩, hsum⟩, -⟩ := hheader
  rw [List.length_append, hlen] at htotal
  exact ⟨hentry, by omega, hkey, hwords, hdata, by omega⟩

/-! ## Arming and wiping an engine -/

section
variable (s : State) {n : Nat} {h : List Byte}

/-- An accepted image arms its engine: its registers say which image it has, and STATE stays. -/
theorem State.engArm_spec (hentry : imgEntry h < 4096) (hkind : imgKind h ≤ 2) (hkey : imgKeySlot h ≤ 1) :
    s.regsOnly (s.engArm n h) [R.engStat n, R.engStart n, R.engImg n, R.engVer n] ∧ (s.engArm n h).fld (R.engStart n) F.engStart.PC = imgEntry h ∧
      (s.engArm n h).reg (R.engImg n) = BitVec.ofNat 32 (imgId h) ∧ (s.engArm n h).reg (R.engVer n) = BitVec.ofNat 32 (imgVersion h) ∧
      (s.engArm n h).fld (R.engStat n) F.engStat.IMG = 1 ∧ (s.engArm n h).fld (R.engStat n) F.engStat.KIND = imgKind h ∧
      (s.engArm n h).fld (R.engStat n) F.engStat.KEY = imgKeySlot h ∧ (s.engArm n h).engState n = s.engState n := by
  have hdef : s.engArm n h = (((((s.setFld (R.engStart n) F.engStart.PC (imgEntry h)).setReg (R.engImg n) (BitVec.ofNat 32 (imgId h))).setReg (R.engVer n)
    (BitVec.ofNat 32 (imgVersion h))).setFld (R.engStat n) F.engStat.IMG 1).setFld (R.engStat n) F.engStat.KIND (imgKind h)).setFld (R.engStat n)
    F.engStat.KEY (imgKeySlot h) := rfl
  have hne : R.engStart n ≠ R.engImg n ∧ R.engStart n ≠ R.engVer n ∧ R.engImg n ≠ R.engVer n ∧ R.engStart n ≠ R.engStat n ∧ R.engImg n ≠ R.engStat n ∧
      R.engVer n ≠ R.engStat n := by
    simp only [R.engStart, R.engImg, R.engVer, R.engStat]
    omega
  obtain ⟨hsi, hsv, hiv, hss, his, hvs⟩ := hne
  have hstart := s.fld_setFld (R.engStart n) F.engStart.PC (imgEntry h) (by decide)
  have hsame1 := (State.regsOnly.refl s [R.engStat n, R.engStart n, R.engImg n, R.engVer n]).setFld (o := R.engStart n) F.engStart.PC (imgEntry h) (by simp)
  have hstat1 : (s.setFld (R.engStart n) F.engStart.PC (imgEntry h)).reg (R.engStat n) = s.reg (R.engStat n) := State.reg_setFld_ne _ _ _ _ _ hss.symm
  rw [Nat.mod_eq_of_lt (show imgEntry h < 2 ^ F.engStart.PC.width by exact hentry)] at hstart
  rw [hdef]
  generalize s.setFld (R.engStart n) F.engStart.PC (imgEntry h) = s1 at *
  have hsame2 := (hsame1.setReg (o := R.engImg n) (BitVec.ofNat 32 (imgId h)) (by simp)).setReg (o := R.engVer n) (BitVec.ofNat 32 (imgVersion h)) (by simp)
  have himg : ((s1.setReg (R.engImg n) (BitVec.ofNat 32 (imgId h))).setReg (R.engVer n) (BitVec.ofNat 32 (imgVersion h))).reg (R.engImg n) =
      BitVec.ofNat 32 (imgId h) := (State.reg_setReg_ne _ _ _ _ hiv).trans (State.reg_setReg_same _ _ _)
  have hver := State.reg_setReg_same (s1.setReg (R.engImg n) (BitVec.ofNat 32 (imgId h))) (R.engVer n) (BitVec.ofNat 32 (imgVersion h))
  have hpc := ((State.fld_setReg_ne (s1.setReg (R.engImg n) (BitVec.ofNat 32 (imgId h))) (R.engVer n) (BitVec.ofNat 32 (imgVersion h)) _ F.engStart.PC hsv).trans
    (State.fld_setReg_ne _ _ _ _ _ hsi)).trans hstart
  have hstat2 : ((s1.setReg (R.engImg n) (BitVec.ofNat 32 (imgId h))).setReg (R.engVer n) (BitVec.ofNat 32 (imgVersion h))).reg (R.engStat n) =
      s.reg (R.engStat n) := ((State.reg_setReg_ne _ _ _ _ hvs.symm).trans (State.reg_setReg_ne _ _ _ _ his.symm)).trans hstat1
  generalize (s1.setReg (R.engImg n) (BitVec.ofNat 32 (imgId h))).setReg (R.engVer n) (BitVec.ofNat 32 (imgVersion h)) = s2 at *
  have hapart : ∀ {o : Nat}, o ≠ R.engStat n → (((s2.setFld (R.engStat n) F.engStat.IMG 1).setFld (R.engStat n) F.engStat.KIND (imgKind h)).setFld (R.engStat n)
      F.engStat.KEY (imgKeySlot h)).reg o = s2.reg o := fun ho => by
    rw [State.reg_setFld_ne _ _ _ _ _ ho, State.reg_setFld_ne _ _ _ _ _ ho, State.reg_setFld_ne _ _ _ _ _ ho]
  refine ⟨((hsame2.setFld _ _ (by simp)).setFld _ _ (by simp)).setFld _ _ (by simp), (State.fld_of_reg (hapart hss) _).trans hpc, (hapart his).trans himg,
    (hapart hvs).trans hver, ?_, ?_, ?_, ?_⟩
  · rw [State.fld_setFld_apart _ _ _ _ _ (by decide) (by decide) (by decide), State.fld_setFld_apart _ _ _ _ _ (by decide) (by decide) (by decide),
      State.fld_setFld _ _ _ _ (by decide)]
    rfl
  · rw [State.fld_setFld_apart _ _ _ _ _ (by decide) (by decide) (by decide), State.fld_setFld _ _ _ _ (by decide)]
    exact Nat.mod_eq_of_lt (show imgKind h < 4 by omega)
  · rw [State.fld_setFld _ _ _ _ (by decide)]
    exact Nat.mod_eq_of_lt (show imgKeySlot h < 2 by omega)
  · rw [State.engState_setFld _ (by decide) (by decide), State.engState_setFld _ (by decide) (by decide), State.engState_setFld _ (by decide) (by decide)]
    exact State.fld_of_reg hstat2 _

theorem State.engWipe_spec (n : Nat) :
    s.regsBut (s.engWipe n) [R.engStat n] ∧ (s.engWipe n).fld (R.engStat n) F.engStat.IMG = 0 ∧ (s.engWipe n).engState n = s.engState n ∧
      ∀ a, (s.engWipe n).byte a = if engineData n ≤ a ∧ a < engineData n + 0x14000 then 0 else s.byte a :=
  ⟨fun o ho => State.reg_setFld_ne _ _ _ _ _ (by simpa using ho), State.fld_setFld (s.zeroFill (engineData n) 0x14000) _ _ _ (by decide),
    State.engState_setFld (s.zeroFill (engineData n) 0x14000) (by decide) (by decide) n, s.byte_zeroFill _ _⟩

end

/-! ## The end of a load -/

section
variable {s : State} (rest : List Byte) (hu : s.usual)
include hu

theorem exec_imageLoadComplete_none (h : s.pack.loads = []) : exec (.imageLoadComplete rest) s = .next s := by
  refine (congrArg State.done (?_ : s.imageDone rest = s)).trans (State.done_of_usual hu)
  rw [State.imageDone, State.imageArrived, h]

section
variable {n : Fin 96} {h : List Byte} (h0 : n.val ≠ 0) (hload : s.pack.loads = [{ cmd := none, targets := [n.val], header := h }]) (hlen : h.length = 128)

/-- The state with no load in progress. -/
def State.noLoads (s : State) : State := { s with pack := { s.pack with loads := [] } }

omit hu in
include h0 hload hlen in
theorem State.imageDone_single : s.imageDone rest =
    if s.imageValid (h ++ rest) = true then (s.noLoads.engPlace n (h ++ rest)).engArm n h else (s.noLoads.engPlace n (h ++ rest)).engWipe n := by
  have hvalid : (s.noLoads.engPlace n (h ++ rest)).imageValid (h ++ rest) = s.imageValid (h ++ rest) :=
    State.imageValid_congr (by rw [s.noLoads.engPlace_state n rest hlen]; rfl) _
  have htargets : [n.val].contains 0 = false := by
    simpa using Ne.symm h0
  rw [State.imageDone, State.imageArrived, hload, ← hvalid]
  simp only [List.foldl_cons, List.foldl_nil, htargets, Bool.false_eq_true, false_and, and_false, if_false]
  rfl

include h0 hload hlen in
theorem exec_imageLoadComplete_arms (hst : s.engState n = 1) (hv : s.imageValid (h ++ rest) = true) :
    ∃ t, exec (.imageLoadComplete rest) s = .next t ∧ t = { s with regs := t.regs, mem := t.mem, pack := { s.pack with loads := [] } } ∧
      t.bytes (engineInstr n) (4 * imgWords h) = rest.take (4 * imgWords h) ∧
      t.fld (R.engStart n) F.engStart.PC = imgEntry h ∧ t.reg (R.engImg n) = BitVec.ofNat 32 (imgId h) ∧
      t.reg (R.engVer n) = BitVec.ofNat 32 (imgVersion h) ∧ t.fld (R.engStat n) F.engStat.IMG = 1 ∧
      t.fld (R.engStat n) F.engStat.KIND = imgKind h ∧ t.fld (R.engStat n) F.engStat.KEY = imgKeySlot h ∧ t.engState n = 1 ∧
      (∀ a, a < engineData n ∨ engineData n + 0x14000 ≤ a → t.byte a = s.byte a) ∧
      (∀ off, off ∉ [R.engStat n, R.engStart n, R.engImg n, R.engVer n] → t.reg off = s.reg off) := by
  obtain ⟨hentry, hkind, hkey, hwords, hdata, hrest⟩ := imageValid_header hlen hv
  have hexec : exec (.imageLoadComplete rest) s = State.done ((s.noLoads.engPlace n (h ++ rest)).engArm n h) :=
    congrArg State.done ((State.imageDone_single rest h0 hload hlen).trans (if_pos hv))
  have hplaced := s.noLoads.engPlace_state n rest hlen
  have hout := fun a ha => s.noLoads.byte_engPlace_out n rest hlen hwords hdata (a := a) ha
  have hcode := s.noLoads.bytes_engPlace_code n rest hlen hdata hrest
  generalize s.noLoads.engPlace n (h ++ rest) = u at *
  have hreg : ∀ o, u.reg o = s.reg o := fun o => by rw [hplaced]; rfl
  obtain ⟨hsame, hpc, himg, hver, hstat, hk, hslot, hstate⟩ := u.engArm_spec (n := n) hentry hkind hkey
  have hmem : (u.engArm n h).mem = u.mem := by rw [hsame.1]
  have hall : u.engArm n h = { u with regs := (u.engArm n h).regs } := hsame.1
  generalize u.engArm n h = t at *
  have ht : t = { s with regs := t.regs, mem := t.mem, pack := { s.pack with loads := [] } } := by
    rw [hall, hplaced]
    rfl
  have hregs : s.regsBut t [R.engStat n, R.engStart n, R.engImg n, R.engVer n] := fun o ho => (hsame.2 o ho).trans (hreg o)
  have hlist : endIgnores [R.engStat n, R.engStart n, R.engImg n, R.engVer n] := endIgnores_of fun o ho => by
    simp only [List.mem_cons, List.not_mem_nil, or_false, R.engStat, R.engStart, R.engImg, R.engVer] at ho
    omega
  exact ⟨t, hexec.trans (State.done_of_endsAlike hu (by rw [ht]; exact ⟨rfl, rfl, rfl, rfl, rfl, rfl, rfl⟩) hregs hlist), ht,
    (State.bytes_congr fun i _ => State.byte_of_mem hmem _).trans hcode, hpc, himg, hver, hstat, hk, hslot,
    (hstate.trans (State.fld_of_reg (hreg _) _)).trans hst, fun a ha => (State.byte_of_mem hmem a).trans (hout a ha), hregs⟩

include h0 hload hlen in
theorem exec_imageLoadComplete_wipes (hst : s.engState n = 1) (hv : s.imageValid (h ++ rest) = false) (hwords : imgWords h ≤ 4096)
    (hdata : imgDataOfs h + imgDataLen h ≤ 65536) :
    ∃ t, exec (.imageLoadComplete rest) s = .next t ∧ (∀ a, engineData n ≤ a → a < engineData n + 0x14000 → t.byte a = 0) ∧
      (∀ a, a < engineData n ∨ engineData n + 0x14000 ≤ a → t.byte a = s.byte a) ∧ t.fld (R.engStat n) F.engStat.IMG = 0 ∧
      t.engState n = 1 ∧ (∀ off, off ≠ R.engStat n → t.reg off = s.reg off) := by
  have hexec : exec (.imageLoadComplete rest) s = State.done ((s.noLoads.engPlace n (h ++ rest)).engWipe n) :=
    congrArg State.done ((State.imageDone_single rest h0 hload hlen).trans (if_neg (by rw [hv]; decide)))
  have hplaced := s.noLoads.engPlace_state n rest hlen
  have hout := fun a ha => s.noLoads.byte_engPlace_out n rest hlen hwords hdata (a := a) ha
  generalize s.noLoads.engPlace n (h ++ rest) = u at *
  have hreg : ∀ o, u.reg o = s.reg o := fun o => by rw [hplaced]; rfl
  have hends : s.EndsAlike (u.engWipe n) := by
    rw [hplaced]
    exact ⟨rfl, rfl, rfl, rfl, rfl, rfl, rfl⟩
  obtain ⟨hregs, himg, hstate, hbyte⟩ := u.engWipe_spec n
  generalize u.engWipe n = t at *
  have hregs' : s.regsBut t [R.engStat n] := fun o ho => (hregs o ho).trans (hreg o)
  have hlist : endIgnores [R.engStat n] := endIgnores_of fun o ho => by
    rw [List.mem_singleton.mp ho, R.engStat]
    omega
  refine ⟨t, hexec.trans (State.done_of_endsAlike hu hends hregs' hlist), fun a hlo hhi => (hbyte a).trans (if_pos ⟨hlo, hhi⟩), fun a ha => ?_, himg,
    (hstate.trans (State.fld_of_reg (hreg _) _)).trans hst, fun o ho => hregs' o (by simpa using ho)⟩
  rw [hbyte, if_neg (by omega)]
  exact hout a ha

end
end

/-- Settles O49: windows, lines in and out of them, mailboxes, catchers, semaphores, waiting instructions and images, a lemma per command. -/
theorem windowsMailboxesAndImages : Obligations.WindowsMailboxesAndImages := by
  intro s path w hu
  refine ⟨fun i hacc => ⟨fun hoff => ?_, fun hon hkeep => ⟨exec_iwDisable_free hu hacc hon hkeep, exec_iwDisable_paired hu hacc hon hkeep⟩⟩,
    fun j hacc hoff => ?_, fun i => ⟨exec_iwLineWrite_none hu, ?_⟩, fun j hon hmsg => ⟨fun h => exec_owLineDeliver_waits hu (.inl h) hon hmsg, ?_⟩,
    fun n => ⟨fun hacc => ⟨exec_engineInboxWrite_puts hu hacc, exec_engineInboxWrite_full hu hacc⟩,
      fun c => ⟨exec_catcherPulse_off hu, exec_catcherPulse_counts hu, exec_catcherSelectWrite hu⟩⟩,
    fun t0 k hacc => exec_semaphoreHostWrite hu hacc rfl,
    fun n x hwait hword hpc hloop hstep hbits hpoison => ⟨?_, ?_, ?_⟩,
    fun n h => exec_engineWaitComplete_idle hu h, fun rest h => exec_imageLoadComplete_none rest hu h,
    fun n h rest h0 hst hload hlen _ _ => ⟨exec_imageLoadComplete_arms rest hu h0 hload hlen hst, exec_imageLoadComplete_wipes rest hu h0 hload hlen hst⟩⟩
  · intro s1
    exact ⟨exec_iwEnable_accepted hu hacc hoff, exec_iwEnable_refused hu hacc hoff rfl⟩
  · intro s1
    exact ⟨exec_owEnable_accepted hu hacc hoff, exec_owEnable_refused hu hacc hoff rfl⟩
  · intro l rest hfeed hon hpaired hbad hbits hpoison hdoc width idx a
    exact ⟨fun hroom => exec_iwLineWrite_puts hfeed hon hpaired hu hbad hbits hpoison hdoc hroom rfl rfl rfl,
      fun hfull _ _ => exec_iwLineWrite_drops hfeed hon hpaired hu hfull⟩
  · intro l rest hqueue hbits hpoison hstreams hwin
    refine ⟨fun hst => exec_owLineDeliver_waits hu (.inr ⟨l, rest, hqueue, hst⟩) hon hmsg, fun hst => ?_,
      exec_owLineDeliver_drops hu hon hmsg hqueue hstreams hwin⟩
    intro a
    exact exec_owLineDeliver_commits hu hon hmsg hqueue hstreams hwin hbits hpoison hst rfl
  · exact fun c hc hx => exec_evwait hu hwait hword hpc hloop hstep hx hc
  · exact fun k hk hx => exec_semp hu hwait hword hpc hloop hstep hx hk
  · exact exec_fence hu hwait hword hpc hloop hstep

end Sys2Proof.Machine
